-- ==== Sys2Proof/Word.lean ====
section
/-! DEFINITION. The bit-vector types of the machine's words (R7: bit 0 is the least significant bit). -/

namespace Sys2Proof

/-- One byte. -/
abbrev Byte := BitVec 8
/-- A 16-bit word. -/
abbrev W16 := BitVec 16
/-- A 32-bit word. -/
abbrev W32 := BitVec 32
/-- A 64-bit word. -/
abbrev W64 := BitVec 64
/-- A beat stamp: frame in bits 63..32, line in bits 31..16, tick in bits 15..0 (00_scope, Beat stamps). -/
abbrev Stamp := BitVec 64

/-- Panel number p = PY × 8 + PX (01_wafer_map). -/
abbrev PanelId := Fin 64
/-- Hem segment number (R43). -/
abbrev SegId := Fin 16
/-- Network port number (R281). -/
abbrev PortId := Fin 8
/-- Session slot number (R78). -/
abbrev SlotId := Fin 4096
/-- Job number (R196). -/
abbrev JobId := Fin 1024
/-- ORA connection number (R255). -/
abbrev ConnId := Fin 65536
/-- Tag counter number (R269). -/
abbrev CtrId := Fin 8192
/-- Stream plan number (R160). -/
abbrev PlanId := Fin 256
/-- Row or column of a tile inside a panel (R32). -/
abbrev Pos12 := Fin 12

end Sys2Proof
end

