-- ==== Sys2Proof/Syntax.lean ====
section
/-! DEFINITION. The commands of the block: one constructor of Instr for each row of spec/opcode_table.json, with the
operands that its rule names. The table gives no bits, so the operands are the model's reading of the rows (log 1). -/

namespace Sys2Proof

/-- The two host functions (R176). -/
inductive Fn where
  | hostA | hostB
  deriving DecidableEq, Repr

/-- The two prep cores of a tile (R104). -/
inductive Core where
  | pc0 | pc1
  deriving DecidableEq, Repr

/-- The five engines, numbered 0 to 4 in this order (R180). -/
inductive Engine where
  | grid | stream | remote | tailor | beat
  deriving DecidableEq, Repr

/-- The three stores of a tile (R118). -/
inductive StoreSel where
  | w | a | p
  deriving DecidableEq, Repr

/-- A tile's physical position: panel, row, column (R32, R46). -/
structure PhysTile where
  p : PanelId
  r : Pos12
  c : Pos12
  deriving DecidableEq, Repr

/-- The path by which a dictionary access arrives (0x1FE1:05, R348). -/
inductive Path where
  | sdo | hostA | hostB | rpdo
  deriving DecidableEq, Repr

/-- A bit error that has struck the 64-bit word at byte `off` of a tile store since the last step: `double` when two
bits of it are wrong (R119). -/
structure StoreUpset where
  store : StoreSel
  off : Nat
  double : Bool
  /-- The data bits in which the stored word is wrong once its error is double. -/
  wrong : W64
  deriving DecidableEq, Repr

/-- A bit error that has struck the 64-bit word of tier 1 that holds `addr` (R154). -/
structure TierUpset where
  addr : Nat
  double : Bool
  deriving DecidableEq, Repr

/-- A prep-core access at rank 2 or 3 made in the same store cycle as a read of the fill unit: the core, the A-store
byte it names and whether an extension instruction makes it (R122). -/
structure BankMeet where
  core : Core
  aoff : Nat
  ext : Bool
  deriving DecidableEq, Repr

/-- What an SSD answers to Identify and the controller registers (R147, R149). -/
structure SsdInfo where
  nsPresent : Bool
  lbads : Nat
  metadata : Bool
  protection : Bool
  mdts : Nat
  mpsmin : Nat
  pages4k : Bool
  mqes : Nat
  granted : Nat
  nsze : Nat
  deriving DecidableEq, Repr

/-- A host access: a read of `n` bytes or a write of bytes, which PCIe may mark poisoned (R181). -/
inductive HostAcc where
  | read (n : Nat)
  | write (data : List Byte) (poisoned : Bool)
  deriving DecidableEq, Repr

/-- An ORA frame: every field of the 56-byte header at its width, reserved bits included, and the payload (R252). -/
structure OraFrame where
  version : BitVec 8
  opcode : BitVec 8
  flags : BitVec 8
  cls : BitVec 8
  dstNode : W16
  srcNode : W16
  dstConn : W16
  srcConn : W16
  psn : W32
  key : W32
  credit : W32
  tag : W16
  length : W16
  apsn : W32
  addr : W64
  operand1 : W64
  operand2 : W64
  payload : List Byte
  deriving DecidableEq, Repr

/-- How a frame came to a port: the port, and the codewords that its FEC corrected since the last one (R300). -/
structure PortRx where
  port : PortId
  fecFixed : Nat
  deriving DecidableEq, Repr

/-- What a trained host link shows (R176, R181): its width, and the BAR2 size that the host took, as a power of two. -/
structure HostLink where
  width : BitVec 5
  bar2 : Nat
  deriving DecidableEq, Repr

/-- A 32-bit read of BAR0: the function and the offset (R180). -/
structure Bar0Read where
  fn : Fn
  off : Nat
  deriving DecidableEq, Repr

/-- A bus error as the CAN controller sees it (R316, R317): whether it counts eight, and the identifiers of the TPDOs and SDO
responses that are not sent yet. -/
structure CanError where
  byEight : Bool
  unsent : List Nat
  deriving DecidableEq, Repr

/-- A frame as an Ethernet port receives it (R249, R285): what its PCS and FCS say, its addresses, tags and type, its
length from destination MAC to FCS, and the ORA frame its bytes hold. `fecBad` counts its uncorrectable FEC codewords, `fecFixed`
those corrected. -/
structure EthFrame where
  fcsOk : Bool
  fecBad : Nat
  fecFixed : Nat
  len : Nat
  macControl : Bool
  tagged : Bool
  etherType : W16
  dstMac : BitVec 48
  srcMac : BitVec 48
  ora : OraFrame
  deriving DecidableEq, Repr

/-- The states of the main input, numbered as in 0x2900:04 (R351, R383). -/
inductive InputState where
  | inRange | low | high | cut | reversed | absent
  deriving DecidableEq, Repr

/-- A monitored rail that is not a panel's (R356, R361). -/
inductive OtherRail where
  | seamR (y : Fin 8)
  | seamC (x : Fin 8)
  | yoke
  | hem (s : SegId) (dram : Bool)
  | host (f : Fn)
  | net (n : PortId)
  deriving DecidableEq, Repr

/-- The coolant sensors, numbered as in the DATA of 0xFF64 (R375, R382). -/
inductive Sensor where
  | tin | tout | flow
  deriving DecidableEq, Repr

/-- How a sensor is faulty, as in 0x2930:04 (R375). -/
inductive SensorFault where
  | opened | shorted
  deriving DecidableEq, Repr

/-- A reading of a monitored rail other than the panels', in mV (R356). -/
structure RailReading where
  rail : OtherRail
  mv : W16
  deriving DecidableEq, Repr

/-- A reading of a coolant sensor (R375): the raw value, and the value in the unit of 0x2930. -/
structure SensorReading where
  raw : W16
  value : W16
  deriving DecidableEq, Repr

/-- What the cryptographic checks of an image find (R427): the key hash, the signature and the two part hashes. The
standards they follow are named by the spec and not written in it. -/
structure ImageChecks where
  keyOk : Bool
  signatureOk : Bool
  collarHashOk : Bool
  yokeHashOk : Bool
  /-- COLLAR_LEN and YOKE_LEN (R388, R426). -/
  collarLen : Nat
  yokeLen : Nat
  deriving DecidableEq, Repr

/-- What step 3 finds first (R388): whether the SPI NOR devices lack the 1-4-4 Fast Read, and the checks of slot A. -/
structure StartChecks where
  slowSpi : Bool
  slotA : ImageChecks
  deriving DecidableEq, Repr

/-- The fields of an image's manifest that the device acts on (R426). -/
structure Manifest where
  formatOk : Bool
  version : W32
  security : BitVec 8
  schemaWrite : W16
  schemaMin : W16
  buildId : List Byte
  deriving DecidableEq, Repr

/-- What the fuse array holds (R387). `gusset` lists ((panel, row), column) for every fused skip other than 11, `lanes`
lists ((edge sub-index, direction), failed-lane mask). -/
structure FuseImage where
  uncorrectable : Bool
  nodeId : BitVec 8
  layout : W16
  serial : List Byte
  wafer : List Byte
  carrier : W16
  revision : W32
  vendor : W32
  serialNumber : W32
  pciVendor : W16
  gusset : List ((PanelId × Pos12) × Pos12)
  lanes : List ((Nat × Nat) × BitVec 14)
  rollback : BitVec 64
  regulatorTrims : List Byte
  pllTrims : List Byte
  sramRepair : List Byte
  keyHash : List Byte
  deriving DecidableEq, Repr

/-- A mailbox request as the driver's registers and buffer state it when GO is written (R343, R344). -/
structure MailReq where
  op : BitVec 3
  index : W16
  sub : BitVec 8
  more : Bool
  reserved : BitVec 3
  len : W32
  offset : W32
  data : List Byte
  deriving DecidableEq, Repr

/-- Why a module start began (0x2A00:08, R385). -/
inductive StartCause where
  | supply | modRst | watchdog | lockstep
  deriving DecidableEq, Repr

/-- A settings record entry: index, sub-index, value, encoded as one number, with its length in bytes (R437). -/
structure RecEntry where
  key : Nat
  value : Nat
  deriving DecidableEq, Repr

/-- The steps of the part (spec/opcode_table.json), each whole and indivisible (95_what_each_step_holds). -/
inductive Instr where
  /-- LINE_BOUNDARY (R64): A master line boundary takes effect, at the predicted flywheel instant or from the TCXO in holdover; N increments and the tick restarts. -/
  | lineBoundary
  /-- SEAM_LANE_FAIL (R29): A seam or hem data lane fails in one direction, and a spare substitution is scheduled for the next boundary. -/
  | seamLaneFail (edge : Fin 144) (dir : Fin 2) (lane : Fin 14)
  /-- PASS_THROUGH_LANE_FAIL (R39): A pass-through lane fails (detector 0x0403), and LANES of the bridged edges is reduced at the next boundary. -/
  | passThroughLaneFail (p : PanelId) (northSouth : Bool) (lane : Pos12)
  /-- TRANSLATION_QUERY (R48): A write to 0x2003:01 takes the physical position of the named logical tile into 0x2003:02 at the current epoch. -/
  | translationQuery (path : Path) (v : W32)
  /-- BEAT_WORD_DECIDE (R56): A beat word has been received whole, and the beat unit decides on its acceptance, lock and goodness. -/
  | beatWordDecide (bits : BitVec 128) (boundary : Nat)
  /-- BEAT_WINDOW_CLOSE (R64): The flywheel window of a predicted boundary closes with no good word, and the word counts as bad. -/
  | beatWindowClose
  /-- CARRIER_ABSENT (R53): No mid-bit transition is seen for 4 bit times, so carrier absence is declared. -/
  | carrierAbsent
  /-- HOLDOVER_LIMIT (R70): Elapsed holdover reaches the holdover limit, and the beat unit enters LOST. -/
  | holdoverLimit
  /-- HOLDOVER_LIMIT_WRITE (R70): A write to 0x2103:01 applies the new limit at once to the elapsed holdover, which may move the unit to LOST. -/
  | holdoverLimitWrite (path : Path) (v : W16)
  /-- SESSION_BEAT (R83): A session beat (deadline) arrives and is processed once; frames not served complete with DEADLINE_MISSED. -/
  | sessionBeat (slot : SlotId)
  /-- SESSION_QUERY (R87): A write to 0x2130:01 takes the state, phase and next deadline of the named slot. -/
  | sessionQuery (path : Path) (v : W16)
  /-- MATRIX_ISSUE (R91): The head matrix instruction issues once its feeder and accumulation-path conditions hold. -/
  | matrixIssue (t : PhysTile)
  /-- INSTRUCTION_RETIRE (R93): An issued matrix instruction retires, releasing its destination lines and reporting its TAG. -/
  | instructionRetire (t : PhysTile)
  /-- ISSUE_HANG (R115): An issue or retirement timer passes its limit, and detector 0x0102 fires. -/
  | issueHang (t : PhysTile)
  /-- TILE_HEARTBEAT_TIMEOUT (R115): No heartbeat toggle arrives for the periods set in 0x2202, and detector 0x0101 fires. -/
  | tileHeartbeatTimeout (t : PhysTile)
  /-- PREP_CORE_INSTRUCTION (R104): A prep core executes a base RV32IMC or Zicsr instruction, including a load or store. -/
  | prepCoreInstruction (t : PhysTile) (core : Core) (upsets : List StoreUpset)
  /-- ECC_WRITEBACK (R119): A corrected word is written back in the next cycle in which its bank is idle. -/
  | eccWriteback (t : PhysTile)
  /-- MPUSH (R106): A prep core pushes a 64-bit matrix instruction, stalling while the 4-entry queue is full. -/
  | mpush (t : PhysTile) (core : Core)
  /-- MWAIT (R106): A prep core waits until no queued or in-flight instruction carries the given TAG. -/
  | mwait (t : PhysTile) (core : Core)
  /-- FFILL (R89): A prep core requests a fill of vectors from the A-store into the row feeders. -/
  | ffill (t : PhysTile) (core : Core) (meet : Option BankMeet)
  /-- PSAT (R106): A prep core reads, and optionally clears, the saturation flags of 32 P lines. -/
  | psat (t : PhysTile) (core : Core)
  /-- PQNT (R107): A prep core requantises a P line under QCFG and writes the result to the A-store. -/
  | pqnt (t : PhysTile) (core : Core)
  /-- ACOPY (R106): A prep core copies A-store lines as if through a buffer. -/
  | acopy (t : PhysTile) (core : Core)
  /-- ALUT (R106): A prep core maps 64 A-store bytes through the LUT. -/
  | alut (t : PhysTile) (core : Core)
  /-- CCOUNT (R139): A prep core runs a compare-and-count over a store range, optionally writing a bitmask. -/
  | ccount (t : PhysTile) (core : Core)
  /-- MSEND (R108): A prep core sends A-store lines over the mesh to another tile. -/
  | msend (t : PhysTile) (core : Core)
  /-- MSEND_LINE_LAND (R129): An MSEND line arrives at its destination tile and is written at its offset or at a LANDING region's tail. -/
  | msendLineLand (src : PhysTile) (dst : PhysTile)
  /-- MRECV (R106): A prep core waits until ARRIVE reaches its count, then subtracts the count. -/
  | mrecv (t : PhysTile) (core : Core)
  /-- EVPUSH (R225): A prep core writes an event record into the tailoring event queue, stalling while it is full. -/
  | evpush (t : PhysTile) (core : Core)
  /-- WLAND (R168): A prep core waits for the landing state of a stream tag to become final. -/
  | wland (t : PhysTile) (core : Core)
  /-- STAMP (R106): A prep core reads the low half of the beat stamp, latching the high half, or reads the latched half. -/
  | stamp (t : PhysTile) (core : Core)
  /-- TEND (R109): A prep core asks to end the task with a status once the matrix queue and array are idle. -/
  | tend (t : PhysTile) (core : Core)
  /-- TASK_END (R109): The task ends when the queue and array are idle after TEND, halting both cores. -/
  | taskEnd (t : PhysTile)
  /-- REGION_ADVANCE (R130): A write to CRn_ADV advances a circular region's head or tail. -/
  | regionAdvance (t : PhysTile) (core : Core) (region : Fin 4) (v : W32)
  /-- QSTAT_CLEAR (R116): A write of 1 to QSTAT clears the PQNT clamp flag. -/
  | qstatClear (t : PhysTile) (v : W32)
  /-- TILE_COUNTER_READ_CLEAR (R143): A read of a read-to-clear tile or store-policy counter returns it and clears it. -/
  | tileCounterReadClear (t : PhysTile) (off : W16)
  /-- TILE_QUERY (R117): A write to 0x2220:01 takes the state, last tag and trap of the named tile. -/
  | tileQuery (path : Path) (v : W16)
  /-- STORE_QUERY (R144): A write to 0x2310:01 takes the windows, policy, masks and fault log of the named tile. -/
  | storeQuery (path : Path) (v : W16)
  /-- NVME_LINK_UP (R146): A segment's NVMe link trains, and the host checks the SSD and creates its queues. -/
  | nvmeLinkUp (seg : SegId) (gen : Nat) (info : SsdInfo)
  /-- NVME_LINK_DOWN (R150): A segment's NVMe link drops; the flash becomes LINK_DOWN and outstanding commands fail. -/
  | nvmeLinkDown (seg : SegId)
  /-- NVME_LINK_RETRY (R150): The link retry interval expires, and link training is tried again. -/
  | nvmeLinkRetry (seg : SegId)
  /-- NVME_COMMAND_TIMEOUT (R150): An NVMe command passes its timeout and is treated as failed. -/
  | nvmeCommandTimeout (seg : SegId) (cid : Nat)
  /-- NVME_COMPLETION (R150): An NVMe command completes, with success or an error status. -/
  | nvmeCompletion (seg : SegId) (cid : Nat) (success : Bool) (data : List Byte)
  /-- SMART_POLL (R151): The SMART poll interval expires, and the host reads the SMART / Health log. -/
  | smartPoll (seg : SegId) (critical : Byte)
  /-- PATROL_SCRUB (R154): The patrol scrub reads tier 1 once every 24 h at the lowest priority. -/
  | patrolScrub (upsets : List TierUpset)
  /-- PLEAT_STAGED (R158): A pleat arrives in tier 1 from flash and is checked. -/
  | pleatStaged (plan : PlanId) (pleat : Nat)
  /-- FLASH_STAGE_LINE (R161): The flash staging line of a STREAMED plan's step arrives, and its pleats are staged from flash. -/
  | flashStageLine (plan : PlanId) (step : Nat)
  /-- PASS_START (R162): A pass of an ACTIVE plan starts, assigning lanes to ready frames. -/
  | passStart (plan : PlanId)
  /-- STEP_FETCH_LINE (R166): A step's fetch line arrives, its stream tag becomes PENDING, and its pleats may be read from tier 1. -/
  | stepFetchLine (plan : PlanId) (pass : Nat) (step : Nat)
  /-- BLOCK_LANDED (R167): A weight block completes landing in a STREAM region, and TAIL advances by its line count. -/
  | blockLanded (plan : PlanId) (pass : Nat) (pleat : Nat) (upsets : List TierUpset)
  /-- LANDING_LINE (R169): A step's landing line arrives; landing states become final and lanes that need unlanded pleats leave. -/
  | landingLine (plan : PlanId) (pass : Nat) (step : Nat)
  /-- PASS_END (R209): A pass ends, and its remaining lanes complete with OK. -/
  | passEnd (plan : PlanId) (pass : Nat)
  /-- SEGMENT_QUERY (R175): A write to 0x2410:01 takes the state and counters of the named segment. -/
  | segmentQuery (path : Path) (v : Byte)
  /-- PLAN_QUERY (R175): A write to 0x2430:01 takes the state and parameters of the named plan. -/
  | planQuery (path : Path) (v : Byte)
  /-- FUNCTION_LEVEL_RESET (R179): A function's FLR fences it, disables its rings and aborts and closes its jobs. -/
  | functionLevelReset (f : Fn)
  /-- HOST_LINK_DOWN (R179): A host function's link drops, fencing the function as an FLR does. -/
  | hostLinkDown (f : Fn)
  /-- HOST_LINK_UP (R395): A host port's link comes up and its configuration space is served. -/
  | hostLinkUp (f : Fn) (gen : BitVec 4) (link : HostLink)
  /-- PCIE_UNCORRECTABLE_ERROR (R176): AER logs a PCIe uncorrectable error, firing detector 0x0707. -/
  | pcieUncorrectableError (f : Fn)
  /-- BAR2_ACCESS (R181): A host access through BAR2 reaches tier 1 at BAR2_BASE plus its offset. -/
  | bar2Access (f : Fn) (off : Nat) (acc : HostAcc) (upsets : List TierUpset)
  /-- APERTURE_ACCESS (R182): A host access through the tile aperture reaches the selected tile on behalf of the selected job. -/
  | apertureAccess (f : Fn) (off : Nat) (acc : HostAcc)
  /-- STAMP_LO_READ (R217): A read of STAMP_LO returns the low half of the beat stamp and latches the high half. -/
  | stampLoRead (rd : Bar0Read)
  /-- RING_CONFIG_WRITE (R183): A write to a ring configuration register sets, enables or disables a ring. -/
  | ringConfigWrite (f : Fn) (off : Nat) (v : W32)
  /-- SQ_DOORBELL (R185): A 32-bit write to a submission ring doorbell sets its new producer index. -/
  | sqDoorbell (f : Fn) (eng : Engine) (ring : Byte) (bytes : Nat) (v : W32)
  /-- CQ_DOORBELL (R187): A write to a completion ring doorbell returns slots and re-arms the ring. -/
  | cqDoorbell (f : Fn) (eng : Engine) (ring : Byte) (bytes : Nat) (v : W32)
  /-- DESCRIPTOR_FETCH (R186): Once completion slots are free, the engine reserves them and fetches and checks a list descriptor. -/
  | descriptorFetch (eng : Engine) (ring : Byte)
  /-- ENTRY_BEGIN (R193): The next command entry of a list begins and is handed to its engine for acceptance. -/
  | entryBegin (list : Nat)
  /-- ENTRY_NOP (R192): A NOP entry completes on any engine. -/
  | entryNop (list : Nat) (idx : Nat)
  /-- PLOAD (R202): A GRID entry loads a tile program into every region tile after the epoch check. -/
  | pload (list : Nat) (idx : Nat)
  /-- TSTART (R202): A GRID entry starts one task on every region tile with its windows, policy and regions. -/
  | tstart (list : Nat) (idx : Nat)
  /-- COPY (R202): A GRID entry copies bytes between tier 1 and logical tile addresses. -/
  | copy (list : Nat) (idx : Nat) (upsets : List TierUpset)
  /-- COPY_DONE (R202): Every byte of a COPY has been written, and the entry completes. -/
  | copyDone (list : Nat) (idx : Nat)
  /-- JOPEN (R197): A GRID entry opens a job with its key, scope, ranges and region. -/
  | jopen (list : Nat) (idx : Nat)
  /-- JCLOSE (R200): A GRID entry aborts a job's outstanding work and frees its sessions, plans and windows. -/
  | jclose (list : Nat) (idx : Nat)
  /-- PLANLOAD (R160): A STREAM entry loads and checks a stream plan from tier 1. -/
  | planload (list : Nat) (idx : Nat)
  /-- ACTIVATE (R161): A STREAM entry checks budgets and activates a plan, staging a PINNED plan. -/
  | activate (list : Nat) (idx : Nat)
  /-- DEACTIVATE (R203): A STREAM entry stops further passes of a plan and completes when passes in progress end. -/
  | deactivate (list : Nat) (idx : Nat)
  /-- UNLOAD (R203): A STREAM entry frees a LOADED plan. -/
  | unload (list : Nat) (idx : Nat)
  /-- RESTAGE (R203): A STREAM entry stages every FAILED pleat of a plan again. -/
  | restage (list : Nat) (idx : Nat)
  /-- FREAD (R203): A STREAM entry reads flash LBAs into tier 1. -/
  | fread (list : Nat) (idx : Nat)
  /-- FWRITE (R203): A STREAM entry writes tier 1 data to flash LBAs. -/
  | fwrite (list : Nat) (idx : Nat)
  /-- FFLUSH (R203): A STREAM entry issues an NVMe Flush to a segment's SSD. -/
  | fflush (list : Nat) (idx : Nat)
  /-- FTRIM (R203): A STREAM entry deallocates flash LBAs by Dataset Management. -/
  | ftrim (list : Nat) (idx : Nat)
  /-- TATTACH (R219): A TAILOR entry creates a session context on every region tile and scans its table. -/
  | tattach (list : Nat) (idx : Nat)
  /-- TATTACH_SCAN_DONE (R220): Every region tile has finished its table scan, and TATTACH completes. -/
  | tattachScanDone (list : Nat) (idx : Nat)
  /-- TDETACH (R222): A TAILOR entry discards a slot's queued work and frees its contexts. -/
  | tdetach (list : Nat) (idx : Nat)
  /-- TREWARD (R239): A TAILOR entry makes a reward pending for broadcast at the slot's next reward line. -/
  | treward (list : Nat) (idx : Nat)
  /-- TCLEAR (R223): A TAILOR entry discards a slot's pending work and zeroes its synapse table. -/
  | tclear (list : Nat) (idx : Nat)
  /-- SOPEN (R206): A BEAT entry opens a session slot with period, phase, margin, set, class and plan. -/
  | sopen (list : Nat) (idx : Nat)
  /-- SRETIME (R82): A BEAT entry changes a session's period, phase and margin. -/
  | sretime (list : Nat) (idx : Nat)
  /-- SRESUME (R72): A BEAT entry resumes a SUSPENDED slot. -/
  | sresume (list : Nat) (idx : Nat)
  /-- SCLOSE (R206): A BEAT entry stops accepting frames and frees the slot once its frames complete. -/
  | sclose (list : Nat) (idx : Nat)
  /-- SBIND (R206): A BEAT entry binds a slot to a plan and variant for later frames. -/
  | sbind (list : Nat) (idx : Nat)
  /-- FRAME (R209): A BEAT entry submits a session frame, which is checked, accepted and given a deadline. -/
  | frame (list : Nat) (idx : Nat)
  /-- FREADY (R206): A BEAT entry marks the slot's oldest non-ready frame ready. -/
  | fready (list : Nat) (idx : Nat)
  /-- JOB_QUERY (R218): A write to 0x2506:02 takes the state, flags and key of the named job. -/
  | jobQuery (path : Path) (v : W16)
  /-- TAILOR_PRE (R231): The tailoring unit processes a PRE record, scheduling contributions and updating the recent-pre list. -/
  | tailorPre (t : PhysTile)
  /-- TAILOR_POST (R232): The tailoring unit processes a POST record, updating traces and delays. -/
  | tailorPost (t : PhysTile)
  /-- TAILOR_ERROR (R237): The tailoring unit processes an ERROR record, updating the weights of synapses to the post neuron. -/
  | tailorError (t : PhysTile)
  /-- TAILOR_REWARD (R238): The tailoring unit processes a REWARD record, updating every valid entry of the slot. -/
  | tailorReward (t : PhysTile)
  /-- TAILOR_STEP (R233): The tailoring unit processes a STEP record, delivering due contributions, decaying traces and advancing S. -/
  | tailorStep (t : PhysTile)
  /-- FEEDBACK_DELIVERY (R228): The feedback path delivers a copy of an ERROR record to the queue of a region tile. -/
  | feedbackDelivery (src : PhysTile) (dst : PhysTile)
  /-- REWARD_BROADCAST (R240): At a reward line boundary pending rewards are broadcast, and their TREWARDs complete. -/
  | rewardBroadcast
  /-- SLOT_QUERY (R248): A write to 0x2620:01 takes the attachment, window and synapse count of the named slot. -/
  | slotQuery (path : Path) (v : W16)
  /-- CONTEXT_QUERY (R248): A write to 0x2621:01 takes the context state of the named slot on the named tile. -/
  | contextQuery (path : Path) (v : W32)
  /-- ORA_SEND_FRAME (R263): A received SEND frame is checked and placed into the posted RECV buffer. -/
  | oraSendFrame (port : Option PortRx) (fr : OraFrame)
  /-- ORA_WRITE_FRAME (R264): A received WRITE frame is checked and applied at ADDR, or landed in order in a LANDING region. -/
  | oraWriteFrame (port : Option PortRx) (fr : OraFrame)
  /-- ORA_READ_REQ_FRAME (R265): A received READ_REQ frame is checked, read and answered with a cached READ_RESP. -/
  | oraReadReqFrame (port : Option PortRx) (fr : OraFrame)
  /-- ORA_READ_RESP_FRAME (R265): A received READ_RESP frame writes its payload locally and acknowledges its PSN. -/
  | oraReadRespFrame (port : Option PortRx) (fr : OraFrame)
  /-- ORA_FADD_FRAME (R266): A received FADD frame adds indivisibly to a 64-bit word and returns the original value. -/
  | oraFaddFrame (port : Option PortRx) (fr : OraFrame)
  /-- ORA_CAS_FRAME (R266): A received CAS frame compares and swaps a 64-bit word indivisibly and returns the original value. -/
  | oraCasFrame (port : Option PortRx) (fr : OraFrame)
  /-- ORA_ATOMIC_RESP_FRAME (R266): A received ATOMIC_RESP frame writes the original word locally and completes the atomic. -/
  | oraAtomicRespFrame (port : Option PortRx) (fr : OraFrame)
  /-- ORA_ACK_FRAME (R273): A received ACK frame settles the PSNs covered by its APSN and bitmap. -/
  | oraAckFrame (port : Option PortRx) (fr : OraFrame)
  /-- ORA_NAK_FRAME (R277): A received NAK frame settles or re-arms its PSN according to its syndrome. -/
  | oraNakFrame (port : Option PortRx) (fr : OraFrame)
  /-- ORA_CREDIT_FRAME (R260): A received CREDIT frame updates the peer's granted limit, answering one that carries SOLICIT. -/
  | oraCreditFrame (port : Option PortRx) (fr : OraFrame)
  /-- HELD_FRAME_APPLY (R267): A frame waiting in the hold pool is applied once every lower PSN has been applied or refused. -/
  | heldFrameApply (conn : ConnId)
  /-- ORA_REQUEST_SEND (R259): A request frame is sent once credit and the outstanding limits allow it. -/
  | oraRequestSend (conn : ConnId)
  /-- RETRANSMIT_TIMEOUT (R274): The retransmit timer of the oldest outstanding PSN expires, and uncovered PSNs are sent again. -/
  | retransmitTimeout (conn : ConnId)
  /-- ACK_DELAY_EXPIRY (R273): The ACK delay expires, and a pending ACK or standalone CREDIT frame is sent. -/
  | ackDelayExpiry (conn : ConnId)
  /-- CREDIT_PROBE (R261): A frame held for lack of credit for the probe interval sends a soliciting CREDIT frame. -/
  | creditProbe (conn : ConnId)
  /-- RNR_RETRY (R277): The RNR interval expires, and the refused PSN is sent again. -/
  | rnrRetry (conn : ConnId) (psn : BitVec 24)
  /-- REMOTE_CONNECT (R255): A REMOTE entry opens a connection to a peer and sends its initial CREDIT frame. -/
  | remoteConnect (list : Nat) (idx : Nat)
  /-- REMOTE_DISCONNECT (R257): A REMOTE entry aborts a connection's work, discards its held frames and frees it. -/
  | remoteDisconnect (list : Nat) (idx : Nat)
  /-- REMOTE_SEND (R263): A REMOTE entry posts a SEND work request on a connection. -/
  | remoteSend (list : Nat) (idx : Nat)
  /-- REMOTE_RECV (R263): A REMOTE entry posts a RECV buffer on a connection. -/
  | remoteRecv (list : Nat) (idx : Nat)
  /-- REMOTE_WRITE (R264): A REMOTE entry posts a WRITE work request on a connection. -/
  | remoteWrite (list : Nat) (idx : Nat)
  /-- REMOTE_READ (R265): A REMOTE entry posts a READ work request on a connection. -/
  | remoteRead (list : Nat) (idx : Nat)
  /-- REMOTE_FADD (R266): A REMOTE entry posts an atomic fetch-and-add. -/
  | remoteFadd (list : Nat) (idx : Nat)
  /-- REMOTE_CAS (R266): A REMOTE entry posts an atomic compare-and-swap. -/
  | remoteCas (list : Nat) (idx : Nat)
  /-- CTRSET (R269): A REMOTE entry takes or sets a tag counter's value. -/
  | ctrset (list : Nat) (idx : Nat)
  /-- CTRFREE (R270): A REMOTE entry frees a tag counter, aborting the requests waiting on it. -/
  | ctrfree (list : Nat) (idx : Nat)
  /-- TREADY (R271): A REMOTE entry posts a triggered readiness request for a slot or locked set. -/
  | tready (list : Nat) (idx : Nat)
  /-- CONNECTION_QUERY (R280): A write to 0x2710:01 takes the state, sequence, credits and outstanding counts of a connection. -/
  | connectionQuery (path : Path) (v : W16)
  /-- COUNTER_QUERY (R280): A write to 0x2720:01 takes the value, owner and waiters of a tag counter. -/
  | counterQuery (path : Path) (v : W16)
  /-- MAC_CONTROL_FRAME (R282): A received pause or PFC frame is discarded and counted. -/
  | macControlFrame (port : PortId) (len : Nat)
  /-- PORT_LINK_CHANGE (R283): A network port's link goes up or down; on loss its DYNAMIC entries clear and its queues are discarded. -/
  | portLinkChange (port : PortId) (up : Bool)
  /-- PORT_CONFIG_WRITE (R283): A write to 0x2801 enables or disables a port or changes its electrical mode, retraining the link. -/
  | portConfigWrite (path : Path) (port : PortId) (v : Byte)
  /-- PORT_FRAME_TRANSMIT (R293): A port starts sending the head frame of the highest class that its shaper allows. -/
  | portFrameTransmit (port : PortId)
  /-- NODE_ENTRY_EXPIRY (R290): A DYNAMIC or AMBIGUOUS node entry reaches its EXPIRY and returns to NONE. -/
  | nodeEntryExpiry (node : W16)
  /-- NODE_TABLE_FLUSH (R290): A write of 1 to 0x2802:03 returns every DYNAMIC and AMBIGUOUS entry to NONE. -/
  | nodeTableFlush (path : Path) (v : Byte)
  /-- STATIC_ENTRY_WRITE (R291): A write to 0x2803:03 makes a node entry STATIC or returns a STATIC entry to NONE. -/
  | staticEntryWrite (path : Path) (v : W32)
  /-- NODE_QUERY (R300): A write to 0x2803:01 takes the state of the named node entry. -/
  | nodeQuery (path : Path) (v : W16)
  /-- SHAPER_RATE_WRITE (R296): A write to a class's rate takes effect with the bucket level kept or clamped. -/
  | shaperRateWrite (path : Path) (port : PortId) (cls : Fin 8) (v : W32)
  /-- SHAPER_BURST_WRITE (R296): A write to a class's burst takes effect, clamping the level into plus or minus the new burst. -/
  | shaperBurstWrite (path : Path) (port : PortId) (cls : Fin 8) (v : W32)
  /-- NMT_START (R308): An NMT Start puts the node into OPERATIONAL and releases held auto-resumes. -/
  | nmtStart (node : Byte)
  /-- NMT_STOP (R308): An NMT Stop puts the node into STOPPED, ending any SDO transfer in progress. -/
  | nmtStop (node : Byte)
  /-- NMT_ENTER_PREOPERATIONAL (R308): An NMT Enter Pre-operational puts the node into PRE-OPERATIONAL. -/
  | nmtEnterPreoperational (node : Byte)
  /-- NMT_RESET_NODE (R311): An NMT Reset Node closes every job, restores the application area and resets communication. -/
  | nmtResetNode (node : Byte)
  /-- NMT_RESET_COMMUNICATION (R310): An NMT Reset Communication restores the communication area, retakes the node ID and sends boot-up. -/
  | nmtResetCommunication (node : Byte)
  /-- HEARTBEAT_PRODUCE (R312): The producer heartbeat time expires, and the node sends its heartbeat. -/
  | heartbeatProduce (sent : Bool)
  /-- PRODUCER_HEARTBEAT_WRITE (R312): A write to 0x1017 restarts or stops heartbeat production. -/
  | producerHeartbeatWrite (path : Path) (v : W16)
  /-- HEARTBEAT_RECEIVE (R313): A heartbeat from a consumed node arrives, starting or refreshing its monitoring. -/
  | heartbeatReceive (node : BitVec 7)
  /-- HEARTBEAT_CONSUMER_TIMEOUT (R313): A consumed node's heartbeat is missing for its consumer time, raising a communication error. -/
  | heartbeatConsumerTimeout (entry : Fin 8)
  /-- SYNC_RECEIVE (R314): A SYNC latches the beat stamp and triggers synchronous TPDOs and RPDOs. -/
  | syncReceive (counter : Byte)
  /-- EMCY_TRANSMIT (R315): The oldest queued EMCY is sent once the inhibit time allows. -/
  | emcyTransmit
  /-- EMCY_COBID_WRITE (R315): A write to 0x1014 sets the EMCY identifier, and setting bit 31 discards waiting EMCYs. -/
  | emcyCobidWrite (path : Path) (v : W32)
  /-- CAN_ERROR_DETECTED (R316): A CAN transmit or receive error changes the error counters under ISO 11898-1. -/
  | canErrorDetected (transmit : Bool) (err : CanError)
  /-- BUS_OFF_RECOVERY (R318): 128 runs of 11 recessive bits end bus-off, and the held message is sent first. -/
  | busOffRecovery
  /-- BUS_DOMINANT_TIMEOUT (R320): The bus stays dominant for 2,048 nominal bit times, firing 0x0D05 and event 0xFF22. -/
  | busDominantTimeout
  /-- SDO_INITIATE_DOWNLOAD (R329): An SDO initiate download request writes an expedited value or starts a segmented download. -/
  | sdoInitiateDownload (data : List Byte)
  /-- SDO_DOWNLOAD_SEGMENT (R330): An SDO download segment is received with its toggle bit. -/
  | sdoDownloadSegment (data : List Byte)
  /-- SDO_INITIATE_UPLOAD (R329): An SDO initiate upload request captures the value and answers expedited or segmented. -/
  | sdoInitiateUpload (data : List Byte)
  /-- SDO_UPLOAD_SEGMENT (R330): An SDO upload segment request is answered with the next 7 bytes. -/
  | sdoUploadSegment (data : List Byte)
  /-- SDO_BLOCK_DOWNLOAD_INITIATE (R329): An SDO block download initiate is answered with a block size of 127. -/
  | sdoBlockDownloadInitiate (data : List Byte)
  /-- SDO_BLOCK_DOWNLOAD_SUBBLOCK (R330): A block of download segments is received and acknowledged. -/
  | sdoBlockDownloadSubblock (segments : List (List Byte))
  /-- SDO_BLOCK_DOWNLOAD_END (R329): An SDO block download end checks the CRC and applies the value. -/
  | sdoBlockDownloadEnd (data : List Byte)
  /-- SDO_BLOCK_UPLOAD_INITIATE (R329): An SDO block upload initiate takes the client's block size and captures the value. -/
  | sdoBlockUploadInitiate (data : List Byte)
  /-- SDO_BLOCK_UPLOAD_START (R329): An SDO block upload start request begins sending the first block. -/
  | sdoBlockUploadStart (data : List Byte)
  /-- SDO_BLOCK_UPLOAD_ACK (R329): A client acknowledgement of an upload block starts the next block or the end phase. -/
  | sdoBlockUploadAck (data : List Byte)
  /-- SDO_BLOCK_UPLOAD_END (R329): The client's response to the block upload end closes the transfer. -/
  | sdoBlockUploadEnd (data : List Byte)
  /-- SDO_ABORT_RECEIVE (R330): A client abort ends the transfer in progress, with no response. -/
  | sdoAbortReceive (data : List Byte)
  /-- SDO_TIMEOUT (R331): The gap between two frames of a transfer exceeds the SDO timeout, and the server aborts it. -/
  | sdoTimeout
  /-- RPDO_RECEIVE (R336): An RPDO is received and its mapped values are applied as SDO writes would be. -/
  | rpdoReceive (n : Fin 8) (data : List Byte)
  /-- RPDO_EVENT_TIMEOUT (R336): No RPDO arrives within its event timer, and EMCY 0x8250 is queued. -/
  | rpdoEventTimeout (n : Fin 8)
  /-- TPDO_CHANGE_CHECK (R335): The periodic change check finds a changed mapped value and sends a type 254 or 255 TPDO. -/
  | tpdoChangeCheck (n : Fin 8)
  /-- TPDO_EVENT_TIMER (R335): A TPDO's event timer expires, and the TPDO is sent. -/
  | tpdoEventTimer (n : Fin 8)
  /-- TPDO_INHIBIT_END (R335): A TPDO's inhibit time ends, and a change held back during it is sent. -/
  | tpdoInhibitEnd (n : Fin 8)
  /-- STORE_PARAMETERS (R338): The signature written to 0x1010 stores the settings of the named areas as a new record. -/
  | storeParameters (path : Path) (sub : Byte) (v : W32)
  /-- STORE_DONE (R338): The settings record is written, and the store's response or mailbox completion follows. -/
  | storeDone (written : Bool)
  /-- RESTORE_DEFAULTS (R339): The signature written to 0x1011 writes a record with the named areas at their defaults. -/
  | restoreDefaults (path : Path) (sub : Byte) (v : W32)
  /-- ERROR_HISTORY_CLEAR (R348): A write of 0 to 0x1003:00 clears the pre-defined error field. -/
  | errorHistoryClear (path : Path) (v : Byte)
  /-- DICTIONARY_WRITE (R327): A write to an object with no row of its own is checked and applied whole. -/
  | dictionaryWrite (path : Path) (index : W16) (sub : Byte) (data : List Byte)
  /-- MIRROR_READ (R342): A read of a mirror slot returns the object's value captured at one instant. -/
  | mirrorRead (f : Fn) (off : Nat) (n : Nat)
  /-- MIRROR_WRITE (R342): A write to the mirror is ignored and counted. -/
  | mirrorWrite (f : Fn) (off : Nat)
  /-- MAILBOX_READ (R344): A GO with OP READ performs a dictionary read into the mailbox buffer. -/
  | mailboxRead (f : Fn) (req : MailReq)
  /-- MAILBOX_WRITE (R344): A GO with OP WRITE performs a dictionary write from the mailbox buffer, chunked for DOMAINs. -/
  | mailboxWrite (f : Fn) (req : MailReq)
  /-- MAILBOX_ABORT (R345): A GO with OP ABORT ends the function's DOMAIN transfer in progress. -/
  | mailboxAbort (f : Fn) (req : MailReq)
  /-- MAILBOX_COMPLETE (R344): A mailbox access ends, setting DONE, LEN and CODE and raising the vector. -/
  | mailboxComplete (f : Fn)
  /-- MAILBOX_DONE_CLEAR (R343): A write of 1 to DONE clears DONE, ABORTED and REMAIN. -/
  | mailboxDoneClear (f : Fn)
  /-- MAILBOX_CHUNK_TIMEOUT (R345): The gap between DOMAIN chunks exceeds the timeout, and the transfer ends with 0x0504_0000. -/
  | mailboxChunkTimeout (f : Fn)
  /-- MAIN_INPUT_STATE_CHANGE (R351): The main input enters a new state (Low, High, Cut, Reversed, Absent or In range). -/
  | mainInputStateChange (st : InputState) (mv : W16)
  /-- STANDBY_INPUT_FAULT (R351): The standby voltage stays outside its range for 10 ms. -/
  | standbyInputFault (mv : W16)
  /-- DOMAIN_REQUEST_ON (R353): A write of 1 to 0x2911 requests a power domain on, subject to its requirements. -/
  | domainRequestOn (path : Path) (d : Fin 171)
  /-- DOMAIN_REQUEST_OFF (R353): A write of 0 to 0x2911 switches a domain and its dependents off in order. -/
  | domainRequestOff (path : Path) (d : Fin 171)
  /-- DOMAIN_RAMP_START (R354): A waiting domain ramp starts when a ramp slot frees. -/
  | domainRampStart (d : Fin 171)
  /-- DOMAIN_POWER_GOOD (R354): A ramping domain signals power-good and is ON. -/
  | domainPowerGood (d : Fin 171)
  /-- DOMAIN_POWER_GOOD_TIMEOUT (R391): A domain gives no power-good within twice its ramp time and is switched OFF. -/
  | domainPowerGoodTimeout (d : Fin 171)
  /-- PANEL_RAIL_WARNING (R358): A panel core or SRAM rail falls below warning, latching BROWNOUT_WARN and adding the throttle source. -/
  | panelRailWarning (p : PanelId) (sram : Bool) (mv : W16)
  /-- PANEL_RAIL_RECOVERED (R359): Both panel rails return above warning, and the brown-out source leaves the throttle. -/
  | panelRailRecovered (p : PanelId) (coreMv : W16) (sramMv : W16)
  /-- PANEL_RAIL_RESET (R360): A panel rail reaches its reset level, stopping the panel's tiles at once. -/
  | panelRailReset (p : PanelId) (sram : Bool) (mv : W16)
  /-- PANEL_RESET_RELEASE (R360): Both rails have been above warning for 1 ms, so the panel is released from reset. -/
  | panelResetRelease (p : PanelId)
  /-- PANEL_RESET_TIMEOUT (R360): A panel is not released within 100 ms of its reset and is declared LOST. -/
  | panelResetTimeout (p : PanelId)
  /-- RAIL_WARNING (R361): A non-panel rail falls below warning, and the crossing is counted. -/
  | railWarning (rail : RailReading)
  /-- RAIL_RESET (R361): A non-panel rail reaches reset, and the unit it serves fails. -/
  | railReset (rail : RailReading)
  /-- BROWNOUT_CLEAR (R358): A write to 0x2921 clears the BROWNOUT_WARN latches of the named panels. -/
  | brownoutClear (path : Path) (v : W64)
  /-- POWER_LIMIT_ACTION (R364): Input power exceeds the limit in force, and the collar throttles or stops the next panel row. -/
  | powerLimitAction (watts : W16)
  /-- POWER_LIMIT_RELEASE (R365): Input power stays below 95 % of the limit for 100 ms, and the latest limit action is undone. -/
  | powerLimitRelease (watts : W16)
  /-- PANEL_OVERCURRENT (R367): A panel stage exceeds twice its rating for 5 µs and both stages latch off. -/
  | panelOvercurrent (p : PanelId) (sram : Bool)
  /-- OVERCURRENT_CLEAR (R368): A write of 1 to 0x2922 clears a panel's overcurrent latch, up to three counted clears. -/
  | overcurrentClear (path : Path) (p : PanelId) (v : Byte)
  /-- CLOCK_CHECK (R373): The 100 µs clock count finds a domain out of tolerance, causing a clock fault. -/
  | clockCheck (k : Fin 266)
  /-- PLL_UNLOCK (R373): A PLL loses lock, with the effect for its domain. -/
  | pllUnlock (k : Fin 266)
  /-- REFERENCE_LOST (R374): The TCXO gives no edge for 1 µs; the collar moves to its internal oscillator and shuts down. -/
  | referenceLost
  /-- COOLANT_SENSOR_FAULT (R375): A coolant sensor reads open or shorted for 100 ms, bringing in the fault limit. -/
  | coolantSensorFault (sensor : Sensor) (raw : W16)
  /-- COOLANT_SENSOR_RECOVERED (R375): A faulty sensor reads valid for 10 s and its fault clears. -/
  | coolantSensorRecovered (sensor : Sensor) (v : SensorReading)
  /-- OUTLET_WARNING (R376): TOUT crosses above the outlet warning, sending EMCY 0xFF65. -/
  | outletWarning (tout : W16)
  /-- THERMAL_LIMIT (R376): TOUT above the outlet limit, or low flow for 1 s, brings in the fault limit. -/
  | thermalLimit (tout : W16) (flow : W16)
  /-- THERMAL_LIMIT_END (R376): TOUT and flow stay in range for 10 s and the thermal limit ends. -/
  | thermalLimitEnd (tout : W16) (flow : W16)
  /-- OUTLET_SHUTDOWN (R376): TOUT stays above the outlet shutdown level for 1 s, starting an orderly shutdown. -/
  | outletShutdown (tout : W16)
  /-- DIE_TEMPERATURE_CHANGE (R377): A panel's die temperature crosses the throttle level or 115 °C. -/
  | dieTemperatureChange (p : PanelId) (t : W16)
  /-- COLD_START (R384): The collar supply becomes valid or MOD_RST_N is released with YOKE OFF, starting the sequence. -/
  | coldStart (cause : StartCause) (straps : BitVec 7)
  /-- MODULE_RESET_ASSERT (R384): MOD_RST_N is held low, holding the collar in reset and dropping every other domain. -/
  | moduleResetAssert
  /-- WARM_START (R385): The collar starts while YOKE is ON, runs steps 1–5 and reattaches to the yoke. -/
  | warmStart (cause : StartCause) (straps : BitVec 7)
  /-- FUSE_LOAD (R387): The ROM reads the fuse array and applies collar trims and SRAM repair. -/
  | fuseLoad (fuses : FuseImage)
  /-- IMAGE_VERIFY (R427): The selected image's manifest and collar part are read and verified. -/
  | imageVerify (checkA : StartChecks) (checkB : ImageChecks)
  /-- COLLAR_FIRMWARE_START (R390): Collar firmware loads settings, takes the node ID, starts CAN and sends boot-up. -/
  | collarFirmwareStart
  /-- MAIN_INPUT_QUALIFIED (R390): The main input has been in range for 100 ms with auto-start set, ending step 6. -/
  | mainInputQualified
  /-- YOKE_RAMP (R386): The YOKE domain ramps on after qualification or an operator request. -/
  | yokeRamp
  /-- YOKE_LOAD (R386): The yoke part is loaded and its hash checked. -/
  | yokeLoad (hashOk : Bool)
  /-- YOKE_SELF_TEST (R386): The yoke runs its self-test and loads the yoke-served settings. -/
  | yokeSelfTest (passed : Bool)
  /-- DOMAIN_POWER_UP (R391): The yoke switches the domains on in the two fixed orders. -/
  | domainPowerUp
  /-- DRAM_TRAINING_DONE (R394): A segment's LPDDR5X training attempt ends, starting the scrub or another attempt. -/
  | dramTrainingDone (seg : SegId) (trained : Bool)
  /-- SEGMENT_SCRUB_DONE (R394): A segment's tier 1 scrub ends, and its DRAM enters service. -/
  | segmentScrubDone (seg : SegId) (ms : W16)
  /-- PANEL_SELF_TEST_DONE (R392): A panel's PLL locks and its tile self-test ends, repairing rows or losing the panel. -/
  | panelSelfTestDone (p : PanelId) (pllOk : Bool) (failed : List (Pos12 × Pos12))
  /-- GRID_BUILD (R393): Seam lanes are tested and the grid is built as epoch 0 once every panel has ended self-test. -/
  | gridBuild (lanes : List (Fin 144 × Fin 2 × Fin 14))
  /-- STARTUP_STEP_TIMEOUT (R386): A startup step passes its time limit and has failed. -/
  | startupStepTimeout (step : Nat) (unit : Nat)
  /-- YOKE_START_RETRY (R399): One second after a failed yoke start, steps 7–9 are repeated up to the limit. -/
  | yokeStartRetry
  /-- TILE_FENCE (R405): At the boundary after a tile failure, the tile is fenced and its requests end. -/
  | tileFence (t : PhysTile)
  /-- STORE_MOVE_END (R406): The store move ends; the moved tasks resume and the replacement tile is reloaded and restarted. -/
  | storeMoveEnd (p : PanelId) (row : Pos12)
  /-- PANEL_LOSS_REBUILD (R409): At the boundary after a panel loss every job aborts and the grid is rebuilt. -/
  | panelLossRebuild
  /-- PANEL_RESET_FENCE (R411): At the boundary after a rail reset all tiles of the panel are fenced together as one panel reset. -/
  | panelResetFence (p : PanelId)
  /-- PANEL_RETURN (R411): After release and self-test the panel's tiles take their positions again and are restored. -/
  | panelReturn (p : PanelId) (failed : List (Pos12 × Pos12))
  /-- LEASE_EXPIRY (R412): A lease's expiry stamp passes, firing 0x0C05 and fencing its owner. -/
  | leaseExpiry (kind : BitVec 4) (number : W16)
  /-- OWNER_FENCE (R414): An owner is fenced at the boundary, draining, decrementing and revoking its leased resources. -/
  | ownerFence (kind : BitVec 4) (number : W16)
  /-- DMA_DRAIN_DONE (R415): A drained channel has nothing of its old owner in flight and is released. -/
  | dmaDrainDone (seg : SegId) (channel : Fin 32)
  /-- DRAIN_TIMEOUT (R415): A channel does not drain within the limit, is quarantined, and the segment DRAM fails. -/
  | drainTimeout (seg : SegId) (channel : Fin 32)
  /-- FENCE_JOB (R414): A write of a job number to 0x2B31 fences that job. -/
  | fenceJob (path : Path) (v : W16)
  /-- YOKE_FAILURE (R416): The yoke watchdog expires or the yoke rail or clock resets; the collar resets the yoke cores and all jobs abort. -/
  | yokeFailure (cause : Fin 3)
  /-- COLLAR_FAILURE (R417): A lockstep mismatch or collar watchdog resets the collar cores for a warm start. -/
  | collarFailure (lockstep : Bool)
  /-- COLLAR_ABSENT_TIMEOUT (R417): The collar is not back 2 s after its reset; the yoke performs an orderly shutdown. -/
  | collarAbsentTimeout
  /-- GRID_RESTORE (R418): A write of 1 to 0x2B30:01 re-tests LOST and REMOVED panels and rebuilds the grid. -/
  | gridRestore (path : Path) (v : Byte) (failed : List PanelId)
  /-- REPLACEMENT_CLEAR (R419): A write of 1 to 0x2B50:04 clears the replacement request once no cause holds. -/
  | replacementClear (path : Path) (v : Byte)
  /-- FAULT_LOG_CLEAR (R423): The signature written to 0x2B12 empties the fault log. -/
  | faultLogClear (path : Path) (v : W32)
  /-- DETECTOR_QUERY (R423): A write to 0x2B02:01 takes the counts and last stamp of the named detector. -/
  | detectorQuery (path : Path) (v : W16)
  /-- LOG_QUERY (R423): A write to 0x2B11:01 takes the stamp and record of the named log entry. -/
  | logQuery (path : Path) (v : Byte)
  /-- INJECTION_ARM (R421): A write of 1 to 0x2B20:06 arms an injection after checking enable, detector and target. -/
  | injectionArm (path : Path)
  /-- INJECTION_DISARM (R421): A write of 0 to 0x2B20:06 disarms the injection. -/
  | injectionDisarm (path : Path)
  /-- INJECTION_FIRE (R422): At a line boundary at or after its start stamp, the armed injection fires its detector in REPORT or ACT mode. -/
  | injectionFire
  /-- UPDATE_BEGIN (R434): BEGIN written to 0x2C21:01 starts erasing the target slot for an update. -/
  | updateBegin (path : Path)
  /-- SLOT_ERASE_DONE (R434): The slot erase ends; the slot is WRITING and the update READY. -/
  | slotEraseDone (ok : Bool)
  /-- UPDATE_CANCEL (R435): CANCEL written to 0x2C21:01 ends the update, leaving the slot EMPTY. -/
  | updateCancel (path : Path)
  /-- UPDATE_RESTART (R436): RESTART written to 0x2C21:01 shuts down and restarts the collar on the new image. -/
  | updateRestart (path : Path)
  /-- IMAGE_DATA_WRITE (R435): Bytes of the image DOMAIN write to 0x2C20 are programmed into the target slot. -/
  | imageDataWrite (data : List Byte) (ok : Bool)
  /-- IMAGE_UPDATE_VERIFY (R435): After the last byte the slot is read back and verified, and the write's response follows. -/
  | imageUpdateVerify (m : Manifest) (checks : ImageChecks)
  /-- HEALTH_WINDOW_EXPIRY (R431): The health window elapses after DONE with no yoke or collar fault, so the trial image passes. -/
  | healthWindowExpiry
  /-- COMMIT (R440): The signature written to 0x2C10 commits the running image and advances the anti-rollback counter. -/
  | commit (path : Path) (v : W32)
  /-- CARRIER_RETURN (R53): Mid-bit transitions are seen again on the beat line after a carrier absence, ending it and setting the carrier-present flag. -/
  | carrierReturn
  /-- REFERENCE_RETURN (R374): The TCXO gives edges again after a reference loss, clearing the internal-oscillator state once the collar is reset. -/
  | referenceReturn
  /-- RECEIVED_FRAME_DISCARD (R285): A frame received on a network port fails a port receive check or ORA step 1 (FCS, length, tag, EtherType, address, malformed header) and is discarded and counted. -/
  | receivedFrameDiscard (port : PortId) (fr : EthFrame)
  /-- PLOAD_DONE (R202): Every line of a PLOAD has been written to every region tile, and the entry completes with its tiles-served result. -/
  | ploadDone (list : Nat) (idx : Nat)
  deriving DecidableEq, Repr

end Sys2Proof
end

