-- ==== Sys2Proof/Config.lean ====
section
/-! DEFINITION. The free values: what the spec leaves open and the machine still needs. -/

namespace Sys2Proof.Config

/-- The n-th free value drawn (log 4): nothing in the model knows it. State.fresh says which is next. -/
opaque freeWord : Nat → W64

/-- The payload bytes that the header of a pleat in flash states: segment, starting LBA (log 12). -/
opaque pleatPayload : Nat → Nat → Nat

/-- Whether a host supplies a spread REFCLK, by function number (R369; log 83). -/
opaque hostSpread : Nat → Bool

/-- What a prep core's identification register reads: a CSR number and the core number × 4096 (log 25). -/
opaque csrWord : Nat → W32

end Sys2Proof.Config
end

