-- ==== Sys2Proof/Machine/OdTable.lean ====
section
/-! DEFINITION. The object dictionary's table: every object of the spec's object tables, one row each (R26, R348 and the
object table of each chapter). -/

namespace Sys2Proof.Machine

/-- The types of dictionary values (R326). -/
inductive OdTy where
  | bool | u8 | u16 | u32 | u64 | i16 | i32 | str | domain
  deriving DecidableEq, Repr

/-- Access columns. -/
inductive OdAcc where
  | ro | rw | wo
  deriving DecidableEq, Repr

/-- A row of an object table: `n` consecutive indices from `index`, sub-indices `lo` to `hi`, type, access, default,
whether the PDO column reads Yes and whether the object is a setting (R337). Where a default is fused, given by the
object's meaning or a string, 0 stands here and the reader of the object gives the value. -/
structure OdRow where
  index : Nat
  n : Nat
  lo : Nat
  hi : Nat
  ty : OdTy
  acc : OdAcc
  dflt : Nat
  pdo : Bool
  setting : Bool
  deriving DecidableEq, Repr

/-- Objects 0x1000 to 0x10FF. -/
def odRows10a : List OdRow := [
  ⟨0x1000, 1, 0x0, 0x0, .u32, .ro, 0, false, false⟩,
  ⟨0x1001, 1, 0x0, 0x0, .u8, .ro, 0, true, false⟩,
  ⟨0x1003, 1, 0x0, 0x0, .u8, .rw, 0, false, false⟩,
  ⟨0x1003, 1, 0x1, 0x8, .u32, .ro, 0, false, false⟩,
  ⟨0x1005, 1, 0x0, 0x0, .u32, .rw, 0x80, false, true⟩,
  ⟨0x1008, 1, 0x0, 0x0, .str, .ro, 0, false, false⟩,
  ⟨0x1009, 1, 0x0, 0x0, .str, .ro, 0, false, false⟩,
  ⟨0x100A, 1, 0x0, 0x0, .str, .ro, 0, false, false⟩,
  ⟨0x1010, 1, 0x0, 0x0, .u8, .ro, 3, false, false⟩,
  ⟨0x1010, 1, 0x1, 0x3, .u32, .rw, 1, false, false⟩,
  ⟨0x1011, 1, 0x0, 0x0, .u8, .ro, 3, false, false⟩,
  ⟨0x1011, 1, 0x1, 0x3, .u32, .rw, 1, false, false⟩,
  ⟨0x1014, 1, 0x0, 0x0, .u32, .rw, 0, false, true⟩,
  ⟨0x1015, 1, 0x0, 0x0, .u16, .rw, 0, false, true⟩,
  ⟨0x1016, 1, 0x0, 0x0, .u8, .ro, 8, false, false⟩,
  ⟨0x1016, 1, 0x1, 0x8, .u32, .rw, 0, false, true⟩,
  ⟨0x1017, 1, 0x0, 0x0, .u16, .rw, 0x64, false, true⟩,
  ⟨0x1018, 1, 0x0, 0x0, .u8, .ro, 4, false, false⟩,
  ⟨0x1018, 1, 0x1, 0x1, .u32, .ro, 0, false, false⟩,
  ⟨0x1018, 1, 0x2, 0x2, .u32, .ro, 0x8448, false, false⟩,
  ⟨0x1018, 1, 0x3, 0x3, .u32, .ro, 0, false, false⟩,
  ⟨0x1018, 1, 0x4, 0x4, .u32, .ro, 0, false, false⟩,
  ⟨0x1029, 1, 0x0, 0x0, .u8, .ro, 1, false, false⟩,
  ⟨0x1029, 1, 0x1, 0x1, .u8, .rw, 1, false, true⟩]

/-- Objects 0x1200 to 0x12FF. -/
def odRows12a : List OdRow := [
  ⟨0x1200, 1, 0x0, 0x0, .u8, .ro, 2, false, false⟩,
  ⟨0x1200, 1, 0x1, 0x1, .u32, .ro, 0, false, false⟩,
  ⟨0x1200, 1, 0x2, 0x2, .u32, .ro, 0, false, false⟩]

/-- Objects 0x1400 to 0x14FF. -/
def odRows14a : List OdRow := [
  ⟨0x1400, 8, 0x0, 0x0, .u8, .ro, 5, false, false⟩,
  ⟨0x1400, 8, 0x1, 0x1, .u32, .rw, 0, false, true⟩,
  ⟨0x1400, 8, 0x2, 0x2, .u8, .rw, 0xFF, false, true⟩,
  ⟨0x1400, 8, 0x5, 0x5, .u16, .rw, 0, false, true⟩]

/-- Objects 0x1600 to 0x16FF. -/
def odRows16a : List OdRow := [
  ⟨0x1600, 8, 0x0, 0x0, .u8, .rw, 0, false, true⟩,
  ⟨0x1600, 8, 0x1, 0x10, .u32, .rw, 0, false, true⟩]

/-- Objects 0x1800 to 0x18FF. -/
def odRows18a : List OdRow := [
  ⟨0x1800, 8, 0x0, 0x0, .u8, .ro, 6, false, false⟩,
  ⟨0x1800, 8, 0x1, 0x1, .u32, .rw, 0, false, true⟩,
  ⟨0x1800, 8, 0x2, 0x2, .u8, .rw, 0xFE, false, true⟩,
  ⟨0x1800, 8, 0x3, 0x3, .u16, .rw, 0, false, true⟩,
  ⟨0x1800, 8, 0x5, 0x5, .u16, .rw, 0, false, true⟩,
  ⟨0x1800, 8, 0x6, 0x6, .u8, .rw, 0, false, true⟩]

/-- Objects 0x1A00 to 0x1AFF. -/
def odRows1Aa : List OdRow := [
  ⟨0x1A00, 8, 0x0, 0x0, .u8, .rw, 0, false, true⟩,
  ⟨0x1A00, 8, 0x1, 0x10, .u32, .rw, 0, false, true⟩]

/-- Objects 0x1F00 to 0x1FFF. -/
def odRows1Fa : List OdRow := [
  ⟨0x1FD0, 1, 0x0, 0x0, .u8, .ro, 2, false, false⟩,
  ⟨0x1FD0, 1, 0x1, 0x1, .u8, .rw, 3, false, true⟩,
  ⟨0x1FD0, 1, 0x2, 0x2, .bool, .rw, 0, false, true⟩,
  ⟨0x1FD1, 1, 0x0, 0x0, .u8, .ro, 5, false, false⟩,
  ⟨0x1FD1, 1, 0x1, 0x1, .u8, .ro, 0, false, false⟩,
  ⟨0x1FD1, 1, 0x2, 0x2, .u8, .ro, 0, false, false⟩,
  ⟨0x1FD1, 1, 0x3, 0x3, .u8, .ro, 0, false, false⟩,
  ⟨0x1FD1, 1, 0x4, 0x4, .u8, .rw, 0, false, true⟩,
  ⟨0x1FD1, 1, 0x5, 0x5, .u8, .ro, 0, false, false⟩,
  ⟨0x1FD2, 1, 0x0, 0x0, .u8, .ro, 0xB, false, false⟩,
  ⟨0x1FD2, 1, 0x1, 0x1, .u8, .ro, 0, true, false⟩,
  ⟨0x1FD2, 1, 0x2, 0x2, .u8, .ro, 0, true, false⟩,
  ⟨0x1FD2, 1, 0x3, 0x3, .u8, .ro, 0, false, false⟩,
  ⟨0x1FD2, 1, 0x4, 0x4, .u32, .ro, 0, true, false⟩,
  ⟨0x1FD2, 1, 0x5, 0x5, .u32, .ro, 0, false, false⟩,
  ⟨0x1FD2, 1, 0x6, 0x6, .u32, .ro, 0, false, false⟩,
  ⟨0x1FD2, 1, 0x7, 0x7, .u32, .ro, 0, false, false⟩,
  ⟨0x1FD2, 1, 0x8, 0x8, .u32, .ro, 0, false, false⟩,
  ⟨0x1FD2, 1, 0x9, 0x9, .u32, .ro, 0, false, false⟩,
  ⟨0x1FD2, 1, 0xA, 0xA, .u32, .ro, 0, false, false⟩,
  ⟨0x1FD2, 1, 0xB, 0xB, .u64, .ro, 0, false, false⟩,
  ⟨0x1FD3, 1, 0x0, 0x0, .u8, .ro, 2, false, false⟩,
  ⟨0x1FD3, 1, 0x1, 0x1, .u64, .ro, 0, true, false⟩,
  ⟨0x1FD3, 1, 0x2, 0x2, .u32, .ro, 0, false, false⟩]

/-- Objects 0x1F00 to 0x1FFF. -/
def odRows1Fb : List OdRow := [
  ⟨0x1FD4, 1, 0x0, 0x0, .u8, .rw, 0, false, false⟩,
  ⟨0x1FE0, 1, 0x0, 0x0, .u8, .ro, 1, false, false⟩,
  ⟨0x1FE0, 1, 0x1, 0x1, .u16, .rw, 0x3E8, false, true⟩,
  ⟨0x1FE1, 1, 0x0, 0x0, .u8, .ro, 7, false, false⟩,
  ⟨0x1FE1, 1, 0x1, 0x1, .u32, .ro, 0, false, false⟩,
  ⟨0x1FE1, 1, 0x2, 0x2, .u32, .ro, 0, false, false⟩,
  ⟨0x1FE1, 1, 0x3, 0x3, .u32, .ro, 0, false, false⟩,
  ⟨0x1FE1, 1, 0x4, 0x4, .u32, .ro, 0, false, false⟩,
  ⟨0x1FE1, 1, 0x5, 0x5, .u32, .ro, 0, false, false⟩,
  ⟨0x1FE1, 1, 0x6, 0x6, .u32, .ro, 0, false, false⟩,
  ⟨0x1FE1, 1, 0x7, 0x7, .u32, .ro, 0, false, false⟩,
  ⟨0x1FE2, 1, 0x0, 0x0, .u8, .ro, 4, false, false⟩,
  ⟨0x1FE2, 1, 0x1, 0x1, .u32, .ro, 0, false, false⟩,
  ⟨0x1FE2, 1, 0x2, 0x2, .u32, .ro, 0, false, false⟩,
  ⟨0x1FE2, 1, 0x3, 0x3, .u32, .ro, 0, false, false⟩,
  ⟨0x1FE2, 1, 0x4, 0x4, .u32, .ro, 0, false, false⟩,
  ⟨0x1FE3, 1, 0x0, 0x0, .u8, .ro, 3, false, false⟩,
  ⟨0x1FE3, 1, 0x1, 0x1, .u32, .ro, 0, false, false⟩,
  ⟨0x1FE3, 1, 0x2, 0x2, .u32, .ro, 0, false, false⟩,
  ⟨0x1FE3, 1, 0x3, 0x3, .u32, .ro, 0, false, false⟩]

/-- Objects 0x2000 to 0x20FF. -/
def odRows20a : List OdRow := [
  ⟨0x2000, 1, 0x0, 0x0, .u8, .ro, 5, false, false⟩,
  ⟨0x2000, 1, 0x1, 0x1, .str, .ro, 0, false, false⟩,
  ⟨0x2000, 1, 0x2, 0x2, .str, .ro, 0, false, false⟩,
  ⟨0x2000, 1, 0x3, 0x3, .str, .ro, 0, false, false⟩,
  ⟨0x2000, 1, 0x4, 0x4, .u16, .ro, 0, false, false⟩,
  ⟨0x2000, 1, 0x5, 0x5, .u16, .ro, 0, false, false⟩,
  ⟨0x2001, 1, 0x0, 0x0, .u8, .ro, 8, false, false⟩,
  ⟨0x2001, 1, 0x1, 0x1, .u8, .ro, 0x40, false, false⟩,
  ⟨0x2001, 1, 0x2, 0x2, .u8, .ro, 0x58, true, false⟩,
  ⟨0x2001, 1, 0x3, 0x3, .u8, .ro, 0x60, true, false⟩,
  ⟨0x2001, 1, 0x4, 0x4, .u8, .ro, 0, true, false⟩,
  ⟨0x2001, 1, 0x5, 0x5, .u8, .ro, 0xFF, true, false⟩,
  ⟨0x2001, 1, 0x6, 0x6, .u8, .ro, 0xFF, true, false⟩,
  ⟨0x2001, 1, 0x7, 0x7, .u64, .ro, 0, true, false⟩,
  ⟨0x2001, 1, 0x8, 0x8, .u16, .ro, 0x2100, true, false⟩,
  ⟨0x2002, 1, 0x0, 0x0, .u8, .rw, 1, false, true⟩,
  ⟨0x2003, 1, 0x0, 0x0, .u8, .ro, 2, false, false⟩,
  ⟨0x2003, 1, 0x1, 0x1, .u32, .rw, 0, false, false⟩,
  ⟨0x2003, 1, 0x2, 0x2, .u32, .ro, 0, false, false⟩,
  ⟨0x2004, 1, 0x0, 0x0, .u32, .ro, 0, true, false⟩,
  ⟨0x2010, 1, 0x0, 0x0, .u8, .ro, 0x40, false, false⟩,
  ⟨0x2010, 1, 0x1, 0x40, .u16, .ro, 0, false, false⟩,
  ⟨0x2011, 1, 0x0, 0x0, .u8, .ro, 0x40, false, false⟩,
  ⟨0x2011, 1, 0x1, 0x40, .u64, .ro, 0, false, false⟩]

/-- Objects 0x2000 to 0x20FF. -/
def odRows20b : List OdRow := [
  ⟨0x2012, 1, 0x0, 0x0, .u8, .ro, 0x90, false, false⟩,
  ⟨0x2012, 1, 0x1, 0x90, .u32, .ro, 0, false, false⟩,
  ⟨0x2030, 1, 0x0, 0x0, .u8, .ro, 0x90, false, false⟩,
  ⟨0x2030, 1, 0x1, 0x90, .u32, .ro, 0, false, false⟩]

/-- Objects 0x2100 to 0x21FF. -/
def odRows21a : List OdRow := [
  ⟨0x2100, 1, 0x0, 0x0, .u8, .ro, 8, false, false⟩,
  ⟨0x2100, 1, 0x1, 0x1, .u8, .ro, 0, true, false⟩,
  ⟨0x2100, 1, 0x2, 0x2, .u16, .ro, 0, true, false⟩,
  ⟨0x2100, 1, 0x3, 0x3, .u64, .ro, 0, true, false⟩,
  ⟨0x2100, 1, 0x4, 0x4, .u64, .ro, 0, true, false⟩,
  ⟨0x2100, 1, 0x5, 0x5, .u16, .ro, 0, true, false⟩,
  ⟨0x2100, 1, 0x6, 0x6, .u8, .ro, 0, false, false⟩,
  ⟨0x2100, 1, 0x7, 0x7, .u32, .ro, 0, false, false⟩,
  ⟨0x2100, 1, 0x8, 0x8, .i32, .ro, 0, false, false⟩,
  ⟨0x2101, 1, 0x0, 0x0, .u8, .ro, 3, false, false⟩,
  ⟨0x2101, 1, 0x1, 0x1, .u16, .ro, 0, true, false⟩,
  ⟨0x2101, 1, 0x2, 0x2, .u32, .ro, 0, false, false⟩,
  ⟨0x2101, 1, 0x3, 0x3, .u32, .ro, 0, false, false⟩,
  ⟨0x2102, 1, 0x0, 0x0, .u8, .ro, 0xC, false, false⟩,
  ⟨0x2102, 1, 0x1, 0xC, .u32, .ro, 0, false, false⟩,
  ⟨0x2103, 1, 0x0, 0x0, .u8, .ro, 3, false, false⟩,
  ⟨0x2103, 1, 0x1, 0x1, .u16, .rw, 0x2710, false, true⟩,
  ⟨0x2103, 1, 0x2, 0x2, .bool, .rw, 1, false, true⟩,
  ⟨0x2103, 1, 0x3, 0x3, .u8, .rw, 0, false, true⟩,
  ⟨0x2110, 1, 0x0, 0x0, .u8, .ro, 3, false, false⟩,
  ⟨0x2110, 1, 0x1, 0x1, .u16, .ro, 0, true, false⟩,
  ⟨0x2110, 1, 0x2, 0x2, .u16, .ro, 0, true, false⟩,
  ⟨0x2110, 1, 0x3, 0x3, .u64, .ro, 0, false, false⟩,
  ⟨0x2120, 1, 0x0, 0x0, .u8, .ro, 0x40, false, false⟩]

/-- Objects 0x2100 to 0x21FF. -/
def odRows21b : List OdRow := [
  ⟨0x2120, 1, 0x1, 0x40, .u64, .ro, 0, false, false⟩,
  ⟨0x2121, 1, 0x0, 0x0, .u8, .ro, 0x40, false, false⟩,
  ⟨0x2121, 1, 0x1, 0x40, .u16, .ro, 0, false, false⟩,
  ⟨0x2130, 1, 0x0, 0x0, .u8, .ro, 4, false, false⟩,
  ⟨0x2130, 1, 0x1, 0x1, .u16, .rw, 0, false, false⟩,
  ⟨0x2130, 1, 0x2, 0x2, .u64, .ro, 0, false, false⟩,
  ⟨0x2130, 1, 0x3, 0x3, .u32, .ro, 0, false, false⟩,
  ⟨0x2130, 1, 0x4, 0x4, .u64, .ro, 0, false, false⟩]

/-- Objects 0x2200 to 0x22FF. -/
def odRows22a : List OdRow := [
  ⟨0x2200, 1, 0x0, 0x0, .u8, .ro, 8, false, false⟩,
  ⟨0x2200, 1, 0x1, 0x1, .u64, .ro, 0, true, false⟩,
  ⟨0x2200, 1, 0x2, 0x2, .u64, .ro, 0, false, false⟩,
  ⟨0x2200, 1, 0x3, 0x3, .u64, .ro, 0, false, false⟩,
  ⟨0x2200, 1, 0x4, 0x4, .u64, .ro, 0, true, false⟩,
  ⟨0x2200, 1, 0x5, 0x5, .u64, .ro, 0, true, false⟩,
  ⟨0x2200, 1, 0x6, 0x6, .u64, .ro, 0, true, false⟩,
  ⟨0x2200, 1, 0x7, 0x7, .u64, .ro, 0, false, false⟩,
  ⟨0x2200, 1, 0x8, 0x8, .u64, .ro, 0, true, false⟩,
  ⟨0x2202, 1, 0x0, 0x0, .u8, .rw, 0x10, false, true⟩,
  ⟨0x2210, 1, 0x0, 0x0, .u8, .ro, 0x40, false, false⟩,
  ⟨0x2210, 1, 0x1, 0x40, .u16, .rw, 0x44C, true, true⟩,
  ⟨0x2211, 1, 0x0, 0x0, .u8, .ro, 0x40, false, false⟩,
  ⟨0x2211, 1, 0x1, 0x40, .u16, .ro, 0x44C, true, false⟩,
  ⟨0x2220, 1, 0x0, 0x0, .u8, .ro, 3, false, false⟩,
  ⟨0x2220, 1, 0x1, 0x1, .u16, .rw, 0, false, false⟩,
  ⟨0x2220, 1, 0x2, 0x2, .u32, .ro, 0, false, false⟩,
  ⟨0x2220, 1, 0x3, 0x3, .u64, .ro, 0, false, false⟩]

/-- Objects 0x2300 to 0x23FF. -/
def odRows23a : List OdRow := [
  ⟨0x2300, 1, 0x0, 0x0, .u8, .ro, 0xC, false, false⟩,
  ⟨0x2300, 1, 0x1, 0x1, .u64, .ro, 0, false, false⟩,
  ⟨0x2300, 1, 0x2, 0x2, .u64, .ro, 0, true, false⟩,
  ⟨0x2300, 1, 0x3, 0x3, .u64, .ro, 0, true, false⟩,
  ⟨0x2300, 1, 0x4, 0x4, .u64, .ro, 0, false, false⟩,
  ⟨0x2300, 1, 0x5, 0x5, .u64, .ro, 0, true, false⟩,
  ⟨0x2300, 1, 0x6, 0x6, .u64, .ro, 0, false, false⟩,
  ⟨0x2300, 1, 0x7, 0x7, .u64, .ro, 0, false, false⟩,
  ⟨0x2300, 1, 0x8, 0x8, .u64, .ro, 0, false, false⟩,
  ⟨0x2300, 1, 0x9, 0x9, .u64, .ro, 0, false, false⟩,
  ⟨0x2300, 1, 0xA, 0xA, .u64, .ro, 0, true, false⟩,
  ⟨0x2300, 1, 0xB, 0xB, .u64, .ro, 0, true, false⟩,
  ⟨0x2300, 1, 0xC, 0xC, .u64, .ro, 0, false, false⟩,
  ⟨0x2301, 1, 0x0, 0x0, .u8, .ro, 3, false, false⟩,
  ⟨0x2301, 1, 0x1, 0x1, .u8, .rw, 0, false, true⟩,
  ⟨0x2301, 1, 0x2, 0x2, .u8, .rw, 0, false, true⟩,
  ⟨0x2301, 1, 0x3, 0x3, .u8, .rw, 7, false, true⟩,
  ⟨0x2310, 1, 0x0, 0x0, .u8, .ro, 5, false, false⟩,
  ⟨0x2310, 1, 0x1, 0x1, .u16, .rw, 0, false, false⟩,
  ⟨0x2310, 1, 0x2, 0x2, .u64, .ro, 0, false, false⟩,
  ⟨0x2310, 1, 0x3, 0x3, .u64, .ro, 0, false, false⟩,
  ⟨0x2310, 1, 0x4, 0x4, .u64, .ro, 0, false, false⟩,
  ⟨0x2310, 1, 0x5, 0x5, .u64, .ro, 0, false, false⟩]

/-- Objects 0x2400 to 0x24FF. -/
def odRows24a : List OdRow := [
  ⟨0x2400, 1, 0x0, 0x0, .u8, .ro, 4, false, false⟩,
  ⟨0x2400, 1, 0x1, 0x1, .u16, .ro, 0xFFFF, true, false⟩,
  ⟨0x2400, 1, 0x2, 0x2, .u16, .ro, 0xFFFF, true, false⟩,
  ⟨0x2400, 1, 0x3, 0x3, .u16, .ro, 0, false, false⟩,
  ⟨0x2400, 1, 0x4, 0x4, .u16, .ro, 0, true, false⟩,
  ⟨0x2401, 1, 0x0, 0x0, .u8, .ro, 8, false, false⟩,
  ⟨0x2401, 1, 0x1, 0x1, .u8, .rw, 0x50, false, true⟩,
  ⟨0x2401, 1, 0x2, 0x2, .u8, .rw, 0x50, false, true⟩,
  ⟨0x2401, 1, 0x3, 0x3, .u16, .rw, 0x19, false, true⟩,
  ⟨0x2401, 1, 0x4, 0x4, .u8, .rw, 4, false, true⟩,
  ⟨0x2401, 1, 0x5, 0x5, .u8, .rw, 3, false, true⟩,
  ⟨0x2401, 1, 0x6, 0x6, .u16, .rw, 0x3E8, false, true⟩,
  ⟨0x2401, 1, 0x7, 0x7, .u16, .rw, 0x3C, false, true⟩,
  ⟨0x2401, 1, 0x8, 0x8, .u32, .rw, 0x32C8, false, true⟩,
  ⟨0x2402, 1, 0x0, 0x0, .u8, .ro, 2, false, false⟩,
  ⟨0x2402, 1, 0x1, 0x1, .u32, .ro, 0, false, false⟩,
  ⟨0x2402, 1, 0x2, 0x2, .u32, .ro, 0, false, false⟩,
  ⟨0x2403, 1, 0x0, 0x0, .u8, .ro, 9, false, false⟩,
  ⟨0x2403, 1, 0x1, 0x1, .u64, .ro, 0, true, false⟩,
  ⟨0x2403, 1, 0x2, 0x2, .u64, .ro, 0, true, false⟩,
  ⟨0x2403, 1, 0x3, 0x3, .u64, .ro, 0, true, false⟩,
  ⟨0x2403, 1, 0x4, 0x4, .u64, .ro, 0, true, false⟩,
  ⟨0x2403, 1, 0x5, 0x5, .u64, .ro, 0, true, false⟩,
  ⟨0x2403, 1, 0x6, 0x6, .u64, .ro, 0, false, false⟩]

/-- Objects 0x2400 to 0x24FF. -/
def odRows24b : List OdRow := [
  ⟨0x2403, 1, 0x7, 0x7, .u64, .ro, 0, false, false⟩,
  ⟨0x2403, 1, 0x8, 0x8, .u64, .ro, 0, false, false⟩,
  ⟨0x2403, 1, 0x9, 0x9, .u64, .ro, 0, false, false⟩,
  ⟨0x2410, 1, 0x0, 0x0, .u8, .ro, 0xD, false, false⟩,
  ⟨0x2410, 1, 0x1, 0x1, .u8, .rw, 0, false, false⟩,
  ⟨0x2410, 1, 0x2, 0x2, .u32, .ro, 0, false, false⟩,
  ⟨0x2410, 1, 0x3, 0x3, .u64, .ro, 0, false, false⟩,
  ⟨0x2410, 1, 0x4, 0x4, .u64, .ro, 0, false, false⟩,
  ⟨0x2410, 1, 0x5, 0x5, .u64, .ro, 0, false, false⟩,
  ⟨0x2410, 1, 0x6, 0x6, .u64, .ro, 0, false, false⟩,
  ⟨0x2410, 1, 0x7, 0x7, .u64, .ro, 0, false, false⟩,
  ⟨0x2410, 1, 0x8, 0x8, .u64, .ro, 0, false, false⟩,
  ⟨0x2410, 1, 0x9, 0x9, .u64, .ro, 0, false, false⟩,
  ⟨0x2410, 1, 0xA, 0xA, .u64, .ro, 0, false, false⟩,
  ⟨0x2410, 1, 0xB, 0xB, .u64, .ro, 0, false, false⟩,
  ⟨0x2410, 1, 0xC, 0xC, .u8, .ro, 0, false, false⟩,
  ⟨0x2410, 1, 0xD, 0xD, .u32, .ro, 0, false, false⟩,
  ⟨0x2430, 1, 0x0, 0x0, .u8, .ro, 4, false, false⟩,
  ⟨0x2430, 1, 0x1, 0x1, .u8, .rw, 0, false, false⟩,
  ⟨0x2430, 1, 0x2, 0x2, .u64, .ro, 0, false, false⟩,
  ⟨0x2430, 1, 0x3, 0x3, .u32, .ro, 0, false, false⟩,
  ⟨0x2430, 1, 0x4, 0x4, .u64, .ro, 0, false, false⟩]

/-- Objects 0x2500 to 0x25FF. -/
def odRows25a : List OdRow := [
  ⟨0x2500, 1, 0x0, 0x0, .u8, .ro, 4, false, false⟩,
  ⟨0x2500, 1, 0x1, 0x1, .u16, .ro, 0, true, false⟩,
  ⟨0x2500, 1, 0x2, 0x2, .u16, .ro, 0, true, false⟩,
  ⟨0x2500, 1, 0x3, 0x3, .u32, .ro, 0, false, false⟩,
  ⟨0x2500, 1, 0x4, 0x4, .u8, .rw, 0x28, false, true⟩,
  ⟨0x2501, 1, 0x0, 0x0, .u8, .ro, 8, false, false⟩,
  ⟨0x2501, 1, 0x1, 0x1, .u16, .ro, 0, false, false⟩,
  ⟨0x2501, 1, 0x2, 0x2, .u64, .ro, 0, true, false⟩,
  ⟨0x2501, 1, 0x3, 0x3, .u64, .ro, 0, true, false⟩,
  ⟨0x2501, 1, 0x4, 0x4, .u64, .ro, 0, false, false⟩,
  ⟨0x2501, 1, 0x5, 0x5, .u64, .ro, 0, false, false⟩,
  ⟨0x2501, 1, 0x6, 0x6, .u64, .ro, 0, false, false⟩,
  ⟨0x2501, 1, 0x7, 0x7, .u64, .ro, 0, false, false⟩,
  ⟨0x2501, 1, 0x8, 0x8, .u64, .ro, 0, false, false⟩,
  ⟨0x2502, 1, 0x0, 0x0, .u8, .ro, 6, false, false⟩,
  ⟨0x2502, 1, 0x1, 0x1, .u8, .rw, 0x5A, true, true⟩,
  ⟨0x2502, 1, 0x3, 0x3, .u16, .rw, 0x96, false, true⟩,
  ⟨0x2502, 1, 0x4, 0x4, .u16, .rw, 0x40, false, true⟩,
  ⟨0x2502, 1, 0x5, 0x5, .u64, .ro, 0, false, false⟩,
  ⟨0x2502, 1, 0x6, 0x6, .u64, .ro, 0, false, false⟩,
  ⟨0x2503, 1, 0x0, 0x0, .u8, .ro, 7, false, false⟩,
  ⟨0x2503, 1, 0x1, 0x1, .u64, .ro, 0, true, false⟩,
  ⟨0x2503, 1, 0x2, 0x2, .u64, .ro, 0, true, false⟩,
  ⟨0x2503, 1, 0x3, 0x3, .u64, .ro, 0, true, false⟩]

/-- Objects 0x2500 to 0x25FF. -/
def odRows25b : List OdRow := [
  ⟨0x2503, 1, 0x4, 0x4, .u64, .ro, 0, true, false⟩,
  ⟨0x2503, 1, 0x5, 0x5, .u64, .ro, 0, false, false⟩,
  ⟨0x2503, 1, 0x6, 0x6, .u64, .ro, 0, false, false⟩,
  ⟨0x2503, 1, 0x7, 0x7, .u64, .ro, 0, false, false⟩,
  ⟨0x2504, 1, 0x0, 0x0, .u8, .ro, 8, false, false⟩,
  ⟨0x2504, 1, 0x1, 0x8, .u16, .ro, 0, true, false⟩,
  ⟨0x2505, 1, 0x0, 0x0, .u8, .ro, 8, false, false⟩,
  ⟨0x2505, 1, 0x1, 0x8, .u64, .ro, 0, false, false⟩,
  ⟨0x2506, 1, 0x0, 0x0, .u8, .ro, 3, false, false⟩,
  ⟨0x2506, 1, 0x1, 0x1, .u16, .ro, 0, true, false⟩,
  ⟨0x2506, 1, 0x2, 0x2, .u16, .rw, 0, false, false⟩,
  ⟨0x2506, 1, 0x3, 0x3, .u64, .ro, 0, false, false⟩]

/-- Objects 0x2600 to 0x26FF. -/
def odRows26a : List OdRow := [
  ⟨0x2600, 1, 0x0, 0x0, .u8, .ro, 0xE, false, false⟩,
  ⟨0x2600, 1, 0x1, 0x1, .u64, .ro, 0, true, false⟩,
  ⟨0x2600, 1, 0x2, 0x2, .u64, .ro, 0, true, false⟩,
  ⟨0x2600, 1, 0x3, 0x3, .u64, .ro, 0, false, false⟩,
  ⟨0x2600, 1, 0x4, 0x4, .u64, .ro, 0, true, false⟩,
  ⟨0x2600, 1, 0x5, 0x5, .u64, .ro, 0, false, false⟩,
  ⟨0x2600, 1, 0x6, 0x6, .u64, .ro, 0, true, false⟩,
  ⟨0x2600, 1, 0x7, 0x7, .u64, .ro, 0, false, false⟩,
  ⟨0x2600, 1, 0x8, 0x8, .u64, .ro, 0, true, false⟩,
  ⟨0x2600, 1, 0x9, 0x9, .u64, .ro, 0, false, false⟩,
  ⟨0x2600, 1, 0xA, 0xA, .u64, .ro, 0, false, false⟩,
  ⟨0x2600, 1, 0xB, 0xB, .u64, .ro, 0, false, false⟩,
  ⟨0x2600, 1, 0xC, 0xC, .u64, .ro, 0, false, false⟩,
  ⟨0x2600, 1, 0xD, 0xD, .u64, .ro, 0, false, false⟩,
  ⟨0x2600, 1, 0xE, 0xE, .u64, .ro, 0, false, false⟩,
  ⟨0x2601, 1, 0x0, 0x0, .u8, .ro, 2, false, false⟩,
  ⟨0x2601, 1, 0x1, 0x1, .u8, .rw, 0, false, true⟩,
  ⟨0x2601, 1, 0x2, 0x2, .u16, .ro, 0, true, false⟩,
  ⟨0x2610, 1, 0x0, 0x0, .u8, .ro, 0x10, false, false⟩,
  ⟨0x2610, 1, 0x1, 0x10, .u64, .rw, 0x400000404046, false, true⟩,
  ⟨0x2611, 1, 0x0, 0x0, .u8, .ro, 0x10, false, false⟩,
  ⟨0x2611, 1, 0x1, 0x10, .u64, .rw, 0, false, true⟩,
  ⟨0x2620, 1, 0x0, 0x0, .u8, .ro, 4, false, false⟩,
  ⟨0x2620, 1, 0x1, 0x1, .u16, .rw, 0, false, false⟩]

/-- Objects 0x2600 to 0x26FF. -/
def odRows26b : List OdRow := [
  ⟨0x2620, 1, 0x2, 0x2, .u64, .ro, 0, false, false⟩,
  ⟨0x2620, 1, 0x3, 0x3, .u64, .ro, 0, false, false⟩,
  ⟨0x2620, 1, 0x4, 0x4, .u32, .ro, 0, false, false⟩,
  ⟨0x2621, 1, 0x0, 0x0, .u8, .ro, 2, false, false⟩,
  ⟨0x2621, 1, 0x1, 0x1, .u32, .rw, 0, false, false⟩,
  ⟨0x2621, 1, 0x2, 0x2, .u64, .ro, 0, false, false⟩]

/-- Objects 0x2700 to 0x27FF. -/
def odRows27a : List OdRow := [
  ⟨0x2700, 1, 0x0, 0x0, .u8, .ro, 4, false, false⟩,
  ⟨0x2700, 1, 0x1, 0x1, .u16, .rw, 1, false, true⟩,
  ⟨0x2700, 1, 0x2, 0x2, .u16, .rw, 0x88B5, false, true⟩,
  ⟨0x2700, 1, 0x3, 0x3, .u16, .rw, 0x1000, false, true⟩,
  ⟨0x2700, 1, 0x4, 0x4, .u32, .rw, 0x24F5241, false, true⟩,
  ⟨0x2701, 1, 0x0, 0x0, .u8, .ro, 6, false, false⟩,
  ⟨0x2701, 1, 0x1, 0x1, .u8, .rw, 8, false, true⟩,
  ⟨0x2701, 1, 0x2, 0x2, .u8, .rw, 2, false, true⟩,
  ⟨0x2701, 1, 0x3, 0x3, .u16, .rw, 0x64, false, true⟩,
  ⟨0x2701, 1, 0x4, 0x4, .u8, .rw, 7, false, true⟩,
  ⟨0x2701, 1, 0x5, 0x5, .u16, .rw, 0xC8, false, true⟩,
  ⟨0x2701, 1, 0x6, 0x6, .u16, .rw, 0x64, false, true⟩,
  ⟨0x2702, 1, 0x0, 0x0, .u8, .ro, 0xE, false, false⟩,
  ⟨0x2702, 1, 0x1, 0x1, .u64, .ro, 0, true, false⟩,
  ⟨0x2702, 1, 0x2, 0x2, .u64, .ro, 0, true, false⟩,
  ⟨0x2702, 1, 0x3, 0x3, .u64, .ro, 0, true, false⟩,
  ⟨0x2702, 1, 0x4, 0x4, .u64, .ro, 0, false, false⟩,
  ⟨0x2702, 1, 0x5, 0x5, .u64, .ro, 0, false, false⟩,
  ⟨0x2702, 1, 0x6, 0x6, .u64, .ro, 0, true, false⟩,
  ⟨0x2702, 1, 0x7, 0x7, .u64, .ro, 0, false, false⟩,
  ⟨0x2702, 1, 0x8, 0x8, .u64, .ro, 0, false, false⟩,
  ⟨0x2702, 1, 0x9, 0x9, .u64, .ro, 0, true, false⟩,
  ⟨0x2702, 1, 0xA, 0xA, .u64, .ro, 0, true, false⟩,
  ⟨0x2702, 1, 0xB, 0xB, .u64, .ro, 0, false, false⟩]

/-- Objects 0x2700 to 0x27FF. -/
def odRows27b : List OdRow := [
  ⟨0x2702, 1, 0xC, 0xC, .u64, .ro, 0, false, false⟩,
  ⟨0x2702, 1, 0xD, 0xD, .u64, .ro, 0, false, false⟩,
  ⟨0x2702, 1, 0xE, 0xE, .u64, .ro, 0, true, false⟩,
  ⟨0x2703, 1, 0x0, 0x0, .u8, .ro, 4, false, false⟩,
  ⟨0x2703, 1, 0x1, 0x1, .u32, .ro, 0, true, false⟩,
  ⟨0x2703, 1, 0x2, 0x2, .u32, .ro, 0, true, false⟩,
  ⟨0x2703, 1, 0x3, 0x3, .u16, .ro, 0, false, false⟩,
  ⟨0x2703, 1, 0x4, 0x4, .u16, .ro, 0, false, false⟩,
  ⟨0x2710, 1, 0x0, 0x0, .u8, .ro, 5, false, false⟩,
  ⟨0x2710, 1, 0x1, 0x1, .u16, .rw, 0, false, false⟩,
  ⟨0x2710, 1, 0x2, 0x2, .u64, .ro, 0, false, false⟩,
  ⟨0x2710, 1, 0x3, 0x3, .u64, .ro, 0, false, false⟩,
  ⟨0x2710, 1, 0x4, 0x4, .u64, .ro, 0, false, false⟩,
  ⟨0x2710, 1, 0x5, 0x5, .u32, .ro, 0, false, false⟩,
  ⟨0x2720, 1, 0x0, 0x0, .u8, .ro, 2, false, false⟩,
  ⟨0x2720, 1, 0x1, 0x1, .u16, .rw, 0, false, false⟩,
  ⟨0x2720, 1, 0x2, 0x2, .u64, .ro, 0, false, false⟩]

/-- Objects 0x2800 to 0x28FF. -/
def odRows28a : List OdRow := [
  ⟨0x2800, 1, 0x0, 0x0, .u8, .ro, 8, false, false⟩,
  ⟨0x2800, 1, 0x1, 0x8, .u16, .ro, 0, true, false⟩,
  ⟨0x2801, 1, 0x0, 0x0, .u8, .ro, 8, false, false⟩,
  ⟨0x2801, 1, 0x1, 0x8, .u8, .rw, 1, false, true⟩,
  ⟨0x2802, 1, 0x0, 0x0, .u8, .ro, 9, false, false⟩,
  ⟨0x2802, 1, 0x1, 0x1, .u16, .rw, 0x12C, false, true⟩,
  ⟨0x2802, 1, 0x2, 0x2, .u16, .rw, 4, false, true⟩,
  ⟨0x2802, 1, 0x3, 0x3, .bool, .rw, 0, false, false⟩,
  ⟨0x2802, 1, 0x4, 0x4, .u16, .ro, 0, true, false⟩,
  ⟨0x2802, 1, 0x5, 0x5, .u16, .ro, 0, true, false⟩,
  ⟨0x2802, 1, 0x6, 0x6, .u64, .ro, 0, false, false⟩,
  ⟨0x2802, 1, 0x7, 0x7, .u64, .ro, 0, false, false⟩,
  ⟨0x2802, 1, 0x8, 0x8, .u64, .ro, 0, true, false⟩,
  ⟨0x2802, 1, 0x9, 0x9, .u64, .ro, 0, false, false⟩,
  ⟨0x2803, 1, 0x0, 0x0, .u8, .ro, 3, false, false⟩,
  ⟨0x2803, 1, 0x1, 0x1, .u16, .rw, 0, false, false⟩,
  ⟨0x2803, 1, 0x2, 0x2, .u32, .ro, 0, false, false⟩,
  ⟨0x2803, 1, 0x3, 0x3, .u32, .rw, 0, false, false⟩,
  ⟨0x2810, 1, 0x0, 0x0, .u8, .ro, 0x40, false, false⟩,
  ⟨0x2810, 1, 0x1, 0x40, .u32, .rw, 0x61A80, false, true⟩,
  ⟨0x2811, 1, 0x0, 0x0, .u8, .ro, 0x40, false, false⟩,
  ⟨0x2811, 1, 0x1, 0x40, .u32, .rw, 0x10000, false, true⟩,
  ⟨0x2812, 1, 0x0, 0x0, .u8, .ro, 0x40, false, false⟩,
  ⟨0x2812, 1, 0x1, 0x40, .i32, .ro, 0x10000, false, false⟩]

/-- Objects 0x2800 to 0x28FF. -/
def odRows28b : List OdRow := [
  ⟨0x2820, 8, 0x0, 0x0, .u8, .ro, 0xE, false, false⟩,
  ⟨0x2820, 8, 0x1, 0x1, .u64, .ro, 0, true, false⟩,
  ⟨0x2820, 8, 0x2, 0x2, .u64, .ro, 0, true, false⟩,
  ⟨0x2820, 8, 0x3, 0x3, .u64, .ro, 0, true, false⟩,
  ⟨0x2820, 8, 0x4, 0x4, .u64, .ro, 0, true, false⟩,
  ⟨0x2820, 8, 0x5, 0x5, .u64, .ro, 0, true, false⟩,
  ⟨0x2820, 8, 0x6, 0x6, .u64, .ro, 0, false, false⟩,
  ⟨0x2820, 8, 0x7, 0x7, .u64, .ro, 0, true, false⟩,
  ⟨0x2820, 8, 0x8, 0x8, .u64, .ro, 0, false, false⟩,
  ⟨0x2820, 8, 0x9, 0x9, .u64, .ro, 0, false, false⟩,
  ⟨0x2820, 8, 0xA, 0xA, .u64, .ro, 0, false, false⟩,
  ⟨0x2820, 8, 0xB, 0xB, .u64, .ro, 0, false, false⟩,
  ⟨0x2820, 8, 0xC, 0xC, .u64, .ro, 0, false, false⟩,
  ⟨0x2820, 8, 0xD, 0xD, .u64, .ro, 0, false, false⟩,
  ⟨0x2820, 8, 0xE, 0xE, .u64, .ro, 0, false, false⟩,
  ⟨0x2830, 1, 0x0, 0x0, .u8, .ro, 0x40, false, false⟩,
  ⟨0x2830, 1, 0x1, 0x40, .u64, .ro, 0, false, false⟩,
  ⟨0x2831, 1, 0x0, 0x0, .u8, .ro, 0x40, false, false⟩,
  ⟨0x2831, 1, 0x1, 0x40, .u64, .ro, 0, false, false⟩]

/-- Objects 0x2900 to 0x29FF. -/
def odRows29a : List OdRow := [
  ⟨0x2900, 1, 0x0, 0x0, .u8, .ro, 4, false, false⟩,
  ⟨0x2900, 1, 0x1, 0x1, .u16, .ro, 0, true, false⟩,
  ⟨0x2900, 1, 0x2, 0x2, .u16, .ro, 0, true, false⟩,
  ⟨0x2900, 1, 0x3, 0x3, .u16, .ro, 0, false, false⟩,
  ⟨0x2900, 1, 0x4, 0x4, .u8, .ro, 5, true, false⟩,
  ⟨0x2901, 1, 0x0, 0x0, .u8, .ro, 5, false, false⟩,
  ⟨0x2901, 1, 0x1, 0x1, .u16, .rw, 0x3C8C, true, true⟩,
  ⟨0x2901, 1, 0x2, 0x2, .u16, .ro, 0x3C8C, true, false⟩,
  ⟨0x2901, 1, 0x3, 0x3, .u8, .ro, 0, true, false⟩,
  ⟨0x2901, 1, 0x4, 0x4, .u64, .ro, 0, false, false⟩,
  ⟨0x2901, 1, 0x5, 0x5, .u64, .ro, 0, false, false⟩,
  ⟨0x2910, 1, 0x0, 0x0, .u8, .ro, 0xAB, false, false⟩,
  ⟨0x2910, 1, 0x1, 0xAB, .u8, .ro, 0, false, false⟩,
  ⟨0x2911, 1, 0x0, 0x0, .u8, .ro, 0xAB, false, false⟩,
  ⟨0x2911, 1, 0x1, 0xAB, .u8, .rw, 0, false, false⟩,
  ⟨0x2920, 1, 0x0, 0x0, .u8, .ro, 0x40, false, false⟩,
  ⟨0x2920, 1, 0x1, 0x40, .u16, .ro, 0, true, false⟩,
  ⟨0x2921, 1, 0x0, 0x0, .u64, .rw, 0, false, false⟩,
  ⟨0x2922, 1, 0x0, 0x0, .u8, .ro, 0x40, false, false⟩,
  ⟨0x2922, 1, 0x1, 0x40, .u8, .rw, 0, false, false⟩,
  ⟨0x2923, 1, 0x0, 0x0, .u8, .ro, 0x40, false, false⟩,
  ⟨0x2923, 1, 0x1, 0x40, .u32, .ro, 0, false, false⟩,
  ⟨0x2924, 1, 0x0, 0x0, .u8, .ro, 0x40, false, false⟩,
  ⟨0x2924, 1, 0x1, 0x40, .i16, .ro, 0, false, false⟩]

/-- Objects 0x2900 to 0x29FF. -/
def odRows29b : List OdRow := [
  ⟨0x2925, 1, 0x0, 0x0, .u8, .ro, 0x40, false, false⟩,
  ⟨0x2925, 1, 0x1, 0x40, .u16, .ro, 0, false, false⟩,
  ⟨0x2930, 1, 0x0, 0x0, .u8, .ro, 9, false, false⟩,
  ⟨0x2930, 1, 0x1, 0x1, .i16, .ro, 0, true, false⟩,
  ⟨0x2930, 1, 0x2, 0x2, .i16, .ro, 0, true, false⟩,
  ⟨0x2930, 1, 0x3, 0x3, .u16, .ro, 0, true, false⟩,
  ⟨0x2930, 1, 0x4, 0x4, .u8, .ro, 0, true, false⟩,
  ⟨0x2930, 1, 0x5, 0x5, .i16, .rw, 0x226, false, true⟩,
  ⟨0x2930, 1, 0x6, 0x6, .i16, .rw, 0x28A, false, true⟩,
  ⟨0x2930, 1, 0x7, 0x7, .i16, .rw, 0x2BC, false, true⟩,
  ⟨0x2930, 1, 0x8, 0x8, .u16, .rw, 0x2EE0, false, true⟩,
  ⟨0x2930, 1, 0x9, 0x9, .i16, .rw, 0x41A, false, true⟩,
  ⟨0x2940, 1, 0x0, 0x0, .u8, .ro, 4, false, false⟩,
  ⟨0x2940, 1, 0x1, 0x1, .bool, .rw, 1, false, true⟩,
  ⟨0x2940, 1, 0x2, 0x2, .bool, .rw, 1, false, true⟩,
  ⟨0x2940, 1, 0x3, 0x3, .u8, .ro, 1, false, false⟩,
  ⟨0x2940, 1, 0x4, 0x4, .i32, .ro, 0, false, false⟩,
  ⟨0x2942, 1, 0x0, 0x0, .u8, .ro, 2, false, false⟩,
  ⟨0x2942, 1, 0x1, 0x1, .u16, .rw, 0, false, false⟩,
  ⟨0x2942, 1, 0x2, 0x2, .u32, .ro, 0, false, false⟩,
  ⟨0x2950, 1, 0x0, 0x0, .u8, .ro, 2, false, false⟩,
  ⟨0x2950, 1, 0x1, 0x1, .u8, .rw, 0, false, true⟩,
  ⟨0x2950, 1, 0x2, 0x2, .u8, .rw, 0, false, true⟩,
  ⟨0x2960, 1, 0x0, 0x0, .u8, .ro, 7, false, false⟩]

/-- Objects 0x2900 to 0x29FF. -/
def odRows29c : List OdRow := [
  ⟨0x2960, 1, 0x1, 0x1, .u64, .ro, 0, true, false⟩,
  ⟨0x2960, 1, 0x2, 0x2, .u64, .ro, 0, true, false⟩,
  ⟨0x2960, 1, 0x3, 0x3, .u64, .ro, 0, false, false⟩,
  ⟨0x2960, 1, 0x4, 0x4, .u64, .ro, 0, false, false⟩,
  ⟨0x2960, 1, 0x5, 0x5, .u64, .ro, 0, false, false⟩,
  ⟨0x2960, 1, 0x6, 0x6, .u64, .ro, 0, false, false⟩,
  ⟨0x2960, 1, 0x7, 0x7, .u64, .ro, 0, false, false⟩]

/-- Objects 0x2A00 to 0x2AFF. -/
def odRows2Aa : List OdRow := [
  ⟨0x2A00, 1, 0x0, 0x0, .u8, .ro, 0xB, false, false⟩,
  ⟨0x2A00, 1, 0x1, 0x1, .u8, .ro, 0, true, false⟩,
  ⟨0x2A00, 1, 0x2, 0x2, .u8, .ro, 0, true, false⟩,
  ⟨0x2A00, 1, 0x3, 0x3, .u8, .ro, 0xF, true, false⟩,
  ⟨0x2A00, 1, 0x4, 0x4, .u8, .ro, 0, false, false⟩,
  ⟨0x2A00, 1, 0x5, 0x5, .u32, .ro, 0, false, false⟩,
  ⟨0x2A00, 1, 0x6, 0x6, .u32, .ro, 0, false, false⟩,
  ⟨0x2A00, 1, 0x7, 0x7, .u32, .ro, 0, false, false⟩,
  ⟨0x2A00, 1, 0x8, 0x8, .u8, .ro, 0, false, false⟩,
  ⟨0x2A00, 1, 0x9, 0x9, .u32, .ro, 0, false, false⟩,
  ⟨0x2A00, 1, 0xA, 0xA, .u8, .ro, 0, false, false⟩,
  ⟨0x2A00, 1, 0xB, 0xB, .u32, .ro, 0, false, false⟩,
  ⟨0x2A01, 1, 0x0, 0x0, .u8, .ro, 2, false, false⟩,
  ⟨0x2A01, 1, 0x1, 0x1, .bool, .rw, 1, false, true⟩,
  ⟨0x2A01, 1, 0x2, 0x2, .u8, .rw, 3, false, true⟩,
  ⟨0x2A10, 1, 0x0, 0x0, .u8, .ro, 0x10, false, false⟩,
  ⟨0x2A10, 1, 0x1, 0x10, .u32, .ro, 0, false, false⟩,
  ⟨0x2A11, 1, 0x0, 0x0, .u8, .ro, 0x40, false, false⟩,
  ⟨0x2A11, 1, 0x1, 0x40, .u32, .ro, 0, false, false⟩,
  ⟨0x2A12, 1, 0x0, 0x0, .u16, .ro, 0, false, false⟩]

/-- Objects 0x2B00 to 0x2BFF. -/
def odRows2Ba : List OdRow := [
  ⟨0x2B00, 1, 0x0, 0x0, .u8, .ro, 9, false, false⟩,
  ⟨0x2B00, 1, 0x1, 0x1, .u64, .ro, 0, true, false⟩,
  ⟨0x2B00, 1, 0x2, 0x2, .u64, .ro, 0, true, false⟩,
  ⟨0x2B00, 1, 0x3, 0x3, .u64, .ro, 0, true, false⟩,
  ⟨0x2B00, 1, 0x4, 0x4, .u64, .ro, 0, false, false⟩,
  ⟨0x2B00, 1, 0x5, 0x5, .u64, .ro, 0, true, false⟩,
  ⟨0x2B00, 1, 0x6, 0x6, .u64, .ro, 0, false, false⟩,
  ⟨0x2B00, 1, 0x7, 0x7, .u64, .ro, 0, true, false⟩,
  ⟨0x2B00, 1, 0x8, 0x8, .u64, .ro, 0, true, false⟩,
  ⟨0x2B00, 1, 0x9, 0x9, .u64, .ro, 0, true, false⟩,
  ⟨0x2B01, 1, 0x0, 0x0, .u8, .ro, 3, false, false⟩,
  ⟨0x2B01, 1, 0x1, 0x1, .u16, .rw, 0, false, true⟩,
  ⟨0x2B01, 1, 0x2, 0x2, .u16, .rw, 0x14, false, true⟩,
  ⟨0x2B01, 1, 0x3, 0x3, .u16, .rw, 0x40, false, true⟩,
  ⟨0x2B02, 1, 0x0, 0x0, .u8, .ro, 4, false, false⟩,
  ⟨0x2B02, 1, 0x1, 0x1, .u16, .rw, 0, false, false⟩,
  ⟨0x2B02, 1, 0x2, 0x2, .u64, .ro, 0, false, false⟩,
  ⟨0x2B02, 1, 0x3, 0x3, .u64, .ro, 0, false, false⟩,
  ⟨0x2B02, 1, 0x4, 0x4, .u32, .ro, 0, false, false⟩,
  ⟨0x2B10, 1, 0x0, 0x0, .u8, .ro, 2, false, false⟩,
  ⟨0x2B10, 1, 0x1, 0x1, .u16, .ro, 0, true, false⟩,
  ⟨0x2B10, 1, 0x2, 0x2, .u8, .ro, 0, false, false⟩,
  ⟨0x2B11, 1, 0x0, 0x0, .u8, .ro, 3, false, false⟩,
  ⟨0x2B11, 1, 0x1, 0x1, .u8, .rw, 0, false, false⟩]

/-- Objects 0x2B00 to 0x2BFF. -/
def odRows2Bb : List OdRow := [
  ⟨0x2B11, 1, 0x2, 0x2, .u64, .ro, 0, false, false⟩,
  ⟨0x2B11, 1, 0x3, 0x3, .u64, .ro, 0, false, false⟩,
  ⟨0x2B12, 1, 0x0, 0x0, .u32, .rw, 0, false, false⟩,
  ⟨0x2B20, 1, 0x0, 0x0, .u8, .ro, 9, false, false⟩,
  ⟨0x2B20, 1, 0x1, 0x1, .u16, .rw, 0, false, false⟩,
  ⟨0x2B20, 1, 0x2, 0x2, .u16, .rw, 0, false, false⟩,
  ⟨0x2B20, 1, 0x3, 0x3, .u8, .rw, 0, false, false⟩,
  ⟨0x2B20, 1, 0x4, 0x4, .u8, .rw, 1, false, false⟩,
  ⟨0x2B20, 1, 0x5, 0x5, .u64, .rw, 0, false, false⟩,
  ⟨0x2B20, 1, 0x6, 0x6, .bool, .rw, 0, false, false⟩,
  ⟨0x2B20, 1, 0x7, 0x7, .u8, .ro, 0, false, false⟩,
  ⟨0x2B20, 1, 0x8, 0x8, .u8, .ro, 0, false, false⟩,
  ⟨0x2B20, 1, 0x9, 0x9, .u8, .rw, 0, false, false⟩,
  ⟨0x2B21, 1, 0x0, 0x0, .bool, .rw, 0, false, false⟩,
  ⟨0x2B30, 1, 0x0, 0x0, .u8, .ro, 2, false, false⟩,
  ⟨0x2B30, 1, 0x1, 0x1, .bool, .rw, 0, false, false⟩,
  ⟨0x2B30, 1, 0x2, 0x2, .u64, .ro, 0, false, false⟩,
  ⟨0x2B31, 1, 0x0, 0x0, .u16, .rw, 0xFFFF, false, false⟩,
  ⟨0x2B40, 1, 0x0, 0x0, .u8, .ro, 2, false, false⟩,
  ⟨0x2B40, 1, 0x1, 0x1, .u32, .ro, 0, false, false⟩,
  ⟨0x2B40, 1, 0x2, 0x2, .u64, .ro, 0, false, false⟩,
  ⟨0x2B41, 1, 0x0, 0x0, .u8, .ro, 0x40, false, false⟩,
  ⟨0x2B41, 1, 0x1, 0x40, .u16, .ro, 0, false, false⟩,
  ⟨0x2B50, 1, 0x0, 0x0, .u8, .ro, 4, false, false⟩]

/-- Objects 0x2B00 to 0x2BFF. -/
def odRows2Bc : List OdRow := [
  ⟨0x2B50, 1, 0x1, 0x1, .u16, .rw, 0x1CE0, false, true⟩,
  ⟨0x2B50, 1, 0x2, 0x2, .bool, .ro, 0, true, false⟩,
  ⟨0x2B50, 1, 0x3, 0x3, .u8, .ro, 0, false, false⟩,
  ⟨0x2B50, 1, 0x4, 0x4, .bool, .rw, 0, false, false⟩,
  ⟨0x2B60, 1, 0x0, 0x0, .u8, .ro, 3, false, false⟩,
  ⟨0x2B60, 1, 0x1, 0x1, .u32, .ro, 0, false, false⟩,
  ⟨0x2B60, 1, 0x2, 0x2, .u64, .ro, 0, false, false⟩,
  ⟨0x2B60, 1, 0x3, 0x3, .u16, .ro, 0, false, false⟩]

/-- Objects 0x2C00 to 0x2CFF. -/
def odRows2Ca : List OdRow := [
  ⟨0x2C00, 1, 0x0, 0x0, .u8, .ro, 8, false, false⟩,
  ⟨0x2C00, 1, 0x1, 0x1, .u8, .ro, 0, true, false⟩,
  ⟨0x2C00, 1, 0x2, 0x2, .u32, .ro, 0, false, false⟩,
  ⟨0x2C00, 1, 0x3, 0x3, .u8, .ro, 0, false, false⟩,
  ⟨0x2C00, 1, 0x4, 0x4, .u8, .ro, 0, false, false⟩,
  ⟨0x2C00, 1, 0x5, 0x5, .u16, .ro, 0, false, false⟩,
  ⟨0x2C00, 1, 0x6, 0x6, .u8, .ro, 0, true, false⟩,
  ⟨0x2C00, 1, 0x7, 0x7, .u8, .ro, 0, true, false⟩,
  ⟨0x2C00, 1, 0x8, 0x8, .u32, .ro, 0, false, false⟩,
  ⟨0x2C01, 1, 0x0, 0x0, .u8, .ro, 1, false, false⟩,
  ⟨0x2C01, 1, 0x1, 0x1, .u16, .rw, 0x3C, false, true⟩,
  ⟨0x2C02, 1, 0x0, 0x0, .u8, .ro, 2, false, false⟩,
  ⟨0x2C02, 1, 0x1, 0x2, .u8, .ro, 0, true, false⟩,
  ⟨0x2C03, 1, 0x0, 0x0, .u8, .ro, 2, false, false⟩,
  ⟨0x2C03, 1, 0x1, 0x2, .u32, .ro, 0, false, false⟩,
  ⟨0x2C04, 1, 0x0, 0x0, .u8, .ro, 2, false, false⟩,
  ⟨0x2C04, 1, 0x1, 0x2, .u8, .ro, 0, false, false⟩,
  ⟨0x2C05, 1, 0x0, 0x0, .u8, .ro, 2, false, false⟩,
  ⟨0x2C05, 1, 0x1, 0x2, .u32, .ro, 0, false, false⟩,
  ⟨0x2C06, 1, 0x0, 0x0, .u8, .ro, 2, false, false⟩,
  ⟨0x2C06, 1, 0x1, 0x2, .u8, .ro, 0, false, false⟩,
  ⟨0x2C07, 1, 0x0, 0x0, .u8, .ro, 2, false, false⟩,
  ⟨0x2C07, 1, 0x1, 0x2, .str, .ro, 0, false, false⟩,
  ⟨0x2C10, 1, 0x0, 0x0, .u32, .rw, 0, false, false⟩]

/-- Objects 0x2C00 to 0x2CFF. -/
def odRows2Cb : List OdRow := [
  ⟨0x2C11, 1, 0x0, 0x0, .u8, .ro, 0, false, false⟩,
  ⟨0x2C20, 1, 0x0, 0x0, .domain, .wo, 0, false, false⟩,
  ⟨0x2C21, 1, 0x0, 0x0, .u8, .ro, 5, false, false⟩,
  ⟨0x2C21, 1, 0x1, 0x1, .u8, .rw, 0, false, false⟩,
  ⟨0x2C21, 1, 0x2, 0x2, .u32, .rw, 0, false, false⟩,
  ⟨0x2C21, 1, 0x3, 0x3, .u8, .ro, 0, false, false⟩,
  ⟨0x2C21, 1, 0x4, 0x4, .u32, .ro, 0, false, false⟩,
  ⟨0x2C21, 1, 0x5, 0x5, .u8, .ro, 0, false, false⟩,
  ⟨0x2C30, 1, 0x0, 0x0, .u8, .ro, 3, false, false⟩,
  ⟨0x2C30, 1, 0x1, 0x1, .u16, .ro, 0, false, false⟩,
  ⟨0x2C30, 1, 0x2, 0x2, .u32, .ro, 0, false, false⟩,
  ⟨0x2C30, 1, 0x3, 0x3, .u32, .ro, 0, false, false⟩]

/-- The rows of the objects whose index has the high byte `h`. -/
def odRowsOf (h : Nat) : List OdRow :=
  match h with
  | 0x10 => odRows10a
  | 0x12 => odRows12a
  | 0x14 => odRows14a
  | 0x16 => odRows16a
  | 0x18 => odRows18a
  | 0x1A => odRows1Aa
  | 0x1F => odRows1Fa ++ odRows1Fb
  | 0x20 => odRows20a ++ odRows20b
  | 0x21 => odRows21a ++ odRows21b
  | 0x22 => odRows22a
  | 0x23 => odRows23a
  | 0x24 => odRows24a ++ odRows24b
  | 0x25 => odRows25a ++ odRows25b
  | 0x26 => odRows26a ++ odRows26b
  | 0x27 => odRows27a ++ odRows27b
  | 0x28 => odRows28a ++ odRows28b
  | 0x29 => odRows29a ++ odRows29b ++ odRows29c
  | 0x2A => odRows2Aa
  | 0x2B => odRows2Ba ++ odRows2Bb ++ odRows2Bc
  | 0x2C => odRows2Ca ++ odRows2Cb
  | _ => []

/-- The whole table in index order. -/
def odRows : List OdRow :=
  [0x10, 0x12, 0x14, 0x16, 0x18, 0x1A, 0x1F, 0x20, 0x21, 0x22, 0x23, 0x24, 0x25, 0x26, 0x27, 0x28, 0x29, 0x2A, 0x2B, 0x2C].flatMap odRowsOf

/-- Whether a row holds index and sub-index. -/
def OdRow.holds (r : OdRow) (index sub : Nat) : Bool :=
  decide (r.index ≤ index) && decide (index < r.index + r.n) && decide (r.lo ≤ sub) && decide (sub ≤ r.hi)

/-- The row of an object, none where index and sub-index are not defined (R323). -/
def odRow (index sub : Nat) : Option OdRow := (odRowsOf (index / 256)).find? fun r => r.holds index sub

/-- Whether some object has the index (R323). -/
def odIndexDefined (index : Nat) : Bool :=
  (odRowsOf (index / 256)).any fun r => decide (r.index ≤ index) && decide (index < r.index + r.n)

/-- Bytes of a numeric type (R326); 0 for strings and DOMAINs. -/
def OdTy.bytes : OdTy → Nat
  | .bool => 1 | .u8 => 1 | .u16 => 2 | .u32 => 4 | .u64 => 8 | .i16 => 2 | .i32 => 4 | .str => 0 | .domain => 0

/-- Mapping entries of TPDO1 and TPDO2 (table "Default PDOs"). -/
def tpdoDefaultMap (n sub : Nat) : Nat :=
  match n, sub with
  | 0, 0 => 6 | 0, 1 => 0x10010008 | 0, 2 => 0x21000108 | 0, 3 => 0x21000210 | 0, 4 => 0x20010810
  | 0, 5 => 0x21100110 | 0, 6 => 0x20040020
  | 1, 0 => 4 | 1, 1 => 0x21000340 | 1, 2 => 0x25030140 | 1, 3 => 0x25030240 | 1, 4 => 0x25030340
  | _, _ => 0

/-- The default of a setting (the Default column, and the table "Default PDOs" for the PDO records). COB-IDs that hold
the node ID are read by `cobDefault`. -/
def odDefault (index sub : Nat) : Nat :=
  if 0x1A00 ≤ index ∧ index < 0x1A08 then tpdoDefaultMap (index - 0x1A00) sub
  else if index = 0x1800 ∧ sub = 3 then 100
  else if index = 0x1801 ∧ sub = 3 then 1000
  else if (index = 0x1800 ∨ index = 0x1801) ∧ sub = 5 then 1000
  else match odRow index sub with
    | some r => r.dflt
    | none => 0

/-- The default COB-ID of 0x1014 and of the PDOs for a node ID (table "Default PDOs", R348). -/
def cobDefault (index node : Nat) : Nat :=
  match index with
  | 0x1014 => 0x80 + node
  | 0x1400 => 0xC0000200 + node | 0x1401 => 0xC0000300 + node | 0x1402 => 0xC0000400 + node
  | 0x1403 => 0xC0000500 + node
  | 0x1800 => 0x40000180 + node | 0x1801 => 0x40000280 + node | 0x1802 => 0xC0000380 + node
  | 0x1803 => 0xC0000480 + node
  | _ => 0xC0000000

end Sys2Proof.Machine
end

