-- ==== Sys2Proof/Machine/Tab.lean ====
section
/-! DEFINITION. Tables (finite maps with a default) and byte memory in one canonical form. -/

namespace Sys2Proof.Machine

/-- A finite map from numbers: cells in rising key order. A key that no cell lists reads as the default named at the
read. -/
structure Tab (α : Type) where
  cells : List (Nat × α)
  deriving DecidableEq, Repr

/-- The cell of `k`, if one is listed. -/
def findCell {α : Type} (k : Nat) : List (Nat × α) → Option α
  | [] => none
  | (j, v) :: r => if j = k then some v else findCell k r

/-- The cells with the cell of `k` set to `v`, rising order kept. -/
def putCell {α : Type} (k : Nat) (v : α) : List (Nat × α) → List (Nat × α)
  | [] => [(k, v)]
  | (j, w) :: r => if k < j then (k, v) :: (j, w) :: r else if j = k then (k, v) :: r else (j, w) :: putCell k v r

/-- The empty table. -/
def Tab.empty {α : Type} : Tab α := ⟨[]⟩
/-- The listed value of `k`, if any. -/
def Tab.find {α : Type} (t : Tab α) (k : Nat) : Option α := findCell k t.cells
/-- The value of `k`, `d` where none is listed. -/
def Tab.get {α : Type} (t : Tab α) (d : α) (k : Nat) : α := (t.find k).getD d
/-- The table with `k` set to `v`. -/
def Tab.set {α : Type} (t : Tab α) (k : Nat) (v : α) : Tab α := ⟨putCell k v t.cells⟩
/-- The table without a cell of `k`. -/
def Tab.erase {α : Type} (t : Tab α) (k : Nat) : Tab α := ⟨t.cells.filter fun c => c.1 != k⟩
/-- The listed keys, rising. -/
def Tab.keys {α : Type} (t : Tab α) : List Nat := t.cells.map Prod.fst
/-- The listed values. -/
def Tab.vals {α : Type} (t : Tab α) : List α := t.cells.map Prod.snd
/-- Every listed value changed by `f`. -/
def Tab.mapVals {α : Type} (t : Tab α) (f : Nat → α → α) : Tab α := ⟨t.cells.map fun c => (c.1, f c.1 c.2)⟩
/-- The cells for which `p` holds. -/
def Tab.keep {α : Type} (t : Tab α) (p : Nat → α → Bool) : Tab α := ⟨t.cells.filter fun c => p c.1 c.2⟩

/-- Byte memory: (address, byte) cells in rising address order, none equal to what an unlisted address reads as. -/
abbrev Memory := List Host.Cell

/-- What an address that no cell lists reads as: zero (R132, R152: tier 1 is scrubbed to zero, an unwritten tile line
reads zero). -/
def unlistedByte : Byte := 0#8

/-- The byte at `a`. -/
def Memory.read (m : Memory) (a : Nat) : Byte := (findCell a m).getD unlistedByte

/-- `m` with byte `b` at `a`, in canonical form. -/
def Memory.write : Memory → Nat → Byte → Memory
  | [], a, b => if b = unlistedByte then [] else [(a, b)]
  | (j, c) :: r, a, b =>
    if a < j then (if b = unlistedByte then (j, c) :: r else (a, b) :: (j, c) :: r)
    else if a = j then (if b = unlistedByte then r else (a, b) :: r)
    else (j, c) :: Memory.write r a b

/-- Addresses strictly rising from `lo`, no listed byte equal to the unlisted one. -/
def cellsFrom : Nat → Memory → Bool
  | _, [] => true
  | lo, (a, b) :: r => decide (lo ≤ a) && (b != unlistedByte) && cellsFrom (a + 1) r

/-- The canonical form of memory. -/
def Memory.wf (m : Memory) : Bool := cellsFrom 0 m

/-- The `n` bytes from `a`. -/
def Memory.readBytes (m : Memory) (a : Nat) : Nat → List Byte
  | 0 => []
  | n + 1 => m.read a :: Memory.readBytes m (a + 1) n

/-- `m` with the bytes `bs` stored from `a` up. -/
def Memory.writeBytes (m : Memory) (a : Nat) : List Byte → Memory
  | [] => m
  | b :: r => Memory.writeBytes (m.write a b) (a + 1) r

/-- `m` without the bytes from `lo` up to, not including, `hi`: they read as unlisted again. -/
def Memory.wipe (m : Memory) (lo hi : Nat) : Memory := m.filter fun c => c.1 < lo || hi ≤ c.1

/-- The little-endian value of `bs` (R8). -/
def leNat : List Byte → Nat
  | [] => 0
  | b :: r => b.toNat + 256 * leNat r

/-- The `n` little-endian bytes of `v` (R8). -/
def natLe : Nat → Nat → List Byte
  | 0, _ => []
  | n + 1, v => BitVec.ofNat 8 v :: natLe n (v / 256)

/-- The little-endian value of the `n` bytes at `a`. -/
def Memory.readLe (m : Memory) (a n : Nat) : Nat := leNat (m.readBytes a n)
/-- `m` with the `n` little-endian bytes of `v` at `a`. -/
def Memory.writeLe (m : Memory) (a n v : Nat) : Memory := m.writeBytes a (natLe n v)

/-- Bits `hi` down to `lo` of `v` (R7). -/
def bits (v hi lo : Nat) : Nat := v / 2 ^ lo % 2 ^ (hi + 1 - lo)
/-- Bit `i` of `v`. -/
def bit (v i : Nat) : Bool := v / 2 ^ i % 2 == 1
/-- `v` with bit `i` set. -/
def setBit (v i : Nat) : Nat := if bit v i then v else v + 2 ^ i
/-- `v` with bit `i` clear. -/
def clearBit (v i : Nat) : Nat := if bit v i then v - 2 ^ i else v
/-- 1 for true, 0 for false. -/
def flag (b : Bool) : Nat := if b then 1 else 0
/-- The two's complement value of the `w` low bits of `v`. -/
def signed (w v : Nat) : Int := let u := v % 2 ^ w; if u < 2 ^ (w - 1) then (u : Int) else (u : Int) - 2 ^ w
/-- The `w`-bit two's complement pattern of `i`. -/
def unsigned (w : Nat) (i : Int) : Nat := (i % (2 ^ w : Int)).toNat
/-- Number of one bits among the `w` low bits. -/
def popcount : Nat → Nat → Nat
  | 0, _ => 0
  | w + 1, v => v % 2 + popcount w (v / 2)

end Sys2Proof.Machine
end

