-- ==== Sys2Proof/Machine/Parts.lean ====
section
/-! DEFINITION. The component types of State: one structure per unit the spec describes. -/

namespace Sys2Proof.Machine

/-- The completion statuses, in code order 0x00 to 0x0D (R21). -/
inductive Status where
  | ok | frameSkipped | overload | tierFailed | regionLost | jobAborted | badCommand | keyRejected | deadlineMissed
  | bankConflict | coldRead | beatLost | seqError | fenced
  deriving DecidableEq, Repr

/-! ### What the block sends -/

/-- One thing the block has sent to the outside. The list of them is the model's own field: the spec gives these as
effects outside the block. -/
inductive Output where
  /-- A CAN FD base frame: identifier, data, BRS, ESI (R303). -/
  | can (cobId : Nat) (data : List Byte) (brs esi : Bool)
  /-- Frames handed to the CAN controller that bus-off discards before they have left (R317): their identifiers. -/
  | canDropped (cobIds : List Nat)
  /-- An MSI-X message of a function's vector (R189). -/
  | msix (f : Fn) (vector : Nat)
  /-- The answer to a host read: its bytes, and whether it is poisoned (R181). -/
  | hostRead (f : Fn) (data : List Byte) (poisoned : Bool)
  /-- A Completer Abort (R182). -/
  | completerAbort (f : Fn)
  /-- The bytes of an ORA frame leaving a network port, from destination MAC to FCS (R249, R293). -/
  | eth (port : PortId) (bytes : List Byte)
  /-- An NVMe command to a segment's SSD: identifier, opcode, LBA, number of LBAs, data of a write (R148). -/
  | nvme (seg : SegId) (cid opcode lba lbas : Nat) (data : List Byte)
  /-- A reset of a segment's NVMe controller (R150). -/
  | nvmeReset (seg : SegId)
  deriving DecidableEq, Repr

/-! ### Wafer map (01) -/

/-- A panel's state in 0x2010 (R48). -/
inductive PanelMode where
  | active | removed | lost
  deriving DecidableEq, Repr

/-- A panel of the grid: its state and RESETTING bit. -/
structure PanelCell where
  mode : PanelMode
  resetting : Bool
  deriving DecidableEq, Repr

/-- The wafer map. Seam lanes are keyed sub-index × 2 + direction, pass-through lanes panel × 2 + axis (0 east–west),
rows panel × 12 + row. -/
structure Wafer where
  /-- s(p, r); a row that is not listed has 11 (R32). -/
  skip : Tab Nat
  /-- The row's skip came from a runtime repair (0x2011 bits 48 up). -/
  repaired : Tab Bool
  /-- The row's gusset is spent (R443, 0x2B41). -/
  spent : Tab Bool
  panel : Tab PanelCell
  /-- Failed lanes per edge and direction, as detected (R29). -/
  laneFail : Tab Nat
  /-- Failed pass-through lanes, as detected (R39). -/
  passFail : Tab Nat
  /-- The same two as the translation in force uses them: they follow at a boundary (R39). -/
  laneForce : Tab Nat
  passForce : Tab Nat
  /-- Failed lanes as they stood before a seam rail took the rest (R361). -/
  laneKept : Tab Nat
  /-- Grid mode 0 FULL, 1 COLUMN, 2 ROW, 3 HOLE (0x2001:04). -/
  mode : Nat
  /-- Grid epoch (0x2004). -/
  epoch : W32
  /-- Line count at which the epoch last stepped: it steps once a boundary (R39). -/
  epochN : Option Nat
  deriving DecidableEq, Repr

/-! ### Beat unit and sessions (02) -/

/-- Lock states, numbered as in 0x2100:01. -/
inductive Lock where
  | search | locked | holdover | lost
  deriving DecidableEq, Repr

/-- An accepted candidate of the search run (R62). -/
structure Candidate where
  frame : Nat
  line : Nat
  lines : Nat
  rate : Nat
  source : Nat
  flags : Nat
  inverted : Bool
  at_ : Nat
  deriving DecidableEq, Repr

/-- The beat unit. Instants are picoseconds on the TCXO. -/
structure Beat where
  lock : Lock
  carrier : Bool
  inverted : Bool
  srcHoldover : Bool
  srcTest : Bool
  everLocked : Bool
  /-- The holdover flag of 0x2100:02: raised at a loss, cleared at the next lock (R67, R71). -/
  holdover : Bool
  /-- Line count N (R73). -/
  n : Nat
  /-- Anchor (N0, F0) (R73). -/
  n0 : Int
  f0 : Nat
  /-- Geometry in force: L and RATE (R74); 0 before the first lock. -/
  lines : Nat
  rate : Nat
  source : Nat
  /-- Instant of the last received or predicted boundary (R64), and of the one before it. -/
  boundaryAt : Nat
  prevAt : Nat
  /-- Instant from which ticks count: the last boundary of the local count (R71, R76). -/
  tickAt : Nat
  /-- Instant of the last good boundary (R69). -/
  lastGoodAt : Nat
  /-- The good intervals since the lock or geometry change, newest first, at most 256 (R68). -/
  intervals : List Nat
  /-- Whether the boundary in force is good, and the one before it, so that an interval between good boundaries can be
  measured (R68). -/
  curGood : Bool
  prevGood : Bool
  /-- Measured period, ps (R68). -/
  period : Nat
  /-- The polarity mode of the present search (0x2103:03, R63). -/
  polMode : Nat
  /-- A word has been decided for the boundary in force (R64). -/
  decided : Bool
  /-- Consecutive bad words (R67). -/
  badRun : Nat
  /-- The accepted candidates of the search, newest first (R62). -/
  run : List Candidate
  /-- First bit of the last accepted candidate (R61). -/
  lastFirstBit : Option Nat
  /-- Received boundaries still withheld after a backward step (R71). -/
  held : Nat
  /-- Last relock offset, ticks (0x2100:08). -/
  relock : BitVec 32
  /-- Line count at the last lock (R72), and line instant of the last entry of OPERATIONAL (R309). -/
  lockN : Nat
  opAt : Nat
  deriving DecidableEq, Repr

/-- The states of a session slot, numbered as in 0x2130:02 (R78). -/
inductive SessSt where
  | free | opened | suspended
  deriving DecidableEq, Repr

/-- A pending retime (R82): the new period, phase and margin, and the line instant it waits for. -/
structure Retime where
  p : Nat
  phase : Nat
  m : Nat
  after : Nat
  deriving DecidableEq, Repr

/-- A session slot (R78, R79). Line instants are line count × 65536 + tick. -/
structure Session where
  st : SessSt
  closing : Bool
  /-- The SCLOSE entry that waits for the slot's frames (R206): list and index. -/
  closer : Option (Nat × Nat)
  p : Nat
  phase : Nat
  m : Nat
  set : Option Nat
  cls : Nat
  plan : Option Nat
  variant : Nat
  job : Nat
  /-- Next session beat to process (R83). -/
  nextBeat : Nat
  /-- First instant a new frame may claim: past every claimed beat (R209). -/
  claimFrom : Nat
  /-- Retimes accepted and not yet in effect, in the order of their acceptance (R82). -/
  retimes : List Retime
  /-- A resume command has been accepted (R72). -/
  resume : Bool
  deriving DecidableEq, Repr

/-! ### Host functions, rings, lists, jobs, frames (06) -/

/-- A ring's configuration block and indices (R183, R217). `pending` is the event overflow of an event ring. -/
structure Ring where
  base : Nat
  log2 : Nat
  cq : Nat
  owner : Fn
  error : Bool
  vector : Nat
  enable : Bool
  producer : Nat
  consumer : Nat
  reserved : Nat
  armed : Bool
  deriving DecidableEq, Repr

/-- One function's global registers and link (R176, R217). -/
structure HostFn where
  up : Bool
  gen : Nat
  width : Nat
  /-- BAR2_BASE (R181). -/
  bar2Base : Nat
  /-- log2 of the BAR2 size: 0x2500:04 as it stood at the last link reset (R218). -/
  bar2Log : Nat
  evCq : Nat
  evEng : Nat
  evEnable : Bool
  aperSel : Nat
  aperValid : Bool
  aperJob : Nat
  /-- STAMP_HI latch. -/
  stampHi : Nat
  /-- Events dropped since the last event record (R190). -/
  dropped : Nat
  /-- A link-down or reset fence of the function is in progress (R412). -/
  flr : Bool
  /-- An AER uncorrectable error is logged. -/
  aer : Bool
  /-- The function has written a doorbell since the last line boundary (R412). -/
  rang : Bool
  deriving DecidableEq, Repr

/-- A begun entry of a list (R193): the 64 bytes read at its beginning, its status once complete, what its record
carries, the parts still running (R413) and the worst status of those ended, and one number its completion needs. -/
structure EntryRun where
  idx : Nat
  raw : List Byte
  status : Option Status
  det : Nat
  result : Nat
  slot : Nat
  arg : Nat
  parts : Nat
  worst : Status
  deriving DecidableEq, Repr

/-- A fetched list in progress (R191, R193). -/
structure ListRun where
  eng : Engine
  ring : Nat
  owner : Fn
  cq : Nat
  job : Nat
  key : Nat
  user : Nat
  addr : Nat
  count : Nat
  tileCycles : Nat
  streamBytes : Nat
  sqConsumer : Nat
  /-- Reserved completion slots not yet used (R186). -/
  slots : Nat
  /-- Index of the next entry to begin. -/
  next : Nat
  /-- The entry handed to its engine and not yet accepted. -/
  waiting : Option Nat
  stopped : Bool
  entries : List EntryRun
  deriving DecidableEq, Repr

/-- Job states, numbered as in 0x2506:03 (R196). -/
inductive JobSt where
  | free | opened | aborted
  deriving DecidableEq, Repr

/-- A rectangle of logical tiles; width 0 is none (R201). -/
structure Region where
  lx : Nat
  ly : Nat
  w : Nat
  h : Nat
  deriving DecidableEq, Repr

/-- A job (R196, R197). -/
structure Job where
  st : JobSt
  key : Nat
  elastic : Bool
  flash : Bool
  owner : Fn
  region : Region
  /-- Tier 1 ranges: base and length in bytes. -/
  ranges : List (Nat × Nat)
  fenced : Bool
  /-- The last PLOAD of the region: source, stride, epoch, W line, lines, and region (R407). -/
  pload : Option (List Nat)
  deriving DecidableEq, Repr

/-- An accepted frame, keyed by its list (R209). -/
structure Frame where
  idx : Nat
  slot : Nat
  cls : Nat
  job : Nat
  plan : Option Nat
  variant : Nat
  deadline : Nat
  m : Nat
  ready : Bool
  /-- Plan and pass number of the pass it has a lane in. -/
  pass : Option (Nat × Nat)
  tc : Nat
  sb : Nat
  order : Nat
  deriving DecidableEq, Repr

/-- Claims and skips of one class on one line (R216). -/
structure SkipStat where
  claims : Nat
  skips : Nat
  deriving DecidableEq, Repr

/-! ### Field network and dictionary (10, 11) -/

/-- NMT states (R308). -/
inductive Nmt where
  | initialising | preOperational | operational | stopped
  deriving DecidableEq, Repr

/-- A queued EMCY message (R315): code, error register, stamp, detector. -/
structure Emcy where
  code : Nat
  errReg : Nat
  stamp : Nat
  det : Nat
  deriving DecidableEq, Repr

/-- The held message of bus-off (R317). -/
inductive Held where
  | emcy (m : Emcy)
  | heartbeat (stamp : Nat) (state : Nat)
  deriving DecidableEq, Repr

/-- A consumed heartbeat entry (R313). -/
structure HbCons where
  lastAt : Option Nat
  timedOut : Bool
  deriving DecidableEq, Repr

/-- A TPDO's run state (R335): the values last sent and when; a transmission held back by the inhibit time, with the values
a SYNC captured for it; SYNCs counted, none while it waits for its start value; the instant its event timer began; and
whether a transmission waits for the serving unit. -/
structure TpdoRun where
  last : Option (List Byte)
  lastAt : Option Nat
  pending : Bool
  captured : Option (List Byte)
  syncs : Option Nat
  timerAt : Option Nat
  withheld : Bool
  deriving DecidableEq, Repr

/-- An RPDO's run state (R336). -/
structure RpdoRun where
  waiting : Option (List Byte)
  lastAt : Option Nat
  deriving DecidableEq, Repr

/-- The kind of SDO transfer in progress, and what it expects next (R329, R330). -/
inductive SdoKind where
  | segDown | segUp | blkDown | blkDownEnd | blkUpStart | blkUp | blkUpEnd | waitWrite
  deriving DecidableEq, Repr

/-- The transfer of the SDO channel (R330). -/
structure Sdo where
  kind : SdoKind
  index : Nat
  sub : Nat
  data : List Byte
  pos : Nat
  size : Option Nat
  toggle : Bool
  blksize : Nat
  seq : Nat
  lastAt : Nat
  crc : Bool
  unused : Nat
  deriving DecidableEq, Repr

/-- A DOMAIN transfer through a mailbox (R345). -/
structure Chunked where
  index : Nat
  sub : Nat
  write : Bool
  data : List Byte
  pos : Nat
  lastAt : Nat
  deriving DecidableEq, Repr

/-- A function's mailbox (R343). `answer` is the outcome of the access that MAILBOX_COMPLETE reports: abort code or
value. -/
structure Mailbox where
  cmd : Nat
  len : Nat
  offset : Nat
  busy : Bool
  done : Bool
  aborted : Bool
  remain : Bool
  code : Nat
  vector : Nat
  vectorEnable : Bool
  buf : List Byte
  answer : Option (Nat × List Byte × Bool)
  chunk : Option Chunked
  deriving DecidableEq, Repr

/-- The field network node. -/
structure Can where
  nmt : Nmt
  nodeId : Nat
  idSource : Nat
  straps : Nat
  rate : Nat
  queue : List Emcy
  held : Option Held
  /-- EMCYs were dropped since the queue last drained (R315). -/
  dropped : Bool
  lastEmcyAt : Option Nat
  tec : Nat
  rxErr : Nat
  passive : Bool
  busOff : Bool
  hbDueAt : Option Nat
  /-- A heartbeat that waits to leave, with the stamp it was produced at (R317). -/
  hbWaiting : Option Nat
  consumers : Tab HbCons
  tpdo : Tab TpdoRun
  rpdo : Tab RpdoRun
  sdo : Option Sdo
  /-- The request frame held while a write waits (R330). -/
  sdoHeld : Option (List Byte)
  /-- COB-ID cells (0x1400 to 0x1807:01, 0x1014) that have been written (R336). -/
  cobWritten : Tab Bool
  /-- 0x1003: newest first, at most 8 (R348). -/
  history : List Nat
  /-- The messages that follow a bus-off recovery have not all left: they go before any other frame of the node (R318). -/
  recovering : Bool
  /-- Frames that wait behind them: identifier and data. -/
  later : List (Nat × List Byte)
  /-- 0x1FD0:01, 0x1FD1:04 written since the node last took them (R302, R306). -/
  rateNew : Bool
  idNew : Bool
  deriving DecidableEq, Repr

/-! ### Faults (14) -/

/-- What a detector has counted (0x2B02). -/
structure DetRec where
  count : Nat
  last : Nat
  injected : Nat
  deriving DecidableEq, Repr

/-- An entry of the fault log (R420). -/
structure LogEntry where
  stamp : Nat
  det : Nat
  unit : Nat
  action : Nat
  injected : Bool
  kind : Nat
  repeats : Nat
  lastAt : Nat
  deriving DecidableEq, Repr

/-- The units that can be suspect (R404). -/
inductive FailUnit where
  /-- A tile by its physical key p × 144 + r × 12 + c. -/
  | tile (k : Nat)
  /-- A panel to be declared lost, with its cause: a row of "Causes of panel loss". -/
  | panel (p cause : Nat)
  /-- A panel in a reset (R411). -/
  | panelReset (p : Nat)
  /-- A segment's DRAM (R401). -/
  | dram (s : Nat)
  /-- An owner by kind and number (R412). -/
  | owner (kind number : Nat)
  deriving DecidableEq, Repr

/-- A suspect unit, the line count of its detection and the detector that fired for it (R404). -/
structure Suspect where
  what : FailUnit
  sinceN : Nat
  det : Nat
  deriving DecidableEq, Repr

/-- A hem DMA channel (R412, R415): its holder's owner kind and number, the entry it works for (list and index), the instant
its drain began, and whether it is quarantined. -/
structure DmaCh where
  holder : Option (Nat × Nat)
  entry : Option (Nat × Nat)
  drainSince : Option Nat
  quarantined : Bool
  deriving DecidableEq, Repr

/-- A store move in progress (R406): the failed column it starts from, the instant it ends. -/
structure StoreMove where
  col : Nat
  endsAt : Nat
  deriving DecidableEq, Repr

/-- The injection point (R421). -/
structure Injection where
  armed : Bool
  fired : Nat
  lastN : Option Nat
  /-- An injected consequence is being carried out. -/
  acting : Bool
  deriving DecidableEq, Repr

/-! ### Power, clocks, coolant (12) -/

/-- A panel's power status (0x2920 to 0x2925, R358 to R368). Voltages are in mV. -/
structure PanelPower where
  brownout : Bool
  belowCore : Bool
  belowSram : Bool
  srcBrown : Bool
  srcLimit : Bool
  srcDie : Bool
  /-- Throttle and frequency in force since the last boundary (R113, R363): 0x2211. -/
  mhz : Nat
  stopped : Bool
  overcurrent : Bool
  /-- The latch was set by an ACT injection (R368, R422). -/
  ocInjected : Bool
  clears : Nat
  pll : Bool
  coreMv : Nat
  sramMv : Nat
  temp : Nat
  /-- Instant of the reset the panel is in (R360). -/
  resetAt : Option Nat
  /-- Instant since which both rails are above warning in a reset. -/
  aboveAt : Option Nat
  /-- Instants of its rail resets, newest first (R360). -/
  resets : List Nat
  /-- The panel has been released and runs its self-test (R411). -/
  released : Bool
  deriving DecidableEq, Repr

/-- The states of a power domain, numbered as in 0x2910. -/
inductive DomSt where
  | off | ramping | on | retain | latchedOff
  deriving DecidableEq, Repr

/-- A switched domain: its state, whether a switch-on waits (R353, R354) and the instant its ramp began. -/
structure Domain where
  st : DomSt
  wanted : Bool
  rampAt : Nat
  deriving DecidableEq, Repr

/-- An action of the power limit (R364): a row throttled (stage 1) or stopped (stage 2), with its panels. -/
structure LimitAct where
  stage : Nat
  row : Nat
  panels : List Nat
  at_ : Nat
  deriving DecidableEq, Repr

/-- Inputs, limit, clocks, coolant. -/
structure Power where
  input : InputState
  inputMv : Nat
  watts : Nat
  standbyMv : Nat
  standbyOut : Bool
  /-- Instant since which the input is in range (R390). -/
  rangeAt : Option Nat
  /-- The actions of the limit not undone, newest first. -/
  actions : List LimitAct
  lastAct : Option Nat
  panels : Tab PanelPower
  domains : Tab Domain
  /-- Clock domains unlocked, and out of tolerance (R373). -/
  unlocked : Tab Bool
  offTol : Tab Bool
  /-- Spread in force (R372). -/
  spreadPanel : Bool
  spreadYoke : Bool
  /-- The TCXO is lost and the internal oscillator in use (R374). -/
  refLost : Bool
  internalOsc : Bool
  /-- Reference offset in ppb, once known. -/
  offset : Option Int
  tin : Nat
  tout : Nat
  flow : Nat
  /-- Sensor faults, 0 OK, 1 open, 2 short. -/
  tinFault : Nat
  toutFault : Nat
  flowFault : Nat
  thermal : Bool
  /-- The outlet has been reported above its warning level and has not been read below it since (R376). -/
  warned : Bool
  /-- Rails other than a panel's that are below their warning level (1) or at their reset level (2), by rail (R356). -/
  rails : Tab Nat
  /-- Cause of the orderly shutdown since which the operator must request YOKE ON (R355), or of a Cut. -/
  needRequest : Bool
  deriving DecidableEq, Repr

/-! ### Bring-up (13) -/

/-- Bring-up phases, numbered as in 0x2A00:02. -/
inductive Phase where
  | collarStart | recovery | waiting | yokeStart | domains | testAndScrub | done | yokeFailed | shutdown
  deriving DecidableEq, Repr

/-- A segment's bring-up (0x2A10). -/
structure SegBring where
  st : Nat
  attempts : Nat
  scrubMs : Nat
  since : Nat
  deriving DecidableEq, Repr

/-- The startup sequence. -/
structure BringUp where
  /-- The collar is held in reset by MOD_RST_N, or has not started. -/
  inReset : Bool
  /-- The collar's firmware runs; false while it is absent (R417). -/
  collar : Bool
  /-- Instant of the collar reset, while absent. -/
  absentAt : Option Nat
  yoke : Bool
  phase : Phase
  /-- The startup step in progress and the instant it began (R386). -/
  step : Nat
  stepAt : Nat
  warm : Bool
  startAt : Nat
  cause : StartCause
  recovery : Nat
  /-- The service level last reported (R396). -/
  level : Nat
  t0 : Nat
  t1 : Nat
  t2 : Nat
  coldStarts : Nat
  failedYoke : Nat
  retryAt : Option Nat
  /-- The yoke start in progress is a reset of the yoke alone (R416). -/
  yokeOnly : Bool
  segs : Tab SegBring
  /-- Panel records of 0x2A11 and the panels that have ended step 11b. -/
  panels : Tab Nat
  ended : Tab Bool
  /-- Step 11c has built the grid. -/
  built : Bool
  lanes : Nat
  /-- Instant at which the next patrol scrub of tier 1 falls due (R154). -/
  patrolAt : Nat
  /-- A grid restore is asked for (R418): the panels that will fail their test, and whether it has begun. -/
  restore : Option (List Nat × Bool)
  /-- The SPI NOR that the ROM last read does not advertise the 1-4-4 Fast Read (R388). -/
  slowSpi : Bool
  /-- The step limits that have passed in this start, each reported once (R386). -/
  late : List Nat
  /-- Instants at which the panels began step 11b, and at which the last of them ended it (R386). -/
  panelAt : Tab Nat
  endedAt : Nat
  /-- 0x2002 as loaded in step 9 (R393). -/
  rebuildMode : Nat
  deriving DecidableEq, Repr

/-! ### Firmware (15) -/

/-- Slot states, numbered as in the table "Slot states". -/
inductive SlotSt where
  | empty | erasing | writing | invalid | pending | trial | committed | standby | failed | revoked
  deriving DecidableEq, Repr

/-- An image slot. -/
structure Slot where
  st : SlotSt
  version : Nat
  security : Nat
  schemaWrite : Nat
  schemaMin : Nat
  failures : Nat
  buildId : List Byte
  deriving DecidableEq, Repr

/-- A settings record (R437, R438). -/
structure Record where
  schema : Nat
  flags : Nat
  seq : Nat
  live : Bool
  entries : List RecEntry
  deriving DecidableEq, Repr

/-- A write that ends when a record has been written: a store, a restore, or step 1 of a COMMIT; the areas; the path that
waits for its answer. -/
structure StoreJob where
  kind : Nat
  areas : Nat
  path : Path
  index : Nat
  sub : Nat
  /-- The record being written; none for a job that waits its turn. -/
  record : Option Record
  deriving DecidableEq, Repr

/-- States of an update, numbered as in 0x2C21:03. -/
inductive UpdateSt where
  | idle | erasing | ready | writing | verifying | done | failed
  deriving DecidableEq, Repr

/-- Firmware, settings records, update. -/
structure Firmware where
  slotA : Slot
  slotB : Slot
  /-- The running slot is B. -/
  runB : Bool
  /-- The status of 0x2C00:06 (R439). -/
  settings : Nat
  schemaLoaded : Nat
  health : Nat
  healthFrom : Option Nat
  fallbacks : Nat
  upd : UpdateSt
  updB : Bool
  updBytes : Nat
  updResult : Nat
  /-- A BEGIN waits for a store (R434), with the path it came by. -/
  beginWait : Option Path
  records : List Record
  store : Option StoreJob
  storeWait : List StoreJob
  /-- COMMIT in progress: its next step (R440). -/
  commit : Option Nat
  /-- The path whose image transfer is in progress. -/
  imagePath : Option Path
  deriving DecidableEq, Repr

end Sys2Proof.Machine
end

