-- ==== Sys2Proof/Machine/Parts2.lean ====
section
/-! DEFINITION. The component types of State for tiles, streaming, tailoring, remote access and ports. -/

namespace Sys2Proof.Machine

/-! ### Tiles (03, 04, 07) -/

/-- A weight plane's block and its format class: 0 8-bit, 1 INT4W, 2 BF16, 3 complex (R88). -/
structure Plane where
  cls : Nat
  bytes : List Byte
  deriving DecidableEq, Repr

/-- One vector in the row feeders: its 32 entries of 16 bits and its width tag (R89). The feeders are filled and emptied a
vector at a time, one entry in each. -/
structure FeedVec where
  wide : Bool
  entries : List Nat
  deriving DecidableEq, Repr

/-- An issued matrix instruction that has not retired: its word, its vectors and the plane it computes with (R91). -/
structure Flight where
  word : Nat
  vecs : List FeedVec
  plane : List Byte
  deriving DecidableEq, Repr

/-- A prep core: registers x1 to x31, pc, CSRs, retired instructions, STAMP latch (R104, R106). -/
structure CoreSt where
  regs : Tab Nat
  pc : Nat
  csrs : Tab Nat
  minstret : Nat
  stampHi : Nat
  halted : Bool
  /-- A retire event that the core has not yet taken (R95; log 84). -/
  event : Bool
  deriving DecidableEq, Repr

/-- A circular region (R127). -/
structure RegionSt where
  base : Nat
  size : Nat
  store : Nat
  producer : Nat
  releaseClears : Bool
  enable : Bool
  head : Nat
  tail : Nat
  hwrap : Nat
  twrap : Nat
  deriving DecidableEq, Repr

/-- A running task: the TSTART entry it belongs to, its job, the status of an executed TEND, the status a fault gave it. -/
structure Task where
  list : Nat
  idx : Nat
  job : Nat
  tend : Option Nat
  failed : Option Status
  det : Nat
  deriving DecidableEq, Repr

/-- A session context on a tile (R219). -/
structure Ctx where
  s : Nat
  count : Nat
  high : Nat
  recent : List (Nat × Nat)
  scanned : Bool
  deriving DecidableEq, Repr

/-- An event record in a tile's queue (R226): kind 1 PRE, 2 POST, 3 ERROR, 4 STEP, 5 REWARD. -/
structure EvRec where
  kind : Nat
  slot : Nat
  index : Nat
  value : Nat
  deriving DecidableEq, Repr

/-- A pending contribution (R231). -/
structure Contrib where
  slot : Nat
  post : Nat
  weight : Int
  due : Nat
  deriving DecidableEq, Repr

/-- A line that waits in a tile's landing buffer or in the mesh (R108, R123). -/
structure MeshLine where
  src : Nat
  dst : Nat
  off : Nat
  data : List Byte
  job : Nat
  deriving DecidableEq, Repr

/-- A tile, by physical position. `regs` holds the registers that are plain cells. -/
structure Tile where
  w : Memory
  a : Memory
  p : Memory
  /-- Written bits keyed store × 16384 + line (R132). -/
  written : Tab Bool
  /-- Saturation flags of P lines (R98). -/
  sat : Tab Bool
  /-- Words holding an error, keyed store × 2^18 + word: true double, false single (R119). -/
  bad : Tab Bool
  /-- Corrected words to be written back (R119). -/
  writeback : List Nat
  fenced : Bool
  queue : List Nat
  plane0 : Option Plane
  plane1 : Option Plane
  feeders : List FeedVec
  flights : List Flight
  core0 : CoreSt
  core1 : CoreSt
  /-- A resident program and its epoch (R110). -/
  resident : Bool
  epoch : Nat
  regs : Tab Nat
  lut : Tab Byte
  wBase : Nat
  wLimit : Nat
  aBase : Nat
  aLimit : Nat
  pBase : Nat
  pLimit : Nat
  policy : Nat
  pdW : Nat
  pdA : Nat
  pdP : Nat
  regions : Tab RegionSt
  viol : Nat
  viol2 : Nat
  task : Option Task
  /-- Landing states by stream tag: 0 landed, 1 late, 2 failed, 3 pending (R166, R168). -/
  tags : Tab Nat
  /-- Paused by a store move (R406). -/
  paused : Bool
  /-- The TSTART entry, list and index, that starts a task here once the tile is restored (R407, R411). -/
  restart : Option (Nat × Nat)
  evq : List EvRec
  /-- Arrivals waiting outside a full queue (R225). -/
  evWait : List EvRec
  /-- The feedback path's hold of this source: record and the keys it still has to reach (R228). -/
  feedback : List (EvRec × List Nat)
  contribs : List Contrib
  ctxs : Tab Ctx
  deriving DecidableEq, Repr

/-! ### Tailoring (07) -/

/-- A pending reward: merged value, TREWARD entries, the line instant it is due from (R239, R240). -/
structure Reward where
  value : Int
  entries : List (Nat × Nat)
  due : Nat
  deriving DecidableEq, Repr

/-- A slot's attachment (R205, R219). -/
structure Attach where
  threeFactor : Bool
  ruleset : Nat
  region : Region
  wbase : Nat
  wlimit : Nat
  budget : Nat
  errX : Nat
  errY : Nat
  job : Nat
  reward : Option Reward
  deriving DecidableEq, Repr

/-! ### Streaming (05) -/

/-- A step record (R159). -/
structure StepRec where
  c : Nat
  s : Nat
  a : Nat
  d : Nat
  first : Nat
  count : Nat
  deriving DecidableEq, Repr

/-- The states of a pleat. -/
inductive PleatSt where
  | unstaged | staging | resident | failed
  deriving DecidableEq, Repr

/-- A pleat record and its state: NVMe commands still out, failed attempts in a row (R171). -/
structure Pleat where
  tier1 : Nat
  lba : Nat
  seg : Nat
  rx : Nat
  ry : Nat
  region : Nat
  variant : Nat
  lbas : Nat
  step : Nat
  st : PleatSt
  cmds : Nat
  attempts : Nat
  deriving DecidableEq, Repr

/-- A lane of a pass: its frame, slot, variant, and whether it is still in the pass (R162, R164). -/
structure Lane where
  frame : Nat
  slot : Nat
  variant : Nat
  live : Bool
  deriving DecidableEq, Repr

/-- A pass in progress (R162, R166): its start line, its lanes, the steps whose fetch line and whose landing line have come, which
follow each step's own C, D and A and so need not come in step order; the variants fetched; per pleat 0 awaited, 1 landed, 2 failed, 3 failed and void-landed; blocks landed per pleat;
and whether the pass has ended while late pleats still land. -/
structure Pass where
  b : Nat
  lanes : List Lane
  fetched : List Nat
  landings : List Nat
  variants : List Nat
  pleats : Tab Nat
  blocks : Tab Nat
  ended : Bool
  deriving DecidableEq, Repr

/-- The states of a plan, numbered as in 0x2430:02. -/
inductive PlanSt where
  | free | loaded | staging | active
  deriving DecidableEq, Repr

/-- A stream plan (R159 to R161). -/
structure Plan where
  st : PlanSt
  job : Nat
  streamed : Bool
  q : Nat
  passLen : Nat
  capacity : Nat
  batchLine : Nat
  flashLead : Nat
  lx : Nat
  ly : Nat
  steps : List StepRec
  pleats : List Pleat
  /-- First pass start, and the number of passes started (R161). -/
  firstB : Nat
  started : Nat
  /-- How many times each step of a STREAMED plan has been staged. -/
  staged : Tab Nat
  passes : Tab Pass
  /-- The ACTIVATE entry that waits, the DEACTIVATE entry that waits, the RESTAGE entries that wait. -/
  activator : Option (Nat × Nat)
  deactivator : Option (Nat × Nat)
  restagers : List (Nat × Nat)
  deriving DecidableEq, Repr

/-- What an NVMe command serves: a pleat of a plan, a list entry, or nothing any more. -/
inductive NvmeFor where
  | nothing
  | pleat (plan pleat : Nat)
  | entry (list idx : Nat)
  deriving DecidableEq, Repr

/-- An outstanding NVMe command (R148, R150): opcode 1 Write, 2 Read, 0 Flush, 9 Dataset Management. -/
structure NvmeCmd where
  op : Nat
  lba : Nat
  lbas : Nat
  addr : Nat
  sentAt : Nat
  for_ : NvmeFor
  deriving DecidableEq, Repr

/-- A segment's flash, numbered as in 0x2410:02. -/
inductive FlashSt where
  | inService | linkDown | resetting | rejected
  deriving DecidableEq, Repr

/-- A segment (R146 to R151). -/
structure Seg where
  flash : FlashSt
  gen : Nat
  queues : Nat
  entries : Nat
  nsze : Nat
  /-- Transfer limit in 4 KiB LBAs (R148). -/
  limit : Nat
  timeouts : Nat
  warning : Nat
  smartAt : Nat
  retryAt : Nat
  nextCid : Nat
  cmds : Tab NvmeCmd
  deriving DecidableEq, Repr

/-! ### Remote access (08) -/

/-- A work request (R262, R270, R278), by posting number. -/
structure WorkReq where
  conn : Nat
  op : Nat
  job : Nat
  list : Nat
  idx : Nat
  flags : Nat
  loc : Nat
  rem : Nat
  len : Nat
  rtag : Nat
  lctr : Nat
  tctr : Nat
  thresh : Nat
  slot : Nat
  op1 : Nat
  op2 : Nat
  /-- Waits on its trigger (R270). -/
  waiting : Bool
  /-- Bytes cut into frames so far, frames not settled, first MSN, worst status, refused. -/
  sent : Nat
  open_ : Nat
  msn : Nat
  worst : Status
  refused : Bool
  deriving DecidableEq, Repr

/-- An outstanding request PSN (R262, R274). -/
structure OutPsn where
  wr : Nat
  op : Nat
  off : Nat
  len : Nat
  last : Bool
  /-- The instant the RNR interval that runs for it began. -/
  rnrAt : Option Nat
  deriving DecidableEq, Repr

/-- A posted receive buffer (R263): its message number, bytes placed and message length once known; a refused one that has
completed stays so that the message's later frames are refused too. -/
structure Recv where
  list : Nat
  idx : Nat
  addr : Nat
  len : Nat
  statusAt : Nat
  lctr : Option Nat
  msn : Nat
  placed : Nat
  total : Option Nat
  refused : Bool
  done : Bool
  deriving DecidableEq, Repr

/-- A response kept in the response cache (R275). -/
structure Cached where
  psn : Nat
  opcode : Nat
  slot : Nat
  len : Nat
  op1 : Nat
  deriving DecidableEq, Repr

/-- The states of a connection, numbered as in 0x2710:02. -/
inductive ConnSt where
  | free | opened | error
  deriving DecidableEq, Repr

/-- A connection (R255). -/
structure Conn where
  st : ConnSt
  job : Nat
  cls : Nat
  home : Nat
  respond : Bool
  peerNode : Nat
  peerConn : Nat
  peerKey : Nat
  units : Nat
  rcache : Nat
  /-- Limit granted to the peer, the limit last carried, the peer's limit Lp, units consumed C (R259, R260). -/
  granted : Nat
  carried : Nat
  lp : Nat
  used : Nat
  nextPsn : Nat
  e : Nat
  /-- PSNs received from e on. -/
  got : List Nat
  retries : Nat
  outs : Tab OutPsn
  /-- Order of the outstanding PSNs, oldest first. -/
  order : List Nat
  sendq : List Nat
  recvs : List Recv
  nextMsn : Nat
  sendMsn : Nat
  cache : List Cached
  held : List OraFrame
  /-- Frames received since the last ACK, and the instant an ACK or CREDIT falls due (R260, R273). -/
  sinceAck : Nat
  ackAt : Option Nat
  timerAt : Option Nat
  /-- A frame has been held for credit since (R261). -/
  creditAt : Option Nat
  /-- The landing in progress whose region has no room, and the lines of it that have landed (R123, R264). -/
  landing : Option (OraFrame × Nat)
  /-- Responses that wait for a P line under their LOCAL (R121). -/
  late : List OraFrame
  deriving DecidableEq, Repr

/-- A tag counter (R269). -/
structure Ctr where
  job : Nat
  value : Nat
  deriving DecidableEq, Repr

/-! ### Ports (09) -/

/-- A frame in a port's class queue: its connection, whether the bucket charges it, whether it has waited on it. -/
structure QFrame where
  conn : Nat
  frame : OraFrame
  shaped : Bool
  held : Bool
  deriving DecidableEq, Repr

/-- A port (R281, R283). Queues are keyed by class; `turn` is the connection a class served last (R293). A received frame is
handed on in the command that receives it, so the receive buffer is empty between commands (log 32). -/
structure Port where
  link : Bool
  downs : Nat
  queues : Tab (List QFrame)
  turn : Tab Nat
  deriving DecidableEq, Repr

/-- A class's bucket: level in bytes × 8,000,000 and the instant it stands for (R295). -/
structure Bucket where
  level : Int
  at_ : Nat
  deriving DecidableEq, Repr

/-- The states of a node entry, numbered as in 0x2803:02. -/
inductive NodeSt where
  | none | dynamic | ambiguous | static
  deriving DecidableEq, Repr

/-- A node table entry (R287). -/
structure NodeEnt where
  st : NodeSt
  port : Nat
  last : Nat
  conflicts : Nat
  expiry : Nat
  /-- PORT and LAST as they were before the instant LAST; none where the entry was NONE (R289). -/
  before : Option (Nat × Nat)
  deriving DecidableEq, Repr

end Sys2Proof.Machine
end

