-- ==== Sys2Proof/Machine/State.lean ====
section
/-! DEFINITION. The machine's state, its two closed reason types, and the state right after reset. -/

namespace Sys2Proof.Machine

/-- Why a step stops. No command of this block stops the machine: every row of the table has an effect. The type is kept
for the host's interface. Safe: no meaning answers with it. -/
inductive Fault where
  /-- Raised by nothing. Safe. -/
  | impossible
  deriving DecidableEq, Repr

/-- Why a command is turned away. -/
inductive Refusal where
  /-- The command has no meaning in the model yet. Raised by an arm of exec only. Safe: the run stops. -/
  | notModelled (mnemonic : String)
  deriving DecidableEq, Repr

/-- The state of the module. -/
structure State where
  /-- Picoseconds of the TCXO since reset (log 3). -/
  now : Nat
  wafer : Wafer
  beat : Beat
  /-- Session slots by number (R78). -/
  sessions : Tab Session
  /-- Hosts, keyed 0 HOSTA, 1 HOSTB. -/
  hostA : HostFn
  hostB : HostFn
  /-- Submission and completion rings keyed engine × 256 + ring. -/
  sq : Tab Ring
  cq : Tab Ring
  /-- The submission ring each engine served last (R186). -/
  lastRing : Tab Nat
  /-- MSI-X tables keyed function × 8192 + dword, and pending bits keyed function × 2048 + vector. -/
  msix : Tab Nat
  pba : Tab Bool
  /-- Lists in progress by identifier, and the next identifier. -/
  lists : Tab ListRun
  nextList : Nat
  jobs : Tab Job
  /-- Accepted frames keyed by list (R209). -/
  frames : Tab Frame
  nextFrame : Nat
  /-- Skip statistics keyed line of the deadline × 8 + class: an admission beat sums its lines, whatever its length is now
  (R211, R216). -/
  skips : Tab SkipStat
  /-- Locked-set deadlines that have been skipped: set, deadline (R213). -/
  setSkips : List (Nat × Nat)
  /-- Tier 1 (R145) and the granules written since the scrub (R153), and words holding an uncorrectable error. -/
  tier1 : Memory
  granules : Tab Bool
  tier1Bad : Tab Bool
  /-- Segments whose DRAM is in service (0x2400:01, R394). -/
  dram : Tab Bool
  /-- The dictionary's stored cells keyed index × 256 + sub. -/
  od : Tab Nat
  can : Can
  boxA : Mailbox
  boxB : Mailbox
  /-- Detectors by identifier (R423). -/
  det : Tab DetRec
  /-- The fault log by entry index, and how many entries have been made (R420). -/
  log : Tab LogEntry
  logMade : Nat
  /-- The collar's fault buffer while the collar is absent (R417). -/
  faultBuffer : List LogEntry
  absentEmcy : List Emcy
  /-- Replacement requested (R419). -/
  replacement : Bool
  suspects : List Suspect
  /-- Lease expiries keyed owner kind × 65536 + number, in line instants (R412). -/
  leases : Tab Nat
  dma : Tab DmaCh
  moves : Tab StoreMove
  injection : Injection
  /-- Tiles by physical key p × 144 + r × 12 + c. -/
  tiles : Tab Tile
  /-- Lines on their way through the mesh, oldest first (R108). -/
  mesh : List MeshLine
  /-- Attached slots (R219). -/
  attach : Tab Attach
  /-- The line count of the last reward broadcast boundary handled, and rewards broadcast at it (R241). -/
  rewardN : Nat
  rewardSent : Nat
  plans : Tab Plan
  segs : Tab Seg
  /-- Segment counters keyed segment × 16 + sub-index of 0x2410. -/
  segCtr : Tab Nat
  conns : Tab Conn
  wrs : Tab WorkReq
  nextWr : Nat
  ctrs : Tab Ctr
  /-- Ports by number; number 8 holds the frames of connections to the module's own node (R256). -/
  ports : Tab Port
  /-- Buckets keyed port × 8 + class (R295). -/
  buckets : Tab Bucket
  nodes : Tab NodeEnt
  power : Power
  up : BringUp
  fuses : FuseImage
  fw : Firmware
  /-- What the block has sent, newest last (the model's own). -/
  out : List Output
  /-- How many free values have been drawn (the model's own). -/
  fresh : Nat
  /-- Commands that wait, first in, first out. -/
  pending : List Instr
  deriving DecidableEq, Repr

/-! ### Reset -/

/-- A host function at reset: link down, every register 0 (R217). -/
def hostFn0 : HostFn :=
  { up := false, gen := 0, width := 0, bar2Base := 0, bar2Log := 40, evCq := 0, evEng := 0, evEnable := false,
    aperSel := 0, aperValid := false, aperJob := 0, stampHi := 0, dropped := 0, flr := false, aer := false,
    rang := false }

/-- A mailbox at reset (R343). -/
def mailbox0 : Mailbox :=
  { cmd := 0, len := 0, offset := 0, busy := false, done := false, aborted := false, remain := false, code := 0,
    vector := 0, vectorEnable := false, buf := [], answer := none, chunk := none }

/-- The wafer map at reset: unfused, full grid, epoch 0 (R33, R48). -/
def wafer0 : Wafer :=
  { skip := .empty, repaired := .empty, spent := .empty, panel := .empty, laneFail := .empty, passFail := .empty,
    laneForce := .empty, passForce := .empty, laneKept := .empty, mode := 0, epoch := 0, epochN := none }

/-- The beat unit at reset: SEARCH, every counter 0 (R61, R87). -/
def beat0 : Beat :=
  { lock := .search, carrier := false, inverted := false, srcHoldover := false, srcTest := false, everLocked := false, holdover := false,
    n := 0, n0 := 0, f0 := 0, lines := 0, rate := 0, source := 0, boundaryAt := 0, prevAt := 0, tickAt := 0,
    lastGoodAt := 0, intervals := [], curGood := false, prevGood := false, period := 0, polMode := 0, decided := false, badRun := 0, run := [], lastFirstBit := none, held := 0,
    relock := 0, lockN := 0, opAt := 0 }

/-- The field network node at reset: INITIALISING (R307). -/
def can0 : Can :=
  { nmt := .initialising, nodeId := 127, idSource := 3, straps := 0, rate := 3, queue := [], held := none,
    dropped := false, lastEmcyAt := none, tec := 0, rxErr := 0, passive := false, busOff := false,
    hbDueAt := none, hbWaiting := none, consumers := .empty, tpdo := .empty, rpdo := .empty,
    sdo := none, sdoHeld := none, cobWritten := .empty, history := [], recovering := false, later := [], rateNew := false, idNew := false }

/-- Inputs, clocks and coolant at reset: input absent, domains OFF, TCXO running, spread on (R383). -/
def power0 : Power :=
  { input := .absent, inputMv := 0, watts := 0, standbyMv := 0, standbyOut := false, rangeAt := none, actions := [],
    lastAct := none, panels := .empty, domains := .empty, unlocked := .empty, offTol := .empty, spreadPanel := true,
    spreadYoke := true, refLost := false, internalOsc := false, offset := none, tin := 0, tout := 0, flow := 0,
    tinFault := 0, toutFault := 0, flowFault := 0, thermal := false, warned := false, rails := .empty, needRequest := false }

/-- The startup sequence at reset: the collar held in reset, phase COLLAR_START (R400). -/
def bringUp0 : BringUp :=
  { inReset := true, collar := false, absentAt := none, yoke := false, phase := .collarStart, step := 1, stepAt := 0,
    warm := false, startAt := 0, cause := .supply, recovery := 0, level := 0, t0 := 0, t1 := 0, t2 := 0,
    coldStarts := 0, failedYoke := 0, retryAt := none, yokeOnly := false, segs := .empty, panels := .empty,
    ended := .empty, built := false, lanes := 0, patrolAt := 0, restore := none, slowSpi := false, late := [],
    panelAt := .empty, endedAt := 0, rebuildMode := 1 }

/-- Unblown fuses (log 10). -/
def fuses0 : FuseImage :=
  { uncorrectable := false, nodeId := 0, layout := 0, serial := [], wafer := [], carrier := 0, revision := 0,
    vendor := 0, serialNumber := 0, pciVendor := 0, gusset := [], lanes := [], rollback := 0, regulatorTrims := [], pllTrims := [],
    sramRepair := [], keyHash := [] }

/-- An erased slot. -/
def slot0 : Slot :=
  { st := .empty, version := 0, security := 0, schemaWrite := 1, schemaMin := 1, failures := 0, buildId := [] }

/-- Firmware at reset: slot A COMMITTED, slot B EMPTY, no settings record (log 11). -/
def firmware0 : Firmware :=
  { slotA := { slot0 with st := .committed }, slotB := slot0, runB := false, settings := 2, schemaLoaded := 0,
    health := 0, healthFrom := none, fallbacks := 0, upd := .idle, updB := true, updBytes := 0, updResult := 0,
    beginWait := none, records := [], store := none, storeWait := [], commit := none, imagePath := none }

/-- The machine right after reset: nothing started, nothing listed, no command waiting. -/
def State.reset : State :=
  { now := 0, wafer := wafer0, beat := beat0, sessions := .empty, hostA := hostFn0, hostB := hostFn0, sq := .empty,
    cq := .empty, lastRing := .empty, msix := .empty, pba := .empty, lists := .empty, nextList := 0, jobs := .empty, frames := .empty,
    nextFrame := 0, skips := .empty, setSkips := [], tier1 := [], granules := .empty, tier1Bad := .empty,
    dram := .empty, od := .empty, can := can0, boxA := mailbox0, boxB := mailbox0, det := .empty, log := .empty,
    logMade := 0, faultBuffer := [], absentEmcy := [], replacement := false, suspects := [], leases := .empty,
    dma := .empty, moves := .empty,
    injection := { armed := false, fired := 0, lastN := none, acting := false },
    tiles := .empty, mesh := [], attach := .empty, rewardN := 0, rewardSent := 0, plans := .empty, segs := .empty,
    segCtr := .empty, conns := .empty, wrs := .empty, nextWr := 0, ctrs := .empty, ports := .empty, buckets := .empty, nodes := .empty,
    power := power0, up := bringUp0, fuses := fuses0, fw := firmware0, out := [], fresh := 0, pending := [] }

end Sys2Proof.Machine
end

