-- ==== Sys2Proof/Machine/Ops.lean ====
section
/-! DEFINITION. The named operations that every meaning shares: time and stamps, dictionary cells, the grid translation,
tier 1, detectors and the fault log, EMCYs, event and completion records, MSI-X. -/

namespace Sys2Proof.Machine

/-! ### Outcomes -/

/-- A command whose effect is `t` when its condition `c` holds, and which does not occur otherwise (log 2). -/
def whenDue (c : Bool) (s t : State) : Host.Outcome State Fault Refusal := .next (if c then t else s)

/-- Applies `f` over a list from the left. -/
def each {α : Type} (l : List α) (f : State → α → State) (s : State) : State := l.foldl f s

/-- Time moves on to the due instant, never back (log 3). -/
def State.advanceTo (s : State) (t : Nat) : State := { s with now := max s.now t }

/-- Picoseconds of a millisecond, a microsecond, a second. -/
def psMs : Nat := 1000000000
def psUs : Nat := 1000000
def psS : Nat := 1000000000000

/-! ### Stamps (R11 to R13, R73, R76) -/

/-- The signed frame difference a − b of R13; exactly 2^31 counts as neither and reads as −2^31. -/
def frameDiff (a b : Nat) : Int := signed 32 (a + 2 ^ 32 - b % 2 ^ 32)

/-- The stamp of tick `tick` of line `n` under the anchor and geometry in force (R73). 0 before the first lock. -/
def Beat.stampAt (b : Beat) (n : Int) (tick : Nat) : Nat :=
  if b.lines = 0 then 0 else
    let d : Int := n - b.n0
    let frame := unsigned 32 ((b.f0 : Int) + d / (b.lines : Int))
    let line := (d % (b.lines : Int)).toNat
    frame * 2 ^ 32 + line * 65536 + tick

/-- The stamp of a line instant (line count × 65536 + tick). -/
def Beat.stampOf (b : Beat) (lt : Nat) : Nat := b.stampAt (lt / 65536 : Nat) (lt % 65536)

/-- The stamp of the received boundary in force: the local count less the boundaries held back, which a source far behind takes
below zero (R64, R71). -/
def Beat.received (b : Beat) : Nat := b.stampAt ((b.n : Int) - b.held) 0

/-- The line instant of a stamp (R73); none when it is malformed (R12) or before line count 0. -/
def Beat.instantOf (b : Beat) (st : Nat) : Option Nat :=
  let line := bits st 31 16
  if b.lines ≤ line then none else
    let n := b.n0 + frameDiff (bits st 63 32) b.f0 * (b.lines : Int) + line
    if n < 0 then none else some (n.toNat * 65536 + bits st 15 0)

/-- Stamp a is later than stamp b (R13). -/
def stampLater (a b : Nat) : Bool :=
  let d := (bits a 63 32 + 2 ^ 32 - bits b 63 32) % 2 ^ 32
  if d = 0 then decide (bits a 31 0 > bits b 31 0) else decide (d ≤ 2 ^ 31 - 1)

/-- The tick (R76): elapsed time over the measured period in 65,536ths, held at 0xFFFF. -/
def State.tick (s : State) : Nat :=
  if s.beat.period = 0 then 0 else min 0xFFFF ((s.now - s.beat.tickAt) * 65536 / s.beat.period)

/-- The current line instant. -/
def State.lineNow (s : State) : Nat := s.beat.n * 65536 + s.tick

/-- The current beat stamp (R76): 0 before the first lock. -/
def State.stamp (s : State) : Nat := s.beat.stampOf s.lineNow

/-! ### Dictionary cells -/

/-- The key of a stored cell. -/
def odKey (index sub : Nat) : Nat := index * 256 + sub
/-- A setting's value: as written, or its default. -/
def State.setting (s : State) (index sub : Nat) : Nat := s.od.get (odDefault index sub) (odKey index sub)
/-- A counter's or query result's value: 0 until something writes it. -/
def State.cell (s : State) (index sub : Nat) : Nat := s.od.get 0 (odKey index sub)
/-- A stored cell is written. -/
def State.putCell (s : State) (index sub v : Nat) : State := { s with od := s.od.set (odKey index sub) v }
/-- A counter of `w` bits goes up by `n` and wraps. -/
def State.count (s : State) (w index sub n : Nat) : State := s.putCell index sub ((s.cell index sub + n) % 2 ^ w)
/-- A 64-bit counter goes up by 1. -/
def State.bump64 (s : State) (index sub : Nat) : State := s.count 64 index sub 1
/-- A 32-bit counter goes up by 1. -/
def State.bump32 (s : State) (index sub : Nat) : State := s.count 32 index sub 1

/-! ### The grid (R28 to R39, R46) -/

/-- A tile's key by physical position. -/
def tileKey (t : PhysTile) : Nat := t.p.val * 144 + t.r.val * 12 + t.c.val
def keyPanel (k : Nat) : Nat := k / 144
def keyRow (k : Nat) : Nat := k / 12 % 12
def keyCol (k : Nat) : Nat := k % 12
def panelX (p : Nat) : Nat := p % 8
def panelY (p : Nat) : Nat := p / 8

/-- The panels in number order. -/
def allPanels : List Nat := List.range 64

/-- The skipped column s(p, r) (R32). -/
def Wafer.skipOf (w : Wafer) (p r : Nat) : Nat := w.skip.get 11 (p * 12 + r)
/-- A panel's cell of 0x2010. -/
def Wafer.panelOf (w : Wafer) (p : Nat) : PanelCell := w.panel.get ⟨.active, false⟩ p
/-- A panel is in the grid: ACTIVE, or LOST in HOLE mode (R36, R37). -/
def Wafer.inGrid (w : Wafer) (p : Nat) : Bool := w.mode == 3 || (w.panelOf p).mode == .active
/-- A panel in the grid is absent (R37). -/
def Wafer.absent (w : Wafer) (p : Nat) : Bool := w.mode == 3 && (w.panelOf p).mode == .lost
/-- A panel column, or row, has a panel in the grid (R36). -/
def Wafer.colActive (w : Wafer) (x : Nat) : Bool := (List.range 8).any fun y => w.inGrid (y * 8 + x)
def Wafer.rowActive (w : Wafer) (y : Nat) : Bool := (List.range 8).any fun x => w.inGrid (y * 8 + x)
/-- The active panel columns from west to east, and rows from south to north: position LPX holds PX (R36). -/
def Wafer.cols (w : Wafer) : List Nat := (List.range 8).filter w.colActive
def Wafer.rows (w : Wafer) : List Nat := (List.range 8).filter w.rowActive
/-- Logical width and height (R36). -/
def Wafer.width (w : Wafer) : Nat := w.cols.length * 11
def Wafer.height (w : Wafer) : Nat := w.rows.length * 12

/-- Position of `x` in a list. -/
def indexIn (x : Nat) : List Nat → Option Nat
  | [] => none
  | y :: r => if y = x then some 0 else (indexIn x r).map (· + 1)

/-- The physical key of logical tile (lx, ly), whether or not its panel is absent; none outside the grid (R34, R36). -/
def Wafer.physAny (w : Wafer) (lx ly : Nat) : Option Nat :=
  match w.cols[lx / 11]?, w.rows[ly / 12]? with
  | some x, some y =>
    let p := y * 8 + x
    let r := ly % 12
    let lc := lx % 11
    let c := if lc < w.skipOf p r then lc else lc + 1
    if w.inGrid p then some (p * 144 + r * 12 + c) else none
  | _, _ => none

/-- The physical key of a logical tile that a command may name (R19, R37). -/
def Wafer.phys (w : Wafer) (lx ly : Nat) : Option Nat :=
  match w.physAny lx ly with
  | some k => if w.absent (keyPanel k) then none else some k
  | none => none

/-- The logical coordinates of a physical tile that holds a logical position (R34, R36). -/
def Wafer.logical (w : Wafer) (k : Nat) : Option (Nat × Nat) :=
  let p := keyPanel k
  let r := keyRow k
  let c := keyCol k
  let sk := w.skipOf p r
  if w.inGrid p = false ∨ w.absent p = true ∨ c = sk then none else
    match indexIn (panelX p) w.cols, indexIn (panelY p) w.rows with
    | some i, some j => some (i * 11 + (if c < sk then c else c - 1), j * 12 + r)
    | _, _ => none

/-- Logical tiles present (0x2001:08). -/
def Wafer.present (w : Wafer) : Nat := ((allPanels.filter fun p => w.inGrid p && !w.absent p).length) * 132

/-- A logical tile packed as [6:0] LX, [14:8] LY. -/
def packTile (lx ly : Nat) : Nat := lx + ly * 256
def tileLx (v : Nat) : Nat := bits v 6 0
def tileLy (v : Nat) : Nat := bits v 14 8

/-- The unit field of a tile (R420): logical, or 0x8000 with the physical position outside the grid. -/
def Wafer.tileUnit (w : Wafer) (k : Nat) : Nat :=
  match w.logical k with
  | some (x, y) => packTile x y
  | none => 0x8000 + keyPanel k * 256 + keyRow k * 16 + keyCol k

/-- The logical tiles of a region in row-major order. -/
def Region.tiles (g : Region) : List (Nat × Nat) :=
  (List.range g.h).flatMap fun j => (List.range g.w).map fun i => (g.lx + i, g.ly + j)

/-- A logical tile lies in a region. -/
def Region.has (g : Region) (x y : Nat) : Bool :=
  decide (g.lx ≤ x) && decide (x < g.lx + g.w) && decide (g.ly ≤ y) && decide (y < g.ly + g.h)

/-- Two regions share a tile. -/
def Region.meets (a b : Region) : Bool :=
  decide (a.lx < b.lx + b.w) && decide (b.lx < a.lx + a.w) && decide (a.ly < b.ly + b.h) && decide (b.ly < a.ly + a.h)

/-- The physical keys of a region's tiles that a command may name. -/
def Wafer.regionKeys (w : Wafer) (g : Region) : List Nat := g.tiles.filterMap fun t => w.phys t.1 t.2

/-- A region lies inside the grid and names no absent tile (R19, R37). -/
def Wafer.regionOk (w : Wafer) (g : Region) : Bool := g.tiles.all fun t => (w.phys t.1 t.2).isSome

/-! ### Functions -/

/-- The number of a function: 0 HOSTA, 1 HOSTB. -/
def fnNum : Fn → Nat
  | .hostA => 0
  | .hostB => 1
/-- The function of a number. -/
def fnOf (n : Nat) : Fn := if n = 0 then .hostA else .hostB
def engNum : Engine → Nat
  | .grid => 0 | .stream => 1 | .remote => 2 | .tailor => 3 | .beat => 4

/-- A function's registers. -/
def State.host (s : State) : Fn → HostFn
  | .hostA => s.hostA
  | .hostB => s.hostB
/-- A function's registers are changed. -/
def State.setHost (s : State) (f : Fn) (h : HostFn) : State :=
  match f with
  | .hostA => { s with hostA := h }
  | .hostB => { s with hostB := h }

/-! ### Tier 1 (R44, R145, R153, R154) -/

/-- Size of tier 1 and of a segment. -/
def tier1Size : Nat := 2 ^ 40
def segSize : Nat := 2 ^ 36
/-- The segment that holds a tier 1 address (R44). -/
def segOf (a : Nat) : Nat := a / segSize
/-- The granules of 64 KiB that a range touches. -/
def granulesOf (a n : Nat) : List Nat :=
  if n = 0 then [] else (List.range ((a + n - 1) / 65536 - a / 65536 + 1)).map (· + a / 65536)

/-! ### Detectors and the fault log (R420, R423) -/

/-- What a detector has counted. -/
def State.detOf (s : State) (d : Nat) : DetRec := s.det.get ⟨0, 0, 0⟩ d

/-- The position of the newest of the log entries for which `p` holds. -/
def State.logNewest (s : State) (p : LogEntry → Bool) : Option Nat :=
  ((s.log.cells.filter fun c => p c.2).foldl (fun (a : Option (Nat × LogEntry)) c => match a with
    | none => some c
    | some b => if b.2.lastAt ≤ c.2.lastAt then some c else some b) none).map Prod.fst

/-- The position of the newest log entry for a detector and unit, when it was made within the last second (R420). -/
def State.logRepeat (s : State) (d unit kind : Nat) : Option Nat :=
  s.logNewest fun e => e.det == d && e.unit == unit && e.kind == kind && decide (s.now < e.lastAt + psS)

/-- An entry is made in the fault log, or in the fault buffer while the collar is absent (R417, R420). A firing of the
same detector on the same unit within 1 s adds to the last entry's repeats, which a first firing counts as 1 (the worked
example of 14_faults). -/
def State.logAdd (s : State) (d unit action kind : Nat) (injected : Bool) : State :=
  let e : LogEntry := ⟨s.stamp, d, unit, action, injected, kind, 1, s.now⟩
  if s.up.collar = false ∧ s.up.absentAt.isSome then
    { s with faultBuffer := (s.faultBuffer ++ [e]).take 64 }
  else match s.logRepeat d unit kind with
    | some i =>
      { s with log := s.log.mapVals fun j o =>
          if j = i then { o with repeats := min 0xFFFF (o.repeats + 1) } else o }
    | none => { s with log := s.log.set (s.logMade % 256) e, logMade := s.logMade + 1 }

/-- A detector fires for a unit: it counts, takes the stamp and logs, with the action taken (R420, R422). -/
def State.fireFull (s : State) (d unit action kind : Nat) (injected : Bool) : State :=
  let r := s.detOf d
  let q : DetRec := ⟨(r.count + 1) % 2 ^ 64, s.stamp, if injected then (r.injected + 1) % 2 ^ 32 else r.injected⟩
  let s1 := { s with det := s.det.set d q }
  s1.logAdd d unit action kind injected

/-- A detector fires for a unit. Firings while an injection is carried out are injected firings (R422). -/
def State.fire (s : State) (d unit action : Nat) : State := s.fireFull d unit action 0 s.injection.acting

/-- The action that follows a firing is kept in the newest entry of its detector and unit; without one the action makes an
entry of its own (R420). -/
def State.logAct (s : State) (d unit action : Nat) : State :=
  if s.up.collar = false ∧ s.up.absentAt.isSome then
    { s with faultBuffer := s.faultBuffer.map fun e => if e.det = d ∧ e.unit = unit then { e with action := action } else e }
  else match s.logNewest fun e => e.det == d && e.unit == unit with
    | some i => { s with log := s.log.mapVals fun j o => if j = i then { o with action := action } else o }
    | none => s.logAdd d unit action 0 false

/-- A record word of the fault log (R420). -/
def LogEntry.record (e : LogEntry) : Nat :=
  e.det + e.unit * 2 ^ 16 + e.action * 2 ^ 32 + flag e.injected * 2 ^ 40 + e.kind * 2 ^ 41 + e.repeats * 2 ^ 48

/-! ### Tier 1 ECC (R153, R154) -/

/-- A segment's counter (0x2410) goes up. -/
def State.segCount (s : State) (g sub n : Nat) : State :=
  { s with segCtr := s.segCtr.set (g * 16 + sub) ((s.segCtr.get 0 (g * 16 + sub) + n) % 2 ^ 64) }

/-- The 64-bit words that a range touches. -/
def tierWords (a n : Nat) : List Nat :=
  if n = 0 then [] else (List.range ((a + n - 1) / 8 - a / 8 + 1)).map (· + a / 8)

/-- The words in error within a range, in written granules; `double` picks the uncorrectable ones. -/
def State.tierErrors (s : State) (a n : Nat) (double : Bool) : List Nat :=
  (s.tier1Bad.cells.filter fun c => c.2 == double && decide (a < c.1 * 8 + 8) && decide (c.1 * 8 < a + n)
    && s.granules.get false (c.1 / 8192)).map Prod.fst

/-- A read meets an uncorrectable word. -/
def State.tierBad (s : State) (a n : Nat) : Bool := !(s.tierErrors a n true).isEmpty

/-- A single-bit error is corrected, written back and counted. -/
def State.tierFix (s : State) (w : Nat) : State :=
  let g := segOf (w * 8)
  (({ s with tier1Bad := s.tier1Bad.erase w }).segCount g 5 1).fire 0x0501 g 0

/-- An uncorrectable error is counted. -/
def State.tierLost (s : State) (w : Nat) : State := let g := segOf (w * 8); (s.segCount g 6 1).fire 0x0502 g 1

/-- What a read of tier 1 leaves: never-written granules are counted and fire 0x0503, single errors are corrected, and
uncorrectable words fire 0x0502 (R153, R154). -/
def State.tierRead (s : State) (a n : Nat) : State :=
  let cold := (granulesOf a n).filter fun k => !s.granules.get false k
  let s1 := each cold (fun x k => let g := segOf (k * 65536); (x.segCount g 4 1).fire 0x0503 g 0) s
  let s2 := each (s.tierErrors a n false) State.tierFix s1
  each (s.tierErrors a n true) State.tierLost s2

/-- A word that a write covers in part and that holds an uncorrectable error keeps its bytes (R154). -/
def State.tierStop (s : State) (a n : Nat) : List Nat :=
  (s.tierErrors a n true).filter fun w => !(decide (a ≤ w * 8) && decide (w * 8 + 8 ≤ a + n))

/-- Bytes are stored in tier 1: their granules count as written, whole words take new check bits, a single error in a
word written in part is corrected in the merge, and an uncorrectable word written in part keeps its bytes (R153,
R154). -/
def State.tierWrite (s : State) (a : Nat) (bs : List Byte) : State :=
  let stop := s.tierStop a bs.length
  let part := (s.tierErrors a bs.length false).filter fun w => !(decide (a ≤ w * 8) && decide (w * 8 + 8 ≤ a + bs.length))
  let s1 := each stop State.tierLost (each part State.tierFix s)
  { s1 with
    tier1 := if stop.isEmpty then s1.tier1.writeBytes a bs
      else (bs.zipIdx a).foldl (fun m b => if stop.contains (b.2 / 8) then m else m.write b.2 b.1) s1.tier1
    granules := (granulesOf a bs.length).foldl (fun g k => g.set k true) s1.granules
    tier1Bad := s1.tier1Bad.keep fun w _ => !(decide (a < w * 8 + 8) && decide (w * 8 < a + bs.length)) || stop.contains w }

/-- Bit errors strike words of tier 1: two single ones in a word make it uncorrectable. -/
def State.tierStrike (s : State) (us : List TierUpset) : State :=
  { s with tier1Bad := us.foldl (fun t u => t.set (u.addr / 8) (u.double || (t.find (u.addr / 8)).isSome)) s.tier1Bad }

/-! ### Error register and EMCY (R315, R347) -/

/-- Some segment's DRAM is out of service. -/
def State.dramMissing (s : State) : Bool := (List.range 16).any fun k => !s.dram.get false k

/-- The default of a panel's power status: everything clear, frequency 1,100 MHz (0x2211's default). -/
def panelPower0 : PanelPower :=
  { brownout := false, belowCore := false, belowSram := false, srcBrown := false, srcLimit := false, srcDie := false,
    mhz := 1100, stopped := false, overcurrent := false, ocInjected := false, clears := 0, pll := false,
    coreMv := 0, sramMv := 0, temp := 0, resetAt := none, aboveAt := none, resets := [], released := false }

/-- A panel's power status. -/
def State.panelPower (s : State) (p : Nat) : PanelPower := s.power.panels.get panelPower0 p

/-- The communication bit of 0x1001 (R313, R316). -/
def State.commError (s : State) : Bool := s.can.passive || s.can.busOff || s.can.consumers.vals.any fun c => c.timedOut

/-- A panel is LOST: its state says so, or it has been declared lost and the boundary of R409 has not come. -/
def State.panelLost (s : State) (p : Nat) : Bool :=
  (s.wafer.panelOf p).mode == .lost || s.suspects.any fun x => match x.what with
    | .panel q _ => q == p
    | _ => false

/-- The error register 0x1001 (R347). -/
def State.errReg (s : State) : Nat :=
  let volt := s.power.panels.vals.any (fun p => p.brownout) || s.power.input != .inRange || s.power.standbyOut
  let temp := s.power.tinFault != 0 || s.power.toutFault != 0 || s.power.flowFault != 0 || s.power.thermal
  let manu := (allPanels.any s.panelLost) || s.dramMissing || s.replacement
  flag (volt || temp || s.commError || manu) + flag volt * 4 + flag temp * 8 + flag s.commError * 16 + flag manu * 128

/-- An EMCY is raised (R315): queued with the stamp `st`, dropped and counted when the queue is full, not sent at all
while bit 31 of 0x1014 is set. 0x1003 takes it, except code 0. While the collar is absent it waits in the fault buffer
(R417). -/
def State.emcyAt (s : State) (code det st : Nat) : State :=
  let m : Emcy := ⟨code, s.errReg, st, det⟩
  if s.up.absentAt.isSome then
    { s with absentEmcy := (s.absentEmcy ++ [m]).take 64 }
  else if bit (s.setting 0x1014 0) 31 then s
  else
    let s1 := if code = 0 then s else { s with can := { s.can with history := ((code + det * 65536) :: s.can.history).take 8 } }
    if s1.can.queue.length < 16 then
      { s1 with can := { s1.can with queue := s1.can.queue ++ [m] } }
    else
      let s2 := s1.bump32 0x1FD2 8
      ({ s2 with can := { s2.can with dropped := true } }).fire 0x0D04 0 0

/-- An EMCY is raised with the current stamp. -/
def State.emcy (s : State) (code det : Nat) : State := s.emcyAt code det s.stamp

/-! ### Clocks (R373) -/

/-- The clocks of a unit start anew: unlock and tolerance faults noted before are over (log 47). -/
def State.clocksFresh (s : State) (ks : List Nat) : State :=
  { s with power := { s.power with
    unlocked := s.power.unlocked.keep fun k _ => !ks.contains k
    offTol := s.power.offTol.keep fun k _ => !ks.contains k } }

/-! ### MSI-X (R189) -/

/-- The vector control dword's mask bit of a vector. A table entry reads masked until the host writes it (log 8). -/
def State.vectorMasked (s : State) (f : Fn) (v : Nat) : Bool := bit (s.msix.get 1 (fnNum f * 8192 + v * 4 + 3)) 0

/-- A vector is raised: a message leaves, or its pending bit is set while it is masked. -/
def State.raise (s : State) (f : Fn) (v : Nat) : State :=
  if s.vectorMasked f v then { s with pba := s.pba.set (fnNum f * 2048 + v) true }
  else { s with out := s.out ++ [.msix f v] }

/-! ### Completion rings, event records (R184, R188 to R190, R207, R208) -/

/-- The reset value of a ring's block. -/
def ring0 : Ring :=
  { base := 0, log2 := 0, cq := 0, owner := .hostA, error := false, vector := 0, enable := false, producer := 0,
    consumer := 0, reserved := 0, armed := false }

def ringKey (e : Engine) (n : Nat) : Nat := engNum e * 256 + n
def State.sqOf (s : State) (k : Nat) : Ring := s.sq.get ring0 k
def State.cqOf (s : State) (k : Nat) : Ring := s.cq.get ring0 k

/-- Occupancy (R184). -/
def Ring.used (r : Ring) : Nat := (r.producer + 2 ^ 32 - r.consumer) % 2 ^ 32
/-- Slots of a completion ring neither occupied nor reserved. -/
def Ring.freeSlots (r : Ring) : Nat := 2 ^ r.log2 - (r.used + r.reserved)

/-- The record `body` of 60 bytes after its header word is written at the producer index of completion ring `k`, with
SEQ equal to it; an armed ring raises its vector and is disarmed (R188, R189). -/
def State.cqPut (s : State) (k header : Nat) (body : List Byte) : State :=
  let r := s.cqOf k
  let rec_ := natLe 4 header ++ natLe 4 r.producer ++ body
  let s1 := s.tierWrite (r.base + r.producer % 2 ^ r.log2 * 64) rec_
  let s2 := { s1 with cq := s1.cq.set k { r with producer := (r.producer + 1) % 2 ^ 32, armed := false } }
  if r.armed then s2.raise r.owner r.vector else s2

/-- A 56-byte body padded or cut to its size. -/
def pad (n : Nat) (l : List Byte) : List Byte := (l ++ List.replicate n 0#8).take n

/-- An event record is written to the event ring of one function, or dropped and counted when the ring is full (R190,
R208). A function without an event ring keeps nothing but the detector's count. -/
def State.event (s : State) (f : Fn) (code det st : Nat) (data : List Byte) : State :=
  let h := s.host f
  let k := h.evEng * 256 + h.evCq
  let r := s.cqOf k
  if h.evEnable = false ∨ r.enable = false ∨ r.owner ≠ f then s
  else if r.freeSlots = 0 then
    ((s.bump64 0x2501 7).setHost f { h with dropped := h.dropped + 1 }).fire 0x0706 (fnNum f) 0
  else
    let s1 := s.setHost f { h with dropped := 0 }
    s1.cqPut k (3 + flag (h.dropped ≠ 0) * 2 ^ 19)
      (natLe 2 code ++ natLe 2 det ++ natLe 4 0 ++ natLe 8 st ++ pad 40 data)

/-- An event to the event ring of each function. -/
def State.eventAll (s : State) (code det st : Nat) (data : List Byte) : State :=
  (s.event .hostA code det st data).event .hostB code det st data

/-- The hem ring is up: YOKE is ON (R45). -/
def State.hemRing (s : State) : Bool := (s.power.domains.get ⟨.off, false, 0⟩ 0).st == .on

/-- An EMCY that is also written as an event whenever the hem ring is up (R382). -/
def State.emcyEvent (s : State) (code det : Nat) (data : List Byte) : State :=
  let st := s.stamp
  let s1 := s.emcyAt code det st
  if s1.hemRing then s1.eventAll code det st data else s1

/-- Power and clock emergency: DATA [7:0] is the stamp and [9:8] the argument (R382). -/
def State.emcyPower (s : State) (code det arg : Nat) : State :=
  s.emcyEvent code det (natLe 8 s.stamp ++ natLe 2 arg)

/-! ### Suspect units (R404) -/

/-- A unit becomes suspect at the current line, by a detector. -/
def State.suspect (s : State) (u : FailUnit) (det : Nat) : State :=
  if s.suspects.any (fun x => x.what == u) then s else { s with suspects := s.suspects ++ [⟨u, s.beat.n, det⟩] }

/-- A unit is suspect. -/
def State.isSuspect (s : State) (u : FailUnit) : Bool := s.suspects.any fun x => x.what == u

/-- A unit is suspect and a boundary has come since its detection. Before the first lock there are no boundaries, and the
fence is due at once (log 14). -/
def State.fenceDue (s : State) (u : FailUnit) : Bool :=
  s.suspects.any fun x => x.what == u && (decide (x.sinceN < s.beat.n) || s.beat.lock == .search)

/-- The detector that made a unit suspect. -/
def State.suspectDet (s : State) (u : FailUnit) : Nat :=
  match s.suspects.find? fun x => x.what == u with
  | some x => x.det
  | none => 0

/-- A unit is no longer suspect. -/
def State.unsuspect (s : State) (u : FailUnit) : State :=
  { s with suspects := s.suspects.filter fun x => x.what != u }

/-- A free value of 64 bits is drawn (Config.freeWord). -/
def State.draw (s : State) : State := { s with fresh := s.fresh + 1 }

end Sys2Proof.Machine
end

