-- ==== Sys2Proof/Machine/Lists.lean ====
section
/-! DEFINITION. Completions: status precedence, entry and list records, the end of frames, tasks, windows, connections,
sessions and jobs. Every family that ends a request ends it here. -/

namespace Sys2Proof.Machine

/-! ### Status codes and precedence (R21, R22) -/

/-- The code of a status. -/
def Status.code : Status → Nat
  | .ok => 0 | .frameSkipped => 1 | .overload => 2 | .tierFailed => 3 | .regionLost => 4 | .jobAborted => 5
  | .badCommand => 6 | .keyRejected => 7 | .deadlineMissed => 8 | .bankConflict => 9 | .coldRead => 10
  | .beatLost => 11 | .seqError => 12 | .fenced => 13

/-- The precedence of a status: the lowest number is carried. -/
def Status.prec : Status → Nat
  | .ok => 14 | .frameSkipped => 9 | .overload => 3 | .tierFailed => 8 | .regionLost => 6 | .jobAborted => 5
  | .badCommand => 1 | .keyRejected => 2 | .deadlineMissed => 10 | .bankConflict => 11 | .coldRead => 13
  | .beatLost => 7 | .seqError => 12 | .fenced => 4

/-- The status carried when both conditions hold (R22). -/
def Status.worse (a b : Status) : Status := if b.prec < a.prec then b else a

/-- The status carried over a list of conditions; OK when none holds. -/
def worst (l : List Status) : Status := l.foldl Status.worse .ok

/-- The condition `b` contributes status `st`. -/
def cond (b : Bool) (st : Status) : List Status := if b then [st] else []

/-! ### Entries of a list -/

/-- A little-endian field of an entry (R8). -/
def EntryRun.field (e : EntryRun) (off n : Nat) : Nat := leNat ((e.raw.drop off).take n)
/-- OP, ENGINE, WAIT, CMPL, ETAG of the header (R192). -/
def EntryRun.op (e : EntryRun) : Nat := bits (e.field 0 4) 7 0
def EntryRun.engine (e : EntryRun) : Nat := bits (e.field 0 4) 10 8
def EntryRun.wait (e : EntryRun) : Bool := bit (e.field 0 4) 11
def EntryRun.cmpl (e : EntryRun) : Bool := bit (e.field 0 4) 12
def EntryRun.etag (e : EntryRun) : Nat := bits (e.field 0 4) 31 16
/-- The entry is a FRAME (R206). -/
def EntryRun.isFrame (e : EntryRun) : Bool := e.engine == 4 && e.op == 6

/-- The session slot that an entry names, or 0xFFFF: SLOT of its record (R205 to R207). -/
def EntryRun.slotNamed (e : EntryRun) : Nat :=
  if ((e.engine = 4 ∧ 1 ≤ e.op ∧ e.op ≤ 7) ∨ (e.engine = 3 ∧ 1 ≤ e.op ∧ e.op ≤ 4)) ∧ e.field 4 2 < 4096 then e.field 4 2
  else 0xFFFF

/-- The body of a completion record after HEADER and SEQ (R207). -/
def recordBody (l : ListRun) (stamp entry etag executed det result slot : Nat) : List Byte :=
  natLe 8 l.user ++ natLe 8 stamp ++ natLe 1 l.ring ++ natLe 1 0 ++ natLe 2 l.job ++ natLe 4 l.sqConsumer
    ++ natLe 2 entry ++ natLe 2 etag ++ natLe 2 executed ++ natLe 2 det ++ natLe 8 result ++ natLe 2 slot
    ++ List.replicate 14 0#8

/-- A record of list `id` is written to its completion ring, using one of its reserved slots; while the ring is disabled
or its function is down or in an FLR the record is withheld and counted (R179, R186). -/
def State.listPut (s : State) (id : Nat) (l : ListRun) (header : Nat) (body : List Byte) : State :=
  let r := s.cqOf l.cq
  let h := s.host l.owner
  let s1 := { s with lists := s.lists.set id { l with slots := l.slots - 1 } }
  if r.enable = false ∨ r.owner ≠ l.owner ∨ h.flr = true ∨ h.up = false then s1.bump64 0x2501 6
  else ({ s1 with cq := s1.cq.set l.cq { r with reserved := r.reserved - 1 } }).cqPut l.cq header body

/-- The entry that supplies the list's status (R194): the first with the lowest precedence number. -/
def ListRun.supplier (l : ListRun) : Option EntryRun :=
  l.entries.foldl (fun acc e => match acc with
    | none => some e
    | some a => if (e.status.getD .ok).prec < (a.status.getD .ok).prec then some e else some a) none

/-- The list record is written with the stamp `at_` and the list ends; unused slots are released (R186, R194). -/
def State.listEnd (s : State) (id : Nat) (st : Status) (entry executed det at_ : Nat) : State :=
  match s.lists.find id with
  | none => s
  | some l =>
    let s1 := s.listPut id l (1 + st.code * 256 + engNum l.eng * 65536) (recordBody l at_ entry 0 executed det 0 0xFFFF)
    let r := s1.cqOf l.cq
    { s1 with
      cq := if r.enable then s1.cq.set l.cq { r with reserved := r.reserved - (l.slots - 1) } else s1.cq
      lists := s1.lists.erase id }

/-- The list record is written when every begun entry has completed and no further entry will begin (R194). -/
def State.listCheck (s : State) (id at_ : Nat) : State :=
  match s.lists.find id with
  | none => s
  | some l =>
    if l.waiting.isNone && (l.stopped || l.next == l.count) && l.entries.all (fun e => e.status.isSome) then
      match l.supplier with
      | some e => s.listEnd id (e.status.getD .ok) e.idx l.entries.length e.det at_
      | none => s.listEnd id .ok 0 0 0 at_
    else s

/-- The entry of a list that has begun and not completed. -/
def State.entryOf (s : State) (id idx : Nat) : Option EntryRun :=
  match s.lists.find id with
  | none => none
  | some l => l.entries.find? fun e => e.idx == idx && e.status.isNone

/-- A begun entry is changed. -/
def State.entryMap (s : State) (id idx : Nat) (f : EntryRun → EntryRun) : State :=
  match s.lists.find id with
  | none => s
  | some l => { s with lists := s.lists.set id { l with entries := l.entries.map fun e => if e.idx = idx then f e else e } }

/-- The hem DMA channels that an entry holds are given back, but for those being drained (R412, R415). -/
def State.dmaRelease (s : State) (id idx : Nat) : State :=
  { s with dma := s.dma.mapVals fun _ c =>
      if c.entry = some (id, idx) ∧ c.drainSince = none then { c with holder := none, entry := none } else c }

/-- An entry completes with the stamp `at_` (R194): its status is kept, its entry record is written when it has CMPL or is a
FRAME, and the list ends when it was the last. -/
def State.entryDoneAt (s : State) (at_ id idx : Nat) (st : Status) (det result slot : Nat) : State :=
  match s.lists.find id, s.entryOf id idx with
  | some l, some e =>
    let l1 := { l with
      waiting := if l.waiting = some idx then none else l.waiting
      entries := l.entries.map fun x =>
        if x.idx = idx then { x with status := some st, det := det, result := result, slot := slot } else x }
    let s1 := ({ s with lists := s.lists.set id l1 }).dmaRelease id idx
    let s2 := if e.cmpl || e.isFrame then
        s1.listPut id l1 (2 + st.code * 256 + e.engine * 65536)
          (recordBody l at_ idx e.etag 0 det result slot)
      else s1
    s2.listCheck id at_
  | _, _ => s

/-- An entry completes now. -/
def State.entryDone (s : State) (id idx : Nat) (st : Status) (det result slot : Nat) : State :=
  s.entryDoneAt s.stamp id idx st det result slot

/-- An entry ends with what it has served so far and the slot it names in its record (R207). -/
def State.entryEnd (s : State) (id idx : Nat) (st : Status) (det : Nat) : State :=
  match s.entryOf id idx with
  | none => s
  | some e => s.entryDone id idx st det e.result e.slotNamed

/-- An entry is refused at acceptance: it completes and its list stops (R193). -/
def State.entryRefuse (s : State) (id idx : Nat) (st : Status) (det : Nat) : State :=
  match s.lists.find id with
  | none => s
  | some l => ({ s with lists := s.lists.set id { l with stopped := true } }).entryEnd id idx st det

/-- An entry is accepted by its engine: the list may go on (R193). -/
def State.entryAccept (s : State) (id idx : Nat) : State :=
  match s.lists.find id with
  | none => s
  | some l => { s with lists := s.lists.set id { l with waiting := if l.waiting = some idx then none else l.waiting } }

/-- One part of an entry's operation ends (R413): the entry completes when none is left, with the worst status. -/
def State.partDone (s : State) (id idx : Nat) (st : Status) (det : Nat) : State :=
  match s.entryOf id idx with
  | none => s
  | some e =>
    let e1 := { e with parts := e.parts - 1, worst := e.worst.worse st, det := if st = .ok then e.det else det }
    let s1 := s.entryMap id idx fun _ => e1
    if e1.parts = 0 then s1.entryEnd id idx e1.worst e1.det else s1

/-! ### Jobs -/

/-- A job slot that is FREE. -/
def job0 : Job :=
  { st := .free, key := 0, elastic := false, flash := false, owner := .hostA, region := ⟨0, 0, 0, 0⟩, ranges := [],
    fenced := false, pload := none }
def State.jobOf (s : State) (j : Nat) : Job := s.jobs.get job0 j
/-- Ranges cover the `n` bytes from `a`: each step goes on from the end of the range that holds the next byte. -/
def coversFrom (rs : List (Nat × Nat)) : Nat → Nat → Nat → Bool
  | 0, _, n => n == 0
  | fuel + 1, a, n => n == 0 || match rs.find? fun r => decide (r.1 ≤ a) && decide (a < r.1 + r.2) with
    | none => false
    | some r => coversFrom rs fuel (r.1 + r.2) (a + n - (r.1 + r.2))
/-- A job's ranges cover the bytes a to a + n − 1 (R198). -/
def Job.covers (j : Job) (a n : Nat) : Bool := coversFrom j.ranges (j.ranges.length + 1) a n

/-! ### Frames (R209, R210) -/

/-- A request ended by a fault is counted (0x2B00:09). -/
def State.faultEnd (s : State) (st : Status) : State :=
  if st = .regionLost ∨ st = .fenced ∨ st = .jobAborted then s.bump64 0x2B00 9 else s

/-- The session slot that is FREE. -/
def session0 : Session :=
  { st := .free, closing := false, closer := none, p := 0, phase := 0, m := 0, set := none, cls := 0, plan := none,
    variant := 0, job := 0, nextBeat := 0, claimFrom := 0, retimes := [], resume := false }
def State.sessionOf (s : State) (k : Nat) : Session := s.sessions.get session0 k
/-- Keys of the frames outstanding on a slot, oldest first. -/
def State.framesOf (s : State) (slot : Nat) : List Nat :=
  ((s.frames.cells.filter fun c => c.2.slot == slot).mergeSort (fun a b => decide (a.2.order ≤ b.2.order))).map Prod.fst

/-- A frame's lane leaves its pass. -/
def State.laneLeave (s : State) (f : Frame) (key : Nat) : State :=
  match f.pass with
  | none => s
  | some (pl, ps) => { s with plans := s.plans.mapVals fun i p =>
      if i = pl then { p with passes := p.passes.mapVals fun j q =>
        if j = ps then { q with lanes := q.lanes.map fun l => if l.frame = key then { l with live := false } else l } else q }
      else p }

/-! ### Tailoring windows (R222) -/

/-- Arrivals that wait outside a tile's event queue enter it, oldest first, while it has room (R225). -/
def Tile.evSettle (t : Tile) : Tile :=
  let n := 64 - t.evq.length
  { t with evq := t.evq ++ t.evWait.take n, evWait := t.evWait.drop n }

/-- Records of a slot leave a tile's queues, with its contributions and context. -/
def Tile.dropSlot (t : Tile) (slot : Nat) (free : Bool) : Tile :=
  Tile.evSettle { t with
    evq := t.evq.filter fun r => r.slot != slot
    evWait := t.evWait.filter fun r => r.slot != slot
    feedback := t.feedback.filter fun r => r.1.slot != slot
    contribs := t.contribs.filter fun c => c.slot != slot
    ctxs := if free then t.ctxs.erase slot else t.ctxs }

/-- How many queued records of a slot a tile holds. -/
def Tile.recordsOf (t : Tile) (slot : Nat) : Nat :=
  (t.evq.filter fun r => r.slot == slot).length + (t.evWait.filter fun r => r.slot == slot).length

/-- A slot's queued records, contributions and pending reward are discarded; the TREWARDs complete with
DEADLINE_MISSED (R222, R223). -/
def State.dropSlotWork (s : State) (slot : Nat) (free : Bool) : State :=
  match s.attach.find slot with
  | none => s
  | some a =>
    let n := (s.tiles.vals.map fun t => t.recordsOf slot).sum
    let s1 := { s with
      tiles := s.tiles.mapVals fun _ t => t.dropSlot slot free
      attach := if free then s.attach.erase slot else s.attach.set slot { a with reward := none } }
    let s2 := s1.count 64 0x2600 3 n
    match a.reward with
    | none => s2
    | some r => each r.entries (fun x e => x.entryEnd e.1 e.2 .deadlineMissed 0) s2

/-- A slot is detached as by TDETACH (R222). -/
def State.detachSlot (s : State) (slot : Nat) : State := s.dropSlotWork slot true

/-! ### Sessions -/

/-- A slot becomes FREE: it is detached, and a waiting SCLOSE completes (R206, R222). -/
def State.slotFree (s : State) (slot : Nat) : State :=
  let x := s.sessionOf slot
  let s1 := s.detachSlot slot
  let s2 := { s1 with sessions := s1.sessions.erase slot }
  match x.closer with
  | some (l, i) => s2.entryDone l i .ok 0 0 slot
  | none => s2

/-- A closing slot whose last frame has completed becomes FREE (R206). -/
def State.slotCheck (s : State) (slot : Nat) : State :=
  if (s.sessionOf slot).closing && (s.framesOf slot).isEmpty then s.slotFree slot else s

/-- A frame completes (R209): its lane leaves, its charge goes, its entry completes with its deadline's stamp. -/
def State.frameDone (s : State) (key : Nat) (st : Status) (det : Nat) : State :=
  match s.frames.find key with
  | none => s
  | some f =>
    let s1 := s.laneLeave f key
    let s2 := { s1 with frames := s1.frames.erase key }
    let s3 := if st = .ok then s2.bump64 0x2503 2
      else if st = .frameSkipped then (s2.bump64 0x2503 3).bump64 0x2505 (f.cls + 1) else s2
    (s3.entryDone key f.idx st det (s.beat.stampOf f.deadline) f.slot).slotCheck f.slot

/-! ### Tag counters and triggered work (R269 to R271) -/

/-- FREADY on a slot: its oldest accepted frame that is not ready becomes ready (R206). -/
def State.slotReady (s : State) (slot : Nat) : State :=
  match (s.framesOf slot).find? fun k => match s.frames.find k with
      | some f => !f.ready
      | none => false with
  | some k => { s with frames := s.frames.mapVals fun j f => if j = k then { f with ready := true } else f }
  | none => s

/-- The slots of a TREADY's target: one slot, or the members of a set (R271). -/
def State.readySlots (s : State) (v : Nat) : List Nat :=
  if bit v 15 then (s.sessions.cells.filter fun c => c.2.set == some (bits v 5 0)).map Prod.fst else [bits v 11 0]

/-- A work request leaves, and its entry completes. -/
def State.wrEnd (s : State) (id : Nat) (st : Status) (det : Nat) : State :=
  match s.wrs.find id with
  | none => s
  | some w => ({ s with wrs := s.wrs.erase id }).entryEnd w.list w.idx st det

/-- A fired request: a REMOTE operation enters its connection's send queue, a TREADY readies its frames and completes
(R270, R271). -/
def State.wrFire (s : State) (id : Nat) : State :=
  match s.wrs.find id with
  | none => s
  | some w =>
    if (s.entryOf w.list w.idx).isNone then { s with wrs := s.wrs.erase id } else
    let s1 := s.bump64 0x2702 0xE
    if w.op = 11 then
      (each ((s.readySlots w.slot).filter fun k => (s.sessionOf k).st == .opened) State.slotReady s1).wrEnd id .ok 0
    else
      { s1 with
        wrs := s1.wrs.set id { w with waiting := false }
        conns := s1.conns.mapVals fun i c => if i = w.conn then { c with sendq := c.sendq ++ [id] } else c }

/-- A trigger's condition: (int32)(value − THRESH) ≥ 0. -/
def triggerMet (value thresh : Nat) : Bool := decide ((value + 2 ^ 32 - thresh) % 2 ^ 32 < 2 ^ 31)

/-- The requests whose condition a counter's value meets fire in posting order (R270). -/
def State.triggers (s : State) (ctr : Nat) : State :=
  match s.ctrs.find ctr with
  | none => s
  | some c => each ((s.wrs.cells.filter fun w => w.2.waiting && w.2.tctr == ctr && triggerMet c.value w.2.thresh).map
      Prod.fst) State.wrFire s

/-- A counter goes up by one, and its triggers fire (R269). -/
def State.ctrUp (s : State) (ctr : Nat) : State :=
  match s.ctrs.find ctr with
  | none => s
  | some c => ({ s with ctrs := s.ctrs.set ctr { c with value := (c.value + 1) % 2 ^ 32 } }).triggers ctr

/-- A work request completes; with OK and LCOUNT its local counter goes up (R269). -/
def State.wrDone (s : State) (id : Nat) (st : Status) (det : Nat) : State :=
  match s.wrs.find id with
  | none => s
  | some w =>
    let s1 := s.wrEnd id st det
    if st = .ok ∧ bit w.flags 3 = true ∧ (s.entryOf w.list w.idx).isSome = true then s1.ctrUp w.lctr else s1

/-- A counter is freed: every request that waits on it completes with JOB_ABORTED (R270). -/
def State.ctrFree (s : State) (ctr : Nat) : State :=
  let ws := (s.wrs.cells.filter fun w => w.2.waiting && w.2.tctr == ctr).map Prod.fst
  each ws (fun x w => x.wrDone w .jobAborted 0) { s with ctrs := s.ctrs.erase ctr }

/-! ### Connections (R257, R276) -/

/-- Every work request of a connection, and every posted RECV, completes with a status. -/
def State.connEnd (s : State) (c : Nat) (st : Status) (det : Nat) : State :=
  let ws := (s.wrs.cells.filter fun w => w.2.conn == c && w.2.op != 11).map Prod.fst
  let rs := match s.conns.find c with
    | some k => k.recvs.filter fun r => !r.done
    | none => []
  let s1 := each ws (fun x w => x.wrDone w st det) s
  let s2 := each rs (fun x r => x.entryEnd r.list r.idx st det) s1
  { s2 with conns := s2.conns.mapVals fun i k => if i = c then
      { k with recvs := [], sendq := [], outs := .empty, order := [], timerAt := none, creditAt := none } else k }

/-- DISCONNECT: outstanding work completes with JOB_ABORTED, held frames go, the connection is FREE (R257). -/
def State.disconnect (s : State) (c : Nat) : State :=
  let s1 := s.connEnd c .jobAborted 0
  { s1 with conns := s1.conns.erase c }

/-- A job's connections and counters are given back (R257). -/
def State.jobLinks (s : State) (j : Nat) : State :=
  let cs := (s.conns.cells.filter fun c => c.2.job == j).map Prod.fst
  let ks := (s.ctrs.cells.filter fun c => c.2.job == j).map Prod.fst
  each ks State.ctrFree (each cs State.disconnect s)

/-! ### Tasks (R138, R229) -/

def core0Init : CoreSt :=
  { regs := .empty, pc := 0, csrs := .empty, minstret := 0, stampHi := 0, halted := true, event := false }
/-- A tile at power-up. -/
def tile0 : Tile :=
  { w := [], a := [], p := [], written := .empty, sat := .empty, bad := .empty, writeback := [], fenced := false,
    queue := [], plane0 := none, plane1 := none, feeders := [], flights := [], core0 := core0Init, core1 := core0Init,
    resident := false, epoch := 0, regs := .empty, lut := .empty, wBase := 0, wLimit := 0, aBase := 0, aLimit := 0,
    pBase := 0, pLimit := 0, policy := 0, pdW := 0, pdA := 0, pdP := 0, regions := .empty, viol := 0, viol2 := 0,
    task := none, tags := .empty, paused := false, restart := none, evq := [], evWait := [], feedback := [], contribs := [],
    ctxs := .empty }
def State.tileOf (s : State) (k : Nat) : Tile := s.tiles.get tile0 k
def State.setTile (s : State) (k : Nat) (t : Tile) : State := { s with tiles := s.tiles.set k t }

/-- Both cores halt and queued instructions go; issued ones run on (R138). -/
def Tile.halt (t : Tile) : Tile :=
  { t with core0 := { t.core0 with halted := true }, core1 := { t.core1 with halted := true }, queue := [] }

/-- A tile's task is over: queued PRE, POST and STEP records go (R229). -/
def Tile.taskOver (t : Tile) : Tile :=
  Tile.evSettle { t.halt with task := none, evq := t.evq.filter fun r => r.kind == 3 || r.kind == 5 }

/-- How many records a task's end discards. -/
def Tile.recordsLost (t : Tile) : Nat := (t.evq.filter fun r => r.kind != 3 && r.kind != 5).length

/-- A tile's task halts as in R138 and is over, without a part of its own in the TSTART's completion. -/
def State.killTask (s : State) (k : Nat) : State :=
  match s.tiles.find k with
  | none => s
  | some t => if t.task.isNone then s else (s.setTile k t.taskOver).count 64 0x2600 3 t.recordsLost

/-! ### The end of a job (R199, R200, R414) -/

/-- The lists of a job in progress. -/
def State.listsOf (s : State) (j : Nat) : List Nat := (s.lists.cells.filter fun l => l.2.job == j).map Prod.fst

/-- An entry is that of an accepted frame: it completes when its frame does. -/
def State.heldFrame (s : State) (id idx : Nat) : Bool :=
  match s.frames.find id with
  | some f => f.idx == idx
  | none => false

/-- Every outstanding entry of a job, its frames' apart, completes with `st`, but for the entry (id, idx) given. -/
def State.jobEntriesEnd (s : State) (j : Nat) (st : Status) (det : Nat) (but : Nat × Nat) : State :=
  each (s.listsOf j) (fun x id =>
    match x.lists.find id with
    | none => x
    | some l => each ((l.entries.filter fun e => e.status.isNone && (id, e.idx) != but && !x.heldFrame id e.idx).map
          fun e => e.idx)
        (fun y i => (y.faultEnd st).entryEnd id i st det) x) s

/-- Every outstanding frame of a job completes with `st`. -/
def State.jobFramesEnd (s : State) (j : Nat) (st : Status) (det : Nat) : State :=
  each ((s.frames.cells.filter fun f => f.2.job == j).map Prod.fst)
    (fun x k => (x.faultEnd st).frameDone k st det) s

/-- The physical keys of the tiles that run a task of a job. -/
def State.taskTiles (s : State) (j : Nat) : List Nat :=
  (s.tiles.cells.filter fun t => match t.2.task with
    | some q => q.job == j
    | none => false).map Prod.fst

/-- A job becomes ABORTED: its tasks halt, and its outstanding entries, a waiting SCLOSE among them, and frames complete with
`st` (R199). -/
def State.jobAbort (s : State) (j : Nat) (st : Status) (det : Nat) : State :=
  let q := s.jobOf j
  if q.st ≠ .opened then s else
    let s1 := { s with jobs := s.jobs.set j { q with st := .aborted, fenced := q.fenced || st == .fenced } }
    let s2 := each (s1.taskTiles j) State.killTask s1
    (s2.jobEntriesEnd j st det (0, 0x10000)).jobFramesEnd j st det

/-- A plan is deactivated and made FREE. -/
def State.planFree (s : State) (k : Nat) : State := { s with plans := s.plans.erase k }

/-- Every task halts (R409). -/
def State.killAll (s : State) : State := each (s.tiles.cells.map Prod.fst) State.killTask s
/-- A job's tailoring slots are detached, its session slots freed, its plans made FREE (R200). -/
def State.jobSlotsEnd (s : State) (j : Nat) : State :=
  each ((s.attach.cells.filter fun a => a.2.job == j).map Prod.fst) State.detachSlot s
def State.jobSessionsEnd (s : State) (j : Nat) : State :=
  each ((s.sessions.cells.filter fun x => x.2.job == j).map Prod.fst) State.slotFree s
def State.jobPlansEnd (s : State) (j : Nat) : State :=
  each ((s.plans.cells.filter fun p => p.2.job == j).map Prod.fst) State.planFree s
/-- A job is FREE: its record, its lease and the DMA channels it holds are gone (R200). -/
def State.jobForget (s : State) (j : Nat) : State :=
  { s with
    jobs := s.jobs.erase j
    leases := s.leases.erase (2 * 65536 + j)
    dma := s.dma.mapVals fun _ c => if c.holder = some (2, j) ∧ c.drainSince = none then { c with holder := none, entry := none } else c }

end Sys2Proof.Machine
end

