-- ==== Sys2Proof/Machine/Operands.lean ====
section
/-! DEFINITION. Operand forms: device addresses, tile windows, the tile stores with their written bits, banks and ECC,
tile registers, circular regions, task-relative addresses, and the big- and little-endian fields of entries. -/

namespace Sys2Proof.Machine

/-! ### Device addresses (R17 to R20, R46) -/

/-- What a device address names. -/
inductive Target where
  | tier1 (a : Nat)
  | tile (key off : Nat)
  /-- Physical tile space or register space: firmware only (R20). -/
  | firmware
  /-- Reserved, or a tile outside the grid (R19). -/
  | invalid
  deriving DecidableEq, Repr

/-- A tile window offset in a reserved part. -/
def offReserved (off : Nat) : Bool := decide (0x160000 ≤ off) && decide (off < 0x3F0000)

/-- What the device address `a` names. -/
def Wafer.target (w : Wafer) (a : Nat) : Target :=
  if a < tier1Size then .tier1 a
  else if 0x100000000000 ≤ a ∧ a < 0x101000000000 then
    match w.phys (bits a 28 22) (bits a 35 29) with
    | some k => if offReserved (bits a 21 0) then .invalid else .tile k (bits a 21 0)
    | none => .invalid
  else if 0x200000000000 ≤ a ∧ a < 0x201000000000 then
    if 12 ≤ bits a 29 26 ∨ 12 ≤ bits a 25 22 ∨ offReserved (bits a 21 0) = true then .invalid else .firmware
  else if 0x300000000000 ≤ a ∧ a < 0x300340000000 then .firmware
  else .invalid

/-- No part of the `n` bytes from `a` is invalid: every boundary of a reserved part lies at a multiple of 64 KiB (R19). -/
def Wafer.rangeClear (w : Wafer) (a n : Nat) : Bool :=
  (granulesOf a n).all fun k => w.target (max a (k * 65536)) != .invalid

/-- The logical tile of a device address in logical tile space. -/
def addrTile (a : Nat) : Nat × Nat := (bits a 28 22, bits a 35 29)

/-! ### Stores of a tile (R118) -/

/-- Number of a store: 0 W, 1 A, 2 P. -/
def selNum : StoreSel → Nat
  | .w => 0 | .a => 1 | .p => 2
/-- Store of a number. -/
def selOf (n : Nat) : StoreSel := if n = 0 then .w else if n = 1 then .a else .p
/-- Lines of a store, lines of a bank, base offset in the tile window. -/
def storeLines : StoreSel → Nat
  | .w => 16384 | .a => 4096 | .p => 2048
def bankLines : StoreSel → Nat
  | .w => 1024 | .a => 256 | .p => 256
def storeBase : StoreSel → Nat
  | .w => 0 | .a => 0x100000 | .p => 0x140000

/-- The store and byte offset of a window offset; none in the register block and the reserved part. -/
def offStore (off : Nat) : Option (StoreSel × Nat) :=
  if off < 0x100000 then some (.w, off)
  else if off < 0x140000 then some (.a, off - 0x100000)
  else if off < 0x160000 then some (.p, off - 0x140000)
  else none

def Tile.mem (t : Tile) : StoreSel → Memory
  | .w => t.w | .a => t.a | .p => t.p
def Tile.setMem (t : Tile) (st : StoreSel) (m : Memory) : Tile :=
  match st with
  | .w => { t with w := m }
  | .a => { t with a := m }
  | .p => { t with p := m }

/-- Key of a line's written bit, and of a word's error. -/
def lineKey (st : StoreSel) (line : Nat) : Nat := selNum st * 16384 + line
def wordKey (st : StoreSel) (word : Nat) : Nat := selNum st * 262144 + word

/-- A line has been written (R132). -/
def Tile.isWritten (t : Tile) (st : StoreSel) (line : Nat) : Bool := t.written.get false (lineKey st line)

/-- Lines that a byte range touches. -/
def linesOf (off n : Nat) : List Nat :=
  if n = 0 then [] else (List.range ((off + n - 1) / 64 - off / 64 + 1)).map (· + off / 64)
/-- 64-bit words that a byte range touches. -/
def wordsOf (off n : Nat) : List Nat :=
  if n = 0 then [] else (List.range ((off + n - 1) / 8 - off / 8 + 1)).map (· + off / 8)

/-- The power-down mask of a store, and whether a line's bank is off (R135). -/
def Tile.pd (t : Tile) : StoreSel → Nat
  | .w => t.pdW | .a => t.pdA | .p => t.pdP
def Tile.lineOff (t : Tile) (st : StoreSel) (line : Nat) : Bool := bit (t.pd st) (line / bankLines st)

/-- The bytes read: an unwritten line reads zero because clearing a written bit leaves its bytes unlisted (R132, R133). -/
def Tile.readBytes (t : Tile) (st : StoreSel) (off n : Nat) : List Byte := (t.mem st).readBytes off n

/-- Some word of the range holds a double error, in a written line (R119). -/
def Tile.doubleIn (t : Tile) (st : StoreSel) (off n : Nat) : Bool :=
  (wordsOf off n).any fun w => t.bad.find (wordKey st w) == some true && t.isWritten st (w / 8)
/-- The words of the range that hold a single error. -/
def Tile.singlesIn (t : Tile) (st : StoreSel) (off n : Nat) : List Nat :=
  ((wordsOf off n).filter fun w => t.bad.find (wordKey st w) == some false && t.isWritten st (w / 8)).map (wordKey st)

/-- Bytes that a write does not perform: those of a word it covers in part and that holds a double error (R119). -/
def Tile.blocked (t : Tile) (st : StoreSel) (off n : Nat) (w : Nat) : Bool :=
  t.bad.find (wordKey st w) == some true && t.isWritten st (w / 8) && !(decide (off ≤ w * 8) && decide (w * 8 + 8 ≤ off + n))

/-- Bytes are written: their lines count as written, whole words lose their errors, a single error in a word written in
part is corrected in the merge, a word written in part that holds a double error keeps its bytes (R119, R132). -/
def Tile.writeBytes (t : Tile) (st : StoreSel) (off : Nat) (bs : List Byte) : Tile :=
  let stop := (wordsOf off bs.length).filter (t.blocked st off bs.length)
  let m := if stop.isEmpty then (t.mem st).writeBytes off bs
    else (bs.zipIdx off).foldl (fun m b => if stop.contains (b.2 / 8) then m else m.write b.2 b.1) (t.mem st)
  let t1 := t.setMem st m
  { t1 with
    written := (linesOf off bs.length).foldl (fun w l => w.set (lineKey st l) true) t1.written
    bad := t1.bad.keep fun k _ => !(((wordsOf off bs.length).filter fun w => !stop.contains w).any fun w => wordKey st w == k) }

/-- A write meets a word it may not merge into. -/
def Tile.writeDouble (t : Tile) (st : StoreSel) (off n : Nat) : Bool := (wordsOf off n).any (t.blocked st off n)

/-- The written bits of lines lo to hi − 1 are cleared: they read zero again, P flags clear with them (R132). -/
def Tile.clearLines (t : Tile) (st : StoreSel) (lo hi : Nat) : Tile :=
  let t1 := t.setMem st ((t.mem st).wipe (lo * 64) (hi * 64))
  { t1 with
    written := t1.written.keep fun k _ => !(decide (lineKey st lo ≤ k) && decide (k < lineKey st lo + (hi - lo)))
    bad := t1.bad.keep fun k _ => !(decide (wordKey st (lo * 8) ≤ k) && decide (k < wordKey st (lo * 8) + (hi - lo) * 8))
    sat := if st = .p then t1.sat.keep fun k _ => !(decide (lo ≤ k) && decide (k < hi)) else t1.sat }

/-- Every line of every store is unwritten (R360, R393). -/
def Tile.clearAll (t : Tile) : Tile :=
  { t with w := [], a := [], p := [], written := .empty, bad := .empty, sat := .empty, writeback := [] }

/-! ### ECC at the state level (R119) -/

/-- A read of a store range by anybody: single errors are corrected in the data, the corrected words wait for their
write-back and detector 0x0207 fires for each; a double error fires 0x0208 and makes the tile suspect. -/
def State.storeEcc (s : State) (k : Nat) (st : StoreSel) (off n : Nat) : State :=
  let t := s.tileOf k
  let u := s.wafer.tileUnit k
  let ones := t.singlesIn st off n
  let s1 := if ones.isEmpty then s else
    each ones (fun x _ => x.fire 0x0207 u 0)
      (s.setTile k { t with writeback := t.writeback ++ ones.filter fun w => !t.writeback.contains w })
  if t.doubleIn st off n then (s1.fire 0x0208 u 1).suspect (.tile k) 0x0208 else s1

/-- Bytes are written to a store by anybody; a part-word write onto a double error is not performed and fires 0x0208. -/
def State.storeWrite (s : State) (k : Nat) (st : StoreSel) (off : Nat) (bs : List Byte) : State :=
  let t := s.tileOf k
  let s1 := s.setTile k (t.writeBytes st off bs)
  if t.writeDouble st off bs.length then (s1.fire 0x0208 (s.wafer.tileUnit k) 1).suspect (.tile k) 0x0208 else s1

/-! ### Task windows (R124, R125, R128) -/

def Tile.base (t : Tile) : StoreSel → Nat
  | .w => t.wBase | .a => t.aBase | .p => t.pBase
def Tile.limit (t : Tile) : StoreSel → Nat
  | .w => t.wLimit | .a => t.aLimit | .p => t.pLimit

/-- The store line of task-relative line `r`; none when it is invalid. -/
def Tile.taskLine (t : Tile) (st : StoreSel) (r : Nat) : Option Nat :=
  if t.base st + r < t.limit st then some (t.base st + r) else none

def region0 : RegionSt :=
  { base := 0, size := 0, store := 0, producer := 0, releaseClears := false, enable := false, head := 0, tail := 0,
    hwrap := 0, twrap := 0 }
def Tile.regionOf (t : Tile) (n : Nat) : RegionSt := t.regions.get region0 n
/-- Occupancy of a region (R127). -/
def RegionSt.occ (r : RegionSt) : Nat := ((r.twrap + 65536 - r.hwrap) % 65536) * r.size + r.tail - r.head
/-- A pointer and its wrap count moved on by n (R127). -/
def advance (size ptr wrap n : Nat) : Nat × Nat :=
  if size = 0 then (ptr, wrap) else ((ptr + n) % size, (wrap + (ptr + n) / size) % 65536)

/-- The enabled region that holds a task-relative line of a store. -/
def Tile.regionAt (t : Tile) (st : StoreSel) (r : Nat) : Option RegionSt :=
  ((List.range 4).map t.regionOf).find? fun g =>
    g.enable && g.store == selNum st && decide (g.base ≤ r) && decide (r < g.base + g.size)

/-- Task-relative line `i` of a multi-line access that starts at line `r`: it wraps at the end of the enabled region it
starts in (R128). -/
def Tile.wrapLine (t : Tile) (st : StoreSel) (r i : Nat) : Nat :=
  match t.regionAt st r with
  | some g => g.base + (r - g.base + i) % g.size
  | none => r + i

/-- The task's policy bits (0x118): bank mode STRICT, write-clear and cold ABORT per store. -/
def Tile.strict (t : Tile) : Bool := bit t.policy 0
def Tile.wclr (t : Tile) (st : StoreSel) : Bool := bit t.policy (1 + selNum st)
def Tile.coldAbort (t : Tile) (st : StoreSel) : Bool := bit t.policy (4 + selNum st)

/-! ### Tile registers (R116, R143) -/

/-- Reset value of a register that is a plain cell. -/
def regReset (off : Nat) : Nat := if off = 0xC ∨ off = 0x10 then 0xFFFFFFFF else if off = 0x20 then 1 else 0
def Tile.reg (t : Tile) (off : Nat) : Nat := t.regs.get (regReset off) off
def Tile.setReg (t : Tile) (off v : Nat) : Tile := { t with regs := t.regs.set off v }
/-- A 32-bit counter register goes up by n. -/
def Tile.bump (t : Tile) (off n : Nat) : Tile := t.setReg off ((t.reg off + n) % 2 ^ 32)

/-- A tile that computes nothing and takes nothing: fenced, or of a panel in a reset (R405, R411). -/
def State.fencedAt (s : State) (k : Nat) : Bool := (s.tileOf k).fenced || (s.wafer.panelOf (keyPanel k)).resetting

/-- The state field of a tile: 0 IDLE, 1 RUN, 2 FENCED. -/
def State.tileState (s : State) (k : Nat) : Nat :=
  if s.fencedAt k then 2 else if (s.tileOf k).task.isSome then 1 else 0

/-- A tile register's value as read at `off`, a multiple of 4 (R116, R143). -/
def State.tileReg (s : State) (k off : Nat) : Nat :=
  let t := s.tileOf k
  if off = 0 then match s.wafer.logical k with
    | some (x, y) => packTile x y
    | none => 0
  else if off = 4 then s.tileState k + t.queue.length * 4 + flag (!t.flights.isEmpty) * 256
  else if off = 8 then t.epoch
  else if off = 0x100 then t.wBase else if off = 0x104 then t.wLimit
  else if off = 0x108 then t.aBase else if off = 0x10C then t.aLimit
  else if off = 0x110 then t.pBase else if off = 0x114 then t.pLimit
  else if off = 0x118 then t.policy
  else if off = 0x11C then t.pdW + t.pdA * 65536
  else if off = 0x120 then t.pdP
  else if 0x140 ≤ off ∧ off < 0x180 then
    match (off - 0x140) % 16 with
    | 0 => let h := t.regionOf ((off - 0x140) / 16)
           h.base + h.store * 2 ^ 14 + h.producer * 2 ^ 16 + flag h.releaseClears * 2 ^ 18 + flag h.enable * 2 ^ 31
    | 4 => (t.regionOf ((off - 0x140) / 16)).size
    | 8 => let h := t.regionOf ((off - 0x140) / 16)
           h.head + h.hwrap * 65536
    | _ => let h := t.regionOf ((off - 0x140) / 16)
           h.tail + h.twrap * 65536
  else if 0x190 ≤ off ∧ off < 0x1A0 then
    let h := t.regionOf ((off - 0x190) / 4)
    h.occ + flag (h.occ == 0) * 2 ^ 16 + flag (h.occ == h.size && h.size != 0) * 2 ^ 17
  else if off = 0x1A0 then t.viol
  else if off = 0x1A4 then t.viol2
  else if 0x200 ≤ off ∧ off < 0x300 then
    leNat ((List.range 4).map fun i => t.lut.get 0 (off - 0x200 + i))
  else if off = 0xC ∨ off = 0x10 ∨ off = 0x14 ∨ off = 0x20 ∨ off = 0x24 ∨ off = 0x28 ∨ off = 0x30 ∨ off = 0x34
    ∨ off = 0x40 ∨ off = 0x44 ∨ off = 0x48 ∨ off = 0x4C ∨ off = 0x50 ∨ off = 0x54
    ∨ (0x1C0 ≤ off ∧ off ≤ 0x1D8) then t.reg off
  else 0

/-- The registers that a read clears (RC). -/
def regReadClears (off : Nat) : Bool :=
  off == 0x34 || off == 0x40 || off == 0x44 || off == 0x48 || off == 0x4C || (decide (0x1C0 ≤ off) && decide (off ≤ 0x1D8))

/-- What a read of a register leaves: RC registers read zero afterwards. The sums of 0x2200 and 0x2300 keep what was
read (log 21). -/
def Tile.regRead (t : Tile) (off : Nat) : Tile := if regReadClears off then t.setReg off 0 else t

/-- A write to a tile register: RW and W1C ones take it, reserved bits and others ignore it (R16). CRn_ADV is
`regionAdvance`. -/
def Tile.regWrite (t : Tile) (off v : Nat) : Tile :=
  if off = 0xC ∨ off = 0x10 ∨ off = 0x20 then t.setReg off (v % 2 ^ 32)
  else if off = 0x24 then t.setReg off (bits v 5 0 + bits v 20 8 * 256)
  else if off = 0x28 then if bit v 0 then t.setReg off 0 else t
  else if 0x200 ≤ off ∧ off < 0x300 then
    { t with lut := (List.range 4).foldl (fun l i => l.set (off - 0x200 + i) (BitVec.ofNat 8 (v / 256 ^ i))) t.lut }
  else t

/-! ### External access (R120, R121, R126, R134, R137) -/

/-- P lines per vector of a format (R93). -/
def resultLines (fmt : Nat) : Nat := if fmt = 4 ∨ fmt = 5 then 4 else 2
/-- The P-store lines that an issued instruction writes: consecutive from PDST (R91, R95). Its destination does not wrap in a
circular region, since R128 names no accumulation (log 23). -/
def Flight.dest (t : Tile) (f : Flight) : List Nat :=
  if bits f.word 3 0 = 1 then
    (List.range ((bits f.word 15 12 + 1) * resultLines (bits f.word 6 4))).map fun i => t.pBase + bits f.word 27 17 + i
  else []
/-- A line is a destination of an issued instruction. -/
def Tile.lineBusy (t : Tile) (st : StoreSel) (line : Nat) : Bool :=
  st == .p && t.flights.any fun f => (Flight.dest t f).contains line

/-- A tile that external accesses cannot reach just now: a store move, or stopped clocks (R366, R406). -/
def State.tileWaits (s : State) (k : Nat) : Bool := (s.tileOf k).paused || (s.panelPower (keyPanel k)).stopped

/-- An external access to the range waits for an issued instruction, a store move or stopped clocks (R121, R366,
R406). -/
def State.extWaits (s : State) (k : Nat) (off n : Nat) : Bool :=
  s.tileWaits k || match offStore off with
  | some (st, o) => (linesOf o n).any ((s.tileOf k).lineBusy st)
  | none => false

/-- Bytes that the discard sink takes are counted (R415). -/
def State.discard (s : State) (n : Nat) : State := s.count 64 0x2B60 2 n

/-- `n` free bytes: what the spec leaves open about data that a request returns all the same. -/
def State.freeBytes (s : State) (n : Nat) : List Byte :=
  (List.range n).map fun i => BitVec.ofNat 8 ((Config.freeWord (s.fresh + i / 8)).toNat / 256 ^ (i % 8))
def State.drawBytes (s : State) (n : Nat) : State := { s with fresh := s.fresh + (n + 7) / 8 }

/-- The range lies in one store or in the register block of a tile window. -/
def windowRange (off n : Nat) : Bool :=
  match offStore off with
  | some (st, o) => decide (o + n ≤ storeLines st * 64)
  | none => decide (0x3F0000 ≤ off) && decide (off + n ≤ 0x400000)

/-- Some line of the range lies in a powered-down bank. -/
def Tile.rangeOff (t : Tile) (off n : Nat) : Bool :=
  match offStore off with
  | some (st, o) => (linesOf o n).any (t.lineOff st)
  | none => false

/-- The bytes an external read of a tile window returns. -/
def State.extBytes (s : State) (k off n : Nat) : List Byte :=
  match offStore off with
  | some (st, o) => (s.tileOf k).readBytes st o n
  | none => (List.range n).map fun i =>
      let o := off - 0x3F0000 + i
      BitVec.ofNat 8 (s.tileReg k (o / 4 * 4) / 256 ^ (o % 4))

/-- What an external read leaves: unwritten lines are counted in 0x2300:04, ECC is checked, RC registers clear. -/
def State.extReadEffect (s : State) (k off n : Nat) : State :=
  match offStore off with
  | some (st, o) =>
    let t := s.tileOf k
    let cold := ((linesOf o n).filter fun l => !t.isWritten st l).length
    (s.count 64 0x2300 4 cold).storeEcc k st o n
  | none =>
    let rs := ((List.range n).map fun i => (off - 0x3F0000 + i) / 4 * 4).dedup
    s.setTile k (rs.foldl Tile.regRead (s.tileOf k))

/-- An external write of bytes to a tile window: stores take them, and so do registers, a part of a word leaving the rest of a
read-write register (R116). -/
def State.extWrite (s : State) (k off : Nat) (bs : List Byte) : State :=
  match offStore off with
  | some (st, o) => s.storeWrite k st o bs
  | none =>
    let o := off - 0x3F0000
    let regs := ((List.range bs.length).map fun i => (o + i) / 4 * 4).dedup
    let word := fun (b : Nat) =>
      let old := if b = 0x28 then 0 else s.tileReg k b
      leNat ((List.range 4).map fun j =>
        if o ≤ b + j ∧ b + j < o + bs.length then bs.getD (b + j - o) 0 else BitVec.ofNat 8 (old / 256 ^ j))
    s.setTile k (regs.foldl (fun t b => t.regWrite b (word b)) (s.tileOf k))

/-- Some line of a W range belongs to an attached tailoring window on the tile (R221). -/
def State.inWindow (s : State) (k off n : Nat) : Bool :=
  match offStore off with
  | some (.w, o) => (s.tileOf k).ctxs.keys.any fun slot =>
      match s.attach.find slot with
      | some a => (linesOf o n).any fun l => decide (a.wbase ≤ l) && decide (l < a.wlimit)
      | none => false
  | _ => false

/-- The dictionary's sum of a counter register (R117, R144). -/
def regSum (off : Nat) : Option (Nat × Nat) :=
  match off with
  | 0x40 => some (0x2200, 1) | 0x44 => some (0x2200, 2) | 0x48 => some (0x2200, 3) | 0x4C => some (0x2200, 4)
  | 0x1C0 => some (0x2300, 1) | 0x1C8 => some (0x2300, 3) | 0x1CC => some (0x2300, 5) | 0x1D0 => some (0x2300, 8)
  | 0x1C4 => some (0x2300, 9) | 0x1D4 => some (0x2300, 0xC)
  | _ => none

/-- A tile's counter register goes up, and its dictionary sum with it (log 21). -/
def State.tileBump (s : State) (k off n : Nat) : State :=
  let s1 := s.setTile k ((s.tileOf k).bump off n)
  match regSum off with
  | some (i, j) => s1.count 64 i j n
  | none => s1

/-- A wait for a P line of an issued instruction, or for room in a LANDING region, counts in PRIO_STALL (R120, R123; log 59). -/
def State.prioStall (s : State) (k : Nat) : State := s.tileBump k 0x1C4 1

/-- What an external access that waits leaves: a wait for an issued instruction is counted. -/
def State.extStall (s : State) (k off n : Nat) : State :=
  match offStore off with
  | some (st, o) => if (linesOf o n).any ((s.tileOf k).lineBusy st) then s.prioStall k else s
  | none => s

/-! ### A violation that ends a task (R125, R138) -/

/-- The fault word of VIOL_ADDR: offset, kind, requester, VALID. -/
def violWord (off kind req : Nat) : Nat := off + kind * 2 ^ 22 + req * 2 ^ 25 + 2 ^ 31

/-- A task's fault: the cores halt, queued instructions go, VIOL_ADDR keeps the first fault, the task's status is the
worst of what has happened to it (R22, R138). -/
def Tile.taskFault (t : Tile) (st : Status) (det : Nat) (viol : Option Nat) : Tile :=
  let t1 := t.halt
  match t.task with
  | none => t1
  | some q =>
    let w := match q.failed with
      | some o => o.worse st
      | none => st
    { t1 with
      task := some { q with failed := some w, det := if q.failed.isSome && w != st then q.det else det }
      viol := match viol with
        | some v => if bit t1.viol 31 then t1.viol else v
        | none => t1.viol }

/-- A task's fault with its detector (R125, R133). -/
def State.taskFault (s : State) (k : Nat) (st : Status) (det : Nat) (viol : Option Nat) : State :=
  (s.setTile k ((s.tileOf k).taskFault st det viol)).fire det (s.wafer.tileUnit k) 1

/-- A bound violation on a task-relative line of a store, by requester `req`: counted, BAD_COMMAND, detector 0x0201, and
0x0202 as well for a powered-down bank (R125, R137). -/
def State.boundFault (s : State) (k : Nat) (st : StoreSel) (line req : Nat) (off_ : Bool) : State :=
  let v := violWord ((storeBase st + line * 64) % 2 ^ 22) (if off_ then 2 else 1) req
  let s1 := (s.tileBump k 0x1CC 1).taskFault k .badCommand 0x0201 (some v)
  if off_ then s1.fire 0x0202 (s.wafer.tileUnit k) 1 else s1

/-- A cold read of a store line by the task: counted, detector 0x0203, and under ABORT the task ends with COLD_READ
(R133). -/
def State.coldRead (s : State) (k : Nat) (st : StoreSel) (line req : Nat) : State :=
  let s1 := (s.tileBump k 0x1C8 1).fire 0x0203 (s.wafer.tileUnit k) 0
  if (s.tileOf k).coldAbort st then
    s1.setTile k ((s1.tileOf k).taskFault .coldRead 0x0203 (some (violWord (storeBase st + line * 64) 4 req)))
  else s1

/-! ### Landings into a tile (R123, R125, R129) -/

/-- What becomes of a line that lands at a task-relative A offset. -/
inductive Landing where
  | landed (t : Tile)
  /-- The LANDING region is full (R129), or an issued instruction holds the line (R121), so it waits. -/
  | waits
  | rejected
  deriving DecidableEq, Repr

/-- A whole line is written at task-relative line `r` of a store, or at TAIL when an enabled LANDING region of the store
holds `r` (R129). `arrive` says whether ARRIVE counts it. -/
def Tile.landLine (t : Tile) (st : StoreSel) (r : Nat) (bs : List Byte) (arrive : Bool) : Landing :=
  let n := if arrive then 1 else 0
  match ((List.range 4).find? fun i => let g := t.regionOf i
      g.enable && g.store == selNum st && g.producer == 1 && decide (g.base ≤ r) && decide (r < g.base + g.size)) with
  | some i =>
    let g := t.regionOf i
    if g.occ = g.size then .waits else
      match t.taskLine st (g.base + g.tail) with
      | none => .rejected
      | some l =>
        if t.lineOff st l then .rejected else if t.lineBusy st l then .waits else
          let (p, w) := advance g.size g.tail g.twrap 1
          let t1 := t.writeBytes st (l * 64) bs
          .landed (({ t1 with regions := t1.regions.set i { g with tail := p, twrap := w } }).bump 0x30 n)
  | none =>
    match t.taskLine st r with
    | none => .rejected
    | some l =>
      if t.lineOff st l then .rejected else if t.lineBusy st l then .waits else .landed ((t.writeBytes st (l * 64) bs).bump 0x30 n)

/-- A rejected landing is counted and detector 0x0209 fires (R125). -/
def State.landReject (s : State) (k : Nat) : State :=
  (s.tileBump k 0x1D0 1).fire 0x0209 (s.wafer.tileUnit k) 0

/-! ### Regions of entries -/

/-- A packed ORIGIN with reserved bits 7 and 15. -/
def originOk (v : Nat) : Bool := !bit v 7 && !bit v 15
/-- A region from ORIGIN, WIDTH, HEIGHT. -/
def regionFrom (origin w h : Nat) : Region := ⟨tileLx origin, tileLy origin, w, h⟩
/-- A region lies inside another. -/
def Region.inside (a b : Region) : Bool :=
  decide (b.lx ≤ a.lx) && decide (a.lx + a.w ≤ b.lx + b.w) && decide (b.ly ≤ a.ly) && decide (a.ly + a.h ≤ b.ly + b.h)

/-- Every byte of an entry outside the listed fields (offset, size) is zero (R15). -/
def EntryRun.restZero (e : EntryRun) (fields : List (Nat × Nat)) : Bool :=
  ((List.range 60).map (· + 4)).all fun i =>
    fields.any (fun f => decide (f.1 ≤ i) && decide (i < f.1 + f.2)) || (e.raw.getD i 0) == 0

end Sys2Proof.Machine
end

