-- ==== Sys2Proof/Machine/Dict.lean ====
section
/-! DEFINITION. Dictionary access: which unit serves an object, the checks of R327 in their order, and the frame in which
every write row applies its effect. -/

namespace Sys2Proof.Machine

/-- Objects served by the yoke (R324, table "Serving unit"). -/
def yokeServed (index : Nat) : Bool :=
  decide (0x2001 ≤ index) && decide (index ≤ 0x28FF) && !(index == 0x2011 || index == 0x2012)
    && !(decide (0x2100 ≤ index) && decide (index ≤ 0x2103))

/-- Objects that the ROM serves in recovery (R389, R441). -/
def romServed (index : Nat) : Bool :=
  (decide (0x1000 ≤ index) && decide (index ≤ 0x1029)) || (decide (0x1FD0 ≤ index) && decide (index ≤ 0x1FD4))
    || index == 0x2000 || index == 0x2A00 || (decide (0x2B10 ≤ index) && decide (index ≤ 0x2B12))
    || (decide (0x2C02 ≤ index) && decide (index ≤ 0x2C07)) || index == 0x2C20 || index == 0x2C21

/-- The unit that serves an object is running (R324, R389, R417). -/
def State.served (s : State) (index : Nat) : Bool :=
  if s.up.phase = .recovery then romServed index else if yokeServed index then s.up.yoke else s.up.collar

/-- Steps 1 to 4 of R327: the first check that fails gives the abort code. -/
def State.accessCheck (s : State) (write : Bool) (index sub : Nat) : Option Nat :=
  if odIndexDefined index = false then some 0x06020000 else
  match odRow index sub with
  | none => some 0x06090011
  | some r =>
    if write ∧ r.acc = .ro then some 0x06010002
    else if ¬ write ∧ r.acc = .wo then some 0x06010001
    else if s.served index = false then some 0x08000024
    else none

/-- Step 5 of R327 and the BOOLEAN rule of R326. No string of the dictionary is writable (log 1 lists the types). -/
def lengthCheck (ty : OdTy) (data : List Byte) : Option Nat :=
  if ty = .str ∨ ty = .domain then none
  else if data.length > ty.bytes then some 0x06070012
  else if data.length < ty.bytes then some 0x06070013
  else if ty = .bool ∧ 1 < leNat data then some 0x06090030
  else none

/-- Number of a path in 0x1FE1:05. -/
def pathNum : Path → Nat
  | .sdo => 0 | .hostA => 1 | .hostB => 2 | .rpdo => 3

/-- A management window can be reached: the function's link is up and YOKE is ON (R341). -/
def State.windowUp (s : State) (f : Fn) : Bool := (s.host f).up && s.hemRing

/-- The dictionary server runs: the collar, or its ROM in recovery. -/
def State.server (s : State) : Bool := s.up.collar && s.can.nmt != .initialising

/-- An access can arrive by a path: SDO in PRE-OPERATIONAL and OPERATIONAL (R328), PDOs in OPERATIONAL (R335), a
management window in every NMT state (R309, R341). -/
def State.pathOpen (s : State) (p : Path) : Bool :=
  match p with
  | .sdo => s.up.collar && (s.can.nmt == .preOperational || s.can.nmt == .operational) && !s.can.busOff
  | .rpdo => s.up.collar && s.can.nmt == .operational && !s.can.busOff
  | .hostA => s.windowUp .hostA
  | .hostB => s.windowUp .hostB

/-- An access is aborted: 0x1FE1:04 and 05 keep the code and the object (R348). -/
def State.aborted (s : State) (p : Path) (index sub code : Nat) : State :=
  (s.putCell 0x1FE1 4 code).putCell 0x1FE1 5 (index + sub * 65536 + pathNum p * 2 ^ 24)

/-- What a write row does: the abort code that steps 6 to 8 give, or the state with its effect. -/
abbrev Effect := State → Except Nat State

/-- The outcome of a write's checks 1 to 4 and its effect. -/
def State.tryWrite (s : State) (index sub : Nat) (eff : Effect) : Except Nat State :=
  match s.accessCheck true index sub with
  | some c => .error c
  | none => eff s

/-- A write row: its access is checked and applied whole, or aborted and not applied (R326, R327). -/
def State.odWrite (s : State) (p : Path) (index sub : Nat) (eff : Effect) : Host.Outcome State Fault Refusal :=
  whenDue (s.pathOpen p) s <|
    match s.tryWrite index sub eff with
    | .ok t => t
    | .error c => s.aborted p index sub c

/-- A query: the named number is kept in :01 and the results in the sub-indices given (R48 and the like). -/
def State.putCells (s : State) (index : Nat) (vals : List (Nat × Nat)) : State :=
  vals.foldl (fun x v => x.putCell index v.1 v.2) s

/-- The abort code of a value out of range. -/
def outOfRange : Nat := 0x06090030
/-- The abort code of a write not allowed in the present state. -/
def badState : Nat := 0x08000022

/-- The objects whose default holds the node ID: 0x1014 and the PDO COB-IDs (R336). -/
def isCob (index sub : Nat) : Bool :=
  (index == 0x1014 && sub == 0) ||
  (sub == 1 && ((decide (0x1400 ≤ index) && decide (index < 0x1408)) || (decide (0x1800 ≤ index) && decide (index < 0x1808))))

/-- The value of a setting in force: a COB-ID that nothing has written follows the node ID (R336). -/
def State.value (s : State) (index sub : Nat) : Nat :=
  if isCob index sub && !s.can.cobWritten.get false (odKey index sub) then cobDefault index s.can.nodeId
  else s.setting index sub

end Sys2Proof.Machine
end

