-- ==== Sys2Proof/Machine/Flags.lean ====
section
/-! DEFINITION. What the block computes about itself: nominal period, stream and admission budgets, seam cost entries,
service level, replacement causes, and the reports that follow when one of them changes. -/

namespace Sys2Proof.Machine

/-! ### Periods and budgets (R172, R173, R211) -/

/-- The nominal line period in ps, rounded to the nearest (0x2101:03; the worked example's 13,888,889); 0 before the first
lock. -/
def Beat.nominal (b : Beat) : Nat :=
  if b.rate * b.lines = 0 then 0 else (10 ^ 15 + b.rate * b.lines / 2) / (b.rate * b.lines)

/-- DRAM bytes per line of a segment, flash bytes per line of an SSD (R172). -/
def State.dramPerLine (s : State) : Nat := 136528000000 * s.beat.nominal / 10 ^ 12 * s.setting 0x2401 1 / 100
def State.flashPerLine (s : State) : Nat := s.setting 0x2401 8 * 10 ^ 6 * s.beat.nominal / 10 ^ 12 * s.setting 0x2401 2 / 100

/-- Payload bytes of a pleat: NLINES of the header that stands at its tier 1 address, else of the one in flash, which the
model does not hold: a free value no larger than the pleat's LBAS take (log 12). -/
def State.payloadOf (s : State) (p : Pleat) : Nat :=
  if s.tier1.readLe p.tier1 4 = 0x504C5431 then s.tier1.readLe (p.tier1 + 10) 2 * 64
  else min (Config.pleatPayload p.seg p.lba) (p.lbas * 4096 - 64)

/-- How many passes a window of `n` lines that begins at line position `start` covers at position `x`, passes repeating
every `q` lines (R173). -/
def windowCover (q start n x : Nat) : Nat :=
  if q = 0 then 0 else n / q + (if (x + q - start % q) % q < n % q then 1 else 0)

/-- The pleats of a step. -/
def Plan.pleatsOf (p : Plan) (k : Nat) : List (Nat × Pleat) :=
  match p.steps[k]? with
  | none => []
  | some st => (p.pleats.zipIdx.map fun x => (x.2, x.1)).filter fun x =>
      decide (st.first ≤ x.1) && decide (x.1 < st.first + st.count)

/-- The largest of the sums at the starts of the windows, where the largest sum at any line position stands. -/
def peakOf (q : Nat) (ws : List (Nat × Nat × Nat)) : Nat :=
  ((ws.map fun w => ((ws.map fun (v : Nat × Nat × Nat) =>
    (windowCover q v.1 v.2.1 w.1 : Rat) * v.2.2 / v.2.1).foldl (· + ·) 0).floor.toNat).foldl max 0)

/-- A plan's DRAM peak on segment `g` (R173). -/
def State.dramPeak (s : State) (p : Plan) (g : Nat) : Nat :=
  peakOf p.q (p.steps.zipIdx.map fun st =>
    (st.1.c - st.1.d, st.1.d - st.1.a,
      (((p.pleatsOf st.2).filter fun x => x.2.seg == g).map fun x => s.payloadOf x.2).sum))

/-- A STREAMED plan's flash peak on the SSD of segment `g` (R173). -/
def Plan.flashPeak (p : Plan) (g : Nat) : Nat :=
  if p.streamed = false then 0 else
    peakOf p.q (p.steps.zipIdx.map fun st =>
      ((st.1.c + p.q * (p.flashLead + st.1.d) - st.1.d - p.flashLead), p.flashLead,
        (((p.pleatsOf st.2).filter fun x => x.2.seg == g).map fun x => x.2.lbas * 4096).sum))

/-- The plans whose peaks count: ACTIVE, and STAGING ones, whose activation the budgets have allowed (log 12). -/
def State.activePlans (s : State) : List Plan := s.plans.vals.filter fun p => p.st == .active || p.st == .staging
def State.dramDemand (s : State) (g : Nat) : Nat := (s.activePlans.map fun p => s.dramPeak p g).sum
def State.flashDemand (s : State) (g : Nat) : Nat := (s.activePlans.map fun p => p.flashPeak g).sum

/-- Present tiles of a panel of the grid. -/
def Wafer.presentIn (w : Wafer) (p : Nat) : Nat := if w.inGrid p && !w.absent p then 132 else 0

/-- K, the length of an admission beat. -/
def State.beatLen (s : State) : Nat := max 1 (s.setting 0x2502 3)
/-- The tile-cycle and stream budgets of an admission beat (R211). -/
def State.tcBudget (s : State) : Nat :=
  ((allPanels.map fun p => s.wafer.presentIn p * s.setting 0x2210 (p + 1) * s.beat.nominal * s.beatLen / 10 ^ 6).sum)
    * s.setting 0x2502 1 / 100
def State.sbBudget (s : State) : Nat :=
  s.beatLen * (((List.range 16).filter fun g => s.dram.get false g).map fun g => s.dramPerLine - s.dramDemand g).sum

/-! ### Edges and the seam cost table (R28 to R30, R42, R43, R45, R442) -/

/-- Sub-index of the edge east of panel (x, y), north of it, and of hem segment g to facing panel k. -/
def eastEdge (x y : Nat) : Nat := 1 + y * 7 + x
def northEdge (x y : Nat) : Nat := 57 + y * 8 + x
def hemEdge (g k : Nat) : Nat := 113 + g * 2 + k

/-- The panel that hem segment `g` faces with its edge `k` (R43). -/
def facing (g k : Nat) : Nat :=
  if g < 4 then 7 * 8 + (2 * g + k)
  else if g < 8 then (2 * (g - 4) + k) * 8 + 7
  else if g < 12 then 2 * (g - 8) + k
  else (2 * (g - 12) + k) * 8

/-- The two panels of a seam by its sub-index, the lower number first; none for a hem edge. -/
def seamPanels (e : Nat) : Option (Nat × Nat) :=
  if e < 57 then let y := (e - 1) / 7; let x := (e - 1) % 7; some (y * 8 + x, y * 8 + x + 1)
  else if e < 113 then let y := (e - 57) / 8; let x := (e - 57) % 8; some (y * 8 + x, (y + 1) * 8 + x)
  else none

/-- Of a direction's failed-lane mask: data lanes in service, spares in use, spares unused. -/
def lanesIn (m : Nat) : Nat := 12 - (popcount 12 m - (2 - popcount 2 (m / 4096)))
def sparesUsed (m : Nat) : Nat := min (popcount 12 m) (2 - popcount 2 (m / 4096))
def sparesLeft (m : Nat) : Nat := 2 - popcount 2 (m / 4096) - sparesUsed m
/-- A direction that has lost a third lane (R29). -/
def laneLost (m : Nat) : Bool := decide (3 ≤ popcount 14 m)

/-- The worse of an edge's two directions, as the translation in force has it: lanes and unused spares. -/
def Wafer.edgeLanes (w : Wafer) (e : Nat) : Nat × Nat :=
  let a := w.laneForce.get 0 (e * 2)
  let b := w.laneForce.get 0 (e * 2 + 1)
  (min (lanesIn a) (lanesIn b), min (sparesLeft a) (sparesLeft b))
/-- Pass-through lanes of a panel along an axis (0 east–west, 1 north–south). -/
def Wafer.passLanes (w : Wafer) (p axis : Nat) : Nat := 12 - popcount 12 (w.passForce.get 0 (p * 2 + axis))

/-- The least lanes and spares of the hop along an axis from position `i` across `h` panels, `j` the other coordinate. -/
def Wafer.hop (w : Wafer) (axis i j h : Nat) : Nat × Nat :=
  let edge := fun n => if axis = 0 then eastEdge n j else northEdge j n
  let pan := fun n => if axis = 0 then j * 8 + n else n * 8 + j
  let es := (List.range (h + 1)).map fun n => w.edgeLanes (edge (i + n))
  let ps := (List.range h).map fun n => w.passLanes (pan (i + 1 + n)) axis
  ((es.map Prod.fst ++ ps).foldl min 12, (es.map Prod.snd).foldl min 2)

/-- A seam cost word. -/
def costWord (lat lanes spares st : Nat) : Nat := lat + lanes * 256 + spares * 4096 + st * 2 ^ 16 + 32 * 2 ^ 24

/-- The first present panel position after the absent ones that begin at `i`, going up or down an axis; none at the edge
of the wafer. -/
def Wafer.beyond (w : Wafer) (axis j : Nat) (up : Bool) : Nat → Nat → Option Nat
  | 0, _ => none
  | fuel + 1, i =>
    if 8 ≤ i then none else
      let p := if axis = 0 then j * 8 + i else i * 8 + j
      if w.absent p then (if up then w.beyond axis j up fuel (i + 1) else if i = 0 then none else w.beyond axis j up fuel (i - 1))
      else some i

/-- The entry of the seam between physical positions `i` and `k` (i < k) of an axis, both in the grid (R442). -/
def Wafer.seamEntry (w : Wafer) (axis i k j : Nat) : Nat :=
  let pan := fun n => if axis = 0 then j * 8 + n else n * 8 + j
  match w.absent (pan i), w.absent (pan k) with
  | true, true => costWord 0 0 0 3
  | false, false =>
    let h := k - i - 1
    let (l, sp) := w.hop axis i j h
    costWord (if h = 0 then 4 else 8 + 6 * h) l sp (if h = 0 then 0 else 1)
  | false, true =>
    match w.beyond axis j true 8 k with
    | some b => let h := b - i - 1
                let (l, sp) := w.hop axis i j h
                costWord (8 + 6 * h) l sp 3
    | none => costWord 0 0 0 3
  | true, false =>
    match w.beyond axis j false 8 i with
    | some b => let h := k - b - 1
                let (l, sp) := w.hop axis b j h
                costWord (8 + 6 * h) l sp 3
    | none => costWord 0 0 0 3

/-- A hem edge is in service: its facing panel is in the grid and present, and no direction has lost a third lane. -/
def Wafer.hemOk (w : Wafer) (g k : Nat) : Bool :=
  let e := hemEdge g k
  w.inGrid (facing g k) && !w.absent (facing g k)
    && !laneLost (w.laneForce.get 0 (e * 2)) && !laneLost (w.laneForce.get 0 (e * 2 + 1))

/-- The seam cost entry of a sub-index (R42, R442). -/
def Wafer.seamCost (w : Wafer) (sub : Nat) : Nat :=
  if sub < 57 then
    match w.cols[(sub - 1) % 7]?, w.cols[(sub - 1) % 7 + 1]?, w.rows[(sub - 1) / 7]? with
    | some i, some k, some j => w.seamEntry 0 i k j
    | _, _, _ => costWord 0 0 0 2
  else if sub < 113 then
    match w.rows[(sub - 57) / 8]?, w.rows[(sub - 57) / 8 + 1]?, w.cols[(sub - 57) % 8]? with
    | some i, some k, some j => w.seamEntry 1 i k j
    | _, _, _ => costWord 0 0 0 2
  else
    let g := (sub - 113) / 2
    let k := (sub - 113) % 2
    if w.absent (facing g k) then costWord 0 0 0 3
    else if w.hemOk g k then let (l, sp) := w.edgeLanes sub; costWord 4 l sp 0
    else costWord 0 0 0 2

/-- An in-service segment reaches the grid through its own facing panels or, over the hem ring, through a neighbouring
segment's (R45). -/
def Wafer.reaches (w : Wafer) : Bool := (List.range 16).any fun g => w.hemOk g 0 || w.hemOk g 1

/-! ### Service level (R396), replacement (R419) and the reports they make -/

/-- Bits of 0x2A00:03, the conditions that do not hold. No tile is present before step 11c has built the grid, and bit 4 is
judged once a segment is in service (the default 0x0F of R400; log 36). -/
def State.missing (s : State) : Nat :=
  let dram := (List.range 16).any fun g => s.dram.get false g
  flag (!s.up.yoke) + flag (!(s.hostA.up || s.hostB.up)) * 2 + flag (!dram) * 4
    + flag (!s.up.built || s.wafer.present = 0) * 8 + flag (dram && !s.wafer.reaches) * 16

/-- The service level (R396). -/
def State.level (s : State) : Nat :=
  let m := s.missing
  if s.up.collar = false ∨ s.up.phase = .recovery then 0 else if m % 8 ≠ 0 then 0 else if m ≠ 0 then 1 else 2

/-- Milliseconds since the start. -/
def State.sinceStart (s : State) : Nat := (s.now - s.up.startAt) / psMs

/-- The service level has changed: EMCY 0xFF01 and its event, and the times to each level (R396, R400). -/
def State.levelCheck (s : State) : State :=
  let l := s.level
  if s.up.collar = false ∨ l = s.up.level then s else
    let t1 := if 1 ≤ l ∧ s.up.t1 = 0 then s.sinceStart else s.up.t1
    let t2 := if 2 ≤ l ∧ s.up.t2 = 0 then s.sinceStart else s.up.t2
    let s1 := { s with up := { s.up with level := l, t1 := t1, t2 := t2 } }
    s1.emcyEvent 0xFF01 0 (natLe 1 l ++ natLe 1 s.up.level)

/-- The causes of a replacement request that hold (0x2B50:03): too few tiles, an overcurrent latch after its three clears,
recovery for a fuse fault. Before the grid is built no tile count is judged (log 13). -/
def State.replaceCauses (s : State) : Nat :=
  flag (s.up.phase = .done && decide (s.wafer.present < s.setting 0x2B50 1))
    + flag (allPanels.any fun p => (s.panelPower p).overcurrent && decide (3 ≤ (s.panelPower p).clears)) * 2
    + flag (s.up.phase = .recovery && s.up.recovery = 1) * 4

/-- Replacement is requested when a cause holds (R419). -/
def State.replaceCheck (s : State) : State :=
  let c := s.replaceCauses
  if s.replacement ∨ c = 0 then s else
    let s1 := ({ s with replacement := true }).putCell 0x2B50 3 c
    (s1.fire 0x0C07 0 10).emcyEvent 0xFF76 0x0C07 (natLe 1 c)

/-- What is watched continuously follows a change from `s0`: service level, replacement, and EMCY 0x0000 once the error
register has returned to 0 (R315, R396, R419). -/
def State.settle (s0 s : State) : State :=
  let s1 := s.levelCheck.replaceCheck
  if s0.errReg ≠ 0 ∧ s1.errReg = 0 then s1.emcy 0 0 else s1

/-- A command whose effect can change the service level, a replacement cause or the error register. -/
def whenSettled (c : Bool) (s t : State) : Host.Outcome State Fault Refusal := whenDue c s (State.settle s t)

/-- A write row whose effect can change them. -/
def State.odWriteSettled (s : State) (p : Path) (index sub : Nat) (eff : Effect) : Host.Outcome State Fault Refusal :=
  s.odWrite p index sub fun x => match eff x with
    | .ok t => .ok (State.settle x t)
    | .error c => .error c

/-! ### Reflected CRCs (R157, R249) -/

/-- One bit of a reflected CRC. -/
def crcBit (poly c : Nat) : Nat := if c % 2 = 1 then (c / 2) ^^^ poly else c / 2
/-- One byte of a reflected CRC. -/
def crcByte (poly c b : Nat) : Nat := (List.range 8).foldl (fun x _ => crcBit poly x) (c ^^^ b)

end Sys2Proof.Machine
end

