-- ==== Sys2Proof/Machine/Failure.lean ====
section
/-! DEFINITION. What failures and changes of the grid do, shared by every family: admission and skipping, the status of a
request that touches a suspect unit, panel loss, the end of requests on failed units, epoch steps, domain switching. -/

namespace Sys2Proof.Machine

/-! ### Admission (R211 to R214, R216) -/

/-- The admission beat of a line instant. -/
def State.beatOf (s : State) (lt : Nat) : Nat := lt / 65536 / s.beatLen

/-- A frame is in a pass. -/
def Frame.inPass (f : Frame) : Bool := f.pass.isSome

/-- The frames charged to an admission beat, and their projected tile-cycle and stream cost (R212). -/
def State.chargedTo (s : State) (k : Nat) : List (Nat × Frame) := s.frames.cells.filter fun c => s.beatOf c.2.deadline == k
def State.tcCost (s : State) (k : Nat) : Nat := ((s.chargedTo k).map fun c => c.2.tc).sum
def State.sbCost (s : State) (k : Nat) : Nat := ((s.chargedTo k).map fun c => c.2.sb).sum
/-- An admission beat's cost exceeds a budget. -/
def State.overBudget (s : State) (k : Nat) : Bool :=
  decide (s.tcBudget < s.tcCost k) || decide (s.sbBudget < s.sbCost k)

/-- The slot by which a frame ranks: the lowest member of its locked set, or its own (R212). -/
def State.rankSlot (s : State) (f : Frame) : Nat :=
  match (s.sessionOf f.slot).set with
  | none => f.slot
  | some g => (((s.sessions.cells.filter fun c => c.2.set == some g).map Prod.fst).head?).getD f.slot

/-- A frame `a` is skipped before `b`: lower class, then later deadline, then higher slot (R212). -/
def State.skipsBefore (s : State) (a b : Frame) : Bool :=
  decide (a.cls < b.cls) || (a.cls == b.cls && (decide (b.deadline < a.deadline) ||
    (a.deadline == b.deadline && decide (s.rankSlot b < s.rankSlot a))))

/-- The frame that is skipped first among those that are eligible in a beat. -/
def State.skipFirst (s : State) (k : Nat) : Option (Nat × Frame) :=
  ((s.chargedTo k).filter fun c => !c.2.inPass).foldl (fun (a : Option (Nat × Frame)) c => match a with
    | none => some c
    | some b => if s.skipsBefore c.2 b.2 then some c else some b) none

/-- One frame is skipped: it completes with FRAME_SKIPPED and counts in its class and window (R212, R216). -/
def State.skipFrame (s : State) (key : Nat) : State :=
  match s.frames.find key with
  | none => s
  | some f =>
    let w := f.deadline / 65536 * 8 + f.cls
    let q := s.skips.get ⟨0, 0⟩ w
    ({ s with skips := s.skips.set w { q with skips := q.skips + 1 } }).frameDone key .frameSkipped 0

/-- The candidate of a frame: itself, or with a locked set every member's frame for that deadline, and the set's deadline
is kept as skipped (R213). -/
def State.skipCandidate (s : State) (key : Nat) (f : Frame) : State :=
  match (s.sessionOf f.slot).set with
  | none => s.skipFrame key
  | some g =>
    let ms := (s.frames.cells.filter fun c => (s.sessionOf c.2.slot).set == some g && c.2.deadline == f.deadline
      && !c.2.inPass).map Prod.fst
    each ms State.skipFrame { s with setSkips := (g, f.deadline) :: s.setSkips.filter fun x => x != (g, f.deadline) }

/-- Frames of a beat are skipped until both costs are within budget; when only frames in a pass remain, the overload is
counted in 0x2503:05 (R212). -/
def skipLoop : Nat → Nat → State → State
  | 0, _, s => s
  | fuel + 1, k, s =>
    if s.overBudget k = false then s else
      match s.skipFirst k with
      | none => s.bump64 0x2503 5
      | some c => skipLoop fuel k (s.skipCandidate c.1 c.2)

/-- R212 applied to one admission beat. -/
def State.admitBeat (s : State) (k : Nat) : State := skipLoop (s.frames.cells.length + 1) k s

/-- The budgets are recomputed: R212 applies to every admission beat whose first line has not yet passed (R214). -/
def State.rebudget (s : State) : State :=
  each (((s.frames.vals.map fun f => s.beatOf f.deadline).dedup).filter fun k => decide (s.beat.n ≤ k * s.beatLen)) State.admitBeat s

/-! ### The end of a job (R200) -/

/-- JCLOSE's effect (R200), but for the completion of the JCLOSE entry itself. The admission budgets follow when a plan that
counts in them goes (R214). -/
def State.jobClose (s : State) (j : Nat) (but : Nat × Nat) : State :=
  let q := s.jobOf j
  if q.st = .free then s else
    let st : Status := if q.fenced then .fenced else .jobAborted
    let s1 := { s with jobs := s.jobs.set j { q with st := .aborted } }
    let s2 := each (s1.taskTiles j) State.killTask s1
    let s3 := (((((s2.jobEntriesEnd j st 0 but).jobFramesEnd j st 0).jobLinks j).jobSlotsEnd j).jobSessionsEnd j).jobPlansEnd j
    let ended := s.plans.vals.any fun p => p.job == j && (p.st == .active || p.st == .staging)
    (if ended then s3.rebudget else s3).jobForget j

/-- The jobs that are not FREE. -/
def State.liveJobs (s : State) : List Nat := (s.jobs.cells.filter fun c => c.2.st != .free).map Prod.fst

/-- Every job is closed (R311, R355). -/
def State.closeAllJobs (s : State) : State := each s.liveJobs (fun x j => x.jobClose j (0, 0x10000)) s

/-- Active plans whose demand now exceeds a budget: detector 0x0504 fires once and 0x2403:09 counts (R174). -/
def State.demandCheck (s : State) : State :=
  match (List.range 16).find? fun g => decide (s.dramPerLine < s.dramDemand g) || decide (s.flashPerLine < s.flashDemand g) with
  | some g => (s.bump64 0x2403 9).fire 0x0504 g 0
  | none => s

/-! ### Suspect units (R403, R404) -/

/-- The region of a plan: its origin and the tiles its pleats name (log 15). -/
def Plan.region (p : Plan) : Region :=
  ⟨p.lx, p.ly, (p.pleats.map fun x => x.rx).foldl max 0 + 1, (p.pleats.map fun x => x.ry).foldl max 0 + 1⟩

/-- A suspect unit that a request on these tiles and segments touches. -/
def FailUnit.touched (u : FailUnit) (keys segs : List Nat) : Bool :=
  match u with
  | .tile k => keys.contains k
  | .panel p _ => keys.any fun k => keyPanel k == p
  | .panelReset p => keys.any fun k => keyPanel k == p
  | .dram g => segs.contains g
  | .owner _ _ => false

/-- A tile's failure will make its panel lost (R405 step 4, R408). -/
def State.losesPanel (s : State) (k : Nat) : Bool :=
  let w := s.wafer
  let row := keyPanel k * 12 + keyRow k
  (w.logical k).isSome && (w.skipOf (keyPanel k) (keyRow k) != 11 || w.spent.get false row || (s.moves.find row).isSome)

/-- The status that the fence of the suspect units will give a request of job `j` that touches these tiles and segments;
OK when none is touched (R404). -/
def State.suspectStatus (s : State) (j : Nat) (keys segs : List Nat) : Status :=
  let q := s.jobOf j
  let hit := s.suspects.filter fun x => x.what.touched keys segs
  let aborts := hit.any fun x => match x.what with
    | .panel _ _ => true
    | .tile k => s.losesPanel k
    | _ => false
  worst (cond (s.isSuspect (.owner 2 j)) .fenced ++ cond (aborts || s.isSuspect (.owner 1 (fnNum q.owner))) .jobAborted
    ++ cond (!hit.isEmpty) (if q.elastic then .regionLost else .jobAborted))

/-- The detector behind that status. -/
def State.suspectTouchDet (s : State) (keys segs : List Nat) : Nat :=
  match s.suspects.find? fun x => x.what.touched keys segs with
  | some x => x.det
  | none => 0

/-- The tiles that a frame with a lane touches: its plan's region. -/
def State.frameTiles (s : State) (f : Frame) : List Nat :=
  match f.pass with
  | none => []
  | some (pl, _) => match s.plans.find pl with
    | some p => s.wafer.regionKeys p.region
    | none => []

/-- The tiles that an entry names (R403). -/
def EntryRun.tilesNamed (e : EntryRun) (w : Wafer) : List Nat :=
  if e.engine = 0 ∧ (e.op = 1 ∨ e.op = 2) then w.regionKeys (regionFrom (e.field 4 2) (e.field 6 1) (e.field 7 1))
  else if e.engine = 0 ∧ e.op = 4 then
    [e.field 8 8, e.field 16 8].filterMap fun a => match w.target a with
      | .tile k _ => some k
      | _ => none
  else if e.engine = 2 ∧ 3 ≤ e.op ∧ e.op ≤ 8 then
    [e.field 8 8].filterMap fun a => match w.target a with
      | .tile k _ => some k
      | _ => none
  else if e.engine = 3 ∧ e.op = 1 then w.regionKeys (regionFrom (e.field 8 2) (e.field 10 1) (e.field 11 1))
  else []

/-- The segments whose tier 1 range an entry reads or writes (R403). -/
def segsIn (a n : Nat) : List Nat := if n = 0 ∨ tier1Size ≤ a then [] else (List.range 16).filter fun g =>
  decide (a < (g + 1) * segSize) && decide (g * segSize < a + n)
def EntryRun.segsNamed (e : EntryRun) : List Nat :=
  if e.engine = 0 ∧ e.op = 4 then segsIn (e.field 8 8) (e.field 4 4) ++ segsIn (e.field 16 8) (e.field 4 4)
  else if e.engine = 0 ∧ e.op = 1 then segsIn (e.field 16 8) (e.field 14 2 * 64)
  else if e.engine = 1 ∧ (e.op = 8 ∨ e.op = 9) then segsIn (e.field 16 8) (e.field 24 4 * 4096)
  else if e.engine = 2 ∧ (e.op = 7 ∨ e.op = 8) then segsIn (e.field 8 8) 8
  else if e.engine = 2 ∧ 3 ≤ e.op ∧ e.op ≤ 6 then segsIn (e.field 8 8) (e.field 0x18 4)
  else []

/-- The operations whose completion is a barrier over tiles (R413). -/
def EntryRun.isBarrier (e : EntryRun) : Bool :=
  (e.engine == 0 && (e.op == 1 || e.op == 2)) || (e.engine == 3 && e.op == 1)

/-! ### Ending what touches failed tiles and segments (R199, R403, R413) -/

/-- The jobs that are OPEN. -/
def State.openJobs (s : State) : List Nat := (s.jobs.cells.filter fun c => c.2.st == .opened).map Prod.fst

/-- One entry loses a part to a failed unit: a barrier goes down by the parts given and keeps REGION_LOST, another entry
completes with it. PLOAD and TATTACH complete when their remaining tiles do. -/
def State.entryHit (s : State) (id : Nat) (e : EntryRun) (det : Nat) : State :=
  let s1 := s.bump64 0x2B00 9
  if e.isBarrier then s1.entryMap id e.idx fun x => { x with worst := x.worst.worse .regionLost, det := det }
  else s1.entryEnd id e.idx .regionLost det

/-- The tasks of failed tiles halt, and each TSTART loses their part (R413). -/
def State.taskHit (s : State) (k : Nat) (st : Status) (det : Nat) : State :=
  match (s.tileOf k).task with
  | none => s
  | some q => (s.killTask k).partDone q.list q.idx st det

/-- The requests of an ELASTIC job that touch the failed tiles or segments end with REGION_LOST (R199, R403). -/
def State.elasticHit (s : State) (j : Nat) (keys segs : List Nat) (det : Nat) : State :=
  let fr := s.frames.cells.filter fun c => c.2.job == j && (s.frameTiles c.2).any keys.contains
  let s1 := each fr (fun x c => (x.bump64 0x2B00 9).frameDone c.1 .regionLost det) s
  let hits := (s1.listsOf j).flatMap fun id => match s1.lists.find id with
    | none => []
    | some l => (l.entries.filter fun e => e.status.isNone && l.waiting != some e.idx &&
        ((e.tilesNamed s1.wafer).any keys.contains || e.segsNamed.any segs.contains)).map fun e => (id, e)
  each hits (fun x h => x.entryHit h.1 h.2 det) s1

/-- A job uses a tile, a panel of its region, a segment (R402). -/
def State.usesTile (s : State) (q : Job) (k : Nat) : Bool := (s.wafer.regionKeys q.region).contains k
def State.usesSeg (s : State) (j : Nat) (q : Job) (g : Nat) : Bool :=
  (q.ranges.any fun r => decide (r.1 < (g + 1) * segSize) && decide (g * segSize < r.1 + r.2))
    || (s.plans.vals.any fun p => p.job == j && p.pleats.any fun x => x.seg == g)

/-- The failed tiles and segments take effect on every OPEN job that uses them: STRICT jobs abort, the requests of ELASTIC
ones that touch them end, and the tasks of failed tiles halt (R199, R402, R403). -/
def State.unitsFail (s : State) (keys segs : List Nat) (det : Nat) : State :=
  let s1 := each s.openJobs (fun x j =>
    let q := x.jobOf j
    if (keys.any fun k => x.usesTile q k) || (segs.any fun g => x.usesSeg j q g) then
      if q.elastic then x.elasticHit j keys segs det else x.jobAbort j .jobAborted det
    else x) s
  each keys (fun x k => x.taskHit k .regionLost det) s1

/-! ### Epochs (R39, R111) -/

/-- A change of translation takes effect: the epoch steps once a boundary, resident programs are stamped with it, and the
budgets follow (R39, R111, R214). Before the first lock there are no boundaries, and every change steps it (log 14). -/
def State.epochStep (s : State) : State :=
  let w := s.wafer
  if w.epochN = some s.beat.n ∧ s.beat.lock ≠ .search then s.rebudget else
    let e := w.epoch + 1
    ({ s with
       wafer := { w with epoch := e, epochN := if s.beat.lock = Lock.search then none else some s.beat.n }
       tiles := s.tiles.mapVals fun _ t => if t.resident then { t with epoch := e.toNat } else t }).rebudget

/-! ### Panel loss (R409, R410) -/

/-- The moves of a panel are abandoned: its paused tiles go on (R408). -/
def State.abandonMoves (s : State) (p : Nat) : State :=
  { s with
    moves := s.moves.keep fun row _ => row / 12 != p
    tiles := s.tiles.mapVals fun k t => if keyPanel k = p then { t with paused := false } else t }

/-- A panel is declared LOST for a row of "Causes of panel loss": 0x0C08 and EMCY 0xFF71 at once, the rebuild at the next
boundary after line count `since`. A panel that is REMOVED changes state only (R409, R410). -/
def State.declareLost (s : State) (p cause since : Nat) : State :=
  if s.panelLost p then s else
    let s1 := ((s.fire 0x0C08 0 4).bump64 0x2B00 3).emcyEvent 0xFF71 0x0C08 (natLe 1 p ++ natLe 1 cause)
    let s2 : State := { s1.abandonMoves p with suspects := s1.suspects.filter fun x => x.what != FailUnit.panelReset p }
    let c := s2.wafer.panelOf p
    if c.mode = .removed then { s2 with wafer := { s2.wafer with panel := s2.wafer.panel.set p ⟨.lost, false⟩ } }
    else
      let u : Suspect := ⟨.panel p cause, since, 0x0C08⟩
      { s2 with suspects := s2.suspects ++ [u] }

/-! ### Domains (R353) -/

/-- A domain's cell. -/
def domain0 : Domain := ⟨.off, false, 0⟩
def State.domainOf (s : State) (d : Nat) : Domain := s.power.domains.get domain0 d
def State.setDomain (s : State) (d : Nat) (x : Domain) : State :=
  { s with power := { s.power with domains := s.power.domains.set d x } }
/-- A domain goes OFF, or stays latched off. -/
def State.domainOff (s : State) (d : Nat) : State :=
  let x := s.domainOf d
  if x.st = .latchedOff then s.setDomain d { x with wanted := false } else s.setDomain d ⟨.off, false, 0⟩

/-- The domains of a panel: core, memory (table of R352). -/
def coreDomain (p : Nat) : Nat := 27 + p
def memDomain (p : Nat) : Nat := 91 + p

/-- The domains that a domain requires (table "Power domains"); the main input stands for YOKE's. -/
def domainNeeds (d : Nat) : List Nat :=
  if d = 0 then []
  else if d < 27 then [0]
  else if d < 91 then [memDomain (d - 27)]
  else if d < 155 then [155 + panelY (d - 91), 163 + panelX (d - 91)]
  else [0]

/-- A panel's domain. -/
def isPanelDomain (d : Nat) : Bool := decide (27 ≤ d) && decide (d < 155)
/-- The panel of a panel domain. -/
def domainPanel (d : Nat) : Nat := if d < 91 then d - 27 else d - 91

/-- Every domain that `d` requires is ON. -/
def State.needsMet (s : State) (d : Nat) : Bool := (domainNeeds d).all fun e => (s.domainOf e).st == .on

/-- How many domains of the class of `d`, panel or other, ramp. -/
def State.ramping (s : State) (panel : Bool) : Nat :=
  (s.power.domains.cells.filter fun c => isPanelDomain c.1 == panel && c.2.st == .ramping).length

/-- A ramp slot is free (R354): 8 panel domains, 4 others. -/
def State.rampFree (s : State) (panel : Bool) : Bool := decide (s.ramping panel < if panel then 8 else 4)

/-- The order of R391: non-panel domains, then the panels' own order. -/
def rampOrder : List Nat :=
  [0] ++ (List.range 16).map (155 + ·) ++ [17, 18] ++ (List.range 16).map (1 + ·) ++ (List.range 8).map (19 + ·)
    ++ allPanels.flatMap fun p => [memDomain p, coreDomain p]

/-- No seam domain is still to come ON. -/
def State.seamsDone (s : State) : Bool := (List.range 16).all fun i =>
  let d := s.domainOf (155 + i)
  d.st == .on || (d.st == .off && !d.wanted)

/-- The first waiting domain of a class whose requirements are ON; in the power-up sequence the panels wait for the seam
domains (R391), and ROM recovery switches none on (R389). -/
def State.rampNext (s : State) (panel : Bool) : Option Nat :=
  rampOrder.find? fun d =>
    s.up.phase != .recovery && isPanelDomain d == panel && (s.domainOf d).wanted && (s.domainOf d).st == .off && s.needsMet d
      && (!panel || s.up.phase != .domains || s.seamsDone)

/-- A domain begins to ramp. -/
def State.rampStart (s : State) (d : Nat) : State := s.setDomain d ⟨.ramping, true, s.now⟩

/-- Waiting domains begin to ramp while slots are free. -/
def rampFill (panel : Bool) : Nat → State → State
  | 0, s => s
  | fuel + 1, s =>
    match s.rampNext panel with
    | some d => if s.rampFree panel then rampFill panel fuel (s.rampStart d) else s
    | none => s

/-- Both classes. -/
def State.rampAll (s : State) : State := rampFill true 8 (rampFill false 4 s)

/-- The input allows domains to be switched on: in range or High, or a Cut input that has been in range for 100 ms and
waits for this request (R351, R353). -/
def State.inputAllows (s : State) (d : Nat) : Bool :=
  s.power.input == .inRange || s.power.input == .high ||
    (d == 0 && s.power.input == .cut && match s.power.rangeAt with
      | some t => decide (t + 100 * psMs ≤ s.now)
      | none => false)

/-- What is left of a panel's power status when its stages lose power: latches, counts and measurements. -/
def PanelPower.unpowered (p : PanelPower) : PanelPower :=
  { panelPower0 with
    brownout := p.brownout, overcurrent := p.overcurrent, ocInjected := p.ocInjected, clears := p.clears
    coreMv := p.coreMv, sramMv := p.sramMv, temp := p.temp }

/-- A panel's power status is changed. -/
def State.setPanelPower (s : State) (p : Nat) (x : PanelPower) : State :=
  { s with power := { s.power with panels := s.power.panels.set p x } }

/-- The tiles of a panel hold nothing: every line unwritten (R132), no program. Fenced tiles stay fenced. -/
def State.clearPanel (s : State) (p : Nat) : State :=
  { s with tiles := s.tiles.mapVals fun k t => if keyPanel k = p then { tile0 with fenced := t.fenced } else t }

/-! ### Plans and tailoring at the end of every job's work -/

/-- ACTIVE and STAGING plans become LOADED; passes end (R409, R416). -/
def State.plansToLoaded (s : State) : State :=
  { s with plans := s.plans.mapVals fun _ p =>
      if p.st = .active ∨ p.st = .staging then
        { p with st := .loaded, passes := .empty, activator := none, deactivator := none, restagers := [] } else p }

/-- Every resident program is discarded (R111). -/
def State.discardPrograms (s : State) : State :=
  { s with tiles := s.tiles.mapVals fun _ t => { t with resident := false } }

/-- Every job becomes ABORTED with JOB_ABORTED (R409, R416). -/
def State.abortAll (s : State) (det : Nat) : State := each s.openJobs (fun x j => x.jobAbort j .jobAborted det) s

/-- Every tailoring context is detached (R409). -/
def State.detachAll (s : State) : State := each s.attach.keys State.detachSlot s

/-- The state of every panel once the panels in `lost` are LOST, in a rebuild mode (R36, R409). -/
def Wafer.rebuilt (w : Wafer) (mode : Nat) (lost : Nat → Bool) : Wafer :=
  let out := fun p => if mode = 1 then (List.range 8).any fun y => lost (y * 8 + panelX p)
    else if mode = 2 then (List.range 8).any fun x => lost (panelY p * 8 + x) else false
  { w with
    mode := if (allPanels.any lost) then min mode 3 else 0
    panel := allPanels.foldl (fun t p =>
      if lost p then t.set p ⟨.lost, false⟩ else if out p then t.set p ⟨.removed, (w.panelOf p).resetting⟩
      else t.set p ⟨.active, (w.panelOf p).resetting⟩) w.panel }

/-- A panel's two stages go OFF: its stores lose their contents and every written bit (R132, R352), its PLL stops. -/
def State.panelFell (s : State) (p : Nat) : State :=
  let a := (s.domainOff (coreDomain p)).domainOff (memDomain p)
  (a.clearPanel p).setPanelPower p (a.panelPower p).unpowered

/-- The compute and memory domains of the panels out of the grid are switched off (R39, R409). -/
def State.lostDomainsOff (s : State) : State :=
  each (allPanels.filter fun p => (s.wafer.panelOf p).mode != .active) State.panelFell s

/-- EMCY 0xFF72 after a rebuild. -/
def State.rebuiltReport (s : State) : State :=
  ((s.bump64 0x2B00 4).logAdd 0 0 5 0 false).emcyEvent 0xFF72 0
    (natLe 1 s.wafer.mode ++ natLe 1 s.wafer.width ++ natLe 1 s.wafer.height ++ natLe 4 s.wafer.epoch.toNat)

/-! ### Lanes (R29, R39) -/

/-- The sub-index by which a physical edge is reported: the seam cost sub-index of the edge in the current grid, or the
physical one where the grid has no such edge (R42, R420). -/
def Wafer.edgeUnit (w : Wafer) (e : Nat) : Nat :=
  match seamPanels e with
  | none => e
  | some (a, _) =>
    match indexIn (panelX a) w.cols, indexIn (panelY a) w.rows with
    | some i, some j => if e < 57 then eastEdge i j else northEdge i j
    | _, _ => e

/-- A data or spare lane fails in one direction (R29): 0x0401 with a spare to take its place, 0x0402 and the loss of the
seam with a third failure. The change of lanes waits for the boundary. -/
def State.laneFails (s : State) (e dir lane since : Nat) : State :=
  let key := e * 2 + dir
  let m := s.wafer.laneFail.get 0 key
  if bit m lane then s else
    let m1 := setBit m lane
    let s1 := { s with wafer := { s.wafer with laneFail := s.wafer.laneFail.set key m1 } }
    let u := s.wafer.edgeUnit e
    if laneLost m1 then
      let s2 := s1.fire 0x0402 u 0
      match seamPanels e with
      | some (_, b) => s2.declareLost b 2 since
      | none => s2
    else s1.fire 0x0401 u 0

end Sys2Proof.Machine
end

