-- ==== Sys2Proof/Machine/Boundary.lean ====
section
/-! DEFINITION. What takes effect at a line boundary, and the command LINE_BOUNDARY: lanes, panel clocks, retimes, leases
and a grid restore. -/

namespace Sys2Proof.Machine

/-! ### Lanes and clocks (R29, R39, R113, R363, R372) -/

/-- Lane changes detected since the last boundary take effect. A change of a seam's or hem edge's lanes steps the epoch, and so
does a pass-through lane that the seam cost table shows; one that no bridged edge uses changes nothing that R39 names. -/
def State.lanesApply (s : State) : State :=
  let w := s.wafer
  let w1 := { w with laneForce := w.laneFail, passForce := w.passFail }
  if w.laneForce = w.laneFail ∧ w.passForce = w.passFail then s
  else if w.laneForce = w.laneFail ∧ ((List.range 145).all fun e => w.seamCost e == w1.seamCost e) then { s with wafer := w1 }
  else State.epochStep { s with wafer := w1 }

/-- A panel has a throttle source (R363). -/
def PanelPower.throttled (p : PanelPower) : Bool := p.srcBrown || p.srcLimit || p.srcDie

/-- New targets, throttles and lifts take effect: 0x2211 (R113, R363). -/
def State.clocksApply (s : State) : State :=
  let s1 := each allPanels (fun x p =>
    let q := x.panelPower p
    let m := if q.throttled then 400 else x.setting 0x2210 (p + 1)
    if q.mhz = m then x else { x with power := { x.power with panels := x.power.panels.set p { q with mhz := m } } }) s
  { s1 with power := { s1.power with spreadPanel := s1.setting 0x2940 1 == 1, spreadYoke := s1.setting 0x2940 2 == 1 } }

/-! ### Retimes (R82) -/

/-- The first session beat at or after a line instant (R80). -/
def beatFrom (p phase lt : Nat) : Nat :=
  if p = 0 then phase
  else if lt ≤ phase then phase
  else phase + (lt - phase + p * 65536 - 1) / (p * 65536) * (p * 65536)

/-- The retime that takes effect at boundary `n`, the last of those due, and those that stay: the ones accepted after it. One
accepted before it and not yet due is superseded (DESIGN CHOICE, log 72). -/
def retimeDue (n : Nat) : List Retime → Option (Retime × List Retime)
  | [] => none
  | r :: more => match retimeDue n more with
    | some x => some x
    | none => if r.after < n * 65536 then some (r, more) else none

/-- A pending retime takes effect at the first boundary after the latest outstanding deadline it waits for. -/
def State.retimesApply (s : State) : State :=
  { s with sessions := s.sessions.mapVals fun _ x => match retimeDue s.beat.n x.retimes with
      | none => x
      | some (r, more) =>
        { x with p := r.p, phase := r.phase, m := r.m, retimes := more
                 nextBeat := beatFrom r.p r.phase (s.beat.n * 65536) } }

/-! ### Leases (R412) -/

/-- Ticks of `ms` milliseconds at the measured line period, rounded up. -/
def State.msTicks (s : State) (ms : Nat) : Nat :=
  if s.beat.period = 0 then 0 else (ms * psMs * 65536 + s.beat.period - 1) / s.beat.period

/-- Key of an owner. -/
def ownerKey (kind number : Nat) : Nat := kind * 65536 + number

/-- A lease is renewed to the given length, in ticks. -/
def State.renew (s : State) (kind number len : Nat) : State :=
  { s with leases := s.leases.set (ownerKey kind number) (s.lineNow + len) }

/-- Every keeper whose condition holds renews its lease: functions that are up, jobs whose function has written a doorbell,
the yoke while it runs, segments. Tile leases are renewed by every heartbeat and lapse only through TILE_HEARTBEAT_TIMEOUT
(log 19). -/
def State.leasesApply (s : State) : State :=
  let fns := [Fn.hostA, Fn.hostB].filter fun f => (s.host f).up && !(s.host f).flr
  let s1 := each fns (fun x f => x.renew 1 (fnNum f) 65536) s
  let jl := s.setting 0x2B01 1
  let js := s.openJobs.filter fun j => jl != 0 && (s.host (s.jobOf j).owner).rang
  let s2 := each js (fun x j => x.renew 2 j (jl * 65536)) s1
  let s3 := if s.up.yoke then s2.renew 4 0 (s.msTicks (s.setting 0x2B01 2)) else s2
  let s4 := each ((List.range 16).filter fun g => s.dram.get false g) (fun x g => x.renew 5 g 65536) s3
  { s4 with hostA := { s4.hostA with rang := false }, hostB := { s4.hostB with rang := false } }

/-! ### Grid restore (R418) -/

/-- A panel that a restore cannot bring back: latched, failed in its test, or next to a seam that stays lost. -/
def State.restoreStays (s : State) (failed : List Nat) (p : Nat) : Bool :=
  (s.wafer.panelOf p).mode != .active &&
    ((s.panelPower p).overcurrent || failed.contains p || (List.range 113).any fun e =>
      e != 0 && (seamPanels e).map Prod.snd == some p &&
        (laneLost (s.wafer.laneFail.get 0 (e * 2)) || laneLost (s.wafer.laneFail.get 0 (e * 2 + 1))))

/-- The panels that a restore brings back when their domains come ON. -/
def State.restorable (s : State) (failed : List Nat) : List Nat :=
  allPanels.filter fun p => (s.wafer.panelOf p).mode != .active && !s.restoreStays failed p

/-- A domain that is OFF is to come ON. -/
def State.domainWant (s : State) (d : Nat) : State :=
  let x := s.domainOf d
  if x.st = .off then s.setDomain d { x with wanted := true } else s

/-- The lanes that a seam rail took stand again as they were before (log 82). -/
def Wafer.lanesBack (w : Wafer) : Wafer :=
  { w with laneFail := w.laneKept.cells.foldl (fun t c => t.set c.1 c.2) w.laneFail, laneKept := .empty }

/-- A restore begins: the seam rails' lanes are tested, and the domains of each panel that can come back are switched on under
R353 and R354. -/
def State.restoreBegin (s : State) (failed : List Nat) : State :=
  let a := { s with wafer := s.wafer.lanesBack, up := { s.up with restore := some (failed, true) } }
  if a.inputAllows 1 && !a.power.internalOsc then
    (each (a.restorable failed) (fun x p => (x.domainWant (memDomain p)).domainWant (coreDomain p)) a).rampAll
  else a

/-- A domain that the restore waits for: it ramps, or can begin to. -/
def State.stillRamps (s : State) (d : Nat) : Bool :=
  let x := s.domainOf d
  x.st == .ramping || (x.wanted && x.st == .off && s.needsMet d)
def State.restoreBusy (s : State) (failed : List Nat) : Bool :=
  (s.restorable failed).any fun p => s.stillRamps (memDomain p) || s.stillRamps (coreDomain p)

/-- The restore takes effect: the panels whose domains are ON and whose test passes come back, the grid is rebuilt from every
panel that is not LOST, the epoch steps, and 0x2B30:02 names the panels that stay LOST. A REMOVED panel that fails is LOST by it
(cause 6). -/
def State.restoreFinish (s : State) (failed : List Nat) : State :=
  let back := (s.restorable failed).filter fun p => (s.domainOf (coreDomain p)).st == .on
  let stay := allPanels.filter fun p => (s.wafer.panelOf p).mode != .active && !back.contains p
  let gone := stay.filter fun p => (s.wafer.panelOf p).mode == .removed
  let s0 := each gone (fun x p =>
    ((x.fire 0x0C08 0 4).bump64 0x2B00 3).emcyEvent 0xFF71 0x0C08 (natLe 1 p ++ natLe 1 6)) s
  let s1 := each back State.clearPanel s0
  let s2 := { s1 with
    wafer := s1.wafer.rebuilt (s1.setting 0x2002 0) fun p => stay.contains p
    up := { s1.up with restore := none } }
  (s2.epochStep.lostDomainsOff.putCell 0x2B30 2 ((stay.map fun p => 2 ^ p).sum)).rebuiltReport

/-- The restore that 0x2B30:01 asked for goes on at a boundary: it begins, and finishes at the first one at which no domain of
its panels still ramps (R354, R418). -/
def State.restoreApply (s : State) : State :=
  match s.up.restore with
  | none => s
  | some (failed, begun) =>
    let a := if begun then s else s.restoreBegin failed
    if a.restoreBusy failed then a else a.restoreFinish failed

/-- Before the first lock there are no boundaries, and what waits for one goes on at once (log 14). -/
def State.atOnce (s : State) : State := if s.beat.lock = .search then s.lanesApply.restoreApply else s

/-! ### LINE_BOUNDARY (R64, R69, R73) -/

/-- What a boundary brings besides the count. -/
def State.boundaryWork (s : State) : State := s.lanesApply.restoreApply.clocksApply.retimesApply.leasesApply

/-- The local count steps: N goes up, the tick restarts, and the anchor moves at every line 0 (R73). -/
def Beat.step (b : Beat) (at_ : Nat) : Beat :=
  let n := b.n + 1
  let st := b.stampOf (n * 65536)
  if bits st 31 16 = 0 then { b with n := n, tickAt := at_, n0 := n, f0 := bits st 63 32 }
  else { b with n := n, tickAt := at_ }

/-- A boundary of the local count at an instant, with all that it brings. -/
def State.localBoundary (s : State) (at_ : Nat) : State := ({ s with beat := s.beat.step at_ }).boundaryWork

/-- A boundary of the received timeline: the next one is predicted from it; while boundaries are held back the local count
stays (R71). -/
def Beat.predict (b : Beat) : Beat :=
  { b with
    prevAt := b.boundaryAt
    boundaryAt := b.boundaryAt + b.period
    prevGood := b.curGood
    curGood := false
    decided := false
    held := b.held - 1 }

/-- LINE_BOUNDARY (R64, R69): the predicted flywheel boundary while LOCKED, the TCXO's at the frozen period in HOLDOVER
and LOST. While LOCKED the word of the boundary before has been decided. -/
def execLineBoundary (s : State) : Host.Outcome State Fault Refusal :=
  let b := s.beat
  let t := b.boundaryAt + b.period
  whenSettled (b.lock != .search && (b.lock != .locked || b.decided)) s <|
    let s1 := { s.advanceTo t with beat := b.predict }
    if b.held = 0 then s1.localBoundary t else s1

end Sys2Proof.Machine
end

