-- ==== Sys2Proof/Machine/BeatUnit.lean ====
section
/-! DEFINITION. Commands of the beat unit (02): words, lock, loss, holdover. -/

namespace Sys2Proof.Machine

/-! ### Beat words (R54, R55, R57, R61) -/

/-- One bit into the CRC-16/CCITT-FALSE register (R55). -/
def crc16Bit (c : Nat) (b : Bool) : Nat :=
  let y := c * 2 % 65536
  if (bit c 15) != b then y ^^^ 0x1021 else y

/-- The CRC over the `n` low bits of `v`, most significant first. -/
def crc16 (v : Nat) : Nat → Nat → Nat
  | 0, c => c
  | n + 1, c => crc16 v n (crc16Bit c (bit v n))

/-- A beat word's fields (R54). -/
structure BeatWord where
  type : Nat
  frame : Nat
  line : Nat
  lines : Nat
  rate : Nat
  flags : Nat
  source : Nat
  crcOk : Bool
  deriving DecidableEq, Repr

/-- The fields of a 128-bit word that begins with SYNC. -/
def beatWord (w : Nat) : BeatWord :=
  { type := bits w 111 108, frame := bits w 107 76, line := bits w 75 64, lines := bits w 63 52, rate := bits w 51 32
    flags := bits w 31 24, source := bits w 23 16, crcOk := crc16 (w / 65536) 112 0xFFFF == bits w 15 0 }

/-- A valid geometry (R57). -/
def geometryOk (lines rate : Nat) : Bool :=
  decide (600 ≤ lines) && decide (lines ≤ 4095) && decide (24000 ≤ rate) && decide (rate ≤ 240000)
    && decide (rate * lines ≤ 96000000)

/-- TYPE and geometry are valid, and a GEOMETRY word is for line 0 (R61, R75). -/
def BeatWord.formOk (w : BeatWord) : Bool :=
  (w.type == 1 || w.type == 2) && geometryOk w.lines w.rate && decide (w.line < w.lines) && (w.type != 2 || w.line == 0)

/-- A candidate is accepted (R61). -/
def BeatWord.accepted (w : BeatWord) : Bool := w.crcOk && w.formOk

/-- A word's reading under normal or inverted polarity: none where it does not begin with SYNC (R61, R63). -/
def readWord (bits128 : Nat) (inverted : Bool) : Option BeatWord :=
  let v := if inverted then 2 ^ 128 - 1 - bits128 else bits128
  if v / 2 ^ 112 = 0xE4B1 then some (beatWord v) else none

/-- Stamp (frame, line) is the successor of (f, l) when the frame has `lines` lines (R65). -/
def isSuccessor (f l lines frame line : Nat) : Bool :=
  (frame == f && line == l + 1) || (l + 1 == lines && frame == (f + 1) % 2 ^ 32 && line == 0)

/-- Bit times in ps: 4 and 112 bit times at 12.288 Mb/s (R52, R56, R64). -/
def bit4 : Nat := 325520
def bit112 : Nat := 9114583
/-- The lockout of R61 counts received bits, and the line runs within 100 ppm of the TCXO's scale (R52): a candidate that begins
127 bits after another comes within 10,336,360 ps, one that begins 128 bits after it no earlier than 10,415,624 ps. The middle
tells them apart (DEDUCED, log 68). -/
def bitLockout : Nat := 10375976

/-! ### Counters and detectors (R87) -/

/-- A beat counter goes up. -/
def State.beatCount (s : State) (sub : Nat) : State := s.bump32 0x2102 sub

/-! ### Sessions at the limit (R70) -/

/-- Every OPEN session becomes SUSPENDED, and its frames complete with BEAT_LOST. -/
def State.suspendAll (s : State) (det : Nat) : State :=
  let open_ := (s.sessions.cells.filter fun c => c.2.st == .opened).map Prod.fst
  let s1 := { s with sessions := s.sessions.mapVals fun _ x =>
    if x.st = .opened then { x with st := .suspended, resume := false } else x }
  each open_ (fun x k => each (x.framesOf k) (fun y f => y.frameDone f .beatLost det) x) s1

/-- HOLDOVER has reached its limit: LOST, with the effects of R70. -/
def State.limitReached (s : State) : State :=
  (((({ s with beat := { s.beat with lock := .lost } }).beatCount 0xC).fire 0x0905 0 0).suspendAll 0x0905).emcy 0xFF11 0x0905

/-! ### Lock (R62, R63, R68, R71, R73) -/

/-- The mean of intervals, truncated. -/
def meanOf (l : List Nat) : Nat := if l.isEmpty then 0 else l.sum / l.length

/-- A signed value held to 32 bits. -/
def sat32 (i : Int) : BitVec 32 := BitVec.ofInt 32 (max (-(2 ^ 31)) (min (2 ^ 31 - 1) i))

/-- Detector, counter, flag and EMCY of a lock on inverted polarity (R63). -/
def State.polarityReport (s : State) (inverted : Bool) : State :=
  if inverted then ((s.beatCount 9).fire 0x0903 0 0).emcy 0xFF13 0x0903 else s

/-- `k` local boundaries at once and in order (R71). -/
def boundariesAtOnce (at_ : Nat) : Nat → State → State
  | 0, s => s
  | k + 1, s => boundariesAtOnce at_ k (s.localBoundary at_)

/-- Lock on the third candidate `c`, with the two intervals of the run (R62). The anchor, geometry and polarity are
adopted at the decision; a relock reconciles the counts (R71), and the budgets follow a geometry that is not the one in force
(R174, R214). After a relock that finds the local count ahead the tick counts on from the local boundary, and holds at 0xFFFF
while boundaries are held back: DESIGN CHOICE, log 69. -/
def State.lockOn (s : State) (c : Candidate) (i1 i2 : Nat) : State :=
  let b := s.beat
  let first := !b.everLocked
  let nh := b.n
  let nr : Int := if first then (c.frame * c.lines + c.line : Nat)
    else b.n0 + frameDiff c.frame b.f0 * (c.lines : Int) + (c.line : Int)
  let period := meanOf [i1, i2]
  let local_ := s.tick
  let since := if period = 0 then 0 else (s.now - c.at_) * 65536 / period
  let offset := ((nh : Int) - nr) * 65536 + (local_ : Int) - (since : Int)
  let behind := !first && decide (nr < (nh : Int))
  let b1 := { b with
    lock := .locked, inverted := c.inverted, everLocked := true, holdover := false
    srcHoldover := bit c.flags 0, srcTest := bit c.flags 1, source := c.source
    lines := c.lines, rate := c.rate, n0 := nr - (c.line : Int), f0 := c.frame
    n := if first then nr.toNat else nh
    boundaryAt := c.at_, prevAt := c.at_ - i2, tickAt := if behind then b.tickAt else c.at_
    lastGoodAt := c.at_, intervals := [i2, i1], curGood := true, prevGood := true, period := period
    decided := true, badRun := 0, run := [], held := if behind then (nh - nr).toNat else 0
    relock := if first then b.relock else sat32 offset }
  let s1 := ({ s with beat := b1 }).beatCount 8
  let s2 := if first then s1 else
    let s3 := boundariesAtOnce c.at_ (nr - (nh : Int)).toNat s1
    let s4 := if nr = (nh : Int) then s3 else (s3.beatCount 0xA).fire 0x0906 0 0
    s4.emcy 0xFF12 0
  let s5 := { s2 with beat := { s2.beat with lockN := s2.beat.n } }
  let s6 := s5.polarityReport c.inverted
  if c.lines = b.lines ∧ c.rate = b.rate then s6 else s6.rebudget.demandCheck

/-- An accepted candidate joins or restarts the run of the search (R62). -/
def State.searchCandidate (s : State) (c : Candidate) : State :=
  let put := fun (r : List Candidate) (x : State) => { x with beat := { x.beat with run := r, lastFirstBit := some c.at_ } }
  match s.beat.run with
  | [] => put [c] s
  | last :: more =>
    if isSuccessor last.frame last.line last.lines c.frame c.line = false then put [c] (s.beatCount 5)
    else if last.inverted ≠ c.inverted then put [c] s
    else match more with
      | [] => put [c, last] s
      | a :: _ =>
        let i1 := last.at_ - a.at_
        let i2 := c.at_ - last.at_
        if i1 ≤ i2 + bit4 ∧ i2 ≤ i1 + bit4 then (put [] s).lockOn c i1 i2 else put [c] s

/-- A word in SEARCH, HOLDOVER or LOST: a candidate of either polarity, or of the forced one (R61, R63). -/
def State.searchWord (s : State) (v boundary : Nat) : State :=
  let b := s.beat
  let near := match b.lastFirstBit with
    | some t => decide (boundary < t + bitLockout)
    | none => false
  if near then s else
    let pick := match readWord v false with
      | some w => some (w, false)
      | none => (readWord v true).map fun w => (w, true)
    match pick with
    | none => s
    | some (w, inv) =>
      if (b.polMode = 1 ∧ inv = true) ∨ (b.polMode = 2 ∧ inv = false) then s.beatCount 3
      else if w.crcOk = false then s.beatCount 2
      else if w.formOk = false then (s.beatCount 4).fire 0x0907 0 0
      else
        let c : Candidate := ⟨w.frame, w.line, w.lines, w.rate, w.source, w.flags, inv, boundary⟩
        s.searchCandidate c

/-! ### While LOCKED (R64 to R68, R75, R374) -/

/-- The TCXO's offset from the beat line in ppb (0x2940:04). -/
def Beat.offset (b : Beat) : Int :=
  (((b.period * b.rate * b.lines : Nat) : Int) - 10 ^ 15) * 10 ^ 9 / 10 ^ 15

/-- The collar compares the TCXO with the line; beyond 50 ppm detector 0x0B03 fires, once for each crossing. With the
TCXO lost there is no offset (R374). -/
def State.offsetCheck (s : State) : State :=
  if s.power.internalOsc then { s with power := { s.power with offset := none } } else
    let o := s.beat.offset
    let was := match s.power.offset with
      | some p => decide (50000 < p.natAbs)
      | none => false
    let s1 := { s with power := { s.power with offset := some o } }
    if 50000 < o.natAbs ∧ was = false then s1.fire 0x0B03 0 0 else s1

/-- Loss of lock (R67): HOLDOVER, or LOST with the effects of R70 while the reference is lost (R374), and the holdover flag. The
polarity flag keeps the last lock's polarity until the next lock: DESIGN CHOICE, log 70. -/
def State.loseLock (s : State) : State :=
  let lost := s.power.internalOsc
  let b := { s.beat with lock := if lost then .lost else .holdover, holdover := true, badRun := 0, run := [], polMode := s.setting 0x2103 3 }
  let s1 := (((({ s with beat := b }).beatCount 7).fire 0x0904 0 0)).emcy 0xFF10 0x0904
  if lost then (s1.suspendAll 0x0904).emcy 0xFF11 0x0904 else s1

/-- One fault of a word is counted and fires its detector, 0 none. -/
def State.wordFault (s : State) (f : Nat × Nat) : State :=
  let s1 := s.beatCount f.1
  if f.2 = 0 then s1 else s1.fire f.2 0 0

/-- A bad word toward the run of R67, with its faults: counter and detector. While the carrier is absent it counts toward
nothing else (R53). -/
def State.badWord (s : State) (faults : List (Nat × Nat)) : State :=
  let s1 := if s.beat.carrier then each faults State.wordFault s else s
  let s3 := { s1 with beat := { s1.beat with decided := true, badRun := s1.beat.badRun + 1 } }
  (if 4 ≤ s3.beat.badRun then s3.loseLock else s3).offsetCheck

/-- A good word (R64, R68, R75): the boundary moves to its instant, the run resets, a new geometry comes in. -/
def State.goodWord (s : State) (w : BeatWord) (boundary : Nat) : State :=
  let b := s.beat
  let newGeo := !(w.lines == b.lines && w.rate == b.rate)
  let iv := if newGeo then [] else if b.prevGood then ((boundary - b.prevAt) :: b.intervals).take 256 else b.intervals
  let b1 := { b with
    srcHoldover := bit w.flags 0, srcTest := bit w.flags 1, lines := w.lines, rate := w.rate
    boundaryAt := boundary, tickAt := if b.held = 0 then boundary else b.tickAt, lastGoodAt := boundary
    curGood := true, decided := true, badRun := 0, intervals := iv, lastFirstBit := some boundary
    n0 := if newGeo then (b.n : Int) - (b.held : Int) else b.n0, f0 := if newGeo then w.frame else b.f0 }
  let b2 := { b1 with period := if newGeo then b1.nominal else if iv.isEmpty then b.period else meanOf iv }
  let s1 := (({ s with beat := b2 }).beatCount 1).offsetCheck
  if newGeo then s1.rebudget.demandCheck else s1

/-- A word's TYPE, geometry or line is invalid, or a LINE word carries another geometry (R61, R74, R75). -/
def Beat.invalid (b : Beat) (w : BeatWord) : Bool :=
  !w.formOk || ((w.lines != b.lines || w.rate != b.rate) && w.type != 2)

/-- A word's stamp or SOURCE is not that of the boundary in force (R65). -/
def Beat.mismatch (b : Beat) (w : BeatWord) : Bool :=
  w.frame != bits b.received 63 32 || w.line != bits b.received 31 16 || w.source != b.source

/-- The interval that a word would close differs by more than 0.1 % from the nominal line period (R66). -/
def Beat.offPeriod (b : Beat) (boundary : Nat) : Bool :=
  let elapsed := boundary - b.prevAt
  decide (b.nominal < (elapsed - b.nominal) * 1000) || decide (b.nominal < (b.nominal - elapsed) * 1000)

/-- The faults of a word in the window, each with its counter of 0x2102 and its detector, 0 none (R64 to R66, R74, R75). A word
whose CRC is right has every fault whose condition it meets, as R65 says of every CRC-valid word with another stamp
(DEDUCED, log 71). -/
def Beat.wordFaults (b : Beat) (v boundary : Nat) : List (Nat × Nat) :=
  match readWord v b.inverted with
  | none => [(3, 0x0901)]
  | some w =>
    if w.crcOk = false then [(2, 0x0901)]
    else (if b.invalid w then [(4, 0x0907)] else []) ++ (if b.mismatch w then [(5, 0)] else [])
      ++ (if b.offPeriod boundary then [(6, 0x0908)] else [])

/-- A word in the window of the boundary in force (R64). Accepted, it begins the lockout of R61, be it good or bad. -/
def State.lockedWord (s : State) (v boundary : Nat) : State :=
  let b := s.beat
  if boundary + bit4 < b.boundaryAt ∨ b.boundaryAt + bit4 < boundary ∨ b.decided = true then s else
    match readWord v b.inverted, b.wordFaults v boundary with
    | some w, [] => s.goodWord w boundary
    | some w, fs =>
      (if w.accepted then { s with beat := { b with lastFirstBit := some boundary } } else s).badWord fs
    | none, fs => s.badWord fs

/-- BEAT_WORD_DECIDE (R56): a word whose bit-112 transition fell at `boundary` is decided 112 bit times later. -/
def execBeatWordDecide (bits128 : BitVec 128) (boundary : Nat) (s : State) : Host.Outcome State Fault Refusal :=
  whenSettled (s.beat.carrier && !s.up.inReset) s <|
    let s1 := s.advanceTo (boundary + bit112)
    if s.beat.lock = .locked then s1.lockedWord bits128.toNat boundary else s1.searchWord bits128.toNat boundary

/-- BEAT_WINDOW_CLOSE (R64, R67): the window closes with no good word, and the word counts as bad. -/
def execBeatWindowClose (s : State) : Host.Outcome State Fault Refusal :=
  whenSettled (s.beat.lock == .locked && !s.beat.decided) s <|
    (s.advanceTo (s.beat.boundaryAt + bit4)).badWord [(3, 0x0901)]

/-- CARRIER_ABSENT (R53): once for each absence, detector 0x0902 and counter 0x2102:0B. An input that has had no carrier since
power-up is in no new absence: the command then has no effect (DESIGN CHOICE, log 5). -/
def execCarrierAbsent (s : State) : Host.Outcome State Fault Refusal :=
  whenDue (s.beat.carrier && !s.up.inReset) s <|
    ((({ s with beat := { s.beat with carrier := false } }).beatCount 0xB).fire 0x0902 0 0)

/-- CARRIER_RETURN (R53): the absence ends and the carrier-present flag is set. -/
def execCarrierReturn (s : State) : Host.Outcome State Fault Refusal :=
  whenDue (!s.beat.carrier && !s.up.inReset) s { s with beat := { s.beat with carrier := true } }

/-- HOLDOVER_LIMIT (R70): elapsed holdover reaches the limit. -/
def execHoldoverLimit (s : State) : Host.Outcome State Fault Refusal :=
  whenSettled (s.beat.lock == .holdover) s <|
    (s.advanceTo (s.beat.lastGoodAt + s.setting 0x2103 1 * psMs)).limitReached

/-- Effect of holdoverLimitWrite once its access has passed checks 1 to 5. -/
def fxHoldoverLimitWrite (v : W16) : Effect := fun x =>
    if 10000 < v.toNat then .error 0x06090031
    else
      let y := x.putCell 0x2103 1 v.toNat
      .ok (if x.beat.lock = .holdover ∧ x.beat.lastGoodAt + v.toNat * psMs ≤ x.now then y.limitReached else y)

/-- HOLDOVER_LIMIT_WRITE (R70, R87): the new limit applies to the elapsed holdover at once. -/
def execHoldoverLimitWrite (path : Path) (v : W16) (s : State) : Host.Outcome State Fault Refusal :=
  s.odWriteSettled path 0x2103 1 (fxHoldoverLimitWrite v)

end Sys2Proof.Machine
end

