-- ==== Sys2Proof/Machine/Host.lean ====
section
/-! DEFINITION. Commands of the host ports and rings (06): links, BAR2, the tile aperture, registers, doorbells, list
descriptors and the beginning of entries. -/

namespace Sys2Proof.Machine

/-! ### Links and resets (R176, R179, R395) -/

/-- What R176 fixes of each function: class code, the limits of a payload and of a read request in bytes, the sizes of BAR0 and
of the BAR2 choices as log2, which BARs are prefetchable, the MSI-X vectors, and the features that there are not. -/
structure PciFunction where
  classCode : Nat
  maxPayload : Nat
  maxReadRequest : Nat
  bar0Log : Nat
  bar0Prefetchable : Bool
  bar2Min : Nat
  bar2Max : Nat
  bar2Prefetchable : Bool
  bar2Resizable : Bool
  vectors : Nat
  bar4 : Bool
  ioSpace : Bool
  srIov : Bool
  intx : Bool
  msi : Bool
  aer : Bool
  flr : Bool
  deriving DecidableEq, Repr

/-- HOSTA and HOSTB alike (R176, R181). -/
def pciFunction : PciFunction :=
  { classCode := 0x120000, maxPayload := 512, maxReadRequest := 4096, bar0Log := 26, bar0Prefetchable := false, bar2Min := 30
    bar2Max := 40, bar2Prefetchable := true, bar2Resizable := true, vectors := 2048, bar4 := false, ioSpace := false
    srIov := false, intx := false, msi := false, aer := true, flr := true }

/-- FUNCTION_LEVEL_RESET (R179): detector 0x0702 fires and the function is fenced as an owner; from here no record is
written to its rings, and OWNER_FENCE disables them and ends its jobs at the boundary that R404 names (log 14). -/
def execFunctionLevelReset (f : Fn) (s : State) : Host.Outcome State Fault Refusal :=
  let h := s.host f
  whenSettled h.up s <|
    ((s.setHost f { h with flr := true }).fire 0x0702 (fnNum f) 6).suspect (.owner 1 (fnNum f)) 0x0702

/-- A function's link drops: detector 0x0701 fires and the function is fenced as by an FLR (R179). -/
def State.linkDrop (s : State) (f : Fn) : State :=
  let h := s.host f
  if h.up then
    ((s.setHost f { h with up := false, gen := 0, width := 0 }).fire 0x0701 (fnNum f) 6).suspect
      (.owner 1 (fnNum f)) 0x0701
  else s

/-- HOST_LINK_DOWN (R179): the link drops with detector 0x0701, and the function is fenced as by an FLR. -/
def execHostLinkDown (f : Fn) (s : State) : Host.Outcome State Fault Refusal :=
  whenSettled (s.host f).up s (s.linkDrop f)

/-- HOST_LINK_UP (R395): with its domain ON the link trains at a generation and width of R176, and the host takes one of the
BAR2 sizes advertised, 1 GiB up to the limit of 0x2500:04 as it stands at this link reset (R181, R218). -/
def execHostLinkUp (f : Fn) (gen : BitVec 4) (link : HostLink) (s : State) : Host.Outcome State Fault Refusal :=
  let h := s.host f
  let g := gen.toNat
  let w := link.width.toNat
  whenSettled (!h.up && (s.domainOf (17 + fnNum f)).st == .on && decide (1 ≤ g) && decide (g ≤ 5)
      && (w == 1 || w == 2 || w == 4 || w == 8 || w == 16) && decide (pciFunction.bar2Min ≤ link.bar2)
      && decide (link.bar2 ≤ s.setting 0x2500 4)) s <|
    (s.setHost f { h with up := true, gen := g, width := w, bar2Log := link.bar2 }).clocksFresh [256 + 2 * fnNum f, 257 + 2 * fnNum f]

/-- PCIE_UNCORRECTABLE_ERROR (R176): AER logs it and detector 0x0707 fires. -/
def execPcieUncorrectableError (f : Fn) (s : State) : Host.Outcome State Fault Refusal :=
  whenDue (s.host f).up s ((s.setHost f { s.host f with aer := true }).fire 0x0707 (fnNum f) 0)

/-! ### BAR2 (R153, R154, R181, R395) -/

/-- An answer of the block to a host access. -/
def State.send (s : State) (o : Output) : State := { s with out := s.out ++ [o] }

/-- BAR2_BASE with its bits below the BAR2 size at zero (R181). -/
def HostFn.base (h : HostFn) : Nat := h.bar2Base / 2 ^ h.bar2Log * 2 ^ h.bar2Log

/-- Every segment of a tier 1 range has its DRAM in service. -/
def State.dramUp (s : State) (a n : Nat) : Bool := (segsIn a n).all fun g => s.dram.get false g

/-- Bytes of an access. -/
def accLen : HostAcc → Nat
  | .read n => n
  | .write d _ => d.length

/-- An access is one request of the link: no larger than R176 allows. -/
def accFits : HostAcc → Bool
  | .read n => decide (1 ≤ n) && decide (n ≤ pciFunction.maxReadRequest)
  | .write d _ => decide (1 ≤ d.length) && decide (d.length ≤ pciFunction.maxPayload)

/-- BAR2_ACCESS (R181): offset o reaches tier 1 at BAR2_BASE + o, under no job key. A range out of service gives a
Completer Abort (R395), a read that meets an uncorrectable word a poisoned completion with 0x0708 and a suspect segment
(R401, log 26), a poisoned write nothing. -/
def execBar2Access (f : Fn) (off : Nat) (acc : HostAcc) (upsets : List TierUpset) (s : State) :
    Host.Outcome State Fault Refusal :=
  let h := s.host f
  let a := h.base + off
  whenDue (h.up && decide (off + accLen acc ≤ 2 ^ h.bar2Log) && decide (a + accLen acc ≤ tier1Size) && accFits acc) s <|
    let s1 := s.tierStrike upsets
    if s1.dramUp a (accLen acc) = false then s1.send (.completerAbort f) else
    match acc with
    | .read n =>
      let bad := s1.tierBad a n
      let s2 := s1.tierRead a n
      let s3 := if bad then (each ((s1.tierErrors a n true).map fun w => segOf (w * 8)) (fun x g => x.suspect (.dram g) 0x0502)
          s2).fire 0x0708 (fnNum f) 0 else s2
      s3.send (.hostRead f (s1.tier1.readBytes a n) bad)
    | .write d poisoned => if poisoned then s1 else s1.tierWrite a d

/-! ### The tile aperture (R182) -/

/-- An aperture access is rejected with Completer Abort and detector 0x0709. -/
def State.aperReject (s : State) (f : Fn) : State := (s.fire 0x0709 (fnNum f) 0).send (.completerAbort f)

/-- APERTURE_ACCESS (R182): an external access to the tile of APER_SEL for the job of APER_JOB. It is rejected when the
selection is not valid, the tile lies outside the job's region, the offset is reserved, a write meets an attached window
(R221), or the access leaves its store or meets a powered-down bank (log 16). At a fenced tile it goes to the discard
sink (R411). -/
def execApertureAccess (f : Fn) (off : Nat) (acc : HostAcc) (s : State) : Host.Outcome State Fault Refusal :=
  let h := s.host f
  let n := accLen acc
  let x := tileLx h.aperSel
  let y := tileLy h.aperSel
  let due := h.up && decide (off + n ≤ 0x400000) && accFits acc
  match s.wafer.phys x y with
  | none => whenDue due s (s.aperReject f)
  | some k =>
    let isWrite := match acc with
      | .read _ => false
      | .write _ _ => true
    if h.aperValid = false ∨ (s.jobOf h.aperJob).st = .free ∨ (s.jobOf h.aperJob).region.has x y = false
        ∨ offReserved off = true ∨ windowRange off n = false ∨ (s.tileOf k).rangeOff off n = true
        ∨ (isWrite = true ∧ s.inWindow k off n = true) then whenDue due s (s.aperReject f)
    else if s.fencedAt k then
      whenDue due s <| match acc with
        | .read n => ((s.discard n).drawBytes n).send (.hostRead f (s.freeBytes n) false)
        | .write d _ => s.discard d.length
    else
      if due && s.extWaits k off n then .next (s.extStall k off n)
      else whenDue due s <| match acc with
        | .read n => (s.extReadEffect k off n).send (.hostRead f (s.extBytes k off n) false)
        | .write d poisoned => if poisoned then s else s.extWrite k off d

/-! ### Registers (R180, R183, R217, R343) -/

/-- A ring's register at an offset of its block. -/
def Ring.word (r : Ring) (isCq : Bool) (reg : Nat) : Nat :=
  match reg with
  | 0 => r.base % 2 ^ 32
  | 4 => r.base / 2 ^ 32
  | 8 => r.log2 + r.cq * 2 ^ 5 + fnNum r.owner * 2 ^ 13 + flag r.error * 2 ^ 14 + r.vector * 2 ^ 16 + flag r.enable * 2 ^ 31
  | 0xC => r.producer
  | 0x10 => r.consumer
  | 0x14 => if isCq then r.reserved else 0
  | _ => 0

/-- A function's global register at an offset (R217), STAMP_LO apart. -/
def State.globalWord (s : State) (f : Fn) (off : Nat) : Nat :=
  let h := s.host f
  match off with
  | 0 => 0x00018448
  | 4 => fnNum f + flag (s.host (match f with
      | .hostA => .hostB
      | .hostB => .hostA)).up * 2
  | 8 => s.level
  | 0xC => h.base % 2 ^ 32
  | 0x10 => h.base / 2 ^ 32
  | 0x14 => h.evCq + h.evEng * 2 ^ 8 + flag h.evEnable * 2 ^ 31
  | 0x18 => h.aperSel + flag h.aperValid * 2 ^ 31
  | 0x1C => h.aperJob
  | 0x24 => h.stampHi
  | _ => 0

/-- A mailbox register (R343). GO reads 0. -/
def Mailbox.word (b : Mailbox) (off : Nat) : Nat :=
  match off with
  | 0 => b.cmd
  | 4 => b.len
  | 8 => b.offset
  | 0xC => flag b.busy + flag b.done * 2 + flag b.aborted * 4 + flag b.remain * 8
  | 0x10 => b.code
  | 0x14 => b.vector + flag b.vectorEnable * 2 ^ 31
  | _ => 0

/-- The dword at a BAR0 offset (R180): rings, global registers, the MSI-X table and its pending bits, the mailbox and its
buffer. Reserved ranges read zero. -/
def State.bar0Word (s : State) (f : Fn) (off : Nat) : Nat :=
  let box := match f with
    | .hostA => s.boxA
    | .hostB => s.boxB
  if 0x200000 ≤ off ∧ off < 0x200000 + 5 * 0x40000 then
    let o := (off - 0x200000) % 0x40000
    let k := (off - 0x200000) / 0x40000 * 256 + o % 0x20000 / 0x40
    if 0x4000 ≤ o % 0x20000 then 0
    else if o < 0x20000 then (s.sqOf k).word false (o % 0x40) else (s.cqOf k).word true (o % 0x40)
  else if 0x400000 ≤ off ∧ off < 0x408000 then
    let d := (off - 0x400000) / 4
    s.msix.get (if d % 4 = 3 then 1 else 0) (fnNum f * 8192 + d)
  else if 0x408000 ≤ off ∧ off < 0x408100 then
    ((List.range 32).map fun i => if s.pba.get false (fnNum f * 2048 + (off - 0x408000) * 8 + i) then 2 ^ i else 0).sum
  else if 0x2010000 ≤ off ∧ off < 0x2020000 then leNat (pad 4 (box.buf.drop (off - 0x2010000)))
  else if 0x2000000 ≤ off ∧ off < 0x2010000 then box.word (off - 0x2000000)
  else s.globalWord f off

/-- An offset that this row does not read: the tile aperture and the mirror have rows of their own, and the management window
is out of reach without the hem ring (R341). -/
def State.otherRow (s : State) (off : Nat) : Bool :=
  (decide (0x800000 ≤ off) && decide (off < 0xC00000)) || (decide (0x2100000 ≤ off) && decide (off < 0x2F80000))
    || (decide (0x2000000 ≤ off) && decide (off < 0x3000000) && !s.hemRing)

/-- STAMP_LO_READ (R180, R217): a 32-bit read of BAR0. At 0x20, STAMP_LO, the low half of the beat stamp is returned and the high
half is latched; at another offset, which has no row of its own, the register there is returned (log 18). A doorbell reads a
value that no rule states: a free value. -/
def execStampLoRead (rd : Bar0Read) (s : State) : Host.Outcome State Fault Refusal :=
  let f := rd.fn
  let off := rd.off
  let st := s.stamp
  whenDue ((s.host f).up && off % 4 == 0 && decide (off < 0x4000000) && !s.otherRow off) s <|
    if off = 0x20 then (s.setHost f { s.host f with stampHi := st / 2 ^ 32 }).send (.hostRead f (natLe 4 st) false)
    else if 0x1000000 ≤ off ∧ off < 0x1000000 + 5 * 0x200000 then (s.drawBytes 4).send (.hostRead f (s.freeBytes 4) false)
    else s.send (.hostRead f (natLe 4 (s.bar0Word f off)) false)

/-- A ring's configuration is written while the ring is enabled: ignored, counted, detector 0x070A (R183). -/
def State.configIgnored (s : State) (f : Fn) : State := (s.bump64 0x2501 8).fire 0x070A (fnNum f) 0

/-- The fields of the register at offset 0x08, for a submission or a completion ring. -/
def Ring.fields (r : Ring) (isCq : Bool) (v : Nat) : Ring :=
  { r with
    log2 := bits v 4 0
    cq := if isCq then 0 else bits v 12 5
    owner := fnOf (bits v 13 13)
    vector := if isCq then bits v 26 16 else 0 }

/-- A write to a ring's register at `reg` (R183). Before service level 1 a write that sets ENABLE is ignored and counted (R395),
and counted as R183 says besides when the ring is enabled. A size outside 2 to 16 does not enable the ring (log 17). -/
def State.ringWrite (s : State) (f : Fn) (isCq : Bool) (r : Ring) (reg v : Nat) (put : Ring → State → State) : State :=
  match reg with
  | 0 => if r.enable then s.configIgnored f
         else put { r with base := r.base / 2 ^ 32 * 2 ^ 32 + v / 4096 * 4096 } s
  | 4 => if r.enable then s.configIgnored f
         else put { r with base := bits v 7 0 * 2 ^ 32 + r.base % 2 ^ 32 } s
  | 8 =>
    let on := bit v 31
    let early := on && s.up.level == 0
    let s := if early then s.putCell 0x2A00 0xB ((s.cell 0x2A00 0xB + 1) % 2 ^ 32) else s
    if r.enable ∧ on then s.configIgnored f
    else if early then s
    else
      let r1 : Ring := { r.fields isCq v with enable := false, error := false, armed := false }
      if on ∧ 2 ≤ r1.log2 ∧ r1.log2 ≤ 16 then
        put { r1 with enable := true, producer := 0, consumer := 0, reserved := 0, armed := isCq } s
      else put r1 s
  | _ => s

/-- Events dropped earlier are reported once the event ring has room: event 0xFF32 with their number (R190). -/
def State.droppedReport (s : State) (f : Fn) : State :=
  let h := s.host f
  let k := h.evEng * 256 + h.evCq
  if h.dropped ≠ 0 ∧ h.evEnable = true ∧ (s.cqOf k).enable = true ∧ (s.cqOf k).owner = f ∧ 0 < (s.cqOf k).freeSlots then
    s.event f 0xFF32 0x0706 s.stamp (natLe 4 h.dropped)
  else s

/-- A pending vector that is no longer masked is sent (R189, PCIe). -/
def State.vectorRelease (s : State) (f : Fn) (v : Nat) : State :=
  if s.pba.get false (fnNum f * 2048 + v) ∧ s.vectorMasked f v = false then
    ({ s with pba := s.pba.erase (fnNum f * 2048 + v) }).raise f v
  else s

/-- A write to a mailbox register (R343): ignored while BUSY. A write with GO set is the row of its OP, one to DONE that of
MAILBOX_DONE_CLEAR; neither changes anything here. -/
def Mailbox.regWrite (b : Mailbox) (off v : Nat) : Mailbox :=
  if b.busy then b else
    match off with
    | 0 => if bit v 31 then b else { b with cmd := bits v 27 0 }
    | 4 => { b with len := bits v 16 0 }
    | 8 => { b with offset := v }
    | 0x14 => { b with vector := bits v 10 0, vectorEnable := bit v 31 }
    | _ => b

/-- RING_CONFIG_WRITE (R183, R217, R343): a 32-bit write at a BAR0 offset: a ring's block, a global register, the MSI-X table or
a mailbox register, which have no row of their own (log 18). Other offsets ignore it (R180). -/
def execRingConfigWrite (f : Fn) (off : Nat) (v : W32) (s : State) : Host.Outcome State Fault Refusal :=
  let h := s.host f
  let n := v.toNat
  whenDue h.up s <|
    if 0x200000 ≤ off ∧ off < 0x200000 + 5 * 0x40000 then
      let e := (off - 0x200000) / 0x40000
      let o := (off - 0x200000) % 0x40000
      let k := e * 256 + o % 0x20000 / 0x40
      if o % 0x20000 < 0x4000 then
        if o < 0x20000 then s.ringWrite f false (s.sqOf k) (o % 0x40) n fun r x => { x with sq := x.sq.set k r }
        else (s.ringWrite f true (s.cqOf k) (o % 0x40) n fun r x => { x with cq := x.cq.set k r }).droppedReport f
      else s
    else if off = 0xC then s.setHost f { h with bar2Base := h.bar2Base / 2 ^ 32 * 2 ^ 32 + n / 2 ^ 30 * 2 ^ 30 }
    else if off = 0x10 then s.setHost f { h with bar2Base := bits n 7 0 * 2 ^ 32 + h.bar2Base % 2 ^ 32 }
    else if off = 0x14 then
      (s.setHost f { h with evCq := bits n 7 0, evEng := bits n 10 8, evEnable := bit n 31 }).droppedReport f
    else if off = 0x18 then s.setHost f { h with aperSel := bits n 14 0, aperValid := bit n 31 }
    else if off = 0x1C then s.setHost f { h with aperJob := bits n 9 0 }
    else if 0x400000 ≤ off ∧ off < 0x408000 ∧ off % 4 = 0 then
      let d := (off - 0x400000) / 4
      ({ s with msix := s.msix.set (fnNum f * 8192 + d) (if d % 4 = 3 then n % 2 else n) }).vectorRelease f (d / 4)
    else if 0x2000000 ≤ off ∧ off < 0x2010000 ∧ s.hemRing then
      match f with
      | .hostA => { s with boxA := s.boxA.regWrite (off - 0x2000000) n }
      | .hostB => { s with boxB := s.boxB.regWrite (off - 0x2000000) n }
    else s

/-! ### Doorbells (R178, R185, R187) -/

/-- A doorbell through the function that does not own the ring (R178). -/
def State.foreignDoorbell (s : State) (f : Fn) (e : Engine) (n : Nat) : State :=
  ((s.bump64 0x2501 4).fire 0x0705 (fnNum f) 0).event f 0xFF31 0x0705 s.stamp (natLe 1 (engNum e) ++ natLe 1 n)

/-- A submission ring goes into ERROR by a detector: cause 1 overrun, 2 unreadable (R185, R186). -/
def State.ringError (s : State) (e : Engine) (n cause : Nat) : State :=
  let k := ringKey e n
  let r := s.sqOf k
  let d := if cause = 1 then 0x0703 else 0x0704
  ((({ s with sq := s.sq.set k { r with error := true } }).bump64 0x2501 3).fire d (fnNum r.owner) 0).event r.owner
    0xFF30 d s.stamp (natLe 1 (engNum e) ++ natLe 1 n ++ natLe 1 cause)

/-- SQ_DOORBELL (R185): one 32-bit write sets the producer index; an occupancy beyond the ring puts it in ERROR. -/
def execSqDoorbell (f : Fn) (eng : Engine) (ring : Byte) (bytes : Nat) (v : W32) (s : State) :
    Host.Outcome State Fault Refusal :=
  let k := ringKey eng ring.toNat
  let r := s.sqOf k
  let s0 := s.setHost f { s.host f with rang := true }
  whenDue ((s.host f).up && bytes == 4) s <|
    if r.owner ≠ f then s0.foreignDoorbell f eng ring.toNat
    else if r.enable = false ∨ r.error = true ∨ v.toNat = r.producer then s0
    else if 2 ^ r.log2 < (v.toNat + 2 ^ 32 - r.consumer) % 2 ^ 32 then s0.ringError eng ring.toNat 1
    else { s0 with sq := s0.sq.set k { r with producer := v.toNat } }

/-- CQ_DOORBELL (R187): slots return and the ring is armed; a value beyond the producer index is ignored and counted. -/
def execCqDoorbell (f : Fn) (eng : Engine) (ring : Byte) (bytes : Nat) (v : W32) (s : State) :
    Host.Outcome State Fault Refusal :=
  let k := ringKey eng ring.toNat
  let r := s.cqOf k
  let s0 := s.setHost f { s.host f with rang := true }
  whenDue ((s.host f).up && bytes == 4) s <|
    if r.owner ≠ f then s0.foreignDoorbell f eng ring.toNat
    else if r.enable = false then s0
    else if r.used < (v.toNat + 2 ^ 32 - r.consumer) % 2 ^ 32 then
      ({ s0 with cq := s0.cq.set k { r with armed := true } }).bump64 0x2501 5
    else ({ s0 with cq := s0.cq.set k { r with armed := true, consumer := v.toNat } }).droppedReport f

/-! ### Descriptors (R186, R191, R195, R196) -/

/-- A list descriptor's fields and whether it breaks a check of R186 but that of the completion ring's size. -/
structure Descriptor where
  count : Nat
  list : Nat
  job : Nat
  key : Nat
  tc : Nat
  sb : Nat
  user : Nat
  bad : Bool
  deriving DecidableEq, Repr

/-- The descriptor at a tier 1 address, for a completion ring of 2^m slots (R186, R191). -/
def State.descriptorAt (s : State) (a m : Nat) : Descriptor :=
  let f := fun o n => s.tier1.readLe (a + o) n
  let c := f 4 2
  let l := f 8 8
  { count := c, list := l, job := f 0x10 2, key := f 0x14 4, tc := f 0x18 8, sb := f 0x20 8, user := f 0x28 8
    bad := f 0 4 != 1 || f 6 2 != 0 || f 0x12 2 != 0 || f 0x30 16 != 0 || c == 0 || decide (4096 < c)
      || decide (2 ^ m - 1 < c) || l % 64 != 0 || decide (tier1Size < l + 64 * c) }

/-- Headers of a list's entries. -/
def State.headersOf (s : State) (d : Descriptor) : List Nat := (List.range d.count).map fun i => s.tier1.readLe (d.list + 64 * i) 4

/-- A header is of a FRAME, of a JOPEN. -/
def isFrameHeader (h : Nat) : Bool := bits h 10 8 == 4 && bits h 7 0 == 6
def isJopenHeader (h : Nat) : Bool := bits h 10 8 == 0 && bits h 7 0 == 0x10

/-- The address of a ring's next descriptor. -/
def Ring.slotAddr (r : Ring) : Nat := r.base + r.consumer % 2 ^ r.log2 * 64

/-- A ring's next descriptor can be fetched: the ring is enabled, not in ERROR and not empty, its completion ring is
enabled under the same owner, and the slots it needs are free (R186). Nothing is fetched in a shutdown (R355). -/
def State.fetchable (s : State) (e n : Nat) : Bool :=
  let r := s.sqOf (e * 256 + n)
  let q := s.cqOf (e * 256 + r.cq)
  let d := s.descriptorAt r.slotAddr q.log2
  r.enable && !r.error && r.used != 0 && s.up.yoke && s.up.phase != .shutdown &&
    (s.tierBad r.slotAddr 64 ||
      (q.enable && q.owner == r.owner && decide ((if d.bad then 1 else 1 + d.count) ≤ q.freeSlots)))

/-- Round-robin: no ring between the one served last and this one can be fetched from (R186). -/
def State.ringTurn (s : State) (e n : Nat) : Bool :=
  let last := s.lastRing.get 255 e
  (List.range ((n + 255 - last) % 256)).all fun i => !s.fetchable e ((last + 1 + i) % 256)

/-- DESCRIPTOR_FETCH (R186): the descriptor is fetched and checked, its completion slots are reserved, and the list comes
into progress, or completes at once with BAD_COMMAND or KEY_REJECTED. -/
def execDescriptorFetch (eng : Engine) (ring : Byte) (s : State) : Host.Outcome State Fault Refusal :=
  let e := engNum eng
  let n := ring.toNat
  let k := ringKey eng n
  let r := s.sqOf k
  let cqk := e * 256 + r.cq
  let q := s.cqOf cqk
  let d := s.descriptorAt r.slotAddr q.log2
  whenDue (s.fetchable e n && s.ringTurn e n) s <|
    let s1 := { s.tierRead r.slotAddr 64 with lastRing := s.lastRing.set e n }
    if s.tierBad r.slotAddr 64 then (s1.ringError eng n 2).suspect (.dram (segOf r.slotAddr)) 0x0502
    else
      let slots := if d.bad then 1 else 1 + d.count
      let id := s.nextList
      let l : ListRun :=
        { eng := eng, ring := n, owner := r.owner, cq := cqk, job := d.job, key := d.key, user := d.user, addr := d.list
          count := if d.bad then 0 else d.count, tileCycles := d.tc, streamBytes := d.sb
          sqConsumer := (r.consumer + 1) % 2 ^ 32, slots := slots, next := 0, waiting := none, stopped := false
          entries := [] }
      let s2 := ({ s1 with
        sq := s1.sq.set k { r with consumer := (r.consumer + 1) % 2 ^ 32 }
        cq := s1.cq.set cqk { q with reserved := q.reserved + slots }
        lists := s1.lists.set id l
        nextList := id + 1 }).bump64 0x2501 2
      let hs := s.headersOf d
      let frames := (hs.filter isFrameHeader).length
      let j := s.jobOf d.job
      let open_ := match hs with
        | h :: _ => isJopenHeader h
        | [] => false
      if d.bad ∨ 1 < frames then s2.listEnd id .badCommand 0 0 0 s.stamp
      else if open_ = false ∧ (j.st = .free ∨ j.key ≠ d.key ∨ 1024 ≤ d.job) then s2.listEnd id .keyRejected 0 0 0 s.stamp
      else if frames = 0 then (s2.count 64 0x2503 6 d.tc).count 64 0x2503 7 d.sb
      else s2

/-! ### Entries (R192, R193) -/

/-- The operations that exist (R192, R201, R203, R205, R206, R278). -/
def opKnown (eng op : Nat) : Bool :=
  op == 0 || match eng with
  | 0 => op == 1 || op == 2 || op == 4 || op == 0x10 || op == 0x11
  | 1 => decide (op ≤ 5) || (decide (8 ≤ op) && decide (op ≤ 0xB))
  | 2 => decide (op ≤ 0xB)
  | 3 => decide (op ≤ 4)
  | 4 => decide (op ≤ 7)
  | _ => false

/-- An entry as its 64 bytes give it, just begun. -/
def entryNew (idx : Nat) (raw : List Byte) : EntryRun :=
  { idx := idx, raw := raw, status := none, det := 0, result := 0, slot := 0xFFFF, arg := 0, parts := 0, worst := .ok }

/-- The status of a request of job `j` on a failed unit (R199). -/
def Job.lossStatus (j : Job) : Status := if j.elastic then .regionLost else .jobAborted

/-- ENTRY_BEGIN (R193): the next entry is read and handed to its engine. A malformed header is refused with BAD_COMMAND;
an uncorrectable word fails the segment's DRAM and ends the list with the status of R199. -/
def execEntryBegin (list : Nat) (s : State) : Host.Outcome State Fault Refusal :=
  match s.lists.find list with
  | none => .next s
  | some l =>
    let a := l.addr + 64 * l.next
    let e := entryNew l.next (s.tier1.readBytes a 64)
    let due := l.waiting.isNone && !l.stopped && decide (l.next < l.count)
      && (!e.wait || l.entries.all fun x => x.status.isSome)
    whenDue due s <|
      let s1 := { s.tierRead a 64 with
        lists := s.lists.set list { l with next := l.next + 1, waiting := some l.next, entries := l.entries ++ [e] } }
      if s.tierBad a 64 then
        (s1.suspect (.dram (segOf a)) 0x0502).entryRefuse list l.next (s.jobOf l.job).lossStatus 0x0502
      else if bits (e.field 0 4) 15 13 ≠ 0 ∨ 5 ≤ e.engine ∨ opKnown e.engine e.op = false then
        s1.entryRefuse list l.next .badCommand 0
      else s1

/-- The entry `idx` of list `id` that waits for acceptance as operation `op` of engine `eng`. -/
def State.handed (s : State) (id idx eng op : Nat) : Option (ListRun × EntryRun) :=
  match s.lists.find id, s.entryOf id idx with
  | some l, some e => if l.waiting = some idx ∧ e.engine = eng ∧ e.op = op then some (l, e) else none
  | _, _ => none

/-- The conditions of a list's job that end every entry but JCLOSE (R196, R414). -/
def State.jobConds (s : State) (j : Nat) : List Status :=
  let q := s.jobOf j
  cond (q.st == .free) .keyRejected ++ cond (q.st == .aborted) (if q.fenced then .fenced else .jobAborted)

/-- What an engine does with the entry handed to it: with a condition it is refused with the status R22 gives, otherwise
its effect follows. -/
def State.accept (s : State) (id idx eng op : Nat) (conds : ListRun → EntryRun → List Status)
    (eff : ListRun → EntryRun → State → State) : Host.Outcome State Fault Refusal :=
  match s.handed id idx eng op with
  | none => .next s
  | some (l, e) =>
    let st := worst (s.jobConds l.job ++ conds l e)
    .next (if st = .ok then eff l e (s.entryAccept id idx) else s.entryRefuse id idx st 0)

/-- ENTRY_NOP (R192): OP 0x00 completes on any engine. -/
def execEntryNop (list idx : Nat) (s : State) : Host.Outcome State Fault Refusal :=
  match s.entryOf list idx with
  | none => .next s
  | some e => s.accept list idx e.engine 0 (fun _ e => cond (!e.restZero []) .badCommand)
      fun _ _ x => x.entryDone list idx .ok 0 0 0xFFFF

/-! ### Query (R218) -/

/-- The word of 0x2506:03 for a job. -/
def State.jobWord (s : State) (j : Nat) : Nat :=
  let q := s.jobOf j
  let st := match q.st with
    | .free => 0
    | .opened => 1
    | .aborted => 2
  st + flag q.elastic * 4 + flag q.flash * 8 + fnNum q.owner * 16
    + (s.sessions.cells.filter fun c => c.2.job == j && c.2.st != .free).length * 2 ^ 16 + q.key * 2 ^ 32

/-- Effect of jobQuery once its access has passed checks 1 to 5. -/
def fxJobQuery (v : W16) : Effect := fun x =>
    if 1024 ≤ v.toNat then .error outOfRange else .ok (x.putCells 0x2506 [(2, v.toNat), (3, x.jobWord v.toNat)])

/-- JOB_QUERY (R218): state, flags and key of the named job. -/
def execJobQuery (path : Path) (v : W16) (s : State) : Host.Outcome State Fault Refusal :=
  s.odWrite path 0x2506 2 (fxJobQuery v)

end Sys2Proof.Machine
end

