-- ==== Sys2Proof/Machine/Grid.lean ====
section
/-! DEFINITION. Commands of the GRID engine (06, 03, 04): program loads, task starts, copies, jobs. -/

namespace Sys2Proof.Machine

/-! ### Hem DMA channels (R412, R415) -/

/-- The lowest channel of a segment that nobody holds. -/
def State.dmaFree (s : State) (g : Nat) : Option Nat :=
  (List.range 32).find? fun c => match s.dma.find (g * 32 + c) with
    | none => true
    | some x => x.holder.isNone && !x.quarantined

/-- Every segment has a channel free. -/
def State.dmaReady (s : State) (segs : List Nat) : Bool := segs.dedup.all fun g => (s.dmaFree g).isSome

/-- An entry of a job takes a channel of each segment. -/
def State.dmaTake (s : State) (segs : List Nat) (id idx j : Nat) : State :=
  each segs.dedup (fun x g => match x.dmaFree g with
    | some c => { x with dma := x.dma.set (g * 32 + c) ⟨some (2, j), some (id, idx), none, false⟩ }
    | none => x) s

/-! ### Regions of entries (R19, R198, R403, R411) -/

/-- ORIGIN, WIDTH, HEIGHT of a PLOAD or TSTART. -/
def EntryRun.gridRegion (e : EntryRun) : Region := regionFrom (e.field 4 2) (e.field 6 1) (e.field 7 1)

/-- The conditions on the region of a GRID entry of job `j`. -/
def State.regionConds (s : State) (e : EntryRun) (j : Nat) : List Status :=
  let g := e.gridRegion
  cond (!originOk (e.field 4 2) || !s.wafer.regionOk g) .badCommand
    ++ cond (!(g.inside (s.jobOf j).region)) .keyRejected

/-- An entry that touches a failed unit ends at once with the status of R199 (R403). -/
def State.entryLost (s : State) (id idx j det : Nat) : State :=
  let st := (s.jobOf j).lossStatus
  (s.faultEnd st).entryEnd id idx st det

/-- The conditions on the `n` bytes at an address that must lie in tier 1, for job `j`: reserved addresses and tiles are
invalid, unreserved physical tile or register space no key covers (R19, R20, R198). -/
def State.tierConds (s : State) (a n j : Nat) : List Status :=
  match s.wafer.target a with
  | .tier1 _ => cond (decide (tier1Size < a + n)) .badCommand ++ cond (!(s.jobOf j).covers a n) .keyRejected
  | .firmware => cond (!s.wafer.rangeClear a n) .badCommand ++ [.keyRejected]
  | _ => [.badCommand]

/-- The detector behind a segment's loss. -/
def dramDet : Nat := 0x0502

/-! ### PLOAD (R110, R202) -/

/-- Source address of the image of the region's tile number `i`. -/
def EntryRun.image (e : EntryRun) (i : Nat) : Nat := e.field 0x10 8 + i * e.field 0x18 4
/-- W byte offset and bytes of a program. -/
def EntryRun.loadOff (e : EntryRun) : Nat := e.field 0xC 2 * 64
def EntryRun.loadLen (e : EntryRun) : Nat := e.field 0xE 2 * 64

/-- The tiles and images of a PLOAD. -/
def State.loads (s : State) (e : EntryRun) : List (Nat × Nat) :=
  (s.wafer.regionKeys e.gridRegion).zipIdx.map fun (x : Nat × Nat) => (x.1, e.image x.2)

/-- The segments that a PLOAD reads. -/
def State.loadSegs (s : State) (e : EntryRun) : List Nat := (s.loads e).flatMap fun x => segsIn x.2 e.loadLen

/-- Lines are written to a tile's W-store, but for those of an attached window, which only the tailoring unit writes
(R221). -/
def State.loadLines (s : State) (k off : Nat) (bs : List Byte) : State :=
  if s.inWindow k off bs.length then
    each (linesOf off bs.length) (fun x l =>
      if x.inWindow k (l * 64) 64 then x else x.storeWrite k .w (l * 64) ((bs.drop (l * 64 - off)).take 64)) s
  else s.storeWrite k .w off bs

/-- A program's lines are written to one tile as external writes; the program is resident with the grid's epoch (R110). -/
def State.loadTile (s : State) (k src off n : Nat) : State :=
  let s1 := s.tierRead src n
  let s2 := s1.loadLines k off (s.tier1.readBytes src n)
  s2.setTile k { s2.tileOf k with resident := true, epoch := s.wafer.epoch.toNat }

/-- The tiles of a PLOAD are served in order until one meets a powered-down bank (R137) or an uncorrectable word (R199). -/
def State.loadAll (id idx j off n : Nat) : List (Nat × Nat) → State → State
  | [], s => s
  | (k, src) :: r, s =>
    if (s.tileOf k).rangeOff off n then s.entryMap id idx fun e => { e with worst := .badCommand }
    else if s.tierBad src n then
      ((s.tierRead src n).suspect (.dram (segOf src)) dramDet).entryMap id idx fun e =>
        { e with worst := (s.jobOf j).lossStatus, det := dramDet }
    else State.loadAll id idx j off n r
      ((s.loadTile k src off n).entryMap id idx fun e => { e with result := e.result + 1 })

/-- PLOAD (R202): LINES lines go to every region tile from W line WLINE, after the epoch check of R110; refused against a
stale epoch with detector 0x0106, over an attached window (R221), and where R19 or R198 forbid the names. -/
def execPload (list idx : Nat) (s : State) : Host.Outcome State Fault Refusal :=
  match s.handed list idx 0 1 with
  | none => .next s
  | some (l, e) =>
    let j := l.job
    let keys := s.wafer.regionKeys e.gridRegion
    let ls := s.loads e
    let n := e.loadLen
    let stale := e.field 8 4 != s.wafer.epoch.toNat
    let st := worst (s.jobConds j ++ s.regionConds e j
      ++ cond (!e.restZero [(4, 2), (6, 1), (7, 1), (8, 4), (0xC, 2), (0xE, 2), (0x10, 8), (0x18, 4)]
          || decide (16384 * 64 < e.loadOff + n) || stale || keys.any fun k => s.inWindow k e.loadOff n) .badCommand
      ++ ls.flatMap fun x => s.tierConds x.2 n j)
    let s0 := if stale then s.fire 0x0106 (s.wafer.tileUnit (keys.headD 0)) 1 else s
    if st ≠ .ok then .next (s0.entryRefuse list idx st (if stale then 0x0106 else 0))
    else
      let a := s.entryAccept list idx
      let g := e.gridRegion
      let q := s.jobOf j
      let a1 := { a with jobs := a.jobs.set j { q with
        pload := some [e.field 0x10 8, e.field 0x18 4, e.loadOff, n, g.lx, g.ly, g.w, g.h] } }
      if keys.any s.fencedAt then .next (a1.entryLost list idx j (s.suspectTouchDet keys []))
      else if (s.loadSegs e).all (fun x => s.dram.get false x) = false then .next (a1.entryLost list idx j dramDet)
      else whenDue (!keys.any fun k => s.extWaits k e.loadOff n) s (a1.loadAll list idx j e.loadOff n ls)

/-- An accepted entry in progress, of an engine and operation. -/
def State.running (s : State) (id idx eng op : Nat) : Option (ListRun × EntryRun) :=
  match s.lists.find id, s.entryOf id idx with
  | some l, some e => if l.waiting ≠ some idx ∧ e.engine = eng ∧ e.op = op then some (l, e) else none
  | _, _ => none

/-- An entry that has done its work completes: with what went wrong, or with what a suspect unit it touches will give
(R404). -/
def State.entryFinish (s : State) (id idx j : Nat) (e : EntryRun) (keys segs : List Nat) : State :=
  let w := e.worst.worse (s.suspectStatus j keys segs)
  (s.faultEnd w).entryDone id idx w (if w = e.worst then e.det else s.suspectTouchDet keys segs) e.result 0xFFFF

/-- PLOAD_DONE (R202): every line has been written; RESULT gives the tiles served. -/
def execPloadDone (list idx : Nat) (s : State) : Host.Outcome State Fault Refusal :=
  match s.running list idx 0 1 with
  | none => .next s
  | some (l, e) => .next (s.entryFinish list idx l.job e (s.wafer.regionKeys e.gridRegion) (s.loadSegs e))

/-! ### TSTART (R112, R124, R131, R132, R135, R136, R202, R246) -/

/-- The 48-bit descriptor of region `n` of a TSTART. -/
def EntryRun.regionWord (e : EntryRun) (n : Nat) : Nat := e.field (0x28 + 6 * n) 6

/-- A region as its descriptor sets it, pointers at 0. -/
def regionOf48 (v : Nat) : RegionSt :=
  { base := bits v 13 0, size := bits v 28 14, store := bits v 30 29, producer := bits v 32 31
    releaseClears := bit v 33, enable := bit v 34, head := 0, tail := 0, hwrap := 0, twrap := 0 }

def EntryRun.regionSet (e : EntryRun) (n : Nat) : RegionSt := regionOf48 (e.regionWord n)

/-- Window of a store in a TSTART: BASE and LIMIT. -/
def EntryRun.window (e : EntryRun) : StoreSel → Nat × Nat
  | .w => (e.field 0x10 2, e.field 0x12 2)
  | .a => (e.field 0x14 2, e.field 0x16 2)
  | .p => (e.field 0x18 2, e.field 0x1A 2)
/-- Power-down mask of a store in a TSTART. -/
def EntryRun.pdMask (e : EntryRun) : StoreSel → Nat
  | .w => e.field 0x1C 2 | .a => e.field 0x1E 2 | .p => e.field 0x20 1

/-- POLICY [6:0], from 0x2301 when DEFAULTS is set (R144, R202). -/
def State.policyOf (s : State) (e : EntryRun) : Nat :=
  let v := e.field 0x21 1
  if bit v 7 then s.setting 0x2301 1 + s.setting 0x2301 3 * 2 + s.setting 0x2301 2 * 16 else bits v 6 0

/-- The three stores. -/
def stores : List StoreSel := [.w, .a, .p]

/-- A window is malformed (R124). -/
def EntryRun.windowBad (e : EntryRun) (st : StoreSel) : Bool :=
  let (b, l) := e.window st
  decide (l < b) || decide (storeLines st < l)

/-- A region is malformed, or lies partly outside its store's window (R124, R127): one of SIZE 0 lies nowhere. -/
def EntryRun.regionBad (e : EntryRun) (n : Nat) : Bool :=
  let g := e.regionSet n
  let (b, l) := e.window (selOf g.store)
  bits (e.regionWord n) 47 36 != 0 || g.store == 3 || g.producer == 3 ||
    (g.enable && g.size == 0) || (g.size != 0 && decide (l < b + g.base + g.size))

/-- Two enabled regions overlap (R124). -/
def RegionSt.overlaps (a b : RegionSt) : Bool :=
  a.enable && b.enable && a.store == b.store && decide (a.base < b.base + b.size) && decide (b.base < a.base + a.size)

/-- Some bank of a store from line `lo` up to `hi` is named in a mask. -/
def maskMeets (mask : Nat) (st : StoreSel) (lo hi : Nat) : Bool :=
  (List.range 16).any fun b => bit mask b && decide (b * bankLines st < hi) && decide (lo < (b + 1) * bankLines st)

/-- An enabled STREAM region lies in a bank that the start powers down (R136). -/
def EntryRun.streamOff (e : EntryRun) (n : Nat) : Bool :=
  let g := e.regionSet n
  let st := selOf g.store
  let (b, _) := e.window st
  g.enable && g.producer == 2 && maskMeets (e.pdMask st) st (b + g.base) (b + g.base + g.size)

/-- A tailoring window attached on the tile lies in a W bank that the start powers down (R136), or in an enabled W region
(R246). -/
def State.windowMeets (s : State) (k : Nat) (e : EntryRun) : Bool :=
  (s.tileOf k).ctxs.keys.any fun slot => match s.attach.find slot with
    | none => false
    | some a => maskMeets (e.pdMask .w) .w a.wbase a.wlimit || (List.range 4).any fun n =>
        let g := e.regionSet n
        let lo := (e.window .w).1 + g.base
        g.enable && g.store == 0 && decide (lo < a.wlimit) && decide (a.wbase < lo + g.size)

/-- The checks of a TSTART that its entry alone decides. -/
def EntryRun.startBad (e : EntryRun) : Bool :=
  stores.any e.windowBad || (List.range 4).any e.regionBad || (List.range 4).any e.streamOff ||
    (List.range 4).any fun a => (List.range a).any fun b => (e.regionSet a).overlaps (e.regionSet b)

/-- A region at a task start: pointers are kept unless the start resets them or changes the region (R131). -/
def RegionSt.atStart (old new : RegionSt) (reset : Bool) : RegionSt :=
  if reset || old.store != new.store || old.base != new.base || old.size != new.size || old.producer != new.producer
  then new
  else { new with head := old.head, tail := old.tail, hwrap := old.hwrap, twrap := old.twrap }

/-- The lines of the banks named in a mask are unwritten (R135). -/
def Tile.banksOff (t : Tile) (st : StoreSel) (mask : Nat) : Tile :=
  (List.range 16).foldl (fun x b =>
    if bit mask b then x.clearLines st (b * bankLines st) ((b + 1) * bankLines st) else x) t

/-- A core at a task start: at its entry address, or halted at 0xFFFF_FFFF (R112). -/
def CoreSt.start (c : CoreSt) (entry : Nat) : CoreSt :=
  if entry = 0xFFFFFFFF then { c with halted := true, event := false } else { c with pc := entry, halted := false, event := false }

/-- A task starts on a tile (R112, R131, R132, R135, R138). -/
def Tile.start (t : Tile) (e : EntryRun) (policy list j : Nat) (reset : Bool) : Tile :=
  let off := fun (x : Tile) st => x.banksOff st (e.pdMask st)
  let t1 := stores.foldl off t
  let t2 := { t1 with
    wBase := (e.window .w).1, wLimit := (e.window .w).2, aBase := (e.window .a).1, aLimit := (e.window .a).2
    pBase := (e.window .p).1, pLimit := (e.window .p).2, policy := policy
    pdW := e.pdMask .w, pdA := e.pdMask .a, pdP := e.pdMask .p
    regions := (List.range 4).foldl (fun r n =>
      r.set n ((t.regionOf n).atStart (e.regionSet n) (reset || bit (e.regionWord n) 35))) t.regions
    viol := 0, viol2 := 0, plane0 := none, plane1 := none, feeders := [], queue := []
    core0 := t.core0.start (e.field 8 4), core1 := t.core1.start (e.field 0xC 4)
    regs := ((t1.regs.set 0xC (e.field 8 4)).set 0x10 (e.field 0xC 4)).set 0x30 0
    task := some ⟨list, e.idx, j, none, none, 0⟩ }
  stores.foldl (fun x st => if t2.wclr st then x.clearLines st (t2.base st) (t2.limit st) else x) t2

/-- A task of a TSTART starts on a tile. -/
def State.startTask (s : State) (k : Nat) (e : EntryRun) (list j : Nat) (reset : Bool) : State :=
  s.setTile k ((s.tileOf k).start e (s.policyOf e) list j reset)

/-- TSTART (R202): one task starts on every region tile, or none where a check fails. It waits for instructions that an
earlier task issued (R138). -/
def execTstart (list idx : Nat) (s : State) : Host.Outcome State Fault Refusal :=
  match s.handed list idx 0 2 with
  | none => .next s
  | some (l, e) =>
    let j := l.job
    let keys := s.wafer.regionKeys e.gridRegion
    let st := worst (s.jobConds j ++ s.regionConds e j
      ++ cond (!e.restZero [(4, 2), (6, 1), (7, 1), (8, 4), (0xC, 4), (0x10, 0x12), (0x28, 0x18)] || e.startBad
          || keys.any fun k => (s.tileOf k).task.isSome || s.windowMeets k e) .badCommand)
    if st ≠ .ok then .next (s.entryRefuse list idx st 0)
    else
      let a := s.entryAccept list idx
      if keys.any s.fencedAt then .next (a.entryLost list idx j (s.suspectTouchDet keys []))
      else if keys.isEmpty then .next (a.entryDone list idx .ok 0 0 0xFFFF)
      else whenDue (keys.all fun k => (s.tileOf k).flights.isEmpty) s <|
        each keys (fun x k => x.startTask k e list j false)
          (a.entryMap list idx fun x => { x with parts := keys.length, result := keys.length })

/-! ### The restoring of a tile (R407, R411) -/

/-- The job whose region contains a tile, OPEN. -/
def State.jobAt (s : State) (k : Nat) : Option Nat :=
  match s.wafer.logical k with
  | none => none
  | some (x, y) => s.openJobs.find? fun j => (s.jobOf j).region.has x y

/-- The job's last PLOAD of the region is repeated for one tile, from the same source. -/
def State.reload (s : State) (k j : Nat) : State :=
  match (s.jobOf j).pload, s.wafer.logical k with
  | some [src, stride, off, n, lx, ly, w, h], some (x, y) =>
    let g : Region := ⟨lx, ly, w, h⟩
    if g.has x y then
      let a := src + ((y - ly) * w + (x - lx)) * stride
      if s.tierBad a n then (s.tierRead a n).suspect (.dram (segOf a)) dramDet else s.loadTile k a off n
    else s
  | _, _ => s

/-- A replacement or returned tile of an OPEN job is restored: its program is loaded again, and the TSTART that holds a
place for it starts a task with every region's pointers reset; the place of a TSTART that is over is given up. -/
def State.restoreTile (s : State) (k : Nat) : State :=
  match s.jobAt k with
  | none => s.setTile k { s.tileOf k with restart := none }
  | some j =>
    let s1 := s.reload k j
    let t := s1.tileOf k
    match t.restart with
    | none => s1
    | some (id, i) =>
      let s2 := s1.setTile k { t with restart := none }
      match s2.entryOf id i with
      | some e => s2.startTask k e id j true
      | none => s2

/-! ### COPY (R121, R126, R154, R199, R202, R221) -/

/-- The tile and window offset that a COPY address names. -/
def State.copyTile (s : State) (a : Nat) : Option (Nat × Nat) :=
  match s.wafer.target a with
  | .tile k off => some (k, off)
  | _ => none

/-- The conditions on one end of a COPY of `n` bytes for job `j`. -/
def State.copyConds (s : State) (a n j : Nat) : List Status :=
  match s.wafer.target a with
  | .tier1 _ => cond (decide (tier1Size < a + n)) .badCommand ++ cond (!(s.jobOf j).covers a n) .keyRejected
  | .tile k off =>
    cond (!windowRange off n || (s.tileOf k).rangeOff off n) .badCommand
      ++ cond (!((s.jobOf j).region.has (addrTile a).1 (addrTile a).2)) .keyRejected
  | .firmware => cond (!s.wafer.rangeClear a n) .badCommand ++ [.keyRejected]
  | .invalid => [.badCommand]

/-- A COPY would write a line of an attached window (R221). -/
def State.copyWindow (s : State) (a n : Nat) : Bool :=
  match s.copyTile a with
  | some (k, off) => s.inWindow k off n
  | none => false

/-- The bytes at one end of a COPY, and what reading them leaves. -/
def State.copyRead (s : State) (a n : Nat) : List Byte :=
  match s.copyTile a with
  | some (k, off) => s.extBytes k off n
  | none => s.tier1.readBytes a n
def State.copyReadEffect (s : State) (a n : Nat) : State :=
  match s.copyTile a with
  | some (k, off) => s.extReadEffect k off n
  | none => s.tierRead a n
/-- Bytes are stored at the other end. -/
def State.copyWrite (s : State) (a : Nat) (bs : List Byte) : State :=
  match s.copyTile a with
  | some (k, off) => s.extWrite k off bs
  | none => s.tierWrite a bs

/-- One end of a COPY meets a word of tier 1 that it cannot read, or cannot merge into. -/
def State.copyBad (s : State) (a n : Nat) (write : Bool) : Bool :=
  decide (a < tier1Size) && if write then !(s.tierStop a n).isEmpty else s.tierBad a n

/-- An end of a COPY waits (R121, R366, R406). -/
def State.copyWaits (s : State) (a n : Nat) : Bool :=
  match s.copyTile a with
  | some (k, off) => s.extWaits k off n
  | none => false

/-- What an end of a COPY leaves that waits. -/
def State.copyStall (s : State) (a n : Nat) : State :=
  match s.copyTile a with
  | some (k, off) => s.extStall k off n
  | none => s

/-- The tiles that a COPY names. -/
def State.copyKeys (s : State) (a b : Nat) : List Nat := ([a, b].filterMap s.copyTile).map Prod.fst

/-- COPY (R202): LEN bytes between tier 1 and tile addresses. An uncorrectable word ends it with the status of R199, and
what its destination then holds is left open (log 22). -/
def execCopy (list idx : Nat) (upsets : List TierUpset) (s : State) : Host.Outcome State Fault Refusal :=
  match s.handed list idx 0 4 with
  | none => .next s
  | some (l, e) =>
    let j := l.job
    let n := e.field 4 4
    let src := e.field 8 8
    let dst := e.field 0x10 8
    let keys := s.copyKeys src dst
    let segs := segsIn src n ++ segsIn dst n
    let st := worst (s.jobConds j ++ cond (!e.restZero [(4, 4), (8, 8), (0x10, 8)] || n % 64 != 0 || decide (n < 64)
        || decide (2 ^ 24 < n) || s.copyWindow dst n) .badCommand
      ++ s.copyConds src n j ++ s.copyConds dst n j)
    if st ≠ .ok then .next (s.entryRefuse list idx st 0)
    else
      let a := s.entryAccept list idx
      if keys.any s.fencedAt then .next (a.entryLost list idx j (s.suspectTouchDet keys segs))
      else if segs.all (fun g => s.dram.get false g) = false then .next (a.entryLost list idx j dramDet)
      else if s.copyWaits src n || s.copyWaits dst n then .next ((s.copyStall src n).copyStall dst n)
      else whenDue (s.dmaReady segs) s <|
        let b := (a.dmaTake segs list idx j).tierStrike upsets
        let r := b.copyReadEffect src n
        if b.copyBad src n false || r.copyBad dst n true then
          let g := if b.copyBad src n false then src else dst
          (((r.copyWrite dst (r.freeBytes n)).drawBytes n).suspect (.dram (segOf g)) dramDet).entryMap list idx fun x =>
            { x with worst := (s.jobOf j).lossStatus, det := dramDet }
        else r.copyWrite dst (b.copyRead src n)

/-- COPY_DONE (R202): every byte has been written, and the entry completes. -/
def execCopyDone (list idx : Nat) (s : State) : Host.Outcome State Fault Refusal :=
  match s.running list idx 0 4 with
  | none => .next s
  | some (l, e) =>
    let n := e.field 4 4
    let src := e.field 8 8
    let dst := e.field 0x10 8
    .next (s.entryFinish list idx l.job e (s.copyKeys src dst) (segsIn src n ++ segsIn dst n))

/-! ### Jobs (R196, R197, R200) -/

/-- The used ranges of a JOPEN: base and length in bytes. -/
def EntryRun.ranges (e : EntryRun) : List (Nat × Nat) :=
  ((List.range 4).map fun i => (e.field (0x20 + 8 * i) 4 * 65536, e.field (0x24 + 8 * i) 4 * 65536)).filter fun r => r.2 != 0

/-- Two ranges overlap. -/
def rangesMeet (a b : Nat × Nat) : Bool := decide (a.1 < b.1 + b.2) && decide (b.1 < a.1 + a.2)

/-- Two ranges of one list overlap. -/
def selfMeet : List (Nat × Nat) → Bool
  | [] => false
  | r :: t => t.any (rangesMeet r) || selfMeet t

/-- The region of a JOPEN: none for WIDTH 0. -/
def EntryRun.jobRegion (e : EntryRun) : Region :=
  if e.field 8 1 = 0 then ⟨0, 0, 0, 0⟩ else regionFrom (e.field 6 2) (e.field 8 1) (e.field 9 1)

/-- A JOPEN that is refused (R197). -/
def State.jopenBad (s : State) (l : ListRun) (e : EntryRun) : Bool :=
  let rs := e.ranges
  let g := e.jobRegion
  !e.restZero [(4, 1), (6, 2), (8, 1), (9, 1), (0x20, 0x20)] || bits (e.field 4 1) 7 2 != 0 || !originOk (e.field 6 2)
    || e.idx != 0 || decide (1024 ≤ l.job) || (s.jobOf l.job).st != .free || l.key == 0 || !s.wafer.regionOk g
    || rs.any (fun r => decide (tier1Size < r.1 + r.2)) || selfMeet rs
    || s.openJobs.any fun j => (s.jobOf j).region.meets g || rs.any fun r => (s.jobOf j).ranges.any (rangesMeet r)

/-- JOPEN (R197): the job is OPEN with the descriptor's key, its scope, ranges and region; its lease begins (R412). -/
def execJopen (list idx : Nat) (s : State) : Host.Outcome State Fault Refusal :=
  match s.handed list idx 0 0x10 with
  | none => .next s
  | some (l, e) =>
    .next <|
      if s.jopenBad l e then s.entryRefuse list idx .badCommand 0
      else
        let q : Job :=
          { st := .opened, key := l.key, elastic := bit (e.field 4 1) 0, flash := bit (e.field 4 1) 1, owner := l.owner
            region := e.jobRegion, ranges := e.ranges, fenced := false, pload := none }
        let a := s.entryAccept list idx
        let len := s.setting 0x2B01 1 * 65536
        let b := { a with
          jobs := a.jobs.set l.job q
          leases := if len = 0 then a.leases else a.leases.set (2 * 65536 + l.job) (a.lineNow + len) }
        b.entryDone list idx .ok 0 0 0xFFFF

/-- JCLOSE (R200): outstanding work ends, windows are detached, sessions and plans become FREE, and the job with them. -/
def execJclose (list idx : Nat) (s : State) : Host.Outcome State Fault Refusal :=
  match s.handed list idx 0 0x11 with
  | none => .next s
  | some (l, e) =>
    let st := worst (cond (!e.restZero []) .badCommand ++ cond ((s.jobOf l.job).st == .free) .keyRejected)
    .next <| if st ≠ .ok then s.entryRefuse list idx st 0
      else ((s.entryAccept list idx).jobClose l.job (list, idx)).entryDone list idx .ok 0 0 0xFFFF

end Sys2Proof.Machine
end

