-- ==== Sys2Proof/Machine/Ports.lean ====
section
/-! DEFINITION. Network ports (09): links, receive checks, node learning, class queues, shapers; and the commands of that
chapter. -/

namespace Sys2Proof.Machine

/-! ### Ports and nodes -/

/-- A port at power-up: link down, queues empty. -/
def port0 : Port := { link := false, downs := 0, queues := .empty, turn := .empty }
def State.portOf (s : State) (p : Nat) : Port := s.ports.get port0 p
def State.setPort (s : State) (p : Nat) (x : Port) : State := { s with ports := s.ports.set p x }
/-- A port's counter (0x2820 + p). -/
def State.portCount (s : State) (p sub n : Nat) : State := s.count 64 (0x2820 + p) sub n

/-- The module's own node, and a node's MAC (R250). -/
def State.ownNode (s : State) : Nat := s.setting 0x2700 1
def State.nodeMac (s : State) (node : Nat) : Nat := s.setting 0x2700 4 * 65536 + node
def State.maxPayload (s : State) : Nat := s.setting 0x2700 3

/-- Bytes of an ORA frame from the destination MAC to the FCS (R249). -/
def OraFrameLen (f : OraFrame) : Nat := 74 + f.payload.length

/-- The FCS of IEEE 802.3 (R249, R281; log 92): CRC-32, reflected, polynomial 0x04C11DB7. -/
def crc32 (bs : List Byte) : Nat := (bs.foldl (fun c b => crcByte 0xEDB88320 c b.toNat) 0xFFFFFFFF) ^^^ 0xFFFFFFFF

/-- `n` bytes of a value in network byte order (R9). -/
def natBe (n v : Nat) : List Byte := (natLe n v).reverse
/-- The value that bytes in network byte order spell. -/
def beNat (bs : List Byte) : Nat := leNat bs.reverse

/-- The 56 header bytes of an ORA frame (R9, R252). -/
def oraHeader (f : OraFrame) : List Byte :=
  [f.version, f.opcode, f.flags, f.cls] ++ natBe 2 f.dstNode.toNat ++ natBe 2 f.srcNode.toNat ++ natBe 2 f.dstConn.toNat
    ++ natBe 2 f.srcConn.toNat ++ natBe 4 f.psn.toNat ++ natBe 4 f.key.toNat ++ natBe 4 f.credit.toNat ++ natBe 2 f.tag.toNat
    ++ natBe 2 f.length.toNat ++ natBe 4 f.apsn.toNat ++ natBe 8 f.addr.toNat ++ natBe 8 f.operand1.toNat ++ natBe 8 f.operand2.toNat

/-- The ORA frame that received bytes spell, from the header on: what the operand of a frame command holds (R252). -/
def oraOfBytes (bs : List Byte) : OraFrame :=
  let at_ := fun o n => beNat ((bs.drop o).take n)
  { version := bs.getD 0 0, opcode := bs.getD 1 0, flags := bs.getD 2 0, cls := bs.getD 3 0
    dstNode := BitVec.ofNat 16 (at_ 4 2), srcNode := BitVec.ofNat 16 (at_ 6 2), dstConn := BitVec.ofNat 16 (at_ 8 2)
    srcConn := BitVec.ofNat 16 (at_ 0xA 2), psn := BitVec.ofNat 32 (at_ 0xC 4), key := BitVec.ofNat 32 (at_ 0x10 4)
    credit := BitVec.ofNat 32 (at_ 0x14 4), tag := BitVec.ofNat 16 (at_ 0x18 2), length := BitVec.ofNat 16 (at_ 0x1A 2)
    apsn := BitVec.ofNat 32 (at_ 0x1C 4), addr := BitVec.ofNat 64 (at_ 0x20 8), operand1 := BitVec.ofNat 64 (at_ 0x28 8)
    operand2 := BitVec.ofNat 64 (at_ 0x30 8), payload := bs.drop 56 }

/-- The bytes of a frame that the module sends (R249, R250, R284): destination node MAC, its own node MAC, EtherType, header,
payload, FCS. -/
def State.ethBytes (s : State) (f : OraFrame) : List Byte :=
  let body := natBe 6 (s.nodeMac f.dstNode.toNat) ++ natBe 6 (s.nodeMac s.ownNode) ++ natBe 2 (s.setting 0x2700 2) ++ oraHeader f
    ++ f.payload
  body ++ natLe 4 (crc32 body)

/-- A port is enabled (R283): its bit is set and its domain is ON. -/
def State.portEnabled (s : State) (p : Nat) : Bool := bit (s.setting 0x2801 (p + 1)) 0 && (s.domainOf (19 + p)).st == .on

/-- A node's entry: NONE where nothing is listed. -/
def node0 : NodeEnt := { st := .none, port := 0, last := 0, conflicts := 0, expiry := 0, before := none }
def State.nodeOf (s : State) (n : Nat) : NodeEnt := s.nodes.get node0 n
def State.setNode (s : State) (n : Nat) (x : NodeEnt) : State := { s with nodes := s.nodes.set n x }

/-- A network event: to the event ring of each function and as EMCY (R299). -/
def State.netEvent (s : State) (code det : Nat) (data : List Byte) : State := s.emcyEvent code det data

/-! ### Links (R283, R290, R294) -/

/-- A port's link is lost: its queued frames and DYNAMIC entries go, and the loss is reported. -/
def State.portDown (s : State) (p : Nat) : State :=
  let x := s.portOf p
  let a := (s.setPort p { x with link := false, downs := (x.downs + 1) % 256, queues := .empty }).portCount p 0xD 1
  let b := { a with nodes := a.nodes.keep fun _ (n : NodeEnt) => !(n.st == NodeSt.dynamic && n.port == p) }
  (b.fire 0x0801 p 0).netEvent 0xFF52 0x0801 (natLe 1 p ++ natLe 1 0)

/-- PORT_LINK_CHANGE (R283): link up once every lane of an enabled port is aligned, or link down. -/
def execPortLinkChange (port : PortId) (up : Bool) (s : State) : Host.Outcome State Fault Refusal :=
  let p := port.val
  let x := s.portOf p
  whenDue (if up then s.portEnabled p && !x.link else x.link) s <|
    if up then ((s.setPort p { x with link := true }).clocksFresh [240 + 2 * p, 241 + 2 * p]).netEvent 0xFF52 0 (natLe 1 p ++ natLe 1 1) else s.portDown p

/-- The value of 0x2801 is taken: a disabled port, and one whose mode changes, loses its link (R283, R300). -/
def State.portConfig (s : State) (p v : Nat) : State :=
  let a := s.putCell 0x2801 (p + 1) v
  if (s.portOf p).link && (!bit v 0 || bit v 1 != bit (s.setting 0x2801 (p + 1)) 1) then a.portDown p else a

/-- Effect of portConfigWrite once its access has passed checks 1 to 5. -/
def fxPortConfigWrite (port : PortId) (v : Byte) : Effect := fun x =>
    if 4 ≤ v.toNat then .error outOfRange else .ok (x.portConfig port.val v.toNat)

/-- PORT_CONFIG_WRITE (R283, R300): enable and mode of a port. -/
def execPortConfigWrite (path : Path) (port : PortId) (v : Byte) (s : State) : Host.Outcome State Fault Refusal :=
  s.odWrite path 0x2801 (port.val + 1) (fxPortConfigWrite port v)

/-! ### Receiving (R282, R285, R286) -/

/-- MAC_CONTROL_FRAME (R282): a pause or priority-flow frame is discarded and counted; one of a wrong length fails the length
check first (R285). -/
def execMacControlFrame (port : PortId) (len : Nat) (s : State) : Host.Outcome State Fault Refusal :=
  let p := port.val
  whenDue (s.portOf p).link s <|
    if len < 64 ∨ 74 + s.maxPayload < len then s.portCount p 0xB 1 else (s.portCount p 8 1).fire 0x0804 p 0

/-- RECEIVED_FRAME_DISCARD (R254, R285, R286): the first check that fails discards the frame. A frame with a reserved opcode
passes the port and is discarded as malformed, as is one too short for the header; one that passes every check is discarded because
the receive buffer is full (log 32). Detector 0x0803 fires for each uncorrectable codeword. -/
def execReceivedFrameDiscard (port : PortId) (fr : EthFrame) (s : State) : Host.Outcome State Fault Refusal :=
  let p := port.val
  let own := s.ownNode
  let src := fr.ora.srcNode.toNat
  let x := (s.portCount p 6 fr.fecFixed).portCount p 7 fr.fecBad
  whenDue (s.portOf p).link s <|
    if fr.fcsOk = false ∨ 0 < fr.fecBad then
      (((List.range fr.fecBad).foldl (fun a _ => a.fire 0x0803 p 0) x).portCount p 5 1).fire 0x0802 p 0
    else if fr.len < 64 ∨ 74 + s.maxPayload < fr.len then x.portCount p 0xB 1
    else if fr.macControl then (x.portCount p 8 1).fire 0x0804 p 0
    else if fr.tagged ∨ fr.etherType.toNat ≠ s.setting 0x2700 2 then (x.portCount p 9 1).fire 0x0805 p 0
    else if fr.dstMac.toNat ≠ s.nodeMac own then (x.portCount p 0xA 1).fire 0x0805 p 0
    else if src = own then (x.portCount p 0xA 1).fire 0x0809 p 0
    else if fr.srcMac.toNat ≠ s.nodeMac src then (x.portCount p 0xA 1).fire 0x0805 p 0
    else if fr.len < 74 ∨ fr.ora.opcode.toNat = 0 ∨ 10 < fr.ora.opcode.toNat then
      (((x.portCount p 3 1).portCount p 4 fr.len).bump64 0x2702 3).fire 0x0841 fr.ora.dstConn.toNat 0
    else (x.portCount p 0xC 1).fire 0x0808 p 0

/-! ### Learning (R287 to R291) -/

/-- The ageing time in ps. -/
def State.ageing (s : State) : Nat := s.setting 0x2802 1 * psS

/-- The move of a DYNAMIC entry to port `q` (R288). -/
def State.learnMove (s : State) (n q : Nat) (x : NodeEnt) : State :=
  (s.setNode n { x with port := q, last := s.now, expiry := s.now + s.ageing, before := some (x.port, x.last) }).bump64 0x2802 7

/-- A conflict: port `q` has heard the node of entry `x` too soon; the third makes it AMBIGUOUS (R288). -/
def State.learnConflict (s : State) (n q : Nat) (x : NodeEnt) : State :=
  let c := x.conflicts + 1
  let a := ((s.setNode n { x with conflicts := c }).bump64 0x2802 8).fire 0x0806 q 0
  let b := a.netEvent 0xFF50 0x0806 (natLe 2 n ++ natLe 1 x.port ++ natLe 1 q ++ natLe 1 c)
  if c = 3 then
    ((b.setNode n { x with conflicts := c, st := .ambiguous, expiry := s.now + s.ageing }).fire 0x0807 q 0).netEvent 0xFF51 0x0807
      (natLe 2 n ++ natLe 1 x.port)
  else b

/-- An event of the instant LAST from a port below PORT (R289): the entry becomes what it would be had this event come first, and
the event of PORT is the later one. -/
def State.learnFirst (s : State) (n q : Nat) (x : NodeEnt) : State :=
  match x.before with
  | none => s.learnConflict n x.port { x with port := q }
  | some (p, l) =>
    if x.port = p then
      if x.last < l + s.setting 0x2802 2 * psUs then s.learnConflict n q x
      else (s.bump64 0x2802 7).learnConflict n x.port { x with port := q }
    else if q = p then (s.count 64 0x2802 7 (2 ^ 64 - 1)).learnConflict n x.port { x with port := p }
    else s.learnConflict n x.port { x with port := q }

/-- A learning event (R287 to R289): node `n`, which the table has, heard on port `q` now. -/
def State.learn (s : State) (n q : Nat) : State :=
  let x := s.nodeOf n
  let t := s.now
  if n = 0 ∨ 0xFFFF ≤ n then s else
  match x.st with
  | .none => (s.setNode n { st := .dynamic, port := q, last := t, conflicts := 0, expiry := t + s.ageing, before := none }).bump64
      0x2802 6
  | .dynamic =>
    if q = x.port then
      s.setNode n { x with last := t, expiry := t + s.ageing, before := if x.last = t then x.before else some (q, x.last) }
    else if x.last = t ∧ q < x.port then s.learnFirst n q x
    else if t < x.last + s.setting 0x2802 2 * psUs then s.learnConflict n q x
    else s.learnMove n q x
  | _ => if q = x.port then s else s.bump64 0x2802 9

/-- NODE_ENTRY_EXPIRY (R290): a DYNAMIC or AMBIGUOUS entry returns to NONE when its time has passed. -/
def execNodeEntryExpiry (node : W16) (s : State) : Host.Outcome State Fault Refusal :=
  let x := s.nodeOf node.toNat
  whenDue (x.st == .dynamic || x.st == .ambiguous) s
    (let a := s.advanceTo x.expiry
     { a with nodes := a.nodes.erase node.toNat })

/-- Every DYNAMIC and AMBIGUOUS entry returns to NONE (R290). -/
def State.flushNodes (s : State) : State := { s with nodes := s.nodes.keep fun _ n => n.st == .static }

/-- Effect of nodeTableFlush once its access has passed checks 1 to 5. -/
def fxNodeTableFlush (v : Byte) : Effect := fun x =>
    if 1 < v.toNat then .error outOfRange else .ok (if v.toNat = 1 then x.flushNodes else x)

/-- NODE_TABLE_FLUSH (R290): a write of 1 to 0x2802:03; a write of 0 has no effect. -/
def execNodeTableFlush (path : Path) (v : Byte) (s : State) : Host.Outcome State Fault Refusal :=
  s.odWrite path 0x2802 3 (fxNodeTableFlush v)

/-- The word of 0x2803:03 names a node that cannot be STATIC, or has a reserved bit set (R291). -/
def State.staticBad (s : State) (v : Nat) : Bool :=
  let n := bits v 15 0
  n == 0 || n == 0xFFFF || n == s.ownNode || bits v 23 19 != 0 || bits v 31 25 != 0

/-- An entry is made STATIC, which counts as learned where it was NONE (R300), or a STATIC one returns to NONE (R291). -/
def State.staticWrite (s : State) (v : Nat) : State :=
  let n := bits v 15 0
  let b := s.putCell 0x2803 3 v
  let a := if bit v 24 ∧ (s.nodeOf n).st = .none then b.bump64 0x2802 6 else b
  if bit v 24 then a.setNode n { s.nodeOf n with st := .static, port := bits v 18 16, conflicts := 0 }
  else if (s.nodeOf n).st = .static then { a with nodes := a.nodes.erase n } else a

/-- Effect of staticEntryWrite once its access has passed checks 1 to 5. -/
def fxStaticEntryWrite (v : W32) : Effect := fun x => if x.staticBad v.toNat then .error outOfRange else .ok (x.staticWrite v.toNat)

/-- STATIC_ENTRY_WRITE (R291). -/
def execStaticEntryWrite (path : Path) (v : W32) (s : State) : Host.Outcome State Fault Refusal :=
  s.odWrite path 0x2803 3 (fxStaticEntryWrite v)

/-- Number of a node state. -/
def nodeNum : NodeSt → Nat
  | .none => 0 | .dynamic => 1 | .ambiguous => 2 | .static => 3

/-- Effect of nodeQuery once its access has passed checks 1 to 5. -/
def fxNodeQuery (v : W16) : Effect := fun x =>
    let n := v.toNat
    if n = 0 ∨ n = 0xFFFF then .error outOfRange
    else
      let e := x.nodeOf n
      let left := if e.st = .dynamic ∨ e.st = .ambiguous then min 0xFFFF ((e.expiry - x.now) / psS) else 0
      .ok (x.putCells 0x2803 [(1, n), (2, nodeNum e.st + e.port * 4 + e.conflicts * 32 + left * 65536)])

/-- NODE_QUERY (R300): state, port, conflicts and seconds to expiry of the named node. -/
def execNodeQuery (path : Path) (v : W16) (s : State) : Host.Outcome State Fault Refusal :=
  s.odWrite path 0x2803 1 (fxNodeQuery v)

/-! ### Shapers (R295 to R298) -/

/-- A bucket's level is kept in bytes × 8,000,000: a rate of r Mb/s is then r for each picosecond. -/
def levelScale : Int := 8000000
def bucketKey (p c : Nat) : Nat := p * 8 + c
def State.rate (s : State) (p c : Nat) : Nat := s.setting 0x2810 (bucketKey p c + 1)
def State.burst (s : State) (p c : Nat) : Nat := s.setting 0x2811 (bucketKey p c + 1)

/-- A class's bucket now: at power-up full, then risen at its rate up to its burst. -/
def State.bucket (s : State) (p c : Nat) : Int :=
  let top := (s.burst p c : Int) * levelScale
  match s.buckets.find (bucketKey p c) with
  | none => top
  | some b => if s.rate p c = 0 then b.level else min top (b.level + (s.rate p c : Int) * ((s.now - b.at_ : Nat) : Int))
def State.setBucket (s : State) (p c : Nat) (v : Int) : State := { s with buckets := s.buckets.set (bucketKey p c) ⟨v, s.now⟩ }

/-- A rate or burst is written: the level so far is kept, within the new burst (R296). -/
def State.shaperWrite (s : State) (index p c v : Nat) : State :=
  let now_ := s.bucket p c
  let a := s.putCell index (bucketKey p c + 1) v
  let top := (a.burst p c : Int) * levelScale
  a.setBucket p c (max (-top) (min top now_))

/-- Effect of shaperRateWrite once its access has passed checks 1 to 5. -/
def fxShaperRateWrite (port : PortId) (cls : Fin 8) (v : W32) : Effect := fun x =>
    if 400000 < v.toNat then .error outOfRange else .ok (x.shaperWrite 0x2810 port.val cls.val v.toNat)

/-- SHAPER_RATE_WRITE (R296 to R298). -/
def execShaperRateWrite (path : Path) (port : PortId) (cls : Fin 8) (v : W32) (s : State) : Host.Outcome State Fault Refusal :=
  s.odWrite path 0x2810 (bucketKey port.val cls.val + 1) (fxShaperRateWrite port cls v)

/-- Effect of shaperBurstWrite once its access has passed checks 1 to 5. -/
def fxShaperBurstWrite (port : PortId) (cls : Fin 8) (v : W32) : Effect := fun x =>
    if v.toNat < 4170 ∨ 16777215 < v.toNat then .error outOfRange
    else .ok (x.shaperWrite 0x2811 port.val cls.val v.toNat)

/-- SHAPER_BURST_WRITE (R296, R298). -/
def execShaperBurstWrite (path : Path) (port : PortId) (cls : Fin 8) (v : W32) (s : State) : Host.Outcome State Fault Refusal :=
  s.odWrite path 0x2811 (bucketKey port.val cls.val + 1) (fxShaperBurstWrite port cls v)

/-! ### Class queues and sending (R293, R295) -/

/-- A frame enters a class queue of a port, or the loop inside the module. -/
def State.enqueue (s : State) (p cls : Nat) (f : QFrame) : State :=
  let x := s.portOf p
  s.setPort p { x with queues := x.queues.set cls (x.queues.get [] cls ++ [f]) }

/-- Of the frames given, those of the connection that round-robin serves next after `last`. -/
def roundRobin (last : Nat) (l : List QFrame) : Option QFrame :=
  let after := l.filter fun f => decide (last < f.conn)
  let low := fun (m : List QFrame) => m.foldl (fun (a : Option QFrame) f => match a with
    | none => some f
    | some b => if f.conn < b.conn then some f else some b) none
  match low after with
  | some f => some f
  | none => low l

/-- A frame may start as its bucket stands (R295, R297); at 400,000 Mb/s none holds it (R298). -/
def State.mayStart (s : State) (p c : Nat) (f : QFrame) : Bool :=
  !f.shaped || s.rate p c == 400000 || (s.rate p c != 0 &&
    decide (-((s.burst p c : Int) * levelScale) ≤ s.bucket p c - (OraFrameLen f.frame : Int) * levelScale))

/-- The frame that a class sends next: its round-robin head, or, while the bucket holds that back, the next of its frames that
no bucket holds. -/
def State.classNext (s : State) (p c : Nat) : Option QFrame :=
  let x := s.portOf p
  let l := x.queues.get [] c
  let last := x.turn.get 0 c
  match roundRobin last l with
  | none => none
  | some f => if s.mayStart p c f then some f else roundRobin last (l.filter fun g => !g.shaped)

/-- A list without the first element equal to `f`. -/
def dropFirst (f : QFrame) : List QFrame → List QFrame
  | [] => []
  | g :: r => if g = f then r else g :: dropFirst f r

/-- Class heads that their bucket holds back are counted once (0x2831). -/
def State.markHeld (s : State) (p : Nat) : State :=
  each (List.range 8) (fun x c =>
    let q := x.portOf p
    let l := q.queues.get [] c
    match roundRobin (q.turn.get 0 c) l with
    | none => x
    | some f => if x.mayStart p c f || f.held then x
        else (x.setPort p { q with queues := q.queues.set c (l.map fun g => if g = f then { g with held := true } else g) }).count
          64 0x2831 (bucketKey p c + 1) 1) s

/-- A frame leaves by a port. -/
def State.ethSend (s : State) (port : PortId) (fr : OraFrame) : State := { s with out := s.out ++ [.eth port (s.ethBytes fr)] }

/-- A bucket after a frame of `n` bytes: never below −burst (R295), which only a class without a hold could reach. -/
def State.charged (s : State) (p c n : Nat) : Int :=
  max (-((s.burst p c : Int) * levelScale)) (s.bucket p c - (n : Int) * levelScale)

/-- A frame leaves its queue, and its connection's turn is over. -/
def State.portTake (s : State) (p c : Nat) (f : QFrame) : State :=
  let x := s.portOf p
  s.setPort p { x with queues := x.queues.set c (dropFirst f (x.queues.get [] c)), turn := x.turn.set c f.conn }

/-- PORT_FRAME_TRANSMIT (R293, R295): of the classes whose next frame may start the highest sends it; a request or response
is charged to its bucket. -/
def execPortFrameTransmit (port : PortId) (s : State) : Host.Outcome State Fault Refusal :=
  let p := port.val
  whenDue (s.portOf p).link s <|
    let a := s.markHeld p
    match (List.range 8).reverse.findSome? fun c => (a.classNext p c).map fun f => (c, f) with
    | none => a
    | some (c, f) =>
      let n := OraFrameLen f.frame
      let b := a.portTake p c f
      let d := if f.shaped then b.setBucket p c (b.charged p c n) else b.portCount p 0xE 1
      (((d.portCount p 1 1).portCount p 2 n).count 64 0x2830 (bucketKey p c + 1) n).ethSend port f.frame

end Sys2Proof.Machine
end

