-- ==== Sys2Proof/Machine/Ora.lean ====
section
/-! DEFINITION. The remote access protocol (08): frames, credits, sequence, acknowledgement, target checks, application,
retransmission; and the commands of frames and timers. -/

namespace Sys2Proof.Machine

/-! ### Frames and routes (R252, R256, R292) -/

/-- A connection is changed. -/
def State.connMap (s : State) (id : Nat) (f : Conn → Conn) : State :=
  { s with conns := s.conns.mapVals fun i c => if i = id then f c else c }

/-- A PSN moved on. -/
def psnAdd (p n : Nat) : Nat := (p + n) % 2 ^ 24
/-- The signed distance p − q of two PSNs (R272). -/
def psnDist (p q : Nat) : Int := signed 24 (p + 2 ^ 24 - q % 2 ^ 24)

/-- The header of a frame that a connection sends (R252), with every field that an opcode may leave unused at 0. -/
def State.baseFrame (s : State) (id op : Nat) (c : Conn) : OraFrame :=
  { version := 0x10, opcode := BitVec.ofNat 8 op, flags := 0, cls := BitVec.ofNat 8 c.cls, dstNode := BitVec.ofNat 16 c.peerNode
    srcNode := BitVec.ofNat 16 s.ownNode, dstConn := BitVec.ofNat 16 c.peerConn, srcConn := BitVec.ofNat 16 id, psn := 0
    key := BitVec.ofNat 32 c.peerKey, credit := BitVec.ofNat 32 c.granted, tag := 0, length := 0, apsn := 0, addr := 0
    operand1 := 0, operand2 := 0, payload := [] }

/-- The port that a connection's frames leave by (R256); 8 is the loop inside the module. -/
def State.route (s : State) (c : Conn) : Nat :=
  let n := s.nodeOf c.peerNode
  if c.peerNode = s.ownNode then 8
  else if n.st ≠ .none ∧ (s.portOf n.port).link = true then n.port else c.home

/-- A frame of a connection is formed and queued: it carries the current limit (R260). -/
def State.sendOra (s : State) (id : Nat) (shaped : Bool) (f : OraFrame) : State :=
  match s.conns.find id with
  | none => s
  | some c =>
    ((s.connMap id fun x => { x with carried := x.granted }).bump64 0x2702 1).enqueue (s.route c) c.cls ⟨id, f, shaped, false⟩

/-! ### Acknowledgement (R273) and credit (R260) -/

/-- SOLICIT, FINAL, TAGGED of a frame. -/
def frFinal (f : OraFrame) : Bool := f.flags.toNat % 2 == 1
def frTagged (f : OraFrame) : Bool := bit f.flags.toNat 1
def frSolicit (f : OraFrame) : Bool := bit f.flags.toNat 2

/-- The PSNs of FINAL requests that wait: held, or landing. No acknowledgement reports them (R267; log 90). -/
def Conn.finals (c : Conn) : List Nat := ((c.held ++ (c.landing.map Prod.fst).toList).filter frFinal).map fun f => f.psn.toNat
/-- The first PSN that APSN leaves out: e, or a FINAL request below it that waits. -/
def Conn.ackTo (c : Conn) : Nat := c.finals.foldl (fun p q => if psnDist q p < 0 then q else p) c.e
/-- A PSN has been received and may be reported. -/
def Conn.reports (c : Conn) (p : Nat) : Bool := (c.got.contains p || decide (psnDist p c.e < 0)) && !c.finals.contains p
/-- APSN and the bitmap of a connection (R273). -/
def Conn.apsn (c : Conn) : Nat := psnAdd c.ackTo (2 ^ 24 - 1)
def Conn.bitmap (c : Conn) : Nat :=
  ((List.range 64).map fun k => if c.reports (psnAdd c.ackTo (1 + k)) then 2 ^ k else 0).sum

/-- An ACK is sent now. -/
def State.sendAck (s : State) (id : Nat) : State :=
  match s.conns.find id with
  | none => s
  | some c => (s.connMap id fun x => { x with sinceAck := 0, ackAt := none }).sendOra id false
      { s.baseFrame id 8 c with apsn := BitVec.ofNat 32 c.apsn, operand1 := BitVec.ofNat 64 c.bitmap }

/-- A NAK is sent for a PSN. -/
def State.sendNak (s : State) (id psn syn : Nat) : State :=
  match s.conns.find id with
  | none => s
  | some c => (s.connMap id fun x => { x with sinceAck := 0, ackAt := none }).sendOra id false
      { s.baseFrame id 9 c with
        psn := BitVec.ofNat 32 psn, apsn := BitVec.ofNat 32 (c.apsn + syn * 2 ^ 24), operand1 := BitVec.ofNat 64 c.bitmap }

/-- A CREDIT frame is sent. -/
def State.sendCredit (s : State) (id : Nat) (solicit : Bool) : State :=
  match s.conns.find id with
  | none => s
  | some c => s.sendOra id false { s.baseFrame id 10 c with flags := if solicit then 4 else 0 }

/-- The ACK delay (0x2701:02). -/
def State.ackDelay (s : State) : Nat := s.setting 0x2701 2 * psUs

/-- The limit has risen by max(1, CREDIT_UNITS / 4) since it was last carried. -/
def Conn.creditDue (c : Conn) : Bool := decide (max 1 (c.units / 4) ≤ (c.granted + 2 ^ 32 - c.carried) % 2 ^ 32)

/-- The limit granted to the peer rises by a request's cost (R260). -/
def State.raiseLimit (s : State) (id cost : Nat) : State :=
  s.connMap id fun c =>
    let c1 := { c with granted := (c.granted + cost) % 2 ^ 32 }
    if c1.creditDue then { c1 with ackAt := some (c1.ackAt.getD (s.now + s.ackDelay)) } else c1

/-- The ACK that a received frame calls for (R273). -/
def State.ackFor (s : State) (id : Nat) (f : OraFrame) : State :=
  match s.conns.find id with
  | none => s
  | some c =>
    if (frFinal f) || (frTagged f) || (frSolicit f) || decide (s.setting 0x2701 1 ≤ c.sinceAck + 1) then s.sendAck id
    else s.connMap id fun x => { x with sinceAck := x.sinceAck + 1, ackAt := some (x.ackAt.getD (s.now + s.ackDelay)) }

/-- Credit cost of a request (R259). -/
def frCost (f : OraFrame) : Nat :=
  if f.opcode.toNat = 1 ∨ f.opcode.toNat = 2 then max 1 ((f.length.toNat + 255) / 256) else 1

/-- e moves past every PSN received in a row. -/
def eOn : Nat → Nat → List Nat → Nat × List Nat
  | 0, e, g => (e, g)
  | fuel + 1, e, g => if g.contains e then eOn fuel (psnAdd e 1) (g.filter fun x => x != e) else (e, g)

/-- A PSN counts as received (R272). -/
def Conn.receive (c : Conn) (psn : Nat) : Conn :=
  let g := psn :: c.got
  let (e, h) := eOn (g.length + 1) c.e g
  { c with e := e, got := h }

/-! ### Errors of a connection (R276) -/

/-- The function that owns a connection's job. -/
def State.connOwner (s : State) (c : Conn) : Fn := (s.jobOf c.job).owner

/-- A connection enters ERROR (R276): its work completes with SEQ_ERROR, 0x0844 fires, event 0xFF40 is written. -/
def State.connError (s : State) (id syn psn : Nat) : State :=
  match s.conns.find id with
  | none => s
  | some c =>
    let a := (s.connEnd id .seqError 0x0844).connMap id fun x => { x with st := .error, ackAt := none }
    ((a.bump64 0x2702 0xA).fire 0x0844 id 0).event (s.connOwner c) 0xFF40 0x0844 s.stamp
      (natLe 2 id ++ natLe 1 syn ++ natLe 3 psn)

/-- A request is refused with a NAK (R258, R260): 0x2702:06 counts all but RNR; a PSN refused for the first time, other than by
RNR or SEQ, counts as received and returns its credit. -/
def State.refuse (s : State) (id : Nat) (f : OraFrame) (syn : Nat) (new : Bool) : State :=
  let a := if syn = 3 then s.fire 0x0847 id 0 else
    let b := if new && syn != 4 then (s.connMap id fun c => c.receive f.psn.toNat).raiseLimit id (frCost f) else s
    let d := b.bump64 0x2702 6
    if syn = 2 then d.fire 0x0843 id 0 else if syn = 6 then d.fire 0x0846 id 0 else if syn = 8 then d.fire 0x0848 id 0 else d
  a.sendNak id f.psn.toNat syn

/-! ### Target checks (R258, R263, R264) -/

/-- The LANDING region of a tile that a window offset falls in, its store, and the task-relative line (R264). -/
def Tile.landingAt (t : Tile) (off : Nat) : Option (StoreSel × Nat × RegionSt) :=
  match offStore off with
  | none => none
  | some (st, o) =>
    if o / 64 < t.base st then none else
      let r := o / 64 - t.base st
      (((List.range 4).map t.regionOf).find? fun g =>
        g.enable && g.store == selNum st && g.producer == 1 && decide (g.base ≤ r) && decide (r < g.base + g.size)).map
        fun g => (st, r, g)

/-- The posted buffer of a SEND's message. -/
def Conn.recvOf (c : Conn) (msn : Nat) : Option Recv := c.recvs.find? fun r => r.msn == msn

/-- Address and length that a request acts on. -/
def Conn.area (c : Conn) (f : OraFrame) : Nat × Nat :=
  match f.opcode.toNat with
  | 1 => (((c.recvOf (f.operand1.toNat % 2 ^ 32)).elim 0 (·.addr)) + f.addr.toNat, f.length.toNat)
  | 2 => (f.addr.toNat, f.length.toNat)
  | 3 => (f.addr.toNat, f.operand1.toNat)
  | _ => (f.addr.toNat, 8)

/-- A request writes its target. -/
def frWrites (f : OraFrame) : Bool := f.opcode.toNat != 3

/-- Serving the request meets an uncorrectable word. -/
def State.serveBad (s : State) (a n : Nat) (write : Bool) : Bool :=
  match s.wafer.target a with
  | .tier1 _ => s.copyBad a n write
  | .tile k off => match offStore off with
    | some (st, o) => if write then (s.tileOf k).writeDouble st o n else (s.tileOf k).doubleIn st o n
    | none => false
  | _ => false

/-- The rows of R258 that answer BAD. -/
def State.targetBad (s : State) (c : Conn) (f : OraFrame) : Bool :=
  let (a, n) := c.area f
  let op := f.opcode.toNat
  (match s.wafer.target a with
    | .invalid => true
    | .firmware => false
    | .tier1 _ => decide (tier1Size < a + n)
    | .tile k off => !windowRange off n || (s.tileOf k).rangeOff off n || ((frWrites f) && s.inWindow k off n)
        || (op == 2 && match (s.tileOf k).landingAt off with
          | some (_, r, g) => off % 64 != 0 || n % 64 != 0 || decide (g.base + g.size < r + n / 64)
          | none => false))
    || ((op == 5 || op == 6) && a % 8 != 0)
    || (op == 3 && (f.operand1.toNat == 0 || decide (s.maxPayload < f.operand1.toNat)))
    || ((frTagged f) && (decide (8192 ≤ f.tag.toNat) || (s.ctrs.find f.tag.toNat).isNone))
    || ((op == 3 || op == 5 || op == 6) && !c.respond)

/-- The rows that answer KEY. -/
def State.targetKey (s : State) (c : Conn) (f : OraFrame) : Bool :=
  let (a, n) := c.area f
  let q := s.jobOf c.job
  (match s.wafer.target a with
    | .tier1 _ => !q.covers a n
    | .tile _ _ => !q.region.has (addrTile a).1 (addrTile a).2
    | _ => true)
    || ((frTagged f) && match s.ctrs.find f.tag.toNat with
      | some k => k.job != c.job
      | none => false)

/-- The rows that answer LOST: a failed or suspect unit, or an uncorrectable word (R403, R404). -/
def State.targetLost (s : State) (c : Conn) (f : OraFrame) : Bool :=
  let (a, n) := c.area f
  let keys := s.copyKeys a a
  let segs := segsIn a n
  keys.any s.fencedAt || segs.any (fun g => !s.dram.get false g) || s.suspects.any (fun x => x.what.touched keys segs)
    || s.serveBad a n (f.opcode.toNat == 1 || f.opcode.toNat == 2)

/-- The syndrome that refuses a request (R258), RNR and LEN of a SEND first (R263); 0 where none does. -/
def State.syndrome (s : State) (c : Conn) (f : OraFrame) : Nat :=
  let msn := f.operand1.toNat % 2 ^ 32
  let mlen := f.operand1.toNat / 2 ^ 32
  let rest := if s.targetBad c f then 1 else if s.targetKey c f then 2
    else if (s.jobOf c.job).st = .aborted then 9 else if s.targetLost c f then 8 else 0
  if f.opcode.toNat = 1 then
    match c.recvOf msn with
    | none => if c.nextMsn ≤ msn then 3 else 1
    | some r =>
      if r.refused ∨ (r.total = none ∧ r.len < mlen) then 5
      else if (r.total.getD mlen) ≠ mlen ∨ mlen < f.addr.toNat + f.length.toNat then 1 else rest
  else rest

/-! ### Receive buffers (R263) -/

/-- An access to a request's LOCAL that its engine refuses with BAD_COMMAND when it comes to it: a powered-down bank (R137), or a
write to an attached window (R221). -/
def State.localBad (s : State) (a n : Nat) (write : Bool) : Bool :=
  match s.copyTile a with
  | some (k, off) => (s.tileOf k).rangeOff off n || (write && s.inWindow k off n)
  | none => false

/-- A RECV at the head of its connection completes: with its status word and OK, or BAD_COMMAND for a refused message, and where
its status word may not be written. -/
def State.recvEnd (s : State) (id : Nat) (c : Conn) (r : Recv) : State :=
  if r.refused then
    (s.connMap id fun x => { x with recvs := x.recvs.map fun y => if y.msn = r.msn then { y with done := true } else y }).entryDone
      r.list r.idx .badCommand 0 0 0xFFFF
  else
    let keys := s.copyKeys r.addr r.addr
    let segs := segsIn r.addr r.len
    let bad := s.localBad r.statusAt 8 true
    let st := if bad then (s.suspectStatus c.job keys segs).worse .badCommand else s.suspectStatus c.job keys segs
    let a := (if bad then s else s.copyWrite r.statusAt (natLe 4 (r.total.getD 0) ++ natLe 4 r.msn)).connMap id fun x =>
      { x with recvs := x.recvs.filter fun y => y.msn != r.msn }
    let b := (a.faultEnd st).entryDone r.list r.idx st (s.suspectTouchDet keys segs) 0 0xFFFF
    match r.lctr with
    | some k => if st = .ok then b.ctrUp k else b
    | none => b

/-- The oldest RECV that has not completed is full or refused, and nothing holds its status word (R121). -/
def State.recvReady (s : State) (r : Recv) : Bool :=
  r.refused || (r.total.isSome && decide (r.total.getD 0 ≤ r.placed) && !s.copyWaits r.statusAt 8)

/-- RECVs complete in MSN order while the first is full or refused. -/
def State.recvAdvance (id : Nat) : Nat → State → State
  | 0, s => s
  | fuel + 1, s =>
    match s.conns.find id with
    | none => s
    | some c => match c.recvs.find? fun r => !r.done with
      | none => s
      | some r => if s.recvReady r then State.recvAdvance id fuel (s.recvEnd id c r) else s

/-- A posted buffer is changed. -/
def State.recvMap (s : State) (id msn : Nat) (f : Recv → Recv) : State :=
  s.connMap id fun c => { c with recvs := c.recvs.map fun r => if r.msn = msn then f r else r }

/-! ### Applying requests (R264 to R267, R275) -/

/-- A response is stored in the slot of the oldest entry and sent (R275). -/
def State.respond (s : State) (id : Nat) (f : OraFrame) (op : Nat) (data : List Byte) : State :=
  match s.conns.find id with
  | none => s
  | some c =>
    let slot := if c.cache.length < 64 then c.cache.length else (c.cache.head?.elim 0 (·.slot))
    let e : Cached := ⟨f.psn.toNat, op, slot, data.length, leNat (data.take 8)⟩
    let a := (s.tierWrite (c.rcache + slot * 4096) data).connMap id fun x =>
      { x with cache := (if x.cache.length < 64 then x.cache else x.cache.drop 1) ++ [e] }
    a.sendOra id true <| if op = 4 then
        { s.baseFrame id 4 c with psn := f.psn, length := BitVec.ofNat 16 data.length, payload := data }
      else { s.baseFrame id 7 c with psn := f.psn, operand1 := BitVec.ofNat 64 (leNat data) }

/-- Up to `n` lines of a landing, from its line `i` on, are written at TAIL until one waits, which is counted; and the line that
comes next (R123, R264). -/
def State.landFrom (k : Nat) (st : StoreSel) (r : Nat) (bs : List Byte) : Nat → Nat → State → State × Nat
  | 0, i, s => (s, i)
  | n + 1, i, s => match (s.tileOf k).landLine st (r + i) ((bs.drop (i * 64)).take 64) true with
    | .landed t => State.landFrom k st r bs n (i + 1) (s.setTile k t)
    | .waits => (s.prioStall k, i)
    | .rejected => State.landFrom k st r bs n (i + 1) (s.landReject k)

/-- The payload of a WRITE is stored from its line `i` on: at TAIL of a LANDING region line by line, or at its address (R264); and
the line of a landing that waits, if one does. -/
def State.writeTarget (s : State) (a : Nat) (bs : List Byte) (i : Nat) : State × Option Nat :=
  match s.copyTile a with
  | some (k, off) => match (s.tileOf k).landingAt off with
    | some (st, r, _) =>
      let x := State.landFrom k st r bs (bs.length / 64 - i) i s
      (x.1, if x.2 < bs.length / 64 then some x.2 else none)
    | none => (s.extWrite k (off + i * 64) (bs.drop (i * 64)), none)
  | none => (s.tierWrite a bs, none)

/-- A request takes effect, from line `i` of a landing on; its credit returns, before a response is formed, and its tag counter goes
up. A landing that waits stays in progress (R260, R263 to R266, R269). -/
def State.applyOra (s : State) (id : Nat) (f : OraFrame) (i : Nat) : State :=
  match s.conns.find id with
  | none => s
  | some c =>
    let (a, n) := c.area f
    let msn := f.operand1.toNat % 2 ^ 32
    let old := s.copyRead a n
    let s0 := s.raiseLimit id (frCost f)
    match f.opcode.toNat with
    | 1 =>
      let r := State.recvAdvance id (c.recvs.length + 1) ((s0.copyWrite a f.payload).recvMap id msn fun r =>
        { r with placed := r.placed + n, total := some (f.operand1.toNat / 2 ^ 32) })
      if frTagged f then r.ctrUp f.tag.toNat else r
    | 2 => match s.writeTarget a f.payload i with
      | (x, some j) => x.connMap id fun y => { y with landing := some (f, j) }
      | (x, none) =>
        let r := (x.connMap id fun y => { y with landing := none }).raiseLimit id (frCost f)
        if frTagged f then r.ctrUp f.tag.toNat else r
    | 3 => (s0.copyReadEffect a n).respond id f 4 old
    | 5 => ((s0.copyReadEffect a 8).copyWrite a (natLe 8 (leNat old + f.operand1.toNat))).respond id f 7 old
    | _ =>
      let b := s0.copyReadEffect a 8
      (if leNat old = f.operand1.toNat then b.copyWrite a (natLe 8 f.operand2.toNat) else b).respond id f 7 old

/-- A WRITE is a landing (R264). -/
def State.isLanding (s : State) (f : OraFrame) : Bool :=
  f.opcode.toNat == 2 && match s.copyTile f.addr.toNat with
    | some (k, off) => ((s.tileOf k).landingAt off).isSome
    | none => false

/-- A request's target waits: for an issued instruction, a store move or stopped clocks (R121, R366, R406). Where a landing's line
goes is known only when it lands. -/
def State.targetWaits (s : State) (c : Conn) (f : OraFrame) : Bool :=
  let (a, n) := c.area f
  if s.isLanding f then (s.copyTile a).any fun x => s.tileWaits x.1 else s.copyWaits a n

/-- A frame may be applied now (R267): its target does not wait, and, for a FINAL or TAGGED frame or a landing, every lower PSN
has been received and none is still held or landing. -/
def State.canApply (s : State) (c : Conn) (f : OraFrame) : Bool :=
  let q := f.psn.toNat
  let inOrder := decide (0 < psnDist c.e q) && (c.held ++ (c.landing.map Prod.fst).toList).all fun h =>
    decide (0 ≤ psnDist h.psn.toNat q)
  !s.targetWaits c f && (!((frFinal f) || (frTagged f) || s.isLanding f) || inOrder)

/-- Frames in the hold pool. -/
def State.heldAll (s : State) : Nat := (s.conns.vals.map fun c => c.held.length).sum

/-- What serving a request that meets an uncorrectable word leaves: ECC is reported and the unit is suspect (R154, R199). -/
def State.serveEffect (s : State) (a n : Nat) (write : Bool) : State :=
  if s.serveBad a n write then
    let b := if write then s else s.copyReadEffect a n
    if a < tier1Size then b.suspect (.dram (segOf a)) 0x0502 else b
  else s

/-- A new request: checked, then applied, held or refused (R254 step 7, R267, R268). -/
def State.newRequest (s : State) (id : Nat) (c : Conn) (f : OraFrame) : State :=
  let syn := s.syndrome c f
  let (a, n) := c.area f
  if syn ≠ 0 then
    let t := if syn = 8 then s.serveEffect a n (f.opcode.toNat == 1 || f.opcode.toNat == 2) else s
    if syn = 5 then
      State.recvAdvance id (c.recvs.length + 1)
        ((t.refuse id f 5 true).recvMap id (f.operand1.toNat % 2 ^ 32) fun r => { r with refused := true })
    else t.refuse id f syn (syn != 3)
  else
    let c1 := c.receive f.psn.toNat
    let b := s.connMap id fun x => x.receive f.psn.toNat
    if s.canApply c1 f then (b.applyOra id f 0).ackFor id f
    else if 64 ≤ c.held.length ∨ 2048 ≤ s.heldAll then s.bump64 0x2702 0xC
    else ((if s.targetWaits c1 f then b.copyStall a n else b).connMap id fun x => { x with held := x.held ++ [f] }).ackFor id f

/-- A duplicate (R272, R275): reads and atomics are answered from the cache, others with an ACK. -/
def State.duplicate (s : State) (id : Nat) (c : Conn) (f : OraFrame) : State :=
  let a := s.bump64 0x2702 8
  let op := f.opcode.toNat
  if op = 3 ∨ op = 5 ∨ op = 6 then
    match c.cache.find? fun e => e.psn == f.psn.toNat with
    | none => a.refuse id f 6 false
    | some e =>
      let data := s.tier1.readBytes (c.rcache + e.slot * 4096) e.len
      let b := a.tierRead (c.rcache + e.slot * 4096) e.len
      b.sendOra id true <| if e.opcode = 4 then
          { s.baseFrame id 4 c with psn := f.psn, length := BitVec.ofNat 16 e.len, payload := data }
        else { s.baseFrame id 7 c with psn := f.psn, operand1 := BitVec.ofNat 64 (leNat data) }
  else a.sendAck id

/-- The classification of a request's PSN (R272). -/
def State.classify (s : State) (id : Nat) (c : Conn) (f : OraFrame) : State :=
  let d := psnDist f.psn.toNat c.e
  if 1024 ≤ d then s.bump64 0x2702 7
  else if d < -1024 then (s.refuse id f 4 false).connError id 4 f.psn.toNat
  else if d < 0 ∨ c.got.contains f.psn.toNat then s.duplicate id c f
  else s.newRequest id c f

/-! ### Settling requests (R262, R274, R277) -/

/-- The retransmit timer of a connection, restarted: it runs while a PSN is outstanding outside an RNR interval (log 33). -/
def State.timerStart (s : State) (c : Conn) : Option Nat :=
  if c.outs.vals.any fun o => o.rnrAt.isNone then some (s.now + s.setting 0x2701 3 * psUs) else none

/-- The status with which a request that has met no refusal completes (R404). -/
def State.wrStatus (s : State) (w : WorkReq) : Status := s.suspectStatus w.job (s.copyKeys w.loc w.loc) (segsIn w.loc w.len)

/-- A work request all of whose PSNs are settled completes (R277). -/
def State.wrCheck (s : State) (wid : Nat) : State :=
  match s.wrs.find wid with
  | none => s
  | some w =>
    if w.open_ = 0 ∧ (w.refused ∨ w.len ≤ w.sent) then
      let a := s.connMap w.conn fun c => { c with sendq := c.sendq.filter fun x => x != wid }
      if w.worst = .ok then (a.faultEnd (s.wrStatus w)).wrDone wid (s.wrStatus w)
        (s.suspectTouchDet (s.copyKeys w.loc w.loc) (segsIn w.loc w.len))
      else (a.faultEnd w.worst).wrDone wid w.worst 0
    else s

/-- A PSN stops being outstanding: the timer and the retry count restart, and its request counts it (R274). -/
def State.psnSettle (s : State) (id psn : Nat) (st : Status) : State :=
  match s.conns.find id with
  | none => s
  | some c => match c.outs.find psn with
    | none => s
    | some o =>
      let c1 := { c with outs := c.outs.erase psn, order := c.order.filter fun x => x != psn, retries := 0 }
      let a := s.connMap id fun _ => { c1 with timerAt := s.timerStart c1 }
      ({ a with wrs := a.wrs.mapVals fun i w => if i = o.wr then
          { w with open_ := w.open_ - 1, worst := w.worst.worse st, refused := w.refused || st != Status.ok } else w }).wrCheck o.wr

/-- An APSN and bitmap cover a PSN (R273). -/
def covers (apsn bitmap psn : Nat) : Bool :=
  decide (0 ≤ psnDist apsn psn) || (List.range 64).any fun k => bit bitmap k && psnAdd apsn (2 + k) == psn

/-- An acknowledgement: the SENDs and WRITEs it covers are settled; a read or atomic stays outstanding until its response or a
NAK (log 34). The PSN that a NAK refuses counts as received too, and its syndrome, not this, settles it (R277). An APSN beyond the last PSN sent is discarded and counted. -/
def State.acknowledge (s : State) (id : Nat) (f : OraFrame) : State :=
  match s.conns.find id with
  | none => s
  | some c =>
    let apsn := f.apsn.toNat % 2 ^ 24
    if 0 < psnDist apsn (psnAdd c.nextPsn (2 ^ 24 - 1)) then (s.bump64 0x2702 3).fire 0x0841 id 0 else
      let hit := c.order.filter fun p => !(f.opcode.toNat == 9 && f.psn.toNat == p) && covers apsn f.operand1.toNat p && match c.outs.find p with
        | some o => o.op == 1 || o.op == 2
        | none => false
      each hit (fun x p => x.psnSettle id p .ok) s

/-- A frame that sends an outstanding PSN, first or again: its source is read at each transmission (R262). -/
def State.requestFrame (s : State) (id : Nat) (c : Conn) (w : WorkReq) (psn : Nat) (o : OutPsn) : OraFrame :=
  let fl := if o.last then 4 + bits w.flags 1 0 else 0
  let b := { s.baseFrame id o.op c with psn := BitVec.ofNat 32 psn }
  match o.op with
  | 1 => { b with
      flags := BitVec.ofNat 8 fl, tag := if o.last && bit w.flags 1 then BitVec.ofNat 16 w.rtag else 0
      addr := BitVec.ofNat 64 o.off, length := BitVec.ofNat 16 o.len, payload := s.copyRead (w.loc + o.off) o.len
      operand1 := BitVec.ofNat 64 (w.msn + w.len * 2 ^ 32) }
  | 2 => { b with
      flags := BitVec.ofNat 8 fl, tag := if o.last && bit w.flags 1 then BitVec.ofNat 16 w.rtag else 0
      addr := BitVec.ofNat 64 (w.rem + o.off), length := BitVec.ofNat 16 o.len, payload := s.copyRead (w.loc + o.off) o.len }
  | 3 => { b with flags := if o.last then 4 else 0, addr := BitVec.ofNat 64 (w.rem + o.off), operand1 := BitVec.ofNat 64 o.len }
  | 5 => { b with flags := 4, addr := BitVec.ofNat 64 w.rem, operand1 := BitVec.ofNat 64 w.op1 }
  | _ => { b with flags := 4, addr := BitVec.ofNat 64 w.rem, operand1 := BitVec.ofNat 64 w.op1, operand2 := BitVec.ofNat 64 w.op2 }

/-- The local source of an outstanding PSN that sends data. -/
def State.sourceOf (s : State) (o : OutPsn) : Option (Nat × Nat) :=
  if o.op = 1 ∨ o.op = 2 then (s.wrs.find o.wr).map fun w => (w.loc + o.off, o.len) else none
/-- It waits for an issued instruction, a store move or stopped clocks (R121). -/
def State.sourceWaits (s : State) (o : OutPsn) : Bool := (s.sourceOf o).any fun x => s.copyWaits x.1 x.2
def State.sourceStall (s : State) (o : OutPsn) : State :=
  match s.sourceOf o with
  | some (a, n) => s.copyStall a n
  | none => s

/-- A transmission's local source: an uncorrectable word makes its segment suspect and ends the request (R199); a powered-down bank
ends it with BAD_COMMAND (R137). -/
def State.transmit (s : State) (id psn : Nat) : State :=
  match s.conns.find id with
  | none => s
  | some c => match c.outs.find psn with
    | none => s
    | some o => match s.wrs.find o.wr with
      | none => s
      | some w =>
        let reads := o.op = 1 ∨ o.op = 2
        if reads ∧ s.serveBad (w.loc + o.off) o.len false = true then
          (s.serveEffect (w.loc + o.off) o.len false).psnSettle id psn (s.jobOf w.job).lossStatus
        else if reads ∧ s.localBad (w.loc + o.off) o.len false = true then s.psnSettle id psn .badCommand
        else
          (if reads then s.copyReadEffect (w.loc + o.off) o.len else s).sendOra id true (s.requestFrame id c w psn o)

/-! ### Receiving a frame (R254) -/

/-- A request's opcodes (R253). -/
def frRequest (f : OraFrame) : Bool :=
  f.opcode.toNat == 1 || f.opcode.toNat == 2 || f.opcode.toNat == 3 || f.opcode.toNat == 5 || f.opcode.toNat == 6

/-- Step 1: the frame is malformed (R252, R253). -/
def State.malformed (s : State) (f : OraFrame) : Bool :=
  let op := f.opcode.toNat
  let req := (frRequest f)
  let move := op == 1 || op == 2
  let fl := f.flags.toNat
  f.version.toNat != 0x10 || decide (8 ≤ fl) || decide (8 ≤ f.cls.toNat) || decide (2 ^ 24 ≤ f.psn.toNat)
    || decide (s.maxPayload < f.length.toNat) || f.length.toNat != f.payload.length
    || (!move && fl % 4 != 0) || (!req && op != 10 && fl != 0) || (!move && f.tag.toNat != 0)
    || (!move && op != 4 && f.length.toNat != 0) || ((op == 8 || op == 10) && f.psn.toNat != 0)
    || (!(op == 8 || op == 9) && f.apsn.toNat != 0) || (op == 8 && decide (2 ^ 24 ≤ f.apsn.toNat))
    || (op == 9 && (decide (f.apsn.toNat < 2 ^ 24) || decide (10 * 2 ^ 24 ≤ f.apsn.toNat)))
    || (!req && f.addr.toNat != 0) || decide (2 ^ 48 ≤ f.addr.toNat)
    || ((op == 2 || op == 4 || op == 10) && f.operand1.toNat != 0) || (op == 3 && decide (2 ^ 32 ≤ f.operand1.toNat))
    || (op != 6 && f.operand2.toNat != 0)

/-- The frame arrives: by a port whose link is up, having passed R285, or at the head of the loop inside the module. -/
def State.arrives (s : State) (port : Option PortRx) (f : OraFrame) : Bool :=
  s.up.yoke && match port with
  | some p => (s.portOf p.port.val).link && decide (f.payload.length ≤ s.maxPayload) && f.srcNode.toNat != s.ownNode
  | none => match ((s.portOf 8).queues.get [] (f.cls.toNat % 8)).head? with
    | some q => q.frame == f
    | none => false

/-- It is counted by its port, or leaves the loop. -/
def State.arrive (s : State) (port : Option PortRx) (f : OraFrame) : State :=
  match port with
  | some p => ((s.portCount p.port.val 3 1).portCount p.port.val 4 (OraFrameLen f)).portCount p.port.val 6 p.fecFixed
  | none =>
    let x := s.portOf 8
    s.setPort 8 { x with queues := x.queues.set (f.cls.toNat % 8) ((x.queues.get [] (f.cls.toNat % 8)).drop 1) }

/-- A credit value received (R260). -/
def Conn.creditIn (c : Conn) (v : Nat) : Conn :=
  let d := (v + 2 ^ 32 - c.lp) % 2 ^ 32
  if 1 ≤ d ∧ d ≤ 2 ^ 31 - 1 then { c with lp := v } else c

/-- Steps 1 to 5 of R254; `f` goes on with a frame that passes them. -/
def State.oraChecks (s : State) (port : Option PortRx) (fr : OraFrame) (f : State → Nat → Conn → State) : State :=
  let id := fr.dstConn.toNat
  if s.malformed fr then (s.bump64 0x2702 3).fire 0x0841 id 0 else
    let a := s.bump64 0x2702 2
    if fr.dstNode.toNat ≠ s.ownNode then (a.bump64 0x2702 4).fire 0x0842 id 0 else
      let b := match port with
        | some p => a.learn fr.srcNode.toNat p.port.val
        | none => a
      match s.conns.find id with
      | none => (b.bump64 0x2702 4).fire 0x0842 id 0
      | some c =>
        if c.st = .free ∨ c.peerNode ≠ fr.srcNode.toNat ∨ c.peerConn ≠ fr.srcConn.toNat then (b.bump64 0x2702 4).fire 0x0842 id 0
        else
          let d := b.connMap id fun x => x.creditIn fr.credit.toNat
          let c1 := c.creditIn fr.credit.toNat
          let dist := psnDist fr.psn.toNat c.e
          let new := decide (0 ≤ dist) && decide (dist < 1024) && !c.got.contains fr.psn.toNat
          if fr.key.toNat ≠ (s.jobOf c.job).key then
            if (frRequest fr) then d.refuse id fr 2 new else d.bump64 0x2702 5
          else if c.st = .error then (if (frRequest fr) then d.refuse id fr 7 new else d)
          else f d id c1

/-- A frame row: it takes effect when a frame of its opcode arrives. -/
def State.oraFrame (s : State) (port : Option PortRx) (fr : OraFrame) (op : Nat) (f : State → Nat → Conn → State) :
    Host.Outcome State Fault Refusal :=
  whenDue (fr.opcode.toNat == op && s.arrives port fr) s ((s.arrive port fr).oraChecks port fr f)

/-- ORA_SEND_FRAME (R263): placed in the posted buffer of its message. -/
def execOraSendFrame (port : Option PortRx) (fr : OraFrame) (s : State) : Host.Outcome State Fault Refusal :=
  s.oraFrame port fr 1 fun x id c => x.classify id c fr
/-- ORA_WRITE_FRAME (R264): applied at ADDR, or landed in a LANDING region. -/
def execOraWriteFrame (port : Option PortRx) (fr : OraFrame) (s : State) : Host.Outcome State Fault Refusal :=
  s.oraFrame port fr 2 fun x id c => x.classify id c fr
/-- ORA_READ_REQ_FRAME (R265): answered with READ_RESP. -/
def execOraReadReqFrame (port : Option PortRx) (fr : OraFrame) (s : State) : Host.Outcome State Fault Refusal :=
  s.oraFrame port fr 3 fun x id c => x.classify id c fr
/-- ORA_FADD_FRAME (R266). -/
def execOraFaddFrame (port : Option PortRx) (fr : OraFrame) (s : State) : Host.Outcome State Fault Refusal :=
  s.oraFrame port fr 5 fun x id c => x.classify id c fr
/-- ORA_CAS_FRAME (R266). -/
def execOraCasFrame (port : Option PortRx) (fr : OraFrame) (s : State) : Host.Outcome State Fault Refusal :=
  s.oraFrame port fr 6 fun x id c => x.classify id c fr

/-- Data of a response is stored at the request's LOCAL and its PSN is settled: with BAD_COMMAND, and nothing stored, where LOCAL
may no longer be written (R137, R221). -/
def State.response (s : State) (id psn : Nat) (o : OutPsn) (data : List Byte) : State :=
  match s.wrs.find o.wr with
  | none => s.psnSettle id psn .ok
  | some w =>
    let a := w.loc + o.off
    if (s.copyKeys a a).any s.fencedAt then (s.discard data.length).psnSettle id psn .ok
    else if s.localBad a data.length true then s.psnSettle id psn .badCommand
    else if (segsIn a data.length).all (fun g => s.dram.get false g) then (s.copyWrite a data).psnSettle id psn .ok
    else (s.discard data.length).psnSettle id psn .ok

/-- The bytes that a response carries for LOCAL. -/
def respData (fr : OraFrame) : List Byte := if fr.opcode.toNat = 4 then fr.payload else natLe 8 fr.operand1.toNat

/-- The outstanding PSN that a response answers. -/
def Conn.answeredBy (c : Conn) (fr : OraFrame) : Option OutPsn :=
  (c.outs.find fr.psn.toNat).filter fun o =>
    if fr.opcode.toNat = 4 then o.op == 3 && o.len == fr.length.toNat else o.op == 5 || o.op == 6

/-- The LOCAL range of a response waits for an issued instruction, a store move or stopped clocks (R121). -/
def State.respWaits (s : State) (o : OutPsn) (fr : OraFrame) : Bool :=
  (s.wrs.find o.wr).any fun w => s.copyWaits (w.loc + o.off) (respData fr).length

/-- A response that has passed its checks: stored, or kept until its LOCAL can be written (R121; log 91). -/
def State.responseIn (s : State) (id : Nat) (c : Conn) (fr : OraFrame) : State :=
  match c.answeredBy fr with
  | none => s
  | some o =>
    if s.respWaits o fr then
      (match s.wrs.find o.wr with
        | some w => s.copyStall (w.loc + o.off) (respData fr).length
        | none => s).connMap id fun x => { x with late := (x.late.filter fun (f : OraFrame) => f.psn != fr.psn) ++ [fr] }
    else s.response id fr.psn.toNat o (respData fr)

/-- ORA_READ_RESP_FRAME (R265): the payload goes to the LOCAL offset of its request. -/
def execOraReadRespFrame (port : Option PortRx) (fr : OraFrame) (s : State) : Host.Outcome State Fault Refusal :=
  s.oraFrame port fr 4 fun x id c => x.responseIn id c fr
/-- ORA_ATOMIC_RESP_FRAME (R266): the original word goes to LOCAL. -/
def execOraAtomicRespFrame (port : Option PortRx) (fr : OraFrame) (s : State) : Host.Outcome State Fault Refusal :=
  s.oraFrame port fr 7 fun x id c => x.responseIn id c fr
/-- ORA_ACK_FRAME (R273). -/
def execOraAckFrame (port : Option PortRx) (fr : OraFrame) (s : State) : Host.Outcome State Fault Refusal :=
  s.oraFrame port fr 8 fun x id _ => x.acknowledge id fr

/-- The status that a NAK's syndrome gives a work request (R277). -/
def nakStatus (syn : Nat) : Status :=
  if syn = 2 then .keyRejected else if syn = 8 then .regionLost else if syn = 9 then .jobAborted else .badCommand

/-- Work-request contexts in use (R279). -/
def State.contexts (s : State) : Nat :=
  (s.wrs.vals.filter fun w => (s.entryOf w.list w.idx).isSome).length
    + (s.conns.vals.map fun c => (c.recvs.filter fun r => !r.done).length).sum

/-- ORA_NAK_FRAME (R277): RNR begins its interval, SEQ, STALE and CONN put the connection in ERROR, others settle the PSN. -/
def execOraNakFrame (port : Option PortRx) (fr : OraFrame) (s : State) : Host.Outcome State Fault Refusal :=
  s.oraFrame port fr 9 fun x id _ =>
    let syn := fr.apsn.toNat / 2 ^ 24
    let p := fr.psn.toNat
    let a := x.acknowledge id fr
    match (a.conns.find id).bind fun c => (c.outs.find p).map fun o => (c, o) with
    | none => a
    | some (c, o) =>
      if syn = 3 then
        let c1 := { c with outs := c.outs.set p { o with rnrAt := some x.now } }
        (a.connMap id fun _ => { c1 with timerAt := if c1.outs.vals.any fun y => y.rnrAt.isNone then c.timerAt else none }).bump64
          0x2702 0xD
      else if syn = 4 ∨ syn = 6 ∨ syn = 7 then a.connError id syn p
      else a.psnSettle id p (nakStatus syn)

/-- ORA_CREDIT_FRAME (R260, R261): its limit is taken; with SOLICIT it is answered. -/
def execOraCreditFrame (port : Option PortRx) (fr : OraFrame) (s : State) : Host.Outcome State Fault Refusal :=
  s.oraFrame port fr 10 fun x id _ => if (frSolicit fr) then x.sendCredit id false else x

/-! ### Held frames and timers (R260, R261, R262, R267, R274, R277) -/

/-- A request that waited is applied: the ACK that it still calls for follows once it is done. A target lost meanwhile refuses it,
and its credit returns first (R260, R267, R273). -/
def State.applyHeld (s : State) (id : Nat) (c : Conn) (f : OraFrame) (i : Nat) : State :=
  let syn := s.syndrome c f
  if syn ≠ 0 then ((s.connMap id fun x => { x with landing := none }).raiseLimit id (frCost f)).refuse id f syn false
  else
    let b := s.applyOra id f i
    if ((frFinal f) || (frTagged f) || (frSolicit f)) && !((b.conns.find id).any fun x => x.landing.isSome) then b.sendAck id else b

/-- What of a connection waits and may go on: a response whose LOCAL is free, a RECV whose status word is, the landing in progress,
or the held frame of lowest PSN that can be applied. -/
def State.heldStep (s : State) (id : Nat) (c : Conn) : State :=
  match c.late.find? fun f => (c.answeredBy f).all fun o => !s.respWaits o f with
  | some f =>
    let a := s.connMap id fun x => { x with late := x.late.filter fun g => g.psn != f.psn }
    match c.answeredBy f with
    | some o => a.response id f.psn.toNat o (respData f)
    | none => a
  | none =>
    if (c.recvs.find? fun r => !r.done).any s.recvReady then State.recvAdvance id (c.recvs.length + 1) s else
    match c.landing with
    | some (f, i) => if s.targetWaits c f then s else s.applyHeld id c f i
    | none => match (c.held.mergeSort fun a b => decide (psnDist a.psn.toNat b.psn.toNat ≤ 0)).find? fun f => s.canApply c f with
      | none => s
      | some f => (s.connMap id fun x => { x with held := x.held.filter fun h => h.psn != f.psn }).applyHeld id c f 0

/-- HELD_FRAME_APPLY (R121, R264, R267): what waited on a connection and waits no more is applied. -/
def execHeldFrameApply (conn : ConnId) (s : State) : Host.Outcome State Fault Refusal :=
  match s.conns.find conn.val with
  | none => .next s
  | some c => whenDue (c.st == .opened) s (s.heldStep conn.val c)

/-- The bytes that the next frame of a request carries. -/
def State.nextLen (s : State) (w : WorkReq) : Nat := min s.maxPayload (w.len - w.sent)

/-- Opcode of a REMOTE operation's frames. -/
def wrOpcode (op : Nat) : Nat := if op = 3 then 1 else if op = 5 then 2 else if op = 6 then 3 else if op = 7 then 5 else 6

/-- Credit cost of the next frame of a request. -/
def State.nextCost (s : State) (w : WorkReq) : Nat :=
  if w.op = 3 ∨ w.op = 5 then max 1 ((s.nextLen w + 255) / 256) else 1

/-- The credit that a connection has allows a cost (R259). -/
def Conn.hasCredit (c : Conn) (cost : Nat) : Bool :=
  let d := (c.lp + 2 ^ 32 - c.used) % 2 ^ 32
  decide (cost ≤ d) && decide (d < 2 ^ 31)

/-- The limits of 1,024 outstanding PSNs and 64 reads and atomics (R262). -/
def Conn.hasRoom (c : Conn) (op : Nat) : Bool :=
  decide (c.order.length < 1024) && (op == 3 || op == 5 ||
    decide ((c.outs.vals.filter fun o => o.op != 1 && o.op != 2).length < 64))

/-- The next frame of a work request is numbered, charged and sent (R259, R262). -/
def State.sendNext (s : State) (id wid : Nat) (c : Conn) (w : WorkReq) : State :=
  let n := s.nextLen w
  let first := w.op = 3 ∧ w.sent = 0
  let w1 := { w with sent := w.sent + n, open_ := w.open_ + 1, msn := if first then c.sendMsn else w.msn }
  let last := decide (w.len ≤ w1.sent)
  let o : OutPsn := ⟨wid, wrOpcode w.op, w.sent, n, last, none⟩
  let c1 := { c with
    outs := c.outs.set c.nextPsn o, order := c.order ++ [c.nextPsn], nextPsn := psnAdd c.nextPsn 1
    used := (c.used + s.nextCost w) % 2 ^ 32, creditAt := none, sendMsn := if first then c.sendMsn + 1 else c.sendMsn
    sendq := if last then c.sendq.filter fun x => x != wid else c.sendq
    timerAt := match c.timerAt with
      | some t => some t
      | none => some (s.now + s.setting 0x2701 3 * psUs) }
  (({ s with wrs := s.wrs.set wid w1 }).connMap id fun _ => c1).transmit id c.nextPsn

/-- A work request sends nothing more and completes with `st` once its frames are settled. -/
def State.wrRefuse (s : State) (id wid : Nat) (st : Status) : State :=
  let a := s.connMap id fun x => { x with sendq := x.sendq.filter fun y => y != wid }
  ({ a with wrs := a.wrs.mapVals fun i w => if i = wid then { w with refused := true, worst := w.worst.worse st } else w }).wrCheck wid

/-- ORA_REQUEST_SEND (R259, R262): the head of the send queue sends its next frame, or begins to wait for credit (R261). A
request whose entry has ended otherwise leaves. -/
def execOraRequestSend (conn : ConnId) (s : State) : Host.Outcome State Fault Refusal :=
  let id := conn.val
  match s.conns.find id with
  | none => .next s
  | some c => match c.sendq.head? with
    | none => .next s
    | some wid => match s.wrs.find wid with
      | none => .next (s.connMap id fun x => { x with sendq := x.sendq.drop 1 })
      | some w =>
        whenDue (c.st == .opened) s <|
          if (s.entryOf w.list w.idx).isNone ∨ w.refused then
            (s.connMap id fun x => { x with sendq := x.sendq.drop 1 }).wrCheck wid
          else if c.hasRoom w.op = false then s
          else if c.hasCredit (s.nextCost w) then
            let a := w.loc + w.sent
            let reads := w.op = 3 ∨ w.op = 5
            if reads ∧ s.copyWaits a (s.nextLen w) = true then s.copyStall a (s.nextLen w)
            else if reads ∧ s.localBad a (s.nextLen w) false = true then s.wrRefuse id wid .badCommand
            else s.sendNext id wid c w
          else if c.creditAt.isNone then
            (s.connMap id fun x => { x with creditAt := some s.now }).bump64 0x2702 0xB
          else s

/-- The connection has failed as a unit (R199, R274). In a STRICT job it keeps its state, with nothing outstanding. -/
def State.connFail (s : State) (id : Nat) (c : Conn) : State :=
  let a := (s.fire 0x0845 id 1).event (s.connOwner c) 0xFF41 0x0845 s.stamp (natLe 2 id ++ [0] ++ natLe 3 (c.order.headD 0))
  if (s.jobOf c.job).elastic then (a.connEnd id .regionLost 0x0845).connMap id fun x => { x with st := .error, ackAt := none }
  else (a.jobAbort c.job .jobAborted 0x0845).connEnd id .jobAborted 0x0845

/-- RETRANSMIT_TIMEOUT (R274): every PSN that nothing covers is sent again, in order; past the retry limit the connection has
failed. The round waits while a source does (R121). -/
def execRetransmitTimeout (conn : ConnId) (s : State) : Host.Outcome State Fault Refusal :=
  let id := conn.val
  match s.conns.find id with
  | none => .next s
  | some c => match c.timerAt with
    | none => .next s
    | some t =>
      whenDue (c.st == .opened) s <|
        let a := s.advanceTo t
        if s.setting 0x2701 4 < c.retries + 1 then a.connFail id c
        else
          let again := c.order.filter fun p => match c.outs.find p with
            | some o => o.rnrAt.isNone
            | none => false
          match (again.filterMap c.outs.find).find? s.sourceWaits with
          | some o => s.sourceStall o
          | none => each again (fun x p => x.transmit id p)
            ((a.connMap id fun x => { x with retries := c.retries + 1, timerAt := some (a.now + s.setting 0x2701 3 * psUs) }).bump64
              0x2702 9)

/-- ACK_DELAY_EXPIRY (R260, R273): an ACK for frames received since the last, else a CREDIT for a limit that has risen. -/
def execAckDelayExpiry (conn : ConnId) (s : State) : Host.Outcome State Fault Refusal :=
  let id := conn.val
  match s.conns.find id with
  | none => .next s
  | some c => match c.ackAt with
    | none => .next s
    | some t =>
      whenDue (c.st == .opened) s <|
        let a := (s.advanceTo t).connMap id fun x => { x with ackAt := none }
        if 0 < c.sinceAck then a.sendAck id else if c.creditDue then a.sendCredit id false else a

/-- CREDIT_PROBE (R261): a frame has waited for credit for the probe interval, and a CREDIT frame asks for it. -/
def execCreditProbe (conn : ConnId) (s : State) : Host.Outcome State Fault Refusal :=
  let id := conn.val
  match s.conns.find id with
  | none => .next s
  | some c => match c.creditAt, (c.sendq.head?).bind s.wrs.find with
    | some t, some w =>
      whenDue (c.st == .opened && !c.hasCredit (s.nextCost w)) s <|
        let a := s.advanceTo (t + s.setting 0x2701 6 * psUs)
        (a.connMap id fun x => { x with creditAt := some a.now }).sendCredit id true
    | _, _ => .next s

/-- RNR_RETRY (R277): the RNR interval of a PSN is over and it is sent again. -/
def execRnrRetry (conn : ConnId) (psn : BitVec 24) (s : State) : Host.Outcome State Fault Refusal :=
  let id := conn.val
  match (s.conns.find id).bind fun c => (c.outs.find psn.toNat).bind fun o => o.rnrAt.map fun t => (c, o, t) with
  | none => .next s
  | some (c, o, t) =>
    whenDue (c.st == .opened) s <| if s.sourceWaits o then s.sourceStall o else
      let a := s.advanceTo (t + s.setting 0x2701 5 * psUs)
      let c1 := { c with outs := c.outs.set psn.toNat { o with rnrAt := none } }
      (a.connMap id fun _ => { c1 with timerAt := match c.timerAt with
        | some u => some u
        | none => a.timerStart c1 }).transmit id psn.toNat

end Sys2Proof.Machine
end

