-- ==== Sys2Proof/Machine/Pleats.lean ====
section
/-! DEFINITION. Operations shared by the streaming commands (05): CRC-32C, pleat headers, the order of landing, void
landing, landing states, failing pleats, NVMe commands, staging, the completion of plan entries. -/

namespace Sys2Proof.Machine

/-! ### CRC-32C and pleats (R156 to R158) -/

/-- CRC-32C (R157): polynomial 0x1EDC6F41, reflected. -/
def crc32c (bs : List Byte) : Nat := (bs.foldl (fun c b => crcByte 0x82F63B78 c b.toNat) 0xFFFFFFFF) ^^^ 0xFFFFFFFF

/-- Lines of a weight block of a format class (R156). -/
def pleatBlock (cls : Nat) : Nat := if cls ≤ 1 then 16 else 32

/-- The header at a tier 1 address is whole: its MAGIC and its CRC. -/
def State.headerAt (s : State) (a : Nat) : Bool :=
  s.tier1.readLe a 4 == 0x504C5431 && s.tier1.readLe (a + 0x3C) 4 == crc32c (s.tier1.readBytes a 0x3C)

/-- The checks of R158 on a staged pleat. -/
def State.pleatOk (s : State) (p : Pleat) : Bool :=
  let f := fun o n => s.tier1.readLe (p.tier1 + o) n
  let nl := f 0xA 2
  s.headerAt p.tier1 && f 4 2 == 1 && decide (f 6 1 ≤ 3) && decide (1 ≤ f 8 2) && decide (f 8 2 ≤ 1024)
    && nl == f 8 2 * pleatBlock (f 6 1) && f 0xC 1 == p.step && f 0xD 1 == p.rx && f 0xE 1 == p.ry && f 7 1 == p.variant
    && f 0xF 1 == 0 && (s.tier1.readBytes (p.tier1 + 0x14) 40).all (fun b => b == 0) && decide ((nl + 1) * 64 ≤ p.lbas * 4096)
    && f 0x10 4 == crc32c (s.tier1.readBytes (p.tier1 + 64) (nl * 64))

/-- NLINES of a pleat that is void-landed: its header's, a free value where no valid header stands in tier 1 (log 27). -/
def State.voidLines (s : State) (p : Pleat) : Nat :=
  if s.headerAt p.tier1 then s.tier1.readLe (p.tier1 + 0xA) 2 else (Config.freeWord s.fresh).toNat % 65536

/-! ### Plans, passes, lanes -/

/-- A plan is changed. -/
def State.planMap (s : State) (pl : Nat) (f : Plan → Plan) : State :=
  { s with plans := s.plans.mapVals fun i p => if i = pl then f p else p }
/-- A pleat of a plan is changed. -/
def Plan.pleatMap (p : Plan) (i : Nat) (f : Pleat → Pleat) : Plan :=
  { p with pleats := p.pleats.zipIdx.map fun x => if x.2 = i then f x.1 else x.1 }
/-- A pass of a plan is changed. -/
def Plan.passMap (p : Plan) (j : Nat) (f : Pass → Pass) : Plan :=
  { p with passes := p.passes.mapVals fun k q => if k = j then f q else q }

/-- A pass fetches a pleat (R165). -/
def Pass.needs (q : Pass) (x : Pleat) : Bool := x.variant == 0 || q.variants.contains x.variant
/-- A lane needs a pleat (R169). -/
def Lane.needs (l : Lane) (x : Pleat) : Bool := x.variant == 0 || l.variant == x.variant
/-- What has become of a pleat in a pass. -/
def Pass.state (q : Pass) (i : Nat) : Nat := q.pleats.get 0 i
/-- A step of a plan; a step that does not exist reads as zeros. -/
def Plan.stepOf (p : Plan) (k : Nat) : StepRec := p.steps.getD k ⟨0, 0, 0, 0, 0, 0⟩

/-- A pleat awaited on a tile: its compute line, pass, number and record. -/
structure Awaited where
  line : Nat
  pass : Nat
  idx : Nat
  pleat : Pleat
  deriving DecidableEq, Repr

/-- Landing order (R167): by compute line, pass, step, and the shared pleat before the variants in rising order. -/
def Awaited.before (a b : Awaited) : Bool :=
  decide (a.line < b.line) || (a.line == b.line && (decide (a.pass < b.pass) || (a.pass == b.pass &&
    (decide (a.pleat.step < b.pleat.step) || (a.pleat.step == b.pleat.step && decide (a.pleat.variant ≤ b.pleat.variant))))))

/-- The pleats that the passes in progress fetch for one tile, in landing order. -/
def Plan.landings (p : Plan) (rx ry : Nat) : List Awaited :=
  (p.passes.cells.flatMap fun c => (p.pleats.zipIdx.filter fun x => x.1.rx == rx && x.1.ry == ry && c.2.needs x.1).map
    fun x => (⟨c.2.b + (p.stepOf x.1.step).c, c.1, x.2, x.1⟩ : Awaited)).mergeSort Awaited.before

/-- What has become of an awaited pleat. -/
def Plan.stateOf (p : Plan) (a : Awaited) : Nat :=
  match p.passes.find a.pass with
  | some q => q.state a.idx
  | none => 1

/-- The next pleat to land, or to be void-landed, on a tile. -/
def Plan.nextFor (p : Plan) (rx ry : Nat) : Option Awaited :=
  (p.landings rx ry).find? fun a => p.stateOf a == 0 || p.stateOf a == 2

/-- A pleat's landing state in a pass is kept. -/
def State.setLanding (s : State) (pl j i v : Nat) : State :=
  s.planMap pl fun p => p.passMap j fun q => { q with pleats := q.pleats.set i v }

/-- A region that stream landings may write (R167). -/
def RegionSt.stream (g : RegionSt) : Bool := g.enable && g.producer == 2

/-- TAIL of a region moves on by `n` lines. -/
def State.tailOn (s : State) (k r n : Nat) : State :=
  let t := s.tileOf k
  let g := t.regionOf r
  let (p, w) := advance g.size g.tail g.twrap n
  s.setTile k { t with regions := t.regions.set r { g with tail := p, twrap := w } }

/-- Failed pleats whose turn has come are void-landed (R168): TAIL advances by NLINES once the region has room. -/
def State.voidRun (pl rx ry : Nat) : Nat → State → State
  | 0, s => s
  | fuel + 1, s =>
    match s.plans.find pl with
    | none => s
    | some p =>
      match p.nextFor rx ry with
      | none => s
      | some a =>
        let ready := match p.passes.find a.pass with
          | some q => q.fetched.contains a.pleat.step
          | none => false
        if p.stateOf a ≠ 2 ∨ ready = false then s else
          let done := s.setLanding pl a.pass a.idx 3
          match s.wafer.phys (p.lx + rx) (p.ly + ry) with
          | none => State.voidRun pl rx ry fuel done
          | some k =>
            let g := (s.tileOf k).regionOf a.pleat.region
            let n := s.voidLines a.pleat
            if g.stream = false then State.voidRun pl rx ry fuel done
            else if g.size < g.occ + n then s
            else State.voidRun pl rx ry fuel (done.tailOn k a.pleat.region n).draw

/-- `voidRun` over everything that may wait on the tile. -/
def State.voids (s : State) (pl rx ry : Nat) : State :=
  match s.plans.find pl with
  | none => s
  | some p => State.voidRun pl rx ry (p.pleats.length * p.passes.cells.length + 1) s

/-- Stream tag of a step of a pass (R166). -/
def streamTag (k j : Nat) : Nat := k + 256 * (j % 2)

/-- The landing state of a step's tag on a tile is made final once its landing line has passed and every pleat that the tile
needs for the step has landed or failed; a tile that needs none has LANDED at the landing line (R168). -/
def State.tagFinal (s : State) (pl j k rx ry : Nat) (onTime : Bool) : State :=
  match s.plans.find pl, s.wafer.phys ((s.plans.find pl).elim 0 (·.lx) + rx) ((s.plans.find pl).elim 0 (·.ly) + ry) with
  | some p, some key =>
    match p.passes.find j with
    | none => s
    | some q =>
      let xs := ((p.pleats.zipIdx.filter fun x => x.1.rx == rx && x.1.ry == ry && x.1.step == k && q.needs x.1).map
        fun x => q.state x.2)
      let t := s.tileOf key
      let tag := streamTag k j
      if q.landings.contains k && t.tags.find tag == some 3 && xs.all (fun v => v != 0) then
        s.setTile key { t with tags := t.tags.set tag (if xs.any (fun v => decide (2 ≤ v)) then 2 else if onTime then 0 else 1) }
      else s
  | _, _ => s

/-- Live lanes of a pass that need a pleat complete with a status and are counted in 0x2403 (R169, R170). -/
def State.lanesEnd (s : State) (q : Pass) (x : Pleat) (st : Status) (det sub : Nat) : State :=
  each (q.lanes.filter fun l => l.live && l.needs x) (fun y l => (y.bump64 0x2403 sub).frameDone l.frame st det) s

/-! ### NVMe commands (R148, R150) -/

/-- A segment at power-up: link down, transfer limit 1 MiB. -/
def seg0 : Seg :=
  { flash := .linkDown, gen := 0, queues := 0, entries := 0, nsze := 0, limit := 256, timeouts := 0, warning := 0
    smartAt := 0, retryAt := 0, nextCid := 0, cmds := .empty }
def State.seg (s : State) (g : Nat) : Seg := s.segs.get seg0 g
def State.setSeg (s : State) (g : Nat) (x : Seg) : State := { s with segs := s.segs.set g x }

/-- The commands into which a transfer is split: LBA offset and length (R148). -/
def Seg.pieces (x : Seg) (lbas : Nat) : List (Nat × Nat) :=
  (List.range ((lbas + x.limit - 1) / x.limit)).map fun i => (i * x.limit, min x.limit (lbas - i * x.limit))

/-- One NVMe command is issued. A Write carries its data from tier 1. -/
def State.nvmeIssue (s : State) (g op lba lbas addr : Nat) (for_ : NvmeFor) : State :=
  let x := s.seg g
  let data := if op = 1 then s.tier1.readBytes addr (lbas * 4096) else []
  let s1 := s.setSeg g { x with nextCid := x.nextCid + 1, cmds := x.cmds.set x.nextCid ⟨op, lba, lbas, addr, s.now, for_⟩ }
  { s1 with out := s1.out ++ [.nvme (Fin.ofNat 16 g) x.nextCid op lba lbas data] }

/-- The pieces of a Read (2) or Write (1); Flush (0) and Dataset Management (9) are one command. -/
def State.nvmeSend (s : State) (g op lba lbas addr : Nat) (for_ : NvmeFor) : State :=
  if op = 1 ∨ op = 2 then
    each ((s.seg g).pieces lbas) (fun x (c : Nat × Nat) => x.nvmeIssue g op (lba + c.1) c.2 (addr + c.1 * 4096) for_) s
  else s.nvmeIssue g op lba lbas addr for_

/-- How many commands that makes. -/
def State.nvmeParts (s : State) (g op lbas : Nat) : Nat := if op = 1 ∨ op = 2 then ((s.seg g).pieces lbas).length else 1

/-- A segment's flash serves: R150's state IN_SERVICE. -/
def State.flashUp (s : State) (g : Nat) : Bool := (s.seg g).flash == .inService

/-! ### Staging (R161, R170, R171) -/

/-- The commands of a pleat that are still out no longer serve it; they stay outstanding, and a timeout or an error status of
one counts as any other (R150). -/
def NvmeCmd.drop (c : NvmeCmd) (pl i : Nat) : NvmeCmd := if c.for_ = .pleat pl i then { c with for_ := .nothing } else c
def State.pleatDrop (s : State) (pl i : Nat) : State :=
  { s with segs := s.segs.mapVals fun _ x => { x with cmds := x.cmds.mapVals fun _ c => c.drop pl i } }

/-- A pleat is staged, or fails because its flash or DRAM is out of service. -/
def State.stagePleat (s : State) (pl i : Nat) : State :=
  match s.plans.find pl with
  | none => s
  | some p => match p.pleats[i]? with
    | none => s
    | some x =>
      let a := s.pleatDrop pl i
      if s.flashUp x.seg && s.dram.get false x.seg then
        (a.planMap pl fun q => q.pleatMap i fun y => { y with st := .staging, cmds := s.nvmeParts x.seg 2 x.lbas }).nvmeSend
          x.seg 2 x.lba x.lbas x.tier1 (.pleat pl i)
      else
        (a.planMap pl fun q => q.pleatMap i fun y => { y with st := .failed, cmds := 0, attempts := y.attempts + 1 }).bump64
          0x2403 6

/-- A failed pleat is staged again, while its failed attempts are below the limit (R171). -/
def State.restagePleat (s : State) (pl i : Nat) : State :=
  match s.plans.find pl with
  | none => s
  | some p => match p.pleats[i]? with
    | none => s
    | some x =>
      if x.st = .failed ∧ x.attempts < s.setting 0x2401 5 then (s.bump64 0x2403 7).stagePleat pl i else s

/-- The segments that a plan's pleats are homed on. -/
def Plan.segments (p : Plan) : List Nat := (p.pleats.map fun x => x.seg).dedup

/-- An entry of a plan's job completes with the worse of a status and what a suspect segment it touches will give it (R22,
R404). -/
def State.planEntryDone (s : State) (e : Nat × Nat) (j : Nat) (segs : List Nat) (st : Status) (det : Nat) : State :=
  let w := st.worse (s.suspectStatus j [] segs)
  (s.faultEnd w).entryDone e.1 e.2 w (if w = st then det else s.suspectTouchDet [] segs) 0 0xFFFF

/-- Every pleat is RESIDENT, or some is FAILED. -/
def Plan.outcome (p : Plan) : Status := if p.pleats.all fun x => x.st == .resident then .ok else .tierFailed

/-- When no pleat of a plan is being staged, a STAGING plan becomes ACTIVE and its activation completes (R161), and so do
its RESTAGE entries (log 28). -/
def State.planCheck (s : State) (pl : Nat) : State :=
  match s.plans.find pl with
  | none => s
  | some p =>
    if p.pleats.any (fun x => x.st == .staging) then s else
      let s1 := s.planMap pl fun q => { q with
        st := if q.st = .staging then .active else q.st
        firstB := if q.st = .staging then s.beat.n + 1 else q.firstB
        activator := none, restagers := [] }
      let s2 := match p.activator with
        | some e => s1.planEntryDone e p.job p.segments p.outcome 0
        | none => s1
      each p.restagers (fun x e => x.planEntryDone e p.job p.segments p.outcome 0) s2

/-- A pleat fails (R170): the lanes in progress that need it end with TIER_FAILED, it is void-landed in its place, landing
states follow, and a PINNED plan stages it again at once after a tier 1 error (`again`). Only the failure of its staging is a
failed attempt (R171). -/
def State.pleatFail (s : State) (pl i det : Nat) (again : Bool) : State :=
  match s.plans.find pl with
  | none => s
  | some p => match p.pleats[i]? with
    | none => s
    | some x =>
      let a := ((s.pleatDrop pl i).planMap pl fun q => q.pleatMap i fun y =>
        { y with st := .failed, cmds := 0, attempts := if y.st = .staging then y.attempts + 1 else y.attempts }).bump64 0x2403 6
      let hit := p.passes.cells.filter fun c => c.2.needs x && c.2.state i == 0
      let b := each hit (fun y c => (y.setLanding pl c.1 i 2).lanesEnd c.2 x .tierFailed det 5) a
      let c := b.voids pl x.rx x.ry
      let d := each hit (fun y c => y.tagFinal pl c.1 x.step x.rx x.ry false) c
      (if again && !p.streamed then d.restagePleat pl i else d).planCheck pl

end Sys2Proof.Machine
end

