-- ==== Sys2Proof/Machine/Nvme.lean ====
section
/-! DEFINITION. Commands of the NVMe host and of tier 1's upkeep (05): links, completions, timeouts, SMART, patrol scrub,
the segment query, and the flash operations of the STREAM engine. -/

namespace Sys2Proof.Machine

/-! ### Failing and completing commands (R150) -/

/-- The last part of a flash entry completes with the worse of its own status and what a suspect segment it touches will give it
(R22, R404). -/
def State.flashPart (s : State) (id idx g : Nat) (st : Status) (det : Nat) : State :=
  match s.entryOf id idx, s.lists.find id with
  | some e, some l =>
    let own := e.worst.worse st
    let w := own.worse (s.suspectStatus l.job [] [g])
    if e.parts = 1 ∧ w ≠ own then (s.faultEnd w).partDone id idx w (s.suspectTouchDet [] [g])
    else s.partDone id idx st det
  | _, _ => s

/-- A pleat is being staged. -/
def State.isStaging (s : State) (pl i : Nat) : Bool :=
  match s.plans.find pl with
  | none => false
  | some p => (p.pleats[i]?.map fun x => x.st == .staging).getD false

/-- A command fails: the pleat it stages fails, or its entry's part ends with TIER_FAILED. -/
def State.nvmeFail (s : State) (g : Nat) (c : NvmeCmd) (det : Nat) : State :=
  match c.for_ with
  | .nothing => s
  | .pleat pl i => if s.isStaging pl i then s.pleatFail pl i det false else s
  | .entry id idx => s.flashPart id idx g .tierFailed det

/-- Every outstanding command of a segment fails. -/
def State.nvmeFailAll (s : State) (g det : Nat) : State :=
  let x := s.seg g
  each x.cmds.vals (fun y c => y.nvmeFail g c det) (s.setSeg g { x with cmds := .empty })

/-! ### Links (R146, R147, R149, R150) -/

/-- What an SSD lacks of R147. -/
def ssdBad (i : SsdInfo) : Bool :=
  !i.nsPresent || i.lbads != 12 || i.metadata || i.protection
    || (i.mdts != 0 && decide (2 ^ (i.mdts + 12 + i.mpsmin) < 2 ^ 18)) || decide (i.mqes < 63) || !i.pages4k

/-- The transfer limit in LBAs (R148). -/
def ssdLimit (i : SsdInfo) : Nat := if i.mdts = 0 then 256 else min (2 ^ (i.mdts + 12 + i.mpsmin)) (2 ^ 20) / 4096

/-- NVME_LINK_UP (R146, R147, R149): the link has trained, or a reset of the controller is over; the SSD is checked, and it
is REJECTED with 0x0606 or taken into service with its queues. -/
def execNvmeLinkUp (seg : SegId) (gen : Nat) (info : SsdInfo) (s : State) : Host.Outcome State Fault Refusal :=
  let g := seg.val
  let x := s.seg g
  let y := if x.flash = .linkDown then { x with gen := gen } else x
  whenDue ((x.flash == .linkDown || x.flash == .resetting) && (s.domainOf (1 + g)).st == .on && s.up.yoke
      && decide (1 ≤ gen) && decide (gen ≤ 5)) s <|
    if ssdBad info then (s.setSeg g { y with flash := .rejected, queues := 0, entries := 0, timeouts := 0 }).fire 0x0606 g 0
    else s.setSeg g { y with
      flash := .inService, queues := min 8 info.granted, entries := min (info.mqes + 1) 256, nsze := info.nsze
      limit := ssdLimit info, timeouts := 0, smartAt := s.now + s.setting 0x2401 7 * psS }

/-- NVME_LINK_DOWN (R150): LINK_DOWN, every outstanding command fails, detector 0x0601. -/
def execNvmeLinkDown (seg : SegId) (s : State) : Host.Outcome State Fault Refusal :=
  let g := seg.val
  let x := s.seg g
  whenDue (x.flash != .linkDown) s <|
    ((s.setSeg g { x with flash := .linkDown, gen := 0, queues := 0, entries := 0, timeouts := 0
                          retryAt := s.now + s.setting 0x2401 6 * psMs }).fire 0x0601 g 0).nvmeFailAll g 0x0601

/-- NVME_LINK_RETRY (R150): link training is retried at the interval of 0x2401:06. -/
def execNvmeLinkRetry (seg : SegId) (s : State) : Host.Outcome State Fault Refusal :=
  let g := seg.val
  let x := s.seg g
  whenDue (x.flash == .linkDown && (s.domainOf (1 + g)).st == .on && s.up.yoke) s <|
    let a := s.advanceTo x.retryAt
    a.setSeg g { x with retryAt := a.now + s.setting 0x2401 6 * psMs }

/-! ### Timeouts and completions (R148, R150) -/

/-- The controller is reset (R150). -/
def State.nvmeReset (s : State) (g : Nat) : State :=
  let a := ((s.setSeg g { s.seg g with flash := .resetting, queues := 0, entries := 0, timeouts := 0 }).fire 0x0605 g 0).nvmeFailAll
    g 0x0605
  { a with out := a.out ++ [.nvmeReset (Fin.ofNat 16 g)] }

/-- A command counts as failed by its timeout; at the threshold of 0x2401:04 consecutive timeouts the controller is reset. -/
def State.nvmeTimeout (s : State) (g cid : Nat) (c : NvmeCmd) : State :=
  let x := s.seg g
  let a := (s.setSeg g { x with cmds := x.cmds.erase cid, timeouts := x.timeouts + 1 }).segCount g 7 1
  let b := (a.fire 0x0602 g 0).nvmeFail g c 0x0602
  if s.setting 0x2401 4 ≤ x.timeouts + 1 then b.nvmeReset g else b

/-- NVME_COMMAND_TIMEOUT (R150): a command has not completed within 0x2401:03 ms. -/
def execNvmeCommandTimeout (seg : SegId) (cid : Nat) (s : State) : Host.Outcome State Fault Refusal :=
  let g := seg.val
  match (s.seg g).cmds.find cid with
  | none => .next s
  | some c => .next ((s.advanceTo (c.sentAt + s.setting 0x2401 3 * psMs)).nvmeTimeout g cid c)

/-- Data of a Read arrives: it is written to tier 1 while whatever asked for it still waits (log 29). -/
def State.nvmeData (s : State) (g : Nat) (c : NvmeCmd) (data : List Byte) : State :=
  let wanted := s.dram.get false g && match c.for_ with
    | .nothing => false
    | .pleat _ _ => true
    | .entry id idx => (s.entryOf id idx).isSome
  (if wanted then s.tierWrite c.addr data else s).segCount g 0xB data.length

/-- A command has completed with success: one command less for its pleat, one part less for its entry. -/
def State.nvmeGood (s : State) (g : Nat) (c : NvmeCmd) : State :=
  match c.for_ with
  | .nothing => s
  | .pleat pl i => s.planMap pl fun p => p.pleatMap i fun x => { x with cmds := x.cmds - 1 }
  | .entry id idx => s.flashPart id idx g .ok 0

/-- NVME_COMPLETION (R148, R150): the data of a Read arrives in tier 1, or the command fails; a failed Read fires 0x0603. -/
def execNvmeCompletion (seg : SegId) (cid : Nat) (success : Bool) (data : List Byte) (s : State) :
    Host.Outcome State Fault Refusal :=
  let g := seg.val
  let x := s.seg g
  match x.cmds.find cid with
  | none => .next s
  | some c =>
    let a := s.setSeg g { x with cmds := x.cmds.erase cid, timeouts := 0 }
    whenDue (!success || c.op != 2 || data.length == c.lbas * 4096) s <|
      if success then (if c.op = 2 then a.nvmeData g c data else a).nvmeGood g c
      else if c.op = 2 then ((a.segCount g 8 1).fire 0x0603 g 0).nvmeFail g c 0x0603
      else a.nvmeFail g c 0

/-- SMART_POLL (R151): the log is read at its interval; a nonzero Critical Warning fires 0x0607 and is mirrored. -/
def execSmartPoll (seg : SegId) (critical : Byte) (s : State) : Host.Outcome State Fault Refusal :=
  let g := seg.val
  let x := s.seg g
  whenDue (x.flash == .inService) s <|
    let a := s.advanceTo x.smartAt
    let b := a.setSeg g { x with warning := critical.toNat, smartAt := a.now + s.setting 0x2401 7 * psS }
    if critical = 0 then b else b.fire 0x0607 g 0

/-! ### Patrol scrub (R154, R401) -/

/-- 24 h in picoseconds. -/
def scrubPeriod : Nat := 86400 * psS

/-- PATROL_SCRUB (R154): once every 24 h, counted from the segments' first scrub (log 73), the whole of tier 1 is read:
single-bit errors in written granules are corrected, uncorrectable ones fire 0x0502 and make their segment suspect (R401,
log 26). -/
def execPatrolScrub (upsets : List TierUpset) (s : State) : Host.Outcome State Fault Refusal :=
  let c := s.advanceTo s.up.patrolAt
  let a := { c with up := { c.up with patrolAt := c.now + scrubPeriod } }.tierStrike upsets
  let live := fun (w : Nat) => a.dram.get false (segOf (w * 8))
  let b := each ((a.tierErrors 0 tier1Size false).filter live) State.tierFix a
  whenDue ((List.range 16).any fun g => s.dram.get false g) s <|
    each ((a.tierErrors 0 tier1Size true).filter live)
      (fun x w => (x.tierLost w).suspect (.dram (segOf (w * 8))) 0x0502) b

/-! ### Query (R175) -/

/-- Number of a flash state. -/
def flashNum : FlashSt → Nat
  | .inService => 0 | .linkDown => 1 | .resetting => 2 | .rejected => 3

/-- The word of 0x2410:02. -/
def State.segWord (s : State) (g : Nat) : Nat :=
  let x := s.seg g
  flag (!s.dram.get false g) + flashNum x.flash * 2 + x.queues * 8 + x.gen * 128 + x.entries * 65536

/-- Effect of segmentQuery once its access has passed checks 1 to 5. -/
def fxSegmentQuery (v : Byte) : Effect := fun x =>
    let g := v.toNat
    if 16 ≤ g then .error outOfRange
    else .ok (x.putCells 0x2410 ([(1, g), (2, x.segWord g), (3, (x.seg g).nsze)]
      ++ ((List.range 8).map fun i => (4 + i, x.segCtr.get 0 (g * 16 + 4 + i)))
      ++ [(0xC, (x.seg g).warning), (0xD, x.dramDemand g % 2 ^ 32)]))

/-- SEGMENT_QUERY (R175): state, counters and peak demand of the named segment. -/
def execSegmentQuery (path : Path) (v : Byte) (s : State) : Host.Outcome State Fault Refusal :=
  s.odWrite path 0x2410 1 (fxSegmentQuery v)

/-! ### Flash entries (R148, R198, R203) -/

/-- Fields of a flash entry. -/
def EntryRun.flashSeg (e : EntryRun) : Nat := e.field 4 1
def EntryRun.flashLba (e : EntryRun) : Nat := e.field 8 8
def EntryRun.flashAddr (e : EntryRun) : Nat := e.field 0x10 8
def EntryRun.flashLbas (e : EntryRun) : Nat := e.field 0x18 4

/-- The conditions of FREAD and FWRITE: LBAS, the segment's range, the job's FLASH flag and ranges. -/
def State.flashConds (s : State) (l : ListRun) (e : EntryRun) : List Status :=
  let n := e.flashLbas * 4096
  cond (!e.restZero [(4, 1), (8, 8), (0x10, 8), (0x18, 4)] || decide (16 ≤ e.flashSeg) || e.flashLbas == 0
      || decide (e.flashAddr < e.flashSeg * segSize) || decide ((e.flashSeg + 1) * segSize < e.flashAddr + n)) .badCommand
    ++ cond (!(s.jobOf l.job).flash || !(s.jobOf l.job).covers e.flashAddr n) .keyRejected

/-- The conditions of FFLUSH and FTRIM. -/
def State.flashOnly (s : State) (l : ListRun) (e : EntryRun) (fields : List (Nat × Nat)) : List Status :=
  cond (!e.restZero fields || decide (16 ≤ e.flashSeg)) .badCommand ++ cond (!(s.jobOf l.job).flash) .keyRejected

/-- The commands of an accepted flash entry are issued. -/
def State.flashSend (s : State) (id idx : Nat) (e : EntryRun) (op : Nat) : State :=
  let g := e.flashSeg
  (s.entryMap id idx fun x => { x with parts := s.nvmeParts g op e.flashLbas }).nvmeSend g op e.flashLba e.flashLbas
    e.flashAddr (.entry id idx)

/-- A flash entry that moves data between its segment's SSD and tier 1: op 2 reads flash, op 1 writes it. -/
def State.flashMove (s : State) (list idx eop op : Nat) : Host.Outcome State Fault Refusal :=
  match s.handed list idx 1 eop with
  | none => .next s
  | some (l, e) =>
    let g := e.flashSeg
    let n := e.flashLbas * 4096
    let st := worst (s.jobConds l.job ++ s.flashConds l e)
    if st ≠ .ok then .next (s.entryRefuse list idx st 0)
    else
      let a := s.entryAccept list idx
      if s.dram.get false g = false then .next (a.entryLost list idx l.job dramDet)
      else if s.flashUp g = false then .next (a.entryDone list idx .tierFailed 0 0 0xFFFF)
      else whenDue (s.dmaReady [g]) s <|
        if op = 1 ∧ s.tierBad e.flashAddr n then
          ((a.tierRead e.flashAddr n).suspect (.dram g) dramDet).entryLost list idx l.job dramDet
        else ((if op = 1 then a.tierRead e.flashAddr n else a).dmaTake [g] list idx l.job).flashSend list idx e op

/-- FREAD (R203): flash to tier 1. -/
def execFread (list idx : Nat) (s : State) : Host.Outcome State Fault Refusal := s.flashMove list idx 8 2
/-- FWRITE (R203): tier 1 to flash. -/
def execFwrite (list idx : Nat) (s : State) : Host.Outcome State Fault Refusal := s.flashMove list idx 9 1

/-- FFLUSH (R203): NVMe Flush. -/
def execFflush (list idx : Nat) (s : State) : Host.Outcome State Fault Refusal :=
  s.accept list idx 1 0xA (fun l e => s.flashOnly l e [(4, 1)]) fun _ e x =>
    if x.flashUp e.flashSeg then x.flashSend list idx e 0 else x.entryDone list idx .tierFailed 0 0 0xFFFF

/-- FTRIM (R203): Dataset Management, deallocate. -/
def execFtrim (list idx : Nat) (s : State) : Host.Outcome State Fault Refusal :=
  s.accept list idx 1 0xB
    (fun l e => s.flashOnly l e [(4, 1), (8, 8), (0x18, 4)] ++ cond (e.flashLbas == 0) .badCommand) fun _ e x =>
    if x.flashUp e.flashSeg then x.flashSend list idx e 9 else x.entryDone list idx .tierFailed 0 0 0xFFFF

end Sys2Proof.Machine
end

