-- ==== Sys2Proof/Machine/Shutdown.lean ====
section
/-! DEFINITION. What takes whole units down, shared by power, bring-up, faults and firmware: loss of the domains, orderly
shutdown, the failure of the yoke, of a segment, of ports, a panel's reset, health failures and fallback. -/

namespace Sys2Proof.Machine

/-! ### Everything but the collar falls (R351, R355, R384) -/

/-- Every domain except COLLAR is OFF or stays latched off, and everything its units held is gone: tables, rings, tier 1,
stores, the yoke's dictionary cells. Fenced tiles stay fenced and the gusset map stays until the next cold start. -/
def State.powerGone (s : State) : State :=
  { s with
    wafer := { s.wafer with panel := s.wafer.panel.mapVals fun _ c => { c with resetting := false } }
    hostA := hostFn0, hostB := hostFn0, sq := .empty, cq := .empty, lastRing := .empty, msix := .empty, pba := .empty
    lists := .empty, jobs := .empty, frames := .empty, skips := .empty, setSkips := [], sessions := .empty
    tier1 := [], granules := .empty, tier1Bad := .empty, dram := .empty
    od := s.od.keep fun k _ => !yokeServed (k / 256)
    boxA := mailbox0, boxB := mailbox0, suspects := [], leases := .empty, dma := .empty
    moves := .empty, tiles := s.tiles.mapVals fun _ t => { tile0 with fenced := t.fenced }, mesh := []
    attach := .empty, rewardSent := 0, plans := .empty, segs := .empty, segCtr := .empty, conns := .empty, wrs := .empty
    ctrs := .empty, ports := .empty, buckets := .empty, nodes := .empty
    power := { s.power with
      actions := [], lastAct := none
      panels := s.power.panels.mapVals fun _ p => p.unpowered
      domains := s.power.domains.mapVals fun _ d => if d.st = .latchedOff then { d with wanted := false } else domain0 }
    up := { s.up with
      yoke := false, segs := .empty, panels := .empty, ended := .empty, built := false, restore := none, retryAt := none
      yokeOnly := false } }

/-- A segment's flash leaves service with its link (R150). -/
def State.flashDown (s : State) (g : Nat) : State :=
  let x := s.seg g
  if x.flash = .linkDown then s else
    ((s.setSeg g { x with flash := .linkDown, gen := 0, queues := 0, entries := 0, timeouts := 0
                          retryAt := s.now + s.setting 0x2401 6 * psMs }).fire 0x0601 g 0).nvmeFailAll g 0x0601

/-- A port's link is lost, if it was up. -/
def State.netReset (s : State) (n : Nat) : State := if (s.portOf n).link then s.portDown n else s

/-- The collar is fed, by the main input or by the standby (R350). A standby below 5 V, as a reversed one reads, is none
(log 78). -/
def Power.fed (p : Power) : Bool :=
  (p.input != .absent && p.input != .reversed) || !(p.standbyOut && decide (p.standbyMv < 5000))

/-- Every domain goes OFF in the order of R353: the units that other things can see to fall report it, ports, host links and
flash, the higher domain first. -/
def State.unitsOff (s : State) : State :=
  let a := each (List.range 8).reverse State.netReset s
  each (List.range 16).reverse State.flashDown ((a.linkDrop .hostB).linkDrop .hostA)

/-- An orderly shutdown (R355): EMCY 0xFF69 and its event, every job closed with its completions written, the domains
switched off from YOKE. With YOKE already OFF there is nothing to shut down. -/
def State.orderlyShutdown (s : State) (cause det : Nat) : State :=
  if (s.domainOf 0).st = .off then s else
    let a := (s.emcyPower 0xFF69 det cause).closeAllJobs.unitsOff.powerGone
    let b := { a with power := { a.power with needRequest := true }, up := { a.up with phase := .shutdown, step := 6 } }
    if det = 0 then b else b.logAct det 0 9

/-! ### The collar's own reset (R417, R432, R436) -/

/-- The CAN node falls silent with the collar: its queue, transfers and run states are gone. -/
def Can.silent (c : Can) : Can :=
  { c with
    nmt := .initialising, queue := [], held := none, dropped := false, lastEmcyAt := none, tec := 0
    rxErr := 0, passive := false, busOff := false, hbDueAt := none, hbWaiting := none, consumers := .empty
    tpdo := .empty, rpdo := .empty, sdo := none, sdoHeld := none
    recovering := false, later := [], rateNew := false, idNew := false }

/-- A store, update or COMMIT that the collar's reset cuts short: the previous record stays current, a slot left ERASING or
WRITING is EMPTY, a COMMIT is completed at the next start. -/
def Firmware.cut (f : Firmware) : Firmware :=
  let g := fun (x : Slot) => if x.st = .erasing ∨ x.st = .writing then slot0 else x
  { f with
    slotA := g f.slotA, slotB := g f.slotB, upd := .idle, updBytes := 0, updResult := 0, beginWait := none, store := none
    storeWait := [], imagePath := none }

/-- The collar restarts from step 1 through its watchdog (R432, R436). -/
def State.collarRestart (s : State) : State :=
  { s with
    can := s.can.silent, fw := s.fw.cut, injection := ⟨false, 0, none, false⟩
    up := { s.up with inReset := true, collar := false, phase := .collarStart, step := 1, cause := .watchdog } }

/-- The collar is held in reset, or has no power: everything falls, and a start of the given cause follows (R350, R384). -/
def State.collarStops (s : State) (cause : StartCause) : State :=
  let a := s.powerGone
  { a with
    can := a.can.silent, fw := a.fw.cut, injection := ⟨false, 0, none, false⟩
    up := { a.up with
      inReset := true, collar := false, absentAt := none, phase := .collarStart, step := 1, cause := cause, level := 0 } }

/-- The collar cores, the CAN controller and the SPI controllers are reset (R417): absent from now on, until the warm start
that follows has run. -/
def State.collarReset (s : State) : State :=
  { s with
    can := s.can.silent, fw := s.fw.cut, injection := ⟨false, 0, none, false⟩
    up := { s.up with collar := false, absentAt := s.up.absentAt.or (some s.now), step := 1 } }

/-! ### Health check and fallback (R431, R432) -/

/-- The slots of firmware. -/
def Firmware.slot (f : Firmware) (b : Bool) : Slot := if b then f.slotB else f.slotA
def Firmware.setSlot (f : Firmware) (b : Bool) (x : Slot) : Firmware :=
  if b then { f with slotB := x } else { f with slotA := x }

/-- The slot that a start would select: PENDING or TRIAL, else COMMITTED, else STANDBY (R429). -/
def Firmware.order (f : Firmware) : List Bool :=
  let pick := fun (p : SlotSt → Bool) => [false, true].filter fun b => p (f.slot b).st
  pick (fun x => x == .pending || x == .trial) ++ pick (fun x => x == .committed) ++ pick fun x => x == .standby

/-- The third failure of a trial image: FAILED, detector 0x0E06, EMCY 0xFF7A, an orderly shutdown with cause 3 when YOKE
is ON, and a restart from step 1 on the other image (R432). -/
def State.fallback (s : State) : State :=
  let b := s.fw.runB
  let x := s.fw.slot b
  let f := { s.fw.setSlot b { x with st := .failed } with fallbacks := (s.fw.fallbacks + 1) % 2 ^ 32, health := 0, healthFrom := none }
  let a := ({ s with fw := f }).fire 0x0E06 (flag b) 0
  ((a.emcyEvent 0xFF7A 0x0E06 (natLe 1 (flag b) ++ natLe 1 (flag ((f.order.head?).getD b)))).orderlyShutdown 3 0).collarRestart

/-- A trial image fails its health check: counted in its slot, detector 0x0E05, EMCY 0xFF79, fallback at the third (R431,
R432). The check then goes on with a new window. -/
def State.healthFail (s : State) : State :=
  if s.fw.health ≠ 1 then s else
    let b := s.fw.runB
    let x := s.fw.slot b
    let n := x.failures + 1
    let a := ({ s with fw := { s.fw.setSlot b { x with failures := n } with healthFrom := none } }).fire 0x0E05 (flag b) 0
    let c := a.emcyEvent 0xFF79 0x0E05 (natLe 1 (flag b) ++ natLe 1 n)
    if 3 ≤ n then c.fallback else c

/-! ### The yoke fails (R416) -/

/-- The yoke is loaded again from step 8, and nothing else is started (R416). -/
def State.yokeAgain (s : State) : State :=
  { s with up := { s.up with yoke := false, yokeOnly := true, step := 8, stepAt := s.now, phase := .yokeStart } }

/-- The yoke fails: its cores are reset and the YOKE domain stays ON; plan, pass and task state is lost and every job
ABORTED; steps 8 and 9 follow. `cause` is 0 watchdog, 1 rail, 2 clock. -/
def State.yokeFail (s : State) (cause det : Nat) : State :=
  let a := ((s.bump64 0x2B00 7).logAct det 0 7).emcyEvent 0xFF73 det (natLe 1 cause)
  (a.abortAll det).plansToLoaded.killAll.yokeAgain

/-! ### Units of the rails (R361, R373) -/

/-- A segment's logic or DRAM is reset: its flash leaves service at once, its DRAM unit fails (R361, R401). One that still trains
or scrubs begins again with its training (R353, R361). -/
def State.hemReset (s : State) (g det : Nat) : State :=
  let a := s.flashDown g
  let x := s.up.segs.get ⟨0, 0, 0, 0⟩ g
  if s.dram.get false g then a.suspect (.dram g) det
  else if x.st = 1 ∨ x.st = 2 then { a with up := { a.up with segs := a.up.segs.set g ⟨1, 0, 0, a.now⟩ } }
  else a

/-- The panels of a seam rail row are declared LOST (R361). -/
def State.seamRowLost (s : State) (y : Nat) : State :=
  each (List.range 8) (fun x i => x.declareLost (y * 8 + i) 5 s.beat.n) s

/-- Both directions of an edge lose every lane; what had failed before is kept for the test of a restore (R361, R418; log 82). -/
def Wafer.lanesTaken (w : Wafer) (e : Nat) : Wafer :=
  [e * 2, e * 2 + 1].foldl (fun w k => { w with
    laneKept := if (w.laneKept.find k).isSome then w.laneKept else w.laneKept.set k (w.laneFail.get 0 k)
    laneFail := w.laneFail.set k 0x3FFF }) w

/-- The north–south edges of a column lose every lane. -/
def Wafer.columnTaken (w : Wafer) (x : Nat) : Wafer := (List.range 7).foldl (fun w i => w.lanesTaken (northEdge x i)) w

/-- The north–south seams of a column lose their lanes, and the panels that R29 names, those north of each, are declared
LOST (R361). -/
def State.seamColLost (s : State) (x : Nat) : State :=
  each (List.range 7) (fun z i => z.declareLost ((i + 1) * 8 + x) 5 s.beat.n)
    { s with wafer := s.wafer.columnTaken x }

/-! ### A panel's reset (R360, R377) -/

/-- The store contents of a panel are lost and its tiles stop; their tasks end at the boundary (R360). -/
def State.panelContents (s : State) (p : Nat) : State :=
  { s with tiles := s.tiles.mapVals fun k t =>
      if keyPanel k = p then { t.halt.clearAll with flights := [], plane0 := none, plane1 := none, feeders := [] } else t }

/-- A panel is reset: its tiles stop at once, with their stores' contents and the PLL; those of an ACTIVE panel are fenced together
at the next boundary. The third reset within 60 s makes it LOST. A panel that is powered outside the grid loses the same and has
nothing to fence. A panel whose overcurrent latch is set has nothing to reset (R360, R362). -/
def State.panelReset (s : State) (p det : Nat) : State :=
  let q := s.panelPower p
  if q.overcurrent then s else
    let rs := s.now :: q.resets.filter fun t => decide (s.now < t + 60 * psS)
    let above := if q.belowCore || q.belowSram then none else some s.now
    let a := (s.setPanelPower p { q with
      resets := rs, resetAt := some (q.resetAt.getD s.now), aboveAt := above, pll := false, released := false }).panelContents p
    if s.panelLost p then a
    else if 3 ≤ rs.length then
      (a.setPanelPower p { a.panelPower p with resetAt := none, aboveAt := none }).declareLost p 4 s.beat.n
    else if (s.wafer.panelOf p).mode = .active then a.suspect (.panelReset p) det
    else a

end Sys2Proof.Machine
end

