-- ==== Sys2Proof/Machine/Power.lean ====
section
/-! DEFINITION. Commands of power, clocks and coolant (12). -/

namespace Sys2Proof.Machine

/-! ### Inputs (R349 to R351) -/

/-- The states of the main input as 0x2900:04 numbers them. -/
def inputNum : InputState → Nat
  | .inRange => 0 | .low => 1 | .high => 2 | .cut => 3 | .reversed => 4 | .absent => 5

/-- The voltage by which a state is entered, from the present one (table "Main input states"): Cut is left by its own condition
alone, and Absent only above 40 V. -/
def State.inputEnters (s : State) (st : InputState) (mv : Nat) : Bool :=
  match st with
  | .inRange => decide (40000 ≤ mv) && decide (mv ≤ 60000) && match s.power.input with
    | .low => decide (41000 < mv)
    | .high => decide (mv < 59000)
    | .absent => decide (40000 < mv)
    | _ => true
  | .low => decide (38000 ≤ mv) && decide (mv < 40000) && s.power.input != .cut && s.power.input != .absent
  | .high => decide (60000 < mv) && decide (mv ≤ 61000) && s.power.input != .cut
  | .cut => (decide (5000 ≤ mv) && decide (mv < 38000) && s.power.input != .absent) || decide (61000 < mv)
  | .reversed => true
  | .absent => decide (mv < 5000)

/-- The voltage is one that the present state allows. -/
def State.inputHolds (s : State) (mv : Nat) : Bool :=
  match s.power.input with
  | .inRange => decide (40000 ≤ mv) && decide (mv ≤ 60000)
  | .low => decide (38000 ≤ mv) && decide (mv ≤ 41000)
  | .high => decide (59000 ≤ mv) && decide (mv ≤ 61000)
  | .cut => decide (5000 ≤ mv)
  | .reversed => true
  | .absent => decide (mv ≤ 40000)

/-- The main input enters a state: its voltage is kept, its detector fires, EMCY 0xFF66 names it. In Cut, Reversed and
Absent nothing feeds the domains (R351); without a standby input the collar then has no power and reports nothing (R350). -/
def State.inputState (s : State) (st : InputState) (mv : Nat) : State :=
  let a := { s with power := { s.power with input := st, inputMv := mv, rangeAt := if st = InputState.inRange then some s.now else none } }
  let dead := st == InputState.cut || st == InputState.reversed || st == InputState.absent
  let b := if dead then
      let c := a.powerGone
      { c with
        power := { c.power with needRequest := c.power.needRequest || st == InputState.cut }
        up := { c.up with phase := if c.up.phase = Phase.recovery ∨ c.up.collar = false then c.up.phase else .waiting, step := if c.up.collar then 6 else c.up.step } }
    else a
  let det := match st with
    | .low => 0x0A08
    | .high => 0x0A08
    | .cut => 0x0A08
    | .reversed => 0x0A09
    | _ => 0
  if b.power.fed then (if det = 0 then b else b.fire det 0 0).emcyPower 0xFF66 det (inputNum st) else b.collarStops .supply

/-- MAIN_INPUT_STATE_CHANGE (R351). From Cut the state changes only with the operator's YOKE ON request: an input in range then
only starts its 100 ms, and one out of range again breaks them. A sample that keeps the state changes the voltage alone. -/
def execMainInputStateChange (st : InputState) (mv : W16) (s : State) : Host.Outcome State Fault Refusal :=
  let v := mv.toNat
  let sample := { s with power := { s.power with inputMv := v } }
  let good := decide (40000 ≤ v) && decide (v ≤ 60000)
  if s.power.input = .cut ∧ (st = .cut ∨ st = .low ∨ st = .high ∨ st = .inRange) then
    whenDue (s.inputHolds v && good == (st == .inRange)) s { sample with power := { sample.power with
      rangeAt := if good then s.power.rangeAt.or (some s.now) else none } }
  else if st = s.power.input then whenDue (s.inputHolds v) s sample
  else whenSettled (s.inputEnters st v) s (s.inputState st v)

/-- STANDBY_INPUT_FAULT (R350, R351): outside 10.8 to 13.2 V for 10 ms, detector 0x0A0A and bit 2 of 0x1001; a value in range
ends the condition. With no other supply the collar has no power, and reports nothing. -/
def execStandbyInputFault (mv : W16) (s : State) : Host.Outcome State Fault Refusal :=
  let out := decide (mv.toNat < 10800) || decide (13200 < mv.toNat)
  let a := { s with power := { s.power with standbyMv := mv.toNat, standbyOut := out } }
  whenSettled true s <|
    if s.power.fed && !a.power.fed then a.collarStops .supply
    else if out && !s.power.standbyOut && a.power.fed then a.fire 0x0A0A 0 0 else a

/-! ### Power domains (R352 to R354, R391) -/

/-- Ramp time in ps. -/
def rampTime (d : Nat) : Nat :=
  if d = 0 then 2000 * psUs else if d < 17 then 5000 * psUs else if d < 27 then 1000 * psUs
  else if d < 155 then 200 * psUs else 500 * psUs

/-- The bring-up phase follows what is still to end (R386): DOMAINS while a domain ramps or waits, DONE once every segment
has ended and the grid is built. -/
def State.phaseCheck (s : State) : State :=
  if s.up.phase ≠ .domains ∧ s.up.phase ≠ .testAndScrub then s else
    let busy := s.power.domains.vals.any fun d => d.st == .ramping || (d.wanted && d.st == .off)
    let segs := (List.range 16).all fun g => match s.up.segs.find g with
      | some x => decide (3 ≤ x.st)
      | none => false
    let ph : Phase := if busy then s.up.phase else if segs && s.up.built then .done else .testAndScrub
    { s with
      up := { s.up with phase := ph }
      fw := { s.fw with healthFrom := if ph = .done then some s.now else s.fw.healthFrom } }

/-- A bring-up step has failed: EMCY 0xFF02 and its event (R398). -/
def State.stepFailed (s : State) (step unit det : Nat) : State := s.emcyEvent 0xFF02 det (natLe 1 step ++ natLe 2 unit)

/-- The clock domains of a power domain (R369). -/
def domainClocks (d : Nat) : List Nat :=
  if d = 0 then [260, 261]
  else if d < 17 then [208 + 2 * (d - 1), 209 + 2 * (d - 1)]
  else if d < 19 then [256 + 2 * (d - 17), 257 + 2 * (d - 17)]
  else if d < 27 then [240 + 2 * (d - 19), 241 + 2 * (d - 19)]
  else if d < 91 then [3 * (d - 27), 3 * (d - 27) + 1, 3 * (d - 27) + 2]
  else if d < 155 then []
  else [192 + (d - 155)]

/-- A domain is ON (R354): a hem segment begins its training (R394), a panel's PLL runs. -/
def State.domainGood (s : State) (d : Nat) : State :=
  let b := (s.setDomain d ⟨.on, false, 0⟩).clocksFresh (domainClocks d)
  let a := { b with power := { b.power with rails := b.power.rails.keep fun k _ => k % 256 != d } }
  if d = 0 then { a with up := { a.up with step := 8, stepAt := a.now } }
  else if d < 17 then { a with up := { a.up with segs := a.up.segs.set (d - 1) ⟨1, 0, 0, a.now⟩ } }
  else if 27 ≤ d ∧ d < 91 then
    { a.setPanelPower (d - 27) { a.panelPower (d - 27) with pll := true } with
      up := { a.up with panelAt := a.up.panelAt.set (d - 27) a.now } }
  else a

/-- What a hem segment loses when its domain goes OFF: its flash and all of its DRAM. -/
def State.segmentFell (s : State) (g : Nat) : State :=
  let b := s.flashDown g
  { b with
    dram := b.dram.set g false
    tier1 := b.tier1.wipe (g * segSize) ((g + 1) * segSize)
    granules := b.granules.keep fun k _ => segOf (k * 65536) != g
    tier1Bad := b.tier1Bad.keep fun w _ => segOf (w * 8) != g
    up := { b.up with segs := b.up.segs.set g ⟨7, 0, 0, 0⟩ } }

/-- What a unit loses when its domain goes OFF. -/
def State.domainFell (s : State) (d : Nat) : State :=
  let a := s.domainOff d
  if d = 0 then a
  else if d < 17 then a.segmentFell (d - 1)
  else if d < 19 then a.linkDrop (fnOf (d - 17))
  else if d < 27 then a.netReset (d - 19)
  else if d < 91 then a.setPanelPower (d - 27) (a.panelPower (d - 27)).unpowered
  else if d < 155 then a.clearPanel (d - 91)
  else a

/-- The domains that require `d`, those with more dependents last (R353). -/
def domainUsers (d : Nat) : List Nat :=
  ((List.range 171).reverse.filter fun e => (domainNeeds e).contains d).flatMap fun e =>
    ((List.range 171).filter fun f => d != 0 && (domainNeeds f).contains e) ++ [e]

/-- A job or plan uses a segment, or an enabled ring lies there (R353). -/
def State.hemUsed (s : State) (g : Nat) : Bool :=
  (s.jobs.vals.any fun q => q.st == .opened && q.ranges.any fun r => decide (r.1 < (g + 1) * segSize) && decide (g * segSize < r.1 + r.2))
    || (s.plans.vals.any fun p => p.pleats.any fun x => x.seg == g)
    || ((s.sq.vals ++ s.cq.vals).any fun r => r.enable && (segsIn r.base (2 ^ r.log2 * 64)).contains g)

/-- A request to switch `d` ON or OFF is refused (R353). -/
def State.domainRefused (s : State) (d : Nat) (on_ : Bool) : Bool :=
  let p := domainPanel d
  (isPanelDomain d && (s.wafer.panelOf p).mode == .active && !s.panelLost p)
    || (on_ && isPanelDomain d && (s.panelPower p).overcurrent)
    || (!on_ && decide (1 ≤ d) && decide (d < 17) && s.hemUsed (d - 1))
    || (!on_ && decide (155 ≤ d) && (domainUsers d).any fun e => (s.domainOf e).st == .on)
    || (on_ && (!s.inputAllows d || s.power.internalOsc))

/-- YOKE is requested ON: from WAITING, SHUTDOWN or YOKE_FAILED, the sequence goes on from step 7 (R355, R390, R399). -/
def State.yokeRequest (s : State) : State :=
  if (s.domainOf 0).st ≠ .off ∨ (s.up.phase ≠ .waiting ∧ s.up.phase ≠ .shutdown ∧ s.up.phase ≠ .yokeFailed
      ∧ s.up.phase ≠ .yokeStart) then s else
    let a := if s.power.input = .cut then s.inputState .inRange s.power.inputMv else s
    ({ a with
       power := { a.power with needRequest := false }
       up := { a.up with failedYoke := 0, retryAt := none, phase := .yokeStart, step := 7, stepAt := a.now } }).rampStart 0

/-- Effect of a write of 1 to 0x2911. -/
def fxDomainRequestOn (d : Fin 171) : Effect := fun x =>
  if x.domainRefused d.val true then .error badState
  else
    let a := x.putCell 0x2911 (d.val + 1) 1
    if d.val = 0 then .ok a.yokeRequest
    else if (a.domainOf d.val).st ≠ .off then .ok a
    else .ok (a.setDomain d.val { a.domainOf d.val with wanted := true }).rampAll

/-- DOMAIN_REQUEST_ON (R353): a write of 1 to 0x2911. A domain whose requirements are not yet ON waits for them. -/
def execDomainRequestOn (path : Path) (d : Fin 171) (s : State) : Host.Outcome State Fault Refusal :=
  s.odWriteSettled path 0x2911 (d.val + 1) (fxDomainRequestOn d)

/-- Effect of a write of 0 to 0x2911. -/
def fxDomainRequestOff (d : Fin 171) : Effect := fun x =>
  if x.domainRefused d.val false then .error badState
  else
    let a := x.putCell 0x2911 (d.val + 1) 0
    if d.val = 0 then .ok (a.orderlyShutdown 0 0) else .ok (each (domainUsers d.val ++ [d.val]) State.domainFell a)

/-- DOMAIN_REQUEST_OFF (R353, R355): a write of 0 to 0x2911: the domains that require it go first; YOKE OFF is an orderly
shutdown. -/
def execDomainRequestOff (path : Path) (d : Fin 171) (s : State) : Host.Outcome State Fault Refusal :=
  s.odWriteSettled path 0x2911 (d.val + 1) (fxDomainRequestOff d)

/-- DOMAIN_RAMP_START (R354): the first waiting domain of its class starts its ramp in a slot that is free. -/
def execDomainRampStart (d : Fin 171) (s : State) : Host.Outcome State Fault Refusal :=
  let p := isPanelDomain d.val
  whenDue (s.rampNext p == some d.val && s.rampFree p) s (s.rampStart d.val)

/-- DOMAIN_POWER_GOOD (R354): a ramping domain is ON. -/
def execDomainPowerGood (d : Fin 171) (s : State) : Host.Outcome State Fault Refusal :=
  whenSettled ((s.domainOf d.val).st == .ramping) s (s.domainGood d.val).phaseCheck.atOnce

/-! ### A failed yoke start (R399) -/

/-- A yoke start has failed: YOKE OFF, one more failed attempt in a row, a retry in 1 s or YOKE_FAILED at the limit. -/
def State.yokeStartFailed (s : State) : State :=
  let a := s.powerGone
  let n := a.up.failedYoke + 1
  let stop := decide (a.setting 0x2A01 2 ≤ n)
  { a with up := { a.up with
      failedYoke := min 255 n, phase := if stop then .yokeFailed else .yokeStart, step := 6
      retryAt := if stop then none else some (a.now + psS) } }

/-- A panel has dropped out of the bring-up: bits of its record 0x2A11. -/
def State.panelMark (s : State) (p bit_ : Nat) : State :=
  { s with up := { s.up with
      panels := s.up.panels.set p (setBit (s.up.panels.get 0 p) bit_), ended := s.up.ended.set p true, endedAt := s.now } }

/-- A domain has given no power-good within twice its ramp time (R391): OFF and left OFF, 0x0C35, EMCY 0xFF02; its unit is
out of service, and the panels that can no longer be powered are LOST to the grid (R398). -/
def State.noPowerGood (s : State) (d : Nat) : State :=
  let a := ((s.domainOff d).fire 0x0C35 d 0).stepFailed (if d = 0 then 7 else 10) d 0x0C35
  if d = 0 then a.yokeStartFailed
  else if d < 17 then { a with up := { a.up with segs := a.up.segs.set (d - 1) ⟨6, 0, 0, 0⟩ } }
  else if d < 27 then a
  else
    let off := (domainUsers d ++ [d]).filter isPanelDomain
    let b := each off State.domainOff a
    if s.up.built then b else each ((off.map domainPanel).dedup) (fun x p => x.panelMark p 16) b

/-- DOMAIN_POWER_GOOD_TIMEOUT (R391). -/
def execDomainPowerGoodTimeout (d : Fin 171) (s : State) : Host.Outcome State Fault Refusal :=
  whenSettled ((s.domainOf d.val).st == .ramping) s <|
    ((s.advanceTo ((s.domainOf d.val).rampAt + 2 * rampTime d.val)).noPowerGood d.val).phaseCheck.atOnce

/-! ### Panel rails (R356, R358 to R360, R362) -/

/-- Warning and reset levels and hysteresis of a panel rail, mV. -/
def warnMv (sram : Bool) : Nat := if sram then 752 else 705
def resetMv (sram : Bool) : Nat := if sram then 704 else 660

/-- A panel's stages are ON. -/
def State.panelOn (s : State) (p : Nat) : Bool := (s.domainOf (coreDomain p)).st == .on
/-- A panel rail is ON and monitored: the SRAM rail whenever PNLpM is, with or without PNLpC. In RETAIN it stands at 0.60 V, and
no crossing counts (log 81). -/
def State.railOn (s : State) (p : Nat) (sram : Bool) : Bool :=
  (s.domainOf (if sram then memDomain p else coreDomain p)).st == .on

def PanelPower.below (p : PanelPower) (sram : Bool) : Bool := if sram then p.belowSram else p.belowCore
/-- A rail's voltage is taken, below its warning level or not. -/
def PanelPower.rail (p : PanelPower) (sram : Bool) (mv : Nat) (low : Bool) : PanelPower :=
  if sram then { p with sramMv := mv, belowSram := low } else { p with coreMv := mv, belowCore := low }

/-- The actions of a warning (R358): the latch with one EMCY, and the throttle source. -/
def State.brownOut (s : State) (p det : Nat) : State :=
  let q := s.panelPower p
  let a := s.setPanelPower p { q with brownout := true, srcBrown := true }
  if q.brownout then a else a.emcyPower 0xFF60 det p

/-- PANEL_RAIL_WARNING (R358, R362): the detector fires as the rail falls below its level; the actions take place unless the
rail is at its reset level, whose crossing is then being filtered. A second warning above the reset level carries them
out when that crossing has ended before its filter time. -/
def execPanelRailWarning (p : PanelId) (sram : Bool) (mv : W16) (s : State) : Host.Outcome State Fault Refusal :=
  let q := s.panelPower p.val
  let det := if sram then 0x0A03 else 0x0A01
  let first := !q.below sram
  let above := decide (resetMv sram < mv.toNat)
  whenSettled (s.railOn p.val sram && decide (mv.toNat < warnMv sram) && (first || (above && !q.srcBrown && q.resetAt.isNone))) s <|
    let a := s.setPanelPower p.val { q.rail sram mv.toNat true with aboveAt := none }
    let b := if first then a.fire det p.val 0 else a
    if above then b.brownOut p.val det else b

/-- PANEL_RAIL_RECOVERED (R356, R359, R360): a rail, or both, is above warning plus hysteresis. Once both are, the brown-out
source leaves, and a panel in reset begins its 1 ms. -/
def execPanelRailRecovered (p : PanelId) (coreMv sramMv : W16) (s : State) : Host.Outcome State Fault Refusal :=
  let q := s.panelPower p.val
  let core := q.belowCore && decide (coreMv.toNat ≤ 715)
  let sram := q.belowSram && decide (sramMv.toNat ≤ 762)
  let above := !core && !sram
  whenSettled (core != q.belowCore || sram != q.belowSram || (q.srcBrown && above)) s <|
    s.setPanelPower p.val { (q.rail false coreMv.toNat core).rail true sramMv.toNat sram with
      srcBrown := q.srcBrown && !above, aboveAt := if q.resetAt.isSome && above then some s.now else none }

/-- PANEL_RAIL_RESET (R360, R362): the detector and EMCY 0xFF61; the panel is reset, unless its overcurrent latch governs. -/
def execPanelRailReset (p : PanelId) (sram : Bool) (mv : W16) (s : State) : Host.Outcome State Fault Refusal :=
  let q := s.panelPower p.val
  let det := if sram then 0x0A04 else 0x0A02
  whenSettled ((s.railOn p.val sram || q.overcurrent) && decide (mv.toNat ≤ resetMv sram)) s <|
    (((s.setPanelPower p.val { q.rail sram mv.toNat true with aboveAt := none }).fire det p.val 1).emcyPower 0xFF61 det p.val).panelReset
      p.val det

/-- PANEL_RESET_RELEASE (R360): both rails above warning for 1 ms, within 100 ms of the reset. -/
def execPanelResetRelease (p : PanelId) (s : State) : Host.Outcome State Fault Refusal :=
  let q := s.panelPower p.val
  match q.resetAt, q.aboveAt with
  | some t, some u =>
    whenDue (decide (u + psMs ≤ t + 100 * psMs)) s <|
      ((s.advanceTo (u + psMs)).setPanelPower p.val { q with resetAt := none, aboveAt := none, released := (s.wafer.panelOf p.val).mode == .active, pll := true }).clocksFresh
        [3 * p.val, 3 * p.val + 1, 3 * p.val + 2]
  | _, _ => .next s

/-- PANEL_RESET_TIMEOUT (R360): not released within 100 ms, so LOST. -/
def execPanelResetTimeout (p : PanelId) (s : State) : Host.Outcome State Fault Refusal :=
  let q := s.panelPower p.val
  match q.resetAt with
  | none => .next s
  | some t =>
    whenSettled true s <|
      ((s.advanceTo (t + 100 * psMs)).setPanelPower p.val { q with resetAt := none, aboveAt := none }).declareLost p.val 4 s.beat.n

/-! ### Other rails (R361) -/

/-- The domain of a rail. -/
def railDomain : OtherRail → Nat
  | .seamR y => 155 + y.val | .seamC x => 163 + x.val | .yoke => 0 | .hem g _ => 1 + g.val
  | .host f => 17 + fnNum f | .net n => 19 + n.val

/-- A rail's key: its domain, and 256 more for a segment's DRAM rail. -/
def railKey (rail : OtherRail) : Nat :=
  match rail with
  | .hem _ true => railDomain rail + 256
  | _ => railDomain rail

/-- Warning level, reset level and hysteresis of a rail, mV (table "Rail monitors"). -/
def railLevels : OtherRail → Nat × Nat × Nat
  | .seamR _ => (705, 660, 10) | .seamC _ => (705, 660, 10) | .yoke => (752, 704, 10)
  | .hem _ false => (705, 660, 10) | .hem _ true => (987, 924, 15)
  | .host _ => (1128, 1056, 15) | .net _ => (1128, 1056, 15)

/-- A rail's standing: 0 above warning, 1 below it, 2 at reset. -/
def State.railAt (s : State) (rail : OtherRail) : Nat := s.power.rails.get 0 (railKey rail)
def State.setRail (s : State) (rail : OtherRail) (v : Nat) : State :=
  { s with power := { s.power with rails := s.power.rails.set (railKey rail) v } }

/-- RAIL_WARNING (R356, R361): a fall below the warning level is counted, and nothing else; above warning plus hysteresis the
rail is back. -/
def execRailWarning (rail : RailReading) (s : State) : Host.Outcome State Fault Refusal :=
  let mv := rail.mv
  let rail := rail.rail
  let l := railLevels rail
  whenDue ((s.domainOf (railDomain rail)).st == .on) s <|
    if mv.toNat < l.1 then if s.railAt rail = 0 then (s.setRail rail 1).fire 0x0A0F (railDomain rail) 0 else s
    else if l.1 + l.2.2 < mv.toNat then s.setRail rail 0 else s

/-- The unit that a rail serves fails (table "Reset on other rails"). -/
def State.railFails (s : State) (rail : OtherRail) (cause det : Nat) : State :=
  match rail with
  | .seamR y => s.seamRowLost y.val
  | .seamC x => s.seamColLost x.val
  | .yoke => s.yokeFail cause det
  | .hem g _ => s.hemReset g.val det
  | .host f => s.linkDrop f
  | .net n => s.netReset n.val

/-- RAIL_RESET (R356, R361): a rail falls to its reset level: 0x0A06 for a seam rail, 0x0A07 for another, EMCY 0xFF6A, and its unit fails. -/
def execRailReset (rail : RailReading) (s : State) : Host.Outcome State Fault Refusal :=
  let mv := rail.mv
  let rail := rail.rail
  let d := railDomain rail
  let det := if 155 ≤ d then 0x0A06 else 0x0A07
  whenSettled ((s.domainOf d).st == .on && s.railAt rail != 2 && decide (mv.toNat ≤ (railLevels rail).2.1)) s
    ((((s.setRail rail 2).fire det d 1).emcyPower 0xFF6A det d).railFails rail 1 det)

/-! ### Brown-out latch, power limit (R358, R364 to R366) -/

/-- Effect of a write to 0x2921. -/
def fxBrownoutClear (v : W64) : Effect := fun x => .ok <|
  each (allPanels.filter fun p => bit v.toNat p && (x.panelPower p).brownout)
    (fun y p => y.setPanelPower p { y.panelPower p with brownout := false }) x

/-- BROWNOUT_CLEAR (R358): the latches of the panels named in 0x2921 clear. -/
def execBrownoutClear (path : Path) (v : W64) (s : State) : Host.Outcome State Fault Refusal :=
  s.odWriteSettled path 0x2921 0 (fxBrownoutClear v)

/-- The power limit in force (0x2901:02): the operator's, or the fault limit (R364). -/
def State.limitNow (s : State) : Nat :=
  let p := s.power
  if p.tinFault ≠ 0 ∨ p.toutFault ≠ 0 ∨ p.flowFault ≠ 0 ∨ p.thermal = true ∨ p.input = .low then 4650 else s.setting 0x2901 1

/-- The stage of the limit (0x2901:03). -/
def Power.stage (p : Power) : Nat := (p.actions.map fun a => a.stage).foldl max 0

/-- The ACTIVE panels of a row. -/
def State.activeIn (s : State) (row : Nat) : List Nat :=
  ((List.range 8).map (row * 8 + ·)).filter fun p => (s.wafer.panelOf p).mode == .active

/-- The next row, from PY 7 down, with an ACTIVE panel and no action of a stage. -/
def State.nextRow (s : State) (stage : Nat) : Option Nat :=
  [7, 6, 5, 4, 3, 2, 1, 0].find? fun r =>
    !(s.activeIn r).isEmpty && !s.power.actions.any fun a => a.stage == stage && a.row == r

/-- A row's panels take a stage, or lose it. -/
def State.limitSet (s : State) (stage : Nat) (ps : List Nat) (on_ : Bool) : State :=
  each ps (fun x p =>
    let q := x.panelPower p
    if stage = 1 then x.setPanelPower p { q with srcLimit := on_ }
    else
      let y := x.setPanelPower p { q with stopped := on_ }
      let m := y.domainOf (memDomain p)
      if on_ then (if m.st = .on then y.setDomain (memDomain p) ⟨.retain, false, 0⟩ else y)
      else if m.st = .retain then y.setDomain (memDomain p) ⟨.on, false, 0⟩ else y) s

/-- A change of stage sends EMCY 0xFF63; entry to stage 1 fires 0x0A0B (R365). -/
def State.stageReport (s : State) (old : Nat) : State :=
  let n := s.power.stage
  if n = old then s
  else
    let det := if old = 0 then 0x0A0B else 0
    (if old = 0 then s.fire 0x0A0B 0 0 else s).emcyPower 0xFF63 det n

/-- A stage's action on a row: its active panels take the stage; counted in 0x2960:05 (R364, R365). -/
def State.limitTake (s : State) (st r watts : Nat) : State :=
  let ps := s.activeIn r
  let a := { s with power := { s.power with
    watts := watts, actions := ⟨st, r, ps, s.now⟩ :: s.power.actions, lastAct := some s.now } }
  ((a.limitSet st ps true).bump64 0x2960 5).stageReport s.power.stage

/-- The collar acts at a boundary of the local count; before the first lock there are none, and it acts at once (log 14). -/
def State.atBoundary (s : State) : Bool := s.beat.lock == .search || s.now == s.beat.tickAt

/-- POWER_LIMIT_ACTION (R364): at a beat boundary, while the collar runs, input power is above the limit, at least 1 ms after the last action: the next row is throttled,
or, once every active row is, stopped. -/
def execPowerLimitAction (watts : W16) (s : State) : Host.Outcome State Fault Refusal :=
  let late := match s.power.lastAct with
    | some t => decide (t + psMs ≤ s.now)
    | none => true
  let pick := match s.nextRow 1 with
    | some r => some (1, r)
    | none => (s.nextRow 2).map fun r => (2, r)
  match pick with
  | none => .next s
  | some (st, r) => whenDue (late && s.up.collar && s.atBoundary && decide (s.limitNow < watts.toNat)) s (s.limitTake st r watts.toNat)

/-- POWER_LIMIT_RELEASE (R365, R417): while the collar runs, input power below 95 % of the limit for 100 ms: the latest action is undone. -/
def execPowerLimitRelease (watts : W16) (s : State) : Host.Outcome State Fault Refusal :=
  match s.power.actions with
  | [] => .next s
  | a :: rest =>
    whenDue (s.up.collar && decide (watts.toNat * 100 < 95 * s.limitNow)) s <|
      let b := s.advanceTo ((s.power.lastAct.getD 0) + 100 * psMs)
      let c := { b with power := { b.power with watts := watts.toNat, actions := rest, lastAct := some b.now } }
      (c.limitSet a.stage a.panels false).stageReport s.power.stage

/-! ### Overcurrent (R367, R368) -/

/-- A panel's stages switch off and latch: 0x0A05, EMCY 0xFF62, the panel is LOST (R367). -/
def State.trip (s : State) (p : Nat) (injected : Bool) : State :=
  let q := s.panelPower p
  let off := fun (x : State) d => x.setDomain d ⟨.latchedOff, false, 0⟩
  let a := off (off s (coreDomain p)) (memDomain p)
  let b := a.setPanelPower p { q.unpowered with overcurrent := true, ocInjected := injected }
  (((b.clearPanel p).fire 0x0A05 p 4).emcyPower 0xFF62 0x0A05 p).declareLost p 3 s.beat.n

/-- PANEL_OVERCURRENT (R367): either stage of a powered panel. -/
def execPanelOvercurrent (p : PanelId) (sram : Bool) (s : State) : Host.Outcome State Fault Refusal :=
  let d := if sram then memDomain p.val else coreDomain p.val
  whenSettled ((s.domainOf d).st != .off && (s.domainOf d).st != .latchedOff) s (s.trip p.val s.injection.acting)

/-- Effect of a write to 0x2922. -/
def fxOvercurrentClear (p : PanelId) (v : Byte) : Effect := fun x =>
  let q := x.panelPower p.val
  if 2 ≤ v.toNat then .error outOfRange
  else if v.toNat = 0 ∨ q.overcurrent = false then .ok x
  else if q.ocInjected = false ∧ 3 ≤ q.clears then .error badState
  else
    let a := x.setPanelPower p.val { q with overcurrent := false, ocInjected := false, clears := if q.ocInjected then q.clears else q.clears + 1 }
    .ok ((a.setDomain (coreDomain p.val) domain0).setDomain (memDomain p.val) domain0)

/-- OVERCURRENT_CLEAR (R368): up to three counted clears of a real latch; an injected one clears uncounted. -/
def execOvercurrentClear (path : Path) (p : PanelId) (v : Byte) (s : State) : Host.Outcome State Fault Refusal :=
  s.odWriteSettled path 0x2922 (p.val + 1) (fxOvercurrentClear p v)

/-! ### Clocks (R369 to R374) -/

/-- A clock domain runs (table "Clock domains"). -/
def State.clockRuns (s : State) (k : Nat) : Bool :=
  if k < 192 then s.panelOn (k / 3) && (k % 3 == 2 || !(s.panelPower (k / 3)).stopped)
  else if k < 208 then (s.domainOf (155 + (k - 192))).st == .on
  else if k < 240 then (s.domainOf (1 + (k - 208) / 2)).st == .on
  else if k < 256 then (s.domainOf (19 + (k - 240) / 2)).st == .on
  else if k < 260 then (s.domainOf (17 + (k - 256) / 2)).st == .on
  else if k < 262 then s.hemRing
  else if k < 265 then s.up.collar && !s.power.refLost
  else s.beat.carrier

/-- A PLL makes the clock: not the TCXO's own, a recovered clock, or one the host supplies. -/
def hasPll (k : Nat) : Bool := decide (k < 262) && !(decide (240 ≤ k) && decide (k < 256) && k % 2 == 1)

/-- A clock fault's effect for its domain (table "Clock faults"). The unit fails as from a reset of its rail, without the
rail's own detector. -/
def State.clockFails (s : State) (k det : Nat) : State :=
  if k < 192 then s.panelReset (k / 3) det
  else if k < 200 then s.seamRowLost (k - 192)
  else if k < 208 then s.seamColLost (k - 200)
  else if k < 240 then s.hemReset ((k - 208) / 2) det
  else if k < 256 then s.netReset ((k - 240) / 2)
  else if k < 260 then s.linkDrop (fnOf ((k - 256) / 2))
  else if k < 262 then s.yokeFail 2 det
  else if k = 263 ∨ k = 264 then s.bump64 0x2B00 8
  else s

/-- A clock fault is reported and has the effect of its domain. A fault of the collar's own clocks resets the collar, so that the
report waits for its return (R417). -/
def State.clockFault (s : State) (k det : Nat) : State :=
  let a := if k = 263 ∨ k = 264 then s.collarReset else s
  ((a.fire det k 1).emcyPower 0xFF67 det k).clockFails k det

/-- CLOCK_CHECK (R373): the count finds the domain more than 1 % off: 0x0B02, EMCY 0xFF67 and the effect of its domain. -/
def execClockCheck (k : Fin 266) (s : State) : Host.Outcome State Fault Refusal :=
  whenSettled (k.val != 262 && k.val != 265 && s.clockRuns k.val) s <|
    { s with power := { s.power with offTol := s.power.offTol.set k.val true } }.clockFault k.val 0x0B02

/-- PLL_UNLOCK (R373): 0x0B01, EMCY 0xFF67 and the effect of its domain. -/
def execPllUnlock (k : Fin 266) (s : State) : Host.Outcome State Fault Refusal :=
  whenSettled (hasPll k.val && s.clockRuns k.val) s <|
    { s with power := { s.power with unlocked := s.power.unlocked.set k.val true } }.clockFault k.val 0x0B01

/-- The TCXO is lost: 0x0B04, EMCY 0xFF68, and a beat unit in HOLDOVER is LOST at once. -/
def State.referenceGone (s : State) : State :=
  let a := ({ s with power := { s.power with refLost := true, offset := none } }.fire 0x0B04 0 0).emcyPower 0xFF68 0x0B04 0
  if a.beat.lock = .holdover then
    (({ a with beat := { a.beat with lock := .lost } }).suspendAll 0x0B04).emcy 0xFF11 0x0B04
  else a

/-- The collar goes on with its internal oscillator: the CAN data phase at 1 Mb/s, and an orderly shutdown with cause 2. -/
def State.referenceLost (s : State) : State :=
  { s with power := { s.power with internalOsc := true }, can := { s.can with rate := 0 } }.orderlyShutdown 2 0x0B04

/-- REFERENCE_LOST (R374, R417). The monitors and the beat unit run on while the collar is absent; what the collar does follows at
its return. A collar held in reset has nothing to report. -/
def execReferenceLost (s : State) : Host.Outcome State Fault Refusal :=
  whenSettled (!s.power.refLost) s <|
    if s.up.collar then s.referenceGone.referenceLost
    else if s.up.absentAt.isSome then s.referenceGone
    else { s with power := { s.power with refLost := true, offset := none } }

/-- REFERENCE_RETURN (R374): the TCXO gives edges again; the internal oscillator stays in use until the collar is reset. -/
def execReferenceReturn (s : State) : Host.Outcome State Fault Refusal :=
  whenDue s.power.refLost s { s with power := { s.power with refLost := false } }

/-! ### Coolant and temperature (R375 to R377) -/

/-- The number of a sensor and of a fault, as 0xFF64 and 0x2930:04 have them. -/
def sensorNum : Sensor → Nat
  | .tin => 0 | .tout => 1 | .flow => 2
def sensorFaultNum : SensorFault → Nat
  | .opened => 1 | .shorted => 2
def Power.sensor (p : Power) : Sensor → Nat
  | .tin => p.tinFault | .tout => p.toutFault | .flow => p.flowFault
def Power.setSensor (p : Power) (i : Sensor) (v : Nat) : Power :=
  match i with
  | .tin => { p with tinFault := v }
  | .tout => { p with toutFault := v }
  | .flow => { p with flowFault := v }
def Power.reading (p : Power) (i : Sensor) (v : Nat) : Power :=
  match i with
  | .tin => { p with tin := v }
  | .tout => { p with tout := v }
  | .flow => { p with flow := v }

/-- The fault that a raw reading shows (R375): tenths of a degree, signed, from a thermistor, or µA from the flow loop. -/
def sensorFaultOf (i : Sensor) (raw : Nat) : Option SensorFault :=
  match i with
  | .flow => if raw < 3600 then some .opened else if 21000 < raw then some .shorted else none
  | _ => if signed 16 raw < -400 then some .opened else if 1500 < signed 16 raw then some .shorted else none

/-- COOLANT_SENSOR_FAULT (R375): 0x0A0C, EMCY 0xFF64; bit 3 of 0x1001 and the fault limit follow from the state. -/
def execCoolantSensorFault (sensor : Sensor) (raw : W16) (s : State) : Host.Outcome State Fault Refusal :=
  match sensorFaultOf sensor raw.toNat with
  | none => .next s
  | some fault =>
    whenSettled (s.power.sensor sensor == 0) s <|
      (({ s with power := s.power.setSensor sensor (sensorFaultNum fault) }).fire 0x0A0C 0 0).emcyPower 0xFF64 0x0A0C (sensorNum sensor)

/-- COOLANT_SENSOR_RECOVERED (R375): valid for 10 s without a break. `v.value` is in the unit of 0x2930. -/
def execCoolantSensorRecovered (sensor : Sensor) (v : SensorReading) (s : State) : Host.Outcome State Fault Refusal :=
  whenSettled (s.power.sensor sensor != 0 && (sensorFaultOf sensor v.raw.toNat).isNone) s
    { s with power := (s.power.setSensor sensor 0).reading sensor v.value.toNat }

/-- A temperature setting of 0x2930, signed. -/
def State.degrees (s : State) (sub : Nat) : Int := signed 16 (s.setting 0x2930 sub)

/-- An outlet temperature is read; at or below the warning level the next crossing is a new one (R376). -/
def State.outlet (s : State) (tout : Nat) : State :=
  { s with power := { s.power with tout := tout, warned := s.power.warned && decide (s.degrees 5 < signed 16 tout) } }

/-- OUTLET_WARNING (R376): a reading of TOUT; EMCY 0xFF65 once as it crosses above 0x2930:05. -/
def execOutletWarning (tout : W16) (s : State) : Host.Outcome State Fault Refusal :=
  let a := s.outlet tout.toNat
  whenDue true s <|
    if s.degrees 5 < signed 16 tout.toNat ∧ s.power.warned = false then
      { a with power := { a.power with warned := true } }.emcyPower 0xFF65 0 0
    else a

/-- THERMAL_LIMIT (R376): TOUT above 0x2930:06, or flow below the minimum for 1 s: 0x0A0D, EMCY 0xFF65. -/
def execThermalLimit (tout flow : W16) (s : State) : Host.Outcome State Fault Refusal :=
  whenSettled (!s.power.thermal && (decide (s.degrees 6 < signed 16 tout.toNat) || decide (flow.toNat < s.setting 0x2930 8))) s <|
    let a := s.outlet tout.toNat
    (({ a with power := { a.power with flow := flow.toNat, thermal := true } }).fire 0x0A0D 0 0).emcyPower 0xFF65 0x0A0D 1

/-- THERMAL_LIMIT_END (R376): TOUT 2 °C below the limit and flow above the minimum for 10 s. -/
def execThermalLimitEnd (tout flow : W16) (s : State) : Host.Outcome State Fault Refusal :=
  whenSettled (s.power.thermal && decide (signed 16 tout.toNat ≤ s.degrees 6 - 20) && decide (s.setting 0x2930 8 < flow.toNat)) s <|
    let a := s.outlet tout.toNat
    { a with power := { a.power with flow := flow.toNat, thermal := false } }

/-- OUTLET_SHUTDOWN (R376): TOUT above 0x2930:07 for 1 s: an orderly shutdown with cause 1. -/
def execOutletShutdown (tout : W16) (s : State) : Host.Outcome State Fault Refusal :=
  whenSettled (decide (s.degrees 7 < signed 16 tout.toNat)) s <|
    (s.outlet tout.toNat).orderlyShutdown 1 0

/-- DIE_TEMPERATURE_CHANGE (R377): above the level the source is set and 0x0A0E fires; 5 °C below, it clears; above 115 °C a
panel that is not in a reset is reset. -/
def execDieTemperatureChange (p : PanelId) (t : W16) (s : State) : Host.Outcome State Fault Refusal :=
  let q := s.panelPower p.val
  let v := signed 16 t.toNat
  let hot := decide (s.degrees 9 < v)
  whenSettled true s <|
    let a := s.setPanelPower p.val { q with
      temp := t.toNat, srcDie := if hot then true else if v ≤ s.degrees 9 - 50 then false else q.srcDie }
    let b := if hot && !q.srcDie then a.fire 0x0A0E p.val 0 else a
    if 1150 < v ∧ q.resetAt = none ∧ s.panelOn p.val = true then b.panelReset p.val 0x0A0E else b

end Sys2Proof.Machine
end

