-- ==== Sys2Proof/Machine/Sessions.lean ====
section
/-! DEFINITION. Commands of sessions and frames (02, 06): the BEAT engine's entries, session beats, the session query. -/

namespace Sys2Proof.Machine

/-! ### Conditions (R79, R84, R198, R206, R308) -/

/-- A session belongs to another job (R198). -/
def State.slotForeign (s : State) (k j : Nat) : Bool := (s.sessionOf k).st != .free && (s.sessionOf k).job != j

/-- P, φ or M out of range (R79). -/
def rasterBad (p phase m : Nat) : Bool :=
  decide (p < 150) || decide (p * 65536 ≤ phase) || decide (m < 1) || decide (p ≤ m)

/-- The first member of a locked set. -/
def State.setMember (s : State) (g : Nat) : Option Session :=
  ((s.sessions.cells.filter fun c => c.2.st != .free && c.2.set == some g).map Prod.snd).head?

/-- The grid of the frames a session takes from now on: that of the last retime accepted, or the one in force (R82). -/
def Session.raster (x : Session) : Nat × Nat × Nat :=
  match x.retimes.getLast? with
  | some r => (r.p, r.phase, r.m)
  | none => (x.p, x.phase, x.m)

/-- A plan that a slot cannot be bound to: one whose pass is longer than M, or one that does not exist (R163, R206). -/
def State.planUnfit (s : State) (plan m : Nat) : Bool :=
  plan != 0xFFFF && match s.plans.find plan with
    | none => true
    | some p => decide (m < p.passLen)
/-- A plan of another job. -/
def State.planForeign (s : State) (plan j : Nat) : Bool :=
  plan != 0xFFFF && match s.plans.find plan with
    | none => false
    | some p => p.job != j

/-- A slot field that names no session (R206). -/
def State.slotBad (s : State) (k : Nat) : Bool := decide (4096 ≤ k) || (s.sessionOf k).st == .free

/-- The node is OPERATIONAL (R308). -/
def State.operational (s : State) : Bool := s.can.nmt == .operational

/-- An entry that names a slot completes at once with OK. -/
def State.slotDone (s : State) (id idx slot : Nat) : State := s.entryDone id idx .ok 0 0 slot

/-! ### Opening and closing (R78, R79, R84, R206) -/

/-- SOPEN (R206): a FREE slot is opened with period, phase, margin, set, class and plan. In SEARCH it completes with
BEAT_LOST (R78), outside OPERATIONAL with BAD_COMMAND (R308); while the beat unit is LOST the slot begins SUSPENDED
(log 20). A session that joins a set has the set's values in force and its pending retimes, so that the members stay alike (R84). -/
def execSopen (list idx : Nat) (s : State) : Host.Outcome State Fault Refusal :=
  s.accept list idx 4 1
    (fun l e =>
      let k := e.field 4 2
      let p := e.field 6 2
      let ph := e.field 8 4
      let m := e.field 0xC 2
      let g := e.field 0xE 1
      let c := e.field 0xF 1
      let differs := match (if g = 0xFF then none else s.setMember g) with
        | none => false
        | some x => (x.p, x.phase, x.m) != (p, ph, m) || x.cls != c
      cond (!e.restZero [(4, 2), (6, 2), (8, 4), (0xC, 2), (0xE, 1), (0xF, 1), (0x10, 2), (0x12, 1)] || decide (4096 ≤ k)
          || (s.sessionOf k).st != .free || rasterBad p ph m || (g != 0xFF && decide (64 ≤ g)) || decide (8 ≤ c)
          || differs || s.planUnfit (e.field 0x10 2) m || !s.operational) .badCommand
        ++ cond (s.planForeign (e.field 0x10 2) l.job) .keyRejected ++ cond (s.beat.lock == .search) .beatLost)
    fun l e x =>
      let k := e.field 4 2
      let p := e.field 6 2
      let ph := e.field 8 4
      let g := e.field 0xE 1
      let y : Session :=
        { st := if x.beat.lock = .lost then .suspended else .opened, closing := false, closer := none, p := p
          phase := ph, m := e.field 0xC 2, set := if g = 0xFF then none else some g, cls := e.field 0xF 1
          plan := if e.field 0x10 2 = 0xFFFF then none else some (e.field 0x10 2), variant := e.field 0x12 1
          job := l.job, nextBeat := beatFrom p ph (x.lineNow + 1), claimFrom := 0
          retimes := match (if g = 0xFF then none else x.setMember g) with
            | some z => z.retimes
            | none => []
          resume := false }
      ({ x with sessions := x.sessions.set k y }).slotDone list idx k

/-- The members of a slot's set, or the slot alone. -/
def State.setSlots (s : State) (k : Nat) : List Nat :=
  match (s.sessionOf k).set with
  | none => [k]
  | some g => (s.sessions.cells.filter fun c => c.2.set == some g).map Prod.fst

/-- The latest deadline among the outstanding frames of some slots. -/
def State.latestDeadline (s : State) (ks : List Nat) : Nat :=
  ((s.frames.vals.filter fun f => ks.contains f.slot).map fun f => f.deadline).foldl max 0

/-- SRETIME (R82, R84): the whole set takes the new values at the first boundary after the latest deadline outstanding
now. -/
def execSretime (list idx : Nat) (s : State) : Host.Outcome State Fault Refusal :=
  s.accept list idx 4 2
    (fun l e =>
      let k := e.field 4 2
      cond (!e.restZero [(4, 2), (6, 2), (8, 4), (0xC, 2)] || s.slotBad k
          || rasterBad (e.field 6 2) (e.field 8 4) (e.field 0xC 2)) .badCommand
        ++ cond (s.slotForeign k l.job) .keyRejected)
    fun _ e x =>
      let k := e.field 4 2
      let ks := x.setSlots k
      let r : Retime := ⟨e.field 6 2, e.field 8 4, e.field 0xC 2, x.latestDeadline ks⟩
      ({ x with sessions := x.sessions.mapVals fun i y => if ks.contains i then { y with retimes := y.retimes ++ [r] } else y }).slotDone
        list idx k

/-- SRESUME (R72, R206, R308): a SUSPENDED slot resumes at its first session beat at least L lines after the lock; a NOP on
an OPEN one. -/
def execSresume (list idx : Nat) (s : State) : Host.Outcome State Fault Refusal :=
  s.accept list idx 4 3
    (fun l e =>
      let k := e.field 4 2
      cond (!e.restZero [(4, 2)] || s.slotBad k || !s.operational) .badCommand ++ cond (s.slotForeign k l.job) .keyRejected)
    fun _ e x =>
      let k := e.field 4 2
      let y := x.sessionOf k
      (if y.st = .suspended then { x with sessions := x.sessions.set k { y with resume := true } } else x).slotDone list idx k

/-- SCLOSE (R206): no further frames are accepted; the slot becomes FREE and the entry completes once its frames have. -/
def execSclose (list idx : Nat) (s : State) : Host.Outcome State Fault Refusal :=
  s.accept list idx 4 4
    (fun l e =>
      let k := e.field 4 2
      cond (!e.restZero [(4, 2)] || s.slotBad k || (s.sessionOf k).closing) .badCommand
        ++ cond (s.slotForeign k l.job) .keyRejected)
    fun _ e x =>
      let k := e.field 4 2
      ({ x with sessions := x.sessions.set k { x.sessionOf k with closing := true, closer := some (list, idx) } }).slotCheck k

/-- SBIND (R206): frames accepted from now on use the named plan and variant. -/
def execSbind (list idx : Nat) (s : State) : Host.Outcome State Fault Refusal :=
  s.accept list idx 4 5
    (fun l e =>
      let k := e.field 4 2
      let p := e.field 0x10 2
      cond (!e.restZero [(4, 2), (0x10, 2), (0x12, 1)] || s.slotBad k || s.planUnfit p (s.sessionOf k).raster.2.2) .badCommand
        ++ cond (s.slotForeign k l.job || s.planForeign p l.job) .keyRejected)
    fun _ e x =>
      let k := e.field 4 2
      let p := e.field 0x10 2
      let y : Session := { x.sessionOf k with plan := if p = 0xFFFF then none else some p, variant := e.field 0x12 1 }
      ({ x with sessions := x.sessions.set k y }).slotDone list idx k

/-! ### Frames (R209 to R213) -/

/-- The deadline of a frame accepted now: the earliest session beat whose cut-off is at or after the next line boundary
and that no frame of the slot has claimed; with a retime accepted, one of the new grid from the boundary on at which it takes
effect (R82, R209). -/
def State.deadlineFor (s : State) (x : Session) : Nat :=
  let b0 := (s.beat.n + 1) * 65536
  match x.retimes.getLast? with
  | none => beatFrom x.p x.phase (max (b0 + x.m * 65536) x.claimFrom)
  | some r => beatFrom r.p r.phase (max (max (b0 + r.m * 65536) x.claimFrom) ((r.after / 65536 + 1) * 65536))

/-- FRAME (R209): checked, accepted, given its deadline and charged to that admission beat (R211, R212). -/
def execFrame (list idx : Nat) (s : State) : Host.Outcome State Fault Refusal :=
  match s.handed list idx 4 6 with
  | none => .next s
  | some (l, e) =>
    let k := e.field 4 2
    let x := s.sessionOf k
    let full := decide (2 ≤ (s.framesOf k).length)
    let st := worst (s.jobConds l.job
      ++ cond (!e.restZero [(4, 2), (6, 1)] || decide (2 ≤ e.field 6 1) || s.slotBad k || x.closing) .badCommand
      ++ cond (s.slotForeign k l.job) .keyRejected ++ cond (x.st == .suspended) .beatLost
      ++ cond (x.st == .opened && full) .overload)
    .next <|
      if st ≠ .ok then (if x.st = .opened ∧ full = true then s.bump64 0x2503 4 else s).entryRefuse list idx st 0
      else
        let d := s.deadlineFor x
        let f : Frame :=
          { idx := idx, slot := k, cls := x.cls, job := l.job, plan := x.plan, variant := x.variant, deadline := d
            m := x.raster.2.2, ready := bit (e.field 6 1) 0, pass := none, tc := l.tileCycles, sb := l.streamBytes
            order := s.nextFrame }
        let w := d / 65536 * 8 + x.cls
        let q := s.skips.get ⟨0, 0⟩ w
        let s1 := s.entryAccept list idx
        let s2 := ({ s1 with
          frames := s1.frames.set list f
          nextFrame := s1.nextFrame + 1
          sessions := s1.sessions.set k { x with claimFrom := d + 1 }
          skips := s1.skips.set w { q with claims := q.claims + 1 } }).bump64 0x2503 1
        let gone := match x.set with
          | none => false
          | some g => s.setSkips.contains (g, d)
        if gone then s2.skipFrame list else s2.admitBeat (s2.beatOf d)

/-- FREADY (R206): the slot's oldest accepted frame that is not ready becomes ready. -/
def execFready (list idx : Nat) (s : State) : Host.Outcome State Fault Refusal :=
  s.accept list idx 4 7
    (fun l e =>
      let k := e.field 4 2
      cond (!e.restZero [(4, 2)] || s.slotBad k) .badCommand ++ cond (s.slotForeign k l.job) .keyRejected)
    fun _ e x => (x.slotReady (e.field 4 2)).slotDone list idx (e.field 4 2)

/-! ### Session beats (R72, R80, R81, R83, R309) -/

/-- A SUSPENDED session resumes at this beat: the beat unit has locked again, the driver has asked or auto-resume is set
in OPERATIONAL, and the beat lies at least L lines after the lock and, for auto-resume, after the NMT Start (R72, R309). -/
def State.resumesAt (s : State) (x : Session) (lt : Nat) : Bool :=
  let b := s.beat
  let far := fun at_ => decide (at_ + b.lines * 65536 ≤ lt)
  x.st == .suspended && (b.lock == .locked || b.lock == .holdover) && far (b.lockN * 65536)
    && (x.resume || (s.setting 0x2103 2 == 1 && s.operational && far b.opAt))

/-- The first reward line of a raster later than a line instant (R239). -/
def State.rewardLine (s : State) (p phase t : Nat) : Nat := beatFrom p (phase + s.setting 0x2601 1 * 65536) (t + 1)

/-- A reward held while its slot was SUSPENDED is due from the first reward line after the slot resumes (R241). -/
def State.rewardResume (s : State) (slot t : Nat) : State :=
  let x := s.sessionOf slot
  { s with attach := s.attach.mapVals fun k a => if k = slot then
      { a with reward := a.reward.map fun r => { r with due := s.rewardLine x.p x.phase t } } else a }

/-- SESSION_BEAT (R83): the slot's next session beat arrives and is processed once; frames of the slot not served by it
complete with DEADLINE_MISSED (R81). -/
def execSessionBeat (slot : SlotId) (s : State) : Host.Outcome State Fault Refusal :=
  let x := s.sessionOf slot.val
  let lt := x.nextBeat
  let b := s.beat
  whenDue (x.st != .free && decide (lt / 65536 ≤ b.n) && b.lock != .search) s <|
    let s1 := if lt / 65536 = b.n then s.advanceTo (b.tickAt + lt % 65536 * b.period / 65536) else s
    let y := { x with nextBeat := beatFrom x.p x.phase (lt + 1)
                      st := if s.resumesAt x lt then .opened else x.st
                      resume := if s.resumesAt x lt then false else x.resume }
    let s0 := { s1 with sessions := s1.sessions.set slot.val y }
    let s2 := if s.resumesAt x lt then s0.rewardResume slot.val lt else s0
    let late := (s2.framesOf slot.val).filter fun k => match s2.frames.find k with
      | some f => decide (f.deadline ≤ lt)
      | none => false
    each late (fun z k => z.frameDone k .deadlineMissed 0) s2

/-! ### Query (R87) -/

/-- The number of a session state. -/
def sessNum : SessSt → Nat
  | .free => 0 | .opened => 1 | .suspended => 2

/-- The word of 0x2130:02. -/
def Session.word (x : Session) : Nat :=
  sessNum x.st + x.set.getD 0xFF * 256 + x.p * 2 ^ 16 + x.m * 2 ^ 32 + x.cls * 2 ^ 48

/-- Effect of sessionQuery once its access has passed checks 1 to 5. -/
def fxSessionQuery (v : W16) : Effect := fun x =>
    if 4096 ≤ v.toNat then .error outOfRange
    else
      let y := x.sessionOf v.toNat
      .ok (x.putCells 0x2130 [(1, v.toNat), (2, y.word), (3, y.phase),
        (4, if y.st = .free then 0 else x.beat.stampOf y.nextBeat)])

/-- SESSION_QUERY (R87): state, phase and next deadline of the named slot; a FREE slot reads state 0, no set and zeros. -/
def execSessionQuery (path : Path) (v : W16) (s : State) : Host.Outcome State Fault Refusal :=
  s.odWrite path 0x2130 1 (fxSessionQuery v)

end Sys2Proof.Machine
end

