-- ==== Sys2Proof/Machine/TileAcc.lean ====
section
/-! DEFINITION. What a tile's task does to its stores: line accesses through the task's windows, with bounds, cold reads and
ECC; the state of a prep core; traps; circular-region advances (R105, R119, R124, R125, R128, R130, R133, R137). -/

namespace Sys2Proof.Machine

/-- A tile whose clocks run and that may compute: not fenced, not paused by a store move, its panel neither in a reset nor
stopped (R360, R366, R405, R406). -/
def State.tileRuns (s : State) (k : Nat) : Bool :=
  let p := s.panelPower (keyPanel k)
  !s.fencedAt k && !(s.tileOf k).paused && !p.stopped && p.resetAt.isNone

/-- A tile runs a task that no fault has ended. -/
def State.taskRuns (s : State) (k : Nat) : Bool :=
  s.tileRuns k && match (s.tileOf k).task with
    | some q => q.failed.isNone
    | none => false

/-! ### Accesses within one line -/

/-- A task's read of `n` bytes at offset `off` of task-relative line `r`, by requester `req`: the bytes, or none where the
read ends the task. -/
def State.taskRead (s : State) (k : Nat) (st : StoreSel) (r off n req : Nat) : State × Option (List Byte) :=
  let t := s.tileOf k
  match t.taskLine st r with
  | none => (s.boundFault k st (t.base st + r) req false, none)
  | some l =>
    if t.lineOff st l then (s.boundFault k st l req true, none)
    else if t.isWritten st l then (s.storeEcc k st (l * 64 + off) n, some (t.readBytes st (l * 64 + off) n))
    else (s.coldRead k st l req, if t.coldAbort st then none else some (List.replicate n 0#8))

/-- A task's write of bytes at offset `off` of task-relative line `r`; false where it ends the task. -/
def State.taskWrite (s : State) (k : Nat) (st : StoreSel) (r off : Nat) (bs : List Byte) (req : Nat) : State × Bool :=
  let t := s.tileOf k
  match t.taskLine st r with
  | none => (s.boundFault k st (t.base st + r) req false, false)
  | some l =>
    if t.lineOff st l then (s.boundFault k st l req true, false)
    else (s.storeWrite k st (l * 64 + off) bs, true)

/-! ### Accesses to several lines (R125, R128) -/

/-- The lines `rs` are read whole, one after another, until one ends the task. -/
def State.readLines (k : Nat) (st : StoreSel) (req : Nat) : List Nat → State → State × Option (List Byte)
  | [], s => (s, some [])
  | r :: rs, s =>
    match s.taskRead k st r 0 64 req with
    | (s1, none) => (s1, none)
    | (s1, some b) => match State.readLines k st req rs s1 with
      | (s2, none) => (s2, none)
      | (s2, some c) => (s2, some (b ++ c))

/-- Bytes are written over the lines `rs`, 64 to a line, until one ends the task. -/
def State.writeLines (k : Nat) (st : StoreSel) (req : Nat) : List Nat → List Byte → State → State × Bool
  | [], _, s => (s, true)
  | r :: rs, bs, s =>
    match s.taskWrite k st r 0 (bs.take 64) req with
    | (s1, false) => (s1, false)
    | (s1, true) => State.writeLines k st req rs (bs.drop 64) s1

/-- The `n` lines of a multi-line access from task-relative line `r` (R128). -/
def Tile.span (t : Tile) (st : StoreSel) (r n : Nat) : List Nat := (List.range n).map (t.wrapLine st r)

/-! ### Prep cores (R104, R105) -/

def coreNum : Core → Nat
  | .pc0 => 0
  | .pc1 => 1
def Tile.core (t : Tile) : Core → CoreSt
  | .pc0 => t.core0
  | .pc1 => t.core1
def Tile.setCore (t : Tile) (c : Core) (x : CoreSt) : Tile :=
  match c with
  | .pc0 => { t with core0 := x }
  | .pc1 => { t with core1 := x }

/-- A general register; x0 reads zero and takes nothing. -/
def CoreSt.x (c : CoreSt) (r : Nat) : Nat := if r = 0 then 0 else c.regs.get 0 r
def CoreSt.setX (c : CoreSt) (r v : Nat) : CoreSt := if r = 0 then c else { c with regs := c.regs.set r (v % 2 ^ 32) }

/-- A core that can execute: its task runs and it is not halted. -/
def State.coreRuns (s : State) (k : Nat) (c : Core) : Bool := s.taskRuns k && !((s.tileOf k).core c).halted

/-- A core retires an instruction: `f` has set its registers and pc. -/
def State.retire (s : State) (k : Nat) (c : Core) (f : CoreSt → CoreSt) : State :=
  let t := s.tileOf k
  let x := f (t.core c)
  s.setTile k (t.setCore c { x with minstret := (x.minstret + 1) % 2 ^ 64 })

/-- The numbers of the machine-mode CSRs that a trap writes. -/
def csrMstatus : Nat := 0x300
def csrMepc : Nat := 0x341
def csrMcause : Nat := 0x342
def csrMtval : Nat := 0x343

/-- A trap (R105): mepc and mcause go to TRAP_PC and TRAP_CAUSE, the task ends with BAD_COMMAND and detector 0x0103 fires. -/
def State.trap (s : State) (k : Nat) (c : Core) (cause tval : Nat) : State :=
  let t := s.tileOf k
  let x := t.core c
  let st := x.csrs.get 0 csrMstatus
  let y := { x with csrs := ((((x.csrs.set csrMepc x.pc).set csrMcause cause).set csrMtval tval).set csrMstatus
    (if bit st 3 then 0x80 else 0)) }
  (s.setTile k (((t.setCore c y).setReg 0x50 x.pc).setReg 0x54 (cause + coreNum c * 2 ^ 31))).taskFault k .badCommand
    0x0103 none

/-- A prep-core access to lines that an issued instruction holds stalls and counts in PATH_STALL (R91). -/
def State.pathStall (s : State) (k : Nat) : State := s.tileBump k 0x48 1

/-- Some of the task-relative P lines belong to an issued instruction. -/
def Tile.pathBusy (t : Tile) (rs : List Nat) : Bool := rs.any fun r => t.lineBusy .p (t.pBase + r)

/-! ### Circular regions (R127, R130, R132) -/

/-- An advance of `count` lines of region `n`'s head or tail, written to CRn_ADV by a core. -/
def State.regionAdv (s : State) (k : Nat) (c : Core) (n v : Nat) : State :=
  let t := s.tileOf k
  let g := t.regionOf n
  let m := bits v 14 0
  let tail := bit v 15
  if g.enable = false ∨ (tail = true ∧ g.size - g.occ < m) ∨ (tail = false ∧ g.occ < m) then
    s.taskFault k .badCommand 0x0205 (some (violWord (0x3F0180 + 4 * n) 5 (coreNum c)))
  else if tail then
    let (p, w) := advance g.size g.tail g.twrap m
    s.setTile k { t with regions := t.regions.set n { g with tail := p, twrap := w } }
  else
    let (p, w) := advance g.size g.head g.hwrap m
    let t1 := { t with regions := t.regions.set n { g with head := p, hwrap := w } }
    let st := selOf g.store
    s.setTile k (if g.releaseClears then
      (List.range m).foldl (fun x i => match t.taskLine st (g.base + (g.head + i) % g.size) with
        | some l => x.clearLines st l (l + 1)
        | none => x) t1
      else t1)

end Sys2Proof.Machine
end

