-- ==== Sys2Proof/Machine/Tailor.lean ====
section
/-! DEFINITION. Commands of tailoring (07): attachments, the processing of event records, the feedback path and the reward
bus. -/

namespace Sys2Proof.Machine

/-! ### Synapse entries (R220, R224) -/

/-- A synapse entry (R224). -/
structure Synapse where
  pre : Nat
  post : Nat
  weight : Int
  delay : Nat
  valid : Bool
  created : Bool
  lowrun : Nat
  trace : Int
  age : Nat
  lastpre : Nat
  preseen : Bool
  deriving DecidableEq, Repr

/-- The entry that 128 bits hold: an invalid one is empty. -/
def synapseOf (v : Nat) : Synapse :=
  if bit v 54 then
    { pre := bits v 15 0, post := bits v 31 16, weight := signed 16 (bits v 47 32), delay := bits v 53 48, valid := true
      created := bit v 55, lowrun := bits v 63 56, trace := signed 16 (bits v 79 64), age := bits v 95 80
      lastpre := bits v 111 96, preseen := bit v 112 }
  else
    { pre := 0, post := 0, weight := 0, delay := 0, valid := false, created := false, lowrun := 0, trace := 0, age := 0
      lastpre := 0, preseen := false }

/-- The empty entry. -/
def synapse0 : Synapse := synapseOf 0

/-- The 128 bits that the unit writes for an entry: reserved bits 0, an empty entry all zeros. -/
def Synapse.word (x : Synapse) : Nat :=
  if x.valid then
    x.pre + x.post * 2 ^ 16 + unsigned 16 x.weight * 2 ^ 32 + x.delay * 2 ^ 48 + 2 ^ 54 + flag x.created * 2 ^ 55
      + x.lowrun * 2 ^ 56 + unsigned 16 x.trace * 2 ^ 64 + x.age * 2 ^ 80 + x.lastpre * 2 ^ 96 + flag x.preseen * 2 ^ 112
  else 0

/-- Byte offset of entry `e` in the W-store (R220). -/
def Attach.entryOff (a : Attach) (e : Nat) : Nat := a.wbase * 64 + e * 16

/-- Entries 0 to n − 1 of a slot's table on a tile. -/
def Tile.synapses (t : Tile) (a : Attach) (n : Nat) : List Synapse :=
  (List.range n).map fun e => synapseOf (leNat (t.readBytes .w (a.entryOff e) 16))

/-- Number of valid entries, and one more than the highest valid index. -/
def countValid (l : List Synapse) : Nat := (l.filter fun x => x.valid).length
def highValid (l : List Synapse) : Nat := ((l.zipIdx.filter fun x => x.1.valid).map fun x => x.2 + 1).foldl max 0

/-- The lines in which an entry changed are written back whole, the table's entries in the form the unit writes
(R230, log 31). -/
def State.tableWrite (s : State) (k : Nat) (a : Attach) (old new : List Synapse) : State :=
  each (List.range ((new.length + 3) / 4)) (fun x n =>
    let es := (List.range 4).map fun i => n * 4 + i
    if es.any fun e => new.getD e synapse0 != old.getD e synapse0 then
      let t := x.tileOf k
      let bs := es.flatMap fun e =>
        if a.budget ≤ e then t.readBytes .w (a.entryOff e) 16
        else natLe 16 ((if e < new.length then new.getD e synapse0
          else synapseOf (leNat (t.readBytes .w (a.entryOff e) 16))).word)
      x.storeWrite k .w (a.entryOff (n * 4)) bs
    else x) s

/-! ### Attachments (R205, R219 to R223) -/

/-- A slot's attachment: none attached reads as an empty window. -/
def EntryRun.attachOf (e : EntryRun) (j : Nat) : Attach :=
  let err := e.field 0x12 2
  { threeFactor := e.field 6 1 == 1, ruleset := e.field 7 1, region := regionFrom (e.field 8 2) (e.field 0xA 1) (e.field 0xB 1)
    wbase := e.field 0xC 2, wlimit := e.field 0xE 2, budget := e.field 0x10 2, errX := tileLx err, errY := tileLy err
    job := j, reward := none }

/-- A window overlaps another session's on a tile, an enabled W region of its task, or a powered-down W bank. -/
def State.windowTaken (s : State) (k slot : Nat) (a : Attach) : Bool :=
  let t := s.tileOf k
  (t.ctxs.keys.any fun o => o != slot && match s.attach.find o with
    | some b => decide (b.wbase < a.wlimit) && decide (a.wbase < b.wlimit)
    | none => false)
    || (t.task.isSome && (List.range 4).any fun n =>
        let g := t.regionOf n
        g.enable && g.store == 0 && decide (t.wBase + g.base < a.wlimit) && decide (a.wbase < t.wBase + g.base + g.size))
    || maskMeets t.pdW .w a.wbase a.wlimit

/-- A TATTACH that R205 or R219 refuses with BAD_COMMAND. -/
def State.attachBad (s : State) (e : EntryRun) (a : Attach) : Bool :=
  let slot := e.field 4 2
  let keys := s.wafer.regionKeys a.region
  !e.restZero [(4, 2), (6, 1), (7, 1), (8, 2), (0xA, 1), (0xB, 1), (0xC, 2), (0xE, 2), (0x10, 2), (0x12, 2)]
    || decide (4096 ≤ slot) || (s.sessionOf slot).st != .opened || (s.attach.find slot).isSome || decide (1 < e.field 6 1)
    || decide (15 < a.ruleset) || !originOk (e.field 8 2) || !originOk (e.field 0x12 2) || decide (a.wlimit ≤ a.wbase)
    || decide (16384 < a.wlimit) || decide (16384 < a.budget) || decide (4 * (a.wlimit - a.wbase) < a.budget)
    || (a.threeFactor && e.field 0x12 2 != 0) || !s.wafer.regionOk a.region
    || (!a.threeFactor && (s.wafer.phys a.errX a.errY).isNone)
    || keys.any fun k => decide (64 ≤ (s.tileOf k).ctxs.keys.length) || s.windowTaken k slot a

/-- A fresh context (R219). -/
def ctx0 : Ctx := { s := 0, count := 0, high := 0, recent := [], scanned := false }

/-- TATTACH (R205, R219): a context is created on every region tile, and each scans its table. -/
def execTattach (list idx : Nat) (s : State) : Host.Outcome State Fault Refusal :=
  s.accept list idx 3 1
    (fun l e =>
      let a := e.attachOf l.job
      let slot := e.field 4 2
      cond (s.attachBad e a) .badCommand
        ++ cond ((slot < 4096 && s.slotForeign slot l.job) || !a.region.inside (s.jobOf l.job).region
          || (!a.threeFactor && !(s.jobOf l.job).region.has a.errX a.errY)) .keyRejected)
    fun l e x =>
      let a := e.attachOf l.job
      let slot := e.field 4 2
      let keys := x.wafer.regionKeys a.region
      if keys.any x.fencedAt then x.entryLost list idx l.job (x.suspectTouchDet keys [])
      else each keys (fun y k => y.setTile k { y.tileOf k with ctxs := (y.tileOf k).ctxs.set slot ctx0 })
        { x with attach := x.attach.set slot a }

/-- A tile's scan of a table sets COUNT and HIGH (R220). -/
def State.scanTile (s : State) (k slot : Nat) (a : Attach) : State :=
  let s1 := s.storeEcc k .w (a.wbase * 64) (a.budget * 16)
  let t := s1.tileOf k
  let l := t.synapses a a.budget
  s1.setTile k { t with ctxs := t.ctxs.set slot { ctx0 with count := countValid l, high := highValid l, scanned := true } }

/-- TATTACH_SCAN_DONE (R220): every region tile has scanned its table, and TATTACH completes. -/
def execTattachScanDone (list idx : Nat) (s : State) : Host.Outcome State Fault Refusal :=
  match s.running list idx 3 1 with
  | none => .next s
  | some (l, e) =>
    let slot := e.field 4 2
    match s.attach.find slot with
    | none => .next (s.entryDone list idx .ok 0 0 slot)
    | some a =>
      let keys := s.wafer.regionKeys a.region
      let s1 := each (keys.filter fun k => ((s.tileOf k).ctxs.find slot).isSome) (fun x k => x.scanTile k slot a) s
      let w := s1.suspectStatus l.job keys []
      let st := if e.worst = .ok then w else e.worst
      .next ((s1.faultEnd (if e.worst = .ok then w else .ok)).entryDone list idx st
        (if e.worst = .ok then s1.suspectTouchDet keys [] else e.det) 0 slot)

/-- The conditions of an entry that names an attached slot. -/
def State.attachConds (s : State) (l : ListRun) (e : EntryRun) (fields : List (Nat × Nat)) : List Status :=
  let slot := e.field 4 2
  cond (!e.restZero fields || decide (4096 ≤ slot) || (s.attach.find slot).isNone) .badCommand
    ++ cond (s.slotForeign slot l.job) .keyRejected

/-- A TAILOR entry that has done its work on a slot's tiles completes with the stamp `at_`, with what a suspect one will give
it (R404). -/
def State.tailorDone (s : State) (at_ id idx slot j : Nat) (keys : List Nat) : State :=
  let w := s.suspectStatus j keys []
  (s.faultEnd w).entryDoneAt at_ id idx w (s.suspectTouchDet keys []) 0 slot

/-- The region tiles of a slot's attachment. -/
def State.attachKeys (s : State) (slot : Nat) : List Nat :=
  match s.attach.find slot with
  | some a => s.wafer.regionKeys a.region
  | none => []

/-- TDETACH (R222): records, contributions and pending reward go, and the context is freed on every region tile. -/
def execTdetach (list idx : Nat) (s : State) : Host.Outcome State Fault Refusal :=
  s.accept list idx 3 2 (fun l e => s.attachConds l e [(4, 2)]) fun l e x =>
    let slot := e.field 4 2
    (x.detachSlot slot).tailorDone x.stamp list idx slot l.job (x.attachKeys slot)

/-- The table of a slot is written to zero on one tile, and its context begins anew (R223). -/
def State.clearTable (s : State) (k slot : Nat) (a : Attach) : State :=
  let s1 := s.storeWrite k .w (a.wbase * 64) (List.replicate (a.budget * 16) 0#8)
  let t := s1.tileOf k
  s1.setTile k { t with ctxs := t.ctxs.set slot { ctx0 with scanned := true } }

/-- TCLEAR (R223): queued work goes, every table entry is written to zero, the context stays attached. -/
def execTclear (list idx : Nat) (s : State) : Host.Outcome State Fault Refusal :=
  s.accept list idx 3 4 (fun l e => s.attachConds l e [(4, 2)]) fun l e x =>
    let slot := e.field 4 2
    match x.attach.find slot with
    | none => x
    | some a =>
      let keys := (x.wafer.regionKeys a.region).filter fun k => ((x.tileOf k).ctxs.find slot).isSome
      (each keys (fun y k => y.clearTable k slot a) (x.dropSlotWork slot false)).tailorDone x.stamp list idx slot l.job keys

/-! ### Rewards (R239 to R241) -/

/-- TREWARD (R239, R240): the reward becomes pending, merged with one that is, until its broadcast. -/
def execTreward (list idx : Nat) (s : State) : Host.Outcome State Fault Refusal :=
  s.accept list idx 3 3
    (fun l e => s.attachConds l e [(4, 2), (6, 2)] ++ cond (match s.attach.find (e.field 4 2) with
      | some a => !a.threeFactor
      | none => false) .badCommand)
    fun _ e x =>
      let slot := e.field 4 2
      let v := signed 16 (e.field 6 2)
      let y := x.sessionOf slot
      { x with attach := x.attach.mapVals fun k a => if k = slot then
          { a with reward := some <| match a.reward with
            | none => ⟨v, [(list, idx)], x.rewardLine y.p y.phase x.lineNow⟩
            | some r => { r with value := r.value + v, entries := r.entries ++ [(list, idx)] } } else a }

/-- Clamp to the INTEGER16 range. -/
def sat16 (v : Int) : Int := max (-32768) (min 32767 v)

/-- A record enters a tile's queue, or waits outside a full one (R225). -/
def Tile.evArrive (t : Tile) (r : EvRec) : Tile :=
  if t.evq.length < 64 ∧ t.evWait = [] then { t with evq := t.evq ++ [r] } else { t with evWait := t.evWait ++ [r] }

/-- One reward is broadcast: its record enters the queue of every region tile, and its TREWARDs complete, stamped with the
broadcast boundary (R240). -/
def State.rewardOut (s : State) (slot : Nat) : State :=
  match s.attach.find slot with
  | none => s
  | some a => match a.reward with
    | none => s
    | some r =>
      let keys := s.wafer.regionKeys a.region
      let rec_ : EvRec := ⟨5, slot, 0, unsigned 16 (sat16 r.value)⟩
      let s1 := each (keys.filter fun k => !s.fencedAt k) (fun x k => x.setTile k ((x.tileOf k).evArrive rec_)) s
      let s2 := ({ s1 with attach := s1.attach.set slot { a with reward := none } }).bump64 0x2600 0xB
      each r.entries (fun x e => x.tailorDone (s.beat.stampOf (s.beat.n * 65536)) e.1 e.2 slot a.job keys) s2

/-- The slots whose reward is due at the present boundary, lowest first (R239, R241). -/
def State.rewardsDue (s : State) : List Nat :=
  (s.attach.cells.filter fun c => (s.sessionOf c.1).st == .opened && match c.2.reward with
    | some r => decide (r.due ≤ s.beat.n * 65536)
    | none => false).map Prod.fst

/-- REWARD_BROADCAST (R240, R241): once a boundary, the rewards due are broadcast, at most 256; the rest are deferred, counted
and fire 0x0305. -/
def execRewardBroadcast (s : State) : Host.Outcome State Fault Refusal :=
  let due := s.rewardsDue
  whenDue (!due.isEmpty && (s.rewardN != s.beat.n || s.rewardSent == 0)) s <|
    let a := each (due.take 256) State.rewardOut { s with rewardN := s.beat.n, rewardSent := min 256 due.length }
    each (due.drop 256) (fun x k => (x.bump64 0x2600 0xC).fire 0x0305 k 0) a

/-- Destination `d` has its copy of the oldest held record that still has to reach it. -/
def feedbackReach (d : Nat) : List (EvRec × List Nat) → List (EvRec × List Nat)
  | [] => []
  | x :: r => if x.2.contains d then (x.1, x.2.filter fun y => y != d) :: r else x :: feedbackReach d r

/-- FEEDBACK_DELIVERY (R228): the oldest held ERROR record of a source tile that has not reached a destination enters its
queue, once there is room. -/
def execFeedbackDelivery (src dst : PhysTile) (s : State) : Host.Outcome State Fault Refusal :=
  let k := tileKey src
  let d := tileKey dst
  let t := s.tileOf k
  match t.feedback.find? fun r => r.2.contains d with
  | none => .next s
  | some r =>
    let hold := (feedbackReach d t.feedback).filter fun x => x.2 != []
    let s1 := s.setTile k { t with feedback := hold }
    let u := s1.tileOf d
    if s.fencedAt d then .next s1
    else whenDue (decide (u.evq.length < 64) && u.evWait.isEmpty && !u.paused) s (s1.setTile d { u with evq := u.evq ++ [r.1] })

/-! ### Processing (R230) -/

/-- A record is taken off a tile's queue, and one that waits outside moves up. -/
def Tile.evTake (t : Tile) : Tile := Tile.evSettle { t with evq := t.evq.drop 1 }

/-- What a record works on: its context, attachment, and table of entries 0 to HIGH − 1. -/
structure Work where
  rec_ : EvRec
  ctx : Ctx
  att : Attach
  table : List Synapse
  deriving DecidableEq, Repr

/-- The ruleset words in force: learning, structure (R244). -/
def State.rules (s : State) (a : Attach) : Nat × Nat := (s.setting 0x2610 (a.ruleset + 1), s.setting 0x2611 (a.ruleset + 1))

/-- The oldest record of a tile's queue, of one kind, is processed whole: the table is scanned, `f` gives its new entries,
context and what else happens, and changed lines are written back (R230). A record whose slot has no context goes. -/
def State.process (s : State) (k kind : Nat) (f : Work → State → State × List Synapse × Ctx) :
    Host.Outcome State Fault Refusal :=
  let t := s.tileOf k
  match t.evq with
  | [] => .next s
  | r :: _ =>
    if r.kind ≠ kind ∨ s.tileRuns k = false then .next s else
      let s1 := s.setTile k t.evTake
      match t.ctxs.find r.slot, s.attach.find r.slot with
      | some c, some a =>
        if c.scanned = false then .next s else
          let s2 := (s1.storeEcc k .w (a.wbase * 64) (c.high * 16)).bump64 0x2600 1
          let w : Work := ⟨r, c, a, (s2.tileOf k).synapses a c.high⟩
          let (s3, new, c1) := f w s2
          let s4 := s3.tableWrite k a w.table new
          let u := s4.tileOf k
          .next (s4.setTile k { u with ctxs := u.ctxs.set r.slot { c1 with count := countValid new, high := highValid new } })
      | _, _ => .next s1

/-- Modulo-2^16 difference of two steps. -/
def stepDiff (a b : Nat) : Nat := (a + 65536 - b) % 65536

/-- The contributions that a PRE schedules (R231): one that finds the buffer of 4,096 full is dropped. -/
def State.contribute (s : State) (k slot : Nat) (cs : List Contrib) : State :=
  let t := s.tileOf k
  let room := 4096 - t.contribs.length
  let s1 := s.setTile k { t with contribs := t.contribs ++ cs.take room }
  each (cs.drop room) (fun x _ => (x.bump64 0x2600 4).fire 0x0302 slot 0) s1

/-- TAILOR_PRE (R231): the pre's synapses schedule their weights, and it enters the recent-pre list. -/
def execTailorPre (t : PhysTile) (s : State) : Host.Outcome State Fault Refusal :=
  s.process (tileKey t) 1 fun w x =>
    let i := w.rec_.index
    let hit := fun (e : Synapse) => e.valid && e.pre == i
    let cs := (w.table.filter hit).map fun e => (⟨w.rec_.slot, e.post, e.weight, (w.ctx.s + e.delay) % 65536⟩ : Contrib)
    (x.contribute (tileKey t) w.rec_.slot cs,
      w.table.map (fun e => if hit e then { e with lastpre := w.ctx.s, preseen := true } else e),
      { w.ctx with recent := ((i, w.ctx.s) :: w.ctx.recent.filter fun p => p.1 != i).take 32 })

/-- The trace and delay rules of a POST on one synapse (R232). -/
def Synapse.onPost (e : Synapse) (lw sw step : Nat) : Synapse :=
  let d := signed 16 (stepDiff step ((e.lastpre + e.delay) % 65536))
  let m := stepDiff step e.lastpre
  let trace :=
    if 0 ≤ d ∧ d ≤ 63 then sat16 (e.trace + ((bits lw 15 8 * 128 / 2 ^ (min d.toNat 15) : Nat) : Int))
    else if d < 0 ∧ -63 ≤ d then sat16 (e.trace - ((bits lw 23 16 * 128 / 2 ^ (min (-d).toNat 15) : Nat) : Int))
    else e.trace
  { e with
    trace := trace
    delay := if bit sw 48 && decide (m ≤ 63) && e.delay != m then (if e.delay < m then e.delay + 1 else e.delay - 1)
      else e.delay }

/-- A synapse made at step `step` from a recent pre (R242). -/
def synapseNew (pre post t step lw sw : Nat) : Synapse :=
  let wmax : Int := bits lw 47 32
  { pre := pre, post := post, weight := max (-wmax) (min wmax (signed 16 (bits sw 23 8))), delay := stepDiff step t
    valid := true, created := true, lowrun := 0, trace := 0, age := 0, lastpre := t, preseen := true }

/-- Candidates are created at the lowest empty index while the budget allows; the rest are refused (R242). -/
def createAll (budget post step lw sw : Nat) : List (Nat × Nat) → List Synapse → List Synapse × Nat × Nat
  | [], l => (l, 0, 0)
  | (q, t) :: r, l =>
    if countValid l < budget then
      let e := synapseNew q post t step lw sw
      let i := (l.zipIdx.find? fun x => !x.1.valid).map Prod.snd
      let l1 := match i with
        | some n => l.set n e
        | none => l ++ [e]
      let (l2, a, b) := createAll budget post step lw sw r l1
      (l2, a + 1, b)
    else
      let (l2, a, b) := createAll budget post step lw sw r l
      (l2, a, b + 1)

/-- TAILOR_POST (R232, R242): traces and delays follow, and synapses are created. -/
def execTailorPost (t : PhysTile) (s : State) : Host.Outcome State Fault Refusal :=
  s.process (tileKey t) 2 fun w x =>
    let j := w.rec_.index
    let (lw, sw) := x.rules w.att
    let step := w.ctx.s
    let hit := fun (e : Synapse) => e.valid && e.post == j && e.preseen
    let l := w.table.map fun e => if hit e then e.onPost lw sw step else e
    let moved := ((w.table.zip l).filter fun p => p.1.delay != p.2.delay).length
    let cwin := bits sw 7 0
    let cands := if cwin = 0 then [] else w.ctx.recent.filter fun p =>
      decide (stepDiff step p.2 ≤ cwin) && !w.table.any fun e => e.valid && e.pre == p.1 && e.post == j
    let (l2, made, refused) := createAll w.att.budget j step lw sw cands l
    let x1 := (x.count 64 0x2600 0xA moved).count 64 0x2600 6 made
    (each (List.range refused) (fun y _ => (y.bump64 0x2600 7).fire 0x0304 w.rec_.slot 0) x1, l2, w.ctx)

/-- A weight update with factor `g` (R236). -/
def Synapse.update (e : Synapse) (g : Int) (lw sw : Nat) : Synapse :=
  let eta := bits lw 3 0
  let wmax : Int := bits lw 47 32
  let dw := (g * e.trace + 2 ^ (14 + eta)) / (2 ^ (15 + eta) : Int)
  let v := max (-wmax) (min wmax (e.weight + dw))
  let pn := bits sw 31 24
  let low := if pn = 0 then e.lowrun else if v.natAbs < bits sw 47 32 then min (e.lowrun + 1) 255 else 0
  if pn ≠ 0 ∧ pn ≤ low then synapse0 else { e with weight := v, age := min (e.age + 1) 0xFFFF, lowrun := low }

/-- The entries that `hit` names are updated with factor `g`: 0x2600:09 and 08 count updates and prunings. -/
def State.updateAll (x : State) (w : Work) (g : Int) (hit : Synapse → Bool) : State × List Synapse × Ctx :=
  let (lw, sw) := x.rules w.att
  let l := w.table.map fun e => if e.valid && hit e then e.update g lw sw else e
  let n := (w.table.filter fun e => e.valid && hit e).length
  ((x.count 64 0x2600 9 n).count 64 0x2600 8 (countValid w.table - countValid l), l, w.ctx)

/-- TAILOR_ERROR (R237): the error updates every synapse of its post. -/
def execTailorError (t : PhysTile) (s : State) : Host.Outcome State Fault Refusal :=
  s.process (tileKey t) 3 fun w x => x.updateAll w (signed 16 w.rec_.value) fun e => e.post == w.rec_.index

/-- TAILOR_REWARD (R238): the reward updates every synapse of the slot. -/
def execTailorReward (t : PhysTile) (s : State) : Host.Outcome State Fault Refusal :=
  s.process (tileKey t) 5 fun w x => x.updateAll w (signed 16 w.rec_.value) fun _ => true

/-! ### Steps and delivery (R233 to R235) -/

/-- The due contributions are delivered to lines DST to DST + NLINES, header last; an invalid area ends the task. -/
def State.deliver (s : State) (k : Nat) (w : Work) : State :=
  let t := s.tileOf k
  let due := t.contribs.filter fun c => c.slot == w.rec_.slot && c.due == w.ctx.s
  let dst := bits w.rec_.index 11 0
  let n := bits w.rec_.value 6 0
  let s1 := s.setTile k { t with contribs := t.contribs.filter fun c => !(c.slot == w.rec_.slot && c.due == w.ctx.s) }
  let ls := (List.range (n + 1)).map fun i => t.taskLine .a (dst + i)
  match ls.zipIdx.find? fun l => match l.1 with
      | some m => t.lineOff .a m
      | none => true with
  | some (l, i) =>
    ((s1.boundFault k .a (match l with
        | some m => m
        | none => t.aBase + dst + i) 4 l.isSome).fire 0x0307 w.rec_.slot 1).bump64 0x2600 0xE
  | none =>
    let good := due.filter fun c => decide (c.post < 32 * n)
    let bad := due.length - good.length
    let posts := (List.range (32 * n)).map fun p => sat16 ((good.filter fun c => c.post == p).map fun c => c.weight).sum
    let body := posts.flatMap fun v => natLe 2 (unsigned 16 v)
    let header := natLe 2 w.ctx.s ++ natLe 2 w.rec_.slot ++ natLe 2 (min good.length 0xFFFF) ++ natLe 2 (min bad 0xFFFF)
      ++ List.replicate 56 0#8
    let at_ := fun (i : Nat) => (ls.getD i none).getD 0 * 64
    let s2 := each (List.range n) (fun x i => x.storeWrite k .a (at_ (i + 1)) ((body.drop (i * 64)).take 64)) s1
    each (List.range bad) (fun x _ => (x.bump64 0x2600 5).fire 0x0303 w.rec_.slot 0) (s2.storeWrite k .a (at_ 0) header)

/-- TAILOR_STEP (R233): delivery, decay of every trace, and the step counter goes on. -/
def execTailorStep (t : PhysTile) (s : State) : Host.Outcome State Fault Refusal :=
  s.process (tileKey t) 4 fun w x =>
    let sh := bits (x.rules w.att).1 7 4
    (x.deliver (tileKey t) w,
      w.table.map fun e => if e.valid then { e with trace := e.trace - e.trace / (2 ^ sh : Int) } else e,
      { w.ctx with s := (w.ctx.s + 1) % 65536 })

/-! ### Queries (R248) -/

/-- Effect of slotQuery once its access has passed checks 1 to 5. -/
def fxSlotQuery (v : W16) : Effect := fun x =>
    let k := v.toNat
    if 4096 ≤ k then .error outOfRange
    else .ok <| match x.attach.find k with
      | none => x.putCells 0x2620 [(1, k), (2, 0), (3, 0), (4, 0)]
      | some a =>
        let g := a.region
        let rw := match a.reward with
          | some r => unsigned 16 (sat16 r.value)
          | none => 0
        let n := ((x.wafer.regionKeys g).map fun t => match (x.tileOf t).ctxs.find k with
          | some c => c.count
          | none => 0).sum
        x.putCells 0x2620 [(1, k),
          (2, 1 + flag a.threeFactor * 2 + a.ruleset * 4 + flag a.reward.isSome * 64 + packTile g.lx g.ly * 2 ^ 8
            + g.w * 2 ^ 24 + g.h * 2 ^ 32 + packTile a.errX a.errY * 2 ^ 40),
          (3, a.wbase + a.wlimit * 2 ^ 16 + a.budget * 2 ^ 32 + rw * 2 ^ 48), (4, n)]

/-- SLOT_QUERY (R248): attachment, window and synapses of the named slot. -/
def execSlotQuery (path : Path) (v : W16) (s : State) : Host.Outcome State Fault Refusal :=
  s.odWrite path 0x2620 1 (fxSlotQuery v)

/-- The word of 0x2621:02: a slot's context on a tile. -/
def State.contextWord (s : State) (lx ly slot : Nat) : Nat :=
  match s.wafer.phys lx ly with
  | none => 0
  | some k => match (s.tileOf k).ctxs.find slot with
    | none => 0
    | some c => c.s + c.count * 2 ^ 16 + c.high * 2 ^ 32 + (s.tileOf k).evq.length * 2 ^ 48 + 2 ^ 63

/-- Effect of contextQuery once its access has passed checks 1 to 5. -/
def fxContextQuery (v : W32) : Effect := fun x =>
    let n := v.toNat
    if bit n 7 ∨ bits n 15 15 ≠ 0 ∨ bits n 31 28 ≠ 0 then .error outOfRange
    else .ok (x.putCells 0x2621 [(1, n), (2, x.contextWord (tileLx n) (tileLy n) (bits n 27 16))])

/-- CONTEXT_QUERY (R248): step, count, high-water mark and queue depth of a slot's context on a tile. -/
def execContextQuery (path : Path) (v : W32) (s : State) : Host.Outcome State Fault Refusal :=
  s.odWrite path 0x2621 1 (fxContextQuery v)

end Sys2Proof.Machine
end

