-- ==== Sys2Proof/Machine/OdRead.lean ====
section
/-! DEFINITION. Reading the dictionary: the value of every object (R326, R348 and the object table of each chapter), the
range of values a setting takes, and the queries that have no row of their own. -/

namespace Sys2Proof.Machine

/-! ### Strings -/

/-- The ASCII bytes of a text. -/
def ascii (t : String) : List Byte := t.toList.map fun c => BitVec.ofNat 8 c.toNat
/-- The decimal digits of a number below 100,000, without leading zeros. -/
def decimal (n : Nat) : List Byte :=
  let ds := [n / 10000 % 10, n / 1000 % 10, n / 100 % 10, n / 10 % 10, n % 10]
  let cut := if n < 10 then 4 else if n < 100 then 3 else if n < 1000 then 2 else if n < 10000 then 1 else 0
  (ds.drop cut).map fun d => BitVec.ofNat 8 (48 + d)

/-- The value of a VISIBLE_STRING object (R48, R348, R441). 0x1009 is the carrier issue in the decimal form that R441 gives
for versions (log 37). -/
def State.odString (s : State) (index sub : Nat) : List Byte :=
  let run := s.fw.slot s.fw.runB
  if index = 0x1008 then ascii "Fradalith Hadramas"
  else if index = 0x1009 then decimal (s.fuses.carrier.toNat / 256) ++ ascii "." ++ decimal (s.fuses.carrier.toNat % 256)
  else if index = 0x100A then
    decimal (bits run.version 31 24) ++ ascii "." ++ decimal (bits run.version 23 16) ++ ascii "." ++ decimal (bits run.version 15 0)
      ++ (if s.fw.runB then ascii " B" else ascii " A")
  else if index = 0x2000 then if sub = 1 then ascii "FDH-8448" else if sub = 2 then (s.fuses.serial ++ List.replicate 16 0#8).take 16 else s.fuses.wafer
  else if index = 0x2C07 then (s.fw.slot (sub == 2)).buildId
  else []

/-! ### Words of the object tables -/

/-- A free value of `w` bits (log 4). -/
def State.freeNat (s : State) (w : Nat) : Nat := (Config.freeWord s.fresh).toNat % 2 ^ w

/-- 0x2010: a panel's state and logical position. For a panel outside the grid both halves of the position read 0xF, although
its row or column may still be active: the table leaves open which (DESIGN CHOICE, log 74). -/
def State.panelWord (s : State) (p : Nat) : Nat :=
  let c := s.wafer.panelOf p
  let st := if s.panelLost p then 2 else match c.mode with
    | .active => 0 | .removed => 1 | .lost => 2
  let pos := if s.wafer.inGrid p then
      (indexIn (panelX p) s.wafer.cols).getD 15 * 16 + (indexIn (panelY p) s.wafer.rows).getD 15 * 256
    else 0xFF0
  st + flag c.resetting * 4 + pos

/-- 0x2011: the gusset map of a panel. -/
def Wafer.gussetWord (w : Wafer) (p : Nat) : Nat :=
  ((List.range 12).map fun r => w.skipOf p r * 16 ^ r + flag (w.repaired.get false (p * 12 + r)) * 2 ^ (48 + r)).sum

/-- 0x2012: an edge's failed lanes, and the spares in use. -/
def Wafer.laneWord (w : Wafer) (e : Nat) : Nat :=
  let one := fun d => w.laneFail.get 0 (e * 2 + d) + sparesUsed (w.laneForce.get 0 (e * 2 + d)) * 2 ^ 14
  one 0 + one 1 * 2 ^ 16

/-- 0x2B41: the rows of a panel without a spare. -/
def Wafer.spentWord (w : Wafer) (p : Nat) : Nat :=
  ((List.range 12).map fun r => flag (w.skipOf p r != 11 || w.spent.get false (p * 12 + r)) * 2 ^ r).sum

/-- 0x2100:02. -/
def Beat.flagsWord (b : Beat) : Nat :=
  flag b.carrier + flag b.inverted * 2 + flag b.srcHoldover * 4 + flag b.srcTest * 8 + flag b.everLocked * 16
    + flag b.holdover * 32

/-- 0x2100:01. -/
def lockNum : Lock → Nat
  | .search => 0 | .locked => 1 | .holdover => 2 | .lost => 3

/-- 0x2100:05: milliseconds since the last good boundary. More than 65,535 of them have no stated reading: a free value. -/
def State.holdoverMs (s : State) : Nat :=
  match s.beat.lock with
  | .search => 0
  | .locked => 0
  | _ => let ms := (s.now - s.beat.lastGoodAt) / psMs
         if ms < 65536 then ms else s.freeNat 16

/-- The members of a locked set. -/
def State.members (s : State) (g : Nat) : Nat := (s.sessions.vals.filter fun x => x.st != .free && x.set == some g).length
/-- 0x2120 and 0x2121: a locked set's raster and margin; zeros without members. -/
def State.setWord (s : State) (g : Nat) : Nat :=
  match s.setMember g with
  | some x => x.p + x.phase * 2 ^ 16 + s.members g * 2 ^ 48
  | none => 0
def State.setMargin (s : State) (g : Nat) : Nat :=
  match s.setMember g with
  | some x => x.m
  | none => 0

/-- 0x2504: class c frames skipped per 10,000 that claimed a deadline, over the last 0x2502:04 admission beats (R216). -/
def State.skipRate (s : State) (c : Nat) : Nat :=
  let now_ := s.beat.n / s.beatLen
  let last := s.setting 0x2502 4
  let beat := fun (key : Nat) => key / 8 / s.beatLen
  let xs := s.skips.cells.filter fun k => k.1 % 8 == c && decide (beat k.1 ≤ now_) && decide (now_ < beat k.1 + last)
  let claims := (xs.map fun k => k.2.claims).sum
  if claims = 0 then 0 else (xs.map fun k => k.2.skips).sum * 10000 / claims

/-- 0x2500:01 and 02. -/
def HostFn.linkWord (h : HostFn) : Nat := h.gen + h.width * 16 + flag h.up * 2 ^ 15

/-- 0x2800: a port's state. All four lanes are aligned while the link is up. -/
def State.portWord (s : State) (p : Nat) : Nat :=
  let x := s.portOf p
  let cfg := s.setting 0x2801 (p + 1)
  flag (s.portEnabled p) + flag x.link * 2 + bits cfg 1 1 * 4 + flag x.link * 0xF0 + x.downs % 256 * 256

/-- 0x2910. -/
def domNum : DomSt → Nat
  | .off => 0 | .ramping => 1 | .on => 2 | .retain => 3 | .latchedOff => 4

/-- 0x2920. -/
def PanelPower.word (p : PanelPower) : Nat :=
  flag p.brownout + flag (p.belowCore || p.belowSram) * 2 + flag p.srcBrown * 4 + flag p.srcLimit * 8 + flag p.srcDie * 16
    + flag p.stopped * 32 + flag p.overcurrent * 64 + p.clears % 4 * 128 + flag p.pll * 512

/-- A bit per panel. -/
def panelBits (f : Nat → Bool) : Nat := (allPanels.map fun p => flag (f p) * 2 ^ p).sum

/-- 0x2A00:02. -/
def phaseNum : Phase → Nat
  | .collarStart => 0 | .recovery => 1 | .waiting => 2 | .yokeStart => 3 | .domains => 4 | .testAndScrub => 5
  | .done => 6 | .yokeFailed => 7 | .shutdown => 8
def startNum : StartCause → Nat
  | .supply => 0 | .modRst => 1 | .watchdog => 2 | .lockstep => 3

/-- 0x2A10. -/
def SegBring.word (x : SegBring) : Nat := x.st + min 3 x.attempts * 8 + min 65535 x.scrubMs * 2 ^ 16

/-- 0x2C02 and 0x2C21:03. -/
def slotNum : SlotSt → Nat
  | .empty => 0 | .erasing => 1 | .writing => 2 | .invalid => 3 | .pending => 4 | .trial => 5
  | .committed => 6 | .standby => 7 | .failed => 8 | .revoked => 9
def updateNum : UpdateSt → Nat
  | .idle => 0 | .erasing => 1 | .ready => 2 | .writing => 3 | .verifying => 4 | .done => 5 | .failed => 6

/-- 0x2C03: the version of an image that stands verified. -/
def Slot.shown (x : Slot) : Nat :=
  match x.st with
  | .pending => x.version | .trial => x.version | .committed => x.version | .standby => x.version | .failed => x.version
  | _ => 0

/-- The anti-rollback counter (R428). -/
def State.rollback (s : State) : Nat := popcount 64 s.fuses.rollback.toNat
/-- Slots that OPEN or SUSPENDED sessions hold, in a state. -/
def State.sessCount (s : State) (st : SessSt) : Nat := (s.sessions.vals.filter fun x => x.st == st).length
/-- A detector's count. -/
def State.detCount (s : State) (d : Nat) : Nat := (s.detOf d).count
/-- Live records (R438). -/
def Firmware.live (f : Firmware) : List Record := f.records.filter fun r => r.live

/-! ### The value of a numeric object -/

/-- Objects of the communication area that are not stored cells. -/
def State.readComm (s : State) (index sub : Nat) : Option Nat :=
  match index, sub with
  | 0x1000, 0 => some 0
  | 0x1001, 0 => some s.errReg
  | 0x1003, 0 => some s.can.history.length
  | 0x1003, n => some (s.can.history.getD (n - 1) 0)
  | 0x1018, 1 => some s.fuses.vendor.toNat
  | 0x1018, 3 => some s.fuses.revision.toNat
  | 0x1018, 4 => some s.fuses.serialNumber.toNat
  | 0x1200, 1 => some (0x600 + s.can.nodeId)
  | 0x1200, 2 => some (0x580 + s.can.nodeId)
  | 0x1FD1, 1 => some s.can.nodeId
  | 0x1FD1, 2 => some s.fuses.nodeId.toNat
  | 0x1FD1, 3 => some s.can.straps
  | 0x1FD1, 5 => some s.can.idSource
  | 0x1FD2, 1 => some (if s.can.busOff then 2 else flag s.can.passive)
  | 0x1FD2, 2 => some (min 255 s.can.tec)
  | 0x1FD2, 3 => some (min 255 s.can.rxErr)
  | 0x1FD2, 4 => some (s.detCount 0x0D02)
  | 0x1FD2, 5 => some (s.detCount 0x0D01)
  | 0x1FD2, 0xA => some (s.detCount 0x0D05)
  | _, _ => none

/-- Wafer map, raster and session objects that are not stored cells. -/
def State.readGrid (s : State) (index sub : Nat) : Option Nat :=
  match index, sub with
  | 0x2000, 4 => some s.fuses.carrier.toNat
  | 0x2000, 5 => some s.fuses.layout.toNat
  | 0x2001, 2 => some s.wafer.width
  | 0x2001, 3 => some s.wafer.height
  | 0x2001, 4 => some s.wafer.mode
  | 0x2001, 5 => some (((List.range 8).map fun x => flag (s.wafer.colActive x) * 2 ^ x).sum)
  | 0x2001, 6 => some (((List.range 8).map fun y => flag (s.wafer.rowActive y) * 2 ^ y).sum)
  | 0x2001, 7 => some (panelBits s.panelLost)
  | 0x2001, 8 => some s.wafer.present
  | 0x2004, 0 => some s.wafer.epoch.toNat
  | 0x2010, n + 1 => some (s.panelWord n)
  | 0x2011, n + 1 => some (s.wafer.gussetWord n)
  | 0x2012, n + 1 => some (s.wafer.laneWord (n + 1))
  | 0x2030, n + 1 => some (s.wafer.seamCost (n + 1))
  | 0x2100, 1 => some (lockNum s.beat.lock)
  | 0x2100, 2 => some s.beat.flagsWord
  | 0x2100, 3 => some s.stamp
  | 0x2100, 4 => some s.beat.n
  | 0x2100, 5 => some s.holdoverMs
  | 0x2100, 6 => some s.beat.source
  | 0x2100, 7 => some s.beat.period
  | 0x2100, 8 => some s.beat.relock.toNat
  | 0x2101, 1 => some s.beat.lines
  | 0x2101, 2 => some s.beat.rate
  | 0x2101, 3 => some s.beat.nominal
  | 0x2110, 1 => some (s.sessCount .opened)
  | 0x2110, 2 => some (s.sessCount .suspended)
  | 0x2110, 3 => some (((List.range 64).map fun g => flag (s.members g != 0) * 2 ^ g).sum)
  | 0x2120, n + 1 => some (s.setWord n)
  | 0x2121, n + 1 => some (s.setMargin n)
  | _, _ => none

/-- Tile, store, streaming, ring, tailoring, remote and port objects that are not stored cells. -/
def State.readYoke (s : State) (index sub : Nat) : Option Nat :=
  match index, sub with
  | 0x2200, 5 => some (s.detCount 0x0103)
  | 0x2200, 6 => some (s.detCount 0x0104)
  | 0x2200, 7 => some (s.detCount 0x0106)
  | 0x2200, 8 => some (s.detCount 0x0102)
  | 0x2211, n + 1 => some (s.panelPower n).mhz
  | 0x2300, 2 => some (s.detCount 0x0204)
  | 0x2300, 6 => some (s.detCount 0x0202)
  | 0x2300, 7 => some (s.detCount 0x0205)
  | 0x2300, 0xA => some (s.detCount 0x0207)
  | 0x2300, 0xB => some (s.detCount 0x0208)
  | 0x2400, 1 => some (((List.range 16).map fun g => flag (s.dram.get false g) * 2 ^ g).sum)
  | 0x2400, 2 => some (((List.range 16).map fun g => flag (s.flashUp g) * 2 ^ g).sum)
  | 0x2400, 3 => some (s.plans.vals.filter fun p => p.st != .free).length
  | 0x2400, 4 => some (s.plans.vals.filter fun p => p.st == .active).length
  | 0x2402, 1 => some s.dramPerLine
  | 0x2402, 2 => some s.flashPerLine
  | 0x2403, 8 => some (((List.range 16).map fun g => s.segCtr.get 0 (g * 16 + 4)).sum)
  | 0x2500, 1 => some s.hostA.linkWord
  | 0x2500, 2 => some s.hostB.linkWord
  | 0x2500, 3 => some (s.fuses.pciVendor.toNat + 0x8448 * 65536)
  | 0x2501, 1 => some ((s.sq.vals ++ s.cq.vals).filter fun r => r.enable).length
  | 0x2502, 5 => some s.tcBudget
  | 0x2502, 6 => some s.sbBudget
  | 0x2504, n + 1 => some (s.skipRate n)
  | 0x2506, 1 => some s.liveJobs.length
  | 0x2600, 0xD => some (s.detCount 0x0306)
  | 0x2601, 2 => some s.attach.keys.length
  | 0x2703, 1 => some (s.conns.vals.filter fun c => c.st != .free).length
  | 0x2703, 2 => some s.contexts
  | 0x2703, 3 => some s.ctrs.keys.length
  | 0x2703, 4 => some s.heldAll
  | 0x2800, n + 1 => some (s.portWord n)
  | 0x2802, 4 => some (s.nodes.vals.filter fun n => n.st != .none).length
  | 0x2802, 5 => some (s.nodes.vals.filter fun n => n.st == .ambiguous).length
  | 0x2812, n + 1 => some (unsigned 32 (s.bucket (n / 8) (n % 8) / levelScale))
  | _, _ => none

/-- Power, clock and monitor objects that are not stored cells. 0x2925 reads a measurement that no command carries: a free
value while a stage of the panel is ON, 0 otherwise. -/
def State.readPower (s : State) (index sub : Nat) : Option Nat :=
  match index, sub with
  | 0x2900, 1 => some s.power.inputMv
  | 0x2900, 2 => some s.power.watts
  | 0x2900, 3 => some s.power.standbyMv
  | 0x2900, 4 => some (inputNum s.power.input)
  | 0x2901, 2 => some s.limitNow
  | 0x2901, 3 => some s.power.stage
  | 0x2901, 4 => some (panelBits fun p => (s.panelPower p).srcLimit)
  | 0x2901, 5 => some (panelBits fun p => (s.panelPower p).stopped)
  | 0x2910, n + 1 => some (domNum (s.domainOf n).st)
  | 0x2920, n + 1 => some (s.panelPower n).word
  | 0x2923, n + 1 => some ((s.panelPower n).coreMv + (s.panelPower n).sramMv * 2 ^ 16)
  | 0x2924, n + 1 => some (s.panelPower n).temp
  | 0x2925, n + 1 => some (if s.panelOn n || s.railOn n true then s.freeNat 16 else 0)
  | 0x2930, 1 => some s.power.tin
  | 0x2930, 2 => some s.power.tout
  | 0x2930, 3 => some s.power.flow
  | 0x2930, 4 => some (s.power.tinFault + s.power.toutFault * 4 + s.power.flowFault * 16)
  | 0x2940, 3 => some (flag (!s.power.refLost) + flag s.power.internalOsc * 2 + flag s.power.offset.isSome * 4)
  | 0x2940, 4 => some (unsigned 32 (s.power.offset.getD 0))
  | 0x2960, 1 => some (s.detCount 0x0A01 + s.detCount 0x0A03)
  | 0x2960, 2 => some (s.detCount 0x0A02 + s.detCount 0x0A04)
  | 0x2960, 3 => some (s.detCount 0x0A05)
  | 0x2960, 4 => some (s.detCount 0x0A06 + s.detCount 0x0A07)
  | 0x2960, 6 => some (s.detCount 0x0B01 + s.detCount 0x0B02)
  | 0x2960, 7 => some (s.detCount 0x0A08)
  | _, _ => none

/-- Bring-up, fault and firmware objects that are not stored cells. The free bytes of the settings store follow the
implementer's layout and compaction (R438): a free value. -/
def State.readCollar (s : State) (index sub : Nat) : Option Nat :=
  match index, sub with
  | 0x2A00, 1 => some s.level
  | 0x2A00, 2 => some (phaseNum s.up.phase)
  | 0x2A00, 3 => some s.missing
  | 0x2A00, 4 => some s.up.recovery
  | 0x2A00, 5 => some s.up.t0
  | 0x2A00, 6 => some s.up.t1
  | 0x2A00, 7 => some s.up.t2
  | 0x2A00, 8 => some (startNum s.up.cause)
  | 0x2A00, 9 => some s.up.coldStarts
  | 0x2A00, 0xA => some s.up.failedYoke
  | 0x2A10, n + 1 => some (match s.up.segs.find n with
      | some x => x.word
      | none => 0)
  | 0x2A11, n + 1 => some (s.up.panels.get 0 n)
  | 0x2A12, 0 => some s.up.lanes
  | 0x2B00, 6 => some (s.detCount 0x0C05)
  | 0x2B10, 1 => some (min 256 s.logMade)
  | 0x2B10, 2 => some ((s.logMade + 255) % 256 * flag (s.logMade != 0))
  | 0x2B20, 6 => some (flag s.injection.armed)
  | 0x2B20, 7 => some (flag s.injection.armed + flag (s.injection.armed && s.injection.fired != 0))
  | 0x2B20, 8 => some s.injection.fired
  | 0x2B41, n + 1 => some (s.wafer.spentWord n)
  | 0x2B50, 2 => some (flag s.replacement)
  | 0x2B60, 1 => some s.leases.keys.length
  | 0x2B60, 3 => some (s.dma.vals.filter fun d => d.quarantined).length
  | 0x2C00, 1 => some (flag s.fw.runB)
  | 0x2C00, 2 => some (s.fw.slot s.fw.runB).version
  | 0x2C00, 3 => some (s.fw.slot s.fw.runB).security
  | 0x2C00, 4 => some s.rollback
  | 0x2C00, 5 => some s.fw.schemaLoaded
  | 0x2C00, 6 => some s.fw.settings
  | 0x2C00, 7 => some s.fw.health
  | 0x2C00, 8 => some s.fw.fallbacks
  | 0x2C02, n + 1 => some (slotNum (s.fw.slot (n == 1)).st)
  | 0x2C03, n + 1 => some (s.fw.slot (n == 1)).shown
  | 0x2C04, n + 1 => some (s.fw.slot (n == 1)).security
  | 0x2C05, n + 1 => some ((s.fw.slot (n == 1)).schemaWrite + (s.fw.slot (n == 1)).schemaMin * 65536)
  | 0x2C06, n + 1 => some (s.fw.slot (n == 1)).failures
  | 0x2C11, 0 => some (flag s.fw.commit.isSome)
  | 0x2C21, 3 => some (updateNum s.fw.upd)
  | 0x2C21, 4 => some s.fw.updBytes
  | 0x2C21, 5 => some s.fw.updResult
  | 0x2C30, 1 => some s.fw.live.length
  | 0x2C30, 2 => some (s.freeNat 32)
  | 0x2C30, 3 => some ((s.fw.records.map fun r => r.seq).foldl max 0)
  | _, _ => none

/-- The number an object reads as; every other object is a stored cell (a setting, a counter, a query's result). -/
def State.odNum (s : State) (index sub : Nat) : Nat :=
  let r := if index < 0x2000 then s.readComm index sub
    else if index < 0x2200 then s.readGrid index sub
    else if index < 0x2900 then s.readYoke index sub
    else if index < 0x2A00 then s.readPower index sub
    else s.readCollar index sub
  r.getD (s.value index sub)

/-- The bytes an object reads as: a number at its type's size, a string at its length (R326). -/
def State.odBytes (s : State) (index sub : Nat) : List Byte :=
  match odRow index sub with
  | none => []
  | some r => if r.ty = .str then s.odString index sub else natLe r.ty.bytes (s.odNum index sub)

/-- A read: its checks of R327, then its bytes. -/
def State.odRead (s : State) (index sub : Nat) : Except Nat (List Byte) :=
  match s.accessCheck false index sub with
  | some c => .error c
  | none => .ok (s.odBytes index sub)

/-! ### Queries without a row of their own -/

/-- The rounded-free frequency of a clock domain in MHz, where the table gives a whole number (R369). -/
def State.clockMhz (s : State) (k : Nat) : Option Nat :=
  if k < 192 then some (if k % 3 = 2 then 1100 else (s.panelPower (k / 3)).mhz)
  else if k < 208 then some 1100
  else if k = 257 ∨ k = 259 then some 1000
  else if k = 260 then some 2000
  else if k = 261 then some 1000
  else if k = 262 then some 25
  else if k = 263 then some 80
  else if k = 264 then some 100
  else none

/-- A clock domain's spread is on (R372). -/
def State.clockSpread (s : State) (k : Nat) : Bool :=
  (decide (k < 192) && k % 3 != 2 && s.power.spreadPanel) || ((k == 260 || k == 261) && s.power.spreadYoke)
    || (k == 256 && Config.hostSpread 0) || (k == 258 && Config.hostSpread 1)

/-- A clock domain is locked: it runs, and its PLL, where it has one, is locked. -/
def State.clockLocked (s : State) (k : Nat) : Bool :=
  s.clockRuns k && if k < 192 then (s.panelPower (k / 3)).pll else !s.power.unlocked.get false k

/-- The word of 0x2942:02 (R383). The frequency of a clock for which the table gives none, or no whole number, is a free
value. -/
def State.clockWord (s : State) (k : Nat) : Nat :=
  flag (s.clockRuns k) + flag (s.clockLocked k) * 2 + flag (s.clockSpread k) * 4 + flag (s.power.offTol.get false k) * 8
    + (s.clockMhz k).getD (s.freeNat 16) * 2 ^ 16

/-- Effect of a write to 0x2942:01. -/
def fxClockQuery (v : Nat) : Effect := fun x =>
  if 266 ≤ v then .error outOfRange else .ok ((x.putCells 0x2942 [(1, v), (2, x.clockWord v)]).draw)

end Sys2Proof.Machine
end

