-- ==== Sys2Proof/Machine/Settings.lean ====
section
/-! DEFINITION. Settings: the range of every setting, the PDO and COB-ID rules, what writing one does, the settings records,
and loading an area from one (R327, R332 to R334, R337 to R340, R437 to R439). -/

namespace Sys2Proof.Machine

/-! ### Ranges (R327 step 6) -/

/-- The abort code of a value outside lo to hi. -/
def rangeCheck (lo hi v : Nat) : Option Nat := if lo ≤ v ∧ v ≤ hi then none else some outOfRange
/-- The same for an INTEGER16. -/
def rangeCheck16 (lo hi : Int) (v : Nat) : Option Nat :=
  if lo ≤ signed 16 v ∧ signed 16 v ≤ hi then none else some outOfRange

/-- The CiA 301 restricted identifiers (R334). -/
def restrictedId (v : Nat) : Bool :=
  decide (v ≤ 0x07F) || (decide (0x101 ≤ v) && decide (v ≤ 0x180)) || (decide (0x581 ≤ v) && decide (v ≤ 0x5FF))
    || (decide (0x601 ≤ v) && decide (v ≤ 0x67F)) || (decide (0x6E0 ≤ v) && decide (v ≤ 0x6FF))
    || (decide (0x701 ≤ v) && decide (v ≤ 0x77F)) || (decide (0x780 ≤ v) && decide (v ≤ 0x7FF))

/-- The value rules of a COB-ID (R334); bit 30 is reserved outside PDOs. -/
def cobCheck (pdo : Bool) (v : Nat) : Option Nat :=
  if bit v 29 || bits v 28 11 != 0 || (!pdo && bit v 30) || restrictedId (bits v 10 0) then some outOfRange else none

/-- The state rule of a COB-ID: the identifier changes only while bit 31 is or becomes set (R334). -/
def State.cobState (s : State) (index sub v : Nat) : Option Nat :=
  let now_ := s.value index sub
  if !bit now_ 31 && !bit v 31 && bits v 10 0 != bits now_ 10 0 then some badState else none

/-- The size in bits of a mappable object's type (R332); none for an object that cannot be mapped. -/
def mapBits (rpdo : Bool) (index sub : Nat) : Option Nat :=
  if rpdo ∧ 5 ≤ index ∧ index ≤ 7 ∧ sub = 0 then some (8 * 2 ^ (index - 5))
  else match odRow index sub with
    | some r => if r.pdo && (!rpdo || r.acc == .rw) then some (r.ty.bytes * 8) else none
    | none => none

/-- The rules of a mapping entry (R332). -/
def mapCheck (rpdo : Bool) (v : Nat) : Option Nat :=
  match mapBits rpdo (bits v 31 16) (bits v 15 8) with
  | none => some 0x06040041
  | some n => if bits v 7 0 = n then none else some 0x06040043

/-- Bytes that the first `n` entries of a mapping record take. -/
def State.mapBytes (s : State) (index n : Nat) : Nat := (((List.range n).map fun i => bits (s.setting index (i + 1)) 7 0).sum) / 8

/-- The COB-ID record of a mapping record. -/
def cobOfMap (index : Nat) : Nat := index - 0x200

/-- The same node is consumed by another enabled entry of 0x1016 (R348). -/
def State.consumerTwice (s : State) (sub v : Nat) : Bool :=
  bits v 15 0 != 0 && bits v 23 16 != 0 && (List.range 8).any fun i =>
    let w := s.setting 0x1016 (i + 1)
    i + 1 != sub && bits w 15 0 != 0 && bits w 23 16 == bits v 23 16

/-- The value rules of a setting of the communication area. -/
def State.commRange (s : State) (index sub v : Nat) : Option Nat :=
  if index = 0x1005 ∨ index = 0x1014 then cobCheck false v
  else if index = 0x1016 then
    if v / 2 ^ 24 != 0 then some outOfRange
    else if s.consumerTwice sub v then some 0x06040043 else none
  else if index = 0x1029 then rangeCheck 0 2 v
  else if 0x1400 ≤ index ∧ index < 0x1408 ∨ 0x1800 ≤ index ∧ index < 0x1808 then
    if sub = 1 then cobCheck true v
    else if sub = 2 then if v ≤ 240 ∨ 254 ≤ v then none else some outOfRange
    else if sub = 6 then rangeCheck 0 240 v
    else none
  else if 0x1600 ≤ index ∧ index < 0x1608 ∨ 0x1A00 ≤ index ∧ index < 0x1A08 then
    if sub ≠ 0 then mapCheck (decide (index < 0x1800)) v
    else if 16 < v then some outOfRange
    else if 64 < s.mapBytes index v then some 0x06040042 else none
  else if index = 0x1FD0 then if sub = 1 then rangeCheck 0 3 v else rangeCheck 0 1 v
  else if index = 0x1FD1 then rangeCheck 0 127 v
  else if index = 0x1FE0 then rangeCheck 100 10000 v
  else none

/-- The rules of a setting of the yoke's subsystems. -/
def State.yokeRange (_ : State) (index sub v : Nat) : Option Nat :=
  match index, sub with
  | 0x2002, _ => rangeCheck 1 3 v
  | 0x2103, 1 => if 10000 < v then some 0x06090031 else none
  | 0x2103, 2 => rangeCheck 0 1 v
  | 0x2103, _ => rangeCheck 0 2 v
  | 0x2202, _ => rangeCheck 4 255 v
  | 0x2210, _ => if v % 25 = 0 then rangeCheck 400 1200 v else some outOfRange
  | 0x2301, 1 => rangeCheck 0 1 v
  | 0x2301, _ => rangeCheck 0 7 v
  | 0x2401, 1 => rangeCheck 50 95 v
  | 0x2401, 2 => rangeCheck 50 95 v
  | 0x2401, 3 => rangeCheck 5 1000 v
  | 0x2401, 4 => rangeCheck 1 16 v
  | 0x2401, 5 => rangeCheck 1 15 v
  | 0x2401, 6 => rangeCheck 100 60000 v
  | 0x2401, 7 => rangeCheck 10 3600 v
  | 0x2401, _ => rangeCheck 1000 16000 v
  | 0x2500, _ => rangeCheck 30 40 v
  | 0x2502, 1 => rangeCheck 50 100 v
  | 0x2502, 3 => rangeCheck 1 4095 v
  | 0x2502, _ => rangeCheck 1 4096 v
  | 0x2601, _ => rangeCheck 0 149 v
  | 0x2610, _ =>
    if bits v 31 24 != 0 || bits v 63 48 != 0 || bits v 47 32 == 0 || decide (32767 < bits v 47 32) then some outOfRange else none
  | 0x2611, _ => if decide (63 < bits v 7 0) || bits v 63 49 != 0 then some outOfRange else none
  | 0x2700, 1 => rangeCheck 1 65534 v
  | 0x2700, 2 => rangeCheck 0x0600 0xFFFF v
  | 0x2700, 3 => if v = 1024 ∨ v = 2048 ∨ v = 4096 then none else some outOfRange
  | 0x2700, _ => if bit v 24 then some outOfRange else none
  | 0x2701, 1 => rangeCheck 1 64 v
  | 0x2701, 2 => rangeCheck 1 100 v
  | 0x2701, 3 => rangeCheck 10 10000 v
  | 0x2701, 4 => rangeCheck 1 15 v
  | 0x2701, _ => rangeCheck 10 10000 v
  | 0x2801, _ => rangeCheck 0 3 v
  | 0x2802, 1 => rangeCheck 10 3600 v
  | 0x2802, _ => rangeCheck 1 1000 v
  | 0x2810, _ => rangeCheck 0 400000 v
  | 0x2811, _ => rangeCheck 4170 16777215 v
  | _, _ => none

/-- The rules of the other settings; the outlet temperatures keep their order (R383). -/
def State.collarRange (s : State) (index sub v : Nat) : Option Nat :=
  match index, sub with
  | 0x2901, _ => rangeCheck 1000 15500 v
  | 0x2930, 5 => rangeCheck16 200 800 v
  | 0x2930, 6 => (rangeCheck16 200 800 v).or (if signed 16 v < s.degrees 5 then some outOfRange else none)
  | 0x2930, 7 => (rangeCheck16 200 850 v).or (if signed 16 v < s.degrees 6 then some outOfRange else none)
  | 0x2930, 8 => rangeCheck 0 60000 v
  | 0x2930, _ => rangeCheck16 700 1100 v
  | 0x2940, _ => rangeCheck 0 1 v
  | 0x2950, _ => rangeCheck 0 1 v
  | 0x2A01, 1 => rangeCheck 0 1 v
  | 0x2A01, _ => rangeCheck 1 15 v
  | 0x2B01, 1 => if v = 1 then some outOfRange else none
  | 0x2B01, 2 => rangeCheck 5 1000 v
  | 0x2B01, _ => rangeCheck 8 10000 v
  | 0x2B50, _ => rangeCheck 0 8448 v
  | 0x2C01, _ => rangeCheck 10 3600 v
  | _, _ => none

/-- Step 6 of R327 for a setting. -/
def State.settingRange (s : State) (index sub v : Nat) : Option Nat :=
  if index < 0x2000 then s.commRange index sub v
  else if index < 0x2900 then s.yokeRange index sub v
  else s.collarRange index sub v

/-- Step 7 of R327 for a setting. A mapping entry changes only in the procedure of R333: the PDO invalid, its number of entries 0
(log 95). -/
def State.settingState (s : State) (index sub v : Nat) : Option Nat :=
  if index = 0x1005 ∨ index = 0x1014 then s.cobState index sub v
  else if 0x1400 ≤ index ∧ index < 0x1408 then if sub = 1 then s.cobState index sub v else none
  else if 0x1800 ≤ index ∧ index < 0x1808 then
    if sub = 1 then s.cobState index sub v
    else if sub = 3 ∧ bit (s.value index 1) 31 = false then some badState else none
  else if 0x1600 ≤ index ∧ index < 0x1608 ∨ 0x1A00 ≤ index ∧ index < 0x1A08 then
    if (sub ≠ 0 ∨ v ≠ 0) ∧ bit (s.value (cobOfMap index) 1) 31 = false then some badState
    else if sub ≠ 0 ∧ s.setting index 0 ≠ 0 then some badState else none
  else if index = 0x2002 then if allPanels.any s.panelLost then some badState else none
  else if index = 0x2700 ∧ 1 ≤ sub then if s.conns.vals.any fun c => c.st != .free then some badState else none
  else none

/-! ### What writing a setting does -/

/-- Budgets that a setting enters are computed anew (R174, R214). -/
def State.settingAfter (s : State) (index : Nat) : State :=
  if index = 0x2401 then s.rebudget.demandCheck
  else if index = 0x2210 ∨ index = 0x2502 then s.rebudget
  else s

/-- The run state of a PDO starts anew when its record changes, but for the instant its inhibit time runs from; entered while
OPERATIONAL its event timer begins. -/
def tpdo0 : TpdoRun :=
  { last := none, lastAt := none, pending := false, captured := none, syncs := none, timerAt := none, withheld := false }
def rpdo0 : RpdoRun := { waiting := none, lastAt := none }

/-- A setting takes a value, with the effect it has at once. -/
def State.settingPut (s : State) (index sub v : Nat) : State :=
  if isCob index sub then
    let w := if index = 0x1014 then v else setBit v 30
    let a := { s.putCell index sub w with can := { s.can with cobWritten := s.can.cobWritten.set (odKey index sub) true } }
    if index = 0x1014 then
      if bit v 31 then
        { a with can := { a.can with
          queue := [], recovering := false, held := match a.can.held with
            | some (.emcy _) => none
            | h => h } }
      else a
    else if 0x1800 ≤ index then
      let r : TpdoRun := { tpdo0 with timerAt := some a.now, lastAt := (a.can.tpdo.get tpdo0 (index - 0x1800)).lastAt }
      { a with can := { a.can with tpdo := a.can.tpdo.set (index - 0x1800) r } }
    else { a with can := { a.can with rpdo := a.can.rpdo.erase (index - 0x1400) } }
  else if index = 0x1016 then
    let a := s.putCell index sub v
    { a with can := { a.can with consumers := a.can.consumers.erase (sub - 1) } }
  else if index = 0x1017 then
    let a := s.putCell index sub v
    { a with can := { a.can with hbDueAt := if v = 0 then none else some (a.now + v * psMs), hbWaiting := if v = 0 then none else a.can.hbWaiting } }
  else if 0x1800 ≤ index ∧ index < 0x1808 ∧ sub = 5 then
    let a := s.putCell index sub v
    let r := a.can.tpdo.get tpdo0 (index - 0x1800)
    { a with can := { a.can with tpdo := a.can.tpdo.set (index - 0x1800) { r with timerAt := some a.now } } }
  else if 0x1800 ≤ index ∧ index < 0x1808 ∧ sub = 6 ∨ 0x1800 ≤ index ∧ index < 0x1808 ∧ sub = 2 then
    let a := s.putCell index sub v
    let r := a.can.tpdo.get tpdo0 (index - 0x1800)
    { a with can := { a.can with tpdo := a.can.tpdo.set (index - 0x1800) { r with syncs := none } } }
  else if index = 0x1FD0 ∧ sub = 1 then
    let a := s.putCell index sub v
    { a with can := { a.can with rateNew := true } }
  else if index = 0x1FD1 ∧ sub = 4 then
    let a := s.putCell index sub v
    { a with can := { a.can with idNew := true } }
  else if index = 0x2103 ∧ sub = 1 then
    let a := s.putCell index sub v
    if s.beat.lock = .holdover ∧ s.beat.lastGoodAt + v * psMs ≤ s.now then a.limitReached else a
  else if index = 0x2801 then s.portConfig (sub - 1) v
  else if index = 0x2810 ∨ index = 0x2811 then s.shaperWrite index ((sub - 1) / 8) ((sub - 1) % 8) v
  else s.putCell index sub v

/-- The effect of a write to a setting: its checks and the value put. -/
def fxSetting (index sub v : Nat) : Effect := fun x =>
  match (x.settingRange index sub v).or (x.settingState index sub v) with
  | some c => .error c
  | none => .ok ((x.settingPut index sub v).settingAfter index)

/-! ### Records (R337 to R339, R437, R438) -/

/-- The settings of an area as (index, sub): 1 the communication area, 2 the application area. -/
def settingsOf (area : Nat) : List (Nat × Nat) :=
  (odRows.filter fun r => r.setting && (decide (r.index < 0x2000) == (area == 1))).flatMap fun r =>
    (List.range r.n).flatMap fun i => (List.range (r.hi + 1 - r.lo)).map fun j => (r.index + i, r.lo + j)

/-- The live record of a schema with the highest SEQ. -/
def Firmware.current (f : Firmware) (schema : Nat) : Option Record :=
  (f.live.filter fun r => r.schema == schema).foldl (fun (b : Option Record) r => match b with
    | none => some r
    | some q => if q.seq < r.seq then some r else some q) none

/-- The running image's SCHEMA_WRITE and SCHEMA_MIN. -/
def State.schema (s : State) : Nat := (s.fw.slot s.fw.runB).schemaWrite
def State.schemaMin (s : State) : Nat := (s.fw.slot s.fw.runB).schemaMin

/-- The record that the running image chooses (R439), with the status of 0x2C00:06. -/
def State.chooseRecord (s : State) : Option Record × Nat :=
  match s.fw.current s.schema with
  | some r => (some r, 0)
  | none =>
    let older := (s.fw.live.map fun r => r.schema).filter fun x => decide (s.schemaMin ≤ x) && decide (x < s.schema)
    if older.isEmpty then (none, if s.fw.live.isEmpty then 2 else 3)
    else (s.fw.current (older.foldl max 0), 1)

/-- A record's value of a setting, none where it holds none. -/
def Record.value (r : Record) (index sub : Nat) : Option Nat := (r.entries.find? fun e => e.key == odKey index sub).map fun e => e.value

/-- An area's default flag in a record. -/
def Record.atDefaults (r : Record) (area : Nat) : Bool := bit r.flags (area - 1)

/-- The entries an area has in force: each setting's value, and, for a yoke-served one while the yoke is not running, what
the current record or the default gives (R338). A COB-ID that still follows the node ID is not stored (R336, log 38). -/
def State.snapshot (s : State) (area : Nat) : List RecEntry :=
  let rec_ := s.chooseRecord.1
  (settingsOf area).filterMap fun o =>
    if isCob o.1 o.2 && !s.can.cobWritten.get false (odKey o.1 o.2) then none
    else
      let v := if yokeServed o.1 && !s.up.yoke then
          match rec_ with
          | some r => ((if r.atDefaults area then none else r.value o.1 o.2).getD (odDefault o.1 o.2))
          | none => odDefault o.1 o.2
        else s.value o.1 o.2
      some ⟨odKey o.1 o.2, v⟩

/-- The entries of an area in the record that a new one follows. -/
def State.keptEntries (s : State) (area : Nat) : List RecEntry × Bool :=
  match s.chooseRecord.1 with
  | some r => (r.entries.filter fun e => decide (e.key < 0x200000) == (area == 1), r.atDefaults area)
  | none => ([], true)

/-- The record that a store (`restore` false) or a restore of defaults writes; `areas` has bit 0 for the communication area
and bit 1 for the application area (R338, R339, R437). -/
def State.newRecord (s : State) (areas : Nat) (restore : Bool) : Record :=
  let part := fun (area : Nat) =>
    if bit areas (area - 1) then (if restore then ([], true) else (s.snapshot area, false)) else s.keptEntries area
  let a := part 1
  let b := part 2
  { schema := s.schema, flags := flag a.2 + flag b.2 * 2, seq := (s.fw.records.map fun r => r.seq).foldl max 0 + 1, live := true,
    entries := a.1 ++ b.1 }

/-- A record is written. -/
def State.writeRecord (s : State) (areas : Nat) (restore : Bool) : State :=
  { s with fw := { s.fw with records := s.fw.records ++ [s.newRecord areas restore] } }

/-! ### Loading an area (R340) -/

/-- The area's cells as the record has them, all at once: what the loaded values are checked against. -/
def State.wholeArea (s : State) (vals : List ((Nat × Nat) × Option Nat)) : State :=
  let cells := vals.foldl (fun t v => match v.2 with
      | some x => t.set (odKey v.1.1 v.1.2) x
      | none => t.erase (odKey v.1.1 v.1.2)) s.od
  let cobs := (vals.filter fun v => isCob v.1.1 v.1.2).foldl
    (fun t v => if v.2.isSome then t.set (odKey v.1.1 v.1.2) true else t.erase (odKey v.1.1 v.1.2)) s.can.cobWritten
  { s with od := cells, can := { s.can with cobWritten := cobs } }

/-- The rules that do not hold at a load: the state rules of R333 and R334 and of the inhibit time. -/
def State.loadState (s : State) (index sub v : Nat) : Option Nat :=
  if index < 0x2000 then none else s.settingState index sub v

/-- One value is loaded: a stored value is applied as a write would be, or counted and left; without a stored value the
object takes its default. -/
def State.loadOne (whole s : State) (o : (Nat × Nat) × Option Nat) : State :=
  let index := o.1.1
  let sub := o.1.2
  match o.2 with
  | none =>
    if isCob index sub then { s with can := { s.can with cobWritten := s.can.cobWritten.erase (odKey index sub) } }
    else if s.value index sub = odDefault index sub then s
    else if (s.loadState index sub (odDefault index sub)).isSome then s.bump32 0x1FE3 3
    else s.settingPut index sub (odDefault index sub)
  | some v =>
    if !isCob index sub && s.value index sub == v then s
    else if v ≠ odDefault index sub ∧ (whole.settingRange index sub v).isSome then s.bump32 0x1FE3 3
    else if (s.loadState index sub v).isSome then s.bump32 0x1FE3 3
    else s.settingPut index sub v

/-- The settings of an area that a unit serves, with the values the chosen record holds for them. -/
def State.storedArea (s : State) (area : Nat) (pick : Nat → Bool) : List ((Nat × Nat) × Option Nat) :=
  let rec_ := s.chooseRecord.1
  ((settingsOf area).filter fun o => pick o.1).map fun o =>
    (o, match rec_ with
      | some r => if r.atDefaults area then none else r.value o.1 o.2
      | none => none)

/-- An area is loaded from the current record, for the objects that `pick` names (R310, R311, R340, R390). -/
def State.loadArea (s : State) (area : Nat) (pick : Nat → Bool) : State :=
  let vals := s.storedArea area pick
  let whole := s.wholeArea vals
  let a := vals.foldl (fun x o => State.loadOne whole x o) s
  if area = 2 ∧ s.up.yoke = true then a.rebudget.demandCheck else a

end Sys2Proof.Machine
end

