-- ==== Sys2Proof/Machine/Replies.lean ====
section
/-! DEFINITION. What the node sends: CAN frames, SDO responses and aborts, and the outcome of a write that a path waits
for (R303, R326, R329, R330, R344). -/

namespace Sys2Proof.Machine

/-! ### CAN frames (R303) -/

/-- The error counters take new values; the node is error passive while either exceeds 127 (R316). -/
def Can.counters (c : Can) (tec rxErr : Nat) : Can :=
  { c with tec := tec, rxErr := rxErr, passive := decide (127 < tec) || decide (127 < rxErr) }

/-- A frame leaves the node: BRS above 1 Mb/s, ESI while error passive. A frame sent takes 1 from the transmit error counter
(ISO 11898-1; log 41). -/
def State.canOut (s : State) (id : Nat) (data : List Byte) : State :=
  let o : Output := .can id data (s.can.rate != 0) s.can.passive
  ({ s with out := s.out ++ [o], can := s.can.counters (s.can.tec - 1) s.can.rxErr }).bump32 0x1FD2 6

/-- The messages that follow a recovery hold every other frame back, but in STOPPED, where they cannot leave (R318; log 94). -/
def State.canGated (s : State) : Bool :=
  s.can.recovering && s.can.nmt != .stopped && (s.can.held.isSome || !s.can.queue.isEmpty)

/-- The frames that waited behind them leave. -/
def State.canFlush (s : State) : State :=
  each s.can.later (fun x f => x.canOut f.1 f.2) { s with can := { s.can with later := [] } }

/-- A frame of the node: it leaves, or waits behind the messages of a recovery. -/
def State.canSend (s : State) (id : Nat) (data : List Byte) : State :=
  if s.canGated then { s with can := { s.can with later := s.can.later ++ [(id, data)] } } else s.canFlush.canOut id data

/-- What a frame received makes of the receive error counter: one less, or, above 127, a value from 119 to 127 that ISO
11898-1 leaves open (log 41). -/
def State.rxErrGood (s : State) : Nat :=
  if 127 < s.can.rxErr then 119 + (Config.freeWord s.fresh).toNat % 9 else s.can.rxErr - 1

/-- A good frame has been on the bus (R316); a frame has been consumed. -/
def State.canHeard (s : State) : State := ({ s with can := s.can.counters s.can.tec s.rxErrGood }).draw
def State.canGot (s : State) : State := s.canHeard.bump32 0x1FD2 7

/-- The node's services are up: the collar runs, boot-up has been sent, the bus is on. -/
def State.canUp (s : State) : Bool := s.up.collar && s.can.nmt != .initialising && !s.can.busOff

/-! ### SDO responses (R328 to R330) -/

/-- The bytes of a multiplexor. -/
def sdoMux (index sub : Nat) : List Byte := natLe 2 index ++ natLe 1 sub

/-- A response leaves the server. -/
def State.sdoSend (s : State) (data : List Byte) : State := s.canSend (0x580 + s.can.nodeId) (pad 8 data)

/-- No transfer is in progress. -/
def State.sdoIdle (s : State) : State := { s with can := { s.can with sdo := none } }

/-- The transfer ends with an abort that the server sends. -/
def State.sdoAbort (s : State) (index sub code : Nat) : State :=
  (((s.sdoIdle).sdoSend (natLe 1 0x80 ++ sdoMux index sub ++ natLe 4 code)).aborted .sdo index sub code).bump32 0x1FE1 2

/-- The transfer ends well with its last response. -/
def State.sdoDone (s : State) (data : List Byte) : State := ((s.sdoIdle).sdoSend data).bump32 0x1FE1 1

/-- The last response of a download: an initiate, a segment, a block end. `how` is 0, 1, 2. -/
def State.downloadDone (s : State) (how index sub : Nat) (toggle : Bool) : State :=
  if how = 0 then s.sdoDone (natLe 1 0x60 ++ sdoMux index sub)
  else if how = 1 then s.sdoDone (natLe 1 (0x20 + flag toggle * 16))
  else s.sdoDone (natLe 1 0xA1)

/-- No transfer. -/
def sdo0 (kind : SdoKind) (index sub at_ : Nat) : Sdo :=
  { kind := kind, index := index, sub := sub, data := [], pos := 0, size := none, toggle := false, blksize := 0, seq := 0,
    lastAt := at_, crc := false, unused := 0 }

/-- A transfer is in progress. -/
def State.setSdo (s : State) (d : Sdo) : State := { s with can := { s.can with sdo := some d } }

/-! ### Mailboxes (R343, R344) -/

def State.box (s : State) : Fn → Mailbox
  | .hostA => s.boxA
  | .hostB => s.boxB
def State.setBox (s : State) (f : Fn) (b : Mailbox) : State :=
  match f with
  | .hostA => { s with boxA := b }
  | .hostB => { s with boxB := b }

/-- INDEX and SUB of a mailbox's command register. -/
def Mailbox.index (b : Mailbox) : Nat := bits b.cmd 15 0
def Mailbox.sub (b : Mailbox) : Nat := bits b.cmd 23 16

/-! ### A write that its path waits for -/

/-- The outcome of a deferred write reaches the path that waits for it: the SDO response or abort, or the mailbox's
completion. -/
def State.answerBox (s : State) (f : Fn) (index sub : Nat) (code : Option Nat) : State :=
  let b := s.box f
  let s1 := match code with
    | some c => s.aborted (match f with
      | .hostA => .hostA
      | .hostB => .hostB) index sub c
    | none => s
  if b.busy && b.answer.isNone && b.index == index && b.sub == sub then s1.setBox f { b with answer := some (code.getD 0, [], false) }
  else s1

def State.answer (s : State) (p : Path) (index sub : Nat) (code : Option Nat) : State :=
  match p with
  | .sdo =>
    match s.can.sdo with
    | some d =>
      if d.kind = .waitWrite ∧ d.index = index ∧ d.sub = sub then
        match code with
        | some c => s.sdoAbort index sub c
        | none => s.downloadDone d.seq index sub d.toggle
      else match code with
        | some c => s.aborted .sdo index sub c
        | none => s
    | none => match code with
      | some c => s.aborted .sdo index sub c
      | none => s
  | .hostA => s.answerBox .hostA index sub code
  | .hostB => s.answerBox .hostB index sub code
  | .rpdo => s

end Sys2Proof.Machine
end

