-- ==== Sys2Proof/Machine/Firmware.lean ====
section
/-! DEFINITION. Commands of firmware images and settings (15): stores and restores of settings, updates, the health window
and COMMIT. The rows whose effect can answer a write that waits stand with the SDO server. -/

namespace Sys2Proof.Machine

/-! ### Stores and restores (R338, R339) -/

/-- An update has the SPI NOR: from BEGIN until DONE or FAILED (R434). -/
def Firmware.updating (f : Firmware) : Bool :=
  f.beginWait.isSome || f.upd == .erasing || f.upd == .ready || f.upd == .writing || f.upd == .verifying

/-- A record begins to be written, with the values in force now. -/
def State.jobStart (s : State) (j : StoreJob) : State :=
  { s with fw := { s.fw with store := some { j with record := some (s.newRecord j.areas (j.kind == 1)) } } }

/-- A store, restore or COMMIT store begins, or waits for the one in progress. -/
def State.jobQueue (s : State) (j : StoreJob) : State :=
  if s.fw.store.isSome then { s with fw := { s.fw with storeWait := s.fw.storeWait ++ [j] } } else s.jobStart j

/-- The areas of a sub-index of 0x1010 and 0x1011: both, communication, application. -/
def storeAreas (sub : Nat) : Nat := if sub = 1 then 3 else if sub = 2 then 1 else 2

/-- Effect of a write to 0x1010: the signature "save". ROM recovery has no settings to store (log 39). -/
def fxStore (path : Path) (sub v : Nat) : Effect := fun x =>
  if v ≠ 0x65766173 ∨ x.up.phase = .recovery then .error 0x08000020
  else if x.fw.updating then .error badState
  else .ok (x.jobQueue ⟨0, storeAreas sub, path, 0x1010, sub, none⟩)

/-- Effect of a write to 0x1011: the signature "load". -/
def fxRestore (path : Path) (sub v : Nat) : Effect := fun x =>
  if v ≠ 0x64616F6C ∨ x.up.phase = .recovery then .error 0x08000020
  else .ok (x.jobQueue ⟨1, storeAreas sub, path, 0x1011, sub, none⟩)

/-- STORE_PARAMETERS (R338): a store begins; its response follows STORE_DONE. -/
def execStoreParameters (path : Path) (sub : Byte) (v : W32) (s : State) : Host.Outcome State Fault Refusal :=
  s.odWrite path 0x1010 sub.toNat (fxStore path sub.toNat v.toNat)

/-- RESTORE_DEFAULTS (R339): the current values stay; a record with the areas at their defaults is written. -/
def execRestoreDefaults (path : Path) (sub : Byte) (v : W32) (s : State) : Host.Outcome State Fault Refusal :=
  s.odWrite path 0x1011 sub.toNat (fxRestore path sub.toNat v.toNat)

/-! ### COMMIT (R440) -/

/-- Lowest unblown bits are blown until the count reaches `k` (R428). -/
def blowFrom : Nat → Nat → Nat → Nat → Nat
  | 0, _, _, v => v
  | fuel + 1, i, k, v => if k ≤ popcount 64 v then v else blowFrom fuel (i + 1) k (setBit v i)

/-- A slot that holds an image with a SECURITY of its own. -/
def Slot.holdsImage (x : Slot) : Bool :=
  x.st == .pending || x.st == .trial || x.st == .committed || x.st == .standby || x.st == .failed

/-- Steps 2 to 5: the running slot becomes COMMITTED and the former one STANDBY, fuses are blown, records of other schemas
are retired, slots below the counter are REVOKED. On a COMMITTED image only steps 4 and 5. -/
def State.commitRest (s : State) : State :=
  let b := s.fw.runB
  let x := s.fw.slot b
  let trial := x.st != .committed
  let f1 := if trial then
      let other := s.fw.slot !b
      (s.fw.setSlot b { x with st := .committed }).setSlot (!b) (if other.st = .committed then { other with st := .standby } else other)
    else s.fw
  let roll := if trial then blowFrom 64 0 (max s.rollback x.security) s.fuses.rollback.toNat else s.fuses.rollback.toNat
  let n := popcount 64 roll
  let rev := fun (y : Slot) => if y.holdsImage && decide (y.security < n) then { y with st := SlotSt.revoked } else y
  let f2 := { f1 with
    slotA := rev f1.slotA, slotB := rev f1.slotB
    records := f1.records.map fun r => if r.schema = x.schemaWrite then r else { r with live := false }
    commit := none }
  ({ s with fw := f2, fuses := { s.fuses with rollback := BitVec.ofNat 64 roll } }).emcyEvent 0xFF7C 0
    (natLe 1 (flag b) ++ natLe 1 n)

/-- A COMMIT takes its steps: step 1 stores the values in force when the image has no record of its schema. -/
def State.commitStart (s : State) (path : Path) : State :=
  if (s.fw.current s.schema).isSome then s.commitRest
  else ({ s with fw := { s.fw with commit := some 1 } }).jobStart ⟨2, 3, path, 0x2C10, 0, none⟩

/-- Effect of a write to 0x2C10. -/
def fxCommit (path : Path) (v : Nat) : Effect := fun x =>
  let st := (x.fw.slot x.fw.runB).st
  if v ≠ 0x746D6F63 then .error 0x08000020
  else if (st ≠ .trial ∧ st ≠ .committed) ∨ x.fw.upd = .erasing ∨ x.fw.upd = .writing then .error badState
  else if x.fw.store.isSome then .ok { x with fw := { x.fw with storeWait := x.fw.storeWait ++ [⟨3, 0, path, 0x2C10, 0, none⟩] } }
  else .ok (x.commitStart path)

/-- COMMIT (R440): the running image is committed; with a record to store first, the rest follows STORE_DONE. -/
def execCommit (path : Path) (v : W32) (s : State) : Host.Outcome State Fault Refusal :=
  s.odWriteSettled path 0x2C10 0 (fxCommit path v.toNat)

/-! ### Updates (R433 to R436) -/

/-- R433 allows an update: the running slot is COMMITTED, or ROM recovery lacks an image. -/
def State.updateAllowed (s : State) : Bool :=
  if s.up.phase = .recovery then s.up.recovery == 2 else (s.fw.slot s.fw.runB).st == .committed

/-- The slot an update writes: the one that is not running; slot A in ROM recovery. -/
def State.targetB (s : State) : Bool := if s.up.phase = .recovery then false else !s.fw.runB

/-- BEGIN takes effect: the target slot is ERASING. -/
def State.updateStart (s : State) : State :=
  let b := s.targetB
  { s with fw := { s.fw.setSlot b { slot0 with st := .erasing } with
    upd := .erasing, updB := b, updBytes := 0, updResult := 0, beginWait := none, imagePath := none } }

/-- Effect of BEGIN. -/
def fxUpdateBegin (path : Path) : Effect := fun x =>
  if x.updateAllowed = false ∨ x.fw.updating = true ∨ x.fw.commit.isSome = true then .error badState
  else if x.fw.store.isSome then .ok { x with fw := { x.fw with beginWait := some path } }
  else .ok x.updateStart

/-- UPDATE_BEGIN (R434): a write of 1 to 0x2C21:01; it waits for a store in progress. -/
def execUpdateBegin (path : Path) (s : State) : Host.Outcome State Fault Refusal := s.odWrite path 0x2C21 1 (fxUpdateBegin path)

/-- An update ends: the slot's state, the result of 0x2C21:05 and EMCY 0xFF7B. -/
def State.updateEnd (s : State) (x : Slot) (ok : Bool) (result det : Nat) : State :=
  ({ s with fw := { s.fw.setSlot s.fw.updB x with
    upd := if ok then .done else .failed, updResult := result, imagePath := none } }).emcyEvent 0xFF7B det (natLe 1 result)

/-- The transfer of the image on an SDO channel or a mailbox is dropped with an abort code. -/
def State.dropImage (s : State) (p : Path) (code : Nat) : State :=
  let chunk := fun (b : Mailbox) => match b.chunk with
    | some c => if c.index = 0x2C20 then { b with chunk := none } else b
    | none => b
  match p with
  | .sdo =>
    match s.can.sdo with
    | some d => if d.index = 0x2C20 then s.sdoAbort 0x2C20 0 code else s
    | none => s
  | .hostA => s.setBox .hostA (chunk s.boxA)
  | .hostB => s.setBox .hostB (chunk s.boxB)
  | .rpdo => s

/-- A program or erase error ends the update, and the image's write with 0x0606_0000 (R435). -/
def State.programError (s : State) : State :=
  let a := (s.fire 0x0E09 (flag s.fw.updB) 0).updateEnd slot0 false 6 0x0E09
  match s.fw.imagePath with
  | some p => (a.answer p 0x2C20 0 (some 0x06060000)).dropImage p 0x06060000
  | none => a

/-- The image's write has ended by an abort, a timeout or CANCEL: the slot is EMPTY and the update FAILED (R435). -/
def State.imageEnded (s : State) : State :=
  if s.fw.upd = .writing ∨ s.fw.upd = .ready ∨ s.fw.upd = .erasing ∨ s.fw.upd = .verifying then s.updateEnd slot0 false 7 0 else s

/-- SLOT_ERASE_DONE (R434): the slot is WRITING and the update READY, or the erase has failed. -/
def execSlotEraseDone (ok : Bool) (s : State) : Host.Outcome State Fault Refusal :=
  whenDue (s.fw.upd == .erasing) s <|
    if ok then { s with fw := { s.fw.setSlot s.fw.updB { slot0 with st := .writing } with upd := .ready } } else s.programError

/-- Effect of CANCEL. A BEGIN that still waits is aborted; the image's transfer is dropped with 0x0800_0022 (log 40). With no
update in progress there is nothing to end. -/
def fxUpdateCancel : Effect := fun x =>
  let a := match x.fw.beginWait with
    | some p => ({ x with fw := { x.fw with beginWait := none } }).answer p 0x2C21 1 (some badState)
    | none => x
  let b := match a.fw.imagePath with
    | some p => if a.fw.upd = UpdateSt.verifying then a.answer p 0x2C20 0 (some badState) else a.dropImage p badState
    | none => a
  .ok b.imageEnded

/-- Effect of RESTART: an orderly shutdown with cause 0, then the collar restarts from step 1 (R432, R436). -/
def fxUpdateRestart : Effect := fun x =>
  if x.fw.upd ≠ .done ∧ x.up.phase ≠ .recovery then .error badState else .ok (x.orderlyShutdown 0 0).collarRestart

/-- UPDATE_RESTART (R436): a write of 3 to 0x2C21:01. -/
def execUpdateRestart (path : Path) (s : State) : Host.Outcome State Fault Refusal :=
  s.odWriteSettled path 0x2C21 1 fxUpdateRestart

/-- Image bytes are programmed into the target slot; the last of them begin the verification (R435). -/
def State.imageBytes (s : State) (n : Nat) : State :=
  let m := s.fw.updBytes + n
  { s with fw := { s.fw with updBytes := m, upd := if m = s.cell 0x2C21 2 then .verifying else .writing } }

/-! ### Verification (R427) -/

/-- The lengths of the two parts lie in the limits of R388 and R426; one that does not is a failure of the format (log 79). -/
def partSizesOk (c : ImageChecks) : Bool :=
  decide (1 ≤ c.collarLen) && decide (c.collarLen ≤ 512 * 1024) && decide (1 ≤ c.yokeLen) && decide (c.yokeLen ≤ 8 * 1024 * 1024)

/-- The detector of the first check of R427 that an image fails, with the state its slot takes; none when it is verified. -/
def imageFault (formatOk : Bool) (c : ImageChecks) (yoke : Bool) (security counter : Nat) : Option (Nat × SlotSt) :=
  if formatOk = false ∨ partSizesOk c = false then some (0x0E04, .invalid)
  else if c.keyOk = false ∨ c.signatureOk = false then some (0x0E01, .invalid)
  else if c.collarHashOk = false ∨ (yoke = true ∧ c.yokeHashOk = false) then some (0x0E02, .invalid)
  else if security < counter then some (0x0E03, .revoked)
  else none

/-- 0x2C21:05 of a failed check. -/
def faultResult (det : Nat) : Nat := if det = 0x0E01 then 2 else if det = 0x0E02 then 3 else if det = 0x0E03 then 4 else 5

/-- The slot that a manifest describes. -/
def slotFrom (m : Manifest) (st : SlotSt) : Slot :=
  { st := st, version := m.version.toNat, security := m.security.toNat, schemaWrite := m.schemaWrite.toNat,
    schemaMin := m.schemaMin.toNat, failures := 0, buildId := m.buildId.take 32 }

/-- The written image is verified: PENDING and DONE, or INVALID or REVOKED and FAILED; the write's response follows. -/
def State.updateVerify (s : State) (m : Manifest) (c : ImageChecks) : State :=
  let p := s.fw.imagePath
  let reply := fun (x : State) (code : Option Nat) => match p with
    | some q => x.answer q 0x2C20 0 code
    | none => x
  match imageFault m.formatOk c true m.security.toNat s.rollback with
  | none => reply (s.updateEnd (slotFrom m .pending) true 1 0) none
  | some (det, st) =>
    reply ((s.fire det (flag s.fw.updB) 0).updateEnd (slotFrom m st) false (faultResult det) det) (some 0x08000020)

/-! ### The health window (R431) -/

/-- HEALTH_WINDOW_EXPIRY (R431): the window has elapsed since DONE without a failure: the failure count is 0 and a PENDING slot
is TRIAL. -/
def execHealthWindowExpiry (s : State) : Host.Outcome State Fault Refusal :=
  match s.fw.healthFrom with
  | none => .next s
  | some t =>
    let b := s.fw.runB
    let x := s.fw.slot b
    whenDue (s.fw.health == 1 && s.up.phase == .done) s <|
      let a := s.advanceTo (t + s.setting 0x2C01 1 * psS)
      { a with fw := { a.fw.setSlot b { x with failures := 0, st := if x.st = .pending then .trial else x.st } with
        health := 2, healthFrom := none } }

/-! ### The parameters of an update -/

/-- Effect of a write to 0x2C21:02: a multiple of 4 KiB from 8 KiB to 32 MiB (R433). -/
def fxUpdateSize (v : Nat) : Effect := fun x =>
  if v % 4096 ≠ 0 ∨ v < 8192 ∨ 2 ^ 25 < v then .error outOfRange else .ok (x.putCell 0x2C21 2 v)

end Sys2Proof.Machine
end

