-- ==== Sys2Proof/Machine/Can.lean ====
section
/-! DEFINITION. Commands of the field network node (10) and its PDOs (11). -/

namespace Sys2Proof.Machine

/-! ### SDO ended without an abort (R317, R330) -/

/-- The transfer in progress ends without an abort, and a held request is lost. A DOMAIN write that had not received every
byte writes nothing. -/
def State.sdoEnd (s : State) : State :=
  match s.can.sdo with
  | none => s
  | some d =>
    let a := { s with can := { s.can with sdo := none, sdoHeld := none } }
    if d.index = 0x2C20 ∧ d.kind ≠ .waitWrite then a.imageEnded else a

/-! ### Node ID, boot-up, NMT (R305 to R311) -/

/-- A node ID source holds a value from 1 to 127. -/
def idValid (v : Nat) : Bool := decide (1 ≤ v) && decide (v ≤ 127)

/-- The node ID in force and its source: override, straps, fuses, 127 (R305). -/
def State.idChoice (s : State) : Nat × Nat :=
  let o := s.setting 0x1FD1 4
  if idValid o then (o, 0)
  else if idValid s.can.straps then (s.can.straps, 1)
  else if idValid s.fuses.nodeId.toNat then (s.fuses.nodeId.toNat, 2)
  else (127, 3)

/-- The node ID and the CAN data rate are taken (R302, R306); on the internal oscillator the data phase runs at 1 Mb/s
(R374). -/
def State.takeId (s : State) : State :=
  let c := s.idChoice
  { s with can := { s.can with
    nodeId := c.1, idSource := c.2, rate := if s.power.internalOsc then 0 else s.setting 0x1FD0 1
    rateNew := false, idNew := false } }

/-- Boot-up is sent and the node enters PRE-OPERATIONAL with its heartbeat running; EMCY 0xFF21 follows without a valid
source (R305, R307). -/
def State.bootUp (s : State) : State :=
  let hb := s.setting 0x1017 0
  let a := s.canSend (0x700 + s.can.nodeId) [0#8]
  let b := { a with can := { a.can with
    nmt := .preOperational, hbWaiting := none, consumers := .empty
    hbDueAt := if hb = 0 then none else some (a.now + hb * psMs) } }
  if s.can.idSource = 3 then (b.fire 0x0D06 0 0).emcy 0xFF21 0x0D06 else b

/-- The settings of an area take their defaults. -/
def State.defaultArea (s : State) (area : Nat) : State :=
  (settingsOf area).foldl (fun x o => State.loadOne s x (o, none)) s

/-- A node ID override or data rate written since the last Reset Communication keeps its value when the area is restored (R302,
R306; log 93). `a` is the state before. -/
def State.keepIds (a s : State) : State :=
  let x := if a.can.rateNew then s.putCell 0x1FD0 1 (a.setting 0x1FD0 1) else s
  if a.can.idNew then x.putCell 0x1FD1 4 (a.setting 0x1FD1 4) else x

/-- Reset Communication (R310): the area is restored, the node ID and rate are taken, counters and queue are cleared, boot-up
is sent. The counters at 0 end bus-off too (log 42). -/
def State.resetComm (s : State) : State :=
  let a := s.sdoEnd
  let b := State.keepIds a (if a.up.phase = .recovery then a.defaultArea 1 else a.loadArea 1 fun _ => true)
  let c := { b with can := { (b.can.counters 0 0) with
    busOff := false, queue := [], held := none, dropped := false, lastEmcyAt := none, recovering := false, later := []
    tpdo := b.can.tpdo.mapVals fun _ r => { tpdo0 with lastAt := r.lastAt }, rpdo := .empty } }
  (c.takeId).bootUp

/-- Reset Node (R311). Yoke-served objects are restored while the yoke runs (R340). -/
def State.resetNode (s : State) : State :=
  let a := s.closeAllJobs
  let b := if a.up.phase = .recovery then a else a.loadArea 2 fun i => !yokeServed i || a.up.yoke
  b.resetComm

/-- The eight PDOs of a direction. -/
def pdoNums : List Nat := List.range 8

/-- Entering OPERATIONAL: the PDOs' timers begin and SYNCs are counted anew (log 43). -/
def Can.startPdos (c : Can) (now : Nat) : Can :=
  { c with
    tpdo := pdoNums.foldl (fun (t : Tab TpdoRun) n => t.set n
      { t.get tpdo0 n with timerAt := some now, syncs := none, pending := false, captured := none, withheld := false }) c.tpdo
    rpdo := .empty }

/-- NMT Start. A command that names the state in force changes nothing (R308). -/
def State.nmtOn (s : State) : State :=
  if s.can.nmt = .operational then s else
    { s with can := { s.can.startPdos s.now with nmt := .operational }, beat := { s.beat with opAt := s.lineNow } }

/-- NMT Stop: the SDO transfer ends without an abort (R330). -/
def State.nmtOff (s : State) : State :=
  if s.can.nmt = .stopped then s else let a := s.sdoEnd; { a with can := { a.can with nmt := .stopped } }

/-- NMT Enter Pre-operational. -/
def State.nmtPre (s : State) : State := { s with can := { s.can with nmt := .preOperational } }

/-- A good frame is on the bus: the node consumes it, with an effect, or it only lowers the receive error counter (R316). -/
def State.canRx (s : State) (due : Bool) (f : State → State) : Host.Outcome State Fault Refusal :=
  whenSettled s.canUp s (if due then f s.canGot else s.canHeard)

/-- An NMT command frame is obeyed when it is addressed to the node or to all (R308). -/
def State.nmtDue (s : State) (node : Byte) : Bool := node == 0#8 || node.toNat == s.can.nodeId

/-- NMT_START (R308). -/
def execNmtStart (node : Byte) (s : State) : Host.Outcome State Fault Refusal := s.canRx (s.nmtDue node) State.nmtOn
/-- NMT_STOP (R308). -/
def execNmtStop (node : Byte) (s : State) : Host.Outcome State Fault Refusal := s.canRx (s.nmtDue node) State.nmtOff
/-- NMT_ENTER_PREOPERATIONAL (R308). -/
def execNmtEnterPreoperational (node : Byte) (s : State) : Host.Outcome State Fault Refusal :=
  s.canRx (s.nmtDue node) State.nmtPre
/-- NMT_RESET_NODE (R311). -/
def execNmtResetNode (node : Byte) (s : State) : Host.Outcome State Fault Refusal :=
  s.canRx (s.nmtDue node) State.resetNode
/-- NMT_RESET_COMMUNICATION (R310). -/
def execNmtResetCommunication (node : Byte) (s : State) : Host.Outcome State Fault Refusal :=
  s.canRx (s.nmtDue node) State.resetComm

/-- The NMT command of a write to 0x1FD4 (R308). -/
def fxNmtRequest (v : Nat) : Effect := fun x =>
  if v ≠ 0x01 ∧ v ≠ 0x02 ∧ v ≠ 0x80 ∧ v ≠ 0x81 ∧ v ≠ 0x82 then .error outOfRange
  else if x.can.nmt = .initialising then .error badState
  else .ok <|
    if v = 0x01 then x.nmtOn else if v = 0x02 then x.nmtOff else if v = 0x80 then x.nmtPre
    else if v = 0x81 then x.resetNode else x.resetComm

/-! ### Heartbeat (R312, R313) -/

/-- The state byte of a heartbeat. -/
def nmtByte : Nmt → Nat
  | .initialising => 0
  | .preOperational => 0x7F
  | .operational => 5
  | .stopped => 4

/-- The node's heartbeat leaves. -/
def State.heartbeat (s : State) : State :=
  ({ s with can := { s.can with hbWaiting := none } }).canOut (0x700 + s.can.nodeId) (natLe 1 (nmtByte s.can.nmt))

/-- HEARTBEAT_PRODUCE (R312): the heartbeat that is due leaves, or waits because its transmission fails; one that waits
leaves. None is produced while the node is bus-off (R319), and none leaves before the messages of a recovery (R318). -/
def execHeartbeatProduce (sent : Bool) (s : State) : Host.Outcome State Fault Refusal :=
  if s.can.hbWaiting.isSome ∧ sent = true then whenSettled (s.canUp && !s.canGated) s s.heartbeat
  else match s.can.hbDueAt with
    | none => .next s
    | some t =>
      whenSettled (s.up.collar && s.can.nmt != .initialising) s <|
        let a := s.advanceTo t
        let b := { a with can := { a.can with hbDueAt := some (t + a.setting 0x1017 0 * psMs) } }
        if b.can.busOff then b
        else if sent && !b.canGated then b.heartbeat
        else { b with can := { b.can with hbWaiting := b.can.hbWaiting.or (some b.stamp) } }

/-- PRODUCER_HEARTBEAT_WRITE (R312): production restarts or stops. -/
def execProducerHeartbeatWrite (path : Path) (v : W16) (s : State) : Host.Outcome State Fault Refusal :=
  s.odWrite path 0x1017 0 (fxSetting 0x1017 0 v.toNat)

/-- The communication error behaviour (R313): 0x1029:01 is 0 PRE-OPERATIONAL from OPERATIONAL, 1 no change, 2 STOPPED
(log 44). -/
def State.commBehaviour (s : State) : State :=
  let v := s.setting 0x1029 1
  if v = 0 ∧ s.can.nmt = .operational then s.nmtPre
  else if v = 2 ∧ s.can.nmt ≠ .initialising then s.nmtOff
  else s

/-- Node and time in ms of a consumer entry, 0 to 7. -/
def State.consumerNode (s : State) (i : Nat) : Nat := bits (s.setting 0x1016 (i + 1)) 23 16
def State.consumerMs (s : State) (i : Nat) : Nat := bits (s.setting 0x1016 (i + 1)) 15 0

/-- The enabled consumer entry of a node. -/
def State.consumerOf (s : State) (node : Nat) : Option Nat :=
  pdoNums.find? fun i => s.consumerNode i == node && s.consumerMs i != 0 && node != 0

/-- HEARTBEAT_RECEIVE (R313): monitoring begins or goes on. -/
def execHeartbeatReceive (node : BitVec 7) (s : State) : Host.Outcome State Fault Refusal :=
  match s.consumerOf node.toNat with
  | none => s.canRx false id
  | some i => s.canRx true fun a => { a with can := { a.can with consumers := a.can.consumers.set i ⟨some a.now, false⟩ } }

/-- HEARTBEAT_CONSUMER_TIMEOUT (R313): a communication error; the bit holds until the node is heard again (log 45). -/
def execHeartbeatConsumerTimeout (entry : Fin 8) (s : State) : Host.Outcome State Fault Refusal :=
  let c := s.can.consumers.get ⟨none, false⟩ entry
  match c.lastAt with
  | none => .next s
  | some t =>
    whenSettled (!c.timedOut && s.up.collar && s.can.nmt != .initialising && s.consumerMs entry != 0 && s.consumerNode entry != 0) s <|
      let a := s.advanceTo (t + s.consumerMs entry * psMs)
      let b := { a with can := { a.can with consumers := a.can.consumers.set entry ⟨some t, true⟩ } }
      ((b.emcy 0x8130 0x0D03).fire 0x0D03 0 0).commBehaviour

/-! ### EMCY (R315) -/

/-- The identifier of 0x1014. -/
def State.emcyId (s : State) : Nat := bits (s.value 0x1014 0) 10 0

/-- The 16 bytes of an EMCY. -/
def Emcy.bytes (m : Emcy) : List Byte := natLe 2 m.code ++ natLe 1 m.errReg ++ natLe 8 m.stamp ++ natLe 2 m.det ++ natLe 3 0

/-- EMCYs leave in PRE-OPERATIONAL and OPERATIONAL. -/
def State.emcyOpen (s : State) : Bool := s.canUp && s.can.nmt != .stopped

/-- An EMCY frame leaves. -/
def State.emcySend (s : State) (m : Emcy) : State :=
  let a := s.canOut s.emcyId m.bytes
  { a with can := { a.can with lastEmcyAt := some a.now } }

/-- EMCY 0x8140 stands first in the queue, with the stamp of the message that was held (R318). -/
def State.emcyRecovered (s : State) (st : Nat) : State :=
  if bit (s.setting 0x1014 0) 31 then s else
    { s with can := { s.can with
      queue := ⟨0x8140, s.errReg, st, 0⟩ :: s.can.queue, history := (0x8140 :: s.can.history).take 8 } }

/-- The held message leaves first, without the inhibit time, and EMCY 0x8140 with its stamp is next (R318). -/
def State.heldSend (s : State) : State :=
  match s.can.held with
  | none => s
  | some (.emcy m) => (({ s with can := { s.can with held := none } }).emcySend m).emcyRecovered m.stamp
  | some (.heartbeat st b) =>
    (({ s with can := { s.can with held := none } }).canOut (0x700 + s.can.nodeId) (natLe 1 b)).emcyRecovered st

/-- The queue has drained after EMCYs were dropped: EMCY 0x8110 once. -/
def State.emcyDrained (s : State) : State :=
  if s.can.queue.isEmpty && s.can.dropped then ({ s with can := { s.can with dropped := false } }).emcy 0x8110 0x0D04 else s

/-- Once the messages of a recovery have left, the frames that waited behind them do (R318). -/
def State.recoveryDone (s : State) : State :=
  if s.can.recovering && s.can.held.isNone && s.can.queue.isEmpty then
    ({ s with can := { s.can with recovering := false } }).canFlush
  else s

/-- The held message may leave: a heartbeat in every state, an EMCY in those that send one. -/
def State.heldOpen (s : State) : Bool :=
  match s.can.held with
  | some (.heartbeat _ _) => s.canUp
  | _ => s.emcyOpen

/-- EMCY_TRANSMIT (R315, R318): a held message leaves, else the oldest queued one when the inhibit time allows; after the last of a
recovery, what waited behind it. -/
def execEmcyTransmit (s : State) : Host.Outcome State Fault Refusal :=
  if s.can.held.isSome then whenSettled s.heldOpen s s.heldSend.recoveryDone
  else match s.can.queue with
    | [] => whenSettled s.canUp s s.canFlush
    | m :: rest =>
      whenSettled s.emcyOpen s <|
        let a := match s.can.lastEmcyAt with
          | some t => s.advanceTo (t + s.setting 0x1015 0 * 100 * psUs)
          | none => s
        (({ a with can := { a.can with queue := rest } }).emcySend m).emcyDrained.recoveryDone

/-- EMCY_COBID_WRITE (R315, R334). -/
def execEmcyCobidWrite (path : Path) (v : W32) (s : State) : Host.Outcome State Fault Refusal :=
  s.odWrite path 0x1014 0 (fxSetting 0x1014 0 v.toNat)

/-- Effect of a write to 0x1003:00. -/
def fxHistoryClear (v : Nat) : Effect := fun x =>
  if v ≠ 0 then .error outOfRange else .ok { x with can := { x.can with history := [] } }
/-- ERROR_HISTORY_CLEAR (R348): the pre-defined error field is cleared. -/
def execErrorHistoryClear (path : Path) (v : Byte) (s : State) : Host.Outcome State Fault Refusal :=
  s.odWrite path 0x1003 0 (fxHistoryClear v.toNat)

/-! ### Errors of the bus (R316 to R320) -/

/-- The message that bus-off holds: the EMCY that waits longest, else a heartbeat that waits; EMCY identifiers are always
lower (R334). One already held stays (R319). -/
def Can.hold (c : Can) : Can :=
  if c.held.isSome then { c with hbWaiting := none }
  else match c.queue with
    | m :: rest => { c with held := some (.emcy m), queue := rest, hbWaiting := none }
    | [] =>
      match c.hbWaiting with
      | some st => { c with held := some (.heartbeat st (nmtByte c.nmt)), hbWaiting := none }
      | none => c

/-- DATA of event 0xFF20. -/
def State.heldData (s : State) : List Byte :=
  match s.can.held with
  | some (.emcy m) => natLe 2 s.emcyId ++ natLe 1 0 ++ natLe 1 (min 255 s.can.tec) ++ natLe 2 m.code ++ natLe 2 0 ++ natLe 8 m.stamp
  | some (.heartbeat st b) =>
    natLe 2 (0x700 + s.can.nodeId) ++ natLe 1 1 ++ natLe 1 (min 255 s.can.tec) ++ natLe 2 b ++ natLe 2 0 ++ natLe 8 st
  | none => natLe 3 0 ++ natLe 1 (min 255 s.can.tec)

/-- How many TPDOs wait, and the same node without them. -/
def Can.waitingTpdos (c : Can) : Nat := (c.tpdo.vals.filter fun r => r.pending).length
def Can.dropTpdos (c : Can) : Can := { c with tpdo := c.tpdo.mapVals fun _ r => { r with pending := false, captured := none } }

/-- Event 0xFF20 in each ring, when the hem ring is up; with no message held its DATA gives the TEC alone (log 96). -/
def State.heldEvent (s : State) : State := if s.hemRing then s.eventAll 0xFF20 0x0D02 s.stamp s.heldData else s

/-- An identifier is a TPDO's. -/
def State.isTpdo (s : State) (id : Nat) : Bool := (List.range 8).any fun n => bits (s.value (0x1800 + n) 1) 10 0 == id

/-- Bus-off is entered (R317). Frames other than EMCYs and heartbeats that have not left are discarded: TPDOs in their inhibit time,
what waited behind the messages of a recovery, and those of `unsent`, which the controller still had. -/
def State.enterBusOff (s : State) (unsent : List Nat) : State :=
  let gone := s.can.later.map Prod.fst ++ unsent
  let a := { s with can := { s.can.hold with busOff := true, recovering := false, later := [] } }
  let b := (a.count 32 0x1FD2 9 (a.can.waitingTpdos + (gone.filter s.isTpdo).length)).putCell 0x1FD2 0x0B a.stamp
  let c := ({ b with can := b.can.dropTpdos, out := if gone.isEmpty then b.out else b.out ++ [Output.canDropped gone] }).sdoEnd
  ((c.heldEvent).fire 0x0D02 0 0).commBehaviour

/-- Error passive is entered (R316). -/
def State.enterPassive (s : State) : State := (s.emcy 0x8120 0x0D01).fire 0x0D01 0 0

/-- CAN_ERROR_DETECTED (R316): a transmit error adds 8, or nothing in the cases ISO 11898-1 excepts; a receive error adds 1 or
8 (log 41). `err.unsent` are the identifiers of TPDOs and SDO responses that the controller has not sent, which bus-off discards. -/
def execCanErrorDetected (transmit : Bool) (err : CanError) (s : State) : Host.Outcome State Fault Refusal :=
  whenSettled (s.up.collar && s.can.nmt != .initialising && !s.can.busOff) s <|
    let tec := if transmit && err.byEight then s.can.tec + 8 else s.can.tec
    let rec_ := if transmit then s.can.rxErr else min 255 (s.can.rxErr + (if err.byEight then 8 else 1))
    let a := { s with can := s.can.counters tec rec_ }
    let b := if a.can.passive && !s.can.passive then a.enterPassive else a
    if 255 < tec then b.enterBusOff err.unsent else b

/-- BUS_OFF_RECOVERY (R318, R319): the counters are 0. The held message goes first, EMCY 0x8140 next, which without one has the
present stamp (log 46), then the queue; no other frame precedes them. -/
def execBusOffRecovery (s : State) : Host.Outcome State Fault Refusal :=
  whenSettled (s.up.collar && s.can.busOff) s <|
    let a := { s with can := { (s.can.counters 0 0) with busOff := false } }
    let b := if a.can.held.isNone then a.emcyRecovered a.stamp else a
    { b with can := { b.can with recovering := b.can.held.isSome || !b.can.queue.isEmpty } }

/-- BUS_DOMINANT_TIMEOUT (R320). -/
def execBusDominantTimeout (s : State) : Host.Outcome State Fault Refusal :=
  whenSettled (s.up.collar && s.can.nmt != .initialising) s <|
    (s.fire 0x0D05 0 0).emcyEvent 0xFF22 0x0D05 (natLe 4 2048)

/-! ### TPDOs (R335) -/

/-- The parameters of TPDO `n`: COB-ID, type, inhibit time in ps, event timer in ms, SYNC start, entries. -/
def State.tpdoCob (s : State) (n : Nat) : Nat := s.value (0x1800 + n) 1
def State.tpdoType (s : State) (n : Nat) : Nat := s.setting (0x1800 + n) 2
def State.tpdoInhibit (s : State) (n : Nat) : Nat := s.setting (0x1800 + n) 3 * 100 * psUs
def State.tpdoTimer (s : State) (n : Nat) : Nat := s.setting (0x1800 + n) 5
def State.tpdoMap (s : State) (n : Nat) : List (Nat × Nat) :=
  (List.range (s.setting (0x1A00 + n) 0)).map fun i => let v := s.setting (0x1A00 + n) (i + 1); (bits v 31 16, bits v 15 8)
def State.tpdoRun (s : State) (n : Nat) : TpdoRun := s.can.tpdo.get tpdo0 n
def State.setTpdo (s : State) (n : Nat) (r : TpdoRun) : State := { s with can := { s.can with tpdo := s.can.tpdo.set n r } }

/-- PDOs travel: OPERATIONAL, the bus on. -/
def State.pdoOpen (s : State) : Bool := s.canUp && s.can.nmt == .operational
/-- A TPDO that travels and maps something. -/
def State.tpdoOn (s : State) (n : Nat) : Bool := s.pdoOpen && !bit (s.tpdoCob n) 31 && !(s.tpdoMap n).isEmpty

/-- The shortest CAN FD data length that holds `n` bytes. -/
def canFdLength (n : Nat) : Nat :=
  if n ≤ 8 then n else if n ≤ 12 then 12 else if n ≤ 16 then 16 else if n ≤ 20 then 20 else if n ≤ 24 then 24
  else if n ≤ 32 then 32 else if n ≤ 48 then 48 else 64

/-- The mapped values at this instant; none while an object's serving unit is not running. -/
def State.tpdoValues (s : State) (n : Nat) : Option (List Byte) :=
  (s.tpdoMap n).foldl (fun (a : Option (List Byte)) o => match a with
    | none => none
    | some bs => if s.served o.1 then some (bs ++ s.odBytes o.1 o.2) else none) (some [])

/-- A TPDO leaves with the values given. -/
def State.tpdoSend (s : State) (n : Nat) (bs : List Byte) : State :=
  let a := s.canSend (bits (s.tpdoCob n) 10 0) (pad (canFdLength bs.length) bs)
  let r := a.tpdoRun n
  (a.setTpdo n { r with
    last := some bs, lastAt := some a.now, pending := false, captured := none, timerAt := some a.now, withheld := false }).draw

/-- Its inhibit time runs. -/
def State.tpdoInhibited (s : State) (n : Nat) : Bool :=
  match (s.tpdoRun n).lastAt with
  | some t => decide (s.now < t + s.tpdoInhibit n)
  | none => false

/-- A TPDO is to leave: now, or when its inhibit time ends, a synchronous one with the values of its SYNC. -/
def State.tpdoFire (s : State) (n : Nat) (sync : Bool) : State :=
  let r := s.tpdoRun n
  match s.tpdoValues n with
  | none => (s.setTpdo n { r with withheld := true }).bump32 0x1FE1 7
  | some bs =>
    if s.tpdoInhibited n then s.setTpdo n { r with pending := true, captured := if sync then some bs else none }
    else s.tpdoSend n bs

/-- TPDO_CHANGE_CHECK (R335): a type 254 or 255 TPDO leaves when its values differ from the last sent. A check that finds its
serving unit stopped notes it, and the first that finds the unit running sends it once and restarts its event timer. -/
def execTpdoChangeCheck (n : Fin 8) (s : State) : Host.Outcome State Fault Refusal :=
  let r := s.tpdoRun n
  whenSettled (s.tpdoOn n && decide (254 ≤ s.tpdoType n)) s <|
    match s.tpdoValues n with
    | none => s.setTpdo n { r with withheld := true }
    | some bs =>
      if r.pending then s
      else if r.withheld then (s.setTpdo n { r with timerAt := some s.now }).tpdoFire n false
      else if r.last = some bs then s
      else s.tpdoFire n false

/-- TPDO_EVENT_TIMER (R335). -/
def execTpdoEventTimer (n : Fin 8) (s : State) : Host.Outcome State Fault Refusal :=
  match (s.tpdoRun n).timerAt with
  | none => .next s
  | some t =>
    whenSettled (s.tpdoOn n && decide (254 ≤ s.tpdoType n) && s.tpdoTimer n != 0) s <|
      let a := s.advanceTo (t + s.tpdoTimer n * psMs)
      (a.setTpdo n { a.tpdoRun n with timerAt := some a.now }).tpdoFire n false

/-- TPDO_INHIBIT_END (R335): what was held back leaves, or is withheld when its serving unit has stopped meanwhile. -/
def execTpdoInhibitEnd (n : Fin 8) (s : State) : Host.Outcome State Fault Refusal :=
  let r := s.tpdoRun n
  match r.lastAt with
  | none => .next s
  | some t =>
    whenSettled (s.tpdoOn n && r.pending) s <|
      let a := s.advanceTo (t + s.tpdoInhibit n)
      match r.captured with
      | some bs => if (a.tpdoValues n).isSome then a.tpdoSend n bs
          else (a.setTpdo n { r with pending := false, captured := none }).tpdoFire n true
      | none => (a.setTpdo n { r with pending := false }).tpdoFire n false

/-! ### RPDOs (R336) -/

def State.rpdoCob (s : State) (n : Nat) : Nat := s.value (0x1400 + n) 1
def State.rpdoType (s : State) (n : Nat) : Nat := s.setting (0x1400 + n) 2
def State.rpdoRun (s : State) (n : Nat) : RpdoRun := s.can.rpdo.get rpdo0 n
def State.setRpdo (s : State) (n : Nat) (r : RpdoRun) : State := { s with can := { s.can with rpdo := s.can.rpdo.set n r } }
/-- The entries of its mapping: index, sub-index, bytes. -/
def State.rpdoMap (s : State) (n : Nat) : List (Nat × Nat × Nat) :=
  (List.range (s.setting (0x1600 + n) 0)).map fun i =>
    let v := s.setting (0x1600 + n) (i + 1); (bits v 31 16, bits v 15 8, bits v 7 0 / 8)

/-- One mapped value is applied as an SDO write would be, or counted as refused; a dummy entry is skipped. -/
def State.rpdoValue (s : State) (index sub v : Nat) : State :=
  if index < 0x1000 then s else
    match s.tryWrite index sub (fxSetting index sub v) with
    | .ok t => t
    | .error c => (s.aborted .rpdo index sub c).bump32 0x1FE1 6

/-- The mapped values of an RPDO's bytes are applied. -/
def State.rpdoApply (s : State) (n : Nat) (data : List Byte) : State :=
  ((s.rpdoMap n).foldl (fun (a : State × List Byte) (e : Nat × Nat × Nat) =>
    (a.1.rpdoValue e.1 e.2.1 (leNat (a.2.take e.2.2)), a.2.drop e.2.2)) (s, data)).1

/-- RPDO_RECEIVE (R336). -/
def execRpdoReceive (n : Fin 8) (data : List Byte) (s : State) : Host.Outcome State Fault Refusal :=
  let need := ((s.rpdoMap n).map fun e => e.2.2).sum
  s.canRx (s.pdoOpen && !bit (s.rpdoCob n) 31 && decide (data.length ≤ 64)) fun a =>
    let b := a.setRpdo n { a.rpdoRun n with lastAt := some a.now }
    if data.length < need then (b.emcy 0x8210 0x0D08).fire 0x0D08 0 0
    else
      let c := if need < data.length then b.emcy 0x8220 0 else b
      if s.rpdoType n ≤ 240 then c.setRpdo n { c.rpdoRun n with waiting := some data } else c.rpdoApply n data

/-- RPDO_EVENT_TIMEOUT (R336): EMCY 0x8250 once; the timer restarts with the next RPDO. -/
def execRpdoEventTimeout (n : Fin 8) (s : State) : Host.Outcome State Fault Refusal :=
  let r := s.rpdoRun n
  match r.lastAt with
  | none => .next s
  | some t =>
    whenSettled (s.pdoOpen && !bit (s.rpdoCob n) 31 && s.setting (0x1400 + n.val) 5 != 0) s <|
      let a := s.advanceTo (t + s.setting (0x1400 + n.val) 5 * psMs)
      (a.setRpdo n { r with lastAt := none }).emcy 0x8250 0

/-! ### SYNC (R314, R335) -/

/-- A SYNC at TPDO `n`: type 0 leaves when a value differs; types 1 to 240 leave at every n-th SYNC from the start value on. -/
def State.tpdoSync (counter : Nat) (s : State) (n : Nat) : State :=
  let ty := s.tpdoType n
  if s.tpdoOn n = false ∨ 240 < ty then s
  else if ty = 0 then
    match s.tpdoValues n with
    | none => s.tpdoFire n true
    | some bs => if (s.tpdoRun n).last = some bs then s else s.tpdoFire n true
  else
    let r := s.tpdoRun n
    let start := s.setting (0x1800 + n) 6
    match r.syncs with
    | none =>
      if start = 0 ∨ counter = start then
        let a := s.setTpdo n { r with syncs := some 1 }
        if ty = 1 then a.tpdoFire n true else a
      else s
    | some k =>
      let a := s.setTpdo n { r with syncs := some ((k + 1) % ty) }
      if (k + 1) % ty = 0 then a.tpdoFire n true else a

/-- A SYNC at RPDO `n`: the one that waits is applied. -/
def State.rpdoSync (s : State) (n : Nat) : State :=
  match (s.rpdoRun n).waiting with
  | none => s
  | some bs => (s.setRpdo n { s.rpdoRun n with waiting := none }).rpdoApply n bs

/-- SYNC_RECEIVE (R314): in PRE-OPERATIONAL and OPERATIONAL it is latched and counted; in OPERATIONAL the TPDOs take their
values, then the waiting RPDOs are applied (log 43). -/
def execSyncReceive (counter : Byte) (s : State) : Host.Outcome State Fault Refusal :=
  s.canRx (s.can.nmt != .stopped && !bit (s.setting 0x1005 0) 31) fun x =>
    let a := (x.putCell 0x1FD3 1 s.stamp).bump32 0x1FD3 2
    if a.can.nmt = .operational then each pdoNums State.rpdoSync (each pdoNums (State.tpdoSync counter.toNat) a) else a

end Sys2Proof.Machine
end

