-- ==== Sys2Proof/Machine/BringUp.lean ====
section
/-! DEFINITION. Commands of the bring-up (13). -/

namespace Sys2Proof.Machine

/-! ### Starts (R384, R385) -/

/-- What a panel keeps over a cold start: the overcurrent latch, which holds its domains off, its origin and the count of
clears (R366, R368). -/
def PanelPower.coldStart (p : PanelPower) : PanelPower :=
  { panelPower0 with overcurrent := p.overcurrent, ocInjected := p.ocInjected, clears := p.clears }

/-- The state in which a cold start begins: everything volatile at its reset value; fuses, slots, settings records, the fault
log and the counts kept in non-volatile storage stand, and the inputs and sensors are as they are (log 48). A restart that needs
the operator's request goes on needing it, whatever starts the collar (R390; log 77). -/
def State.coldReset (s : State) (cause : StartCause) (straps : Nat) : State :=
  let r := State.reset
  let t := s.power
  { r with
    now := s.now, log := s.log, logMade := s.logMade, faultBuffer := s.faultBuffer, replacement := s.replacement
    beat := { beat0 with carrier := s.beat.carrier }
    can := { can0 with straps := straps }
    fuses := s.fuses
    fw := { s.fw.cut with settings := 2, schemaLoaded := 0, health := 0, healthFrom := none }
    power := { power0 with
      input := t.input, inputMv := t.inputMv, standbyMv := t.standbyMv, standbyOut := t.standbyOut, rangeAt := t.rangeAt
      tin := t.tin, tout := t.tout, flow := t.flow, tinFault := t.tinFault, toutFault := t.toutFault
      flowFault := t.flowFault, refLost := t.refLost, internalOsc := t.refLost
      needRequest := t.needRequest
      panels := t.panels.mapVals fun _ p => p.coldStart
      domains := t.domains.keep fun _ d => d.st == .latchedOff }
    up := { bringUp0 with
      inReset := false, step := 2, stepAt := s.now, startAt := s.now, cause := cause, slowSpi := s.up.slowSpi
      coldStarts := (s.up.coldStarts + 1) % 2 ^ 32 }
    out := s.out, fresh := s.fresh, pending := s.pending }

/-- Firings kept in the collar's fault buffer are taken into the log (R420). -/
def State.takeBuffer (s : State) : State :=
  each s.faultBuffer (fun x e => { x with log := x.log.set (x.logMade % 256) e, logMade := x.logMade + 1 })
    { s with faultBuffer := [] }

/-- COLD_START (R384): with YOKE OFF the supply becomes valid, MOD_RST_N is released, or the collar restarts after its own
reset. Straps are sampled; a replacement request that no cause holds clears (R419). -/
def execColdStart (cause : StartCause) (straps : BitVec 7) (s : State) : Host.Outcome State Fault Refusal :=
  let own := s.up.absentAt.isSome && (cause == .watchdog || cause == .lockstep)
  let due := (s.domainOf 0).st == .off && s.power.fed && (cause == .supply || (s.up.inReset && cause == s.up.cause) || own)
  whenDue due s <|
    let a := (s.coldReset cause straps.toNat).takeBuffer
    { a with replacement := a.replacement && a.replaceCauses != 0 }

/-- MODULE_RESET_ASSERT (R384): the collar is held in reset and every other domain falls at once. -/
def execModuleResetAssert (s : State) : Host.Outcome State Fault Refusal := .next (s.collarStops .modRst)

/-- WARM_START (R385, R417): the collar starts while YOKE is ON; a failure of the health check that its reset stands for is
recorded now (R431). -/
def execWarmStart (cause : StartCause) (straps : BitVec 7) (s : State) : Host.Outcome State Fault Refusal :=
  whenDue (s.up.absentAt.isSome && (s.domainOf 0).st == .on && (cause == .watchdog || cause == .lockstep)) s <|
    ({ s with
       can := { s.can with straps := straps.toNat }
       od := (s.od.erase (odKey 0x2B21 0)), injection := ⟨false, 0, none, false⟩
       power := { s.power with internalOsc := s.power.refLost }
       up := { s.up with warm := true, late := [], cause := cause, startAt := s.now, step := 2, stepAt := s.now } }).healthFail

/-! ### Steps 2 to 5 (R387 to R390) -/

/-- ROM recovery (R389): the ROM takes the node ID, sends boot-up, serves its objects at their defaults, and reports. -/
def State.enterRecovery (s : State) (cause step det : Nat) : State :=
  let a := s.takeBuffer
  let b := ({ a with
    od := .empty, absentEmcy := []
    up := { a.up with collar := true, absentAt := none, phase := .recovery, recovery := cause, t0 := a.sinceStart }
    can := { a.can with cobWritten := .empty } }).takeId.bootUp
  ((b.fire det 0 0).stepFailed step 0xFFFF det).emcyEvent 0xFF03 det (natLe 1 cause)

/-- The fused gusset map, and the lane map with edges by their seam cost sub-index 1 to 144. -/
def fusedSkips (f : FuseImage) : Tab Nat := f.gusset.foldl (fun t g => t.set (g.1.1.val * 12 + g.1.2.val) g.2.val) .empty
def fusedLanes (f : FuseImage) : Tab Nat := f.lanes.foldl (fun t g => t.set (g.1.1 * 2 + g.1.2) g.2.toNat) .empty

/-- A start is under way in the ROM or in the collar's first code. -/
def State.starting (s : State) (step : Nat) : Bool := !s.up.inReset && !s.up.collar && s.up.step == step

/-- FUSE_LOAD (R387): step 2. The ROM reads the whole array, an uncorrectable word or not; what the words without one hold serves
in recovery too. Bits blown by COMMIT stay blown (log 49). -/
def execFuseLoad (fuses : FuseImage) (s : State) : Host.Outcome State Fault Refusal :=
  whenSettled (s.starting 2) s <|
    let a := { s with fuses := { fuses with rollback := fuses.rollback ||| s.fuses.rollback } }
    if fuses.uncorrectable then a.enterRecovery 1 2 0x0C31
    else
      let b := { a with up := { a.up with step := 3, stepAt := a.now } }
      if b.up.warm then b
      else { b with wafer := { wafer0 with skip := fusedSkips fuses, laneFail := fusedLanes fuses, laneForce := fusedLanes fuses } }

/-- The slots are tried in their order; one that fails R427 takes the state that rule gives (R429). -/
def tryImages (checkA checkB : ImageChecks) : List Bool → State → State × Option Bool
  | [], s => (s, none)
  | b :: rest, s =>
    let x := s.fw.slot b
    match imageFault true (if b then checkB else checkA) false x.security s.rollback with
    | some (det, st) =>
      tryImages checkA checkB rest (({ s with fw := s.fw.setSlot b { x with st := st } }).fire det (flag b) 0)
    | none => (s, some b)

/-- IMAGE_VERIFY (R388, R427, R429, R430): steps 3 and 4. A warm start takes the image that the running yoke was loaded from. With
devices that do not advertise the 1-4-4 Fast Read, `checkA.slowSpi`, the limits of steps 3 and 8 do not hold. -/
def execImageVerify (checkA : StartChecks) (checkB : ImageChecks) (s : State) : Host.Outcome State Fault Refusal :=
  whenSettled (s.starting 3) s <|
    let s0 := { s with up := { s.up with slowSpi := checkA.slowSpi } }
    match tryImages checkA.slotA checkB (if s0.up.warm then [s0.fw.runB] else s0.fw.order) s0 with
    | (a, none) => a.enterRecovery 2 3 0x0C32
    | (a, some b) =>
      let x := a.fw.slot b
      let y := if x.st = .standby then { x with st := SlotSt.trial } else x
      { a with
        fw := { a.fw.setSlot b y with
          runB := b, health := flag (y.st == .pending || y.st == .trial), healthFrom := none }
        up := { a.up with step := 5, stepAt := a.now } }

/-- A COMMIT that a reset has cut short is completed before step 5 (R440): its record, where none of the schema exists, takes
what the chosen record holds (log 50). -/
def State.finishCommit (s : State) : State :=
  if s.fw.commit.isNone then s
  else if (s.fw.current s.schema).isSome then s.commitRest
  else ((s.writeRecord 0 false).bump32 0x1FE3 1).commitRest

/-- The settings record is chosen, and the areas that the collar serves are loaded (R390, R439). -/
def State.loadSettings (s : State) : State :=
  let c := s.chooseRecord
  let found := match c.1 with
    | some r => r.schema
    | none => 0
  let a := { s with fw := { s.fw with settings := c.2, schemaLoaded := found } }
  let b := if c.2 = 3 then
      let other := (a.fw.live.map fun r => r.schema).foldl max 0
      (a.fire 0x0E08 (flag a.fw.runB) 0).emcyEvent 0xFF78 0x0E08 (natLe 2 other ++ natLe 2 a.schema)
    else a
  (b.loadArea 1 fun _ => true).loadArea 2 fun i => !yokeServed i

/-- Each EMCY of the fault buffer is queued with its original stamp, then 0xFF74 (R417). -/
def State.takeAbsent (s : State) : State :=
  if s.up.absentAt.isNone then s else
    let ms := s.absentEmcy
    let a := { s with absentEmcy := [], up := { s.up with absentAt := none } }
    let b := each ms (fun x m => x.emcyAt m.code m.det m.stamp) a.takeBuffer
    b.emcyEvent 0xFF74 0 (natLe 1 (startNum b.up.cause))

/-- No domain but YOKE has been asked for: step 10 has not begun. -/
def State.domainsIdle (s : State) : Bool := s.power.domains.cells.all fun c => c.1 == 0 || (!c.2.wanted && (c.2.st == .off || c.2.st == .latchedOff))

/-- The step at which the collar goes on with a yoke that is ON. -/
def State.resumeStep (s : State) : Nat := if !s.up.yoke then 8 else if s.up.phase = .domains ∧ s.domainsIdle = true then 10 else 11

/-- The collar runs. -/
def State.collarOn (s : State) : State := { s with up := { s.up with collar := true } }

/-- The collar's firmware serves: settings loaded, node ID taken, boot-up sent, what waited for it taken over. -/
def State.collarUp (s : State) : State :=
  (s.finishCommit.loadSettings.collarOn.clocksFresh [263, 264]).takeId.bootUp.takeAbsent

/-- A warm start goes on at the step that the yoke has reached. -/
def State.collarResume (b : State) : State :=
  { b with
    up := { b.up with warm := false, step := b.resumeStep, stepAt := b.now, t0 := b.sinceStart }
    fw := { b.fw with healthFrom := if b.up.phase = .done ∧ b.fw.health = 1 then some b.now else none } }

/-- A cold start waits for the main input. -/
def State.collarWait (b : State) : State :=
  { b with
    beat := { beat0 with carrier := b.beat.carrier, polMode := b.setting 0x2103 3 }
    up := { b.up with phase := .waiting, step := 6, stepAt := b.now, t0 := b.sinceStart } }

/-- COLLAR_FIRMWARE_START (R390, R307): step 5. A cold start puts the beat unit into SEARCH and goes on with step 6; a warm start
reattaches to the running yoke, and carries out the shutdown of a TCXO that was lost meanwhile (R374). -/
def execCollarFirmwareStart (s : State) : Host.Outcome State Fault Refusal :=
  whenSettled (s.starting 5) s <|
    let a := s.collarUp
    if a.up.warm then if a.power.refLost then a.collarResume.referenceLost else a.collarResume else a.collarWait

/-! ### Steps 6 to 9 (R390, R399) -/

/-- The yoke's start begins: YOKE ramps. -/
def State.yokeStart (s : State) : State :=
  ({ s with up := { s.up with phase := .yokeStart, step := 7, stepAt := s.now, retryAt := none } }).rampStart 0

/-- MAIN_INPUT_QUALIFIED (R390): in range for 100 ms of step 6 without a break (the worked example: 95.0 to 195.0), with auto-start
set and no operator request needed. -/
def execMainInputQualified (s : State) : Host.Outcome State Fault Refusal :=
  match s.power.rangeAt with
  | none => .next s
  | some t =>
    whenDue (s.up.collar && s.up.phase == .waiting && s.power.input == .inRange && s.setting 0x2A01 1 == 1
        && !s.power.needRequest && !s.power.internalOsc && (s.domainOf 0).st == .off) s
      ((s.advanceTo (max t s.up.stepAt + 100 * psMs)).yokeStart)

/-- YOKE_RAMP (R386): step 7 ends with YOKE ON. -/
def execYokeRamp (s : State) : Host.Outcome State Fault Refusal :=
  whenDue (s.up.step == 7 && (s.domainOf 0).st == .ramping) s (s.domainGood 0)

/-- Steps 8 and 9 can end: the collar runs them with YOKE ON. -/
def State.yokeStep (s : State) (n : Nat) : Bool := s.up.collar && s.up.phase == .yokeStart && s.up.step == n && (s.domainOf 0).st == .on

/-- Limits of the steps that run one at a time, in ms (table "Startup sequence"). -/
def stepMs (n : Nat) : Nat := match n with
  | 1 => 20 | 2 => 2 | 3 => 15 | 4 => 60 | 5 => 30 | 8 => 170 | 9 => 50 | _ => 30
/-- A step of the yoke's start has not passed its limit; with a slow SPI NOR step 8 has none (R386, R388). -/
def State.inLimit (s : State) (n : Nat) : Bool := (s.up.slowSpi && n == 8) || decide (s.now ≤ s.up.stepAt + stepMs n * psMs)

/-- A yoke start fails in step 8 or 9: EMCY 0xFF02, YOKE OFF, a failed health check (R398, R399, R431). -/
def State.yokeStartBad (s : State) (step det : Nat) : State :=
  (((s.fire det 0 0).stepFailed step 0xFFFF det).yokeStartFailed).healthFail

/-- YOKE_LOAD (R386, R430): step 8. A hash mismatch makes the slot INVALID. -/
def execYokeLoad (hashOk : Bool) (s : State) : Host.Outcome State Fault Refusal :=
  whenSettled (s.yokeStep 8 && s.inLimit 8) s <|
    if hashOk then { s with up := { s.up with step := 9, stepAt := s.now } }
    else
      let b := s.fw.runB
      let x := s.fw.slot b
      (({ s with fw := s.fw.setSlot b { x with st := .invalid } }).fire 0x0E02 (flag b) 0).yokeStartBad 8 0x0C33

/-- The yoke runs: its settings are loaded (R439, R390). -/
def State.yokeRuns (s : State) : State :=
  let a := { s with up := { s.up with yoke := true, failedYoke := 0, retryAt := none, yokeOnly := false } }
  let b := (a.clocksFresh [260, 261]).loadArea 2 yokeServed
  { b with up := { b.up with rebuildMode := b.setting 0x2002 0 } }

/-- After a reset of the yoke alone the bring-up stands at step 11 (R416). -/
def State.scrubAgain (a : State) : State := { a with up := { a.up with phase := .testAndScrub, step := 11, stepAt := a.now } }

/-- Step 10 begins: the grid is full until step 11 has found what is missing. -/
def State.domainsBegin (a : State) : State :=
  { a with
    wafer := { a.wafer with panel := .empty, mode := 0, epoch := 0, epochN := none }
    up := { a.up with phase := .domains, step := 10, stepAt := a.now, late := [] } }

/-- YOKE_SELF_TEST (R386, R399, R416): step 9. After a reset of the yoke alone the bring-up stands where it was; otherwise step
10 begins with the full grid still to be tested. -/
def execYokeSelfTest (passed : Bool) (s : State) : Host.Outcome State Fault Refusal :=
  whenSettled (s.yokeStep 9 && s.inLimit 9) s <|
    if !passed then s.yokeStartBad 9 0x0C34
    else
      let a := s.yokeRuns
      if s.up.yokeOnly && !s.domainsIdle then
        a.scrubAgain.phaseCheck
      else
        a.domainsBegin

/-- YOKE_START_RETRY (R399): 1 s after a failed start, steps 7 to 9 again. -/
def execYokeStartRetry (s : State) : Host.Outcome State Fault Refusal :=
  match s.up.retryAt with
  | none => .next s
  | some t =>
    whenDue (s.up.collar && (s.domainOf 0).st == .off && s.up.phase == .yokeStart && s.inputAllows 0 && !s.power.internalOsc) s
      ((s.advanceTo t).yokeStart)

/-! ### Steps 10 and 11 (R391 to R394) -/

/-- The panels that the overcurrent latch holds off. -/
def State.heldOff (s : State) : List Nat := allPanels.filter fun p => (s.panelPower p).overcurrent

/-- DOMAIN_POWER_UP (R391): step 10. Every domain is to come ON, but for the panels held off by their latch; the first ramps
start. -/
def execDomainPowerUp (s : State) : Host.Outcome State Fault Refusal :=
  whenSettled (s.up.yoke && s.up.collar && s.up.phase == .domains && s.up.step == 10) s <|
    let off := s.heldOff
    let ds := rampOrder.filter fun d => d != 0 && (s.domainOf d).st == .off && !(isPanelDomain d && off.contains (domainPanel d))
    let a := each ds (fun x d => x.setDomain d { x.domainOf d with wanted := true }) s
    let b := each off (fun x p => x.panelMark p 19) a
    ({ b with up := { b.up with step := 11, stepAt := b.now } }).rampAll.phaseCheck

/-- A segment's bring-up record (0x2A10). -/
def State.segOfUp (s : State) (g : Nat) : SegBring := s.up.segs.get ⟨0, 0, 0, 0⟩ g
def State.setSegUp (s : State) (g : Nat) (x : SegBring) : State := { s with up := { s.up with segs := s.up.segs.set g x } }

/-- A segment's bring-up ends without its DRAM: state 4 or 5, 0x0C38, EMCY 0xFF02 (R394, R398). -/
def State.segFailed (s : State) (g : Nat) (x : SegBring) (st : Nat) : State :=
  ((s.setSegUp g { x with st := st }).fire 0x0C38 g 0).stepFailed 11 g 0x0C38

/-- A training attempt ends: the scrub begins, or another attempt, or the third has failed (R394). -/
def State.trainingDone (s : State) (g : Nat) (trained : Bool) : State :=
  let x := s.segOfUp g
  let n := x.attempts + 1
  if trained then (s.setSegUp g ⟨2, n, 0, s.now⟩).clocksFresh [208 + 2 * g]
  else if n < 3 then s.setSegUp g ⟨1, n, 0, s.now⟩
  else s.segFailed g { x with attempts := 3 } 4

/-- DRAM_TRAINING_DONE (R394): step 11a. -/
def execDramTrainingDone (seg : SegId) (trained : Bool) (s : State) : Host.Outcome State Fault Refusal :=
  let g := seg.val
  let x := s.segOfUp g
  whenSettled (s.up.yoke && (s.domainOf (1 + g)).st == .on && x.st == 1 && decide (s.now ≤ x.since + 50 * psMs)) s
    (s.trainingDone g trained).phaseCheck

/-- A segment's DRAM enters service: every byte zero with valid ECC, nothing written (R152, R153, R394). The first one
begins the 24 hours of the patrol scrub (R154; log 73). -/
def State.segmentServes (s : State) (g ms : Nat) : State :=
  let x := s.segOfUp g
  { s with
    dram := s.dram.set g true
    tier1 := s.tier1.wipe (g * segSize) ((g + 1) * segSize)
    granules := s.granules.keep fun k _ => segOf (k * 65536) != g
    tier1Bad := s.tier1Bad.keep fun w _ => segOf (w * 8) != g
    up := { s.up with
      segs := s.up.segs.set g { x with st := 3, scrubMs := ms }
      patrolAt := if s.dram.vals.any id then s.up.patrolAt else s.now + scrubPeriod } }

/-- SEGMENT_SCRUB_DONE (R394): the scrub ends within its 600 ms. -/
def execSegmentScrubDone (seg : SegId) (ms : W16) (s : State) : Host.Outcome State Fault Refusal :=
  let g := seg.val
  let x := s.segOfUp g
  whenSettled (s.up.yoke && (s.domainOf (1 + g)).st == .on && x.st == 2 && decide (ms.toNat ≤ 600)) s
    ((s.advanceTo (x.since + ms.toNat * psMs)).segmentServes g ms.toNat).phaseCheck

/-- A panel's record (0x2A11). -/
def State.panelUp (s : State) (p : Nat) : Nat := s.up.panels.get 0 p
def State.setPanelUp (s : State) (p v : Nat) : State := { s with up := { s.up with panels := s.up.panels.set p v } }

/-- One more failed tile in bits 15 to 12, saturating at 15. -/
def moreFailed (v : Nat) : Nat := if bits v 15 12 = 15 then v else v + 2 ^ 12

/-- A tile fails the self-test of step 11b (R392, R443): it is fenced; its row is repaired with its gusset, its gusset is
spent, nothing follows at the skipped position, or the panel is LOST. -/
def State.selfTestFails (s : State) (p : Nat) (rc : Nat × Nat) : State :=
  let row := p * 12 + rc.1
  let k := p * 144 + rc.1 * 12 + rc.2
  let sk := s.wafer.skipOf p rc.1
  let a := (s.fire 0x0C36 (s.wafer.tileUnit k) 2).setTile k { s.tileOf k with fenced := true }
  let b := a.setPanelUp p (moreFailed (a.panelUp p))
  if rc.2 = sk then if sk = 11 then { b with wafer := { b.wafer with spent := b.wafer.spent.set row true } } else b
  else if sk = 11 ∧ s.wafer.spent.get false row = false then
    let v := b.panelUp p
    ({ b with wafer := { b.wafer with skip := b.wafer.skip.set row rc.2, repaired := b.wafer.repaired.set row true } }).setPanelUp p
      (setBit v rc.1)
  else if bit (b.panelUp p) 18 then b
  else (b.setPanelUp p (setBit (b.panelUp p) 18)).stepFailed 11 p 0x0C36

/-- The stores of a panel after its test: every line unwritten, no saturation flag (R393). -/
def State.testedPanel (s : State) (p : Nat) : State :=
  { s with
    tiles := s.tiles.mapVals fun k t => if keyPanel k = p then { tile0 with fenced := t.fenced } else t
    up := { s.up with ended := s.up.ended.set p true, endedAt := s.now } }

/-- A panel runs step 11b, and within its 10 ms. -/
def State.panelInTime (s : State) (p : Nat) : Bool := decide (s.now ≤ s.up.panelAt.get 0 p + 10 * psMs)
def State.panelTests (s : State) (p : Nat) : Bool :=
  s.up.yoke && !s.up.built && !s.up.ended.get false p && (s.domainOf (coreDomain p)).st == .on

/-- A panel's PLL has not locked within step 11b (R392). -/
def State.pllFailed (s : State) (p : Nat) : State :=
  ((s.setPanelPower p { s.panelPower p with pll := false }).panelMark p 17).stepFailed 11 p 0

/-- PANEL_SELF_TEST_DONE (R392): step 11b. -/
def execPanelSelfTestDone (p : PanelId) (pllOk : Bool) (failed : List (Pos12 × Pos12)) (s : State) :
    Host.Outcome State Fault Refusal :=
  whenSettled (s.panelTests p.val && s.panelInTime p.val) s <|
    if pllOk then
      (each (failed.dedup.map fun x => (x.1.val, x.2.val)) (fun y rc => y.selfTestFails p.val rc) s).testedPanel p.val
    else s.pllFailed p.val

/-- A lane fails the test of step 11c (R392): 0x0C37, and a spare is taken for one that had not failed before. -/
def State.laneTestFails (s : State) (l : Fin 144 × Fin 2 × Fin 14) : State :=
  let e := l.1.val + 1
  let key := e * 2 + l.2.1.val
  let m := s.wafer.laneFail.get 0 key
  let m1 := setBit m l.2.2.val
  let a := { s with
    wafer := { s.wafer with laneFail := s.wafer.laneFail.set key m1 }
    up := { s.up with lanes := min 65535 (s.up.lanes + (sparesUsed m1 - sparesUsed m)) } }
  a.fire 0x0C37 (a.wafer.edgeUnit e) 0

/-- The third failure on one direction of a seam, in this test or before it, makes a panel LOST with EMCY 0xFF02 (R29, R392). -/
def State.seamTestFails (s : State) (e : Nat) : State :=
  match seamPanels e with
  | some (_, hi) =>
    if (laneLost (s.wafer.laneFail.get 0 (e * 2)) || laneLost (s.wafer.laneFail.get 0 (e * 2 + 1))) && !bit (s.panelUp hi) 18 then
      (s.setPanelUp hi (setBit (s.panelUp hi) 18)).stepFailed 11 hi 0x0C37
    else s
  | none => s

/-- A panel is lost to the grid that step 11c builds: its domain, PLL or tiles failed, a seam of its own is lost, or its latch
holds it off (R29, R391, R392). -/
def State.lostInBringUp (s : State) (p : Nat) : Bool := decide (2 ^ 16 ≤ s.panelUp p)

/-- The panel is LOST at bring-up: bit 18 of its record, detector 0x0C08. -/
def State.bringUpLoss (s : State) (p : Nat) : State :=
  ((s.setPanelUp p (setBit (s.panelUp p) 18)).fire 0x0C08 0 4).bump64 0x2B00 3

/-- Every panel of a list is lost in the bring-up. -/
def State.bringUpLosses (s : State) (lost : List Nat) : State := each lost State.bringUpLoss s

/-- The grid of epoch 0 without the panels of a list, in the mode of 0x2002 as step 9 loaded it (R393). -/
def State.gridBuilt (s : State) (lost : List Nat) : State :=
  let w := s.wafer.rebuilt s.up.rebuildMode fun p => lost.contains p
  { s with
    wafer := { w with laneForce := w.laneFail, passForce := w.passFail, epoch := 0, epochN := none }
    up := { s.up with built := true } }

/-- GRID_BUILD (R393): step 11c, once every panel has ended or failed step 11b: the lanes are tested, and the grid of epoch 0 is
built in the mode of 0x2002. -/
def execGridBuild (lanes : List (Fin 144 × Fin 2 × Fin 14)) (s : State) : Host.Outcome State Fault Refusal :=
  whenSettled (s.up.yoke && !s.up.built && allPanels.all fun p => s.up.ended.get false p) s <|
    let a := each ((List.range 112).map (· + 1)) State.seamTestFails (each lanes.dedup State.laneTestFails s)
    let lost := allPanels.filter a.lostInBringUp
    ((a.bringUpLosses lost).gridBuilt lost).lostDomainsOff.phaseCheck.rebudget

/-! ### Limits (R386, R398) -/

/-- A step for which R398 gives no outcome of its own has passed its limit: EMCY 0xFF02, once, and the sequence stays where it is
(log 51). -/
def State.limitPassed (s : State) (key step unit : Nat) : State :=
  ({ s with up := { s.up with late := key :: s.up.late } }).stepFailed step unit 0

/-- The instant at which steps 1 to 5 pass their limits. Steps 3 and 4 are one command, so step 4 begins at the limit of step 3;
with a slow SPI NOR step 3 has none. -/
def State.startLimit (s : State) (n : Nat) : Option Nat :=
  if n = 1 then if s.up.step = 1 then s.up.absentAt.map fun t => t + stepMs 1 * psMs else none
  else if n = 2 ∨ n = 5 ∨ (n = 3 ∧ s.up.slowSpi = false) then
    if s.starting n then some (s.up.stepAt + stepMs n * psMs) else none
  else if n = 4 ∧ s.up.slowSpi = false then
    if s.starting 3 then some (s.up.stepAt + (stepMs 3 + stepMs 4) * psMs) else none
  else none

/-- Step 10 has not ended: a domain of it ramps or waits. -/
def State.domainsRun (s : State) : Bool :=
  s.up.yoke && s.up.collar && s.up.step == 11 && s.power.domains.vals.any fun d => d.st == .ramping || (d.wanted && d.st == .off)

/-- A yoke start of step 7 to 9 passes its limit (R398, R399). -/
def State.yokeLate (s : State) (step : Nat) : Host.Outcome State Fault Refusal :=
  if step = 7 then
    whenSettled (s.up.step == 7 && (s.domainOf 0).st == .ramping) s <|
      (((s.advanceTo ((s.domainOf 0).rampAt + 2 * psMs)).domainOff 0).stepFailed 7 0 0).yokeStartFailed
  else
    whenSettled (s.yokeStep step && !(s.up.slowSpi && step == 8)) s
      ((s.advanceTo (s.up.stepAt + stepMs step * psMs)).yokeStartBad step 0x0C34)

/-- A segment's step 11a passes a limit: 50 ms of a training attempt, 600 ms of the scrub (R394, R398). -/
def State.segLate (s : State) (g : Nat) : Host.Outcome State Fault Refusal :=
  let x := s.segOfUp g
  let on_ := s.up.yoke && (s.domainOf (1 + g)).st == .on && decide (g < 16)
  if x.st = 1 then whenSettled on_ s ((s.advanceTo (x.since + 50 * psMs)).trainingDone g false).phaseCheck
  else whenSettled (on_ && x.st == 2) s ((s.advanceTo (x.since + 600 * psMs)).segFailed g { x with scrubMs := 600 } 5).phaseCheck

/-- STARTUP_STEP_TIMEOUT (R386, R398): a step passes its limit: 1 to 5, 7 to 10; 11 for step 11a of segment `unit`, 12 for 11b of
panel `unit`, 13 for 11c and 14 for 11d of function `unit`. A port's configuration is served at the latest when its link is up; its
PERST# is not in the model, so that the 100 ms of 11d are not placed (log 51). -/
def execStartupStepTimeout (step unit : Nat) (s : State) : Host.Outcome State Fault Refusal :=
  let key := step * 256 + unit
  let new := !s.up.late.contains key
  if 7 ≤ step ∧ step ≤ 9 then s.yokeLate step
  else if step = 10 then
    whenSettled (new && s.domainsRun) s ((s.advanceTo (s.up.stepAt + stepMs 10 * psMs)).limitPassed key 10 0xFFFF)
  else if step = 11 then s.segLate unit
  else if step = 12 then
    whenSettled (decide (unit < 64) && s.panelTests unit) s ((s.advanceTo (s.up.panelAt.get 0 unit + 10 * psMs)).pllFailed unit)
  else if step = 13 then
    whenSettled (new && s.up.yoke && !s.up.built && allPanels.all fun p => s.up.ended.get false p) s
      ((s.advanceTo (s.up.endedAt + 7 * psMs)).limitPassed key 11 0xFFFF)
  else if step = 14 then
    whenSettled (new && decide (unit < 2) && s.up.yoke && (s.domainOf (17 + unit)).st == .on && !(s.host (fnOf unit)).up) s
      (s.limitPassed key 11 (17 + unit))
  else match s.startLimit step with
    | some t => whenSettled new s ((s.advanceTo t).limitPassed key step 0xFFFF)
    | none => .next s

end Sys2Proof.Machine
end

