-- ==== Sys2Proof/Machine/Faults.lean ====
section
/-! DEFINITION. Commands of faults and fencing (14), but for injection. -/

namespace Sys2Proof.Machine

/-! ### A tile fails (R405 to R408, R443) -/

/-- A tile is fenced: it computes no more (R405). -/
def State.fenceTile (s : State) (k : Nat) : State :=
  (s.setTile k { (s.tileOf k).halt with fenced := true, flights := [] }).bump64 0x2B00 1

/-- The running TSTART of an ELASTIC, OPEN job whose region holds a tile (R407). -/
def State.tstartAt (s : State) (k : Nat) : Option (Nat × Nat) :=
  match s.wafer.logical k, s.jobAt k with
  | some (x, y), some j =>
    if (s.jobOf j).elastic = false then none else
      ((s.listsOf j).flatMap fun id => match s.lists.find id with
        | none => []
        | some l => (l.entries.filter fun e => e.engine == 0 && e.op == 2 && e.status.isNone && l.waiting != some e.idx
            && e.gridRegion.has x y).map fun e => (id, e.idx)).head?
  | _, _ => none

/-- A place for the replacement's task is kept in the TSTART's barrier, before the fence takes the old one (R407, R413). -/
def State.keepPlace (s : State) (k : Nat) : State :=
  match s.tstartAt k with
  | some (id, i) => s.entryMap id i fun e => { e with parts := e.parts + 1 }
  | none => s

/-- Contexts restart empty with the same attachments, and 0x0306 fires once for each (R247). -/
def State.contextsLost (s : State) (slots : List Nat) : State := each slots (fun x slot => x.fire 0x0306 slot 0) s
def emptyContexts (t : Tab Ctx) : Tab Ctx := t.mapVals fun _ _ => { ctx0 with scanned := true }

/-- A physical key of a row after columns past `c` have moved east. -/
def movedKey (base c k : Nat) : Nat := if base + c < k ∧ k < base + 11 then k + 1 else k

/-- The tiles of a row after the store move of R406: columns past `c` stand one place east, paused; the replacement of
column `c` is empty with its contexts; the failed tile holds nothing. -/
def State.rowMoved (s : State) (base c : Nat) (restart : Option (Nat × Nat)) : State :=
  let dead := s.tileOf (base + c)
  let t0 := ((List.range 12).filter fun x => decide (c + 2 ≤ x)).foldl (fun t x =>
    t.set (base + x) { s.tileOf (base + x - 1) with paused := true, fenced := (s.tileOf (base + x)).fenced }) s.tiles
  let t1 := (t0.set (base + c + 1) { tile0 with
    fenced := (s.tileOf (base + c + 1)).fenced, ctxs := emptyContexts dead.ctxs, restart := restart }).set (base + c)
    { tile0 with fenced := true }
  { s with
    tiles := t1.mapVals fun _ t => { t with feedback := t.feedback.map fun f => (f.1, f.2.map (movedKey base c)) }
    mesh := s.mesh.map fun m => { m with src := movedKey base c m.src, dst := movedKey base c m.dst } }

/-- Pleats of passes in progress for a logical tile land no more (R407). -/
def State.passesMiss (s : State) (lx ly : Nat) : State :=
  { s with plans := s.plans.mapVals fun _ p =>
      let mine := (p.pleats.zipIdx.filter fun x => decide (p.lx + x.1.rx = lx) && decide (p.ly + x.1.ry = ly)).map Prod.snd
      { p with passes := p.passes.mapVals fun _ q =>
          { q with pleats := mine.foldl (fun t i => if q.state i = 0 then t.set i 3 else t) q.pleats } } }

/-- Store cycles of the move: the lines of three stores at 128 bytes a cycle when columns move (R406; log 52). -/
def moveCycles (c : Nat) : Nat := if c < 10 then 11264 else 0

/-- The remap of R405 step 3 with the store move of R406. -/
def State.remap (s : State) (k det : Nat) : State :=
  let p := keyPanel k
  let r := keyRow k
  let c := keyCol k
  let row := p * 12 + r
  let cyc := moveCycles c
  let at_ := (s.wafer.logical k).getD (0, 0)
  let unit := s.wafer.tileUnit k
  let place := s.tstartAt k
  let a := (s.keepPlace k).unitsFail [k] [] det
  let slots := (a.tileOf k).ctxs.keys
  let b := (a.rowMoved (p * 144 + r * 12) c place).passesMiss at_.1 at_.2
  let d := State.epochStep { b with
    wafer := { b.wafer with skip := b.wafer.skip.set row c, repaired := b.wafer.repaired.set row true }
    moves := b.moves.set row ⟨c, b.now + cyc * psUs / max 1 (b.panelPower p).mhz⟩ }
  let e := ((d.contextsLost slots).bump64 0x2B00 2).putCell 0x2B40 1 (p + r * 64 + c * 1024 + cyc * 65536)
  ((e.putCell 0x2B40 2 e.stamp).logAct det unit 3).emcyEvent 0xFF70 det (natLe 1 p ++ natLe 1 r ++ natLe 1 c)

/-- The fence of a failed tile takes effect (R405, R408, R443). -/
def State.tileFenceWork (s : State) (k det : Nat) : State :=
  let p := keyPanel k
  let row := p * 12 + keyRow k
  let unit := s.wafer.tileUnit k
  let sk := s.wafer.skipOf p (keyRow k)
  if (s.wafer.panelOf p).mode ≠ .active then (s.fenceTile k).logAct det unit 2
  else if keyCol k = sk then
    let a := (s.fenceTile k).logAct det unit 2
    if sk = 11 then { a with wafer := { a.wafer with spent := a.wafer.spent.set row true } } else a
  else if s.losesPanel k then
    (((s.fenceTile k).unitsFail [k] [] det).logAct det unit 4).declareLost p 1 (s.beat.n - 1)
  else (s.fenceTile k).remap k det

/-- TILE_FENCE (R405): at the boundary after a tile's failure. -/
def execTileFence (t : PhysTile) (s : State) : Host.Outcome State Fault Refusal :=
  let u := FailUnit.tile (tileKey t)
  whenSettled (s.fenceDue u) s ((s.unsuspect u).tileFenceWork (tileKey t) (s.suspectDet u))

/-- STORE_MOVE_END (R406, R407): the moved tasks go on, and the replacement tile is restored. -/
def execStoreMoveEnd (p : PanelId) (row : Pos12) (s : State) : Host.Outcome State Fault Refusal :=
  let key := p.val * 12 + row.val
  let base := p.val * 144 + row.val * 12
  match s.moves.find key with
  | none => .next s
  | some m =>
    let a := s.advanceTo m.endsAt
    .next (State.restoreTile { a with
      moves := a.moves.erase key
      tiles := a.tiles.mapVals fun k t => if k / 12 = base / 12 then { t with paused := false } else t } (base + m.col + 1))

/-! ### Panel loss and rebuild (R409, R410) -/

/-- A suspect unit is a panel declared LOST. -/
def FailUnit.isPanel : FailUnit → Bool
  | .panel _ _ => true
  | _ => false

/-- PANEL_LOSS_REBUILD (R409): every job aborts, plans become LOADED, contexts are detached, and the grid is rebuilt without
the panels that are LOST, in the mode held since the first loss (R38). -/
def execPanelLossRebuild (s : State) : Host.Outcome State Fault Refusal :=
  let due := s.suspects.filter fun x => x.what.isPanel && s.fenceDue x.what
  whenSettled (!due.isEmpty) s <|
    let lost := allPanels.filter fun p => (s.wafer.panelOf p).mode == .lost || due.any fun x => match x.what with
      | .panel q _ => q == p
      | _ => false
    let mode := if s.wafer.mode ≠ 0 then s.wafer.mode else s.setting 0x2002 0
    let b := (s.abortAll 0x0C08).plansToLoaded.discardPrograms.detachAll.killAll
    let c := State.epochStep { b with
      wafer := b.wafer.rebuilt mode fun p => lost.contains p
      suspects := b.suspects.filter fun x => !due.any fun y => y.what == x.what }
    c.lostDomainsOff.rebuiltReport

/-! ### Panel reset (R411) -/

/-- The tiles of a panel. -/
def panelKeys (p : Nat) : List Nat := (List.range 144).map (p * 144 + ·)
/-- Those that hold a logical position. -/
def State.panelTiles (s : State) (p : Nat) : List Nat := (panelKeys p).filter fun k => (s.wafer.logical k).isSome

/-- A tile keeps the place of its task for its return. -/
def State.awaitReturn (s : State) (k : Nat) : State :=
  let a := s.keepPlace k
  match s.tstartAt k with
  | some r => a.setTile k { a.tileOf k with restart := some r }
  | none => a

/-- PANEL_RESET_FENCE (R411): every tile of the panel is fenced together; RESETTING is set and the translation stays. -/
def execPanelResetFence (p : PanelId) (s : State) : Host.Outcome State Fault Refusal :=
  let u := FailUnit.panelReset p.val
  whenSettled (s.fenceDue u) s <|
    let det := s.suspectDet u
    let keys := s.panelTiles p.val
    let a := (each keys State.awaitReturn (s.unsuspect u)).unitsFail keys [] det
    { a with wafer := { a.wafer with panel := a.wafer.panel.set p.val { a.wafer.panelOf p.val with resetting := true } } }

/-- A tile that passed its test takes its position again, empty, its contexts attached. -/
def State.tileReturns (s : State) (k : Nat) : State :=
  let t := s.tileOf k
  let a := s.setTile k { tile0 with fenced := t.fenced, restart := t.restart, ctxs := emptyContexts t.ctxs }
  (a.contextsLost t.ctxs.keys).restoreTile k

/-- A tile that failed the test is a tile failure at this boundary. -/
def State.tileStaysOut (s : State) (k : Nat) : State :=
  let a := s.fire 0x0C36 (s.wafer.tileUnit k) 2
  if a.isSuspect (.tile k) then a else
    let u : Suspect := ⟨.tile k, a.beat.n - 1, 0x0C36⟩
    { a with suspects := a.suspects ++ [u] }

/-- PANEL_RETURN (R411): at the first boundary after the released panel's self-test. -/
def execPanelReturn (p : PanelId) (failed : List (Pos12 × Pos12)) (s : State) : Host.Outcome State Fault Refusal :=
  let q := s.panelPower p.val
  whenSettled ((s.wafer.panelOf p.val).resetting && q.released) s <|
    let bad := (failed.map fun x => p.val * 144 + x.1.val * 12 + x.2.val).dedup
    let a := { s with wafer := { s.wafer with panel := s.wafer.panel.set p.val { s.wafer.panelOf p.val with resetting := false } } }
    let b := a.setPanelPower p.val { q with released := false }
    let c := each ((panelKeys p.val).filter fun k => !bad.contains k) State.tileReturns b
    each (bad.filter fun k => !(s.tileOf k).fenced) State.tileStaysOut c

/-! ### Owners and leases (R412 to R415) -/

/-- The unit that an owner stands for: a segment's DRAM, else the owner itself. -/
def ownerUnit (kind number : Nat) : FailUnit := if kind = 5 then .dram number else .owner kind number

/-- LEASE_EXPIRY (R412): a lease's expiry falls at or before the current stamp: 0x0C05 with the owner's kind, and the owner is
fenced at the next boundary. -/
def execLeaseExpiry (kind : BitVec 4) (number : W16) (s : State) : Host.Outcome State Fault Refusal :=
  let k := kind.toNat
  let n := number.toNat
  match s.leases.find (ownerKey k n) with
  | none => .next s
  | some e =>
    whenSettled (decide (e ≤ s.lineNow)) s <|
      (({ s with leases := s.leases.erase (ownerKey k n) }).fireFull 0x0C05 n 6 k s.injection.acting).suspect (ownerUnit k n) 0x0C05

/-- Every hem DMA channel that an owner holds begins to drain (R414, R415). -/
def State.drainOwner (s : State) (kind number : Nat) : State :=
  { s with dma := s.dma.mapVals fun _ c =>
      if c.holder = some (kind, number) ∧ c.drainSince = none then { c with drainSince := some s.now } else c }

/-- EMCY 0xFF75 with the owner tag, and the count of 0x2B00:05 (R412, R414). -/
def State.ownerFenced (s : State) (kind number det : Nat) : State :=
  ((s.bump64 0x2B00 5).logAct det number 6).emcyEvent 0xFF75 det (natLe 4 (kind * 2 ^ 28 + number))

/-- A function is fenced (R179): its rings are disabled, its jobs aborted and closed, its records withheld. -/
def State.fenceFunction (s : State) (f : Fn) (det : Nat) : State :=
  let off := fun (t : Tab Ring) => t.mapVals fun _ r => if r.owner = f then { r with enable := false, reserved := 0 } else r
  let mine := (s.jobs.cells.filter fun c => c.2.st != .free && c.2.owner == f).map Prod.fst
  let a := each mine (fun x j => (x.jobAbort j .jobAborted det).jobClose j (0, 0x10000)) { s with sq := off s.sq, cq := off s.cq }
  (a.setHost f { a.host f with flr := false }).ownerFenced 1 (fnNum f) det

/-- A job is fenced (R414): marked, its channels drained, its connections and counters given back, its requests ended with
FENCED. -/
def State.fenceJobNow (s : State) (j det : Nat) : State :=
  let q := s.jobOf j
  if q.st = .free then s else
    let a := { s with jobs := s.jobs.set j { q with fenced := true } }
    (((a.drainOwner 2 j).jobLinks j).jobAbort j .fenced det).ownerFenced 2 j det

/-- The pleats homed on a segment (R170). -/
def State.pleatsOn (s : State) (g : Nat) : List (Nat × Nat) :=
  s.plans.cells.flatMap fun c => (c.2.pleats.zipIdx.filter fun x => x.1.seg == g).map fun x => (c.1, x.2)

/-- A segment's DRAM fails (R401, R361, R402): jobs and pleats that use it, then its service. It returns through training after
a reset of its rail or clock, and stays out otherwise (log 53). -/
def State.fenceDram (s : State) (g det : Nat) : State :=
  let a := s.unitsFail [] [g] det
  let b := each (a.pleatsOn g) (fun x c => x.pleatFail c.1 c.2 det false) a
  let again := (det == 0x0A07 || det == 0x0B01 || det == 0x0B02) && (s.domainOf (1 + g)).st == .on
  { b with
    dram := b.dram.set g false
    up := { b.up with segs := b.up.segs.set g (if again then ⟨1, 0, 0, b.now⟩ else ⟨7, 0, 0, 0⟩) } }

/-- OWNER_FENCE (R414): an owner's fence takes effect at the boundary after its detector or its lapse. -/
def execOwnerFence (kind : BitVec 4) (number : W16) (s : State) : Host.Outcome State Fault Refusal :=
  let k := kind.toNat
  let n := number.toNat
  let u := ownerUnit k n
  let det := s.suspectDet u
  whenSettled (s.fenceDue u) s <|
    let a := s.unsuspect u
    if k = 1 then a.fenceFunction (fnOf n) det
    else if k = 2 then a.fenceJobNow n det
    else if k = 4 then a.yokeFail 0 det
    else if k = 5 then a.fenceDram n det
    else a

/-- DMA_DRAIN_DONE (R415): the channel is released. -/
def execDmaDrainDone (seg : SegId) (channel : Fin 32) (s : State) : Host.Outcome State Fault Refusal :=
  let key := seg.val * 32 + channel.val
  match s.dma.find key with
  | none => .next s
  | some c =>
    whenDue (c.drainSince.isSome && !c.quarantined) s
      { s with dma := s.dma.set key { c with holder := none, entry := none, drainSince := none } }

/-- DRAIN_TIMEOUT (R415): the channel is quarantined, 0x0C06 fires, the segment's DRAM fails. -/
def execDrainTimeout (seg : SegId) (channel : Fin 32) (s : State) : Host.Outcome State Fault Refusal :=
  let key := seg.val * 32 + channel.val
  match s.dma.find key with
  | none => .next s
  | some c =>
    match c.drainSince with
    | none => .next s
    | some t =>
      whenSettled (!c.quarantined) s <|
        let a := s.advanceTo (t + s.setting 0x2B01 3 * psUs)
        ({ a with dma := a.dma.set key { c with quarantined := true } }.fire 0x0C06 0 1).suspect (.dram seg.val) 0x0C06

/-- Effect of a write to 0x2B31. -/
def fxFenceJob (v : Nat) : Effect := fun x =>
  if v = 0xFFFF then .ok x
  else if 1024 ≤ v then .error outOfRange
  else if (x.jobOf v).st = .free then .ok x
  else .ok (x.suspect (.owner 2 v) 0)

/-- FENCE_JOB (R414, R423). -/
def execFenceJob (path : Path) (v : W16) (s : State) : Host.Outcome State Fault Refusal :=
  s.odWrite path 0x2B31 0 (fxFenceJob v.toNat)

/-! ### Yoke and collar (R416, R417) -/

/-- YOKE_FAILURE (R416): a watchdog expiry fires 0x0C01 and fails a health check in progress (R431). -/
def execYokeFailure (cause : Fin 3) (s : State) : Host.Outcome State Fault Refusal :=
  whenSettled s.up.yoke s <|
    if cause.val = 0 then ((s.fire 0x0C01 0 7).yokeFail 0 0x0C01).healthFail else s.yokeFail cause.val 0

/-- COLLAR_FAILURE (R417): 0x0C02 or 0x0C03; the collar is absent until its warm start has run. -/
def execCollarFailure (lockstep : Bool) (s : State) : Host.Outcome State Fault Refusal :=
  whenSettled s.up.collar s ((s.collarReset.fire (if lockstep then 0x0C02 else 0x0C03) 0 8).bump64 0x2B00 8)

/-- COLLAR_ABSENT_TIMEOUT (R417): 2 s after its first reset; 0x0C04 and an orderly shutdown with cause 3. -/
def execCollarAbsentTimeout (s : State) : Host.Outcome State Fault Refusal :=
  match s.up.absentAt with
  | none => .next s
  | some t =>
    whenSettled ((s.domainOf 0).st == .on) s (((s.advanceTo (t + 2 * psS)).fire 0x0C04 0 9).orderlyShutdown 3 0x0C04)

/-! ### Restore, replacement, log (R418 to R423) -/

/-- Effect of a write to 0x2B30:01: the restore takes effect at the next boundary; without boundaries, at once (log 14). -/
def fxGridRestore (v : Nat) (failed : List Nat) : Effect := fun x =>
  if 1 < v then .error outOfRange
  else if v = 0 then .ok x
  else if !x.liveJobs.isEmpty then .error badState
  else
    .ok { x with up := { x.up with restore := some (failed, false) } }.atOnce

/-- GRID_RESTORE (R418); `failed` names the panels that will fail their test. -/
def execGridRestore (path : Path) (v : Byte) (failed : List PanelId) (s : State) : Host.Outcome State Fault Refusal :=
  s.odWriteSettled path 0x2B30 1 (fxGridRestore v.toNat (failed.map fun p => p.val))

/-- Effect of a write to 0x2B50:04: nothing while a cause holds (log 54). -/
def fxReplacementClear (v : Nat) : Effect := fun x =>
  if 1 < v then .error outOfRange
  else if v = 1 ∧ x.replaceCauses = 0 then .ok ({ x with replacement := false }.putCell 0x2B50 3 0)
  else .ok x

/-- REPLACEMENT_CLEAR (R419). -/
def execReplacementClear (path : Path) (v : Byte) (s : State) : Host.Outcome State Fault Refusal :=
  s.odWriteSettled path 0x2B50 4 (fxReplacementClear v.toNat)

/-- Effect of a write to 0x2B12: the signature "clea". -/
def fxLogClear (v : Nat) : Effect := fun x =>
  if v = 0x61656C63 then .ok { x with log := .empty, logMade := 0 } else .error 0x08000020

/-- FAULT_LOG_CLEAR (R423). -/
def execFaultLogClear (path : Path) (v : W32) (s : State) : Host.Outcome State Fault Refusal :=
  s.odWrite path 0x2B12 0 (fxLogClear v.toNat)

/-- Effect of a write to 0x2B02:01. -/
def fxDetectorQuery (v : Nat) : Effect := fun x =>
  let r := x.detOf v
  .ok (x.putCells 0x2B02 [(1, v), (2, r.count), (3, r.last), (4, r.injected)])

/-- DETECTOR_QUERY (R423). -/
def execDetectorQuery (path : Path) (v : W16) (s : State) : Host.Outcome State Fault Refusal :=
  s.odWrite path 0x2B02 1 (fxDetectorQuery v.toNat)

/-- Effect of a write to 0x2B11:01. -/
def fxLogQuery (v : Nat) : Effect := fun x =>
  match x.log.find v with
  | some e => .ok (x.putCells 0x2B11 [(1, v), (2, e.stamp), (3, e.record)])
  | none => .ok (x.putCells 0x2B11 [(1, v), (2, 0), (3, 0)])

/-- LOG_QUERY (R423). -/
def execLogQuery (path : Path) (v : Byte) (s : State) : Host.Outcome State Fault Refusal :=
  s.odWrite path 0x2B11 1 (fxLogQuery v.toNat)

end Sys2Proof.Machine
end

