-- ==== Sys2Proof/Machine/Numerics.lean ====
section
/-! DEFINITION. The arithmetic of a tile: column sums, saturation, FP8, BF16 and FP32 values as exact scaled integers with one
rounding, complex passes, requantising, and the comparisons of compare-and-count (R97 to R103, R107, R140). -/

namespace Sys2Proof.Machine

/-! ### Integers (R97, R98) -/

/-- An INT32 addition that saturates: the word, and whether it saturated. -/
def satAdd (x s : Int) : Int × Bool :=
  let v := x + s
  if v > 2147483647 then (2147483647, true) else if v < -2147483648 then (-2147483648, true) else (v, false)

/-- The exact sum of the products of two lists. -/
def dot (a b : List Int) : Int := (List.zipWith (· * ·) a b).sum

/-! ### Floating-point values (R99 to R101) -/

/-- A floating-point value: NaN, an infinity, or a sign with a magnitude in units of 2^−150 (operands) or 2^−300 (products and
sums). -/
inductive Fp where
  | nan
  | inf (neg : Bool)
  | fin (neg : Bool) (mag : Nat)
  deriving DecidableEq, Repr

/-- An FP32 word. -/
def fp32Of (v : Nat) : Fp :=
  let e := bits v 30 23
  let f := bits v 22 0
  let neg := bit v 31
  if e = 255 then (if f = 0 then .inf neg else .nan)
  else .fin neg (if e = 0 then f * 2 else (2 ^ 23 + f) * 2 ^ e)

/-- An FP8 byte: E5M2 or E4M3 of the OCP specification. -/
def fp8Of (e5 : Bool) (v : Nat) : Fp :=
  let neg := bit v 7
  if e5 then
    let e := bits v 6 2
    let f := bits v 1 0
    if e = 31 then (if f = 0 then .inf neg else .nan)
    else .fin neg (if e = 0 then f * 2 ^ 134 else (4 + f) * 2 ^ (e + 133))
  else
    let e := bits v 6 3
    let f := bits v 2 0
    if e = 15 ∧ f = 7 then .nan
    else .fin neg (if e = 0 then f * 2 ^ 141 else (8 + f) * 2 ^ (e + 140))

/-- A BF16 value: the high half of an FP32 word. -/
def bf16Of (v : Nat) : Fp := fp32Of (v % 65536 * 65536)

/-- The two parts of a BF16 value (R101): H = (−1)^s Mh 2^(E−130) and L = (−1)^s Ml 2^(E−134), E at least 1. -/
def bf16Part (v : Nat) (low : Bool) : Fp :=
  let e := bits v 14 7
  let m := if e = 0 then bits v 6 0 else 128 + bits v 6 0
  let x := max e 1
  .fin (bit v 15) (if low then m % 16 * 2 ^ (x + 16) else m / 16 * 2 ^ (x + 20))

def Fp.neg : Fp → Bool
  | .nan => false
  | .inf n => n
  | .fin n _ => n
def Fp.isZero : Fp → Bool
  | .fin _ 0 => true
  | _ => false
def Fp.special : Fp → Bool
  | .fin _ _ => false
  | _ => true

/-- The product of two operands: a NaN operand or infinity times zero gives NaN (R100). -/
def Fp.mul (a b : Fp) : Fp :=
  match a, b with
  | .nan, _ => .nan
  | _, .nan => .nan
  | .fin n x, .fin m y => .fin (n != m) (x * y)
  | x, y => if x.isZero || y.isZero then .nan else .inf (x.neg != y.neg)

/-- A format: significand bits, the exponent of its least unit above −300. -/
structure Fmt where
  p : Nat
  k0 : Nat
  deriving DecidableEq, Repr

def fmt32 : Fmt := ⟨24, 151⟩
def fmtE4 : Fmt := ⟨4, 291⟩
def fmtE5 : Fmt := ⟨3, 284⟩
def fmtB16 : Fmt := ⟨8, 167⟩

/-- The code, without sign, of a magnitude in units of 2^−300 rounded to nearest even in a format whose exponents do not
end. -/
def Fmt.round (f : Fmt) (mag : Nat) : Nat :=
  if mag = 0 then 0 else
    let k := max f.k0 (Nat.log2 mag + 1 - f.p)
    let q := mag / 2 ^ k
    let r := mag % 2 ^ k
    let q1 := if 2 ^ k < 2 * r ∨ (2 * r = 2 ^ k ∧ q % 2 = 1) then q + 1 else q
    (k - f.k0) * 2 ^ (f.p - 1) + q1

/-- FP32 words of the specials. -/
def nan32 : Nat := 0x7FC00000
def inf32 : Nat := 0x7F800000

/-- The exact sum of the products and the P word, rounded once to FP32; and whether the line's flag is set, by a NaN, an infinite
product or an overflow (R99, R100). The P word is one of the terms (R99), so a NaN in it or an infinity against one of the other
sign gives NaN (log 24); an infinite one beside finite products stays as it is and sets no flag. -/
def fpSum (terms : List Fp) (pword : Nat) : Nat × Bool :=
  let pw : Fp := match fp32Of pword with
    | .fin n m => .fin n (m * 2 ^ 150)
    | x => x
  let all := terms ++ [pw]
  let infs := all.filter fun x => match x with
    | .inf _ => true
    | _ => false
  if all.contains .nan ∨ (infs.contains (.inf true) ∧ infs.contains (.inf false)) then (nan32, true)
  else match infs with
    | x :: _ => (inf32 + flag x.neg * 2 ^ 31, terms.any fun y => match y with
        | .inf _ => true
        | _ => false)
    | [] =>
      let sum : Int := (all.map fun x => match x with
        | .fin true m => -(m : Int)
        | .fin false m => (m : Int)
        | _ => 0).sum
      if sum = 0 then (flag (all.all Fp.neg) * 2 ^ 31, false)
      else
        let c := fmt32.round sum.natAbs
        let sg := flag (decide (sum < 0)) * 2 ^ 31
        if inf32 ≤ c then (inf32 + sg, true) else (c + sg, false)

/-- The four passes of a BF16 column (R101): specials are resolved in the first and contribute +0 later. -/
def bf16Pass (ws as : List Nat) (pass pword : Nat) : Nat × Bool :=
  fpSum (List.zipWith (fun w a =>
    let x := bf16Of w
    let y := bf16Of a
    if x.special || y.special then (if pass = 0 then x.mul y else .fin false 0)
    else (bf16Part w (decide (2 ≤ pass))).mul (bf16Part a (pass % 2 == 1))) ws as) pword

/-! ### One column (R97, R99, R101 to R103) -/

/-- An instruction's number format fields. -/
structure MacFmt where
  fmt : Nat
  au : Bool
  we5 : Bool
  ae5 : Bool
  acc : Bool
  deriving DecidableEq, Repr

/-- The weights of column `j` in a plane, as raw codes in input order (R88). -/
def weightsOf (fmt : Nat) (plane : List Byte) (j : Nat) : List Nat :=
  let b := fun i => (plane.getD i 0).toNat
  match fmt with
  | 1 => (List.range 64).map fun i => let v := b (32 * (i / 2) + j); if i % 2 = 0 then v % 16 else v / 16
  | 3 => (List.range 32).map fun i => b (64 * i + 2 * j) + 256 * b (64 * i + 2 * j + 1)
  | 4 | 5 => (List.range 32).map fun i => b (64 * i + 2 * j) + 256 * b (64 * i + 2 * j + 1)
  | _ => (List.range 32).map fun i => b (32 * i + j)

/-- The activations of a vector, as raw codes in input order (R89). Both the INT4W pairing and the plain fill tag their entries 8-bit;
an entry filled the other way gives INT8 and FP8 its low byte, and INT4W a second activation of 0 (DESIGN CHOICE, log 87). -/
def actsOf (fmt : Nat) (es : List Nat) : List Nat :=
  if fmt = 1 then es.flatMap fun e => [e % 256, e / 256 % 256] else if fmt = 0 ∨ fmt = 2 then es.map (· % 256) else es

/-- Signed or unsigned 8-bit values. -/
def int8s (unsigned_ : Bool) (l : List Nat) : List Int := l.map fun v => if unsigned_ then (v % 256 : Nat) else signed 8 v

/-- One column of one vector: the old words (real, imaginary) give new ones, each with whether it set its line's flag and
whether an INT32 addition saturated. -/
structure ColOut where
  re : Nat
  im : Nat
  reFlag : Bool
  imFlag : Bool
  sat : Bool
  deriving DecidableEq, Repr

/-- The column's result (R97, R99, R101 to R103). `re` and `im` are the P words before it. -/
def column (m : MacFmt) (ws as : List Nat) (re im : Nat) : ColOut :=
  let w32 := fun (i : Int) => unsigned 32 i
  if m.fmt = 0 ∨ m.fmt = 1 then
    let sum := dot (ws.map fun w => signed (if m.fmt = 1 then 4 else 8) w) (int8s m.au as)
    if m.acc then let (v, f) := satAdd (signed 32 re) sum; ⟨w32 v, im, f, false, f⟩
    else ⟨w32 sum, im, false, false, false⟩
  else if m.fmt = 2 then
    let r := fpSum (List.zipWith (fun w a => (fp8Of m.we5 w).mul (fp8Of m.ae5 a)) ws as) (if m.acc then re else 0)
    ⟨r.1, im, r.2, false, false⟩
  else if m.fmt = 3 then
    let r := (List.range 4).foldl (fun (x : Nat × Bool) k => let y := bf16Pass ws as k x.1; (y.1, x.2 || y.2))
      ((if m.acc then re else 0), false)
    ⟨r.1, im, r.2, false, false⟩
  else
    let c := ws.map fun w => signed 8 w
    let d := ws.map fun w => signed 8 (w / 256)
    let a := as.map fun v => signed 8 v
    let b := as.map fun v => signed 8 (v / 256)
    if m.fmt = 5 then
      let (r1, f1) := if m.acc then satAdd (signed 32 re) (dot a c) else (dot a c, false)
      let (r2, f2) := satAdd r1 (-(dot b d))
      let (i1, g1) := if m.acc then satAdd (signed 32 im) (dot a d) else (dot a d, false)
      let (i2, g2) := satAdd i1 (dot b c)
      ⟨w32 r2, w32 i2, f1 || f2, g1 || g2, f1 || f2 || g1 || g2⟩
    else
      let s1 := dot c (List.zipWith (· + ·) a b)
      let s2 := dot b (List.zipWith (· + ·) c d)
      let s3 := dot a (List.zipWith (· - ·) d c)
      let (r1, f1) := if m.acc then satAdd (signed 32 re) s1 else (s1, false)
      let (i1, g1) := if m.acc then satAdd (signed 32 im) s1 else (s1, false)
      let (r2, f2) := satAdd r1 (-s2)
      let (i2, g2) := satAdd i1 s3
      ⟨w32 r2, w32 i2, f1 || f2, g1 || g2, f1 || f2 || g1 || g2⟩

/-! ### PQNT (R107) -/

/-- QCFG's fields. -/
structure Qcfg where
  qm : Int
  qs : Nat
  qz : Int
  u : Bool
  mode : Nat
  fpsat : Bool
  deriving DecidableEq, Repr

def qcfgOf (qm cfg : Nat) : Qcfg :=
  { qm := signed 32 qm, qs := bits cfg 5 0, qz := if bit cfg 16 then (bits cfg 15 8 : Nat) else signed 8 (bits cfg 15 8)
    u := bit cfg 16, mode := bits cfg 19 17, fpsat := bit cfg 20 }

/-- An INT32 word requantised, and whether it was clamped. -/
def Qcfg.int (q : Qcfg) (w : Nat) : Nat × Bool :=
  let t0 := signed 32 w * q.qm
  let t1 := if q.qs = 0 then t0 else (t0 + 2 ^ (q.qs - 1)) / 2 ^ q.qs
  let t := t1 + q.qz
  let lo : Int := if q.u then 0 else -128
  let hi : Int := if q.u then 255 else 127
  let y := max lo (min hi t)
  (unsigned 8 y, y != t)

/-- An FP32 word in a target format: its code, or its overflow (R107). `top` is the largest finite code, `ovf` what an overflow gives
without FPSAT. An infinity stays one where the format has it, with FPSAT or not, and sets no QSTAT; for E4M3, which has none, it is
an overflow (DESIGN CHOICE, log 88). -/
def Qcfg.fp (q : Qcfg) (f : Fmt) (top ovf nan sign : Nat) (infOk : Bool) (w : Nat) : Nat × Bool :=
  match fp32Of w with
  | .nan => (nan, false)
  | .inf n =>
    if infOk then (ovf + flag n * sign, false)
    else (if q.fpsat then top + flag n * sign else ovf, true)
  | .fin n m =>
    let c := f.round (m * 2 ^ 150)
    if top < c then (if q.fpsat then top + flag n * sign else if infOk then ovf + flag n * sign else ovf, true)
    else (c + flag n * sign, false)

/-- One word of PQNT, by mode: the code, and whether it was clamped or overflowed. E5M2's and BF16's canonical NaN are read
as the quiet NaNs with no other payload bit (log 24). -/
def Qcfg.word (q : Qcfg) (w : Nat) : Nat × Bool :=
  if q.mode = 0 then q.int w
  else if q.mode = 1 then q.fp fmtE4 0x7E 0x7F 0x7F 0x80 false w
  else if q.mode = 2 then q.fp fmtE5 0x7B 0x7C 0x7E 0x80 true w
  else q.fp fmtB16 0x7F7F 0x7F80 0x7FC0 0x8000 true w

/-! ### Compare-and-count (R140) -/

/-- An element or threshold as a comparable value: none for a NaN. Infinities are taken beyond every finite value. -/
def Fp.key : Fp → Option Int
  | .nan => none
  | .inf n => some (if n then -(2 ^ 600) else 2 ^ 600)
  | .fin n m => some (if n then -(m : Int) else m)

/-- The comparable value of an element of a type. -/
def ccElem (etype v : Nat) : Option Int :=
  match etype with
  | 0 => some (signed 8 v)
  | 1 => some (signed 32 v)
  | 2 => (fp8Of false v).key
  | 3 => (fp8Of true v).key
  | _ => (fp32Of v).key
/-- The comparable value of a threshold. -/
def ccThresh (etype v : Nat) : Option Int := if etype ≤ 1 then some (signed 32 v) else (fp32Of v).key

/-- Whether an element matches. -/
def ccMatch (etype cmp v t1 t2 : Nat) : Bool :=
  match ccElem etype v, ccThresh etype t1 with
  | some x, some a =>
    match cmp with
    | 0 => x == a
    | 1 => decide (a ≤ x)
    | 2 => decide (a < x)
    | _ => match ccThresh etype t2 with
      | some b => decide (a ≤ x) && decide (x < b)
      | none => false
  | _, _ => false

end Sys2Proof.Machine
end

