-- ==== Sys2Proof/Machine/Matrix.lean ====
section
/-! DEFINITION. Commands of the matrix sequencer, of task end and of tile supervision (03, 04): issue, retirement, hang,
heartbeat, task end, register side effects, queries. -/

namespace Sys2Proof.Machine

/-! ### The matrix instruction (R88, R93 to R96) -/

def instOp (w : Nat) : Nat := bits w 3 0
def instFmt (w : Nat) : Nat := bits w 6 4
def instV (w : Nat) : Nat := bits w 15 12 + 1
def instTag (w : Nat) : Nat := bits w 55 48
/-- Format class of a block (R88): 0 8-bit, 1 INT4W, 2 BF16, 3 complex. -/
def classOf (fmt : Nat) : Nat :=
  match fmt with
  | 0 | 2 => 0
  | 1 => 1
  | 3 => 2
  | _ => 3
/-- W lines of a block. -/
def blockLines (fmt : Nat) : Nat := if classOf fmt < 2 then 16 else 32
/-- A format takes 16-bit entries. -/
def wideFmt (fmt : Nat) : Bool := decide (3 ≤ fmt)

/-- A matrix instruction that R96 calls a program fault, in a task whose P window begins at line `base`: PDST is relative to it
(R124). -/
def instBad (base w : Nat) : Bool :=
  let op := instOp w
  let f := instFmt w
  op != 0 && (decide (3 ≤ op) || decide (6 ≤ f) || bits w 31 28 != 0 || bits w 47 46 != 0 || bits w 63 57 != 0
    || (bit w 7 && f != 0 && f != 1) || ((bit w 8 || bit w 9) && f != 2) || (op == 2 && bit w 16)
    || (op == 1 && decide (2048 < base + bits w 27 17 + instV w * resultLines f)))

/-- A program fault (R94): the task ends with BAD_COMMAND and detector 0x0104. -/
def State.programFault (s : State) (k : Nat) : State := s.taskFault k .badCommand 0x0104 none

/-- The plane of a number. -/
def Tile.plane (t : Tile) (n : Nat) : Option Plane := if n = 0 then t.plane0 else t.plane1
def Tile.setPlane (t : Tile) (n : Nat) (p : Plane) : Tile :=
  if n = 0 then { t with plane0 := some p } else { t with plane1 := some p }

/-- A block is read from W and loaded into a plane; where a line ends the task, the plane is left. -/
def State.loadPlane (s : State) (k w plane : Nat) : State :=
  let f := instFmt w
  match State.readLines k .w 3 ((s.tileOf k).span .w (bits w 45 32) (blockLines f)) s with
  | (s1, some b) => s1.setTile k ((s1.tileOf k).setPlane plane ⟨classOf f, b⟩)
  | (s1, none) => s1

/-- The head instruction leaves the queue and is in flight. -/
def State.issueHead (s : State) (k : Nat) (f : Flight) (feeders : List FeedVec) : State :=
  let t := s.tileOf k
  (s.setTile k { t with queue := t.queue.drop 1, flights := t.flights ++ [f], feeders := feeders }).tileBump k 0x40 1

/-- MATRIX_ISSUE (R91): the head issues once V vectors stand in the feeders; waiting for them counts in FEED_STALL. A bad
encoding, a width tag or plane that does not fit is a program fault (R94, R96). -/
def execMatrixIssue (t : PhysTile) (s : State) : Host.Outcome State Fault Refusal :=
  let k := tileKey t
  let x := s.tileOf k
  match x.queue with
  | [] => .next s
  | w :: _ =>
    let f := instFmt w
    let vs := x.feeders.take (instV w)
    let wp := bits w 11 11
    whenDue (s.taskRuns k) s <|
      if instOp w = 0 then s.issueHead k ⟨w, [], []⟩ x.feeders
      else if instBad x.pBase w then s.programFault k
      else if instOp w = 2 then (s.issueHead k ⟨w, [], []⟩ x.feeders).loadPlane k w wp
      else if vs.length < instV w then s.tileBump k 0x44 1
      else match x.plane wp with
        | none => s.programFault k
        | some p =>
          if vs.any (fun v => v.wide != wideFmt f) ∨ p.cls ≠ classOf f then s.programFault k
          else
            let s1 := s.issueHead k ⟨w, vs, p.bytes⟩ (x.feeders.drop (instV w))
            if bit w 16 then s1.loadPlane k w (1 - wp) else s1

/-! ### Retirement (R93, R95, R98) -/

/-- The number format fields of an instruction. -/
def macFmt (w : Nat) : MacFmt := ⟨instFmt w, bit w 7, bit w 8, bit w 9, bit w 10⟩

/-- The 16 words of a line's bytes. -/
def wordsOfLine (b : List Byte) : List Nat := (List.range 16).map fun i => leNat ((b.drop (4 * i)).take 4)

/-- A bound violation of the array's on a P line. When the task had no fault before this cycle, VIOL_ADDR records it, also after a
cold read of the same cycle: its BAD_COMMAND is the status (R22, R138). -/
def State.destFault (s : State) (k line : Nat) (off_ clean : Bool) : State :=
  let s1 := s.boundFault k .p line 3 off_
  if clean ∧ (s1.tileOf k).task.isSome then
    s1.setTile k { s1.tileOf k with viol := violWord ((storeBase .p + line * 64) % 2 ^ 22) (if off_ then 2 else 1) 3 }
  else s1

/-- The store lines of a vector's result that can be written, in order, up to the first that ends the task: what the checks
and the read half of an accumulation leave. `clean` says that the task had no fault before this vector. -/
def State.destLines (k : Nat) (acc clean : Bool) : List Nat → State → State × List Nat × Bool
  | [], s => (s, [], true)
  | r :: rs, s =>
    let t := s.tileOf k
    match t.taskLine .p r with
    | none => (s.destFault k (t.pBase + r) false clean, [], false)
    | some l =>
      if t.lineOff .p l then (s.destFault k l true clean, [], false)
      else
        let s1 := if acc = false then s else if t.isWritten .p l then s.storeEcc k .p (l * 64) 64 else s.coldRead k .p l 3
        let (s2, ls, ok) := State.destLines k acc clean rs s1
        (s2, l :: ls, ok)

/-- The 32 columns of a vector, from the old lines' words. -/
def vectorColumns (m : MacFmt) (plane : List Byte) (v : FeedVec) (old : List Nat) : List ColOut :=
  let as := actsOf m.fmt v.entries
  (List.range 32).map fun j => column m (weightsOf m.fmt plane j) as (old.getD j 0) (old.getD (32 + j) 0)

/-- Words and flag of line `n` of a vector's result. -/
def resultLine (cs : List ColOut) (n : Nat) : List Byte × Bool :=
  let part := (cs.drop (n % 2 * 16)).take 16
  if n < 2 then (part.flatMap fun c => natLe 4 c.re, part.any fun c => c.reFlag)
  else (part.flatMap fun c => natLe 4 c.im, part.any fun c => c.imFlag)

/-- A line of a result is written: an overwrite sets the line's flag to its own outcome, an addition keeps it sticky. -/
def State.putResult (s : State) (k l : Nat) (acc : Bool) (r : List Byte × Bool) : State :=
  let old := (s.tileOf k).sat.get false l && (s.tileOf k).isWritten .p l
  let s1 := s.storeWrite k .p (l * 64) r.1
  let t := s1.tileOf k
  let f := r.2 || (acc && old)
  s1.setTile k { t with sat := if f then t.sat.set l true else t.sat.erase l }

/-- One vector's result is accumulated; answers whether an addition saturated and whether to go on. -/
def State.macVector (s : State) (k : Nat) (f : Flight) (i : Nat) (v : FeedVec) : State × Bool × Bool :=
  let m := macFmt f.word
  let rl := resultLines m.fmt
  let rs := (List.range rl).map fun n => bits f.word 27 17 + i * rl + n
  let (s1, ls, ok) := State.destLines k m.acc (!bit (s.tileOf k).viol 31) rs s
  let t := s1.tileOf k
  let cs := vectorColumns m f.plane v (ls.flatMap fun l => wordsOfLine (t.readBytes .p (l * 64) 64))
  let s2 := (ls.zipIdx).foldl (fun (x : State) (l : Nat × Nat) => x.putResult k l.1 m.acc (resultLine cs l.2)) s1
  (s2, cs.any fun c => c.sat, ok)

/-- The vectors of an instruction in order, until one ends the task. -/
def State.macAll (k : Nat) (f : Flight) : List (FeedVec × Nat) → State → State × Bool
  | [], s => (s, false)
  | (v, i) :: r, s =>
    let (s1, sat, ok) := s.macVector k f i v
    if ok then
      let (s2, more) := State.macAll k f r s1
      (s2, sat || more)
    else (s1, sat)

/-- A retire event reaches both prep cores (R95, bit RET). -/
def Tile.retireEvent (t : Tile) : Tile :=
  { t with core0 := { t.core0 with event := true }, core1 := { t.core1 with event := true } }

/-- What the retirement of an instruction reports: its TAG, and the retire event where it asks for one. A NOP ignores every
field (R95, R96). -/
def Tile.retired (t : Tile) (w : Nat) : Tile :=
  if instOp w = 0 then t
  else
    let u := t.setReg 0x14 (instTag w)
    if bit w 56 then u.retireEvent else u

/-- INSTRUCTION_RETIRE (R93): the oldest issued instruction retires. Its results stand in P, its lines are free, its TAG is
reported and its retire event raised; a saturation counts once and fires 0x0105 (R98). -/
def execInstructionRetire (t : PhysTile) (s : State) : Host.Outcome State Fault Refusal :=
  let k := tileKey t
  match (s.tileOf k).flights with
  | [] => .next s
  | f :: _ =>
    whenDue (s.tileRuns k) s <|
      let (s1, sat) := if instOp f.word = 1 then State.macAll k f f.vecs.zipIdx s else (s, false)
      let x := s1.tileOf k
      let s2 := s1.setTile k (Tile.retired { x with flights := x.flights.drop 1 } f.word)
      if sat then (s2.tileBump k 0x4C 1).fire 0x0105 (s.wafer.tileUnit k) 0 else s2

/-! ### Hang and heartbeat (R114, R115, R366, R411) -/

/-- The detectors 0x0101 and 0x0102 watch a tile: it is not fenced, and its panel is neither in a reset nor stopped. -/
def State.watched (s : State) (k : Nat) : Bool :=
  let p := s.panelPower (keyPanel k)
  !s.fencedAt k && !p.stopped && p.resetAt.isNone

/-- A tile fails by a detector: it fires, and the tile is suspect (R401, R404). -/
def State.tileFails (s : State) (k d : Nat) : State := (s.fire d (s.wafer.tileUnit k) 0).suspect (.tile k) d

/-- The head instruction meets both conditions of R91. -/
def Tile.headReady (t : Tile) : Bool :=
  match t.queue with
  | [] => false
  | w :: _ => instOp w != 1 || decide (instV w ≤ t.feeders.length)

/-- ISSUE_HANG (R115): a ready head has not begun, or an issued instruction has not retired, in time: detector 0x0102. -/
def execIssueHang (t : PhysTile) (s : State) : Host.Outcome State Fault Refusal :=
  let k := tileKey t
  whenDue (s.watched k && ((s.tileOf k).headReady || !(s.tileOf k).flights.isEmpty)) s (s.tileFails k 0x0102)

/-- TILE_HEARTBEAT_TIMEOUT (R115): no toggle has come for the periods of 0x2202: detector 0x0101. -/
def execTileHeartbeatTimeout (t : PhysTile) (s : State) : Host.Outcome State Fault Refusal :=
  let k := tileKey t
  whenDue (s.watched k && s.up.yoke) s (s.tileFails k 0x0101)

/-- ECC_WRITEBACK (R119): the oldest corrected word is written back, and its single error is gone. -/
def execEccWriteback (t : PhysTile) (s : State) : Host.Outcome State Fault Refusal :=
  let k := tileKey t
  let x := s.tileOf k
  match x.writeback with
  | [] => .next s
  | w :: r =>
    whenDue (s.tileRuns k) s
      (s.setTile k { x with writeback := r, bad := if x.bad.find w = some false then x.bad.erase w else x.bad })

/-! ### Task end (R109, R138, R194, R202) -/

/-- A status by its code; others are BAD_COMMAND (R109). -/
def tendStatus (v : Nat) : Status := if v = 0 then .ok else if v = 8 then .deadlineMissed else .badCommand

/-- The status with which a task ends, once it does: that of its fault, or that of its TEND with queue and array empty. -/
def Tile.endStatus (t : Tile) : Option (Status × Nat) :=
  match t.task with
  | none => none
  | some q =>
    if t.flights.isEmpty = false then none else
      match q.failed, q.tend with
      | some st, _ => some (st, q.det)
      | none, some v => if t.queue.isEmpty then some (tendStatus v, 0) else none
      | none, none => none

/-- TASK_END (R109): both cores halt, the task's waiting records go (R229), and the TSTART loses one part. The last part
carries what a suspect unit of the region will give (R404). -/
def execTaskEnd (t : PhysTile) (s : State) : Host.Outcome State Fault Refusal :=
  let k := tileKey t
  let x := s.tileOf k
  match x.task, x.endStatus with
  | some q, some (st, det) =>
    whenDue (s.tileRuns k) s <|
      let s1 := (s.setTile k x.taskOver).count 64 0x2600 3 x.recordsLost
      let keys := match s.entryOf q.list q.idx with
        | some e => if e.parts = 1 then s.wafer.regionKeys (regionFrom (e.field 4 2) (e.field 6 1) (e.field 7 1)) else [k]
        | none => [k]
      let w := s.suspectStatus q.job keys []
      if st = .ok ∧ w ≠ .ok then s1.partDone q.list q.idx w (s.suspectTouchDet keys [])
      else s1.partDone q.list q.idx st det
  | _, _ => .next s

/-! ### Register side effects (R116, R130, R143) -/

/-- REGION_ADVANCE (R130): a core writes CRn_ADV. -/
def execRegionAdvance (t : PhysTile) (core : Core) (region : Fin 4) (v : W32) (s : State) :
    Host.Outcome State Fault Refusal :=
  let k := tileKey t
  whenDue (s.coreRuns k core) s (s.regionAdv k core region.val v.toNat)

/-- QSTAT_CLEAR (R116): a one written to QSTAT's bit clears it. -/
def execQstatClear (t : PhysTile) (v : W32) (s : State) : Host.Outcome State Fault Refusal :=
  let k := tileKey t
  whenDue (!s.fencedAt k) s (s.setTile k ((s.tileOf k).regWrite 0x28 v.toNat))

/-- TILE_COUNTER_READ_CLEAR (R116, R143): a read of an RC register leaves it zero. -/
def execTileCounterReadClear (t : PhysTile) (off : W16) (s : State) : Host.Outcome State Fault Refusal :=
  let k := tileKey t
  whenDue (!s.fencedAt k && regReadClears off.toNat && off.toNat % 4 == 0) s
    (s.setTile k ((s.tileOf k).regRead off.toNat))

/-! ### Queries (R117, R144) -/

/-- Effect of tileQuery once its access has passed checks 1 to 5. -/
def fxTileQuery (v : W16) : Effect := fun x =>
    let n := v.toNat
    if bit n 7 || bit n 15 then .error outOfRange
    else .ok <| match x.wafer.phys (tileLx n) (tileLy n) with
      | none => x.putCells 0x2220 [(1, n), (2, 0), (3, 0)]
      | some k =>
        let t := x.tileOf k
        x.putCells 0x2220 [(1, n), (2, x.tileState k + t.queue.length * 4 + t.reg 0x14 * 256 + 2 ^ 31),
          (3, t.reg 0x50 + t.reg 0x54 * 2 ^ 32)]

/-- TILE_QUERY (R117): state, queue depth, last TAG and trap of a logical tile; zeros with VALID clear outside the grid. -/
def execTileQuery (path : Path) (v : W16) (s : State) : Host.Outcome State Fault Refusal :=
  s.odWrite path 0x2220 1 (fxTileQuery v)

/-- Effect of storeQuery once its access has passed checks 1 to 5. -/
def fxStoreQuery (v : W16) : Effect := fun x =>
    let n := v.toNat
    if bit n 7 || bit n 15 then .error outOfRange
    else .ok <| match x.wafer.phys (tileLx n) (tileLy n) with
      | none => x.putCells 0x2310 [(1, n), (2, 0), (3, 0), (4, 0), (5, 0)]
      | some k =>
        let t := x.tileOf k
        x.putCells 0x2310 [(1, n),
          (2, t.wBase + t.wLimit * 2 ^ 16 + t.aBase * 2 ^ 32 + t.aLimit * 2 ^ 48),
          (3, t.pBase + t.pLimit * 2 ^ 16 + t.policy * 2 ^ 32 + 2 ^ 63),
          (4, t.pdW + t.pdA * 2 ^ 16 + t.pdP * 2 ^ 32), (5, t.viol + t.viol2 * 2 ^ 32)]

/-- STORE_QUERY (R144): windows, policy, masks and first fault of a logical tile. -/
def execStoreQuery (path : Path) (v : W16) (s : State) : Host.Outcome State Fault Refusal :=
  s.odWrite path 0x2310 1 (fxStoreQuery v)

end Sys2Proof.Machine
end

