-- ==== Sys2Proof/Machine/Remote.lean ====
section
/-! DEFINITION. Commands of the REMOTE engine (08): connections, work requests, tag counters, triggered work, queries. -/

namespace Sys2Proof.Machine

/-! ### Entry fields and conditions (R278, R279) -/

def EntryRun.conn (e : EntryRun) : Nat := e.field 4 2
def EntryRun.rflags (e : EntryRun) : Nat := e.field 6 1
def EntryRun.loc (e : EntryRun) : Nat := e.field 8 8
def EntryRun.rem (e : EntryRun) : Nat := e.field 0x10 8
def EntryRun.rlen (e : EntryRun) : Nat := e.field 0x18 4
def EntryRun.lctr (e : EntryRun) : Nat := e.field 0x1E 2
def EntryRun.tctr (e : EntryRun) : Nat := e.field 0x20 2
def EntryRun.tslot (e : EntryRun) : Nat := e.field 0x22 2
def EntryRun.thresh (e : EntryRun) : Nat := e.field 0x24 4
def EntryRun.op1 (e : EntryRun) : Nat := e.field 0x28 8
def EntryRun.op2 (e : EntryRun) : Nat := e.field 0x30 8
/-- TAGGED, TRIGGERED, LCOUNT. -/
def EntryRun.isTagged (e : EntryRun) : Bool := bit e.rflags 1
def EntryRun.isTriggered (e : EntryRun) : Bool := bit e.rflags 2
def EntryRun.isCounted (e : EntryRun) : Bool := bit e.rflags 3

/-- The conditions on a connection that an operation names: it is OPEN and the job's. -/
def State.connConds (s : State) (id j : Nat) : List Status :=
  match s.conns.find id with
  | none => [.badCommand]
  | some c => cond (c.st != .opened) .badCommand ++ cond (c.job != j) .keyRejected

/-- The conditions on a counter in use: it exists, is not FREE, and is the job's. -/
def State.ctrConds (s : State) (k j : Nat) (used : Bool) : List Status :=
  if used = false then [] else
    cond (decide (8192 ≤ k)) .badCommand ++ match s.ctrs.find k with
      | none => [.badCommand]
      | some c => cond (c.job != j) .keyRejected

/-- The conditions that the flags of a work request bring. -/
def State.flagConds (s : State) (e : EntryRun) (j allowed : Nat) : List Status :=
  cond ((List.range 8).any fun i => bit e.rflags i && !bit allowed i) .badCommand
    ++ cond (e.isTagged && decide (8192 ≤ e.field 0x1C 2)) .badCommand
    ++ s.ctrConds e.lctr j e.isCounted ++ s.ctrConds e.tctr j e.isTriggered

/-- The conditions on LOCAL, `write` where the operation stores there (R221). -/
def State.localConds (s : State) (a n j : Nat) (write : Bool) : List Status :=
  s.copyConds a n j ++ cond (write && s.copyWindow a n) .badCommand

/-- LEN is 1 byte to 16 MiB. -/
def lenBad (n : Nat) : Bool := n == 0 || decide (2 ^ 24 < n)

/-- Work-request contexts in use of a connection (R279). -/
def State.contextsOf (s : State) (id : Nat) : Nat :=
  (s.wrs.vals.filter fun w => w.conn == id && w.op != 11 && (s.entryOf w.list w.idx).isSome).length
    + match s.conns.find id with
      | some c => (c.recvs.filter fun r => !r.done).length
      | none => 0
/-- A context is free for a connection, or, for TREADY, for the module. -/
def State.contextFree (s : State) (id : Option Nat) : Bool :=
  decide (s.contexts < 131072) && match id with
    | some c => decide (s.contextsOf c < 256)
    | none => true

/-- An entry that needs a context waits for one (R279); then its conditions decide. -/
def State.acceptWork (s : State) (id idx op : Nat) (conn : EntryRun → Option Nat) (conds : ListRun → EntryRun → List Status)
    (eff : ListRun → EntryRun → State → State) : Host.Outcome State Fault Refusal :=
  match s.handed id idx 2 op with
  | none => .next s
  | some (_, e) => if s.contextFree (conn e) then s.accept id idx 2 op conds eff else .next s

/-! ### Connections (R255, R257, R278) -/

/-- Fields of CONNECT break the table. -/
def EntryRun.connectBad (e : EntryRun) : Bool :=
  !e.restZero [(4, 2), (6, 1), (7, 1), (8, 2), (0xA, 2), (0xC, 1), (0xE, 2), (0x10, 4), (0x18, 8)] || decide (2 ≤ e.field 6 1)
    || decide (8 ≤ e.field 7 1) || decide (8 ≤ e.field 0xC 1) || e.field 0xE 2 == 0 || e.field 0x10 4 == 0
    || (if e.field 6 1 = 1 then e.field 0x18 8 % 4096 != 0 || decide (tier1Size < e.field 0x18 8 + 0x41000)
        else e.field 0x18 8 != 0)

/-- A connection as CONNECT makes it (R255). -/
def EntryRun.connOf (e : EntryRun) (j : Nat) : Conn :=
  { st := .opened, job := j, cls := e.field 7 1, home := e.field 0xC 1, respond := e.field 6 1 == 1, peerNode := e.field 8 2
    peerConn := e.field 0xA 2, peerKey := e.field 0x10 4, units := e.field 0xE 2, rcache := e.field 0x18 8
    granted := e.field 0xE 2, carried := 0, lp := 0, used := 0, nextPsn := 0, e := 0, got := [], retries := 0, outs := .empty
    order := [], sendq := [], recvs := [], nextMsn := 0, sendMsn := 0, cache := [], held := [], sinceAck := 0, ackAt := none
    timerAt := none, creditAt := none, landing := none, late := [] }

/-- CONNECT (R255): a FREE connection becomes OPEN for the job and sends its allowance in a CREDIT frame. -/
def execRemoteConnect (list idx : Nat) (s : State) : Host.Outcome State Fault Refusal :=
  s.accept list idx 2 1
    (fun l e => cond (e.connectBad || (s.conns.find e.conn).isSome) .badCommand
      ++ cond (e.field 6 1 == 1 && !(s.jobOf l.job).covers (e.field 0x18 8) 0x41000) .keyRejected)
    fun l e x => (({ x with conns := x.conns.set e.conn (e.connOf l.job) }).sendCredit e.conn false).entryDone list idx .ok 0 0
      0xFFFF

/-- DISCONNECT (R257): a connection that is OPEN or in ERROR (R276, log 35) ends its work and becomes FREE. -/
def execRemoteDisconnect (list idx : Nat) (s : State) : Host.Outcome State Fault Refusal :=
  s.accept list idx 2 2
    (fun l e => cond (!e.restZero [(4, 2)]) .badCommand ++ match s.conns.find e.conn with
      | none => [.badCommand]
      | some c => cond (c.job != l.job) .keyRejected)
    fun _ e x => (x.disconnect e.conn).entryDone list idx .ok 0 0 0xFFFF

/-! ### Work requests (R262, R263, R270) -/

/-- A work request of an accepted entry; `n` is the length its frames carry. -/
def EntryRun.workOf (e : EntryRun) (list idx j n : Nat) : WorkReq :=
  { conn := e.conn, op := e.op, job := j, list := list, idx := idx, flags := e.rflags, loc := e.loc, rem := e.rem, len := n
    rtag := e.field 0x1C 2, lctr := e.lctr, tctr := e.tctr, thresh := e.thresh, slot := e.tslot, op1 := e.op1, op2 := e.op2
    waiting := e.isTriggered, sent := 0, open_ := 0, msn := 0, worst := .ok, refused := false }

/-- A work request is posted: it enters its connection's send queue, or waits on its counter and fires at once when its
condition already holds (R270). -/
def State.post (s : State) (w : WorkReq) : State :=
  let id := s.nextWr
  let a := { s with wrs := s.wrs.set id w, nextWr := id + 1 }
  if w.waiting then
    match s.ctrs.find w.tctr with
    | some c => if triggerMet c.value w.thresh then a.wrFire id else a
    | none => a
  else a.connMap w.conn fun c => { c with sendq := c.sendq ++ [id] }

/-- A posted entry whose LOCAL lies in a failed unit ends at once (R403). -/
def State.postOr (s : State) (w : WorkReq) : State :=
  if (s.copyKeys w.loc w.loc).any s.fencedAt ∨ (segsIn w.loc w.len).all (fun g => s.dram.get false g) = false then
    s.entryLost w.list w.idx w.job (s.suspectTouchDet (s.copyKeys w.loc w.loc) (segsIn w.loc w.len))
  else s.post w

/-- SEND (R263). -/
def execRemoteSend (list idx : Nat) (s : State) : Host.Outcome State Fault Refusal :=
  s.acceptWork list idx 3 (fun e => some e.conn)
    (fun l e => cond (!e.restZero [(4, 2), (6, 1), (8, 8), (0x18, 4), (0x1C, 2), (0x1E, 2), (0x20, 2), (0x24, 4)]
        || lenBad e.rlen) .badCommand
      ++ s.connConds e.conn l.job ++ s.flagConds e l.job 0xF ++ s.localConds e.loc e.rlen l.job false)
    fun l e x => x.postOr (e.workOf list idx l.job e.rlen)

/-- RECV (R263): a buffer is posted for the connection's next message number. -/
def execRemoteRecv (list idx : Nat) (s : State) : Host.Outcome State Fault Refusal :=
  s.acceptWork list idx 4 (fun e => some e.conn)
    (fun l e => cond (!e.restZero [(4, 2), (6, 1), (8, 8), (0x18, 4), (0x1E, 2), (0x28, 8)] || lenBad e.rlen
        || e.op1 % 8 != 0) .badCommand
      ++ s.connConds e.conn l.job ++ s.flagConds e l.job 8 ++ s.localConds e.loc e.rlen l.job true
      ++ s.localConds e.op1 8 l.job true)
    fun _ e x => x.connMap e.conn fun c => { c with
      recvs := c.recvs ++ [{ list := list, idx := idx, addr := e.loc, len := e.rlen, statusAt := e.op1
                             lctr := if e.isCounted then some e.lctr else none, msn := c.nextMsn, placed := 0, total := none
                             refused := false, done := false }]
      nextMsn := c.nextMsn + 1 }

/-- WRITE (R264). -/
def execRemoteWrite (list idx : Nat) (s : State) : Host.Outcome State Fault Refusal :=
  s.acceptWork list idx 5 (fun e => some e.conn)
    (fun l e => cond (!e.restZero [(4, 2), (6, 1), (8, 8), (0x10, 8), (0x18, 4), (0x1C, 2), (0x1E, 2), (0x20, 2), (0x24, 4)]
        || lenBad e.rlen) .badCommand
      ++ s.connConds e.conn l.job ++ s.flagConds e l.job 0xF ++ s.localConds e.loc e.rlen l.job false)
    fun l e x => x.postOr (e.workOf list idx l.job e.rlen)

/-- READ (R265). -/
def execRemoteRead (list idx : Nat) (s : State) : Host.Outcome State Fault Refusal :=
  s.acceptWork list idx 6 (fun e => some e.conn)
    (fun l e => cond (!e.restZero [(4, 2), (6, 1), (8, 8), (0x10, 8), (0x18, 4), (0x1E, 2), (0x20, 2), (0x24, 4)]
        || lenBad e.rlen) .badCommand
      ++ s.connConds e.conn l.job ++ s.flagConds e l.job 0xC ++ s.localConds e.loc e.rlen l.job true)
    fun l e x => x.postOr (e.workOf list idx l.job e.rlen)

/-- FADD (R266). -/
def execRemoteFadd (list idx : Nat) (s : State) : Host.Outcome State Fault Refusal :=
  s.acceptWork list idx 7 (fun e => some e.conn)
    (fun l e => cond (!e.restZero [(4, 2), (6, 1), (8, 8), (0x10, 8), (0x1E, 2), (0x20, 2), (0x24, 4), (0x28, 8)]
        || e.rem % 8 != 0) .badCommand
      ++ s.connConds e.conn l.job ++ s.flagConds e l.job 0xC ++ s.localConds e.loc 8 l.job true)
    fun l e x => x.postOr (e.workOf list idx l.job 8)

/-- CAS (R266). -/
def execRemoteCas (list idx : Nat) (s : State) : Host.Outcome State Fault Refusal :=
  s.acceptWork list idx 8 (fun e => some e.conn)
    (fun l e => cond (!e.restZero [(4, 2), (6, 1), (8, 8), (0x10, 8), (0x1E, 2), (0x20, 2), (0x24, 4), (0x28, 8), (0x30, 8)]
        || e.rem % 8 != 0) .badCommand
      ++ s.connConds e.conn l.job ++ s.flagConds e l.job 0xC ++ s.localConds e.loc 8 l.job true)
    fun l e x => x.postOr (e.workOf list idx l.job 8)

/-! ### Counters and triggered readiness (R269 to R271) -/

/-- CTRSET (R269): a FREE counter becomes the job's; its value is set, and requests whose condition it meets fire. -/
def execCtrset (list idx : Nat) (s : State) : Host.Outcome State Fault Refusal :=
  s.accept list idx 2 9
    (fun l e => cond (!e.restZero [(0x20, 2), (0x28, 4)] || decide (8192 ≤ e.tctr)) .badCommand
      ++ cond (match s.ctrs.find e.tctr with
        | some c => c.job != l.job
        | none => false) .keyRejected)
    fun l e x => (({ x with ctrs := x.ctrs.set e.tctr ⟨l.job, e.op1⟩ }).triggers e.tctr).entryDone list idx .ok 0 0 0xFFFF

/-- CTRFREE (R270): requests that wait on the counter complete with JOB_ABORTED, and it is FREE. -/
def execCtrfree (list idx : Nat) (s : State) : Host.Outcome State Fault Refusal :=
  s.accept list idx 2 0xA
    (fun l e => cond (!e.restZero [(0x20, 2)]) .badCommand ++ s.ctrConds e.tctr l.job true)
    fun _ e x => (x.ctrFree e.tctr).entryDone list idx .ok 0 0 0xFFFF

/-- SLOT of a TREADY names a slot or set with a session of another job. -/
def State.readyForeign (s : State) (v j : Nat) : Bool :=
  (s.readySlots v).any fun k => (s.sessionOf k).st != .free && (s.sessionOf k).job != j

/-- TREADY (R271): when its counter reaches the threshold, it readies the oldest unready frame of a slot or of every member of
a set. -/
def execTready (list idx : Nat) (s : State) : Host.Outcome State Fault Refusal :=
  s.acceptWork list idx 0xB (fun _ => none)
    (fun l e => cond (!e.restZero [(6, 1), (0x20, 2), (0x22, 2), (0x24, 4)] || e.rflags != 4
        || (if bit e.tslot 15 then bits e.tslot 14 6 != 0 else bits e.tslot 14 12 != 0)) .badCommand
      ++ s.ctrConds e.tctr l.job true ++ cond (s.readyForeign e.tslot l.job) .keyRejected)
    fun l e x => x.post (e.workOf list idx l.job 0)

/-! ### Queries (R280) -/

/-- Number of a connection state. -/
def connNum : ConnSt → Nat
  | .free => 0 | .opened => 1 | .error => 2

/-- Effect of connectionQuery once its access has passed checks 1 to 5. -/
def fxConnectionQuery (v : W16) : Effect := fun x =>
    let id := v.toNat
    .ok <| match x.conns.find id with
    | none => x.putCells 0x2710 [(1, id), (2, 0), (3, 0), (4, 0), (5, 0)]
    | some c => x.putCells 0x2710 [(1, id),
        (2, connNum c.st + c.job * 4 + c.cls * 2 ^ 12 + c.home * 2 ^ 15 + flag c.respond * 2 ^ 18 + c.peerConn * 2 ^ 24
          + c.peerNode * 2 ^ 40 + c.retries * 2 ^ 56),
        (3, c.nextPsn + c.e * 2 ^ 32), (4, c.granted + c.lp * 2 ^ 32),
        (5, c.order.length + (c.outs.vals.filter fun o => o.op != 1 && o.op != 2).length * 2 ^ 11
          + (c.recvs.filter fun r => !r.done).length * 2 ^ 18)]

/-- CONNECTION_QUERY (R280). -/
def execConnectionQuery (path : Path) (v : W16) (s : State) : Host.Outcome State Fault Refusal :=
  s.odWrite path 0x2710 1 (fxConnectionQuery v)

/-- Effect of counterQuery once its access has passed checks 1 to 5. -/
def fxCounterQuery (v : W16) : Effect := fun x =>
    let k := v.toNat
    if 8192 ≤ k then .error outOfRange
    else .ok (x.putCells 0x2720 [(1, k), (2, match x.ctrs.find k with
      | none => 0
      | some c => c.value + c.job * 2 ^ 32 + 2 ^ 42
          + (x.wrs.vals.filter fun w => w.waiting && w.tctr == k).length * 2 ^ 48)])

/-- COUNTER_QUERY (R280). -/
def execCounterQuery (path : Path) (v : W16) (s : State) : Host.Outcome State Fault Refusal :=
  s.odWrite path 0x2720 1 (fxCounterQuery v)

end Sys2Proof.Machine
end

