-- ==== Sys2Proof/Machine/Streaming.lean ====
section
/-! DEFINITION. Commands of stream plans and passes (05, 06): loading and activation, staging, pass starts, fetch lines,
landings, landing lines, pass ends. -/

namespace Sys2Proof.Machine

/-! ### Loading (R159, R160) -/

/-- The step records of a plan at a tier 1 address, and whether each one's reserved field is zero. -/
def State.stepRecords (s : State) (a n : Nat) : List (StepRec × Bool) :=
  (List.range n).map fun k =>
    let f := fun o m => s.tier1.readLe (a + k * 16 + o) m
    (⟨f 0 2, f 2 2, f 4 1, f 5 1, f 8 4, f 0xC 4⟩, f 6 2 == 0)

/-- The step that a pleat record belongs to; 256, no step, where none names it. -/
def stepOfRecord (steps : List StepRec) (i : Nat) : Nat :=
  ((steps.zipIdx.find? fun x => decide (x.1.first ≤ i) && decide (i < x.1.first + x.1.count)).map Prod.snd).getD 256

/-- The pleat records of a plan, and whether each one's reserved bits are zero. -/
def State.pleatRecords (s : State) (steps : List StepRec) (a n : Nat) : List (Pleat × Bool) :=
  (List.range n).map fun i =>
    let f := fun o m => s.tier1.readLe (a + i * 32 + o) m
    let fl := f 8 8
    ({ tier1 := f 0 8, lba := bits fl 47 0, seg := bits fl 51 48, rx := f 0x10 1, ry := f 0x11 1, region := f 0x12 1
       variant := f 0x13 1, lbas := f 0x14 4, step := stepOfRecord steps i, st := .unstaged, cmds := 0, attempts := 0 },
     bits fl 63 52 == 0 && f 0x18 8 == 0)

/-- A plan as it stands in tier 1, with the addresses and sizes of its tables. -/
structure PlanImage where
  plan : Plan
  stepTable : Nat
  stepCount : Nat
  pleatTable : Nat
  pleatCount : Nat
  headerOk : Bool
  recordsOk : Bool
  deriving DecidableEq, Repr

/-- The plan at a tier 1 address, for job `j`. -/
def State.planAt (s : State) (a j : Nat) : PlanImage :=
  let f := fun o m => s.tier1.readLe (a + o) m
  let n := f 6 1
  let flags := f 7 1
  let org := f 0x12 2
  let st := f 0x18 8
  let pt := f 0x20 8
  let np := f 0x14 4
  let steps := s.stepRecords st n
  let recs := s.pleatRecords (steps.map Prod.fst) pt np
  { plan :=
      { st := .loaded, job := j, streamed := bit flags 0, q := f 8 2, passLen := f 0xA 2, capacity := f 0xC 2
        batchLine := f 0xE 2, flashLead := f 0x10 2, lx := tileLx org, ly := tileLy org, steps := steps.map Prod.fst
        pleats := recs.map Prod.fst, firstB := 0, started := 0, staged := .empty, passes := .empty, activator := none
        deactivator := none, restagers := [] }
    stepTable := st, stepCount := n, pleatTable := pt, pleatCount := np
    headerOk := f 0 4 == 0x504C414E && f 4 2 == 1 && n != 0 && decide (flags < 2) && f 8 2 != 0 && decide (1 ≤ f 0xC 2)
      && decide (f 0xC 2 ≤ 256) && (bit flags 0 == false || f 0x10 2 != 0) && originOk org && st % 64 == 0 && pt % 64 == 0
      && (s.tier1.readBytes (a + 0x28) 24).all (fun b => b == 0)
    recordsOk := steps.all Prod.snd && recs.all Prod.snd }

/-- The steps follow each other, each range right and each pleat index inside the table (R159, R160). -/
def stepsOk (pleats : Nat) : List StepRec → Bool
  | [] => true
  | x :: r =>
    decide (1 ≤ x.s) && decide (1 ≤ x.a) && decide (x.a ≤ 254) && decide (x.a + 1 ≤ x.d) && decide (x.first + x.count ≤ pleats)
      && (match r with
        | [] => true
        | y :: _ => decide (x.c + x.s ≤ y.c)) && stepsOk pleats r

/-- Two pleats of one step aim at one tile with one variant. A record that no step names belongs to none. -/
def samePlace : List Pleat → Bool
  | [] => false
  | x :: r => x.step != 256 && r.any (fun y => y.step == x.step && y.rx == x.rx && y.ry == x.ry && y.variant == x.variant) || samePlace r

/-- The checks of R160 but those on the header's own fields and the job's ranges. -/
def State.planOk (s : State) (p : Plan) : Bool :=
  let z : StepRec := ⟨0, 0, 0, 0, 0, 0⟩
  let first := p.steps.headD z
  let last := p.steps.getLastD z
  stepsOk p.pleats.length p.steps && decide (first.d ≤ first.c) && p.passLen == last.c + last.s
    && p.steps.all (fun x => decide (x.d ≤ p.q)) && !samePlace p.pleats
    && p.pleats.all fun x => x.tier1 % 4096 == 0 && decide (x.region ≤ 3) && x.seg == x.tier1 / segSize
        && decide (x.tier1 + x.lbas * 4096 ≤ (x.seg + 1) * segSize) && (s.wafer.phys (p.lx + x.rx) (p.ly + x.ry)).isSome

/-- The tables that a plan header names. -/
def PlanImage.tables (i : PlanImage) : List (Nat × Nat) := [(i.stepTable, i.stepCount * 16), (i.pleatTable, i.pleatCount * 32)]

/-- Some pleat aims at a tile outside the job's region (R198). -/
def State.planOutside (s : State) (p : Plan) (j : Nat) : Bool :=
  p.pleats.any fun x => !((s.jobOf j).region.has (p.lx + x.rx) (p.ly + x.ry))

/-- The tier 1 ranges that a plan load reads: its header, and its tables where a whole header names them inside the job's
ranges. -/
def State.planReads (s : State) (a j : Nat) : List (Nat × Nat) :=
  let ok := fun (r : Nat × Nat) => decide (r.1 + r.2 ≤ tier1Size) && (s.jobOf j).covers r.1 r.2
  if ok (a, 64) = false then [] else
    let ts := (s.planAt a j).tables
    if s.tierBad a 64 = false ∧ ts.all ok = true then (a, 64) :: ts else [(a, 64)]

/-- The conditions of a PLANLOAD that what it read decides (R160, R198): none where an uncorrectable word hides it. -/
def State.planImageConds (s : State) (a j : Nat) : List Status :=
  let i := s.planAt a j
  let ps := i.plan.pleats.map fun x => (x.tier1, x.lbas * 4096)
  let out := fun (r : Nat × Nat) => decide (tier1Size < r.1 + r.2)
  let uncovered := fun (r : Nat × Nat) => !(s.jobOf j).covers r.1 r.2
  if s.tierBad a 64 then []
  else cond (!i.headerOk || i.tables.any out) .badCommand ++ cond (i.tables.any uncovered) .keyRejected
    ++ if (s.planReads a j).any (fun r => s.tierBad r.1 r.2) then []
      else cond (!i.recordsOk || ps.any out || !s.planOk i.plan) .badCommand
        ++ cond (ps.any uncovered || s.planOutside i.plan j) .keyRejected

/-- PLANLOAD (R160, R203): the plan in tier 1 is checked and held, LOADED, for the job. An uncorrectable word gives the status
of R199, unless another condition takes precedence (R22). -/
def execPlanload (list idx : Nat) (s : State) : Host.Outcome State Fault Refusal :=
  match s.handed list idx 1 1 with
  | none => .next s
  | some (l, e) =>
    let j := l.job
    let a := e.field 8 8
    let k := e.field 4 1
    let reads := s.planReads a j
    let bad := reads.find? fun r => s.tierBad r.1 r.2
    let st := worst (s.jobConds j ++ cond (!e.restZero [(4, 1), (8, 8)] || (s.plans.find k).isSome) .badCommand
      ++ s.tierConds a 64 j ++ cond bad.isSome (s.jobOf j).lossStatus
      ++ if reads.isEmpty then [] else s.planImageConds a j)
    let b := each reads (fun x r => x.tierRead r.1 r.2) s
    match bad with
    | some r =>
      let c := b.suspect (.dram (segOf r.1)) dramDet
      if st = (s.jobOf j).lossStatus then .next ((c.faultEnd st).entryRefuse list idx st dramDet)
      else .next (c.entryRefuse list idx st 0)
    | none =>
      if st ≠ .ok then .next (b.entryRefuse list idx st 0)
      else .next (({ b with plans := b.plans.set k (s.planAt a j).plan }.entryAccept list idx).planEntryDone (list, idx) j
        (reads.flatMap fun (r : Nat × Nat) => segsIn r.1 r.2) .ok 0)

/-! ### Activation and deactivation (R161, R173, R203) -/

/-- A plan that an entry of job `j` names, and the conditions on it: FREE names nothing, another job's is rejected. -/
def State.planConds (s : State) (l : ListRun) (e : EntryRun) (ok : Plan → Bool) : List Status :=
  cond (!e.restZero [(4, 1)]) .badCommand ++ match s.plans.find (e.field 4 1) with
    | none => [.badCommand]
    | some p => cond (p.job != l.job) .keyRejected ++ cond (!ok p) .badCommand

/-- A plan and the plans now active exceed a budget on some segment (R173). -/
def State.planOver (s : State) (p : Plan) : Bool :=
  (List.range 16).any fun g => decide (s.dramPerLine < s.dramDemand g + s.dramPeak p g)
    || decide (s.flashPerLine < s.flashDemand g + p.flashPeak g)

/-- A plan enters STAGING and every pleat is staged, or, STREAMED, becomes ACTIVE at once. -/
def State.planStart (s : State) (k : Nat) (p : Plan) (by_ : Nat × Nat) : State :=
  let q := { p with
    st := .staging, passes := .empty, started := 0, staged := .empty, activator := some by_, deactivator := none, restagers := []
    pleats := p.pleats.map fun x => { x with st := if p.streamed then .resident else .unstaged, cmds := 0, attempts := 0 } }
  let s1 := { s with plans := s.plans.set k q }
  (if p.streamed then s1 else each (List.range p.pleats.length) (fun x i => x.stagePleat k i) s1).planCheck k

/-- ACTIVATE (R161): refused with OVERLOAD over a budget, which stops its list (R193); a PINNED plan is staged and completes the entry when every pleat is
RESIDENT or FAILED, a STREAMED one is ACTIVE at once. The admission budgets follow (R214). -/
def execActivate (list idx : Nat) (s : State) : Host.Outcome State Fault Refusal :=
  s.accept list idx 1 2
    (fun l e => s.planConds l e (fun p => p.st == .loaded) ++ match s.plans.find (e.field 4 1) with
      | none => []
      | some p => cond (s.planOver p) .overload)
    fun _ e x =>
      match x.plans.find (e.field 4 1) with
      | none => x
      | some p => (x.planStart (e.field 4 1) p (list, idx)).rebudget

/-- Passes of a plan that have not ended. -/
def Plan.running (p : Plan) : Bool := p.passes.vals.any fun q => !q.ended

/-- A plan whose deactivation waits becomes LOADED once no pass is in progress, and the entry completes (R203). -/
def State.deactivated (s : State) (k : Nat) : State :=
  match s.plans.find k with
  | none => s
  | some p => match p.deactivator with
    | none => s
    | some d => if p.running then s else
        ((s.planMap k fun q => { q with st := .loaded, deactivator := none }).planEntryDone d p.job [] .ok 0).rebudget

/-- DEACTIVATE (R203): no pass starts any more; the plan is LOADED when those in progress have ended. -/
def execDeactivate (list idx : Nat) (s : State) : Host.Outcome State Fault Refusal :=
  s.accept list idx 1 3
    (fun l e => s.planConds l e fun p => p.st == .active && p.deactivator.isNone)
    fun _ e x => (x.planMap (e.field 4 1) fun p => { p with deactivator := some (list, idx) }).deactivated (e.field 4 1)

/-- UNLOAD (R203): a LOADED plan becomes FREE. -/
def execUnload (list idx : Nat) (s : State) : Host.Outcome State Fault Refusal :=
  s.accept list idx 1 4
    (fun l e => s.planConds l e fun p => p.st == .loaded)
    fun _ e x => (x.planFree (e.field 4 1)).entryDone list idx .ok 0 0 0xFFFF

/-- RESTAGE (R171, R203): every FAILED pleat is staged again with its count reset; the entry completes when those stagings
have ended (log 28). -/
def execRestage (list idx : Nat) (s : State) : Host.Outcome State Fault Refusal :=
  s.accept list idx 1 5
    (fun l e => s.planConds l e fun _ => true)
    fun _ e x =>
      let k := e.field 4 1
      match x.plans.find k with
      | none => x
      | some p =>
        let failed := (p.pleats.zipIdx.filter fun y => y.1.st == .failed).map Prod.snd
        let a := x.planMap k fun q => { q with
          restagers := q.restagers ++ [(list, idx)]
          pleats := q.pleats.map fun y => if y.st = .failed then { y with attempts := 0 } else y }
        (each failed (fun z i => (z.bump64 0x2403 7).stagePleat k i) a).planCheck k

/-! ### Staging (R158, R161) -/

/-- PLEAT_STAGED (R158): the last data of a pleat has arrived; the checks make it RESIDENT or fail it with 0x0604, and a
STAGING plan may become ACTIVE. -/
def execPleatStaged (plan : PlanId) (pleat : Nat) (s : State) : Host.Outcome State Fault Refusal :=
  let k := plan.val
  match s.plans.find k with
  | none => .next s
  | some p => match p.pleats[pleat]? with
    | none => .next s
    | some x =>
      whenDue (x.st == .staging && x.cmds == 0) s <|
        if s.pleatOk x then
          (s.planMap k fun q => q.pleatMap pleat fun y => { y with st := .resident, attempts := 0 }).planCheck k
        else ((s.segCount x.seg 9 1).fire 0x0604 x.seg 0).pleatFail k pleat 0x0604 false

/-- A line of a pass, from the plan's first pass on: the start of pass j and an offset, before which nothing of it is due. -/
def Plan.lineOf (p : Plan) (j off : Nat) : Nat := p.firstB + j * p.q + off

/-- FLASH_STAGE_LINE (R161): on a STREAMED plan, a step's pleats are staged for the next pass that has not staged it, from
line b + C − D − FLASH_LEAD on. -/
def execFlashStageLine (plan : PlanId) (step : Nat) (s : State) : Host.Outcome State Fault Refusal :=
  let k := plan.val
  match s.plans.find k with
  | none => .next s
  | some p =>
    let x := p.stepOf step
    let j := p.staged.get 0 step
    let is := (p.pleatsOf step).map Prod.fst
    whenDue (p.st == .active && p.streamed && decide (step < p.steps.length)
        && (p.deactivator.isNone || decide (j < p.started))
        && decide (p.lineOf j x.c ≤ s.beat.n + x.d + p.flashLead)) s <|
      each is (fun y i =>
        let g := match p.pleats[i]? with
          | some z => y.flashUp z.seg && y.dram.get false z.seg
          | none => true
        if g then y.stagePleat k i else y.pleatFail k i 0 false)
        (s.planMap k fun q => { q with staged := q.staged.set step (j + 1) })

/-! ### Pass starts (R81, R162 to R165) -/

/-- A frame that a pass starting at line `b` may take. -/
def State.eligible (s : State) (k : Nat) (p : Plan) (b : Nat) (f : Frame) : Bool :=
  f.plan == some k && f.ready && f.pass.isNone && decide ((b + f.m) * 65536 ≤ f.deadline)
    && decide ((b + p.passLen) * 65536 ≤ f.deadline) && (s.sessionOf f.slot).st == .opened

/-- A candidate: its deadline, its rank, and its frames in slot order. -/
structure PassCand where
  deadline : Nat
  rank : Nat
  keys : List Nat
  deriving DecidableEq, Repr

/-- The candidates of a pass: single frames, and the members of a locked set for one deadline together (R162). -/
def State.candidates (s : State) (k : Nat) (p : Plan) (b : Nat) : List PassCand :=
  let fs := s.frames.cells.filter fun c => s.eligible k p b c.2
  let set := fun (f : Frame) => (s.sessionOf f.slot).set
  let mates := fun (f : Frame) => (fs.filter fun c => (c.2.slot == f.slot || ((set f).isSome && set c.2 == set f))
    && c.2.deadline == f.deadline).mergeSort fun a c => decide (a.2.slot ≤ c.2.slot)
  let lead := fs.filter fun c => match (mates c.2).head? with
    | some m => m.1 == c.1
    | none => false
  (lead.map fun c => (⟨c.2.deadline, s.rankSlot c.2, (mates c.2).map Prod.fst⟩ : PassCand)).mergeSort fun a c =>
    decide (a.deadline < c.deadline) || (a.deadline == c.deadline && decide (a.rank ≤ c.rank))

/-- Candidates are taken in order while they fit whole (R162). -/
def takeCands (cap : Nat) : List PassCand → List Nat
  | [] => []
  | c :: r => if c.keys.length ≤ cap then c.keys ++ takeCands (cap - c.keys.length) r else takeCands cap r

/-- The five batch lines (R164). -/
def Pass.batchLine (q : Pass) (j step i : Nat) : List Byte :=
  if i = 0 then
    natLe 32 ((q.lanes.zipIdx.map fun l => if l.1.live then 2 ^ l.2 else 0).sum) ++ natLe 4 j ++ natLe 2 step
      ++ List.replicate 26 0#8
  else (List.range 64).map fun n => match q.lanes[(i - 1) * 64 + n]? with
    | some l => BitVec.ofNat 8 l.variant
    | none => 0

/-- Batch lines `is` are written to one region tile's task; true when one is rejected (R125, R164). A fenced tile's lines go to
the discard sink (R415), a tile without a task has nothing to write to (log 30). -/
def State.batchTile (s : State) (p : Plan) (q : Pass) (j step k : Nat) (is : List Nat) : State × Bool :=
  if s.fencedAt k then (s.discard (64 * is.length), false)
  else if (s.tileOf k).task.isNone then (s, false)
  else is.foldl (fun (a : State × Bool) i =>
    let t := a.1.tileOf k
    match t.taskLine .a (p.batchLine + i) with
    | some n => if t.lineOff .a n then (a.1.landReject k, true)
        else (a.1.storeWrite k .a (n * 64) (q.batchLine j step i), a.2)
    | none => (a.1.landReject k, true)) (s, false)

/-- Batch lines are written to every region tile; a rejected one ends every lane of the pass with BAD_COMMAND. -/
def State.batch (s : State) (k j step : Nat) (is : List Nat) : State :=
  match s.plans.find k with
  | none => s
  | some p => match p.passes.find j with
    | none => s
    | some q =>
      let r := (s.wafer.regionKeys p.region).foldl (fun (a : State × Bool) t =>
        let b := a.1.batchTile p q j step t is
        (b.1, a.2 || b.2)) (s, false)
      if r.2 then each (q.lanes.filter fun l => l.live) (fun x l => x.frameDone l.frame .badCommand 0x0209) r.1 else r.1

/-- A pleat counts as failed for pass `j` at its start: a STREAMED pleat only once it has been staged for that pass. -/
def Plan.failedFor (p : Plan) (x : Pleat) (j : Nat) : Bool :=
  x.st == .failed && (!p.streamed || decide (j < p.staged.get 0 x.step))

/-- PASS_START (R162 to R165): lanes are given to ready frames, the batch lines are written, and lanes that need a pleat that
stands FAILED end with TIER_FAILED (R170). -/
def execPassStart (plan : PlanId) (s : State) : Host.Outcome State Fault Refusal :=
  let k := plan.val
  match s.plans.find k with
  | none => .next s
  | some p =>
    let j := p.started
    let b := p.lineOf j 0
    whenDue (p.st == .active && p.deactivator.isNone && decide (b ≤ s.beat.n)) s <|
      let keys := takeCands p.capacity (s.candidates k p b)
      let lanes := keys.filterMap fun f => (s.frames.find f).map fun x => (⟨f, x.slot, x.variant, true⟩ : Lane)
      let q : Pass :=
        { b := b, lanes := lanes, fetched := [], landings := [], variants := (lanes.map fun l => l.variant).dedup
          pleats := .empty, blocks := .empty, ended := false }
      let a := ({ (s.planMap k fun x => { x with passes := x.passes.set j q, started := j + 1 }) with
        frames := s.frames.mapVals fun i f => if keys.contains i then { f with pass := some (k, j) } else f }).bump64 0x2403 1
      let c := a.batch k j 0xFFFF [0, 1, 2, 3, 4]
      let failed := (p.pleats.zipIdx.filter fun x => q.needs x.1 && p.failedFor x.1 j)
      each failed (fun y x => match (y.plans.find k).bind fun z => z.passes.find j with
        | some w => (y.setLanding k j x.2 2).lanesEnd w x.1 .tierFailed 0 5
        | none => y) c

/-! ### Fetch lines and landings (R165 to R168, R170, R171) -/

/-- The tiles that have pleats in a step, shared or of any variant (R166). -/
def Plan.stepTiles (p : Plan) (k : Nat) : List (Nat × Nat) :=
  ((p.pleats.filter fun x => x.step == k).map fun x => (x.rx, x.ry)).dedup

/-- STEP_FETCH_LINE (R166): the step's stream tag becomes PENDING on every tile that has pleats in it, and failed pleats of a
PINNED plan are staged again (R171). -/
def execStepFetchLine (plan : PlanId) (pass step : Nat) (s : State) : Host.Outcome State Fault Refusal :=
  let k := plan.val
  match s.plans.find k with
  | none => .next s
  | some p => match p.passes.find pass with
    | none => .next s
    | some q =>
      let x := p.stepOf step
      whenDue (!q.ended && !q.fetched.contains step && decide (step < p.steps.length) && decide (q.b + x.c ≤ s.beat.n + x.d)) s <|
        let ts := p.stepTiles step
        let a := s.planMap k fun y => y.passMap pass fun z => { z with fetched := z.fetched ++ [step] }
        let b := each ts (fun y t => match y.wafer.phys (p.lx + t.1) (p.ly + t.2) with
          | some n => y.setTile n { y.tileOf n with tags := (y.tileOf n).tags.set (streamTag step pass) 3 }
          | none => y) a
        let failed := if p.streamed then [] else
          (p.pleats.zipIdx.filter fun y => y.1.step == step && y.1.st == .failed).map Prod.snd
        each ts (fun y t => y.voids k t.1 t.2) (each failed (fun y i => y.restagePleat k i) b)

/-- How a block's landing goes. -/
inductive BlockEnd where
  | done (s : State)
  | waits
  | rejected (s : State)

/-- The lines of a block are written at TAIL of its region, and TAIL moves on (R129, R167). -/
def State.landBlock (s : State) (k : Nat) (x : Pleat) (bs : List Byte) (n : Nat) : BlockEnd :=
  let t := s.tileOf k
  let g := t.regionOf x.region
  if g.stream = false then .rejected (s.landReject k)
  else if g.size < g.occ + n then .waits
  else
    let st := selOf g.store
    let ls := (List.range n).map fun i => t.taskLine st (g.base + (g.tail + i) % g.size)
    if ls.any (fun l => match l with
        | some m => t.lineOff st m
        | none => true) then .rejected (s.landReject k)
    else
      .done ((ls.zipIdx.foldl (fun (y : State) l => match l.1 with
        | some m => y.storeWrite k st (m * 64) ((bs.drop (l.2 * 64)).take 64)
        | none => y) s).tailOn k x.region n)

/-- A block has landed, or been taken by the discard sink: with the last one its pleat has landed, failed pleats behind it are
void-landed, and the tag may become final. -/
def State.blockOn (s : State) (k j i : Nat) (x : Pleat) (all : Nat) : State :=
  let n := match (s.plans.find k).bind fun p => p.passes.find j with
    | some q => q.blocks.get 0 i + 1
    | none => 1
  let a := s.planMap k fun p => p.passMap j fun q => { q with blocks := q.blocks.set i n }
  if n < all then a else ((a.setLanding k j i 1).voids k x.rx x.ry).tagFinal k j x.step x.rx x.ry false

/-- A pass that has ended leaves once no pleat of it is awaited. -/
def State.passGone (s : State) (k j : Nat) : State :=
  s.planMap k fun p => { p with passes := p.passes.keep fun i q =>
    !(i == j && q.ended && p.pleats.zipIdx.all fun x => !q.needs x.1 || q.state x.2 != 0) }

/-- BLOCK_LANDED (R167, R129): the next block of a pleat lands on its tile from tier 1, in its turn. An uncorrectable word, a
region that is not a STREAM one or a segment out of service fails the pleat (R170); a failed pleat is void-landed. -/
def execBlockLanded (plan : PlanId) (pass pleat : Nat) (upsets : List TierUpset) (s : State) :
    Host.Outcome State Fault Refusal :=
  let k := plan.val
  match s.plans.find k with
  | none => .next s
  | some p => match p.passes.find pass, p.pleats[pleat]? with
    | some q, some x =>
      let turn := match p.nextFor x.rx x.ry with
        | some a => a.pass == pass && a.idx == pleat && q.fetched.contains x.step
        | none => false
      let staged := x.st == .resident && (!p.streamed || decide (pass < p.staged.get 0 x.step))
      if q.state pleat = 2 then whenDue turn s ((s.voids k x.rx x.ry).passGone k pass)
      else match s.wafer.phys (p.lx + x.rx) (p.ly + x.ry) with
        | none => whenDue (turn && staged) s (((s.setLanding k pass pleat 1).voids k x.rx x.ry).passGone k pass)
        | some t =>
          let a := s.tierStrike upsets
          let n := pleatBlock (a.tier1.readLe (x.tier1 + 6) 1)
          let all := a.tier1.readLe (x.tier1 + 8) 2
          let src := x.tier1 + 64 + q.blocks.get 0 pleat * n * 64
          let b := a.tierRead src (n * 64)
          let bs := a.tier1.readBytes src (n * 64)
          let hold := (s.tileOf t).paused || (s.panelPower (keyPanel t)).stopped
          if turn = false ∨ staged = false then .next s
          else if s.dram.get false x.seg = false then .next ((s.pleatFail k pleat dramDet false).passGone k pass)
          else if a.tierBad src (n * 64) then .next ((b.pleatFail k pleat dramDet true).passGone k pass)
          else if s.fencedAt t then
            .next (((b.discard (n * 64)).blockOn k pass pleat x all).passGone k pass)
          else match b.landBlock t x bs n with
            | .done c => whenDue (!hold) s (((c.segCount x.seg 0xA (n * 64)).blockOn k pass pleat x all).passGone k pass)
            | .waits => .next s
            | .rejected c => whenDue (!hold) s ((c.pleatFail k pleat 0x0209 false).passGone k pass)
    | _, _ => .next s

/-! ### Landing lines and pass ends (R164, R168, R169, R209, R404) -/

/-- LANDING_LINE (R169): lanes that need a pleat that has neither landed nor failed leave with DEADLINE_MISSED and 0x0505;
line 0 is written again, and the landing states of the step become final where nothing is awaited. -/
def execLandingLine (plan : PlanId) (pass step : Nat) (s : State) : Host.Outcome State Fault Refusal :=
  let k := plan.val
  match s.plans.find k with
  | none => .next s
  | some p => match p.passes.find pass with
    | none => .next s
    | some q =>
      let x := p.stepOf step
      whenDue (!q.ended && !q.landings.contains step && q.fetched.contains step && decide (q.b + x.c ≤ s.beat.n + x.a)) s <|
        let late := p.pleats.zipIdx.filter fun y => y.1.step == step && q.needs y.1 && q.state y.2 == 0
        let a := s.planMap k fun y => y.passMap pass fun z => { z with landings := z.landings ++ [step] }
        let b := match late.head? with
          | some y => (a.bump64 0x2403 3).fire 0x0505 y.1.seg 0
          | none => a
        let gone := q.lanes.filter fun l => l.live && late.any fun y => l.needs y.1
        let c := each gone (fun y l => (y.bump64 0x2403 4).frameDone l.frame .deadlineMissed 0x0505) b
        let d := c.batch k pass step [0]
        each (p.stepTiles step) (fun y t => (y.voids k t.1 t.2).tagFinal k pass step t.1 t.2 true) d

/-- PASS_END (R209): the lanes still in the pass complete with OK, or with what a suspect tile of the plan's region gives them
(R404); a waiting DEACTIVATE may complete. -/
def execPassEnd (plan : PlanId) (pass : Nat) (s : State) : Host.Outcome State Fault Refusal :=
  let k := plan.val
  match s.plans.find k with
  | none => .next s
  | some p => match p.passes.find pass with
    | none => .next s
    | some q =>
      let keys := s.wafer.regionKeys p.region
      whenDue (!q.ended && q.landings.length == p.steps.length && decide (q.b + p.passLen ≤ s.beat.n)) s <|
        let a := s.planMap k fun y => y.passMap pass fun z => { z with ended := true }
        let b := each (q.lanes.filter fun l => l.live) (fun y l =>
          let j := match y.frames.find l.frame with
            | some f => f.job
            | none => p.job
          let st := y.suspectStatus j keys []
          if st = .ok then (y.bump64 0x2403 2).frameDone l.frame .ok 0
          else (y.faultEnd st).frameDone l.frame st (y.suspectTouchDet keys [])) a
        (b.passGone k pass).deactivated k

/-! ### Query (R175) -/

/-- Number of a plan state. -/
def planNum : PlanSt → Nat
  | .free => 0 | .loaded => 1 | .staging => 2 | .active => 3

/-- Effect of planQuery once its access has passed checks 1 to 5. -/
def fxPlanQuery (v : Byte) : Effect := fun x =>
    .ok <| match x.plans.find v.toNat with
    | none => x.putCells 0x2430 [(1, v.toNat), (2, 0), (3, 0), (4, 0)]
    | some p => x.putCells 0x2430 [(1, v.toNat),
        (2, planNum p.st + flag p.streamed * 4 + p.steps.length * 2 ^ 8 + p.q * 2 ^ 16 + p.passLen * 2 ^ 32 + p.capacity * 2 ^ 48),
        (3, (p.pleats.filter fun y => y.st == .failed).length),
        (4, if p.st = .active then x.beat.stampOf (p.lineOf p.started 0 * 65536) else 0)]

/-- PLAN_QUERY (R175): state, shape, failed pleats and next pass start of the named plan. -/
def execPlanQuery (path : Path) (v : Byte) (s : State) : Host.Outcome State Fault Refusal :=
  s.odWrite path 0x2430 1 (fxPlanQuery v)

end Sys2Proof.Machine
end

