-- ==== Sys2Proof/Machine/Wafer.lean ====
section
/-! DEFINITION. Commands of the wafer map (01): lane failures and the translation query. -/

namespace Sys2Proof.Machine

/-- SEAM_LANE_FAIL (R29): the lane is marked failed in its direction, a spare or the loss of the seam follows; the change
of lanes takes effect at the next boundary. -/
def execSeamLaneFail (edge : Fin 144) (dir : Fin 2) (lane : Fin 14) (s : State) : Host.Outcome State Fault Refusal :=
  whenSettled true s (s.laneFails (edge.val + 1) dir.val lane.val s.beat.n).atOnce

/-- The sub-index by which a pass-through lane of panel p is reported: the edge of the grid that reaches across p from
the west, or from the south (R42). -/
def Wafer.passUnit (w : Wafer) (p axis : Nat) : Nat :=
  let x := panelX p
  let y := panelY p
  if axis = 0 then
    match ((w.cols.zipIdx.filter fun c => decide (c.1 < x)).getLast?), indexIn y w.rows with
    | some c, some j => eastEdge (min c.2 6) j
    | _, _ => eastEdge (min x 6) y
  else
    match ((w.rows.zipIdx.filter fun c => decide (c.1 < y)).getLast?), indexIn x w.cols with
    | some c, some i => northEdge i (min c.2 6)
    | _, _ => northEdge x (min y 6)

/-- PASS_THROUGH_LANE_FAIL (R39): detector 0x0403 fires, and LANES of the bridged edges follows at the next boundary. -/
def execPassThroughLaneFail (p : PanelId) (northSouth : Bool) (lane : Pos12) (s : State) :
    Host.Outcome State Fault Refusal :=
  let axis := flag northSouth
  let key := p.val * 2 + axis
  let m := s.wafer.passFail.get 0 key
  whenDue (!bit m lane.val) s <|
    (({ s with wafer := { s.wafer with passFail := s.wafer.passFail.set key (setBit m lane.val) } }).fire 0x0403
      (s.wafer.passUnit p.val axis) 0).atOnce

/-- The word of 0x2003:02 for logical tile (lx, ly): VALID clear outside the grid (R34, R48), and the position then reads 0
(DESIGN CHOICE, log 75). -/
def Wafer.translation (w : Wafer) (lx ly : Nat) : Nat :=
  match w.phys lx ly with
  | some k => panelX (keyPanel k) + panelY (keyPanel k) * 8 + keyCol k * 2 ^ 6 + keyRow k * 2 ^ 10 + 2 ^ 31
  | none => 0

/-- Effect of translationQuery once its access has passed checks 1 to 5. -/
def fxTranslationQuery (v : W32) : Effect := fun x =>
    let n := v.toNat
    if n % 2 ^ 15 ≠ n ∨ bit n 7 = true then .error outOfRange
    else .ok (x.putCells 0x2003 [(1, n), (2, x.wafer.translation (tileLx n) (tileLy n))])

/-- TRANSLATION_QUERY (R48): the physical position of the named tile at the current epoch. -/
def execTranslationQuery (path : Path) (v : W32) (s : State) : Host.Outcome State Fault Refusal :=
  s.odWrite path 0x2003 1 (fxTranslationQuery v)

end Sys2Proof.Machine
end

