-- ==== Sys2Proof/Machine/OdWrite.lean ====
section
/-! DEFINITION. Writing the dictionary: the effect of a write to every writable object, and the injection point's
objects (R326, R327, R421, R435). -/

namespace Sys2Proof.Machine

/-! ### The injection point (R421) -/

/-- The detectors that the chapters define, by their first and last identifier in a row. -/
def detectorRanges : List (Nat × Nat) :=
  [(0x0101, 0x0106), (0x0201, 0x0209), (0x0301, 0x0307), (0x0401, 0x0403), (0x0501, 0x0505), (0x0601, 0x0607),
   (0x0701, 0x070A), (0x0801, 0x0809), (0x0841, 0x0848), (0x0901, 0x0908), (0x0A01, 0x0A0F), (0x0B01, 0x0B04),
   (0x0C01, 0x0C08), (0x0C31, 0x0C38), (0x0D01, 0x0D08), (0x0E01, 0x0E09)]
/-- A defined detector. -/
def detectorDefined (d : Nat) : Bool := detectorRanges.any fun r => decide (r.1 ≤ d) && decide (d ≤ r.2)

/-- The physical key of a tile's unit field (R420): logical, or a position outside the grid. -/
def State.unitTile (s : State) (t : Nat) : Option Nat :=
  if t < 0x8000 then (if bit t 7 then none else s.wafer.phys (tileLx t) (tileLy t))
  else
    let p := bits t 14 8
    let r := bits t 7 4
    let c := bits t 3 0
    let k := p * 144 + r * 12 + c
    if p < 64 ∧ r < 12 ∧ c < 12 ∧ (s.wafer.logical k).isNone then some k else none

/-- A tile runs as an injection's target: the yoke serves it, its panel is powered, and it is not stopped or fenced. -/
def State.unitRuns (s : State) (k : Nat) : Bool := s.up.yoke && (s.domainOf (27 + keyPanel k)).st == .on && s.tileRuns k

/-- Whether an owner of a kind exists (R412): its number is one that the kind has. -/
def ownerValid (s : State) (kind t : Nat) : Bool :=
  match kind with
  | 1 => decide (t < 2)
  | 2 => decide (t < 1024)
  | 3 => (s.unitTile t).isSome && decide (t < 0x8000)
  | 4 => t == 0
  | 5 => decide (t < 16)
  | _ => false
/-- The owner runs. -/
def ownerRuns (s : State) (kind t : Nat) : Bool :=
  match kind with
  | 1 => (s.host (fnOf t)).up
  | 2 => s.up.yoke && (s.jobOf t).st != .free
  | 3 => match s.unitTile t with
    | some k => s.unitRuns k
    | none => false
  | 4 => s.up.yoke
  | _ => s.dram.get false t

/-- An injection target is valid, and its unit runs, by the table "Unit field" (R420, R421). Units numbered 0 alone are the
module's own, which run with the collar. -/
def State.injTarget (s : State) (d t : Nat) : Bool × Bool :=
  let kind := s.cell 0x2B20 9
  if d / 256 = 1 ∨ d / 256 = 2 ∨ d = 0x0C36 then
    ((s.unitTile t).isSome, match s.unitTile t with
      | some k => s.unitRuns k
      | none => false)
  else if d / 256 = 3 then (decide (t < 4096), s.up.yoke)
  else if d / 256 = 4 ∨ d = 0x0C37 then (decide (1 ≤ t) && decide (t ≤ 144), s.up.yoke)
  else if d / 256 = 5 ∨ d / 256 = 6 ∨ d = 0x0C38 then (decide (t < 16), (s.domainOf (1 + t)).st == .on)
  else if d / 256 = 7 then (decide (t < 2), (s.domainOf (17 + t)).st == .on)
  else if 0x0801 ≤ d ∧ d ≤ 0x0809 then (decide (t < 8), (s.domainOf (19 + t)).st == .on)
  else if 0x0841 ≤ d ∧ d ≤ 0x0848 then (decide (t < 1024), s.up.yoke)
  else if (0x0A01 ≤ d ∧ d ≤ 0x0A05) ∨ d = 0x0A0E then
    (decide (t < 64), (s.domainOf (27 + t)).st == .on && (s.domainOf (91 + t)).st == .on)
  else if d = 0x0A06 then (decide (155 ≤ t) && decide (t < 171), (s.domainOf t).st == .on)
  else if d = 0x0A07 then (decide (t ≤ 26), (s.domainOf t).st == .on)
  else if d = 0x0A0F then (decide (t < 171) && !isPanelDomain t, (s.domainOf t).st == .on)
  else if d = 0x0C35 then (decide (t < 171), (s.domainOf t).st == .on || (s.domainOf t).st == .ramping)
  else if d = 0x0B01 then (decide (t < 266) && hasPll t, s.clockRuns t)
  else if d = 0x0B02 then (decide (t < 266) && t != 262 && t != 265, s.clockRuns t)
  else if d = 0x0C05 then (ownerValid s kind t, ownerRuns s kind t)
  else if d / 256 = 0xE then (decide (t < 2), true)
  else (t == 0, true)

/-- Effect of a write to 0x2B20:06: 1 arms under the checks of R421, 0 disarms. -/
def fxInjectionArm (v : Nat) : Effect := fun x =>
  if v = 0 then .ok { x with injection := { x.injection with armed := false } }
  else
    let d := x.cell 0x2B20 1
    let t := x.injTarget d (x.cell 0x2B20 2)
    if detectorDefined d = false ∨ t.1 = false then .error outOfRange
    else if x.cell 0x2B21 0 = 0 ∨ x.injection.armed ∨ t.2 = false then .error badState
    else .ok { x with injection := ⟨true, 0, some x.beat.n, false⟩ }

/-- INJECTION_ARM (R421): a write of 1 to 0x2B20:06. -/
def execInjectionArm (path : Path) (s : State) : Host.Outcome State Fault Refusal := s.odWrite path 0x2B20 6 (fxInjectionArm 1)

/-- INJECTION_DISARM (R421): a write of 0 to 0x2B20:06. -/
def execInjectionDisarm (path : Path) (s : State) : Host.Outcome State Fault Refusal := s.odWrite path 0x2B20 6 (fxInjectionArm 0)

/-- Effect of a write to the injection's parameters and enable: 0x2B20:01 to 05 and 09, 0x2B21. A start stamp whose line field is out
of range is taken as any other (DESIGN CHOICE, log 76). -/
def fxInjectionCell (index sub v : Nat) : Effect := fun x =>
  let bad := index = 0x2B20 ∧ (sub = 3 ∧ 1 < v ∨ sub = 4 ∧ v = 0 ∨ sub = 9 ∧ 5 < v)
  if bad then .error outOfRange else .ok (x.putCell index sub v)

/-! ### The image of an update (R435) -/

/-- The initiation of a write to 0x2C20: the abort code, if any. `len` is the total length where it is known. -/
def State.imageCheck (s : State) (len : Option Nat) : Option Nat :=
  if s.fw.upd ≠ .ready ∨ s.fw.imagePath.isSome then some badState
  else match len with
    | some n => if n = s.cell 0x2C21 2 then none else some 0x06040043
    | none => none

/-- Effect of a whole image: its bytes are programmed and its verification begins. -/
def fxImage (path : Path) (n : Nat) : Effect := fun x =>
  match x.imageCheck (some n) with
  | some c => .error c
  | none => .ok (({ x with fw := { x.fw with imagePath := some path } }).imageBytes n)

/-- Effect of a write to 0x2C21:01. -/
def fxUpdateControl (path : Path) (v : Nat) : Effect :=
  if v = 1 then fxUpdateBegin path else if v = 2 then fxUpdateCancel else if v = 3 then fxUpdateRestart
  else fun _ => .error outOfRange

/-! ### Every writable object -/

/-- Effect of a write to 0x2911. -/
def fxDomain (sub v : Nat) : Effect := fun x =>
  if h : sub - 1 < 171 then
    if v = 1 then fxDomainRequestOn ⟨sub - 1, h⟩ x else if v = 0 then fxDomainRequestOff ⟨sub - 1, h⟩ x else .error outOfRange
  else .error outOfRange

/-- Effect of a write to 0x2922. -/
def fxLatch (sub v : Nat) : Effect := fun x =>
  if h : sub - 1 < 64 then fxOvercurrentClear ⟨sub - 1, h⟩ (BitVec.ofNat 8 v) x else .error outOfRange

/-- Query objects: what writing a number to one does. -/
def fxQuery (index sub v : Nat) : Option Effect :=
  match index, sub with
  | 0x2003, 1 => some (fxTranslationQuery (BitVec.ofNat 32 v))
  | 0x2130, 1 => some (fxSessionQuery (BitVec.ofNat 16 v))
  | 0x2220, 1 => some (fxTileQuery (BitVec.ofNat 16 v))
  | 0x2310, 1 => some (fxStoreQuery (BitVec.ofNat 16 v))
  | 0x2410, 1 => some (fxSegmentQuery (BitVec.ofNat 8 v))
  | 0x2430, 1 => some (fxPlanQuery (BitVec.ofNat 8 v))
  | 0x2506, 2 => some (fxJobQuery (BitVec.ofNat 16 v))
  | 0x2620, 1 => some (fxSlotQuery (BitVec.ofNat 16 v))
  | 0x2621, 1 => some (fxContextQuery (BitVec.ofNat 32 v))
  | 0x2710, 1 => some (fxConnectionQuery (BitVec.ofNat 16 v))
  | 0x2720, 1 => some (fxCounterQuery (BitVec.ofNat 16 v))
  | 0x2803, 1 => some (fxNodeQuery (BitVec.ofNat 16 v))
  | 0x2942, 1 => some (fxClockQuery v)
  | 0x2B02, 1 => some (fxDetectorQuery v)
  | 0x2B11, 1 => some (fxLogQuery v)
  | _, _ => none

/-- Command objects and the other writable objects that are not settings. Panels that a grid restore finds failing by this
path are free values. -/
def fxCommand (path : Path) (index sub v : Nat) : Option Effect :=
  match index, sub with
  | 0x1003, 0 => some (fxHistoryClear v)
  | 0x1010, n => some (fxStore path n v)
  | 0x1011, n => some (fxRestore path n v)
  | 0x1FD4, 0 => some (fxNmtRequest v)
  | 0x2802, 3 => some (fxNodeTableFlush (BitVec.ofNat 8 v))
  | 0x2803, 3 => some (fxStaticEntryWrite (BitVec.ofNat 32 v))
  | 0x2911, n => some (fxDomain n v)
  | 0x2921, 0 => some (fxBrownoutClear (BitVec.ofNat 64 v))
  | 0x2922, n => some (fxLatch n v)
  | 0x2B12, 0 => some (fxLogClear v)
  | 0x2B20, 6 => some (fxInjectionArm v)
  | 0x2B20, n => some (fxInjectionCell 0x2B20 n v)
  | 0x2B21, 0 => some (fxInjectionCell 0x2B21 0 v)
  | 0x2B30, 1 => some fun x => fxGridRestore v ((List.range 64).filter fun p => bit (x.freeNat 64) p) x.draw
  | 0x2B31, 0 => some (fxFenceJob v)
  | 0x2B50, 4 => some (fxReplacementClear v)
  | 0x2C10, 0 => some (fxCommit path v)
  | 0x2C21, 1 => some (fxUpdateControl path v)
  | 0x2C21, 2 => some (fxUpdateSize v)
  | _, _ => none

/-- The effect of a write of bytes to any writable object. -/
def odApply (path : Path) (index sub : Nat) (data : List Byte) : Effect :=
  let v := leNat data
  if index = 0x2C20 then fxImage path data.length
  else match fxQuery index sub v with
    | some e => e
    | none => match fxCommand path index sub v with
      | some e => e
      | none => fxSetting index sub v

/-- Steps 5 to 8 of R327 with the value's application. -/
def fxWrite (path : Path) (index sub : Nat) (data : List Byte) : Effect := fun x =>
  match odRow index sub with
  | none => .error 0x06090011
  | some r => match lengthCheck r.ty data with
    | some c => .error c
    | none => odApply path index sub data x

end Sys2Proof.Machine
end

