-- ==== Sys2Proof/Machine/Sdo.lean ====
section
/-! DEFINITION. The SDO server: expedited, segmented and block transfers on the node's one channel, and the rows whose effect
can answer a write that waits (R328 to R331, R338, R346, R435, R440). -/

namespace Sys2Proof.Machine

/-! ### Fields of a request frame -/

/-- Byte `i` of a frame. -/
def byteAt (data : List Byte) (i : Nat) : Nat := (data.getD i 0#8).toNat
/-- The multiplexor of an initiate request. -/
def frameIndex (data : List Byte) : Nat := leNat ((data.drop 1).take 2)
def frameSub (data : List Byte) : Nat := byteAt data 3
/-- Client command specifier. -/
def frameCcs (data : List Byte) : Nat := byteAt data 0 / 32

/-- One step of the CRC of CiA 301: polynomial x^16 + x^12 + x^5 + 1 over a byte, most significant bit first. -/
def sdoCrcByte : Nat → Nat → Nat
  | 0, c => c
  | n + 1, c => sdoCrcByte n (if bit c 15 then Nat.xor (c * 2 % 65536) 0x1021 else c * 2)
/-- The CRC of a block transfer's data, begun at 0. -/
def sdoCrc (bs : List Byte) : Nat := bs.foldl (fun c b => sdoCrcByte 8 (Nat.xor c (b.toNat * 256))) 0

/-- SDO is served in PRE-OPERATIONAL and OPERATIONAL (R328). -/
def State.sdoOpen (s : State) : Bool := s.pathOpen .sdo

/-! ### How a transfer ends -/

/-- The server aborts the transfer in progress; an image that it carried is ended with it (R435). -/
def State.sdoBreak (s : State) (d : Sdo) (code : Nat) : State :=
  let a := s.sdoAbort d.index d.sub code
  if d.index = 0x2C20 then a.imageEnded else a

/-- The client aborts the transfer in progress: no response (R330). -/
def State.sdoClientAbort (s : State) (d : Sdo) : State :=
  let a := (s.sdoIdle).bump32 0x1FE1 3
  if d.index = 0x2C20 then a.imageEnded else a

/-- The response to a write of `v` follows later: a store or restore, a COMMIT or BEGIN that a store makes wait, an image. -/
def State.defers (s : State) (index sub v : Nat) : Bool :=
  index == 0x1010 || index == 0x1011 || (index == 0x2C10 && s.fw.store.isSome)
    || (index == 0x2C21 && sub == 1 && v == 1 && s.fw.beginWait.isSome) || index == 0x2C20

/-- A download's value has arrived whole: it is checked and applied, and answered at once or later. `how` names the response:
0 initiate, 1 segment, 2 block end. A write that takes the node out of the states that serve SDO is not answered (log 55). -/
def State.sdoWrite (s : State) (how index sub : Nat) (toggle : Bool) (data : List Byte) : State :=
  match s.tryWrite index sub (fxWrite .sdo index sub data) with
  | .error c => s.sdoAbort index sub c
  | .ok t =>
    if t.sdoOpen = false then t.sdoIdle
    else if t.defers index sub (leNat data) then t.setSdo { sdo0 .waitWrite index sub t.now with seq := how, toggle := toggle }
    else t.downloadDone how index sub toggle

/-! ### Downloads -/

/-- Step 5 of R327 for a size that an initiate request states. -/
def sizeCheck (ty : OdTy) (n : Nat) : Option Nat :=
  if ty = .str ∨ ty = .domain then none
  else if ty.bytes < n then some 0x06070012 else if n < ty.bytes then some 0x06070013 else none

/-- What an initiate download that carries no value is aborted with: an image that cannot be written now or that another
path writes, or a stated size that is wrong. -/
def State.downCheck (s : State) (index sub : Nat) (size : Option Nat) : Option Nat :=
  if index = 0x2C20 then s.imageCheck size
  else match odRow index sub, size with
    | some r, some n => sizeCheck r.ty n
    | _, _ => none

/-- A segmented or block download begins. -/
def State.downBegin (s : State) (kind : SdoKind) (index sub : Nat) (size : Option Nat) (crc : Bool) : State :=
  let a := s.setSdo { sdo0 kind index sub s.now with size := size, blksize := 127, crc := crc }
  if index = 0x2C20 then { a with fw := { a.fw with imagePath := some .sdo } } else a

/-- Bytes of an expedited download: as the frame states, else the object's size (log 56). -/
def expeditedBytes (data : List Byte) : List Byte :=
  let b0 := byteAt data 0
  let own := match odRow (frameIndex data) (frameSub data) with
    | some r => r.ty.bytes
    | none => 4
  (data.drop 4).take (if bit b0 0 then 4 - bits b0 3 2 else min 4 own)

/-- Initiate download: an expedited value, or the start of a segmented download. -/
def State.sdoInitDown (s : State) (data : List Byte) : State :=
  let b0 := byteAt data 0
  let index := frameIndex data
  let sub := frameSub data
  match s.accessCheck true index sub with
  | some c => s.sdoAbort index sub c
  | none =>
    if bit b0 1 then s.sdoWrite 0 index sub false (expeditedBytes data)
    else
      let size := if bit b0 0 then some (leNat (data.drop 4)) else none
      match s.downCheck index sub size with
      | some c => s.sdoAbort index sub c
      | none => (s.downBegin .segDown index sub size false).sdoSend (natLe 1 0x60 ++ sdoMux index sub)

/-- A stated size that the data does not have. -/
def Sdo.sizeWrong (d : Sdo) (n : Nat) : Bool := match d.size with
  | some m => m != n
  | none => false

/-- Image bytes of a segment: programmed as they arrive; with the last byte the verification begins (R435). -/
def State.sdoImageSeg (s : State) (d : Sdo) (part : List Byte) (last : Bool) : State :=
  let pos := d.pos + part.length
  let want := s.cell 0x2C21 2
  if want < pos ∨ (last = true ∧ pos ≠ want) then s.sdoBreak d 0x06040043
  else
    let a := s.imageBytes part.length
    if pos = want then a.setSdo { d with kind := .waitWrite, seq := 1, pos := pos }
    else (a.setSdo { d with pos := pos, toggle := !d.toggle, lastAt := s.now }).sdoSend (natLe 1 (0x20 + flag d.toggle * 16))

/-- Download segment. -/
def State.sdoSegDown (s : State) (d : Sdo) (data : List Byte) : State :=
  let b0 := byteAt data 0
  let part := (data.drop 1).take (7 - bits b0 3 1)
  let all := d.data ++ part
  if bit b0 4 ≠ d.toggle then s.sdoBreak d 0x05030000
  else if d.index = 0x2C20 then s.sdoImageSeg d part (bit b0 0)
  else if bit b0 0 = false then
    (s.setSdo { d with data := all, toggle := !d.toggle, lastAt := s.now }).sdoSend (natLe 1 (0x20 + flag d.toggle * 16))
  else if d.sizeWrong all.length then s.sdoBreak d 0x06070010
  else s.sdoWrite 1 d.index d.sub d.toggle all

/-- Initiate block download: the server proposes 127 segments a block and has the CRC. -/
def State.sdoInitBlkDown (s : State) (data : List Byte) : State :=
  let b0 := byteAt data 0
  let index := frameIndex data
  let sub := frameSub data
  let size := if bit b0 1 then some (leNat (data.drop 4)) else none
  match s.accessCheck true index sub with
  | some c => s.sdoAbort index sub c
  | none => match s.downCheck index sub size with
    | some c => s.sdoAbort index sub c
    | none => (s.downBegin .blkDown index sub size (bit b0 2)).sdoSend (natLe 1 0xA4 ++ sdoMux index sub ++ natLe 1 127)

/-- A segment of a block. Of an image the segment before it is programmed, since the last one's length is known only at the
end. -/
def State.sdoBlkSeg (s : State) (d : Sdo) (data : List Byte) : State :=
  let b0 := byteAt data 0
  let image := d.index = 0x2C20
  if bits b0 6 0 ≠ d.seq + 1 then s.sdoBreak d 0x05040003
  else if image ∧ s.cell 0x2C21 2 ≤ d.data.length then s.sdoBreak d 0x06040043
  else
    let a := if image ∧ d.data ≠ [] then s.imageBytes 7 else s
    let d1 : Sdo := { d with data := d.data ++ data.drop 1, seq := d.seq + 1, lastAt := s.now }
    let ack := natLe 1 0xA2 ++ natLe 1 d1.seq ++ natLe 1 127
    if bit b0 7 then (a.setSdo { d1 with kind := .blkDownEnd }).sdoSend ack
    else if d1.seq = d.blksize then (a.setSdo { d1 with seq := 0 }).sdoSend ack
    else a.setSdo d1

/-- End block download. -/
def State.sdoBlkDownEnd (s : State) (d : Sdo) (data : List Byte) : State :=
  let n := bits (byteAt data 0) 4 2
  let all := d.data.take (d.data.length - n)
  if d.crc = true ∧ sdoCrc all ≠ leNat ((data.drop 1).take 2) then s.sdoBreak d 0x05040004
  else if d.index = 0x2C20 then
    if all.length ≠ s.cell 0x2C21 2 then s.sdoBreak d 0x06040043
    else (s.imageBytes (7 - n)).setSdo { d with kind := .waitWrite, seq := 2, data := [] }
  else if d.sizeWrong all.length then s.sdoBreak d 0x06070010
  else s.sdoWrite 2 d.index d.sub false all

/-! ### Uploads -/

/-- A value leaves expedited: 1 to 4 bytes of a numeric object (R329). -/
def expedited (index sub : Nat) : Bool := match odRow index sub with
  | some r => r.ty != .str && r.ty != .domain && decide (r.ty.bytes ≤ 4)
  | none => false

/-- Initiate upload: the value is captured now (R329). -/
def State.sdoInitUp (s : State) (data : List Byte) : State :=
  let index := frameIndex data
  let sub := frameSub data
  match s.odRead index sub with
  | .error c => s.sdoAbort index sub c
  | .ok bs =>
    let a := s.draw
    if expedited index sub then a.sdoDone (natLe 1 (0x43 + (4 - bs.length) * 4) ++ sdoMux index sub ++ bs)
    else (a.setSdo { sdo0 .segUp index sub s.now with data := bs }).sdoSend
      (natLe 1 0x41 ++ sdoMux index sub ++ natLe 4 bs.length)

/-- Upload segment. -/
def State.sdoSegUp (s : State) (d : Sdo) (data : List Byte) : State :=
  let part := (d.data.drop d.pos).take 7
  let last := decide (d.data.length ≤ d.pos + 7)
  let resp := natLe 1 (flag d.toggle * 16 + (7 - part.length) * 2 + flag last) ++ part
  if bit (byteAt data 0) 4 ≠ d.toggle then s.sdoBreak d 0x05030000
  else if last then s.sdoDone resp
  else (s.setSdo { d with pos := d.pos + 7, toggle := !d.toggle, lastAt := s.now }).sdoSend resp

/-- A block size is 1 to 127 (R329). -/
def blksizeOk (n : Nat) : Bool := decide (1 ≤ n) && decide (n ≤ 127)

/-- Initiate block upload. The protocol switch threshold is not used. -/
def State.sdoInitBlkUp (s : State) (data : List Byte) : State :=
  let index := frameIndex data
  let sub := frameSub data
  match s.odRead index sub with
  | .error c => s.sdoAbort index sub c
  | .ok bs =>
    if blksizeOk (byteAt data 4) = false then s.sdoAbort index sub 0x05040002
    else ((s.draw).setSdo { sdo0 .blkUpStart index sub s.now with
        data := bs, blksize := byteAt data 4, crc := bit (byteAt data 0) 2 }).sdoSend
      (natLe 1 0xC6 ++ sdoMux index sub ++ natLe 4 bs.length)

/-- The next block of segments leaves, from byte `pos`. -/
def State.sdoBlock (s : State) (d : Sdo) : State :=
  let rest := d.data.drop d.pos
  let n := max 1 ((rest.length + 6) / 7)
  let k := min n d.blksize
  let a := each (List.range k) (fun x i =>
    x.sdoSend (natLe 1 (i + 1 + flag (i + 1 == n) * 128) ++ (rest.drop (7 * i)).take 7)) s
  a.setSdo { d with kind := .blkUp, seq := k, lastAt := s.now }

/-- The client acknowledges a block: the next one starts after the last segment it has, or the transfer's end is
announced with the CRC, which is 0 for a client without it. -/
def State.sdoBlkAck (s : State) (d : Sdo) (data : List Byte) : State :=
  let ack := byteAt data 1
  let pos := d.pos + 7 * ack
  if d.seq < ack then s.sdoBreak d 0x05040003
  else if blksizeOk (byteAt data 2) = false then s.sdoBreak d 0x05040002
  else if ack = d.seq ∧ d.data.length ≤ pos then
    (s.setSdo { d with kind := .blkUpEnd, lastAt := s.now }).sdoSend
      (natLe 1 (0xC1 + (pos - d.data.length) * 4) ++ natLe 2 (if d.crc then sdoCrc d.data else 0))
  else s.sdoBlock { d with pos := pos, blksize := byteAt data 2 }

/-! ### The server (R330) -/

/-- A frame while no transfer is in progress. -/
def State.sdoFresh (s : State) (data : List Byte) : State :=
  let b0 := byteAt data 0
  match frameCcs data with
  | 1 => s.sdoInitDown data
  | 2 => s.sdoInitUp data
  | 4 => s.bump32 0x1FE1 3
  | 5 => if b0 % 4 = 0 then s.sdoInitBlkUp data else s.sdoAbort 0 0 0x05040001
  | 6 => if b0 % 2 = 0 then s.sdoInitBlkDown data else s.sdoAbort 0 0 0x05040001
  | _ => s.sdoAbort 0 0 0x05040001

/-- A frame while a transfer is in progress: the one expected next, or the transfer ends. -/
def State.sdoNext (s : State) (d : Sdo) (data : List Byte) : State :=
  let b0 := byteAt data 0
  let bad := s.sdoBreak d 0x05040001
  match d.kind with
  | .segDown => if frameCcs data = 0 then s.sdoSegDown d data else bad
  | .segUp => if frameCcs data = 3 then s.sdoSegUp d data else bad
  | .blkDown => s.sdoBlkSeg d data
  | .blkDownEnd => if frameCcs data = 6 ∧ b0 % 2 = 1 then s.sdoBlkDownEnd d data else bad
  | .blkUpStart => if frameCcs data = 5 ∧ b0 % 4 = 3 then s.sdoBlock d else bad
  | .blkUp => if frameCcs data = 5 ∧ b0 % 4 = 2 then s.sdoBlkAck d data else bad
  | .blkUpEnd => if frameCcs data = 5 ∧ b0 % 4 = 1 then (s.sdoIdle).bump32 0x1FE1 1 else bad
  | .waitWrite => s

/-- The server takes a request frame. While a write waits the first frame is held and others are ignored. A byte 0x80 is an
abort also where a segment is expected, whose sequence number is never 0. -/
def State.sdoFrame (s : State) (data : List Byte) : State :=
  match s.can.sdo with
  | none => s.sdoFresh data
  | some d =>
    if d.kind = .waitWrite then
      if s.can.sdoHeld.isSome then s else { s with can := { s.can with sdoHeld := some data } }
    else if (if d.kind = .blkDown then byteAt data 0 = 0x80 else frameCcs data = 4) then s.sdoClientAbort d
    else s.sdoNext d data

/-- The frame held during a wait is served once the write is answered, as though it had arrived then (R330). -/
def State.heldServe (s : State) : State :=
  match s.can.sdo, s.can.sdoHeld with
  | none, some f =>
    let a := { s with can := { s.can with sdoHeld := none } }
    if a.sdoOpen then a.sdoFrame f else a
  | _, _ => s

/-- A request frame arrives. Its length is 8, or it is ignored (R328). -/
def State.sdoServe (s : State) (data : List Byte) : State :=
  if data.length = 8 ∧ s.sdoOpen = true then s.canGot.sdoFrame data else if s.canUp then s.canHeard else s

/-- A frame may arrive as a row's request: it has the row's specifier, or one that no service has, or a block is being
downloaded, where every frame is a segment. -/
def State.sdoFits (s : State) (data : List Byte) (row : Bool) : Bool :=
  row || frameCcs data == 7 || match s.can.sdo with
    | some d => d.kind == .blkDown
    | none => false

/-- A row's request frame. -/
def State.sdoRow (s : State) (data : List Byte) (row : Bool) : Host.Outcome State Fault Refusal :=
  whenSettled (s.sdoFits data row) s (s.sdoServe data)

/-- SDO_INITIATE_DOWNLOAD (R329). -/
def execSdoInitiateDownload (data : List Byte) (s : State) : Host.Outcome State Fault Refusal :=
  s.sdoRow data (frameCcs data == 1)
/-- SDO_DOWNLOAD_SEGMENT (R329). -/
def execSdoDownloadSegment (data : List Byte) (s : State) : Host.Outcome State Fault Refusal :=
  s.sdoRow data (frameCcs data == 0)
/-- SDO_INITIATE_UPLOAD (R329). -/
def execSdoInitiateUpload (data : List Byte) (s : State) : Host.Outcome State Fault Refusal :=
  s.sdoRow data (frameCcs data == 2)
/-- SDO_UPLOAD_SEGMENT (R329). -/
def execSdoUploadSegment (data : List Byte) (s : State) : Host.Outcome State Fault Refusal :=
  s.sdoRow data (frameCcs data == 3)
/-- SDO_BLOCK_DOWNLOAD_INITIATE (R329). -/
def execSdoBlockDownloadInitiate (data : List Byte) (s : State) : Host.Outcome State Fault Refusal :=
  s.sdoRow data (frameCcs data == 6 && byteAt data 0 % 2 == 0)
/-- SDO_BLOCK_DOWNLOAD_SUBBLOCK (R329): the segments of a block, in the order they arrive. -/
def execSdoBlockDownloadSubblock (segments : List (List Byte)) (s : State) : Host.Outcome State Fault Refusal :=
  whenSettled true s (each segments State.sdoServe s)
/-- SDO_BLOCK_DOWNLOAD_END (R329). -/
def execSdoBlockDownloadEnd (data : List Byte) (s : State) : Host.Outcome State Fault Refusal :=
  s.sdoRow data (frameCcs data == 6 && byteAt data 0 % 2 == 1)
/-- SDO_BLOCK_UPLOAD_INITIATE (R329). -/
def execSdoBlockUploadInitiate (data : List Byte) (s : State) : Host.Outcome State Fault Refusal :=
  s.sdoRow data (frameCcs data == 5 && byteAt data 0 % 4 == 0)
/-- SDO_BLOCK_UPLOAD_START (R329). -/
def execSdoBlockUploadStart (data : List Byte) (s : State) : Host.Outcome State Fault Refusal :=
  s.sdoRow data (frameCcs data == 5 && byteAt data 0 % 4 == 3)
/-- SDO_BLOCK_UPLOAD_ACK (R329). -/
def execSdoBlockUploadAck (data : List Byte) (s : State) : Host.Outcome State Fault Refusal :=
  s.sdoRow data (frameCcs data == 5 && byteAt data 0 % 4 == 2)
/-- SDO_BLOCK_UPLOAD_END (R329). -/
def execSdoBlockUploadEnd (data : List Byte) (s : State) : Host.Outcome State Fault Refusal :=
  s.sdoRow data (frameCcs data == 5 && byteAt data 0 % 4 == 1)
/-- SDO_ABORT_RECEIVE (R330). -/
def execSdoAbortReceive (data : List Byte) (s : State) : Host.Outcome State Fault Refusal :=
  s.sdoRow data (frameCcs data == 4)

/-- SDO_TIMEOUT (R331): the gap between two frames of a transfer exceeds 0x1FE0:01. -/
def execSdoTimeout (s : State) : Host.Outcome State Fault Refusal :=
  match s.can.sdo with
  | none => .next s
  | some d =>
    whenSettled (s.sdoOpen && d.kind != .waitWrite) s <|
      ((s.advanceTo (d.lastAt + s.setting 0x1FE0 1 * psMs)).sdoBreak d 0x05040000).fire 0x0D07 0 0

/-! ### Stores that end (R338, R339, R440) -/

/-- The store in progress has ended: its record is current, or it has failed; a COMMIT goes on; the write is answered. Defaults
restored to the communication area stand for a node ID or rate written before. -/
def State.storeEnded (s : State) (j : StoreJob) (written : Bool) : State :=
  let a := { s with fw := { s.fw with store := none } }
  if written then
    let b := ({ a with fw := { a.fw with records := a.fw.records ++ j.record.toList } }).bump32 0x1FE3 1
    let c := if j.index = 0x1011 ∧ bit j.areas 0 = true then { b with can := { b.can with rateNew := false, idNew := false } } else b
    (if j.kind = 2 then c.commitRest else c).answer j.path j.index j.sub none
  else
    let b := ({ a with fw := { a.fw with commit := none } }).bump32 0x1FE3 2
    b.answer j.path j.index j.sub (some 0x06060000)

/-- The requests that wait for the store take their turn: COMMITs that need no store end at once, the next store begins,
and with none left a BEGIN that waits takes effect. -/
def storeNext : Nat → State → State
  | 0, s => s
  | fuel + 1, s =>
    match s.fw.storeWait with
    | j :: rest =>
      let a := { s with fw := { s.fw with storeWait := rest } }
      if j.kind = 3 then
        let b := a.commitStart j.path
        if b.fw.store.isSome then b else storeNext fuel (b.answer j.path 0x2C10 0 none)
      else a.jobStart j
    | [] => match s.fw.beginWait with
      | some p => s.updateStart.answer p 0x2C21 1 none
      | none => s

/-- STORE_DONE (R338, R339, R440): the record has been written, or the SPI NOR has failed. -/
def execStoreDone (written : Bool) (s : State) : Host.Outcome State Fault Refusal :=
  match s.fw.store with
  | none => .next s
  | some j =>
    whenSettled s.up.collar s (storeNext (s.fw.storeWait.length + 1) (s.storeEnded j written)).heldServe

/-! ### Update rows that can answer a waiting write (R435) -/

/-- UPDATE_CANCEL (R435): a write of 2 to 0x2C21:01. -/
def execUpdateCancel (path : Path) (s : State) : Host.Outcome State Fault Refusal :=
  s.odWrite path 0x2C21 1 fun x => match fxUpdateCancel x with
    | .ok t => .ok t.heldServe
    | .error c => .error c

/-- IMAGE_DATA_WRITE (R435): bytes of a write to 0x2C20 that no SDO or mailbox row carries are programmed, or the programming
of what such a row has carried fails. -/
def execImageDataWrite (data : List Byte) (ok : Bool) (s : State) : Host.Outcome State Fault Refusal :=
  let open_ := s.fw.upd == .ready || s.fw.upd == .writing
  if ok then
    whenSettled (open_ && s.fw.imagePath.isNone && decide (1 ≤ data.length) && decide (s.fw.updBytes + data.length ≤ s.cell 0x2C21 2)) s
      (s.imageBytes data.length)
  else whenSettled (s.fw.upd == .writing || (open_ && decide (1 ≤ data.length))) s s.programError.heldServe

/-- IMAGE_UPDATE_VERIFY (R427, R435): the written image is read back and verified, and its write is answered. -/
def execImageUpdateVerify (m : Manifest) (checks : ImageChecks) (s : State) : Host.Outcome State Fault Refusal :=
  whenSettled (s.fw.upd == .verifying) s (s.updateVerify m checks).heldServe

/-- DICTIONARY_WRITE (R326, R327): a write of bytes to an object by a path, checked in order and applied whole. -/
def execDictionaryWrite (path : Path) (index : W16) (sub : Byte) (data : List Byte) (s : State) :
    Host.Outcome State Fault Refusal :=
  s.odWriteSettled path index.toNat sub.toNat fun x => match fxWrite path index.toNat sub.toNat data x with
    | .ok t => .ok t.heldServe
    | .error c => .error c

end Sys2Proof.Machine
end

