-- ==== Sys2Proof/Machine/Mailbox.lean ====
section
/-! DEFINITION. The management window: the mirror and the mailbox of each function (R341 to R346). -/

namespace Sys2Proof.Machine

/-- The path of a function. -/
def pathOf : Fn → Path
  | .hostA => .hostA
  | .hostB => .hostB

/-! ### The mirror (R342) -/

/-- The 64-bit value of a mirror slot: zero for strings, DOMAINs, objects that do not exist and units that do not run;
INTEGER types are sign-extended. -/
def State.slotValue (s : State) (index sub : Nat) : Nat :=
  match odRow index sub with
  | none => 0
  | some r =>
    if r.ty = .str ∨ r.ty = .domain ∨ s.served index = false then 0
    else
      let v := s.odNum index sub % 2 ^ (8 * r.ty.bytes)
      if r.ty = .i16 ∨ r.ty = .i32 then unsigned 64 (signed (8 * r.ty.bytes) v) else v

/-- The byte at an offset of the mirror. -/
def State.mirrorByte (s : State) (off : Nat) : Byte :=
  BitVec.ofNat 8 (s.slotValue (0x1000 + off / 2048) (off / 8 % 256) / 256 ^ (off % 8))

/-- MIRROR_READ (R342): `n` bytes at an offset of the mirror, captured at one instant. -/
def execMirrorRead (f : Fn) (off n : Nat) (s : State) : Host.Outcome State Fault Refusal :=
  whenDue (s.windowUp f && decide (1 ≤ n) && decide (off + n ≤ 0xE80000)) s <|
    let o : Output := .hostRead f ((List.range n).map fun i => s.mirrorByte (off + i)) false
    ({ s with out := s.out ++ [o] }).draw

/-- MIRROR_WRITE (R342): ignored and counted. -/
def execMirrorWrite (f : Fn) (off : Nat) (s : State) : Host.Outcome State Fault Refusal :=
  whenDue (s.windowUp f && decide (off < 0xE80000)) s (s.bump32 0x1FE2 4)

/-! ### The mailbox (R343 to R345) -/

/-- The outcome of the request that a mailbox carries is known: abort code, or 0, and the bytes read. A mailbox that has been
reset meanwhile reports nothing. -/
def State.boxAnswer (s : State) (f : Fn) (code : Nat) (bs : List Byte) : State :=
  let b := s.box f
  let a := if code = 0 then s else s.aborted (pathOf f) b.index b.sub code
  if b.busy then a.setBox f { b with answer := some (code, bs, false) } else a

/-- The registers and the buffer as the driver writes them, with GO taken: BUSY, the last request's bits and CODE clear. The
reserved bits of CMD are not kept (R16). -/
def Mailbox.go (b : Mailbox) (r : MailReq) : Mailbox :=
  { b with
    cmd := r.index.toNat + r.sub.toNat * 2 ^ 16 + r.op.toNat * 2 ^ 24 + flag r.more * 2 ^ 27
    len := r.len.toNat % 2 ^ 17, offset := r.offset.toNat, busy := true, done := false, aborted := false, remain := false
    code := 0, buf := (r.data ++ b.buf.drop r.data.length).take 65536, answer := none }

/-- The data of a WRITE: LEN bytes from the start of the buffer. -/
def Mailbox.data (b : Mailbox) : List Byte := pad b.len b.buf

/-- A request that is aborted whatever it names: a reserved OP, a reserved field set, a LEN beyond the buffer (R344). -/
def reqBad (r : MailReq) : Bool :=
  r.op == 0 || decide (4 ≤ r.op.toNat) || r.reserved != 0 || decide (65536 < r.len.toNat % 2 ^ 17)

/-- The object is a DOMAIN. -/
def isDomain (index sub : Nat) : Bool := match odRow index sub with
  | some r => r.ty == .domain
  | none => false

/-- The request has OFFSET or MORE on an object that is no DOMAIN (R345). -/
def chunkBad (r : MailReq) : Bool :=
  (odRow r.index.toNat r.sub.toNat).isSome && !isDomain r.index.toNat r.sub.toNat && (r.offset != 0 || r.more)

/-- The function's DOMAIN transfer is over. -/
def State.chunkEnd (s : State) (f : Fn) : State :=
  match (s.box f).chunk with
  | none => s
  | some _ => (s.setBox f { s.box f with chunk := none }).imageEnded

/-- A READ: the value whole, at the start of the buffer. The dictionary has no readable DOMAIN. -/
def State.boxRead (s : State) (f : Fn) (r : MailReq) : State :=
  let index := r.index.toNat
  let sub := r.sub.toNat
  if chunkBad r then s.boxAnswer f 0x06040043 []
  else if isDomain index sub ∧ (s.box f).len = 0 then s.boxAnswer f 0x05040001 []
  else match s.odRead index sub with
    | .error c => s.boxAnswer f c []
    | .ok bs => (s.draw).boxAnswer f 0 bs

/-- Bytes of a chunk of the image. The last byte of the image makes the request wait for the verification. -/
def State.boxImage (s : State) (f : Fn) (c : Chunked) (n : Nat) (more : Bool) : State :=
  let want := s.cell 0x2C21 2
  let pos := c.pos + n
  if want < pos ∨ (more = false ∧ pos ≠ want) then (s.chunkEnd f).boxAnswer f 0x06040043 []
  else
    let a := s.imageBytes n
    if pos = want then a.setBox f { a.box f with chunk := none }
    else (a.setBox f { a.box f with chunk := some { c with pos := pos, lastAt := s.now } }).boxAnswer f 0 []

/-- A WRITE to the DOMAIN 0x2C20, whole or in chunks (R345, R435). A chunk out of order is aborted and the transfer stays
(log 57). -/
def State.boxDomain (s : State) (f : Fn) (r : MailReq) : State :=
  let b := s.box f
  if r.offset = 0 then
    match (s.accessCheck true 0x2C20 0).or (s.imageCheck (if r.more then none else some b.len)) with
    | some c => s.boxAnswer f c []
    | none =>
      let c : Chunked := { index := 0x2C20, sub := 0, write := true, data := [], pos := 0, lastAt := s.now }
      let a := { s with fw := { s.fw with imagePath := some (pathOf f) } }
      (a.setBox f { b with chunk := some c }).boxImage f c b.len r.more
  else match b.chunk with
    | some c => if c.pos = r.offset.toNat then s.boxImage f c b.len r.more else s.boxAnswer f 0x05040003 []
    | none => s.boxAnswer f 0x05040003 []

/-- A WRITE: checked and applied as by SDO; a store, a BEGIN that waits and the like are answered later. -/
def State.boxWrite (s : State) (f : Fn) (r : MailReq) : State :=
  let index := r.index.toNat
  let sub := r.sub.toNat
  let data := (s.box f).data
  if chunkBad r then s.boxAnswer f 0x06040043 []
  else if isDomain index sub then s.boxDomain f r
  else match s.tryWrite index sub (fxWrite (pathOf f) index sub data) with
    | .error c => s.boxAnswer f c []
    | .ok t => if t.defers index sub (leNat data) then t.heldServe else (t.boxAnswer f 0 []).heldServe

/-- A GO: ignored and counted while BUSY, else the request is performed by `run`. -/
def State.boxGo (s : State) (f : Fn) (r : MailReq) (run : State → State) : State :=
  if (s.box f).busy then s.bump32 0x1FE2 3
  else
    let a := (s.setBox f ((s.box f).go r)).bump32 0x1FE2 1
    if reqBad r then a.boxAnswer f 0x05040001 [] else run a

/-- A row's request: its own OP, or a reserved one, which is aborted alike by each of the three rows. -/
def opFits (r : MailReq) (op : Nat) : Bool := r.op.toNat == op || r.op == 0 || decide (4 ≤ r.op.toNat)

/-- MAILBOX_READ (R344). -/
def execMailboxRead (f : Fn) (req : MailReq) (s : State) : Host.Outcome State Fault Refusal :=
  whenSettled (s.windowUp f && opFits req 1) s (s.boxGo f req fun x => x.boxRead f req)

/-- MAILBOX_WRITE (R344, R345). -/
def execMailboxWrite (f : Fn) (req : MailReq) (s : State) : Host.Outcome State Fault Refusal :=
  whenSettled (s.windowUp f && opFits req 2) s (s.boxGo f req fun x => x.boxWrite f req)

/-- MAILBOX_ABORT (R345): the function's transfer in progress ends and nothing is written. -/
def execMailboxAbort (f : Fn) (req : MailReq) (s : State) : Host.Outcome State Fault Refusal :=
  whenSettled (s.windowUp f && opFits req 3) s (s.boxGo f req fun x => (x.chunkEnd f).boxAnswer f 0 [])

/-- The completion of a request as its registers show it (R344). -/
def Mailbox.complete (b : Mailbox) (code : Nat) (bs : List Byte) : Mailbox :=
  let read := bits b.cmd 26 24 = 1 ∧ code = 0
  { b with
    busy := false, done := true, aborted := code != 0, code := code, answer := none
    buf := if read then (bs ++ b.buf.drop bs.length).take 65536 else b.buf
    len := if read then bs.length else b.len }

/-- MAILBOX_COMPLETE (R344): the value is in the buffer, BUSY clears, DONE is set, the vector is raised. -/
def execMailboxComplete (f : Fn) (s : State) : Host.Outcome State Fault Refusal :=
  let b := s.box f
  match b.answer with
  | none => .next s
  | some (code, bs, _) =>
    whenDue b.busy s <|
      let a := s.setBox f (b.complete code bs)
      let c := if code = 0 then a else a.bump32 0x1FE2 2
      if b.vectorEnable then c.raise f b.vector else c

/-- MAILBOX_DONE_CLEAR (R343): a write of 1 to DONE clears it with ABORTED and REMAIN; ignored while BUSY. -/
def execMailboxDoneClear (f : Fn) (s : State) : Host.Outcome State Fault Refusal :=
  let b := s.box f
  whenDue (s.windowUp f && !b.busy) s (s.setBox f { b with done := false, aborted := false, remain := false })

/-- MAILBOX_CHUNK_TIMEOUT (R345): the gap between two chunks exceeds 0x1FE0:01. -/
def execMailboxChunkTimeout (f : Fn) (s : State) : Host.Outcome State Fault Refusal :=
  match (s.box f).chunk with
  | none => .next s
  | some c =>
    whenSettled true s <|
      let a := ((s.advanceTo (c.lastAt + s.setting 0x1FE0 1 * psMs)).chunkEnd f).aborted (pathOf f) c.index c.sub 0x05040000
      (a.setBox f { a.box f with code := 0x05040000 }).bump32 0x1FE2 2

end Sys2Proof.Machine
end

