-- ==== Sys2Proof/Machine/Injection.lean ====
section
/-! DEFINITION. The injection point at work: what an injected firing counts, reports and, in mode ACT, does (R421, R422). -/

namespace Sys2Proof.Machine

/-! ### Counting and reporting (R422) -/

/-- The subsystem counter of a detector that is not the detector's own count, for unit `u` (R116, R144, R155, R218, R244, R280,
R298, R87). -/
def State.injCount (s : State) (d u : Nat) : State :=
  let tile := fun (off : Nat) => match s.unitTile u with
    | some k => s.tileBump k off 1
    | none => s
  match d with
  | 0x0105 => tile 0x4C
  | 0x0201 => tile 0x1CC
  | 0x0203 => tile 0x1C8
  | 0x0209 => tile 0x1D0
  | 0x0301 => s.bump64 0x2600 2
  | 0x0302 => s.bump64 0x2600 4
  | 0x0303 => s.bump64 0x2600 5
  | 0x0304 => s.bump64 0x2600 7
  | 0x0305 => s.bump64 0x2600 0xC
  | 0x0307 => s.bump64 0x2600 0xE
  | 0x0501 => s.segCount u 5 1
  | 0x0502 => s.segCount u 6 1
  | 0x0503 => s.segCount u 4 1
  | 0x0504 => s.bump64 0x2403 9
  | 0x0505 => s.bump64 0x2403 3
  | 0x0602 => s.segCount u 7 1
  | 0x0603 => s.segCount u 8 1
  | 0x0604 => s.segCount u 9 1
  | 0x0703 => s.bump64 0x2501 3
  | 0x0704 => s.bump64 0x2501 3
  | 0x0705 => s.bump64 0x2501 4
  | 0x0706 => s.bump64 0x2501 7
  | 0x070A => s.bump64 0x2501 8
  | 0x0802 => s.portCount u 5 1
  | 0x0803 => s.portCount u 7 1
  | 0x0804 => s.portCount u 8 1
  | 0x0805 => s.portCount u 9 1
  | 0x0808 => s.portCount u 0xC 1
  | 0x0806 => s.bump64 0x2802 8
  | 0x0841 => s.bump64 0x2702 3
  | 0x0842 => s.bump64 0x2702 4
  | 0x0844 => s.bump64 0x2702 0xA
  | 0x0901 => s.beatCount 3
  | 0x0902 => s.beatCount 0xB
  | 0x0903 => s.beatCount 9
  | 0x0904 => s.beatCount 7
  | 0x0905 => s.beatCount 0xC
  | 0x0906 => s.beatCount 0xA
  | 0x0907 => s.beatCount 4
  | 0x0908 => s.beatCount 6
  | _ => s

/-- The EMCY, with its event, that a firing of a detector on unit `u` makes, where the unit gives all that it carries (the
emergency tables of chapters 2, 10, 11, 12 and 14). -/
def State.injReport (s : State) (d u : Nat) : State :=
  match d with
  | 0x0903 => s.emcy 0xFF13 d
  | 0x0904 => s.emcy 0xFF10 d
  | 0x0905 => s.emcy 0xFF11 d
  | 0x0A01 => s.emcyPower 0xFF60 d u
  | 0x0A02 => s.emcyPower 0xFF61 d u
  | 0x0A03 => s.emcyPower 0xFF60 d u
  | 0x0A04 => s.emcyPower 0xFF61 d u
  | 0x0A05 => s.emcyPower 0xFF62 d u
  | 0x0A06 => s.emcyPower 0xFF6A d u
  | 0x0A07 => s.emcyPower 0xFF6A d u
  | 0x0A0B => s.emcyPower 0xFF63 d 1
  | 0x0A0C => s.emcyPower 0xFF64 d 0
  | 0x0A0D => s.emcyPower 0xFF65 d 1
  | 0x0B01 => s.emcyPower 0xFF67 d u
  | 0x0B02 => s.emcyPower 0xFF67 d u
  | 0x0B04 => s.emcyPower 0xFF68 d 0
  | 0x0C07 => s.emcyEvent 0xFF76 d (natLe 1 (s.cell 0x2B50 3))
  | 0x0D01 => s.emcy 0x8120 d
  | 0x0D03 => s.emcy 0x8130 d
  | 0x0D05 => s.emcyEvent 0xFF22 d (natLe 4 2048)
  | 0x0D06 => s.emcy 0xFF21 d
  | 0x0D08 => s.emcy 0x8210 d
  | _ => s

/-- An injected firing that only counts, logs and reports. -/
def State.injFire (s : State) (d u : Nat) : State :=
  let kind := if d = 0x0C05 then s.cell 0x2B20 9 else 0
  ((s.injCount d u).fireFull d u 0 kind true).injReport d u

/-! ### Consequences (R422) -/

/-- The physical edge that a seam cost sub-index names now. -/
def State.edgeOf (s : State) (u : Nat) : Option Nat := ((List.range 144).map (· + 1)).find? fun e => s.wafer.edgeUnit e == u
/-- The lowest of `n` lanes that has not failed. -/
def freeLane (n m : Nat) : Option Nat := (List.range n).find? fun i => !bit m i

/-- A lane of an edge's first direction fails; for 0x0402 as many as its third failure needs. -/
def State.injLane (s : State) (u : Nat) (third : Bool) : Option State :=
  match s.edgeOf u with
  | none => none
  | some e =>
    let m := s.wafer.laneFail.get 0 (e * 2)
    let pre := fun (v : Nat) => match freeLane 14 v with
      | some l => if popcount 14 v < 2 then setBit v l else v
      | none => v
    let v := if third then pre (pre m) else m
    match freeLane 14 v with
    | some l =>
      let a := { s with wafer := { s.wafer with laneFail := if third then s.wafer.laneFail.set (e * 2) v else s.wafer.laneFail } }
      some (a.laneFails e 0 l s.beat.n)
    | none => none

/-- The panels and axes of pass-through lanes. -/
def passKeys : List (Nat × Nat) := allPanels.flatMap fun p => [(p, 0), (p, 1)]
/-- A pass-through lane fails that is reported by sub-index `u`. -/
def State.injPass (s : State) (u : Nat) : Option State :=
  match passKeys.find? fun k => s.wafer.passUnit k.1 k.2 == u with
  | none => none
  | some k =>
    let key := k.1 * 2 + k.2
    let m := s.wafer.passFail.get 0 key
    match freeLane 12 m with
    | some l => some (({ s with wafer := { s.wafer with passFail := s.wafer.passFail.set key (setBit m l) } }).fire 0x0403 u 0)
    | none => none

/-- A tile's consequences. What a real trap or violation would say of its core, address and cause, and an injection does not,
is a free value. -/
def State.injTile (s : State) (d k : Nat) : Option State :=
  let f := s.freeNat 64
  match d with
  | 0x0101 => some (s.tileFails k d)
  | 0x0102 => some (s.tileFails k d)
  | 0x0103 => some ((s.draw).trap k (if bit f 0 then .pc1 else .pc0) (f / 2 % 16) (f / 32 % 2 ^ 32))
  | 0x0104 => some (s.programFault k)
  | 0x0201 => some ((s.draw).boundFault k .a (f % 2 ^ 13) (f / 2 ^ 13 % 8) false)
  | 0x0202 => some ((s.draw).boundFault k .a (f % 2 ^ 13) (f / 2 ^ 13 % 8) true)
  | 0x0203 => some ((s.draw).coldRead k .a (f % 2 ^ 13) (f / 2 ^ 13 % 8))
  | 0x0204 => some ((s.draw).taskFault k .bankConflict d (some (violWord (f % 2 ^ 22) 3 (f / 2 ^ 22 % 8))))
  | 0x0205 => some (s.taskFault k .badCommand d none)
  | 0x0206 => some (s.taskFault k .badCommand d none)
  | 0x0208 => some (s.tileFails k d)
  | _ => none

/-- A segment's consequences. -/
def State.injSeg (s : State) (d g : Nat) : Option State :=
  let x := s.seg g
  match d with
  | 0x0502 => some (((s.segCount g 6 1).fire d g 1).suspect (.dram g) d)
  | 0x0601 => some (s.flashDown g)
  | 0x0602 => x.cmds.cells.head?.map fun c => s.nvmeTimeout g c.1 c.2
  | 0x0603 => (x.cmds.cells.find? fun c => c.2.op == 2).map fun c =>
      (((s.setSeg g { x with cmds := x.cmds.erase c.1, timeouts := 0 }).segCount g 8 1).fire d g 0).nvmeFail g c.2 d
  | 0x0605 => if x.flash = .inService then some (s.nvmeReset g) else none
  | 0x0606 => some (((s.setSeg g { x with flash := .rejected, queues := 0, entries := 0, timeouts := 0 }).fire d g 0).nvmeFailAll g d)
  | 0x0607 => some ((s.setSeg g { x with warning := 1 }).fire d g 0)
  | _ => none

/-- Consequences of host functions, ports, connections and the beat unit. -/
def State.injLink (s : State) (d u : Nat) : Option State :=
  let f := s.freeNat 64
  match d with
  | 0x0701 => if (s.host (fnOf u)).up then some (s.linkDrop (fnOf u)) else none
  | 0x0702 => some (((s.setHost (fnOf u) { s.host (fnOf u) with flr := true }).fire d u 6).suspect (.owner 1 u) d)
  | 0x0707 => some ((s.setHost (fnOf u) { s.host (fnOf u) with aer := true }).fire d u 0)
  | 0x0801 => if (s.portOf u).link then some (s.portDown u) else none
  | 0x0844 => match s.conns.find u with
      | some c => if c.st = .opened then some ((s.draw).connError u (f % 256) (f / 256 % 2 ^ 24)) else none
      | none => none
  | 0x0845 => match s.conns.find u with
      | some c => if c.st = .opened then some (s.connFail u c) else none
      | none => none
  | 0x0904 => if s.beat.lock = .locked then some s.loseLock else none
  | 0x0905 => if s.beat.lock = .holdover then some s.limitReached else none
  | _ => none

/-- A power domain's rail. -/
def railOf (d : Nat) : OtherRail :=
  if d = 0 then .yoke
  else if d < 17 then .hem (Fin.ofNat 16 (d - 1)) false
  else if d < 19 then .host (fnOf (d - 17))
  else if d < 27 then .net (Fin.ofNat 8 (d - 19))
  else if d < 163 then .seamR (Fin.ofNat 8 (d - 155))
  else .seamC (Fin.ofNat 8 (d - 163))

/-- A brown-out of a panel, released at once: its cap stays as another cause leaves it. -/
def State.injBrown (s : State) (d u : Nat) : State :=
  let a := (s.fire d u 0).brownOut u d
  a.setPanelPower u { a.panelPower u with srcBrown := (s.panelPower u).srcBrown }

/-- A panel rail's reset level, left at once. -/
def State.injPanelReset (s : State) (d u : Nat) : State :=
  let a := ((s.fire d u 1).emcyPower 0xFF61 d u).panelReset u d
  a.setPanelPower u { a.panelPower u with aboveAt := if (a.panelPower u).resetAt.isSome then some a.now else none }

/-- A main input's bad level, released at once. -/
def State.injInput (s : State) (x : InputState) : State := (s.inputState x s.power.inputMv).inputState .inRange s.power.inputMv

/-- The reference is back. -/
def State.refBack (s : State) : State := { s with power := { s.power with refLost := false } }

/-- Consequences of the input, the limits and the clocks. A level is held for the shortest time that fires the detector and
released. -/
def State.injSupply (s : State) (d u : Nat) : Option State :=
  match d with
  | 0x0A08 => if s.power.input = .inRange then some (s.injInput .low) else none
  | 0x0A09 => if s.power.input = .inRange then some (s.injInput .reversed) else none
  | 0x0A0B => match s.nextRow 1 with
      | some r => if s.power.stage = 0 then some (s.limitTake 1 r s.power.watts) else none
      | none => none
  | 0x0B01 => some (s.clockFault u d)
  | 0x0B02 => some (s.clockFault u d)
  | 0x0B04 => if s.power.refLost then none else some s.referenceGone.referenceLost.refBack
  | _ => none

/-- Consequences of power, clocks and coolant. A level is held for the shortest time that fires the detector and released. -/
def State.injPower (s : State) (d u : Nat) : Option State :=
  match d with
  | 0x0A01 => some (s.injBrown d u)
  | 0x0A03 => some (s.injBrown d u)
  | 0x0A02 => some (s.injPanelReset d u)
  | 0x0A04 => some (s.injPanelReset d u)
  | 0x0A05 => some (s.trip u true)
  | 0x0A06 => some (((s.fire d u 1).emcyPower 0xFF6A d u).railFails (railOf u) 1 d)
  | 0x0A07 => some (((s.fire d u 1).emcyPower 0xFF6A d u).railFails (railOf u) 1 d)
  | _ => s.injSupply d u

/-- Consequences of the yoke, the collar, leases and bring-up. A bring-up detector acts in its own step. -/
def State.injYoke (s : State) (d u : Nat) : Option State :=
  let kind := s.cell 0x2B20 9
  let starting := decide (s.up.phase = .yokeStart) && (s.up.step == 8 || s.up.step == 9)
  match d with
  | 0x0C01 => if s.up.yoke then some ((s.fire d 0 7).yokeFail 0 d).healthFail else none
  | 0x0C02 => some ((s.collarReset.fireFull d 0 8 0 true).bump64 0x2B00 8)
  | 0x0C03 => some ((s.collarReset.fireFull d 0 8 0 true).bump64 0x2B00 8)
  | 0x0C04 => some ((s.fire d 0 9).orderlyShutdown 3 d)
  | 0x0C05 => some ((s.fireFull d u 6 kind true).suspect (ownerUnit kind u) d)
  | 0x0C07 => if s.replacement then none else
      some ((({ s with replacement := true }).fire d 0 10).emcyEvent 0xFF76 d (natLe 1 s.replaceCauses))
  | 0x0C33 => if starting then some (s.yokeStartBad 8 d) else none
  | 0x0C34 => if starting then some (s.yokeStartBad s.up.step d) else none
  | 0x0C35 => if (s.domainOf u).st = .ramping then some (s.noPowerGood u).phaseCheck else none
  | 0x0C38 => if (s.segOfUp u).st = 1 then some (s.segFailed u (s.segOfUp u) 4).phaseCheck
      else if (s.segOfUp u).st = 2 then some (s.segFailed u (s.segOfUp u) 5).phaseCheck else none
  | _ => none

/-- Consequences of the field network, the SDO server and firmware. -/
def State.injNode (s : State) (d u : Nat) : Option State :=
  let canRuns := s.up.collar && s.can.nmt != .initialising && !s.can.busOff
  let mine := flag s.fw.runB = u
  match d with
  | 0x0D01 => if canRuns then some s.enterPassive else none
  | 0x0D02 => if canRuns then some (s.enterBusOff []) else none
  | 0x0D03 => some ((s.emcy 0x8130 d).fire d 0 0).commBehaviour
  | 0x0D07 => match s.can.sdo with
      | some t => if t.kind = .waitWrite then none else some ((s.sdoBreak t 0x05040000).fire d 0 0)
      | none => none
  | 0x0E05 => if mine ∧ s.fw.health = 1 then some s.healthFail else none
  | 0x0E06 => if mine ∧ s.fw.health = 1 then some s.fallback else none
  | 0x0E09 => if flag s.fw.updB = u ∧ (s.fw.upd = .erasing ∨ s.fw.upd = .writing) then some s.programError else none
  | _ => none

/-- ACT: the consequence that the detector's chapter defines, on the target; none for an informational detector and for one
whose target names no unit that the consequence could be carried out on (log 60). -/
def State.injAct (s : State) (d u : Nat) : Option State :=
  if d / 256 = 1 ∨ d / 256 = 2 then match s.unitTile u with
    | some k => s.injTile d k
    | none => none
  else if d = 0x0401 ∨ d = 0x0402 then s.injLane u (d == 0x0402)
  else if d = 0x0403 then s.injPass u
  else if d / 256 = 5 ∨ d / 256 = 6 then s.injSeg d u
  else if 7 ≤ d / 256 ∧ d / 256 ≤ 9 then s.injLink d u
  else if d / 256 = 10 ∨ d / 256 = 11 then s.injPower d u
  else if d / 256 = 12 then s.injYoke d u
  else s.injNode d u

/-- The injection fires once. -/
def State.injOnce (s : State) : State :=
  let d := s.cell 0x2B20 1
  let u := s.cell 0x2B20 2
  let n := s.injection.fired + 1
  let a := { s with injection := ⟨decide (n < s.setting 0x2B20 4), n, some s.beat.n, true⟩ }
  let b := if s.cell 0x2B20 3 = 1 then (match a.injAct d u with
    | some t => t
    | none => a.injFire d u) else a.injFire d u
  { b with injection := { b.injection with acting := false } }

/-- INJECTION_FIRE (R421, R422): at a line boundary at or after the start stamp, once a boundary until COUNT firings. A start
stamp is ordered by R13 as it was written, its line field in range or not (DESIGN CHOICE, log 76). -/
def execInjectionFire (s : State) : Host.Outcome State Fault Refusal :=
  let start := s.cell 0x2B20 5
  whenSettled (s.injection.armed && s.injection.lastN != some s.beat.n && s.beat.lock != .search
      && !(start != 0 && stampLater start (s.beat.stampOf (s.beat.n * 65536)))) s s.injOnce.heldServe

end Sys2Proof.Machine
end

