-- ==== Sys2Proof/Machine/PrepCore.lean ====
section
/-! DEFINITION. The prep cores: fetch, RV32IMC with Zicsr, and the command PREP_CORE_INSTRUCTION (R104, R105). The base
instruction set is RISC-V's, which the spec names and does not repeat (log 25). -/

namespace Sys2Proof.Machine

/-! ### Encodings -/

/-- Instruction words of the R, I, S, B, U and J layouts, for the expansion of compressed instructions. -/
def encR (op f3 f7 rd rs1 rs2 : Nat) : Nat := op + rd * 2 ^ 7 + f3 * 2 ^ 12 + rs1 * 2 ^ 15 + rs2 * 2 ^ 20 + f7 * 2 ^ 25
def encI (op f3 rd rs1 : Nat) (imm : Int) : Nat := op + rd * 2 ^ 7 + f3 * 2 ^ 12 + rs1 * 2 ^ 15 + unsigned 12 imm * 2 ^ 20
def encS (f3 rs1 rs2 imm : Nat) : Nat :=
  0x23 + bits imm 4 0 * 2 ^ 7 + f3 * 2 ^ 12 + rs1 * 2 ^ 15 + rs2 * 2 ^ 20 + bits imm 11 5 * 2 ^ 25
def encB (f3 rs1 rs2 : Nat) (imm : Int) : Nat :=
  let v := unsigned 13 imm
  0x63 + bits v 11 11 * 2 ^ 7 + bits v 4 1 * 2 ^ 8 + f3 * 2 ^ 12 + rs1 * 2 ^ 15 + rs2 * 2 ^ 20 + bits v 10 5 * 2 ^ 25
    + bits v 12 12 * 2 ^ 31
def encU (op rd : Nat) (imm20 : Nat) : Nat := op + rd * 2 ^ 7 + imm20 * 2 ^ 12
def encJ (rd : Nat) (imm : Int) : Nat :=
  let v := unsigned 21 imm
  0x6F + rd * 2 ^ 7 + bits v 19 12 * 2 ^ 12 + bits v 11 11 * 2 ^ 20 + bits v 10 1 * 2 ^ 21 + bits v 20 20 * 2 ^ 31

/-- A field of a compressed instruction: each (from, to) moves bit `from` to bit `to`. -/
def gather (h : Nat) (l : List (Nat × Nat)) : Nat := (l.map fun x => flag (bit h x.1) * 2 ^ x.2).sum

/-- The offset of C.J and C.JAL, and of C.BEQZ and C.BNEZ. -/
def cjOff (h : Nat) : Int :=
  signed 12 (gather h [(12, 11), (11, 4), (10, 9), (9, 8), (8, 10), (7, 6), (6, 7), (5, 3), (4, 2), (3, 1), (2, 5)])
def cbOff (h : Nat) : Int := signed 9 (gather h [(12, 8), (11, 4), (10, 3), (6, 7), (5, 6), (4, 2), (3, 1), (2, 5)])

/-- The 32-bit instruction that a compressed one stands for; none where it is illegal. -/
def expandC (h : Nat) : Option Nat :=
  let q := bits h 1 0
  let f3 := bits h 15 13
  let r := bits h 11 7
  let r2 := bits h 6 2
  let a := 8 + bits h 9 7
  let b := 8 + bits h 4 2
  let imm6 := signed 6 (bits h 12 12 * 32 + r2)
  match q, f3 with
  | 0, 0 =>
    let u := gather h [(12, 5), (11, 4), (10, 9), (9, 8), (8, 7), (7, 6), (6, 2), (5, 3)]
    if u = 0 then none else some (encI 0x13 0 b 2 u)
  | 0, 2 => some (encI 0x03 2 b a (gather h [(12, 5), (11, 4), (10, 3), (6, 2), (5, 6)] : Nat))
  | 0, 6 => some (encS 2 a b (gather h [(12, 5), (11, 4), (10, 3), (6, 2), (5, 6)]))
  | 1, 0 => some (encI 0x13 0 r r imm6)
  | 1, 1 => some (encJ 1 (cjOff h))
  | 1, 2 => some (encI 0x13 0 r 0 imm6)
  | 1, 3 =>
    if imm6 = 0 then none
    else if r = 2 then some (encI 0x13 0 2 2 (signed 10 (gather h [(12, 9), (6, 4), (5, 6), (4, 8), (3, 7), (2, 5)])))
    else some (encU 0x37 r (unsigned 20 imm6))
  | 1, 4 =>
    match bits h 11 10 with
    | 0 => if bit h 12 then none else some (encI 0x13 5 a a (r2 : Nat))
    | 1 => if bit h 12 then none else some (encI 0x13 5 a a ((r2 + 0x400 : Nat)))
    | 2 => some (encI 0x13 7 a a imm6)
    | _ =>
      if bit h 12 then none else
        match bits h 6 5 with
        | 0 => some (encR 0x33 0 0x20 a a b)
        | 1 => some (encR 0x33 4 0 a a b)
        | 2 => some (encR 0x33 6 0 a a b)
        | _ => some (encR 0x33 7 0 a a b)
  | 1, 5 => some (encJ 0 (cjOff h))
  | 1, 6 => some (encB 0 a 0 (cbOff h))
  | 1, 7 => some (encB 1 a 0 (cbOff h))
  | 2, 0 => if bit h 12 then none else some (encI 0x13 1 r r (r2 : Nat))
  | 2, 2 => if r = 0 then none else some (encI 0x03 2 r 2 (gather h [(12, 5), (6, 4), (5, 3), (4, 2), (3, 7), (2, 6)] : Nat))
  | 2, 4 =>
    if bit h 12 = false then
      if r2 = 0 then (if r = 0 then none else some (encI 0x67 0 0 r 0)) else some (encR 0x33 0 0 r 0 r2)
    else if r2 = 0 then (if r = 0 then some 0x00100073 else some (encI 0x67 0 1 r 0))
    else some (encR 0x33 0 0 r r r2)
  | 2, 6 => some (encS 2 2 r2 (gather h [(12, 5), (11, 4), (10, 3), (9, 2), (8, 7), (7, 6)]))
  | _, _ => none

/-! ### Fetch (R104, R124, R133) -/

/-- What a fetch brings. -/
inductive Fetched where
  /-- A store rule has ended the task. -/
  | ended (s : State)
  /-- The pc lies outside the W-store. -/
  | fault (s : State)
  /-- The pc is odd: a misaligned fetch (R105). -/
  | odd (s : State)
  /-- An instruction's halfwords and length in bytes, and what fetching them leaves. -/
  | word (s : State) (w len : Nat)

/-- The instruction at a core's pc: halfwords of W lines, read through the task's window. -/
def State.fetch (s : State) (k : Nat) (c : Core) : Fetched :=
  let req := coreNum c
  let pc := ((s.tileOf k).core c).pc
  if pc % 2 = 1 then .odd s
  else if 0x100000 ≤ pc then .fault s else
    let t := s.tileOf k
    let low := match t.taskLine .w (pc / 64) with
      | some l => leNat (t.readBytes .w (l * 64 + pc % 64) 2)
      | none => 0
    let n := if low % 4 = 3 then 4 else 2
    if pc % 64 + n ≤ 64 then
      match s.taskRead k .w (pc / 64) (pc % 64) n req with
      | (s1, none) => .ended s1
      | (s1, some b) => .word s1 (leNat b) n
    else
      match s.taskRead k .w (pc / 64) (pc % 64) 2 req with
      | (s1, none) => .ended s1
      | (s1, some b) =>
        if 0x100000 ≤ pc + 2 then .fault s1 else
          match s1.taskRead k .w (pc / 64 + 1) 0 2 req with
          | (s2, none) => .ended s2
          | (s2, some b2) => .word s2 (leNat (b ++ b2)) 4

/-! ### Extension encodings (R106) -/

/-- Number of an extension instruction: funct3 of custom-0, 8 + funct3 of custom-1; none for every other word and for the
reserved encodings. Fields that an instruction does not use must be zero. -/
def extCode (w : Nat) : Option Nat :=
  let op := bits w 6 0
  let f3 := bits w 14 12
  let n := if op = 0x0B then some f3 else if op = 0x2B ∧ f3 < 6 then some (8 + f3) else none
  match n with
  | none => none
  | some c =>
    let rdUsed := c == 3 || c == 7 || c == 9 || c == 11 || c == 12
    let rs2Used := c == 0 || c == 2 || c == 3 || c == 4 || c == 5 || c == 6 || c == 8 || c == 10
    let f7Used := c == 5 || c == 8
    if (rdUsed || bits w 11 7 == 0) && (rs2Used || bits w 24 20 == 0) && (f7Used || bits w 31 25 == 0) then some c else none

/-! ### The local address map (R104) -/

/-- What a local address names. -/
inductive Local where
  | store (st : StoreSel) (off : Nat)
  | reg (off : Nat)
  | bad
  deriving DecidableEq, Repr

def localOf (a : Nat) : Local :=
  if a < 0x100000 then .store .w a
  else if a < 0x140000 then .store .a (a - 0x100000)
  else if a < 0x160000 then .store .p (a - 0x140000)
  else if 0x3F0000 ≤ a ∧ a < 0x400000 then .reg (a - 0x3F0000)
  else .bad

/-- How a load or store of a core ends. -/
inductive MemOut where
  | ok (s : State) (v : Nat)
  /-- The core waits, and may count it. -/
  | stall (s : State)
  | ended (s : State)
  | trap (cause : Nat)

/-- A load of `n` bytes. -/
def State.coreLoad (s : State) (k : Nat) (c : Core) (a n : Nat) : MemOut :=
  if a % n ≠ 0 then .trap 4 else
    match localOf a with
    | .bad => .trap 5
    | .reg off =>
      let v := s.tileReg k (off / 4 * 4) / 256 ^ (off % 4) % 256 ^ n
      .ok (s.setTile k ((s.tileOf k).regRead (off / 4 * 4))) v
    | .store st off =>
      if st = .p ∧ (s.tileOf k).pathBusy [off / 64] = true then .stall (s.pathStall k)
      else match s.taskRead k st (off / 64) (off % 64) n (coreNum c) with
        | (s1, none) => .ended s1
        | (s1, some b) => .ok s1 (leNat b)

/-- A core's write to a tile register: CRn_ADV advances a region; a part of a word leaves the rest of a read-write
register. -/
def State.coreRegWrite (s : State) (k : Nat) (c : Core) (off n v : Nat) : State :=
  let base := off / 4 * 4
  let sh := 256 ^ (off % 4)
  if 0x180 ≤ base ∧ base < 0x190 then s.regionAdv k c ((base - 0x180) / 4) (v % 256 ^ n * sh)
  else
    let t := s.tileOf k
    let old := if base = 0x28 then 0 else s.tileReg k base
    let w := old - old / sh % 256 ^ n * sh + v % 256 ^ n * sh
    s.setTile k (t.regWrite base w)

/-- A store of the `n` low bytes of `v`. -/
def State.coreStore (s : State) (k : Nat) (c : Core) (a n v : Nat) : MemOut :=
  if a % n ≠ 0 then .trap 6 else
    match localOf a with
    | .bad => .trap 7
    | .store .w _ => .trap 7
    | .reg off =>
      let s1 := s.coreRegWrite k c off n v
      if s1.taskRuns k then .ok s1 0 else .ended s1
    | .store st off =>
      if st = .p ∧ (s.tileOf k).pathBusy [off / 64] = true then .stall (s.pathStall k)
      else match s.taskWrite k st (off / 64) (off % 64) (natLe n v) (coreNum c) with
        | (s1, true) => .ok s1 0
        | (s1, false) => .ended s1

/-! ### Arithmetic (RV32IM) -/

/-- An OP or OP-IMM operation; `alt` picks SUB and SRA. -/
def alu (f3 : Nat) (alt : Bool) (a b : Nat) : Nat :=
  match f3 with
  | 0 => if alt then (a + 2 ^ 32 - b) % 2 ^ 32 else (a + b) % 2 ^ 32
  | 1 => a * 2 ^ (b % 32) % 2 ^ 32
  | 2 => flag (decide (signed 32 a < signed 32 b))
  | 3 => flag (decide (a < b))
  | 4 => a ^^^ b
  | 5 => if alt then unsigned 32 (signed 32 a / 2 ^ (b % 32)) else a / 2 ^ (b % 32)
  | 6 => a ||| b
  | _ => a &&& b

/-- The M extension. -/
def mulDiv (f3 : Nat) (a b : Nat) : Nat :=
  let x := signed 32 a
  let y := signed 32 b
  match f3 with
  | 0 => a * b % 2 ^ 32
  | 1 => unsigned 32 (x * y / 2 ^ 32)
  | 2 => unsigned 32 (x * (b : Int) / 2 ^ 32)
  | 3 => a * b / 2 ^ 32
  | 4 => if b = 0 then 2 ^ 32 - 1 else unsigned 32 (x.tdiv y)
  | 5 => if b = 0 then 2 ^ 32 - 1 else a / b
  | 6 => if b = 0 then a else unsigned 32 (x.tmod y)
  | _ => if b = 0 then a else a % b

/-- A branch is taken; none for a reserved condition. -/
def branchTaken (f3 a b : Nat) : Option Bool :=
  match f3 with
  | 0 => some (a == b)
  | 1 => some (a != b)
  | 4 => some (decide (signed 32 a < signed 32 b))
  | 5 => some (decide (signed 32 b ≤ signed 32 a))
  | 6 => some (decide (a < b))
  | 7 => some (decide (b ≤ a))
  | _ => none

/-! ### CSRs (Zicsr, machine mode) -/

/-- A CSR's value; none where there is no such CSR. Identification registers and mcycle read free values (log 25). -/
def State.csrRead (s : State) (c : Core) (x : CoreSt) (n : Nat) : Option Nat :=
  if n = 0x300 then some (x.csrs.get 0 n + 0x1800)
  else if n = 0x305 ∨ n = 0x340 ∨ n = 0x341 ∨ n = 0x342 ∨ n = 0x343 then some (x.csrs.get 0 n)
  else if n = 0x304 ∨ n = 0x344 ∨ n = 0x310 ∨ n = 0x320 ∨ (0xB03 ≤ n ∧ n ≤ 0xB1F) ∨ (0xB83 ≤ n ∧ n ≤ 0xB9F)
    ∨ (0x323 ≤ n ∧ n ≤ 0x33F) ∨ n = 0xF15 then some 0
  else if n = 0xB00 ∨ n = 0xB80 then some ((Config.freeWord s.fresh).toNat % 2 ^ 32)
  else if n = 0xB02 then some (x.minstret % 2 ^ 32)
  else if n = 0xB82 then some (x.minstret / 2 ^ 32)
  else if n = 0x301 ∨ (0xF11 ≤ n ∧ n ≤ 0xF14) then some (Config.csrWord (n + coreNum c * 4096)).toNat
  else none

/-- A CSR is written; read-only zero and counter registers of the model take nothing. -/
def CoreSt.csrWrite (x : CoreSt) (n v : Nat) : CoreSt :=
  if n = 0x300 then { x with csrs := x.csrs.set n (flag (bit v 3) * 8 + flag (bit v 7) * 128) }
  else if n = 0x305 then { x with csrs := x.csrs.set n (clearBit v 1) }
  else if n = 0x341 then { x with csrs := x.csrs.set n (clearBit v 0) }
  else if n = 0x340 ∨ n = 0x342 ∨ n = 0x343 then { x with csrs := x.csrs.set n v }
  else if n = 0xB02 then { x with minstret := x.minstret / 2 ^ 32 * 2 ^ 32 + v }
  else if n = 0xB82 then { x with minstret := x.minstret % 2 ^ 32 + v * 2 ^ 32 }
  else x

/-- A write of the retired-instruction count stands: the writing instruction does not count. -/
def countsNot (n : Nat) (write : Bool) : Bool := write && (n == 0xB02 || n == 0xB82)

/-- The Zicsr instruction `w`: f3 1 to 3 with a register, 5 to 7 with an immediate. -/
def State.csrOp (s : State) (k : Nat) (c : Core) (w next : Nat) : Option State :=
  let x := (s.tileOf k).core c
  let f3 := bits w 14 12
  let n := bits w 31 20
  let r := bits w 19 15
  let src := if 4 ≤ f3 then r else x.x r
  let write := f3 % 4 == 1 || r != 0
  match s.csrRead c x n with
  | none => none
  | some old =>
    if write ∧ n / 1024 = 3 then none else
      let v := if f3 % 4 = 1 then src else if f3 % 4 = 2 then old ||| src else old &&& (2 ^ 32 - 1 - src)
      let s1 := if n = 0xB00 ∨ n = 0xB80 then s.draw else s
      let s2 := s1.retire k c fun y =>
        ({ y with pc := next }).setX (bits w 11 7) old
      let t := s2.tileOf k
      let z := t.core c
      let z1 := if write then ({ z with minstret := if countsNot n write then x.minstret else z.minstret }).csrWrite n v else z
      some (s2.setTile k (t.setCore c z1))

/-! ### One base instruction -/

/-- A load's result as its destination takes it. -/
def loadExtend (f3 v : Nat) : Nat :=
  match f3 with
  | 0 => unsigned 32 (signed 8 v)
  | 1 => unsigned 32 (signed 16 v)
  | _ => v

/-- Bytes of a load or store; none for a reserved width. -/
def loadSize (f3 : Nat) : Option Nat :=
  match f3 with
  | 0 | 4 => some 1
  | 1 | 5 => some 2
  | 2 => some 4
  | _ => none

/-- The effect of a base instruction word `w` of `len` bytes at a core's pc. -/
def State.baseOp (s : State) (k : Nat) (c : Core) (w len : Nat) : State :=
  let x := (s.tileOf k).core c
  let op := bits w 6 0
  let rd := bits w 11 7
  let f3 := bits w 14 12
  let a := x.x (bits w 19 15)
  let b := x.x (bits w 24 20)
  let f7 := bits w 31 25
  let immI := signed 12 (bits w 31 20)
  let next := (x.pc + len) % 2 ^ 32
  let put := fun (v : Nat) => s.retire k c fun y => ({ y with pc := next }).setX rd v
  let illegal := s.trap k c 2 0
  let finish := fun (m : MemOut) (addr : Nat) (f : State → Nat → State) => match m with
    | .ok t v => f t v
    | .stall t => t
    | .ended t => t
    | .trap q => s.trap k c q addr
  match op with
  | 0x37 => put (bits w 31 12 * 4096)
  | 0x17 => put ((x.pc + bits w 31 12 * 4096) % 2 ^ 32)
  | 0x6F =>
    let off := signed 21 (bits w 31 31 * 2 ^ 20 + bits w 19 12 * 2 ^ 12 + bits w 20 20 * 2 ^ 11 + bits w 30 21 * 2)
    s.retire k c fun y => ({ y with pc := unsigned 32 (x.pc + off) }).setX rd next
  | 0x67 =>
    if f3 ≠ 0 then illegal
    else s.retire k c fun y => ({ y with pc := clearBit (unsigned 32 (a + immI)) 0 }).setX rd next
  | 0x63 =>
    let off := signed 13 (bits w 31 31 * 2 ^ 12 + bits w 7 7 * 2 ^ 11 + bits w 30 25 * 2 ^ 5 + bits w 11 8 * 2)
    match branchTaken f3 a b with
    | none => illegal
    | some t => s.retire k c fun y => { y with pc := if t then unsigned 32 (x.pc + off) else next }
  | 0x03 =>
    match loadSize f3 with
    | none => illegal
    | some n =>
      let addr := unsigned 32 (a + immI)
      finish (s.coreLoad k c addr n) addr fun t v =>
        t.retire k c fun y => ({ y with pc := next }).setX rd (loadExtend f3 v)
  | 0x23 =>
    if 3 ≤ f3 then illegal else
      let addr := unsigned 32 (a + signed 12 (f7 * 32 + rd))
      finish (s.coreStore k c addr (2 ^ f3) b) addr fun t _ => t.retire k c fun y => { y with pc := next }
  | 0x13 =>
    let sh := decide (f3 = 1) || decide (f3 = 5)
    if (f3 = 1 ∧ f7 ≠ 0) ∨ (f3 = 5 ∧ f7 ≠ 0 ∧ f7 ≠ 0x20) then illegal
    else put (alu f3 (f3 == 5 && f7 == 0x20) a (if sh then bits w 24 20 else unsigned 32 immI))
  | 0x33 =>
    if f7 = 1 then put (mulDiv f3 a b)
    else if f7 = 0 ∨ (f7 = 0x20 ∧ (f3 = 0 ∨ f3 = 5)) then put (alu f3 (f7 == 0x20) a b)
    else illegal
  | 0x0F => if f3 = 0 then s.retire k c fun y => { y with pc := next } else illegal
  | 0x73 =>
    if f3 = 0 then
      if w = 0x00000073 then s.trap k c 11 0
      else if w = 0x00100073 then s.trap k c 3 x.pc
      else if w = 0x30200073 then
        let st := x.csrs.get 0 csrMstatus
        s.retire k c fun y => { y with
          pc := y.csrs.get 0 csrMepc
          csrs := y.csrs.set csrMstatus (128 + flag (bit st 7) * 8) }
      else if w = 0x10500073 then s.retire k c fun y => { y with pc := next, event := false }
      else illegal
    else if f3 = 4 then illegal
    else match s.csrOp k c w next with
      | some t => t
      | none => illegal
  | _ => illegal

/-! ### The command (R104) -/

/-- One bit error strikes a word of a written line; a line that was never written has none (R119). Two single ones in a word make
a double, and the stored word is then wrong in the bits of `wrong`. -/
def Tile.strikeWord (t : Tile) (u : StoreUpset) : Tile :=
  let w := u.off % (storeLines u.store * 64) / 8
  let key := wordKey u.store w
  if t.isWritten u.store (w / 8) = false then t
  else if u.double || (t.bad.find key).isSome then
    let stored := leNat (t.readBytes u.store (w * 8) 8) ^^^ u.wrong.toNat
    let t1 := t.setMem u.store ((t.mem u.store).writeBytes (w * 8) (natLe 8 stored))
    { t1 with bad := t1.bad.set key true }
  else { t with bad := t.bad.set key false }

/-- Bit errors strike words of a tile's stores (R119). -/
def Tile.strike (t : Tile) (us : List StoreUpset) : Tile := us.foldl Tile.strikeWord t

/-- The word of a fetched halfword pair as a 32-bit instruction. -/
def fullWord (w len : Nat) : Option Nat := if len = 4 then some w else expandC w

/-- PREP_CORE_INSTRUCTION (R104): a core executes the base instruction at its pc, or takes the trap of an illegal or
reserved encoding (R105). An extension instruction is executed by its own command. -/
def execPrepCoreInstruction (t : PhysTile) (core : Core) (upsets : List StoreUpset) (s : State) :
    Host.Outcome State Fault Refusal :=
  let k := tileKey t
  let s0 := s.setTile k ((s.tileOf k).strike upsets)
  if s.coreRuns k core = false then .next s
  else match s0.fetch k core with
    | .ended s1 => .next s1
    | .fault s1 => .next (s1.trap k core 1 ((s.tileOf k).core core).pc)
    | .odd s1 => .next (s1.trap k core 0 ((s.tileOf k).core core).pc)
    | .word s1 w len =>
      if len = 4 ∧ (extCode w).isSome then .next s
      else .next (match fullWord w len with
        | none => s1.trap k core 2 0
        | some v => s1.baseOp k core v len)

end Sys2Proof.Machine
end

