-- ==== Sys2Proof/Machine/TileExt.lean ====
section
/-! DEFINITION. The prep cores' extension instructions, one command each, and the landing of mesh lines (R89, R90, R106 to
R109, R122, R123, R139 to R142, R225 to R228). -/

namespace Sys2Proof.Machine

/-! ### The frame of an extension instruction -/

/-- How an extension instruction ends. -/
inductive ExtOut where
  /-- It retires, with a value for rd. -/
  | done (s : State) (v : Option Nat)
  | trap (cause : Nat)
  /-- The core waits, and may count it. -/
  | stall (s : State)
  /-- A store rule has ended the task. -/
  | ended (s : State)

/-- The extension instruction number `code` stands at a core's pc: its operands are read and `f` gives its effect. With
another instruction there the command does not occur. -/
def State.ext (s : State) (t : PhysTile) (c : Core) (code : Nat) (f : State → Nat → Nat → Nat → ExtOut) :
    Host.Outcome State Fault Refusal :=
  let k := tileKey t
  if s.coreRuns k c = false then .next s
  else match s.fetch k c with
    | .word s1 w 4 =>
      if extCode w ≠ some code then .next s else
        let x := (s1.tileOf k).core c
        match f s1 w (x.x (bits w 19 15)) (x.x (bits w 24 20)) with
        | .done s2 v => .next <| s2.retire k c fun y =>
            let z := { y with pc := (y.pc + 4) % 2 ^ 32 }
            match v with
            | some n => z.setX (bits w 11 7) n
            | none => z
        | .trap q => .next (s1.trap k c q 0)
        | .stall s2 => .next s2
        | .ended s2 => .next s2
    | _ => .next s

/-- The requester number of an extension access (R143). -/
def extReq : Nat := 7

/-! ### Matrix queue (R106) -/

/-- MPUSH: the instruction of rs2 and rs1 enters the queue of 4. -/
def execMpush (t : PhysTile) (core : Core) (s : State) : Host.Outcome State Fault Refusal :=
  s.ext t core 0 fun x _ a b =>
    let k := tileKey t
    let y := x.tileOf k
    if 4 ≤ y.queue.length then .stall s else .done (x.setTile k { y with queue := y.queue ++ [a + b * 2 ^ 32] }) none

/-- A queued or issued instruction has a TAG; a NOP has none (R96). -/
def Tile.hasTag (t : Tile) (v : Nat) : Bool :=
  (t.queue ++ t.flights.map fun f => f.word).any fun w => instOp w != 0 && instTag w == v

/-- MWAIT: it waits until no queued or issued instruction has the TAG. -/
def execMwait (t : PhysTile) (core : Core) (s : State) : Host.Outcome State Fault Refusal :=
  s.ext t core 1 fun x _ a _ => if (x.tileOf (tileKey t)).hasTag (a % 256) then .stall s else .done x none

/-! ### Fills (R89, R90, R122) -/

/-- The bytes of one A vector in its line, as feeder entries (R89): 8-bit, or 16-bit little-endian pairs. -/
def entriesOf (two : Bool) (b : List Byte) : List Nat :=
  if two then (List.range 32).map fun i => leNat ((b.drop (2 * i)).take 2) else b.map fun v => v.toNat

/-- The task-relative lines and line offsets of the vectors of a fill (R128). -/
def Tile.fillAt (t : Tile) (a stride n : Nat) : List (Nat × Nat) :=
  (List.range n).map fun i => (t.wrapLine .a (a / 64) ((a + i * stride) / 64 - a / 64), (a + i * stride) % 64)

/-- The vectors are read in order until a line ends the task: those read, and whether all were. -/
def State.fillRead (k n : Nat) : List (Nat × Nat) → State → State × List (List Byte) × Bool
  | [], s => (s, [], true)
  | (r, o) :: rs, s =>
    match s.taskRead k .a r o n 2 with
    | (s1, none) => (s1, [], false)
    | (s1, some b) =>
      let (s2, l, ok) := State.fillRead k n rs s1
      (s2, b :: l, ok)

/-- The party of a bank conflict beside the fill, as VIOL_ADDR2 has it (R143). -/
def meetWord (b : BankMeet) : Nat :=
  0x100000 + b.aoff % 0x40000 / 64 * 64 + (if b.ext then 7 else coreNum b.core) * 2 ^ 25 + 2 ^ 31

/-- A fill's read of some lines and another access of the task meet in an A bank (R122): under ARBITRATE the other waits a cycle,
under STRICT the task ends with BANK_CONFLICT. `clean` says that the task had no fault before this fill: of the faults of one
cycle the one that supplies the status is recorded, the conflict's with both its parties (R138). -/
def State.bankMeet (s : State) (k : Nat) (lines : List Nat) (clean : Bool) (m : Option BankMeet) : State :=
  match m with
  | none => s
  | some b =>
    match lines.find? fun l => l / 256 == b.aoff % 0x40000 / 64 / 256 with
    | none => s
    | some l =>
      if (s.tileOf k).strict then
        let s1 := s.taskFault k .bankConflict 0x0204 none
        let t := s1.tileOf k
        match t.task with
        | some q => if clean ∧ q.failed = some .bankConflict then
            s1.setTile k { t with viol := violWord (0x100000 + l * 64) 3 2, viol2 := meetWord b } else s1
        | none => s1
      else s.tileBump k 0x1C0 1

/-- FFILL: rs2[3:0] + 1 vectors go from A to the feeders, which hold 16. An encoding of rs2 with other bits or a stride of 0
is illegal, a vector that is not aligned to its size is misaligned (R105; log 85). With both rs2[4] and rs2[5] set the vectors are
16-bit ones (DESIGN CHOICE, log 86). -/
def execFfill (t : PhysTile) (core : Core) (meet : Option BankMeet) (s : State) : Host.Outcome State Fault Refusal :=
  s.ext t core 2 fun x _ a b =>
    let k := tileKey t
    let y := x.tileOf k
    let n := bits b 3 0 + 1
    let stride := bits b 15 8 * 32
    let wide := bit b 4
    let two := wide || bit b 5
    let size := if two then 64 else 32
    if bits b 7 6 ≠ 0 ∨ bits b 31 16 ≠ 0 ∨ stride = 0 then .trap 2
    else if (List.range n).any (fun i => (a + i * stride) % size != 0) then .trap 4
    else if 16 < y.feeders.length + n then .stall s
    else
      let ls := y.fillAt a stride n
      let (x1, bs, ok) := State.fillRead k size ls x
      let y1 := x1.tileOf k
      let x2 := if ok then x1.setTile k { y1 with feeders := y1.feeders ++ bs.map fun v => ⟨wide, entriesOf two v⟩ } else x1
      let x3 := x2.bankMeet k ((ls.take (bs.length + 1)).map fun l => y.aBase + l.1) (!bit y.viol 31) meet
      if x3.taskRuns k then .done x3 none else .ended x3

/-! ### Stores (R98, R107, R128) -/

/-- The flags of the P lines from `r` on are read, and cleared where asked, until a line ends the task. The lines are relocated and
bounded as those of PQNT are, although R124 does not name PSAT (DESIGN CHOICE, log 89). -/
def State.psatLines (k r : Nat) (clear : Bool) : Nat → Nat → State → State × Option Nat
  | 0, _, s => (s, some 0)
  | n + 1, i, s =>
    let t := s.tileOf k
    match t.taskLine .p (r + i) with
    | none => (s.boundFault k .p (t.pBase + r + i) extReq false, none)
    | some l =>
      if t.lineOff .p l then (s.boundFault k .p l extReq true, none)
      else
        let f := t.sat.get false l && t.isWritten .p l
        match State.psatLines k r clear n (i + 1) (if clear then s.setTile k { t with sat := t.sat.erase l } else s) with
        | (s1, none) => (s1, none)
        | (s1, some v) => (s1, some (flag f * 2 ^ i + v))

/-- PSAT: rd's bit k is the saturation flag of P line rs1 + k. -/
def execPsat (t : PhysTile) (core : Core) (s : State) : Host.Outcome State Fault Refusal :=
  s.ext t core 3 fun x _ a b =>
    let k := tileKey t
    if (x.tileOf k).pathBusy ((List.range 32).map (a + ·)) then .stall (s.pathStall k)
    else match State.psatLines k a (bit b 0) 32 0 x with
      | (x1, none) => .ended x1
      | (x1, some v) => .done x1 (some v)

/-- The codes PQNT writes for a line's words, with whether any was clamped; under a MODE that R107 does not define they are
free, and so is the flag (log 24). -/
def State.pqntBytes (s : State) (cfg : Qcfg) (b : List Byte) : List Byte × Bool :=
  if 4 ≤ cfg.mode then (s.freeBytes 16, ((s.freeBytes 17).getD 16 0).toNat % 2 == 1)
  else
    let ws := (wordsOfLine b).map cfg.word
    (ws.flatMap fun w => natLe (if cfg.mode = 3 then 2 else 1) w.1, ws.any fun w => w.2)

/-- PQNT (R107): 16 words of a P line are converted under QM and QCFG and written to A. An output that is not aligned to its 16 or 32
bytes is a misaligned access (DESIGN CHOICE, log 85). -/
def execPqnt (t : PhysTile) (core : Core) (s : State) : Host.Outcome State Fault Refusal :=
  s.ext t core 4 fun x _ a b =>
    let k := tileKey t
    let y := x.tileOf k
    let cfg := qcfgOf (y.reg 0x20) (y.reg 0x24)
    if b % (if cfg.mode = 3 then 32 else 16) ≠ 0 then .trap 6
    else if y.pathBusy [a] then .stall (s.pathStall k)
    else match x.taskRead k .p a 0 64 extReq with
      | (x1, none) => .ended x1
      | (x1, some p) =>
        let (out, f) := x1.pqntBytes cfg p
        let x2 := if 4 ≤ cfg.mode then x1.drawBytes 17 else x1
        let x3 := if f then x2.setTile k ((x2.tileOf k).setReg 0x28 1) else x2
        match x3.taskWrite k .a (b / 64) (b % 64) out extReq with
        | (x4, true) => .done x4 none
        | (x4, false) => .ended x4

/-- ACOPY: n + 1 A lines are copied as if through a buffer. Its addresses, as those of ALUT and MSEND, are aligned to lines (DESIGN
CHOICE, log 85). -/
def execAcopy (t : PhysTile) (core : Core) (s : State) : Host.Outcome State Fault Refusal :=
  s.ext t core 5 fun x w a b =>
    let k := tileKey t
    let y := x.tileOf k
    let n := bits w 31 25 + 1
    if a % 64 ≠ 0 then .trap 4 else if b % 64 ≠ 0 then .trap 6
    else match State.readLines k .a extReq (y.span .a (a / 64) n) x with
      | (x1, none) => .ended x1
      | (x1, some d) => match State.writeLines k .a extReq (y.span .a (b / 64) n) d x1 with
        | (x2, true) => .done x2 none
        | (x2, false) => .ended x2

/-- ALUT: each of 64 bytes is replaced by the table's entry for it. -/
def execAlut (t : PhysTile) (core : Core) (s : State) : Host.Outcome State Fault Refusal :=
  s.ext t core 6 fun x _ a b =>
    let k := tileKey t
    let y := x.tileOf k
    if a % 64 ≠ 0 then .trap 4 else if b % 64 ≠ 0 then .trap 6
    else match x.taskRead k .a (a / 64) 0 64 extReq with
      | (x1, none) => .ended x1
      | (x1, some d) =>
        match x1.taskWrite k .a (b / 64) 0 (d.map fun v => y.lut.get 0 v.toNat) extReq with
        | (x2, true) => .done x2 none
        | (x2, false) => .ended x2

/-! ### Compare-and-count (R139 to R142) -/

/-- A descriptor's fields. -/
structure CcDesc where
  etype : Nat
  inP : Bool
  cmp : Nat
  mask : Bool
  mdst : Nat
  start : Nat
  lines : Nat
  t1 : Nat
  t2 : Nat
  reserved : Bool
  deriving DecidableEq, Repr

def ccDesc (b : List Byte) : CcDesc :=
  let w := fun i => leNat ((b.drop (4 * i)).take 4)
  { etype := bits (w 0) 2 0, inP := bit (w 0) 3, cmp := bits (w 0) 5 4, mask := bit (w 0) 6, mdst := bits (w 0) 27 16
    start := bits (w 1) 15 0, lines := bits (w 1) 31 16, t1 := w 2, t2 := w 3
    reserved := bits (w 0) 15 7 != 0 || bits (w 0) 31 28 != 0 }

def CcDesc.store (d : CcDesc) : StoreSel := if d.inP then .p else .a
/-- Elements of one byte. -/
def CcDesc.narrow (d : CcDesc) : Bool := d.etype == 0 || d.etype == 2 || d.etype == 3
/-- Mask lines, the last one filled with zeros. -/
def CcDesc.maskLines (d : CcDesc) : Nat := if d.mask then (d.lines * (if d.narrow then 8 else 2) + 63) / 64 else 0

/-- The lines of the range and of the mask (R128). -/
def CcDesc.range (d : CcDesc) (t : Tile) : List Nat := t.span d.store d.start d.lines
def CcDesc.maskAt (d : CcDesc) (t : Tile) : List Nat := t.span .a d.mdst d.maskLines

/-- The descriptor faults of R142. -/
def CcDesc.bad (d : CcDesc) (t : Tile) : Bool :=
  decide (5 ≤ d.etype) || d.reserved || (d.narrow && d.inP) || d.lines == 0
    || (d.mask && !d.inP && (d.maskAt t).any fun l => (d.range t).contains l)

/-- The elements of the range's bytes in address order. -/
def CcDesc.elems (d : CcDesc) (b : List Byte) : List Nat :=
  if d.narrow then b.map fun v => v.toNat else (List.range (b.length / 4)).map fun i => leNat ((b.drop (4 * i)).take 4)

/-- Bits as bytes, bit k mod 8 of byte k / 8. -/
def packBits : List Bool → Nat → List Byte
  | _, 0 => []
  | l, n + 1 =>
    BitVec.ofNat 8 (((l.take 8).zipIdx.map fun (x : Bool × Nat) => flag x.1 * 2 ^ x.2).sum) :: packBits (l.drop 8) n

/-- CCOUNT: the elements of a range that match are counted into rd, with their bitmask written where the descriptor asks. -/
def execCcount (t : PhysTile) (core : Core) (s : State) : Host.Outcome State Fault Refusal :=
  s.ext t core 7 fun x _ a _ =>
    let k := tileKey t
    if a % 16 ≠ 0 then .trap 4
    else match x.taskRead k .a (a / 64) (a % 64) 16 extReq with
      | (x1, none) => .ended x1
      | (x1, some b) =>
        let d := ccDesc b
        let y := x1.tileOf k
        if d.bad y then
          .ended (x1.taskFault k .badCommand 0x0206 (some (violWord ((0x100000 + y.aBase * 64 + a) % 2 ^ 22) 6 extReq)))
        else if d.inP ∧ y.pathBusy (d.range y) = true then .stall (s.pathStall k)
        else
          let x2 := x1.tileBump k 0x1D4 1
          match State.readLines k d.store extReq (d.range y) x2 with
          | (x3, none) => .ended x3
          | (x3, some r) =>
            let es := d.elems r
            let nans := (es.filter fun v => (ccElem d.etype v).isNone).length
            let x4 := if nans = 0 then x3 else x3.setTile k ((x3.tileOf k).bump 0x1D8 nans)
            let hits := es.map fun v => ccMatch d.etype d.cmp v d.t1 d.t2
            let n := (hits.filter id).length
            match State.writeLines k .a extReq (d.maskAt y) (packBits hits (64 * d.maskLines)) x4 with
            | (x5, true) => .done x5 (some n)
            | (x5, false) => .ended x5

/-! ### Between tiles (R108, R123, R125, R129) -/

/-- The lines of a send are read and enter the mesh one by one, until a line ends the task. -/
def State.sendLines (src dst j : Nat) : List Nat → Nat → State → State × Bool
  | [], _, s => (s, true)
  | r :: rs, off, s =>
    match s.taskRead src .a r 0 64 extReq with
    | (s1, none) => (s1, false)
    | (s1, some b) =>
      let l : MeshLine := ⟨src, dst, off, b, j⟩
      State.sendLines src dst j rs (off + 64) { s1 with mesh := s1.mesh ++ [l] }

/-- MSEND (R108): n + 1 A lines go to a tile of the job's region; any other destination faults under R105. -/
def execMsend (t : PhysTile) (core : Core) (s : State) : Host.Outcome State Fault Refusal :=
  s.ext t core 8 fun x w a b =>
    let k := tileKey t
    let y := x.tileOf k
    let n := bits w 31 25 + 1
    let lx := bits b 24 18
    let ly := bits b 31 25
    let off := bits b 17 0
    let j := match y.task with
      | some q => q.job
      | none => 0
    if a % 64 ≠ 0 then .trap 4 else if off % 64 ≠ 0 then .trap 6
    else match x.wafer.phys lx ly with
      | none => .trap 7
      | some dst =>
        if (x.jobOf j).region.has lx ly = false then .trap 7
        else match State.sendLines k dst j (y.span .a (a / 64) n) off x with
          | (x1, true) => .done x1 none
          | (x1, false) => .ended x1

/-- The oldest line of the mesh between two tiles, and the mesh without it. -/
def takeLine (src dst : Nat) : List MeshLine → Option (MeshLine × List MeshLine)
  | [] => none
  | m :: r =>
    if m.src = src ∧ m.dst = dst then some (m, r)
    else match takeLine src dst r with
      | some (l, q) => some (l, m :: q)
      | none => none

/-- MSEND_LINE_LAND (R108, R129): the oldest line from `src` to `dst` lands and ARRIVE counts it. A fenced tile's go to the
discard sink (R415), a tile without a running task counts a DROP, an invalid line a LAND_REJECT. While the tile is paused or
stopped, or its LANDING region is full, the line waits; the second counts in PRIO_STALL (R123). -/
def execMsendLineLand (src dst : PhysTile) (s : State) : Host.Outcome State Fault Refusal :=
  let k := tileKey dst
  let t := s.tileOf k
  match takeLine (tileKey src) k s.mesh with
  | none => .next s
  | some (m, rest) =>
    let s1 := { s with mesh := rest }
    if s.fencedAt k then .next (s1.discard 64)
    else if s.tileRuns k = false then .next s
    else if s.taskRuns k = false then .next (s1.tileBump k 0x34 1)
    else match t.landLine .a (m.off / 64) m.data true with
      | .landed t1 => .next (s1.setTile k t1)
      | .waits => .next (s.prioStall k)
      | .rejected => .next (s1.landReject k)

/-- MRECV: it waits until ARRIVE reaches rs1, and takes it off. -/
def execMrecv (t : PhysTile) (core : Core) (s : State) : Host.Outcome State Fault Refusal :=
  s.ext t core 9 fun x _ a _ =>
    let k := tileKey t
    let y := x.tileOf k
    let v := y.reg 0x30
    if v < a then .stall s else .done (x.setTile k (y.setReg 0x30 (v - a))) (some (v - a))

/-! ### Tailoring events (R225 to R228) -/

/-- The record of EVPUSH (R226). -/
def evRecord (v : Nat) : EvRec := ⟨bits v 3 0, bits v 15 4, bits v 31 16, bits v 47 32⟩

/-- A record's own fields are malformed (R226, R227). -/
def evMalformed (v : Nat) : Bool :=
  let kind := bits v 3 0
  bits v 63 48 != 0 || kind == 0 || decide (5 ≤ kind)
    || (decide (kind ≤ 2) && bits v 47 32 != 0)
    || (kind == 4 && (bits v 31 28 != 0 || bits v 47 39 != 0 || decide (64 < bits v 38 32)))

/-- A tile is the error tile of a LOCAL_ERROR attachment. -/
def State.errorTile (s : State) (k : Nat) (a : Attach) : Bool :=
  !a.threeFactor && s.wafer.phys a.errX a.errY == some k

/-- A pushed record is discarded (R227). -/
def State.evBad (s : State) (k v : Nat) : Bool :=
  let r := evRecord v
  let t := s.tileOf k
  evMalformed v || match s.attach.find r.slot with
    | none => true
    | some a => (match t.task with
        | some q => q.job != a.job
        | none => true)
      || (if r.kind = 3 then !s.errorTile k a else (t.ctxs.find r.slot).isNone)

/-- EVPUSH (R225, R228): a record enters the tile's queue of 64, an ERROR record the feedback path's hold of 16; a bad one is
counted in 0x2600:02 with detector 0x0301. -/
def execEvpush (t : PhysTile) (core : Core) (s : State) : Host.Outcome State Fault Refusal :=
  s.ext t core 10 fun x _ a b =>
    let k := tileKey t
    let y := x.tileOf k
    let v := a + b * 2 ^ 32
    let r := evRecord v
    if x.evBad k v then
      if 64 ≤ y.evq.length then .stall s else .done ((x.bump64 0x2600 2).fire 0x0301 r.slot 0) none
    else if r.kind = 3 then
      if 16 ≤ y.feedback.length then .stall s
      else
        let keys := match x.attach.find r.slot with
          | some q => x.wafer.regionKeys q.region
          | none => []
        .done (x.setTile k { y with feedback := y.feedback ++ [(r, keys)] }) none
    else if 64 ≤ y.evq.length || !y.evWait.isEmpty then .stall s
    else .done (x.setTile k { y with evq := y.evq ++ [r] }) none

/-! ### Landing states, stamps, the end (R76, R109, R168) -/

/-- WLAND: it waits until the landing state of a stream tag is final. -/
def execWland (t : PhysTile) (core : Core) (s : State) : Host.Outcome State Fault Refusal :=
  s.ext t core 11 fun x _ a _ =>
    match (x.tileOf (tileKey t)).tags.find a with
    | some v => if v < 3 then .done x (some v) else .stall s
    | none => .stall s

/-- STAMP: the low half of the stamp, with the high half latched, or the latched high half. -/
def execStamp (t : PhysTile) (core : Core) (s : State) : Host.Outcome State Fault Refusal :=
  s.ext t core 12 fun x _ a _ =>
    let k := tileKey t
    let y := x.tileOf k
    let c := y.core core
    if bit a 0 then .done x (some c.stampHi)
    else .done (x.setTile k (y.setCore core { c with stampHi := x.stamp / 2 ^ 32 })) (some (x.stamp % 2 ^ 32))

/-- TEND (R109): the first one executed fixes the status with which the task ends once queue and array are idle; its core
goes no further. -/
def execTend (t : PhysTile) (core : Core) (s : State) : Host.Outcome State Fault Refusal :=
  s.ext t core 13 fun x _ a _ =>
    let k := tileKey t
    let y := x.tileOf k
    let y1 := y.setCore core { y.core core with halted := true }
    .done (x.setTile k (match y.task with
      | some q => if q.tend.isSome then y1 else { y1 with task := some { q with tend := some (a % 256) } }
      | none => y1)) none

end Sys2Proof.Machine
end

