-- ==== Sys2Proof/Machine/Dispatch.lean ====
section
/-! DEFINITION. The dispatch: each command's one meaning. -/

namespace Sys2Proof.Machine

/-- The effect of a command on everything but the queue. -/
def exec (i : Instr) (s : State) : Host.Outcome State Fault Refusal :=
  match i with
  | .lineBoundary => Sys2Proof.Machine.execLineBoundary s
  | .seamLaneFail edge dir lane => Sys2Proof.Machine.execSeamLaneFail edge dir lane s
  | .passThroughLaneFail p northSouth lane => Sys2Proof.Machine.execPassThroughLaneFail p northSouth lane s
  | .translationQuery path v => Sys2Proof.Machine.execTranslationQuery path v s
  | .beatWordDecide bits boundary => Sys2Proof.Machine.execBeatWordDecide bits boundary s
  | .beatWindowClose => Sys2Proof.Machine.execBeatWindowClose s
  | .carrierAbsent => Sys2Proof.Machine.execCarrierAbsent s
  | .holdoverLimit => Sys2Proof.Machine.execHoldoverLimit s
  | .holdoverLimitWrite path v => Sys2Proof.Machine.execHoldoverLimitWrite path v s
  | .sessionBeat slot => Sys2Proof.Machine.execSessionBeat slot s
  | .sessionQuery path v => Sys2Proof.Machine.execSessionQuery path v s
  | .matrixIssue t => Sys2Proof.Machine.execMatrixIssue t s
  | .instructionRetire t => Sys2Proof.Machine.execInstructionRetire t s
  | .issueHang t => Sys2Proof.Machine.execIssueHang t s
  | .tileHeartbeatTimeout t => Sys2Proof.Machine.execTileHeartbeatTimeout t s
  | .prepCoreInstruction t core upsets => Sys2Proof.Machine.execPrepCoreInstruction t core upsets s
  | .eccWriteback t => Sys2Proof.Machine.execEccWriteback t s
  | .mpush t core => Sys2Proof.Machine.execMpush t core s
  | .mwait t core => Sys2Proof.Machine.execMwait t core s
  | .ffill t core meet => Sys2Proof.Machine.execFfill t core meet s
  | .psat t core => Sys2Proof.Machine.execPsat t core s
  | .pqnt t core => Sys2Proof.Machine.execPqnt t core s
  | .acopy t core => Sys2Proof.Machine.execAcopy t core s
  | .alut t core => Sys2Proof.Machine.execAlut t core s
  | .ccount t core => Sys2Proof.Machine.execCcount t core s
  | .msend t core => Sys2Proof.Machine.execMsend t core s
  | .msendLineLand src dst => Sys2Proof.Machine.execMsendLineLand src dst s
  | .mrecv t core => Sys2Proof.Machine.execMrecv t core s
  | .evpush t core => Sys2Proof.Machine.execEvpush t core s
  | .wland t core => Sys2Proof.Machine.execWland t core s
  | .stamp t core => Sys2Proof.Machine.execStamp t core s
  | .tend t core => Sys2Proof.Machine.execTend t core s
  | .taskEnd t => Sys2Proof.Machine.execTaskEnd t s
  | .regionAdvance t core region v => Sys2Proof.Machine.execRegionAdvance t core region v s
  | .qstatClear t v => Sys2Proof.Machine.execQstatClear t v s
  | .tileCounterReadClear t off => Sys2Proof.Machine.execTileCounterReadClear t off s
  | .tileQuery path v => Sys2Proof.Machine.execTileQuery path v s
  | .storeQuery path v => Sys2Proof.Machine.execStoreQuery path v s
  | .nvmeLinkUp seg gen info => Sys2Proof.Machine.execNvmeLinkUp seg gen info s
  | .nvmeLinkDown seg => Sys2Proof.Machine.execNvmeLinkDown seg s
  | .nvmeLinkRetry seg => Sys2Proof.Machine.execNvmeLinkRetry seg s
  | .nvmeCommandTimeout seg cid => Sys2Proof.Machine.execNvmeCommandTimeout seg cid s
  | .nvmeCompletion seg cid success data => Sys2Proof.Machine.execNvmeCompletion seg cid success data s
  | .smartPoll seg critical => Sys2Proof.Machine.execSmartPoll seg critical s
  | .patrolScrub upsets => Sys2Proof.Machine.execPatrolScrub upsets s
  | .pleatStaged plan pleat => Sys2Proof.Machine.execPleatStaged plan pleat s
  | .flashStageLine plan step => Sys2Proof.Machine.execFlashStageLine plan step s
  | .passStart plan => Sys2Proof.Machine.execPassStart plan s
  | .stepFetchLine plan pass step => Sys2Proof.Machine.execStepFetchLine plan pass step s
  | .blockLanded plan pass pleat upsets => Sys2Proof.Machine.execBlockLanded plan pass pleat upsets s
  | .landingLine plan pass step => Sys2Proof.Machine.execLandingLine plan pass step s
  | .passEnd plan pass => Sys2Proof.Machine.execPassEnd plan pass s
  | .segmentQuery path v => Sys2Proof.Machine.execSegmentQuery path v s
  | .planQuery path v => Sys2Proof.Machine.execPlanQuery path v s
  | .functionLevelReset f => Sys2Proof.Machine.execFunctionLevelReset f s
  | .hostLinkDown f => Sys2Proof.Machine.execHostLinkDown f s
  | .hostLinkUp f gen link => Sys2Proof.Machine.execHostLinkUp f gen link s
  | .pcieUncorrectableError f => Sys2Proof.Machine.execPcieUncorrectableError f s
  | .bar2Access f off acc upsets => Sys2Proof.Machine.execBar2Access f off acc upsets s
  | .apertureAccess f off acc => Sys2Proof.Machine.execApertureAccess f off acc s
  | .stampLoRead rd => Sys2Proof.Machine.execStampLoRead rd s
  | .ringConfigWrite f off v => Sys2Proof.Machine.execRingConfigWrite f off v s
  | .sqDoorbell f eng ring bytes v => Sys2Proof.Machine.execSqDoorbell f eng ring bytes v s
  | .cqDoorbell f eng ring bytes v => Sys2Proof.Machine.execCqDoorbell f eng ring bytes v s
  | .descriptorFetch eng ring => Sys2Proof.Machine.execDescriptorFetch eng ring s
  | .entryBegin list => Sys2Proof.Machine.execEntryBegin list s
  | .entryNop list idx => Sys2Proof.Machine.execEntryNop list idx s
  | .pload list idx => Sys2Proof.Machine.execPload list idx s
  | .tstart list idx => Sys2Proof.Machine.execTstart list idx s
  | .copy list idx upsets => Sys2Proof.Machine.execCopy list idx upsets s
  | .copyDone list idx => Sys2Proof.Machine.execCopyDone list idx s
  | .jopen list idx => Sys2Proof.Machine.execJopen list idx s
  | .jclose list idx => Sys2Proof.Machine.execJclose list idx s
  | .planload list idx => Sys2Proof.Machine.execPlanload list idx s
  | .activate list idx => Sys2Proof.Machine.execActivate list idx s
  | .deactivate list idx => Sys2Proof.Machine.execDeactivate list idx s
  | .unload list idx => Sys2Proof.Machine.execUnload list idx s
  | .restage list idx => Sys2Proof.Machine.execRestage list idx s
  | .fread list idx => Sys2Proof.Machine.execFread list idx s
  | .fwrite list idx => Sys2Proof.Machine.execFwrite list idx s
  | .fflush list idx => Sys2Proof.Machine.execFflush list idx s
  | .ftrim list idx => Sys2Proof.Machine.execFtrim list idx s
  | .tattach list idx => Sys2Proof.Machine.execTattach list idx s
  | .tattachScanDone list idx => Sys2Proof.Machine.execTattachScanDone list idx s
  | .tdetach list idx => Sys2Proof.Machine.execTdetach list idx s
  | .treward list idx => Sys2Proof.Machine.execTreward list idx s
  | .tclear list idx => Sys2Proof.Machine.execTclear list idx s
  | .sopen list idx => Sys2Proof.Machine.execSopen list idx s
  | .sretime list idx => Sys2Proof.Machine.execSretime list idx s
  | .sresume list idx => Sys2Proof.Machine.execSresume list idx s
  | .sclose list idx => Sys2Proof.Machine.execSclose list idx s
  | .sbind list idx => Sys2Proof.Machine.execSbind list idx s
  | .frame list idx => Sys2Proof.Machine.execFrame list idx s
  | .fready list idx => Sys2Proof.Machine.execFready list idx s
  | .jobQuery path v => Sys2Proof.Machine.execJobQuery path v s
  | .tailorPre t => Sys2Proof.Machine.execTailorPre t s
  | .tailorPost t => Sys2Proof.Machine.execTailorPost t s
  | .tailorError t => Sys2Proof.Machine.execTailorError t s
  | .tailorReward t => Sys2Proof.Machine.execTailorReward t s
  | .tailorStep t => Sys2Proof.Machine.execTailorStep t s
  | .feedbackDelivery src dst => Sys2Proof.Machine.execFeedbackDelivery src dst s
  | .rewardBroadcast => Sys2Proof.Machine.execRewardBroadcast s
  | .slotQuery path v => Sys2Proof.Machine.execSlotQuery path v s
  | .contextQuery path v => Sys2Proof.Machine.execContextQuery path v s
  | .oraSendFrame port fr => Sys2Proof.Machine.execOraSendFrame port fr s
  | .oraWriteFrame port fr => Sys2Proof.Machine.execOraWriteFrame port fr s
  | .oraReadReqFrame port fr => Sys2Proof.Machine.execOraReadReqFrame port fr s
  | .oraReadRespFrame port fr => Sys2Proof.Machine.execOraReadRespFrame port fr s
  | .oraFaddFrame port fr => Sys2Proof.Machine.execOraFaddFrame port fr s
  | .oraCasFrame port fr => Sys2Proof.Machine.execOraCasFrame port fr s
  | .oraAtomicRespFrame port fr => Sys2Proof.Machine.execOraAtomicRespFrame port fr s
  | .oraAckFrame port fr => Sys2Proof.Machine.execOraAckFrame port fr s
  | .oraNakFrame port fr => Sys2Proof.Machine.execOraNakFrame port fr s
  | .oraCreditFrame port fr => Sys2Proof.Machine.execOraCreditFrame port fr s
  | .heldFrameApply conn => Sys2Proof.Machine.execHeldFrameApply conn s
  | .oraRequestSend conn => Sys2Proof.Machine.execOraRequestSend conn s
  | .retransmitTimeout conn => Sys2Proof.Machine.execRetransmitTimeout conn s
  | .ackDelayExpiry conn => Sys2Proof.Machine.execAckDelayExpiry conn s
  | .creditProbe conn => Sys2Proof.Machine.execCreditProbe conn s
  | .rnrRetry conn psn => Sys2Proof.Machine.execRnrRetry conn psn s
  | .remoteConnect list idx => Sys2Proof.Machine.execRemoteConnect list idx s
  | .remoteDisconnect list idx => Sys2Proof.Machine.execRemoteDisconnect list idx s
  | .remoteSend list idx => Sys2Proof.Machine.execRemoteSend list idx s
  | .remoteRecv list idx => Sys2Proof.Machine.execRemoteRecv list idx s
  | .remoteWrite list idx => Sys2Proof.Machine.execRemoteWrite list idx s
  | .remoteRead list idx => Sys2Proof.Machine.execRemoteRead list idx s
  | .remoteFadd list idx => Sys2Proof.Machine.execRemoteFadd list idx s
  | .remoteCas list idx => Sys2Proof.Machine.execRemoteCas list idx s
  | .ctrset list idx => Sys2Proof.Machine.execCtrset list idx s
  | .ctrfree list idx => Sys2Proof.Machine.execCtrfree list idx s
  | .tready list idx => Sys2Proof.Machine.execTready list idx s
  | .connectionQuery path v => Sys2Proof.Machine.execConnectionQuery path v s
  | .counterQuery path v => Sys2Proof.Machine.execCounterQuery path v s
  | .macControlFrame port len => Sys2Proof.Machine.execMacControlFrame port len s
  | .portLinkChange port up => Sys2Proof.Machine.execPortLinkChange port up s
  | .portConfigWrite path port v => Sys2Proof.Machine.execPortConfigWrite path port v s
  | .portFrameTransmit port => Sys2Proof.Machine.execPortFrameTransmit port s
  | .nodeEntryExpiry node => Sys2Proof.Machine.execNodeEntryExpiry node s
  | .nodeTableFlush path v => Sys2Proof.Machine.execNodeTableFlush path v s
  | .staticEntryWrite path v => Sys2Proof.Machine.execStaticEntryWrite path v s
  | .nodeQuery path v => Sys2Proof.Machine.execNodeQuery path v s
  | .shaperRateWrite path port cls v => Sys2Proof.Machine.execShaperRateWrite path port cls v s
  | .shaperBurstWrite path port cls v => Sys2Proof.Machine.execShaperBurstWrite path port cls v s
  | .nmtStart node => Sys2Proof.Machine.execNmtStart node s
  | .nmtStop node => Sys2Proof.Machine.execNmtStop node s
  | .nmtEnterPreoperational node => Sys2Proof.Machine.execNmtEnterPreoperational node s
  | .nmtResetNode node => Sys2Proof.Machine.execNmtResetNode node s
  | .nmtResetCommunication node => Sys2Proof.Machine.execNmtResetCommunication node s
  | .heartbeatProduce sent => Sys2Proof.Machine.execHeartbeatProduce sent s
  | .producerHeartbeatWrite path v => Sys2Proof.Machine.execProducerHeartbeatWrite path v s
  | .heartbeatReceive node => Sys2Proof.Machine.execHeartbeatReceive node s
  | .heartbeatConsumerTimeout entry => Sys2Proof.Machine.execHeartbeatConsumerTimeout entry s
  | .syncReceive counter => Sys2Proof.Machine.execSyncReceive counter s
  | .emcyTransmit => Sys2Proof.Machine.execEmcyTransmit s
  | .emcyCobidWrite path v => Sys2Proof.Machine.execEmcyCobidWrite path v s
  | .canErrorDetected transmit err => Sys2Proof.Machine.execCanErrorDetected transmit err s
  | .busOffRecovery => Sys2Proof.Machine.execBusOffRecovery s
  | .busDominantTimeout => Sys2Proof.Machine.execBusDominantTimeout s
  | .sdoInitiateDownload data => Sys2Proof.Machine.execSdoInitiateDownload data s
  | .sdoDownloadSegment data => Sys2Proof.Machine.execSdoDownloadSegment data s
  | .sdoInitiateUpload data => Sys2Proof.Machine.execSdoInitiateUpload data s
  | .sdoUploadSegment data => Sys2Proof.Machine.execSdoUploadSegment data s
  | .sdoBlockDownloadInitiate data => Sys2Proof.Machine.execSdoBlockDownloadInitiate data s
  | .sdoBlockDownloadSubblock segments => Sys2Proof.Machine.execSdoBlockDownloadSubblock segments s
  | .sdoBlockDownloadEnd data => Sys2Proof.Machine.execSdoBlockDownloadEnd data s
  | .sdoBlockUploadInitiate data => Sys2Proof.Machine.execSdoBlockUploadInitiate data s
  | .sdoBlockUploadStart data => Sys2Proof.Machine.execSdoBlockUploadStart data s
  | .sdoBlockUploadAck data => Sys2Proof.Machine.execSdoBlockUploadAck data s
  | .sdoBlockUploadEnd data => Sys2Proof.Machine.execSdoBlockUploadEnd data s
  | .sdoAbortReceive data => Sys2Proof.Machine.execSdoAbortReceive data s
  | .sdoTimeout => Sys2Proof.Machine.execSdoTimeout s
  | .rpdoReceive n data => Sys2Proof.Machine.execRpdoReceive n data s
  | .rpdoEventTimeout n => Sys2Proof.Machine.execRpdoEventTimeout n s
  | .tpdoChangeCheck n => Sys2Proof.Machine.execTpdoChangeCheck n s
  | .tpdoEventTimer n => Sys2Proof.Machine.execTpdoEventTimer n s
  | .tpdoInhibitEnd n => Sys2Proof.Machine.execTpdoInhibitEnd n s
  | .storeParameters path sub v => Sys2Proof.Machine.execStoreParameters path sub v s
  | .storeDone written => Sys2Proof.Machine.execStoreDone written s
  | .restoreDefaults path sub v => Sys2Proof.Machine.execRestoreDefaults path sub v s
  | .errorHistoryClear path v => Sys2Proof.Machine.execErrorHistoryClear path v s
  | .dictionaryWrite path index sub data => Sys2Proof.Machine.execDictionaryWrite path index sub data s
  | .mirrorRead f off n => Sys2Proof.Machine.execMirrorRead f off n s
  | .mirrorWrite f off => Sys2Proof.Machine.execMirrorWrite f off s
  | .mailboxRead f req => Sys2Proof.Machine.execMailboxRead f req s
  | .mailboxWrite f req => Sys2Proof.Machine.execMailboxWrite f req s
  | .mailboxAbort f req => Sys2Proof.Machine.execMailboxAbort f req s
  | .mailboxComplete f => Sys2Proof.Machine.execMailboxComplete f s
  | .mailboxDoneClear f => Sys2Proof.Machine.execMailboxDoneClear f s
  | .mailboxChunkTimeout f => Sys2Proof.Machine.execMailboxChunkTimeout f s
  | .mainInputStateChange st mv => Sys2Proof.Machine.execMainInputStateChange st mv s
  | .standbyInputFault mv => Sys2Proof.Machine.execStandbyInputFault mv s
  | .domainRequestOn path d => Sys2Proof.Machine.execDomainRequestOn path d s
  | .domainRequestOff path d => Sys2Proof.Machine.execDomainRequestOff path d s
  | .domainRampStart d => Sys2Proof.Machine.execDomainRampStart d s
  | .domainPowerGood d => Sys2Proof.Machine.execDomainPowerGood d s
  | .domainPowerGoodTimeout d => Sys2Proof.Machine.execDomainPowerGoodTimeout d s
  | .panelRailWarning p sram mv => Sys2Proof.Machine.execPanelRailWarning p sram mv s
  | .panelRailRecovered p coreMv sramMv => Sys2Proof.Machine.execPanelRailRecovered p coreMv sramMv s
  | .panelRailReset p sram mv => Sys2Proof.Machine.execPanelRailReset p sram mv s
  | .panelResetRelease p => Sys2Proof.Machine.execPanelResetRelease p s
  | .panelResetTimeout p => Sys2Proof.Machine.execPanelResetTimeout p s
  | .railWarning rail => Sys2Proof.Machine.execRailWarning rail s
  | .railReset rail => Sys2Proof.Machine.execRailReset rail s
  | .brownoutClear path v => Sys2Proof.Machine.execBrownoutClear path v s
  | .powerLimitAction watts => Sys2Proof.Machine.execPowerLimitAction watts s
  | .powerLimitRelease watts => Sys2Proof.Machine.execPowerLimitRelease watts s
  | .panelOvercurrent p sram => Sys2Proof.Machine.execPanelOvercurrent p sram s
  | .overcurrentClear path p v => Sys2Proof.Machine.execOvercurrentClear path p v s
  | .clockCheck k => Sys2Proof.Machine.execClockCheck k s
  | .pllUnlock k => Sys2Proof.Machine.execPllUnlock k s
  | .referenceLost => Sys2Proof.Machine.execReferenceLost s
  | .coolantSensorFault sensor raw => Sys2Proof.Machine.execCoolantSensorFault sensor raw s
  | .coolantSensorRecovered sensor v => Sys2Proof.Machine.execCoolantSensorRecovered sensor v s
  | .outletWarning tout => Sys2Proof.Machine.execOutletWarning tout s
  | .thermalLimit tout flow => Sys2Proof.Machine.execThermalLimit tout flow s
  | .thermalLimitEnd tout flow => Sys2Proof.Machine.execThermalLimitEnd tout flow s
  | .outletShutdown tout => Sys2Proof.Machine.execOutletShutdown tout s
  | .dieTemperatureChange p t => Sys2Proof.Machine.execDieTemperatureChange p t s
  | .coldStart cause straps => Sys2Proof.Machine.execColdStart cause straps s
  | .moduleResetAssert => Sys2Proof.Machine.execModuleResetAssert s
  | .warmStart cause straps => Sys2Proof.Machine.execWarmStart cause straps s
  | .fuseLoad fuses => Sys2Proof.Machine.execFuseLoad fuses s
  | .imageVerify checkA checkB => Sys2Proof.Machine.execImageVerify checkA checkB s
  | .collarFirmwareStart => Sys2Proof.Machine.execCollarFirmwareStart s
  | .mainInputQualified => Sys2Proof.Machine.execMainInputQualified s
  | .yokeRamp => Sys2Proof.Machine.execYokeRamp s
  | .yokeLoad hashOk => Sys2Proof.Machine.execYokeLoad hashOk s
  | .yokeSelfTest passed => Sys2Proof.Machine.execYokeSelfTest passed s
  | .domainPowerUp => Sys2Proof.Machine.execDomainPowerUp s
  | .dramTrainingDone seg trained => Sys2Proof.Machine.execDramTrainingDone seg trained s
  | .segmentScrubDone seg ms => Sys2Proof.Machine.execSegmentScrubDone seg ms s
  | .panelSelfTestDone p pllOk failed => Sys2Proof.Machine.execPanelSelfTestDone p pllOk failed s
  | .gridBuild lanes => Sys2Proof.Machine.execGridBuild lanes s
  | .startupStepTimeout step unit => Sys2Proof.Machine.execStartupStepTimeout step unit s
  | .yokeStartRetry => Sys2Proof.Machine.execYokeStartRetry s
  | .tileFence t => Sys2Proof.Machine.execTileFence t s
  | .storeMoveEnd p row => Sys2Proof.Machine.execStoreMoveEnd p row s
  | .panelLossRebuild => Sys2Proof.Machine.execPanelLossRebuild s
  | .panelResetFence p => Sys2Proof.Machine.execPanelResetFence p s
  | .panelReturn p failed => Sys2Proof.Machine.execPanelReturn p failed s
  | .leaseExpiry kind number => Sys2Proof.Machine.execLeaseExpiry kind number s
  | .ownerFence kind number => Sys2Proof.Machine.execOwnerFence kind number s
  | .dmaDrainDone seg channel => Sys2Proof.Machine.execDmaDrainDone seg channel s
  | .drainTimeout seg channel => Sys2Proof.Machine.execDrainTimeout seg channel s
  | .fenceJob path v => Sys2Proof.Machine.execFenceJob path v s
  | .yokeFailure cause => Sys2Proof.Machine.execYokeFailure cause s
  | .collarFailure lockstep => Sys2Proof.Machine.execCollarFailure lockstep s
  | .collarAbsentTimeout => Sys2Proof.Machine.execCollarAbsentTimeout s
  | .gridRestore path v failed => Sys2Proof.Machine.execGridRestore path v failed s
  | .replacementClear path v => Sys2Proof.Machine.execReplacementClear path v s
  | .faultLogClear path v => Sys2Proof.Machine.execFaultLogClear path v s
  | .detectorQuery path v => Sys2Proof.Machine.execDetectorQuery path v s
  | .logQuery path v => Sys2Proof.Machine.execLogQuery path v s
  | .injectionArm path => Sys2Proof.Machine.execInjectionArm path s
  | .injectionDisarm path => Sys2Proof.Machine.execInjectionDisarm path s
  | .injectionFire => Sys2Proof.Machine.execInjectionFire s
  | .updateBegin path => Sys2Proof.Machine.execUpdateBegin path s
  | .slotEraseDone ok => Sys2Proof.Machine.execSlotEraseDone ok s
  | .updateCancel path => Sys2Proof.Machine.execUpdateCancel path s
  | .updateRestart path => Sys2Proof.Machine.execUpdateRestart path s
  | .imageDataWrite data ok => Sys2Proof.Machine.execImageDataWrite data ok s
  | .imageUpdateVerify m checks => Sys2Proof.Machine.execImageUpdateVerify m checks s
  | .healthWindowExpiry => Sys2Proof.Machine.execHealthWindowExpiry s
  | .commit path v => Sys2Proof.Machine.execCommit path v s
  | .carrierReturn => Sys2Proof.Machine.execCarrierReturn s
  | .referenceReturn => Sys2Proof.Machine.execReferenceReturn s
  | .receivedFrameDiscard port fr => Sys2Proof.Machine.execReceivedFrameDiscard port fr s
  | .ploadDone list idx => Sys2Proof.Machine.execPloadDone list idx s

end Sys2Proof.Machine
end

