-- ==== Sys2Proof/Safety.lean ====
section
/-! DEFINITION. What counts as a safe run, in the terms that claims use. -/

namespace Sys2Proof.Machine

/-- The fields of the state, by name. -/
inductive Field where
  | now | wafer | beat | sessions | hostA | hostB | sq | cq | lastRing | msix
  | pba | lists | nextList | jobs | frames | nextFrame | skips | setSkips | tier1 | granules
  | tier1Bad | dram | od | can | boxA | boxB | det | log | logMade | faultBuffer
  | absentEmcy | replacement | suspects | leases | dma | moves | injection | tiles | mesh | attach
  | rewardN | rewardSent | plans | segs | segCtr | conns | wrs | nextWr | ctrs | ports
  | buckets | nodes | power | up | fuses | fw | out | fresh | pending
  deriving DecidableEq, Repr

/-- Two states agree in a field. -/
def Field.same (f : Field) (s t : State) : Prop :=
  match f with
  | .now => t.now = s.now
  | .wafer => t.wafer = s.wafer
  | .beat => t.beat = s.beat
  | .sessions => t.sessions = s.sessions
  | .hostA => t.hostA = s.hostA
  | .hostB => t.hostB = s.hostB
  | .sq => t.sq = s.sq
  | .cq => t.cq = s.cq
  | .lastRing => t.lastRing = s.lastRing
  | .msix => t.msix = s.msix
  | .pba => t.pba = s.pba
  | .lists => t.lists = s.lists
  | .nextList => t.nextList = s.nextList
  | .jobs => t.jobs = s.jobs
  | .frames => t.frames = s.frames
  | .nextFrame => t.nextFrame = s.nextFrame
  | .skips => t.skips = s.skips
  | .setSkips => t.setSkips = s.setSkips
  | .tier1 => t.tier1 = s.tier1
  | .granules => t.granules = s.granules
  | .tier1Bad => t.tier1Bad = s.tier1Bad
  | .dram => t.dram = s.dram
  | .od => t.od = s.od
  | .can => t.can = s.can
  | .boxA => t.boxA = s.boxA
  | .boxB => t.boxB = s.boxB
  | .det => t.det = s.det
  | .log => t.log = s.log
  | .logMade => t.logMade = s.logMade
  | .faultBuffer => t.faultBuffer = s.faultBuffer
  | .absentEmcy => t.absentEmcy = s.absentEmcy
  | .replacement => t.replacement = s.replacement
  | .suspects => t.suspects = s.suspects
  | .leases => t.leases = s.leases
  | .dma => t.dma = s.dma
  | .moves => t.moves = s.moves
  | .injection => t.injection = s.injection
  | .tiles => t.tiles = s.tiles
  | .mesh => t.mesh = s.mesh
  | .attach => t.attach = s.attach
  | .rewardN => t.rewardN = s.rewardN
  | .rewardSent => t.rewardSent = s.rewardSent
  | .plans => t.plans = s.plans
  | .segs => t.segs = s.segs
  | .segCtr => t.segCtr = s.segCtr
  | .conns => t.conns = s.conns
  | .wrs => t.wrs = s.wrs
  | .nextWr => t.nextWr = s.nextWr
  | .ctrs => t.ctrs = s.ctrs
  | .ports => t.ports = s.ports
  | .buckets => t.buckets = s.buckets
  | .nodes => t.nodes = s.nodes
  | .power => t.power = s.power
  | .up => t.up = s.up
  | .fuses => t.fuses = s.fuses
  | .fw => t.fw = s.fw
  | .out => t.out = s.out
  | .fresh => t.fresh = s.fresh
  | .pending => t.pending = s.pending

/-- `t` has every field as `s` has it, but for the fields listed. -/
def State.onlyChanges (s : State) (fs : List Field) (t : State) : Prop := ∀ f, f ∉ fs → f.same s t

/-- The fields in which a report may show: the dictionary's cells, detectors and the fault log, EMCYs, event and completion
records with the memory that holds them, the service level and the replacement request. -/
def reportFields : List Field :=
  [.od, .det, .log, .logMade, .faultBuffer, .can, .absentEmcy, .hostA, .hostB, .cq, .pba, .tier1, .granules, .tier1Bad, .segCtr,
    .up, .replacement, .out]

/-- The fields in which an entry's acceptance and completion may show: its list, the DMA channels it gives back, completion
records with the memory that holds them, counters, detectors. -/
def entryFields : List Field :=
  [.cq, .pba, .lists, .tier1, .granules, .tier1Bad, .od, .det, .log, .logMade, .faultBuffer, .dma, .segCtr, .out]

/-- Every dictionary cell reads as before but those listed, named by index and sub-index. -/
def State.otherCells (s : State) (l : List (Nat × Nat)) (t : State) : Prop :=
  ∀ i j, j < 256 → (i, j) ∉ l → t.cell i j = s.cell i j

/-- The command answers a next state that differs from `s` in the fields listed only, and of which `p` holds. -/
def completes (c : Instr) (s : State) (fs : List Field) (p : State → Prop) : Prop :=
  ∃ t, exec c s = .next t ∧ s.onlyChanges fs t ∧ p t

/-- Entry `idx` of list `id`, which is `e` of `l`, has been handed to engine `eng` with operation `op`, and the job of its list is
open. -/
def State.begun (s : State) (id idx eng op : Nat) (l : ListRun) (e : EntryRun) : Prop :=
  s.handed id idx eng op = some (l, e) ∧ (s.jobOf l.job).st = .opened

/-- The entry is over, and its session slot, set alone in `y`, reads as given; every other slot reads as before. -/
def State.slotEnds (s : State) (id idx k : Nat) (y : Session) (t : State) : Prop :=
  t.entryOf id idx = none ∧ t.sessionOf k = y ∧ ∀ j, j ≠ k → t.sessionOf j = s.sessionOf j

/-- A write by path `p` to an object passes checks 1 to 4 of R327: it can arrive, the object exists and may be written, its
unit serves. -/
def State.canWrite (s : State) (p : Path) (index sub : Nat) : Bool := s.pathOpen p && (s.accessCheck true index sub).isNone

/-- The command takes values into sub-indices of an object, listed as (sub-index, value), and changes nothing else. -/
def State.takes (c : Instr) (s : State) (index : Nat) (l : List (Nat × Nat)) : Prop :=
  completes c s [.od] fun t => (∀ e ∈ l, t.cell index e.1 = e.2) ∧ s.otherCells (l.map fun e => (index, e.1)) t

/-- Two tile tables differ only in tile `k`, which reads as `x` in `t`. -/
def State.tileBecomes (s : State) (k : Nat) (x : Tile) (t : State) : Prop :=
  t.tileOf k = x ∧ ∀ j, j ≠ k → t.tileOf j = s.tileOf j

/-- A step that does not stop the block. -/
def State.steps (s : State) : Bool := match step s with
  | .next _ => true
  | .fault _ => false
  | .refused _ => false

/-- The state after a step; a step that stops leaves the state as it was. -/
def State.after (s : State) : State := match step s with
  | .next t => t
  | .fault _ => s
  | .refused _ => s

/-- `n` steps without a stop. -/
def State.safeFor : Nat → State → Bool
  | 0, _ => true
  | n + 1, s => s.steps && State.safeFor n s.after

/-- Byte memories in their canonical form: tier 1 and the stores of every tile. -/
def State.memoryOk (s : State) : Bool := s.tier1.wf && s.tiles.vals.all fun t => t.w.wf && t.a.wf && t.p.wf

/-- A table's keys rise strictly, so each key has one cell. -/
def Tab.rises {α : Type} (t : Tab α) : Prop := (t.cells.map Prod.fst).Pairwise (· < ·)

/-- What every step keeps: tier 1 in its canonical form, a legal wafer mode (R36, R37), a node ID from 1 to 127 (R305), a fault log
of 256 entries (R420), a fault buffer of 64 (R417), a pre-defined error field of 8 (R348), and one cell for each frame, session
slot and node. -/
structure State.Inv (s : State) : Prop where
  tier1 : s.tier1.wf = true
  mode : s.wafer.mode ≤ 3
  node : 1 ≤ s.can.nodeId ∧ s.can.nodeId ≤ 127
  log : (s.log.cells.all fun c => decide (c.1 < 256)) = true
  buffer : s.faultBuffer.length ≤ 64 ∧ s.absentEmcy.length ≤ 64
  history : s.can.history.length ≤ 8
  tables : s.frames.rises ∧ s.sessions.rises ∧ s.nodes.rises

end Sys2Proof.Machine
end

