-- ==== Sys2Proof/Machine/Claims.lean ====
section
/-! DEFINITION. Terms in which the statements speak of commands: of what is watched continuously, of a prep core's step and the
instruction at its pc, of frames, transfers and reports. -/

namespace Sys2Proof.Machine

/-- The command answers a next state: a state `u`, which differs from `s` in the fields listed only and of which `p` holds, once what
is watched continuously has followed (R315, R396, R419). -/
def settles (c : Instr) (s : State) (fs : List Field) (p : State → Prop) : Prop :=
  ∃ u, exec c s = .next (State.settle s u) ∧ s.onlyChanges fs u ∧ p u

/-- The fields in which the fall of every unit but the collar may show. -/
def fallFields : List Field := reportFields ++ entryFields ++ ([.wafer, .sessions, .sq, .lastRing, .msix, .jobs, .frames, .skips, .setSkips,
  .dram, .boxA, .boxB, .suspects, .leases, .moves, .tiles, .mesh, .attach, .rewardSent, .plans, .segs, .conns, .wrs, .ctrs, .ports, .buckets,
  .nodes, .power] : List Field)

/-- The tile after its core `c` has retired the 4-byte instruction `w`: its pc and its count of retired instructions have moved
on, and rd holds `v` where the instruction gives a value (R106). -/
def Tile.stepped (t : Tile) (c : Core) (w : Nat) (v : Option Nat) : Tile :=
  let x := t.core c
  let y := { x with pc := (x.pc + 4) % 2 ^ 32 }
  let z := match v with
    | some n => y.setX (bits w 11 7) n
    | none => y
  t.setCore c { z with minstret := (z.minstret + 1) % 2 ^ 64 }

/-- A core runs, and the 4 bytes at its pc are the extension instruction number `code`, whose word is `w`; the fetch leaves
`s1`. -/
def State.extAt (s : State) (t : PhysTile) (c : Core) (code : Nat) (s1 : State) (w : Nat) : Prop :=
  s.coreRuns (tileKey t) c = true ∧ s.fetch (tileKey t) c = .word s1 w 4 ∧ extCode w = some code

/-- The values of rs1 and rs2. -/
def State.rs1 (s : State) (t : PhysTile) (c : Core) (w : Nat) : Nat := ((s.tileOf (tileKey t)).core c).x (bits w 19 15)
def State.rs2 (s : State) (t : PhysTile) (c : Core) (w : Nat) : Nat := ((s.tileOf (tileKey t)).core c).x (bits w 24 20)

/-- `s` with the tile of `t` set to what `x` becomes when core `c` retires `w`. -/
def State.retired (s : State) (t : PhysTile) (c : Core) (w : Nat) (v : Option Nat) (x : Tile) : State :=
  s.setTile (tileKey t) (x.stepped c w v)

/-- The tile after its core `c` has retired an instruction that goes on at `pc` and gives rd the value `v`. -/
def Tile.ran (t : Tile) (c : Core) (pc rd v : Nat) : Tile :=
  let x := t.core c
  let y := ({ x with pc := pc }).setX rd v
  t.setCore c { y with minstret := (y.minstret + 1) % 2 ^ 64 }

/-- A core runs, and the base instruction at its pc, read with the given upsets, is `w` in its 32-bit form and `len` bytes long;
the fetch leaves `s1`. -/
def State.baseAt (s : State) (t : PhysTile) (c : Core) (us : List StoreUpset) (s1 : State) (w len : Nat) : Prop :=
  s.coreRuns (tileKey t) c = true ∧ ∃ h, (s.setTile (tileKey t) ((s.tileOf (tileKey t)).strike us)).fetch (tileKey t) c = .word s1 h len ∧
    fullWord h len = some w ∧ (len = 4 → extCode w = none)

/-- Detector `d` has fired once: its count is one higher and its stamp is that of `s`; every other detector reads as before. -/
def State.firedOnce (s : State) (d : Nat) (t : State) : Prop :=
  (t.detOf d).count = ((s.detOf d).count + 1) % 2 ^ 64 ∧ (t.detOf d).last = s.stamp ∧ ∀ e, e ≠ d → t.detOf e = s.detOf e

/-- A unit is suspect, and every other is as it was. -/
def State.suspects1 (s : State) (u : FailUnit) (t : State) : Prop :=
  t.isSuspect u = true ∧ ∀ v, v ≠ u → t.isSuspect v = s.isSuspect v

/-- The oldest record of tile `k`, of one kind, is processed: its slot is attached as `a` and has the context `c`. -/
def State.processes (s : State) (k kind : Nat) (r : EvRec) (c : Ctx) (a : Attach) : Prop :=
  (∃ rest, (s.tileOf k).evq = r :: rest) ∧ r.kind = kind ∧ s.tileRuns k = true ∧ (s.tileOf k).ctxs.find r.slot = some c ∧
    s.attach.find r.slot = some a ∧ c.scanned = true

/-- What every processing leaves (R225, R230): the record has left the queue, the context is `c` with the counts of the new
entries, and each entry of the table that has changed stands in the store in the unit's form, where the store is sound. -/
def State.processed (s : State) (k : Nat) (r : EvRec) (a : Attach) (old new : List Synapse) (c : Ctx) (t : State) : Prop :=
  (t.tileOf k).evq = (s.tileOf k).evTake.evq ∧
    (t.tileOf k).ctxs.find r.slot = some { c with count := countValid new, high := highValid new } ∧
    (∀ j, j ≠ r.slot → (t.tileOf k).ctxs.find j = (s.tileOf k).ctxs.find j) ∧ (∀ j, j ≠ k → t.tileOf j = s.tileOf j) ∧
    ((s.tileOf k).bad = .empty → (s.tileOf k).w.wf = true → ∀ e, e < new.length → e < a.budget →
      new.getD e synapse0 ≠ old.getD e synapse0 → (t.tileOf k).readBytes .w (a.entryOff e) 16 = natLe 16 (new.getD e synapse0).word)

/-- A frame of one opcode arrives and passes R254 for the open connection `c` of its DST_CONN: well formed, for this node, from the
connection's peer, with the job's key; where it comes by a port, its sender is not heard there against a fresh entry of another
(R288). -/
def State.frameIn (s : State) (port : Option PortRx) (fr : OraFrame) (op : Nat) (c : Conn) : Prop :=
  fr.opcode.toNat = op ∧ s.arrives port fr = true ∧ s.malformed fr = false ∧ fr.dstNode.toNat = s.ownNode ∧
    s.conns.find fr.dstConn.toNat = some c ∧ c.st = .opened ∧ c.peerNode = fr.srcNode.toNat ∧ c.peerConn = fr.srcConn.toNat ∧
    fr.key.toNat = (s.jobOf c.job).key ∧
    ∀ p, port = some p → (s.nodeOf fr.srcNode.toNat).st = .dynamic → (s.nodeOf fr.srcNode.toNat).port = p.port.val ∨
      ((s.nodeOf fr.srcNode.toNat).last < s.now ∧ (s.nodeOf fr.srcNode.toNat).last + s.setting 0x2802 2 * psUs ≤ s.now)

/-- A request's PSN is new (R272), nothing of R258 refuses it, and it may be applied at once (R267). -/
def State.takesRequest (s : State) (c : Conn) (fr : OraFrame) : Prop :=
  0 ≤ psnDist fr.psn.toNat c.e ∧ psnDist fr.psn.toNat c.e < 1024 ∧ c.got.contains fr.psn.toNat = false ∧ s.syndrome c fr = 0 ∧
    s.canApply (c.receive fr.psn.toNat) fr = true

/-- What a request that has been applied leaves of its connection: its PSN counts as received and its credit is returned
(R260, R272). -/
def State.hasServed (t : State) (c : Conn) (id : Nat) (fr : OraFrame) : Prop :=
  ∃ x, t.conns.find id = some x ∧ x.e = (c.receive fr.psn.toNat).e ∧ x.got = (c.receive fr.psn.toNat).got ∧
    x.granted = (c.granted + frCost fr) % 2 ^ 32 ∧ x.lp = (c.creditIn fr.credit.toNat).lp

/-- A class queue of a port, or of the loop, holds a frame of connection `id`. -/
def State.queued (s : State) (p cls id : Nat) (f : OraFrame) : Prop :=
  ∃ q ∈ (s.portOf p).queues.get [] cls, q.conn = id ∧ q.frame = f

/-- Connection `id` keeps every outstanding PSN of `c` that is not in `gone`, and none that is (R274). -/
def State.outsBut (t : State) (c : Conn) (id : Nat) (gone : Nat → Prop) : Prop :=
  ∃ x, t.conns.find id = some x ∧ ∀ q, (gone q → x.outs.find q = none) ∧ (¬ gone q → x.outs.find q = c.outs.find q)

/-- PSN `q` is covered by an acknowledgement's APSN and bitmap, is not the one that a NAK refuses, and is a SEND's or a WRITE's (R273,
R277). -/
def ackHits (c : Conn) (fr : OraFrame) (q : Nat) : Prop :=
  q ∈ c.order ∧ ¬ (fr.opcode.toNat = 9 ∧ fr.psn.toNat = q) ∧ covers (fr.apsn.toNat % 2 ^ 24) fr.operand1.toNat q = true ∧ ∃ o, c.outs.find q = some o ∧ (o.op = 1 ∨ o.op = 2)

/-- PSN `p` of the connection is outstanding for request `w`, as `o`. -/
def State.awaits (s : State) (c : Conn) (p : Nat) (o : OutPsn) (w : WorkReq) : Prop :=
  c.outs.find p = some o ∧ s.wrs.find o.wr = some w

/-- A response's bytes are for tier 1, whose segments are in service and which holds no error (R404). -/
def State.answersTo (s : State) (a n : Nat) : Prop :=
  s.copyTile a = none ∧ s.tier1Bad = .empty ∧ (segsIn a n).all (fun g => s.dram.get false g) = true

/-- What a response leaves of its request `w`: counted, and over once nothing of it is outstanding or unsent (R277). -/
def State.answered (s t : State) (o : OutPsn) (w : WorkReq) (a : Nat) (data : List Byte) : Prop :=
  (w.open_ = 1 ∧ (w.refused = true ∨ w.len ≤ w.sent) → t.entryOf w.list w.idx = none) ∧
    (s.answersTo a data.length → ¬ (w.open_ ≤ 1 ∧ (w.refused = true ∨ w.len ≤ w.sent)) → t.tier1 = s.tier1.writeBytes a data ∧
      ∃ x, t.wrs.find o.wr = some x ∧ x.open_ = w.open_ - 1 ∧ x.refused = w.refused)

/-- Frame `f` is what R252, R262 and R263 give for PSN `p` of the connection: its header, and what its operation carries. -/
def State.carries (s : State) (c : Conn) (id p : Nat) (o : OutPsn) (w : WorkReq) (f : OraFrame) : Prop :=
  f.opcode = BitVec.ofNat 8 o.op ∧ f.psn = BitVec.ofNat 32 p ∧ f.dstNode = BitVec.ofNat 16 c.peerNode ∧
    f.dstConn = BitVec.ofNat 16 c.peerConn ∧ f.srcConn = BitVec.ofNat 16 id ∧ f.key = BitVec.ofNat 32 c.peerKey ∧
    f.credit = BitVec.ofNat 32 c.granted ∧
    (o.op = 1 → f.addr = BitVec.ofNat 64 o.off ∧ f.operand1 = BitVec.ofNat 64 (w.msn + w.len * 2 ^ 32)) ∧
    (o.op = 2 ∨ o.op = 3 → f.addr = BitVec.ofNat 64 (w.rem + o.off)) ∧ (o.op = 3 → f.operand1 = BitVec.ofNat 64 o.len) ∧
    (o.op = 5 ∨ o.op = 6 → f.addr = BitVec.ofNat 64 w.rem ∧ f.operand1 = BitVec.ofNat 64 w.op1) ∧
    (o.op = 6 → f.operand2 = BitVec.ofNat 64 w.op2) ∧
    (o.op = 1 ∨ o.op = 2 → s.copyTile (w.loc + o.off) = none → f.payload = s.tier1.readBytes (w.loc + o.off) o.len)

/-- The request's source for PSN `o`, if it has one, is in tier 1, and tier 1 holds no error. -/
def State.plainSource (s : State) (o : OutPsn) (w : WorkReq) : Prop :=
  s.tier1Bad = .empty ∧ (o.op = 1 ∨ o.op = 2 → s.copyTile (w.loc + o.off) = none)

/-- The head of the send queue of an open connection is request `w`, whose entry is not over and which may send (R262). -/
def State.sendsNext (s : State) (c : Conn) (wid : Nat) (w : WorkReq) : Prop :=
  c.st = .opened ∧ c.sendq.head? = some wid ∧ s.wrs.find wid = some w ∧ (s.entryOf w.list w.idx).isSome = true ∧ w.refused = false ∧
    c.hasRoom w.op = true

/-- The first held frame, lowest PSN first, that may be applied now (R267). -/
def State.heldNext (s : State) (c : Conn) : Option OraFrame :=
  (c.held.mergeSort fun a b => decide (psnDist a.psn.toNat b.psn.toNat ≤ 0)).find? fun f => s.canApply c f

/-- An entry of a REMOTE operation may be posted (R278, R279): a context is free, its unused fields are zero, its flags are among
`allowed`, its connection is open and the job's, its counters are the job's, its LOCAL may be used, and no unit under it has
failed. -/
def State.mayPost (s : State) (l : ListRun) (e : EntryRun) (allowed n : Nat) (write : Bool) (used : List (Nat × Nat)) : Prop :=
  s.contextFree (some e.conn) = true ∧ e.restZero used = true ∧ s.connConds e.conn l.job = [] ∧ s.flagConds e l.job allowed = [] ∧
    s.localConds e.loc n l.job write = [] ∧ (s.copyKeys e.loc e.loc).any s.fencedAt = false ∧
    (segsIn e.loc n).all (fun g => s.dram.get false g) = true

/-- The counter that a triggered request waits on has reached its threshold (R270). -/
def State.triggeredNow (s : State) (w : WorkReq) : Prop := ∃ q, s.ctrs.find w.tctr = some q ∧ triggerMet q.value w.thresh = true

/-- Request `w` has been posted (R262, R270): it stands at the end of its connection's send queue, or waits on its counter; its
entry goes on, and no other request or connection has changed. -/
def State.posted (s t : State) (w : WorkReq) : Prop :=
  (t.entryOf w.list w.idx).isSome = true ∧ t.nextWr = s.nextWr + 1 ∧ (∀ i, i ≠ s.nextWr → t.wrs.find i = s.wrs.find i) ∧
    (w.waiting = false ∨ s.triggeredNow w → t.wrs.find s.nextWr = some { w with waiting := false } ∧ ∀ i, t.conns.find i =
      (s.conns.find i).map fun c => if i = w.conn then { c with sendq := c.sendq ++ [s.nextWr] } else c) ∧
    (w.waiting = true → ¬ s.triggeredNow w → t.wrs.find s.nextWr = some w ∧ t.conns = s.conns)

/-- What has left the module since `s` holds `o`. -/
def State.emits (s t : State) (o : Output) : Prop := ∃ a b, t.out = s.out ++ a ++ o :: b

/-- A frame of the node has left, or waits behind the messages of a bus-off recovery (R318). -/
def State.sendsCan (s t : State) (id : Nat) (data : List Byte) : Prop :=
  (s.canGated = false → ∃ esi, s.emits t (.can id data (s.can.rate != 0) esi)) ∧ (s.canGated = true → (id, data) ∈ t.can.later)

/-- EMCY `code` has been raised with detector `det` (R315, R348): unless messages are disabled or the collar's absence holds them
back, it stands in the error history. -/
def State.hasRaised (s t : State) (code det : Nat) : Prop :=
  s.up.absentAt = none → bit (s.setting 0x1014 0) 31 = false → (code + det * 65536) ∈ t.can.history

/-- An SDO response has left the node, `data` with zeros up to 8 bytes, on 0x580 + node ID (R328), or waits behind the messages of a
bus-off recovery (R318). -/
def State.says (s t : State) (data : List Byte) : Prop :=
  (∃ esi, s.emits t (.can (0x580 + s.can.nodeId) (pad 8 data) (s.can.rate != 0) esi)) ∨
    (s.can.recovering = true ∧ (0x580 + s.can.nodeId, pad 8 data) ∈ t.can.later)

/-- The transfer has ended well with its last response, `data` (R330). -/
def State.sdoEnds (s t : State) (data : List Byte) : Prop :=
  s.says t data ∧ t.can.sdo = none ∧ t.cell 0x1FE1 1 = (s.cell 0x1FE1 1 + 1) % 2 ^ 32

/-- The server has sent an abort for an object and serves no transfer; the abort is counted and kept in 0x1FE1 (R327, R330). -/
def State.sdoAborts (s t : State) (index sub code : Nat) : Prop :=
  s.says t (natLe 1 0x80 ++ sdoMux index sub ++ natLe 4 code) ∧ t.can.sdo = none ∧
    t.cell 0x1FE1 2 = (s.cell 0x1FE1 2 + 1) % 2 ^ 32 ∧ t.cell 0x1FE1 4 = code ∧ t.cell 0x1FE1 5 = index + sub * 65536

/-- An update whose image transfer `d` carried has FAILED, its slot is EMPTY (R435); of any other transfer, firmware is as it was. -/
def State.imageLost (s t : State) (d : Sdo) : Prop :=
  (d.index ≠ 0x2C20 → t.fw = s.fw) ∧ (d.index = 0x2C20 → s.fw.upd = .ready ∨ s.fw.upd = .writing →
    t.fw.upd = .failed ∧ t.fw.imagePath = none ∧ t.fw.slot s.fw.updB = slot0)

/-- The server has ended transfer `d` with an abort. -/
def State.sdoBreaks (s t : State) (d : Sdo) (code : Nat) : Prop := s.sdoAborts t d.index d.sub code ∧ s.imageLost t d

/-- A request frame can be served: 8 bytes, in a state that serves SDO (R328). -/
def State.sdoHears (s : State) (data : List Byte) : Prop := data.length = 8 ∧ s.sdoOpen = true

/-- The command has brought a download's value `bs` whole: R327's checks and effect on the state that has received the frame decide
what is applied and answered, at once with `resp` or later (R330). -/
def State.downloads (s : State) (c : Instr) (how index sub : Nat) (toggle : Bool) (bs resp : List Byte) : Prop :=
  (∀ e, s.canGot.tryWrite index sub (fxWrite .sdo index sub bs) = .error e →
    completes c s (.fresh :: reportFields) fun t => s.sdoAborts t index sub e) ∧
  ∀ u, s.canGot.tryWrite index sub (fxWrite .sdo index sub bs) = .ok u → u.sdoOpen = true → ∃ t, exec c s = .next t ∧
    u.onlyChanges reportFields t ∧
    if u.defers index sub (leNat bs) = true then t.can.sdo = some { sdo0 .waitWrite index sub u.now with seq := how, toggle := toggle }
    else u.sdoEnds t resp

/-- The rows that bring a request frame, with the specifiers of their frames (R329, R330). -/
def sdoCommand (data : List Byte) (c : Instr) : Prop :=
  (c = .sdoInitiateDownload data ∧ frameCcs data = 1) ∨ (c = .sdoDownloadSegment data ∧ frameCcs data = 0) ∨
  (c = .sdoInitiateUpload data ∧ frameCcs data = 2) ∨ (c = .sdoUploadSegment data ∧ frameCcs data = 3) ∨
  (c = .sdoBlockDownloadInitiate data ∧ frameCcs data = 6 ∧ byteAt data 0 % 2 = 0) ∨
  (c = .sdoBlockDownloadEnd data ∧ frameCcs data = 6 ∧ byteAt data 0 % 2 = 1) ∨
  (c = .sdoBlockUploadInitiate data ∧ frameCcs data = 5 ∧ byteAt data 0 % 4 = 0) ∨
  (c = .sdoBlockUploadStart data ∧ frameCcs data = 5 ∧ byteAt data 0 % 4 = 3) ∨
  (c = .sdoBlockUploadAck data ∧ frameCcs data = 5 ∧ byteAt data 0 % 4 = 2) ∨
  (c = .sdoBlockUploadEnd data ∧ frameCcs data = 5 ∧ byteAt data 0 % 4 = 1) ∨
  (c = .sdoAbortReceive data ∧ frameCcs data = 4)

/-- The frame that a transfer expects next has this specifier; a block download's segments have none (R330). -/
def Sdo.expects (d : Sdo) (data : List Byte) : Prop :=
  match d.kind with
  | .segDown => frameCcs data = 0
  | .segUp => frameCcs data = 3
  | .blkDown => True
  | .blkDownEnd => frameCcs data = 6 ∧ byteAt data 0 % 2 = 1
  | .blkUpStart => frameCcs data = 5 ∧ byteAt data 0 % 4 = 3
  | .blkUp => frameCcs data = 5 ∧ byteAt data 0 % 4 = 2
  | .blkUpEnd => frameCcs data = 5 ∧ byteAt data 0 % 4 = 1
  | .waitWrite => True

/-- The next block of an upload has left the node, where no bus-off recovery holds it back (R318, R329): its segments from byte `pos` of the value, numbered from 1, at most
`blksize` of them, bit 7 marking the value's last; the server waits for their acknowledgement. -/
def State.sendsBlock (s t : State) (d : Sdo) : Prop :=
  let rest := d.data.drop d.pos
  let n := max 1 ((rest.length + 6) / 7)
  let k := min n d.blksize
  (s.can.recovering = false → s.can.later = [] → ∃ (esi : Nat → Bool) (b : List Output), t.out = s.out ++ (List.range k).map (fun i => Output.can (0x580 + s.can.nodeId)
    (pad 8 (natLe 1 (i + 1 + flag (i + 1 == n) * 128) ++ (rest.drop (7 * i)).take 7)) (s.can.rate != 0) (esi i)) ++ b) ∧
    t.can.sdo = some { d with kind := .blkUp, seq := k, lastAt := s.now }

/-- The write is aborted with a code (R327): it and the object, with the path's number, are kept in 0x1FE1, and nothing else
changes. -/
def State.refusesWrite (c : Instr) (s : State) (p : Path) (index sub code : Nat) : Prop :=
  completes c s [.od] fun t => t.cell 0x1FE1 4 = code ∧ t.cell 0x1FE1 5 = index + sub * 65536 + pathNum p * 2 ^ 24 ∧
    s.otherCells [(0x1FE1, 4), (0x1FE1, 5)] t

/-- The last response of the download that `d` waits to answer. -/
def Sdo.lastResponse (d : Sdo) : List Byte :=
  if d.seq = 0 then natLe 1 0x60 ++ sdoMux d.index d.sub else if d.seq = 1 then natLe 1 (0x20 + flag d.toggle * 16) else natLe 1 0xA1

/-- A mailbox whose busy request is for the object has been given the outcome of its write. -/
def boxAnswered (a b : Mailbox) (index sub : Nat) (code : Option Nat) : Prop :=
  a.busy = true → a.answer = none → a.index = index → a.sub = sub → b = { a with answer := some (code.getD 0, [], false) }

/-- A write that its path waits for has been answered: well, or with an abort code. -/
def State.writeAnswered (s t : State) (p : Path) (index sub : Nat) (code : Option Nat) : Prop :=
  match p with
  | .sdo => ∀ d, s.can.sdo = some d → d.kind = .waitWrite → d.index = index → d.sub = sub →
    (code = none → s.sdoEnds t d.lastResponse) ∧ ∀ e, code = some e → s.sdoAborts t index sub e
  | .hostA => boxAnswered s.boxA t.boxA index sub code
  | .hostB => boxAnswered s.boxB t.boxB index sub code
  | .rpdo => True

/-- COMMIT's steps 2 to 5 have been taken (R440): of a TRIAL image the slot is COMMITTED, the former one STANDBY and the fuses are
blown up to its SECURITY; records of other schemas are retired; slots below the counter are REVOKED. -/
def State.commits (s t : State) : Prop :=
  let b := s.fw.runB
  let x := s.fw.slot b
  let y := s.fw.slot !b
  let n := if x.st = .committed then s.rollback else max s.rollback x.security
  (x.security ≤ 64 → t.rollback = n) ∧
    t.fw.slot b = { x with st := if x.security < t.rollback then .revoked else .committed } ∧
    t.fw.slot (!b) = { y with st := if y.holdsImage = true ∧ y.security < t.rollback then .revoked
      else if x.st ≠ .committed ∧ y.st = .committed then .standby else y.st } ∧
    t.fw.records = s.fw.records.map (fun r => if r.schema = x.schemaWrite then r else { r with live := false }) ∧ t.fw.commit = none ∧
    t.fw.runB = b

/-- The store `j` begins with a record of the values in force (R338, R339). -/
def State.beginsStore (s t : State) (j : StoreJob) : Prop :=
  t.fw.store = some { j with record := some (s.newRecord j.areas (j.kind == 1)) }

/-- The update of the slot that `s` does not run, or A in ROM recovery, begins (R434): that slot is ERASING. -/
def State.beginsUpdate (s t : State) : Prop :=
  t.fw = { s.fw.setSlot s.targetB { slot0 with st := .erasing } with
    upd := .erasing, updB := s.targetB, updBytes := 0, updResult := 0, beginWait := none, imagePath := none }

/-- The update is over (R435): the state of its slot, the result of 0x2C21:05 and EMCY 0xFF7B; nothing else of firmware has changed. -/
def State.updateOver (s t : State) (x : Slot) (ok : Bool) (result det : Nat) : Prop :=
  t.fw = { s.fw.setSlot s.fw.updB x with upd := if ok then .done else .failed, updResult := result, imagePath := none } ∧
    s.hasRaised t 0xFF7B det

/-- The update has ended, and the path that wrote the image has its answer (R435). -/
def State.updateEnds (s t : State) (x : Slot) (ok : Bool) (result det : Nat) (code : Option Nat) : Prop :=
  s.updateOver t x ok result det ∧ ∀ p, s.fw.imagePath = some p → s.writeAnswered t p 0x2C20 0 code

/-- The write of the image on path `p`, wherever it stands, has been aborted with a code (R435): a transfer in progress is over, and a mailbox
that waits has the code. -/
def State.imageStops (s t : State) (p : Path) (code : Nat) : Prop :=
  let stopped := fun (a b : Mailbox) => (∀ c, b.chunk = some c → c.index ≠ 0x2C20) ∧
    (a.busy = true → a.answer = none → a.index = 0x2C20 → a.sub = 0 → b.answer = some (code, [], false))
  match p with
  | .sdo => ∀ d, s.can.sdo = some d → d.index = 0x2C20 → s.sdoAborts t 0x2C20 0 code
  | .hostA => stopped s.boxA t.boxA
  | .hostB => stopped s.boxB t.boxB
  | .rpdo => True

/-- How many network links are up. -/
def State.linksUp (s : State) : Nat := ((List.range 8).filter fun p => (s.portOf p).link).length

/-- An orderly shutdown has been done (R283, R355): EMCY 0xFF69 raised, which the eight entries of 0x1003 still show where fewer than
eight links then go down, every job closed and every table of the units gone, every domain
but COLLAR off or latched off. -/
def State.shutDown (s t : State) (det : Nat) : Prop :=
  (s.linksUp ≤ 7 → s.hasRaised t 0xFF69 det) ∧ t.jobs = .empty ∧ t.lists = .empty ∧ t.sessions = .empty ∧ t.frames = .empty ∧ t.dram = .empty ∧
    t.attach = .empty ∧ t.plans = .empty ∧ t.conns = .empty ∧ t.ports = .empty ∧ t.nodes = .empty ∧ t.up.yoke = false ∧
    t.power.needRequest = true ∧ ∀ d, (t.domainOf d).st = if (s.domainOf d).st = .latchedOff then .latchedOff else .off

/-- GO of request `r` has been taken and its outcome is known (R344): the mailbox carries it, BUSY, the other function's is as it
was; an abort is kept in 0x1FE1. -/
def State.boxSays (s t : State) (f : Fn) (r : MailReq) (code : Nat) (bs : List Byte) : Prop :=
  t.box f = { (s.box f).go r with answer := some (code, bs, false) } ∧ (∀ g, g ≠ f → t.box g = s.box g) ∧
    t.cell 0x1FE2 1 = (s.cell 0x1FE2 1 + 1) % 2 ^ 32 ∧ (code ≠ 0 → t.cell 0x1FE1 4 = code ∧
      t.cell 0x1FE1 5 = r.index.toNat + r.sub.toNat * 65536 + pathNum (pathOf f) * 2 ^ 24)

/-- `s` with GO of request `r` taken and counted. -/
def State.going (s : State) (f : Fn) (r : MailReq) : State := (s.setBox f ((s.box f).go r)).bump32 0x1FE2 1

/-- The image transfer that a mailbox's WRITE belongs to (R345): a new one for OFFSET 0, the one in progress where OFFSET is what it
has moved. -/
def State.chunkFor (s : State) (f : Fn) (r : MailReq) : Option Chunked :=
  if r.offset = 0 then some { index := 0x2C20, sub := 0, write := true, data := [], pos := 0, lastAt := s.now }
  else match (s.box f).chunk with
    | some c => if c.pos = r.offset.toNat then some c else none
    | none => none

/-! ### Beat words and session entries -/

/-- Word `w`, whose boundary is at `at_`, is good for the boundary in force (R64): it is in the window and accepted, it carries the
boundary's stamp and the source, the geometry in force or a new one in a GEOMETRY word (R75), and is not period-mismatched (R66). -/
def State.goodWordAt (s : State) (v at_ : Nat) (w : BeatWord) : Prop :=
  s.beat.lock = .locked ∧ s.beat.decided = false ∧ s.beat.boundaryAt ≤ at_ + bit4 ∧ at_ ≤ s.beat.boundaryAt + bit4 ∧
    readWord v s.beat.inverted = some w ∧ w.accepted = true ∧
    w.frame = bits s.beat.received 63 32 ∧ w.line = bits s.beat.received 31 16 ∧ w.source = s.beat.source ∧
    ((w.lines = s.beat.lines ∧ w.rate = s.beat.rate) ∨ w.type = 2) ∧
    (at_ - s.beat.prevAt - s.beat.nominal) * 1000 ≤ s.beat.nominal ∧ (s.beat.nominal - (at_ - s.beat.prevAt)) * 1000 ≤ s.beat.nominal

/-- The word received in the window is bad for the boundary in force: `faults` are the conditions that it breaks, each with its
counter of 0x2102 and its detector, 0 where none fires (R64 to R66, R74, R75). -/
def State.badWordAt (s : State) (v at_ : Nat) (faults : List (Nat × Nat)) : Prop :=
  s.beat.lock = .locked ∧ s.beat.decided = false ∧ s.beat.boundaryAt ≤ at_ + bit4 ∧ at_ ≤ s.beat.boundaryAt + bit4 ∧ faults ≠ [] ∧
    match readWord v s.beat.inverted with
    | none => faults = [(3, 0x0901)]
    | some w => (w.crcOk = false ∧ faults = [(2, 0x0901)]) ∨ (w.crcOk = true ∧
      faults = (if w.formOk = false ∨ ((w.lines ≠ s.beat.lines ∨ w.rate ≠ s.beat.rate) ∧ w.type ≠ 2) then [(4, 0x0907)] else []) ++
        (if w.frame ≠ bits s.beat.received 63 32 ∨ w.line ≠ bits s.beat.received 31 16 ∨ w.source ≠ s.beat.source then [(5, 0)] else []) ++
        (if s.beat.nominal < (at_ - s.beat.prevAt - s.beat.nominal) * 1000 ∨ s.beat.nominal < (s.beat.nominal - (at_ - s.beat.prevAt)) * 1000
          then [(6, 0x0908)] else []))

/-- Candidate `c`, read from word `v`, is accepted in a search and completes a run of three (R61 to R63): `i1` and `i2` are the intervals
of the run. -/
def State.thirdCandidate (s : State) (v : Nat) (c : Candidate) (i1 i2 : Nat) : Prop :=
  s.beat.lock ≠ .locked ∧ (∀ t, s.beat.lastFirstBit = some t → t + bitLockout ≤ c.at_) ∧
    (c.inverted = false → s.beat.polMode ≠ 2) ∧ (c.inverted = true → s.beat.polMode ≠ 1 ∧ readWord v false = none) ∧
    (∃ w, readWord v c.inverted = some w ∧ w.accepted = true ∧ c.frame = w.frame ∧ c.line = w.line ∧ c.lines = w.lines ∧
      c.rate = w.rate ∧ c.source = w.source ∧ c.flags = w.flags) ∧
    ∃ a b, s.beat.run = [b, a] ∧ isSuccessor b.frame b.line b.lines c.frame c.line = true ∧ b.inverted = c.inverted ∧
      i1 = b.at_ - a.at_ ∧ i2 = c.at_ - b.at_ ∧ i1 ≤ i2 + bit4 ∧ i2 ≤ i1 + bit4

/-- The bad word has been counted toward the run of R67: with the fourth in a row lock is lost (HOLDOVER, or LOST while the module
reference is lost), and the boundary and the line count stand either way. -/
def State.badCounted (s t : State) : Prop :=
  t.beat.badRun = (if 3 ≤ s.beat.badRun then 0 else s.beat.badRun + 1) ∧ t.beat.n = s.beat.n ∧ t.beat.boundaryAt = s.beat.boundaryAt ∧
    t.beat.period = s.beat.period ∧ t.beat.decided = true ∧
    t.beat.lock = (if 3 ≤ s.beat.badRun then (if s.power.internalOsc then .lost else .holdover) else .locked) ∧
    (3 ≤ s.beat.badRun → t.cell 0x2102 7 = (s.cell 0x2102 7 + 1) % 2 ^ 32 ∧ s.hasRaised t 0xFF10 0x0904) ∧
    (s.beat.badRun < 3 → t.cell 0x2102 7 = s.cell 0x2102 7)

/-- The holdover limit has taken effect (R70): LOST, counted, EMCY 0xFF11; every session that was OPEN is SUSPENDED, or FREE where it was
closing, and none of its frames is outstanding; no other session or frame has changed. -/
def State.holdoverPassed (s t : State) : Prop :=
  t.beat = { s.beat with lock := .lost } ∧ t.cell 0x2102 0xC = (s.cell 0x2102 0xC + 1) % 2 ^ 32 ∧ s.hasRaised t 0xFF11 0x0905 ∧
    (∀ k, (s.sessionOf k).st = .opened → (s.sessionOf k).closing = false →
      t.sessionOf k = { s.sessionOf k with st := .suspended, resume := false }) ∧
    (∀ k, (s.sessionOf k).st ≠ .opened → t.sessionOf k = s.sessionOf k) ∧
    (∀ i f, s.frames.find i = some f → (s.sessionOf f.slot).st = .opened → t.frames.find i = none) ∧
    ∀ i f, s.frames.find i = some f → (s.sessionOf f.slot).st ≠ .opened → t.frames.find i = some f

/-- The entry is over with a status: it is no longer outstanding, and where its list goes on its status is kept (R194). -/
def State.ended (t : State) (id idx : Nat) (st : Status) : Prop :=
  t.entryOf id idx = none ∧ ∀ l, t.lists.find id = some l → ∃ x ∈ l.entries, x.idx = idx ∧ x.status = some st

/-- Only the session slots in a list have changed. -/
def State.otherSlots (s : State) (ks : List Nat) (t : State) : Prop := ∀ j, j ∉ ks → t.sessionOf j = s.sessionOf j

/-- The slot that an entry of the BEAT engine names is in use and the job's own (R198, R206). -/
def State.ownSlot (s : State) (k job : Nat) : Prop := k < 4096 ∧ (s.sessionOf k).st ≠ .free ∧ (s.sessionOf k).job = job

/-- A plan that a slot of the job may be bound to: none, or one of the job whose pass is no longer than the margin (R163, R206). -/
def State.planFits (s : State) (plan m job : Nat) : Prop :=
  plan = 0xFFFF ∨ ∃ p, s.plans.find plan = some p ∧ p.passLen ≤ m ∧ p.job = job

/-- Period, phase and margin within R79. -/
def rasterGood (p phase m : Nat) : Prop := 150 ≤ p ∧ phase < p * 65536 ∧ 1 ≤ m ∧ m < p

/-! ### Units that fall -/

/-- Detector `d` has fired once more than before, whatever else has fired. -/
def State.firedMore (s t : State) (d : Nat) : Prop := (t.detOf d).count = ((s.detOf d).count + 1) % 2 ^ 64

/-- The eight panels of row `y` are LOST. -/
def State.rowOut (t : State) (y : Nat) : Prop := ∀ x, x < 8 → t.panelLost (y * 8 + x) = true

/-- The lanes of the north–south seams of column `x` are lost in both directions, and the panels that R29 names for them, those north of
each, are LOST. -/
def State.columnOut (t : State) (x : Nat) : Prop := (∀ y, 1 ≤ y → y < 8 → t.panelLost (y * 8 + x) = true) ∧
  ∀ y d, y < 7 → d < 2 → t.wafer.laneFail.get 0 (northEdge x y * 2 + d) = 0x3FFF

/-- A panel's stores have lost their contents and its PLL is not locked (R132, R360). -/
def State.contentsLost (t : State) (p : Nat) : Prop :=
  (t.panelPower p).pll = false ∧ ∀ k, keyPanel k = p → ∀ st l, (t.tileOf k).isWritten st l = false

/-- A segment's flash is LINK_DOWN, and its DRAM, where it was in service, is suspect (R361). -/
def State.segmentOut (s t : State) (g : Nat) : Prop :=
  (t.seg g).flash = .linkDown ∧ (s.dram.get false g = true → t.isSuspect (.dram g) = true)

/-- The yoke is reset and is to be loaded again from step 8, with no job OPEN (R416). -/
def State.yokeOut (t : State) : Prop := t.up.yoke = false ∧ t.up.step = 8 ∧ t.up.phase = .yokeStart ∧ ∀ j, (t.jobOf j).st ≠ .opened

/-- A panel can be reset: in the grid, not LOST, its overcurrent latch clear (R360, R362). -/
def State.panelResets (s : State) (p : Nat) : Prop :=
  (s.wafer.panelOf p).mode = .active ∧ s.panelLost p = false ∧ (s.panelPower p).overcurrent = false

/-- A panel is in reset (R360, R411): suspect until its fence, its PLL unlocked, its stores unwritten; the translation stands and no other tile
has changed. -/
def State.inPanelReset (s : State) (p : Nat) (t : State) : Prop :=
  t.isSuspect (.panelReset p) = true ∧ t.panelLost p = false ∧ t.wafer = s.wafer ∧ (t.panelPower p).resetAt.isSome = true ∧
    (t.panelPower p).pll = false ∧ (∀ k, keyPanel k = p → ∀ st l, (t.tileOf k).isWritten st l = false) ∧
    ∀ k, keyPanel k ≠ p → t.tileOf k = s.tileOf k

/-- Only the power status of panel `p` has changed, to `x`. -/
def State.panelTakes (s : State) (p : Nat) (x : PanelPower) (t : State) : Prop :=
  t.panelPower p = x ∧ ∀ q, q ≠ p → t.panelPower q = s.panelPower q

/-- Only domain `d` has changed, to `x`. -/
def State.domainTakes (s : State) (d : Nat) (x : Domain) (t : State) : Prop :=
  t.domainOf d = x ∧ ∀ e, e ≠ d → t.domainOf e = s.domainOf e

/-- Row `r` is the next that a stage of the power limit takes (R364): from PY 7 down, the first with an ACTIVE panel that the stage has not yet
taken. -/
def State.rowIsNext (s : State) (st r : Nat) : Prop :=
  let taken := fun n => ∃ a ∈ s.power.actions, a.stage = st ∧ a.row = n
  r < 8 ∧ s.activeIn r ≠ [] ∧ ¬ taken r ∧ ∀ n, r < n → n < 8 → s.activeIn n = [] ∨ taken n

/-- Every domain is OFF, or stays latched off. -/
def State.domainsFall (s t : State) : Prop := ∀ d, (t.domainOf d).st = if (s.domainOf d).st = .latchedOff then .latchedOff else .off

/-- A failed attempt in a row to start the yoke is counted (R399): a retry in 1 s, or YOKE_FAILED at the limit of 0x2A01:02. -/
def State.attemptFails (s t : State) : Prop :=
  t.up.failedYoke = min 255 (s.up.failedYoke + 1) ∧
    (s.setting 0x2A01 2 ≤ s.up.failedYoke + 1 → t.up.phase = .yokeFailed ∧ t.up.retryAt = none) ∧
    (s.up.failedYoke + 1 < s.setting 0x2A01 2 → t.up.phase = .yokeStart ∧ t.up.retryAt = some (t.now + psS))

/-- The health check of the running image has failed (R431, R432): counted in its slot, 0x0E05, EMCY 0xFF79, which a fallback's shutdown that takes many
links down may push out of 0x1003; at the third time the slot is FAILED, the
fallback is counted and the collar restarts through its watchdog. -/
def State.healthFails (s t : State) : Prop :=
  let x := s.fw.slot s.fw.runB
  s.firedMore t 0x0E05 ∧ (x.failures < 2 ∨ (s.domainOf 0).st = .off ∨ s.linksUp ≤ 5 → s.hasRaised t 0xFF79 0x0E05) ∧
    (x.failures < 2 → (t.fw.slot s.fw.runB).failures = x.failures + 1 ∧ t.fw.fallbacks = s.fw.fallbacks) ∧
    (2 ≤ x.failures → (t.fw.slot s.fw.runB).st = .failed ∧ t.fw.fallbacks = (s.fw.fallbacks + 1) % 2 ^ 32 ∧ s.firedMore t 0x0E06 ∧
      t.up.inReset = true ∧ t.up.cause = .watchdog ∧ t.up.step = 1)

/-- A failure at step 8 or 9 of the yoke's start (R398, R399): detector, EMCY 0xFF02, every domain OFF, the attempt counted, and a health check that runs has
failed. -/
def State.yokeStartFails (s t : State) (det : Nat) : Prop :=
  s.firedMore t det ∧ s.hasRaised t 0xFF02 det ∧ s.domainsFall t ∧ t.up.yoke = false ∧
    (s.fw.health ≠ 1 ∨ (s.fw.slot s.fw.runB).failures < 2 → s.attemptFails t) ∧ (s.fw.health = 1 → s.healthFails t) ∧
    (s.fw.health ≠ 1 → (t.fw.slot s.fw.runB).failures = (s.fw.slot s.fw.runB).failures)

/-- ROM recovery has been entered (R389): PRE-OPERATIONAL with a node ID from 1 to 127, the detector fired, EMCY 0xFF02 and 0xFF03 raised. -/
def State.recovers (s t : State) (cause det : Nat) : Prop :=
  t.up.phase = .recovery ∧ t.up.recovery = cause ∧ t.up.collar = true ∧ t.can.nmt = .preOperational ∧ 1 ≤ t.can.nodeId ∧ t.can.nodeId ≤ 127 ∧
    s.firedMore t det ∧ (0xFF02 + det * 65536) ∈ t.can.history ∧ (0xFF03 + det * 65536) ∈ t.can.history

/-- The collar has lost its power (R350): it runs no more, has reported nothing, and a start follows from step 1 with cause 0. -/
def State.unpowers (s t : State) : Prop :=
  t.up.collar = false ∧ t.up.inReset = true ∧ t.up.cause = .supply ∧ t.up.step = 1 ∧ t.can.nmt = .initialising ∧ t.det = s.det ∧
    t.can.history = s.can.history

/-- The lengths of an image's two parts are in the limits of R388 and R426. -/
def sizedParts (k : ImageChecks) : Prop :=
  1 ≤ k.collarLen ∧ k.collarLen ≤ 524288 ∧ 1 ≤ k.yokeLen ∧ k.yokeLen ≤ 8388608

/-! ### Fences -/

/-- The tile is fenced and suspect no longer, and 0x2B00:01 counts it (R405). -/
def State.tileOut (s : State) (k : Nat) (t : State) : Prop :=
  (t.tileOf k).fenced = true ∧ t.isSuspect (.tile k) = false ∧ t.cell 0x2B00 1 = (s.cell 0x2B00 1 + 1) % 2 ^ 64

/-- What the failure of tiles has done to the OPEN jobs that use one of them (R199, R402, R403): a STRICT one is ABORTED with no frame left, an
ELASTIC one has no frame left whose pass touches a failed tile. -/
def State.usersHit (s : State) (ks : List Nat) (t : State) : Prop :=
  ∀ j, (s.jobOf j).st = .opened → (∃ k ∈ ks, s.usesTile (s.jobOf j) k = true) →
    ((s.jobOf j).elastic = false → (t.jobOf j).st = .aborted) ∧
    ∀ i f, s.frames.find i = some f → f.job = j → (s.jobOf j).elastic = false ∨ (∃ k ∈ ks, k ∈ s.frameTiles f) → t.frames.find i = none

/-- The epoch has stepped, once for each boundary (R39); before the first lock, where there are none, every time (log 14). -/
def State.epochSteps (s t : State) : Prop :=
  (s.beat.lock ≠ .search → t.wafer.epochN = some s.beat.n ∧
    t.wafer.epoch = if s.wafer.epochN = some s.beat.n then s.wafer.epoch else s.wafer.epoch + 1) ∧
  (s.beat.lock = .search → t.wafer.epoch = s.wafer.epoch + 1)

/-- The grid has been rebuilt with the panels `lost` LOST and with those that mode `m` leaves out REMOVED (R36, R409); the domains of neither are on, and their
stores hold nothing. -/
def State.rebuiltAs (t : State) (m : Nat) (lost : Nat → Prop) : Prop :=
  ∀ p, p < 64 →
    let out := (m = 1 ∧ ∃ y, y < 8 ∧ lost (y * 8 + p % 8)) ∨ (m = 2 ∧ ∃ x, x < 8 ∧ lost (p / 8 * 8 + x))
    (lost p → (t.wafer.panelOf p).mode = .lost) ∧ (¬ lost p → out → (t.wafer.panelOf p).mode = .removed) ∧
    (¬ lost p → ¬ out → (t.wafer.panelOf p).mode = .active) ∧
    (lost p ∨ out → t.contentsLost p ∧ ((t.domainOf (coreDomain p)).st = .off ∨ (t.domainOf (coreDomain p)).st = .latchedOff) ∧
      ((t.domainOf (memDomain p)).st = .off ∨ (t.domainOf (memDomain p)).st = .latchedOff))

/-- The restore has taken effect (R418): of the panels out of the grid those stay LOST that cannot come back or whose stages are not ON, and
0x2B30:02 names them; the grid is rebuilt without them. -/
def State.restored (s t : State) (bad : List Nat) : Prop :=
  let stays := fun (q : Nat) => (s.wafer.panelOf q).mode != .active && (s.restoreStays bad q || (s.domainOf (coreDomain q)).st != .on)
  t.up.restore = none ∧ t.rebuiltAs (s.setting 0x2002 0) (fun q => stays q = true) ∧ s.hasRaised t 0xFF72 0 ∧
    t.wafer.mode = (if allPanels.any stays then min (s.setting 0x2002 0) 3 else 0) ∧
    t.cell 0x2B30 2 = ((allPanels.filter stays).map fun q => 2 ^ q).sum

/-- An owner has been fenced (R412, R414): counted, with EMCY 0xFF75, and suspect no longer. -/
def State.ownerOut (s : State) (u : FailUnit) (det : Nat) (t : State) : Prop :=
  t.cell 0x2B00 5 = (s.cell 0x2B00 5 + 1) % 2 ^ 64 ∧ s.hasRaised t 0xFF75 det ∧ t.isSuspect u = false

/-- The injection may fire at this boundary (R421): armed, not fired at it yet, lines counted and the start stamp reached. -/
def State.injectionDue (s : State) : Prop :=
  s.injection.armed = true ∧ s.injection.lastN ≠ some s.beat.n ∧ s.beat.lock ≠ .search ∧
    (s.cell 0x2B20 5 = 0 ∨ stampLater (s.cell 0x2B20 5) (s.beat.stampOf (s.beat.n * 65536)) = false)

/-- An injected firing of the detector in 0x2B20:01 (R421, R422): it counts as a firing and as an injected one, and once more of COUNT. -/
def State.injectionFires (s t : State) : Prop :=
  let d := s.cell 0x2B20 1
  s.firedMore t d ∧ (t.detOf d).injected = ((s.detOf d).injected + 1) % 2 ^ 32 ∧
    t.injection = ⟨decide (s.injection.fired + 1 < s.setting 0x2B20 4), s.injection.fired + 1, some s.beat.n, false⟩

/-! ### Tiles -/

/-- The task-relative lines `rs` of a store are its lines `ls`: inside the task's window, in powered banks, written, in a tile that
holds no error (R119, R124, R132, R135). -/
def Tile.holds (t : Tile) (st : StoreSel) (rs ls : List Nat) : Prop :=
  t.bad = .empty ∧ List.Forall₂ (fun r l => t.taskLine st r = some l ∧ t.lineOff st l = false ∧ t.isWritten st l = true) rs ls

/-- The same for lines that are to be written: they need not have been written before. -/
def Tile.admits (t : Tile) (st : StoreSel) (rs ls : List Nat) : Prop :=
  t.bad = .empty ∧ List.Forall₂ (fun r l => t.taskLine st r = some l ∧ t.lineOff st l = false) rs ls

/-- Whole lines are written one after another. -/
def Tile.putLines (t : Tile) (st : StoreSel) (ls : List Nat) (ds : List (List Byte)) : Tile :=
  (ls.zip ds).foldl (fun x p => x.writeBytes st (p.1 * 64) p.2) t

/-- The bytes of store lines. -/
def Tile.lineBytes (t : Tile) (st : StoreSel) (ls : List Nat) : List (List Byte) := ls.map fun l => t.readBytes st (l * 64) 64

/-- Column `j` of an INT8 pass (R88, R97): the sum over the 32 inputs of activation times weight. -/
def int8Column (plane : List Byte) (es : List Nat) (j : Nat) : Int :=
  ((List.range 32).map fun i => signed 8 (plane.getD (32 * i + j) 0).toNat * signed 8 (es.getD i 0)).sum

/-- A running task of tile `k` has been ended with a status by detector `d` (R125, R138): both cores are halted, queued instructions are gone,
issued ones run on, and the detector has fired once. -/
def State.taskEnds (s : State) (k : Nat) (st : Status) (d : Nat) (t : State) : Prop :=
  (t.tileOf k).core0.halted = true ∧ (t.tileOf k).core1.halted = true ∧ (t.tileOf k).queue = [] ∧
    (t.tileOf k).flights = (s.tileOf k).flights ∧ (∃ q, (t.tileOf k).task = some q ∧ q.failed = some st ∧ q.det = d) ∧
    (t.detOf d).count = ((s.detOf d).count + 1) % 2 ^ 64 ∧ ∀ j, j ≠ k → t.tileOf j = s.tileOf j

end Sys2Proof.Machine
end

