-- ==== Sys2Proof/Certificates/Slice0/Obligations.lean ====
section
/-! DEFINITION. The statements for the provers. -/

open Sys2Proof Sys2Proof.Machine

/-- A step runs the command at the front of the queue with the queue's rest. -/
def Obligations.StepRunsFront : Prop :=
  ∀ (c : Instr) (rest : List Instr) (s : State), s.pending = c :: rest → step s = exec c { s with pending := rest }

/-- What reset leaves, where the spec gives the value: SEARCH and no line count (R61, R87), the full grid at epoch 0 (R48), every
session slot and job FREE (R78, R196), functions down with every register 0 (R217), the node INITIALISING (R307), the input
absent, domains OFF (R383), phase COLLAR_START at level 0 with 0x0F missing (R400), no detector fired and nothing logged (R420). -/
def Obligations.ResetValues : Prop :=
  State.reset.beat.lock = .search ∧ State.reset.beat.n = 0 ∧ State.reset.wafer.mode = 0 ∧ State.reset.wafer.epoch = 0 ∧
    State.reset.wafer.width = 88 ∧ State.reset.wafer.height = 96 ∧ State.reset.wafer.present = 8448 ∧
    (∀ k, (State.reset.sessionOf k).st = .free) ∧ (∀ j, (State.reset.jobOf j).st = .free) ∧
    (∀ f, (State.reset.host f).up = false ∧ (State.reset.host f).evEnable = false) ∧ State.reset.can.nmt = .initialising ∧
    State.reset.power.input = .absent ∧ (∀ d, (State.reset.domainOf d).st = .off) ∧ State.reset.up.phase = .collarStart ∧
    State.reset.level = 0 ∧ State.reset.missing = 0x0F ∧ (∀ d, State.reset.detOf d = ⟨0, 0, 0⟩) ∧ State.reset.logMade = 0 ∧
    State.reset.pending = []

/-- The state right after reset has the invariant. -/
def Obligations.ResetHasInvariant : Prop := State.reset.Inv

/-- Every step keeps the invariant, from every state that has it. -/
def Obligations.StepKeepsInvariant : Prop := ∀ s t : State, s.Inv → step s = .next t → t.Inv

/-- What is watched continuously changes reports only, and follows the state (R315, R396, R419): the level in force is kept while the
collar runs, a cause requests replacement, and an error register that has returned to 0 raises EMCY 0x0000. -/
def Obligations.WatchedContinuously : Prop :=
  ∀ s u : State, u.onlyChanges reportFields (State.settle s u) ∧ (u.up.collar = true → (State.settle s u).up.level = u.level) ∧
    (u.replaceCauses ≠ 0 → (State.settle s u).replacement = true) ∧ (u.replacement = true → (State.settle s u).replacement = true)

/-- Logical and physical columns of a row translate into each other (R34): every logical tile of the grid has a physical position of
its row whose column is as R34 states, never the skipped one, and that position translates back; the skipped column has no logical
one. -/
def Obligations.TranslationInverse : Prop :=
  (∀ (w : Wafer) (lx ly k : Nat), (∀ p r, w.skipOf p r ≤ 11) → w.phys lx ly = some k →
    let s := w.skipOf (keyPanel k) (keyRow k)
    keyCol k = (if lx % 11 < s then lx % 11 else lx % 11 + 1) ∧ keyRow k = ly % 12 ∧ keyCol k < 12 ∧ keyCol k ≠ s ∧
      lx % 11 = (if keyCol k < s then keyCol k else keyCol k - 1) ∧ w.logical k = some (lx, ly)) ∧
  ∀ (w : Wafer) (k : Nat), keyCol k = w.skipOf (keyPanel k) (keyRow k) → w.logical k = none

/-- A lane that fails a first time is marked in its own direction only, and the translation in force waits for the boundary (R29,
R39): the first two failures of a direction fire 0x0401; the third declares the seam lost (0x0402) and the panel of the higher
number with it. A failed pass-through lane fires 0x0403. Before the first lock there are no boundaries, and the change of lanes takes
effect at once (the model's choice: log 14). -/
def Obligations.LaneFailures : Prop :=
  (∀ (s : State) (e : Fin 144) (d : Fin 2) (n : Fin 14), bit (s.wafer.laneFail.get 0 ((e.val + 1) * 2 + d.val)) n.val = false →
    let key := (e.val + 1) * 2 + d.val
    let m := setBit (s.wafer.laneFail.get 0 key) n.val
    (s.beat.lock ≠ .search → settles (.seamLaneFail e d n) s (reportFields ++ ([.wafer, .suspects, .moves, .tiles] : List Field)) fun u =>
      u.wafer.laneFail.get 0 key = m ∧ (∀ j, j ≠ key → u.wafer.laneFail.get 0 j = s.wafer.laneFail.get 0 j) ∧
      u.wafer.laneForce = s.wafer.laneForce ∧ u.wafer.epoch = s.wafer.epoch ∧ u.wafer.mode = s.wafer.mode ∧
      (popcount 14 m < 3 → s.firedOnce 0x0401 u ∧ u.suspects = s.suspects ∧ u.tiles = s.tiles ∧ u.wafer.panel = s.wafer.panel) ∧
      (3 ≤ popcount 14 m → s.firedMore u 0x0402 ∧ ∀ a b, seamPanels (e.val + 1) = some (a, b) → a < b ∧ u.panelLost b = true)) ∧
    (s.beat.lock = .search → s.up.restore = none → settles (.seamLaneFail e d n) s (reportFields ++ entryFields ++
        ([.wafer, .sessions, .frames, .skips, .setSkips, .suspects, .moves, .tiles, .attach, .plans, .power] : List Field)) fun u =>
      u.wafer.laneFail.get 0 key = m ∧ (∀ j, j ≠ key → u.wafer.laneFail.get 0 j = s.wafer.laneFail.get 0 j) ∧
      u.wafer.laneForce = u.wafer.laneFail ∧ u.wafer.mode = s.wafer.mode ∧
      (s.wafer.laneForce = s.wafer.laneFail → u.wafer.epoch = s.wafer.epoch + 1) ∧
      (popcount 14 m < 3 → s.firedMore u 0x0401) ∧ (3 ≤ popcount 14 m → s.firedMore u 0x0402))) ∧
  ∀ (s : State) (p : PanelId) (ns : Bool) (n : Pos12), bit (s.wafer.passFail.get 0 (p.val * 2 + flag ns)) n.val = false →
    let m := setBit (s.wafer.passFail.get 0 (p.val * 2 + flag ns)) n.val
    (s.beat.lock ≠ .search → completes (.passThroughLaneFail p ns n) s [.wafer, .det, .log, .logMade, .faultBuffer] fun t =>
      t.wafer.passFail.get 0 (p.val * 2 + flag ns) = m ∧ t.wafer.passForce = s.wafer.passForce ∧ t.wafer.epoch = s.wafer.epoch ∧
      s.firedOnce 0x0403 t) ∧
    (s.beat.lock = .search → s.up.restore = none → completes (.passThroughLaneFail p ns n) s (entryFields ++ ([.wafer, .sessions, .frames,
        .skips, .setSkips, .tiles, .attach, .plans, .power] : List Field)) fun t =>
      t.wafer.passFail.get 0 (p.val * 2 + flag ns) = m ∧ t.wafer.passForce = t.wafer.passFail ∧ s.firedMore t 0x0403)

/-- A translation query takes the position of the named tile at the current epoch, VALID clear outside the grid (R48), a session query
the state, phase and next deadline of its slot (R87); a value out of range aborts either (R327). Queries by tile, segment and plan
(R117, R144, R175): a write of the number takes what stands in the unit into the object's sub-indices, zeros where nothing is
named, and changes nothing else. Queries by job, slot, context, connection, counter, node, detector and log entry (R218, R248,
R280, R300, R423). The model's choices within it: log 21. -/
def Obligations.Queries : Prop :=
  ((∀ (s : State) (p : Path) (v : W32), s.canWrite p 0x2003 1 = true → v.toNat < 2 ^ 15 → bit v.toNat 7 = false →
    s.takes (.translationQuery p v) 0x2003 [(1, v.toNat), (2, match s.wafer.phys (bits v.toNat 6 0) (bits v.toNat 14 8) with
      | some k => keyPanel k % 8 + keyPanel k / 8 * 8 + keyCol k * 2 ^ 6 + keyRow k * 2 ^ 10 + 2 ^ 31
      | none => 0)]) ∧
  (∀ (s : State) (p : Path) (v : W32), s.canWrite p 0x2003 1 = true → 2 ^ 15 ≤ v.toNat ∨ bit v.toNat 7 = true →
    s.refusesWrite (.translationQuery p v) p 0x2003 1 0x06090030) ∧
  (∀ (s : State) (p : Path) (v : W16), s.canWrite p 0x2130 1 = true → v.toNat < 4096 →
    let x := s.sessionOf v.toNat
    s.takes (.sessionQuery p v) 0x2130 [(1, v.toNat),
      (2, sessNum x.st + x.set.getD 0xFF * 256 + x.p * 2 ^ 16 + x.m * 2 ^ 32 + x.cls * 2 ^ 48), (3, x.phase),
      (4, if x.st = .free then 0 else s.beat.stampOf x.nextBeat)]) ∧
  ∀ (s : State) (p : Path) (v : W16), s.canWrite p 0x2130 1 = true → 4096 ≤ v.toNat →
    s.refusesWrite (.sessionQuery p v) p 0x2130 1 0x06090030) ∧
  ((∀ (s : State) (p : Path) (v : W16), s.canWrite p 0x2220 1 = true → bit v.toNat 7 = false → bit v.toNat 15 = false →
    s.takes (.tileQuery p v) 0x2220 ((1, v.toNat) :: match s.wafer.phys (bits v.toNat 6 0) (bits v.toNat 14 8) with
      | some k => [(2, (if s.fencedAt k then 2 else if (s.tileOf k).task.isSome then 1 else 0) + (s.tileOf k).queue.length * 4 +
          (s.tileOf k).reg 0x14 * 256 + 2 ^ 31), (3, (s.tileOf k).reg 0x50 + (s.tileOf k).reg 0x54 * 2 ^ 32)]
      | none => [(2, 0), (3, 0)])) ∧
  (∀ (s : State) (p : Path) (v : W16), s.canWrite p 0x2310 1 = true → bit v.toNat 7 = false → bit v.toNat 15 = false →
    s.takes (.storeQuery p v) 0x2310 ((1, v.toNat) :: match s.wafer.phys (bits v.toNat 6 0) (bits v.toNat 14 8) with
      | some k =>
        let t := s.tileOf k
        [(2, t.wBase + t.wLimit * 2 ^ 16 + t.aBase * 2 ^ 32 + t.aLimit * 2 ^ 48),
          (3, t.pBase + t.pLimit * 2 ^ 16 + t.policy * 2 ^ 32 + 2 ^ 63), (4, t.pdW + t.pdA * 2 ^ 16 + t.pdP * 2 ^ 32),
          (5, t.viol + t.viol2 * 2 ^ 32)]
      | none => [(2, 0), (3, 0), (4, 0), (5, 0)])) ∧
  (∀ (s : State) (p : Path) (v : Byte), s.canWrite p 0x2410 1 = true → v.toNat < 16 →
    let g := s.seg v.toNat
    s.takes (.segmentQuery p v) 0x2410 ([(1, v.toNat),
      (2, flag (!s.dram.get false v.toNat) + flashNum g.flash * 2 + g.queues * 8 + g.gen * 128 + g.entries * 65536), (3, g.nsze)] ++
      (List.range 8).map (fun i => (4 + i, s.segCtr.get 0 (v.toNat * 16 + 4 + i))) ++
      [(0xC, g.warning), (0xD, s.dramDemand v.toNat % 2 ^ 32)])) ∧
  ∀ (s : State) (p : Path) (v : Byte), s.canWrite p 0x2430 1 = true →
    s.takes (.planQuery p v) 0x2430 ((1, v.toNat) :: match s.plans.find v.toNat with
      | some q => [(2, planNum q.st + flag q.streamed * 4 + q.steps.length * 2 ^ 8 + q.q * 2 ^ 16 + q.passLen * 2 ^ 32 +
          q.capacity * 2 ^ 48), (3, (q.pleats.filter fun y => y.st == .failed).length),
          (4, if q.st = .active then s.beat.stampOf ((q.firstB + q.started * q.q) * 65536) else 0)]
      | none => [(2, 0), (3, 0), (4, 0)])) ∧
  ((∀ (s : State) (p : Path) (v : W16), s.canWrite p 0x2506 2 = true → v.toNat < 1024 →
    let q := s.jobOf v.toNat
    s.takes (.jobQuery p v) 0x2506 [(2, v.toNat), (3, (if q.st = .free then 0 else if q.st = .opened then 1 else 2) + flag q.elastic * 4 +
      flag q.flash * 8 + fnNum q.owner * 16 + (s.sessions.cells.filter fun c => c.2.job == v.toNat && c.2.st != .free).length * 2 ^ 16 +
      q.key * 2 ^ 32)]) ∧
  (∀ (s : State) (p : Path) (v : W16), s.canWrite p 0x2620 1 = true → v.toNat < 4096 →
    s.takes (.slotQuery p v) 0x2620 ((1, v.toNat) :: match s.attach.find v.toNat with
      | some a => [(2, 1 + flag a.threeFactor * 2 + a.ruleset * 4 + flag a.reward.isSome * 64 + packTile a.region.lx a.region.ly * 2 ^ 8 +
          a.region.w * 2 ^ 24 + a.region.h * 2 ^ 32 + packTile a.errX a.errY * 2 ^ 40),
        (3, a.wbase + a.wlimit * 2 ^ 16 + a.budget * 2 ^ 32 + (a.reward.elim 0 fun r => unsigned 16 (sat16 r.value)) * 2 ^ 48),
        (4, ((s.wafer.regionKeys a.region).map fun t => ((s.tileOf t).ctxs.find v.toNat).elim 0 Ctx.count).sum)]
      | none => [(2, 0), (3, 0), (4, 0)])) ∧
  (∀ (s : State) (p : Path) (v : W32), s.canWrite p 0x2621 1 = true → bit v.toNat 7 = false → bits v.toNat 15 15 = 0 →
    bits v.toNat 31 28 = 0 →
    s.takes (.contextQuery p v) 0x2621 [(1, v.toNat), (2, match s.wafer.phys (bits v.toNat 6 0) (bits v.toNat 14 8) with
      | some k => ((s.tileOf k).ctxs.find (bits v.toNat 27 16)).elim 0 fun c =>
          c.s + c.count * 2 ^ 16 + c.high * 2 ^ 32 + (s.tileOf k).evq.length * 2 ^ 48 + 2 ^ 63
      | none => 0)]) ∧
  (∀ (s : State) (p : Path) (v : W16), s.canWrite p 0x2710 1 = true →
    s.takes (.connectionQuery p v) 0x2710 ((1, v.toNat) :: match s.conns.find v.toNat with
      | some c => [(2, connNum c.st + c.job * 4 + c.cls * 2 ^ 12 + c.home * 2 ^ 15 + flag c.respond * 2 ^ 18 + c.peerConn * 2 ^ 24 +
          c.peerNode * 2 ^ 40 + c.retries * 2 ^ 56), (3, c.nextPsn + c.e * 2 ^ 32), (4, c.granted + c.lp * 2 ^ 32),
        (5, c.order.length + (c.outs.vals.filter fun o => o.op != 1 && o.op != 2).length * 2 ^ 11 +
          (c.recvs.filter fun r => !r.done).length * 2 ^ 18)]
      | none => [(2, 0), (3, 0), (4, 0), (5, 0)])) ∧
  (∀ (s : State) (p : Path) (v : W16), s.canWrite p 0x2720 1 = true → v.toNat < 8192 →
    s.takes (.counterQuery p v) 0x2720 [(1, v.toNat), (2, (s.ctrs.find v.toNat).elim 0 fun c => c.value + c.job * 2 ^ 32 + 2 ^ 42 +
      (s.wrs.vals.filter fun w => w.waiting && w.tctr == v.toNat).length * 2 ^ 48)]) ∧
  (∀ (s : State) (p : Path) (v : W16), s.canWrite p 0x2803 1 = true → v.toNat ≠ 0 → v.toNat ≠ 0xFFFF →
    let e := s.nodeOf v.toNat
    s.takes (.nodeQuery p v) 0x2803 [(1, v.toNat), (2, nodeNum e.st + e.port * 4 + e.conflicts * 32 +
      (if e.st = .dynamic ∨ e.st = .ambiguous then min 0xFFFF ((e.expiry - s.now) / psS) else 0) * 65536)]) ∧
  (∀ (s : State) (p : Path) (v : W16), s.canWrite p 0x2B02 1 = true →
    let r := s.detOf v.toNat
    s.takes (.detectorQuery p v) 0x2B02 [(1, v.toNat), (2, r.count), (3, r.last), (4, r.injected)]) ∧
  ∀ (s : State) (p : Path) (v : Byte), s.canWrite p 0x2B11 1 = true →
    s.takes (.logQuery p v) 0x2B11 [(1, v.toNat), (2, (s.log.find v.toNat).elim 0 LogEntry.stamp),
      (3, (s.log.find v.toNat).elim 0 LogEntry.record)])

/-- A geometry is valid only within the three bounds of R57. -/
def Obligations.ValidGeometry : Prop :=
  ∀ l r : Nat, geometryOk l r = true ↔ (600 ≤ l ∧ l ≤ 4095) ∧ (24000 ≤ r ∧ r ≤ 240000) ∧ r * l ≤ 96000000

/-- Stamps are ordered by R13 and nothing else. -/
def Obligations.StampOrder : Prop :=
  ∀ a b : Nat, stampLater a b = true ↔
    (1 ≤ (bits a 63 32 + 2 ^ 32 - bits b 63 32) % 2 ^ 32 ∧ (bits a 63 32 + 2 ^ 32 - bits b 63 32) % 2 ^ 32 ≤ 2 ^ 31 - 1) ∨
      (bits a 63 32 = bits b 63 32 ∧ (bits b 31 16 < bits a 31 16 ∨ (bits a 31 16 = bits b 31 16 ∧ bits b 15 0 < bits a 15 0)))

/-- A line boundary takes effect at the predicted instant (R64, R69): N increments once and the tick restarts; the stamp of the new
line is the successor's, whether or not the anchor moves (R73). Lane changes detected before it take effect, and a change of a
seam's lanes or of a cost steps the epoch once (R39). A retime that waits for nothing later is in force (R82). While boundaries are
held back (R71) the local count stays. -/
def Obligations.LineBoundary : Prop :=
  ∀ s : State, s.beat.lock ≠ .search → (s.beat.lock = .locked → s.beat.decided = true) →
    completes .lineBoundary s (reportFields ++ entryFields ++ ([.now, .wafer, .beat, .sessions, .frames, .skips, .setSkips, .leases, .tiles,
        .attach, .plans, .power] : List Field)) fun t =>
      t.now = max s.now (s.beat.boundaryAt + s.beat.period) ∧ t.beat.boundaryAt = s.beat.boundaryAt + s.beat.period ∧
      t.beat.lock = s.beat.lock ∧ t.beat.period = s.beat.period ∧ t.beat.lines = s.beat.lines ∧ t.beat.decided = false ∧
      (0 < s.beat.held → t.beat.n = s.beat.n ∧ t.beat.held = s.beat.held - 1 ∧ t.beat.tickAt = s.beat.tickAt ∧ t.wafer = s.wafer ∧
        t.sessions = s.sessions) ∧
      (s.beat.held = 0 → t.beat.n = s.beat.n + 1 ∧ t.beat.tickAt = s.beat.boundaryAt + s.beat.period ∧
        (s.beat.lines ≤ 4095 → t.beat.stampOf (t.beat.n * 65536) = s.beat.stampOf ((s.beat.n + 1) * 65536)) ∧
        (s.up.restore = none → s.wafer.laneForce = s.wafer.laneFail → s.wafer.passForce = s.wafer.passFail → t.wafer = s.wafer) ∧
        (s.up.restore = none → (s.wafer.laneForce ≠ s.wafer.laneFail ∨ s.wafer.passForce ≠ s.wafer.passFail) →
          let w := { s.wafer with laneForce := s.wafer.laneFail, passForce := s.wafer.passFail }
          let steps := s.wafer.laneForce ≠ s.wafer.laneFail ∨ ∃ e, e < 145 ∧ s.wafer.seamCost e ≠ w.seamCost e
          t.wafer.laneForce = s.wafer.laneFail ∧ t.wafer.passForce = s.wafer.passFail ∧
          (steps → s.wafer.epochN ≠ some (s.beat.n + 1) → t.wafer.epoch = s.wafer.epoch + 1) ∧
          (¬ steps → t.wafer.epoch = s.wafer.epoch)) ∧
        ∀ k r, (s.sessionOf k).closing = false → (s.sessionOf k).retimes = [r] → r.after < (s.beat.n + 1) * 65536 →
          (t.sessionOf k).p = r.p ∧ (t.sessionOf k).phase = r.phase ∧ (t.sessionOf k).m = r.m ∧ (t.sessionOf k).retimes = [])

/-- A word of the beat line while LOCKED (R56, R64 to R68, R74, R75). A good one moves the boundary to its own instant and ends the
run of bad words, with the line count as it was; the intervals go on, or start anew with a new geometry. A bad one is counted by
its cause, and toward the run. Lock is declared on the third of three consecutive accepted candidates (R62, R68, R71, R73): the
unit adopts its geometry, source and polarity, its boundary and the mean of the run's intervals. The first lock adopts its line
count; a later one reconciles the counts: the local count rises to the received one, or boundaries are held back by what it is
ahead. -/
def Obligations.BeatWords : Prop :=
  ((∀ (s : State) (v : BitVec 128) (at_ : Nat) (w : BeatWord), s.beat.carrier = true → s.up.inReset = false → s.goodWordAt v.toNat at_ w →
    completes (.beatWordDecide v at_) s (reportFields ++ entryFields ++ ([.now, .wafer, .beat, .sessions, .frames, .skips, .setSkips,
        .leases, .tiles, .attach, .plans, .power] : List Field)) fun t =>
      t.now = max s.now (at_ + bit112) ∧ t.beat.lock = .locked ∧ t.beat.n = s.beat.n ∧ t.beat.boundaryAt = at_ ∧ t.beat.lastGoodAt = at_ ∧
      (s.beat.held = 0 → t.beat.tickAt = at_) ∧ t.beat.badRun = 0 ∧ t.beat.decided = true ∧ t.beat.lines = w.lines ∧
      t.beat.rate = w.rate ∧ t.beat.source = s.beat.source ∧ t.cell 0x2102 1 = (s.cell 0x2102 1 + 1) % 2 ^ 32 ∧
      (w.lines = s.beat.lines → w.rate = s.beat.rate → t.beat.n0 = s.beat.n0 ∧ t.beat.f0 = s.beat.f0 ∧
        (s.beat.prevGood = true → t.beat.intervals = ((at_ - s.beat.prevAt) :: s.beat.intervals).take 256 ∧
          t.beat.period = t.beat.intervals.sum / t.beat.intervals.length)) ∧
      (w.lines ≠ s.beat.lines ∨ w.rate ≠ s.beat.rate → t.beat.intervals = [] ∧ t.beat.period = t.beat.nominal ∧
        t.beat.n0 = (s.beat.n : Int) - s.beat.held ∧ t.beat.f0 = w.frame)) ∧
  ∀ (s : State) (v : BitVec 128) (at_ : Nat) (fs : List (Nat × Nat)), s.beat.carrier = true → s.up.inReset = false →
    s.badWordAt v.toNat at_ fs →
    completes (.beatWordDecide v at_) s (reportFields ++ entryFields ++ ([.now, .wafer, .beat, .sessions, .frames, .skips, .setSkips,
        .leases, .tiles, .attach, .plans, .power] : List Field)) fun t =>
      s.badCounted t ∧ ∀ f ∈ fs, t.cell 0x2102 f.1 = (s.cell 0x2102 f.1 + 1) % 2 ^ 32 ∧ (f.2 ≠ 0 → s.firedMore t f.2)) ∧
  (∀ (s : State) (v : BitVec 128) (c : Candidate) (i1 i2 : Nat), s.beat.carrier = true → s.up.inReset = false →
    s.thirdCandidate v.toNat c i1 i2 →
    let nr : Int := s.beat.n0 + frameDiff c.frame s.beat.f0 * (c.lines : Int) + (c.line : Int)
    completes (.beatWordDecide v c.at_) s (reportFields ++ entryFields ++ ([.now, .wafer, .beat, .sessions, .frames, .skips, .setSkips,
        .leases, .tiles, .attach, .plans, .power] : List Field)) fun t =>
      t.beat.lock = .locked ∧ t.beat.everLocked = true ∧ t.beat.inverted = c.inverted ∧ t.beat.lines = c.lines ∧ t.beat.rate = c.rate ∧
      t.beat.source = c.source ∧ t.beat.boundaryAt = c.at_ ∧ t.beat.lastGoodAt = c.at_ ∧ t.beat.period = (i1 + i2) / 2 ∧
      t.beat.badRun = 0 ∧ t.beat.run = [] ∧ t.beat.lockN = t.beat.n ∧ t.cell 0x2102 8 = (s.cell 0x2102 8 + 1) % 2 ^ 32 ∧
      (s.beat.everLocked = false → t.beat.n = c.frame * c.lines + c.line ∧ t.beat.held = 0 ∧ t.beat.relock = s.beat.relock) ∧
      (s.beat.everLocked = true → t.beat.n = max s.beat.n nr.toNat ∧ (t.beat.held : Int) = max 0 ((s.beat.n : Int) - nr) ∧
        (nr ≠ s.beat.n → t.cell 0x2102 0xA = (s.cell 0x2102 0xA + 1) % 2 ^ 32) ∧ (nr = s.beat.n → t.cell 0x2102 0xA = s.cell 0x2102 0xA)))

/-- The window of a predicted boundary that closes without a good word counts one bad word (R64, R67); with the carrier absent it
counts toward the run and nothing else (R53). Each absence of the carrier fires detector 0x0902 and counts in 0x2102:0B once, and
ends with the carrier's return. Elapsed holdover that reaches the limit moves the unit to LOST (R70): at the limit's instant, or
at once when a new limit is written that has already passed. A limit not yet passed changes the setting only; one above 10,000 ms
is aborted with 0x0609_0031 (R87). -/
def Obligations.BeatLossAndHoldover : Prop :=
  ((∀ s : State, s.beat.lock = .locked → s.beat.decided = false →
    completes .beatWindowClose s (reportFields ++ entryFields ++ ([.now, .beat, .sessions, .frames, .tiles, .attach, .plans, .power] : List Field)) fun t =>
      s.badCounted t ∧ t.now = max s.now (s.beat.boundaryAt + bit4) ∧
      (s.beat.carrier = true → t.cell 0x2102 3 = (s.cell 0x2102 3 + 1) % 2 ^ 32 ∧ (t.detOf 0x0901).count = ((s.detOf 0x0901).count + 1) % 2 ^ 64) ∧
      (s.beat.carrier = false → (∀ j, j < 256 → j ≠ 7 → t.cell 0x2102 j = s.cell 0x2102 j) ∧ (t.detOf 0x0901).count = (s.detOf 0x0901).count)) ∧
  (∀ s : State, s.beat.carrier = true → s.up.inReset = false →
    completes .carrierAbsent s [.beat, .od, .det, .log, .logMade, .faultBuffer] fun t =>
      t.beat = { s.beat with carrier := false } ∧ t.cell 0x2102 0xB = (s.cell 0x2102 0xB + 1) % 2 ^ 32 ∧
      s.otherCells [(0x2102, 0xB)] t ∧ s.firedOnce 0x0902 t) ∧
  ∀ s : State, s.beat.carrier = false → s.up.inReset = false →
    completes .carrierReturn s [.beat] fun t => t.beat = { s.beat with carrier := true }) ∧
  ((∀ s : State, s.Inv → s.beat.lock = .holdover →
    completes .holdoverLimit s (reportFields ++ entryFields ++ ([.now, .beat, .sessions, .frames, .tiles, .attach, .plans] : List Field)) fun t =>
      t.now = max s.now (s.beat.lastGoodAt + s.setting 0x2103 1 * 10 ^ 9) ∧ s.holdoverPassed t) ∧
  (∀ (s : State) (p : Path) (v : W16), s.Inv → s.canWrite p 0x2103 1 = true → v.toNat ≤ 10000 →
    completes (.holdoverLimitWrite p v) s (reportFields ++ entryFields ++ ([.beat, .sessions, .frames, .tiles, .attach, .plans] : List Field)) fun t =>
      t.cell 0x2103 1 = v.toNat ∧
      (s.beat.lock = .holdover → s.beat.lastGoodAt + v.toNat * 10 ^ 9 ≤ s.now → s.holdoverPassed t) ∧
      (¬ (s.beat.lock = .holdover ∧ s.beat.lastGoodAt + v.toNat * 10 ^ 9 ≤ s.now) → t.beat = s.beat ∧ t.sessions = s.sessions ∧ t.frames = s.frames)) ∧
  ∀ (s : State) (p : Path) (v : W16), s.canWrite p 0x2103 1 = true → 10000 < v.toNat →
    s.refusesWrite (.holdoverLimitWrite p v) p 0x2103 1 0x06090031)

/-- SCLOSE (R206): with no frame outstanding the slot becomes FREE, is detached, and the entry completes; otherwise the slot is
closing and the entry waits for its frames. A session that is opened while the unit is in SEARCH completes with BEAT_LOST (R78). A
session beat is processed once (R83): the slot goes on to its next beat, which is later, and its frames whose deadline has come
and that are not served are over (R81); every other frame and slot is as it was. A SUSPENDED slot resumes at it where R72 says so. -/
def Obligations.SessionCloseAndBeat : Prop :=
  ((∀ (s : State) (list idx : Nat) (l : ListRun) (e : EntryRun), s.begun list idx 4 4 l e → e.restZero [(4, 2)] = true →
    s.ownSlot (e.field 4 2) l.job → (s.sessionOf (e.field 4 2)).closing = false →
    (∀ a r, s.attach.find (e.field 4 2) = some a → a.reward = some r → (list, idx) ∉ r.entries) →
    completes (.sclose list idx) s (entryFields ++ ([.sessions, .tiles, .attach] : List Field)) fun t => s.otherSlots [e.field 4 2] t ∧
      (s.framesOf (e.field 4 2) = [] → t.ended list idx .ok ∧ (t.sessionOf (e.field 4 2)).st = .free ∧
        t.attach.find (e.field 4 2) = none) ∧
      (s.framesOf (e.field 4 2) ≠ [] → (t.entryOf list idx).isSome = true ∧ t.attach = s.attach ∧ t.tiles = s.tiles ∧
        t.sessionOf (e.field 4 2) = { s.sessionOf (e.field 4 2) with closing := true, closer := some (list, idx) })) ∧
  ∀ (s : State) (list idx : Nat) (l : ListRun) (e : EntryRun), s.begun list idx 4 1 l e →
    e.restZero [(4, 2), (6, 2), (8, 4), (0xC, 2), (0xE, 1), (0xF, 1), (0x10, 2), (0x12, 1)] = true → e.field 4 2 < 4096 →
    (s.sessionOf (e.field 4 2)).st = .free → rasterGood (e.field 6 2) (e.field 8 4) (e.field 0xC 2) → e.field 0xE 1 = 0xFF →
    e.field 0xF 1 < 8 → e.field 0x10 2 = 0xFFFF → s.can.nmt = .operational → s.beat.lock = .search →
    completes (.sopen list idx) s entryFields fun t => t.ended list idx .beatLost) ∧
  (∀ (s : State) (slot : SlotId), s.Inv → (s.sessionOf slot.val).st ≠ .free → (s.sessionOf slot.val).nextBeat / 65536 ≤ s.beat.n →
    s.beat.lock ≠ .search →
    let x := s.sessionOf slot.val
    completes (.sessionBeat slot) s (entryFields ++ ([.now, .sessions, .frames, .tiles, .attach, .plans] : List Field)) fun t =>
      (∀ k, k ≠ slot.val → t.sessionOf k = s.sessionOf k) ∧
      (∀ i f, s.frames.find i = some f → f.slot = slot.val → f.deadline ≤ x.nextBeat → t.frames.find i = none) ∧
      (∀ i f, s.frames.find i = some f → ¬ (f.slot = slot.val ∧ f.deadline ≤ x.nextBeat) → t.frames.find i = some f) ∧
      (x.closing = false → (0 < x.p → x.nextBeat < (t.sessionOf slot.val).nextBeat) ∧
        t.sessionOf slot.val = { x with
          nextBeat := beatFrom x.p x.phase (x.nextBeat + 1)
          st := if s.resumesAt x x.nextBeat then .opened else x.st
          resume := if s.resumesAt x x.nextBeat then false else x.resume }))

/-- Sessions are opened, resumed, bound and retimed by their entries (R72, R78, R79, R82, R84, R206): each completes with OK at once
and changes its slot, a retime every member of its set; no other slot changes. The model's choices within it: log 20. -/
def Obligations.SessionEntries : Prop :=
  (∀ (s : State) (list idx : Nat) (l : ListRun) (e : EntryRun), s.begun list idx 4 1 l e →
    e.restZero [(4, 2), (6, 2), (8, 4), (0xC, 2), (0xE, 1), (0xF, 1), (0x10, 2), (0x12, 1)] = true → e.field 4 2 < 4096 →
    (s.sessionOf (e.field 4 2)).st = .free → rasterGood (e.field 6 2) (e.field 8 4) (e.field 0xC 2) →
    (e.field 0xE 1 = 0xFF ∨ e.field 0xE 1 < 64 ∧ ∀ x, s.setMember (e.field 0xE 1) = some x →
      (x.p, x.phase, x.m) = (e.field 6 2, e.field 8 4, e.field 0xC 2) ∧ x.cls = e.field 0xF 1) → e.field 0xF 1 < 8 →
    s.planFits (e.field 0x10 2) (e.field 0xC 2) l.job → s.can.nmt = .operational → s.beat.lock ≠ .search →
    completes (.sopen list idx) s (entryFields ++ ([.sessions] : List Field)) fun t => t.ended list idx .ok ∧ s.otherSlots [e.field 4 2] t ∧
      t.sessionOf (e.field 4 2) =
        { st := if s.beat.lock = .lost then .suspended else .opened, closing := false, closer := none, p := e.field 6 2
          phase := e.field 8 4, m := e.field 0xC 2, set := if e.field 0xE 1 = 0xFF then none else some (e.field 0xE 1)
          cls := e.field 0xF 1, plan := if e.field 0x10 2 = 0xFFFF then none else some (e.field 0x10 2), variant := e.field 0x12 1
          job := l.job, nextBeat := beatFrom (e.field 6 2) (e.field 8 4) (s.lineNow + 1), claimFrom := 0
          retimes := if e.field 0xE 1 = 0xFF then [] else (s.setMember (e.field 0xE 1)).elim [] Session.retimes, resume := false }) ∧
  (∀ (s : State) (list idx : Nat) (l : ListRun) (e : EntryRun), s.begun list idx 4 2 l e →
    e.restZero [(4, 2), (6, 2), (8, 4), (0xC, 2)] = true → s.ownSlot (e.field 4 2) l.job →
    rasterGood (e.field 6 2) (e.field 8 4) (e.field 0xC 2) →
    completes (.sretime list idx) s (entryFields ++ ([.sessions] : List Field)) fun t => t.ended list idx .ok ∧
      s.otherSlots (s.setSlots (e.field 4 2)) t ∧ ∀ k ∈ s.setSlots (e.field 4 2), t.sessionOf k = { s.sessionOf k with
        retimes := (s.sessionOf k).retimes ++
          [⟨e.field 6 2, e.field 8 4, e.field 0xC 2, s.latestDeadline (s.setSlots (e.field 4 2))⟩] }) ∧
  (∀ (s : State) (list idx : Nat) (l : ListRun) (e : EntryRun), s.begun list idx 4 3 l e → e.restZero [(4, 2)] = true →
    s.ownSlot (e.field 4 2) l.job → s.can.nmt = .operational →
    completes (.sresume list idx) s (entryFields ++ ([.sessions] : List Field)) fun t => t.ended list idx .ok ∧ s.otherSlots [e.field 4 2] t ∧
      ((s.sessionOf (e.field 4 2)).st = .suspended → t.sessionOf (e.field 4 2) = { s.sessionOf (e.field 4 2) with resume := true }) ∧
      ((s.sessionOf (e.field 4 2)).st = .opened → t.sessions = s.sessions)) ∧
  ∀ (s : State) (list idx : Nat) (l : ListRun) (e : EntryRun), s.begun list idx 4 5 l e →
    e.restZero [(4, 2), (0x10, 2), (0x12, 1)] = true → s.ownSlot (e.field 4 2) l.job →
    s.planFits (e.field 0x10 2) (s.sessionOf (e.field 4 2)).raster.2.2 l.job →
    completes (.sbind list idx) s (entryFields ++ ([.sessions] : List Field)) fun t => t.ended list idx .ok ∧ s.otherSlots [e.field 4 2] t ∧
      t.sessionOf (e.field 4 2) = { s.sessionOf (e.field 4 2) with
        plan := if e.field 0x10 2 = 0xFFFF then none else some (e.field 0x10 2), variant := e.field 0x12 1 }

/-- FRAME (R209 to R212): an accepted frame takes the earliest session beat that it can still make, is charged to that admission beat,
and stays outstanding where the beat's costs stay within their budgets; a third frame of a session is refused with OVERLOAD, one
of a SUSPENDED session with BEAT_LOST; the overload is counted also where another condition gives the status (R22). FREADY readies the slot's oldest frame that is not ready (R206). -/
def Obligations.Frames : Prop :=
  (∀ (s : State) (list idx : Nat) (l : ListRun) (e : EntryRun), s.begun list idx 4 6 l e → e.restZero [(4, 2), (6, 1)] = true →
    e.field 6 1 < 2 → s.ownSlot (e.field 4 2) l.job → (s.sessionOf (e.field 4 2)).closing = false →
    let x := s.sessionOf (e.field 4 2)
    let d := s.deadlineFor x
    x.st = .opened → (s.framesOf (e.field 4 2)).length < 2 → s.frames.find list = none → (∀ g, x.set = some g → (g, d) ∉ s.setSkips) →
    s.tcCost (s.beatOf d) + l.tileCycles ≤ s.tcBudget → s.sbCost (s.beatOf d) + l.streamBytes ≤ s.sbBudget →
    completes (.frame list idx) s (entryFields ++ ([.sessions, .frames, .nextFrame, .skips, .setSkips, .tiles, .attach, .plans] : List Field)) fun t =>
      (t.entryOf list idx).isSome = true ∧ t.nextFrame = s.nextFrame + 1 ∧ t.cell 0x2503 1 = (s.cell 0x2503 1 + 1) % 2 ^ 64 ∧
      t.frames.find list = some { idx := idx, slot := e.field 4 2, cls := x.cls, job := l.job, plan := x.plan, variant := x.variant
                                  deadline := d, m := x.raster.2.2, ready := bit (e.field 6 1) 0, pass := none, tc := l.tileCycles
                                  sb := l.streamBytes, order := s.nextFrame } ∧
      (∀ i, i ≠ list → t.frames.find i = s.frames.find i) ∧ s.otherSlots [e.field 4 2] t ∧
      t.sessionOf (e.field 4 2) = { x with claimFrom := d + 1 } ∧ t.tiles = s.tiles ∧ t.attach = s.attach ∧ t.plans = s.plans ∧
      t.setSkips = s.setSkips) ∧
  (∀ (s : State) (list idx : Nat) (l : ListRun) (e : EntryRun), s.begun list idx 4 6 l e → e.restZero [(4, 2), (6, 1)] = true →
    e.field 6 1 < 2 → s.ownSlot (e.field 4 2) l.job → (s.sessionOf (e.field 4 2)).closing = false →
    ((s.sessionOf (e.field 4 2)).st = .opened → 2 ≤ (s.framesOf (e.field 4 2)).length →
      completes (.frame list idx) s entryFields fun t => t.ended list idx .overload ∧
        t.cell 0x2503 4 = (s.cell 0x2503 4 + 1) % 2 ^ 64) ∧
    ((s.sessionOf (e.field 4 2)).st = .suspended → completes (.frame list idx) s entryFields fun t => t.ended list idx .beatLost)) ∧
  (∀ (s : State) (list idx : Nat) (l : ListRun) (e : EntryRun), s.begun list idx 4 6 l e → 2 ≤ e.field 6 1 →
    (s.sessionOf (e.field 4 2)).st = .opened → 2 ≤ (s.framesOf (e.field 4 2)).length →
    completes (.frame list idx) s entryFields fun t => t.ended list idx .badCommand ∧ t.cell 0x2503 4 = (s.cell 0x2503 4 + 1) % 2 ^ 64) ∧
  ∀ (s : State) (list idx : Nat) (l : ListRun) (e : EntryRun), s.begun list idx 4 7 l e → e.restZero [(4, 2)] = true →
    s.ownSlot (e.field 4 2) l.job →
    completes (.fready list idx) s (entryFields ++ ([.frames] : List Field)) fun t => t.ended list idx .ok ∧
      let waits := fun k => match s.frames.find k with
        | some f => !f.ready
        | none => false
      (∀ k, (s.framesOf (e.field 4 2)).find? waits = some k →
        t.frames.find k = (s.frames.find k).map (fun f => { f with ready := true }) ∧ ∀ i, i ≠ k → t.frames.find i = s.frames.find i) ∧
      ((s.framesOf (e.field 4 2)).find? waits = none → t.frames = s.frames)

/-- Host links (R176, R179, R218, R395, R412): a function-level reset fences its function as an owner (0x0702), a link that drops does
so too (0x0701) and reads no generation or width; with its domain ON a link comes up at its generation and width, with the BAR2 size
that the host takes, 1 GiB up to the limit of the setting (R181); an uncorrectable PCIe error is logged by AER with 0x0707. The model's choices within it: log 14. -/
def Obligations.HostLinks : Prop :=
  (∀ (s : State) (f : Fn), (s.host f).up = true →
    settles (.functionLevelReset f) s [.hostA, .hostB, .det, .log, .logMade, .faultBuffer, .suspects] fun u =>
      u.host f = { s.host f with flr := true } ∧ (∀ g, g ≠ f → u.host g = s.host g) ∧ s.firedOnce 0x0702 u ∧
      s.suspects1 (.owner 1 (fnNum f)) u) ∧
  (∀ (s : State) (f : Fn), (s.host f).up = true →
    settles (.hostLinkDown f) s [.hostA, .hostB, .det, .log, .logMade, .faultBuffer, .suspects] fun u =>
      u.host f = { s.host f with up := false, gen := 0, width := 0 } ∧ (∀ g, g ≠ f → u.host g = s.host g) ∧ s.firedOnce 0x0701 u ∧
      s.suspects1 (.owner 1 (fnNum f)) u) ∧
  (∀ (s : State) (f : Fn) (g : BitVec 4) (w : HostLink), (s.host f).up = false → (s.domainOf (17 + fnNum f)).st = .on →
    1 ≤ g.toNat → g.toNat ≤ 5 → w.width.toNat ∈ [1, 2, 4, 8, 16] → 30 ≤ w.bar2 → w.bar2 ≤ s.setting 0x2500 4 →
    settles (.hostLinkUp f g w) s [.hostA, .hostB, .power] fun u =>
      u.host f = { s.host f with up := true, gen := g.toNat, width := w.width.toNat, bar2Log := w.bar2 } ∧
      (∀ h, h ≠ f → u.host h = s.host h) ∧ u.power.domains = s.power.domains ∧ u.power.panels = s.power.panels) ∧
  ∀ (s : State) (f : Fn), (s.host f).up = true →
    completes (.pcieUncorrectableError f) s [.hostA, .hostB, .det, .log, .logMade, .faultBuffer] fun t =>
      t.host f = { s.host f with aer := true } ∧ (∀ g, g ≠ f → t.host g = s.host g) ∧ s.firedOnce 0x0707 t

/-- BAR2 (R153, R181, R395): a read of sound tier 1 in service returns its bytes and changes none; a write stores its bytes, marks
their granules written and changes no other byte; a poisoned write stores nothing (a read has up to 4,096 bytes and a write up to
512, R176); a range out of service answers with Completer
Abort. The tile aperture (R182, R411): an access to a selected tile of the job's region, which is not fenced or busy, reads the
bytes of its store or writes them, and no other tile; a selection that is not valid, or a tile outside the region, answers with
Completer Abort and 0x0709. The model's choices within it: log 16, 26. -/
def Obligations.BarWindows : Prop :=
  (∀ (s : State) (f : Fn) (off : Nat), s.Inv → (s.host f).up = true → s.tier1Bad = .empty →
    let a := (s.host f).base + off
    (∀ n, 1 ≤ n → n ≤ 4096 → off + n ≤ 2 ^ (s.host f).bar2Log → a + n ≤ tier1Size →
      completes (.bar2Access f off (.read n) []) s [.det, .log, .logMade, .faultBuffer, .segCtr, .out] fun t =>
        (s.dramUp a n = true → t.out = s.out ++ [.hostRead f (s.tier1.readBytes a n) false]) ∧
        (s.dramUp a n = false → t.out = s.out ++ [.completerAbort f] ∧ t.det = s.det)) ∧
    (∀ d : List Byte, d ≠ [] → d.length ≤ 512 → off + d.length ≤ 2 ^ (s.host f).bar2Log → a + d.length ≤ tier1Size → s.dramUp a d.length = true →
      completes (.bar2Access f off (.write d false) []) s [.tier1, .granules, .tier1Bad] fun t =>
        t.tier1 = s.tier1.writeBytes a d ∧ t.tier1.readBytes a d.length = d ∧
        (∀ b, b < a ∨ a + d.length ≤ b → t.tier1.read b = s.tier1.read b) ∧ (∀ g ∈ granulesOf a d.length, t.granules.get false g = true) ∧
        (∀ g, g ∉ granulesOf a d.length → t.granules.get false g = s.granules.get false g) ∧ t.tier1Bad = .empty) ∧
    (∀ d : List Byte, d ≠ [] → d.length ≤ 512 → off + d.length ≤ 2 ^ (s.host f).bar2Log → a + d.length ≤ tier1Size → s.dramUp a d.length = true →
      completes (.bar2Access f off (.write d true) []) s [] fun _ => True)) ∧
  ((∀ (s : State) (f : Fn) (off k o n : Nat) (st : StoreSel), (s.host f).up = true → (s.host f).aperValid = true →
    (s.jobOf (s.host f).aperJob).st ≠ .free → s.wafer.phys (tileLx (s.host f).aperSel) (tileLy (s.host f).aperSel) = some k →
    (s.jobOf (s.host f).aperJob).region.has (tileLx (s.host f).aperSel) (tileLy (s.host f).aperSel) = true →
    offStore off = some (st, o) → 1 ≤ n → o + n ≤ storeLines st * 64 → off + n ≤ 0x400000 →
    (s.tileOf k).rangeOff off n = false → s.fencedAt k = false → s.extWaits k off n = false → (s.tileOf k).bad = .empty →
    (n ≤ 4096 → completes (.apertureAccess f off (.read n)) s [.od, .out, .tiles] fun t =>
      t.out = s.out ++ [.hostRead f ((s.tileOf k).readBytes st o n) false] ∧ t.tiles = s.tiles) ∧
    (∀ d : List Byte, d.length = n → n ≤ 512 → s.inWindow k off n = false →
      completes (.apertureAccess f off (.write d false)) s [.tiles] fun t =>
        (∀ j, j ≠ k → t.tileOf j = s.tileOf j) ∧ (t.tileOf k).mem st = ((s.tileOf k).mem st).writeBytes o d ∧
        (∀ q, q ≠ st → (t.tileOf k).mem q = (s.tileOf k).mem q) ∧ ∀ i ∈ linesOf o d.length, (t.tileOf k).isWritten st i = true)) ∧
  ∀ (s : State) (f : Fn) (off : Nat) (acc : HostAcc), (s.host f).up = true → accFits acc = true → off + accLen acc ≤ 0x400000 →
    ((s.host f).aperValid = false ∨ (s.jobOf (s.host f).aperJob).region.has (tileLx (s.host f).aperSel) (tileLy (s.host f).aperSel) = false) →
    completes (.apertureAccess f off acc) s [.det, .log, .logMade, .faultBuffer, .out] fun t =>
      t.out = s.out ++ [.completerAbort f] ∧ s.firedOnce 0x0709 t)

/-- Registers and doorbells (R178, R180, R183, R185, R187, R217, R395): reading the low half of the stamp latches the high half; another
read of BAR0 returns the register at its offset, zero where none is. A disabled ring takes its base and, from service level 1 on, its
ENABLE, with both indices 0, which before then is ignored and counted; an enabled one ignores its configuration (0x070A). A
submission doorbell sets the producer index of the function's own ring, beyond its size it puts the ring in ERROR; a completion
doorbell returns slots and arms the ring. The model's choices within it: log 17, 18. -/
def Obligations.RingsAndDoorbells : Prop :=
  (∀ (s : State) (f : Fn), (s.host f).up = true →
    (completes (.stampLoRead ⟨f, 0x20⟩) s [.hostA, .hostB, .out] fun t =>
      t.out = s.out ++ [.hostRead f (natLe 4 s.stamp) false] ∧ t.host f = { s.host f with stampHi := s.stamp / 2 ^ 32 } ∧
      ∀ g, g ≠ f → t.host g = s.host g) ∧
    ∀ off v : Nat, (off = 0 ∧ v = 0x00018448) ∨ (off = 8 ∧ v = s.level) ∨ (off = 0x24 ∧ v = (s.host f).stampHi) ∨
        (∃ (e : Engine) (n : Byte), (off = 0x20000C + engNum e * 0x40000 + n.toNat * 0x40 ∧ v = (s.sqOf (ringKey e n.toNat)).producer) ∨
          (off = 0x220014 + engNum e * 0x40000 + n.toNat * 0x40 ∧ v = (s.cqOf (ringKey e n.toNat)).reserved)) ∨
        (0x500000 ≤ off ∧ off < 0x800000 ∧ off % 4 = 0 ∧ v = 0) →
      completes (.stampLoRead ⟨f, off⟩) s [.out] fun t => t.out = s.out ++ [.hostRead f (natLe 4 v) false]) ∧
  (∀ (s : State) (f : Fn) (e : Engine) (n : Byte) (v : W32), (s.host f).up = true →
    let k := ringKey e n.toNat
    let at_ := 0x200000 + engNum e * 0x40000 + n.toNat * 0x40
    ((s.sqOf k).enable = false →
      (completes (.ringConfigWrite f at_ v) s [.sq] fun t =>
        t.sqOf k = { s.sqOf k with base := (s.sqOf k).base / 2 ^ 32 * 2 ^ 32 + v.toNat / 4096 * 4096 } ∧ ∀ j, j ≠ k → t.sqOf j = s.sqOf j) ∧
      (s.up.level = 0 → bit v.toNat 31 = true → completes (.ringConfigWrite f (at_ + 8) v) s [.od] fun t =>
        t.cell 0x2A00 0xB = (s.cell 0x2A00 0xB + 1) % 2 ^ 32 ∧ s.otherCells [(0x2A00, 0xB)] t) ∧
      (0 < s.up.level → bit v.toNat 31 = true → 2 ≤ bits v.toNat 4 0 → bits v.toNat 4 0 ≤ 16 →
        completes (.ringConfigWrite f (at_ + 8) v) s [.sq] fun t => (∀ j, j ≠ k → t.sqOf j = s.sqOf j) ∧
          t.sqOf k = { base := (s.sqOf k).base, log2 := bits v.toNat 4 0, cq := bits v.toNat 12 5, owner := fnOf (bits v.toNat 13 13)
                       error := false, vector := 0, enable := true, producer := 0, consumer := 0, reserved := 0, armed := false })) ∧
    ((s.sqOf k).enable = true → completes (.ringConfigWrite f at_ v) s [.od, .det, .log, .logMade, .faultBuffer] fun t =>
      t.cell 0x2501 8 = (s.cell 0x2501 8 + 1) % 2 ^ 64 ∧ s.otherCells [(0x2501, 8)] t ∧ s.firedOnce 0x070A t)) ∧
  (∀ (s : State) (f : Fn) (e : Engine) (n : Byte) (v : W32), (s.host f).up = true → (s.sqOf (ringKey e n.toNat)).owner = f →
    (s.sqOf (ringKey e n.toNat)).enable = true → (s.sqOf (ringKey e n.toNat)).error = false →
    let r := s.sqOf (ringKey e n.toNat)
    v.toNat ≠ r.producer →
    ((v.toNat + 2 ^ 32 - r.consumer) % 2 ^ 32 ≤ 2 ^ r.log2 → completes (.sqDoorbell f e n 4 v) s [.hostA, .hostB, .sq] fun t =>
      t.sqOf (ringKey e n.toNat) = { r with producer := v.toNat } ∧ (∀ j, j ≠ ringKey e n.toNat → t.sqOf j = s.sqOf j) ∧
      t.host f = { s.host f with rang := true } ∧ ∀ g, g ≠ f → t.host g = s.host g) ∧
    (2 ^ r.log2 < (v.toNat + 2 ^ 32 - r.consumer) % 2 ^ 32 → completes (.sqDoorbell f e n 4 v) s [.hostA, .hostB, .sq, .cq, .pba, .tier1,
        .granules, .tier1Bad, .od, .det, .log, .logMade, .faultBuffer, .segCtr, .out] fun t =>
      t.sqOf (ringKey e n.toNat) = { r with error := true } ∧ (∀ j, j ≠ ringKey e n.toNat → t.sqOf j = s.sqOf j) ∧
      (t.detOf 0x0703).count = ((s.detOf 0x0703).count + 1) % 2 ^ 64 ∧ t.cell 0x2501 3 = (s.cell 0x2501 3 + 1) % 2 ^ 64)) ∧
  ∀ (s : State) (f : Fn) (e : Engine) (n : Byte) (v : W32), (s.host f).up = true → (s.cqOf (ringKey e n.toNat)).owner = f →
    (s.cqOf (ringKey e n.toNat)).enable = true → (s.host f).dropped = 0 →
    let r := s.cqOf (ringKey e n.toNat)
    ((v.toNat + 2 ^ 32 - r.consumer) % 2 ^ 32 ≤ r.used → completes (.cqDoorbell f e n 4 v) s [.hostA, .hostB, .cq] fun t =>
      t.cqOf (ringKey e n.toNat) = { r with armed := true, consumer := v.toNat } ∧ (∀ j, j ≠ ringKey e n.toNat → t.cqOf j = s.cqOf j) ∧
      t.host f = { s.host f with rang := true }) ∧
    (r.used < (v.toNat + 2 ^ 32 - r.consumer) % 2 ^ 32 → completes (.cqDoorbell f e n 4 v) s [.hostA, .hostB, .cq, .od] fun t =>
      t.cqOf (ringKey e n.toNat) = { r with armed := true } ∧ (∀ j, j ≠ ringKey e n.toNat → t.cqOf j = s.cqOf j) ∧
      t.cell 0x2501 5 = (s.cell 0x2501 5 + 1) % 2 ^ 64 ∧ s.otherCells [(0x2501, 5)] t)

/-- A descriptor is fetched when its ring's turn has come and its slots are free (R186, R191): a sound one brings its list into
progress with its completion slots reserved and the consumer index moved on; a job of another key, or none, ends the list at once.
The next entry of a list begins in order, one at a time, and with WAIT only once every earlier one has completed (R192, R193): its
64 bytes are read and it is handed to its engine; a malformed header is refused with BAD_COMMAND. OP 0x00 completes with OK on any
engine. -/
def Obligations.DescriptorsAndEntries : Prop :=
  (∀ (s : State) (eng : Engine) (n : Byte), s.fetchable (engNum eng) n.toNat = true → s.ringTurn (engNum eng) n.toNat = true →
    let k := ringKey eng n.toNat
    let r := s.sqOf k
    let q := engNum eng * 256 + r.cq
    let d := s.descriptorAt r.slotAddr (s.cqOf q).log2
    s.tierBad r.slotAddr 64 = false → d.bad = false → ((s.headersOf d).filter isFrameHeader).length ≤ 1 →
    (s.headersOf d).head?.map isJopenHeader = some false → s.lists.find s.nextList = none →
    ((s.jobOf d.job).st ≠ .free → (s.jobOf d.job).key = d.key → d.job < 1024 →
      completes (.descriptorFetch eng n) s [.sq, .cq, .lastRing, .lists, .nextList, .tier1Bad, .od, .det, .log, .logMade, .faultBuffer,
          .segCtr] fun t =>
        t.sqOf k = { r with consumer := (r.consumer + 1) % 2 ^ 32 } ∧ (∀ j, j ≠ k → t.sqOf j = s.sqOf j) ∧
        t.cqOf q = { s.cqOf q with reserved := (s.cqOf q).reserved + (1 + d.count) } ∧ (∀ j, j ≠ q → t.cqOf j = s.cqOf j) ∧
        t.nextList = s.nextList + 1 ∧ t.lastRing.get 255 (engNum eng) = n.toNat ∧
        t.lists.find s.nextList = some
          { eng := eng, ring := n.toNat, owner := r.owner, cq := q, job := d.job, key := d.key, user := d.user, addr := d.list
            count := d.count, tileCycles := d.tc, streamBytes := d.sb, sqConsumer := (r.consumer + 1) % 2 ^ 32, slots := 1 + d.count
            next := 0, waiting := none, stopped := false, entries := [] } ∧ ∀ i, i ≠ s.nextList → t.lists.find i = s.lists.find i) ∧
    ((s.jobOf d.job).st = .free ∨ (s.jobOf d.job).key ≠ d.key →
      completes (.descriptorFetch eng n) s [.sq, .cq, .pba, .lastRing, .lists, .nextList, .tier1, .granules, .tier1Bad, .od, .det, .log,
          .logMade, .faultBuffer, .segCtr, .out] fun t =>
        t.sqOf k = { r with consumer := (r.consumer + 1) % 2 ^ 32 } ∧ t.nextList = s.nextList + 1 ∧
        ∀ i, t.lists.find i = s.lists.find i)) ∧
  ((∀ (s : State) (id : Nat) (l : ListRun), s.lists.find id = some l → l.waiting = none → l.stopped = false → l.next < l.count →
    (∀ x ∈ l.entries, x.idx < l.next) →
    let a := l.addr + 64 * l.next
    let e := entryNew l.next (s.tier1.readBytes a 64)
    (e.wait = true → ∀ x ∈ l.entries, x.status ≠ none) → s.tierBad a 64 = false →
    (bits (e.field 0 4) 15 13 = 0 → opKnown e.engine e.op = true → e.engine < 5 →
      completes (.entryBegin id) s [.lists, .tier1Bad, .det, .log, .logMade, .faultBuffer, .segCtr] fun t =>
        t.lists.find id = some { l with next := l.next + 1, waiting := some l.next, entries := l.entries ++ [e] } ∧
        ∀ i, i ≠ id → t.lists.find i = s.lists.find i) ∧
    (bits (e.field 0 4) 15 13 ≠ 0 ∨ 5 ≤ e.engine ∨ opKnown e.engine e.op = false →
      completes (.entryBegin id) s entryFields fun t => t.ended id l.next .badCommand ∧ ∀ i, i ≠ id → t.lists.find i = s.lists.find i)) ∧
  ∀ (s : State) (id idx : Nat) (l : ListRun) (e : EntryRun), s.begun id idx e.engine 0 l e → e.restZero [] = true →
    completes (.entryNop id idx) s entryFields fun t => t.ended id idx .ok ∧ ∀ i, i ≠ id → t.lists.find i = s.lists.find i)

/-- Extension instructions that wait for nothing but their own condition (R76, R106, R109, R168): MPUSH puts an instruction into the
queue of 4, MWAIT goes on once no instruction has the TAG, MRECV takes its count off ARRIVE, WLAND reads a final landing state,
STAMP the low half of the stamp with the high half latched, or the latched half, TEND fixes the task's status. Each retires: pc,
count and rd move on, and nothing else of the machine changes. While the condition does not hold the core stands still. Extension
instructions over the stores (R89, R98, R106 to R108, R128): with their lines in the task's windows, powered, written and sound,
FFILL puts vectors of A into the feeders, PSAT reads the saturation flags of 32 P lines, ACOPY copies A lines as if through a
buffer, ALUT maps a line's bytes through the table, MSEND puts lines into the mesh for a tile of the job's region. -/
def Obligations.CoreQueueAndStoreInstructions : Prop :=
  (∀ (s s1 : State) (t : PhysTile) (c : Core) (w : Nat),
    let k := tileKey t
    let x := s1.tileOf k
    let a := s1.rs1 t c w
    let b := s1.rs2 t c w
    (s.extAt t c 0 s1 w →
      (x.queue.length < 4 → exec (.mpush t c) s = .next (s1.retired t c w none { x with queue := x.queue ++ [a + b * 2 ^ 32] })) ∧
      (4 ≤ x.queue.length → exec (.mpush t c) s = .next s)) ∧
    (s.extAt t c 1 s1 w →
      ((∀ i ∈ x.queue ++ x.flights.map (·.word), instOp i ≠ 0 → instTag i ≠ a % 256) →
        exec (.mwait t c) s = .next (s1.retired t c w none x)) ∧
      ((∃ i ∈ x.queue ++ x.flights.map (·.word), instOp i ≠ 0 ∧ instTag i = a % 256) → exec (.mwait t c) s = .next s)) ∧
    (s.extAt t c 9 s1 w →
      (a ≤ x.reg 0x30 → exec (.mrecv t c) s = .next (s1.retired t c w (some (x.reg 0x30 - a)) (x.setReg 0x30 (x.reg 0x30 - a)))) ∧
      (x.reg 0x30 < a → exec (.mrecv t c) s = .next s)) ∧
    (s.extAt t c 11 s1 w →
      (∀ v, x.tags.find a = some v → v < 3 → exec (.wland t c) s = .next (s1.retired t c w (some v) x)) ∧
      ((∀ v, x.tags.find a = some v → 3 ≤ v) → exec (.wland t c) s = .next s)) ∧
    (s.extAt t c 12 s1 w →
      (bit a 0 = false → exec (.stamp t c) s = .next (s1.retired t c w (some (s1.stamp % 2 ^ 32))
        (x.setCore c { x.core c with stampHi := s1.stamp / 2 ^ 32 }))) ∧
      (bit a 0 = true → exec (.stamp t c) s = .next (s1.retired t c w (some (x.core c).stampHi) x))) ∧
    (s.extAt t c 13 s1 w → ∀ q, x.task = some q → exec (.tend t c) s = .next (s1.retired t c w none
      { x.setCore c { x.core c with halted := true } with
        task := some { q with tend := if q.tend.isSome then q.tend else some (a % 256) } }))) ∧
  (∀ (s s1 : State) (t : PhysTile) (c : Core) (w : Nat),
    let k := tileKey t
    let x := s1.tileOf k
    let a := s1.rs1 t c w
    let b := s1.rs2 t c w
    (s.extAt t c 2 s1 w →
      let n := bits b 3 0 + 1
      let two := bit b 4 || bit b 5
      let size := if two then 64 else 32
      let at_ := x.fillAt a (bits b 15 8 * 32) n
      bits b 7 6 = 0 → bits b 31 16 = 0 → bits b 15 8 ≠ 0 → (∀ i, i < n → (a + i * (bits b 15 8 * 32)) % size = 0) →
      x.feeders.length + n ≤ 16 →
      ∀ ls, x.holds .a (at_.map Prod.fst) ls → exec (.ffill t c none) s = .next (s1.retired t c w none { x with
        feeders := x.feeders ++ (ls.zip at_).map fun l => (⟨bit b 4, entriesOf two (x.readBytes .a (l.1 * 64 + l.2.2) size)⟩ : FeedVec) })) ∧
    (s.extAt t c 3 s1 w → ∀ ls, x.admits .p ((List.range 32).map (a + ·)) ls → x.pathBusy ((List.range 32).map (a + ·)) = false →
      exec (.psat t c) s = .next (s1.retired t c w
        (some (ls.zipIdx.map fun l => flag (x.sat.get false l.1 && x.isWritten .p l.1) * 2 ^ l.2).sum)
        (if bit b 0 then { x with sat := ls.foldl Tab.erase x.sat } else x))) ∧
    (s.extAt t c 5 s1 w →
      let n := bits w 31 25 + 1
      a % 64 = 0 → b % 64 = 0 → ∀ ls ds, x.holds .a (x.span .a (a / 64) n) ls → x.admits .a (x.span .a (b / 64) n) ds →
      exec (.acopy t c) s = .next (s1.retired t c w none (x.putLines .a ds (x.lineBytes .a ls)))) ∧
    (s.extAt t c 6 s1 w → a % 64 = 0 → b % 64 = 0 → ∀ l d, x.holds .a [a / 64] [l] → x.admits .a [b / 64] [d] →
      exec (.alut t c) s = .next (s1.retired t c w none
        (x.writeBytes .a (d * 64) ((x.readBytes .a (l * 64) 64).map fun v => x.lut.get 0 v.toNat)))) ∧
    (s.extAt t c 8 s1 w →
      let n := bits w 31 25 + 1
      a % 64 = 0 → bits b 17 0 % 64 = 0 → ∀ ls dst q, x.holds .a (x.span .a (a / 64) n) ls → x.task = some q →
      s1.wafer.phys (bits b 24 18) (bits b 31 25) = some dst → (s1.jobOf q.job).region.has (bits b 24 18) (bits b 31 25) = true →
      exec (.msend t c) s = .next (({ s1 with mesh := s1.mesh ++ (x.lineBytes .a ls).zipIdx.map fun d =>
        (⟨k, dst, bits b 17 0 + 64 * d.2, d.1, q.job⟩ : MeshLine) } : State).retired t c w none x)))

/-- PQNT and CCOUNT (R107, R139, R140): PQNT requantises the 16 words of a P line under QM and QCFG, with QSTAT set where one was
clamped; an INT32 word times QM is shifted right with rounding, offset and held to 8 bits. CCOUNT counts the elements of its range
that match, into rd. The model's choices within it: log 24. -/
def Obligations.CoreNumericInstructions : Prop :=
  (∀ (s s1 : State) (t : PhysTile) (c : Core) (w : Nat), s.extAt t c 4 s1 w →
    let k := tileKey t
    let x := s1.tileOf k
    let a := s1.rs1 t c w
    let b := s1.rs2 t c w
    let q := qcfgOf (x.reg 0x20) (x.reg 0x24)
    q.mode < 4 → b % (if q.mode = 3 then 32 else 16) = 0 → x.pathBusy [a] = false → ∀ l d, x.holds .p [a] [l] → x.admits .a [b / 64] [d] →
    let vs := (wordsOfLine (x.readBytes .p (l * 64) 64)).map q.word
    exec (.pqnt t c) s = .next (s1.retired t c w none
      ((if vs.any (·.2) then x.setReg 0x28 1 else x).writeBytes .a (d * 64 + b % 64)
        (vs.flatMap fun v => natLe (if q.mode = 3 then 2 else 1) v.1)))) ∧
  (∀ (q : Qcfg) (v : Nat), q.mode = 0 → 0 < q.qs → q.u = false →
    let y := (signed 32 v * q.qm + 2 ^ (q.qs - 1)) / 2 ^ q.qs + q.qz
    q.word v = (unsigned 8 (max (-128) (min 127 y)), decide (y < -128 ∨ 127 < y))) ∧
  ∀ (s s1 : State) (t : PhysTile) (c : Core) (w : Nat), s.extAt t c 7 s1 w →
    let k := tileKey t
    let x := s1.tileOf k
    let a := s1.rs1 t c w
    a % 16 = 0 → ∀ l, x.holds .a [a / 64] [l] →
    let d := ccDesc (x.readBytes .a (l * 64 + a % 64) 16)
    d.bad x = false → d.mask = false → (d.inP = true → x.pathBusy (d.range x) = false) → ∀ ls, x.holds d.store (d.range x) ls →
    let es := d.elems (x.lineBytes d.store ls).flatten
    (∀ v ∈ es, ccElem d.etype v ≠ none) →
    exec (.ccount t c) s = .next ((s1.tileBump k 0x1D4 1).retired t c w
      (some (es.countP fun v => ccMatch d.etype d.cmp v d.t1 d.t2)) (x.bump 0x1D4 1))

/-- EVPUSH (R225 to R228): a sound record enters the tile's queue of 64, behind every earlier arrival, which a full queue makes wait; a bad one is discarded,
counted in 0x2600:02, and fires 0x0301. A line of the mesh lands at its offset and ARRIVE counts it (R108, R129); at a tile
without a running task it is dropped and counted, at a fenced tile discarded (R415). -/
def Obligations.RecordsAndLandings : Prop :=
  (∀ (s s1 : State) (t : PhysTile) (c : Core) (w : Nat), s.extAt t c 10 s1 w →
    let k := tileKey t
    let x := s1.tileOf k
    let v := s1.rs1 t c w + s1.rs2 t c w * 2 ^ 32
    (s1.evBad k v = false → (evRecord v).kind ≠ 3 →
      (x.evq.length < 64 → x.evWait = [] → exec (.evpush t c) s = .next (s1.retired t c w none { x with evq := x.evq ++ [evRecord v] })) ∧
      (64 ≤ x.evq.length ∨ x.evWait ≠ [] → exec (.evpush t c) s = .next s)) ∧
    (s1.evBad k v = true → x.evq.length < 64 → ∃ u, exec (.evpush t c) s = .next u ∧ s1.firedOnce 0x0301 u ∧
      u.cell 0x2600 2 = (s1.cell 0x2600 2 + 1) % 2 ^ 64 ∧ s1.tileBecomes k (x.stepped c w none) u)) ∧
  ∀ (s : State) (src dst : PhysTile) (m : MeshLine) (rest : List MeshLine), takeLine (tileKey src) (tileKey dst) s.mesh = some (m, rest) →
    let k := tileKey dst
    let x := s.tileOf k
    (s.taskRuns k = true → x.bad = .empty → (∀ g, g < 4 → (x.regionOf g).enable = false) → m.data.length = 64 →
      ∀ l, x.taskLine .a (m.off / 64) = some l → x.lineOff .a l = false →
      completes (.msendLineLand src dst) s [.tiles, .mesh] fun t => t.mesh = rest ∧
        s.tileBecomes k ((x.writeBytes .a (l * 64) m.data).setReg 0x30 ((x.reg 0x30 + 1) % 2 ^ 32)) t) ∧
    (s.tileRuns k = true → x.task = none → completes (.msendLineLand src dst) s [.tiles, .mesh] fun t => t.mesh = rest ∧
      s.tileBecomes k (x.setReg 0x34 ((x.reg 0x34 + 1) % 2 ^ 32)) t) ∧
    (s.fencedAt k = true → completes (.msendLineLand src dst) s [.od, .mesh] fun t => t.mesh = rest ∧
      t.cell 0x2B60 2 = (s.cell 0x2B60 2 + 64) % 2 ^ 64 ∧ s.otherCells [(0x2B60, 2)] t)

/-- The matrix sequencer (R91 to R97): a MAC issues once its vectors stand in the feeders and a plane of its class is loaded, taking
them; with too few it waits and FEED_STALL counts; a bad encoding ends the task with BAD_COMMAND. The oldest issued instruction
retires with its TAG, and a retire event for both cores where it asks for one; an INT8 pass overwrites its two P lines with the 32
column sums. The model's choices within it: log 24. -/
def Obligations.MatrixSequencer : Prop :=
  (∀ (s : State) (t : PhysTile) (w : Nat) (rest : List Nat), s.taskRuns (tileKey t) = true → (s.tileOf (tileKey t)).queue = w :: rest →
    let k := tileKey t
    let x := s.tileOf k
    (instOp w = 1 → instBad x.pBase w = false → bit w 16 = false → instV w ≤ x.feeders.length →
      ∀ p, x.plane (bits w 11 11) = some p → p.cls = classOf (instFmt w) → (∀ v ∈ x.feeders.take (instV w), v.wide = wideFmt (instFmt w)) →
      completes (.matrixIssue t) s [.od, .tiles] fun u => u.cell 0x2200 1 = (s.cell 0x2200 1 + 1) % 2 ^ 64 ∧
        s.otherCells [(0x2200, 1)] u ∧ s.tileBecomes k (({ x with
          queue := rest, flights := x.flights ++ [(⟨w, x.feeders.take (instV w), p.bytes⟩ : Flight)]
          feeders := x.feeders.drop (instV w) } : Tile).setReg 0x40 ((x.reg 0x40 + 1) % 2 ^ 32)) u) ∧
    (instOp w = 1 → instBad x.pBase w = false → x.feeders.length < instV w → completes (.matrixIssue t) s [.od, .tiles] fun u =>
      s.tileBecomes k (x.setReg 0x44 ((x.reg 0x44 + 1) % 2 ^ 32)) u) ∧
    (instBad x.pBase w = true → completes (.matrixIssue t) s [.det, .log, .logMade, .faultBuffer, .tiles] fun u =>
      s.taskEnds k .badCommand 0x0104 u)) ∧
  ∀ (s : State) (t : PhysTile) (f : Flight) (rest : List Flight), s.tileRuns (tileKey t) = true → (s.tileOf (tileKey t)).flights = f :: rest →
    let k := tileKey t
    let x := s.tileOf k
    (instOp f.word = 2 → completes (.instructionRetire t) s [.tiles] fun u =>
      s.tileBecomes k (({ x with
        flights := rest
        core0 := { x.core0 with event := x.core0.event || bit f.word 56 }
        core1 := { x.core1 with event := x.core1.event || bit f.word 56 } } : Tile).setReg 0x14 (instTag f.word)) u) ∧
    (instOp f.word = 1 → instFmt f.word = 0 → bit f.word 7 = false → bit f.word 10 = false → x.p.wf = true →
      ∀ v l m, f.vecs = [v] → v.entries.length = 32 → x.admits .p [bits f.word 27 17, bits f.word 27 17 + 1] [l, m] →
      completes (.instructionRetire t) s [.tiles] fun u => (∀ j, j ≠ k → u.tileOf j = s.tileOf j) ∧ (u.tileOf k).flights = rest ∧
        (u.tileOf k).reg 0x14 = instTag f.word ∧ (u.tileOf k).core0.event = (x.core0.event || bit f.word 56) ∧
        (u.tileOf k).core1.event = (x.core1.event || bit f.word 56) ∧
        (u.tileOf k).readBytes .p (l * 64) 64 = (List.range 16).flatMap (fun j => natLe 4 (unsigned 32 (int8Column f.plane v.entries j))) ∧
        (u.tileOf k).readBytes .p (m * 64) 64 =
          (List.range 16).flatMap (fun j => natLe 4 (unsigned 32 (int8Column f.plane v.entries (16 + j)))) ∧
        (∀ b, (b < l * 64 ∨ l * 64 + 64 ≤ b) → (b < m * 64 ∨ m * 64 + 64 ≤ b) → (u.tileOf k).p.read b = x.p.read b) ∧
        (u.tileOf k).a = x.a ∧ (u.tileOf k).w = x.w)

/-- Tiles are watched (R115): a hang fires 0x0102 and a missed heartbeat 0x0101, once, and make the tile suspect, nothing more. A
corrected word is written back (R119). A one written to QSTAT clears it, a read of a read-to-clear counter leaves it zero (R116,
R143). A task ends once queue and array are empty after TEND, or after a fault (R109, R138, R413): both cores halt, and its TSTART
loses one part, the last of which completes the entry with the worst of its tiles' statuses. A circular region is advanced by its
core (R127, R130): the tail within its free space, the head within its occupancy, wrapping at its size; an advance beyond them, or
of a disabled region, ends the task with BAD_COMMAND and 0x0205. The model's choices within it: log 19. -/
def Obligations.TileSupervisionAndTaskEnd : Prop :=
  ((∀ (s : State) (t : PhysTile), s.watched (tileKey t) = true → ((s.tileOf (tileKey t)).headReady = true ∨ (s.tileOf (tileKey t)).flights ≠ []) →
    completes (.issueHang t) s [.det, .log, .logMade, .faultBuffer, .suspects] fun u =>
      s.firedOnce 0x0102 u ∧ s.suspects1 (.tile (tileKey t)) u) ∧
  (∀ (s : State) (t : PhysTile), s.watched (tileKey t) = true → s.up.yoke = true →
    completes (.tileHeartbeatTimeout t) s [.det, .log, .logMade, .faultBuffer, .suspects] fun u =>
      s.firedOnce 0x0101 u ∧ s.suspects1 (.tile (tileKey t)) u) ∧
  (∀ (s : State) (t : PhysTile) (w : Nat) (r : List Nat), s.tileRuns (tileKey t) = true → (s.tileOf (tileKey t)).writeback = w :: r →
    (s.tileOf (tileKey t)).bad.find w = some false →
    completes (.eccWriteback t) s [.tiles] fun u => (u.tileOf (tileKey t)).bad.find w = none ∧
      s.tileBecomes (tileKey t) { s.tileOf (tileKey t) with writeback := r, bad := (s.tileOf (tileKey t)).bad.erase w } u) ∧
  (∀ (s : State) (t : PhysTile) (v : W32), s.fencedAt (tileKey t) = false → completes (.qstatClear t v) s [.tiles] fun u =>
    (bit v.toNat 0 = true → s.tileBecomes (tileKey t) ((s.tileOf (tileKey t)).setReg 0x28 0) u) ∧
    (bit v.toNat 0 = false → s.tileBecomes (tileKey t) (s.tileOf (tileKey t)) u)) ∧
  ∀ (s : State) (t : PhysTile) (off : W16), s.fencedAt (tileKey t) = false →
    off.toNat ∈ [0x34, 0x40, 0x44, 0x48, 0x4C, 0x1C0, 0x1C4, 0x1C8, 0x1CC, 0x1D0, 0x1D4, 0x1D8] →
    completes (.tileCounterReadClear t off) s [.tiles] fun u => s.tileReg (tileKey t) off.toNat = (s.tileOf (tileKey t)).reg off.toNat ∧
      u.tileReg (tileKey t) off.toNat = 0 ∧ s.tileBecomes (tileKey t) ((s.tileOf (tileKey t)).setReg off.toNat 0) u) ∧
  (∀ (s : State) (t : PhysTile) (q : Task) (st : Status) (det : Nat) (e : EntryRun), s.tileRuns (tileKey t) = true →
    (s.tileOf (tileKey t)).task = some q → (s.tileOf (tileKey t)).endStatus = some (st, det) → s.entryOf q.list q.idx = some e →
    s.suspects = [] → s.isSuspect (.owner 2 q.job) = false →
    completes (.taskEnd t) s (entryFields ++ ([.tiles] : List Field)) fun u =>
      (u.tileOf (tileKey t)).task = none ∧ (u.tileOf (tileKey t)).core0.halted = true ∧ (u.tileOf (tileKey t)).core1.halted = true ∧
      (u.tileOf (tileKey t)).queue = [] ∧ (∀ j, j ≠ tileKey t → u.tileOf j = s.tileOf j) ∧
      (2 ≤ e.parts → ∃ d, u.entryOf q.list q.idx = some d ∧ d.parts = e.parts - 1 ∧ d.worst = e.worst.worse st) ∧
      (e.parts = 1 → u.ended q.list q.idx (e.worst.worse st))) ∧
  (∀ (s : State) (t : PhysTile) (c : Core) (r : Fin 4) (v : W32), s.coreRuns (tileKey t) c = true →
    let k := tileKey t
    let x := s.tileOf k
    let g := x.regionOf r.val
    let m := bits v.toNat 14 0
    (g.enable = true → bit v.toNat 15 = true → m ≤ g.size - g.occ → 0 < g.size →
      completes (.regionAdvance t c r v) s [.tiles] fun u => s.tileBecomes k { x with regions := x.regions.set r.val { g with
        tail := (g.tail + m) % g.size, twrap := (g.twrap + (g.tail + m) / g.size) % 65536 } } u) ∧
    (g.enable = true → bit v.toNat 15 = false → m ≤ g.occ → 0 < g.size → g.releaseClears = false →
      completes (.regionAdvance t c r v) s [.tiles] fun u => s.tileBecomes k { x with regions := x.regions.set r.val { g with
        head := (g.head + m) % g.size, hwrap := (g.hwrap + (g.head + m) / g.size) % 65536 } } u) ∧
    (g.enable = false ∨ (bit v.toNat 15 = true ∧ g.size - g.occ < m) ∨ (bit v.toNat 15 = false ∧ g.occ < m) →
      completes (.regionAdvance t c r v) s [.det, .log, .logMade, .faultBuffer, .tiles] fun u => s.taskEnds k .badCommand 0x0205 u))

/-- Base instructions of a prep core (R104, R105): arithmetic gives rd its value, a branch moves the pc, a word load reads and a word
store writes the A-store through the task's window, an environment call or an illegal instruction traps: the task ends with
BAD_COMMAND and 0x0103, with the pc and the cause in TRAP_PC and TRAP_CAUSE; so does a fetch from an odd address, with cause 0. The
model's choices within it: log 25. -/
def Obligations.BaseInstructions : Prop :=
  (∀ (s : State) (t : PhysTile) (c : Core), s.coreRuns (tileKey t) c = true → ((s.tileOf (tileKey t)).core c).pc % 2 = 1 →
    (∃ q, (s.tileOf (tileKey t)).task = some q ∧ q.failed = none) →
    ∃ u, exec (.prepCoreInstruction t c []) s = .next u ∧ s.taskEnds (tileKey t) .badCommand 0x0103 u ∧
      (u.tileOf (tileKey t)).reg 0x50 = ((s.tileOf (tileKey t)).core c).pc ∧ (u.tileOf (tileKey t)).reg 0x54 = coreNum c * 2 ^ 31) ∧
  ∀ (s s1 : State) (t : PhysTile) (c : Core) (us : List StoreUpset) (w len : Nat), s.baseAt t c us s1 w len →
    let k := tileKey t
    let x := s1.tileOf k
    let a := s1.rs1 t c w
    let b := s1.rs2 t c w
    let next := ((x.core c).pc + len) % 2 ^ 32
    let i := exec (.prepCoreInstruction t c us) s
    (bits w 6 0 = 0x13 → bits w 14 12 = 0 →
      i = .next (s1.setTile k (x.ran c next (bits w 11 7) ((a + unsigned 32 (signed 12 (bits w 31 20))) % 2 ^ 32)))) ∧
    (bits w 6 0 = 0x33 → bits w 31 25 = 0 → bits w 14 12 = 0 → i = .next (s1.setTile k (x.ran c next (bits w 11 7) ((a + b) % 2 ^ 32)))) ∧
    (bits w 6 0 = 0x33 → bits w 31 25 = 1 → bits w 14 12 = 0 → i = .next (s1.setTile k (x.ran c next (bits w 11 7) (a * b % 2 ^ 32)))) ∧
    (bits w 6 0 = 0x33 → bits w 31 25 = 1 → bits w 14 12 = 5 →
      i = .next (s1.setTile k (x.ran c next (bits w 11 7) (if b = 0 then 2 ^ 32 - 1 else a / b)))) ∧
    (bits w 6 0 = 0x63 → bits w 14 12 = 0 →
      let off := signed 13 (bits w 31 31 * 2 ^ 12 + bits w 7 7 * 2 ^ 11 + bits w 30 25 * 2 ^ 5 + bits w 11 8 * 2)
      i = .next (s1.setTile k (x.ran c (if a = b then unsigned 32 ((x.core c).pc + off) else next) 0 0))) ∧
    (bits w 6 0 = 0x03 → bits w 14 12 = 2 →
      let ad := unsigned 32 (a + signed 12 (bits w 31 20))
      ad % 4 = 0 → 0x100000 ≤ ad → ad < 0x140000 → ∀ l, x.holds .a [(ad - 0x100000) / 64] [l] →
      i = .next (s1.setTile k (x.ran c next (bits w 11 7) (leNat (x.readBytes .a (l * 64 + (ad - 0x100000) % 64) 4))))) ∧
    (bits w 6 0 = 0x23 → bits w 14 12 = 2 →
      let ad := unsigned 32 (a + signed 12 (bits w 31 25 * 32 + bits w 11 7))
      ad % 4 = 0 → 0x100000 ≤ ad → ad < 0x140000 → ∀ l, x.admits .a [(ad - 0x100000) / 64] [l] →
      i = .next (s1.setTile k ((x.writeBytes .a (l * 64 + (ad - 0x100000) % 64) (natLe 4 b)).ran c next 0 0))) ∧
    (w = 0x73 ∨ bits w 6 0 = 0x7F → (∃ q, x.task = some q ∧ q.failed = none) → ∃ u, i = .next u ∧ s1.taskEnds k .badCommand 0x0103 u ∧
      (u.tileOf k).reg 0x50 = (x.core c).pc ∧ (u.tileOf k).reg 0x54 = (if w = 0x73 then 11 else 2) + coreNum c * 2 ^ 31)

/-- The flash of a segment (R146, R147, R149 to R151): a link that trains, with its domain ON, brings an SSD that meets R147 into
service with its queues and limits, and another is REJECTED with 0x0606; a link that drops is LINK_DOWN with no command
outstanding and 0x0601, the last part of whose entry ends with TIER_FAILED; training is retried and SMART read at their intervals,
a critical warning firing 0x0607. A flash command of an entry (R148, R150): a successful Read's data stands in tier 1 while the
entry waits; a failed one, or one that has timed out, ends its part with TIER_FAILED; each has left the SSD's queue, and the last
part ends the entry, with the worst of what its parts met and what a suspect segment gives it (R22, R404). Timeouts in a row up to
the threshold reset the controller. Patrol scrub, once every 24 h, makes a segment with an uncorrectable word suspect (R154, R401). The model's choices within it: log 26, 29. -/
def Obligations.FlashLinksAndCommands : Prop :=
  ((∀ (s : State) (g : SegId) (n : Nat) (i : SsdInfo), (s.seg g.val).flash = .linkDown ∨ (s.seg g.val).flash = .resetting →
    (s.domainOf (1 + g.val)).st = .on → s.up.yoke = true → 1 ≤ n → n ≤ 5 →
    let x := s.seg g.val
    let gen := if x.flash = .linkDown then n else x.gen
    completes (.nvmeLinkUp g n i) s [.det, .log, .logMade, .faultBuffer, .segs] fun t => (∀ j, j ≠ g.val → t.seg j = s.seg j) ∧
      (ssdBad i = true → s.firedOnce 0x0606 t ∧
        t.seg g.val = { x with gen := gen, flash := .rejected, queues := 0, entries := 0, timeouts := 0 }) ∧
      (ssdBad i = false → t.det = s.det ∧ t.seg g.val = { x with
        gen := gen, flash := .inService, queues := min 8 i.granted, entries := min (i.mqes + 1) 256, nsze := i.nsze
        limit := if i.mdts = 0 then 256 else min (2 ^ (i.mdts + 12 + i.mpsmin)) (2 ^ 20) / 4096
        timeouts := 0, smartAt := s.now + s.setting 0x2401 7 * psS })) ∧
  (∀ (s : State) (g : SegId), (s.seg g.val).flash ≠ .linkDown →
    completes (.nvmeLinkDown g) s (entryFields ++ ([.sessions, .frames, .tiles, .attach, .plans, .segs, .fresh] : List Field)) fun t =>
      (t.seg g.val).flash = .linkDown ∧ (t.seg g.val).gen = 0 ∧ (t.seg g.val).cmds = .empty ∧
      (t.seg g.val).retryAt = s.now + s.setting 0x2401 6 * psMs ∧ (∀ j, j ≠ g.val → (t.seg j).flash = (s.seg j).flash) ∧
      ((s.seg g.val).cmds = .empty → s.firedOnce 0x0601 t ∧ t.plans = s.plans ∧ t.lists = s.lists) ∧
      ∀ cid c id idx e, (s.seg g.val).cmds = ⟨[(cid, c)]⟩ → c.for_ = .entry id idx → s.entryOf id idx = some e → e.parts = 1 →
        ∀ l, s.lists.find id = some l → t.ended id idx ((e.worst.worse .tierFailed).worse (s.suspectStatus l.job [] [g.val]))) ∧
  (∀ (s : State) (g : SegId), (s.seg g.val).flash = .linkDown → (s.domainOf (1 + g.val)).st = .on → s.up.yoke = true →
    completes (.nvmeLinkRetry g) s [.now, .segs] fun t => t.now = max s.now (s.seg g.val).retryAt ∧
      t.seg g.val = { s.seg g.val with retryAt := t.now + s.setting 0x2401 6 * psMs } ∧ ∀ j, j ≠ g.val → t.seg j = s.seg j) ∧
  ∀ (s : State) (g : SegId) (w : Byte), (s.seg g.val).flash = .inService →
    completes (.smartPoll g w) s [.now, .det, .log, .logMade, .faultBuffer, .segs] fun t => t.now = max s.now (s.seg g.val).smartAt ∧
      t.seg g.val = { s.seg g.val with warning := w.toNat, smartAt := t.now + s.setting 0x2401 7 * psS } ∧
      (∀ j, j ≠ g.val → t.seg j = s.seg j) ∧ (w = 0 → t.det = s.det) ∧
      (w ≠ 0 → (t.detOf 0x0607).count = ((s.detOf 0x0607).count + 1) % 2 ^ 64)) ∧
  ((∀ (s : State) (g : SegId) (cid id idx : Nat) (c : NvmeCmd) (e : EntryRun), (s.seg g.val).cmds.find cid = some c →
    c.for_ = .entry id idx → s.entryOf id idx = some e → 2 ≤ e.parts →
    (∀ data, c.op = 2 → data.length = c.lbas * 4096 → s.dram.get false g.val = true → s.tier1Bad = .empty →
      completes (.nvmeCompletion g cid true data) s [.lists, .tier1, .granules, .tier1Bad, .segCtr, .segs] fun t =>
        t.tier1 = s.tier1.writeBytes c.addr data ∧ (t.seg g.val).cmds.find cid = none ∧ (t.seg g.val).timeouts = 0 ∧
        ∃ x, t.entryOf id idx = some x ∧ x.parts = e.parts - 1 ∧ x.worst = e.worst) ∧
    (∀ data, c.op = 2 → completes (.nvmeCompletion g cid false data) s [.lists, .det, .log, .logMade, .faultBuffer, .segCtr, .segs] fun t =>
        (t.seg g.val).cmds.find cid = none ∧ s.firedOnce 0x0603 t ∧
        ∃ x, t.entryOf id idx = some x ∧ x.parts = e.parts - 1 ∧ x.worst = e.worst.worse .tierFailed) ∧
    ((s.seg g.val).timeouts + 1 < s.setting 0x2401 4 →
      completes (.nvmeCommandTimeout g cid) s [.now, .lists, .det, .log, .logMade, .faultBuffer, .segCtr, .segs] fun t =>
        t.now = max s.now (c.sentAt + s.setting 0x2401 3 * psMs) ∧ (t.seg g.val).cmds.find cid = none ∧
        (t.seg g.val).timeouts = (s.seg g.val).timeouts + 1 ∧ (t.seg g.val).flash = (s.seg g.val).flash ∧
        ∃ x, t.entryOf id idx = some x ∧ x.parts = e.parts - 1 ∧ x.worst = e.worst.worse .tierFailed)) ∧
  (∀ (s : State) (g : SegId) (cid id idx : Nat) (c : NvmeCmd) (e : EntryRun), (s.seg g.val).cmds.find cid = some c →
    c.for_ = .entry id idx → s.entryOf id idx = some e → e.parts = 1 → ∀ l : ListRun, s.lists.find id = some l →
    (∀ data, c.op ≠ 2 → completes (.nvmeCompletion g cid true data) s (entryFields ++ ([.segs] : List Field)) fun t =>
      t.ended id idx (e.worst.worse (s.suspectStatus l.job [] [g.val]))) ∧
    ((s.seg g.val).cmds = ⟨[(cid, c)]⟩ → s.setting 0x2401 4 ≤ (s.seg g.val).timeouts + 1 →
      completes (.nvmeCommandTimeout g cid) s (entryFields ++ ([.now, .sessions, .frames, .tiles, .attach, .plans, .segs, .fresh] : List Field)) fun t =>
        (t.seg g.val).flash = .resetting ∧ (t.seg g.val).cmds = .empty ∧ s.emits t (.nvmeReset g) ∧
        t.ended id idx ((e.worst.worse .tierFailed).worse (s.suspectStatus l.job [] [g.val])))) ∧
  ∀ (s : State) (u : TierUpset), s.tier1Bad = .empty → s.granules.get false (u.addr / 65536) = true → u.addr < tier1Size →
    s.dram.get false (segOf (u.addr / 8 * 8)) = true →
    completes (.patrolScrub [u]) s [.now, .tier1Bad, .det, .log, .logMade, .faultBuffer, .suspects, .segCtr, .up] fun t =>
      t.now = max s.now s.up.patrolAt ∧ t.up = { s.up with patrolAt := t.now + 86400 * psS } ∧
      (u.double = true → s.suspects1 (.dram (segOf (u.addr / 8 * 8))) t ∧ s.firedOnce 0x0502 t ∧ t.tier1Bad.find (u.addr / 8) = some true) ∧
      (u.double = false → t.suspects = s.suspects ∧ s.firedOnce 0x0501 t ∧ t.tier1Bad = .empty))

/-- FREAD, FWRITE, FFLUSH and FTRIM (R148, R203): accepted for a job with the FLASH flag over a range of its segment and of the job,
each takes its commands to the SSD, here one, with the data of a write, and the entry goes on; with the flash out of service it
ends with TIER_FAILED and no command is sent. -/
def Obligations.FlashEntries : Prop :=
  ∀ (s : State) (list idx : Nat) (c : Instr) (eop op : Nat) (used : List (Nat × Nat)) (l : ListRun) (e : EntryRun),
    (c = .fread list idx ∧ eop = 8 ∧ op = 2 ∧ used = [(4, 1), (8, 8), (0x10, 8), (0x18, 4)]) ∨
      (c = .fwrite list idx ∧ eop = 9 ∧ op = 1 ∧ used = [(4, 1), (8, 8), (0x10, 8), (0x18, 4)]) ∨
      (c = .fflush list idx ∧ eop = 0xA ∧ op = 0 ∧ used = [(4, 1)]) ∨
      (c = .ftrim list idx ∧ eop = 0xB ∧ op = 9 ∧ used = [(4, 1), (8, 8), (0x18, 4)]) →
    s.begun list idx 1 eop l e → e.restZero used = true → (s.jobOf l.job).flash = true → (eop ≠ 0xA → 0 < e.field 0x18 4) →
    ∀ g : SegId, e.field 4 1 = g.val →
    let x := s.seg g.val
    let a := e.field 0x10 8
    let n := e.field 0x18 4
    (op = 1 ∨ op = 2 → g.val * segSize ≤ a ∧ a + n * 4096 ≤ (g.val + 1) * segSize ∧ (s.jobOf l.job).covers a (n * 4096) = true ∧
      n ≤ x.limit ∧ s.dram.get false g.val = true ∧ s.dmaReady [g.val] = true) → (op = 1 → s.tier1Bad = .empty) →
    (x.flash = .inService → completes c s (entryFields ++ ([.suspects, .segs] : List Field)) fun t => (t.entryOf list idx).isSome = true ∧
      t.seg g.val = { x with nextCid := x.nextCid + 1, cmds := x.cmds.set x.nextCid ⟨op, e.field 8 8, n, a, s.now, .entry list idx⟩ } ∧
      (∀ j, j ≠ g.val → t.seg j = s.seg j) ∧
      s.emits t (.nvme g x.nextCid op (e.field 8 8) n (if op = 1 then s.tier1.readBytes a (n * 4096) else []))) ∧
    (x.flash ≠ .inService → completes c s (entryFields ++ ([.suspects, .segs] : List Field)) fun t => t.ended list idx .tierFailed ∧ t.segs = s.segs)

/-- PLANLOAD and UNLOAD (R160, R203): a sound plan in ranges of the job is held, LOADED, under its number; a number in use or a plan
that breaks a check is refused with BAD_COMMAND; a LOADED plan becomes FREE. No other plan changes. ACTIVATE, DEACTIVATE and
RESTAGE (R161, R171, R173, R193, R203): a plan over a budget is refused with OVERLOAD, which stops its list; a STREAMED plan is ACTIVE at once, its passes
from the next line on; a PINNED one is STAGING, with every pleat staged from its flash. A plan with no pass in progress is LOADED
again at once, another when its passes have ended. FAILED pleats are staged again with their count at 0. The model's choices
within it: log 12, 28. -/
def Obligations.PlanEntries : Prop :=
  ((∀ (s : State) (list idx : Nat) (l : ListRun) (e : EntryRun), s.begun list idx 1 1 l e → s.tier1Bad = .empty →
    let i := s.planAt (e.field 8 8) l.job
    (s.suspects = [] → e.restZero [(4, 1), (8, 8)] = true → s.plans.find (e.field 4 1) = none → i.headerOk = true → i.recordsOk = true →
      s.planOk i.plan = true → s.planOutside i.plan l.job = false →
      (∀ r ∈ (e.field 8 8, 64) :: i.tables ++ i.plan.pleats.map (fun x => (x.tier1, x.lbas * 4096)), r.1 + r.2 ≤ tier1Size ∧ (s.jobOf l.job).covers r.1 r.2 = true) →
      completes (.planload list idx) s (entryFields ++ ([.suspects, .plans] : List Field)) fun t =>
        t.ended list idx .ok ∧ t.plans = s.plans.set (e.field 4 1) i.plan ∧ i.plan.st = .loaded) ∧
    ((s.plans.find (e.field 4 1)).isSome = true ∨ ((i.headerOk = false ∨ i.recordsOk = false ∨ s.planOk i.plan = false) ∧
        e.field 8 8 + 64 ≤ tier1Size ∧ (s.jobOf l.job).covers (e.field 8 8) 64 = true) →
      completes (.planload list idx) s (entryFields ++ ([.suspects, .plans] : List Field)) fun t => t.ended list idx .badCommand ∧ t.plans = s.plans)) ∧
  ∀ (s : State) (list idx : Nat) (l : ListRun) (e : EntryRun) (p : Plan), s.begun list idx 1 4 l e → e.restZero [(4, 1)] = true →
    s.plans.find (e.field 4 1) = some p → p.job = l.job → p.st = .loaded →
    completes (.unload list idx) s (entryFields ++ ([.plans] : List Field)) fun t => t.ended list idx .ok ∧ t.plans = s.plans.erase (e.field 4 1)) ∧
  (∀ (s : State) (list idx : Nat) (l : ListRun) (e : EntryRun) (p : Plan), e.restZero [(4, 1)] = true →
    s.plans.find (e.field 4 1) = some p → p.job = l.job → s.frames = .empty → s.suspects = [] →
    let k := e.field 4 1
    let up := ∀ x ∈ p.pleats, s.flashUp x.seg = true ∧ s.dram.get false x.seg = true
    (s.begun list idx 1 2 l e → p.st = .loaded →
      (s.planOver p = true → completes (.activate list idx) s entryFields fun t => t.ended list idx .overload ∧
        ∀ x, t.lists.find list = some x → x.stopped = true) ∧
      (s.planOver p = false → p.streamed = true →
        completes (.activate list idx) s (entryFields ++ ([.sessions, .frames, .skips, .setSkips, .tiles, .attach, .plans] : List Field)) fun t =>
          t.ended list idx .ok ∧ (∀ j, j ≠ k → t.plans.find j = s.plans.find j) ∧
          t.plans.find k = some { p with
            st := .active, firstB := s.beat.n + 1, started := 0, staged := .empty, passes := .empty, activator := none, deactivator := none
            restagers := [], pleats := p.pleats.map fun x => { x with st := .resident, cmds := 0, attempts := 0 } }) ∧
      (s.planOver p = false → p.streamed = false → p.pleats ≠ [] → up →
        completes (.activate list idx) s (entryFields ++ ([.sessions, .frames, .skips, .setSkips, .tiles, .attach, .plans, .segs] : List Field)) fun t =>
          (t.entryOf list idx).isSome = true ∧ (∀ j, j ≠ k → t.plans.find j = s.plans.find j) ∧ ∃ q, t.plans.find k = some q ∧
            q.st = .staging ∧ q.activator = some (list, idx) ∧ q.pleats.length = p.pleats.length ∧ ∀ x ∈ q.pleats, x.st = .staging)) ∧
    (s.begun list idx 1 3 l e → p.st = .active → p.deactivator = none →
      (p.running = false → completes (.deactivate list idx) s (entryFields ++ ([.sessions, .frames, .skips, .setSkips, .tiles, .attach, .plans] : List Field))
        fun t => t.ended list idx .ok ∧ (∀ j, j ≠ k → t.plans.find j = s.plans.find j) ∧ t.plans.find k = some { p with st := .loaded }) ∧
      (p.running = true → completes (.deactivate list idx) s (entryFields ++ ([.plans] : List Field)) fun t => (t.entryOf list idx).isSome = true ∧
        (∀ j, j ≠ k → t.plans.find j = s.plans.find j) ∧ t.plans.find k = some { p with deactivator := some (list, idx) })) ∧
    (s.begun list idx 1 5 l e →
      (p.restagers = [] → p.activator = none → (∀ x : Pleat, x ∈ p.pleats → x.st ≠ .failed ∧ x.st ≠ .staging) →
        completes (.restage list idx) s (entryFields ++ ([.plans, .segs] : List Field)) fun t => t.ended list idx p.outcome ∧
          ∃ q, t.plans.find k = some q ∧ q.pleats = p.pleats) ∧
      (up → (∃ x : Pleat, x ∈ p.pleats ∧ x.st = .failed) → completes (.restage list idx) s (entryFields ++ ([.plans, .segs] : List Field)) fun t =>
        (t.entryOf list idx).isSome = true ∧ ∃ q : Plan, t.plans.find k = some q ∧ ∀ (i : Nat) (x : Pleat), p.pleats[i]? = some x →
          ∃ y : Pleat, q.pleats[i]? = some y ∧ (x.st ≠ .failed → y = x) ∧ (x.st = .failed → y.st = .staging ∧ y.attempts = 0))))

/-- Staging (R158, R161, R170): the pleat whose last data has arrived is RESIDENT where it passes R158, and FAILED with 0x0604 where
it does not; with no pleat left to stage a STAGING plan is ACTIVE, its passes from the next line on, and its entry over. A step of
a STREAMED plan is staged once for each pass, from line b + C − D − FLASH_LEAD on. A pass starts at its line (R162 to R164): it
takes ready frames that can make its deadline, by deadline and rank, at most its capacity, and each has a lane; no other frame
changes. A step's fetch line makes its stream tag PENDING on every tile that has pleats in it (R166). The model's choices within
it: log 12. -/
def Obligations.StagingAndPassStarts : Prop :=
  ((∀ (s : State) (k : PlanId) (i : Nat) (p : Plan) (x : Pleat), s.plans.find k.val = some p → p.pleats[i]? = some x → x.st = .staging →
    x.cmds = 0 →
    let others := ∀ (j : Nat) (y : Pleat), j ≠ i → p.pleats[j]? = some y → y.st ≠ .staging
    completes (.pleatStaged k i) s (entryFields ++ ([.sessions, .frames, .tiles, .attach, .plans, .segs, .fresh] : List Field)) fun t =>
      ∃ q, t.plans.find k.val = some q ∧ (∀ j, j ≠ i → q.pleats[j]? = p.pleats[j]?) ∧
        (s.pleatOk x = true → q.pleats[i]? = some { x with st := .resident, attempts := 0 }) ∧
        (s.pleatOk x = false → q.pleats[i]? = some { x with st := .failed, cmds := 0, attempts := x.attempts + 1 } ∧
          (p.passes = .empty → p.activator = none → p.restagers = [] → s.firedOnce 0x0604 t)) ∧
        (p.st = .staging → others → q.st = .active ∧ q.firstB = s.beat.n + 1 ∧ ∀ a, p.activator = some a → t.entryOf a.1 a.2 = none)) ∧
  ∀ (s : State) (k : PlanId) (step : Nat) (p : Plan), s.plans.find k.val = some p → p.st = .active → p.streamed = true →
    step < p.steps.length → p.deactivator = none →
    let r := p.stepOf step
    let j := p.staged.get 0 step
    p.firstB + j * p.q + r.c ≤ s.beat.n + r.d + p.flashLead →
    (∀ i x, p.pleats[i]? = some x → r.first ≤ i → i < r.first + r.count → s.flashUp x.seg = true ∧ s.dram.get false x.seg = true) →
    completes (.flashStageLine k step) s [.plans, .segs, .out] fun t => ∃ q, t.plans.find k.val = some q ∧
      q.staged.get 0 step = j + 1 ∧ (∀ m, m ≠ step → q.staged.get 0 m = p.staged.get 0 m) ∧ q.started = p.started ∧
      ∀ i x, p.pleats[i]? = some x → ∃ y, q.pleats[i]? = some y ∧ (r.first ≤ i ∧ i < r.first + r.count → y.st = .staging) ∧
        (¬ (r.first ≤ i ∧ i < r.first + r.count) → y = x)) ∧
  ((∀ (s : State) (k : PlanId) (p : Plan), s.Inv → s.plans.find k.val = some p → p.st = .active → p.deactivator = none →
    let b := p.firstB + p.started * p.q
    let keys := takeCands p.capacity (s.candidates k.val p b)
    b ≤ s.beat.n → (∀ i ∈ s.wafer.regionKeys p.region, s.fencedAt i = false ∧ (s.tileOf i).task = none) → (∀ x ∈ p.pleats, x.st ≠ .failed) →
    completes (.passStart k) s [.od, .frames, .plans] fun t => keys.length ≤ p.capacity ∧
      (∀ i ∈ keys, ∃ f, s.frames.find i = some f ∧ f.ready = true ∧ f.plan = some k.val ∧ f.pass = none ∧
        (b + f.m) * 65536 ≤ f.deadline ∧ (b + p.passLen) * 65536 ≤ f.deadline ∧ (s.sessionOf f.slot).st = .opened) ∧
      (∀ i, t.frames.find i = (s.frames.find i).map fun f => if i ∈ keys then { f with pass := some (k.val, p.started) } else f) ∧
      t.cell 0x2403 1 = (s.cell 0x2403 1 + 1) % 2 ^ 64 ∧ s.otherCells [(0x2403, 1)] t ∧
      ∃ q x, t.plans.find k.val = some q ∧ q.started = p.started + 1 ∧ q.pleats = p.pleats ∧ q.passes.find p.started = some x ∧ x.b = b ∧
        x.lanes.map Lane.frame = keys ∧ x.fetched = [] ∧ x.landings = [] ∧ x.ended = false) ∧
  ∀ (s : State) (k : PlanId) (j step : Nat) (p : Plan) (q : Pass), s.plans.find k.val = some p → p.passes.find j = some q →
    q.ended = false → step ∉ q.fetched → step < p.steps.length → q.b + (p.stepOf step).c ≤ s.beat.n + (p.stepOf step).d →
    completes (.stepFetchLine k j step) s [.od, .tiles, .plans, .segs, .out, .fresh] fun t =>
      (∃ y z, t.plans.find k.val = some y ∧ y.passes.find j = some z ∧ z.fetched = q.fetched ++ [step] ∧ z.landings = q.landings ∧ z.lanes = q.lanes) ∧
      ∀ x ∈ p.pleats, x.step = step → ∀ n, s.wafer.phys (p.lx + x.rx) (p.ly + x.ry) = some n →
        (t.tileOf n).tags.find (step + 256 * (j % 2)) = some 3)

/-- A block of a resident pleat lands in its turn (R129, R167): its lines stand in the region from TAIL on, TAIL moves on, and no
other tile changes; with its last block the pleat has landed. A step's landing line (R168, R169): a lane that needs a pleat
neither landed nor failed leaves its pass, its frame over, counted in 0x2403:03; with nothing awaited on the step's tile its tag
is final: landed, or failed. A pass that ends completes the frames still in it (R209). The model's choices within it: log 23, 30. -/
def Obligations.LandingAndPassLines : Prop :=
  (∀ (s : State) (k : PlanId) (j i n m : Nat) (p : Plan) (q : Pass) (x : Pleat) (a : Awaited) (f : Nat → Nat),
    s.plans.find k.val = some p → p.passes.find j = some q → p.pleats[i]? = some x → p.nextFor x.rx x.ry = some a → a.pass = j → a.idx = i →
    x.step ∈ q.fetched → x.st = .resident → (p.streamed = true → j < p.staged.get 0 x.step) → q.state i = 0 → q.ended = false →
    s.wafer.phys (p.lx + x.rx) (p.ly + x.ry) = some n → s.dram.get false x.seg = true → s.tier1Bad = .empty → s.fencedAt n = false →
    (s.tileOf n).paused = false → (s.panelPower (keyPanel n)).stopped = false → (s.tileOf n).bad = .empty →
    m = (if s.tier1.readLe (x.tier1 + 6) 1 ≤ 1 then 16 else 32) →
    let t0 := s.tileOf n
    let g := t0.regionOf x.region
    let st := selOf g.store
    g.enable = true → g.producer = 2 → g.occ + m ≤ g.size → (t0.mem st).wf = true →
    (∀ h, h < m → t0.taskLine st (g.base + (g.tail + h) % g.size) = some (f h) ∧ t0.lineOff st (f h) = false) →
    (∀ h h', h < m → h' < m → f h = f h' → h = h') →
    completes (.blockLanded k j i []) s (entryFields ++ ([.sessions, .frames, .suspects, .tiles, .attach, .plans, .segs, .fresh] : List Field)) fun t =>
      (∀ h, h < m → (t.tileOf n).readBytes st (f h * 64) 64 = s.tier1.readBytes (x.tier1 + 64 + (q.blocks.get 0 i * m + h) * 64) 64 ∧
        (t.tileOf n).isWritten st (f h) = true) ∧ (∀ o, o ≠ n → t.tileOf o = s.tileOf o) ∧
      (q.blocks.get 0 i + 1 < s.tier1.readLe (x.tier1 + 8) 2 → (t.tileOf n).regionOf x.region = { g with
          tail := (g.tail + m) % g.size, twrap := (g.twrap + (g.tail + m) / g.size) % 65536 } ∧
        ∃ y z, t.plans.find k.val = some y ∧ y.passes.find j = some z ∧ z.state i = 0 ∧ z.blocks.get 0 i = q.blocks.get 0 i + 1) ∧
      (q.blocks.get 0 i + 1 = s.tier1.readLe (x.tier1 + 8) 2 →
        ∃ y z, t.plans.find k.val = some y ∧ y.passes.find j = some z ∧ z.state i = 1)) ∧
  ((∀ (s : State) (k : PlanId) (j step : Nat) (p : Plan) (q : Pass), s.plans.find k.val = some p → p.passes.find j = some q →
    q.ended = false → step ∉ q.landings → step ∈ q.fetched → q.b + (p.stepOf step).c ≤ s.beat.n + (p.stepOf step).a →
    let late := fun (x : Pleat) (i : Nat) => x.step = step ∧ q.needs x = true ∧ q.state i = 0
    completes (.landingLine k j step) s (entryFields ++ ([.sessions, .frames, .suspects, .tiles, .attach, .plans, .fresh] : List Field)) fun t =>
      (∃ y z, t.plans.find k.val = some y ∧ y.passes.find j = some z ∧ z.landings = q.landings ++ [step] ∧ z.fetched = q.fetched) ∧
      (∀ i x, p.pleats[i]? = some x → late x i → t.cell 0x2403 3 = (s.cell 0x2403 3 + 1) % 2 ^ 64 ∧
        ∀ l ∈ q.lanes, l.live = true → l.needs x = true → t.frames.find l.frame = none) ∧
      ((∀ i x, p.pleats[i]? = some x → ¬ late x i) →
        (∀ i ∈ s.wafer.regionKeys p.region, s.fencedAt i = false ∧ (s.tileOf i).task = none) →
        t.frames = s.frames ∧ t.det = s.det ∧ ∀ rx ry n, p.stepTiles step = [(rx, ry)] → s.wafer.phys (p.lx + rx) (p.ly + ry) = some n →
          (s.tileOf n).tags.find (step + 256 * (j % 2)) = some 3 →
          (t.tileOf n).tags.find (step + 256 * (j % 2)) = some (if (p.pleats.zipIdx.any fun y =>
            y.1.step == step && q.needs y.1 && decide (2 ≤ q.state y.2)) then 2 else 0))) ∧
  ∀ (s : State) (k : PlanId) (j : Nat) (p : Plan) (q : Pass), s.plans.find k.val = some p → p.passes.find j = some q → q.ended = false →
    q.landings.length = p.steps.length → q.b + p.passLen ≤ s.beat.n → s.suspects = [] → p.deactivator = none →
    completes (.passEnd k j) s (entryFields ++ ([.sessions, .frames, .skips, .setSkips, .tiles, .attach, .plans] : List Field)) fun t =>
      (∀ l ∈ q.lanes, l.live = true → t.frames.find l.frame = none ∧
        ∀ f, s.frames.find l.frame = some f → t.entryOf l.frame f.idx = none) ∧
      (∀ i, (∀ l ∈ q.lanes, l.live = true → l.frame ≠ i) → t.frames.find i = s.frames.find i) ∧
      ∃ y, t.plans.find k.val = some y ∧ ∀ z, y.passes.find j = some z → z.ended = true)

/-- PLOAD, TSTART and COPY of an open job (R110, R112, R121, R124, R138, R202): a program's lines stand in the W-store of every region
tile, which is resident at the grid's epoch; a stale epoch is refused with BAD_COMMAND; a task starts on every region tile, its
cores at their entry addresses or halted, with its windows and nothing queued, and the entry goes on; a copy stores the bytes of
its source at its destination. An entry that has done its work completes with its status. The model's choices within it: log 22. -/
def Obligations.GridEntries : Prop :=
  (∀ (s : State) (list idx : Nat) (l : ListRun) (e : EntryRun), s.begun list idx 0 1 l e →
    let g := e.gridRegion
    let keys := s.wafer.regionKeys g
    let off := e.field 0xC 2 * 64
    let n := e.field 0xE 2 * 64
    let src := fun i => e.field 0x10 8 + i * e.field 0x18 4
    (s.loads e = keys.zipIdx.map fun x => (x.1, src x.2)) ∧
    (s.regionConds e l.job = [] → e.restZero [(4, 2), (6, 1), (7, 1), (8, 4), (0xC, 2), (0xE, 2), (0x10, 8), (0x18, 4)] = true →
      off + n ≤ 16384 * 64 → e.field 8 4 = s.wafer.epoch.toNat → keys.Nodup → s.tier1Bad = .empty →
      (∀ i < keys.length, src i < tier1Size ∧ src i + n ≤ tier1Size ∧ (s.jobOf l.job).covers (src i) n = true) →
      (s.loadSegs e).all (fun x => s.dram.get false x) = true →
      (∀ k ∈ keys, s.inWindow k off n = false ∧ s.fencedAt k = false ∧ s.extWaits k off n = false ∧ (s.tileOf k).rangeOff off n = false ∧
        (s.tileOf k).bad = .empty ∧ (s.tileOf k).w.wf = true) →
      completes (.pload list idx) s (entryFields ++ ([.jobs, .suspects, .tiles] : List Field)) fun t => (t.entryOf list idx).isSome = true ∧
        (∀ i k, keys[i]? = some k → (t.tileOf k).readBytes .w off n = s.tier1.readBytes (src i) n ∧ (t.tileOf k).resident = true ∧
          (t.tileOf k).epoch = s.wafer.epoch.toNat) ∧ (∀ k, k ∉ keys → t.tileOf k = s.tileOf k) ∧
        t.jobOf l.job = { s.jobOf l.job with pload := some [e.field 0x10 8, e.field 0x18 4, off, n, g.lx, g.ly, g.w, g.h] } ∧
        ∀ j, j ≠ l.job → t.jobOf j = s.jobOf j) ∧
    (e.field 8 4 ≠ s.wafer.epoch.toNat → completes (.pload list idx) s entryFields fun t => t.ended list idx .badCommand)) ∧
  (∀ (s : State) (list idx : Nat) (l : ListRun) (e : EntryRun), s.begun list idx 0 2 l e →
    let keys := s.wafer.regionKeys e.gridRegion
    s.regionConds e l.job = [] → e.restZero [(4, 2), (6, 1), (7, 1), (8, 4), (0xC, 4), (0x10, 0x12), (0x28, 0x18)] = true →
    e.startBad = false → keys.Nodup → keys ≠ [] →
    (∀ k ∈ keys, (s.tileOf k).task = none ∧ s.windowMeets k e = false ∧ s.fencedAt k = false ∧ (s.tileOf k).flights = []) →
    completes (.tstart list idx) s (entryFields ++ ([.tiles] : List Field)) fun t =>
      (∃ x, t.entryOf list idx = some x ∧ x.parts = keys.length ∧ x.result = keys.length) ∧ (∀ k, k ∉ keys → t.tileOf k = s.tileOf k) ∧
      ∀ k ∈ keys,
        let x := t.tileOf k
        let begins := fun (c : CoreSt) (a : Nat) =>
          { c with pc := if a = 0xFFFFFFFF then c.pc else a, halted := decide (a = 0xFFFFFFFF), event := false }
        x.core0 = begins (s.tileOf k).core0 (e.field 8 4) ∧ x.core1 = begins (s.tileOf k).core1 (e.field 0xC 4) ∧
        x.task = some ⟨list, e.idx, l.job, none, none, 0⟩ ∧ x.queue = [] ∧ x.feeders = [] ∧ x.plane0 = none ∧ x.plane1 = none ∧
        x.wBase = e.field 0x10 2 ∧ x.wLimit = e.field 0x12 2 ∧ x.aBase = e.field 0x14 2 ∧ x.aLimit = e.field 0x16 2 ∧
        x.pBase = e.field 0x18 2 ∧ x.pLimit = e.field 0x1A 2 ∧ x.pdW = e.field 0x1C 2 ∧ x.pdA = e.field 0x1E 2 ∧ x.pdP = e.field 0x20 1 ∧
        x.viol = 0 ∧ x.viol2 = 0 ∧ x.resident = (s.tileOf k).resident ∧ x.ctxs = (s.tileOf k).ctxs) ∧
  (∀ (s : State) (list idx : Nat) (l : ListRun) (e : EntryRun), s.begun list idx 0 4 l e →
    let n := e.field 4 4
    let src := e.field 8 8
    let dst := e.field 0x10 8
    e.restZero [(4, 4), (8, 8), (0x10, 8)] = true → n % 64 = 0 → 64 ≤ n → n ≤ 2 ^ 24 → s.copyWindow dst n = false →
    s.copyConds src n l.job = [] → s.copyConds dst n l.job = [] → (s.copyKeys src dst).any s.fencedAt = false →
    (segsIn src n ++ segsIn dst n).all (fun g => s.dram.get false g) = true → s.dmaReady (segsIn src n ++ segsIn dst n) = true →
    s.copyWaits src n = false → s.copyWaits dst n = false → s.tier1Bad = .empty →
    (src < tier1Size → dst < tier1Size → completes (.copy list idx []) s (entryFields ++ ([.suspects, .tiles, .fresh] : List Field)) fun t =>
      (t.entryOf list idx).isSome = true ∧ t.tier1 = s.tier1.writeBytes dst (s.tier1.readBytes src n) ∧ t.tiles = s.tiles) ∧
    (src < tier1Size → ∀ k off st o, s.wafer.target dst = .tile k off → offStore off = some (st, o) → (s.tileOf k).bad = .empty →
      completes (.copy list idx []) s (entryFields ++ ([.suspects, .tiles, .fresh] : List Field)) fun t => (t.entryOf list idx).isSome = true ∧
        (t.tileOf k).mem st = ((s.tileOf k).mem st).writeBytes o (s.tier1.readBytes src n) ∧ (∀ j, j ≠ k → t.tileOf j = s.tileOf j) ∧
        (∀ q, q ≠ st → (t.tileOf k).mem q = (s.tileOf k).mem q) ∧ t.tier1 = s.tier1) ∧
    (dst < tier1Size → ∀ k off st o, s.wafer.target src = .tile k off → offStore off = some (st, o) → (s.tileOf k).bad = .empty →
      completes (.copy list idx []) s (entryFields ++ ([.suspects, .tiles, .fresh] : List Field)) fun t => (t.entryOf list idx).isSome = true ∧
        t.tier1 = s.tier1.writeBytes dst ((s.tileOf k).readBytes st o n) ∧ t.tiles = s.tiles)) ∧
  ∀ (s : State) (list idx : Nat) (l : ListRun) (e : EntryRun), s.lists.find list = some l → s.entryOf list idx = some e →
    l.waiting ≠ some idx → e.engine = 0 → s.suspects = [] →
    (e.op = 1 → completes (.ploadDone list idx) s entryFields fun t => t.ended list idx e.worst) ∧
    (e.op = 4 → completes (.copyDone list idx) s entryFields fun t => t.ended list idx e.worst)

/-- JOPEN and JCLOSE (R197, R200, R412): a sound JOPEN makes the descriptor's job OPEN with its key, scope, ranges and region, and its
lease begins; one that R197 refuses completes with BAD_COMMAND and opens nothing. JCLOSE ends all the job's frames, detaches and
frees its slots, frees its plans and the job itself. -/
def Obligations.Jobs : Prop :=
  (∀ (s : State) (list idx : Nat) (l : ListRun) (e : EntryRun), s.handed list idx 0 0x10 = some (l, e) →
    (s.jopenBad l e = false → completes (.jopen list idx) s (entryFields ++ ([.jobs, .leases] : List Field)) fun t => t.ended list idx .ok ∧
      t.jobOf l.job = { st := .opened, key := l.key, elastic := bit (e.field 4 1) 0, flash := bit (e.field 4 1) 1, owner := l.owner
                        region := e.jobRegion, ranges := e.ranges, fenced := false, pload := none } ∧
      (∀ j, j ≠ l.job → t.jobOf j = s.jobOf j) ∧ (0 < s.setting 0x2B01 1 →
        t.leases.find (2 * 65536 + l.job) = some (s.lineNow + s.setting 0x2B01 1 * 65536))) ∧
    (s.jopenBad l e = true → completes (.jopen list idx) s entryFields fun t => t.ended list idx .badCommand)) ∧
  ∀ (s : State) (list idx : Nat) (l : ListRun) (e : EntryRun), s.handed list idx 0 0x11 = some (l, e) → e.restZero [] = true →
    (s.jobOf l.job).st ≠ .free →
    completes (.jclose list idx) s (entryFields ++ ([.sessions, .jobs, .frames, .skips, .setSkips, .leases, .tiles, .attach, .plans, .conns,
        .wrs, .ctrs] : List Field)) fun t => t.entryOf list idx = none ∧ (t.jobOf l.job).st = .free ∧ (∀ j, j ≠ l.job → t.jobOf j = s.jobOf j) ∧
        t.leases.find (2 * 65536 + l.job) = none ∧ (∀ k p, s.plans.find k = some p → p.job = l.job → t.plans.find k = none) ∧
        (∀ i f, s.frames.find i = some f → f.job = l.job → t.frames.find i = none) ∧
        (∀ k, (s.sessionOf k).job = l.job → (t.sessionOf k).st = .free) ∧
        ∀ k a, s.attach.find k = some a → a.job = l.job → t.attach.find k = none

/-- The entries of the TAILOR engine (R205, R219, R220, R222, R223, R239, R240): TATTACH keeps the attachment and gives every region
tile a fresh context, whose scan ends it; TDETACH takes records, contributions, contexts and the pending reward away; TCLEAR
writes the table to zero; TREWARD waits for its broadcast, and a second one is added to the first. -/
def Obligations.TailorEntries : Prop :=
  (∀ (s : State) (list idx : Nat) (l : ListRun) (e : EntryRun), s.begun list idx 3 1 l e →
    let slot := e.field 4 2
    let a : Attach :=
      { threeFactor := e.field 6 1 == 1, ruleset := e.field 7 1, region := regionFrom (e.field 8 2) (e.field 0xA 1) (e.field 0xB 1)
        wbase := e.field 0xC 2, wlimit := e.field 0xE 2, budget := e.field 0x10 2, errX := bits (e.field 0x12 2) 6 0
        errY := bits (e.field 0x12 2) 14 8, job := l.job, reward := none }
    let keys := s.wafer.regionKeys a.region
    s.attachBad e a = false → s.slotForeign slot l.job = false → a.region.inside (s.jobOf l.job).region = true →
    (a.threeFactor = false → (s.jobOf l.job).region.has a.errX a.errY = true) → keys.any s.fencedAt = false →
    completes (.tattach list idx) s (entryFields ++ ([.tiles, .attach] : List Field)) fun t => (t.entryOf list idx).isSome = true ∧
      t.attach = s.attach.set slot a ∧ (∀ k, k ∉ keys → t.tileOf k = s.tileOf k) ∧
      ∀ k ∈ keys, t.tileOf k = { s.tileOf k with ctxs := (s.tileOf k).ctxs.set slot ⟨0, 0, 0, [], false⟩ }) ∧
  (∀ (s : State) (list idx k : Nat) (l : ListRun) (e : EntryRun) (a : Attach) (c : Ctx), s.lists.find list = some l →
    s.entryOf list idx = some e → l.waiting ≠ some idx → e.engine = 3 → e.op = 1 → s.attach.find (e.field 4 2) = some a →
    s.wafer.regionKeys a.region = [k] → (s.tileOf k).ctxs.find (e.field 4 2) = some c → (s.tileOf k).bad = .empty → s.suspects = [] →
    let tab := (s.tileOf k).synapses a a.budget
    completes (.tattachScanDone list idx) s (entryFields ++ ([.suspects, .tiles] : List Field)) fun t => t.ended list idx e.worst ∧
      s.tileBecomes k { s.tileOf k with ctxs := (s.tileOf k).ctxs.set (e.field 4 2) ⟨0, countValid tab, highValid tab, [], true⟩ } t) ∧
  ∀ (s : State) (list idx : Nat) (l : ListRun) (e : EntryRun) (a : Attach),
    let slot := e.field 4 2
    slot < 4096 → s.attach.find slot = some a → s.slotForeign slot l.job = false → s.suspects = [] →
    (∀ r, a.reward = some r → (list, idx) ∉ r.entries) →
    (s.begun list idx 3 2 l e → e.restZero [(4, 2)] = true →
      completes (.tdetach list idx) s (entryFields ++ ([.tiles, .attach] : List Field)) fun t => t.ended list idx .ok ∧ t.attach.find slot = none ∧
        (∀ j, j ≠ slot → t.attach.find j = s.attach.find j) ∧ (∀ r, a.reward = some r → ∀ x ∈ r.entries, t.entryOf x.1 x.2 = none) ∧
        ∀ k, (t.tileOf k).ctxs.find slot = none ∧ (∀ r ∈ (t.tileOf k).evq, r.slot ≠ slot) ∧ (∀ c ∈ (t.tileOf k).contribs, c.slot ≠ slot) ∧
          ∀ j, j ≠ slot → (t.tileOf k).ctxs.find j = (s.tileOf k).ctxs.find j) ∧
    (s.begun list idx 3 4 l e → e.restZero [(4, 2)] = true →
      ∀ k c, s.wafer.regionKeys a.region = [k] → (s.tileOf k).ctxs.find slot = some c → (s.tileOf k).bad = .empty → (s.tileOf k).w.wf = true →
      completes (.tclear list idx) s (entryFields ++ ([.suspects, .tiles, .attach] : List Field)) fun t => t.ended list idx .ok ∧
        t.attach.find slot = some { a with reward := none } ∧ (t.tileOf k).ctxs.find slot = some ⟨0, 0, 0, [], true⟩ ∧
        (t.tileOf k).readBytes .w (a.wbase * 64) (a.budget * 16) = List.replicate (a.budget * 16) 0#8 ∧
        ∀ r ∈ (t.tileOf k).evq, r.slot ≠ slot) ∧
    (s.begun list idx 3 3 l e → e.restZero [(4, 2), (6, 2)] = true → a.threeFactor = true →
      completes (.treward list idx) s (entryFields ++ ([.attach] : List Field)) fun t => (t.entryOf list idx).isSome = true ∧
        (∀ j, j ≠ slot → t.attach.find j = s.attach.find j) ∧
        (a.reward = none → t.attach.find slot = some { a with reward := some ⟨signed 16 (e.field 6 2), [(list, idx)],
          s.rewardLine (s.sessionOf slot).p (s.sessionOf slot).phase s.lineNow⟩ }) ∧
        ∀ r, a.reward = some r → t.attach.find slot = some { a with reward := some { r with
          value := r.value + signed 16 (e.field 6 2), entries := r.entries ++ [(list, idx)] } })

/-- The oldest record of a tile is processed whole (R225, R228 to R242): a PRE schedules its synapses' weights and enters the
recent-pre list; a POST moves traces and delays and makes synapses within the budget; an ERROR updates its post's synapses, a
REWARD all; a STEP delivers what is due to the area's lines, header last, decays every trace and moves the step on. Held ERRORs
and due rewards reach their tiles' queues. The model's choices within it: log 31. -/
def Obligations.TailorRecords : Prop :=
  (∀ (s : State) (t : PhysTile) (r : EvRec) (c : Ctx) (a : Attach), (s.tileOf (tileKey t)).bad = .empty →
    let k := tileKey t
    let old := (s.tileOf k).synapses a c.high
    let lw := s.setting 0x2610 (a.ruleset + 1)
    let sw := s.setting 0x2611 (a.ruleset + 1)
    let fs : List Field := [.od, .det, .log, .logMade, .faultBuffer, .suspects, .tiles]
    let counted := fun (u : State) => u.cell 0x2600 1 = (s.cell 0x2600 1 + 1) % 2 ^ 64
    (s.processes k 1 r c a →
      let hits := old.filter fun x => x.valid && x.pre == r.index
      (s.tileOf k).contribs.length + hits.length ≤ 4096 → completes (.tailorPre t) s fs fun u => counted u ∧
        s.processed k r a old (old.map fun x => if x.valid && x.pre == r.index then { x with lastpre := c.s, preseen := true } else x)
          { c with recent := ((r.index, c.s) :: c.recent.filter fun p => p.1 != r.index).take 32 } u ∧
        (u.tileOf k).contribs = (s.tileOf k).contribs ++ hits.map fun x => ⟨r.slot, x.post, x.weight, (c.s + x.delay) % 65536⟩) ∧
    (s.processes k 2 r c a →
      let moved := old.map fun x => if x.valid && x.post == r.index && x.preseen then x.onPost lw sw c.s else x
      let cands := if bits sw 7 0 = 0 then [] else c.recent.filter fun p =>
        decide (stepDiff c.s p.2 ≤ bits sw 7 0) && !old.any fun x => x.valid && x.pre == p.1 && x.post == r.index
      completes (.tailorPost t) s fs fun u => counted u ∧
        s.processed k r a old (createAll a.budget r.index c.s lw sw cands moved).1 c u ∧
        u.cell 0x2600 6 = (s.cell 0x2600 6 + (createAll a.budget r.index c.s lw sw cands moved).2.1) % 2 ^ 64) ∧
    (s.processes k 3 r c a → completes (.tailorError t) s fs fun u => counted u ∧
      s.processed k r a old (old.map fun x => if x.valid && x.post == r.index then x.update (signed 16 r.value) lw sw else x) c u) ∧
    (s.processes k 5 r c a → completes (.tailorReward t) s fs fun u => counted u ∧
      s.processed k r a old (old.map fun x => if x.valid then x.update (signed 16 r.value) lw sw else x) c u) ∧
    (s.processes k 4 r c a →
      let due := (s.tileOf k).contribs.filter fun x => x.slot == r.slot && x.due == c.s
      let n := bits r.value 6 0
      let line := (s.tileOf k).aBase + bits r.index 11 0
      line + n < (s.tileOf k).aLimit → (∀ i, i ≤ n → (s.tileOf k).lineOff .a (line + i) = false) → (s.tileOf k).a.wf = true →
      let good := due.filter fun x => decide (x.post < 32 * n)
      completes (.tailorStep t) s fs fun u => counted u ∧
        s.processed k r a old (old.map fun x => if x.valid then { x with trace := x.trace - x.trace / (2 ^ bits lw 7 4 : Int) } else x)
          { c with s := (c.s + 1) % 65536 } u ∧
        (u.tileOf k).contribs = (s.tileOf k).contribs.filter (fun x => !(x.slot == r.slot && x.due == c.s)) ∧
        (u.tileOf k).readBytes .a (line * 64) 8 = natLe 2 c.s ++ natLe 2 r.slot ++ natLe 2 (min good.length 0xFFFF) ++
          natLe 2 (min (due.length - good.length) 0xFFFF) ∧
        ∀ p, p < 32 * n → (u.tileOf k).readBytes .a ((line + 1) * 64 + 2 * p) 2 =
          natLe 2 (unsigned 16 (sat16 ((good.filter fun x => x.post == p).map fun x => x.weight).sum)))) ∧
  (∀ (s : State) (src dst : PhysTile) (r : EvRec × List Nat), tileKey src ≠ tileKey dst →
    (s.tileOf (tileKey src)).feedback.find? (fun r => r.2.contains (tileKey dst)) = some r → s.fencedAt (tileKey dst) = false →
    (s.tileOf (tileKey dst)).evq.length < 64 → (s.tileOf (tileKey dst)).evWait = [] → (s.tileOf (tileKey dst)).paused = false →
    completes (.feedbackDelivery src dst) s [.tiles] fun t =>
      t.tileOf (tileKey dst) = { s.tileOf (tileKey dst) with evq := (s.tileOf (tileKey dst)).evq ++ [r.1] } ∧
      (∃ a b, (s.tileOf (tileKey src)).feedback = a ++ r :: b ∧ (∀ x ∈ a, tileKey dst ∉ x.2) ∧ t.tileOf (tileKey src) =
        { s.tileOf (tileKey src) with
          feedback := (a ++ (r.1, r.2.filter fun y => y != tileKey dst) :: b).filter fun x => x.2 != [] }) ∧ ∀ k, k ≠ tileKey src → k ≠ tileKey dst → t.tileOf k = s.tileOf k) ∧
  ∀ (s : State) (slot : Nat) (a : Attach) (w : Reward), s.rewardsDue = [slot] → s.rewardN ≠ s.beat.n → s.attach.find slot = some a →
    a.reward = some w → s.suspects = [] → (s.wafer.regionKeys a.region).Nodup →
    completes .rewardBroadcast s (entryFields ++ ([.tiles, .attach, .rewardN, .rewardSent] : List Field)) fun t => t.rewardN = s.beat.n ∧
      t.attach.find slot = some { a with reward := none } ∧ t.cell 0x2600 0xB = (s.cell 0x2600 0xB + 1) % 2 ^ 64 ∧
      (∀ x ∈ w.entries, t.entryOf x.1 x.2 = none) ∧
      ∀ k, t.tileOf k = if k ∈ s.wafer.regionKeys a.region ∧ s.fencedAt k = false
        then (s.tileOf k).evArrive ⟨5, slot, 0, unsigned 16 (sat16 w.value)⟩ else s.tileOf k

/-- A new request that nothing refuses is applied (R263 to R267, R269, R272, R275): a SEND's payload stands in the posted buffer at
its offset, and the message's last bytes end its RECV; a WRITE's stands at its address, or lands at TAIL; a read or atomic answers
with the bytes that were there and keeps the answer in the response cache; its PSN counts as received and its credit returns before the answer is formed (R260). A TAGGED WRITE steps its counter; a landing that its region has no room for
stays in progress, its credit kept (R129, R264). A held frame is applied once nothing holds it. -/
def Obligations.OraRequests : Prop :=
  (∀ (s : State) (port : Option PortRx) (fr : OraFrame) (c : Conn), s.takesRequest c fr → s.tier1Bad = .empty →
    let id := fr.dstConn.toNat
    let a := fr.addr.toNat
    let op1 := fr.operand1.toNat
    let fs := entryFields ++ ([.hostA, .hostB, .frames, .can, .absentEmcy, .suspects, .tiles, .conns, .wrs, .ctrs, .ports, .nodes] : List Field)
    let rc := c.rcache + (if c.cache.length < 64 then c.cache.length else c.cache.head?.elim 0 (·.slot)) * 4096
    let c1 := { c with granted := (c.granted + frCost fr) % 2 ^ 32 }
    (s.frameIn port fr 1 c → ∀ r, c.recvs = [r] → frTagged fr = false → s.copyTile (r.addr + a) = none → s.copyWaits r.statusAt 8 = false →
      completes (.oraSendFrame port fr) s fs fun t => t.hasServed c id fr ∧
        (r.placed + fr.length.toNat < op1 / 2 ^ 32 → t.tier1 = s.tier1.writeBytes (r.addr + a) fr.payload ∧
          ∃ x, t.conns.find id = some x ∧ x.recvs = [{ r with placed := r.placed + fr.length.toNat, total := some (op1 / 2 ^ 32) }]) ∧
        (op1 / 2 ^ 32 ≤ r.placed + fr.length.toNat → r.done = false → r.lctr = none → t.entryOf r.list r.idx = none ∧
          ∃ x, t.conns.find id = some x ∧ x.recvs = [])) ∧
    (s.frameIn port fr 2 c →
      (s.copyTile a = none → completes (.oraWriteFrame port fr) s fs fun t => t.hasServed c id fr ∧
        (frTagged fr = false → t.tier1 = s.tier1.writeBytes a fr.payload) ∧
        (frTagged fr = true → ∀ q, s.ctrs.find fr.tag.toNat = some q →
          t.ctrs.find fr.tag.toNat = some { q with value := (q.value + 1) % 2 ^ 32 })) ∧
      ∀ k off, s.copyTile a = some (k, off) → frTagged fr = false →
        (∀ st o, offStore off = some (st, o) → (s.tileOf k).bad = .empty → (s.tileOf k).landingAt off = none →
          completes (.oraWriteFrame port fr) s fs fun t => t.hasServed c id fr ∧
            s.tileBecomes k ((s.tileOf k).writeBytes st o fr.payload) t) ∧
        (∀ st r g u, (s.tileOf k).landingAt off = some (st, r, g) → fr.length.toNat = 64 →
          (s.tileOf k).landLine st r fr.payload true = .landed u →
          completes (.oraWriteFrame port fr) s fs fun t => t.hasServed c id fr ∧ s.tileBecomes k u t) ∧
        (∀ st r g, (s.tileOf k).landingAt off = some (st, r, g) → fr.length.toNat = 64 →
          (s.tileOf k).landLine st r fr.payload true = .waits →
          completes (.oraWriteFrame port fr) s fs fun t => ∃ x, t.conns.find id = some x ∧ x.landing = some (fr, 0) ∧
            x.granted = c.granted)) ∧
    (s.copyTile a = none →
      (s.frameIn port fr 3 c → completes (.oraReadReqFrame port fr) s fs fun t => t.hasServed c id fr ∧
        let bs := s.tier1.readBytes a op1
        t.tier1 = s.tier1.writeBytes rc bs ∧ t.queued (t.route c) c.cls id
          { s.baseFrame id 4 c1 with psn := fr.psn, length := BitVec.ofNat 16 op1, payload := bs }) ∧
      let old := s.tier1.readBytes a 8
      let answer := { s.baseFrame id 7 c1 with psn := fr.psn, operand1 := BitVec.ofNat 64 (leNat old) }
      (s.frameIn port fr 5 c → completes (.oraFaddFrame port fr) s fs fun t => t.hasServed c id fr ∧
        t.tier1 = (s.tier1.writeBytes a (natLe 8 (leNat old + op1))).writeBytes rc old ∧ t.queued (t.route c) c.cls id answer) ∧
      (s.frameIn port fr 6 c → completes (.oraCasFrame port fr) s fs fun t => t.hasServed c id fr ∧
        t.tier1 = (if leNat old = op1 then s.tier1.writeBytes a (natLe 8 fr.operand2.toNat) else s.tier1).writeBytes rc old ∧
        t.queued (t.route c) c.cls id answer))) ∧
  ∀ (s : State) (conn : ConnId) (c : Conn) (f : OraFrame), s.conns.find conn.val = some c → c.st = .opened → s.heldNext c = some f →
    (∀ r ∈ c.late, ∃ o, c.answeredBy r = some o ∧ s.respWaits o r = true) → (c.recvs.find? fun r => !r.done).any s.recvReady = false →
    c.landing = none → s.tier1Bad = .empty → s.syndrome c f = 0 → f.opcode.toNat = 2 → s.copyTile f.addr.toNat = none → frTagged f = false →
    completes (.heldFrameApply conn) s (entryFields ++ ([.frames, .suspects, .tiles, .conns, .wrs, .ctrs, .ports] : List Field)) fun t =>
      t.tier1 = s.tier1.writeBytes f.addr.toNat f.payload ∧ ∃ x, t.conns.find conn.val = some x ∧
        x.granted = (c.granted + frCost f) % 2 ^ 32 ∧ x.held = c.held.filter fun h => h.psn != f.psn

/-- A frame that answers (R260, R261, R265, R266, R273, R276, R277): a response's bytes go to its request's LOCAL and settle its PSN;
while LOCAL waits the response is kept (R121), and a LOCAL that may no longer be written ends the request (R137, R221); an ACK settles the SENDs and WRITEs that its APSN and bitmap cover; a NAK begins an RNR interval, puts the connection in ERROR and
ends its work, or settles its PSN and refuses its request; a CREDIT's limit is taken, and one with SOLICIT is answered. The
model's choices within it: log 34. -/
def Obligations.OraReplies : Prop :=
  ∀ (s : State) (port : Option PortRx) (fr : OraFrame) (c : Conn),
    let id := fr.dstConn.toNat
    let p := fr.psn.toNat
    let fs := entryFields ++ ([.hostA, .hostB, .frames, .can, .absentEmcy, .suspects, .tiles, .conns, .wrs, .ctrs, .ports, .nodes] : List Field)
    let gs := entryFields ++ ([.hostA, .hostB, .frames, .can, .absentEmcy, .conns, .wrs, .ctrs, .ports, .nodes] : List Field)
    (∀ o w (ci : Instr), s.awaits c p o w → (s.copyKeys (w.loc + o.off) (w.loc + o.off)).any s.fencedAt = false →
      (s.frameIn port fr 4 c ∧ o.op = 3 ∧ o.len = fr.length.toNat ∧ ci = .oraReadRespFrame port fr) ∨
        (s.frameIn port fr 7 c ∧ (o.op = 5 ∨ o.op = 6) ∧ ci = .oraAtomicRespFrame port fr) →
      let a := w.loc + o.off
      let d := if fr.opcode.toNat = 4 then fr.payload else natLe 8 fr.operand1.toNat
      (s.copyWaits a d.length = true → completes ci s fs fun t => ∃ x, t.conns.find id = some x ∧ x.outs = c.outs ∧ fr ∈ x.late) ∧
      (s.copyWaits a d.length = false → s.localBad a d.length true = false → completes ci s fs fun t =>
        s.answered t o w a d ∧ t.outsBut c id (· = p)) ∧
      (s.copyWaits a d.length = false → s.localBad a d.length true = true → completes ci s fs fun t =>
        t.outsBut c id (· = p) ∧ (w.open_ = 1 → t.entryOf w.list w.idx = none))) ∧
    (psnDist (fr.apsn.toNat % 2 ^ 24) (psnAdd c.nextPsn (2 ^ 24 - 1)) ≤ 0 →
      (s.frameIn port fr 8 c → completes (.oraAckFrame port fr) s gs fun t => t.outsBut c id (ackHits c fr) ∧
        ∀ q o w, ackHits c fr q → s.awaits c q o w → w.open_ = 1 → w.len ≤ w.sent → t.entryOf w.list w.idx = none) ∧
      ∀ o w, s.frameIn port fr 9 c → s.awaits c p o w →
        let syn := fr.apsn.toNat / 2 ^ 24
        completes (.oraNakFrame port fr) s gs fun t =>
          (syn = 3 → ∃ x, t.conns.find id = some x ∧ x.st = .opened ∧ x.outs.find p = some { o with rnrAt := some s.now }) ∧
          (syn = 4 ∨ syn = 6 ∨ syn = 7 → (∃ x, t.conns.find id = some x ∧ x.st = .error ∧ x.outs = .empty ∧ x.sendq = []) ∧
            (∀ r ∈ c.recvs, r.done = false → t.entryOf r.list r.idx = none) ∧
            ∀ i v, s.wrs.find i = some v → v.conn = id → v.op ≠ 11 → t.entryOf v.list v.idx = none) ∧
          (syn ≠ 3 → syn ≠ 4 → syn ≠ 6 → syn ≠ 7 → t.outsBut c id (fun q => ackHits c fr q ∨ q = p) ∧
            (w.open_ = 1 → t.entryOf w.list w.idx = none))) ∧
    (s.frameIn port fr 10 c → completes (.oraCreditFrame port fr) s [.hostA, .hostB, .cq, .pba, .tier1, .granules, .tier1Bad, .od, .can,
        .det, .log, .logMade, .faultBuffer, .absentEmcy, .segCtr, .conns, .ports, .nodes, .out] fun t =>
      (∃ x, t.conns.find id = some x ∧ x.lp = (c.creditIn fr.credit.toNat).lp ∧ x.granted = c.granted) ∧
      (frSolicit fr = true → t.queued (t.route c) c.cls id (s.baseFrame id 10 c)))

/-- A connection's own transmissions (R259 to R262, R273, R274, R277): the head of its send queue takes the next PSN and sends its
next frame, or begins to wait for credit; the timer sends what nothing covers again, and past the retry limit the connection has
failed; a due ACK or CREDIT leaves; a wait for credit asks for it; a PSN refused with RNR is sent again after its interval. The
model's choices within it: log 33. -/
def Obligations.OraTimers : Prop :=
  ∀ (s : State) (conn : ConnId) (c : Conn), s.conns.find conn.val = some c → c.st = .opened →
    let id := conn.val
    let fs := entryFields ++ ([.frames, .suspects, .tiles, .conns, .wrs, .ctrs, .ports] : List Field)
    (∀ wid w, s.sendsNext c wid w →
      let o : OutPsn := ⟨wid, wrOpcode w.op, w.sent, s.nextLen w, decide (w.len ≤ w.sent + s.nextLen w), none⟩
      (c.hasCredit (s.nextCost w) = true → s.plainSource o w → completes (.oraRequestSend conn) s fs fun t =>
        (∃ x, t.conns.find id = some x ∧ x.outs.find c.nextPsn = some o ∧ (∀ q, q ≠ c.nextPsn → x.outs.find q = c.outs.find q) ∧
          x.nextPsn = psnAdd c.nextPsn 1 ∧ x.used = (c.used + s.nextCost w) % 2 ^ 32 ∧ x.creditAt = none) ∧
        (∃ y, t.wrs.find wid = some y ∧ y.sent = w.sent + s.nextLen w ∧ y.open_ = w.open_ + 1) ∧
        ∃ f, t.queued (s.route c) c.cls id f ∧
          s.carries c id c.nextPsn o { w with msn := if w.op = 3 ∧ w.sent = 0 then c.sendMsn else w.msn } f) ∧
      (c.hasCredit (s.nextCost w) = false → c.creditAt = none → completes (.oraRequestSend conn) s [.od, .conns] fun t =>
        t.conns.find id = some { c with creditAt := some s.now } ∧ t.cell 0x2702 0xB = (s.cell 0x2702 0xB + 1) % 2 ^ 64 ∧
        s.otherCells [(0x2702, 0xB)] t)) ∧
    (∀ at_, c.timerAt = some at_ →
      (∀ p o w, c.retries + 1 ≤ s.setting 0x2701 4 → c.order = [p] → s.awaits c p o w → o.rnrAt = none → s.plainSource o w →
        completes (.retransmitTimeout conn) s (.now :: fs) fun t => t.now = max s.now at_ ∧
          (∃ x, t.conns.find id = some x ∧ x.retries = c.retries + 1 ∧ x.outs = c.outs ∧
            x.timerAt = some (t.now + s.setting 0x2701 3 * psUs)) ∧
          ∃ f, t.queued (s.route c) c.cls id f ∧ s.carries c id p o w f) ∧
      (s.setting 0x2701 4 ≤ c.retries → (s.jobOf c.job).st = .opened →
        completes (.retransmitTimeout conn) s (fs ++ ([.now, .sessions, .hostA, .hostB, .jobs, .attach, .plans] : List Field)) fun t =>
          t.now = max s.now at_ ∧ (∃ x, t.conns.find id = some x ∧ x.outs = .empty ∧ x.timerAt = none ∧
            x.st = if (s.jobOf c.job).elastic then .error else .opened) ∧
          ((s.jobOf c.job).elastic = true → t.jobs = s.jobs) ∧
          ((s.jobOf c.job).elastic = false → (t.jobOf c.job).st = .aborted))) ∧
    (∀ at_, c.ackAt = some at_ → completes (.ackDelayExpiry conn) s [.now, .od, .conns, .ports] fun t => t.now = max s.now at_ ∧
      (∃ x, t.conns.find id = some x ∧ x.ackAt = none ∧ x.sinceAck = 0) ∧
      (0 < c.sinceAck → t.queued (s.route c) c.cls id
        { s.baseFrame id 8 c with apsn := BitVec.ofNat 32 c.apsn, operand1 := BitVec.ofNat 64 c.bitmap }) ∧
      (c.sinceAck = 0 → c.creditDue = true → t.queued (s.route c) c.cls id (s.baseFrame id 10 c))) ∧
    (∀ at_ wid w, c.creditAt = some at_ → c.sendq.head? = some wid → s.wrs.find wid = some w → c.hasCredit (s.nextCost w) = false →
      completes (.creditProbe conn) s [.now, .od, .conns, .ports] fun t => t.now = max s.now (at_ + s.setting 0x2701 6 * psUs) ∧
        (∃ x, t.conns.find id = some x ∧ x.creditAt = some t.now) ∧
        t.queued (s.route c) c.cls id { s.baseFrame id 10 c with flags := 4 }) ∧
    ∀ (p : BitVec 24) at_ o w, s.awaits c p.toNat o w → o.rnrAt = some at_ → s.plainSource o w →
      completes (.rnrRetry conn p) s (.now :: fs) fun t => t.now = max s.now (at_ + s.setting 0x2701 5 * psUs) ∧
        (∃ x, t.conns.find id = some x ∧ x.outs.find p.toNat = some { o with rnrAt := none }) ∧
        ∃ f, t.queued (s.route c) c.cls id f ∧ s.carries c id p.toNat o w f

/-- Entries of the REMOTE engine (R255, R257, R262 to R266, R269 to R271, R278): CONNECT opens a connection and sends its allowance,
DISCONNECT ends its work and frees it; a work request is posted, or waits on its counter; RECV posts a buffer for the next message
number; CTRSET sets a counter and fires what waits on it, CTRFREE ends what waits; TREADY readies the oldest unready frame of its
slot once its counter has reached the threshold. The model's choices within it: log 35. -/
def Obligations.RemoteEntries : Prop :=
  ∀ (s : State) (list idx : Nat) (l : ListRun) (e : EntryRun),
    (∀ (c : Instr) (n : Nat),
      (c = .remoteSend list idx ∧ s.begun list idx 2 3 l e ∧ n = e.rlen ∧ lenBad e.rlen = false ∧
        s.mayPost l e 0xF n false [(4, 2), (6, 1), (8, 8), (0x18, 4), (0x1C, 2), (0x1E, 2), (0x20, 2), (0x24, 4)]) ∨
      (c = .remoteWrite list idx ∧ s.begun list idx 2 5 l e ∧ n = e.rlen ∧ lenBad e.rlen = false ∧
        s.mayPost l e 0xF n false [(4, 2), (6, 1), (8, 8), (0x10, 8), (0x18, 4), (0x1C, 2), (0x1E, 2), (0x20, 2), (0x24, 4)]) ∨
      (c = .remoteRead list idx ∧ s.begun list idx 2 6 l e ∧ n = e.rlen ∧ lenBad e.rlen = false ∧
        s.mayPost l e 0xC n true [(4, 2), (6, 1), (8, 8), (0x10, 8), (0x18, 4), (0x1E, 2), (0x20, 2), (0x24, 4)]) ∨
      (c = .remoteFadd list idx ∧ s.begun list idx 2 7 l e ∧ n = 8 ∧ e.rem % 8 = 0 ∧
        s.mayPost l e 0xC n true [(4, 2), (6, 1), (8, 8), (0x10, 8), (0x1E, 2), (0x20, 2), (0x24, 4), (0x28, 8)]) ∨
      (c = .remoteCas list idx ∧ s.begun list idx 2 8 l e ∧ n = 8 ∧ e.rem % 8 = 0 ∧
        s.mayPost l e 0xC n true [(4, 2), (6, 1), (8, 8), (0x10, 8), (0x1E, 2), (0x20, 2), (0x24, 4), (0x28, 8), (0x30, 8)]) →
      completes c s (entryFields ++ ([.frames, .conns, .wrs, .nextWr] : List Field)) fun t => s.posted t (e.workOf list idx l.job n)) ∧
    (s.begun list idx 2 4 l e → s.contextFree (some e.conn) = true →
      e.restZero [(4, 2), (6, 1), (8, 8), (0x18, 4), (0x1E, 2), (0x28, 8)] = true → lenBad e.rlen = false → e.op1 % 8 = 0 →
      s.connConds e.conn l.job = [] → s.flagConds e l.job 8 = [] → s.localConds e.loc e.rlen l.job true = [] →
      s.localConds e.op1 8 l.job true = [] →
      completes (.remoteRecv list idx) s (entryFields ++ ([.conns] : List Field)) fun t => (t.entryOf list idx).isSome = true ∧
        ∀ i, t.conns.find i = (s.conns.find i).map fun c => if i = e.conn then { c with
          recvs := c.recvs ++ [⟨list, idx, e.loc, e.rlen, e.op1, if e.isCounted then some e.lctr else none, c.nextMsn, 0, none, false, false⟩]
          nextMsn := c.nextMsn + 1 } else c) ∧
    (s.begun list idx 2 1 l e → e.connectBad = false → s.conns.find e.conn = none →
      (e.field 6 1 = 1 → (s.jobOf l.job).covers (e.field 0x18 8) 0x41000 = true) →
      let c := e.connOf l.job
      completes (.remoteConnect list idx) s (entryFields ++ ([.conns, .ports] : List Field)) fun t => t.ended list idx .ok ∧
        t.conns.find e.conn = some { c with carried := c.granted } ∧ (∀ i, i ≠ e.conn → t.conns.find i = s.conns.find i) ∧
        t.queued (s.route c) c.cls e.conn (s.baseFrame e.conn 10 c)) ∧
    (s.begun list idx 2 2 l e → e.restZero [(4, 2)] = true → ∀ c, s.conns.find e.conn = some c → c.job = l.job →
      completes (.remoteDisconnect list idx) s (entryFields ++ ([.frames, .conns, .wrs, .ctrs] : List Field)) fun t => t.entryOf list idx = none ∧
        t.conns.find e.conn = none ∧ (∀ i, i ≠ e.conn → t.conns.find i = s.conns.find i) ∧
        (∀ r ∈ c.recvs, r.done = false → t.entryOf r.list r.idx = none) ∧
        ∀ i w, s.wrs.find i = some w → w.conn = e.conn → w.op ≠ 11 → t.entryOf w.list w.idx = none) ∧
    (s.begun list idx 2 9 l e → e.restZero [(0x20, 2), (0x28, 4)] = true → e.tctr < 8192 →
      (∀ q, s.ctrs.find e.tctr = some q → q.job = l.job) →
      completes (.ctrset list idx) s (entryFields ++ ([.frames, .conns, .wrs, .ctrs] : List Field)) fun t => t.entryOf list idx = none ∧
        t.ctrs = s.ctrs.set e.tctr ⟨l.job, e.op1⟩ ∧ ((∀ i w, s.wrs.find i = some w → w.op ≠ 11) → ∀ i w, s.wrs.find i = some w →
          w.waiting = true → w.tctr = e.tctr → triggerMet e.op1 w.thresh = true → (s.entryOf w.list w.idx).isSome = true →
          t.wrs.find i = some { w with waiting := false })) ∧
    (s.begun list idx 2 0xA l e → e.restZero [(0x20, 2)] = true → s.ctrConds e.tctr l.job true = [] →
      completes (.ctrfree list idx) s (entryFields ++ ([.frames, .conns, .wrs, .ctrs] : List Field)) fun t => t.entryOf list idx = none ∧
        t.ctrs = s.ctrs.erase e.tctr ∧ ∀ i w, s.wrs.find i = some w → w.waiting = true → w.tctr = e.tctr →
          t.entryOf w.list w.idx = none) ∧
    (s.begun list idx 2 0xB l e → s.contextFree none = true → e.restZero [(6, 1), (0x20, 2), (0x22, 2), (0x24, 4)] = true →
      e.rflags = 4 → bits e.tslot 14 12 = 0 → bit e.tslot 15 = false → s.ctrConds e.tctr l.job true = [] →
      s.readyForeign e.tslot l.job = false →
      let w := e.workOf list idx l.job 0
      completes (.tready list idx) s (entryFields ++ ([.frames, .conns, .wrs, .nextWr] : List Field)) fun t => t.conns = s.conns ∧
        (¬ s.triggeredNow w → t.wrs.find s.nextWr = some w ∧ t.frames = s.frames) ∧
        (s.triggeredNow w → t.entryOf list idx = none ∧ ∀ i f, (s.sessionOf (bits e.tslot 11 0)).st = .opened →
          (s.framesOf (bits e.tslot 11 0)).find? (fun k => (s.frames.find k).any fun y => !y.ready) = some i →
          s.frames.find i = some f → t.frames.find i = some { f with ready := true }))

/-- The network ports (R254, R282 to R287, R290, R291, R293 to R298): a link's rise and fall, its enable and mode; control frames and
frames that fail a check are counted and go; the highest class whose frame may start sends it and is charged; a node's entry
expires, is flushed or made STATIC; a shaper's rate or burst keeps the level within the burst. The model's choices within it: log
32. -/
def Obligations.Ports : Prop :=
  (∀ (s : State) (port : PortId), let p := port.val
    let x := s.portOf p
    let fs : List Field := [.od, .det, .log, .logMade, .faultBuffer]
    let counted := fun (c : Instr) (sub det : Nat) => completes c s fs fun t => s.firedOnce det t ∧
      t.cell (0x2820 + p) sub = (s.cell (0x2820 + p) sub + 1) % 2 ^ 64 ∧ s.otherCells [(0x2820 + p, sub)] t
    let long := fun (c : Instr) => completes c s [.od] fun t => t.cell (0x2820 + p) 0xB = (s.cell (0x2820 + p) 0xB + 1) % 2 ^ 64 ∧
      s.otherCells [(0x2820 + p, 0xB)] t
    let gone := fun (fr : EthFrame) (subs : List (Nat × Nat)) (q : State → Prop) => completes (.receivedFrameDiscard port fr) s fs fun t =>
      (∀ e ∈ subs, t.cell e.1 e.2 = (s.cell e.1 e.2 + 1) % 2 ^ 64) ∧ t.cell (0x2820 + p) 6 = (s.cell (0x2820 + p) 6 + fr.fecFixed) % 2 ^ 64 ∧
      t.cell (0x2820 + p) 7 = (s.cell (0x2820 + p) 7 + fr.fecBad) % 2 ^ 64 ∧ q t
    let drops := fun (fr : EthFrame) (sub det : Nat) => gone fr [(0x2820 + p, sub)] fun t => s.firedOnce det t ∧
      s.otherCells [(0x2820 + p, sub), (0x2820 + p, 6), (0x2820 + p, 7)] t
    let gs : List Field := [.hostA, .hostB, .cq, .pba, .tier1, .granules, .tier1Bad, .od, .can, .det, .log, .logMade, .faultBuffer,
      .absentEmcy, .segCtr, .ports, .nodes, .power, .out]
    let down := fun (t : State) => t.portOf p = { x with link := false, downs := (x.downs + 1) % 256, queues := .empty } ∧
      s.hasRaised t 0xFF52 0x0801 ∧ (∀ q, q ≠ p → t.portOf q = s.portOf q) ∧
      ∀ n, t.nodeOf n = if (s.nodeOf n).st = .dynamic ∧ (s.nodeOf n).port = p then node0 else s.nodeOf n
    (x.link = true →
      (∀ n, 64 ≤ n → n ≤ 74 + s.maxPayload → counted (.macControlFrame port n) 8 0x0804) ∧
      (∀ n, n < 64 ∨ 74 + s.maxPayload < n → long (.macControlFrame port n)) ∧
      (∀ fr, fr.fecBad = 0 →
        let src := fr.ora.srcNode.toNat
        (fr.fcsOk = false → drops fr 5 0x0802) ∧
        (fr.fcsOk = true →
          (fr.len < 64 ∨ 74 + s.maxPayload < fr.len → gone fr [(0x2820 + p, 0xB)] fun t => t.det = s.det ∧
            s.otherCells [(0x2820 + p, 0xB), (0x2820 + p, 6), (0x2820 + p, 7)] t) ∧
          (64 ≤ fr.len → fr.len ≤ 74 + s.maxPayload →
            (fr.macControl = true → drops fr 8 0x0804) ∧
            (fr.macControl = false →
              (fr.tagged = true ∨ fr.etherType.toNat ≠ s.setting 0x2700 2 → drops fr 9 0x0805) ∧
              (fr.tagged = false → fr.etherType.toNat = s.setting 0x2700 2 →
                (fr.dstMac.toNat ≠ s.nodeMac s.ownNode → drops fr 0xA 0x0805) ∧
                (fr.dstMac.toNat = s.nodeMac s.ownNode → src = s.ownNode → drops fr 0xA 0x0809) ∧
                (fr.dstMac.toNat = s.nodeMac s.ownNode → src ≠ s.ownNode → fr.srcMac.toNat ≠ s.nodeMac src → drops fr 0xA 0x0805) ∧
                (fr.dstMac.toNat = s.nodeMac s.ownNode → src ≠ s.ownNode → fr.srcMac.toNat = s.nodeMac src →
                  (fr.len < 74 ∨ fr.ora.opcode.toNat = 0 ∨ 10 < fr.ora.opcode.toNat →
                    gone fr [(0x2820 + p, 3), (0x2702, 3)] fun t => s.firedOnce 0x0841 t ∧
                      t.cell (0x2820 + p) 4 = (s.cell (0x2820 + p) 4 + fr.len) % 2 ^ 64 ∧
                      s.otherCells ((0x2702, 3) :: ([3, 4, 6, 7].map fun e => (0x2820 + p, e))) t) ∧
                  (74 ≤ fr.len → 0 < fr.ora.opcode.toNat → fr.ora.opcode.toNat ≤ 10 → drops fr 0xC 0x0808))))))) ∧
      (∀ fr, 0 < fr.fecBad → gone fr [(0x2820 + p, 5)] fun t =>
        (t.detOf 0x0803).count = ((s.detOf 0x0803).count + fr.fecBad) % 2 ^ 64 ∧
        (t.detOf 0x0802).count = ((s.detOf 0x0802).count + 1) % 2 ^ 64 ∧
        s.otherCells [(0x2820 + p, 5), (0x2820 + p, 6), (0x2820 + p, 7)] t) ∧
      (s.Inv → completes (.portLinkChange port false) s gs down) ∧
      ∀ c f, c < 8 → x.queues.get [] c = [f] → (∀ d, c < d → d < 8 → x.queues.get [] d = []) → s.mayStart p c f = true →
        completes (.portFrameTransmit port) s [.od, .ports, .buckets, .out] fun t => t.out = s.out ++ [.eth port (s.ethBytes f.frame)] ∧
          (t.portOf p).queues.get [] c = [] ∧ (∀ q, q ≠ p → t.portOf q = s.portOf q) ∧
          t.cell (0x2820 + p) 1 = (s.cell (0x2820 + p) 1 + 1) % 2 ^ 64 ∧
          (f.shaped = true → t.bucket p c = max (-((s.burst p c : Int) * levelScale))
            (s.bucket p c - (OraFrameLen f.frame : Int) * levelScale)) ∧
          (f.shaped = false → t.buckets = s.buckets)) ∧
    (x.link = false → s.portEnabled p = true → completes (.portLinkChange port true) s gs fun t =>
      t.portOf p = { x with link := true } ∧ (∀ q, q ≠ p → t.portOf q = s.portOf q) ∧ t.nodes = s.nodes ∧ s.hasRaised t 0xFF52 0) ∧
    ∀ (q : Path) (v : Byte), s.canWrite q 0x2801 (p + 1) = true →
      (4 ≤ v.toNat → s.refusesWrite (.portConfigWrite q port v) q 0x2801 (p + 1) 0x06090030) ∧
      (v.toNat < 4 → x.link = false ∨ (bit v.toNat 0 = true ∧ bit v.toNat 1 = bit (s.setting 0x2801 (p + 1)) 1) →
        s.takes (.portConfigWrite q port v) 0x2801 [(p + 1, v.toNat)]) ∧
      (v.toNat < 4 → x.link = true → bit v.toNat 0 = false ∨ bit v.toNat 1 ≠ bit (s.setting 0x2801 (p + 1)) 1 → s.Inv →
        completes (.portConfigWrite q port v) s gs fun t => t.cell 0x2801 (p + 1) = v.toNat ∧ down t)) ∧
  (∀ (s : State) (n : W16), (s.nodeOf n.toNat).st = .dynamic ∨ (s.nodeOf n.toNat).st = .ambiguous →
    completes (.nodeEntryExpiry n) s [.now, .nodes] fun t => t.now = max s.now (s.nodeOf n.toNat).expiry ∧
      t.nodeOf n.toNat = node0 ∧ ∀ k, k ≠ n.toNat → t.nodeOf k = s.nodeOf k) ∧
  ∀ (s : State) (q : Path),
    (s.canWrite q 0x2802 3 = true →
      (s.Inv → completes (.nodeTableFlush q 1#8) s [.nodes] fun t =>
        ∀ n, t.nodeOf n = if (s.nodeOf n).st = .static then s.nodeOf n else node0) ∧ completes (.nodeTableFlush q 0#8) s [] fun _ => True) ∧
    (∀ v : W32, s.canWrite q 0x2803 3 = true →
      let n := bits v.toNat 15 0
      (s.staticBad v.toNat = true → s.refusesWrite (.staticEntryWrite q v) q 0x2803 3 0x06090030) ∧
      (s.staticBad v.toNat = false → completes (.staticEntryWrite q v) s [.od, .nodes] fun t => t.cell 0x2803 3 = v.toNat ∧
        t.cell 0x2802 6 = (if bit v.toNat 24 ∧ (s.nodeOf n).st = .none then (s.cell 0x2802 6 + 1) % 2 ^ 64 else s.cell 0x2802 6) ∧
        s.otherCells [(0x2803, 3), (0x2802, 6)] t ∧ (∀ k, k ≠ n → t.nodeOf k = s.nodeOf k) ∧
        t.nodeOf n = if bit v.toNat 24 then { s.nodeOf n with st := .static, port := bits v.toNat 18 16, conflicts := 0 }
          else if (s.nodeOf n).st = .static then node0 else s.nodeOf n)) ∧
    ∀ (port : PortId) (cls : Fin 8) (v : W32),
      let k := bucketKey port.val cls.val
      let level := s.bucket port.val cls.val
      let kept := fun (top : Int) (t : State) => t.buckets.find k = some ⟨max (-top) (min top level), s.now⟩ ∧
        ∀ j, j ≠ k → t.buckets.find j = s.buckets.find j
      (s.canWrite q 0x2810 (k + 1) = true →
        (400000 < v.toNat → s.refusesWrite (.shaperRateWrite q port cls v) q 0x2810 (k + 1) 0x06090030) ∧
        (v.toNat ≤ 400000 → completes (.shaperRateWrite q port cls v) s [.od, .buckets] fun t => t.cell 0x2810 (k + 1) = v.toNat ∧
          s.otherCells [(0x2810, k + 1)] t ∧ kept ((s.burst port.val cls.val : Int) * levelScale) t)) ∧
      (s.canWrite q 0x2811 (k + 1) = true →
        (v.toNat < 4170 ∨ 16777215 < v.toNat → s.refusesWrite (.shaperBurstWrite q port cls v) q 0x2811 (k + 1) 0x06090030) ∧
        (4170 ≤ v.toNat → v.toNat ≤ 16777215 → completes (.shaperBurstWrite q port cls v) s [.od, .buckets] fun t =>
          t.cell 0x2811 (k + 1) = v.toNat ∧ s.otherCells [(0x2811, k + 1)] t ∧ kept ((v.toNat : Int) * levelScale) t))

/-- An NMT command for the node is obeyed in every state (R308, R310, R311): Start enters OPERATIONAL, where the PDO timers begin;
Stop ends the SDO transfer without an abort; Reset Communication takes the node ID anew, clears counters and queue and sends
boot-up; Reset Node closes every job first. Heartbeats (R312, R313): one leaves when it is due, waits while its transmission
fails or the messages of a bus-off recovery are still to leave (R318), and leaves later; a write of 0x1017 restarts or stops production; a consumed heartbeat begins the node's monitoring, and
one that fails to come is a communication error, with the behaviour that 0x1029:01 selects. The model's choices within it: log 42,
43, 45. -/
def Obligations.NmtAndHeartbeats : Prop :=
  (∀ (s : State) (node : Byte), s.canUp = true → s.nmtDue node = true →
    let counted := fun (u : State) => u.cell 0x1FD2 7 = (s.cell 0x1FD2 7 + 1) % 2 ^ 32
    let boots := fun (u : State) => u.can.nmt = .preOperational ∧ u.can.sdo = none ∧ u.can.busOff = false ∧ u.can.tec = 0 ∧ u.can.rxErr = 0 ∧
      (u.can.nodeId, u.can.idSource) = u.idChoice ∧ (u.can.idSource ≠ 3 → u.can.queue = []) ∧
      s.emits u (.can (0x700 + u.can.nodeId) [0#8] (u.can.rate != 0) false) ∧
      u.can.hbDueAt = if u.setting 0x1017 0 = 0 then none else some (u.now + u.setting 0x1017 0 * psMs)
    settles (.nmtStart node) s [.beat, .can, .od, .fresh] (fun u => counted u ∧ u.can.nmt = .operational ∧ u.can.sdo = s.can.sdo ∧
      u.can.queue = s.can.queue ∧ (s.can.nmt = .operational → u.beat = s.beat ∧ u.can.tpdo = s.can.tpdo ∧ u.can.rpdo = s.can.rpdo) ∧
      (s.can.nmt ≠ .operational → u.beat = { s.beat with opAt := s.lineNow } ∧
        ∀ n, n < 8 → (u.tpdoRun n).timerAt = some s.now ∧ (u.tpdoRun n).syncs = none ∧ (u.rpdoRun n).waiting = none)) ∧
    settles (.nmtStop node) s (reportFields ++ ([.fw, .fresh] : List Field)) (fun u => counted u ∧ u.can.nmt = .stopped ∧
      (s.can.nmt ≠ .stopped → u.can.sdo = none ∧ ∀ d, s.can.sdo = some d → d.kind ≠ .waitWrite → s.imageLost u d)) ∧
    settles (.nmtEnterPreoperational node) s [.can, .od, .fresh] (fun u => counted u ∧ u.can.nmt = .preOperational ∧
      u.can.sdo = s.can.sdo ∧ u.can.queue = s.can.queue ∧ u.can.tpdo = s.can.tpdo) ∧
    settles (.nmtResetCommunication node) s (reportFields ++ entryFields ++ ([.beat, .sessions, .frames, .skips, .setSkips, .tiles, .attach,
      .plans, .ports, .buckets, .nodes, .fw, .fresh] : List Field)) boots ∧
    settles (.nmtResetNode node) s (reportFields ++ entryFields ++ ([.beat, .sessions, .jobs, .frames, .skips, .setSkips, .leases, .tiles,
      .attach, .plans, .conns, .wrs, .ctrs, .ports, .buckets, .nodes, .fw, .fresh] : List Field)) fun u => boots u ∧ ∀ j, (u.jobOf j).st = .free) ∧
  ((∀ (s : State) (at_ : Nat), s.up.collar = true → s.can.nmt ≠ .initialising → s.can.busOff = false → s.can.hbDueAt = some at_ →
    let due := at_ + s.setting 0x1017 0 * psMs
    let sent := fun (u : State) => ∃ esi, s.emits u (.can (0x700 + s.can.nodeId) (natLe 1 (nmtByte s.can.nmt)) (s.can.rate != 0) esi)
    (s.can.hbWaiting = none → s.canGated = false → settles (.heartbeatProduce true) s [.now, .od, .can, .out] fun u =>
      u.now = max s.now at_ ∧ u.can.hbDueAt = some due ∧ sent u) ∧
    (∀ ok, ok = false ∨ s.canGated = true → s.can.hbWaiting = none → settles (.heartbeatProduce ok) s [.now, .can] fun u =>
      u.now = max s.now at_ ∧ u.can.hbDueAt = some due ∧ u.can.hbWaiting.isSome = true ∧ u.can.queue = s.can.queue) ∧
    (s.can.hbWaiting.isSome = true → s.canGated = false → settles (.heartbeatProduce true) s [.od, .can, .out] fun u =>
      u.can.hbWaiting = none ∧ u.can.hbDueAt = some at_ ∧ sent u)) ∧
  (∀ (s : State) (q : Path) (v : W16), s.canWrite q 0x1017 0 = true → completes (.producerHeartbeatWrite q v) s [.od, .can] fun t =>
    t.cell 0x1017 0 = v.toNat ∧ s.otherCells [(0x1017, 0)] t ∧
    t.can.hbDueAt = (if v.toNat = 0 then none else some (s.now + v.toNat * psMs)) ∧ t.can.queue = s.can.queue ∧ t.can.sdo = s.can.sdo) ∧
  (∀ (s : State) (node : BitVec 7) (i : Nat), s.canUp = true → s.consumerOf node.toNat = some i →
    settles (.heartbeatReceive node) s [.od, .can, .fresh] fun u => u.can.consumers = s.can.consumers.set i ⟨some s.now, false⟩ ∧
      u.can.nmt = s.can.nmt) ∧
  ∀ (s : State) (i : Fin 8) (at_ : Nat), s.can.consumers.get ⟨none, false⟩ i = ⟨some at_, false⟩ → s.up.collar = true →
    s.can.nmt ≠ .initialising → s.consumerMs i ≠ 0 → s.consumerNode i ≠ 0 →
    settles (.heartbeatConsumerTimeout i) s (reportFields ++ ([.now, .fw] : List Field)) fun u => u.now = max s.now (at_ + s.consumerMs i * psMs) ∧
      (u.can.consumers.get ⟨none, false⟩ i).timedOut = true ∧ s.hasRaised u 0x8130 0x0D03 ∧
      (u.detOf 0x0D03).count = ((s.detOf 0x0D03).count + 1) % 2 ^ 64 ∧
      (s.setting 0x1029 1 = 0 → u.can.nmt = if s.can.nmt = .operational then .preOperational else s.can.nmt) ∧
      (s.setting 0x1029 1 = 1 → u.can.nmt = s.can.nmt) ∧ (s.setting 0x1029 1 = 2 → u.can.nmt = .stopped))

/-- PDOs and SYNC (R314, R335, R336): a SYNC latches the stamp and is counted, and a synchronous TPDO whose turn it is leaves with the
values of that instant; an event-driven one leaves when a value has changed, at its event timer, or when its inhibit time ends; a
received RPDO of the right length waits for SYNC or is applied like an SDO write, a short one is refused with EMCY 0x8210; one
that does not come raises 0x8250. The model's choices within it: log 43. -/
def Obligations.Pdos : Prop :=
  (∀ (s : State) (k : Byte), s.canUp = true → s.can.nmt ≠ .stopped → bit (s.setting 0x1005 0) 31 = false →
    let latched := fun (u : State) => u.cell 0x1FD3 1 = s.stamp ∧ u.cell 0x1FD3 2 = (s.cell 0x1FD3 2 + 1) % 2 ^ 32
    (s.can.nmt = .preOperational → settles (.syncReceive k) s [.od, .can, .fresh] fun u => latched u ∧
      s.otherCells [(0x1FD2, 7), (0x1FD3, 1), (0x1FD3, 2)] u ∧ u.can.queue = s.can.queue) ∧
    ∀ n m bs, s.can.nmt = .operational → n < 8 → (∀ j, j < 8 → j ≠ n → s.tpdoOn j = false) → (∀ j, j < 8 → (s.rpdoRun j).waiting = none) →
      s.tpdoOn n = true → 1 ≤ s.tpdoType n → s.tpdoType n ≤ 240 → (s.tpdoRun n).syncs = some m → (m + 1) % s.tpdoType n = 0 →
      let a := (s.canGot.putCell 0x1FD3 1 s.stamp).bump32 0x1FD3 2
      s.tpdoInhibited n = false → (a.setTpdo n { a.tpdoRun n with syncs := some 0 }).tpdoValues n = some bs →
      settles (.syncReceive k) s [.od, .can, .out, .fresh] fun u => latched u ∧ (u.tpdoRun n).last = some bs ∧
        (u.tpdoRun n).syncs = some 0 ∧ s.sendsCan u (bits (s.tpdoCob n) 10 0) (pad (canFdLength bs.length) bs)) ∧
  (∀ (s : State) (n : Fin 8), s.tpdoOn n = true →
    let r := s.tpdoRun n
    let sends := fun (u : State) (bs : List Byte) => (u.tpdoRun n).last = some bs ∧ (u.tpdoRun n).lastAt = some u.now ∧
      (u.tpdoRun n).pending = false ∧ (∀ j, j ≠ n.val → u.tpdoRun j = s.tpdoRun j) ∧
      s.sendsCan u (bits (s.tpdoCob n) 10 0) (pad (canFdLength bs.length) bs) ∧ (s.canGated = false → s.can.later = [] →
        u.out = s.out ++ [.can (bits (s.tpdoCob n) 10 0) (pad (canFdLength bs.length) bs) (s.can.rate != 0) s.can.passive])
    let waits := fun (u : State) (x : TpdoRun) => u.tpdoRun n = x ∧ ∀ j, j ≠ n.val → u.tpdoRun j = s.tpdoRun j
    (254 ≤ s.tpdoType n → s.tpdoValues n = none → settles (.tpdoChangeCheck n) s [.can] fun u => waits u { r with withheld := true }) ∧
    (∀ bs, 254 ≤ s.tpdoType n → s.tpdoValues n = some bs → r.pending = false →
      (r.withheld = false → r.last ≠ some bs →
        (s.tpdoInhibited n = false → settles (.tpdoChangeCheck n) s [.od, .can, .out, .fresh] fun u => sends u bs) ∧
        (s.tpdoInhibited n = true → settles (.tpdoChangeCheck n) s [.can] fun u =>
          waits u { r with pending := true, captured := none })) ∧
      ∀ cs, r.withheld = true → (s.setTpdo n { r with timerAt := some s.now }).tpdoValues n = some cs →
        (s.tpdoInhibited n = false → settles (.tpdoChangeCheck n) s [.od, .can, .out, .fresh] fun u => sends u cs) ∧
        (s.tpdoInhibited n = true → settles (.tpdoChangeCheck n) s [.can] fun u =>
          waits u { r with timerAt := some s.now, pending := true, captured := none })) ∧
    (∀ at_ bs, 254 ≤ s.tpdoType n → s.tpdoTimer n ≠ 0 → r.timerAt = some at_ →
      let a := s.advanceTo (at_ + s.tpdoTimer n * psMs)
      let b := a.setTpdo n { a.tpdoRun n with timerAt := some a.now }
      b.tpdoValues n = some bs → b.tpdoInhibited n = false → settles (.tpdoEventTimer n) s [.now, .od, .can, .out, .fresh] fun u =>
        u.now = a.now ∧ sends u bs) ∧
    ∀ at_ bs, r.pending = true → r.lastAt = some at_ →
      let a := s.advanceTo (at_ + s.tpdoInhibit n)
      let b := a.setTpdo n { r with pending := false, captured := none }
      let ends := fun (p : State → Prop) => settles (.tpdoInhibitEnd n) s [.now, .od, .can, .out, .fresh] fun u => u.now = a.now ∧ p u
      (r.captured = some bs → (a.tpdoValues n).isSome = true → ends fun u => sends u bs) ∧
      (r.captured = some bs → a.tpdoValues n = none → b.tpdoValues n = none →
        ends fun u => waits u { r with pending := false, captured := none, withheld := true }) ∧
      (r.captured = none → b.tpdoValues n = some bs → ends fun u => sends u bs)) ∧
  ∀ (s : State) (n : Fin 8), s.pdoOpen = true → bit (s.rpdoCob n) 31 = false →
    (∀ data : List Byte, data.length ≤ 64 →
      let need := ((s.rpdoMap n).map fun e => e.2.2).sum
      let x := s.canGot.setRpdo n { s.canGot.rpdoRun n with lastAt := some s.now }
      (data.length < need → settles (.rpdoReceive n data) s (.fresh :: reportFields) fun u => s.hasRaised u 0x8210 0x0D08 ∧
        (u.detOf 0x0D08).count = ((s.detOf 0x0D08).count + 1) % 2 ^ 64 ∧ u.rpdoRun n = { s.rpdoRun n with lastAt := some s.now }) ∧
      (data.length = need → s.rpdoType n ≤ 240 → settles (.rpdoReceive n data) s [.od, .can, .fresh] fun u =>
        u.rpdoRun n = { s.rpdoRun n with lastAt := some s.now, waiting := some data }) ∧
      (need < data.length → s.rpdoType n ≤ 240 → settles (.rpdoReceive n data) s (.fresh :: reportFields) fun u =>
        s.hasRaised u 0x8220 0 ∧ (u.rpdoRun n).waiting = some data) ∧
      ∀ i j b, data.length = need → 240 < s.rpdoType n → s.rpdoMap n = [(i, j, b)] → 0x1000 ≤ i →
        (∀ y, x.tryWrite i j (fxSetting i j (leNat (data.take b))) = .ok y → exec (.rpdoReceive n data) s = .next (State.settle s y)) ∧
        ∀ e, x.tryWrite i j (fxSetting i j (leNat (data.take b))) = .error e →
          settles (.rpdoReceive n data) s [.od, .can, .fresh] fun u => u.cell 0x1FE1 4 = e ∧
            u.cell 0x1FE1 5 = i + j * 65536 + 3 * 2 ^ 24 ∧ u.cell 0x1FE1 6 = (s.cell 0x1FE1 6 + 1) % 2 ^ 32) ∧
    ∀ at_, (s.rpdoRun n).lastAt = some at_ → s.setting (0x1400 + n.val) 5 ≠ 0 →
      settles (.rpdoEventTimeout n) s (.now :: reportFields) fun u => u.now = max s.now (at_ + s.setting (0x1400 + n.val) 5 * psMs) ∧
        u.rpdoRun n = { s.rpdoRun n with lastAt := none } ∧ s.hasRaised u 0x8250 0

/-- EMCY messages and errors of the bus (R315 to R320, R334): the oldest queued message leaves once the inhibit time allows, a held
one first; a write of 0x1014 with bit 31 clears the queue; an error detected adds to its counter, past 127 the node is error
passive, past 255 bus-off, where the message that waits longest is held; recovery puts EMCY 0x8140 first in the queue; a dominant
bus raises EMCY 0xFF22. The frames that waited behind a recovery's messages leave after them, or are discarded by the next bus-off.
The model's choices within it: log 41, 46, 94. -/
def Obligations.BusErrors : Prop :=
  (∀ s : State, s.emcyOpen = true →
    let leaves := fun (u : State) (m : Emcy) => ∃ esi, s.emits u (.can s.emcyId m.bytes (s.can.rate != 0) esi)
    (∀ m rest, s.can.held = none → s.can.queue = m :: rest → s.can.dropped = false →
      settles .emcyTransmit s [.now, .od, .can, .out] fun u => leaves u m ∧ u.can.queue = rest ∧ u.can.lastEmcyAt = some u.now ∧
        u.now = (match s.can.lastEmcyAt with
          | some t => max s.now (t + s.setting 0x1015 0 * 100 * psUs)
          | none => s.now)) ∧
    ∀ m, s.can.held = some (.emcy m) → bit (s.setting 0x1014 0) 31 = false → settles .emcyTransmit s [.od, .can, .out] fun u =>
      leaves u m ∧ u.can.held = none ∧ ∃ er, u.can.queue = ⟨0x8140, er, m.stamp, 0⟩ :: s.can.queue) ∧
  (∀ s : State, s.canUp = true →
    (∀ st b, s.can.held = some (.heartbeat st b) → bit (s.setting 0x1014 0) 31 = false →
      settles .emcyTransmit s [.od, .can, .out] fun u => (∃ esi, s.emits u (.can (0x700 + s.can.nodeId) (natLe 1 b) (s.can.rate != 0) esi)) ∧
        u.can.held = none ∧ ∃ er, u.can.queue = ⟨0x8140, er, st, 0⟩ :: s.can.queue) ∧
    (s.can.held = none → s.can.queue = [] → settles .emcyTransmit s [.od, .can, .out] fun u => u.can.later = [] ∧
      ∀ f ∈ s.can.later, ∃ esi, s.emits u (.can f.1 f.2 (s.can.rate != 0) esi))) ∧
  (∀ (s : State) (q : Path) (v : W32), s.canWrite q 0x1014 0 = true →
    (∀ e, cobCheck false v.toNat = some e → s.refusesWrite (.emcyCobidWrite q v) q 0x1014 0 e) ∧
    (∀ e, cobCheck false v.toNat = none → s.cobState 0x1014 0 v.toNat = some e → s.refusesWrite (.emcyCobidWrite q v) q 0x1014 0 e) ∧
    (cobCheck false v.toNat = none → s.cobState 0x1014 0 v.toNat = none → completes (.emcyCobidWrite q v) s [.od, .can] fun t =>
      t.cell 0x1014 0 = v.toNat ∧ s.otherCells [(0x1014, 0)] t ∧ t.can.queue = (if bit v.toNat 31 then [] else s.can.queue) ∧
      t.can.history = s.can.history)) ∧
  (∀ (s : State) (tr : Bool) (er : CanError), s.up.collar = true → s.can.nmt ≠ .initialising → s.can.busOff = false →
    let tec := if tr && er.byEight then s.can.tec + 8 else s.can.tec
    let rxErr := if tr then s.can.rxErr else min 255 (s.can.rxErr + (if er.byEight then 8 else 1))
    let passive := decide (127 < tec) || decide (127 < rxErr)
    let c := Instr.canErrorDetected tr er
    let now_ := fun (u : State) => u.can.tec = tec ∧ u.can.rxErr = rxErr ∧ u.can.passive = passive
    (tec ≤ 255 → passive = false ∨ s.can.passive = true → settles c s [.can] fun u => now_ u ∧ u.can.busOff = false) ∧
    (tec ≤ 255 → passive = true → s.can.passive = false → settles c s reportFields fun u => now_ u ∧ u.can.busOff = false ∧
      s.hasRaised u 0x8120 0x0D01 ∧ (u.detOf 0x0D01).count = ((s.detOf 0x0D01).count + 1) % 2 ^ 64) ∧
    (255 < tec → settles c s (.fw :: reportFields) fun u => now_ u ∧ u.can.busOff = true ∧ u.cell 0x1FD2 0xB = s.stamp ∧
      u.can.sdo = none ∧ (u.detOf 0x0D02).count = ((s.detOf 0x0D02).count + 1) % 2 ^ 64 ∧ u.can.later = [] ∧
      (∀ n, (u.tpdoRun n).pending = false) ∧ (∀ i ∈ er.unsent, ∃ ids, i ∈ ids ∧ s.emits u (.canDropped ids)) ∧
      ∀ m rest, s.can.held = none → s.can.queue = m :: rest → u.can.held = some (.emcy m))) ∧
  (∀ s : State, s.up.collar = true → s.can.busOff = true → settles .busOffRecovery s reportFields fun u => u.can.busOff = false ∧
    u.can.tec = 0 ∧ u.can.rxErr = 0 ∧ u.out = s.out ∧ u.can.held = s.can.held ∧
    u.can.recovering = (u.can.held.isSome || !u.can.queue.isEmpty) ∧ (s.can.held.isSome = true → u.can.queue = s.can.queue) ∧
    (s.can.held = none → bit (s.setting 0x1014 0) 31 = false → ∃ er, u.can.queue = ⟨0x8140, er, s.stamp, 0⟩ :: s.can.queue)) ∧
  ∀ s : State, s.up.collar = true → s.can.nmt ≠ .initialising → settles .busDominantTimeout s reportFields fun u =>
    s.hasRaised u 0xFF22 0x0D05 ∧ (u.detOf 0x0D05).count = ((s.detOf 0x0D05).count + 1) % 2 ^ 64

/-- SDO downloads (R327, R329 to R331): an expedited value is checked and applied at once; a segmented or block download begins with
its response, takes its segments in order and is applied whole with the last, where a wrong toggle, sequence number, size or CRC
aborts it. The model's choices within it: log 56. -/
def Obligations.SdoDownloads : Prop :=
  ∀ (s : State) (data : List Byte), s.sdoHears data →
    let b0 := byteAt data 0
    let index := frameIndex data
    let sub := frameSub data
    let fs : List Field := [.od, .can, .out, .fresh]
    let refuses := fun (c : Instr) (e : Nat) => completes c s (.fresh :: reportFields) fun t => s.sdoAborts t index sub e
    let breaks := fun (c : Instr) (d : Sdo) (e : Nat) => completes c s (([.fresh, .fw] : List Field) ++ reportFields) fun t => s.sdoBreaks t d e
    let starts := fun (c : Instr) (kind : SdoKind) (size : Option Nat) (crc : Bool) (resp : List Byte) =>
      settles c s (.fw :: fs) fun u => s.says u resp ∧ (index ≠ 0x2C20 → u.fw = s.fw) ∧
        u.can.sdo = some { sdo0 kind index sub s.now with size := size, blksize := 127, crc := crc }
    (s.can.sdo = none →
      (frameCcs data = 1 →
        let size := if bit b0 0 then some (leNat (data.drop 4)) else none
        (bit b0 1 = true → s.downloads (.sdoInitiateDownload data) 0 index sub false (expeditedBytes data)
          (natLe 1 0x60 ++ sdoMux index sub)) ∧
        (∀ e, s.accessCheck true index sub = some e → refuses (.sdoInitiateDownload data) e) ∧
        (bit b0 1 = false → s.accessCheck true index sub = none →
          (∀ e, s.downCheck index sub size = some e → refuses (.sdoInitiateDownload data) e) ∧
          (s.downCheck index sub size = none →
            starts (.sdoInitiateDownload data) .segDown size false (natLe 1 0x60 ++ sdoMux index sub)))) ∧
      (frameCcs data = 6 → b0 % 2 = 0 →
        let size := if bit b0 1 then some (leNat (data.drop 4)) else none
        (∀ e, s.accessCheck true index sub = some e → refuses (.sdoBlockDownloadInitiate data) e) ∧
        (s.accessCheck true index sub = none →
          (∀ e, s.downCheck index sub size = some e → refuses (.sdoBlockDownloadInitiate data) e) ∧
          (s.downCheck index sub size = none → starts (.sdoBlockDownloadInitiate data) .blkDown size (bit b0 2)
            (natLe 1 0xA4 ++ sdoMux index sub ++ natLe 1 127))))) ∧
    ∀ d, s.can.sdo = some d → d.index ≠ 0x2C20 →
      (d.kind = .segDown → frameCcs data = 0 →
        let c := Instr.sdoDownloadSegment data
        let all := d.data ++ (data.drop 1).take (7 - bits b0 3 1)
        let resp := natLe 1 (0x20 + flag d.toggle * 16)
        (bit b0 4 ≠ d.toggle → breaks c d 0x05030000) ∧
        (bit b0 4 = d.toggle →
          (bit b0 0 = false → settles c s fs fun u => s.says u resp ∧
            u.can.sdo = some { d with data := all, toggle := !d.toggle, lastAt := s.now }) ∧
          (bit b0 0 = true → (d.sizeWrong all.length = true → breaks c d 0x06070010) ∧
            (d.sizeWrong all.length = false → s.downloads c 1 d.index d.sub d.toggle all resp)))) ∧
      (d.kind = .blkDown → b0 ≠ 0x80 →
        let c := Instr.sdoBlockDownloadSubblock [data]
        let d1 : Sdo := { d with data := d.data ++ data.drop 1, seq := d.seq + 1, lastAt := s.now }
        let ack := natLe 1 0xA2 ++ natLe 1 (d.seq + 1) ++ natLe 1 127
        (bits b0 6 0 ≠ d.seq + 1 → breaks c d 0x05040003) ∧
        (bits b0 6 0 = d.seq + 1 →
          (bit b0 7 = true → settles c s fs fun u => s.says u ack ∧ u.can.sdo = some { d1 with kind := .blkDownEnd }) ∧
          (bit b0 7 = false → d.seq + 1 = d.blksize → settles c s fs fun u => s.says u ack ∧ u.can.sdo = some { d1 with seq := 0 }) ∧
          (bit b0 7 = false → d.seq + 1 ≠ d.blksize → settles c s fs fun u => u.out = s.out ∧ u.can.sdo = some d1))) ∧
      (d.kind = .blkDownEnd → frameCcs data = 6 → b0 % 2 = 1 →
        let c := Instr.sdoBlockDownloadEnd data
        let all := d.data.take (d.data.length - bits b0 4 2)
        let crcWrong := d.crc = true ∧ sdoCrc all ≠ leNat ((data.drop 1).take 2)
        (crcWrong → breaks c d 0x05040004) ∧ (¬ crcWrong → d.sizeWrong all.length = true → breaks c d 0x06070010) ∧
        (¬ crcWrong → d.sizeWrong all.length = false → s.downloads c 2 d.index d.sub false all (natLe 1 0xA1)))

/-- SDO uploads and the ends of transfers (R327, R329 to R331): a value of up to 4 bytes leaves expedited, another in segments or
blocks, the last block's acknowledgement answered with the CRC; a client's abort, a frame out of turn and a gap that is too long
each end the transfer in progress; a frame that arrives while a write waits is held. The model's choices within it: log 37. -/
def Obligations.SdoUploads : Prop :=
  (∀ (s : State) (data : List Byte), s.sdoHears data →
    let b0 := byteAt data 0
    let index := frameIndex data
    let sub := frameSub data
    let fs : List Field := [.od, .can, .out, .fresh]
    let refuses := fun (c : Instr) (e : Nat) => completes c s (.fresh :: reportFields) fun t => s.sdoAborts t index sub e
    let breaks := fun (c : Instr) (d : Sdo) (e : Nat) => completes c s (([.fresh, .fw] : List Field) ++ reportFields) fun t => s.sdoBreaks t d e
    (s.can.sdo = none →
      (frameCcs data = 2 →
        let c := Instr.sdoInitiateUpload data
        (∀ e, s.canGot.odRead index sub = .error e → refuses c e) ∧
        ∀ bs, s.canGot.odRead index sub = .ok bs →
          (expedited index sub = true →
            settles c s fs fun u => s.sdoEnds u (natLe 1 (0x43 + (4 - bs.length) * 4) ++ sdoMux index sub ++ bs)) ∧
          (expedited index sub = false → settles c s fs fun u => s.says u (natLe 1 0x41 ++ sdoMux index sub ++ natLe 4 bs.length) ∧
            u.can.sdo = some { sdo0 .segUp index sub s.now with data := bs })) ∧
      (frameCcs data = 5 → b0 % 4 = 0 →
        let c := Instr.sdoBlockUploadInitiate data
        (∀ e, s.canGot.odRead index sub = .error e → refuses c e) ∧
        ∀ bs, s.canGot.odRead index sub = .ok bs → (blksizeOk (byteAt data 4) = false → refuses c 0x05040002) ∧
          (blksizeOk (byteAt data 4) = true → settles c s fs fun u => s.says u (natLe 1 0xC6 ++ sdoMux index sub ++ natLe 4 bs.length) ∧
            u.can.sdo = some { sdo0 .blkUpStart index sub s.now with data := bs, blksize := byteAt data 4, crc := bit b0 2 })) ∧
      (frameCcs data = 4 → settles (.sdoAbortReceive data) s fs fun u => u.out = s.out ∧ u.can.sdo = none ∧
        u.cell 0x1FE1 3 = (s.cell 0x1FE1 3 + 1) % 2 ^ 32)) ∧
    ∀ d, s.can.sdo = some d →
      (d.kind = .segUp → frameCcs data = 3 →
        let c := Instr.sdoUploadSegment data
        let part := (d.data.drop d.pos).take 7
        let last := decide (d.data.length ≤ d.pos + 7)
        let resp := natLe 1 (flag d.toggle * 16 + (7 - part.length) * 2 + flag last) ++ part
        (bit b0 4 ≠ d.toggle → breaks c d 0x05030000) ∧ (bit b0 4 = d.toggle → last = true → settles c s fs fun u => s.sdoEnds u resp) ∧
        (bit b0 4 = d.toggle → last = false → settles c s fs fun u => s.says u resp ∧
          u.can.sdo = some { d with pos := d.pos + 7, toggle := !d.toggle, lastAt := s.now })) ∧
      (d.kind = .blkUpStart → frameCcs data = 5 → b0 % 4 = 3 → settles (.sdoBlockUploadStart data) s fs fun u => s.sendsBlock u d) ∧
      (d.kind = .blkUp → frameCcs data = 5 → b0 % 4 = 2 →
        let c := Instr.sdoBlockUploadAck data
        let pos := d.pos + 7 * byteAt data 1
        (d.seq < byteAt data 1 → breaks c d 0x05040003) ∧
        (byteAt data 1 ≤ d.seq → (blksizeOk (byteAt data 2) = false → breaks c d 0x05040002) ∧
          (blksizeOk (byteAt data 2) = true →
            (byteAt data 1 = d.seq → d.data.length ≤ pos → settles c s fs fun u =>
              s.says u (natLe 1 (0xC1 + (pos - d.data.length) * 4) ++ natLe 2 (if d.crc then sdoCrc d.data else 0)) ∧
              u.can.sdo = some { d with kind := .blkUpEnd, lastAt := s.now }) ∧
            (byteAt data 1 < d.seq ∨ pos < d.data.length → settles c s fs fun u =>
              s.sendsBlock u { d with pos := pos, blksize := byteAt data 2 })))) ∧
      (d.kind = .blkUpEnd → frameCcs data = 5 → b0 % 4 = 1 → settles (.sdoBlockUploadEnd data) s fs fun u => u.out = s.out ∧
        u.can.sdo = none ∧ u.cell 0x1FE1 1 = (s.cell 0x1FE1 1 + 1) % 2 ^ 32) ∧
      (d.kind ≠ .waitWrite → d.kind ≠ .blkDown → frameCcs data = 4 →
        settles (.sdoAbortReceive data) s (([.fresh, .fw] : List Field) ++ reportFields) fun u => u.can.sdo = none ∧
          u.cell 0x1FE1 3 = (s.cell 0x1FE1 3 + 1) % 2 ^ 32 ∧ s.imageLost u d) ∧
      ∀ c, sdoCommand data c →
        (d.kind = .waitWrite → s.can.sdoHeld = none → settles c s fs fun u => u.out = s.out ∧ u.can.sdo = some d ∧
          u.can.sdoHeld = some data) ∧
        (d.kind ≠ .waitWrite → d.kind ≠ .blkDown → frameCcs data ≠ 4 → ¬ d.expects data → breaks c d 0x05040001)) ∧
  ∀ (s : State) (d : Sdo), s.can.sdo = some d → s.sdoOpen = true → d.kind ≠ .waitWrite →
    completes .sdoTimeout s (([.now, .fw] : List Field) ++ reportFields) fun t => t.now = max s.now (d.lastAt + s.setting 0x1FE0 1 * psMs) ∧
      s.sdoBreaks t d 0x05040000 ∧ (t.detOf 0x0D07).count = ((s.detOf 0x0D07).count + 1) % 2 ^ 64

/-- The dictionary (R326, R327, R338, R339, R348): a write that a path may make is applied whole or aborted with the code of the first
check that it fails; a store or restore takes the values in force and is answered when its record is written, or has failed;
0x1003 is cleared. The model's choices within it: log 39, 55. -/
def Obligations.Dictionary : Prop :=
  (∀ (s : State) (q : Path) (i : W16) (j : Byte) (bs : List Byte), s.pathOpen q = true →
    let c := Instr.dictionaryWrite q i j bs
    (∀ e, s.accessCheck true i.toNat j.toNat = some e → s.refusesWrite c q i.toNat j.toNat e) ∧
    (s.accessCheck true i.toNat j.toNat = none →
      (∀ e, fxWrite q i.toNat j.toNat bs s = .error e → s.refusesWrite c q i.toNat j.toNat e) ∧
      ∀ u, fxWrite q i.toNat j.toNat bs s = .ok u → u.can.sdoHeld = none → exec c s = .next (State.settle s u))) ∧
  (∀ (s : State) (q : Path) (j : Byte) (v : W32),
    (s.canWrite q 0x1010 j.toNat = true →
      (v ≠ 0x65766173#32 → s.refusesWrite (.storeParameters q j v) q 0x1010 j.toNat 0x08000020) ∧
      (v = 0x65766173#32 → s.up.phase ≠ .recovery →
        (s.fw.updating = true → s.refusesWrite (.storeParameters q j v) q 0x1010 j.toNat 0x08000022) ∧
        (s.fw.updating = false → s.fw.store = none → completes (.storeParameters q j v) s [.fw] fun t =>
          s.beginsStore t ⟨0, storeAreas j.toNat, q, 0x1010, j.toNat, none⟩) ∧
        (s.fw.updating = false → s.fw.store.isSome = true → completes (.storeParameters q j v) s [.fw] fun t =>
          t.fw = { s.fw with storeWait := s.fw.storeWait ++ [⟨0, storeAreas j.toNat, q, 0x1010, j.toNat, none⟩] }))) ∧
    (s.canWrite q 0x1011 j.toNat = true →
      (v ≠ 0x64616F6C#32 → s.refusesWrite (.restoreDefaults q j v) q 0x1011 j.toNat 0x08000020) ∧
      (v = 0x64616F6C#32 → s.up.phase ≠ .recovery → s.fw.store = none → completes (.restoreDefaults q j v) s [.fw] fun t =>
        s.beginsStore t ⟨1, storeAreas j.toNat, q, 0x1011, j.toNat, none⟩))) ∧
  (∀ (s : State) (j : StoreJob), s.fw.store = some j → s.up.collar = true → s.fw.storeWait = [] → s.fw.beginWait = none →
    s.can.sdoHeld = none →
    let w := { s with fw := { s.fw with store := none, records := s.fw.records ++ j.record.toList } }
    let fs := reportFields ++ ([.fw, .boxA, .boxB] : List Field)
    (j.kind ≠ 2 → settles (.storeDone true) s fs fun u => u.fw = w.fw ∧ u.cell 0x1FE3 1 = (s.cell 0x1FE3 1 + 1) % 2 ^ 32 ∧
      s.writeAnswered u j.path j.index j.sub none) ∧
    (j.kind = 2 → settles (.storeDone true) s (fs ++ ([.fuses] : List Field)) fun u => w.commits u ∧ s.writeAnswered u j.path j.index j.sub none) ∧
    settles (.storeDone false) s fs fun u => u.fw = { s.fw with store := none, commit := none } ∧
      u.cell 0x1FE3 2 = (s.cell 0x1FE3 2 + 1) % 2 ^ 32 ∧ s.writeAnswered u j.path j.index j.sub (some 0x06060000)) ∧
  ∀ (s : State) (q : Path) (v : Byte), s.canWrite q 0x1003 0 = true →
    (v ≠ 0#8 → s.refusesWrite (.errorHistoryClear q v) q 0x1003 0 0x06090030) ∧
    (v = 0#8 → completes (.errorHistoryClear q v) s [.can] fun t => t.can = { s.can with history := [] })

/-- The management window (R341 to R345, R435): the mirror reads every slot's value at one instant and ignores writes; a request is
performed as by SDO and its outcome kept until it completes, which sets DONE and raises the vector; a GO while BUSY is counted and
ignored; a chunk of the image is programmed in order; a gap that is too long ends the transfer. The model's choices within it: log
57. -/
def Obligations.ManagementWindow : Prop :=
  (∀ (s : State) (f : Fn), s.windowUp f = true →
    (∀ off n, 1 ≤ n → off + n ≤ 0xE80000 → completes (.mirrorRead f off n) s [.out, .fresh] fun t =>
      t.out = s.out ++ [.hostRead f ((List.range n).map fun i => s.mirrorByte (off + i)) false]) ∧
    (∀ off, off < 0xE80000 → completes (.mirrorWrite f off) s [.od] fun t => t.cell 0x1FE2 4 = (s.cell 0x1FE2 4 + 1) % 2 ^ 32 ∧
      s.otherCells [(0x1FE2, 4)] t) ∧
    ((s.box f).busy = false → completes (.mailboxDoneClear f) s [.boxA, .boxB] fun t =>
      t.box f = { s.box f with done := false, aborted := false, remain := false } ∧ ∀ g, g ≠ f → t.box g = s.box g) ∧
    ∀ r : MailReq,
      let i := r.index.toNat
      let j := r.sub.toNat
      let a := s.going f r
      let fs : List Field := [.od, .boxA, .boxB, .fresh]
      let reply := fun (c : Instr) (code : Nat) (bs : List Byte) => settles c s fs fun u => s.boxSays u f r code bs
      (∀ c, (c = .mailboxRead f r ∧ r.op = 1) ∨ (c = .mailboxWrite f r ∧ r.op = 2) ∨ (c = .mailboxAbort f r ∧ r.op = 3) →
        ((s.box f).busy = true → settles c s [.od] fun u => u.cell 0x1FE2 3 = (s.cell 0x1FE2 3 + 1) % 2 ^ 32 ∧
          s.otherCells [(0x1FE2, 3)] u) ∧
        ((s.box f).busy = false → reqBad r = true → reply c 0x05040001 [])) ∧
      ((s.box f).busy = false → reqBad r = false →
        (r.op = 1 →
          (chunkBad r = true → reply (.mailboxRead f r) 0x06040043 []) ∧
          (chunkBad r = false → isDomain i j = false → (∀ e, a.odRead i j = .error e → e ≠ 0 → reply (.mailboxRead f r) e []) ∧
            ∀ bs, a.odRead i j = .ok bs → reply (.mailboxRead f r) 0 bs)) ∧
        (r.op = 2 →
          (chunkBad r = true → reply (.mailboxWrite f r) 0x06040043 []) ∧
          (chunkBad r = false → isDomain i j = false →
            (∀ e, a.tryWrite i j (fxWrite (pathOf f) i j (a.box f).data) = .error e → e ≠ 0 → reply (.mailboxWrite f r) e []) ∧
            ∀ v, a.tryWrite i j (fxWrite (pathOf f) i j (a.box f).data) = .ok v → v.can.sdoHeld = none → (v.box f).busy = true →
              ∃ u, exec (.mailboxWrite f r) s = .next (State.settle s u) ∧
                (v.defers i j (leNat (a.box f).data) = true → u = v) ∧
                (v.defers i j (leNat (a.box f).data) = false → u = v.setBox f { v.box f with answer := some (0, [], false) })) ∧
          (isDomain i j = true → (r.offset = 0 → s.accessCheck true 0x2C20 0 = none ∧
              s.imageCheck (if r.more then none else some (r.len.toNat % 2 ^ 17)) = none) →
            ∀ c, s.chunkFor f r = some c →
              let n := r.len.toNat % 2 ^ 17
              let gs := reportFields ++ ([.boxA, .boxB, .fw] : List Field)
              (c.pos + n = s.cell 0x2C21 2 → settles (.mailboxWrite f r) s gs fun u => (u.box f).chunk = none ∧
                (u.box f).answer = none ∧ u.fw.updBytes = s.fw.updBytes + n) ∧
              (c.pos + n < s.cell 0x2C21 2 → r.more = true → settles (.mailboxWrite f r) s gs fun u =>
                (u.box f).chunk = some { c with pos := c.pos + n, lastAt := s.now } ∧ (u.box f).answer = some (0, [], false) ∧
                u.fw.updBytes = s.fw.updBytes + n) ∧
              (s.cell 0x2C21 2 < c.pos + n ∨ (r.more = false ∧ c.pos + n ≠ s.cell 0x2C21 2) → settles (.mailboxWrite f r) s gs fun u =>
                (u.box f).chunk = none ∧ (u.box f).answer = some (0x06040043, [], false)))) ∧
        (r.op = 3 → settles (.mailboxAbort f r) s (reportFields ++ ([.boxA, .boxB, .fw] : List Field)) fun u => (u.box f).chunk = none ∧
          (u.box f).answer = some (0, [], false) ∧ ((s.box f).chunk = none → u.fw = s.fw) ∧
          ((s.box f).chunk.isSome = true → s.fw.upd = .ready ∨ s.fw.upd = .writing → u.fw.upd = .failed ∧ u.fw.slot s.fw.updB = slot0)))) ∧
  ∀ (s : State) (f : Fn),
    (∀ code bs x, (s.box f).answer = some (code, bs, x) → (s.box f).busy = true →
      completes (.mailboxComplete f) s [.pba, .od, .boxA, .boxB, .out] fun t => t.box f = (s.box f).complete code bs ∧
        (∀ g, g ≠ f → t.box g = s.box g) ∧ (code ≠ 0 → t.cell 0x1FE2 2 = (s.cell 0x1FE2 2 + 1) % 2 ^ 32) ∧ (code = 0 → t.od = s.od) ∧
        ((s.box f).vectorEnable = true → s.vectorMasked f (s.box f).vector = false →
          t.out = s.out ++ [.msix f (s.box f).vector] ∧ t.pba = s.pba) ∧
        ((s.box f).vectorEnable = false → t.out = s.out ∧ t.pba = s.pba)) ∧
    ∀ c, (s.box f).chunk = some c → settles (.mailboxChunkTimeout f) s (reportFields ++ ([.now, .boxA, .boxB, .fw] : List Field)) fun u =>
      u.now = max s.now (c.lastAt + s.setting 0x1FE0 1 * psMs) ∧ (u.box f).chunk = none ∧ (u.box f).code = 0x05040000 ∧
      u.cell 0x1FE2 2 = (s.cell 0x1FE2 2 + 1) % 2 ^ 32 ∧ u.cell 0x1FE1 4 = 0x05040000 ∧
      u.cell 0x1FE1 5 = c.index + c.sub * 65536 + pathNum (pathOf f) * 2 ^ 24

/-- The inputs (R350, R351): an input voltage enters the state of the table, which is kept with the voltage, fires the state's
detector and sends EMCY 0xFF66; in Cut, Reversed and Absent every domain is OFF or stays latched off, and after Cut a start needs
the operator; an input back in range from Cut only starts its 100 ms, which one out of range breaks. A standby voltage out of range
fires 0x0A0A; with neither input the collar has no power and reports nothing. Clock faults (R369, R373, R374): a domain out of
tolerance fires 0x0B02, a PLL that loses lock 0x0B01, with EMCY 0xFF67 and the effect of its domain in the table "Clock faults"; those
of the collar's clocks make it absent, and the report waits for its return. A lost reference fires 0x0B04, ends a holdover, moves
the collar to its internal oscillator and shuts the module down; when it returns the oscillator stays in use. The model's choices
within it: log 47, 78. -/
def Obligations.SupplyAndClocks : Prop :=
  ((∀ (s : State) (st : InputState) (mv : W16),
    let v := mv.toNat
    let now := s.power.input
    let c := Instr.mainInputStateChange st mv
    let det := if st = .reversed then 0x0A09 else if st = .low ∨ st = .high ∨ st = .cut then 0x0A08 else 0
    (now = .cut → st = .cut ∨ st = .low ∨ st = .high ∨ st = .inRange → 5000 ≤ v → (st = .inRange ↔ 40000 ≤ v ∧ v ≤ 60000) →
      completes c s [.power] fun t => t.power = { s.power with
        inputMv := v, rangeAt := if st = .inRange then (if s.power.rangeAt.isSome then s.power.rangeAt else some s.now) else none }) ∧
    (now ≠ .cut → st = now → (st = .inRange ∧ 40000 ≤ v ∧ v ≤ 60000) ∨ (st = .low ∧ 38000 ≤ v ∧ v ≤ 41000) ∨
        (st = .high ∧ 59000 ≤ v ∧ v ≤ 61000) ∨ st = .reversed ∨ (st = .absent ∧ v ≤ 40000) →
      completes c s [.power] fun t => t.power = { s.power with inputMv := v }) ∧
    (now ≠ .cut → st ≠ now → (st = .inRange ∧ 40000 ≤ v ∧ v ≤ 60000 ∧ (now = .low → 41000 < v) ∧ (now = .high → v < 59000) ∧
        (now = .absent → 40000 < v)) ∨ (st = .low ∧ now ≠ .absent ∧ 38000 ≤ v ∧ v < 40000) ∨ (st = .high ∧ 60000 < v ∧ v ≤ 61000) →
      settles c s (reportFields ++ ([.power] : List Field)) fun u => s.hasRaised u 0xFF66 det ∧ (det ≠ 0 → s.firedMore u det) ∧
        u.power = { s.power with input := st, inputMv := v, rangeAt := if st = .inRange then some s.now else none }) ∧
    (st ≠ now → (st = .cut ∧ ((now ≠ .absent ∧ 5000 ≤ v ∧ v < 38000) ∨ 61000 < v)) ∨ st = .reversed ∨ (st = .absent ∧ v < 5000) →
      let fed := st = .cut ∨ s.power.standbyOut = false ∨ 5000 ≤ s.power.standbyMv
      settles c s (fallFields ++ ([.injection, .fw] : List Field)) fun u => u.power.input = st ∧ u.power.inputMv = v ∧
        u.power.needRequest = (s.power.needRequest || decide (st = .cut)) ∧ u.up.yoke = false ∧ u.jobs = .empty ∧ u.dram = .empty ∧
        (∀ d, (u.domainOf d).st = if (s.domainOf d).st = .latchedOff then .latchedOff else .off) ∧
        (fed → s.hasRaised u 0xFF66 det ∧ (det ≠ 0 → s.firedMore u det)) ∧ (¬ fed → s.unpowers u))) ∧
  ∀ (s : State) (mv : W16),
    let out := decide (mv.toNat < 10800) || decide (13200 < mv.toNat)
    let other := s.power.input ≠ .absent ∧ s.power.input ≠ .reversed
    let was := other ∨ s.power.standbyOut = false ∨ 5000 ≤ s.power.standbyMv
    let is := other ∨ 5000 ≤ mv.toNat
    let x : Power := { s.power with standbyMv := mv.toNat, standbyOut := out }
    let c := Instr.standbyInputFault mv
    (was → ¬ is → settles c s (fallFields ++ ([.injection, .fw] : List Field)) fun u => s.unpowers u ∧ u.power.standbyMv = mv.toNat ∧
      u.power.standbyOut = true ∧ u.jobs = .empty) ∧
    (is → out = true → s.power.standbyOut = false → settles c s (reportFields ++ ([.power] : List Field)) fun u => u.power = x ∧
      s.firedOnce 0x0A0A u) ∧
    (¬ (was ∧ ¬ is) → out = false ∨ s.power.standbyOut = true ∨ ¬ is → settles c s [.power] fun u => u.power = x)) ∧
  ((∀ (s : State) (k : Fin 266) (c : Instr) (det : Nat), s.clockRuns k.val = true →
    (c = .clockCheck k ∧ det = 0x0B02 ∧ k.val ≠ 262 ∧ k.val ≠ 265) ∨ (c = .pllUnlock k ∧ det = 0x0B01 ∧ hasPll k.val = true) →
    let n := k.val
    settles c s (reportFields ++ entryFields ++ ([.wafer, .sessions, .jobs, .frames, .suspects, .moves, .injection, .tiles, .attach, .plans, .segs,
        .ports, .nodes, .power, .fw, .fresh] : List Field)) fun u =>
      s.firedMore u det ∧ (n < 192 ∨ (200 ≤ n ∧ n < 262) → s.hasRaised u 0xFF67 det) ∧
      (n < 192 → s.panelResets (n / 3) → (s.panelPower (n / 3)).resets = [] → s.inPanelReset (n / 3) u) ∧
      (192 ≤ n → n < 200 → u.rowOut (n - 192)) ∧ (200 ≤ n → n < 208 → u.columnOut (n - 200)) ∧
      (208 ≤ n → n < 240 → s.segmentOut u ((n - 208) / 2)) ∧ (240 ≤ n → n < 256 → (u.portOf ((n - 240) / 2)).link = false) ∧
      (256 ≤ n → n < 260 → (u.host (fnOf ((n - 256) / 2))).up = false) ∧ (n = 260 ∨ n = 261 → u.yokeOut) ∧
      (n = 263 ∨ n = 264 → u.up.collar = false ∧ u.up.absentAt.isSome = true ∧ u.cell 0x2B00 8 = (s.cell 0x2B00 8 + 1) % 2 ^ 64 ∧
        (s.absentEmcy.length < 64 → ∃ m ∈ u.absentEmcy, m.code = 0xFF67 ∧ m.det = det))) ∧
  (∀ s : State, s.power.refLost = false →
    let beats := fun (u : State) => u.power.refLost = true ∧ (s.beat.lock ≠ .holdover → u.beat = s.beat) ∧
      (s.beat.lock = .holdover → u.beat = { s.beat with lock := .lost })
    (s.up.collar = true → settles .referenceLost s (fallFields ++ ([.beat, .fresh] : List Field)) fun u =>
      beats u ∧ u.power.internalOsc = true ∧ s.firedMore u 0x0B04 ∧ u.can.rate = 0 ∧
      ((s.domainOf 0).st = .off ∨ s.linksUp ≤ 5 → s.hasRaised u 0xFF68 0x0B04) ∧
      ((s.domainOf 0).st ≠ .off → s.shutDown u 0x0B04 ∧ u.up.phase = .shutdown)) ∧
    (s.up.collar = false → s.up.absentAt.isSome = true → settles .referenceLost s (fallFields ++ ([.beat, .fresh] : List Field)) fun u =>
      beats u ∧ s.firedMore u 0x0B04 ∧ u.power.internalOsc = s.power.internalOsc ∧ u.power.domains = s.power.domains) ∧
    (s.up.collar = false → s.up.absentAt = none → settles .referenceLost s [.power] fun u =>
      u.power = { s.power with refLost := true, offset := none })) ∧
  ∀ s : State, s.power.refLost = true → completes .referenceReturn s [.power] fun t => t.power = { s.power with refLost := false })

/-- Power domains (R352 to R355, R391): a request is refused in the cases of R353; ON waits for the domains required and for a ramp
slot, of which there are 8 for panels and 4 for the others, and ROM recovery switches none on (R389); OFF takes the domains that require it too; YOKE ON starts the yoke,
YOKE OFF is an orderly shutdown. A ramp ends with the domain ON, or, after twice its ramp time without power-good, OFF with 0x0C35
and EMCY 0xFF02. -/
def Obligations.PowerDomains : Prop :=
  (∀ (s : State) (p : Path) (d : Fin 171), s.canWrite p 0x2911 (d.val + 1) = true →
    let x := s.domainOf d.val
    let q := domainPanel d.val
    let panel := 27 ≤ d.val ∧ d.val < 155
    let inGrid := panel ∧ (s.wafer.panelOf q).mode = .active ∧ s.panelLost q = false
    (let c := Instr.domainRequestOn p d
     let fed := s.power.input = .inRange ∨ s.power.input = .high ∨
       (d.val = 0 ∧ s.power.input = .cut ∧ ∃ t, s.power.rangeAt = some t ∧ t + 100 * psMs ≤ s.now)
     let refused := inGrid ∨ (panel ∧ (s.panelPower q).overcurrent = true) ∨ ¬ fed ∨ s.power.internalOsc = true
     (refused → s.refusesWrite c p 0x2911 (d.val + 1) 0x08000022) ∧
     (¬ refused →
       (d.val ≠ 0 → x.st ≠ .off → settles c s [.od] fun _ => True) ∧
       (d.val ≠ 0 → x.st = .off → s.up.phase ≠ .domains → s.up.phase ≠ .recovery → (∀ e, e ≠ d.val → (s.domainOf e).st = .off → (s.domainOf e).wanted = false) →
         settles c s [.od, .power] (s.domainTakes d.val (if (∀ e ∈ domainNeeds d.val, (s.domainOf e).st = .on) ∧
           s.ramping (isPanelDomain d.val) < (if panel then 8 else 4) then ⟨.ramping, true, s.now⟩ else { x with wanted := true }))) ∧
       (d.val = 0 → x.st = .off → s.up.phase = .waiting ∨ s.up.phase = .shutdown ∨ s.up.phase = .yokeFailed ∨ s.up.phase = .yokeStart →
         let starts := fun (u : State) => s.domainTakes 0 ⟨.ramping, true, s.now⟩ u ∧ u.power.needRequest = false ∧
           u.up.phase = .yokeStart ∧ u.up.step = 7 ∧ u.up.failedYoke = 0
         (s.power.input ≠ .cut → settles c s [.od, .power, .up] starts) ∧
         (s.power.input = .cut → settles c s (fallFields ++ ([.injection, .fw] : List Field)) fun u => starts u ∧
           u.power.input = .inRange ∧ s.hasRaised u 0xFF66 0)))) ∧
    (let c := Instr.domainRequestOff p d
     let refused := inGrid ∨ (1 ≤ d.val ∧ d.val < 17 ∧ s.hemUsed (d.val - 1) = true) ∨
       (155 ≤ d.val ∧ ∃ e ∈ domainUsers d.val, (s.domainOf e).st = .on)
     (refused → s.refusesWrite c p 0x2911 (d.val + 1) 0x08000022) ∧
     (¬ refused → d.val ≠ 0 → settles c s (fallFields ++ ([.fresh] : List Field)) fun u => ∀ e,
       u.domainOf e = if e = d.val ∨ e ∈ domainUsers d.val then
         (if (s.domainOf e).st = .latchedOff then { s.domainOf e with wanted := false } else ⟨.off, false, 0⟩) else s.domainOf e) ∧
     (¬ refused → d.val = 0 → x.st ≠ .off → settles c s fallFields fun u => s.shutDown u 0))) ∧
  ∀ (s : State) (d : Fin 171),
    let x := s.domainOf d.val
    let panel := isPanelDomain d.val
    (s.up.phase = .recovery → exec (.domainRampStart d) s = .next s) ∧
    (x.st = .off → x.wanted = true → s.needsMet d.val = true → s.up.phase ≠ .recovery →
      (panel = true → s.up.phase ≠ .domains ∨ s.seamsDone = true) →
      (s.rampFree panel = false → exec (.domainRampStart d) s = .next s) ∧
      (s.rampFree panel = true →
        (∀ e, e ≠ d.val → isPanelDomain e = panel → (s.domainOf e).wanted = true → (s.domainOf e).st = .off → s.needsMet e = false) →
        completes (.domainRampStart d) s [.power] (s.domainTakes d.val ⟨.ramping, true, s.now⟩))) ∧
    (x.st = .ramping →
      let good := fun (u : State) => s.domainTakes d.val ⟨.on, false, 0⟩ u ∧ (∀ k, k % 256 = d.val → u.power.rails.get 0 k = 0) ∧
        (d.val = 0 → u.up.step = 8) ∧ (1 ≤ d.val → d.val < 17 → u.up.segs.find (d.val - 1) = some ⟨1, 0, 0, s.now⟩) ∧
        (27 ≤ d.val → d.val < 91 → (u.panelPower (d.val - 27)).pll = true)
      (s.beat.lock ≠ .search → settles (.domainPowerGood d) s (reportFields ++ ([.power, .fw] : List Field)) good) ∧
      (s.beat.lock = .search → s.up.restore = none → settles (.domainPowerGood d) s (reportFields ++ entryFields ++
        ([.wafer, .sessions, .frames, .skips, .setSkips, .tiles, .attach, .plans, .power, .fw] : List Field)) good)) ∧
    (x.st = .ramping → s.beat.lock ≠ .search ∨ s.up.restore = none → settles (.domainPowerGoodTimeout d) s (fallFields ++ ([.now, .fw] : List Field)) fun u =>
      u.now = max s.now (x.rampAt + 2 * rampTime d.val) ∧ u.domainOf d.val = ⟨.off, false, 0⟩ ∧ s.firedMore u 0x0C35 ∧ s.hasRaised u 0xFF02 0x0C35 ∧
      (d.val = 0 → u.up.failedYoke = min 255 (s.up.failedYoke + 1) ∧
        (s.setting 0x2A01 2 ≤ s.up.failedYoke + 1 → u.up.phase = .yokeFailed ∧ u.up.retryAt = none) ∧
        (s.up.failedYoke + 1 < s.setting 0x2A01 2 → u.up.phase = .yokeStart ∧ u.up.retryAt = some (u.now + psS))) ∧
      (1 ≤ d.val → d.val < 17 → u.up.segs.find (d.val - 1) = some ⟨6, 0, 0, 0⟩) ∧
      (panel = true → s.up.built = false → bit (u.up.panels.get 0 (domainPanel d.val)) 16 = true ∧ u.up.ended.get false (domainPanel d.val) = true))

/-- Panel rails (R356 to R360, R362): below warning the detector fires, the latch sets with one EMCY 0xFF60 and the throttle source
joins, unless the rail is at its reset level; above both levels the source leaves. At the reset level 0x0A02 or 0x0A04 fires with
EMCY 0xFF61 and the panel is reset, LOST at the third time within 60 s; it is released after 1 ms, or LOST after 100 ms. An
operator's write clears the latch. -/
def Obligations.PanelRails : Prop :=
  (∀ (s : State) (p : PanelId) (sram : Bool) (mv : W16),
    let q := s.panelPower p.val
    let v := mv.toNat
    let warn := if sram then 752 else 705
    let low := if sram then 704 else 660
    (let det := if sram then 0x0A03 else 0x0A01
     let fs := reportFields ++ ([.power] : List Field)
     s.railOn p.val sram = true → v < warn → (q.below sram = false →
       (low < v → settles (.panelRailWarning p sram mv) s fs fun u => s.firedMore u det ∧ (u.panelPower p.val).brownout = true ∧
         (u.panelPower p.val).srcBrown = true ∧ (u.panelPower p.val).below sram = true ∧ (∀ o, o ≠ p.val → u.panelPower o = s.panelPower o) ∧
         (q.brownout = false → s.hasRaised u 0xFF60 det) ∧ (q.brownout = true → u.can = s.can)) ∧
       (v ≤ low → settles (.panelRailWarning p sram mv) s fs fun u => s.firedOnce det u ∧ u.can = s.can ∧
         s.panelTakes p.val { q.rail sram v true with aboveAt := none } u)) ∧
     (q.below sram = true → low < v → q.srcBrown = false → q.resetAt = none → settles (.panelRailWarning p sram mv) s fs fun u =>
       s.panelTakes p.val { q.rail sram v true with aboveAt := none, brownout := true, srcBrown := true } u ∧
       (q.brownout = false → s.hasRaised u 0xFF60 det) ∧ (q.brownout = true → u.det = s.det))) ∧
    (let det := if sram then 0x0A04 else 0x0A02
     s.railOn p.val sram = true ∨ q.overcurrent = true → v ≤ low →
       settles (.panelRailReset p sram mv) s (reportFields ++ ([.wafer, .suspects, .moves, .tiles, .power] : List Field)) fun u => s.firedMore u det ∧
         s.hasRaised u 0xFF61 det ∧ (q.overcurrent = true → u.suspects = s.suspects ∧ u.tiles = s.tiles ∧ u.wafer = s.wafer) ∧
         (q.overcurrent = false → u.contentsLost p.val ∧ ∀ k, keyPanel k ≠ p.val → u.tileOf k = s.tileOf k) ∧
         (q.overcurrent = false → s.panelLost p.val = true → u.suspects = s.suspects ∧ u.wafer = s.wafer) ∧
         (q.overcurrent = false → s.panelLost p.val = false → (s.wafer.panelOf p.val).mode ≠ .active →
           ((q.resets.filter fun t => decide (s.now < t + 60 * psS)).length < 2 → u.suspects = s.suspects ∧ u.wafer = s.wafer) ∧
           (2 ≤ (q.resets.filter fun t => decide (s.now < t + 60 * psS)).length → u.panelLost p.val = true)) ∧
         (s.panelResets p.val → (q.resets.filter fun t => decide (s.now < t + 60 * psS)).length < 2 → s.inPanelReset p.val u) ∧
         (s.panelResets p.val → 2 ≤ (q.resets.filter fun t => decide (s.now < t + 60 * psS)).length → u.panelLost p.val = true))) ∧
  (∀ (s : State) (p : PanelId) (core sram : W16),
    let q := s.panelPower p.val
    q.belowCore = true ∨ q.belowSram = true ∨ q.srcBrown = true → 715 < core.toNat → 762 < sram.toNat →
    settles (.panelRailRecovered p core sram) s [.power] (s.panelTakes p.val { q with
      coreMv := core.toNat, sramMv := sram.toNat, belowCore := false, belowSram := false, srcBrown := false
      aboveAt := if q.resetAt.isSome then some s.now else none })) ∧
  (∀ (s : State) (p : PanelId) (core sram : W16),
    let q := s.panelPower p.val
    q.belowCore = true → q.belowSram = true →
    (715 < core.toNat → sram.toNat ≤ 762 → settles (.panelRailRecovered p core sram) s [.power] (s.panelTakes p.val { q with
      coreMv := core.toNat, sramMv := sram.toNat, belowCore := false, aboveAt := none })) ∧
    (core.toNat ≤ 715 → 762 < sram.toNat → settles (.panelRailRecovered p core sram) s [.power] (s.panelTakes p.val { q with
      coreMv := core.toNat, sramMv := sram.toNat, belowSram := false, aboveAt := none }))) ∧
  (∀ (s : State) (p : PanelId) (t : Nat), (s.panelPower p.val).resetAt = some t →
    let q := s.panelPower p.val
    (∀ a, q.aboveAt = some a → a + psMs ≤ t + 100 * psMs → completes (.panelResetRelease p) s [.now, .power] fun u => u.now = max s.now (a + psMs) ∧
      s.panelTakes p.val { q with
        resetAt := none, aboveAt := none, released := (s.wafer.panelOf p.val).mode == .active, pll := true } u) ∧
    settles (.panelResetTimeout p) s (reportFields ++ ([.now, .wafer, .suspects, .moves, .tiles, .power] : List Field)) fun u =>
      u.now = max s.now (t + 100 * psMs) ∧ u.panelLost p.val = true ∧ (s.panelLost p.val = false → s.hasRaised u 0xFF71 0x0C08)) ∧
  ∀ (s : State) (p : Path) (v : W64), s.canWrite p 0x2921 0 = true → settles (.brownoutClear p v) s [.power] fun u => ∀ q : PanelId,
    u.panelPower q.val = { s.panelPower q.val with brownout := (s.panelPower q.val).brownout && !bit v.toNat q.val }

/-- Other rails and the overcurrent latch (R356, R361, R367, R368): at the levels of the table "Rail monitors" a fall below warning is counted
once, until the rail is above warning plus hysteresis, and has no other effect; at its reset level a rail's unit fails. Twice
a stage's rated current latches both stages off and the panel is LOST; the latch of a real trip clears three times, counted, one
set by an injection uncounted. -/
def Obligations.RailsAndLatches : Prop :=
  (∀ (s : State) (x : RailReading), (s.domainOf (railDomain x.rail)).st = .on →
    let r := x.rail
    let v := x.mv.toNat
    let det := if 155 ≤ railDomain r then 0x0A06 else 0x0A07
    let levels := match r with
      | .seamR _ | .seamC _ | .hem _ false => (705, 660, 10)
      | .yoke => (752, 704, 10)
      | .hem _ true => (987, 924, 15)
      | .host _ | .net _ => (1128, 1056, 15)
    (v < levels.1 →
      (s.railAt r = 0 → completes (.railWarning x) s [.det, .log, .logMade, .faultBuffer, .power] fun t => s.firedOnce 0x0A0F t ∧ t.railAt r = 1) ∧
      (s.railAt r ≠ 0 → exec (.railWarning x) s = .next s)) ∧
    (levels.1 + levels.2.2 < v → completes (.railWarning x) s [.power] fun t => t.railAt r = 0) ∧
    (levels.1 ≤ v → v ≤ levels.1 + levels.2.2 → exec (.railWarning x) s = .next s) ∧
    (s.railAt r = 2 ∨ levels.2.1 < v → exec (.railReset x) s = .next s) ∧
    (s.railAt r ≠ 2 → v ≤ levels.2.1 → settles (.railReset x) s (reportFields ++ entryFields ++
        ([.wafer, .sessions, .jobs, .frames, .suspects, .moves, .tiles, .attach, .plans, .segs, .ports, .nodes, .power, .fresh] : List Field)) fun u =>
      s.firedMore u det ∧ u.railAt r = 2 ∧ (∀ y, r = .seamR y → u.rowOut y.val) ∧ ((∀ y, r ≠ .seamR y) → s.hasRaised u 0xFF6A det) ∧
      (∀ x, r = .seamC x → u.columnOut x.val) ∧ (r = .yoke → u.yokeOut) ∧ (∀ g dram, r = .hem g dram → s.segmentOut u g.val) ∧
      (∀ f, r = .host f → (u.host f).up = false) ∧ (∀ n, r = .net n → (u.portOf n.val).link = false))) ∧
  (∀ (s : State) (p : PanelId) (sram : Bool), let d := if sram then memDomain p.val else coreDomain p.val
    (s.domainOf d).st ≠ .off → (s.domainOf d).st ≠ .latchedOff →
    settles (.panelOvercurrent p sram) s (reportFields ++ ([.wafer, .suspects, .moves, .tiles, .power] : List Field)) fun u => s.firedMore u 0x0A05 ∧
      s.hasRaised u 0xFF62 0x0A05 ∧ u.panelLost p.val = true ∧ u.contentsLost p.val ∧ (u.panelPower p.val).overcurrent = true ∧
      (u.panelPower p.val).clears = (s.panelPower p.val).clears ∧ (u.panelPower p.val).ocInjected = s.injection.acting ∧
      ∀ e, u.domainOf e = if e = coreDomain p.val ∨ e = memDomain p.val then ⟨.latchedOff, false, 0⟩ else s.domainOf e) ∧
  ∀ (s : State) (a : Path) (p : PanelId) (v : Byte), s.canWrite a 0x2922 (p.val + 1) = true →
    let q := s.panelPower p.val
    let c := Instr.overcurrentClear a p v
    (2 ≤ v.toNat → s.refusesWrite c a 0x2922 (p.val + 1) 0x06090030) ∧
    (v.toNat = 0 ∨ (v.toNat = 1 ∧ q.overcurrent = false) → settles c s [] fun _ => True) ∧
    (v.toNat = 1 → q.overcurrent = true →
      (q.ocInjected = false → 3 ≤ q.clears → s.refusesWrite c a 0x2922 (p.val + 1) 0x08000022) ∧
      (q.ocInjected = true ∨ q.clears < 3 → settles c s [.power] fun u =>
        s.panelTakes p.val { q with overcurrent := false, ocInjected := false, clears := q.clears + flag (!q.ocInjected) } u ∧
        ∀ e, u.domainOf e = if e = coreDomain p.val ∨ e = memDomain p.val then ⟨.off, false, 0⟩ else s.domainOf e))

/-- The power limit (R363 to R366, R417): at a boundary, while the collar runs, above the limit in force, the operator's or 4,650 W, and at
least 1 ms after the last action, the next row is throttled, or, once every active row is, its clocks stop and its memory domains go to RETAIN; below 95 % of it for 100
ms the latest action is undone. Coolant and temperature (R364, R375 to R377): a sensor fault or a thermal limit is reported and
brings the fault limit of 4,650 W into force until it ends; an outlet that crosses its warning is reported once, above its shutdown level it
shuts the module down; a hot die joins the throttle until 5 °C below its level. -/
def Obligations.PowerLimitAndCoolant : Prop :=
  (∀ (s : State) (w : W16),
    let limit := if s.power.tinFault ≠ 0 ∨ s.power.toutFault ≠ 0 ∨ s.power.flowFault ≠ 0 ∨ s.power.thermal = true ∨ s.power.input = .low then 4650
      else s.setting 0x2901 1
    let fs : List Field := [.hostA, .hostB, .cq, .pba, .tier1, .granules, .tier1Bad, .od, .can, .det, .log, .logMade, .faultBuffer, .absentEmcy, .segCtr,
      .power, .out]
    (s.up.collar = false → exec (.powerLimitAction w) s = .next s ∧ exec (.powerLimitRelease w) s = .next s) ∧
    (s.beat.lock ≠ .search → s.now ≠ s.beat.tickAt → exec (.powerLimitAction w) s = .next s) ∧
    (s.up.collar = true → s.beat.lock = .search ∨ s.now = s.beat.tickAt → limit < w.toNat → (∀ t, s.power.lastAct = some t → t + psMs ≤ s.now) → ∀ st r, s.rowIsNext st r →
      st = 1 ∨ (st = 2 ∧ ∀ n, n < 8 → s.activeIn n = [] ∨ ∃ a ∈ s.power.actions, a.stage = 1 ∧ a.row = n) →
      completes (.powerLimitAction w) s fs fun t => t.power.actions = ⟨st, r, s.activeIn r, s.now⟩ :: s.power.actions ∧
        t.power.lastAct = some s.now ∧ t.cell 0x2960 5 = (s.cell 0x2960 5 + 1) % 2 ^ 64 ∧
        (∀ p, t.panelPower p = if p ∈ s.activeIn r then (if st = 1 then { s.panelPower p with srcLimit := true }
          else { s.panelPower p with stopped := true }) else s.panelPower p) ∧
        (∀ p ∈ s.activeIn r, st = 2 → (s.domainOf (memDomain p)).st = .on → (t.domainOf (memDomain p)).st = .retain) ∧
        (s.power.stage < st → s.hasRaised t 0xFF63 (if s.power.stage = 0 then 0x0A0B else 0)) ∧ (s.power.stage = 0 → s.firedMore t 0x0A0B)) ∧
    ∀ a rest t0, s.up.collar = true → s.power.actions = a :: rest → s.power.lastAct = some t0 → w.toNat * 100 < 95 * limit → a.stage = 1 ∨ a.stage = 2 →
      completes (.powerLimitRelease w) s (.now :: fs) fun t => t.now = max s.now (t0 + 100 * psMs) ∧ t.power.actions = rest ∧
        t.power.lastAct = some t.now ∧ (∀ p, t.panelPower p = if p ∈ a.panels then (if a.stage = 1 then { s.panelPower p with srcLimit := false }
          else { s.panelPower p with stopped := false }) else s.panelPower p) ∧
        ∀ p ∈ a.panels, a.stage = 2 → (s.domainOf (memDomain p)).st = .retain → (t.domainOf (memDomain p)).st = .on) ∧
  ((∀ (s : State) (i : Sensor),
    let fault := fun (raw : W16) => if i = .flow then (if raw.toNat < 3600 then 1 else if 21000 < raw.toNat then 2 else 0)
      else if signed 16 raw.toNat < -400 then 1 else if 1500 < signed 16 raw.toNat then 2 else 0
    (∀ raw, (fault raw = 0 ∨ s.power.sensor i ≠ 0 → exec (.coolantSensorFault i raw) s = .next s) ∧
      (fault raw ≠ 0 → s.power.sensor i = 0 → settles (.coolantSensorFault i raw) s (reportFields ++ ([.power] : List Field)) fun u =>
        u.power = s.power.setSensor i (fault raw) ∧ u.limitNow = 4650 ∧ s.firedMore u 0x0A0C ∧ s.hasRaised u 0xFF64 0x0A0C)) ∧
    ∀ v : SensorReading, (fault v.raw ≠ 0 ∨ s.power.sensor i = 0 → exec (.coolantSensorRecovered i v) s = .next s) ∧
      (fault v.raw = 0 → s.power.sensor i ≠ 0 → settles (.coolantSensorRecovered i v) s [.power] fun u =>
        (i = .tin → u.power = { s.power with tinFault := 0, tin := v.value.toNat }) ∧
        (i = .tout → u.power = { s.power with toutFault := 0, tout := v.value.toNat }) ∧
        (i = .flow → u.power = { s.power with flowFault := 0, flow := v.value.toNat }))) ∧
  (∀ (s : State) (tout : W16),
    let hot := decide (s.degrees 5 < signed 16 tout.toNat)
    let read : Power := { s.power with tout := tout.toNat, warned := s.power.warned && hot }
    (hot = true → s.power.warned = false → completes (.outletWarning tout) s [.hostA, .hostB, .cq, .pba, .tier1, .granules, .tier1Bad, .od, .can,
      .det, .log, .logMade, .faultBuffer, .absentEmcy, .segCtr, .power, .out] fun t => t.power = { read with warned := true } ∧
        s.hasRaised t 0xFF65 0) ∧
    (hot = false ∨ s.power.warned = true → completes (.outletWarning tout) s [.power] fun t => t.power = read) ∧
    (s.degrees 7 < signed 16 tout.toNat → settles (.outletShutdown tout) s (fallFields ++ ([.fresh] : List Field)) fun u =>
      ((s.domainOf 0).st ≠ .off → s.shutDown u 0) ∧ ((s.domainOf 0).st = .off → u.power = read)) ∧
    ∀ flow : W16,
      (s.power.thermal = false → s.degrees 6 < signed 16 tout.toNat ∨ flow.toNat < s.setting 0x2930 8 →
        settles (.thermalLimit tout flow) s (reportFields ++ ([.power] : List Field)) fun u => s.firedMore u 0x0A0D ∧ s.hasRaised u 0xFF65 0x0A0D ∧
          u.power = { read with flow := flow.toNat, thermal := true } ∧ u.limitNow = 4650) ∧
      (s.power.thermal = true → signed 16 tout.toNat ≤ s.degrees 6 - 20 → s.setting 0x2930 8 < flow.toNat →
        settles (.thermalLimitEnd tout flow) s [.power] fun u => u.power = { read with flow := flow.toNat, thermal := false })) ∧
  ∀ (s : State) (p : PanelId) (t : W16),
    let q := s.panelPower p.val
    let v := signed 16 t.toNat
    settles (.dieTemperatureChange p t) s (reportFields ++ ([.wafer, .suspects, .moves, .tiles, .power] : List Field)) fun u =>
      (v ≤ 1150 ∨ q.resetAt.isSome = true ∨ s.panelOn p.val = false → s.panelTakes p.val { q with temp := t.toNat, srcDie := decide (s.degrees 9 < v) || (q.srcDie && decide (s.degrees 9 - 50 < v)) } u ∧
        u.suspects = s.suspects ∧ (s.degrees 9 < v → q.srcDie = false → s.firedOnce 0x0A0E u) ∧
        (v ≤ s.degrees 9 ∨ q.srcDie = true → u.det = s.det)) ∧
      (1150 < v → q.resetAt = none → s.panelOn p.val = true → s.panelResets p.val → q.resets = [] → s.inPanelReset p.val u))

/-- The collar's starts (R384 to R390, R417, R427 to R430): a cold start keeps fuses, slots, settings records, the fault log and the
overcurrent latches, and the need of an operator's request, and nothing else of the running machine; without power none begins;
MOD_RST_N makes every domain fall; a warm start keeps all that the
yoke serves. The fuses give the skips and lanes; the first slot in order that passes R427 runs; ROM recovery follows an
uncorrectable fuse word or the failure of every slot; then boot-up is sent, and a TCXO lost while the collar was absent shuts the
module down (R374). The model's choices within it: log 48, 49, 77, 79. -/
def Obligations.CollarStart : Prop :=
  (∀ (s : State) (cause : StartCause) (straps : BitVec 7), (s.domainOf 0).st = .off →
    let fed := (s.power.input ≠ .absent ∧ s.power.input ≠ .reversed) ∨ s.power.standbyOut = false ∨ 5000 ≤ s.power.standbyMv
    (¬ fed → exec (.coldStart cause straps) s = .next s) ∧
    (fed → cause = .supply ∨ (s.up.inReset = true ∧ cause = s.up.cause) ∨
        (s.up.absentAt.isSome = true ∧ (cause = .watchdog ∨ cause = .lockstep)) →
    completes (.coldStart cause straps) s (fallFields ++ ([.nextList, .nextFrame, .beat, .nextWr, .rewardN, .injection, .fw] : List Field)) fun t =>
      t.up = { bringUp0 with
        inReset := false, step := 2, stepAt := s.now, startAt := s.now, cause := cause, slowSpi := s.up.slowSpi
        coldStarts := (s.up.coldStarts + 1) % 2 ^ 32 } ∧ t.power.needRequest = s.power.needRequest ∧
      t.jobs = .empty ∧ t.sessions = .empty ∧ t.tiles = .empty ∧ t.od = .empty ∧ t.wafer = wafer0 ∧ t.beat = { beat0 with carrier := s.beat.carrier } ∧
      t.out = s.out ∧ t.can = { can0 with straps := straps.toNat } ∧ t.fw.records = s.fw.records ∧ (s.faultBuffer = [] → t.log = s.log) ∧
      (∀ b, t.fw.slot b = if (s.fw.slot b).st = .erasing ∨ (s.fw.slot b).st = .writing then slot0 else s.fw.slot b) ∧
      (∀ d, (s.domainOf d).st = .latchedOff → (t.domainOf d).st = .latchedOff) ∧
      (∀ d, (t.domainOf d).st = .off ∨ (t.domainOf d).st = .latchedOff) ∧
      (∀ p, (t.panelPower p).overcurrent = (s.panelPower p).overcurrent ∧ (t.panelPower p).clears = (s.panelPower p).clears) ∧
      (t.replacement = true ↔ s.replacement = true ∧ t.replaceCauses ≠ 0))) ∧
  (∀ s : State, completes .moduleResetAssert s (fallFields ++ ([.injection, .fw] : List Field)) fun t =>
    t.up.inReset = true ∧ t.up.collar = false ∧ t.up.yoke = false ∧ t.up.phase = .collarStart ∧ t.up.step = 1 ∧ t.up.cause = .modRst ∧
    t.power.needRequest = s.power.needRequest ∧ t.can.nmt = .initialising ∧ t.jobs = .empty ∧ t.log = s.log ∧ s.domainsFall t) ∧
  (∀ (s : State) (cause : StartCause) (straps : BitVec 7), s.up.absentAt.isSome = true → (s.domainOf 0).st = .on →
    cause = .watchdog ∨ cause = .lockstep →
    (s.fw.health ≠ 1 → completes (.warmStart cause straps) s [.od, .can, .power, .up, .injection] fun t =>
      t.up = { s.up with warm := true, late := [], cause := cause, startAt := s.now, step := 2, stepAt := s.now } ∧ t.cell 0x2B21 0 = 0 ∧
      t.can = { s.can with straps := straps.toNat } ∧ t.power = { s.power with internalOsc := s.power.refLost }) ∧
    (s.fw.health = 1 → completes (.warmStart cause straps) s (fallFields ++ ([.injection, .fw, .fresh] : List Field)) fun t =>
      s.healthFails t ∧ ((s.fw.slot s.fw.runB).failures < 2 → t.jobs = s.jobs ∧ t.up.warm = true ∧ t.up.step = 2))) ∧
  ∀ s : State, s.up.inReset = false → s.up.collar = false →
    (∀ f : FuseImage, s.up.step = 2 →
      (f.uncorrectable = true → settles (.fuseLoad f) s (reportFields ++ ([.wafer, .fuses] : List Field)) fun u => s.recovers u 1 0x0C31 ∧
        u.fuses = { f with rollback := f.rollback ||| s.fuses.rollback } ∧ u.wafer = s.wafer) ∧
      (f.uncorrectable = false → settles (.fuseLoad f) s (reportFields ++ ([.wafer, .fuses] : List Field)) fun u => u.up = { s.up with step := 3, stepAt := s.now } ∧
        u.fuses = { f with rollback := f.rollback ||| s.fuses.rollback } ∧ (s.up.warm = true → u.wafer = s.wafer) ∧
        (s.up.warm = false → u.wafer = { wafer0 with skip := fusedSkips f, laneFail := fusedLanes f, laneForce := fusedLanes f }))) ∧
    (∀ (ckA : StartChecks) (ckB : ImageChecks), s.up.step = 3 →
      let c := Instr.imageVerify ckA ckB
      let order := if s.up.warm then [s.fw.runB] else s.fw.order
      let sound := fun (b : Bool) => let k := if b then ckB else ckA.slotA
        sizedParts k ∧ k.keyOk = true ∧ k.signatureOk = true ∧ k.collarHashOk = true
      let good := fun (b : Bool) => sound b ∧ s.rollback ≤ (s.fw.slot b).security
      let spoilt := fun (b : Bool) (u : State) => (sound b → (u.fw.slot b).st = .revoked) ∧ (¬ sound b → (u.fw.slot b).st = .invalid)
      (∀ b rest, order = b :: rest → good b → settles c s (reportFields ++ ([.fw] : List Field)) fun u =>
        let x := s.fw.slot b
        let y := if x.st = .standby then { x with st := .trial } else x
        u.up = { s.up with slowSpi := ckA.slowSpi, step := 5, stepAt := s.now } ∧ u.det = s.det ∧ u.fw = { s.fw.setSlot b y with
          runB := b, health := flag (y.st == .pending || y.st == .trial), healthFrom := none }) ∧
      (∀ b d, order = [b, d] → ¬ good b → good d → settles c s (reportFields ++ ([.fw] : List Field)) fun u => u.up.step = 5 ∧ u.fw.runB = d ∧ spoilt b u) ∧
      ((∀ b ∈ order, ¬ good b) → settles c s (reportFields ++ ([.fw] : List Field)) fun u => s.recovers u 2 0x0C32 ∧ ∀ b ∈ order, spoilt b u)) ∧
    (s.up.step = 5 →
      let runs := fun (u : State) => u.up.collar = true ∧ u.up.absentAt = none ∧ u.can.nmt = .preOperational ∧ 1 ≤ u.can.nodeId ∧
        u.can.nodeId ≤ 127 ∧ ∃ brs esi, s.emits u (.can (0x700 + u.can.nodeId) [0#8] brs esi)
      (s.up.warm = true → s.power.refLost = true → (s.domainOf 0).st ≠ .off →
        settles .collarFirmwareStart s (fallFields ++ ([.beat, .fuses, .fw, .fresh] : List Field)) fun u =>
          runs u ∧ u.up.warm = false ∧ u.up.phase = .shutdown ∧ u.power.internalOsc = true ∧ u.can.rate = 0 ∧ u.jobs = .empty) ∧
      (s.up.warm = false ∨ s.power.refLost = false → settles .collarFirmwareStart s (reportFields ++ entryFields ++
        ([.beat, .sessions, .frames, .skips, .setSkips, .tiles, .attach, .plans, .ports, .buckets, .nodes, .power, .fuses, .fw] : List Field)) fun u =>
      runs u ∧ (s.up.warm = false → u.up.phase = .waiting ∧ u.up.step = 6 ∧ u.beat.lock = .search ∧ u.beat.n = 0) ∧
      (s.up.warm = true → u.up.warm = false ∧ u.up.phase = s.up.phase ∧ (s.up.yoke = false → u.up.step = 8) ∧
        (s.up.yoke = true → s.up.phase ≠ .domains → u.up.step = 11) ∧
        (s.up.absentAt.isSome = true → bit (u.setting 0x1014 0) 31 = false → 0xFF74 ∈ u.can.history))))

/-- The yoke's start (R386, R390, R399, R430): with auto-start it begins once the main input has been in range for 100 ms, and never
by itself where an operator's request is needed; YOKE ON, the loaded part and the self-test take it from step 7 to step 10 with
the full grid still to be tested, or back to step 11 after a reset of the yoke alone. A hash mismatch, a failed self-test or a
step past its limit ends the attempt; 1 s later it is repeated. Limits of steps 11a and 11b fail their segment or panel; one for which
R398 gives no other outcome raises EMCY 0xFF02 once. The model's choices within it: log 51. -/
def Obligations.YokeStart : Prop :=
  (∀ (s : State) (t : Nat), s.power.rangeAt = some t → s.up.phase = .waiting →
    (s.setting 0x2A01 1 ≠ 1 ∨ s.power.needRequest = true ∨ s.power.input ≠ .inRange → exec .mainInputQualified s = .next s) ∧
    (s.up.collar = true → s.power.input = .inRange → s.setting 0x2A01 1 = 1 → s.power.needRequest = false → s.power.internalOsc = false →
      (s.domainOf 0).st = .off → completes .mainInputQualified s [.now, .power, .up] fun u => u.now = max s.now (max t s.up.stepAt + 100 * psMs) ∧
        s.domainTakes 0 ⟨.ramping, true, u.now⟩ u ∧ u.up.phase = .yokeStart ∧ u.up.step = 7)) ∧
  (∀ s : State, s.up.step = 7 → (s.domainOf 0).st = .ramping →
    completes .yokeRamp s [.power, .up] (fun t => s.domainTakes 0 ⟨.on, false, 0⟩ t ∧ t.up = { s.up with step := 8, stepAt := s.now }) ∧
    ∀ n, settles (.startupStepTimeout 7 n) s (fallFields ++ ([.now, .injection, .fw, .fresh] : List Field)) fun u => u.now = max s.now ((s.domainOf 0).rampAt + 2 * psMs) ∧
      s.hasRaised u 0xFF02 0 ∧ (u.domainOf 0).st = .off ∧ s.attemptFails u) ∧
  (∀ (s : State) (n : Nat), s.up.collar = true → s.up.phase = .yokeStart → (s.domainOf 0).st = .on →
    let fs := fallFields ++ ([.beat, .injection, .fw, .fresh] : List Field)
    (s.up.step = 8 →
      let late := s.up.slowSpi = false ∧ s.up.stepAt + 170 * psMs < s.now
      (∀ ok, late → exec (.yokeLoad ok) s = .next s) ∧
      (¬ late → settles (.yokeLoad true) s fs fun u => u.up = { s.up with step := 9, stepAt := s.now } ∧ u.fw = s.fw) ∧
      (¬ late → settles (.yokeLoad false) s fs fun u => s.yokeStartFails u 0x0C33 ∧ s.firedMore u 0x0E02 ∧
        (s.fw.health ≠ 1 ∨ (s.fw.slot s.fw.runB).failures < 2 → (u.fw.slot s.fw.runB).st = .invalid)) ∧
      (s.up.slowSpi = true → exec (.startupStepTimeout 8 n) s = .next s) ∧
      (s.up.slowSpi = false → settles (.startupStepTimeout 8 n) s (fs ++ ([.now] : List Field)) fun u => u.now = max s.now (s.up.stepAt + 170 * psMs) ∧ s.yokeStartFails u 0x0C34)) ∧
    (s.up.step = 9 →
      let late := s.up.stepAt + 50 * psMs < s.now
      (∀ ok, late → exec (.yokeSelfTest ok) s = .next s) ∧
      (¬ late → settles (.yokeSelfTest false) s fs fun u => s.yokeStartFails u 0x0C34) ∧
      (¬ late → settles (.yokeSelfTest true) s fs fun u => u.up.yoke = true ∧ u.up.failedYoke = 0 ∧ u.up.yokeOnly = false ∧
        u.up.rebuildMode = u.setting 0x2002 0 ∧
        (s.up.yokeOnly = true → s.domainsIdle = false → u.up.step = 11 ∧ u.wafer = s.wafer) ∧
        (s.up.yokeOnly = false ∨ s.domainsIdle = true → u.up.phase = .domains ∧ u.up.step = 10 ∧ u.wafer.mode = 0 ∧ u.wafer.epoch = 0 ∧
          u.wafer.skip = s.wafer.skip ∧ ∀ p, (u.wafer.panelOf p).mode = .active)) ∧
      settles (.startupStepTimeout 9 n) s (fs ++ ([.now] : List Field)) fun u => u.now = max s.now (s.up.stepAt + 50 * psMs) ∧ s.yokeStartFails u 0x0C34)) ∧
  (∀ (s : State) (t : Nat), s.up.retryAt = some t → s.up.collar = true → (s.domainOf 0).st = .off → s.up.phase = .yokeStart →
    s.power.input = .inRange ∨ s.power.input = .high → s.power.internalOsc = false →
    completes .yokeStartRetry s [.now, .power, .up] fun u => u.now = max s.now t ∧ s.domainTakes 0 ⟨.ramping, true, u.now⟩ u ∧
      u.up.phase = .yokeStart ∧ u.up.step = 7 ∧ u.up.retryAt = none ∧ u.up.failedYoke = s.up.failedYoke) ∧
  (∀ (s : State) (g : SegId), s.up.yoke = true → (s.domainOf (1 + g.val)).st = .on →
    let x := s.segOfUp g.val
    let fs := reportFields ++ ([.now, .power, .fw] : List Field)
    (x.st = 1 → settles (.startupStepTimeout 11 g.val) s fs fun u => u.now = max s.now (x.since + 50 * psMs) ∧
      (x.attempts + 1 < 3 → u.segOfUp g.val = ⟨1, x.attempts + 1, 0, u.now⟩) ∧
      (3 ≤ x.attempts + 1 → (u.segOfUp g.val).st = 4 ∧ s.firedMore u 0x0C38 ∧ s.hasRaised u 0xFF02 0x0C38)) ∧
    (x.st = 2 → settles (.startupStepTimeout 11 g.val) s fs fun u => u.now = max s.now (x.since + 600 * psMs) ∧
      (u.segOfUp g.val).st = 5 ∧ s.firedMore u 0x0C38 ∧ s.hasRaised u 0xFF02 0x0C38)) ∧
  (∀ (s : State) (p : PanelId), s.panelTests p.val = true → settles (.startupStepTimeout 12 p.val) s (reportFields ++ ([.now, .power] : List Field)) fun u =>
    u.now = max s.now (s.up.panelAt.get 0 p.val + 10 * psMs) ∧ (u.panelPower p.val).pll = false ∧ bit (u.panelUp p.val) 17 = true ∧
      u.up.ended.get false p.val = true ∧ s.hasRaised u 0xFF02 0) ∧
  ∀ (s : State) (n unit : Nat),
    let key := n * 256 + unit
    let c := Instr.startupStepTimeout n unit
    let starting := s.up.inReset = false ∧ s.up.collar = false ∧ s.up.step = (if n = 4 then 3 else n)
    let reports := fun (at_ : Nat) => (key ∈ s.up.late → exec c s = .next s) ∧
      (key ∉ s.up.late → settles c s (reportFields ++ ([.now] : List Field)) fun u => u.now = max s.now at_ ∧
        u.up = { s.up with late := key :: s.up.late } ∧ s.hasRaised u 0xFF02 0)
    (∀ t, n = 1 → s.up.step = 1 → s.up.absentAt = some t → reports (t + 20 * psMs)) ∧
    (n = 2 → starting → reports (s.up.stepAt + 2 * psMs)) ∧ (n = 5 → starting → reports (s.up.stepAt + 30 * psMs)) ∧
    (n = 3 → starting → s.up.slowSpi = false → reports (s.up.stepAt + 15 * psMs)) ∧
    (n = 4 → starting → s.up.slowSpi = false → reports (s.up.stepAt + 75 * psMs)) ∧
    (n = 10 → s.domainsRun = true → reports (s.up.stepAt + 30 * psMs)) ∧
    (n = 13 → s.up.yoke = true → s.up.built = false → (∀ p, p < 64 → s.up.ended.get false p = true) → reports (s.up.endedAt + 7 * psMs)) ∧
    (n = 14 → unit < 2 → s.up.yoke = true → (s.domainOf (17 + unit)).st = .on → (s.host (fnOf unit)).up = false → reports s.now)

/-- Bring-up of the units (R391 to R394, R398): step 10 asks for every domain but those of panels that their latch holds off; a
segment trains, in three attempts, is scrubbed to zeros and serves; a panel's failed tiles cost a gusset or the panel; the grid of
epoch 0 is built without what is LOST, a seam with three failed lanes among it, in the mode of 0x2002 that step 9 loaded. A result
after the step's limit counts for nothing. The model's choices within it: log 13, 73. -/
def Obligations.UnitBringUp : Prop :=
  (∀ s : State, s.up.yoke = true → s.up.collar = true → s.up.phase = .domains → s.up.step = 10 →
    settles .domainPowerUp s (reportFields ++ ([.power, .fw] : List Field)) fun u => u.up.step = 11 ∧
      ∀ d, let held := 27 ≤ d ∧ d < 155 ∧ (s.panelPower (domainPanel d)).overcurrent = true
        (0 < d → d < 171 → (s.domainOf d).st = .off → ¬ held →
          (u.domainOf d).wanted = true ∧ ((u.domainOf d).st = .off ∨ (u.domainOf d).st = .ramping)) ∧
        (held → (s.domainOf d).wanted = false → u.domainOf d = s.domainOf d) ∧ ((s.domainOf d).st ≠ .off → u.domainOf d = s.domainOf d) ∧
        (held → bit (u.panelUp (domainPanel d)) 19 = true ∧ u.up.ended.get false (domainPanel d) = true)) ∧
  (∀ (s : State) (g : SegId), s.up.yoke = true → (s.domainOf (1 + g.val)).st = .on →
    let x := s.segOfUp g.val
    (∀ ok, x.st = 1 → x.since + 50 * psMs < s.now → exec (.dramTrainingDone g ok) s = .next s) ∧
    (x.st = 1 → s.now ≤ x.since + 50 * psMs →
      (settles (.dramTrainingDone g true) s (reportFields ++ ([.power, .fw] : List Field)) fun u => u.segOfUp g.val = ⟨2, x.attempts + 1, 0, s.now⟩) ∧
      settles (.dramTrainingDone g false) s (reportFields ++ ([.power, .fw] : List Field)) fun u =>
        (x.attempts + 1 < 3 → u.segOfUp g.val = ⟨1, x.attempts + 1, 0, s.now⟩) ∧
        (3 ≤ x.attempts + 1 → (u.segOfUp g.val).st = 4 ∧ s.firedMore u 0x0C38 ∧ s.hasRaised u 0xFF02 0x0C38)) ∧
    ∀ ms : W16, x.st = 2 → ms.toNat ≤ 600 → settles (.segmentScrubDone g ms) s (reportFields ++ ([.now, .dram, .fw] : List Field)) fun u =>
      u.now = max s.now (x.since + ms.toNat * psMs) ∧ u.segOfUp g.val = { x with st := 3, scrubMs := ms.toNat } ∧
      (s.dram = .empty → u.up.patrolAt = u.now + 86400 * psS) ∧ ((∃ j, s.dram.get false j = true) → u.up.patrolAt = s.up.patrolAt) ∧
      u.dram.get false g.val = true ∧ (∀ j, j ≠ g.val → u.dram.get false j = s.dram.get false j) ∧
      (∀ a, u.tier1.read a = if segOf a = g.val then 0#8 else s.tier1.read a) ∧
      ∀ k, u.granules.get false k = (s.granules.get false k && segOf (k * 65536) != g.val)) ∧
  (∀ (s : State) (p : PanelId) (ok : Bool) (l : List (Pos12 × Pos12)), s.up.panelAt.get 0 p.val + 10 * psMs < s.now →
    exec (.panelSelfTestDone p ok l) s = .next s) ∧
  (∀ (s : State) (p : PanelId), s.panelTests p.val = true → s.now ≤ s.up.panelAt.get 0 p.val + 10 * psMs →
    let fs := reportFields ++ ([.wafer, .tiles, .power] : List Field)
    let tested := fun (u : State) => u.up.ended.get false p.val = true ∧ (∀ k, keyPanel k ≠ p.val → u.tileOf k = s.tileOf k) ∧
      ∀ k, keyPanel k = p.val → ∀ st l, (u.tileOf k).isWritten st l = false
    (settles (.panelSelfTestDone p false []) s fs fun u => (u.panelPower p.val).pll = false ∧ bit (u.panelUp p.val) 17 = true ∧
      u.up.ended.get false p.val = true ∧ s.hasRaised u 0xFF02 0) ∧
    (settles (.panelSelfTestDone p true []) s fs fun u => tested u ∧ u.wafer = s.wafer ∧ u.panelUp p.val = s.panelUp p.val ∧ u.det = s.det) ∧
    ∀ r c : Pos12, let row := p.val * 12 + r.val
      let sk := s.wafer.skipOf p.val r.val
      let spent := s.wafer.spent.get false row
      settles (.panelSelfTestDone p true [(r, c)]) s fs fun u => tested u ∧ s.firedMore u 0x0C36 ∧
        (u.tileOf (p.val * 144 + r.val * 12 + c.val)).fenced = true ∧
        bits (u.panelUp p.val) 15 12 = min 15 (bits (s.panelUp p.val) 15 12 + 1) ∧
        (c.val = sk → u.wafer.skip = s.wafer.skip ∧ u.wafer.spent.get false row = (spent || sk == 11)) ∧
        (c.val ≠ sk → sk = 11 → spent = false → u.wafer.skipOf p.val r.val = c.val ∧ u.wafer.repaired.get false row = true ∧
          bit (u.panelUp p.val) r.val = true) ∧
        (c.val ≠ sk → sk ≠ 11 ∨ spent = true → u.wafer.skip = s.wafer.skip ∧ bit (u.panelUp p.val) 18 = true ∧
          (bit (s.panelUp p.val) 18 = false → s.hasRaised u 0xFF02 0x0C36))) ∧
  ∀ s : State, s.up.yoke = true → s.up.built = false → (∀ p, p < 64 → s.up.ended.get false p = true) →
    let fs := reportFields ++ entryFields ++ ([.wafer, .sessions, .frames, .skips, .setSkips, .tiles, .attach, .plans, .power, .fw] : List Field)
    let lost := fun (p : Nat) => 2 ^ 16 ≤ s.panelUp p ∨ ∃ e lo, 1 ≤ e ∧ e ≤ 112 ∧ seamPanels e = some (lo, p) ∧
      (3 ≤ popcount 14 (s.wafer.laneFail.get 0 (e * 2)) ∨ 3 ≤ popcount 14 (s.wafer.laneFail.get 0 (e * 2 + 1)))
    let m := s.up.rebuildMode
    (settles (.gridBuild []) s fs fun u => u.up.built = true ∧ u.wafer.epoch = 0 ∧ u.wafer.skip = s.wafer.skip ∧
      u.wafer.laneForce = s.wafer.laneFail ∧ ((∃ p, p < 64 ∧ lost p) → u.wafer.mode = min m 3) ∧ ((∀ p, p < 64 → ¬ lost p) → u.wafer.mode = 0) ∧
      ∀ p, p < 64 →
        let out := (m = 1 ∧ ∃ y, y < 8 ∧ lost (y * 8 + p % 8)) ∨ (m = 2 ∧ ∃ x, x < 8 ∧ lost (p / 8 * 8 + x))
        (lost p → (u.wafer.panelOf p).mode = .lost) ∧ (¬ lost p → out → (u.wafer.panelOf p).mode = .removed) ∧
        (¬ lost p → ¬ out → (u.wafer.panelOf p).mode = .active) ∧
        (lost p ∨ out → ((u.domainOf (coreDomain p)).st = .off ∨ (u.domainOf (coreDomain p)).st = .latchedOff) ∧
          ((u.domainOf (memDomain p)).st = .off ∨ (u.domainOf (memDomain p)).st = .latchedOff))) ∧
    ∀ (e : Fin 144) (d : Fin 2) (n : Fin 14),
      let key := (e.val + 1) * 2 + d.val
      let v := setBit (s.wafer.laneFail.get 0 key) n.val
      settles (.gridBuild [(e, d, n)]) s fs fun u => u.up.built = true ∧
        u.wafer.laneFail.get 0 key = v ∧ u.wafer.laneForce = u.wafer.laneFail ∧ s.firedMore u 0x0C37 ∧
        ∀ lo hi, seamPanels (e.val + 1) = some (lo, hi) → 3 ≤ popcount 14 v → (u.wafer.panelOf hi).mode = .lost

/-- Failed tiles and panels (R199, R402 to R411, R443): at its fence a tile counts as fenced; outside the grid, or as its row's
skipped column, nothing else follows, though a gusset is spent; with no gusset left its panel is LOST; else its row is remapped
with one epoch step, the columns past it move one place east and pause, and the replacement is empty. At the move's end the row
goes on and a TSTART that holds a place starts a task. A lost panel ends every job's work and the grid is rebuilt; a panel's reset
fences its tiles together and leaves the translation, and its return brings them back unwritten, each failed one suspect. The
model's choices within it: log 14, 52. -/
def Obligations.TileAndPanelFences : Prop :=
  (∀ (s : State) (x : PhysTile),
    let k := tileKey x
    let p := keyPanel k
    let n := keyRow k
    let c := keyCol k
    let row := p * 12 + n
    let base := p * 144 + n * 12
    let sk := s.wafer.skipOf p n
    let cmd := Instr.tileFence x
    let fs := reportFields ++ entryFields ++ ([.wafer, .sessions, .jobs, .frames, .skips, .setSkips, .suspects, .moves, .tiles, .mesh, .attach, .plans] : List Field)
    let inGrid := (s.wafer.panelOf p).mode = .active
    (s.fenceDue (.tile k) = false → exec cmd s = .next s) ∧
    (s.fenceDue (.tile k) = true →
      (¬ inGrid → settles cmd s fs fun u => s.tileOut k u ∧ u.wafer = s.wafer ∧ u.jobs = s.jobs ∧ u.frames = s.frames) ∧
      (inGrid → c = sk → settles cmd s fs fun u => s.tileOut k u ∧ u.jobs = s.jobs ∧ u.frames = s.frames ∧ u.wafer.skip = s.wafer.skip ∧
        u.wafer.epoch = s.wafer.epoch ∧ u.wafer.spent.get false row = (s.wafer.spent.get false row || sk == 11)) ∧
      (inGrid → c ≠ sk → s.losesPanel k = true → settles cmd s fs fun u => s.tileOut k u ∧ s.usersHit [k] u ∧ u.panelLost p = true ∧
        u.wafer.skip = s.wafer.skip ∧ u.wafer.epoch = s.wafer.epoch ∧ (s.panelLost p = false → s.hasRaised u 0xFF71 0x0C08)) ∧
      (inGrid → c ≠ sk → s.losesPanel k = false → settles cmd s fs fun u => s.tileOut k u ∧ s.usersHit [k] u ∧
        u.wafer.skip = s.wafer.skip.set row c ∧ u.wafer.repaired.get false row = true ∧ s.epochSteps u ∧
        u.moves.find row = some ⟨c, s.now + moveCycles c * psUs / max 1 (s.panelPower p).mhz⟩ ∧
        s.hasRaised u 0xFF70 (s.suspectDet (.tile k)) ∧ u.cell 0x2B40 1 = p + n * 64 + c * 1024 + moveCycles c * 65536 ∧
        (∀ j, c + 2 ≤ j → j < 12 → (u.tileOf (base + j)).paused = true ∧ (u.tileOf (base + j)).w = (s.tileOf (base + j - 1)).w ∧
          (u.tileOf (base + j)).a = (s.tileOf (base + j - 1)).a ∧ (u.tileOf (base + j)).p = (s.tileOf (base + j - 1)).p) ∧
        ∀ st l, (u.tileOf (base + c + 1)).isWritten st l = false))) ∧
  (∀ (s : State) (p : PanelId) (row : Pos12) (m : StoreMove), s.moves.find (p.val * 12 + row.val) = some m →
    let g := p.val * 12 + row.val
    let r := g * 12 + m.col + 1
    completes (.storeMoveEnd p row) s [.now, .tier1Bad, .det, .log, .logMade, .faultBuffer, .suspects, .moves, .tiles, .segCtr] fun t =>
      t.now = max s.now m.endsAt ∧ t.moves = s.moves.erase g ∧ (∀ k, k / 12 = g → (t.tileOf k).paused = false) ∧
      (∀ k, k ≠ r → t.tileOf k = { s.tileOf k with paused := (s.tileOf k).paused && k / 12 != g }) ∧
      (s.jobAt r = none → t.tileOf r = { s.tileOf r with paused := (s.tileOf r).paused && r / 12 != g, restart := none }) ∧
      ∀ j id i e, s.jobAt r = some j → (s.tileOf r).restart = some (id, i) → s.entryOf id i = some e →
        (t.tileOf r).task = some ⟨id, e.idx, j, none, none, 0⟩ ∧ (t.tileOf r).restart = none) ∧
  (∀ (s : State) (p : PanelId) (cause : Nat), s.fenceDue (.panel p.val cause) = true →
    let m := if s.wafer.mode ≠ 0 then s.wafer.mode else s.setting 0x2002 0
    let lost := fun (q : Nat) => (s.wafer.panelOf q).mode = .lost ∨ ∃ d, s.fenceDue (.panel q d) = true
    settles .panelLossRebuild s (reportFields ++ entryFields ++ ([.wafer, .sessions, .jobs, .frames, .skips, .setSkips, .suspects, .tiles, .attach, .plans, .power] : List Field))
      fun u => u.wafer.mode = min m 3 ∧ u.rebuiltAs m lost ∧ s.epochSteps u ∧ u.wafer.skip = s.wafer.skip ∧ s.hasRaised u 0xFF72 0 ∧
        u.cell 0x2B00 4 = (s.cell 0x2B00 4 + 1) % 2 ^ 64 ∧ (∀ q d, s.fenceDue (.panel q d) = true → u.isSuspect (.panel q d) = false) ∧
        (∀ j, (u.jobOf j).st ≠ .opened) ∧ (∀ k, u.attach.find k = none) ∧ (∀ k, (u.tileOf k).task = none ∧ (u.tileOf k).resident = false) ∧
        ∀ k q, u.plans.find k = some q → q.st ≠ .active ∧ q.st ≠ .staging) ∧
  (∀ (s : State) (p : PanelId),
    (s.fenceDue (.panelReset p.val) = false → exec (.panelResetFence p) s = .next s) ∧
    (s.fenceDue (.panelReset p.val) = true →
      settles (.panelResetFence p) s (reportFields ++ entryFields ++ ([.wafer, .sessions, .jobs, .frames, .suspects, .tiles, .attach, .plans] : List Field)) fun u =>
        u.wafer = { s.wafer with panel := s.wafer.panel.set p.val { s.wafer.panelOf p.val with resetting := true } } ∧
        u.isSuspect (.panelReset p.val) = false ∧ s.usersHit (s.panelTiles p.val) u ∧ ∀ k ∈ s.panelTiles p.val, (u.tileOf k).task = none)) ∧
  ∀ (s : State) (p : PanelId), (s.wafer.panelOf p.val).resetting = true → (s.panelPower p.val).released = true →
    let fs := reportFields ++ ([.wafer, .suspects, .tiles, .power] : List Field)
    let back := fun (u : State) => u.wafer = { s.wafer with panel := s.wafer.panel.set p.val { s.wafer.panelOf p.val with resetting := false } } ∧
      s.panelTakes p.val { s.panelPower p.val with released := false } u ∧ ∀ k, keyPanel k ≠ p.val → u.tileOf k = s.tileOf k
    let anew := fun (u : State) (k : Nat) => u.tileOf k = { tile0 with fenced := (s.tileOf k).fenced, ctxs := emptyContexts (s.tileOf k).ctxs }
    (settles (.panelReturn p []) s fs fun u => back u ∧ (s.openJobs = [] → ∀ k, keyPanel k = p.val → anew u k)) ∧
    ∀ r c : Pos12, let out := p.val * 144 + r.val * 12 + c.val
      (s.tileOf out).fenced = false → settles (.panelReturn p [(r, c)]) s fs fun u => back u ∧ u.tileOf out = s.tileOf out ∧
        u.isSuspect (.tile out) = true ∧ s.firedMore u 0x0C36 ∧ (s.openJobs = [] → ∀ k, keyPanel k = p.val → k ≠ out → anew u k)

/-- Owners, the yoke and the collar (R412 to R417, R431): a lease that has expired fires 0x0C05 and makes its owner suspect; at the
fence a function's rings are disabled and its jobs closed, a job is ABORTED and loses its connections and counters while its
channels drain, a segment is out, the yoke starts again. A channel drains, or is quarantined and its segment suspect. A failed
yoke aborts every job, a failed collar is absent, and after 2 s of absence the module shuts down. The model's choices within it:
log 14, 53. -/
def Obligations.OwnersAndFailures : Prop :=
  (∀ (s : State) (kind : BitVec 4) (number : W16),
    let k := kind.toNat
    let n := number.toNat
    let u0 := ownerUnit k n
    let det := s.suspectDet u0
    let cmd := Instr.ownerFence kind number
    (∀ e, s.leases.find (ownerKey k n) = some e →
      (s.lineNow < e → exec (.leaseExpiry kind number) s = .next s) ∧
      (e ≤ s.lineNow → settles (.leaseExpiry kind number) s (reportFields ++ ([.suspects, .leases] : List Field)) fun u => s.firedOnce 0x0C05 u ∧ s.suspects1 u0 u ∧
        u.leases = s.leases.erase (ownerKey k n))) ∧
    (s.fenceDue u0 = false → exec cmd s = .next s) ∧
    (s.fenceDue u0 = true →
      let fs := reportFields ++ entryFields ++
        ([.sessions, .sq, .jobs, .frames, .skips, .setSkips, .dram, .suspects, .leases, .tiles, .attach, .plans, .segs, .conns, .wrs, .ctrs, .fresh] : List Field)
      (k = 1 → settles cmd s fs fun u => s.ownerOut u0 det u ∧ (u.host (fnOf n)).flr = false ∧
        (∀ i r, s.sq.find i = some r → u.sq.find i = some (if r.owner = fnOf n then { r with enable := false, reserved := 0 } else r)) ∧
        (∀ i, (s.cqOf i).owner = fnOf n → (u.cqOf i).enable = false) ∧ ∀ j, (s.jobOf j).owner = fnOf n → (u.jobOf j).st = .free) ∧
      (k = 2 → (s.jobOf n).st = .free → settles cmd s [.suspects] fun u => u.isSuspect u0 = false) ∧
      (k = 2 → (s.jobOf n).st ≠ .free → settles cmd s fs fun u => s.ownerOut u0 det u ∧ (u.jobOf n).fenced = true ∧ (u.jobOf n).st = .aborted ∧
        (∀ i c, u.conns.find i = some c → c.job ≠ n) ∧ (∀ i c, u.ctrs.find i = some c → c.job ≠ n) ∧
        ∀ i c, s.dma.find i = some c → c.holder = some (2, n) → c.drainSince = none → u.dma.find i = some { c with drainSince := some s.now }) ∧
      (k = 4 → settles cmd s fs fun u => u.yokeOut ∧ s.hasRaised u 0xFF73 det ∧ u.isSuspect u0 = false) ∧
      (k = 5 → settles cmd s fs fun u => u.dram.get false n = false ∧ u.isSuspect u0 = false ∧
        u.up.segs.find n = some (if (det = 0x0A07 ∨ det = 0x0B01 ∨ det = 0x0B02) ∧ (s.domainOf (1 + n)).st = .on then ⟨1, 0, 0, s.now⟩ else ⟨7, 0, 0, 0⟩) ∧
        ∀ j, (s.jobOf j).st = .opened → (s.jobOf j).elastic = false → s.usesSeg j (s.jobOf j) n = true → (u.jobOf j).st = .aborted))) ∧
  (∀ (s : State) (g : SegId) (ch : Fin 32) (c : DmaCh) (t : Nat), s.dma.find (g.val * 32 + ch.val) = some c → c.drainSince = some t → c.quarantined = false →
    let key := g.val * 32 + ch.val
    (completes (.dmaDrainDone g ch) s [.dma] fun u => u.dma = s.dma.set key { c with holder := none, entry := none, drainSince := none }) ∧
    settles (.drainTimeout g ch) s (reportFields ++ ([.now, .suspects, .dma] : List Field)) fun u => u.now = max s.now (t + s.setting 0x2B01 3 * psUs) ∧
      u.dma = s.dma.set key { c with quarantined := true } ∧ s.firedMore u 0x0C06 ∧ s.suspects1 (.dram g.val) u) ∧
  (∀ (s : State) (p : Path) (v : W16), s.canWrite p 0x2B31 0 = true →
    (v.toNat = 0xFFFF ∨ (v.toNat < 1024 ∧ (s.jobOf v.toNat).st = .free) → completes (.fenceJob p v) s [] fun _ => True) ∧
    (1024 ≤ v.toNat → v.toNat ≠ 0xFFFF → s.refusesWrite (.fenceJob p v) p 0x2B31 0 0x06090030) ∧
    (v.toNat < 1024 → (s.jobOf v.toNat).st ≠ .free → completes (.fenceJob p v) s [.suspects] (s.suspects1 (.owner 2 v.toNat)))) ∧
  (∀ (s : State) (cause : Fin 3), s.up.yoke = true →
    let det := if cause.val = 0 then 0x0C01 else 0
    settles (.yokeFailure cause) s (fallFields ++ ([.injection, .fw, .fresh] : List Field)) fun u =>
      (cause.val ≠ 0 ∨ s.fw.health ≠ 1 ∨ (s.fw.slot s.fw.runB).failures < 2 ∨ s.linksUp ≤ 4 → s.hasRaised u 0xFF73 det) ∧ (cause.val = 0 → s.firedMore u 0x0C01) ∧
      (cause.val = 0 → s.fw.health = 1 → s.healthFails u) ∧
      (cause.val ≠ 0 ∨ s.fw.health ≠ 1 → u.yokeOut ∧ u.wafer = s.wafer ∧ u.fw = s.fw ∧ (∀ d, u.domainOf d = s.domainOf d) ∧
        ∀ k, (u.tileOf k).task = none ∧ (u.tileOf k).w = (s.tileOf k).w)) ∧
  (∀ (s : State) (lockstep : Bool), s.up.collar = true →
    settles (.collarFailure lockstep) s (reportFields ++ ([.injection, .fw] : List Field)) fun u => u.up.collar = false ∧ u.up.absentAt = s.up.absentAt.or (some s.now) ∧
      u.can.nmt = .initialising ∧ u.can.queue = [] ∧ u.can.sdo = none ∧ s.firedOnce (if lockstep then 0x0C02 else 0x0C03) u ∧
      u.cell 0x2B00 8 = (s.cell 0x2B00 8 + 1) % 2 ^ 64) ∧
  ∀ (s : State) (t : Nat), s.up.absentAt = some t →
    ((s.domainOf 0).st ≠ .on → exec .collarAbsentTimeout s = .next s) ∧
    ((s.domainOf 0).st = .on → settles .collarAbsentTimeout s (fallFields ++ ([.now, .fresh] : List Field)) fun u => u.now = max s.now (t + 2 * psS) ∧
      s.firedMore u 0x0C04 ∧ s.shutDown u 0x0C04)

/-- Service actions (R354, R418, R419, R421 to R423): a grid restore is refused while a job lives, begins at the next boundary, before the
first lock at once, switches the stages of what can come back on under the ramp rules, and takes effect at the first boundary at which
none of them ramps; a replacement request clears once no cause holds; the fault log clears on its signature. An
injection is armed under the checks of R421 and disarmed; it fires once a boundary from its start stamp until COUNT, counted as a
firing, and in mode ACT with its detector's consequence. The model's choices within it: log 14, 54, 60, 76, 82. -/
def Obligations.ServiceActions : Prop :=
  (∀ (s : State) (p : Path) (v : Byte) (failed : List PanelId), s.canWrite p 0x2B30 1 = true →
    let c := Instr.gridRestore p v failed
    let bad := failed.map fun q => q.val
    let back := fun (q : Nat) => q < 64 ∧ (s.wafer.panelOf q).mode ≠ .active ∧ s.restoreStays bad q = false
    let fs := reportFields ++ entryFields ++ ([.wafer, .sessions, .frames, .skips, .setSkips, .tiles, .attach, .plans, .power] : List Field)
    (1 < v.toNat → s.refusesWrite c p 0x2B30 1 0x06090030) ∧
    (v.toNat = 0 → settles c s [] fun _ => True) ∧
    (v.toNat = 1 → s.liveJobs ≠ [] → s.refusesWrite c p 0x2B30 1 0x08000022) ∧
    (v.toNat = 1 → s.liveJobs = [] → s.beat.lock ≠ .search → settles c s [.up] fun u => u.up = { s.up with restore := some (bad, false) }) ∧
    (v.toNat = 1 → s.liveJobs = [] → s.beat.lock = .search → s.wafer.laneForce = s.wafer.laneFail → s.wafer.passForce = s.wafer.passFail →
      s.wafer.laneKept = .empty →
      ((∀ q, ¬ back q) → settles c s fs fun u => s.restored u bad ∧ s.epochSteps u) ∧
      (s.power.input = .inRange → s.power.internalOsc = false →
        (∃ q, back q ∧ (s.domainOf (memDomain q)).st = .off ∧ s.needsMet (memDomain q) = true) → settles c s fs fun u =>
          u.up.restore = some (bad, true) ∧ u.wafer = s.wafer ∧ ∀ q d, back q → d = memDomain q ∨ d = coreDomain q →
            (s.domainOf d).st = .off → (u.domainOf d).wanted = true ∧ ((u.domainOf d).st = .off ∨ (u.domainOf d).st = .ramping)))) ∧
  (∀ (s : State) (bad : List Nat) (begun : Bool), s.up.restore = some (bad, begun) → s.beat.lock ≠ .search → s.beat.held = 0 →
    (s.beat.lock = .locked → s.beat.decided = true) → s.wafer.laneForce = s.wafer.laneFail → s.wafer.passForce = s.wafer.passFail →
    s.wafer.laneKept = .empty →
    let fs := reportFields ++ entryFields ++ ([.now, .wafer, .beat, .sessions, .frames, .skips, .setSkips, .leases, .tiles, .attach, .plans,
      .power] : List Field)
    (begun = true → s.restoreBusy bad = true → settles .lineBoundary s fs fun u => u.up.restore = some (bad, true) ∧ u.wafer = s.wafer) ∧
    (begun = true → s.restoreBusy bad = false → settles .lineBoundary s fs fun u => s.restored u bad ∧
      (s.wafer.epochN ≠ some (s.beat.n + 1) → u.wafer.epoch = s.wafer.epoch + 1)) ∧
    (begun = false → s.restorable bad = [] → settles .lineBoundary s fs fun u => s.restored u bad)) ∧
  (∀ (s : State) (p : Path) (v : Byte), s.canWrite p 0x2B50 4 = true →
    let c := Instr.replacementClear p v
    (1 < v.toNat → s.refusesWrite c p 0x2B50 4 0x06090030) ∧
    (v.toNat = 0 ∨ (v.toNat = 1 ∧ s.replaceCauses ≠ 0) → settles c s [] fun _ => True) ∧
    (v.toNat = 1 → s.replaceCauses = 0 → settles c s [.od, .replacement] fun u => u.replacement = false ∧ u.cell 0x2B50 3 = 0)) ∧
  (∀ (s : State) (p : Path) (v : W32), s.canWrite p 0x2B12 0 = true →
    (v.toNat = 0x61656C63 → completes (.faultLogClear p v) s [.log, .logMade] fun t => t.log = .empty ∧ t.logMade = 0) ∧
    (v.toNat ≠ 0x61656C63 → s.refusesWrite (.faultLogClear p v) p 0x2B12 0 0x08000020)) ∧
  (∀ (s : State) (p : Path), s.canWrite p 0x2B20 6 = true →
    let d := s.cell 0x2B20 1
    let x := s.injTarget d (s.cell 0x2B20 2)
    let c := Instr.injectionArm p
    (detectorDefined d = false ∨ x.1 = false → s.refusesWrite c p 0x2B20 6 0x06090030) ∧
    (detectorDefined d = true → x.1 = true →
      (s.cell 0x2B21 0 = 0 ∨ s.injection.armed = true ∨ x.2 = false → s.refusesWrite c p 0x2B20 6 0x08000022) ∧
      (s.cell 0x2B21 0 ≠ 0 → s.injection.armed = false → x.2 = true → completes c s [.injection] fun t => t.injection = ⟨true, 0, some s.beat.n, false⟩)) ∧
    completes (.injectionDisarm p) s [.injection] fun t => t.injection = { s.injection with armed := false }) ∧
  ∀ s : State,
    let d := s.cell 0x2B20 1
    let n := s.cell 0x2B20 2
    let act := s.cell 0x2B20 3
    (¬ s.injectionDue → exec .injectionFire s = .next s) ∧
    (s.injectionDue → s.can.sdoHeld = none →
      let kind := if d = 0x0C05 then s.cell 0x2B20 9 else 0
      (act ≠ 1 ∨ (∀ x, ({ s with injection := x }).injAct d n = none) → settles .injectionFire s (reportFields ++ ([.injection, .tiles] : List Field)) fun u => s.injectionFires u ∧
        (d / 256 ≤ 8 → s.up.collar = true → s.logRepeat d n kind = none →
          u.log.find (s.logMade % 256) = some ⟨s.stamp, d, n, 0, true, kind, 1, s.now⟩)) ∧
      (act = 1 → d = 0x0101 ∨ d = 0x0102 → ∀ k, s.unitTile n = some k →
        settles .injectionFire s (reportFields ++ ([.suspects, .injection] : List Field)) fun u => s.injectionFires u ∧ s.suspects1 (.tile k) u) ∧
      (act = 1 → d = 0x0A05 → settles .injectionFire s (reportFields ++ ([.wafer, .suspects, .moves, .injection, .tiles, .power] : List Field)) fun u =>
        s.injectionFires u ∧ s.hasRaised u 0xFF62 d ∧ u.panelLost n = true ∧ (u.panelPower n).overcurrent = true ∧ (u.panelPower n).ocInjected = true ∧
        (u.domainOf (coreDomain n)).st = .latchedOff ∧ (u.domainOf (memDomain n)).st = .latchedOff) ∧
      (act = 1 → d = 0x0C01 → s.up.yoke = true → s.fw.health ≠ 1 →
        settles .injectionFire s (reportFields ++ entryFields ++ ([.injection, .sessions, .jobs, .frames, .tiles, .attach, .plans] : List Field)) fun u =>
          s.injectionFires u ∧ u.yokeOut))

/-- Updates (R427, R433 to R436): BEGIN is refused as R434 says, waits for a store, or makes the slot that does not run ERASING; after
the erase it is WRITING, bytes of the image are programmed and the last begins the verification, whose outcome is the slot's
state, the result, EMCY 0xFF7B and the write's answer. A program error, or CANCEL, ends the update and the image's transfer.
RESTART after a finished update shuts the module down and restarts the collar. The model's choices within it: log 40. -/
def Obligations.Updates : Prop :=
  (∀ (s : State) (p : Path), s.canWrite p 0x2C21 1 = true →
    let inHand := s.fw.upd = .erasing ∨ s.fw.upd = .ready ∨ s.fw.upd = .writing ∨ s.fw.upd = .verifying
    let allowed := if s.up.phase = .recovery then s.up.recovery = 2 else (s.fw.slot s.fw.runB).st = .committed
    (let c := Instr.updateBegin p
     let refused := ¬ allowed ∨ inHand ∨ s.fw.beginWait.isSome = true ∨ s.fw.commit.isSome = true
     (refused → s.refusesWrite c p 0x2C21 1 0x08000022) ∧
     (¬ refused → s.fw.store.isSome = true → completes c s [.fw] fun t => t.fw = { s.fw with beginWait := some p }) ∧
     (¬ refused → s.fw.store = none → completes c s [.fw] s.beginsUpdate)) ∧
    (let c := Instr.updateCancel p
     let fs : List Field := reportFields ++ ([.boxA, .boxB, .fw] : List Field)
     s.can.sdoHeld = none →
     (s.fw.beginWait = none → ¬ inHand → s.fw.imagePath = none → completes c s [] fun _ => True) ∧
     (∀ q, s.fw.beginWait = some q → ¬ inHand → s.fw.imagePath = none → completes c s fs fun t =>
       t.fw = { s.fw with beginWait := none } ∧ s.writeAnswered t q 0x2C21 1 (some 0x08000022)) ∧
     (s.fw.beginWait = none → inHand → completes c s fs fun t => s.updateOver t slot0 false 7 0 ∧
       ∀ q, s.fw.imagePath = some q → (s.fw.upd = .verifying → s.writeAnswered t q 0x2C20 0 (some 0x08000022)) ∧
         (s.fw.upd ≠ .verifying → (q = .sdo → s.imageStops t .sdo 0x08000022) ∧
           (q = .hostA → ∀ x, t.boxA.chunk = some x → x.index ≠ 0x2C20) ∧ (q = .hostB → ∀ x, t.boxB.chunk = some x → x.index ≠ 0x2C20)))) ∧
    (let c := Instr.updateRestart p
     (s.fw.upd ≠ .done → s.up.phase ≠ .recovery → s.refusesWrite c p 0x2C21 1 0x08000022) ∧
     (s.fw.upd = .done ∨ s.up.phase = .recovery → settles c s (fallFields ++ ([.injection, .fw, .fresh] : List Field)) fun u =>
       u.up.inReset = true ∧ u.up.collar = false ∧ u.up.phase = .collarStart ∧ u.up.step = 1 ∧ u.up.cause = .watchdog ∧ u.can.nmt = .initialising ∧
       u.fw.upd = .idle ∧ (∀ b, u.fw.slot b = if (s.fw.slot b).st = .erasing ∨ (s.fw.slot b).st = .writing then slot0 else s.fw.slot b) ∧
       ((s.domainOf 0).st ≠ .off → s.shutDown u 0) ∧ ((s.domainOf 0).st = .off → u.jobs = s.jobs ∧ u.power = s.power)))) ∧
  (∀ s : State, s.fw.upd = .erasing →
    (completes (.slotEraseDone true) s [.fw] fun t => t.fw = { s.fw.setSlot s.fw.updB { slot0 with st := .writing } with upd := .ready }) ∧
    completes (.slotEraseDone false) s (reportFields ++ ([.boxA, .boxB, .fw] : List Field)) fun t => s.firedMore t 0x0E09 ∧ s.updateOver t slot0 false 6 0x0E09 ∧
      ∀ q, s.fw.imagePath = some q → s.imageStops t q 0x06060000) ∧
  (∀ (s : State) (data : List Byte),
    let n := s.fw.updBytes + data.length
    (s.fw.upd = .ready ∨ s.fw.upd = .writing → s.fw.imagePath = none → 1 ≤ data.length → n ≤ s.cell 0x2C21 2 →
      settles (.imageDataWrite data true) s [.fw] fun u =>
        u.fw = { s.fw with updBytes := n, upd := if n = s.cell 0x2C21 2 then .verifying else .writing }) ∧
    (s.fw.upd = .writing ∨ (s.fw.upd = .ready ∧ 1 ≤ data.length) → s.can.sdoHeld = none →
      settles (.imageDataWrite data false) s (reportFields ++ ([.boxA, .boxB, .fw] : List Field)) fun u => s.firedMore u 0x0E09 ∧
        s.updateOver u slot0 false 6 0x0E09 ∧ ∀ q, s.fw.imagePath = some q → s.imageStops u q 0x06060000)) ∧
  ∀ (s : State) (m : Manifest) (k : ImageChecks), s.fw.upd = .verifying → s.can.sdoHeld = none →
    let c := Instr.imageUpdateVerify m k
    let fs : List Field := reportFields ++ ([.boxA, .boxB, .fw] : List Field)
    let signed := k.keyOk = true ∧ k.signatureOk = true
    let whole := k.collarHashOk = true ∧ k.yokeHashOk = true
    let slot := fun (st : SlotSt) =>
      (⟨st, m.version.toNat, m.security.toNat, m.schemaWrite.toNat, m.schemaMin.toNat, 0, m.buildId.take 32⟩ : Slot)
    let fails := fun (det result : Nat) (st : SlotSt) => settles c s fs fun u => s.firedMore u det ∧ s.updateEnds u (slot st) false result det (some 0x08000020)
    let formed := m.formatOk = true ∧ sizedParts k
    (¬ formed → fails 0x0E04 5 .invalid) ∧
    (formed → ¬ signed → fails 0x0E01 2 .invalid) ∧
    (formed → signed → ¬ whole → fails 0x0E02 3 .invalid) ∧
    (formed → signed → whole → m.security.toNat < s.rollback → fails 0x0E03 4 .revoked) ∧
    (formed → signed → whole → s.rollback ≤ m.security.toNat → settles c s fs fun u => s.updateEnds u (slot .pending) true 1 0 none)

/-- COMMIT and the health window (R428, R431, R440): COMMIT is refused without its signature, on an image that is neither TRIAL nor
COMMITTED, or while an update erases or writes; it waits for a store, first stores the values in force where its schema has no
record, and then takes its other steps with EMCY 0xFF7C. A window that passes sets the failure count to 0 and makes a PENDING slot
TRIAL. The model's choices within it: log 50. -/
def Obligations.CommitAndHealth : Prop :=
  (∀ (s : State) (p : Path) (v : W32), s.canWrite p 0x2C10 0 = true →
    let c := Instr.commit p v
    let st := (s.fw.slot s.fw.runB).st
    let refused := (st ≠ .trial ∧ st ≠ .committed) ∨ s.fw.upd = .erasing ∨ s.fw.upd = .writing
    (v.toNat ≠ 0x746D6F63 → s.refusesWrite c p 0x2C10 0 0x08000020) ∧
    (v.toNat = 0x746D6F63 → refused → s.refusesWrite c p 0x2C10 0 0x08000022) ∧
    (v.toNat = 0x746D6F63 → ¬ refused →
      (s.fw.store.isSome = true → settles c s [.fw] fun u => u.fw = { s.fw with storeWait := s.fw.storeWait ++ [⟨3, 0, p, 0x2C10, 0, none⟩] }) ∧
      (s.fw.store = none → (s.fw.current s.schema).isSome = true → settles c s (reportFields ++ ([.fuses, .fw] : List Field)) fun u => s.commits u ∧ s.hasRaised u 0xFF7C 0) ∧
      (s.fw.store = none → s.fw.current s.schema = none → settles c s [.fw] fun u => s.beginsStore u ⟨2, 3, p, 0x2C10, 0, none⟩ ∧ u.fw.commit = some 1))) ∧
  ∀ (s : State) (t : Nat), s.fw.healthFrom = some t →
    let x := s.fw.slot s.fw.runB
    (s.fw.health ≠ 1 ∨ s.up.phase ≠ .done → exec .healthWindowExpiry s = .next s) ∧
    (s.fw.health = 1 → s.up.phase = .done → completes .healthWindowExpiry s [.now, .fw] fun u => u.now = max s.now (t + s.setting 0x2C01 1 * psS) ∧
      u.fw = { s.fw.setSlot s.fw.runB { x with failures := 0, st := if x.st = .pending then .trial else x.st } with health := 2, healthFrom := none })
end

