-- ==== Sys2Proof/Laws/Frame.lean ====
section
/-! SUPPORT. The frame calculus: which fields of State a function may change, as a mask with one bit per field in the order of
the structure, and how frames and the invariant compose. -/

-- One proof at a time: with the whole package in one text, later proofs would each hold a thread while they wait for the long
-- ones here to be checked.
set_option Elab.async false

namespace Sys2Proof.Machine

/-- `t` where the mask has a bit, `s` elsewhere. -/
def State.mix (F : Nat) (s t : State) : State where
  now := bif F.testBit 0 then t.now else s.now
  wafer := bif F.testBit 1 then t.wafer else s.wafer
  beat := bif F.testBit 2 then t.beat else s.beat
  sessions := bif F.testBit 3 then t.sessions else s.sessions
  hostA := bif F.testBit 4 then t.hostA else s.hostA
  hostB := bif F.testBit 5 then t.hostB else s.hostB
  sq := bif F.testBit 6 then t.sq else s.sq
  cq := bif F.testBit 7 then t.cq else s.cq
  lastRing := bif F.testBit 8 then t.lastRing else s.lastRing
  msix := bif F.testBit 9 then t.msix else s.msix
  pba := bif F.testBit 10 then t.pba else s.pba
  lists := bif F.testBit 11 then t.lists else s.lists
  nextList := bif F.testBit 12 then t.nextList else s.nextList
  jobs := bif F.testBit 13 then t.jobs else s.jobs
  frames := bif F.testBit 14 then t.frames else s.frames
  nextFrame := bif F.testBit 15 then t.nextFrame else s.nextFrame
  skips := bif F.testBit 16 then t.skips else s.skips
  setSkips := bif F.testBit 17 then t.setSkips else s.setSkips
  tier1 := bif F.testBit 18 then t.tier1 else s.tier1
  granules := bif F.testBit 19 then t.granules else s.granules
  tier1Bad := bif F.testBit 20 then t.tier1Bad else s.tier1Bad
  dram := bif F.testBit 21 then t.dram else s.dram
  od := bif F.testBit 22 then t.od else s.od
  can := bif F.testBit 23 then t.can else s.can
  boxA := bif F.testBit 24 then t.boxA else s.boxA
  boxB := bif F.testBit 25 then t.boxB else s.boxB
  det := bif F.testBit 26 then t.det else s.det
  log := bif F.testBit 27 then t.log else s.log
  logMade := bif F.testBit 28 then t.logMade else s.logMade
  faultBuffer := bif F.testBit 29 then t.faultBuffer else s.faultBuffer
  absentEmcy := bif F.testBit 30 then t.absentEmcy else s.absentEmcy
  replacement := bif F.testBit 31 then t.replacement else s.replacement
  suspects := bif F.testBit 32 then t.suspects else s.suspects
  leases := bif F.testBit 33 then t.leases else s.leases
  dma := bif F.testBit 34 then t.dma else s.dma
  moves := bif F.testBit 35 then t.moves else s.moves
  injection := bif F.testBit 36 then t.injection else s.injection
  tiles := bif F.testBit 37 then t.tiles else s.tiles
  mesh := bif F.testBit 38 then t.mesh else s.mesh
  attach := bif F.testBit 39 then t.attach else s.attach
  rewardN := bif F.testBit 40 then t.rewardN else s.rewardN
  rewardSent := bif F.testBit 41 then t.rewardSent else s.rewardSent
  plans := bif F.testBit 42 then t.plans else s.plans
  segs := bif F.testBit 43 then t.segs else s.segs
  segCtr := bif F.testBit 44 then t.segCtr else s.segCtr
  conns := bif F.testBit 45 then t.conns else s.conns
  wrs := bif F.testBit 46 then t.wrs else s.wrs
  nextWr := bif F.testBit 47 then t.nextWr else s.nextWr
  ctrs := bif F.testBit 48 then t.ctrs else s.ctrs
  ports := bif F.testBit 49 then t.ports else s.ports
  buckets := bif F.testBit 50 then t.buckets else s.buckets
  nodes := bif F.testBit 51 then t.nodes else s.nodes
  power := bif F.testBit 52 then t.power else s.power
  up := bif F.testBit 53 then t.up else s.up
  fuses := bif F.testBit 54 then t.fuses else s.fuses
  fw := bif F.testBit 55 then t.fw else s.fw
  out := bif F.testBit 56 then t.out else s.out
  fresh := bif F.testBit 57 then t.fresh else s.fresh
  pending := bif F.testBit 58 then t.pending else s.pending

/-- `t` is `s` but for the fields of the mask. -/
def Same (F : Nat) (s t : State) : Prop := State.mix F s t = t

/-- Every field of `F` is one of `G`. -/
def sub (F G : Nat) : Bool := Nat.lor F G == G

theorem sub_testBit {F G : Nat} (h : sub F G = true) (i : Nat) : F.testBit i = true → G.testBit i = true := by
  intro hf
  have h1 : F ||| G = G := by simpa [sub] using h
  rw [← h1, Nat.testBit_lor, hf, Bool.true_or]

theorem sub_trans {F G H : Nat} (h1 : sub F G = true) (h2 : sub G H = true) : sub F H = true := by
  have a : F ||| G = G := by simpa [sub] using h1
  have b : G ||| H = H := by simpa [sub] using h2
  have : F ||| H = H := by rw [← b, ← Nat.lor_assoc, a]
  simpa [sub] using this

theorem sub_refl (F : Nat) : sub F F = true := by simp [sub]

theorem same_iff {F : Nat} {s t : State} : Same F s t ↔
    (F.testBit 0 = false → t.now = s.now) ∧
    (F.testBit 1 = false → t.wafer = s.wafer) ∧
    (F.testBit 2 = false → t.beat = s.beat) ∧
    (F.testBit 3 = false → t.sessions = s.sessions) ∧
    (F.testBit 4 = false → t.hostA = s.hostA) ∧
    (F.testBit 5 = false → t.hostB = s.hostB) ∧
    (F.testBit 6 = false → t.sq = s.sq) ∧
    (F.testBit 7 = false → t.cq = s.cq) ∧
    (F.testBit 8 = false → t.lastRing = s.lastRing) ∧
    (F.testBit 9 = false → t.msix = s.msix) ∧
    (F.testBit 10 = false → t.pba = s.pba) ∧
    (F.testBit 11 = false → t.lists = s.lists) ∧
    (F.testBit 12 = false → t.nextList = s.nextList) ∧
    (F.testBit 13 = false → t.jobs = s.jobs) ∧
    (F.testBit 14 = false → t.frames = s.frames) ∧
    (F.testBit 15 = false → t.nextFrame = s.nextFrame) ∧
    (F.testBit 16 = false → t.skips = s.skips) ∧
    (F.testBit 17 = false → t.setSkips = s.setSkips) ∧
    (F.testBit 18 = false → t.tier1 = s.tier1) ∧
    (F.testBit 19 = false → t.granules = s.granules) ∧
    (F.testBit 20 = false → t.tier1Bad = s.tier1Bad) ∧
    (F.testBit 21 = false → t.dram = s.dram) ∧
    (F.testBit 22 = false → t.od = s.od) ∧
    (F.testBit 23 = false → t.can = s.can) ∧
    (F.testBit 24 = false → t.boxA = s.boxA) ∧
    (F.testBit 25 = false → t.boxB = s.boxB) ∧
    (F.testBit 26 = false → t.det = s.det) ∧
    (F.testBit 27 = false → t.log = s.log) ∧
    (F.testBit 28 = false → t.logMade = s.logMade) ∧
    (F.testBit 29 = false → t.faultBuffer = s.faultBuffer) ∧
    (F.testBit 30 = false → t.absentEmcy = s.absentEmcy) ∧
    (F.testBit 31 = false → t.replacement = s.replacement) ∧
    (F.testBit 32 = false → t.suspects = s.suspects) ∧
    (F.testBit 33 = false → t.leases = s.leases) ∧
    (F.testBit 34 = false → t.dma = s.dma) ∧
    (F.testBit 35 = false → t.moves = s.moves) ∧
    (F.testBit 36 = false → t.injection = s.injection) ∧
    (F.testBit 37 = false → t.tiles = s.tiles) ∧
    (F.testBit 38 = false → t.mesh = s.mesh) ∧
    (F.testBit 39 = false → t.attach = s.attach) ∧
    (F.testBit 40 = false → t.rewardN = s.rewardN) ∧
    (F.testBit 41 = false → t.rewardSent = s.rewardSent) ∧
    (F.testBit 42 = false → t.plans = s.plans) ∧
    (F.testBit 43 = false → t.segs = s.segs) ∧
    (F.testBit 44 = false → t.segCtr = s.segCtr) ∧
    (F.testBit 45 = false → t.conns = s.conns) ∧
    (F.testBit 46 = false → t.wrs = s.wrs) ∧
    (F.testBit 47 = false → t.nextWr = s.nextWr) ∧
    (F.testBit 48 = false → t.ctrs = s.ctrs) ∧
    (F.testBit 49 = false → t.ports = s.ports) ∧
    (F.testBit 50 = false → t.buckets = s.buckets) ∧
    (F.testBit 51 = false → t.nodes = s.nodes) ∧
    (F.testBit 52 = false → t.power = s.power) ∧
    (F.testBit 53 = false → t.up = s.up) ∧
    (F.testBit 54 = false → t.fuses = s.fuses) ∧
    (F.testBit 55 = false → t.fw = s.fw) ∧
    (F.testBit 56 = false → t.out = s.out) ∧
    (F.testBit 57 = false → t.fresh = s.fresh) ∧
    (F.testBit 58 = false → t.pending = s.pending) := by
  constructor
  · intro h
    refine ⟨?_, ?_, ?_, ?_, ?_, ?_, ?_, ?_, ?_, ?_, ?_, ?_, ?_, ?_, ?_, ?_, ?_, ?_, ?_, ?_, ?_, ?_, ?_, ?_, ?_, ?_, ?_, ?_, ?_, ?_, ?_, ?_, ?_, ?_, ?_, ?_, ?_, ?_, ?_, ?_, ?_, ?_, ?_, ?_, ?_, ?_, ?_, ?_, ?_, ?_, ?_, ?_, ?_, ?_, ?_, ?_, ?_, ?_, ?_⟩
    · intro hb; have := congrArg State.now h; simp only [State.mix, hb, cond_false] at this; exact this.symm
    · intro hb; have := congrArg State.wafer h; simp only [State.mix, hb, cond_false] at this; exact this.symm
    · intro hb; have := congrArg State.beat h; simp only [State.mix, hb, cond_false] at this; exact this.symm
    · intro hb; have := congrArg State.sessions h; simp only [State.mix, hb, cond_false] at this; exact this.symm
    · intro hb; have := congrArg State.hostA h; simp only [State.mix, hb, cond_false] at this; exact this.symm
    · intro hb; have := congrArg State.hostB h; simp only [State.mix, hb, cond_false] at this; exact this.symm
    · intro hb; have := congrArg State.sq h; simp only [State.mix, hb, cond_false] at this; exact this.symm
    · intro hb; have := congrArg State.cq h; simp only [State.mix, hb, cond_false] at this; exact this.symm
    · intro hb; have := congrArg State.lastRing h; simp only [State.mix, hb, cond_false] at this; exact this.symm
    · intro hb; have := congrArg State.msix h; simp only [State.mix, hb, cond_false] at this; exact this.symm
    · intro hb; have := congrArg State.pba h; simp only [State.mix, hb, cond_false] at this; exact this.symm
    · intro hb; have := congrArg State.lists h; simp only [State.mix, hb, cond_false] at this; exact this.symm
    · intro hb; have := congrArg State.nextList h; simp only [State.mix, hb, cond_false] at this; exact this.symm
    · intro hb; have := congrArg State.jobs h; simp only [State.mix, hb, cond_false] at this; exact this.symm
    · intro hb; have := congrArg State.frames h; simp only [State.mix, hb, cond_false] at this; exact this.symm
    · intro hb; have := congrArg State.nextFrame h; simp only [State.mix, hb, cond_false] at this; exact this.symm
    · intro hb; have := congrArg State.skips h; simp only [State.mix, hb, cond_false] at this; exact this.symm
    · intro hb; have := congrArg State.setSkips h; simp only [State.mix, hb, cond_false] at this; exact this.symm
    · intro hb; have := congrArg State.tier1 h; simp only [State.mix, hb, cond_false] at this; exact this.symm
    · intro hb; have := congrArg State.granules h; simp only [State.mix, hb, cond_false] at this; exact this.symm
    · intro hb; have := congrArg State.tier1Bad h; simp only [State.mix, hb, cond_false] at this; exact this.symm
    · intro hb; have := congrArg State.dram h; simp only [State.mix, hb, cond_false] at this; exact this.symm
    · intro hb; have := congrArg State.od h; simp only [State.mix, hb, cond_false] at this; exact this.symm
    · intro hb; have := congrArg State.can h; simp only [State.mix, hb, cond_false] at this; exact this.symm
    · intro hb; have := congrArg State.boxA h; simp only [State.mix, hb, cond_false] at this; exact this.symm
    · intro hb; have := congrArg State.boxB h; simp only [State.mix, hb, cond_false] at this; exact this.symm
    · intro hb; have := congrArg State.det h; simp only [State.mix, hb, cond_false] at this; exact this.symm
    · intro hb; have := congrArg State.log h; simp only [State.mix, hb, cond_false] at this; exact this.symm
    · intro hb; have := congrArg State.logMade h; simp only [State.mix, hb, cond_false] at this; exact this.symm
    · intro hb; have := congrArg State.faultBuffer h; simp only [State.mix, hb, cond_false] at this; exact this.symm
    · intro hb; have := congrArg State.absentEmcy h; simp only [State.mix, hb, cond_false] at this; exact this.symm
    · intro hb; have := congrArg State.replacement h; simp only [State.mix, hb, cond_false] at this; exact this.symm
    · intro hb; have := congrArg State.suspects h; simp only [State.mix, hb, cond_false] at this; exact this.symm
    · intro hb; have := congrArg State.leases h; simp only [State.mix, hb, cond_false] at this; exact this.symm
    · intro hb; have := congrArg State.dma h; simp only [State.mix, hb, cond_false] at this; exact this.symm
    · intro hb; have := congrArg State.moves h; simp only [State.mix, hb, cond_false] at this; exact this.symm
    · intro hb; have := congrArg State.injection h; simp only [State.mix, hb, cond_false] at this; exact this.symm
    · intro hb; have := congrArg State.tiles h; simp only [State.mix, hb, cond_false] at this; exact this.symm
    · intro hb; have := congrArg State.mesh h; simp only [State.mix, hb, cond_false] at this; exact this.symm
    · intro hb; have := congrArg State.attach h; simp only [State.mix, hb, cond_false] at this; exact this.symm
    · intro hb; have := congrArg State.rewardN h; simp only [State.mix, hb, cond_false] at this; exact this.symm
    · intro hb; have := congrArg State.rewardSent h; simp only [State.mix, hb, cond_false] at this; exact this.symm
    · intro hb; have := congrArg State.plans h; simp only [State.mix, hb, cond_false] at this; exact this.symm
    · intro hb; have := congrArg State.segs h; simp only [State.mix, hb, cond_false] at this; exact this.symm
    · intro hb; have := congrArg State.segCtr h; simp only [State.mix, hb, cond_false] at this; exact this.symm
    · intro hb; have := congrArg State.conns h; simp only [State.mix, hb, cond_false] at this; exact this.symm
    · intro hb; have := congrArg State.wrs h; simp only [State.mix, hb, cond_false] at this; exact this.symm
    · intro hb; have := congrArg State.nextWr h; simp only [State.mix, hb, cond_false] at this; exact this.symm
    · intro hb; have := congrArg State.ctrs h; simp only [State.mix, hb, cond_false] at this; exact this.symm
    · intro hb; have := congrArg State.ports h; simp only [State.mix, hb, cond_false] at this; exact this.symm
    · intro hb; have := congrArg State.buckets h; simp only [State.mix, hb, cond_false] at this; exact this.symm
    · intro hb; have := congrArg State.nodes h; simp only [State.mix, hb, cond_false] at this; exact this.symm
    · intro hb; have := congrArg State.power h; simp only [State.mix, hb, cond_false] at this; exact this.symm
    · intro hb; have := congrArg State.up h; simp only [State.mix, hb, cond_false] at this; exact this.symm
    · intro hb; have := congrArg State.fuses h; simp only [State.mix, hb, cond_false] at this; exact this.symm
    · intro hb; have := congrArg State.fw h; simp only [State.mix, hb, cond_false] at this; exact this.symm
    · intro hb; have := congrArg State.out h; simp only [State.mix, hb, cond_false] at this; exact this.symm
    · intro hb; have := congrArg State.fresh h; simp only [State.mix, hb, cond_false] at this; exact this.symm
    · intro hb; have := congrArg State.pending h; simp only [State.mix, hb, cond_false] at this; exact this.symm
  · rintro ⟨h0, h1, h2, h3, h4, h5, h6, h7, h8, h9, h10, h11, h12, h13, h14, h15, h16, h17, h18, h19, h20, h21, h22, h23, h24, h25, h26, h27, h28, h29, h30, h31, h32, h33, h34, h35, h36, h37, h38, h39, h40, h41, h42, h43, h44, h45, h46, h47, h48, h49, h50, h51, h52, h53, h54, h55, h56, h57, h58⟩
    unfold Same State.mix
    cases t
    congr 1
    · cases hb : F.testBit 0; exacts [(h0 hb).symm, rfl]
    · cases hb : F.testBit 1; exacts [(h1 hb).symm, rfl]
    · cases hb : F.testBit 2; exacts [(h2 hb).symm, rfl]
    · cases hb : F.testBit 3; exacts [(h3 hb).symm, rfl]
    · cases hb : F.testBit 4; exacts [(h4 hb).symm, rfl]
    · cases hb : F.testBit 5; exacts [(h5 hb).symm, rfl]
    · cases hb : F.testBit 6; exacts [(h6 hb).symm, rfl]
    · cases hb : F.testBit 7; exacts [(h7 hb).symm, rfl]
    · cases hb : F.testBit 8; exacts [(h8 hb).symm, rfl]
    · cases hb : F.testBit 9; exacts [(h9 hb).symm, rfl]
    · cases hb : F.testBit 10; exacts [(h10 hb).symm, rfl]
    · cases hb : F.testBit 11; exacts [(h11 hb).symm, rfl]
    · cases hb : F.testBit 12; exacts [(h12 hb).symm, rfl]
    · cases hb : F.testBit 13; exacts [(h13 hb).symm, rfl]
    · cases hb : F.testBit 14; exacts [(h14 hb).symm, rfl]
    · cases hb : F.testBit 15; exacts [(h15 hb).symm, rfl]
    · cases hb : F.testBit 16; exacts [(h16 hb).symm, rfl]
    · cases hb : F.testBit 17; exacts [(h17 hb).symm, rfl]
    · cases hb : F.testBit 18; exacts [(h18 hb).symm, rfl]
    · cases hb : F.testBit 19; exacts [(h19 hb).symm, rfl]
    · cases hb : F.testBit 20; exacts [(h20 hb).symm, rfl]
    · cases hb : F.testBit 21; exacts [(h21 hb).symm, rfl]
    · cases hb : F.testBit 22; exacts [(h22 hb).symm, rfl]
    · cases hb : F.testBit 23; exacts [(h23 hb).symm, rfl]
    · cases hb : F.testBit 24; exacts [(h24 hb).symm, rfl]
    · cases hb : F.testBit 25; exacts [(h25 hb).symm, rfl]
    · cases hb : F.testBit 26; exacts [(h26 hb).symm, rfl]
    · cases hb : F.testBit 27; exacts [(h27 hb).symm, rfl]
    · cases hb : F.testBit 28; exacts [(h28 hb).symm, rfl]
    · cases hb : F.testBit 29; exacts [(h29 hb).symm, rfl]
    · cases hb : F.testBit 30; exacts [(h30 hb).symm, rfl]
    · cases hb : F.testBit 31; exacts [(h31 hb).symm, rfl]
    · cases hb : F.testBit 32; exacts [(h32 hb).symm, rfl]
    · cases hb : F.testBit 33; exacts [(h33 hb).symm, rfl]
    · cases hb : F.testBit 34; exacts [(h34 hb).symm, rfl]
    · cases hb : F.testBit 35; exacts [(h35 hb).symm, rfl]
    · cases hb : F.testBit 36; exacts [(h36 hb).symm, rfl]
    · cases hb : F.testBit 37; exacts [(h37 hb).symm, rfl]
    · cases hb : F.testBit 38; exacts [(h38 hb).symm, rfl]
    · cases hb : F.testBit 39; exacts [(h39 hb).symm, rfl]
    · cases hb : F.testBit 40; exacts [(h40 hb).symm, rfl]
    · cases hb : F.testBit 41; exacts [(h41 hb).symm, rfl]
    · cases hb : F.testBit 42; exacts [(h42 hb).symm, rfl]
    · cases hb : F.testBit 43; exacts [(h43 hb).symm, rfl]
    · cases hb : F.testBit 44; exacts [(h44 hb).symm, rfl]
    · cases hb : F.testBit 45; exacts [(h45 hb).symm, rfl]
    · cases hb : F.testBit 46; exacts [(h46 hb).symm, rfl]
    · cases hb : F.testBit 47; exacts [(h47 hb).symm, rfl]
    · cases hb : F.testBit 48; exacts [(h48 hb).symm, rfl]
    · cases hb : F.testBit 49; exacts [(h49 hb).symm, rfl]
    · cases hb : F.testBit 50; exacts [(h50 hb).symm, rfl]
    · cases hb : F.testBit 51; exacts [(h51 hb).symm, rfl]
    · cases hb : F.testBit 52; exacts [(h52 hb).symm, rfl]
    · cases hb : F.testBit 53; exacts [(h53 hb).symm, rfl]
    · cases hb : F.testBit 54; exacts [(h54 hb).symm, rfl]
    · cases hb : F.testBit 55; exacts [(h55 hb).symm, rfl]
    · cases hb : F.testBit 56; exacts [(h56 hb).symm, rfl]
    · cases hb : F.testBit 57; exacts [(h57 hb).symm, rfl]
    · cases hb : F.testBit 58; exacts [(h58 hb).symm, rfl]

end Sys2Proof.Machine
end

