-- ==== Sys2Proof/Laws/Memory.lean ====
section
/-! SUPPORT. Laws of tables and byte memory: read after write, a write leaves every other place alone, and every memory
operation keeps the canonical form. -/

-- One proof at a time: with the whole package in one text, later proofs would each hold a thread while they wait for the long
-- ones here to be checked.
set_option Elab.async false

namespace Sys2Proof.Machine

/-! ### Tables -/

theorem findCell_putCell_same {α : Type} (k : Nat) (v : α) (l : List (Nat × α)) : findCell k (putCell k v l) = some v := by
  induction l with
  | nil => simp [putCell, findCell]
  | cons c r ih =>
    obtain ⟨j, w⟩ := c
    unfold putCell
    split
    · simp [findCell]
    · split
      · simp [findCell]
      · simp [findCell, *]

theorem findCell_putCell_other {α : Type} {k i : Nat} (h : i ≠ k) (v : α) (l : List (Nat × α)) :
    findCell i (putCell k v l) = findCell i l := by
  induction l with
  | nil => simp [putCell, findCell, Ne.symm h]
  | cons c r ih =>
    obtain ⟨j, w⟩ := c
    unfold putCell
    split
    · simp [findCell, Ne.symm h]
    · split
      · subst j; simp [findCell, Ne.symm h]
      · simp [findCell, ih]

@[simp] theorem Tab.get_set_same {α : Type} (t : Tab α) (d v : α) (k : Nat) : (t.set k v).get d k = v := by
  simp [Tab.get, Tab.find, Tab.set, findCell_putCell_same]

theorem Tab.get_set_other {α : Type} (t : Tab α) (d v : α) {k i : Nat} (h : i ≠ k) : (t.set k v).get d i = t.get d i := by
  simp [Tab.get, Tab.find, Tab.set, findCell_putCell_other h]

@[simp] theorem Tab.find_set_same {α : Type} (t : Tab α) (v : α) (k : Nat) : (t.set k v).find k = some v := by
  simp [Tab.find, Tab.set, findCell_putCell_same]

theorem Tab.find_set_other {α : Type} (t : Tab α) (v : α) {k i : Nat} (h : i ≠ k) : (t.set k v).find i = t.find i := by
  simp [Tab.find, Tab.set, findCell_putCell_other h]

theorem findCell_filter_ne {α : Type} {k i : Nat} (h : i ≠ k) (l : List (Nat × α)) :
    findCell i (l.filter fun c => c.1 != k) = findCell i l := by
  induction l with
  | nil => rfl
  | cons c r ih =>
    obtain ⟨j, w⟩ := c
    by_cases hj : j = k
    · subst j; simp [findCell, Ne.symm h, ih]
    · simp [findCell, hj, ih]

@[simp] theorem Tab.find_erase_same {α : Type} (t : Tab α) (k : Nat) : (t.erase k).find k = none := by
  unfold Tab.erase Tab.find
  generalize t.cells = l
  induction l with
  | nil => rfl
  | cons c r ih =>
    obtain ⟨j, w⟩ := c
    by_cases hj : j = k
    · subst j; simpa using ih
    · simpa [findCell, hj] using ih

theorem Tab.find_erase_other {α : Type} (t : Tab α) {k i : Nat} (h : i ≠ k) : (t.erase k).find i = t.find i :=
  findCell_filter_ne h t.cells

/-- Keys below a bound stay below it when one below it is set. -/
theorem putCell_keys {α : Type} {b k : Nat} (hk : k < b) (v : α) (l : List (Nat × α))
    (h : (l.all fun c => decide (c.1 < b)) = true) : ((putCell k v l).all fun c => decide (c.1 < b)) = true := by
  induction l with
  | nil => simp [putCell, hk]
  | cons c r ih =>
    obtain ⟨j, w⟩ := c
    simp only [List.all_cons, Bool.and_eq_true, decide_eq_true_eq] at h
    unfold putCell
    split
    · simp [hk, h.1, h.2]
    · split
      · simp [hk, h.2]
      · simp [h.1, ih h.2]

theorem mapVals_keys {α : Type} {b : Nat} (t : Tab α) (f : Nat → α → α)
    (h : (t.cells.all fun c => decide (c.1 < b)) = true) : ((t.mapVals f).cells.all fun c => decide (c.1 < b)) = true := by
  simpa [Tab.mapVals, List.all_map] using h

/-! ### Byte memory -/

theorem cellsFrom_weaken {lo hi : Nat} (h : lo ≤ hi) : ∀ {m : Memory}, cellsFrom hi m = true → cellsFrom lo m = true
  | [], _ => rfl
  | (a, b) :: r, hm => by
    simp only [cellsFrom, Bool.and_eq_true, decide_eq_true_eq] at hm ⊢
    exact ⟨⟨by omega, hm.1.2⟩, hm.2⟩

theorem cellsFrom_write {lo a : Nat} (h : lo ≤ a) (b : Byte) : ∀ {m : Memory}, cellsFrom lo m = true →
    cellsFrom lo (Memory.write m a b) = true
  | [], _ => by
    unfold Memory.write
    split
    · rfl
    · simp [cellsFrom, h, *]
  | (j, c) :: r, hm => by
    have hm' := hm
    simp only [cellsFrom, Bool.and_eq_true, decide_eq_true_eq] at hm
    unfold Memory.write
    split
    · split
      · exact hm'
      · simp only [cellsFrom, Bool.and_eq_true, decide_eq_true_eq]
        exact ⟨⟨h, by simp [*]⟩, ⟨by omega, hm.1.2⟩, hm.2⟩
    · split
      · split
        · exact cellsFrom_weaken (by omega) hm.2
        · subst j; simp only [cellsFrom, Bool.and_eq_true, decide_eq_true_eq]
          exact ⟨⟨h, by simp [*]⟩, hm.2⟩
      · simp only [cellsFrom, Bool.and_eq_true, decide_eq_true_eq]
        exact ⟨hm.1, cellsFrom_write (by omega) b hm.2⟩

/-- A byte write keeps the canonical form. -/
theorem Memory.write_wf {m : Memory} (h : m.wf = true) (a : Nat) (b : Byte) : (m.write a b).wf = true :=
  cellsFrom_write (Nat.zero_le a) b h

/-- A write of several bytes keeps the canonical form. -/
theorem Memory.writeBytes_wf {m : Memory} (h : m.wf = true) (a : Nat) (bs : List Byte) : (m.writeBytes a bs).wf = true := by
  induction bs generalizing m a with
  | nil => exact h
  | cons b r ih => exact ih (Memory.write_wf h a b) (a + 1)

theorem Memory.writeLe_wf {m : Memory} (h : m.wf = true) (a n v : Nat) : (m.writeLe a n v).wf = true :=
  Memory.writeBytes_wf h a _

theorem cellsFrom_filter {lo : Nat} (p : Host.Cell → Bool) : ∀ {m : Memory}, cellsFrom lo m = true →
    cellsFrom lo (m.filter p) = true
  | [], _ => rfl
  | (j, c) :: r, hm => by
    simp only [cellsFrom, Bool.and_eq_true, decide_eq_true_eq] at hm
    simp only [List.filter_cons]
    split
    · simp only [cellsFrom, Bool.and_eq_true, decide_eq_true_eq]
      exact ⟨hm.1, cellsFrom_filter p hm.2⟩
    · exact cellsFrom_weaken (by omega) (cellsFrom_filter p hm.2)

/-- A wipe keeps the canonical form. -/
theorem Memory.wipe_wf {m : Memory} (h : m.wf = true) (lo hi : Nat) : (m.wipe lo hi).wf = true := cellsFrom_filter _ h

theorem findCell_none_of_cellsFrom {a : Nat} : ∀ {lo : Nat} {m : Memory}, cellsFrom lo m = true → a < lo → findCell a m = none
  | _, [], _, _ => rfl
  | lo, (j, c) :: r, hm, ha => by
    simp only [cellsFrom, Bool.and_eq_true, decide_eq_true_eq] at hm
    have : j ≠ a := by omega
    simp only [findCell, this, if_false]
    exact findCell_none_of_cellsFrom hm.2 (by omega)

/-- A read after a write to the same address gives the byte written. -/
theorem Memory.read_write_same {m : Memory} (h : m.wf = true) (a : Nat) (b : Byte) : (m.write a b).read a = b := by
  have key : ∀ (lo : Nat) (m : Memory), cellsFrom lo m = true → (m.write a b).read a = b := by
    intro lo m
    induction m generalizing lo with
    | nil => intro _; unfold Memory.write Memory.read; split <;> simp [findCell, *]
    | cons c r ih =>
      obtain ⟨j, w⟩ := c
      intro hm
      simp only [cellsFrom, Bool.and_eq_true, decide_eq_true_eq] at hm
      unfold Memory.write
      split
      · split
        · have : findCell a ((j, w) :: r) = none := by
            have hj : j ≠ a := by omega
            simp only [findCell, hj, if_false]
            exact findCell_none_of_cellsFrom hm.2 (by omega)
          simp [Memory.read, this, *]
        · simp [Memory.read, findCell]
      · split
        · split
          · subst j
            simp [Memory.read, findCell_none_of_cellsFrom hm.2 (Nat.lt_succ_self a), *]
          · simp [Memory.read, findCell]
        · have hj : j ≠ a := by omega
          simpa [Memory.read, findCell, hj] using ih _ hm.2
  exact key 0 m h

/-- A write leaves every other address alone. -/
theorem Memory.read_write_other (m : Memory) {a i : Nat} (h : i ≠ a) (b : Byte) : (m.write a b).read i = m.read i := by
  induction m with
  | nil => unfold Memory.write; split <;> simp [Memory.read, findCell, Ne.symm h]
  | cons c r ih =>
    obtain ⟨j, w⟩ := c
    unfold Memory.write
    split
    · split <;> simp [Memory.read, findCell, Ne.symm h]
    · split
      · subst j; split <;> simp [Memory.read, findCell, Ne.symm h]
      · by_cases hj : j = i
        · simp [Memory.read, findCell, hj]
        · simpa [Memory.read, findCell, hj] using ih

/-- A write of several bytes leaves every address outside them alone. -/
theorem Memory.read_writeBytes_other (m : Memory) {a i : Nat} (bs : List Byte) (h : i < a ∨ a + bs.length ≤ i) :
    (m.writeBytes a bs).read i = m.read i := by
  induction bs generalizing m a with
  | nil => rfl
  | cons b r ih =>
    simp only [List.length_cons] at h
    simp only [Memory.writeBytes]
    rw [ih (m.write a b) (by omega), Memory.read_write_other m (by omega)]

/-- Bytes written read back. -/
theorem Memory.readBytes_writeBytes {m : Memory} (h : m.wf = true) (a : Nat) (bs : List Byte) :
    (m.writeBytes a bs).readBytes a bs.length = bs := by
  induction bs generalizing m a with
  | nil => rfl
  | cons b r ih =>
    simp only [List.length_cons, Memory.readBytes, Memory.writeBytes, List.cons.injEq]
    exact ⟨by rw [Memory.read_writeBytes_other _ r (by omega), Memory.read_write_same h], ih (Memory.write_wf h a b) (a + 1)⟩

/-! ### Tables with one cell for each key -/

theorem Tab.rises_empty {α : Type} : (Tab.empty : Tab α).rises := List.Pairwise.nil

theorem Tab.rises_keep {α : Type} {t : Tab α} (h : t.rises) (p : Nat → α → Bool) : (t.keep p).rises :=
  h.sublist (List.Sublist.map _ List.filter_sublist)

theorem Tab.rises_erase {α : Type} {t : Tab α} (h : t.rises) (k : Nat) : (t.erase k).rises :=
  h.sublist (List.Sublist.map _ List.filter_sublist)

theorem Tab.rises_mapVals {α : Type} {t : Tab α} (h : t.rises) (f : Nat → α → α) : (t.mapVals f).rises := by
  unfold Tab.rises Tab.mapVals at *
  simpa [List.map_map, Function.comp_def] using h

theorem putCell_fst {α : Type} {k a : Nat} {v : α} {l : List (Nat × α)} (h : a ∈ (putCell k v l).map Prod.fst) :
    a = k ∨ a ∈ l.map Prod.fst := by
  induction l with
  | nil => exact Or.inl (by simpa [putCell] using h)
  | cons c r ih =>
    obtain ⟨j, w⟩ := c
    unfold putCell at h
    split at h
    · simpa using h
    · split at h
      · simp only [List.map_cons, List.mem_cons] at h ⊢
        exact h.imp id Or.inr
      · simp only [List.map_cons, List.mem_cons] at h ⊢
        rcases h with h | h
        · exact Or.inr (Or.inl h)
        · exact (ih h).imp id Or.inr

theorem Tab.rises_set {α : Type} {t : Tab α} (h : t.rises) (k : Nat) (v : α) : (t.set k v).rises := by
  unfold Tab.rises Tab.set at *
  generalize t.cells = l at h
  show ((putCell k v l).map Prod.fst).Pairwise (· < ·)
  induction l with
  | nil => exact List.pairwise_singleton _ _
  | cons c r ih =>
    obtain ⟨j, w⟩ := c
    simp only [List.map_cons, List.pairwise_cons] at h
    unfold putCell
    split
    · rename_i hk
      simp only [List.map_cons, List.pairwise_cons, List.mem_cons]
      refine ⟨fun a ha => ?_, h⟩
      rcases ha with rfl | ha
      · exact hk
      · exact hk.trans (h.1 a ha)
    · split
      · rename_i hj
        simp only [List.map_cons, List.pairwise_cons]
        exact ⟨hj ▸ h.1, h.2⟩
      · rename_i hk hj
        simp only [List.map_cons, List.pairwise_cons]
        refine ⟨fun a ha => ?_, ih h.2⟩
        rcases putCell_fst ha with rfl | ha
        · omega
        · exact h.1 a ha

end Sys2Proof.Machine
end

