-- ==== Sys2Proof/Laws/Keep.lean ====
section
/-! SUPPORT. Steps of the calculus: `Step F s t` says that `t` is `s` but for the fields of `F` and that the invariant carries
over, with its forms for an outcome, a write's effect, an option and a pair. -/

-- One proof at a time: with the whole package in one text, later proofs would each hold a thread while they wait for the long
-- ones here to be checked.
set_option Elab.async false

namespace Sys2Proof.Machine

/-- `t` is `s` but for the fields of `F`, and `t` keeps the invariant if `s` has it. -/
def Step (F : Nat) (s t : State) : Prop := Same F s t ∧ (s.Inv → t.Inv)
/-- The outcome is a next state in `Step`. -/
def StepO (F : Nat) (s : State) (o : Host.Outcome State Fault Refusal) : Prop := ∃ t, o = .next t ∧ Step F s t
/-- A write's effect that succeeds is in `Step`. -/
def StepE (F : Nat) (s : State) (e : Except Nat State) : Prop := ∀ t, e = .ok t → Step F s t
/-- An optional state is in `Step`. -/
def StepP (F : Nat) (s : State) (o : Option State) : Prop := ∀ t, o = some t → Step F s t

theorem Step.refl (F : Nat) (s : State) : Step F s s := ⟨same_iff.mpr (by simp), id⟩

theorem Same.refl (F : Nat) (s : State) : Same F s s := same_iff.mpr (by simp)

theorem Step.mono {F G : Nat} {s t : State} (h : Step F s t) (hG : sub F G = true) : Step G s t := by
  refine ⟨same_iff.mpr ?_, h.2⟩
  have hs := same_iff.mp h.1
  have c : ∀ i, G.testBit i = false → F.testBit i = false := fun i hi => by
    cases hb : F.testBit i
    · rfl
    · rw [sub_testBit hG i hb] at hi; cases hi
  obtain ⟨h0, h1, h2, h3, h4, h5, h6, h7, h8, h9, h10, h11, h12, h13, h14, h15, h16, h17, h18, h19, h20, h21, h22, h23, h24, h25, h26, h27, h28, h29, h30, h31, h32, h33, h34, h35, h36, h37, h38, h39, h40, h41, h42, h43, h44, h45, h46, h47, h48, h49, h50, h51, h52, h53, h54, h55, h56, h57, h58⟩ := hs
  exact ⟨fun hb => h0 (c _ hb), fun hb => h1 (c _ hb), fun hb => h2 (c _ hb), fun hb => h3 (c _ hb), fun hb => h4 (c _ hb), fun hb => h5 (c _ hb), fun hb => h6 (c _ hb), fun hb => h7 (c _ hb), fun hb => h8 (c _ hb), fun hb => h9 (c _ hb), fun hb => h10 (c _ hb), fun hb => h11 (c _ hb), fun hb => h12 (c _ hb), fun hb => h13 (c _ hb), fun hb => h14 (c _ hb), fun hb => h15 (c _ hb), fun hb => h16 (c _ hb), fun hb => h17 (c _ hb), fun hb => h18 (c _ hb), fun hb => h19 (c _ hb), fun hb => h20 (c _ hb), fun hb => h21 (c _ hb), fun hb => h22 (c _ hb), fun hb => h23 (c _ hb), fun hb => h24 (c _ hb), fun hb => h25 (c _ hb), fun hb => h26 (c _ hb), fun hb => h27 (c _ hb), fun hb => h28 (c _ hb), fun hb => h29 (c _ hb), fun hb => h30 (c _ hb), fun hb => h31 (c _ hb), fun hb => h32 (c _ hb), fun hb => h33 (c _ hb), fun hb => h34 (c _ hb), fun hb => h35 (c _ hb), fun hb => h36 (c _ hb), fun hb => h37 (c _ hb), fun hb => h38 (c _ hb), fun hb => h39 (c _ hb), fun hb => h40 (c _ hb), fun hb => h41 (c _ hb), fun hb => h42 (c _ hb), fun hb => h43 (c _ hb), fun hb => h44 (c _ hb), fun hb => h45 (c _ hb), fun hb => h46 (c _ hb), fun hb => h47 (c _ hb), fun hb => h48 (c _ hb), fun hb => h49 (c _ hb), fun hb => h50 (c _ hb), fun hb => h51 (c _ hb), fun hb => h52 (c _ hb), fun hb => h53 (c _ hb), fun hb => h54 (c _ hb), fun hb => h55 (c _ hb), fun hb => h56 (c _ hb), fun hb => h57 (c _ hb), fun hb => h58 (c _ hb)⟩

theorem Step.trans {F : Nat} {s t u : State} (h : Step F s t) (k : Step F t u) : Step F s u := by
  refine ⟨same_iff.mpr ?_, fun hi => k.2 (h.2 hi)⟩
  obtain ⟨h0, h1, h2, h3, h4, h5, h6, h7, h8, h9, h10, h11, h12, h13, h14, h15, h16, h17, h18, h19, h20, h21, h22, h23, h24, h25, h26, h27, h28, h29, h30, h31, h32, h33, h34, h35, h36, h37, h38, h39, h40, h41, h42, h43, h44, h45, h46, h47, h48, h49, h50, h51, h52, h53, h54, h55, h56, h57, h58⟩ := same_iff.mp h.1
  obtain ⟨k0, k1, k2, k3, k4, k5, k6, k7, k8, k9, k10, k11, k12, k13, k14, k15, k16, k17, k18, k19, k20, k21, k22, k23, k24, k25, k26, k27, k28, k29, k30, k31, k32, k33, k34, k35, k36, k37, k38, k39, k40, k41, k42, k43, k44, k45, k46, k47, k48, k49, k50, k51, k52, k53, k54, k55, k56, k57, k58⟩ := same_iff.mp k.1
  exact ⟨fun hb => (k0 hb).trans (h0 hb), fun hb => (k1 hb).trans (h1 hb), fun hb => (k2 hb).trans (h2 hb), fun hb => (k3 hb).trans (h3 hb), fun hb => (k4 hb).trans (h4 hb), fun hb => (k5 hb).trans (h5 hb), fun hb => (k6 hb).trans (h6 hb), fun hb => (k7 hb).trans (h7 hb), fun hb => (k8 hb).trans (h8 hb), fun hb => (k9 hb).trans (h9 hb), fun hb => (k10 hb).trans (h10 hb), fun hb => (k11 hb).trans (h11 hb), fun hb => (k12 hb).trans (h12 hb), fun hb => (k13 hb).trans (h13 hb), fun hb => (k14 hb).trans (h14 hb), fun hb => (k15 hb).trans (h15 hb), fun hb => (k16 hb).trans (h16 hb), fun hb => (k17 hb).trans (h17 hb), fun hb => (k18 hb).trans (h18 hb), fun hb => (k19 hb).trans (h19 hb), fun hb => (k20 hb).trans (h20 hb), fun hb => (k21 hb).trans (h21 hb), fun hb => (k22 hb).trans (h22 hb), fun hb => (k23 hb).trans (h23 hb), fun hb => (k24 hb).trans (h24 hb), fun hb => (k25 hb).trans (h25 hb), fun hb => (k26 hb).trans (h26 hb), fun hb => (k27 hb).trans (h27 hb), fun hb => (k28 hb).trans (h28 hb), fun hb => (k29 hb).trans (h29 hb), fun hb => (k30 hb).trans (h30 hb), fun hb => (k31 hb).trans (h31 hb), fun hb => (k32 hb).trans (h32 hb), fun hb => (k33 hb).trans (h33 hb), fun hb => (k34 hb).trans (h34 hb), fun hb => (k35 hb).trans (h35 hb), fun hb => (k36 hb).trans (h36 hb), fun hb => (k37 hb).trans (h37 hb), fun hb => (k38 hb).trans (h38 hb), fun hb => (k39 hb).trans (h39 hb), fun hb => (k40 hb).trans (h40 hb), fun hb => (k41 hb).trans (h41 hb), fun hb => (k42 hb).trans (h42 hb), fun hb => (k43 hb).trans (h43 hb), fun hb => (k44 hb).trans (h44 hb), fun hb => (k45 hb).trans (h45 hb), fun hb => (k46 hb).trans (h46 hb), fun hb => (k47 hb).trans (h47 hb), fun hb => (k48 hb).trans (h48 hb), fun hb => (k49 hb).trans (h49 hb), fun hb => (k50 hb).trans (h50 hb), fun hb => (k51 hb).trans (h51 hb), fun hb => (k52 hb).trans (h52 hb), fun hb => (k53 hb).trans (h53 hb), fun hb => (k54 hb).trans (h54 hb), fun hb => (k55 hb).trans (h55 hb), fun hb => (k56 hb).trans (h56 hb), fun hb => (k57 hb).trans (h57 hb), fun hb => (k58 hb).trans (h58 hb)⟩

/-- Fields out of the mask keep their value. -/
theorem Step.same {F : Nat} {s t : State} (h : Step F s t) : Same F s t := h.1

/-- A record update: every field is free but `pending`, which names the state that is updated. -/
theorem Step.put {G F : Nat} {s0 u : State} {a0 a1 a2 a3 a4 a5 a6 a7 a8 a9 a10 a11 a12 a13 a14 a15 a16 a17 a18 a19 a20 a21 a22 a23 a24 a25 a26 a27 a28 a29 a30 a31 a32 a33 a34 a35 a36 a37 a38 a39 a40 a41 a42 a43 a44 a45 a46 a47 a48 a49 a50 a51 a52 a53 a54 a55 a56 a57} (h : Step G s0 u) (hG : sub F G = true)
    (hf : Same F u ⟨a0, a1, a2, a3, a4, a5, a6, a7, a8, a9, a10, a11, a12, a13, a14, a15, a16, a17, a18, a19, a20, a21, a22, a23, a24, a25, a26, a27, a28, a29, a30, a31, a32, a33, a34, a35, a36, a37, a38, a39, a40, a41, a42, a43, a44, a45, a46, a47, a48, a49, a50, a51, a52, a53, a54, a55, a56, a57, u.pending⟩)
    (hi : u.Inv → State.Inv ⟨a0, a1, a2, a3, a4, a5, a6, a7, a8, a9, a10, a11, a12, a13, a14, a15, a16, a17, a18, a19, a20, a21, a22, a23, a24, a25, a26, a27, a28, a29, a30, a31, a32, a33, a34, a35, a36, a37, a38, a39, a40, a41, a42, a43, a44, a45, a46, a47, a48, a49, a50, a51, a52, a53, a54, a55, a56, a57, u.pending⟩) :
    Step G s0 ⟨a0, a1, a2, a3, a4, a5, a6, a7, a8, a9, a10, a11, a12, a13, a14, a15, a16, a17, a18, a19, a20, a21, a22, a23, a24, a25, a26, a27, a28, a29, a30, a31, a32, a33, a34, a35, a36, a37, a38, a39, a40, a41, a42, a43, a44, a45, a46, a47, a48, a49, a50, a51, a52, a53, a54, a55, a56, a57, u.pending⟩ :=
  h.trans (Step.mono ⟨hf, hi⟩ hG)

/-- The invariant looks at nine parts of the state. -/
theorem State.Inv.congr {s t : State} (h1 : t.tier1 = s.tier1) (h2 : t.wafer.mode = s.wafer.mode)
    (h3 : t.can.nodeId = s.can.nodeId) (h4 : t.log = s.log) (h5 : t.faultBuffer = s.faultBuffer)
    (h6 : t.absentEmcy = s.absentEmcy) (h7 : t.can.history = s.can.history)
    (h8 : s.frames.rises → t.frames.rises) (h9 : s.sessions.rises → t.sessions.rises)
    (h10 : s.nodes.rises → t.nodes.rises) (h : s.Inv) : t.Inv :=
  ⟨h1 ▸ h.1, h2 ▸ h.2, h3 ▸ h.3, h4 ▸ h.4, h5 ▸ h6 ▸ h.5, h7 ▸ h.6, h8 h.7.1, h9 h.7.2.1, h10 h.7.2.2⟩

theorem Step.now {F : Nat} {s t : State} (h : Step F s t) (b : F.testBit 0 = false) : t.now = s.now := (same_iff.mp h.1).1 b
theorem Step.wafer {F : Nat} {s t : State} (h : Step F s t) (b : F.testBit 1 = false) : t.wafer = s.wafer := (same_iff.mp h.1).2.1 b
theorem Step.beat {F : Nat} {s t : State} (h : Step F s t) (b : F.testBit 2 = false) : t.beat = s.beat := (same_iff.mp h.1).2.2.1 b
theorem Step.sessions {F : Nat} {s t : State} (h : Step F s t) (b : F.testBit 3 = false) : t.sessions = s.sessions := (same_iff.mp h.1).2.2.2.1 b
theorem Step.hostA {F : Nat} {s t : State} (h : Step F s t) (b : F.testBit 4 = false) : t.hostA = s.hostA := (same_iff.mp h.1).2.2.2.2.1 b
theorem Step.hostB {F : Nat} {s t : State} (h : Step F s t) (b : F.testBit 5 = false) : t.hostB = s.hostB := (same_iff.mp h.1).2.2.2.2.2.1 b
theorem Step.sq {F : Nat} {s t : State} (h : Step F s t) (b : F.testBit 6 = false) : t.sq = s.sq := (same_iff.mp h.1).2.2.2.2.2.2.1 b
theorem Step.cq {F : Nat} {s t : State} (h : Step F s t) (b : F.testBit 7 = false) : t.cq = s.cq := (same_iff.mp h.1).2.2.2.2.2.2.2.1 b
theorem Step.lastRing {F : Nat} {s t : State} (h : Step F s t) (b : F.testBit 8 = false) : t.lastRing = s.lastRing := (same_iff.mp h.1).2.2.2.2.2.2.2.2.1 b
theorem Step.msix {F : Nat} {s t : State} (h : Step F s t) (b : F.testBit 9 = false) : t.msix = s.msix := (same_iff.mp h.1).2.2.2.2.2.2.2.2.2.1 b
theorem Step.pba {F : Nat} {s t : State} (h : Step F s t) (b : F.testBit 10 = false) : t.pba = s.pba := (same_iff.mp h.1).2.2.2.2.2.2.2.2.2.2.1 b
theorem Step.lists {F : Nat} {s t : State} (h : Step F s t) (b : F.testBit 11 = false) : t.lists = s.lists := (same_iff.mp h.1).2.2.2.2.2.2.2.2.2.2.2.1 b
theorem Step.nextList {F : Nat} {s t : State} (h : Step F s t) (b : F.testBit 12 = false) : t.nextList = s.nextList := (same_iff.mp h.1).2.2.2.2.2.2.2.2.2.2.2.2.1 b
theorem Step.jobs {F : Nat} {s t : State} (h : Step F s t) (b : F.testBit 13 = false) : t.jobs = s.jobs := (same_iff.mp h.1).2.2.2.2.2.2.2.2.2.2.2.2.2.1 b
theorem Step.frames {F : Nat} {s t : State} (h : Step F s t) (b : F.testBit 14 = false) : t.frames = s.frames := (same_iff.mp h.1).2.2.2.2.2.2.2.2.2.2.2.2.2.2.1 b
theorem Step.nextFrame {F : Nat} {s t : State} (h : Step F s t) (b : F.testBit 15 = false) : t.nextFrame = s.nextFrame := (same_iff.mp h.1).2.2.2.2.2.2.2.2.2.2.2.2.2.2.2.1 b
theorem Step.skips {F : Nat} {s t : State} (h : Step F s t) (b : F.testBit 16 = false) : t.skips = s.skips := (same_iff.mp h.1).2.2.2.2.2.2.2.2.2.2.2.2.2.2.2.2.1 b
theorem Step.setSkips {F : Nat} {s t : State} (h : Step F s t) (b : F.testBit 17 = false) : t.setSkips = s.setSkips := (same_iff.mp h.1).2.2.2.2.2.2.2.2.2.2.2.2.2.2.2.2.2.1 b
theorem Step.tier1 {F : Nat} {s t : State} (h : Step F s t) (b : F.testBit 18 = false) : t.tier1 = s.tier1 := (same_iff.mp h.1).2.2.2.2.2.2.2.2.2.2.2.2.2.2.2.2.2.2.1 b
theorem Step.granules {F : Nat} {s t : State} (h : Step F s t) (b : F.testBit 19 = false) : t.granules = s.granules := (same_iff.mp h.1).2.2.2.2.2.2.2.2.2.2.2.2.2.2.2.2.2.2.2.1 b
theorem Step.tier1Bad {F : Nat} {s t : State} (h : Step F s t) (b : F.testBit 20 = false) : t.tier1Bad = s.tier1Bad := (same_iff.mp h.1).2.2.2.2.2.2.2.2.2.2.2.2.2.2.2.2.2.2.2.2.1 b
theorem Step.dram {F : Nat} {s t : State} (h : Step F s t) (b : F.testBit 21 = false) : t.dram = s.dram := (same_iff.mp h.1).2.2.2.2.2.2.2.2.2.2.2.2.2.2.2.2.2.2.2.2.2.1 b
theorem Step.od {F : Nat} {s t : State} (h : Step F s t) (b : F.testBit 22 = false) : t.od = s.od := (same_iff.mp h.1).2.2.2.2.2.2.2.2.2.2.2.2.2.2.2.2.2.2.2.2.2.2.1 b
theorem Step.can {F : Nat} {s t : State} (h : Step F s t) (b : F.testBit 23 = false) : t.can = s.can := (same_iff.mp h.1).2.2.2.2.2.2.2.2.2.2.2.2.2.2.2.2.2.2.2.2.2.2.2.1 b
theorem Step.boxA {F : Nat} {s t : State} (h : Step F s t) (b : F.testBit 24 = false) : t.boxA = s.boxA := (same_iff.mp h.1).2.2.2.2.2.2.2.2.2.2.2.2.2.2.2.2.2.2.2.2.2.2.2.2.1 b
theorem Step.boxB {F : Nat} {s t : State} (h : Step F s t) (b : F.testBit 25 = false) : t.boxB = s.boxB := (same_iff.mp h.1).2.2.2.2.2.2.2.2.2.2.2.2.2.2.2.2.2.2.2.2.2.2.2.2.2.1 b
theorem Step.det {F : Nat} {s t : State} (h : Step F s t) (b : F.testBit 26 = false) : t.det = s.det := (same_iff.mp h.1).2.2.2.2.2.2.2.2.2.2.2.2.2.2.2.2.2.2.2.2.2.2.2.2.2.2.1 b
theorem Step.log {F : Nat} {s t : State} (h : Step F s t) (b : F.testBit 27 = false) : t.log = s.log := (same_iff.mp h.1).2.2.2.2.2.2.2.2.2.2.2.2.2.2.2.2.2.2.2.2.2.2.2.2.2.2.2.1 b
theorem Step.logMade {F : Nat} {s t : State} (h : Step F s t) (b : F.testBit 28 = false) : t.logMade = s.logMade := (same_iff.mp h.1).2.2.2.2.2.2.2.2.2.2.2.2.2.2.2.2.2.2.2.2.2.2.2.2.2.2.2.2.1 b
theorem Step.faultBuffer {F : Nat} {s t : State} (h : Step F s t) (b : F.testBit 29 = false) : t.faultBuffer = s.faultBuffer := (same_iff.mp h.1).2.2.2.2.2.2.2.2.2.2.2.2.2.2.2.2.2.2.2.2.2.2.2.2.2.2.2.2.2.1 b
theorem Step.absentEmcy {F : Nat} {s t : State} (h : Step F s t) (b : F.testBit 30 = false) : t.absentEmcy = s.absentEmcy := (same_iff.mp h.1).2.2.2.2.2.2.2.2.2.2.2.2.2.2.2.2.2.2.2.2.2.2.2.2.2.2.2.2.2.2.1 b
theorem Step.replacement {F : Nat} {s t : State} (h : Step F s t) (b : F.testBit 31 = false) : t.replacement = s.replacement := (same_iff.mp h.1).2.2.2.2.2.2.2.2.2.2.2.2.2.2.2.2.2.2.2.2.2.2.2.2.2.2.2.2.2.2.2.1 b
theorem Step.suspects {F : Nat} {s t : State} (h : Step F s t) (b : F.testBit 32 = false) : t.suspects = s.suspects := (same_iff.mp h.1).2.2.2.2.2.2.2.2.2.2.2.2.2.2.2.2.2.2.2.2.2.2.2.2.2.2.2.2.2.2.2.2.1 b
theorem Step.leases {F : Nat} {s t : State} (h : Step F s t) (b : F.testBit 33 = false) : t.leases = s.leases := (same_iff.mp h.1).2.2.2.2.2.2.2.2.2.2.2.2.2.2.2.2.2.2.2.2.2.2.2.2.2.2.2.2.2.2.2.2.2.1 b
theorem Step.dma {F : Nat} {s t : State} (h : Step F s t) (b : F.testBit 34 = false) : t.dma = s.dma := (same_iff.mp h.1).2.2.2.2.2.2.2.2.2.2.2.2.2.2.2.2.2.2.2.2.2.2.2.2.2.2.2.2.2.2.2.2.2.2.1 b
theorem Step.moves {F : Nat} {s t : State} (h : Step F s t) (b : F.testBit 35 = false) : t.moves = s.moves := (same_iff.mp h.1).2.2.2.2.2.2.2.2.2.2.2.2.2.2.2.2.2.2.2.2.2.2.2.2.2.2.2.2.2.2.2.2.2.2.2.1 b
theorem Step.injection {F : Nat} {s t : State} (h : Step F s t) (b : F.testBit 36 = false) : t.injection = s.injection := (same_iff.mp h.1).2.2.2.2.2.2.2.2.2.2.2.2.2.2.2.2.2.2.2.2.2.2.2.2.2.2.2.2.2.2.2.2.2.2.2.2.1 b
theorem Step.tiles {F : Nat} {s t : State} (h : Step F s t) (b : F.testBit 37 = false) : t.tiles = s.tiles := (same_iff.mp h.1).2.2.2.2.2.2.2.2.2.2.2.2.2.2.2.2.2.2.2.2.2.2.2.2.2.2.2.2.2.2.2.2.2.2.2.2.2.1 b
theorem Step.mesh {F : Nat} {s t : State} (h : Step F s t) (b : F.testBit 38 = false) : t.mesh = s.mesh := (same_iff.mp h.1).2.2.2.2.2.2.2.2.2.2.2.2.2.2.2.2.2.2.2.2.2.2.2.2.2.2.2.2.2.2.2.2.2.2.2.2.2.2.1 b
theorem Step.attach {F : Nat} {s t : State} (h : Step F s t) (b : F.testBit 39 = false) : t.attach = s.attach := (same_iff.mp h.1).2.2.2.2.2.2.2.2.2.2.2.2.2.2.2.2.2.2.2.2.2.2.2.2.2.2.2.2.2.2.2.2.2.2.2.2.2.2.2.1 b
theorem Step.rewardN {F : Nat} {s t : State} (h : Step F s t) (b : F.testBit 40 = false) : t.rewardN = s.rewardN := (same_iff.mp h.1).2.2.2.2.2.2.2.2.2.2.2.2.2.2.2.2.2.2.2.2.2.2.2.2.2.2.2.2.2.2.2.2.2.2.2.2.2.2.2.2.1 b
theorem Step.rewardSent {F : Nat} {s t : State} (h : Step F s t) (b : F.testBit 41 = false) : t.rewardSent = s.rewardSent := (same_iff.mp h.1).2.2.2.2.2.2.2.2.2.2.2.2.2.2.2.2.2.2.2.2.2.2.2.2.2.2.2.2.2.2.2.2.2.2.2.2.2.2.2.2.2.1 b
theorem Step.plans {F : Nat} {s t : State} (h : Step F s t) (b : F.testBit 42 = false) : t.plans = s.plans := (same_iff.mp h.1).2.2.2.2.2.2.2.2.2.2.2.2.2.2.2.2.2.2.2.2.2.2.2.2.2.2.2.2.2.2.2.2.2.2.2.2.2.2.2.2.2.2.1 b
theorem Step.segs {F : Nat} {s t : State} (h : Step F s t) (b : F.testBit 43 = false) : t.segs = s.segs := (same_iff.mp h.1).2.2.2.2.2.2.2.2.2.2.2.2.2.2.2.2.2.2.2.2.2.2.2.2.2.2.2.2.2.2.2.2.2.2.2.2.2.2.2.2.2.2.2.1 b
theorem Step.segCtr {F : Nat} {s t : State} (h : Step F s t) (b : F.testBit 44 = false) : t.segCtr = s.segCtr := (same_iff.mp h.1).2.2.2.2.2.2.2.2.2.2.2.2.2.2.2.2.2.2.2.2.2.2.2.2.2.2.2.2.2.2.2.2.2.2.2.2.2.2.2.2.2.2.2.2.1 b
theorem Step.conns {F : Nat} {s t : State} (h : Step F s t) (b : F.testBit 45 = false) : t.conns = s.conns := (same_iff.mp h.1).2.2.2.2.2.2.2.2.2.2.2.2.2.2.2.2.2.2.2.2.2.2.2.2.2.2.2.2.2.2.2.2.2.2.2.2.2.2.2.2.2.2.2.2.2.1 b
theorem Step.wrs {F : Nat} {s t : State} (h : Step F s t) (b : F.testBit 46 = false) : t.wrs = s.wrs := (same_iff.mp h.1).2.2.2.2.2.2.2.2.2.2.2.2.2.2.2.2.2.2.2.2.2.2.2.2.2.2.2.2.2.2.2.2.2.2.2.2.2.2.2.2.2.2.2.2.2.2.1 b
theorem Step.nextWr {F : Nat} {s t : State} (h : Step F s t) (b : F.testBit 47 = false) : t.nextWr = s.nextWr := (same_iff.mp h.1).2.2.2.2.2.2.2.2.2.2.2.2.2.2.2.2.2.2.2.2.2.2.2.2.2.2.2.2.2.2.2.2.2.2.2.2.2.2.2.2.2.2.2.2.2.2.2.1 b
theorem Step.ctrs {F : Nat} {s t : State} (h : Step F s t) (b : F.testBit 48 = false) : t.ctrs = s.ctrs := (same_iff.mp h.1).2.2.2.2.2.2.2.2.2.2.2.2.2.2.2.2.2.2.2.2.2.2.2.2.2.2.2.2.2.2.2.2.2.2.2.2.2.2.2.2.2.2.2.2.2.2.2.2.1 b
theorem Step.ports {F : Nat} {s t : State} (h : Step F s t) (b : F.testBit 49 = false) : t.ports = s.ports := (same_iff.mp h.1).2.2.2.2.2.2.2.2.2.2.2.2.2.2.2.2.2.2.2.2.2.2.2.2.2.2.2.2.2.2.2.2.2.2.2.2.2.2.2.2.2.2.2.2.2.2.2.2.2.1 b
theorem Step.buckets {F : Nat} {s t : State} (h : Step F s t) (b : F.testBit 50 = false) : t.buckets = s.buckets := (same_iff.mp h.1).2.2.2.2.2.2.2.2.2.2.2.2.2.2.2.2.2.2.2.2.2.2.2.2.2.2.2.2.2.2.2.2.2.2.2.2.2.2.2.2.2.2.2.2.2.2.2.2.2.2.1 b
theorem Step.nodes {F : Nat} {s t : State} (h : Step F s t) (b : F.testBit 51 = false) : t.nodes = s.nodes := (same_iff.mp h.1).2.2.2.2.2.2.2.2.2.2.2.2.2.2.2.2.2.2.2.2.2.2.2.2.2.2.2.2.2.2.2.2.2.2.2.2.2.2.2.2.2.2.2.2.2.2.2.2.2.2.2.1 b
theorem Step.power {F : Nat} {s t : State} (h : Step F s t) (b : F.testBit 52 = false) : t.power = s.power := (same_iff.mp h.1).2.2.2.2.2.2.2.2.2.2.2.2.2.2.2.2.2.2.2.2.2.2.2.2.2.2.2.2.2.2.2.2.2.2.2.2.2.2.2.2.2.2.2.2.2.2.2.2.2.2.2.2.1 b
theorem Step.up {F : Nat} {s t : State} (h : Step F s t) (b : F.testBit 53 = false) : t.up = s.up := (same_iff.mp h.1).2.2.2.2.2.2.2.2.2.2.2.2.2.2.2.2.2.2.2.2.2.2.2.2.2.2.2.2.2.2.2.2.2.2.2.2.2.2.2.2.2.2.2.2.2.2.2.2.2.2.2.2.2.1 b
theorem Step.fuses {F : Nat} {s t : State} (h : Step F s t) (b : F.testBit 54 = false) : t.fuses = s.fuses := (same_iff.mp h.1).2.2.2.2.2.2.2.2.2.2.2.2.2.2.2.2.2.2.2.2.2.2.2.2.2.2.2.2.2.2.2.2.2.2.2.2.2.2.2.2.2.2.2.2.2.2.2.2.2.2.2.2.2.2.1 b
theorem Step.fw {F : Nat} {s t : State} (h : Step F s t) (b : F.testBit 55 = false) : t.fw = s.fw := (same_iff.mp h.1).2.2.2.2.2.2.2.2.2.2.2.2.2.2.2.2.2.2.2.2.2.2.2.2.2.2.2.2.2.2.2.2.2.2.2.2.2.2.2.2.2.2.2.2.2.2.2.2.2.2.2.2.2.2.2.1 b
theorem Step.out {F : Nat} {s t : State} (h : Step F s t) (b : F.testBit 56 = false) : t.out = s.out := (same_iff.mp h.1).2.2.2.2.2.2.2.2.2.2.2.2.2.2.2.2.2.2.2.2.2.2.2.2.2.2.2.2.2.2.2.2.2.2.2.2.2.2.2.2.2.2.2.2.2.2.2.2.2.2.2.2.2.2.2.2.1 b
theorem Step.fresh {F : Nat} {s t : State} (h : Step F s t) (b : F.testBit 57 = false) : t.fresh = s.fresh := (same_iff.mp h.1).2.2.2.2.2.2.2.2.2.2.2.2.2.2.2.2.2.2.2.2.2.2.2.2.2.2.2.2.2.2.2.2.2.2.2.2.2.2.2.2.2.2.2.2.2.2.2.2.2.2.2.2.2.2.2.2.2.1 b
theorem Step.pending {F : Nat} {s t : State} (h : Step F s t) (b : F.testBit 58 = false) : t.pending = s.pending := (same_iff.mp h.1).2.2.2.2.2.2.2.2.2.2.2.2.2.2.2.2.2.2.2.2.2.2.2.2.2.2.2.2.2.2.2.2.2.2.2.2.2.2.2.2.2.2.2.2.2.2.2.2.2.2.2.2.2.2.2.2.2.2 b

/-- The bit of a field. -/
def Field.idx (f : Field) : Nat :=
  match f with
  | .now => 0
  | .wafer => 1
  | .beat => 2
  | .sessions => 3
  | .hostA => 4
  | .hostB => 5
  | .sq => 6
  | .cq => 7
  | .lastRing => 8
  | .msix => 9
  | .pba => 10
  | .lists => 11
  | .nextList => 12
  | .jobs => 13
  | .frames => 14
  | .nextFrame => 15
  | .skips => 16
  | .setSkips => 17
  | .tier1 => 18
  | .granules => 19
  | .tier1Bad => 20
  | .dram => 21
  | .od => 22
  | .can => 23
  | .boxA => 24
  | .boxB => 25
  | .det => 26
  | .log => 27
  | .logMade => 28
  | .faultBuffer => 29
  | .absentEmcy => 30
  | .replacement => 31
  | .suspects => 32
  | .leases => 33
  | .dma => 34
  | .moves => 35
  | .injection => 36
  | .tiles => 37
  | .mesh => 38
  | .attach => 39
  | .rewardN => 40
  | .rewardSent => 41
  | .plans => 42
  | .segs => 43
  | .segCtr => 44
  | .conns => 45
  | .wrs => 46
  | .nextWr => 47
  | .ctrs => 48
  | .ports => 49
  | .buckets => 50
  | .nodes => 51
  | .power => 52
  | .up => 53
  | .fuses => 54
  | .fw => 55
  | .out => 56
  | .fresh => 57
  | .pending => 58

/-- Every field of the mask stands in the list. -/
def maskIn (F : Nat) (fs : List Field) : Bool := [.now, .wafer, .beat, .sessions, .hostA, .hostB, .sq, .cq, .lastRing, .msix, .pba, .lists, .nextList, .jobs, .frames, .nextFrame, .skips, .setSkips, .tier1, .granules, .tier1Bad, .dram, .od, .can, .boxA, .boxB, .det, .log, .logMade, .faultBuffer, .absentEmcy, .replacement, .suspects, .leases, .dma, .moves, .injection, .tiles, .mesh, .attach, .rewardN, .rewardSent, .plans, .segs, .segCtr, .conns, .wrs, .nextWr, .ctrs, .ports, .buckets, .nodes, .power, .up, .fuses, .fw, .out, .fresh, .pending].all fun f => !F.testBit f.idx || fs.contains f

theorem Step.only {F : Nat} {s t : State} {fs : List Field} (h : Step F s t) (c : maskIn F fs = true) : s.onlyChanges fs t := by
  have key : ∀ f : Field, f ∉ fs → F.testBit f.idx = false := by
    intro f hf
    have hc := List.all_eq_true.mp c f (by cases f <;> decide)
    have hn : fs.contains f = false := by simpa using hf
    rw [hn, Bool.or_false] at hc
    simpa using hc
  intro f hf
  have b := key f hf
  cases f
  case now => exact h.now b
  case wafer => exact h.wafer b
  case beat => exact h.beat b
  case sessions => exact h.sessions b
  case hostA => exact h.hostA b
  case hostB => exact h.hostB b
  case sq => exact h.sq b
  case cq => exact h.cq b
  case lastRing => exact h.lastRing b
  case msix => exact h.msix b
  case pba => exact h.pba b
  case lists => exact h.lists b
  case nextList => exact h.nextList b
  case jobs => exact h.jobs b
  case frames => exact h.frames b
  case nextFrame => exact h.nextFrame b
  case skips => exact h.skips b
  case setSkips => exact h.setSkips b
  case tier1 => exact h.tier1 b
  case granules => exact h.granules b
  case tier1Bad => exact h.tier1Bad b
  case dram => exact h.dram b
  case od => exact h.od b
  case can => exact h.can b
  case boxA => exact h.boxA b
  case boxB => exact h.boxB b
  case det => exact h.det b
  case log => exact h.log b
  case logMade => exact h.logMade b
  case faultBuffer => exact h.faultBuffer b
  case absentEmcy => exact h.absentEmcy b
  case replacement => exact h.replacement b
  case suspects => exact h.suspects b
  case leases => exact h.leases b
  case dma => exact h.dma b
  case moves => exact h.moves b
  case injection => exact h.injection b
  case tiles => exact h.tiles b
  case mesh => exact h.mesh b
  case attach => exact h.attach b
  case rewardN => exact h.rewardN b
  case rewardSent => exact h.rewardSent b
  case plans => exact h.plans b
  case segs => exact h.segs b
  case segCtr => exact h.segCtr b
  case conns => exact h.conns b
  case wrs => exact h.wrs b
  case nextWr => exact h.nextWr b
  case ctrs => exact h.ctrs b
  case ports => exact h.ports b
  case buckets => exact h.buckets b
  case nodes => exact h.nodes b
  case power => exact h.power b
  case up => exact h.up b
  case fuses => exact h.fuses b
  case fw => exact h.fw b
  case out => exact h.out b
  case fresh => exact h.fresh b
  case pending => exact h.pending b

theorem Step.ite {G : Nat} {s0 a b : State} {c : Prop} [Decidable c] (ha : c → Step G s0 a) (hb : ¬ c → Step G s0 b) :
    Step G s0 (if c then a else b) := by
  split
  · exact ha ‹_›
  · exact hb ‹_›

theorem StepO.ite {G : Nat} {s0 : State} {a b : Host.Outcome State Fault Refusal} {c : Prop} [Decidable c]
    (ha : c → StepO G s0 a) (hb : ¬ c → StepO G s0 b) : StepO G s0 (if c then a else b) := by
  split
  · exact ha ‹_›
  · exact hb ‹_›

theorem StepE.ite {G : Nat} {s0 : State} {a b : Except Nat State} {c : Prop} [Decidable c]
    (ha : c → StepE G s0 a) (hb : ¬ c → StepE G s0 b) : StepE G s0 (if c then a else b) := by
  split
  · exact ha ‹_›
  · exact hb ‹_›

theorem StepP.ite {G : Nat} {s0 : State} {a b : Option State} {c : Prop} [Decidable c]
    (ha : c → StepP G s0 a) (hb : ¬ c → StepP G s0 b) : StepP G s0 (if c then a else b) := by
  split
  · exact ha ‹_›
  · exact hb ‹_›

theorem StepO.next {G : Nat} {s0 t : State} (h : Step G s0 t) : StepO G s0 (.next t) := ⟨t, rfl, h⟩
theorem StepE.ok {G : Nat} {s0 t : State} (h : Step G s0 t) : StepE G s0 (.ok t) := by
  intro u hu; cases hu; exact h
theorem StepE.error {G : Nat} {s0 : State} {c : Nat} : StepE G s0 (.error c) := by
  intro u hu; cases hu
theorem StepP.some {G : Nat} {s0 t : State} (h : Step G s0 t) : StepP G s0 (Option.some t) := by
  intro u hu; cases hu; exact h
theorem StepP.none {G : Nat} {s0 : State} : StepP G s0 Option.none := by
  intro u hu; cases hu

theorem StepP.map {G : Nat} {s0 : State} {α : Type} {f : α → State} {o : Option α} (h : ∀ a, Step G s0 (f a)) :
    StepP G s0 (o.map f) := by
  cases o with
  | none => exact StepP.none
  | some a => exact StepP.some (h a)

/-- The state of a pair that a match has named. -/
theorem Step.ofFst {G : Nat} {s0 t : State} {β : Type} {b : β} {x : State × β} (e : x = (t, b)) (h : Step G s0 x.1) :
    Step G s0 t := by subst e; exact h
/-- The state of an effect, or an option, that a match has named. -/
theorem StepE.named {G : Nat} {s0 t : State} {x : Except Nat State} (e : x = .ok t) (h : StepE G s0 x) : Step G s0 t := h t e
theorem StepP.named {G : Nat} {s0 t : State} {x : Option State} (e : x = Option.some t) (h : StepP G s0 x) : Step G s0 t := h t e
/-- The state of a pair that a pattern has named. -/
theorem Step.fstMk {G : Nat} {s0 t : State} {β : Type} {b : β} (h : Step G s0 t) : Step G s0 (t, b).1 := h

theorem Step.fstIte {G : Nat} {s0 : State} {β : Type} {a b : State × β} {c : Prop} [Decidable c]
    (ha : c → Step G s0 a.1) (hb : ¬ c → Step G s0 b.1) : Step G s0 (if c then a else b).1 := by
  split
  · exact ha ‹_›
  · exact hb ‹_›

theorem each_step {G : Nat} {s0 s : State} {α : Type} {f : State → α → State} {l : List α} (h : Step G s0 s)
    (hf : ∀ u x, Step G s0 u → Step G s0 (f u x)) : Step G s0 (each l f s) := by
  unfold each
  induction l generalizing s with
  | nil => exact h
  | cons x l ih => exact ih (hf s x h)

theorem foldl_step {G : Nat} {s0 s : State} {α : Type} {f : State → α → State} {l : List α} (h : Step G s0 s)
    (hf : ∀ u x, Step G s0 u → Step G s0 (f u x)) : Step G s0 (l.foldl f s) := each_step (f := f) h hf

theorem foldl_keeps {α β : Type} {p : α → Prop} {f : α → β → α} {l : List β} {z : α} (h : p z)
    (hf : ∀ u x, p u → p (f u x)) : p (l.foldl f z) := by
  induction l generalizing z with
  | nil => exact h
  | cons x l ih => exact ih (hf z x h)

theorem foldlFst_step {G : Nat} {s0 : State} {α β : Type} {f : State × β → α → State × β} {l : List α} {z : State × β}
    (h : Step G s0 z.1) (hf : ∀ u x, Step G s0 u.1 → Step G s0 (f u x).1) : Step G s0 (l.foldl f z).1 := by
  induction l generalizing z with
  | nil => exact h
  | cons x l ih => exact ih (hf z x h)

theorem whenDue_step {G : Nat} {s0 s t : State} {c : Bool} (h : Step G s0 s) (k : Step G s0 t) :
    StepO G s0 (whenDue c s t) := ⟨_, rfl, by split <;> assumption⟩

end Sys2Proof.Machine
end

