-- ==== Sys2Proof/Laws/KeepShared.lean ====
section
/-! SUPPORT. Every state function of the shared operations, lists, failures and boundaries:
the fields that it may change, and that it keeps the invariant. -/

-- One proof at a time, as in Keep.lean.
set_option Elab.async false
-- Every proof here tries the same few tactics in the same order, and not each of them meets a goal.
set_option linter.unusedTactic false
set_option linter.unreachableTactic false

namespace Sys2Proof.Machine

/-! ### Ops -/

theorem State.advanceTo_step {G : Nat} {s0 s : State} {x1} (h : Step G s0 s)
    (hG : sub 1 G = true) : Step G s0 (State.advanceTo s x1) := by
  unfold State.advanceTo
  try dsimp only
  repeat' first
    | with_reducible assumption
    | ((with_reducible refine sub_trans ?_ hG); exact rfl)
    | ((with_reducible refine Step.put (F := 1) ?_ hG ?_ ?_); rotate_left; (fail_if_success (with_reducible exact Same.refl _ _)); exact rfl; (first | with_reducible exact State.Inv.congr rfl rfl rfl rfl rfl rfl rfl id id id))
    | with_reducible refine Step.ite (fun _ => ?_) (fun _ => ?_)
    | with_reducible apply foldl_step
    | with_reducible apply foldlFst_step
    | with_reducible intro _
    | with_reducible refine Step.ofFst (by assumption) ?_
    | with_reducible refine StepE.named (by assumption) ?_
    | with_reducible refine StepP.named (by assumption) ?_
    | split
    | dsimp only

theorem State.putCell_step {G : Nat} {s0 s : State} {x1} {x2} {x3} (h : Step G s0 s)
    (hG : sub 4194304 G = true) : Step G s0 (State.putCell s x1 x2 x3) := by
  unfold State.putCell
  try dsimp only
  repeat' first
    | with_reducible assumption
    | ((with_reducible refine sub_trans ?_ hG); exact rfl)
    | ((with_reducible refine Step.put (F := 4194304) ?_ hG ?_ ?_); rotate_left; (fail_if_success (with_reducible exact Same.refl _ _)); exact rfl; (first | with_reducible exact State.Inv.congr rfl rfl rfl rfl rfl rfl rfl id id id))
    | with_reducible refine Step.ite (fun _ => ?_) (fun _ => ?_)
    | with_reducible apply foldl_step
    | with_reducible apply foldlFst_step
    | with_reducible intro _
    | with_reducible refine Step.ofFst (by assumption) ?_
    | with_reducible refine StepE.named (by assumption) ?_
    | with_reducible refine StepP.named (by assumption) ?_
    | split
    | dsimp only

theorem State.count_step {G : Nat} {s0 s : State} {x1} {x2} {x3} {x4} (h : Step G s0 s)
    (hG : sub 4194304 G = true) : Step G s0 (State.count s x1 x2 x3 x4) := by
  unfold State.count
  try dsimp only
  repeat' first
    | with_reducible assumption
    | with_reducible apply State.putCell_step

theorem State.bump64_step {G : Nat} {s0 s : State} {x1} {x2} (h : Step G s0 s)
    (hG : sub 4194304 G = true) : Step G s0 (State.bump64 s x1 x2) := by
  unfold State.bump64
  try dsimp only
  repeat' first
    | with_reducible assumption
    | with_reducible apply State.count_step

theorem State.bump32_step {G : Nat} {s0 s : State} {x1} {x2} (h : Step G s0 s)
    (hG : sub 4194304 G = true) : Step G s0 (State.bump32 s x1 x2) := by
  unfold State.bump32
  try dsimp only
  repeat' first
    | with_reducible assumption
    | with_reducible apply State.count_step

theorem State.setHost_step {G : Nat} {s0 s : State} {x1} {x2} (h : Step G s0 s)
    (hG : sub 48 G = true) : Step G s0 (State.setHost s x1 x2) := by
  unfold State.setHost
  try dsimp only
  repeat' first
    | with_reducible assumption
    | ((with_reducible refine Step.put (F := 48) ?_ hG ?_ ?_); rotate_left; (fail_if_success (with_reducible exact Same.refl _ _)); exact rfl; (first | with_reducible exact State.Inv.congr rfl rfl rfl rfl rfl rfl rfl id id id))
    | with_reducible refine Step.ite (fun _ => ?_) (fun _ => ?_)
    | with_reducible apply foldl_step
    | with_reducible apply foldlFst_step
    | with_reducible intro _
    | with_reducible refine Step.ofFst (by assumption) ?_
    | with_reducible refine StepE.named (by assumption) ?_
    | with_reducible refine StepP.named (by assumption) ?_
    | split

theorem State.logAdd_step {G : Nat} {s0 s : State} {x1} {x2} {x3} {x4} {x5} (h : Step G s0 s)
    (hG : sub 939524096 G = true) : Step G s0 (State.logAdd s x1 x2 x3 x4 x5) := by
  unfold State.logAdd
  dsimp only
  refine Step.ite (fun _ => ?_) (fun _ => ?_)
  · refine Step.put (F := 939524096) h hG rfl fun v => ⟨v.1, v.2, v.3, v.4, ⟨?_, v.5.2⟩, v.6, v.7⟩
    simp only [List.length_take]; omega
  · split
    · exact Step.put (F := 939524096) h hG rfl fun v => ⟨v.1, v.2, v.3, mapVals_keys _ _ v.4, v.5, v.6, v.7⟩
    · exact Step.put (F := 939524096) h hG rfl fun v => ⟨v.1, v.2, v.3, putCell_keys (Nat.mod_lt _ (by decide)) _ _ v.4, v.5, v.6, v.7⟩

theorem State.fireFull_step {G : Nat} {s0 s : State} {x1} {x2} {x3} {x4} {x5} (h : Step G s0 s)
    (hG : sub 1006632960 G = true) : Step G s0 (State.fireFull s x1 x2 x3 x4 x5) := by
  unfold State.fireFull
  try dsimp only
  repeat' first
    | with_reducible assumption
    | ((with_reducible refine sub_trans ?_ hG); exact rfl)
    | with_reducible apply State.logAdd_step
    | ((with_reducible refine Step.put (F := 1006632960) ?_ hG ?_ ?_); rotate_left; (fail_if_success (with_reducible exact Same.refl _ _)); exact rfl; (first | with_reducible exact State.Inv.congr rfl rfl rfl rfl rfl rfl rfl id id id))
    | with_reducible refine Step.ite (fun _ => ?_) (fun _ => ?_)
    | with_reducible apply foldl_step
    | with_reducible apply foldlFst_step
    | with_reducible intro _
    | with_reducible refine Step.ofFst (by assumption) ?_
    | with_reducible refine StepE.named (by assumption) ?_
    | with_reducible refine StepP.named (by assumption) ?_
    | split
    | dsimp only

theorem State.fire_step {G : Nat} {s0 s : State} {x1} {x2} {x3} (h : Step G s0 s)
    (hG : sub 1006632960 G = true) : Step G s0 (State.fire s x1 x2 x3) := by
  unfold State.fire
  try dsimp only
  repeat' first
    | with_reducible assumption
    | with_reducible apply State.fireFull_step

theorem State.logAct_step {G : Nat} {s0 s : State} {x1} {x2} {x3} (h : Step G s0 s)
    (hG : sub 939524096 G = true) : Step G s0 (State.logAct s x1 x2 x3) := by
  unfold State.logAct
  refine Step.ite (fun _ => ?_) (fun _ => ?_)
  · refine Step.put (F := 939524096) h hG rfl fun v => ⟨v.1, v.2, v.3, v.4, ⟨?_, v.5.2⟩, v.6, v.7⟩
    simpa using v.5.1
  · split
    · exact Step.put (F := 939524096) h hG rfl fun v => ⟨v.1, v.2, v.3, mapVals_keys _ _ v.4, v.5, v.6, v.7⟩
    · exact State.logAdd_step h hG

theorem State.segCount_step {G : Nat} {s0 s : State} {x1} {x2} {x3} (h : Step G s0 s)
    (hG : sub 17592186044416 G = true) : Step G s0 (State.segCount s x1 x2 x3) := by
  unfold State.segCount
  try dsimp only
  repeat' first
    | with_reducible assumption
    | ((with_reducible refine sub_trans ?_ hG); exact rfl)
    | ((with_reducible refine Step.put (F := 17592186044416) ?_ hG ?_ ?_); rotate_left; (fail_if_success (with_reducible exact Same.refl _ _)); exact rfl; (first | with_reducible exact State.Inv.congr rfl rfl rfl rfl rfl rfl rfl id id id))
    | with_reducible refine Step.ite (fun _ => ?_) (fun _ => ?_)
    | with_reducible apply foldl_step
    | with_reducible apply foldlFst_step
    | with_reducible intro _
    | with_reducible refine Step.ofFst (by assumption) ?_
    | with_reducible refine StepE.named (by assumption) ?_
    | with_reducible refine StepP.named (by assumption) ?_
    | split
    | dsimp only

theorem State.tierFix_step {G : Nat} {s0 s : State} {x1} (h : Step G s0 s)
    (hG : sub 17593193725952 G = true) : Step G s0 (State.tierFix s x1) := by
  unfold State.tierFix
  try dsimp only
  repeat' first
    | with_reducible assumption
    | ((with_reducible refine sub_trans ?_ hG); exact rfl)
    | with_reducible apply State.fire_step
    | with_reducible apply State.segCount_step
    | ((with_reducible refine Step.put (F := 17593193725952) ?_ hG ?_ ?_); rotate_left; (fail_if_success (with_reducible exact Same.refl _ _)); exact rfl; (first | with_reducible exact State.Inv.congr rfl rfl rfl rfl rfl rfl rfl id id id))
    | with_reducible refine Step.ite (fun _ => ?_) (fun _ => ?_)
    | with_reducible apply foldl_step
    | with_reducible apply foldlFst_step
    | with_reducible intro _
    | with_reducible refine Step.ofFst (by assumption) ?_
    | with_reducible refine StepE.named (by assumption) ?_
    | with_reducible refine StepP.named (by assumption) ?_
    | split
    | dsimp only

theorem State.tierLost_step {G : Nat} {s0 s : State} {x1} (h : Step G s0 s)
    (hG : sub 17593192677376 G = true) : Step G s0 (State.tierLost s x1) := by
  unfold State.tierLost
  try dsimp only
  repeat' first
    | with_reducible assumption
    | ((with_reducible refine sub_trans ?_ hG); exact rfl)
    | with_reducible apply State.segCount_step
    | with_reducible apply State.fire_step

theorem State.tierRead_step {G : Nat} {s0 s : State} {x1} {x2} (h : Step G s0 s)
    (hG : sub 17593193725952 G = true) : Step G s0 (State.tierRead s x1 x2) := by
  unfold State.tierRead
  try dsimp only
  repeat' first
    | with_reducible assumption
    | ((with_reducible refine sub_trans ?_ hG); exact rfl)
    | with_reducible apply State.tierFix_step
    | with_reducible apply State.tierLost_step
    | with_reducible apply State.segCount_step
    | with_reducible apply State.fire_step
    | with_reducible apply each_step
    | with_reducible refine Step.ite (fun _ => ?_) (fun _ => ?_)
    | with_reducible apply foldl_step
    | with_reducible apply foldlFst_step
    | with_reducible intro _

theorem State.tierWrite_step {G : Nat} {s0 s : State} {x1} {x2} (h : Step G s0 s)
    (hG : sub 17593194512384 G = true) : Step G s0 (State.tierWrite s x1 x2) := by
  unfold State.tierWrite
  dsimp only
  have k : Step G s0 (each (s.tierStop x1 x2.length) State.tierLost (each ((s.tierErrors x1 x2.length false).filter fun w =>
      !(decide (x1 ≤ w * 8) && decide (w * 8 + 8 ≤ x1 + x2.length))) State.tierFix s)) :=
    each_step (each_step h fun _ _ hu => State.tierFix_step hu (sub_trans rfl hG))
      fun _ _ hu => State.tierLost_step hu (sub_trans rfl hG)
  revert k
  generalize each (s.tierStop x1 x2.length) State.tierLost _ = u
  intro k
  refine Step.put (F := 17593194512384) k hG rfl fun v => ⟨?_, v.2, v.3, v.4, v.5, v.6, v.7⟩
  dsimp only
  split
  · exact Memory.writeBytes_wf v.1 _ _
  · exact foldl_keeps (p := fun m : Memory => m.wf = true) v.1 fun m b hm => by split; exacts [hm, Memory.write_wf hm _ _]

theorem State.tierStrike_step {G : Nat} {s0 s : State} {x1} (h : Step G s0 s)
    (hG : sub 1048576 G = true) : Step G s0 (State.tierStrike s x1) := by
  unfold State.tierStrike
  try dsimp only
  repeat' first
    | with_reducible assumption
    | ((with_reducible refine sub_trans ?_ hG); exact rfl)
    | ((with_reducible refine Step.put (F := 1048576) ?_ hG ?_ ?_); rotate_left; (fail_if_success (with_reducible exact Same.refl _ _)); exact rfl; (first | with_reducible exact State.Inv.congr rfl rfl rfl rfl rfl rfl rfl id id id))
    | with_reducible refine Step.ite (fun _ => ?_) (fun _ => ?_)
    | with_reducible apply foldl_step
    | with_reducible apply foldlFst_step
    | with_reducible intro _
    | with_reducible refine Step.ofFst (by assumption) ?_
    | with_reducible refine StepE.named (by assumption) ?_
    | with_reducible refine StepP.named (by assumption) ?_
    | split
    | dsimp only

theorem State.emcyAt_step {G : Nat} {s0 s : State} {x1} {x2} {x3} (h : Step G s0 s)
    (hG : sub 2092957696 G = true) : Step G s0 (State.emcyAt s x1 x2 x3) := by
  unfold State.emcyAt
  dsimp only
  have k : Step G s0 (if x1 = 0 then s else { s with can := { s.can with history := ((x1 + x2 * 65536) :: s.can.history).take 8 } }) := by
    refine Step.ite (fun _ => h) (fun _ => ?_)
    refine Step.put (F := 2092957696) h hG rfl fun v => ⟨v.1, v.2, v.3, v.4, v.5, ?_, v.7⟩
    simp only [List.length_take]; omega
  refine Step.ite (fun _ => ?_) (fun _ => Step.ite (fun _ => h) (fun _ => ?_))
  · refine Step.put (F := 2092957696) h hG rfl fun v => ⟨v.1, v.2, v.3, v.4, ⟨v.5.1, ?_⟩, v.6, v.7⟩
    simp only [List.length_take]; omega
  · revert k
    generalize (if x1 = 0 then s else _) = u
    intro k
    refine Step.ite (fun _ => ?_) (fun _ => ?_)
    · exact Step.put (F := 2092957696) k hG rfl fun v => ⟨v.1, v.2, v.3, v.4, v.5, v.6, v.7⟩
    · refine State.fire_step (Step.put (F := 2092957696) (State.bump32_step k (sub_trans rfl hG)) hG rfl ?_) (sub_trans rfl hG)
      exact fun v => ⟨v.1, v.2, v.3, v.4, v.5, v.6, v.7⟩

theorem State.emcy_step {G : Nat} {s0 s : State} {x1} {x2} (h : Step G s0 s)
    (hG : sub 2092957696 G = true) : Step G s0 (State.emcy s x1 x2) := by
  unfold State.emcy
  try dsimp only
  repeat' first
    | with_reducible assumption
    | with_reducible apply State.emcyAt_step

theorem State.clocksFresh_step {G : Nat} {s0 s : State} {x1} (h : Step G s0 s)
    (hG : sub 4503599627370496 G = true) : Step G s0 (State.clocksFresh s x1) := by
  unfold State.clocksFresh
  try dsimp only
  repeat' first
    | with_reducible assumption
    | ((with_reducible refine sub_trans ?_ hG); exact rfl)
    | ((with_reducible refine Step.put (F := 4503599627370496) ?_ hG ?_ ?_); rotate_left; (fail_if_success (with_reducible exact Same.refl _ _)); exact rfl; (first | with_reducible exact State.Inv.congr rfl rfl rfl rfl rfl rfl rfl id id id))
    | with_reducible refine Step.ite (fun _ => ?_) (fun _ => ?_)
    | with_reducible apply foldl_step
    | with_reducible apply foldlFst_step
    | with_reducible intro _
    | with_reducible refine Step.ofFst (by assumption) ?_
    | with_reducible refine StepE.named (by assumption) ?_
    | with_reducible refine StepP.named (by assumption) ?_
    | split
    | dsimp only

theorem State.raise_step {G : Nat} {s0 s : State} {x1} {x2} (h : Step G s0 s)
    (hG : sub 72057594037928960 G = true) : Step G s0 (State.raise s x1 x2) := by
  unfold State.raise
  try dsimp only
  repeat' first
    | with_reducible assumption
    | ((with_reducible refine Step.put (F := 72057594037928960) ?_ hG ?_ ?_); rotate_left; (fail_if_success (with_reducible exact Same.refl _ _)); exact rfl; (first | with_reducible exact State.Inv.congr rfl rfl rfl rfl rfl rfl rfl id id id))
    | with_reducible refine Step.ite (fun _ => ?_) (fun _ => ?_)

theorem State.cqPut_step {G : Nat} {s0 s : State} {x1} {x2} {x3} (h : Step G s0 s)
    (hG : sub 72075187232441472 G = true) : Step G s0 (State.cqPut s x1 x2 x3) := by
  unfold State.cqPut
  try dsimp only
  repeat' first
    | with_reducible assumption
    | ((with_reducible refine sub_trans ?_ hG); exact rfl)
    | with_reducible apply State.tierWrite_step
    | with_reducible apply State.raise_step
    | ((with_reducible refine Step.put (F := 72075187232441472) ?_ hG ?_ ?_); rotate_left; (fail_if_success (with_reducible exact Same.refl _ _)); exact rfl; (first | with_reducible exact State.Inv.congr rfl rfl rfl rfl rfl rfl rfl id id id))
    | with_reducible refine Step.ite (fun _ => ?_) (fun _ => ?_)

theorem State.event_step {G : Nat} {s0 s : State} {x1} {x2} {x3} {x4} {x5} (h : Step G s0 s)
    (hG : sub 72075187236635824 G = true) : Step G s0 (State.event s x1 x2 x3 x4 x5) := by
  unfold State.event
  try dsimp only
  repeat' first
    | with_reducible assumption
    | ((with_reducible refine sub_trans ?_ hG); exact rfl)
    | with_reducible apply State.bump64_step
    | with_reducible apply State.cqPut_step
    | with_reducible apply State.fire_step
    | with_reducible apply State.setHost_step
    | with_reducible refine Step.ite (fun _ => ?_) (fun _ => ?_)

theorem State.eventAll_step {G : Nat} {s0 s : State} {x1} {x2} {x3} {x4} (h : Step G s0 s)
    (hG : sub 72075187236635824 G = true) : Step G s0 (State.eventAll s x1 x2 x3 x4) := by
  unfold State.eventAll
  try dsimp only
  repeat' first
    | with_reducible assumption
    | with_reducible apply State.event_step

theorem State.emcyEvent_step {G : Nat} {s0 s : State} {x1} {x2} {x3} (h : Step G s0 s)
    (hG : sub 72075188318766256 G = true) : Step G s0 (State.emcyEvent s x1 x2 x3) := by
  unfold State.emcyEvent
  try dsimp only
  repeat' first
    | with_reducible assumption
    | ((with_reducible refine sub_trans ?_ hG); exact rfl)
    | with_reducible apply State.emcyAt_step
    | with_reducible apply State.eventAll_step
    | with_reducible refine Step.ite (fun _ => ?_) (fun _ => ?_)

theorem State.emcyPower_step {G : Nat} {s0 s : State} {x1} {x2} {x3} (h : Step G s0 s)
    (hG : sub 72075188318766256 G = true) : Step G s0 (State.emcyPower s x1 x2 x3) := by
  unfold State.emcyPower
  try dsimp only
  repeat' first
    | with_reducible assumption
    | with_reducible apply State.emcyEvent_step

theorem State.suspect_step {G : Nat} {s0 s : State} {x1} {x2} (h : Step G s0 s)
    (hG : sub 4294967296 G = true) : Step G s0 (State.suspect s x1 x2) := by
  unfold State.suspect
  try dsimp only
  repeat' first
    | with_reducible assumption
    | ((with_reducible refine Step.put (F := 4294967296) ?_ hG ?_ ?_); rotate_left; (fail_if_success (with_reducible exact Same.refl _ _)); exact rfl; (first | with_reducible exact State.Inv.congr rfl rfl rfl rfl rfl rfl rfl id id id))
    | with_reducible refine Step.ite (fun _ => ?_) (fun _ => ?_)

theorem State.unsuspect_step {G : Nat} {s0 s : State} {x1} (h : Step G s0 s)
    (hG : sub 4294967296 G = true) : Step G s0 (State.unsuspect s x1) := by
  unfold State.unsuspect
  try dsimp only
  repeat' first
    | with_reducible assumption
    | ((with_reducible refine sub_trans ?_ hG); exact rfl)
    | ((with_reducible refine Step.put (F := 4294967296) ?_ hG ?_ ?_); rotate_left; (fail_if_success (with_reducible exact Same.refl _ _)); exact rfl; (first | with_reducible exact State.Inv.congr rfl rfl rfl rfl rfl rfl rfl id id id))
    | with_reducible refine Step.ite (fun _ => ?_) (fun _ => ?_)
    | with_reducible apply foldl_step
    | with_reducible apply foldlFst_step
    | with_reducible intro _
    | with_reducible refine Step.ofFst (by assumption) ?_
    | with_reducible refine StepE.named (by assumption) ?_
    | with_reducible refine StepP.named (by assumption) ?_
    | split
    | dsimp only

theorem State.draw_step {G : Nat} {s0 s : State}  (h : Step G s0 s)
    (hG : sub 144115188075855872 G = true) : Step G s0 (State.draw s) := by
  unfold State.draw
  try dsimp only
  repeat' first
    | with_reducible assumption
    | ((with_reducible refine sub_trans ?_ hG); exact rfl)
    | ((with_reducible refine Step.put (F := 144115188075855872) ?_ hG ?_ ?_); rotate_left; (fail_if_success (with_reducible exact Same.refl _ _)); exact rfl; (first | with_reducible exact State.Inv.congr rfl rfl rfl rfl rfl rfl rfl id id id))
    | with_reducible refine Step.ite (fun _ => ?_) (fun _ => ?_)
    | with_reducible apply foldl_step
    | with_reducible apply foldlFst_step
    | with_reducible intro _
    | with_reducible refine Step.ofFst (by assumption) ?_
    | with_reducible refine StepE.named (by assumption) ?_
    | with_reducible refine StepP.named (by assumption) ?_
    | split
    | dsimp only

/-! ### Lists -/

theorem State.listPut_step {G : Nat} {s0 s : State} {x1} {x2} {x3} {x4} (h : Step G s0 s)
    (hG : sub 72075187236637824 G = true) : Step G s0 (State.listPut s x1 x2 x3 x4) := by
  unfold State.listPut
  try dsimp only
  repeat' first
    | with_reducible assumption
    | ((with_reducible refine sub_trans ?_ hG); exact rfl)
    | with_reducible apply State.cqPut_step
    | with_reducible apply State.bump64_step
    | ((with_reducible refine Step.put (F := 72075187236637824) ?_ hG ?_ ?_); rotate_left; (fail_if_success (with_reducible exact Same.refl _ _)); exact rfl; (first | with_reducible exact State.Inv.congr rfl rfl rfl rfl rfl rfl rfl id id id))
    | with_reducible refine Step.ite (fun _ => ?_) (fun _ => ?_)

theorem State.listEnd_step {G : Nat} {s0 s : State} {x1} {x2} {x3} {x4} {x5} {x6} (h : Step G s0 s)
    (hG : sub 72075187236637824 G = true) : Step G s0 (State.listEnd s x1 x2 x3 x4 x5 x6) := by
  unfold State.listEnd
  try dsimp only
  repeat' first
    | with_reducible assumption
    | ((with_reducible refine sub_trans ?_ hG); exact rfl)
    | with_reducible apply State.listPut_step
    | ((with_reducible refine Step.put (F := 72075187236637824) ?_ hG ?_ ?_); rotate_left; (fail_if_success (with_reducible exact Same.refl _ _)); exact rfl; (first | with_reducible exact State.Inv.congr rfl rfl rfl rfl rfl rfl rfl id id id))
    | with_reducible refine Step.ite (fun _ => ?_) (fun _ => ?_)
    | with_reducible apply foldl_step
    | with_reducible apply foldlFst_step
    | with_reducible intro _
    | with_reducible refine Step.ofFst (by assumption) ?_
    | with_reducible refine StepE.named (by assumption) ?_
    | with_reducible refine StepP.named (by assumption) ?_
    | rw [id_eq]
    | split
    | dsimp only

theorem State.listCheck_step {G : Nat} {s0 s : State} {x1} {x2} (h : Step G s0 s)
    (hG : sub 72075187236637824 G = true) : Step G s0 (State.listCheck s x1 x2) := by
  unfold State.listCheck
  try dsimp only
  repeat' first
    | with_reducible assumption
    | ((with_reducible refine sub_trans ?_ hG); exact rfl)
    | with_reducible apply State.listEnd_step
    | with_reducible refine Step.ite (fun _ => ?_) (fun _ => ?_)
    | with_reducible apply foldl_step
    | with_reducible apply foldlFst_step
    | with_reducible intro _
    | with_reducible refine Step.ofFst (by assumption) ?_
    | with_reducible refine StepE.named (by assumption) ?_
    | with_reducible refine StepP.named (by assumption) ?_
    | rw [id_eq]
    | split
    | dsimp only

theorem State.entryMap_step {G : Nat} {s0 s : State} {x1} {x2} {x3} (h : Step G s0 s)
    (hG : sub 2048 G = true) : Step G s0 (State.entryMap s x1 x2 x3) := by
  unfold State.entryMap
  try dsimp only
  repeat' first
    | with_reducible assumption
    | ((with_reducible refine Step.put (F := 2048) ?_ hG ?_ ?_); rotate_left; (fail_if_success (with_reducible exact Same.refl _ _)); exact rfl; (first | with_reducible exact State.Inv.congr rfl rfl rfl rfl rfl rfl rfl id id id))
    | with_reducible refine Step.ite (fun _ => ?_) (fun _ => ?_)
    | with_reducible apply foldl_step
    | with_reducible apply foldlFst_step
    | with_reducible intro _
    | with_reducible refine Step.ofFst (by assumption) ?_
    | with_reducible refine StepE.named (by assumption) ?_
    | with_reducible refine StepP.named (by assumption) ?_
    | split

theorem State.dmaRelease_step {G : Nat} {s0 s : State} {x1} {x2} (h : Step G s0 s)
    (hG : sub 17179869184 G = true) : Step G s0 (State.dmaRelease s x1 x2) := by
  unfold State.dmaRelease
  try dsimp only
  repeat' first
    | with_reducible assumption
    | ((with_reducible refine sub_trans ?_ hG); exact rfl)
    | ((with_reducible refine Step.put (F := 17179869184) ?_ hG ?_ ?_); rotate_left; (fail_if_success (with_reducible exact Same.refl _ _)); exact rfl; (first | with_reducible exact State.Inv.congr rfl rfl rfl rfl rfl rfl rfl id id id))
    | with_reducible refine Step.ite (fun _ => ?_) (fun _ => ?_)
    | with_reducible apply foldl_step
    | with_reducible apply foldlFst_step
    | with_reducible intro _
    | with_reducible refine Step.ofFst (by assumption) ?_
    | with_reducible refine StepE.named (by assumption) ?_
    | with_reducible refine StepP.named (by assumption) ?_
    | split
    | dsimp only

theorem State.entryDoneAt_step {G : Nat} {s0 s : State} {x1} {x2} {x3} {x4} {x5} {x6} {x7} (h : Step G s0 s)
    (hG : sub 72075204416507008 G = true) : Step G s0 (State.entryDoneAt s x1 x2 x3 x4 x5 x6 x7) := by
  unfold State.entryDoneAt
  try dsimp only
  repeat' first
    | with_reducible assumption
    | ((with_reducible refine sub_trans ?_ hG); exact rfl)
    | with_reducible apply State.dmaRelease_step
    | with_reducible apply State.listCheck_step
    | with_reducible apply State.listPut_step
    | ((with_reducible refine Step.put (F := 72075204416507008) ?_ hG ?_ ?_); rotate_left; (fail_if_success (with_reducible exact Same.refl _ _)); exact rfl; (first | with_reducible exact State.Inv.congr rfl rfl rfl rfl rfl rfl rfl id id id))
    | with_reducible refine Step.ite (fun _ => ?_) (fun _ => ?_)
    | with_reducible apply foldl_step
    | with_reducible apply foldlFst_step
    | with_reducible intro _
    | with_reducible refine Step.ofFst (by assumption) ?_
    | with_reducible refine StepE.named (by assumption) ?_
    | with_reducible refine StepP.named (by assumption) ?_
    | rw [id_eq]
    | split
    | dsimp only

theorem State.entryDone_step {G : Nat} {s0 s : State} {x1} {x2} {x3} {x4} {x5} {x6} (h : Step G s0 s)
    (hG : sub 72075204416507008 G = true) : Step G s0 (State.entryDone s x1 x2 x3 x4 x5 x6) := by
  unfold State.entryDone
  try dsimp only
  repeat' first
    | with_reducible assumption
    | ((with_reducible refine sub_trans ?_ hG); exact rfl)
    | with_reducible apply State.entryDoneAt_step
    | with_reducible refine Step.ite (fun _ => ?_) (fun _ => ?_)
    | with_reducible apply foldl_step
    | with_reducible apply foldlFst_step
    | with_reducible intro _
    | with_reducible refine Step.ofFst (by assumption) ?_
    | with_reducible refine StepE.named (by assumption) ?_
    | with_reducible refine StepP.named (by assumption) ?_
    | rw [id_eq]
    | split
    | dsimp only

theorem State.entryEnd_step {G : Nat} {s0 s : State} {x1} {x2} {x3} {x4} (h : Step G s0 s)
    (hG : sub 72075204416507008 G = true) : Step G s0 (State.entryEnd s x1 x2 x3 x4) := by
  unfold State.entryEnd
  try dsimp only
  repeat' first
    | with_reducible assumption
    | ((with_reducible refine sub_trans ?_ hG); exact rfl)
    | with_reducible apply State.entryDone_step
    | with_reducible refine Step.ite (fun _ => ?_) (fun _ => ?_)
    | with_reducible apply foldl_step
    | with_reducible apply foldlFst_step
    | with_reducible intro _
    | with_reducible refine Step.ofFst (by assumption) ?_
    | with_reducible refine StepE.named (by assumption) ?_
    | with_reducible refine StepP.named (by assumption) ?_
    | rw [id_eq]
    | split
    | dsimp only

theorem State.entryRefuse_step {G : Nat} {s0 s : State} {x1} {x2} {x3} {x4} (h : Step G s0 s)
    (hG : sub 72075204416507008 G = true) : Step G s0 (State.entryRefuse s x1 x2 x3 x4) := by
  unfold State.entryRefuse
  try dsimp only
  repeat' first
    | with_reducible assumption
    | ((with_reducible refine sub_trans ?_ hG); exact rfl)
    | with_reducible apply State.entryEnd_step
    | ((with_reducible refine Step.put (F := 72075204416507008) ?_ hG ?_ ?_); rotate_left; (fail_if_success (with_reducible exact Same.refl _ _)); exact rfl; (first | with_reducible exact State.Inv.congr rfl rfl rfl rfl rfl rfl rfl id id id))
    | with_reducible refine Step.ite (fun _ => ?_) (fun _ => ?_)
    | with_reducible apply foldl_step
    | with_reducible apply foldlFst_step
    | with_reducible intro _
    | with_reducible refine Step.ofFst (by assumption) ?_
    | with_reducible refine StepE.named (by assumption) ?_
    | with_reducible refine StepP.named (by assumption) ?_
    | rw [id_eq]
    | split
    | dsimp only

theorem State.entryAccept_step {G : Nat} {s0 s : State} {x1} {x2} (h : Step G s0 s)
    (hG : sub 2048 G = true) : Step G s0 (State.entryAccept s x1 x2) := by
  unfold State.entryAccept
  try dsimp only
  repeat' first
    | with_reducible assumption
    | ((with_reducible refine Step.put (F := 2048) ?_ hG ?_ ?_); rotate_left; (fail_if_success (with_reducible exact Same.refl _ _)); exact rfl; (first | with_reducible exact State.Inv.congr rfl rfl rfl rfl rfl rfl rfl id id id))
    | with_reducible refine Step.ite (fun _ => ?_) (fun _ => ?_)
    | with_reducible apply foldl_step
    | with_reducible apply foldlFst_step
    | with_reducible intro _
    | with_reducible refine Step.ofFst (by assumption) ?_
    | with_reducible refine StepE.named (by assumption) ?_
    | with_reducible refine StepP.named (by assumption) ?_
    | split

theorem State.partDone_step {G : Nat} {s0 s : State} {x1} {x2} {x3} {x4} (h : Step G s0 s)
    (hG : sub 72075204416507008 G = true) : Step G s0 (State.partDone s x1 x2 x3 x4) := by
  unfold State.partDone
  try dsimp only
  repeat' first
    | with_reducible assumption
    | ((with_reducible refine sub_trans ?_ hG); exact rfl)
    | with_reducible apply State.entryEnd_step
    | with_reducible apply State.entryMap_step
    | with_reducible refine Step.ite (fun _ => ?_) (fun _ => ?_)
    | with_reducible apply foldl_step
    | with_reducible apply foldlFst_step
    | with_reducible intro _
    | with_reducible refine Step.ofFst (by assumption) ?_
    | with_reducible refine StepE.named (by assumption) ?_
    | with_reducible refine StepP.named (by assumption) ?_
    | rw [id_eq]
    | split
    | dsimp only

theorem State.faultEnd_step {G : Nat} {s0 s : State} {x1} (h : Step G s0 s)
    (hG : sub 4194304 G = true) : Step G s0 (State.faultEnd s x1) := by
  unfold State.faultEnd
  try dsimp only
  repeat' first
    | with_reducible assumption
    | with_reducible apply State.bump64_step
    | with_reducible refine Step.ite (fun _ => ?_) (fun _ => ?_)

theorem State.laneLeave_step {G : Nat} {s0 s : State} {x1} {x2} (h : Step G s0 s)
    (hG : sub 4398046511104 G = true) : Step G s0 (State.laneLeave s x1 x2) := by
  unfold State.laneLeave
  try dsimp only
  repeat' first
    | with_reducible assumption
    | ((with_reducible refine Step.put (F := 4398046511104) ?_ hG ?_ ?_); rotate_left; (fail_if_success (with_reducible exact Same.refl _ _)); exact rfl; (first | with_reducible exact State.Inv.congr rfl rfl rfl rfl rfl rfl rfl id id id))
    | with_reducible refine Step.ite (fun _ => ?_) (fun _ => ?_)
    | with_reducible apply foldl_step
    | with_reducible apply foldlFst_step
    | with_reducible intro _
    | with_reducible refine Step.ofFst (by assumption) ?_
    | with_reducible refine StepE.named (by assumption) ?_
    | with_reducible refine StepP.named (by assumption) ?_
    | split

theorem State.dropSlotWork_step {G : Nat} {s0 s : State} {x1} {x2} (h : Step G s0 s)
    (hG : sub 72075891611274368 G = true) : Step G s0 (State.dropSlotWork s x1 x2) := by
  unfold State.dropSlotWork
  try dsimp only
  repeat' first
    | with_reducible assumption
    | ((with_reducible refine sub_trans ?_ hG); exact rfl)
    | with_reducible apply State.entryEnd_step
    | with_reducible apply State.count_step
    | with_reducible apply each_step
    | ((with_reducible refine Step.put (F := 72075891611274368) ?_ hG ?_ ?_); rotate_left; (fail_if_success (with_reducible exact Same.refl _ _)); exact rfl; (first | with_reducible exact State.Inv.congr rfl rfl rfl rfl rfl rfl rfl id id id))
    | with_reducible refine Step.ite (fun _ => ?_) (fun _ => ?_)
    | with_reducible apply foldl_step
    | with_reducible apply foldlFst_step
    | with_reducible intro _
    | with_reducible refine Step.ofFst (by assumption) ?_
    | with_reducible refine StepE.named (by assumption) ?_
    | with_reducible refine StepP.named (by assumption) ?_
    | split
    | dsimp only

theorem State.detachSlot_step {G : Nat} {s0 s : State} {x1} (h : Step G s0 s)
    (hG : sub 72075891611274368 G = true) : Step G s0 (State.detachSlot s x1) := by
  unfold State.detachSlot
  try dsimp only
  repeat' first
    | with_reducible assumption
    | with_reducible apply State.dropSlotWork_step

theorem State.slotFree_step {G : Nat} {s0 s : State} {x1} (h : Step G s0 s)
    (hG : sub 72075891611274376 G = true) : Step G s0 (State.slotFree s x1) := by
  unfold State.slotFree
  try dsimp only
  repeat' first
    | with_reducible assumption
    | ((with_reducible refine sub_trans ?_ hG); exact rfl)
    | with_reducible apply State.detachSlot_step
    | with_reducible apply State.entryDone_step
    | ((with_reducible refine Step.put (F := 72075891611274376) ?_ hG ?_ ?_); rotate_left; (fail_if_success (with_reducible exact Same.refl _ _)); exact rfl; (first | with_reducible exact State.Inv.congr rfl rfl rfl rfl rfl rfl rfl id id id | exact State.Inv.congr rfl rfl rfl rfl rfl rfl rfl (fun h => Tab.rises_set h _ _) id id | exact State.Inv.congr rfl rfl rfl rfl rfl rfl rfl (fun h => Tab.rises_erase h _) id id | exact State.Inv.congr rfl rfl rfl rfl rfl rfl rfl (fun h => Tab.rises_mapVals h _) id id | exact State.Inv.congr rfl rfl rfl rfl rfl rfl rfl (fun h => Tab.rises_keep h _) id id | exact State.Inv.congr rfl rfl rfl rfl rfl rfl rfl (fun _ => Tab.rises_empty) id id | exact State.Inv.congr rfl rfl rfl rfl rfl rfl rfl id (fun h => Tab.rises_set h _ _) id | exact State.Inv.congr rfl rfl rfl rfl rfl rfl rfl id (fun h => Tab.rises_erase h _) id | exact State.Inv.congr rfl rfl rfl rfl rfl rfl rfl id (fun h => Tab.rises_mapVals h _) id | exact State.Inv.congr rfl rfl rfl rfl rfl rfl rfl id (fun h => Tab.rises_keep h _) id | exact State.Inv.congr rfl rfl rfl rfl rfl rfl rfl id (fun _ => Tab.rises_empty) id | exact State.Inv.congr rfl rfl rfl rfl rfl rfl rfl (fun _ => Tab.rises_empty) (fun _ => Tab.rises_empty) id))
    | with_reducible refine Step.ite (fun _ => ?_) (fun _ => ?_)
    | with_reducible apply foldl_step
    | with_reducible apply foldlFst_step
    | with_reducible intro _
    | with_reducible refine Step.ofFst (by assumption) ?_
    | with_reducible refine StepE.named (by assumption) ?_
    | with_reducible refine StepP.named (by assumption) ?_
    | split

theorem State.slotCheck_step {G : Nat} {s0 s : State} {x1} (h : Step G s0 s)
    (hG : sub 72075891611274376 G = true) : Step G s0 (State.slotCheck s x1) := by
  unfold State.slotCheck
  try dsimp only
  repeat' first
    | with_reducible assumption
    | with_reducible apply State.slotFree_step
    | with_reducible refine Step.ite (fun _ => ?_) (fun _ => ?_)

theorem State.frameDone_step {G : Nat} {s0 s : State} {x1} {x2} {x3} (h : Step G s0 s)
    (hG : sub 72080289657801864 G = true) : Step G s0 (State.frameDone s x1 x2 x3) := by
  unfold State.frameDone
  try dsimp only
  repeat' first
    | with_reducible assumption
    | ((with_reducible refine sub_trans ?_ hG); exact rfl)
    | with_reducible apply State.bump64_step
    | with_reducible apply State.slotCheck_step
    | with_reducible apply State.entryDone_step
    | with_reducible apply State.laneLeave_step
    | ((with_reducible refine Step.put (F := 72080289657801864) ?_ hG ?_ ?_); rotate_left; (fail_if_success (with_reducible exact Same.refl _ _)); exact rfl; (first | with_reducible exact State.Inv.congr rfl rfl rfl rfl rfl rfl rfl id id id | exact State.Inv.congr rfl rfl rfl rfl rfl rfl rfl (fun h => Tab.rises_set h _ _) id id | exact State.Inv.congr rfl rfl rfl rfl rfl rfl rfl (fun h => Tab.rises_erase h _) id id | exact State.Inv.congr rfl rfl rfl rfl rfl rfl rfl (fun h => Tab.rises_mapVals h _) id id | exact State.Inv.congr rfl rfl rfl rfl rfl rfl rfl (fun h => Tab.rises_keep h _) id id | exact State.Inv.congr rfl rfl rfl rfl rfl rfl rfl (fun _ => Tab.rises_empty) id id | exact State.Inv.congr rfl rfl rfl rfl rfl rfl rfl id (fun h => Tab.rises_set h _ _) id | exact State.Inv.congr rfl rfl rfl rfl rfl rfl rfl id (fun h => Tab.rises_erase h _) id | exact State.Inv.congr rfl rfl rfl rfl rfl rfl rfl id (fun h => Tab.rises_mapVals h _) id | exact State.Inv.congr rfl rfl rfl rfl rfl rfl rfl id (fun h => Tab.rises_keep h _) id | exact State.Inv.congr rfl rfl rfl rfl rfl rfl rfl id (fun _ => Tab.rises_empty) id | exact State.Inv.congr rfl rfl rfl rfl rfl rfl rfl (fun _ => Tab.rises_empty) (fun _ => Tab.rises_empty) id))
    | with_reducible refine Step.ite (fun _ => ?_) (fun _ => ?_)
    | with_reducible apply foldl_step
    | with_reducible apply foldlFst_step
    | with_reducible intro _
    | with_reducible refine Step.ofFst (by assumption) ?_
    | with_reducible refine StepE.named (by assumption) ?_
    | with_reducible refine StepP.named (by assumption) ?_
    | split

theorem State.slotReady_step {G : Nat} {s0 s : State} {x1} (h : Step G s0 s)
    (hG : sub 16384 G = true) : Step G s0 (State.slotReady s x1) := by
  unfold State.slotReady
  try dsimp only
  repeat' first
    | with_reducible assumption
    | ((with_reducible refine Step.put (F := 16384) ?_ hG ?_ ?_); rotate_left; (fail_if_success (with_reducible exact Same.refl _ _)); exact rfl; (first | with_reducible exact State.Inv.congr rfl rfl rfl rfl rfl rfl rfl id id id | exact State.Inv.congr rfl rfl rfl rfl rfl rfl rfl (fun h => Tab.rises_set h _ _) id id | exact State.Inv.congr rfl rfl rfl rfl rfl rfl rfl (fun h => Tab.rises_erase h _) id id | exact State.Inv.congr rfl rfl rfl rfl rfl rfl rfl (fun h => Tab.rises_mapVals h _) id id | exact State.Inv.congr rfl rfl rfl rfl rfl rfl rfl (fun h => Tab.rises_keep h _) id id | exact State.Inv.congr rfl rfl rfl rfl rfl rfl rfl (fun _ => Tab.rises_empty) id id | exact State.Inv.congr rfl rfl rfl rfl rfl rfl rfl id (fun h => Tab.rises_set h _ _) id | exact State.Inv.congr rfl rfl rfl rfl rfl rfl rfl id (fun h => Tab.rises_erase h _) id | exact State.Inv.congr rfl rfl rfl rfl rfl rfl rfl id (fun h => Tab.rises_mapVals h _) id | exact State.Inv.congr rfl rfl rfl rfl rfl rfl rfl id (fun h => Tab.rises_keep h _) id | exact State.Inv.congr rfl rfl rfl rfl rfl rfl rfl id (fun _ => Tab.rises_empty) id | exact State.Inv.congr rfl rfl rfl rfl rfl rfl rfl (fun _ => Tab.rises_empty) (fun _ => Tab.rises_empty) id))
    | with_reducible refine Step.ite (fun _ => ?_) (fun _ => ?_)
    | with_reducible apply foldl_step
    | with_reducible apply foldlFst_step
    | with_reducible intro _
    | with_reducible refine Step.ofFst (by assumption) ?_
    | with_reducible refine StepE.named (by assumption) ?_
    | with_reducible refine StepP.named (by assumption) ?_
    | split

theorem State.wrEnd_step {G : Nat} {s0 s : State} {x1} {x2} {x3} (h : Step G s0 s)
    (hG : sub 72145573160684672 G = true) : Step G s0 (State.wrEnd s x1 x2 x3) := by
  unfold State.wrEnd
  try dsimp only
  repeat' first
    | with_reducible assumption
    | ((with_reducible refine sub_trans ?_ hG); exact rfl)
    | with_reducible apply State.entryEnd_step
    | ((with_reducible refine Step.put (F := 72145573160684672) ?_ hG ?_ ?_); rotate_left; (fail_if_success (with_reducible exact Same.refl _ _)); exact rfl; (first | with_reducible exact State.Inv.congr rfl rfl rfl rfl rfl rfl rfl id id id))
    | with_reducible refine Step.ite (fun _ => ?_) (fun _ => ?_)
    | with_reducible apply foldl_step
    | with_reducible apply foldlFst_step
    | with_reducible intro _
    | with_reducible refine Step.ofFst (by assumption) ?_
    | with_reducible refine StepE.named (by assumption) ?_
    | with_reducible refine StepP.named (by assumption) ?_
    | rw [id_eq]
    | split
    | dsimp only

theorem State.wrFire_step {G : Nat} {s0 s : State} {x1} (h : Step G s0 s)
    (hG : sub 72180757532789888 G = true) : Step G s0 (State.wrFire s x1) := by
  unfold State.wrFire
  try dsimp only
  repeat' first
    | with_reducible assumption
    | ((with_reducible refine sub_trans ?_ hG); exact rfl)
    | with_reducible apply State.slotReady_step
    | with_reducible apply State.bump64_step
    | with_reducible apply State.wrEnd_step
    | with_reducible apply each_step
    | ((with_reducible refine Step.put (F := 72180757532789888) ?_ hG ?_ ?_); rotate_left; (fail_if_success (with_reducible exact Same.refl _ _)); exact rfl; (first | with_reducible exact State.Inv.congr rfl rfl rfl rfl rfl rfl rfl id id id))
    | with_reducible refine Step.ite (fun _ => ?_) (fun _ => ?_)
    | with_reducible apply foldl_step
    | with_reducible apply foldlFst_step
    | with_reducible intro _
    | with_reducible refine Step.ofFst (by assumption) ?_
    | with_reducible refine StepE.named (by assumption) ?_
    | with_reducible refine StepP.named (by assumption) ?_
    | split

theorem State.triggers_step {G : Nat} {s0 s : State} {x1} (h : Step G s0 s)
    (hG : sub 72180757532789888 G = true) : Step G s0 (State.triggers s x1) := by
  unfold State.triggers
  try dsimp only
  repeat' first
    | with_reducible assumption
    | with_reducible apply State.wrFire_step
    | with_reducible apply each_step
    | with_reducible refine Step.ite (fun _ => ?_) (fun _ => ?_)
    | with_reducible apply foldl_step
    | with_reducible apply foldlFst_step
    | with_reducible intro _
    | with_reducible refine Step.ofFst (by assumption) ?_
    | with_reducible refine StepE.named (by assumption) ?_
    | with_reducible refine StepP.named (by assumption) ?_
    | split

theorem State.ctrUp_step {G : Nat} {s0 s : State} {x1} (h : Step G s0 s)
    (hG : sub 72462232509500544 G = true) : Step G s0 (State.ctrUp s x1) := by
  unfold State.ctrUp
  try dsimp only
  repeat' first
    | with_reducible assumption
    | ((with_reducible refine sub_trans ?_ hG); exact rfl)
    | with_reducible apply State.triggers_step
    | ((with_reducible refine Step.put (F := 72462232509500544) ?_ hG ?_ ?_); rotate_left; (fail_if_success (with_reducible exact Same.refl _ _)); exact rfl; (first | with_reducible exact State.Inv.congr rfl rfl rfl rfl rfl rfl rfl id id id))
    | with_reducible refine Step.ite (fun _ => ?_) (fun _ => ?_)
    | with_reducible apply foldl_step
    | with_reducible apply foldlFst_step
    | with_reducible intro _
    | with_reducible refine Step.ofFst (by assumption) ?_
    | with_reducible refine StepE.named (by assumption) ?_
    | with_reducible refine StepP.named (by assumption) ?_
    | split

theorem State.wrDone_step {G : Nat} {s0 s : State} {x1} {x2} {x3} (h : Step G s0 s)
    (hG : sub 72462232509500544 G = true) : Step G s0 (State.wrDone s x1 x2 x3) := by
  unfold State.wrDone
  try dsimp only
  repeat' first
    | with_reducible assumption
    | ((with_reducible refine sub_trans ?_ hG); exact rfl)
    | with_reducible apply State.wrEnd_step
    | with_reducible apply State.ctrUp_step
    | with_reducible refine Step.ite (fun _ => ?_) (fun _ => ?_)
    | with_reducible apply foldl_step
    | with_reducible apply foldlFst_step
    | with_reducible intro _
    | with_reducible refine Step.ofFst (by assumption) ?_
    | with_reducible refine StepE.named (by assumption) ?_
    | with_reducible refine StepP.named (by assumption) ?_
    | split

theorem State.ctrFree_step {G : Nat} {s0 s : State} {x1} (h : Step G s0 s)
    (hG : sub 72462232509500544 G = true) : Step G s0 (State.ctrFree s x1) := by
  unfold State.ctrFree
  try dsimp only
  repeat' first
    | with_reducible assumption
    | ((with_reducible refine sub_trans ?_ hG); exact rfl)
    | with_reducible apply State.wrDone_step
    | with_reducible apply each_step
    | ((with_reducible refine Step.put (F := 72462232509500544) ?_ hG ?_ ?_); rotate_left; (fail_if_success (with_reducible exact Same.refl _ _)); exact rfl; (first | with_reducible exact State.Inv.congr rfl rfl rfl rfl rfl rfl rfl id id id))
    | with_reducible refine Step.ite (fun _ => ?_) (fun _ => ?_)
    | with_reducible apply foldl_step
    | with_reducible apply foldlFst_step
    | with_reducible intro _
    | with_reducible refine Step.ofFst (by assumption) ?_
    | with_reducible refine StepE.named (by assumption) ?_
    | with_reducible refine StepP.named (by assumption) ?_
    | split
    | dsimp only

theorem State.connEnd_step {G : Nat} {s0 s : State} {x1} {x2} {x3} (h : Step G s0 s)
    (hG : sub 72462232509500544 G = true) : Step G s0 (State.connEnd s x1 x2 x3) := by
  unfold State.connEnd
  try dsimp only
  repeat' first
    | with_reducible assumption
    | ((with_reducible refine sub_trans ?_ hG); exact rfl)
    | with_reducible apply State.wrDone_step
    | with_reducible apply State.entryEnd_step
    | with_reducible apply each_step
    | ((with_reducible refine Step.put (F := 72462232509500544) ?_ hG ?_ ?_); rotate_left; (fail_if_success (with_reducible exact Same.refl _ _)); exact rfl; (first | with_reducible exact State.Inv.congr rfl rfl rfl rfl rfl rfl rfl id id id))
    | with_reducible refine Step.ite (fun _ => ?_) (fun _ => ?_)
    | with_reducible apply foldl_step
    | with_reducible apply foldlFst_step
    | with_reducible intro _
    | with_reducible refine Step.ofFst (by assumption) ?_
    | with_reducible refine StepE.named (by assumption) ?_
    | with_reducible refine StepP.named (by assumption) ?_
    | split
    | dsimp only

theorem State.disconnect_step {G : Nat} {s0 s : State} {x1} (h : Step G s0 s)
    (hG : sub 72462232509500544 G = true) : Step G s0 (State.disconnect s x1) := by
  unfold State.disconnect
  try dsimp only
  repeat' first
    | with_reducible assumption
    | ((with_reducible refine sub_trans ?_ hG); exact rfl)
    | with_reducible apply State.connEnd_step
    | ((with_reducible refine Step.put (F := 72462232509500544) ?_ hG ?_ ?_); rotate_left; (fail_if_success (with_reducible exact Same.refl _ _)); exact rfl; (first | with_reducible exact State.Inv.congr rfl rfl rfl rfl rfl rfl rfl id id id))
    | with_reducible refine Step.ite (fun _ => ?_) (fun _ => ?_)
    | with_reducible apply foldl_step
    | with_reducible apply foldlFst_step
    | with_reducible intro _
    | with_reducible refine Step.ofFst (by assumption) ?_
    | with_reducible refine StepE.named (by assumption) ?_
    | with_reducible refine StepP.named (by assumption) ?_
    | split
    | dsimp only

theorem State.jobLinks_step {G : Nat} {s0 s : State} {x1} (h : Step G s0 s)
    (hG : sub 72462232509500544 G = true) : Step G s0 (State.jobLinks s x1) := by
  unfold State.jobLinks
  try dsimp only
  repeat' first
    | with_reducible assumption
    | with_reducible apply State.disconnect_step
    | with_reducible apply State.ctrFree_step
    | with_reducible apply each_step
    | with_reducible refine Step.ite (fun _ => ?_) (fun _ => ?_)
    | with_reducible apply foldl_step
    | with_reducible apply foldlFst_step
    | with_reducible intro _

theorem State.setTile_step {G : Nat} {s0 s : State} {x1} {x2} (h : Step G s0 s)
    (hG : sub 137438953472 G = true) : Step G s0 (State.setTile s x1 x2) := by
  unfold State.setTile
  try dsimp only
  repeat' first
    | with_reducible assumption
    | ((with_reducible refine sub_trans ?_ hG); exact rfl)
    | ((with_reducible refine Step.put (F := 137438953472) ?_ hG ?_ ?_); rotate_left; (fail_if_success (with_reducible exact Same.refl _ _)); exact rfl; (first | with_reducible exact State.Inv.congr rfl rfl rfl rfl rfl rfl rfl id id id))
    | with_reducible refine Step.ite (fun _ => ?_) (fun _ => ?_)
    | with_reducible apply foldl_step
    | with_reducible apply foldlFst_step
    | with_reducible intro _
    | with_reducible refine Step.ofFst (by assumption) ?_
    | with_reducible refine StepE.named (by assumption) ?_
    | with_reducible refine StepP.named (by assumption) ?_
    | split
    | dsimp only

theorem State.killTask_step {G : Nat} {s0 s : State} {x1} (h : Step G s0 s)
    (hG : sub 137443147776 G = true) : Step G s0 (State.killTask s x1) := by
  unfold State.killTask
  try dsimp only
  repeat' first
    | with_reducible assumption
    | ((with_reducible refine sub_trans ?_ hG); exact rfl)
    | with_reducible apply State.count_step
    | with_reducible apply State.setTile_step
    | with_reducible refine Step.ite (fun _ => ?_) (fun _ => ?_)
    | with_reducible apply foldl_step
    | with_reducible apply foldlFst_step
    | with_reducible intro _
    | with_reducible refine Step.ofFst (by assumption) ?_
    | with_reducible refine StepE.named (by assumption) ?_
    | with_reducible refine StepP.named (by assumption) ?_
    | split

theorem State.jobEntriesEnd_step {G : Nat} {s0 s : State} {x1} {x2} {x3} {x4} (h : Step G s0 s)
    (hG : sub 72075204416507008 G = true) : Step G s0 (State.jobEntriesEnd s x1 x2 x3 x4) := by
  unfold State.jobEntriesEnd
  try dsimp only
  repeat' first
    | with_reducible assumption
    | ((with_reducible refine sub_trans ?_ hG); exact rfl)
    | with_reducible apply State.faultEnd_step
    | with_reducible apply State.entryEnd_step
    | with_reducible apply each_step
    | with_reducible refine Step.ite (fun _ => ?_) (fun _ => ?_)
    | with_reducible apply foldl_step
    | with_reducible apply foldlFst_step
    | with_reducible intro _
    | with_reducible refine Step.ofFst (by assumption) ?_
    | with_reducible refine StepE.named (by assumption) ?_
    | with_reducible refine StepP.named (by assumption) ?_
    | rw [id_eq]
    | split
    | dsimp only

theorem State.jobFramesEnd_step {G : Nat} {s0 s : State} {x1} {x2} {x3} (h : Step G s0 s)
    (hG : sub 72080289657801864 G = true) : Step G s0 (State.jobFramesEnd s x1 x2 x3) := by
  unfold State.jobFramesEnd
  try dsimp only
  repeat' first
    | with_reducible assumption
    | ((with_reducible refine sub_trans ?_ hG); exact rfl)
    | with_reducible apply State.frameDone_step
    | with_reducible apply State.faultEnd_step
    | with_reducible apply each_step
    | with_reducible refine Step.ite (fun _ => ?_) (fun _ => ?_)
    | with_reducible apply foldl_step
    | with_reducible apply foldlFst_step
    | with_reducible intro _

theorem State.jobAbort_step {G : Nat} {s0 s : State} {x1} {x2} {x3} (h : Step G s0 s)
    (hG : sub 72080289657810056 G = true) : Step G s0 (State.jobAbort s x1 x2 x3) := by
  unfold State.jobAbort
  try dsimp only
  repeat' first
    | with_reducible assumption
    | ((with_reducible refine sub_trans ?_ hG); exact rfl)
    | with_reducible apply State.jobFramesEnd_step
    | with_reducible apply State.jobEntriesEnd_step
    | with_reducible apply State.killTask_step
    | with_reducible apply each_step
    | ((with_reducible refine Step.put (F := 72080289657810056) ?_ hG ?_ ?_); rotate_left; (fail_if_success (with_reducible exact Same.refl _ _)); exact rfl; (first | with_reducible exact State.Inv.congr rfl rfl rfl rfl rfl rfl rfl id id id))
    | with_reducible refine Step.ite (fun _ => ?_) (fun _ => ?_)
    | with_reducible apply foldl_step
    | with_reducible apply foldlFst_step
    | with_reducible intro _
    | with_reducible refine Step.ofFst (by assumption) ?_
    | with_reducible refine StepE.named (by assumption) ?_
    | with_reducible refine StepP.named (by assumption) ?_
    | split
    | dsimp only

theorem State.planFree_step {G : Nat} {s0 s : State} {x1} (h : Step G s0 s)
    (hG : sub 4398046511104 G = true) : Step G s0 (State.planFree s x1) := by
  unfold State.planFree
  try dsimp only
  repeat' first
    | with_reducible assumption
    | ((with_reducible refine sub_trans ?_ hG); exact rfl)
    | ((with_reducible refine Step.put (F := 4398046511104) ?_ hG ?_ ?_); rotate_left; (fail_if_success (with_reducible exact Same.refl _ _)); exact rfl; (first | with_reducible exact State.Inv.congr rfl rfl rfl rfl rfl rfl rfl id id id))
    | with_reducible refine Step.ite (fun _ => ?_) (fun _ => ?_)
    | with_reducible apply foldl_step
    | with_reducible apply foldlFst_step
    | with_reducible intro _
    | with_reducible refine Step.ofFst (by assumption) ?_
    | with_reducible refine StepE.named (by assumption) ?_
    | with_reducible refine StepP.named (by assumption) ?_
    | split
    | dsimp only

theorem State.killAll_step {G : Nat} {s0 s : State}  (h : Step G s0 s)
    (hG : sub 137443147776 G = true) : Step G s0 (State.killAll s) := by
  unfold State.killAll
  try dsimp only
  repeat' first
    | with_reducible assumption
    | with_reducible apply State.killTask_step
    | with_reducible apply each_step
    | with_reducible refine Step.ite (fun _ => ?_) (fun _ => ?_)
    | with_reducible apply foldl_step
    | with_reducible apply foldlFst_step
    | with_reducible intro _

theorem State.jobSlotsEnd_step {G : Nat} {s0 s : State} {x1} (h : Step G s0 s)
    (hG : sub 72075891611274368 G = true) : Step G s0 (State.jobSlotsEnd s x1) := by
  unfold State.jobSlotsEnd
  try dsimp only
  repeat' first
    | with_reducible assumption
    | with_reducible apply State.detachSlot_step
    | with_reducible apply each_step
    | with_reducible refine Step.ite (fun _ => ?_) (fun _ => ?_)
    | with_reducible apply foldl_step
    | with_reducible apply foldlFst_step
    | with_reducible intro _

theorem State.jobSessionsEnd_step {G : Nat} {s0 s : State} {x1} (h : Step G s0 s)
    (hG : sub 72075891611274376 G = true) : Step G s0 (State.jobSessionsEnd s x1) := by
  unfold State.jobSessionsEnd
  try dsimp only
  repeat' first
    | with_reducible assumption
    | with_reducible apply State.slotFree_step
    | with_reducible apply each_step
    | with_reducible refine Step.ite (fun _ => ?_) (fun _ => ?_)
    | with_reducible apply foldl_step
    | with_reducible apply foldlFst_step
    | with_reducible intro _

theorem State.jobPlansEnd_step {G : Nat} {s0 s : State} {x1} (h : Step G s0 s)
    (hG : sub 4398046511104 G = true) : Step G s0 (State.jobPlansEnd s x1) := by
  unfold State.jobPlansEnd
  try dsimp only
  repeat' first
    | with_reducible assumption
    | with_reducible apply State.planFree_step
    | with_reducible apply each_step
    | with_reducible refine Step.ite (fun _ => ?_) (fun _ => ?_)
    | with_reducible apply foldl_step
    | with_reducible apply foldlFst_step
    | with_reducible intro _

theorem State.jobForget_step {G : Nat} {s0 s : State} {x1} (h : Step G s0 s)
    (hG : sub 25769811968 G = true) : Step G s0 (State.jobForget s x1) := by
  unfold State.jobForget
  try dsimp only
  repeat' first
    | with_reducible assumption
    | ((with_reducible refine sub_trans ?_ hG); exact rfl)
    | ((with_reducible refine Step.put (F := 25769811968) ?_ hG ?_ ?_); rotate_left; (fail_if_success (with_reducible exact Same.refl _ _)); exact rfl; (first | with_reducible exact State.Inv.congr rfl rfl rfl rfl rfl rfl rfl id id id))
    | with_reducible refine Step.ite (fun _ => ?_) (fun _ => ?_)
    | with_reducible apply foldl_step
    | with_reducible apply foldlFst_step
    | with_reducible intro _
    | with_reducible refine Step.ofFst (by assumption) ?_
    | with_reducible refine StepE.named (by assumption) ?_
    | with_reducible refine StepP.named (by assumption) ?_
    | split
    | dsimp only

/-! ### Operands -/

theorem State.storeEcc_step {G : Nat} {s0 s : State} {x1} {x2} {x3} {x4} (h : Step G s0 s)
    (hG : sub 142740553728 G = true) : Step G s0 (State.storeEcc s x1 x2 x3 x4) := by
  unfold State.storeEcc
  try dsimp only
  repeat' first
    | with_reducible assumption
    | ((with_reducible refine sub_trans ?_ hG); exact rfl)
    | with_reducible apply State.fire_step
    | with_reducible apply State.setTile_step
    | with_reducible apply State.suspect_step
    | with_reducible apply each_step
    | with_reducible refine Step.ite (fun _ => ?_) (fun _ => ?_)
    | with_reducible apply foldl_step
    | with_reducible apply foldlFst_step
    | with_reducible intro _

theorem State.storeWrite_step {G : Nat} {s0 s : State} {x1} {x2} {x3} {x4} (h : Step G s0 s)
    (hG : sub 142740553728 G = true) : Step G s0 (State.storeWrite s x1 x2 x3 x4) := by
  unfold State.storeWrite
  try dsimp only
  repeat' first
    | with_reducible assumption
    | ((with_reducible refine sub_trans ?_ hG); exact rfl)
    | with_reducible apply State.fire_step
    | with_reducible apply State.suspect_step
    | with_reducible apply State.setTile_step
    | with_reducible refine Step.ite (fun _ => ?_) (fun _ => ?_)

theorem State.discard_step {G : Nat} {s0 s : State} {x1} (h : Step G s0 s)
    (hG : sub 4194304 G = true) : Step G s0 (State.discard s x1) := by
  unfold State.discard
  try dsimp only
  repeat' first
    | with_reducible assumption
    | with_reducible apply State.count_step

theorem State.drawBytes_step {G : Nat} {s0 s : State} {x1} (h : Step G s0 s)
    (hG : sub 144115188075855872 G = true) : Step G s0 (State.drawBytes s x1) := by
  unfold State.drawBytes
  try dsimp only
  repeat' first
    | with_reducible assumption
    | ((with_reducible refine sub_trans ?_ hG); exact rfl)
    | ((with_reducible refine Step.put (F := 144115188075855872) ?_ hG ?_ ?_); rotate_left; (fail_if_success (with_reducible exact Same.refl _ _)); exact rfl; (first | with_reducible exact State.Inv.congr rfl rfl rfl rfl rfl rfl rfl id id id))
    | with_reducible refine Step.ite (fun _ => ?_) (fun _ => ?_)
    | with_reducible apply foldl_step
    | with_reducible apply foldlFst_step
    | with_reducible intro _
    | with_reducible refine Step.ofFst (by assumption) ?_
    | with_reducible refine StepE.named (by assumption) ?_
    | with_reducible refine StepP.named (by assumption) ?_
    | split
    | dsimp only

theorem State.extReadEffect_step {G : Nat} {s0 s : State} {x1} {x2} {x3} (h : Step G s0 s)
    (hG : sub 142744748032 G = true) : Step G s0 (State.extReadEffect s x1 x2 x3) := by
  unfold State.extReadEffect
  try dsimp only
  repeat' first
    | with_reducible assumption
    | ((with_reducible refine sub_trans ?_ hG); exact rfl)
    | with_reducible apply State.count_step
    | with_reducible apply State.storeEcc_step
    | with_reducible apply State.setTile_step
    | with_reducible refine Step.ite (fun _ => ?_) (fun _ => ?_)
    | with_reducible apply foldl_step
    | with_reducible apply foldlFst_step
    | with_reducible intro _
    | with_reducible refine Step.ofFst (by assumption) ?_
    | with_reducible refine StepE.named (by assumption) ?_
    | with_reducible refine StepP.named (by assumption) ?_
    | split

theorem State.extWrite_step {G : Nat} {s0 s : State} {x1} {x2} {x3} (h : Step G s0 s)
    (hG : sub 142740553728 G = true) : Step G s0 (State.extWrite s x1 x2 x3) := by
  unfold State.extWrite
  try dsimp only
  repeat' first
    | with_reducible assumption
    | ((with_reducible refine sub_trans ?_ hG); exact rfl)
    | with_reducible apply State.storeWrite_step
    | with_reducible apply State.setTile_step
    | with_reducible refine Step.ite (fun _ => ?_) (fun _ => ?_)
    | with_reducible apply foldl_step
    | with_reducible apply foldlFst_step
    | with_reducible intro _
    | with_reducible refine Step.ofFst (by assumption) ?_
    | with_reducible refine StepE.named (by assumption) ?_
    | with_reducible refine StepP.named (by assumption) ?_
    | split
    | dsimp only

theorem State.tileBump_step {G : Nat} {s0 s : State} {x1} {x2} {x3} (h : Step G s0 s)
    (hG : sub 137443147776 G = true) : Step G s0 (State.tileBump s x1 x2 x3) := by
  unfold State.tileBump
  try dsimp only
  repeat' first
    | with_reducible assumption
    | ((with_reducible refine sub_trans ?_ hG); exact rfl)
    | with_reducible apply State.count_step
    | with_reducible apply State.setTile_step
    | with_reducible refine Step.ite (fun _ => ?_) (fun _ => ?_)
    | with_reducible apply foldl_step
    | with_reducible apply foldlFst_step
    | with_reducible intro _
    | with_reducible refine Step.ofFst (by assumption) ?_
    | with_reducible refine StepE.named (by assumption) ?_
    | with_reducible refine StepP.named (by assumption) ?_
    | split

theorem State.prioStall_step {G : Nat} {s0 s : State} {x1} (h : Step G s0 s)
    (hG : sub 137443147776 G = true) : Step G s0 (State.prioStall s x1) := by
  unfold State.prioStall
  try dsimp only
  repeat' first
    | with_reducible assumption
    | ((with_reducible refine sub_trans ?_ hG); exact rfl)
    | with_reducible apply State.tileBump_step
    | with_reducible refine Step.ite (fun _ => ?_) (fun _ => ?_)
    | with_reducible apply foldl_step
    | with_reducible apply foldlFst_step
    | with_reducible intro _
    | with_reducible refine Step.ofFst (by assumption) ?_
    | with_reducible refine StepE.named (by assumption) ?_
    | with_reducible refine StepP.named (by assumption) ?_
    | split
    | dsimp only

theorem State.extStall_step {G : Nat} {s0 s : State} {x1} {x2} {x3} (h : Step G s0 s)
    (hG : sub 137443147776 G = true) : Step G s0 (State.extStall s x1 x2 x3) := by
  unfold State.extStall
  try dsimp only
  repeat' first
    | with_reducible assumption
    | ((with_reducible refine sub_trans ?_ hG); exact rfl)
    | with_reducible apply State.prioStall_step
    | with_reducible refine Step.ite (fun _ => ?_) (fun _ => ?_)
    | with_reducible apply foldl_step
    | with_reducible apply foldlFst_step
    | with_reducible intro _
    | with_reducible refine Step.ofFst (by assumption) ?_
    | with_reducible refine StepE.named (by assumption) ?_
    | with_reducible refine StepP.named (by assumption) ?_
    | split
    | dsimp only

theorem State.taskFault_step {G : Nat} {s0 s : State} {x1} {x2} {x3} {x4} (h : Step G s0 s)
    (hG : sub 138445586432 G = true) : Step G s0 (State.taskFault s x1 x2 x3 x4) := by
  unfold State.taskFault
  try dsimp only
  repeat' first
    | with_reducible assumption
    | ((with_reducible refine sub_trans ?_ hG); exact rfl)
    | with_reducible apply State.fire_step
    | with_reducible apply State.setTile_step

theorem State.boundFault_step {G : Nat} {s0 s : State} {x1} {x2} {x3} {x4} {x5} (h : Step G s0 s)
    (hG : sub 138449780736 G = true) : Step G s0 (State.boundFault s x1 x2 x3 x4 x5) := by
  unfold State.boundFault
  try dsimp only
  repeat' first
    | with_reducible assumption
    | ((with_reducible refine sub_trans ?_ hG); exact rfl)
    | with_reducible apply State.tileBump_step
    | with_reducible apply State.taskFault_step
    | with_reducible apply State.fire_step
    | with_reducible refine Step.ite (fun _ => ?_) (fun _ => ?_)

theorem State.coldRead_step {G : Nat} {s0 s : State} {x1} {x2} {x3} {x4} (h : Step G s0 s)
    (hG : sub 138449780736 G = true) : Step G s0 (State.coldRead s x1 x2 x3 x4) := by
  unfold State.coldRead
  try dsimp only
  repeat' first
    | with_reducible assumption
    | ((with_reducible refine sub_trans ?_ hG); exact rfl)
    | with_reducible apply State.tileBump_step
    | with_reducible apply State.fire_step
    | with_reducible apply State.setTile_step
    | with_reducible refine Step.ite (fun _ => ?_) (fun _ => ?_)

theorem State.landReject_step {G : Nat} {s0 s : State} {x1} (h : Step G s0 s)
    (hG : sub 138449780736 G = true) : Step G s0 (State.landReject s x1) := by
  unfold State.landReject
  try dsimp only
  repeat' first
    | with_reducible assumption
    | ((with_reducible refine sub_trans ?_ hG); exact rfl)
    | with_reducible apply State.tileBump_step
    | with_reducible apply State.fire_step

/-! ### Dict -/

theorem State.aborted_step {G : Nat} {s0 s : State} {x1} {x2} {x3} {x4} (h : Step G s0 s)
    (hG : sub 4194304 G = true) : Step G s0 (State.aborted s x1 x2 x3 x4) := by
  unfold State.aborted
  try dsimp only
  repeat' first
    | with_reducible assumption
    | with_reducible apply State.putCell_step

theorem State.tryWrite_step {G : Nat} {s0 s : State} {x1} {x2} {x3} (h : Step G s0 s) (he : ∀ u, Step G s0 u → StepE G s0 (x3 u))
    (hG : sub 0 G = true) : StepE G s0 (State.tryWrite s x1 x2 x3) := by
  unfold State.tryWrite
  try dsimp only
  repeat' first
    | with_reducible assumption
    | with_reducible refine Step.ite (fun _ => ?_) (fun _ => ?_)
    | with_reducible refine StepE.ite (fun _ => ?_) (fun _ => ?_)
    | with_reducible exact StepE.error
    | with_reducible apply StepE.ok
    | with_reducible apply foldl_step
    | with_reducible apply foldlFst_step
    | with_reducible intro _
    | with_reducible refine Step.ofFst (by assumption) ?_
    | with_reducible refine StepE.named (by assumption) ?_
    | with_reducible refine StepP.named (by assumption) ?_
    | with_reducible apply he
    | split

theorem State.odWrite_step {G : Nat} {s0 s : State} {x1} {x2} {x3} {x4} (h : Step G s0 s) (he : ∀ u, Step G s0 u → StepE G s0 (x4 u))
    (hG : sub 4194304 G = true) : StepO G s0 (State.odWrite s x1 x2 x3 x4) := by
  unfold State.odWrite
  try dsimp only
  repeat' first
    | with_reducible assumption
    | ((with_reducible refine sub_trans ?_ hG); exact rfl)
    | with_reducible apply State.aborted_step
    | with_reducible apply State.tryWrite_step
    | with_reducible apply whenDue_step
    | with_reducible refine Step.ite (fun _ => ?_) (fun _ => ?_)
    | with_reducible refine StepO.ite (fun _ => ?_) (fun _ => ?_)
    | with_reducible apply StepO.next
    | with_reducible apply foldl_step
    | with_reducible apply foldlFst_step
    | with_reducible intro _
    | with_reducible refine Step.ofFst (by assumption) ?_
    | with_reducible refine StepE.named (by assumption) ?_
    | with_reducible refine StepP.named (by assumption) ?_
    | with_reducible apply he
    | split

theorem State.putCells_step {G : Nat} {s0 s : State} {x1} {x2} (h : Step G s0 s)
    (hG : sub 4194304 G = true) : Step G s0 (State.putCells s x1 x2) := by
  unfold State.putCells
  try dsimp only
  repeat' first
    | with_reducible assumption
    | with_reducible apply State.putCell_step
    | with_reducible refine Step.ite (fun _ => ?_) (fun _ => ?_)
    | with_reducible apply foldl_step
    | with_reducible apply foldlFst_step
    | with_reducible intro _

/-! ### Flags -/

theorem State.levelCheck_step {G : Nat} {s0 s : State}  (h : Step G s0 s)
    (hG : sub 81082387573507248 G = true) : Step G s0 (State.levelCheck s) := by
  unfold State.levelCheck
  try dsimp only
  repeat' first
    | with_reducible assumption
    | ((with_reducible refine sub_trans ?_ hG); exact rfl)
    | with_reducible apply State.emcyEvent_step
    | ((with_reducible refine Step.put (F := 81082387573507248) ?_ hG ?_ ?_); rotate_left; (fail_if_success (with_reducible exact Same.refl _ _)); exact rfl; (first | with_reducible exact State.Inv.congr rfl rfl rfl rfl rfl rfl rfl id id id))
    | with_reducible refine Step.ite (fun _ => ?_) (fun _ => ?_)

theorem State.replaceCheck_step {G : Nat} {s0 s : State}  (h : Step G s0 s)
    (hG : sub 72075190466249904 G = true) : Step G s0 (State.replaceCheck s) := by
  unfold State.replaceCheck
  try dsimp only
  repeat' first
    | with_reducible assumption
    | ((with_reducible refine sub_trans ?_ hG); exact rfl)
    | with_reducible apply State.fire_step
    | with_reducible apply State.emcyEvent_step
    | with_reducible apply State.putCell_step
    | ((with_reducible refine Step.put (F := 72075190466249904) ?_ hG ?_ ?_); rotate_left; (fail_if_success (with_reducible exact Same.refl _ _)); exact rfl; (first | with_reducible exact State.Inv.congr rfl rfl rfl rfl rfl rfl rfl id id id))
    | with_reducible refine Step.ite (fun _ => ?_) (fun _ => ?_)

theorem State.settle_step {G : Nat} {s0 s : State} {t} (h : Step G s0 s) (k : Step G s0 t)
    (hG : sub 81082389720990896 G = true) : Step G s0 (State.settle s t) := by
  unfold State.settle
  dsimp only
  have k2 : Step G s0 (t.levelCheck.replaceCheck) := State.replaceCheck_step (State.levelCheck_step k (sub_trans rfl hG)) (sub_trans rfl hG)
  exact Step.ite (fun _ => State.emcy_step k2 (sub_trans rfl hG)) (fun _ => k2)

theorem whenSettled_step {G : Nat} {s0 s : State} {x1} {t} (h : Step G s0 s) (k : Step G s0 t)
    (hG : sub 81082389720990896 G = true) : StepO G s0 (whenSettled x1 s t) := by
  exact whenDue_step h (State.settle_step h k hG)

theorem State.odWriteSettled_step {G : Nat} {s0 s : State} {x1} {x2} {x3} {x4} (h : Step G s0 s) (he : ∀ u, Step G s0 u → StepE G s0 (x4 u))
    (hG : sub 81082389720990896 G = true) : StepO G s0 (State.odWriteSettled s x1 x2 x3 x4) := by
  unfold State.odWriteSettled
  try dsimp only
  repeat' first
    | with_reducible assumption
    | ((with_reducible refine sub_trans ?_ hG); exact rfl)
    | with_reducible apply State.odWrite_step
    | with_reducible apply State.settle_step
    | with_reducible refine Step.ite (fun _ => ?_) (fun _ => ?_)
    | with_reducible refine StepO.ite (fun _ => ?_) (fun _ => ?_)
    | with_reducible apply StepO.next
    | with_reducible refine StepE.ite (fun _ => ?_) (fun _ => ?_)
    | with_reducible exact StepE.error
    | with_reducible apply StepE.ok
    | with_reducible apply foldl_step
    | with_reducible apply foldlFst_step
    | with_reducible intro _
    | with_reducible refine Step.ofFst (by assumption) ?_
    | with_reducible refine StepE.named (by assumption) ?_
    | with_reducible refine StepP.named (by assumption) ?_
    | with_reducible apply he
    | split

/-! ### Failure -/

theorem rebuilt_mode (w : Wafer) (mode : Nat) (lost : Nat → Bool) : (w.rebuilt mode lost).mode ≤ 3 := by
  unfold Wafer.rebuilt
  dsimp only
  split
  · exact Nat.min_le_right _ _
  · exact Nat.zero_le _

theorem State.skipFrame_step {G : Nat} {s0 s : State} {x1} (h : Step G s0 s)
    (hG : sub 72080289657867400 G = true) : Step G s0 (State.skipFrame s x1) := by
  unfold State.skipFrame
  try dsimp only
  repeat' first
    | with_reducible assumption
    | ((with_reducible refine sub_trans ?_ hG); exact rfl)
    | with_reducible apply State.frameDone_step
    | ((with_reducible refine Step.put (F := 72080289657867400) ?_ hG ?_ ?_); rotate_left; (fail_if_success (with_reducible exact Same.refl _ _)); exact rfl; (first | with_reducible exact State.Inv.congr rfl rfl rfl rfl rfl rfl rfl id id id))
    | with_reducible refine Step.ite (fun _ => ?_) (fun _ => ?_)
    | with_reducible apply foldl_step
    | with_reducible apply foldlFst_step
    | with_reducible intro _
    | with_reducible refine Step.ofFst (by assumption) ?_
    | with_reducible refine StepE.named (by assumption) ?_
    | with_reducible refine StepP.named (by assumption) ?_
    | split
    | dsimp only

theorem State.skipCandidate_step {G : Nat} {s0 s : State} {x1} {x2} (h : Step G s0 s)
    (hG : sub 72080289657998472 G = true) : Step G s0 (State.skipCandidate s x1 x2) := by
  unfold State.skipCandidate
  try dsimp only
  repeat' first
    | with_reducible assumption
    | ((with_reducible refine sub_trans ?_ hG); exact rfl)
    | with_reducible apply State.skipFrame_step
    | with_reducible apply each_step
    | ((with_reducible refine Step.put (F := 72080289657998472) ?_ hG ?_ ?_); rotate_left; (fail_if_success (with_reducible exact Same.refl _ _)); exact rfl; (first | with_reducible exact State.Inv.congr rfl rfl rfl rfl rfl rfl rfl id id id))
    | with_reducible refine Step.ite (fun _ => ?_) (fun _ => ?_)
    | with_reducible apply foldl_step
    | with_reducible apply foldlFst_step
    | with_reducible intro _
    | with_reducible refine Step.ofFst (by assumption) ?_
    | with_reducible refine StepE.named (by assumption) ?_
    | with_reducible refine StepP.named (by assumption) ?_
    | split

theorem skipLoop_step {G : Nat} {s0 s : State} {x1} {x2} (h : Step G s0 s)
    (hG : sub 72080289657998472 G = true) : Step G s0 (skipLoop x1 x2 s) := by
  induction x1 generalizing s x2 with
  | zero =>
    unfold skipLoop
    try dsimp only
    repeat' first
      | with_reducible assumption
  | succ n ih =>
    unfold skipLoop
    try dsimp only
    repeat' first
      | with_reducible apply ih
      | with_reducible assumption
      | ((with_reducible refine sub_trans ?_ hG); exact rfl)
      | with_reducible apply State.bump64_step
      | with_reducible apply State.skipCandidate_step
      | with_reducible refine Step.ite (fun _ => ?_) (fun _ => ?_)
      | with_reducible apply foldl_step
      | with_reducible apply foldlFst_step
      | with_reducible intro _
      | with_reducible refine Step.ofFst (by assumption) ?_
      | with_reducible refine StepE.named (by assumption) ?_
      | with_reducible refine StepP.named (by assumption) ?_
      | split

theorem State.admitBeat_step {G : Nat} {s0 s : State} {x1} (h : Step G s0 s)
    (hG : sub 72080289657998472 G = true) : Step G s0 (State.admitBeat s x1) := by
  unfold State.admitBeat
  try dsimp only
  repeat' first
    | with_reducible assumption
    | with_reducible apply skipLoop_step

theorem State.rebudget_step {G : Nat} {s0 s : State}  (h : Step G s0 s)
    (hG : sub 72080289657998472 G = true) : Step G s0 (State.rebudget s) := by
  unfold State.rebudget
  try dsimp only
  repeat' first
    | with_reducible assumption
    | with_reducible apply State.admitBeat_step
    | with_reducible apply each_step
    | with_reducible refine Step.ite (fun _ => ?_) (fun _ => ?_)
    | with_reducible apply foldl_step
    | with_reducible apply foldlFst_step
    | with_reducible intro _

theorem State.jobClose_step {G : Nat} {s0 s : State} {x1} {x2} (h : Step G s0 s)
    (hG : sub 72467326340918408 G = true) : Step G s0 (State.jobClose s x1 x2) := by
  unfold State.jobClose
  try dsimp only
  repeat' first
    | with_reducible assumption
    | ((with_reducible refine sub_trans ?_ hG); exact rfl)
    | with_reducible apply State.rebudget_step
    | with_reducible apply State.jobForget_step
    | with_reducible apply State.jobPlansEnd_step
    | with_reducible apply State.jobSessionsEnd_step
    | with_reducible apply State.jobSlotsEnd_step
    | with_reducible apply State.jobFramesEnd_step
    | with_reducible apply State.jobEntriesEnd_step
    | with_reducible apply State.killTask_step
    | with_reducible apply State.jobLinks_step
    | with_reducible apply each_step
    | ((with_reducible refine Step.put (F := 72467326340918408) ?_ hG ?_ ?_); rotate_left; (fail_if_success (with_reducible exact Same.refl _ _)); exact rfl; (first | with_reducible exact State.Inv.congr rfl rfl rfl rfl rfl rfl rfl id id id))
    | with_reducible refine Step.ite (fun _ => ?_) (fun _ => ?_)
    | with_reducible apply foldl_step
    | with_reducible apply foldlFst_step
    | with_reducible intro _
    | with_reducible refine Step.ofFst (by assumption) ?_
    | with_reducible refine StepE.named (by assumption) ?_
    | with_reducible refine StepP.named (by assumption) ?_
    | split
    | dsimp only

theorem State.closeAllJobs_step {G : Nat} {s0 s : State}  (h : Step G s0 s)
    (hG : sub 72467326340918408 G = true) : Step G s0 (State.closeAllJobs s) := by
  unfold State.closeAllJobs
  try dsimp only
  repeat' first
    | with_reducible assumption
    | with_reducible apply State.jobClose_step
    | with_reducible apply each_step
    | with_reducible refine Step.ite (fun _ => ?_) (fun _ => ?_)
    | with_reducible apply foldl_step
    | with_reducible apply foldlFst_step
    | with_reducible intro _

theorem State.demandCheck_step {G : Nat} {s0 s : State}  (h : Step G s0 s)
    (hG : sub 1010827264 G = true) : Step G s0 (State.demandCheck s) := by
  unfold State.demandCheck
  try dsimp only
  repeat' first
    | with_reducible assumption
    | ((with_reducible refine sub_trans ?_ hG); exact rfl)
    | with_reducible apply State.bump64_step
    | with_reducible apply State.fire_step
    | with_reducible refine Step.ite (fun _ => ?_) (fun _ => ?_)
    | with_reducible apply foldl_step
    | with_reducible apply foldlFst_step
    | with_reducible intro _
    | with_reducible refine Step.ofFst (by assumption) ?_
    | with_reducible refine StepE.named (by assumption) ?_
    | with_reducible refine StepP.named (by assumption) ?_
    | split

theorem State.entryHit_step {G : Nat} {s0 s : State} {x1} {x2} {x3} (h : Step G s0 s)
    (hG : sub 72075204416507008 G = true) : Step G s0 (State.entryHit s x1 x2 x3) := by
  unfold State.entryHit
  try dsimp only
  repeat' first
    | with_reducible assumption
    | ((with_reducible refine sub_trans ?_ hG); exact rfl)
    | with_reducible apply State.entryEnd_step
    | with_reducible apply State.entryMap_step
    | with_reducible apply State.bump64_step
    | with_reducible refine Step.ite (fun _ => ?_) (fun _ => ?_)
    | with_reducible apply foldl_step
    | with_reducible apply foldlFst_step
    | with_reducible intro _
    | with_reducible refine Step.ofFst (by assumption) ?_
    | with_reducible refine StepE.named (by assumption) ?_
    | with_reducible refine StepP.named (by assumption) ?_
    | rw [id_eq]
    | split
    | dsimp only

theorem State.taskHit_step {G : Nat} {s0 s : State} {x1} {x2} {x3} (h : Step G s0 s)
    (hG : sub 72075341855460480 G = true) : Step G s0 (State.taskHit s x1 x2 x3) := by
  unfold State.taskHit
  try dsimp only
  repeat' first
    | with_reducible assumption
    | ((with_reducible refine sub_trans ?_ hG); exact rfl)
    | with_reducible apply State.killTask_step
    | with_reducible apply State.partDone_step
    | with_reducible refine Step.ite (fun _ => ?_) (fun _ => ?_)
    | with_reducible apply foldl_step
    | with_reducible apply foldlFst_step
    | with_reducible intro _
    | with_reducible refine Step.ofFst (by assumption) ?_
    | with_reducible refine StepE.named (by assumption) ?_
    | with_reducible refine StepP.named (by assumption) ?_
    | split

theorem State.elasticHit_step {G : Nat} {s0 s : State} {x1} {x2} {x3} {x4} (h : Step G s0 s)
    (hG : sub 72080289657801864 G = true) : Step G s0 (State.elasticHit s x1 x2 x3 x4) := by
  unfold State.elasticHit
  try dsimp only
  repeat' first
    | with_reducible assumption
    | ((with_reducible refine sub_trans ?_ hG); exact rfl)
    | with_reducible apply State.bump64_step
    | with_reducible apply State.frameDone_step
    | with_reducible apply State.entryHit_step
    | with_reducible apply each_step
    | with_reducible refine Step.ite (fun _ => ?_) (fun _ => ?_)
    | with_reducible apply foldl_step
    | with_reducible apply foldlFst_step
    | with_reducible intro _

theorem State.unitsFail_step {G : Nat} {s0 s : State} {x1} {x2} {x3} (h : Step G s0 s)
    (hG : sub 72080289657810056 G = true) : Step G s0 (State.unitsFail s x1 x2 x3) := by
  unfold State.unitsFail
  try dsimp only
  repeat' first
    | with_reducible assumption
    | ((with_reducible refine sub_trans ?_ hG); exact rfl)
    | with_reducible apply State.taskHit_step
    | with_reducible apply State.jobAbort_step
    | with_reducible apply State.elasticHit_step
    | with_reducible apply each_step
    | with_reducible refine Step.ite (fun _ => ?_) (fun _ => ?_)
    | with_reducible apply foldl_step
    | with_reducible apply foldlFst_step
    | with_reducible intro _

theorem State.epochStep_step {G : Nat} {s0 s : State} (h : Step G s0 s)
    (hG : sub 72080289657998474 G = true) : Step G s0 (State.epochStep s) := by
  unfold State.epochStep
  try dsimp only
  repeat' first
    | with_reducible assumption
    | ((with_reducible refine sub_trans ?_ hG); exact rfl)
    | with_reducible apply State.rebudget_step
    | ((with_reducible refine Step.put (F := 72080289657998474) ?_ hG ?_ ?_); rotate_left; (fail_if_success (with_reducible exact Same.refl _ _)); exact rfl; (first | with_reducible exact State.Inv.congr rfl rfl rfl rfl rfl rfl rfl id id id))
    | with_reducible refine Step.ite (fun _ => ?_) (fun _ => ?_)
    | with_reducible apply foldl_step
    | with_reducible apply foldlFst_step
    | with_reducible intro _
    | with_reducible refine Step.ofFst (by assumption) ?_
    | with_reducible refine StepE.named (by assumption) ?_
    | with_reducible refine StepP.named (by assumption) ?_
    | split
    | dsimp only

theorem State.abandonMoves_step {G : Nat} {s0 s : State} {x1} (h : Step G s0 s)
    (hG : sub 171798691840 G = true) : Step G s0 (State.abandonMoves s x1) := by
  unfold State.abandonMoves
  try dsimp only
  repeat' first
    | with_reducible assumption
    | ((with_reducible refine sub_trans ?_ hG); exact rfl)
    | ((with_reducible refine Step.put (F := 171798691840) ?_ hG ?_ ?_); rotate_left; (fail_if_success (with_reducible exact Same.refl _ _)); exact rfl; (first | with_reducible exact State.Inv.congr rfl rfl rfl rfl rfl rfl rfl id id id))
    | with_reducible refine Step.ite (fun _ => ?_) (fun _ => ?_)
    | with_reducible apply foldl_step
    | with_reducible apply foldlFst_step
    | with_reducible intro _
    | with_reducible refine Step.ofFst (by assumption) ?_
    | with_reducible refine StepE.named (by assumption) ?_
    | with_reducible refine StepP.named (by assumption) ?_
    | split
    | dsimp only

theorem State.declareLost_step {G : Nat} {s0 s : State} {x1} {x2} {x3} (h : Step G s0 s)
    (hG : sub 72075364412425394 G = true) : Step G s0 (State.declareLost s x1 x2 x3) := by
  unfold State.declareLost
  try dsimp only
  repeat' first
    | with_reducible assumption
    | ((with_reducible refine sub_trans ?_ hG); exact rfl)
    | with_reducible apply State.abandonMoves_step
    | with_reducible apply State.fire_step
    | with_reducible apply State.bump64_step
    | with_reducible apply State.emcyEvent_step
    | ((with_reducible refine Step.put (F := 72075364412425394) ?_ hG ?_ ?_); rotate_left; (fail_if_success (with_reducible exact Same.refl _ _)); exact rfl; (first | with_reducible exact State.Inv.congr rfl rfl rfl rfl rfl rfl rfl id id id))
    | with_reducible refine Step.ite (fun _ => ?_) (fun _ => ?_)

theorem State.setDomain_step {G : Nat} {s0 s : State} {x1} {x2} (h : Step G s0 s)
    (hG : sub 4503599627370496 G = true) : Step G s0 (State.setDomain s x1 x2) := by
  unfold State.setDomain
  try dsimp only
  repeat' first
    | with_reducible assumption
    | ((with_reducible refine sub_trans ?_ hG); exact rfl)
    | ((with_reducible refine Step.put (F := 4503599627370496) ?_ hG ?_ ?_); rotate_left; (fail_if_success (with_reducible exact Same.refl _ _)); exact rfl; (first | with_reducible exact State.Inv.congr rfl rfl rfl rfl rfl rfl rfl id id id))
    | with_reducible refine Step.ite (fun _ => ?_) (fun _ => ?_)
    | with_reducible apply foldl_step
    | with_reducible apply foldlFst_step
    | with_reducible intro _
    | with_reducible refine Step.ofFst (by assumption) ?_
    | with_reducible refine StepE.named (by assumption) ?_
    | with_reducible refine StepP.named (by assumption) ?_
    | split
    | dsimp only

theorem State.domainOff_step {G : Nat} {s0 s : State} {x1} (h : Step G s0 s)
    (hG : sub 4503599627370496 G = true) : Step G s0 (State.domainOff s x1) := by
  unfold State.domainOff
  try dsimp only
  repeat' first
    | with_reducible assumption
    | with_reducible apply State.setDomain_step
    | with_reducible refine Step.ite (fun _ => ?_) (fun _ => ?_)

theorem State.rampStart_step {G : Nat} {s0 s : State} {x1} (h : Step G s0 s)
    (hG : sub 4503599627370496 G = true) : Step G s0 (State.rampStart s x1) := by
  unfold State.rampStart
  try dsimp only
  repeat' first
    | with_reducible assumption
    | with_reducible apply State.setDomain_step

theorem rampFill_step {G : Nat} {s0 s : State} {x1} {x2} (h : Step G s0 s)
    (hG : sub 4503599627370496 G = true) : Step G s0 (rampFill x1 x2 s) := by
  induction x2 generalizing s  with
  | zero =>
    unfold rampFill
    try dsimp only
    repeat' first
      | with_reducible assumption
  | succ n ih =>
    unfold rampFill
    try dsimp only
    repeat' first
      | with_reducible apply ih
      | with_reducible assumption
      | with_reducible apply State.rampStart_step
      | with_reducible refine Step.ite (fun _ => ?_) (fun _ => ?_)
      | with_reducible apply foldl_step
      | with_reducible apply foldlFst_step
      | with_reducible intro _
      | with_reducible refine Step.ofFst (by assumption) ?_
      | with_reducible refine StepE.named (by assumption) ?_
      | with_reducible refine StepP.named (by assumption) ?_
      | split

theorem State.rampAll_step {G : Nat} {s0 s : State}  (h : Step G s0 s)
    (hG : sub 4503599627370496 G = true) : Step G s0 (State.rampAll s) := by
  unfold State.rampAll
  try dsimp only
  repeat' first
    | with_reducible assumption
    | with_reducible apply rampFill_step

theorem State.setPanelPower_step {G : Nat} {s0 s : State} {x1} {x2} (h : Step G s0 s)
    (hG : sub 4503599627370496 G = true) : Step G s0 (State.setPanelPower s x1 x2) := by
  unfold State.setPanelPower
  try dsimp only
  repeat' first
    | with_reducible assumption
    | ((with_reducible refine sub_trans ?_ hG); exact rfl)
    | ((with_reducible refine Step.put (F := 4503599627370496) ?_ hG ?_ ?_); rotate_left; (fail_if_success (with_reducible exact Same.refl _ _)); exact rfl; (first | with_reducible exact State.Inv.congr rfl rfl rfl rfl rfl rfl rfl id id id))
    | with_reducible refine Step.ite (fun _ => ?_) (fun _ => ?_)
    | with_reducible apply foldl_step
    | with_reducible apply foldlFst_step
    | with_reducible intro _
    | with_reducible refine Step.ofFst (by assumption) ?_
    | with_reducible refine StepE.named (by assumption) ?_
    | with_reducible refine StepP.named (by assumption) ?_
    | split
    | dsimp only

theorem State.clearPanel_step {G : Nat} {s0 s : State} {x1} (h : Step G s0 s)
    (hG : sub 137438953472 G = true) : Step G s0 (State.clearPanel s x1) := by
  unfold State.clearPanel
  try dsimp only
  repeat' first
    | with_reducible assumption
    | ((with_reducible refine sub_trans ?_ hG); exact rfl)
    | ((with_reducible refine Step.put (F := 137438953472) ?_ hG ?_ ?_); rotate_left; (fail_if_success (with_reducible exact Same.refl _ _)); exact rfl; (first | with_reducible exact State.Inv.congr rfl rfl rfl rfl rfl rfl rfl id id id))
    | with_reducible refine Step.ite (fun _ => ?_) (fun _ => ?_)
    | with_reducible apply foldl_step
    | with_reducible apply foldlFst_step
    | with_reducible intro _
    | with_reducible refine Step.ofFst (by assumption) ?_
    | with_reducible refine StepE.named (by assumption) ?_
    | with_reducible refine StepP.named (by assumption) ?_
    | split
    | dsimp only

theorem State.plansToLoaded_step {G : Nat} {s0 s : State}  (h : Step G s0 s)
    (hG : sub 4398046511104 G = true) : Step G s0 (State.plansToLoaded s) := by
  unfold State.plansToLoaded
  try dsimp only
  repeat' first
    | with_reducible assumption
    | ((with_reducible refine sub_trans ?_ hG); exact rfl)
    | ((with_reducible refine Step.put (F := 4398046511104) ?_ hG ?_ ?_); rotate_left; (fail_if_success (with_reducible exact Same.refl _ _)); exact rfl; (first | with_reducible exact State.Inv.congr rfl rfl rfl rfl rfl rfl rfl id id id))
    | with_reducible refine Step.ite (fun _ => ?_) (fun _ => ?_)
    | with_reducible apply foldl_step
    | with_reducible apply foldlFst_step
    | with_reducible intro _
    | with_reducible refine Step.ofFst (by assumption) ?_
    | with_reducible refine StepE.named (by assumption) ?_
    | with_reducible refine StepP.named (by assumption) ?_
    | split
    | dsimp only

theorem State.discardPrograms_step {G : Nat} {s0 s : State}  (h : Step G s0 s)
    (hG : sub 137438953472 G = true) : Step G s0 (State.discardPrograms s) := by
  unfold State.discardPrograms
  try dsimp only
  repeat' first
    | with_reducible assumption
    | ((with_reducible refine sub_trans ?_ hG); exact rfl)
    | ((with_reducible refine Step.put (F := 137438953472) ?_ hG ?_ ?_); rotate_left; (fail_if_success (with_reducible exact Same.refl _ _)); exact rfl; (first | with_reducible exact State.Inv.congr rfl rfl rfl rfl rfl rfl rfl id id id))
    | with_reducible refine Step.ite (fun _ => ?_) (fun _ => ?_)
    | with_reducible apply foldl_step
    | with_reducible apply foldlFst_step
    | with_reducible intro _
    | with_reducible refine Step.ofFst (by assumption) ?_
    | with_reducible refine StepE.named (by assumption) ?_
    | with_reducible refine StepP.named (by assumption) ?_
    | split
    | dsimp only

theorem State.abortAll_step {G : Nat} {s0 s : State} {x1} (h : Step G s0 s)
    (hG : sub 72080289657810056 G = true) : Step G s0 (State.abortAll s x1) := by
  unfold State.abortAll
  try dsimp only
  repeat' first
    | with_reducible assumption
    | with_reducible apply State.jobAbort_step
    | with_reducible apply each_step
    | with_reducible refine Step.ite (fun _ => ?_) (fun _ => ?_)
    | with_reducible apply foldl_step
    | with_reducible apply foldlFst_step
    | with_reducible intro _

theorem State.detachAll_step {G : Nat} {s0 s : State}  (h : Step G s0 s)
    (hG : sub 72075891611274368 G = true) : Step G s0 (State.detachAll s) := by
  unfold State.detachAll
  try dsimp only
  repeat' first
    | with_reducible assumption
    | with_reducible apply State.detachSlot_step
    | with_reducible apply each_step
    | with_reducible refine Step.ite (fun _ => ?_) (fun _ => ?_)
    | with_reducible apply foldl_step
    | with_reducible apply foldlFst_step
    | with_reducible intro _

theorem State.panelFell_step {G : Nat} {s0 s : State} {x1} (h : Step G s0 s)
    (hG : sub 4503737066323968 G = true) : Step G s0 (State.panelFell s x1) := by
  unfold State.panelFell
  try dsimp only
  repeat' first
    | with_reducible assumption
    | ((with_reducible refine sub_trans ?_ hG); exact rfl)
    | with_reducible apply State.clearPanel_step
    | with_reducible apply State.setPanelPower_step
    | with_reducible apply State.domainOff_step
    | with_reducible refine Step.ite (fun _ => ?_) (fun _ => ?_)
    | with_reducible apply foldl_step
    | with_reducible apply foldlFst_step
    | with_reducible intro _
    | with_reducible refine Step.ofFst (by assumption) ?_
    | with_reducible refine StepE.named (by assumption) ?_
    | with_reducible refine StepP.named (by assumption) ?_
    | split
    | dsimp only

theorem State.lostDomainsOff_step {G : Nat} {s0 s : State} (h : Step G s0 s)
    (hG : sub 4503737066323968 G = true) : Step G s0 (State.lostDomainsOff s) := by
  unfold State.lostDomainsOff
  try dsimp only
  repeat' first
    | with_reducible assumption
    | ((with_reducible refine sub_trans ?_ hG); exact rfl)
    | with_reducible apply State.panelFell_step
    | with_reducible apply each_step
    | with_reducible refine Step.ite (fun _ => ?_) (fun _ => ?_)
    | with_reducible apply foldl_step
    | with_reducible apply foldlFst_step
    | with_reducible intro _
    | with_reducible refine Step.ofFst (by assumption) ?_
    | with_reducible refine StepE.named (by assumption) ?_
    | with_reducible refine StepP.named (by assumption) ?_
    | split
    | dsimp only

theorem State.rebuiltReport_step {G : Nat} {s0 s : State}  (h : Step G s0 s)
    (hG : sub 72075188318766256 G = true) : Step G s0 (State.rebuiltReport s) := by
  unfold State.rebuiltReport
  try dsimp only
  repeat' first
    | with_reducible assumption
    | ((with_reducible refine sub_trans ?_ hG); exact rfl)
    | with_reducible apply State.emcyEvent_step
    | with_reducible apply State.logAdd_step
    | with_reducible apply State.bump64_step

theorem State.laneFails_step {G : Nat} {s0 s : State} {x1} {x2} {x3} {x4} (h : Step G s0 s)
    (hG : sub 72075364412425394 G = true) : Step G s0 (State.laneFails s x1 x2 x3 x4) := by
  unfold State.laneFails
  try dsimp only
  repeat' first
    | with_reducible assumption
    | ((with_reducible refine sub_trans ?_ hG); exact rfl)
    | with_reducible apply State.fire_step
    | with_reducible apply State.declareLost_step
    | ((with_reducible refine Step.put (F := 72075364412425394) ?_ hG ?_ ?_); rotate_left; (fail_if_success (with_reducible exact Same.refl _ _)); exact rfl; (first | with_reducible exact State.Inv.congr rfl rfl rfl rfl rfl rfl rfl id id id))
    | with_reducible refine Step.ite (fun _ => ?_) (fun _ => ?_)
    | with_reducible apply foldl_step
    | with_reducible apply foldlFst_step
    | with_reducible intro _
    | with_reducible refine Step.ofFst (by assumption) ?_
    | with_reducible refine StepE.named (by assumption) ?_
    | with_reducible refine StepP.named (by assumption) ?_
    | split

/-! ### Boundary -/

theorem State.lanesApply_step {G : Nat} {s0 s : State} (h : Step G s0 s)
    (hG : sub 72080289657998474 G = true) : Step G s0 (State.lanesApply s) := by
  unfold State.lanesApply
  try dsimp only
  repeat' first
    | with_reducible assumption
    | ((with_reducible refine sub_trans ?_ hG); exact rfl)
    | with_reducible apply State.epochStep_step
    | ((with_reducible refine Step.put (F := 72080289657998474) ?_ hG ?_ ?_); rotate_left; (fail_if_success (with_reducible exact Same.refl _ _)); exact rfl; (first | with_reducible exact State.Inv.congr rfl rfl rfl rfl rfl rfl rfl id id id))
    | with_reducible refine Step.ite (fun _ => ?_) (fun _ => ?_)
    | with_reducible apply foldl_step
    | with_reducible apply foldlFst_step
    | with_reducible intro _
    | with_reducible refine Step.ofFst (by assumption) ?_
    | with_reducible refine StepE.named (by assumption) ?_
    | with_reducible refine StepP.named (by assumption) ?_
    | split
    | dsimp only

theorem State.clocksApply_step {G : Nat} {s0 s : State}  (h : Step G s0 s)
    (hG : sub 4503599627370496 G = true) : Step G s0 (State.clocksApply s) := by
  unfold State.clocksApply
  try dsimp only
  repeat' first
    | with_reducible assumption
    | with_reducible apply each_step
    | ((with_reducible refine Step.put (F := 4503599627370496) ?_ hG ?_ ?_); rotate_left; (fail_if_success (with_reducible exact Same.refl _ _)); exact rfl; (first | with_reducible exact State.Inv.congr rfl rfl rfl rfl rfl rfl rfl id id id))
    | with_reducible refine Step.ite (fun _ => ?_) (fun _ => ?_)
    | with_reducible apply foldl_step
    | with_reducible apply foldlFst_step
    | with_reducible intro _

theorem State.retimesApply_step {G : Nat} {s0 s : State} (h : Step G s0 s)
    (hG : sub 8 G = true) : Step G s0 (State.retimesApply s) := by
  unfold State.retimesApply
  try dsimp only
  repeat' first
    | with_reducible assumption
    | ((with_reducible refine sub_trans ?_ hG); exact rfl)
    | ((with_reducible refine Step.put (F := 8) ?_ hG ?_ ?_); rotate_left; (fail_if_success (with_reducible exact Same.refl _ _)); exact rfl; (first | with_reducible exact State.Inv.congr rfl rfl rfl rfl rfl rfl rfl id id id | exact State.Inv.congr rfl rfl rfl rfl rfl rfl rfl (fun h => Tab.rises_set h _ _) id id | exact State.Inv.congr rfl rfl rfl rfl rfl rfl rfl (fun h => Tab.rises_erase h _) id id | exact State.Inv.congr rfl rfl rfl rfl rfl rfl rfl (fun h => Tab.rises_mapVals h _) id id | exact State.Inv.congr rfl rfl rfl rfl rfl rfl rfl (fun h => Tab.rises_keep h _) id id | exact State.Inv.congr rfl rfl rfl rfl rfl rfl rfl (fun _ => Tab.rises_empty) id id | exact State.Inv.congr rfl rfl rfl rfl rfl rfl rfl id (fun h => Tab.rises_set h _ _) id | exact State.Inv.congr rfl rfl rfl rfl rfl rfl rfl id (fun h => Tab.rises_erase h _) id | exact State.Inv.congr rfl rfl rfl rfl rfl rfl rfl id (fun h => Tab.rises_mapVals h _) id | exact State.Inv.congr rfl rfl rfl rfl rfl rfl rfl id (fun h => Tab.rises_keep h _) id | exact State.Inv.congr rfl rfl rfl rfl rfl rfl rfl id (fun _ => Tab.rises_empty) id | exact State.Inv.congr rfl rfl rfl rfl rfl rfl rfl (fun _ => Tab.rises_empty) (fun _ => Tab.rises_empty) id))
    | with_reducible refine Step.ite (fun _ => ?_) (fun _ => ?_)
    | with_reducible apply foldl_step
    | with_reducible apply foldlFst_step
    | with_reducible intro _
    | with_reducible refine Step.ofFst (by assumption) ?_
    | with_reducible refine StepE.named (by assumption) ?_
    | with_reducible refine StepP.named (by assumption) ?_
    | split
    | dsimp only

theorem State.renew_step {G : Nat} {s0 s : State} {x1} {x2} {x3} (h : Step G s0 s)
    (hG : sub 8589934592 G = true) : Step G s0 (State.renew s x1 x2 x3) := by
  unfold State.renew
  try dsimp only
  repeat' first
    | with_reducible assumption
    | ((with_reducible refine sub_trans ?_ hG); exact rfl)
    | ((with_reducible refine Step.put (F := 8589934592) ?_ hG ?_ ?_); rotate_left; (fail_if_success (with_reducible exact Same.refl _ _)); exact rfl; (first | with_reducible exact State.Inv.congr rfl rfl rfl rfl rfl rfl rfl id id id))
    | with_reducible refine Step.ite (fun _ => ?_) (fun _ => ?_)
    | with_reducible apply foldl_step
    | with_reducible apply foldlFst_step
    | with_reducible intro _
    | with_reducible refine Step.ofFst (by assumption) ?_
    | with_reducible refine StepE.named (by assumption) ?_
    | with_reducible refine StepP.named (by assumption) ?_
    | split
    | dsimp only

theorem State.leasesApply_step {G : Nat} {s0 s : State}  (h : Step G s0 s)
    (hG : sub 8589934640 G = true) : Step G s0 (State.leasesApply s) := by
  unfold State.leasesApply
  try dsimp only
  repeat' first
    | with_reducible assumption
    | ((with_reducible refine sub_trans ?_ hG); exact rfl)
    | with_reducible apply State.renew_step
    | with_reducible apply each_step
    | ((with_reducible refine Step.put (F := 8589934640) ?_ hG ?_ ?_); rotate_left; (fail_if_success (with_reducible exact Same.refl _ _)); exact rfl; (first | with_reducible exact State.Inv.congr rfl rfl rfl rfl rfl rfl rfl id id id))
    | with_reducible refine Step.ite (fun _ => ?_) (fun _ => ?_)
    | with_reducible apply foldl_step
    | with_reducible apply foldlFst_step
    | with_reducible intro _

theorem State.domainWant_step {G : Nat} {s0 s : State} {x1} (h : Step G s0 s)
    (hG : sub 4503599627370496 G = true) : Step G s0 (State.domainWant s x1) := by
  unfold State.domainWant
  try dsimp only
  repeat' first
    | with_reducible assumption
    | ((with_reducible refine sub_trans ?_ hG); exact rfl)
    | with_reducible apply State.setDomain_step
    | with_reducible refine Step.ite (fun _ => ?_) (fun _ => ?_)
    | with_reducible apply foldl_step
    | with_reducible apply foldlFst_step
    | with_reducible intro _
    | with_reducible refine Step.ofFst (by assumption) ?_
    | with_reducible refine StepE.named (by assumption) ?_
    | with_reducible refine StepP.named (by assumption) ?_
    | split
    | dsimp only

theorem State.restoreBegin_step {G : Nat} {s0 s : State} {x1} (h : Step G s0 s)
    (hG : sub 13510798882111490 G = true) : Step G s0 (State.restoreBegin s x1) := by
  unfold State.restoreBegin
  try dsimp only
  repeat' first
    | with_reducible assumption
    | ((with_reducible refine sub_trans ?_ hG); exact rfl)
    | with_reducible apply State.domainWant_step
    | with_reducible apply State.rampAll_step
    | with_reducible apply each_step
    | ((with_reducible refine Step.put (F := 13510798882111490) ?_ hG ?_ ?_); rotate_left; (fail_if_success (with_reducible exact Same.refl _ _)); exact rfl; (first | with_reducible exact State.Inv.congr rfl rfl rfl rfl rfl rfl rfl id id id))
    | with_reducible refine Step.ite (fun _ => ?_) (fun _ => ?_)
    | with_reducible apply foldl_step
    | with_reducible apply foldlFst_step
    | with_reducible intro _
    | with_reducible refine Step.ofFst (by assumption) ?_
    | with_reducible refine StepE.named (by assumption) ?_
    | with_reducible refine StepP.named (by assumption) ?_
    | split
    | dsimp only

theorem State.restoreFinish_step {G : Nat} {s0 s : State} {x1} (h : Step G s0 s)
    (hG : sub 85591089622240442 G = true) : Step G s0 (State.restoreFinish s x1) := by
  unfold State.restoreFinish
  try dsimp only
  repeat' first
    | with_reducible assumption
    | ((with_reducible refine sub_trans ?_ hG); exact rfl)
    | with_reducible apply State.rebuiltReport_step
    | with_reducible apply State.lostDomainsOff_step
    | with_reducible apply State.clearPanel_step
    | with_reducible apply State.epochStep_step
    | with_reducible apply State.emcyEvent_step
    | with_reducible apply State.fire_step
    | with_reducible apply State.bump64_step
    | with_reducible apply State.putCell_step
    | with_reducible apply each_step
    | ((with_reducible refine Step.put (F := 85591089622240442) ?_ hG ?_ ?_); rotate_left; (fail_if_success (with_reducible exact Same.refl _ _)); exact rfl; (first | with_reducible exact State.Inv.congr rfl rfl rfl rfl rfl rfl rfl id id id | exact fun v => ⟨v.1, rebuilt_mode _ _ _, v.3, v.4, v.5, v.6, v.7⟩))
    | with_reducible refine Step.ite (fun _ => ?_) (fun _ => ?_)
    | with_reducible apply foldl_step
    | with_reducible apply foldlFst_step
    | with_reducible intro _
    | with_reducible refine Step.ofFst (by assumption) ?_
    | with_reducible refine StepE.named (by assumption) ?_
    | with_reducible refine StepP.named (by assumption) ?_
    | split
    | dsimp only

theorem State.restoreApply_step {G : Nat} {s0 s : State} (h : Step G s0 s)
    (hG : sub 85591089622240442 G = true) : Step G s0 (State.restoreApply s) := by
  unfold State.restoreApply
  try dsimp only
  repeat' first
    | with_reducible assumption
    | ((with_reducible refine sub_trans ?_ hG); exact rfl)
    | with_reducible apply State.restoreFinish_step
    | with_reducible apply State.restoreBegin_step
    | with_reducible refine Step.ite (fun _ => ?_) (fun _ => ?_)
    | with_reducible apply foldl_step
    | with_reducible apply foldlFst_step
    | with_reducible intro _
    | with_reducible refine Step.ofFst (by assumption) ?_
    | with_reducible refine StepE.named (by assumption) ?_
    | with_reducible refine StepP.named (by assumption) ?_
    | split
    | dsimp only

theorem State.atOnce_step {G : Nat} {s0 s : State} (h : Step G s0 s)
    (hG : sub 85591089622240442 G = true) : Step G s0 (State.atOnce s) := by
  unfold State.atOnce
  try dsimp only
  repeat' first
    | with_reducible assumption
    | ((with_reducible refine sub_trans ?_ hG); exact rfl)
    | with_reducible apply State.restoreApply_step
    | with_reducible apply State.lanesApply_step
    | with_reducible refine Step.ite (fun _ => ?_) (fun _ => ?_)
    | with_reducible apply foldl_step
    | with_reducible apply foldlFst_step
    | with_reducible intro _
    | with_reducible refine Step.ofFst (by assumption) ?_
    | with_reducible refine StepE.named (by assumption) ?_
    | with_reducible refine StepP.named (by assumption) ?_
    | split
    | dsimp only

theorem State.boundaryWork_step {G : Nat} {s0 s : State}  (h : Step G s0 s)
    (hG : sub 85591098212175034 G = true) : Step G s0 (State.boundaryWork s) := by
  unfold State.boundaryWork
  try dsimp only
  repeat' first
    | with_reducible assumption
    | ((with_reducible refine sub_trans ?_ hG); exact rfl)
    | with_reducible apply State.lanesApply_step
    | with_reducible apply State.leasesApply_step
    | with_reducible apply State.restoreApply_step
    | with_reducible apply State.retimesApply_step
    | with_reducible apply State.clocksApply_step

theorem State.localBoundary_step {G : Nat} {s0 s : State} {x1} (h : Step G s0 s)
    (hG : sub 85591098212175038 G = true) : Step G s0 (State.localBoundary s x1) := by
  unfold State.localBoundary
  try dsimp only
  repeat' first
    | with_reducible assumption
    | ((with_reducible refine sub_trans ?_ hG); exact rfl)
    | with_reducible apply State.boundaryWork_step
    | ((with_reducible refine Step.put (F := 85591098212175038) ?_ hG ?_ ?_); rotate_left; (fail_if_success (with_reducible exact Same.refl _ _)); exact rfl; (first | with_reducible exact State.Inv.congr rfl rfl rfl rfl rfl rfl rfl id id id))
    | with_reducible refine Step.ite (fun _ => ?_) (fun _ => ?_)
    | with_reducible apply foldl_step
    | with_reducible apply foldlFst_step
    | with_reducible intro _
    | with_reducible refine Step.ofFst (by assumption) ?_
    | with_reducible refine StepE.named (by assumption) ?_
    | with_reducible refine StepP.named (by assumption) ?_
    | split
    | dsimp only

theorem execLineBoundary_step {G : Nat} {s0 s : State}  (h : Step G s0 s)
    (hG : sub 85591100359658687 G = true) : StepO G s0 (execLineBoundary s) := by
  unfold execLineBoundary
  try dsimp only
  repeat' first
    | with_reducible assumption
    | ((with_reducible refine sub_trans ?_ hG); exact rfl)
    | with_reducible apply whenSettled_step
    | with_reducible apply State.advanceTo_step
    | with_reducible apply State.localBoundary_step
    | ((with_reducible refine Step.put (F := 85591100359658687) ?_ hG ?_ ?_); rotate_left; (fail_if_success (with_reducible exact Same.refl _ _)); exact rfl; (first | with_reducible exact State.Inv.congr rfl rfl rfl rfl rfl rfl rfl id id id))
    | with_reducible refine Step.ite (fun _ => ?_) (fun _ => ?_)

end Sys2Proof.Machine
end

