-- ==== Sys2Proof/Laws/KeepLinks.lean ====
section
/-! SUPPORT. Every state function of the beat unit, hosts, the grid engine, ports and ORA:
the fields that it may change, and that it keeps the invariant. -/

-- One proof at a time, as in Keep.lean.
set_option Elab.async false
-- Every proof here tries the same few tactics in the same order, and not each of them meets a goal.
set_option linter.unusedTactic false
set_option linter.unreachableTactic false

namespace Sys2Proof.Machine

/-! ### BeatUnit -/

theorem State.beatCount_step {G : Nat} {s0 s : State} {x1} (h : Step G s0 s)
    (hG : sub 4194304 G = true) : Step G s0 (State.beatCount s x1) := by
  unfold State.beatCount
  try dsimp only
  repeat' first
    | with_reducible assumption
    | with_reducible apply State.bump32_step

theorem State.suspendAll_step {G : Nat} {s0 s : State} {x1} (h : Step G s0 s)
    (hG : sub 72080289657801864 G = true) : Step G s0 (State.suspendAll s x1) := by
  unfold State.suspendAll
  try dsimp only
  repeat' first
    | with_reducible assumption
    | ((with_reducible refine sub_trans ?_ hG); exact rfl)
    | with_reducible apply State.frameDone_step
    | with_reducible apply each_step
    | ((with_reducible refine Step.put (F := 72080289657801864) ?_ hG ?_ ?_); rotate_left; (fail_if_success (with_reducible exact Same.refl _ _)); exact rfl; (first | with_reducible exact State.Inv.congr rfl rfl rfl rfl rfl rfl rfl id id id | exact State.Inv.congr rfl rfl rfl rfl rfl rfl rfl (fun h => Tab.rises_set h _ _) id id | exact State.Inv.congr rfl rfl rfl rfl rfl rfl rfl (fun h => Tab.rises_erase h _) id id | exact State.Inv.congr rfl rfl rfl rfl rfl rfl rfl (fun h => Tab.rises_mapVals h _) id id | exact State.Inv.congr rfl rfl rfl rfl rfl rfl rfl (fun h => Tab.rises_keep h _) id id | exact State.Inv.congr rfl rfl rfl rfl rfl rfl rfl (fun _ => Tab.rises_empty) id id | exact State.Inv.congr rfl rfl rfl rfl rfl rfl rfl id (fun h => Tab.rises_set h _ _) id | exact State.Inv.congr rfl rfl rfl rfl rfl rfl rfl id (fun h => Tab.rises_erase h _) id | exact State.Inv.congr rfl rfl rfl rfl rfl rfl rfl id (fun h => Tab.rises_mapVals h _) id | exact State.Inv.congr rfl rfl rfl rfl rfl rfl rfl id (fun h => Tab.rises_keep h _) id | exact State.Inv.congr rfl rfl rfl rfl rfl rfl rfl id (fun _ => Tab.rises_empty) id | exact State.Inv.congr rfl rfl rfl rfl rfl rfl rfl (fun _ => Tab.rises_empty) (fun _ => Tab.rises_empty) id))
    | with_reducible refine Step.ite (fun _ => ?_) (fun _ => ?_)
    | with_reducible apply foldl_step
    | with_reducible apply foldlFst_step
    | with_reducible intro _
    | with_reducible refine Step.ofFst (by assumption) ?_
    | with_reducible refine StepE.named (by assumption) ?_
    | with_reducible refine StepP.named (by assumption) ?_
    | split
    | dsimp only

theorem State.limitReached_step {G : Nat} {s0 s : State}  (h : Step G s0 s)
    (hG : sub 72080290739932300 G = true) : Step G s0 (State.limitReached s) := by
  unfold State.limitReached
  try dsimp only
  repeat' first
    | with_reducible assumption
    | ((with_reducible refine sub_trans ?_ hG); exact rfl)
    | with_reducible apply State.suspendAll_step
    | with_reducible apply State.fire_step
    | with_reducible apply State.beatCount_step
    | with_reducible apply State.emcy_step
    | ((with_reducible refine Step.put (F := 72080290739932300) ?_ hG ?_ ?_); rotate_left; (fail_if_success (with_reducible exact Same.refl _ _)); exact rfl; (first | with_reducible exact State.Inv.congr rfl rfl rfl rfl rfl rfl rfl id id id))
    | with_reducible refine Step.ite (fun _ => ?_) (fun _ => ?_)
    | with_reducible apply foldl_step
    | with_reducible apply foldlFst_step
    | with_reducible intro _
    | with_reducible refine Step.ofFst (by assumption) ?_
    | with_reducible refine StepE.named (by assumption) ?_
    | with_reducible refine StepP.named (by assumption) ?_
    | split
    | dsimp only

theorem State.polarityReport_step {G : Nat} {s0 s : State} {x1} (h : Step G s0 s)
    (hG : sub 2092957696 G = true) : Step G s0 (State.polarityReport s x1) := by
  unfold State.polarityReport
  try dsimp only
  repeat' first
    | with_reducible assumption
    | ((with_reducible refine sub_trans ?_ hG); exact rfl)
    | with_reducible apply State.beatCount_step
    | with_reducible apply State.emcy_step
    | with_reducible apply State.fire_step
    | with_reducible refine Step.ite (fun _ => ?_) (fun _ => ?_)

theorem boundariesAtOnce_step {G : Nat} {s0 s : State} {x1} {x2} (h : Step G s0 s)
    (hG : sub 85591098212175038 G = true) : Step G s0 (boundariesAtOnce x1 x2 s) := by
  induction x2 generalizing s  with
  | zero =>
    unfold boundariesAtOnce
    try dsimp only
    repeat' first
      | with_reducible assumption
  | succ n ih =>
    unfold boundariesAtOnce
    try dsimp only
    repeat' first
      | with_reducible apply ih
      | with_reducible assumption
      | with_reducible apply State.localBoundary_step

theorem State.lockOn_step {G : Nat} {s0 s : State} {x1} {x2} {x3} (h : Step G s0 s)
    (hG : sub 85591098212175038 G = true) : Step G s0 (State.lockOn s x1 x2 x3) := by
  unfold State.lockOn
  try dsimp only
  repeat' first
    | with_reducible assumption
    | ((with_reducible refine sub_trans ?_ hG); exact rfl)
    | with_reducible apply boundariesAtOnce_step
    | with_reducible apply State.polarityReport_step
    | with_reducible apply State.beatCount_step
    | with_reducible apply State.demandCheck_step
    | with_reducible apply State.rebudget_step
    | with_reducible apply State.emcy_step
    | with_reducible apply State.fire_step
    | ((with_reducible refine Step.put (F := 85591098212175038) ?_ hG ?_ ?_); rotate_left; (fail_if_success (with_reducible exact Same.refl _ _)); exact rfl; (first | with_reducible exact State.Inv.congr rfl rfl rfl rfl rfl rfl rfl id id id))
    | with_reducible refine Step.ite (fun _ => ?_) (fun _ => ?_)
    | with_reducible apply foldl_step
    | with_reducible apply foldlFst_step
    | with_reducible intro _
    | with_reducible refine Step.ofFst (by assumption) ?_
    | with_reducible refine StepE.named (by assumption) ?_
    | with_reducible refine StepP.named (by assumption) ?_
    | split
    | dsimp only

theorem State.searchCandidate_step {G : Nat} {s0 s : State} {x1} (h : Step G s0 s)
    (hG : sub 85591098212175038 G = true) : Step G s0 (State.searchCandidate s x1) := by
  unfold State.searchCandidate
  try dsimp only
  repeat' first
    | with_reducible assumption
    | ((with_reducible refine sub_trans ?_ hG); exact rfl)
    | with_reducible apply State.beatCount_step
    | with_reducible apply State.lockOn_step
    | ((with_reducible refine Step.put (F := 85591098212175038) ?_ hG ?_ ?_); rotate_left; (fail_if_success (with_reducible exact Same.refl _ _)); exact rfl; (first | with_reducible exact State.Inv.congr rfl rfl rfl rfl rfl rfl rfl id id id))
    | with_reducible refine Step.ite (fun _ => ?_) (fun _ => ?_)
    | with_reducible apply foldl_step
    | with_reducible apply foldlFst_step
    | with_reducible intro _
    | with_reducible refine Step.ofFst (by assumption) ?_
    | with_reducible refine StepE.named (by assumption) ?_
    | with_reducible refine StepP.named (by assumption) ?_
    | split

theorem State.searchWord_step {G : Nat} {s0 s : State} {x1} {x2} (h : Step G s0 s)
    (hG : sub 85591098212175038 G = true) : Step G s0 (State.searchWord s x1 x2) := by
  unfold State.searchWord
  try dsimp only
  repeat' first
    | with_reducible assumption
    | ((with_reducible refine sub_trans ?_ hG); exact rfl)
    | with_reducible apply State.searchCandidate_step
    | with_reducible apply State.beatCount_step
    | with_reducible apply State.fire_step
    | with_reducible refine Step.ite (fun _ => ?_) (fun _ => ?_)
    | with_reducible apply foldl_step
    | with_reducible apply foldlFst_step
    | with_reducible intro _
    | with_reducible refine Step.ofFst (by assumption) ?_
    | with_reducible refine StepE.named (by assumption) ?_
    | with_reducible refine StepP.named (by assumption) ?_
    | split
    | dsimp only

theorem State.offsetCheck_step {G : Nat} {s0 s : State}  (h : Step G s0 s)
    (hG : sub 4503600634003456 G = true) : Step G s0 (State.offsetCheck s) := by
  unfold State.offsetCheck
  try dsimp only
  repeat' first
    | with_reducible assumption
    | ((with_reducible refine sub_trans ?_ hG); exact rfl)
    | with_reducible apply State.fire_step
    | ((with_reducible refine Step.put (F := 4503600634003456) ?_ hG ?_ ?_); rotate_left; (fail_if_success (with_reducible exact Same.refl _ _)); exact rfl; (first | with_reducible exact State.Inv.congr rfl rfl rfl rfl rfl rfl rfl id id id))
    | with_reducible refine Step.ite (fun _ => ?_) (fun _ => ?_)

theorem State.loseLock_step {G : Nat} {s0 s : State} (h : Step G s0 s)
    (hG : sub 72080290739932300 G = true) : Step G s0 (State.loseLock s) := by
  unfold State.loseLock
  try dsimp only
  repeat' first
    | with_reducible assumption
    | ((with_reducible refine sub_trans ?_ hG); exact rfl)
    | with_reducible apply State.suspendAll_step
    | with_reducible apply State.beatCount_step
    | with_reducible apply State.emcy_step
    | with_reducible apply State.fire_step
    | ((with_reducible refine Step.put (F := 72080290739932300) ?_ hG ?_ ?_); rotate_left; (fail_if_success (with_reducible exact Same.refl _ _)); exact rfl; (first | with_reducible exact State.Inv.congr rfl rfl rfl rfl rfl rfl rfl id id id))
    | with_reducible refine Step.ite (fun _ => ?_) (fun _ => ?_)
    | with_reducible apply foldl_step
    | with_reducible apply foldlFst_step
    | with_reducible intro _
    | with_reducible refine Step.ofFst (by assumption) ?_
    | with_reducible refine StepE.named (by assumption) ?_
    | with_reducible refine StepP.named (by assumption) ?_
    | split
    | dsimp only

theorem State.wordFault_step {G : Nat} {s0 s : State} {x1} (h : Step G s0 s)
    (hG : sub 1010827264 G = true) : Step G s0 (State.wordFault s x1) := by
  unfold State.wordFault
  try dsimp only
  repeat' first
    | with_reducible assumption
    | ((with_reducible refine sub_trans ?_ hG); exact rfl)
    | with_reducible apply State.beatCount_step
    | with_reducible apply State.fire_step
    | with_reducible refine Step.ite (fun _ => ?_) (fun _ => ?_)
    | with_reducible apply foldl_step
    | with_reducible apply foldlFst_step
    | with_reducible intro _
    | with_reducible refine Step.ofFst (by assumption) ?_
    | with_reducible refine StepE.named (by assumption) ?_
    | with_reducible refine StepP.named (by assumption) ?_
    | split
    | dsimp only

theorem State.badWord_step {G : Nat} {s0 s : State} {x1} (h : Step G s0 s)
    (hG : sub 76583890367302796 G = true) : Step G s0 (State.badWord s x1) := by
  unfold State.badWord
  try dsimp only
  repeat' first
    | with_reducible assumption
    | ((with_reducible refine sub_trans ?_ hG); exact rfl)
    | with_reducible apply State.wordFault_step
    | with_reducible apply State.loseLock_step
    | with_reducible apply State.offsetCheck_step
    | with_reducible apply each_step
    | ((with_reducible refine Step.put (F := 76583890367302796) ?_ hG ?_ ?_); rotate_left; (fail_if_success (with_reducible exact Same.refl _ _)); exact rfl; (first | with_reducible exact State.Inv.congr rfl rfl rfl rfl rfl rfl rfl id id id))
    | with_reducible refine Step.ite (fun _ => ?_) (fun _ => ?_)
    | with_reducible apply foldl_step
    | with_reducible apply foldlFst_step
    | with_reducible intro _
    | with_reducible refine Step.ofFst (by assumption) ?_
    | with_reducible refine StepE.named (by assumption) ?_
    | with_reducible refine StepP.named (by assumption) ?_
    | split
    | dsimp only

theorem State.goodWord_step {G : Nat} {s0 s : State} {x1} {x2} (h : Step G s0 s)
    (hG : sub 76583889285368972 G = true) : Step G s0 (State.goodWord s x1 x2) := by
  unfold State.goodWord
  try dsimp only
  repeat' first
    | with_reducible assumption
    | ((with_reducible refine sub_trans ?_ hG); exact rfl)
    | with_reducible apply State.offsetCheck_step
    | with_reducible apply State.demandCheck_step
    | with_reducible apply State.rebudget_step
    | with_reducible apply State.beatCount_step
    | ((with_reducible refine Step.put (F := 76583889285368972) ?_ hG ?_ ?_); rotate_left; (fail_if_success (with_reducible exact Same.refl _ _)); exact rfl; (first | with_reducible exact State.Inv.congr rfl rfl rfl rfl rfl rfl rfl id id id))
    | with_reducible refine Step.ite (fun _ => ?_) (fun _ => ?_)

theorem State.lockedWord_step {G : Nat} {s0 s : State} {x1} {x2} (h : Step G s0 s)
    (hG : sub 76583890367499404 G = true) : Step G s0 (State.lockedWord s x1 x2) := by
  unfold State.lockedWord
  try dsimp only
  repeat' first
    | with_reducible assumption
    | ((with_reducible refine sub_trans ?_ hG); exact rfl)
    | with_reducible apply State.goodWord_step
    | with_reducible apply State.badWord_step
    | ((with_reducible refine Step.put (F := 76583890367499404) ?_ hG ?_ ?_); rotate_left; (fail_if_success (with_reducible exact Same.refl _ _)); exact rfl; (first | with_reducible exact State.Inv.congr rfl rfl rfl rfl rfl rfl rfl id id id))
    | with_reducible refine Step.ite (fun _ => ?_) (fun _ => ?_)
    | with_reducible apply foldl_step
    | with_reducible apply foldlFst_step
    | with_reducible intro _
    | with_reducible refine Step.ofFst (by assumption) ?_
    | with_reducible refine StepE.named (by assumption) ?_
    | with_reducible refine StepP.named (by assumption) ?_
    | split
    | dsimp only

theorem execBeatWordDecide_step {G : Nat} {s0 s : State} {x1} {x2} (h : Step G s0 s)
    (hG : sub 85591100359658687 G = true) : StepO G s0 (execBeatWordDecide x1 x2 s) := by
  unfold execBeatWordDecide
  try dsimp only
  repeat' first
    | with_reducible assumption
    | ((with_reducible refine sub_trans ?_ hG); exact rfl)
    | with_reducible apply State.lockedWord_step
    | with_reducible apply State.advanceTo_step
    | with_reducible apply whenSettled_step
    | with_reducible apply State.searchWord_step
    | with_reducible refine Step.ite (fun _ => ?_) (fun _ => ?_)

theorem execBeatWindowClose_step {G : Nat} {s0 s : State} (h : Step G s0 s)
    (hG : sub 85591091769527485 G = true) : StepO G s0 (execBeatWindowClose s) := by
  unfold execBeatWindowClose
  try dsimp only
  repeat' first
    | with_reducible assumption
    | ((with_reducible refine sub_trans ?_ hG); exact rfl)
    | with_reducible apply State.badWord_step
    | with_reducible apply whenSettled_step
    | with_reducible apply State.advanceTo_step
    | with_reducible refine Step.ite (fun _ => ?_) (fun _ => ?_)
    | with_reducible refine StepO.ite (fun _ => ?_) (fun _ => ?_)
    | with_reducible apply StepO.next
    | with_reducible apply foldl_step
    | with_reducible apply foldlFst_step
    | with_reducible intro _
    | with_reducible refine Step.ofFst (by assumption) ?_
    | with_reducible refine StepE.named (by assumption) ?_
    | with_reducible refine StepP.named (by assumption) ?_
    | split
    | dsimp only

theorem execCarrierAbsent_step {G : Nat} {s0 s : State}  (h : Step G s0 s)
    (hG : sub 1010827268 G = true) : StepO G s0 (execCarrierAbsent s) := by
  unfold execCarrierAbsent
  try dsimp only
  repeat' first
    | with_reducible assumption
    | ((with_reducible refine sub_trans ?_ hG); exact rfl)
    | with_reducible apply State.fire_step
    | with_reducible apply State.beatCount_step
    | with_reducible apply whenDue_step
    | ((with_reducible refine Step.put (F := 1010827268) ?_ hG ?_ ?_); rotate_left; (fail_if_success (with_reducible exact Same.refl _ _)); exact rfl; (first | with_reducible exact State.Inv.congr rfl rfl rfl rfl rfl rfl rfl id id id))
    | with_reducible refine Step.ite (fun _ => ?_) (fun _ => ?_)
    | with_reducible refine StepO.ite (fun _ => ?_) (fun _ => ?_)
    | with_reducible apply StepO.next
    | with_reducible apply foldl_step
    | with_reducible apply foldlFst_step
    | with_reducible intro _
    | with_reducible refine Step.ofFst (by assumption) ?_
    | with_reducible refine StepE.named (by assumption) ?_
    | with_reducible refine StepP.named (by assumption) ?_
    | split
    | dsimp only

theorem execCarrierReturn_step {G : Nat} {s0 s : State}  (h : Step G s0 s)
    (hG : sub 4 G = true) : StepO G s0 (execCarrierReturn s) := by
  unfold execCarrierReturn
  try dsimp only
  repeat' first
    | with_reducible assumption
    | ((with_reducible refine sub_trans ?_ hG); exact rfl)
    | with_reducible apply whenDue_step
    | ((with_reducible refine Step.put (F := 4) ?_ hG ?_ ?_); rotate_left; (fail_if_success (with_reducible exact Same.refl _ _)); exact rfl; (first | with_reducible exact State.Inv.congr rfl rfl rfl rfl rfl rfl rfl id id id))
    | with_reducible refine Step.ite (fun _ => ?_) (fun _ => ?_)
    | with_reducible refine StepO.ite (fun _ => ?_) (fun _ => ?_)
    | with_reducible apply StepO.next
    | with_reducible apply foldl_step
    | with_reducible apply foldlFst_step
    | with_reducible intro _
    | with_reducible refine Step.ofFst (by assumption) ?_
    | with_reducible refine StepE.named (by assumption) ?_
    | with_reducible refine StepP.named (by assumption) ?_
    | split
    | dsimp only

theorem execHoldoverLimit_step {G : Nat} {s0 s : State}  (h : Step G s0 s)
    (hG : sub 81087492142156989 G = true) : StepO G s0 (execHoldoverLimit s) := by
  unfold execHoldoverLimit
  try dsimp only
  repeat' first
    | with_reducible assumption
    | ((with_reducible refine sub_trans ?_ hG); exact rfl)
    | with_reducible apply State.limitReached_step
    | with_reducible apply State.advanceTo_step
    | with_reducible apply whenSettled_step

theorem fxHoldoverLimitWrite_step {G : Nat} {s0 s : State} {x1} (h : Step G s0 s)
    (hG : sub 72080290739932300 G = true) : StepE G s0 (fxHoldoverLimitWrite x1 s) := by
  unfold fxHoldoverLimitWrite
  try dsimp only
  repeat' first
    | with_reducible assumption
    | ((with_reducible refine sub_trans ?_ hG); exact rfl)
    | with_reducible apply State.limitReached_step
    | with_reducible apply State.putCell_step
    | with_reducible refine Step.ite (fun _ => ?_) (fun _ => ?_)
    | with_reducible refine StepE.ite (fun _ => ?_) (fun _ => ?_)
    | with_reducible exact StepE.error
    | with_reducible apply StepE.ok

theorem execHoldoverLimitWrite_step {G : Nat} {s0 s : State} {x1} {x2} (h : Step G s0 s)
    (hG : sub 81087492142156988 G = true) : StepO G s0 (execHoldoverLimitWrite x1 x2 s) := by
  unfold execHoldoverLimitWrite
  try dsimp only
  repeat' first
    | with_reducible assumption
    | ((with_reducible refine sub_trans ?_ hG); exact rfl)
    | with_reducible apply State.odWriteSettled_step
    | with_reducible apply fxHoldoverLimitWrite_step
    | with_reducible refine Step.ite (fun _ => ?_) (fun _ => ?_)
    | with_reducible refine StepO.ite (fun _ => ?_) (fun _ => ?_)
    | with_reducible apply StepO.next
    | with_reducible refine StepE.ite (fun _ => ?_) (fun _ => ?_)
    | with_reducible exact StepE.error
    | with_reducible apply StepE.ok
    | with_reducible apply foldl_step
    | with_reducible apply foldlFst_step
    | with_reducible intro _

/-! ### Host -/

theorem execFunctionLevelReset_step {G : Nat} {s0 s : State} {x1} (h : Step G s0 s)
    (hG : sub 81082394015958192 G = true) : StepO G s0 (execFunctionLevelReset x1 s) := by
  unfold execFunctionLevelReset
  try dsimp only
  repeat' first
    | with_reducible assumption
    | ((with_reducible refine sub_trans ?_ hG); exact rfl)
    | with_reducible apply whenSettled_step
    | with_reducible apply State.fire_step
    | with_reducible apply State.suspect_step
    | with_reducible apply State.setHost_step

theorem State.linkDrop_step {G : Nat} {s0 s : State} {x1} (h : Step G s0 s)
    (hG : sub 5301600304 G = true) : Step G s0 (State.linkDrop s x1) := by
  unfold State.linkDrop
  try dsimp only
  repeat' first
    | with_reducible assumption
    | ((with_reducible refine sub_trans ?_ hG); exact rfl)
    | with_reducible apply State.suspect_step
    | with_reducible apply State.fire_step
    | with_reducible apply State.setHost_step
    | with_reducible refine Step.ite (fun _ => ?_) (fun _ => ?_)

theorem execHostLinkDown_step {G : Nat} {s0 s : State} {x1} (h : Step G s0 s)
    (hG : sub 81082394015958192 G = true) : StepO G s0 (execHostLinkDown x1 s) := by
  unfold execHostLinkDown
  try dsimp only
  repeat' first
    | with_reducible assumption
    | ((with_reducible refine sub_trans ?_ hG); exact rfl)
    | with_reducible apply State.linkDrop_step
    | with_reducible apply whenSettled_step

theorem execHostLinkUp_step {G : Nat} {s0 s : State} {x1} {x2} {x3} (h : Step G s0 s)
    (hG : sub 85585989348361392 G = true) : StepO G s0 (execHostLinkUp x1 x2 x3 s) := by
  unfold execHostLinkUp
  try dsimp only
  repeat' first
    | with_reducible assumption
    | ((with_reducible refine sub_trans ?_ hG); exact rfl)
    | with_reducible apply whenSettled_step
    | with_reducible apply State.clocksFresh_step
    | with_reducible apply State.setHost_step
    | with_reducible refine Step.ite (fun _ => ?_) (fun _ => ?_)
    | with_reducible refine StepO.ite (fun _ => ?_) (fun _ => ?_)
    | with_reducible apply StepO.next
    | with_reducible apply foldl_step
    | with_reducible apply foldlFst_step
    | with_reducible intro _
    | with_reducible refine Step.ofFst (by assumption) ?_
    | with_reducible refine StepE.named (by assumption) ?_
    | with_reducible refine StepP.named (by assumption) ?_
    | split
    | dsimp only

theorem execPcieUncorrectableError_step {G : Nat} {s0 s : State} {x1} (h : Step G s0 s)
    (hG : sub 1006633008 G = true) : StepO G s0 (execPcieUncorrectableError x1 s) := by
  unfold execPcieUncorrectableError
  try dsimp only
  repeat' first
    | with_reducible assumption
    | ((with_reducible refine sub_trans ?_ hG); exact rfl)
    | with_reducible apply State.fire_step
    | with_reducible apply State.setHost_step
    | with_reducible apply whenDue_step

theorem State.send_step {G : Nat} {s0 s : State} {x1} (h : Step G s0 s)
    (hG : sub 72057594037927936 G = true) : Step G s0 (State.send s x1) := by
  unfold State.send
  try dsimp only
  repeat' first
    | with_reducible assumption
    | ((with_reducible refine sub_trans ?_ hG); exact rfl)
    | ((with_reducible refine Step.put (F := 72057594037927936) ?_ hG ?_ ?_); rotate_left; (fail_if_success (with_reducible exact Same.refl _ _)); exact rfl; (first | with_reducible exact State.Inv.congr rfl rfl rfl rfl rfl rfl rfl id id id))
    | with_reducible refine Step.ite (fun _ => ?_) (fun _ => ?_)
    | with_reducible apply foldl_step
    | with_reducible apply foldlFst_step
    | with_reducible intro _
    | with_reducible refine Step.ofFst (by assumption) ?_
    | with_reducible refine StepE.named (by assumption) ?_
    | with_reducible refine StepP.named (by assumption) ?_
    | split
    | dsimp only

theorem execBar2Access_step {G : Nat} {s0 s : State} {x1} {x2} {x3} {x4} (h : Step G s0 s)
    (hG : sub 72075191527407616 G = true) : StepO G s0 (execBar2Access x1 x2 x3 x4 s) := by
  unfold execBar2Access
  try dsimp only
  repeat' first
    | with_reducible assumption
    | ((with_reducible refine sub_trans ?_ hG); exact rfl)
    | with_reducible apply State.send_step
    | with_reducible apply State.suspect_step
    | with_reducible apply State.tierStrike_step
    | with_reducible apply State.tierWrite_step
    | with_reducible apply State.tierRead_step
    | with_reducible apply State.fire_step
    | with_reducible apply each_step
    | with_reducible apply whenDue_step
    | with_reducible refine Step.ite (fun _ => ?_) (fun _ => ?_)
    | with_reducible refine StepO.ite (fun _ => ?_) (fun _ => ?_)
    | with_reducible apply StepO.next
    | with_reducible apply foldl_step
    | with_reducible apply foldlFst_step
    | with_reducible intro _
    | with_reducible refine Step.ofFst (by assumption) ?_
    | with_reducible refine StepE.named (by assumption) ?_
    | with_reducible refine StepP.named (by assumption) ?_
    | split
    | dsimp only

theorem State.aperReject_step {G : Nat} {s0 s : State} {x1} (h : Step G s0 s)
    (hG : sub 72057595044560896 G = true) : Step G s0 (State.aperReject s x1) := by
  unfold State.aperReject
  try dsimp only
  repeat' first
    | with_reducible assumption
    | ((with_reducible refine sub_trans ?_ hG); exact rfl)
    | with_reducible apply State.send_step
    | with_reducible apply State.fire_step

theorem execApertureAccess_step {G : Nat} {s0 s : State} {x1} {x2} {x3} (h : Step G s0 s)
    (hG : sub 216172924858531840 G = true) : StepO G s0 (execApertureAccess x1 x2 x3 s) := by
  unfold execApertureAccess
  try dsimp only
  repeat' first
    | with_reducible assumption
    | ((with_reducible refine sub_trans ?_ hG); exact rfl)
    | with_reducible apply State.aperReject_step
    | with_reducible apply State.send_step
    | with_reducible apply State.extStall_step
    | with_reducible apply State.extWrite_step
    | with_reducible apply State.extReadEffect_step
    | with_reducible apply State.drawBytes_step
    | with_reducible apply State.discard_step
    | with_reducible apply whenDue_step
    | with_reducible refine Step.ite (fun _ => ?_) (fun _ => ?_)
    | with_reducible refine StepO.ite (fun _ => ?_) (fun _ => ?_)
    | with_reducible apply StepO.next
    | with_reducible refine StepX.ite (fun _ => ?_) (fun _ => ?_)
    | with_reducible exact StepX.trap
    | with_reducible apply StepX.done
    | with_reducible apply StepX.stall
    | with_reducible apply StepX.ended
    | with_reducible apply foldl_step
    | with_reducible apply foldlFst_step
    | with_reducible intro _
    | with_reducible refine Step.ofFst (by assumption) ?_
    | with_reducible refine StepE.named (by assumption) ?_
    | with_reducible refine StepP.named (by assumption) ?_
    | split
    | dsimp only

theorem execStampLoRead_step {G : Nat} {s0 s : State} {x1} (h : Step G s0 s)
    (hG : sub 216172782113783856 G = true) : StepO G s0 (execStampLoRead x1 s) := by
  unfold execStampLoRead
  try dsimp only
  repeat' first
    | with_reducible assumption
    | ((with_reducible refine sub_trans ?_ hG); exact rfl)
    | with_reducible apply State.send_step
    | with_reducible apply State.drawBytes_step
    | with_reducible apply State.setHost_step
    | with_reducible apply whenDue_step
    | with_reducible refine Step.ite (fun _ => ?_) (fun _ => ?_)
    | with_reducible refine StepO.ite (fun _ => ?_) (fun _ => ?_)
    | with_reducible apply StepO.next
    | with_reducible apply foldl_step
    | with_reducible apply foldlFst_step
    | with_reducible intro _
    | with_reducible refine Step.ofFst (by assumption) ?_
    | with_reducible refine StepE.named (by assumption) ?_
    | with_reducible refine StepP.named (by assumption) ?_
    | split
    | dsimp only

theorem State.configIgnored_step {G : Nat} {s0 s : State} {x1} (h : Step G s0 s)
    (hG : sub 1010827264 G = true) : Step G s0 (State.configIgnored s x1) := by
  unfold State.configIgnored
  try dsimp only
  repeat' first
    | with_reducible assumption
    | ((with_reducible refine sub_trans ?_ hG); exact rfl)
    | with_reducible apply State.bump64_step
    | with_reducible apply State.fire_step

theorem State.ringWrite_step {G : Nat} {s0 s : State} {x1} {x2} {x3} {x4} {x5} {x6} (h : Step G s0 s) (he : ∀ a0 u, Step G s0 u → Step G s0 (x6 a0 u))
    (hG : sub 1010827264 G = true) : Step G s0 (State.ringWrite s x1 x2 x3 x4 x5 x6) := by
  unfold State.ringWrite
  try dsimp only
  repeat' first
    | with_reducible assumption
    | ((with_reducible refine sub_trans ?_ hG); exact rfl)
    | with_reducible apply State.configIgnored_step
    | with_reducible apply State.putCell_step
    | with_reducible refine Step.ite (fun _ => ?_) (fun _ => ?_)
    | with_reducible apply foldl_step
    | with_reducible apply foldlFst_step
    | with_reducible intro _
    | with_reducible refine Step.ofFst (by assumption) ?_
    | with_reducible refine StepE.named (by assumption) ?_
    | with_reducible refine StepP.named (by assumption) ?_
    | with_reducible apply he
    | split
    | dsimp only

theorem State.droppedReport_step {G : Nat} {s0 s : State} {x1} (h : Step G s0 s)
    (hG : sub 72075187236635824 G = true) : Step G s0 (State.droppedReport s x1) := by
  unfold State.droppedReport
  try dsimp only
  repeat' first
    | with_reducible assumption
    | with_reducible apply State.event_step
    | with_reducible refine Step.ite (fun _ => ?_) (fun _ => ?_)

theorem State.vectorRelease_step {G : Nat} {s0 s : State} {x1} {x2} (h : Step G s0 s)
    (hG : sub 72057594037928960 G = true) : Step G s0 (State.vectorRelease s x1 x2) := by
  unfold State.vectorRelease
  try dsimp only
  repeat' first
    | with_reducible assumption
    | with_reducible apply State.raise_step
    | ((with_reducible refine Step.put (F := 72057594037928960) ?_ hG ?_ ?_); rotate_left; (fail_if_success (with_reducible exact Same.refl _ _)); exact rfl; (first | with_reducible exact State.Inv.congr rfl rfl rfl rfl rfl rfl rfl id id id))
    | with_reducible refine Step.ite (fun _ => ?_) (fun _ => ?_)

theorem execRingConfigWrite_step {G : Nat} {s0 s : State} {x1} {x2} {x3} (h : Step G s0 s)
    (hG : sub 72075187286968048 G = true) : StepO G s0 (execRingConfigWrite x1 x2 x3 s) := by
  unfold execRingConfigWrite
  try dsimp only
  repeat' first
    | with_reducible assumption
    | ((with_reducible refine sub_trans ?_ hG); exact rfl)
    | with_reducible apply State.vectorRelease_step
    | with_reducible apply State.droppedReport_step
    | with_reducible apply State.ringWrite_step
    | with_reducible apply State.setHost_step
    | with_reducible apply whenDue_step
    | ((with_reducible refine Step.put (F := 72075187286968048) ?_ hG ?_ ?_); rotate_left; (fail_if_success (with_reducible exact Same.refl _ _)); exact rfl; (first | with_reducible exact State.Inv.congr rfl rfl rfl rfl rfl rfl rfl id id id))
    | with_reducible refine Step.ite (fun _ => ?_) (fun _ => ?_)
    | with_reducible refine StepO.ite (fun _ => ?_) (fun _ => ?_)
    | with_reducible apply StepO.next
    | with_reducible apply foldl_step
    | with_reducible apply foldlFst_step
    | with_reducible intro _
    | with_reducible refine Step.ofFst (by assumption) ?_
    | with_reducible refine StepE.named (by assumption) ?_
    | with_reducible refine StepP.named (by assumption) ?_
    | split
    | dsimp only

theorem State.foreignDoorbell_step {G : Nat} {s0 s : State} {x1} {x2} {x3} (h : Step G s0 s)
    (hG : sub 72075187236635824 G = true) : Step G s0 (State.foreignDoorbell s x1 x2 x3) := by
  unfold State.foreignDoorbell
  try dsimp only
  repeat' first
    | with_reducible assumption
    | ((with_reducible refine sub_trans ?_ hG); exact rfl)
    | with_reducible apply State.event_step
    | with_reducible apply State.bump64_step
    | with_reducible apply State.fire_step

theorem State.ringError_step {G : Nat} {s0 s : State} {x1} {x2} {x3} (h : Step G s0 s)
    (hG : sub 72075187236635888 G = true) : Step G s0 (State.ringError s x1 x2 x3) := by
  unfold State.ringError
  try dsimp only
  repeat' first
    | with_reducible assumption
    | ((with_reducible refine sub_trans ?_ hG); exact rfl)
    | with_reducible apply State.event_step
    | with_reducible apply State.fire_step
    | with_reducible apply State.bump64_step
    | ((with_reducible refine Step.put (F := 72075187236635888) ?_ hG ?_ ?_); rotate_left; (fail_if_success (with_reducible exact Same.refl _ _)); exact rfl; (first | with_reducible exact State.Inv.congr rfl rfl rfl rfl rfl rfl rfl id id id))
    | with_reducible refine Step.ite (fun _ => ?_) (fun _ => ?_)
    | with_reducible apply foldl_step
    | with_reducible apply foldlFst_step
    | with_reducible intro _
    | with_reducible refine Step.ofFst (by assumption) ?_
    | with_reducible refine StepE.named (by assumption) ?_
    | with_reducible refine StepP.named (by assumption) ?_
    | split
    | dsimp only

theorem execSqDoorbell_step {G : Nat} {s0 s : State} {x1} {x2} {x3} {x4} {x5} (h : Step G s0 s)
    (hG : sub 72075187236635888 G = true) : StepO G s0 (execSqDoorbell x1 x2 x3 x4 x5 s) := by
  unfold execSqDoorbell
  try dsimp only
  repeat' first
    | with_reducible assumption
    | ((with_reducible refine sub_trans ?_ hG); exact rfl)
    | with_reducible apply State.ringError_step
    | with_reducible apply State.foreignDoorbell_step
    | with_reducible apply State.setHost_step
    | with_reducible apply whenDue_step
    | ((with_reducible refine Step.put (F := 72075187236635888) ?_ hG ?_ ?_); rotate_left; (fail_if_success (with_reducible exact Same.refl _ _)); exact rfl; (first | with_reducible exact State.Inv.congr rfl rfl rfl rfl rfl rfl rfl id id id))
    | with_reducible refine Step.ite (fun _ => ?_) (fun _ => ?_)

theorem execCqDoorbell_step {G : Nat} {s0 s : State} {x1} {x2} {x3} {x4} {x5} (h : Step G s0 s)
    (hG : sub 72075187236635824 G = true) : StepO G s0 (execCqDoorbell x1 x2 x3 x4 x5 s) := by
  unfold execCqDoorbell
  try dsimp only
  repeat' first
    | with_reducible assumption
    | ((with_reducible refine sub_trans ?_ hG); exact rfl)
    | with_reducible apply State.foreignDoorbell_step
    | with_reducible apply State.setHost_step
    | with_reducible apply State.bump64_step
    | with_reducible apply State.droppedReport_step
    | with_reducible apply whenDue_step
    | ((with_reducible refine Step.put (F := 72075187236635824) ?_ hG ?_ ?_); rotate_left; (fail_if_success (with_reducible exact Same.refl _ _)); exact rfl; (first | with_reducible exact State.Inv.congr rfl rfl rfl rfl rfl rfl rfl id id id))
    | with_reducible refine Step.ite (fun _ => ?_) (fun _ => ?_)

theorem execDescriptorFetch_step {G : Nat} {s0 s : State} {x1} {x2} (h : Step G s0 s)
    (hG : sub 72075191531609584 G = true) : StepO G s0 (execDescriptorFetch x1 x2 s) := by
  unfold execDescriptorFetch
  try dsimp only
  repeat' first
    | with_reducible assumption
    | ((with_reducible refine sub_trans ?_ hG); exact rfl)
    | with_reducible apply State.ringError_step
    | with_reducible apply State.listEnd_step
    | with_reducible apply State.suspect_step
    | with_reducible apply State.tierRead_step
    | with_reducible apply State.bump64_step
    | with_reducible apply State.count_step
    | with_reducible apply whenDue_step
    | ((with_reducible refine Step.put (F := 72075191531609584) ?_ hG ?_ ?_); rotate_left; (fail_if_success (with_reducible exact Same.refl _ _)); exact rfl; (first | with_reducible exact State.Inv.congr rfl rfl rfl rfl rfl rfl rfl id id id))
    | with_reducible refine Step.ite (fun _ => ?_) (fun _ => ?_)
    | with_reducible refine StepO.ite (fun _ => ?_) (fun _ => ?_)
    | with_reducible apply StepO.next
    | with_reducible apply foldl_step
    | with_reducible apply foldlFst_step
    | with_reducible intro _
    | with_reducible refine Step.ofFst (by assumption) ?_
    | with_reducible refine StepE.named (by assumption) ?_
    | with_reducible refine StepP.named (by assumption) ?_
    | rw [id_eq]
    | split
    | dsimp only

theorem execEntryBegin_step {G : Nat} {s0 s : State} {x1} (h : Step G s0 s)
    (hG : sub 72075208711474304 G = true) : StepO G s0 (execEntryBegin x1 s) := by
  unfold execEntryBegin
  try dsimp only
  repeat' first
    | with_reducible assumption
    | ((with_reducible refine sub_trans ?_ hG); exact rfl)
    | with_reducible apply State.entryRefuse_step
    | with_reducible apply State.tierRead_step
    | with_reducible apply State.suspect_step
    | with_reducible apply whenDue_step
    | ((with_reducible refine Step.put (F := 72075208711474304) ?_ hG ?_ ?_); rotate_left; (fail_if_success (with_reducible exact Same.refl _ _)); exact rfl; (first | with_reducible exact State.Inv.congr rfl rfl rfl rfl rfl rfl rfl id id id))
    | with_reducible refine Step.ite (fun _ => ?_) (fun _ => ?_)
    | with_reducible refine StepO.ite (fun _ => ?_) (fun _ => ?_)
    | with_reducible apply StepO.next
    | with_reducible apply foldl_step
    | with_reducible apply foldlFst_step
    | with_reducible intro _
    | with_reducible refine Step.ofFst (by assumption) ?_
    | with_reducible refine StepE.named (by assumption) ?_
    | with_reducible refine StepP.named (by assumption) ?_
    | split

theorem State.accept_step {G : Nat} {s0 s : State} {x1} {x2} {x3} {x4} {x5} {x6} (h : Step G s0 s) (he : ∀ l e u, Step G s0 u → Step G s0 (x6 l e u))
    (hG : sub 72075204416507008 G = true) : StepO G s0 (State.accept s x1 x2 x3 x4 x5 x6) := by
  unfold State.accept
  try dsimp only
  repeat' first
    | with_reducible assumption
    | ((with_reducible refine sub_trans ?_ hG); exact rfl)
    | with_reducible apply State.entryAccept_step
    | with_reducible apply State.entryRefuse_step
    | with_reducible refine Step.ite (fun _ => ?_) (fun _ => ?_)
    | with_reducible refine StepO.ite (fun _ => ?_) (fun _ => ?_)
    | with_reducible apply StepO.next
    | with_reducible apply foldl_step
    | with_reducible apply foldlFst_step
    | with_reducible intro _
    | with_reducible refine Step.ofFst (by assumption) ?_
    | with_reducible refine StepE.named (by assumption) ?_
    | with_reducible refine StepP.named (by assumption) ?_
    | with_reducible apply he
    | split

theorem execEntryNop_step {G : Nat} {s0 s : State} {x1} {x2} (h : Step G s0 s)
    (hG : sub 72075204416507008 G = true) : StepO G s0 (execEntryNop x1 x2 s) := by
  unfold execEntryNop
  try dsimp only
  repeat' first
    | with_reducible assumption
    | with_reducible apply State.entryDone_step
    | with_reducible apply State.accept_step
    | with_reducible refine Step.ite (fun _ => ?_) (fun _ => ?_)
    | with_reducible refine StepO.ite (fun _ => ?_) (fun _ => ?_)
    | with_reducible apply StepO.next
    | with_reducible apply foldl_step
    | with_reducible apply foldlFst_step
    | with_reducible intro _
    | with_reducible refine Step.ofFst (by assumption) ?_
    | with_reducible refine StepE.named (by assumption) ?_
    | with_reducible refine StepP.named (by assumption) ?_
    | split

theorem fxJobQuery_step {G : Nat} {s0 s : State} {x1} (h : Step G s0 s)
    (hG : sub 4194304 G = true) : StepE G s0 (fxJobQuery x1 s) := by
  unfold fxJobQuery
  try dsimp only
  repeat' first
    | with_reducible assumption
    | with_reducible apply State.putCells_step
    | with_reducible refine Step.ite (fun _ => ?_) (fun _ => ?_)
    | with_reducible refine StepE.ite (fun _ => ?_) (fun _ => ?_)
    | with_reducible exact StepE.error
    | with_reducible apply StepE.ok

theorem execJobQuery_step {G : Nat} {s0 s : State} {x1} {x2} (h : Step G s0 s)
    (hG : sub 4194304 G = true) : StepO G s0 (execJobQuery x1 x2 s) := by
  unfold execJobQuery
  try dsimp only
  repeat' first
    | with_reducible assumption
    | with_reducible apply State.odWrite_step
    | with_reducible apply fxJobQuery_step
    | with_reducible refine Step.ite (fun _ => ?_) (fun _ => ?_)
    | with_reducible refine StepO.ite (fun _ => ?_) (fun _ => ?_)
    | with_reducible apply StepO.next
    | with_reducible refine StepE.ite (fun _ => ?_) (fun _ => ?_)
    | with_reducible exact StepE.error
    | with_reducible apply StepE.ok
    | with_reducible apply foldl_step
    | with_reducible apply foldlFst_step
    | with_reducible intro _

/-! ### Grid -/

theorem State.dmaTake_step {G : Nat} {s0 s : State} {x1} {x2} {x3} {x4} (h : Step G s0 s)
    (hG : sub 17179869184 G = true) : Step G s0 (State.dmaTake s x1 x2 x3 x4) := by
  unfold State.dmaTake
  try dsimp only
  repeat' first
    | with_reducible assumption
    | with_reducible apply each_step
    | ((with_reducible refine Step.put (F := 17179869184) ?_ hG ?_ ?_); rotate_left; (fail_if_success (with_reducible exact Same.refl _ _)); exact rfl; (first | with_reducible exact State.Inv.congr rfl rfl rfl rfl rfl rfl rfl id id id))
    | with_reducible refine Step.ite (fun _ => ?_) (fun _ => ?_)
    | with_reducible apply foldl_step
    | with_reducible apply foldlFst_step
    | with_reducible intro _
    | with_reducible refine Step.ofFst (by assumption) ?_
    | with_reducible refine StepE.named (by assumption) ?_
    | with_reducible refine StepP.named (by assumption) ?_
    | split

theorem State.entryLost_step {G : Nat} {s0 s : State} {x1} {x2} {x3} {x4} (h : Step G s0 s)
    (hG : sub 72075204416507008 G = true) : Step G s0 (State.entryLost s x1 x2 x3 x4) := by
  unfold State.entryLost
  try dsimp only
  repeat' first
    | with_reducible assumption
    | ((with_reducible refine sub_trans ?_ hG); exact rfl)
    | with_reducible apply State.faultEnd_step
    | with_reducible apply State.entryEnd_step
    | with_reducible refine Step.ite (fun _ => ?_) (fun _ => ?_)
    | with_reducible apply foldl_step
    | with_reducible apply foldlFst_step
    | with_reducible intro _
    | with_reducible refine Step.ofFst (by assumption) ?_
    | with_reducible refine StepE.named (by assumption) ?_
    | with_reducible refine StepP.named (by assumption) ?_
    | rw [id_eq]
    | split
    | dsimp only

theorem State.loadLines_step {G : Nat} {s0 s : State} {x1} {x2} {x3} (h : Step G s0 s)
    (hG : sub 142740553728 G = true) : Step G s0 (State.loadLines s x1 x2 x3) := by
  unfold State.loadLines
  try dsimp only
  repeat' first
    | with_reducible assumption
    | ((with_reducible refine sub_trans ?_ hG); exact rfl)
    | with_reducible apply State.storeWrite_step
    | with_reducible apply each_step
    | with_reducible refine Step.ite (fun _ => ?_) (fun _ => ?_)
    | with_reducible apply foldl_step
    | with_reducible apply foldlFst_step
    | with_reducible intro _
    | with_reducible refine Step.ofFst (by assumption) ?_
    | with_reducible refine StepE.named (by assumption) ?_
    | with_reducible refine StepP.named (by assumption) ?_
    | split
    | dsimp only

theorem State.loadTile_step {G : Nat} {s0 s : State} {x1} {x2} {x3} {x4} (h : Step G s0 s)
    (hG : sub 17734927646720 G = true) : Step G s0 (State.loadTile s x1 x2 x3 x4) := by
  unfold State.loadTile
  try dsimp only
  repeat' first
    | with_reducible assumption
    | ((with_reducible refine sub_trans ?_ hG); exact rfl)
    | with_reducible apply State.loadLines_step
    | with_reducible apply State.setTile_step
    | with_reducible apply State.tierRead_step
    | with_reducible refine Step.ite (fun _ => ?_) (fun _ => ?_)
    | with_reducible apply foldl_step
    | with_reducible apply foldlFst_step
    | with_reducible intro _
    | with_reducible refine Step.ofFst (by assumption) ?_
    | with_reducible refine StepE.named (by assumption) ?_
    | with_reducible refine StepP.named (by assumption) ?_
    | split
    | dsimp only

theorem State.loadAll_step {G : Nat} {s0 s : State} {x1} {x2} {x3} {x4} {x5} {x6} (h : Step G s0 s)
    (hG : sub 17734927648768 G = true) : Step G s0 (State.loadAll x1 x2 x3 x4 x5 x6 s) := by
  induction x6 generalizing s  with
  | nil =>
    unfold State.loadAll
    try dsimp only
    repeat' first
      | with_reducible assumption
  | cons y l ih =>
    unfold State.loadAll
    try dsimp only
    repeat' first
      | with_reducible apply ih
      | with_reducible assumption
      | ((with_reducible refine sub_trans ?_ hG); exact rfl)
      | with_reducible apply State.loadTile_step
      | with_reducible apply State.suspect_step
      | with_reducible apply State.entryMap_step
      | with_reducible apply State.tierRead_step
      | with_reducible refine Step.ite (fun _ => ?_) (fun _ => ?_)

theorem execPload_step {G : Nat} {s0 s : State} {x1} {x2} (h : Step G s0 s)
    (hG : sub 72075346150435968 G = true) : StepO G s0 (execPload x1 x2 s) := by
  unfold execPload
  try dsimp only
  repeat' first
    | with_reducible assumption
    | ((with_reducible refine sub_trans ?_ hG); exact rfl)
    | with_reducible apply State.loadAll_step
    | with_reducible apply State.entryLost_step
    | with_reducible apply State.entryAccept_step
    | with_reducible apply State.entryRefuse_step
    | with_reducible apply State.fire_step
    | with_reducible apply whenDue_step
    | ((with_reducible refine Step.put (F := 72075346150435968) ?_ hG ?_ ?_); rotate_left; (fail_if_success (with_reducible exact Same.refl _ _)); exact rfl; (first | with_reducible exact State.Inv.congr rfl rfl rfl rfl rfl rfl rfl id id id))
    | with_reducible refine Step.ite (fun _ => ?_) (fun _ => ?_)
    | with_reducible refine StepO.ite (fun _ => ?_) (fun _ => ?_)
    | with_reducible apply StepO.next
    | with_reducible apply foldl_step
    | with_reducible apply foldlFst_step
    | with_reducible intro _
    | with_reducible refine Step.ofFst (by assumption) ?_
    | with_reducible refine StepE.named (by assumption) ?_
    | with_reducible refine StepP.named (by assumption) ?_
    | split
    | dsimp only

theorem State.entryFinish_step {G : Nat} {s0 s : State} {x1} {x2} {x3} {x4} {x5} {x6} (h : Step G s0 s)
    (hG : sub 72075204416507008 G = true) : Step G s0 (State.entryFinish s x1 x2 x3 x4 x5 x6) := by
  unfold State.entryFinish
  try dsimp only
  repeat' first
    | with_reducible assumption
    | ((with_reducible refine sub_trans ?_ hG); exact rfl)
    | with_reducible apply State.faultEnd_step
    | with_reducible apply State.entryDone_step
    | with_reducible refine Step.ite (fun _ => ?_) (fun _ => ?_)
    | with_reducible apply foldl_step
    | with_reducible apply foldlFst_step
    | with_reducible intro _
    | with_reducible refine Step.ofFst (by assumption) ?_
    | with_reducible refine StepE.named (by assumption) ?_
    | with_reducible refine StepP.named (by assumption) ?_
    | rw [id_eq]
    | split
    | dsimp only

theorem execPloadDone_step {G : Nat} {s0 s : State} {x1} {x2} (h : Step G s0 s)
    (hG : sub 72075204416507008 G = true) : StepO G s0 (execPloadDone x1 x2 s) := by
  unfold execPloadDone
  try dsimp only
  repeat' first
    | with_reducible assumption
    | with_reducible apply State.entryFinish_step
    | with_reducible refine Step.ite (fun _ => ?_) (fun _ => ?_)
    | with_reducible refine StepO.ite (fun _ => ?_) (fun _ => ?_)
    | with_reducible apply StepO.next
    | with_reducible apply foldl_step
    | with_reducible apply foldlFst_step
    | with_reducible intro _
    | with_reducible refine Step.ofFst (by assumption) ?_
    | with_reducible refine StepE.named (by assumption) ?_
    | with_reducible refine StepP.named (by assumption) ?_
    | split

theorem State.startTask_step {G : Nat} {s0 s : State} {x1} {x2} {x3} {x4} {x5} (h : Step G s0 s)
    (hG : sub 137438953472 G = true) : Step G s0 (State.startTask s x1 x2 x3 x4 x5) := by
  unfold State.startTask
  try dsimp only
  repeat' first
    | with_reducible assumption
    | with_reducible apply State.setTile_step

theorem execTstart_step {G : Nat} {s0 s : State} {x1} {x2} (h : Step G s0 s)
    (hG : sub 72075341855460480 G = true) : StepO G s0 (execTstart x1 x2 s) := by
  unfold execTstart
  try dsimp only
  repeat' first
    | with_reducible assumption
    | ((with_reducible refine sub_trans ?_ hG); exact rfl)
    | with_reducible apply State.entryMap_step
    | with_reducible apply State.entryAccept_step
    | with_reducible apply State.entryLost_step
    | with_reducible apply State.entryRefuse_step
    | with_reducible apply State.startTask_step
    | with_reducible apply State.entryDone_step
    | with_reducible apply whenDue_step
    | with_reducible apply each_step
    | with_reducible refine Step.ite (fun _ => ?_) (fun _ => ?_)
    | with_reducible refine StepO.ite (fun _ => ?_) (fun _ => ?_)
    | with_reducible apply StepO.next
    | with_reducible apply foldl_step
    | with_reducible apply foldlFst_step
    | with_reducible intro _
    | with_reducible refine Step.ofFst (by assumption) ?_
    | with_reducible refine StepE.named (by assumption) ?_
    | with_reducible refine StepP.named (by assumption) ?_
    | split

theorem State.reload_step {G : Nat} {s0 s : State} {x1} {x2} (h : Step G s0 s)
    (hG : sub 17734927646720 G = true) : Step G s0 (State.reload s x1 x2) := by
  unfold State.reload
  try dsimp only
  repeat' first
    | with_reducible assumption
    | ((with_reducible refine sub_trans ?_ hG); exact rfl)
    | with_reducible apply State.suspect_step
    | with_reducible apply State.loadTile_step
    | with_reducible apply State.tierRead_step
    | with_reducible refine Step.ite (fun _ => ?_) (fun _ => ?_)
    | with_reducible apply foldl_step
    | with_reducible apply foldlFst_step
    | with_reducible intro _
    | with_reducible refine Step.ofFst (by assumption) ?_
    | with_reducible refine StepE.named (by assumption) ?_
    | with_reducible refine StepP.named (by assumption) ?_
    | split

theorem State.restoreTile_step {G : Nat} {s0 s : State} {x1} (h : Step G s0 s)
    (hG : sub 17734927646720 G = true) : Step G s0 (State.restoreTile s x1) := by
  unfold State.restoreTile
  try dsimp only
  repeat' first
    | with_reducible assumption
    | ((with_reducible refine sub_trans ?_ hG); exact rfl)
    | with_reducible apply State.reload_step
    | with_reducible apply State.startTask_step
    | with_reducible apply State.setTile_step
    | with_reducible refine Step.ite (fun _ => ?_) (fun _ => ?_)
    | with_reducible apply foldl_step
    | with_reducible apply foldlFst_step
    | with_reducible intro _
    | with_reducible refine Step.ofFst (by assumption) ?_
    | with_reducible refine StepE.named (by assumption) ?_
    | with_reducible refine StepP.named (by assumption) ?_
    | split

theorem State.copyReadEffect_step {G : Nat} {s0 s : State} {x1} {x2} (h : Step G s0 s)
    (hG : sub 17734931841024 G = true) : Step G s0 (State.copyReadEffect s x1 x2) := by
  unfold State.copyReadEffect
  try dsimp only
  repeat' first
    | with_reducible assumption
    | ((with_reducible refine sub_trans ?_ hG); exact rfl)
    | with_reducible apply State.tierRead_step
    | with_reducible apply State.extReadEffect_step
    | with_reducible refine Step.ite (fun _ => ?_) (fun _ => ?_)
    | with_reducible apply foldl_step
    | with_reducible apply foldlFst_step
    | with_reducible intro _
    | with_reducible refine Step.ofFst (by assumption) ?_
    | with_reducible refine StepE.named (by assumption) ?_
    | with_reducible refine StepP.named (by assumption) ?_
    | split

theorem State.copyWrite_step {G : Nat} {s0 s : State} {x1} {x2} (h : Step G s0 s)
    (hG : sub 17734928433152 G = true) : Step G s0 (State.copyWrite s x1 x2) := by
  unfold State.copyWrite
  try dsimp only
  repeat' first
    | with_reducible assumption
    | ((with_reducible refine sub_trans ?_ hG); exact rfl)
    | with_reducible apply State.extWrite_step
    | with_reducible apply State.tierWrite_step
    | with_reducible refine Step.ite (fun _ => ?_) (fun _ => ?_)
    | with_reducible apply foldl_step
    | with_reducible apply foldlFst_step
    | with_reducible intro _
    | with_reducible refine Step.ofFst (by assumption) ?_
    | with_reducible refine StepE.named (by assumption) ?_
    | with_reducible refine StepP.named (by assumption) ?_
    | split

theorem State.copyStall_step {G : Nat} {s0 s : State} {x1} {x2} (h : Step G s0 s)
    (hG : sub 137443147776 G = true) : Step G s0 (State.copyStall s x1 x2) := by
  unfold State.copyStall
  try dsimp only
  repeat' first
    | with_reducible assumption
    | ((with_reducible refine sub_trans ?_ hG); exact rfl)
    | with_reducible apply State.extStall_step
    | with_reducible refine Step.ite (fun _ => ?_) (fun _ => ?_)
    | with_reducible refine StepX.ite (fun _ => ?_) (fun _ => ?_)
    | with_reducible exact StepX.trap
    | with_reducible apply StepX.done
    | with_reducible apply StepX.stall
    | with_reducible apply StepX.ended
    | with_reducible apply foldl_step
    | with_reducible apply foldlFst_step
    | with_reducible intro _
    | with_reducible refine Step.ofFst (by assumption) ?_
    | with_reducible refine StepE.named (by assumption) ?_
    | with_reducible refine StepP.named (by assumption) ?_
    | split
    | dsimp only

theorem execCopy_step {G : Nat} {s0 s : State} {x1} {x2} {x3} (h : Step G s0 s)
    (hG : sub 216190534226283648 G = true) : StepO G s0 (execCopy x1 x2 x3 s) := by
  unfold execCopy
  try dsimp only
  repeat' first
    | with_reducible assumption
    | ((with_reducible refine sub_trans ?_ hG); exact rfl)
    | with_reducible apply State.copyStall_step
    | with_reducible apply State.copyWrite_step
    | with_reducible apply State.copyReadEffect_step
    | with_reducible apply State.entryLost_step
    | with_reducible apply State.dmaTake_step
    | with_reducible apply State.drawBytes_step
    | with_reducible apply State.entryAccept_step
    | with_reducible apply State.entryRefuse_step
    | with_reducible apply State.entryMap_step
    | with_reducible apply State.suspect_step
    | with_reducible apply State.tierStrike_step
    | with_reducible apply whenDue_step
    | with_reducible refine Step.ite (fun _ => ?_) (fun _ => ?_)
    | with_reducible refine StepO.ite (fun _ => ?_) (fun _ => ?_)
    | with_reducible apply StepO.next
    | with_reducible apply foldl_step
    | with_reducible apply foldlFst_step
    | with_reducible intro _
    | with_reducible refine Step.ofFst (by assumption) ?_
    | with_reducible refine StepE.named (by assumption) ?_
    | with_reducible refine StepP.named (by assumption) ?_
    | split
    | dsimp only

theorem execCopyDone_step {G : Nat} {s0 s : State} {x1} {x2} (h : Step G s0 s)
    (hG : sub 72075204416507008 G = true) : StepO G s0 (execCopyDone x1 x2 s) := by
  unfold execCopyDone
  try dsimp only
  repeat' first
    | with_reducible assumption
    | with_reducible apply State.entryFinish_step
    | with_reducible refine Step.ite (fun _ => ?_) (fun _ => ?_)
    | with_reducible refine StepO.ite (fun _ => ?_) (fun _ => ?_)
    | with_reducible apply StepO.next
    | with_reducible apply foldl_step
    | with_reducible apply foldlFst_step
    | with_reducible intro _
    | with_reducible refine Step.ofFst (by assumption) ?_
    | with_reducible refine StepE.named (by assumption) ?_
    | with_reducible refine StepP.named (by assumption) ?_
    | split

theorem execJopen_step {G : Nat} {s0 s : State} {x1} {x2} (h : Step G s0 s)
    (hG : sub 72075213006449792 G = true) : StepO G s0 (execJopen x1 x2 s) := by
  unfold execJopen
  try dsimp only
  repeat' first
    | with_reducible assumption
    | ((with_reducible refine sub_trans ?_ hG); exact rfl)
    | with_reducible apply State.entryAccept_step
    | with_reducible apply State.entryRefuse_step
    | with_reducible apply State.entryDone_step
    | ((with_reducible refine Step.put (F := 72075213006449792) ?_ hG ?_ ?_); rotate_left; (fail_if_success (with_reducible exact Same.refl _ _)); exact rfl; (first | with_reducible exact State.Inv.congr rfl rfl rfl rfl rfl rfl rfl id id id))
    | with_reducible refine Step.ite (fun _ => ?_) (fun _ => ?_)
    | with_reducible refine StepO.ite (fun _ => ?_) (fun _ => ?_)
    | with_reducible apply StepO.next
    | with_reducible apply foldl_step
    | with_reducible apply foldlFst_step
    | with_reducible intro _
    | with_reducible refine Step.ofFst (by assumption) ?_
    | with_reducible refine StepE.named (by assumption) ?_
    | with_reducible refine StepP.named (by assumption) ?_
    | split

theorem execJclose_step {G : Nat} {s0 s : State} {x1} {x2} (h : Step G s0 s)
    (hG : sub 72467326340918408 G = true) : StepO G s0 (execJclose x1 x2 s) := by
  unfold execJclose
  try dsimp only
  repeat' first
    | with_reducible assumption
    | ((with_reducible refine sub_trans ?_ hG); exact rfl)
    | with_reducible apply State.entryAccept_step
    | with_reducible apply State.jobClose_step
    | with_reducible apply State.entryRefuse_step
    | with_reducible apply State.entryDone_step
    | with_reducible refine Step.ite (fun _ => ?_) (fun _ => ?_)
    | with_reducible refine StepO.ite (fun _ => ?_) (fun _ => ?_)
    | with_reducible apply StepO.next
    | with_reducible apply foldl_step
    | with_reducible apply foldlFst_step
    | with_reducible intro _
    | with_reducible refine Step.ofFst (by assumption) ?_
    | with_reducible refine StepE.named (by assumption) ?_
    | with_reducible refine StepP.named (by assumption) ?_
    | split

/-! ### Ports -/

theorem State.setPort_step {G : Nat} {s0 s : State} {x1} {x2} (h : Step G s0 s)
    (hG : sub 562949953421312 G = true) : Step G s0 (State.setPort s x1 x2) := by
  unfold State.setPort
  try dsimp only
  repeat' first
    | with_reducible assumption
    | ((with_reducible refine sub_trans ?_ hG); exact rfl)
    | ((with_reducible refine Step.put (F := 562949953421312) ?_ hG ?_ ?_); rotate_left; (fail_if_success (with_reducible exact Same.refl _ _)); exact rfl; (first | with_reducible exact State.Inv.congr rfl rfl rfl rfl rfl rfl rfl id id id))
    | with_reducible refine Step.ite (fun _ => ?_) (fun _ => ?_)
    | with_reducible apply foldl_step
    | with_reducible apply foldlFst_step
    | with_reducible intro _
    | with_reducible refine Step.ofFst (by assumption) ?_
    | with_reducible refine StepE.named (by assumption) ?_
    | with_reducible refine StepP.named (by assumption) ?_
    | split
    | dsimp only

theorem State.portCount_step {G : Nat} {s0 s : State} {x1} {x2} {x3} (h : Step G s0 s)
    (hG : sub 4194304 G = true) : Step G s0 (State.portCount s x1 x2 x3) := by
  unfold State.portCount
  try dsimp only
  repeat' first
    | with_reducible assumption
    | with_reducible apply State.count_step

theorem State.setNode_step {G : Nat} {s0 s : State} {x1} {x2} (h : Step G s0 s)
    (hG : sub 2251799813685248 G = true) : Step G s0 (State.setNode s x1 x2) := by
  unfold State.setNode
  try dsimp only
  repeat' first
    | with_reducible assumption
    | ((with_reducible refine sub_trans ?_ hG); exact rfl)
    | ((with_reducible refine Step.put (F := 2251799813685248) ?_ hG ?_ ?_); rotate_left; (fail_if_success (with_reducible exact Same.refl _ _)); exact rfl; (first | with_reducible exact State.Inv.congr rfl rfl rfl rfl rfl rfl rfl id id id | exact State.Inv.congr rfl rfl rfl rfl rfl rfl rfl id id (fun h => Tab.rises_set h _ _) | exact State.Inv.congr rfl rfl rfl rfl rfl rfl rfl id id (fun h => Tab.rises_erase h _) | exact State.Inv.congr rfl rfl rfl rfl rfl rfl rfl id id (fun h => Tab.rises_mapVals h _) | exact State.Inv.congr rfl rfl rfl rfl rfl rfl rfl id id (fun h => Tab.rises_keep h _) | exact State.Inv.congr rfl rfl rfl rfl rfl rfl rfl id id (fun _ => Tab.rises_empty)))
    | with_reducible refine Step.ite (fun _ => ?_) (fun _ => ?_)
    | with_reducible apply foldl_step
    | with_reducible apply foldlFst_step
    | with_reducible intro _
    | with_reducible refine Step.ofFst (by assumption) ?_
    | with_reducible refine StepE.named (by assumption) ?_
    | with_reducible refine StepP.named (by assumption) ?_
    | split
    | dsimp only

theorem State.netEvent_step {G : Nat} {s0 s : State} {x1} {x2} {x3} (h : Step G s0 s)
    (hG : sub 72075188318766256 G = true) : Step G s0 (State.netEvent s x1 x2 x3) := by
  unfold State.netEvent
  try dsimp only
  repeat' first
    | with_reducible assumption
    | with_reducible apply State.emcyEvent_step

theorem State.portDown_step {G : Nat} {s0 s : State} {x1} (h : Step G s0 s)
    (hG : sub 74889938085872816 G = true) : Step G s0 (State.portDown s x1) := by
  unfold State.portDown
  try dsimp only
  repeat' first
    | with_reducible assumption
    | ((with_reducible refine sub_trans ?_ hG); exact rfl)
    | with_reducible apply State.fire_step
    | with_reducible apply State.netEvent_step
    | with_reducible apply State.setPort_step
    | with_reducible apply State.portCount_step
    | ((with_reducible refine Step.put (F := 74889938085872816) ?_ hG ?_ ?_); rotate_left; (fail_if_success (with_reducible exact Same.refl _ _)); exact rfl; (first | with_reducible exact State.Inv.congr rfl rfl rfl rfl rfl rfl rfl id id id | exact State.Inv.congr rfl rfl rfl rfl rfl rfl rfl id id (fun h => Tab.rises_set h _ _) | exact State.Inv.congr rfl rfl rfl rfl rfl rfl rfl id id (fun h => Tab.rises_erase h _) | exact State.Inv.congr rfl rfl rfl rfl rfl rfl rfl id id (fun h => Tab.rises_mapVals h _) | exact State.Inv.congr rfl rfl rfl rfl rfl rfl rfl id id (fun h => Tab.rises_keep h _) | exact State.Inv.congr rfl rfl rfl rfl rfl rfl rfl id id (fun _ => Tab.rises_empty)))
    | with_reducible refine Step.ite (fun _ => ?_) (fun _ => ?_)
    | with_reducible apply foldl_step
    | with_reducible apply foldlFst_step
    | with_reducible intro _
    | with_reducible refine Step.ofFst (by assumption) ?_
    | with_reducible refine StepE.named (by assumption) ?_
    | with_reducible refine StepP.named (by assumption) ?_
    | split
    | dsimp only

theorem execPortLinkChange_step {G : Nat} {s0 s : State} {x1} {x2} (h : Step G s0 s)
    (hG : sub 79393537713243312 G = true) : StepO G s0 (execPortLinkChange x1 x2 s) := by
  unfold execPortLinkChange
  try dsimp only
  repeat' first
    | with_reducible assumption
    | ((with_reducible refine sub_trans ?_ hG); exact rfl)
    | with_reducible apply State.setPort_step
    | with_reducible apply State.portDown_step
    | with_reducible apply State.clocksFresh_step
    | with_reducible apply State.netEvent_step
    | with_reducible apply whenDue_step
    | with_reducible refine Step.ite (fun _ => ?_) (fun _ => ?_)

theorem State.portConfig_step {G : Nat} {s0 s : State} {x1} {x2} (h : Step G s0 s)
    (hG : sub 74889938085872816 G = true) : Step G s0 (State.portConfig s x1 x2) := by
  unfold State.portConfig
  try dsimp only
  repeat' first
    | with_reducible assumption
    | ((with_reducible refine sub_trans ?_ hG); exact rfl)
    | with_reducible apply State.putCell_step
    | with_reducible apply State.portDown_step
    | with_reducible refine Step.ite (fun _ => ?_) (fun _ => ?_)

theorem fxPortConfigWrite_step {G : Nat} {s0 s : State} {x1} {x2} (h : Step G s0 s)
    (hG : sub 74889938085872816 G = true) : StepE G s0 (fxPortConfigWrite x1 x2 s) := by
  unfold fxPortConfigWrite
  try dsimp only
  repeat' first
    | with_reducible assumption
    | with_reducible apply State.portConfig_step
    | with_reducible refine Step.ite (fun _ => ?_) (fun _ => ?_)
    | with_reducible refine StepE.ite (fun _ => ?_) (fun _ => ?_)
    | with_reducible exact StepE.error
    | with_reducible apply StepE.ok

theorem execPortConfigWrite_step {G : Nat} {s0 s : State} {x1} {x2} {x3} (h : Step G s0 s)
    (hG : sub 74889938085872816 G = true) : StepO G s0 (execPortConfigWrite x1 x2 x3 s) := by
  unfold execPortConfigWrite
  try dsimp only
  repeat' first
    | with_reducible assumption
    | ((with_reducible refine sub_trans ?_ hG); exact rfl)
    | with_reducible apply State.odWrite_step
    | with_reducible apply fxPortConfigWrite_step
    | with_reducible refine Step.ite (fun _ => ?_) (fun _ => ?_)
    | with_reducible refine StepO.ite (fun _ => ?_) (fun _ => ?_)
    | with_reducible apply StepO.next
    | with_reducible refine StepE.ite (fun _ => ?_) (fun _ => ?_)
    | with_reducible exact StepE.error
    | with_reducible apply StepE.ok
    | with_reducible apply foldl_step
    | with_reducible apply foldlFst_step
    | with_reducible intro _

theorem execMacControlFrame_step {G : Nat} {s0 s : State} {x1} {x2} (h : Step G s0 s)
    (hG : sub 1010827264 G = true) : StepO G s0 (execMacControlFrame x1 x2 s) := by
  unfold execMacControlFrame
  try dsimp only
  repeat' first
    | with_reducible assumption
    | ((with_reducible refine sub_trans ?_ hG); exact rfl)
    | with_reducible apply State.portCount_step
    | with_reducible apply State.fire_step
    | with_reducible apply whenDue_step
    | with_reducible refine Step.ite (fun _ => ?_) (fun _ => ?_)

theorem execReceivedFrameDiscard_step {G : Nat} {s0 s : State} {x1} {x2} (h : Step G s0 s)
    (hG : sub 1010827264 G = true) : StepO G s0 (execReceivedFrameDiscard x1 x2 s) := by
  unfold execReceivedFrameDiscard
  try dsimp only
  repeat' first
    | with_reducible assumption
    | ((with_reducible refine sub_trans ?_ hG); exact rfl)
    | with_reducible apply State.portCount_step
    | with_reducible apply State.fire_step
    | with_reducible apply State.bump64_step
    | with_reducible apply whenDue_step
    | with_reducible refine Step.ite (fun _ => ?_) (fun _ => ?_)
    | with_reducible refine StepO.ite (fun _ => ?_) (fun _ => ?_)
    | with_reducible apply StepO.next
    | with_reducible apply foldl_step
    | with_reducible apply foldlFst_step
    | with_reducible intro _
    | with_reducible refine Step.ofFst (by assumption) ?_
    | with_reducible refine StepE.named (by assumption) ?_
    | with_reducible refine StepP.named (by assumption) ?_
    | split
    | dsimp only

theorem State.learnMove_step {G : Nat} {s0 s : State} {x1} {x2} {x3} (h : Step G s0 s)
    (hG : sub 2251799817879552 G = true) : Step G s0 (State.learnMove s x1 x2 x3) := by
  unfold State.learnMove
  try dsimp only
  repeat' first
    | with_reducible assumption
    | ((with_reducible refine sub_trans ?_ hG); exact rfl)
    | with_reducible apply State.setNode_step
    | with_reducible apply State.bump64_step
    | with_reducible refine Step.ite (fun _ => ?_) (fun _ => ?_)
    | with_reducible apply foldl_step
    | with_reducible apply foldlFst_step
    | with_reducible intro _
    | with_reducible refine Step.ofFst (by assumption) ?_
    | with_reducible refine StepE.named (by assumption) ?_
    | with_reducible refine StepP.named (by assumption) ?_
    | split
    | dsimp only

theorem State.learnConflict_step {G : Nat} {s0 s : State} {x1} {x2} {x3} (h : Step G s0 s)
    (hG : sub 74326988132451504 G = true) : Step G s0 (State.learnConflict s x1 x2 x3) := by
  unfold State.learnConflict
  try dsimp only
  repeat' first
    | with_reducible assumption
    | ((with_reducible refine sub_trans ?_ hG); exact rfl)
    | with_reducible apply State.netEvent_step
    | with_reducible apply State.setNode_step
    | with_reducible apply State.fire_step
    | with_reducible apply State.bump64_step
    | with_reducible refine Step.ite (fun _ => ?_) (fun _ => ?_)
    | with_reducible apply foldl_step
    | with_reducible apply foldlFst_step
    | with_reducible intro _
    | with_reducible refine Step.ofFst (by assumption) ?_
    | with_reducible refine StepE.named (by assumption) ?_
    | with_reducible refine StepP.named (by assumption) ?_
    | split
    | dsimp only

theorem State.learnFirst_step {G : Nat} {s0 s : State} {x1} {x2} {x3} (h : Step G s0 s)
    (hG : sub 74326988132451504 G = true) : Step G s0 (State.learnFirst s x1 x2 x3) := by
  unfold State.learnFirst
  try dsimp only
  repeat' first
    | with_reducible assumption
    | ((with_reducible refine sub_trans ?_ hG); exact rfl)
    | with_reducible apply State.learnConflict_step
    | with_reducible apply State.bump64_step
    | with_reducible apply State.count_step
    | with_reducible refine Step.ite (fun _ => ?_) (fun _ => ?_)
    | with_reducible apply foldl_step
    | with_reducible apply foldlFst_step
    | with_reducible intro _
    | with_reducible refine Step.ofFst (by assumption) ?_
    | with_reducible refine StepE.named (by assumption) ?_
    | with_reducible refine StepP.named (by assumption) ?_
    | split
    | dsimp only

theorem State.learn_step {G : Nat} {s0 s : State} {x1} {x2} (h : Step G s0 s)
    (hG : sub 74326988132451504 G = true) : Step G s0 (State.learn s x1 x2) := by
  unfold State.learn
  try dsimp only
  repeat' first
    | with_reducible assumption
    | ((with_reducible refine sub_trans ?_ hG); exact rfl)
    | with_reducible apply State.learnFirst_step
    | with_reducible apply State.learnConflict_step
    | with_reducible apply State.learnMove_step
    | with_reducible apply State.setNode_step
    | with_reducible apply State.bump64_step
    | with_reducible refine Step.ite (fun _ => ?_) (fun _ => ?_)
    | with_reducible apply foldl_step
    | with_reducible apply foldlFst_step
    | with_reducible intro _
    | with_reducible refine Step.ofFst (by assumption) ?_
    | with_reducible refine StepE.named (by assumption) ?_
    | with_reducible refine StepP.named (by assumption) ?_
    | split
    | dsimp only

theorem execNodeEntryExpiry_step {G : Nat} {s0 s : State} {x1} (h : Step G s0 s)
    (hG : sub 2251799813685249 G = true) : StepO G s0 (execNodeEntryExpiry x1 s) := by
  unfold execNodeEntryExpiry
  try dsimp only
  repeat' first
    | with_reducible assumption
    | ((with_reducible refine sub_trans ?_ hG); exact rfl)
    | with_reducible apply State.advanceTo_step
    | with_reducible apply whenDue_step
    | ((with_reducible refine Step.put (F := 2251799813685249) ?_ hG ?_ ?_); rotate_left; (fail_if_success (with_reducible exact Same.refl _ _)); exact rfl; (first | with_reducible exact State.Inv.congr rfl rfl rfl rfl rfl rfl rfl id id id | exact State.Inv.congr rfl rfl rfl rfl rfl rfl rfl id id (fun h => Tab.rises_set h _ _) | exact State.Inv.congr rfl rfl rfl rfl rfl rfl rfl id id (fun h => Tab.rises_erase h _) | exact State.Inv.congr rfl rfl rfl rfl rfl rfl rfl id id (fun h => Tab.rises_mapVals h _) | exact State.Inv.congr rfl rfl rfl rfl rfl rfl rfl id id (fun h => Tab.rises_keep h _) | exact State.Inv.congr rfl rfl rfl rfl rfl rfl rfl id id (fun _ => Tab.rises_empty)))
    | with_reducible refine Step.ite (fun _ => ?_) (fun _ => ?_)
    | with_reducible refine StepO.ite (fun _ => ?_) (fun _ => ?_)
    | with_reducible apply StepO.next
    | with_reducible apply foldl_step
    | with_reducible apply foldlFst_step
    | with_reducible intro _
    | with_reducible refine Step.ofFst (by assumption) ?_
    | with_reducible refine StepE.named (by assumption) ?_
    | with_reducible refine StepP.named (by assumption) ?_
    | split
    | dsimp only

theorem State.flushNodes_step {G : Nat} {s0 s : State}  (h : Step G s0 s)
    (hG : sub 2251799813685248 G = true) : Step G s0 (State.flushNodes s) := by
  unfold State.flushNodes
  try dsimp only
  repeat' first
    | with_reducible assumption
    | ((with_reducible refine sub_trans ?_ hG); exact rfl)
    | ((with_reducible refine Step.put (F := 2251799813685248) ?_ hG ?_ ?_); rotate_left; (fail_if_success (with_reducible exact Same.refl _ _)); exact rfl; (first | with_reducible exact State.Inv.congr rfl rfl rfl rfl rfl rfl rfl id id id | exact State.Inv.congr rfl rfl rfl rfl rfl rfl rfl id id (fun h => Tab.rises_set h _ _) | exact State.Inv.congr rfl rfl rfl rfl rfl rfl rfl id id (fun h => Tab.rises_erase h _) | exact State.Inv.congr rfl rfl rfl rfl rfl rfl rfl id id (fun h => Tab.rises_mapVals h _) | exact State.Inv.congr rfl rfl rfl rfl rfl rfl rfl id id (fun h => Tab.rises_keep h _) | exact State.Inv.congr rfl rfl rfl rfl rfl rfl rfl id id (fun _ => Tab.rises_empty)))
    | with_reducible refine Step.ite (fun _ => ?_) (fun _ => ?_)
    | with_reducible apply foldl_step
    | with_reducible apply foldlFst_step
    | with_reducible intro _
    | with_reducible refine Step.ofFst (by assumption) ?_
    | with_reducible refine StepE.named (by assumption) ?_
    | with_reducible refine StepP.named (by assumption) ?_
    | split
    | dsimp only

theorem fxNodeTableFlush_step {G : Nat} {s0 s : State} {x1} (h : Step G s0 s)
    (hG : sub 2251799813685248 G = true) : StepE G s0 (fxNodeTableFlush x1 s) := by
  unfold fxNodeTableFlush
  try dsimp only
  repeat' first
    | with_reducible assumption
    | with_reducible apply State.flushNodes_step
    | with_reducible refine Step.ite (fun _ => ?_) (fun _ => ?_)
    | with_reducible refine StepE.ite (fun _ => ?_) (fun _ => ?_)
    | with_reducible exact StepE.error
    | with_reducible apply StepE.ok

theorem execNodeTableFlush_step {G : Nat} {s0 s : State} {x1} {x2} (h : Step G s0 s)
    (hG : sub 2251799817879552 G = true) : StepO G s0 (execNodeTableFlush x1 x2 s) := by
  unfold execNodeTableFlush
  try dsimp only
  repeat' first
    | with_reducible assumption
    | ((with_reducible refine sub_trans ?_ hG); exact rfl)
    | with_reducible apply fxNodeTableFlush_step
    | with_reducible apply State.odWrite_step
    | with_reducible refine Step.ite (fun _ => ?_) (fun _ => ?_)
    | with_reducible refine StepO.ite (fun _ => ?_) (fun _ => ?_)
    | with_reducible apply StepO.next
    | with_reducible refine StepE.ite (fun _ => ?_) (fun _ => ?_)
    | with_reducible exact StepE.error
    | with_reducible apply StepE.ok
    | with_reducible apply foldl_step
    | with_reducible apply foldlFst_step
    | with_reducible intro _

theorem State.staticWrite_step {G : Nat} {s0 s : State} {x1} (h : Step G s0 s)
    (hG : sub 2251799817879552 G = true) : Step G s0 (State.staticWrite s x1) := by
  unfold State.staticWrite
  try dsimp only
  repeat' first
    | with_reducible assumption
    | ((with_reducible refine sub_trans ?_ hG); exact rfl)
    | with_reducible apply State.setNode_step
    | with_reducible apply State.bump64_step
    | with_reducible apply State.putCell_step
    | ((with_reducible refine Step.put (F := 2251799817879552) ?_ hG ?_ ?_); rotate_left; (fail_if_success (with_reducible exact Same.refl _ _)); exact rfl; (first | with_reducible exact State.Inv.congr rfl rfl rfl rfl rfl rfl rfl id id id | exact State.Inv.congr rfl rfl rfl rfl rfl rfl rfl id id (fun h => Tab.rises_set h _ _) | exact State.Inv.congr rfl rfl rfl rfl rfl rfl rfl id id (fun h => Tab.rises_erase h _) | exact State.Inv.congr rfl rfl rfl rfl rfl rfl rfl id id (fun h => Tab.rises_mapVals h _) | exact State.Inv.congr rfl rfl rfl rfl rfl rfl rfl id id (fun h => Tab.rises_keep h _) | exact State.Inv.congr rfl rfl rfl rfl rfl rfl rfl id id (fun _ => Tab.rises_empty)))
    | with_reducible refine Step.ite (fun _ => ?_) (fun _ => ?_)
    | with_reducible apply foldl_step
    | with_reducible apply foldlFst_step
    | with_reducible intro _
    | with_reducible refine Step.ofFst (by assumption) ?_
    | with_reducible refine StepE.named (by assumption) ?_
    | with_reducible refine StepP.named (by assumption) ?_
    | split
    | dsimp only

theorem fxStaticEntryWrite_step {G : Nat} {s0 s : State} {x1} (h : Step G s0 s)
    (hG : sub 2251799817879552 G = true) : StepE G s0 (fxStaticEntryWrite x1 s) := by
  unfold fxStaticEntryWrite
  try dsimp only
  repeat' first
    | with_reducible assumption
    | with_reducible apply State.staticWrite_step
    | with_reducible refine Step.ite (fun _ => ?_) (fun _ => ?_)
    | with_reducible refine StepE.ite (fun _ => ?_) (fun _ => ?_)
    | with_reducible exact StepE.error
    | with_reducible apply StepE.ok

theorem execStaticEntryWrite_step {G : Nat} {s0 s : State} {x1} {x2} (h : Step G s0 s)
    (hG : sub 2251799817879552 G = true) : StepO G s0 (execStaticEntryWrite x1 x2 s) := by
  unfold execStaticEntryWrite
  try dsimp only
  repeat' first
    | with_reducible assumption
    | ((with_reducible refine sub_trans ?_ hG); exact rfl)
    | with_reducible apply State.odWrite_step
    | with_reducible apply fxStaticEntryWrite_step
    | with_reducible refine Step.ite (fun _ => ?_) (fun _ => ?_)
    | with_reducible refine StepO.ite (fun _ => ?_) (fun _ => ?_)
    | with_reducible apply StepO.next
    | with_reducible refine StepE.ite (fun _ => ?_) (fun _ => ?_)
    | with_reducible exact StepE.error
    | with_reducible apply StepE.ok
    | with_reducible apply foldl_step
    | with_reducible apply foldlFst_step
    | with_reducible intro _

theorem fxNodeQuery_step {G : Nat} {s0 s : State} {x1} (h : Step G s0 s)
    (hG : sub 4194304 G = true) : StepE G s0 (fxNodeQuery x1 s) := by
  unfold fxNodeQuery
  try dsimp only
  repeat' first
    | with_reducible assumption
    | with_reducible apply State.putCells_step
    | with_reducible refine Step.ite (fun _ => ?_) (fun _ => ?_)
    | with_reducible refine StepE.ite (fun _ => ?_) (fun _ => ?_)
    | with_reducible exact StepE.error
    | with_reducible apply StepE.ok

theorem execNodeQuery_step {G : Nat} {s0 s : State} {x1} {x2} (h : Step G s0 s)
    (hG : sub 4194304 G = true) : StepO G s0 (execNodeQuery x1 x2 s) := by
  unfold execNodeQuery
  try dsimp only
  repeat' first
    | with_reducible assumption
    | with_reducible apply State.odWrite_step
    | with_reducible apply fxNodeQuery_step
    | with_reducible refine Step.ite (fun _ => ?_) (fun _ => ?_)
    | with_reducible refine StepO.ite (fun _ => ?_) (fun _ => ?_)
    | with_reducible apply StepO.next
    | with_reducible refine StepE.ite (fun _ => ?_) (fun _ => ?_)
    | with_reducible exact StepE.error
    | with_reducible apply StepE.ok
    | with_reducible apply foldl_step
    | with_reducible apply foldlFst_step
    | with_reducible intro _

theorem State.setBucket_step {G : Nat} {s0 s : State} {x1} {x2} {x3} (h : Step G s0 s)
    (hG : sub 1125899906842624 G = true) : Step G s0 (State.setBucket s x1 x2 x3) := by
  unfold State.setBucket
  try dsimp only
  repeat' first
    | with_reducible assumption
    | ((with_reducible refine sub_trans ?_ hG); exact rfl)
    | ((with_reducible refine Step.put (F := 1125899906842624) ?_ hG ?_ ?_); rotate_left; (fail_if_success (with_reducible exact Same.refl _ _)); exact rfl; (first | with_reducible exact State.Inv.congr rfl rfl rfl rfl rfl rfl rfl id id id))
    | with_reducible refine Step.ite (fun _ => ?_) (fun _ => ?_)
    | with_reducible apply foldl_step
    | with_reducible apply foldlFst_step
    | with_reducible intro _
    | with_reducible refine Step.ofFst (by assumption) ?_
    | with_reducible refine StepE.named (by assumption) ?_
    | with_reducible refine StepP.named (by assumption) ?_
    | split
    | dsimp only

theorem State.shaperWrite_step {G : Nat} {s0 s : State} {x1} {x2} {x3} {x4} (h : Step G s0 s)
    (hG : sub 1125899911036928 G = true) : Step G s0 (State.shaperWrite s x1 x2 x3 x4) := by
  unfold State.shaperWrite
  try dsimp only
  repeat' first
    | with_reducible assumption
    | ((with_reducible refine sub_trans ?_ hG); exact rfl)
    | with_reducible apply State.putCell_step
    | with_reducible apply State.setBucket_step

theorem fxShaperRateWrite_step {G : Nat} {s0 s : State} {x1} {x2} {x3} (h : Step G s0 s)
    (hG : sub 1125899911036928 G = true) : StepE G s0 (fxShaperRateWrite x1 x2 x3 s) := by
  unfold fxShaperRateWrite
  try dsimp only
  repeat' first
    | with_reducible assumption
    | with_reducible apply State.shaperWrite_step
    | with_reducible refine Step.ite (fun _ => ?_) (fun _ => ?_)
    | with_reducible refine StepE.ite (fun _ => ?_) (fun _ => ?_)
    | with_reducible exact StepE.error
    | with_reducible apply StepE.ok

theorem execShaperRateWrite_step {G : Nat} {s0 s : State} {x1} {x2} {x3} {x4} (h : Step G s0 s)
    (hG : sub 1125899911036928 G = true) : StepO G s0 (execShaperRateWrite x1 x2 x3 x4 s) := by
  unfold execShaperRateWrite
  try dsimp only
  repeat' first
    | with_reducible assumption
    | ((with_reducible refine sub_trans ?_ hG); exact rfl)
    | with_reducible apply fxShaperRateWrite_step
    | with_reducible apply State.odWrite_step
    | with_reducible refine Step.ite (fun _ => ?_) (fun _ => ?_)
    | with_reducible refine StepO.ite (fun _ => ?_) (fun _ => ?_)
    | with_reducible apply StepO.next
    | with_reducible refine StepE.ite (fun _ => ?_) (fun _ => ?_)
    | with_reducible exact StepE.error
    | with_reducible apply StepE.ok
    | with_reducible apply foldl_step
    | with_reducible apply foldlFst_step
    | with_reducible intro _

theorem fxShaperBurstWrite_step {G : Nat} {s0 s : State} {x1} {x2} {x3} (h : Step G s0 s)
    (hG : sub 1125899911036928 G = true) : StepE G s0 (fxShaperBurstWrite x1 x2 x3 s) := by
  unfold fxShaperBurstWrite
  try dsimp only
  repeat' first
    | with_reducible assumption
    | with_reducible apply State.shaperWrite_step
    | with_reducible refine Step.ite (fun _ => ?_) (fun _ => ?_)
    | with_reducible refine StepE.ite (fun _ => ?_) (fun _ => ?_)
    | with_reducible exact StepE.error
    | with_reducible apply StepE.ok

theorem execShaperBurstWrite_step {G : Nat} {s0 s : State} {x1} {x2} {x3} {x4} (h : Step G s0 s)
    (hG : sub 1125899911036928 G = true) : StepO G s0 (execShaperBurstWrite x1 x2 x3 x4 s) := by
  unfold execShaperBurstWrite
  try dsimp only
  repeat' first
    | with_reducible assumption
    | ((with_reducible refine sub_trans ?_ hG); exact rfl)
    | with_reducible apply State.odWrite_step
    | with_reducible apply fxShaperBurstWrite_step
    | with_reducible refine Step.ite (fun _ => ?_) (fun _ => ?_)
    | with_reducible refine StepO.ite (fun _ => ?_) (fun _ => ?_)
    | with_reducible apply StepO.next
    | with_reducible refine StepE.ite (fun _ => ?_) (fun _ => ?_)
    | with_reducible exact StepE.error
    | with_reducible apply StepE.ok
    | with_reducible apply foldl_step
    | with_reducible apply foldlFst_step
    | with_reducible intro _

theorem State.enqueue_step {G : Nat} {s0 s : State} {x1} {x2} {x3} (h : Step G s0 s)
    (hG : sub 562949953421312 G = true) : Step G s0 (State.enqueue s x1 x2 x3) := by
  unfold State.enqueue
  try dsimp only
  repeat' first
    | with_reducible assumption
    | with_reducible apply State.setPort_step

theorem State.markHeld_step {G : Nat} {s0 s : State} {x1} (h : Step G s0 s)
    (hG : sub 562949957615616 G = true) : Step G s0 (State.markHeld s x1) := by
  unfold State.markHeld
  try dsimp only
  repeat' first
    | with_reducible assumption
    | ((with_reducible refine sub_trans ?_ hG); exact rfl)
    | with_reducible apply State.setPort_step
    | with_reducible apply State.count_step
    | with_reducible apply each_step
    | with_reducible refine Step.ite (fun _ => ?_) (fun _ => ?_)
    | with_reducible apply foldl_step
    | with_reducible apply foldlFst_step
    | with_reducible intro _
    | with_reducible refine Step.ofFst (by assumption) ?_
    | with_reducible refine StepE.named (by assumption) ?_
    | with_reducible refine StepP.named (by assumption) ?_
    | split

theorem State.ethSend_step {G : Nat} {s0 s : State} {x1} {x2} (h : Step G s0 s)
    (hG : sub 72057594037927936 G = true) : Step G s0 (State.ethSend s x1 x2) := by
  unfold State.ethSend
  try dsimp only
  repeat' first
    | with_reducible assumption
    | ((with_reducible refine sub_trans ?_ hG); exact rfl)
    | ((with_reducible refine Step.put (F := 72057594037927936) ?_ hG ?_ ?_); rotate_left; (fail_if_success (with_reducible exact Same.refl _ _)); exact rfl; (first | with_reducible exact State.Inv.congr rfl rfl rfl rfl rfl rfl rfl id id id))
    | with_reducible refine Step.ite (fun _ => ?_) (fun _ => ?_)
    | with_reducible apply foldl_step
    | with_reducible apply foldlFst_step
    | with_reducible intro _
    | with_reducible refine Step.ofFst (by assumption) ?_
    | with_reducible refine StepE.named (by assumption) ?_
    | with_reducible refine StepP.named (by assumption) ?_
    | split
    | dsimp only

theorem State.portTake_step {G : Nat} {s0 s : State} {x1} {x2} {x3} (h : Step G s0 s)
    (hG : sub 562949953421312 G = true) : Step G s0 (State.portTake s x1 x2 x3) := by
  unfold State.portTake
  try dsimp only
  repeat' first
    | with_reducible assumption
    | with_reducible apply State.setPort_step

theorem execPortFrameTransmit_step {G : Nat} {s0 s : State} {x1} (h : Step G s0 s)
    (hG : sub 73746443902386176 G = true) : StepO G s0 (execPortFrameTransmit x1 s) := by
  unfold execPortFrameTransmit
  try dsimp only
  repeat' first
    | with_reducible assumption
    | ((with_reducible refine sub_trans ?_ hG); exact rfl)
    | with_reducible apply State.portTake_step
    | with_reducible apply State.ethSend_step
    | with_reducible apply State.markHeld_step
    | with_reducible apply State.setBucket_step
    | with_reducible apply State.portCount_step
    | with_reducible apply State.count_step
    | with_reducible apply whenDue_step
    | with_reducible refine Step.ite (fun _ => ?_) (fun _ => ?_)
    | with_reducible refine StepO.ite (fun _ => ?_) (fun _ => ?_)
    | with_reducible apply StepO.next
    | with_reducible apply foldl_step
    | with_reducible apply foldlFst_step
    | with_reducible intro _
    | with_reducible refine Step.ofFst (by assumption) ?_
    | with_reducible refine StepE.named (by assumption) ?_
    | with_reducible refine StepP.named (by assumption) ?_
    | split
    | dsimp only

/-! ### Ora -/

theorem State.connMap_step {G : Nat} {s0 s : State} {x1} {x2} (h : Step G s0 s)
    (hG : sub 35184372088832 G = true) : Step G s0 (State.connMap s x1 x2) := by
  unfold State.connMap
  try dsimp only
  repeat' first
    | with_reducible assumption
    | ((with_reducible refine sub_trans ?_ hG); exact rfl)
    | ((with_reducible refine Step.put (F := 35184372088832) ?_ hG ?_ ?_); rotate_left; (fail_if_success (with_reducible exact Same.refl _ _)); exact rfl; (first | with_reducible exact State.Inv.congr rfl rfl rfl rfl rfl rfl rfl id id id))
    | with_reducible refine Step.ite (fun _ => ?_) (fun _ => ?_)
    | with_reducible apply foldl_step
    | with_reducible apply foldlFst_step
    | with_reducible intro _
    | with_reducible refine Step.ofFst (by assumption) ?_
    | with_reducible refine StepE.named (by assumption) ?_
    | with_reducible refine StepP.named (by assumption) ?_
    | split
    | dsimp only

theorem State.sendOra_step {G : Nat} {s0 s : State} {x1} {x2} {x3} (h : Step G s0 s)
    (hG : sub 598134329704448 G = true) : Step G s0 (State.sendOra s x1 x2 x3) := by
  unfold State.sendOra
  try dsimp only
  repeat' first
    | with_reducible assumption
    | ((with_reducible refine sub_trans ?_ hG); exact rfl)
    | with_reducible apply State.bump64_step
    | with_reducible apply State.connMap_step
    | with_reducible apply State.enqueue_step
    | with_reducible refine Step.ite (fun _ => ?_) (fun _ => ?_)
    | with_reducible apply foldl_step
    | with_reducible apply foldlFst_step
    | with_reducible intro _
    | with_reducible refine Step.ofFst (by assumption) ?_
    | with_reducible refine StepE.named (by assumption) ?_
    | with_reducible refine StepP.named (by assumption) ?_
    | split

theorem State.sendAck_step {G : Nat} {s0 s : State} {x1} (h : Step G s0 s)
    (hG : sub 598134329704448 G = true) : Step G s0 (State.sendAck s x1) := by
  unfold State.sendAck
  try dsimp only
  repeat' first
    | with_reducible assumption
    | ((with_reducible refine sub_trans ?_ hG); exact rfl)
    | with_reducible apply State.sendOra_step
    | with_reducible apply State.connMap_step
    | with_reducible refine Step.ite (fun _ => ?_) (fun _ => ?_)
    | with_reducible apply foldl_step
    | with_reducible apply foldlFst_step
    | with_reducible intro _
    | with_reducible refine Step.ofFst (by assumption) ?_
    | with_reducible refine StepE.named (by assumption) ?_
    | with_reducible refine StepP.named (by assumption) ?_
    | split

theorem State.sendNak_step {G : Nat} {s0 s : State} {x1} {x2} {x3} (h : Step G s0 s)
    (hG : sub 598134329704448 G = true) : Step G s0 (State.sendNak s x1 x2 x3) := by
  unfold State.sendNak
  try dsimp only
  repeat' first
    | with_reducible assumption
    | ((with_reducible refine sub_trans ?_ hG); exact rfl)
    | with_reducible apply State.sendOra_step
    | with_reducible apply State.connMap_step
    | with_reducible refine Step.ite (fun _ => ?_) (fun _ => ?_)
    | with_reducible apply foldl_step
    | with_reducible apply foldlFst_step
    | with_reducible intro _
    | with_reducible refine Step.ofFst (by assumption) ?_
    | with_reducible refine StepE.named (by assumption) ?_
    | with_reducible refine StepP.named (by assumption) ?_
    | split

theorem State.sendCredit_step {G : Nat} {s0 s : State} {x1} {x2} (h : Step G s0 s)
    (hG : sub 598134329704448 G = true) : Step G s0 (State.sendCredit s x1 x2) := by
  unfold State.sendCredit
  try dsimp only
  repeat' first
    | with_reducible assumption
    | with_reducible apply State.sendOra_step
    | with_reducible refine Step.ite (fun _ => ?_) (fun _ => ?_)
    | with_reducible apply foldl_step
    | with_reducible apply foldlFst_step
    | with_reducible intro _
    | with_reducible refine Step.ofFst (by assumption) ?_
    | with_reducible refine StepE.named (by assumption) ?_
    | with_reducible refine StepP.named (by assumption) ?_
    | split

theorem State.raiseLimit_step {G : Nat} {s0 s : State} {x1} {x2} (h : Step G s0 s)
    (hG : sub 35184372088832 G = true) : Step G s0 (State.raiseLimit s x1 x2) := by
  unfold State.raiseLimit
  try dsimp only
  repeat' first
    | with_reducible assumption
    | with_reducible apply State.connMap_step

theorem State.ackFor_step {G : Nat} {s0 s : State} {x1} {x2} (h : Step G s0 s)
    (hG : sub 598134329704448 G = true) : Step G s0 (State.ackFor s x1 x2) := by
  unfold State.ackFor
  try dsimp only
  repeat' first
    | with_reducible assumption
    | ((with_reducible refine sub_trans ?_ hG); exact rfl)
    | with_reducible apply State.sendAck_step
    | with_reducible apply State.connMap_step
    | with_reducible refine Step.ite (fun _ => ?_) (fun _ => ?_)
    | with_reducible apply foldl_step
    | with_reducible apply foldlFst_step
    | with_reducible intro _
    | with_reducible refine Step.ofFst (by assumption) ?_
    | with_reducible refine StepE.named (by assumption) ?_
    | with_reducible refine StepP.named (by assumption) ?_
    | split

theorem State.connError_step {G : Nat} {s0 s : State} {x1} {x2} {x3} (h : Step G s0 s)
    (hG : sub 72462232509500592 G = true) : Step G s0 (State.connError s x1 x2 x3) := by
  unfold State.connError
  try dsimp only
  repeat' first
    | with_reducible assumption
    | ((with_reducible refine sub_trans ?_ hG); exact rfl)
    | with_reducible apply State.event_step
    | with_reducible apply State.bump64_step
    | with_reducible apply State.connMap_step
    | with_reducible apply State.connEnd_step
    | with_reducible apply State.fire_step
    | with_reducible refine Step.ite (fun _ => ?_) (fun _ => ?_)
    | with_reducible apply foldl_step
    | with_reducible apply foldlFst_step
    | with_reducible intro _
    | with_reducible refine Step.ofFst (by assumption) ?_
    | with_reducible refine StepE.named (by assumption) ?_
    | with_reducible refine StepP.named (by assumption) ?_
    | split

theorem State.refuse_step {G : Nat} {s0 s : State} {x1} {x2} {x3} {x4} (h : Step G s0 s)
    (hG : sub 598135336337408 G = true) : Step G s0 (State.refuse s x1 x2 x3 x4) := by
  unfold State.refuse
  try dsimp only
  repeat' first
    | with_reducible assumption
    | ((with_reducible refine sub_trans ?_ hG); exact rfl)
    | with_reducible apply State.sendNak_step
    | with_reducible apply State.bump64_step
    | with_reducible apply State.raiseLimit_step
    | with_reducible apply State.fire_step
    | with_reducible apply State.connMap_step
    | with_reducible refine Step.ite (fun _ => ?_) (fun _ => ?_)

theorem State.recvEnd_step {G : Nat} {s0 s : State} {x1} {x2} {x3} (h : Step G s0 s)
    (hG : sub 72462374243421312 G = true) : Step G s0 (State.recvEnd s x1 x2 x3) := by
  unfold State.recvEnd
  try dsimp only
  repeat' first
    | with_reducible assumption
    | ((with_reducible refine sub_trans ?_ hG); exact rfl)
    | with_reducible apply State.connMap_step
    | with_reducible apply State.copyWrite_step
    | with_reducible apply State.ctrUp_step
    | with_reducible apply State.faultEnd_step
    | with_reducible apply State.entryDone_step
    | with_reducible refine Step.ite (fun _ => ?_) (fun _ => ?_)
    | with_reducible apply foldl_step
    | with_reducible apply foldlFst_step
    | with_reducible intro _
    | with_reducible refine Step.ofFst (by assumption) ?_
    | with_reducible refine StepE.named (by assumption) ?_
    | with_reducible refine StepP.named (by assumption) ?_
    | rw [id_eq]
    | split
    | dsimp only

theorem State.recvAdvance_step {G : Nat} {s0 s : State} {x1} {x2} (h : Step G s0 s)
    (hG : sub 72462374243421312 G = true) : Step G s0 (State.recvAdvance x1 x2 s) := by
  induction x2 generalizing s  with
  | zero =>
    unfold State.recvAdvance
    try dsimp only
    repeat' first
      | with_reducible apply ih
      | with_reducible assumption
      | ((with_reducible refine sub_trans ?_ hG); exact rfl)
      | with_reducible apply State.recvEnd_step
      | with_reducible refine Step.ite (fun _ => ?_) (fun _ => ?_)
      | with_reducible apply foldl_step
      | with_reducible apply foldlFst_step
      | with_reducible intro _
      | with_reducible refine Step.ofFst (by assumption) ?_
      | with_reducible refine StepE.named (by assumption) ?_
      | with_reducible refine StepP.named (by assumption) ?_
      | rw [id_eq]
      | split
      | dsimp only
  | succ n ih =>
    unfold State.recvAdvance
    try dsimp only
    repeat' first
      | with_reducible apply ih
      | with_reducible assumption
      | ((with_reducible refine sub_trans ?_ hG); exact rfl)
      | with_reducible apply State.recvEnd_step
      | with_reducible refine Step.ite (fun _ => ?_) (fun _ => ?_)
      | with_reducible apply foldl_step
      | with_reducible apply foldlFst_step
      | with_reducible intro _
      | with_reducible refine Step.ofFst (by assumption) ?_
      | with_reducible refine StepE.named (by assumption) ?_
      | with_reducible refine StepP.named (by assumption) ?_
      | rw [id_eq]
      | split
      | dsimp only

theorem State.recvMap_step {G : Nat} {s0 s : State} {x1} {x2} {x3} (h : Step G s0 s)
    (hG : sub 35184372088832 G = true) : Step G s0 (State.recvMap s x1 x2 x3) := by
  unfold State.recvMap
  try dsimp only
  repeat' first
    | with_reducible assumption
    | with_reducible apply State.connMap_step

theorem State.respond_step {G : Nat} {s0 s : State} {x1} {x2} {x3} {x4} (h : Step G s0 s)
    (hG : sub 615727524216832 G = true) : Step G s0 (State.respond s x1 x2 x3 x4) := by
  unfold State.respond
  try dsimp only
  repeat' first
    | with_reducible assumption
    | ((with_reducible refine sub_trans ?_ hG); exact rfl)
    | with_reducible apply State.sendOra_step
    | with_reducible apply State.connMap_step
    | with_reducible apply State.tierWrite_step
    | with_reducible refine Step.ite (fun _ => ?_) (fun _ => ?_)
    | with_reducible apply foldl_step
    | with_reducible apply foldlFst_step
    | with_reducible intro _
    | with_reducible refine Step.ofFst (by assumption) ?_
    | with_reducible refine StepE.named (by assumption) ?_
    | with_reducible refine StepP.named (by assumption) ?_
    | rw [id_eq]
    | split
    | dsimp only

theorem State.landFrom_step {G : Nat} {s0 s : State} {x1} {x2} {x3} {x4} {x5} {x6} (h : Step G s0 s)
    (hG : sub 138449780736 G = true) : Step G s0 (State.landFrom x1 x2 x3 x4 x5 x6 s).1 := by
  induction x5 generalizing x6 s  with
  | zero =>
    unfold State.landFrom
    try dsimp only
    repeat' first
      | with_reducible apply ih
      | with_reducible assumption
      | ((with_reducible refine sub_trans ?_ hG); exact rfl)
      | with_reducible apply State.landReject_step
      | with_reducible apply State.prioStall_step
      | with_reducible apply State.setTile_step
      | with_reducible refine Step.ite (fun _ => ?_) (fun _ => ?_)
      | with_reducible refine Step.fstIte (fun _ => ?_) (fun _ => ?_)
      | with_reducible apply foldl_step
      | with_reducible apply foldlFst_step
      | with_reducible intro _
      | with_reducible refine Step.ofFst (by assumption) ?_
      | with_reducible refine StepE.named (by assumption) ?_
      | with_reducible refine StepP.named (by assumption) ?_
      | split
      | dsimp only
  | succ n ih =>
    unfold State.landFrom
    try dsimp only
    repeat' first
      | with_reducible apply ih
      | with_reducible assumption
      | ((with_reducible refine sub_trans ?_ hG); exact rfl)
      | with_reducible apply State.landReject_step
      | with_reducible apply State.prioStall_step
      | with_reducible apply State.setTile_step
      | with_reducible refine Step.ite (fun _ => ?_) (fun _ => ?_)
      | with_reducible refine Step.fstIte (fun _ => ?_) (fun _ => ?_)
      | with_reducible apply foldl_step
      | with_reducible apply foldlFst_step
      | with_reducible intro _
      | with_reducible refine Step.ofFst (by assumption) ?_
      | with_reducible refine StepE.named (by assumption) ?_
      | with_reducible refine StepP.named (by assumption) ?_
      | split
      | dsimp only

theorem State.writeTarget_step {G : Nat} {s0 s : State} {x1} {x2} {x3} (h : Step G s0 s)
    (hG : sub 17734932627456 G = true) : Step G s0 (State.writeTarget s x1 x2 x3).1 := by
  unfold State.writeTarget
  try dsimp only
  repeat' first
    | with_reducible assumption
    | ((with_reducible refine sub_trans ?_ hG); exact rfl)
    | with_reducible apply State.landFrom_step
    | with_reducible apply State.extWrite_step
    | with_reducible apply State.tierWrite_step
    | with_reducible refine Step.ite (fun _ => ?_) (fun _ => ?_)
    | with_reducible refine Step.fstIte (fun _ => ?_) (fun _ => ?_)
    | with_reducible refine StepX.ite (fun _ => ?_) (fun _ => ?_)
    | with_reducible exact StepX.trap
    | with_reducible apply StepX.done
    | with_reducible apply StepX.stall
    | with_reducible apply StepX.ended
    | with_reducible apply foldl_step
    | with_reducible apply foldlFst_step
    | with_reducible intro _
    | with_reducible refine Step.ofFst (by assumption) ?_
    | with_reducible refine StepE.named (by assumption) ?_
    | with_reducible refine StepP.named (by assumption) ?_
    | split
    | dsimp only

theorem State.applyOra_step {G : Nat} {s0 s : State} {x1} {x2} {x3} (h : Step G s0 s)
    (hG : sub 73025324196842624 G = true) : Step G s0 (State.applyOra s x1 x2 x3) := by
  unfold State.applyOra
  try dsimp only
  repeat' first
    | with_reducible assumption
    | ((with_reducible refine sub_trans ?_ hG); exact rfl)
    | with_reducible apply State.writeTarget_step
    | with_reducible apply State.respond_step
    | with_reducible apply State.recvMap_step
    | with_reducible apply State.recvAdvance_step
    | with_reducible apply State.raiseLimit_step
    | with_reducible apply State.connMap_step
    | with_reducible apply State.copyWrite_step
    | with_reducible apply State.copyReadEffect_step
    | with_reducible apply State.ctrUp_step
    | with_reducible refine Step.ite (fun _ => ?_) (fun _ => ?_)
    | with_reducible apply foldl_step
    | with_reducible apply foldlFst_step
    | with_reducible intro _
    | with_reducible refine Step.ofFst (by assumption) ?_
    | with_reducible refine StepE.named (by assumption) ?_
    | with_reducible refine StepP.named (by assumption) ?_
    | rw [id_eq]
    | split
    | dsimp only

theorem State.serveEffect_step {G : Nat} {s0 s : State} {x1} {x2} {x3} (h : Step G s0 s)
    (hG : sub 17734931841024 G = true) : Step G s0 (State.serveEffect s x1 x2 x3) := by
  unfold State.serveEffect
  try dsimp only
  repeat' first
    | with_reducible assumption
    | ((with_reducible refine sub_trans ?_ hG); exact rfl)
    | with_reducible apply State.copyReadEffect_step
    | with_reducible apply State.suspect_step
    | with_reducible refine Step.ite (fun _ => ?_) (fun _ => ?_)

theorem State.newRequest_step {G : Nat} {s0 s : State} {x1} {x2} {x3} (h : Step G s0 s)
    (hG : sub 73025324196842624 G = true) : Step G s0 (State.newRequest s x1 x2 x3) := by
  unfold State.newRequest
  try dsimp only
  repeat' first
    | with_reducible assumption
    | ((with_reducible refine sub_trans ?_ hG); exact rfl)
    | with_reducible apply State.serveEffect_step
    | with_reducible apply State.applyOra_step
    | with_reducible apply State.recvMap_step
    | with_reducible apply State.recvAdvance_step
    | with_reducible apply State.refuse_step
    | with_reducible apply State.ackFor_step
    | with_reducible apply State.connMap_step
    | with_reducible apply State.copyStall_step
    | with_reducible apply State.bump64_step
    | with_reducible refine Step.ite (fun _ => ?_) (fun _ => ?_)
    | with_reducible apply foldl_step
    | with_reducible apply foldlFst_step
    | with_reducible intro _
    | with_reducible refine Step.ofFst (by assumption) ?_
    | with_reducible refine StepE.named (by assumption) ?_
    | with_reducible refine StepP.named (by assumption) ?_
    | rw [id_eq]
    | split
    | dsimp only

theorem State.duplicate_step {G : Nat} {s0 s : State} {x1} {x2} {x3} (h : Step G s0 s)
    (hG : sub 615727523430400 G = true) : Step G s0 (State.duplicate s x1 x2 x3) := by
  unfold State.duplicate
  try dsimp only
  repeat' first
    | with_reducible assumption
    | ((with_reducible refine sub_trans ?_ hG); exact rfl)
    | with_reducible apply State.sendOra_step
    | with_reducible apply State.bump64_step
    | with_reducible apply State.tierRead_step
    | with_reducible apply State.sendAck_step
    | with_reducible apply State.refuse_step
    | with_reducible refine Step.ite (fun _ => ?_) (fun _ => ?_)
    | with_reducible apply foldl_step
    | with_reducible apply foldlFst_step
    | with_reducible intro _
    | with_reducible refine Step.ofFst (by assumption) ?_
    | with_reducible refine StepE.named (by assumption) ?_
    | with_reducible refine StepP.named (by assumption) ?_
    | split

theorem State.classify_step {G : Nat} {s0 s : State} {x1} {x2} {x3} (h : Step G s0 s)
    (hG : sub 73025324196842672 G = true) : Step G s0 (State.classify s x1 x2 x3) := by
  unfold State.classify
  try dsimp only
  repeat' first
    | with_reducible assumption
    | ((with_reducible refine sub_trans ?_ hG); exact rfl)
    | with_reducible apply State.newRequest_step
    | with_reducible apply State.duplicate_step
    | with_reducible apply State.bump64_step
    | with_reducible apply State.connError_step
    | with_reducible apply State.refuse_step
    | with_reducible refine Step.ite (fun _ => ?_) (fun _ => ?_)

theorem State.wrCheck_step {G : Nat} {s0 s : State} {x1} (h : Step G s0 s)
    (hG : sub 72462232509500544 G = true) : Step G s0 (State.wrCheck s x1) := by
  unfold State.wrCheck
  try dsimp only
  repeat' first
    | with_reducible assumption
    | ((with_reducible refine sub_trans ?_ hG); exact rfl)
    | with_reducible apply State.connMap_step
    | with_reducible apply State.faultEnd_step
    | with_reducible apply State.wrDone_step
    | with_reducible refine Step.ite (fun _ => ?_) (fun _ => ?_)
    | with_reducible apply foldl_step
    | with_reducible apply foldlFst_step
    | with_reducible intro _
    | with_reducible refine Step.ofFst (by assumption) ?_
    | with_reducible refine StepE.named (by assumption) ?_
    | with_reducible refine StepP.named (by assumption) ?_
    | split

theorem State.psnSettle_step {G : Nat} {s0 s : State} {x1} {x2} {x3} (h : Step G s0 s)
    (hG : sub 72462232509500544 G = true) : Step G s0 (State.psnSettle s x1 x2 x3) := by
  unfold State.psnSettle
  try dsimp only
  repeat' first
    | with_reducible assumption
    | ((with_reducible refine sub_trans ?_ hG); exact rfl)
    | with_reducible apply State.connMap_step
    | with_reducible apply State.wrCheck_step
    | ((with_reducible refine Step.put (F := 72462232509500544) ?_ hG ?_ ?_); rotate_left; (fail_if_success (with_reducible exact Same.refl _ _)); exact rfl; (first | with_reducible exact State.Inv.congr rfl rfl rfl rfl rfl rfl rfl id id id))
    | with_reducible refine Step.ite (fun _ => ?_) (fun _ => ?_)
    | with_reducible apply foldl_step
    | with_reducible apply foldlFst_step
    | with_reducible intro _
    | with_reducible refine Step.ofFst (by assumption) ?_
    | with_reducible refine StepE.named (by assumption) ?_
    | with_reducible refine StepP.named (by assumption) ?_
    | split

theorem State.acknowledge_step {G : Nat} {s0 s : State} {x1} {x2} (h : Step G s0 s)
    (hG : sub 72462232509500544 G = true) : Step G s0 (State.acknowledge s x1 x2) := by
  unfold State.acknowledge
  try dsimp only
  repeat' first
    | with_reducible assumption
    | ((with_reducible refine sub_trans ?_ hG); exact rfl)
    | with_reducible apply State.psnSettle_step
    | with_reducible apply State.fire_step
    | with_reducible apply State.bump64_step
    | with_reducible apply each_step
    | with_reducible refine Step.ite (fun _ => ?_) (fun _ => ?_)
    | with_reducible apply foldl_step
    | with_reducible apply foldlFst_step
    | with_reducible intro _
    | with_reducible refine Step.ofFst (by assumption) ?_
    | with_reducible refine StepE.named (by assumption) ?_
    | with_reducible refine StepP.named (by assumption) ?_
    | rw [id_eq]
    | split
    | dsimp only

theorem State.sourceStall_step {G : Nat} {s0 s : State} {x1} (h : Step G s0 s)
    (hG : sub 137443147776 G = true) : Step G s0 (State.sourceStall s x1) := by
  unfold State.sourceStall
  try dsimp only
  repeat' first
    | with_reducible assumption
    | ((with_reducible refine sub_trans ?_ hG); exact rfl)
    | with_reducible apply State.copyStall_step
    | with_reducible refine Step.ite (fun _ => ?_) (fun _ => ?_)
    | with_reducible apply foldl_step
    | with_reducible apply foldlFst_step
    | with_reducible intro _
    | with_reducible refine Step.ofFst (by assumption) ?_
    | with_reducible refine StepE.named (by assumption) ?_
    | with_reducible refine StepP.named (by assumption) ?_
    | split
    | dsimp only

theorem State.transmit_step {G : Nat} {s0 s : State} {x1} {x2} (h : Step G s0 s)
    (hG : sub 73025324196842624 G = true) : Step G s0 (State.transmit s x1 x2) := by
  unfold State.transmit
  try dsimp only
  repeat' first
    | with_reducible assumption
    | ((with_reducible refine sub_trans ?_ hG); exact rfl)
    | with_reducible apply State.psnSettle_step
    | with_reducible apply State.serveEffect_step
    | with_reducible apply State.sendOra_step
    | with_reducible apply State.copyReadEffect_step
    | with_reducible refine Step.ite (fun _ => ?_) (fun _ => ?_)
    | with_reducible apply foldl_step
    | with_reducible apply foldlFst_step
    | with_reducible intro _
    | with_reducible refine Step.ofFst (by assumption) ?_
    | with_reducible refine StepE.named (by assumption) ?_
    | with_reducible refine StepP.named (by assumption) ?_
    | rw [id_eq]
    | split
    | dsimp only

theorem State.arrive_step {G : Nat} {s0 s : State} {x1} {x2} (h : Step G s0 s)
    (hG : sub 562949957615616 G = true) : Step G s0 (State.arrive s x1 x2) := by
  unfold State.arrive
  try dsimp only
  repeat' first
    | with_reducible assumption
    | ((with_reducible refine sub_trans ?_ hG); exact rfl)
    | with_reducible apply State.portCount_step
    | with_reducible apply State.setPort_step
    | with_reducible refine Step.ite (fun _ => ?_) (fun _ => ?_)
    | with_reducible apply foldl_step
    | with_reducible apply foldlFst_step
    | with_reducible intro _
    | with_reducible refine Step.ofFst (by assumption) ?_
    | with_reducible refine StepE.named (by assumption) ?_
    | with_reducible refine StepP.named (by assumption) ?_
    | split
    | dsimp only

theorem State.oraChecks_step {G : Nat} {s0 s : State} {x1} {x2} {x3} (h : Step G s0 s) (he : ∀ u a1 a2, Step G s0 u → Step G s0 (x3 u a1 a2))
    (hG : sub 74925122457961648 G = true) : Step G s0 (State.oraChecks s x1 x2 x3) := by
  unfold State.oraChecks
  try dsimp only
  repeat' first
    | with_reducible assumption
    | ((with_reducible refine sub_trans ?_ hG); exact rfl)
    | with_reducible apply State.refuse_step
    | with_reducible apply State.connMap_step
    | with_reducible apply State.learn_step
    | with_reducible apply State.fire_step
    | with_reducible apply State.bump64_step
    | with_reducible refine Step.ite (fun _ => ?_) (fun _ => ?_)
    | with_reducible apply foldl_step
    | with_reducible apply foldlFst_step
    | with_reducible intro _
    | with_reducible refine Step.ofFst (by assumption) ?_
    | with_reducible refine StepE.named (by assumption) ?_
    | with_reducible refine StepP.named (by assumption) ?_
    | with_reducible apply he
    | rw [id_eq]
    | split
    | dsimp only

theorem State.oraFrame_step {G : Nat} {s0 s : State} {x1} {x2} {x3} {x4} (h : Step G s0 s) (he : ∀ u a1 a2, Step G s0 u → Step G s0 (x4 u a1 a2))
    (hG : sub 74925122457961648 G = true) : StepO G s0 (State.oraFrame s x1 x2 x3 x4) := by
  unfold State.oraFrame
  try dsimp only
  repeat' first
    | with_reducible assumption
    | ((with_reducible refine sub_trans ?_ hG); exact rfl)
    | with_reducible apply State.oraChecks_step
    | with_reducible apply State.arrive_step
    | with_reducible apply whenDue_step
    | with_reducible refine Step.ite (fun _ => ?_) (fun _ => ?_)
    | with_reducible refine StepO.ite (fun _ => ?_) (fun _ => ?_)
    | with_reducible apply StepO.next
    | with_reducible apply foldl_step
    | with_reducible apply foldlFst_step
    | with_reducible intro _
    | with_reducible refine Step.ofFst (by assumption) ?_
    | with_reducible refine StepE.named (by assumption) ?_
    | with_reducible refine StepP.named (by assumption) ?_
    | with_reducible apply he
    | split
    | dsimp only

theorem execOraSendFrame_step {G : Nat} {s0 s : State} {x1} {x2} (h : Step G s0 s)
    (hG : sub 75277125092658352 G = true) : StepO G s0 (execOraSendFrame x1 x2 s) := by
  unfold execOraSendFrame
  try dsimp only
  repeat' first
    | with_reducible assumption
    | ((with_reducible refine sub_trans ?_ hG); exact rfl)
    | with_reducible apply State.oraFrame_step
    | with_reducible apply State.classify_step
    | with_reducible refine Step.ite (fun _ => ?_) (fun _ => ?_)
    | with_reducible refine StepO.ite (fun _ => ?_) (fun _ => ?_)
    | with_reducible apply StepO.next
    | with_reducible apply foldl_step
    | with_reducible apply foldlFst_step
    | with_reducible intro _
    | with_reducible refine Step.ofFst (by assumption) ?_
    | with_reducible refine StepE.named (by assumption) ?_
    | with_reducible refine StepP.named (by assumption) ?_
    | rw [id_eq]
    | split
    | dsimp only

theorem execOraWriteFrame_step {G : Nat} {s0 s : State} {x1} {x2} (h : Step G s0 s)
    (hG : sub 75277125092658352 G = true) : StepO G s0 (execOraWriteFrame x1 x2 s) := by
  unfold execOraWriteFrame
  try dsimp only
  repeat' first
    | with_reducible assumption
    | ((with_reducible refine sub_trans ?_ hG); exact rfl)
    | with_reducible apply State.oraFrame_step
    | with_reducible apply State.classify_step
    | with_reducible refine Step.ite (fun _ => ?_) (fun _ => ?_)
    | with_reducible refine StepO.ite (fun _ => ?_) (fun _ => ?_)
    | with_reducible apply StepO.next
    | with_reducible apply foldl_step
    | with_reducible apply foldlFst_step
    | with_reducible intro _
    | with_reducible refine Step.ofFst (by assumption) ?_
    | with_reducible refine StepE.named (by assumption) ?_
    | with_reducible refine StepP.named (by assumption) ?_
    | rw [id_eq]
    | split
    | dsimp only

theorem execOraReadReqFrame_step {G : Nat} {s0 s : State} {x1} {x2} (h : Step G s0 s)
    (hG : sub 75277125092658352 G = true) : StepO G s0 (execOraReadReqFrame x1 x2 s) := by
  unfold execOraReadReqFrame
  try dsimp only
  repeat' first
    | with_reducible assumption
    | ((with_reducible refine sub_trans ?_ hG); exact rfl)
    | with_reducible apply State.oraFrame_step
    | with_reducible apply State.classify_step
    | with_reducible refine Step.ite (fun _ => ?_) (fun _ => ?_)
    | with_reducible refine StepO.ite (fun _ => ?_) (fun _ => ?_)
    | with_reducible apply StepO.next
    | with_reducible apply foldl_step
    | with_reducible apply foldlFst_step
    | with_reducible intro _
    | with_reducible refine Step.ofFst (by assumption) ?_
    | with_reducible refine StepE.named (by assumption) ?_
    | with_reducible refine StepP.named (by assumption) ?_
    | rw [id_eq]
    | split
    | dsimp only

theorem execOraFaddFrame_step {G : Nat} {s0 s : State} {x1} {x2} (h : Step G s0 s)
    (hG : sub 75277125092658352 G = true) : StepO G s0 (execOraFaddFrame x1 x2 s) := by
  unfold execOraFaddFrame
  try dsimp only
  repeat' first
    | with_reducible assumption
    | ((with_reducible refine sub_trans ?_ hG); exact rfl)
    | with_reducible apply State.oraFrame_step
    | with_reducible apply State.classify_step
    | with_reducible refine Step.ite (fun _ => ?_) (fun _ => ?_)
    | with_reducible refine StepO.ite (fun _ => ?_) (fun _ => ?_)
    | with_reducible apply StepO.next
    | with_reducible apply foldl_step
    | with_reducible apply foldlFst_step
    | with_reducible intro _
    | with_reducible refine Step.ofFst (by assumption) ?_
    | with_reducible refine StepE.named (by assumption) ?_
    | with_reducible refine StepP.named (by assumption) ?_
    | rw [id_eq]
    | split
    | dsimp only

theorem execOraCasFrame_step {G : Nat} {s0 s : State} {x1} {x2} (h : Step G s0 s)
    (hG : sub 75277125092658352 G = true) : StepO G s0 (execOraCasFrame x1 x2 s) := by
  unfold execOraCasFrame
  try dsimp only
  repeat' first
    | with_reducible assumption
    | ((with_reducible refine sub_trans ?_ hG); exact rfl)
    | with_reducible apply State.oraFrame_step
    | with_reducible apply State.classify_step
    | with_reducible refine Step.ite (fun _ => ?_) (fun _ => ?_)
    | with_reducible refine StepO.ite (fun _ => ?_) (fun _ => ?_)
    | with_reducible apply StepO.next
    | with_reducible apply foldl_step
    | with_reducible apply foldlFst_step
    | with_reducible intro _
    | with_reducible refine Step.ofFst (by assumption) ?_
    | with_reducible refine StepE.named (by assumption) ?_
    | with_reducible refine StepP.named (by assumption) ?_
    | rw [id_eq]
    | split
    | dsimp only

theorem State.response_step {G : Nat} {s0 s : State} {x1} {x2} {x3} {x4} (h : Step G s0 s)
    (hG : sub 72462374243421312 G = true) : Step G s0 (State.response s x1 x2 x3 x4) := by
  unfold State.response
  try dsimp only
  repeat' first
    | with_reducible assumption
    | ((with_reducible refine sub_trans ?_ hG); exact rfl)
    | with_reducible apply State.psnSettle_step
    | with_reducible apply State.copyWrite_step
    | with_reducible apply State.discard_step
    | with_reducible refine Step.ite (fun _ => ?_) (fun _ => ?_)
    | with_reducible apply foldl_step
    | with_reducible apply foldlFst_step
    | with_reducible intro _
    | with_reducible refine Step.ofFst (by assumption) ?_
    | with_reducible refine StepE.named (by assumption) ?_
    | with_reducible refine StepP.named (by assumption) ?_
    | rw [id_eq]
    | split
    | dsimp only

theorem State.responseIn_step {G : Nat} {s0 s : State} {x1} {x2} {x3} (h : Step G s0 s)
    (hG : sub 72462374243421312 G = true) : Step G s0 (State.responseIn s x1 x2 x3) := by
  unfold State.responseIn
  try dsimp only
  repeat' first
    | with_reducible assumption
    | ((with_reducible refine sub_trans ?_ hG); exact rfl)
    | with_reducible apply State.response_step
    | with_reducible apply State.connMap_step
    | with_reducible apply State.copyStall_step
    | with_reducible refine Step.ite (fun _ => ?_) (fun _ => ?_)
    | with_reducible apply foldl_step
    | with_reducible apply foldlFst_step
    | with_reducible intro _
    | with_reducible refine Step.ofFst (by assumption) ?_
    | with_reducible refine StepE.named (by assumption) ?_
    | with_reducible refine StepP.named (by assumption) ?_
    | rw [id_eq]
    | split
    | dsimp only

theorem execOraReadRespFrame_step {G : Nat} {s0 s : State} {x1} {x2} (h : Step G s0 s)
    (hG : sub 75277125092658352 G = true) : StepO G s0 (execOraReadRespFrame x1 x2 s) := by
  unfold execOraReadRespFrame
  try dsimp only
  repeat' first
    | with_reducible assumption
    | ((with_reducible refine sub_trans ?_ hG); exact rfl)
    | with_reducible apply State.responseIn_step
    | with_reducible apply State.oraFrame_step
    | with_reducible refine Step.ite (fun _ => ?_) (fun _ => ?_)
    | with_reducible refine StepO.ite (fun _ => ?_) (fun _ => ?_)
    | with_reducible apply StepO.next
    | with_reducible apply foldl_step
    | with_reducible apply foldlFst_step
    | with_reducible intro _
    | with_reducible refine Step.ofFst (by assumption) ?_
    | with_reducible refine StepE.named (by assumption) ?_
    | with_reducible refine StepP.named (by assumption) ?_
    | rw [id_eq]
    | split
    | dsimp only

theorem execOraAtomicRespFrame_step {G : Nat} {s0 s : State} {x1} {x2} (h : Step G s0 s)
    (hG : sub 75277125092658352 G = true) : StepO G s0 (execOraAtomicRespFrame x1 x2 s) := by
  unfold execOraAtomicRespFrame
  try dsimp only
  repeat' first
    | with_reducible assumption
    | ((with_reducible refine sub_trans ?_ hG); exact rfl)
    | with_reducible apply State.responseIn_step
    | with_reducible apply State.oraFrame_step
    | with_reducible refine Step.ite (fun _ => ?_) (fun _ => ?_)
    | with_reducible refine StepO.ite (fun _ => ?_) (fun _ => ?_)
    | with_reducible apply StepO.next
    | with_reducible apply foldl_step
    | with_reducible apply foldlFst_step
    | with_reducible intro _
    | with_reducible refine Step.ofFst (by assumption) ?_
    | with_reducible refine StepE.named (by assumption) ?_
    | with_reducible refine StepP.named (by assumption) ?_
    | rw [id_eq]
    | split
    | dsimp only

theorem execOraAckFrame_step {G : Nat} {s0 s : State} {x1} {x2} (h : Step G s0 s)
    (hG : sub 75276983358737584 G = true) : StepO G s0 (execOraAckFrame x1 x2 s) := by
  unfold execOraAckFrame
  try dsimp only
  repeat' first
    | with_reducible assumption
    | ((with_reducible refine sub_trans ?_ hG); exact rfl)
    | with_reducible apply State.oraFrame_step
    | with_reducible apply State.acknowledge_step
    | with_reducible refine Step.ite (fun _ => ?_) (fun _ => ?_)
    | with_reducible refine StepO.ite (fun _ => ?_) (fun _ => ?_)
    | with_reducible apply StepO.next
    | with_reducible apply foldl_step
    | with_reducible apply foldlFst_step
    | with_reducible intro _
    | with_reducible refine Step.ofFst (by assumption) ?_
    | with_reducible refine StepE.named (by assumption) ?_
    | with_reducible refine StepP.named (by assumption) ?_
    | rw [id_eq]
    | split
    | dsimp only

theorem execOraNakFrame_step {G : Nat} {s0 s : State} {x1} {x2} (h : Step G s0 s)
    (hG : sub 75276983358737584 G = true) : StepO G s0 (execOraNakFrame x1 x2 s) := by
  unfold execOraNakFrame
  try dsimp only
  repeat' first
    | with_reducible assumption
    | ((with_reducible refine sub_trans ?_ hG); exact rfl)
    | with_reducible apply State.oraFrame_step
    | with_reducible apply State.acknowledge_step
    | with_reducible apply State.psnSettle_step
    | with_reducible apply State.connError_step
    | with_reducible apply State.connMap_step
    | with_reducible apply State.bump64_step
    | with_reducible refine Step.ite (fun _ => ?_) (fun _ => ?_)
    | with_reducible refine StepO.ite (fun _ => ?_) (fun _ => ?_)
    | with_reducible apply StepO.next
    | with_reducible apply foldl_step
    | with_reducible apply foldlFst_step
    | with_reducible intro _
    | with_reducible refine Step.ofFst (by assumption) ?_
    | with_reducible refine StepE.named (by assumption) ?_
    | with_reducible refine StepP.named (by assumption) ?_
    | rw [id_eq]
    | split
    | dsimp only

theorem execOraCreditFrame_step {G : Nat} {s0 s : State} {x1} {x2} (h : Step G s0 s)
    (hG : sub 74925122457961648 G = true) : StepO G s0 (execOraCreditFrame x1 x2 s) := by
  unfold execOraCreditFrame
  try dsimp only
  repeat' first
    | with_reducible assumption
    | ((with_reducible refine sub_trans ?_ hG); exact rfl)
    | with_reducible apply State.oraFrame_step
    | with_reducible apply State.sendCredit_step
    | with_reducible refine Step.ite (fun _ => ?_) (fun _ => ?_)
    | with_reducible refine StepO.ite (fun _ => ?_) (fun _ => ?_)
    | with_reducible apply StepO.next
    | with_reducible apply foldl_step
    | with_reducible apply foldlFst_step
    | with_reducible intro _
    | with_reducible refine Step.ofFst (by assumption) ?_
    | with_reducible refine StepE.named (by assumption) ?_
    | with_reducible refine StepP.named (by assumption) ?_
    | rw [id_eq]
    | split
    | dsimp only

theorem State.applyHeld_step {G : Nat} {s0 s : State} {x1} {x2} {x3} {x4} (h : Step G s0 s)
    (hG : sub 73025324196842624 G = true) : Step G s0 (State.applyHeld s x1 x2 x3 x4) := by
  unfold State.applyHeld
  try dsimp only
  repeat' first
    | with_reducible assumption
    | ((with_reducible refine sub_trans ?_ hG); exact rfl)
    | with_reducible apply State.applyOra_step
    | with_reducible apply State.refuse_step
    | with_reducible apply State.raiseLimit_step
    | with_reducible apply State.sendAck_step
    | with_reducible apply State.connMap_step
    | with_reducible refine Step.ite (fun _ => ?_) (fun _ => ?_)
    | with_reducible apply foldl_step
    | with_reducible apply foldlFst_step
    | with_reducible intro _
    | with_reducible refine Step.ofFst (by assumption) ?_
    | with_reducible refine StepE.named (by assumption) ?_
    | with_reducible refine StepP.named (by assumption) ?_
    | rw [id_eq]
    | split
    | dsimp only

theorem State.heldStep_step {G : Nat} {s0 s : State} {x1} {x2} (h : Step G s0 s)
    (hG : sub 73025324196842624 G = true) : Step G s0 (State.heldStep s x1 x2) := by
  unfold State.heldStep
  try dsimp only
  repeat' first
    | with_reducible assumption
    | ((with_reducible refine sub_trans ?_ hG); exact rfl)
    | with_reducible apply State.applyHeld_step
    | with_reducible apply State.response_step
    | with_reducible apply State.recvAdvance_step
    | with_reducible apply State.connMap_step
    | with_reducible refine Step.ite (fun _ => ?_) (fun _ => ?_)
    | with_reducible apply foldl_step
    | with_reducible apply foldlFst_step
    | with_reducible intro _
    | with_reducible refine Step.ofFst (by assumption) ?_
    | with_reducible refine StepE.named (by assumption) ?_
    | with_reducible refine StepP.named (by assumption) ?_
    | rw [id_eq]
    | split
    | dsimp only

theorem execHeldFrameApply_step {G : Nat} {s0 s : State} {x1} (h : Step G s0 s)
    (hG : sub 73025324196842624 G = true) : StepO G s0 (execHeldFrameApply x1 s) := by
  unfold execHeldFrameApply
  try dsimp only
  repeat' first
    | with_reducible assumption
    | ((with_reducible refine sub_trans ?_ hG); exact rfl)
    | with_reducible apply State.heldStep_step
    | with_reducible apply whenDue_step
    | with_reducible refine Step.ite (fun _ => ?_) (fun _ => ?_)
    | with_reducible refine StepO.ite (fun _ => ?_) (fun _ => ?_)
    | with_reducible apply StepO.next
    | with_reducible apply foldl_step
    | with_reducible apply foldlFst_step
    | with_reducible intro _
    | with_reducible refine Step.ofFst (by assumption) ?_
    | with_reducible refine StepE.named (by assumption) ?_
    | with_reducible refine StepP.named (by assumption) ?_
    | split
    | dsimp only

theorem State.sendNext_step {G : Nat} {s0 s : State} {x1} {x2} {x3} {x4} (h : Step G s0 s)
    (hG : sub 73025324196842624 G = true) : Step G s0 (State.sendNext s x1 x2 x3 x4) := by
  unfold State.sendNext
  try dsimp only
  repeat' first
    | with_reducible assumption
    | ((with_reducible refine sub_trans ?_ hG); exact rfl)
    | with_reducible apply State.connMap_step
    | with_reducible apply State.transmit_step
    | ((with_reducible refine Step.put (F := 73025324196842624) ?_ hG ?_ ?_); rotate_left; (fail_if_success (with_reducible exact Same.refl _ _)); exact rfl; (first | with_reducible exact State.Inv.congr rfl rfl rfl rfl rfl rfl rfl id id id))
    | with_reducible refine Step.ite (fun _ => ?_) (fun _ => ?_)
    | with_reducible apply foldl_step
    | with_reducible apply foldlFst_step
    | with_reducible intro _
    | with_reducible refine Step.ofFst (by assumption) ?_
    | with_reducible refine StepE.named (by assumption) ?_
    | with_reducible refine StepP.named (by assumption) ?_
    | split
    | dsimp only

theorem State.wrRefuse_step {G : Nat} {s0 s : State} {x1} {x2} {x3} (h : Step G s0 s)
    (hG : sub 72462232509500544 G = true) : Step G s0 (State.wrRefuse s x1 x2 x3) := by
  unfold State.wrRefuse
  try dsimp only
  repeat' first
    | with_reducible assumption
    | ((with_reducible refine sub_trans ?_ hG); exact rfl)
    | with_reducible apply State.wrCheck_step
    | with_reducible apply State.connMap_step
    | ((with_reducible refine Step.put (F := 72462232509500544) ?_ hG ?_ ?_); rotate_left; (fail_if_success (with_reducible exact Same.refl _ _)); exact rfl; (first | with_reducible exact State.Inv.congr rfl rfl rfl rfl rfl rfl rfl id id id))
    | with_reducible refine Step.ite (fun _ => ?_) (fun _ => ?_)
    | with_reducible apply foldl_step
    | with_reducible apply foldlFst_step
    | with_reducible intro _
    | with_reducible refine Step.ofFst (by assumption) ?_
    | with_reducible refine StepE.named (by assumption) ?_
    | with_reducible refine StepP.named (by assumption) ?_
    | rw [id_eq]
    | split
    | dsimp only

theorem execOraRequestSend_step {G : Nat} {s0 s : State} {x1} (h : Step G s0 s)
    (hG : sub 73025324196842624 G = true) : StepO G s0 (execOraRequestSend x1 s) := by
  unfold execOraRequestSend
  try dsimp only
  repeat' first
    | with_reducible assumption
    | ((with_reducible refine sub_trans ?_ hG); exact rfl)
    | with_reducible apply State.wrRefuse_step
    | with_reducible apply State.sendNext_step
    | with_reducible apply State.wrCheck_step
    | with_reducible apply State.connMap_step
    | with_reducible apply State.copyStall_step
    | with_reducible apply State.bump64_step
    | with_reducible apply whenDue_step
    | with_reducible refine Step.ite (fun _ => ?_) (fun _ => ?_)
    | with_reducible refine StepO.ite (fun _ => ?_) (fun _ => ?_)
    | with_reducible apply StepO.next
    | with_reducible apply foldl_step
    | with_reducible apply foldlFst_step
    | with_reducible intro _
    | with_reducible refine Step.ofFst (by assumption) ?_
    | with_reducible refine StepE.named (by assumption) ?_
    | with_reducible refine StepP.named (by assumption) ?_
    | rw [id_eq]
    | split
    | dsimp only

theorem State.connFail_step {G : Nat} {s0 s : State} {x1} {x2} (h : Step G s0 s)
    (hG : sub 72467317750787256 G = true) : Step G s0 (State.connFail s x1 x2) := by
  unfold State.connFail
  try dsimp only
  repeat' first
    | with_reducible assumption
    | ((with_reducible refine sub_trans ?_ hG); exact rfl)
    | with_reducible apply State.connMap_step
    | with_reducible apply State.jobAbort_step
    | with_reducible apply State.connEnd_step
    | with_reducible apply State.event_step
    | with_reducible apply State.fire_step
    | with_reducible refine Step.ite (fun _ => ?_) (fun _ => ?_)
    | with_reducible apply foldl_step
    | with_reducible apply foldlFst_step
    | with_reducible intro _
    | with_reducible refine Step.ofFst (by assumption) ?_
    | with_reducible refine StepE.named (by assumption) ?_
    | with_reducible refine StepP.named (by assumption) ?_
    | rw [id_eq]
    | split
    | dsimp only

theorem execRetransmitTimeout_step {G : Nat} {s0 s : State} {x1} (h : Step G s0 s)
    (hG : sub 73030271999175865 G = true) : StepO G s0 (execRetransmitTimeout x1 s) := by
  unfold execRetransmitTimeout
  try dsimp only
  repeat' first
    | with_reducible assumption
    | ((with_reducible refine sub_trans ?_ hG); exact rfl)
    | with_reducible apply State.connFail_step
    | with_reducible apply State.transmit_step
    | with_reducible apply State.sourceStall_step
    | with_reducible apply State.connMap_step
    | with_reducible apply State.bump64_step
    | with_reducible apply State.advanceTo_step
    | with_reducible apply each_step
    | with_reducible apply whenDue_step
    | with_reducible refine Step.ite (fun _ => ?_) (fun _ => ?_)
    | with_reducible refine StepO.ite (fun _ => ?_) (fun _ => ?_)
    | with_reducible apply StepO.next
    | with_reducible apply foldl_step
    | with_reducible apply foldlFst_step
    | with_reducible intro _
    | with_reducible refine Step.ofFst (by assumption) ?_
    | with_reducible refine StepE.named (by assumption) ?_
    | with_reducible refine StepP.named (by assumption) ?_
    | rw [id_eq]
    | split
    | dsimp only

theorem execAckDelayExpiry_step {G : Nat} {s0 s : State} {x1} (h : Step G s0 s)
    (hG : sub 598134329704449 G = true) : StepO G s0 (execAckDelayExpiry x1 s) := by
  unfold execAckDelayExpiry
  try dsimp only
  repeat' first
    | with_reducible assumption
    | ((with_reducible refine sub_trans ?_ hG); exact rfl)
    | with_reducible apply State.sendAck_step
    | with_reducible apply State.connMap_step
    | with_reducible apply State.advanceTo_step
    | with_reducible apply State.sendCredit_step
    | with_reducible apply whenDue_step
    | with_reducible refine Step.ite (fun _ => ?_) (fun _ => ?_)
    | with_reducible refine StepO.ite (fun _ => ?_) (fun _ => ?_)
    | with_reducible apply StepO.next
    | with_reducible apply foldl_step
    | with_reducible apply foldlFst_step
    | with_reducible intro _
    | with_reducible refine Step.ofFst (by assumption) ?_
    | with_reducible refine StepE.named (by assumption) ?_
    | with_reducible refine StepP.named (by assumption) ?_
    | split

theorem execCreditProbe_step {G : Nat} {s0 s : State} {x1} (h : Step G s0 s)
    (hG : sub 598134329704449 G = true) : StepO G s0 (execCreditProbe x1 s) := by
  unfold execCreditProbe
  try dsimp only
  repeat' first
    | with_reducible assumption
    | ((with_reducible refine sub_trans ?_ hG); exact rfl)
    | with_reducible apply State.connMap_step
    | with_reducible apply State.sendCredit_step
    | with_reducible apply State.advanceTo_step
    | with_reducible apply whenDue_step
    | with_reducible refine Step.ite (fun _ => ?_) (fun _ => ?_)
    | with_reducible refine StepO.ite (fun _ => ?_) (fun _ => ?_)
    | with_reducible apply StepO.next
    | with_reducible apply foldl_step
    | with_reducible apply foldlFst_step
    | with_reducible intro _
    | with_reducible refine Step.ofFst (by assumption) ?_
    | with_reducible refine StepE.named (by assumption) ?_
    | with_reducible refine StepP.named (by assumption) ?_
    | split

theorem execRnrRetry_step {G : Nat} {s0 s : State} {x1} {x2} (h : Step G s0 s)
    (hG : sub 73025324196842625 G = true) : StepO G s0 (execRnrRetry x1 x2 s) := by
  unfold execRnrRetry
  try dsimp only
  repeat' first
    | with_reducible assumption
    | ((with_reducible refine sub_trans ?_ hG); exact rfl)
    | with_reducible apply State.transmit_step
    | with_reducible apply State.sourceStall_step
    | with_reducible apply State.connMap_step
    | with_reducible apply State.advanceTo_step
    | with_reducible apply whenDue_step
    | with_reducible refine Step.ite (fun _ => ?_) (fun _ => ?_)
    | with_reducible refine StepO.ite (fun _ => ?_) (fun _ => ?_)
    | with_reducible apply StepO.next
    | with_reducible apply foldl_step
    | with_reducible apply foldlFst_step
    | with_reducible intro _
    | with_reducible refine Step.ofFst (by assumption) ?_
    | with_reducible refine StepE.named (by assumption) ?_
    | with_reducible refine StepP.named (by assumption) ?_
    | rw [id_eq]
    | split
    | dsimp only

end Sys2Proof.Machine
end

