-- ==== Sys2Proof/Laws/KeepStores.lean ====
section
/-! SUPPORT. Every state function of pleats, NVMe, shutdown and power:
the fields that it may change, and that it keeps the invariant. -/

-- One proof at a time, as in Keep.lean.
set_option Elab.async false
-- Every proof here tries the same few tactics in the same order, and not each of them meets a goal.
set_option linter.unusedTactic false
set_option linter.unreachableTactic false

namespace Sys2Proof.Machine

/-! ### Pleats -/

theorem State.planMap_step {G : Nat} {s0 s : State} {x1} {x2} (h : Step G s0 s)
    (hG : sub 4398046511104 G = true) : Step G s0 (State.planMap s x1 x2) := by
  unfold State.planMap
  try dsimp only
  repeat' first
    | with_reducible assumption
    | ((with_reducible refine sub_trans ?_ hG); exact rfl)
    | ((with_reducible refine Step.put (F := 4398046511104) ?_ hG ?_ ?_); rotate_left; (fail_if_success (with_reducible exact Same.refl _ _)); exact rfl; (first | with_reducible exact State.Inv.congr rfl rfl rfl rfl rfl rfl rfl id id id))
    | with_reducible refine Step.ite (fun _ => ?_) (fun _ => ?_)
    | with_reducible apply foldl_step
    | with_reducible apply foldlFst_step
    | with_reducible intro _
    | with_reducible refine Step.ofFst (by assumption) ?_
    | with_reducible refine StepE.named (by assumption) ?_
    | with_reducible refine StepP.named (by assumption) ?_
    | split
    | dsimp only

theorem State.setLanding_step {G : Nat} {s0 s : State} {x1} {x2} {x3} {x4} (h : Step G s0 s)
    (hG : sub 4398046511104 G = true) : Step G s0 (State.setLanding s x1 x2 x3 x4) := by
  unfold State.setLanding
  try dsimp only
  repeat' first
    | with_reducible assumption
    | with_reducible apply State.planMap_step

theorem State.tailOn_step {G : Nat} {s0 s : State} {x1} {x2} {x3} (h : Step G s0 s)
    (hG : sub 137438953472 G = true) : Step G s0 (State.tailOn s x1 x2 x3) := by
  unfold State.tailOn
  try dsimp only
  repeat' first
    | with_reducible assumption
    | with_reducible apply State.setTile_step

theorem State.voidRun_step {G : Nat} {s0 s : State} {x1} {x2} {x3} {x4} (h : Step G s0 s)
    (hG : sub 144119723561320448 G = true) : Step G s0 (State.voidRun x1 x2 x3 x4 s) := by
  induction x4 generalizing s  with
  | zero =>
    unfold State.voidRun
    try dsimp only
    repeat' first
      | with_reducible apply ih
      | with_reducible assumption
      | ((with_reducible refine sub_trans ?_ hG); exact rfl)
      | with_reducible apply State.tailOn_step
      | with_reducible apply State.setLanding_step
      | with_reducible apply State.draw_step
      | with_reducible refine Step.ite (fun _ => ?_) (fun _ => ?_)
      | with_reducible apply foldl_step
      | with_reducible apply foldlFst_step
      | with_reducible intro _
      | with_reducible refine Step.ofFst (by assumption) ?_
      | with_reducible refine StepE.named (by assumption) ?_
      | with_reducible refine StepP.named (by assumption) ?_
      | split
      | dsimp only
  | succ n ih =>
    unfold State.voidRun
    try dsimp only
    repeat' first
      | with_reducible apply ih
      | with_reducible assumption
      | ((with_reducible refine sub_trans ?_ hG); exact rfl)
      | with_reducible apply State.tailOn_step
      | with_reducible apply State.setLanding_step
      | with_reducible apply State.draw_step
      | with_reducible refine Step.ite (fun _ => ?_) (fun _ => ?_)
      | with_reducible apply foldl_step
      | with_reducible apply foldlFst_step
      | with_reducible intro _
      | with_reducible refine Step.ofFst (by assumption) ?_
      | with_reducible refine StepE.named (by assumption) ?_
      | with_reducible refine StepP.named (by assumption) ?_
      | split
      | dsimp only

theorem State.voids_step {G : Nat} {s0 s : State} {x1} {x2} {x3} (h : Step G s0 s)
    (hG : sub 144119723561320448 G = true) : Step G s0 (State.voids s x1 x2 x3) := by
  unfold State.voids
  try dsimp only
  repeat' first
    | with_reducible assumption
    | with_reducible apply State.voidRun_step
    | with_reducible refine Step.ite (fun _ => ?_) (fun _ => ?_)
    | with_reducible apply foldl_step
    | with_reducible apply foldlFst_step
    | with_reducible intro _
    | with_reducible refine Step.ofFst (by assumption) ?_
    | with_reducible refine StepE.named (by assumption) ?_
    | with_reducible refine StepP.named (by assumption) ?_
    | split

theorem State.tagFinal_step {G : Nat} {s0 s : State} {x1} {x2} {x3} {x4} {x5} {x6} (h : Step G s0 s)
    (hG : sub 137438953472 G = true) : Step G s0 (State.tagFinal s x1 x2 x3 x4 x5 x6) := by
  unfold State.tagFinal
  try dsimp only
  repeat' first
    | with_reducible assumption
    | ((with_reducible refine sub_trans ?_ hG); exact rfl)
    | with_reducible apply State.setTile_step
    | with_reducible refine Step.ite (fun _ => ?_) (fun _ => ?_)
    | with_reducible apply foldl_step
    | with_reducible apply foldlFst_step
    | with_reducible intro _
    | with_reducible refine Step.ofFst (by assumption) ?_
    | with_reducible refine StepE.named (by assumption) ?_
    | with_reducible refine StepP.named (by assumption) ?_
    | split
    | dsimp only

theorem State.lanesEnd_step {G : Nat} {s0 s : State} {x1} {x2} {x3} {x4} {x5} (h : Step G s0 s)
    (hG : sub 72080289657801864 G = true) : Step G s0 (State.lanesEnd s x1 x2 x3 x4 x5) := by
  unfold State.lanesEnd
  try dsimp only
  repeat' first
    | with_reducible assumption
    | ((with_reducible refine sub_trans ?_ hG); exact rfl)
    | with_reducible apply State.bump64_step
    | with_reducible apply State.frameDone_step
    | with_reducible apply each_step
    | with_reducible refine Step.ite (fun _ => ?_) (fun _ => ?_)
    | with_reducible apply foldl_step
    | with_reducible apply foldlFst_step
    | with_reducible intro _

theorem State.setSeg_step {G : Nat} {s0 s : State} {x1} {x2} (h : Step G s0 s)
    (hG : sub 8796093022208 G = true) : Step G s0 (State.setSeg s x1 x2) := by
  unfold State.setSeg
  try dsimp only
  repeat' first
    | with_reducible assumption
    | ((with_reducible refine sub_trans ?_ hG); exact rfl)
    | ((with_reducible refine Step.put (F := 8796093022208) ?_ hG ?_ ?_); rotate_left; (fail_if_success (with_reducible exact Same.refl _ _)); exact rfl; (first | with_reducible exact State.Inv.congr rfl rfl rfl rfl rfl rfl rfl id id id))
    | with_reducible refine Step.ite (fun _ => ?_) (fun _ => ?_)
    | with_reducible apply foldl_step
    | with_reducible apply foldlFst_step
    | with_reducible intro _
    | with_reducible refine Step.ofFst (by assumption) ?_
    | with_reducible refine StepE.named (by assumption) ?_
    | with_reducible refine StepP.named (by assumption) ?_
    | split
    | dsimp only

theorem State.nvmeIssue_step {G : Nat} {s0 s : State} {x1} {x2} {x3} {x4} {x5} {x6} (h : Step G s0 s)
    (hG : sub 72066390130950144 G = true) : Step G s0 (State.nvmeIssue s x1 x2 x3 x4 x5 x6) := by
  unfold State.nvmeIssue
  try dsimp only
  repeat' first
    | with_reducible assumption
    | ((with_reducible refine sub_trans ?_ hG); exact rfl)
    | with_reducible apply State.setSeg_step
    | ((with_reducible refine Step.put (F := 72066390130950144) ?_ hG ?_ ?_); rotate_left; (fail_if_success (with_reducible exact Same.refl _ _)); exact rfl; (first | with_reducible exact State.Inv.congr rfl rfl rfl rfl rfl rfl rfl id id id))
    | with_reducible refine Step.ite (fun _ => ?_) (fun _ => ?_)
    | with_reducible apply foldl_step
    | with_reducible apply foldlFst_step
    | with_reducible intro _
    | with_reducible refine Step.ofFst (by assumption) ?_
    | with_reducible refine StepE.named (by assumption) ?_
    | with_reducible refine StepP.named (by assumption) ?_
    | split
    | dsimp only

theorem State.nvmeSend_step {G : Nat} {s0 s : State} {x1} {x2} {x3} {x4} {x5} {x6} (h : Step G s0 s)
    (hG : sub 72066390130950144 G = true) : Step G s0 (State.nvmeSend s x1 x2 x3 x4 x5 x6) := by
  unfold State.nvmeSend
  try dsimp only
  repeat' first
    | with_reducible assumption
    | with_reducible apply State.nvmeIssue_step
    | with_reducible apply each_step
    | with_reducible refine Step.ite (fun _ => ?_) (fun _ => ?_)
    | with_reducible apply foldl_step
    | with_reducible apply foldlFst_step
    | with_reducible intro _

theorem State.pleatDrop_step {G : Nat} {s0 s : State} {x1} {x2} (h : Step G s0 s)
    (hG : sub 8796093022208 G = true) : Step G s0 (State.pleatDrop s x1 x2) := by
  unfold State.pleatDrop
  try dsimp only
  repeat' first
    | with_reducible assumption
    | ((with_reducible refine sub_trans ?_ hG); exact rfl)
    | ((with_reducible refine Step.put (F := 8796093022208) ?_ hG ?_ ?_); rotate_left; (fail_if_success (with_reducible exact Same.refl _ _)); exact rfl; (first | with_reducible exact State.Inv.congr rfl rfl rfl rfl rfl rfl rfl id id id))
    | with_reducible refine Step.ite (fun _ => ?_) (fun _ => ?_)
    | with_reducible apply foldl_step
    | with_reducible apply foldlFst_step
    | with_reducible intro _
    | with_reducible refine Step.ofFst (by assumption) ?_
    | with_reducible refine StepE.named (by assumption) ?_
    | with_reducible refine StepP.named (by assumption) ?_
    | split
    | dsimp only

theorem State.stagePleat_step {G : Nat} {s0 s : State} {x1} {x2} (h : Step G s0 s)
    (hG : sub 72070788181655552 G = true) : Step G s0 (State.stagePleat s x1 x2) := by
  unfold State.stagePleat
  try dsimp only
  repeat' first
    | with_reducible assumption
    | ((with_reducible refine sub_trans ?_ hG); exact rfl)
    | with_reducible apply State.planMap_step
    | with_reducible apply State.bump64_step
    | with_reducible apply State.nvmeSend_step
    | with_reducible apply State.pleatDrop_step
    | with_reducible refine Step.ite (fun _ => ?_) (fun _ => ?_)
    | with_reducible apply foldl_step
    | with_reducible apply foldlFst_step
    | with_reducible intro _
    | with_reducible refine Step.ofFst (by assumption) ?_
    | with_reducible refine StepE.named (by assumption) ?_
    | with_reducible refine StepP.named (by assumption) ?_
    | split

theorem State.restagePleat_step {G : Nat} {s0 s : State} {x1} {x2} (h : Step G s0 s)
    (hG : sub 72070788181655552 G = true) : Step G s0 (State.restagePleat s x1 x2) := by
  unfold State.restagePleat
  try dsimp only
  repeat' first
    | with_reducible assumption
    | ((with_reducible refine sub_trans ?_ hG); exact rfl)
    | with_reducible apply State.stagePleat_step
    | with_reducible apply State.bump64_step
    | with_reducible refine Step.ite (fun _ => ?_) (fun _ => ?_)
    | with_reducible apply foldl_step
    | with_reducible apply foldlFst_step
    | with_reducible intro _
    | with_reducible refine Step.ofFst (by assumption) ?_
    | with_reducible refine StepE.named (by assumption) ?_
    | with_reducible refine StepP.named (by assumption) ?_
    | split

theorem State.planEntryDone_step {G : Nat} {s0 s : State} {x1} {x2} {x3} {x4} {x5} (h : Step G s0 s)
    (hG : sub 72075204416507008 G = true) : Step G s0 (State.planEntryDone s x1 x2 x3 x4 x5) := by
  unfold State.planEntryDone
  try dsimp only
  repeat' first
    | with_reducible assumption
    | ((with_reducible refine sub_trans ?_ hG); exact rfl)
    | with_reducible apply State.faultEnd_step
    | with_reducible apply State.entryDone_step
    | with_reducible refine Step.ite (fun _ => ?_) (fun _ => ?_)
    | with_reducible apply foldl_step
    | with_reducible apply foldlFst_step
    | with_reducible intro _
    | with_reducible refine Step.ofFst (by assumption) ?_
    | with_reducible refine StepE.named (by assumption) ?_
    | with_reducible refine StepP.named (by assumption) ?_
    | split
    | dsimp only

theorem State.planCheck_step {G : Nat} {s0 s : State} {x1} (h : Step G s0 s)
    (hG : sub 72079602463018112 G = true) : Step G s0 (State.planCheck s x1) := by
  unfold State.planCheck
  try dsimp only
  repeat' first
    | with_reducible assumption
    | ((with_reducible refine sub_trans ?_ hG); exact rfl)
    | with_reducible apply State.planMap_step
    | with_reducible apply State.planEntryDone_step
    | with_reducible apply each_step
    | with_reducible refine Step.ite (fun _ => ?_) (fun _ => ?_)
    | with_reducible apply foldl_step
    | with_reducible apply foldlFst_step
    | with_reducible intro _
    | with_reducible refine Step.ofFst (by assumption) ?_
    | with_reducible refine StepE.named (by assumption) ?_
    | with_reducible refine StepP.named (by assumption) ?_
    | split

theorem State.pleatFail_step {G : Nat} {s0 s : State} {x1} {x2} {x3} {x4} (h : Step G s0 s)
    (hG : sub 216204273826679944 G = true) : Step G s0 (State.pleatFail s x1 x2 x3 x4) := by
  unfold State.pleatFail
  try dsimp only
  repeat' first
    | with_reducible assumption
    | ((with_reducible refine sub_trans ?_ hG); exact rfl)
    | with_reducible apply State.planCheck_step
    | with_reducible apply State.restagePleat_step
    | with_reducible apply State.pleatDrop_step
    | with_reducible apply State.lanesEnd_step
    | with_reducible apply State.tagFinal_step
    | with_reducible apply State.voids_step
    | with_reducible apply State.setLanding_step
    | with_reducible apply State.planMap_step
    | with_reducible apply State.bump64_step
    | with_reducible apply each_step
    | with_reducible refine Step.ite (fun _ => ?_) (fun _ => ?_)
    | with_reducible apply foldl_step
    | with_reducible apply foldlFst_step
    | with_reducible intro _
    | with_reducible refine Step.ofFst (by assumption) ?_
    | with_reducible refine StepE.named (by assumption) ?_
    | with_reducible refine StepP.named (by assumption) ?_
    | split
    | dsimp only

/-! ### Nvme -/

theorem State.flashPart_step {G : Nat} {s0 s : State} {x1} {x2} {x3} {x4} {x5} (h : Step G s0 s)
    (hG : sub 72075204416507008 G = true) : Step G s0 (State.flashPart s x1 x2 x3 x4 x5) := by
  unfold State.flashPart
  try dsimp only
  repeat' first
    | with_reducible assumption
    | ((with_reducible refine sub_trans ?_ hG); exact rfl)
    | with_reducible apply State.faultEnd_step
    | with_reducible apply State.partDone_step
    | with_reducible refine Step.ite (fun _ => ?_) (fun _ => ?_)
    | with_reducible apply foldl_step
    | with_reducible apply foldlFst_step
    | with_reducible intro _
    | with_reducible refine Step.ofFst (by assumption) ?_
    | with_reducible refine StepE.named (by assumption) ?_
    | with_reducible refine StepP.named (by assumption) ?_
    | rw [id_eq]
    | split
    | dsimp only

theorem State.nvmeFail_step {G : Nat} {s0 s : State} {x1} {x2} {x3} (h : Step G s0 s)
    (hG : sub 216204273826679944 G = true) : Step G s0 (State.nvmeFail s x1 x2 x3) := by
  unfold State.nvmeFail
  try dsimp only
  repeat' first
    | with_reducible assumption
    | ((with_reducible refine sub_trans ?_ hG); exact rfl)
    | with_reducible apply State.flashPart_step
    | with_reducible apply State.pleatFail_step
    | with_reducible refine Step.ite (fun _ => ?_) (fun _ => ?_)
    | with_reducible apply foldl_step
    | with_reducible apply foldlFst_step
    | with_reducible intro _
    | with_reducible refine Step.ofFst (by assumption) ?_
    | with_reducible refine StepE.named (by assumption) ?_
    | with_reducible refine StepP.named (by assumption) ?_
    | rw [id_eq]
    | split
    | dsimp only

theorem State.nvmeFailAll_step {G : Nat} {s0 s : State} {x1} {x2} (h : Step G s0 s)
    (hG : sub 216204273826679944 G = true) : Step G s0 (State.nvmeFailAll s x1 x2) := by
  unfold State.nvmeFailAll
  try dsimp only
  repeat' first
    | with_reducible assumption
    | ((with_reducible refine sub_trans ?_ hG); exact rfl)
    | with_reducible apply State.nvmeFail_step
    | with_reducible apply State.setSeg_step
    | with_reducible apply each_step
    | with_reducible refine Step.ite (fun _ => ?_) (fun _ => ?_)
    | with_reducible apply foldl_step
    | with_reducible apply foldlFst_step
    | with_reducible intro _

theorem execNvmeLinkUp_step {G : Nat} {s0 s : State} {x1} {x2} {x3} (h : Step G s0 s)
    (hG : sub 8797099655168 G = true) : StepO G s0 (execNvmeLinkUp x1 x2 x3 s) := by
  unfold execNvmeLinkUp
  try dsimp only
  repeat' first
    | with_reducible assumption
    | ((with_reducible refine sub_trans ?_ hG); exact rfl)
    | with_reducible apply State.fire_step
    | with_reducible apply State.setSeg_step
    | with_reducible apply whenDue_step
    | with_reducible refine Step.ite (fun _ => ?_) (fun _ => ?_)

theorem execNvmeLinkDown_step {G : Nat} {s0 s : State} {x1} (h : Step G s0 s)
    (hG : sub 216204273826679944 G = true) : StepO G s0 (execNvmeLinkDown x1 s) := by
  unfold execNvmeLinkDown
  try dsimp only
  repeat' first
    | with_reducible assumption
    | ((with_reducible refine sub_trans ?_ hG); exact rfl)
    | with_reducible apply State.fire_step
    | with_reducible apply State.nvmeFailAll_step
    | with_reducible apply State.setSeg_step
    | with_reducible apply whenDue_step

theorem execNvmeLinkRetry_step {G : Nat} {s0 s : State} {x1} (h : Step G s0 s)
    (hG : sub 8796093022209 G = true) : StepO G s0 (execNvmeLinkRetry x1 s) := by
  unfold execNvmeLinkRetry
  try dsimp only
  repeat' first
    | with_reducible assumption
    | ((with_reducible refine sub_trans ?_ hG); exact rfl)
    | with_reducible apply State.advanceTo_step
    | with_reducible apply State.setSeg_step
    | with_reducible apply whenDue_step

theorem State.nvmeReset_step {G : Nat} {s0 s : State} {x1} (h : Step G s0 s)
    (hG : sub 216204273826679944 G = true) : Step G s0 (State.nvmeReset s x1) := by
  unfold State.nvmeReset
  try dsimp only
  repeat' first
    | with_reducible assumption
    | ((with_reducible refine sub_trans ?_ hG); exact rfl)
    | with_reducible apply State.nvmeFailAll_step
    | with_reducible apply State.fire_step
    | with_reducible apply State.setSeg_step
    | ((with_reducible refine Step.put (F := 216204273826679944) ?_ hG ?_ ?_); rotate_left; (fail_if_success (with_reducible exact Same.refl _ _)); exact rfl; (first | with_reducible exact State.Inv.congr rfl rfl rfl rfl rfl rfl rfl id id id))
    | with_reducible refine Step.ite (fun _ => ?_) (fun _ => ?_)
    | with_reducible apply foldl_step
    | with_reducible apply foldlFst_step
    | with_reducible intro _
    | with_reducible refine Step.ofFst (by assumption) ?_
    | with_reducible refine StepE.named (by assumption) ?_
    | with_reducible refine StepP.named (by assumption) ?_
    | split
    | dsimp only

theorem State.nvmeTimeout_step {G : Nat} {s0 s : State} {x1} {x2} {x3} (h : Step G s0 s)
    (hG : sub 216204273826679944 G = true) : Step G s0 (State.nvmeTimeout s x1 x2 x3) := by
  unfold State.nvmeTimeout
  try dsimp only
  repeat' first
    | with_reducible assumption
    | ((with_reducible refine sub_trans ?_ hG); exact rfl)
    | with_reducible apply State.fire_step
    | with_reducible apply State.segCount_step
    | with_reducible apply State.nvmeFail_step
    | with_reducible apply State.nvmeReset_step
    | with_reducible apply State.setSeg_step
    | with_reducible refine Step.ite (fun _ => ?_) (fun _ => ?_)

theorem execNvmeCommandTimeout_step {G : Nat} {s0 s : State} {x1} {x2} (h : Step G s0 s)
    (hG : sub 216204273826679945 G = true) : StepO G s0 (execNvmeCommandTimeout x1 x2 s) := by
  unfold execNvmeCommandTimeout
  try dsimp only
  repeat' first
    | with_reducible assumption
    | ((with_reducible refine sub_trans ?_ hG); exact rfl)
    | with_reducible apply State.advanceTo_step
    | with_reducible apply State.nvmeTimeout_step
    | with_reducible refine Step.ite (fun _ => ?_) (fun _ => ?_)
    | with_reducible refine StepO.ite (fun _ => ?_) (fun _ => ?_)
    | with_reducible apply StepO.next
    | with_reducible apply foldl_step
    | with_reducible apply foldlFst_step
    | with_reducible intro _
    | with_reducible refine Step.ofFst (by assumption) ?_
    | with_reducible refine StepE.named (by assumption) ?_
    | with_reducible refine StepP.named (by assumption) ?_
    | split

theorem State.nvmeData_step {G : Nat} {s0 s : State} {x1} {x2} {x3} (h : Step G s0 s)
    (hG : sub 17593194512384 G = true) : Step G s0 (State.nvmeData s x1 x2 x3) := by
  unfold State.nvmeData
  try dsimp only
  repeat' first
    | with_reducible assumption
    | ((with_reducible refine sub_trans ?_ hG); exact rfl)
    | with_reducible apply State.tierWrite_step
    | with_reducible apply State.segCount_step
    | with_reducible refine Step.ite (fun _ => ?_) (fun _ => ?_)
    | with_reducible apply foldl_step
    | with_reducible apply foldlFst_step
    | with_reducible intro _
    | with_reducible refine Step.ofFst (by assumption) ?_
    | with_reducible refine StepE.named (by assumption) ?_
    | with_reducible refine StepP.named (by assumption) ?_
    | rw [id_eq]
    | split
    | dsimp only

theorem State.nvmeGood_step {G : Nat} {s0 s : State} {x1} {x2} (h : Step G s0 s)
    (hG : sub 72079602463018112 G = true) : Step G s0 (State.nvmeGood s x1 x2) := by
  unfold State.nvmeGood
  try dsimp only
  repeat' first
    | with_reducible assumption
    | ((with_reducible refine sub_trans ?_ hG); exact rfl)
    | with_reducible apply State.flashPart_step
    | with_reducible apply State.planMap_step
    | with_reducible refine Step.ite (fun _ => ?_) (fun _ => ?_)
    | with_reducible apply foldl_step
    | with_reducible apply foldlFst_step
    | with_reducible intro _
    | with_reducible refine Step.ofFst (by assumption) ?_
    | with_reducible refine StepE.named (by assumption) ?_
    | with_reducible refine StepP.named (by assumption) ?_
    | rw [id_eq]
    | split
    | dsimp only

theorem execNvmeCompletion_step {G : Nat} {s0 s : State} {x1} {x2} {x3} {x4} (h : Step G s0 s)
    (hG : sub 216204273826679944 G = true) : StepO G s0 (execNvmeCompletion x1 x2 x3 x4 s) := by
  unfold execNvmeCompletion
  try dsimp only
  repeat' first
    | with_reducible assumption
    | ((with_reducible refine sub_trans ?_ hG); exact rfl)
    | with_reducible apply State.nvmeGood_step
    | with_reducible apply State.fire_step
    | with_reducible apply State.segCount_step
    | with_reducible apply State.nvmeFail_step
    | with_reducible apply State.setSeg_step
    | with_reducible apply State.nvmeData_step
    | with_reducible apply whenDue_step
    | with_reducible refine Step.ite (fun _ => ?_) (fun _ => ?_)
    | with_reducible refine StepO.ite (fun _ => ?_) (fun _ => ?_)
    | with_reducible apply StepO.next
    | with_reducible apply foldl_step
    | with_reducible apply foldlFst_step
    | with_reducible intro _
    | with_reducible refine Step.ofFst (by assumption) ?_
    | with_reducible refine StepE.named (by assumption) ?_
    | with_reducible refine StepP.named (by assumption) ?_
    | split

theorem execSmartPoll_step {G : Nat} {s0 s : State} {x1} {x2} (h : Step G s0 s)
    (hG : sub 8797099655169 G = true) : StepO G s0 (execSmartPoll x1 x2 s) := by
  unfold execSmartPoll
  try dsimp only
  repeat' first
    | with_reducible assumption
    | ((with_reducible refine sub_trans ?_ hG); exact rfl)
    | with_reducible apply State.advanceTo_step
    | with_reducible apply State.fire_step
    | with_reducible apply State.setSeg_step
    | with_reducible apply whenDue_step
    | with_reducible refine Step.ite (fun _ => ?_) (fun _ => ?_)

theorem execPatrolScrub_step {G : Nat} {s0 s : State} {x1} (h : Step G s0 s)
    (hG : sub 9024796743434241 G = true) : StepO G s0 (execPatrolScrub x1 s) := by
  unfold execPatrolScrub
  try dsimp only
  repeat' first
    | with_reducible assumption
    | ((with_reducible refine sub_trans ?_ hG); exact rfl)
    | with_reducible apply State.suspect_step
    | with_reducible apply State.tierStrike_step
    | with_reducible apply State.tierLost_step
    | with_reducible apply State.tierFix_step
    | with_reducible apply State.advanceTo_step
    | with_reducible apply each_step
    | with_reducible apply whenDue_step
    | ((with_reducible refine Step.put (F := 9024796743434241) ?_ hG ?_ ?_); rotate_left; (fail_if_success (with_reducible exact Same.refl _ _)); exact rfl; (first | with_reducible exact State.Inv.congr rfl rfl rfl rfl rfl rfl rfl id id id))
    | with_reducible refine Step.ite (fun _ => ?_) (fun _ => ?_)
    | with_reducible refine StepO.ite (fun _ => ?_) (fun _ => ?_)
    | with_reducible apply StepO.next
    | with_reducible apply foldl_step
    | with_reducible apply foldlFst_step
    | with_reducible intro _
    | with_reducible refine Step.ofFst (by assumption) ?_
    | with_reducible refine StepE.named (by assumption) ?_
    | with_reducible refine StepP.named (by assumption) ?_
    | split
    | dsimp only

theorem fxSegmentQuery_step {G : Nat} {s0 s : State} {x1} (h : Step G s0 s)
    (hG : sub 4194304 G = true) : StepE G s0 (fxSegmentQuery x1 s) := by
  unfold fxSegmentQuery
  try dsimp only
  repeat' first
    | with_reducible assumption
    | with_reducible apply State.putCells_step
    | with_reducible refine Step.ite (fun _ => ?_) (fun _ => ?_)
    | with_reducible refine StepE.ite (fun _ => ?_) (fun _ => ?_)
    | with_reducible exact StepE.error
    | with_reducible apply StepE.ok

theorem execSegmentQuery_step {G : Nat} {s0 s : State} {x1} {x2} (h : Step G s0 s)
    (hG : sub 4194304 G = true) : StepO G s0 (execSegmentQuery x1 x2 s) := by
  unfold execSegmentQuery
  try dsimp only
  repeat' first
    | with_reducible assumption
    | with_reducible apply State.odWrite_step
    | with_reducible apply fxSegmentQuery_step
    | with_reducible refine Step.ite (fun _ => ?_) (fun _ => ?_)
    | with_reducible refine StepO.ite (fun _ => ?_) (fun _ => ?_)
    | with_reducible apply StepO.next
    | with_reducible refine StepE.ite (fun _ => ?_) (fun _ => ?_)
    | with_reducible exact StepE.error
    | with_reducible apply StepE.ok
    | with_reducible apply foldl_step
    | with_reducible apply foldlFst_step
    | with_reducible intro _

theorem State.flashSend_step {G : Nat} {s0 s : State} {x1} {x2} {x3} {x4} (h : Step G s0 s)
    (hG : sub 72066390130952192 G = true) : Step G s0 (State.flashSend s x1 x2 x3 x4) := by
  unfold State.flashSend
  try dsimp only
  repeat' first
    | with_reducible assumption
    | ((with_reducible refine sub_trans ?_ hG); exact rfl)
    | with_reducible apply State.entryMap_step
    | with_reducible apply State.nvmeSend_step

theorem State.flashMove_step {G : Nat} {s0 s : State} {x1} {x2} {x3} {x4} (h : Step G s0 s)
    (hG : sub 72084004804496512 G = true) : StepO G s0 (State.flashMove s x1 x2 x3 x4) := by
  unfold State.flashMove
  try dsimp only
  repeat' first
    | with_reducible assumption
    | ((with_reducible refine sub_trans ?_ hG); exact rfl)
    | with_reducible apply State.entryAccept_step
    | with_reducible apply State.entryLost_step
    | with_reducible apply State.entryRefuse_step
    | with_reducible apply State.dmaTake_step
    | with_reducible apply State.suspect_step
    | with_reducible apply State.tierRead_step
    | with_reducible apply State.entryDone_step
    | with_reducible apply State.flashSend_step
    | with_reducible apply whenDue_step
    | with_reducible refine Step.ite (fun _ => ?_) (fun _ => ?_)
    | with_reducible refine StepO.ite (fun _ => ?_) (fun _ => ?_)
    | with_reducible apply StepO.next
    | with_reducible apply foldl_step
    | with_reducible apply foldlFst_step
    | with_reducible intro _
    | with_reducible refine Step.ofFst (by assumption) ?_
    | with_reducible refine StepE.named (by assumption) ?_
    | with_reducible refine StepP.named (by assumption) ?_
    | split

theorem execFread_step {G : Nat} {s0 s : State} {x1} {x2} (h : Step G s0 s)
    (hG : sub 72084004804496512 G = true) : StepO G s0 (execFread x1 x2 s) := by
  unfold execFread
  try dsimp only
  repeat' first
    | with_reducible assumption
    | with_reducible apply State.flashMove_step

theorem execFwrite_step {G : Nat} {s0 s : State} {x1} {x2} (h : Step G s0 s)
    (hG : sub 72084004804496512 G = true) : StepO G s0 (execFwrite x1 x2 s) := by
  unfold execFwrite
  try dsimp only
  repeat' first
    | with_reducible assumption
    | with_reducible apply State.flashMove_step

theorem execFflush_step {G : Nat} {s0 s : State} {x1} {x2} (h : Step G s0 s)
    (hG : sub 72084000509529216 G = true) : StepO G s0 (execFflush x1 x2 s) := by
  unfold execFflush
  try dsimp only
  repeat' first
    | with_reducible assumption
    | ((with_reducible refine sub_trans ?_ hG); exact rfl)
    | with_reducible apply State.entryDone_step
    | with_reducible apply State.flashSend_step
    | with_reducible apply State.accept_step
    | with_reducible refine Step.ite (fun _ => ?_) (fun _ => ?_)
    | with_reducible refine StepO.ite (fun _ => ?_) (fun _ => ?_)
    | with_reducible apply StepO.next
    | with_reducible apply foldl_step
    | with_reducible apply foldlFst_step
    | with_reducible intro _

theorem execFtrim_step {G : Nat} {s0 s : State} {x1} {x2} (h : Step G s0 s)
    (hG : sub 72084000509529216 G = true) : StepO G s0 (execFtrim x1 x2 s) := by
  unfold execFtrim
  try dsimp only
  repeat' first
    | with_reducible assumption
    | ((with_reducible refine sub_trans ?_ hG); exact rfl)
    | with_reducible apply State.entryDone_step
    | with_reducible apply State.flashSend_step
    | with_reducible apply State.accept_step
    | with_reducible refine Step.ite (fun _ => ?_) (fun _ => ?_)
    | with_reducible refine StepO.ite (fun _ => ?_) (fun _ => ?_)
    | with_reducible apply StepO.next
    | with_reducible apply foldl_step
    | with_reducible apply foldlFst_step
    | with_reducible intro _

/-! ### Shutdown -/

theorem State.powerGone_step {G : Nat} {s0 s : State}  (h : Step G s0 s)
    (hG : sub 17872488553738234 G = true) : Step G s0 (State.powerGone s) := by
  unfold State.powerGone
  try dsimp only
  repeat' first
    | with_reducible assumption
    | ((with_reducible refine sub_trans ?_ hG); exact rfl)
    | ((with_reducible refine Step.put (F := 17872488553738234) ?_ hG ?_ ?_); rotate_left; (fail_if_success (with_reducible exact Same.refl _ _)); exact rfl; (first | with_reducible exact State.Inv.congr rfl rfl rfl rfl rfl rfl rfl id id id | exact fun v => ⟨rfl, v.2, v.3, v.4, v.5, v.6, Tab.rises_empty, Tab.rises_empty, Tab.rises_empty⟩))
    | with_reducible refine Step.ite (fun _ => ?_) (fun _ => ?_)
    | with_reducible apply foldl_step
    | with_reducible apply foldlFst_step
    | with_reducible intro _
    | with_reducible refine Step.ofFst (by assumption) ?_
    | with_reducible refine StepE.named (by assumption) ?_
    | with_reducible refine StepP.named (by assumption) ?_
    | split
    | dsimp only

theorem State.flashDown_step {G : Nat} {s0 s : State} {x1} (h : Step G s0 s)
    (hG : sub 216204273826679944 G = true) : Step G s0 (State.flashDown s x1) := by
  unfold State.flashDown
  try dsimp only
  repeat' first
    | with_reducible assumption
    | ((with_reducible refine sub_trans ?_ hG); exact rfl)
    | with_reducible apply State.fire_step
    | with_reducible apply State.nvmeFailAll_step
    | with_reducible apply State.setSeg_step
    | with_reducible refine Step.ite (fun _ => ?_) (fun _ => ?_)

theorem State.netReset_step {G : Nat} {s0 s : State} {x1} (h : Step G s0 s)
    (hG : sub 74889938085872816 G = true) : Step G s0 (State.netReset s x1) := by
  unfold State.netReset
  try dsimp only
  repeat' first
    | with_reducible assumption
    | with_reducible apply State.portDown_step
    | with_reducible refine Step.ite (fun _ => ?_) (fun _ => ?_)

theorem State.unitsOff_step {G : Nat} {s0 s : State} (h : Step G s0 s)
    (hG : sub 219019028970884280 G = true) : Step G s0 (State.unitsOff s) := by
  unfold State.unitsOff
  try dsimp only
  repeat' first
    | with_reducible assumption
    | ((with_reducible refine sub_trans ?_ hG); exact rfl)
    | with_reducible apply State.netReset_step
    | with_reducible apply State.flashDown_step
    | with_reducible apply State.linkDrop_step
    | with_reducible apply each_step
    | with_reducible refine Step.ite (fun _ => ?_) (fun _ => ?_)
    | with_reducible apply foldl_step
    | with_reducible apply foldlFst_step
    | with_reducible intro _
    | with_reducible refine Step.ofFst (by assumption) ?_
    | with_reducible refine StepE.named (by assumption) ?_
    | with_reducible refine StepP.named (by assumption) ?_
    | split
    | dsimp only

theorem State.orderlyShutdown_step {G : Nat} {s0 s : State} {x1} {x2} (h : Step G s0 s)
    (hG : sub 234045272756285434 G = true) : Step G s0 (State.orderlyShutdown s x1 x2) := by
  unfold State.orderlyShutdown
  dsimp only
  refine Step.ite (fun _ => h) (fun _ => ?_)
  have k : Step G s0 (s.emcyPower 0xFF69 x2 x1).closeAllJobs.unitsOff.powerGone :=
    State.powerGone_step (State.unitsOff_step (State.closeAllJobs_step (State.emcyPower_step h (sub_trans rfl hG))
      (sub_trans rfl hG)) (sub_trans rfl hG)) (sub_trans rfl hG)
  revert k
  generalize State.powerGone _ = u
  intro k
  have b : Step G s0 { u with power := { u.power with needRequest := true }, up := { u.up with phase := .shutdown, step := 6 } } :=
    Step.put (F := 234045272756285434) k hG rfl (State.Inv.congr rfl rfl rfl rfl rfl rfl rfl id id id)
  exact Step.ite (fun _ => b) fun _ => State.logAct_step b (sub_trans rfl hG)

theorem State.collarRestart_step {G : Nat} {s0 s : State}  (h : Step G s0 s)
    (hG : sub 45036065001570304 G = true) : Step G s0 (State.collarRestart s) := by
  unfold State.collarRestart
  try dsimp only
  repeat' first
    | with_reducible assumption
    | ((with_reducible refine sub_trans ?_ hG); exact rfl)
    | ((with_reducible refine Step.put (F := 45036065001570304) ?_ hG ?_ ?_); rotate_left; (fail_if_success (with_reducible exact Same.refl _ _)); exact rfl; (first | with_reducible exact State.Inv.congr rfl rfl rfl rfl rfl rfl rfl id id id))
    | with_reducible refine Step.ite (fun _ => ?_) (fun _ => ?_)
    | with_reducible apply foldl_step
    | with_reducible apply foldlFst_step
    | with_reducible intro _
    | with_reducible refine Step.ofFst (by assumption) ?_
    | with_reducible refine StepE.named (by assumption) ?_
    | with_reducible refine StepP.named (by assumption) ?_
    | split
    | dsimp only

theorem State.collarStops_step {G : Nat} {s0 s : State} {x1} (h : Step G s0 s)
    (hG : sub 53901354300567546 G = true) : Step G s0 (State.collarStops s x1) := by
  unfold State.collarStops
  try dsimp only
  repeat' first
    | with_reducible assumption
    | ((with_reducible refine sub_trans ?_ hG); exact rfl)
    | with_reducible apply State.powerGone_step
    | ((with_reducible refine Step.put (F := 53901354300567546) ?_ hG ?_ ?_); rotate_left; (fail_if_success (with_reducible exact Same.refl _ _)); exact rfl; (first | with_reducible exact State.Inv.congr rfl rfl rfl rfl rfl rfl rfl id id id))
    | with_reducible refine Step.ite (fun _ => ?_) (fun _ => ?_)
    | with_reducible apply foldl_step
    | with_reducible apply foldlFst_step
    | with_reducible intro _
    | with_reducible refine Step.ofFst (by assumption) ?_
    | with_reducible refine StepE.named (by assumption) ?_
    | with_reducible refine StepP.named (by assumption) ?_
    | split
    | dsimp only

theorem State.collarReset_step {G : Nat} {s0 s : State}  (h : Step G s0 s)
    (hG : sub 45036065001570304 G = true) : Step G s0 (State.collarReset s) := by
  unfold State.collarReset
  try dsimp only
  repeat' first
    | with_reducible assumption
    | ((with_reducible refine sub_trans ?_ hG); exact rfl)
    | ((with_reducible refine Step.put (F := 45036065001570304) ?_ hG ?_ ?_); rotate_left; (fail_if_success (with_reducible exact Same.refl _ _)); exact rfl; (first | with_reducible exact State.Inv.congr rfl rfl rfl rfl rfl rfl rfl id id id))
    | with_reducible refine Step.ite (fun _ => ?_) (fun _ => ?_)
    | with_reducible apply foldl_step
    | with_reducible apply foldlFst_step
    | with_reducible intro _
    | with_reducible refine Step.ofFst (by assumption) ?_
    | with_reducible refine StepE.named (by assumption) ?_
    | with_reducible refine StepP.named (by assumption) ?_
    | split
    | dsimp only

theorem State.fallback_step {G : Nat} {s0 s : State}  (h : Step G s0 s)
    (hG : sub 270074138494726138 G = true) : Step G s0 (State.fallback s) := by
  unfold State.fallback
  try dsimp only
  repeat' first
    | with_reducible assumption
    | ((with_reducible refine sub_trans ?_ hG); exact rfl)
    | with_reducible apply State.fire_step
    | with_reducible apply State.collarRestart_step
    | with_reducible apply State.emcyEvent_step
    | with_reducible apply State.orderlyShutdown_step
    | ((with_reducible refine Step.put (F := 270074138494726138) ?_ hG ?_ ?_); rotate_left; (fail_if_success (with_reducible exact Same.refl _ _)); exact rfl; (first | with_reducible exact State.Inv.congr rfl rfl rfl rfl rfl rfl rfl id id id))
    | with_reducible refine Step.ite (fun _ => ?_) (fun _ => ?_)
    | with_reducible apply foldl_step
    | with_reducible apply foldlFst_step
    | with_reducible intro _
    | with_reducible refine Step.ofFst (by assumption) ?_
    | with_reducible refine StepE.named (by assumption) ?_
    | with_reducible refine StepP.named (by assumption) ?_
    | split
    | dsimp only

theorem State.healthFail_step {G : Nat} {s0 s : State}  (h : Step G s0 s)
    (hG : sub 270074138494726138 G = true) : Step G s0 (State.healthFail s) := by
  unfold State.healthFail
  try dsimp only
  repeat' first
    | with_reducible assumption
    | ((with_reducible refine sub_trans ?_ hG); exact rfl)
    | with_reducible apply State.fire_step
    | with_reducible apply State.fallback_step
    | with_reducible apply State.emcyEvent_step
    | ((with_reducible refine Step.put (F := 270074138494726138) ?_ hG ?_ ?_); rotate_left; (fail_if_success (with_reducible exact Same.refl _ _)); exact rfl; (first | with_reducible exact State.Inv.congr rfl rfl rfl rfl rfl rfl rfl id id id))
    | with_reducible refine Step.ite (fun _ => ?_) (fun _ => ?_)

theorem State.yokeAgain_step {G : Nat} {s0 s : State}  (h : Step G s0 s)
    (hG : sub 9007199254740992 G = true) : Step G s0 (State.yokeAgain s) := by
  unfold State.yokeAgain
  try dsimp only
  repeat' first
    | with_reducible assumption
    | ((with_reducible refine sub_trans ?_ hG); exact rfl)
    | ((with_reducible refine Step.put (F := 9007199254740992) ?_ hG ?_ ?_); rotate_left; (fail_if_success (with_reducible exact Same.refl _ _)); exact rfl; (first | with_reducible exact State.Inv.congr rfl rfl rfl rfl rfl rfl rfl id id id))
    | with_reducible refine Step.ite (fun _ => ?_) (fun _ => ?_)
    | with_reducible apply foldl_step
    | with_reducible apply foldlFst_step
    | with_reducible intro _
    | with_reducible refine Step.ofFst (by assumption) ?_
    | with_reducible refine StepE.named (by assumption) ?_
    | with_reducible refine StepP.named (by assumption) ?_
    | split
    | dsimp only

theorem State.yokeFail_step {G : Nat} {s0 s : State} {x1} {x2} (h : Step G s0 s)
    (hG : sub 81087489994681528 G = true) : Step G s0 (State.yokeFail s x1 x2) := by
  unfold State.yokeFail
  try dsimp only
  repeat' first
    | with_reducible assumption
    | ((with_reducible refine sub_trans ?_ hG); exact rfl)
    | with_reducible apply State.killAll_step
    | with_reducible apply State.emcyEvent_step
    | with_reducible apply State.bump64_step
    | with_reducible apply State.logAct_step
    | with_reducible apply State.yokeAgain_step
    | with_reducible apply State.abortAll_step
    | with_reducible apply State.plansToLoaded_step

theorem State.hemReset_step {G : Nat} {s0 s : State} {x1} {x2} (h : Step G s0 s)
    (hG : sub 225211477376388232 G = true) : Step G s0 (State.hemReset s x1 x2) := by
  unfold State.hemReset
  try dsimp only
  repeat' first
    | with_reducible assumption
    | ((with_reducible refine sub_trans ?_ hG); exact rfl)
    | with_reducible apply State.flashDown_step
    | with_reducible apply State.suspect_step
    | ((with_reducible refine Step.put (F := 225211477376388232) ?_ hG ?_ ?_); rotate_left; (fail_if_success (with_reducible exact Same.refl _ _)); exact rfl; (first | with_reducible exact State.Inv.congr rfl rfl rfl rfl rfl rfl rfl id id id))
    | with_reducible refine Step.ite (fun _ => ?_) (fun _ => ?_)
    | with_reducible apply foldl_step
    | with_reducible apply foldlFst_step
    | with_reducible intro _
    | with_reducible refine Step.ofFst (by assumption) ?_
    | with_reducible refine StepE.named (by assumption) ?_
    | with_reducible refine StepP.named (by assumption) ?_
    | split
    | dsimp only

theorem State.seamRowLost_step {G : Nat} {s0 s : State} {x1} (h : Step G s0 s)
    (hG : sub 72075364412425394 G = true) : Step G s0 (State.seamRowLost s x1) := by
  unfold State.seamRowLost
  try dsimp only
  repeat' first
    | with_reducible assumption
    | with_reducible apply State.declareLost_step
    | with_reducible apply each_step
    | with_reducible refine Step.ite (fun _ => ?_) (fun _ => ?_)
    | with_reducible apply foldl_step
    | with_reducible apply foldlFst_step
    | with_reducible intro _

theorem columnTaken_mode (w : Wafer) (x : Nat) : (w.columnTaken x).mode = w.mode := by
  unfold Wafer.columnTaken
  exact foldl_keeps (p := fun y : Wafer => y.mode = w.mode) rfl fun u i hu => by simpa [Wafer.lanesTaken] using hu

theorem State.seamColLost_step {G : Nat} {s0 s : State} {x1} (h : Step G s0 s)
    (hG : sub 72075364412425394 G = true) : Step G s0 (State.seamColLost s x1) := by
  unfold State.seamColLost
  have k : Step G s0 { s with wafer := s.wafer.columnTaken x1 } := Step.put (F := 72075364412425394) h hG rfl
    (State.Inv.congr rfl (columnTaken_mode _ _) rfl rfl rfl rfl rfl id id id)
  exact each_step k fun _ _ hu => State.declareLost_step hu (sub_trans rfl hG)

theorem State.panelContents_step {G : Nat} {s0 s : State} {x1} (h : Step G s0 s)
    (hG : sub 137438953472 G = true) : Step G s0 (State.panelContents s x1) := by
  unfold State.panelContents
  try dsimp only
  repeat' first
    | with_reducible assumption
    | ((with_reducible refine sub_trans ?_ hG); exact rfl)
    | ((with_reducible refine Step.put (F := 137438953472) ?_ hG ?_ ?_); rotate_left; (fail_if_success (with_reducible exact Same.refl _ _)); exact rfl; (first | with_reducible exact State.Inv.congr rfl rfl rfl rfl rfl rfl rfl id id id))
    | with_reducible refine Step.ite (fun _ => ?_) (fun _ => ?_)
    | with_reducible apply foldl_step
    | with_reducible apply foldlFst_step
    | with_reducible intro _
    | with_reducible refine Step.ofFst (by assumption) ?_
    | with_reducible refine StepE.named (by assumption) ?_
    | with_reducible refine StepP.named (by assumption) ?_
    | split
    | dsimp only

theorem State.panelReset_step {G : Nat} {s0 s : State} {x1} {x2} (h : Step G s0 s)
    (hG : sub 76578964039795890 G = true) : Step G s0 (State.panelReset s x1 x2) := by
  unfold State.panelReset
  try dsimp only
  repeat' first
    | with_reducible assumption
    | ((with_reducible refine sub_trans ?_ hG); exact rfl)
    | with_reducible apply State.panelContents_step
    | with_reducible apply State.setPanelPower_step
    | with_reducible apply State.declareLost_step
    | with_reducible apply State.suspect_step
    | with_reducible refine Step.ite (fun _ => ?_) (fun _ => ?_)
    | with_reducible apply foldl_step
    | with_reducible apply foldlFst_step
    | with_reducible intro _
    | with_reducible refine Step.ofFst (by assumption) ?_
    | with_reducible refine StepE.named (by assumption) ?_
    | with_reducible refine StepP.named (by assumption) ?_
    | split
    | dsimp only

/-! ### Power -/

theorem State.inputState_step {G : Nat} {s0 s : State} {x1} {x2} (h : Step G s0 s)
    (hG : sub 125958950418870266 G = true) : Step G s0 (State.inputState s x1 x2) := by
  unfold State.inputState
  try dsimp only
  repeat' first
    | with_reducible assumption
    | ((with_reducible refine sub_trans ?_ hG); exact rfl)
    | with_reducible apply State.collarStops_step
    | with_reducible apply State.powerGone_step
    | with_reducible apply State.emcyPower_step
    | with_reducible apply State.fire_step
    | ((with_reducible refine Step.put (F := 125958950418870266) ?_ hG ?_ ?_); rotate_left; (fail_if_success (with_reducible exact Same.refl _ _)); exact rfl; (first | with_reducible exact State.Inv.congr rfl rfl rfl rfl rfl rfl rfl id id id))
    | with_reducible refine Step.ite (fun _ => ?_) (fun _ => ?_)
    | with_reducible apply foldl_step
    | with_reducible apply foldlFst_step
    | with_reducible intro _
    | with_reducible refine Step.ofFst (by assumption) ?_
    | with_reducible refine StepE.named (by assumption) ?_
    | with_reducible refine StepP.named (by assumption) ?_
    | split
    | dsimp only

theorem execMainInputStateChange_step {G : Nat} {s0 s : State} {x1} {x2} (h : Step G s0 s)
    (hG : sub 125958952566353914 G = true) : StepO G s0 (execMainInputStateChange x1 x2 s) := by
  unfold execMainInputStateChange
  try dsimp only
  repeat' first
    | with_reducible assumption
    | ((with_reducible refine sub_trans ?_ hG); exact rfl)
    | with_reducible apply State.inputState_step
    | with_reducible apply whenSettled_step
    | with_reducible apply whenDue_step
    | ((with_reducible refine Step.put (F := 125958952566353914) ?_ hG ?_ ?_); rotate_left; (fail_if_success (with_reducible exact Same.refl _ _)); exact rfl; (first | with_reducible exact State.Inv.congr rfl rfl rfl rfl rfl rfl rfl id id id))
    | with_reducible refine Step.ite (fun _ => ?_) (fun _ => ?_)
    | with_reducible refine StepO.ite (fun _ => ?_) (fun _ => ?_)
    | with_reducible apply StepO.next
    | with_reducible apply foldl_step
    | with_reducible apply foldlFst_step
    | with_reducible intro _
    | with_reducible refine Step.ofFst (by assumption) ?_
    | with_reducible refine StepE.named (by assumption) ?_
    | with_reducible refine StepP.named (by assumption) ?_
    | split
    | dsimp only

theorem execStandbyInputFault_step {G : Nat} {s0 s : State} {x1} (h : Step G s0 s)
    (hG : sub 125958952566353914 G = true) : StepO G s0 (execStandbyInputFault x1 s) := by
  unfold execStandbyInputFault
  try dsimp only
  repeat' first
    | with_reducible assumption
    | ((with_reducible refine sub_trans ?_ hG); exact rfl)
    | with_reducible apply State.collarStops_step
    | with_reducible apply whenSettled_step
    | with_reducible apply State.fire_step
    | ((with_reducible refine Step.put (F := 125958952566353914) ?_ hG ?_ ?_); rotate_left; (fail_if_success (with_reducible exact Same.refl _ _)); exact rfl; (first | with_reducible exact State.Inv.congr rfl rfl rfl rfl rfl rfl rfl id id id))
    | with_reducible refine Step.ite (fun _ => ?_) (fun _ => ?_)
    | with_reducible refine StepO.ite (fun _ => ?_) (fun _ => ?_)
    | with_reducible apply StepO.next
    | with_reducible apply foldl_step
    | with_reducible apply foldlFst_step
    | with_reducible intro _
    | with_reducible refine Step.ofFst (by assumption) ?_
    | with_reducible refine StepE.named (by assumption) ?_
    | with_reducible refine StepP.named (by assumption) ?_
    | split
    | dsimp only

theorem State.phaseCheck_step {G : Nat} {s0 s : State}  (h : Step G s0 s)
    (hG : sub 45035996273704960 G = true) : Step G s0 (State.phaseCheck s) := by
  unfold State.phaseCheck
  try dsimp only
  repeat' first
    | with_reducible assumption
    | ((with_reducible refine Step.put (F := 45035996273704960) ?_ hG ?_ ?_); rotate_left; (fail_if_success (with_reducible exact Same.refl _ _)); exact rfl; (first | with_reducible exact State.Inv.congr rfl rfl rfl rfl rfl rfl rfl id id id))
    | with_reducible refine Step.ite (fun _ => ?_) (fun _ => ?_)

theorem State.stepFailed_step {G : Nat} {s0 s : State} {x1} {x2} {x3} (h : Step G s0 s)
    (hG : sub 72075188318766256 G = true) : Step G s0 (State.stepFailed s x1 x2 x3) := by
  unfold State.stepFailed
  try dsimp only
  repeat' first
    | with_reducible assumption
    | with_reducible apply State.emcyEvent_step

theorem State.domainGood_step {G : Nat} {s0 s : State} {x1} (h : Step G s0 s)
    (hG : sub 13510798882111488 G = true) : Step G s0 (State.domainGood s x1) := by
  unfold State.domainGood
  try dsimp only
  repeat' first
    | with_reducible assumption
    | ((with_reducible refine sub_trans ?_ hG); exact rfl)
    | with_reducible apply State.setPanelPower_step
    | with_reducible apply State.setDomain_step
    | with_reducible apply State.clocksFresh_step
    | ((with_reducible refine Step.put (F := 13510798882111488) ?_ hG ?_ ?_); rotate_left; (fail_if_success (with_reducible exact Same.refl _ _)); exact rfl; (first | with_reducible exact State.Inv.congr rfl rfl rfl rfl rfl rfl rfl id id id))
    | with_reducible refine Step.ite (fun _ => ?_) (fun _ => ?_)
    | with_reducible apply foldl_step
    | with_reducible apply foldlFst_step
    | with_reducible intro _
    | with_reducible refine Step.ofFst (by assumption) ?_
    | with_reducible refine StepE.named (by assumption) ?_
    | with_reducible refine StepP.named (by assumption) ?_
    | split
    | dsimp only

theorem State.segmentFell_step {G : Nat} {s0 s : State} {x1} (h : Step G s0 s)
    (hG : sub 225211473083518088 G = true) : Step G s0 (State.segmentFell s x1) := by
  unfold State.segmentFell
  try dsimp only
  repeat' first
    | with_reducible assumption
    | ((with_reducible refine sub_trans ?_ hG); exact rfl)
    | with_reducible apply State.flashDown_step
    | ((with_reducible refine Step.put (F := 225211473083518088) ?_ hG ?_ ?_); rotate_left; (fail_if_success (with_reducible exact Same.refl _ _)); exact rfl; (first | with_reducible exact State.Inv.congr rfl rfl rfl rfl rfl rfl rfl id id id | exact fun v => ⟨Memory.wipe_wf v.1 _ _, v.2, v.3, v.4, v.5, v.6, v.7⟩))
    | with_reducible refine Step.ite (fun _ => ?_) (fun _ => ?_)
    | with_reducible apply foldl_step
    | with_reducible apply foldlFst_step
    | with_reducible intro _
    | with_reducible refine Step.ofFst (by assumption) ?_
    | with_reducible refine StepE.named (by assumption) ?_
    | with_reducible refine StepP.named (by assumption) ?_
    | split
    | dsimp only

theorem State.domainFell_step {G : Nat} {s0 s : State} {x1} (h : Step G s0 s)
    (hG : sub 232529827855092920 G = true) : Step G s0 (State.domainFell s x1) := by
  unfold State.domainFell
  try dsimp only
  repeat' first
    | with_reducible assumption
    | ((with_reducible refine sub_trans ?_ hG); exact rfl)
    | with_reducible apply State.segmentFell_step
    | with_reducible apply State.setPanelPower_step
    | with_reducible apply State.linkDrop_step
    | with_reducible apply State.domainOff_step
    | with_reducible apply State.clearPanel_step
    | with_reducible apply State.netReset_step
    | with_reducible refine Step.ite (fun _ => ?_) (fun _ => ?_)

theorem State.yokeRequest_step {G : Nat} {s0 s : State}  (h : Step G s0 s)
    (hG : sub 125958950418870266 G = true) : Step G s0 (State.yokeRequest s) := by
  unfold State.yokeRequest
  try dsimp only
  repeat' first
    | with_reducible assumption
    | ((with_reducible refine sub_trans ?_ hG); exact rfl)
    | with_reducible apply State.inputState_step
    | with_reducible apply State.rampStart_step
    | ((with_reducible refine Step.put (F := 125958950418870266) ?_ hG ?_ ?_); rotate_left; (fail_if_success (with_reducible exact Same.refl _ _)); exact rfl; (first | with_reducible exact State.Inv.congr rfl rfl rfl rfl rfl rfl rfl id id id))
    | with_reducible refine Step.ite (fun _ => ?_) (fun _ => ?_)

theorem fxDomainRequestOn_step {G : Nat} {s0 s : State} {x1} (h : Step G s0 s)
    (hG : sub 125958950418870266 G = true) : StepE G s0 (fxDomainRequestOn x1 s) := by
  unfold fxDomainRequestOn
  try dsimp only
  repeat' first
    | with_reducible assumption
    | ((with_reducible refine sub_trans ?_ hG); exact rfl)
    | with_reducible apply State.yokeRequest_step
    | with_reducible apply State.putCell_step
    | with_reducible apply State.rampAll_step
    | with_reducible apply State.setDomain_step
    | with_reducible refine Step.ite (fun _ => ?_) (fun _ => ?_)
    | with_reducible refine StepE.ite (fun _ => ?_) (fun _ => ?_)
    | with_reducible exact StepE.error
    | with_reducible apply StepE.ok

theorem execDomainRequestOn_step {G : Nat} {s0 s : State} {x1} {x2} (h : Step G s0 s)
    (hG : sub 125958952566353914 G = true) : StepO G s0 (execDomainRequestOn x1 x2 s) := by
  unfold execDomainRequestOn
  try dsimp only
  repeat' first
    | with_reducible assumption
    | ((with_reducible refine sub_trans ?_ hG); exact rfl)
    | with_reducible apply fxDomainRequestOn_step
    | with_reducible apply State.odWriteSettled_step
    | with_reducible refine Step.ite (fun _ => ?_) (fun _ => ?_)
    | with_reducible refine StepO.ite (fun _ => ?_) (fun _ => ?_)
    | with_reducible apply StepO.next
    | with_reducible refine StepE.ite (fun _ => ?_) (fun _ => ?_)
    | with_reducible exact StepE.error
    | with_reducible apply StepE.ok
    | with_reducible apply foldl_step
    | with_reducible apply foldlFst_step
    | with_reducible intro _

theorem fxDomainRequestOff_step {G : Nat} {s0 s : State} {x1} (h : Step G s0 s)
    (hG : sub 234045272756285434 G = true) : StepE G s0 (fxDomainRequestOff x1 s) := by
  unfold fxDomainRequestOff
  try dsimp only
  repeat' first
    | with_reducible assumption
    | ((with_reducible refine sub_trans ?_ hG); exact rfl)
    | with_reducible apply State.putCell_step
    | with_reducible apply State.orderlyShutdown_step
    | with_reducible apply State.domainFell_step
    | with_reducible apply each_step
    | with_reducible refine Step.ite (fun _ => ?_) (fun _ => ?_)
    | with_reducible refine StepE.ite (fun _ => ?_) (fun _ => ?_)
    | with_reducible exact StepE.error
    | with_reducible apply StepE.ok
    | with_reducible apply foldl_step
    | with_reducible apply foldlFst_step
    | with_reducible intro _

theorem execDomainRequestOff_step {G : Nat} {s0 s : State} {x1} {x2} (h : Step G s0 s)
    (hG : sub 234045274903769082 G = true) : StepO G s0 (execDomainRequestOff x1 x2 s) := by
  unfold execDomainRequestOff
  try dsimp only
  repeat' first
    | with_reducible assumption
    | ((with_reducible refine sub_trans ?_ hG); exact rfl)
    | with_reducible apply State.odWriteSettled_step
    | with_reducible apply fxDomainRequestOff_step
    | with_reducible refine Step.ite (fun _ => ?_) (fun _ => ?_)
    | with_reducible refine StepO.ite (fun _ => ?_) (fun _ => ?_)
    | with_reducible apply StepO.next
    | with_reducible refine StepE.ite (fun _ => ?_) (fun _ => ?_)
    | with_reducible exact StepE.error
    | with_reducible apply StepE.ok
    | with_reducible apply foldl_step
    | with_reducible apply foldlFst_step
    | with_reducible intro _

theorem execDomainRampStart_step {G : Nat} {s0 s : State} {x1} (h : Step G s0 s)
    (hG : sub 4503599627370496 G = true) : StepO G s0 (execDomainRampStart x1 s) := by
  unfold execDomainRampStart
  try dsimp only
  repeat' first
    | with_reducible assumption
    | with_reducible apply State.rampStart_step
    | with_reducible apply whenDue_step

theorem execDomainPowerGood_step {G : Nat} {s0 s : State} {x1} (h : Step G s0 s)
    (hG : sub 121619888788688058 G = true) : StepO G s0 (execDomainPowerGood x1 s) := by
  unfold execDomainPowerGood
  try dsimp only
  repeat' first
    | with_reducible assumption
    | ((with_reducible refine sub_trans ?_ hG); exact rfl)
    | with_reducible apply State.domainGood_step
    | with_reducible apply State.phaseCheck_step
    | with_reducible apply State.atOnce_step
    | with_reducible apply whenSettled_step
    | with_reducible refine Step.ite (fun _ => ?_) (fun _ => ?_)
    | with_reducible refine StepO.ite (fun _ => ?_) (fun _ => ?_)
    | with_reducible apply StepO.next
    | with_reducible apply foldl_step
    | with_reducible apply foldlFst_step
    | with_reducible intro _
    | with_reducible refine Step.ofFst (by assumption) ?_
    | with_reducible refine StepE.named (by assumption) ?_
    | with_reducible refine StepP.named (by assumption) ?_
    | split
    | dsimp only

theorem State.yokeStartFailed_step {G : Nat} {s0 s : State}  (h : Step G s0 s)
    (hG : sub 17872488553738234 G = true) : Step G s0 (State.yokeStartFailed s) := by
  unfold State.yokeStartFailed
  try dsimp only
  repeat' first
    | with_reducible assumption
    | ((with_reducible refine sub_trans ?_ hG); exact rfl)
    | with_reducible apply State.powerGone_step
    | ((with_reducible refine Step.put (F := 17872488553738234) ?_ hG ?_ ?_); rotate_left; (fail_if_success (with_reducible exact Same.refl _ _)); exact rfl; (first | with_reducible exact State.Inv.congr rfl rfl rfl rfl rfl rfl rfl id id id))
    | with_reducible refine Step.ite (fun _ => ?_) (fun _ => ?_)
    | with_reducible apply foldl_step
    | with_reducible apply foldlFst_step
    | with_reducible intro _
    | with_reducible refine Step.ofFst (by assumption) ?_
    | with_reducible refine StepE.named (by assumption) ?_
    | with_reducible refine StepP.named (by assumption) ?_
    | split
    | dsimp only

theorem State.panelMark_step {G : Nat} {s0 s : State} {x1} {x2} (h : Step G s0 s)
    (hG : sub 9007199254740992 G = true) : Step G s0 (State.panelMark s x1 x2) := by
  unfold State.panelMark
  try dsimp only
  repeat' first
    | with_reducible assumption
    | ((with_reducible refine sub_trans ?_ hG); exact rfl)
    | ((with_reducible refine Step.put (F := 9007199254740992) ?_ hG ?_ ?_); rotate_left; (fail_if_success (with_reducible exact Same.refl _ _)); exact rfl; (first | with_reducible exact State.Inv.congr rfl rfl rfl rfl rfl rfl rfl id id id))
    | with_reducible refine Step.ite (fun _ => ?_) (fun _ => ?_)
    | with_reducible apply foldl_step
    | with_reducible apply foldlFst_step
    | with_reducible intro _
    | with_reducible refine Step.ofFst (by assumption) ?_
    | with_reducible refine StepE.named (by assumption) ?_
    | with_reducible refine StepP.named (by assumption) ?_
    | split
    | dsimp only

theorem State.noPowerGood_step {G : Nat} {s0 s : State} {x1} (h : Step G s0 s)
    (hG : sub 89930084680429562 G = true) : Step G s0 (State.noPowerGood s x1) := by
  unfold State.noPowerGood
  try dsimp only
  repeat' first
    | with_reducible assumption
    | ((with_reducible refine sub_trans ?_ hG); exact rfl)
    | with_reducible apply State.stepFailed_step
    | with_reducible apply State.yokeStartFailed_step
    | with_reducible apply State.domainOff_step
    | with_reducible apply State.fire_step
    | with_reducible apply State.panelMark_step
    | with_reducible apply each_step
    | ((with_reducible refine Step.put (F := 89930084680429562) ?_ hG ?_ ?_); rotate_left; (fail_if_success (with_reducible exact Same.refl _ _)); exact rfl; (first | with_reducible exact State.Inv.congr rfl rfl rfl rfl rfl rfl rfl id id id))
    | with_reducible refine Step.ite (fun _ => ?_) (fun _ => ?_)
    | with_reducible apply foldl_step
    | with_reducible apply foldlFst_step
    | with_reducible intro _

theorem execDomainPowerGoodTimeout_step {G : Nat} {s0 s : State} {x1} (h : Step G s0 s)
    (hG : sub 125958883846877179 G = true) : StepO G s0 (execDomainPowerGoodTimeout x1 s) := by
  unfold execDomainPowerGoodTimeout
  try dsimp only
  repeat' first
    | with_reducible assumption
    | ((with_reducible refine sub_trans ?_ hG); exact rfl)
    | with_reducible apply State.noPowerGood_step
    | with_reducible apply State.phaseCheck_step
    | with_reducible apply State.atOnce_step
    | with_reducible apply whenSettled_step
    | with_reducible apply State.advanceTo_step
    | with_reducible refine Step.ite (fun _ => ?_) (fun _ => ?_)
    | with_reducible refine StepO.ite (fun _ => ?_) (fun _ => ?_)
    | with_reducible apply StepO.next
    | with_reducible apply foldl_step
    | with_reducible apply foldlFst_step
    | with_reducible intro _
    | with_reducible refine Step.ofFst (by assumption) ?_
    | with_reducible refine StepE.named (by assumption) ?_
    | with_reducible refine StepP.named (by assumption) ?_
    | split
    | dsimp only

theorem State.brownOut_step {G : Nat} {s0 s : State} {x1} {x2} (h : Step G s0 s)
    (hG : sub 76578787946136752 G = true) : Step G s0 (State.brownOut s x1 x2) := by
  unfold State.brownOut
  try dsimp only
  repeat' first
    | with_reducible assumption
    | ((with_reducible refine sub_trans ?_ hG); exact rfl)
    | with_reducible apply State.setPanelPower_step
    | with_reducible apply State.emcyPower_step
    | with_reducible refine Step.ite (fun _ => ?_) (fun _ => ?_)

theorem execPanelRailWarning_step {G : Nat} {s0 s : State} {x1} {x2} {x3} (h : Step G s0 s)
    (hG : sub 85585989348361392 G = true) : StepO G s0 (execPanelRailWarning x1 x2 x3 s) := by
  unfold execPanelRailWarning
  try dsimp only
  repeat' first
    | with_reducible assumption
    | ((with_reducible refine sub_trans ?_ hG); exact rfl)
    | with_reducible apply State.brownOut_step
    | with_reducible apply State.setPanelPower_step
    | with_reducible apply whenSettled_step
    | with_reducible apply State.fire_step
    | with_reducible refine Step.ite (fun _ => ?_) (fun _ => ?_)
    | with_reducible refine StepO.ite (fun _ => ?_) (fun _ => ?_)
    | with_reducible apply StepO.next
    | with_reducible apply foldl_step
    | with_reducible apply foldlFst_step
    | with_reducible intro _
    | with_reducible refine Step.ofFst (by assumption) ?_
    | with_reducible refine StepE.named (by assumption) ?_
    | with_reducible refine StepP.named (by assumption) ?_
    | split
    | dsimp only

theorem execPanelRailRecovered_step {G : Nat} {s0 s : State} {x1} {x2} {x3} (h : Step G s0 s)
    (hG : sub 85585989348361392 G = true) : StepO G s0 (execPanelRailRecovered x1 x2 x3 s) := by
  unfold execPanelRailRecovered
  try dsimp only
  repeat' first
    | with_reducible assumption
    | ((with_reducible refine sub_trans ?_ hG); exact rfl)
    | with_reducible apply State.setPanelPower_step
    | with_reducible apply whenSettled_step
    | with_reducible refine Step.ite (fun _ => ?_) (fun _ => ?_)
    | with_reducible refine StepO.ite (fun _ => ?_) (fun _ => ?_)
    | with_reducible apply StepO.next
    | with_reducible apply foldl_step
    | with_reducible apply foldlFst_step
    | with_reducible intro _
    | with_reducible refine Step.ofFst (by assumption) ?_
    | with_reducible refine StepE.named (by assumption) ?_
    | with_reducible refine StepP.named (by assumption) ?_
    | split
    | dsimp only

theorem execPanelRailReset_step {G : Nat} {s0 s : State} {x1} {x2} {x3} (h : Step G s0 s)
    (hG : sub 85586165442020530 G = true) : StepO G s0 (execPanelRailReset x1 x2 x3 s) := by
  unfold execPanelRailReset
  try dsimp only
  repeat' first
    | with_reducible assumption
    | ((with_reducible refine sub_trans ?_ hG); exact rfl)
    | with_reducible apply State.panelReset_step
    | with_reducible apply State.setPanelPower_step
    | with_reducible apply whenSettled_step
    | with_reducible apply State.emcyPower_step
    | with_reducible apply State.fire_step
    | with_reducible refine Step.ite (fun _ => ?_) (fun _ => ?_)
    | with_reducible refine StepO.ite (fun _ => ?_) (fun _ => ?_)
    | with_reducible apply StepO.next
    | with_reducible apply foldl_step
    | with_reducible apply foldlFst_step
    | with_reducible intro _
    | with_reducible refine Step.ofFst (by assumption) ?_
    | with_reducible refine StepE.named (by assumption) ?_
    | with_reducible refine StepP.named (by assumption) ?_
    | split
    | dsimp only

theorem execPanelResetRelease_step {G : Nat} {s0 s : State} {x1} (h : Step G s0 s)
    (hG : sub 4503599627370497 G = true) : StepO G s0 (execPanelResetRelease x1 s) := by
  unfold execPanelResetRelease
  try dsimp only
  repeat' first
    | with_reducible assumption
    | ((with_reducible refine sub_trans ?_ hG); exact rfl)
    | with_reducible apply State.setPanelPower_step
    | with_reducible apply State.clocksFresh_step
    | with_reducible apply State.advanceTo_step
    | with_reducible apply whenDue_step
    | with_reducible refine Step.ite (fun _ => ?_) (fun _ => ?_)
    | with_reducible refine StepO.ite (fun _ => ?_) (fun _ => ?_)
    | with_reducible apply StepO.next
    | with_reducible apply foldl_step
    | with_reducible apply foldlFst_step
    | with_reducible intro _
    | with_reducible refine Step.ofFst (by assumption) ?_
    | with_reducible refine StepE.named (by assumption) ?_
    | with_reducible refine StepP.named (by assumption) ?_
    | split
    | dsimp only

theorem execPanelResetTimeout_step {G : Nat} {s0 s : State} {x1} (h : Step G s0 s)
    (hG : sub 85586165442020531 G = true) : StepO G s0 (execPanelResetTimeout x1 s) := by
  unfold execPanelResetTimeout
  try dsimp only
  repeat' first
    | with_reducible assumption
    | ((with_reducible refine sub_trans ?_ hG); exact rfl)
    | with_reducible apply whenSettled_step
    | with_reducible apply State.setPanelPower_step
    | with_reducible apply State.declareLost_step
    | with_reducible apply State.advanceTo_step
    | with_reducible refine Step.ite (fun _ => ?_) (fun _ => ?_)
    | with_reducible refine StepO.ite (fun _ => ?_) (fun _ => ?_)
    | with_reducible apply StepO.next
    | with_reducible apply foldl_step
    | with_reducible apply foldlFst_step
    | with_reducible intro _
    | with_reducible refine Step.ofFst (by assumption) ?_
    | with_reducible refine StepE.named (by assumption) ?_
    | with_reducible refine StepP.named (by assumption) ?_
    | split

theorem State.setRail_step {G : Nat} {s0 s : State} {x1} {x2} (h : Step G s0 s)
    (hG : sub 4503599627370496 G = true) : Step G s0 (State.setRail s x1 x2) := by
  unfold State.setRail
  try dsimp only
  repeat' first
    | with_reducible assumption
    | ((with_reducible refine sub_trans ?_ hG); exact rfl)
    | ((with_reducible refine Step.put (F := 4503599627370496) ?_ hG ?_ ?_); rotate_left; (fail_if_success (with_reducible exact Same.refl _ _)); exact rfl; (first | with_reducible exact State.Inv.congr rfl rfl rfl rfl rfl rfl rfl id id id))
    | with_reducible refine Step.ite (fun _ => ?_) (fun _ => ?_)
    | with_reducible apply foldl_step
    | with_reducible apply foldlFst_step
    | with_reducible intro _
    | with_reducible refine Step.ofFst (by assumption) ?_
    | with_reducible refine StepE.named (by assumption) ?_
    | with_reducible refine StepP.named (by assumption) ?_
    | split
    | dsimp only

theorem execRailWarning_step {G : Nat} {s0 s : State} {x1} (h : Step G s0 s)
    (hG : sub 4503600634003456 G = true) : StepO G s0 (execRailWarning x1 s) := by
  unfold execRailWarning
  try dsimp only
  repeat' first
    | with_reducible assumption
    | ((with_reducible refine sub_trans ?_ hG); exact rfl)
    | with_reducible apply State.setRail_step
    | with_reducible apply State.fire_step
    | with_reducible apply whenDue_step
    | with_reducible refine Step.ite (fun _ => ?_) (fun _ => ?_)
    | with_reducible refine StepO.ite (fun _ => ?_) (fun _ => ?_)
    | with_reducible apply StepO.next
    | with_reducible apply foldl_step
    | with_reducible apply foldlFst_step
    | with_reducible intro _
    | with_reducible refine Step.ofFst (by assumption) ?_
    | with_reducible refine StepE.named (by assumption) ?_
    | with_reducible refine StepP.named (by assumption) ?_
    | split
    | dsimp only

theorem State.railFails_step {G : Nat} {s0 s : State} {x1} {x2} {x3} (h : Step G s0 s)
    (hG : sub 228026262585371834 G = true) : Step G s0 (State.railFails s x1 x2 x3) := by
  unfold State.railFails
  try dsimp only
  repeat' first
    | with_reducible assumption
    | ((with_reducible refine sub_trans ?_ hG); exact rfl)
    | with_reducible apply State.seamColLost_step
    | with_reducible apply State.seamRowLost_step
    | with_reducible apply State.hemReset_step
    | with_reducible apply State.yokeFail_step
    | with_reducible apply State.netReset_step
    | with_reducible apply State.linkDrop_step
    | with_reducible refine Step.ite (fun _ => ?_) (fun _ => ?_)
    | with_reducible apply foldl_step
    | with_reducible apply foldlFst_step
    | with_reducible intro _
    | with_reducible refine Step.ofFst (by assumption) ?_
    | with_reducible refine StepE.named (by assumption) ?_
    | with_reducible refine StepP.named (by assumption) ?_
    | split
    | dsimp only

theorem execRailReset_step {G : Nat} {s0 s : State} {x1} (h : Step G s0 s)
    (hG : sub 232529864360225978 G = true) : StepO G s0 (execRailReset x1 s) := by
  unfold execRailReset
  try dsimp only
  repeat' first
    | with_reducible assumption
    | ((with_reducible refine sub_trans ?_ hG); exact rfl)
    | with_reducible apply State.railFails_step
    | with_reducible apply State.setRail_step
    | with_reducible apply whenSettled_step
    | with_reducible apply State.emcyPower_step
    | with_reducible apply State.fire_step
    | with_reducible refine Step.ite (fun _ => ?_) (fun _ => ?_)
    | with_reducible refine StepO.ite (fun _ => ?_) (fun _ => ?_)
    | with_reducible apply StepO.next
    | with_reducible apply foldl_step
    | with_reducible apply foldlFst_step
    | with_reducible intro _
    | with_reducible refine Step.ofFst (by assumption) ?_
    | with_reducible refine StepE.named (by assumption) ?_
    | with_reducible refine StepP.named (by assumption) ?_
    | split
    | dsimp only

theorem fxBrownoutClear_step {G : Nat} {s0 s : State} {x1} (h : Step G s0 s)
    (hG : sub 4503599627370496 G = true) : StepE G s0 (fxBrownoutClear x1 s) := by
  unfold fxBrownoutClear
  try dsimp only
  repeat' first
    | with_reducible assumption
    | with_reducible apply State.setPanelPower_step
    | with_reducible apply each_step
    | with_reducible refine Step.ite (fun _ => ?_) (fun _ => ?_)
    | with_reducible refine StepE.ite (fun _ => ?_) (fun _ => ?_)
    | with_reducible exact StepE.error
    | with_reducible apply StepE.ok
    | with_reducible apply foldl_step
    | with_reducible apply foldlFst_step
    | with_reducible intro _

theorem execBrownoutClear_step {G : Nat} {s0 s : State} {x1} {x2} (h : Step G s0 s)
    (hG : sub 85585989348361392 G = true) : StepO G s0 (execBrownoutClear x1 x2 s) := by
  unfold execBrownoutClear
  try dsimp only
  repeat' first
    | with_reducible assumption
    | ((with_reducible refine sub_trans ?_ hG); exact rfl)
    | with_reducible apply fxBrownoutClear_step
    | with_reducible apply State.odWriteSettled_step
    | with_reducible refine Step.ite (fun _ => ?_) (fun _ => ?_)
    | with_reducible refine StepO.ite (fun _ => ?_) (fun _ => ?_)
    | with_reducible apply StepO.next
    | with_reducible refine StepE.ite (fun _ => ?_) (fun _ => ?_)
    | with_reducible exact StepE.error
    | with_reducible apply StepE.ok
    | with_reducible apply foldl_step
    | with_reducible apply foldlFst_step
    | with_reducible intro _

theorem State.limitSet_step {G : Nat} {s0 s : State} {x1} {x2} {x3} (h : Step G s0 s)
    (hG : sub 4503599627370496 G = true) : Step G s0 (State.limitSet s x1 x2 x3) := by
  unfold State.limitSet
  try dsimp only
  repeat' first
    | with_reducible assumption
    | with_reducible apply State.setPanelPower_step
    | with_reducible apply State.setDomain_step
    | with_reducible apply each_step
    | with_reducible refine Step.ite (fun _ => ?_) (fun _ => ?_)
    | with_reducible apply foldl_step
    | with_reducible apply foldlFst_step
    | with_reducible intro _

theorem State.stageReport_step {G : Nat} {s0 s : State} {x1} (h : Step G s0 s)
    (hG : sub 72075188318766256 G = true) : Step G s0 (State.stageReport s x1) := by
  unfold State.stageReport
  try dsimp only
  repeat' first
    | with_reducible assumption
    | ((with_reducible refine sub_trans ?_ hG); exact rfl)
    | with_reducible apply State.emcyPower_step
    | with_reducible apply State.fire_step
    | with_reducible refine Step.ite (fun _ => ?_) (fun _ => ?_)

theorem State.limitTake_step {G : Nat} {s0 s : State} {x1} {x2} {x3} (h : Step G s0 s)
    (hG : sub 76578787946136752 G = true) : Step G s0 (State.limitTake s x1 x2 x3) := by
  unfold State.limitTake
  try dsimp only
  repeat' first
    | with_reducible assumption
    | ((with_reducible refine sub_trans ?_ hG); exact rfl)
    | with_reducible apply State.stageReport_step
    | with_reducible apply State.bump64_step
    | with_reducible apply State.limitSet_step
    | ((with_reducible refine Step.put (F := 76578787946136752) ?_ hG ?_ ?_); rotate_left; (fail_if_success (with_reducible exact Same.refl _ _)); exact rfl; (first | with_reducible exact State.Inv.congr rfl rfl rfl rfl rfl rfl rfl id id id))
    | with_reducible refine Step.ite (fun _ => ?_) (fun _ => ?_)
    | with_reducible apply foldl_step
    | with_reducible apply foldlFst_step
    | with_reducible intro _
    | with_reducible refine Step.ofFst (by assumption) ?_
    | with_reducible refine StepE.named (by assumption) ?_
    | with_reducible refine StepP.named (by assumption) ?_
    | split
    | dsimp only

theorem execPowerLimitAction_step {G : Nat} {s0 s : State} {x1} (h : Step G s0 s)
    (hG : sub 76578787946136752 G = true) : StepO G s0 (execPowerLimitAction x1 s) := by
  unfold execPowerLimitAction
  try dsimp only
  repeat' first
    | with_reducible assumption
    | ((with_reducible refine sub_trans ?_ hG); exact rfl)
    | with_reducible apply State.limitTake_step
    | with_reducible apply whenDue_step
    | with_reducible refine Step.ite (fun _ => ?_) (fun _ => ?_)
    | with_reducible refine StepO.ite (fun _ => ?_) (fun _ => ?_)
    | with_reducible apply StepO.next
    | with_reducible apply foldl_step
    | with_reducible apply foldlFst_step
    | with_reducible intro _
    | with_reducible refine Step.ofFst (by assumption) ?_
    | with_reducible refine StepE.named (by assumption) ?_
    | with_reducible refine StepP.named (by assumption) ?_
    | split
    | dsimp only

theorem execPowerLimitRelease_step {G : Nat} {s0 s : State} {x1} (h : Step G s0 s)
    (hG : sub 76578787946136753 G = true) : StepO G s0 (execPowerLimitRelease x1 s) := by
  unfold execPowerLimitRelease
  try dsimp only
  repeat' first
    | with_reducible assumption
    | ((with_reducible refine sub_trans ?_ hG); exact rfl)
    | with_reducible apply State.stageReport_step
    | with_reducible apply State.limitSet_step
    | with_reducible apply State.advanceTo_step
    | with_reducible apply whenDue_step
    | ((with_reducible refine Step.put (F := 76578787946136753) ?_ hG ?_ ?_); rotate_left; (fail_if_success (with_reducible exact Same.refl _ _)); exact rfl; (first | with_reducible exact State.Inv.congr rfl rfl rfl rfl rfl rfl rfl id id id))
    | with_reducible refine Step.ite (fun _ => ?_) (fun _ => ?_)
    | with_reducible refine StepO.ite (fun _ => ?_) (fun _ => ?_)
    | with_reducible apply StepO.next
    | with_reducible apply foldl_step
    | with_reducible apply foldlFst_step
    | with_reducible intro _
    | with_reducible refine Step.ofFst (by assumption) ?_
    | with_reducible refine StepE.named (by assumption) ?_
    | with_reducible refine StepP.named (by assumption) ?_
    | split
    | dsimp only

theorem State.trip_step {G : Nat} {s0 s : State} {x1} {x2} (h : Step G s0 s)
    (hG : sub 76578964039795890 G = true) : Step G s0 (State.trip s x1 x2) := by
  unfold State.trip
  try dsimp only
  repeat' first
    | with_reducible assumption
    | ((with_reducible refine sub_trans ?_ hG); exact rfl)
    | with_reducible apply State.setPanelPower_step
    | with_reducible apply State.clearPanel_step
    | with_reducible apply State.emcyPower_step
    | with_reducible apply State.declareLost_step
    | with_reducible apply State.fire_step
    | with_reducible apply State.setDomain_step

theorem execPanelOvercurrent_step {G : Nat} {s0 s : State} {x1} {x2} (h : Step G s0 s)
    (hG : sub 85586165442020530 G = true) : StepO G s0 (execPanelOvercurrent x1 x2 s) := by
  unfold execPanelOvercurrent
  try dsimp only
  repeat' first
    | with_reducible assumption
    | ((with_reducible refine sub_trans ?_ hG); exact rfl)
    | with_reducible apply State.trip_step
    | with_reducible apply whenSettled_step

theorem fxOvercurrentClear_step {G : Nat} {s0 s : State} {x1} {x2} (h : Step G s0 s)
    (hG : sub 4503599627370496 G = true) : StepE G s0 (fxOvercurrentClear x1 x2 s) := by
  unfold fxOvercurrentClear
  try dsimp only
  repeat' first
    | with_reducible assumption
    | with_reducible apply State.setPanelPower_step
    | with_reducible apply State.setDomain_step
    | with_reducible refine Step.ite (fun _ => ?_) (fun _ => ?_)
    | with_reducible refine StepE.ite (fun _ => ?_) (fun _ => ?_)
    | with_reducible exact StepE.error
    | with_reducible apply StepE.ok

theorem execOvercurrentClear_step {G : Nat} {s0 s : State} {x1} {x2} {x3} (h : Step G s0 s)
    (hG : sub 85585989348361392 G = true) : StepO G s0 (execOvercurrentClear x1 x2 x3 s) := by
  unfold execOvercurrentClear
  try dsimp only
  repeat' first
    | with_reducible assumption
    | ((with_reducible refine sub_trans ?_ hG); exact rfl)
    | with_reducible apply State.odWriteSettled_step
    | with_reducible apply fxOvercurrentClear_step
    | with_reducible refine Step.ite (fun _ => ?_) (fun _ => ?_)
    | with_reducible refine StepO.ite (fun _ => ?_) (fun _ => ?_)
    | with_reducible apply StepO.next
    | with_reducible refine StepE.ite (fun _ => ?_) (fun _ => ?_)
    | with_reducible exact StepE.error
    | with_reducible apply StepE.ok
    | with_reducible apply foldl_step
    | with_reducible apply foldlFst_step
    | with_reducible intro _

theorem State.clockFails_step {G : Nat} {s0 s : State} {x1} {x2} (h : Step G s0 s)
    (hG : sub 232529862212742330 G = true) : Step G s0 (State.clockFails s x1 x2) := by
  unfold State.clockFails
  try dsimp only
  repeat' first
    | with_reducible assumption
    | ((with_reducible refine sub_trans ?_ hG); exact rfl)
    | with_reducible apply State.panelReset_step
    | with_reducible apply State.seamColLost_step
    | with_reducible apply State.seamRowLost_step
    | with_reducible apply State.hemReset_step
    | with_reducible apply State.yokeFail_step
    | with_reducible apply State.netReset_step
    | with_reducible apply State.linkDrop_step
    | with_reducible apply State.bump64_step
    | with_reducible refine Step.ite (fun _ => ?_) (fun _ => ?_)
    | with_reducible apply foldl_step
    | with_reducible apply foldlFst_step
    | with_reducible intro _
    | with_reducible refine Step.ofFst (by assumption) ?_
    | with_reducible refine StepE.named (by assumption) ?_
    | with_reducible refine StepP.named (by assumption) ?_
    | split
    | dsimp only

theorem State.clockFault_step {G : Nat} {s0 s : State} {x1} {x2} (h : Step G s0 s)
    (hG : sub 268558727951183034 G = true) : Step G s0 (State.clockFault s x1 x2) := by
  unfold State.clockFault
  try dsimp only
  repeat' first
    | with_reducible assumption
    | ((with_reducible refine sub_trans ?_ hG); exact rfl)
    | with_reducible apply State.clockFails_step
    | with_reducible apply State.collarReset_step
    | with_reducible apply State.emcyPower_step
    | with_reducible apply State.fire_step
    | with_reducible refine Step.ite (fun _ => ?_) (fun _ => ?_)
    | with_reducible apply foldl_step
    | with_reducible apply foldlFst_step
    | with_reducible intro _
    | with_reducible refine Step.ofFst (by assumption) ?_
    | with_reducible refine StepE.named (by assumption) ?_
    | with_reducible refine StepP.named (by assumption) ?_
    | split
    | dsimp only

theorem execClockCheck_step {G : Nat} {s0 s : State} {x1} (h : Step G s0 s)
    (hG : sub 268558730098666682 G = true) : StepO G s0 (execClockCheck x1 s) := by
  unfold execClockCheck
  try dsimp only
  repeat' first
    | with_reducible assumption
    | ((with_reducible refine sub_trans ?_ hG); exact rfl)
    | with_reducible apply State.clockFault_step
    | with_reducible apply whenSettled_step
    | ((with_reducible refine Step.put (F := 268558730098666682) ?_ hG ?_ ?_); rotate_left; (fail_if_success (with_reducible exact Same.refl _ _)); exact rfl; (first | with_reducible exact State.Inv.congr rfl rfl rfl rfl rfl rfl rfl id id id))
    | with_reducible refine Step.ite (fun _ => ?_) (fun _ => ?_)
    | with_reducible refine StepO.ite (fun _ => ?_) (fun _ => ?_)
    | with_reducible apply StepO.next
    | with_reducible apply foldl_step
    | with_reducible apply foldlFst_step
    | with_reducible intro _
    | with_reducible refine Step.ofFst (by assumption) ?_
    | with_reducible refine StepE.named (by assumption) ?_
    | with_reducible refine StepP.named (by assumption) ?_
    | split
    | dsimp only

theorem execPllUnlock_step {G : Nat} {s0 s : State} {x1} (h : Step G s0 s)
    (hG : sub 268558730098666682 G = true) : StepO G s0 (execPllUnlock x1 s) := by
  unfold execPllUnlock
  try dsimp only
  repeat' first
    | with_reducible assumption
    | ((with_reducible refine sub_trans ?_ hG); exact rfl)
    | with_reducible apply State.clockFault_step
    | with_reducible apply whenSettled_step
    | ((with_reducible refine Step.put (F := 268558730098666682) ?_ hG ?_ ?_); rotate_left; (fail_if_success (with_reducible exact Same.refl _ _)); exact rfl; (first | with_reducible exact State.Inv.congr rfl rfl rfl rfl rfl rfl rfl id id id))
    | with_reducible refine Step.ite (fun _ => ?_) (fun _ => ?_)
    | with_reducible refine StepO.ite (fun _ => ?_) (fun _ => ?_)
    | with_reducible apply StepO.next
    | with_reducible apply foldl_step
    | with_reducible apply foldlFst_step
    | with_reducible intro _
    | with_reducible refine Step.ofFst (by assumption) ?_
    | with_reducible refine StepE.named (by assumption) ?_
    | with_reducible refine StepP.named (by assumption) ?_
    | split
    | dsimp only

theorem State.referenceGone_step {G : Nat} {s0 s : State} (h : Step G s0 s)
    (hG : sub 76583890367302844 G = true) : Step G s0 (State.referenceGone s) := by
  unfold State.referenceGone
  try dsimp only
  repeat' first
    | with_reducible assumption
    | ((with_reducible refine sub_trans ?_ hG); exact rfl)
    | with_reducible apply State.suspendAll_step
    | with_reducible apply State.emcyPower_step
    | with_reducible apply State.emcy_step
    | with_reducible apply State.fire_step
    | ((with_reducible refine Step.put (F := 76583890367302844) ?_ hG ?_ ?_); rotate_left; (fail_if_success (with_reducible exact Same.refl _ _)); exact rfl; (first | with_reducible exact State.Inv.congr rfl rfl rfl rfl rfl rfl rfl id id id))
    | with_reducible refine Step.ite (fun _ => ?_) (fun _ => ?_)
    | with_reducible apply foldl_step
    | with_reducible apply foldlFst_step
    | with_reducible intro _
    | with_reducible refine Step.ofFst (by assumption) ?_
    | with_reducible refine StepE.named (by assumption) ?_
    | with_reducible refine StepP.named (by assumption) ?_
    | split
    | dsimp only

theorem State.referenceLost_step {G : Nat} {s0 s : State} (h : Step G s0 s)
    (hG : sub 234045272756285434 G = true) : Step G s0 (State.referenceLost s) := by
  unfold State.referenceLost
  try dsimp only
  repeat' first
    | with_reducible assumption
    | ((with_reducible refine sub_trans ?_ hG); exact rfl)
    | with_reducible apply State.orderlyShutdown_step
    | ((with_reducible refine Step.put (F := 234045272756285434) ?_ hG ?_ ?_); rotate_left; (fail_if_success (with_reducible exact Same.refl _ _)); exact rfl; (first | with_reducible exact State.Inv.congr rfl rfl rfl rfl rfl rfl rfl id id id))
    | with_reducible refine Step.ite (fun _ => ?_) (fun _ => ?_)
    | with_reducible apply foldl_step
    | with_reducible apply foldlFst_step
    | with_reducible intro _
    | with_reducible refine Step.ofFst (by assumption) ?_
    | with_reducible refine StepE.named (by assumption) ?_
    | with_reducible refine StepP.named (by assumption) ?_
    | split
    | dsimp only

theorem execReferenceLost_step {G : Nat} {s0 s : State} (h : Step G s0 s)
    (hG : sub 234045274903769086 G = true) : StepO G s0 (execReferenceLost s) := by
  unfold execReferenceLost
  try dsimp only
  repeat' first
    | with_reducible assumption
    | ((with_reducible refine sub_trans ?_ hG); exact rfl)
    | with_reducible apply State.referenceLost_step
    | with_reducible apply State.referenceGone_step
    | with_reducible apply whenSettled_step
    | ((with_reducible refine Step.put (F := 234045274903769086) ?_ hG ?_ ?_); rotate_left; (fail_if_success (with_reducible exact Same.refl _ _)); exact rfl; (first | with_reducible exact State.Inv.congr rfl rfl rfl rfl rfl rfl rfl id id id))
    | with_reducible refine Step.ite (fun _ => ?_) (fun _ => ?_)
    | with_reducible refine StepO.ite (fun _ => ?_) (fun _ => ?_)
    | with_reducible apply StepO.next
    | with_reducible apply foldl_step
    | with_reducible apply foldlFst_step
    | with_reducible intro _
    | with_reducible refine Step.ofFst (by assumption) ?_
    | with_reducible refine StepE.named (by assumption) ?_
    | with_reducible refine StepP.named (by assumption) ?_
    | split
    | dsimp only

theorem execReferenceReturn_step {G : Nat} {s0 s : State}  (h : Step G s0 s)
    (hG : sub 4503599627370496 G = true) : StepO G s0 (execReferenceReturn s) := by
  unfold execReferenceReturn
  try dsimp only
  repeat' first
    | with_reducible assumption
    | ((with_reducible refine sub_trans ?_ hG); exact rfl)
    | with_reducible apply whenDue_step
    | ((with_reducible refine Step.put (F := 4503599627370496) ?_ hG ?_ ?_); rotate_left; (fail_if_success (with_reducible exact Same.refl _ _)); exact rfl; (first | with_reducible exact State.Inv.congr rfl rfl rfl rfl rfl rfl rfl id id id))
    | with_reducible refine Step.ite (fun _ => ?_) (fun _ => ?_)
    | with_reducible refine StepO.ite (fun _ => ?_) (fun _ => ?_)
    | with_reducible apply StepO.next
    | with_reducible apply foldl_step
    | with_reducible apply foldlFst_step
    | with_reducible intro _
    | with_reducible refine Step.ofFst (by assumption) ?_
    | with_reducible refine StepE.named (by assumption) ?_
    | with_reducible refine StepP.named (by assumption) ?_
    | split
    | dsimp only

theorem execCoolantSensorFault_step {G : Nat} {s0 s : State} {x1} {x2} (h : Step G s0 s)
    (hG : sub 85585989348361392 G = true) : StepO G s0 (execCoolantSensorFault x1 x2 s) := by
  unfold execCoolantSensorFault
  try dsimp only
  repeat' first
    | with_reducible assumption
    | ((with_reducible refine sub_trans ?_ hG); exact rfl)
    | with_reducible apply whenSettled_step
    | with_reducible apply State.emcyPower_step
    | with_reducible apply State.fire_step
    | ((with_reducible refine Step.put (F := 85585989348361392) ?_ hG ?_ ?_); rotate_left; (fail_if_success (with_reducible exact Same.refl _ _)); exact rfl; (first | with_reducible exact State.Inv.congr rfl rfl rfl rfl rfl rfl rfl id id id))
    | with_reducible refine Step.ite (fun _ => ?_) (fun _ => ?_)
    | with_reducible refine StepO.ite (fun _ => ?_) (fun _ => ?_)
    | with_reducible apply StepO.next
    | with_reducible apply foldl_step
    | with_reducible apply foldlFst_step
    | with_reducible intro _
    | with_reducible refine Step.ofFst (by assumption) ?_
    | with_reducible refine StepE.named (by assumption) ?_
    | with_reducible refine StepP.named (by assumption) ?_
    | split
    | dsimp only

theorem execCoolantSensorRecovered_step {G : Nat} {s0 s : State} {x1} {x2} (h : Step G s0 s)
    (hG : sub 85585989348361392 G = true) : StepO G s0 (execCoolantSensorRecovered x1 x2 s) := by
  unfold execCoolantSensorRecovered
  try dsimp only
  repeat' first
    | with_reducible assumption
    | ((with_reducible refine sub_trans ?_ hG); exact rfl)
    | with_reducible apply whenSettled_step
    | ((with_reducible refine Step.put (F := 85585989348361392) ?_ hG ?_ ?_); rotate_left; (fail_if_success (with_reducible exact Same.refl _ _)); exact rfl; (first | with_reducible exact State.Inv.congr rfl rfl rfl rfl rfl rfl rfl id id id))
    | with_reducible refine Step.ite (fun _ => ?_) (fun _ => ?_)
    | with_reducible refine StepO.ite (fun _ => ?_) (fun _ => ?_)
    | with_reducible apply StepO.next
    | with_reducible apply foldl_step
    | with_reducible apply foldlFst_step
    | with_reducible intro _
    | with_reducible refine Step.ofFst (by assumption) ?_
    | with_reducible refine StepE.named (by assumption) ?_
    | with_reducible refine StepP.named (by assumption) ?_
    | split
    | dsimp only

theorem State.outlet_step {G : Nat} {s0 s : State} {x1} (h : Step G s0 s)
    (hG : sub 4503599627370496 G = true) : Step G s0 (State.outlet s x1) := by
  unfold State.outlet
  try dsimp only
  repeat' first
    | with_reducible assumption
    | ((with_reducible refine sub_trans ?_ hG); exact rfl)
    | ((with_reducible refine Step.put (F := 4503599627370496) ?_ hG ?_ ?_); rotate_left; (fail_if_success (with_reducible exact Same.refl _ _)); exact rfl; (first | with_reducible exact State.Inv.congr rfl rfl rfl rfl rfl rfl rfl id id id))
    | with_reducible refine Step.ite (fun _ => ?_) (fun _ => ?_)
    | with_reducible apply foldl_step
    | with_reducible apply foldlFst_step
    | with_reducible intro _
    | with_reducible refine Step.ofFst (by assumption) ?_
    | with_reducible refine StepE.named (by assumption) ?_
    | with_reducible refine StepP.named (by assumption) ?_
    | split
    | dsimp only

theorem execOutletWarning_step {G : Nat} {s0 s : State} {x1} (h : Step G s0 s)
    (hG : sub 76578787946136752 G = true) : StepO G s0 (execOutletWarning x1 s) := by
  unfold execOutletWarning
  try dsimp only
  repeat' first
    | with_reducible assumption
    | ((with_reducible refine sub_trans ?_ hG); exact rfl)
    | with_reducible apply State.outlet_step
    | with_reducible apply State.emcyPower_step
    | with_reducible apply whenDue_step
    | ((with_reducible refine Step.put (F := 76578787946136752) ?_ hG ?_ ?_); rotate_left; (fail_if_success (with_reducible exact Same.refl _ _)); exact rfl; (first | with_reducible exact State.Inv.congr rfl rfl rfl rfl rfl rfl rfl id id id))
    | with_reducible refine Step.ite (fun _ => ?_) (fun _ => ?_)
    | with_reducible refine StepO.ite (fun _ => ?_) (fun _ => ?_)
    | with_reducible apply StepO.next
    | with_reducible apply foldl_step
    | with_reducible apply foldlFst_step
    | with_reducible intro _
    | with_reducible refine Step.ofFst (by assumption) ?_
    | with_reducible refine StepE.named (by assumption) ?_
    | with_reducible refine StepP.named (by assumption) ?_
    | split
    | dsimp only

theorem execThermalLimit_step {G : Nat} {s0 s : State} {x1} {x2} (h : Step G s0 s)
    (hG : sub 85585989348361392 G = true) : StepO G s0 (execThermalLimit x1 x2 s) := by
  unfold execThermalLimit
  try dsimp only
  repeat' first
    | with_reducible assumption
    | ((with_reducible refine sub_trans ?_ hG); exact rfl)
    | with_reducible apply State.outlet_step
    | with_reducible apply whenSettled_step
    | with_reducible apply State.emcyPower_step
    | with_reducible apply State.fire_step
    | ((with_reducible refine Step.put (F := 85585989348361392) ?_ hG ?_ ?_); rotate_left; (fail_if_success (with_reducible exact Same.refl _ _)); exact rfl; (first | with_reducible exact State.Inv.congr rfl rfl rfl rfl rfl rfl rfl id id id))
    | with_reducible refine Step.ite (fun _ => ?_) (fun _ => ?_)
    | with_reducible refine StepO.ite (fun _ => ?_) (fun _ => ?_)
    | with_reducible apply StepO.next
    | with_reducible apply foldl_step
    | with_reducible apply foldlFst_step
    | with_reducible intro _
    | with_reducible refine Step.ofFst (by assumption) ?_
    | with_reducible refine StepE.named (by assumption) ?_
    | with_reducible refine StepP.named (by assumption) ?_
    | split
    | dsimp only

theorem execThermalLimitEnd_step {G : Nat} {s0 s : State} {x1} {x2} (h : Step G s0 s)
    (hG : sub 85585989348361392 G = true) : StepO G s0 (execThermalLimitEnd x1 x2 s) := by
  unfold execThermalLimitEnd
  try dsimp only
  repeat' first
    | with_reducible assumption
    | ((with_reducible refine sub_trans ?_ hG); exact rfl)
    | with_reducible apply State.outlet_step
    | with_reducible apply whenSettled_step
    | ((with_reducible refine Step.put (F := 85585989348361392) ?_ hG ?_ ?_); rotate_left; (fail_if_success (with_reducible exact Same.refl _ _)); exact rfl; (first | with_reducible exact State.Inv.congr rfl rfl rfl rfl rfl rfl rfl id id id))
    | with_reducible refine Step.ite (fun _ => ?_) (fun _ => ?_)
    | with_reducible refine StepO.ite (fun _ => ?_) (fun _ => ?_)
    | with_reducible apply StepO.next
    | with_reducible apply foldl_step
    | with_reducible apply foldlFst_step
    | with_reducible intro _
    | with_reducible refine Step.ofFst (by assumption) ?_
    | with_reducible refine StepE.named (by assumption) ?_
    | with_reducible refine StepP.named (by assumption) ?_
    | split
    | dsimp only

theorem execOutletShutdown_step {G : Nat} {s0 s : State} {x1} (h : Step G s0 s)
    (hG : sub 234045274903769082 G = true) : StepO G s0 (execOutletShutdown x1 s) := by
  unfold execOutletShutdown
  try dsimp only
  repeat' first
    | with_reducible assumption
    | ((with_reducible refine sub_trans ?_ hG); exact rfl)
    | with_reducible apply State.outlet_step
    | with_reducible apply State.orderlyShutdown_step
    | with_reducible apply whenSettled_step
    | with_reducible refine Step.ite (fun _ => ?_) (fun _ => ?_)
    | with_reducible refine StepO.ite (fun _ => ?_) (fun _ => ?_)
    | with_reducible apply StepO.next
    | with_reducible apply foldl_step
    | with_reducible apply foldlFst_step
    | with_reducible intro _
    | with_reducible refine Step.ofFst (by assumption) ?_
    | with_reducible refine StepE.named (by assumption) ?_
    | with_reducible refine StepP.named (by assumption) ?_
    | split
    | dsimp only

theorem execDieTemperatureChange_step {G : Nat} {s0 s : State} {x1} {x2} (h : Step G s0 s)
    (hG : sub 85586165442020530 G = true) : StepO G s0 (execDieTemperatureChange x1 x2 s) := by
  unfold execDieTemperatureChange
  try dsimp only
  repeat' first
    | with_reducible assumption
    | ((with_reducible refine sub_trans ?_ hG); exact rfl)
    | with_reducible apply State.panelReset_step
    | with_reducible apply State.setPanelPower_step
    | with_reducible apply whenSettled_step
    | with_reducible apply State.fire_step
    | with_reducible refine Step.ite (fun _ => ?_) (fun _ => ?_)
    | with_reducible refine StepO.ite (fun _ => ?_) (fun _ => ?_)
    | with_reducible apply StepO.next
    | with_reducible apply foldl_step
    | with_reducible apply foldlFst_step
    | with_reducible intro _
    | with_reducible refine Step.ofFst (by assumption) ?_
    | with_reducible refine StepE.named (by assumption) ?_
    | with_reducible refine StepP.named (by assumption) ?_
    | split
    | dsimp only

end Sys2Proof.Machine
end

