-- ==== Sys2Proof/Laws/KeepServer.lean ====
section
/-! SUPPORT. Every state function of sessions, tailoring, settings, firmware and the field network:
the fields that it may change, and that it keeps the invariant. -/

-- One proof at a time, as in Keep.lean.
set_option Elab.async false
-- Every proof here tries the same few tactics in the same order, and not each of them meets a goal.
set_option linter.unusedTactic false
set_option linter.unreachableTactic false

namespace Sys2Proof.Machine

/-! ### Sessions -/

theorem State.slotDone_step {G : Nat} {s0 s : State} {x1} {x2} {x3} (h : Step G s0 s)
    (hG : sub 72075204416507008 G = true) : Step G s0 (State.slotDone s x1 x2 x3) := by
  unfold State.slotDone
  try dsimp only
  repeat' first
    | with_reducible assumption
    | with_reducible apply State.entryDone_step

theorem execSopen_step {G : Nat} {s0 s : State} {x1} {x2} (h : Step G s0 s)
    (hG : sub 72075204416507016 G = true) : StepO G s0 (execSopen x1 x2 s) := by
  unfold execSopen
  try dsimp only
  repeat' first
    | with_reducible assumption
    | ((with_reducible refine sub_trans ?_ hG); exact rfl)
    | with_reducible apply State.slotDone_step
    | with_reducible apply State.accept_step
    | ((with_reducible refine Step.put (F := 72075204416507016) ?_ hG ?_ ?_); rotate_left; (fail_if_success (with_reducible exact Same.refl _ _)); exact rfl; (first | with_reducible exact State.Inv.congr rfl rfl rfl rfl rfl rfl rfl id id id | exact State.Inv.congr rfl rfl rfl rfl rfl rfl rfl (fun h => Tab.rises_set h _ _) id id | exact State.Inv.congr rfl rfl rfl rfl rfl rfl rfl (fun h => Tab.rises_erase h _) id id | exact State.Inv.congr rfl rfl rfl rfl rfl rfl rfl (fun h => Tab.rises_mapVals h _) id id | exact State.Inv.congr rfl rfl rfl rfl rfl rfl rfl (fun h => Tab.rises_keep h _) id id | exact State.Inv.congr rfl rfl rfl rfl rfl rfl rfl (fun _ => Tab.rises_empty) id id | exact State.Inv.congr rfl rfl rfl rfl rfl rfl rfl id (fun h => Tab.rises_set h _ _) id | exact State.Inv.congr rfl rfl rfl rfl rfl rfl rfl id (fun h => Tab.rises_erase h _) id | exact State.Inv.congr rfl rfl rfl rfl rfl rfl rfl id (fun h => Tab.rises_mapVals h _) id | exact State.Inv.congr rfl rfl rfl rfl rfl rfl rfl id (fun h => Tab.rises_keep h _) id | exact State.Inv.congr rfl rfl rfl rfl rfl rfl rfl id (fun _ => Tab.rises_empty) id | exact State.Inv.congr rfl rfl rfl rfl rfl rfl rfl (fun _ => Tab.rises_empty) (fun _ => Tab.rises_empty) id))
    | with_reducible refine Step.ite (fun _ => ?_) (fun _ => ?_)
    | with_reducible refine StepO.ite (fun _ => ?_) (fun _ => ?_)
    | with_reducible apply StepO.next
    | with_reducible apply foldl_step
    | with_reducible apply foldlFst_step
    | with_reducible intro _
    | with_reducible refine Step.ofFst (by assumption) ?_
    | with_reducible refine StepE.named (by assumption) ?_
    | with_reducible refine StepP.named (by assumption) ?_
    | split
    | dsimp only

theorem execSretime_step {G : Nat} {s0 s : State} {x1} {x2} (h : Step G s0 s)
    (hG : sub 72075204416507016 G = true) : StepO G s0 (execSretime x1 x2 s) := by
  unfold execSretime
  try dsimp only
  repeat' first
    | with_reducible assumption
    | ((with_reducible refine sub_trans ?_ hG); exact rfl)
    | with_reducible apply State.slotDone_step
    | with_reducible apply State.accept_step
    | ((with_reducible refine Step.put (F := 72075204416507016) ?_ hG ?_ ?_); rotate_left; (fail_if_success (with_reducible exact Same.refl _ _)); exact rfl; (first | with_reducible exact State.Inv.congr rfl rfl rfl rfl rfl rfl rfl id id id | exact State.Inv.congr rfl rfl rfl rfl rfl rfl rfl (fun h => Tab.rises_set h _ _) id id | exact State.Inv.congr rfl rfl rfl rfl rfl rfl rfl (fun h => Tab.rises_erase h _) id id | exact State.Inv.congr rfl rfl rfl rfl rfl rfl rfl (fun h => Tab.rises_mapVals h _) id id | exact State.Inv.congr rfl rfl rfl rfl rfl rfl rfl (fun h => Tab.rises_keep h _) id id | exact State.Inv.congr rfl rfl rfl rfl rfl rfl rfl (fun _ => Tab.rises_empty) id id | exact State.Inv.congr rfl rfl rfl rfl rfl rfl rfl id (fun h => Tab.rises_set h _ _) id | exact State.Inv.congr rfl rfl rfl rfl rfl rfl rfl id (fun h => Tab.rises_erase h _) id | exact State.Inv.congr rfl rfl rfl rfl rfl rfl rfl id (fun h => Tab.rises_mapVals h _) id | exact State.Inv.congr rfl rfl rfl rfl rfl rfl rfl id (fun h => Tab.rises_keep h _) id | exact State.Inv.congr rfl rfl rfl rfl rfl rfl rfl id (fun _ => Tab.rises_empty) id | exact State.Inv.congr rfl rfl rfl rfl rfl rfl rfl (fun _ => Tab.rises_empty) (fun _ => Tab.rises_empty) id))
    | with_reducible refine Step.ite (fun _ => ?_) (fun _ => ?_)
    | with_reducible refine StepO.ite (fun _ => ?_) (fun _ => ?_)
    | with_reducible apply StepO.next
    | with_reducible apply foldl_step
    | with_reducible apply foldlFst_step
    | with_reducible intro _
    | with_reducible refine Step.ofFst (by assumption) ?_
    | with_reducible refine StepE.named (by assumption) ?_
    | with_reducible refine StepP.named (by assumption) ?_
    | split
    | dsimp only

theorem execSresume_step {G : Nat} {s0 s : State} {x1} {x2} (h : Step G s0 s)
    (hG : sub 72075204416507016 G = true) : StepO G s0 (execSresume x1 x2 s) := by
  unfold execSresume
  try dsimp only
  repeat' first
    | with_reducible assumption
    | ((with_reducible refine sub_trans ?_ hG); exact rfl)
    | with_reducible apply State.accept_step
    | with_reducible apply State.slotDone_step
    | ((with_reducible refine Step.put (F := 72075204416507016) ?_ hG ?_ ?_); rotate_left; (fail_if_success (with_reducible exact Same.refl _ _)); exact rfl; (first | with_reducible exact State.Inv.congr rfl rfl rfl rfl rfl rfl rfl id id id | exact State.Inv.congr rfl rfl rfl rfl rfl rfl rfl (fun h => Tab.rises_set h _ _) id id | exact State.Inv.congr rfl rfl rfl rfl rfl rfl rfl (fun h => Tab.rises_erase h _) id id | exact State.Inv.congr rfl rfl rfl rfl rfl rfl rfl (fun h => Tab.rises_mapVals h _) id id | exact State.Inv.congr rfl rfl rfl rfl rfl rfl rfl (fun h => Tab.rises_keep h _) id id | exact State.Inv.congr rfl rfl rfl rfl rfl rfl rfl (fun _ => Tab.rises_empty) id id | exact State.Inv.congr rfl rfl rfl rfl rfl rfl rfl id (fun h => Tab.rises_set h _ _) id | exact State.Inv.congr rfl rfl rfl rfl rfl rfl rfl id (fun h => Tab.rises_erase h _) id | exact State.Inv.congr rfl rfl rfl rfl rfl rfl rfl id (fun h => Tab.rises_mapVals h _) id | exact State.Inv.congr rfl rfl rfl rfl rfl rfl rfl id (fun h => Tab.rises_keep h _) id | exact State.Inv.congr rfl rfl rfl rfl rfl rfl rfl id (fun _ => Tab.rises_empty) id | exact State.Inv.congr rfl rfl rfl rfl rfl rfl rfl (fun _ => Tab.rises_empty) (fun _ => Tab.rises_empty) id))
    | with_reducible refine Step.ite (fun _ => ?_) (fun _ => ?_)
    | with_reducible refine StepO.ite (fun _ => ?_) (fun _ => ?_)
    | with_reducible apply StepO.next
    | with_reducible apply foldl_step
    | with_reducible apply foldlFst_step
    | with_reducible intro _

theorem execSclose_step {G : Nat} {s0 s : State} {x1} {x2} (h : Step G s0 s)
    (hG : sub 72075891611274376 G = true) : StepO G s0 (execSclose x1 x2 s) := by
  unfold execSclose
  try dsimp only
  repeat' first
    | with_reducible assumption
    | ((with_reducible refine sub_trans ?_ hG); exact rfl)
    | with_reducible apply State.accept_step
    | with_reducible apply State.slotCheck_step
    | ((with_reducible refine Step.put (F := 72075891611274376) ?_ hG ?_ ?_); rotate_left; (fail_if_success (with_reducible exact Same.refl _ _)); exact rfl; (first | with_reducible exact State.Inv.congr rfl rfl rfl rfl rfl rfl rfl id id id | exact State.Inv.congr rfl rfl rfl rfl rfl rfl rfl (fun h => Tab.rises_set h _ _) id id | exact State.Inv.congr rfl rfl rfl rfl rfl rfl rfl (fun h => Tab.rises_erase h _) id id | exact State.Inv.congr rfl rfl rfl rfl rfl rfl rfl (fun h => Tab.rises_mapVals h _) id id | exact State.Inv.congr rfl rfl rfl rfl rfl rfl rfl (fun h => Tab.rises_keep h _) id id | exact State.Inv.congr rfl rfl rfl rfl rfl rfl rfl (fun _ => Tab.rises_empty) id id | exact State.Inv.congr rfl rfl rfl rfl rfl rfl rfl id (fun h => Tab.rises_set h _ _) id | exact State.Inv.congr rfl rfl rfl rfl rfl rfl rfl id (fun h => Tab.rises_erase h _) id | exact State.Inv.congr rfl rfl rfl rfl rfl rfl rfl id (fun h => Tab.rises_mapVals h _) id | exact State.Inv.congr rfl rfl rfl rfl rfl rfl rfl id (fun h => Tab.rises_keep h _) id | exact State.Inv.congr rfl rfl rfl rfl rfl rfl rfl id (fun _ => Tab.rises_empty) id | exact State.Inv.congr rfl rfl rfl rfl rfl rfl rfl (fun _ => Tab.rises_empty) (fun _ => Tab.rises_empty) id))
    | with_reducible refine Step.ite (fun _ => ?_) (fun _ => ?_)
    | with_reducible refine StepO.ite (fun _ => ?_) (fun _ => ?_)
    | with_reducible apply StepO.next
    | with_reducible apply foldl_step
    | with_reducible apply foldlFst_step
    | with_reducible intro _
    | with_reducible refine Step.ofFst (by assumption) ?_
    | with_reducible refine StepE.named (by assumption) ?_
    | with_reducible refine StepP.named (by assumption) ?_
    | split
    | dsimp only

theorem execSbind_step {G : Nat} {s0 s : State} {x1} {x2} (h : Step G s0 s)
    (hG : sub 72075204416507016 G = true) : StepO G s0 (execSbind x1 x2 s) := by
  unfold execSbind
  try dsimp only
  repeat' first
    | with_reducible assumption
    | ((with_reducible refine sub_trans ?_ hG); exact rfl)
    | with_reducible apply State.accept_step
    | with_reducible apply State.slotDone_step
    | ((with_reducible refine Step.put (F := 72075204416507016) ?_ hG ?_ ?_); rotate_left; (fail_if_success (with_reducible exact Same.refl _ _)); exact rfl; (first | with_reducible exact State.Inv.congr rfl rfl rfl rfl rfl rfl rfl id id id | exact State.Inv.congr rfl rfl rfl rfl rfl rfl rfl (fun h => Tab.rises_set h _ _) id id | exact State.Inv.congr rfl rfl rfl rfl rfl rfl rfl (fun h => Tab.rises_erase h _) id id | exact State.Inv.congr rfl rfl rfl rfl rfl rfl rfl (fun h => Tab.rises_mapVals h _) id id | exact State.Inv.congr rfl rfl rfl rfl rfl rfl rfl (fun h => Tab.rises_keep h _) id id | exact State.Inv.congr rfl rfl rfl rfl rfl rfl rfl (fun _ => Tab.rises_empty) id id | exact State.Inv.congr rfl rfl rfl rfl rfl rfl rfl id (fun h => Tab.rises_set h _ _) id | exact State.Inv.congr rfl rfl rfl rfl rfl rfl rfl id (fun h => Tab.rises_erase h _) id | exact State.Inv.congr rfl rfl rfl rfl rfl rfl rfl id (fun h => Tab.rises_mapVals h _) id | exact State.Inv.congr rfl rfl rfl rfl rfl rfl rfl id (fun h => Tab.rises_keep h _) id | exact State.Inv.congr rfl rfl rfl rfl rfl rfl rfl id (fun _ => Tab.rises_empty) id | exact State.Inv.congr rfl rfl rfl rfl rfl rfl rfl (fun _ => Tab.rises_empty) (fun _ => Tab.rises_empty) id))
    | with_reducible refine Step.ite (fun _ => ?_) (fun _ => ?_)
    | with_reducible refine StepO.ite (fun _ => ?_) (fun _ => ?_)
    | with_reducible apply StepO.next
    | with_reducible apply foldl_step
    | with_reducible apply foldlFst_step
    | with_reducible intro _
    | with_reducible refine Step.ofFst (by assumption) ?_
    | with_reducible refine StepE.named (by assumption) ?_
    | with_reducible refine StepP.named (by assumption) ?_
    | split
    | dsimp only

theorem execFrame_step {G : Nat} {s0 s : State} {x1} {x2} (h : Step G s0 s)
    (hG : sub 72080289658031240 G = true) : StepO G s0 (execFrame x1 x2 s) := by
  unfold execFrame
  try dsimp only
  repeat' first
    | with_reducible assumption
    | ((with_reducible refine sub_trans ?_ hG); exact rfl)
    | with_reducible apply State.admitBeat_step
    | with_reducible apply State.skipFrame_step
    | with_reducible apply State.entryAccept_step
    | with_reducible apply State.entryRefuse_step
    | with_reducible apply State.bump64_step
    | ((with_reducible refine Step.put (F := 72080289658031240) ?_ hG ?_ ?_); rotate_left; (fail_if_success (with_reducible exact Same.refl _ _)); exact rfl; (first | with_reducible exact State.Inv.congr rfl rfl rfl rfl rfl rfl rfl id id id | exact State.Inv.congr rfl rfl rfl rfl rfl rfl rfl (fun h => Tab.rises_set h _ _) (fun h => Tab.rises_set h _ _) id | exact State.Inv.congr rfl rfl rfl rfl rfl rfl rfl (fun h => Tab.rises_set h _ _) id id | exact State.Inv.congr rfl rfl rfl rfl rfl rfl rfl (fun h => Tab.rises_erase h _) id id | exact State.Inv.congr rfl rfl rfl rfl rfl rfl rfl (fun h => Tab.rises_mapVals h _) id id | exact State.Inv.congr rfl rfl rfl rfl rfl rfl rfl (fun h => Tab.rises_keep h _) id id | exact State.Inv.congr rfl rfl rfl rfl rfl rfl rfl (fun _ => Tab.rises_empty) id id | exact State.Inv.congr rfl rfl rfl rfl rfl rfl rfl id (fun h => Tab.rises_set h _ _) id | exact State.Inv.congr rfl rfl rfl rfl rfl rfl rfl id (fun h => Tab.rises_erase h _) id | exact State.Inv.congr rfl rfl rfl rfl rfl rfl rfl id (fun h => Tab.rises_mapVals h _) id | exact State.Inv.congr rfl rfl rfl rfl rfl rfl rfl id (fun h => Tab.rises_keep h _) id | exact State.Inv.congr rfl rfl rfl rfl rfl rfl rfl id (fun _ => Tab.rises_empty) id | exact State.Inv.congr rfl rfl rfl rfl rfl rfl rfl (fun _ => Tab.rises_empty) (fun _ => Tab.rises_empty) id))
    | with_reducible refine Step.ite (fun _ => ?_) (fun _ => ?_)
    | with_reducible refine StepO.ite (fun _ => ?_) (fun _ => ?_)
    | with_reducible apply StepO.next
    | with_reducible apply foldl_step
    | with_reducible apply foldlFst_step
    | with_reducible intro _
    | with_reducible refine Step.ofFst (by assumption) ?_
    | with_reducible refine StepE.named (by assumption) ?_
    | with_reducible refine StepP.named (by assumption) ?_
    | split
    | dsimp only

theorem execFready_step {G : Nat} {s0 s : State} {x1} {x2} (h : Step G s0 s)
    (hG : sub 72075204416523392 G = true) : StepO G s0 (execFready x1 x2 s) := by
  unfold execFready
  try dsimp only
  repeat' first
    | with_reducible assumption
    | ((with_reducible refine sub_trans ?_ hG); exact rfl)
    | with_reducible apply State.slotReady_step
    | with_reducible apply State.slotDone_step
    | with_reducible apply State.accept_step
    | with_reducible refine Step.ite (fun _ => ?_) (fun _ => ?_)
    | with_reducible refine StepO.ite (fun _ => ?_) (fun _ => ?_)
    | with_reducible apply StepO.next
    | with_reducible apply foldl_step
    | with_reducible apply foldlFst_step
    | with_reducible intro _

theorem State.rewardResume_step {G : Nat} {s0 s : State} {x1} {x2} (h : Step G s0 s)
    (hG : sub 549755813888 G = true) : Step G s0 (State.rewardResume s x1 x2) := by
  unfold State.rewardResume
  try dsimp only
  repeat' first
    | with_reducible assumption
    | ((with_reducible refine sub_trans ?_ hG); exact rfl)
    | ((with_reducible refine Step.put (F := 549755813888) ?_ hG ?_ ?_); rotate_left; (fail_if_success (with_reducible exact Same.refl _ _)); exact rfl; (first | with_reducible exact State.Inv.congr rfl rfl rfl rfl rfl rfl rfl id id id))
    | with_reducible refine Step.ite (fun _ => ?_) (fun _ => ?_)
    | with_reducible apply foldl_step
    | with_reducible apply foldlFst_step
    | with_reducible intro _
    | with_reducible refine Step.ofFst (by assumption) ?_
    | with_reducible refine StepE.named (by assumption) ?_
    | with_reducible refine StepP.named (by assumption) ?_
    | split
    | dsimp only

theorem execSessionBeat_step {G : Nat} {s0 s : State} {x1} (h : Step G s0 s)
    (hG : sub 72080289657801865 G = true) : StepO G s0 (execSessionBeat x1 s) := by
  unfold execSessionBeat
  try dsimp only
  repeat' first
    | with_reducible assumption
    | ((with_reducible refine sub_trans ?_ hG); exact rfl)
    | with_reducible apply State.rewardResume_step
    | with_reducible apply State.advanceTo_step
    | with_reducible apply State.frameDone_step
    | with_reducible apply whenDue_step
    | with_reducible apply each_step
    | ((with_reducible refine Step.put (F := 72080289657801865) ?_ hG ?_ ?_); rotate_left; (fail_if_success (with_reducible exact Same.refl _ _)); exact rfl; (first | with_reducible exact State.Inv.congr rfl rfl rfl rfl rfl rfl rfl id id id | exact State.Inv.congr rfl rfl rfl rfl rfl rfl rfl (fun h => Tab.rises_set h _ _) id id | exact State.Inv.congr rfl rfl rfl rfl rfl rfl rfl (fun h => Tab.rises_erase h _) id id | exact State.Inv.congr rfl rfl rfl rfl rfl rfl rfl (fun h => Tab.rises_mapVals h _) id id | exact State.Inv.congr rfl rfl rfl rfl rfl rfl rfl (fun h => Tab.rises_keep h _) id id | exact State.Inv.congr rfl rfl rfl rfl rfl rfl rfl (fun _ => Tab.rises_empty) id id | exact State.Inv.congr rfl rfl rfl rfl rfl rfl rfl id (fun h => Tab.rises_set h _ _) id | exact State.Inv.congr rfl rfl rfl rfl rfl rfl rfl id (fun h => Tab.rises_erase h _) id | exact State.Inv.congr rfl rfl rfl rfl rfl rfl rfl id (fun h => Tab.rises_mapVals h _) id | exact State.Inv.congr rfl rfl rfl rfl rfl rfl rfl id (fun h => Tab.rises_keep h _) id | exact State.Inv.congr rfl rfl rfl rfl rfl rfl rfl id (fun _ => Tab.rises_empty) id | exact State.Inv.congr rfl rfl rfl rfl rfl rfl rfl (fun _ => Tab.rises_empty) (fun _ => Tab.rises_empty) id))
    | with_reducible refine Step.ite (fun _ => ?_) (fun _ => ?_)
    | with_reducible refine StepO.ite (fun _ => ?_) (fun _ => ?_)
    | with_reducible apply StepO.next
    | with_reducible apply foldl_step
    | with_reducible apply foldlFst_step
    | with_reducible intro _

theorem fxSessionQuery_step {G : Nat} {s0 s : State} {x1} (h : Step G s0 s)
    (hG : sub 4194304 G = true) : StepE G s0 (fxSessionQuery x1 s) := by
  unfold fxSessionQuery
  try dsimp only
  repeat' first
    | with_reducible assumption
    | with_reducible apply State.putCells_step
    | with_reducible refine Step.ite (fun _ => ?_) (fun _ => ?_)
    | with_reducible refine StepE.ite (fun _ => ?_) (fun _ => ?_)
    | with_reducible exact StepE.error
    | with_reducible apply StepE.ok

theorem execSessionQuery_step {G : Nat} {s0 s : State} {x1} {x2} (h : Step G s0 s)
    (hG : sub 4194304 G = true) : StepO G s0 (execSessionQuery x1 x2 s) := by
  unfold execSessionQuery
  try dsimp only
  repeat' first
    | with_reducible assumption
    | with_reducible apply State.odWrite_step
    | with_reducible apply fxSessionQuery_step
    | with_reducible refine Step.ite (fun _ => ?_) (fun _ => ?_)
    | with_reducible refine StepO.ite (fun _ => ?_) (fun _ => ?_)
    | with_reducible apply StepO.next
    | with_reducible refine StepE.ite (fun _ => ?_) (fun _ => ?_)
    | with_reducible exact StepE.error
    | with_reducible apply StepE.ok
    | with_reducible apply foldl_step
    | with_reducible apply foldlFst_step
    | with_reducible intro _

/-! ### TileAcc -/

theorem State.taskRead_step {G : Nat} {s0 s : State} {x1} {x2} {x3} {x4} {x5} {x6} (h : Step G s0 s)
    (hG : sub 142744748032 G = true) : Step G s0 (State.taskRead s x1 x2 x3 x4 x5 x6).1 := by
  unfold State.taskRead
  try dsimp only
  repeat' first
    | with_reducible assumption
    | ((with_reducible refine sub_trans ?_ hG); exact rfl)
    | with_reducible apply State.coldRead_step
    | with_reducible apply State.boundFault_step
    | with_reducible apply State.storeEcc_step
    | with_reducible refine Step.ite (fun _ => ?_) (fun _ => ?_)
    | with_reducible refine Step.fstIte (fun _ => ?_) (fun _ => ?_)
    | with_reducible apply foldlFst_step
    | with_reducible apply foldl_step
    | with_reducible apply foldlFst_step
    | with_reducible intro _
    | with_reducible refine Step.ofFst (by assumption) ?_
    | with_reducible refine StepE.named (by assumption) ?_
    | with_reducible refine StepP.named (by assumption) ?_
    | split

theorem State.taskWrite_step {G : Nat} {s0 s : State} {x1} {x2} {x3} {x4} {x5} {x6} (h : Step G s0 s)
    (hG : sub 142744748032 G = true) : Step G s0 (State.taskWrite s x1 x2 x3 x4 x5 x6).1 := by
  unfold State.taskWrite
  try dsimp only
  repeat' first
    | with_reducible assumption
    | ((with_reducible refine sub_trans ?_ hG); exact rfl)
    | with_reducible apply State.boundFault_step
    | with_reducible apply State.storeWrite_step
    | with_reducible refine Step.ite (fun _ => ?_) (fun _ => ?_)
    | with_reducible refine Step.fstIte (fun _ => ?_) (fun _ => ?_)
    | with_reducible apply foldlFst_step
    | with_reducible apply foldl_step
    | with_reducible apply foldlFst_step
    | with_reducible intro _
    | with_reducible refine Step.ofFst (by assumption) ?_
    | with_reducible refine StepE.named (by assumption) ?_
    | with_reducible refine StepP.named (by assumption) ?_
    | split

theorem State.readLines_step {G : Nat} {s0 s : State} {x1} {x2} {x3} {x4} (h : Step G s0 s)
    (hG : sub 142744748032 G = true) : Step G s0 (State.readLines x1 x2 x3 x4 s).1 := by
  induction x4 generalizing s  with
  | nil =>
    unfold State.readLines
    try dsimp only
    repeat' first
      | with_reducible assumption
  | cons y l ih =>
    unfold State.readLines
    try dsimp only
    repeat' first
      | with_reducible apply ih
      | with_reducible assumption
      | with_reducible apply State.taskRead_step
      | with_reducible refine Step.ite (fun _ => ?_) (fun _ => ?_)
      | with_reducible refine Step.fstIte (fun _ => ?_) (fun _ => ?_)
      | with_reducible apply foldlFst_step
      | with_reducible apply foldl_step
      | with_reducible apply foldlFst_step
      | with_reducible intro _
      | with_reducible refine Step.ofFst (by assumption) ?_
      | with_reducible refine StepE.named (by assumption) ?_
      | with_reducible refine StepP.named (by assumption) ?_
      | split

theorem State.writeLines_step {G : Nat} {s0 s : State} {x1} {x2} {x3} {x4} {x5} (h : Step G s0 s)
    (hG : sub 142744748032 G = true) : Step G s0 (State.writeLines x1 x2 x3 x4 x5 s).1 := by
  induction x4 generalizing s x5 with
  | nil =>
    unfold State.writeLines
    try dsimp only
    repeat' first
      | with_reducible assumption
  | cons y l ih =>
    unfold State.writeLines
    try dsimp only
    repeat' first
      | with_reducible apply ih
      | with_reducible assumption
      | with_reducible apply State.taskWrite_step
      | with_reducible refine Step.ite (fun _ => ?_) (fun _ => ?_)
      | with_reducible refine Step.fstIte (fun _ => ?_) (fun _ => ?_)
      | with_reducible apply foldlFst_step
      | with_reducible apply foldl_step
      | with_reducible apply foldlFst_step
      | with_reducible intro _
      | with_reducible refine Step.ofFst (by assumption) ?_
      | with_reducible refine StepE.named (by assumption) ?_
      | with_reducible refine StepP.named (by assumption) ?_
      | split

theorem State.retire_step {G : Nat} {s0 s : State} {x1} {x2} {x3} (h : Step G s0 s)
    (hG : sub 137438953472 G = true) : Step G s0 (State.retire s x1 x2 x3) := by
  unfold State.retire
  try dsimp only
  repeat' first
    | with_reducible assumption
    | with_reducible apply State.setTile_step

theorem State.trap_step {G : Nat} {s0 s : State} {x1} {x2} {x3} {x4} (h : Step G s0 s)
    (hG : sub 138445586432 G = true) : Step G s0 (State.trap s x1 x2 x3 x4) := by
  unfold State.trap
  try dsimp only
  repeat' first
    | with_reducible assumption
    | ((with_reducible refine sub_trans ?_ hG); exact rfl)
    | with_reducible apply State.setTile_step
    | with_reducible apply State.taskFault_step

theorem State.pathStall_step {G : Nat} {s0 s : State} {x1} (h : Step G s0 s)
    (hG : sub 137443147776 G = true) : Step G s0 (State.pathStall s x1) := by
  unfold State.pathStall
  try dsimp only
  repeat' first
    | with_reducible assumption
    | with_reducible apply State.tileBump_step

theorem State.regionAdv_step {G : Nat} {s0 s : State} {x1} {x2} {x3} {x4} (h : Step G s0 s)
    (hG : sub 138445586432 G = true) : Step G s0 (State.regionAdv s x1 x2 x3 x4) := by
  unfold State.regionAdv
  try dsimp only
  repeat' first
    | with_reducible assumption
    | ((with_reducible refine sub_trans ?_ hG); exact rfl)
    | with_reducible apply State.setTile_step
    | with_reducible apply State.taskFault_step
    | with_reducible refine Step.ite (fun _ => ?_) (fun _ => ?_)

/-! ### Tailor -/

theorem State.tableWrite_step {G : Nat} {s0 s : State} {x1} {x2} {x3} {x4} (h : Step G s0 s)
    (hG : sub 142740553728 G = true) : Step G s0 (State.tableWrite s x1 x2 x3 x4) := by
  unfold State.tableWrite
  try dsimp only
  repeat' first
    | with_reducible assumption
    | with_reducible apply State.storeWrite_step
    | with_reducible apply each_step
    | with_reducible refine Step.ite (fun _ => ?_) (fun _ => ?_)
    | with_reducible apply foldl_step
    | with_reducible apply foldlFst_step
    | with_reducible intro _

theorem execTattach_step {G : Nat} {s0 s : State} {x1} {x2} (h : Step G s0 s)
    (hG : sub 72075891611274368 G = true) : StepO G s0 (execTattach x1 x2 s) := by
  unfold execTattach
  try dsimp only
  repeat' first
    | with_reducible assumption
    | ((with_reducible refine sub_trans ?_ hG); exact rfl)
    | with_reducible apply State.setTile_step
    | with_reducible apply State.accept_step
    | with_reducible apply State.entryLost_step
    | with_reducible apply each_step
    | ((with_reducible refine Step.put (F := 72075891611274368) ?_ hG ?_ ?_); rotate_left; (fail_if_success (with_reducible exact Same.refl _ _)); exact rfl; (first | with_reducible exact State.Inv.congr rfl rfl rfl rfl rfl rfl rfl id id id))
    | with_reducible refine Step.ite (fun _ => ?_) (fun _ => ?_)
    | with_reducible refine StepO.ite (fun _ => ?_) (fun _ => ?_)
    | with_reducible apply StepO.next
    | with_reducible apply foldl_step
    | with_reducible apply foldlFst_step
    | with_reducible intro _

theorem State.scanTile_step {G : Nat} {s0 s : State} {x1} {x2} {x3} (h : Step G s0 s)
    (hG : sub 142740553728 G = true) : Step G s0 (State.scanTile s x1 x2 x3) := by
  unfold State.scanTile
  try dsimp only
  repeat' first
    | with_reducible assumption
    | ((with_reducible refine sub_trans ?_ hG); exact rfl)
    | with_reducible apply State.storeEcc_step
    | with_reducible apply State.setTile_step

theorem execTattachScanDone_step {G : Nat} {s0 s : State} {x1} {x2} (h : Step G s0 s)
    (hG : sub 72075346150427776 G = true) : StepO G s0 (execTattachScanDone x1 x2 s) := by
  unfold execTattachScanDone
  try dsimp only
  repeat' first
    | with_reducible assumption
    | ((with_reducible refine sub_trans ?_ hG); exact rfl)
    | with_reducible apply State.scanTile_step
    | with_reducible apply State.entryDone_step
    | with_reducible apply State.faultEnd_step
    | with_reducible apply each_step
    | with_reducible refine Step.ite (fun _ => ?_) (fun _ => ?_)
    | with_reducible refine StepO.ite (fun _ => ?_) (fun _ => ?_)
    | with_reducible apply StepO.next
    | with_reducible apply foldl_step
    | with_reducible apply foldlFst_step
    | with_reducible intro _
    | with_reducible refine Step.ofFst (by assumption) ?_
    | with_reducible refine StepE.named (by assumption) ?_
    | with_reducible refine StepP.named (by assumption) ?_
    | split

theorem State.tailorDone_step {G : Nat} {s0 s : State} {x1} {x2} {x3} {x4} {x5} {x6} (h : Step G s0 s)
    (hG : sub 72075204416507008 G = true) : Step G s0 (State.tailorDone s x1 x2 x3 x4 x5 x6) := by
  unfold State.tailorDone
  try dsimp only
  repeat' first
    | with_reducible assumption
    | ((with_reducible refine sub_trans ?_ hG); exact rfl)
    | with_reducible apply State.faultEnd_step
    | with_reducible apply State.entryDoneAt_step
    | with_reducible refine Step.ite (fun _ => ?_) (fun _ => ?_)
    | with_reducible apply foldl_step
    | with_reducible apply foldlFst_step
    | with_reducible intro _
    | with_reducible refine Step.ofFst (by assumption) ?_
    | with_reducible refine StepE.named (by assumption) ?_
    | with_reducible refine StepP.named (by assumption) ?_
    | rw [id_eq]
    | split
    | dsimp only

theorem execTdetach_step {G : Nat} {s0 s : State} {x1} {x2} (h : Step G s0 s)
    (hG : sub 72075891611274368 G = true) : StepO G s0 (execTdetach x1 x2 s) := by
  unfold execTdetach
  try dsimp only
  repeat' first
    | with_reducible assumption
    | ((with_reducible refine sub_trans ?_ hG); exact rfl)
    | with_reducible apply State.tailorDone_step
    | with_reducible apply State.accept_step
    | with_reducible apply State.detachSlot_step
    | with_reducible refine Step.ite (fun _ => ?_) (fun _ => ?_)
    | with_reducible refine StepO.ite (fun _ => ?_) (fun _ => ?_)
    | with_reducible apply StepO.next
    | with_reducible apply foldl_step
    | with_reducible apply foldlFst_step
    | with_reducible intro _
    | with_reducible refine Step.ofFst (by assumption) ?_
    | with_reducible refine StepE.named (by assumption) ?_
    | with_reducible refine StepP.named (by assumption) ?_
    | split
    | dsimp only

theorem State.clearTable_step {G : Nat} {s0 s : State} {x1} {x2} {x3} (h : Step G s0 s)
    (hG : sub 142740553728 G = true) : Step G s0 (State.clearTable s x1 x2 x3) := by
  unfold State.clearTable
  try dsimp only
  repeat' first
    | with_reducible assumption
    | ((with_reducible refine sub_trans ?_ hG); exact rfl)
    | with_reducible apply State.setTile_step
    | with_reducible apply State.storeWrite_step

theorem execTclear_step {G : Nat} {s0 s : State} {x1} {x2} (h : Step G s0 s)
    (hG : sub 72075895906241664 G = true) : StepO G s0 (execTclear x1 x2 s) := by
  unfold execTclear
  try dsimp only
  repeat' first
    | with_reducible assumption
    | ((with_reducible refine sub_trans ?_ hG); exact rfl)
    | with_reducible apply State.clearTable_step
    | with_reducible apply State.tailorDone_step
    | with_reducible apply State.accept_step
    | with_reducible apply State.dropSlotWork_step
    | with_reducible apply each_step
    | with_reducible refine Step.ite (fun _ => ?_) (fun _ => ?_)
    | with_reducible refine StepO.ite (fun _ => ?_) (fun _ => ?_)
    | with_reducible apply StepO.next
    | with_reducible apply foldl_step
    | with_reducible apply foldlFst_step
    | with_reducible intro _
    | with_reducible refine Step.ofFst (by assumption) ?_
    | with_reducible refine StepE.named (by assumption) ?_
    | with_reducible refine StepP.named (by assumption) ?_
    | split
    | dsimp only

theorem execTreward_step {G : Nat} {s0 s : State} {x1} {x2} (h : Step G s0 s)
    (hG : sub 72075754172320896 G = true) : StepO G s0 (execTreward x1 x2 s) := by
  unfold execTreward
  try dsimp only
  repeat' first
    | with_reducible assumption
    | ((with_reducible refine sub_trans ?_ hG); exact rfl)
    | with_reducible apply State.accept_step
    | ((with_reducible refine Step.put (F := 72075754172320896) ?_ hG ?_ ?_); rotate_left; (fail_if_success (with_reducible exact Same.refl _ _)); exact rfl; (first | with_reducible exact State.Inv.congr rfl rfl rfl rfl rfl rfl rfl id id id))
    | with_reducible refine Step.ite (fun _ => ?_) (fun _ => ?_)
    | with_reducible refine StepO.ite (fun _ => ?_) (fun _ => ?_)
    | with_reducible apply StepO.next
    | with_reducible apply foldl_step
    | with_reducible apply foldlFst_step
    | with_reducible intro _
    | with_reducible refine Step.ofFst (by assumption) ?_
    | with_reducible refine StepE.named (by assumption) ?_
    | with_reducible refine StepP.named (by assumption) ?_
    | split
    | dsimp only

theorem State.rewardOut_step {G : Nat} {s0 s : State} {x1} (h : Step G s0 s)
    (hG : sub 72075891611274368 G = true) : Step G s0 (State.rewardOut s x1) := by
  unfold State.rewardOut
  try dsimp only
  repeat' first
    | with_reducible assumption
    | ((with_reducible refine sub_trans ?_ hG); exact rfl)
    | with_reducible apply State.tailorDone_step
    | with_reducible apply State.setTile_step
    | with_reducible apply State.bump64_step
    | with_reducible apply each_step
    | ((with_reducible refine Step.put (F := 72075891611274368) ?_ hG ?_ ?_); rotate_left; (fail_if_success (with_reducible exact Same.refl _ _)); exact rfl; (first | with_reducible exact State.Inv.congr rfl rfl rfl rfl rfl rfl rfl id id id))
    | with_reducible refine Step.ite (fun _ => ?_) (fun _ => ?_)
    | with_reducible apply foldl_step
    | with_reducible apply foldlFst_step
    | with_reducible intro _
    | with_reducible refine Step.ofFst (by assumption) ?_
    | with_reducible refine StepE.named (by assumption) ?_
    | with_reducible refine StepP.named (by assumption) ?_
    | split
    | dsimp only

theorem execRewardBroadcast_step {G : Nat} {s0 s : State}  (h : Step G s0 s)
    (hG : sub 72079190146157696 G = true) : StepO G s0 (execRewardBroadcast s) := by
  unfold execRewardBroadcast
  try dsimp only
  repeat' first
    | with_reducible assumption
    | ((with_reducible refine sub_trans ?_ hG); exact rfl)
    | with_reducible apply State.rewardOut_step
    | with_reducible apply State.fire_step
    | with_reducible apply State.bump64_step
    | with_reducible apply whenDue_step
    | with_reducible apply each_step
    | ((with_reducible refine Step.put (F := 72079190146157696) ?_ hG ?_ ?_); rotate_left; (fail_if_success (with_reducible exact Same.refl _ _)); exact rfl; (first | with_reducible exact State.Inv.congr rfl rfl rfl rfl rfl rfl rfl id id id))
    | with_reducible refine Step.ite (fun _ => ?_) (fun _ => ?_)
    | with_reducible refine StepO.ite (fun _ => ?_) (fun _ => ?_)
    | with_reducible apply StepO.next
    | with_reducible apply foldl_step
    | with_reducible apply foldlFst_step
    | with_reducible intro _
    | with_reducible refine Step.ofFst (by assumption) ?_
    | with_reducible refine StepE.named (by assumption) ?_
    | with_reducible refine StepP.named (by assumption) ?_
    | split
    | dsimp only

theorem execFeedbackDelivery_step {G : Nat} {s0 s : State} {x1} {x2} (h : Step G s0 s)
    (hG : sub 137438953472 G = true) : StepO G s0 (execFeedbackDelivery x1 x2 s) := by
  unfold execFeedbackDelivery
  try dsimp only
  repeat' first
    | with_reducible assumption
    | ((with_reducible refine sub_trans ?_ hG); exact rfl)
    | with_reducible apply State.setTile_step
    | with_reducible apply whenDue_step
    | with_reducible refine Step.ite (fun _ => ?_) (fun _ => ?_)
    | with_reducible refine StepO.ite (fun _ => ?_) (fun _ => ?_)
    | with_reducible apply StepO.next
    | with_reducible apply foldl_step
    | with_reducible apply foldlFst_step
    | with_reducible intro _
    | with_reducible refine Step.ofFst (by assumption) ?_
    | with_reducible refine StepE.named (by assumption) ?_
    | with_reducible refine StepP.named (by assumption) ?_
    | split
    | dsimp only

theorem State.process_step {G : Nat} {s0 s : State} {x1} {x2} {x3} (h : Step G s0 s) (he : ∀ w u, Step G s0 u → Step G s0 (x3 w u).1)
    (hG : sub 142744748032 G = true) : StepO G s0 (State.process s x1 x2 x3) := by
  unfold State.process
  try dsimp only
  repeat' first
    | with_reducible assumption
    | ((with_reducible refine sub_trans ?_ hG); exact rfl)
    | with_reducible apply State.bump64_step
    | with_reducible apply State.tableWrite_step
    | with_reducible apply State.storeEcc_step
    | with_reducible apply State.setTile_step
    | with_reducible refine Step.ite (fun _ => ?_) (fun _ => ?_)
    | with_reducible refine StepO.ite (fun _ => ?_) (fun _ => ?_)
    | with_reducible apply StepO.next
    | with_reducible apply foldl_step
    | with_reducible apply foldlFst_step
    | with_reducible intro _
    | with_reducible refine Step.ofFst (by assumption) ?_
    | with_reducible refine StepE.named (by assumption) ?_
    | with_reducible refine StepP.named (by assumption) ?_
    | with_reducible apply he
    | split

theorem State.contribute_step {G : Nat} {s0 s : State} {x1} {x2} {x3} (h : Step G s0 s)
    (hG : sub 138449780736 G = true) : Step G s0 (State.contribute s x1 x2 x3) := by
  unfold State.contribute
  try dsimp only
  repeat' first
    | with_reducible assumption
    | ((with_reducible refine sub_trans ?_ hG); exact rfl)
    | with_reducible apply State.fire_step
    | with_reducible apply State.bump64_step
    | with_reducible apply State.setTile_step
    | with_reducible apply each_step
    | with_reducible refine Step.ite (fun _ => ?_) (fun _ => ?_)
    | with_reducible apply foldl_step
    | with_reducible apply foldlFst_step
    | with_reducible intro _

theorem execTailorPre_step {G : Nat} {s0 s : State} {x1} (h : Step G s0 s)
    (hG : sub 142744748032 G = true) : StepO G s0 (execTailorPre x1 s) := by
  unfold execTailorPre
  try dsimp only
  repeat' first
    | with_reducible assumption
    | ((with_reducible refine sub_trans ?_ hG); exact rfl)
    | with_reducible apply State.contribute_step
    | with_reducible apply State.process_step
    | with_reducible refine Step.ite (fun _ => ?_) (fun _ => ?_)
    | with_reducible refine StepO.ite (fun _ => ?_) (fun _ => ?_)
    | with_reducible apply StepO.next
    | with_reducible apply foldl_step
    | with_reducible apply foldlFst_step
    | with_reducible intro _

theorem execTailorPost_step {G : Nat} {s0 s : State} {x1} (h : Step G s0 s)
    (hG : sub 142744748032 G = true) : StepO G s0 (execTailorPost x1 s) := by
  unfold execTailorPost
  try dsimp only
  repeat' first
    | with_reducible assumption
    | ((with_reducible refine sub_trans ?_ hG); exact rfl)
    | with_reducible apply State.bump64_step
    | with_reducible apply State.count_step
    | with_reducible apply State.process_step
    | with_reducible apply State.fire_step
    | with_reducible apply each_step
    | with_reducible refine Step.ite (fun _ => ?_) (fun _ => ?_)
    | with_reducible refine StepO.ite (fun _ => ?_) (fun _ => ?_)
    | with_reducible apply StepO.next
    | with_reducible apply foldl_step
    | with_reducible apply foldlFst_step
    | with_reducible intro _

theorem State.updateAll_step {G : Nat} {s0 s : State} {x1} {x2} {x3} (h : Step G s0 s)
    (hG : sub 4194304 G = true) : Step G s0 (State.updateAll s x1 x2 x3).1 := by
  unfold State.updateAll
  try dsimp only
  repeat' first
    | with_reducible assumption
    | with_reducible apply State.count_step

theorem execTailorError_step {G : Nat} {s0 s : State} {x1} (h : Step G s0 s)
    (hG : sub 142744748032 G = true) : StepO G s0 (execTailorError x1 s) := by
  unfold execTailorError
  try dsimp only
  repeat' first
    | with_reducible assumption
    | ((with_reducible refine sub_trans ?_ hG); exact rfl)
    | with_reducible apply State.updateAll_step
    | with_reducible apply State.process_step
    | with_reducible refine Step.ite (fun _ => ?_) (fun _ => ?_)
    | with_reducible refine StepO.ite (fun _ => ?_) (fun _ => ?_)
    | with_reducible apply StepO.next
    | with_reducible apply foldl_step
    | with_reducible apply foldlFst_step
    | with_reducible intro _

theorem execTailorReward_step {G : Nat} {s0 s : State} {x1} (h : Step G s0 s)
    (hG : sub 142744748032 G = true) : StepO G s0 (execTailorReward x1 s) := by
  unfold execTailorReward
  try dsimp only
  repeat' first
    | with_reducible assumption
    | ((with_reducible refine sub_trans ?_ hG); exact rfl)
    | with_reducible apply State.updateAll_step
    | with_reducible apply State.process_step
    | with_reducible refine Step.ite (fun _ => ?_) (fun _ => ?_)
    | with_reducible refine StepO.ite (fun _ => ?_) (fun _ => ?_)
    | with_reducible apply StepO.next
    | with_reducible apply foldl_step
    | with_reducible apply foldlFst_step
    | with_reducible intro _

theorem State.deliver_step {G : Nat} {s0 s : State} {x1} {x2} (h : Step G s0 s)
    (hG : sub 142744748032 G = true) : Step G s0 (State.deliver s x1 x2) := by
  unfold State.deliver
  try dsimp only
  repeat' first
    | with_reducible assumption
    | ((with_reducible refine sub_trans ?_ hG); exact rfl)
    | with_reducible apply State.fire_step
    | with_reducible apply State.bump64_step
    | with_reducible apply State.setTile_step
    | with_reducible apply State.boundFault_step
    | with_reducible apply State.storeWrite_step
    | with_reducible apply each_step
    | with_reducible refine Step.ite (fun _ => ?_) (fun _ => ?_)
    | with_reducible apply foldl_step
    | with_reducible apply foldlFst_step
    | with_reducible intro _
    | with_reducible refine Step.ofFst (by assumption) ?_
    | with_reducible refine StepE.named (by assumption) ?_
    | with_reducible refine StepP.named (by assumption) ?_
    | split

theorem execTailorStep_step {G : Nat} {s0 s : State} {x1} (h : Step G s0 s)
    (hG : sub 142744748032 G = true) : StepO G s0 (execTailorStep x1 s) := by
  unfold execTailorStep
  try dsimp only
  repeat' first
    | with_reducible assumption
    | with_reducible apply State.process_step
    | with_reducible apply State.deliver_step
    | with_reducible refine Step.ite (fun _ => ?_) (fun _ => ?_)
    | with_reducible refine StepO.ite (fun _ => ?_) (fun _ => ?_)
    | with_reducible apply StepO.next
    | with_reducible apply foldl_step
    | with_reducible apply foldlFst_step
    | with_reducible intro _

theorem fxSlotQuery_step {G : Nat} {s0 s : State} {x1} (h : Step G s0 s)
    (hG : sub 4194304 G = true) : StepE G s0 (fxSlotQuery x1 s) := by
  unfold fxSlotQuery
  try dsimp only
  repeat' first
    | with_reducible assumption
    | with_reducible apply State.putCells_step
    | with_reducible refine Step.ite (fun _ => ?_) (fun _ => ?_)
    | with_reducible refine StepE.ite (fun _ => ?_) (fun _ => ?_)
    | with_reducible exact StepE.error
    | with_reducible apply StepE.ok
    | with_reducible apply foldl_step
    | with_reducible apply foldlFst_step
    | with_reducible intro _
    | with_reducible refine Step.ofFst (by assumption) ?_
    | with_reducible refine StepE.named (by assumption) ?_
    | with_reducible refine StepP.named (by assumption) ?_
    | split

theorem execSlotQuery_step {G : Nat} {s0 s : State} {x1} {x2} (h : Step G s0 s)
    (hG : sub 4194304 G = true) : StepO G s0 (execSlotQuery x1 x2 s) := by
  unfold execSlotQuery
  try dsimp only
  repeat' first
    | with_reducible assumption
    | with_reducible apply State.odWrite_step
    | with_reducible apply fxSlotQuery_step
    | with_reducible refine Step.ite (fun _ => ?_) (fun _ => ?_)
    | with_reducible refine StepO.ite (fun _ => ?_) (fun _ => ?_)
    | with_reducible apply StepO.next
    | with_reducible refine StepE.ite (fun _ => ?_) (fun _ => ?_)
    | with_reducible exact StepE.error
    | with_reducible apply StepE.ok
    | with_reducible apply foldl_step
    | with_reducible apply foldlFst_step
    | with_reducible intro _

theorem fxContextQuery_step {G : Nat} {s0 s : State} {x1} (h : Step G s0 s)
    (hG : sub 4194304 G = true) : StepE G s0 (fxContextQuery x1 s) := by
  unfold fxContextQuery
  try dsimp only
  repeat' first
    | with_reducible assumption
    | with_reducible apply State.putCells_step
    | with_reducible refine Step.ite (fun _ => ?_) (fun _ => ?_)
    | with_reducible refine StepE.ite (fun _ => ?_) (fun _ => ?_)
    | with_reducible exact StepE.error
    | with_reducible apply StepE.ok

theorem execContextQuery_step {G : Nat} {s0 s : State} {x1} {x2} (h : Step G s0 s)
    (hG : sub 4194304 G = true) : StepO G s0 (execContextQuery x1 x2 s) := by
  unfold execContextQuery
  try dsimp only
  repeat' first
    | with_reducible assumption
    | with_reducible apply State.odWrite_step
    | with_reducible apply fxContextQuery_step
    | with_reducible refine Step.ite (fun _ => ?_) (fun _ => ?_)
    | with_reducible refine StepO.ite (fun _ => ?_) (fun _ => ?_)
    | with_reducible apply StepO.next
    | with_reducible refine StepE.ite (fun _ => ?_) (fun _ => ?_)
    | with_reducible exact StepE.error
    | with_reducible apply StepE.ok
    | with_reducible apply foldl_step
    | with_reducible apply foldlFst_step
    | with_reducible intro _

/-! ### OdRead -/

theorem fxClockQuery_step {G : Nat} {s0 s : State} {x1} (h : Step G s0 s)
    (hG : sub 144115188080050176 G = true) : StepE G s0 (fxClockQuery x1 s) := by
  unfold fxClockQuery
  try dsimp only
  repeat' first
    | with_reducible assumption
    | ((with_reducible refine sub_trans ?_ hG); exact rfl)
    | with_reducible apply State.putCells_step
    | with_reducible apply State.draw_step
    | with_reducible refine Step.ite (fun _ => ?_) (fun _ => ?_)
    | with_reducible refine StepE.ite (fun _ => ?_) (fun _ => ?_)
    | with_reducible exact StepE.error
    | with_reducible apply StepE.ok

/-! ### Settings -/

theorem State.settingAfter_step {G : Nat} {s0 s : State} {x1} (h : Step G s0 s)
    (hG : sub 72080289657998472 G = true) : Step G s0 (State.settingAfter s x1) := by
  unfold State.settingAfter
  try dsimp only
  repeat' first
    | with_reducible assumption
    | ((with_reducible refine sub_trans ?_ hG); exact rfl)
    | with_reducible apply State.rebudget_step
    | with_reducible apply State.demandCheck_step
    | with_reducible refine Step.ite (fun _ => ?_) (fun _ => ?_)

theorem State.settingPut_step {G : Nat} {s0 s : State} {x1} {x2} {x3} (h : Step G s0 s)
    (hG : sub 76020940413881532 G = true) : Step G s0 (State.settingPut s x1 x2 x3) := by
  unfold State.settingPut
  try dsimp only
  repeat' first
    | with_reducible assumption
    | ((with_reducible refine sub_trans ?_ hG); exact rfl)
    | with_reducible apply State.shaperWrite_step
    | with_reducible apply State.portConfig_step
    | with_reducible apply State.limitReached_step
    | with_reducible apply State.putCell_step
    | ((with_reducible refine Step.put (F := 76020940413881532) ?_ hG ?_ ?_); rotate_left; (fail_if_success (with_reducible exact Same.refl _ _)); exact rfl; (first | with_reducible exact State.Inv.congr rfl rfl rfl rfl rfl rfl rfl id id id))
    | with_reducible refine Step.ite (fun _ => ?_) (fun _ => ?_)
    | with_reducible apply foldl_step
    | with_reducible apply foldlFst_step
    | with_reducible intro _
    | with_reducible refine Step.ofFst (by assumption) ?_
    | with_reducible refine StepE.named (by assumption) ?_
    | with_reducible refine StepP.named (by assumption) ?_
    | split
    | dsimp only

theorem fxSetting_step {G : Nat} {s0 s : State} {x1} {x2} {x3} (h : Step G s0 s)
    (hG : sub 76020940414078140 G = true) : StepE G s0 (fxSetting x1 x2 x3 s) := by
  unfold fxSetting
  try dsimp only
  repeat' first
    | with_reducible assumption
    | ((with_reducible refine sub_trans ?_ hG); exact rfl)
    | with_reducible apply State.settingPut_step
    | with_reducible apply State.settingAfter_step
    | with_reducible refine Step.ite (fun _ => ?_) (fun _ => ?_)
    | with_reducible refine StepE.ite (fun _ => ?_) (fun _ => ?_)
    | with_reducible exact StepE.error
    | with_reducible apply StepE.ok
    | with_reducible apply foldl_step
    | with_reducible apply foldlFst_step
    | with_reducible intro _
    | with_reducible refine Step.ofFst (by assumption) ?_
    | with_reducible refine StepE.named (by assumption) ?_
    | with_reducible refine StepP.named (by assumption) ?_
    | split

theorem State.writeRecord_step {G : Nat} {s0 s : State} {x1} {x2} (h : Step G s0 s)
    (hG : sub 36028797018963968 G = true) : Step G s0 (State.writeRecord s x1 x2) := by
  unfold State.writeRecord
  try dsimp only
  repeat' first
    | with_reducible assumption
    | ((with_reducible refine sub_trans ?_ hG); exact rfl)
    | ((with_reducible refine Step.put (F := 36028797018963968) ?_ hG ?_ ?_); rotate_left; (fail_if_success (with_reducible exact Same.refl _ _)); exact rfl; (first | with_reducible exact State.Inv.congr rfl rfl rfl rfl rfl rfl rfl id id id))
    | with_reducible refine Step.ite (fun _ => ?_) (fun _ => ?_)
    | with_reducible apply foldl_step
    | with_reducible apply foldlFst_step
    | with_reducible intro _
    | with_reducible refine Step.ofFst (by assumption) ?_
    | with_reducible refine StepE.named (by assumption) ?_
    | with_reducible refine StepP.named (by assumption) ?_
    | split
    | dsimp only

theorem State.wholeArea_step {G : Nat} {s0 s : State} {x1} (h : Step G s0 s)
    (hG : sub 12582912 G = true) : Step G s0 (State.wholeArea s x1) := by
  unfold State.wholeArea
  try dsimp only
  repeat' first
    | with_reducible assumption
    | ((with_reducible refine sub_trans ?_ hG); exact rfl)
    | ((with_reducible refine Step.put (F := 12582912) ?_ hG ?_ ?_); rotate_left; (fail_if_success (with_reducible exact Same.refl _ _)); exact rfl; (first | with_reducible exact State.Inv.congr rfl rfl rfl rfl rfl rfl rfl id id id))
    | with_reducible refine Step.ite (fun _ => ?_) (fun _ => ?_)
    | with_reducible apply foldl_step
    | with_reducible apply foldlFst_step
    | with_reducible intro _
    | with_reducible refine Step.ofFst (by assumption) ?_
    | with_reducible refine StepE.named (by assumption) ?_
    | with_reducible refine StepP.named (by assumption) ?_
    | split
    | dsimp only

theorem State.loadOne_step {G : Nat} {s0 s : State} {t} {x1} (h : Step G s0 s) (k : Step G s0 t)
    (hG : sub 76020940413881532 G = true) : Step G s0 (State.loadOne s t x1) := by
  unfold State.loadOne
  try dsimp only
  repeat' first
    | with_reducible assumption
    | ((with_reducible refine sub_trans ?_ hG); exact rfl)
    | with_reducible apply State.settingPut_step
    | with_reducible apply State.bump32_step
    | ((with_reducible refine Step.put (F := 76020940413881532) ?_ hG ?_ ?_); rotate_left; (fail_if_success (with_reducible exact Same.refl _ _)); exact rfl; (first | with_reducible exact State.Inv.congr rfl rfl rfl rfl rfl rfl rfl id id id))
    | with_reducible refine Step.ite (fun _ => ?_) (fun _ => ?_)
    | with_reducible apply foldl_step
    | with_reducible apply foldlFst_step
    | with_reducible intro _
    | with_reducible refine Step.ofFst (by assumption) ?_
    | with_reducible refine StepE.named (by assumption) ?_
    | with_reducible refine StepP.named (by assumption) ?_
    | with_reducible apply he
    | split

theorem State.loadArea_step {G : Nat} {s0 s : State} {x1} {x2} (h : Step G s0 s)
    (hG : sub 76020940414078140 G = true) : Step G s0 (State.loadArea s x1 x2) := by
  unfold State.loadArea
  try dsimp only
  repeat' first
    | with_reducible assumption
    | ((with_reducible refine sub_trans ?_ hG); exact rfl)
    | with_reducible apply State.rebudget_step
    | with_reducible apply State.demandCheck_step
    | with_reducible apply State.loadOne_step
    | with_reducible apply State.wholeArea_step
    | with_reducible refine Step.ite (fun _ => ?_) (fun _ => ?_)
    | with_reducible apply foldl_step
    | with_reducible apply foldlFst_step
    | with_reducible intro _

/-! ### Replies -/

theorem State.canOut_step {G : Nat} {s0 s : State} {x1} {x2} (h : Step G s0 s)
    (hG : sub 72057594050510848 G = true) : Step G s0 (State.canOut s x1 x2) := by
  unfold State.canOut
  try dsimp only
  repeat' first
    | with_reducible assumption
    | ((with_reducible refine sub_trans ?_ hG); exact rfl)
    | with_reducible apply State.bump32_step
    | ((with_reducible refine Step.put (F := 72057594050510848) ?_ hG ?_ ?_); rotate_left; (fail_if_success (with_reducible exact Same.refl _ _)); exact rfl; (first | with_reducible exact State.Inv.congr rfl rfl rfl rfl rfl rfl rfl id id id))
    | with_reducible refine Step.ite (fun _ => ?_) (fun _ => ?_)
    | with_reducible apply foldl_step
    | with_reducible apply foldlFst_step
    | with_reducible intro _
    | with_reducible refine Step.ofFst (by assumption) ?_
    | with_reducible refine StepE.named (by assumption) ?_
    | with_reducible refine StepP.named (by assumption) ?_
    | rw [id_eq]
    | split
    | dsimp only

theorem State.canFlush_step {G : Nat} {s0 s : State} (h : Step G s0 s)
    (hG : sub 72057594050510848 G = true) : Step G s0 (State.canFlush s) := by
  unfold State.canFlush
  try dsimp only
  repeat' first
    | with_reducible assumption
    | ((with_reducible refine sub_trans ?_ hG); exact rfl)
    | with_reducible apply State.canOut_step
    | with_reducible apply each_step
    | ((with_reducible refine Step.put (F := 72057594050510848) ?_ hG ?_ ?_); rotate_left; (fail_if_success (with_reducible exact Same.refl _ _)); exact rfl; (first | with_reducible exact State.Inv.congr rfl rfl rfl rfl rfl rfl rfl id id id))
    | with_reducible refine Step.ite (fun _ => ?_) (fun _ => ?_)
    | with_reducible apply foldl_step
    | with_reducible apply foldlFst_step
    | with_reducible intro _
    | with_reducible refine Step.ofFst (by assumption) ?_
    | with_reducible refine StepE.named (by assumption) ?_
    | with_reducible refine StepP.named (by assumption) ?_
    | split
    | dsimp only

theorem State.canSend_step {G : Nat} {s0 s : State} {x1} {x2} (h : Step G s0 s)
    (hG : sub 72057594050510848 G = true) : Step G s0 (State.canSend s x1 x2) := by
  unfold State.canSend
  try dsimp only
  repeat' first
    | with_reducible assumption
    | ((with_reducible refine sub_trans ?_ hG); exact rfl)
    | with_reducible apply State.canFlush_step
    | with_reducible apply State.canOut_step
    | ((with_reducible refine Step.put (F := 72057594050510848) ?_ hG ?_ ?_); rotate_left; (fail_if_success (with_reducible exact Same.refl _ _)); exact rfl; (first | with_reducible exact State.Inv.congr rfl rfl rfl rfl rfl rfl rfl id id id))
    | with_reducible refine Step.ite (fun _ => ?_) (fun _ => ?_)
    | with_reducible apply foldl_step
    | with_reducible apply foldlFst_step
    | with_reducible intro _
    | with_reducible refine Step.ofFst (by assumption) ?_
    | with_reducible refine StepE.named (by assumption) ?_
    | with_reducible refine StepP.named (by assumption) ?_
    | rw [id_eq]
    | split
    | dsimp only

theorem State.canHeard_step {G : Nat} {s0 s : State} (h : Step G s0 s)
    (hG : sub 144115188084244480 G = true) : Step G s0 (State.canHeard s) := by
  unfold State.canHeard
  try dsimp only
  repeat' first
    | with_reducible assumption
    | ((with_reducible refine sub_trans ?_ hG); exact rfl)
    | with_reducible apply State.draw_step
    | ((with_reducible refine Step.put (F := 144115188084244480) ?_ hG ?_ ?_); rotate_left; (fail_if_success (with_reducible exact Same.refl _ _)); exact rfl; (first | with_reducible exact State.Inv.congr rfl rfl rfl rfl rfl rfl rfl id id id))
    | with_reducible refine Step.ite (fun _ => ?_) (fun _ => ?_)
    | with_reducible apply foldl_step
    | with_reducible apply foldlFst_step
    | with_reducible intro _
    | with_reducible refine Step.ofFst (by assumption) ?_
    | with_reducible refine StepE.named (by assumption) ?_
    | with_reducible refine StepP.named (by assumption) ?_
    | split
    | dsimp only

theorem State.canGot_step {G : Nat} {s0 s : State} (h : Step G s0 s)
    (hG : sub 144115188088438784 G = true) : Step G s0 (State.canGot s) := by
  unfold State.canGot
  try dsimp only
  repeat' first
    | with_reducible assumption
    | ((with_reducible refine sub_trans ?_ hG); exact rfl)
    | with_reducible apply State.canHeard_step
    | with_reducible apply State.bump32_step
    | with_reducible refine Step.ite (fun _ => ?_) (fun _ => ?_)
    | with_reducible apply foldl_step
    | with_reducible apply foldlFst_step
    | with_reducible intro _
    | with_reducible refine Step.ofFst (by assumption) ?_
    | with_reducible refine StepE.named (by assumption) ?_
    | with_reducible refine StepP.named (by assumption) ?_
    | split
    | dsimp only

theorem State.sdoSend_step {G : Nat} {s0 s : State} {x1} (h : Step G s0 s)
    (hG : sub 72057594050510848 G = true) : Step G s0 (State.sdoSend s x1) := by
  unfold State.sdoSend
  try dsimp only
  repeat' first
    | with_reducible assumption
    | with_reducible apply State.canSend_step

theorem State.sdoIdle_step {G : Nat} {s0 s : State}  (h : Step G s0 s)
    (hG : sub 8388608 G = true) : Step G s0 (State.sdoIdle s) := by
  unfold State.sdoIdle
  try dsimp only
  repeat' first
    | with_reducible assumption
    | ((with_reducible refine sub_trans ?_ hG); exact rfl)
    | ((with_reducible refine Step.put (F := 8388608) ?_ hG ?_ ?_); rotate_left; (fail_if_success (with_reducible exact Same.refl _ _)); exact rfl; (first | with_reducible exact State.Inv.congr rfl rfl rfl rfl rfl rfl rfl id id id))
    | with_reducible refine Step.ite (fun _ => ?_) (fun _ => ?_)
    | with_reducible apply foldl_step
    | with_reducible apply foldlFst_step
    | with_reducible intro _
    | with_reducible refine Step.ofFst (by assumption) ?_
    | with_reducible refine StepE.named (by assumption) ?_
    | with_reducible refine StepP.named (by assumption) ?_
    | split
    | dsimp only

theorem State.sdoAbort_step {G : Nat} {s0 s : State} {x1} {x2} {x3} (h : Step G s0 s)
    (hG : sub 72057594050510848 G = true) : Step G s0 (State.sdoAbort s x1 x2 x3) := by
  unfold State.sdoAbort
  try dsimp only
  repeat' first
    | with_reducible assumption
    | ((with_reducible refine sub_trans ?_ hG); exact rfl)
    | with_reducible apply State.sdoIdle_step
    | with_reducible apply State.sdoSend_step
    | with_reducible apply State.aborted_step
    | with_reducible apply State.bump32_step

theorem State.sdoDone_step {G : Nat} {s0 s : State} {x1} (h : Step G s0 s)
    (hG : sub 72057594050510848 G = true) : Step G s0 (State.sdoDone s x1) := by
  unfold State.sdoDone
  try dsimp only
  repeat' first
    | with_reducible assumption
    | ((with_reducible refine sub_trans ?_ hG); exact rfl)
    | with_reducible apply State.sdoIdle_step
    | with_reducible apply State.sdoSend_step
    | with_reducible apply State.bump32_step

theorem State.downloadDone_step {G : Nat} {s0 s : State} {x1} {x2} {x3} {x4} (h : Step G s0 s)
    (hG : sub 72057594050510848 G = true) : Step G s0 (State.downloadDone s x1 x2 x3 x4) := by
  unfold State.downloadDone
  try dsimp only
  repeat' first
    | with_reducible assumption
    | with_reducible apply State.sdoDone_step
    | with_reducible refine Step.ite (fun _ => ?_) (fun _ => ?_)

theorem State.setSdo_step {G : Nat} {s0 s : State} {x1} (h : Step G s0 s)
    (hG : sub 8388608 G = true) : Step G s0 (State.setSdo s x1) := by
  unfold State.setSdo
  try dsimp only
  repeat' first
    | with_reducible assumption
    | ((with_reducible refine sub_trans ?_ hG); exact rfl)
    | ((with_reducible refine Step.put (F := 8388608) ?_ hG ?_ ?_); rotate_left; (fail_if_success (with_reducible exact Same.refl _ _)); exact rfl; (first | with_reducible exact State.Inv.congr rfl rfl rfl rfl rfl rfl rfl id id id))
    | with_reducible refine Step.ite (fun _ => ?_) (fun _ => ?_)
    | with_reducible apply foldl_step
    | with_reducible apply foldlFst_step
    | with_reducible intro _
    | with_reducible refine Step.ofFst (by assumption) ?_
    | with_reducible refine StepE.named (by assumption) ?_
    | with_reducible refine StepP.named (by assumption) ?_
    | split
    | dsimp only

theorem State.setBox_step {G : Nat} {s0 s : State} {x1} {x2} (h : Step G s0 s)
    (hG : sub 50331648 G = true) : Step G s0 (State.setBox s x1 x2) := by
  unfold State.setBox
  try dsimp only
  repeat' first
    | with_reducible assumption
    | ((with_reducible refine Step.put (F := 50331648) ?_ hG ?_ ?_); rotate_left; (fail_if_success (with_reducible exact Same.refl _ _)); exact rfl; (first | with_reducible exact State.Inv.congr rfl rfl rfl rfl rfl rfl rfl id id id))
    | with_reducible refine Step.ite (fun _ => ?_) (fun _ => ?_)
    | with_reducible apply foldl_step
    | with_reducible apply foldlFst_step
    | with_reducible intro _
    | with_reducible refine Step.ofFst (by assumption) ?_
    | with_reducible refine StepE.named (by assumption) ?_
    | with_reducible refine StepP.named (by assumption) ?_
    | split

theorem State.answerBox_step {G : Nat} {s0 s : State} {x1} {x2} {x3} {x4} (h : Step G s0 s)
    (hG : sub 54525952 G = true) : Step G s0 (State.answerBox s x1 x2 x3 x4) := by
  unfold State.answerBox
  try dsimp only
  repeat' first
    | with_reducible assumption
    | ((with_reducible refine sub_trans ?_ hG); exact rfl)
    | with_reducible apply State.setBox_step
    | with_reducible apply State.aborted_step
    | with_reducible refine Step.ite (fun _ => ?_) (fun _ => ?_)
    | with_reducible apply foldl_step
    | with_reducible apply foldlFst_step
    | with_reducible intro _
    | with_reducible refine Step.ofFst (by assumption) ?_
    | with_reducible refine StepE.named (by assumption) ?_
    | with_reducible refine StepP.named (by assumption) ?_
    | split

theorem State.answer_step {G : Nat} {s0 s : State} {x1} {x2} {x3} {x4} (h : Step G s0 s)
    (hG : sub 72057594100842496 G = true) : Step G s0 (State.answer s x1 x2 x3 x4) := by
  unfold State.answer
  try dsimp only
  repeat' first
    | with_reducible assumption
    | ((with_reducible refine sub_trans ?_ hG); exact rfl)
    | with_reducible apply State.downloadDone_step
    | with_reducible apply State.sdoAbort_step
    | with_reducible apply State.answerBox_step
    | with_reducible apply State.aborted_step
    | with_reducible refine Step.ite (fun _ => ?_) (fun _ => ?_)
    | with_reducible apply foldl_step
    | with_reducible apply foldlFst_step
    | with_reducible intro _
    | with_reducible refine Step.ofFst (by assumption) ?_
    | with_reducible refine StepE.named (by assumption) ?_
    | with_reducible refine StepP.named (by assumption) ?_
    | split

/-! ### Firmware -/

theorem State.jobStart_step {G : Nat} {s0 s : State} {x1} (h : Step G s0 s)
    (hG : sub 36028797018963968 G = true) : Step G s0 (State.jobStart s x1) := by
  unfold State.jobStart
  try dsimp only
  repeat' first
    | with_reducible assumption
    | ((with_reducible refine sub_trans ?_ hG); exact rfl)
    | ((with_reducible refine Step.put (F := 36028797018963968) ?_ hG ?_ ?_); rotate_left; (fail_if_success (with_reducible exact Same.refl _ _)); exact rfl; (first | with_reducible exact State.Inv.congr rfl rfl rfl rfl rfl rfl rfl id id id))
    | with_reducible refine Step.ite (fun _ => ?_) (fun _ => ?_)
    | with_reducible apply foldl_step
    | with_reducible apply foldlFst_step
    | with_reducible intro _
    | with_reducible refine Step.ofFst (by assumption) ?_
    | with_reducible refine StepE.named (by assumption) ?_
    | with_reducible refine StepP.named (by assumption) ?_
    | split
    | dsimp only

theorem State.jobQueue_step {G : Nat} {s0 s : State} {x1} (h : Step G s0 s)
    (hG : sub 36028797018963968 G = true) : Step G s0 (State.jobQueue s x1) := by
  unfold State.jobQueue
  try dsimp only
  repeat' first
    | with_reducible assumption
    | with_reducible apply State.jobStart_step
    | ((with_reducible refine Step.put (F := 36028797018963968) ?_ hG ?_ ?_); rotate_left; (fail_if_success (with_reducible exact Same.refl _ _)); exact rfl; (first | with_reducible exact State.Inv.congr rfl rfl rfl rfl rfl rfl rfl id id id))
    | with_reducible refine Step.ite (fun _ => ?_) (fun _ => ?_)

theorem fxStore_step {G : Nat} {s0 s : State} {x1} {x2} {x3} (h : Step G s0 s)
    (hG : sub 36028797018963968 G = true) : StepE G s0 (fxStore x1 x2 x3 s) := by
  unfold fxStore
  try dsimp only
  repeat' first
    | with_reducible assumption
    | with_reducible apply State.jobQueue_step
    | with_reducible refine Step.ite (fun _ => ?_) (fun _ => ?_)
    | with_reducible refine StepE.ite (fun _ => ?_) (fun _ => ?_)
    | with_reducible exact StepE.error
    | with_reducible apply StepE.ok

theorem fxRestore_step {G : Nat} {s0 s : State} {x1} {x2} {x3} (h : Step G s0 s)
    (hG : sub 36028797018963968 G = true) : StepE G s0 (fxRestore x1 x2 x3 s) := by
  unfold fxRestore
  try dsimp only
  repeat' first
    | with_reducible assumption
    | with_reducible apply State.jobQueue_step
    | with_reducible refine Step.ite (fun _ => ?_) (fun _ => ?_)
    | with_reducible refine StepE.ite (fun _ => ?_) (fun _ => ?_)
    | with_reducible exact StepE.error
    | with_reducible apply StepE.ok

theorem execStoreParameters_step {G : Nat} {s0 s : State} {x1} {x2} {x3} (h : Step G s0 s)
    (hG : sub 36028797023158272 G = true) : StepO G s0 (execStoreParameters x1 x2 x3 s) := by
  unfold execStoreParameters
  try dsimp only
  repeat' first
    | with_reducible assumption
    | ((with_reducible refine sub_trans ?_ hG); exact rfl)
    | with_reducible apply State.odWrite_step
    | with_reducible apply fxStore_step
    | with_reducible refine Step.ite (fun _ => ?_) (fun _ => ?_)
    | with_reducible refine StepO.ite (fun _ => ?_) (fun _ => ?_)
    | with_reducible apply StepO.next
    | with_reducible refine StepE.ite (fun _ => ?_) (fun _ => ?_)
    | with_reducible exact StepE.error
    | with_reducible apply StepE.ok
    | with_reducible apply foldl_step
    | with_reducible apply foldlFst_step
    | with_reducible intro _

theorem execRestoreDefaults_step {G : Nat} {s0 s : State} {x1} {x2} {x3} (h : Step G s0 s)
    (hG : sub 36028797023158272 G = true) : StepO G s0 (execRestoreDefaults x1 x2 x3 s) := by
  unfold execRestoreDefaults
  try dsimp only
  repeat' first
    | with_reducible assumption
    | ((with_reducible refine sub_trans ?_ hG); exact rfl)
    | with_reducible apply State.odWrite_step
    | with_reducible apply fxRestore_step
    | with_reducible refine Step.ite (fun _ => ?_) (fun _ => ?_)
    | with_reducible refine StepO.ite (fun _ => ?_) (fun _ => ?_)
    | with_reducible apply StepO.next
    | with_reducible refine StepE.ite (fun _ => ?_) (fun _ => ?_)
    | with_reducible exact StepE.error
    | with_reducible apply StepE.ok
    | with_reducible apply foldl_step
    | with_reducible apply foldlFst_step
    | with_reducible intro _

theorem State.commitRest_step {G : Nat} {s0 s : State}  (h : Step G s0 s)
    (hG : sub 126118383847212208 G = true) : Step G s0 (State.commitRest s) := by
  unfold State.commitRest
  try dsimp only
  repeat' first
    | with_reducible assumption
    | ((with_reducible refine sub_trans ?_ hG); exact rfl)
    | with_reducible apply State.emcyEvent_step
    | ((with_reducible refine Step.put (F := 126118383847212208) ?_ hG ?_ ?_); rotate_left; (fail_if_success (with_reducible exact Same.refl _ _)); exact rfl; (first | with_reducible exact State.Inv.congr rfl rfl rfl rfl rfl rfl rfl id id id))
    | with_reducible refine Step.ite (fun _ => ?_) (fun _ => ?_)
    | with_reducible apply foldl_step
    | with_reducible apply foldlFst_step
    | with_reducible intro _
    | with_reducible refine Step.ofFst (by assumption) ?_
    | with_reducible refine StepE.named (by assumption) ?_
    | with_reducible refine StepP.named (by assumption) ?_
    | split
    | dsimp only

theorem State.commitStart_step {G : Nat} {s0 s : State} {x1} (h : Step G s0 s)
    (hG : sub 126118383847212208 G = true) : Step G s0 (State.commitStart s x1) := by
  unfold State.commitStart
  try dsimp only
  repeat' first
    | with_reducible assumption
    | ((with_reducible refine sub_trans ?_ hG); exact rfl)
    | with_reducible apply State.jobStart_step
    | with_reducible apply State.commitRest_step
    | ((with_reducible refine Step.put (F := 126118383847212208) ?_ hG ?_ ?_); rotate_left; (fail_if_success (with_reducible exact Same.refl _ _)); exact rfl; (first | with_reducible exact State.Inv.congr rfl rfl rfl rfl rfl rfl rfl id id id))
    | with_reducible refine Step.ite (fun _ => ?_) (fun _ => ?_)

theorem fxCommit_step {G : Nat} {s0 s : State} {x1} {x2} (h : Step G s0 s)
    (hG : sub 126118383847212208 G = true) : StepE G s0 (fxCommit x1 x2 s) := by
  unfold fxCommit
  try dsimp only
  repeat' first
    | with_reducible assumption
    | ((with_reducible refine sub_trans ?_ hG); exact rfl)
    | with_reducible apply State.commitStart_step
    | ((with_reducible refine Step.put (F := 126118383847212208) ?_ hG ?_ ?_); rotate_left; (fail_if_success (with_reducible exact Same.refl _ _)); exact rfl; (first | with_reducible exact State.Inv.congr rfl rfl rfl rfl rfl rfl rfl id id id))
    | with_reducible refine Step.ite (fun _ => ?_) (fun _ => ?_)
    | with_reducible refine StepE.ite (fun _ => ?_) (fun _ => ?_)
    | with_reducible exact StepE.error
    | with_reducible apply StepE.ok
    | with_reducible apply foldl_step
    | with_reducible apply foldlFst_step
    | with_reducible intro _
    | with_reducible refine Step.ofFst (by assumption) ?_
    | with_reducible refine StepE.named (by assumption) ?_
    | with_reducible refine StepP.named (by assumption) ?_
    | split
    | dsimp only

theorem execCommit_step {G : Nat} {s0 s : State} {x1} {x2} (h : Step G s0 s)
    (hG : sub 135125585249436848 G = true) : StepO G s0 (execCommit x1 x2 s) := by
  unfold execCommit
  try dsimp only
  repeat' first
    | with_reducible assumption
    | ((with_reducible refine sub_trans ?_ hG); exact rfl)
    | with_reducible apply fxCommit_step
    | with_reducible apply State.odWriteSettled_step
    | with_reducible refine Step.ite (fun _ => ?_) (fun _ => ?_)
    | with_reducible refine StepO.ite (fun _ => ?_) (fun _ => ?_)
    | with_reducible apply StepO.next
    | with_reducible refine StepE.ite (fun _ => ?_) (fun _ => ?_)
    | with_reducible exact StepE.error
    | with_reducible apply StepE.ok
    | with_reducible apply foldl_step
    | with_reducible apply foldlFst_step
    | with_reducible intro _

theorem State.updateStart_step {G : Nat} {s0 s : State}  (h : Step G s0 s)
    (hG : sub 36028797018963968 G = true) : Step G s0 (State.updateStart s) := by
  unfold State.updateStart
  try dsimp only
  repeat' first
    | with_reducible assumption
    | ((with_reducible refine sub_trans ?_ hG); exact rfl)
    | ((with_reducible refine Step.put (F := 36028797018963968) ?_ hG ?_ ?_); rotate_left; (fail_if_success (with_reducible exact Same.refl _ _)); exact rfl; (first | with_reducible exact State.Inv.congr rfl rfl rfl rfl rfl rfl rfl id id id))
    | with_reducible refine Step.ite (fun _ => ?_) (fun _ => ?_)
    | with_reducible apply foldl_step
    | with_reducible apply foldlFst_step
    | with_reducible intro _
    | with_reducible refine Step.ofFst (by assumption) ?_
    | with_reducible refine StepE.named (by assumption) ?_
    | with_reducible refine StepP.named (by assumption) ?_
    | split
    | dsimp only

theorem fxUpdateBegin_step {G : Nat} {s0 s : State} {x1} (h : Step G s0 s)
    (hG : sub 36028797018963968 G = true) : StepE G s0 (fxUpdateBegin x1 s) := by
  unfold fxUpdateBegin
  try dsimp only
  repeat' first
    | with_reducible assumption
    | ((with_reducible refine sub_trans ?_ hG); exact rfl)
    | with_reducible apply State.updateStart_step
    | ((with_reducible refine Step.put (F := 36028797018963968) ?_ hG ?_ ?_); rotate_left; (fail_if_success (with_reducible exact Same.refl _ _)); exact rfl; (first | with_reducible exact State.Inv.congr rfl rfl rfl rfl rfl rfl rfl id id id))
    | with_reducible refine Step.ite (fun _ => ?_) (fun _ => ?_)
    | with_reducible refine StepE.ite (fun _ => ?_) (fun _ => ?_)
    | with_reducible exact StepE.error
    | with_reducible apply StepE.ok
    | with_reducible apply foldl_step
    | with_reducible apply foldlFst_step
    | with_reducible intro _
    | with_reducible refine Step.ofFst (by assumption) ?_
    | with_reducible refine StepE.named (by assumption) ?_
    | with_reducible refine StepP.named (by assumption) ?_
    | split
    | dsimp only

theorem execUpdateBegin_step {G : Nat} {s0 s : State} {x1} (h : Step G s0 s)
    (hG : sub 36028797023158272 G = true) : StepO G s0 (execUpdateBegin x1 s) := by
  unfold execUpdateBegin
  try dsimp only
  repeat' first
    | with_reducible assumption
    | ((with_reducible refine sub_trans ?_ hG); exact rfl)
    | with_reducible apply State.odWrite_step
    | with_reducible apply fxUpdateBegin_step
    | with_reducible refine Step.ite (fun _ => ?_) (fun _ => ?_)
    | with_reducible refine StepO.ite (fun _ => ?_) (fun _ => ?_)
    | with_reducible apply StepO.next
    | with_reducible refine StepE.ite (fun _ => ?_) (fun _ => ?_)
    | with_reducible exact StepE.error
    | with_reducible apply StepE.ok
    | with_reducible apply foldl_step
    | with_reducible apply foldlFst_step
    | with_reducible intro _

theorem State.updateEnd_step {G : Nat} {s0 s : State} {x1} {x2} {x3} {x4} (h : Step G s0 s)
    (hG : sub 108103985337730224 G = true) : Step G s0 (State.updateEnd s x1 x2 x3 x4) := by
  unfold State.updateEnd
  try dsimp only
  repeat' first
    | with_reducible assumption
    | ((with_reducible refine sub_trans ?_ hG); exact rfl)
    | with_reducible apply State.emcyEvent_step
    | ((with_reducible refine Step.put (F := 108103985337730224) ?_ hG ?_ ?_); rotate_left; (fail_if_success (with_reducible exact Same.refl _ _)); exact rfl; (first | with_reducible exact State.Inv.congr rfl rfl rfl rfl rfl rfl rfl id id id))
    | with_reducible refine Step.ite (fun _ => ?_) (fun _ => ?_)
    | with_reducible apply foldl_step
    | with_reducible apply foldlFst_step
    | with_reducible intro _
    | with_reducible refine Step.ofFst (by assumption) ?_
    | with_reducible refine StepE.named (by assumption) ?_
    | with_reducible refine StepP.named (by assumption) ?_
    | split
    | dsimp only

theorem State.dropImage_step {G : Nat} {s0 s : State} {x1} {x2} (h : Step G s0 s)
    (hG : sub 72057594100842496 G = true) : Step G s0 (State.dropImage s x1 x2) := by
  unfold State.dropImage
  try dsimp only
  repeat' first
    | with_reducible assumption
    | ((with_reducible refine sub_trans ?_ hG); exact rfl)
    | with_reducible apply State.setBox_step
    | with_reducible apply State.sdoAbort_step
    | with_reducible refine Step.ite (fun _ => ?_) (fun _ => ?_)
    | with_reducible apply foldl_step
    | with_reducible apply foldlFst_step
    | with_reducible intro _
    | with_reducible refine Step.ofFst (by assumption) ?_
    | with_reducible refine StepE.named (by assumption) ?_
    | with_reducible refine StepP.named (by assumption) ?_
    | split

theorem State.programError_step {G : Nat} {s0 s : State}  (h : Step G s0 s)
    (hG : sub 108103985388061872 G = true) : Step G s0 (State.programError s) := by
  unfold State.programError
  try dsimp only
  repeat' first
    | with_reducible assumption
    | ((with_reducible refine sub_trans ?_ hG); exact rfl)
    | with_reducible apply State.dropImage_step
    | with_reducible apply State.answer_step
    | with_reducible apply State.updateEnd_step
    | with_reducible apply State.fire_step
    | with_reducible refine Step.ite (fun _ => ?_) (fun _ => ?_)
    | with_reducible apply foldl_step
    | with_reducible apply foldlFst_step
    | with_reducible intro _
    | with_reducible refine Step.ofFst (by assumption) ?_
    | with_reducible refine StepE.named (by assumption) ?_
    | with_reducible refine StepP.named (by assumption) ?_
    | split

theorem State.imageEnded_step {G : Nat} {s0 s : State}  (h : Step G s0 s)
    (hG : sub 108103985337730224 G = true) : Step G s0 (State.imageEnded s) := by
  unfold State.imageEnded
  try dsimp only
  repeat' first
    | with_reducible assumption
    | with_reducible apply State.updateEnd_step
    | with_reducible refine Step.ite (fun _ => ?_) (fun _ => ?_)

theorem execSlotEraseDone_step {G : Nat} {s0 s : State} {x1} (h : Step G s0 s)
    (hG : sub 108103985388061872 G = true) : StepO G s0 (execSlotEraseDone x1 s) := by
  unfold execSlotEraseDone
  try dsimp only
  repeat' first
    | with_reducible assumption
    | with_reducible apply State.programError_step
    | with_reducible apply whenDue_step
    | ((with_reducible refine Step.put (F := 108103985388061872) ?_ hG ?_ ?_); rotate_left; (fail_if_success (with_reducible exact Same.refl _ _)); exact rfl; (first | with_reducible exact State.Inv.congr rfl rfl rfl rfl rfl rfl rfl id id id))
    | with_reducible refine Step.ite (fun _ => ?_) (fun _ => ?_)

theorem fxUpdateCancel_step {G : Nat} {s0 s : State}  (h : Step G s0 s)
    (hG : sub 108103985388061872 G = true) : StepE G s0 (fxUpdateCancel s) := by
  unfold fxUpdateCancel
  try dsimp only
  repeat' first
    | with_reducible assumption
    | ((with_reducible refine sub_trans ?_ hG); exact rfl)
    | with_reducible apply State.answer_step
    | with_reducible apply State.imageEnded_step
    | with_reducible apply State.dropImage_step
    | ((with_reducible refine Step.put (F := 108103985388061872) ?_ hG ?_ ?_); rotate_left; (fail_if_success (with_reducible exact Same.refl _ _)); exact rfl; (first | with_reducible exact State.Inv.congr rfl rfl rfl rfl rfl rfl rfl id id id))
    | with_reducible refine Step.ite (fun _ => ?_) (fun _ => ?_)
    | with_reducible refine StepE.ite (fun _ => ?_) (fun _ => ?_)
    | with_reducible exact StepE.error
    | with_reducible apply StepE.ok
    | with_reducible apply foldl_step
    | with_reducible apply foldlFst_step
    | with_reducible intro _
    | with_reducible refine Step.ofFst (by assumption) ?_
    | with_reducible refine StepE.named (by assumption) ?_
    | with_reducible refine StepP.named (by assumption) ?_
    | split

theorem fxUpdateRestart_step {G : Nat} {s0 s : State}  (h : Step G s0 s)
    (hG : sub 270074138494726138 G = true) : StepE G s0 (fxUpdateRestart s) := by
  unfold fxUpdateRestart
  try dsimp only
  repeat' first
    | with_reducible assumption
    | ((with_reducible refine sub_trans ?_ hG); exact rfl)
    | with_reducible apply State.orderlyShutdown_step
    | with_reducible apply State.collarRestart_step
    | with_reducible refine Step.ite (fun _ => ?_) (fun _ => ?_)
    | with_reducible refine StepE.ite (fun _ => ?_) (fun _ => ?_)
    | with_reducible exact StepE.error
    | with_reducible apply StepE.ok

theorem execUpdateRestart_step {G : Nat} {s0 s : State} {x1} (h : Step G s0 s)
    (hG : sub 270074140642209786 G = true) : StepO G s0 (execUpdateRestart x1 s) := by
  unfold execUpdateRestart
  try dsimp only
  repeat' first
    | with_reducible assumption
    | ((with_reducible refine sub_trans ?_ hG); exact rfl)
    | with_reducible apply State.odWriteSettled_step
    | with_reducible apply fxUpdateRestart_step
    | with_reducible refine Step.ite (fun _ => ?_) (fun _ => ?_)
    | with_reducible refine StepO.ite (fun _ => ?_) (fun _ => ?_)
    | with_reducible apply StepO.next
    | with_reducible refine StepE.ite (fun _ => ?_) (fun _ => ?_)
    | with_reducible exact StepE.error
    | with_reducible apply StepE.ok
    | with_reducible apply foldl_step
    | with_reducible apply foldlFst_step
    | with_reducible intro _

theorem State.imageBytes_step {G : Nat} {s0 s : State} {x1} (h : Step G s0 s)
    (hG : sub 36028797018963968 G = true) : Step G s0 (State.imageBytes s x1) := by
  unfold State.imageBytes
  try dsimp only
  repeat' first
    | with_reducible assumption
    | ((with_reducible refine sub_trans ?_ hG); exact rfl)
    | ((with_reducible refine Step.put (F := 36028797018963968) ?_ hG ?_ ?_); rotate_left; (fail_if_success (with_reducible exact Same.refl _ _)); exact rfl; (first | with_reducible exact State.Inv.congr rfl rfl rfl rfl rfl rfl rfl id id id))
    | with_reducible refine Step.ite (fun _ => ?_) (fun _ => ?_)
    | with_reducible apply foldl_step
    | with_reducible apply foldlFst_step
    | with_reducible intro _
    | with_reducible refine Step.ofFst (by assumption) ?_
    | with_reducible refine StepE.named (by assumption) ?_
    | with_reducible refine StepP.named (by assumption) ?_
    | split
    | dsimp only

theorem State.updateVerify_step {G : Nat} {s0 s : State} {x1} {x2} (h : Step G s0 s)
    (hG : sub 108103985388061872 G = true) : Step G s0 (State.updateVerify s x1 x2) := by
  unfold State.updateVerify
  try dsimp only
  repeat' first
    | with_reducible assumption
    | ((with_reducible refine sub_trans ?_ hG); exact rfl)
    | with_reducible apply State.fire_step
    | with_reducible apply State.answer_step
    | with_reducible apply State.updateEnd_step
    | with_reducible refine Step.ite (fun _ => ?_) (fun _ => ?_)
    | with_reducible apply foldl_step
    | with_reducible apply foldlFst_step
    | with_reducible intro _
    | with_reducible refine Step.ofFst (by assumption) ?_
    | with_reducible refine StepE.named (by assumption) ?_
    | with_reducible refine StepP.named (by assumption) ?_
    | split

theorem execHealthWindowExpiry_step {G : Nat} {s0 s : State}  (h : Step G s0 s)
    (hG : sub 36028797018963969 G = true) : StepO G s0 (execHealthWindowExpiry s) := by
  unfold execHealthWindowExpiry
  try dsimp only
  repeat' first
    | with_reducible assumption
    | ((with_reducible refine sub_trans ?_ hG); exact rfl)
    | with_reducible apply State.advanceTo_step
    | with_reducible apply whenDue_step
    | ((with_reducible refine Step.put (F := 36028797018963969) ?_ hG ?_ ?_); rotate_left; (fail_if_success (with_reducible exact Same.refl _ _)); exact rfl; (first | with_reducible exact State.Inv.congr rfl rfl rfl rfl rfl rfl rfl id id id))
    | with_reducible refine Step.ite (fun _ => ?_) (fun _ => ?_)
    | with_reducible refine StepO.ite (fun _ => ?_) (fun _ => ?_)
    | with_reducible apply StepO.next
    | with_reducible apply foldl_step
    | with_reducible apply foldlFst_step
    | with_reducible intro _
    | with_reducible refine Step.ofFst (by assumption) ?_
    | with_reducible refine StepE.named (by assumption) ?_
    | with_reducible refine StepP.named (by assumption) ?_
    | split
    | dsimp only

theorem fxUpdateSize_step {G : Nat} {s0 s : State} {x1} (h : Step G s0 s)
    (hG : sub 4194304 G = true) : StepE G s0 (fxUpdateSize x1 s) := by
  unfold fxUpdateSize
  try dsimp only
  repeat' first
    | with_reducible assumption
    | with_reducible apply State.putCell_step
    | with_reducible refine Step.ite (fun _ => ?_) (fun _ => ?_)
    | with_reducible refine StepE.ite (fun _ => ?_) (fun _ => ?_)
    | with_reducible exact StepE.error
    | with_reducible apply StepE.ok

/-! ### Can -/

theorem idChoice_valid (s : State) : 1 ≤ s.idChoice.1 ∧ s.idChoice.1 ≤ 127 := by
  unfold State.idChoice
  dsimp only
  split
  · next h => simpa [idValid] using h
  · split
    · next h => simpa [idValid] using h
    · split
      · next h => simpa [idValid] using h
      · decide

theorem hold_nodeId (c : Can) : c.hold.nodeId = c.nodeId := by unfold Can.hold; split <;> [rfl; (split <;> [rfl; (split <;> rfl)])]
theorem hold_history (c : Can) : c.hold.history = c.history := by unfold Can.hold; split <;> [rfl; (split <;> [rfl; (split <;> rfl)])]

theorem State.sdoEnd_step {G : Nat} {s0 s : State}  (h : Step G s0 s)
    (hG : sub 108103985337730224 G = true) : Step G s0 (State.sdoEnd s) := by
  unfold State.sdoEnd
  try dsimp only
  repeat' first
    | with_reducible assumption
    | with_reducible apply State.imageEnded_step
    | ((with_reducible refine Step.put (F := 108103985337730224) ?_ hG ?_ ?_); rotate_left; (fail_if_success (with_reducible exact Same.refl _ _)); exact rfl; (first | with_reducible exact State.Inv.congr rfl rfl rfl rfl rfl rfl rfl id id id))
    | with_reducible refine Step.ite (fun _ => ?_) (fun _ => ?_)
    | with_reducible apply foldl_step
    | with_reducible apply foldlFst_step
    | with_reducible intro _
    | with_reducible refine Step.ofFst (by assumption) ?_
    | with_reducible refine StepE.named (by assumption) ?_
    | with_reducible refine StepP.named (by assumption) ?_
    | split

theorem State.takeId_step {G : Nat} {s0 s : State} (h : Step G s0 s)
    (hG : sub 8388608 G = true) : Step G s0 (State.takeId s) := by
  unfold State.takeId
  try dsimp only
  repeat' first
    | with_reducible assumption
    | ((with_reducible refine sub_trans ?_ hG); exact rfl)
    | ((with_reducible refine Step.put (F := 8388608) ?_ hG ?_ ?_); rotate_left; (fail_if_success (with_reducible exact Same.refl _ _)); exact rfl; (first | with_reducible exact State.Inv.congr rfl rfl rfl rfl rfl rfl rfl id id id | exact fun v => ⟨v.1, v.2, idChoice_valid _, v.4, v.5, v.6, v.7⟩))
    | with_reducible refine Step.ite (fun _ => ?_) (fun _ => ?_)
    | with_reducible apply foldl_step
    | with_reducible apply foldlFst_step
    | with_reducible intro _
    | with_reducible refine Step.ofFst (by assumption) ?_
    | with_reducible refine StepE.named (by assumption) ?_
    | with_reducible refine StepP.named (by assumption) ?_
    | split
    | dsimp only

theorem State.bootUp_step {G : Nat} {s0 s : State}  (h : Step G s0 s)
    (hG : sub 72057596130885632 G = true) : Step G s0 (State.bootUp s) := by
  unfold State.bootUp
  try dsimp only
  repeat' first
    | with_reducible assumption
    | ((with_reducible refine sub_trans ?_ hG); exact rfl)
    | with_reducible apply State.fire_step
    | with_reducible apply State.canSend_step
    | with_reducible apply State.emcy_step
    | ((with_reducible refine Step.put (F := 72057596130885632) ?_ hG ?_ ?_); rotate_left; (fail_if_success (with_reducible exact Same.refl _ _)); exact rfl; (first | with_reducible exact State.Inv.congr rfl rfl rfl rfl rfl rfl rfl id id id))
    | with_reducible refine Step.ite (fun _ => ?_) (fun _ => ?_)

theorem State.defaultArea_step {G : Nat} {s0 s : State} {x1} (h : Step G s0 s)
    (hG : sub 76020940413881532 G = true) : Step G s0 (State.defaultArea s x1) := by
  unfold State.defaultArea
  try dsimp only
  repeat' first
    | with_reducible assumption
    | with_reducible apply State.loadOne_step
    | with_reducible refine Step.ite (fun _ => ?_) (fun _ => ?_)
    | with_reducible apply foldl_step
    | with_reducible apply foldlFst_step
    | with_reducible intro _

theorem State.keepIds_step {G : Nat} {s0 s : State} {t} (h : Step G s0 s) (k : Step G s0 t)
    (hG : sub 4194304 G = true) : Step G s0 (State.keepIds s t) := by
  unfold State.keepIds
  try dsimp only
  repeat' first
    | with_reducible assumption
    | ((with_reducible refine sub_trans ?_ hG); exact rfl)
    | with_reducible apply State.putCell_step
    | with_reducible refine Step.ite (fun _ => ?_) (fun _ => ?_)
    | with_reducible apply foldl_step
    | with_reducible apply foldlFst_step
    | with_reducible intro _
    | with_reducible refine Step.ofFst (by assumption) ?_
    | with_reducible refine StepE.named (by assumption) ?_
    | with_reducible refine StepP.named (by assumption) ?_
    | split
    | dsimp only

theorem State.resetComm_step {G : Nat} {s0 s : State} (h : Step G s0 s)
    (hG : sub 112049737433042108 G = true) : Step G s0 (State.resetComm s) := by
  unfold State.resetComm
  try dsimp only
  repeat' first
    | with_reducible assumption
    | ((with_reducible refine sub_trans ?_ hG); exact rfl)
    | with_reducible apply State.keepIds_step
    | with_reducible apply State.defaultArea_step
    | with_reducible apply State.bootUp_step
    | with_reducible apply State.takeId_step
    | with_reducible apply State.sdoEnd_step
    | with_reducible apply State.loadArea_step
    | ((with_reducible refine Step.put (F := 112049737433042108) ?_ hG ?_ ?_); rotate_left; (fail_if_success (with_reducible exact Same.refl _ _)); exact rfl; (first | with_reducible exact State.Inv.congr rfl rfl rfl rfl rfl rfl rfl id id id))
    | with_reducible refine Step.ite (fun _ => ?_) (fun _ => ?_)
    | with_reducible apply foldl_step
    | with_reducible apply foldlFst_step
    | with_reducible intro _
    | with_reducible refine Step.ofFst (by assumption) ?_
    | with_reducible refine StepE.named (by assumption) ?_
    | with_reducible refine StepP.named (by assumption) ?_
    | split
    | dsimp only

theorem State.resetNode_step {G : Nat} {s0 s : State}  (h : Step G s0 s)
    (hG : sub 112436774115962044 G = true) : Step G s0 (State.resetNode s) := by
  unfold State.resetNode
  try dsimp only
  repeat' first
    | with_reducible assumption
    | ((with_reducible refine sub_trans ?_ hG); exact rfl)
    | with_reducible apply State.loadArea_step
    | with_reducible apply State.closeAllJobs_step
    | with_reducible apply State.resetComm_step
    | with_reducible refine Step.ite (fun _ => ?_) (fun _ => ?_)

theorem State.nmtOn_step {G : Nat} {s0 s : State} (h : Step G s0 s)
    (hG : sub 8388612 G = true) : Step G s0 (State.nmtOn s) := by
  unfold State.nmtOn
  try dsimp only
  repeat' first
    | with_reducible assumption
    | ((with_reducible refine sub_trans ?_ hG); exact rfl)
    | ((with_reducible refine Step.put (F := 8388612) ?_ hG ?_ ?_); rotate_left; (fail_if_success (with_reducible exact Same.refl _ _)); exact rfl; (first | with_reducible exact State.Inv.congr rfl rfl rfl rfl rfl rfl rfl id id id))
    | with_reducible refine Step.ite (fun _ => ?_) (fun _ => ?_)
    | with_reducible apply foldl_step
    | with_reducible apply foldlFst_step
    | with_reducible intro _
    | with_reducible refine Step.ofFst (by assumption) ?_
    | with_reducible refine StepE.named (by assumption) ?_
    | with_reducible refine StepP.named (by assumption) ?_
    | split
    | dsimp only

theorem State.nmtOff_step {G : Nat} {s0 s : State}  (h : Step G s0 s)
    (hG : sub 108103985337730224 G = true) : Step G s0 (State.nmtOff s) := by
  unfold State.nmtOff
  try dsimp only
  repeat' first
    | with_reducible assumption
    | with_reducible apply State.sdoEnd_step
    | ((with_reducible refine Step.put (F := 108103985337730224) ?_ hG ?_ ?_); rotate_left; (fail_if_success (with_reducible exact Same.refl _ _)); exact rfl; (first | with_reducible exact State.Inv.congr rfl rfl rfl rfl rfl rfl rfl id id id))
    | with_reducible refine Step.ite (fun _ => ?_) (fun _ => ?_)

theorem State.nmtPre_step {G : Nat} {s0 s : State}  (h : Step G s0 s)
    (hG : sub 8388608 G = true) : Step G s0 (State.nmtPre s) := by
  unfold State.nmtPre
  try dsimp only
  repeat' first
    | with_reducible assumption
    | ((with_reducible refine sub_trans ?_ hG); exact rfl)
    | ((with_reducible refine Step.put (F := 8388608) ?_ hG ?_ ?_); rotate_left; (fail_if_success (with_reducible exact Same.refl _ _)); exact rfl; (first | with_reducible exact State.Inv.congr rfl rfl rfl rfl rfl rfl rfl id id id))
    | with_reducible refine Step.ite (fun _ => ?_) (fun _ => ?_)
    | with_reducible apply foldl_step
    | with_reducible apply foldlFst_step
    | with_reducible intro _
    | with_reducible refine Step.ofFst (by assumption) ?_
    | with_reducible refine StepE.named (by assumption) ?_
    | with_reducible refine StepP.named (by assumption) ?_
    | split
    | dsimp only

theorem State.canRx_step {G : Nat} {s0 s : State} {x1} {x2} (h : Step G s0 s) (he : ∀ u, Step G s0 u → Step G s0 (x2 u))
    (hG : sub 225197577796846768 G = true) : StepO G s0 (State.canRx s x1 x2) := by
  unfold State.canRx
  try dsimp only
  repeat' first
    | with_reducible assumption
    | ((with_reducible refine sub_trans ?_ hG); exact rfl)
    | with_reducible apply State.canGot_step
    | with_reducible apply State.canHeard_step
    | with_reducible apply whenSettled_step
    | with_reducible refine Step.ite (fun _ => ?_) (fun _ => ?_)
    | with_reducible refine StepO.ite (fun _ => ?_) (fun _ => ?_)
    | with_reducible apply StepO.next
    | with_reducible apply foldl_step
    | with_reducible apply foldlFst_step
    | with_reducible intro _
    | with_reducible refine Step.ofFst (by assumption) ?_
    | with_reducible refine StepE.named (by assumption) ?_
    | with_reducible refine StepP.named (by assumption) ?_
    | with_reducible apply he
    | split
    | dsimp only

theorem execNmtStart_step {G : Nat} {s0 s : State} {x1} (h : Step G s0 s)
    (hG : sub 225197577796846772 G = true) : StepO G s0 (execNmtStart x1 s) := by
  unfold execNmtStart
  try dsimp only
  repeat' first
    | with_reducible assumption
    | ((with_reducible refine sub_trans ?_ hG); exact rfl)
    | with_reducible apply State.canRx_step
    | with_reducible apply State.nmtOn_step
    | with_reducible refine Step.ite (fun _ => ?_) (fun _ => ?_)
    | with_reducible refine StepO.ite (fun _ => ?_) (fun _ => ?_)
    | with_reducible apply StepO.next
    | with_reducible apply foldl_step
    | with_reducible apply foldlFst_step
    | with_reducible intro _
    | with_reducible refine Step.ofFst (by assumption) ?_
    | with_reducible refine StepE.named (by assumption) ?_
    | with_reducible refine StepP.named (by assumption) ?_
    | split
    | dsimp only

theorem execNmtStop_step {G : Nat} {s0 s : State} {x1} (h : Step G s0 s)
    (hG : sub 261226374815810736 G = true) : StepO G s0 (execNmtStop x1 s) := by
  unfold execNmtStop
  try dsimp only
  repeat' first
    | with_reducible assumption
    | ((with_reducible refine sub_trans ?_ hG); exact rfl)
    | with_reducible apply State.canRx_step
    | with_reducible apply State.nmtOff_step
    | with_reducible refine Step.ite (fun _ => ?_) (fun _ => ?_)
    | with_reducible refine StepO.ite (fun _ => ?_) (fun _ => ?_)
    | with_reducible apply StepO.next
    | with_reducible apply foldl_step
    | with_reducible apply foldlFst_step
    | with_reducible intro _
    | with_reducible refine Step.ofFst (by assumption) ?_
    | with_reducible refine StepE.named (by assumption) ?_
    | with_reducible refine StepP.named (by assumption) ?_
    | split
    | dsimp only

theorem execNmtEnterPreoperational_step {G : Nat} {s0 s : State} {x1} (h : Step G s0 s)
    (hG : sub 225197577796846768 G = true) : StepO G s0 (execNmtEnterPreoperational x1 s) := by
  unfold execNmtEnterPreoperational
  try dsimp only
  repeat' first
    | with_reducible assumption
    | ((with_reducible refine sub_trans ?_ hG); exact rfl)
    | with_reducible apply State.canRx_step
    | with_reducible apply State.nmtPre_step
    | with_reducible refine Step.ite (fun _ => ?_) (fun _ => ?_)
    | with_reducible refine StepO.ite (fun _ => ?_) (fun _ => ?_)
    | with_reducible apply StepO.next
    | with_reducible apply foldl_step
    | with_reducible apply foldlFst_step
    | with_reducible intro _
    | with_reducible refine Step.ofFst (by assumption) ?_
    | with_reducible refine StepE.named (by assumption) ?_
    | with_reducible refine StepP.named (by assumption) ?_
    | split
    | dsimp only

theorem execNmtResetNode_step {G : Nat} {s0 s : State} {x1} (h : Step G s0 s)
    (hG : sub 265559163594042556 G = true) : StepO G s0 (execNmtResetNode x1 s) := by
  unfold execNmtResetNode
  try dsimp only
  repeat' first
    | with_reducible assumption
    | ((with_reducible refine sub_trans ?_ hG); exact rfl)
    | with_reducible apply State.canRx_step
    | with_reducible apply State.resetNode_step
    | with_reducible refine Step.ite (fun _ => ?_) (fun _ => ?_)
    | with_reducible refine StepO.ite (fun _ => ?_) (fun _ => ?_)
    | with_reducible apply StepO.next
    | with_reducible apply foldl_step
    | with_reducible apply foldlFst_step
    | with_reducible intro _
    | with_reducible refine Step.ofFst (by assumption) ?_
    | with_reducible refine StepE.named (by assumption) ?_
    | with_reducible refine StepP.named (by assumption) ?_
    | split
    | dsimp only

theorem execNmtResetCommunication_step {G : Nat} {s0 s : State} {x1} (h : Step G s0 s)
    (hG : sub 265172126911122620 G = true) : StepO G s0 (execNmtResetCommunication x1 s) := by
  unfold execNmtResetCommunication
  try dsimp only
  repeat' first
    | with_reducible assumption
    | ((with_reducible refine sub_trans ?_ hG); exact rfl)
    | with_reducible apply State.canRx_step
    | with_reducible apply State.resetComm_step
    | with_reducible refine Step.ite (fun _ => ?_) (fun _ => ?_)
    | with_reducible refine StepO.ite (fun _ => ?_) (fun _ => ?_)
    | with_reducible apply StepO.next
    | with_reducible apply foldl_step
    | with_reducible apply foldlFst_step
    | with_reducible intro _
    | with_reducible refine Step.ofFst (by assumption) ?_
    | with_reducible refine StepE.named (by assumption) ?_
    | with_reducible refine StepP.named (by assumption) ?_
    | split
    | dsimp only

theorem fxNmtRequest_step {G : Nat} {s0 s : State} {x1} (h : Step G s0 s)
    (hG : sub 112436774115962044 G = true) : StepE G s0 (fxNmtRequest x1 s) := by
  unfold fxNmtRequest
  try dsimp only
  repeat' first
    | with_reducible assumption
    | ((with_reducible refine sub_trans ?_ hG); exact rfl)
    | with_reducible apply State.nmtPre_step
    | with_reducible apply State.nmtOn_step
    | with_reducible apply State.nmtOff_step
    | with_reducible apply State.resetNode_step
    | with_reducible apply State.resetComm_step
    | with_reducible refine Step.ite (fun _ => ?_) (fun _ => ?_)
    | with_reducible refine StepE.ite (fun _ => ?_) (fun _ => ?_)
    | with_reducible exact StepE.error
    | with_reducible apply StepE.ok

theorem State.heartbeat_step {G : Nat} {s0 s : State} (h : Step G s0 s)
    (hG : sub 72057594050510848 G = true) : Step G s0 (State.heartbeat s) := by
  unfold State.heartbeat
  try dsimp only
  repeat' first
    | with_reducible assumption
    | ((with_reducible refine sub_trans ?_ hG); exact rfl)
    | with_reducible apply State.canOut_step
    | ((with_reducible refine Step.put (F := 72057594050510848) ?_ hG ?_ ?_); rotate_left; (fail_if_success (with_reducible exact Same.refl _ _)); exact rfl; (first | with_reducible exact State.Inv.congr rfl rfl rfl rfl rfl rfl rfl id id id))
    | with_reducible refine Step.ite (fun _ => ?_) (fun _ => ?_)
    | with_reducible apply foldl_step
    | with_reducible apply foldlFst_step
    | with_reducible intro _
    | with_reducible refine Step.ofFst (by assumption) ?_
    | with_reducible refine StepE.named (by assumption) ?_
    | with_reducible refine StepP.named (by assumption) ?_
    | split
    | dsimp only

theorem execHeartbeatProduce_step {G : Nat} {s0 s : State} {x1} (h : Step G s0 s)
    (hG : sub 81082389720990897 G = true) : StepO G s0 (execHeartbeatProduce x1 s) := by
  unfold execHeartbeatProduce
  try dsimp only
  repeat' first
    | with_reducible assumption
    | ((with_reducible refine sub_trans ?_ hG); exact rfl)
    | with_reducible apply State.heartbeat_step
    | with_reducible apply whenSettled_step
    | with_reducible apply State.advanceTo_step
    | ((with_reducible refine Step.put (F := 81082389720990897) ?_ hG ?_ ?_); rotate_left; (fail_if_success (with_reducible exact Same.refl _ _)); exact rfl; (first | with_reducible exact State.Inv.congr rfl rfl rfl rfl rfl rfl rfl id id id))
    | with_reducible refine Step.ite (fun _ => ?_) (fun _ => ?_)
    | with_reducible refine StepO.ite (fun _ => ?_) (fun _ => ?_)
    | with_reducible apply StepO.next
    | with_reducible apply foldl_step
    | with_reducible apply foldlFst_step
    | with_reducible intro _
    | with_reducible refine Step.ofFst (by assumption) ?_
    | with_reducible refine StepE.named (by assumption) ?_
    | with_reducible refine StepP.named (by assumption) ?_
    | split
    | dsimp only

theorem execProducerHeartbeatWrite_step {G : Nat} {s0 s : State} {x1} {x2} (h : Step G s0 s)
    (hG : sub 76020940414078140 G = true) : StepO G s0 (execProducerHeartbeatWrite x1 x2 s) := by
  unfold execProducerHeartbeatWrite
  try dsimp only
  repeat' first
    | with_reducible assumption
    | ((with_reducible refine sub_trans ?_ hG); exact rfl)
    | with_reducible apply State.odWrite_step
    | with_reducible apply fxSetting_step
    | with_reducible refine Step.ite (fun _ => ?_) (fun _ => ?_)
    | with_reducible refine StepO.ite (fun _ => ?_) (fun _ => ?_)
    | with_reducible apply StepO.next
    | with_reducible refine StepE.ite (fun _ => ?_) (fun _ => ?_)
    | with_reducible exact StepE.error
    | with_reducible apply StepE.ok
    | with_reducible apply foldl_step
    | with_reducible apply foldlFst_step
    | with_reducible intro _

theorem State.commBehaviour_step {G : Nat} {s0 s : State}  (h : Step G s0 s)
    (hG : sub 108103985337730224 G = true) : Step G s0 (State.commBehaviour s) := by
  unfold State.commBehaviour
  try dsimp only
  repeat' first
    | with_reducible assumption
    | ((with_reducible refine sub_trans ?_ hG); exact rfl)
    | with_reducible apply State.nmtPre_step
    | with_reducible apply State.nmtOff_step
    | with_reducible refine Step.ite (fun _ => ?_) (fun _ => ?_)

theorem execHeartbeatReceive_step {G : Nat} {s0 s : State} {x1} (h : Step G s0 s)
    (hG : sub 225197577796846768 G = true) : StepO G s0 (execHeartbeatReceive x1 s) := by
  unfold execHeartbeatReceive
  try dsimp only
  repeat' first
    | with_reducible assumption
    | ((with_reducible refine sub_trans ?_ hG); exact rfl)
    | with_reducible apply State.canRx_step
    | ((with_reducible refine Step.put (F := 225197577796846768) ?_ hG ?_ ?_); rotate_left; (fail_if_success (with_reducible exact Same.refl _ _)); exact rfl; (first | with_reducible exact State.Inv.congr rfl rfl rfl rfl rfl rfl rfl id id id))
    | with_reducible refine Step.ite (fun _ => ?_) (fun _ => ?_)
    | with_reducible refine StepO.ite (fun _ => ?_) (fun _ => ?_)
    | with_reducible apply StepO.next
    | with_reducible apply foldl_step
    | with_reducible apply foldlFst_step
    | with_reducible intro _
    | with_reducible refine Step.ofFst (by assumption) ?_
    | with_reducible refine StepE.named (by assumption) ?_
    | with_reducible refine StepP.named (by assumption) ?_
    | rw [id_eq]
    | split
    | dsimp only

theorem execHeartbeatConsumerTimeout_step {G : Nat} {s0 s : State} {x1} (h : Step G s0 s)
    (hG : sub 117111186739954865 G = true) : StepO G s0 (execHeartbeatConsumerTimeout x1 s) := by
  unfold execHeartbeatConsumerTimeout
  try dsimp only
  repeat' first
    | with_reducible assumption
    | ((with_reducible refine sub_trans ?_ hG); exact rfl)
    | with_reducible apply State.emcy_step
    | with_reducible apply State.advanceTo_step
    | with_reducible apply State.commBehaviour_step
    | with_reducible apply State.fire_step
    | with_reducible apply whenSettled_step
    | ((with_reducible refine Step.put (F := 117111186739954865) ?_ hG ?_ ?_); rotate_left; (fail_if_success (with_reducible exact Same.refl _ _)); exact rfl; (first | with_reducible exact State.Inv.congr rfl rfl rfl rfl rfl rfl rfl id id id))
    | with_reducible refine Step.ite (fun _ => ?_) (fun _ => ?_)
    | with_reducible refine StepO.ite (fun _ => ?_) (fun _ => ?_)
    | with_reducible apply StepO.next
    | with_reducible apply foldl_step
    | with_reducible apply foldlFst_step
    | with_reducible intro _
    | with_reducible refine Step.ofFst (by assumption) ?_
    | with_reducible refine StepE.named (by assumption) ?_
    | with_reducible refine StepP.named (by assumption) ?_
    | split
    | dsimp only

theorem State.emcySend_step {G : Nat} {s0 s : State} {x1} (h : Step G s0 s)
    (hG : sub 72057594050510848 G = true) : Step G s0 (State.emcySend s x1) := by
  unfold State.emcySend
  try dsimp only
  repeat' first
    | with_reducible assumption
    | ((with_reducible refine sub_trans ?_ hG); exact rfl)
    | with_reducible apply State.canOut_step
    | ((with_reducible refine Step.put (F := 72057594050510848) ?_ hG ?_ ?_); rotate_left; (fail_if_success (with_reducible exact Same.refl _ _)); exact rfl; (first | with_reducible exact State.Inv.congr rfl rfl rfl rfl rfl rfl rfl id id id))
    | with_reducible refine Step.ite (fun _ => ?_) (fun _ => ?_)
    | with_reducible apply foldl_step
    | with_reducible apply foldlFst_step
    | with_reducible intro _
    | with_reducible refine Step.ofFst (by assumption) ?_
    | with_reducible refine StepE.named (by assumption) ?_
    | with_reducible refine StepP.named (by assumption) ?_
    | split
    | dsimp only

theorem State.emcyRecovered_step {G : Nat} {s0 s : State} {x1} (h : Step G s0 s)
    (hG : sub 8388608 G = true) : Step G s0 (State.emcyRecovered s x1) := by
  unfold State.emcyRecovered
  try dsimp only
  repeat' first
    | with_reducible assumption
    | ((with_reducible refine Step.put (F := 8388608) ?_ hG ?_ ?_); rotate_left; (fail_if_success (with_reducible exact Same.refl _ _)); exact rfl; (first | with_reducible exact State.Inv.congr rfl rfl rfl rfl rfl rfl rfl id id id | exact fun v => ⟨v.1, v.2, v.3, v.4, v.5, by simp only [List.length_take]; omega, v.7⟩))
    | with_reducible refine Step.ite (fun _ => ?_) (fun _ => ?_)

theorem State.heldSend_step {G : Nat} {s0 s : State} (h : Step G s0 s)
    (hG : sub 72057594050510848 G = true) : Step G s0 (State.heldSend s) := by
  unfold State.heldSend
  try dsimp only
  repeat' first
    | with_reducible assumption
    | ((with_reducible refine sub_trans ?_ hG); exact rfl)
    | with_reducible apply State.emcyRecovered_step
    | with_reducible apply State.emcySend_step
    | with_reducible apply State.canOut_step
    | ((with_reducible refine Step.put (F := 72057594050510848) ?_ hG ?_ ?_); rotate_left; (fail_if_success (with_reducible exact Same.refl _ _)); exact rfl; (first | with_reducible exact State.Inv.congr rfl rfl rfl rfl rfl rfl rfl id id id))
    | with_reducible refine Step.ite (fun _ => ?_) (fun _ => ?_)
    | with_reducible apply foldl_step
    | with_reducible apply foldlFst_step
    | with_reducible intro _
    | with_reducible refine Step.ofFst (by assumption) ?_
    | with_reducible refine StepE.named (by assumption) ?_
    | with_reducible refine StepP.named (by assumption) ?_
    | split
    | dsimp only

theorem State.emcyDrained_step {G : Nat} {s0 s : State}  (h : Step G s0 s)
    (hG : sub 2092957696 G = true) : Step G s0 (State.emcyDrained s) := by
  unfold State.emcyDrained
  try dsimp only
  repeat' first
    | with_reducible assumption
    | with_reducible apply State.emcy_step
    | ((with_reducible refine Step.put (F := 2092957696) ?_ hG ?_ ?_); rotate_left; (fail_if_success (with_reducible exact Same.refl _ _)); exact rfl; (first | with_reducible exact State.Inv.congr rfl rfl rfl rfl rfl rfl rfl id id id))
    | with_reducible refine Step.ite (fun _ => ?_) (fun _ => ?_)

theorem State.recoveryDone_step {G : Nat} {s0 s : State} (h : Step G s0 s)
    (hG : sub 72057594050510848 G = true) : Step G s0 (State.recoveryDone s) := by
  unfold State.recoveryDone
  try dsimp only
  repeat' first
    | with_reducible assumption
    | ((with_reducible refine sub_trans ?_ hG); exact rfl)
    | with_reducible apply State.canFlush_step
    | ((with_reducible refine Step.put (F := 72057594050510848) ?_ hG ?_ ?_); rotate_left; (fail_if_success (with_reducible exact Same.refl _ _)); exact rfl; (first | with_reducible exact State.Inv.congr rfl rfl rfl rfl rfl rfl rfl id id id))
    | with_reducible refine Step.ite (fun _ => ?_) (fun _ => ?_)
    | with_reducible apply foldl_step
    | with_reducible apply foldlFst_step
    | with_reducible intro _
    | with_reducible refine Step.ofFst (by assumption) ?_
    | with_reducible refine StepE.named (by assumption) ?_
    | with_reducible refine StepP.named (by assumption) ?_
    | split
    | dsimp only

theorem execEmcyTransmit_step {G : Nat} {s0 s : State} (h : Step G s0 s)
    (hG : sub 81082389720990897 G = true) : StepO G s0 (execEmcyTransmit s) := by
  unfold execEmcyTransmit
  try dsimp only
  repeat' first
    | with_reducible assumption
    | ((with_reducible refine sub_trans ?_ hG); exact rfl)
    | with_reducible apply State.recoveryDone_step
    | with_reducible apply State.emcyDrained_step
    | with_reducible apply State.heldSend_step
    | with_reducible apply State.emcySend_step
    | with_reducible apply State.canFlush_step
    | with_reducible apply whenSettled_step
    | with_reducible apply State.advanceTo_step
    | ((with_reducible refine Step.put (F := 81082389720990897) ?_ hG ?_ ?_); rotate_left; (fail_if_success (with_reducible exact Same.refl _ _)); exact rfl; (first | with_reducible exact State.Inv.congr rfl rfl rfl rfl rfl rfl rfl id id id))
    | with_reducible refine Step.ite (fun _ => ?_) (fun _ => ?_)
    | with_reducible refine StepO.ite (fun _ => ?_) (fun _ => ?_)
    | with_reducible apply StepO.next
    | with_reducible apply foldl_step
    | with_reducible apply foldlFst_step
    | with_reducible intro _
    | with_reducible refine Step.ofFst (by assumption) ?_
    | with_reducible refine StepE.named (by assumption) ?_
    | with_reducible refine StepP.named (by assumption) ?_
    | split
    | dsimp only

theorem execEmcyCobidWrite_step {G : Nat} {s0 s : State} {x1} {x2} (h : Step G s0 s)
    (hG : sub 76020940414078140 G = true) : StepO G s0 (execEmcyCobidWrite x1 x2 s) := by
  unfold execEmcyCobidWrite
  try dsimp only
  repeat' first
    | with_reducible assumption
    | ((with_reducible refine sub_trans ?_ hG); exact rfl)
    | with_reducible apply State.odWrite_step
    | with_reducible apply fxSetting_step
    | with_reducible refine Step.ite (fun _ => ?_) (fun _ => ?_)
    | with_reducible refine StepO.ite (fun _ => ?_) (fun _ => ?_)
    | with_reducible apply StepO.next
    | with_reducible refine StepE.ite (fun _ => ?_) (fun _ => ?_)
    | with_reducible exact StepE.error
    | with_reducible apply StepE.ok
    | with_reducible apply foldl_step
    | with_reducible apply foldlFst_step
    | with_reducible intro _

theorem fxHistoryClear_step {G : Nat} {s0 s : State} {x1} (h : Step G s0 s)
    (hG : sub 8388608 G = true) : StepE G s0 (fxHistoryClear x1 s) := by
  unfold fxHistoryClear
  try dsimp only
  repeat' first
    | with_reducible assumption
    | ((with_reducible refine sub_trans ?_ hG); exact rfl)
    | ((with_reducible refine Step.put (F := 8388608) ?_ hG ?_ ?_); rotate_left; (fail_if_success (with_reducible exact Same.refl _ _)); exact rfl; (first | with_reducible exact State.Inv.congr rfl rfl rfl rfl rfl rfl rfl id id id | exact fun v => ⟨v.1, v.2, v.3, v.4, v.5, Nat.zero_le _, v.7⟩))
    | with_reducible refine Step.ite (fun _ => ?_) (fun _ => ?_)
    | with_reducible refine StepE.ite (fun _ => ?_) (fun _ => ?_)
    | with_reducible exact StepE.error
    | with_reducible apply StepE.ok
    | with_reducible apply foldl_step
    | with_reducible apply foldlFst_step
    | with_reducible intro _
    | with_reducible refine Step.ofFst (by assumption) ?_
    | with_reducible refine StepE.named (by assumption) ?_
    | with_reducible refine StepP.named (by assumption) ?_
    | split
    | dsimp only

theorem execErrorHistoryClear_step {G : Nat} {s0 s : State} {x1} {x2} (h : Step G s0 s)
    (hG : sub 12582912 G = true) : StepO G s0 (execErrorHistoryClear x1 x2 s) := by
  unfold execErrorHistoryClear
  try dsimp only
  repeat' first
    | with_reducible assumption
    | ((with_reducible refine sub_trans ?_ hG); exact rfl)
    | with_reducible apply State.odWrite_step
    | with_reducible apply fxHistoryClear_step
    | with_reducible refine Step.ite (fun _ => ?_) (fun _ => ?_)
    | with_reducible refine StepO.ite (fun _ => ?_) (fun _ => ?_)
    | with_reducible apply StepO.next
    | with_reducible refine StepE.ite (fun _ => ?_) (fun _ => ?_)
    | with_reducible exact StepE.error
    | with_reducible apply StepE.ok
    | with_reducible apply foldl_step
    | with_reducible apply foldlFst_step
    | with_reducible intro _

theorem State.heldEvent_step {G : Nat} {s0 s : State} (h : Step G s0 s)
    (hG : sub 72075187236635824 G = true) : Step G s0 (State.heldEvent s) := by
  unfold State.heldEvent
  try dsimp only
  repeat' first
    | with_reducible assumption
    | ((with_reducible refine sub_trans ?_ hG); exact rfl)
    | with_reducible apply State.eventAll_step
    | with_reducible refine Step.ite (fun _ => ?_) (fun _ => ?_)
    | with_reducible apply foldl_step
    | with_reducible apply foldlFst_step
    | with_reducible intro _
    | with_reducible refine Step.ofFst (by assumption) ?_
    | with_reducible refine StepE.named (by assumption) ?_
    | with_reducible refine StepP.named (by assumption) ?_
    | split
    | dsimp only

theorem State.enterBusOff_step {G : Nat} {s0 s : State} {x1} (h : Step G s0 s)
    (hG : sub 108103985337730224 G = true) : Step G s0 (State.enterBusOff s x1) := by
  unfold State.enterBusOff
  try dsimp only
  repeat' first
    | with_reducible assumption
    | ((with_reducible refine sub_trans ?_ hG); exact rfl)
    | with_reducible apply State.heldEvent_step
    | with_reducible apply State.commBehaviour_step
    | with_reducible apply State.sdoEnd_step
    | with_reducible apply State.fire_step
    | with_reducible apply State.count_step
    | with_reducible apply State.putCell_step
    | ((with_reducible refine Step.put (F := 108103985337730224) ?_ hG ?_ ?_); rotate_left; (fail_if_success (with_reducible exact Same.refl _ _)); exact rfl; (first | with_reducible exact State.Inv.congr rfl rfl rfl rfl rfl rfl rfl id id id | exact fun v => ⟨v.1, v.2, by show 1 ≤ (Can.hold _).nodeId ∧ (Can.hold _).nodeId ≤ 127; rw [hold_nodeId]; exact v.3, v.4, v.5, by show (Can.hold _).history.length ≤ 8; rw [hold_history]; exact v.6, v.7⟩))
    | with_reducible refine Step.ite (fun _ => ?_) (fun _ => ?_)
    | with_reducible apply foldl_step
    | with_reducible apply foldlFst_step
    | with_reducible intro _
    | with_reducible refine Step.ofFst (by assumption) ?_
    | with_reducible refine StepE.named (by assumption) ?_
    | with_reducible refine StepP.named (by assumption) ?_
    | split
    | dsimp only

theorem State.enterPassive_step {G : Nat} {s0 s : State}  (h : Step G s0 s)
    (hG : sub 2092957696 G = true) : Step G s0 (State.enterPassive s) := by
  unfold State.enterPassive
  try dsimp only
  repeat' first
    | with_reducible assumption
    | ((with_reducible refine sub_trans ?_ hG); exact rfl)
    | with_reducible apply State.emcy_step
    | with_reducible apply State.fire_step

theorem execCanErrorDetected_step {G : Nat} {s0 s : State} {x1} {x2} (h : Step G s0 s)
    (hG : sub 117111186739954864 G = true) : StepO G s0 (execCanErrorDetected x1 x2 s) := by
  unfold execCanErrorDetected
  try dsimp only
  repeat' first
    | with_reducible assumption
    | ((with_reducible refine sub_trans ?_ hG); exact rfl)
    | with_reducible apply State.enterPassive_step
    | with_reducible apply State.enterBusOff_step
    | with_reducible apply whenSettled_step
    | ((with_reducible refine Step.put (F := 117111186739954864) ?_ hG ?_ ?_); rotate_left; (fail_if_success (with_reducible exact Same.refl _ _)); exact rfl; (first | with_reducible exact State.Inv.congr rfl rfl rfl rfl rfl rfl rfl id id id))
    | with_reducible refine Step.ite (fun _ => ?_) (fun _ => ?_)
    | with_reducible refine StepO.ite (fun _ => ?_) (fun _ => ?_)
    | with_reducible apply StepO.next
    | with_reducible apply foldl_step
    | with_reducible apply foldlFst_step
    | with_reducible intro _
    | with_reducible refine Step.ofFst (by assumption) ?_
    | with_reducible refine StepE.named (by assumption) ?_
    | with_reducible refine StepP.named (by assumption) ?_
    | split
    | dsimp only

theorem execBusOffRecovery_step {G : Nat} {s0 s : State} (h : Step G s0 s)
    (hG : sub 81082389720990896 G = true) : StepO G s0 (execBusOffRecovery s) := by
  unfold execBusOffRecovery
  try dsimp only
  repeat' first
    | with_reducible assumption
    | ((with_reducible refine sub_trans ?_ hG); exact rfl)
    | with_reducible apply State.emcyRecovered_step
    | with_reducible apply whenSettled_step
    | ((with_reducible refine Step.put (F := 81082389720990896) ?_ hG ?_ ?_); rotate_left; (fail_if_success (with_reducible exact Same.refl _ _)); exact rfl; (first | with_reducible exact State.Inv.congr rfl rfl rfl rfl rfl rfl rfl id id id))
    | with_reducible refine Step.ite (fun _ => ?_) (fun _ => ?_)
    | with_reducible refine StepO.ite (fun _ => ?_) (fun _ => ?_)
    | with_reducible apply StepO.next
    | with_reducible apply foldl_step
    | with_reducible apply foldlFst_step
    | with_reducible intro _
    | with_reducible refine Step.ofFst (by assumption) ?_
    | with_reducible refine StepE.named (by assumption) ?_
    | with_reducible refine StepP.named (by assumption) ?_
    | split
    | dsimp only

theorem execBusDominantTimeout_step {G : Nat} {s0 s : State}  (h : Step G s0 s)
    (hG : sub 81082389720990896 G = true) : StepO G s0 (execBusDominantTimeout s) := by
  unfold execBusDominantTimeout
  try dsimp only
  repeat' first
    | with_reducible assumption
    | ((with_reducible refine sub_trans ?_ hG); exact rfl)
    | with_reducible apply State.emcyEvent_step
    | with_reducible apply whenSettled_step
    | with_reducible apply State.fire_step

theorem State.setTpdo_step {G : Nat} {s0 s : State} {x1} {x2} (h : Step G s0 s)
    (hG : sub 8388608 G = true) : Step G s0 (State.setTpdo s x1 x2) := by
  unfold State.setTpdo
  try dsimp only
  repeat' first
    | with_reducible assumption
    | ((with_reducible refine sub_trans ?_ hG); exact rfl)
    | ((with_reducible refine Step.put (F := 8388608) ?_ hG ?_ ?_); rotate_left; (fail_if_success (with_reducible exact Same.refl _ _)); exact rfl; (first | with_reducible exact State.Inv.congr rfl rfl rfl rfl rfl rfl rfl id id id))
    | with_reducible refine Step.ite (fun _ => ?_) (fun _ => ?_)
    | with_reducible apply foldl_step
    | with_reducible apply foldlFst_step
    | with_reducible intro _
    | with_reducible refine Step.ofFst (by assumption) ?_
    | with_reducible refine StepE.named (by assumption) ?_
    | with_reducible refine StepP.named (by assumption) ?_
    | split
    | dsimp only

theorem State.tpdoSend_step {G : Nat} {s0 s : State} {x1} {x2} (h : Step G s0 s)
    (hG : sub 216172782126366720 G = true) : Step G s0 (State.tpdoSend s x1 x2) := by
  unfold State.tpdoSend
  try dsimp only
  repeat' first
    | with_reducible assumption
    | ((with_reducible refine sub_trans ?_ hG); exact rfl)
    | with_reducible apply State.canSend_step
    | with_reducible apply State.draw_step
    | with_reducible apply State.setTpdo_step

theorem State.tpdoFire_step {G : Nat} {s0 s : State} {x1} {x2} (h : Step G s0 s)
    (hG : sub 216172782126366720 G = true) : Step G s0 (State.tpdoFire s x1 x2) := by
  unfold State.tpdoFire
  try dsimp only
  repeat' first
    | with_reducible assumption
    | ((with_reducible refine sub_trans ?_ hG); exact rfl)
    | with_reducible apply State.tpdoSend_step
    | with_reducible apply State.setTpdo_step
    | with_reducible apply State.bump32_step
    | with_reducible refine Step.ite (fun _ => ?_) (fun _ => ?_)
    | with_reducible apply foldl_step
    | with_reducible apply foldlFst_step
    | with_reducible intro _
    | with_reducible refine Step.ofFst (by assumption) ?_
    | with_reducible refine StepE.named (by assumption) ?_
    | with_reducible refine StepP.named (by assumption) ?_
    | split

theorem execTpdoChangeCheck_step {G : Nat} {s0 s : State} {x1} (h : Step G s0 s)
    (hG : sub 225197577796846768 G = true) : StepO G s0 (execTpdoChangeCheck x1 s) := by
  unfold execTpdoChangeCheck
  try dsimp only
  repeat' first
    | with_reducible assumption
    | ((with_reducible refine sub_trans ?_ hG); exact rfl)
    | with_reducible apply State.tpdoFire_step
    | with_reducible apply State.setTpdo_step
    | with_reducible apply whenSettled_step
    | with_reducible refine Step.ite (fun _ => ?_) (fun _ => ?_)
    | with_reducible refine StepO.ite (fun _ => ?_) (fun _ => ?_)
    | with_reducible apply StepO.next
    | with_reducible apply foldl_step
    | with_reducible apply foldlFst_step
    | with_reducible intro _
    | with_reducible refine Step.ofFst (by assumption) ?_
    | with_reducible refine StepE.named (by assumption) ?_
    | with_reducible refine StepP.named (by assumption) ?_
    | split
    | dsimp only

theorem execTpdoEventTimer_step {G : Nat} {s0 s : State} {x1} (h : Step G s0 s)
    (hG : sub 225197577796846769 G = true) : StepO G s0 (execTpdoEventTimer x1 s) := by
  unfold execTpdoEventTimer
  try dsimp only
  repeat' first
    | with_reducible assumption
    | ((with_reducible refine sub_trans ?_ hG); exact rfl)
    | with_reducible apply State.advanceTo_step
    | with_reducible apply whenSettled_step
    | with_reducible apply State.setTpdo_step
    | with_reducible apply State.tpdoFire_step
    | with_reducible refine Step.ite (fun _ => ?_) (fun _ => ?_)
    | with_reducible refine StepO.ite (fun _ => ?_) (fun _ => ?_)
    | with_reducible apply StepO.next
    | with_reducible apply foldl_step
    | with_reducible apply foldlFst_step
    | with_reducible intro _
    | with_reducible refine Step.ofFst (by assumption) ?_
    | with_reducible refine StepE.named (by assumption) ?_
    | with_reducible refine StepP.named (by assumption) ?_
    | split

theorem execTpdoInhibitEnd_step {G : Nat} {s0 s : State} {x1} (h : Step G s0 s)
    (hG : sub 225197577796846769 G = true) : StepO G s0 (execTpdoInhibitEnd x1 s) := by
  unfold execTpdoInhibitEnd
  try dsimp only
  repeat' first
    | with_reducible assumption
    | ((with_reducible refine sub_trans ?_ hG); exact rfl)
    | with_reducible apply State.tpdoFire_step
    | with_reducible apply State.tpdoSend_step
    | with_reducible apply State.setTpdo_step
    | with_reducible apply whenSettled_step
    | with_reducible apply State.advanceTo_step
    | with_reducible refine Step.ite (fun _ => ?_) (fun _ => ?_)
    | with_reducible refine StepO.ite (fun _ => ?_) (fun _ => ?_)
    | with_reducible apply StepO.next
    | with_reducible apply foldl_step
    | with_reducible apply foldlFst_step
    | with_reducible intro _
    | with_reducible refine Step.ofFst (by assumption) ?_
    | with_reducible refine StepE.named (by assumption) ?_
    | with_reducible refine StepP.named (by assumption) ?_
    | split
    | dsimp only

theorem State.setRpdo_step {G : Nat} {s0 s : State} {x1} {x2} (h : Step G s0 s)
    (hG : sub 8388608 G = true) : Step G s0 (State.setRpdo s x1 x2) := by
  unfold State.setRpdo
  try dsimp only
  repeat' first
    | with_reducible assumption
    | ((with_reducible refine sub_trans ?_ hG); exact rfl)
    | ((with_reducible refine Step.put (F := 8388608) ?_ hG ?_ ?_); rotate_left; (fail_if_success (with_reducible exact Same.refl _ _)); exact rfl; (first | with_reducible exact State.Inv.congr rfl rfl rfl rfl rfl rfl rfl id id id))
    | with_reducible refine Step.ite (fun _ => ?_) (fun _ => ?_)
    | with_reducible apply foldl_step
    | with_reducible apply foldlFst_step
    | with_reducible intro _
    | with_reducible refine Step.ofFst (by assumption) ?_
    | with_reducible refine StepE.named (by assumption) ?_
    | with_reducible refine StepP.named (by assumption) ?_
    | split
    | dsimp only

theorem State.rpdoValue_step {G : Nat} {s0 s : State} {x1} {x2} {x3} (h : Step G s0 s)
    (hG : sub 76020940414078140 G = true) : Step G s0 (State.rpdoValue s x1 x2 x3) := by
  unfold State.rpdoValue
  try dsimp only
  repeat' first
    | with_reducible assumption
    | ((with_reducible refine sub_trans ?_ hG); exact rfl)
    | with_reducible apply fxSetting_step
    | with_reducible apply State.aborted_step
    | with_reducible apply State.bump32_step
    | with_reducible apply State.tryWrite_step
    | with_reducible refine Step.ite (fun _ => ?_) (fun _ => ?_)
    | with_reducible refine StepE.ite (fun _ => ?_) (fun _ => ?_)
    | with_reducible exact StepE.error
    | with_reducible apply StepE.ok
    | with_reducible apply foldl_step
    | with_reducible apply foldlFst_step
    | with_reducible intro _
    | with_reducible refine Step.ofFst (by assumption) ?_
    | with_reducible refine StepE.named (by assumption) ?_
    | with_reducible refine StepP.named (by assumption) ?_
    | split

theorem State.rpdoApply_step {G : Nat} {s0 s : State} {x1} {x2} (h : Step G s0 s)
    (hG : sub 76020940414078140 G = true) : Step G s0 (State.rpdoApply s x1 x2) := by
  unfold State.rpdoApply
  try dsimp only
  repeat' first
    | with_reducible assumption
    | with_reducible apply State.rpdoValue_step
    | with_reducible refine Step.ite (fun _ => ?_) (fun _ => ?_)
    | with_reducible apply foldl_step
    | with_reducible apply foldlFst_step
    | with_reducible intro _

theorem execRpdoReceive_step {G : Nat} {s0 s : State} {x1} {x2} (h : Step G s0 s)
    (hG : sub 229143329892158652 G = true) : StepO G s0 (execRpdoReceive x1 x2 s) := by
  unfold execRpdoReceive
  try dsimp only
  repeat' first
    | with_reducible assumption
    | ((with_reducible refine sub_trans ?_ hG); exact rfl)
    | with_reducible apply State.rpdoApply_step
    | with_reducible apply State.setRpdo_step
    | with_reducible apply State.canRx_step
    | with_reducible apply State.emcy_step
    | with_reducible apply State.fire_step
    | with_reducible refine Step.ite (fun _ => ?_) (fun _ => ?_)
    | with_reducible refine StepO.ite (fun _ => ?_) (fun _ => ?_)
    | with_reducible apply StepO.next
    | with_reducible apply foldl_step
    | with_reducible apply foldlFst_step
    | with_reducible intro _
    | with_reducible refine Step.ofFst (by assumption) ?_
    | with_reducible refine StepE.named (by assumption) ?_
    | with_reducible refine StepP.named (by assumption) ?_
    | split
    | dsimp only

theorem execRpdoEventTimeout_step {G : Nat} {s0 s : State} {x1} (h : Step G s0 s)
    (hG : sub 81082389720990897 G = true) : StepO G s0 (execRpdoEventTimeout x1 s) := by
  unfold execRpdoEventTimeout
  try dsimp only
  repeat' first
    | with_reducible assumption
    | ((with_reducible refine sub_trans ?_ hG); exact rfl)
    | with_reducible apply State.emcy_step
    | with_reducible apply State.advanceTo_step
    | with_reducible apply whenSettled_step
    | with_reducible apply State.setRpdo_step
    | with_reducible refine Step.ite (fun _ => ?_) (fun _ => ?_)
    | with_reducible refine StepO.ite (fun _ => ?_) (fun _ => ?_)
    | with_reducible apply StepO.next
    | with_reducible apply foldl_step
    | with_reducible apply foldlFst_step
    | with_reducible intro _
    | with_reducible refine Step.ofFst (by assumption) ?_
    | with_reducible refine StepE.named (by assumption) ?_
    | with_reducible refine StepP.named (by assumption) ?_
    | split

theorem State.tpdoSync_step {G : Nat} {s0 s : State} {x1} {x2} (h : Step G s0 s)
    (hG : sub 216172782126366720 G = true) : Step G s0 (State.tpdoSync x1 s x2) := by
  unfold State.tpdoSync
  try dsimp only
  repeat' first
    | with_reducible assumption
    | ((with_reducible refine sub_trans ?_ hG); exact rfl)
    | with_reducible apply State.setTpdo_step
    | with_reducible apply State.tpdoFire_step
    | with_reducible refine Step.ite (fun _ => ?_) (fun _ => ?_)
    | with_reducible apply foldl_step
    | with_reducible apply foldlFst_step
    | with_reducible intro _
    | with_reducible refine Step.ofFst (by assumption) ?_
    | with_reducible refine StepE.named (by assumption) ?_
    | with_reducible refine StepP.named (by assumption) ?_
    | split

theorem State.rpdoSync_step {G : Nat} {s0 s : State} {x1} (h : Step G s0 s)
    (hG : sub 76020940414078140 G = true) : Step G s0 (State.rpdoSync s x1) := by
  unfold State.rpdoSync
  try dsimp only
  repeat' first
    | with_reducible assumption
    | ((with_reducible refine sub_trans ?_ hG); exact rfl)
    | with_reducible apply State.setRpdo_step
    | with_reducible apply State.rpdoApply_step
    | with_reducible refine Step.ite (fun _ => ?_) (fun _ => ?_)
    | with_reducible apply foldl_step
    | with_reducible apply foldlFst_step
    | with_reducible intro _
    | with_reducible refine Step.ofFst (by assumption) ?_
    | with_reducible refine StepE.named (by assumption) ?_
    | with_reducible refine StepP.named (by assumption) ?_
    | split

theorem execSyncReceive_step {G : Nat} {s0 s : State} {x1} (h : Step G s0 s)
    (hG : sub 229143329892158652 G = true) : StepO G s0 (execSyncReceive x1 s) := by
  unfold execSyncReceive
  try dsimp only
  repeat' first
    | with_reducible assumption
    | ((with_reducible refine sub_trans ?_ hG); exact rfl)
    | with_reducible apply State.rpdoSync_step
    | with_reducible apply State.tpdoSync_step
    | with_reducible apply State.canRx_step
    | with_reducible apply State.bump32_step
    | with_reducible apply State.putCell_step
    | with_reducible apply each_step
    | with_reducible refine Step.ite (fun _ => ?_) (fun _ => ?_)
    | with_reducible refine StepO.ite (fun _ => ?_) (fun _ => ?_)
    | with_reducible apply StepO.next
    | with_reducible apply foldl_step
    | with_reducible apply foldlFst_step
    | with_reducible intro _
    | with_reducible refine Step.ofFst (by assumption) ?_
    | with_reducible refine StepE.named (by assumption) ?_
    | with_reducible refine StepP.named (by assumption) ?_
    | split
    | dsimp only

end Sys2Proof.Machine
end

