-- ==== Sys2Proof/Laws/KeepStart.lean ====
section
/-! SUPPORT. Every state function of bring-up and faults:
the fields that it may change, and that it keeps the invariant. -/

-- One proof at a time, as in Keep.lean.
set_option Elab.async false
-- Every proof here tries the same few tactics in the same order, and not each of them meets a goal.
set_option linter.unusedTactic false
set_option linter.unreachableTactic false

namespace Sys2Proof.Machine

/-! ### BringUp -/

theorem State.coldReset_step {G : Nat} {s0 s : State} {x1} {x2} (h : Step G s0 s)
    (hG : sub 54043192441438206 G = true) : Step G s0 (State.coldReset s x1 x2) := by
  unfold State.coldReset
  dsimp only
  exact Step.put (F := 54043192441438206) h hG rfl fun v => ⟨rfl, Nat.zero_le _, ⟨(by decide : 1 ≤ 127), (by decide : 127 ≤ 127)⟩, v.4, ⟨v.5.1, Nat.zero_le _⟩, Nat.zero_le _, ⟨Tab.rises_empty, Tab.rises_empty, Tab.rises_empty⟩⟩

theorem State.takeBuffer_step {G : Nat} {s0 s : State}  (h : Step G s0 s)
    (hG : sub 939524096 G = true) : Step G s0 (State.takeBuffer s) := by
  unfold State.takeBuffer
  try dsimp only
  repeat' first
    | with_reducible assumption
    | ((with_reducible refine sub_trans ?_ hG); exact rfl)
    | with_reducible apply each_step
    | ((with_reducible refine Step.put (F := 939524096) ?_ hG ?_ ?_); rotate_left; (fail_if_success (with_reducible exact Same.refl _ _)); exact rfl; (first | with_reducible exact State.Inv.congr rfl rfl rfl rfl rfl rfl rfl id id id | exact fun v => ⟨v.1, v.2, v.3, v.4, ⟨Nat.zero_le _, v.5.2⟩, v.6, v.7⟩ | exact fun v => ⟨v.1, v.2, v.3, putCell_keys (Nat.mod_lt _ (by decide)) _ _ v.4, v.5, v.6, v.7⟩))
    | with_reducible refine Step.ite (fun _ => ?_) (fun _ => ?_)
    | with_reducible apply foldl_step
    | with_reducible apply foldlFst_step
    | with_reducible intro _
    | with_reducible refine Step.ofFst (by assumption) ?_
    | with_reducible refine StepE.named (by assumption) ?_
    | with_reducible refine StepP.named (by assumption) ?_
    | split
    | dsimp only

theorem execColdStart_step {G : Nat} {s0 s : State} {x1} {x2} (h : Step G s0 s)
    (hG : sub 54043195528445950 G = true) : StepO G s0 (execColdStart x1 x2 s) := by
  unfold execColdStart
  try dsimp only
  repeat' first
    | with_reducible assumption
    | ((with_reducible refine sub_trans ?_ hG); exact rfl)
    | with_reducible apply State.takeBuffer_step
    | with_reducible apply State.coldReset_step
    | with_reducible apply whenDue_step
    | ((with_reducible refine Step.put (F := 54043195528445950) ?_ hG ?_ ?_); rotate_left; (fail_if_success (with_reducible exact Same.refl _ _)); exact rfl; (first | with_reducible exact State.Inv.congr rfl rfl rfl rfl rfl rfl rfl id id id))
    | with_reducible refine Step.ite (fun _ => ?_) (fun _ => ?_)
    | with_reducible refine StepO.ite (fun _ => ?_) (fun _ => ?_)
    | with_reducible apply StepO.next
    | with_reducible apply foldl_step
    | with_reducible apply foldlFst_step
    | with_reducible intro _
    | with_reducible refine Step.ofFst (by assumption) ?_
    | with_reducible refine StepE.named (by assumption) ?_
    | with_reducible refine StepP.named (by assumption) ?_
    | split
    | dsimp only

theorem execModuleResetAssert_step {G : Nat} {s0 s : State} (h : Step G s0 s)
    (hG : sub 53901354300567546 G = true) : StepO G s0 (execModuleResetAssert s) := by
  unfold execModuleResetAssert
  try dsimp only
  repeat' first
    | with_reducible assumption
    | ((with_reducible refine sub_trans ?_ hG); exact rfl)
    | with_reducible apply State.collarStops_step
    | with_reducible refine Step.ite (fun _ => ?_) (fun _ => ?_)
    | with_reducible refine StepO.ite (fun _ => ?_) (fun _ => ?_)
    | with_reducible apply StepO.next
    | with_reducible apply foldl_step
    | with_reducible apply foldlFst_step
    | with_reducible intro _
    | with_reducible refine Step.ofFst (by assumption) ?_
    | with_reducible refine StepE.named (by assumption) ?_
    | with_reducible refine StepP.named (by assumption) ?_
    | split
    | dsimp only

theorem execWarmStart_step {G : Nat} {s0 s : State} {x1} {x2} (h : Step G s0 s)
    (hG : sub 270074138494726138 G = true) : StepO G s0 (execWarmStart x1 x2 s) := by
  unfold execWarmStart
  try dsimp only
  repeat' first
    | with_reducible assumption
    | ((with_reducible refine sub_trans ?_ hG); exact rfl)
    | with_reducible apply State.healthFail_step
    | with_reducible apply whenDue_step
    | ((with_reducible refine Step.put (F := 270074138494726138) ?_ hG ?_ ?_); rotate_left; (fail_if_success (with_reducible exact Same.refl _ _)); exact rfl; (first | with_reducible exact State.Inv.congr rfl rfl rfl rfl rfl rfl rfl id id id))
    | with_reducible refine Step.ite (fun _ => ?_) (fun _ => ?_)
    | with_reducible refine StepO.ite (fun _ => ?_) (fun _ => ?_)
    | with_reducible apply StepO.next
    | with_reducible apply foldl_step
    | with_reducible apply foldlFst_step
    | with_reducible intro _
    | with_reducible refine Step.ofFst (by assumption) ?_
    | with_reducible refine StepE.named (by assumption) ?_
    | with_reducible refine StepP.named (by assumption) ?_
    | split
    | dsimp only

theorem State.enterRecovery_step {G : Nat} {s0 s : State} {x1} {x2} {x3} (h : Step G s0 s)
    (hG : sub 81082387573507248 G = true) : Step G s0 (State.enterRecovery s x1 x2 x3) := by
  unfold State.enterRecovery
  try dsimp only
  repeat' first
    | with_reducible assumption
    | ((with_reducible refine sub_trans ?_ hG); exact rfl)
    | with_reducible apply State.stepFailed_step
    | with_reducible apply State.fire_step
    | with_reducible apply State.emcyEvent_step
    | with_reducible apply State.takeBuffer_step
    | with_reducible apply State.takeId_step
    | with_reducible apply State.bootUp_step
    | ((with_reducible refine Step.put (F := 81082387573507248) ?_ hG ?_ ?_); rotate_left; (fail_if_success (with_reducible exact Same.refl _ _)); exact rfl; (first | with_reducible exact State.Inv.congr rfl rfl rfl rfl rfl rfl rfl id id id | exact fun v => ⟨v.1, v.2, v.3, v.4, ⟨v.5.1, Nat.zero_le _⟩, v.6, v.7⟩))
    | with_reducible refine Step.ite (fun _ => ?_) (fun _ => ?_)
    | with_reducible apply foldl_step
    | with_reducible apply foldlFst_step
    | with_reducible intro _
    | with_reducible refine Step.ofFst (by assumption) ?_
    | with_reducible refine StepE.named (by assumption) ?_
    | with_reducible refine StepP.named (by assumption) ?_
    | split
    | dsimp only

theorem execFuseLoad_step {G : Nat} {s0 s : State} {x1} (h : Step G s0 s)
    (hG : sub 99096788230472882 G = true) : StepO G s0 (execFuseLoad x1 s) := by
  unfold execFuseLoad
  try dsimp only
  repeat' first
    | with_reducible assumption
    | ((with_reducible refine sub_trans ?_ hG); exact rfl)
    | with_reducible apply State.enterRecovery_step
    | with_reducible apply whenSettled_step
    | ((with_reducible refine Step.put (F := 99096788230472882) ?_ hG ?_ ?_); rotate_left; (fail_if_success (with_reducible exact Same.refl _ _)); exact rfl; (first | with_reducible exact State.Inv.congr rfl rfl rfl rfl rfl rfl rfl id id id | exact fun v => ⟨v.1, Nat.zero_le _, v.3, v.4, v.5, v.6, v.7⟩))
    | with_reducible refine Step.ite (fun _ => ?_) (fun _ => ?_)
    | with_reducible refine StepO.ite (fun _ => ?_) (fun _ => ?_)
    | with_reducible apply StepO.next
    | with_reducible apply foldl_step
    | with_reducible apply foldlFst_step
    | with_reducible intro _
    | with_reducible refine Step.ofFst (by assumption) ?_
    | with_reducible refine StepE.named (by assumption) ?_
    | with_reducible refine StepP.named (by assumption) ?_
    | split
    | dsimp only

theorem tryImages_step {G : Nat} {s0 s : State} {x1} {x2} {x3} (h : Step G s0 s)
    (hG : sub 36028798025596928 G = true) : Step G s0 (tryImages x1 x2 x3 s).1 := by
  induction x3 generalizing s  with
  | nil =>
    unfold tryImages
    try dsimp only
    repeat' first
      | with_reducible assumption
  | cons y l ih =>
    unfold tryImages
    try dsimp only
    repeat' first
      | with_reducible apply ih
      | with_reducible assumption
      | ((with_reducible refine sub_trans ?_ hG); exact rfl)
      | with_reducible apply State.fire_step
      | ((with_reducible refine Step.put (F := 36028798025596928) ?_ hG ?_ ?_); rotate_left; (fail_if_success (with_reducible exact Same.refl _ _)); exact rfl; (first | with_reducible exact State.Inv.congr rfl rfl rfl rfl rfl rfl rfl id id id))
      | with_reducible refine Step.ite (fun _ => ?_) (fun _ => ?_)
      | with_reducible refine Step.fstIte (fun _ => ?_) (fun _ => ?_)
      | with_reducible apply foldlFst_step
      | with_reducible apply foldl_step
      | with_reducible apply foldlFst_step
      | with_reducible intro _
      | with_reducible refine Step.ofFst (by assumption) ?_
      | with_reducible refine StepE.named (by assumption) ?_
      | with_reducible refine StepP.named (by assumption) ?_
      | split

theorem execImageVerify_step {G : Nat} {s0 s : State} {x1} {x2} (h : Step G s0 s)
    (hG : sub 117111186739954864 G = true) : StepO G s0 (execImageVerify x1 x2 s) := by
  unfold execImageVerify
  try dsimp only
  repeat' first
    | with_reducible assumption
    | ((with_reducible refine sub_trans ?_ hG); exact rfl)
    | with_reducible apply tryImages_step
    | with_reducible apply State.enterRecovery_step
    | with_reducible apply whenSettled_step
    | ((with_reducible refine Step.put (F := 117111186739954864) ?_ hG ?_ ?_); rotate_left; (fail_if_success (with_reducible exact Same.refl _ _)); exact rfl; (first | with_reducible exact State.Inv.congr rfl rfl rfl rfl rfl rfl rfl id id id))
    | with_reducible refine Step.ite (fun _ => ?_) (fun _ => ?_)
    | with_reducible refine StepO.ite (fun _ => ?_) (fun _ => ?_)
    | with_reducible apply StepO.next
    | with_reducible apply foldl_step
    | with_reducible apply foldlFst_step
    | with_reducible intro _
    | with_reducible refine Step.ofFst (by assumption) ?_
    | with_reducible refine StepE.named (by assumption) ?_
    | with_reducible refine StepP.named (by assumption) ?_
    | split
    | dsimp only

theorem State.finishCommit_step {G : Nat} {s0 s : State}  (h : Step G s0 s)
    (hG : sub 126118383847212208 G = true) : Step G s0 (State.finishCommit s) := by
  unfold State.finishCommit
  try dsimp only
  repeat' first
    | with_reducible assumption
    | ((with_reducible refine sub_trans ?_ hG); exact rfl)
    | with_reducible apply State.writeRecord_step
    | with_reducible apply State.commitRest_step
    | with_reducible apply State.bump32_step
    | with_reducible refine Step.ite (fun _ => ?_) (fun _ => ?_)

theorem State.loadSettings_step {G : Nat} {s0 s : State}  (h : Step G s0 s)
    (hG : sub 112049737433042108 G = true) : Step G s0 (State.loadSettings s) := by
  unfold State.loadSettings
  try dsimp only
  repeat' first
    | with_reducible assumption
    | ((with_reducible refine sub_trans ?_ hG); exact rfl)
    | with_reducible apply State.fire_step
    | with_reducible apply State.loadArea_step
    | with_reducible apply State.emcyEvent_step
    | ((with_reducible refine Step.put (F := 112049737433042108) ?_ hG ?_ ?_); rotate_left; (fail_if_success (with_reducible exact Same.refl _ _)); exact rfl; (first | with_reducible exact State.Inv.congr rfl rfl rfl rfl rfl rfl rfl id id id))
    | with_reducible refine Step.ite (fun _ => ?_) (fun _ => ?_)

theorem State.takeAbsent_step {G : Nat} {s0 s : State}  (h : Step G s0 s)
    (hG : sub 81082387573507248 G = true) : Step G s0 (State.takeAbsent s) := by
  unfold State.takeAbsent
  try dsimp only
  repeat' first
    | with_reducible assumption
    | ((with_reducible refine sub_trans ?_ hG); exact rfl)
    | with_reducible apply State.emcyAt_step
    | with_reducible apply State.takeBuffer_step
    | with_reducible apply State.emcyEvent_step
    | with_reducible apply each_step
    | ((with_reducible refine Step.put (F := 81082387573507248) ?_ hG ?_ ?_); rotate_left; (fail_if_success (with_reducible exact Same.refl _ _)); exact rfl; (first | with_reducible exact State.Inv.congr rfl rfl rfl rfl rfl rfl rfl id id id | exact fun v => ⟨v.1, v.2, v.3, v.4, ⟨v.5.1, Nat.zero_le _⟩, v.6, v.7⟩))
    | with_reducible refine Step.ite (fun _ => ?_) (fun _ => ?_)
    | with_reducible apply foldl_step
    | with_reducible apply foldlFst_step
    | with_reducible intro _

theorem State.collarOn_step {G : Nat} {s0 s : State}  (h : Step G s0 s)
    (hG : sub 9007199254740992 G = true) : Step G s0 (State.collarOn s) := by
  unfold State.collarOn
  try dsimp only
  repeat' first
    | with_reducible assumption
    | ((with_reducible refine sub_trans ?_ hG); exact rfl)
    | ((with_reducible refine Step.put (F := 9007199254740992) ?_ hG ?_ ?_); rotate_left; (fail_if_success (with_reducible exact Same.refl _ _)); exact rfl; (first | with_reducible exact State.Inv.congr rfl rfl rfl rfl rfl rfl rfl id id id))
    | with_reducible refine Step.ite (fun _ => ?_) (fun _ => ?_)
    | with_reducible apply foldl_step
    | with_reducible apply foldlFst_step
    | with_reducible intro _
    | with_reducible refine Step.ofFst (by assumption) ?_
    | with_reducible refine StepE.named (by assumption) ?_
    | with_reducible refine StepP.named (by assumption) ?_
    | split
    | dsimp only

theorem State.collarUp_step {G : Nat} {s0 s : State}  (h : Step G s0 s)
    (hG : sub 143574934824635580 G = true) : Step G s0 (State.collarUp s) := by
  unfold State.collarUp
  try dsimp only
  repeat' first
    | with_reducible assumption
    | ((with_reducible refine sub_trans ?_ hG); exact rfl)
    | with_reducible apply State.takeId_step
    | with_reducible apply State.clocksFresh_step
    | with_reducible apply State.bootUp_step
    | with_reducible apply State.loadSettings_step
    | with_reducible apply State.collarOn_step
    | with_reducible apply State.finishCommit_step
    | with_reducible apply State.takeAbsent_step

theorem State.collarResume_step {G : Nat} {s0 s : State}  (h : Step G s0 s)
    (hG : sub 45035996273704960 G = true) : Step G s0 (State.collarResume s) := by
  unfold State.collarResume
  try dsimp only
  repeat' first
    | with_reducible assumption
    | ((with_reducible refine sub_trans ?_ hG); exact rfl)
    | ((with_reducible refine Step.put (F := 45035996273704960) ?_ hG ?_ ?_); rotate_left; (fail_if_success (with_reducible exact Same.refl _ _)); exact rfl; (first | with_reducible exact State.Inv.congr rfl rfl rfl rfl rfl rfl rfl id id id))
    | with_reducible refine Step.ite (fun _ => ?_) (fun _ => ?_)
    | with_reducible apply foldl_step
    | with_reducible apply foldlFst_step
    | with_reducible intro _
    | with_reducible refine Step.ofFst (by assumption) ?_
    | with_reducible refine StepE.named (by assumption) ?_
    | with_reducible refine StepP.named (by assumption) ?_
    | split
    | dsimp only

theorem State.collarWait_step {G : Nat} {s0 s : State}  (h : Step G s0 s)
    (hG : sub 9007199254740996 G = true) : Step G s0 (State.collarWait s) := by
  unfold State.collarWait
  try dsimp only
  repeat' first
    | with_reducible assumption
    | ((with_reducible refine sub_trans ?_ hG); exact rfl)
    | ((with_reducible refine Step.put (F := 9007199254740996) ?_ hG ?_ ?_); rotate_left; (fail_if_success (with_reducible exact Same.refl _ _)); exact rfl; (first | with_reducible exact State.Inv.congr rfl rfl rfl rfl rfl rfl rfl id id id))
    | with_reducible refine Step.ite (fun _ => ?_) (fun _ => ?_)
    | with_reducible apply foldl_step
    | with_reducible apply foldlFst_step
    | with_reducible intro _
    | with_reducible refine Step.ofFst (by assumption) ?_
    | with_reducible refine StepE.named (by assumption) ?_
    | with_reducible refine StepP.named (by assumption) ?_
    | split
    | dsimp only

theorem execCollarFirmwareStart_step {G : Nat} {s0 s : State} (h : Step G s0 s)
    (hG : sub 288088470432215038 G = true) : StepO G s0 (execCollarFirmwareStart s) := by
  unfold execCollarFirmwareStart
  try dsimp only
  repeat' first
    | with_reducible assumption
    | ((with_reducible refine sub_trans ?_ hG); exact rfl)
    | with_reducible apply State.collarWait_step
    | with_reducible apply State.collarResume_step
    | with_reducible apply State.collarUp_step
    | with_reducible apply State.referenceLost_step
    | with_reducible apply whenSettled_step
    | with_reducible refine Step.ite (fun _ => ?_) (fun _ => ?_)
    | with_reducible refine StepO.ite (fun _ => ?_) (fun _ => ?_)
    | with_reducible apply StepO.next
    | with_reducible apply foldl_step
    | with_reducible apply foldlFst_step
    | with_reducible intro _
    | with_reducible refine Step.ofFst (by assumption) ?_
    | with_reducible refine StepE.named (by assumption) ?_
    | with_reducible refine StepP.named (by assumption) ?_
    | split
    | dsimp only

theorem State.yokeStart_step {G : Nat} {s0 s : State}  (h : Step G s0 s)
    (hG : sub 13510798882111488 G = true) : Step G s0 (State.yokeStart s) := by
  unfold State.yokeStart
  try dsimp only
  repeat' first
    | with_reducible assumption
    | ((with_reducible refine sub_trans ?_ hG); exact rfl)
    | with_reducible apply State.rampStart_step
    | ((with_reducible refine Step.put (F := 13510798882111488) ?_ hG ?_ ?_); rotate_left; (fail_if_success (with_reducible exact Same.refl _ _)); exact rfl; (first | with_reducible exact State.Inv.congr rfl rfl rfl rfl rfl rfl rfl id id id))
    | with_reducible refine Step.ite (fun _ => ?_) (fun _ => ?_)
    | with_reducible apply foldl_step
    | with_reducible apply foldlFst_step
    | with_reducible intro _
    | with_reducible refine Step.ofFst (by assumption) ?_
    | with_reducible refine StepE.named (by assumption) ?_
    | with_reducible refine StepP.named (by assumption) ?_
    | split
    | dsimp only

theorem execMainInputQualified_step {G : Nat} {s0 s : State} (h : Step G s0 s)
    (hG : sub 13510798882111489 G = true) : StepO G s0 (execMainInputQualified s) := by
  unfold execMainInputQualified
  try dsimp only
  repeat' first
    | with_reducible assumption
    | ((with_reducible refine sub_trans ?_ hG); exact rfl)
    | with_reducible apply State.yokeStart_step
    | with_reducible apply State.advanceTo_step
    | with_reducible apply whenDue_step
    | with_reducible refine Step.ite (fun _ => ?_) (fun _ => ?_)
    | with_reducible refine StepO.ite (fun _ => ?_) (fun _ => ?_)
    | with_reducible apply StepO.next
    | with_reducible apply foldl_step
    | with_reducible apply foldlFst_step
    | with_reducible intro _
    | with_reducible refine Step.ofFst (by assumption) ?_
    | with_reducible refine StepE.named (by assumption) ?_
    | with_reducible refine StepP.named (by assumption) ?_
    | split
    | dsimp only

theorem execYokeRamp_step {G : Nat} {s0 s : State}  (h : Step G s0 s)
    (hG : sub 13510798882111488 G = true) : StepO G s0 (execYokeRamp s) := by
  unfold execYokeRamp
  try dsimp only
  repeat' first
    | with_reducible assumption
    | with_reducible apply State.domainGood_step
    | with_reducible apply whenDue_step

theorem State.yokeStartBad_step {G : Nat} {s0 s : State} {x1} {x2} (h : Step G s0 s)
    (hG : sub 270074138494726138 G = true) : Step G s0 (State.yokeStartBad s x1 x2) := by
  unfold State.yokeStartBad
  try dsimp only
  repeat' first
    | with_reducible assumption
    | ((with_reducible refine sub_trans ?_ hG); exact rfl)
    | with_reducible apply State.healthFail_step
    | with_reducible apply State.stepFailed_step
    | with_reducible apply State.fire_step
    | with_reducible apply State.yokeStartFailed_step

theorem execYokeLoad_step {G : Nat} {s0 s : State} {x1} (h : Step G s0 s)
    (hG : sub 270074140642209786 G = true) : StepO G s0 (execYokeLoad x1 s) := by
  unfold execYokeLoad
  try dsimp only
  repeat' first
    | with_reducible assumption
    | ((with_reducible refine sub_trans ?_ hG); exact rfl)
    | with_reducible apply State.yokeStartBad_step
    | with_reducible apply whenSettled_step
    | with_reducible apply State.fire_step
    | ((with_reducible refine Step.put (F := 270074140642209786) ?_ hG ?_ ?_); rotate_left; (fail_if_success (with_reducible exact Same.refl _ _)); exact rfl; (first | with_reducible exact State.Inv.congr rfl rfl rfl rfl rfl rfl rfl id id id))
    | with_reducible refine Step.ite (fun _ => ?_) (fun _ => ?_)
    | with_reducible refine StepO.ite (fun _ => ?_) (fun _ => ?_)
    | with_reducible apply StepO.next
    | with_reducible apply foldl_step
    | with_reducible apply foldlFst_step
    | with_reducible intro _
    | with_reducible refine Step.ofFst (by assumption) ?_
    | with_reducible refine StepE.named (by assumption) ?_
    | with_reducible refine StepP.named (by assumption) ?_
    | split
    | dsimp only

theorem State.yokeRuns_step {G : Nat} {s0 s : State} (h : Step G s0 s)
    (hG : sub 89531739296189628 G = true) : Step G s0 (State.yokeRuns s) := by
  unfold State.yokeRuns
  dsimp only
  have a : Step G s0 { s with up := { s.up with yoke := true, failedYoke := 0, retryAt := none, yokeOnly := false } } :=
    Step.put (F := 89531739296189628) h hG rfl (State.Inv.congr rfl rfl rfl rfl rfl rfl rfl id id id)
  have k := State.loadArea_step (x1 := 2) (x2 := yokeServed) (State.clocksFresh_step (x1 := [260, 261]) a (sub_trans rfl hG)) (sub_trans rfl hG)
  revert k
  generalize State.loadArea _ _ _ = u
  exact fun k => Step.put (F := 89531739296189628) k hG rfl (State.Inv.congr rfl rfl rfl rfl rfl rfl rfl id id id)

theorem State.scrubAgain_step {G : Nat} {s0 s : State}  (h : Step G s0 s)
    (hG : sub 9007199254740992 G = true) : Step G s0 (State.scrubAgain s) := by
  unfold State.scrubAgain
  try dsimp only
  repeat' first
    | with_reducible assumption
    | ((with_reducible refine sub_trans ?_ hG); exact rfl)
    | ((with_reducible refine Step.put (F := 9007199254740992) ?_ hG ?_ ?_); rotate_left; (fail_if_success (with_reducible exact Same.refl _ _)); exact rfl; (first | with_reducible exact State.Inv.congr rfl rfl rfl rfl rfl rfl rfl id id id))
    | with_reducible refine Step.ite (fun _ => ?_) (fun _ => ?_)
    | with_reducible apply foldl_step
    | with_reducible apply foldlFst_step
    | with_reducible intro _
    | with_reducible refine Step.ofFst (by assumption) ?_
    | with_reducible refine StepE.named (by assumption) ?_
    | with_reducible refine StepP.named (by assumption) ?_
    | split
    | dsimp only

theorem State.domainsBegin_step {G : Nat} {s0 s : State} (h : Step G s0 s)
    (hG : sub 9007199254740994 G = true) : Step G s0 (State.domainsBegin s) := by
  unfold State.domainsBegin
  try dsimp only
  repeat' first
    | with_reducible assumption
    | ((with_reducible refine sub_trans ?_ hG); exact rfl)
    | ((with_reducible refine Step.put (F := 9007199254740994) ?_ hG ?_ ?_); rotate_left; (fail_if_success (with_reducible exact Same.refl _ _)); exact rfl; (first | with_reducible exact State.Inv.congr rfl rfl rfl rfl rfl rfl rfl id id id | exact fun v => ⟨v.1, Nat.zero_le _, v.3, v.4, v.5, v.6, v.7⟩))
    | with_reducible refine Step.ite (fun _ => ?_) (fun _ => ?_)
    | with_reducible apply foldl_step
    | with_reducible apply foldlFst_step
    | with_reducible intro _
    | with_reducible refine Step.ofFst (by assumption) ?_
    | with_reducible refine StepE.named (by assumption) ?_
    | with_reducible refine StepP.named (by assumption) ?_
    | split
    | dsimp only

theorem execYokeSelfTest_step {G : Nat} {s0 s : State} {x1} (h : Step G s0 s)
    (hG : sub 270074140642209790 G = true) : StepO G s0 (execYokeSelfTest x1 s) := by
  unfold execYokeSelfTest
  try dsimp only
  repeat' first
    | with_reducible assumption
    | ((with_reducible refine sub_trans ?_ hG); exact rfl)
    | with_reducible apply State.domainsBegin_step
    | with_reducible apply State.scrubAgain_step
    | with_reducible apply State.yokeRuns_step
    | with_reducible apply State.yokeStartBad_step
    | with_reducible apply State.phaseCheck_step
    | with_reducible apply whenSettled_step
    | with_reducible refine Step.ite (fun _ => ?_) (fun _ => ?_)
    | with_reducible refine StepO.ite (fun _ => ?_) (fun _ => ?_)
    | with_reducible apply StepO.next
    | with_reducible apply foldl_step
    | with_reducible apply foldlFst_step
    | with_reducible intro _
    | with_reducible refine Step.ofFst (by assumption) ?_
    | with_reducible refine StepE.named (by assumption) ?_
    | with_reducible refine StepP.named (by assumption) ?_
    | split
    | dsimp only

theorem execYokeStartRetry_step {G : Nat} {s0 s : State}  (h : Step G s0 s)
    (hG : sub 13510798882111489 G = true) : StepO G s0 (execYokeStartRetry s) := by
  unfold execYokeStartRetry
  try dsimp only
  repeat' first
    | with_reducible assumption
    | ((with_reducible refine sub_trans ?_ hG); exact rfl)
    | with_reducible apply State.advanceTo_step
    | with_reducible apply State.yokeStart_step
    | with_reducible apply whenDue_step
    | with_reducible refine Step.ite (fun _ => ?_) (fun _ => ?_)
    | with_reducible refine StepO.ite (fun _ => ?_) (fun _ => ?_)
    | with_reducible apply StepO.next
    | with_reducible apply foldl_step
    | with_reducible apply foldlFst_step
    | with_reducible intro _
    | with_reducible refine Step.ofFst (by assumption) ?_
    | with_reducible refine StepE.named (by assumption) ?_
    | with_reducible refine StepP.named (by assumption) ?_
    | split

theorem execDomainPowerUp_step {G : Nat} {s0 s : State}  (h : Step G s0 s)
    (hG : sub 121614786367325360 G = true) : StepO G s0 (execDomainPowerUp s) := by
  unfold execDomainPowerUp
  try dsimp only
  repeat' first
    | with_reducible assumption
    | ((with_reducible refine sub_trans ?_ hG); exact rfl)
    | with_reducible apply State.rampAll_step
    | with_reducible apply State.panelMark_step
    | with_reducible apply whenSettled_step
    | with_reducible apply State.phaseCheck_step
    | with_reducible apply State.setDomain_step
    | with_reducible apply each_step
    | ((with_reducible refine Step.put (F := 121614786367325360) ?_ hG ?_ ?_); rotate_left; (fail_if_success (with_reducible exact Same.refl _ _)); exact rfl; (first | with_reducible exact State.Inv.congr rfl rfl rfl rfl rfl rfl rfl id id id))
    | with_reducible refine Step.ite (fun _ => ?_) (fun _ => ?_)
    | with_reducible refine StepO.ite (fun _ => ?_) (fun _ => ?_)
    | with_reducible apply StepO.next
    | with_reducible apply foldl_step
    | with_reducible apply foldlFst_step
    | with_reducible intro _
    | with_reducible refine Step.ofFst (by assumption) ?_
    | with_reducible refine StepE.named (by assumption) ?_
    | with_reducible refine StepP.named (by assumption) ?_
    | split
    | dsimp only

theorem State.setSegUp_step {G : Nat} {s0 s : State} {x1} {x2} (h : Step G s0 s)
    (hG : sub 9007199254740992 G = true) : Step G s0 (State.setSegUp s x1 x2) := by
  unfold State.setSegUp
  try dsimp only
  repeat' first
    | with_reducible assumption
    | ((with_reducible refine sub_trans ?_ hG); exact rfl)
    | ((with_reducible refine Step.put (F := 9007199254740992) ?_ hG ?_ ?_); rotate_left; (fail_if_success (with_reducible exact Same.refl _ _)); exact rfl; (first | with_reducible exact State.Inv.congr rfl rfl rfl rfl rfl rfl rfl id id id))
    | with_reducible refine Step.ite (fun _ => ?_) (fun _ => ?_)
    | with_reducible apply foldl_step
    | with_reducible apply foldlFst_step
    | with_reducible intro _
    | with_reducible refine Step.ofFst (by assumption) ?_
    | with_reducible refine StepE.named (by assumption) ?_
    | with_reducible refine StepP.named (by assumption) ?_
    | split
    | dsimp only

theorem State.segFailed_step {G : Nat} {s0 s : State} {x1} {x2} {x3} (h : Step G s0 s)
    (hG : sub 81082387573507248 G = true) : Step G s0 (State.segFailed s x1 x2 x3) := by
  unfold State.segFailed
  try dsimp only
  repeat' first
    | with_reducible assumption
    | ((with_reducible refine sub_trans ?_ hG); exact rfl)
    | with_reducible apply State.stepFailed_step
    | with_reducible apply State.setSegUp_step
    | with_reducible apply State.fire_step

theorem State.trainingDone_step {G : Nat} {s0 s : State} {x1} {x2} (h : Step G s0 s)
    (hG : sub 85585987200877744 G = true) : Step G s0 (State.trainingDone s x1 x2) := by
  unfold State.trainingDone
  try dsimp only
  repeat' first
    | with_reducible assumption
    | ((with_reducible refine sub_trans ?_ hG); exact rfl)
    | with_reducible apply State.clocksFresh_step
    | with_reducible apply State.segFailed_step
    | with_reducible apply State.setSegUp_step
    | with_reducible refine Step.ite (fun _ => ?_) (fun _ => ?_)

theorem execDramTrainingDone_step {G : Nat} {s0 s : State} {x1} {x2} (h : Step G s0 s)
    (hG : sub 121614786367325360 G = true) : StepO G s0 (execDramTrainingDone x1 x2 s) := by
  unfold execDramTrainingDone
  try dsimp only
  repeat' first
    | with_reducible assumption
    | ((with_reducible refine sub_trans ?_ hG); exact rfl)
    | with_reducible apply State.trainingDone_step
    | with_reducible apply State.phaseCheck_step
    | with_reducible apply whenSettled_step
    | with_reducible refine Step.ite (fun _ => ?_) (fun _ => ?_)
    | with_reducible refine StepO.ite (fun _ => ?_) (fun _ => ?_)
    | with_reducible apply StepO.next
    | with_reducible apply foldl_step
    | with_reducible apply foldlFst_step
    | with_reducible intro _
    | with_reducible refine Step.ofFst (by assumption) ?_
    | with_reducible refine StepE.named (by assumption) ?_
    | with_reducible refine StepP.named (by assumption) ?_
    | split
    | dsimp only

theorem State.segmentServes_step {G : Nat} {s0 s : State} {x1} {x2} (h : Step G s0 s)
    (hG : sub 9007199258673152 G = true) : Step G s0 (State.segmentServes s x1 x2) := by
  unfold State.segmentServes
  try dsimp only
  repeat' first
    | with_reducible assumption
    | ((with_reducible refine sub_trans ?_ hG); exact rfl)
    | ((with_reducible refine Step.put (F := 9007199258673152) ?_ hG ?_ ?_); rotate_left; (fail_if_success (with_reducible exact Same.refl _ _)); exact rfl; (first | with_reducible exact State.Inv.congr rfl rfl rfl rfl rfl rfl rfl id id id | exact fun v => ⟨Memory.wipe_wf v.1 _ _, v.2, v.3, v.4, v.5, v.6, v.7⟩))
    | with_reducible refine Step.ite (fun _ => ?_) (fun _ => ?_)
    | with_reducible apply foldl_step
    | with_reducible apply foldlFst_step
    | with_reducible intro _
    | with_reducible refine Step.ofFst (by assumption) ?_
    | with_reducible refine StepE.named (by assumption) ?_
    | with_reducible refine StepP.named (by assumption) ?_
    | rw [id_eq]
    | split
    | dsimp only

theorem execSegmentScrubDone_step {G : Nat} {s0 s : State} {x1} {x2} (h : Step G s0 s)
    (hG : sub 117111186742052017 G = true) : StepO G s0 (execSegmentScrubDone x1 x2 s) := by
  unfold execSegmentScrubDone
  try dsimp only
  repeat' first
    | with_reducible assumption
    | ((with_reducible refine sub_trans ?_ hG); exact rfl)
    | with_reducible apply State.advanceTo_step
    | with_reducible apply whenSettled_step
    | with_reducible apply State.phaseCheck_step
    | with_reducible apply State.segmentServes_step

theorem State.setPanelUp_step {G : Nat} {s0 s : State} {x1} {x2} (h : Step G s0 s)
    (hG : sub 9007199254740992 G = true) : Step G s0 (State.setPanelUp s x1 x2) := by
  unfold State.setPanelUp
  try dsimp only
  repeat' first
    | with_reducible assumption
    | ((with_reducible refine sub_trans ?_ hG); exact rfl)
    | ((with_reducible refine Step.put (F := 9007199254740992) ?_ hG ?_ ?_); rotate_left; (fail_if_success (with_reducible exact Same.refl _ _)); exact rfl; (first | with_reducible exact State.Inv.congr rfl rfl rfl rfl rfl rfl rfl id id id))
    | with_reducible refine Step.ite (fun _ => ?_) (fun _ => ?_)
    | with_reducible apply foldl_step
    | with_reducible apply foldlFst_step
    | with_reducible intro _
    | with_reducible refine Step.ofFst (by assumption) ?_
    | with_reducible refine StepE.named (by assumption) ?_
    | with_reducible refine StepP.named (by assumption) ?_
    | split
    | dsimp only

theorem State.selfTestFails_step {G : Nat} {s0 s : State} {x1} {x2} (h : Step G s0 s)
    (hG : sub 81082525012460722 G = true) : Step G s0 (State.selfTestFails s x1 x2) := by
  unfold State.selfTestFails
  try dsimp only
  repeat' first
    | with_reducible assumption
    | ((with_reducible refine sub_trans ?_ hG); exact rfl)
    | with_reducible apply State.stepFailed_step
    | with_reducible apply State.setTile_step
    | with_reducible apply State.setPanelUp_step
    | with_reducible apply State.fire_step
    | ((with_reducible refine Step.put (F := 81082525012460722) ?_ hG ?_ ?_); rotate_left; (fail_if_success (with_reducible exact Same.refl _ _)); exact rfl; (first | with_reducible exact State.Inv.congr rfl rfl rfl rfl rfl rfl rfl id id id))
    | with_reducible refine Step.ite (fun _ => ?_) (fun _ => ?_)

theorem State.testedPanel_step {G : Nat} {s0 s : State} {x1} (h : Step G s0 s)
    (hG : sub 9007336693694464 G = true) : Step G s0 (State.testedPanel s x1) := by
  unfold State.testedPanel
  try dsimp only
  repeat' first
    | with_reducible assumption
    | ((with_reducible refine sub_trans ?_ hG); exact rfl)
    | ((with_reducible refine Step.put (F := 9007336693694464) ?_ hG ?_ ?_); rotate_left; (fail_if_success (with_reducible exact Same.refl _ _)); exact rfl; (first | with_reducible exact State.Inv.congr rfl rfl rfl rfl rfl rfl rfl id id id))
    | with_reducible refine Step.ite (fun _ => ?_) (fun _ => ?_)
    | with_reducible apply foldl_step
    | with_reducible apply foldlFst_step
    | with_reducible intro _
    | with_reducible refine Step.ofFst (by assumption) ?_
    | with_reducible refine StepE.named (by assumption) ?_
    | with_reducible refine StepP.named (by assumption) ?_
    | split
    | dsimp only

theorem State.pllFailed_step {G : Nat} {s0 s : State} {x1} (h : Step G s0 s)
    (hG : sub 85585987200877744 G = true) : Step G s0 (State.pllFailed s x1) := by
  unfold State.pllFailed
  try dsimp only
  repeat' first
    | with_reducible assumption
    | ((with_reducible refine sub_trans ?_ hG); exact rfl)
    | with_reducible apply State.panelMark_step
    | with_reducible apply State.setPanelPower_step
    | with_reducible apply State.stepFailed_step

theorem execPanelSelfTestDone_step {G : Nat} {s0 s : State} {x1} {x2} {x3} (h : Step G s0 s)
    (hG : sub 85586126787314866 G = true) : StepO G s0 (execPanelSelfTestDone x1 x2 x3 s) := by
  unfold execPanelSelfTestDone
  try dsimp only
  repeat' first
    | with_reducible assumption
    | ((with_reducible refine sub_trans ?_ hG); exact rfl)
    | with_reducible apply State.pllFailed_step
    | with_reducible apply State.testedPanel_step
    | with_reducible apply State.selfTestFails_step
    | with_reducible apply whenSettled_step
    | with_reducible apply each_step
    | with_reducible refine Step.ite (fun _ => ?_) (fun _ => ?_)
    | with_reducible refine StepO.ite (fun _ => ?_) (fun _ => ?_)
    | with_reducible apply StepO.next
    | with_reducible apply foldl_step
    | with_reducible apply foldlFst_step
    | with_reducible intro _
    | with_reducible refine Step.ofFst (by assumption) ?_
    | with_reducible refine StepE.named (by assumption) ?_
    | with_reducible refine StepP.named (by assumption) ?_
    | split
    | dsimp only

theorem State.laneTestFails_step {G : Nat} {s0 s : State} {x1} (h : Step G s0 s)
    (hG : sub 9007200261373954 G = true) : Step G s0 (State.laneTestFails s x1) := by
  unfold State.laneTestFails
  try dsimp only
  repeat' first
    | with_reducible assumption
    | ((with_reducible refine sub_trans ?_ hG); exact rfl)
    | with_reducible apply State.fire_step
    | ((with_reducible refine Step.put (F := 9007200261373954) ?_ hG ?_ ?_); rotate_left; (fail_if_success (with_reducible exact Same.refl _ _)); exact rfl; (first | with_reducible exact State.Inv.congr rfl rfl rfl rfl rfl rfl rfl id id id))
    | with_reducible refine Step.ite (fun _ => ?_) (fun _ => ?_)
    | with_reducible apply foldl_step
    | with_reducible apply foldlFst_step
    | with_reducible intro _
    | with_reducible refine Step.ofFst (by assumption) ?_
    | with_reducible refine StepE.named (by assumption) ?_
    | with_reducible refine StepP.named (by assumption) ?_
    | split
    | dsimp only

theorem State.seamTestFails_step {G : Nat} {s0 s : State} {x1} (h : Step G s0 s)
    (hG : sub 81082387573507248 G = true) : Step G s0 (State.seamTestFails s x1) := by
  unfold State.seamTestFails
  try dsimp only
  repeat' first
    | with_reducible assumption
    | ((with_reducible refine sub_trans ?_ hG); exact rfl)
    | with_reducible apply State.setPanelUp_step
    | with_reducible apply State.stepFailed_step
    | with_reducible refine Step.ite (fun _ => ?_) (fun _ => ?_)
    | with_reducible apply foldl_step
    | with_reducible apply foldlFst_step
    | with_reducible intro _
    | with_reducible refine Step.ofFst (by assumption) ?_
    | with_reducible refine StepE.named (by assumption) ?_
    | with_reducible refine StepP.named (by assumption) ?_
    | split
    | dsimp only

theorem State.bringUpLoss_step {G : Nat} {s0 s : State} {x1} (h : Step G s0 s)
    (hG : sub 9007200265568256 G = true) : Step G s0 (State.bringUpLoss s x1) := by
  unfold State.bringUpLoss
  try dsimp only
  repeat' first
    | with_reducible assumption
    | ((with_reducible refine sub_trans ?_ hG); exact rfl)
    | with_reducible apply State.bump64_step
    | with_reducible apply State.setPanelUp_step
    | with_reducible apply State.fire_step

theorem State.bringUpLosses_step {G : Nat} {s0 s : State} {x1} (h : Step G s0 s)
    (hG : sub 9007200265568256 G = true) : Step G s0 (State.bringUpLosses s x1) := by
  unfold State.bringUpLosses
  try dsimp only
  repeat' first
    | with_reducible assumption
    | with_reducible apply State.bringUpLoss_step
    | with_reducible apply each_step
    | with_reducible refine Step.ite (fun _ => ?_) (fun _ => ?_)
    | with_reducible apply foldl_step
    | with_reducible apply foldlFst_step
    | with_reducible intro _

theorem State.gridBuilt_step {G : Nat} {s0 s : State} {x1} (h : Step G s0 s)
    (hG : sub 9007199254740994 G = true) : Step G s0 (State.gridBuilt s x1) := by
  unfold State.gridBuilt
  exact Step.put (F := 9007199254740994) h hG rfl fun v => ⟨v.1, rebuilt_mode s.wafer s.up.rebuildMode fun p => x1.contains p, v.3, v.4, v.5, v.6, v.7⟩

theorem execGridBuild_step {G : Nat} {s0 s : State} {x1} (h : Step G s0 s)
    (hG : sub 121619888788688058 G = true) : StepO G s0 (execGridBuild x1 s) := by
  unfold execGridBuild
  try dsimp only
  repeat' first
    | with_reducible assumption
    | ((with_reducible refine sub_trans ?_ hG); exact rfl)
    | with_reducible apply State.gridBuilt_step
    | with_reducible apply State.bringUpLosses_step
    | with_reducible apply State.seamTestFails_step
    | with_reducible apply State.laneTestFails_step
    | with_reducible apply State.phaseCheck_step
    | with_reducible apply State.lostDomainsOff_step
    | with_reducible apply State.rebudget_step
    | with_reducible apply whenSettled_step
    | with_reducible apply each_step
    | with_reducible refine Step.ite (fun _ => ?_) (fun _ => ?_)
    | with_reducible refine StepO.ite (fun _ => ?_) (fun _ => ?_)
    | with_reducible apply StepO.next
    | with_reducible apply foldl_step
    | with_reducible apply foldlFst_step
    | with_reducible intro _
    | with_reducible refine Step.ofFst (by assumption) ?_
    | with_reducible refine StepE.named (by assumption) ?_
    | with_reducible refine StepP.named (by assumption) ?_
    | split
    | dsimp only

theorem State.limitPassed_step {G : Nat} {s0 s : State} {x1} {x2} {x3} (h : Step G s0 s)
    (hG : sub 81082387573507248 G = true) : Step G s0 (State.limitPassed s x1 x2 x3) := by
  unfold State.limitPassed
  try dsimp only
  repeat' first
    | with_reducible assumption
    | ((with_reducible refine sub_trans ?_ hG); exact rfl)
    | with_reducible apply State.stepFailed_step
    | ((with_reducible refine Step.put (F := 81082387573507248) ?_ hG ?_ ?_); rotate_left; (fail_if_success (with_reducible exact Same.refl _ _)); exact rfl; (first | with_reducible exact State.Inv.congr rfl rfl rfl rfl rfl rfl rfl id id id))
    | with_reducible refine Step.ite (fun _ => ?_) (fun _ => ?_)
    | with_reducible apply foldl_step
    | with_reducible apply foldlFst_step
    | with_reducible intro _
    | with_reducible refine Step.ofFst (by assumption) ?_
    | with_reducible refine StepE.named (by assumption) ?_
    | with_reducible refine StepP.named (by assumption) ?_
    | split
    | dsimp only

theorem State.yokeLate_step {G : Nat} {s0 s : State} {x1} (h : Step G s0 s)
    (hG : sub 270074140642209787 G = true) : StepO G s0 (State.yokeLate s x1) := by
  unfold State.yokeLate
  try dsimp only
  repeat' first
    | with_reducible assumption
    | ((with_reducible refine sub_trans ?_ hG); exact rfl)
    | with_reducible apply State.yokeStartBad_step
    | with_reducible apply State.yokeStartFailed_step
    | with_reducible apply State.stepFailed_step
    | with_reducible apply State.domainOff_step
    | with_reducible apply whenSettled_step
    | with_reducible apply State.advanceTo_step
    | with_reducible refine Step.ite (fun _ => ?_) (fun _ => ?_)
    | with_reducible refine StepO.ite (fun _ => ?_) (fun _ => ?_)
    | with_reducible apply StepO.next
    | with_reducible apply foldl_step
    | with_reducible apply foldlFst_step
    | with_reducible intro _
    | with_reducible refine Step.ofFst (by assumption) ?_
    | with_reducible refine StepE.named (by assumption) ?_
    | with_reducible refine StepP.named (by assumption) ?_
    | split
    | dsimp only

theorem State.segLate_step {G : Nat} {s0 s : State} {x1} (h : Step G s0 s)
    (hG : sub 121614786367325361 G = true) : StepO G s0 (State.segLate s x1) := by
  unfold State.segLate
  try dsimp only
  repeat' first
    | with_reducible assumption
    | ((with_reducible refine sub_trans ?_ hG); exact rfl)
    | with_reducible apply State.trainingDone_step
    | with_reducible apply State.segFailed_step
    | with_reducible apply State.phaseCheck_step
    | with_reducible apply whenSettled_step
    | with_reducible apply State.advanceTo_step
    | with_reducible refine Step.ite (fun _ => ?_) (fun _ => ?_)
    | with_reducible refine StepO.ite (fun _ => ?_) (fun _ => ?_)
    | with_reducible apply StepO.next
    | with_reducible apply foldl_step
    | with_reducible apply foldlFst_step
    | with_reducible intro _
    | with_reducible refine Step.ofFst (by assumption) ?_
    | with_reducible refine StepE.named (by assumption) ?_
    | with_reducible refine StepP.named (by assumption) ?_
    | split
    | dsimp only

theorem execStartupStepTimeout_step {G : Nat} {s0 s : State} {x1} {x2} (h : Step G s0 s)
    (hG : sub 270074140642209787 G = true) : StepO G s0 (execStartupStepTimeout x1 x2 s) := by
  unfold execStartupStepTimeout
  try dsimp only
  repeat' first
    | with_reducible assumption
    | ((with_reducible refine sub_trans ?_ hG); exact rfl)
    | with_reducible apply State.segLate_step
    | with_reducible apply State.yokeLate_step
    | with_reducible apply State.limitPassed_step
    | with_reducible apply State.pllFailed_step
    | with_reducible apply whenSettled_step
    | with_reducible apply State.advanceTo_step
    | with_reducible refine Step.ite (fun _ => ?_) (fun _ => ?_)
    | with_reducible refine StepO.ite (fun _ => ?_) (fun _ => ?_)
    | with_reducible apply StepO.next
    | with_reducible apply foldl_step
    | with_reducible apply foldlFst_step
    | with_reducible intro _
    | with_reducible refine Step.ofFst (by assumption) ?_
    | with_reducible refine StepE.named (by assumption) ?_
    | with_reducible refine StepP.named (by assumption) ?_
    | split
    | dsimp only

/-! ### Faults -/

theorem State.fenceTile_step {G : Nat} {s0 s : State} {x1} (h : Step G s0 s)
    (hG : sub 137443147776 G = true) : Step G s0 (State.fenceTile s x1) := by
  unfold State.fenceTile
  try dsimp only
  repeat' first
    | with_reducible assumption
    | ((with_reducible refine sub_trans ?_ hG); exact rfl)
    | with_reducible apply State.bump64_step
    | with_reducible apply State.setTile_step

theorem State.keepPlace_step {G : Nat} {s0 s : State} {x1} (h : Step G s0 s)
    (hG : sub 2048 G = true) : Step G s0 (State.keepPlace s x1) := by
  unfold State.keepPlace
  try dsimp only
  repeat' first
    | with_reducible assumption
    | with_reducible apply State.entryMap_step
    | with_reducible refine Step.ite (fun _ => ?_) (fun _ => ?_)
    | with_reducible apply foldl_step
    | with_reducible apply foldlFst_step
    | with_reducible intro _
    | with_reducible refine Step.ofFst (by assumption) ?_
    | with_reducible refine StepE.named (by assumption) ?_
    | with_reducible refine StepP.named (by assumption) ?_
    | split

theorem State.contextsLost_step {G : Nat} {s0 s : State} {x1} (h : Step G s0 s)
    (hG : sub 1006632960 G = true) : Step G s0 (State.contextsLost s x1) := by
  unfold State.contextsLost
  try dsimp only
  repeat' first
    | with_reducible assumption
    | with_reducible apply State.fire_step
    | with_reducible apply each_step
    | with_reducible refine Step.ite (fun _ => ?_) (fun _ => ?_)
    | with_reducible apply foldl_step
    | with_reducible apply foldlFst_step
    | with_reducible intro _

theorem State.rowMoved_step {G : Nat} {s0 s : State} {x1} {x2} {x3} (h : Step G s0 s)
    (hG : sub 412316860416 G = true) : Step G s0 (State.rowMoved s x1 x2 x3) := by
  unfold State.rowMoved
  try dsimp only
  repeat' first
    | with_reducible assumption
    | ((with_reducible refine sub_trans ?_ hG); exact rfl)
    | ((with_reducible refine Step.put (F := 412316860416) ?_ hG ?_ ?_); rotate_left; (fail_if_success (with_reducible exact Same.refl _ _)); exact rfl; (first | with_reducible exact State.Inv.congr rfl rfl rfl rfl rfl rfl rfl id id id))
    | with_reducible refine Step.ite (fun _ => ?_) (fun _ => ?_)
    | with_reducible apply foldl_step
    | with_reducible apply foldlFst_step
    | with_reducible intro _
    | with_reducible refine Step.ofFst (by assumption) ?_
    | with_reducible refine StepE.named (by assumption) ?_
    | with_reducible refine StepP.named (by assumption) ?_
    | split
    | dsimp only

theorem State.passesMiss_step {G : Nat} {s0 s : State} {x1} {x2} (h : Step G s0 s)
    (hG : sub 4398046511104 G = true) : Step G s0 (State.passesMiss s x1 x2) := by
  unfold State.passesMiss
  try dsimp only
  repeat' first
    | with_reducible assumption
    | ((with_reducible refine sub_trans ?_ hG); exact rfl)
    | ((with_reducible refine Step.put (F := 4398046511104) ?_ hG ?_ ?_); rotate_left; (fail_if_success (with_reducible exact Same.refl _ _)); exact rfl; (first | with_reducible exact State.Inv.congr rfl rfl rfl rfl rfl rfl rfl id id id))
    | with_reducible refine Step.ite (fun _ => ?_) (fun _ => ?_)
    | with_reducible apply foldl_step
    | with_reducible apply foldlFst_step
    | with_reducible intro _
    | with_reducible refine Step.ofFst (by assumption) ?_
    | with_reducible refine StepE.named (by assumption) ?_
    | with_reducible refine StepP.named (by assumption) ?_
    | split
    | dsimp only

theorem State.remap_step {G : Nat} {s0 s : State} {x1} {x2} (h : Step G s0 s)
    (hG : sub 72080599977782458 G = true) : Step G s0 (State.remap s x1 x2) := by
  unfold State.remap
  try dsimp only
  repeat' first
    | with_reducible assumption
    | ((with_reducible refine sub_trans ?_ hG); exact rfl)
    | with_reducible apply State.passesMiss_step
    | with_reducible apply State.unitsFail_step
    | with_reducible apply State.keepPlace_step
    | with_reducible apply State.putCell_step
    | with_reducible apply State.logAct_step
    | with_reducible apply State.epochStep_step
    | with_reducible apply State.bump64_step
    | with_reducible apply State.rowMoved_step
    | with_reducible apply State.emcyEvent_step
    | with_reducible apply State.contextsLost_step
    | ((with_reducible refine Step.put (F := 72080599977782458) ?_ hG ?_ ?_); rotate_left; (fail_if_success (with_reducible exact Same.refl _ _)); exact rfl; (first | with_reducible exact State.Inv.congr rfl rfl rfl rfl rfl rfl rfl id id id))
    | with_reducible refine Step.ite (fun _ => ?_) (fun _ => ?_)
    | with_reducible apply foldl_step
    | with_reducible apply foldlFst_step
    | with_reducible intro _
    | with_reducible refine Step.ofFst (by assumption) ?_
    | with_reducible refine StepE.named (by assumption) ?_
    | with_reducible refine StepP.named (by assumption) ?_
    | split
    | dsimp only

theorem State.tileFenceWork_step {G : Nat} {s0 s : State} {x1} {x2} (h : Step G s0 s)
    (hG : sub 72080604272749754 G = true) : Step G s0 (State.tileFenceWork s x1 x2) := by
  unfold State.tileFenceWork
  try dsimp only
  repeat' first
    | with_reducible assumption
    | ((with_reducible refine sub_trans ?_ hG); exact rfl)
    | with_reducible apply State.logAct_step
    | with_reducible apply State.unitsFail_step
    | with_reducible apply State.remap_step
    | with_reducible apply State.declareLost_step
    | with_reducible apply State.fenceTile_step
    | ((with_reducible refine Step.put (F := 72080604272749754) ?_ hG ?_ ?_); rotate_left; (fail_if_success (with_reducible exact Same.refl _ _)); exact rfl; (first | with_reducible exact State.Inv.congr rfl rfl rfl rfl rfl rfl rfl id id id))
    | with_reducible refine Step.ite (fun _ => ?_) (fun _ => ?_)

theorem execTileFence_step {G : Nat} {s0 s : State} {x1} (h : Step G s0 s)
    (hG : sub 81087805674974394 G = true) : StepO G s0 (execTileFence x1 s) := by
  unfold execTileFence
  try dsimp only
  repeat' first
    | with_reducible assumption
    | ((with_reducible refine sub_trans ?_ hG); exact rfl)
    | with_reducible apply State.tileFenceWork_step
    | with_reducible apply whenSettled_step
    | with_reducible apply State.unsuspect_step

theorem execStoreMoveEnd_step {G : Nat} {s0 s : State} {x1} {x2} (h : Step G s0 s)
    (hG : sub 17769287385089 G = true) : StepO G s0 (execStoreMoveEnd x1 x2 s) := by
  unfold execStoreMoveEnd
  try dsimp only
  repeat' first
    | with_reducible assumption
    | ((with_reducible refine sub_trans ?_ hG); exact rfl)
    | with_reducible apply State.restoreTile_step
    | with_reducible apply State.advanceTo_step
    | ((with_reducible refine Step.put (F := 17769287385089) ?_ hG ?_ ?_); rotate_left; (fail_if_success (with_reducible exact Same.refl _ _)); exact rfl; (first | with_reducible exact State.Inv.congr rfl rfl rfl rfl rfl rfl rfl id id id))
    | with_reducible refine Step.ite (fun _ => ?_) (fun _ => ?_)
    | with_reducible refine StepO.ite (fun _ => ?_) (fun _ => ?_)
    | with_reducible apply StepO.next
    | with_reducible apply foldl_step
    | with_reducible apply foldlFst_step
    | with_reducible intro _
    | with_reducible refine Step.ofFst (by assumption) ?_
    | with_reducible refine StepE.named (by assumption) ?_
    | with_reducible refine StepP.named (by assumption) ?_
    | split
    | dsimp only

theorem execPanelLossRebuild_step {G : Nat} {s0 s : State}  (h : Step G s0 s)
    (hG : sub 85591096064699578 G = true) : StepO G s0 (execPanelLossRebuild s) := by
  unfold execPanelLossRebuild
  try dsimp only
  repeat' first
    | with_reducible assumption
    | ((with_reducible refine sub_trans ?_ hG); exact rfl)
    | with_reducible apply State.rebuiltReport_step
    | with_reducible apply State.abortAll_step
    | with_reducible apply State.epochStep_step
    | with_reducible apply whenSettled_step
    | with_reducible apply State.lostDomainsOff_step
    | with_reducible apply State.detachAll_step
    | with_reducible apply State.discardPrograms_step
    | with_reducible apply State.plansToLoaded_step
    | with_reducible apply State.killAll_step
    | ((with_reducible refine Step.put (F := 85591096064699578) ?_ hG ?_ ?_); rotate_left; (fail_if_success (with_reducible exact Same.refl _ _)); exact rfl; (first | with_reducible exact State.Inv.congr rfl rfl rfl rfl rfl rfl rfl id id id | exact fun v => ⟨v.1, rebuilt_mode _ _ _, v.3, v.4, v.5, v.6, v.7⟩))
    | with_reducible refine Step.ite (fun _ => ?_) (fun _ => ?_)
    | with_reducible refine StepO.ite (fun _ => ?_) (fun _ => ?_)
    | with_reducible apply StepO.next
    | with_reducible apply foldl_step
    | with_reducible apply foldlFst_step
    | with_reducible intro _
    | with_reducible refine Step.ofFst (by assumption) ?_
    | with_reducible refine StepE.named (by assumption) ?_
    | with_reducible refine StepP.named (by assumption) ?_
    | split
    | dsimp only

theorem State.awaitReturn_step {G : Nat} {s0 s : State} {x1} (h : Step G s0 s)
    (hG : sub 137438955520 G = true) : Step G s0 (State.awaitReturn s x1) := by
  unfold State.awaitReturn
  try dsimp only
  repeat' first
    | with_reducible assumption
    | ((with_reducible refine sub_trans ?_ hG); exact rfl)
    | with_reducible apply State.setTile_step
    | with_reducible apply State.keepPlace_step
    | with_reducible refine Step.ite (fun _ => ?_) (fun _ => ?_)
    | with_reducible apply foldl_step
    | with_reducible apply foldlFst_step
    | with_reducible intro _
    | with_reducible refine Step.ofFst (by assumption) ?_
    | with_reducible refine StepE.named (by assumption) ?_
    | with_reducible refine StepP.named (by assumption) ?_
    | split

theorem execPanelResetFence_step {G : Nat} {s0 s : State} {x1} (h : Step G s0 s)
    (hG : sub 81087496437132474 G = true) : StepO G s0 (execPanelResetFence x1 s) := by
  unfold execPanelResetFence
  try dsimp only
  repeat' first
    | with_reducible assumption
    | ((with_reducible refine sub_trans ?_ hG); exact rfl)
    | with_reducible apply State.awaitReturn_step
    | with_reducible apply whenSettled_step
    | with_reducible apply State.unitsFail_step
    | with_reducible apply State.unsuspect_step
    | with_reducible apply each_step
    | ((with_reducible refine Step.put (F := 81087496437132474) ?_ hG ?_ ?_); rotate_left; (fail_if_success (with_reducible exact Same.refl _ _)); exact rfl; (first | with_reducible exact State.Inv.congr rfl rfl rfl rfl rfl rfl rfl id id id))
    | with_reducible refine Step.ite (fun _ => ?_) (fun _ => ?_)
    | with_reducible refine StepO.ite (fun _ => ?_) (fun _ => ?_)
    | with_reducible apply StepO.next
    | with_reducible apply foldl_step
    | with_reducible apply foldlFst_step
    | with_reducible intro _
    | with_reducible refine Step.ofFst (by assumption) ?_
    | with_reducible refine StepE.named (by assumption) ?_
    | with_reducible refine StepP.named (by assumption) ?_
    | split
    | dsimp only

theorem State.tileReturns_step {G : Nat} {s0 s : State} {x1} (h : Step G s0 s)
    (hG : sub 17734927646720 G = true) : Step G s0 (State.tileReturns s x1) := by
  unfold State.tileReturns
  try dsimp only
  repeat' first
    | with_reducible assumption
    | ((with_reducible refine sub_trans ?_ hG); exact rfl)
    | with_reducible apply State.restoreTile_step
    | with_reducible apply State.setTile_step
    | with_reducible apply State.contextsLost_step

theorem State.tileStaysOut_step {G : Nat} {s0 s : State} {x1} (h : Step G s0 s)
    (hG : sub 5301600256 G = true) : Step G s0 (State.tileStaysOut s x1) := by
  unfold State.tileStaysOut
  try dsimp only
  repeat' first
    | with_reducible assumption
    | ((with_reducible refine sub_trans ?_ hG); exact rfl)
    | with_reducible apply State.fire_step
    | ((with_reducible refine Step.put (F := 5301600256) ?_ hG ?_ ?_); rotate_left; (fail_if_success (with_reducible exact Same.refl _ _)); exact rfl; (first | with_reducible exact State.Inv.congr rfl rfl rfl rfl rfl rfl rfl id id id))
    | with_reducible refine Step.ite (fun _ => ?_) (fun _ => ?_)

theorem execPanelReturn_step {G : Nat} {s0 s : State} {x1} {x2} (h : Step G s0 s)
    (hG : sub 85586131082282162 G = true) : StepO G s0 (execPanelReturn x1 x2 s) := by
  unfold execPanelReturn
  try dsimp only
  repeat' first
    | with_reducible assumption
    | ((with_reducible refine sub_trans ?_ hG); exact rfl)
    | with_reducible apply State.setPanelPower_step
    | with_reducible apply whenSettled_step
    | with_reducible apply State.tileStaysOut_step
    | with_reducible apply State.tileReturns_step
    | with_reducible apply each_step
    | ((with_reducible refine Step.put (F := 85586131082282162) ?_ hG ?_ ?_); rotate_left; (fail_if_success (with_reducible exact Same.refl _ _)); exact rfl; (first | with_reducible exact State.Inv.congr rfl rfl rfl rfl rfl rfl rfl id id id))
    | with_reducible refine Step.ite (fun _ => ?_) (fun _ => ?_)
    | with_reducible refine StepO.ite (fun _ => ?_) (fun _ => ?_)
    | with_reducible apply StepO.next
    | with_reducible apply foldl_step
    | with_reducible apply foldlFst_step
    | with_reducible intro _
    | with_reducible refine Step.ofFst (by assumption) ?_
    | with_reducible refine StepE.named (by assumption) ?_
    | with_reducible refine StepP.named (by assumption) ?_
    | split
    | dsimp only

theorem execLeaseExpiry_step {G : Nat} {s0 s : State} {x1} {x2} (h : Step G s0 s)
    (hG : sub 81082402605892784 G = true) : StepO G s0 (execLeaseExpiry x1 x2 s) := by
  unfold execLeaseExpiry
  try dsimp only
  repeat' first
    | with_reducible assumption
    | ((with_reducible refine sub_trans ?_ hG); exact rfl)
    | with_reducible apply State.fireFull_step
    | with_reducible apply whenSettled_step
    | with_reducible apply State.suspect_step
    | ((with_reducible refine Step.put (F := 81082402605892784) ?_ hG ?_ ?_); rotate_left; (fail_if_success (with_reducible exact Same.refl _ _)); exact rfl; (first | with_reducible exact State.Inv.congr rfl rfl rfl rfl rfl rfl rfl id id id))
    | with_reducible refine Step.ite (fun _ => ?_) (fun _ => ?_)
    | with_reducible refine StepO.ite (fun _ => ?_) (fun _ => ?_)
    | with_reducible apply StepO.next
    | with_reducible apply foldl_step
    | with_reducible apply foldlFst_step
    | with_reducible intro _
    | with_reducible refine Step.ofFst (by assumption) ?_
    | with_reducible refine StepE.named (by assumption) ?_
    | with_reducible refine StepP.named (by assumption) ?_
    | split
    | dsimp only

theorem State.drainOwner_step {G : Nat} {s0 s : State} {x1} {x2} (h : Step G s0 s)
    (hG : sub 17179869184 G = true) : Step G s0 (State.drainOwner s x1 x2) := by
  unfold State.drainOwner
  try dsimp only
  repeat' first
    | with_reducible assumption
    | ((with_reducible refine sub_trans ?_ hG); exact rfl)
    | ((with_reducible refine Step.put (F := 17179869184) ?_ hG ?_ ?_); rotate_left; (fail_if_success (with_reducible exact Same.refl _ _)); exact rfl; (first | with_reducible exact State.Inv.congr rfl rfl rfl rfl rfl rfl rfl id id id))
    | with_reducible refine Step.ite (fun _ => ?_) (fun _ => ?_)
    | with_reducible apply foldl_step
    | with_reducible apply foldlFst_step
    | with_reducible intro _
    | with_reducible refine Step.ofFst (by assumption) ?_
    | with_reducible refine StepE.named (by assumption) ?_
    | with_reducible refine StepP.named (by assumption) ?_
    | split
    | dsimp only

theorem State.ownerFenced_step {G : Nat} {s0 s : State} {x1} {x2} {x3} (h : Step G s0 s)
    (hG : sub 72075188318766256 G = true) : Step G s0 (State.ownerFenced s x1 x2 x3) := by
  unfold State.ownerFenced
  try dsimp only
  repeat' first
    | with_reducible assumption
    | ((with_reducible refine sub_trans ?_ hG); exact rfl)
    | with_reducible apply State.emcyEvent_step
    | with_reducible apply State.bump64_step
    | with_reducible apply State.logAct_step

theorem State.fenceFunction_step {G : Nat} {s0 s : State} {x1} {x2} (h : Step G s0 s)
    (hG : sub 72467327423048952 G = true) : Step G s0 (State.fenceFunction s x1 x2) := by
  unfold State.fenceFunction
  try dsimp only
  repeat' first
    | with_reducible assumption
    | ((with_reducible refine sub_trans ?_ hG); exact rfl)
    | with_reducible apply State.jobClose_step
    | with_reducible apply State.setHost_step
    | with_reducible apply State.ownerFenced_step
    | with_reducible apply State.jobAbort_step
    | with_reducible apply each_step
    | ((with_reducible refine Step.put (F := 72467327423048952) ?_ hG ?_ ?_); rotate_left; (fail_if_success (with_reducible exact Same.refl _ _)); exact rfl; (first | with_reducible exact State.Inv.congr rfl rfl rfl rfl rfl rfl rfl id id id))
    | with_reducible refine Step.ite (fun _ => ?_) (fun _ => ?_)
    | with_reducible apply foldl_step
    | with_reducible apply foldlFst_step
    | with_reducible intro _
    | with_reducible refine Step.ofFst (by assumption) ?_
    | with_reducible refine StepE.named (by assumption) ?_
    | with_reducible refine StepP.named (by assumption) ?_
    | split
    | dsimp only

theorem State.fenceJobNow_step {G : Nat} {s0 s : State} {x1} {x2} (h : Step G s0 s)
    (hG : sub 72467318832917688 G = true) : Step G s0 (State.fenceJobNow s x1 x2) := by
  unfold State.fenceJobNow
  try dsimp only
  repeat' first
    | with_reducible assumption
    | ((with_reducible refine sub_trans ?_ hG); exact rfl)
    | with_reducible apply State.jobLinks_step
    | with_reducible apply State.ownerFenced_step
    | with_reducible apply State.drainOwner_step
    | with_reducible apply State.jobAbort_step
    | ((with_reducible refine Step.put (F := 72467318832917688) ?_ hG ?_ ?_); rotate_left; (fail_if_success (with_reducible exact Same.refl _ _)); exact rfl; (first | with_reducible exact State.Inv.congr rfl rfl rfl rfl rfl rfl rfl id id id))
    | with_reducible refine Step.ite (fun _ => ?_) (fun _ => ?_)

theorem State.fenceDram_step {G : Nat} {s0 s : State} {x1} {x2} (h : Step G s0 s)
    (hG : sub 225211473083526280 G = true) : Step G s0 (State.fenceDram s x1 x2) := by
  unfold State.fenceDram
  try dsimp only
  repeat' first
    | with_reducible assumption
    | ((with_reducible refine sub_trans ?_ hG); exact rfl)
    | with_reducible apply State.pleatFail_step
    | with_reducible apply State.unitsFail_step
    | with_reducible apply each_step
    | ((with_reducible refine Step.put (F := 225211473083526280) ?_ hG ?_ ?_); rotate_left; (fail_if_success (with_reducible exact Same.refl _ _)); exact rfl; (first | with_reducible exact State.Inv.congr rfl rfl rfl rfl rfl rfl rfl id id id))
    | with_reducible refine Step.ite (fun _ => ?_) (fun _ => ?_)
    | with_reducible apply foldl_step
    | with_reducible apply foldlFst_step
    | with_reducible intro _
    | with_reducible refine Step.ofFst (by assumption) ?_
    | with_reducible refine StepE.named (by assumption) ?_
    | with_reducible refine StepP.named (by assumption) ?_
    | split
    | dsimp only

theorem execOwnerFence_step {G : Nat} {s0 s : State} {x1} {x2} (h : Step G s0 s)
    (hG : sub 225598517291216120 G = true) : StepO G s0 (execOwnerFence x1 x2 s) := by
  unfold execOwnerFence
  try dsimp only
  repeat' first
    | with_reducible assumption
    | ((with_reducible refine sub_trans ?_ hG); exact rfl)
    | with_reducible apply State.yokeFail_step
    | with_reducible apply State.fenceDram_step
    | with_reducible apply whenSettled_step
    | with_reducible apply State.fenceJobNow_step
    | with_reducible apply State.unsuspect_step
    | with_reducible apply State.fenceFunction_step
    | with_reducible refine Step.ite (fun _ => ?_) (fun _ => ?_)

theorem execDmaDrainDone_step {G : Nat} {s0 s : State} {x1} {x2} (h : Step G s0 s)
    (hG : sub 17179869184 G = true) : StepO G s0 (execDmaDrainDone x1 x2 s) := by
  unfold execDmaDrainDone
  try dsimp only
  repeat' first
    | with_reducible assumption
    | ((with_reducible refine sub_trans ?_ hG); exact rfl)
    | with_reducible apply whenDue_step
    | ((with_reducible refine Step.put (F := 17179869184) ?_ hG ?_ ?_); rotate_left; (fail_if_success (with_reducible exact Same.refl _ _)); exact rfl; (first | with_reducible exact State.Inv.congr rfl rfl rfl rfl rfl rfl rfl id id id))
    | with_reducible refine Step.ite (fun _ => ?_) (fun _ => ?_)
    | with_reducible refine StepO.ite (fun _ => ?_) (fun _ => ?_)
    | with_reducible apply StepO.next
    | with_reducible apply foldl_step
    | with_reducible apply foldlFst_step
    | with_reducible intro _
    | with_reducible refine Step.ofFst (by assumption) ?_
    | with_reducible refine StepE.named (by assumption) ?_
    | with_reducible refine StepP.named (by assumption) ?_
    | split
    | dsimp only

theorem execDrainTimeout_step {G : Nat} {s0 s : State} {x1} {x2} (h : Step G s0 s)
    (hG : sub 81082411195827377 G = true) : StepO G s0 (execDrainTimeout x1 x2 s) := by
  unfold execDrainTimeout
  try dsimp only
  repeat' first
    | with_reducible assumption
    | ((with_reducible refine sub_trans ?_ hG); exact rfl)
    | with_reducible apply State.fire_step
    | with_reducible apply whenSettled_step
    | with_reducible apply State.advanceTo_step
    | with_reducible apply State.suspect_step
    | ((with_reducible refine Step.put (F := 81082411195827377) ?_ hG ?_ ?_); rotate_left; (fail_if_success (with_reducible exact Same.refl _ _)); exact rfl; (first | with_reducible exact State.Inv.congr rfl rfl rfl rfl rfl rfl rfl id id id))
    | with_reducible refine Step.ite (fun _ => ?_) (fun _ => ?_)
    | with_reducible refine StepO.ite (fun _ => ?_) (fun _ => ?_)
    | with_reducible apply StepO.next
    | with_reducible apply foldl_step
    | with_reducible apply foldlFst_step
    | with_reducible intro _
    | with_reducible refine Step.ofFst (by assumption) ?_
    | with_reducible refine StepE.named (by assumption) ?_
    | with_reducible refine StepP.named (by assumption) ?_
    | split
    | dsimp only

theorem fxFenceJob_step {G : Nat} {s0 s : State} {x1} (h : Step G s0 s)
    (hG : sub 4294967296 G = true) : StepE G s0 (fxFenceJob x1 s) := by
  unfold fxFenceJob
  try dsimp only
  repeat' first
    | with_reducible assumption
    | with_reducible apply State.suspect_step
    | with_reducible refine Step.ite (fun _ => ?_) (fun _ => ?_)
    | with_reducible refine StepE.ite (fun _ => ?_) (fun _ => ?_)
    | with_reducible exact StepE.error
    | with_reducible apply StepE.ok

theorem execFenceJob_step {G : Nat} {s0 s : State} {x1} {x2} (h : Step G s0 s)
    (hG : sub 4299161600 G = true) : StepO G s0 (execFenceJob x1 x2 s) := by
  unfold execFenceJob
  try dsimp only
  repeat' first
    | with_reducible assumption
    | ((with_reducible refine sub_trans ?_ hG); exact rfl)
    | with_reducible apply State.odWrite_step
    | with_reducible apply fxFenceJob_step
    | with_reducible refine Step.ite (fun _ => ?_) (fun _ => ?_)
    | with_reducible refine StepO.ite (fun _ => ?_) (fun _ => ?_)
    | with_reducible apply StepO.next
    | with_reducible refine StepE.ite (fun _ => ?_) (fun _ => ?_)
    | with_reducible exact StepE.error
    | with_reducible apply StepE.ok
    | with_reducible apply foldl_step
    | with_reducible apply foldlFst_step
    | with_reducible intro _

theorem execYokeFailure_step {G : Nat} {s0 s : State} {x1} (h : Step G s0 s)
    (hG : sub 270074140642209786 G = true) : StepO G s0 (execYokeFailure x1 s) := by
  unfold execYokeFailure
  try dsimp only
  repeat' first
    | with_reducible assumption
    | ((with_reducible refine sub_trans ?_ hG); exact rfl)
    | with_reducible apply State.yokeFail_step
    | with_reducible apply State.healthFail_step
    | with_reducible apply whenSettled_step
    | with_reducible apply State.fire_step
    | with_reducible refine Step.ite (fun _ => ?_) (fun _ => ?_)

theorem execCollarFailure_step {G : Nat} {s0 s : State} {x1} (h : Step G s0 s)
    (hG : sub 117111255459431600 G = true) : StepO G s0 (execCollarFailure x1 s) := by
  unfold execCollarFailure
  try dsimp only
  repeat' first
    | with_reducible assumption
    | ((with_reducible refine sub_trans ?_ hG); exact rfl)
    | with_reducible apply State.bump64_step
    | with_reducible apply whenSettled_step
    | with_reducible apply State.collarReset_step
    | with_reducible apply State.fire_step

theorem execCollarAbsentTimeout_step {G : Nat} {s0 s : State}  (h : Step G s0 s)
    (hG : sub 234045274903769083 G = true) : StepO G s0 (execCollarAbsentTimeout s) := by
  unfold execCollarAbsentTimeout
  try dsimp only
  repeat' first
    | with_reducible assumption
    | ((with_reducible refine sub_trans ?_ hG); exact rfl)
    | with_reducible apply State.orderlyShutdown_step
    | with_reducible apply State.advanceTo_step
    | with_reducible apply whenSettled_step
    | with_reducible apply State.fire_step
    | with_reducible refine Step.ite (fun _ => ?_) (fun _ => ?_)
    | with_reducible refine StepO.ite (fun _ => ?_) (fun _ => ?_)
    | with_reducible apply StepO.next
    | with_reducible apply foldl_step
    | with_reducible apply foldlFst_step
    | with_reducible intro _
    | with_reducible refine Step.ofFst (by assumption) ?_
    | with_reducible refine StepE.named (by assumption) ?_
    | with_reducible refine StepP.named (by assumption) ?_
    | split

theorem fxGridRestore_step {G : Nat} {s0 s : State} {x1} {x2} (h : Step G s0 s)
    (hG : sub 85591089622240442 G = true) : StepE G s0 (fxGridRestore x1 x2 s) := by
  unfold fxGridRestore
  try dsimp only
  repeat' first
    | with_reducible assumption
    | ((with_reducible refine sub_trans ?_ hG); exact rfl)
    | with_reducible apply State.atOnce_step
    | ((with_reducible refine Step.put (F := 85591089622240442) ?_ hG ?_ ?_); rotate_left; (fail_if_success (with_reducible exact Same.refl _ _)); exact rfl; (first | with_reducible exact State.Inv.congr rfl rfl rfl rfl rfl rfl rfl id id id))
    | with_reducible refine Step.ite (fun _ => ?_) (fun _ => ?_)
    | with_reducible refine StepE.ite (fun _ => ?_) (fun _ => ?_)
    | with_reducible exact StepE.error
    | with_reducible apply StepE.ok
    | with_reducible apply foldl_step
    | with_reducible apply foldlFst_step
    | with_reducible intro _
    | with_reducible refine Step.ofFst (by assumption) ?_
    | with_reducible refine StepE.named (by assumption) ?_
    | with_reducible refine StepP.named (by assumption) ?_
    | split
    | dsimp only

theorem execGridRestore_step {G : Nat} {s0 s : State} {x1} {x2} {x3} (h : Step G s0 s)
    (hG : sub 85591091769724090 G = true) : StepO G s0 (execGridRestore x1 x2 x3 s) := by
  unfold execGridRestore
  try dsimp only
  repeat' first
    | with_reducible assumption
    | ((with_reducible refine sub_trans ?_ hG); exact rfl)
    | with_reducible apply State.odWriteSettled_step
    | with_reducible apply fxGridRestore_step
    | with_reducible refine Step.ite (fun _ => ?_) (fun _ => ?_)
    | with_reducible refine StepO.ite (fun _ => ?_) (fun _ => ?_)
    | with_reducible apply StepO.next
    | with_reducible refine StepE.ite (fun _ => ?_) (fun _ => ?_)
    | with_reducible exact StepE.error
    | with_reducible apply StepE.ok
    | with_reducible apply foldl_step
    | with_reducible apply foldlFst_step
    | with_reducible intro _

theorem fxReplacementClear_step {G : Nat} {s0 s : State} {x1} (h : Step G s0 s)
    (hG : sub 2151677952 G = true) : StepE G s0 (fxReplacementClear x1 s) := by
  unfold fxReplacementClear
  try dsimp only
  repeat' first
    | with_reducible assumption
    | ((with_reducible refine sub_trans ?_ hG); exact rfl)
    | with_reducible apply State.putCell_step
    | ((with_reducible refine Step.put (F := 2151677952) ?_ hG ?_ ?_); rotate_left; (fail_if_success (with_reducible exact Same.refl _ _)); exact rfl; (first | with_reducible exact State.Inv.congr rfl rfl rfl rfl rfl rfl rfl id id id))
    | with_reducible refine Step.ite (fun _ => ?_) (fun _ => ?_)
    | with_reducible refine StepE.ite (fun _ => ?_) (fun _ => ?_)
    | with_reducible exact StepE.error
    | with_reducible apply StepE.ok
    | with_reducible apply foldl_step
    | with_reducible apply foldlFst_step
    | with_reducible intro _
    | with_reducible refine Step.ofFst (by assumption) ?_
    | with_reducible refine StepE.named (by assumption) ?_
    | with_reducible refine StepP.named (by assumption) ?_
    | split
    | dsimp only

theorem execReplacementClear_step {G : Nat} {s0 s : State} {x1} {x2} (h : Step G s0 s)
    (hG : sub 81082389720990896 G = true) : StepO G s0 (execReplacementClear x1 x2 s) := by
  unfold execReplacementClear
  try dsimp only
  repeat' first
    | with_reducible assumption
    | ((with_reducible refine sub_trans ?_ hG); exact rfl)
    | with_reducible apply fxReplacementClear_step
    | with_reducible apply State.odWriteSettled_step
    | with_reducible refine Step.ite (fun _ => ?_) (fun _ => ?_)
    | with_reducible refine StepO.ite (fun _ => ?_) (fun _ => ?_)
    | with_reducible apply StepO.next
    | with_reducible refine StepE.ite (fun _ => ?_) (fun _ => ?_)
    | with_reducible exact StepE.error
    | with_reducible apply StepE.ok
    | with_reducible apply foldl_step
    | with_reducible apply foldlFst_step
    | with_reducible intro _

theorem fxLogClear_step {G : Nat} {s0 s : State} {x1} (h : Step G s0 s)
    (hG : sub 402653184 G = true) : StepE G s0 (fxLogClear x1 s) := by
  unfold fxLogClear
  try dsimp only
  repeat' first
    | with_reducible assumption
    | ((with_reducible refine sub_trans ?_ hG); exact rfl)
    | ((with_reducible refine Step.put (F := 402653184) ?_ hG ?_ ?_); rotate_left; (fail_if_success (with_reducible exact Same.refl _ _)); exact rfl; (first | with_reducible exact State.Inv.congr rfl rfl rfl rfl rfl rfl rfl id id id | exact fun v => ⟨v.1, v.2, v.3, rfl, v.5, v.6, v.7⟩))
    | with_reducible refine Step.ite (fun _ => ?_) (fun _ => ?_)
    | with_reducible refine StepE.ite (fun _ => ?_) (fun _ => ?_)
    | with_reducible exact StepE.error
    | with_reducible apply StepE.ok
    | with_reducible apply foldl_step
    | with_reducible apply foldlFst_step
    | with_reducible intro _
    | with_reducible refine Step.ofFst (by assumption) ?_
    | with_reducible refine StepE.named (by assumption) ?_
    | with_reducible refine StepP.named (by assumption) ?_
    | split
    | dsimp only

theorem execFaultLogClear_step {G : Nat} {s0 s : State} {x1} {x2} (h : Step G s0 s)
    (hG : sub 406847488 G = true) : StepO G s0 (execFaultLogClear x1 x2 s) := by
  unfold execFaultLogClear
  try dsimp only
  repeat' first
    | with_reducible assumption
    | ((with_reducible refine sub_trans ?_ hG); exact rfl)
    | with_reducible apply fxLogClear_step
    | with_reducible apply State.odWrite_step
    | with_reducible refine Step.ite (fun _ => ?_) (fun _ => ?_)
    | with_reducible refine StepO.ite (fun _ => ?_) (fun _ => ?_)
    | with_reducible apply StepO.next
    | with_reducible refine StepE.ite (fun _ => ?_) (fun _ => ?_)
    | with_reducible exact StepE.error
    | with_reducible apply StepE.ok
    | with_reducible apply foldl_step
    | with_reducible apply foldlFst_step
    | with_reducible intro _

theorem fxDetectorQuery_step {G : Nat} {s0 s : State} {x1} (h : Step G s0 s)
    (hG : sub 4194304 G = true) : StepE G s0 (fxDetectorQuery x1 s) := by
  unfold fxDetectorQuery
  try dsimp only
  repeat' first
    | with_reducible assumption
    | with_reducible apply State.putCells_step
    | with_reducible refine Step.ite (fun _ => ?_) (fun _ => ?_)
    | with_reducible refine StepE.ite (fun _ => ?_) (fun _ => ?_)
    | with_reducible exact StepE.error
    | with_reducible apply StepE.ok

theorem execDetectorQuery_step {G : Nat} {s0 s : State} {x1} {x2} (h : Step G s0 s)
    (hG : sub 4194304 G = true) : StepO G s0 (execDetectorQuery x1 x2 s) := by
  unfold execDetectorQuery
  try dsimp only
  repeat' first
    | with_reducible assumption
    | with_reducible apply State.odWrite_step
    | with_reducible apply fxDetectorQuery_step
    | with_reducible refine Step.ite (fun _ => ?_) (fun _ => ?_)
    | with_reducible refine StepO.ite (fun _ => ?_) (fun _ => ?_)
    | with_reducible apply StepO.next
    | with_reducible refine StepE.ite (fun _ => ?_) (fun _ => ?_)
    | with_reducible exact StepE.error
    | with_reducible apply StepE.ok
    | with_reducible apply foldl_step
    | with_reducible apply foldlFst_step
    | with_reducible intro _

theorem fxLogQuery_step {G : Nat} {s0 s : State} {x1} (h : Step G s0 s)
    (hG : sub 4194304 G = true) : StepE G s0 (fxLogQuery x1 s) := by
  unfold fxLogQuery
  try dsimp only
  repeat' first
    | with_reducible assumption
    | with_reducible apply State.putCells_step
    | with_reducible refine Step.ite (fun _ => ?_) (fun _ => ?_)
    | with_reducible refine StepE.ite (fun _ => ?_) (fun _ => ?_)
    | with_reducible exact StepE.error
    | with_reducible apply StepE.ok
    | with_reducible apply foldl_step
    | with_reducible apply foldlFst_step
    | with_reducible intro _
    | with_reducible refine Step.ofFst (by assumption) ?_
    | with_reducible refine StepE.named (by assumption) ?_
    | with_reducible refine StepP.named (by assumption) ?_
    | split

theorem execLogQuery_step {G : Nat} {s0 s : State} {x1} {x2} (h : Step G s0 s)
    (hG : sub 4194304 G = true) : StepO G s0 (execLogQuery x1 x2 s) := by
  unfold execLogQuery
  try dsimp only
  repeat' first
    | with_reducible assumption
    | with_reducible apply State.odWrite_step
    | with_reducible apply fxLogQuery_step
    | with_reducible refine Step.ite (fun _ => ?_) (fun _ => ?_)
    | with_reducible refine StepO.ite (fun _ => ?_) (fun _ => ?_)
    | with_reducible apply StepO.next
    | with_reducible refine StepE.ite (fun _ => ?_) (fun _ => ?_)
    | with_reducible exact StepE.error
    | with_reducible apply StepE.ok
    | with_reducible apply foldl_step
    | with_reducible apply foldlFst_step
    | with_reducible intro _

end Sys2Proof.Machine
end

