-- ==== Sys2Proof/Laws/KeepRest.lean ====
section
/-! SUPPORT. Every state function of the matrix queue, remote, streaming, writes, SDO, mailboxes and injection:
the fields that it may change, and that it keeps the invariant. -/

-- One proof at a time, as in Keep.lean.
set_option Elab.async false
-- Every proof here tries the same few tactics in the same order, and not each of them meets a goal.
set_option linter.unusedTactic false
set_option linter.unreachableTactic false

namespace Sys2Proof.Machine

/-! ### Matrix -/

theorem State.programFault_step {G : Nat} {s0 s : State} {x1} (h : Step G s0 s)
    (hG : sub 138445586432 G = true) : Step G s0 (State.programFault s x1) := by
  unfold State.programFault
  try dsimp only
  repeat' first
    | with_reducible assumption
    | with_reducible apply State.taskFault_step

theorem State.loadPlane_step {G : Nat} {s0 s : State} {x1} {x2} {x3} (h : Step G s0 s)
    (hG : sub 142744748032 G = true) : Step G s0 (State.loadPlane s x1 x2 x3) := by
  unfold State.loadPlane
  try dsimp only
  repeat' first
    | with_reducible assumption
    | ((with_reducible refine sub_trans ?_ hG); exact rfl)
    | with_reducible apply State.readLines_step
    | with_reducible apply State.setTile_step
    | with_reducible refine Step.ite (fun _ => ?_) (fun _ => ?_)
    | with_reducible apply foldl_step
    | with_reducible apply foldlFst_step
    | with_reducible intro _
    | with_reducible refine Step.ofFst (by assumption) ?_
    | with_reducible refine StepE.named (by assumption) ?_
    | with_reducible refine StepP.named (by assumption) ?_
    | split

theorem State.issueHead_step {G : Nat} {s0 s : State} {x1} {x2} {x3} (h : Step G s0 s)
    (hG : sub 137443147776 G = true) : Step G s0 (State.issueHead s x1 x2 x3) := by
  unfold State.issueHead
  try dsimp only
  repeat' first
    | with_reducible assumption
    | ((with_reducible refine sub_trans ?_ hG); exact rfl)
    | with_reducible apply State.setTile_step
    | with_reducible apply State.tileBump_step

theorem execMatrixIssue_step {G : Nat} {s0 s : State} {x1} (h : Step G s0 s)
    (hG : sub 142744748032 G = true) : StepO G s0 (execMatrixIssue x1 s) := by
  unfold execMatrixIssue
  try dsimp only
  repeat' first
    | with_reducible assumption
    | ((with_reducible refine sub_trans ?_ hG); exact rfl)
    | with_reducible apply State.issueHead_step
    | with_reducible apply State.loadPlane_step
    | with_reducible apply State.programFault_step
    | with_reducible apply State.tileBump_step
    | with_reducible apply whenDue_step
    | with_reducible refine Step.ite (fun _ => ?_) (fun _ => ?_)
    | with_reducible refine StepO.ite (fun _ => ?_) (fun _ => ?_)
    | with_reducible apply StepO.next
    | with_reducible apply foldl_step
    | with_reducible apply foldlFst_step
    | with_reducible intro _
    | with_reducible refine Step.ofFst (by assumption) ?_
    | with_reducible refine StepE.named (by assumption) ?_
    | with_reducible refine StepP.named (by assumption) ?_
    | split
    | dsimp only

theorem State.destFault_step {G : Nat} {s0 s : State} {x1} {x2} {x3} {x4} (h : Step G s0 s)
    (hG : sub 138449780736 G = true) : Step G s0 (State.destFault s x1 x2 x3 x4) := by
  unfold State.destFault
  try dsimp only
  repeat' first
    | with_reducible assumption
    | ((with_reducible refine sub_trans ?_ hG); exact rfl)
    | with_reducible apply State.boundFault_step
    | with_reducible apply State.setTile_step
    | with_reducible refine Step.ite (fun _ => ?_) (fun _ => ?_)
    | with_reducible apply foldl_step
    | with_reducible apply foldlFst_step
    | with_reducible intro _
    | with_reducible refine Step.ofFst (by assumption) ?_
    | with_reducible refine StepE.named (by assumption) ?_
    | with_reducible refine StepP.named (by assumption) ?_
    | split
    | dsimp only

theorem State.destLines_step {G : Nat} {s0 s : State} {x1} {x2} {x3} {x4} (h : Step G s0 s)
    (hG : sub 142744748032 G = true) : Step G s0 (State.destLines x1 x2 x3 x4 s).1 := by
  induction x4 generalizing s  with
  | nil =>
    unfold State.destLines
    try dsimp only
    repeat' first
      | with_reducible apply ih
      | with_reducible assumption
      | ((with_reducible refine sub_trans ?_ hG); exact rfl)
      | with_reducible apply State.destFault_step
      | with_reducible apply State.coldRead_step
      | with_reducible apply State.storeEcc_step
      | with_reducible refine Step.ite (fun _ => ?_) (fun _ => ?_)
      | with_reducible refine Step.fstIte (fun _ => ?_) (fun _ => ?_)
      | with_reducible apply foldl_step
      | with_reducible apply foldlFst_step
      | with_reducible intro _
      | with_reducible refine Step.ofFst (by assumption) ?_
      | with_reducible refine StepE.named (by assumption) ?_
      | with_reducible refine StepP.named (by assumption) ?_
      | split
      | dsimp only
  | cons y l ih =>
    unfold State.destLines
    try dsimp only
    repeat' first
      | with_reducible apply ih
      | with_reducible assumption
      | ((with_reducible refine sub_trans ?_ hG); exact rfl)
      | with_reducible apply State.destFault_step
      | with_reducible apply State.coldRead_step
      | with_reducible apply State.storeEcc_step
      | with_reducible refine Step.ite (fun _ => ?_) (fun _ => ?_)
      | with_reducible refine Step.fstIte (fun _ => ?_) (fun _ => ?_)
      | with_reducible apply foldl_step
      | with_reducible apply foldlFst_step
      | with_reducible intro _
      | with_reducible refine Step.ofFst (by assumption) ?_
      | with_reducible refine StepE.named (by assumption) ?_
      | with_reducible refine StepP.named (by assumption) ?_
      | split
      | dsimp only

theorem State.putResult_step {G : Nat} {s0 s : State} {x1} {x2} {x3} {x4} (h : Step G s0 s)
    (hG : sub 142740553728 G = true) : Step G s0 (State.putResult s x1 x2 x3 x4) := by
  unfold State.putResult
  try dsimp only
  repeat' first
    | with_reducible assumption
    | ((with_reducible refine sub_trans ?_ hG); exact rfl)
    | with_reducible apply State.setTile_step
    | with_reducible apply State.storeWrite_step

theorem State.macVector_step {G : Nat} {s0 s : State} {x1} {x2} {x3} {x4} (h : Step G s0 s)
    (hG : sub 142744748032 G = true) : Step G s0 (State.macVector s x1 x2 x3 x4).1 := by
  unfold State.macVector
  try dsimp only
  repeat' first
    | with_reducible assumption
    | ((with_reducible refine sub_trans ?_ hG); exact rfl)
    | with_reducible apply State.putResult_step
    | with_reducible apply State.destLines_step
    | with_reducible refine Step.ite (fun _ => ?_) (fun _ => ?_)
    | with_reducible refine Step.fstIte (fun _ => ?_) (fun _ => ?_)
    | with_reducible apply foldl_step
    | with_reducible apply foldlFst_step
    | with_reducible intro _
    | with_reducible refine Step.ofFst (by assumption) ?_
    | with_reducible refine StepE.named (by assumption) ?_
    | with_reducible refine StepP.named (by assumption) ?_
    | split
    | dsimp only

theorem State.macAll_step {G : Nat} {s0 s : State} {x1} {x2} {x3} (h : Step G s0 s)
    (hG : sub 142744748032 G = true) : Step G s0 (State.macAll x1 x2 x3 s).1 := by
  induction x3 generalizing s  with
  | nil =>
    unfold State.macAll
    try dsimp only
    repeat' first
      | with_reducible assumption
  | cons y l ih =>
    unfold State.macAll
    try dsimp only
    repeat' first
      | with_reducible apply ih
      | with_reducible assumption
      | with_reducible apply State.macVector_step
      | with_reducible refine Step.ite (fun _ => ?_) (fun _ => ?_)
      | with_reducible refine Step.fstIte (fun _ => ?_) (fun _ => ?_)

theorem execInstructionRetire_step {G : Nat} {s0 s : State} {x1} (h : Step G s0 s)
    (hG : sub 142744748032 G = true) : StepO G s0 (execInstructionRetire x1 s) := by
  unfold execInstructionRetire
  try dsimp only
  repeat' first
    | with_reducible assumption
    | ((with_reducible refine sub_trans ?_ hG); exact rfl)
    | with_reducible apply State.macAll_step
    | with_reducible apply State.tileBump_step
    | with_reducible apply State.setTile_step
    | with_reducible apply State.fire_step
    | with_reducible apply whenDue_step
    | with_reducible refine Step.ite (fun _ => ?_) (fun _ => ?_)
    | with_reducible refine StepO.ite (fun _ => ?_) (fun _ => ?_)
    | with_reducible apply StepO.next
    | with_reducible apply foldl_step
    | with_reducible apply foldlFst_step
    | with_reducible intro _
    | with_reducible refine Step.ofFst (by assumption) ?_
    | with_reducible refine StepE.named (by assumption) ?_
    | with_reducible refine StepP.named (by assumption) ?_
    | split
    | dsimp only

theorem State.tileFails_step {G : Nat} {s0 s : State} {x1} {x2} (h : Step G s0 s)
    (hG : sub 5301600256 G = true) : Step G s0 (State.tileFails s x1 x2) := by
  unfold State.tileFails
  try dsimp only
  repeat' first
    | with_reducible assumption
    | ((with_reducible refine sub_trans ?_ hG); exact rfl)
    | with_reducible apply State.fire_step
    | with_reducible apply State.suspect_step

theorem execIssueHang_step {G : Nat} {s0 s : State} {x1} (h : Step G s0 s)
    (hG : sub 5301600256 G = true) : StepO G s0 (execIssueHang x1 s) := by
  unfold execIssueHang
  try dsimp only
  repeat' first
    | with_reducible assumption
    | with_reducible apply State.tileFails_step
    | with_reducible apply whenDue_step

theorem execTileHeartbeatTimeout_step {G : Nat} {s0 s : State} {x1} (h : Step G s0 s)
    (hG : sub 5301600256 G = true) : StepO G s0 (execTileHeartbeatTimeout x1 s) := by
  unfold execTileHeartbeatTimeout
  try dsimp only
  repeat' first
    | with_reducible assumption
    | with_reducible apply State.tileFails_step
    | with_reducible apply whenDue_step

theorem execEccWriteback_step {G : Nat} {s0 s : State} {x1} (h : Step G s0 s)
    (hG : sub 137438953472 G = true) : StepO G s0 (execEccWriteback x1 s) := by
  unfold execEccWriteback
  try dsimp only
  repeat' first
    | with_reducible assumption
    | with_reducible apply State.setTile_step
    | with_reducible apply whenDue_step
    | with_reducible refine Step.ite (fun _ => ?_) (fun _ => ?_)
    | with_reducible refine StepO.ite (fun _ => ?_) (fun _ => ?_)
    | with_reducible apply StepO.next
    | with_reducible apply foldl_step
    | with_reducible apply foldlFst_step
    | with_reducible intro _
    | with_reducible refine Step.ofFst (by assumption) ?_
    | with_reducible refine StepE.named (by assumption) ?_
    | with_reducible refine StepP.named (by assumption) ?_
    | split

theorem execTaskEnd_step {G : Nat} {s0 s : State} {x1} (h : Step G s0 s)
    (hG : sub 72075341855460480 G = true) : StepO G s0 (execTaskEnd x1 s) := by
  unfold execTaskEnd
  try dsimp only
  repeat' first
    | with_reducible assumption
    | ((with_reducible refine sub_trans ?_ hG); exact rfl)
    | with_reducible apply State.count_step
    | with_reducible apply State.partDone_step
    | with_reducible apply State.setTile_step
    | with_reducible apply whenDue_step
    | with_reducible refine Step.ite (fun _ => ?_) (fun _ => ?_)
    | with_reducible refine StepO.ite (fun _ => ?_) (fun _ => ?_)
    | with_reducible apply StepO.next
    | with_reducible apply foldl_step
    | with_reducible apply foldlFst_step
    | with_reducible intro _
    | with_reducible refine Step.ofFst (by assumption) ?_
    | with_reducible refine StepE.named (by assumption) ?_
    | with_reducible refine StepP.named (by assumption) ?_
    | split

theorem execRegionAdvance_step {G : Nat} {s0 s : State} {x1} {x2} {x3} {x4} (h : Step G s0 s)
    (hG : sub 138445586432 G = true) : StepO G s0 (execRegionAdvance x1 x2 x3 x4 s) := by
  unfold execRegionAdvance
  try dsimp only
  repeat' first
    | with_reducible assumption
    | with_reducible apply State.regionAdv_step
    | with_reducible apply whenDue_step

theorem execQstatClear_step {G : Nat} {s0 s : State} {x1} {x2} (h : Step G s0 s)
    (hG : sub 137438953472 G = true) : StepO G s0 (execQstatClear x1 x2 s) := by
  unfold execQstatClear
  try dsimp only
  repeat' first
    | with_reducible assumption
    | with_reducible apply State.setTile_step
    | with_reducible apply whenDue_step

theorem execTileCounterReadClear_step {G : Nat} {s0 s : State} {x1} {x2} (h : Step G s0 s)
    (hG : sub 137438953472 G = true) : StepO G s0 (execTileCounterReadClear x1 x2 s) := by
  unfold execTileCounterReadClear
  try dsimp only
  repeat' first
    | with_reducible assumption
    | with_reducible apply State.setTile_step
    | with_reducible apply whenDue_step

theorem fxTileQuery_step {G : Nat} {s0 s : State} {x1} (h : Step G s0 s)
    (hG : sub 4194304 G = true) : StepE G s0 (fxTileQuery x1 s) := by
  unfold fxTileQuery
  try dsimp only
  repeat' first
    | with_reducible assumption
    | with_reducible apply State.putCells_step
    | with_reducible refine Step.ite (fun _ => ?_) (fun _ => ?_)
    | with_reducible refine StepE.ite (fun _ => ?_) (fun _ => ?_)
    | with_reducible exact StepE.error
    | with_reducible apply StepE.ok
    | with_reducible apply foldl_step
    | with_reducible apply foldlFst_step
    | with_reducible intro _
    | with_reducible refine Step.ofFst (by assumption) ?_
    | with_reducible refine StepE.named (by assumption) ?_
    | with_reducible refine StepP.named (by assumption) ?_
    | split

theorem execTileQuery_step {G : Nat} {s0 s : State} {x1} {x2} (h : Step G s0 s)
    (hG : sub 4194304 G = true) : StepO G s0 (execTileQuery x1 x2 s) := by
  unfold execTileQuery
  try dsimp only
  repeat' first
    | with_reducible assumption
    | with_reducible apply State.odWrite_step
    | with_reducible apply fxTileQuery_step
    | with_reducible refine Step.ite (fun _ => ?_) (fun _ => ?_)
    | with_reducible refine StepO.ite (fun _ => ?_) (fun _ => ?_)
    | with_reducible apply StepO.next
    | with_reducible refine StepE.ite (fun _ => ?_) (fun _ => ?_)
    | with_reducible exact StepE.error
    | with_reducible apply StepE.ok
    | with_reducible apply foldl_step
    | with_reducible apply foldlFst_step
    | with_reducible intro _

theorem fxStoreQuery_step {G : Nat} {s0 s : State} {x1} (h : Step G s0 s)
    (hG : sub 4194304 G = true) : StepE G s0 (fxStoreQuery x1 s) := by
  unfold fxStoreQuery
  try dsimp only
  repeat' first
    | with_reducible assumption
    | with_reducible apply State.putCells_step
    | with_reducible refine Step.ite (fun _ => ?_) (fun _ => ?_)
    | with_reducible refine StepE.ite (fun _ => ?_) (fun _ => ?_)
    | with_reducible exact StepE.error
    | with_reducible apply StepE.ok
    | with_reducible apply foldl_step
    | with_reducible apply foldlFst_step
    | with_reducible intro _
    | with_reducible refine Step.ofFst (by assumption) ?_
    | with_reducible refine StepE.named (by assumption) ?_
    | with_reducible refine StepP.named (by assumption) ?_
    | split

theorem execStoreQuery_step {G : Nat} {s0 s : State} {x1} {x2} (h : Step G s0 s)
    (hG : sub 4194304 G = true) : StepO G s0 (execStoreQuery x1 x2 s) := by
  unfold execStoreQuery
  try dsimp only
  repeat' first
    | with_reducible assumption
    | with_reducible apply State.odWrite_step
    | with_reducible apply fxStoreQuery_step
    | with_reducible refine Step.ite (fun _ => ?_) (fun _ => ?_)
    | with_reducible refine StepO.ite (fun _ => ?_) (fun _ => ?_)
    | with_reducible apply StepO.next
    | with_reducible refine StepE.ite (fun _ => ?_) (fun _ => ?_)
    | with_reducible exact StepE.error
    | with_reducible apply StepE.ok
    | with_reducible apply foldl_step
    | with_reducible apply foldlFst_step
    | with_reducible intro _

/-! ### Remote -/

theorem State.acceptWork_step {G : Nat} {s0 s : State} {x1} {x2} {x3} {x4} {x5} {x6} (h : Step G s0 s) (he : ∀ l e u, Step G s0 u → Step G s0 (x6 l e u))
    (hG : sub 72075204416507008 G = true) : StepO G s0 (State.acceptWork s x1 x2 x3 x4 x5 x6) := by
  unfold State.acceptWork
  try dsimp only
  repeat' first
    | with_reducible assumption
    | with_reducible apply State.accept_step
    | with_reducible refine Step.ite (fun _ => ?_) (fun _ => ?_)
    | with_reducible refine StepO.ite (fun _ => ?_) (fun _ => ?_)
    | with_reducible apply StepO.next
    | with_reducible apply foldl_step
    | with_reducible apply foldlFst_step
    | with_reducible intro _
    | with_reducible refine Step.ofFst (by assumption) ?_
    | with_reducible refine StepE.named (by assumption) ?_
    | with_reducible refine StepP.named (by assumption) ?_
    | with_reducible apply he
    | split

theorem execRemoteConnect_step {G : Nat} {s0 s : State} {x1} {x2} (h : Step G s0 s)
    (hG : sub 72673338742017152 G = true) : StepO G s0 (execRemoteConnect x1 x2 s) := by
  unfold execRemoteConnect
  try dsimp only
  repeat' first
    | with_reducible assumption
    | ((with_reducible refine sub_trans ?_ hG); exact rfl)
    | with_reducible apply State.sendCredit_step
    | with_reducible apply State.accept_step
    | with_reducible apply State.entryDone_step
    | ((with_reducible refine Step.put (F := 72673338742017152) ?_ hG ?_ ?_); rotate_left; (fail_if_success (with_reducible exact Same.refl _ _)); exact rfl; (first | with_reducible exact State.Inv.congr rfl rfl rfl rfl rfl rfl rfl id id id))
    | with_reducible refine Step.ite (fun _ => ?_) (fun _ => ?_)
    | with_reducible refine StepO.ite (fun _ => ?_) (fun _ => ?_)
    | with_reducible apply StepO.next
    | with_reducible apply foldl_step
    | with_reducible apply foldlFst_step
    | with_reducible intro _
    | with_reducible refine Step.ofFst (by assumption) ?_
    | with_reducible refine StepE.named (by assumption) ?_
    | with_reducible refine StepP.named (by assumption) ?_
    | split
    | dsimp only

theorem execRemoteDisconnect_step {G : Nat} {s0 s : State} {x1} {x2} (h : Step G s0 s)
    (hG : sub 72462232509500544 G = true) : StepO G s0 (execRemoteDisconnect x1 x2 s) := by
  unfold execRemoteDisconnect
  try dsimp only
  repeat' first
    | with_reducible assumption
    | ((with_reducible refine sub_trans ?_ hG); exact rfl)
    | with_reducible apply State.disconnect_step
    | with_reducible apply State.entryDone_step
    | with_reducible apply State.accept_step
    | with_reducible refine Step.ite (fun _ => ?_) (fun _ => ?_)
    | with_reducible refine StepO.ite (fun _ => ?_) (fun _ => ?_)
    | with_reducible apply StepO.next
    | with_reducible apply foldl_step
    | with_reducible apply foldlFst_step
    | with_reducible intro _

theorem State.post_step {G : Nat} {s0 s : State} {x1} (h : Step G s0 s)
    (hG : sub 72321495021145216 G = true) : Step G s0 (State.post s x1) := by
  unfold State.post
  try dsimp only
  repeat' first
    | with_reducible assumption
    | ((with_reducible refine sub_trans ?_ hG); exact rfl)
    | with_reducible apply State.connMap_step
    | with_reducible apply State.wrFire_step
    | ((with_reducible refine Step.put (F := 72321495021145216) ?_ hG ?_ ?_); rotate_left; (fail_if_success (with_reducible exact Same.refl _ _)); exact rfl; (first | with_reducible exact State.Inv.congr rfl rfl rfl rfl rfl rfl rfl id id id))
    | with_reducible refine Step.ite (fun _ => ?_) (fun _ => ?_)
    | with_reducible apply foldl_step
    | with_reducible apply foldlFst_step
    | with_reducible intro _
    | with_reducible refine Step.ofFst (by assumption) ?_
    | with_reducible refine StepE.named (by assumption) ?_
    | with_reducible refine StepP.named (by assumption) ?_
    | split

theorem State.postOr_step {G : Nat} {s0 s : State} {x1} (h : Step G s0 s)
    (hG : sub 72321495021145216 G = true) : Step G s0 (State.postOr s x1) := by
  unfold State.postOr
  try dsimp only
  repeat' first
    | with_reducible assumption
    | ((with_reducible refine sub_trans ?_ hG); exact rfl)
    | with_reducible apply State.entryLost_step
    | with_reducible apply State.post_step
    | with_reducible refine Step.ite (fun _ => ?_) (fun _ => ?_)

theorem execRemoteSend_step {G : Nat} {s0 s : State} {x1} {x2} (h : Step G s0 s)
    (hG : sub 72321495021145216 G = true) : StepO G s0 (execRemoteSend x1 x2 s) := by
  unfold execRemoteSend
  try dsimp only
  repeat' first
    | with_reducible assumption
    | ((with_reducible refine sub_trans ?_ hG); exact rfl)
    | with_reducible apply State.postOr_step
    | with_reducible apply State.acceptWork_step
    | with_reducible refine Step.ite (fun _ => ?_) (fun _ => ?_)
    | with_reducible refine StepO.ite (fun _ => ?_) (fun _ => ?_)
    | with_reducible apply StepO.next
    | with_reducible apply foldl_step
    | with_reducible apply foldlFst_step
    | with_reducible intro _

theorem execRemoteRecv_step {G : Nat} {s0 s : State} {x1} {x2} (h : Step G s0 s)
    (hG : sub 72110388788595840 G = true) : StepO G s0 (execRemoteRecv x1 x2 s) := by
  unfold execRemoteRecv
  try dsimp only
  repeat' first
    | with_reducible assumption
    | ((with_reducible refine sub_trans ?_ hG); exact rfl)
    | with_reducible apply State.connMap_step
    | with_reducible apply State.acceptWork_step
    | with_reducible refine Step.ite (fun _ => ?_) (fun _ => ?_)
    | with_reducible refine StepO.ite (fun _ => ?_) (fun _ => ?_)
    | with_reducible apply StepO.next
    | with_reducible apply foldl_step
    | with_reducible apply foldlFst_step
    | with_reducible intro _

theorem execRemoteWrite_step {G : Nat} {s0 s : State} {x1} {x2} (h : Step G s0 s)
    (hG : sub 72321495021145216 G = true) : StepO G s0 (execRemoteWrite x1 x2 s) := by
  unfold execRemoteWrite
  try dsimp only
  repeat' first
    | with_reducible assumption
    | ((with_reducible refine sub_trans ?_ hG); exact rfl)
    | with_reducible apply State.postOr_step
    | with_reducible apply State.acceptWork_step
    | with_reducible refine Step.ite (fun _ => ?_) (fun _ => ?_)
    | with_reducible refine StepO.ite (fun _ => ?_) (fun _ => ?_)
    | with_reducible apply StepO.next
    | with_reducible apply foldl_step
    | with_reducible apply foldlFst_step
    | with_reducible intro _

theorem execRemoteRead_step {G : Nat} {s0 s : State} {x1} {x2} (h : Step G s0 s)
    (hG : sub 72321495021145216 G = true) : StepO G s0 (execRemoteRead x1 x2 s) := by
  unfold execRemoteRead
  try dsimp only
  repeat' first
    | with_reducible assumption
    | ((with_reducible refine sub_trans ?_ hG); exact rfl)
    | with_reducible apply State.postOr_step
    | with_reducible apply State.acceptWork_step
    | with_reducible refine Step.ite (fun _ => ?_) (fun _ => ?_)
    | with_reducible refine StepO.ite (fun _ => ?_) (fun _ => ?_)
    | with_reducible apply StepO.next
    | with_reducible apply foldl_step
    | with_reducible apply foldlFst_step
    | with_reducible intro _

theorem execRemoteFadd_step {G : Nat} {s0 s : State} {x1} {x2} (h : Step G s0 s)
    (hG : sub 72321495021145216 G = true) : StepO G s0 (execRemoteFadd x1 x2 s) := by
  unfold execRemoteFadd
  try dsimp only
  repeat' first
    | with_reducible assumption
    | ((with_reducible refine sub_trans ?_ hG); exact rfl)
    | with_reducible apply State.postOr_step
    | with_reducible apply State.acceptWork_step
    | with_reducible refine Step.ite (fun _ => ?_) (fun _ => ?_)
    | with_reducible refine StepO.ite (fun _ => ?_) (fun _ => ?_)
    | with_reducible apply StepO.next
    | with_reducible apply foldl_step
    | with_reducible apply foldlFst_step
    | with_reducible intro _

theorem execRemoteCas_step {G : Nat} {s0 s : State} {x1} {x2} (h : Step G s0 s)
    (hG : sub 72321495021145216 G = true) : StepO G s0 (execRemoteCas x1 x2 s) := by
  unfold execRemoteCas
  try dsimp only
  repeat' first
    | with_reducible assumption
    | ((with_reducible refine sub_trans ?_ hG); exact rfl)
    | with_reducible apply State.postOr_step
    | with_reducible apply State.acceptWork_step
    | with_reducible refine Step.ite (fun _ => ?_) (fun _ => ?_)
    | with_reducible refine StepO.ite (fun _ => ?_) (fun _ => ?_)
    | with_reducible apply StepO.next
    | with_reducible apply foldl_step
    | with_reducible apply foldlFst_step
    | with_reducible intro _

theorem execCtrset_step {G : Nat} {s0 s : State} {x1} {x2} (h : Step G s0 s)
    (hG : sub 72462232509500544 G = true) : StepO G s0 (execCtrset x1 x2 s) := by
  unfold execCtrset
  try dsimp only
  repeat' first
    | with_reducible assumption
    | ((with_reducible refine sub_trans ?_ hG); exact rfl)
    | with_reducible apply State.accept_step
    | with_reducible apply State.triggers_step
    | with_reducible apply State.entryDone_step
    | ((with_reducible refine Step.put (F := 72462232509500544) ?_ hG ?_ ?_); rotate_left; (fail_if_success (with_reducible exact Same.refl _ _)); exact rfl; (first | with_reducible exact State.Inv.congr rfl rfl rfl rfl rfl rfl rfl id id id))
    | with_reducible refine Step.ite (fun _ => ?_) (fun _ => ?_)
    | with_reducible refine StepO.ite (fun _ => ?_) (fun _ => ?_)
    | with_reducible apply StepO.next
    | with_reducible apply foldl_step
    | with_reducible apply foldlFst_step
    | with_reducible intro _
    | with_reducible refine Step.ofFst (by assumption) ?_
    | with_reducible refine StepE.named (by assumption) ?_
    | with_reducible refine StepP.named (by assumption) ?_
    | split
    | dsimp only

theorem execCtrfree_step {G : Nat} {s0 s : State} {x1} {x2} (h : Step G s0 s)
    (hG : sub 72462232509500544 G = true) : StepO G s0 (execCtrfree x1 x2 s) := by
  unfold execCtrfree
  try dsimp only
  repeat' first
    | with_reducible assumption
    | ((with_reducible refine sub_trans ?_ hG); exact rfl)
    | with_reducible apply State.entryDone_step
    | with_reducible apply State.ctrFree_step
    | with_reducible apply State.accept_step
    | with_reducible refine Step.ite (fun _ => ?_) (fun _ => ?_)
    | with_reducible refine StepO.ite (fun _ => ?_) (fun _ => ?_)
    | with_reducible apply StepO.next
    | with_reducible apply foldl_step
    | with_reducible apply foldlFst_step
    | with_reducible intro _

theorem execTready_step {G : Nat} {s0 s : State} {x1} {x2} (h : Step G s0 s)
    (hG : sub 72321495021145216 G = true) : StepO G s0 (execTready x1 x2 s) := by
  unfold execTready
  try dsimp only
  repeat' first
    | with_reducible assumption
    | ((with_reducible refine sub_trans ?_ hG); exact rfl)
    | with_reducible apply State.acceptWork_step
    | with_reducible apply State.post_step
    | with_reducible refine Step.ite (fun _ => ?_) (fun _ => ?_)
    | with_reducible refine StepO.ite (fun _ => ?_) (fun _ => ?_)
    | with_reducible apply StepO.next
    | with_reducible apply foldl_step
    | with_reducible apply foldlFst_step
    | with_reducible intro _

theorem fxConnectionQuery_step {G : Nat} {s0 s : State} {x1} (h : Step G s0 s)
    (hG : sub 4194304 G = true) : StepE G s0 (fxConnectionQuery x1 s) := by
  unfold fxConnectionQuery
  try dsimp only
  repeat' first
    | with_reducible assumption
    | with_reducible apply State.putCells_step
    | with_reducible refine Step.ite (fun _ => ?_) (fun _ => ?_)
    | with_reducible refine StepE.ite (fun _ => ?_) (fun _ => ?_)
    | with_reducible exact StepE.error
    | with_reducible apply StepE.ok
    | with_reducible apply foldl_step
    | with_reducible apply foldlFst_step
    | with_reducible intro _
    | with_reducible refine Step.ofFst (by assumption) ?_
    | with_reducible refine StepE.named (by assumption) ?_
    | with_reducible refine StepP.named (by assumption) ?_
    | split

theorem execConnectionQuery_step {G : Nat} {s0 s : State} {x1} {x2} (h : Step G s0 s)
    (hG : sub 4194304 G = true) : StepO G s0 (execConnectionQuery x1 x2 s) := by
  unfold execConnectionQuery
  try dsimp only
  repeat' first
    | with_reducible assumption
    | with_reducible apply State.odWrite_step
    | with_reducible apply fxConnectionQuery_step
    | with_reducible refine Step.ite (fun _ => ?_) (fun _ => ?_)
    | with_reducible refine StepO.ite (fun _ => ?_) (fun _ => ?_)
    | with_reducible apply StepO.next
    | with_reducible refine StepE.ite (fun _ => ?_) (fun _ => ?_)
    | with_reducible exact StepE.error
    | with_reducible apply StepE.ok
    | with_reducible apply foldl_step
    | with_reducible apply foldlFst_step
    | with_reducible intro _

theorem fxCounterQuery_step {G : Nat} {s0 s : State} {x1} (h : Step G s0 s)
    (hG : sub 4194304 G = true) : StepE G s0 (fxCounterQuery x1 s) := by
  unfold fxCounterQuery
  try dsimp only
  repeat' first
    | with_reducible assumption
    | with_reducible apply State.putCells_step
    | with_reducible refine Step.ite (fun _ => ?_) (fun _ => ?_)
    | with_reducible refine StepE.ite (fun _ => ?_) (fun _ => ?_)
    | with_reducible exact StepE.error
    | with_reducible apply StepE.ok

theorem execCounterQuery_step {G : Nat} {s0 s : State} {x1} {x2} (h : Step G s0 s)
    (hG : sub 4194304 G = true) : StepO G s0 (execCounterQuery x1 x2 s) := by
  unfold execCounterQuery
  try dsimp only
  repeat' first
    | with_reducible assumption
    | with_reducible apply State.odWrite_step
    | with_reducible apply fxCounterQuery_step
    | with_reducible refine Step.ite (fun _ => ?_) (fun _ => ?_)
    | with_reducible refine StepO.ite (fun _ => ?_) (fun _ => ?_)
    | with_reducible apply StepO.next
    | with_reducible refine StepE.ite (fun _ => ?_) (fun _ => ?_)
    | with_reducible exact StepE.error
    | with_reducible apply StepE.ok
    | with_reducible apply foldl_step
    | with_reducible apply foldlFst_step
    | with_reducible intro _

/-! ### Streaming -/

theorem execPlanload_step {G : Nat} {s0 s : State} {x1} {x2} (h : Step G s0 s)
    (hG : sub 72079606757985408 G = true) : StepO G s0 (execPlanload x1 x2 s) := by
  unfold execPlanload
  try dsimp only
  repeat' first
    | with_reducible assumption
    | ((with_reducible refine sub_trans ?_ hG); exact rfl)
    | with_reducible apply State.planEntryDone_step
    | with_reducible apply State.faultEnd_step
    | with_reducible apply State.entryAccept_step
    | with_reducible apply State.entryRefuse_step
    | with_reducible apply State.suspect_step
    | with_reducible apply State.tierRead_step
    | with_reducible apply each_step
    | ((with_reducible refine Step.put (F := 72079606757985408) ?_ hG ?_ ?_); rotate_left; (fail_if_success (with_reducible exact Same.refl _ _)); exact rfl; (first | with_reducible exact State.Inv.congr rfl rfl rfl rfl rfl rfl rfl id id id))
    | with_reducible refine Step.ite (fun _ => ?_) (fun _ => ?_)
    | with_reducible refine StepO.ite (fun _ => ?_) (fun _ => ?_)
    | with_reducible apply StepO.next
    | with_reducible apply foldl_step
    | with_reducible apply foldlFst_step
    | with_reducible intro _
    | with_reducible refine Step.ofFst (by assumption) ?_
    | with_reducible refine StepE.named (by assumption) ?_
    | with_reducible refine StepP.named (by assumption) ?_
    | split
    | dsimp only

theorem State.planStart_step {G : Nat} {s0 s : State} {x1} {x2} {x3} (h : Step G s0 s)
    (hG : sub 72088398556040320 G = true) : Step G s0 (State.planStart s x1 x2 x3) := by
  unfold State.planStart
  try dsimp only
  repeat' first
    | with_reducible assumption
    | ((with_reducible refine sub_trans ?_ hG); exact rfl)
    | with_reducible apply State.planCheck_step
    | with_reducible apply State.stagePleat_step
    | with_reducible apply each_step
    | ((with_reducible refine Step.put (F := 72088398556040320) ?_ hG ?_ ?_); rotate_left; (fail_if_success (with_reducible exact Same.refl _ _)); exact rfl; (first | with_reducible exact State.Inv.congr rfl rfl rfl rfl rfl rfl rfl id id id))
    | with_reducible refine Step.ite (fun _ => ?_) (fun _ => ?_)
    | with_reducible apply foldl_step
    | with_reducible apply foldlFst_step
    | with_reducible intro _

theorem execActivate_step {G : Nat} {s0 s : State} {x1} {x2} (h : Step G s0 s)
    (hG : sub 72089085751020680 G = true) : StepO G s0 (execActivate x1 x2 s) := by
  unfold execActivate
  try dsimp only
  repeat' first
    | with_reducible assumption
    | ((with_reducible refine sub_trans ?_ hG); exact rfl)
    | with_reducible apply State.planStart_step
    | with_reducible apply State.accept_step
    | with_reducible apply State.rebudget_step
    | with_reducible refine Step.ite (fun _ => ?_) (fun _ => ?_)
    | with_reducible refine StepO.ite (fun _ => ?_) (fun _ => ?_)
    | with_reducible apply StepO.next
    | with_reducible apply foldl_step
    | with_reducible apply foldlFst_step
    | with_reducible intro _
    | with_reducible refine Step.ofFst (by assumption) ?_
    | with_reducible refine StepE.named (by assumption) ?_
    | with_reducible refine StepP.named (by assumption) ?_
    | split
    | dsimp only

theorem State.deactivated_step {G : Nat} {s0 s : State} {x1} (h : Step G s0 s)
    (hG : sub 72080289657998472 G = true) : Step G s0 (State.deactivated s x1) := by
  unfold State.deactivated
  try dsimp only
  repeat' first
    | with_reducible assumption
    | ((with_reducible refine sub_trans ?_ hG); exact rfl)
    | with_reducible apply State.planMap_step
    | with_reducible apply State.planEntryDone_step
    | with_reducible apply State.rebudget_step
    | with_reducible refine Step.ite (fun _ => ?_) (fun _ => ?_)
    | with_reducible apply foldl_step
    | with_reducible apply foldlFst_step
    | with_reducible intro _
    | with_reducible refine Step.ofFst (by assumption) ?_
    | with_reducible refine StepE.named (by assumption) ?_
    | with_reducible refine StepP.named (by assumption) ?_
    | split

theorem execDeactivate_step {G : Nat} {s0 s : State} {x1} {x2} (h : Step G s0 s)
    (hG : sub 72080289657998472 G = true) : StepO G s0 (execDeactivate x1 x2 s) := by
  unfold execDeactivate
  try dsimp only
  repeat' first
    | with_reducible assumption
    | ((with_reducible refine sub_trans ?_ hG); exact rfl)
    | with_reducible apply State.planMap_step
    | with_reducible apply State.deactivated_step
    | with_reducible apply State.accept_step
    | with_reducible refine Step.ite (fun _ => ?_) (fun _ => ?_)
    | with_reducible refine StepO.ite (fun _ => ?_) (fun _ => ?_)
    | with_reducible apply StepO.next
    | with_reducible apply foldl_step
    | with_reducible apply foldlFst_step
    | with_reducible intro _

theorem execUnload_step {G : Nat} {s0 s : State} {x1} {x2} (h : Step G s0 s)
    (hG : sub 72079602463018112 G = true) : StepO G s0 (execUnload x1 x2 s) := by
  unfold execUnload
  try dsimp only
  repeat' first
    | with_reducible assumption
    | ((with_reducible refine sub_trans ?_ hG); exact rfl)
    | with_reducible apply State.entryDone_step
    | with_reducible apply State.accept_step
    | with_reducible apply State.planFree_step
    | with_reducible refine Step.ite (fun _ => ?_) (fun _ => ?_)
    | with_reducible refine StepO.ite (fun _ => ?_) (fun _ => ?_)
    | with_reducible apply StepO.next
    | with_reducible apply foldl_step
    | with_reducible apply foldlFst_step
    | with_reducible intro _

theorem execRestage_step {G : Nat} {s0 s : State} {x1} {x2} (h : Step G s0 s)
    (hG : sub 72088398556040320 G = true) : StepO G s0 (execRestage x1 x2 s) := by
  unfold execRestage
  try dsimp only
  repeat' first
    | with_reducible assumption
    | ((with_reducible refine sub_trans ?_ hG); exact rfl)
    | with_reducible apply State.planCheck_step
    | with_reducible apply State.accept_step
    | with_reducible apply State.planMap_step
    | with_reducible apply State.bump64_step
    | with_reducible apply State.stagePleat_step
    | with_reducible apply each_step
    | with_reducible refine Step.ite (fun _ => ?_) (fun _ => ?_)
    | with_reducible refine StepO.ite (fun _ => ?_) (fun _ => ?_)
    | with_reducible apply StepO.next
    | with_reducible apply foldl_step
    | with_reducible apply foldlFst_step
    | with_reducible intro _
    | with_reducible refine Step.ofFst (by assumption) ?_
    | with_reducible refine StepE.named (by assumption) ?_
    | with_reducible refine StepP.named (by assumption) ?_
    | split

theorem execPleatStaged_step {G : Nat} {s0 s : State} {x1} {x2} (h : Step G s0 s)
    (hG : sub 216204273826679944 G = true) : StepO G s0 (execPleatStaged x1 x2 s) := by
  unfold execPleatStaged
  try dsimp only
  repeat' first
    | with_reducible assumption
    | ((with_reducible refine sub_trans ?_ hG); exact rfl)
    | with_reducible apply State.planMap_step
    | with_reducible apply State.planCheck_step
    | with_reducible apply State.fire_step
    | with_reducible apply State.segCount_step
    | with_reducible apply State.pleatFail_step
    | with_reducible apply whenDue_step
    | with_reducible refine Step.ite (fun _ => ?_) (fun _ => ?_)
    | with_reducible refine StepO.ite (fun _ => ?_) (fun _ => ?_)
    | with_reducible apply StepO.next
    | with_reducible apply foldl_step
    | with_reducible apply foldlFst_step
    | with_reducible intro _
    | with_reducible refine Step.ofFst (by assumption) ?_
    | with_reducible refine StepE.named (by assumption) ?_
    | with_reducible refine StepP.named (by assumption) ?_
    | split

theorem execFlashStageLine_step {G : Nat} {s0 s : State} {x1} {x2} (h : Step G s0 s)
    (hG : sub 216204273826679944 G = true) : StepO G s0 (execFlashStageLine x1 x2 s) := by
  unfold execFlashStageLine
  try dsimp only
  repeat' first
    | with_reducible assumption
    | ((with_reducible refine sub_trans ?_ hG); exact rfl)
    | with_reducible apply State.pleatFail_step
    | with_reducible apply State.planMap_step
    | with_reducible apply State.stagePleat_step
    | with_reducible apply whenDue_step
    | with_reducible apply each_step
    | with_reducible refine Step.ite (fun _ => ?_) (fun _ => ?_)
    | with_reducible refine StepO.ite (fun _ => ?_) (fun _ => ?_)
    | with_reducible apply StepO.next
    | with_reducible apply foldl_step
    | with_reducible apply foldlFst_step
    | with_reducible intro _
    | with_reducible refine Step.ofFst (by assumption) ?_
    | with_reducible refine StepE.named (by assumption) ?_
    | with_reducible refine StepP.named (by assumption) ?_
    | split

theorem State.batchTile_step {G : Nat} {s0 s : State} {x1} {x2} {x3} {x4} {x5} {x6} (h : Step G s0 s)
    (hG : sub 142744748032 G = true) : Step G s0 (State.batchTile s x1 x2 x3 x4 x5 x6).1 := by
  unfold State.batchTile
  try dsimp only
  repeat' first
    | with_reducible assumption
    | ((with_reducible refine sub_trans ?_ hG); exact rfl)
    | with_reducible apply State.storeWrite_step
    | with_reducible apply State.discard_step
    | with_reducible apply State.landReject_step
    | with_reducible refine Step.ite (fun _ => ?_) (fun _ => ?_)
    | with_reducible refine Step.fstIte (fun _ => ?_) (fun _ => ?_)
    | with_reducible apply foldlFst_step
    | with_reducible apply foldl_step
    | with_reducible apply foldlFst_step
    | with_reducible intro _
    | with_reducible refine Step.ofFst (by assumption) ?_
    | with_reducible refine StepE.named (by assumption) ?_
    | with_reducible refine StepP.named (by assumption) ?_
    | split

theorem State.batch_step {G : Nat} {s0 s : State} {x1} {x2} {x3} {x4} (h : Step G s0 s)
    (hG : sub 72080293952769160 G = true) : Step G s0 (State.batch s x1 x2 x3 x4) := by
  unfold State.batch
  try dsimp only
  repeat' first
    | with_reducible assumption
    | ((with_reducible refine sub_trans ?_ hG); exact rfl)
    | with_reducible apply State.batchTile_step
    | with_reducible apply State.frameDone_step
    | with_reducible apply each_step
    | with_reducible refine Step.ite (fun _ => ?_) (fun _ => ?_)
    | with_reducible apply foldl_step
    | with_reducible apply foldlFst_step
    | with_reducible intro _
    | with_reducible refine Step.ofFst (by assumption) ?_
    | with_reducible refine StepE.named (by assumption) ?_
    | with_reducible refine StepP.named (by assumption) ?_
    | split

theorem execPassStart_step {G : Nat} {s0 s : State} {x1} (h : Step G s0 s)
    (hG : sub 72080293952769160 G = true) : StepO G s0 (execPassStart x1 s) := by
  unfold execPassStart
  try dsimp only
  repeat' first
    | with_reducible assumption
    | ((with_reducible refine sub_trans ?_ hG); exact rfl)
    | with_reducible apply State.batch_step
    | with_reducible apply State.lanesEnd_step
    | with_reducible apply State.setLanding_step
    | with_reducible apply State.planMap_step
    | with_reducible apply State.bump64_step
    | with_reducible apply each_step
    | with_reducible apply whenDue_step
    | ((with_reducible refine Step.put (F := 72080293952769160) ?_ hG ?_ ?_); rotate_left; (fail_if_success (with_reducible exact Same.refl _ _)); exact rfl; (first | with_reducible exact State.Inv.congr rfl rfl rfl rfl rfl rfl rfl id id id | exact State.Inv.congr rfl rfl rfl rfl rfl rfl rfl (fun h => Tab.rises_set h _ _) id id | exact State.Inv.congr rfl rfl rfl rfl rfl rfl rfl (fun h => Tab.rises_erase h _) id id | exact State.Inv.congr rfl rfl rfl rfl rfl rfl rfl (fun h => Tab.rises_mapVals h _) id id | exact State.Inv.congr rfl rfl rfl rfl rfl rfl rfl (fun h => Tab.rises_keep h _) id id | exact State.Inv.congr rfl rfl rfl rfl rfl rfl rfl (fun _ => Tab.rises_empty) id id | exact State.Inv.congr rfl rfl rfl rfl rfl rfl rfl id (fun h => Tab.rises_set h _ _) id | exact State.Inv.congr rfl rfl rfl rfl rfl rfl rfl id (fun h => Tab.rises_erase h _) id | exact State.Inv.congr rfl rfl rfl rfl rfl rfl rfl id (fun h => Tab.rises_mapVals h _) id | exact State.Inv.congr rfl rfl rfl rfl rfl rfl rfl id (fun h => Tab.rises_keep h _) id | exact State.Inv.congr rfl rfl rfl rfl rfl rfl rfl id (fun _ => Tab.rises_empty) id | exact State.Inv.congr rfl rfl rfl rfl rfl rfl rfl (fun _ => Tab.rises_empty) (fun _ => Tab.rises_empty) id))
    | with_reducible refine Step.ite (fun _ => ?_) (fun _ => ?_)
    | with_reducible refine StepO.ite (fun _ => ?_) (fun _ => ?_)
    | with_reducible apply StepO.next
    | with_reducible apply foldl_step
    | with_reducible apply foldlFst_step
    | with_reducible intro _
    | with_reducible refine Step.ofFst (by assumption) ?_
    | with_reducible refine StepE.named (by assumption) ?_
    | with_reducible refine StepP.named (by assumption) ?_
    | split
    | dsimp only

theorem execStepFetchLine_step {G : Nat} {s0 s : State} {x1} {x2} {x3} (h : Step G s0 s)
    (hG : sub 216186113696464896 G = true) : StepO G s0 (execStepFetchLine x1 x2 x3 s) := by
  unfold execStepFetchLine
  try dsimp only
  repeat' first
    | with_reducible assumption
    | ((with_reducible refine sub_trans ?_ hG); exact rfl)
    | with_reducible apply State.restagePleat_step
    | with_reducible apply State.voids_step
    | with_reducible apply State.planMap_step
    | with_reducible apply State.setTile_step
    | with_reducible apply each_step
    | with_reducible apply whenDue_step
    | with_reducible refine Step.ite (fun _ => ?_) (fun _ => ?_)
    | with_reducible refine StepO.ite (fun _ => ?_) (fun _ => ?_)
    | with_reducible apply StepO.next
    | with_reducible apply foldl_step
    | with_reducible apply foldlFst_step
    | with_reducible intro _
    | with_reducible refine Step.ofFst (by assumption) ?_
    | with_reducible refine StepE.named (by assumption) ?_
    | with_reducible refine StepP.named (by assumption) ?_
    | split
    | dsimp only

theorem State.landBlock_step {G : Nat} {s0 s : State} {k : Nat} {x : Pleat} {bs : List Byte} {n : Nat} {c : State} (h : Step G s0 s)
    (hG : sub 216204278121647240 G = true) (e : s.landBlock k x bs n = .done c ∨ s.landBlock k x bs n = .rejected c) : Step G s0 c := by
  have g : ∀ M, sub M 216204278121647240 = true → sub M G = true := fun _ hM => sub_trans hM hG
  have r := State.landReject_step (x1 := k) h (g _ rfl)
  unfold State.landBlock at e
  dsimp only at e
  rcases e with e | e
  · split at e
    · cases e
    · split at e
      · cases e
      · split at e
        · cases e
        · cases e
          refine State.tailOn_step (foldl_step h fun u l hu => ?_) (g _ rfl)
          split
          · exact State.storeWrite_step hu (g _ rfl)
          · exact hu
  · split at e
    · cases e; exact r
    · split at e
      · cases e
      · split at e
        · cases e; exact r
        · cases e

theorem State.blockOn_step {G : Nat} {s0 s : State} {x1} {x2} {x3} {x4} {x5} (h : Step G s0 s)
    (hG : sub 144119723561320448 G = true) : Step G s0 (State.blockOn s x1 x2 x3 x4 x5) := by
  unfold State.blockOn
  try dsimp only
  repeat' first
    | with_reducible assumption
    | ((with_reducible refine sub_trans ?_ hG); exact rfl)
    | with_reducible apply State.setLanding_step
    | with_reducible apply State.planMap_step
    | with_reducible apply State.tagFinal_step
    | with_reducible apply State.voids_step
    | with_reducible refine Step.ite (fun _ => ?_) (fun _ => ?_)

theorem State.passGone_step {G : Nat} {s0 s : State} {x1} {x2} (h : Step G s0 s)
    (hG : sub 4398046511104 G = true) : Step G s0 (State.passGone s x1 x2) := by
  unfold State.passGone
  try dsimp only
  repeat' first
    | with_reducible assumption
    | with_reducible apply State.planMap_step

theorem execBlockLanded_step {G : Nat} {s0 s : State} {x1} {x2} {x3} {x4} (h : Step G s0 s)
    (hG : sub 216204278121647240 G = true) : StepO G s0 (execBlockLanded x1 x2 x3 x4 s) := by
  unfold execBlockLanded
  try dsimp only
  repeat' first
    | with_reducible assumption
    | ((with_reducible refine sub_trans ?_ hG); exact rfl)
    | with_reducible apply State.passGone_step
    | with_reducible apply State.blockOn_step
    | with_reducible refine State.landBlock_step ?_ (sub_trans rfl hG) (Or.inl (by assumption))
    | with_reducible refine State.landBlock_step ?_ (sub_trans rfl hG) (Or.inr (by assumption))
    | with_reducible apply State.pleatFail_step
    | with_reducible apply State.voids_step
    | with_reducible apply State.setLanding_step
    | with_reducible apply State.discard_step
    | with_reducible apply State.tierStrike_step
    | with_reducible apply State.tierRead_step
    | with_reducible apply State.segCount_step
    | with_reducible apply whenDue_step
    | with_reducible refine Step.ite (fun _ => ?_) (fun _ => ?_)
    | with_reducible refine StepO.ite (fun _ => ?_) (fun _ => ?_)
    | with_reducible apply StepO.next
    | with_reducible apply foldl_step
    | with_reducible apply foldlFst_step
    | with_reducible intro _
    | with_reducible refine Step.ofFst (by assumption) ?_
    | with_reducible refine StepE.named (by assumption) ?_
    | with_reducible refine StepP.named (by assumption) ?_
    | split
    | dsimp only

theorem execLandingLine_step {G : Nat} {s0 s : State} {x1} {x2} {x3} (h : Step G s0 s)
    (hG : sub 216195482028625032 G = true) : StepO G s0 (execLandingLine x1 x2 x3 s) := by
  unfold execLandingLine
  try dsimp only
  repeat' first
    | with_reducible assumption
    | ((with_reducible refine sub_trans ?_ hG); exact rfl)
    | with_reducible apply State.batch_step
    | with_reducible apply State.tagFinal_step
    | with_reducible apply State.voids_step
    | with_reducible apply State.planMap_step
    | with_reducible apply State.frameDone_step
    | with_reducible apply State.fire_step
    | with_reducible apply State.bump64_step
    | with_reducible apply each_step
    | with_reducible apply whenDue_step
    | with_reducible refine Step.ite (fun _ => ?_) (fun _ => ?_)
    | with_reducible refine StepO.ite (fun _ => ?_) (fun _ => ?_)
    | with_reducible apply StepO.next
    | with_reducible apply foldl_step
    | with_reducible apply foldlFst_step
    | with_reducible intro _
    | with_reducible refine Step.ofFst (by assumption) ?_
    | with_reducible refine StepE.named (by assumption) ?_
    | with_reducible refine StepP.named (by assumption) ?_
    | split
    | dsimp only

theorem execPassEnd_step {G : Nat} {s0 s : State} {x1} {x2} (h : Step G s0 s)
    (hG : sub 72080289657998472 G = true) : StepO G s0 (execPassEnd x1 x2 s) := by
  unfold execPassEnd
  try dsimp only
  repeat' first
    | with_reducible assumption
    | ((with_reducible refine sub_trans ?_ hG); exact rfl)
    | with_reducible apply State.passGone_step
    | with_reducible apply State.deactivated_step
    | with_reducible apply State.planMap_step
    | with_reducible apply State.frameDone_step
    | with_reducible apply State.faultEnd_step
    | with_reducible apply State.bump64_step
    | with_reducible apply each_step
    | with_reducible apply whenDue_step
    | with_reducible refine Step.ite (fun _ => ?_) (fun _ => ?_)
    | with_reducible refine StepO.ite (fun _ => ?_) (fun _ => ?_)
    | with_reducible apply StepO.next
    | with_reducible apply foldl_step
    | with_reducible apply foldlFst_step
    | with_reducible intro _
    | with_reducible refine Step.ofFst (by assumption) ?_
    | with_reducible refine StepE.named (by assumption) ?_
    | with_reducible refine StepP.named (by assumption) ?_
    | split
    | dsimp only

theorem fxPlanQuery_step {G : Nat} {s0 s : State} {x1} (h : Step G s0 s)
    (hG : sub 4194304 G = true) : StepE G s0 (fxPlanQuery x1 s) := by
  unfold fxPlanQuery
  try dsimp only
  repeat' first
    | with_reducible assumption
    | with_reducible apply State.putCells_step
    | with_reducible refine Step.ite (fun _ => ?_) (fun _ => ?_)
    | with_reducible refine StepE.ite (fun _ => ?_) (fun _ => ?_)
    | with_reducible exact StepE.error
    | with_reducible apply StepE.ok
    | with_reducible apply foldl_step
    | with_reducible apply foldlFst_step
    | with_reducible intro _
    | with_reducible refine Step.ofFst (by assumption) ?_
    | with_reducible refine StepE.named (by assumption) ?_
    | with_reducible refine StepP.named (by assumption) ?_
    | split

theorem execPlanQuery_step {G : Nat} {s0 s : State} {x1} {x2} (h : Step G s0 s)
    (hG : sub 4194304 G = true) : StepO G s0 (execPlanQuery x1 x2 s) := by
  unfold execPlanQuery
  try dsimp only
  repeat' first
    | with_reducible assumption
    | with_reducible apply State.odWrite_step
    | with_reducible apply fxPlanQuery_step
    | with_reducible refine Step.ite (fun _ => ?_) (fun _ => ?_)
    | with_reducible refine StepO.ite (fun _ => ?_) (fun _ => ?_)
    | with_reducible apply StepO.next
    | with_reducible refine StepE.ite (fun _ => ?_) (fun _ => ?_)
    | with_reducible exact StepE.error
    | with_reducible apply StepE.ok
    | with_reducible apply foldl_step
    | with_reducible apply foldlFst_step
    | with_reducible intro _

/-! ### Wafer -/

theorem execSeamLaneFail_step {G : Nat} {s0 s : State} {x1} {x2} {x3} (h : Step G s0 s)
    (hG : sub 85591130424429754 G = true) : StepO G s0 (execSeamLaneFail x1 x2 x3 s) := by
  unfold execSeamLaneFail
  try dsimp only
  repeat' first
    | with_reducible assumption
    | ((with_reducible refine sub_trans ?_ hG); exact rfl)
    | with_reducible apply State.atOnce_step
    | with_reducible apply State.laneFails_step
    | with_reducible apply whenSettled_step
    | with_reducible refine Step.ite (fun _ => ?_) (fun _ => ?_)
    | with_reducible refine StepO.ite (fun _ => ?_) (fun _ => ?_)
    | with_reducible apply StepO.next
    | with_reducible apply foldl_step
    | with_reducible apply foldlFst_step
    | with_reducible intro _
    | with_reducible refine Step.ofFst (by assumption) ?_
    | with_reducible refine StepE.named (by assumption) ?_
    | with_reducible refine StepP.named (by assumption) ?_
    | split
    | dsimp only

theorem execPassThroughLaneFail_step {G : Nat} {s0 s : State} {x1} {x2} {x3} (h : Step G s0 s)
    (hG : sub 85591089622240442 G = true) : StepO G s0 (execPassThroughLaneFail x1 x2 x3 s) := by
  unfold execPassThroughLaneFail
  try dsimp only
  repeat' first
    | with_reducible assumption
    | ((with_reducible refine sub_trans ?_ hG); exact rfl)
    | with_reducible apply State.atOnce_step
    | with_reducible apply State.fire_step
    | with_reducible apply whenDue_step
    | ((with_reducible refine Step.put (F := 85591089622240442) ?_ hG ?_ ?_); rotate_left; (fail_if_success (with_reducible exact Same.refl _ _)); exact rfl; (first | with_reducible exact State.Inv.congr rfl rfl rfl rfl rfl rfl rfl id id id))
    | with_reducible refine Step.ite (fun _ => ?_) (fun _ => ?_)
    | with_reducible refine StepO.ite (fun _ => ?_) (fun _ => ?_)
    | with_reducible apply StepO.next
    | with_reducible apply foldl_step
    | with_reducible apply foldlFst_step
    | with_reducible intro _
    | with_reducible refine Step.ofFst (by assumption) ?_
    | with_reducible refine StepE.named (by assumption) ?_
    | with_reducible refine StepP.named (by assumption) ?_
    | split
    | dsimp only

theorem fxTranslationQuery_step {G : Nat} {s0 s : State} {x1} (h : Step G s0 s)
    (hG : sub 4194304 G = true) : StepE G s0 (fxTranslationQuery x1 s) := by
  unfold fxTranslationQuery
  try dsimp only
  repeat' first
    | with_reducible assumption
    | with_reducible apply State.putCells_step
    | with_reducible refine Step.ite (fun _ => ?_) (fun _ => ?_)
    | with_reducible refine StepE.ite (fun _ => ?_) (fun _ => ?_)
    | with_reducible exact StepE.error
    | with_reducible apply StepE.ok

theorem execTranslationQuery_step {G : Nat} {s0 s : State} {x1} {x2} (h : Step G s0 s)
    (hG : sub 4194304 G = true) : StepO G s0 (execTranslationQuery x1 x2 s) := by
  unfold execTranslationQuery
  try dsimp only
  repeat' first
    | with_reducible assumption
    | with_reducible apply State.odWrite_step
    | with_reducible apply fxTranslationQuery_step
    | with_reducible refine Step.ite (fun _ => ?_) (fun _ => ?_)
    | with_reducible refine StepO.ite (fun _ => ?_) (fun _ => ?_)
    | with_reducible apply StepO.next
    | with_reducible refine StepE.ite (fun _ => ?_) (fun _ => ?_)
    | with_reducible exact StepE.error
    | with_reducible apply StepE.ok
    | with_reducible apply foldl_step
    | with_reducible apply foldlFst_step
    | with_reducible intro _

/-! ### OdWrite -/

theorem fxInjectionArm_step {G : Nat} {s0 s : State} {x1} (h : Step G s0 s)
    (hG : sub 68719476736 G = true) : StepE G s0 (fxInjectionArm x1 s) := by
  unfold fxInjectionArm
  try dsimp only
  repeat' first
    | with_reducible assumption
    | ((with_reducible refine sub_trans ?_ hG); exact rfl)
    | ((with_reducible refine Step.put (F := 68719476736) ?_ hG ?_ ?_); rotate_left; (fail_if_success (with_reducible exact Same.refl _ _)); exact rfl; (first | with_reducible exact State.Inv.congr rfl rfl rfl rfl rfl rfl rfl id id id))
    | with_reducible refine Step.ite (fun _ => ?_) (fun _ => ?_)
    | with_reducible refine StepE.ite (fun _ => ?_) (fun _ => ?_)
    | with_reducible exact StepE.error
    | with_reducible apply StepE.ok
    | with_reducible apply foldl_step
    | with_reducible apply foldlFst_step
    | with_reducible intro _
    | with_reducible refine Step.ofFst (by assumption) ?_
    | with_reducible refine StepE.named (by assumption) ?_
    | with_reducible refine StepP.named (by assumption) ?_
    | split
    | dsimp only

theorem execInjectionArm_step {G : Nat} {s0 s : State} {x1} (h : Step G s0 s)
    (hG : sub 68723671040 G = true) : StepO G s0 (execInjectionArm x1 s) := by
  unfold execInjectionArm
  try dsimp only
  repeat' first
    | with_reducible assumption
    | ((with_reducible refine sub_trans ?_ hG); exact rfl)
    | with_reducible apply State.odWrite_step
    | with_reducible apply fxInjectionArm_step
    | with_reducible refine Step.ite (fun _ => ?_) (fun _ => ?_)
    | with_reducible refine StepO.ite (fun _ => ?_) (fun _ => ?_)
    | with_reducible apply StepO.next
    | with_reducible refine StepE.ite (fun _ => ?_) (fun _ => ?_)
    | with_reducible exact StepE.error
    | with_reducible apply StepE.ok
    | with_reducible apply foldl_step
    | with_reducible apply foldlFst_step
    | with_reducible intro _

theorem execInjectionDisarm_step {G : Nat} {s0 s : State} {x1} (h : Step G s0 s)
    (hG : sub 68723671040 G = true) : StepO G s0 (execInjectionDisarm x1 s) := by
  unfold execInjectionDisarm
  try dsimp only
  repeat' first
    | with_reducible assumption
    | ((with_reducible refine sub_trans ?_ hG); exact rfl)
    | with_reducible apply State.odWrite_step
    | with_reducible apply fxInjectionArm_step
    | with_reducible refine Step.ite (fun _ => ?_) (fun _ => ?_)
    | with_reducible refine StepO.ite (fun _ => ?_) (fun _ => ?_)
    | with_reducible apply StepO.next
    | with_reducible refine StepE.ite (fun _ => ?_) (fun _ => ?_)
    | with_reducible exact StepE.error
    | with_reducible apply StepE.ok
    | with_reducible apply foldl_step
    | with_reducible apply foldlFst_step
    | with_reducible intro _

theorem fxInjectionCell_step {G : Nat} {s0 s : State} {x1} {x2} {x3} (h : Step G s0 s)
    (hG : sub 4194304 G = true) : StepE G s0 (fxInjectionCell x1 x2 x3 s) := by
  unfold fxInjectionCell
  try dsimp only
  repeat' first
    | with_reducible assumption
    | with_reducible apply State.putCell_step
    | with_reducible refine Step.ite (fun _ => ?_) (fun _ => ?_)
    | with_reducible refine StepE.ite (fun _ => ?_) (fun _ => ?_)
    | with_reducible exact StepE.error
    | with_reducible apply StepE.ok

theorem fxImage_step {G : Nat} {s0 s : State} {x1} {x2} (h : Step G s0 s)
    (hG : sub 36028797018963968 G = true) : StepE G s0 (fxImage x1 x2 s) := by
  unfold fxImage
  try dsimp only
  repeat' first
    | with_reducible assumption
    | ((with_reducible refine sub_trans ?_ hG); exact rfl)
    | with_reducible apply State.imageBytes_step
    | ((with_reducible refine Step.put (F := 36028797018963968) ?_ hG ?_ ?_); rotate_left; (fail_if_success (with_reducible exact Same.refl _ _)); exact rfl; (first | with_reducible exact State.Inv.congr rfl rfl rfl rfl rfl rfl rfl id id id))
    | with_reducible refine Step.ite (fun _ => ?_) (fun _ => ?_)
    | with_reducible refine StepE.ite (fun _ => ?_) (fun _ => ?_)
    | with_reducible exact StepE.error
    | with_reducible apply StepE.ok
    | with_reducible apply foldl_step
    | with_reducible apply foldlFst_step
    | with_reducible intro _
    | with_reducible refine Step.ofFst (by assumption) ?_
    | with_reducible refine StepE.named (by assumption) ?_
    | with_reducible refine StepP.named (by assumption) ?_
    | split
    | dsimp only

theorem fxUpdateControl_step {G : Nat} {s0 s : State} {x1} {x2} (h : Step G s0 s)
    (hG : sub 270074138494726138 G = true) : StepE G s0 (fxUpdateControl x1 x2 s) := by
  unfold fxUpdateControl
  try dsimp only
  repeat' first
    | with_reducible assumption
    | ((with_reducible refine sub_trans ?_ hG); exact rfl)
    | with_reducible apply fxUpdateCancel_step
    | with_reducible apply fxUpdateBegin_step
    | with_reducible apply fxUpdateRestart_step
    | with_reducible refine Step.ite (fun _ => ?_) (fun _ => ?_)
    | with_reducible refine StepE.ite (fun _ => ?_) (fun _ => ?_)
    | with_reducible exact StepE.error
    | with_reducible apply StepE.ok
    | with_reducible apply foldl_step
    | with_reducible apply foldlFst_step
    | with_reducible intro _
    | with_reducible refine Step.ofFst (by assumption) ?_
    | with_reducible refine StepE.named (by assumption) ?_
    | with_reducible refine StepP.named (by assumption) ?_
    | split

theorem fxDomain_step {G : Nat} {s0 s : State} {x1} {x2} (h : Step G s0 s)
    (hG : sub 270074138494726138 G = true) : StepE G s0 (fxDomain x1 x2 s) := by
  unfold fxDomain
  try dsimp only
  repeat' first
    | with_reducible assumption
    | ((with_reducible refine sub_trans ?_ hG); exact rfl)
    | with_reducible apply fxDomainRequestOn_step
    | with_reducible apply fxDomainRequestOff_step
    | with_reducible refine Step.ite (fun _ => ?_) (fun _ => ?_)
    | with_reducible refine StepE.ite (fun _ => ?_) (fun _ => ?_)
    | with_reducible exact StepE.error
    | with_reducible apply StepE.ok
    | with_reducible apply foldl_step
    | with_reducible apply foldlFst_step
    | with_reducible intro _
    | with_reducible refine Step.ofFst (by assumption) ?_
    | with_reducible refine StepE.named (by assumption) ?_
    | with_reducible refine StepP.named (by assumption) ?_
    | split

theorem fxLatch_step {G : Nat} {s0 s : State} {x1} {x2} (h : Step G s0 s)
    (hG : sub 4503599627370496 G = true) : StepE G s0 (fxLatch x1 x2 s) := by
  unfold fxLatch
  try dsimp only
  repeat' first
    | with_reducible assumption
    | with_reducible apply fxOvercurrentClear_step
    | with_reducible refine Step.ite (fun _ => ?_) (fun _ => ?_)
    | with_reducible refine StepE.ite (fun _ => ?_) (fun _ => ?_)
    | with_reducible exact StepE.error
    | with_reducible apply StepE.ok
    | with_reducible apply foldl_step
    | with_reducible apply foldlFst_step
    | with_reducible intro _
    | with_reducible refine Step.ofFst (by assumption) ?_
    | with_reducible refine StepE.named (by assumption) ?_
    | with_reducible refine StepP.named (by assumption) ?_
    | split

theorem fxQuery_step {G : Nat} {s0 : State} {i j v : Nat} {e : Effect} (he : fxQuery i j v = some e) {u : State}
    (h : Step G s0 u) (hG : sub 288088539151691774 G = true) : StepE G s0 (e u) := by
  have g : ∀ M, sub M 288088539151691774 = true → sub M G = true := fun _ hM => sub_trans hM hG
  unfold fxQuery at he
  split at he
  · cases he; exact fxTranslationQuery_step h (g _ rfl)
  · cases he; exact fxSessionQuery_step h (g _ rfl)
  · cases he; exact fxTileQuery_step h (g _ rfl)
  · cases he; exact fxStoreQuery_step h (g _ rfl)
  · cases he; exact fxSegmentQuery_step h (g _ rfl)
  · cases he; exact fxPlanQuery_step h (g _ rfl)
  · cases he; exact fxJobQuery_step h (g _ rfl)
  · cases he; exact fxSlotQuery_step h (g _ rfl)
  · cases he; exact fxContextQuery_step h (g _ rfl)
  · cases he; exact fxConnectionQuery_step h (g _ rfl)
  · cases he; exact fxCounterQuery_step h (g _ rfl)
  · cases he; exact fxNodeQuery_step h (g _ rfl)
  · cases he; exact fxClockQuery_step h (g _ rfl)
  · cases he; exact fxDetectorQuery_step h (g _ rfl)
  · cases he; exact fxLogQuery_step h (g _ rfl)
  · cases he

theorem fxCommand_step {G : Nat} {s0 : State} {p : Path} {i j v : Nat} {e : Effect} (he : fxCommand p i j v = some e) {u : State}
    (h : Step G s0 u) (hG : sub 288088539151691774 G = true) : StepE G s0 (e u) := by
  have g : ∀ M, sub M 288088539151691774 = true → sub M G = true := fun _ hM => sub_trans hM hG
  unfold fxCommand at he
  split at he
  · cases he; exact fxHistoryClear_step h (g _ rfl)
  · cases he; exact fxStore_step h (g _ rfl)
  · cases he; exact fxRestore_step h (g _ rfl)
  · cases he; exact fxNmtRequest_step h (g _ rfl)
  · cases he; exact fxNodeTableFlush_step h (g _ rfl)
  · cases he; exact fxStaticEntryWrite_step h (g _ rfl)
  · cases he; exact fxDomain_step h (g _ rfl)
  · cases he; exact fxBrownoutClear_step h (g _ rfl)
  · cases he; exact fxLatch_step h (g _ rfl)
  · cases he; exact fxLogClear_step h (g _ rfl)
  · cases he; exact fxInjectionArm_step h (g _ rfl)
  · cases he; exact fxInjectionCell_step h (g _ rfl)
  · cases he; exact fxInjectionCell_step h (g _ rfl)
  · cases he; exact fxGridRestore_step (State.draw_step h (g _ rfl)) (g _ rfl)
  · cases he; exact fxFenceJob_step h (g _ rfl)
  · cases he; exact fxReplacementClear_step h (g _ rfl)
  · cases he; exact fxCommit_step h (g _ rfl)
  · cases he; exact fxUpdateControl_step h (g _ rfl)
  · cases he; exact fxUpdateSize_step h (g _ rfl)
  · cases he

theorem odApply_step {G : Nat} {s0 s : State} {x1} {x2} {x3} {x4} (h : Step G s0 s)
    (hG : sub 288088539151691774 G = true) : StepE G s0 (odApply x1 x2 x3 x4 s) := by
  unfold odApply
  try dsimp only
  by_cases c : x2 = 0x2C20
  · rw [if_pos c]; exact fxImage_step h (sub_trans rfl hG)
  · rw [if_neg c]
    cases e : fxQuery x2 x3 (leNat x4) with
    | some f => exact fxQuery_step e h hG
    | none =>
      cases e2 : fxCommand x1 x2 x3 (leNat x4) with
      | some f => exact fxCommand_step e2 h hG
      | none => exact fxSetting_step h (sub_trans rfl hG)

theorem fxWrite_step {G : Nat} {s0 s : State} {x1} {x2} {x3} {x4} (h : Step G s0 s)
    (hG : sub 288088539151691774 G = true) : StepE G s0 (fxWrite x1 x2 x3 x4 s) := by
  unfold fxWrite
  try dsimp only
  repeat' first
    | with_reducible assumption
    | with_reducible apply odApply_step
    | with_reducible refine Step.ite (fun _ => ?_) (fun _ => ?_)
    | with_reducible refine StepE.ite (fun _ => ?_) (fun _ => ?_)
    | with_reducible exact StepE.error
    | with_reducible apply StepE.ok
    | with_reducible apply foldl_step
    | with_reducible apply foldlFst_step
    | with_reducible intro _
    | with_reducible refine Step.ofFst (by assumption) ?_
    | with_reducible refine StepE.named (by assumption) ?_
    | with_reducible refine StepP.named (by assumption) ?_
    | split

/-! ### Sdo -/

theorem State.sdoBreak_step {G : Nat} {s0 s : State} {x1} {x2} (h : Step G s0 s)
    (hG : sub 108103985337730224 G = true) : Step G s0 (State.sdoBreak s x1 x2) := by
  unfold State.sdoBreak
  try dsimp only
  repeat' first
    | with_reducible assumption
    | ((with_reducible refine sub_trans ?_ hG); exact rfl)
    | with_reducible apply State.sdoAbort_step
    | with_reducible apply State.imageEnded_step
    | with_reducible refine Step.ite (fun _ => ?_) (fun _ => ?_)

theorem State.sdoClientAbort_step {G : Nat} {s0 s : State} {x1} (h : Step G s0 s)
    (hG : sub 108103985337730224 G = true) : Step G s0 (State.sdoClientAbort s x1) := by
  unfold State.sdoClientAbort
  try dsimp only
  repeat' first
    | with_reducible assumption
    | ((with_reducible refine sub_trans ?_ hG); exact rfl)
    | with_reducible apply State.sdoIdle_step
    | with_reducible apply State.imageEnded_step
    | with_reducible apply State.bump32_step
    | with_reducible refine Step.ite (fun _ => ?_) (fun _ => ?_)

theorem State.sdoWrite_step {G : Nat} {s0 s : State} {x1} {x2} {x3} {x4} {x5} (h : Step G s0 s)
    (hG : sub 288088539151691774 G = true) : Step G s0 (State.sdoWrite s x1 x2 x3 x4 x5) := by
  unfold State.sdoWrite
  try dsimp only
  repeat' first
    | with_reducible assumption
    | ((with_reducible refine sub_trans ?_ hG); exact rfl)
    | with_reducible apply fxWrite_step
    | with_reducible apply State.sdoAbort_step
    | with_reducible apply State.sdoIdle_step
    | with_reducible apply State.setSdo_step
    | with_reducible apply State.downloadDone_step
    | with_reducible apply State.tryWrite_step
    | with_reducible refine Step.ite (fun _ => ?_) (fun _ => ?_)
    | with_reducible refine StepE.ite (fun _ => ?_) (fun _ => ?_)
    | with_reducible exact StepE.error
    | with_reducible apply StepE.ok
    | with_reducible apply foldl_step
    | with_reducible apply foldlFst_step
    | with_reducible intro _
    | with_reducible refine Step.ofFst (by assumption) ?_
    | with_reducible refine StepE.named (by assumption) ?_
    | with_reducible refine StepP.named (by assumption) ?_
    | split

theorem State.downBegin_step {G : Nat} {s0 s : State} {x1} {x2} {x3} {x4} {x5} (h : Step G s0 s)
    (hG : sub 36028797027352576 G = true) : Step G s0 (State.downBegin s x1 x2 x3 x4 x5) := by
  unfold State.downBegin
  try dsimp only
  repeat' first
    | with_reducible assumption
    | ((with_reducible refine sub_trans ?_ hG); exact rfl)
    | with_reducible apply State.setSdo_step
    | ((with_reducible refine Step.put (F := 36028797027352576) ?_ hG ?_ ?_); rotate_left; (fail_if_success (with_reducible exact Same.refl _ _)); exact rfl; (first | with_reducible exact State.Inv.congr rfl rfl rfl rfl rfl rfl rfl id id id))
    | with_reducible refine Step.ite (fun _ => ?_) (fun _ => ?_)

theorem State.sdoInitDown_step {G : Nat} {s0 s : State} {x1} (h : Step G s0 s)
    (hG : sub 288088539151691774 G = true) : Step G s0 (State.sdoInitDown s x1) := by
  unfold State.sdoInitDown
  try dsimp only
  repeat' first
    | with_reducible assumption
    | ((with_reducible refine sub_trans ?_ hG); exact rfl)
    | with_reducible apply State.sdoSend_step
    | with_reducible apply State.sdoAbort_step
    | with_reducible apply State.sdoWrite_step
    | with_reducible apply State.downBegin_step
    | with_reducible refine Step.ite (fun _ => ?_) (fun _ => ?_)
    | with_reducible apply foldl_step
    | with_reducible apply foldlFst_step
    | with_reducible intro _
    | with_reducible refine Step.ofFst (by assumption) ?_
    | with_reducible refine StepE.named (by assumption) ?_
    | with_reducible refine StepP.named (by assumption) ?_
    | split

theorem State.sdoImageSeg_step {G : Nat} {s0 s : State} {x1} {x2} {x3} (h : Step G s0 s)
    (hG : sub 108103985337730224 G = true) : Step G s0 (State.sdoImageSeg s x1 x2 x3) := by
  unfold State.sdoImageSeg
  try dsimp only
  repeat' first
    | with_reducible assumption
    | ((with_reducible refine sub_trans ?_ hG); exact rfl)
    | with_reducible apply State.setSdo_step
    | with_reducible apply State.sdoSend_step
    | with_reducible apply State.sdoBreak_step
    | with_reducible apply State.imageBytes_step
    | with_reducible refine Step.ite (fun _ => ?_) (fun _ => ?_)

theorem State.sdoSegDown_step {G : Nat} {s0 s : State} {x1} {x2} (h : Step G s0 s)
    (hG : sub 288088539151691774 G = true) : Step G s0 (State.sdoSegDown s x1 x2) := by
  unfold State.sdoSegDown
  try dsimp only
  repeat' first
    | with_reducible assumption
    | ((with_reducible refine sub_trans ?_ hG); exact rfl)
    | with_reducible apply State.sdoSend_step
    | with_reducible apply State.sdoBreak_step
    | with_reducible apply State.setSdo_step
    | with_reducible apply State.sdoWrite_step
    | with_reducible apply State.sdoImageSeg_step
    | with_reducible refine Step.ite (fun _ => ?_) (fun _ => ?_)

theorem State.sdoInitBlkDown_step {G : Nat} {s0 s : State} {x1} (h : Step G s0 s)
    (hG : sub 108086391069474816 G = true) : Step G s0 (State.sdoInitBlkDown s x1) := by
  unfold State.sdoInitBlkDown
  try dsimp only
  repeat' first
    | with_reducible assumption
    | ((with_reducible refine sub_trans ?_ hG); exact rfl)
    | with_reducible apply State.sdoSend_step
    | with_reducible apply State.sdoAbort_step
    | with_reducible apply State.downBegin_step
    | with_reducible refine Step.ite (fun _ => ?_) (fun _ => ?_)
    | with_reducible apply foldl_step
    | with_reducible apply foldlFst_step
    | with_reducible intro _
    | with_reducible refine Step.ofFst (by assumption) ?_
    | with_reducible refine StepE.named (by assumption) ?_
    | with_reducible refine StepP.named (by assumption) ?_
    | split

theorem State.sdoBlkSeg_step {G : Nat} {s0 s : State} {x1} {x2} (h : Step G s0 s)
    (hG : sub 108103985337730224 G = true) : Step G s0 (State.sdoBlkSeg s x1 x2) := by
  unfold State.sdoBlkSeg
  try dsimp only
  repeat' first
    | with_reducible assumption
    | ((with_reducible refine sub_trans ?_ hG); exact rfl)
    | with_reducible apply State.sdoSend_step
    | with_reducible apply State.sdoBreak_step
    | with_reducible apply State.setSdo_step
    | with_reducible apply State.imageBytes_step
    | with_reducible refine Step.ite (fun _ => ?_) (fun _ => ?_)

theorem State.sdoBlkDownEnd_step {G : Nat} {s0 s : State} {x1} {x2} (h : Step G s0 s)
    (hG : sub 288088539151691774 G = true) : Step G s0 (State.sdoBlkDownEnd s x1 x2) := by
  unfold State.sdoBlkDownEnd
  try dsimp only
  repeat' first
    | with_reducible assumption
    | ((with_reducible refine sub_trans ?_ hG); exact rfl)
    | with_reducible apply State.setSdo_step
    | with_reducible apply State.sdoBreak_step
    | with_reducible apply State.imageBytes_step
    | with_reducible apply State.sdoWrite_step
    | with_reducible refine Step.ite (fun _ => ?_) (fun _ => ?_)

theorem State.sdoInitUp_step {G : Nat} {s0 s : State} {x1} (h : Step G s0 s)
    (hG : sub 216172782126366720 G = true) : Step G s0 (State.sdoInitUp s x1) := by
  unfold State.sdoInitUp
  try dsimp only
  repeat' first
    | with_reducible assumption
    | ((with_reducible refine sub_trans ?_ hG); exact rfl)
    | with_reducible apply State.sdoSend_step
    | with_reducible apply State.sdoAbort_step
    | with_reducible apply State.draw_step
    | with_reducible apply State.setSdo_step
    | with_reducible apply State.sdoDone_step
    | with_reducible refine Step.ite (fun _ => ?_) (fun _ => ?_)
    | with_reducible apply foldl_step
    | with_reducible apply foldlFst_step
    | with_reducible intro _
    | with_reducible refine Step.ofFst (by assumption) ?_
    | with_reducible refine StepE.named (by assumption) ?_
    | with_reducible refine StepP.named (by assumption) ?_
    | split

theorem State.sdoSegUp_step {G : Nat} {s0 s : State} {x1} {x2} (h : Step G s0 s)
    (hG : sub 108103985337730224 G = true) : Step G s0 (State.sdoSegUp s x1 x2) := by
  unfold State.sdoSegUp
  try dsimp only
  repeat' first
    | with_reducible assumption
    | ((with_reducible refine sub_trans ?_ hG); exact rfl)
    | with_reducible apply State.setSdo_step
    | with_reducible apply State.sdoSend_step
    | with_reducible apply State.sdoBreak_step
    | with_reducible apply State.sdoDone_step
    | with_reducible refine Step.ite (fun _ => ?_) (fun _ => ?_)

theorem State.sdoInitBlkUp_step {G : Nat} {s0 s : State} {x1} (h : Step G s0 s)
    (hG : sub 216172782126366720 G = true) : Step G s0 (State.sdoInitBlkUp s x1) := by
  unfold State.sdoInitBlkUp
  try dsimp only
  repeat' first
    | with_reducible assumption
    | ((with_reducible refine sub_trans ?_ hG); exact rfl)
    | with_reducible apply State.sdoSend_step
    | with_reducible apply State.sdoAbort_step
    | with_reducible apply State.draw_step
    | with_reducible apply State.setSdo_step
    | with_reducible refine Step.ite (fun _ => ?_) (fun _ => ?_)
    | with_reducible apply foldl_step
    | with_reducible apply foldlFst_step
    | with_reducible intro _
    | with_reducible refine Step.ofFst (by assumption) ?_
    | with_reducible refine StepE.named (by assumption) ?_
    | with_reducible refine StepP.named (by assumption) ?_
    | split

theorem State.sdoBlock_step {G : Nat} {s0 s : State} {x1} (h : Step G s0 s)
    (hG : sub 72057594050510848 G = true) : Step G s0 (State.sdoBlock s x1) := by
  unfold State.sdoBlock
  try dsimp only
  repeat' first
    | with_reducible assumption
    | ((with_reducible refine sub_trans ?_ hG); exact rfl)
    | with_reducible apply State.setSdo_step
    | with_reducible apply State.sdoSend_step
    | with_reducible apply each_step
    | with_reducible refine Step.ite (fun _ => ?_) (fun _ => ?_)
    | with_reducible apply foldl_step
    | with_reducible apply foldlFst_step
    | with_reducible intro _

theorem State.sdoBlkAck_step {G : Nat} {s0 s : State} {x1} {x2} (h : Step G s0 s)
    (hG : sub 108103985337730224 G = true) : Step G s0 (State.sdoBlkAck s x1 x2) := by
  unfold State.sdoBlkAck
  try dsimp only
  repeat' first
    | with_reducible assumption
    | ((with_reducible refine sub_trans ?_ hG); exact rfl)
    | with_reducible apply State.sdoSend_step
    | with_reducible apply State.sdoBlock_step
    | with_reducible apply State.sdoBreak_step
    | with_reducible apply State.setSdo_step
    | with_reducible refine Step.ite (fun _ => ?_) (fun _ => ?_)

theorem State.sdoFresh_step {G : Nat} {s0 s : State} {x1} (h : Step G s0 s)
    (hG : sub 288088539151691774 G = true) : Step G s0 (State.sdoFresh s x1) := by
  unfold State.sdoFresh
  try dsimp only
  repeat' first
    | with_reducible assumption
    | ((with_reducible refine sub_trans ?_ hG); exact rfl)
    | with_reducible apply State.sdoInitDown_step
    | with_reducible apply State.sdoInitBlkDown_step
    | with_reducible apply State.sdoAbort_step
    | with_reducible apply State.sdoInitBlkUp_step
    | with_reducible apply State.bump32_step
    | with_reducible apply State.sdoInitUp_step
    | with_reducible refine Step.ite (fun _ => ?_) (fun _ => ?_)
    | with_reducible apply foldl_step
    | with_reducible apply foldlFst_step
    | with_reducible intro _
    | with_reducible refine Step.ofFst (by assumption) ?_
    | with_reducible refine StepE.named (by assumption) ?_
    | with_reducible refine StepP.named (by assumption) ?_
    | split

theorem State.sdoNext_step {G : Nat} {s0 s : State} {x1} {x2} (h : Step G s0 s)
    (hG : sub 288088539151691774 G = true) : Step G s0 (State.sdoNext s x1 x2) := by
  unfold State.sdoNext
  try dsimp only
  repeat' first
    | with_reducible assumption
    | ((with_reducible refine sub_trans ?_ hG); exact rfl)
    | with_reducible apply State.sdoBlkSeg_step
    | with_reducible apply State.sdoBlock_step
    | with_reducible apply State.sdoBreak_step
    | with_reducible apply State.sdoIdle_step
    | with_reducible apply State.sdoSegDown_step
    | with_reducible apply State.sdoSegUp_step
    | with_reducible apply State.sdoBlkDownEnd_step
    | with_reducible apply State.bump32_step
    | with_reducible apply State.sdoBlkAck_step
    | with_reducible refine Step.ite (fun _ => ?_) (fun _ => ?_)
    | with_reducible apply foldl_step
    | with_reducible apply foldlFst_step
    | with_reducible intro _
    | with_reducible refine Step.ofFst (by assumption) ?_
    | with_reducible refine StepE.named (by assumption) ?_
    | with_reducible refine StepP.named (by assumption) ?_
    | split

theorem State.sdoFrame_step {G : Nat} {s0 s : State} {x1} (h : Step G s0 s)
    (hG : sub 288088539151691774 G = true) : Step G s0 (State.sdoFrame s x1) := by
  unfold State.sdoFrame
  try dsimp only
  repeat' first
    | with_reducible assumption
    | ((with_reducible refine sub_trans ?_ hG); exact rfl)
    | with_reducible apply State.sdoNext_step
    | with_reducible apply State.sdoFresh_step
    | with_reducible apply State.sdoClientAbort_step
    | ((with_reducible refine Step.put (F := 288088539151691774) ?_ hG ?_ ?_); rotate_left; (fail_if_success (with_reducible exact Same.refl _ _)); exact rfl; (first | with_reducible exact State.Inv.congr rfl rfl rfl rfl rfl rfl rfl id id id))
    | with_reducible refine Step.ite (fun _ => ?_) (fun _ => ?_)
    | with_reducible apply foldl_step
    | with_reducible apply foldlFst_step
    | with_reducible intro _
    | with_reducible refine Step.ofFst (by assumption) ?_
    | with_reducible refine StepE.named (by assumption) ?_
    | with_reducible refine StepP.named (by assumption) ?_
    | split

theorem State.heldServe_step {G : Nat} {s0 s : State}  (h : Step G s0 s)
    (hG : sub 288088539151691774 G = true) : Step G s0 (State.heldServe s) := by
  unfold State.heldServe
  try dsimp only
  repeat' first
    | with_reducible assumption
    | with_reducible apply State.sdoFrame_step
    | ((with_reducible refine Step.put (F := 288088539151691774) ?_ hG ?_ ?_); rotate_left; (fail_if_success (with_reducible exact Same.refl _ _)); exact rfl; (first | with_reducible exact State.Inv.congr rfl rfl rfl rfl rfl rfl rfl id id id))
    | with_reducible refine Step.ite (fun _ => ?_) (fun _ => ?_)
    | with_reducible apply foldl_step
    | with_reducible apply foldlFst_step
    | with_reducible intro _
    | with_reducible refine Step.ofFst (by assumption) ?_
    | with_reducible refine StepE.named (by assumption) ?_
    | with_reducible refine StepP.named (by assumption) ?_
    | split

theorem State.sdoServe_step {G : Nat} {s0 s : State} {x1} (h : Step G s0 s)
    (hG : sub 288088539151691774 G = true) : Step G s0 (State.sdoServe s x1) := by
  unfold State.sdoServe
  try dsimp only
  repeat' first
    | with_reducible assumption
    | ((with_reducible refine sub_trans ?_ hG); exact rfl)
    | with_reducible apply State.sdoFrame_step
    | with_reducible apply State.canGot_step
    | with_reducible apply State.canHeard_step
    | with_reducible refine Step.ite (fun _ => ?_) (fun _ => ?_)
    | with_reducible apply foldl_step
    | with_reducible apply foldlFst_step
    | with_reducible intro _
    | with_reducible refine Step.ofFst (by assumption) ?_
    | with_reducible refine StepE.named (by assumption) ?_
    | with_reducible refine StepP.named (by assumption) ?_
    | split
    | dsimp only

theorem State.sdoRow_step {G : Nat} {s0 s : State} {x1} {x2} (h : Step G s0 s)
    (hG : sub 288088539151691774 G = true) : StepO G s0 (State.sdoRow s x1 x2) := by
  unfold State.sdoRow
  try dsimp only
  repeat' first
    | with_reducible assumption
    | ((with_reducible refine sub_trans ?_ hG); exact rfl)
    | with_reducible apply State.sdoServe_step
    | with_reducible apply whenSettled_step

theorem execSdoInitiateDownload_step {G : Nat} {s0 s : State} {x1} (h : Step G s0 s)
    (hG : sub 288088539151691774 G = true) : StepO G s0 (execSdoInitiateDownload x1 s) := by
  unfold execSdoInitiateDownload
  try dsimp only
  repeat' first
    | with_reducible assumption
    | with_reducible apply State.sdoRow_step

theorem execSdoDownloadSegment_step {G : Nat} {s0 s : State} {x1} (h : Step G s0 s)
    (hG : sub 288088539151691774 G = true) : StepO G s0 (execSdoDownloadSegment x1 s) := by
  unfold execSdoDownloadSegment
  try dsimp only
  repeat' first
    | with_reducible assumption
    | with_reducible apply State.sdoRow_step

theorem execSdoInitiateUpload_step {G : Nat} {s0 s : State} {x1} (h : Step G s0 s)
    (hG : sub 288088539151691774 G = true) : StepO G s0 (execSdoInitiateUpload x1 s) := by
  unfold execSdoInitiateUpload
  try dsimp only
  repeat' first
    | with_reducible assumption
    | with_reducible apply State.sdoRow_step

theorem execSdoUploadSegment_step {G : Nat} {s0 s : State} {x1} (h : Step G s0 s)
    (hG : sub 288088539151691774 G = true) : StepO G s0 (execSdoUploadSegment x1 s) := by
  unfold execSdoUploadSegment
  try dsimp only
  repeat' first
    | with_reducible assumption
    | with_reducible apply State.sdoRow_step

theorem execSdoBlockDownloadInitiate_step {G : Nat} {s0 s : State} {x1} (h : Step G s0 s)
    (hG : sub 288088539151691774 G = true) : StepO G s0 (execSdoBlockDownloadInitiate x1 s) := by
  unfold execSdoBlockDownloadInitiate
  try dsimp only
  repeat' first
    | with_reducible assumption
    | with_reducible apply State.sdoRow_step

theorem execSdoBlockDownloadSubblock_step {G : Nat} {s0 s : State} {x1} (h : Step G s0 s)
    (hG : sub 288088539151691774 G = true) : StepO G s0 (execSdoBlockDownloadSubblock x1 s) := by
  unfold execSdoBlockDownloadSubblock
  try dsimp only
  repeat' first
    | with_reducible assumption
    | ((with_reducible refine sub_trans ?_ hG); exact rfl)
    | with_reducible apply State.sdoServe_step
    | with_reducible apply whenSettled_step
    | with_reducible apply each_step
    | with_reducible refine Step.ite (fun _ => ?_) (fun _ => ?_)
    | with_reducible refine StepO.ite (fun _ => ?_) (fun _ => ?_)
    | with_reducible apply StepO.next
    | with_reducible apply foldl_step
    | with_reducible apply foldlFst_step
    | with_reducible intro _

theorem execSdoBlockDownloadEnd_step {G : Nat} {s0 s : State} {x1} (h : Step G s0 s)
    (hG : sub 288088539151691774 G = true) : StepO G s0 (execSdoBlockDownloadEnd x1 s) := by
  unfold execSdoBlockDownloadEnd
  try dsimp only
  repeat' first
    | with_reducible assumption
    | with_reducible apply State.sdoRow_step

theorem execSdoBlockUploadInitiate_step {G : Nat} {s0 s : State} {x1} (h : Step G s0 s)
    (hG : sub 288088539151691774 G = true) : StepO G s0 (execSdoBlockUploadInitiate x1 s) := by
  unfold execSdoBlockUploadInitiate
  try dsimp only
  repeat' first
    | with_reducible assumption
    | with_reducible apply State.sdoRow_step

theorem execSdoBlockUploadStart_step {G : Nat} {s0 s : State} {x1} (h : Step G s0 s)
    (hG : sub 288088539151691774 G = true) : StepO G s0 (execSdoBlockUploadStart x1 s) := by
  unfold execSdoBlockUploadStart
  try dsimp only
  repeat' first
    | with_reducible assumption
    | with_reducible apply State.sdoRow_step

theorem execSdoBlockUploadAck_step {G : Nat} {s0 s : State} {x1} (h : Step G s0 s)
    (hG : sub 288088539151691774 G = true) : StepO G s0 (execSdoBlockUploadAck x1 s) := by
  unfold execSdoBlockUploadAck
  try dsimp only
  repeat' first
    | with_reducible assumption
    | with_reducible apply State.sdoRow_step

theorem execSdoBlockUploadEnd_step {G : Nat} {s0 s : State} {x1} (h : Step G s0 s)
    (hG : sub 288088539151691774 G = true) : StepO G s0 (execSdoBlockUploadEnd x1 s) := by
  unfold execSdoBlockUploadEnd
  try dsimp only
  repeat' first
    | with_reducible assumption
    | with_reducible apply State.sdoRow_step

theorem execSdoAbortReceive_step {G : Nat} {s0 s : State} {x1} (h : Step G s0 s)
    (hG : sub 288088539151691774 G = true) : StepO G s0 (execSdoAbortReceive x1 s) := by
  unfold execSdoAbortReceive
  try dsimp only
  repeat' first
    | with_reducible assumption
    | with_reducible apply State.sdoRow_step

theorem execSdoTimeout_step {G : Nat} {s0 s : State}  (h : Step G s0 s)
    (hG : sub 117111186739954865 G = true) : StepO G s0 (execSdoTimeout s) := by
  unfold execSdoTimeout
  try dsimp only
  repeat' first
    | with_reducible assumption
    | ((with_reducible refine sub_trans ?_ hG); exact rfl)
    | with_reducible apply State.advanceTo_step
    | with_reducible apply whenSettled_step
    | with_reducible apply State.fire_step
    | with_reducible apply State.sdoBreak_step
    | with_reducible refine Step.ite (fun _ => ?_) (fun _ => ?_)
    | with_reducible refine StepO.ite (fun _ => ?_) (fun _ => ?_)
    | with_reducible apply StepO.next
    | with_reducible apply foldl_step
    | with_reducible apply foldlFst_step
    | with_reducible intro _
    | with_reducible refine Step.ofFst (by assumption) ?_
    | with_reducible refine StepE.named (by assumption) ?_
    | with_reducible refine StepP.named (by assumption) ?_
    | split

theorem State.storeEnded_step {G : Nat} {s0 s : State} {x1} {x2} (h : Step G s0 s)
    (hG : sub 126118383897543856 G = true) : Step G s0 (State.storeEnded s x1 x2) := by
  unfold State.storeEnded
  try dsimp only
  repeat' first
    | with_reducible assumption
    | ((with_reducible refine sub_trans ?_ hG); exact rfl)
    | with_reducible apply State.commitRest_step
    | with_reducible apply State.answer_step
    | with_reducible apply State.bump32_step
    | ((with_reducible refine Step.put (F := 126118383897543856) ?_ hG ?_ ?_); rotate_left; (fail_if_success (with_reducible exact Same.refl _ _)); exact rfl; (first | with_reducible exact State.Inv.congr rfl rfl rfl rfl rfl rfl rfl id id id))
    | with_reducible refine Step.ite (fun _ => ?_) (fun _ => ?_)
    | with_reducible apply foldl_step
    | with_reducible apply foldlFst_step
    | with_reducible intro _
    | with_reducible refine Step.ofFst (by assumption) ?_
    | with_reducible refine StepE.named (by assumption) ?_
    | with_reducible refine StepP.named (by assumption) ?_
    | split
    | dsimp only

theorem storeNext_step {G : Nat} {s0 s : State} {x1} (h : Step G s0 s)
    (hG : sub 126118383897543856 G = true) : Step G s0 (storeNext x1 s) := by
  induction x1 generalizing s  with
  | zero =>
    unfold storeNext
    try dsimp only
    repeat' first
      | with_reducible assumption
  | succ n ih =>
    unfold storeNext
    try dsimp only
    repeat' first
      | with_reducible apply ih
      | with_reducible assumption
      | ((with_reducible refine sub_trans ?_ hG); exact rfl)
      | with_reducible apply State.answer_step
      | with_reducible apply State.updateStart_step
      | with_reducible apply State.jobStart_step
      | with_reducible apply State.commitStart_step
      | ((with_reducible refine Step.put (F := 126118383897543856) ?_ hG ?_ ?_); rotate_left; (fail_if_success (with_reducible exact Same.refl _ _)); exact rfl; (first | with_reducible exact State.Inv.congr rfl rfl rfl rfl rfl rfl rfl id id id))
      | with_reducible refine Step.ite (fun _ => ?_) (fun _ => ?_)
      | with_reducible apply foldl_step
      | with_reducible apply foldlFst_step
      | with_reducible intro _
      | with_reducible refine Step.ofFst (by assumption) ?_
      | with_reducible refine StepE.named (by assumption) ?_
      | with_reducible refine StepP.named (by assumption) ?_
      | split

theorem execStoreDone_step {G : Nat} {s0 s : State} {x1} (h : Step G s0 s)
    (hG : sub 288088539151691774 G = true) : StepO G s0 (execStoreDone x1 s) := by
  unfold execStoreDone
  try dsimp only
  repeat' first
    | with_reducible assumption
    | ((with_reducible refine sub_trans ?_ hG); exact rfl)
    | with_reducible apply State.heldServe_step
    | with_reducible apply State.storeEnded_step
    | with_reducible apply whenSettled_step
    | with_reducible apply storeNext_step
    | with_reducible refine Step.ite (fun _ => ?_) (fun _ => ?_)
    | with_reducible refine StepO.ite (fun _ => ?_) (fun _ => ?_)
    | with_reducible apply StepO.next
    | with_reducible apply foldl_step
    | with_reducible apply foldlFst_step
    | with_reducible intro _
    | with_reducible refine Step.ofFst (by assumption) ?_
    | with_reducible refine StepE.named (by assumption) ?_
    | with_reducible refine StepP.named (by assumption) ?_
    | split

theorem execUpdateCancel_step {G : Nat} {s0 s : State} {x1} (h : Step G s0 s)
    (hG : sub 288088539151691774 G = true) : StepO G s0 (execUpdateCancel x1 s) := by
  unfold execUpdateCancel
  try dsimp only
  repeat' first
    | with_reducible assumption
    | ((with_reducible refine sub_trans ?_ hG); exact rfl)
    | with_reducible apply State.odWrite_step
    | with_reducible apply fxUpdateCancel_step
    | with_reducible apply State.heldServe_step
    | with_reducible refine Step.ite (fun _ => ?_) (fun _ => ?_)
    | with_reducible refine StepO.ite (fun _ => ?_) (fun _ => ?_)
    | with_reducible apply StepO.next
    | with_reducible refine StepE.ite (fun _ => ?_) (fun _ => ?_)
    | with_reducible exact StepE.error
    | with_reducible apply StepE.ok
    | with_reducible apply foldl_step
    | with_reducible apply foldlFst_step
    | with_reducible intro _
    | with_reducible refine Step.ofFst (by assumption) ?_
    | with_reducible refine StepE.named (by assumption) ?_
    | with_reducible refine StepP.named (by assumption) ?_
    | split

theorem execImageDataWrite_step {G : Nat} {s0 s : State} {x1} {x2} (h : Step G s0 s)
    (hG : sub 288088539151691774 G = true) : StepO G s0 (execImageDataWrite x1 x2 s) := by
  unfold execImageDataWrite
  try dsimp only
  repeat' first
    | with_reducible assumption
    | ((with_reducible refine sub_trans ?_ hG); exact rfl)
    | with_reducible apply State.programError_step
    | with_reducible apply State.heldServe_step
    | with_reducible apply whenSettled_step
    | with_reducible apply State.imageBytes_step
    | with_reducible refine Step.ite (fun _ => ?_) (fun _ => ?_)
    | with_reducible refine StepO.ite (fun _ => ?_) (fun _ => ?_)

theorem execImageUpdateVerify_step {G : Nat} {s0 s : State} {x1} {x2} (h : Step G s0 s)
    (hG : sub 288088539151691774 G = true) : StepO G s0 (execImageUpdateVerify x1 x2 s) := by
  unfold execImageUpdateVerify
  try dsimp only
  repeat' first
    | with_reducible assumption
    | ((with_reducible refine sub_trans ?_ hG); exact rfl)
    | with_reducible apply State.heldServe_step
    | with_reducible apply whenSettled_step
    | with_reducible apply State.updateVerify_step

theorem execDictionaryWrite_step {G : Nat} {s0 s : State} {x1} {x2} {x3} {x4} (h : Step G s0 s)
    (hG : sub 288088539151691774 G = true) : StepO G s0 (execDictionaryWrite x1 x2 x3 x4 s) := by
  unfold execDictionaryWrite
  try dsimp only
  repeat' first
    | with_reducible assumption
    | ((with_reducible refine sub_trans ?_ hG); exact rfl)
    | with_reducible apply State.odWriteSettled_step
    | with_reducible apply fxWrite_step
    | with_reducible apply State.heldServe_step
    | with_reducible refine Step.ite (fun _ => ?_) (fun _ => ?_)
    | with_reducible refine StepO.ite (fun _ => ?_) (fun _ => ?_)
    | with_reducible apply StepO.next
    | with_reducible refine StepE.ite (fun _ => ?_) (fun _ => ?_)
    | with_reducible exact StepE.error
    | with_reducible apply StepE.ok
    | with_reducible apply foldl_step
    | with_reducible apply foldlFst_step
    | with_reducible intro _
    | with_reducible refine Step.ofFst (by assumption) ?_
    | with_reducible refine StepE.named (by assumption) ?_
    | with_reducible refine StepP.named (by assumption) ?_
    | split

/-! ### Mailbox -/

theorem execMirrorRead_step {G : Nat} {s0 s : State} {x1} {x2} {x3} (h : Step G s0 s)
    (hG : sub 216172782113783808 G = true) : StepO G s0 (execMirrorRead x1 x2 x3 s) := by
  unfold execMirrorRead
  try dsimp only
  repeat' first
    | with_reducible assumption
    | ((with_reducible refine sub_trans ?_ hG); exact rfl)
    | with_reducible apply State.draw_step
    | with_reducible apply whenDue_step
    | ((with_reducible refine Step.put (F := 216172782113783808) ?_ hG ?_ ?_); rotate_left; (fail_if_success (with_reducible exact Same.refl _ _)); exact rfl; (first | with_reducible exact State.Inv.congr rfl rfl rfl rfl rfl rfl rfl id id id))
    | with_reducible refine Step.ite (fun _ => ?_) (fun _ => ?_)
    | with_reducible refine StepO.ite (fun _ => ?_) (fun _ => ?_)
    | with_reducible apply StepO.next
    | with_reducible apply foldl_step
    | with_reducible apply foldlFst_step
    | with_reducible intro _
    | with_reducible refine Step.ofFst (by assumption) ?_
    | with_reducible refine StepE.named (by assumption) ?_
    | with_reducible refine StepP.named (by assumption) ?_
    | split
    | dsimp only

theorem execMirrorWrite_step {G : Nat} {s0 s : State} {x1} {x2} (h : Step G s0 s)
    (hG : sub 4194304 G = true) : StepO G s0 (execMirrorWrite x1 x2 s) := by
  unfold execMirrorWrite
  try dsimp only
  repeat' first
    | with_reducible assumption
    | with_reducible apply State.bump32_step
    | with_reducible apply whenDue_step

theorem State.boxAnswer_step {G : Nat} {s0 s : State} {x1} {x2} {x3} (h : Step G s0 s)
    (hG : sub 54525952 G = true) : Step G s0 (State.boxAnswer s x1 x2 x3) := by
  unfold State.boxAnswer
  try dsimp only
  repeat' first
    | with_reducible assumption
    | ((with_reducible refine sub_trans ?_ hG); exact rfl)
    | with_reducible apply State.setBox_step
    | with_reducible apply State.aborted_step
    | with_reducible refine Step.ite (fun _ => ?_) (fun _ => ?_)

theorem State.chunkEnd_step {G : Nat} {s0 s : State} {x1} (h : Step G s0 s)
    (hG : sub 108103985388061872 G = true) : Step G s0 (State.chunkEnd s x1) := by
  unfold State.chunkEnd
  try dsimp only
  repeat' first
    | with_reducible assumption
    | ((with_reducible refine sub_trans ?_ hG); exact rfl)
    | with_reducible apply State.setBox_step
    | with_reducible apply State.imageEnded_step
    | with_reducible refine Step.ite (fun _ => ?_) (fun _ => ?_)
    | with_reducible apply foldl_step
    | with_reducible apply foldlFst_step
    | with_reducible intro _
    | with_reducible refine Step.ofFst (by assumption) ?_
    | with_reducible refine StepE.named (by assumption) ?_
    | with_reducible refine StepP.named (by assumption) ?_
    | split

theorem State.boxRead_step {G : Nat} {s0 s : State} {x1} {x2} (h : Step G s0 s)
    (hG : sub 144115188130381824 G = true) : Step G s0 (State.boxRead s x1 x2) := by
  unfold State.boxRead
  try dsimp only
  repeat' first
    | with_reducible assumption
    | ((with_reducible refine sub_trans ?_ hG); exact rfl)
    | with_reducible apply State.draw_step
    | with_reducible apply State.boxAnswer_step
    | with_reducible refine Step.ite (fun _ => ?_) (fun _ => ?_)
    | with_reducible apply foldl_step
    | with_reducible apply foldlFst_step
    | with_reducible intro _
    | with_reducible refine Step.ofFst (by assumption) ?_
    | with_reducible refine StepE.named (by assumption) ?_
    | with_reducible refine StepP.named (by assumption) ?_
    | split

theorem State.boxImage_step {G : Nat} {s0 s : State} {x1} {x2} {x3} {x4} (h : Step G s0 s)
    (hG : sub 108103985388061872 G = true) : Step G s0 (State.boxImage s x1 x2 x3 x4) := by
  unfold State.boxImage
  try dsimp only
  repeat' first
    | with_reducible assumption
    | ((with_reducible refine sub_trans ?_ hG); exact rfl)
    | with_reducible apply State.setBox_step
    | with_reducible apply State.chunkEnd_step
    | with_reducible apply State.boxAnswer_step
    | with_reducible apply State.imageBytes_step
    | with_reducible refine Step.ite (fun _ => ?_) (fun _ => ?_)

theorem State.boxDomain_step {G : Nat} {s0 s : State} {x1} {x2} (h : Step G s0 s)
    (hG : sub 108103985388061872 G = true) : Step G s0 (State.boxDomain s x1 x2) := by
  unfold State.boxDomain
  try dsimp only
  repeat' first
    | with_reducible assumption
    | ((with_reducible refine sub_trans ?_ hG); exact rfl)
    | with_reducible apply State.boxImage_step
    | with_reducible apply State.setBox_step
    | with_reducible apply State.boxAnswer_step
    | ((with_reducible refine Step.put (F := 108103985388061872) ?_ hG ?_ ?_); rotate_left; (fail_if_success (with_reducible exact Same.refl _ _)); exact rfl; (first | with_reducible exact State.Inv.congr rfl rfl rfl rfl rfl rfl rfl id id id))
    | with_reducible refine Step.ite (fun _ => ?_) (fun _ => ?_)
    | with_reducible apply foldl_step
    | with_reducible apply foldlFst_step
    | with_reducible intro _
    | with_reducible refine Step.ofFst (by assumption) ?_
    | with_reducible refine StepE.named (by assumption) ?_
    | with_reducible refine StepP.named (by assumption) ?_
    | split

theorem State.boxWrite_step {G : Nat} {s0 s : State} {x1} {x2} (h : Step G s0 s)
    (hG : sub 288088539151691774 G = true) : Step G s0 (State.boxWrite s x1 x2) := by
  unfold State.boxWrite
  try dsimp only
  repeat' first
    | with_reducible assumption
    | ((with_reducible refine sub_trans ?_ hG); exact rfl)
    | with_reducible apply fxWrite_step
    | with_reducible apply State.heldServe_step
    | with_reducible apply State.tryWrite_step
    | with_reducible apply State.boxDomain_step
    | with_reducible apply State.boxAnswer_step
    | with_reducible refine Step.ite (fun _ => ?_) (fun _ => ?_)
    | with_reducible refine StepE.ite (fun _ => ?_) (fun _ => ?_)
    | with_reducible exact StepE.error
    | with_reducible apply StepE.ok
    | with_reducible apply foldl_step
    | with_reducible apply foldlFst_step
    | with_reducible intro _
    | with_reducible refine Step.ofFst (by assumption) ?_
    | with_reducible refine StepE.named (by assumption) ?_
    | with_reducible refine StepP.named (by assumption) ?_
    | split

theorem State.boxGo_step {G : Nat} {s0 s : State} {x1} {x2} {x3} (h : Step G s0 s) (he : ∀ u, Step G s0 u → Step G s0 (x3 u))
    (hG : sub 54525952 G = true) : Step G s0 (State.boxGo s x1 x2 x3) := by
  unfold State.boxGo
  try dsimp only
  repeat' first
    | with_reducible assumption
    | ((with_reducible refine sub_trans ?_ hG); exact rfl)
    | with_reducible apply State.setBox_step
    | with_reducible apply State.bump32_step
    | with_reducible apply State.boxAnswer_step
    | with_reducible refine Step.ite (fun _ => ?_) (fun _ => ?_)
    | with_reducible apply foldl_step
    | with_reducible apply foldlFst_step
    | with_reducible intro _
    | with_reducible refine Step.ofFst (by assumption) ?_
    | with_reducible refine StepE.named (by assumption) ?_
    | with_reducible refine StepP.named (by assumption) ?_
    | with_reducible apply he

theorem execMailboxRead_step {G : Nat} {s0 s : State} {x1} {x2} (h : Step G s0 s)
    (hG : sub 225197577847178416 G = true) : StepO G s0 (execMailboxRead x1 x2 s) := by
  unfold execMailboxRead
  try dsimp only
  repeat' first
    | with_reducible assumption
    | ((with_reducible refine sub_trans ?_ hG); exact rfl)
    | with_reducible apply State.boxRead_step
    | with_reducible apply State.boxGo_step
    | with_reducible apply whenSettled_step
    | with_reducible refine Step.ite (fun _ => ?_) (fun _ => ?_)
    | with_reducible refine StepO.ite (fun _ => ?_) (fun _ => ?_)
    | with_reducible apply StepO.next
    | with_reducible apply foldl_step
    | with_reducible apply foldlFst_step
    | with_reducible intro _

theorem execMailboxWrite_step {G : Nat} {s0 s : State} {x1} {x2} (h : Step G s0 s)
    (hG : sub 288088539151691774 G = true) : StepO G s0 (execMailboxWrite x1 x2 s) := by
  unfold execMailboxWrite
  try dsimp only
  repeat' first
    | with_reducible assumption
    | ((with_reducible refine sub_trans ?_ hG); exact rfl)
    | with_reducible apply State.boxGo_step
    | with_reducible apply whenSettled_step
    | with_reducible apply State.boxWrite_step
    | with_reducible refine Step.ite (fun _ => ?_) (fun _ => ?_)
    | with_reducible refine StepO.ite (fun _ => ?_) (fun _ => ?_)
    | with_reducible apply StepO.next
    | with_reducible apply foldl_step
    | with_reducible apply foldlFst_step
    | with_reducible intro _

theorem execMailboxAbort_step {G : Nat} {s0 s : State} {x1} {x2} (h : Step G s0 s)
    (hG : sub 117111186790286512 G = true) : StepO G s0 (execMailboxAbort x1 x2 s) := by
  unfold execMailboxAbort
  try dsimp only
  repeat' first
    | with_reducible assumption
    | ((with_reducible refine sub_trans ?_ hG); exact rfl)
    | with_reducible apply State.chunkEnd_step
    | with_reducible apply State.boxGo_step
    | with_reducible apply whenSettled_step
    | with_reducible apply State.boxAnswer_step
    | with_reducible refine Step.ite (fun _ => ?_) (fun _ => ?_)
    | with_reducible refine StepO.ite (fun _ => ?_) (fun _ => ?_)
    | with_reducible apply StepO.next
    | with_reducible apply foldl_step
    | with_reducible apply foldlFst_step
    | with_reducible intro _

theorem execMailboxComplete_step {G : Nat} {s0 s : State} {x1} (h : Step G s0 s)
    (hG : sub 72057594092454912 G = true) : StepO G s0 (execMailboxComplete x1 s) := by
  unfold execMailboxComplete
  try dsimp only
  repeat' first
    | with_reducible assumption
    | ((with_reducible refine sub_trans ?_ hG); exact rfl)
    | with_reducible apply State.setBox_step
    | with_reducible apply State.bump32_step
    | with_reducible apply State.raise_step
    | with_reducible apply whenDue_step
    | with_reducible refine Step.ite (fun _ => ?_) (fun _ => ?_)
    | with_reducible refine StepO.ite (fun _ => ?_) (fun _ => ?_)
    | with_reducible apply StepO.next
    | with_reducible apply foldl_step
    | with_reducible apply foldlFst_step
    | with_reducible intro _
    | with_reducible refine Step.ofFst (by assumption) ?_
    | with_reducible refine StepE.named (by assumption) ?_
    | with_reducible refine StepP.named (by assumption) ?_
    | split

theorem execMailboxDoneClear_step {G : Nat} {s0 s : State} {x1} (h : Step G s0 s)
    (hG : sub 50331648 G = true) : StepO G s0 (execMailboxDoneClear x1 s) := by
  unfold execMailboxDoneClear
  try dsimp only
  repeat' first
    | with_reducible assumption
    | with_reducible apply State.setBox_step
    | with_reducible apply whenDue_step

theorem execMailboxChunkTimeout_step {G : Nat} {s0 s : State} {x1} (h : Step G s0 s)
    (hG : sub 117111186790286513 G = true) : StepO G s0 (execMailboxChunkTimeout x1 s) := by
  unfold execMailboxChunkTimeout
  try dsimp only
  repeat' first
    | with_reducible assumption
    | ((with_reducible refine sub_trans ?_ hG); exact rfl)
    | with_reducible apply State.setBox_step
    | with_reducible apply whenSettled_step
    | with_reducible apply State.chunkEnd_step
    | with_reducible apply State.aborted_step
    | with_reducible apply State.bump32_step
    | with_reducible apply State.advanceTo_step
    | with_reducible refine Step.ite (fun _ => ?_) (fun _ => ?_)
    | with_reducible refine StepO.ite (fun _ => ?_) (fun _ => ?_)
    | with_reducible apply StepO.next
    | with_reducible apply foldl_step
    | with_reducible apply foldlFst_step
    | with_reducible intro _
    | with_reducible refine Step.ofFst (by assumption) ?_
    | with_reducible refine StepE.named (by assumption) ?_
    | with_reducible refine StepP.named (by assumption) ?_
    | split

/-! ### Injection -/

theorem State.injCount_step {G : Nat} {s0 s : State} {x1} {x2} (h : Step G s0 s)
    (hG : sub 17729629192192 G = true) : Step G s0 (State.injCount s x1 x2) := by
  unfold State.injCount
  try dsimp only
  repeat' first
    | with_reducible assumption
    | ((with_reducible refine sub_trans ?_ hG); exact rfl)
    | with_reducible apply State.portCount_step
    | with_reducible apply State.segCount_step
    | with_reducible apply State.beatCount_step
    | with_reducible apply State.bump64_step
    | with_reducible apply State.tileBump_step
    | with_reducible refine Step.ite (fun _ => ?_) (fun _ => ?_)
    | with_reducible apply foldl_step
    | with_reducible apply foldlFst_step
    | with_reducible intro _
    | with_reducible refine Step.ofFst (by assumption) ?_
    | with_reducible refine StepE.named (by assumption) ?_
    | with_reducible refine StepP.named (by assumption) ?_
    | split

theorem State.injReport_step {G : Nat} {s0 s : State} {x1} {x2} (h : Step G s0 s)
    (hG : sub 72075188318766256 G = true) : Step G s0 (State.injReport s x1 x2) := by
  unfold State.injReport
  try dsimp only
  repeat' first
    | with_reducible assumption
    | ((with_reducible refine sub_trans ?_ hG); exact rfl)
    | with_reducible apply State.emcyEvent_step
    | with_reducible apply State.emcyPower_step
    | with_reducible apply State.emcy_step
    | with_reducible refine Step.ite (fun _ => ?_) (fun _ => ?_)
    | with_reducible apply foldl_step
    | with_reducible apply foldlFst_step
    | with_reducible intro _
    | with_reducible refine Step.ofFst (by assumption) ?_
    | with_reducible refine StepE.named (by assumption) ?_
    | with_reducible refine StepP.named (by assumption) ?_
    | split

theorem State.injFire_step {G : Nat} {s0 s : State} {x1} {x2} (h : Step G s0 s)
    (hG : sub 72075325757719728 G = true) : Step G s0 (State.injFire s x1 x2) := by
  unfold State.injFire
  try dsimp only
  repeat' first
    | with_reducible assumption
    | ((with_reducible refine sub_trans ?_ hG); exact rfl)
    | with_reducible apply State.injCount_step
    | with_reducible apply State.fireFull_step
    | with_reducible apply State.injReport_step

theorem State.injLane_step {G : Nat} {s0 s : State} {x1} {x2} (h : Step G s0 s)
    (hG : sub 72075364412425394 G = true) : StepP G s0 (State.injLane s x1 x2) := by
  unfold State.injLane
  try dsimp only
  repeat' first
    | with_reducible assumption
    | ((with_reducible refine sub_trans ?_ hG); exact rfl)
    | with_reducible apply State.laneFails_step
    | ((with_reducible refine Step.put (F := 72075364412425394) ?_ hG ?_ ?_); rotate_left; (fail_if_success (with_reducible exact Same.refl _ _)); exact rfl; (first | with_reducible exact State.Inv.congr rfl rfl rfl rfl rfl rfl rfl id id id))
    | with_reducible refine Step.ite (fun _ => ?_) (fun _ => ?_)
    | with_reducible refine StepP.ite (fun _ => ?_) (fun _ => ?_)
    | with_reducible exact StepP.none
    | with_reducible apply StepP.some
    | with_reducible refine StepP.map fun _ => ?_
    | with_reducible apply foldl_step
    | with_reducible apply foldlFst_step
    | with_reducible intro _
    | with_reducible refine Step.ofFst (by assumption) ?_
    | with_reducible refine StepE.named (by assumption) ?_
    | with_reducible refine StepP.named (by assumption) ?_
    | split
    | dsimp only

theorem State.injPass_step {G : Nat} {s0 s : State} {x1} (h : Step G s0 s)
    (hG : sub 1006632962 G = true) : StepP G s0 (State.injPass s x1) := by
  unfold State.injPass
  try dsimp only
  repeat' first
    | with_reducible assumption
    | ((with_reducible refine sub_trans ?_ hG); exact rfl)
    | with_reducible apply State.fire_step
    | ((with_reducible refine Step.put (F := 1006632962) ?_ hG ?_ ?_); rotate_left; (fail_if_success (with_reducible exact Same.refl _ _)); exact rfl; (first | with_reducible exact State.Inv.congr rfl rfl rfl rfl rfl rfl rfl id id id))
    | with_reducible refine Step.ite (fun _ => ?_) (fun _ => ?_)
    | with_reducible refine StepP.ite (fun _ => ?_) (fun _ => ?_)
    | with_reducible exact StepP.none
    | with_reducible apply StepP.some
    | with_reducible refine StepP.map fun _ => ?_
    | with_reducible apply foldl_step
    | with_reducible apply foldlFst_step
    | with_reducible intro _
    | with_reducible refine Step.ofFst (by assumption) ?_
    | with_reducible refine StepE.named (by assumption) ?_
    | with_reducible refine StepP.named (by assumption) ?_
    | split
    | dsimp only

theorem State.injTile_step {G : Nat} {s0 s : State} {x1} {x2} (h : Step G s0 s)
    (hG : sub 144115330820603904 G = true) : StepP G s0 (State.injTile s x1 x2) := by
  unfold State.injTile
  try dsimp only
  repeat' first
    | with_reducible assumption
    | ((with_reducible refine sub_trans ?_ hG); exact rfl)
    | with_reducible apply State.coldRead_step
    | with_reducible apply State.programFault_step
    | with_reducible apply State.tileFails_step
    | with_reducible apply State.trap_step
    | with_reducible apply State.boundFault_step
    | with_reducible apply State.draw_step
    | with_reducible apply State.taskFault_step
    | with_reducible refine Step.ite (fun _ => ?_) (fun _ => ?_)
    | with_reducible refine StepP.ite (fun _ => ?_) (fun _ => ?_)
    | with_reducible exact StepP.none
    | with_reducible apply StepP.some
    | with_reducible refine StepP.map fun _ => ?_
    | with_reducible apply foldl_step
    | with_reducible apply foldlFst_step
    | with_reducible intro _
    | with_reducible refine Step.ofFst (by assumption) ?_
    | with_reducible refine StepE.named (by assumption) ?_
    | with_reducible refine StepP.named (by assumption) ?_
    | split

theorem State.injSeg_step {G : Nat} {s0 s : State} {x1} {x2} (h : Step G s0 s)
    (hG : sub 216204278121647240 G = true) : StepP G s0 (State.injSeg s x1 x2) := by
  unfold State.injSeg
  try dsimp only
  repeat' first
    | with_reducible assumption
    | ((with_reducible refine sub_trans ?_ hG); exact rfl)
    | with_reducible apply State.nvmeTimeout_step
    | with_reducible apply State.nvmeFailAll_step
    | with_reducible apply State.nvmeReset_step
    | with_reducible apply State.fire_step
    | with_reducible apply State.suspect_step
    | with_reducible apply State.flashDown_step
    | with_reducible apply State.segCount_step
    | with_reducible apply State.nvmeFail_step
    | with_reducible apply State.setSeg_step
    | with_reducible refine Step.ite (fun _ => ?_) (fun _ => ?_)
    | with_reducible refine StepP.ite (fun _ => ?_) (fun _ => ?_)
    | with_reducible exact StepP.none
    | with_reducible apply StepP.some
    | with_reducible refine StepP.map fun _ => ?_
    | with_reducible apply foldl_step
    | with_reducible apply foldlFst_step
    | with_reducible intro _
    | with_reducible refine Step.ofFst (by assumption) ?_
    | with_reducible refine StepE.named (by assumption) ?_
    | with_reducible refine StepP.named (by assumption) ?_
    | split

theorem State.injLink_step {G : Nat} {s0 s : State} {x1} {x2} (h : Step G s0 s)
    (hG : sub 219397260970847420 G = true) : StepP G s0 (State.injLink s x1 x2) := by
  unfold State.injLink
  try dsimp only
  repeat' first
    | with_reducible assumption
    | ((with_reducible refine sub_trans ?_ hG); exact rfl)
    | with_reducible apply State.loseLock_step
    | with_reducible apply State.linkDrop_step
    | with_reducible apply State.connError_step
    | with_reducible apply State.limitReached_step
    | with_reducible apply State.portDown_step
    | with_reducible apply State.fire_step
    | with_reducible apply State.connFail_step
    | with_reducible apply State.draw_step
    | with_reducible apply State.suspect_step
    | with_reducible apply State.setHost_step
    | with_reducible refine Step.ite (fun _ => ?_) (fun _ => ?_)
    | with_reducible refine StepP.ite (fun _ => ?_) (fun _ => ?_)
    | with_reducible exact StepP.none
    | with_reducible apply StepP.some
    | with_reducible refine StepP.map fun _ => ?_
    | with_reducible apply foldl_step
    | with_reducible apply foldlFst_step
    | with_reducible intro _
    | with_reducible refine Step.ofFst (by assumption) ?_
    | with_reducible refine StepE.named (by assumption) ?_
    | with_reducible refine StepP.named (by assumption) ?_
    | split

theorem State.injBrown_step {G : Nat} {s0 s : State} {x1} {x2} (h : Step G s0 s)
    (hG : sub 76578787946136752 G = true) : Step G s0 (State.injBrown s x1 x2) := by
  unfold State.injBrown
  try dsimp only
  repeat' first
    | with_reducible assumption
    | ((with_reducible refine sub_trans ?_ hG); exact rfl)
    | with_reducible apply State.brownOut_step
    | with_reducible apply State.setPanelPower_step
    | with_reducible apply State.fire_step

theorem State.injPanelReset_step {G : Nat} {s0 s : State} {x1} {x2} (h : Step G s0 s)
    (hG : sub 76578964039795890 G = true) : Step G s0 (State.injPanelReset s x1 x2) := by
  unfold State.injPanelReset
  try dsimp only
  repeat' first
    | with_reducible assumption
    | ((with_reducible refine sub_trans ?_ hG); exact rfl)
    | with_reducible apply State.setPanelPower_step
    | with_reducible apply State.emcyPower_step
    | with_reducible apply State.panelReset_step
    | with_reducible apply State.fire_step

theorem State.injInput_step {G : Nat} {s0 s : State} {x1} (h : Step G s0 s)
    (hG : sub 125958950418870266 G = true) : Step G s0 (State.injInput s x1) := by
  unfold State.injInput
  try dsimp only
  repeat' first
    | with_reducible assumption
    | with_reducible apply State.inputState_step

theorem State.refBack_step {G : Nat} {s0 s : State}  (h : Step G s0 s)
    (hG : sub 4503599627370496 G = true) : Step G s0 (State.refBack s) := by
  unfold State.refBack
  try dsimp only
  repeat' first
    | with_reducible assumption
    | ((with_reducible refine sub_trans ?_ hG); exact rfl)
    | ((with_reducible refine Step.put (F := 4503599627370496) ?_ hG ?_ ?_); rotate_left; (fail_if_success (with_reducible exact Same.refl _ _)); exact rfl; (first | with_reducible exact State.Inv.congr rfl rfl rfl rfl rfl rfl rfl id id id))
    | with_reducible refine Step.ite (fun _ => ?_) (fun _ => ?_)
    | with_reducible apply foldl_step
    | with_reducible apply foldlFst_step
    | with_reducible intro _
    | with_reducible refine Step.ofFst (by assumption) ?_
    | with_reducible refine StepE.named (by assumption) ?_
    | with_reducible refine StepP.named (by assumption) ?_
    | split
    | dsimp only

theorem State.injSupply_step {G : Nat} {s0 s : State} {x1} {x2} (h : Step G s0 s)
    (hG : sub 270074138494726142 G = true) : StepP G s0 (State.injSupply s x1 x2) := by
  unfold State.injSupply
  try dsimp only
  repeat' first
    | with_reducible assumption
    | ((with_reducible refine sub_trans ?_ hG); exact rfl)
    | with_reducible apply State.refBack_step
    | with_reducible apply State.injInput_step
    | with_reducible apply State.referenceLost_step
    | with_reducible apply State.referenceGone_step
    | with_reducible apply State.clockFault_step
    | with_reducible apply State.limitTake_step
    | with_reducible refine Step.ite (fun _ => ?_) (fun _ => ?_)
    | with_reducible refine StepP.ite (fun _ => ?_) (fun _ => ?_)
    | with_reducible exact StepP.none
    | with_reducible apply StepP.some
    | with_reducible refine StepP.map fun _ => ?_
    | with_reducible apply foldl_step
    | with_reducible apply foldlFst_step
    | with_reducible intro _
    | with_reducible refine Step.ofFst (by assumption) ?_
    | with_reducible refine StepE.named (by assumption) ?_
    | with_reducible refine StepP.named (by assumption) ?_
    | split
    | dsimp only

theorem State.injPower_step {G : Nat} {s0 s : State} {x1} {x2} (h : Step G s0 s)
    (hG : sub 270074138494726142 G = true) : StepP G s0 (State.injPower s x1 x2) := by
  unfold State.injPower
  try dsimp only
  repeat' first
    | with_reducible assumption
    | ((with_reducible refine sub_trans ?_ hG); exact rfl)
    | with_reducible apply State.injBrown_step
    | with_reducible apply State.emcyPower_step
    | with_reducible apply State.trip_step
    | with_reducible apply State.fire_step
    | with_reducible apply State.injSupply_step
    | with_reducible apply State.injPanelReset_step
    | with_reducible apply State.railFails_step
    | with_reducible refine Step.ite (fun _ => ?_) (fun _ => ?_)
    | with_reducible refine StepP.ite (fun _ => ?_) (fun _ => ?_)
    | with_reducible exact StepP.none
    | with_reducible apply StepP.some
    | with_reducible refine StepP.map fun _ => ?_
    | with_reducible apply foldl_step
    | with_reducible apply foldlFst_step
    | with_reducible intro _
    | with_reducible refine Step.ofFst (by assumption) ?_
    | with_reducible refine StepE.named (by assumption) ?_
    | with_reducible refine StepP.named (by assumption) ?_
    | split

theorem State.injYoke_step {G : Nat} {s0 s : State} {x1} {x2} (h : Step G s0 s)
    (hG : sub 270074140642209786 G = true) : StepP G s0 (State.injYoke s x1 x2) := by
  unfold State.injYoke
  try dsimp only
  repeat' first
    | with_reducible assumption
    | ((with_reducible refine sub_trans ?_ hG); exact rfl)
    | with_reducible apply State.fireFull_step
    | with_reducible apply State.fire_step
    | with_reducible apply State.yokeStartBad_step
    | with_reducible apply State.noPowerGood_step
    | with_reducible apply State.healthFail_step
    | with_reducible apply State.bump64_step
    | with_reducible apply State.yokeFail_step
    | with_reducible apply State.emcyEvent_step
    | with_reducible apply State.collarReset_step
    | with_reducible apply State.orderlyShutdown_step
    | with_reducible apply State.suspect_step
    | with_reducible apply State.phaseCheck_step
    | with_reducible apply State.segFailed_step
    | ((with_reducible refine Step.put (F := 270074140642209786) ?_ hG ?_ ?_); rotate_left; (fail_if_success (with_reducible exact Same.refl _ _)); exact rfl; (first | with_reducible exact State.Inv.congr rfl rfl rfl rfl rfl rfl rfl id id id))
    | with_reducible refine Step.ite (fun _ => ?_) (fun _ => ?_)
    | with_reducible refine StepP.ite (fun _ => ?_) (fun _ => ?_)
    | with_reducible exact StepP.none
    | with_reducible apply StepP.some
    | with_reducible refine StepP.map fun _ => ?_
    | with_reducible apply foldl_step
    | with_reducible apply foldlFst_step
    | with_reducible intro _
    | with_reducible refine Step.ofFst (by assumption) ?_
    | with_reducible refine StepE.named (by assumption) ?_
    | with_reducible refine StepP.named (by assumption) ?_
    | split
    | dsimp only

theorem State.injNode_step {G : Nat} {s0 s : State} {x1} {x2} (h : Step G s0 s)
    (hG : sub 270074138494726138 G = true) : StepP G s0 (State.injNode s x1 x2) := by
  unfold State.injNode
  try dsimp only
  repeat' first
    | with_reducible assumption
    | ((with_reducible refine sub_trans ?_ hG); exact rfl)
    | with_reducible apply State.sdoBreak_step
    | with_reducible apply State.enterPassive_step
    | with_reducible apply State.enterBusOff_step
    | with_reducible apply State.commBehaviour_step
    | with_reducible apply State.programError_step
    | with_reducible apply State.healthFail_step
    | with_reducible apply State.fallback_step
    | with_reducible apply State.emcy_step
    | with_reducible apply State.fire_step
    | with_reducible refine Step.ite (fun _ => ?_) (fun _ => ?_)
    | with_reducible refine StepP.ite (fun _ => ?_) (fun _ => ?_)
    | with_reducible exact StepP.none
    | with_reducible apply StepP.some
    | with_reducible refine StepP.map fun _ => ?_
    | with_reducible apply foldl_step
    | with_reducible apply foldlFst_step
    | with_reducible intro _
    | with_reducible refine Step.ofFst (by assumption) ?_
    | with_reducible refine StepE.named (by assumption) ?_
    | with_reducible refine StepP.named (by assumption) ?_
    | split
    | dsimp only

theorem State.injAct_step {G : Nat} {s0 s : State} {x1} {x2} (h : Step G s0 s)
    (hG : sub 270074140642209790 G = true) : StepP G s0 (State.injAct s x1 x2) := by
  unfold State.injAct
  try dsimp only
  repeat' first
    | with_reducible assumption
    | ((with_reducible refine sub_trans ?_ hG); exact rfl)
    | with_reducible apply State.injPower_step
    | with_reducible apply State.injLane_step
    | with_reducible apply State.injTile_step
    | with_reducible apply State.injYoke_step
    | with_reducible apply State.injSeg_step
    | with_reducible apply State.injNode_step
    | with_reducible apply State.injPass_step
    | with_reducible apply State.injLink_step
    | with_reducible refine Step.ite (fun _ => ?_) (fun _ => ?_)
    | with_reducible refine StepP.ite (fun _ => ?_) (fun _ => ?_)
    | with_reducible exact StepP.none
    | with_reducible apply StepP.some
    | with_reducible refine StepP.map fun _ => ?_
    | with_reducible apply foldl_step
    | with_reducible apply foldlFst_step
    | with_reducible intro _
    | with_reducible refine Step.ofFst (by assumption) ?_
    | with_reducible refine StepE.named (by assumption) ?_
    | with_reducible refine StepP.named (by assumption) ?_
    | split

theorem State.injOnce_step {G : Nat} {s0 s : State}  (h : Step G s0 s)
    (hG : sub 270074140642209790 G = true) : Step G s0 (State.injOnce s) := by
  unfold State.injOnce
  try dsimp only
  repeat' first
    | with_reducible assumption
    | ((with_reducible refine sub_trans ?_ hG); exact rfl)
    | with_reducible apply State.injFire_step
    | with_reducible apply State.injAct_step
    | ((with_reducible refine Step.put (F := 270074140642209790) ?_ hG ?_ ?_); rotate_left; (fail_if_success (with_reducible exact Same.refl _ _)); exact rfl; (first | with_reducible exact State.Inv.congr rfl rfl rfl rfl rfl rfl rfl id id id))
    | with_reducible refine Step.ite (fun _ => ?_) (fun _ => ?_)
    | with_reducible apply foldl_step
    | with_reducible apply foldlFst_step
    | with_reducible intro _
    | with_reducible refine Step.ofFst (by assumption) ?_
    | with_reducible refine StepE.named (by assumption) ?_
    | with_reducible refine StepP.named (by assumption) ?_
    | split

theorem execInjectionFire_step {G : Nat} {s0 s : State}  (h : Step G s0 s)
    (hG : sub 288088539151691774 G = true) : StepO G s0 (execInjectionFire s) := by
  unfold execInjectionFire
  try dsimp only
  repeat' first
    | with_reducible assumption
    | ((with_reducible refine sub_trans ?_ hG); exact rfl)
    | with_reducible apply State.heldServe_step
    | with_reducible apply whenSettled_step
    | with_reducible apply State.injOnce_step

end Sys2Proof.Machine
end

