-- ==== Sys2Proof/Laws/KeepCores.lean ====
section
/-! SUPPORT. Every state function of prep cores:
the fields that it may change, and that it keeps the invariant. -/

-- One proof at a time, as in Keep.lean.
set_option Elab.async false
-- Every proof here tries the same few tactics in the same order, and not each of them meets a goal.
set_option linter.unusedTactic false
set_option linter.unreachableTactic false

namespace Sys2Proof.Machine

/-! ### PrepCore -/

theorem State.fetch_step {G : Nat} {s0 s : State} {k : Nat} {c : Core} {t : State} (h : Step G s0 s)
    (hG : sub 142744748032 G = true) (e : s.fetch k c = .ended t ∨ s.fetch k c = .fault t ∨ (∃ w n, s.fetch k c = .word t w n) ∨
      s.fetch k c = .odd t) : Step G s0 t := by
  have g : ∀ M, sub M 142744748032 = true → sub M G = true := fun _ hM => sub_trans hM hG
  unfold State.fetch at e
  dsimp only at e
  have r : ∀ {u : State} {a b d f : Nat} {v : State} {o : Option (List Byte)}, Step G s0 u → u.taskRead a .w b d f (coreNum c) = (v, o) →
      Step G s0 v := fun hu he => Step.ofFst he (State.taskRead_step hu (g _ rfl))
  rcases e with e | e | ⟨w, n, e⟩ | e <;>
  · repeat' split at e
    all_goals first
      | cases e; exact h
      | cases e; exact r (r h ‹_›) ‹_›
      | cases e; exact r h ‹_›
      | cases e

theorem State.coreLoad_step {G : Nat} {s0 s : State} {k : Nat} {c : Core} {a n : Nat} {t : State} (h : Step G s0 s)
    (hG : sub 144115330820603904 G = true) (e : (∃ v, s.coreLoad k c a n = .ok t v) ∨ s.coreLoad k c a n = .stall t ∨ s.coreLoad k c a n = .ended t) :
    Step G s0 t := by
  have g : ∀ M, sub M 144115330820603904 = true → sub M G = true := fun _ hM => sub_trans hM hG
  unfold State.coreLoad at e
  dsimp only at e
  rcases e with ⟨v, e⟩ | e | e <;>
  · repeat' split at e
    all_goals first
      | cases e; exact Step.ofFst ‹_› (State.taskRead_step h (g _ rfl))
      | cases e; exact State.setTile_step h (g _ rfl)
      | cases e; exact State.pathStall_step h (g _ rfl)
      | cases e

theorem State.coreRegWrite_step {G : Nat} {s0 s : State} {x1} {x2} {x3} {x4} {x5} (h : Step G s0 s)
    (hG : sub 138445586432 G = true) : Step G s0 (State.coreRegWrite s x1 x2 x3 x4 x5) := by
  unfold State.coreRegWrite
  try dsimp only
  repeat' first
    | with_reducible assumption
    | ((with_reducible refine sub_trans ?_ hG); exact rfl)
    | with_reducible apply State.regionAdv_step
    | with_reducible apply State.setTile_step
    | with_reducible refine Step.ite (fun _ => ?_) (fun _ => ?_)

theorem State.coreStore_step {G : Nat} {s0 s : State} {k : Nat} {c : Core} {a n v : Nat} {t : State} (h : Step G s0 s)
    (hG : sub 144115330820603904 G = true) (e : (∃ w, s.coreStore k c a n v = .ok t w) ∨ s.coreStore k c a n v = .stall t ∨ s.coreStore k c a n v = .ended t) :
    Step G s0 t := by
  have g : ∀ M, sub M 144115330820603904 = true → sub M G = true := fun _ hM => sub_trans hM hG
  unfold State.coreStore at e
  dsimp only at e
  rcases e with ⟨w, e⟩ | e | e <;>
  · repeat' split at e
    all_goals first
      | cases e; exact Step.ofFst ‹_› (State.taskWrite_step h (g _ rfl))
      | cases e; exact State.coreRegWrite_step h (g _ rfl)
      | cases e; exact State.pathStall_step h (g _ rfl)
      | cases e

theorem State.csrOp_step {G : Nat} {s0 s : State} {x1} {x2} {x3} {x4} (h : Step G s0 s)
    (hG : sub 144115325514809344 G = true) : StepP G s0 (State.csrOp s x1 x2 x3 x4) := by
  unfold State.csrOp
  try dsimp only
  repeat' first
    | with_reducible assumption
    | ((with_reducible refine sub_trans ?_ hG); exact rfl)
    | with_reducible apply State.draw_step
    | with_reducible apply State.retire_step
    | with_reducible apply State.setTile_step
    | with_reducible refine Step.ite (fun _ => ?_) (fun _ => ?_)
    | with_reducible refine StepP.ite (fun _ => ?_) (fun _ => ?_)
    | with_reducible exact StepP.none
    | with_reducible apply StepP.some
    | with_reducible refine StepP.map fun _ => ?_
    | with_reducible apply foldl_step
    | with_reducible apply foldlFst_step
    | with_reducible intro _
    | with_reducible refine Step.ofFst (by assumption) ?_
    | with_reducible refine StepE.named (by assumption) ?_
    | with_reducible refine StepP.named (by assumption) ?_
    | split

theorem State.baseOp_step {G : Nat} {s0 s : State} {x1} {x2} {x3} {x4} (h : Step G s0 s)
    (hG : sub 144115330820603904 G = true) : Step G s0 (State.baseOp s x1 x2 x3 x4) := by
  unfold State.baseOp
  try dsimp only
  repeat' first
    | with_reducible assumption
    | ((with_reducible refine sub_trans ?_ hG); exact rfl)
    | with_reducible apply State.csrOp_step
    | with_reducible refine State.coreStore_step ?_ (sub_trans rfl hG) (Or.inl ⟨_, by assumption⟩)
    | with_reducible refine State.coreStore_step ?_ (sub_trans rfl hG) (Or.inr (Or.inl (by assumption)))
    | with_reducible refine State.coreStore_step ?_ (sub_trans rfl hG) (Or.inr (Or.inr (by assumption)))
    | with_reducible refine State.coreLoad_step ?_ (sub_trans rfl hG) (Or.inl ⟨_, by assumption⟩)
    | with_reducible refine State.coreLoad_step ?_ (sub_trans rfl hG) (Or.inr (Or.inl (by assumption)))
    | with_reducible refine State.coreLoad_step ?_ (sub_trans rfl hG) (Or.inr (Or.inr (by assumption)))
    | with_reducible apply State.trap_step
    | with_reducible apply State.retire_step
    | with_reducible refine Step.ite (fun _ => ?_) (fun _ => ?_)
    | with_reducible apply foldl_step
    | with_reducible apply foldlFst_step
    | with_reducible intro _
    | with_reducible refine Step.ofFst (by assumption) ?_
    | with_reducible refine StepE.named (by assumption) ?_
    | with_reducible refine StepP.named (by assumption) ?_
    | split
    | dsimp only

theorem execPrepCoreInstruction_step {G : Nat} {s0 s : State} {x1} {x2} {x3} (h : Step G s0 s)
    (hG : sub 144115330820603904 G = true) : StepO G s0 (execPrepCoreInstruction x1 x2 x3 s) := by
  unfold execPrepCoreInstruction
  try dsimp only
  repeat' first
    | with_reducible assumption
    | ((with_reducible refine sub_trans ?_ hG); exact rfl)
    | with_reducible apply State.baseOp_step
    | with_reducible refine State.fetch_step ?_ (sub_trans rfl hG) (Or.inr (Or.inr (Or.inl ⟨_, _, by assumption⟩)))
    | with_reducible refine State.fetch_step ?_ (sub_trans rfl hG) (Or.inr (Or.inr (Or.inr (by assumption))))
    | with_reducible refine State.fetch_step ?_ (sub_trans rfl hG) (Or.inr (Or.inl (by assumption)))
    | with_reducible refine State.fetch_step ?_ (sub_trans rfl hG) (Or.inl (by assumption))
    | with_reducible apply State.trap_step
    | with_reducible apply State.setTile_step
    | with_reducible refine Step.ite (fun _ => ?_) (fun _ => ?_)
    | with_reducible refine StepO.ite (fun _ => ?_) (fun _ => ?_)
    | with_reducible apply StepO.next
    | with_reducible apply foldl_step
    | with_reducible apply foldlFst_step
    | with_reducible intro _
    | with_reducible refine Step.ofFst (by assumption) ?_
    | with_reducible refine StepE.named (by assumption) ?_
    | with_reducible refine StepP.named (by assumption) ?_
    | split
    | dsimp only

/-! ### TileExt -/

/-- What an extension instruction leaves is in `Step`. -/
def StepX (F : Nat) (s : State) (o : ExtOut) : Prop := ∀ t, ((∃ v, o = .done t v) ∨ o = .stall t ∨ o = .ended t) → Step F s t

theorem StepX.done {G : Nat} {s0 t : State} {v : Option Nat} (h : Step G s0 t) : StepX G s0 (.done t v) := by
  rintro u (⟨w, e⟩ | e | e) <;> cases e; exact h
theorem StepX.stall {G : Nat} {s0 t : State} (h : Step G s0 t) : StepX G s0 (.stall t) := by
  rintro u (⟨w, e⟩ | e | e) <;> cases e; exact h
theorem StepX.ended {G : Nat} {s0 t : State} (h : Step G s0 t) : StepX G s0 (.ended t) := by
  rintro u (⟨w, e⟩ | e | e) <;> cases e; exact h
theorem StepX.trap {G : Nat} {s0 : State} {q : Nat} : StepX G s0 (.trap q) := by
  rintro u (⟨w, e⟩ | e | e) <;> cases e
theorem StepX.named {G : Nat} {s0 t : State} {o : ExtOut} (h : StepX G s0 o) (e : (∃ v, o = .done t v) ∨ o = .stall t ∨ o = .ended t) :
    Step G s0 t := h t e
theorem StepX.ite {G : Nat} {s0 : State} {a b : ExtOut} {c : Prop} [Decidable c] (ha : c → StepX G s0 a) (hb : ¬ c → StepX G s0 b) :
    StepX G s0 (if c then a else b) := by
  split
  · exact ha ‹_›
  · exact hb ‹_›

theorem State.ext_step {G : Nat} {s0 s : State} {x1} {x2} {x3} {x4} (h : Step G s0 s) (he : ∀ u w a b, Step G s0 u → StepX G s0 (x4 u w a b))
    (hG : sub 142744748032 G = true) : StepO G s0 (State.ext s x1 x2 x3 x4) := by
  unfold State.ext
  try dsimp only
  repeat' first
    | with_reducible assumption
    | ((with_reducible refine sub_trans ?_ hG); exact rfl)
    | with_reducible apply State.retire_step
    | with_reducible apply State.trap_step
    | with_reducible refine Step.ite (fun _ => ?_) (fun _ => ?_)
    | with_reducible refine StepO.ite (fun _ => ?_) (fun _ => ?_)
    | with_reducible apply StepO.next
    | with_reducible apply foldl_step
    | with_reducible apply foldlFst_step
    | with_reducible intro _
    | with_reducible refine Step.ofFst (by assumption) ?_
    | with_reducible refine StepE.named (by assumption) ?_
    | with_reducible refine StepP.named (by assumption) ?_
    | with_reducible refine State.fetch_step ?_ (sub_trans rfl hG) (Or.inl (by assumption))
    | with_reducible refine State.fetch_step ?_ (sub_trans rfl hG) (Or.inr (Or.inl (by assumption)))
    | with_reducible refine State.fetch_step ?_ (sub_trans rfl hG) (Or.inr (Or.inr (Or.inl ⟨_, _, by assumption⟩)))
    | with_reducible apply he
    | with_reducible refine StepX.named ?_ (Or.inl ⟨_, by assumption⟩)
    | with_reducible refine StepX.named ?_ (Or.inr (Or.inl (by assumption)))
    | with_reducible refine StepX.named ?_ (Or.inr (Or.inr (by assumption)))
    | split

theorem execMpush_step {G : Nat} {s0 s : State} {x1} {x2} (h : Step G s0 s)
    (hG : sub 142744748032 G = true) : StepO G s0 (execMpush x1 x2 s) := by
  unfold execMpush
  try dsimp only
  repeat' first
    | with_reducible assumption
    | ((with_reducible refine sub_trans ?_ hG); exact rfl)
    | with_reducible apply State.ext_step
    | with_reducible apply State.setTile_step
    | with_reducible refine Step.ite (fun _ => ?_) (fun _ => ?_)
    | with_reducible refine StepO.ite (fun _ => ?_) (fun _ => ?_)
    | with_reducible apply StepO.next
    | with_reducible apply foldl_step
    | with_reducible apply foldlFst_step
    | with_reducible intro _
    | with_reducible refine Step.ofFst (by assumption) ?_
    | with_reducible refine StepE.named (by assumption) ?_
    | with_reducible refine StepP.named (by assumption) ?_
    | with_reducible exact StepX.trap
    | with_reducible apply StepX.done
    | with_reducible apply StepX.stall
    | with_reducible apply StepX.ended
    | with_reducible refine StepX.ite (fun _ => ?_) (fun _ => ?_)

theorem execMwait_step {G : Nat} {s0 s : State} {x1} {x2} (h : Step G s0 s)
    (hG : sub 142744748032 G = true) : StepO G s0 (execMwait x1 x2 s) := by
  unfold execMwait
  try dsimp only
  repeat' first
    | with_reducible assumption
    | with_reducible apply State.ext_step
    | with_reducible refine Step.ite (fun _ => ?_) (fun _ => ?_)
    | with_reducible refine StepO.ite (fun _ => ?_) (fun _ => ?_)
    | with_reducible apply StepO.next
    | with_reducible apply foldl_step
    | with_reducible apply foldlFst_step
    | with_reducible intro _
    | with_reducible refine Step.ofFst (by assumption) ?_
    | with_reducible refine StepE.named (by assumption) ?_
    | with_reducible refine StepP.named (by assumption) ?_
    | with_reducible exact StepX.trap
    | with_reducible apply StepX.done
    | with_reducible apply StepX.stall
    | with_reducible apply StepX.ended
    | with_reducible refine StepX.ite (fun _ => ?_) (fun _ => ?_)

theorem State.fillRead_step {G : Nat} {s0 s : State} {x1} {x2} {x3} (h : Step G s0 s)
    (hG : sub 142744748032 G = true) : Step G s0 (State.fillRead x1 x2 x3 s).1 := by
  induction x3 generalizing s  with
  | nil =>
    unfold State.fillRead
    try dsimp only
    repeat' first
      | with_reducible apply ih
      | with_reducible assumption
      | ((with_reducible refine sub_trans ?_ hG); exact rfl)
      | with_reducible apply State.taskRead_step
      | with_reducible refine Step.ite (fun _ => ?_) (fun _ => ?_)
      | with_reducible refine Step.fstIte (fun _ => ?_) (fun _ => ?_)
      | with_reducible refine StepX.ite (fun _ => ?_) (fun _ => ?_)
      | with_reducible exact StepX.trap
      | with_reducible apply StepX.done
      | with_reducible apply StepX.stall
      | with_reducible apply StepX.ended
      | with_reducible apply foldl_step
      | with_reducible apply foldlFst_step
      | with_reducible intro _
      | with_reducible refine Step.ofFst (by assumption) ?_
      | with_reducible refine StepE.named (by assumption) ?_
      | with_reducible refine StepP.named (by assumption) ?_
      | split
      | dsimp only
  | cons y l ih =>
    unfold State.fillRead
    try dsimp only
    repeat' first
      | with_reducible apply ih
      | with_reducible assumption
      | ((with_reducible refine sub_trans ?_ hG); exact rfl)
      | with_reducible apply State.taskRead_step
      | with_reducible refine Step.ite (fun _ => ?_) (fun _ => ?_)
      | with_reducible refine Step.fstIte (fun _ => ?_) (fun _ => ?_)
      | with_reducible refine StepX.ite (fun _ => ?_) (fun _ => ?_)
      | with_reducible exact StepX.trap
      | with_reducible apply StepX.done
      | with_reducible apply StepX.stall
      | with_reducible apply StepX.ended
      | with_reducible apply foldl_step
      | with_reducible apply foldlFst_step
      | with_reducible intro _
      | with_reducible refine Step.ofFst (by assumption) ?_
      | with_reducible refine StepE.named (by assumption) ?_
      | with_reducible refine StepP.named (by assumption) ?_
      | split
      | dsimp only

theorem State.bankMeet_step {G : Nat} {s0 s : State} {x1} {x2} {x3} {x4} (h : Step G s0 s)
    (hG : sub 138449780736 G = true) : Step G s0 (State.bankMeet s x1 x2 x3 x4) := by
  unfold State.bankMeet
  try dsimp only
  repeat' first
    | with_reducible assumption
    | ((with_reducible refine sub_trans ?_ hG); exact rfl)
    | with_reducible apply State.taskFault_step
    | with_reducible apply State.tileBump_step
    | with_reducible apply State.setTile_step
    | with_reducible refine Step.ite (fun _ => ?_) (fun _ => ?_)
    | with_reducible refine StepX.ite (fun _ => ?_) (fun _ => ?_)
    | with_reducible exact StepX.trap
    | with_reducible apply StepX.done
    | with_reducible apply StepX.stall
    | with_reducible apply StepX.ended
    | with_reducible apply foldl_step
    | with_reducible apply foldlFst_step
    | with_reducible intro _
    | with_reducible refine Step.ofFst (by assumption) ?_
    | with_reducible refine StepE.named (by assumption) ?_
    | with_reducible refine StepP.named (by assumption) ?_
    | split
    | dsimp only

theorem execFfill_step {G : Nat} {s0 s : State} {x1} {x2} {x3} (h : Step G s0 s)
    (hG : sub 142744748032 G = true) : StepO G s0 (execFfill x1 x2 x3 s) := by
  unfold execFfill
  try dsimp only
  repeat' first
    | with_reducible assumption
    | ((with_reducible refine sub_trans ?_ hG); exact rfl)
    | with_reducible apply State.bankMeet_step
    | with_reducible apply State.fillRead_step
    | with_reducible apply State.ext_step
    | with_reducible apply State.setTile_step
    | with_reducible refine Step.ite (fun _ => ?_) (fun _ => ?_)
    | with_reducible refine StepO.ite (fun _ => ?_) (fun _ => ?_)
    | with_reducible apply StepO.next
    | with_reducible refine StepX.ite (fun _ => ?_) (fun _ => ?_)
    | with_reducible exact StepX.trap
    | with_reducible apply StepX.done
    | with_reducible apply StepX.stall
    | with_reducible apply StepX.ended
    | with_reducible apply foldl_step
    | with_reducible apply foldlFst_step
    | with_reducible intro _
    | with_reducible refine Step.ofFst (by assumption) ?_
    | with_reducible refine StepE.named (by assumption) ?_
    | with_reducible refine StepP.named (by assumption) ?_
    | split
    | dsimp only

theorem State.psatLines_step {G : Nat} {s0 s : State} {x1} {x2} {x3} {x4} {x5} (h : Step G s0 s)
    (hG : sub 138449780736 G = true) : Step G s0 (State.psatLines x1 x2 x3 x4 x5 s).1 := by
  induction x4 generalizing s x5 with
  | zero =>
    unfold State.psatLines
    try dsimp only
    repeat' first
      | with_reducible assumption
  | succ n ih =>
    unfold State.psatLines
    try dsimp only
    repeat' first
      | with_reducible apply ih
      | with_reducible assumption
      | ((with_reducible refine sub_trans ?_ hG); exact rfl)
      | with_reducible apply State.boundFault_step
      | with_reducible apply State.setTile_step
      | with_reducible refine Step.ite (fun _ => ?_) (fun _ => ?_)
      | with_reducible refine Step.fstIte (fun _ => ?_) (fun _ => ?_)
      | with_reducible apply foldlFst_step
      | with_reducible apply foldl_step
      | with_reducible apply foldlFst_step
      | with_reducible intro _
      | with_reducible refine Step.ofFst (by assumption) ?_
      | with_reducible refine StepE.named (by assumption) ?_
      | with_reducible refine StepP.named (by assumption) ?_
      | with_reducible exact StepX.trap
      | with_reducible apply StepX.done
      | with_reducible apply StepX.stall
      | with_reducible apply StepX.ended
      | with_reducible refine StepX.ite (fun _ => ?_) (fun _ => ?_)
      | split

theorem execPsat_step {G : Nat} {s0 s : State} {x1} {x2} (h : Step G s0 s)
    (hG : sub 142744748032 G = true) : StepO G s0 (execPsat x1 x2 s) := by
  unfold execPsat
  try dsimp only
  repeat' first
    | with_reducible assumption
    | ((with_reducible refine sub_trans ?_ hG); exact rfl)
    | with_reducible apply State.psatLines_step
    | with_reducible apply State.pathStall_step
    | with_reducible apply State.ext_step
    | with_reducible refine Step.ite (fun _ => ?_) (fun _ => ?_)
    | with_reducible refine StepO.ite (fun _ => ?_) (fun _ => ?_)
    | with_reducible apply StepO.next
    | with_reducible apply foldl_step
    | with_reducible apply foldlFst_step
    | with_reducible intro _
    | with_reducible refine Step.ofFst (by assumption) ?_
    | with_reducible refine StepE.named (by assumption) ?_
    | with_reducible refine StepP.named (by assumption) ?_
    | with_reducible exact StepX.trap
    | with_reducible apply StepX.done
    | with_reducible apply StepX.stall
    | with_reducible apply StepX.ended
    | with_reducible refine StepX.ite (fun _ => ?_) (fun _ => ?_)
    | split

theorem execPqnt_step {G : Nat} {s0 s : State} {x1} {x2} (h : Step G s0 s)
    (hG : sub 144115330820603904 G = true) : StepO G s0 (execPqnt x1 x2 s) := by
  unfold execPqnt
  try dsimp only
  repeat' first
    | with_reducible assumption
    | ((with_reducible refine sub_trans ?_ hG); exact rfl)
    | with_reducible apply State.taskWrite_step
    | with_reducible apply State.pathStall_step
    | with_reducible apply State.drawBytes_step
    | with_reducible apply State.ext_step
    | with_reducible apply State.setTile_step
    | with_reducible apply State.taskRead_step
    | with_reducible refine Step.ite (fun _ => ?_) (fun _ => ?_)
    | with_reducible refine StepO.ite (fun _ => ?_) (fun _ => ?_)
    | with_reducible apply StepO.next
    | with_reducible apply foldl_step
    | with_reducible apply foldlFst_step
    | with_reducible intro _
    | with_reducible refine Step.ofFst (by assumption) ?_
    | with_reducible refine StepE.named (by assumption) ?_
    | with_reducible refine StepP.named (by assumption) ?_
    | with_reducible exact StepX.trap
    | with_reducible apply StepX.done
    | with_reducible apply StepX.stall
    | with_reducible apply StepX.ended
    | with_reducible refine StepX.ite (fun _ => ?_) (fun _ => ?_)
    | split

theorem execAcopy_step {G : Nat} {s0 s : State} {x1} {x2} (h : Step G s0 s)
    (hG : sub 142744748032 G = true) : StepO G s0 (execAcopy x1 x2 s) := by
  unfold execAcopy
  try dsimp only
  repeat' first
    | with_reducible assumption
    | with_reducible apply State.writeLines_step
    | with_reducible apply State.ext_step
    | with_reducible apply State.readLines_step
    | with_reducible refine Step.ite (fun _ => ?_) (fun _ => ?_)
    | with_reducible refine StepO.ite (fun _ => ?_) (fun _ => ?_)
    | with_reducible apply StepO.next
    | with_reducible apply foldl_step
    | with_reducible apply foldlFst_step
    | with_reducible intro _
    | with_reducible refine Step.ofFst (by assumption) ?_
    | with_reducible refine StepE.named (by assumption) ?_
    | with_reducible refine StepP.named (by assumption) ?_
    | with_reducible exact StepX.trap
    | with_reducible apply StepX.done
    | with_reducible apply StepX.stall
    | with_reducible apply StepX.ended
    | with_reducible refine StepX.ite (fun _ => ?_) (fun _ => ?_)
    | split

theorem execAlut_step {G : Nat} {s0 s : State} {x1} {x2} (h : Step G s0 s)
    (hG : sub 142744748032 G = true) : StepO G s0 (execAlut x1 x2 s) := by
  unfold execAlut
  try dsimp only
  repeat' first
    | with_reducible assumption
    | with_reducible apply State.taskWrite_step
    | with_reducible apply State.taskRead_step
    | with_reducible apply State.ext_step
    | with_reducible refine Step.ite (fun _ => ?_) (fun _ => ?_)
    | with_reducible refine StepO.ite (fun _ => ?_) (fun _ => ?_)
    | with_reducible apply StepO.next
    | with_reducible apply foldl_step
    | with_reducible apply foldlFst_step
    | with_reducible intro _
    | with_reducible refine Step.ofFst (by assumption) ?_
    | with_reducible refine StepE.named (by assumption) ?_
    | with_reducible refine StepP.named (by assumption) ?_
    | with_reducible exact StepX.trap
    | with_reducible apply StepX.done
    | with_reducible apply StepX.stall
    | with_reducible apply StepX.ended
    | with_reducible refine StepX.ite (fun _ => ?_) (fun _ => ?_)
    | split

theorem execCcount_step {G : Nat} {s0 s : State} {x1} {x2} (h : Step G s0 s)
    (hG : sub 142744748032 G = true) : StepO G s0 (execCcount x1 x2 s) := by
  unfold execCcount
  try dsimp only
  repeat' first
    | with_reducible assumption
    | ((with_reducible refine sub_trans ?_ hG); exact rfl)
    | with_reducible apply State.pathStall_step
    | with_reducible apply State.ext_step
    | with_reducible apply State.setTile_step
    | with_reducible apply State.tileBump_step
    | with_reducible apply State.taskRead_step
    | with_reducible apply State.writeLines_step
    | with_reducible apply State.taskFault_step
    | with_reducible apply State.readLines_step
    | with_reducible refine Step.ite (fun _ => ?_) (fun _ => ?_)
    | with_reducible refine StepO.ite (fun _ => ?_) (fun _ => ?_)
    | with_reducible apply StepO.next
    | with_reducible apply foldl_step
    | with_reducible apply foldlFst_step
    | with_reducible intro _
    | with_reducible refine Step.ofFst (by assumption) ?_
    | with_reducible refine StepE.named (by assumption) ?_
    | with_reducible refine StepP.named (by assumption) ?_
    | with_reducible exact StepX.trap
    | with_reducible apply StepX.done
    | with_reducible apply StepX.stall
    | with_reducible apply StepX.ended
    | with_reducible refine StepX.ite (fun _ => ?_) (fun _ => ?_)
    | split

theorem State.sendLines_step {G : Nat} {s0 s : State} {x1} {x2} {x3} {x4} {x5} (h : Step G s0 s)
    (hG : sub 417622654976 G = true) : Step G s0 (State.sendLines x1 x2 x3 x4 x5 s).1 := by
  induction x4 generalizing s x5 with
  | nil =>
    unfold State.sendLines
    try dsimp only
    repeat' first
      | with_reducible assumption
  | cons y l ih =>
    unfold State.sendLines
    try dsimp only
    repeat' first
      | with_reducible apply ih
      | with_reducible assumption
      | ((with_reducible refine sub_trans ?_ hG); exact rfl)
      | with_reducible apply State.taskRead_step
      | ((with_reducible refine Step.put (F := 417622654976) ?_ hG ?_ ?_); rotate_left; (fail_if_success (with_reducible exact Same.refl _ _)); exact rfl; (first | with_reducible exact State.Inv.congr rfl rfl rfl rfl rfl rfl rfl id id id))
      | with_reducible refine Step.ite (fun _ => ?_) (fun _ => ?_)
      | with_reducible refine Step.fstIte (fun _ => ?_) (fun _ => ?_)
      | with_reducible apply foldlFst_step
      | with_reducible apply foldl_step
      | with_reducible apply foldlFst_step
      | with_reducible intro _
      | with_reducible refine Step.ofFst (by assumption) ?_
      | with_reducible refine StepE.named (by assumption) ?_
      | with_reducible refine StepP.named (by assumption) ?_
      | with_reducible exact StepX.trap
      | with_reducible apply StepX.done
      | with_reducible apply StepX.stall
      | with_reducible apply StepX.ended
      | with_reducible refine StepX.ite (fun _ => ?_) (fun _ => ?_)
      | split

theorem execMsend_step {G : Nat} {s0 s : State} {x1} {x2} (h : Step G s0 s)
    (hG : sub 417622654976 G = true) : StepO G s0 (execMsend x1 x2 s) := by
  unfold execMsend
  try dsimp only
  repeat' first
    | with_reducible assumption
    | ((with_reducible refine sub_trans ?_ hG); exact rfl)
    | with_reducible apply State.sendLines_step
    | with_reducible apply State.ext_step
    | with_reducible refine Step.ite (fun _ => ?_) (fun _ => ?_)
    | with_reducible refine StepO.ite (fun _ => ?_) (fun _ => ?_)
    | with_reducible apply StepO.next
    | with_reducible apply foldl_step
    | with_reducible apply foldlFst_step
    | with_reducible intro _
    | with_reducible refine Step.ofFst (by assumption) ?_
    | with_reducible refine StepE.named (by assumption) ?_
    | with_reducible refine StepP.named (by assumption) ?_
    | with_reducible exact StepX.trap
    | with_reducible apply StepX.done
    | with_reducible apply StepX.stall
    | with_reducible apply StepX.ended
    | with_reducible refine StepX.ite (fun _ => ?_) (fun _ => ?_)
    | split

theorem execMsendLineLand_step {G : Nat} {s0 s : State} {x1} {x2} (h : Step G s0 s)
    (hG : sub 413327687680 G = true) : StepO G s0 (execMsendLineLand x1 x2 s) := by
  unfold execMsendLineLand
  try dsimp only
  repeat' first
    | with_reducible assumption
    | ((with_reducible refine sub_trans ?_ hG); exact rfl)
    | with_reducible apply State.landReject_step
    | with_reducible apply State.prioStall_step
    | with_reducible apply State.tileBump_step
    | with_reducible apply State.discard_step
    | with_reducible apply State.setTile_step
    | ((with_reducible refine Step.put (F := 413327687680) ?_ hG ?_ ?_); rotate_left; (fail_if_success (with_reducible exact Same.refl _ _)); exact rfl; (first | with_reducible exact State.Inv.congr rfl rfl rfl rfl rfl rfl rfl id id id))
    | with_reducible refine Step.ite (fun _ => ?_) (fun _ => ?_)
    | with_reducible refine StepO.ite (fun _ => ?_) (fun _ => ?_)
    | with_reducible apply StepO.next
    | with_reducible refine StepX.ite (fun _ => ?_) (fun _ => ?_)
    | with_reducible exact StepX.trap
    | with_reducible apply StepX.done
    | with_reducible apply StepX.stall
    | with_reducible apply StepX.ended
    | with_reducible apply foldl_step
    | with_reducible apply foldlFst_step
    | with_reducible intro _
    | with_reducible refine Step.ofFst (by assumption) ?_
    | with_reducible refine StepE.named (by assumption) ?_
    | with_reducible refine StepP.named (by assumption) ?_
    | split
    | dsimp only

theorem execMrecv_step {G : Nat} {s0 s : State} {x1} {x2} (h : Step G s0 s)
    (hG : sub 142744748032 G = true) : StepO G s0 (execMrecv x1 x2 s) := by
  unfold execMrecv
  try dsimp only
  repeat' first
    | with_reducible assumption
    | ((with_reducible refine sub_trans ?_ hG); exact rfl)
    | with_reducible apply State.ext_step
    | with_reducible apply State.setTile_step
    | with_reducible refine Step.ite (fun _ => ?_) (fun _ => ?_)
    | with_reducible refine StepO.ite (fun _ => ?_) (fun _ => ?_)
    | with_reducible apply StepO.next
    | with_reducible apply foldl_step
    | with_reducible apply foldlFst_step
    | with_reducible intro _
    | with_reducible refine Step.ofFst (by assumption) ?_
    | with_reducible refine StepE.named (by assumption) ?_
    | with_reducible refine StepP.named (by assumption) ?_
    | with_reducible exact StepX.trap
    | with_reducible apply StepX.done
    | with_reducible apply StepX.stall
    | with_reducible apply StepX.ended
    | with_reducible refine StepX.ite (fun _ => ?_) (fun _ => ?_)

theorem execEvpush_step {G : Nat} {s0 s : State} {x1} {x2} (h : Step G s0 s)
    (hG : sub 142744748032 G = true) : StepO G s0 (execEvpush x1 x2 s) := by
  unfold execEvpush
  try dsimp only
  repeat' first
    | with_reducible assumption
    | ((with_reducible refine sub_trans ?_ hG); exact rfl)
    | with_reducible apply State.ext_step
    | with_reducible apply State.setTile_step
    | with_reducible apply State.fire_step
    | with_reducible apply State.bump64_step
    | with_reducible refine Step.ite (fun _ => ?_) (fun _ => ?_)
    | with_reducible refine StepO.ite (fun _ => ?_) (fun _ => ?_)
    | with_reducible apply StepO.next
    | with_reducible refine StepX.ite (fun _ => ?_) (fun _ => ?_)
    | with_reducible exact StepX.trap
    | with_reducible apply StepX.done
    | with_reducible apply StepX.stall
    | with_reducible apply StepX.ended
    | with_reducible apply foldl_step
    | with_reducible apply foldlFst_step
    | with_reducible intro _
    | with_reducible refine Step.ofFst (by assumption) ?_
    | with_reducible refine StepE.named (by assumption) ?_
    | with_reducible refine StepP.named (by assumption) ?_
    | split
    | dsimp only

theorem execWland_step {G : Nat} {s0 s : State} {x1} {x2} (h : Step G s0 s)
    (hG : sub 142744748032 G = true) : StepO G s0 (execWland x1 x2 s) := by
  unfold execWland
  try dsimp only
  repeat' first
    | with_reducible assumption
    | with_reducible apply State.ext_step
    | with_reducible refine Step.ite (fun _ => ?_) (fun _ => ?_)
    | with_reducible refine StepO.ite (fun _ => ?_) (fun _ => ?_)
    | with_reducible apply StepO.next
    | with_reducible apply foldl_step
    | with_reducible apply foldlFst_step
    | with_reducible intro _
    | with_reducible refine Step.ofFst (by assumption) ?_
    | with_reducible refine StepE.named (by assumption) ?_
    | with_reducible refine StepP.named (by assumption) ?_
    | with_reducible exact StepX.trap
    | with_reducible apply StepX.done
    | with_reducible apply StepX.stall
    | with_reducible apply StepX.ended
    | with_reducible refine StepX.ite (fun _ => ?_) (fun _ => ?_)
    | split

theorem execStamp_step {G : Nat} {s0 s : State} {x1} {x2} (h : Step G s0 s)
    (hG : sub 142744748032 G = true) : StepO G s0 (execStamp x1 x2 s) := by
  unfold execStamp
  try dsimp only
  repeat' first
    | with_reducible assumption
    | ((with_reducible refine sub_trans ?_ hG); exact rfl)
    | with_reducible apply State.ext_step
    | with_reducible apply State.setTile_step
    | with_reducible refine Step.ite (fun _ => ?_) (fun _ => ?_)
    | with_reducible refine StepO.ite (fun _ => ?_) (fun _ => ?_)
    | with_reducible apply StepO.next
    | with_reducible apply foldl_step
    | with_reducible apply foldlFst_step
    | with_reducible intro _
    | with_reducible refine Step.ofFst (by assumption) ?_
    | with_reducible refine StepE.named (by assumption) ?_
    | with_reducible refine StepP.named (by assumption) ?_
    | with_reducible exact StepX.trap
    | with_reducible apply StepX.done
    | with_reducible apply StepX.stall
    | with_reducible apply StepX.ended
    | with_reducible refine StepX.ite (fun _ => ?_) (fun _ => ?_)

theorem execTend_step {G : Nat} {s0 s : State} {x1} {x2} (h : Step G s0 s)
    (hG : sub 142744748032 G = true) : StepO G s0 (execTend x1 x2 s) := by
  unfold execTend
  try dsimp only
  repeat' first
    | with_reducible assumption
    | ((with_reducible refine sub_trans ?_ hG); exact rfl)
    | with_reducible apply State.ext_step
    | with_reducible apply State.setTile_step
    | with_reducible refine Step.ite (fun _ => ?_) (fun _ => ?_)
    | with_reducible refine StepO.ite (fun _ => ?_) (fun _ => ?_)
    | with_reducible apply StepO.next
    | with_reducible apply foldl_step
    | with_reducible apply foldlFst_step
    | with_reducible intro _
    | with_reducible refine Step.ofFst (by assumption) ?_
    | with_reducible refine StepE.named (by assumption) ?_
    | with_reducible refine StepP.named (by assumption) ?_
    | with_reducible exact StepX.trap
    | with_reducible apply StepX.done

end Sys2Proof.Machine
end

