-- ==== Sys2Proof/Laws/KeepExec.lean ====
section
/-! SUPPORT. What every command may change, as a mask, and that each answers a next state which keeps the invariant. -/

-- One proof at a time, as in Keep.lean.
set_option Elab.async false
-- Every proof here tries the same few tactics in the same order, and not each of them meets a goal.
set_option linter.unusedTactic false
set_option linter.unreachableTactic false

namespace Sys2Proof.Machine


theorem exec_lineBoundary (s : State) : StepO 85591100359658687 s (exec (.lineBoundary) s) :=
  execLineBoundary_step (s := s) (Step.refl _ _) (sub_refl _)
theorem exec_seamLaneFail (s : State) {x0} {x1} {x2} : StepO 85591130424429754 s (exec (.seamLaneFail x0 x1 x2) s) :=
  execSeamLaneFail_step (s := s) (x1 := x0) (x2 := x1) (x3 := x2) (Step.refl _ _) (sub_refl _)
theorem exec_passThroughLaneFail (s : State) {x0} {x1} {x2} : StepO 85591089622240442 s (exec (.passThroughLaneFail x0 x1 x2) s) :=
  execPassThroughLaneFail_step (s := s) (x1 := x0) (x2 := x1) (x3 := x2) (Step.refl _ _) (sub_refl _)
theorem exec_translationQuery (s : State) {x0} {x1} : StepO 4194304 s (exec (.translationQuery x0 x1) s) :=
  execTranslationQuery_step (s := s) (x1 := x0) (x2 := x1) (Step.refl _ _) (sub_refl _)
theorem exec_beatWordDecide (s : State) {x0} {x1} : StepO 85591100359658687 s (exec (.beatWordDecide x0 x1) s) :=
  execBeatWordDecide_step (s := s) (x1 := x0) (x2 := x1) (Step.refl _ _) (sub_refl _)
theorem exec_beatWindowClose (s : State) : StepO 85591091769527485 s (exec (.beatWindowClose) s) :=
  execBeatWindowClose_step (s := s) (Step.refl _ _) (sub_refl _)
theorem exec_carrierAbsent (s : State) : StepO 1010827268 s (exec (.carrierAbsent) s) :=
  execCarrierAbsent_step (s := s) (Step.refl _ _) (sub_refl _)
theorem exec_holdoverLimit (s : State) : StepO 81087492142156989 s (exec (.holdoverLimit) s) :=
  execHoldoverLimit_step (s := s) (Step.refl _ _) (sub_refl _)
theorem exec_holdoverLimitWrite (s : State) {x0} {x1} : StepO 81087492142156988 s (exec (.holdoverLimitWrite x0 x1) s) :=
  execHoldoverLimitWrite_step (s := s) (x1 := x0) (x2 := x1) (Step.refl _ _) (sub_refl _)
theorem exec_sessionBeat (s : State) {x0} : StepO 72080289657801865 s (exec (.sessionBeat x0) s) :=
  execSessionBeat_step (s := s) (x1 := x0) (Step.refl _ _) (sub_refl _)
theorem exec_sessionQuery (s : State) {x0} {x1} : StepO 4194304 s (exec (.sessionQuery x0 x1) s) :=
  execSessionQuery_step (s := s) (x1 := x0) (x2 := x1) (Step.refl _ _) (sub_refl _)
theorem exec_matrixIssue (s : State) {x0} : StepO 142744748032 s (exec (.matrixIssue x0) s) :=
  execMatrixIssue_step (s := s) (x1 := x0) (Step.refl _ _) (sub_refl _)
theorem exec_instructionRetire (s : State) {x0} : StepO 142744748032 s (exec (.instructionRetire x0) s) :=
  execInstructionRetire_step (s := s) (x1 := x0) (Step.refl _ _) (sub_refl _)
theorem exec_issueHang (s : State) {x0} : StepO 5301600256 s (exec (.issueHang x0) s) :=
  execIssueHang_step (s := s) (x1 := x0) (Step.refl _ _) (sub_refl _)
theorem exec_tileHeartbeatTimeout (s : State) {x0} : StepO 5301600256 s (exec (.tileHeartbeatTimeout x0) s) :=
  execTileHeartbeatTimeout_step (s := s) (x1 := x0) (Step.refl _ _) (sub_refl _)
theorem exec_prepCoreInstruction (s : State) {x0} {x1} {x2} : StepO 144115330820603904 s (exec (.prepCoreInstruction x0 x1 x2) s) :=
  execPrepCoreInstruction_step (s := s) (x1 := x0) (x2 := x1) (x3 := x2) (Step.refl _ _) (sub_refl _)
theorem exec_eccWriteback (s : State) {x0} : StepO 137438953472 s (exec (.eccWriteback x0) s) :=
  execEccWriteback_step (s := s) (x1 := x0) (Step.refl _ _) (sub_refl _)
theorem exec_mpush (s : State) {x0} {x1} : StepO 142744748032 s (exec (.mpush x0 x1) s) :=
  execMpush_step (s := s) (x1 := x0) (x2 := x1) (Step.refl _ _) (sub_refl _)
theorem exec_mwait (s : State) {x0} {x1} : StepO 142744748032 s (exec (.mwait x0 x1) s) :=
  execMwait_step (s := s) (x1 := x0) (x2 := x1) (Step.refl _ _) (sub_refl _)
theorem exec_ffill (s : State) {x0} {x1} {x2} : StepO 142744748032 s (exec (.ffill x0 x1 x2) s) :=
  execFfill_step (s := s) (x1 := x0) (x2 := x1) (x3 := x2) (Step.refl _ _) (sub_refl _)
theorem exec_psat (s : State) {x0} {x1} : StepO 142744748032 s (exec (.psat x0 x1) s) :=
  execPsat_step (s := s) (x1 := x0) (x2 := x1) (Step.refl _ _) (sub_refl _)
theorem exec_pqnt (s : State) {x0} {x1} : StepO 144115330820603904 s (exec (.pqnt x0 x1) s) :=
  execPqnt_step (s := s) (x1 := x0) (x2 := x1) (Step.refl _ _) (sub_refl _)
theorem exec_acopy (s : State) {x0} {x1} : StepO 142744748032 s (exec (.acopy x0 x1) s) :=
  execAcopy_step (s := s) (x1 := x0) (x2 := x1) (Step.refl _ _) (sub_refl _)
theorem exec_alut (s : State) {x0} {x1} : StepO 142744748032 s (exec (.alut x0 x1) s) :=
  execAlut_step (s := s) (x1 := x0) (x2 := x1) (Step.refl _ _) (sub_refl _)
theorem exec_ccount (s : State) {x0} {x1} : StepO 142744748032 s (exec (.ccount x0 x1) s) :=
  execCcount_step (s := s) (x1 := x0) (x2 := x1) (Step.refl _ _) (sub_refl _)
theorem exec_msend (s : State) {x0} {x1} : StepO 417622654976 s (exec (.msend x0 x1) s) :=
  execMsend_step (s := s) (x1 := x0) (x2 := x1) (Step.refl _ _) (sub_refl _)
theorem exec_msendLineLand (s : State) {x0} {x1} : StepO 413327687680 s (exec (.msendLineLand x0 x1) s) :=
  execMsendLineLand_step (s := s) (x1 := x0) (x2 := x1) (Step.refl _ _) (sub_refl _)
theorem exec_mrecv (s : State) {x0} {x1} : StepO 142744748032 s (exec (.mrecv x0 x1) s) :=
  execMrecv_step (s := s) (x1 := x0) (x2 := x1) (Step.refl _ _) (sub_refl _)
theorem exec_evpush (s : State) {x0} {x1} : StepO 142744748032 s (exec (.evpush x0 x1) s) :=
  execEvpush_step (s := s) (x1 := x0) (x2 := x1) (Step.refl _ _) (sub_refl _)
theorem exec_wland (s : State) {x0} {x1} : StepO 142744748032 s (exec (.wland x0 x1) s) :=
  execWland_step (s := s) (x1 := x0) (x2 := x1) (Step.refl _ _) (sub_refl _)
theorem exec_stamp (s : State) {x0} {x1} : StepO 142744748032 s (exec (.stamp x0 x1) s) :=
  execStamp_step (s := s) (x1 := x0) (x2 := x1) (Step.refl _ _) (sub_refl _)
theorem exec_tend (s : State) {x0} {x1} : StepO 142744748032 s (exec (.tend x0 x1) s) :=
  execTend_step (s := s) (x1 := x0) (x2 := x1) (Step.refl _ _) (sub_refl _)
theorem exec_taskEnd (s : State) {x0} : StepO 72075341855460480 s (exec (.taskEnd x0) s) :=
  execTaskEnd_step (s := s) (x1 := x0) (Step.refl _ _) (sub_refl _)
theorem exec_regionAdvance (s : State) {x0} {x1} {x2} {x3} : StepO 138445586432 s (exec (.regionAdvance x0 x1 x2 x3) s) :=
  execRegionAdvance_step (s := s) (x1 := x0) (x2 := x1) (x3 := x2) (x4 := x3) (Step.refl _ _) (sub_refl _)
theorem exec_qstatClear (s : State) {x0} {x1} : StepO 137438953472 s (exec (.qstatClear x0 x1) s) :=
  execQstatClear_step (s := s) (x1 := x0) (x2 := x1) (Step.refl _ _) (sub_refl _)
theorem exec_tileCounterReadClear (s : State) {x0} {x1} : StepO 137438953472 s (exec (.tileCounterReadClear x0 x1) s) :=
  execTileCounterReadClear_step (s := s) (x1 := x0) (x2 := x1) (Step.refl _ _) (sub_refl _)
theorem exec_tileQuery (s : State) {x0} {x1} : StepO 4194304 s (exec (.tileQuery x0 x1) s) :=
  execTileQuery_step (s := s) (x1 := x0) (x2 := x1) (Step.refl _ _) (sub_refl _)
theorem exec_storeQuery (s : State) {x0} {x1} : StepO 4194304 s (exec (.storeQuery x0 x1) s) :=
  execStoreQuery_step (s := s) (x1 := x0) (x2 := x1) (Step.refl _ _) (sub_refl _)
theorem exec_nvmeLinkUp (s : State) {x0} {x1} {x2} : StepO 8797099655168 s (exec (.nvmeLinkUp x0 x1 x2) s) :=
  execNvmeLinkUp_step (s := s) (x1 := x0) (x2 := x1) (x3 := x2) (Step.refl _ _) (sub_refl _)
theorem exec_nvmeLinkDown (s : State) {x0} : StepO 216204273826679944 s (exec (.nvmeLinkDown x0) s) :=
  execNvmeLinkDown_step (s := s) (x1 := x0) (Step.refl _ _) (sub_refl _)
theorem exec_nvmeLinkRetry (s : State) {x0} : StepO 8796093022209 s (exec (.nvmeLinkRetry x0) s) :=
  execNvmeLinkRetry_step (s := s) (x1 := x0) (Step.refl _ _) (sub_refl _)
theorem exec_nvmeCommandTimeout (s : State) {x0} {x1} : StepO 216204273826679945 s (exec (.nvmeCommandTimeout x0 x1) s) :=
  execNvmeCommandTimeout_step (s := s) (x1 := x0) (x2 := x1) (Step.refl _ _) (sub_refl _)
theorem exec_nvmeCompletion (s : State) {x0} {x1} {x2} {x3} : StepO 216204273826679944 s (exec (.nvmeCompletion x0 x1 x2 x3) s) :=
  execNvmeCompletion_step (s := s) (x1 := x0) (x2 := x1) (x3 := x2) (x4 := x3) (Step.refl _ _) (sub_refl _)
theorem exec_smartPoll (s : State) {x0} {x1} : StepO 8797099655169 s (exec (.smartPoll x0 x1) s) :=
  execSmartPoll_step (s := s) (x1 := x0) (x2 := x1) (Step.refl _ _) (sub_refl _)
theorem exec_patrolScrub (s : State) {x0} : StepO 9024796743434241 s (exec (.patrolScrub x0) s) :=
  execPatrolScrub_step (s := s) (x1 := x0) (Step.refl _ _) (sub_refl _)
theorem exec_pleatStaged (s : State) {x0} {x1} : StepO 216204273826679944 s (exec (.pleatStaged x0 x1) s) :=
  execPleatStaged_step (s := s) (x1 := x0) (x2 := x1) (Step.refl _ _) (sub_refl _)
theorem exec_flashStageLine (s : State) {x0} {x1} : StepO 216204273826679944 s (exec (.flashStageLine x0 x1) s) :=
  execFlashStageLine_step (s := s) (x1 := x0) (x2 := x1) (Step.refl _ _) (sub_refl _)
theorem exec_passStart (s : State) {x0} : StepO 72080293952769160 s (exec (.passStart x0) s) :=
  execPassStart_step (s := s) (x1 := x0) (Step.refl _ _) (sub_refl _)
theorem exec_stepFetchLine (s : State) {x0} {x1} {x2} : StepO 216186113696464896 s (exec (.stepFetchLine x0 x1 x2) s) :=
  execStepFetchLine_step (s := s) (x1 := x0) (x2 := x1) (x3 := x2) (Step.refl _ _) (sub_refl _)
theorem exec_blockLanded (s : State) {x0} {x1} {x2} {x3} : StepO 216204278121647240 s (exec (.blockLanded x0 x1 x2 x3) s) :=
  execBlockLanded_step (s := s) (x1 := x0) (x2 := x1) (x3 := x2) (x4 := x3) (Step.refl _ _) (sub_refl _)
theorem exec_landingLine (s : State) {x0} {x1} {x2} : StepO 216195482028625032 s (exec (.landingLine x0 x1 x2) s) :=
  execLandingLine_step (s := s) (x1 := x0) (x2 := x1) (x3 := x2) (Step.refl _ _) (sub_refl _)
theorem exec_passEnd (s : State) {x0} {x1} : StepO 72080289657998472 s (exec (.passEnd x0 x1) s) :=
  execPassEnd_step (s := s) (x1 := x0) (x2 := x1) (Step.refl _ _) (sub_refl _)
theorem exec_segmentQuery (s : State) {x0} {x1} : StepO 4194304 s (exec (.segmentQuery x0 x1) s) :=
  execSegmentQuery_step (s := s) (x1 := x0) (x2 := x1) (Step.refl _ _) (sub_refl _)
theorem exec_planQuery (s : State) {x0} {x1} : StepO 4194304 s (exec (.planQuery x0 x1) s) :=
  execPlanQuery_step (s := s) (x1 := x0) (x2 := x1) (Step.refl _ _) (sub_refl _)
theorem exec_functionLevelReset (s : State) {x0} : StepO 81082394015958192 s (exec (.functionLevelReset x0) s) :=
  execFunctionLevelReset_step (s := s) (x1 := x0) (Step.refl _ _) (sub_refl _)
theorem exec_hostLinkDown (s : State) {x0} : StepO 81082394015958192 s (exec (.hostLinkDown x0) s) :=
  execHostLinkDown_step (s := s) (x1 := x0) (Step.refl _ _) (sub_refl _)
theorem exec_hostLinkUp (s : State) {x0} {x1} {x2} : StepO 85585989348361392 s (exec (.hostLinkUp x0 x1 x2) s) :=
  execHostLinkUp_step (s := s) (x1 := x0) (x2 := x1) (x3 := x2) (Step.refl _ _) (sub_refl _)
theorem exec_pcieUncorrectableError (s : State) {x0} : StepO 1006633008 s (exec (.pcieUncorrectableError x0) s) :=
  execPcieUncorrectableError_step (s := s) (x1 := x0) (Step.refl _ _) (sub_refl _)
theorem exec_bar2Access (s : State) {x0} {x1} {x2} {x3} : StepO 72075191527407616 s (exec (.bar2Access x0 x1 x2 x3) s) :=
  execBar2Access_step (s := s) (x1 := x0) (x2 := x1) (x3 := x2) (x4 := x3) (Step.refl _ _) (sub_refl _)
theorem exec_apertureAccess (s : State) {x0} {x1} {x2} : StepO 216172924858531840 s (exec (.apertureAccess x0 x1 x2) s) :=
  execApertureAccess_step (s := s) (x1 := x0) (x2 := x1) (x3 := x2) (Step.refl _ _) (sub_refl _)
theorem exec_stampLoRead (s : State) {x0} : StepO 216172782113783856 s (exec (.stampLoRead x0) s) :=
  execStampLoRead_step (s := s) (x1 := x0) (Step.refl _ _) (sub_refl _)
theorem exec_ringConfigWrite (s : State) {x0} {x1} {x2} : StepO 72075187286968048 s (exec (.ringConfigWrite x0 x1 x2) s) :=
  execRingConfigWrite_step (s := s) (x1 := x0) (x2 := x1) (x3 := x2) (Step.refl _ _) (sub_refl _)
theorem exec_sqDoorbell (s : State) {x0} {x1} {x2} {x3} {x4} : StepO 72075187236635888 s (exec (.sqDoorbell x0 x1 x2 x3 x4) s) :=
  execSqDoorbell_step (s := s) (x1 := x0) (x2 := x1) (x3 := x2) (x4 := x3) (x5 := x4) (Step.refl _ _) (sub_refl _)
theorem exec_cqDoorbell (s : State) {x0} {x1} {x2} {x3} {x4} : StepO 72075187236635824 s (exec (.cqDoorbell x0 x1 x2 x3 x4) s) :=
  execCqDoorbell_step (s := s) (x1 := x0) (x2 := x1) (x3 := x2) (x4 := x3) (x5 := x4) (Step.refl _ _) (sub_refl _)
theorem exec_descriptorFetch (s : State) {x0} {x1} : StepO 72075191531609584 s (exec (.descriptorFetch x0 x1) s) :=
  execDescriptorFetch_step (s := s) (x1 := x0) (x2 := x1) (Step.refl _ _) (sub_refl _)
theorem exec_entryBegin (s : State) {x0} : StepO 72075208711474304 s (exec (.entryBegin x0) s) :=
  execEntryBegin_step (s := s) (x1 := x0) (Step.refl _ _) (sub_refl _)
theorem exec_entryNop (s : State) {x0} {x1} : StepO 72075204416507008 s (exec (.entryNop x0 x1) s) :=
  execEntryNop_step (s := s) (x1 := x0) (x2 := x1) (Step.refl _ _) (sub_refl _)
theorem exec_pload (s : State) {x0} {x1} : StepO 72075346150435968 s (exec (.pload x0 x1) s) :=
  execPload_step (s := s) (x1 := x0) (x2 := x1) (Step.refl _ _) (sub_refl _)
theorem exec_tstart (s : State) {x0} {x1} : StepO 72075341855460480 s (exec (.tstart x0 x1) s) :=
  execTstart_step (s := s) (x1 := x0) (x2 := x1) (Step.refl _ _) (sub_refl _)
theorem exec_copy (s : State) {x0} {x1} {x2} : StepO 216190534226283648 s (exec (.copy x0 x1 x2) s) :=
  execCopy_step (s := s) (x1 := x0) (x2 := x1) (x3 := x2) (Step.refl _ _) (sub_refl _)
theorem exec_copyDone (s : State) {x0} {x1} : StepO 72075204416507008 s (exec (.copyDone x0 x1) s) :=
  execCopyDone_step (s := s) (x1 := x0) (x2 := x1) (Step.refl _ _) (sub_refl _)
theorem exec_jopen (s : State) {x0} {x1} : StepO 72075213006449792 s (exec (.jopen x0 x1) s) :=
  execJopen_step (s := s) (x1 := x0) (x2 := x1) (Step.refl _ _) (sub_refl _)
theorem exec_jclose (s : State) {x0} {x1} : StepO 72467326340918408 s (exec (.jclose x0 x1) s) :=
  execJclose_step (s := s) (x1 := x0) (x2 := x1) (Step.refl _ _) (sub_refl _)
theorem exec_planload (s : State) {x0} {x1} : StepO 72079606757985408 s (exec (.planload x0 x1) s) :=
  execPlanload_step (s := s) (x1 := x0) (x2 := x1) (Step.refl _ _) (sub_refl _)
theorem exec_activate (s : State) {x0} {x1} : StepO 72089085751020680 s (exec (.activate x0 x1) s) :=
  execActivate_step (s := s) (x1 := x0) (x2 := x1) (Step.refl _ _) (sub_refl _)
theorem exec_deactivate (s : State) {x0} {x1} : StepO 72080289657998472 s (exec (.deactivate x0 x1) s) :=
  execDeactivate_step (s := s) (x1 := x0) (x2 := x1) (Step.refl _ _) (sub_refl _)
theorem exec_unload (s : State) {x0} {x1} : StepO 72079602463018112 s (exec (.unload x0 x1) s) :=
  execUnload_step (s := s) (x1 := x0) (x2 := x1) (Step.refl _ _) (sub_refl _)
theorem exec_restage (s : State) {x0} {x1} : StepO 72088398556040320 s (exec (.restage x0 x1) s) :=
  execRestage_step (s := s) (x1 := x0) (x2 := x1) (Step.refl _ _) (sub_refl _)
theorem exec_fread (s : State) {x0} {x1} : StepO 72084004804496512 s (exec (.fread x0 x1) s) :=
  execFread_step (s := s) (x1 := x0) (x2 := x1) (Step.refl _ _) (sub_refl _)
theorem exec_fwrite (s : State) {x0} {x1} : StepO 72084004804496512 s (exec (.fwrite x0 x1) s) :=
  execFwrite_step (s := s) (x1 := x0) (x2 := x1) (Step.refl _ _) (sub_refl _)
theorem exec_fflush (s : State) {x0} {x1} : StepO 72084000509529216 s (exec (.fflush x0 x1) s) :=
  execFflush_step (s := s) (x1 := x0) (x2 := x1) (Step.refl _ _) (sub_refl _)
theorem exec_ftrim (s : State) {x0} {x1} : StepO 72084000509529216 s (exec (.ftrim x0 x1) s) :=
  execFtrim_step (s := s) (x1 := x0) (x2 := x1) (Step.refl _ _) (sub_refl _)
theorem exec_tattach (s : State) {x0} {x1} : StepO 72075891611274368 s (exec (.tattach x0 x1) s) :=
  execTattach_step (s := s) (x1 := x0) (x2 := x1) (Step.refl _ _) (sub_refl _)
theorem exec_tattachScanDone (s : State) {x0} {x1} : StepO 72075346150427776 s (exec (.tattachScanDone x0 x1) s) :=
  execTattachScanDone_step (s := s) (x1 := x0) (x2 := x1) (Step.refl _ _) (sub_refl _)
theorem exec_tdetach (s : State) {x0} {x1} : StepO 72075891611274368 s (exec (.tdetach x0 x1) s) :=
  execTdetach_step (s := s) (x1 := x0) (x2 := x1) (Step.refl _ _) (sub_refl _)
theorem exec_treward (s : State) {x0} {x1} : StepO 72075754172320896 s (exec (.treward x0 x1) s) :=
  execTreward_step (s := s) (x1 := x0) (x2 := x1) (Step.refl _ _) (sub_refl _)
theorem exec_tclear (s : State) {x0} {x1} : StepO 72075895906241664 s (exec (.tclear x0 x1) s) :=
  execTclear_step (s := s) (x1 := x0) (x2 := x1) (Step.refl _ _) (sub_refl _)
theorem exec_sopen (s : State) {x0} {x1} : StepO 72075204416507016 s (exec (.sopen x0 x1) s) :=
  execSopen_step (s := s) (x1 := x0) (x2 := x1) (Step.refl _ _) (sub_refl _)
theorem exec_sretime (s : State) {x0} {x1} : StepO 72075204416507016 s (exec (.sretime x0 x1) s) :=
  execSretime_step (s := s) (x1 := x0) (x2 := x1) (Step.refl _ _) (sub_refl _)
theorem exec_sresume (s : State) {x0} {x1} : StepO 72075204416507016 s (exec (.sresume x0 x1) s) :=
  execSresume_step (s := s) (x1 := x0) (x2 := x1) (Step.refl _ _) (sub_refl _)
theorem exec_sclose (s : State) {x0} {x1} : StepO 72075891611274376 s (exec (.sclose x0 x1) s) :=
  execSclose_step (s := s) (x1 := x0) (x2 := x1) (Step.refl _ _) (sub_refl _)
theorem exec_sbind (s : State) {x0} {x1} : StepO 72075204416507016 s (exec (.sbind x0 x1) s) :=
  execSbind_step (s := s) (x1 := x0) (x2 := x1) (Step.refl _ _) (sub_refl _)
theorem exec_frame (s : State) {x0} {x1} : StepO 72080289658031240 s (exec (.frame x0 x1) s) :=
  execFrame_step (s := s) (x1 := x0) (x2 := x1) (Step.refl _ _) (sub_refl _)
theorem exec_fready (s : State) {x0} {x1} : StepO 72075204416523392 s (exec (.fready x0 x1) s) :=
  execFready_step (s := s) (x1 := x0) (x2 := x1) (Step.refl _ _) (sub_refl _)
theorem exec_jobQuery (s : State) {x0} {x1} : StepO 4194304 s (exec (.jobQuery x0 x1) s) :=
  execJobQuery_step (s := s) (x1 := x0) (x2 := x1) (Step.refl _ _) (sub_refl _)
theorem exec_tailorPre (s : State) {x0} : StepO 142744748032 s (exec (.tailorPre x0) s) :=
  execTailorPre_step (s := s) (x1 := x0) (Step.refl _ _) (sub_refl _)
theorem exec_tailorPost (s : State) {x0} : StepO 142744748032 s (exec (.tailorPost x0) s) :=
  execTailorPost_step (s := s) (x1 := x0) (Step.refl _ _) (sub_refl _)
theorem exec_tailorError (s : State) {x0} : StepO 142744748032 s (exec (.tailorError x0) s) :=
  execTailorError_step (s := s) (x1 := x0) (Step.refl _ _) (sub_refl _)
theorem exec_tailorReward (s : State) {x0} : StepO 142744748032 s (exec (.tailorReward x0) s) :=
  execTailorReward_step (s := s) (x1 := x0) (Step.refl _ _) (sub_refl _)
theorem exec_tailorStep (s : State) {x0} : StepO 142744748032 s (exec (.tailorStep x0) s) :=
  execTailorStep_step (s := s) (x1 := x0) (Step.refl _ _) (sub_refl _)
theorem exec_feedbackDelivery (s : State) {x0} {x1} : StepO 137438953472 s (exec (.feedbackDelivery x0 x1) s) :=
  execFeedbackDelivery_step (s := s) (x1 := x0) (x2 := x1) (Step.refl _ _) (sub_refl _)
theorem exec_rewardBroadcast (s : State) : StepO 72079190146157696 s (exec (.rewardBroadcast) s) :=
  execRewardBroadcast_step (s := s) (Step.refl _ _) (sub_refl _)
theorem exec_slotQuery (s : State) {x0} {x1} : StepO 4194304 s (exec (.slotQuery x0 x1) s) :=
  execSlotQuery_step (s := s) (x1 := x0) (x2 := x1) (Step.refl _ _) (sub_refl _)
theorem exec_contextQuery (s : State) {x0} {x1} : StepO 4194304 s (exec (.contextQuery x0 x1) s) :=
  execContextQuery_step (s := s) (x1 := x0) (x2 := x1) (Step.refl _ _) (sub_refl _)
theorem exec_oraSendFrame (s : State) {x0} {x1} : StepO 75277125092658352 s (exec (.oraSendFrame x0 x1) s) :=
  execOraSendFrame_step (s := s) (x1 := x0) (x2 := x1) (Step.refl _ _) (sub_refl _)
theorem exec_oraWriteFrame (s : State) {x0} {x1} : StepO 75277125092658352 s (exec (.oraWriteFrame x0 x1) s) :=
  execOraWriteFrame_step (s := s) (x1 := x0) (x2 := x1) (Step.refl _ _) (sub_refl _)
theorem exec_oraReadReqFrame (s : State) {x0} {x1} : StepO 75277125092658352 s (exec (.oraReadReqFrame x0 x1) s) :=
  execOraReadReqFrame_step (s := s) (x1 := x0) (x2 := x1) (Step.refl _ _) (sub_refl _)
theorem exec_oraReadRespFrame (s : State) {x0} {x1} : StepO 75277125092658352 s (exec (.oraReadRespFrame x0 x1) s) :=
  execOraReadRespFrame_step (s := s) (x1 := x0) (x2 := x1) (Step.refl _ _) (sub_refl _)
theorem exec_oraFaddFrame (s : State) {x0} {x1} : StepO 75277125092658352 s (exec (.oraFaddFrame x0 x1) s) :=
  execOraFaddFrame_step (s := s) (x1 := x0) (x2 := x1) (Step.refl _ _) (sub_refl _)
theorem exec_oraCasFrame (s : State) {x0} {x1} : StepO 75277125092658352 s (exec (.oraCasFrame x0 x1) s) :=
  execOraCasFrame_step (s := s) (x1 := x0) (x2 := x1) (Step.refl _ _) (sub_refl _)
theorem exec_oraAtomicRespFrame (s : State) {x0} {x1} : StepO 75277125092658352 s (exec (.oraAtomicRespFrame x0 x1) s) :=
  execOraAtomicRespFrame_step (s := s) (x1 := x0) (x2 := x1) (Step.refl _ _) (sub_refl _)
theorem exec_oraAckFrame (s : State) {x0} {x1} : StepO 75276983358737584 s (exec (.oraAckFrame x0 x1) s) :=
  execOraAckFrame_step (s := s) (x1 := x0) (x2 := x1) (Step.refl _ _) (sub_refl _)
theorem exec_oraNakFrame (s : State) {x0} {x1} : StepO 75276983358737584 s (exec (.oraNakFrame x0 x1) s) :=
  execOraNakFrame_step (s := s) (x1 := x0) (x2 := x1) (Step.refl _ _) (sub_refl _)
theorem exec_oraCreditFrame (s : State) {x0} {x1} : StepO 74925122457961648 s (exec (.oraCreditFrame x0 x1) s) :=
  execOraCreditFrame_step (s := s) (x1 := x0) (x2 := x1) (Step.refl _ _) (sub_refl _)
theorem exec_heldFrameApply (s : State) {x0} : StepO 73025324196842624 s (exec (.heldFrameApply x0) s) :=
  execHeldFrameApply_step (s := s) (x1 := x0) (Step.refl _ _) (sub_refl _)
theorem exec_oraRequestSend (s : State) {x0} : StepO 73025324196842624 s (exec (.oraRequestSend x0) s) :=
  execOraRequestSend_step (s := s) (x1 := x0) (Step.refl _ _) (sub_refl _)
theorem exec_retransmitTimeout (s : State) {x0} : StepO 73030271999175865 s (exec (.retransmitTimeout x0) s) :=
  execRetransmitTimeout_step (s := s) (x1 := x0) (Step.refl _ _) (sub_refl _)
theorem exec_ackDelayExpiry (s : State) {x0} : StepO 598134329704449 s (exec (.ackDelayExpiry x0) s) :=
  execAckDelayExpiry_step (s := s) (x1 := x0) (Step.refl _ _) (sub_refl _)
theorem exec_creditProbe (s : State) {x0} : StepO 598134329704449 s (exec (.creditProbe x0) s) :=
  execCreditProbe_step (s := s) (x1 := x0) (Step.refl _ _) (sub_refl _)
theorem exec_rnrRetry (s : State) {x0} {x1} : StepO 73025324196842625 s (exec (.rnrRetry x0 x1) s) :=
  execRnrRetry_step (s := s) (x1 := x0) (x2 := x1) (Step.refl _ _) (sub_refl _)
theorem exec_remoteConnect (s : State) {x0} {x1} : StepO 72673338742017152 s (exec (.remoteConnect x0 x1) s) :=
  execRemoteConnect_step (s := s) (x1 := x0) (x2 := x1) (Step.refl _ _) (sub_refl _)
theorem exec_remoteDisconnect (s : State) {x0} {x1} : StepO 72462232509500544 s (exec (.remoteDisconnect x0 x1) s) :=
  execRemoteDisconnect_step (s := s) (x1 := x0) (x2 := x1) (Step.refl _ _) (sub_refl _)
theorem exec_remoteSend (s : State) {x0} {x1} : StepO 72321495021145216 s (exec (.remoteSend x0 x1) s) :=
  execRemoteSend_step (s := s) (x1 := x0) (x2 := x1) (Step.refl _ _) (sub_refl _)
theorem exec_remoteRecv (s : State) {x0} {x1} : StepO 72110388788595840 s (exec (.remoteRecv x0 x1) s) :=
  execRemoteRecv_step (s := s) (x1 := x0) (x2 := x1) (Step.refl _ _) (sub_refl _)
theorem exec_remoteWrite (s : State) {x0} {x1} : StepO 72321495021145216 s (exec (.remoteWrite x0 x1) s) :=
  execRemoteWrite_step (s := s) (x1 := x0) (x2 := x1) (Step.refl _ _) (sub_refl _)
theorem exec_remoteRead (s : State) {x0} {x1} : StepO 72321495021145216 s (exec (.remoteRead x0 x1) s) :=
  execRemoteRead_step (s := s) (x1 := x0) (x2 := x1) (Step.refl _ _) (sub_refl _)
theorem exec_remoteFadd (s : State) {x0} {x1} : StepO 72321495021145216 s (exec (.remoteFadd x0 x1) s) :=
  execRemoteFadd_step (s := s) (x1 := x0) (x2 := x1) (Step.refl _ _) (sub_refl _)
theorem exec_remoteCas (s : State) {x0} {x1} : StepO 72321495021145216 s (exec (.remoteCas x0 x1) s) :=
  execRemoteCas_step (s := s) (x1 := x0) (x2 := x1) (Step.refl _ _) (sub_refl _)
theorem exec_ctrset (s : State) {x0} {x1} : StepO 72462232509500544 s (exec (.ctrset x0 x1) s) :=
  execCtrset_step (s := s) (x1 := x0) (x2 := x1) (Step.refl _ _) (sub_refl _)
theorem exec_ctrfree (s : State) {x0} {x1} : StepO 72462232509500544 s (exec (.ctrfree x0 x1) s) :=
  execCtrfree_step (s := s) (x1 := x0) (x2 := x1) (Step.refl _ _) (sub_refl _)
theorem exec_tready (s : State) {x0} {x1} : StepO 72321495021145216 s (exec (.tready x0 x1) s) :=
  execTready_step (s := s) (x1 := x0) (x2 := x1) (Step.refl _ _) (sub_refl _)
theorem exec_connectionQuery (s : State) {x0} {x1} : StepO 4194304 s (exec (.connectionQuery x0 x1) s) :=
  execConnectionQuery_step (s := s) (x1 := x0) (x2 := x1) (Step.refl _ _) (sub_refl _)
theorem exec_counterQuery (s : State) {x0} {x1} : StepO 4194304 s (exec (.counterQuery x0 x1) s) :=
  execCounterQuery_step (s := s) (x1 := x0) (x2 := x1) (Step.refl _ _) (sub_refl _)
theorem exec_macControlFrame (s : State) {x0} {x1} : StepO 1010827264 s (exec (.macControlFrame x0 x1) s) :=
  execMacControlFrame_step (s := s) (x1 := x0) (x2 := x1) (Step.refl _ _) (sub_refl _)
theorem exec_portLinkChange (s : State) {x0} {x1} : StepO 79393537713243312 s (exec (.portLinkChange x0 x1) s) :=
  execPortLinkChange_step (s := s) (x1 := x0) (x2 := x1) (Step.refl _ _) (sub_refl _)
theorem exec_portConfigWrite (s : State) {x0} {x1} {x2} : StepO 74889938085872816 s (exec (.portConfigWrite x0 x1 x2) s) :=
  execPortConfigWrite_step (s := s) (x1 := x0) (x2 := x1) (x3 := x2) (Step.refl _ _) (sub_refl _)
theorem exec_portFrameTransmit (s : State) {x0} : StepO 73746443902386176 s (exec (.portFrameTransmit x0) s) :=
  execPortFrameTransmit_step (s := s) (x1 := x0) (Step.refl _ _) (sub_refl _)
theorem exec_nodeEntryExpiry (s : State) {x0} : StepO 2251799813685249 s (exec (.nodeEntryExpiry x0) s) :=
  execNodeEntryExpiry_step (s := s) (x1 := x0) (Step.refl _ _) (sub_refl _)
theorem exec_nodeTableFlush (s : State) {x0} {x1} : StepO 2251799817879552 s (exec (.nodeTableFlush x0 x1) s) :=
  execNodeTableFlush_step (s := s) (x1 := x0) (x2 := x1) (Step.refl _ _) (sub_refl _)
theorem exec_staticEntryWrite (s : State) {x0} {x1} : StepO 2251799817879552 s (exec (.staticEntryWrite x0 x1) s) :=
  execStaticEntryWrite_step (s := s) (x1 := x0) (x2 := x1) (Step.refl _ _) (sub_refl _)
theorem exec_nodeQuery (s : State) {x0} {x1} : StepO 4194304 s (exec (.nodeQuery x0 x1) s) :=
  execNodeQuery_step (s := s) (x1 := x0) (x2 := x1) (Step.refl _ _) (sub_refl _)
theorem exec_shaperRateWrite (s : State) {x0} {x1} {x2} {x3} : StepO 1125899911036928 s (exec (.shaperRateWrite x0 x1 x2 x3) s) :=
  execShaperRateWrite_step (s := s) (x1 := x0) (x2 := x1) (x3 := x2) (x4 := x3) (Step.refl _ _) (sub_refl _)
theorem exec_shaperBurstWrite (s : State) {x0} {x1} {x2} {x3} : StepO 1125899911036928 s (exec (.shaperBurstWrite x0 x1 x2 x3) s) :=
  execShaperBurstWrite_step (s := s) (x1 := x0) (x2 := x1) (x3 := x2) (x4 := x3) (Step.refl _ _) (sub_refl _)
theorem exec_nmtStart (s : State) {x0} : StepO 225197577796846772 s (exec (.nmtStart x0) s) :=
  execNmtStart_step (s := s) (x1 := x0) (Step.refl _ _) (sub_refl _)
theorem exec_nmtStop (s : State) {x0} : StepO 261226374815810736 s (exec (.nmtStop x0) s) :=
  execNmtStop_step (s := s) (x1 := x0) (Step.refl _ _) (sub_refl _)
theorem exec_nmtEnterPreoperational (s : State) {x0} : StepO 225197577796846768 s (exec (.nmtEnterPreoperational x0) s) :=
  execNmtEnterPreoperational_step (s := s) (x1 := x0) (Step.refl _ _) (sub_refl _)
theorem exec_nmtResetNode (s : State) {x0} : StepO 265559163594042556 s (exec (.nmtResetNode x0) s) :=
  execNmtResetNode_step (s := s) (x1 := x0) (Step.refl _ _) (sub_refl _)
theorem exec_nmtResetCommunication (s : State) {x0} : StepO 265172126911122620 s (exec (.nmtResetCommunication x0) s) :=
  execNmtResetCommunication_step (s := s) (x1 := x0) (Step.refl _ _) (sub_refl _)
theorem exec_heartbeatProduce (s : State) {x0} : StepO 81082389720990897 s (exec (.heartbeatProduce x0) s) :=
  execHeartbeatProduce_step (s := s) (x1 := x0) (Step.refl _ _) (sub_refl _)
theorem exec_producerHeartbeatWrite (s : State) {x0} {x1} : StepO 76020940414078140 s (exec (.producerHeartbeatWrite x0 x1) s) :=
  execProducerHeartbeatWrite_step (s := s) (x1 := x0) (x2 := x1) (Step.refl _ _) (sub_refl _)
theorem exec_heartbeatReceive (s : State) {x0} : StepO 225197577796846768 s (exec (.heartbeatReceive x0) s) :=
  execHeartbeatReceive_step (s := s) (x1 := x0) (Step.refl _ _) (sub_refl _)
theorem exec_heartbeatConsumerTimeout (s : State) {x0} : StepO 117111186739954865 s (exec (.heartbeatConsumerTimeout x0) s) :=
  execHeartbeatConsumerTimeout_step (s := s) (x1 := x0) (Step.refl _ _) (sub_refl _)
theorem exec_syncReceive (s : State) {x0} : StepO 229143329892158652 s (exec (.syncReceive x0) s) :=
  execSyncReceive_step (s := s) (x1 := x0) (Step.refl _ _) (sub_refl _)
theorem exec_emcyTransmit (s : State) : StepO 81082389720990897 s (exec (.emcyTransmit) s) :=
  execEmcyTransmit_step (s := s) (Step.refl _ _) (sub_refl _)
theorem exec_emcyCobidWrite (s : State) {x0} {x1} : StepO 76020940414078140 s (exec (.emcyCobidWrite x0 x1) s) :=
  execEmcyCobidWrite_step (s := s) (x1 := x0) (x2 := x1) (Step.refl _ _) (sub_refl _)
theorem exec_canErrorDetected (s : State) {x0} {x1} : StepO 117111186739954864 s (exec (.canErrorDetected x0 x1) s) :=
  execCanErrorDetected_step (s := s) (x1 := x0) (x2 := x1) (Step.refl _ _) (sub_refl _)
theorem exec_busOffRecovery (s : State) : StepO 81082389720990896 s (exec (.busOffRecovery) s) :=
  execBusOffRecovery_step (s := s) (Step.refl _ _) (sub_refl _)
theorem exec_busDominantTimeout (s : State) : StepO 81082389720990896 s (exec (.busDominantTimeout) s) :=
  execBusDominantTimeout_step (s := s) (Step.refl _ _) (sub_refl _)
theorem exec_sdoInitiateDownload (s : State) {x0} : StepO 288088539151691774 s (exec (.sdoInitiateDownload x0) s) :=
  execSdoInitiateDownload_step (s := s) (x1 := x0) (Step.refl _ _) (sub_refl _)
theorem exec_sdoDownloadSegment (s : State) {x0} : StepO 288088539151691774 s (exec (.sdoDownloadSegment x0) s) :=
  execSdoDownloadSegment_step (s := s) (x1 := x0) (Step.refl _ _) (sub_refl _)
theorem exec_sdoInitiateUpload (s : State) {x0} : StepO 288088539151691774 s (exec (.sdoInitiateUpload x0) s) :=
  execSdoInitiateUpload_step (s := s) (x1 := x0) (Step.refl _ _) (sub_refl _)
theorem exec_sdoUploadSegment (s : State) {x0} : StepO 288088539151691774 s (exec (.sdoUploadSegment x0) s) :=
  execSdoUploadSegment_step (s := s) (x1 := x0) (Step.refl _ _) (sub_refl _)
theorem exec_sdoBlockDownloadInitiate (s : State) {x0} : StepO 288088539151691774 s (exec (.sdoBlockDownloadInitiate x0) s) :=
  execSdoBlockDownloadInitiate_step (s := s) (x1 := x0) (Step.refl _ _) (sub_refl _)
theorem exec_sdoBlockDownloadSubblock (s : State) {x0} : StepO 288088539151691774 s (exec (.sdoBlockDownloadSubblock x0) s) :=
  execSdoBlockDownloadSubblock_step (s := s) (x1 := x0) (Step.refl _ _) (sub_refl _)
theorem exec_sdoBlockDownloadEnd (s : State) {x0} : StepO 288088539151691774 s (exec (.sdoBlockDownloadEnd x0) s) :=
  execSdoBlockDownloadEnd_step (s := s) (x1 := x0) (Step.refl _ _) (sub_refl _)
theorem exec_sdoBlockUploadInitiate (s : State) {x0} : StepO 288088539151691774 s (exec (.sdoBlockUploadInitiate x0) s) :=
  execSdoBlockUploadInitiate_step (s := s) (x1 := x0) (Step.refl _ _) (sub_refl _)
theorem exec_sdoBlockUploadStart (s : State) {x0} : StepO 288088539151691774 s (exec (.sdoBlockUploadStart x0) s) :=
  execSdoBlockUploadStart_step (s := s) (x1 := x0) (Step.refl _ _) (sub_refl _)
theorem exec_sdoBlockUploadAck (s : State) {x0} : StepO 288088539151691774 s (exec (.sdoBlockUploadAck x0) s) :=
  execSdoBlockUploadAck_step (s := s) (x1 := x0) (Step.refl _ _) (sub_refl _)
theorem exec_sdoBlockUploadEnd (s : State) {x0} : StepO 288088539151691774 s (exec (.sdoBlockUploadEnd x0) s) :=
  execSdoBlockUploadEnd_step (s := s) (x1 := x0) (Step.refl _ _) (sub_refl _)
theorem exec_sdoAbortReceive (s : State) {x0} : StepO 288088539151691774 s (exec (.sdoAbortReceive x0) s) :=
  execSdoAbortReceive_step (s := s) (x1 := x0) (Step.refl _ _) (sub_refl _)
theorem exec_sdoTimeout (s : State) : StepO 117111186739954865 s (exec (.sdoTimeout) s) :=
  execSdoTimeout_step (s := s) (Step.refl _ _) (sub_refl _)
theorem exec_rpdoReceive (s : State) {x0} {x1} : StepO 229143329892158652 s (exec (.rpdoReceive x0 x1) s) :=
  execRpdoReceive_step (s := s) (x1 := x0) (x2 := x1) (Step.refl _ _) (sub_refl _)
theorem exec_rpdoEventTimeout (s : State) {x0} : StepO 81082389720990897 s (exec (.rpdoEventTimeout x0) s) :=
  execRpdoEventTimeout_step (s := s) (x1 := x0) (Step.refl _ _) (sub_refl _)
theorem exec_tpdoChangeCheck (s : State) {x0} : StepO 225197577796846768 s (exec (.tpdoChangeCheck x0) s) :=
  execTpdoChangeCheck_step (s := s) (x1 := x0) (Step.refl _ _) (sub_refl _)
theorem exec_tpdoEventTimer (s : State) {x0} : StepO 225197577796846769 s (exec (.tpdoEventTimer x0) s) :=
  execTpdoEventTimer_step (s := s) (x1 := x0) (Step.refl _ _) (sub_refl _)
theorem exec_tpdoInhibitEnd (s : State) {x0} : StepO 225197577796846769 s (exec (.tpdoInhibitEnd x0) s) :=
  execTpdoInhibitEnd_step (s := s) (x1 := x0) (Step.refl _ _) (sub_refl _)
theorem exec_storeParameters (s : State) {x0} {x1} {x2} : StepO 36028797023158272 s (exec (.storeParameters x0 x1 x2) s) :=
  execStoreParameters_step (s := s) (x1 := x0) (x2 := x1) (x3 := x2) (Step.refl _ _) (sub_refl _)
theorem exec_storeDone (s : State) {x0} : StepO 288088539151691774 s (exec (.storeDone x0) s) :=
  execStoreDone_step (s := s) (x1 := x0) (Step.refl _ _) (sub_refl _)
theorem exec_restoreDefaults (s : State) {x0} {x1} {x2} : StepO 36028797023158272 s (exec (.restoreDefaults x0 x1 x2) s) :=
  execRestoreDefaults_step (s := s) (x1 := x0) (x2 := x1) (x3 := x2) (Step.refl _ _) (sub_refl _)
theorem exec_errorHistoryClear (s : State) {x0} {x1} : StepO 12582912 s (exec (.errorHistoryClear x0 x1) s) :=
  execErrorHistoryClear_step (s := s) (x1 := x0) (x2 := x1) (Step.refl _ _) (sub_refl _)
theorem exec_dictionaryWrite (s : State) {x0} {x1} {x2} {x3} : StepO 288088539151691774 s (exec (.dictionaryWrite x0 x1 x2 x3) s) :=
  execDictionaryWrite_step (s := s) (x1 := x0) (x2 := x1) (x3 := x2) (x4 := x3) (Step.refl _ _) (sub_refl _)
theorem exec_mirrorRead (s : State) {x0} {x1} {x2} : StepO 216172782113783808 s (exec (.mirrorRead x0 x1 x2) s) :=
  execMirrorRead_step (s := s) (x1 := x0) (x2 := x1) (x3 := x2) (Step.refl _ _) (sub_refl _)
theorem exec_mirrorWrite (s : State) {x0} {x1} : StepO 4194304 s (exec (.mirrorWrite x0 x1) s) :=
  execMirrorWrite_step (s := s) (x1 := x0) (x2 := x1) (Step.refl _ _) (sub_refl _)
theorem exec_mailboxRead (s : State) {x0} {x1} : StepO 225197577847178416 s (exec (.mailboxRead x0 x1) s) :=
  execMailboxRead_step (s := s) (x1 := x0) (x2 := x1) (Step.refl _ _) (sub_refl _)
theorem exec_mailboxWrite (s : State) {x0} {x1} : StepO 288088539151691774 s (exec (.mailboxWrite x0 x1) s) :=
  execMailboxWrite_step (s := s) (x1 := x0) (x2 := x1) (Step.refl _ _) (sub_refl _)
theorem exec_mailboxAbort (s : State) {x0} {x1} : StepO 117111186790286512 s (exec (.mailboxAbort x0 x1) s) :=
  execMailboxAbort_step (s := s) (x1 := x0) (x2 := x1) (Step.refl _ _) (sub_refl _)
theorem exec_mailboxComplete (s : State) {x0} : StepO 72057594092454912 s (exec (.mailboxComplete x0) s) :=
  execMailboxComplete_step (s := s) (x1 := x0) (Step.refl _ _) (sub_refl _)
theorem exec_mailboxDoneClear (s : State) {x0} : StepO 50331648 s (exec (.mailboxDoneClear x0) s) :=
  execMailboxDoneClear_step (s := s) (x1 := x0) (Step.refl _ _) (sub_refl _)
theorem exec_mailboxChunkTimeout (s : State) {x0} : StepO 117111186790286513 s (exec (.mailboxChunkTimeout x0) s) :=
  execMailboxChunkTimeout_step (s := s) (x1 := x0) (Step.refl _ _) (sub_refl _)
theorem exec_mainInputStateChange (s : State) {x0} {x1} : StepO 125958952566353914 s (exec (.mainInputStateChange x0 x1) s) :=
  execMainInputStateChange_step (s := s) (x1 := x0) (x2 := x1) (Step.refl _ _) (sub_refl _)
theorem exec_standbyInputFault (s : State) {x0} : StepO 125958952566353914 s (exec (.standbyInputFault x0) s) :=
  execStandbyInputFault_step (s := s) (x1 := x0) (Step.refl _ _) (sub_refl _)
theorem exec_domainRequestOn (s : State) {x0} {x1} : StepO 125958952566353914 s (exec (.domainRequestOn x0 x1) s) :=
  execDomainRequestOn_step (s := s) (x1 := x0) (x2 := x1) (Step.refl _ _) (sub_refl _)
theorem exec_domainRequestOff (s : State) {x0} {x1} : StepO 234045274903769082 s (exec (.domainRequestOff x0 x1) s) :=
  execDomainRequestOff_step (s := s) (x1 := x0) (x2 := x1) (Step.refl _ _) (sub_refl _)
theorem exec_domainRampStart (s : State) {x0} : StepO 4503599627370496 s (exec (.domainRampStart x0) s) :=
  execDomainRampStart_step (s := s) (x1 := x0) (Step.refl _ _) (sub_refl _)
theorem exec_domainPowerGood (s : State) {x0} : StepO 121619888788688058 s (exec (.domainPowerGood x0) s) :=
  execDomainPowerGood_step (s := s) (x1 := x0) (Step.refl _ _) (sub_refl _)
theorem exec_domainPowerGoodTimeout (s : State) {x0} : StepO 125958883846877179 s (exec (.domainPowerGoodTimeout x0) s) :=
  execDomainPowerGoodTimeout_step (s := s) (x1 := x0) (Step.refl _ _) (sub_refl _)
theorem exec_panelRailWarning (s : State) {x0} {x1} {x2} : StepO 85585989348361392 s (exec (.panelRailWarning x0 x1 x2) s) :=
  execPanelRailWarning_step (s := s) (x1 := x0) (x2 := x1) (x3 := x2) (Step.refl _ _) (sub_refl _)
theorem exec_panelRailRecovered (s : State) {x0} {x1} {x2} : StepO 85585989348361392 s (exec (.panelRailRecovered x0 x1 x2) s) :=
  execPanelRailRecovered_step (s := s) (x1 := x0) (x2 := x1) (x3 := x2) (Step.refl _ _) (sub_refl _)
theorem exec_panelRailReset (s : State) {x0} {x1} {x2} : StepO 85586165442020530 s (exec (.panelRailReset x0 x1 x2) s) :=
  execPanelRailReset_step (s := s) (x1 := x0) (x2 := x1) (x3 := x2) (Step.refl _ _) (sub_refl _)
theorem exec_panelResetRelease (s : State) {x0} : StepO 4503599627370497 s (exec (.panelResetRelease x0) s) :=
  execPanelResetRelease_step (s := s) (x1 := x0) (Step.refl _ _) (sub_refl _)
theorem exec_panelResetTimeout (s : State) {x0} : StepO 85586165442020531 s (exec (.panelResetTimeout x0) s) :=
  execPanelResetTimeout_step (s := s) (x1 := x0) (Step.refl _ _) (sub_refl _)
theorem exec_railWarning (s : State) {x0} : StepO 4503600634003456 s (exec (.railWarning x0) s) :=
  execRailWarning_step (s := s) (x1 := x0) (Step.refl _ _) (sub_refl _)
theorem exec_railReset (s : State) {x0} : StepO 232529864360225978 s (exec (.railReset x0) s) :=
  execRailReset_step (s := s) (x1 := x0) (Step.refl _ _) (sub_refl _)
theorem exec_brownoutClear (s : State) {x0} {x1} : StepO 85585989348361392 s (exec (.brownoutClear x0 x1) s) :=
  execBrownoutClear_step (s := s) (x1 := x0) (x2 := x1) (Step.refl _ _) (sub_refl _)
theorem exec_powerLimitAction (s : State) {x0} : StepO 76578787946136752 s (exec (.powerLimitAction x0) s) :=
  execPowerLimitAction_step (s := s) (x1 := x0) (Step.refl _ _) (sub_refl _)
theorem exec_powerLimitRelease (s : State) {x0} : StepO 76578787946136753 s (exec (.powerLimitRelease x0) s) :=
  execPowerLimitRelease_step (s := s) (x1 := x0) (Step.refl _ _) (sub_refl _)
theorem exec_panelOvercurrent (s : State) {x0} {x1} : StepO 85586165442020530 s (exec (.panelOvercurrent x0 x1) s) :=
  execPanelOvercurrent_step (s := s) (x1 := x0) (x2 := x1) (Step.refl _ _) (sub_refl _)
theorem exec_overcurrentClear (s : State) {x0} {x1} {x2} : StepO 85585989348361392 s (exec (.overcurrentClear x0 x1 x2) s) :=
  execOvercurrentClear_step (s := s) (x1 := x0) (x2 := x1) (x3 := x2) (Step.refl _ _) (sub_refl _)
theorem exec_clockCheck (s : State) {x0} : StepO 268558730098666682 s (exec (.clockCheck x0) s) :=
  execClockCheck_step (s := s) (x1 := x0) (Step.refl _ _) (sub_refl _)
theorem exec_pllUnlock (s : State) {x0} : StepO 268558730098666682 s (exec (.pllUnlock x0) s) :=
  execPllUnlock_step (s := s) (x1 := x0) (Step.refl _ _) (sub_refl _)
theorem exec_referenceLost (s : State) : StepO 234045274903769086 s (exec (.referenceLost) s) :=
  execReferenceLost_step (s := s) (Step.refl _ _) (sub_refl _)
theorem exec_coolantSensorFault (s : State) {x0} {x1} : StepO 85585989348361392 s (exec (.coolantSensorFault x0 x1) s) :=
  execCoolantSensorFault_step (s := s) (x1 := x0) (x2 := x1) (Step.refl _ _) (sub_refl _)
theorem exec_coolantSensorRecovered (s : State) {x0} {x1} : StepO 85585989348361392 s (exec (.coolantSensorRecovered x0 x1) s) :=
  execCoolantSensorRecovered_step (s := s) (x1 := x0) (x2 := x1) (Step.refl _ _) (sub_refl _)
theorem exec_outletWarning (s : State) {x0} : StepO 76578787946136752 s (exec (.outletWarning x0) s) :=
  execOutletWarning_step (s := s) (x1 := x0) (Step.refl _ _) (sub_refl _)
theorem exec_thermalLimit (s : State) {x0} {x1} : StepO 85585989348361392 s (exec (.thermalLimit x0 x1) s) :=
  execThermalLimit_step (s := s) (x1 := x0) (x2 := x1) (Step.refl _ _) (sub_refl _)
theorem exec_thermalLimitEnd (s : State) {x0} {x1} : StepO 85585989348361392 s (exec (.thermalLimitEnd x0 x1) s) :=
  execThermalLimitEnd_step (s := s) (x1 := x0) (x2 := x1) (Step.refl _ _) (sub_refl _)
theorem exec_outletShutdown (s : State) {x0} : StepO 234045274903769082 s (exec (.outletShutdown x0) s) :=
  execOutletShutdown_step (s := s) (x1 := x0) (Step.refl _ _) (sub_refl _)
theorem exec_dieTemperatureChange (s : State) {x0} {x1} : StepO 85586165442020530 s (exec (.dieTemperatureChange x0 x1) s) :=
  execDieTemperatureChange_step (s := s) (x1 := x0) (x2 := x1) (Step.refl _ _) (sub_refl _)
theorem exec_coldStart (s : State) {x0} {x1} : StepO 54043195528445950 s (exec (.coldStart x0 x1) s) :=
  execColdStart_step (s := s) (x1 := x0) (x2 := x1) (Step.refl _ _) (sub_refl _)
theorem exec_moduleResetAssert (s : State) : StepO 53901354300567546 s (exec (.moduleResetAssert) s) :=
  execModuleResetAssert_step (s := s) (Step.refl _ _) (sub_refl _)
theorem exec_warmStart (s : State) {x0} {x1} : StepO 270074138494726138 s (exec (.warmStart x0 x1) s) :=
  execWarmStart_step (s := s) (x1 := x0) (x2 := x1) (Step.refl _ _) (sub_refl _)
theorem exec_fuseLoad (s : State) {x0} : StepO 99096788230472882 s (exec (.fuseLoad x0) s) :=
  execFuseLoad_step (s := s) (x1 := x0) (Step.refl _ _) (sub_refl _)
theorem exec_imageVerify (s : State) {x0} {x1} : StepO 117111186739954864 s (exec (.imageVerify x0 x1) s) :=
  execImageVerify_step (s := s) (x1 := x0) (x2 := x1) (Step.refl _ _) (sub_refl _)
theorem exec_collarFirmwareStart (s : State) : StepO 288088470432215038 s (exec (.collarFirmwareStart) s) :=
  execCollarFirmwareStart_step (s := s) (Step.refl _ _) (sub_refl _)
theorem exec_mainInputQualified (s : State) : StepO 13510798882111489 s (exec (.mainInputQualified) s) :=
  execMainInputQualified_step (s := s) (Step.refl _ _) (sub_refl _)
theorem exec_yokeRamp (s : State) : StepO 13510798882111488 s (exec (.yokeRamp) s) :=
  execYokeRamp_step (s := s) (Step.refl _ _) (sub_refl _)
theorem exec_yokeLoad (s : State) {x0} : StepO 270074140642209786 s (exec (.yokeLoad x0) s) :=
  execYokeLoad_step (s := s) (x1 := x0) (Step.refl _ _) (sub_refl _)
theorem exec_yokeSelfTest (s : State) {x0} : StepO 270074140642209790 s (exec (.yokeSelfTest x0) s) :=
  execYokeSelfTest_step (s := s) (x1 := x0) (Step.refl _ _) (sub_refl _)
theorem exec_domainPowerUp (s : State) : StepO 121614786367325360 s (exec (.domainPowerUp) s) :=
  execDomainPowerUp_step (s := s) (Step.refl _ _) (sub_refl _)
theorem exec_dramTrainingDone (s : State) {x0} {x1} : StepO 121614786367325360 s (exec (.dramTrainingDone x0 x1) s) :=
  execDramTrainingDone_step (s := s) (x1 := x0) (x2 := x1) (Step.refl _ _) (sub_refl _)
theorem exec_segmentScrubDone (s : State) {x0} {x1} : StepO 117111186742052017 s (exec (.segmentScrubDone x0 x1) s) :=
  execSegmentScrubDone_step (s := s) (x1 := x0) (x2 := x1) (Step.refl _ _) (sub_refl _)
theorem exec_panelSelfTestDone (s : State) {x0} {x1} {x2} : StepO 85586126787314866 s (exec (.panelSelfTestDone x0 x1 x2) s) :=
  execPanelSelfTestDone_step (s := s) (x1 := x0) (x2 := x1) (x3 := x2) (Step.refl _ _) (sub_refl _)
theorem exec_gridBuild (s : State) {x0} : StepO 121619888788688058 s (exec (.gridBuild x0) s) :=
  execGridBuild_step (s := s) (x1 := x0) (Step.refl _ _) (sub_refl _)
theorem exec_startupStepTimeout (s : State) {x0} {x1} : StepO 270074140642209787 s (exec (.startupStepTimeout x0 x1) s) :=
  execStartupStepTimeout_step (s := s) (x1 := x0) (x2 := x1) (Step.refl _ _) (sub_refl _)
theorem exec_yokeStartRetry (s : State) : StepO 13510798882111489 s (exec (.yokeStartRetry) s) :=
  execYokeStartRetry_step (s := s) (Step.refl _ _) (sub_refl _)
theorem exec_tileFence (s : State) {x0} : StepO 81087805674974394 s (exec (.tileFence x0) s) :=
  execTileFence_step (s := s) (x1 := x0) (Step.refl _ _) (sub_refl _)
theorem exec_storeMoveEnd (s : State) {x0} {x1} : StepO 17769287385089 s (exec (.storeMoveEnd x0 x1) s) :=
  execStoreMoveEnd_step (s := s) (x1 := x0) (x2 := x1) (Step.refl _ _) (sub_refl _)
theorem exec_panelLossRebuild (s : State) : StepO 85591096064699578 s (exec (.panelLossRebuild) s) :=
  execPanelLossRebuild_step (s := s) (Step.refl _ _) (sub_refl _)
theorem exec_panelResetFence (s : State) {x0} : StepO 81087496437132474 s (exec (.panelResetFence x0) s) :=
  execPanelResetFence_step (s := s) (x1 := x0) (Step.refl _ _) (sub_refl _)
theorem exec_panelReturn (s : State) {x0} {x1} : StepO 85586131082282162 s (exec (.panelReturn x0 x1) s) :=
  execPanelReturn_step (s := s) (x1 := x0) (x2 := x1) (Step.refl _ _) (sub_refl _)
theorem exec_leaseExpiry (s : State) {x0} {x1} : StepO 81082402605892784 s (exec (.leaseExpiry x0 x1) s) :=
  execLeaseExpiry_step (s := s) (x1 := x0) (x2 := x1) (Step.refl _ _) (sub_refl _)
theorem exec_ownerFence (s : State) {x0} {x1} : StepO 225598517291216120 s (exec (.ownerFence x0 x1) s) :=
  execOwnerFence_step (s := s) (x1 := x0) (x2 := x1) (Step.refl _ _) (sub_refl _)
theorem exec_dmaDrainDone (s : State) {x0} {x1} : StepO 17179869184 s (exec (.dmaDrainDone x0 x1) s) :=
  execDmaDrainDone_step (s := s) (x1 := x0) (x2 := x1) (Step.refl _ _) (sub_refl _)
theorem exec_drainTimeout (s : State) {x0} {x1} : StepO 81082411195827377 s (exec (.drainTimeout x0 x1) s) :=
  execDrainTimeout_step (s := s) (x1 := x0) (x2 := x1) (Step.refl _ _) (sub_refl _)
theorem exec_fenceJob (s : State) {x0} {x1} : StepO 4299161600 s (exec (.fenceJob x0 x1) s) :=
  execFenceJob_step (s := s) (x1 := x0) (x2 := x1) (Step.refl _ _) (sub_refl _)
theorem exec_yokeFailure (s : State) {x0} : StepO 270074140642209786 s (exec (.yokeFailure x0) s) :=
  execYokeFailure_step (s := s) (x1 := x0) (Step.refl _ _) (sub_refl _)
theorem exec_collarFailure (s : State) {x0} : StepO 117111255459431600 s (exec (.collarFailure x0) s) :=
  execCollarFailure_step (s := s) (x1 := x0) (Step.refl _ _) (sub_refl _)
theorem exec_collarAbsentTimeout (s : State) : StepO 234045274903769083 s (exec (.collarAbsentTimeout) s) :=
  execCollarAbsentTimeout_step (s := s) (Step.refl _ _) (sub_refl _)
theorem exec_gridRestore (s : State) {x0} {x1} {x2} : StepO 85591091769724090 s (exec (.gridRestore x0 x1 x2) s) :=
  execGridRestore_step (s := s) (x1 := x0) (x2 := x1) (x3 := x2) (Step.refl _ _) (sub_refl _)
theorem exec_replacementClear (s : State) {x0} {x1} : StepO 81082389720990896 s (exec (.replacementClear x0 x1) s) :=
  execReplacementClear_step (s := s) (x1 := x0) (x2 := x1) (Step.refl _ _) (sub_refl _)
theorem exec_faultLogClear (s : State) {x0} {x1} : StepO 406847488 s (exec (.faultLogClear x0 x1) s) :=
  execFaultLogClear_step (s := s) (x1 := x0) (x2 := x1) (Step.refl _ _) (sub_refl _)
theorem exec_detectorQuery (s : State) {x0} {x1} : StepO 4194304 s (exec (.detectorQuery x0 x1) s) :=
  execDetectorQuery_step (s := s) (x1 := x0) (x2 := x1) (Step.refl _ _) (sub_refl _)
theorem exec_logQuery (s : State) {x0} {x1} : StepO 4194304 s (exec (.logQuery x0 x1) s) :=
  execLogQuery_step (s := s) (x1 := x0) (x2 := x1) (Step.refl _ _) (sub_refl _)
theorem exec_injectionArm (s : State) {x0} : StepO 68723671040 s (exec (.injectionArm x0) s) :=
  execInjectionArm_step (s := s) (x1 := x0) (Step.refl _ _) (sub_refl _)
theorem exec_injectionDisarm (s : State) {x0} : StepO 68723671040 s (exec (.injectionDisarm x0) s) :=
  execInjectionDisarm_step (s := s) (x1 := x0) (Step.refl _ _) (sub_refl _)
theorem exec_injectionFire (s : State) : StepO 288088539151691774 s (exec (.injectionFire) s) :=
  execInjectionFire_step (s := s) (Step.refl _ _) (sub_refl _)
theorem exec_updateBegin (s : State) {x0} : StepO 36028797023158272 s (exec (.updateBegin x0) s) :=
  execUpdateBegin_step (s := s) (x1 := x0) (Step.refl _ _) (sub_refl _)
theorem exec_slotEraseDone (s : State) {x0} : StepO 108103985388061872 s (exec (.slotEraseDone x0) s) :=
  execSlotEraseDone_step (s := s) (x1 := x0) (Step.refl _ _) (sub_refl _)
theorem exec_updateCancel (s : State) {x0} : StepO 288088539151691774 s (exec (.updateCancel x0) s) :=
  execUpdateCancel_step (s := s) (x1 := x0) (Step.refl _ _) (sub_refl _)
theorem exec_updateRestart (s : State) {x0} : StepO 270074140642209786 s (exec (.updateRestart x0) s) :=
  execUpdateRestart_step (s := s) (x1 := x0) (Step.refl _ _) (sub_refl _)
theorem exec_imageDataWrite (s : State) {x0} {x1} : StepO 288088539151691774 s (exec (.imageDataWrite x0 x1) s) :=
  execImageDataWrite_step (s := s) (x1 := x0) (x2 := x1) (Step.refl _ _) (sub_refl _)
theorem exec_imageUpdateVerify (s : State) {x0} {x1} : StepO 288088539151691774 s (exec (.imageUpdateVerify x0 x1) s) :=
  execImageUpdateVerify_step (s := s) (x1 := x0) (x2 := x1) (Step.refl _ _) (sub_refl _)
theorem exec_healthWindowExpiry (s : State) : StepO 36028797018963969 s (exec (.healthWindowExpiry) s) :=
  execHealthWindowExpiry_step (s := s) (Step.refl _ _) (sub_refl _)
theorem exec_commit (s : State) {x0} {x1} : StepO 135125585249436848 s (exec (.commit x0 x1) s) :=
  execCommit_step (s := s) (x1 := x0) (x2 := x1) (Step.refl _ _) (sub_refl _)
theorem exec_carrierReturn (s : State) : StepO 4 s (exec (.carrierReturn) s) :=
  execCarrierReturn_step (s := s) (Step.refl _ _) (sub_refl _)
theorem exec_referenceReturn (s : State) : StepO 4503599627370496 s (exec (.referenceReturn) s) :=
  execReferenceReturn_step (s := s) (Step.refl _ _) (sub_refl _)
theorem exec_receivedFrameDiscard (s : State) {x0} {x1} : StepO 1010827264 s (exec (.receivedFrameDiscard x0 x1) s) :=
  execReceivedFrameDiscard_step (s := s) (x1 := x0) (x2 := x1) (Step.refl _ _) (sub_refl _)
theorem exec_ploadDone (s : State) {x0} {x1} : StepO 72075204416507008 s (exec (.ploadDone x0 x1) s) :=
  execPloadDone_step (s := s) (x1 := x0) (x2 := x1) (Step.refl _ _) (sub_refl _)

/-- Every command answers a next state, leaves the queue alone, and keeps the invariant. -/
theorem exec_step (i : Instr) (s : State) : ∃ F, StepO F s (exec i s) ∧ F.testBit 58 = false := by
  cases i with
  | lineBoundary => exact ⟨_, exec_lineBoundary s, rfl⟩
  | seamLaneFail _ _ _ => exact ⟨_, exec_seamLaneFail s, rfl⟩
  | passThroughLaneFail _ _ _ => exact ⟨_, exec_passThroughLaneFail s, rfl⟩
  | translationQuery _ _ => exact ⟨_, exec_translationQuery s, rfl⟩
  | beatWordDecide _ _ => exact ⟨_, exec_beatWordDecide s, rfl⟩
  | beatWindowClose => exact ⟨_, exec_beatWindowClose s, rfl⟩
  | carrierAbsent => exact ⟨_, exec_carrierAbsent s, rfl⟩
  | holdoverLimit => exact ⟨_, exec_holdoverLimit s, rfl⟩
  | holdoverLimitWrite _ _ => exact ⟨_, exec_holdoverLimitWrite s, rfl⟩
  | sessionBeat _ => exact ⟨_, exec_sessionBeat s, rfl⟩
  | sessionQuery _ _ => exact ⟨_, exec_sessionQuery s, rfl⟩
  | matrixIssue _ => exact ⟨_, exec_matrixIssue s, rfl⟩
  | instructionRetire _ => exact ⟨_, exec_instructionRetire s, rfl⟩
  | issueHang _ => exact ⟨_, exec_issueHang s, rfl⟩
  | tileHeartbeatTimeout _ => exact ⟨_, exec_tileHeartbeatTimeout s, rfl⟩
  | prepCoreInstruction _ _ _ => exact ⟨_, exec_prepCoreInstruction s, rfl⟩
  | eccWriteback _ => exact ⟨_, exec_eccWriteback s, rfl⟩
  | mpush _ _ => exact ⟨_, exec_mpush s, rfl⟩
  | mwait _ _ => exact ⟨_, exec_mwait s, rfl⟩
  | ffill _ _ _ => exact ⟨_, exec_ffill s, rfl⟩
  | psat _ _ => exact ⟨_, exec_psat s, rfl⟩
  | pqnt _ _ => exact ⟨_, exec_pqnt s, rfl⟩
  | acopy _ _ => exact ⟨_, exec_acopy s, rfl⟩
  | alut _ _ => exact ⟨_, exec_alut s, rfl⟩
  | ccount _ _ => exact ⟨_, exec_ccount s, rfl⟩
  | msend _ _ => exact ⟨_, exec_msend s, rfl⟩
  | msendLineLand _ _ => exact ⟨_, exec_msendLineLand s, rfl⟩
  | mrecv _ _ => exact ⟨_, exec_mrecv s, rfl⟩
  | evpush _ _ => exact ⟨_, exec_evpush s, rfl⟩
  | wland _ _ => exact ⟨_, exec_wland s, rfl⟩
  | stamp _ _ => exact ⟨_, exec_stamp s, rfl⟩
  | tend _ _ => exact ⟨_, exec_tend s, rfl⟩
  | taskEnd _ => exact ⟨_, exec_taskEnd s, rfl⟩
  | regionAdvance _ _ _ _ => exact ⟨_, exec_regionAdvance s, rfl⟩
  | qstatClear _ _ => exact ⟨_, exec_qstatClear s, rfl⟩
  | tileCounterReadClear _ _ => exact ⟨_, exec_tileCounterReadClear s, rfl⟩
  | tileQuery _ _ => exact ⟨_, exec_tileQuery s, rfl⟩
  | storeQuery _ _ => exact ⟨_, exec_storeQuery s, rfl⟩
  | nvmeLinkUp _ _ _ => exact ⟨_, exec_nvmeLinkUp s, rfl⟩
  | nvmeLinkDown _ => exact ⟨_, exec_nvmeLinkDown s, rfl⟩
  | nvmeLinkRetry _ => exact ⟨_, exec_nvmeLinkRetry s, rfl⟩
  | nvmeCommandTimeout _ _ => exact ⟨_, exec_nvmeCommandTimeout s, rfl⟩
  | nvmeCompletion _ _ _ _ => exact ⟨_, exec_nvmeCompletion s, rfl⟩
  | smartPoll _ _ => exact ⟨_, exec_smartPoll s, rfl⟩
  | patrolScrub _ => exact ⟨_, exec_patrolScrub s, rfl⟩
  | pleatStaged _ _ => exact ⟨_, exec_pleatStaged s, rfl⟩
  | flashStageLine _ _ => exact ⟨_, exec_flashStageLine s, rfl⟩
  | passStart _ => exact ⟨_, exec_passStart s, rfl⟩
  | stepFetchLine _ _ _ => exact ⟨_, exec_stepFetchLine s, rfl⟩
  | blockLanded _ _ _ _ => exact ⟨_, exec_blockLanded s, rfl⟩
  | landingLine _ _ _ => exact ⟨_, exec_landingLine s, rfl⟩
  | passEnd _ _ => exact ⟨_, exec_passEnd s, rfl⟩
  | segmentQuery _ _ => exact ⟨_, exec_segmentQuery s, rfl⟩
  | planQuery _ _ => exact ⟨_, exec_planQuery s, rfl⟩
  | functionLevelReset _ => exact ⟨_, exec_functionLevelReset s, rfl⟩
  | hostLinkDown _ => exact ⟨_, exec_hostLinkDown s, rfl⟩
  | hostLinkUp _ _ _ => exact ⟨_, exec_hostLinkUp s, rfl⟩
  | pcieUncorrectableError _ => exact ⟨_, exec_pcieUncorrectableError s, rfl⟩
  | bar2Access _ _ _ _ => exact ⟨_, exec_bar2Access s, rfl⟩
  | apertureAccess _ _ _ => exact ⟨_, exec_apertureAccess s, rfl⟩
  | stampLoRead _ => exact ⟨_, exec_stampLoRead s, rfl⟩
  | ringConfigWrite _ _ _ => exact ⟨_, exec_ringConfigWrite s, rfl⟩
  | sqDoorbell _ _ _ _ _ => exact ⟨_, exec_sqDoorbell s, rfl⟩
  | cqDoorbell _ _ _ _ _ => exact ⟨_, exec_cqDoorbell s, rfl⟩
  | descriptorFetch _ _ => exact ⟨_, exec_descriptorFetch s, rfl⟩
  | entryBegin _ => exact ⟨_, exec_entryBegin s, rfl⟩
  | entryNop _ _ => exact ⟨_, exec_entryNop s, rfl⟩
  | pload _ _ => exact ⟨_, exec_pload s, rfl⟩
  | tstart _ _ => exact ⟨_, exec_tstart s, rfl⟩
  | copy _ _ _ => exact ⟨_, exec_copy s, rfl⟩
  | copyDone _ _ => exact ⟨_, exec_copyDone s, rfl⟩
  | jopen _ _ => exact ⟨_, exec_jopen s, rfl⟩
  | jclose _ _ => exact ⟨_, exec_jclose s, rfl⟩
  | planload _ _ => exact ⟨_, exec_planload s, rfl⟩
  | activate _ _ => exact ⟨_, exec_activate s, rfl⟩
  | deactivate _ _ => exact ⟨_, exec_deactivate s, rfl⟩
  | unload _ _ => exact ⟨_, exec_unload s, rfl⟩
  | restage _ _ => exact ⟨_, exec_restage s, rfl⟩
  | fread _ _ => exact ⟨_, exec_fread s, rfl⟩
  | fwrite _ _ => exact ⟨_, exec_fwrite s, rfl⟩
  | fflush _ _ => exact ⟨_, exec_fflush s, rfl⟩
  | ftrim _ _ => exact ⟨_, exec_ftrim s, rfl⟩
  | tattach _ _ => exact ⟨_, exec_tattach s, rfl⟩
  | tattachScanDone _ _ => exact ⟨_, exec_tattachScanDone s, rfl⟩
  | tdetach _ _ => exact ⟨_, exec_tdetach s, rfl⟩
  | treward _ _ => exact ⟨_, exec_treward s, rfl⟩
  | tclear _ _ => exact ⟨_, exec_tclear s, rfl⟩
  | sopen _ _ => exact ⟨_, exec_sopen s, rfl⟩
  | sretime _ _ => exact ⟨_, exec_sretime s, rfl⟩
  | sresume _ _ => exact ⟨_, exec_sresume s, rfl⟩
  | sclose _ _ => exact ⟨_, exec_sclose s, rfl⟩
  | sbind _ _ => exact ⟨_, exec_sbind s, rfl⟩
  | frame _ _ => exact ⟨_, exec_frame s, rfl⟩
  | fready _ _ => exact ⟨_, exec_fready s, rfl⟩
  | jobQuery _ _ => exact ⟨_, exec_jobQuery s, rfl⟩
  | tailorPre _ => exact ⟨_, exec_tailorPre s, rfl⟩
  | tailorPost _ => exact ⟨_, exec_tailorPost s, rfl⟩
  | tailorError _ => exact ⟨_, exec_tailorError s, rfl⟩
  | tailorReward _ => exact ⟨_, exec_tailorReward s, rfl⟩
  | tailorStep _ => exact ⟨_, exec_tailorStep s, rfl⟩
  | feedbackDelivery _ _ => exact ⟨_, exec_feedbackDelivery s, rfl⟩
  | rewardBroadcast => exact ⟨_, exec_rewardBroadcast s, rfl⟩
  | slotQuery _ _ => exact ⟨_, exec_slotQuery s, rfl⟩
  | contextQuery _ _ => exact ⟨_, exec_contextQuery s, rfl⟩
  | oraSendFrame _ _ => exact ⟨_, exec_oraSendFrame s, rfl⟩
  | oraWriteFrame _ _ => exact ⟨_, exec_oraWriteFrame s, rfl⟩
  | oraReadReqFrame _ _ => exact ⟨_, exec_oraReadReqFrame s, rfl⟩
  | oraReadRespFrame _ _ => exact ⟨_, exec_oraReadRespFrame s, rfl⟩
  | oraFaddFrame _ _ => exact ⟨_, exec_oraFaddFrame s, rfl⟩
  | oraCasFrame _ _ => exact ⟨_, exec_oraCasFrame s, rfl⟩
  | oraAtomicRespFrame _ _ => exact ⟨_, exec_oraAtomicRespFrame s, rfl⟩
  | oraAckFrame _ _ => exact ⟨_, exec_oraAckFrame s, rfl⟩
  | oraNakFrame _ _ => exact ⟨_, exec_oraNakFrame s, rfl⟩
  | oraCreditFrame _ _ => exact ⟨_, exec_oraCreditFrame s, rfl⟩
  | heldFrameApply _ => exact ⟨_, exec_heldFrameApply s, rfl⟩
  | oraRequestSend _ => exact ⟨_, exec_oraRequestSend s, rfl⟩
  | retransmitTimeout _ => exact ⟨_, exec_retransmitTimeout s, rfl⟩
  | ackDelayExpiry _ => exact ⟨_, exec_ackDelayExpiry s, rfl⟩
  | creditProbe _ => exact ⟨_, exec_creditProbe s, rfl⟩
  | rnrRetry _ _ => exact ⟨_, exec_rnrRetry s, rfl⟩
  | remoteConnect _ _ => exact ⟨_, exec_remoteConnect s, rfl⟩
  | remoteDisconnect _ _ => exact ⟨_, exec_remoteDisconnect s, rfl⟩
  | remoteSend _ _ => exact ⟨_, exec_remoteSend s, rfl⟩
  | remoteRecv _ _ => exact ⟨_, exec_remoteRecv s, rfl⟩
  | remoteWrite _ _ => exact ⟨_, exec_remoteWrite s, rfl⟩
  | remoteRead _ _ => exact ⟨_, exec_remoteRead s, rfl⟩
  | remoteFadd _ _ => exact ⟨_, exec_remoteFadd s, rfl⟩
  | remoteCas _ _ => exact ⟨_, exec_remoteCas s, rfl⟩
  | ctrset _ _ => exact ⟨_, exec_ctrset s, rfl⟩
  | ctrfree _ _ => exact ⟨_, exec_ctrfree s, rfl⟩
  | tready _ _ => exact ⟨_, exec_tready s, rfl⟩
  | connectionQuery _ _ => exact ⟨_, exec_connectionQuery s, rfl⟩
  | counterQuery _ _ => exact ⟨_, exec_counterQuery s, rfl⟩
  | macControlFrame _ _ => exact ⟨_, exec_macControlFrame s, rfl⟩
  | portLinkChange _ _ => exact ⟨_, exec_portLinkChange s, rfl⟩
  | portConfigWrite _ _ _ => exact ⟨_, exec_portConfigWrite s, rfl⟩
  | portFrameTransmit _ => exact ⟨_, exec_portFrameTransmit s, rfl⟩
  | nodeEntryExpiry _ => exact ⟨_, exec_nodeEntryExpiry s, rfl⟩
  | nodeTableFlush _ _ => exact ⟨_, exec_nodeTableFlush s, rfl⟩
  | staticEntryWrite _ _ => exact ⟨_, exec_staticEntryWrite s, rfl⟩
  | nodeQuery _ _ => exact ⟨_, exec_nodeQuery s, rfl⟩
  | shaperRateWrite _ _ _ _ => exact ⟨_, exec_shaperRateWrite s, rfl⟩
  | shaperBurstWrite _ _ _ _ => exact ⟨_, exec_shaperBurstWrite s, rfl⟩
  | nmtStart _ => exact ⟨_, exec_nmtStart s, rfl⟩
  | nmtStop _ => exact ⟨_, exec_nmtStop s, rfl⟩
  | nmtEnterPreoperational _ => exact ⟨_, exec_nmtEnterPreoperational s, rfl⟩
  | nmtResetNode _ => exact ⟨_, exec_nmtResetNode s, rfl⟩
  | nmtResetCommunication _ => exact ⟨_, exec_nmtResetCommunication s, rfl⟩
  | heartbeatProduce _ => exact ⟨_, exec_heartbeatProduce s, rfl⟩
  | producerHeartbeatWrite _ _ => exact ⟨_, exec_producerHeartbeatWrite s, rfl⟩
  | heartbeatReceive _ => exact ⟨_, exec_heartbeatReceive s, rfl⟩
  | heartbeatConsumerTimeout _ => exact ⟨_, exec_heartbeatConsumerTimeout s, rfl⟩
  | syncReceive _ => exact ⟨_, exec_syncReceive s, rfl⟩
  | emcyTransmit => exact ⟨_, exec_emcyTransmit s, rfl⟩
  | emcyCobidWrite _ _ => exact ⟨_, exec_emcyCobidWrite s, rfl⟩
  | canErrorDetected _ _ => exact ⟨_, exec_canErrorDetected s, rfl⟩
  | busOffRecovery => exact ⟨_, exec_busOffRecovery s, rfl⟩
  | busDominantTimeout => exact ⟨_, exec_busDominantTimeout s, rfl⟩
  | sdoInitiateDownload _ => exact ⟨_, exec_sdoInitiateDownload s, rfl⟩
  | sdoDownloadSegment _ => exact ⟨_, exec_sdoDownloadSegment s, rfl⟩
  | sdoInitiateUpload _ => exact ⟨_, exec_sdoInitiateUpload s, rfl⟩
  | sdoUploadSegment _ => exact ⟨_, exec_sdoUploadSegment s, rfl⟩
  | sdoBlockDownloadInitiate _ => exact ⟨_, exec_sdoBlockDownloadInitiate s, rfl⟩
  | sdoBlockDownloadSubblock _ => exact ⟨_, exec_sdoBlockDownloadSubblock s, rfl⟩
  | sdoBlockDownloadEnd _ => exact ⟨_, exec_sdoBlockDownloadEnd s, rfl⟩
  | sdoBlockUploadInitiate _ => exact ⟨_, exec_sdoBlockUploadInitiate s, rfl⟩
  | sdoBlockUploadStart _ => exact ⟨_, exec_sdoBlockUploadStart s, rfl⟩
  | sdoBlockUploadAck _ => exact ⟨_, exec_sdoBlockUploadAck s, rfl⟩
  | sdoBlockUploadEnd _ => exact ⟨_, exec_sdoBlockUploadEnd s, rfl⟩
  | sdoAbortReceive _ => exact ⟨_, exec_sdoAbortReceive s, rfl⟩
  | sdoTimeout => exact ⟨_, exec_sdoTimeout s, rfl⟩
  | rpdoReceive _ _ => exact ⟨_, exec_rpdoReceive s, rfl⟩
  | rpdoEventTimeout _ => exact ⟨_, exec_rpdoEventTimeout s, rfl⟩
  | tpdoChangeCheck _ => exact ⟨_, exec_tpdoChangeCheck s, rfl⟩
  | tpdoEventTimer _ => exact ⟨_, exec_tpdoEventTimer s, rfl⟩
  | tpdoInhibitEnd _ => exact ⟨_, exec_tpdoInhibitEnd s, rfl⟩
  | storeParameters _ _ _ => exact ⟨_, exec_storeParameters s, rfl⟩
  | storeDone _ => exact ⟨_, exec_storeDone s, rfl⟩
  | restoreDefaults _ _ _ => exact ⟨_, exec_restoreDefaults s, rfl⟩
  | errorHistoryClear _ _ => exact ⟨_, exec_errorHistoryClear s, rfl⟩
  | dictionaryWrite _ _ _ _ => exact ⟨_, exec_dictionaryWrite s, rfl⟩
  | mirrorRead _ _ _ => exact ⟨_, exec_mirrorRead s, rfl⟩
  | mirrorWrite _ _ => exact ⟨_, exec_mirrorWrite s, rfl⟩
  | mailboxRead _ _ => exact ⟨_, exec_mailboxRead s, rfl⟩
  | mailboxWrite _ _ => exact ⟨_, exec_mailboxWrite s, rfl⟩
  | mailboxAbort _ _ => exact ⟨_, exec_mailboxAbort s, rfl⟩
  | mailboxComplete _ => exact ⟨_, exec_mailboxComplete s, rfl⟩
  | mailboxDoneClear _ => exact ⟨_, exec_mailboxDoneClear s, rfl⟩
  | mailboxChunkTimeout _ => exact ⟨_, exec_mailboxChunkTimeout s, rfl⟩
  | mainInputStateChange _ _ => exact ⟨_, exec_mainInputStateChange s, rfl⟩
  | standbyInputFault _ => exact ⟨_, exec_standbyInputFault s, rfl⟩
  | domainRequestOn _ _ => exact ⟨_, exec_domainRequestOn s, rfl⟩
  | domainRequestOff _ _ => exact ⟨_, exec_domainRequestOff s, rfl⟩
  | domainRampStart _ => exact ⟨_, exec_domainRampStart s, rfl⟩
  | domainPowerGood _ => exact ⟨_, exec_domainPowerGood s, rfl⟩
  | domainPowerGoodTimeout _ => exact ⟨_, exec_domainPowerGoodTimeout s, rfl⟩
  | panelRailWarning _ _ _ => exact ⟨_, exec_panelRailWarning s, rfl⟩
  | panelRailRecovered _ _ _ => exact ⟨_, exec_panelRailRecovered s, rfl⟩
  | panelRailReset _ _ _ => exact ⟨_, exec_panelRailReset s, rfl⟩
  | panelResetRelease _ => exact ⟨_, exec_panelResetRelease s, rfl⟩
  | panelResetTimeout _ => exact ⟨_, exec_panelResetTimeout s, rfl⟩
  | railWarning _ => exact ⟨_, exec_railWarning s, rfl⟩
  | railReset _ => exact ⟨_, exec_railReset s, rfl⟩
  | brownoutClear _ _ => exact ⟨_, exec_brownoutClear s, rfl⟩
  | powerLimitAction _ => exact ⟨_, exec_powerLimitAction s, rfl⟩
  | powerLimitRelease _ => exact ⟨_, exec_powerLimitRelease s, rfl⟩
  | panelOvercurrent _ _ => exact ⟨_, exec_panelOvercurrent s, rfl⟩
  | overcurrentClear _ _ _ => exact ⟨_, exec_overcurrentClear s, rfl⟩
  | clockCheck _ => exact ⟨_, exec_clockCheck s, rfl⟩
  | pllUnlock _ => exact ⟨_, exec_pllUnlock s, rfl⟩
  | referenceLost => exact ⟨_, exec_referenceLost s, rfl⟩
  | coolantSensorFault _ _ => exact ⟨_, exec_coolantSensorFault s, rfl⟩
  | coolantSensorRecovered _ _ => exact ⟨_, exec_coolantSensorRecovered s, rfl⟩
  | outletWarning _ => exact ⟨_, exec_outletWarning s, rfl⟩
  | thermalLimit _ _ => exact ⟨_, exec_thermalLimit s, rfl⟩
  | thermalLimitEnd _ _ => exact ⟨_, exec_thermalLimitEnd s, rfl⟩
  | outletShutdown _ => exact ⟨_, exec_outletShutdown s, rfl⟩
  | dieTemperatureChange _ _ => exact ⟨_, exec_dieTemperatureChange s, rfl⟩
  | coldStart _ _ => exact ⟨_, exec_coldStart s, rfl⟩
  | moduleResetAssert => exact ⟨_, exec_moduleResetAssert s, rfl⟩
  | warmStart _ _ => exact ⟨_, exec_warmStart s, rfl⟩
  | fuseLoad _ => exact ⟨_, exec_fuseLoad s, rfl⟩
  | imageVerify _ _ => exact ⟨_, exec_imageVerify s, rfl⟩
  | collarFirmwareStart => exact ⟨_, exec_collarFirmwareStart s, rfl⟩
  | mainInputQualified => exact ⟨_, exec_mainInputQualified s, rfl⟩
  | yokeRamp => exact ⟨_, exec_yokeRamp s, rfl⟩
  | yokeLoad _ => exact ⟨_, exec_yokeLoad s, rfl⟩
  | yokeSelfTest _ => exact ⟨_, exec_yokeSelfTest s, rfl⟩
  | domainPowerUp => exact ⟨_, exec_domainPowerUp s, rfl⟩
  | dramTrainingDone _ _ => exact ⟨_, exec_dramTrainingDone s, rfl⟩
  | segmentScrubDone _ _ => exact ⟨_, exec_segmentScrubDone s, rfl⟩
  | panelSelfTestDone _ _ _ => exact ⟨_, exec_panelSelfTestDone s, rfl⟩
  | gridBuild _ => exact ⟨_, exec_gridBuild s, rfl⟩
  | startupStepTimeout _ _ => exact ⟨_, exec_startupStepTimeout s, rfl⟩
  | yokeStartRetry => exact ⟨_, exec_yokeStartRetry s, rfl⟩
  | tileFence _ => exact ⟨_, exec_tileFence s, rfl⟩
  | storeMoveEnd _ _ => exact ⟨_, exec_storeMoveEnd s, rfl⟩
  | panelLossRebuild => exact ⟨_, exec_panelLossRebuild s, rfl⟩
  | panelResetFence _ => exact ⟨_, exec_panelResetFence s, rfl⟩
  | panelReturn _ _ => exact ⟨_, exec_panelReturn s, rfl⟩
  | leaseExpiry _ _ => exact ⟨_, exec_leaseExpiry s, rfl⟩
  | ownerFence _ _ => exact ⟨_, exec_ownerFence s, rfl⟩
  | dmaDrainDone _ _ => exact ⟨_, exec_dmaDrainDone s, rfl⟩
  | drainTimeout _ _ => exact ⟨_, exec_drainTimeout s, rfl⟩
  | fenceJob _ _ => exact ⟨_, exec_fenceJob s, rfl⟩
  | yokeFailure _ => exact ⟨_, exec_yokeFailure s, rfl⟩
  | collarFailure _ => exact ⟨_, exec_collarFailure s, rfl⟩
  | collarAbsentTimeout => exact ⟨_, exec_collarAbsentTimeout s, rfl⟩
  | gridRestore _ _ _ => exact ⟨_, exec_gridRestore s, rfl⟩
  | replacementClear _ _ => exact ⟨_, exec_replacementClear s, rfl⟩
  | faultLogClear _ _ => exact ⟨_, exec_faultLogClear s, rfl⟩
  | detectorQuery _ _ => exact ⟨_, exec_detectorQuery s, rfl⟩
  | logQuery _ _ => exact ⟨_, exec_logQuery s, rfl⟩
  | injectionArm _ => exact ⟨_, exec_injectionArm s, rfl⟩
  | injectionDisarm _ => exact ⟨_, exec_injectionDisarm s, rfl⟩
  | injectionFire => exact ⟨_, exec_injectionFire s, rfl⟩
  | updateBegin _ => exact ⟨_, exec_updateBegin s, rfl⟩
  | slotEraseDone _ => exact ⟨_, exec_slotEraseDone s, rfl⟩
  | updateCancel _ => exact ⟨_, exec_updateCancel s, rfl⟩
  | updateRestart _ => exact ⟨_, exec_updateRestart s, rfl⟩
  | imageDataWrite _ _ => exact ⟨_, exec_imageDataWrite s, rfl⟩
  | imageUpdateVerify _ _ => exact ⟨_, exec_imageUpdateVerify s, rfl⟩
  | healthWindowExpiry => exact ⟨_, exec_healthWindowExpiry s, rfl⟩
  | commit _ _ => exact ⟨_, exec_commit s, rfl⟩
  | carrierReturn => exact ⟨_, exec_carrierReturn s, rfl⟩
  | referenceReturn => exact ⟨_, exec_referenceReturn s, rfl⟩
  | receivedFrameDiscard _ _ => exact ⟨_, exec_receivedFrameDiscard s, rfl⟩
  | ploadDone _ _ => exact ⟨_, exec_ploadDone s, rfl⟩

end Sys2Proof.Machine
end

