-- ==== Sys2Proof/Laws/State.lean ====
section
/-! SUPPORT. What every plain update of the state does to every field, so that no proof unfolds a record update. -/

-- One proof at a time, as in Keep.lean.
set_option Elab.async false

namespace Sys2Proof.Machine

@[simp] theorem State.putCell_now (s : State) (i j v : Nat) : (s.putCell i j v).now = s.now := rfl
@[simp] theorem State.putCell_wafer (s : State) (i j v : Nat) : (s.putCell i j v).wafer = s.wafer := rfl
@[simp] theorem State.putCell_beat (s : State) (i j v : Nat) : (s.putCell i j v).beat = s.beat := rfl
@[simp] theorem State.putCell_sessions (s : State) (i j v : Nat) : (s.putCell i j v).sessions = s.sessions := rfl
@[simp] theorem State.putCell_hostA (s : State) (i j v : Nat) : (s.putCell i j v).hostA = s.hostA := rfl
@[simp] theorem State.putCell_hostB (s : State) (i j v : Nat) : (s.putCell i j v).hostB = s.hostB := rfl
@[simp] theorem State.putCell_sq (s : State) (i j v : Nat) : (s.putCell i j v).sq = s.sq := rfl
@[simp] theorem State.putCell_cq (s : State) (i j v : Nat) : (s.putCell i j v).cq = s.cq := rfl
@[simp] theorem State.putCell_lastRing (s : State) (i j v : Nat) : (s.putCell i j v).lastRing = s.lastRing := rfl
@[simp] theorem State.putCell_msix (s : State) (i j v : Nat) : (s.putCell i j v).msix = s.msix := rfl
@[simp] theorem State.putCell_pba (s : State) (i j v : Nat) : (s.putCell i j v).pba = s.pba := rfl
@[simp] theorem State.putCell_lists (s : State) (i j v : Nat) : (s.putCell i j v).lists = s.lists := rfl
@[simp] theorem State.putCell_nextList (s : State) (i j v : Nat) : (s.putCell i j v).nextList = s.nextList := rfl
@[simp] theorem State.putCell_jobs (s : State) (i j v : Nat) : (s.putCell i j v).jobs = s.jobs := rfl
@[simp] theorem State.putCell_frames (s : State) (i j v : Nat) : (s.putCell i j v).frames = s.frames := rfl
@[simp] theorem State.putCell_nextFrame (s : State) (i j v : Nat) : (s.putCell i j v).nextFrame = s.nextFrame := rfl
@[simp] theorem State.putCell_skips (s : State) (i j v : Nat) : (s.putCell i j v).skips = s.skips := rfl
@[simp] theorem State.putCell_setSkips (s : State) (i j v : Nat) : (s.putCell i j v).setSkips = s.setSkips := rfl
@[simp] theorem State.putCell_tier1 (s : State) (i j v : Nat) : (s.putCell i j v).tier1 = s.tier1 := rfl
@[simp] theorem State.putCell_granules (s : State) (i j v : Nat) : (s.putCell i j v).granules = s.granules := rfl
@[simp] theorem State.putCell_tier1Bad (s : State) (i j v : Nat) : (s.putCell i j v).tier1Bad = s.tier1Bad := rfl
@[simp] theorem State.putCell_dram (s : State) (i j v : Nat) : (s.putCell i j v).dram = s.dram := rfl
@[simp] theorem State.putCell_can (s : State) (i j v : Nat) : (s.putCell i j v).can = s.can := rfl
@[simp] theorem State.putCell_boxA (s : State) (i j v : Nat) : (s.putCell i j v).boxA = s.boxA := rfl
@[simp] theorem State.putCell_boxB (s : State) (i j v : Nat) : (s.putCell i j v).boxB = s.boxB := rfl
@[simp] theorem State.putCell_det (s : State) (i j v : Nat) : (s.putCell i j v).det = s.det := rfl
@[simp] theorem State.putCell_log (s : State) (i j v : Nat) : (s.putCell i j v).log = s.log := rfl
@[simp] theorem State.putCell_logMade (s : State) (i j v : Nat) : (s.putCell i j v).logMade = s.logMade := rfl
@[simp] theorem State.putCell_faultBuffer (s : State) (i j v : Nat) : (s.putCell i j v).faultBuffer = s.faultBuffer := rfl
@[simp] theorem State.putCell_absentEmcy (s : State) (i j v : Nat) : (s.putCell i j v).absentEmcy = s.absentEmcy := rfl
@[simp] theorem State.putCell_replacement (s : State) (i j v : Nat) : (s.putCell i j v).replacement = s.replacement := rfl
@[simp] theorem State.putCell_suspects (s : State) (i j v : Nat) : (s.putCell i j v).suspects = s.suspects := rfl
@[simp] theorem State.putCell_leases (s : State) (i j v : Nat) : (s.putCell i j v).leases = s.leases := rfl
@[simp] theorem State.putCell_dma (s : State) (i j v : Nat) : (s.putCell i j v).dma = s.dma := rfl
@[simp] theorem State.putCell_moves (s : State) (i j v : Nat) : (s.putCell i j v).moves = s.moves := rfl
@[simp] theorem State.putCell_injection (s : State) (i j v : Nat) : (s.putCell i j v).injection = s.injection := rfl
@[simp] theorem State.putCell_tiles (s : State) (i j v : Nat) : (s.putCell i j v).tiles = s.tiles := rfl
@[simp] theorem State.putCell_mesh (s : State) (i j v : Nat) : (s.putCell i j v).mesh = s.mesh := rfl
@[simp] theorem State.putCell_attach (s : State) (i j v : Nat) : (s.putCell i j v).attach = s.attach := rfl
@[simp] theorem State.putCell_rewardN (s : State) (i j v : Nat) : (s.putCell i j v).rewardN = s.rewardN := rfl
@[simp] theorem State.putCell_rewardSent (s : State) (i j v : Nat) : (s.putCell i j v).rewardSent = s.rewardSent := rfl
@[simp] theorem State.putCell_plans (s : State) (i j v : Nat) : (s.putCell i j v).plans = s.plans := rfl
@[simp] theorem State.putCell_segs (s : State) (i j v : Nat) : (s.putCell i j v).segs = s.segs := rfl
@[simp] theorem State.putCell_segCtr (s : State) (i j v : Nat) : (s.putCell i j v).segCtr = s.segCtr := rfl
@[simp] theorem State.putCell_conns (s : State) (i j v : Nat) : (s.putCell i j v).conns = s.conns := rfl
@[simp] theorem State.putCell_wrs (s : State) (i j v : Nat) : (s.putCell i j v).wrs = s.wrs := rfl
@[simp] theorem State.putCell_nextWr (s : State) (i j v : Nat) : (s.putCell i j v).nextWr = s.nextWr := rfl
@[simp] theorem State.putCell_ctrs (s : State) (i j v : Nat) : (s.putCell i j v).ctrs = s.ctrs := rfl
@[simp] theorem State.putCell_ports (s : State) (i j v : Nat) : (s.putCell i j v).ports = s.ports := rfl
@[simp] theorem State.putCell_buckets (s : State) (i j v : Nat) : (s.putCell i j v).buckets = s.buckets := rfl
@[simp] theorem State.putCell_nodes (s : State) (i j v : Nat) : (s.putCell i j v).nodes = s.nodes := rfl
@[simp] theorem State.putCell_power (s : State) (i j v : Nat) : (s.putCell i j v).power = s.power := rfl
@[simp] theorem State.putCell_up (s : State) (i j v : Nat) : (s.putCell i j v).up = s.up := rfl
@[simp] theorem State.putCell_fuses (s : State) (i j v : Nat) : (s.putCell i j v).fuses = s.fuses := rfl
@[simp] theorem State.putCell_fw (s : State) (i j v : Nat) : (s.putCell i j v).fw = s.fw := rfl
@[simp] theorem State.putCell_out (s : State) (i j v : Nat) : (s.putCell i j v).out = s.out := rfl
@[simp] theorem State.putCell_fresh (s : State) (i j v : Nat) : (s.putCell i j v).fresh = s.fresh := rfl
@[simp] theorem State.putCell_pending (s : State) (i j v : Nat) : (s.putCell i j v).pending = s.pending := rfl

@[simp] theorem State.advanceTo_wafer (s : State) (n : Nat) : (s.advanceTo n).wafer = s.wafer := rfl
@[simp] theorem State.advanceTo_beat (s : State) (n : Nat) : (s.advanceTo n).beat = s.beat := rfl
@[simp] theorem State.advanceTo_sessions (s : State) (n : Nat) : (s.advanceTo n).sessions = s.sessions := rfl
@[simp] theorem State.advanceTo_hostA (s : State) (n : Nat) : (s.advanceTo n).hostA = s.hostA := rfl
@[simp] theorem State.advanceTo_hostB (s : State) (n : Nat) : (s.advanceTo n).hostB = s.hostB := rfl
@[simp] theorem State.advanceTo_sq (s : State) (n : Nat) : (s.advanceTo n).sq = s.sq := rfl
@[simp] theorem State.advanceTo_cq (s : State) (n : Nat) : (s.advanceTo n).cq = s.cq := rfl
@[simp] theorem State.advanceTo_lastRing (s : State) (n : Nat) : (s.advanceTo n).lastRing = s.lastRing := rfl
@[simp] theorem State.advanceTo_msix (s : State) (n : Nat) : (s.advanceTo n).msix = s.msix := rfl
@[simp] theorem State.advanceTo_pba (s : State) (n : Nat) : (s.advanceTo n).pba = s.pba := rfl
@[simp] theorem State.advanceTo_lists (s : State) (n : Nat) : (s.advanceTo n).lists = s.lists := rfl
@[simp] theorem State.advanceTo_nextList (s : State) (n : Nat) : (s.advanceTo n).nextList = s.nextList := rfl
@[simp] theorem State.advanceTo_jobs (s : State) (n : Nat) : (s.advanceTo n).jobs = s.jobs := rfl
@[simp] theorem State.advanceTo_frames (s : State) (n : Nat) : (s.advanceTo n).frames = s.frames := rfl
@[simp] theorem State.advanceTo_nextFrame (s : State) (n : Nat) : (s.advanceTo n).nextFrame = s.nextFrame := rfl
@[simp] theorem State.advanceTo_skips (s : State) (n : Nat) : (s.advanceTo n).skips = s.skips := rfl
@[simp] theorem State.advanceTo_setSkips (s : State) (n : Nat) : (s.advanceTo n).setSkips = s.setSkips := rfl
@[simp] theorem State.advanceTo_tier1 (s : State) (n : Nat) : (s.advanceTo n).tier1 = s.tier1 := rfl
@[simp] theorem State.advanceTo_granules (s : State) (n : Nat) : (s.advanceTo n).granules = s.granules := rfl
@[simp] theorem State.advanceTo_tier1Bad (s : State) (n : Nat) : (s.advanceTo n).tier1Bad = s.tier1Bad := rfl
@[simp] theorem State.advanceTo_dram (s : State) (n : Nat) : (s.advanceTo n).dram = s.dram := rfl
@[simp] theorem State.advanceTo_od (s : State) (n : Nat) : (s.advanceTo n).od = s.od := rfl
@[simp] theorem State.advanceTo_can (s : State) (n : Nat) : (s.advanceTo n).can = s.can := rfl
@[simp] theorem State.advanceTo_boxA (s : State) (n : Nat) : (s.advanceTo n).boxA = s.boxA := rfl
@[simp] theorem State.advanceTo_boxB (s : State) (n : Nat) : (s.advanceTo n).boxB = s.boxB := rfl
@[simp] theorem State.advanceTo_det (s : State) (n : Nat) : (s.advanceTo n).det = s.det := rfl
@[simp] theorem State.advanceTo_log (s : State) (n : Nat) : (s.advanceTo n).log = s.log := rfl
@[simp] theorem State.advanceTo_logMade (s : State) (n : Nat) : (s.advanceTo n).logMade = s.logMade := rfl
@[simp] theorem State.advanceTo_faultBuffer (s : State) (n : Nat) : (s.advanceTo n).faultBuffer = s.faultBuffer := rfl
@[simp] theorem State.advanceTo_absentEmcy (s : State) (n : Nat) : (s.advanceTo n).absentEmcy = s.absentEmcy := rfl
@[simp] theorem State.advanceTo_replacement (s : State) (n : Nat) : (s.advanceTo n).replacement = s.replacement := rfl
@[simp] theorem State.advanceTo_suspects (s : State) (n : Nat) : (s.advanceTo n).suspects = s.suspects := rfl
@[simp] theorem State.advanceTo_leases (s : State) (n : Nat) : (s.advanceTo n).leases = s.leases := rfl
@[simp] theorem State.advanceTo_dma (s : State) (n : Nat) : (s.advanceTo n).dma = s.dma := rfl
@[simp] theorem State.advanceTo_moves (s : State) (n : Nat) : (s.advanceTo n).moves = s.moves := rfl
@[simp] theorem State.advanceTo_injection (s : State) (n : Nat) : (s.advanceTo n).injection = s.injection := rfl
@[simp] theorem State.advanceTo_tiles (s : State) (n : Nat) : (s.advanceTo n).tiles = s.tiles := rfl
@[simp] theorem State.advanceTo_mesh (s : State) (n : Nat) : (s.advanceTo n).mesh = s.mesh := rfl
@[simp] theorem State.advanceTo_attach (s : State) (n : Nat) : (s.advanceTo n).attach = s.attach := rfl
@[simp] theorem State.advanceTo_rewardN (s : State) (n : Nat) : (s.advanceTo n).rewardN = s.rewardN := rfl
@[simp] theorem State.advanceTo_rewardSent (s : State) (n : Nat) : (s.advanceTo n).rewardSent = s.rewardSent := rfl
@[simp] theorem State.advanceTo_plans (s : State) (n : Nat) : (s.advanceTo n).plans = s.plans := rfl
@[simp] theorem State.advanceTo_segs (s : State) (n : Nat) : (s.advanceTo n).segs = s.segs := rfl
@[simp] theorem State.advanceTo_segCtr (s : State) (n : Nat) : (s.advanceTo n).segCtr = s.segCtr := rfl
@[simp] theorem State.advanceTo_conns (s : State) (n : Nat) : (s.advanceTo n).conns = s.conns := rfl
@[simp] theorem State.advanceTo_wrs (s : State) (n : Nat) : (s.advanceTo n).wrs = s.wrs := rfl
@[simp] theorem State.advanceTo_nextWr (s : State) (n : Nat) : (s.advanceTo n).nextWr = s.nextWr := rfl
@[simp] theorem State.advanceTo_ctrs (s : State) (n : Nat) : (s.advanceTo n).ctrs = s.ctrs := rfl
@[simp] theorem State.advanceTo_ports (s : State) (n : Nat) : (s.advanceTo n).ports = s.ports := rfl
@[simp] theorem State.advanceTo_buckets (s : State) (n : Nat) : (s.advanceTo n).buckets = s.buckets := rfl
@[simp] theorem State.advanceTo_nodes (s : State) (n : Nat) : (s.advanceTo n).nodes = s.nodes := rfl
@[simp] theorem State.advanceTo_power (s : State) (n : Nat) : (s.advanceTo n).power = s.power := rfl
@[simp] theorem State.advanceTo_up (s : State) (n : Nat) : (s.advanceTo n).up = s.up := rfl
@[simp] theorem State.advanceTo_fuses (s : State) (n : Nat) : (s.advanceTo n).fuses = s.fuses := rfl
@[simp] theorem State.advanceTo_fw (s : State) (n : Nat) : (s.advanceTo n).fw = s.fw := rfl
@[simp] theorem State.advanceTo_out (s : State) (n : Nat) : (s.advanceTo n).out = s.out := rfl
@[simp] theorem State.advanceTo_fresh (s : State) (n : Nat) : (s.advanceTo n).fresh = s.fresh := rfl
@[simp] theorem State.advanceTo_pending (s : State) (n : Nat) : (s.advanceTo n).pending = s.pending := rfl

@[simp] theorem State.draw_now (s : State) : (s.draw ).now = s.now := rfl
@[simp] theorem State.draw_wafer (s : State) : (s.draw ).wafer = s.wafer := rfl
@[simp] theorem State.draw_beat (s : State) : (s.draw ).beat = s.beat := rfl
@[simp] theorem State.draw_sessions (s : State) : (s.draw ).sessions = s.sessions := rfl
@[simp] theorem State.draw_hostA (s : State) : (s.draw ).hostA = s.hostA := rfl
@[simp] theorem State.draw_hostB (s : State) : (s.draw ).hostB = s.hostB := rfl
@[simp] theorem State.draw_sq (s : State) : (s.draw ).sq = s.sq := rfl
@[simp] theorem State.draw_cq (s : State) : (s.draw ).cq = s.cq := rfl
@[simp] theorem State.draw_lastRing (s : State) : (s.draw ).lastRing = s.lastRing := rfl
@[simp] theorem State.draw_msix (s : State) : (s.draw ).msix = s.msix := rfl
@[simp] theorem State.draw_pba (s : State) : (s.draw ).pba = s.pba := rfl
@[simp] theorem State.draw_lists (s : State) : (s.draw ).lists = s.lists := rfl
@[simp] theorem State.draw_nextList (s : State) : (s.draw ).nextList = s.nextList := rfl
@[simp] theorem State.draw_jobs (s : State) : (s.draw ).jobs = s.jobs := rfl
@[simp] theorem State.draw_frames (s : State) : (s.draw ).frames = s.frames := rfl
@[simp] theorem State.draw_nextFrame (s : State) : (s.draw ).nextFrame = s.nextFrame := rfl
@[simp] theorem State.draw_skips (s : State) : (s.draw ).skips = s.skips := rfl
@[simp] theorem State.draw_setSkips (s : State) : (s.draw ).setSkips = s.setSkips := rfl
@[simp] theorem State.draw_tier1 (s : State) : (s.draw ).tier1 = s.tier1 := rfl
@[simp] theorem State.draw_granules (s : State) : (s.draw ).granules = s.granules := rfl
@[simp] theorem State.draw_tier1Bad (s : State) : (s.draw ).tier1Bad = s.tier1Bad := rfl
@[simp] theorem State.draw_dram (s : State) : (s.draw ).dram = s.dram := rfl
@[simp] theorem State.draw_od (s : State) : (s.draw ).od = s.od := rfl
@[simp] theorem State.draw_can (s : State) : (s.draw ).can = s.can := rfl
@[simp] theorem State.draw_boxA (s : State) : (s.draw ).boxA = s.boxA := rfl
@[simp] theorem State.draw_boxB (s : State) : (s.draw ).boxB = s.boxB := rfl
@[simp] theorem State.draw_det (s : State) : (s.draw ).det = s.det := rfl
@[simp] theorem State.draw_log (s : State) : (s.draw ).log = s.log := rfl
@[simp] theorem State.draw_logMade (s : State) : (s.draw ).logMade = s.logMade := rfl
@[simp] theorem State.draw_faultBuffer (s : State) : (s.draw ).faultBuffer = s.faultBuffer := rfl
@[simp] theorem State.draw_absentEmcy (s : State) : (s.draw ).absentEmcy = s.absentEmcy := rfl
@[simp] theorem State.draw_replacement (s : State) : (s.draw ).replacement = s.replacement := rfl
@[simp] theorem State.draw_suspects (s : State) : (s.draw ).suspects = s.suspects := rfl
@[simp] theorem State.draw_leases (s : State) : (s.draw ).leases = s.leases := rfl
@[simp] theorem State.draw_dma (s : State) : (s.draw ).dma = s.dma := rfl
@[simp] theorem State.draw_moves (s : State) : (s.draw ).moves = s.moves := rfl
@[simp] theorem State.draw_injection (s : State) : (s.draw ).injection = s.injection := rfl
@[simp] theorem State.draw_tiles (s : State) : (s.draw ).tiles = s.tiles := rfl
@[simp] theorem State.draw_mesh (s : State) : (s.draw ).mesh = s.mesh := rfl
@[simp] theorem State.draw_attach (s : State) : (s.draw ).attach = s.attach := rfl
@[simp] theorem State.draw_rewardN (s : State) : (s.draw ).rewardN = s.rewardN := rfl
@[simp] theorem State.draw_rewardSent (s : State) : (s.draw ).rewardSent = s.rewardSent := rfl
@[simp] theorem State.draw_plans (s : State) : (s.draw ).plans = s.plans := rfl
@[simp] theorem State.draw_segs (s : State) : (s.draw ).segs = s.segs := rfl
@[simp] theorem State.draw_segCtr (s : State) : (s.draw ).segCtr = s.segCtr := rfl
@[simp] theorem State.draw_conns (s : State) : (s.draw ).conns = s.conns := rfl
@[simp] theorem State.draw_wrs (s : State) : (s.draw ).wrs = s.wrs := rfl
@[simp] theorem State.draw_nextWr (s : State) : (s.draw ).nextWr = s.nextWr := rfl
@[simp] theorem State.draw_ctrs (s : State) : (s.draw ).ctrs = s.ctrs := rfl
@[simp] theorem State.draw_ports (s : State) : (s.draw ).ports = s.ports := rfl
@[simp] theorem State.draw_buckets (s : State) : (s.draw ).buckets = s.buckets := rfl
@[simp] theorem State.draw_nodes (s : State) : (s.draw ).nodes = s.nodes := rfl
@[simp] theorem State.draw_power (s : State) : (s.draw ).power = s.power := rfl
@[simp] theorem State.draw_up (s : State) : (s.draw ).up = s.up := rfl
@[simp] theorem State.draw_fuses (s : State) : (s.draw ).fuses = s.fuses := rfl
@[simp] theorem State.draw_fw (s : State) : (s.draw ).fw = s.fw := rfl
@[simp] theorem State.draw_out (s : State) : (s.draw ).out = s.out := rfl
@[simp] theorem State.draw_pending (s : State) : (s.draw ).pending = s.pending := rfl

@[simp] theorem State.send_now (s : State) (o : Output) : (s.send o).now = s.now := rfl
@[simp] theorem State.send_wafer (s : State) (o : Output) : (s.send o).wafer = s.wafer := rfl
@[simp] theorem State.send_beat (s : State) (o : Output) : (s.send o).beat = s.beat := rfl
@[simp] theorem State.send_sessions (s : State) (o : Output) : (s.send o).sessions = s.sessions := rfl
@[simp] theorem State.send_hostA (s : State) (o : Output) : (s.send o).hostA = s.hostA := rfl
@[simp] theorem State.send_hostB (s : State) (o : Output) : (s.send o).hostB = s.hostB := rfl
@[simp] theorem State.send_sq (s : State) (o : Output) : (s.send o).sq = s.sq := rfl
@[simp] theorem State.send_cq (s : State) (o : Output) : (s.send o).cq = s.cq := rfl
@[simp] theorem State.send_lastRing (s : State) (o : Output) : (s.send o).lastRing = s.lastRing := rfl
@[simp] theorem State.send_msix (s : State) (o : Output) : (s.send o).msix = s.msix := rfl
@[simp] theorem State.send_pba (s : State) (o : Output) : (s.send o).pba = s.pba := rfl
@[simp] theorem State.send_lists (s : State) (o : Output) : (s.send o).lists = s.lists := rfl
@[simp] theorem State.send_nextList (s : State) (o : Output) : (s.send o).nextList = s.nextList := rfl
@[simp] theorem State.send_jobs (s : State) (o : Output) : (s.send o).jobs = s.jobs := rfl
@[simp] theorem State.send_frames (s : State) (o : Output) : (s.send o).frames = s.frames := rfl
@[simp] theorem State.send_nextFrame (s : State) (o : Output) : (s.send o).nextFrame = s.nextFrame := rfl
@[simp] theorem State.send_skips (s : State) (o : Output) : (s.send o).skips = s.skips := rfl
@[simp] theorem State.send_setSkips (s : State) (o : Output) : (s.send o).setSkips = s.setSkips := rfl
@[simp] theorem State.send_tier1 (s : State) (o : Output) : (s.send o).tier1 = s.tier1 := rfl
@[simp] theorem State.send_granules (s : State) (o : Output) : (s.send o).granules = s.granules := rfl
@[simp] theorem State.send_tier1Bad (s : State) (o : Output) : (s.send o).tier1Bad = s.tier1Bad := rfl
@[simp] theorem State.send_dram (s : State) (o : Output) : (s.send o).dram = s.dram := rfl
@[simp] theorem State.send_od (s : State) (o : Output) : (s.send o).od = s.od := rfl
@[simp] theorem State.send_can (s : State) (o : Output) : (s.send o).can = s.can := rfl
@[simp] theorem State.send_boxA (s : State) (o : Output) : (s.send o).boxA = s.boxA := rfl
@[simp] theorem State.send_boxB (s : State) (o : Output) : (s.send o).boxB = s.boxB := rfl
@[simp] theorem State.send_det (s : State) (o : Output) : (s.send o).det = s.det := rfl
@[simp] theorem State.send_log (s : State) (o : Output) : (s.send o).log = s.log := rfl
@[simp] theorem State.send_logMade (s : State) (o : Output) : (s.send o).logMade = s.logMade := rfl
@[simp] theorem State.send_faultBuffer (s : State) (o : Output) : (s.send o).faultBuffer = s.faultBuffer := rfl
@[simp] theorem State.send_absentEmcy (s : State) (o : Output) : (s.send o).absentEmcy = s.absentEmcy := rfl
@[simp] theorem State.send_replacement (s : State) (o : Output) : (s.send o).replacement = s.replacement := rfl
@[simp] theorem State.send_suspects (s : State) (o : Output) : (s.send o).suspects = s.suspects := rfl
@[simp] theorem State.send_leases (s : State) (o : Output) : (s.send o).leases = s.leases := rfl
@[simp] theorem State.send_dma (s : State) (o : Output) : (s.send o).dma = s.dma := rfl
@[simp] theorem State.send_moves (s : State) (o : Output) : (s.send o).moves = s.moves := rfl
@[simp] theorem State.send_injection (s : State) (o : Output) : (s.send o).injection = s.injection := rfl
@[simp] theorem State.send_tiles (s : State) (o : Output) : (s.send o).tiles = s.tiles := rfl
@[simp] theorem State.send_mesh (s : State) (o : Output) : (s.send o).mesh = s.mesh := rfl
@[simp] theorem State.send_attach (s : State) (o : Output) : (s.send o).attach = s.attach := rfl
@[simp] theorem State.send_rewardN (s : State) (o : Output) : (s.send o).rewardN = s.rewardN := rfl
@[simp] theorem State.send_rewardSent (s : State) (o : Output) : (s.send o).rewardSent = s.rewardSent := rfl
@[simp] theorem State.send_plans (s : State) (o : Output) : (s.send o).plans = s.plans := rfl
@[simp] theorem State.send_segs (s : State) (o : Output) : (s.send o).segs = s.segs := rfl
@[simp] theorem State.send_segCtr (s : State) (o : Output) : (s.send o).segCtr = s.segCtr := rfl
@[simp] theorem State.send_conns (s : State) (o : Output) : (s.send o).conns = s.conns := rfl
@[simp] theorem State.send_wrs (s : State) (o : Output) : (s.send o).wrs = s.wrs := rfl
@[simp] theorem State.send_nextWr (s : State) (o : Output) : (s.send o).nextWr = s.nextWr := rfl
@[simp] theorem State.send_ctrs (s : State) (o : Output) : (s.send o).ctrs = s.ctrs := rfl
@[simp] theorem State.send_ports (s : State) (o : Output) : (s.send o).ports = s.ports := rfl
@[simp] theorem State.send_buckets (s : State) (o : Output) : (s.send o).buckets = s.buckets := rfl
@[simp] theorem State.send_nodes (s : State) (o : Output) : (s.send o).nodes = s.nodes := rfl
@[simp] theorem State.send_power (s : State) (o : Output) : (s.send o).power = s.power := rfl
@[simp] theorem State.send_up (s : State) (o : Output) : (s.send o).up = s.up := rfl
@[simp] theorem State.send_fuses (s : State) (o : Output) : (s.send o).fuses = s.fuses := rfl
@[simp] theorem State.send_fw (s : State) (o : Output) : (s.send o).fw = s.fw := rfl
@[simp] theorem State.send_fresh (s : State) (o : Output) : (s.send o).fresh = s.fresh := rfl
@[simp] theorem State.send_pending (s : State) (o : Output) : (s.send o).pending = s.pending := rfl

@[simp] theorem State.setTile_now (s : State) (k : Nat) (x : Tile) : (s.setTile k x).now = s.now := rfl
@[simp] theorem State.setTile_wafer (s : State) (k : Nat) (x : Tile) : (s.setTile k x).wafer = s.wafer := rfl
@[simp] theorem State.setTile_beat (s : State) (k : Nat) (x : Tile) : (s.setTile k x).beat = s.beat := rfl
@[simp] theorem State.setTile_sessions (s : State) (k : Nat) (x : Tile) : (s.setTile k x).sessions = s.sessions := rfl
@[simp] theorem State.setTile_hostA (s : State) (k : Nat) (x : Tile) : (s.setTile k x).hostA = s.hostA := rfl
@[simp] theorem State.setTile_hostB (s : State) (k : Nat) (x : Tile) : (s.setTile k x).hostB = s.hostB := rfl
@[simp] theorem State.setTile_sq (s : State) (k : Nat) (x : Tile) : (s.setTile k x).sq = s.sq := rfl
@[simp] theorem State.setTile_cq (s : State) (k : Nat) (x : Tile) : (s.setTile k x).cq = s.cq := rfl
@[simp] theorem State.setTile_lastRing (s : State) (k : Nat) (x : Tile) : (s.setTile k x).lastRing = s.lastRing := rfl
@[simp] theorem State.setTile_msix (s : State) (k : Nat) (x : Tile) : (s.setTile k x).msix = s.msix := rfl
@[simp] theorem State.setTile_pba (s : State) (k : Nat) (x : Tile) : (s.setTile k x).pba = s.pba := rfl
@[simp] theorem State.setTile_lists (s : State) (k : Nat) (x : Tile) : (s.setTile k x).lists = s.lists := rfl
@[simp] theorem State.setTile_nextList (s : State) (k : Nat) (x : Tile) : (s.setTile k x).nextList = s.nextList := rfl
@[simp] theorem State.setTile_jobs (s : State) (k : Nat) (x : Tile) : (s.setTile k x).jobs = s.jobs := rfl
@[simp] theorem State.setTile_frames (s : State) (k : Nat) (x : Tile) : (s.setTile k x).frames = s.frames := rfl
@[simp] theorem State.setTile_nextFrame (s : State) (k : Nat) (x : Tile) : (s.setTile k x).nextFrame = s.nextFrame := rfl
@[simp] theorem State.setTile_skips (s : State) (k : Nat) (x : Tile) : (s.setTile k x).skips = s.skips := rfl
@[simp] theorem State.setTile_setSkips (s : State) (k : Nat) (x : Tile) : (s.setTile k x).setSkips = s.setSkips := rfl
@[simp] theorem State.setTile_tier1 (s : State) (k : Nat) (x : Tile) : (s.setTile k x).tier1 = s.tier1 := rfl
@[simp] theorem State.setTile_granules (s : State) (k : Nat) (x : Tile) : (s.setTile k x).granules = s.granules := rfl
@[simp] theorem State.setTile_tier1Bad (s : State) (k : Nat) (x : Tile) : (s.setTile k x).tier1Bad = s.tier1Bad := rfl
@[simp] theorem State.setTile_dram (s : State) (k : Nat) (x : Tile) : (s.setTile k x).dram = s.dram := rfl
@[simp] theorem State.setTile_od (s : State) (k : Nat) (x : Tile) : (s.setTile k x).od = s.od := rfl
@[simp] theorem State.setTile_can (s : State) (k : Nat) (x : Tile) : (s.setTile k x).can = s.can := rfl
@[simp] theorem State.setTile_boxA (s : State) (k : Nat) (x : Tile) : (s.setTile k x).boxA = s.boxA := rfl
@[simp] theorem State.setTile_boxB (s : State) (k : Nat) (x : Tile) : (s.setTile k x).boxB = s.boxB := rfl
@[simp] theorem State.setTile_det (s : State) (k : Nat) (x : Tile) : (s.setTile k x).det = s.det := rfl
@[simp] theorem State.setTile_log (s : State) (k : Nat) (x : Tile) : (s.setTile k x).log = s.log := rfl
@[simp] theorem State.setTile_logMade (s : State) (k : Nat) (x : Tile) : (s.setTile k x).logMade = s.logMade := rfl
@[simp] theorem State.setTile_faultBuffer (s : State) (k : Nat) (x : Tile) : (s.setTile k x).faultBuffer = s.faultBuffer := rfl
@[simp] theorem State.setTile_absentEmcy (s : State) (k : Nat) (x : Tile) : (s.setTile k x).absentEmcy = s.absentEmcy := rfl
@[simp] theorem State.setTile_replacement (s : State) (k : Nat) (x : Tile) : (s.setTile k x).replacement = s.replacement := rfl
@[simp] theorem State.setTile_suspects (s : State) (k : Nat) (x : Tile) : (s.setTile k x).suspects = s.suspects := rfl
@[simp] theorem State.setTile_leases (s : State) (k : Nat) (x : Tile) : (s.setTile k x).leases = s.leases := rfl
@[simp] theorem State.setTile_dma (s : State) (k : Nat) (x : Tile) : (s.setTile k x).dma = s.dma := rfl
@[simp] theorem State.setTile_moves (s : State) (k : Nat) (x : Tile) : (s.setTile k x).moves = s.moves := rfl
@[simp] theorem State.setTile_injection (s : State) (k : Nat) (x : Tile) : (s.setTile k x).injection = s.injection := rfl
@[simp] theorem State.setTile_mesh (s : State) (k : Nat) (x : Tile) : (s.setTile k x).mesh = s.mesh := rfl
@[simp] theorem State.setTile_attach (s : State) (k : Nat) (x : Tile) : (s.setTile k x).attach = s.attach := rfl
@[simp] theorem State.setTile_rewardN (s : State) (k : Nat) (x : Tile) : (s.setTile k x).rewardN = s.rewardN := rfl
@[simp] theorem State.setTile_rewardSent (s : State) (k : Nat) (x : Tile) : (s.setTile k x).rewardSent = s.rewardSent := rfl
@[simp] theorem State.setTile_plans (s : State) (k : Nat) (x : Tile) : (s.setTile k x).plans = s.plans := rfl
@[simp] theorem State.setTile_segs (s : State) (k : Nat) (x : Tile) : (s.setTile k x).segs = s.segs := rfl
@[simp] theorem State.setTile_segCtr (s : State) (k : Nat) (x : Tile) : (s.setTile k x).segCtr = s.segCtr := rfl
@[simp] theorem State.setTile_conns (s : State) (k : Nat) (x : Tile) : (s.setTile k x).conns = s.conns := rfl
@[simp] theorem State.setTile_wrs (s : State) (k : Nat) (x : Tile) : (s.setTile k x).wrs = s.wrs := rfl
@[simp] theorem State.setTile_nextWr (s : State) (k : Nat) (x : Tile) : (s.setTile k x).nextWr = s.nextWr := rfl
@[simp] theorem State.setTile_ctrs (s : State) (k : Nat) (x : Tile) : (s.setTile k x).ctrs = s.ctrs := rfl
@[simp] theorem State.setTile_ports (s : State) (k : Nat) (x : Tile) : (s.setTile k x).ports = s.ports := rfl
@[simp] theorem State.setTile_buckets (s : State) (k : Nat) (x : Tile) : (s.setTile k x).buckets = s.buckets := rfl
@[simp] theorem State.setTile_nodes (s : State) (k : Nat) (x : Tile) : (s.setTile k x).nodes = s.nodes := rfl
@[simp] theorem State.setTile_power (s : State) (k : Nat) (x : Tile) : (s.setTile k x).power = s.power := rfl
@[simp] theorem State.setTile_up (s : State) (k : Nat) (x : Tile) : (s.setTile k x).up = s.up := rfl
@[simp] theorem State.setTile_fuses (s : State) (k : Nat) (x : Tile) : (s.setTile k x).fuses = s.fuses := rfl
@[simp] theorem State.setTile_fw (s : State) (k : Nat) (x : Tile) : (s.setTile k x).fw = s.fw := rfl
@[simp] theorem State.setTile_out (s : State) (k : Nat) (x : Tile) : (s.setTile k x).out = s.out := rfl
@[simp] theorem State.setTile_fresh (s : State) (k : Nat) (x : Tile) : (s.setTile k x).fresh = s.fresh := rfl
@[simp] theorem State.setTile_pending (s : State) (k : Nat) (x : Tile) : (s.setTile k x).pending = s.pending := rfl

@[simp] theorem State.setSeg_now (s : State) (k : Nat) (x : Seg) : (s.setSeg k x).now = s.now := rfl
@[simp] theorem State.setSeg_wafer (s : State) (k : Nat) (x : Seg) : (s.setSeg k x).wafer = s.wafer := rfl
@[simp] theorem State.setSeg_beat (s : State) (k : Nat) (x : Seg) : (s.setSeg k x).beat = s.beat := rfl
@[simp] theorem State.setSeg_sessions (s : State) (k : Nat) (x : Seg) : (s.setSeg k x).sessions = s.sessions := rfl
@[simp] theorem State.setSeg_hostA (s : State) (k : Nat) (x : Seg) : (s.setSeg k x).hostA = s.hostA := rfl
@[simp] theorem State.setSeg_hostB (s : State) (k : Nat) (x : Seg) : (s.setSeg k x).hostB = s.hostB := rfl
@[simp] theorem State.setSeg_sq (s : State) (k : Nat) (x : Seg) : (s.setSeg k x).sq = s.sq := rfl
@[simp] theorem State.setSeg_cq (s : State) (k : Nat) (x : Seg) : (s.setSeg k x).cq = s.cq := rfl
@[simp] theorem State.setSeg_lastRing (s : State) (k : Nat) (x : Seg) : (s.setSeg k x).lastRing = s.lastRing := rfl
@[simp] theorem State.setSeg_msix (s : State) (k : Nat) (x : Seg) : (s.setSeg k x).msix = s.msix := rfl
@[simp] theorem State.setSeg_pba (s : State) (k : Nat) (x : Seg) : (s.setSeg k x).pba = s.pba := rfl
@[simp] theorem State.setSeg_lists (s : State) (k : Nat) (x : Seg) : (s.setSeg k x).lists = s.lists := rfl
@[simp] theorem State.setSeg_nextList (s : State) (k : Nat) (x : Seg) : (s.setSeg k x).nextList = s.nextList := rfl
@[simp] theorem State.setSeg_jobs (s : State) (k : Nat) (x : Seg) : (s.setSeg k x).jobs = s.jobs := rfl
@[simp] theorem State.setSeg_frames (s : State) (k : Nat) (x : Seg) : (s.setSeg k x).frames = s.frames := rfl
@[simp] theorem State.setSeg_nextFrame (s : State) (k : Nat) (x : Seg) : (s.setSeg k x).nextFrame = s.nextFrame := rfl
@[simp] theorem State.setSeg_skips (s : State) (k : Nat) (x : Seg) : (s.setSeg k x).skips = s.skips := rfl
@[simp] theorem State.setSeg_setSkips (s : State) (k : Nat) (x : Seg) : (s.setSeg k x).setSkips = s.setSkips := rfl
@[simp] theorem State.setSeg_tier1 (s : State) (k : Nat) (x : Seg) : (s.setSeg k x).tier1 = s.tier1 := rfl
@[simp] theorem State.setSeg_granules (s : State) (k : Nat) (x : Seg) : (s.setSeg k x).granules = s.granules := rfl
@[simp] theorem State.setSeg_tier1Bad (s : State) (k : Nat) (x : Seg) : (s.setSeg k x).tier1Bad = s.tier1Bad := rfl
@[simp] theorem State.setSeg_dram (s : State) (k : Nat) (x : Seg) : (s.setSeg k x).dram = s.dram := rfl
@[simp] theorem State.setSeg_od (s : State) (k : Nat) (x : Seg) : (s.setSeg k x).od = s.od := rfl
@[simp] theorem State.setSeg_can (s : State) (k : Nat) (x : Seg) : (s.setSeg k x).can = s.can := rfl
@[simp] theorem State.setSeg_boxA (s : State) (k : Nat) (x : Seg) : (s.setSeg k x).boxA = s.boxA := rfl
@[simp] theorem State.setSeg_boxB (s : State) (k : Nat) (x : Seg) : (s.setSeg k x).boxB = s.boxB := rfl
@[simp] theorem State.setSeg_det (s : State) (k : Nat) (x : Seg) : (s.setSeg k x).det = s.det := rfl
@[simp] theorem State.setSeg_log (s : State) (k : Nat) (x : Seg) : (s.setSeg k x).log = s.log := rfl
@[simp] theorem State.setSeg_logMade (s : State) (k : Nat) (x : Seg) : (s.setSeg k x).logMade = s.logMade := rfl
@[simp] theorem State.setSeg_faultBuffer (s : State) (k : Nat) (x : Seg) : (s.setSeg k x).faultBuffer = s.faultBuffer := rfl
@[simp] theorem State.setSeg_absentEmcy (s : State) (k : Nat) (x : Seg) : (s.setSeg k x).absentEmcy = s.absentEmcy := rfl
@[simp] theorem State.setSeg_replacement (s : State) (k : Nat) (x : Seg) : (s.setSeg k x).replacement = s.replacement := rfl
@[simp] theorem State.setSeg_suspects (s : State) (k : Nat) (x : Seg) : (s.setSeg k x).suspects = s.suspects := rfl
@[simp] theorem State.setSeg_leases (s : State) (k : Nat) (x : Seg) : (s.setSeg k x).leases = s.leases := rfl
@[simp] theorem State.setSeg_dma (s : State) (k : Nat) (x : Seg) : (s.setSeg k x).dma = s.dma := rfl
@[simp] theorem State.setSeg_moves (s : State) (k : Nat) (x : Seg) : (s.setSeg k x).moves = s.moves := rfl
@[simp] theorem State.setSeg_injection (s : State) (k : Nat) (x : Seg) : (s.setSeg k x).injection = s.injection := rfl
@[simp] theorem State.setSeg_tiles (s : State) (k : Nat) (x : Seg) : (s.setSeg k x).tiles = s.tiles := rfl
@[simp] theorem State.setSeg_mesh (s : State) (k : Nat) (x : Seg) : (s.setSeg k x).mesh = s.mesh := rfl
@[simp] theorem State.setSeg_attach (s : State) (k : Nat) (x : Seg) : (s.setSeg k x).attach = s.attach := rfl
@[simp] theorem State.setSeg_rewardN (s : State) (k : Nat) (x : Seg) : (s.setSeg k x).rewardN = s.rewardN := rfl
@[simp] theorem State.setSeg_rewardSent (s : State) (k : Nat) (x : Seg) : (s.setSeg k x).rewardSent = s.rewardSent := rfl
@[simp] theorem State.setSeg_plans (s : State) (k : Nat) (x : Seg) : (s.setSeg k x).plans = s.plans := rfl
@[simp] theorem State.setSeg_segCtr (s : State) (k : Nat) (x : Seg) : (s.setSeg k x).segCtr = s.segCtr := rfl
@[simp] theorem State.setSeg_conns (s : State) (k : Nat) (x : Seg) : (s.setSeg k x).conns = s.conns := rfl
@[simp] theorem State.setSeg_wrs (s : State) (k : Nat) (x : Seg) : (s.setSeg k x).wrs = s.wrs := rfl
@[simp] theorem State.setSeg_nextWr (s : State) (k : Nat) (x : Seg) : (s.setSeg k x).nextWr = s.nextWr := rfl
@[simp] theorem State.setSeg_ctrs (s : State) (k : Nat) (x : Seg) : (s.setSeg k x).ctrs = s.ctrs := rfl
@[simp] theorem State.setSeg_ports (s : State) (k : Nat) (x : Seg) : (s.setSeg k x).ports = s.ports := rfl
@[simp] theorem State.setSeg_buckets (s : State) (k : Nat) (x : Seg) : (s.setSeg k x).buckets = s.buckets := rfl
@[simp] theorem State.setSeg_nodes (s : State) (k : Nat) (x : Seg) : (s.setSeg k x).nodes = s.nodes := rfl
@[simp] theorem State.setSeg_power (s : State) (k : Nat) (x : Seg) : (s.setSeg k x).power = s.power := rfl
@[simp] theorem State.setSeg_up (s : State) (k : Nat) (x : Seg) : (s.setSeg k x).up = s.up := rfl
@[simp] theorem State.setSeg_fuses (s : State) (k : Nat) (x : Seg) : (s.setSeg k x).fuses = s.fuses := rfl
@[simp] theorem State.setSeg_fw (s : State) (k : Nat) (x : Seg) : (s.setSeg k x).fw = s.fw := rfl
@[simp] theorem State.setSeg_out (s : State) (k : Nat) (x : Seg) : (s.setSeg k x).out = s.out := rfl
@[simp] theorem State.setSeg_fresh (s : State) (k : Nat) (x : Seg) : (s.setSeg k x).fresh = s.fresh := rfl
@[simp] theorem State.setSeg_pending (s : State) (k : Nat) (x : Seg) : (s.setSeg k x).pending = s.pending := rfl

@[simp] theorem State.setPort_now (s : State) (k : Nat) (x : Port) : (s.setPort k x).now = s.now := rfl
@[simp] theorem State.setPort_wafer (s : State) (k : Nat) (x : Port) : (s.setPort k x).wafer = s.wafer := rfl
@[simp] theorem State.setPort_beat (s : State) (k : Nat) (x : Port) : (s.setPort k x).beat = s.beat := rfl
@[simp] theorem State.setPort_sessions (s : State) (k : Nat) (x : Port) : (s.setPort k x).sessions = s.sessions := rfl
@[simp] theorem State.setPort_hostA (s : State) (k : Nat) (x : Port) : (s.setPort k x).hostA = s.hostA := rfl
@[simp] theorem State.setPort_hostB (s : State) (k : Nat) (x : Port) : (s.setPort k x).hostB = s.hostB := rfl
@[simp] theorem State.setPort_sq (s : State) (k : Nat) (x : Port) : (s.setPort k x).sq = s.sq := rfl
@[simp] theorem State.setPort_cq (s : State) (k : Nat) (x : Port) : (s.setPort k x).cq = s.cq := rfl
@[simp] theorem State.setPort_lastRing (s : State) (k : Nat) (x : Port) : (s.setPort k x).lastRing = s.lastRing := rfl
@[simp] theorem State.setPort_msix (s : State) (k : Nat) (x : Port) : (s.setPort k x).msix = s.msix := rfl
@[simp] theorem State.setPort_pba (s : State) (k : Nat) (x : Port) : (s.setPort k x).pba = s.pba := rfl
@[simp] theorem State.setPort_lists (s : State) (k : Nat) (x : Port) : (s.setPort k x).lists = s.lists := rfl
@[simp] theorem State.setPort_nextList (s : State) (k : Nat) (x : Port) : (s.setPort k x).nextList = s.nextList := rfl
@[simp] theorem State.setPort_jobs (s : State) (k : Nat) (x : Port) : (s.setPort k x).jobs = s.jobs := rfl
@[simp] theorem State.setPort_frames (s : State) (k : Nat) (x : Port) : (s.setPort k x).frames = s.frames := rfl
@[simp] theorem State.setPort_nextFrame (s : State) (k : Nat) (x : Port) : (s.setPort k x).nextFrame = s.nextFrame := rfl
@[simp] theorem State.setPort_skips (s : State) (k : Nat) (x : Port) : (s.setPort k x).skips = s.skips := rfl
@[simp] theorem State.setPort_setSkips (s : State) (k : Nat) (x : Port) : (s.setPort k x).setSkips = s.setSkips := rfl
@[simp] theorem State.setPort_tier1 (s : State) (k : Nat) (x : Port) : (s.setPort k x).tier1 = s.tier1 := rfl
@[simp] theorem State.setPort_granules (s : State) (k : Nat) (x : Port) : (s.setPort k x).granules = s.granules := rfl
@[simp] theorem State.setPort_tier1Bad (s : State) (k : Nat) (x : Port) : (s.setPort k x).tier1Bad = s.tier1Bad := rfl
@[simp] theorem State.setPort_dram (s : State) (k : Nat) (x : Port) : (s.setPort k x).dram = s.dram := rfl
@[simp] theorem State.setPort_od (s : State) (k : Nat) (x : Port) : (s.setPort k x).od = s.od := rfl
@[simp] theorem State.setPort_can (s : State) (k : Nat) (x : Port) : (s.setPort k x).can = s.can := rfl
@[simp] theorem State.setPort_boxA (s : State) (k : Nat) (x : Port) : (s.setPort k x).boxA = s.boxA := rfl
@[simp] theorem State.setPort_boxB (s : State) (k : Nat) (x : Port) : (s.setPort k x).boxB = s.boxB := rfl
@[simp] theorem State.setPort_det (s : State) (k : Nat) (x : Port) : (s.setPort k x).det = s.det := rfl
@[simp] theorem State.setPort_log (s : State) (k : Nat) (x : Port) : (s.setPort k x).log = s.log := rfl
@[simp] theorem State.setPort_logMade (s : State) (k : Nat) (x : Port) : (s.setPort k x).logMade = s.logMade := rfl
@[simp] theorem State.setPort_faultBuffer (s : State) (k : Nat) (x : Port) : (s.setPort k x).faultBuffer = s.faultBuffer := rfl
@[simp] theorem State.setPort_absentEmcy (s : State) (k : Nat) (x : Port) : (s.setPort k x).absentEmcy = s.absentEmcy := rfl
@[simp] theorem State.setPort_replacement (s : State) (k : Nat) (x : Port) : (s.setPort k x).replacement = s.replacement := rfl
@[simp] theorem State.setPort_suspects (s : State) (k : Nat) (x : Port) : (s.setPort k x).suspects = s.suspects := rfl
@[simp] theorem State.setPort_leases (s : State) (k : Nat) (x : Port) : (s.setPort k x).leases = s.leases := rfl
@[simp] theorem State.setPort_dma (s : State) (k : Nat) (x : Port) : (s.setPort k x).dma = s.dma := rfl
@[simp] theorem State.setPort_moves (s : State) (k : Nat) (x : Port) : (s.setPort k x).moves = s.moves := rfl
@[simp] theorem State.setPort_injection (s : State) (k : Nat) (x : Port) : (s.setPort k x).injection = s.injection := rfl
@[simp] theorem State.setPort_tiles (s : State) (k : Nat) (x : Port) : (s.setPort k x).tiles = s.tiles := rfl
@[simp] theorem State.setPort_mesh (s : State) (k : Nat) (x : Port) : (s.setPort k x).mesh = s.mesh := rfl
@[simp] theorem State.setPort_attach (s : State) (k : Nat) (x : Port) : (s.setPort k x).attach = s.attach := rfl
@[simp] theorem State.setPort_rewardN (s : State) (k : Nat) (x : Port) : (s.setPort k x).rewardN = s.rewardN := rfl
@[simp] theorem State.setPort_rewardSent (s : State) (k : Nat) (x : Port) : (s.setPort k x).rewardSent = s.rewardSent := rfl
@[simp] theorem State.setPort_plans (s : State) (k : Nat) (x : Port) : (s.setPort k x).plans = s.plans := rfl
@[simp] theorem State.setPort_segs (s : State) (k : Nat) (x : Port) : (s.setPort k x).segs = s.segs := rfl
@[simp] theorem State.setPort_segCtr (s : State) (k : Nat) (x : Port) : (s.setPort k x).segCtr = s.segCtr := rfl
@[simp] theorem State.setPort_conns (s : State) (k : Nat) (x : Port) : (s.setPort k x).conns = s.conns := rfl
@[simp] theorem State.setPort_wrs (s : State) (k : Nat) (x : Port) : (s.setPort k x).wrs = s.wrs := rfl
@[simp] theorem State.setPort_nextWr (s : State) (k : Nat) (x : Port) : (s.setPort k x).nextWr = s.nextWr := rfl
@[simp] theorem State.setPort_ctrs (s : State) (k : Nat) (x : Port) : (s.setPort k x).ctrs = s.ctrs := rfl
@[simp] theorem State.setPort_buckets (s : State) (k : Nat) (x : Port) : (s.setPort k x).buckets = s.buckets := rfl
@[simp] theorem State.setPort_nodes (s : State) (k : Nat) (x : Port) : (s.setPort k x).nodes = s.nodes := rfl
@[simp] theorem State.setPort_power (s : State) (k : Nat) (x : Port) : (s.setPort k x).power = s.power := rfl
@[simp] theorem State.setPort_up (s : State) (k : Nat) (x : Port) : (s.setPort k x).up = s.up := rfl
@[simp] theorem State.setPort_fuses (s : State) (k : Nat) (x : Port) : (s.setPort k x).fuses = s.fuses := rfl
@[simp] theorem State.setPort_fw (s : State) (k : Nat) (x : Port) : (s.setPort k x).fw = s.fw := rfl
@[simp] theorem State.setPort_out (s : State) (k : Nat) (x : Port) : (s.setPort k x).out = s.out := rfl
@[simp] theorem State.setPort_fresh (s : State) (k : Nat) (x : Port) : (s.setPort k x).fresh = s.fresh := rfl
@[simp] theorem State.setPort_pending (s : State) (k : Nat) (x : Port) : (s.setPort k x).pending = s.pending := rfl

@[simp] theorem State.setDomain_now (s : State) (k : Nat) (x : Domain) : (s.setDomain k x).now = s.now := rfl
@[simp] theorem State.setDomain_wafer (s : State) (k : Nat) (x : Domain) : (s.setDomain k x).wafer = s.wafer := rfl
@[simp] theorem State.setDomain_beat (s : State) (k : Nat) (x : Domain) : (s.setDomain k x).beat = s.beat := rfl
@[simp] theorem State.setDomain_sessions (s : State) (k : Nat) (x : Domain) : (s.setDomain k x).sessions = s.sessions := rfl
@[simp] theorem State.setDomain_hostA (s : State) (k : Nat) (x : Domain) : (s.setDomain k x).hostA = s.hostA := rfl
@[simp] theorem State.setDomain_hostB (s : State) (k : Nat) (x : Domain) : (s.setDomain k x).hostB = s.hostB := rfl
@[simp] theorem State.setDomain_sq (s : State) (k : Nat) (x : Domain) : (s.setDomain k x).sq = s.sq := rfl
@[simp] theorem State.setDomain_cq (s : State) (k : Nat) (x : Domain) : (s.setDomain k x).cq = s.cq := rfl
@[simp] theorem State.setDomain_lastRing (s : State) (k : Nat) (x : Domain) : (s.setDomain k x).lastRing = s.lastRing := rfl
@[simp] theorem State.setDomain_msix (s : State) (k : Nat) (x : Domain) : (s.setDomain k x).msix = s.msix := rfl
@[simp] theorem State.setDomain_pba (s : State) (k : Nat) (x : Domain) : (s.setDomain k x).pba = s.pba := rfl
@[simp] theorem State.setDomain_lists (s : State) (k : Nat) (x : Domain) : (s.setDomain k x).lists = s.lists := rfl
@[simp] theorem State.setDomain_nextList (s : State) (k : Nat) (x : Domain) : (s.setDomain k x).nextList = s.nextList := rfl
@[simp] theorem State.setDomain_jobs (s : State) (k : Nat) (x : Domain) : (s.setDomain k x).jobs = s.jobs := rfl
@[simp] theorem State.setDomain_frames (s : State) (k : Nat) (x : Domain) : (s.setDomain k x).frames = s.frames := rfl
@[simp] theorem State.setDomain_nextFrame (s : State) (k : Nat) (x : Domain) : (s.setDomain k x).nextFrame = s.nextFrame := rfl
@[simp] theorem State.setDomain_skips (s : State) (k : Nat) (x : Domain) : (s.setDomain k x).skips = s.skips := rfl
@[simp] theorem State.setDomain_setSkips (s : State) (k : Nat) (x : Domain) : (s.setDomain k x).setSkips = s.setSkips := rfl
@[simp] theorem State.setDomain_tier1 (s : State) (k : Nat) (x : Domain) : (s.setDomain k x).tier1 = s.tier1 := rfl
@[simp] theorem State.setDomain_granules (s : State) (k : Nat) (x : Domain) : (s.setDomain k x).granules = s.granules := rfl
@[simp] theorem State.setDomain_tier1Bad (s : State) (k : Nat) (x : Domain) : (s.setDomain k x).tier1Bad = s.tier1Bad := rfl
@[simp] theorem State.setDomain_dram (s : State) (k : Nat) (x : Domain) : (s.setDomain k x).dram = s.dram := rfl
@[simp] theorem State.setDomain_od (s : State) (k : Nat) (x : Domain) : (s.setDomain k x).od = s.od := rfl
@[simp] theorem State.setDomain_can (s : State) (k : Nat) (x : Domain) : (s.setDomain k x).can = s.can := rfl
@[simp] theorem State.setDomain_boxA (s : State) (k : Nat) (x : Domain) : (s.setDomain k x).boxA = s.boxA := rfl
@[simp] theorem State.setDomain_boxB (s : State) (k : Nat) (x : Domain) : (s.setDomain k x).boxB = s.boxB := rfl
@[simp] theorem State.setDomain_det (s : State) (k : Nat) (x : Domain) : (s.setDomain k x).det = s.det := rfl
@[simp] theorem State.setDomain_log (s : State) (k : Nat) (x : Domain) : (s.setDomain k x).log = s.log := rfl
@[simp] theorem State.setDomain_logMade (s : State) (k : Nat) (x : Domain) : (s.setDomain k x).logMade = s.logMade := rfl
@[simp] theorem State.setDomain_faultBuffer (s : State) (k : Nat) (x : Domain) : (s.setDomain k x).faultBuffer = s.faultBuffer := rfl
@[simp] theorem State.setDomain_absentEmcy (s : State) (k : Nat) (x : Domain) : (s.setDomain k x).absentEmcy = s.absentEmcy := rfl
@[simp] theorem State.setDomain_replacement (s : State) (k : Nat) (x : Domain) : (s.setDomain k x).replacement = s.replacement := rfl
@[simp] theorem State.setDomain_suspects (s : State) (k : Nat) (x : Domain) : (s.setDomain k x).suspects = s.suspects := rfl
@[simp] theorem State.setDomain_leases (s : State) (k : Nat) (x : Domain) : (s.setDomain k x).leases = s.leases := rfl
@[simp] theorem State.setDomain_dma (s : State) (k : Nat) (x : Domain) : (s.setDomain k x).dma = s.dma := rfl
@[simp] theorem State.setDomain_moves (s : State) (k : Nat) (x : Domain) : (s.setDomain k x).moves = s.moves := rfl
@[simp] theorem State.setDomain_injection (s : State) (k : Nat) (x : Domain) : (s.setDomain k x).injection = s.injection := rfl
@[simp] theorem State.setDomain_tiles (s : State) (k : Nat) (x : Domain) : (s.setDomain k x).tiles = s.tiles := rfl
@[simp] theorem State.setDomain_mesh (s : State) (k : Nat) (x : Domain) : (s.setDomain k x).mesh = s.mesh := rfl
@[simp] theorem State.setDomain_attach (s : State) (k : Nat) (x : Domain) : (s.setDomain k x).attach = s.attach := rfl
@[simp] theorem State.setDomain_rewardN (s : State) (k : Nat) (x : Domain) : (s.setDomain k x).rewardN = s.rewardN := rfl
@[simp] theorem State.setDomain_rewardSent (s : State) (k : Nat) (x : Domain) : (s.setDomain k x).rewardSent = s.rewardSent := rfl
@[simp] theorem State.setDomain_plans (s : State) (k : Nat) (x : Domain) : (s.setDomain k x).plans = s.plans := rfl
@[simp] theorem State.setDomain_segs (s : State) (k : Nat) (x : Domain) : (s.setDomain k x).segs = s.segs := rfl
@[simp] theorem State.setDomain_segCtr (s : State) (k : Nat) (x : Domain) : (s.setDomain k x).segCtr = s.segCtr := rfl
@[simp] theorem State.setDomain_conns (s : State) (k : Nat) (x : Domain) : (s.setDomain k x).conns = s.conns := rfl
@[simp] theorem State.setDomain_wrs (s : State) (k : Nat) (x : Domain) : (s.setDomain k x).wrs = s.wrs := rfl
@[simp] theorem State.setDomain_nextWr (s : State) (k : Nat) (x : Domain) : (s.setDomain k x).nextWr = s.nextWr := rfl
@[simp] theorem State.setDomain_ctrs (s : State) (k : Nat) (x : Domain) : (s.setDomain k x).ctrs = s.ctrs := rfl
@[simp] theorem State.setDomain_ports (s : State) (k : Nat) (x : Domain) : (s.setDomain k x).ports = s.ports := rfl
@[simp] theorem State.setDomain_buckets (s : State) (k : Nat) (x : Domain) : (s.setDomain k x).buckets = s.buckets := rfl
@[simp] theorem State.setDomain_nodes (s : State) (k : Nat) (x : Domain) : (s.setDomain k x).nodes = s.nodes := rfl
@[simp] theorem State.setDomain_up (s : State) (k : Nat) (x : Domain) : (s.setDomain k x).up = s.up := rfl
@[simp] theorem State.setDomain_fuses (s : State) (k : Nat) (x : Domain) : (s.setDomain k x).fuses = s.fuses := rfl
@[simp] theorem State.setDomain_fw (s : State) (k : Nat) (x : Domain) : (s.setDomain k x).fw = s.fw := rfl
@[simp] theorem State.setDomain_out (s : State) (k : Nat) (x : Domain) : (s.setDomain k x).out = s.out := rfl
@[simp] theorem State.setDomain_fresh (s : State) (k : Nat) (x : Domain) : (s.setDomain k x).fresh = s.fresh := rfl
@[simp] theorem State.setDomain_pending (s : State) (k : Nat) (x : Domain) : (s.setDomain k x).pending = s.pending := rfl

@[simp] theorem State.setPanelPower_now (s : State) (k : Nat) (x : PanelPower) : (s.setPanelPower k x).now = s.now := rfl
@[simp] theorem State.setPanelPower_wafer (s : State) (k : Nat) (x : PanelPower) : (s.setPanelPower k x).wafer = s.wafer := rfl
@[simp] theorem State.setPanelPower_beat (s : State) (k : Nat) (x : PanelPower) : (s.setPanelPower k x).beat = s.beat := rfl
@[simp] theorem State.setPanelPower_sessions (s : State) (k : Nat) (x : PanelPower) : (s.setPanelPower k x).sessions = s.sessions := rfl
@[simp] theorem State.setPanelPower_hostA (s : State) (k : Nat) (x : PanelPower) : (s.setPanelPower k x).hostA = s.hostA := rfl
@[simp] theorem State.setPanelPower_hostB (s : State) (k : Nat) (x : PanelPower) : (s.setPanelPower k x).hostB = s.hostB := rfl
@[simp] theorem State.setPanelPower_sq (s : State) (k : Nat) (x : PanelPower) : (s.setPanelPower k x).sq = s.sq := rfl
@[simp] theorem State.setPanelPower_cq (s : State) (k : Nat) (x : PanelPower) : (s.setPanelPower k x).cq = s.cq := rfl
@[simp] theorem State.setPanelPower_lastRing (s : State) (k : Nat) (x : PanelPower) : (s.setPanelPower k x).lastRing = s.lastRing := rfl
@[simp] theorem State.setPanelPower_msix (s : State) (k : Nat) (x : PanelPower) : (s.setPanelPower k x).msix = s.msix := rfl
@[simp] theorem State.setPanelPower_pba (s : State) (k : Nat) (x : PanelPower) : (s.setPanelPower k x).pba = s.pba := rfl
@[simp] theorem State.setPanelPower_lists (s : State) (k : Nat) (x : PanelPower) : (s.setPanelPower k x).lists = s.lists := rfl
@[simp] theorem State.setPanelPower_nextList (s : State) (k : Nat) (x : PanelPower) : (s.setPanelPower k x).nextList = s.nextList := rfl
@[simp] theorem State.setPanelPower_jobs (s : State) (k : Nat) (x : PanelPower) : (s.setPanelPower k x).jobs = s.jobs := rfl
@[simp] theorem State.setPanelPower_frames (s : State) (k : Nat) (x : PanelPower) : (s.setPanelPower k x).frames = s.frames := rfl
@[simp] theorem State.setPanelPower_nextFrame (s : State) (k : Nat) (x : PanelPower) : (s.setPanelPower k x).nextFrame = s.nextFrame := rfl
@[simp] theorem State.setPanelPower_skips (s : State) (k : Nat) (x : PanelPower) : (s.setPanelPower k x).skips = s.skips := rfl
@[simp] theorem State.setPanelPower_setSkips (s : State) (k : Nat) (x : PanelPower) : (s.setPanelPower k x).setSkips = s.setSkips := rfl
@[simp] theorem State.setPanelPower_tier1 (s : State) (k : Nat) (x : PanelPower) : (s.setPanelPower k x).tier1 = s.tier1 := rfl
@[simp] theorem State.setPanelPower_granules (s : State) (k : Nat) (x : PanelPower) : (s.setPanelPower k x).granules = s.granules := rfl
@[simp] theorem State.setPanelPower_tier1Bad (s : State) (k : Nat) (x : PanelPower) : (s.setPanelPower k x).tier1Bad = s.tier1Bad := rfl
@[simp] theorem State.setPanelPower_dram (s : State) (k : Nat) (x : PanelPower) : (s.setPanelPower k x).dram = s.dram := rfl
@[simp] theorem State.setPanelPower_od (s : State) (k : Nat) (x : PanelPower) : (s.setPanelPower k x).od = s.od := rfl
@[simp] theorem State.setPanelPower_can (s : State) (k : Nat) (x : PanelPower) : (s.setPanelPower k x).can = s.can := rfl
@[simp] theorem State.setPanelPower_boxA (s : State) (k : Nat) (x : PanelPower) : (s.setPanelPower k x).boxA = s.boxA := rfl
@[simp] theorem State.setPanelPower_boxB (s : State) (k : Nat) (x : PanelPower) : (s.setPanelPower k x).boxB = s.boxB := rfl
@[simp] theorem State.setPanelPower_det (s : State) (k : Nat) (x : PanelPower) : (s.setPanelPower k x).det = s.det := rfl
@[simp] theorem State.setPanelPower_log (s : State) (k : Nat) (x : PanelPower) : (s.setPanelPower k x).log = s.log := rfl
@[simp] theorem State.setPanelPower_logMade (s : State) (k : Nat) (x : PanelPower) : (s.setPanelPower k x).logMade = s.logMade := rfl
@[simp] theorem State.setPanelPower_faultBuffer (s : State) (k : Nat) (x : PanelPower) : (s.setPanelPower k x).faultBuffer = s.faultBuffer := rfl
@[simp] theorem State.setPanelPower_absentEmcy (s : State) (k : Nat) (x : PanelPower) : (s.setPanelPower k x).absentEmcy = s.absentEmcy := rfl
@[simp] theorem State.setPanelPower_replacement (s : State) (k : Nat) (x : PanelPower) : (s.setPanelPower k x).replacement = s.replacement := rfl
@[simp] theorem State.setPanelPower_suspects (s : State) (k : Nat) (x : PanelPower) : (s.setPanelPower k x).suspects = s.suspects := rfl
@[simp] theorem State.setPanelPower_leases (s : State) (k : Nat) (x : PanelPower) : (s.setPanelPower k x).leases = s.leases := rfl
@[simp] theorem State.setPanelPower_dma (s : State) (k : Nat) (x : PanelPower) : (s.setPanelPower k x).dma = s.dma := rfl
@[simp] theorem State.setPanelPower_moves (s : State) (k : Nat) (x : PanelPower) : (s.setPanelPower k x).moves = s.moves := rfl
@[simp] theorem State.setPanelPower_injection (s : State) (k : Nat) (x : PanelPower) : (s.setPanelPower k x).injection = s.injection := rfl
@[simp] theorem State.setPanelPower_tiles (s : State) (k : Nat) (x : PanelPower) : (s.setPanelPower k x).tiles = s.tiles := rfl
@[simp] theorem State.setPanelPower_mesh (s : State) (k : Nat) (x : PanelPower) : (s.setPanelPower k x).mesh = s.mesh := rfl
@[simp] theorem State.setPanelPower_attach (s : State) (k : Nat) (x : PanelPower) : (s.setPanelPower k x).attach = s.attach := rfl
@[simp] theorem State.setPanelPower_rewardN (s : State) (k : Nat) (x : PanelPower) : (s.setPanelPower k x).rewardN = s.rewardN := rfl
@[simp] theorem State.setPanelPower_rewardSent (s : State) (k : Nat) (x : PanelPower) : (s.setPanelPower k x).rewardSent = s.rewardSent := rfl
@[simp] theorem State.setPanelPower_plans (s : State) (k : Nat) (x : PanelPower) : (s.setPanelPower k x).plans = s.plans := rfl
@[simp] theorem State.setPanelPower_segs (s : State) (k : Nat) (x : PanelPower) : (s.setPanelPower k x).segs = s.segs := rfl
@[simp] theorem State.setPanelPower_segCtr (s : State) (k : Nat) (x : PanelPower) : (s.setPanelPower k x).segCtr = s.segCtr := rfl
@[simp] theorem State.setPanelPower_conns (s : State) (k : Nat) (x : PanelPower) : (s.setPanelPower k x).conns = s.conns := rfl
@[simp] theorem State.setPanelPower_wrs (s : State) (k : Nat) (x : PanelPower) : (s.setPanelPower k x).wrs = s.wrs := rfl
@[simp] theorem State.setPanelPower_nextWr (s : State) (k : Nat) (x : PanelPower) : (s.setPanelPower k x).nextWr = s.nextWr := rfl
@[simp] theorem State.setPanelPower_ctrs (s : State) (k : Nat) (x : PanelPower) : (s.setPanelPower k x).ctrs = s.ctrs := rfl
@[simp] theorem State.setPanelPower_ports (s : State) (k : Nat) (x : PanelPower) : (s.setPanelPower k x).ports = s.ports := rfl
@[simp] theorem State.setPanelPower_buckets (s : State) (k : Nat) (x : PanelPower) : (s.setPanelPower k x).buckets = s.buckets := rfl
@[simp] theorem State.setPanelPower_nodes (s : State) (k : Nat) (x : PanelPower) : (s.setPanelPower k x).nodes = s.nodes := rfl
@[simp] theorem State.setPanelPower_up (s : State) (k : Nat) (x : PanelPower) : (s.setPanelPower k x).up = s.up := rfl
@[simp] theorem State.setPanelPower_fuses (s : State) (k : Nat) (x : PanelPower) : (s.setPanelPower k x).fuses = s.fuses := rfl
@[simp] theorem State.setPanelPower_fw (s : State) (k : Nat) (x : PanelPower) : (s.setPanelPower k x).fw = s.fw := rfl
@[simp] theorem State.setPanelPower_out (s : State) (k : Nat) (x : PanelPower) : (s.setPanelPower k x).out = s.out := rfl
@[simp] theorem State.setPanelPower_fresh (s : State) (k : Nat) (x : PanelPower) : (s.setPanelPower k x).fresh = s.fresh := rfl
@[simp] theorem State.setPanelPower_pending (s : State) (k : Nat) (x : PanelPower) : (s.setPanelPower k x).pending = s.pending := rfl

@[simp] theorem State.setSdo_now (s : State) (x : Sdo) : (s.setSdo x).now = s.now := rfl
@[simp] theorem State.setSdo_wafer (s : State) (x : Sdo) : (s.setSdo x).wafer = s.wafer := rfl
@[simp] theorem State.setSdo_beat (s : State) (x : Sdo) : (s.setSdo x).beat = s.beat := rfl
@[simp] theorem State.setSdo_sessions (s : State) (x : Sdo) : (s.setSdo x).sessions = s.sessions := rfl
@[simp] theorem State.setSdo_hostA (s : State) (x : Sdo) : (s.setSdo x).hostA = s.hostA := rfl
@[simp] theorem State.setSdo_hostB (s : State) (x : Sdo) : (s.setSdo x).hostB = s.hostB := rfl
@[simp] theorem State.setSdo_sq (s : State) (x : Sdo) : (s.setSdo x).sq = s.sq := rfl
@[simp] theorem State.setSdo_cq (s : State) (x : Sdo) : (s.setSdo x).cq = s.cq := rfl
@[simp] theorem State.setSdo_lastRing (s : State) (x : Sdo) : (s.setSdo x).lastRing = s.lastRing := rfl
@[simp] theorem State.setSdo_msix (s : State) (x : Sdo) : (s.setSdo x).msix = s.msix := rfl
@[simp] theorem State.setSdo_pba (s : State) (x : Sdo) : (s.setSdo x).pba = s.pba := rfl
@[simp] theorem State.setSdo_lists (s : State) (x : Sdo) : (s.setSdo x).lists = s.lists := rfl
@[simp] theorem State.setSdo_nextList (s : State) (x : Sdo) : (s.setSdo x).nextList = s.nextList := rfl
@[simp] theorem State.setSdo_jobs (s : State) (x : Sdo) : (s.setSdo x).jobs = s.jobs := rfl
@[simp] theorem State.setSdo_frames (s : State) (x : Sdo) : (s.setSdo x).frames = s.frames := rfl
@[simp] theorem State.setSdo_nextFrame (s : State) (x : Sdo) : (s.setSdo x).nextFrame = s.nextFrame := rfl
@[simp] theorem State.setSdo_skips (s : State) (x : Sdo) : (s.setSdo x).skips = s.skips := rfl
@[simp] theorem State.setSdo_setSkips (s : State) (x : Sdo) : (s.setSdo x).setSkips = s.setSkips := rfl
@[simp] theorem State.setSdo_tier1 (s : State) (x : Sdo) : (s.setSdo x).tier1 = s.tier1 := rfl
@[simp] theorem State.setSdo_granules (s : State) (x : Sdo) : (s.setSdo x).granules = s.granules := rfl
@[simp] theorem State.setSdo_tier1Bad (s : State) (x : Sdo) : (s.setSdo x).tier1Bad = s.tier1Bad := rfl
@[simp] theorem State.setSdo_dram (s : State) (x : Sdo) : (s.setSdo x).dram = s.dram := rfl
@[simp] theorem State.setSdo_od (s : State) (x : Sdo) : (s.setSdo x).od = s.od := rfl
@[simp] theorem State.setSdo_boxA (s : State) (x : Sdo) : (s.setSdo x).boxA = s.boxA := rfl
@[simp] theorem State.setSdo_boxB (s : State) (x : Sdo) : (s.setSdo x).boxB = s.boxB := rfl
@[simp] theorem State.setSdo_det (s : State) (x : Sdo) : (s.setSdo x).det = s.det := rfl
@[simp] theorem State.setSdo_log (s : State) (x : Sdo) : (s.setSdo x).log = s.log := rfl
@[simp] theorem State.setSdo_logMade (s : State) (x : Sdo) : (s.setSdo x).logMade = s.logMade := rfl
@[simp] theorem State.setSdo_faultBuffer (s : State) (x : Sdo) : (s.setSdo x).faultBuffer = s.faultBuffer := rfl
@[simp] theorem State.setSdo_absentEmcy (s : State) (x : Sdo) : (s.setSdo x).absentEmcy = s.absentEmcy := rfl
@[simp] theorem State.setSdo_replacement (s : State) (x : Sdo) : (s.setSdo x).replacement = s.replacement := rfl
@[simp] theorem State.setSdo_suspects (s : State) (x : Sdo) : (s.setSdo x).suspects = s.suspects := rfl
@[simp] theorem State.setSdo_leases (s : State) (x : Sdo) : (s.setSdo x).leases = s.leases := rfl
@[simp] theorem State.setSdo_dma (s : State) (x : Sdo) : (s.setSdo x).dma = s.dma := rfl
@[simp] theorem State.setSdo_moves (s : State) (x : Sdo) : (s.setSdo x).moves = s.moves := rfl
@[simp] theorem State.setSdo_injection (s : State) (x : Sdo) : (s.setSdo x).injection = s.injection := rfl
@[simp] theorem State.setSdo_tiles (s : State) (x : Sdo) : (s.setSdo x).tiles = s.tiles := rfl
@[simp] theorem State.setSdo_mesh (s : State) (x : Sdo) : (s.setSdo x).mesh = s.mesh := rfl
@[simp] theorem State.setSdo_attach (s : State) (x : Sdo) : (s.setSdo x).attach = s.attach := rfl
@[simp] theorem State.setSdo_rewardN (s : State) (x : Sdo) : (s.setSdo x).rewardN = s.rewardN := rfl
@[simp] theorem State.setSdo_rewardSent (s : State) (x : Sdo) : (s.setSdo x).rewardSent = s.rewardSent := rfl
@[simp] theorem State.setSdo_plans (s : State) (x : Sdo) : (s.setSdo x).plans = s.plans := rfl
@[simp] theorem State.setSdo_segs (s : State) (x : Sdo) : (s.setSdo x).segs = s.segs := rfl
@[simp] theorem State.setSdo_segCtr (s : State) (x : Sdo) : (s.setSdo x).segCtr = s.segCtr := rfl
@[simp] theorem State.setSdo_conns (s : State) (x : Sdo) : (s.setSdo x).conns = s.conns := rfl
@[simp] theorem State.setSdo_wrs (s : State) (x : Sdo) : (s.setSdo x).wrs = s.wrs := rfl
@[simp] theorem State.setSdo_nextWr (s : State) (x : Sdo) : (s.setSdo x).nextWr = s.nextWr := rfl
@[simp] theorem State.setSdo_ctrs (s : State) (x : Sdo) : (s.setSdo x).ctrs = s.ctrs := rfl
@[simp] theorem State.setSdo_ports (s : State) (x : Sdo) : (s.setSdo x).ports = s.ports := rfl
@[simp] theorem State.setSdo_buckets (s : State) (x : Sdo) : (s.setSdo x).buckets = s.buckets := rfl
@[simp] theorem State.setSdo_nodes (s : State) (x : Sdo) : (s.setSdo x).nodes = s.nodes := rfl
@[simp] theorem State.setSdo_power (s : State) (x : Sdo) : (s.setSdo x).power = s.power := rfl
@[simp] theorem State.setSdo_up (s : State) (x : Sdo) : (s.setSdo x).up = s.up := rfl
@[simp] theorem State.setSdo_fuses (s : State) (x : Sdo) : (s.setSdo x).fuses = s.fuses := rfl
@[simp] theorem State.setSdo_fw (s : State) (x : Sdo) : (s.setSdo x).fw = s.fw := rfl
@[simp] theorem State.setSdo_out (s : State) (x : Sdo) : (s.setSdo x).out = s.out := rfl
@[simp] theorem State.setSdo_fresh (s : State) (x : Sdo) : (s.setSdo x).fresh = s.fresh := rfl
@[simp] theorem State.setSdo_pending (s : State) (x : Sdo) : (s.setSdo x).pending = s.pending := rfl

@[simp] theorem State.sdoIdle_now (s : State) : (s.sdoIdle ).now = s.now := rfl
@[simp] theorem State.sdoIdle_wafer (s : State) : (s.sdoIdle ).wafer = s.wafer := rfl
@[simp] theorem State.sdoIdle_beat (s : State) : (s.sdoIdle ).beat = s.beat := rfl
@[simp] theorem State.sdoIdle_sessions (s : State) : (s.sdoIdle ).sessions = s.sessions := rfl
@[simp] theorem State.sdoIdle_hostA (s : State) : (s.sdoIdle ).hostA = s.hostA := rfl
@[simp] theorem State.sdoIdle_hostB (s : State) : (s.sdoIdle ).hostB = s.hostB := rfl
@[simp] theorem State.sdoIdle_sq (s : State) : (s.sdoIdle ).sq = s.sq := rfl
@[simp] theorem State.sdoIdle_cq (s : State) : (s.sdoIdle ).cq = s.cq := rfl
@[simp] theorem State.sdoIdle_lastRing (s : State) : (s.sdoIdle ).lastRing = s.lastRing := rfl
@[simp] theorem State.sdoIdle_msix (s : State) : (s.sdoIdle ).msix = s.msix := rfl
@[simp] theorem State.sdoIdle_pba (s : State) : (s.sdoIdle ).pba = s.pba := rfl
@[simp] theorem State.sdoIdle_lists (s : State) : (s.sdoIdle ).lists = s.lists := rfl
@[simp] theorem State.sdoIdle_nextList (s : State) : (s.sdoIdle ).nextList = s.nextList := rfl
@[simp] theorem State.sdoIdle_jobs (s : State) : (s.sdoIdle ).jobs = s.jobs := rfl
@[simp] theorem State.sdoIdle_frames (s : State) : (s.sdoIdle ).frames = s.frames := rfl
@[simp] theorem State.sdoIdle_nextFrame (s : State) : (s.sdoIdle ).nextFrame = s.nextFrame := rfl
@[simp] theorem State.sdoIdle_skips (s : State) : (s.sdoIdle ).skips = s.skips := rfl
@[simp] theorem State.sdoIdle_setSkips (s : State) : (s.sdoIdle ).setSkips = s.setSkips := rfl
@[simp] theorem State.sdoIdle_tier1 (s : State) : (s.sdoIdle ).tier1 = s.tier1 := rfl
@[simp] theorem State.sdoIdle_granules (s : State) : (s.sdoIdle ).granules = s.granules := rfl
@[simp] theorem State.sdoIdle_tier1Bad (s : State) : (s.sdoIdle ).tier1Bad = s.tier1Bad := rfl
@[simp] theorem State.sdoIdle_dram (s : State) : (s.sdoIdle ).dram = s.dram := rfl
@[simp] theorem State.sdoIdle_od (s : State) : (s.sdoIdle ).od = s.od := rfl
@[simp] theorem State.sdoIdle_boxA (s : State) : (s.sdoIdle ).boxA = s.boxA := rfl
@[simp] theorem State.sdoIdle_boxB (s : State) : (s.sdoIdle ).boxB = s.boxB := rfl
@[simp] theorem State.sdoIdle_det (s : State) : (s.sdoIdle ).det = s.det := rfl
@[simp] theorem State.sdoIdle_log (s : State) : (s.sdoIdle ).log = s.log := rfl
@[simp] theorem State.sdoIdle_logMade (s : State) : (s.sdoIdle ).logMade = s.logMade := rfl
@[simp] theorem State.sdoIdle_faultBuffer (s : State) : (s.sdoIdle ).faultBuffer = s.faultBuffer := rfl
@[simp] theorem State.sdoIdle_absentEmcy (s : State) : (s.sdoIdle ).absentEmcy = s.absentEmcy := rfl
@[simp] theorem State.sdoIdle_replacement (s : State) : (s.sdoIdle ).replacement = s.replacement := rfl
@[simp] theorem State.sdoIdle_suspects (s : State) : (s.sdoIdle ).suspects = s.suspects := rfl
@[simp] theorem State.sdoIdle_leases (s : State) : (s.sdoIdle ).leases = s.leases := rfl
@[simp] theorem State.sdoIdle_dma (s : State) : (s.sdoIdle ).dma = s.dma := rfl
@[simp] theorem State.sdoIdle_moves (s : State) : (s.sdoIdle ).moves = s.moves := rfl
@[simp] theorem State.sdoIdle_injection (s : State) : (s.sdoIdle ).injection = s.injection := rfl
@[simp] theorem State.sdoIdle_tiles (s : State) : (s.sdoIdle ).tiles = s.tiles := rfl
@[simp] theorem State.sdoIdle_mesh (s : State) : (s.sdoIdle ).mesh = s.mesh := rfl
@[simp] theorem State.sdoIdle_attach (s : State) : (s.sdoIdle ).attach = s.attach := rfl
@[simp] theorem State.sdoIdle_rewardN (s : State) : (s.sdoIdle ).rewardN = s.rewardN := rfl
@[simp] theorem State.sdoIdle_rewardSent (s : State) : (s.sdoIdle ).rewardSent = s.rewardSent := rfl
@[simp] theorem State.sdoIdle_plans (s : State) : (s.sdoIdle ).plans = s.plans := rfl
@[simp] theorem State.sdoIdle_segs (s : State) : (s.sdoIdle ).segs = s.segs := rfl
@[simp] theorem State.sdoIdle_segCtr (s : State) : (s.sdoIdle ).segCtr = s.segCtr := rfl
@[simp] theorem State.sdoIdle_conns (s : State) : (s.sdoIdle ).conns = s.conns := rfl
@[simp] theorem State.sdoIdle_wrs (s : State) : (s.sdoIdle ).wrs = s.wrs := rfl
@[simp] theorem State.sdoIdle_nextWr (s : State) : (s.sdoIdle ).nextWr = s.nextWr := rfl
@[simp] theorem State.sdoIdle_ctrs (s : State) : (s.sdoIdle ).ctrs = s.ctrs := rfl
@[simp] theorem State.sdoIdle_ports (s : State) : (s.sdoIdle ).ports = s.ports := rfl
@[simp] theorem State.sdoIdle_buckets (s : State) : (s.sdoIdle ).buckets = s.buckets := rfl
@[simp] theorem State.sdoIdle_nodes (s : State) : (s.sdoIdle ).nodes = s.nodes := rfl
@[simp] theorem State.sdoIdle_power (s : State) : (s.sdoIdle ).power = s.power := rfl
@[simp] theorem State.sdoIdle_up (s : State) : (s.sdoIdle ).up = s.up := rfl
@[simp] theorem State.sdoIdle_fuses (s : State) : (s.sdoIdle ).fuses = s.fuses := rfl
@[simp] theorem State.sdoIdle_fw (s : State) : (s.sdoIdle ).fw = s.fw := rfl
@[simp] theorem State.sdoIdle_out (s : State) : (s.sdoIdle ).out = s.out := rfl
@[simp] theorem State.sdoIdle_fresh (s : State) : (s.sdoIdle ).fresh = s.fresh := rfl
@[simp] theorem State.sdoIdle_pending (s : State) : (s.sdoIdle ).pending = s.pending := rfl

@[simp] theorem State.segCount_now (s : State) (g i n : Nat) : (s.segCount g i n).now = s.now := rfl
@[simp] theorem State.segCount_wafer (s : State) (g i n : Nat) : (s.segCount g i n).wafer = s.wafer := rfl
@[simp] theorem State.segCount_beat (s : State) (g i n : Nat) : (s.segCount g i n).beat = s.beat := rfl
@[simp] theorem State.segCount_sessions (s : State) (g i n : Nat) : (s.segCount g i n).sessions = s.sessions := rfl
@[simp] theorem State.segCount_hostA (s : State) (g i n : Nat) : (s.segCount g i n).hostA = s.hostA := rfl
@[simp] theorem State.segCount_hostB (s : State) (g i n : Nat) : (s.segCount g i n).hostB = s.hostB := rfl
@[simp] theorem State.segCount_sq (s : State) (g i n : Nat) : (s.segCount g i n).sq = s.sq := rfl
@[simp] theorem State.segCount_cq (s : State) (g i n : Nat) : (s.segCount g i n).cq = s.cq := rfl
@[simp] theorem State.segCount_lastRing (s : State) (g i n : Nat) : (s.segCount g i n).lastRing = s.lastRing := rfl
@[simp] theorem State.segCount_msix (s : State) (g i n : Nat) : (s.segCount g i n).msix = s.msix := rfl
@[simp] theorem State.segCount_pba (s : State) (g i n : Nat) : (s.segCount g i n).pba = s.pba := rfl
@[simp] theorem State.segCount_lists (s : State) (g i n : Nat) : (s.segCount g i n).lists = s.lists := rfl
@[simp] theorem State.segCount_nextList (s : State) (g i n : Nat) : (s.segCount g i n).nextList = s.nextList := rfl
@[simp] theorem State.segCount_jobs (s : State) (g i n : Nat) : (s.segCount g i n).jobs = s.jobs := rfl
@[simp] theorem State.segCount_frames (s : State) (g i n : Nat) : (s.segCount g i n).frames = s.frames := rfl
@[simp] theorem State.segCount_nextFrame (s : State) (g i n : Nat) : (s.segCount g i n).nextFrame = s.nextFrame := rfl
@[simp] theorem State.segCount_skips (s : State) (g i n : Nat) : (s.segCount g i n).skips = s.skips := rfl
@[simp] theorem State.segCount_setSkips (s : State) (g i n : Nat) : (s.segCount g i n).setSkips = s.setSkips := rfl
@[simp] theorem State.segCount_tier1 (s : State) (g i n : Nat) : (s.segCount g i n).tier1 = s.tier1 := rfl
@[simp] theorem State.segCount_granules (s : State) (g i n : Nat) : (s.segCount g i n).granules = s.granules := rfl
@[simp] theorem State.segCount_tier1Bad (s : State) (g i n : Nat) : (s.segCount g i n).tier1Bad = s.tier1Bad := rfl
@[simp] theorem State.segCount_dram (s : State) (g i n : Nat) : (s.segCount g i n).dram = s.dram := rfl
@[simp] theorem State.segCount_od (s : State) (g i n : Nat) : (s.segCount g i n).od = s.od := rfl
@[simp] theorem State.segCount_can (s : State) (g i n : Nat) : (s.segCount g i n).can = s.can := rfl
@[simp] theorem State.segCount_boxA (s : State) (g i n : Nat) : (s.segCount g i n).boxA = s.boxA := rfl
@[simp] theorem State.segCount_boxB (s : State) (g i n : Nat) : (s.segCount g i n).boxB = s.boxB := rfl
@[simp] theorem State.segCount_det (s : State) (g i n : Nat) : (s.segCount g i n).det = s.det := rfl
@[simp] theorem State.segCount_log (s : State) (g i n : Nat) : (s.segCount g i n).log = s.log := rfl
@[simp] theorem State.segCount_logMade (s : State) (g i n : Nat) : (s.segCount g i n).logMade = s.logMade := rfl
@[simp] theorem State.segCount_faultBuffer (s : State) (g i n : Nat) : (s.segCount g i n).faultBuffer = s.faultBuffer := rfl
@[simp] theorem State.segCount_absentEmcy (s : State) (g i n : Nat) : (s.segCount g i n).absentEmcy = s.absentEmcy := rfl
@[simp] theorem State.segCount_replacement (s : State) (g i n : Nat) : (s.segCount g i n).replacement = s.replacement := rfl
@[simp] theorem State.segCount_suspects (s : State) (g i n : Nat) : (s.segCount g i n).suspects = s.suspects := rfl
@[simp] theorem State.segCount_leases (s : State) (g i n : Nat) : (s.segCount g i n).leases = s.leases := rfl
@[simp] theorem State.segCount_dma (s : State) (g i n : Nat) : (s.segCount g i n).dma = s.dma := rfl
@[simp] theorem State.segCount_moves (s : State) (g i n : Nat) : (s.segCount g i n).moves = s.moves := rfl
@[simp] theorem State.segCount_injection (s : State) (g i n : Nat) : (s.segCount g i n).injection = s.injection := rfl
@[simp] theorem State.segCount_tiles (s : State) (g i n : Nat) : (s.segCount g i n).tiles = s.tiles := rfl
@[simp] theorem State.segCount_mesh (s : State) (g i n : Nat) : (s.segCount g i n).mesh = s.mesh := rfl
@[simp] theorem State.segCount_attach (s : State) (g i n : Nat) : (s.segCount g i n).attach = s.attach := rfl
@[simp] theorem State.segCount_rewardN (s : State) (g i n : Nat) : (s.segCount g i n).rewardN = s.rewardN := rfl
@[simp] theorem State.segCount_rewardSent (s : State) (g i n : Nat) : (s.segCount g i n).rewardSent = s.rewardSent := rfl
@[simp] theorem State.segCount_plans (s : State) (g i n : Nat) : (s.segCount g i n).plans = s.plans := rfl
@[simp] theorem State.segCount_segs (s : State) (g i n : Nat) : (s.segCount g i n).segs = s.segs := rfl
@[simp] theorem State.segCount_conns (s : State) (g i n : Nat) : (s.segCount g i n).conns = s.conns := rfl
@[simp] theorem State.segCount_wrs (s : State) (g i n : Nat) : (s.segCount g i n).wrs = s.wrs := rfl
@[simp] theorem State.segCount_nextWr (s : State) (g i n : Nat) : (s.segCount g i n).nextWr = s.nextWr := rfl
@[simp] theorem State.segCount_ctrs (s : State) (g i n : Nat) : (s.segCount g i n).ctrs = s.ctrs := rfl
@[simp] theorem State.segCount_ports (s : State) (g i n : Nat) : (s.segCount g i n).ports = s.ports := rfl
@[simp] theorem State.segCount_buckets (s : State) (g i n : Nat) : (s.segCount g i n).buckets = s.buckets := rfl
@[simp] theorem State.segCount_nodes (s : State) (g i n : Nat) : (s.segCount g i n).nodes = s.nodes := rfl
@[simp] theorem State.segCount_power (s : State) (g i n : Nat) : (s.segCount g i n).power = s.power := rfl
@[simp] theorem State.segCount_up (s : State) (g i n : Nat) : (s.segCount g i n).up = s.up := rfl
@[simp] theorem State.segCount_fuses (s : State) (g i n : Nat) : (s.segCount g i n).fuses = s.fuses := rfl
@[simp] theorem State.segCount_fw (s : State) (g i n : Nat) : (s.segCount g i n).fw = s.fw := rfl
@[simp] theorem State.segCount_out (s : State) (g i n : Nat) : (s.segCount g i n).out = s.out := rfl
@[simp] theorem State.segCount_fresh (s : State) (g i n : Nat) : (s.segCount g i n).fresh = s.fresh := rfl
@[simp] theorem State.segCount_pending (s : State) (g i n : Nat) : (s.segCount g i n).pending = s.pending := rfl

@[simp] theorem State.setHost_now (s : State) (f : Fn) (h : HostFn) : (s.setHost f h).now = s.now := by cases f <;> rfl
@[simp] theorem State.setHost_wafer (s : State) (f : Fn) (h : HostFn) : (s.setHost f h).wafer = s.wafer := by cases f <;> rfl
@[simp] theorem State.setHost_beat (s : State) (f : Fn) (h : HostFn) : (s.setHost f h).beat = s.beat := by cases f <;> rfl
@[simp] theorem State.setHost_sessions (s : State) (f : Fn) (h : HostFn) : (s.setHost f h).sessions = s.sessions := by cases f <;> rfl
@[simp] theorem State.setHost_sq (s : State) (f : Fn) (h : HostFn) : (s.setHost f h).sq = s.sq := by cases f <;> rfl
@[simp] theorem State.setHost_cq (s : State) (f : Fn) (h : HostFn) : (s.setHost f h).cq = s.cq := by cases f <;> rfl
@[simp] theorem State.setHost_lastRing (s : State) (f : Fn) (h : HostFn) : (s.setHost f h).lastRing = s.lastRing := by cases f <;> rfl
@[simp] theorem State.setHost_msix (s : State) (f : Fn) (h : HostFn) : (s.setHost f h).msix = s.msix := by cases f <;> rfl
@[simp] theorem State.setHost_pba (s : State) (f : Fn) (h : HostFn) : (s.setHost f h).pba = s.pba := by cases f <;> rfl
@[simp] theorem State.setHost_lists (s : State) (f : Fn) (h : HostFn) : (s.setHost f h).lists = s.lists := by cases f <;> rfl
@[simp] theorem State.setHost_nextList (s : State) (f : Fn) (h : HostFn) : (s.setHost f h).nextList = s.nextList := by cases f <;> rfl
@[simp] theorem State.setHost_jobs (s : State) (f : Fn) (h : HostFn) : (s.setHost f h).jobs = s.jobs := by cases f <;> rfl
@[simp] theorem State.setHost_frames (s : State) (f : Fn) (h : HostFn) : (s.setHost f h).frames = s.frames := by cases f <;> rfl
@[simp] theorem State.setHost_nextFrame (s : State) (f : Fn) (h : HostFn) : (s.setHost f h).nextFrame = s.nextFrame := by cases f <;> rfl
@[simp] theorem State.setHost_skips (s : State) (f : Fn) (h : HostFn) : (s.setHost f h).skips = s.skips := by cases f <;> rfl
@[simp] theorem State.setHost_setSkips (s : State) (f : Fn) (h : HostFn) : (s.setHost f h).setSkips = s.setSkips := by cases f <;> rfl
@[simp] theorem State.setHost_tier1 (s : State) (f : Fn) (h : HostFn) : (s.setHost f h).tier1 = s.tier1 := by cases f <;> rfl
@[simp] theorem State.setHost_granules (s : State) (f : Fn) (h : HostFn) : (s.setHost f h).granules = s.granules := by cases f <;> rfl
@[simp] theorem State.setHost_tier1Bad (s : State) (f : Fn) (h : HostFn) : (s.setHost f h).tier1Bad = s.tier1Bad := by cases f <;> rfl
@[simp] theorem State.setHost_dram (s : State) (f : Fn) (h : HostFn) : (s.setHost f h).dram = s.dram := by cases f <;> rfl
@[simp] theorem State.setHost_od (s : State) (f : Fn) (h : HostFn) : (s.setHost f h).od = s.od := by cases f <;> rfl
@[simp] theorem State.setHost_can (s : State) (f : Fn) (h : HostFn) : (s.setHost f h).can = s.can := by cases f <;> rfl
@[simp] theorem State.setHost_boxA (s : State) (f : Fn) (h : HostFn) : (s.setHost f h).boxA = s.boxA := by cases f <;> rfl
@[simp] theorem State.setHost_boxB (s : State) (f : Fn) (h : HostFn) : (s.setHost f h).boxB = s.boxB := by cases f <;> rfl
@[simp] theorem State.setHost_det (s : State) (f : Fn) (h : HostFn) : (s.setHost f h).det = s.det := by cases f <;> rfl
@[simp] theorem State.setHost_log (s : State) (f : Fn) (h : HostFn) : (s.setHost f h).log = s.log := by cases f <;> rfl
@[simp] theorem State.setHost_logMade (s : State) (f : Fn) (h : HostFn) : (s.setHost f h).logMade = s.logMade := by cases f <;> rfl
@[simp] theorem State.setHost_faultBuffer (s : State) (f : Fn) (h : HostFn) : (s.setHost f h).faultBuffer = s.faultBuffer := by cases f <;> rfl
@[simp] theorem State.setHost_absentEmcy (s : State) (f : Fn) (h : HostFn) : (s.setHost f h).absentEmcy = s.absentEmcy := by cases f <;> rfl
@[simp] theorem State.setHost_replacement (s : State) (f : Fn) (h : HostFn) : (s.setHost f h).replacement = s.replacement := by cases f <;> rfl
@[simp] theorem State.setHost_suspects (s : State) (f : Fn) (h : HostFn) : (s.setHost f h).suspects = s.suspects := by cases f <;> rfl
@[simp] theorem State.setHost_leases (s : State) (f : Fn) (h : HostFn) : (s.setHost f h).leases = s.leases := by cases f <;> rfl
@[simp] theorem State.setHost_dma (s : State) (f : Fn) (h : HostFn) : (s.setHost f h).dma = s.dma := by cases f <;> rfl
@[simp] theorem State.setHost_moves (s : State) (f : Fn) (h : HostFn) : (s.setHost f h).moves = s.moves := by cases f <;> rfl
@[simp] theorem State.setHost_injection (s : State) (f : Fn) (h : HostFn) : (s.setHost f h).injection = s.injection := by cases f <;> rfl
@[simp] theorem State.setHost_tiles (s : State) (f : Fn) (h : HostFn) : (s.setHost f h).tiles = s.tiles := by cases f <;> rfl
@[simp] theorem State.setHost_mesh (s : State) (f : Fn) (h : HostFn) : (s.setHost f h).mesh = s.mesh := by cases f <;> rfl
@[simp] theorem State.setHost_attach (s : State) (f : Fn) (h : HostFn) : (s.setHost f h).attach = s.attach := by cases f <;> rfl
@[simp] theorem State.setHost_rewardN (s : State) (f : Fn) (h : HostFn) : (s.setHost f h).rewardN = s.rewardN := by cases f <;> rfl
@[simp] theorem State.setHost_rewardSent (s : State) (f : Fn) (h : HostFn) : (s.setHost f h).rewardSent = s.rewardSent := by cases f <;> rfl
@[simp] theorem State.setHost_plans (s : State) (f : Fn) (h : HostFn) : (s.setHost f h).plans = s.plans := by cases f <;> rfl
@[simp] theorem State.setHost_segs (s : State) (f : Fn) (h : HostFn) : (s.setHost f h).segs = s.segs := by cases f <;> rfl
@[simp] theorem State.setHost_segCtr (s : State) (f : Fn) (h : HostFn) : (s.setHost f h).segCtr = s.segCtr := by cases f <;> rfl
@[simp] theorem State.setHost_conns (s : State) (f : Fn) (h : HostFn) : (s.setHost f h).conns = s.conns := by cases f <;> rfl
@[simp] theorem State.setHost_wrs (s : State) (f : Fn) (h : HostFn) : (s.setHost f h).wrs = s.wrs := by cases f <;> rfl
@[simp] theorem State.setHost_nextWr (s : State) (f : Fn) (h : HostFn) : (s.setHost f h).nextWr = s.nextWr := by cases f <;> rfl
@[simp] theorem State.setHost_ctrs (s : State) (f : Fn) (h : HostFn) : (s.setHost f h).ctrs = s.ctrs := by cases f <;> rfl
@[simp] theorem State.setHost_ports (s : State) (f : Fn) (h : HostFn) : (s.setHost f h).ports = s.ports := by cases f <;> rfl
@[simp] theorem State.setHost_buckets (s : State) (f : Fn) (h : HostFn) : (s.setHost f h).buckets = s.buckets := by cases f <;> rfl
@[simp] theorem State.setHost_nodes (s : State) (f : Fn) (h : HostFn) : (s.setHost f h).nodes = s.nodes := by cases f <;> rfl
@[simp] theorem State.setHost_power (s : State) (f : Fn) (h : HostFn) : (s.setHost f h).power = s.power := by cases f <;> rfl
@[simp] theorem State.setHost_up (s : State) (f : Fn) (h : HostFn) : (s.setHost f h).up = s.up := by cases f <;> rfl
@[simp] theorem State.setHost_fuses (s : State) (f : Fn) (h : HostFn) : (s.setHost f h).fuses = s.fuses := by cases f <;> rfl
@[simp] theorem State.setHost_fw (s : State) (f : Fn) (h : HostFn) : (s.setHost f h).fw = s.fw := by cases f <;> rfl
@[simp] theorem State.setHost_out (s : State) (f : Fn) (h : HostFn) : (s.setHost f h).out = s.out := by cases f <;> rfl
@[simp] theorem State.setHost_fresh (s : State) (f : Fn) (h : HostFn) : (s.setHost f h).fresh = s.fresh := by cases f <;> rfl
@[simp] theorem State.setHost_pending (s : State) (f : Fn) (h : HostFn) : (s.setHost f h).pending = s.pending := by cases f <;> rfl
@[simp] theorem State.setBox_now (s : State) (f : Fn) (b : Mailbox) : (s.setBox f b).now = s.now := by cases f <;> rfl
@[simp] theorem State.setBox_wafer (s : State) (f : Fn) (b : Mailbox) : (s.setBox f b).wafer = s.wafer := by cases f <;> rfl
@[simp] theorem State.setBox_beat (s : State) (f : Fn) (b : Mailbox) : (s.setBox f b).beat = s.beat := by cases f <;> rfl
@[simp] theorem State.setBox_sessions (s : State) (f : Fn) (b : Mailbox) : (s.setBox f b).sessions = s.sessions := by cases f <;> rfl
@[simp] theorem State.setBox_hostA (s : State) (f : Fn) (b : Mailbox) : (s.setBox f b).hostA = s.hostA := by cases f <;> rfl
@[simp] theorem State.setBox_hostB (s : State) (f : Fn) (b : Mailbox) : (s.setBox f b).hostB = s.hostB := by cases f <;> rfl
@[simp] theorem State.setBox_sq (s : State) (f : Fn) (b : Mailbox) : (s.setBox f b).sq = s.sq := by cases f <;> rfl
@[simp] theorem State.setBox_cq (s : State) (f : Fn) (b : Mailbox) : (s.setBox f b).cq = s.cq := by cases f <;> rfl
@[simp] theorem State.setBox_lastRing (s : State) (f : Fn) (b : Mailbox) : (s.setBox f b).lastRing = s.lastRing := by cases f <;> rfl
@[simp] theorem State.setBox_msix (s : State) (f : Fn) (b : Mailbox) : (s.setBox f b).msix = s.msix := by cases f <;> rfl
@[simp] theorem State.setBox_pba (s : State) (f : Fn) (b : Mailbox) : (s.setBox f b).pba = s.pba := by cases f <;> rfl
@[simp] theorem State.setBox_lists (s : State) (f : Fn) (b : Mailbox) : (s.setBox f b).lists = s.lists := by cases f <;> rfl
@[simp] theorem State.setBox_nextList (s : State) (f : Fn) (b : Mailbox) : (s.setBox f b).nextList = s.nextList := by cases f <;> rfl
@[simp] theorem State.setBox_jobs (s : State) (f : Fn) (b : Mailbox) : (s.setBox f b).jobs = s.jobs := by cases f <;> rfl
@[simp] theorem State.setBox_frames (s : State) (f : Fn) (b : Mailbox) : (s.setBox f b).frames = s.frames := by cases f <;> rfl
@[simp] theorem State.setBox_nextFrame (s : State) (f : Fn) (b : Mailbox) : (s.setBox f b).nextFrame = s.nextFrame := by cases f <;> rfl
@[simp] theorem State.setBox_skips (s : State) (f : Fn) (b : Mailbox) : (s.setBox f b).skips = s.skips := by cases f <;> rfl
@[simp] theorem State.setBox_setSkips (s : State) (f : Fn) (b : Mailbox) : (s.setBox f b).setSkips = s.setSkips := by cases f <;> rfl
@[simp] theorem State.setBox_tier1 (s : State) (f : Fn) (b : Mailbox) : (s.setBox f b).tier1 = s.tier1 := by cases f <;> rfl
@[simp] theorem State.setBox_granules (s : State) (f : Fn) (b : Mailbox) : (s.setBox f b).granules = s.granules := by cases f <;> rfl
@[simp] theorem State.setBox_tier1Bad (s : State) (f : Fn) (b : Mailbox) : (s.setBox f b).tier1Bad = s.tier1Bad := by cases f <;> rfl
@[simp] theorem State.setBox_dram (s : State) (f : Fn) (b : Mailbox) : (s.setBox f b).dram = s.dram := by cases f <;> rfl
@[simp] theorem State.setBox_od (s : State) (f : Fn) (b : Mailbox) : (s.setBox f b).od = s.od := by cases f <;> rfl
@[simp] theorem State.setBox_can (s : State) (f : Fn) (b : Mailbox) : (s.setBox f b).can = s.can := by cases f <;> rfl
@[simp] theorem State.setBox_det (s : State) (f : Fn) (b : Mailbox) : (s.setBox f b).det = s.det := by cases f <;> rfl
@[simp] theorem State.setBox_log (s : State) (f : Fn) (b : Mailbox) : (s.setBox f b).log = s.log := by cases f <;> rfl
@[simp] theorem State.setBox_logMade (s : State) (f : Fn) (b : Mailbox) : (s.setBox f b).logMade = s.logMade := by cases f <;> rfl
@[simp] theorem State.setBox_faultBuffer (s : State) (f : Fn) (b : Mailbox) : (s.setBox f b).faultBuffer = s.faultBuffer := by cases f <;> rfl
@[simp] theorem State.setBox_absentEmcy (s : State) (f : Fn) (b : Mailbox) : (s.setBox f b).absentEmcy = s.absentEmcy := by cases f <;> rfl
@[simp] theorem State.setBox_replacement (s : State) (f : Fn) (b : Mailbox) : (s.setBox f b).replacement = s.replacement := by cases f <;> rfl
@[simp] theorem State.setBox_suspects (s : State) (f : Fn) (b : Mailbox) : (s.setBox f b).suspects = s.suspects := by cases f <;> rfl
@[simp] theorem State.setBox_leases (s : State) (f : Fn) (b : Mailbox) : (s.setBox f b).leases = s.leases := by cases f <;> rfl
@[simp] theorem State.setBox_dma (s : State) (f : Fn) (b : Mailbox) : (s.setBox f b).dma = s.dma := by cases f <;> rfl
@[simp] theorem State.setBox_moves (s : State) (f : Fn) (b : Mailbox) : (s.setBox f b).moves = s.moves := by cases f <;> rfl
@[simp] theorem State.setBox_injection (s : State) (f : Fn) (b : Mailbox) : (s.setBox f b).injection = s.injection := by cases f <;> rfl
@[simp] theorem State.setBox_tiles (s : State) (f : Fn) (b : Mailbox) : (s.setBox f b).tiles = s.tiles := by cases f <;> rfl
@[simp] theorem State.setBox_mesh (s : State) (f : Fn) (b : Mailbox) : (s.setBox f b).mesh = s.mesh := by cases f <;> rfl
@[simp] theorem State.setBox_attach (s : State) (f : Fn) (b : Mailbox) : (s.setBox f b).attach = s.attach := by cases f <;> rfl
@[simp] theorem State.setBox_rewardN (s : State) (f : Fn) (b : Mailbox) : (s.setBox f b).rewardN = s.rewardN := by cases f <;> rfl
@[simp] theorem State.setBox_rewardSent (s : State) (f : Fn) (b : Mailbox) : (s.setBox f b).rewardSent = s.rewardSent := by cases f <;> rfl
@[simp] theorem State.setBox_plans (s : State) (f : Fn) (b : Mailbox) : (s.setBox f b).plans = s.plans := by cases f <;> rfl
@[simp] theorem State.setBox_segs (s : State) (f : Fn) (b : Mailbox) : (s.setBox f b).segs = s.segs := by cases f <;> rfl
@[simp] theorem State.setBox_segCtr (s : State) (f : Fn) (b : Mailbox) : (s.setBox f b).segCtr = s.segCtr := by cases f <;> rfl
@[simp] theorem State.setBox_conns (s : State) (f : Fn) (b : Mailbox) : (s.setBox f b).conns = s.conns := by cases f <;> rfl
@[simp] theorem State.setBox_wrs (s : State) (f : Fn) (b : Mailbox) : (s.setBox f b).wrs = s.wrs := by cases f <;> rfl
@[simp] theorem State.setBox_nextWr (s : State) (f : Fn) (b : Mailbox) : (s.setBox f b).nextWr = s.nextWr := by cases f <;> rfl
@[simp] theorem State.setBox_ctrs (s : State) (f : Fn) (b : Mailbox) : (s.setBox f b).ctrs = s.ctrs := by cases f <;> rfl
@[simp] theorem State.setBox_ports (s : State) (f : Fn) (b : Mailbox) : (s.setBox f b).ports = s.ports := by cases f <;> rfl
@[simp] theorem State.setBox_buckets (s : State) (f : Fn) (b : Mailbox) : (s.setBox f b).buckets = s.buckets := by cases f <;> rfl
@[simp] theorem State.setBox_nodes (s : State) (f : Fn) (b : Mailbox) : (s.setBox f b).nodes = s.nodes := by cases f <;> rfl
@[simp] theorem State.setBox_power (s : State) (f : Fn) (b : Mailbox) : (s.setBox f b).power = s.power := by cases f <;> rfl
@[simp] theorem State.setBox_up (s : State) (f : Fn) (b : Mailbox) : (s.setBox f b).up = s.up := by cases f <;> rfl
@[simp] theorem State.setBox_fuses (s : State) (f : Fn) (b : Mailbox) : (s.setBox f b).fuses = s.fuses := by cases f <;> rfl
@[simp] theorem State.setBox_fw (s : State) (f : Fn) (b : Mailbox) : (s.setBox f b).fw = s.fw := by cases f <;> rfl
@[simp] theorem State.setBox_out (s : State) (f : Fn) (b : Mailbox) : (s.setBox f b).out = s.out := by cases f <;> rfl
@[simp] theorem State.setBox_fresh (s : State) (f : Fn) (b : Mailbox) : (s.setBox f b).fresh = s.fresh := by cases f <;> rfl
@[simp] theorem State.setBox_pending (s : State) (f : Fn) (b : Mailbox) : (s.setBox f b).pending = s.pending := by cases f <;> rfl

@[simp] theorem State.putCell_od (s : State) (i j v : Nat) : (s.putCell i j v).od = s.od.set (odKey i j) v := rfl
@[simp] theorem State.advanceTo_now (s : State) (n : Nat) : (s.advanceTo n).now = max s.now n := rfl
@[simp] theorem State.draw_fresh (s : State) : s.draw.fresh = s.fresh + 1 := rfl
@[simp] theorem State.send_out (s : State) (o : Output) : (s.send o).out = s.out ++ [o] := rfl
@[simp] theorem State.setTile_tiles (s : State) (k : Nat) (x : Tile) : (s.setTile k x).tiles = s.tiles.set k x := rfl
@[simp] theorem State.setSeg_segs (s : State) (k : Nat) (x : Seg) : (s.setSeg k x).segs = s.segs.set k x := rfl
@[simp] theorem State.setPort_ports (s : State) (k : Nat) (x : Port) : (s.setPort k x).ports = s.ports.set k x := rfl
@[simp] theorem State.setHost_host (s : State) (f : Fn) (h : HostFn) : (s.setHost f h).host f = h := by cases f <;> rfl
@[simp] theorem State.setBox_box (s : State) (f : Fn) (b : Mailbox) : (s.setBox f b).box f = b := by cases f <;> rfl

end Sys2Proof.Machine
end

