-- ==== Sys2Proof/Laws/Reports.lean ====
section
/-! SUPPORT. The shared operations of reports (counters, detectors, EMCYs, events, completions, tier 1 and what is watched
continuously): the fields and cells that none of them writes. -/

-- One proof at a time, as in Keep.lean.
set_option Elab.async false

namespace Sys2Proof.Machine

@[simp] theorem State.count_now (s : State) {x1} {x2} {x3} {x4} : (State.count s x1 x2 x3 x4).now = s.now :=
  (State.count_step (Step.refl 4194304 s) (sub_refl _)).now rfl
@[simp] theorem State.count_wafer (s : State) {x1} {x2} {x3} {x4} : (State.count s x1 x2 x3 x4).wafer = s.wafer :=
  (State.count_step (Step.refl 4194304 s) (sub_refl _)).wafer rfl
@[simp] theorem State.count_beat (s : State) {x1} {x2} {x3} {x4} : (State.count s x1 x2 x3 x4).beat = s.beat :=
  (State.count_step (Step.refl 4194304 s) (sub_refl _)).beat rfl
@[simp] theorem State.count_sessions (s : State) {x1} {x2} {x3} {x4} : (State.count s x1 x2 x3 x4).sessions = s.sessions :=
  (State.count_step (Step.refl 4194304 s) (sub_refl _)).sessions rfl
@[simp] theorem State.count_hostA (s : State) {x1} {x2} {x3} {x4} : (State.count s x1 x2 x3 x4).hostA = s.hostA :=
  (State.count_step (Step.refl 4194304 s) (sub_refl _)).hostA rfl
@[simp] theorem State.count_hostB (s : State) {x1} {x2} {x3} {x4} : (State.count s x1 x2 x3 x4).hostB = s.hostB :=
  (State.count_step (Step.refl 4194304 s) (sub_refl _)).hostB rfl
@[simp] theorem State.count_sq (s : State) {x1} {x2} {x3} {x4} : (State.count s x1 x2 x3 x4).sq = s.sq :=
  (State.count_step (Step.refl 4194304 s) (sub_refl _)).sq rfl
@[simp] theorem State.count_cq (s : State) {x1} {x2} {x3} {x4} : (State.count s x1 x2 x3 x4).cq = s.cq :=
  (State.count_step (Step.refl 4194304 s) (sub_refl _)).cq rfl
@[simp] theorem State.count_lastRing (s : State) {x1} {x2} {x3} {x4} : (State.count s x1 x2 x3 x4).lastRing = s.lastRing :=
  (State.count_step (Step.refl 4194304 s) (sub_refl _)).lastRing rfl
@[simp] theorem State.count_msix (s : State) {x1} {x2} {x3} {x4} : (State.count s x1 x2 x3 x4).msix = s.msix :=
  (State.count_step (Step.refl 4194304 s) (sub_refl _)).msix rfl
@[simp] theorem State.count_pba (s : State) {x1} {x2} {x3} {x4} : (State.count s x1 x2 x3 x4).pba = s.pba :=
  (State.count_step (Step.refl 4194304 s) (sub_refl _)).pba rfl
@[simp] theorem State.count_lists (s : State) {x1} {x2} {x3} {x4} : (State.count s x1 x2 x3 x4).lists = s.lists :=
  (State.count_step (Step.refl 4194304 s) (sub_refl _)).lists rfl
@[simp] theorem State.count_nextList (s : State) {x1} {x2} {x3} {x4} : (State.count s x1 x2 x3 x4).nextList = s.nextList :=
  (State.count_step (Step.refl 4194304 s) (sub_refl _)).nextList rfl
@[simp] theorem State.count_jobs (s : State) {x1} {x2} {x3} {x4} : (State.count s x1 x2 x3 x4).jobs = s.jobs :=
  (State.count_step (Step.refl 4194304 s) (sub_refl _)).jobs rfl
@[simp] theorem State.count_frames (s : State) {x1} {x2} {x3} {x4} : (State.count s x1 x2 x3 x4).frames = s.frames :=
  (State.count_step (Step.refl 4194304 s) (sub_refl _)).frames rfl
@[simp] theorem State.count_nextFrame (s : State) {x1} {x2} {x3} {x4} : (State.count s x1 x2 x3 x4).nextFrame = s.nextFrame :=
  (State.count_step (Step.refl 4194304 s) (sub_refl _)).nextFrame rfl
@[simp] theorem State.count_skips (s : State) {x1} {x2} {x3} {x4} : (State.count s x1 x2 x3 x4).skips = s.skips :=
  (State.count_step (Step.refl 4194304 s) (sub_refl _)).skips rfl
@[simp] theorem State.count_setSkips (s : State) {x1} {x2} {x3} {x4} : (State.count s x1 x2 x3 x4).setSkips = s.setSkips :=
  (State.count_step (Step.refl 4194304 s) (sub_refl _)).setSkips rfl
@[simp] theorem State.count_tier1 (s : State) {x1} {x2} {x3} {x4} : (State.count s x1 x2 x3 x4).tier1 = s.tier1 :=
  (State.count_step (Step.refl 4194304 s) (sub_refl _)).tier1 rfl
@[simp] theorem State.count_granules (s : State) {x1} {x2} {x3} {x4} : (State.count s x1 x2 x3 x4).granules = s.granules :=
  (State.count_step (Step.refl 4194304 s) (sub_refl _)).granules rfl
@[simp] theorem State.count_tier1Bad (s : State) {x1} {x2} {x3} {x4} : (State.count s x1 x2 x3 x4).tier1Bad = s.tier1Bad :=
  (State.count_step (Step.refl 4194304 s) (sub_refl _)).tier1Bad rfl
@[simp] theorem State.count_dram (s : State) {x1} {x2} {x3} {x4} : (State.count s x1 x2 x3 x4).dram = s.dram :=
  (State.count_step (Step.refl 4194304 s) (sub_refl _)).dram rfl
@[simp] theorem State.count_can (s : State) {x1} {x2} {x3} {x4} : (State.count s x1 x2 x3 x4).can = s.can :=
  (State.count_step (Step.refl 4194304 s) (sub_refl _)).can rfl
@[simp] theorem State.count_boxA (s : State) {x1} {x2} {x3} {x4} : (State.count s x1 x2 x3 x4).boxA = s.boxA :=
  (State.count_step (Step.refl 4194304 s) (sub_refl _)).boxA rfl
@[simp] theorem State.count_boxB (s : State) {x1} {x2} {x3} {x4} : (State.count s x1 x2 x3 x4).boxB = s.boxB :=
  (State.count_step (Step.refl 4194304 s) (sub_refl _)).boxB rfl
@[simp] theorem State.count_det (s : State) {x1} {x2} {x3} {x4} : (State.count s x1 x2 x3 x4).det = s.det :=
  (State.count_step (Step.refl 4194304 s) (sub_refl _)).det rfl
@[simp] theorem State.count_log (s : State) {x1} {x2} {x3} {x4} : (State.count s x1 x2 x3 x4).log = s.log :=
  (State.count_step (Step.refl 4194304 s) (sub_refl _)).log rfl
@[simp] theorem State.count_logMade (s : State) {x1} {x2} {x3} {x4} : (State.count s x1 x2 x3 x4).logMade = s.logMade :=
  (State.count_step (Step.refl 4194304 s) (sub_refl _)).logMade rfl
@[simp] theorem State.count_faultBuffer (s : State) {x1} {x2} {x3} {x4} : (State.count s x1 x2 x3 x4).faultBuffer = s.faultBuffer :=
  (State.count_step (Step.refl 4194304 s) (sub_refl _)).faultBuffer rfl
@[simp] theorem State.count_absentEmcy (s : State) {x1} {x2} {x3} {x4} : (State.count s x1 x2 x3 x4).absentEmcy = s.absentEmcy :=
  (State.count_step (Step.refl 4194304 s) (sub_refl _)).absentEmcy rfl
@[simp] theorem State.count_replacement (s : State) {x1} {x2} {x3} {x4} : (State.count s x1 x2 x3 x4).replacement = s.replacement :=
  (State.count_step (Step.refl 4194304 s) (sub_refl _)).replacement rfl
@[simp] theorem State.count_suspects (s : State) {x1} {x2} {x3} {x4} : (State.count s x1 x2 x3 x4).suspects = s.suspects :=
  (State.count_step (Step.refl 4194304 s) (sub_refl _)).suspects rfl
@[simp] theorem State.count_leases (s : State) {x1} {x2} {x3} {x4} : (State.count s x1 x2 x3 x4).leases = s.leases :=
  (State.count_step (Step.refl 4194304 s) (sub_refl _)).leases rfl
@[simp] theorem State.count_dma (s : State) {x1} {x2} {x3} {x4} : (State.count s x1 x2 x3 x4).dma = s.dma :=
  (State.count_step (Step.refl 4194304 s) (sub_refl _)).dma rfl
@[simp] theorem State.count_moves (s : State) {x1} {x2} {x3} {x4} : (State.count s x1 x2 x3 x4).moves = s.moves :=
  (State.count_step (Step.refl 4194304 s) (sub_refl _)).moves rfl
@[simp] theorem State.count_injection (s : State) {x1} {x2} {x3} {x4} : (State.count s x1 x2 x3 x4).injection = s.injection :=
  (State.count_step (Step.refl 4194304 s) (sub_refl _)).injection rfl
@[simp] theorem State.count_tiles (s : State) {x1} {x2} {x3} {x4} : (State.count s x1 x2 x3 x4).tiles = s.tiles :=
  (State.count_step (Step.refl 4194304 s) (sub_refl _)).tiles rfl
@[simp] theorem State.count_mesh (s : State) {x1} {x2} {x3} {x4} : (State.count s x1 x2 x3 x4).mesh = s.mesh :=
  (State.count_step (Step.refl 4194304 s) (sub_refl _)).mesh rfl
@[simp] theorem State.count_attach (s : State) {x1} {x2} {x3} {x4} : (State.count s x1 x2 x3 x4).attach = s.attach :=
  (State.count_step (Step.refl 4194304 s) (sub_refl _)).attach rfl
@[simp] theorem State.count_rewardN (s : State) {x1} {x2} {x3} {x4} : (State.count s x1 x2 x3 x4).rewardN = s.rewardN :=
  (State.count_step (Step.refl 4194304 s) (sub_refl _)).rewardN rfl
@[simp] theorem State.count_rewardSent (s : State) {x1} {x2} {x3} {x4} : (State.count s x1 x2 x3 x4).rewardSent = s.rewardSent :=
  (State.count_step (Step.refl 4194304 s) (sub_refl _)).rewardSent rfl
@[simp] theorem State.count_plans (s : State) {x1} {x2} {x3} {x4} : (State.count s x1 x2 x3 x4).plans = s.plans :=
  (State.count_step (Step.refl 4194304 s) (sub_refl _)).plans rfl
@[simp] theorem State.count_segs (s : State) {x1} {x2} {x3} {x4} : (State.count s x1 x2 x3 x4).segs = s.segs :=
  (State.count_step (Step.refl 4194304 s) (sub_refl _)).segs rfl
@[simp] theorem State.count_segCtr (s : State) {x1} {x2} {x3} {x4} : (State.count s x1 x2 x3 x4).segCtr = s.segCtr :=
  (State.count_step (Step.refl 4194304 s) (sub_refl _)).segCtr rfl
@[simp] theorem State.count_conns (s : State) {x1} {x2} {x3} {x4} : (State.count s x1 x2 x3 x4).conns = s.conns :=
  (State.count_step (Step.refl 4194304 s) (sub_refl _)).conns rfl
@[simp] theorem State.count_wrs (s : State) {x1} {x2} {x3} {x4} : (State.count s x1 x2 x3 x4).wrs = s.wrs :=
  (State.count_step (Step.refl 4194304 s) (sub_refl _)).wrs rfl
@[simp] theorem State.count_nextWr (s : State) {x1} {x2} {x3} {x4} : (State.count s x1 x2 x3 x4).nextWr = s.nextWr :=
  (State.count_step (Step.refl 4194304 s) (sub_refl _)).nextWr rfl
@[simp] theorem State.count_ctrs (s : State) {x1} {x2} {x3} {x4} : (State.count s x1 x2 x3 x4).ctrs = s.ctrs :=
  (State.count_step (Step.refl 4194304 s) (sub_refl _)).ctrs rfl
@[simp] theorem State.count_ports (s : State) {x1} {x2} {x3} {x4} : (State.count s x1 x2 x3 x4).ports = s.ports :=
  (State.count_step (Step.refl 4194304 s) (sub_refl _)).ports rfl
@[simp] theorem State.count_buckets (s : State) {x1} {x2} {x3} {x4} : (State.count s x1 x2 x3 x4).buckets = s.buckets :=
  (State.count_step (Step.refl 4194304 s) (sub_refl _)).buckets rfl
@[simp] theorem State.count_nodes (s : State) {x1} {x2} {x3} {x4} : (State.count s x1 x2 x3 x4).nodes = s.nodes :=
  (State.count_step (Step.refl 4194304 s) (sub_refl _)).nodes rfl
@[simp] theorem State.count_power (s : State) {x1} {x2} {x3} {x4} : (State.count s x1 x2 x3 x4).power = s.power :=
  (State.count_step (Step.refl 4194304 s) (sub_refl _)).power rfl
@[simp] theorem State.count_up (s : State) {x1} {x2} {x3} {x4} : (State.count s x1 x2 x3 x4).up = s.up :=
  (State.count_step (Step.refl 4194304 s) (sub_refl _)).up rfl
@[simp] theorem State.count_fuses (s : State) {x1} {x2} {x3} {x4} : (State.count s x1 x2 x3 x4).fuses = s.fuses :=
  (State.count_step (Step.refl 4194304 s) (sub_refl _)).fuses rfl
@[simp] theorem State.count_fw (s : State) {x1} {x2} {x3} {x4} : (State.count s x1 x2 x3 x4).fw = s.fw :=
  (State.count_step (Step.refl 4194304 s) (sub_refl _)).fw rfl
@[simp] theorem State.count_out (s : State) {x1} {x2} {x3} {x4} : (State.count s x1 x2 x3 x4).out = s.out :=
  (State.count_step (Step.refl 4194304 s) (sub_refl _)).out rfl
@[simp] theorem State.count_fresh (s : State) {x1} {x2} {x3} {x4} : (State.count s x1 x2 x3 x4).fresh = s.fresh :=
  (State.count_step (Step.refl 4194304 s) (sub_refl _)).fresh rfl
@[simp] theorem State.count_pending (s : State) {x1} {x2} {x3} {x4} : (State.count s x1 x2 x3 x4).pending = s.pending :=
  (State.count_step (Step.refl 4194304 s) (sub_refl _)).pending rfl

@[simp] theorem State.bump64_now (s : State) {x1} {x2} : (State.bump64 s x1 x2).now = s.now :=
  (State.bump64_step (Step.refl 4194304 s) (sub_refl _)).now rfl
@[simp] theorem State.bump64_wafer (s : State) {x1} {x2} : (State.bump64 s x1 x2).wafer = s.wafer :=
  (State.bump64_step (Step.refl 4194304 s) (sub_refl _)).wafer rfl
@[simp] theorem State.bump64_beat (s : State) {x1} {x2} : (State.bump64 s x1 x2).beat = s.beat :=
  (State.bump64_step (Step.refl 4194304 s) (sub_refl _)).beat rfl
@[simp] theorem State.bump64_sessions (s : State) {x1} {x2} : (State.bump64 s x1 x2).sessions = s.sessions :=
  (State.bump64_step (Step.refl 4194304 s) (sub_refl _)).sessions rfl
@[simp] theorem State.bump64_hostA (s : State) {x1} {x2} : (State.bump64 s x1 x2).hostA = s.hostA :=
  (State.bump64_step (Step.refl 4194304 s) (sub_refl _)).hostA rfl
@[simp] theorem State.bump64_hostB (s : State) {x1} {x2} : (State.bump64 s x1 x2).hostB = s.hostB :=
  (State.bump64_step (Step.refl 4194304 s) (sub_refl _)).hostB rfl
@[simp] theorem State.bump64_sq (s : State) {x1} {x2} : (State.bump64 s x1 x2).sq = s.sq :=
  (State.bump64_step (Step.refl 4194304 s) (sub_refl _)).sq rfl
@[simp] theorem State.bump64_cq (s : State) {x1} {x2} : (State.bump64 s x1 x2).cq = s.cq :=
  (State.bump64_step (Step.refl 4194304 s) (sub_refl _)).cq rfl
@[simp] theorem State.bump64_lastRing (s : State) {x1} {x2} : (State.bump64 s x1 x2).lastRing = s.lastRing :=
  (State.bump64_step (Step.refl 4194304 s) (sub_refl _)).lastRing rfl
@[simp] theorem State.bump64_msix (s : State) {x1} {x2} : (State.bump64 s x1 x2).msix = s.msix :=
  (State.bump64_step (Step.refl 4194304 s) (sub_refl _)).msix rfl
@[simp] theorem State.bump64_pba (s : State) {x1} {x2} : (State.bump64 s x1 x2).pba = s.pba :=
  (State.bump64_step (Step.refl 4194304 s) (sub_refl _)).pba rfl
@[simp] theorem State.bump64_lists (s : State) {x1} {x2} : (State.bump64 s x1 x2).lists = s.lists :=
  (State.bump64_step (Step.refl 4194304 s) (sub_refl _)).lists rfl
@[simp] theorem State.bump64_nextList (s : State) {x1} {x2} : (State.bump64 s x1 x2).nextList = s.nextList :=
  (State.bump64_step (Step.refl 4194304 s) (sub_refl _)).nextList rfl
@[simp] theorem State.bump64_jobs (s : State) {x1} {x2} : (State.bump64 s x1 x2).jobs = s.jobs :=
  (State.bump64_step (Step.refl 4194304 s) (sub_refl _)).jobs rfl
@[simp] theorem State.bump64_frames (s : State) {x1} {x2} : (State.bump64 s x1 x2).frames = s.frames :=
  (State.bump64_step (Step.refl 4194304 s) (sub_refl _)).frames rfl
@[simp] theorem State.bump64_nextFrame (s : State) {x1} {x2} : (State.bump64 s x1 x2).nextFrame = s.nextFrame :=
  (State.bump64_step (Step.refl 4194304 s) (sub_refl _)).nextFrame rfl
@[simp] theorem State.bump64_skips (s : State) {x1} {x2} : (State.bump64 s x1 x2).skips = s.skips :=
  (State.bump64_step (Step.refl 4194304 s) (sub_refl _)).skips rfl
@[simp] theorem State.bump64_setSkips (s : State) {x1} {x2} : (State.bump64 s x1 x2).setSkips = s.setSkips :=
  (State.bump64_step (Step.refl 4194304 s) (sub_refl _)).setSkips rfl
@[simp] theorem State.bump64_tier1 (s : State) {x1} {x2} : (State.bump64 s x1 x2).tier1 = s.tier1 :=
  (State.bump64_step (Step.refl 4194304 s) (sub_refl _)).tier1 rfl
@[simp] theorem State.bump64_granules (s : State) {x1} {x2} : (State.bump64 s x1 x2).granules = s.granules :=
  (State.bump64_step (Step.refl 4194304 s) (sub_refl _)).granules rfl
@[simp] theorem State.bump64_tier1Bad (s : State) {x1} {x2} : (State.bump64 s x1 x2).tier1Bad = s.tier1Bad :=
  (State.bump64_step (Step.refl 4194304 s) (sub_refl _)).tier1Bad rfl
@[simp] theorem State.bump64_dram (s : State) {x1} {x2} : (State.bump64 s x1 x2).dram = s.dram :=
  (State.bump64_step (Step.refl 4194304 s) (sub_refl _)).dram rfl
@[simp] theorem State.bump64_can (s : State) {x1} {x2} : (State.bump64 s x1 x2).can = s.can :=
  (State.bump64_step (Step.refl 4194304 s) (sub_refl _)).can rfl
@[simp] theorem State.bump64_boxA (s : State) {x1} {x2} : (State.bump64 s x1 x2).boxA = s.boxA :=
  (State.bump64_step (Step.refl 4194304 s) (sub_refl _)).boxA rfl
@[simp] theorem State.bump64_boxB (s : State) {x1} {x2} : (State.bump64 s x1 x2).boxB = s.boxB :=
  (State.bump64_step (Step.refl 4194304 s) (sub_refl _)).boxB rfl
@[simp] theorem State.bump64_det (s : State) {x1} {x2} : (State.bump64 s x1 x2).det = s.det :=
  (State.bump64_step (Step.refl 4194304 s) (sub_refl _)).det rfl
@[simp] theorem State.bump64_log (s : State) {x1} {x2} : (State.bump64 s x1 x2).log = s.log :=
  (State.bump64_step (Step.refl 4194304 s) (sub_refl _)).log rfl
@[simp] theorem State.bump64_logMade (s : State) {x1} {x2} : (State.bump64 s x1 x2).logMade = s.logMade :=
  (State.bump64_step (Step.refl 4194304 s) (sub_refl _)).logMade rfl
@[simp] theorem State.bump64_faultBuffer (s : State) {x1} {x2} : (State.bump64 s x1 x2).faultBuffer = s.faultBuffer :=
  (State.bump64_step (Step.refl 4194304 s) (sub_refl _)).faultBuffer rfl
@[simp] theorem State.bump64_absentEmcy (s : State) {x1} {x2} : (State.bump64 s x1 x2).absentEmcy = s.absentEmcy :=
  (State.bump64_step (Step.refl 4194304 s) (sub_refl _)).absentEmcy rfl
@[simp] theorem State.bump64_replacement (s : State) {x1} {x2} : (State.bump64 s x1 x2).replacement = s.replacement :=
  (State.bump64_step (Step.refl 4194304 s) (sub_refl _)).replacement rfl
@[simp] theorem State.bump64_suspects (s : State) {x1} {x2} : (State.bump64 s x1 x2).suspects = s.suspects :=
  (State.bump64_step (Step.refl 4194304 s) (sub_refl _)).suspects rfl
@[simp] theorem State.bump64_leases (s : State) {x1} {x2} : (State.bump64 s x1 x2).leases = s.leases :=
  (State.bump64_step (Step.refl 4194304 s) (sub_refl _)).leases rfl
@[simp] theorem State.bump64_dma (s : State) {x1} {x2} : (State.bump64 s x1 x2).dma = s.dma :=
  (State.bump64_step (Step.refl 4194304 s) (sub_refl _)).dma rfl
@[simp] theorem State.bump64_moves (s : State) {x1} {x2} : (State.bump64 s x1 x2).moves = s.moves :=
  (State.bump64_step (Step.refl 4194304 s) (sub_refl _)).moves rfl
@[simp] theorem State.bump64_injection (s : State) {x1} {x2} : (State.bump64 s x1 x2).injection = s.injection :=
  (State.bump64_step (Step.refl 4194304 s) (sub_refl _)).injection rfl
@[simp] theorem State.bump64_tiles (s : State) {x1} {x2} : (State.bump64 s x1 x2).tiles = s.tiles :=
  (State.bump64_step (Step.refl 4194304 s) (sub_refl _)).tiles rfl
@[simp] theorem State.bump64_mesh (s : State) {x1} {x2} : (State.bump64 s x1 x2).mesh = s.mesh :=
  (State.bump64_step (Step.refl 4194304 s) (sub_refl _)).mesh rfl
@[simp] theorem State.bump64_attach (s : State) {x1} {x2} : (State.bump64 s x1 x2).attach = s.attach :=
  (State.bump64_step (Step.refl 4194304 s) (sub_refl _)).attach rfl
@[simp] theorem State.bump64_rewardN (s : State) {x1} {x2} : (State.bump64 s x1 x2).rewardN = s.rewardN :=
  (State.bump64_step (Step.refl 4194304 s) (sub_refl _)).rewardN rfl
@[simp] theorem State.bump64_rewardSent (s : State) {x1} {x2} : (State.bump64 s x1 x2).rewardSent = s.rewardSent :=
  (State.bump64_step (Step.refl 4194304 s) (sub_refl _)).rewardSent rfl
@[simp] theorem State.bump64_plans (s : State) {x1} {x2} : (State.bump64 s x1 x2).plans = s.plans :=
  (State.bump64_step (Step.refl 4194304 s) (sub_refl _)).plans rfl
@[simp] theorem State.bump64_segs (s : State) {x1} {x2} : (State.bump64 s x1 x2).segs = s.segs :=
  (State.bump64_step (Step.refl 4194304 s) (sub_refl _)).segs rfl
@[simp] theorem State.bump64_segCtr (s : State) {x1} {x2} : (State.bump64 s x1 x2).segCtr = s.segCtr :=
  (State.bump64_step (Step.refl 4194304 s) (sub_refl _)).segCtr rfl
@[simp] theorem State.bump64_conns (s : State) {x1} {x2} : (State.bump64 s x1 x2).conns = s.conns :=
  (State.bump64_step (Step.refl 4194304 s) (sub_refl _)).conns rfl
@[simp] theorem State.bump64_wrs (s : State) {x1} {x2} : (State.bump64 s x1 x2).wrs = s.wrs :=
  (State.bump64_step (Step.refl 4194304 s) (sub_refl _)).wrs rfl
@[simp] theorem State.bump64_nextWr (s : State) {x1} {x2} : (State.bump64 s x1 x2).nextWr = s.nextWr :=
  (State.bump64_step (Step.refl 4194304 s) (sub_refl _)).nextWr rfl
@[simp] theorem State.bump64_ctrs (s : State) {x1} {x2} : (State.bump64 s x1 x2).ctrs = s.ctrs :=
  (State.bump64_step (Step.refl 4194304 s) (sub_refl _)).ctrs rfl
@[simp] theorem State.bump64_ports (s : State) {x1} {x2} : (State.bump64 s x1 x2).ports = s.ports :=
  (State.bump64_step (Step.refl 4194304 s) (sub_refl _)).ports rfl
@[simp] theorem State.bump64_buckets (s : State) {x1} {x2} : (State.bump64 s x1 x2).buckets = s.buckets :=
  (State.bump64_step (Step.refl 4194304 s) (sub_refl _)).buckets rfl
@[simp] theorem State.bump64_nodes (s : State) {x1} {x2} : (State.bump64 s x1 x2).nodes = s.nodes :=
  (State.bump64_step (Step.refl 4194304 s) (sub_refl _)).nodes rfl
@[simp] theorem State.bump64_power (s : State) {x1} {x2} : (State.bump64 s x1 x2).power = s.power :=
  (State.bump64_step (Step.refl 4194304 s) (sub_refl _)).power rfl
@[simp] theorem State.bump64_up (s : State) {x1} {x2} : (State.bump64 s x1 x2).up = s.up :=
  (State.bump64_step (Step.refl 4194304 s) (sub_refl _)).up rfl
@[simp] theorem State.bump64_fuses (s : State) {x1} {x2} : (State.bump64 s x1 x2).fuses = s.fuses :=
  (State.bump64_step (Step.refl 4194304 s) (sub_refl _)).fuses rfl
@[simp] theorem State.bump64_fw (s : State) {x1} {x2} : (State.bump64 s x1 x2).fw = s.fw :=
  (State.bump64_step (Step.refl 4194304 s) (sub_refl _)).fw rfl
@[simp] theorem State.bump64_out (s : State) {x1} {x2} : (State.bump64 s x1 x2).out = s.out :=
  (State.bump64_step (Step.refl 4194304 s) (sub_refl _)).out rfl
@[simp] theorem State.bump64_fresh (s : State) {x1} {x2} : (State.bump64 s x1 x2).fresh = s.fresh :=
  (State.bump64_step (Step.refl 4194304 s) (sub_refl _)).fresh rfl
@[simp] theorem State.bump64_pending (s : State) {x1} {x2} : (State.bump64 s x1 x2).pending = s.pending :=
  (State.bump64_step (Step.refl 4194304 s) (sub_refl _)).pending rfl

@[simp] theorem State.bump32_now (s : State) {x1} {x2} : (State.bump32 s x1 x2).now = s.now :=
  (State.bump32_step (Step.refl 4194304 s) (sub_refl _)).now rfl
@[simp] theorem State.bump32_wafer (s : State) {x1} {x2} : (State.bump32 s x1 x2).wafer = s.wafer :=
  (State.bump32_step (Step.refl 4194304 s) (sub_refl _)).wafer rfl
@[simp] theorem State.bump32_beat (s : State) {x1} {x2} : (State.bump32 s x1 x2).beat = s.beat :=
  (State.bump32_step (Step.refl 4194304 s) (sub_refl _)).beat rfl
@[simp] theorem State.bump32_sessions (s : State) {x1} {x2} : (State.bump32 s x1 x2).sessions = s.sessions :=
  (State.bump32_step (Step.refl 4194304 s) (sub_refl _)).sessions rfl
@[simp] theorem State.bump32_hostA (s : State) {x1} {x2} : (State.bump32 s x1 x2).hostA = s.hostA :=
  (State.bump32_step (Step.refl 4194304 s) (sub_refl _)).hostA rfl
@[simp] theorem State.bump32_hostB (s : State) {x1} {x2} : (State.bump32 s x1 x2).hostB = s.hostB :=
  (State.bump32_step (Step.refl 4194304 s) (sub_refl _)).hostB rfl
@[simp] theorem State.bump32_sq (s : State) {x1} {x2} : (State.bump32 s x1 x2).sq = s.sq :=
  (State.bump32_step (Step.refl 4194304 s) (sub_refl _)).sq rfl
@[simp] theorem State.bump32_cq (s : State) {x1} {x2} : (State.bump32 s x1 x2).cq = s.cq :=
  (State.bump32_step (Step.refl 4194304 s) (sub_refl _)).cq rfl
@[simp] theorem State.bump32_lastRing (s : State) {x1} {x2} : (State.bump32 s x1 x2).lastRing = s.lastRing :=
  (State.bump32_step (Step.refl 4194304 s) (sub_refl _)).lastRing rfl
@[simp] theorem State.bump32_msix (s : State) {x1} {x2} : (State.bump32 s x1 x2).msix = s.msix :=
  (State.bump32_step (Step.refl 4194304 s) (sub_refl _)).msix rfl
@[simp] theorem State.bump32_pba (s : State) {x1} {x2} : (State.bump32 s x1 x2).pba = s.pba :=
  (State.bump32_step (Step.refl 4194304 s) (sub_refl _)).pba rfl
@[simp] theorem State.bump32_lists (s : State) {x1} {x2} : (State.bump32 s x1 x2).lists = s.lists :=
  (State.bump32_step (Step.refl 4194304 s) (sub_refl _)).lists rfl
@[simp] theorem State.bump32_nextList (s : State) {x1} {x2} : (State.bump32 s x1 x2).nextList = s.nextList :=
  (State.bump32_step (Step.refl 4194304 s) (sub_refl _)).nextList rfl
@[simp] theorem State.bump32_jobs (s : State) {x1} {x2} : (State.bump32 s x1 x2).jobs = s.jobs :=
  (State.bump32_step (Step.refl 4194304 s) (sub_refl _)).jobs rfl
@[simp] theorem State.bump32_frames (s : State) {x1} {x2} : (State.bump32 s x1 x2).frames = s.frames :=
  (State.bump32_step (Step.refl 4194304 s) (sub_refl _)).frames rfl
@[simp] theorem State.bump32_nextFrame (s : State) {x1} {x2} : (State.bump32 s x1 x2).nextFrame = s.nextFrame :=
  (State.bump32_step (Step.refl 4194304 s) (sub_refl _)).nextFrame rfl
@[simp] theorem State.bump32_skips (s : State) {x1} {x2} : (State.bump32 s x1 x2).skips = s.skips :=
  (State.bump32_step (Step.refl 4194304 s) (sub_refl _)).skips rfl
@[simp] theorem State.bump32_setSkips (s : State) {x1} {x2} : (State.bump32 s x1 x2).setSkips = s.setSkips :=
  (State.bump32_step (Step.refl 4194304 s) (sub_refl _)).setSkips rfl
@[simp] theorem State.bump32_tier1 (s : State) {x1} {x2} : (State.bump32 s x1 x2).tier1 = s.tier1 :=
  (State.bump32_step (Step.refl 4194304 s) (sub_refl _)).tier1 rfl
@[simp] theorem State.bump32_granules (s : State) {x1} {x2} : (State.bump32 s x1 x2).granules = s.granules :=
  (State.bump32_step (Step.refl 4194304 s) (sub_refl _)).granules rfl
@[simp] theorem State.bump32_tier1Bad (s : State) {x1} {x2} : (State.bump32 s x1 x2).tier1Bad = s.tier1Bad :=
  (State.bump32_step (Step.refl 4194304 s) (sub_refl _)).tier1Bad rfl
@[simp] theorem State.bump32_dram (s : State) {x1} {x2} : (State.bump32 s x1 x2).dram = s.dram :=
  (State.bump32_step (Step.refl 4194304 s) (sub_refl _)).dram rfl
@[simp] theorem State.bump32_can (s : State) {x1} {x2} : (State.bump32 s x1 x2).can = s.can :=
  (State.bump32_step (Step.refl 4194304 s) (sub_refl _)).can rfl
@[simp] theorem State.bump32_boxA (s : State) {x1} {x2} : (State.bump32 s x1 x2).boxA = s.boxA :=
  (State.bump32_step (Step.refl 4194304 s) (sub_refl _)).boxA rfl
@[simp] theorem State.bump32_boxB (s : State) {x1} {x2} : (State.bump32 s x1 x2).boxB = s.boxB :=
  (State.bump32_step (Step.refl 4194304 s) (sub_refl _)).boxB rfl
@[simp] theorem State.bump32_det (s : State) {x1} {x2} : (State.bump32 s x1 x2).det = s.det :=
  (State.bump32_step (Step.refl 4194304 s) (sub_refl _)).det rfl
@[simp] theorem State.bump32_log (s : State) {x1} {x2} : (State.bump32 s x1 x2).log = s.log :=
  (State.bump32_step (Step.refl 4194304 s) (sub_refl _)).log rfl
@[simp] theorem State.bump32_logMade (s : State) {x1} {x2} : (State.bump32 s x1 x2).logMade = s.logMade :=
  (State.bump32_step (Step.refl 4194304 s) (sub_refl _)).logMade rfl
@[simp] theorem State.bump32_faultBuffer (s : State) {x1} {x2} : (State.bump32 s x1 x2).faultBuffer = s.faultBuffer :=
  (State.bump32_step (Step.refl 4194304 s) (sub_refl _)).faultBuffer rfl
@[simp] theorem State.bump32_absentEmcy (s : State) {x1} {x2} : (State.bump32 s x1 x2).absentEmcy = s.absentEmcy :=
  (State.bump32_step (Step.refl 4194304 s) (sub_refl _)).absentEmcy rfl
@[simp] theorem State.bump32_replacement (s : State) {x1} {x2} : (State.bump32 s x1 x2).replacement = s.replacement :=
  (State.bump32_step (Step.refl 4194304 s) (sub_refl _)).replacement rfl
@[simp] theorem State.bump32_suspects (s : State) {x1} {x2} : (State.bump32 s x1 x2).suspects = s.suspects :=
  (State.bump32_step (Step.refl 4194304 s) (sub_refl _)).suspects rfl
@[simp] theorem State.bump32_leases (s : State) {x1} {x2} : (State.bump32 s x1 x2).leases = s.leases :=
  (State.bump32_step (Step.refl 4194304 s) (sub_refl _)).leases rfl
@[simp] theorem State.bump32_dma (s : State) {x1} {x2} : (State.bump32 s x1 x2).dma = s.dma :=
  (State.bump32_step (Step.refl 4194304 s) (sub_refl _)).dma rfl
@[simp] theorem State.bump32_moves (s : State) {x1} {x2} : (State.bump32 s x1 x2).moves = s.moves :=
  (State.bump32_step (Step.refl 4194304 s) (sub_refl _)).moves rfl
@[simp] theorem State.bump32_injection (s : State) {x1} {x2} : (State.bump32 s x1 x2).injection = s.injection :=
  (State.bump32_step (Step.refl 4194304 s) (sub_refl _)).injection rfl
@[simp] theorem State.bump32_tiles (s : State) {x1} {x2} : (State.bump32 s x1 x2).tiles = s.tiles :=
  (State.bump32_step (Step.refl 4194304 s) (sub_refl _)).tiles rfl
@[simp] theorem State.bump32_mesh (s : State) {x1} {x2} : (State.bump32 s x1 x2).mesh = s.mesh :=
  (State.bump32_step (Step.refl 4194304 s) (sub_refl _)).mesh rfl
@[simp] theorem State.bump32_attach (s : State) {x1} {x2} : (State.bump32 s x1 x2).attach = s.attach :=
  (State.bump32_step (Step.refl 4194304 s) (sub_refl _)).attach rfl
@[simp] theorem State.bump32_rewardN (s : State) {x1} {x2} : (State.bump32 s x1 x2).rewardN = s.rewardN :=
  (State.bump32_step (Step.refl 4194304 s) (sub_refl _)).rewardN rfl
@[simp] theorem State.bump32_rewardSent (s : State) {x1} {x2} : (State.bump32 s x1 x2).rewardSent = s.rewardSent :=
  (State.bump32_step (Step.refl 4194304 s) (sub_refl _)).rewardSent rfl
@[simp] theorem State.bump32_plans (s : State) {x1} {x2} : (State.bump32 s x1 x2).plans = s.plans :=
  (State.bump32_step (Step.refl 4194304 s) (sub_refl _)).plans rfl
@[simp] theorem State.bump32_segs (s : State) {x1} {x2} : (State.bump32 s x1 x2).segs = s.segs :=
  (State.bump32_step (Step.refl 4194304 s) (sub_refl _)).segs rfl
@[simp] theorem State.bump32_segCtr (s : State) {x1} {x2} : (State.bump32 s x1 x2).segCtr = s.segCtr :=
  (State.bump32_step (Step.refl 4194304 s) (sub_refl _)).segCtr rfl
@[simp] theorem State.bump32_conns (s : State) {x1} {x2} : (State.bump32 s x1 x2).conns = s.conns :=
  (State.bump32_step (Step.refl 4194304 s) (sub_refl _)).conns rfl
@[simp] theorem State.bump32_wrs (s : State) {x1} {x2} : (State.bump32 s x1 x2).wrs = s.wrs :=
  (State.bump32_step (Step.refl 4194304 s) (sub_refl _)).wrs rfl
@[simp] theorem State.bump32_nextWr (s : State) {x1} {x2} : (State.bump32 s x1 x2).nextWr = s.nextWr :=
  (State.bump32_step (Step.refl 4194304 s) (sub_refl _)).nextWr rfl
@[simp] theorem State.bump32_ctrs (s : State) {x1} {x2} : (State.bump32 s x1 x2).ctrs = s.ctrs :=
  (State.bump32_step (Step.refl 4194304 s) (sub_refl _)).ctrs rfl
@[simp] theorem State.bump32_ports (s : State) {x1} {x2} : (State.bump32 s x1 x2).ports = s.ports :=
  (State.bump32_step (Step.refl 4194304 s) (sub_refl _)).ports rfl
@[simp] theorem State.bump32_buckets (s : State) {x1} {x2} : (State.bump32 s x1 x2).buckets = s.buckets :=
  (State.bump32_step (Step.refl 4194304 s) (sub_refl _)).buckets rfl
@[simp] theorem State.bump32_nodes (s : State) {x1} {x2} : (State.bump32 s x1 x2).nodes = s.nodes :=
  (State.bump32_step (Step.refl 4194304 s) (sub_refl _)).nodes rfl
@[simp] theorem State.bump32_power (s : State) {x1} {x2} : (State.bump32 s x1 x2).power = s.power :=
  (State.bump32_step (Step.refl 4194304 s) (sub_refl _)).power rfl
@[simp] theorem State.bump32_up (s : State) {x1} {x2} : (State.bump32 s x1 x2).up = s.up :=
  (State.bump32_step (Step.refl 4194304 s) (sub_refl _)).up rfl
@[simp] theorem State.bump32_fuses (s : State) {x1} {x2} : (State.bump32 s x1 x2).fuses = s.fuses :=
  (State.bump32_step (Step.refl 4194304 s) (sub_refl _)).fuses rfl
@[simp] theorem State.bump32_fw (s : State) {x1} {x2} : (State.bump32 s x1 x2).fw = s.fw :=
  (State.bump32_step (Step.refl 4194304 s) (sub_refl _)).fw rfl
@[simp] theorem State.bump32_out (s : State) {x1} {x2} : (State.bump32 s x1 x2).out = s.out :=
  (State.bump32_step (Step.refl 4194304 s) (sub_refl _)).out rfl
@[simp] theorem State.bump32_fresh (s : State) {x1} {x2} : (State.bump32 s x1 x2).fresh = s.fresh :=
  (State.bump32_step (Step.refl 4194304 s) (sub_refl _)).fresh rfl
@[simp] theorem State.bump32_pending (s : State) {x1} {x2} : (State.bump32 s x1 x2).pending = s.pending :=
  (State.bump32_step (Step.refl 4194304 s) (sub_refl _)).pending rfl

@[simp] theorem State.putCells_now (s : State) {x1} {x2} : (State.putCells s x1 x2).now = s.now :=
  (State.putCells_step (Step.refl 4194304 s) (sub_refl _)).now rfl
@[simp] theorem State.putCells_wafer (s : State) {x1} {x2} : (State.putCells s x1 x2).wafer = s.wafer :=
  (State.putCells_step (Step.refl 4194304 s) (sub_refl _)).wafer rfl
@[simp] theorem State.putCells_beat (s : State) {x1} {x2} : (State.putCells s x1 x2).beat = s.beat :=
  (State.putCells_step (Step.refl 4194304 s) (sub_refl _)).beat rfl
@[simp] theorem State.putCells_sessions (s : State) {x1} {x2} : (State.putCells s x1 x2).sessions = s.sessions :=
  (State.putCells_step (Step.refl 4194304 s) (sub_refl _)).sessions rfl
@[simp] theorem State.putCells_hostA (s : State) {x1} {x2} : (State.putCells s x1 x2).hostA = s.hostA :=
  (State.putCells_step (Step.refl 4194304 s) (sub_refl _)).hostA rfl
@[simp] theorem State.putCells_hostB (s : State) {x1} {x2} : (State.putCells s x1 x2).hostB = s.hostB :=
  (State.putCells_step (Step.refl 4194304 s) (sub_refl _)).hostB rfl
@[simp] theorem State.putCells_sq (s : State) {x1} {x2} : (State.putCells s x1 x2).sq = s.sq :=
  (State.putCells_step (Step.refl 4194304 s) (sub_refl _)).sq rfl
@[simp] theorem State.putCells_cq (s : State) {x1} {x2} : (State.putCells s x1 x2).cq = s.cq :=
  (State.putCells_step (Step.refl 4194304 s) (sub_refl _)).cq rfl
@[simp] theorem State.putCells_lastRing (s : State) {x1} {x2} : (State.putCells s x1 x2).lastRing = s.lastRing :=
  (State.putCells_step (Step.refl 4194304 s) (sub_refl _)).lastRing rfl
@[simp] theorem State.putCells_msix (s : State) {x1} {x2} : (State.putCells s x1 x2).msix = s.msix :=
  (State.putCells_step (Step.refl 4194304 s) (sub_refl _)).msix rfl
@[simp] theorem State.putCells_pba (s : State) {x1} {x2} : (State.putCells s x1 x2).pba = s.pba :=
  (State.putCells_step (Step.refl 4194304 s) (sub_refl _)).pba rfl
@[simp] theorem State.putCells_lists (s : State) {x1} {x2} : (State.putCells s x1 x2).lists = s.lists :=
  (State.putCells_step (Step.refl 4194304 s) (sub_refl _)).lists rfl
@[simp] theorem State.putCells_nextList (s : State) {x1} {x2} : (State.putCells s x1 x2).nextList = s.nextList :=
  (State.putCells_step (Step.refl 4194304 s) (sub_refl _)).nextList rfl
@[simp] theorem State.putCells_jobs (s : State) {x1} {x2} : (State.putCells s x1 x2).jobs = s.jobs :=
  (State.putCells_step (Step.refl 4194304 s) (sub_refl _)).jobs rfl
@[simp] theorem State.putCells_frames (s : State) {x1} {x2} : (State.putCells s x1 x2).frames = s.frames :=
  (State.putCells_step (Step.refl 4194304 s) (sub_refl _)).frames rfl
@[simp] theorem State.putCells_nextFrame (s : State) {x1} {x2} : (State.putCells s x1 x2).nextFrame = s.nextFrame :=
  (State.putCells_step (Step.refl 4194304 s) (sub_refl _)).nextFrame rfl
@[simp] theorem State.putCells_skips (s : State) {x1} {x2} : (State.putCells s x1 x2).skips = s.skips :=
  (State.putCells_step (Step.refl 4194304 s) (sub_refl _)).skips rfl
@[simp] theorem State.putCells_setSkips (s : State) {x1} {x2} : (State.putCells s x1 x2).setSkips = s.setSkips :=
  (State.putCells_step (Step.refl 4194304 s) (sub_refl _)).setSkips rfl
@[simp] theorem State.putCells_tier1 (s : State) {x1} {x2} : (State.putCells s x1 x2).tier1 = s.tier1 :=
  (State.putCells_step (Step.refl 4194304 s) (sub_refl _)).tier1 rfl
@[simp] theorem State.putCells_granules (s : State) {x1} {x2} : (State.putCells s x1 x2).granules = s.granules :=
  (State.putCells_step (Step.refl 4194304 s) (sub_refl _)).granules rfl
@[simp] theorem State.putCells_tier1Bad (s : State) {x1} {x2} : (State.putCells s x1 x2).tier1Bad = s.tier1Bad :=
  (State.putCells_step (Step.refl 4194304 s) (sub_refl _)).tier1Bad rfl
@[simp] theorem State.putCells_dram (s : State) {x1} {x2} : (State.putCells s x1 x2).dram = s.dram :=
  (State.putCells_step (Step.refl 4194304 s) (sub_refl _)).dram rfl
@[simp] theorem State.putCells_can (s : State) {x1} {x2} : (State.putCells s x1 x2).can = s.can :=
  (State.putCells_step (Step.refl 4194304 s) (sub_refl _)).can rfl
@[simp] theorem State.putCells_boxA (s : State) {x1} {x2} : (State.putCells s x1 x2).boxA = s.boxA :=
  (State.putCells_step (Step.refl 4194304 s) (sub_refl _)).boxA rfl
@[simp] theorem State.putCells_boxB (s : State) {x1} {x2} : (State.putCells s x1 x2).boxB = s.boxB :=
  (State.putCells_step (Step.refl 4194304 s) (sub_refl _)).boxB rfl
@[simp] theorem State.putCells_det (s : State) {x1} {x2} : (State.putCells s x1 x2).det = s.det :=
  (State.putCells_step (Step.refl 4194304 s) (sub_refl _)).det rfl
@[simp] theorem State.putCells_log (s : State) {x1} {x2} : (State.putCells s x1 x2).log = s.log :=
  (State.putCells_step (Step.refl 4194304 s) (sub_refl _)).log rfl
@[simp] theorem State.putCells_logMade (s : State) {x1} {x2} : (State.putCells s x1 x2).logMade = s.logMade :=
  (State.putCells_step (Step.refl 4194304 s) (sub_refl _)).logMade rfl
@[simp] theorem State.putCells_faultBuffer (s : State) {x1} {x2} : (State.putCells s x1 x2).faultBuffer = s.faultBuffer :=
  (State.putCells_step (Step.refl 4194304 s) (sub_refl _)).faultBuffer rfl
@[simp] theorem State.putCells_absentEmcy (s : State) {x1} {x2} : (State.putCells s x1 x2).absentEmcy = s.absentEmcy :=
  (State.putCells_step (Step.refl 4194304 s) (sub_refl _)).absentEmcy rfl
@[simp] theorem State.putCells_replacement (s : State) {x1} {x2} : (State.putCells s x1 x2).replacement = s.replacement :=
  (State.putCells_step (Step.refl 4194304 s) (sub_refl _)).replacement rfl
@[simp] theorem State.putCells_suspects (s : State) {x1} {x2} : (State.putCells s x1 x2).suspects = s.suspects :=
  (State.putCells_step (Step.refl 4194304 s) (sub_refl _)).suspects rfl
@[simp] theorem State.putCells_leases (s : State) {x1} {x2} : (State.putCells s x1 x2).leases = s.leases :=
  (State.putCells_step (Step.refl 4194304 s) (sub_refl _)).leases rfl
@[simp] theorem State.putCells_dma (s : State) {x1} {x2} : (State.putCells s x1 x2).dma = s.dma :=
  (State.putCells_step (Step.refl 4194304 s) (sub_refl _)).dma rfl
@[simp] theorem State.putCells_moves (s : State) {x1} {x2} : (State.putCells s x1 x2).moves = s.moves :=
  (State.putCells_step (Step.refl 4194304 s) (sub_refl _)).moves rfl
@[simp] theorem State.putCells_injection (s : State) {x1} {x2} : (State.putCells s x1 x2).injection = s.injection :=
  (State.putCells_step (Step.refl 4194304 s) (sub_refl _)).injection rfl
@[simp] theorem State.putCells_tiles (s : State) {x1} {x2} : (State.putCells s x1 x2).tiles = s.tiles :=
  (State.putCells_step (Step.refl 4194304 s) (sub_refl _)).tiles rfl
@[simp] theorem State.putCells_mesh (s : State) {x1} {x2} : (State.putCells s x1 x2).mesh = s.mesh :=
  (State.putCells_step (Step.refl 4194304 s) (sub_refl _)).mesh rfl
@[simp] theorem State.putCells_attach (s : State) {x1} {x2} : (State.putCells s x1 x2).attach = s.attach :=
  (State.putCells_step (Step.refl 4194304 s) (sub_refl _)).attach rfl
@[simp] theorem State.putCells_rewardN (s : State) {x1} {x2} : (State.putCells s x1 x2).rewardN = s.rewardN :=
  (State.putCells_step (Step.refl 4194304 s) (sub_refl _)).rewardN rfl
@[simp] theorem State.putCells_rewardSent (s : State) {x1} {x2} : (State.putCells s x1 x2).rewardSent = s.rewardSent :=
  (State.putCells_step (Step.refl 4194304 s) (sub_refl _)).rewardSent rfl
@[simp] theorem State.putCells_plans (s : State) {x1} {x2} : (State.putCells s x1 x2).plans = s.plans :=
  (State.putCells_step (Step.refl 4194304 s) (sub_refl _)).plans rfl
@[simp] theorem State.putCells_segs (s : State) {x1} {x2} : (State.putCells s x1 x2).segs = s.segs :=
  (State.putCells_step (Step.refl 4194304 s) (sub_refl _)).segs rfl
@[simp] theorem State.putCells_segCtr (s : State) {x1} {x2} : (State.putCells s x1 x2).segCtr = s.segCtr :=
  (State.putCells_step (Step.refl 4194304 s) (sub_refl _)).segCtr rfl
@[simp] theorem State.putCells_conns (s : State) {x1} {x2} : (State.putCells s x1 x2).conns = s.conns :=
  (State.putCells_step (Step.refl 4194304 s) (sub_refl _)).conns rfl
@[simp] theorem State.putCells_wrs (s : State) {x1} {x2} : (State.putCells s x1 x2).wrs = s.wrs :=
  (State.putCells_step (Step.refl 4194304 s) (sub_refl _)).wrs rfl
@[simp] theorem State.putCells_nextWr (s : State) {x1} {x2} : (State.putCells s x1 x2).nextWr = s.nextWr :=
  (State.putCells_step (Step.refl 4194304 s) (sub_refl _)).nextWr rfl
@[simp] theorem State.putCells_ctrs (s : State) {x1} {x2} : (State.putCells s x1 x2).ctrs = s.ctrs :=
  (State.putCells_step (Step.refl 4194304 s) (sub_refl _)).ctrs rfl
@[simp] theorem State.putCells_ports (s : State) {x1} {x2} : (State.putCells s x1 x2).ports = s.ports :=
  (State.putCells_step (Step.refl 4194304 s) (sub_refl _)).ports rfl
@[simp] theorem State.putCells_buckets (s : State) {x1} {x2} : (State.putCells s x1 x2).buckets = s.buckets :=
  (State.putCells_step (Step.refl 4194304 s) (sub_refl _)).buckets rfl
@[simp] theorem State.putCells_nodes (s : State) {x1} {x2} : (State.putCells s x1 x2).nodes = s.nodes :=
  (State.putCells_step (Step.refl 4194304 s) (sub_refl _)).nodes rfl
@[simp] theorem State.putCells_power (s : State) {x1} {x2} : (State.putCells s x1 x2).power = s.power :=
  (State.putCells_step (Step.refl 4194304 s) (sub_refl _)).power rfl
@[simp] theorem State.putCells_up (s : State) {x1} {x2} : (State.putCells s x1 x2).up = s.up :=
  (State.putCells_step (Step.refl 4194304 s) (sub_refl _)).up rfl
@[simp] theorem State.putCells_fuses (s : State) {x1} {x2} : (State.putCells s x1 x2).fuses = s.fuses :=
  (State.putCells_step (Step.refl 4194304 s) (sub_refl _)).fuses rfl
@[simp] theorem State.putCells_fw (s : State) {x1} {x2} : (State.putCells s x1 x2).fw = s.fw :=
  (State.putCells_step (Step.refl 4194304 s) (sub_refl _)).fw rfl
@[simp] theorem State.putCells_out (s : State) {x1} {x2} : (State.putCells s x1 x2).out = s.out :=
  (State.putCells_step (Step.refl 4194304 s) (sub_refl _)).out rfl
@[simp] theorem State.putCells_fresh (s : State) {x1} {x2} : (State.putCells s x1 x2).fresh = s.fresh :=
  (State.putCells_step (Step.refl 4194304 s) (sub_refl _)).fresh rfl
@[simp] theorem State.putCells_pending (s : State) {x1} {x2} : (State.putCells s x1 x2).pending = s.pending :=
  (State.putCells_step (Step.refl 4194304 s) (sub_refl _)).pending rfl

@[simp] theorem State.aborted_now (s : State) {x1} {x2} {x3} {x4} : (State.aborted s x1 x2 x3 x4).now = s.now :=
  (State.aborted_step (Step.refl 4194304 s) (sub_refl _)).now rfl
@[simp] theorem State.aborted_wafer (s : State) {x1} {x2} {x3} {x4} : (State.aborted s x1 x2 x3 x4).wafer = s.wafer :=
  (State.aborted_step (Step.refl 4194304 s) (sub_refl _)).wafer rfl
@[simp] theorem State.aborted_beat (s : State) {x1} {x2} {x3} {x4} : (State.aborted s x1 x2 x3 x4).beat = s.beat :=
  (State.aborted_step (Step.refl 4194304 s) (sub_refl _)).beat rfl
@[simp] theorem State.aborted_sessions (s : State) {x1} {x2} {x3} {x4} : (State.aborted s x1 x2 x3 x4).sessions = s.sessions :=
  (State.aborted_step (Step.refl 4194304 s) (sub_refl _)).sessions rfl
@[simp] theorem State.aborted_hostA (s : State) {x1} {x2} {x3} {x4} : (State.aborted s x1 x2 x3 x4).hostA = s.hostA :=
  (State.aborted_step (Step.refl 4194304 s) (sub_refl _)).hostA rfl
@[simp] theorem State.aborted_hostB (s : State) {x1} {x2} {x3} {x4} : (State.aborted s x1 x2 x3 x4).hostB = s.hostB :=
  (State.aborted_step (Step.refl 4194304 s) (sub_refl _)).hostB rfl
@[simp] theorem State.aborted_sq (s : State) {x1} {x2} {x3} {x4} : (State.aborted s x1 x2 x3 x4).sq = s.sq :=
  (State.aborted_step (Step.refl 4194304 s) (sub_refl _)).sq rfl
@[simp] theorem State.aborted_cq (s : State) {x1} {x2} {x3} {x4} : (State.aborted s x1 x2 x3 x4).cq = s.cq :=
  (State.aborted_step (Step.refl 4194304 s) (sub_refl _)).cq rfl
@[simp] theorem State.aborted_lastRing (s : State) {x1} {x2} {x3} {x4} : (State.aborted s x1 x2 x3 x4).lastRing = s.lastRing :=
  (State.aborted_step (Step.refl 4194304 s) (sub_refl _)).lastRing rfl
@[simp] theorem State.aborted_msix (s : State) {x1} {x2} {x3} {x4} : (State.aborted s x1 x2 x3 x4).msix = s.msix :=
  (State.aborted_step (Step.refl 4194304 s) (sub_refl _)).msix rfl
@[simp] theorem State.aborted_pba (s : State) {x1} {x2} {x3} {x4} : (State.aborted s x1 x2 x3 x4).pba = s.pba :=
  (State.aborted_step (Step.refl 4194304 s) (sub_refl _)).pba rfl
@[simp] theorem State.aborted_lists (s : State) {x1} {x2} {x3} {x4} : (State.aborted s x1 x2 x3 x4).lists = s.lists :=
  (State.aborted_step (Step.refl 4194304 s) (sub_refl _)).lists rfl
@[simp] theorem State.aborted_nextList (s : State) {x1} {x2} {x3} {x4} : (State.aborted s x1 x2 x3 x4).nextList = s.nextList :=
  (State.aborted_step (Step.refl 4194304 s) (sub_refl _)).nextList rfl
@[simp] theorem State.aborted_jobs (s : State) {x1} {x2} {x3} {x4} : (State.aborted s x1 x2 x3 x4).jobs = s.jobs :=
  (State.aborted_step (Step.refl 4194304 s) (sub_refl _)).jobs rfl
@[simp] theorem State.aborted_frames (s : State) {x1} {x2} {x3} {x4} : (State.aborted s x1 x2 x3 x4).frames = s.frames :=
  (State.aborted_step (Step.refl 4194304 s) (sub_refl _)).frames rfl
@[simp] theorem State.aborted_nextFrame (s : State) {x1} {x2} {x3} {x4} : (State.aborted s x1 x2 x3 x4).nextFrame = s.nextFrame :=
  (State.aborted_step (Step.refl 4194304 s) (sub_refl _)).nextFrame rfl
@[simp] theorem State.aborted_skips (s : State) {x1} {x2} {x3} {x4} : (State.aborted s x1 x2 x3 x4).skips = s.skips :=
  (State.aborted_step (Step.refl 4194304 s) (sub_refl _)).skips rfl
@[simp] theorem State.aborted_setSkips (s : State) {x1} {x2} {x3} {x4} : (State.aborted s x1 x2 x3 x4).setSkips = s.setSkips :=
  (State.aborted_step (Step.refl 4194304 s) (sub_refl _)).setSkips rfl
@[simp] theorem State.aborted_tier1 (s : State) {x1} {x2} {x3} {x4} : (State.aborted s x1 x2 x3 x4).tier1 = s.tier1 :=
  (State.aborted_step (Step.refl 4194304 s) (sub_refl _)).tier1 rfl
@[simp] theorem State.aborted_granules (s : State) {x1} {x2} {x3} {x4} : (State.aborted s x1 x2 x3 x4).granules = s.granules :=
  (State.aborted_step (Step.refl 4194304 s) (sub_refl _)).granules rfl
@[simp] theorem State.aborted_tier1Bad (s : State) {x1} {x2} {x3} {x4} : (State.aborted s x1 x2 x3 x4).tier1Bad = s.tier1Bad :=
  (State.aborted_step (Step.refl 4194304 s) (sub_refl _)).tier1Bad rfl
@[simp] theorem State.aborted_dram (s : State) {x1} {x2} {x3} {x4} : (State.aborted s x1 x2 x3 x4).dram = s.dram :=
  (State.aborted_step (Step.refl 4194304 s) (sub_refl _)).dram rfl
@[simp] theorem State.aborted_can (s : State) {x1} {x2} {x3} {x4} : (State.aborted s x1 x2 x3 x4).can = s.can :=
  (State.aborted_step (Step.refl 4194304 s) (sub_refl _)).can rfl
@[simp] theorem State.aborted_boxA (s : State) {x1} {x2} {x3} {x4} : (State.aborted s x1 x2 x3 x4).boxA = s.boxA :=
  (State.aborted_step (Step.refl 4194304 s) (sub_refl _)).boxA rfl
@[simp] theorem State.aborted_boxB (s : State) {x1} {x2} {x3} {x4} : (State.aborted s x1 x2 x3 x4).boxB = s.boxB :=
  (State.aborted_step (Step.refl 4194304 s) (sub_refl _)).boxB rfl
@[simp] theorem State.aborted_det (s : State) {x1} {x2} {x3} {x4} : (State.aborted s x1 x2 x3 x4).det = s.det :=
  (State.aborted_step (Step.refl 4194304 s) (sub_refl _)).det rfl
@[simp] theorem State.aborted_log (s : State) {x1} {x2} {x3} {x4} : (State.aborted s x1 x2 x3 x4).log = s.log :=
  (State.aborted_step (Step.refl 4194304 s) (sub_refl _)).log rfl
@[simp] theorem State.aborted_logMade (s : State) {x1} {x2} {x3} {x4} : (State.aborted s x1 x2 x3 x4).logMade = s.logMade :=
  (State.aborted_step (Step.refl 4194304 s) (sub_refl _)).logMade rfl
@[simp] theorem State.aborted_faultBuffer (s : State) {x1} {x2} {x3} {x4} : (State.aborted s x1 x2 x3 x4).faultBuffer = s.faultBuffer :=
  (State.aborted_step (Step.refl 4194304 s) (sub_refl _)).faultBuffer rfl
@[simp] theorem State.aborted_absentEmcy (s : State) {x1} {x2} {x3} {x4} : (State.aborted s x1 x2 x3 x4).absentEmcy = s.absentEmcy :=
  (State.aborted_step (Step.refl 4194304 s) (sub_refl _)).absentEmcy rfl
@[simp] theorem State.aborted_replacement (s : State) {x1} {x2} {x3} {x4} : (State.aborted s x1 x2 x3 x4).replacement = s.replacement :=
  (State.aborted_step (Step.refl 4194304 s) (sub_refl _)).replacement rfl
@[simp] theorem State.aborted_suspects (s : State) {x1} {x2} {x3} {x4} : (State.aborted s x1 x2 x3 x4).suspects = s.suspects :=
  (State.aborted_step (Step.refl 4194304 s) (sub_refl _)).suspects rfl
@[simp] theorem State.aborted_leases (s : State) {x1} {x2} {x3} {x4} : (State.aborted s x1 x2 x3 x4).leases = s.leases :=
  (State.aborted_step (Step.refl 4194304 s) (sub_refl _)).leases rfl
@[simp] theorem State.aborted_dma (s : State) {x1} {x2} {x3} {x4} : (State.aborted s x1 x2 x3 x4).dma = s.dma :=
  (State.aborted_step (Step.refl 4194304 s) (sub_refl _)).dma rfl
@[simp] theorem State.aborted_moves (s : State) {x1} {x2} {x3} {x4} : (State.aborted s x1 x2 x3 x4).moves = s.moves :=
  (State.aborted_step (Step.refl 4194304 s) (sub_refl _)).moves rfl
@[simp] theorem State.aborted_injection (s : State) {x1} {x2} {x3} {x4} : (State.aborted s x1 x2 x3 x4).injection = s.injection :=
  (State.aborted_step (Step.refl 4194304 s) (sub_refl _)).injection rfl
@[simp] theorem State.aborted_tiles (s : State) {x1} {x2} {x3} {x4} : (State.aborted s x1 x2 x3 x4).tiles = s.tiles :=
  (State.aborted_step (Step.refl 4194304 s) (sub_refl _)).tiles rfl
@[simp] theorem State.aborted_mesh (s : State) {x1} {x2} {x3} {x4} : (State.aborted s x1 x2 x3 x4).mesh = s.mesh :=
  (State.aborted_step (Step.refl 4194304 s) (sub_refl _)).mesh rfl
@[simp] theorem State.aborted_attach (s : State) {x1} {x2} {x3} {x4} : (State.aborted s x1 x2 x3 x4).attach = s.attach :=
  (State.aborted_step (Step.refl 4194304 s) (sub_refl _)).attach rfl
@[simp] theorem State.aborted_rewardN (s : State) {x1} {x2} {x3} {x4} : (State.aborted s x1 x2 x3 x4).rewardN = s.rewardN :=
  (State.aborted_step (Step.refl 4194304 s) (sub_refl _)).rewardN rfl
@[simp] theorem State.aborted_rewardSent (s : State) {x1} {x2} {x3} {x4} : (State.aborted s x1 x2 x3 x4).rewardSent = s.rewardSent :=
  (State.aborted_step (Step.refl 4194304 s) (sub_refl _)).rewardSent rfl
@[simp] theorem State.aborted_plans (s : State) {x1} {x2} {x3} {x4} : (State.aborted s x1 x2 x3 x4).plans = s.plans :=
  (State.aborted_step (Step.refl 4194304 s) (sub_refl _)).plans rfl
@[simp] theorem State.aborted_segs (s : State) {x1} {x2} {x3} {x4} : (State.aborted s x1 x2 x3 x4).segs = s.segs :=
  (State.aborted_step (Step.refl 4194304 s) (sub_refl _)).segs rfl
@[simp] theorem State.aborted_segCtr (s : State) {x1} {x2} {x3} {x4} : (State.aborted s x1 x2 x3 x4).segCtr = s.segCtr :=
  (State.aborted_step (Step.refl 4194304 s) (sub_refl _)).segCtr rfl
@[simp] theorem State.aborted_conns (s : State) {x1} {x2} {x3} {x4} : (State.aborted s x1 x2 x3 x4).conns = s.conns :=
  (State.aborted_step (Step.refl 4194304 s) (sub_refl _)).conns rfl
@[simp] theorem State.aborted_wrs (s : State) {x1} {x2} {x3} {x4} : (State.aborted s x1 x2 x3 x4).wrs = s.wrs :=
  (State.aborted_step (Step.refl 4194304 s) (sub_refl _)).wrs rfl
@[simp] theorem State.aborted_nextWr (s : State) {x1} {x2} {x3} {x4} : (State.aborted s x1 x2 x3 x4).nextWr = s.nextWr :=
  (State.aborted_step (Step.refl 4194304 s) (sub_refl _)).nextWr rfl
@[simp] theorem State.aborted_ctrs (s : State) {x1} {x2} {x3} {x4} : (State.aborted s x1 x2 x3 x4).ctrs = s.ctrs :=
  (State.aborted_step (Step.refl 4194304 s) (sub_refl _)).ctrs rfl
@[simp] theorem State.aborted_ports (s : State) {x1} {x2} {x3} {x4} : (State.aborted s x1 x2 x3 x4).ports = s.ports :=
  (State.aborted_step (Step.refl 4194304 s) (sub_refl _)).ports rfl
@[simp] theorem State.aborted_buckets (s : State) {x1} {x2} {x3} {x4} : (State.aborted s x1 x2 x3 x4).buckets = s.buckets :=
  (State.aborted_step (Step.refl 4194304 s) (sub_refl _)).buckets rfl
@[simp] theorem State.aborted_nodes (s : State) {x1} {x2} {x3} {x4} : (State.aborted s x1 x2 x3 x4).nodes = s.nodes :=
  (State.aborted_step (Step.refl 4194304 s) (sub_refl _)).nodes rfl
@[simp] theorem State.aborted_power (s : State) {x1} {x2} {x3} {x4} : (State.aborted s x1 x2 x3 x4).power = s.power :=
  (State.aborted_step (Step.refl 4194304 s) (sub_refl _)).power rfl
@[simp] theorem State.aborted_up (s : State) {x1} {x2} {x3} {x4} : (State.aborted s x1 x2 x3 x4).up = s.up :=
  (State.aborted_step (Step.refl 4194304 s) (sub_refl _)).up rfl
@[simp] theorem State.aborted_fuses (s : State) {x1} {x2} {x3} {x4} : (State.aborted s x1 x2 x3 x4).fuses = s.fuses :=
  (State.aborted_step (Step.refl 4194304 s) (sub_refl _)).fuses rfl
@[simp] theorem State.aborted_fw (s : State) {x1} {x2} {x3} {x4} : (State.aborted s x1 x2 x3 x4).fw = s.fw :=
  (State.aborted_step (Step.refl 4194304 s) (sub_refl _)).fw rfl
@[simp] theorem State.aborted_out (s : State) {x1} {x2} {x3} {x4} : (State.aborted s x1 x2 x3 x4).out = s.out :=
  (State.aborted_step (Step.refl 4194304 s) (sub_refl _)).out rfl
@[simp] theorem State.aborted_fresh (s : State) {x1} {x2} {x3} {x4} : (State.aborted s x1 x2 x3 x4).fresh = s.fresh :=
  (State.aborted_step (Step.refl 4194304 s) (sub_refl _)).fresh rfl
@[simp] theorem State.aborted_pending (s : State) {x1} {x2} {x3} {x4} : (State.aborted s x1 x2 x3 x4).pending = s.pending :=
  (State.aborted_step (Step.refl 4194304 s) (sub_refl _)).pending rfl

@[simp] theorem State.fire_now (s : State) {x1} {x2} {x3} : (State.fire s x1 x2 x3).now = s.now :=
  (State.fire_step (Step.refl 1006632960 s) (sub_refl _)).now rfl
@[simp] theorem State.fire_wafer (s : State) {x1} {x2} {x3} : (State.fire s x1 x2 x3).wafer = s.wafer :=
  (State.fire_step (Step.refl 1006632960 s) (sub_refl _)).wafer rfl
@[simp] theorem State.fire_beat (s : State) {x1} {x2} {x3} : (State.fire s x1 x2 x3).beat = s.beat :=
  (State.fire_step (Step.refl 1006632960 s) (sub_refl _)).beat rfl
@[simp] theorem State.fire_sessions (s : State) {x1} {x2} {x3} : (State.fire s x1 x2 x3).sessions = s.sessions :=
  (State.fire_step (Step.refl 1006632960 s) (sub_refl _)).sessions rfl
@[simp] theorem State.fire_hostA (s : State) {x1} {x2} {x3} : (State.fire s x1 x2 x3).hostA = s.hostA :=
  (State.fire_step (Step.refl 1006632960 s) (sub_refl _)).hostA rfl
@[simp] theorem State.fire_hostB (s : State) {x1} {x2} {x3} : (State.fire s x1 x2 x3).hostB = s.hostB :=
  (State.fire_step (Step.refl 1006632960 s) (sub_refl _)).hostB rfl
@[simp] theorem State.fire_sq (s : State) {x1} {x2} {x3} : (State.fire s x1 x2 x3).sq = s.sq :=
  (State.fire_step (Step.refl 1006632960 s) (sub_refl _)).sq rfl
@[simp] theorem State.fire_cq (s : State) {x1} {x2} {x3} : (State.fire s x1 x2 x3).cq = s.cq :=
  (State.fire_step (Step.refl 1006632960 s) (sub_refl _)).cq rfl
@[simp] theorem State.fire_lastRing (s : State) {x1} {x2} {x3} : (State.fire s x1 x2 x3).lastRing = s.lastRing :=
  (State.fire_step (Step.refl 1006632960 s) (sub_refl _)).lastRing rfl
@[simp] theorem State.fire_msix (s : State) {x1} {x2} {x3} : (State.fire s x1 x2 x3).msix = s.msix :=
  (State.fire_step (Step.refl 1006632960 s) (sub_refl _)).msix rfl
@[simp] theorem State.fire_pba (s : State) {x1} {x2} {x3} : (State.fire s x1 x2 x3).pba = s.pba :=
  (State.fire_step (Step.refl 1006632960 s) (sub_refl _)).pba rfl
@[simp] theorem State.fire_lists (s : State) {x1} {x2} {x3} : (State.fire s x1 x2 x3).lists = s.lists :=
  (State.fire_step (Step.refl 1006632960 s) (sub_refl _)).lists rfl
@[simp] theorem State.fire_nextList (s : State) {x1} {x2} {x3} : (State.fire s x1 x2 x3).nextList = s.nextList :=
  (State.fire_step (Step.refl 1006632960 s) (sub_refl _)).nextList rfl
@[simp] theorem State.fire_jobs (s : State) {x1} {x2} {x3} : (State.fire s x1 x2 x3).jobs = s.jobs :=
  (State.fire_step (Step.refl 1006632960 s) (sub_refl _)).jobs rfl
@[simp] theorem State.fire_frames (s : State) {x1} {x2} {x3} : (State.fire s x1 x2 x3).frames = s.frames :=
  (State.fire_step (Step.refl 1006632960 s) (sub_refl _)).frames rfl
@[simp] theorem State.fire_nextFrame (s : State) {x1} {x2} {x3} : (State.fire s x1 x2 x3).nextFrame = s.nextFrame :=
  (State.fire_step (Step.refl 1006632960 s) (sub_refl _)).nextFrame rfl
@[simp] theorem State.fire_skips (s : State) {x1} {x2} {x3} : (State.fire s x1 x2 x3).skips = s.skips :=
  (State.fire_step (Step.refl 1006632960 s) (sub_refl _)).skips rfl
@[simp] theorem State.fire_setSkips (s : State) {x1} {x2} {x3} : (State.fire s x1 x2 x3).setSkips = s.setSkips :=
  (State.fire_step (Step.refl 1006632960 s) (sub_refl _)).setSkips rfl
@[simp] theorem State.fire_tier1 (s : State) {x1} {x2} {x3} : (State.fire s x1 x2 x3).tier1 = s.tier1 :=
  (State.fire_step (Step.refl 1006632960 s) (sub_refl _)).tier1 rfl
@[simp] theorem State.fire_granules (s : State) {x1} {x2} {x3} : (State.fire s x1 x2 x3).granules = s.granules :=
  (State.fire_step (Step.refl 1006632960 s) (sub_refl _)).granules rfl
@[simp] theorem State.fire_tier1Bad (s : State) {x1} {x2} {x3} : (State.fire s x1 x2 x3).tier1Bad = s.tier1Bad :=
  (State.fire_step (Step.refl 1006632960 s) (sub_refl _)).tier1Bad rfl
@[simp] theorem State.fire_dram (s : State) {x1} {x2} {x3} : (State.fire s x1 x2 x3).dram = s.dram :=
  (State.fire_step (Step.refl 1006632960 s) (sub_refl _)).dram rfl
@[simp] theorem State.fire_od (s : State) {x1} {x2} {x3} : (State.fire s x1 x2 x3).od = s.od :=
  (State.fire_step (Step.refl 1006632960 s) (sub_refl _)).od rfl
@[simp] theorem State.fire_can (s : State) {x1} {x2} {x3} : (State.fire s x1 x2 x3).can = s.can :=
  (State.fire_step (Step.refl 1006632960 s) (sub_refl _)).can rfl
@[simp] theorem State.fire_boxA (s : State) {x1} {x2} {x3} : (State.fire s x1 x2 x3).boxA = s.boxA :=
  (State.fire_step (Step.refl 1006632960 s) (sub_refl _)).boxA rfl
@[simp] theorem State.fire_boxB (s : State) {x1} {x2} {x3} : (State.fire s x1 x2 x3).boxB = s.boxB :=
  (State.fire_step (Step.refl 1006632960 s) (sub_refl _)).boxB rfl
@[simp] theorem State.fire_absentEmcy (s : State) {x1} {x2} {x3} : (State.fire s x1 x2 x3).absentEmcy = s.absentEmcy :=
  (State.fire_step (Step.refl 1006632960 s) (sub_refl _)).absentEmcy rfl
@[simp] theorem State.fire_replacement (s : State) {x1} {x2} {x3} : (State.fire s x1 x2 x3).replacement = s.replacement :=
  (State.fire_step (Step.refl 1006632960 s) (sub_refl _)).replacement rfl
@[simp] theorem State.fire_suspects (s : State) {x1} {x2} {x3} : (State.fire s x1 x2 x3).suspects = s.suspects :=
  (State.fire_step (Step.refl 1006632960 s) (sub_refl _)).suspects rfl
@[simp] theorem State.fire_leases (s : State) {x1} {x2} {x3} : (State.fire s x1 x2 x3).leases = s.leases :=
  (State.fire_step (Step.refl 1006632960 s) (sub_refl _)).leases rfl
@[simp] theorem State.fire_dma (s : State) {x1} {x2} {x3} : (State.fire s x1 x2 x3).dma = s.dma :=
  (State.fire_step (Step.refl 1006632960 s) (sub_refl _)).dma rfl
@[simp] theorem State.fire_moves (s : State) {x1} {x2} {x3} : (State.fire s x1 x2 x3).moves = s.moves :=
  (State.fire_step (Step.refl 1006632960 s) (sub_refl _)).moves rfl
@[simp] theorem State.fire_injection (s : State) {x1} {x2} {x3} : (State.fire s x1 x2 x3).injection = s.injection :=
  (State.fire_step (Step.refl 1006632960 s) (sub_refl _)).injection rfl
@[simp] theorem State.fire_tiles (s : State) {x1} {x2} {x3} : (State.fire s x1 x2 x3).tiles = s.tiles :=
  (State.fire_step (Step.refl 1006632960 s) (sub_refl _)).tiles rfl
@[simp] theorem State.fire_mesh (s : State) {x1} {x2} {x3} : (State.fire s x1 x2 x3).mesh = s.mesh :=
  (State.fire_step (Step.refl 1006632960 s) (sub_refl _)).mesh rfl
@[simp] theorem State.fire_attach (s : State) {x1} {x2} {x3} : (State.fire s x1 x2 x3).attach = s.attach :=
  (State.fire_step (Step.refl 1006632960 s) (sub_refl _)).attach rfl
@[simp] theorem State.fire_rewardN (s : State) {x1} {x2} {x3} : (State.fire s x1 x2 x3).rewardN = s.rewardN :=
  (State.fire_step (Step.refl 1006632960 s) (sub_refl _)).rewardN rfl
@[simp] theorem State.fire_rewardSent (s : State) {x1} {x2} {x3} : (State.fire s x1 x2 x3).rewardSent = s.rewardSent :=
  (State.fire_step (Step.refl 1006632960 s) (sub_refl _)).rewardSent rfl
@[simp] theorem State.fire_plans (s : State) {x1} {x2} {x3} : (State.fire s x1 x2 x3).plans = s.plans :=
  (State.fire_step (Step.refl 1006632960 s) (sub_refl _)).plans rfl
@[simp] theorem State.fire_segs (s : State) {x1} {x2} {x3} : (State.fire s x1 x2 x3).segs = s.segs :=
  (State.fire_step (Step.refl 1006632960 s) (sub_refl _)).segs rfl
@[simp] theorem State.fire_segCtr (s : State) {x1} {x2} {x3} : (State.fire s x1 x2 x3).segCtr = s.segCtr :=
  (State.fire_step (Step.refl 1006632960 s) (sub_refl _)).segCtr rfl
@[simp] theorem State.fire_conns (s : State) {x1} {x2} {x3} : (State.fire s x1 x2 x3).conns = s.conns :=
  (State.fire_step (Step.refl 1006632960 s) (sub_refl _)).conns rfl
@[simp] theorem State.fire_wrs (s : State) {x1} {x2} {x3} : (State.fire s x1 x2 x3).wrs = s.wrs :=
  (State.fire_step (Step.refl 1006632960 s) (sub_refl _)).wrs rfl
@[simp] theorem State.fire_nextWr (s : State) {x1} {x2} {x3} : (State.fire s x1 x2 x3).nextWr = s.nextWr :=
  (State.fire_step (Step.refl 1006632960 s) (sub_refl _)).nextWr rfl
@[simp] theorem State.fire_ctrs (s : State) {x1} {x2} {x3} : (State.fire s x1 x2 x3).ctrs = s.ctrs :=
  (State.fire_step (Step.refl 1006632960 s) (sub_refl _)).ctrs rfl
@[simp] theorem State.fire_ports (s : State) {x1} {x2} {x3} : (State.fire s x1 x2 x3).ports = s.ports :=
  (State.fire_step (Step.refl 1006632960 s) (sub_refl _)).ports rfl
@[simp] theorem State.fire_buckets (s : State) {x1} {x2} {x3} : (State.fire s x1 x2 x3).buckets = s.buckets :=
  (State.fire_step (Step.refl 1006632960 s) (sub_refl _)).buckets rfl
@[simp] theorem State.fire_nodes (s : State) {x1} {x2} {x3} : (State.fire s x1 x2 x3).nodes = s.nodes :=
  (State.fire_step (Step.refl 1006632960 s) (sub_refl _)).nodes rfl
@[simp] theorem State.fire_power (s : State) {x1} {x2} {x3} : (State.fire s x1 x2 x3).power = s.power :=
  (State.fire_step (Step.refl 1006632960 s) (sub_refl _)).power rfl
@[simp] theorem State.fire_up (s : State) {x1} {x2} {x3} : (State.fire s x1 x2 x3).up = s.up :=
  (State.fire_step (Step.refl 1006632960 s) (sub_refl _)).up rfl
@[simp] theorem State.fire_fuses (s : State) {x1} {x2} {x3} : (State.fire s x1 x2 x3).fuses = s.fuses :=
  (State.fire_step (Step.refl 1006632960 s) (sub_refl _)).fuses rfl
@[simp] theorem State.fire_fw (s : State) {x1} {x2} {x3} : (State.fire s x1 x2 x3).fw = s.fw :=
  (State.fire_step (Step.refl 1006632960 s) (sub_refl _)).fw rfl
@[simp] theorem State.fire_out (s : State) {x1} {x2} {x3} : (State.fire s x1 x2 x3).out = s.out :=
  (State.fire_step (Step.refl 1006632960 s) (sub_refl _)).out rfl
@[simp] theorem State.fire_fresh (s : State) {x1} {x2} {x3} : (State.fire s x1 x2 x3).fresh = s.fresh :=
  (State.fire_step (Step.refl 1006632960 s) (sub_refl _)).fresh rfl
@[simp] theorem State.fire_pending (s : State) {x1} {x2} {x3} : (State.fire s x1 x2 x3).pending = s.pending :=
  (State.fire_step (Step.refl 1006632960 s) (sub_refl _)).pending rfl

@[simp] theorem State.fireFull_now (s : State) {x1} {x2} {x3} {x4} {x5} : (State.fireFull s x1 x2 x3 x4 x5).now = s.now :=
  (State.fireFull_step (Step.refl 1006632960 s) (sub_refl _)).now rfl
@[simp] theorem State.fireFull_wafer (s : State) {x1} {x2} {x3} {x4} {x5} : (State.fireFull s x1 x2 x3 x4 x5).wafer = s.wafer :=
  (State.fireFull_step (Step.refl 1006632960 s) (sub_refl _)).wafer rfl
@[simp] theorem State.fireFull_beat (s : State) {x1} {x2} {x3} {x4} {x5} : (State.fireFull s x1 x2 x3 x4 x5).beat = s.beat :=
  (State.fireFull_step (Step.refl 1006632960 s) (sub_refl _)).beat rfl
@[simp] theorem State.fireFull_sessions (s : State) {x1} {x2} {x3} {x4} {x5} : (State.fireFull s x1 x2 x3 x4 x5).sessions = s.sessions :=
  (State.fireFull_step (Step.refl 1006632960 s) (sub_refl _)).sessions rfl
@[simp] theorem State.fireFull_hostA (s : State) {x1} {x2} {x3} {x4} {x5} : (State.fireFull s x1 x2 x3 x4 x5).hostA = s.hostA :=
  (State.fireFull_step (Step.refl 1006632960 s) (sub_refl _)).hostA rfl
@[simp] theorem State.fireFull_hostB (s : State) {x1} {x2} {x3} {x4} {x5} : (State.fireFull s x1 x2 x3 x4 x5).hostB = s.hostB :=
  (State.fireFull_step (Step.refl 1006632960 s) (sub_refl _)).hostB rfl
@[simp] theorem State.fireFull_sq (s : State) {x1} {x2} {x3} {x4} {x5} : (State.fireFull s x1 x2 x3 x4 x5).sq = s.sq :=
  (State.fireFull_step (Step.refl 1006632960 s) (sub_refl _)).sq rfl
@[simp] theorem State.fireFull_cq (s : State) {x1} {x2} {x3} {x4} {x5} : (State.fireFull s x1 x2 x3 x4 x5).cq = s.cq :=
  (State.fireFull_step (Step.refl 1006632960 s) (sub_refl _)).cq rfl
@[simp] theorem State.fireFull_lastRing (s : State) {x1} {x2} {x3} {x4} {x5} : (State.fireFull s x1 x2 x3 x4 x5).lastRing = s.lastRing :=
  (State.fireFull_step (Step.refl 1006632960 s) (sub_refl _)).lastRing rfl
@[simp] theorem State.fireFull_msix (s : State) {x1} {x2} {x3} {x4} {x5} : (State.fireFull s x1 x2 x3 x4 x5).msix = s.msix :=
  (State.fireFull_step (Step.refl 1006632960 s) (sub_refl _)).msix rfl
@[simp] theorem State.fireFull_pba (s : State) {x1} {x2} {x3} {x4} {x5} : (State.fireFull s x1 x2 x3 x4 x5).pba = s.pba :=
  (State.fireFull_step (Step.refl 1006632960 s) (sub_refl _)).pba rfl
@[simp] theorem State.fireFull_lists (s : State) {x1} {x2} {x3} {x4} {x5} : (State.fireFull s x1 x2 x3 x4 x5).lists = s.lists :=
  (State.fireFull_step (Step.refl 1006632960 s) (sub_refl _)).lists rfl
@[simp] theorem State.fireFull_nextList (s : State) {x1} {x2} {x3} {x4} {x5} : (State.fireFull s x1 x2 x3 x4 x5).nextList = s.nextList :=
  (State.fireFull_step (Step.refl 1006632960 s) (sub_refl _)).nextList rfl
@[simp] theorem State.fireFull_jobs (s : State) {x1} {x2} {x3} {x4} {x5} : (State.fireFull s x1 x2 x3 x4 x5).jobs = s.jobs :=
  (State.fireFull_step (Step.refl 1006632960 s) (sub_refl _)).jobs rfl
@[simp] theorem State.fireFull_frames (s : State) {x1} {x2} {x3} {x4} {x5} : (State.fireFull s x1 x2 x3 x4 x5).frames = s.frames :=
  (State.fireFull_step (Step.refl 1006632960 s) (sub_refl _)).frames rfl
@[simp] theorem State.fireFull_nextFrame (s : State) {x1} {x2} {x3} {x4} {x5} : (State.fireFull s x1 x2 x3 x4 x5).nextFrame = s.nextFrame :=
  (State.fireFull_step (Step.refl 1006632960 s) (sub_refl _)).nextFrame rfl
@[simp] theorem State.fireFull_skips (s : State) {x1} {x2} {x3} {x4} {x5} : (State.fireFull s x1 x2 x3 x4 x5).skips = s.skips :=
  (State.fireFull_step (Step.refl 1006632960 s) (sub_refl _)).skips rfl
@[simp] theorem State.fireFull_setSkips (s : State) {x1} {x2} {x3} {x4} {x5} : (State.fireFull s x1 x2 x3 x4 x5).setSkips = s.setSkips :=
  (State.fireFull_step (Step.refl 1006632960 s) (sub_refl _)).setSkips rfl
@[simp] theorem State.fireFull_tier1 (s : State) {x1} {x2} {x3} {x4} {x5} : (State.fireFull s x1 x2 x3 x4 x5).tier1 = s.tier1 :=
  (State.fireFull_step (Step.refl 1006632960 s) (sub_refl _)).tier1 rfl
@[simp] theorem State.fireFull_granules (s : State) {x1} {x2} {x3} {x4} {x5} : (State.fireFull s x1 x2 x3 x4 x5).granules = s.granules :=
  (State.fireFull_step (Step.refl 1006632960 s) (sub_refl _)).granules rfl
@[simp] theorem State.fireFull_tier1Bad (s : State) {x1} {x2} {x3} {x4} {x5} : (State.fireFull s x1 x2 x3 x4 x5).tier1Bad = s.tier1Bad :=
  (State.fireFull_step (Step.refl 1006632960 s) (sub_refl _)).tier1Bad rfl
@[simp] theorem State.fireFull_dram (s : State) {x1} {x2} {x3} {x4} {x5} : (State.fireFull s x1 x2 x3 x4 x5).dram = s.dram :=
  (State.fireFull_step (Step.refl 1006632960 s) (sub_refl _)).dram rfl
@[simp] theorem State.fireFull_od (s : State) {x1} {x2} {x3} {x4} {x5} : (State.fireFull s x1 x2 x3 x4 x5).od = s.od :=
  (State.fireFull_step (Step.refl 1006632960 s) (sub_refl _)).od rfl
@[simp] theorem State.fireFull_can (s : State) {x1} {x2} {x3} {x4} {x5} : (State.fireFull s x1 x2 x3 x4 x5).can = s.can :=
  (State.fireFull_step (Step.refl 1006632960 s) (sub_refl _)).can rfl
@[simp] theorem State.fireFull_boxA (s : State) {x1} {x2} {x3} {x4} {x5} : (State.fireFull s x1 x2 x3 x4 x5).boxA = s.boxA :=
  (State.fireFull_step (Step.refl 1006632960 s) (sub_refl _)).boxA rfl
@[simp] theorem State.fireFull_boxB (s : State) {x1} {x2} {x3} {x4} {x5} : (State.fireFull s x1 x2 x3 x4 x5).boxB = s.boxB :=
  (State.fireFull_step (Step.refl 1006632960 s) (sub_refl _)).boxB rfl
@[simp] theorem State.fireFull_absentEmcy (s : State) {x1} {x2} {x3} {x4} {x5} : (State.fireFull s x1 x2 x3 x4 x5).absentEmcy = s.absentEmcy :=
  (State.fireFull_step (Step.refl 1006632960 s) (sub_refl _)).absentEmcy rfl
@[simp] theorem State.fireFull_replacement (s : State) {x1} {x2} {x3} {x4} {x5} : (State.fireFull s x1 x2 x3 x4 x5).replacement = s.replacement :=
  (State.fireFull_step (Step.refl 1006632960 s) (sub_refl _)).replacement rfl
@[simp] theorem State.fireFull_suspects (s : State) {x1} {x2} {x3} {x4} {x5} : (State.fireFull s x1 x2 x3 x4 x5).suspects = s.suspects :=
  (State.fireFull_step (Step.refl 1006632960 s) (sub_refl _)).suspects rfl
@[simp] theorem State.fireFull_leases (s : State) {x1} {x2} {x3} {x4} {x5} : (State.fireFull s x1 x2 x3 x4 x5).leases = s.leases :=
  (State.fireFull_step (Step.refl 1006632960 s) (sub_refl _)).leases rfl
@[simp] theorem State.fireFull_dma (s : State) {x1} {x2} {x3} {x4} {x5} : (State.fireFull s x1 x2 x3 x4 x5).dma = s.dma :=
  (State.fireFull_step (Step.refl 1006632960 s) (sub_refl _)).dma rfl
@[simp] theorem State.fireFull_moves (s : State) {x1} {x2} {x3} {x4} {x5} : (State.fireFull s x1 x2 x3 x4 x5).moves = s.moves :=
  (State.fireFull_step (Step.refl 1006632960 s) (sub_refl _)).moves rfl
@[simp] theorem State.fireFull_injection (s : State) {x1} {x2} {x3} {x4} {x5} : (State.fireFull s x1 x2 x3 x4 x5).injection = s.injection :=
  (State.fireFull_step (Step.refl 1006632960 s) (sub_refl _)).injection rfl
@[simp] theorem State.fireFull_tiles (s : State) {x1} {x2} {x3} {x4} {x5} : (State.fireFull s x1 x2 x3 x4 x5).tiles = s.tiles :=
  (State.fireFull_step (Step.refl 1006632960 s) (sub_refl _)).tiles rfl
@[simp] theorem State.fireFull_mesh (s : State) {x1} {x2} {x3} {x4} {x5} : (State.fireFull s x1 x2 x3 x4 x5).mesh = s.mesh :=
  (State.fireFull_step (Step.refl 1006632960 s) (sub_refl _)).mesh rfl
@[simp] theorem State.fireFull_attach (s : State) {x1} {x2} {x3} {x4} {x5} : (State.fireFull s x1 x2 x3 x4 x5).attach = s.attach :=
  (State.fireFull_step (Step.refl 1006632960 s) (sub_refl _)).attach rfl
@[simp] theorem State.fireFull_rewardN (s : State) {x1} {x2} {x3} {x4} {x5} : (State.fireFull s x1 x2 x3 x4 x5).rewardN = s.rewardN :=
  (State.fireFull_step (Step.refl 1006632960 s) (sub_refl _)).rewardN rfl
@[simp] theorem State.fireFull_rewardSent (s : State) {x1} {x2} {x3} {x4} {x5} : (State.fireFull s x1 x2 x3 x4 x5).rewardSent = s.rewardSent :=
  (State.fireFull_step (Step.refl 1006632960 s) (sub_refl _)).rewardSent rfl
@[simp] theorem State.fireFull_plans (s : State) {x1} {x2} {x3} {x4} {x5} : (State.fireFull s x1 x2 x3 x4 x5).plans = s.plans :=
  (State.fireFull_step (Step.refl 1006632960 s) (sub_refl _)).plans rfl
@[simp] theorem State.fireFull_segs (s : State) {x1} {x2} {x3} {x4} {x5} : (State.fireFull s x1 x2 x3 x4 x5).segs = s.segs :=
  (State.fireFull_step (Step.refl 1006632960 s) (sub_refl _)).segs rfl
@[simp] theorem State.fireFull_segCtr (s : State) {x1} {x2} {x3} {x4} {x5} : (State.fireFull s x1 x2 x3 x4 x5).segCtr = s.segCtr :=
  (State.fireFull_step (Step.refl 1006632960 s) (sub_refl _)).segCtr rfl
@[simp] theorem State.fireFull_conns (s : State) {x1} {x2} {x3} {x4} {x5} : (State.fireFull s x1 x2 x3 x4 x5).conns = s.conns :=
  (State.fireFull_step (Step.refl 1006632960 s) (sub_refl _)).conns rfl
@[simp] theorem State.fireFull_wrs (s : State) {x1} {x2} {x3} {x4} {x5} : (State.fireFull s x1 x2 x3 x4 x5).wrs = s.wrs :=
  (State.fireFull_step (Step.refl 1006632960 s) (sub_refl _)).wrs rfl
@[simp] theorem State.fireFull_nextWr (s : State) {x1} {x2} {x3} {x4} {x5} : (State.fireFull s x1 x2 x3 x4 x5).nextWr = s.nextWr :=
  (State.fireFull_step (Step.refl 1006632960 s) (sub_refl _)).nextWr rfl
@[simp] theorem State.fireFull_ctrs (s : State) {x1} {x2} {x3} {x4} {x5} : (State.fireFull s x1 x2 x3 x4 x5).ctrs = s.ctrs :=
  (State.fireFull_step (Step.refl 1006632960 s) (sub_refl _)).ctrs rfl
@[simp] theorem State.fireFull_ports (s : State) {x1} {x2} {x3} {x4} {x5} : (State.fireFull s x1 x2 x3 x4 x5).ports = s.ports :=
  (State.fireFull_step (Step.refl 1006632960 s) (sub_refl _)).ports rfl
@[simp] theorem State.fireFull_buckets (s : State) {x1} {x2} {x3} {x4} {x5} : (State.fireFull s x1 x2 x3 x4 x5).buckets = s.buckets :=
  (State.fireFull_step (Step.refl 1006632960 s) (sub_refl _)).buckets rfl
@[simp] theorem State.fireFull_nodes (s : State) {x1} {x2} {x3} {x4} {x5} : (State.fireFull s x1 x2 x3 x4 x5).nodes = s.nodes :=
  (State.fireFull_step (Step.refl 1006632960 s) (sub_refl _)).nodes rfl
@[simp] theorem State.fireFull_power (s : State) {x1} {x2} {x3} {x4} {x5} : (State.fireFull s x1 x2 x3 x4 x5).power = s.power :=
  (State.fireFull_step (Step.refl 1006632960 s) (sub_refl _)).power rfl
@[simp] theorem State.fireFull_up (s : State) {x1} {x2} {x3} {x4} {x5} : (State.fireFull s x1 x2 x3 x4 x5).up = s.up :=
  (State.fireFull_step (Step.refl 1006632960 s) (sub_refl _)).up rfl
@[simp] theorem State.fireFull_fuses (s : State) {x1} {x2} {x3} {x4} {x5} : (State.fireFull s x1 x2 x3 x4 x5).fuses = s.fuses :=
  (State.fireFull_step (Step.refl 1006632960 s) (sub_refl _)).fuses rfl
@[simp] theorem State.fireFull_fw (s : State) {x1} {x2} {x3} {x4} {x5} : (State.fireFull s x1 x2 x3 x4 x5).fw = s.fw :=
  (State.fireFull_step (Step.refl 1006632960 s) (sub_refl _)).fw rfl
@[simp] theorem State.fireFull_out (s : State) {x1} {x2} {x3} {x4} {x5} : (State.fireFull s x1 x2 x3 x4 x5).out = s.out :=
  (State.fireFull_step (Step.refl 1006632960 s) (sub_refl _)).out rfl
@[simp] theorem State.fireFull_fresh (s : State) {x1} {x2} {x3} {x4} {x5} : (State.fireFull s x1 x2 x3 x4 x5).fresh = s.fresh :=
  (State.fireFull_step (Step.refl 1006632960 s) (sub_refl _)).fresh rfl
@[simp] theorem State.fireFull_pending (s : State) {x1} {x2} {x3} {x4} {x5} : (State.fireFull s x1 x2 x3 x4 x5).pending = s.pending :=
  (State.fireFull_step (Step.refl 1006632960 s) (sub_refl _)).pending rfl

@[simp] theorem State.logAct_now (s : State) {x1} {x2} {x3} : (State.logAct s x1 x2 x3).now = s.now :=
  (State.logAct_step (Step.refl 939524096 s) (sub_refl _)).now rfl
@[simp] theorem State.logAct_wafer (s : State) {x1} {x2} {x3} : (State.logAct s x1 x2 x3).wafer = s.wafer :=
  (State.logAct_step (Step.refl 939524096 s) (sub_refl _)).wafer rfl
@[simp] theorem State.logAct_beat (s : State) {x1} {x2} {x3} : (State.logAct s x1 x2 x3).beat = s.beat :=
  (State.logAct_step (Step.refl 939524096 s) (sub_refl _)).beat rfl
@[simp] theorem State.logAct_sessions (s : State) {x1} {x2} {x3} : (State.logAct s x1 x2 x3).sessions = s.sessions :=
  (State.logAct_step (Step.refl 939524096 s) (sub_refl _)).sessions rfl
@[simp] theorem State.logAct_hostA (s : State) {x1} {x2} {x3} : (State.logAct s x1 x2 x3).hostA = s.hostA :=
  (State.logAct_step (Step.refl 939524096 s) (sub_refl _)).hostA rfl
@[simp] theorem State.logAct_hostB (s : State) {x1} {x2} {x3} : (State.logAct s x1 x2 x3).hostB = s.hostB :=
  (State.logAct_step (Step.refl 939524096 s) (sub_refl _)).hostB rfl
@[simp] theorem State.logAct_sq (s : State) {x1} {x2} {x3} : (State.logAct s x1 x2 x3).sq = s.sq :=
  (State.logAct_step (Step.refl 939524096 s) (sub_refl _)).sq rfl
@[simp] theorem State.logAct_cq (s : State) {x1} {x2} {x3} : (State.logAct s x1 x2 x3).cq = s.cq :=
  (State.logAct_step (Step.refl 939524096 s) (sub_refl _)).cq rfl
@[simp] theorem State.logAct_lastRing (s : State) {x1} {x2} {x3} : (State.logAct s x1 x2 x3).lastRing = s.lastRing :=
  (State.logAct_step (Step.refl 939524096 s) (sub_refl _)).lastRing rfl
@[simp] theorem State.logAct_msix (s : State) {x1} {x2} {x3} : (State.logAct s x1 x2 x3).msix = s.msix :=
  (State.logAct_step (Step.refl 939524096 s) (sub_refl _)).msix rfl
@[simp] theorem State.logAct_pba (s : State) {x1} {x2} {x3} : (State.logAct s x1 x2 x3).pba = s.pba :=
  (State.logAct_step (Step.refl 939524096 s) (sub_refl _)).pba rfl
@[simp] theorem State.logAct_lists (s : State) {x1} {x2} {x3} : (State.logAct s x1 x2 x3).lists = s.lists :=
  (State.logAct_step (Step.refl 939524096 s) (sub_refl _)).lists rfl
@[simp] theorem State.logAct_nextList (s : State) {x1} {x2} {x3} : (State.logAct s x1 x2 x3).nextList = s.nextList :=
  (State.logAct_step (Step.refl 939524096 s) (sub_refl _)).nextList rfl
@[simp] theorem State.logAct_jobs (s : State) {x1} {x2} {x3} : (State.logAct s x1 x2 x3).jobs = s.jobs :=
  (State.logAct_step (Step.refl 939524096 s) (sub_refl _)).jobs rfl
@[simp] theorem State.logAct_frames (s : State) {x1} {x2} {x3} : (State.logAct s x1 x2 x3).frames = s.frames :=
  (State.logAct_step (Step.refl 939524096 s) (sub_refl _)).frames rfl
@[simp] theorem State.logAct_nextFrame (s : State) {x1} {x2} {x3} : (State.logAct s x1 x2 x3).nextFrame = s.nextFrame :=
  (State.logAct_step (Step.refl 939524096 s) (sub_refl _)).nextFrame rfl
@[simp] theorem State.logAct_skips (s : State) {x1} {x2} {x3} : (State.logAct s x1 x2 x3).skips = s.skips :=
  (State.logAct_step (Step.refl 939524096 s) (sub_refl _)).skips rfl
@[simp] theorem State.logAct_setSkips (s : State) {x1} {x2} {x3} : (State.logAct s x1 x2 x3).setSkips = s.setSkips :=
  (State.logAct_step (Step.refl 939524096 s) (sub_refl _)).setSkips rfl
@[simp] theorem State.logAct_tier1 (s : State) {x1} {x2} {x3} : (State.logAct s x1 x2 x3).tier1 = s.tier1 :=
  (State.logAct_step (Step.refl 939524096 s) (sub_refl _)).tier1 rfl
@[simp] theorem State.logAct_granules (s : State) {x1} {x2} {x3} : (State.logAct s x1 x2 x3).granules = s.granules :=
  (State.logAct_step (Step.refl 939524096 s) (sub_refl _)).granules rfl
@[simp] theorem State.logAct_tier1Bad (s : State) {x1} {x2} {x3} : (State.logAct s x1 x2 x3).tier1Bad = s.tier1Bad :=
  (State.logAct_step (Step.refl 939524096 s) (sub_refl _)).tier1Bad rfl
@[simp] theorem State.logAct_dram (s : State) {x1} {x2} {x3} : (State.logAct s x1 x2 x3).dram = s.dram :=
  (State.logAct_step (Step.refl 939524096 s) (sub_refl _)).dram rfl
@[simp] theorem State.logAct_od (s : State) {x1} {x2} {x3} : (State.logAct s x1 x2 x3).od = s.od :=
  (State.logAct_step (Step.refl 939524096 s) (sub_refl _)).od rfl
@[simp] theorem State.logAct_can (s : State) {x1} {x2} {x3} : (State.logAct s x1 x2 x3).can = s.can :=
  (State.logAct_step (Step.refl 939524096 s) (sub_refl _)).can rfl
@[simp] theorem State.logAct_boxA (s : State) {x1} {x2} {x3} : (State.logAct s x1 x2 x3).boxA = s.boxA :=
  (State.logAct_step (Step.refl 939524096 s) (sub_refl _)).boxA rfl
@[simp] theorem State.logAct_boxB (s : State) {x1} {x2} {x3} : (State.logAct s x1 x2 x3).boxB = s.boxB :=
  (State.logAct_step (Step.refl 939524096 s) (sub_refl _)).boxB rfl
@[simp] theorem State.logAct_det (s : State) {x1} {x2} {x3} : (State.logAct s x1 x2 x3).det = s.det :=
  (State.logAct_step (Step.refl 939524096 s) (sub_refl _)).det rfl
@[simp] theorem State.logAct_absentEmcy (s : State) {x1} {x2} {x3} : (State.logAct s x1 x2 x3).absentEmcy = s.absentEmcy :=
  (State.logAct_step (Step.refl 939524096 s) (sub_refl _)).absentEmcy rfl
@[simp] theorem State.logAct_replacement (s : State) {x1} {x2} {x3} : (State.logAct s x1 x2 x3).replacement = s.replacement :=
  (State.logAct_step (Step.refl 939524096 s) (sub_refl _)).replacement rfl
@[simp] theorem State.logAct_suspects (s : State) {x1} {x2} {x3} : (State.logAct s x1 x2 x3).suspects = s.suspects :=
  (State.logAct_step (Step.refl 939524096 s) (sub_refl _)).suspects rfl
@[simp] theorem State.logAct_leases (s : State) {x1} {x2} {x3} : (State.logAct s x1 x2 x3).leases = s.leases :=
  (State.logAct_step (Step.refl 939524096 s) (sub_refl _)).leases rfl
@[simp] theorem State.logAct_dma (s : State) {x1} {x2} {x3} : (State.logAct s x1 x2 x3).dma = s.dma :=
  (State.logAct_step (Step.refl 939524096 s) (sub_refl _)).dma rfl
@[simp] theorem State.logAct_moves (s : State) {x1} {x2} {x3} : (State.logAct s x1 x2 x3).moves = s.moves :=
  (State.logAct_step (Step.refl 939524096 s) (sub_refl _)).moves rfl
@[simp] theorem State.logAct_injection (s : State) {x1} {x2} {x3} : (State.logAct s x1 x2 x3).injection = s.injection :=
  (State.logAct_step (Step.refl 939524096 s) (sub_refl _)).injection rfl
@[simp] theorem State.logAct_tiles (s : State) {x1} {x2} {x3} : (State.logAct s x1 x2 x3).tiles = s.tiles :=
  (State.logAct_step (Step.refl 939524096 s) (sub_refl _)).tiles rfl
@[simp] theorem State.logAct_mesh (s : State) {x1} {x2} {x3} : (State.logAct s x1 x2 x3).mesh = s.mesh :=
  (State.logAct_step (Step.refl 939524096 s) (sub_refl _)).mesh rfl
@[simp] theorem State.logAct_attach (s : State) {x1} {x2} {x3} : (State.logAct s x1 x2 x3).attach = s.attach :=
  (State.logAct_step (Step.refl 939524096 s) (sub_refl _)).attach rfl
@[simp] theorem State.logAct_rewardN (s : State) {x1} {x2} {x3} : (State.logAct s x1 x2 x3).rewardN = s.rewardN :=
  (State.logAct_step (Step.refl 939524096 s) (sub_refl _)).rewardN rfl
@[simp] theorem State.logAct_rewardSent (s : State) {x1} {x2} {x3} : (State.logAct s x1 x2 x3).rewardSent = s.rewardSent :=
  (State.logAct_step (Step.refl 939524096 s) (sub_refl _)).rewardSent rfl
@[simp] theorem State.logAct_plans (s : State) {x1} {x2} {x3} : (State.logAct s x1 x2 x3).plans = s.plans :=
  (State.logAct_step (Step.refl 939524096 s) (sub_refl _)).plans rfl
@[simp] theorem State.logAct_segs (s : State) {x1} {x2} {x3} : (State.logAct s x1 x2 x3).segs = s.segs :=
  (State.logAct_step (Step.refl 939524096 s) (sub_refl _)).segs rfl
@[simp] theorem State.logAct_segCtr (s : State) {x1} {x2} {x3} : (State.logAct s x1 x2 x3).segCtr = s.segCtr :=
  (State.logAct_step (Step.refl 939524096 s) (sub_refl _)).segCtr rfl
@[simp] theorem State.logAct_conns (s : State) {x1} {x2} {x3} : (State.logAct s x1 x2 x3).conns = s.conns :=
  (State.logAct_step (Step.refl 939524096 s) (sub_refl _)).conns rfl
@[simp] theorem State.logAct_wrs (s : State) {x1} {x2} {x3} : (State.logAct s x1 x2 x3).wrs = s.wrs :=
  (State.logAct_step (Step.refl 939524096 s) (sub_refl _)).wrs rfl
@[simp] theorem State.logAct_nextWr (s : State) {x1} {x2} {x3} : (State.logAct s x1 x2 x3).nextWr = s.nextWr :=
  (State.logAct_step (Step.refl 939524096 s) (sub_refl _)).nextWr rfl
@[simp] theorem State.logAct_ctrs (s : State) {x1} {x2} {x3} : (State.logAct s x1 x2 x3).ctrs = s.ctrs :=
  (State.logAct_step (Step.refl 939524096 s) (sub_refl _)).ctrs rfl
@[simp] theorem State.logAct_ports (s : State) {x1} {x2} {x3} : (State.logAct s x1 x2 x3).ports = s.ports :=
  (State.logAct_step (Step.refl 939524096 s) (sub_refl _)).ports rfl
@[simp] theorem State.logAct_buckets (s : State) {x1} {x2} {x3} : (State.logAct s x1 x2 x3).buckets = s.buckets :=
  (State.logAct_step (Step.refl 939524096 s) (sub_refl _)).buckets rfl
@[simp] theorem State.logAct_nodes (s : State) {x1} {x2} {x3} : (State.logAct s x1 x2 x3).nodes = s.nodes :=
  (State.logAct_step (Step.refl 939524096 s) (sub_refl _)).nodes rfl
@[simp] theorem State.logAct_power (s : State) {x1} {x2} {x3} : (State.logAct s x1 x2 x3).power = s.power :=
  (State.logAct_step (Step.refl 939524096 s) (sub_refl _)).power rfl
@[simp] theorem State.logAct_up (s : State) {x1} {x2} {x3} : (State.logAct s x1 x2 x3).up = s.up :=
  (State.logAct_step (Step.refl 939524096 s) (sub_refl _)).up rfl
@[simp] theorem State.logAct_fuses (s : State) {x1} {x2} {x3} : (State.logAct s x1 x2 x3).fuses = s.fuses :=
  (State.logAct_step (Step.refl 939524096 s) (sub_refl _)).fuses rfl
@[simp] theorem State.logAct_fw (s : State) {x1} {x2} {x3} : (State.logAct s x1 x2 x3).fw = s.fw :=
  (State.logAct_step (Step.refl 939524096 s) (sub_refl _)).fw rfl
@[simp] theorem State.logAct_out (s : State) {x1} {x2} {x3} : (State.logAct s x1 x2 x3).out = s.out :=
  (State.logAct_step (Step.refl 939524096 s) (sub_refl _)).out rfl
@[simp] theorem State.logAct_fresh (s : State) {x1} {x2} {x3} : (State.logAct s x1 x2 x3).fresh = s.fresh :=
  (State.logAct_step (Step.refl 939524096 s) (sub_refl _)).fresh rfl
@[simp] theorem State.logAct_pending (s : State) {x1} {x2} {x3} : (State.logAct s x1 x2 x3).pending = s.pending :=
  (State.logAct_step (Step.refl 939524096 s) (sub_refl _)).pending rfl

@[simp] theorem State.tierRead_now (s : State) {x1} {x2} : (State.tierRead s x1 x2).now = s.now :=
  (State.tierRead_step (Step.refl 17593193725952 s) (sub_refl _)).now rfl
@[simp] theorem State.tierRead_wafer (s : State) {x1} {x2} : (State.tierRead s x1 x2).wafer = s.wafer :=
  (State.tierRead_step (Step.refl 17593193725952 s) (sub_refl _)).wafer rfl
@[simp] theorem State.tierRead_beat (s : State) {x1} {x2} : (State.tierRead s x1 x2).beat = s.beat :=
  (State.tierRead_step (Step.refl 17593193725952 s) (sub_refl _)).beat rfl
@[simp] theorem State.tierRead_sessions (s : State) {x1} {x2} : (State.tierRead s x1 x2).sessions = s.sessions :=
  (State.tierRead_step (Step.refl 17593193725952 s) (sub_refl _)).sessions rfl
@[simp] theorem State.tierRead_hostA (s : State) {x1} {x2} : (State.tierRead s x1 x2).hostA = s.hostA :=
  (State.tierRead_step (Step.refl 17593193725952 s) (sub_refl _)).hostA rfl
@[simp] theorem State.tierRead_hostB (s : State) {x1} {x2} : (State.tierRead s x1 x2).hostB = s.hostB :=
  (State.tierRead_step (Step.refl 17593193725952 s) (sub_refl _)).hostB rfl
@[simp] theorem State.tierRead_sq (s : State) {x1} {x2} : (State.tierRead s x1 x2).sq = s.sq :=
  (State.tierRead_step (Step.refl 17593193725952 s) (sub_refl _)).sq rfl
@[simp] theorem State.tierRead_cq (s : State) {x1} {x2} : (State.tierRead s x1 x2).cq = s.cq :=
  (State.tierRead_step (Step.refl 17593193725952 s) (sub_refl _)).cq rfl
@[simp] theorem State.tierRead_lastRing (s : State) {x1} {x2} : (State.tierRead s x1 x2).lastRing = s.lastRing :=
  (State.tierRead_step (Step.refl 17593193725952 s) (sub_refl _)).lastRing rfl
@[simp] theorem State.tierRead_msix (s : State) {x1} {x2} : (State.tierRead s x1 x2).msix = s.msix :=
  (State.tierRead_step (Step.refl 17593193725952 s) (sub_refl _)).msix rfl
@[simp] theorem State.tierRead_pba (s : State) {x1} {x2} : (State.tierRead s x1 x2).pba = s.pba :=
  (State.tierRead_step (Step.refl 17593193725952 s) (sub_refl _)).pba rfl
@[simp] theorem State.tierRead_lists (s : State) {x1} {x2} : (State.tierRead s x1 x2).lists = s.lists :=
  (State.tierRead_step (Step.refl 17593193725952 s) (sub_refl _)).lists rfl
@[simp] theorem State.tierRead_nextList (s : State) {x1} {x2} : (State.tierRead s x1 x2).nextList = s.nextList :=
  (State.tierRead_step (Step.refl 17593193725952 s) (sub_refl _)).nextList rfl
@[simp] theorem State.tierRead_jobs (s : State) {x1} {x2} : (State.tierRead s x1 x2).jobs = s.jobs :=
  (State.tierRead_step (Step.refl 17593193725952 s) (sub_refl _)).jobs rfl
@[simp] theorem State.tierRead_frames (s : State) {x1} {x2} : (State.tierRead s x1 x2).frames = s.frames :=
  (State.tierRead_step (Step.refl 17593193725952 s) (sub_refl _)).frames rfl
@[simp] theorem State.tierRead_nextFrame (s : State) {x1} {x2} : (State.tierRead s x1 x2).nextFrame = s.nextFrame :=
  (State.tierRead_step (Step.refl 17593193725952 s) (sub_refl _)).nextFrame rfl
@[simp] theorem State.tierRead_skips (s : State) {x1} {x2} : (State.tierRead s x1 x2).skips = s.skips :=
  (State.tierRead_step (Step.refl 17593193725952 s) (sub_refl _)).skips rfl
@[simp] theorem State.tierRead_setSkips (s : State) {x1} {x2} : (State.tierRead s x1 x2).setSkips = s.setSkips :=
  (State.tierRead_step (Step.refl 17593193725952 s) (sub_refl _)).setSkips rfl
@[simp] theorem State.tierRead_tier1 (s : State) {x1} {x2} : (State.tierRead s x1 x2).tier1 = s.tier1 :=
  (State.tierRead_step (Step.refl 17593193725952 s) (sub_refl _)).tier1 rfl
@[simp] theorem State.tierRead_granules (s : State) {x1} {x2} : (State.tierRead s x1 x2).granules = s.granules :=
  (State.tierRead_step (Step.refl 17593193725952 s) (sub_refl _)).granules rfl
@[simp] theorem State.tierRead_dram (s : State) {x1} {x2} : (State.tierRead s x1 x2).dram = s.dram :=
  (State.tierRead_step (Step.refl 17593193725952 s) (sub_refl _)).dram rfl
@[simp] theorem State.tierRead_od (s : State) {x1} {x2} : (State.tierRead s x1 x2).od = s.od :=
  (State.tierRead_step (Step.refl 17593193725952 s) (sub_refl _)).od rfl
@[simp] theorem State.tierRead_can (s : State) {x1} {x2} : (State.tierRead s x1 x2).can = s.can :=
  (State.tierRead_step (Step.refl 17593193725952 s) (sub_refl _)).can rfl
@[simp] theorem State.tierRead_boxA (s : State) {x1} {x2} : (State.tierRead s x1 x2).boxA = s.boxA :=
  (State.tierRead_step (Step.refl 17593193725952 s) (sub_refl _)).boxA rfl
@[simp] theorem State.tierRead_boxB (s : State) {x1} {x2} : (State.tierRead s x1 x2).boxB = s.boxB :=
  (State.tierRead_step (Step.refl 17593193725952 s) (sub_refl _)).boxB rfl
@[simp] theorem State.tierRead_absentEmcy (s : State) {x1} {x2} : (State.tierRead s x1 x2).absentEmcy = s.absentEmcy :=
  (State.tierRead_step (Step.refl 17593193725952 s) (sub_refl _)).absentEmcy rfl
@[simp] theorem State.tierRead_replacement (s : State) {x1} {x2} : (State.tierRead s x1 x2).replacement = s.replacement :=
  (State.tierRead_step (Step.refl 17593193725952 s) (sub_refl _)).replacement rfl
@[simp] theorem State.tierRead_suspects (s : State) {x1} {x2} : (State.tierRead s x1 x2).suspects = s.suspects :=
  (State.tierRead_step (Step.refl 17593193725952 s) (sub_refl _)).suspects rfl
@[simp] theorem State.tierRead_leases (s : State) {x1} {x2} : (State.tierRead s x1 x2).leases = s.leases :=
  (State.tierRead_step (Step.refl 17593193725952 s) (sub_refl _)).leases rfl
@[simp] theorem State.tierRead_dma (s : State) {x1} {x2} : (State.tierRead s x1 x2).dma = s.dma :=
  (State.tierRead_step (Step.refl 17593193725952 s) (sub_refl _)).dma rfl
@[simp] theorem State.tierRead_moves (s : State) {x1} {x2} : (State.tierRead s x1 x2).moves = s.moves :=
  (State.tierRead_step (Step.refl 17593193725952 s) (sub_refl _)).moves rfl
@[simp] theorem State.tierRead_injection (s : State) {x1} {x2} : (State.tierRead s x1 x2).injection = s.injection :=
  (State.tierRead_step (Step.refl 17593193725952 s) (sub_refl _)).injection rfl
@[simp] theorem State.tierRead_tiles (s : State) {x1} {x2} : (State.tierRead s x1 x2).tiles = s.tiles :=
  (State.tierRead_step (Step.refl 17593193725952 s) (sub_refl _)).tiles rfl
@[simp] theorem State.tierRead_mesh (s : State) {x1} {x2} : (State.tierRead s x1 x2).mesh = s.mesh :=
  (State.tierRead_step (Step.refl 17593193725952 s) (sub_refl _)).mesh rfl
@[simp] theorem State.tierRead_attach (s : State) {x1} {x2} : (State.tierRead s x1 x2).attach = s.attach :=
  (State.tierRead_step (Step.refl 17593193725952 s) (sub_refl _)).attach rfl
@[simp] theorem State.tierRead_rewardN (s : State) {x1} {x2} : (State.tierRead s x1 x2).rewardN = s.rewardN :=
  (State.tierRead_step (Step.refl 17593193725952 s) (sub_refl _)).rewardN rfl
@[simp] theorem State.tierRead_rewardSent (s : State) {x1} {x2} : (State.tierRead s x1 x2).rewardSent = s.rewardSent :=
  (State.tierRead_step (Step.refl 17593193725952 s) (sub_refl _)).rewardSent rfl
@[simp] theorem State.tierRead_plans (s : State) {x1} {x2} : (State.tierRead s x1 x2).plans = s.plans :=
  (State.tierRead_step (Step.refl 17593193725952 s) (sub_refl _)).plans rfl
@[simp] theorem State.tierRead_segs (s : State) {x1} {x2} : (State.tierRead s x1 x2).segs = s.segs :=
  (State.tierRead_step (Step.refl 17593193725952 s) (sub_refl _)).segs rfl
@[simp] theorem State.tierRead_conns (s : State) {x1} {x2} : (State.tierRead s x1 x2).conns = s.conns :=
  (State.tierRead_step (Step.refl 17593193725952 s) (sub_refl _)).conns rfl
@[simp] theorem State.tierRead_wrs (s : State) {x1} {x2} : (State.tierRead s x1 x2).wrs = s.wrs :=
  (State.tierRead_step (Step.refl 17593193725952 s) (sub_refl _)).wrs rfl
@[simp] theorem State.tierRead_nextWr (s : State) {x1} {x2} : (State.tierRead s x1 x2).nextWr = s.nextWr :=
  (State.tierRead_step (Step.refl 17593193725952 s) (sub_refl _)).nextWr rfl
@[simp] theorem State.tierRead_ctrs (s : State) {x1} {x2} : (State.tierRead s x1 x2).ctrs = s.ctrs :=
  (State.tierRead_step (Step.refl 17593193725952 s) (sub_refl _)).ctrs rfl
@[simp] theorem State.tierRead_ports (s : State) {x1} {x2} : (State.tierRead s x1 x2).ports = s.ports :=
  (State.tierRead_step (Step.refl 17593193725952 s) (sub_refl _)).ports rfl
@[simp] theorem State.tierRead_buckets (s : State) {x1} {x2} : (State.tierRead s x1 x2).buckets = s.buckets :=
  (State.tierRead_step (Step.refl 17593193725952 s) (sub_refl _)).buckets rfl
@[simp] theorem State.tierRead_nodes (s : State) {x1} {x2} : (State.tierRead s x1 x2).nodes = s.nodes :=
  (State.tierRead_step (Step.refl 17593193725952 s) (sub_refl _)).nodes rfl
@[simp] theorem State.tierRead_power (s : State) {x1} {x2} : (State.tierRead s x1 x2).power = s.power :=
  (State.tierRead_step (Step.refl 17593193725952 s) (sub_refl _)).power rfl
@[simp] theorem State.tierRead_up (s : State) {x1} {x2} : (State.tierRead s x1 x2).up = s.up :=
  (State.tierRead_step (Step.refl 17593193725952 s) (sub_refl _)).up rfl
@[simp] theorem State.tierRead_fuses (s : State) {x1} {x2} : (State.tierRead s x1 x2).fuses = s.fuses :=
  (State.tierRead_step (Step.refl 17593193725952 s) (sub_refl _)).fuses rfl
@[simp] theorem State.tierRead_fw (s : State) {x1} {x2} : (State.tierRead s x1 x2).fw = s.fw :=
  (State.tierRead_step (Step.refl 17593193725952 s) (sub_refl _)).fw rfl
@[simp] theorem State.tierRead_out (s : State) {x1} {x2} : (State.tierRead s x1 x2).out = s.out :=
  (State.tierRead_step (Step.refl 17593193725952 s) (sub_refl _)).out rfl
@[simp] theorem State.tierRead_fresh (s : State) {x1} {x2} : (State.tierRead s x1 x2).fresh = s.fresh :=
  (State.tierRead_step (Step.refl 17593193725952 s) (sub_refl _)).fresh rfl
@[simp] theorem State.tierRead_pending (s : State) {x1} {x2} : (State.tierRead s x1 x2).pending = s.pending :=
  (State.tierRead_step (Step.refl 17593193725952 s) (sub_refl _)).pending rfl

@[simp] theorem State.tierWrite_now (s : State) {x1} {x2} : (State.tierWrite s x1 x2).now = s.now :=
  (State.tierWrite_step (Step.refl 17593194512384 s) (sub_refl _)).now rfl
@[simp] theorem State.tierWrite_wafer (s : State) {x1} {x2} : (State.tierWrite s x1 x2).wafer = s.wafer :=
  (State.tierWrite_step (Step.refl 17593194512384 s) (sub_refl _)).wafer rfl
@[simp] theorem State.tierWrite_beat (s : State) {x1} {x2} : (State.tierWrite s x1 x2).beat = s.beat :=
  (State.tierWrite_step (Step.refl 17593194512384 s) (sub_refl _)).beat rfl
@[simp] theorem State.tierWrite_sessions (s : State) {x1} {x2} : (State.tierWrite s x1 x2).sessions = s.sessions :=
  (State.tierWrite_step (Step.refl 17593194512384 s) (sub_refl _)).sessions rfl
@[simp] theorem State.tierWrite_hostA (s : State) {x1} {x2} : (State.tierWrite s x1 x2).hostA = s.hostA :=
  (State.tierWrite_step (Step.refl 17593194512384 s) (sub_refl _)).hostA rfl
@[simp] theorem State.tierWrite_hostB (s : State) {x1} {x2} : (State.tierWrite s x1 x2).hostB = s.hostB :=
  (State.tierWrite_step (Step.refl 17593194512384 s) (sub_refl _)).hostB rfl
@[simp] theorem State.tierWrite_sq (s : State) {x1} {x2} : (State.tierWrite s x1 x2).sq = s.sq :=
  (State.tierWrite_step (Step.refl 17593194512384 s) (sub_refl _)).sq rfl
@[simp] theorem State.tierWrite_cq (s : State) {x1} {x2} : (State.tierWrite s x1 x2).cq = s.cq :=
  (State.tierWrite_step (Step.refl 17593194512384 s) (sub_refl _)).cq rfl
@[simp] theorem State.tierWrite_lastRing (s : State) {x1} {x2} : (State.tierWrite s x1 x2).lastRing = s.lastRing :=
  (State.tierWrite_step (Step.refl 17593194512384 s) (sub_refl _)).lastRing rfl
@[simp] theorem State.tierWrite_msix (s : State) {x1} {x2} : (State.tierWrite s x1 x2).msix = s.msix :=
  (State.tierWrite_step (Step.refl 17593194512384 s) (sub_refl _)).msix rfl
@[simp] theorem State.tierWrite_pba (s : State) {x1} {x2} : (State.tierWrite s x1 x2).pba = s.pba :=
  (State.tierWrite_step (Step.refl 17593194512384 s) (sub_refl _)).pba rfl
@[simp] theorem State.tierWrite_lists (s : State) {x1} {x2} : (State.tierWrite s x1 x2).lists = s.lists :=
  (State.tierWrite_step (Step.refl 17593194512384 s) (sub_refl _)).lists rfl
@[simp] theorem State.tierWrite_nextList (s : State) {x1} {x2} : (State.tierWrite s x1 x2).nextList = s.nextList :=
  (State.tierWrite_step (Step.refl 17593194512384 s) (sub_refl _)).nextList rfl
@[simp] theorem State.tierWrite_jobs (s : State) {x1} {x2} : (State.tierWrite s x1 x2).jobs = s.jobs :=
  (State.tierWrite_step (Step.refl 17593194512384 s) (sub_refl _)).jobs rfl
@[simp] theorem State.tierWrite_frames (s : State) {x1} {x2} : (State.tierWrite s x1 x2).frames = s.frames :=
  (State.tierWrite_step (Step.refl 17593194512384 s) (sub_refl _)).frames rfl
@[simp] theorem State.tierWrite_nextFrame (s : State) {x1} {x2} : (State.tierWrite s x1 x2).nextFrame = s.nextFrame :=
  (State.tierWrite_step (Step.refl 17593194512384 s) (sub_refl _)).nextFrame rfl
@[simp] theorem State.tierWrite_skips (s : State) {x1} {x2} : (State.tierWrite s x1 x2).skips = s.skips :=
  (State.tierWrite_step (Step.refl 17593194512384 s) (sub_refl _)).skips rfl
@[simp] theorem State.tierWrite_setSkips (s : State) {x1} {x2} : (State.tierWrite s x1 x2).setSkips = s.setSkips :=
  (State.tierWrite_step (Step.refl 17593194512384 s) (sub_refl _)).setSkips rfl
@[simp] theorem State.tierWrite_dram (s : State) {x1} {x2} : (State.tierWrite s x1 x2).dram = s.dram :=
  (State.tierWrite_step (Step.refl 17593194512384 s) (sub_refl _)).dram rfl
@[simp] theorem State.tierWrite_od (s : State) {x1} {x2} : (State.tierWrite s x1 x2).od = s.od :=
  (State.tierWrite_step (Step.refl 17593194512384 s) (sub_refl _)).od rfl
@[simp] theorem State.tierWrite_can (s : State) {x1} {x2} : (State.tierWrite s x1 x2).can = s.can :=
  (State.tierWrite_step (Step.refl 17593194512384 s) (sub_refl _)).can rfl
@[simp] theorem State.tierWrite_boxA (s : State) {x1} {x2} : (State.tierWrite s x1 x2).boxA = s.boxA :=
  (State.tierWrite_step (Step.refl 17593194512384 s) (sub_refl _)).boxA rfl
@[simp] theorem State.tierWrite_boxB (s : State) {x1} {x2} : (State.tierWrite s x1 x2).boxB = s.boxB :=
  (State.tierWrite_step (Step.refl 17593194512384 s) (sub_refl _)).boxB rfl
@[simp] theorem State.tierWrite_absentEmcy (s : State) {x1} {x2} : (State.tierWrite s x1 x2).absentEmcy = s.absentEmcy :=
  (State.tierWrite_step (Step.refl 17593194512384 s) (sub_refl _)).absentEmcy rfl
@[simp] theorem State.tierWrite_replacement (s : State) {x1} {x2} : (State.tierWrite s x1 x2).replacement = s.replacement :=
  (State.tierWrite_step (Step.refl 17593194512384 s) (sub_refl _)).replacement rfl
@[simp] theorem State.tierWrite_suspects (s : State) {x1} {x2} : (State.tierWrite s x1 x2).suspects = s.suspects :=
  (State.tierWrite_step (Step.refl 17593194512384 s) (sub_refl _)).suspects rfl
@[simp] theorem State.tierWrite_leases (s : State) {x1} {x2} : (State.tierWrite s x1 x2).leases = s.leases :=
  (State.tierWrite_step (Step.refl 17593194512384 s) (sub_refl _)).leases rfl
@[simp] theorem State.tierWrite_dma (s : State) {x1} {x2} : (State.tierWrite s x1 x2).dma = s.dma :=
  (State.tierWrite_step (Step.refl 17593194512384 s) (sub_refl _)).dma rfl
@[simp] theorem State.tierWrite_moves (s : State) {x1} {x2} : (State.tierWrite s x1 x2).moves = s.moves :=
  (State.tierWrite_step (Step.refl 17593194512384 s) (sub_refl _)).moves rfl
@[simp] theorem State.tierWrite_injection (s : State) {x1} {x2} : (State.tierWrite s x1 x2).injection = s.injection :=
  (State.tierWrite_step (Step.refl 17593194512384 s) (sub_refl _)).injection rfl
@[simp] theorem State.tierWrite_tiles (s : State) {x1} {x2} : (State.tierWrite s x1 x2).tiles = s.tiles :=
  (State.tierWrite_step (Step.refl 17593194512384 s) (sub_refl _)).tiles rfl
@[simp] theorem State.tierWrite_mesh (s : State) {x1} {x2} : (State.tierWrite s x1 x2).mesh = s.mesh :=
  (State.tierWrite_step (Step.refl 17593194512384 s) (sub_refl _)).mesh rfl
@[simp] theorem State.tierWrite_attach (s : State) {x1} {x2} : (State.tierWrite s x1 x2).attach = s.attach :=
  (State.tierWrite_step (Step.refl 17593194512384 s) (sub_refl _)).attach rfl
@[simp] theorem State.tierWrite_rewardN (s : State) {x1} {x2} : (State.tierWrite s x1 x2).rewardN = s.rewardN :=
  (State.tierWrite_step (Step.refl 17593194512384 s) (sub_refl _)).rewardN rfl
@[simp] theorem State.tierWrite_rewardSent (s : State) {x1} {x2} : (State.tierWrite s x1 x2).rewardSent = s.rewardSent :=
  (State.tierWrite_step (Step.refl 17593194512384 s) (sub_refl _)).rewardSent rfl
@[simp] theorem State.tierWrite_plans (s : State) {x1} {x2} : (State.tierWrite s x1 x2).plans = s.plans :=
  (State.tierWrite_step (Step.refl 17593194512384 s) (sub_refl _)).plans rfl
@[simp] theorem State.tierWrite_segs (s : State) {x1} {x2} : (State.tierWrite s x1 x2).segs = s.segs :=
  (State.tierWrite_step (Step.refl 17593194512384 s) (sub_refl _)).segs rfl
@[simp] theorem State.tierWrite_conns (s : State) {x1} {x2} : (State.tierWrite s x1 x2).conns = s.conns :=
  (State.tierWrite_step (Step.refl 17593194512384 s) (sub_refl _)).conns rfl
@[simp] theorem State.tierWrite_wrs (s : State) {x1} {x2} : (State.tierWrite s x1 x2).wrs = s.wrs :=
  (State.tierWrite_step (Step.refl 17593194512384 s) (sub_refl _)).wrs rfl
@[simp] theorem State.tierWrite_nextWr (s : State) {x1} {x2} : (State.tierWrite s x1 x2).nextWr = s.nextWr :=
  (State.tierWrite_step (Step.refl 17593194512384 s) (sub_refl _)).nextWr rfl
@[simp] theorem State.tierWrite_ctrs (s : State) {x1} {x2} : (State.tierWrite s x1 x2).ctrs = s.ctrs :=
  (State.tierWrite_step (Step.refl 17593194512384 s) (sub_refl _)).ctrs rfl
@[simp] theorem State.tierWrite_ports (s : State) {x1} {x2} : (State.tierWrite s x1 x2).ports = s.ports :=
  (State.tierWrite_step (Step.refl 17593194512384 s) (sub_refl _)).ports rfl
@[simp] theorem State.tierWrite_buckets (s : State) {x1} {x2} : (State.tierWrite s x1 x2).buckets = s.buckets :=
  (State.tierWrite_step (Step.refl 17593194512384 s) (sub_refl _)).buckets rfl
@[simp] theorem State.tierWrite_nodes (s : State) {x1} {x2} : (State.tierWrite s x1 x2).nodes = s.nodes :=
  (State.tierWrite_step (Step.refl 17593194512384 s) (sub_refl _)).nodes rfl
@[simp] theorem State.tierWrite_power (s : State) {x1} {x2} : (State.tierWrite s x1 x2).power = s.power :=
  (State.tierWrite_step (Step.refl 17593194512384 s) (sub_refl _)).power rfl
@[simp] theorem State.tierWrite_up (s : State) {x1} {x2} : (State.tierWrite s x1 x2).up = s.up :=
  (State.tierWrite_step (Step.refl 17593194512384 s) (sub_refl _)).up rfl
@[simp] theorem State.tierWrite_fuses (s : State) {x1} {x2} : (State.tierWrite s x1 x2).fuses = s.fuses :=
  (State.tierWrite_step (Step.refl 17593194512384 s) (sub_refl _)).fuses rfl
@[simp] theorem State.tierWrite_fw (s : State) {x1} {x2} : (State.tierWrite s x1 x2).fw = s.fw :=
  (State.tierWrite_step (Step.refl 17593194512384 s) (sub_refl _)).fw rfl
@[simp] theorem State.tierWrite_out (s : State) {x1} {x2} : (State.tierWrite s x1 x2).out = s.out :=
  (State.tierWrite_step (Step.refl 17593194512384 s) (sub_refl _)).out rfl
@[simp] theorem State.tierWrite_fresh (s : State) {x1} {x2} : (State.tierWrite s x1 x2).fresh = s.fresh :=
  (State.tierWrite_step (Step.refl 17593194512384 s) (sub_refl _)).fresh rfl
@[simp] theorem State.tierWrite_pending (s : State) {x1} {x2} : (State.tierWrite s x1 x2).pending = s.pending :=
  (State.tierWrite_step (Step.refl 17593194512384 s) (sub_refl _)).pending rfl

@[simp] theorem State.emcyAt_now (s : State) {x1} {x2} {x3} : (State.emcyAt s x1 x2 x3).now = s.now :=
  (State.emcyAt_step (Step.refl 2092957696 s) (sub_refl _)).now rfl
@[simp] theorem State.emcyAt_wafer (s : State) {x1} {x2} {x3} : (State.emcyAt s x1 x2 x3).wafer = s.wafer :=
  (State.emcyAt_step (Step.refl 2092957696 s) (sub_refl _)).wafer rfl
@[simp] theorem State.emcyAt_beat (s : State) {x1} {x2} {x3} : (State.emcyAt s x1 x2 x3).beat = s.beat :=
  (State.emcyAt_step (Step.refl 2092957696 s) (sub_refl _)).beat rfl
@[simp] theorem State.emcyAt_sessions (s : State) {x1} {x2} {x3} : (State.emcyAt s x1 x2 x3).sessions = s.sessions :=
  (State.emcyAt_step (Step.refl 2092957696 s) (sub_refl _)).sessions rfl
@[simp] theorem State.emcyAt_hostA (s : State) {x1} {x2} {x3} : (State.emcyAt s x1 x2 x3).hostA = s.hostA :=
  (State.emcyAt_step (Step.refl 2092957696 s) (sub_refl _)).hostA rfl
@[simp] theorem State.emcyAt_hostB (s : State) {x1} {x2} {x3} : (State.emcyAt s x1 x2 x3).hostB = s.hostB :=
  (State.emcyAt_step (Step.refl 2092957696 s) (sub_refl _)).hostB rfl
@[simp] theorem State.emcyAt_sq (s : State) {x1} {x2} {x3} : (State.emcyAt s x1 x2 x3).sq = s.sq :=
  (State.emcyAt_step (Step.refl 2092957696 s) (sub_refl _)).sq rfl
@[simp] theorem State.emcyAt_cq (s : State) {x1} {x2} {x3} : (State.emcyAt s x1 x2 x3).cq = s.cq :=
  (State.emcyAt_step (Step.refl 2092957696 s) (sub_refl _)).cq rfl
@[simp] theorem State.emcyAt_lastRing (s : State) {x1} {x2} {x3} : (State.emcyAt s x1 x2 x3).lastRing = s.lastRing :=
  (State.emcyAt_step (Step.refl 2092957696 s) (sub_refl _)).lastRing rfl
@[simp] theorem State.emcyAt_msix (s : State) {x1} {x2} {x3} : (State.emcyAt s x1 x2 x3).msix = s.msix :=
  (State.emcyAt_step (Step.refl 2092957696 s) (sub_refl _)).msix rfl
@[simp] theorem State.emcyAt_pba (s : State) {x1} {x2} {x3} : (State.emcyAt s x1 x2 x3).pba = s.pba :=
  (State.emcyAt_step (Step.refl 2092957696 s) (sub_refl _)).pba rfl
@[simp] theorem State.emcyAt_lists (s : State) {x1} {x2} {x3} : (State.emcyAt s x1 x2 x3).lists = s.lists :=
  (State.emcyAt_step (Step.refl 2092957696 s) (sub_refl _)).lists rfl
@[simp] theorem State.emcyAt_nextList (s : State) {x1} {x2} {x3} : (State.emcyAt s x1 x2 x3).nextList = s.nextList :=
  (State.emcyAt_step (Step.refl 2092957696 s) (sub_refl _)).nextList rfl
@[simp] theorem State.emcyAt_jobs (s : State) {x1} {x2} {x3} : (State.emcyAt s x1 x2 x3).jobs = s.jobs :=
  (State.emcyAt_step (Step.refl 2092957696 s) (sub_refl _)).jobs rfl
@[simp] theorem State.emcyAt_frames (s : State) {x1} {x2} {x3} : (State.emcyAt s x1 x2 x3).frames = s.frames :=
  (State.emcyAt_step (Step.refl 2092957696 s) (sub_refl _)).frames rfl
@[simp] theorem State.emcyAt_nextFrame (s : State) {x1} {x2} {x3} : (State.emcyAt s x1 x2 x3).nextFrame = s.nextFrame :=
  (State.emcyAt_step (Step.refl 2092957696 s) (sub_refl _)).nextFrame rfl
@[simp] theorem State.emcyAt_skips (s : State) {x1} {x2} {x3} : (State.emcyAt s x1 x2 x3).skips = s.skips :=
  (State.emcyAt_step (Step.refl 2092957696 s) (sub_refl _)).skips rfl
@[simp] theorem State.emcyAt_setSkips (s : State) {x1} {x2} {x3} : (State.emcyAt s x1 x2 x3).setSkips = s.setSkips :=
  (State.emcyAt_step (Step.refl 2092957696 s) (sub_refl _)).setSkips rfl
@[simp] theorem State.emcyAt_tier1 (s : State) {x1} {x2} {x3} : (State.emcyAt s x1 x2 x3).tier1 = s.tier1 :=
  (State.emcyAt_step (Step.refl 2092957696 s) (sub_refl _)).tier1 rfl
@[simp] theorem State.emcyAt_granules (s : State) {x1} {x2} {x3} : (State.emcyAt s x1 x2 x3).granules = s.granules :=
  (State.emcyAt_step (Step.refl 2092957696 s) (sub_refl _)).granules rfl
@[simp] theorem State.emcyAt_tier1Bad (s : State) {x1} {x2} {x3} : (State.emcyAt s x1 x2 x3).tier1Bad = s.tier1Bad :=
  (State.emcyAt_step (Step.refl 2092957696 s) (sub_refl _)).tier1Bad rfl
@[simp] theorem State.emcyAt_dram (s : State) {x1} {x2} {x3} : (State.emcyAt s x1 x2 x3).dram = s.dram :=
  (State.emcyAt_step (Step.refl 2092957696 s) (sub_refl _)).dram rfl
@[simp] theorem State.emcyAt_boxA (s : State) {x1} {x2} {x3} : (State.emcyAt s x1 x2 x3).boxA = s.boxA :=
  (State.emcyAt_step (Step.refl 2092957696 s) (sub_refl _)).boxA rfl
@[simp] theorem State.emcyAt_boxB (s : State) {x1} {x2} {x3} : (State.emcyAt s x1 x2 x3).boxB = s.boxB :=
  (State.emcyAt_step (Step.refl 2092957696 s) (sub_refl _)).boxB rfl
@[simp] theorem State.emcyAt_replacement (s : State) {x1} {x2} {x3} : (State.emcyAt s x1 x2 x3).replacement = s.replacement :=
  (State.emcyAt_step (Step.refl 2092957696 s) (sub_refl _)).replacement rfl
@[simp] theorem State.emcyAt_suspects (s : State) {x1} {x2} {x3} : (State.emcyAt s x1 x2 x3).suspects = s.suspects :=
  (State.emcyAt_step (Step.refl 2092957696 s) (sub_refl _)).suspects rfl
@[simp] theorem State.emcyAt_leases (s : State) {x1} {x2} {x3} : (State.emcyAt s x1 x2 x3).leases = s.leases :=
  (State.emcyAt_step (Step.refl 2092957696 s) (sub_refl _)).leases rfl
@[simp] theorem State.emcyAt_dma (s : State) {x1} {x2} {x3} : (State.emcyAt s x1 x2 x3).dma = s.dma :=
  (State.emcyAt_step (Step.refl 2092957696 s) (sub_refl _)).dma rfl
@[simp] theorem State.emcyAt_moves (s : State) {x1} {x2} {x3} : (State.emcyAt s x1 x2 x3).moves = s.moves :=
  (State.emcyAt_step (Step.refl 2092957696 s) (sub_refl _)).moves rfl
@[simp] theorem State.emcyAt_injection (s : State) {x1} {x2} {x3} : (State.emcyAt s x1 x2 x3).injection = s.injection :=
  (State.emcyAt_step (Step.refl 2092957696 s) (sub_refl _)).injection rfl
@[simp] theorem State.emcyAt_tiles (s : State) {x1} {x2} {x3} : (State.emcyAt s x1 x2 x3).tiles = s.tiles :=
  (State.emcyAt_step (Step.refl 2092957696 s) (sub_refl _)).tiles rfl
@[simp] theorem State.emcyAt_mesh (s : State) {x1} {x2} {x3} : (State.emcyAt s x1 x2 x3).mesh = s.mesh :=
  (State.emcyAt_step (Step.refl 2092957696 s) (sub_refl _)).mesh rfl
@[simp] theorem State.emcyAt_attach (s : State) {x1} {x2} {x3} : (State.emcyAt s x1 x2 x3).attach = s.attach :=
  (State.emcyAt_step (Step.refl 2092957696 s) (sub_refl _)).attach rfl
@[simp] theorem State.emcyAt_rewardN (s : State) {x1} {x2} {x3} : (State.emcyAt s x1 x2 x3).rewardN = s.rewardN :=
  (State.emcyAt_step (Step.refl 2092957696 s) (sub_refl _)).rewardN rfl
@[simp] theorem State.emcyAt_rewardSent (s : State) {x1} {x2} {x3} : (State.emcyAt s x1 x2 x3).rewardSent = s.rewardSent :=
  (State.emcyAt_step (Step.refl 2092957696 s) (sub_refl _)).rewardSent rfl
@[simp] theorem State.emcyAt_plans (s : State) {x1} {x2} {x3} : (State.emcyAt s x1 x2 x3).plans = s.plans :=
  (State.emcyAt_step (Step.refl 2092957696 s) (sub_refl _)).plans rfl
@[simp] theorem State.emcyAt_segs (s : State) {x1} {x2} {x3} : (State.emcyAt s x1 x2 x3).segs = s.segs :=
  (State.emcyAt_step (Step.refl 2092957696 s) (sub_refl _)).segs rfl
@[simp] theorem State.emcyAt_segCtr (s : State) {x1} {x2} {x3} : (State.emcyAt s x1 x2 x3).segCtr = s.segCtr :=
  (State.emcyAt_step (Step.refl 2092957696 s) (sub_refl _)).segCtr rfl
@[simp] theorem State.emcyAt_conns (s : State) {x1} {x2} {x3} : (State.emcyAt s x1 x2 x3).conns = s.conns :=
  (State.emcyAt_step (Step.refl 2092957696 s) (sub_refl _)).conns rfl
@[simp] theorem State.emcyAt_wrs (s : State) {x1} {x2} {x3} : (State.emcyAt s x1 x2 x3).wrs = s.wrs :=
  (State.emcyAt_step (Step.refl 2092957696 s) (sub_refl _)).wrs rfl
@[simp] theorem State.emcyAt_nextWr (s : State) {x1} {x2} {x3} : (State.emcyAt s x1 x2 x3).nextWr = s.nextWr :=
  (State.emcyAt_step (Step.refl 2092957696 s) (sub_refl _)).nextWr rfl
@[simp] theorem State.emcyAt_ctrs (s : State) {x1} {x2} {x3} : (State.emcyAt s x1 x2 x3).ctrs = s.ctrs :=
  (State.emcyAt_step (Step.refl 2092957696 s) (sub_refl _)).ctrs rfl
@[simp] theorem State.emcyAt_ports (s : State) {x1} {x2} {x3} : (State.emcyAt s x1 x2 x3).ports = s.ports :=
  (State.emcyAt_step (Step.refl 2092957696 s) (sub_refl _)).ports rfl
@[simp] theorem State.emcyAt_buckets (s : State) {x1} {x2} {x3} : (State.emcyAt s x1 x2 x3).buckets = s.buckets :=
  (State.emcyAt_step (Step.refl 2092957696 s) (sub_refl _)).buckets rfl
@[simp] theorem State.emcyAt_nodes (s : State) {x1} {x2} {x3} : (State.emcyAt s x1 x2 x3).nodes = s.nodes :=
  (State.emcyAt_step (Step.refl 2092957696 s) (sub_refl _)).nodes rfl
@[simp] theorem State.emcyAt_power (s : State) {x1} {x2} {x3} : (State.emcyAt s x1 x2 x3).power = s.power :=
  (State.emcyAt_step (Step.refl 2092957696 s) (sub_refl _)).power rfl
@[simp] theorem State.emcyAt_up (s : State) {x1} {x2} {x3} : (State.emcyAt s x1 x2 x3).up = s.up :=
  (State.emcyAt_step (Step.refl 2092957696 s) (sub_refl _)).up rfl
@[simp] theorem State.emcyAt_fuses (s : State) {x1} {x2} {x3} : (State.emcyAt s x1 x2 x3).fuses = s.fuses :=
  (State.emcyAt_step (Step.refl 2092957696 s) (sub_refl _)).fuses rfl
@[simp] theorem State.emcyAt_fw (s : State) {x1} {x2} {x3} : (State.emcyAt s x1 x2 x3).fw = s.fw :=
  (State.emcyAt_step (Step.refl 2092957696 s) (sub_refl _)).fw rfl
@[simp] theorem State.emcyAt_out (s : State) {x1} {x2} {x3} : (State.emcyAt s x1 x2 x3).out = s.out :=
  (State.emcyAt_step (Step.refl 2092957696 s) (sub_refl _)).out rfl
@[simp] theorem State.emcyAt_fresh (s : State) {x1} {x2} {x3} : (State.emcyAt s x1 x2 x3).fresh = s.fresh :=
  (State.emcyAt_step (Step.refl 2092957696 s) (sub_refl _)).fresh rfl
@[simp] theorem State.emcyAt_pending (s : State) {x1} {x2} {x3} : (State.emcyAt s x1 x2 x3).pending = s.pending :=
  (State.emcyAt_step (Step.refl 2092957696 s) (sub_refl _)).pending rfl

@[simp] theorem State.emcy_now (s : State) {x1} {x2} : (State.emcy s x1 x2).now = s.now :=
  (State.emcy_step (Step.refl 2092957696 s) (sub_refl _)).now rfl
@[simp] theorem State.emcy_wafer (s : State) {x1} {x2} : (State.emcy s x1 x2).wafer = s.wafer :=
  (State.emcy_step (Step.refl 2092957696 s) (sub_refl _)).wafer rfl
@[simp] theorem State.emcy_beat (s : State) {x1} {x2} : (State.emcy s x1 x2).beat = s.beat :=
  (State.emcy_step (Step.refl 2092957696 s) (sub_refl _)).beat rfl
@[simp] theorem State.emcy_sessions (s : State) {x1} {x2} : (State.emcy s x1 x2).sessions = s.sessions :=
  (State.emcy_step (Step.refl 2092957696 s) (sub_refl _)).sessions rfl
@[simp] theorem State.emcy_hostA (s : State) {x1} {x2} : (State.emcy s x1 x2).hostA = s.hostA :=
  (State.emcy_step (Step.refl 2092957696 s) (sub_refl _)).hostA rfl
@[simp] theorem State.emcy_hostB (s : State) {x1} {x2} : (State.emcy s x1 x2).hostB = s.hostB :=
  (State.emcy_step (Step.refl 2092957696 s) (sub_refl _)).hostB rfl
@[simp] theorem State.emcy_sq (s : State) {x1} {x2} : (State.emcy s x1 x2).sq = s.sq :=
  (State.emcy_step (Step.refl 2092957696 s) (sub_refl _)).sq rfl
@[simp] theorem State.emcy_cq (s : State) {x1} {x2} : (State.emcy s x1 x2).cq = s.cq :=
  (State.emcy_step (Step.refl 2092957696 s) (sub_refl _)).cq rfl
@[simp] theorem State.emcy_lastRing (s : State) {x1} {x2} : (State.emcy s x1 x2).lastRing = s.lastRing :=
  (State.emcy_step (Step.refl 2092957696 s) (sub_refl _)).lastRing rfl
@[simp] theorem State.emcy_msix (s : State) {x1} {x2} : (State.emcy s x1 x2).msix = s.msix :=
  (State.emcy_step (Step.refl 2092957696 s) (sub_refl _)).msix rfl
@[simp] theorem State.emcy_pba (s : State) {x1} {x2} : (State.emcy s x1 x2).pba = s.pba :=
  (State.emcy_step (Step.refl 2092957696 s) (sub_refl _)).pba rfl
@[simp] theorem State.emcy_lists (s : State) {x1} {x2} : (State.emcy s x1 x2).lists = s.lists :=
  (State.emcy_step (Step.refl 2092957696 s) (sub_refl _)).lists rfl
@[simp] theorem State.emcy_nextList (s : State) {x1} {x2} : (State.emcy s x1 x2).nextList = s.nextList :=
  (State.emcy_step (Step.refl 2092957696 s) (sub_refl _)).nextList rfl
@[simp] theorem State.emcy_jobs (s : State) {x1} {x2} : (State.emcy s x1 x2).jobs = s.jobs :=
  (State.emcy_step (Step.refl 2092957696 s) (sub_refl _)).jobs rfl
@[simp] theorem State.emcy_frames (s : State) {x1} {x2} : (State.emcy s x1 x2).frames = s.frames :=
  (State.emcy_step (Step.refl 2092957696 s) (sub_refl _)).frames rfl
@[simp] theorem State.emcy_nextFrame (s : State) {x1} {x2} : (State.emcy s x1 x2).nextFrame = s.nextFrame :=
  (State.emcy_step (Step.refl 2092957696 s) (sub_refl _)).nextFrame rfl
@[simp] theorem State.emcy_skips (s : State) {x1} {x2} : (State.emcy s x1 x2).skips = s.skips :=
  (State.emcy_step (Step.refl 2092957696 s) (sub_refl _)).skips rfl
@[simp] theorem State.emcy_setSkips (s : State) {x1} {x2} : (State.emcy s x1 x2).setSkips = s.setSkips :=
  (State.emcy_step (Step.refl 2092957696 s) (sub_refl _)).setSkips rfl
@[simp] theorem State.emcy_tier1 (s : State) {x1} {x2} : (State.emcy s x1 x2).tier1 = s.tier1 :=
  (State.emcy_step (Step.refl 2092957696 s) (sub_refl _)).tier1 rfl
@[simp] theorem State.emcy_granules (s : State) {x1} {x2} : (State.emcy s x1 x2).granules = s.granules :=
  (State.emcy_step (Step.refl 2092957696 s) (sub_refl _)).granules rfl
@[simp] theorem State.emcy_tier1Bad (s : State) {x1} {x2} : (State.emcy s x1 x2).tier1Bad = s.tier1Bad :=
  (State.emcy_step (Step.refl 2092957696 s) (sub_refl _)).tier1Bad rfl
@[simp] theorem State.emcy_dram (s : State) {x1} {x2} : (State.emcy s x1 x2).dram = s.dram :=
  (State.emcy_step (Step.refl 2092957696 s) (sub_refl _)).dram rfl
@[simp] theorem State.emcy_boxA (s : State) {x1} {x2} : (State.emcy s x1 x2).boxA = s.boxA :=
  (State.emcy_step (Step.refl 2092957696 s) (sub_refl _)).boxA rfl
@[simp] theorem State.emcy_boxB (s : State) {x1} {x2} : (State.emcy s x1 x2).boxB = s.boxB :=
  (State.emcy_step (Step.refl 2092957696 s) (sub_refl _)).boxB rfl
@[simp] theorem State.emcy_replacement (s : State) {x1} {x2} : (State.emcy s x1 x2).replacement = s.replacement :=
  (State.emcy_step (Step.refl 2092957696 s) (sub_refl _)).replacement rfl
@[simp] theorem State.emcy_suspects (s : State) {x1} {x2} : (State.emcy s x1 x2).suspects = s.suspects :=
  (State.emcy_step (Step.refl 2092957696 s) (sub_refl _)).suspects rfl
@[simp] theorem State.emcy_leases (s : State) {x1} {x2} : (State.emcy s x1 x2).leases = s.leases :=
  (State.emcy_step (Step.refl 2092957696 s) (sub_refl _)).leases rfl
@[simp] theorem State.emcy_dma (s : State) {x1} {x2} : (State.emcy s x1 x2).dma = s.dma :=
  (State.emcy_step (Step.refl 2092957696 s) (sub_refl _)).dma rfl
@[simp] theorem State.emcy_moves (s : State) {x1} {x2} : (State.emcy s x1 x2).moves = s.moves :=
  (State.emcy_step (Step.refl 2092957696 s) (sub_refl _)).moves rfl
@[simp] theorem State.emcy_injection (s : State) {x1} {x2} : (State.emcy s x1 x2).injection = s.injection :=
  (State.emcy_step (Step.refl 2092957696 s) (sub_refl _)).injection rfl
@[simp] theorem State.emcy_tiles (s : State) {x1} {x2} : (State.emcy s x1 x2).tiles = s.tiles :=
  (State.emcy_step (Step.refl 2092957696 s) (sub_refl _)).tiles rfl
@[simp] theorem State.emcy_mesh (s : State) {x1} {x2} : (State.emcy s x1 x2).mesh = s.mesh :=
  (State.emcy_step (Step.refl 2092957696 s) (sub_refl _)).mesh rfl
@[simp] theorem State.emcy_attach (s : State) {x1} {x2} : (State.emcy s x1 x2).attach = s.attach :=
  (State.emcy_step (Step.refl 2092957696 s) (sub_refl _)).attach rfl
@[simp] theorem State.emcy_rewardN (s : State) {x1} {x2} : (State.emcy s x1 x2).rewardN = s.rewardN :=
  (State.emcy_step (Step.refl 2092957696 s) (sub_refl _)).rewardN rfl
@[simp] theorem State.emcy_rewardSent (s : State) {x1} {x2} : (State.emcy s x1 x2).rewardSent = s.rewardSent :=
  (State.emcy_step (Step.refl 2092957696 s) (sub_refl _)).rewardSent rfl
@[simp] theorem State.emcy_plans (s : State) {x1} {x2} : (State.emcy s x1 x2).plans = s.plans :=
  (State.emcy_step (Step.refl 2092957696 s) (sub_refl _)).plans rfl
@[simp] theorem State.emcy_segs (s : State) {x1} {x2} : (State.emcy s x1 x2).segs = s.segs :=
  (State.emcy_step (Step.refl 2092957696 s) (sub_refl _)).segs rfl
@[simp] theorem State.emcy_segCtr (s : State) {x1} {x2} : (State.emcy s x1 x2).segCtr = s.segCtr :=
  (State.emcy_step (Step.refl 2092957696 s) (sub_refl _)).segCtr rfl
@[simp] theorem State.emcy_conns (s : State) {x1} {x2} : (State.emcy s x1 x2).conns = s.conns :=
  (State.emcy_step (Step.refl 2092957696 s) (sub_refl _)).conns rfl
@[simp] theorem State.emcy_wrs (s : State) {x1} {x2} : (State.emcy s x1 x2).wrs = s.wrs :=
  (State.emcy_step (Step.refl 2092957696 s) (sub_refl _)).wrs rfl
@[simp] theorem State.emcy_nextWr (s : State) {x1} {x2} : (State.emcy s x1 x2).nextWr = s.nextWr :=
  (State.emcy_step (Step.refl 2092957696 s) (sub_refl _)).nextWr rfl
@[simp] theorem State.emcy_ctrs (s : State) {x1} {x2} : (State.emcy s x1 x2).ctrs = s.ctrs :=
  (State.emcy_step (Step.refl 2092957696 s) (sub_refl _)).ctrs rfl
@[simp] theorem State.emcy_ports (s : State) {x1} {x2} : (State.emcy s x1 x2).ports = s.ports :=
  (State.emcy_step (Step.refl 2092957696 s) (sub_refl _)).ports rfl
@[simp] theorem State.emcy_buckets (s : State) {x1} {x2} : (State.emcy s x1 x2).buckets = s.buckets :=
  (State.emcy_step (Step.refl 2092957696 s) (sub_refl _)).buckets rfl
@[simp] theorem State.emcy_nodes (s : State) {x1} {x2} : (State.emcy s x1 x2).nodes = s.nodes :=
  (State.emcy_step (Step.refl 2092957696 s) (sub_refl _)).nodes rfl
@[simp] theorem State.emcy_power (s : State) {x1} {x2} : (State.emcy s x1 x2).power = s.power :=
  (State.emcy_step (Step.refl 2092957696 s) (sub_refl _)).power rfl
@[simp] theorem State.emcy_up (s : State) {x1} {x2} : (State.emcy s x1 x2).up = s.up :=
  (State.emcy_step (Step.refl 2092957696 s) (sub_refl _)).up rfl
@[simp] theorem State.emcy_fuses (s : State) {x1} {x2} : (State.emcy s x1 x2).fuses = s.fuses :=
  (State.emcy_step (Step.refl 2092957696 s) (sub_refl _)).fuses rfl
@[simp] theorem State.emcy_fw (s : State) {x1} {x2} : (State.emcy s x1 x2).fw = s.fw :=
  (State.emcy_step (Step.refl 2092957696 s) (sub_refl _)).fw rfl
@[simp] theorem State.emcy_out (s : State) {x1} {x2} : (State.emcy s x1 x2).out = s.out :=
  (State.emcy_step (Step.refl 2092957696 s) (sub_refl _)).out rfl
@[simp] theorem State.emcy_fresh (s : State) {x1} {x2} : (State.emcy s x1 x2).fresh = s.fresh :=
  (State.emcy_step (Step.refl 2092957696 s) (sub_refl _)).fresh rfl
@[simp] theorem State.emcy_pending (s : State) {x1} {x2} : (State.emcy s x1 x2).pending = s.pending :=
  (State.emcy_step (Step.refl 2092957696 s) (sub_refl _)).pending rfl

@[simp] theorem State.raise_now (s : State) {x1} {x2} : (State.raise s x1 x2).now = s.now :=
  (State.raise_step (Step.refl 72057594037928960 s) (sub_refl _)).now rfl
@[simp] theorem State.raise_wafer (s : State) {x1} {x2} : (State.raise s x1 x2).wafer = s.wafer :=
  (State.raise_step (Step.refl 72057594037928960 s) (sub_refl _)).wafer rfl
@[simp] theorem State.raise_beat (s : State) {x1} {x2} : (State.raise s x1 x2).beat = s.beat :=
  (State.raise_step (Step.refl 72057594037928960 s) (sub_refl _)).beat rfl
@[simp] theorem State.raise_sessions (s : State) {x1} {x2} : (State.raise s x1 x2).sessions = s.sessions :=
  (State.raise_step (Step.refl 72057594037928960 s) (sub_refl _)).sessions rfl
@[simp] theorem State.raise_hostA (s : State) {x1} {x2} : (State.raise s x1 x2).hostA = s.hostA :=
  (State.raise_step (Step.refl 72057594037928960 s) (sub_refl _)).hostA rfl
@[simp] theorem State.raise_hostB (s : State) {x1} {x2} : (State.raise s x1 x2).hostB = s.hostB :=
  (State.raise_step (Step.refl 72057594037928960 s) (sub_refl _)).hostB rfl
@[simp] theorem State.raise_sq (s : State) {x1} {x2} : (State.raise s x1 x2).sq = s.sq :=
  (State.raise_step (Step.refl 72057594037928960 s) (sub_refl _)).sq rfl
@[simp] theorem State.raise_cq (s : State) {x1} {x2} : (State.raise s x1 x2).cq = s.cq :=
  (State.raise_step (Step.refl 72057594037928960 s) (sub_refl _)).cq rfl
@[simp] theorem State.raise_lastRing (s : State) {x1} {x2} : (State.raise s x1 x2).lastRing = s.lastRing :=
  (State.raise_step (Step.refl 72057594037928960 s) (sub_refl _)).lastRing rfl
@[simp] theorem State.raise_msix (s : State) {x1} {x2} : (State.raise s x1 x2).msix = s.msix :=
  (State.raise_step (Step.refl 72057594037928960 s) (sub_refl _)).msix rfl
@[simp] theorem State.raise_lists (s : State) {x1} {x2} : (State.raise s x1 x2).lists = s.lists :=
  (State.raise_step (Step.refl 72057594037928960 s) (sub_refl _)).lists rfl
@[simp] theorem State.raise_nextList (s : State) {x1} {x2} : (State.raise s x1 x2).nextList = s.nextList :=
  (State.raise_step (Step.refl 72057594037928960 s) (sub_refl _)).nextList rfl
@[simp] theorem State.raise_jobs (s : State) {x1} {x2} : (State.raise s x1 x2).jobs = s.jobs :=
  (State.raise_step (Step.refl 72057594037928960 s) (sub_refl _)).jobs rfl
@[simp] theorem State.raise_frames (s : State) {x1} {x2} : (State.raise s x1 x2).frames = s.frames :=
  (State.raise_step (Step.refl 72057594037928960 s) (sub_refl _)).frames rfl
@[simp] theorem State.raise_nextFrame (s : State) {x1} {x2} : (State.raise s x1 x2).nextFrame = s.nextFrame :=
  (State.raise_step (Step.refl 72057594037928960 s) (sub_refl _)).nextFrame rfl
@[simp] theorem State.raise_skips (s : State) {x1} {x2} : (State.raise s x1 x2).skips = s.skips :=
  (State.raise_step (Step.refl 72057594037928960 s) (sub_refl _)).skips rfl
@[simp] theorem State.raise_setSkips (s : State) {x1} {x2} : (State.raise s x1 x2).setSkips = s.setSkips :=
  (State.raise_step (Step.refl 72057594037928960 s) (sub_refl _)).setSkips rfl
@[simp] theorem State.raise_tier1 (s : State) {x1} {x2} : (State.raise s x1 x2).tier1 = s.tier1 :=
  (State.raise_step (Step.refl 72057594037928960 s) (sub_refl _)).tier1 rfl
@[simp] theorem State.raise_granules (s : State) {x1} {x2} : (State.raise s x1 x2).granules = s.granules :=
  (State.raise_step (Step.refl 72057594037928960 s) (sub_refl _)).granules rfl
@[simp] theorem State.raise_tier1Bad (s : State) {x1} {x2} : (State.raise s x1 x2).tier1Bad = s.tier1Bad :=
  (State.raise_step (Step.refl 72057594037928960 s) (sub_refl _)).tier1Bad rfl
@[simp] theorem State.raise_dram (s : State) {x1} {x2} : (State.raise s x1 x2).dram = s.dram :=
  (State.raise_step (Step.refl 72057594037928960 s) (sub_refl _)).dram rfl
@[simp] theorem State.raise_od (s : State) {x1} {x2} : (State.raise s x1 x2).od = s.od :=
  (State.raise_step (Step.refl 72057594037928960 s) (sub_refl _)).od rfl
@[simp] theorem State.raise_can (s : State) {x1} {x2} : (State.raise s x1 x2).can = s.can :=
  (State.raise_step (Step.refl 72057594037928960 s) (sub_refl _)).can rfl
@[simp] theorem State.raise_boxA (s : State) {x1} {x2} : (State.raise s x1 x2).boxA = s.boxA :=
  (State.raise_step (Step.refl 72057594037928960 s) (sub_refl _)).boxA rfl
@[simp] theorem State.raise_boxB (s : State) {x1} {x2} : (State.raise s x1 x2).boxB = s.boxB :=
  (State.raise_step (Step.refl 72057594037928960 s) (sub_refl _)).boxB rfl
@[simp] theorem State.raise_det (s : State) {x1} {x2} : (State.raise s x1 x2).det = s.det :=
  (State.raise_step (Step.refl 72057594037928960 s) (sub_refl _)).det rfl
@[simp] theorem State.raise_log (s : State) {x1} {x2} : (State.raise s x1 x2).log = s.log :=
  (State.raise_step (Step.refl 72057594037928960 s) (sub_refl _)).log rfl
@[simp] theorem State.raise_logMade (s : State) {x1} {x2} : (State.raise s x1 x2).logMade = s.logMade :=
  (State.raise_step (Step.refl 72057594037928960 s) (sub_refl _)).logMade rfl
@[simp] theorem State.raise_faultBuffer (s : State) {x1} {x2} : (State.raise s x1 x2).faultBuffer = s.faultBuffer :=
  (State.raise_step (Step.refl 72057594037928960 s) (sub_refl _)).faultBuffer rfl
@[simp] theorem State.raise_absentEmcy (s : State) {x1} {x2} : (State.raise s x1 x2).absentEmcy = s.absentEmcy :=
  (State.raise_step (Step.refl 72057594037928960 s) (sub_refl _)).absentEmcy rfl
@[simp] theorem State.raise_replacement (s : State) {x1} {x2} : (State.raise s x1 x2).replacement = s.replacement :=
  (State.raise_step (Step.refl 72057594037928960 s) (sub_refl _)).replacement rfl
@[simp] theorem State.raise_suspects (s : State) {x1} {x2} : (State.raise s x1 x2).suspects = s.suspects :=
  (State.raise_step (Step.refl 72057594037928960 s) (sub_refl _)).suspects rfl
@[simp] theorem State.raise_leases (s : State) {x1} {x2} : (State.raise s x1 x2).leases = s.leases :=
  (State.raise_step (Step.refl 72057594037928960 s) (sub_refl _)).leases rfl
@[simp] theorem State.raise_dma (s : State) {x1} {x2} : (State.raise s x1 x2).dma = s.dma :=
  (State.raise_step (Step.refl 72057594037928960 s) (sub_refl _)).dma rfl
@[simp] theorem State.raise_moves (s : State) {x1} {x2} : (State.raise s x1 x2).moves = s.moves :=
  (State.raise_step (Step.refl 72057594037928960 s) (sub_refl _)).moves rfl
@[simp] theorem State.raise_injection (s : State) {x1} {x2} : (State.raise s x1 x2).injection = s.injection :=
  (State.raise_step (Step.refl 72057594037928960 s) (sub_refl _)).injection rfl
@[simp] theorem State.raise_tiles (s : State) {x1} {x2} : (State.raise s x1 x2).tiles = s.tiles :=
  (State.raise_step (Step.refl 72057594037928960 s) (sub_refl _)).tiles rfl
@[simp] theorem State.raise_mesh (s : State) {x1} {x2} : (State.raise s x1 x2).mesh = s.mesh :=
  (State.raise_step (Step.refl 72057594037928960 s) (sub_refl _)).mesh rfl
@[simp] theorem State.raise_attach (s : State) {x1} {x2} : (State.raise s x1 x2).attach = s.attach :=
  (State.raise_step (Step.refl 72057594037928960 s) (sub_refl _)).attach rfl
@[simp] theorem State.raise_rewardN (s : State) {x1} {x2} : (State.raise s x1 x2).rewardN = s.rewardN :=
  (State.raise_step (Step.refl 72057594037928960 s) (sub_refl _)).rewardN rfl
@[simp] theorem State.raise_rewardSent (s : State) {x1} {x2} : (State.raise s x1 x2).rewardSent = s.rewardSent :=
  (State.raise_step (Step.refl 72057594037928960 s) (sub_refl _)).rewardSent rfl
@[simp] theorem State.raise_plans (s : State) {x1} {x2} : (State.raise s x1 x2).plans = s.plans :=
  (State.raise_step (Step.refl 72057594037928960 s) (sub_refl _)).plans rfl
@[simp] theorem State.raise_segs (s : State) {x1} {x2} : (State.raise s x1 x2).segs = s.segs :=
  (State.raise_step (Step.refl 72057594037928960 s) (sub_refl _)).segs rfl
@[simp] theorem State.raise_segCtr (s : State) {x1} {x2} : (State.raise s x1 x2).segCtr = s.segCtr :=
  (State.raise_step (Step.refl 72057594037928960 s) (sub_refl _)).segCtr rfl
@[simp] theorem State.raise_conns (s : State) {x1} {x2} : (State.raise s x1 x2).conns = s.conns :=
  (State.raise_step (Step.refl 72057594037928960 s) (sub_refl _)).conns rfl
@[simp] theorem State.raise_wrs (s : State) {x1} {x2} : (State.raise s x1 x2).wrs = s.wrs :=
  (State.raise_step (Step.refl 72057594037928960 s) (sub_refl _)).wrs rfl
@[simp] theorem State.raise_nextWr (s : State) {x1} {x2} : (State.raise s x1 x2).nextWr = s.nextWr :=
  (State.raise_step (Step.refl 72057594037928960 s) (sub_refl _)).nextWr rfl
@[simp] theorem State.raise_ctrs (s : State) {x1} {x2} : (State.raise s x1 x2).ctrs = s.ctrs :=
  (State.raise_step (Step.refl 72057594037928960 s) (sub_refl _)).ctrs rfl
@[simp] theorem State.raise_ports (s : State) {x1} {x2} : (State.raise s x1 x2).ports = s.ports :=
  (State.raise_step (Step.refl 72057594037928960 s) (sub_refl _)).ports rfl
@[simp] theorem State.raise_buckets (s : State) {x1} {x2} : (State.raise s x1 x2).buckets = s.buckets :=
  (State.raise_step (Step.refl 72057594037928960 s) (sub_refl _)).buckets rfl
@[simp] theorem State.raise_nodes (s : State) {x1} {x2} : (State.raise s x1 x2).nodes = s.nodes :=
  (State.raise_step (Step.refl 72057594037928960 s) (sub_refl _)).nodes rfl
@[simp] theorem State.raise_power (s : State) {x1} {x2} : (State.raise s x1 x2).power = s.power :=
  (State.raise_step (Step.refl 72057594037928960 s) (sub_refl _)).power rfl
@[simp] theorem State.raise_up (s : State) {x1} {x2} : (State.raise s x1 x2).up = s.up :=
  (State.raise_step (Step.refl 72057594037928960 s) (sub_refl _)).up rfl
@[simp] theorem State.raise_fuses (s : State) {x1} {x2} : (State.raise s x1 x2).fuses = s.fuses :=
  (State.raise_step (Step.refl 72057594037928960 s) (sub_refl _)).fuses rfl
@[simp] theorem State.raise_fw (s : State) {x1} {x2} : (State.raise s x1 x2).fw = s.fw :=
  (State.raise_step (Step.refl 72057594037928960 s) (sub_refl _)).fw rfl
@[simp] theorem State.raise_fresh (s : State) {x1} {x2} : (State.raise s x1 x2).fresh = s.fresh :=
  (State.raise_step (Step.refl 72057594037928960 s) (sub_refl _)).fresh rfl
@[simp] theorem State.raise_pending (s : State) {x1} {x2} : (State.raise s x1 x2).pending = s.pending :=
  (State.raise_step (Step.refl 72057594037928960 s) (sub_refl _)).pending rfl

@[simp] theorem State.cqPut_now (s : State) {x1} {x2} {x3} : (State.cqPut s x1 x2 x3).now = s.now :=
  (State.cqPut_step (Step.refl 72075187232441472 s) (sub_refl _)).now rfl
@[simp] theorem State.cqPut_wafer (s : State) {x1} {x2} {x3} : (State.cqPut s x1 x2 x3).wafer = s.wafer :=
  (State.cqPut_step (Step.refl 72075187232441472 s) (sub_refl _)).wafer rfl
@[simp] theorem State.cqPut_beat (s : State) {x1} {x2} {x3} : (State.cqPut s x1 x2 x3).beat = s.beat :=
  (State.cqPut_step (Step.refl 72075187232441472 s) (sub_refl _)).beat rfl
@[simp] theorem State.cqPut_sessions (s : State) {x1} {x2} {x3} : (State.cqPut s x1 x2 x3).sessions = s.sessions :=
  (State.cqPut_step (Step.refl 72075187232441472 s) (sub_refl _)).sessions rfl
@[simp] theorem State.cqPut_hostA (s : State) {x1} {x2} {x3} : (State.cqPut s x1 x2 x3).hostA = s.hostA :=
  (State.cqPut_step (Step.refl 72075187232441472 s) (sub_refl _)).hostA rfl
@[simp] theorem State.cqPut_hostB (s : State) {x1} {x2} {x3} : (State.cqPut s x1 x2 x3).hostB = s.hostB :=
  (State.cqPut_step (Step.refl 72075187232441472 s) (sub_refl _)).hostB rfl
@[simp] theorem State.cqPut_sq (s : State) {x1} {x2} {x3} : (State.cqPut s x1 x2 x3).sq = s.sq :=
  (State.cqPut_step (Step.refl 72075187232441472 s) (sub_refl _)).sq rfl
@[simp] theorem State.cqPut_lastRing (s : State) {x1} {x2} {x3} : (State.cqPut s x1 x2 x3).lastRing = s.lastRing :=
  (State.cqPut_step (Step.refl 72075187232441472 s) (sub_refl _)).lastRing rfl
@[simp] theorem State.cqPut_msix (s : State) {x1} {x2} {x3} : (State.cqPut s x1 x2 x3).msix = s.msix :=
  (State.cqPut_step (Step.refl 72075187232441472 s) (sub_refl _)).msix rfl
@[simp] theorem State.cqPut_lists (s : State) {x1} {x2} {x3} : (State.cqPut s x1 x2 x3).lists = s.lists :=
  (State.cqPut_step (Step.refl 72075187232441472 s) (sub_refl _)).lists rfl
@[simp] theorem State.cqPut_nextList (s : State) {x1} {x2} {x3} : (State.cqPut s x1 x2 x3).nextList = s.nextList :=
  (State.cqPut_step (Step.refl 72075187232441472 s) (sub_refl _)).nextList rfl
@[simp] theorem State.cqPut_jobs (s : State) {x1} {x2} {x3} : (State.cqPut s x1 x2 x3).jobs = s.jobs :=
  (State.cqPut_step (Step.refl 72075187232441472 s) (sub_refl _)).jobs rfl
@[simp] theorem State.cqPut_frames (s : State) {x1} {x2} {x3} : (State.cqPut s x1 x2 x3).frames = s.frames :=
  (State.cqPut_step (Step.refl 72075187232441472 s) (sub_refl _)).frames rfl
@[simp] theorem State.cqPut_nextFrame (s : State) {x1} {x2} {x3} : (State.cqPut s x1 x2 x3).nextFrame = s.nextFrame :=
  (State.cqPut_step (Step.refl 72075187232441472 s) (sub_refl _)).nextFrame rfl
@[simp] theorem State.cqPut_skips (s : State) {x1} {x2} {x3} : (State.cqPut s x1 x2 x3).skips = s.skips :=
  (State.cqPut_step (Step.refl 72075187232441472 s) (sub_refl _)).skips rfl
@[simp] theorem State.cqPut_setSkips (s : State) {x1} {x2} {x3} : (State.cqPut s x1 x2 x3).setSkips = s.setSkips :=
  (State.cqPut_step (Step.refl 72075187232441472 s) (sub_refl _)).setSkips rfl
@[simp] theorem State.cqPut_dram (s : State) {x1} {x2} {x3} : (State.cqPut s x1 x2 x3).dram = s.dram :=
  (State.cqPut_step (Step.refl 72075187232441472 s) (sub_refl _)).dram rfl
@[simp] theorem State.cqPut_od (s : State) {x1} {x2} {x3} : (State.cqPut s x1 x2 x3).od = s.od :=
  (State.cqPut_step (Step.refl 72075187232441472 s) (sub_refl _)).od rfl
@[simp] theorem State.cqPut_can (s : State) {x1} {x2} {x3} : (State.cqPut s x1 x2 x3).can = s.can :=
  (State.cqPut_step (Step.refl 72075187232441472 s) (sub_refl _)).can rfl
@[simp] theorem State.cqPut_boxA (s : State) {x1} {x2} {x3} : (State.cqPut s x1 x2 x3).boxA = s.boxA :=
  (State.cqPut_step (Step.refl 72075187232441472 s) (sub_refl _)).boxA rfl
@[simp] theorem State.cqPut_boxB (s : State) {x1} {x2} {x3} : (State.cqPut s x1 x2 x3).boxB = s.boxB :=
  (State.cqPut_step (Step.refl 72075187232441472 s) (sub_refl _)).boxB rfl
@[simp] theorem State.cqPut_absentEmcy (s : State) {x1} {x2} {x3} : (State.cqPut s x1 x2 x3).absentEmcy = s.absentEmcy :=
  (State.cqPut_step (Step.refl 72075187232441472 s) (sub_refl _)).absentEmcy rfl
@[simp] theorem State.cqPut_replacement (s : State) {x1} {x2} {x3} : (State.cqPut s x1 x2 x3).replacement = s.replacement :=
  (State.cqPut_step (Step.refl 72075187232441472 s) (sub_refl _)).replacement rfl
@[simp] theorem State.cqPut_suspects (s : State) {x1} {x2} {x3} : (State.cqPut s x1 x2 x3).suspects = s.suspects :=
  (State.cqPut_step (Step.refl 72075187232441472 s) (sub_refl _)).suspects rfl
@[simp] theorem State.cqPut_leases (s : State) {x1} {x2} {x3} : (State.cqPut s x1 x2 x3).leases = s.leases :=
  (State.cqPut_step (Step.refl 72075187232441472 s) (sub_refl _)).leases rfl
@[simp] theorem State.cqPut_dma (s : State) {x1} {x2} {x3} : (State.cqPut s x1 x2 x3).dma = s.dma :=
  (State.cqPut_step (Step.refl 72075187232441472 s) (sub_refl _)).dma rfl
@[simp] theorem State.cqPut_moves (s : State) {x1} {x2} {x3} : (State.cqPut s x1 x2 x3).moves = s.moves :=
  (State.cqPut_step (Step.refl 72075187232441472 s) (sub_refl _)).moves rfl
@[simp] theorem State.cqPut_injection (s : State) {x1} {x2} {x3} : (State.cqPut s x1 x2 x3).injection = s.injection :=
  (State.cqPut_step (Step.refl 72075187232441472 s) (sub_refl _)).injection rfl
@[simp] theorem State.cqPut_tiles (s : State) {x1} {x2} {x3} : (State.cqPut s x1 x2 x3).tiles = s.tiles :=
  (State.cqPut_step (Step.refl 72075187232441472 s) (sub_refl _)).tiles rfl
@[simp] theorem State.cqPut_mesh (s : State) {x1} {x2} {x3} : (State.cqPut s x1 x2 x3).mesh = s.mesh :=
  (State.cqPut_step (Step.refl 72075187232441472 s) (sub_refl _)).mesh rfl
@[simp] theorem State.cqPut_attach (s : State) {x1} {x2} {x3} : (State.cqPut s x1 x2 x3).attach = s.attach :=
  (State.cqPut_step (Step.refl 72075187232441472 s) (sub_refl _)).attach rfl
@[simp] theorem State.cqPut_rewardN (s : State) {x1} {x2} {x3} : (State.cqPut s x1 x2 x3).rewardN = s.rewardN :=
  (State.cqPut_step (Step.refl 72075187232441472 s) (sub_refl _)).rewardN rfl
@[simp] theorem State.cqPut_rewardSent (s : State) {x1} {x2} {x3} : (State.cqPut s x1 x2 x3).rewardSent = s.rewardSent :=
  (State.cqPut_step (Step.refl 72075187232441472 s) (sub_refl _)).rewardSent rfl
@[simp] theorem State.cqPut_plans (s : State) {x1} {x2} {x3} : (State.cqPut s x1 x2 x3).plans = s.plans :=
  (State.cqPut_step (Step.refl 72075187232441472 s) (sub_refl _)).plans rfl
@[simp] theorem State.cqPut_segs (s : State) {x1} {x2} {x3} : (State.cqPut s x1 x2 x3).segs = s.segs :=
  (State.cqPut_step (Step.refl 72075187232441472 s) (sub_refl _)).segs rfl
@[simp] theorem State.cqPut_conns (s : State) {x1} {x2} {x3} : (State.cqPut s x1 x2 x3).conns = s.conns :=
  (State.cqPut_step (Step.refl 72075187232441472 s) (sub_refl _)).conns rfl
@[simp] theorem State.cqPut_wrs (s : State) {x1} {x2} {x3} : (State.cqPut s x1 x2 x3).wrs = s.wrs :=
  (State.cqPut_step (Step.refl 72075187232441472 s) (sub_refl _)).wrs rfl
@[simp] theorem State.cqPut_nextWr (s : State) {x1} {x2} {x3} : (State.cqPut s x1 x2 x3).nextWr = s.nextWr :=
  (State.cqPut_step (Step.refl 72075187232441472 s) (sub_refl _)).nextWr rfl
@[simp] theorem State.cqPut_ctrs (s : State) {x1} {x2} {x3} : (State.cqPut s x1 x2 x3).ctrs = s.ctrs :=
  (State.cqPut_step (Step.refl 72075187232441472 s) (sub_refl _)).ctrs rfl
@[simp] theorem State.cqPut_ports (s : State) {x1} {x2} {x3} : (State.cqPut s x1 x2 x3).ports = s.ports :=
  (State.cqPut_step (Step.refl 72075187232441472 s) (sub_refl _)).ports rfl
@[simp] theorem State.cqPut_buckets (s : State) {x1} {x2} {x3} : (State.cqPut s x1 x2 x3).buckets = s.buckets :=
  (State.cqPut_step (Step.refl 72075187232441472 s) (sub_refl _)).buckets rfl
@[simp] theorem State.cqPut_nodes (s : State) {x1} {x2} {x3} : (State.cqPut s x1 x2 x3).nodes = s.nodes :=
  (State.cqPut_step (Step.refl 72075187232441472 s) (sub_refl _)).nodes rfl
@[simp] theorem State.cqPut_power (s : State) {x1} {x2} {x3} : (State.cqPut s x1 x2 x3).power = s.power :=
  (State.cqPut_step (Step.refl 72075187232441472 s) (sub_refl _)).power rfl
@[simp] theorem State.cqPut_up (s : State) {x1} {x2} {x3} : (State.cqPut s x1 x2 x3).up = s.up :=
  (State.cqPut_step (Step.refl 72075187232441472 s) (sub_refl _)).up rfl
@[simp] theorem State.cqPut_fuses (s : State) {x1} {x2} {x3} : (State.cqPut s x1 x2 x3).fuses = s.fuses :=
  (State.cqPut_step (Step.refl 72075187232441472 s) (sub_refl _)).fuses rfl
@[simp] theorem State.cqPut_fw (s : State) {x1} {x2} {x3} : (State.cqPut s x1 x2 x3).fw = s.fw :=
  (State.cqPut_step (Step.refl 72075187232441472 s) (sub_refl _)).fw rfl
@[simp] theorem State.cqPut_fresh (s : State) {x1} {x2} {x3} : (State.cqPut s x1 x2 x3).fresh = s.fresh :=
  (State.cqPut_step (Step.refl 72075187232441472 s) (sub_refl _)).fresh rfl
@[simp] theorem State.cqPut_pending (s : State) {x1} {x2} {x3} : (State.cqPut s x1 x2 x3).pending = s.pending :=
  (State.cqPut_step (Step.refl 72075187232441472 s) (sub_refl _)).pending rfl

@[simp] theorem State.event_now (s : State) {x1} {x2} {x3} {x4} {x5} : (State.event s x1 x2 x3 x4 x5).now = s.now :=
  (State.event_step (Step.refl 72075187236635824 s) (sub_refl _)).now rfl
@[simp] theorem State.event_wafer (s : State) {x1} {x2} {x3} {x4} {x5} : (State.event s x1 x2 x3 x4 x5).wafer = s.wafer :=
  (State.event_step (Step.refl 72075187236635824 s) (sub_refl _)).wafer rfl
@[simp] theorem State.event_beat (s : State) {x1} {x2} {x3} {x4} {x5} : (State.event s x1 x2 x3 x4 x5).beat = s.beat :=
  (State.event_step (Step.refl 72075187236635824 s) (sub_refl _)).beat rfl
@[simp] theorem State.event_sessions (s : State) {x1} {x2} {x3} {x4} {x5} : (State.event s x1 x2 x3 x4 x5).sessions = s.sessions :=
  (State.event_step (Step.refl 72075187236635824 s) (sub_refl _)).sessions rfl
@[simp] theorem State.event_sq (s : State) {x1} {x2} {x3} {x4} {x5} : (State.event s x1 x2 x3 x4 x5).sq = s.sq :=
  (State.event_step (Step.refl 72075187236635824 s) (sub_refl _)).sq rfl
@[simp] theorem State.event_lastRing (s : State) {x1} {x2} {x3} {x4} {x5} : (State.event s x1 x2 x3 x4 x5).lastRing = s.lastRing :=
  (State.event_step (Step.refl 72075187236635824 s) (sub_refl _)).lastRing rfl
@[simp] theorem State.event_msix (s : State) {x1} {x2} {x3} {x4} {x5} : (State.event s x1 x2 x3 x4 x5).msix = s.msix :=
  (State.event_step (Step.refl 72075187236635824 s) (sub_refl _)).msix rfl
@[simp] theorem State.event_lists (s : State) {x1} {x2} {x3} {x4} {x5} : (State.event s x1 x2 x3 x4 x5).lists = s.lists :=
  (State.event_step (Step.refl 72075187236635824 s) (sub_refl _)).lists rfl
@[simp] theorem State.event_nextList (s : State) {x1} {x2} {x3} {x4} {x5} : (State.event s x1 x2 x3 x4 x5).nextList = s.nextList :=
  (State.event_step (Step.refl 72075187236635824 s) (sub_refl _)).nextList rfl
@[simp] theorem State.event_jobs (s : State) {x1} {x2} {x3} {x4} {x5} : (State.event s x1 x2 x3 x4 x5).jobs = s.jobs :=
  (State.event_step (Step.refl 72075187236635824 s) (sub_refl _)).jobs rfl
@[simp] theorem State.event_frames (s : State) {x1} {x2} {x3} {x4} {x5} : (State.event s x1 x2 x3 x4 x5).frames = s.frames :=
  (State.event_step (Step.refl 72075187236635824 s) (sub_refl _)).frames rfl
@[simp] theorem State.event_nextFrame (s : State) {x1} {x2} {x3} {x4} {x5} : (State.event s x1 x2 x3 x4 x5).nextFrame = s.nextFrame :=
  (State.event_step (Step.refl 72075187236635824 s) (sub_refl _)).nextFrame rfl
@[simp] theorem State.event_skips (s : State) {x1} {x2} {x3} {x4} {x5} : (State.event s x1 x2 x3 x4 x5).skips = s.skips :=
  (State.event_step (Step.refl 72075187236635824 s) (sub_refl _)).skips rfl
@[simp] theorem State.event_setSkips (s : State) {x1} {x2} {x3} {x4} {x5} : (State.event s x1 x2 x3 x4 x5).setSkips = s.setSkips :=
  (State.event_step (Step.refl 72075187236635824 s) (sub_refl _)).setSkips rfl
@[simp] theorem State.event_dram (s : State) {x1} {x2} {x3} {x4} {x5} : (State.event s x1 x2 x3 x4 x5).dram = s.dram :=
  (State.event_step (Step.refl 72075187236635824 s) (sub_refl _)).dram rfl
@[simp] theorem State.event_can (s : State) {x1} {x2} {x3} {x4} {x5} : (State.event s x1 x2 x3 x4 x5).can = s.can :=
  (State.event_step (Step.refl 72075187236635824 s) (sub_refl _)).can rfl
@[simp] theorem State.event_boxA (s : State) {x1} {x2} {x3} {x4} {x5} : (State.event s x1 x2 x3 x4 x5).boxA = s.boxA :=
  (State.event_step (Step.refl 72075187236635824 s) (sub_refl _)).boxA rfl
@[simp] theorem State.event_boxB (s : State) {x1} {x2} {x3} {x4} {x5} : (State.event s x1 x2 x3 x4 x5).boxB = s.boxB :=
  (State.event_step (Step.refl 72075187236635824 s) (sub_refl _)).boxB rfl
@[simp] theorem State.event_absentEmcy (s : State) {x1} {x2} {x3} {x4} {x5} : (State.event s x1 x2 x3 x4 x5).absentEmcy = s.absentEmcy :=
  (State.event_step (Step.refl 72075187236635824 s) (sub_refl _)).absentEmcy rfl
@[simp] theorem State.event_replacement (s : State) {x1} {x2} {x3} {x4} {x5} : (State.event s x1 x2 x3 x4 x5).replacement = s.replacement :=
  (State.event_step (Step.refl 72075187236635824 s) (sub_refl _)).replacement rfl
@[simp] theorem State.event_suspects (s : State) {x1} {x2} {x3} {x4} {x5} : (State.event s x1 x2 x3 x4 x5).suspects = s.suspects :=
  (State.event_step (Step.refl 72075187236635824 s) (sub_refl _)).suspects rfl
@[simp] theorem State.event_leases (s : State) {x1} {x2} {x3} {x4} {x5} : (State.event s x1 x2 x3 x4 x5).leases = s.leases :=
  (State.event_step (Step.refl 72075187236635824 s) (sub_refl _)).leases rfl
@[simp] theorem State.event_dma (s : State) {x1} {x2} {x3} {x4} {x5} : (State.event s x1 x2 x3 x4 x5).dma = s.dma :=
  (State.event_step (Step.refl 72075187236635824 s) (sub_refl _)).dma rfl
@[simp] theorem State.event_moves (s : State) {x1} {x2} {x3} {x4} {x5} : (State.event s x1 x2 x3 x4 x5).moves = s.moves :=
  (State.event_step (Step.refl 72075187236635824 s) (sub_refl _)).moves rfl
@[simp] theorem State.event_injection (s : State) {x1} {x2} {x3} {x4} {x5} : (State.event s x1 x2 x3 x4 x5).injection = s.injection :=
  (State.event_step (Step.refl 72075187236635824 s) (sub_refl _)).injection rfl
@[simp] theorem State.event_tiles (s : State) {x1} {x2} {x3} {x4} {x5} : (State.event s x1 x2 x3 x4 x5).tiles = s.tiles :=
  (State.event_step (Step.refl 72075187236635824 s) (sub_refl _)).tiles rfl
@[simp] theorem State.event_mesh (s : State) {x1} {x2} {x3} {x4} {x5} : (State.event s x1 x2 x3 x4 x5).mesh = s.mesh :=
  (State.event_step (Step.refl 72075187236635824 s) (sub_refl _)).mesh rfl
@[simp] theorem State.event_attach (s : State) {x1} {x2} {x3} {x4} {x5} : (State.event s x1 x2 x3 x4 x5).attach = s.attach :=
  (State.event_step (Step.refl 72075187236635824 s) (sub_refl _)).attach rfl
@[simp] theorem State.event_rewardN (s : State) {x1} {x2} {x3} {x4} {x5} : (State.event s x1 x2 x3 x4 x5).rewardN = s.rewardN :=
  (State.event_step (Step.refl 72075187236635824 s) (sub_refl _)).rewardN rfl
@[simp] theorem State.event_rewardSent (s : State) {x1} {x2} {x3} {x4} {x5} : (State.event s x1 x2 x3 x4 x5).rewardSent = s.rewardSent :=
  (State.event_step (Step.refl 72075187236635824 s) (sub_refl _)).rewardSent rfl
@[simp] theorem State.event_plans (s : State) {x1} {x2} {x3} {x4} {x5} : (State.event s x1 x2 x3 x4 x5).plans = s.plans :=
  (State.event_step (Step.refl 72075187236635824 s) (sub_refl _)).plans rfl
@[simp] theorem State.event_segs (s : State) {x1} {x2} {x3} {x4} {x5} : (State.event s x1 x2 x3 x4 x5).segs = s.segs :=
  (State.event_step (Step.refl 72075187236635824 s) (sub_refl _)).segs rfl
@[simp] theorem State.event_conns (s : State) {x1} {x2} {x3} {x4} {x5} : (State.event s x1 x2 x3 x4 x5).conns = s.conns :=
  (State.event_step (Step.refl 72075187236635824 s) (sub_refl _)).conns rfl
@[simp] theorem State.event_wrs (s : State) {x1} {x2} {x3} {x4} {x5} : (State.event s x1 x2 x3 x4 x5).wrs = s.wrs :=
  (State.event_step (Step.refl 72075187236635824 s) (sub_refl _)).wrs rfl
@[simp] theorem State.event_nextWr (s : State) {x1} {x2} {x3} {x4} {x5} : (State.event s x1 x2 x3 x4 x5).nextWr = s.nextWr :=
  (State.event_step (Step.refl 72075187236635824 s) (sub_refl _)).nextWr rfl
@[simp] theorem State.event_ctrs (s : State) {x1} {x2} {x3} {x4} {x5} : (State.event s x1 x2 x3 x4 x5).ctrs = s.ctrs :=
  (State.event_step (Step.refl 72075187236635824 s) (sub_refl _)).ctrs rfl
@[simp] theorem State.event_ports (s : State) {x1} {x2} {x3} {x4} {x5} : (State.event s x1 x2 x3 x4 x5).ports = s.ports :=
  (State.event_step (Step.refl 72075187236635824 s) (sub_refl _)).ports rfl
@[simp] theorem State.event_buckets (s : State) {x1} {x2} {x3} {x4} {x5} : (State.event s x1 x2 x3 x4 x5).buckets = s.buckets :=
  (State.event_step (Step.refl 72075187236635824 s) (sub_refl _)).buckets rfl
@[simp] theorem State.event_nodes (s : State) {x1} {x2} {x3} {x4} {x5} : (State.event s x1 x2 x3 x4 x5).nodes = s.nodes :=
  (State.event_step (Step.refl 72075187236635824 s) (sub_refl _)).nodes rfl
@[simp] theorem State.event_power (s : State) {x1} {x2} {x3} {x4} {x5} : (State.event s x1 x2 x3 x4 x5).power = s.power :=
  (State.event_step (Step.refl 72075187236635824 s) (sub_refl _)).power rfl
@[simp] theorem State.event_up (s : State) {x1} {x2} {x3} {x4} {x5} : (State.event s x1 x2 x3 x4 x5).up = s.up :=
  (State.event_step (Step.refl 72075187236635824 s) (sub_refl _)).up rfl
@[simp] theorem State.event_fuses (s : State) {x1} {x2} {x3} {x4} {x5} : (State.event s x1 x2 x3 x4 x5).fuses = s.fuses :=
  (State.event_step (Step.refl 72075187236635824 s) (sub_refl _)).fuses rfl
@[simp] theorem State.event_fw (s : State) {x1} {x2} {x3} {x4} {x5} : (State.event s x1 x2 x3 x4 x5).fw = s.fw :=
  (State.event_step (Step.refl 72075187236635824 s) (sub_refl _)).fw rfl
@[simp] theorem State.event_fresh (s : State) {x1} {x2} {x3} {x4} {x5} : (State.event s x1 x2 x3 x4 x5).fresh = s.fresh :=
  (State.event_step (Step.refl 72075187236635824 s) (sub_refl _)).fresh rfl
@[simp] theorem State.event_pending (s : State) {x1} {x2} {x3} {x4} {x5} : (State.event s x1 x2 x3 x4 x5).pending = s.pending :=
  (State.event_step (Step.refl 72075187236635824 s) (sub_refl _)).pending rfl

@[simp] theorem State.eventAll_now (s : State) {x1} {x2} {x3} {x4} : (State.eventAll s x1 x2 x3 x4).now = s.now :=
  (State.eventAll_step (Step.refl 72075187236635824 s) (sub_refl _)).now rfl
@[simp] theorem State.eventAll_wafer (s : State) {x1} {x2} {x3} {x4} : (State.eventAll s x1 x2 x3 x4).wafer = s.wafer :=
  (State.eventAll_step (Step.refl 72075187236635824 s) (sub_refl _)).wafer rfl
@[simp] theorem State.eventAll_beat (s : State) {x1} {x2} {x3} {x4} : (State.eventAll s x1 x2 x3 x4).beat = s.beat :=
  (State.eventAll_step (Step.refl 72075187236635824 s) (sub_refl _)).beat rfl
@[simp] theorem State.eventAll_sessions (s : State) {x1} {x2} {x3} {x4} : (State.eventAll s x1 x2 x3 x4).sessions = s.sessions :=
  (State.eventAll_step (Step.refl 72075187236635824 s) (sub_refl _)).sessions rfl
@[simp] theorem State.eventAll_sq (s : State) {x1} {x2} {x3} {x4} : (State.eventAll s x1 x2 x3 x4).sq = s.sq :=
  (State.eventAll_step (Step.refl 72075187236635824 s) (sub_refl _)).sq rfl
@[simp] theorem State.eventAll_lastRing (s : State) {x1} {x2} {x3} {x4} : (State.eventAll s x1 x2 x3 x4).lastRing = s.lastRing :=
  (State.eventAll_step (Step.refl 72075187236635824 s) (sub_refl _)).lastRing rfl
@[simp] theorem State.eventAll_msix (s : State) {x1} {x2} {x3} {x4} : (State.eventAll s x1 x2 x3 x4).msix = s.msix :=
  (State.eventAll_step (Step.refl 72075187236635824 s) (sub_refl _)).msix rfl
@[simp] theorem State.eventAll_lists (s : State) {x1} {x2} {x3} {x4} : (State.eventAll s x1 x2 x3 x4).lists = s.lists :=
  (State.eventAll_step (Step.refl 72075187236635824 s) (sub_refl _)).lists rfl
@[simp] theorem State.eventAll_nextList (s : State) {x1} {x2} {x3} {x4} : (State.eventAll s x1 x2 x3 x4).nextList = s.nextList :=
  (State.eventAll_step (Step.refl 72075187236635824 s) (sub_refl _)).nextList rfl
@[simp] theorem State.eventAll_jobs (s : State) {x1} {x2} {x3} {x4} : (State.eventAll s x1 x2 x3 x4).jobs = s.jobs :=
  (State.eventAll_step (Step.refl 72075187236635824 s) (sub_refl _)).jobs rfl
@[simp] theorem State.eventAll_frames (s : State) {x1} {x2} {x3} {x4} : (State.eventAll s x1 x2 x3 x4).frames = s.frames :=
  (State.eventAll_step (Step.refl 72075187236635824 s) (sub_refl _)).frames rfl
@[simp] theorem State.eventAll_nextFrame (s : State) {x1} {x2} {x3} {x4} : (State.eventAll s x1 x2 x3 x4).nextFrame = s.nextFrame :=
  (State.eventAll_step (Step.refl 72075187236635824 s) (sub_refl _)).nextFrame rfl
@[simp] theorem State.eventAll_skips (s : State) {x1} {x2} {x3} {x4} : (State.eventAll s x1 x2 x3 x4).skips = s.skips :=
  (State.eventAll_step (Step.refl 72075187236635824 s) (sub_refl _)).skips rfl
@[simp] theorem State.eventAll_setSkips (s : State) {x1} {x2} {x3} {x4} : (State.eventAll s x1 x2 x3 x4).setSkips = s.setSkips :=
  (State.eventAll_step (Step.refl 72075187236635824 s) (sub_refl _)).setSkips rfl
@[simp] theorem State.eventAll_dram (s : State) {x1} {x2} {x3} {x4} : (State.eventAll s x1 x2 x3 x4).dram = s.dram :=
  (State.eventAll_step (Step.refl 72075187236635824 s) (sub_refl _)).dram rfl
@[simp] theorem State.eventAll_can (s : State) {x1} {x2} {x3} {x4} : (State.eventAll s x1 x2 x3 x4).can = s.can :=
  (State.eventAll_step (Step.refl 72075187236635824 s) (sub_refl _)).can rfl
@[simp] theorem State.eventAll_boxA (s : State) {x1} {x2} {x3} {x4} : (State.eventAll s x1 x2 x3 x4).boxA = s.boxA :=
  (State.eventAll_step (Step.refl 72075187236635824 s) (sub_refl _)).boxA rfl
@[simp] theorem State.eventAll_boxB (s : State) {x1} {x2} {x3} {x4} : (State.eventAll s x1 x2 x3 x4).boxB = s.boxB :=
  (State.eventAll_step (Step.refl 72075187236635824 s) (sub_refl _)).boxB rfl
@[simp] theorem State.eventAll_absentEmcy (s : State) {x1} {x2} {x3} {x4} : (State.eventAll s x1 x2 x3 x4).absentEmcy = s.absentEmcy :=
  (State.eventAll_step (Step.refl 72075187236635824 s) (sub_refl _)).absentEmcy rfl
@[simp] theorem State.eventAll_replacement (s : State) {x1} {x2} {x3} {x4} : (State.eventAll s x1 x2 x3 x4).replacement = s.replacement :=
  (State.eventAll_step (Step.refl 72075187236635824 s) (sub_refl _)).replacement rfl
@[simp] theorem State.eventAll_suspects (s : State) {x1} {x2} {x3} {x4} : (State.eventAll s x1 x2 x3 x4).suspects = s.suspects :=
  (State.eventAll_step (Step.refl 72075187236635824 s) (sub_refl _)).suspects rfl
@[simp] theorem State.eventAll_leases (s : State) {x1} {x2} {x3} {x4} : (State.eventAll s x1 x2 x3 x4).leases = s.leases :=
  (State.eventAll_step (Step.refl 72075187236635824 s) (sub_refl _)).leases rfl
@[simp] theorem State.eventAll_dma (s : State) {x1} {x2} {x3} {x4} : (State.eventAll s x1 x2 x3 x4).dma = s.dma :=
  (State.eventAll_step (Step.refl 72075187236635824 s) (sub_refl _)).dma rfl
@[simp] theorem State.eventAll_moves (s : State) {x1} {x2} {x3} {x4} : (State.eventAll s x1 x2 x3 x4).moves = s.moves :=
  (State.eventAll_step (Step.refl 72075187236635824 s) (sub_refl _)).moves rfl
@[simp] theorem State.eventAll_injection (s : State) {x1} {x2} {x3} {x4} : (State.eventAll s x1 x2 x3 x4).injection = s.injection :=
  (State.eventAll_step (Step.refl 72075187236635824 s) (sub_refl _)).injection rfl
@[simp] theorem State.eventAll_tiles (s : State) {x1} {x2} {x3} {x4} : (State.eventAll s x1 x2 x3 x4).tiles = s.tiles :=
  (State.eventAll_step (Step.refl 72075187236635824 s) (sub_refl _)).tiles rfl
@[simp] theorem State.eventAll_mesh (s : State) {x1} {x2} {x3} {x4} : (State.eventAll s x1 x2 x3 x4).mesh = s.mesh :=
  (State.eventAll_step (Step.refl 72075187236635824 s) (sub_refl _)).mesh rfl
@[simp] theorem State.eventAll_attach (s : State) {x1} {x2} {x3} {x4} : (State.eventAll s x1 x2 x3 x4).attach = s.attach :=
  (State.eventAll_step (Step.refl 72075187236635824 s) (sub_refl _)).attach rfl
@[simp] theorem State.eventAll_rewardN (s : State) {x1} {x2} {x3} {x4} : (State.eventAll s x1 x2 x3 x4).rewardN = s.rewardN :=
  (State.eventAll_step (Step.refl 72075187236635824 s) (sub_refl _)).rewardN rfl
@[simp] theorem State.eventAll_rewardSent (s : State) {x1} {x2} {x3} {x4} : (State.eventAll s x1 x2 x3 x4).rewardSent = s.rewardSent :=
  (State.eventAll_step (Step.refl 72075187236635824 s) (sub_refl _)).rewardSent rfl
@[simp] theorem State.eventAll_plans (s : State) {x1} {x2} {x3} {x4} : (State.eventAll s x1 x2 x3 x4).plans = s.plans :=
  (State.eventAll_step (Step.refl 72075187236635824 s) (sub_refl _)).plans rfl
@[simp] theorem State.eventAll_segs (s : State) {x1} {x2} {x3} {x4} : (State.eventAll s x1 x2 x3 x4).segs = s.segs :=
  (State.eventAll_step (Step.refl 72075187236635824 s) (sub_refl _)).segs rfl
@[simp] theorem State.eventAll_conns (s : State) {x1} {x2} {x3} {x4} : (State.eventAll s x1 x2 x3 x4).conns = s.conns :=
  (State.eventAll_step (Step.refl 72075187236635824 s) (sub_refl _)).conns rfl
@[simp] theorem State.eventAll_wrs (s : State) {x1} {x2} {x3} {x4} : (State.eventAll s x1 x2 x3 x4).wrs = s.wrs :=
  (State.eventAll_step (Step.refl 72075187236635824 s) (sub_refl _)).wrs rfl
@[simp] theorem State.eventAll_nextWr (s : State) {x1} {x2} {x3} {x4} : (State.eventAll s x1 x2 x3 x4).nextWr = s.nextWr :=
  (State.eventAll_step (Step.refl 72075187236635824 s) (sub_refl _)).nextWr rfl
@[simp] theorem State.eventAll_ctrs (s : State) {x1} {x2} {x3} {x4} : (State.eventAll s x1 x2 x3 x4).ctrs = s.ctrs :=
  (State.eventAll_step (Step.refl 72075187236635824 s) (sub_refl _)).ctrs rfl
@[simp] theorem State.eventAll_ports (s : State) {x1} {x2} {x3} {x4} : (State.eventAll s x1 x2 x3 x4).ports = s.ports :=
  (State.eventAll_step (Step.refl 72075187236635824 s) (sub_refl _)).ports rfl
@[simp] theorem State.eventAll_buckets (s : State) {x1} {x2} {x3} {x4} : (State.eventAll s x1 x2 x3 x4).buckets = s.buckets :=
  (State.eventAll_step (Step.refl 72075187236635824 s) (sub_refl _)).buckets rfl
@[simp] theorem State.eventAll_nodes (s : State) {x1} {x2} {x3} {x4} : (State.eventAll s x1 x2 x3 x4).nodes = s.nodes :=
  (State.eventAll_step (Step.refl 72075187236635824 s) (sub_refl _)).nodes rfl
@[simp] theorem State.eventAll_power (s : State) {x1} {x2} {x3} {x4} : (State.eventAll s x1 x2 x3 x4).power = s.power :=
  (State.eventAll_step (Step.refl 72075187236635824 s) (sub_refl _)).power rfl
@[simp] theorem State.eventAll_up (s : State) {x1} {x2} {x3} {x4} : (State.eventAll s x1 x2 x3 x4).up = s.up :=
  (State.eventAll_step (Step.refl 72075187236635824 s) (sub_refl _)).up rfl
@[simp] theorem State.eventAll_fuses (s : State) {x1} {x2} {x3} {x4} : (State.eventAll s x1 x2 x3 x4).fuses = s.fuses :=
  (State.eventAll_step (Step.refl 72075187236635824 s) (sub_refl _)).fuses rfl
@[simp] theorem State.eventAll_fw (s : State) {x1} {x2} {x3} {x4} : (State.eventAll s x1 x2 x3 x4).fw = s.fw :=
  (State.eventAll_step (Step.refl 72075187236635824 s) (sub_refl _)).fw rfl
@[simp] theorem State.eventAll_fresh (s : State) {x1} {x2} {x3} {x4} : (State.eventAll s x1 x2 x3 x4).fresh = s.fresh :=
  (State.eventAll_step (Step.refl 72075187236635824 s) (sub_refl _)).fresh rfl
@[simp] theorem State.eventAll_pending (s : State) {x1} {x2} {x3} {x4} : (State.eventAll s x1 x2 x3 x4).pending = s.pending :=
  (State.eventAll_step (Step.refl 72075187236635824 s) (sub_refl _)).pending rfl

@[simp] theorem State.emcyEvent_now (s : State) {x1} {x2} {x3} : (State.emcyEvent s x1 x2 x3).now = s.now :=
  (State.emcyEvent_step (Step.refl 72075188318766256 s) (sub_refl _)).now rfl
@[simp] theorem State.emcyEvent_wafer (s : State) {x1} {x2} {x3} : (State.emcyEvent s x1 x2 x3).wafer = s.wafer :=
  (State.emcyEvent_step (Step.refl 72075188318766256 s) (sub_refl _)).wafer rfl
@[simp] theorem State.emcyEvent_beat (s : State) {x1} {x2} {x3} : (State.emcyEvent s x1 x2 x3).beat = s.beat :=
  (State.emcyEvent_step (Step.refl 72075188318766256 s) (sub_refl _)).beat rfl
@[simp] theorem State.emcyEvent_sessions (s : State) {x1} {x2} {x3} : (State.emcyEvent s x1 x2 x3).sessions = s.sessions :=
  (State.emcyEvent_step (Step.refl 72075188318766256 s) (sub_refl _)).sessions rfl
@[simp] theorem State.emcyEvent_sq (s : State) {x1} {x2} {x3} : (State.emcyEvent s x1 x2 x3).sq = s.sq :=
  (State.emcyEvent_step (Step.refl 72075188318766256 s) (sub_refl _)).sq rfl
@[simp] theorem State.emcyEvent_lastRing (s : State) {x1} {x2} {x3} : (State.emcyEvent s x1 x2 x3).lastRing = s.lastRing :=
  (State.emcyEvent_step (Step.refl 72075188318766256 s) (sub_refl _)).lastRing rfl
@[simp] theorem State.emcyEvent_msix (s : State) {x1} {x2} {x3} : (State.emcyEvent s x1 x2 x3).msix = s.msix :=
  (State.emcyEvent_step (Step.refl 72075188318766256 s) (sub_refl _)).msix rfl
@[simp] theorem State.emcyEvent_lists (s : State) {x1} {x2} {x3} : (State.emcyEvent s x1 x2 x3).lists = s.lists :=
  (State.emcyEvent_step (Step.refl 72075188318766256 s) (sub_refl _)).lists rfl
@[simp] theorem State.emcyEvent_nextList (s : State) {x1} {x2} {x3} : (State.emcyEvent s x1 x2 x3).nextList = s.nextList :=
  (State.emcyEvent_step (Step.refl 72075188318766256 s) (sub_refl _)).nextList rfl
@[simp] theorem State.emcyEvent_jobs (s : State) {x1} {x2} {x3} : (State.emcyEvent s x1 x2 x3).jobs = s.jobs :=
  (State.emcyEvent_step (Step.refl 72075188318766256 s) (sub_refl _)).jobs rfl
@[simp] theorem State.emcyEvent_frames (s : State) {x1} {x2} {x3} : (State.emcyEvent s x1 x2 x3).frames = s.frames :=
  (State.emcyEvent_step (Step.refl 72075188318766256 s) (sub_refl _)).frames rfl
@[simp] theorem State.emcyEvent_nextFrame (s : State) {x1} {x2} {x3} : (State.emcyEvent s x1 x2 x3).nextFrame = s.nextFrame :=
  (State.emcyEvent_step (Step.refl 72075188318766256 s) (sub_refl _)).nextFrame rfl
@[simp] theorem State.emcyEvent_skips (s : State) {x1} {x2} {x3} : (State.emcyEvent s x1 x2 x3).skips = s.skips :=
  (State.emcyEvent_step (Step.refl 72075188318766256 s) (sub_refl _)).skips rfl
@[simp] theorem State.emcyEvent_setSkips (s : State) {x1} {x2} {x3} : (State.emcyEvent s x1 x2 x3).setSkips = s.setSkips :=
  (State.emcyEvent_step (Step.refl 72075188318766256 s) (sub_refl _)).setSkips rfl
@[simp] theorem State.emcyEvent_dram (s : State) {x1} {x2} {x3} : (State.emcyEvent s x1 x2 x3).dram = s.dram :=
  (State.emcyEvent_step (Step.refl 72075188318766256 s) (sub_refl _)).dram rfl
@[simp] theorem State.emcyEvent_boxA (s : State) {x1} {x2} {x3} : (State.emcyEvent s x1 x2 x3).boxA = s.boxA :=
  (State.emcyEvent_step (Step.refl 72075188318766256 s) (sub_refl _)).boxA rfl
@[simp] theorem State.emcyEvent_boxB (s : State) {x1} {x2} {x3} : (State.emcyEvent s x1 x2 x3).boxB = s.boxB :=
  (State.emcyEvent_step (Step.refl 72075188318766256 s) (sub_refl _)).boxB rfl
@[simp] theorem State.emcyEvent_replacement (s : State) {x1} {x2} {x3} : (State.emcyEvent s x1 x2 x3).replacement = s.replacement :=
  (State.emcyEvent_step (Step.refl 72075188318766256 s) (sub_refl _)).replacement rfl
@[simp] theorem State.emcyEvent_suspects (s : State) {x1} {x2} {x3} : (State.emcyEvent s x1 x2 x3).suspects = s.suspects :=
  (State.emcyEvent_step (Step.refl 72075188318766256 s) (sub_refl _)).suspects rfl
@[simp] theorem State.emcyEvent_leases (s : State) {x1} {x2} {x3} : (State.emcyEvent s x1 x2 x3).leases = s.leases :=
  (State.emcyEvent_step (Step.refl 72075188318766256 s) (sub_refl _)).leases rfl
@[simp] theorem State.emcyEvent_dma (s : State) {x1} {x2} {x3} : (State.emcyEvent s x1 x2 x3).dma = s.dma :=
  (State.emcyEvent_step (Step.refl 72075188318766256 s) (sub_refl _)).dma rfl
@[simp] theorem State.emcyEvent_moves (s : State) {x1} {x2} {x3} : (State.emcyEvent s x1 x2 x3).moves = s.moves :=
  (State.emcyEvent_step (Step.refl 72075188318766256 s) (sub_refl _)).moves rfl
@[simp] theorem State.emcyEvent_injection (s : State) {x1} {x2} {x3} : (State.emcyEvent s x1 x2 x3).injection = s.injection :=
  (State.emcyEvent_step (Step.refl 72075188318766256 s) (sub_refl _)).injection rfl
@[simp] theorem State.emcyEvent_tiles (s : State) {x1} {x2} {x3} : (State.emcyEvent s x1 x2 x3).tiles = s.tiles :=
  (State.emcyEvent_step (Step.refl 72075188318766256 s) (sub_refl _)).tiles rfl
@[simp] theorem State.emcyEvent_mesh (s : State) {x1} {x2} {x3} : (State.emcyEvent s x1 x2 x3).mesh = s.mesh :=
  (State.emcyEvent_step (Step.refl 72075188318766256 s) (sub_refl _)).mesh rfl
@[simp] theorem State.emcyEvent_attach (s : State) {x1} {x2} {x3} : (State.emcyEvent s x1 x2 x3).attach = s.attach :=
  (State.emcyEvent_step (Step.refl 72075188318766256 s) (sub_refl _)).attach rfl
@[simp] theorem State.emcyEvent_rewardN (s : State) {x1} {x2} {x3} : (State.emcyEvent s x1 x2 x3).rewardN = s.rewardN :=
  (State.emcyEvent_step (Step.refl 72075188318766256 s) (sub_refl _)).rewardN rfl
@[simp] theorem State.emcyEvent_rewardSent (s : State) {x1} {x2} {x3} : (State.emcyEvent s x1 x2 x3).rewardSent = s.rewardSent :=
  (State.emcyEvent_step (Step.refl 72075188318766256 s) (sub_refl _)).rewardSent rfl
@[simp] theorem State.emcyEvent_plans (s : State) {x1} {x2} {x3} : (State.emcyEvent s x1 x2 x3).plans = s.plans :=
  (State.emcyEvent_step (Step.refl 72075188318766256 s) (sub_refl _)).plans rfl
@[simp] theorem State.emcyEvent_segs (s : State) {x1} {x2} {x3} : (State.emcyEvent s x1 x2 x3).segs = s.segs :=
  (State.emcyEvent_step (Step.refl 72075188318766256 s) (sub_refl _)).segs rfl
@[simp] theorem State.emcyEvent_conns (s : State) {x1} {x2} {x3} : (State.emcyEvent s x1 x2 x3).conns = s.conns :=
  (State.emcyEvent_step (Step.refl 72075188318766256 s) (sub_refl _)).conns rfl
@[simp] theorem State.emcyEvent_wrs (s : State) {x1} {x2} {x3} : (State.emcyEvent s x1 x2 x3).wrs = s.wrs :=
  (State.emcyEvent_step (Step.refl 72075188318766256 s) (sub_refl _)).wrs rfl
@[simp] theorem State.emcyEvent_nextWr (s : State) {x1} {x2} {x3} : (State.emcyEvent s x1 x2 x3).nextWr = s.nextWr :=
  (State.emcyEvent_step (Step.refl 72075188318766256 s) (sub_refl _)).nextWr rfl
@[simp] theorem State.emcyEvent_ctrs (s : State) {x1} {x2} {x3} : (State.emcyEvent s x1 x2 x3).ctrs = s.ctrs :=
  (State.emcyEvent_step (Step.refl 72075188318766256 s) (sub_refl _)).ctrs rfl
@[simp] theorem State.emcyEvent_ports (s : State) {x1} {x2} {x3} : (State.emcyEvent s x1 x2 x3).ports = s.ports :=
  (State.emcyEvent_step (Step.refl 72075188318766256 s) (sub_refl _)).ports rfl
@[simp] theorem State.emcyEvent_buckets (s : State) {x1} {x2} {x3} : (State.emcyEvent s x1 x2 x3).buckets = s.buckets :=
  (State.emcyEvent_step (Step.refl 72075188318766256 s) (sub_refl _)).buckets rfl
@[simp] theorem State.emcyEvent_nodes (s : State) {x1} {x2} {x3} : (State.emcyEvent s x1 x2 x3).nodes = s.nodes :=
  (State.emcyEvent_step (Step.refl 72075188318766256 s) (sub_refl _)).nodes rfl
@[simp] theorem State.emcyEvent_power (s : State) {x1} {x2} {x3} : (State.emcyEvent s x1 x2 x3).power = s.power :=
  (State.emcyEvent_step (Step.refl 72075188318766256 s) (sub_refl _)).power rfl
@[simp] theorem State.emcyEvent_up (s : State) {x1} {x2} {x3} : (State.emcyEvent s x1 x2 x3).up = s.up :=
  (State.emcyEvent_step (Step.refl 72075188318766256 s) (sub_refl _)).up rfl
@[simp] theorem State.emcyEvent_fuses (s : State) {x1} {x2} {x3} : (State.emcyEvent s x1 x2 x3).fuses = s.fuses :=
  (State.emcyEvent_step (Step.refl 72075188318766256 s) (sub_refl _)).fuses rfl
@[simp] theorem State.emcyEvent_fw (s : State) {x1} {x2} {x3} : (State.emcyEvent s x1 x2 x3).fw = s.fw :=
  (State.emcyEvent_step (Step.refl 72075188318766256 s) (sub_refl _)).fw rfl
@[simp] theorem State.emcyEvent_fresh (s : State) {x1} {x2} {x3} : (State.emcyEvent s x1 x2 x3).fresh = s.fresh :=
  (State.emcyEvent_step (Step.refl 72075188318766256 s) (sub_refl _)).fresh rfl
@[simp] theorem State.emcyEvent_pending (s : State) {x1} {x2} {x3} : (State.emcyEvent s x1 x2 x3).pending = s.pending :=
  (State.emcyEvent_step (Step.refl 72075188318766256 s) (sub_refl _)).pending rfl

@[simp] theorem State.emcyPower_now (s : State) {x1} {x2} {x3} : (State.emcyPower s x1 x2 x3).now = s.now :=
  (State.emcyPower_step (Step.refl 72075188318766256 s) (sub_refl _)).now rfl
@[simp] theorem State.emcyPower_wafer (s : State) {x1} {x2} {x3} : (State.emcyPower s x1 x2 x3).wafer = s.wafer :=
  (State.emcyPower_step (Step.refl 72075188318766256 s) (sub_refl _)).wafer rfl
@[simp] theorem State.emcyPower_beat (s : State) {x1} {x2} {x3} : (State.emcyPower s x1 x2 x3).beat = s.beat :=
  (State.emcyPower_step (Step.refl 72075188318766256 s) (sub_refl _)).beat rfl
@[simp] theorem State.emcyPower_sessions (s : State) {x1} {x2} {x3} : (State.emcyPower s x1 x2 x3).sessions = s.sessions :=
  (State.emcyPower_step (Step.refl 72075188318766256 s) (sub_refl _)).sessions rfl
@[simp] theorem State.emcyPower_sq (s : State) {x1} {x2} {x3} : (State.emcyPower s x1 x2 x3).sq = s.sq :=
  (State.emcyPower_step (Step.refl 72075188318766256 s) (sub_refl _)).sq rfl
@[simp] theorem State.emcyPower_lastRing (s : State) {x1} {x2} {x3} : (State.emcyPower s x1 x2 x3).lastRing = s.lastRing :=
  (State.emcyPower_step (Step.refl 72075188318766256 s) (sub_refl _)).lastRing rfl
@[simp] theorem State.emcyPower_msix (s : State) {x1} {x2} {x3} : (State.emcyPower s x1 x2 x3).msix = s.msix :=
  (State.emcyPower_step (Step.refl 72075188318766256 s) (sub_refl _)).msix rfl
@[simp] theorem State.emcyPower_lists (s : State) {x1} {x2} {x3} : (State.emcyPower s x1 x2 x3).lists = s.lists :=
  (State.emcyPower_step (Step.refl 72075188318766256 s) (sub_refl _)).lists rfl
@[simp] theorem State.emcyPower_nextList (s : State) {x1} {x2} {x3} : (State.emcyPower s x1 x2 x3).nextList = s.nextList :=
  (State.emcyPower_step (Step.refl 72075188318766256 s) (sub_refl _)).nextList rfl
@[simp] theorem State.emcyPower_jobs (s : State) {x1} {x2} {x3} : (State.emcyPower s x1 x2 x3).jobs = s.jobs :=
  (State.emcyPower_step (Step.refl 72075188318766256 s) (sub_refl _)).jobs rfl
@[simp] theorem State.emcyPower_frames (s : State) {x1} {x2} {x3} : (State.emcyPower s x1 x2 x3).frames = s.frames :=
  (State.emcyPower_step (Step.refl 72075188318766256 s) (sub_refl _)).frames rfl
@[simp] theorem State.emcyPower_nextFrame (s : State) {x1} {x2} {x3} : (State.emcyPower s x1 x2 x3).nextFrame = s.nextFrame :=
  (State.emcyPower_step (Step.refl 72075188318766256 s) (sub_refl _)).nextFrame rfl
@[simp] theorem State.emcyPower_skips (s : State) {x1} {x2} {x3} : (State.emcyPower s x1 x2 x3).skips = s.skips :=
  (State.emcyPower_step (Step.refl 72075188318766256 s) (sub_refl _)).skips rfl
@[simp] theorem State.emcyPower_setSkips (s : State) {x1} {x2} {x3} : (State.emcyPower s x1 x2 x3).setSkips = s.setSkips :=
  (State.emcyPower_step (Step.refl 72075188318766256 s) (sub_refl _)).setSkips rfl
@[simp] theorem State.emcyPower_dram (s : State) {x1} {x2} {x3} : (State.emcyPower s x1 x2 x3).dram = s.dram :=
  (State.emcyPower_step (Step.refl 72075188318766256 s) (sub_refl _)).dram rfl
@[simp] theorem State.emcyPower_boxA (s : State) {x1} {x2} {x3} : (State.emcyPower s x1 x2 x3).boxA = s.boxA :=
  (State.emcyPower_step (Step.refl 72075188318766256 s) (sub_refl _)).boxA rfl
@[simp] theorem State.emcyPower_boxB (s : State) {x1} {x2} {x3} : (State.emcyPower s x1 x2 x3).boxB = s.boxB :=
  (State.emcyPower_step (Step.refl 72075188318766256 s) (sub_refl _)).boxB rfl
@[simp] theorem State.emcyPower_replacement (s : State) {x1} {x2} {x3} : (State.emcyPower s x1 x2 x3).replacement = s.replacement :=
  (State.emcyPower_step (Step.refl 72075188318766256 s) (sub_refl _)).replacement rfl
@[simp] theorem State.emcyPower_suspects (s : State) {x1} {x2} {x3} : (State.emcyPower s x1 x2 x3).suspects = s.suspects :=
  (State.emcyPower_step (Step.refl 72075188318766256 s) (sub_refl _)).suspects rfl
@[simp] theorem State.emcyPower_leases (s : State) {x1} {x2} {x3} : (State.emcyPower s x1 x2 x3).leases = s.leases :=
  (State.emcyPower_step (Step.refl 72075188318766256 s) (sub_refl _)).leases rfl
@[simp] theorem State.emcyPower_dma (s : State) {x1} {x2} {x3} : (State.emcyPower s x1 x2 x3).dma = s.dma :=
  (State.emcyPower_step (Step.refl 72075188318766256 s) (sub_refl _)).dma rfl
@[simp] theorem State.emcyPower_moves (s : State) {x1} {x2} {x3} : (State.emcyPower s x1 x2 x3).moves = s.moves :=
  (State.emcyPower_step (Step.refl 72075188318766256 s) (sub_refl _)).moves rfl
@[simp] theorem State.emcyPower_injection (s : State) {x1} {x2} {x3} : (State.emcyPower s x1 x2 x3).injection = s.injection :=
  (State.emcyPower_step (Step.refl 72075188318766256 s) (sub_refl _)).injection rfl
@[simp] theorem State.emcyPower_tiles (s : State) {x1} {x2} {x3} : (State.emcyPower s x1 x2 x3).tiles = s.tiles :=
  (State.emcyPower_step (Step.refl 72075188318766256 s) (sub_refl _)).tiles rfl
@[simp] theorem State.emcyPower_mesh (s : State) {x1} {x2} {x3} : (State.emcyPower s x1 x2 x3).mesh = s.mesh :=
  (State.emcyPower_step (Step.refl 72075188318766256 s) (sub_refl _)).mesh rfl
@[simp] theorem State.emcyPower_attach (s : State) {x1} {x2} {x3} : (State.emcyPower s x1 x2 x3).attach = s.attach :=
  (State.emcyPower_step (Step.refl 72075188318766256 s) (sub_refl _)).attach rfl
@[simp] theorem State.emcyPower_rewardN (s : State) {x1} {x2} {x3} : (State.emcyPower s x1 x2 x3).rewardN = s.rewardN :=
  (State.emcyPower_step (Step.refl 72075188318766256 s) (sub_refl _)).rewardN rfl
@[simp] theorem State.emcyPower_rewardSent (s : State) {x1} {x2} {x3} : (State.emcyPower s x1 x2 x3).rewardSent = s.rewardSent :=
  (State.emcyPower_step (Step.refl 72075188318766256 s) (sub_refl _)).rewardSent rfl
@[simp] theorem State.emcyPower_plans (s : State) {x1} {x2} {x3} : (State.emcyPower s x1 x2 x3).plans = s.plans :=
  (State.emcyPower_step (Step.refl 72075188318766256 s) (sub_refl _)).plans rfl
@[simp] theorem State.emcyPower_segs (s : State) {x1} {x2} {x3} : (State.emcyPower s x1 x2 x3).segs = s.segs :=
  (State.emcyPower_step (Step.refl 72075188318766256 s) (sub_refl _)).segs rfl
@[simp] theorem State.emcyPower_conns (s : State) {x1} {x2} {x3} : (State.emcyPower s x1 x2 x3).conns = s.conns :=
  (State.emcyPower_step (Step.refl 72075188318766256 s) (sub_refl _)).conns rfl
@[simp] theorem State.emcyPower_wrs (s : State) {x1} {x2} {x3} : (State.emcyPower s x1 x2 x3).wrs = s.wrs :=
  (State.emcyPower_step (Step.refl 72075188318766256 s) (sub_refl _)).wrs rfl
@[simp] theorem State.emcyPower_nextWr (s : State) {x1} {x2} {x3} : (State.emcyPower s x1 x2 x3).nextWr = s.nextWr :=
  (State.emcyPower_step (Step.refl 72075188318766256 s) (sub_refl _)).nextWr rfl
@[simp] theorem State.emcyPower_ctrs (s : State) {x1} {x2} {x3} : (State.emcyPower s x1 x2 x3).ctrs = s.ctrs :=
  (State.emcyPower_step (Step.refl 72075188318766256 s) (sub_refl _)).ctrs rfl
@[simp] theorem State.emcyPower_ports (s : State) {x1} {x2} {x3} : (State.emcyPower s x1 x2 x3).ports = s.ports :=
  (State.emcyPower_step (Step.refl 72075188318766256 s) (sub_refl _)).ports rfl
@[simp] theorem State.emcyPower_buckets (s : State) {x1} {x2} {x3} : (State.emcyPower s x1 x2 x3).buckets = s.buckets :=
  (State.emcyPower_step (Step.refl 72075188318766256 s) (sub_refl _)).buckets rfl
@[simp] theorem State.emcyPower_nodes (s : State) {x1} {x2} {x3} : (State.emcyPower s x1 x2 x3).nodes = s.nodes :=
  (State.emcyPower_step (Step.refl 72075188318766256 s) (sub_refl _)).nodes rfl
@[simp] theorem State.emcyPower_power (s : State) {x1} {x2} {x3} : (State.emcyPower s x1 x2 x3).power = s.power :=
  (State.emcyPower_step (Step.refl 72075188318766256 s) (sub_refl _)).power rfl
@[simp] theorem State.emcyPower_up (s : State) {x1} {x2} {x3} : (State.emcyPower s x1 x2 x3).up = s.up :=
  (State.emcyPower_step (Step.refl 72075188318766256 s) (sub_refl _)).up rfl
@[simp] theorem State.emcyPower_fuses (s : State) {x1} {x2} {x3} : (State.emcyPower s x1 x2 x3).fuses = s.fuses :=
  (State.emcyPower_step (Step.refl 72075188318766256 s) (sub_refl _)).fuses rfl
@[simp] theorem State.emcyPower_fw (s : State) {x1} {x2} {x3} : (State.emcyPower s x1 x2 x3).fw = s.fw :=
  (State.emcyPower_step (Step.refl 72075188318766256 s) (sub_refl _)).fw rfl
@[simp] theorem State.emcyPower_fresh (s : State) {x1} {x2} {x3} : (State.emcyPower s x1 x2 x3).fresh = s.fresh :=
  (State.emcyPower_step (Step.refl 72075188318766256 s) (sub_refl _)).fresh rfl
@[simp] theorem State.emcyPower_pending (s : State) {x1} {x2} {x3} : (State.emcyPower s x1 x2 x3).pending = s.pending :=
  (State.emcyPower_step (Step.refl 72075188318766256 s) (sub_refl _)).pending rfl

@[simp] theorem State.suspect_now (s : State) {x1} {x2} : (State.suspect s x1 x2).now = s.now :=
  (State.suspect_step (Step.refl 4294967296 s) (sub_refl _)).now rfl
@[simp] theorem State.suspect_wafer (s : State) {x1} {x2} : (State.suspect s x1 x2).wafer = s.wafer :=
  (State.suspect_step (Step.refl 4294967296 s) (sub_refl _)).wafer rfl
@[simp] theorem State.suspect_beat (s : State) {x1} {x2} : (State.suspect s x1 x2).beat = s.beat :=
  (State.suspect_step (Step.refl 4294967296 s) (sub_refl _)).beat rfl
@[simp] theorem State.suspect_sessions (s : State) {x1} {x2} : (State.suspect s x1 x2).sessions = s.sessions :=
  (State.suspect_step (Step.refl 4294967296 s) (sub_refl _)).sessions rfl
@[simp] theorem State.suspect_hostA (s : State) {x1} {x2} : (State.suspect s x1 x2).hostA = s.hostA :=
  (State.suspect_step (Step.refl 4294967296 s) (sub_refl _)).hostA rfl
@[simp] theorem State.suspect_hostB (s : State) {x1} {x2} : (State.suspect s x1 x2).hostB = s.hostB :=
  (State.suspect_step (Step.refl 4294967296 s) (sub_refl _)).hostB rfl
@[simp] theorem State.suspect_sq (s : State) {x1} {x2} : (State.suspect s x1 x2).sq = s.sq :=
  (State.suspect_step (Step.refl 4294967296 s) (sub_refl _)).sq rfl
@[simp] theorem State.suspect_cq (s : State) {x1} {x2} : (State.suspect s x1 x2).cq = s.cq :=
  (State.suspect_step (Step.refl 4294967296 s) (sub_refl _)).cq rfl
@[simp] theorem State.suspect_lastRing (s : State) {x1} {x2} : (State.suspect s x1 x2).lastRing = s.lastRing :=
  (State.suspect_step (Step.refl 4294967296 s) (sub_refl _)).lastRing rfl
@[simp] theorem State.suspect_msix (s : State) {x1} {x2} : (State.suspect s x1 x2).msix = s.msix :=
  (State.suspect_step (Step.refl 4294967296 s) (sub_refl _)).msix rfl
@[simp] theorem State.suspect_pba (s : State) {x1} {x2} : (State.suspect s x1 x2).pba = s.pba :=
  (State.suspect_step (Step.refl 4294967296 s) (sub_refl _)).pba rfl
@[simp] theorem State.suspect_lists (s : State) {x1} {x2} : (State.suspect s x1 x2).lists = s.lists :=
  (State.suspect_step (Step.refl 4294967296 s) (sub_refl _)).lists rfl
@[simp] theorem State.suspect_nextList (s : State) {x1} {x2} : (State.suspect s x1 x2).nextList = s.nextList :=
  (State.suspect_step (Step.refl 4294967296 s) (sub_refl _)).nextList rfl
@[simp] theorem State.suspect_jobs (s : State) {x1} {x2} : (State.suspect s x1 x2).jobs = s.jobs :=
  (State.suspect_step (Step.refl 4294967296 s) (sub_refl _)).jobs rfl
@[simp] theorem State.suspect_frames (s : State) {x1} {x2} : (State.suspect s x1 x2).frames = s.frames :=
  (State.suspect_step (Step.refl 4294967296 s) (sub_refl _)).frames rfl
@[simp] theorem State.suspect_nextFrame (s : State) {x1} {x2} : (State.suspect s x1 x2).nextFrame = s.nextFrame :=
  (State.suspect_step (Step.refl 4294967296 s) (sub_refl _)).nextFrame rfl
@[simp] theorem State.suspect_skips (s : State) {x1} {x2} : (State.suspect s x1 x2).skips = s.skips :=
  (State.suspect_step (Step.refl 4294967296 s) (sub_refl _)).skips rfl
@[simp] theorem State.suspect_setSkips (s : State) {x1} {x2} : (State.suspect s x1 x2).setSkips = s.setSkips :=
  (State.suspect_step (Step.refl 4294967296 s) (sub_refl _)).setSkips rfl
@[simp] theorem State.suspect_tier1 (s : State) {x1} {x2} : (State.suspect s x1 x2).tier1 = s.tier1 :=
  (State.suspect_step (Step.refl 4294967296 s) (sub_refl _)).tier1 rfl
@[simp] theorem State.suspect_granules (s : State) {x1} {x2} : (State.suspect s x1 x2).granules = s.granules :=
  (State.suspect_step (Step.refl 4294967296 s) (sub_refl _)).granules rfl
@[simp] theorem State.suspect_tier1Bad (s : State) {x1} {x2} : (State.suspect s x1 x2).tier1Bad = s.tier1Bad :=
  (State.suspect_step (Step.refl 4294967296 s) (sub_refl _)).tier1Bad rfl
@[simp] theorem State.suspect_dram (s : State) {x1} {x2} : (State.suspect s x1 x2).dram = s.dram :=
  (State.suspect_step (Step.refl 4294967296 s) (sub_refl _)).dram rfl
@[simp] theorem State.suspect_od (s : State) {x1} {x2} : (State.suspect s x1 x2).od = s.od :=
  (State.suspect_step (Step.refl 4294967296 s) (sub_refl _)).od rfl
@[simp] theorem State.suspect_can (s : State) {x1} {x2} : (State.suspect s x1 x2).can = s.can :=
  (State.suspect_step (Step.refl 4294967296 s) (sub_refl _)).can rfl
@[simp] theorem State.suspect_boxA (s : State) {x1} {x2} : (State.suspect s x1 x2).boxA = s.boxA :=
  (State.suspect_step (Step.refl 4294967296 s) (sub_refl _)).boxA rfl
@[simp] theorem State.suspect_boxB (s : State) {x1} {x2} : (State.suspect s x1 x2).boxB = s.boxB :=
  (State.suspect_step (Step.refl 4294967296 s) (sub_refl _)).boxB rfl
@[simp] theorem State.suspect_det (s : State) {x1} {x2} : (State.suspect s x1 x2).det = s.det :=
  (State.suspect_step (Step.refl 4294967296 s) (sub_refl _)).det rfl
@[simp] theorem State.suspect_log (s : State) {x1} {x2} : (State.suspect s x1 x2).log = s.log :=
  (State.suspect_step (Step.refl 4294967296 s) (sub_refl _)).log rfl
@[simp] theorem State.suspect_logMade (s : State) {x1} {x2} : (State.suspect s x1 x2).logMade = s.logMade :=
  (State.suspect_step (Step.refl 4294967296 s) (sub_refl _)).logMade rfl
@[simp] theorem State.suspect_faultBuffer (s : State) {x1} {x2} : (State.suspect s x1 x2).faultBuffer = s.faultBuffer :=
  (State.suspect_step (Step.refl 4294967296 s) (sub_refl _)).faultBuffer rfl
@[simp] theorem State.suspect_absentEmcy (s : State) {x1} {x2} : (State.suspect s x1 x2).absentEmcy = s.absentEmcy :=
  (State.suspect_step (Step.refl 4294967296 s) (sub_refl _)).absentEmcy rfl
@[simp] theorem State.suspect_replacement (s : State) {x1} {x2} : (State.suspect s x1 x2).replacement = s.replacement :=
  (State.suspect_step (Step.refl 4294967296 s) (sub_refl _)).replacement rfl
@[simp] theorem State.suspect_leases (s : State) {x1} {x2} : (State.suspect s x1 x2).leases = s.leases :=
  (State.suspect_step (Step.refl 4294967296 s) (sub_refl _)).leases rfl
@[simp] theorem State.suspect_dma (s : State) {x1} {x2} : (State.suspect s x1 x2).dma = s.dma :=
  (State.suspect_step (Step.refl 4294967296 s) (sub_refl _)).dma rfl
@[simp] theorem State.suspect_moves (s : State) {x1} {x2} : (State.suspect s x1 x2).moves = s.moves :=
  (State.suspect_step (Step.refl 4294967296 s) (sub_refl _)).moves rfl
@[simp] theorem State.suspect_injection (s : State) {x1} {x2} : (State.suspect s x1 x2).injection = s.injection :=
  (State.suspect_step (Step.refl 4294967296 s) (sub_refl _)).injection rfl
@[simp] theorem State.suspect_tiles (s : State) {x1} {x2} : (State.suspect s x1 x2).tiles = s.tiles :=
  (State.suspect_step (Step.refl 4294967296 s) (sub_refl _)).tiles rfl
@[simp] theorem State.suspect_mesh (s : State) {x1} {x2} : (State.suspect s x1 x2).mesh = s.mesh :=
  (State.suspect_step (Step.refl 4294967296 s) (sub_refl _)).mesh rfl
@[simp] theorem State.suspect_attach (s : State) {x1} {x2} : (State.suspect s x1 x2).attach = s.attach :=
  (State.suspect_step (Step.refl 4294967296 s) (sub_refl _)).attach rfl
@[simp] theorem State.suspect_rewardN (s : State) {x1} {x2} : (State.suspect s x1 x2).rewardN = s.rewardN :=
  (State.suspect_step (Step.refl 4294967296 s) (sub_refl _)).rewardN rfl
@[simp] theorem State.suspect_rewardSent (s : State) {x1} {x2} : (State.suspect s x1 x2).rewardSent = s.rewardSent :=
  (State.suspect_step (Step.refl 4294967296 s) (sub_refl _)).rewardSent rfl
@[simp] theorem State.suspect_plans (s : State) {x1} {x2} : (State.suspect s x1 x2).plans = s.plans :=
  (State.suspect_step (Step.refl 4294967296 s) (sub_refl _)).plans rfl
@[simp] theorem State.suspect_segs (s : State) {x1} {x2} : (State.suspect s x1 x2).segs = s.segs :=
  (State.suspect_step (Step.refl 4294967296 s) (sub_refl _)).segs rfl
@[simp] theorem State.suspect_segCtr (s : State) {x1} {x2} : (State.suspect s x1 x2).segCtr = s.segCtr :=
  (State.suspect_step (Step.refl 4294967296 s) (sub_refl _)).segCtr rfl
@[simp] theorem State.suspect_conns (s : State) {x1} {x2} : (State.suspect s x1 x2).conns = s.conns :=
  (State.suspect_step (Step.refl 4294967296 s) (sub_refl _)).conns rfl
@[simp] theorem State.suspect_wrs (s : State) {x1} {x2} : (State.suspect s x1 x2).wrs = s.wrs :=
  (State.suspect_step (Step.refl 4294967296 s) (sub_refl _)).wrs rfl
@[simp] theorem State.suspect_nextWr (s : State) {x1} {x2} : (State.suspect s x1 x2).nextWr = s.nextWr :=
  (State.suspect_step (Step.refl 4294967296 s) (sub_refl _)).nextWr rfl
@[simp] theorem State.suspect_ctrs (s : State) {x1} {x2} : (State.suspect s x1 x2).ctrs = s.ctrs :=
  (State.suspect_step (Step.refl 4294967296 s) (sub_refl _)).ctrs rfl
@[simp] theorem State.suspect_ports (s : State) {x1} {x2} : (State.suspect s x1 x2).ports = s.ports :=
  (State.suspect_step (Step.refl 4294967296 s) (sub_refl _)).ports rfl
@[simp] theorem State.suspect_buckets (s : State) {x1} {x2} : (State.suspect s x1 x2).buckets = s.buckets :=
  (State.suspect_step (Step.refl 4294967296 s) (sub_refl _)).buckets rfl
@[simp] theorem State.suspect_nodes (s : State) {x1} {x2} : (State.suspect s x1 x2).nodes = s.nodes :=
  (State.suspect_step (Step.refl 4294967296 s) (sub_refl _)).nodes rfl
@[simp] theorem State.suspect_power (s : State) {x1} {x2} : (State.suspect s x1 x2).power = s.power :=
  (State.suspect_step (Step.refl 4294967296 s) (sub_refl _)).power rfl
@[simp] theorem State.suspect_up (s : State) {x1} {x2} : (State.suspect s x1 x2).up = s.up :=
  (State.suspect_step (Step.refl 4294967296 s) (sub_refl _)).up rfl
@[simp] theorem State.suspect_fuses (s : State) {x1} {x2} : (State.suspect s x1 x2).fuses = s.fuses :=
  (State.suspect_step (Step.refl 4294967296 s) (sub_refl _)).fuses rfl
@[simp] theorem State.suspect_fw (s : State) {x1} {x2} : (State.suspect s x1 x2).fw = s.fw :=
  (State.suspect_step (Step.refl 4294967296 s) (sub_refl _)).fw rfl
@[simp] theorem State.suspect_out (s : State) {x1} {x2} : (State.suspect s x1 x2).out = s.out :=
  (State.suspect_step (Step.refl 4294967296 s) (sub_refl _)).out rfl
@[simp] theorem State.suspect_fresh (s : State) {x1} {x2} : (State.suspect s x1 x2).fresh = s.fresh :=
  (State.suspect_step (Step.refl 4294967296 s) (sub_refl _)).fresh rfl
@[simp] theorem State.suspect_pending (s : State) {x1} {x2} : (State.suspect s x1 x2).pending = s.pending :=
  (State.suspect_step (Step.refl 4294967296 s) (sub_refl _)).pending rfl

@[simp] theorem State.levelCheck_now (s : State) : (State.levelCheck s).now = s.now :=
  (State.levelCheck_step (Step.refl 81082387573507248 s) (sub_refl _)).now rfl
@[simp] theorem State.levelCheck_wafer (s : State) : (State.levelCheck s).wafer = s.wafer :=
  (State.levelCheck_step (Step.refl 81082387573507248 s) (sub_refl _)).wafer rfl
@[simp] theorem State.levelCheck_beat (s : State) : (State.levelCheck s).beat = s.beat :=
  (State.levelCheck_step (Step.refl 81082387573507248 s) (sub_refl _)).beat rfl
@[simp] theorem State.levelCheck_sessions (s : State) : (State.levelCheck s).sessions = s.sessions :=
  (State.levelCheck_step (Step.refl 81082387573507248 s) (sub_refl _)).sessions rfl
@[simp] theorem State.levelCheck_sq (s : State) : (State.levelCheck s).sq = s.sq :=
  (State.levelCheck_step (Step.refl 81082387573507248 s) (sub_refl _)).sq rfl
@[simp] theorem State.levelCheck_lastRing (s : State) : (State.levelCheck s).lastRing = s.lastRing :=
  (State.levelCheck_step (Step.refl 81082387573507248 s) (sub_refl _)).lastRing rfl
@[simp] theorem State.levelCheck_msix (s : State) : (State.levelCheck s).msix = s.msix :=
  (State.levelCheck_step (Step.refl 81082387573507248 s) (sub_refl _)).msix rfl
@[simp] theorem State.levelCheck_lists (s : State) : (State.levelCheck s).lists = s.lists :=
  (State.levelCheck_step (Step.refl 81082387573507248 s) (sub_refl _)).lists rfl
@[simp] theorem State.levelCheck_nextList (s : State) : (State.levelCheck s).nextList = s.nextList :=
  (State.levelCheck_step (Step.refl 81082387573507248 s) (sub_refl _)).nextList rfl
@[simp] theorem State.levelCheck_jobs (s : State) : (State.levelCheck s).jobs = s.jobs :=
  (State.levelCheck_step (Step.refl 81082387573507248 s) (sub_refl _)).jobs rfl
@[simp] theorem State.levelCheck_frames (s : State) : (State.levelCheck s).frames = s.frames :=
  (State.levelCheck_step (Step.refl 81082387573507248 s) (sub_refl _)).frames rfl
@[simp] theorem State.levelCheck_nextFrame (s : State) : (State.levelCheck s).nextFrame = s.nextFrame :=
  (State.levelCheck_step (Step.refl 81082387573507248 s) (sub_refl _)).nextFrame rfl
@[simp] theorem State.levelCheck_skips (s : State) : (State.levelCheck s).skips = s.skips :=
  (State.levelCheck_step (Step.refl 81082387573507248 s) (sub_refl _)).skips rfl
@[simp] theorem State.levelCheck_setSkips (s : State) : (State.levelCheck s).setSkips = s.setSkips :=
  (State.levelCheck_step (Step.refl 81082387573507248 s) (sub_refl _)).setSkips rfl
@[simp] theorem State.levelCheck_dram (s : State) : (State.levelCheck s).dram = s.dram :=
  (State.levelCheck_step (Step.refl 81082387573507248 s) (sub_refl _)).dram rfl
@[simp] theorem State.levelCheck_boxA (s : State) : (State.levelCheck s).boxA = s.boxA :=
  (State.levelCheck_step (Step.refl 81082387573507248 s) (sub_refl _)).boxA rfl
@[simp] theorem State.levelCheck_boxB (s : State) : (State.levelCheck s).boxB = s.boxB :=
  (State.levelCheck_step (Step.refl 81082387573507248 s) (sub_refl _)).boxB rfl
@[simp] theorem State.levelCheck_replacement (s : State) : (State.levelCheck s).replacement = s.replacement :=
  (State.levelCheck_step (Step.refl 81082387573507248 s) (sub_refl _)).replacement rfl
@[simp] theorem State.levelCheck_suspects (s : State) : (State.levelCheck s).suspects = s.suspects :=
  (State.levelCheck_step (Step.refl 81082387573507248 s) (sub_refl _)).suspects rfl
@[simp] theorem State.levelCheck_leases (s : State) : (State.levelCheck s).leases = s.leases :=
  (State.levelCheck_step (Step.refl 81082387573507248 s) (sub_refl _)).leases rfl
@[simp] theorem State.levelCheck_dma (s : State) : (State.levelCheck s).dma = s.dma :=
  (State.levelCheck_step (Step.refl 81082387573507248 s) (sub_refl _)).dma rfl
@[simp] theorem State.levelCheck_moves (s : State) : (State.levelCheck s).moves = s.moves :=
  (State.levelCheck_step (Step.refl 81082387573507248 s) (sub_refl _)).moves rfl
@[simp] theorem State.levelCheck_injection (s : State) : (State.levelCheck s).injection = s.injection :=
  (State.levelCheck_step (Step.refl 81082387573507248 s) (sub_refl _)).injection rfl
@[simp] theorem State.levelCheck_tiles (s : State) : (State.levelCheck s).tiles = s.tiles :=
  (State.levelCheck_step (Step.refl 81082387573507248 s) (sub_refl _)).tiles rfl
@[simp] theorem State.levelCheck_mesh (s : State) : (State.levelCheck s).mesh = s.mesh :=
  (State.levelCheck_step (Step.refl 81082387573507248 s) (sub_refl _)).mesh rfl
@[simp] theorem State.levelCheck_attach (s : State) : (State.levelCheck s).attach = s.attach :=
  (State.levelCheck_step (Step.refl 81082387573507248 s) (sub_refl _)).attach rfl
@[simp] theorem State.levelCheck_rewardN (s : State) : (State.levelCheck s).rewardN = s.rewardN :=
  (State.levelCheck_step (Step.refl 81082387573507248 s) (sub_refl _)).rewardN rfl
@[simp] theorem State.levelCheck_rewardSent (s : State) : (State.levelCheck s).rewardSent = s.rewardSent :=
  (State.levelCheck_step (Step.refl 81082387573507248 s) (sub_refl _)).rewardSent rfl
@[simp] theorem State.levelCheck_plans (s : State) : (State.levelCheck s).plans = s.plans :=
  (State.levelCheck_step (Step.refl 81082387573507248 s) (sub_refl _)).plans rfl
@[simp] theorem State.levelCheck_segs (s : State) : (State.levelCheck s).segs = s.segs :=
  (State.levelCheck_step (Step.refl 81082387573507248 s) (sub_refl _)).segs rfl
@[simp] theorem State.levelCheck_conns (s : State) : (State.levelCheck s).conns = s.conns :=
  (State.levelCheck_step (Step.refl 81082387573507248 s) (sub_refl _)).conns rfl
@[simp] theorem State.levelCheck_wrs (s : State) : (State.levelCheck s).wrs = s.wrs :=
  (State.levelCheck_step (Step.refl 81082387573507248 s) (sub_refl _)).wrs rfl
@[simp] theorem State.levelCheck_nextWr (s : State) : (State.levelCheck s).nextWr = s.nextWr :=
  (State.levelCheck_step (Step.refl 81082387573507248 s) (sub_refl _)).nextWr rfl
@[simp] theorem State.levelCheck_ctrs (s : State) : (State.levelCheck s).ctrs = s.ctrs :=
  (State.levelCheck_step (Step.refl 81082387573507248 s) (sub_refl _)).ctrs rfl
@[simp] theorem State.levelCheck_ports (s : State) : (State.levelCheck s).ports = s.ports :=
  (State.levelCheck_step (Step.refl 81082387573507248 s) (sub_refl _)).ports rfl
@[simp] theorem State.levelCheck_buckets (s : State) : (State.levelCheck s).buckets = s.buckets :=
  (State.levelCheck_step (Step.refl 81082387573507248 s) (sub_refl _)).buckets rfl
@[simp] theorem State.levelCheck_nodes (s : State) : (State.levelCheck s).nodes = s.nodes :=
  (State.levelCheck_step (Step.refl 81082387573507248 s) (sub_refl _)).nodes rfl
@[simp] theorem State.levelCheck_power (s : State) : (State.levelCheck s).power = s.power :=
  (State.levelCheck_step (Step.refl 81082387573507248 s) (sub_refl _)).power rfl
@[simp] theorem State.levelCheck_fuses (s : State) : (State.levelCheck s).fuses = s.fuses :=
  (State.levelCheck_step (Step.refl 81082387573507248 s) (sub_refl _)).fuses rfl
@[simp] theorem State.levelCheck_fw (s : State) : (State.levelCheck s).fw = s.fw :=
  (State.levelCheck_step (Step.refl 81082387573507248 s) (sub_refl _)).fw rfl
@[simp] theorem State.levelCheck_fresh (s : State) : (State.levelCheck s).fresh = s.fresh :=
  (State.levelCheck_step (Step.refl 81082387573507248 s) (sub_refl _)).fresh rfl
@[simp] theorem State.levelCheck_pending (s : State) : (State.levelCheck s).pending = s.pending :=
  (State.levelCheck_step (Step.refl 81082387573507248 s) (sub_refl _)).pending rfl

@[simp] theorem State.replaceCheck_now (s : State) : (State.replaceCheck s).now = s.now :=
  (State.replaceCheck_step (Step.refl 72075190466249904 s) (sub_refl _)).now rfl
@[simp] theorem State.replaceCheck_wafer (s : State) : (State.replaceCheck s).wafer = s.wafer :=
  (State.replaceCheck_step (Step.refl 72075190466249904 s) (sub_refl _)).wafer rfl
@[simp] theorem State.replaceCheck_beat (s : State) : (State.replaceCheck s).beat = s.beat :=
  (State.replaceCheck_step (Step.refl 72075190466249904 s) (sub_refl _)).beat rfl
@[simp] theorem State.replaceCheck_sessions (s : State) : (State.replaceCheck s).sessions = s.sessions :=
  (State.replaceCheck_step (Step.refl 72075190466249904 s) (sub_refl _)).sessions rfl
@[simp] theorem State.replaceCheck_sq (s : State) : (State.replaceCheck s).sq = s.sq :=
  (State.replaceCheck_step (Step.refl 72075190466249904 s) (sub_refl _)).sq rfl
@[simp] theorem State.replaceCheck_lastRing (s : State) : (State.replaceCheck s).lastRing = s.lastRing :=
  (State.replaceCheck_step (Step.refl 72075190466249904 s) (sub_refl _)).lastRing rfl
@[simp] theorem State.replaceCheck_msix (s : State) : (State.replaceCheck s).msix = s.msix :=
  (State.replaceCheck_step (Step.refl 72075190466249904 s) (sub_refl _)).msix rfl
@[simp] theorem State.replaceCheck_lists (s : State) : (State.replaceCheck s).lists = s.lists :=
  (State.replaceCheck_step (Step.refl 72075190466249904 s) (sub_refl _)).lists rfl
@[simp] theorem State.replaceCheck_nextList (s : State) : (State.replaceCheck s).nextList = s.nextList :=
  (State.replaceCheck_step (Step.refl 72075190466249904 s) (sub_refl _)).nextList rfl
@[simp] theorem State.replaceCheck_jobs (s : State) : (State.replaceCheck s).jobs = s.jobs :=
  (State.replaceCheck_step (Step.refl 72075190466249904 s) (sub_refl _)).jobs rfl
@[simp] theorem State.replaceCheck_frames (s : State) : (State.replaceCheck s).frames = s.frames :=
  (State.replaceCheck_step (Step.refl 72075190466249904 s) (sub_refl _)).frames rfl
@[simp] theorem State.replaceCheck_nextFrame (s : State) : (State.replaceCheck s).nextFrame = s.nextFrame :=
  (State.replaceCheck_step (Step.refl 72075190466249904 s) (sub_refl _)).nextFrame rfl
@[simp] theorem State.replaceCheck_skips (s : State) : (State.replaceCheck s).skips = s.skips :=
  (State.replaceCheck_step (Step.refl 72075190466249904 s) (sub_refl _)).skips rfl
@[simp] theorem State.replaceCheck_setSkips (s : State) : (State.replaceCheck s).setSkips = s.setSkips :=
  (State.replaceCheck_step (Step.refl 72075190466249904 s) (sub_refl _)).setSkips rfl
@[simp] theorem State.replaceCheck_dram (s : State) : (State.replaceCheck s).dram = s.dram :=
  (State.replaceCheck_step (Step.refl 72075190466249904 s) (sub_refl _)).dram rfl
@[simp] theorem State.replaceCheck_boxA (s : State) : (State.replaceCheck s).boxA = s.boxA :=
  (State.replaceCheck_step (Step.refl 72075190466249904 s) (sub_refl _)).boxA rfl
@[simp] theorem State.replaceCheck_boxB (s : State) : (State.replaceCheck s).boxB = s.boxB :=
  (State.replaceCheck_step (Step.refl 72075190466249904 s) (sub_refl _)).boxB rfl
@[simp] theorem State.replaceCheck_suspects (s : State) : (State.replaceCheck s).suspects = s.suspects :=
  (State.replaceCheck_step (Step.refl 72075190466249904 s) (sub_refl _)).suspects rfl
@[simp] theorem State.replaceCheck_leases (s : State) : (State.replaceCheck s).leases = s.leases :=
  (State.replaceCheck_step (Step.refl 72075190466249904 s) (sub_refl _)).leases rfl
@[simp] theorem State.replaceCheck_dma (s : State) : (State.replaceCheck s).dma = s.dma :=
  (State.replaceCheck_step (Step.refl 72075190466249904 s) (sub_refl _)).dma rfl
@[simp] theorem State.replaceCheck_moves (s : State) : (State.replaceCheck s).moves = s.moves :=
  (State.replaceCheck_step (Step.refl 72075190466249904 s) (sub_refl _)).moves rfl
@[simp] theorem State.replaceCheck_injection (s : State) : (State.replaceCheck s).injection = s.injection :=
  (State.replaceCheck_step (Step.refl 72075190466249904 s) (sub_refl _)).injection rfl
@[simp] theorem State.replaceCheck_tiles (s : State) : (State.replaceCheck s).tiles = s.tiles :=
  (State.replaceCheck_step (Step.refl 72075190466249904 s) (sub_refl _)).tiles rfl
@[simp] theorem State.replaceCheck_mesh (s : State) : (State.replaceCheck s).mesh = s.mesh :=
  (State.replaceCheck_step (Step.refl 72075190466249904 s) (sub_refl _)).mesh rfl
@[simp] theorem State.replaceCheck_attach (s : State) : (State.replaceCheck s).attach = s.attach :=
  (State.replaceCheck_step (Step.refl 72075190466249904 s) (sub_refl _)).attach rfl
@[simp] theorem State.replaceCheck_rewardN (s : State) : (State.replaceCheck s).rewardN = s.rewardN :=
  (State.replaceCheck_step (Step.refl 72075190466249904 s) (sub_refl _)).rewardN rfl
@[simp] theorem State.replaceCheck_rewardSent (s : State) : (State.replaceCheck s).rewardSent = s.rewardSent :=
  (State.replaceCheck_step (Step.refl 72075190466249904 s) (sub_refl _)).rewardSent rfl
@[simp] theorem State.replaceCheck_plans (s : State) : (State.replaceCheck s).plans = s.plans :=
  (State.replaceCheck_step (Step.refl 72075190466249904 s) (sub_refl _)).plans rfl
@[simp] theorem State.replaceCheck_segs (s : State) : (State.replaceCheck s).segs = s.segs :=
  (State.replaceCheck_step (Step.refl 72075190466249904 s) (sub_refl _)).segs rfl
@[simp] theorem State.replaceCheck_conns (s : State) : (State.replaceCheck s).conns = s.conns :=
  (State.replaceCheck_step (Step.refl 72075190466249904 s) (sub_refl _)).conns rfl
@[simp] theorem State.replaceCheck_wrs (s : State) : (State.replaceCheck s).wrs = s.wrs :=
  (State.replaceCheck_step (Step.refl 72075190466249904 s) (sub_refl _)).wrs rfl
@[simp] theorem State.replaceCheck_nextWr (s : State) : (State.replaceCheck s).nextWr = s.nextWr :=
  (State.replaceCheck_step (Step.refl 72075190466249904 s) (sub_refl _)).nextWr rfl
@[simp] theorem State.replaceCheck_ctrs (s : State) : (State.replaceCheck s).ctrs = s.ctrs :=
  (State.replaceCheck_step (Step.refl 72075190466249904 s) (sub_refl _)).ctrs rfl
@[simp] theorem State.replaceCheck_ports (s : State) : (State.replaceCheck s).ports = s.ports :=
  (State.replaceCheck_step (Step.refl 72075190466249904 s) (sub_refl _)).ports rfl
@[simp] theorem State.replaceCheck_buckets (s : State) : (State.replaceCheck s).buckets = s.buckets :=
  (State.replaceCheck_step (Step.refl 72075190466249904 s) (sub_refl _)).buckets rfl
@[simp] theorem State.replaceCheck_nodes (s : State) : (State.replaceCheck s).nodes = s.nodes :=
  (State.replaceCheck_step (Step.refl 72075190466249904 s) (sub_refl _)).nodes rfl
@[simp] theorem State.replaceCheck_power (s : State) : (State.replaceCheck s).power = s.power :=
  (State.replaceCheck_step (Step.refl 72075190466249904 s) (sub_refl _)).power rfl
@[simp] theorem State.replaceCheck_up (s : State) : (State.replaceCheck s).up = s.up :=
  (State.replaceCheck_step (Step.refl 72075190466249904 s) (sub_refl _)).up rfl
@[simp] theorem State.replaceCheck_fuses (s : State) : (State.replaceCheck s).fuses = s.fuses :=
  (State.replaceCheck_step (Step.refl 72075190466249904 s) (sub_refl _)).fuses rfl
@[simp] theorem State.replaceCheck_fw (s : State) : (State.replaceCheck s).fw = s.fw :=
  (State.replaceCheck_step (Step.refl 72075190466249904 s) (sub_refl _)).fw rfl
@[simp] theorem State.replaceCheck_fresh (s : State) : (State.replaceCheck s).fresh = s.fresh :=
  (State.replaceCheck_step (Step.refl 72075190466249904 s) (sub_refl _)).fresh rfl
@[simp] theorem State.replaceCheck_pending (s : State) : (State.replaceCheck s).pending = s.pending :=
  (State.replaceCheck_step (Step.refl 72075190466249904 s) (sub_refl _)).pending rfl

@[simp] theorem State.entryDone_now (s : State) {x1} {x2} {x3} {x4} {x5} {x6} : (State.entryDone s x1 x2 x3 x4 x5 x6).now = s.now :=
  (State.entryDone_step (Step.refl 72075204416507008 s) (sub_refl _)).now rfl
@[simp] theorem State.entryDone_wafer (s : State) {x1} {x2} {x3} {x4} {x5} {x6} : (State.entryDone s x1 x2 x3 x4 x5 x6).wafer = s.wafer :=
  (State.entryDone_step (Step.refl 72075204416507008 s) (sub_refl _)).wafer rfl
@[simp] theorem State.entryDone_beat (s : State) {x1} {x2} {x3} {x4} {x5} {x6} : (State.entryDone s x1 x2 x3 x4 x5 x6).beat = s.beat :=
  (State.entryDone_step (Step.refl 72075204416507008 s) (sub_refl _)).beat rfl
@[simp] theorem State.entryDone_sessions (s : State) {x1} {x2} {x3} {x4} {x5} {x6} : (State.entryDone s x1 x2 x3 x4 x5 x6).sessions = s.sessions :=
  (State.entryDone_step (Step.refl 72075204416507008 s) (sub_refl _)).sessions rfl
@[simp] theorem State.entryDone_hostA (s : State) {x1} {x2} {x3} {x4} {x5} {x6} : (State.entryDone s x1 x2 x3 x4 x5 x6).hostA = s.hostA :=
  (State.entryDone_step (Step.refl 72075204416507008 s) (sub_refl _)).hostA rfl
@[simp] theorem State.entryDone_hostB (s : State) {x1} {x2} {x3} {x4} {x5} {x6} : (State.entryDone s x1 x2 x3 x4 x5 x6).hostB = s.hostB :=
  (State.entryDone_step (Step.refl 72075204416507008 s) (sub_refl _)).hostB rfl
@[simp] theorem State.entryDone_sq (s : State) {x1} {x2} {x3} {x4} {x5} {x6} : (State.entryDone s x1 x2 x3 x4 x5 x6).sq = s.sq :=
  (State.entryDone_step (Step.refl 72075204416507008 s) (sub_refl _)).sq rfl
@[simp] theorem State.entryDone_lastRing (s : State) {x1} {x2} {x3} {x4} {x5} {x6} : (State.entryDone s x1 x2 x3 x4 x5 x6).lastRing = s.lastRing :=
  (State.entryDone_step (Step.refl 72075204416507008 s) (sub_refl _)).lastRing rfl
@[simp] theorem State.entryDone_msix (s : State) {x1} {x2} {x3} {x4} {x5} {x6} : (State.entryDone s x1 x2 x3 x4 x5 x6).msix = s.msix :=
  (State.entryDone_step (Step.refl 72075204416507008 s) (sub_refl _)).msix rfl
@[simp] theorem State.entryDone_nextList (s : State) {x1} {x2} {x3} {x4} {x5} {x6} : (State.entryDone s x1 x2 x3 x4 x5 x6).nextList = s.nextList :=
  (State.entryDone_step (Step.refl 72075204416507008 s) (sub_refl _)).nextList rfl
@[simp] theorem State.entryDone_jobs (s : State) {x1} {x2} {x3} {x4} {x5} {x6} : (State.entryDone s x1 x2 x3 x4 x5 x6).jobs = s.jobs :=
  (State.entryDone_step (Step.refl 72075204416507008 s) (sub_refl _)).jobs rfl
@[simp] theorem State.entryDone_frames (s : State) {x1} {x2} {x3} {x4} {x5} {x6} : (State.entryDone s x1 x2 x3 x4 x5 x6).frames = s.frames :=
  (State.entryDone_step (Step.refl 72075204416507008 s) (sub_refl _)).frames rfl
@[simp] theorem State.entryDone_nextFrame (s : State) {x1} {x2} {x3} {x4} {x5} {x6} : (State.entryDone s x1 x2 x3 x4 x5 x6).nextFrame = s.nextFrame :=
  (State.entryDone_step (Step.refl 72075204416507008 s) (sub_refl _)).nextFrame rfl
@[simp] theorem State.entryDone_skips (s : State) {x1} {x2} {x3} {x4} {x5} {x6} : (State.entryDone s x1 x2 x3 x4 x5 x6).skips = s.skips :=
  (State.entryDone_step (Step.refl 72075204416507008 s) (sub_refl _)).skips rfl
@[simp] theorem State.entryDone_setSkips (s : State) {x1} {x2} {x3} {x4} {x5} {x6} : (State.entryDone s x1 x2 x3 x4 x5 x6).setSkips = s.setSkips :=
  (State.entryDone_step (Step.refl 72075204416507008 s) (sub_refl _)).setSkips rfl
@[simp] theorem State.entryDone_dram (s : State) {x1} {x2} {x3} {x4} {x5} {x6} : (State.entryDone s x1 x2 x3 x4 x5 x6).dram = s.dram :=
  (State.entryDone_step (Step.refl 72075204416507008 s) (sub_refl _)).dram rfl
@[simp] theorem State.entryDone_can (s : State) {x1} {x2} {x3} {x4} {x5} {x6} : (State.entryDone s x1 x2 x3 x4 x5 x6).can = s.can :=
  (State.entryDone_step (Step.refl 72075204416507008 s) (sub_refl _)).can rfl
@[simp] theorem State.entryDone_boxA (s : State) {x1} {x2} {x3} {x4} {x5} {x6} : (State.entryDone s x1 x2 x3 x4 x5 x6).boxA = s.boxA :=
  (State.entryDone_step (Step.refl 72075204416507008 s) (sub_refl _)).boxA rfl
@[simp] theorem State.entryDone_boxB (s : State) {x1} {x2} {x3} {x4} {x5} {x6} : (State.entryDone s x1 x2 x3 x4 x5 x6).boxB = s.boxB :=
  (State.entryDone_step (Step.refl 72075204416507008 s) (sub_refl _)).boxB rfl
@[simp] theorem State.entryDone_absentEmcy (s : State) {x1} {x2} {x3} {x4} {x5} {x6} : (State.entryDone s x1 x2 x3 x4 x5 x6).absentEmcy = s.absentEmcy :=
  (State.entryDone_step (Step.refl 72075204416507008 s) (sub_refl _)).absentEmcy rfl
@[simp] theorem State.entryDone_replacement (s : State) {x1} {x2} {x3} {x4} {x5} {x6} : (State.entryDone s x1 x2 x3 x4 x5 x6).replacement = s.replacement :=
  (State.entryDone_step (Step.refl 72075204416507008 s) (sub_refl _)).replacement rfl
@[simp] theorem State.entryDone_suspects (s : State) {x1} {x2} {x3} {x4} {x5} {x6} : (State.entryDone s x1 x2 x3 x4 x5 x6).suspects = s.suspects :=
  (State.entryDone_step (Step.refl 72075204416507008 s) (sub_refl _)).suspects rfl
@[simp] theorem State.entryDone_leases (s : State) {x1} {x2} {x3} {x4} {x5} {x6} : (State.entryDone s x1 x2 x3 x4 x5 x6).leases = s.leases :=
  (State.entryDone_step (Step.refl 72075204416507008 s) (sub_refl _)).leases rfl
@[simp] theorem State.entryDone_moves (s : State) {x1} {x2} {x3} {x4} {x5} {x6} : (State.entryDone s x1 x2 x3 x4 x5 x6).moves = s.moves :=
  (State.entryDone_step (Step.refl 72075204416507008 s) (sub_refl _)).moves rfl
@[simp] theorem State.entryDone_injection (s : State) {x1} {x2} {x3} {x4} {x5} {x6} : (State.entryDone s x1 x2 x3 x4 x5 x6).injection = s.injection :=
  (State.entryDone_step (Step.refl 72075204416507008 s) (sub_refl _)).injection rfl
@[simp] theorem State.entryDone_tiles (s : State) {x1} {x2} {x3} {x4} {x5} {x6} : (State.entryDone s x1 x2 x3 x4 x5 x6).tiles = s.tiles :=
  (State.entryDone_step (Step.refl 72075204416507008 s) (sub_refl _)).tiles rfl
@[simp] theorem State.entryDone_mesh (s : State) {x1} {x2} {x3} {x4} {x5} {x6} : (State.entryDone s x1 x2 x3 x4 x5 x6).mesh = s.mesh :=
  (State.entryDone_step (Step.refl 72075204416507008 s) (sub_refl _)).mesh rfl
@[simp] theorem State.entryDone_attach (s : State) {x1} {x2} {x3} {x4} {x5} {x6} : (State.entryDone s x1 x2 x3 x4 x5 x6).attach = s.attach :=
  (State.entryDone_step (Step.refl 72075204416507008 s) (sub_refl _)).attach rfl
@[simp] theorem State.entryDone_rewardN (s : State) {x1} {x2} {x3} {x4} {x5} {x6} : (State.entryDone s x1 x2 x3 x4 x5 x6).rewardN = s.rewardN :=
  (State.entryDone_step (Step.refl 72075204416507008 s) (sub_refl _)).rewardN rfl
@[simp] theorem State.entryDone_rewardSent (s : State) {x1} {x2} {x3} {x4} {x5} {x6} : (State.entryDone s x1 x2 x3 x4 x5 x6).rewardSent = s.rewardSent :=
  (State.entryDone_step (Step.refl 72075204416507008 s) (sub_refl _)).rewardSent rfl
@[simp] theorem State.entryDone_plans (s : State) {x1} {x2} {x3} {x4} {x5} {x6} : (State.entryDone s x1 x2 x3 x4 x5 x6).plans = s.plans :=
  (State.entryDone_step (Step.refl 72075204416507008 s) (sub_refl _)).plans rfl
@[simp] theorem State.entryDone_segs (s : State) {x1} {x2} {x3} {x4} {x5} {x6} : (State.entryDone s x1 x2 x3 x4 x5 x6).segs = s.segs :=
  (State.entryDone_step (Step.refl 72075204416507008 s) (sub_refl _)).segs rfl
@[simp] theorem State.entryDone_conns (s : State) {x1} {x2} {x3} {x4} {x5} {x6} : (State.entryDone s x1 x2 x3 x4 x5 x6).conns = s.conns :=
  (State.entryDone_step (Step.refl 72075204416507008 s) (sub_refl _)).conns rfl
@[simp] theorem State.entryDone_wrs (s : State) {x1} {x2} {x3} {x4} {x5} {x6} : (State.entryDone s x1 x2 x3 x4 x5 x6).wrs = s.wrs :=
  (State.entryDone_step (Step.refl 72075204416507008 s) (sub_refl _)).wrs rfl
@[simp] theorem State.entryDone_nextWr (s : State) {x1} {x2} {x3} {x4} {x5} {x6} : (State.entryDone s x1 x2 x3 x4 x5 x6).nextWr = s.nextWr :=
  (State.entryDone_step (Step.refl 72075204416507008 s) (sub_refl _)).nextWr rfl
@[simp] theorem State.entryDone_ctrs (s : State) {x1} {x2} {x3} {x4} {x5} {x6} : (State.entryDone s x1 x2 x3 x4 x5 x6).ctrs = s.ctrs :=
  (State.entryDone_step (Step.refl 72075204416507008 s) (sub_refl _)).ctrs rfl
@[simp] theorem State.entryDone_ports (s : State) {x1} {x2} {x3} {x4} {x5} {x6} : (State.entryDone s x1 x2 x3 x4 x5 x6).ports = s.ports :=
  (State.entryDone_step (Step.refl 72075204416507008 s) (sub_refl _)).ports rfl
@[simp] theorem State.entryDone_buckets (s : State) {x1} {x2} {x3} {x4} {x5} {x6} : (State.entryDone s x1 x2 x3 x4 x5 x6).buckets = s.buckets :=
  (State.entryDone_step (Step.refl 72075204416507008 s) (sub_refl _)).buckets rfl
@[simp] theorem State.entryDone_nodes (s : State) {x1} {x2} {x3} {x4} {x5} {x6} : (State.entryDone s x1 x2 x3 x4 x5 x6).nodes = s.nodes :=
  (State.entryDone_step (Step.refl 72075204416507008 s) (sub_refl _)).nodes rfl
@[simp] theorem State.entryDone_power (s : State) {x1} {x2} {x3} {x4} {x5} {x6} : (State.entryDone s x1 x2 x3 x4 x5 x6).power = s.power :=
  (State.entryDone_step (Step.refl 72075204416507008 s) (sub_refl _)).power rfl
@[simp] theorem State.entryDone_up (s : State) {x1} {x2} {x3} {x4} {x5} {x6} : (State.entryDone s x1 x2 x3 x4 x5 x6).up = s.up :=
  (State.entryDone_step (Step.refl 72075204416507008 s) (sub_refl _)).up rfl
@[simp] theorem State.entryDone_fuses (s : State) {x1} {x2} {x3} {x4} {x5} {x6} : (State.entryDone s x1 x2 x3 x4 x5 x6).fuses = s.fuses :=
  (State.entryDone_step (Step.refl 72075204416507008 s) (sub_refl _)).fuses rfl
@[simp] theorem State.entryDone_fw (s : State) {x1} {x2} {x3} {x4} {x5} {x6} : (State.entryDone s x1 x2 x3 x4 x5 x6).fw = s.fw :=
  (State.entryDone_step (Step.refl 72075204416507008 s) (sub_refl _)).fw rfl
@[simp] theorem State.entryDone_fresh (s : State) {x1} {x2} {x3} {x4} {x5} {x6} : (State.entryDone s x1 x2 x3 x4 x5 x6).fresh = s.fresh :=
  (State.entryDone_step (Step.refl 72075204416507008 s) (sub_refl _)).fresh rfl
@[simp] theorem State.entryDone_pending (s : State) {x1} {x2} {x3} {x4} {x5} {x6} : (State.entryDone s x1 x2 x3 x4 x5 x6).pending = s.pending :=
  (State.entryDone_step (Step.refl 72075204416507008 s) (sub_refl _)).pending rfl

@[simp] theorem State.entryRefuse_now (s : State) {x1} {x2} {x3} {x4} : (State.entryRefuse s x1 x2 x3 x4).now = s.now :=
  (State.entryRefuse_step (Step.refl 72075204416507008 s) (sub_refl _)).now rfl
@[simp] theorem State.entryRefuse_wafer (s : State) {x1} {x2} {x3} {x4} : (State.entryRefuse s x1 x2 x3 x4).wafer = s.wafer :=
  (State.entryRefuse_step (Step.refl 72075204416507008 s) (sub_refl _)).wafer rfl
@[simp] theorem State.entryRefuse_beat (s : State) {x1} {x2} {x3} {x4} : (State.entryRefuse s x1 x2 x3 x4).beat = s.beat :=
  (State.entryRefuse_step (Step.refl 72075204416507008 s) (sub_refl _)).beat rfl
@[simp] theorem State.entryRefuse_sessions (s : State) {x1} {x2} {x3} {x4} : (State.entryRefuse s x1 x2 x3 x4).sessions = s.sessions :=
  (State.entryRefuse_step (Step.refl 72075204416507008 s) (sub_refl _)).sessions rfl
@[simp] theorem State.entryRefuse_hostA (s : State) {x1} {x2} {x3} {x4} : (State.entryRefuse s x1 x2 x3 x4).hostA = s.hostA :=
  (State.entryRefuse_step (Step.refl 72075204416507008 s) (sub_refl _)).hostA rfl
@[simp] theorem State.entryRefuse_hostB (s : State) {x1} {x2} {x3} {x4} : (State.entryRefuse s x1 x2 x3 x4).hostB = s.hostB :=
  (State.entryRefuse_step (Step.refl 72075204416507008 s) (sub_refl _)).hostB rfl
@[simp] theorem State.entryRefuse_sq (s : State) {x1} {x2} {x3} {x4} : (State.entryRefuse s x1 x2 x3 x4).sq = s.sq :=
  (State.entryRefuse_step (Step.refl 72075204416507008 s) (sub_refl _)).sq rfl
@[simp] theorem State.entryRefuse_lastRing (s : State) {x1} {x2} {x3} {x4} : (State.entryRefuse s x1 x2 x3 x4).lastRing = s.lastRing :=
  (State.entryRefuse_step (Step.refl 72075204416507008 s) (sub_refl _)).lastRing rfl
@[simp] theorem State.entryRefuse_msix (s : State) {x1} {x2} {x3} {x4} : (State.entryRefuse s x1 x2 x3 x4).msix = s.msix :=
  (State.entryRefuse_step (Step.refl 72075204416507008 s) (sub_refl _)).msix rfl
@[simp] theorem State.entryRefuse_nextList (s : State) {x1} {x2} {x3} {x4} : (State.entryRefuse s x1 x2 x3 x4).nextList = s.nextList :=
  (State.entryRefuse_step (Step.refl 72075204416507008 s) (sub_refl _)).nextList rfl
@[simp] theorem State.entryRefuse_jobs (s : State) {x1} {x2} {x3} {x4} : (State.entryRefuse s x1 x2 x3 x4).jobs = s.jobs :=
  (State.entryRefuse_step (Step.refl 72075204416507008 s) (sub_refl _)).jobs rfl
@[simp] theorem State.entryRefuse_frames (s : State) {x1} {x2} {x3} {x4} : (State.entryRefuse s x1 x2 x3 x4).frames = s.frames :=
  (State.entryRefuse_step (Step.refl 72075204416507008 s) (sub_refl _)).frames rfl
@[simp] theorem State.entryRefuse_nextFrame (s : State) {x1} {x2} {x3} {x4} : (State.entryRefuse s x1 x2 x3 x4).nextFrame = s.nextFrame :=
  (State.entryRefuse_step (Step.refl 72075204416507008 s) (sub_refl _)).nextFrame rfl
@[simp] theorem State.entryRefuse_skips (s : State) {x1} {x2} {x3} {x4} : (State.entryRefuse s x1 x2 x3 x4).skips = s.skips :=
  (State.entryRefuse_step (Step.refl 72075204416507008 s) (sub_refl _)).skips rfl
@[simp] theorem State.entryRefuse_setSkips (s : State) {x1} {x2} {x3} {x4} : (State.entryRefuse s x1 x2 x3 x4).setSkips = s.setSkips :=
  (State.entryRefuse_step (Step.refl 72075204416507008 s) (sub_refl _)).setSkips rfl
@[simp] theorem State.entryRefuse_dram (s : State) {x1} {x2} {x3} {x4} : (State.entryRefuse s x1 x2 x3 x4).dram = s.dram :=
  (State.entryRefuse_step (Step.refl 72075204416507008 s) (sub_refl _)).dram rfl
@[simp] theorem State.entryRefuse_can (s : State) {x1} {x2} {x3} {x4} : (State.entryRefuse s x1 x2 x3 x4).can = s.can :=
  (State.entryRefuse_step (Step.refl 72075204416507008 s) (sub_refl _)).can rfl
@[simp] theorem State.entryRefuse_boxA (s : State) {x1} {x2} {x3} {x4} : (State.entryRefuse s x1 x2 x3 x4).boxA = s.boxA :=
  (State.entryRefuse_step (Step.refl 72075204416507008 s) (sub_refl _)).boxA rfl
@[simp] theorem State.entryRefuse_boxB (s : State) {x1} {x2} {x3} {x4} : (State.entryRefuse s x1 x2 x3 x4).boxB = s.boxB :=
  (State.entryRefuse_step (Step.refl 72075204416507008 s) (sub_refl _)).boxB rfl
@[simp] theorem State.entryRefuse_absentEmcy (s : State) {x1} {x2} {x3} {x4} : (State.entryRefuse s x1 x2 x3 x4).absentEmcy = s.absentEmcy :=
  (State.entryRefuse_step (Step.refl 72075204416507008 s) (sub_refl _)).absentEmcy rfl
@[simp] theorem State.entryRefuse_replacement (s : State) {x1} {x2} {x3} {x4} : (State.entryRefuse s x1 x2 x3 x4).replacement = s.replacement :=
  (State.entryRefuse_step (Step.refl 72075204416507008 s) (sub_refl _)).replacement rfl
@[simp] theorem State.entryRefuse_suspects (s : State) {x1} {x2} {x3} {x4} : (State.entryRefuse s x1 x2 x3 x4).suspects = s.suspects :=
  (State.entryRefuse_step (Step.refl 72075204416507008 s) (sub_refl _)).suspects rfl
@[simp] theorem State.entryRefuse_leases (s : State) {x1} {x2} {x3} {x4} : (State.entryRefuse s x1 x2 x3 x4).leases = s.leases :=
  (State.entryRefuse_step (Step.refl 72075204416507008 s) (sub_refl _)).leases rfl
@[simp] theorem State.entryRefuse_moves (s : State) {x1} {x2} {x3} {x4} : (State.entryRefuse s x1 x2 x3 x4).moves = s.moves :=
  (State.entryRefuse_step (Step.refl 72075204416507008 s) (sub_refl _)).moves rfl
@[simp] theorem State.entryRefuse_injection (s : State) {x1} {x2} {x3} {x4} : (State.entryRefuse s x1 x2 x3 x4).injection = s.injection :=
  (State.entryRefuse_step (Step.refl 72075204416507008 s) (sub_refl _)).injection rfl
@[simp] theorem State.entryRefuse_tiles (s : State) {x1} {x2} {x3} {x4} : (State.entryRefuse s x1 x2 x3 x4).tiles = s.tiles :=
  (State.entryRefuse_step (Step.refl 72075204416507008 s) (sub_refl _)).tiles rfl
@[simp] theorem State.entryRefuse_mesh (s : State) {x1} {x2} {x3} {x4} : (State.entryRefuse s x1 x2 x3 x4).mesh = s.mesh :=
  (State.entryRefuse_step (Step.refl 72075204416507008 s) (sub_refl _)).mesh rfl
@[simp] theorem State.entryRefuse_attach (s : State) {x1} {x2} {x3} {x4} : (State.entryRefuse s x1 x2 x3 x4).attach = s.attach :=
  (State.entryRefuse_step (Step.refl 72075204416507008 s) (sub_refl _)).attach rfl
@[simp] theorem State.entryRefuse_rewardN (s : State) {x1} {x2} {x3} {x4} : (State.entryRefuse s x1 x2 x3 x4).rewardN = s.rewardN :=
  (State.entryRefuse_step (Step.refl 72075204416507008 s) (sub_refl _)).rewardN rfl
@[simp] theorem State.entryRefuse_rewardSent (s : State) {x1} {x2} {x3} {x4} : (State.entryRefuse s x1 x2 x3 x4).rewardSent = s.rewardSent :=
  (State.entryRefuse_step (Step.refl 72075204416507008 s) (sub_refl _)).rewardSent rfl
@[simp] theorem State.entryRefuse_plans (s : State) {x1} {x2} {x3} {x4} : (State.entryRefuse s x1 x2 x3 x4).plans = s.plans :=
  (State.entryRefuse_step (Step.refl 72075204416507008 s) (sub_refl _)).plans rfl
@[simp] theorem State.entryRefuse_segs (s : State) {x1} {x2} {x3} {x4} : (State.entryRefuse s x1 x2 x3 x4).segs = s.segs :=
  (State.entryRefuse_step (Step.refl 72075204416507008 s) (sub_refl _)).segs rfl
@[simp] theorem State.entryRefuse_conns (s : State) {x1} {x2} {x3} {x4} : (State.entryRefuse s x1 x2 x3 x4).conns = s.conns :=
  (State.entryRefuse_step (Step.refl 72075204416507008 s) (sub_refl _)).conns rfl
@[simp] theorem State.entryRefuse_wrs (s : State) {x1} {x2} {x3} {x4} : (State.entryRefuse s x1 x2 x3 x4).wrs = s.wrs :=
  (State.entryRefuse_step (Step.refl 72075204416507008 s) (sub_refl _)).wrs rfl
@[simp] theorem State.entryRefuse_nextWr (s : State) {x1} {x2} {x3} {x4} : (State.entryRefuse s x1 x2 x3 x4).nextWr = s.nextWr :=
  (State.entryRefuse_step (Step.refl 72075204416507008 s) (sub_refl _)).nextWr rfl
@[simp] theorem State.entryRefuse_ctrs (s : State) {x1} {x2} {x3} {x4} : (State.entryRefuse s x1 x2 x3 x4).ctrs = s.ctrs :=
  (State.entryRefuse_step (Step.refl 72075204416507008 s) (sub_refl _)).ctrs rfl
@[simp] theorem State.entryRefuse_ports (s : State) {x1} {x2} {x3} {x4} : (State.entryRefuse s x1 x2 x3 x4).ports = s.ports :=
  (State.entryRefuse_step (Step.refl 72075204416507008 s) (sub_refl _)).ports rfl
@[simp] theorem State.entryRefuse_buckets (s : State) {x1} {x2} {x3} {x4} : (State.entryRefuse s x1 x2 x3 x4).buckets = s.buckets :=
  (State.entryRefuse_step (Step.refl 72075204416507008 s) (sub_refl _)).buckets rfl
@[simp] theorem State.entryRefuse_nodes (s : State) {x1} {x2} {x3} {x4} : (State.entryRefuse s x1 x2 x3 x4).nodes = s.nodes :=
  (State.entryRefuse_step (Step.refl 72075204416507008 s) (sub_refl _)).nodes rfl
@[simp] theorem State.entryRefuse_power (s : State) {x1} {x2} {x3} {x4} : (State.entryRefuse s x1 x2 x3 x4).power = s.power :=
  (State.entryRefuse_step (Step.refl 72075204416507008 s) (sub_refl _)).power rfl
@[simp] theorem State.entryRefuse_up (s : State) {x1} {x2} {x3} {x4} : (State.entryRefuse s x1 x2 x3 x4).up = s.up :=
  (State.entryRefuse_step (Step.refl 72075204416507008 s) (sub_refl _)).up rfl
@[simp] theorem State.entryRefuse_fuses (s : State) {x1} {x2} {x3} {x4} : (State.entryRefuse s x1 x2 x3 x4).fuses = s.fuses :=
  (State.entryRefuse_step (Step.refl 72075204416507008 s) (sub_refl _)).fuses rfl
@[simp] theorem State.entryRefuse_fw (s : State) {x1} {x2} {x3} {x4} : (State.entryRefuse s x1 x2 x3 x4).fw = s.fw :=
  (State.entryRefuse_step (Step.refl 72075204416507008 s) (sub_refl _)).fw rfl
@[simp] theorem State.entryRefuse_fresh (s : State) {x1} {x2} {x3} {x4} : (State.entryRefuse s x1 x2 x3 x4).fresh = s.fresh :=
  (State.entryRefuse_step (Step.refl 72075204416507008 s) (sub_refl _)).fresh rfl
@[simp] theorem State.entryRefuse_pending (s : State) {x1} {x2} {x3} {x4} : (State.entryRefuse s x1 x2 x3 x4).pending = s.pending :=
  (State.entryRefuse_step (Step.refl 72075204416507008 s) (sub_refl _)).pending rfl

theorem State.settle_self (s t : State) : Step 81082389720990896 t (State.settle s t) := by
  unfold State.settle
  dsimp only
  have k : Step 81082389720990896 t (t.levelCheck.replaceCheck) := State.replaceCheck_step (State.levelCheck_step (Step.refl _ _) rfl) rfl
  exact Step.ite (fun _ => State.emcy_step k rfl) (fun _ => k)
@[simp] theorem State.settle_now (s t : State) : (State.settle s t).now = t.now := (State.settle_self s t).now rfl
@[simp] theorem State.settle_wafer (s t : State) : (State.settle s t).wafer = t.wafer := (State.settle_self s t).wafer rfl
@[simp] theorem State.settle_beat (s t : State) : (State.settle s t).beat = t.beat := (State.settle_self s t).beat rfl
@[simp] theorem State.settle_sessions (s t : State) : (State.settle s t).sessions = t.sessions := (State.settle_self s t).sessions rfl
@[simp] theorem State.settle_sq (s t : State) : (State.settle s t).sq = t.sq := (State.settle_self s t).sq rfl
@[simp] theorem State.settle_lastRing (s t : State) : (State.settle s t).lastRing = t.lastRing := (State.settle_self s t).lastRing rfl
@[simp] theorem State.settle_msix (s t : State) : (State.settle s t).msix = t.msix := (State.settle_self s t).msix rfl
@[simp] theorem State.settle_lists (s t : State) : (State.settle s t).lists = t.lists := (State.settle_self s t).lists rfl
@[simp] theorem State.settle_nextList (s t : State) : (State.settle s t).nextList = t.nextList := (State.settle_self s t).nextList rfl
@[simp] theorem State.settle_jobs (s t : State) : (State.settle s t).jobs = t.jobs := (State.settle_self s t).jobs rfl
@[simp] theorem State.settle_frames (s t : State) : (State.settle s t).frames = t.frames := (State.settle_self s t).frames rfl
@[simp] theorem State.settle_nextFrame (s t : State) : (State.settle s t).nextFrame = t.nextFrame := (State.settle_self s t).nextFrame rfl
@[simp] theorem State.settle_skips (s t : State) : (State.settle s t).skips = t.skips := (State.settle_self s t).skips rfl
@[simp] theorem State.settle_setSkips (s t : State) : (State.settle s t).setSkips = t.setSkips := (State.settle_self s t).setSkips rfl
@[simp] theorem State.settle_dram (s t : State) : (State.settle s t).dram = t.dram := (State.settle_self s t).dram rfl
@[simp] theorem State.settle_boxA (s t : State) : (State.settle s t).boxA = t.boxA := (State.settle_self s t).boxA rfl
@[simp] theorem State.settle_boxB (s t : State) : (State.settle s t).boxB = t.boxB := (State.settle_self s t).boxB rfl
@[simp] theorem State.settle_suspects (s t : State) : (State.settle s t).suspects = t.suspects := (State.settle_self s t).suspects rfl
@[simp] theorem State.settle_leases (s t : State) : (State.settle s t).leases = t.leases := (State.settle_self s t).leases rfl
@[simp] theorem State.settle_dma (s t : State) : (State.settle s t).dma = t.dma := (State.settle_self s t).dma rfl
@[simp] theorem State.settle_moves (s t : State) : (State.settle s t).moves = t.moves := (State.settle_self s t).moves rfl
@[simp] theorem State.settle_injection (s t : State) : (State.settle s t).injection = t.injection := (State.settle_self s t).injection rfl
@[simp] theorem State.settle_tiles (s t : State) : (State.settle s t).tiles = t.tiles := (State.settle_self s t).tiles rfl
@[simp] theorem State.settle_mesh (s t : State) : (State.settle s t).mesh = t.mesh := (State.settle_self s t).mesh rfl
@[simp] theorem State.settle_attach (s t : State) : (State.settle s t).attach = t.attach := (State.settle_self s t).attach rfl
@[simp] theorem State.settle_rewardN (s t : State) : (State.settle s t).rewardN = t.rewardN := (State.settle_self s t).rewardN rfl
@[simp] theorem State.settle_rewardSent (s t : State) : (State.settle s t).rewardSent = t.rewardSent := (State.settle_self s t).rewardSent rfl
@[simp] theorem State.settle_plans (s t : State) : (State.settle s t).plans = t.plans := (State.settle_self s t).plans rfl
@[simp] theorem State.settle_segs (s t : State) : (State.settle s t).segs = t.segs := (State.settle_self s t).segs rfl
@[simp] theorem State.settle_conns (s t : State) : (State.settle s t).conns = t.conns := (State.settle_self s t).conns rfl
@[simp] theorem State.settle_wrs (s t : State) : (State.settle s t).wrs = t.wrs := (State.settle_self s t).wrs rfl
@[simp] theorem State.settle_nextWr (s t : State) : (State.settle s t).nextWr = t.nextWr := (State.settle_self s t).nextWr rfl
@[simp] theorem State.settle_ctrs (s t : State) : (State.settle s t).ctrs = t.ctrs := (State.settle_self s t).ctrs rfl
@[simp] theorem State.settle_ports (s t : State) : (State.settle s t).ports = t.ports := (State.settle_self s t).ports rfl
@[simp] theorem State.settle_buckets (s t : State) : (State.settle s t).buckets = t.buckets := (State.settle_self s t).buckets rfl
@[simp] theorem State.settle_nodes (s t : State) : (State.settle s t).nodes = t.nodes := (State.settle_self s t).nodes rfl
@[simp] theorem State.settle_power (s t : State) : (State.settle s t).power = t.power := (State.settle_self s t).power rfl
@[simp] theorem State.settle_fuses (s t : State) : (State.settle s t).fuses = t.fuses := (State.settle_self s t).fuses rfl
@[simp] theorem State.settle_fw (s t : State) : (State.settle s t).fw = t.fw := (State.settle_self s t).fw rfl
@[simp] theorem State.settle_fresh (s t : State) : (State.settle s t).fresh = t.fresh := (State.settle_self s t).fresh rfl
@[simp] theorem State.settle_pending (s t : State) : (State.settle s t).pending = t.pending := (State.settle_self s t).pending rfl

theorem odKey_inj {i j a b : Nat} (ha : a < 256) (hb : b < 256) (h : odKey i a = odKey j b) : i = j ∧ a = b := by
  unfold odKey at h; omega

@[simp] theorem State.cell_putCell_same (s : State) (i j v : Nat) : (s.putCell i j v).cell i j = v := by
  simp [State.cell]

theorem State.cell_putCell_other (s : State) {i j a b : Nat} (v : Nat) (ha : a < 256) (hb : b < 256) (h : ¬ (i = j ∧ a = b)) :
    (s.putCell j b v).cell i a = s.cell i a := by
  unfold State.cell
  rw [State.putCell_od, Tab.get_set_other]
  intro e; exact h (odKey_inj ha hb e)

/-- A report writes no cell but the counts of dropped events, of EMCYs that found the queue full, and the replacement's causes. -/
def reportCell (i : Nat) : Prop := i = 0x2501 ∨ i = 0x1FD2 ∨ i = 0x2B50

theorem State.count_cell_other (s : State) {w i j n a b : Nat} (ha : a < 256) (hb : b < 256) (h : i ≠ j) :
    (s.count w j b n).cell i a = s.cell i a := by
  unfold State.count
  exact State.cell_putCell_other s _ ha hb fun e => h e.1

theorem State.event_cell (s : State) {f : Fn} {c d st : Nat} {l : List Byte} {i j : Nat} (hj : j < 256) (h : ¬ reportCell i) :
    (s.event f c d st l).cell i j = s.cell i j := by
  unfold State.event
  dsimp only
  split
  · rfl
  · split
    · simp only [State.cell, State.fire_od, State.setHost_od]
      exact State.count_cell_other s hj (by decide) fun e => h (Or.inl e)
    · simp [State.cell]

theorem State.eventAll_cell (s : State) {c d st : Nat} {l : List Byte} {i j : Nat} (hj : j < 256) (h : ¬ reportCell i) :
    (s.eventAll c d st l).cell i j = s.cell i j := by
  unfold State.eventAll
  rw [State.event_cell _ hj h, State.event_cell _ hj h]

theorem State.emcyAt_cell (s : State) {c d st : Nat} {i j : Nat} (hj : j < 256) (h : ¬ reportCell i) :
    (s.emcyAt c d st).cell i j = s.cell i j := by
  unfold State.emcyAt
  dsimp only
  have e0 : State.cell (if c = 0 then s else
      { s with can := { s.can with history := ((c + d * 65536) :: s.can.history).take 8 } }) i j = s.cell i j := by
    split <;> rfl
  split
  · rfl
  · split
    · rfl
    · revert e0
      generalize (if c = 0 then s else _) = u
      intro e0
      split
      · exact e0
      · simp only [State.cell, State.fire_od]
        refine Eq.trans ?_ e0
        exact State.count_cell_other u hj (by decide) fun e => h (Or.inr (Or.inl e))

theorem State.emcyEvent_cell (s : State) {c d : Nat} {l : List Byte} {i j : Nat} (hj : j < 256) (h : ¬ reportCell i) :
    (s.emcyEvent c d l).cell i j = s.cell i j := by
  unfold State.emcyEvent
  dsimp only
  split
  · rw [State.eventAll_cell _ hj h, State.emcyAt_cell _ hj h]
  · rw [State.emcyAt_cell _ hj h]

theorem State.levelCheck_cell (s : State) {i j : Nat} (hj : j < 256) (h : ¬ reportCell i) : s.levelCheck.cell i j = s.cell i j := by
  unfold State.levelCheck
  dsimp only
  split
  · rfl
  · rw [State.emcyEvent_cell _ hj h]; rfl

theorem State.replaceCheck_cell (s : State) {i j : Nat} (hj : j < 256) (h : ¬ reportCell i) : s.replaceCheck.cell i j = s.cell i j := by
  unfold State.replaceCheck
  dsimp only
  split
  · rfl
  · rw [State.emcyEvent_cell _ hj h]
    simp only [State.cell, State.fire_od]
    exact State.cell_putCell_other _ _ hj (by decide) fun e => h (Or.inr (Or.inr e.1))

/-- What is watched continuously writes no cell but those of a report. -/
theorem State.settle_cell (s t : State) {i j : Nat} (hj : j < 256) (h : ¬ reportCell i) : (State.settle s t).cell i j = t.cell i j := by
  unfold State.settle
  dsimp only
  split
  · unfold State.emcy
    rw [State.emcyAt_cell _ hj h, State.replaceCheck_cell _ hj h, State.levelCheck_cell _ hj h]
  · rw [State.replaceCheck_cell _ hj h, State.levelCheck_cell _ hj h]

end Sys2Proof.Machine
end

