-- ==== Sys2Proof/Laws/Access.lean ====
section
/-! SUPPORT. Outcomes of conditions, dictionary writes and cells: one lemma for each shared operation, which says what it
does. -/

namespace Sys2Proof.Machine

/-! ### Conditions -/

theorem whenDue_true {c : Bool} (h : c = true) (s t : State) : whenDue c s t = .next t := by subst h; rfl
theorem whenDue_false {c : Bool} (h : c = false) (s t : State) : whenDue c s t = .next s := by subst h; rfl
theorem whenSettled_true {c : Bool} (h : c = true) (s t : State) : whenSettled c s t = .next (State.settle s t) := by subst h; rfl
theorem whenSettled_false {c : Bool} (h : c = false) (s t : State) : whenSettled c s t = .next s := by subst h; rfl

/-! ### Cells -/

/-- The value that a list of writes leaves in a sub-index: the last one that names it. -/
theorem State.cell_putCells (s : State) (i : Nat) : ∀ (l : List (Nat × Nat)) (a : Nat), a < 256 → (∀ e ∈ l, e.1 < 256) →
    (s.putCells i l).cell i a = ((l.filter fun e => e.1 == a).map Prod.snd).getLast?.getD (s.cell i a) := by
  intro l
  induction l generalizing s with
  | nil => intro a _ _; simp [State.putCells]
  | cons e r ih =>
    intro a ha hl
    have hr : ∀ e ∈ r, e.1 < 256 := fun x hx => hl x (List.mem_cons_of_mem _ hx)
    have he := hl e List.mem_cons_self
    have step : s.putCells i (e :: r) = (s.putCell i e.1 e.2).putCells i r := rfl
    rw [step, ih (s.putCell i e.1 e.2) a ha hr]
    by_cases hea : e.1 = a
    · subst hea
      cases hf : ((r.filter fun x => x.1 == e.1).map Prod.snd) with
      | nil => simp [hf]
      | cons y ys =>
        rw [List.filter_cons_of_pos (by simp), List.map_cons, hf, List.getLast?_cons_cons]
        simp [List.getLast?_cons]
    · rw [State.cell_putCell_other s e.2 ha he (fun h => hea h.2.symm)]
      simp [hea]

/-- A write of one index leaves every other index alone. -/
theorem State.cell_putCells_other (s : State) {i j a : Nat} (ha : a < 256) (h : i ≠ j) :
    ∀ (l : List (Nat × Nat)), (∀ e ∈ l, e.1 < 256) → (s.putCells j l).cell i a = s.cell i a := by
  intro l
  induction l generalizing s with
  | nil => intro _; rfl
  | cons e r ih =>
    intro hl
    have step : s.putCells j (e :: r) = (s.putCell j e.1 e.2).putCells j r := rfl
    rw [step, ih (s.putCell j e.1 e.2) fun x hx => hl x (List.mem_cons_of_mem _ hx),
      State.cell_putCell_other s e.2 ha (hl e List.mem_cons_self) fun hh => h hh.1]

theorem State.cell_putCells_sub (s : State) {i a : Nat} (ha : a < 256) :
    ∀ (l : List (Nat × Nat)), (∀ e ∈ l, e.1 < 256) → (∀ e ∈ l, e.1 ≠ a) → (s.putCells i l).cell i a = s.cell i a := by
  intro l
  induction l generalizing s with
  | nil => intro _ _; rfl
  | cons e r ih =>
    intro hl hn
    have step : s.putCells i (e :: r) = (s.putCell i e.1 e.2).putCells i r := rfl
    rw [step, ih (s.putCell i e.1 e.2) (fun x hx => hl x (List.mem_cons_of_mem _ hx)) (fun x hx => hn x (List.mem_cons_of_mem _ hx)),
      State.cell_putCell_other s e.2 ha (hl e List.mem_cons_self) fun hh => hn e List.mem_cons_self hh.2.symm]

/-- A query's frame: no cell changes but the object's sub-indices that it lists. -/
theorem State.putCells_otherCells (s : State) (i : Nat) (l : List (Nat × Nat)) (hl : ∀ e ∈ l, e.1 < 256) :
    s.otherCells (l.map fun e => (i, e.1)) (s.putCells i l) := by
  intro a b hb hn
  by_cases h : a = i
  · subst h
    exact s.cell_putCells_sub hb l hl fun e he hne => hn (List.mem_map.mpr ⟨e, he, by rw [hne]⟩)
  · exact s.cell_putCells_other hb h l hl

/-! ### Dictionary writes (R326, R327) -/

theorem State.canWrite_open {s : State} {p : Path} {i j : Nat} (h : s.canWrite p i j = true) : s.pathOpen p = true := by
  simp only [State.canWrite, Bool.and_eq_true] at h; exact h.1

theorem State.canWrite_check {s : State} {p : Path} {i j : Nat} (h : s.canWrite p i j = true) : s.accessCheck true i j = none := by
  simp only [State.canWrite, Bool.and_eq_true, Option.isNone_iff_eq_none] at h; exact h.2

/-- A write that passes its checks has its effect. -/
theorem State.odWrite_ok {s t : State} {p : Path} {i j : Nat} {e : Effect} (h : s.canWrite p i j = true) (he : e s = .ok t) :
    s.odWrite p i j e = .next t := by
  unfold State.odWrite State.tryWrite
  rw [State.canWrite_check h]
  simp only [he]
  exact whenDue_true (State.canWrite_open h) _ _

/-- A write that a later check refuses is aborted with its code, and nothing is applied. -/
theorem State.odWrite_error {s : State} {p : Path} {i j c : Nat} {e : Effect} (h : s.canWrite p i j = true) (he : e s = .error c) :
    s.odWrite p i j e = .next (s.aborted p i j c) := by
  unfold State.odWrite State.tryWrite
  rw [State.canWrite_check h]
  simp only [he]
  exact whenDue_true (State.canWrite_open h) _ _

theorem State.odWriteSettled_ok {s t : State} {p : Path} {i j : Nat} {e : Effect} (h : s.canWrite p i j = true) (he : e s = .ok t) :
    s.odWriteSettled p i j e = .next (State.settle s t) := by
  unfold State.odWriteSettled
  exact State.odWrite_ok h (by simp only [he])

theorem State.odWriteSettled_error {s : State} {p : Path} {i j c : Nat} {e : Effect} (h : s.canWrite p i j = true)
    (he : e s = .error c) : s.odWriteSettled p i j e = .next (s.aborted p i j c) := by
  unfold State.odWriteSettled
  exact State.odWrite_error h (by simp only [he])

/-- The values that a list of writes with rising sub-indices leaves. -/
theorem State.cell_putCells_mem (i : Nat) : ∀ (l : List (Nat × Nat)) (s : State), (∀ e ∈ l, e.1 < 256) →
    (l.map Prod.fst).Pairwise (· < ·) → ∀ e ∈ l, (s.putCells i l).cell i e.1 = e.2 := by
  intro l
  induction l with
  | nil => intro _ _ _ e he; cases he
  | cons c r ih =>
    intro s hl hp e he
    have hr : ∀ e ∈ r, e.1 < 256 := fun x hx => hl x (List.mem_cons_of_mem _ hx)
    have step : s.putCells i (c :: r) = (s.putCell i c.1 c.2).putCells i r := rfl
    simp only [List.map_cons, List.pairwise_cons] at hp
    rcases List.mem_cons.mp he with rfl | he
    · rw [step, State.cell_putCells_sub _ (hl _ List.mem_cons_self) r hr, State.cell_putCell_same]
      intro x hx hne
      have := hp.1 x.1 (List.mem_map.mpr ⟨x, hx, rfl⟩)
      omega
    · rw [step]
      exact ih _ hr hp.2 e he

/-! ### Entries (R22, R193) -/

@[simp] theorem cond_false (st : Status) : cond false st = [] := rfl
@[simp] theorem worst_nil : worst [] = .ok := rfl

/-- An open job adds no condition to its entries. -/
theorem State.jobConds_open {s : State} {j : Nat} (h : (s.jobOf j).st = .opened) : s.jobConds j = [] := by
  simp [State.jobConds, h, cond]

/-- An entry without a condition against it has its effect, from the state in which it has been accepted. -/
theorem State.accept_ok {s : State} {id idx eng op : Nat} {conds : ListRun → EntryRun → List Status}
    {eff : ListRun → EntryRun → State → State} {l : ListRun} {e : EntryRun} (h : s.handed id idx eng op = some (l, e))
    (hc : s.jobConds l.job ++ conds l e = []) : s.accept id idx eng op conds eff = .next (eff l e (s.entryAccept id idx)) := by
  unfold State.accept
  simp only [h, hc]
  rfl

/-- An entry with a condition against it is refused with the status of the condition that comes first (R22). -/
theorem State.accept_refused {s : State} {id idx eng op : Nat} {conds : ListRun → EntryRun → List Status}
    {eff : ListRun → EntryRun → State → State} {l : ListRun} {e : EntryRun} (h : s.handed id idx eng op = some (l, e))
    (hc : worst (s.jobConds l.job ++ conds l e) ≠ .ok) :
    s.accept id idx eng op conds eff = .next (s.entryRefuse id idx (worst (s.jobConds l.job ++ conds l e)) 0) := by
  unfold State.accept
  simp only [h, if_neg hc]

/-! ### The frame of a command -/

/-- A command that answers `t` changes only the fields that its mask names. -/
theorem StepO.only {F : Nat} {s t : State} {o : Host.Outcome State Fault Refusal} {fs : List Field} (h : StepO F s o)
    (e : o = .next t) (c : maskIn F fs = true) : s.onlyChanges fs t := by
  obtain ⟨u, hu, k⟩ := h
  rw [hu] at e
  cases e
  exact k.only c

/-- A command completes: its outcome, its frame from its mask, and what holds of the next state. -/
theorem completes_of {c : Instr} {s t : State} {fs : List Field} {p : State → Prop} {F : Nat} (h : exec c s = .next t)
    (k : StepO F s (exec c s)) (m : maskIn F fs = true) (hp : p t) : completes c s fs p := ⟨t, h, k.only h m, hp⟩

/-- A query that passes its checks takes its values. -/
theorem State.takes_of {c : Instr} {s : State} {p : Path} {i j F : Nat} {eff : Effect} {l : List (Nat × Nat)}
    (hx : exec c s = s.odWrite p i j eff) (hw : s.canWrite p i j = true) (he : eff s = .ok (s.putCells i l))
    (hl : ∀ e ∈ l, e.1 < 256) (hp : (l.map Prod.fst).Pairwise (· < ·)) (k : StepO F s (exec c s)) (m : maskIn F [.od] = true) :
    s.takes c i l :=
  completes_of (hx.trans (State.odWrite_ok hw he)) k m ⟨State.cell_putCells_mem i l s hl hp, State.putCells_otherCells s i l hl⟩

end Sys2Proof.Machine
end

