-- ==== Sys2Proof/Laws/Entries.lean ====
section
/-! SUPPORT. What accepting and completing an entry does to the lists: one lemma for each shared operation. -/

namespace Sys2Proof.Machine

theorem find?_map_idx (l : List EntryRun) (idx : Nat) (g : EntryRun → EntryRun) (hg : ∀ x, x.idx = idx → (g x).status.isSome) :
    ((l.map fun x => if x.idx = idx then g x else x).find? fun e => e.idx == idx && e.status.isNone) = none := by
  rw [List.find?_eq_none]
  intro x hx
  obtain ⟨y, -, rfl⟩ := List.mem_map.mp hx
  by_cases h : y.idx = idx
  · have := hg y h
    simp [if_pos h, Option.isSome_iff_ne_none.mp this]
  · simp [h]

/-- A list without an outstanding entry of a number has none after its check either. -/
theorem State.entryOf_listCheck {s : State} {id idx : Nat} (h : s.entryOf id idx = none) (at_ : Nat) :
    (s.listCheck id at_).entryOf id idx = none := by
  have put : ∀ (x : State) (l : ListRun) (a : Nat) (b : List Byte), (x.listPut id l a b).lists = x.lists.set id { l with slots := l.slots - 1 } := by
    intro x l a b; unfold State.listPut; dsimp only; split <;> simp
  have fin : ∀ (x : State) (st : Status) (a b c : Nat), (x.lists.find id).isSome → (x.listEnd id st a b c at_).entryOf id idx = none := by
    intro x st a b c hx
    obtain ⟨l, hl⟩ := Option.isSome_iff_exists.mp hx
    unfold State.listEnd State.entryOf
    simp only [hl]
    simp only [Tab.find_erase_same]
  unfold State.listCheck
  cases hl : s.lists.find id with
  | none => simpa using h
  | some l =>
    dsimp only
    split
    · split <;> exact fin _ _ _ _ _ (by simp [hl])
    · exact h

/-- An entry that completes is not outstanding any more. -/
theorem State.entryOf_entryDoneAt (s : State) (at_ id idx : Nat) (st : Status) (det result slot : Nat) :
    (s.entryDoneAt at_ id idx st det result slot).entryOf id idx = none := by
  have put : ∀ (x : State) (l : ListRun) (a : Nat) (b : List Byte), (x.listPut id l a b).lists = x.lists.set id { l with slots := l.slots - 1 } := by
    intro x l a b; unfold State.listPut; dsimp only; split <;> simp
  unfold State.entryDoneAt
  cases hl : s.lists.find id with
  | none => simp [State.entryOf, hl]
  | some l =>
    cases he : s.entryOf id idx with
    | none => simpa using he
    | some e =>
      dsimp only
      apply State.entryOf_listCheck
      split
      · simp only [State.entryOf, put, Tab.find_set_same]
        exact find?_map_idx _ _ _ fun _ _ => rfl
      · simp only [State.entryOf, State.dmaRelease, Tab.find_set_same]
        exact find?_map_idx _ _ _ fun _ _ => rfl

theorem State.entryOf_entryDone (s : State) (id idx : Nat) (st : Status) (det result slot : Nat) :
    (s.entryDone id idx st det result slot).entryOf id idx = none := s.entryOf_entryDoneAt s.stamp id idx st det result slot

/-- An entry that ends with what it has served is over. -/
theorem State.entryOf_entryEnd (s : State) (id idx : Nat) (st : Status) (det : Nat) :
    (s.entryEnd id idx st det).entryOf id idx = none := by
  unfold State.entryEnd
  split
  · assumption
  · exact s.entryOf_entryDone ..

theorem State.entryOf_slotDone (s : State) (id idx slot : Nat) : (s.entryDone id idx .ok 0 0 slot).entryOf id idx = none :=
  s.entryOf_entryDone id idx .ok 0 0 slot

/-- Accepting an entry leaves it outstanding. -/
theorem State.entryOf_entryAccept (s : State) (id idx : Nat) (i : Nat) : (s.entryAccept id idx).entryOf id i = s.entryOf id i := by
  unfold State.entryAccept
  cases hl : s.lists.find id with
  | none => simp
  | some l => simp [State.entryOf, hl]

/-- An entry handed to an engine is outstanding. -/
theorem State.handed_entryOf {s : State} {id idx eng op : Nat} {l : ListRun} {e : EntryRun} (h : s.handed id idx eng op = some (l, e)) :
    s.entryOf id idx = some e := by
  unfold State.handed at h
  cases hl : s.lists.find id with
  | none => simp [hl] at h
  | some m =>
    cases he : s.entryOf id idx with
    | none => simp [hl, he] at h
    | some f => simp [hl, he] at h; rw [h.2.2]

/-- Completing an entry writes no cell but the withheld-record counter. -/
theorem State.listPut_cell (s : State) (id : Nat) (l : ListRun) (a : Nat) (b : List Byte) {i j : Nat} (hj : j < 256) (h : i ≠ 0x2501) :
    (s.listPut id l a b).cell i j = s.cell i j := by
  have hq : ∀ (x : State) (k a : Nat) (b : List Byte), (x.cqPut k a b).od = x.od := fun x k a b =>
    ((State.cqPut_step (Step.refl 72075187232441472 x) rfl).od (by decide))
  unfold State.listPut
  dsimp only
  split
  · unfold State.bump64 State.count
    rw [State.cell_putCell_other _ _ hj (by decide) fun e => h e.1]
    rfl
  · simp only [State.cell, hq]

theorem State.entryDoneAt_cell (s : State) (at_ id idx : Nat) (st : Status) (det result slot : Nat) {i j : Nat} (hj : j < 256)
    (h : i ≠ 0x2501) : (s.entryDoneAt at_ id idx st det result slot).cell i j = s.cell i j := by
  have e1 : ∀ (x : State) (st : Status) (a b c : Nat), (x.listEnd id st a b c at_).cell i j = x.cell i j := by
    intro x st a b c
    unfold State.listEnd
    split
    · rfl
    · rename_i l hl
      exact x.listPut_cell id l _ _ hj h
  have e2 : ∀ x : State, (x.listCheck id at_).cell i j = x.cell i j := by
    intro x
    unfold State.listCheck
    split
    · rfl
    · split
      · split <;> exact e1 _ _ _ _ _
      · rfl
  unfold State.entryDoneAt
  split
  · rw [e2]
    split
    · rw [State.listPut_cell _ _ _ _ _ hj h]; rfl
    · rfl
  · rfl

theorem State.entryDone_cell (s : State) (id idx : Nat) (st : Status) (det result slot : Nat) {i j : Nat} (hj : j < 256)
    (h : i ≠ 0x2501) : (s.entryDone id idx st det result slot).cell i j = s.cell i j := s.entryDoneAt_cell _ _ _ _ _ _ _ hj h

theorem State.entryEnd_cell (s : State) (id idx : Nat) (st : Status) (det : Nat) {i j : Nat} (hj : j < 256) (h : i ≠ 0x2501) :
    (s.entryEnd id idx st det).cell i j = s.cell i j := by
  unfold State.entryEnd
  split
  · rfl
  · exact State.entryDone_cell _ _ _ _ _ _ _ hj h

theorem State.entryRefuse_cell (s : State) (id idx : Nat) (st : Status) (det : Nat) {i j : Nat} (hj : j < 256) (h : i ≠ 0x2501) :
    (s.entryRefuse id idx st det).cell i j = s.cell i j := by
  unfold State.entryRefuse
  split
  · rfl
  · rw [State.entryEnd_cell _ _ _ _ _ hj h]; rfl

/-- A refused entry is over. -/
theorem State.entryOf_entryRefuse (s : State) (id idx : Nat) (st : Status) (det : Nat) :
    (s.entryRefuse id idx st det).entryOf id idx = none := by
  unfold State.entryRefuse
  cases hl : s.lists.find id with
  | none => simp [State.entryOf, hl]
  | some m => exact State.entryOf_entryEnd ..

/-- A setting reads as before where a write of a cell names another one. -/
theorem State.setting_putCell_other (s : State) {i j a b : Nat} (v : Nat) (ha : a < 256) (hb : b < 256) (h : ¬ (i = j ∧ a = b)) :
    (s.putCell j b v).setting i a = s.setting i a := by
  unfold State.setting
  rw [State.putCell_od, Tab.get_set_other]
  intro e; exact h (odKey_inj ha hb e)

theorem putCell_sum {α : Type} (g : Nat × α → Nat) (q : Nat × α → Bool) (k : Nat) (v : α) : ∀ (l : List (Nat × α)), findCell k l = none →
    (((putCell k v l).filter q).map g).sum = (((l.filter q).map g).sum) + if q (k, v) then g (k, v) else 0 := by
  intro l
  induction l with
  | nil => intro _; by_cases hq : q (k, v) <;> simp [putCell, hq]
  | cons c r ih =>
    intro h
    obtain ⟨j, w⟩ := c
    simp only [findCell] at h
    split at h
    · cases h
    · rename_i hj
      simp only [putCell]
      split
      · by_cases hq : q (k, v) <;> by_cases hc : q (j, w) <;> simp [hq, hc] <;> omega
      · by_cases hc : q (j, w) <;> simp [hc, ih h] <;> omega

/-- A table of changed values. -/
theorem Tab.find_mapVals {α : Type} (t : Tab α) (f : Nat → α → α) (k : Nat) : (t.mapVals f).find k = (t.find k).map (f k) := by
  obtain ⟨l⟩ := t
  unfold Tab.find Tab.mapVals
  induction l with
  | nil => rfl
  | cons c r ih =>
    obtain ⟨j, v⟩ := c
    simp only [List.map_cons, findCell]
    split
    · rename_i h; subst h; rfl
    · exact ih

/-- What every turn of a loop keeps, the loop keeps. -/
theorem each_keeps {α β : Type} (g : State → β) (f : State → α → State) (h : ∀ x a, g (f x a) = g x) :
    ∀ (l : List α) (s : State), g (each l f s) = g s := by
  intro l
  induction l with
  | nil => intro s; rfl
  | cons a r ih => intro s; exact (ih _).trans (h s a)

/-- An entry begun without a condition against it has its effect. -/
theorem State.accept_begun {s : State} {id idx eng op : Nat} {conds : ListRun → EntryRun → List Status}
    {eff : ListRun → EntryRun → State → State} {l : ListRun} {e : EntryRun} (h : s.begun id idx eng op l e)
    (hc : conds l e = []) : s.accept id idx eng op conds eff = .next (eff l e (s.entryAccept id idx)) :=
  State.accept_ok h.1 (by rw [State.jobConds_open h.2, hc]; rfl)

/-- An outstanding entry bears its number and has no status. -/
theorem State.entryOf_spec {s : State} {id idx : Nat} {e : EntryRun} (h : s.entryOf id idx = some e) : e.idx = idx ∧ e.status = none := by
  unfold State.entryOf at h
  cases hl : s.lists.find id with
  | none => rw [hl] at h; cases h
  | some l =>
    rw [hl] at h
    have := List.find?_some h
    simpa using this

/-- A change of a begun entry that keeps its number and its status. -/
theorem State.entryOf_entryMap {s : State} {id idx : Nat} {e : EntryRun} {f : EntryRun → EntryRun} (h : s.entryOf id idx = some e)
    (hi : ∀ x, (f x).idx = x.idx) (hs : ∀ x, (f x).status = x.status) : (s.entryMap id idx f).entryOf id idx = some (f e) := by
  unfold State.entryOf at h
  unfold State.entryMap State.entryOf
  cases hl : s.lists.find id with
  | none => rw [hl] at h; cases h
  | some l =>
    rw [hl] at h
    simp only [Tab.find_set_same]
    replace h : (l.entries.find? fun e => e.idx == idx && e.status.isNone) = some e := h
    generalize l.entries = L at h
    induction L with
    | nil => cases h
    | cons a r ih =>
      rw [List.find?_cons] at h
      rw [List.map_cons, List.find?_cons]
      by_cases ha : a.idx = idx
      · simp only [ha, if_true, hi, hs, beq_self_eq_true, Bool.true_and] at h ⊢
        split at h
        · cases h; rfl
        · exact ih h
      · simp only [if_neg ha, beq_false_of_ne ha, Bool.false_and] at h ⊢
        exact ih h

theorem State.entryOf_entryMap_const {s : State} {id idx : Nat} {e d : EntryRun} (h : s.entryOf id idx = some e) (hi : d.idx = idx)
    (hs : d.status = none) : (s.entryMap id idx fun _ => d).entryOf id idx = some d := by
  unfold State.entryOf at h
  unfold State.entryMap State.entryOf
  cases hl : s.lists.find id with
  | none => rw [hl] at h; cases h
  | some l =>
    rw [hl] at h
    simp only [Tab.find_set_same]
    replace h : (l.entries.find? fun e => e.idx == idx && e.status.isNone) = some e := h
    generalize l.entries = L at h
    induction L with
    | nil => cases h
    | cons a r ih =>
      rw [List.find?_cons] at h
      rw [List.map_cons, List.find?_cons]
      by_cases ha : a.idx = idx
      · simp [ha, hi, hs]
      · simp only [if_neg ha, beq_false_of_ne ha, Bool.false_and] at h ⊢
        exact ih h

/-- A part of an entry that is not its last ends: only its list changes. -/
theorem State.partDone_more {s : State} {id idx : Nat} {e : EntryRun} {st : Status} {det : Nat} (h : s.entryOf id idx = some e)
    (hp : e.parts - 1 ≠ 0) : s.partDone id idx st det = s.entryMap id idx fun _ =>
      { e with parts := e.parts - 1, worst := e.worst.worse st, det := if st = .ok then e.det else det } := by
  unfold State.partDone
  simp only [h, if_neg hp]

end Sys2Proof.Machine
end

