-- ==== Sys2Proof/Laws/Cores.lean ====
section
/-! SUPPORT. How an extension instruction ends, one lemma for each way. -/

namespace Sys2Proof.Machine

@[simp] theorem State.tileOf_setTile_same (s : State) (k : Nat) (t : Tile) : (s.setTile k t).tileOf k = t := by
  simp [State.tileOf, State.setTile]

theorem State.tileOf_setTile_other (s : State) {j k : Nat} (h : j ≠ k) (t : Tile) : (s.setTile k t).tileOf j = s.tileOf j := by
  simp [State.tileOf, State.setTile, Tab.get_set_other _ _ _ h]

/-- A table's second write of a cell replaces the first. -/
theorem putCell_putCell {α : Type} (k : Nat) (v w : α) : ∀ l : List (Nat × α), putCell k w (putCell k v l) = putCell k w l := by
  intro l
  induction l with
  | nil => simp [putCell]
  | cons c r ih =>
    obtain ⟨j, x⟩ := c
    simp only [putCell]
    split
    · simp [putCell]
    · split
      · simp [putCell]
      · rename_i h1 h2
        simp [putCell, h1, h2, ih]

@[simp] theorem State.setTile_setTile (s : State) (k : Nat) (a b : Tile) : (s.setTile k a).setTile k b = s.setTile k b := by
  simp [State.setTile, Tab.set, putCell_putCell]

/-- An extension instruction that is done retires. -/
theorem State.ext_done {s s1 s2 : State} {t : PhysTile} {c : Core} {code w : Nat} {v : Option Nat}
    {f : State → Nat → Nat → Nat → ExtOut} (h : s.extAt t c code s1 w) (hf : f s1 w (s1.rs1 t c w) (s1.rs2 t c w) = .done s2 v) :
    s.ext t c code f = .next (s2.retired t c w v (s2.tileOf (tileKey t))) := by
  unfold State.ext
  rw [if_neg (by rw [h.1]; decide), h.2.1]
  simp only [h.2.2, ne_eq, not_true_eq_false, if_false]
  simp only [State.rs1, State.rs2] at hf
  rw [hf]
  cases v <;> rfl

theorem State.ext_stall {s s1 s2 : State} {t : PhysTile} {c : Core} {code w : Nat}
    {f : State → Nat → Nat → Nat → ExtOut} (h : s.extAt t c code s1 w) (hf : f s1 w (s1.rs1 t c w) (s1.rs2 t c w) = .stall s2) :
    s.ext t c code f = .next s2 := by
  unfold State.ext
  rw [if_neg (by rw [h.1]; decide), h.2.1]
  simp only [h.2.2, ne_eq, not_true_eq_false, if_false]
  simp only [State.rs1, State.rs2] at hf
  rw [hf]

theorem State.ext_trap {s s1 : State} {t : PhysTile} {c : Core} {code w q : Nat}
    {f : State → Nat → Nat → Nat → ExtOut} (h : s.extAt t c code s1 w) (hf : f s1 w (s1.rs1 t c w) (s1.rs2 t c w) = .trap q) :
    s.ext t c code f = .next (s1.trap (tileKey t) c q 0) := by
  unfold State.ext
  rw [if_neg (by rw [h.1]; decide), h.2.1]
  simp only [h.2.2, ne_eq, not_true_eq_false, if_false]
  simp only [State.rs1, State.rs2] at hf
  rw [hf]

/-- A base instruction at a core's pc has its effect. -/
theorem exec_baseAt {s s1 : State} {t : PhysTile} {c : Core} {us : List StoreUpset} {w len : Nat} (h : s.baseAt t c us s1 w len) :
    exec (.prepCoreInstruction t c us) s = .next (s1.baseOp (tileKey t) c w len) := by
  obtain ⟨h1, v, h2, h3, h4⟩ := h
  show execPrepCoreInstruction t c us s = _
  unfold execPrepCoreInstruction
  dsimp only
  rw [if_neg (by rw [h1]; decide), h2]
  have e : ¬ (len = 4 ∧ (extCode v).isSome = true) := by
    rintro ⟨rfl, he⟩
    have hv : v = w := by simpa [fullWord] using h3
    subst hv
    rw [h4 rfl] at he
    cases he
  simp only [if_neg e, h3]

/-! ### Detectors and suspect units -/

theorem State.logAdd_det (s : State) (d u a k : Nat) (i : Bool) : (s.logAdd d u a k i).det = s.det :=
  (State.logAdd_step (Step.refl 939524096 s) rfl).det (by decide)

/-- Firing a detector counts it once and takes the stamp. -/
theorem State.firedOnce_fire {s x : State} (h : x.det = s.det) (hs : x.stamp = s.stamp) (d u a : Nat) : s.firedOnce d (x.fire d u a) := by
  have e : (x.fire d u a).det = x.det.set d ⟨((x.detOf d).count + 1) % 2 ^ 64, x.stamp,
      if x.injection.acting then ((x.detOf d).injected + 1) % 2 ^ 32 else (x.detOf d).injected⟩ := by
    unfold State.fire State.fireFull
    dsimp only
    rw [State.logAdd_det]
  refine ⟨?_, ?_, ?_⟩
  · simp [State.detOf, e, h]
  · simp [State.detOf, e, hs]
  · intro f hf
    simp [State.detOf, e, h, Tab.get_set_other _ _ _ hf]

/-- Making a unit suspect. -/
theorem State.suspects1_suspect {s x : State} (h : x.suspects = s.suspects) (u : FailUnit) (d : Nat) : s.suspects1 u (x.suspect u d) := by
  unfold State.suspects1 State.suspect State.isSuspect
  rw [h]
  split
  · rename_i hu
    exact ⟨by rw [h]; exact hu, fun v _ => by rw [h]⟩
  · refine ⟨by simp, fun v hv => ?_⟩
    simp [hv.symm]

theorem State.firedOnce_congr {s x t : State} {d : Nat} (h : s.firedOnce d x) (e : t.det = x.det) : s.firedOnce d t := by
  unfold State.firedOnce State.detOf at *
  rw [e]
  exact h

theorem State.suspects1_congr {s x t : State} {u : FailUnit} (h : s.suspects1 u x) (e : t.suspects = x.suspects) : s.suspects1 u t := by
  unfold State.suspects1 State.isSuspect at *
  rw [e]
  exact h

end Sys2Proof.Machine
end

