-- ==== Sys2Proof/WellFormed.lean ====
section
/-! DEFINITION. Well-formed commands: operands that the world can bring. Registers, numbers and addresses are held to their
widths by their types; here stand the bounds that are not. A command that is not well-formed still has an outcome. -/

namespace Sys2Proof

/-- A CAN FD frame has at most 64 data bytes (R303). -/
def frameOk (data : List Byte) : Bool := decide (data.length ≤ 64)

/-- A PCIe access reads or writes 1 to 4,096 bytes. -/
def accOk : HostAcc → Bool
  | .read n => decide (1 ≤ n) && decide (n ≤ 4096)
  | .write data _ => decide (1 ≤ data.length) && decide (data.length ≤ 4096)

/-- A command's operands are ones that the world can bring. -/
def Instr.wellFormed : Instr → Bool
  | .lineBoundary => true
  | .seamLaneFail _ _ _ => true
  | .passThroughLaneFail _ _ _ => true
  | .translationQuery _ _ => true
  | .beatWordDecide _ _ => true
  | .beatWindowClose => true
  | .carrierAbsent => true
  | .holdoverLimit => true
  | .holdoverLimitWrite _ _ => true
  | .sessionBeat _ => true
  | .sessionQuery _ _ => true
  | .matrixIssue _ => true
  | .instructionRetire _ => true
  | .issueHang _ => true
  | .tileHeartbeatTimeout _ => true
  | .prepCoreInstruction _ _ _ => true
  | .eccWriteback _ => true
  | .mpush _ _ => true
  | .mwait _ _ => true
  | .ffill _ _ _ => true
  | .psat _ _ => true
  | .pqnt _ _ => true
  | .acopy _ _ => true
  | .alut _ _ => true
  | .ccount _ _ => true
  | .msend _ _ => true
  | .msendLineLand _ _ => true
  | .mrecv _ _ => true
  | .evpush _ _ => true
  | .wland _ _ => true
  | .stamp _ _ => true
  | .tend _ _ => true
  | .taskEnd _ => true
  | .regionAdvance _ _ _ _ => true
  | .qstatClear _ _ => true
  | .tileCounterReadClear _ _ => true
  | .tileQuery _ _ => true
  | .storeQuery _ _ => true
  | .nvmeLinkUp _ gen _ => decide (1 ≤ gen) && decide (gen ≤ 5)
  | .nvmeLinkDown _ => true
  | .nvmeLinkRetry _ => true
  | .nvmeCommandTimeout _ _ => true
  | .nvmeCompletion _ _ _ _ => true
  | .smartPoll _ _ => true
  | .patrolScrub _ => true
  | .pleatStaged _ _ => true
  | .flashStageLine _ _ => true
  | .passStart _ => true
  | .stepFetchLine _ _ _ => true
  | .blockLanded _ _ _ _ => true
  | .landingLine _ _ _ => true
  | .passEnd _ _ => true
  | .segmentQuery _ _ => true
  | .planQuery _ _ => true
  | .functionLevelReset _ => true
  | .hostLinkDown _ => true
  | .hostLinkUp _ gen link => decide (30 ≤ link.bar2) && decide (link.bar2 ≤ 40) && decide (1 ≤ gen.toNat) && decide (gen.toNat ≤ 5) && [1, 2, 4, 8, 16].contains link.width.toNat
  | .pcieUncorrectableError _ => true
  | .bar2Access _ _ acc _ => accOk acc
  | .apertureAccess _ _ acc => accOk acc
  | .stampLoRead rd => rd.off % 4 == 0 && decide (rd.off < 0x4000000)
  | .ringConfigWrite _ off _ => decide (off % 4 = 0)
  | .sqDoorbell _ _ _ bytes _ => [1, 2, 4, 8].contains bytes
  | .cqDoorbell _ _ _ bytes _ => [1, 2, 4, 8].contains bytes
  | .descriptorFetch _ _ => true
  | .entryBegin _ => true
  | .entryNop _ _ => true
  | .pload _ _ => true
  | .tstart _ _ => true
  | .copy _ _ _ => true
  | .copyDone _ _ => true
  | .jopen _ _ => true
  | .jclose _ _ => true
  | .planload _ _ => true
  | .activate _ _ => true
  | .deactivate _ _ => true
  | .unload _ _ => true
  | .restage _ _ => true
  | .fread _ _ => true
  | .fwrite _ _ => true
  | .fflush _ _ => true
  | .ftrim _ _ => true
  | .tattach _ _ => true
  | .tattachScanDone _ _ => true
  | .tdetach _ _ => true
  | .treward _ _ => true
  | .tclear _ _ => true
  | .sopen _ _ => true
  | .sretime _ _ => true
  | .sresume _ _ => true
  | .sclose _ _ => true
  | .sbind _ _ => true
  | .frame _ _ => true
  | .fready _ _ => true
  | .jobQuery _ _ => true
  | .tailorPre _ => true
  | .tailorPost _ => true
  | .tailorError _ => true
  | .tailorReward _ => true
  | .tailorStep _ => true
  | .feedbackDelivery _ _ => true
  | .rewardBroadcast => true
  | .slotQuery _ _ => true
  | .contextQuery _ _ => true
  | .oraSendFrame _ _ => true
  | .oraWriteFrame _ _ => true
  | .oraReadReqFrame _ _ => true
  | .oraReadRespFrame _ _ => true
  | .oraFaddFrame _ _ => true
  | .oraCasFrame _ _ => true
  | .oraAtomicRespFrame _ _ => true
  | .oraAckFrame _ _ => true
  | .oraNakFrame _ _ => true
  | .oraCreditFrame _ _ => true
  | .heldFrameApply _ => true
  | .oraRequestSend _ => true
  | .retransmitTimeout _ => true
  | .ackDelayExpiry _ => true
  | .creditProbe _ => true
  | .rnrRetry _ _ => true
  | .remoteConnect _ _ => true
  | .remoteDisconnect _ _ => true
  | .remoteSend _ _ => true
  | .remoteRecv _ _ => true
  | .remoteWrite _ _ => true
  | .remoteRead _ _ => true
  | .remoteFadd _ _ => true
  | .remoteCas _ _ => true
  | .ctrset _ _ => true
  | .ctrfree _ _ => true
  | .tready _ _ => true
  | .connectionQuery _ _ => true
  | .counterQuery _ _ => true
  | .macControlFrame _ len => decide (64 ≤ len)
  | .portLinkChange _ _ => true
  | .portConfigWrite _ _ _ => true
  | .portFrameTransmit _ => true
  | .nodeEntryExpiry _ => true
  | .nodeTableFlush _ _ => true
  | .staticEntryWrite _ _ => true
  | .nodeQuery _ _ => true
  | .shaperRateWrite _ _ _ _ => true
  | .shaperBurstWrite _ _ _ _ => true
  | .nmtStart _ => true
  | .nmtStop _ => true
  | .nmtEnterPreoperational _ => true
  | .nmtResetNode _ => true
  | .nmtResetCommunication _ => true
  | .heartbeatProduce _ => true
  | .producerHeartbeatWrite _ _ => true
  | .heartbeatReceive _ => true
  | .heartbeatConsumerTimeout _ => true
  | .syncReceive _ => true
  | .emcyTransmit => true
  | .emcyCobidWrite _ _ => true
  | .canErrorDetected _ _ => true
  | .busOffRecovery => true
  | .busDominantTimeout => true
  | .sdoInitiateDownload data => frameOk data
  | .sdoDownloadSegment data => frameOk data
  | .sdoInitiateUpload data => frameOk data
  | .sdoUploadSegment data => frameOk data
  | .sdoBlockDownloadInitiate data => frameOk data
  | .sdoBlockDownloadSubblock segments => decide (segments.length ≤ 127) && segments.all frameOk
  | .sdoBlockDownloadEnd data => frameOk data
  | .sdoBlockUploadInitiate data => frameOk data
  | .sdoBlockUploadStart data => frameOk data
  | .sdoBlockUploadAck data => frameOk data
  | .sdoBlockUploadEnd data => frameOk data
  | .sdoAbortReceive data => frameOk data
  | .sdoTimeout => true
  | .rpdoReceive _ data => decide (data.length ≤ 64)
  | .rpdoEventTimeout _ => true
  | .tpdoChangeCheck _ => true
  | .tpdoEventTimer _ => true
  | .tpdoInhibitEnd _ => true
  | .storeParameters _ _ _ => true
  | .storeDone _ => true
  | .restoreDefaults _ _ _ => true
  | .errorHistoryClear _ _ => true
  | .dictionaryWrite _ _ _ data => decide (data.length ≤ 2 ^ 25)
  | .mirrorRead _ off n => decide (1 ≤ n) && decide (off + n ≤ 0xE80000)
  | .mirrorWrite _ off => decide (off < 0xE80000)
  | .mailboxRead _ _ => true
  | .mailboxWrite _ req => decide (req.data.length ≤ 65536)
  | .mailboxAbort _ _ => true
  | .mailboxComplete _ => true
  | .mailboxDoneClear _ => true
  | .mailboxChunkTimeout _ => true
  | .mainInputStateChange _ _ => true
  | .standbyInputFault _ => true
  | .domainRequestOn _ _ => true
  | .domainRequestOff _ _ => true
  | .domainRampStart _ => true
  | .domainPowerGood _ => true
  | .domainPowerGoodTimeout _ => true
  | .panelRailWarning _ _ _ => true
  | .panelRailRecovered _ _ _ => true
  | .panelRailReset _ _ _ => true
  | .panelResetRelease _ => true
  | .panelResetTimeout _ => true
  | .railWarning _ => true
  | .railReset _ => true
  | .brownoutClear _ _ => true
  | .powerLimitAction _ => true
  | .powerLimitRelease _ => true
  | .panelOvercurrent _ _ => true
  | .overcurrentClear _ _ _ => true
  | .clockCheck _ => true
  | .pllUnlock _ => true
  | .referenceLost => true
  | .coolantSensorFault _ _ => true
  | .coolantSensorRecovered _ _ => true
  | .outletWarning _ => true
  | .thermalLimit _ _ => true
  | .thermalLimitEnd _ _ => true
  | .outletShutdown _ => true
  | .dieTemperatureChange _ _ => true
  | .coldStart _ _ => true
  | .moduleResetAssert => true
  | .warmStart _ _ => true
  | .fuseLoad _ => true
  | .imageVerify _ _ => true
  | .collarFirmwareStart => true
  | .mainInputQualified => true
  | .yokeRamp => true
  | .yokeLoad _ => true
  | .yokeSelfTest _ => true
  | .domainPowerUp => true
  | .dramTrainingDone _ _ => true
  | .segmentScrubDone _ _ => true
  | .panelSelfTestDone _ _ _ => true
  | .gridBuild _ => true
  | .startupStepTimeout step unit => decide (1 ≤ step) && decide (step ≤ 12) && (step != 11 || decide (unit < 16)) && (step != 12 || decide (unit < 64))
  | .yokeStartRetry => true
  | .tileFence _ => true
  | .storeMoveEnd _ _ => true
  | .panelLossRebuild => true
  | .panelResetFence _ => true
  | .panelReturn _ _ => true
  | .leaseExpiry _ _ => true
  | .ownerFence _ _ => true
  | .dmaDrainDone _ _ => true
  | .drainTimeout _ _ => true
  | .fenceJob _ _ => true
  | .yokeFailure _ => true
  | .collarFailure _ => true
  | .collarAbsentTimeout => true
  | .gridRestore _ _ _ => true
  | .replacementClear _ _ => true
  | .faultLogClear _ _ => true
  | .detectorQuery _ _ => true
  | .logQuery _ _ => true
  | .injectionArm _ => true
  | .injectionDisarm _ => true
  | .injectionFire => true
  | .updateBegin _ => true
  | .slotEraseDone _ => true
  | .updateCancel _ => true
  | .updateRestart _ => true
  | .imageDataWrite data _ => decide (data.length ≤ 2 ^ 25)
  | .imageUpdateVerify _ _ => true
  | .healthWindowExpiry => true
  | .commit _ _ => true
  | .carrierReturn => true
  | .referenceReturn => true
  | .receivedFrameDiscard _ _ => true
  | .ploadDone _ _ => true

end Sys2Proof
end

