-- ==== Sys2Proof/Tests/Slice0.lean ====
section
/-! SUPPORT. Tests of the model: the well-formedness checks, worked examples of the spec, and the witnesses of the statements'
hypotheses. -/

-- One proof at a time: evaluated together, these would each hold a thread.
set_option Elab.async false

namespace Sys2Proof.Tests

open Sys2Proof.Machine

/-! ### Well-formedness refuses what it should -/

theorem test_wf_link_gen : Instr.wellFormed (.hostLinkUp .hostA 6 ⟨16, 30⟩) = false := by decide
theorem test_wf_nvme_gen : Instr.wellFormed (.nvmeLinkUp 0 0
    ⟨true, 12, false, false, 0, 0, true, 255, 8, 1000⟩) = false := by decide
theorem test_wf_mirror_empty : Instr.wellFormed (.mirrorRead .hostA 0 0) = false := by decide
theorem test_wf_mirror_end : Instr.wellFormed (.mirrorWrite .hostB 0xE80000) = false := by decide
theorem test_wf_read_size : Instr.wellFormed (.bar2Access .hostA 0 (.read 4097) []) = false := by decide
theorem test_wf_aperture_empty : Instr.wellFormed (.apertureAccess .hostA 0 (.write [] false)) = false := by decide
theorem test_wf_config_aligned : Instr.wellFormed (.ringConfigWrite .hostA 2 0) = false := by decide
theorem test_wf_doorbell_size : Instr.wellFormed (.sqDoorbell .hostA .grid 0 3 0) = false := by decide
theorem test_wf_cq_doorbell_size : Instr.wellFormed (.cqDoorbell .hostA .grid 0 0 0) = false := by decide
theorem test_wf_rpdo_length : Instr.wellFormed (.rpdoReceive 0 (List.replicate 65 0)) = false := by decide
theorem test_wf_sdo_length : Instr.wellFormed (.sdoInitiateUpload (List.replicate 65 0)) = false := by decide
theorem test_wf_step : Instr.wellFormed (.startupStepTimeout 13 0) = false := by decide
theorem test_wf_mac_length : Instr.wellFormed (.macControlFrame 0 63) = false := by decide

/-! ### States that the witnesses start from -/

/-- A running module: collar, yoke and hosts up, the node OPERATIONAL, the input in range, the domains of YOKE, segment 0 and HOSTA on. -/
def on : State := { State.reset with
  up := { bringUp0 with inReset := false, collar := true, yoke := true, phase := .done, step := 12, built := true, level := 2 }
  can := { can0 with nmt := .operational, nodeId := 33 }
  hostA := { hostFn0 with up := true }, hostB := { hostFn0 with up := true }
  dram := Tab.empty.set 0 true
  power := { power0 with input := .inRange, inputMv := 48000, domains := ⟨[(0, ⟨.on, false, 0⟩), (1, ⟨.on, false, 0⟩), (17, ⟨.on, false, 0⟩)]⟩ } }

/-- The collar serves and waits; the yoke does not run, and no domain is on. -/
def early : State := { State.reset with
  up := { bringUp0 with inReset := false, collar := true, phase := .waiting, step := 6 }
  can := { can0 with nmt := .preOperational }
  power := { power0 with input := .inRange } }

/-- The beat unit LOCKED at the default raster, its next word not yet decided. -/
def locked : State := { on with beat := { beat0 with
  lock := .locked, carrier := true, everLocked := true, lines := 1200, rate := 60000, n := 409, boundaryAt := 10013888888, prevAt := 10000000000
  lastGoodAt := 10000000000, tickAt := 10000000000, period := 13888888 } }

/-- A beat word (R54) with its CRC (R55). -/
def wordOf (type frame line lines rate source : Nat) : Nat :=
  let v := ((((((0xE4B1 * 2 ^ 4 + type) * 2 ^ 32 + frame) * 2 ^ 12 + line) * 2 ^ 12 + lines) * 2 ^ 20 + rate) * 2 ^ 8) * 2 ^ 8 + source
  v * 65536 + crc16 v 112 0xFFFF

/-- A state with an open STRICT job 3 of HOSTA on the tiles LX 0 to 3 of LY 0, with 64 KiB of tier 1. -/
def withJob (s : State) : State := { s with jobs := Tab.empty.set 3 { job0 with
  st := .opened, key := 7, flash := true, region := ⟨0, 0, 4, 1⟩, ranges := [(0, 65536)] } }

/-- An entry's 64 bytes: its header, and fields of it as (offset, width, value). -/
def rawOf (op eng : Nat) (fs : List (Nat × Nat × Nat)) : List Byte :=
  ((0, 4, op + eng * 256) :: fs).foldl (fun b x => b.take x.1 ++ natLe x.2.1 x.2.2 ++ b.drop (x.1 + x.2.1)) (List.replicate 64 0#8)

/-- A list of job 3 whose one entry waits for its engine. -/
def listOf (raw : List Byte) : ListRun :=
  { eng := .beat, ring := 0, owner := .hostA, cq := 0x400, job := 3, key := 7, user := 0, addr := 0, count := 1, tileCycles := 0
    streamBytes := 0, sqConsumer := 1, slots := 2, next := 1, waiting := some 0, stopped := false, entries := [entryNew 0 raw] }
def handing (s : State) (raw : List Byte) : State := { withJob s with nextList := 1, lists := Tab.empty.set 0 (listOf raw) }

/-- A session slot in use by job 3. -/
def slotOn (s : State) (k : Nat) (st : SessSt) : State := { s with sessions := Tab.empty.set k { session0 with
  st := st, p := 300, phase := 0x8000, m := 40, job := 3, nextBeat := 65536 } }

/-- The tile of physical key 0 runs job 3's task, the instruction `w` at its first core's pc 0, with 16 lines of each store. -/
def taskTile (w : Nat) : Tile := { tile0.writeBytes .w 0 (natLe 4 w) with
  wLimit := 16, aLimit := 16, pLimit := 64, task := some ⟨0, 0, 3, none, none, 0⟩, core0 := { core0Init with halted := false } }
def coreOn (w : Nat) : State := { withJob on with tiles := Tab.empty.set 0 (taskTile w) }

/-! ### What the spec works out -/

/-- The check value of the CRC that R55 names. -/
theorem test_crc_check_value : crc16 0x313233343536373839 72 0xFFFF = 0x29B1 := by decide +kernel

/-- 01, "Logical to physical": LX 40, LY 17 is panel 11, row 5, column 7 of an unfused wafer. -/
theorem test_translation_worked : State.reset.wafer.phys 40 17 = some (11 * 144 + 5 * 12 + 7) := by decide
/-- 01: with s(12, 5) = 6 the tile LX 52, LY 17 stands in column 9. -/
theorem test_translation_skip : ({ wafer0 with skip := Tab.empty.set (12 * 12 + 5) 6 } : Wafer).phys 52 17 = some (12 * 144 + 5 * 12 + 9) := by decide

theorem test_geometry_bounds : geometryOk 600 24000 = true ∧ geometryOk 599 24000 = false ∧ geometryOk 4095 24001 = false ∧
    geometryOk 400 240000 = false ∧ geometryOk 600 160000 = true ∧ geometryOk 600 160001 = false := by decide

/-! ### Witnesses: the wafer, the beat unit, sessions -/

theorem witness_step : ({ on with pending := [.lineBoundary, .carrierAbsent] } : State).pending = .lineBoundary :: [.carrierAbsent] := rfl

theorem on_inv : on.Inv := ⟨by decide, by decide, by decide, by decide, by decide, by decide, by simp [on, State.reset, Tab.rises, Tab.empty]⟩

theorem witness_keeps : ∃ s t : State, s.Inv ∧ step s = .next t ∧ t.now = 1 :=
  ⟨on, _, on_inv, rfl, rfl⟩

theorem witness_watched : ({ on with od := Tab.empty.set 0x200001 0 } : State).up.collar = true ∧
    ({ State.reset with replacement := true } : State).replacement = true ∧
    ({ on with fw := { firmware0 with slotA := { slot0 with st := .revoked } } } : State).up.collar = true := by decide

theorem witness_translation : ∃ (w : Wafer) (k : Nat), (∀ p r, w.skipOf p r ≤ 11) ∧ w.phys 40 17 = some k ∧
    w.skipOf 11 5 = 11 ∧ keyCol (11 * 144 + 5 * 12 + 11) = w.skipOf (keyPanel (11 * 144 + 5 * 12 + 11)) (keyRow (11 * 144 + 5 * 12 + 11)) :=
  ⟨wafer0, _, fun _ _ => Nat.le_refl 11, rfl, rfl, rfl⟩

theorem witness_lanes : bit (on.wafer.laneFail.get 0 ((0 + 1) * 2 + 0)) 13 = false ∧
    bit (on.wafer.passFail.get 0 (63 * 2 + flag true)) 11 = false := by decide

theorem witness_queries : on.canWrite .sdo 0x2003 1 = true ∧ on.canWrite .hostA 0x2130 1 = true ∧ on.canWrite .hostA 0x2220 1 = true ∧
    on.canWrite .hostB 0x2310 1 = true ∧ on.canWrite .hostA 0x2410 1 = true ∧ on.canWrite .sdo 0x2430 1 = true ∧
    on.canWrite .sdo 0x2506 2 = true ∧ on.canWrite .sdo 0x2620 1 = true ∧ on.canWrite .sdo 0x2621 1 = true ∧
    on.canWrite .sdo 0x2710 1 = true ∧ on.canWrite .sdo 0x2720 1 = true ∧ on.canWrite .sdo 0x2803 1 = true ∧
    on.canWrite .sdo 0x2B02 1 = true ∧ on.canWrite .sdo 0x2B11 1 = true := by decide +kernel

theorem witness_query_values : bit 0x7F7F 7 = false ∧ bit 0x80 7 = true ∧ bit 0x5F57 7 = false ∧ bit 0x5F57 15 = false ∧
    bits 0x0FFF7F7F 15 15 = 0 ∧ bits 0x0FFF7F7F 31 28 = 0 := by decide

theorem witness_boundary : locked.beat.lock ≠ .search ∧ ({ locked.beat with decided := true } : Beat).decided = true ∧
    ({ locked.beat with lock := .holdover } : Beat).lock ≠ .locked ∧ locked.up.restore = none ∧
    locked.wafer.laneForce = locked.wafer.laneFail ∧ locked.wafer.epochN ≠ some (locked.beat.n + 1) := by decide

/-- Lanes of a seam, and pass-through lanes that no seam uses, detected since the last boundary; a retime that waits for nothing later. -/
def laned : State := { locked with wafer := { wafer0 with laneFail := Tab.empty.set 4 1 } }
def passed : State := { locked with wafer := { wafer0 with passFail := Tab.empty.set 4 1 } }
theorem witness_boundary_lanes : laned.wafer.laneForce ≠ laned.wafer.laneFail ∧ laned.up.restore = none ∧ passed.wafer.passForce ≠ passed.wafer.passFail ∧
    passed.wafer.laneForce = passed.wafer.laneFail := by decide
theorem witness_boundary_costs : ¬ ∃ e, e < 145 ∧ passed.wafer.seamCost e ≠ ({ passed.wafer with passForce := passed.wafer.passFail } : Wafer).seamCost e := by
  decide +kernel
def retimed : State := { locked with sessions := Tab.empty.set 7 { session0 with st := .opened, retimes := [⟨200, 0, 1, 409 * 65536⟩] } }
theorem witness_boundary_retime : (retimed.sessionOf 7).closing = false ∧ (retimed.sessionOf 7).retimes = [⟨200, 0, 1, 409 * 65536⟩] ∧
    (409 * 65536 : Nat) < (retimed.beat.n + 1) * 65536 ∧ retimed.beat.lock ≠ .search ∧ ({ locked.beat with held := 1 } : Beat).held = 1 := by decide

/-- A word's reading is whole: the witnesses below name it by its fields. -/
theorem good_of {s : State} {v at_ : Nat} (h : s.beat.inverted = false) (hv : v / 2 ^ 112 = 0xE4B1)
    (r : s.beat.lock = .locked ∧ s.beat.decided = false ∧ s.beat.boundaryAt ≤ at_ + bit4 ∧ at_ ≤ s.beat.boundaryAt + bit4 ∧
      (beatWord v).accepted = true ∧
      (beatWord v).frame = bits s.beat.received 63 32 ∧ (beatWord v).line = bits s.beat.received 31 16 ∧
      (beatWord v).source = s.beat.source ∧
      (((beatWord v).lines = s.beat.lines ∧ (beatWord v).rate = s.beat.rate) ∨ (beatWord v).type = 2) ∧
      (at_ - s.beat.prevAt - s.beat.nominal) * 1000 ≤ s.beat.nominal ∧
      (s.beat.nominal - (at_ - s.beat.prevAt)) * 1000 ≤ s.beat.nominal) : s.goodWordAt v at_ (beatWord v) :=
  ⟨r.1, r.2.1, r.2.2.1, r.2.2.2.1, (congrArg (readWord v) h).trans (if_pos hv), r.2.2.2.2⟩

/-- The word of line 409 of frame 0 at the predicted instant, and at each end of the window; a new geometry in a GEOMETRY word of
line 0. -/
theorem witness_good_words : locked.goodWordAt (wordOf 1 0 409 1200 60000 0) 10013888888 (beatWord (wordOf 1 0 409 1200 60000 0)) ∧
    ({ locked with beat := { locked.beat with n := 1200 } } : State).goodWordAt (wordOf 2 1 0 1000 60000 0) 10013888888
      (beatWord (wordOf 2 1 0 1000 60000 0)) :=
  ⟨good_of rfl (by decide +kernel) (by decide +kernel), good_of rfl (by decide +kernel) (by decide +kernel)⟩

/-- What a word that begins with SYNC must miss to be bad. -/
theorem bad_of {s : State} {v at_ : Nat} {fs : List (Nat × Nat)} (h : s.beat.inverted = false) (hv : v / 2 ^ 112 = 0xE4B1)
    (r : s.beat.lock = .locked ∧ s.beat.decided = false ∧ s.beat.boundaryAt ≤ at_ + bit4 ∧ at_ ≤ s.beat.boundaryAt + bit4 ∧ fs ≠ [])
    (q : ((beatWord v).crcOk = false ∧ fs = [(2, 0x0901)]) ∨ ((beatWord v).crcOk = true ∧
      fs = (if (beatWord v).formOk = false ∨ (((beatWord v).lines ≠ s.beat.lines ∨ (beatWord v).rate ≠ s.beat.rate) ∧ (beatWord v).type ≠ 2)
          then [(4, 0x0907)] else []) ++
        (if (beatWord v).frame ≠ bits s.beat.received 63 32 ∨ (beatWord v).line ≠ bits s.beat.received 31 16 ∨
          (beatWord v).source ≠ s.beat.source then [(5, 0)] else []) ++
        (if s.beat.nominal < (at_ - s.beat.prevAt - s.beat.nominal) * 1000 ∨ s.beat.nominal < (s.beat.nominal - (at_ - s.beat.prevAt)) * 1000
          then [(6, 0x0908)] else []))) : s.badWordAt v at_ fs := by
  have e : readWord v s.beat.inverted = some (beatWord v) := (congrArg (readWord v) h).trans (if_pos hv)
  unfold State.badWordAt
  rw [e]
  exact ⟨r.1, r.2.1, r.2.2.1, r.2.2.2.1, r.2.2.2.2, q⟩

/-- A word with a wrong CRC, one of 500 lines, one of another line, one of another geometry, a good one that comes 0.2% late, and one
of another line and of another geometry that comes late. -/
theorem witness_bad_words : locked.badWordAt (wordOf 1 0 409 1200 60000 0 + 1) 10013888888 [(2, 0x0901)] ∧
    locked.badWordAt (wordOf 1 0 409 500 60000 0) 10013888888 [(4, 0x0907)] ∧
    locked.badWordAt (wordOf 1 0 408 1200 60000 0) 10013888888 [(5, 0)] ∧
    locked.badWordAt (wordOf 1 0 409 1201 60000 0) 10013888888 [(4, 0x0907)] ∧
    locked.badWordAt (wordOf 1 0 409 1200 60000 0) (10013888888 + 27777) [(6, 0x0908)] ∧
    locked.badWordAt (wordOf 1 0 408 1201 60000 0) (10013888888 + 27777) [(4, 0x0907), (5, 0), (6, 0x0908)] :=
  ⟨bad_of rfl (by decide +kernel) (by decide +kernel) (by decide +kernel), bad_of rfl (by decide +kernel) (by decide +kernel) (by decide +kernel),
    bad_of rfl (by decide +kernel) (by decide +kernel) (by decide +kernel), bad_of rfl (by decide +kernel) (by decide +kernel) (by decide +kernel),
    bad_of rfl (by decide +kernel) (by decide +kernel) (by decide +kernel), bad_of rfl (by decide +kernel) (by decide +kernel) (by decide +kernel)⟩

/-- A word without SYNC. -/
theorem witness_no_sync : locked.badWordAt 0 10013888888 [(3, 0x0901)] := by
  have e : readWord 0 locked.beat.inverted = none := by decide
  unfold State.badWordAt
  rw [e]
  exact ⟨by decide, by decide, by decide, by decide, by decide, rfl⟩

/-- A search that has two candidates, lines 7 and 8 of frame 5, and the third, line 9. -/
def searching (ever : Bool) : State := { on with beat := { beat0 with
  lock := if ever then .holdover else .search, carrier := true, everLocked := ever, lines := 1200, rate := 60000, n := if ever then 700 else 0
  run := [⟨5, 8, 1200, 60000, 0, 0, false, 20013888888⟩, ⟨5, 7, 1200, 60000, 0, 0, false, 20000000000⟩]
  lastFirstBit := some 20000000000 } }
def third : Candidate := ⟨5, 9, 1200, 60000, 0, 0, false, 20027777776⟩

theorem witness_third : (searching false).thirdCandidate (wordOf 1 5 9 1200 60000 0) third 13888888 13888888 ∧
    (searching true).thirdCandidate (wordOf 1 5 9 1200 60000 0) third 13888888 13888888 ∧ (searching true).beat.carrier = true ∧
    (searching true).up.inReset = false :=
  ⟨⟨by decide, by decide, by decide, by decide, ⟨beatWord (wordOf 1 5 9 1200 60000 0), by decide +kernel, by decide +kernel⟩,
      ⟨_, _, rfl, by decide +kernel⟩⟩,
    ⟨by decide, by decide, by decide, by decide, ⟨beatWord (wordOf 1 5 9 1200 60000 0), by decide +kernel, by decide +kernel⟩,
      ⟨_, _, rfl, by decide +kernel⟩⟩, by decide, by decide⟩

/-- A relock behind the local count: boundaries are held back. -/
def ahead : State := { searching true with beat := { (searching true).beat with n := 7000 } }
theorem witness_relock_ahead : ahead.thirdCandidate (wordOf 1 5 9 1200 60000 0) third 13888888 13888888 ∧ ahead.beat.everLocked = true ∧
    ahead.beat.n0 + frameDiff 5 ahead.beat.f0 * 1200 + 9 < (ahead.beat.n : Int) :=
  ⟨⟨by decide, by decide, by decide, by decide, ⟨beatWord (wordOf 1 5 9 1200 60000 0), by decide +kernel, by decide +kernel⟩,
      ⟨_, _, rfl, by decide +kernel⟩⟩, by decide, by decide⟩

def holding : State := { locked with now := 20000000000, beat := { locked.beat with lock := .holdover, lastGoodAt := 10000000000 } }

theorem witness_loss : locked.beat.lock = .locked ∧ locked.beat.decided = false ∧ locked.beat.carrier = true ∧
    on.beat.carrier = false ∧ on.up.inReset = false ∧ holding.beat.lock = .holdover ∧ holding.canWrite .sdo 0x2103 1 = true ∧
    holding.beat.lastGoodAt + 10 * 10 ^ 9 ≤ holding.now := by decide +kernel
theorem witness_loss_inv : holding.Inv :=
  ⟨by decide, by decide, by decide, by decide, by decide, by decide, by simp [holding, locked, on, State.reset, Tab.rises, Tab.empty]⟩

/-- SCLOSE of slot 7, in use by the job, without and with a frame. -/
def closing (fr : Bool) : State := { slotOn (handing locked (rawOf 4 4 [(4, 2, 7)])) 7 .opened with
  frames := if fr then Tab.empty.set 5 { idx := 0, slot := 7, cls := 0, job := 3, plan := none, variant := 0, deadline := 65536, m := 40, ready := false, pass := none, tc := 0, sb := 0, order := 0 }
    else Tab.empty }

theorem witness_sclose : (closing true).begun 0 0 4 4 (listOf (rawOf 4 4 [(4, 2, 7)])) (entryNew 0 (rawOf 4 4 [(4, 2, 7)])) ∧
    (entryNew 0 (rawOf 4 4 [(4, 2, 7)])).restZero [(4, 2)] = true ∧
    (closing true).ownSlot 7 3 ∧ ((closing true).sessionOf 7).closing = false ∧ (closing true).attach.find 7 = none ∧
    (closing true).frames.find 5 ≠ none ∧ (closing false).frames = .empty := by
  unfold State.begun State.ownSlot
  decide +kernel

def sopenRaw (set plan : Nat) : List Byte :=
  rawOf 1 4 [(4, 2, 4095), (6, 2, 150), (8, 4, 0x959999), (0xC, 2, 149), (0xE, 1, set), (0xF, 1, 7), (0x10, 2, plan), (0x12, 1, 1)]

/-- SOPEN at the ends of its ranges: period 150, the last phase, margin 149, class 7, slot 4095; unlocked and locked. -/
theorem witness_sopen : (handing on (sopenRaw 0xFF 0xFFFF)).begun 0 0 4 1 (listOf (sopenRaw 0xFF 0xFFFF)) (entryNew 0 (sopenRaw 0xFF 0xFFFF)) ∧
    (entryNew 0 (sopenRaw 0xFF 0xFFFF)).restZero [(4, 2), (6, 2), (8, 4), (0xC, 2), (0xE, 1), (0xF, 1), (0x10, 2), (0x12, 1)] = true ∧
    (entryNew 0 (sopenRaw 0xFF 0xFFFF)).field 4 2 = 4095 ∧ ((handing on (sopenRaw 0xFF 0xFFFF)).sessionOf 4095).st = .free ∧
    rasterGood 150 0x959999 149 ∧ on.can.nmt = .operational ∧ on.beat.lock = .search ∧
    (handing locked (sopenRaw 63 0xFFFF)).setMember 63 = none ∧ locked.beat.lock ≠ .search ∧
    (handing locked (sopenRaw 63 0xFFFF)).begun 0 0 4 1 (listOf (sopenRaw 63 0xFFFF)) (entryNew 0 (sopenRaw 63 0xFFFF)) := by
  unfold State.begun rasterGood
  decide +kernel

/-- SOPEN of slot 4095 into set 63, whose member has a retime pending, and the retime of that set's slot 7. -/
def joining (raw : List Byte) : State := { handing locked raw with sessions := Tab.empty.set 7 { session0 with
  st := .opened, p := 150, phase := 0x959999, m := 149, set := some 63, cls := 7, job := 3, nextBeat := 65536, retimes := [⟨200, 0, 1, 65536⟩] } }
theorem witness_sopen_set : (joining (sopenRaw 63 0xFFFF)).begun 0 0 4 1 (listOf (sopenRaw 63 0xFFFF)) (entryNew 0 (sopenRaw 63 0xFFFF)) ∧
    (((joining (sopenRaw 63 0xFFFF)).setMember 63).map fun x => ((x.p, x.phase, x.m), x.cls, x.retimes.length)) = some ((150, 0x959999, 149), 7, 1) ∧
    ((joining (sopenRaw 63 0xFFFF)).sessionOf 4095).st = .free ∧ (joining []).setSlots 7 = [7] := by
  unfold State.begun
  decide +kernel

def beating : State := slotOn { locked with beat := { locked.beat with n := 1 } } 4095 .opened
theorem witness_session_beat : beating.Inv ∧ (beating.sessionOf 4095).st ≠ .free ∧ (beating.sessionOf 4095).nextBeat / 65536 ≤ beating.beat.n ∧
    beating.beat.lock ≠ .search :=
  ⟨⟨by decide, by decide, by decide, by decide, by decide, by decide, by simp [beating, slotOn, locked, on, State.reset, Tab.rises, Tab.empty, Tab.set, putCell]⟩,
    by decide +kernel, by decide +kernel, by decide⟩

def planOf (job : Nat) : Plan :=
  { st := .loaded, job := job, streamed := false, q := 10, passLen := 40, capacity := 1, batchLine := 0, flashLead := 0, lx := 0, ly := 0, steps := []
    pleats := [], firstB := 0, started := 0, staged := .empty, passes := .empty, activator := none, deactivator := none, restagers := [] }
def retiming (raw : List Byte) (st : SessSt) : State := { slotOn (handing locked raw) 7 st with plans := Tab.empty.set 255 (planOf 3) }

theorem witness_session_entries : (retiming (rawOf 2 4 [(4, 2, 7), (6, 2, 200), (0xC, 2, 1)]) .opened).ownSlot 7 3 ∧ rasterGood 200 0 1 ∧
    (retiming (rawOf 2 4 [(4, 2, 7), (6, 2, 200), (0xC, 2, 1)]) .opened).begun 0 0 4 2
      (listOf (rawOf 2 4 [(4, 2, 7), (6, 2, 200), (0xC, 2, 1)])) (entryNew 0 (rawOf 2 4 [(4, 2, 7), (6, 2, 200), (0xC, 2, 1)])) ∧
    (entryNew 0 (rawOf 2 4 [(4, 2, 7), (6, 2, 200), (0xC, 2, 1)])).restZero [(4, 2), (6, 2), (8, 4), (0xC, 2)] = true ∧
    (retiming (rawOf 3 4 [(4, 2, 7)]) .suspended).begun 0 0 4 3 (listOf (rawOf 3 4 [(4, 2, 7)])) (entryNew 0 (rawOf 3 4 [(4, 2, 7)])) ∧
    (entryNew 0 (rawOf 3 4 [(4, 2, 7)])).restZero [(4, 2)] = true ∧
    (retiming (rawOf 5 4 [(4, 2, 7), (0x10, 2, 255), (0x12, 1, 9)]) .opened).begun 0 0 4 5
      (listOf (rawOf 5 4 [(4, 2, 7), (0x10, 2, 255), (0x12, 1, 9)])) (entryNew 0 (rawOf 5 4 [(4, 2, 7), (0x10, 2, 255), (0x12, 1, 9)])) ∧
    (entryNew 0 (rawOf 5 4 [(4, 2, 7), (0x10, 2, 255), (0x12, 1, 9)])).restZero [(4, 2), (0x10, 2), (0x12, 1)] = true := by
  unfold State.begun State.ownSlot rasterGood
  decide +kernel
theorem witness_plan_fits : (retiming [] .opened).planFits 255 40 3 := .inr ⟨planOf 3, by decide, by decide, by decide⟩

/-- A FRAME of slot 7 that is OPEN or SUSPENDED, with no frame outstanding. -/
theorem witness_frame : let s := retiming (rawOf 6 4 [(4, 2, 7), (6, 1, 1)]) .opened
    s.begun 0 0 4 6 (listOf (rawOf 6 4 [(4, 2, 7), (6, 1, 1)])) (entryNew 0 (rawOf 6 4 [(4, 2, 7), (6, 1, 1)])) ∧
    (entryNew 0 (rawOf 6 4 [(4, 2, 7), (6, 1, 1)])).restZero [(4, 2), (6, 1)] = true ∧ s.ownSlot 7 3 ∧ (s.sessionOf 7).closing = false ∧
    (s.sessionOf 7).st = .opened ∧ s.frames = .empty ∧ (s.sessionOf 7).set = none ∧
    ((retiming (rawOf 6 4 [(4, 2, 7), (6, 1, 1)]) .suspended).sessionOf 7).st = .suspended ∧
    (retiming (rawOf 6 4 [(4, 2, 7), (6, 1, 1)]) .suspended).begun 0 0 4 6 (listOf (rawOf 6 4 [(4, 2, 7), (6, 1, 1)]))
      (entryNew 0 (rawOf 6 4 [(4, 2, 7), (6, 1, 1)])) := by
  unfold State.begun State.ownSlot
  decide +kernel
theorem witness_frame_costs : let s := retiming (rawOf 6 4 [(4, 2, 7), (6, 1, 1)]) .opened
    s.tcCost (s.beatOf (s.deadlineFor (s.sessionOf 7))) + 0 ≤ s.tcBudget ∧ s.sbCost (s.beatOf (s.deadlineFor (s.sessionOf 7))) + 0 ≤ s.sbBudget ∧
    s.framesOf 7 = [] := by
  refine ⟨by decide +kernel, by decide +kernel, by decide +kernel⟩
theorem witness_fready : let s := retiming (rawOf 7 4 [(4, 2, 7)]) .opened
    s.begun 0 0 4 7 (listOf (rawOf 7 4 [(4, 2, 7)])) (entryNew 0 (rawOf 7 4 [(4, 2, 7)])) ∧
    (entryNew 0 (rawOf 7 4 [(4, 2, 7)])).restZero [(4, 2)] = true ∧ s.ownSlot 7 3 := by
  unfold State.begun State.ownSlot
  decide +kernel

/-- Two frames of slot 7 are outstanding. -/
def framed : State := let f : Frame := { idx := 0, slot := 7, cls := 0, job := 3, plan := none, variant := 0, deadline := 65536, m := 40, ready := false, pass := none, tc := 0, sb := 0, order := 0 }
  { retiming (rawOf 6 4 [(4, 2, 7), (6, 1, 1)]) .opened with frames := (Tab.empty.set 5 f).set 6 { f with order := 1, deadline := 2 * 65536 } }
theorem witness_third_frame : 2 ≤ (framed.framesOf 7).length ∧ (framed.sessionOf 7).st = .opened := by
  unfold State.framesOf
  rw [List.length_map, List.length_mergeSort]
  decide

/-- A third frame with reserved flags: refused for them, and counted as an overload too. -/
def framedBad : State := { handing locked (rawOf 6 4 [(4, 2, 7), (6, 1, 2)]) with sessions := framed.sessions, frames := framed.frames }
theorem witness_bad_frame : framedBad.begun 0 0 4 6 (listOf (rawOf 6 4 [(4, 2, 7), (6, 1, 2)])) (entryNew 0 (rawOf 6 4 [(4, 2, 7), (6, 1, 2)])) ∧
    2 ≤ (entryNew 0 (rawOf 6 4 [(4, 2, 7), (6, 1, 2)])).field 6 1 ∧ (framedBad.sessionOf 7).st = .opened := by
  unfold State.begun
  decide +kernel

/-! ### Witnesses: hosts, rings, lists -/

theorem witness_host_links : on.hostA.up = true ∧ (30 : Nat) ≤ on.setting 0x2500 4 ∧ on.setting 0x2500 4 ≤ 40 ∧ accFits (.read 4096) = true ∧ ({ on with hostA := hostFn0 } : State).hostA.up = false ∧ (on.domainOf (17 + fnNum .hostA)).st = .on := by
  decide

theorem on_bytes_inv : ({ on with tier1 := [(4095, 1#8)] } : State).Inv :=
  ⟨by decide, by decide, by decide, by decide, by decide, by decide, by simp [on, State.reset, Tab.rises, Tab.empty]⟩
theorem witness_bar2 : let s : State := { on with tier1 := [(4095, 1#8)] }
    (s.host .hostA).up = true ∧ s.tier1Bad = .empty ∧ 4095 + 1 ≤ 2 ^ (s.host .hostA).bar2Log ∧ (s.host .hostA).base + 4095 + 1 ≤ tier1Size ∧
    s.dramUp ((s.host .hostA).base + 4095) 1 = true ∧ s.dramUp (tier1Size - 1) 1 = false := by decide +kernel

def aper : State := { withJob on with hostA := { hostFn0 with up := true, aperValid := true, aperJob := 3, aperSel := 3 } }
theorem witness_aperture : (aper.host .hostA).aperValid = true ∧ (aper.jobOf 3).st ≠ .free ∧ aper.wafer.phys (tileLx 3) (tileLy 3) = some 3 ∧
    (aper.jobOf 3).region.has (tileLx 3) (tileLy 3) = true ∧ offStore 0x13FFFF = some (.a, 0x3FFFF) ∧ 0x3FFFF + 1 ≤ storeLines .a * 64 ∧
    (aper.tileOf 3).rangeOff 0x13FFFF 1 = false ∧ aper.fencedAt 3 = false ∧ aper.extWaits 3 0x13FFFF 1 = false ∧ (aper.tileOf 3).bad = .empty ∧
    aper.inWindow 3 0x13FFFF 1 = false ∧ (on.host .hostA).aperValid = false ∧
    (aper.jobOf 3).region.has (tileLx 4) (tileLy 4) = false := by decide +kernel

def ringed : State := { on with sq := Tab.empty.set 0x405 { ring0 with enable := true, log2 := 2, producer := 3, consumer := 1 }
                                cq := Tab.empty.set 0x405 { ring0 with enable := true, log2 := 2, producer := 3, consumer := 1 } }
/-- The highest ring disabled, ring 5 of the BEAT engine enabled: doorbells within and beyond its size and occupancy. -/
theorem witness_rings : (early.up.level = 0) ∧ early.hostA.up = false ∧ ({ early with hostA := { hostFn0 with up := true } } : State).hostA.up = true ∧
    (on.sqOf (ringKey .beat 255)).enable = false ∧ 0 < on.up.level ∧ bit 0x80000010 31 = true ∧ bits 0x80000010 4 0 = 16 ∧
    (ringed.sqOf (ringKey .beat 5)).owner = .hostA ∧ (ringed.sqOf (ringKey .beat 5)).enable = true ∧ (ringed.sqOf (ringKey .beat 5)).error = false ∧
    (ringed.sqOf (ringKey .beat 5)).producer ≠ 5 ∧ (5 + 2 ^ 32 - (ringed.sqOf (ringKey .beat 5)).consumer) % 2 ^ 32 = 2 ^ (ringed.sqOf (ringKey .beat 5)).log2 ∧
    2 ^ (ringed.sqOf (ringKey .beat 5)).log2 < (6 + 2 ^ 32 - (ringed.sqOf (ringKey .beat 5)).consumer) % 2 ^ 32 ∧
    (ringed.cqOf (ringKey .beat 5)).enable = true ∧ (ringed.host .hostA).dropped = 0 ∧
    (3 + 2 ^ 32 - (ringed.cqOf (ringKey .beat 5)).consumer) % 2 ^ 32 = (ringed.cqOf (ringKey .beat 5)).used ∧
    (ringed.cqOf (ringKey .beat 5)).used < (4 + 2 ^ 32 - (ringed.cqOf (ringKey .beat 5)).consumer) % 2 ^ 32 := by decide +kernel

/-- A descriptor at 0x1000 of one BEAT entry at 0x2000, and job `j` that it names. -/
def described (j : Nat) : State := { withJob on with
  tier1 := (Memory.writeBytes [] 0x1000 (natLe 4 1 ++ natLe 4 1 ++ natLe 8 0x2000 ++ natLe 4 j ++ natLe 4 7)).writeBytes 0x2000 (natLe 4 0x407)
  sq := Tab.empty.set 0x405 { ring0 with enable := true, log2 := 2, base := 0x1000, producer := 1, cq := 9 }
  cq := Tab.empty.set 0x409 { ring0 with enable := true, log2 := 2 } }

theorem witness_descriptor : ∀ j ∈ [3, 4], let s := described j
    let d := s.descriptorAt 0x1000 2
    s.fetchable 4 5 = true ∧ s.ringTurn 4 5 = true ∧ (s.sqOf (ringKey .beat 5)).slotAddr = 0x1000 ∧ (s.cqOf (4 * 256 + 9)).log2 = 2 ∧
    s.tierBad 0x1000 64 = false ∧ d.bad = false ∧ ((s.headersOf d).filter isFrameHeader).length ≤ 1 ∧
    (s.headersOf d).head?.map isJopenHeader = some false ∧ s.lists.find s.nextList = none ∧ d.job = j ∧
    (j = 3 → (s.jobOf d.job).st ≠ .free ∧ (s.jobOf d.job).key = d.key) ∧ (j = 4 → (s.jobOf d.job).st = .free) := by decide +kernel

/-- A list of job 3 whose first entry, with the header `h`, may begin. -/
def fetched (h : Nat) : State := { withJob on with
  tier1 := Memory.writeBytes [] 0x2000 (natLe 4 h)
  lists := Tab.empty.set 0 { listOf [] with addr := 0x2000, next := 0, waiting := none, entries := [] } }
theorem witness_entry : ∀ h ∈ [0x407, 0x2407, 0x507, 0x408], let s := fetched h
    let e := entryNew 0 (s.tier1.readBytes 0x2000 64)
    (∃ l, s.lists.find 0 = some l ∧ l.waiting = none ∧ l.stopped = false ∧ l.next < l.count ∧ l.entries = [] ∧ l.addr + 64 * l.next = 0x2000) ∧
    e.wait = false ∧ s.tierBad 0x2000 64 = false ∧ (h = 0x407 → bits (e.field 0 4) 15 13 = 0 ∧ opKnown e.engine e.op = true ∧ e.engine < 5) ∧
    (h = 0x2407 → bits (e.field 0 4) 15 13 ≠ 0) ∧ (h = 0x507 → 5 ≤ e.engine) ∧ (h = 0x408 → opKnown e.engine e.op = false) := by
  intro h
  refine fun hh => ⟨⟨_, rfl, rfl, rfl, by decide, rfl, rfl⟩, ?_⟩
  revert h
  decide +kernel

theorem witness_nop : (handing on (rawOf 0 4 [])).begun 0 0 4 0 (listOf (rawOf 0 4 [])) (entryNew 0 (rawOf 0 4 [])) ∧
    (entryNew 0 (rawOf 0 4 [])).engine = 4 ∧ (entryNew 0 (rawOf 0 4 [])).restZero [] = true := by
  unfold State.begun
  decide +kernel

/-! ### Witnesses: prep cores and tiles -/

/-- The word of extension instruction `c` (R106). -/
def ext (c rd rs1 rs2 f7 : Nat) : Nat :=
  (if c < 8 then 0x0B + c * 4096 else 0x2B + (c - 8) * 4096) + rd * 128 + rs1 * 2 ^ 15 + rs2 * 2 ^ 20 + f7 * 2 ^ 25

/-- The first core of tile 0 stands at the word `w` with `a` in x1 and `b` in x2; lines 0 to 3 of A and line 0 of P are written. -/
def extTile (w a b : Nat) : Tile := { taskTile w with
  core0 := { core0Init with halted := false, regs := (Tab.empty.set 1 a).set 2 b }
  written := ((((((Tab.empty.set (lineKey .w 0) true).set (lineKey .a 0) true).set (lineKey .a 1) true).set (lineKey .a 2) true).set (lineKey .a 3) true).set
    (lineKey .p 0) true) }
def extOn (w a b : Nat) : State := { withJob on with tiles := Tab.empty.set 0 (extTile w a b) }
def origin : PhysTile := ⟨0, 0, 0⟩

theorem witness_mpush : ∃ s1, (extOn (ext 0 0 1 2 0) 5 6).extAt origin .pc0 0 s1 (ext 0 0 1 2 0) ∧ (s1.tileOf 0).queue.length < 4 :=
  ⟨_, ⟨by decide, rfl, by decide⟩, by decide⟩
def tiled (t : Tile) : State := { withJob on with tiles := Tab.empty.set 0 t }

theorem witness_mpush_full : ∃ s1, (tiled { extTile (ext 0 0 1 2 0) 5 6 with queue := [1, 1, 1, 1] }).extAt origin .pc0 0 s1 (ext 0 0 1 2 0) ∧
    4 ≤ (s1.tileOf 0).queue.length := ⟨_, ⟨by decide, rfl, by decide⟩, by decide⟩
/-- MWAIT for TAG 5, with nothing queued and with a LDW of TAG 5 queued. -/
theorem witness_mwait : ∃ s1, (extOn (ext 1 0 1 0 0) 5 0).extAt origin .pc0 1 s1 (ext 1 0 1 0 0) ∧
    (s1.tileOf 0).queue ++ (s1.tileOf 0).flights.map (·.word) = [] := ⟨_, ⟨by decide, rfl, by decide⟩, by decide⟩
theorem witness_mwait_waits : ∃ s1, (tiled { extTile (ext 1 0 1 0 0) 5 0 with queue := [2 + 5 * 2 ^ 48] }).extAt origin .pc0 1 s1 (ext 1 0 1 0 0) ∧
    ∃ i ∈ (s1.tileOf 0).queue ++ (s1.tileOf 0).flights.map (·.word), instOp i ≠ 0 ∧ instTag i = s1.rs1 origin .pc0 (ext 1 0 1 0 0) % 256 :=
  ⟨_, ⟨by decide, rfl, by decide⟩, by decide⟩
theorem witness_mrecv : ∃ s1, (extOn (ext 9 3 1 0 0) 0 0).extAt origin .pc0 9 s1 (ext 9 3 1 0 0) ∧
    s1.rs1 origin .pc0 (ext 9 3 1 0 0) ≤ (s1.tileOf 0).reg 0x30 := ⟨_, ⟨by decide, rfl, by decide⟩, by decide⟩
theorem witness_mrecv_waits : ∃ s1, (extOn (ext 9 3 1 0 0) 1 0).extAt origin .pc0 9 s1 (ext 9 3 1 0 0) ∧
    (s1.tileOf 0).reg 0x30 < s1.rs1 origin .pc0 (ext 9 3 1 0 0) := ⟨_, ⟨by decide, rfl, by decide⟩, by decide⟩
theorem witness_wland : ∃ s1, (tiled { extTile (ext 11 3 1 0 0) 9 0 with tags := Tab.empty.set 9 2 }).extAt origin .pc0 11 s1 (ext 11 3 1 0 0) ∧
    (s1.tileOf 0).tags.find (s1.rs1 origin .pc0 (ext 11 3 1 0 0)) = some 2 := ⟨_, ⟨by decide, rfl, by decide⟩, by decide⟩
theorem witness_wland_waits : ∃ s1, (tiled { extTile (ext 11 3 1 0 0) 9 0 with tags := Tab.empty.set 9 3 }).extAt origin .pc0 11 s1 (ext 11 3 1 0 0) ∧
    (s1.tileOf 0).tags.find (s1.rs1 origin .pc0 (ext 11 3 1 0 0)) = some 3 := ⟨_, ⟨by decide, rfl, by decide⟩, by decide⟩
theorem witness_stamp : ∃ s1, (extOn (ext 12 3 1 0 0) 1 0).extAt origin .pc0 12 s1 (ext 12 3 1 0 0) ∧
    bit (s1.rs1 origin .pc0 (ext 12 3 1 0 0)) 0 = true := ⟨_, ⟨by decide, rfl, by decide⟩, by decide⟩
theorem witness_stamp_low : ∃ s1, (extOn (ext 12 3 1 0 0) 0 0).extAt origin .pc0 12 s1 (ext 12 3 1 0 0) ∧
    bit (s1.rs1 origin .pc0 (ext 12 3 1 0 0)) 0 = false := ⟨_, ⟨by decide, rfl, by decide⟩, by decide⟩
theorem witness_tend : ∃ s1, (extOn (ext 13 0 1 0 0) 9 0).extAt origin .pc0 13 s1 (ext 13 0 1 0 0) ∧ ∃ q, (s1.tileOf 0).task = some q :=
  ⟨_, ⟨by decide, rfl, by decide⟩, _, rfl⟩

/-- FFILL of two vectors from lines 0 and 1 of A, 64 bytes apart. -/
theorem witness_ffill : ∃ s1, (extOn (ext 2 0 1 2 0) 0 0x201).extAt origin .pc0 2 s1 (ext 2 0 1 2 0) ∧
    bits (s1.rs2 origin .pc0 (ext 2 0 1 2 0)) 7 6 = 0 ∧ bits (s1.rs2 origin .pc0 (ext 2 0 1 2 0)) 31 16 = 0 ∧
    bits (s1.rs2 origin .pc0 (ext 2 0 1 2 0)) 15 8 = 2 ∧ s1.rs1 origin .pc0 (ext 2 0 1 2 0) % 32 = 0 ∧ (s1.tileOf 0).feeders.length + 2 ≤ 16 ∧
    (s1.tileOf 0).holds .a (((s1.tileOf 0).fillAt 0 64 2).map Prod.fst) [0, 1] :=
  ⟨_, ⟨by decide, rfl, by decide⟩, by decide, by decide, by decide, by decide, by decide, rfl, .cons (by decide) (.cons (by decide) .nil)⟩
/-- PSAT of the first 32 P lines. -/
theorem witness_psat : ∃ s1, (extOn (ext 3 3 1 2 0) 0 1).extAt origin .pc0 3 s1 (ext 3 3 1 2 0) ∧
    (s1.tileOf 0).admits .p ((List.range 32).map (0 + ·)) (List.range 32) ∧ (s1.tileOf 0).pathBusy ((List.range 32).map (0 + ·)) = false :=
  ⟨_, ⟨by decide, rfl, by decide⟩, ⟨rfl, (List.forall₂_same (l := List.range 32)).2 (by decide)⟩, by decide⟩
/-- ACOPY of lines 0 and 1 of A to lines 1 and 2. -/
theorem witness_acopy : ∃ s1, (extOn (ext 5 0 1 2 1) 0 64).extAt origin .pc0 5 s1 (ext 5 0 1 2 1) ∧
    (s1.tileOf 0).holds .a ((s1.tileOf 0).span .a 0 2) [0, 1] ∧ (s1.tileOf 0).admits .a ((s1.tileOf 0).span .a 1 2) [1, 2] :=
  ⟨_, ⟨by decide, rfl, by decide⟩, ⟨rfl, .cons (by decide) (.cons (by decide) .nil)⟩, rfl, .cons (by decide) (.cons (by decide) .nil)⟩
theorem witness_alut : ∃ s1, (extOn (ext 6 0 1 2 0) 64 64).extAt origin .pc0 6 s1 (ext 6 0 1 2 0) ∧
    (s1.tileOf 0).holds .a [64 / 64] [1] ∧ (s1.tileOf 0).admits .a [64 / 64] [1] :=
  ⟨_, ⟨by decide, rfl, by decide⟩, ⟨rfl, .cons (by decide) .nil⟩, rfl, .cons (by decide) .nil⟩
/-- MSEND of line 3 of A to the tile LX 3, LY 0 of the region. -/
theorem witness_msend : ∃ s1, (extOn (ext 8 0 1 2 0) 192 (3 * 2 ^ 18)).extAt origin .pc0 8 s1 (ext 8 0 1 2 0) ∧
    (s1.tileOf 0).holds .a ((s1.tileOf 0).span .a (192 / 64) 1) [3] ∧ s1.wafer.phys 3 0 = some 3 ∧ (s1.jobOf 3).region.has 3 0 = true ∧
    (s1.tileOf 0).task = some ⟨0, 0, 3, none, none, 0⟩ :=
  ⟨_, ⟨by decide, rfl, by decide⟩, ⟨rfl, .cons (by decide) .nil⟩, by decide, by decide, rfl⟩

theorem witness_pqnt : ∃ s1, (extOn (ext 4 0 1 2 0) 0 64).extAt origin .pc0 4 s1 (ext 4 0 1 2 0) ∧
    (qcfgOf ((s1.tileOf 0).reg 0x20) ((s1.tileOf 0).reg 0x24)).mode < 4 ∧ (s1.tileOf 0).pathBusy [0] = false ∧
    (s1.tileOf 0).holds .p [0] [0] ∧ (s1.tileOf 0).admits .a [64 / 64] [1] :=
  ⟨_, ⟨by decide, rfl, by decide⟩, by decide, by decide, ⟨rfl, .cons (by decide) .nil⟩, rfl, .cons (by decide) .nil⟩

/-- 03, R107: under QM 3, QS 5, QZ 3 the word −1000 gives −91; under QM 1, QS 1 the words 5 and −5 give 3 and −2. -/
def qcfg (m : Int) (s : Nat) (z : Int) : Qcfg := { qcfgOf 0 0 with qm := m, qs := s, qz := z }
theorem test_pqnt_worked : (qcfg 3 5 3).word (unsigned 32 (-1000)) = (unsigned 8 (-91), false) ∧ (qcfg 1 1 0).word 5 = (3, false) ∧
    (qcfg 1 1 0).word (unsigned 32 (-5)) = (unsigned 8 (-2), false) ∧ (qcfg 3 5 3).mode = 0 ∧ (qcfg 3 5 3).u = false := by decide

def ccTile : Tile := { extTile (ext 7 3 1 0 0) 0 0 with a := Memory.writeBytes [] 0 (natLe 4 0 ++ natLe 4 (1 + 65536)) }
/-- CCOUNT of the INT8 elements of line 1 of A that equal 0, by the descriptor in line 0. -/
theorem witness_ccount : ∃ s1, (tiled ccTile).extAt origin .pc0 7 s1 (ext 7 3 1 0 0) ∧ (s1.tileOf 0).holds .a [0] [0] ∧
    (ccDesc ((s1.tileOf 0).readBytes .a 0 16)).bad (s1.tileOf 0) = false ∧ (ccDesc ((s1.tileOf 0).readBytes .a 0 16)).mask = false ∧
    (ccDesc ((s1.tileOf 0).readBytes .a 0 16)).inP = false ∧ (ccDesc ((s1.tileOf 0).readBytes .a 0 16)).range (s1.tileOf 0) = [1] ∧
    (s1.tileOf 0).holds .a [1] [1] :=
  ⟨_, ⟨by decide, rfl, by decide⟩, ⟨rfl, .cons (by decide) .nil⟩, by decide +kernel, by decide +kernel, by decide +kernel, by decide +kernel, rfl,
    .cons (by decide) .nil⟩
theorem witness_ccount_elements : ∀ v, v < 256 → ccElem 0 v ≠ none := fun _ _ => by simp [ccElem]

/-- Slot 7 is attached by job 3 on its region, with its ERROR tile LX 0, LY 0. -/
def attachOf : Attach :=
  { threeFactor := false, ruleset := 0, region := ⟨0, 0, 4, 1⟩, wbase := 0, wlimit := 16, budget := 16, errX := 0, errY := 0, job := 3, reward := none }
def ctxOf : Ctx := { s := 0, count := 0, high := 0, recent := [], scanned := true }
def evTile (n : Nat) : Tile := { extTile (ext 10 0 1 2 0) (1 + 7 * 16) 0 with
  ctxs := Tab.empty.set 7 ctxOf, evq := List.replicate n ⟨1, 7, 0, 0⟩ }
def tailored (t : Tile) : State := { tiled t with attach := Tab.empty.set 7 attachOf }

theorem witness_evpush : ∃ s1, (tailored (evTile 63)).extAt origin .pc0 10 s1 (ext 10 0 1 2 0) ∧ s1.evBad 0 (1 + 7 * 16) = false ∧
    (evRecord (1 + 7 * 16)).kind ≠ 3 ∧ (s1.tileOf 0).evq.length = 63 :=
  ⟨_, ⟨by decide, rfl, by decide⟩, by decide +kernel, by decide, by decide +kernel⟩
theorem witness_evpush_full : ∃ s1, (tailored (evTile 64)).extAt origin .pc0 10 s1 (ext 10 0 1 2 0) ∧ (s1.tileOf 0).evq.length = 64 :=
  ⟨_, ⟨by decide, rfl, by decide⟩, by decide +kernel⟩
/-- A record of an unattached slot. -/
theorem witness_evpush_bad : ∃ s1, (tiled (evTile 0)).extAt origin .pc0 10 s1 (ext 10 0 1 2 0) ∧ s1.evBad 0 (1 + 7 * 16) = true ∧
    (s1.tileOf 0).evq.length < 64 := ⟨_, ⟨by decide, rfl, by decide⟩, by decide +kernel, by decide +kernel⟩

/-- A record waits at the tile: a push waits behind it. -/
theorem witness_evpush_behind : ∃ s1, (tailored { evTile 0 with evWait := [⟨5, 7, 0, 0⟩] }).extAt origin .pc0 10 s1 (ext 10 0 1 2 0) ∧
    (s1.tileOf 0).evWait ≠ [] := ⟨_, ⟨by decide, rfl, by decide⟩, by decide +kernel⟩

/-- One line on its way from tile 1 to tile 0. -/
def meshing (t : Tile) : State := { tiled t with mesh := [⟨1, 0, 64, List.replicate 64 9#8, 3⟩] }
def neighbour : PhysTile := ⟨0, 0, 1⟩
theorem witness_land : takeLine (tileKey neighbour) (tileKey origin) (meshing tile0).mesh = some (⟨1, 0, 64, List.replicate 64 9#8, 3⟩, []) ∧
    (meshing (extTile 0 0 0)).taskRuns 0 = true ∧ (extTile 0 0 0).bad = .empty ∧ (∀ g, g < 4 → ((extTile 0 0 0).regionOf g).enable = false) ∧
    (extTile 0 0 0).taskLine .a (64 / 64) = some 1 ∧ (extTile 0 0 0).lineOff .a 1 = false ∧ (meshing tile0).tileRuns 0 = true ∧ tile0.task = none ∧
    (meshing { tile0 with fenced := true }).fencedAt 0 = true := by decide +kernel

/-- A MAC of one INT8 vector with plane 0, an LDW of TAG 5, and a word whose reserved bits are set. -/
def macTile (q : List Nat) (n : Nat) : Tile := { extTile 0 0 0 with
  queue := q, feeders := List.replicate n ⟨false, List.replicate 32 1⟩, plane0 := some ⟨0, List.replicate 1024 2#8⟩ }
theorem witness_mac : (tiled (macTile [1] 1)).taskRuns (tileKey origin) = true ∧ instOp 1 = 1 ∧ instBad (macTile [1] 1).pBase 1 = false ∧ bit 1 16 = false ∧
    instV 1 ≤ (macTile [1] 1).feeders.length ∧ ((macTile [1] 1).plane (bits 1 11 11)).map (·.cls) = some (classOf (instFmt 1)) ∧
    (∀ v ∈ (macTile [1] 1).feeders.take (instV 1), v.wide = wideFmt (instFmt 1)) ∧ (macTile [1] 0).feeders.length < instV 1 ∧
    instBad 0 (1 + 2 ^ 28) = true ∧ instBad 2047 1 = true ∧ instBad 2046 1 = false ∧ (macTile [1 + 2 ^ 28] 0).pBase = 0 ∧ (tiled (macTile [1 + 2 ^ 28] 0)).taskRuns (tileKey origin) = true := by decide +kernel
def flying (f : Flight) : State := tiled { extTile 0 0 0 with flights := [f] }
theorem witness_retire : (flying ⟨2 + 5 * 2 ^ 48, [], []⟩).tileRuns (tileKey origin) = true ∧ instOp (2 + 5 * 2 ^ 48) = 2 ∧
    (flying ⟨1, [⟨false, List.replicate 32 1⟩], List.replicate 1024 2#8⟩).tileRuns (tileKey origin) = true ∧ instFmt 1 = 0 ∧ bit 1 7 = false ∧ bit 1 10 = false ∧
    (extTile 0 0 0).p.wf = true ∧ bits 1 27 17 = 0 := by decide +kernel
theorem witness_retire_lines : (extTile 0 0 0).admits .p [0, 1] [0, 1] := ⟨rfl, .cons (by decide) (.cons (by decide) .nil)⟩

theorem witness_watch : on.watched (tileKey origin) = true ∧ (macTile [2] 0).headReady = true ∧ (tiled (macTile [2] 0)).watched 0 = true ∧ on.up.yoke = true ∧
    (tiled { tile0 with writeback := [4], bad := Tab.empty.set 4 false }).tileRuns 0 = true ∧ on.fencedAt 0 = false := by decide +kernel

/-- A task whose TSTART entry is carried by `n` tiles, after TEND with OK. -/
def ending (n : Nat) : State := { tiled { extTile 0 0 0 with task := some ⟨0, 0, 3, some 0, none, 0⟩ } with
  lists := Tab.empty.set 0 { listOf [] with waiting := none, entries := [{ entryNew 0 (rawOf 2 0 []) with parts := n }] } }
theorem witness_task_end : ∀ n ∈ [1, 2], (ending n).tileRuns (tileKey origin) = true ∧ ((ending n).tileOf 0).task = some ⟨0, 0, 3, some 0, none, 0⟩ ∧
    ((ending n).tileOf 0).endStatus = some (.ok, 0) ∧ ((ending n).entryOf 0 0).map (·.parts) = some n ∧ (ending n).suspects = [] ∧
    (ending n).isSuspect (.owner 2 3) = false := by decide +kernel

/-- Region 3 of 8 lines, half full: the most that its head and its tail can take, and one more. -/
def circled (e : Bool) : State := tiled { extTile 0 0 0 with regions := Tab.empty.set 3 { region0 with size := 8, tail := 4, enable := e } }
theorem witness_region : (circled true).coreRuns 0 .pc0 = true ∧ (((circled true).tileOf 0).regionOf 3).enable = true ∧ bit 0x8004 15 = true ∧
    bits 0x8004 14 0 = (((circled true).tileOf 0).regionOf 3).size - (((circled true).tileOf 0).regionOf 3).occ ∧ bit 4 15 = false ∧
    bits 4 14 0 = (((circled true).tileOf 0).regionOf 3).occ ∧ (((circled true).tileOf 0).regionOf 3).releaseClears = false ∧
    (((circled true).tileOf 0).regionOf 3).size - (((circled true).tileOf 0).regionOf 3).occ < bits 0x8005 14 0 ∧
    (((circled true).tileOf 0).regionOf 3).occ < bits 5 14 0 ∧ (((circled false).tileOf 0).regionOf 3).enable = false := by decide +kernel

/-- The base instruction `w` at the pc, with `a` in x1 and `b` in x2: ADDI, ADD, MUL, DIVU, BEQ, ECALL, an illegal word. -/
theorem witness_base : ∀ w ∈ [0xFFF08193, 0x002081B3, 0x022081B3, 0x0220D1B3, 0x00208463, 0x73, 0x7F],
    fullWord w 4 = some w ∧ extCode w = none ∧ (bits w 6 0 = 0x13 ∧ bits w 14 12 = 0 ∨ bits w 6 0 = 0x33 ∧ bits w 31 25 ≤ 1 ∧ bits w 14 12 ∈ [0, 5] ∨
      bits w 6 0 = 0x63 ∧ bits w 14 12 = 0 ∨ w = 0x73 ∨ bits w 6 0 = 0x7F) := by decide
theorem witness_base_at : ∃ s1, (extOn 0x0220D1B3 7 0).baseAt origin .pc0 [] s1 0x0220D1B3 4 ∧ s1.rs2 origin .pc0 0x0220D1B3 = 0 ∧
    (s1.tileOf 0).task = some ⟨0, 0, 3, none, none, 0⟩ := ⟨_, ⟨by decide, _, rfl, by decide, by decide⟩, by decide, rfl⟩
/-- LW x3, 4(x1) and SW x2, 4(x1) at the window of the A-store. -/
theorem witness_base_memory : ∃ s1, (extOn 0x0040A183 0x100000 0).baseAt origin .pc0 [] s1 0x0040A183 4 ∧ bits 0x0040A183 6 0 = 0x03 ∧ bits 0x0040A183 14 12 = 2 ∧
    unsigned 32 (s1.rs1 origin .pc0 0x0040A183 + signed 12 (bits 0x0040A183 31 20)) = 0x100004 ∧
    (s1.tileOf 0).holds .a [(0x100004 - 0x100000) / 64] [0] :=
  ⟨_, ⟨by decide, _, rfl, by decide, by decide⟩, by decide, by decide, by decide, rfl, .cons (by decide) .nil⟩
theorem witness_base_store : ∃ s1, (extOn 0x0020A223 0x100000 5).baseAt origin .pc0 [] s1 0x0020A223 4 ∧ bits 0x0020A223 6 0 = 0x23 ∧ bits 0x0020A223 14 12 = 2 ∧
    unsigned 32 (s1.rs1 origin .pc0 0x0020A223 + signed 12 (bits 0x0020A223 31 25 * 32 + bits 0x0020A223 11 7)) = 0x100004 ∧
    (s1.tileOf 0).admits .a [(0x100004 - 0x100000) / 64] [0] :=
  ⟨_, ⟨by decide, _, rfl, by decide, by decide⟩, by decide, by decide, by decide, rfl, .cons (by decide) .nil⟩

/-! ### Witnesses: flash, plans, passes -/

/-- `on` with the domain of segment 0's hem ON and its flash as given. -/
def flashed (x : Seg) : State := { on with
  power := { on.power with domains := Tab.set on.power.domains 1 ⟨.on, false, 0⟩ }, segs := Tab.empty.set 0 x }
def up0 : Seg := { seg0 with flash := .inService }
def ssd : SsdInfo := ⟨true, 12, false, false, 0, 0, true, 63, 8, 1000⟩
theorem witness_flash_links : ((flashed seg0).seg 0).flash = .linkDown ∧ ((flashed seg0).domainOf (1 + 0)).st = .on ∧ (flashed seg0).up.yoke = true ∧
    ssdBad ssd = false ∧ ssdBad { ssd with mqes := 62 } = true ∧ ((flashed { seg0 with flash := .resetting }).seg 0).flash = .resetting ∧
    ((flashed up0).seg 0).flash ≠ .linkDown ∧ up0.cmds = .empty := by decide +kernel

/-- One command of an entry with `n` parts is with the SSD. -/
def commanded (op n : Nat) : State := { flashed { up0 with cmds := ⟨[(9, ⟨op, 0, 1, 4096, 0, .entry 0 0⟩)]⟩ } with
  lists := Tab.empty.set 0 { listOf [] with waiting := none, entries := [{ entryNew 0 (rawOf 8 1 []) with parts := n }] } }
theorem witness_flash_commands : ((commanded 2 2).seg 0).cmds.find 9 = some ⟨2, 0, 1, 4096, 0, .entry 0 0⟩ ∧
    ((commanded 2 2).entryOf 0 0).map (·.parts) = some 2 ∧ ((commanded 1 1).entryOf 0 0).map (·.parts) = some 1 ∧ (commanded 2 2).dram.get false 0 = true ∧
    (commanded 2 2).tier1Bad = .empty ∧ 0 + 1 < (commanded 2 2).setting 0x2401 4 ∧ (commanded 1 1).suspects = [] ∧
    (commanded 1 1).setting 0x2401 4 ≤ ((flashed { up0 with timeouts := 255 }).seg 0).timeouts + 1 := by decide +kernel
theorem witness_scrub : let s : State := { on with granules := Tab.empty.set 0 true }
    s.tier1Bad = .empty ∧ s.granules.get false (65535 / 65536) = true ∧ 65535 < tier1Size ∧ s.dram.get false (segOf (65535 / 8 * 8)) = true := by
  decide +kernel

/-- A flash entry of segment 0 over one LBA at tier 1 address 0xF000, the last of the job's range. -/
def flashRaw (eop : Nat) : List Byte := rawOf eop 1 (if eop = 0xA then [] else [(8, 8, 5), (0x18, 4, 1)] ++ if eop < 0xA then [(0x10, 8, 0xF000)] else [])
def flashing (eop : Nat) : State := { handing on (flashRaw eop) with segs := Tab.empty.set 0 up0 }
theorem witness_flash_entries : ∀ eop ∈ [8, 9, 0xA, 0xB],
    (flashing eop).begun 0 0 1 eop (listOf (flashRaw eop)) (entryNew 0 (flashRaw eop)) ∧
    (entryNew 0 (flashRaw eop)).restZero (if eop = 0xA then [(4, 1)] else if eop = 0xB then [(4, 1), (8, 8), (0x18, 4)] else
      [(4, 1), (8, 8), (0x10, 8), (0x18, 4)]) = true ∧ ((flashing eop).jobOf 3).flash = true ∧ (eop ≠ 0xA → 0 < (entryNew 0 (flashRaw eop)).field 0x18 4) ∧
    (eop < 0xA → 0xF000 + 4096 ≤ segSize ∧ ((flashing eop).jobOf 3).covers 0xF000 4096 = true ∧ 1 ≤ ((flashing eop).seg 0).limit ∧
      (flashing eop).dmaReady [0] = true) := by
  unfold State.begun
  decide +kernel

def pleatOf (st : PleatSt) : Pleat :=
  { tier1 := 0x8000, lba := 0, seg := 0, rx := 0, ry := 0, region := 0, variant := 0, lbas := 1, step := 0, st := st, cmds := 0, attempts := 0 }
/-- A plan of one step, computed at line 2, and one pleat. -/
def planWith (st : PlanSt) (streamed : Bool) (x : PleatSt) : Plan :=
  { st := st, job := 3, streamed := streamed, q := 10, passLen := 3, capacity := 1, batchLine := 0, flashLead := 1, lx := 0, ly := 0
    steps := [⟨2, 1, 1, 2, 0, 1⟩], pleats := [pleatOf x], firstB := 0, started := 0, staged := .empty, passes := .empty, activator := none
    deactivator := none, restagers := [] }

/-- The same plan as PLANLOAD finds it at 0x4000, or its header with another magic number. -/
def planBytes (magic : Nat) : Memory :=
  ((Memory.writeBytes [] 0x4000 (natLe 4 magic ++ natLe 2 1 ++ natLe 2 1 ++ natLe 2 10 ++ natLe 2 3 ++ natLe 2 1 ++ natLe 2 0 ++ natLe 2 0 ++ natLe 2 0 ++
    natLe 4 1 ++ natLe 8 0x4040 ++ natLe 8 0x4080)).writeBytes 0x4040 (natLe 2 2 ++ natLe 2 1 ++ natLe 1 1 ++ natLe 1 2 ++ natLe 2 0 ++ natLe 4 0 ++
    natLe 4 1)).writeBytes 0x4080 (natLe 8 0x8000 ++ natLe 8 0 ++ natLe 4 0 ++ natLe 4 1)
def planRaw : List Byte := rawOf 1 1 [(4, 1, 255), (8, 8, 0x4000)]
def loading (magic : Nat) : State := { handing on planRaw with tier1 := planBytes magic }
theorem witness_planload : (loading 0x504C414E).begun 0 0 1 1 (listOf planRaw) (entryNew 0 planRaw) ∧ (loading 0x504C414E).tier1Bad = .empty ∧
    (loading 0x504C414E).suspects = [] ∧ (entryNew 0 planRaw).restZero [(4, 1), (8, 8)] = true ∧ (loading 0x504C414E).plans.find 255 = none ∧
    ((loading 0x504C414E).planAt 0x4000 3).headerOk = true ∧ ((loading 0x504C414E).planAt 0x4000 3).recordsOk = true ∧
    (loading 0x504C414E).planOk ((loading 0x504C414E).planAt 0x4000 3).plan = true ∧
    (loading 0x504C414E).planOutside ((loading 0x504C414E).planAt 0x4000 3).plan 3 = false ∧
    (∀ r ∈ (0x4000, 64) :: ((loading 0x504C414E).planAt 0x4000 3).tables ++
        ((loading 0x504C414E).planAt 0x4000 3).plan.pleats.map (fun x => (x.tier1, x.lbas * 4096)),
      r.1 + r.2 ≤ tier1Size ∧ ((loading 0x504C414E).jobOf 3).covers r.1 r.2 = true) ∧
    (loading 0).begun 0 0 1 1 (listOf planRaw) (entryNew 0 planRaw) ∧ ((loading 0).planAt 0x4000 3).headerOk = false ∧
    0x4000 + 64 ≤ tier1Size ∧ ((loading 0).jobOf 3).covers 0x4000 64 = true := by
  unfold State.begun
  decide +kernel

def planning (op : Nat) (p : Plan) : State := { handing locked (rawOf op 1 [(4, 1, 255)]) with plans := Tab.empty.set 255 p, segs := Tab.empty.set 0 up0 }
theorem witness_plan_entries : ∀ op ∈ [2, 3, 4, 5], ∀ p ∈ [planWith .loaded false .unstaged, planWith .loaded true .unstaged, planWith .active false .resident, planWith .active false .failed],
    (planning op p).begun 0 0 1 op (listOf (rawOf op 1 [(4, 1, 255)])) (entryNew 0 (rawOf op 1 [(4, 1, 255)])) ∧
    (entryNew 0 (rawOf op 1 [(4, 1, 255)])).restZero [(4, 1)] = true ∧ (planning op p).plans.find 255 = some p ∧ p.job = 3 ∧
    (planning op p).frames = .empty ∧ (planning op p).suspects = [] ∧ p.deactivator = none ∧ p.running = false ∧ p.restagers = [] ∧ p.activator = none := by
  unfold State.begun
  decide +kernel
/-- A plan to activate whose pleat's header in tier 1 states `n` lines. -/
def budgeted (n : Nat) (p : Plan) : State := { planning 2 p with
  tier1 := Memory.writeBytes [] 0x8000 (natLe 4 0x504C5431 ++ List.replicate 6 0 ++ natLe 2 n) }
theorem witness_plan_budget : (∀ p ∈ [planWith .loaded false .unstaged, planWith .loaded true .unstaged], ∀ n ∈ [16, 65535],
      (budgeted n p).begun 0 0 1 2 (listOf (rawOf 2 1 [(4, 1, 255)])) (entryNew 0 (rawOf 2 1 [(4, 1, 255)])) ∧
      (budgeted n p).plans.find 255 = some p ∧ (budgeted n p).planOver p = decide (n = 65535)) ∧
    (∀ x ∈ (planWith .active false .failed).pleats, (planning 5 (planWith .active false .failed)).flashUp x.seg = true ∧
      (planning 5 (planWith .active false .failed)).dram.get false x.seg = true) := by
  unfold State.begun
  decide +kernel

def passOf (fetched landings : List Nat) : Pass :=
  { b := 0, lanes := [⟨5, 7, 0, true⟩], fetched := fetched, landings := landings, variants := [], pleats := .empty, blocks := .empty, ended := false }
def passing (x : PleatSt) (q : Pass) : Plan := { planWith .active false x with started := 1, passes := Tab.empty.set 0 q }
theorem witness_running : (passing .resident (passOf [] [])).running = true := by decide

/-- CRC-32C over 128 zero bytes, from each eighth of the block to the next. -/
def zeros (c : Nat) : Nat := (List.replicate 128 (0#8 : Byte)).foldl (fun c b => crcByte 0x82F63B78 c b.toNat) c
theorem zeros_eq : zeros 0xFFFFFFFF = 0xF7D89B24 ∧ zeros 0xF7D89B24 = 0x478D4E6F ∧ zeros 0x478D4E6F = 0x4509D0C9 ∧ zeros 0x4509D0C9 = 0xCF03123F ∧ zeros 0xCF03123F = 0x1FD80331 ∧ zeros 0x1FD80331 = 0xC5C4C2F9 ∧ zeros 0xC5C4C2F9 = 0xD77C4C0 ∧ zeros 0xD77C4C0 = 0x11512183 := by
  refine ⟨?_, ?_, ?_, ?_, ?_, ?_, ?_, ?_⟩ <;> decide +kernel
theorem zeros_step (n c : Nat) : (List.replicate (128 + n) (0#8 : Byte)).foldl (fun c b => crcByte 0x82F63B78 c b.toNat) c =
    (List.replicate n (0#8 : Byte)).foldl (fun c b => crcByte 0x82F63B78 c b.toNat) (zeros c) := by
  rw [List.replicate_add, List.foldl_append]; rfl
theorem crc_zeros : crc32c (List.replicate 1024 0#8) = 0xEEAEDE7C := by
  obtain ⟨h1, h2, h3, h4, h5, h6, h7, h8⟩ := zeros_eq
  rw [show (1024 : Nat) = 128 + (128 + (128 + (128 + (128 + (128 + (128 + (128 + 0))))))) from by decide, crc32c]
  rw [zeros_step, h1, zeros_step, h2, zeros_step, h3, zeros_step, h4, zeros_step, h5, zeros_step, h6, zeros_step, h7, zeros_step, h8]
  decide

/-- A pleat of one INT8 block as it stands in tier 1, its CRCs right. -/
def blockBytes : Memory :=
  let h := natLe 4 0x504C5431 ++ natLe 2 1 ++ natLe 1 0 ++ natLe 1 0 ++ natLe 2 1 ++ natLe 2 16 ++ natLe 4 0 ++
    natLe 4 0xEEAEDE7C ++ List.replicate 40 0
  Memory.writeBytes [] 0x8000 (h ++ natLe 4 (crc32c h))
def staged (b : Memory) : State := { planning 2 (planWith .staging false .staging) with tier1 := b }
theorem witness_staged : (staged []).plans.find 255 = some (planWith .staging false .staging) ∧ (staged []).pleatOk (pleatOf .staging) = false ∧
    (pleatOf .staging).cmds = 0 := by decide +kernel
theorem witness_staged_ok : (staged blockBytes).pleatOk (pleatOf .staging) = true := by
  have h1 : (staged blockBytes).tier1.readLe (0x8000 + 0xA) 2 = 16 := by decide +kernel
  have h2 : (staged blockBytes).tier1.readBytes (0x8000 + 64) (16 * 64) = List.replicate 1024 0#8 := by decide +kernel
  unfold State.pleatOk
  simp only [pleatOf, h1, h2, crc_zeros]
  decide +kernel

theorem witness_stage_line : (planning 2 (planWith .active true .resident)).plans.find 255 = some (planWith .active true .resident) ∧
    (planWith .active true .resident).streamed = true ∧ 0 < (planWith .active true .resident).steps.length ∧
    0 + (planWith .active true .resident).staged.get 0 0 * 10 + 2 ≤ locked.beat.n + 2 + 1 := by decide +kernel
theorem passing_inv (p : Plan) : (planning 2 p).Inv :=
  ⟨rfl, Nat.zero_le _, ⟨Nat.le_of_ble_eq_true rfl, Nat.le_of_ble_eq_true rfl⟩, rfl, ⟨Nat.zero_le _, Nat.zero_le _⟩, Nat.zero_le _,
    by simp [planning, handing, withJob, locked, on, State.reset, Tab.rises, Tab.empty]⟩
theorem witness_pass_start : let p := planWith .active false .resident
    (planning 2 p).plans.find 255 = some p ∧ p.firstB + p.started * p.q ≤ (planning 2 p).beat.n ∧
    (∀ i ∈ (planning 2 p).wafer.regionKeys p.region, (planning 2 p).fencedAt i = false ∧ ((planning 2 p).tileOf i).task = none) ∧
    (∀ x ∈ p.pleats, x.st ≠ .failed) := by decide +kernel
theorem witness_pass_lines : (passing .resident (passOf [] [])).passes.find 0 = some (passOf [] []) ∧ 0 ∉ (passOf [] []).fetched ∧
    (passOf [] []).b + 2 ≤ locked.beat.n + 2 ∧ (passing .resident (passOf [0] [])).passes.find 0 = some (passOf [0] []) ∧ 0 ∉ (passOf [0] []).landings ∧ 0 ∈ (passOf [0] []).fetched ∧
    (passOf [0] []).needs (pleatOf .resident) = true ∧ (passOf [0] []).state 0 = 0 ∧ (passing .resident (passOf [0] [0])).passes.find 0 = some (passOf [0] [0]) ∧
    (passOf [0] [0]).landings.length = (passing .resident (passOf [0] [0])).steps.length ∧ (passOf [0] [0]).b + 3 ≤ locked.beat.n ∧
    (passing .resident (passOf [0] [])).stepTiles 0 = [(0, 0)] := by decide +kernel

/-- A stream region of 16 lines in the W-store of tile 0, where the pleat's one block may land. -/
def landing : State := { planning 2 (passing .resident (passOf [0] [])) with
  tier1 := blockBytes
  tiles := Tab.empty.set 0 { extTile 0 0 0 with regions := Tab.empty.set 0 { region0 with size := 16, producer := 2, enable := true } } }
theorem witness_block_next : (passing .resident (passOf [0] [])).nextFor 0 0 = some ⟨2, 0, 0, pleatOf .resident⟩ := by
  have h : (passing .resident (passOf [0] [])).landings 0 0 = [(⟨2, 0, 0, pleatOf .resident⟩ : Awaited)].mergeSort Awaited.before := by
    unfold Plan.landings
    exact congrArg (List.mergeSort · Awaited.before) (by decide)
  rw [Plan.nextFor, h, List.mergeSort_singleton]
  decide
theorem witness_block : landing.wafer.phys 0 0 = some 0 ∧
    landing.fencedAt 0 = false ∧ (landing.tileOf 0).paused = false ∧ (landing.panelPower 0).stopped = false ∧ (landing.tileOf 0).bad = .empty ∧
    landing.tier1.readLe (0x8000 + 6) 1 = 0 ∧ ((landing.tileOf 0).regionOf 0).enable = true ∧ ((landing.tileOf 0).regionOf 0).producer = 2 ∧
    ((landing.tileOf 0).regionOf 0).occ + 16 ≤ ((landing.tileOf 0).regionOf 0).size ∧ (landing.tileOf 0).w.wf = true ∧
    (∀ h, h < 16 → (landing.tileOf 0).taskLine .w (0 + (0 + h) % 16) = some h ∧ (landing.tileOf 0).lineOff .w h = false) ∧
    (passOf [0] []).blocks.get 0 0 + 1 = landing.tier1.readLe (0x8000 + 8) 2 := by decide +kernel

/-! ### Witnesses: GRID, jobs, tailoring -/

def ploadRaw (epoch : Nat) : List Byte := rawOf 1 0 [(6, 1, 1), (7, 1, 1), (8, 4, epoch), (0xC, 2, 16383), (0xE, 2, 1), (0x10, 8, 65472)]
/-- PLOAD of one line into the last line of W of the tile LX 0, LY 0, from the last line of the job's range; and one with a stale epoch. -/
theorem witness_pload : let s := handing on (ploadRaw 0)
    let e := entryNew 0 (ploadRaw 0)
    s.begun 0 0 0 1 (listOf (ploadRaw 0)) e ∧ s.regionConds e 3 = [] ∧
    e.restZero [(4, 2), (6, 1), (7, 1), (8, 4), (0xC, 2), (0xE, 2), (0x10, 8), (0x18, 4)] = true ∧ e.field 0xC 2 * 64 + e.field 0xE 2 * 64 ≤ 16384 * 64 ∧
    e.field 8 4 = s.wafer.epoch.toNat ∧ s.wafer.regionKeys e.gridRegion = [0] ∧ s.tier1Bad = .empty ∧ 65472 + 64 ≤ tier1Size ∧
    (s.jobOf 3).covers 65472 64 = true ∧ (s.loadSegs e).all (fun x => s.dram.get false x) = true ∧ s.inWindow 0 (16383 * 64) 64 = false ∧ s.fencedAt 0 = false ∧
    s.extWaits 0 (16383 * 64) 64 = false ∧ (s.tileOf 0).rangeOff (16383 * 64) 64 = false ∧ (s.tileOf 0).bad = .empty ∧ (s.tileOf 0).w.wf = true ∧
    (entryNew 0 (ploadRaw 1)).field 8 4 ≠ s.wafer.epoch.toNat := by
  unfold State.begun
  decide +kernel

def tstartRaw : List Byte := rawOf 2 0 [(6, 1, 4), (7, 1, 1), (0xC, 4, 0xFFFFFFFF), (0x12, 2, 16384), (0x16, 2, 4096)]
theorem witness_tstart : let s := handing on tstartRaw
    let e := entryNew 0 tstartRaw
    s.begun 0 0 0 2 (listOf tstartRaw) e ∧ s.regionConds e 3 = [] ∧
    e.restZero [(4, 2), (6, 1), (7, 1), (8, 4), (0xC, 4), (0x10, 0x12), (0x28, 0x18)] = true ∧ e.startBad = false ∧
    s.wafer.regionKeys e.gridRegion = [0, 1, 2, 3] ∧
    (∀ k ∈ s.wafer.regionKeys e.gridRegion, (s.tileOf k).task = none ∧ s.windowMeets k e = false ∧ s.fencedAt k = false ∧ (s.tileOf k).flights = []) := by
  unfold State.begun
  decide +kernel

def copyRaw (src dst : Nat) : List Byte := rawOf 4 0 [(4, 4, 64), (8, 8, src), (0x10, 8, dst)]
/-- COPY of one line inside tier 1, into the A-store of the tile LX 3, LY 0, and out of it. -/
theorem witness_copy : ∀ p ∈ [(0, 65472), (0, 0x100000D00000), (0x100000D00000, 0)], let s := handing on (copyRaw p.1 p.2)
    let e := entryNew 0 (copyRaw p.1 p.2)
    s.begun 0 0 0 4 (listOf (copyRaw p.1 p.2)) e ∧ e.field 8 8 = p.1 ∧ e.field 0x10 8 = p.2 ∧ e.restZero [(4, 4), (8, 8), (0x10, 8)] = true ∧
    s.copyWindow p.2 64 = false ∧ s.copyConds p.1 64 3 = [] ∧ s.copyConds p.2 64 3 = [] ∧ (s.copyKeys p.1 p.2).any s.fencedAt = false ∧
    (segsIn p.1 64 ++ segsIn p.2 64).all (fun g => s.dram.get false g) = true ∧ s.dmaReady (segsIn p.1 64 ++ segsIn p.2 64) = true ∧
    s.copyWaits p.1 64 = false ∧ s.copyWaits p.2 64 = false ∧ s.tier1Bad = .empty := by
  unfold State.begun
  decide +kernel
theorem witness_copy_tile : on.wafer.target 0x100000D00000 = .tile 3 0x100000 ∧ offStore 0x100000 = some (.a, 0) ∧ (on.tileOf 3).bad = .empty := by decide +kernel

def doneOf (op eng n : Nat) : State := { withJob on with
  lists := Tab.empty.set 0 { listOf [] with waiting := none, entries := [{ entryNew 0 (rawOf op eng [(4, 2, 7)]) with parts := n }] } }
theorem witness_grid_done : ∀ op ∈ [1, 4], ((doneOf op 0 0).entryOf 0 0).map (fun e => (e.engine, e.op)) = some (0, op) ∧ (doneOf op 0 0).suspects = [] ∧
    ((doneOf op 0 0).lists.find 0).map (·.waiting) = some none := by decide +kernel

/-- JOPEN of job 4 by its own list, and of a job whose key is 0. -/
def jopenRaw : List Byte := rawOf 0x10 0 [(4, 1, 1), (6, 2, 4), (8, 1, 84), (9, 1, 96), (0x20, 4, 1), (0x24, 4, 1)]
def jopening (key : Nat) : State := { withJob on with nextList := 1, lists := Tab.empty.set 0 { listOf jopenRaw with job := 4, key := key } }
theorem witness_jopen : (jopening 9).handed 0 0 0 0x10 = some ({ listOf jopenRaw with job := 4, key := 9 }, entryNew 0 jopenRaw) ∧
    (jopening 9).jopenBad { listOf jopenRaw with job := 4, key := 9 } (entryNew 0 jopenRaw) = false ∧
    (jopening 0).jopenBad { listOf jopenRaw with job := 4, key := 0 } (entryNew 0 jopenRaw) = true ∧
    (handing on (rawOf 0x11 0 [])).handed 0 0 0 0x11 = some (listOf (rawOf 0x11 0 []), entryNew 0 (rawOf 0x11 0 [])) ∧
    (entryNew 0 (rawOf 0x11 0 [])).restZero [] = true ∧ ((handing on (rawOf 0x11 0 [])).jobOf 3).st ≠ .free := by decide +kernel

/-- TATTACH of slot 7, two-factor with its ERROR tile in the region, at the ends of the ruleset and the window. -/
def tattachRaw : List Byte := rawOf 1 3 [(4, 2, 7), (7, 1, 15), (0xA, 1, 4), (0xB, 1, 1), (0xE, 2, 4096), (0x10, 2, 16384), (0x12, 2, 3)]
theorem witness_tattach : let s := slotOn (handing on tattachRaw) 7 .opened
    let e := entryNew 0 tattachRaw
    let a : Attach := { threeFactor := false, ruleset := 15, region := ⟨0, 0, 4, 1⟩, wbase := 0, wlimit := 4096, budget := 16384, errX := 3, errY := 0, job := 3, reward := none }
    s.begun 0 0 3 1 (listOf tattachRaw) e ∧ s.attachBad e a = false ∧ s.slotForeign 7 3 = false ∧ a.region.inside (s.jobOf 3).region = true ∧
    (s.jobOf 3).region.has 3 0 = true ∧ (s.wafer.regionKeys a.region).any s.fencedAt = false := by
  unfold State.begun
  decide +kernel

/-- Slot 7 attached on the tile LX 0, LY 0 alone, with the given reward, and an entry of the TAILOR engine for it. -/
def attach1 (three : Bool) (w : Option Reward) : Attach := { attachOf with threeFactor := three, region := ⟨0, 0, 1, 1⟩, reward := w }
def attached (s : State) (a : Attach) : State := { s with attach := Tab.empty.set 7 a, tiles := Tab.empty.set 0 (evTile 0) }
theorem witness_scan_done : ((attached (doneOf 1 3 0) (attach1 false none)).entryOf 0 0).map (fun e => (e.engine, e.op, e.field 4 2)) = some (3, 1, 7) ∧
    (attached (doneOf 1 3 0) (attach1 false none)).wafer.regionKeys (attach1 false none).region = [0] ∧
    ((attached (doneOf 1 3 0) (attach1 false none)).tileOf 0).ctxs.find 7 = some ctxOf ∧
    ((attached (doneOf 1 3 0) (attach1 false none)).tileOf 0).bad = .empty := by decide +kernel
theorem witness_tailor_entries : ∀ op ∈ [2, 3, 4], let s := attached (handing on (rawOf op 3 [(4, 2, 7)])) (attach1 true (some ⟨5, [(9, 0)], 0⟩))
    s.begun 0 0 3 op (listOf (rawOf op 3 [(4, 2, 7)])) (entryNew 0 (rawOf op 3 [(4, 2, 7)])) ∧ (entryNew 0 (rawOf op 3 [(4, 2, 7)])).restZero [(4, 2)] = true ∧
    (entryNew 0 (rawOf op 3 [(4, 2, 7)])).restZero [(4, 2), (6, 2)] = true ∧ s.slotForeign 7 3 = false ∧ s.suspects = [] ∧ (s.tileOf 0).w.wf = true := by
  unfold State.begun
  decide +kernel

/-- A record of each kind stands first in the queue of tile 0. -/
def recorded (k : Nat) : State := { attached on (attach1 false none) with tiles := Tab.empty.set 0 { evTile 0 with evq := [⟨k, 7, 0, 1⟩] } }
theorem witness_records : ∀ k ∈ [1, 2, 3, 4, 5], (recorded k).processes (tileKey origin) k ⟨k, 7, 0, 1⟩ ctxOf (attach1 false none) := by
  intro k h
  fin_cases h <;> exact ⟨⟨[], rfl⟩, rfl, by decide, by decide, by decide, rfl⟩
theorem witness_step_area : ((recorded 4).tileOf 0).aBase + bits 0 11 0 + 1 < ((recorded 4).tileOf 0).aLimit ∧
    (∀ i, i ≤ 1 → ((recorded 4).tileOf 0).lineOff .a i = false) ∧ ((recorded 4).tileOf 0).a.wf = true ∧ ((recorded 4).tileOf 0).bad = .empty := by decide +kernel

/-- A held ERROR of tile 1 that has still to reach tile 0; a reward that is due. -/
def fedBack : State := { on with tiles := Tab.empty.set 1 { tile0 with feedback := [(⟨3, 7, 0, 1⟩, [0])] } }
theorem witness_feedback : (fedBack.tileOf (tileKey neighbour)).feedback.find? (fun r => r.2.contains (tileKey origin)) = some (⟨3, 7, 0, 1⟩, [0]) ∧
    tileKey neighbour ≠ tileKey origin ∧ fedBack.fencedAt 0 = false ∧ (fedBack.tileOf 0).evq.length < 64 ∧ (fedBack.tileOf 0).evWait = [] ∧
    (fedBack.tileOf 0).paused = false := by decide +kernel
def rewarded : State := attached (slotOn locked 7 .opened) (attach1 true (some ⟨5, [], 0⟩))
theorem witness_reward : rewarded.rewardsDue = [7] ∧ rewarded.rewardN ≠ rewarded.beat.n ∧ rewarded.suspects = [] ∧
    rewarded.wafer.regionKeys (attach1 true none).region = [0] := by decide +kernel

/-! ### Witnesses: remote access -/

/-- A connection of job 3 to connection 9 of node 2. -/
def conn3 : Conn :=
  { st := .opened, job := 3, cls := 7, home := 0, respond := true, peerNode := 2, peerConn := 9, peerKey := 5, units := 64, rcache := 0, granted := 64
    carried := 0, lp := 64, used := 0, nextPsn := 5, e := 10, got := [], retries := 0, outs := .empty, order := [], sendq := [], recvs := [], nextMsn := 1
    sendMsn := 0, cache := [], held := [], sinceAck := 0, ackAt := none, timerAt := none, creditAt := none, landing := none, late := [] }
def linked (c : Conn) : State := { withJob on with ports := Tab.empty.set 0 { port0 with link := true }, conns := Tab.empty.set 65535 c }
/-- A frame of node 2 for it. -/
def frameOf (op psn addr op1 len : Nat) : OraFrame :=
  { version := 0x10, opcode := BitVec.ofNat 8 op, flags := 0, cls := 7, dstNode := 1, srcNode := 2, dstConn := 65535, srcConn := 9, psn := BitVec.ofNat 32 psn
    key := 7, credit := 64, tag := 0, length := BitVec.ofNat 16 len, apsn := 0, addr := BitVec.ofNat 64 addr, operand1 := BitVec.ofNat 64 op1
    operand2 := 0, payload := List.replicate len 1#8 }

/-- What a frame of the given opcode needs to arrive for the connection. -/
theorem frame_in {s : State} {fr : OraFrame} {op : Nat} {c : Conn} (h : fr.opcode.toNat = op ∧ s.arrives (some ⟨0, 0⟩) fr = true ∧ s.malformed fr = false ∧
    fr.dstNode.toNat = s.ownNode ∧ s.conns.find fr.dstConn.toNat = some c ∧ c.st = .opened ∧ c.peerNode = fr.srcNode.toNat ∧ c.peerConn = fr.srcConn.toNat ∧
    fr.key.toNat = (s.jobOf c.job).key ∧ (s.nodeOf fr.srcNode.toNat).st ≠ .dynamic) : s.frameIn (some ⟨0, 0⟩) fr op c :=
  ⟨h.1, h.2.1, h.2.2.1, h.2.2.2.1, h.2.2.2.2.1, h.2.2.2.2.2.1, h.2.2.2.2.2.2.1, h.2.2.2.2.2.2.2.1, h.2.2.2.2.2.2.2.2.1,
    fun _ _ n => absurd n h.2.2.2.2.2.2.2.2.2⟩

/-- A posted buffer of 64 bytes at 0x100, and SENDs that end its message or not. -/
def recvd : Conn := { conn3 with recvs := [⟨0, 0, 0x100, 64, 0, none, 0, 0, none, false, false⟩] }
theorem witness_send : ∀ m ∈ [4, 8], (linked recvd).frameIn (some ⟨0, 0⟩) (frameOf 1 10 0 (m * 2 ^ 32) 4) 1 recvd ∧
    (linked recvd).takesRequest recvd (frameOf 1 10 0 (m * 2 ^ 32) 4) ∧ (linked recvd).tier1Bad = .empty ∧
    frTagged (frameOf 1 10 0 (m * 2 ^ 32) 4) = false ∧ (linked recvd).copyTile 0x100 = none := by
  intro m h
  refine ⟨frame_in ?_, ?_, ?_⟩ <;> revert m <;> (try unfold State.takesRequest) <;> decide +kernel
/-- A WRITE, a READ_REQ, an FADD and a CAS at 0x100 of tier 1. -/
theorem witness_requests : ∀ op ∈ [2, 3, 5, 6], (linked conn3).frameIn (some ⟨0, 0⟩) (frameOf op 10 0x100 (if op = 2 then 0 else 64) (if op = 2 then 64 else 0)) op conn3 ∧
    (linked conn3).takesRequest conn3 (frameOf op 10 0x100 (if op = 2 then 0 else 64) (if op = 2 then 64 else 0)) ∧ (linked conn3).copyTile 0x100 = none := by
  intro op h
  refine ⟨frame_in ?_, ?_, ?_⟩ <;> revert op <;> (try unfold State.takesRequest) <;> decide +kernel

/-- A WRITE of one line to the A-store of tile LX 0, LY 0, without and with a LANDING region that takes it; one that is TAGGED. -/
def landed (e : Bool) : State := { linked conn3 with
  tiles := Tab.empty.set 0 { extTile 0 0 0 with regions := Tab.empty.set 2 { region0 with size := 8, store := 1, producer := 1, enable := e } } }
def tagged : OraFrame := { frameOf 2 10 0x100 0 64 with flags := 2, tag := 8191 }
theorem witness_write_tile : ∀ e ∈ [true, false], (landed e).frameIn (some ⟨0, 0⟩) (frameOf 2 10 0x100000100000 0 64) 2 conn3 ∧
    (landed e).takesRequest conn3 (frameOf 2 10 0x100000100000 0 64) ∧ (landed e).copyTile 0x100000100000 = some (0, 0x100000) ∧
    frTagged (frameOf 2 10 0x100000100000 0 64) = false ∧ (((landed e).tileOf 0).landingAt 0x100000).isSome = e := by
  intro e h
  refine ⟨frame_in ?_, ?_, ?_⟩ <;> revert e <;> (try unfold State.takesRequest) <;> decide +kernel
theorem witness_landing_takes : ∃ u, ((landed true).tileOf 0).landLine .a 0 (List.replicate 64 1#8) true = .landed u := by
  have h : (match ((landed true).tileOf 0).landLine .a 0 (List.replicate 64 1#8) true with
    | .landed _ => true
    | _ => false) = true := by decide +kernel
  generalize ((landed true).tileOf 0).landLine .a 0 (List.replicate 64 1#8) true = x at h
  cases x with
  | landed u => exact ⟨u, rfl⟩
  | _ => exact absurd h (by decide)
theorem witness_tagged : let s : State := { linked conn3 with ctrs := Tab.empty.set 8191 ⟨3, 5⟩ }
    s.frameIn (some ⟨0, 0⟩) tagged 2 conn3 ∧ s.takesRequest conn3 tagged ∧ frTagged tagged = true ∧ s.ctrs.find tagged.tag.toNat = some ⟨3, 5⟩ := by
  refine ⟨frame_in ?_, ?_⟩ <;> (try unfold State.takesRequest) <;> decide +kernel

/-- A landing region that is full: the line waits. -/
def fullLanding : State := { linked conn3 with
  tiles := Tab.empty.set 0 { extTile 0 0 0 with regions := Tab.empty.set 2 { region0 with size := 8, store := 1, producer := 1, enable := true, twrap := 1 } } }
theorem witness_landing_waits : ((fullLanding.tileOf 0).landingAt 0x100000).isSome = true ∧
    (match (fullLanding.tileOf 0).landLine .a 2 (List.replicate 64 1#8) true with
      | .waits => true
      | _ => false) = true := by decide +kernel

def heldConn : Conn := { conn3 with e := 12, held := [frameOf 2 10 0x100 0 64] }
theorem witness_held : (linked heldConn).conns.find 65535 = some heldConn ∧ (linked heldConn).canApply heldConn (frameOf 2 10 0x100 0 64) = true ∧
    (linked heldConn).syndrome heldConn (frameOf 2 10 0x100 0 64) = 0 ∧ heldConn.late = [] ∧ heldConn.recvs = [] ∧ heldConn.landing = none ∧
    (linked heldConn).tier1Bad = .empty ∧ (linked heldConn).copyTile 0x100 = none := by decide +kernel
theorem witness_held_next : (linked heldConn).heldNext heldConn = some (frameOf 2 10 0x100 0 64) := by
  have h : (linked heldConn).heldNext heldConn = ([frameOf 2 10 0x100 0 64].mergeSort fun a b => decide (psnDist a.psn.toNat b.psn.toNat ≤ 0)).find?
      fun f => (linked heldConn).canApply heldConn f := rfl
  rw [h, List.mergeSort_singleton]
  decide +kernel

/-- A request of list 0 on the connection, its PSN 3 outstanding. -/
def workOf (op len sent : Nat) : WorkReq :=
  { conn := 65535, op := op, job := 3, list := 0, idx := 0, flags := 0, loc := 0x200, rem := 0x100, len := len, rtag := 0, lctr := 0, tctr := 0, thresh := 0
    slot := 0, op1 := 0, op2 := 0, waiting := false, sent := sent, open_ := 1, msn := 0, worst := .ok, refused := false }
def outOf (op len : Nat) : OutPsn := ⟨0, op, 0, len, true, none⟩
def awaiting (o : OutPsn) (w : WorkReq) : State := { linked { conn3 with outs := Tab.empty.set 3 o, order := [3] } with
  wrs := Tab.empty.set 0 w, lists := Tab.empty.set 0 { listOf [] with waiting := none, entries := [entryNew 0 (rawOf 6 2 [])] } }
def reply (op len apsn : Nat) : OraFrame := { frameOf op 3 0 0 len with apsn := BitVec.ofNat 32 apsn }
/-- A response whose LOCAL is the W-store of tile 0, while a store move holds the tile, and once its bank is powered down. -/
def localTile (t : Tile) : State := { awaiting (outOf 3 64) { workOf 6 64 64 with loc := 0x100000000000 } with tiles := Tab.empty.set 0 t }
theorem witness_response_local : (localTile { extTile 0 0 0 with paused := true }).copyWaits 0x100000000000 64 = true ∧
    (localTile { extTile 0 0 0 with pdW := 65535 }).copyWaits 0x100000000000 64 = false ∧
    (localTile { extTile 0 0 0 with pdW := 65535 }).localBad 0x100000000000 64 true = true ∧
    (awaiting (outOf 3 64) (workOf 6 64 64)).copyWaits 0x200 64 = false ∧
    (awaiting (outOf 3 64) (workOf 6 64 64)).localBad 0x200 64 true = false := by decide +kernel

def conn3out (o : OutPsn) : Conn := { conn3 with outs := Tab.empty.set 3 o, order := [3] }

theorem witness_responses : (awaiting (outOf 3 64) (workOf 6 64 64)).frameIn (some ⟨0, 0⟩) (reply 4 64 0) 4 (conn3out (outOf 3 64)) ∧
    (awaiting (outOf 3 64) (workOf 6 64 64)).awaits (conn3out (outOf 3 64)) 3 (outOf 3 64) (workOf 6 64 64) ∧
    (awaiting (outOf 5 8) (workOf 7 8 8)).frameIn (some ⟨0, 0⟩) (reply 7 0 0) 7 (conn3out (outOf 5 8)) ∧
    (awaiting (outOf 5 8) (workOf 7 8 8)).awaits (conn3out (outOf 5 8)) 3 (outOf 5 8) (workOf 7 8 8) ∧
    ((awaiting (outOf 3 64) (workOf 6 64 64)).copyKeys 0x200 0x200).any (awaiting (outOf 3 64) (workOf 6 64 64)).fencedAt = false := by
  refine ⟨frame_in ?_, ?_, frame_in ?_, ?_, ?_⟩ <;> (try unfold State.awaits) <;> decide +kernel
/-- An ACK that covers a WRITE's PSN 3, and one that does not yet. -/
theorem witness_ack : (awaiting (outOf 2 64) (workOf 5 64 64)).frameIn (some ⟨0, 0⟩) { reply 8 0 4 with psn := 0 } 8 (conn3out (outOf 2 64)) ∧
    psnDist (4 % 2 ^ 24) (psnAdd 5 (2 ^ 24 - 1)) ≤ 0 ∧ ackHits (conn3out (outOf 2 64)) (reply 8 0 4) 3 :=
  ⟨frame_in (by decide +kernel), by decide, by decide, by decide, by decide, outOf 2 64, by decide, .inr rfl⟩
/-- NAKs of PSN 3: RNR, a key's refusal, a length's. -/
theorem witness_nak : ∀ syn ∈ [3, 4, 5], (awaiting (outOf 2 64) (workOf 5 64 64)).frameIn (some ⟨0, 0⟩) (reply 9 0 (syn * 2 ^ 24 + 2)) 9 (conn3out (outOf 2 64)) ∧
    psnDist ((syn * 2 ^ 24 + 2) % 2 ^ 24) (psnAdd 5 (2 ^ 24 - 1)) ≤ 0 ∧ covers 2 (reply 9 0 (syn * 2 ^ 24 + 2)).operand1.toNat 3 = false := by
  intro syn h
  refine ⟨frame_in ?_, ?_⟩ <;> revert syn <;> decide +kernel
theorem witness_nak_misses : ¬ ackHits (conn3out (outOf 2 64)) (reply 9 0 (3 * 2 ^ 24 + 2)) 3 :=
  fun h => absurd h.2.2.1 (by decide +kernel)
theorem witness_credit : (linked conn3).frameIn (some ⟨0, 0⟩) { frameOf 10 0 0 0 0 with flags := 4 } 10 conn3 ∧ frSolicit { frameOf 10 0 0 0 0 with flags := 4 } = true :=
  ⟨frame_in (by decide +kernel), by decide⟩

/-- The head of the send queue is a WRITE of 64 bytes, of which nothing has been sent, with and without credit for it. -/
def sendConn (lp : Nat) : Conn := { conn3 with lp := lp, sendq := [0] }
def sendWork : WorkReq := { workOf 5 64 0 with open_ := 0 }
def sending (lp : Nat) : State := { awaiting (outOf 2 64) sendWork with conns := Tab.empty.set 65535 (sendConn lp) }
theorem witness_sends : ∀ lp ∈ [0, 1], (sending lp).sendsNext (sendConn lp) 0 sendWork ∧ (sending lp).plainSource ⟨0, 2, 0, 64, true, none⟩ sendWork ∧
    (sendConn lp).hasCredit ((sending lp).nextCost sendWork) = decide (lp = 1) ∧ (sendConn lp).creditAt = none ∧ wrOpcode sendWork.op = 2 := by
  unfold State.sendsNext State.plainSource
  decide +kernel
def timed : Conn := { conn3out (outOf 2 64) with timerAt := some 5, ackAt := some 6, sinceAck := 1 }
theorem witness_timers : (0 : Nat) + 1 ≤ on.setting 0x2701 4 ∧ timed.order = [3] ∧
    ({ awaiting (outOf 2 64) (workOf 5 64 64) with conns := Tab.empty.set 65535 timed } : State).awaits timed 3 (outOf 2 64) (workOf 5 64 64) ∧
    (awaiting (outOf 2 64) (workOf 5 64 64)).plainSource (outOf 2 64) (workOf 5 64 64) ∧ on.setting 0x2701 4 ≤ ({ timed with retries := 255 } : Conn).retries ∧
    ((withJob on).jobOf 3).st = .opened ∧ 0 < timed.sinceAck ∧ ({ conn3 with ackAt := some 6, granted := 64, carried := 0 } : Conn).creditDue = true := by
  unfold State.awaits State.plainSource
  decide +kernel
theorem witness_probe : ({ sendConn 0 with creditAt := some 7 } : Conn).sendq.head? = some 0 ∧ (sending 0).wrs.find 0 = some sendWork ∧
    (sendConn 0).hasCredit ((sending 0).nextCost sendWork) = false ∧
    (awaiting { outOf 2 64 with rnrAt := some 8 } (workOf 5 64 64)).awaits (conn3out { outOf 2 64 with rnrAt := some 8 }) 3 { outOf 2 64 with rnrAt := some 8 } (workOf 5 64 64) := by
  unfold State.awaits
  decide +kernel

/-- An entry of the REMOTE engine on the connection, at 0x200 and its peer's 0x100. -/
def remoteRaw (op : Nat) : List Byte := rawOf op 2 ([(4, 2, 65535), (8, 8, 0x200)] ++ (if op = 3 ∨ op = 4 then [] else [(0x10, 8, 0x100)]) ++
  (if op < 7 then [(0x18, 4, 64)] else []) ++ if op = 4 then [(0x28, 8, 0x300)] else [])
def posting (op : Nat) : State := { handing on (remoteRaw op) with conns := Tab.empty.set 65535 conn3 }
theorem witness_posts : ∀ x ∈ [(3, 0xF, 64, false, [(4, 2), (6, 1), (8, 8), (0x18, 4), (0x1C, 2), (0x1E, 2), (0x20, 2), (0x24, 4)]),
      (5, 0xF, 64, false, [(4, 2), (6, 1), (8, 8), (0x10, 8), (0x18, 4), (0x1C, 2), (0x1E, 2), (0x20, 2), (0x24, 4)]),
      (6, 0xC, 64, true, [(4, 2), (6, 1), (8, 8), (0x10, 8), (0x18, 4), (0x1E, 2), (0x20, 2), (0x24, 4)]),
      (7, 0xC, 8, true, [(4, 2), (6, 1), (8, 8), (0x10, 8), (0x1E, 2), (0x20, 2), (0x24, 4), (0x28, 8)]),
      (8, 0xC, 8, true, [(4, 2), (6, 1), (8, 8), (0x10, 8), (0x1E, 2), (0x20, 2), (0x24, 4), (0x28, 8), (0x30, 8)])],
    (posting x.1).begun 0 0 2 x.1 (listOf (remoteRaw x.1)) (entryNew 0 (remoteRaw x.1)) ∧
    (posting x.1).mayPost (listOf (remoteRaw x.1)) (entryNew 0 (remoteRaw x.1)) x.2.1 x.2.2.1 x.2.2.2.1 x.2.2.2.2 ∧
    (x.1 < 7 → lenBad (entryNew 0 (remoteRaw x.1)).rlen = false) ∧ (entryNew 0 (remoteRaw x.1)).rem % 8 = 0 := by
  unfold State.begun State.mayPost
  decide +kernel
theorem witness_recv : let s := posting 4
    let e := entryNew 0 (remoteRaw 4)
    s.begun 0 0 2 4 (listOf (remoteRaw 4)) e ∧ s.contextFree (some e.conn) = true ∧ e.restZero [(4, 2), (6, 1), (8, 8), (0x18, 4), (0x1E, 2), (0x28, 8)] = true ∧
    lenBad e.rlen = false ∧ e.op1 % 8 = 0 ∧ s.connConds e.conn 3 = [] ∧ s.flagConds e 3 8 = [] ∧ s.localConds e.loc e.rlen 3 true = [] ∧
    s.localConds e.op1 8 3 true = [] := by
  unfold State.begun
  decide +kernel
def connectRaw : List Byte := rawOf 1 2 [(4, 2, 65535), (7, 1, 7), (8, 2, 2), (0xA, 2, 9), (0xC, 1, 7), (0xE, 2, 64), (0x10, 4, 5)]
def counting (op : Nat) (fs : List (Nat × Nat × Nat)) : State := { handing on (rawOf op 2 fs) with
  ctrs := Tab.empty.set 8191 ⟨3, 5⟩, conns := Tab.empty.set 65535 conn3 }
theorem witness_remote : (handing on connectRaw).begun 0 0 2 1 (listOf connectRaw) (entryNew 0 connectRaw) ∧ (entryNew 0 connectRaw).connectBad = false ∧
    (handing on connectRaw).conns.find 65535 = none ∧
    (counting 2 [(4, 2, 65535)]).begun 0 0 2 2 (listOf (rawOf 2 2 [(4, 2, 65535)])) (entryNew 0 (rawOf 2 2 [(4, 2, 65535)])) ∧
    (entryNew 0 (rawOf 2 2 [(4, 2, 65535)])).restZero [(4, 2)] = true ∧
    (counting 9 [(0x20, 2, 8191), (0x28, 4, 7)]).begun 0 0 2 9 (listOf (rawOf 9 2 [(0x20, 2, 8191), (0x28, 4, 7)])) (entryNew 0 (rawOf 9 2 [(0x20, 2, 8191), (0x28, 4, 7)])) ∧
    (entryNew 0 (rawOf 9 2 [(0x20, 2, 8191), (0x28, 4, 7)])).restZero [(0x20, 2), (0x28, 4)] = true ∧
    (counting 0xA [(0x20, 2, 8191)]).begun 0 0 2 0xA (listOf (rawOf 0xA 2 [(0x20, 2, 8191)])) (entryNew 0 (rawOf 0xA 2 [(0x20, 2, 8191)])) ∧
    (entryNew 0 (rawOf 0xA 2 [(0x20, 2, 8191)])).restZero [(0x20, 2)] = true ∧ (counting 0xA []).ctrConds 8191 3 true = [] := by
  unfold State.begun
  decide +kernel
/-- TREADY of slot 7 at a counter that has, or has not yet, reached its threshold. -/
theorem witness_tready : ∀ n ∈ [5, 6], let raw := rawOf 0xB 2 [(6, 1, 4), (0x20, 2, 8191), (0x22, 2, 7), (0x24, 4, n)]
    let s := counting 0xB [(6, 1, 4), (0x20, 2, 8191), (0x22, 2, 7), (0x24, 4, n)]
    let e := entryNew 0 raw
    s.begun 0 0 2 0xB (listOf raw) e ∧ s.contextFree none = true ∧ e.restZero [(6, 1), (0x20, 2), (0x22, 2), (0x24, 4)] = true ∧ e.rflags = 4 ∧
    bits e.tslot 14 12 = 0 ∧ bit e.tslot 15 = false ∧ s.ctrConds e.tctr 3 true = [] ∧ s.readyForeign e.tslot 3 = false ∧
    triggerMet 5 n = decide (n = 5) := by
  unfold State.begun
  decide +kernel

/-! ### Witnesses: ports, field network, SDO -/

def portOn (x : Port) : State := { on with ports := Tab.empty.set 7 x, od := Tab.empty.set (odKey 0x2801 8) 1
                                           power := { on.power with domains := Tab.set on.power.domains 26 ⟨.on, false, 0⟩ } }
def ethOf (len : Nat) : EthFrame :=
  { fcsOk := true, fecBad := 0, fecFixed := 3, len := len, macControl := false, tagged := false, etherType := 0x88B5, dstMac := 0x24F52410001, srcMac := 0x24F52410002
    ora := { version := 0x10, opcode := 1, flags := 0, cls := 0, dstNode := 1, srcNode := 2, dstConn := 0, srcConn := 0, psn := 0, key := 0, credit := 0
             tag := 0, length := 0, apsn := 0, addr := 0, operand1 := 0, operand2 := 0, payload := [] } }
def queuedFrame : QFrame := ⟨0, (ethOf 64).ora, true, false⟩
def txPort : Port := { port0 with link := true, queues := Tab.empty.set 6 [queuedFrame] }
/-- A port whose link is up or down, and enabled; the ends of the lengths; a sound frame of node 2 that finds the buffer full. -/
theorem witness_ports : ((portOn { port0 with link := true }).portOf 7).link = true ∧ (portOn port0).portEnabled 7 = true ∧ 74 + on.maxPayload = 4170 ∧
    (ethOf 64).etherType.toNat = on.setting 0x2700 2 ∧ on.nodeMac on.ownNode = 0x24F52410001 ∧ on.nodeMac 2 = 0x24F52410002 ∧
    on.canWrite .sdo 0x2801 8 = true ∧ (portOn port0).setting 0x2801 8 = 1 ∧ on.canWrite .sdo 0x2802 3 = true ∧ on.canWrite .sdo 0x2803 3 = true ∧
    on.staticBad (2 + 7 * 2 ^ 16 + 2 ^ 24) = false ∧ on.staticBad 0xFFFF = true ∧ on.canWrite .sdo 0x2810 64 = true ∧ on.canWrite .sdo 0x2811 64 = true ∧
    ({ on with nodes := Tab.empty.set 2 ⟨.dynamic, 7, 0, 0, 9, none⟩ } : State).nodeOf 2 = ⟨.dynamic, 7, 0, 0, 9, none⟩ := by decide +kernel
theorem witness_transmit : txPort.queues.get [] 6 = [queuedFrame] ∧ txPort.queues.get [] 7 = [] ∧ txPort.link = true ∧
    ({ portOn txPort with od := Tab.empty.set (odKey 0x2810 63) 400000 } : State).mayStart 7 6 queuedFrame = true := by decide +kernel

/-- A frame of fewer than 74 bytes that passes the port's checks, one of 74, and one with two uncorrectable codewords; no entry yet for the node. -/
theorem witness_received : (ethOf 73).len < 74 ∧ (ethOf 74).ora.opcode.toNat = 1 ∧ ({ ethOf 64 with fecBad := 2 } : EthFrame).fecBad = 2 ∧ (on.nodeOf 2).st = .none := by
  decide

def nmtOn (n : Nmt) : State := { on with can := { on.can with nmt := n } }
theorem witness_nmt : on.nmtDue 0 = true ∧ on.nmtDue 33 = true ∧ (nmtOn .stopped).nmtDue 33 = true ∧ (nmtOn .preOperational).can.nmt ≠ .operational ∧
    on.can.nmt = .operational := by decide +kernel
def beatingNode (w : Option Nat) : State := { on with can := { on.can with
  hbDueAt := some 5, hbWaiting := w, consumers := Tab.empty.set 7 ⟨some 3, false⟩ }, od := Tab.empty.set (odKey 0x1016 8) (9 * 65536 + 100) }
theorem witness_heartbeats : (beatingNode none).can.hbDueAt = some 5 ∧ (beatingNode none).can.busOff = false ∧ (beatingNode (some 0)).can.hbWaiting.isSome = true ∧
    on.canWrite .hostA 0x1017 0 = true ∧ (beatingNode none).canUp = true ∧ (beatingNode none).consumerOf 9 = some 7 ∧
    (beatingNode none).can.consumers.get ⟨none, false⟩ 7 = ⟨some 3, false⟩ ∧ (beatingNode none).consumerMs 7 ≠ 0 ∧ (beatingNode none).consumerNode 7 ≠ 0 := by
  decide +kernel

/-- Dictionary cells by index and sub-index. -/
def odOf (l : List (Nat × Nat × Nat)) : Tab Nat := l.foldl (fun t x => t.set (odKey x.1 x.2.1) x.2.2) Tab.empty
/-- TPDO 7 carries 0x1001, with the transmission type `ty`; RPDO 7 carries 0x2103:01. -/
def pdoOn (ty : Nat) (r : TpdoRun) (rt : Nat) : State := { on with
  can := { on.can with tpdo := Tab.empty.set 7 r, rpdo := Tab.empty.set 7 ⟨none, some 4⟩, cobWritten := (Tab.empty.set (odKey 0x1807 1) true).set (odKey 0x1407 1) true }
  od := odOf <| ((List.range 7).map fun j => (0x1A00 + j, 0, 0)) ++ [(0x1807, 1, 0x40000387), (0x1807, 2, ty), (0x1807, 5, 10), (0x1A07, 0, 1), (0x1A07, 1, 0x10010008), (0x1407, 1, 0x40000407), (0x1407, 2, rt),
    (0x1407, 5, 20), (0x1607, 0, 1), (0x1607, 1, 0x21030110)] }
theorem witness_sync : let s := pdoOn 240 { tpdo0 with syncs := some 239 } 0
    s.canUp = true ∧ bit (s.setting 0x1005 0) 31 = false ∧ (∀ j, j < 8 → j ≠ 7 → s.tpdoOn j = false) ∧ (∀ j, j < 8 → (s.rpdoRun j).waiting = none) ∧
    s.tpdoOn 7 = true ∧ s.tpdoType 7 = 240 ∧ (s.tpdoRun 7).syncs = some 239 ∧ s.tpdoInhibited 7 = false ∧
    (let a := (s.canGot.putCell 0x1FD3 1 s.stamp).bump32 0x1FD3 2;
      ((a.setTpdo 7 { a.tpdoRun 7 with syncs := some 0 }).tpdoValues 7).isSome = true) := by decide +kernel
theorem witness_tpdo : let s := pdoOn 254 { tpdo0 with timerAt := some 6 } 0
    s.tpdoOn 7 = true ∧ s.tpdoType 7 = 254 ∧ (s.tpdoValues 7).isSome = true ∧ (s.tpdoRun 7).pending = false ∧ (s.tpdoRun 7).last = none ∧
    s.tpdoInhibited 7 = false ∧ s.tpdoTimer 7 ≠ 0 ∧ (s.tpdoRun 7).timerAt = some 6 ∧
    (let a := s.advanceTo (6 + s.tpdoTimer 7 * psMs);
      let b := a.setTpdo 7 { a.tpdoRun 7 with timerAt := some a.now };
      (b.tpdoValues 7).isSome = true ∧ b.tpdoInhibited 7 = false) ∧
    (pdoOn 254 { tpdo0 with pending := true, lastAt := some 0, captured := some [1] } 0).tpdoOn 7 = true := by decide +kernel
theorem witness_rpdo : ∀ rt ∈ [240, 254], let s := pdoOn 254 tpdo0 rt
    s.pdoOpen = true ∧ bit (s.rpdoCob 7) 31 = false ∧ s.rpdoMap 7 = [(0x2103, 1, 2)] ∧ s.rpdoType 7 = rt ∧ (s.rpdoRun 7).lastAt = some 4 ∧
    s.setting 0x1407 5 ≠ 0 := by decide +kernel
/-- What the mapped value does: 100 ms is taken, 0xFFFF is out of range. -/
theorem witness_rpdo_value : let s := pdoOn 254 tpdo0 254
    let x := s.canGot.setRpdo 7 { s.canGot.rpdoRun 7 with lastAt := some s.now }
    (match x.tryWrite 0x2103 1 (fxSetting 0x2103 1 100) with
      | .ok _ => true
      | .error _ => false) = true ∧
    (match x.tryWrite 0x2103 1 (fxSetting 0x2103 1 0xFFFF) with
      | .ok _ => false
      | .error e => e == 0x06090031) = true := by decide +kernel

def queued (h : Option Held) (b : Bool) : State := { on with can := { on.can with queue := [⟨0x8130, 0x11, 5, 0x0D03⟩], held := h, busOff := b } }
theorem witness_emcy : (queued none false).emcyOpen = true ∧ (queued none false).can.dropped = false ∧
    (queued (some (.emcy ⟨0x8120, 0x11, 5, 0x0D01⟩)) false).emcyOpen = true ∧ bit (on.setting 0x1014 0) 31 = false ∧ on.canWrite .sdo 0x1014 0 = true ∧
    cobCheck false 0x800000A1 = none ∧ on.cobState 0x1014 0 0x800000A1 = none ∧ cobCheck false 0x20000000 ≠ none ∧ on.cobState 0x1014 0 0xA2 ≠ none ∧
    cobCheck false 0xA2 = none ∧ (queued none true).can.busOff = true ∧ (queued none true).up.collar = true := by decide +kernel

/-- Recovery sends the held heartbeat, or, when all is sent, what waited behind it; frames wait to leave meanwhile; no TPDO value. -/
def recovering (h : Option Held) : State := { on with can := { on.can with recovering := true, held := h, later := [(0x387, [1])], hbDueAt := some 5 } }
theorem witness_recovering : (recovering (some (.heartbeat 5 5))).canGated = true ∧ (recovering none).canGated = false ∧ on.canGated = false ∧
    (recovering none).can.queue = [] ∧ (recovering none).canUp = true ∧ (recovering none).can.hbDueAt = some 5 ∧ on.can.later = [] := by decide +kernel
theorem witness_withheld : (let s := { pdoOn 254 { tpdo0 with withheld := true } 0 with up := { on.up with yoke := true } }
      s.tpdoOn 7 = true ∧ ((s.setTpdo 7 { s.tpdoRun 7 with timerAt := some s.now }).tpdoValues 7).isSome = true ∧ s.tpdoInhibited 7 = false) ∧
    (nmtOn .preOperational).canUp = true ∧ bit ((nmtOn .preOperational).setting 0x1005 0) 31 = false := by decide +kernel

def data8 (bs : List Byte) : List Byte := pad 8 bs
def serving (d : Option Sdo) : State := { on with can := { on.can with sdo := d } }
theorem witness_sdo_hears : (serving none).sdoHears (data8 [0x2B, 3, 0x21, 1, 100]) := ⟨by decide, by decide⟩
/-- Downloads to 0x2103:01, expedited, segmented and in blocks, and to an object that does not exist. -/
theorem witness_downloads : frameCcs (data8 [0x2B, 3, 0x21, 1, 100]) = 1 ∧ bit (byteAt (data8 [0x2B, 3, 0x21, 1, 100]) 0) 1 = true ∧
    frameIndex (data8 [0x2B, 3, 0x21, 1, 100]) = 0x2103 ∧ frameSub (data8 [0x2B, 3, 0x21, 1, 100]) = 1 ∧ on.accessCheck true 0x2103 1 = none ∧
    on.accessCheck true 0x2FFF 1 ≠ none ∧ bit (byteAt (data8 [0x21, 3, 0x21, 1, 2]) 0) 1 = false ∧ on.downCheck 0x2103 1 (some 2) = none ∧
    on.downCheck 0x2103 1 (some 3) ≠ none ∧ frameCcs (data8 [0xC6, 3, 0x21, 1, 2]) = 6 ∧ byteAt (data8 [0xC6, 3, 0x21, 1, 2]) 0 % 2 = 0 := by decide +kernel
theorem witness_download_applies : (match (serving none).canGot.tryWrite 0x2103 1 (fxWrite .sdo 0x2103 1 [100, 0]) with
      | .ok u => u.sdoOpen
      | .error _ => false) = true ∧
    (match (serving none).canGot.tryWrite 0x2103 1 (fxWrite .sdo 0x2103 1 [255, 255]) with
      | .ok _ => false
      | .error _ => true) = true := by decide +kernel
/-- Segments: the first of two, the last with and without the size announced; a wrong toggle. -/
theorem witness_segments : let d := { sdo0 .segDown 0x2103 1 0 with size := some 2 }
    d.index ≠ 0x2C20 ∧ frameCcs (data8 [0x0B, 100, 0]) = 0 ∧ bit (byteAt (data8 [0x0B, 100, 0]) 0) 0 = true ∧ bit (byteAt (data8 [0x0B, 100, 0]) 0) 4 = d.toggle ∧
    d.sizeWrong 2 = false ∧ d.sizeWrong 3 = true ∧ bit (byteAt (data8 [0x1B, 100, 0]) 0) 4 ≠ d.toggle ∧ bit (byteAt (data8 [0x00, 1, 2]) 0) 0 = false := by decide +kernel
theorem witness_blocks : let d := { sdo0 .blkDown 0x2103 1 0 with blksize := 127, seq := 126 }
    byteAt (data8 [0x7F, 100]) 0 ≠ 0x80 ∧ bits (byteAt (data8 [0x7F, 100]) 0) 6 0 = d.seq + 1 ∧ d.seq + 1 = d.blksize ∧ bit (byteAt (data8 [0xFF, 100]) 0) 7 = true ∧
    bits (byteAt (data8 [0x7E, 100]) 0) 6 0 ≠ d.seq + 1 ∧ bit (byteAt (data8 [0x01]) 0) 7 = false ∧ frameCcs (data8 [0xD5]) = 6 ∧ byteAt (data8 [0xD5]) 0 % 2 = 1 := by
  decide +kernel
theorem witness_block_crc : let d := { sdo0 .blkDownEnd 0x2103 1 0 with data := [100, 0, 0, 0, 0, 0, 0], crc := true }
    let all := d.data.take (d.data.length - bits (byteAt (data8 [0xD5]) 0) 4 2)
    all = [100, 0] ∧ sdoCrc all ≠ leNat (((data8 [0xD5]).drop 1).take 2) := by decide +kernel
/-- Uploads of 0x1000 (4 bytes) and 0x100A (a string), and of an object that does not exist. -/
theorem witness_uploads : frameCcs (data8 [0x40, 0, 0x10]) = 2 ∧ expedited 0x1000 0 = true ∧ expedited 0x100A 0 = false ∧
    (∀ x ∈ [0x1000, 0x100A], (match (serving none).canGot.odRead x 0 with
      | .ok _ => true
      | .error _ => false) = true) ∧
    (match (serving none).canGot.odRead 0x2FFF 0 with
      | .ok _ => false
      | .error _ => true) = true ∧ frameCcs (data8 [0xA4]) = 5 ∧ byteAt (data8 [0xA4]) 0 % 4 = 0 ∧ blksizeOk 127 = true ∧ blksizeOk 0 = false ∧ blksizeOk 128 = false ∧
    frameCcs (data8 [0x80]) = 4 ∧ frameCcs (data8 [0x60]) = 3 ∧ byteAt (data8 [0xA3]) 0 % 4 = 3 ∧ byteAt (data8 [0xA2]) 0 % 4 = 2 ∧ byteAt (data8 [0xA1]) 0 % 4 = 1 := by
  decide +kernel
theorem witness_sdo_turns : sdoCommand (data8 [0x40, 0, 0x10]) (.sdoInitiateUpload (data8 [0x40, 0, 0x10])) ∧
    ¬ (sdo0 .segUp 0x1000 0 0).expects (data8 [0x40, 0, 0x10]) ∧ (serving (some (sdo0 .waitWrite 0x1010 1 0))).can.sdoHeld = none ∧
    (serving (some (sdo0 .segUp 0x1000 0 0))).sdoOpen = true :=
  ⟨.inr (.inr (.inl ⟨rfl, by decide⟩)), fun h => absurd (show frameCcs (data8 [0x40, 0, 0x10]) = 3 from h) (by decide), by decide, by decide⟩

/-! ### Witnesses: the dictionary, the management window -/

def fwOn (f : Firmware) : State := { on with fw := f }
def storing (k : Nat) : StoreJob := ⟨k, 3, .sdo, 0x1010, 1, none⟩
theorem witness_dictionary : on.pathOpen .sdo = true ∧ on.pathOpen .hostB = true ∧ on.accessCheck true 0x1000 0 ≠ none ∧ on.canWrite .sdo 0x1010 1 = true ∧
    on.canWrite .hostA 0x1011 1 = true ∧ on.canWrite .sdo 0x1003 0 = true ∧ on.up.phase ≠ .recovery ∧ on.fw.updating = false ∧ on.fw.store = none ∧
    (fwOn { on.fw with upd := .ready }).fw.updating = true ∧ (fwOn { on.fw with upd := .ready }).canWrite .sdo 0x1010 1 = true ∧
    on.can.sdoHeld = none ∧ on.up.collar = true := by decide +kernel
theorem witness_stores : ∀ k ∈ [0, 1, 2], let s := fwOn { on.fw with store := some (storing k) }
    s.fw.store = some (storing k) ∧ s.up.collar = true ∧ s.fw.storeWait = [] ∧ s.fw.beginWait = none ∧ s.can.sdoHeld = none ∧ s.fw.updating = false ∧
    s.canWrite .sdo 0x1010 1 = true := by decide +kernel
theorem witness_dictionary_write : on.accessCheck true 0x2103 1 = none ∧
    (match fxWrite .sdo 0x2103 1 [100, 0] on with
      | .ok u => u.can.sdoHeld.isNone
      | .error _ => false) = true ∧
    (match fxWrite .sdo 0x2103 1 [255, 255] on with
      | .ok _ => false
      | .error _ => true) = true := by decide +kernel

def boxOn (b : Mailbox) : State := { on with boxA := b }
def mailOf (op : BitVec 3) (i : W16) (j : BitVec 8) (more : Bool) (len off : W32) : MailReq := ⟨op, i, j, more, 0, len, off, [1, 2]⟩
theorem witness_window : on.windowUp .hostA = true ∧ on.windowUp .hostB = true ∧ (on.box .hostA).busy = false ∧
    (boxOn { mailbox0 with busy := true }).windowUp .hostA = true ∧ ((boxOn { mailbox0 with busy := true }).box .hostA).busy = true ∧
    reqBad (mailOf 0 0x1000 0 false 4 0) = true ∧ reqBad (mailOf 1 0x1000 0 false 65536 0) = false ∧ reqBad (mailOf 1 0x1000 0 false 65537 0) = true ∧
    chunkBad (mailOf 1 0x1000 0 true 4 0) = true ∧ chunkBad (mailOf 1 0x1000 0 false 4 0) = false ∧ isDomain 0x1000 0 = false ∧
    isDomain 0x2C20 0 = true ∧ chunkBad (mailOf 2 0x2C20 0 true 4 0) = false := by decide +kernel
theorem witness_mail_reads : (match (on.going .hostA (mailOf 1 0x1000 0 false 4 0)).odRead 0x1000 0 with
      | .ok bs => bs.length == 4
      | .error _ => false) = true ∧
    (match (on.going .hostA (mailOf 1 0x2FFF 0 false 4 0)).odRead 0x2FFF 0 with
      | .ok _ => false
      | .error e => e != 0) = true := by decide +kernel
theorem witness_mail_writes : let a := on.going .hostA ⟨2, 0x2103, 1, false, 0, 2, 0, [100, 0]⟩
    let b := on.going .hostA ⟨2, 0x1010, 1, false, 0, 4, 0, [0x73, 0x61, 0x76, 0x65]⟩
    (match a.tryWrite 0x2103 1 (fxWrite .hostA 0x2103 1 (a.box .hostA).data) with
      | .ok v => v.can.sdoHeld.isNone && (v.box .hostA).busy && !v.defers 0x2103 1 (leNat (a.box .hostA).data)
      | .error _ => false) = true ∧
    (match b.tryWrite 0x1010 1 (fxWrite .hostA 0x1010 1 (b.box .hostA).data) with
      | .ok v => v.can.sdoHeld.isNone && (v.box .hostA).busy && v.defers 0x1010 1 (leNat (b.box .hostA).data)
      | .error _ => false) = true ∧
    (match (on.going .hostA (mailOf 2 0x1000 0 false 2 0)).tryWrite 0x1000 0 (fxWrite .hostA 0x1000 0 [1, 2]) with
      | .ok _ => false
      | .error e => e != 0) = true := by decide +kernel
/-- An image of 8 bytes: a first chunk that is the whole, one that goes on, one too long; the next chunk. -/
def imaging (pos : Nat) (c : Bool) : State := { boxOn { mailbox0 with chunk := if c then some ⟨0x2C20, 0, true, [], pos, 5⟩ else none } with
  fw := { on.fw with upd := .ready }, od := Tab.empty.set (odKey 0x2C21 2) 8 }
theorem witness_chunks : (imaging 0 false).accessCheck true 0x2C20 0 = none ∧ (imaging 0 false).imageCheck (some 8) = none ∧ (imaging 0 false).imageCheck none = none ∧
    (imaging 0 false).chunkFor .hostA (mailOf 2 0x2C20 0 true 4 0) = some ⟨0x2C20, 0, true, [], 0, (imaging 0 false).now⟩ ∧
    (imaging 4 true).chunkFor .hostA (mailOf 2 0x2C20 0 true 4 4) = some ⟨0x2C20, 0, true, [], 4, 5⟩ ∧ (imaging 4 true).cell 0x2C21 2 = 8 ∧
    (imaging 4 true).windowUp .hostA = true ∧ ((imaging 4 true).box .hostA).busy = false ∧ (imaging 4 true).fw.upd = .ready := by decide +kernel
def answered (code : Nat) (on_ : Bool) : State := boxOn { mailbox0 with busy := true, answer := some (code, [], false), vectorEnable := on_ }
theorem witness_answers : ((answered 5 true).box .hostA).answer = some (5, [], false) ∧ ((answered 0 false).box .hostA).answer = some (0, [], false) ∧
    ((answered 5 true).box .hostA).busy = true ∧ ((answered 5 true).box .hostA).vectorEnable = true ∧ ((answered 0 false).box .hostA).vectorEnable = false ∧
    ({ answered 5 true with msix := Tab.empty.set 3 0 } : State).vectorMasked .hostA 0 = false := by decide +kernel

/-! ### Witnesses: supply, clocks, domains, rails, coolant -/

def upOn (s : State) (u : BringUp) : State := { s with up := u }

def powerOn (p : Power) : State := { on with power := p }
def fed (st : InputState) : State := powerOn { on.power with input := st }
/-- A domain in a state, the others as in `on`. -/
def domOn (d : Nat) (x : Domain) : State := powerOn { on.power with domains := Tab.set on.power.domains d x }
theorem witness_inputs : (∀ a ∈ [InputState.inRange, .low, .high, .cut, .reversed, .absent], (fed a).power.input = a) ∧
    on.power.standbyOut = false ∧ (powerOn { on.power with standbyOut := true }).power.standbyOut = true := by decide
theorem witness_clocks : let s := powerOn { on.power with
      domains := ⟨[(0, ⟨.on, false, 0⟩), (1, ⟨.on, false, 0⟩), (17, ⟨.on, false, 0⟩), (19, ⟨.on, false, 0⟩), (32, ⟨.on, false, 0⟩), (155, ⟨.on, false, 0⟩), (163, ⟨.on, false, 0⟩)]⟩ }
    (∀ k ∈ [15, 17, 192, 200, 208, 240, 256, 260, 261, 263, 264], s.clockRuns k = true) ∧ hasPll 15 = true ∧ hasPll 261 = true ∧ (s.panelPower 5).resets = [] ∧
    s.power.refLost = false ∧ s.up.collar = true ∧ (s.domainOf 0).st ≠ .off ∧ s.beat.lock ≠ .holdover ∧
    (powerOn { on.power with refLost := true }).power.refLost = true ∧ ({ locked with beat := { locked.beat with lock := .holdover } } : State).beat.lock = .holdover := by
  decide +kernel
/-- An input back in range from Cut, at both of its bounds; a standby input that goes, without and with the main input; an absent collar. -/
theorem witness_relapse : (fed .cut).power.input = .cut ∧ (40000#16).toNat = 40000 ∧ (60000#16).toNat = 60000 ∧ (fed .absent).power.standbyOut = false ∧
    (powerOn { on.power with input := .absent, standbyMv := 4999, standbyOut := true }).power.standbyMv < 5000 ∧
    (upOn on { on.up with collar := false, absentAt := some 3 }).up.absentAt.isSome = true ∧ on.linksUp ≤ 5 := by decide +kernel
theorem witness_panel_resets : on.panelResets 5 := ⟨by decide +kernel, by decide +kernel, by decide +kernel⟩

/-- Domain 92 (a panel's memory) whose seams are ON or not. -/
def seamed (x : Domain) : State := powerOn { on.power with
  domains := ⟨[(0, ⟨.on, false, 0⟩), (92, x), (155, ⟨.on, false, 0⟩), (164, ⟨.on, false, 0⟩)]⟩ }
def outOfGrid (s : State) : State := { s with wafer := { wafer0 with panel := Tab.empty.set 1 { wafer0.panelOf 1 with mode := .removed } } }
theorem witness_domain_requests : on.canWrite .sdo 0x2911 172 = false ∧ on.canWrite .sdo 0x2911 93 = true ∧ (on.wafer.panelOf 1).mode = .active ∧
    ((outOfGrid (seamed ⟨.off, false, 0⟩)).wafer.panelOf 1).mode ≠ .active ∧ (outOfGrid on).canWrite .sdo 0x2911 93 = true ∧ on.power.internalOsc = false ∧
    (seamed ⟨.ramping, true, 0⟩ |>.domainOf 92).st ≠ .off ∧ ((seamed ⟨.off, false, 0⟩).domainOf 92).st = .off ∧ on.up.phase ≠ .domains ∧
    (∀ e ∈ domainNeeds 92, ((seamed ⟨.off, false, 0⟩).domainOf e).st = .on) ∧ (seamed ⟨.off, false, 0⟩).ramping (isPanelDomain 92) = 0 ∧
    ¬ (∀ e ∈ domainNeeds 92, (on.domainOf e).st = .on) ∧ (early.domainOf 0).st = .off ∧ early.up.phase = .waiting ∧ early.canWrite .sdo 0x2911 1 = true := by
  decide +kernel
theorem witness_wanted (e : Nat) : ((seamed ⟨.off, false, 0⟩).domainOf e).wanted = false := by
  simp only [State.domainOf, seamed, powerOn, Tab.get, Tab.find, findCell]
  split_ifs <;> rfl
theorem witness_offs : on.hemUsed 3 = false ∧ (withJob on).hemUsed 0 = true ∧
    (∃ e ∈ domainUsers 155, ((domOn 91 ⟨.on, false, 0⟩).domainOf e).st = .on) ∧ (on.domainOf 0).st ≠ .off := by decide +kernel
theorem witness_ramps : (domOn 5 ⟨.off, true, 0⟩).needsMet 5 = true ∧ (domOn 5 ⟨.off, true, 0⟩).rampFree false = true ∧ isPanelDomain 5 = false ∧
    ((domOn 5 ⟨.ramping, true, 7⟩).domainOf 5).st = .ramping ∧ ((domOn 0 ⟨.ramping, true, 7⟩).domainOf 0).st = .ramping ∧
    ((domOn 40 ⟨.ramping, true, 7⟩).domainOf 40).st = .ramping ∧ isPanelDomain 40 = true ∧ on.up.failedYoke + 1 < on.setting 0x2A01 2 ∧
    ({ domOn 0 ⟨.ramping, true, 7⟩ with up := { on.up with failedYoke := 9 } } : State).setting 0x2A01 2 ≤ 9 + 1 ∧
    ({ on with up := { on.up with built := false } } : State).up.built = false ∧
    (powerOn { on.power with domains := ⟨(5, ⟨.off, true, 0⟩) :: [6, 7, 8, 9].map fun d => (d, ⟨.ramping, true, 0⟩)⟩ }).rampFree false = false := by decide +kernel

/-- YOKE ON from Cut after 100 ms in range, and one instant before; a ramp in ROM recovery, and one with a pending restore in SEARCH. -/
def cutFor (now : Nat) : State := { early with now := now, power := { early.power with input := .cut, rangeAt := some 5 } }
theorem witness_from_cut : ((cutFor (5 + 100 * psMs)).domainOf 0).st = .off ∧ 5 + 100 * psMs ≤ (cutFor (5 + 100 * psMs)).now ∧
    (cutFor (5 + 100 * psMs)).canWrite .sdo 0x2911 1 = true ∧ ¬ 5 + 100 * psMs ≤ (cutFor (4 + 100 * psMs)).now ∧
    (upOn (domOn 5 ⟨.off, true, 0⟩) { on.up with phase := .recovery }).up.phase = .recovery ∧ on.beat.lock = .search ∧ on.up.restore = none ∧
    (upOn on { on.up with restore := some ([], true) }).up.restore ≠ none := by decide +kernel

def panelAt (x : PanelPower) : State := { domOn 32 ⟨.on, false, 0⟩ with power := { (domOn 32 ⟨.on, false, 0⟩).power with panels := Tab.empty.set 5 x } }
def pp : PanelPower := on.panelPower 5
theorem witness_panel_rails : (panelAt pp).panelOn 5 = true ∧ pp.below false = false ∧ pp.below true = false ∧ pp.brownout = false ∧
    ((panelAt { pp with belowCore := true }).panelPower 5).below false = true ∧ ((panelAt { pp with belowCore := true }).panelPower 5).srcBrown = false ∧
    ((panelAt { pp with belowCore := true }).panelPower 5).resetAt = none ∧ ((panelAt { pp with brownout := true }).panelPower 5).brownout = true ∧
    (((panelAt { pp with resets := [1, 2] }).panelPower 5).resets.filter fun t => decide ((panelAt pp).now < t + 60 * psS)).length = 2 ∧
    ((panelAt { pp with resetAt := some 5, aboveAt := some 9 }).panelPower 5).resetAt = some 5 ∧
    ((panelAt { pp with resetAt := some 5, aboveAt := some 9 }).panelPower 5).aboveAt = some 9 ∧ 9 + psMs ≤ 5 + 100 * psMs ∧ on.panelLost 5 = false ∧
    on.canWrite .sdo 0x2921 0 = true := by decide +kernel
/-- Both rails below; the third reset in 60 s of a panel out of the grid, and of one that is LOST; an SRAM rail at its levels. -/
def removed5 (m : PanelMode) : State := { panelAt { pp with resets := [1, 2] } with wafer := { wafer0 with panel := Tab.empty.set 5 { wafer0.panelOf 5 with mode := m } } }
theorem witness_panel_levels : (panelAt pp).railOn 5 false = true ∧ ((domOn 96 ⟨.on, false, 0⟩).railOn 5 true) = true ∧ ((panelAt { pp with belowCore := true, belowSram := true }).panelPower 5).belowSram = true ∧
    (removed5 .removed).panelLost 5 = false ∧ ((removed5 .removed).wafer.panelOf 5).mode ≠ .active ∧ (removed5 .lost).panelLost 5 = true ∧
    (704#16).toNat ≤ 704 ∧ 704 < (705#16).toNat ∧ (751#16).toNat < 752 := by decide +kernel
theorem witness_panel_in_grid : (panelAt pp).panelResets 5 := ⟨by decide +kernel, by decide +kernel, by decide +kernel⟩
theorem witness_panel_out_of_grid : ¬ (outOfGrid (domOn 28 ⟨.on, false, 0⟩)).panelResets 1 := fun h => absurd h.1 (by decide +kernel)

theorem witness_rails : (∀ d ∈ [(OtherRail.seamR 0, 155), (.seamC 0, 163), (.yoke, 0), (.hem 0 false, 1), (.hem 0 true, 1), (.host .hostA, 17), (.net 7, 26)],
      railDomain d.1 = d.2 ∧ ((domOn d.2 ⟨.on, false, 0⟩).domainOf (railDomain d.1)).st = .on) ∧
    ((panelAt pp).domainOf (coreDomain 5)).st ≠ .off ∧ ((panelAt pp).domainOf (coreDomain 5)).st ≠ .latchedOff ∧ on.canWrite .hostA 0x2922 64 = true ∧
    ((panelAt { pp with overcurrent := true, clears := 3 }).panelPower 5).clears = 3 ∧ ((panelAt { pp with overcurrent := true, ocInjected := true }).panelPower 5).ocInjected = true := by
  decide +kernel

/-- A seam rail that has fallen below warning, and to its reset level. -/
def railedAt (n : Nat) : State := powerOn { on.power with rails := on.power.rails.set (railKey (.seamR 0)) n }
theorem witness_rail_levels : ∀ n ∈ [0, 1, 2], (railedAt n).railAt (.seamR 0) = n := by decide
theorem witness_row : on.rowIsNext 1 7 := ⟨by decide, by decide +kernel, by decide, fun _ h g => absurd h (by omega)⟩
/-- Every row is throttled: the clocks of row 7 are next. -/
def throttled : State := powerOn { on.power with actions := (List.range 8).map fun r => ⟨1, r, on.activeIn r, 3⟩, lastAct := some 3 }
theorem witness_limit : throttled.power.lastAct = some 3 ∧ throttled.power.stage = 1 ∧ on.power.stage = 0 ∧ on.power.lastAct = none ∧
    (throttled.power.actions.head?.map fun a => a.stage) = some 1 ∧ 0 * 100 < 95 * 4650 ∧ ({ throttled with now := 3 + psMs } : State).now = 3 + psMs ∧
    (∀ n, n < 8 → ∃ a ∈ throttled.power.actions, a.stage = 1 ∧ a.row = n) := by decide +kernel
/-- At a boundary's instant, in SEARCH, between boundaries, and with the collar away. -/
theorem witness_limit_boundary : on.beat.lock = .search ∧ ({ locked with now := locked.beat.tickAt } : State).now = locked.beat.tickAt ∧ locked.beat.lock ≠ .search ∧
    ({ locked with now := locked.beat.tickAt + 1 } : State).now ≠ locked.beat.tickAt ∧ (upOn on { on.up with collar := false }).up.collar = false ∧
    (powerOn { on.power with warned := true }).power.warned = true ∧ on.power.warned = false := by decide
theorem witness_coolant : (∀ i, on.power.sensor i = 0) ∧ (powerOn (on.power.setSensor .flow 1)).power.sensor .flow ≠ 0 ∧ on.power.thermal = false ∧
    on.degrees 5 < signed 16 0x7FFF ∧ on.degrees 7 < signed 16 0x7FFF ∧ on.degrees 6 < signed 16 0x7FFF ∧ signed 16 0x8000 ≤ on.degrees 6 - 20 ∧
    on.setting 0x2930 8 < 0xFFFF ∧ (0 : Nat) < on.setting 0x2930 8 ∧ (powerOn { on.power with thermal := true }).power.thermal = true ∧
    (early.domainOf 0).st = .off ∧ signed 16 1150 ≤ 1150 ∧ 1150 < signed 16 1151 ∧ on.degrees 9 < 1150 ∧ signed 16 pp.temp ≤ 1150 ∧ (panelAt pp).panelOn 5 = true := by
  refine ⟨fun i => by cases i <;> decide, ?_⟩
  decide +kernel

/-! ### Witnesses: the starts, bring-up -/

theorem witness_cold_starts : (State.reset.domainOf 0).st = .off ∧ State.reset.up.inReset = true ∧ State.reset.up.cause = .supply ∧ State.reset.faultBuffer = [] ∧
    (upOn early { early.up with absentAt := some 5 }).up.absentAt.isSome = true ∧ ((upOn early { early.up with absentAt := some 5 }).domainOf 0).st = .off := by decide
theorem witness_warm_starts : (upOn on { on.up with absentAt := some 5 }).up.absentAt.isSome = true ∧ ((upOn on { on.up with absentAt := some 5 }).domainOf 0).st = .on ∧
    on.fw.health ≠ 1 ∧ (fwOn { on.fw with health := 1 }).fw.health = 1 ∧ (on.fw.slot on.fw.runB).failures < 2 := by decide
/-- Neither input powers the collar; the TCXO is lost while the collar starts warm. -/
theorem witness_unfed : let s : State := { State.reset with power := { State.reset.power with input := .absent, standbyMv := 4999, standbyOut := true } }
    (s.domainOf 0).st = .off ∧ s.power.input = .absent ∧ s.power.standbyOut = true ∧ s.power.standbyMv < 5000 := by decide
theorem witness_warm_lost : let s := upOn (powerOn { on.power with refLost := true }) { on.up with collar := false, step := 5, warm := true, absentAt := some 5 }
    s.up.inReset = false ∧ s.up.collar = false ∧ s.up.step = 5 ∧ s.up.warm = true ∧ s.power.refLost = true ∧ (s.domainOf 0).st ≠ .off := by decide
def starting (step : Nat) (warm : Bool) : State := upOn early { early.up with collar := false, step := step, warm := warm }
def sound : ImageChecks := ⟨true, true, true, true, 524288, 8388608⟩
theorem witness_collar_starts : (∀ n ∈ [2, 3, 5], ∀ w, (starting n w).up.inReset = false ∧ (starting n w).up.collar = false ∧ (starting n w).up.step = n ∧
      (starting n w).up.warm = w) ∧ fuses0.uncorrectable = false ∧ ({ fuses0 with uncorrectable := true } : FuseImage).uncorrectable = true ∧
    (starting 3 false).fw.order = [false] ∧ (starting 3 false).rollback ≤ ((starting 3 false).fw.slot false).security := by decide
theorem witness_two_slots : ({ (starting 3 false).fw with slotB := { slot0 with st := .pending } } : Firmware).order.length = 2 := by decide +kernel

def autoOn (v : Nat) : State := { early with power := { early.power with rangeAt := some 4 }, od := Tab.empty.set (odKey 0x2A01 1) v }
theorem witness_qualified : (autoOn 1).power.rangeAt = some 4 ∧ (autoOn 1).up.phase = .waiting ∧ (autoOn 1).setting 0x2A01 1 = 1 ∧ (autoOn 0).setting 0x2A01 1 ≠ 1 ∧
    (autoOn 1).up.collar = true ∧ (autoOn 1).power.input = .inRange ∧ (autoOn 1).power.needRequest = false ∧ (autoOn 1).power.internalOsc = false ∧
    ((autoOn 1).domainOf 0).st = .off := by decide +kernel
def yoking (step : Nat) (st : DomSt) (only : Bool) : State := { domOn 0 ⟨st, true, 0⟩ with
  up := { on.up with phase := .yokeStart, step := step, yoke := false, yokeOnly := only, built := false } }
theorem witness_yoke_starts : (yoking 7 .ramping false).up.step = 7 ∧ ((yoking 7 .ramping false).domainOf 0).st = .ramping ∧
    (∀ n ∈ [8, 9], (yoking n .on false).up.step = n ∧ (yoking n .on false).up.collar = true ∧ (yoking n .on false).up.phase = .yokeStart ∧
      ((yoking n .on false).domainOf 0).st = .on) ∧ (yoking 9 .on false).up.yokeOnly = false ∧ (yoking 9 .on true).up.yokeOnly = true ∧
    (yoking 9 .on true).domainsIdle = false ∧ (yoking 8 .on false).fw.health ≠ 1 := by decide +kernel
theorem witness_retry : let s := upOn early { early.up with phase := .yokeStart, retryAt := some 9 }
    s.up.retryAt = some 9 ∧ s.up.collar = true ∧ (s.domainOf 0).st = .off ∧ s.up.phase = .yokeStart ∧ s.power.input = .inRange ∧ s.power.internalOsc = false := by decide
/-- Steps past their limits, with fast and slow SPI NOR; the units of steps 10, 11c and 11d. -/
theorem witness_late_steps : (let s : State := { yoking 8 .on false with now := (yoking 8 .on false).up.stepAt + 170 * psMs + 1 }
      s.up.slowSpi = false ∧ s.up.stepAt + 170 * psMs < s.now) ∧ (upOn on { on.up with slowSpi := true }).up.slowSpi = true ∧
    (upOn early { early.up with collar := false, step := 1, absentAt := some 7 }).up.absentAt = some 7 ∧ (starting 3 false).up.slowSpi = false ∧ (starting 3 false).up.late = [] ∧
    (upOn (domOn 5 ⟨.ramping, true, 0⟩) { on.up with step := 11 }).domainsRun = true ∧
    ((domOn 17 ⟨.on, false, 0⟩).domainOf (17 + 0)).st = .on ∧ ({ on with hostA := hostFn0 } : State).hostA.up = false := by decide +kernel
def segUp (st n : Nat) : State := upOn on { on.up with segs := Tab.empty.set 0 ⟨st, n, 0, 5⟩ }
theorem witness_segments_up : (∀ n ∈ [0, 2], ((segUp 1 n).segOfUp 0).st = 1 ∧ ((segUp 1 n).segOfUp 0).attempts = n) ∧ ((segUp 2 1).segOfUp 0).st = 2 ∧
    (segUp 2 1).up.yoke = true ∧ ((segUp 2 1).domainOf (1 + 0)).st = .on := by decide
/-- Panel 5 tests before the grid is built. -/
def testing : State := upOn (panelAt pp) { on.up with phase := .testAndScrub, step := 11, built := false }
theorem witness_panel_tests : testing.panelTests 5 = true ∧ testing.wafer.skipOf 5 3 = 11 ∧ testing.wafer.spent.get false 63 = false ∧
    ({ testing with wafer := { wafer0 with skip := Tab.empty.set 63 4 } } : State).panelTests 5 = true ∧
    ({ testing with wafer := { wafer0 with skip := Tab.empty.set 63 4 } } : State).wafer.skipOf 5 3 = 4 := by decide +kernel
theorem witness_step10 : let s := upOn on { on.up with phase := .domains, step := 10, built := false }
    s.up.yoke = true ∧ s.up.collar = true ∧ s.up.phase = .domains ∧ s.up.step = 10 ∧ (s.domainOf 40).st = .off ∧ (s.panelPower (domainPanel 40)).overcurrent = false := by
  decide +kernel
/-- Results at and past the limits of steps 11a and 11b; the first segment in service, and a later one. -/
theorem witness_limits : ({ segUp 1 0 with now := 5 + 50 * psMs } : State).now ≤ ((segUp 1 0).segOfUp 0).since + 50 * psMs ∧
    ((segUp 1 0).segOfUp 0).since + 50 * psMs < ({ segUp 1 0 with now := 6 + 50 * psMs } : State).now ∧ testing.now ≤ testing.up.panelAt.get 0 5 + 10 * psMs ∧
    testing.up.panelAt.get 0 5 + 10 * psMs < ({ testing with now := 1 + 10 * psMs } : State).now ∧ ({ segUp 2 1 with dram := .empty } : State).dram = .empty ∧
    on.dram.get false 0 = true := by decide +kernel
/-- Every panel has ended step 11b, panel 9 LOST or none. -/
def ended (bad : Bool) : State := upOn on { on.up with built := false, ended := ⟨(List.range 64).map fun p => (p, true)⟩, panels := if bad then Tab.empty.set 9 (2 ^ 18) else .empty }
theorem witness_build : (ended true).up.yoke = true ∧ (ended true).up.built = false ∧ (∀ p, p < 64 → (ended true).up.ended.get false p = true) ∧
    2 ^ 16 ≤ (ended true).panelUp 9 ∧ (∀ p, p < 64 → ¬ 2 ^ 16 ≤ (ended false).panelUp p) ∧ bit ((ended true).wafer.laneFail.get 0 2) 5 = false ∧
    seamPanels 1 = some (0, 1) := by decide +kernel

/-! ### Witnesses: failures, service actions, updates -/

def fencing (u : FailUnit) : State := { locked with suspects := [⟨u, 408, 0x0101⟩] }
def tileOut5 : PhysTile := ⟨5, 3, 4⟩
theorem witness_tile_fences : let s := fencing (.tile (tileKey tileOut5))
    s.fenceDue (.tile (tileKey tileOut5)) = true ∧ on.fenceDue (.tile 3) = false ∧ (s.wafer.panelOf 5).mode = .active ∧ s.wafer.skipOf 5 3 = 11 ∧
    s.losesPanel (tileKey tileOut5) = false ∧ ({ s with wafer := { wafer0 with spent := Tab.empty.set 63 true } } : State).losesPanel (tileKey tileOut5) = true ∧
    (fencing (.tile (tileKey ⟨5, 3, 11⟩))).fenceDue (.tile (tileKey ⟨5, 3, 11⟩)) = true ∧ s.panelLost 5 = false ∧
    ({ fencing (.tile 150) with wafer := { wafer0 with panel := Tab.empty.set 1 { wafer0.panelOf 1 with mode := .removed } } } : State).fenceDue (.tile 150) = true := by
  decide +kernel
/-- Row 0 of panel 0 moves from column 1; job 3's TSTART holds a place on the replacement, column 2. -/
def moving (r : Option (Nat × Nat)) : State := { handing { on with wafer := { wafer0 with skip := Tab.empty.set 0 1 } } (rawOf 0x10 0 []) with
  moves := Tab.empty.set 0 ⟨1, 77⟩, tiles := Tab.empty.set 2 { tile0 with paused := true, restart := r } }
theorem witness_moves : (moving none).moves.find (0 * 12 + 0) = some ⟨1, 77⟩ ∧ on.jobAt 2 = none ∧ (moving (some (0, 0))).jobAt 2 = some 3 ∧
    ((moving (some (0, 0))).tileOf 2).restart = some (0, 0) ∧ ((moving (some (0, 0))).entryOf 0 0).isSome = true := by decide +kernel
theorem witness_panel_fences : (fencing (.panel 5 8)).fenceDue (.panel 5 8) = true ∧ (fencing (.panelReset 5)).fenceDue (.panelReset 5) = true ∧
    on.fenceDue (.panelReset 5) = false ∧ (let s : State := { on with
        wafer := { wafer0 with panel := Tab.empty.set 5 { wafer0.panelOf 5 with resetting := true } }
        power := (panelAt { pp with released := true }).power };
      (s.wafer.panelOf 5).resetting = true ∧ (s.panelPower 5).released = true ∧ s.openJobs = [] ∧ (s.tileOf 724).fenced = false) := by decide +kernel
theorem witness_leases : let s := { locked with leases := Tab.empty.set (ownerKey 2 3) 5 }
    s.leases.find (ownerKey 2 3) = some 5 ∧ 5 ≤ s.lineNow ∧ ¬ 5 ≤ on.lineNow := by decide +kernel
theorem witness_owner_fences : (∀ k ∈ [1, 2, 4, 5], (fencing (ownerUnit k 0)).fenceDue (ownerUnit k 0) = true) ∧ on.fenceDue (ownerUnit 2 3) = false ∧
    ((withJob (fencing (.owner 2 3))).jobOf 3).st ≠ .free ∧ ((fencing (.owner 2 3)).jobOf 3).st = .free ∧ (withJob on).usesSeg 3 ((withJob on).jobOf 3) 0 = true ∧
    ((withJob on).jobOf 3).elastic = false := by decide +kernel
theorem witness_drains : let s := { on with dma := Tab.empty.set 33 ⟨some (2, 3), none, some 8, false⟩ }
    s.dma.find (1 * 32 + 1) = some ⟨some (2, 3), none, some 8, false⟩ := by decide
theorem witness_failures : on.canWrite .sdo 0x2B31 0 = true ∧ (withJob on).canWrite .sdo 0x2B31 0 = true ∧ on.up.yoke = true ∧ on.up.collar = true ∧
    on.fw.health ≠ 1 ∧ (fwOn { on.fw with health := 1 }).up.yoke = true ∧ (upOn on { on.up with absentAt := some 4 }).up.absentAt = some 4 ∧ (on.domainOf 0).st = .on ∧
    ((upOn early { early.up with absentAt := some 4 }).domainOf 0).st ≠ .on := by decide +kernel

theorem witness_service : on.canWrite .sdo 0x2B30 1 = true ∧ on.liveJobs = [] ∧ (withJob on).liveJobs ≠ [] ∧ (withJob on).canWrite .sdo 0x2B30 1 = true ∧
    locked.beat.lock ≠ .search ∧ on.beat.lock = .search ∧ locked.liveJobs = [] ∧ on.canWrite .sdo 0x2B50 4 = true ∧ on.canWrite .hostA 0x2B12 0 = true ∧
    on.canWrite .sdo 0x2B20 6 = true := by decide +kernel
/-- A restore with nothing to switch on, one that a LOST panel waits on, and one whose panels ramp. -/
def restoring (begun : Bool) (st : DomSt) : State := { locked with
  wafer := { wafer0 with panel := Tab.empty.set 5 { wafer0.panelOf 5 with mode := .lost } }
  power := { locked.power with domains := ⟨[(0, ⟨.on, false, 0⟩), (96, ⟨st, true, 0⟩), (155, ⟨.on, false, 0⟩), (168, ⟨.on, false, 0⟩)]⟩ }
  up := { locked.up with restore := some ([], begun) }
  beat := { locked.beat with decided := true } }
theorem witness_restore_phases : on.wafer.laneKept = .empty ∧ (restoring true .off).up.restore = some ([], true) ∧ (restoring true .off).beat.held = 0 ∧
    (restoring true .off).wafer.laneForce = (restoring true .off).wafer.laneFail ∧ (restoring true .ramping).restoreBusy [] = true ∧
    (restoring true .latchedOff).restoreBusy [] = false ∧ locked.restorable [] = [] ∧
    (let s : State := { restoring false .off with beat := on.beat };
      s.beat.lock = .search ∧ (s.wafer.panelOf 5).mode ≠ .active ∧ s.restoreStays [] 5 = false ∧ (s.domainOf (memDomain 5)).st = .off ∧
        s.needsMet (memDomain 5) = true ∧ s.power.input = .inRange ∧ s.liveJobs = [] ∧ s.canWrite .sdo 0x2B30 1 = true) := by
  decide +kernel
/-- A panel whose latch has been cleared three times asks for replacement. -/
theorem witness_replacement : (panelAt { pp with overcurrent := true, clears := 3 }).replaceCauses ≠ 0 ∧ testing.replaceCauses = 0 := by decide +kernel
def injecting (d n act count : Nat) : State := { locked with
  injection := ⟨true, 0, none, false⟩, od := (((Tab.empty.set (odKey 0x2B20 1) d).set (odKey 0x2B20 2) n).set (odKey 0x2B20 3) act).set (odKey 0x2B20 4) count }
theorem witness_arming : (injecting 0 0 0 1).canWrite .sdo 0x2B20 6 = true ∧ detectorDefined 0 = false ∧ detectorDefined 0x0401 = true ∧
    ((injecting 0x0401 1 0 1).injTarget 0x0401 1) = (true, true) ∧ ((injecting 0x0401 0 0 1).injTarget 0x0401 0).1 = false ∧ locked.injection.armed = false ∧
    ({ locked with od := Tab.empty.set (odKey 0x2B21 0) 1 } : State).cell 0x2B21 0 ≠ 0 ∧ locked.cell 0x2B21 0 = 0 := by decide +kernel
theorem witness_injection_due : (injecting 0x0A05 5 1 1).injectionDue := ⟨by decide, by decide, by decide, .inl (by decide +kernel)⟩
theorem witness_injection_not_due : ¬ locked.injectionDue := fun h => absurd h.1 (by decide)
theorem witness_injection_kinds : (injecting 0x0401 1 0 1).cell 0x2B20 3 ≠ 1 ∧ (injecting 0x0401 1 0 1).logRepeat 0x0401 1 0 = none ∧
    (injecting 0x0101 0 1 1).unitTile 0 = some 0 ∧ (injecting 0x0101 0 1 1).cell 0x2B20 1 = 0x0101 ∧ (injecting 0x0C01 0 1 1).up.yoke = true ∧
    (injecting 0x0C01 0 1 1).can.sdoHeld = none ∧ (injecting 0x0C01 0 1 1).fw.health ≠ 1 := by decide +kernel

def updating (u : UpdateSt) (q : Option Path) : State := { on with fw := { on.fw with upd := u, imagePath := q }, od := Tab.empty.set (odKey 0x2C21 2) 8 }
theorem witness_updates : on.canWrite .sdo 0x2C21 1 = true ∧ (on.fw.slot on.fw.runB).st = .committed ∧ on.fw.upd = .idle ∧ on.fw.beginWait = none ∧
    on.fw.commit = none ∧ on.fw.store = none ∧ on.fw.imagePath = none ∧ (fwOn { on.fw with store := some (storing 0) }).fw.store.isSome = true ∧
    (fwOn { on.fw with beginWait := some .sdo }).fw.beginWait = some .sdo ∧ (fwOn { on.fw with beginWait := some .sdo }).fw.upd = .idle ∧
    (∀ u ∈ [UpdateSt.erasing, .ready, .writing, .verifying, .done], (updating u (some .sdo)).fw.upd = u ∧ (updating u (some .sdo)).can.sdoHeld = none ∧
      (updating u (some .sdo)).fw.imagePath = some .sdo ∧ (updating u none).fw.imagePath = none ∧ (updating u none).cell 0x2C21 2 = 8 ∧
      (updating u none).canWrite .sdo 0x2C21 1 = true) ∧
    (early.domainOf 0).st = .off ∧ (early.canWrite .sdo 0x2C21 1 = true) := by decide +kernel
theorem witness_manifests : on.rollback ≤ (0 : BitVec 8).toNat ∧
    (0 : BitVec 8).toNat < ({ on with fuses := { fuses0 with rollback := 1 } } : State).rollback := by decide +kernel
theorem witness_commit : on.canWrite .sdo 0x2C10 0 = true ∧ (on.fw.slot on.fw.runB).st = .committed ∧ (fwOn { on.fw with slotA := slot0 }).canWrite .sdo 0x2C10 0 = true ∧
    (on.fw.current on.schema) = none ∧ ((fwOn { on.fw with records := [⟨1, 0, 1, true, []⟩] }).fw.current on.schema).isSome = true ∧
    (fwOn { on.fw with healthFrom := some 3 }).fw.healthFrom = some 3 ∧ (fwOn { on.fw with health := 1, healthFrom := some 3 }).up.phase = .done ∧ on.fw.health ≠ 1 := by
  decide +kernel
/-- 14_faults, the worked example of a remap: panel 11, row 5, column 7. -/
theorem test_remap_word : 11 + 5 * 64 + 7 * 1024 + moveCycles 7 * 65536 = 0x2C001D4B := by decide
/-- Its fault log record: detector 0x0101, unit 0x1128 (LX 40, LY 17), action 3, one occurrence. -/
theorem test_fault_record : (⟨0, 0x0101, 0x1128, 3, false, 0, 1, 0⟩ : LogEntry).record = 0x0001000311280101 ∧ tileLx 0x1128 = 40 ∧ tileLy 0x1128 = 17 := by decide

end Sys2Proof.Tests
end

section
/-! Proofs about beat stamps (R11 to R13): the fields of a stamp, and the order of stamps. -/

namespace Sys2Proof.Machine

/-- A field of `hi + 1 - lo` bits stays below that power of two. -/
theorem bits_lt (v hi lo : Nat) : bits v hi lo < 2 ^ (hi + 1 - lo) :=
  Nat.mod_lt _ (Nat.two_pow_pos _)

/-- The low half of a stamp is its line, then its tick. -/
theorem bits_stamp_low (v : Nat) : bits v 31 0 = bits v 15 0 + 2 ^ 16 * bits v 31 16 := by
  simp only [bits, pow_zero, Nat.div_one]
  exact Nat.mod_mul (a := 2 ^ 16) (b := 2 ^ 16)

/-- Comparing the low halves compares the lines and, on one line, the ticks: R13's order of (line, tick). -/
theorem bits_stamp_low_lt_iff (a b : Nat) : bits b 31 0 < bits a 31 0 ↔
    bits b 31 16 < bits a 31 16 ∨ (bits a 31 16 = bits b 31 16 ∧ bits b 15 0 < bits a 15 0) := by
  have hta : bits a 15 0 < 65536 := bits_lt a 15 0
  have htb : bits b 15 0 < 65536 := bits_lt b 15 0
  rw [bits_stamp_low a, bits_stamp_low b]
  omega

/-- The frame difference modulo 2^32 is 0 exactly for equal frames, across the wrap of the frame number too. -/
theorem frame_distance_eq_zero_iff (a b : Nat) :
    (bits a 63 32 + 2 ^ 32 - bits b 63 32) % 2 ^ 32 = 0 ↔ bits a 63 32 = bits b 63 32 := by
  have hfa : bits a 63 32 < 4294967296 := bits_lt a 63 32
  have hfb : bits b 63 32 < 4294967296 := bits_lt b 63 32
  omega

/-- Within a frame, the low halves order stamps. -/
theorem stampLater_of_frame_eq {a b : Nat} (h : bits a 63 32 = bits b 63 32) :
    stampLater a b = true ↔ bits b 31 0 < bits a 31 0 := by
  simp only [stampLater, if_pos ((frame_distance_eq_zero_iff a b).2 h), decide_eq_true_iff, gt_iff_lt]

/-- Between frames, the frame difference alone orders stamps; a difference of 2^31 or more is not later. -/
theorem stampLater_of_frame_ne {a b : Nat} (h : bits a 63 32 ≠ bits b 63 32) :
    stampLater a b = true ↔ (bits a 63 32 + 2 ^ 32 - bits b 63 32) % 2 ^ 32 ≤ 2 ^ 31 - 1 := by
  simp only [stampLater, if_neg (mt (frame_distance_eq_zero_iff a b).1 h), decide_eq_true_iff]

end Sys2Proof.Machine

namespace Sys2Proof.Proofs

open Sys2Proof.Machine

/-- Settles O10: equal frames leave the order to (line, tick), and unequal frames to the frame difference, which is then not 0. -/
theorem stampOrder : Obligations.StampOrder := by
  intro a b
  by_cases hframe : bits a 63 32 = bits b 63 32
  · have hdist := (frame_distance_eq_zero_iff a b).2 hframe
    rw [stampLater_of_frame_eq hframe, bits_stamp_low_lt_iff, hdist]
    simp [hframe]
  · have hdist := mt (frame_distance_eq_zero_iff a b).1 hframe
    rw [stampLater_of_frame_ne hframe]
    simp only [hframe, hdist, false_and, or_false, Nat.one_le_iff_ne_zero, ne_eq, not_false_eq_true, true_and]

end Sys2Proof.Proofs
end

section
/-! Proofs about the translation of tiles (R34, R36): a key by its panel, row and column, and the two ways of the translation. -/

namespace Sys2Proof.Machine

/-! ### The parts of a physical tile's key -/

theorem keyPanel_mk (p : Nat) {r c : Nat} (hr : r < 12) (hc : c < 12) : keyPanel (p * 144 + r * 12 + c) = p := by
  unfold keyPanel; omega

theorem keyRow_mk (p : Nat) {r c : Nat} (hr : r < 12) (hc : c < 12) : keyRow (p * 144 + r * 12 + c) = r := by
  unfold keyRow; omega

theorem keyCol_mk (p r : Nat) {c : Nat} (hc : c < 12) : keyCol (p * 144 + r * 12 + c) = c := by
  unfold keyCol; omega

theorem keyCol_lt (k : Nat) : keyCol k < 12 := Nat.mod_lt _ (by decide)

theorem panelX_mk (y : Nat) {x : Nat} (hx : x < 8) : panelX (y * 8 + x) = x := by
  unfold panelX; omega

theorem panelY_mk (y : Nat) {x : Nat} (hx : x < 8) : panelY (y * 8 + x) = y := by
  unfold panelY; omega

/-! ### The columns of one row around its skipped column `s` (R34) -/

/-- The eleven logical columns and the skipped one fill the row's twelve positions. -/
theorem physicalCol_lt {s lc : Nat} (h : lc < 11) : (if lc < s then lc else lc + 1) < 12 := by
  split <;> omega

theorem physicalCol_ne_skip {s lc c : Nat} (hc : c = if lc < s then lc else lc + 1) : c ≠ s := by
  by_cases h : lc < s
  · rw [if_pos h] at hc; omega
  · rw [if_neg h] at hc; omega

/-- A logical column's position lies on its own side of the skipped column, so R34's second formula undoes the first. -/
theorem logicalCol_of_physicalCol {s lc c : Nat} (hc : c = if lc < s then lc else lc + 1) :
    lc = if c < s then c else c - 1 := by
  by_cases h : lc < s
  · rw [if_pos h] at hc
    rw [hc, if_pos h]
  · rw [if_neg h] at hc
    rw [hc, if_neg (by omega), Nat.add_sub_cancel]

/-! ### The active panel columns and rows (R36) -/

theorem Wafer.cols_nodup (w : Wafer) : w.cols.Nodup := List.nodup_range.filter _

theorem Wafer.rows_nodup (w : Wafer) : w.rows.Nodup := List.nodup_range.filter _

theorem Wafer.lt_of_mem_cols {w : Wafer} {x : Nat} (h : x ∈ w.cols) : x < 8 :=
  List.mem_range.1 (List.mem_filter.1 h).1

/-- In a list without repeats, looking a position's entry up gives the position back. -/
theorem indexIn_of_getElem? {l : List Nat} (hl : l.Nodup) {i x : Nat} (h : l[i]? = some x) : indexIn x l = some i := by
  induction l generalizing i with
  | nil => simp at h
  | cons y l ih =>
    obtain ⟨hy, hl⟩ := List.nodup_cons.1 hl
    cases i with
    | zero =>
      have hyx : y = x := by simpa using h
      simp [indexIn, hyx]
    | succ i =>
      have hx : l[i]? = some x := by simpa using h
      have hne : y ≠ x := fun hyx => hy (hyx ▸ List.mem_of_getElem? hx)
      simp [indexIn, hne, ih hl hx]

/-! ### The two ways of the translation -/

/-- What a physical position of a logical tile is, by the parts of its key (R34, R36). -/
theorem Wafer.physAny_eq_some {w : Wafer} {lx ly k : Nat} (h : w.physAny lx ly = some k) :
    w.cols[lx / 11]? = some (panelX (keyPanel k)) ∧ w.rows[ly / 12]? = some (panelY (keyPanel k)) ∧ w.inGrid (keyPanel k) = true ∧
      keyRow k = ly % 12 ∧
      keyCol k = if lx % 11 < w.skipOf (keyPanel k) (keyRow k) then lx % 11 else lx % 11 + 1 := by
  unfold Wafer.physAny at h
  split at h
  next x y hx hy =>
    have hx8 : x < 8 := Wafer.lt_of_mem_cols (List.mem_of_getElem? hx)
    have hr : ly % 12 < 12 := Nat.mod_lt _ (by decide)
    have hc := physicalCol_lt (s := w.skipOf (y * 8 + x) (ly % 12)) (Nat.mod_lt lx (by decide : 0 < 11))
    obtain ⟨hgrid, hk⟩ := Option.ite_none_right_eq_some.1 h
    obtain rfl := Option.some.inj hk
    rw [keyPanel_mk _ hr hc, keyRow_mk _ hr hc, keyCol_mk _ _ hc, panelX_mk y hx8, panelY_mk y hx8]
    exact ⟨hx, hy, hgrid, rfl, rfl⟩
  next => cases h

/-- A tile that a command may name has a physical position, in a panel that is not absent (R37). -/
theorem Wafer.phys_eq_some {w : Wafer} {lx ly k : Nat} (h : w.phys lx ly = some k) :
    w.physAny lx ly = some k ∧ w.absent (keyPanel k) = false := by
  unfold Wafer.phys at h
  split at h
  next k' hk =>
    obtain ⟨habsent, hkk⟩ := Option.ite_none_left_eq_some.1 h
    obtain rfl := Option.some.inj hkk
    exact ⟨hk, Bool.eq_false_iff.2 habsent⟩
  next => cases h

/-- A position beside the skipped one, in a present panel at place (i, j) of the active panels, has logical coordinates. -/
theorem Wafer.logical_of_place {w : Wafer} {k i j : Nat} (hgrid : w.inGrid (keyPanel k) = true)
    (hpresent : w.absent (keyPanel k) = false) (hcol : keyCol k ≠ w.skipOf (keyPanel k) (keyRow k))
    (hi : w.cols[i]? = some (panelX (keyPanel k))) (hj : w.rows[j]? = some (panelY (keyPanel k))) :
    w.logical k = some (i * 11 + (if keyCol k < w.skipOf (keyPanel k) (keyRow k) then keyCol k else keyCol k - 1),
      j * 12 + keyRow k) := by
  simp only [Wafer.logical, hgrid, hpresent, hcol, Bool.true_eq_false, Bool.false_eq_true, or_self, if_false,
    indexIn_of_getElem? w.cols_nodup hi, indexIn_of_getElem? w.rows_nodup hj]

theorem Wafer.logical_of_col_eq_skip {w : Wafer} {k : Nat} (h : keyCol k = w.skipOf (keyPanel k) (keyRow k)) :
    w.logical k = none :=
  if_pos (.inr (.inr h))

/-- A nameable tile's physical position translates back to it. -/
theorem Wafer.logical_of_phys {w : Wafer} {lx ly k : Nat} (h : w.phys lx ly = some k) : w.logical k = some (lx, ly) := by
  obtain ⟨hany, hpresent⟩ := Wafer.phys_eq_some h
  obtain ⟨hx, hy, hgrid, hrow, hcol⟩ := Wafer.physAny_eq_some hany
  rw [Wafer.logical_of_place hgrid hpresent (physicalCol_ne_skip hcol) hx hy, ← logicalCol_of_physicalCol hcol, hrow,
    Nat.div_add_mod', Nat.div_add_mod']

end Sys2Proof.Machine

namespace Sys2Proof.Proofs

open Sys2Proof.Machine

/-- Settles O6: the key's parts give R34's formula, which its inverse undoes; the skipped column is refused by definition. -/
theorem translationInverse : Obligations.TranslationInverse := by
  refine ⟨fun w lx ly k _ h => ?_, fun _ _ => Wafer.logical_of_col_eq_skip⟩
  obtain ⟨hany, -⟩ := Wafer.phys_eq_some h
  obtain ⟨-, -, -, hrow, hcol⟩ := Wafer.physAny_eq_some hany
  exact ⟨hcol, hrow, keyCol_lt k, physicalCol_ne_skip hcol, logicalCol_of_physicalCol hcol, Wafer.logical_of_phys h⟩

end Sys2Proof.Proofs
end

section
/-! Proofs about the geometry of the raster (R57). -/

namespace Sys2Proof.Proofs

open Sys2Proof.Machine

/-- Settles O9: the test makes R57's five comparisons one after the other; R57 groups them into its three conditions. -/
theorem validGeometry : Obligations.ValidGeometry := by
  intro lines rate
  simp only [geometryOk, Bool.and_eq_true, decide_eq_true_iff, and_assoc]

end Sys2Proof.Proofs
end

section
/-! Proofs about steps: a step keeps the invariant, because the command it runs keeps it and the queue is no part of it. -/

namespace Sys2Proof.Machine

theorem State.Inv.withPending {s : State} (h : s.Inv) (rest : List Instr) : State.Inv { s with pending := rest } :=
  ⟨h.tier1, h.mode, h.node, h.log, h.buffer, h.history, h.tables⟩

theorem State.Inv.idle {s : State} (h : s.Inv) : State.Inv { s with now := s.now + 1 } :=
  ⟨h.tier1, h.mode, h.node, h.log, h.buffer, h.history, h.tables⟩

theorem exec_keeps_inv {c : Instr} {s t : State} (hs : s.Inv) (h : exec c s = .next t) : t.Inv := by
  obtain ⟨_, ⟨u, hu, hstep⟩, -⟩ := exec_step c s
  obtain rfl : u = t := by rw [hu] at h; injection h
  exact hstep.2 hs

end Sys2Proof.Machine

namespace Sys2Proof.Proofs

open Sys2Proof.Machine

/-- Settles O4: an idle step moves the clock only, and any other step runs a command, each of which keeps the invariant. -/
theorem stepKeepsInvariant : Obligations.StepKeepsInvariant := by
  intro s t hs h
  unfold step at h
  split at h
  next =>
    obtain rfl : { s with now := s.now + 1 } = t := by injection h
    exact hs.idle
  next c rest _ => exact exec_keeps_inv (hs.withPending rest) h

end Sys2Proof.Proofs
end

section
/-! Proofs about queries by number: what each takes into its object's sub-indices, and what aborts it. -/

namespace Sys2Proof.Machine

/-- What an abort writes: the code and the object, and no other cell (R348). -/
theorem State.aborted_cells (s : State) (p : Path) (i j code : Nat) :
    (s.aborted p i j code).cell 0x1FE1 4 = code ∧ (s.aborted p i j code).cell 0x1FE1 5 = i + j * 65536 + pathNum p * 2 ^ 24 ∧
      s.otherCells [(0x1FE1, 4), (0x1FE1, 5)] (s.aborted p i j code) := by
  refine ⟨?_, by simp [State.aborted], ?_⟩
  · simp only [State.aborted]
    rw [State.cell_putCell_other _ _ (by decide) (by decide) (by decide), State.cell_putCell_same]
  · intro a b hb hn
    simp only [List.mem_cons, Prod.mk.injEq, List.not_mem_nil, or_false, not_or] at hn
    simp only [State.aborted]
    rw [State.cell_putCell_other _ _ hb (by decide) hn.2, State.cell_putCell_other _ _ hb (by decide) hn.1]

/-- A dictionary write that a later check refuses is refused with that check's code. -/
theorem State.refusesWrite_of {c : Instr} {s : State} {p : Path} {i j F code : Nat} {eff : Effect}
    (hx : exec c s = s.odWrite p i j eff) (hw : s.canWrite p i j = true) (he : eff s = .error code)
    (k : StepO F s (exec c s)) (m : maskIn F [.od] = true) : s.refusesWrite c p i j code :=
  completes_of (hx.trans (State.odWrite_error hw he)) k m (s.aborted_cells p i j code)

/-- A query that takes a list of values, by its effect. -/
theorem State.takes_query {c : Instr} {s : State} {p : Path} {i j : Nat} {eff : Effect} {l : List (Nat × Nat)}
    (hx : exec c s = s.odWrite p i j eff) (k : StepO 4194304 s (exec c s)) (hw : s.canWrite p i j = true)
    (he : eff s = .ok (s.putCells i l)) (hl : (l.map Prod.fst).Pairwise (· < ·)) (h0 : ∀ e ∈ l, e.1 < 256) : s.takes c i l :=
  State.takes_of hx hw he h0 hl k (by decide)

/-! ### Tiles by logical coordinates (R48, R117, R144, R248) -/

theorem Wafer.translation_eq (w : Wafer) (lx ly : Nat) : w.translation lx ly = match w.phys lx ly with
    | some k => keyPanel k % 8 + keyPanel k / 8 * 8 + keyCol k * 2 ^ 6 + keyRow k * 2 ^ 10 + 2 ^ 31
    | none => 0 := by
  unfold Wafer.translation
  cases w.phys lx ly <;> rfl

theorem State.contextWord_eq (s : State) (lx ly slot : Nat) : s.contextWord lx ly slot = match s.wafer.phys lx ly with
    | some k => ((s.tileOf k).ctxs.find slot).elim 0 fun c =>
        c.s + c.count * 2 ^ 16 + c.high * 2 ^ 32 + (s.tileOf k).evq.length * 2 ^ 48 + 2 ^ 63
    | none => 0 := by
  unfold State.contextWord
  split
  next h => simp only [h]
  next k h =>
    simp only [h]
    split <;> simp only [*, Option.elim]

theorem takes_translationQuery {s : State} {p : Path} {v : W32} (hw : s.canWrite p 0x2003 1 = true) (h : v.toNat < 2 ^ 15)
    (h7 : bit v.toNat 7 = false) : s.takes (.translationQuery p v) 0x2003
      [(1, v.toNat), (2, s.wafer.translation (tileLx v.toNat) (tileLy v.toNat))] :=
  State.takes_query (eff := fxTranslationQuery v) rfl (exec_translationQuery s) hw
    (if_neg (not_or.2 ⟨not_not.2 (Nat.mod_eq_of_lt h), by simp [h7]⟩)) (by simp) (by simp)

theorem refuses_translationQuery {s : State} {p : Path} {v : W32} (hw : s.canWrite p 0x2003 1 = true)
    (h : 2 ^ 15 ≤ v.toNat ∨ bit v.toNat 7 = true) : s.refusesWrite (.translationQuery p v) p 0x2003 1 0x06090030 := by
  refine State.refusesWrite_of (eff := fxTranslationQuery v) rfl hw (if_pos (h.imp_left fun h15 e => ?_)) (exec_translationQuery s) (by decide)
  have := Nat.mod_lt v.toNat (Nat.two_pow_pos 15)
  omega

theorem takes_tileQuery {s : State} {p : Path} {v : W16} (hw : s.canWrite p 0x2220 1 = true) (h7 : bit v.toNat 7 = false)
    (h15 : bit v.toNat 15 = false) :
    s.takes (.tileQuery p v) 0x2220 ((1, v.toNat) :: match s.wafer.phys (tileLx v.toNat) (tileLy v.toNat) with
      | some k => [(2, s.tileState k + (s.tileOf k).queue.length * 4 + (s.tileOf k).reg 0x14 * 256 + 2 ^ 31),
          (3, (s.tileOf k).reg 0x50 + (s.tileOf k).reg 0x54 * 2 ^ 32)]
      | none => [(2, 0), (3, 0)]) := by
  cases hk : s.wafer.phys (tileLx v.toNat) (tileLy v.toNat) <;>
    exact State.takes_query (eff := fxTileQuery v) rfl (exec_tileQuery s) hw (by simp [fxTileQuery, h7, h15, hk]) (by simp) (by simp)

theorem takes_storeQuery {s : State} {p : Path} {v : W16} (hw : s.canWrite p 0x2310 1 = true) (h7 : bit v.toNat 7 = false)
    (h15 : bit v.toNat 15 = false) :
    s.takes (.storeQuery p v) 0x2310 ((1, v.toNat) :: match s.wafer.phys (tileLx v.toNat) (tileLy v.toNat) with
      | some k =>
        let t := s.tileOf k
        [(2, t.wBase + t.wLimit * 2 ^ 16 + t.aBase * 2 ^ 32 + t.aLimit * 2 ^ 48),
          (3, t.pBase + t.pLimit * 2 ^ 16 + t.policy * 2 ^ 32 + 2 ^ 63), (4, t.pdW + t.pdA * 2 ^ 16 + t.pdP * 2 ^ 32),
          (5, t.viol + t.viol2 * 2 ^ 32)]
      | none => [(2, 0), (3, 0), (4, 0), (5, 0)]) := by
  cases hk : s.wafer.phys (tileLx v.toNat) (tileLy v.toNat) <;>
    exact State.takes_query (eff := fxStoreQuery v) rfl (exec_storeQuery s) hw (by simp [fxStoreQuery, h7, h15, hk]) (by simp) (by simp)

theorem takes_contextQuery {s : State} {p : Path} {v : W32} (hw : s.canWrite p 0x2621 1 = true) (h7 : bit v.toNat 7 = false)
    (h15 : bits v.toNat 15 15 = 0) (h28 : bits v.toNat 31 28 = 0) : s.takes (.contextQuery p v) 0x2621
      [(1, v.toNat), (2, s.contextWord (tileLx v.toNat) (tileLy v.toNat) (bits v.toNat 27 16))] :=
  State.takes_query (eff := fxContextQuery v) rfl (exec_contextQuery s) hw (by simp [fxContextQuery, h7, h15, h28]) (by simp) (by simp)

/-! ### Sessions, jobs and segments -/

theorem takes_sessionQuery {s : State} {p : Path} {v : W16} (hw : s.canWrite p 0x2130 1 = true) (h : v.toNat < 4096) :
    s.takes (.sessionQuery p v) 0x2130 [(1, v.toNat), (2, (s.sessionOf v.toNat).word), (3, (s.sessionOf v.toNat).phase),
      (4, if (s.sessionOf v.toNat).st = .free then 0 else s.beat.stampOf (s.sessionOf v.toNat).nextBeat)] :=
  State.takes_query (eff := fxSessionQuery v) rfl (exec_sessionQuery s) hw (if_neg (Nat.not_le.2 h)) (by simp) (by simp)

theorem refuses_sessionQuery {s : State} {p : Path} {v : W16} (hw : s.canWrite p 0x2130 1 = true) (h : 4096 ≤ v.toNat) :
    s.refusesWrite (.sessionQuery p v) p 0x2130 1 0x06090030 :=
  State.refusesWrite_of (eff := fxSessionQuery v) rfl hw (if_pos h) (exec_sessionQuery s) (by decide)

theorem State.jobWord_eq (s : State) (j : Nat) : s.jobWord j =
    (if (s.jobOf j).st = .free then 0 else if (s.jobOf j).st = .opened then 1 else 2) + flag (s.jobOf j).elastic * 4 +
      flag (s.jobOf j).flash * 8 + fnNum (s.jobOf j).owner * 16 +
      (s.sessions.cells.filter fun c => c.2.job == j && c.2.st != .free).length * 2 ^ 16 + (s.jobOf j).key * 2 ^ 32 := by
  unfold State.jobWord
  cases h : (s.jobOf j).st <;> simp [h]

theorem takes_jobQuery {s : State} {p : Path} {v : W16} (hw : s.canWrite p 0x2506 2 = true) (h : v.toNat < 1024) :
    s.takes (.jobQuery p v) 0x2506 [(2, v.toNat), (3, s.jobWord v.toNat)] :=
  State.takes_query (eff := fxJobQuery v) rfl (exec_jobQuery s) hw (if_neg (Nat.not_le.2 h)) (by simp) (by simp)

theorem takes_segmentQuery {s : State} {p : Path} {v : Byte} (hw : s.canWrite p 0x2410 1 = true) (h : v.toNat < 16) :
    s.takes (.segmentQuery p v) 0x2410 ([(1, v.toNat), (2, s.segWord v.toNat), (3, (s.seg v.toNat).nsze)] ++
      (List.range 8).map (fun i => (4 + i, s.segCtr.get 0 (v.toNat * 16 + 4 + i))) ++
      [(0xC, (s.seg v.toNat).warning), (0xD, s.dramDemand v.toNat % 2 ^ 32)]) :=
  State.takes_query (eff := fxSegmentQuery v) rfl (exec_segmentQuery s) hw (if_neg (Nat.not_le.2 h))
    (by simp [List.range_succ]) (by simp [List.range_succ])

/-! ### Plans, slots, connections and counters, where one is listed -/

theorem takes_planQuery {s : State} {p : Path} {v : Byte} (hw : s.canWrite p 0x2430 1 = true) :
    s.takes (.planQuery p v) 0x2430 ((1, v.toNat) :: match s.plans.find v.toNat with
      | some q => [(2, planNum q.st + flag q.streamed * 4 + q.steps.length * 2 ^ 8 + q.q * 2 ^ 16 + q.passLen * 2 ^ 32 +
          q.capacity * 2 ^ 48), (3, (q.pleats.filter fun y => y.st == .failed).length),
          (4, if q.st = .active then s.beat.stampOf ((q.firstB + q.started * q.q) * 65536) else 0)]
      | none => [(2, 0), (3, 0), (4, 0)]) := by
  cases hq : s.plans.find v.toNat <;>
    exact State.takes_query (eff := fxPlanQuery v) rfl (exec_planQuery s) hw (by simp [fxPlanQuery, hq, Plan.lineOf]) (by simp) (by simp)

theorem takes_slotQuery {s : State} {p : Path} {v : W16} (hw : s.canWrite p 0x2620 1 = true) (h : v.toNat < 4096) :
    s.takes (.slotQuery p v) 0x2620 ((1, v.toNat) :: match s.attach.find v.toNat with
      | some a => [(2, 1 + flag a.threeFactor * 2 + a.ruleset * 4 + flag a.reward.isSome * 64 + packTile a.region.lx a.region.ly * 2 ^ 8 +
          a.region.w * 2 ^ 24 + a.region.h * 2 ^ 32 + packTile a.errX a.errY * 2 ^ 40),
        (3, a.wbase + a.wlimit * 2 ^ 16 + a.budget * 2 ^ 32 + (a.reward.elim 0 fun r => unsigned 16 (sat16 r.value)) * 2 ^ 48),
        (4, ((s.wafer.regionKeys a.region).map fun t => ((s.tileOf t).ctxs.find v.toNat).elim 0 Ctx.count).sum)]
      | none => [(2, 0), (3, 0), (4, 0)]) := by
  have hlt : ¬ 4096 ≤ v.toNat := Nat.not_le.2 h
  cases ha : s.attach.find v.toNat with
  | none => exact State.takes_query (eff := fxSlotQuery v) rfl (exec_slotQuery s) hw (by simp [fxSlotQuery, hlt, ha]) (by simp) (by simp)
  | some a =>
    refine State.takes_query (eff := fxSlotQuery v) rfl (exec_slotQuery s) hw ?_ (by simp) (by simp)
    have hcount : ∀ t, ((s.tileOf t).ctxs.find v.toNat).elim 0 Ctx.count = match (s.tileOf t).ctxs.find v.toNat with
        | some c => c.count
        | none => 0 := fun t => by cases (s.tileOf t).ctxs.find v.toNat <;> rfl
    simp only [fxSlotQuery, if_neg hlt, ha, hcount]
    cases a.reward <;> rfl

theorem takes_connectionQuery {s : State} {p : Path} {v : W16} (hw : s.canWrite p 0x2710 1 = true) :
    s.takes (.connectionQuery p v) 0x2710 ((1, v.toNat) :: match s.conns.find v.toNat with
      | some c => [(2, connNum c.st + c.job * 4 + c.cls * 2 ^ 12 + c.home * 2 ^ 15 + flag c.respond * 2 ^ 18 + c.peerConn * 2 ^ 24 +
          c.peerNode * 2 ^ 40 + c.retries * 2 ^ 56), (3, c.nextPsn + c.e * 2 ^ 32), (4, c.granted + c.lp * 2 ^ 32),
        (5, c.order.length + (c.outs.vals.filter fun o => o.op != 1 && o.op != 2).length * 2 ^ 11 +
          (c.recvs.filter fun r => !r.done).length * 2 ^ 18)]
      | none => [(2, 0), (3, 0), (4, 0), (5, 0)]) := by
  cases hc : s.conns.find v.toNat <;>
    exact State.takes_query (eff := fxConnectionQuery v) rfl (exec_connectionQuery s) hw (by simp only [fxConnectionQuery, hc]) (by simp) (by simp)

theorem takes_counterQuery {s : State} {p : Path} {v : W16} (hw : s.canWrite p 0x2720 1 = true) (h : v.toNat < 8192) :
    s.takes (.counterQuery p v) 0x2720 [(1, v.toNat), (2, (s.ctrs.find v.toNat).elim 0 fun c => c.value + c.job * 2 ^ 32 + 2 ^ 42 +
      (s.wrs.vals.filter fun w => w.waiting && w.tctr == v.toNat).length * 2 ^ 48)] := by
  have hlt : ¬ 8192 ≤ v.toNat := Nat.not_le.2 h
  refine State.takes_query (eff := fxCounterQuery v) rfl (exec_counterQuery s) hw ?_ (by simp) (by simp)
  rw [fxCounterQuery, if_neg hlt]
  cases s.ctrs.find v.toNat with
  | none => rw [Option.elim_none]
  | some c => rw [Option.elim_some]

/-! ### Nodes, detectors and the fault log (R300, R423) -/

theorem takes_nodeQuery {s : State} {p : Path} {v : W16} (hw : s.canWrite p 0x2803 1 = true) (h0 : v.toNat ≠ 0) (hf : v.toNat ≠ 0xFFFF) :
    let e := s.nodeOf v.toNat
    s.takes (.nodeQuery p v) 0x2803 [(1, v.toNat), (2, nodeNum e.st + e.port * 4 + e.conflicts * 32 +
      (if e.st = .dynamic ∨ e.st = .ambiguous then min 0xFFFF ((e.expiry - s.now) / psS) else 0) * 65536)] :=
  State.takes_query (eff := fxNodeQuery v) rfl (exec_nodeQuery s) hw (by simp only [fxNodeQuery, if_neg (not_or.2 ⟨h0, hf⟩)]) (by simp) (by simp)

theorem takes_detectorQuery {s : State} {p : Path} {v : W16} (hw : s.canWrite p 0x2B02 1 = true) :
    let r := s.detOf v.toNat
    s.takes (.detectorQuery p v) 0x2B02 [(1, v.toNat), (2, r.count), (3, r.last), (4, r.injected)] :=
  State.takes_query (eff := fxDetectorQuery v.toNat) rfl (exec_detectorQuery s) hw rfl (by simp) (by simp)

theorem takes_logQuery {s : State} {p : Path} {v : Byte} (hw : s.canWrite p 0x2B11 1 = true) :
    s.takes (.logQuery p v) 0x2B11 [(1, v.toNat), (2, (s.log.find v.toNat).elim 0 LogEntry.stamp),
      (3, (s.log.find v.toNat).elim 0 LogEntry.record)] := by
  refine State.takes_query (eff := fxLogQuery v.toNat) rfl (exec_logQuery s) hw ?_ (by simp) (by simp)
  rw [fxLogQuery]
  cases s.log.find v.toNat with
  | none => rw [Option.elim_none, Option.elim_none]
  | some e => rw [Option.elim_some, Option.elim_some]

end Sys2Proof.Machine

namespace Sys2Proof.Proofs

open Sys2Proof.Machine

/-- Settles O8: each query writes a list of cells that its effect computes, and a number out of range is refused before it. -/
theorem queries : Obligations.Queries := by
  refine ⟨⟨fun s p v hw h h7 => ?_, fun s p v => refuses_translationQuery, fun s p v hw h => takes_sessionQuery hw h,
      fun s p v => refuses_sessionQuery⟩,
    ⟨fun s p v hw h7 h15 => takes_tileQuery hw h7 h15, fun s p v hw h7 h15 => takes_storeQuery hw h7 h15,
      fun s p v hw h => takes_segmentQuery hw h, fun s p v hw => takes_planQuery hw⟩,
    fun s p v hw h => ?_, fun s p v hw h => takes_slotQuery hw h, fun s p v hw h7 h15 h28 => ?_, fun s p v hw => takes_connectionQuery hw,
    fun s p v hw h => takes_counterQuery hw h, fun s p v hw h0 hf => takes_nodeQuery hw h0 hf, fun s p v hw => takes_detectorQuery hw,
    fun s p v hw => takes_logQuery hw⟩
  · have := takes_translationQuery hw h h7
    rwa [Wafer.translation_eq] at this
  · have := takes_jobQuery hw h
    rwa [State.jobWord_eq] at this
  · have := takes_contextQuery hw h7 h15 h28
    rwa [State.contextWord_eq] at this

end Sys2Proof.Proofs
end

section
/-! Proofs about entries: what a completion leaves in an entry's list, and what acceptance changes. -/

namespace Sys2Proof.Machine

/-- A record of a list changes the list's reserved slots and nothing else of the lists. -/
theorem State.listPut_lists (s : State) (id : Nat) (l : ListRun) (header : Nat) (body : List Byte) :
    (s.listPut id l header body).lists = s.lists.set id { l with slots := l.slots - 1 } := by
  unfold State.listPut
  dsimp only
  split <;> simp

theorem State.listEnd_lists {s : State} {id : Nat} {l : ListRun} (h : s.lists.find id = some l) (st : Status) (entry executed det at_ : Nat) :
    (s.listEnd id st entry executed det at_).lists.find id = none := by
  simp [State.listEnd, h]

/-- A list's check leaves it as it is, or ends it. -/
theorem State.listCheck_lists (s : State) (id at_ : Nat) :
    (s.listCheck id at_).lists.find id = s.lists.find id ∨ (s.listCheck id at_).lists.find id = none := by
  unfold State.listCheck
  cases hl : s.lists.find id with
  | none => exact .inl hl
  | some l =>
    dsimp only
    split
    · right
      split <;> exact State.listEnd_lists hl ..
    · exact .inl hl

/-- An outstanding entry that completes is over, with its status where its list goes on. -/
theorem State.ended_entryDoneAt {s : State} {id idx : Nat} {e : EntryRun} (h : s.entryOf id idx = some e) (at_ : Nat) (st : Status)
    (det result slot : Nat) : (s.entryDoneAt at_ id idx st det result slot).ended id idx st := by
  refine ⟨s.entryOf_entryDoneAt .., fun l hl => ?_⟩
  have hidx : e.idx = idx := (State.entryOf_spec h).1
  unfold State.entryDoneAt at hl
  unfold State.entryOf at h
  cases hs : s.lists.find id with
  | none => simp [hs] at h
  | some l0 =>
    have hmem : e ∈ l0.entries := List.mem_of_find?_eq_some (by simpa only [hs] using h)
    have he : s.entryOf id idx = some e := by unfold State.entryOf; exact h
    simp only [hs, he] at hl
    rcases State.listCheck_lists _ id at_ with hc | hc
    · rw [hc] at hl
      obtain ⟨n, hn⟩ : ∃ n, l = { l0 with
          waiting := if l0.waiting = some idx then none else l0.waiting
          slots := n
          entries := l0.entries.map fun x =>
            if x.idx = idx then { x with status := some st, det := det, result := result, slot := slot } else x } := by
        split at hl
        · rw [State.listPut_lists, Tab.find_set_same, Option.some.injEq] at hl
          exact ⟨_, hl.symm⟩
        · simp only [State.dmaRelease, Tab.find_set_same, Option.some.injEq] at hl
          exact ⟨_, hl.symm⟩
      subst hn
      exact ⟨_, List.mem_map.2 ⟨e, hmem, if_pos hidx⟩, hidx, rfl⟩
    · rw [hc] at hl
      cases hl

theorem State.ended_entryDone {s : State} {id idx : Nat} {e : EntryRun} (h : s.entryOf id idx = some e) (st : Status)
    (det result slot : Nat) : (s.entryDone id idx st det result slot).ended id idx st := State.ended_entryDoneAt h ..

theorem State.ended_slotDone {s : State} {id idx : Nat} {e : EntryRun} (h : s.entryOf id idx = some e) (slot : Nat) :
    (s.slotDone id idx slot).ended id idx .ok := State.ended_entryDoneAt h ..

theorem State.ended_entryEnd {s : State} {id idx : Nat} {e : EntryRun} (h : s.entryOf id idx = some e) (st : Status) (det : Nat) :
    (s.entryEnd id idx st det).ended id idx st := by
  unfold State.entryEnd
  rw [h]
  exact State.ended_entryDone h ..

theorem State.ended_entryRefuse {s : State} {id idx : Nat} {e : EntryRun} (h : s.entryOf id idx = some e) (st : Status) (det : Nat) :
    (s.entryRefuse id idx st det).ended id idx st := by
  unfold State.entryRefuse
  cases hl : s.lists.find id with
  | none => simp [State.entryOf, hl] at h
  | some l =>
    refine State.ended_entryEnd (e := e) ?_ st det
    simpa [State.entryOf, hl] using h

/-- Which entries are outstanding, the lists say. -/
theorem State.entryOf_congr {s t : State} (h : t.lists = s.lists) (id idx : Nat) : t.entryOf id idx = s.entryOf id idx := by
  unfold State.entryOf
  rw [h]

/-- Acceptance changes the lists only. -/
theorem State.entryAccept_eq (s : State) (id idx : Nat) : s.entryAccept id idx = { s with lists := (s.entryAccept id idx).lists } := by
  unfold State.entryAccept
  split <;> rfl

/-- An entry that has begun is outstanding, and stays so when it is accepted. -/
theorem State.begun_entryOf {s : State} {id idx eng op : Nat} {l : ListRun} {e : EntryRun} (h : s.begun id idx eng op l e) :
    s.entryOf id idx = some e := State.handed_entryOf h.1

theorem State.begun_accepted {s : State} {id idx eng op : Nat} {l : ListRun} {e : EntryRun} (h : s.begun id idx eng op l e) :
    (s.entryAccept id idx).entryOf id idx = some e := by
  rw [State.entryOf_entryAccept, State.begun_entryOf h]

/-- A begun entry without a condition against it completes by its effect on the accepted state, of which the lists alone have
changed. -/
theorem completes_accept {c : Instr} {s : State} {id idx eng op F : Nat} {conds : ListRun → EntryRun → List Status}
    {eff : ListRun → EntryRun → State → State} {l : ListRun} {e : EntryRun} {fs : List Field} {p : State → Prop}
    (hx : exec c s = s.accept id idx eng op conds eff) (h : s.begun id idx eng op l e) (hc : conds l e = [])
    (k : StepO F s (exec c s)) (m : maskIn F fs = true)
    (hp : ∀ L, (∀ x : State, x.lists = L → x.entryOf id idx = some e) → p (eff l e { s with lists := L })) : completes c s fs p := by
  refine completes_of (hx.trans (State.accept_begun h hc)) k m ?_
  have he : ∀ x : State, x.lists = (s.entryAccept id idx).lists → x.entryOf id idx = some e := fun x hx => by
    rw [← State.begun_accepted h, State.entryOf_congr hx]
  rw [State.entryAccept_eq]
  exact hp _ he

/-- A begun entry that a condition refuses completes with the status of the condition that comes first, and its list stops. -/
theorem completes_refused {c : Instr} {s : State} {id idx eng op F : Nat} {conds : ListRun → EntryRun → List Status}
    {eff : ListRun → EntryRun → State → State} {l : ListRun} {e : EntryRun} {fs : List Field} {p : State → Prop} {st : Status}
    (hx : exec c s = s.accept id idx eng op conds eff) (h : s.begun id idx eng op l e) (hc : worst (conds l e) = st) (hst : st ≠ .ok)
    (k : StepO F s (exec c s)) (m : maskIn F fs = true) (hp : p (s.entryRefuse id idx st 0)) : completes c s fs p := by
  have hw : worst (s.jobConds l.job ++ conds l e) = st := by rw [State.jobConds_open h.2, List.nil_append, hc]
  exact completes_of (hx.trans ((State.accept_refused h.1 (hw ▸ hst)).trans (by rw [hw]))) k m hp

end Sys2Proof.Machine
end

section
/-! Proofs about the session entries SOPEN, SRETIME, SRESUME and SBIND. -/

namespace Sys2Proof.Machine

/-! ### Conditions of a session entry -/

theorem State.slotForeign_of_ownSlot {s : State} {k j : Nat} (h : s.ownSlot k j) : s.slotForeign k j = false := by
  simp [State.slotForeign, h.2.2]

theorem State.slotBad_of_ownSlot {s : State} {k j : Nat} (h : s.ownSlot k j) : s.slotBad k = false := by
  obtain ⟨hk, hst, -⟩ := h
  simp [State.slotBad, hst, hk]

theorem rasterBad_of_rasterGood {p phase m : Nat} (h : rasterGood p phase m) : rasterBad p phase m = false := by
  obtain ⟨h1, h2, h3, h4⟩ := h
  simp only [rasterBad, Bool.or_eq_false_iff, decide_eq_false_iff_not]
  omega

theorem State.planUnfit_of_planFits {s : State} {plan m j : Nat} (h : s.planFits plan m j) : s.planUnfit plan m = false := by
  rcases h with h | ⟨p, hp, hle, -⟩
  · simp [State.planUnfit, h]
  · simp [State.planUnfit, hp, hle]

theorem State.planForeign_of_planFits {s : State} {plan m j : Nat} (h : s.planFits plan m j) : s.planForeign plan j = false := by
  rcases h with h | ⟨p, hp, -, hj⟩
  · simp [State.planForeign, h]
  · simp [State.planForeign, hp, hj]

theorem State.operational_of {s : State} (h : s.can.nmt = .operational) : s.operational = true := by simp [State.operational, h]

/-! ### Session slots in their table -/

theorem State.sessionOf_of_set {s t : State} {k : Nat} {y : Session} (h : t.sessions = s.sessions.set k y) (j : Nat) :
    t.sessionOf j = if j = k then y else s.sessionOf j := by
  unfold State.sessionOf
  rw [h]
  split
  · subst j; simp
  · rename_i hj; exact Tab.get_set_other _ _ _ hj

/-- A slot set alone reads as set, and every other slot as before. -/
theorem State.slot_of_set {s t : State} {k : Nat} {y : Session} (h : t.sessions = s.sessions.set k y) :
    s.otherSlots [k] t ∧ t.sessionOf k = y :=
  ⟨fun j hj => by rw [State.sessionOf_of_set h, if_neg (by simpa using hj)], by rw [State.sessionOf_of_set h, if_pos rfl]⟩

/-- A slot that is in use is listed. -/
theorem State.find_of_sessionOf {s : State} {k : Nat} (h : (s.sessionOf k).st ≠ .free) : s.sessions.find k = some (s.sessionOf k) := by
  unfold State.sessionOf Tab.get at *
  cases hf : s.sessions.find k with
  | none => rw [hf] at h; exact absurd rfl h
  | some y => rfl

/-- Every slot of the set of a slot in use is listed. -/
theorem State.find_of_mem_setSlots {s : State} {k j : Nat} (h : (s.sessionOf k).st ≠ .free) (hj : j ∈ s.setSlots k) :
    s.sessions.find j = some (s.sessionOf j) := by
  unfold State.setSlots at hj
  split at hj
  next =>
    obtain rfl := List.mem_singleton.1 hj
    exact State.find_of_sessionOf h
  next g _ =>
    obtain ⟨c, hc, rfl⟩ := List.mem_map.1 hj
    have hmem := (List.mem_filter.1 hc).1
    have hsome : (s.sessions.find c.1).isSome = true := by
      unfold Tab.find
      generalize s.sessions.cells = cells at hmem
      induction cells with
      | nil => cases hmem
      | cons d r ih =>
        obtain ⟨i, y⟩ := d
        simp only [findCell]
        split
        · rfl
        · rename_i hne
          rcases List.mem_cons.1 hmem with rfl | hr
          · exact absurd rfl hne
          · exact ih hr
    obtain ⟨y, hy⟩ := Option.isSome_iff_exists.1 hsome
    simp [State.sessionOf, Tab.get, hy]

/-- An entry that sets sessions and then completes with OK. -/
theorem State.slotDone_sessions (x : State) (id idx k : Nat) : (x.slotDone id idx k).sessions = x.sessions := by
  simp [State.slotDone]

theorem State.sessionOf_congr {s t : State} (h : t.sessions = s.sessions) (k : Nat) : t.sessionOf k = s.sessionOf k := by
  unfold State.sessionOf
  rw [h]

/-! ### The four entries -/

/-- What SOPEN makes of its entry (R206). -/
def State.opened (s : State) (l : ListRun) (e : EntryRun) : Session :=
  { st := if s.beat.lock = .lost then .suspended else .opened, closing := false, closer := none, p := e.field 6 2
    phase := e.field 8 4, m := e.field 0xC 2, set := if e.field 0xE 1 = 0xFF then none else some (e.field 0xE 1)
    cls := e.field 0xF 1, plan := if e.field 0x10 2 = 0xFFFF then none else some (e.field 0x10 2), variant := e.field 0x12 1
    job := l.job, nextBeat := beatFrom (e.field 6 2) (e.field 8 4) (s.lineNow + 1), claimFrom := 0
    retimes := if e.field 0xE 1 = 0xFF then [] else (s.setMember (e.field 0xE 1)).elim [] Session.retimes, resume := false }

/-- A member of the set that a session joins does not differ from it. -/
theorem State.joins_set {s : State} {g p phase m c : Nat} {x : Session} (h : g = 0xFF ∨ g < 64 ∧ ∀ x, s.setMember g = some x →
      (x.p, x.phase, x.m) = (p, phase, m) ∧ x.cls = c) (hx : (if g = 0xFF then none else s.setMember g) = some x) :
    (x.p, x.phase, x.m) = (p, phase, m) ∧ x.cls = c := by
  rcases h with hff | ⟨hlt, hsame⟩
  · rw [if_pos hff] at hx
    cases hx
  · rw [if_neg (by omega)] at hx
    exact hsame x hx

/-- The condition of SOPEN on its set field: a locked set, or none. -/
theorem setField_good {g : Nat} {q : Prop} (h : g = 0xFF ∨ g < 64 ∧ q) : (g != 0xFF && decide (64 ≤ g)) = false := by
  rcases h with hff | ⟨hlt, -⟩
  · simp [hff]
  · simp [hlt]

theorem completes_sopen {s : State} {list idx : Nat} {l : ListRun} {e : EntryRun} (h : s.begun list idx 4 1 l e)
    (hrest : e.restZero [(4, 2), (6, 2), (8, 4), (0xC, 2), (0xE, 1), (0xF, 1), (0x10, 2), (0x12, 1)] = true) (hk : e.field 4 2 < 4096)
    (hfree : (s.sessionOf (e.field 4 2)).st = .free) (hr : rasterGood (e.field 6 2) (e.field 8 4) (e.field 0xC 2))
    (hset : e.field 0xE 1 = 0xFF ∨ e.field 0xE 1 < 64 ∧ ∀ x, s.setMember (e.field 0xE 1) = some x →
      (x.p, x.phase, x.m) = (e.field 6 2, e.field 8 4, e.field 0xC 2) ∧ x.cls = e.field 0xF 1) (hc : e.field 0xF 1 < 8)
    (hp : s.planFits (e.field 0x10 2) (e.field 0xC 2) l.job) (hop : s.can.nmt = .operational) (hlock : s.beat.lock ≠ .search) :
    completes (.sopen list idx) s (entryFields ++ ([.sessions] : List Field)) fun t => t.ended list idx .ok ∧
      s.otherSlots [e.field 4 2] t ∧ t.sessionOf (e.field 4 2) = s.opened l e := by
  refine completes_accept (by unfold exec execSopen; rfl) h ?_ (exec_sopen s) (by decide) fun L he => ?_
  · dsimp only
    rw [setField_good hset, rasterBad_of_rasterGood hr, State.planUnfit_of_planFits hp, State.planForeign_of_planFits hp,
      State.operational_of hop]
    cases hm : (if e.field 0xE 1 = 0xFF then none else s.setMember (e.field 0xE 1)) with
    | none => simp [hrest, hfree, hlock, cond, hk, hc]
    | some x =>
      obtain ⟨hraster, hcls⟩ := State.joins_set hset hm
      simp [hrest, hfree, hlock, cond, hk, hc, hraster, hcls]
  · refine ⟨State.ended_slotDone (he _ rfl) _, State.slot_of_set ((State.slotDone_sessions _ _ _ _).trans ?_)⟩
    simp only [State.opened]
    by_cases hff : e.field 0xE 1 = 0xFF
    · simp only [if_pos hff]; rfl
    · simp only [if_neg hff]
      cases hm : s.setMember (e.field 0xE 1) with
      | none => rw [show State.setMember { s with lists := L } (e.field 0xE 1) = none from hm]; rfl
      | some x => rw [show State.setMember { s with lists := L } (e.field 0xE 1) = some x from hm]; rfl

/-- A retime joins those that every slot of a set holds. -/
theorem State.sessionOf_mapRetimes {s t : State} {k : Nat} {r : Retime} (hk : (s.sessionOf k).st ≠ .free)
    (h : t.sessions = s.sessions.mapVals fun i y => if (s.setSlots k).contains i then { y with retimes := y.retimes ++ [r] } else y) :
    s.otherSlots (s.setSlots k) t ∧
      ∀ j ∈ s.setSlots k, t.sessionOf j = { s.sessionOf j with retimes := (s.sessionOf j).retimes ++ [r] } := by
  refine ⟨fun j hj => ?_, fun j hj => ?_⟩
  · unfold State.sessionOf Tab.get
    rw [h, Tab.find_mapVals]
    cases s.sessions.find j <;> simp [hj]
  · have hf := State.find_of_mem_setSlots hk hj
    unfold State.sessionOf Tab.get at hf ⊢
    rw [h, Tab.find_mapVals, hf]
    simp [hj]

theorem completes_sretime {s : State} {list idx : Nat} {l : ListRun} {e : EntryRun} (h : s.begun list idx 4 2 l e)
    (hrest : e.restZero [(4, 2), (6, 2), (8, 4), (0xC, 2)] = true) (hown : s.ownSlot (e.field 4 2) l.job)
    (hr : rasterGood (e.field 6 2) (e.field 8 4) (e.field 0xC 2)) :
    completes (.sretime list idx) s (entryFields ++ ([.sessions] : List Field)) fun t => t.ended list idx .ok ∧
      s.otherSlots (s.setSlots (e.field 4 2)) t ∧ ∀ k ∈ s.setSlots (e.field 4 2), t.sessionOf k = { s.sessionOf k with
        retimes := (s.sessionOf k).retimes ++
          [⟨e.field 6 2, e.field 8 4, e.field 0xC 2, s.latestDeadline (s.setSlots (e.field 4 2))⟩] } := by
  refine completes_accept (by unfold exec execSretime; rfl) h ?_ (exec_sretime s) (by decide) fun L he => ?_
  · simp [hrest, State.slotBad_of_ownSlot hown, rasterBad_of_rasterGood hr, State.slotForeign_of_ownSlot hown]
  · exact ⟨State.ended_slotDone (he _ rfl) _, State.sessionOf_mapRetimes hown.2.1 (State.slotDone_sessions _ _ _ _)⟩

theorem completes_sresume {s : State} {list idx : Nat} {l : ListRun} {e : EntryRun} (h : s.begun list idx 4 3 l e)
    (hrest : e.restZero [(4, 2)] = true) (hown : s.ownSlot (e.field 4 2) l.job) (hop : s.can.nmt = .operational) :
    completes (.sresume list idx) s (entryFields ++ ([.sessions] : List Field)) fun t => t.ended list idx .ok ∧
      s.otherSlots [e.field 4 2] t ∧
      ((s.sessionOf (e.field 4 2)).st = .suspended → t.sessionOf (e.field 4 2) = { s.sessionOf (e.field 4 2) with resume := true }) ∧
      ((s.sessionOf (e.field 4 2)).st = .opened → t.sessions = s.sessions) := by
  refine completes_accept (by unfold exec execSresume; rfl) h ?_ (exec_sresume s) (by decide) fun L he => ?_
  · simp [hrest, State.slotBad_of_ownSlot hown, State.slotForeign_of_ownSlot hown, State.operational_of hop]
  · dsimp only
    by_cases hst : (s.sessionOf (e.field 4 2)).st = .suspended
    · rw [if_pos (show (State.sessionOf { s with lists := L } (e.field 4 2)).st = .suspended from hst)]
      refine ⟨State.ended_slotDone (he _ rfl) _, ?_⟩
      exact (State.slot_of_set (State.slotDone_sessions _ _ _ _)).imp_right fun hslot =>
        ⟨fun _ => hslot, fun ho => by rw [hst] at ho; cases ho⟩
    · rw [if_neg (show (State.sessionOf { s with lists := L } (e.field 4 2)).st ≠ .suspended from hst)]
      have hs := State.slotDone_sessions { s with lists := L } list idx (e.field 4 2)
      exact ⟨State.ended_slotDone (he _ rfl) _, fun j _ => State.sessionOf_congr hs j, fun ho => absurd ho hst, fun _ => hs⟩

theorem completes_sbind {s : State} {list idx : Nat} {l : ListRun} {e : EntryRun} (h : s.begun list idx 4 5 l e)
    (hrest : e.restZero [(4, 2), (0x10, 2), (0x12, 1)] = true) (hown : s.ownSlot (e.field 4 2) l.job)
    (hp : s.planFits (e.field 0x10 2) (s.sessionOf (e.field 4 2)).raster.2.2 l.job) :
    completes (.sbind list idx) s (entryFields ++ ([.sessions] : List Field)) fun t => t.ended list idx .ok ∧
      s.otherSlots [e.field 4 2] t ∧ t.sessionOf (e.field 4 2) = { s.sessionOf (e.field 4 2) with
        plan := if e.field 0x10 2 = 0xFFFF then none else some (e.field 0x10 2), variant := e.field 0x12 1 } := by
  refine completes_accept (by unfold exec execSbind; rfl) h ?_ (exec_sbind s) (by decide) fun L he => ?_
  · simp [hrest, State.slotBad_of_ownSlot hown, State.slotForeign_of_ownSlot hown, State.planUnfit_of_planFits hp,
      State.planForeign_of_planFits hp]
  · exact ⟨State.ended_slotDone (he _ rfl) _, State.slot_of_set (State.slotDone_sessions _ _ _ _)⟩

end Sys2Proof.Machine

namespace Sys2Proof.Proofs

open Sys2Proof.Machine

/-- Settles O15: each entry passes its conditions, sets its slots in the session table and completes at once. -/
theorem sessionEntries : Obligations.SessionEntries :=
  ⟨fun _ _ _ _ _ h hrest hk hfree hr hset hc hp hop hlock => completes_sopen h hrest hk hfree hr hset hc hp hop hlock,
    fun _ _ _ _ _ h hrest hown hr => completes_sretime h hrest hown hr,
    fun _ _ _ _ _ h hrest hown hop => completes_sresume h hrest hown hop,
    fun _ _ _ _ _ h hrest hown hp => completes_sbind h hrest hown hp⟩

end Sys2Proof.Proofs
end

section
/-! Proofs about FRAME and FREADY: a frame is charged to its admission beat, and is skipped only where a budget is exceeded. -/

namespace Sys2Proof.Machine

/-! ### Admission -/

/-- A beat within its budgets skips nothing (R212). -/
theorem State.admitBeat_of_within {s : State} {k : Nat} (h : s.overBudget k = false) : s.admitBeat k = s := by
  unfold State.admitBeat skipLoop
  rw [if_pos h]

/-- The state in which a frame of slot `k` has been accepted and counted (R209, R216). -/
def State.withFrame (s : State) (id k : Nat) (f : Frame) (y : Session) (q : Tab SkipStat) (L : Tab ListRun) : State :=
  State.bump64 { s with lists := L, frames := s.frames.set id f, nextFrame := s.nextFrame + 1, sessions := s.sessions.set k y, skips := q }
    0x2503 1

section

variable (s : State) (id k : Nat) (f : Frame) (y : Session) (q : Tab SkipStat) (L : Tab ListRun)

theorem State.setting_withFrame {i j : Nat} (hi : i ≠ 0x2503) (hj : j < 256) : (s.withFrame id k f y q L).setting i j = s.setting i j := by
  unfold State.withFrame State.bump64 State.count
  exact State.setting_putCell_other _ _ hj (by decide) fun h => hi h.1

theorem State.beatLen_withFrame : (s.withFrame id k f y q L).beatLen = s.beatLen := by
  unfold State.beatLen
  rw [State.setting_withFrame _ _ _ _ _ _ _ (by decide) (by decide)]

theorem State.beatOf_withFrame (lt : Nat) : (s.withFrame id k f y q L).beatOf lt = s.beatOf lt := by
  unfold State.beatOf
  rw [State.beatLen_withFrame]

theorem State.dramDemand_withFrame (g : Nat) : (s.withFrame id k f y q L).dramDemand g = s.dramDemand g := rfl

theorem State.dramPerLine_withFrame : (s.withFrame id k f y q L).dramPerLine = s.dramPerLine := by
  unfold State.dramPerLine
  rw [State.setting_withFrame _ _ _ _ _ _ _ (by decide) (by decide)]
  rfl

theorem State.tcBudget_withFrame : (s.withFrame id k f y q L).tcBudget = s.tcBudget := by
  have hpanel : ∀ p ∈ allPanels, (s.withFrame id k f y q L).setting 0x2210 (p + 1) = s.setting 0x2210 (p + 1) := fun p hp =>
    State.setting_withFrame _ _ _ _ _ _ _ (by decide) (by have := List.mem_range.1 hp; omega)
  unfold State.tcBudget
  rw [State.beatLen_withFrame, State.setting_withFrame _ _ _ _ _ _ _ (by decide) (by decide)]
  congr 3
  refine List.map_congr_left fun p hp => ?_
  rw [hpanel p hp]
  rfl

theorem State.sbBudget_withFrame : (s.withFrame id k f y q L).sbBudget = s.sbBudget := by
  unfold State.sbBudget
  rw [State.beatLen_withFrame, State.dramPerLine_withFrame]
  rfl

theorem State.tcCost_withFrame (h : s.frames.find id = none) :
    (s.withFrame id k f y q L).tcCost (s.beatOf f.deadline) = s.tcCost (s.beatOf f.deadline) + f.tc := by
  unfold State.tcCost State.chargedTo
  simp only [State.beatOf_withFrame]
  exact (putCell_sum (fun c => c.2.tc) (fun c => s.beatOf c.2.deadline == s.beatOf f.deadline) id f s.frames.cells h).trans (congrArg _ (if_pos (beq_self_eq_true _)))

theorem State.sbCost_withFrame (h : s.frames.find id = none) :
    (s.withFrame id k f y q L).sbCost (s.beatOf f.deadline) = s.sbCost (s.beatOf f.deadline) + f.sb := by
  unfold State.sbCost State.chargedTo
  simp only [State.beatOf_withFrame]
  exact (putCell_sum (fun c => c.2.sb) (fun c => s.beatOf c.2.deadline == s.beatOf f.deadline) id f s.frames.cells h).trans (congrArg _ (if_pos (beq_self_eq_true _)))

/-- A frame whose costs stay within the budgets of its beat is not skipped. -/
theorem State.admitBeat_withFrame (h : s.frames.find id = none) (htc : s.tcCost (s.beatOf f.deadline) + f.tc ≤ s.tcBudget)
    (hsb : s.sbCost (s.beatOf f.deadline) + f.sb ≤ s.sbBudget) :
    (s.withFrame id k f y q L).admitBeat ((s.withFrame id k f y q L).beatOf f.deadline) = s.withFrame id k f y q L := by
  refine State.admitBeat_of_within ?_
  unfold State.overBudget
  rw [State.beatOf_withFrame, State.tcBudget_withFrame, State.sbBudget_withFrame, State.tcCost_withFrame _ _ _ _ _ _ _ h,
    State.sbCost_withFrame _ _ _ _ _ _ _ h]
  simp only [Bool.or_eq_false_iff, decide_eq_false_iff_not, Nat.not_lt]
  exact ⟨htc, hsb⟩

end

/-! ### FRAME -/

/-- The conditions on a FRAME that the fields and slot of `s` decide, before those on the session's state. -/
theorem frame_conds {s : State} {l : ListRun} {e : EntryRun} (hrest : e.restZero [(4, 2), (6, 1)] = true) (hready : e.field 6 1 < 2)
    (hown : s.ownSlot (e.field 4 2) l.job) (hclosing : (s.sessionOf (e.field 4 2)).closing = false) :
    cond (!e.restZero [(4, 2), (6, 1)] || decide (2 ≤ e.field 6 1) || s.slotBad (e.field 4 2) || (s.sessionOf (e.field 4 2)).closing)
        .badCommand ++ cond (s.slotForeign (e.field 4 2) l.job) .keyRejected = [] := by
  simp [hrest, State.slotBad_of_ownSlot hown, State.slotForeign_of_ownSlot hown, hclosing, Nat.not_le.2 hready, cond]

/-- The frame that a FRAME entry makes (R209). -/
def State.frameFor (s : State) (idx : Nat) (l : ListRun) (e : EntryRun) : Frame :=
  let x := s.sessionOf (e.field 4 2)
  { idx := idx, slot := e.field 4 2, cls := x.cls, job := l.job, plan := x.plan, variant := x.variant, deadline := s.deadlineFor x
    m := x.raster.2.2, ready := bit (e.field 6 1) 0, pass := none, tc := l.tileCycles, sb := l.streamBytes, order := s.nextFrame }

/-- The skip statistics with the claim of a frame counted (R216). -/
def State.skipsClaimed (s : State) (f : Frame) : Tab SkipStat :=
  let w := f.deadline / 65536 * 8 + f.cls
  s.skips.set w { s.skips.get ⟨0, 0⟩ w with claims := (s.skips.get ⟨0, 0⟩ w).claims + 1 }

/-- A FRAME that nothing refuses, whose beat stays within its budgets, leaves its frame outstanding. -/
theorem exec_frame_accepted {s : State} {list idx : Nat} {l : ListRun} {e : EntryRun} (h : s.begun list idx 4 6 l e)
    (hrest : e.restZero [(4, 2), (6, 1)] = true) (hready : e.field 6 1 < 2) (hown : s.ownSlot (e.field 4 2) l.job)
    (hclosing : (s.sessionOf (e.field 4 2)).closing = false) (hopen : (s.sessionOf (e.field 4 2)).st = .opened)
    (hfew : (s.framesOf (e.field 4 2)).length < 2) (hnew : s.frames.find list = none)
    (hset : ∀ g, (s.sessionOf (e.field 4 2)).set = some g → (g, s.deadlineFor (s.sessionOf (e.field 4 2))) ∉ s.setSkips)
    (htc : s.tcCost (s.beatOf (s.frameFor idx l e).deadline) + l.tileCycles ≤ s.tcBudget)
    (hsb : s.sbCost (s.beatOf (s.frameFor idx l e).deadline) + l.streamBytes ≤ s.sbBudget) :
    exec (.frame list idx) s = .next (s.withFrame list (e.field 4 2) (s.frameFor idx l e)
      { s.sessionOf (e.field 4 2) with claimFrom := (s.frameFor idx l e).deadline + 1 } (s.skipsClaimed (s.frameFor idx l e))
      (s.entryAccept list idx).lists) := by
  have hst : worst (s.jobConds l.job
      ++ cond (!e.restZero [(4, 2), (6, 1)] || decide (2 ≤ e.field 6 1) || s.slotBad (e.field 4 2) ||
          (s.sessionOf (e.field 4 2)).closing) .badCommand
      ++ cond (s.slotForeign (e.field 4 2) l.job) .keyRejected ++ cond ((s.sessionOf (e.field 4 2)).st == .suspended) .beatLost
      ++ cond ((s.sessionOf (e.field 4 2)).st == .opened && decide (2 ≤ (s.framesOf (e.field 4 2)).length)) .overload) = .ok := by
    rw [State.jobConds_open h.2, List.nil_append, frame_conds hrest hready hown hclosing, hopen, decide_eq_false (Nat.not_le.2 hfew)]
    rfl
  show execFrame list idx s = _
  unfold execFrame
  simp only [h.1]
  rw [if_neg (not_not.2 hst), State.entryAccept_eq]
  have hadmit := State.admitBeat_withFrame s list (e.field 4 2) (s.frameFor idx l e)
    { s.sessionOf (e.field 4 2) with claimFrom := (s.frameFor idx l e).deadline + 1 } (s.skipsClaimed (s.frameFor idx l e))
    (s.entryAccept list idx).lists hnew htc hsb
  have hgone : ∀ b : Bool, b = false → ∀ x y : State, (if b = true then x else y) = y := by rintro _ rfl x y; rfl
  refine (congrArg Host.Outcome.next (hgone _ ?_ _ _)).trans (congrArg Host.Outcome.next hadmit)
  cases hg : (s.sessionOf (e.field 4 2)).set with
  | none => rfl
  | some g => simpa using hset g hg

/-- What counting an accepted frame leaves. -/
theorem State.withFrame_cell (s : State) (id k : Nat) (f : Frame) (y : Session) (q : Tab SkipStat) (L : Tab ListRun) :
    (s.withFrame id k f y q L).cell 0x2503 1 = (s.cell 0x2503 1 + 1) % 2 ^ 64 := by
  unfold State.withFrame State.bump64 State.count
  rw [State.cell_putCell_same]
  rfl

theorem State.withFrame_lists (s : State) (id k : Nat) (f : Frame) (y : Session) (q : Tab SkipStat) (L : Tab ListRun) :
    (s.withFrame id k f y q L).lists = L := rfl

/-- An overload is counted, whatever status the entry takes. -/
theorem State.overload_refused (s : State) (list idx : Nat) (st : Status) :
    ((s.bump64 0x2503 4).entryRefuse list idx st 0).cell 0x2503 4 = (s.cell 0x2503 4 + 1) % 2 ^ 64 := by
  rw [State.entryRefuse_cell _ _ _ _ _ (by decide) (by decide)]
  unfold State.bump64 State.count
  rw [State.cell_putCell_same]

theorem State.entryRefuse_only {s x : State} (hx : Step 72075204416507008 s x) (list idx : Nat) (st : Status) :
    s.onlyChanges entryFields (x.entryRefuse list idx st 0) :=
  (State.entryRefuse_step hx (sub_refl _)).only (by decide)

/-- A FRAME against which a condition stands is refused with its status, an overload being counted. -/
theorem exec_frame_refused {s : State} {list idx : Nat} {l : ListRun} {e : EntryRun} {st : Status} (h : s.begun list idx 4 6 l e)
    (hst : worst (s.jobConds l.job
      ++ cond (!e.restZero [(4, 2), (6, 1)] || decide (2 ≤ e.field 6 1) || s.slotBad (e.field 4 2) ||
          (s.sessionOf (e.field 4 2)).closing) .badCommand
      ++ cond (s.slotForeign (e.field 4 2) l.job) .keyRejected ++ cond ((s.sessionOf (e.field 4 2)).st == .suspended) .beatLost
      ++ cond ((s.sessionOf (e.field 4 2)).st == .opened && decide (2 ≤ (s.framesOf (e.field 4 2)).length)) .overload) = st)
    (hne : st ≠ .ok) :
    exec (.frame list idx) s = .next ((if (s.sessionOf (e.field 4 2)).st = .opened ∧
        decide (2 ≤ (s.framesOf (e.field 4 2)).length) = true then s.bump64 0x2503 4 else s).entryRefuse list idx st 0) := by
  subst hst
  show execFrame list idx s = _
  unfold execFrame
  simp only [h.1]
  rw [if_pos hne]

/-- A FRAME of a session with two frames outstanding is refused, and the overload is counted (R210, R22). -/
theorem completes_frame_full {s : State} {list idx : Nat} {l : ListRun} {e : EntryRun} {st : Status} (h : s.begun list idx 4 6 l e)
    (hopen : (s.sessionOf (e.field 4 2)).st = .opened) (hfull : 2 ≤ (s.framesOf (e.field 4 2)).length)
    (hst : worst (cond (!e.restZero [(4, 2), (6, 1)] || decide (2 ≤ e.field 6 1) || s.slotBad (e.field 4 2) ||
          (s.sessionOf (e.field 4 2)).closing) .badCommand
      ++ cond (s.slotForeign (e.field 4 2) l.job) .keyRejected ++ [.overload]) = st) (hne : st ≠ .ok) :
    completes (.frame list idx) s entryFields fun t => t.ended list idx st ∧ t.cell 0x2503 4 = (s.cell 0x2503 4 + 1) % 2 ^ 64 := by
  have hexec := exec_frame_refused h (st := st) (by
    rw [State.jobConds_open h.2, List.nil_append, hopen, decide_eq_true hfull]
    simpa [cond] using hst) hne
  rw [if_pos ⟨hopen, decide_eq_true hfull⟩] at hexec
  refine ⟨_, hexec, State.entryRefuse_only (State.bump64_step (Step.refl _ _) (by decide)) list idx st, ?_, s.overload_refused list idx st⟩
  exact State.ended_entryRefuse (e := e) ((State.entryOf_congr (s := s) (by simp) list idx).trans (State.begun_entryOf h)) st 0

theorem completes_frame_suspended {s : State} {list idx : Nat} {l : ListRun} {e : EntryRun} (h : s.begun list idx 4 6 l e)
    (hrest : e.restZero [(4, 2), (6, 1)] = true) (hready : e.field 6 1 < 2) (hown : s.ownSlot (e.field 4 2) l.job)
    (hclosing : (s.sessionOf (e.field 4 2)).closing = false) (hsusp : (s.sessionOf (e.field 4 2)).st = .suspended) :
    completes (.frame list idx) s entryFields fun t => t.ended list idx .beatLost := by
  have hexec := exec_frame_refused h (st := .beatLost) (by
    rw [State.jobConds_open h.2, List.nil_append, frame_conds hrest hready hown hclosing, hsusp]
    rfl) (by decide)
  rw [if_neg (by simp [hsusp])] at hexec
  exact ⟨_, hexec, State.entryRefuse_only (Step.refl _ _) list idx _, State.ended_entryRefuse (State.begun_entryOf h) _ 0⟩

/-! ### FREADY -/

/-- A frame of the slot that is not ready. -/
def State.frameWaits (s : State) (k : Nat) : Bool := match s.frames.find k with
  | some f => !f.ready
  | none => false

theorem State.slotReady_some {s : State} {slot k : Nat} (h : (s.framesOf slot).find? s.frameWaits = some k) :
    s.slotReady slot = { s with frames := s.frames.mapVals fun j f => if j = k then { f with ready := true } else f } := by
  unfold State.slotReady
  split
  next j hj =>
    obtain rfl := Option.some.inj (hj.symm.trans h)
    rfl
  next hn => exact absurd (hn.symm.trans h) (Option.some_ne_none k).symm

theorem State.slotReady_none {s : State} {slot : Nat} (h : (s.framesOf slot).find? s.frameWaits = none) : s.slotReady slot = s := by
  unfold State.slotReady
  split
  next j hj => exact absurd (hj.symm.trans h) (Option.some_ne_none j)
  next => rfl

theorem State.slotDone_frames (x : State) (id idx k : Nat) : (x.slotDone id idx k).frames = x.frames := by
  simp [State.slotDone]

theorem completes_fready {s : State} {list idx : Nat} {l : ListRun} {e : EntryRun} (h : s.begun list idx 4 7 l e)
    (hrest : e.restZero [(4, 2)] = true) (hown : s.ownSlot (e.field 4 2) l.job) :
    completes (.fready list idx) s (entryFields ++ ([.frames] : List Field)) fun t => t.ended list idx .ok ∧
      (∀ k, (s.framesOf (e.field 4 2)).find? s.frameWaits = some k →
        t.frames.find k = (s.frames.find k).map (fun f => { f with ready := true }) ∧ ∀ i, i ≠ k → t.frames.find i = s.frames.find i) ∧
      ((s.framesOf (e.field 4 2)).find? s.frameWaits = none → t.frames = s.frames) := by
  refine completes_accept (by unfold exec execFready; rfl) h ?_ (exec_fready s) (by decide) fun L he => ?_
  · simp [hrest, State.slotBad_of_ownSlot hown, State.slotForeign_of_ownSlot hown]
  · cases hf : (s.framesOf (e.field 4 2)).find? s.frameWaits with
    | none =>
      rw [State.slotReady_none (show List.find? (State.frameWaits { s with lists := L }) _ = none from hf)]
      exact ⟨State.ended_slotDone (he _ rfl) _, fun k hk => (Option.some_ne_none k hk.symm).elim, fun _ => State.slotDone_frames _ _ _ _⟩
    | some k =>
      rw [State.slotReady_some (show List.find? (State.frameWaits { s with lists := L }) _ = some k from hf)]
      refine ⟨State.ended_slotDone (he _ rfl) _, fun j hj => ?_, fun hn => (Option.some_ne_none k hn).elim⟩
      obtain rfl := Option.some.inj hj
      rw [State.slotDone_frames]
      refine ⟨(Tab.find_mapVals _ _ _).trans ?_, fun i hi => (Tab.find_mapVals _ _ _).trans ?_⟩
      · simp
      · simp [hi]

end Sys2Proof.Machine

namespace Sys2Proof.Proofs

open Sys2Proof.Machine

/-- Settles O16: an accepted frame is charged within its budgets, a refused one takes the status of the first condition, and FREADY
changes one frame. -/
theorem frames : Obligations.Frames := by
  refine ⟨fun s list idx l e h hrest hready hown hclosing hopen hfew hnew hset htc hsb => ?_,
    fun s list idx l e h hrest hready hown hclosing => ⟨fun hopen hfull => ?_, fun hsusp =>
      completes_frame_suspended h hrest hready hown hclosing hsusp⟩,
    fun s list idx l e h hready hopen hfull => ?_, fun s list idx l e h hrest hown => completes_fready h hrest hown⟩
  · refine completes_of (exec_frame_accepted h hrest hready hown hclosing hopen hfew hnew hset htc hsb) (exec_frame s) (by decide) ?_
    obtain ⟨hother, hslot⟩ := State.slot_of_set (s := s) (t := s.withFrame list (e.field 4 2) (s.frameFor idx l e)
      { s.sessionOf (e.field 4 2) with claimFrom := (s.frameFor idx l e).deadline + 1 } (s.skipsClaimed (s.frameFor idx l e))
      (s.entryAccept list idx).lists) rfl
    refine ⟨?_, rfl, State.withFrame_cell .., Tab.find_set_same .., fun i hi => Tab.find_set_other _ _ hi, hother, hslot, rfl, rfl, rfl, rfl⟩
    exact (congrArg Option.isSome ((State.entryOf_congr (s := s.entryAccept list idx) (State.withFrame_lists ..) list idx).trans
      (State.begun_accepted h))).trans rfl
  · refine completes_frame_full h hopen hfull ?_ (by decide)
    rw [frame_conds hrest hready hown hclosing]
    rfl
  · refine completes_frame_full h hopen hfull ?_ (by decide)
    rw [decide_eq_true hready, Bool.or_true, Bool.true_or, Bool.true_or]
    cases s.slotForeign (e.field 4 2) l.job <;> rfl

end Sys2Proof.Proofs
end

section
/-! Proofs about a single step and about reset. -/

namespace Sys2Proof.Proofs

open Sys2Proof.Machine

/-- Settles O1: the queue decides which command a step runs. -/
theorem stepRunsFront : Obligations.StepRunsFront := by
  intro c rest s h
  unfold step
  rw [h]

/-- Settles O3: every table, log and memory is empty at reset, and the node ID is 1. -/
theorem resetHasInvariant : Obligations.ResetHasInvariant :=
  ⟨by decide, by decide, by decide, by decide, by decide, by decide, by simp [State.reset, Tab.rises, Tab.empty]⟩

end Sys2Proof.Proofs
end

section
/-! How a command's changes are bounded by a list of fields: the step that leads to its state carries the list's own mask. -/

namespace Sys2Proof.Machine

/-- The mask of a list of fields. -/
def maskOf : List Field → Nat
  | [] => 0
  | f :: r => Nat.lor (2 ^ f.idx) (maskOf r)

/-- The field of an index; an index names one field only. -/
def Field.ofIdx (n : Nat) : Option Field := ([.now, .wafer, .beat, .sessions, .hostA, .hostB, .sq, .cq, .lastRing, .msix, .pba, .lists, .nextList,
  .jobs, .frames, .nextFrame, .skips, .setSkips, .tier1, .granules, .tier1Bad, .dram, .od, .can, .boxA, .boxB, .det, .log, .logMade,
  .faultBuffer, .absentEmcy, .replacement, .suspects, .leases, .dma, .moves, .injection, .tiles, .mesh, .attach, .rewardN, .rewardSent,
  .plans, .segs, .segCtr, .conns, .wrs, .nextWr, .ctrs, .ports, .buckets, .nodes, .power, .up, .fuses, .fw, .out, .fresh, .pending] :
  List Field)[n]?

theorem Field.ofIdx_idx (f : Field) : Field.ofIdx f.idx = some f := by cases f <;> rfl

theorem Field.idx_inj {f g : Field} (h : f.idx = g.idx) : f = g := by
  have := f.ofIdx_idx
  rw [h, g.ofIdx_idx] at this
  exact (Option.some.inj this).symm

theorem maskOf_testBit {f : Field} : ∀ {fs : List Field}, (maskOf fs).testBit f.idx = true → f ∈ fs
  | [], h => by simp [maskOf] at h
  | g :: r, h => by
    rw [maskOf, show Nat.lor _ _ = _ ||| _ from rfl, Nat.testBit_lor, Bool.or_eq_true, Nat.testBit_two_pow, decide_eq_true_eq] at h
    exact h.elim (fun e => List.mem_cons.2 (.inl (Field.idx_inj e.symm))) fun e => List.mem_cons_of_mem _ (maskOf_testBit e)

theorem maskIn_maskOf (fs : List Field) : maskIn (maskOf fs) fs = true := by
  unfold maskIn
  refine List.all_eq_true.2 fun f _ => ?_
  rw [Bool.or_eq_true, Bool.not_eq_true', List.contains_iff_mem]
  by_cases h : (maskOf fs).testBit f.idx = true
  · exact .inr (maskOf_testBit h)
  · exact .inl (eq_false_of_ne_true h)

theorem Step.onlyOf {fs : List Field} {s t : State} (k : Step (maskOf fs) s t) : s.onlyChanges fs t := k.only (maskIn_maskOf fs)

/-- A command completes by the step to its state, whose mask is that of the fields listed. -/
theorem completes_step {c : Instr} {s t : State} {fs : List Field} {p : State → Prop} (h : exec c s = .next t) (k : Step (maskOf fs) s t)
    (hp : p t) : completes c s fs p := ⟨t, h, k.onlyOf, hp⟩

theorem settles_step {c : Instr} {s u : State} {fs : List Field} {p : State → Prop} (h : exec c s = .next (State.settle s u))
    (k : Step (maskOf fs) s u) (hp : p u) : settles c s fs p := ⟨u, h, k.onlyOf, hp⟩

/-! ### What a function's record and its reports depend on -/

theorem State.setHost_host_other (s : State) {f g : Fn} (h : HostFn) (hg : g ≠ f) : (s.setHost f h).host g = s.host g := by
  cases f with
  | hostA => cases g with
    | hostA => exact absurd rfl hg
    | hostB => rfl
  | hostB => cases g with
    | hostA => rfl
    | hostB => exact absurd rfl hg

theorem State.host_congr {s t : State} (hA : t.hostA = s.hostA) (hB : t.hostB = s.hostB) (f : Fn) : t.host f = s.host f := by
  cases f
  · exact hA
  · exact hB

theorem State.stamp_congr {s t : State} (hb : t.beat = s.beat) (hn : t.now = s.now) : t.stamp = s.stamp := by
  unfold State.stamp State.lineNow State.tick
  rw [hb, hn]

theorem State.setHost_stamp (s : State) (f : Fn) (h : HostFn) : (s.setHost f h).stamp = s.stamp := State.stamp_congr (by simp) (by simp)

end Sys2Proof.Machine
end

section
/-! Proofs about the host links: a function's reset, its link and its errors. -/

namespace Sys2Proof.Machine

/-- A function whose record alone is set, by its fields in `t`. -/
theorem State.host_of_setHost {s t : State} {f : Fn} {h : HostFn} (hA : t.hostA = (s.setHost f h).hostA) (hB : t.hostB = (s.setHost f h).hostB) :
    t.host f = h ∧ ∀ g, g ≠ f → t.host g = s.host g :=
  ⟨(State.host_congr hA hB f).trans (s.setHost_host f h), fun g hg => (State.host_congr hA hB g).trans (s.setHost_host_other h hg)⟩

/-- A function that is fenced as an owner: its record is set, a detector fires and the function is suspect. -/
theorem settles_fenced {c : Instr} {s : State} {f : Fn} {h : HostFn} {d a : Nat}
    (hx : exec c s = .next (State.settle s (((s.setHost f h).fire d (fnNum f) a).suspect (.owner 1 (fnNum f)) d))) :
    settles c s [.hostA, .hostB, .det, .log, .logMade, .faultBuffer, .suspects] fun u =>
      u.host f = h ∧ (∀ g, g ≠ f → u.host g = s.host g) ∧ s.firedOnce d u ∧ s.suspects1 (.owner 1 (fnNum f)) u := by
  refine settles_step hx (State.suspect_step (State.fire_step (State.setHost_step (Step.refl _ s) (by decide)) (by decide)) (by decide)) ?_
  obtain ⟨hf, hother⟩ := State.host_of_setHost (s := s) (f := f) (h := h)
    (t := ((s.setHost f h).fire d (fnNum f) a).suspect (.owner 1 (fnNum f)) d) (by simp) (by simp)
  exact ⟨hf, hother, State.firedOnce_congr (State.firedOnce_fire (by simp) (s.setHost_stamp f h) d (fnNum f) a) (by simp),
    State.suspects1_suspect (by simp) _ _⟩

theorem settles_functionLevelReset {s : State} {f : Fn} (h : (s.host f).up = true) :
    settles (.functionLevelReset f) s [.hostA, .hostB, .det, .log, .logMade, .faultBuffer, .suspects] fun u =>
      u.host f = { s.host f with flr := true } ∧ (∀ g, g ≠ f → u.host g = s.host g) ∧ s.firedOnce 0x0702 u ∧
      s.suspects1 (.owner 1 (fnNum f)) u := settles_fenced (whenSettled_true h _ _)

theorem settles_hostLinkDown {s : State} {f : Fn} (h : (s.host f).up = true) :
    settles (.hostLinkDown f) s [.hostA, .hostB, .det, .log, .logMade, .faultBuffer, .suspects] fun u =>
      u.host f = { s.host f with up := false, gen := 0, width := 0 } ∧ (∀ g, g ≠ f → u.host g = s.host g) ∧ s.firedOnce 0x0701 u ∧
      s.suspects1 (.owner 1 (fnNum f)) u := by
  refine settles_fenced (a := 6) ((whenSettled_true h _ _).trans ?_)
  unfold State.linkDrop
  rw [if_pos h]

theorem State.clocksFresh_domains (s : State) (l : List Nat) : (s.clocksFresh l).power.domains = s.power.domains := rfl

theorem State.clocksFresh_panels (s : State) (l : List Nat) : (s.clocksFresh l).power.panels = s.power.panels := rfl

theorem settles_hostLinkUp {s : State} {f : Fn} {g : BitVec 4} {w : HostLink} (hdown : (s.host f).up = false)
    (hdom : (s.domainOf (17 + fnNum f)).st = .on) (h1 : 1 ≤ g.toNat) (h5 : g.toNat ≤ 5) (hw : w.width.toNat ∈ [1, 2, 4, 8, 16])
    (hb : 30 ≤ w.bar2) (hl : w.bar2 ≤ s.setting 0x2500 4) :
    settles (.hostLinkUp f g w) s [.hostA, .hostB, .power] fun u =>
      u.host f = { s.host f with up := true, gen := g.toNat, width := w.width.toNat, bar2Log := w.bar2 } ∧
      (∀ h, h ≠ f → u.host h = s.host h) ∧ u.power.domains = s.power.domains ∧ u.power.panels = s.power.panels := by
  have hdue : (!(s.host f).up && (s.domainOf (17 + fnNum f)).st == .on && decide (1 ≤ g.toNat) && decide (g.toNat ≤ 5)
      && (w.width.toNat == 1 || w.width.toNat == 2 || w.width.toNat == 4 || w.width.toNat == 8 || w.width.toNat == 16)
      && decide (pciFunction.bar2Min ≤ w.bar2) && decide (w.bar2 ≤ s.setting 0x2500 4)) = true := by
    have hmin : pciFunction.bar2Min = 30 := rfl
    simp only [List.mem_cons, List.not_mem_nil, or_false] at hw
    simp [hdown, hdom, h1, h5, hb, hl, hmin, hw, or_assoc]
  refine settles_step (whenSettled_true hdue _ _) (State.clocksFresh_step (State.setHost_step (Step.refl _ s) (by decide)) (by decide)) ?_
  obtain ⟨hf, hother⟩ := State.host_of_setHost (s := s) (f := f) rfl rfl
  exact ⟨hf, hother, (State.clocksFresh_domains _ _).trans (by simp), (State.clocksFresh_panels _ _).trans (by simp)⟩

theorem completes_pcieUncorrectableError {s : State} {f : Fn} (h : (s.host f).up = true) :
    completes (.pcieUncorrectableError f) s [.hostA, .hostB, .det, .log, .logMade, .faultBuffer] fun t =>
      t.host f = { s.host f with aer := true } ∧ (∀ g, g ≠ f → t.host g = s.host g) ∧ s.firedOnce 0x0707 t := by
  refine completes_step (whenDue_true h _ _) (State.fire_step (State.setHost_step (Step.refl _ s) (by decide)) (by decide)) ?_
  obtain ⟨hf, hother⟩ := State.host_of_setHost (s := s) (f := f) (h := { s.host f with aer := true })
    (t := (s.setHost f { s.host f with aer := true }).fire 0x0707 (fnNum f) 0) (by simp) (by simp)
  exact ⟨hf, hother, State.firedOnce_fire (by simp) (s.setHost_stamp f _) _ _ _⟩

end Sys2Proof.Machine

namespace Sys2Proof.Proofs

open Sys2Proof.Machine

/-- Settles O17: each event sets its function's record, and what it fires and makes suspect are its own. -/
theorem hostLinks : Obligations.HostLinks :=
  ⟨fun _ _ h => settles_functionLevelReset h, fun _ _ h => settles_hostLinkDown h,
    fun _ _ _ _ hdown hdom h1 h5 hw hb hl => settles_hostLinkUp hdown hdom h1 h5 hw hb hl, fun _ _ h => completes_pcieUncorrectableError h⟩

end Sys2Proof.Proofs
end

section
/-! Proofs about BAR2 and the tile aperture: sound tier 1 and sound tile stores read and write their bytes and report nothing. -/

namespace Sys2Proof.Machine

/-! ### Tables -/

/-- A table in which a value has been set at each key of a list. -/
theorem Tab.get_foldl_set {α : Type} (d v : α) (l : List Nat) (key : Nat → Nat) (i : Nat) : ∀ t : Tab α,
    (l.foldl (fun g k => g.set (key k) v) t).get d i = if i ∈ l.map key then v else t.get d i := by
  induction l with
  | nil => intro t; simp
  | cons k r ih =>
    intro t
    rw [List.foldl_cons, ih]
    by_cases hr : i ∈ r.map key
    · simp [hr]
    · by_cases hk : i = key k
      · subst hk; simp
      · rw [if_neg hr, Tab.get_set_other _ _ _ hk, if_neg (by simp only [List.map_cons, List.mem_cons, not_or]; exact ⟨hk, hr⟩)]

theorem Tab.find_empty {α : Type} (i : Nat) : (Tab.empty : Tab α).find i = none := rfl

/-! ### Sound tier 1 -/

theorem State.tierErrors_sound {s : State} (h : s.tier1Bad = .empty) (a n : Nat) (b : Bool) : s.tierErrors a n b = [] := by
  unfold State.tierErrors
  rw [h]
  rfl

theorem State.tierBad_sound {s : State} (h : s.tier1Bad = .empty) (a n : Nat) : s.tierBad a n = false := by
  unfold State.tierBad
  rw [State.tierErrors_sound h]
  rfl

/-- A read of sound tier 1 reports the granules that were never written, and nothing else (R153). -/
theorem State.tierRead_sound {s : State} (h : s.tier1Bad = .empty) (a n : Nat) {G : Nat} (hG : sub 17593192677376 G = true) :
    Step G s (s.tierRead a n) := by
  unfold State.tierRead
  dsimp only
  rw [State.tierErrors_sound h, State.tierErrors_sound h]
  show Step G s (List.foldl _ s _)
  exact foldl_step (Step.refl G s) fun u x hu =>
    State.fire_step (State.segCount_step hu (sub_trans rfl hG)) (sub_trans rfl hG)

/-- A write of sound tier 1 stores its bytes and marks their granules. -/
theorem State.tierWrite_sound {s : State} (h : s.tier1Bad = .empty) (a : Nat) (bs : List Byte) : s.tierWrite a bs =
    { s with tier1 := s.tier1.writeBytes a bs, granules := (granulesOf a bs.length).foldl (fun g k => g.set k true) s.granules } := by
  unfold State.tierWrite State.tierStop
  rw [State.tierErrors_sound h, State.tierErrors_sound h, h]
  simp only [List.filter_nil, each, List.foldl_nil, List.isEmpty_nil, if_true, ← h]
  rw [h]
  simp [Tab.keep, Tab.empty]

theorem State.tierStrike_nil (s : State) : s.tierStrike [] = s := rfl

/-! ### BAR2 -/

theorem exec_bar2Access_due {s : State} {f : Fn} {off : Nat} {acc : HostAcc} (hup : (s.host f).up = true)
    (hoff : off + accLen acc ≤ 2 ^ (s.host f).bar2Log) (ha : (s.host f).base + off + accLen acc ≤ tier1Size) (hfits : accFits acc = true) :
    ((s.host f).up && decide (off + accLen acc ≤ 2 ^ (s.host f).bar2Log) &&
      decide ((s.host f).base + off + accLen acc ≤ tier1Size) && accFits acc) = true := by
  rw [hup, decide_eq_true hoff, decide_eq_true ha, hfits]
  rfl

theorem accFits_read {n : Nat} (h1 : 1 ≤ n) (h : n ≤ 4096) : accFits (.read n) = true := by
  show (decide (1 ≤ n) && decide (n ≤ 4096)) = true
  rw [decide_eq_true h1, decide_eq_true h]
  rfl

theorem accFits_write {d : List Byte} (b : Bool) (h1 : d ≠ []) (h : d.length ≤ 512) : accFits (.write d b) = true := by
  show (decide (1 ≤ d.length) && decide (d.length ≤ 512)) = true
  rw [decide_eq_true (Nat.succ_le_of_lt (List.length_pos_of_ne_nil h1)), decide_eq_true h]
  rfl

/-- A read of sound tier 1 answers its bytes, not marked as bad. -/
theorem bar2Read_sound {s : State} (h : s.tier1Bad = .empty) (a n : Nat) (f : Fn) :
    (if s.tierBad a n then (each ((s.tierErrors a n true).map fun w => segOf (w * 8)) (fun x g => x.suspect (.dram g) 0x0502)
        (s.tierRead a n)).fire 0x0708 (fnNum f) 0 else s.tierRead a n).send (.hostRead f (s.tier1.readBytes a n) (s.tierBad a n)) =
      (s.tierRead a n).send (.hostRead f (s.tier1.readBytes a n) false) := by
  rw [State.tierBad_sound h, if_neg Bool.false_ne_true]

theorem completes_bar2Read {s : State} {f : Fn} {off n : Nat} (hup : (s.host f).up = true) (hbad : s.tier1Bad = .empty) (h1 : 1 ≤ n)
    (hn : n ≤ 4096) (hoff : off + n ≤ 2 ^ (s.host f).bar2Log) (ha : (s.host f).base + off + n ≤ tier1Size) :
    completes (.bar2Access f off (.read n) []) s [.det, .log, .logMade, .faultBuffer, .segCtr, .out] fun t =>
      (s.dramUp ((s.host f).base + off) n = true →
        t.out = s.out ++ [.hostRead f (s.tier1.readBytes ((s.host f).base + off) n) false]) ∧
      (s.dramUp ((s.host f).base + off) n = false → t.out = s.out ++ [.completerAbort f] ∧ t.det = s.det) := by
  have hx := whenDue_true (exec_bar2Access_due (acc := .read n) hup hoff ha (accFits_read h1 hn)) s
  by_cases hd : s.dramUp ((s.host f).base + off) n = false
  · refine completes_step ((hx _).trans (congrArg Host.Outcome.next (if_pos hd))) (State.send_step (Step.refl _ s) (by decide))
      ⟨fun h => absurd (hd.symm.trans h) Bool.false_ne_true, fun _ => ⟨rfl, rfl⟩⟩
  · refine completes_step (((hx _).trans (congrArg Host.Outcome.next (if_neg hd))).trans (congrArg Host.Outcome.next (bar2Read_sound hbad _ _ f)))
      (State.send_step (State.tierRead_sound hbad _ _ (by decide)) (by decide)) ⟨fun _ => ?_, fun h => absurd h hd⟩
    simp

theorem completes_bar2Write {s : State} {f : Fn} {off : Nat} {d : List Byte} (hs : s.Inv) (hup : (s.host f).up = true)
    (hbad : s.tier1Bad = .empty) (h1 : d ≠ []) (hn : d.length ≤ 512) (hoff : off + d.length ≤ 2 ^ (s.host f).bar2Log)
    (ha : (s.host f).base + off + d.length ≤ tier1Size) (hd : s.dramUp ((s.host f).base + off) d.length = true) :
    completes (.bar2Access f off (.write d false) []) s [.tier1, .granules, .tier1Bad] fun t =>
      t.tier1 = s.tier1.writeBytes ((s.host f).base + off) d ∧ t.tier1.readBytes ((s.host f).base + off) d.length = d ∧
      (∀ b, b < (s.host f).base + off ∨ (s.host f).base + off + d.length ≤ b → t.tier1.read b = s.tier1.read b) ∧
      (∀ g ∈ granulesOf ((s.host f).base + off) d.length, t.granules.get false g = true) ∧
      (∀ g, g ∉ granulesOf ((s.host f).base + off) d.length → t.granules.get false g = s.granules.get false g) ∧ t.tier1Bad = .empty := by
  have hx := whenDue_true (exec_bar2Access_due (acc := .write d false) hup hoff ha (accFits_write _ h1 hn)) s
  refine completes_step (((hx _).trans (congrArg Host.Outcome.next (if_neg (ne_false_of_eq_true hd)))).trans
    (congrArg Host.Outcome.next (State.tierWrite_sound hbad _ _))) ?_ ⟨rfl, Memory.readBytes_writeBytes hs.tier1 _ _, fun b hb => Memory.read_writeBytes_other _ _ hb, fun g hg => ?_,
    fun g hg => ?_, hbad⟩
  · exact Step.put (F := 786432) (Step.refl _ s) (by decide) rfl fun v => ⟨Memory.writeBytes_wf v.1 _ _, v.2, v.3, v.4, v.5, v.6, v.7⟩
  · exact (Tab.get_foldl_set false true _ id g _).trans (if_pos (by simpa using hg))
  · exact (Tab.get_foldl_set false true _ id g _).trans (if_neg (by simpa using hg))

theorem completes_bar2Poisoned {s : State} {f : Fn} {off : Nat} {d : List Byte} (hup : (s.host f).up = true) (h1 : d ≠ [])
    (hn : d.length ≤ 512) (hoff : off + d.length ≤ 2 ^ (s.host f).bar2Log) (ha : (s.host f).base + off + d.length ≤ tier1Size)
    (hd : s.dramUp ((s.host f).base + off) d.length = true) :
    completes (.bar2Access f off (.write d true) []) s [] fun _ => True := by
  have hx := whenDue_true (exec_bar2Access_due (acc := .write d true) hup hoff ha (accFits_write _ h1 hn)) s
  exact completes_step ((hx _).trans (congrArg Host.Outcome.next (if_neg (ne_false_of_eq_true hd)))) (Step.refl _ s) trivial

end Sys2Proof.Machine
end
section
/-! What a write and a read of a tile's store do where the store's words are sound. -/

namespace Sys2Proof.Machine

/-- No word of a range of a store has an error. -/
def Tile.soundAt (t : Tile) (st : StoreSel) (off n : Nat) : Prop := ∀ w ∈ wordsOf off n, t.bad.find (wordKey st w) = none

section

variable {t : Tile} {st : StoreSel} {off n : Nat}

theorem Tile.soundAt_empty (h : t.bad = .empty) : t.soundAt st off n := fun _ _ => by rw [h]; rfl

theorem Tile.blocked_sound (h : t.soundAt st off n) {w : Nat} (hw : w ∈ wordsOf off n) : t.blocked st off n w = false := by
  unfold Tile.blocked
  rw [h w hw]
  rfl

theorem Tile.singlesIn_sound (h : t.soundAt st off n) : t.singlesIn st off n = [] := by
  unfold Tile.singlesIn
  rw [List.filter_eq_nil_iff.2 fun w hw => by rw [h w hw]; simp]
  rfl

theorem Tile.doubleIn_sound (h : t.soundAt st off n) : t.doubleIn st off n = false := by
  unfold Tile.doubleIn
  exact List.any_eq_false.2 fun w hw => by rw [h w hw]; simp

theorem Tile.writeDouble_sound (h : t.soundAt st off n) : t.writeDouble st off n = false := by
  unfold Tile.writeDouble
  exact List.any_eq_false.2 fun w hw => by rw [Tile.blocked_sound h hw]; simp

end

theorem Tile.mem_setMem_same (t : Tile) (st : StoreSel) (m : Memory) : (t.setMem st m).mem st = m := by cases st <;> rfl

theorem Tile.mem_setMem_other (t : Tile) {st q : StoreSel} (m : Memory) (h : q ≠ st) : (t.setMem st m).mem q = t.mem q := by
  cases st <;> cases q <;> simp_all [Tile.setMem, Tile.mem]

theorem Tile.setMem_written (t : Tile) (st : StoreSel) (m : Memory) : (t.setMem st m).written = t.written := by cases st <;> rfl

/-- A record whose stores are those of another reads as the other does. -/
theorem Tile.mem_congr {t u : Tile} (hw : u.w = t.w) (ha : u.a = t.a) (hp : u.p = t.p) (q : StoreSel) : u.mem q = t.mem q := by
  cases q
  · exact hw
  · exact ha
  · exact hp

section

variable (t : Tile) (st : StoreSel) (off : Nat) (bs : List Byte)

/-- A write onto sound words stores its bytes. -/
theorem Tile.mem_writeBytes (h : t.soundAt st off bs.length) : (t.writeBytes st off bs).mem st = (t.mem st).writeBytes off bs := by
  have hstop : (wordsOf off bs.length).filter (t.blocked st off bs.length) = [] :=
    List.filter_eq_nil_iff.2 fun w hw => by rw [Tile.blocked_sound h hw]; simp
  unfold Tile.writeBytes
  rw [hstop]
  exact (Tile.mem_congr rfl rfl rfl st).trans (Tile.mem_setMem_same _ _ _)

theorem Tile.mem_writeBytes_other {q : StoreSel} (h : q ≠ st) : (t.writeBytes st off bs).mem q = t.mem q := by
  unfold Tile.writeBytes
  exact (Tile.mem_congr rfl rfl rfl q).trans (Tile.mem_setMem_other _ _ h)

theorem Tile.writeBytes_written :
    (t.writeBytes st off bs).written = (linesOf off bs.length).foldl (fun w l => w.set (lineKey st l) true) t.written := by
  unfold Tile.writeBytes
  dsimp only
  rw [Tile.setMem_written]

theorem Tile.isWritten_writeBytes {l : Nat} (h : l ∈ linesOf off bs.length) : (t.writeBytes st off bs).isWritten st l = true := by
  unfold Tile.isWritten
  rw [Tile.writeBytes_written, Tab.get_foldl_set]
  exact if_pos (List.mem_map_of_mem h)

end

/-- A read of sound words reports nothing. -/
theorem State.storeEcc_sound {s : State} {k : Nat} {st : StoreSel} {off n : Nat} (h : (s.tileOf k).soundAt st off n) :
    s.storeEcc k st off n = s := by
  unfold State.storeEcc
  simp [Tile.singlesIn_sound h, Tile.doubleIn_sound h]

/-- A write onto sound words changes its tile only. -/
theorem State.storeWrite_sound {s : State} {k : Nat} {st : StoreSel} {off : Nat} {bs : List Byte}
    (h : (s.tileOf k).soundAt st off bs.length) : s.storeWrite k st off bs = s.setTile k ((s.tileOf k).writeBytes st off bs) := by
  unfold State.storeWrite
  simp [Tile.writeDouble_sound h]

end Sys2Proof.Machine
end
section
/-! Proofs about the tile aperture. -/

namespace Sys2Proof.Machine

theorem offStore_lt {off o : Nat} {st : StoreSel} (h : offStore off = some (st, o)) : off < 0x160000 := by
  unfold offStore at h
  split at h
  · omega
  · split at h
    · omega
    · split at h
      · omega
      · cases h

/-- An access to a store of a tile that serves it passes the checks on its offset (R182). -/
structure State.aperOpen (s : State) (f : Fn) (off k o n : Nat) (st : StoreSel) : Prop where
  up : (s.host f).up = true
  valid : (s.host f).aperValid = true
  job : (s.jobOf (s.host f).aperJob).st ≠ .free
  phys : s.wafer.phys (tileLx (s.host f).aperSel) (tileLy (s.host f).aperSel) = some k
  region : (s.jobOf (s.host f).aperJob).region.has (tileLx (s.host f).aperSel) (tileLy (s.host f).aperSel) = true
  store : offStore off = some (st, o)
  range : o + n ≤ storeLines st * 64
  window : off + n ≤ 0x400000
  powered : (s.tileOf k).rangeOff off n = false
  fence : s.fencedAt k = false
  serves : s.extWaits k off n = false
  sound : (s.tileOf k).bad = .empty

section

variable {s : State} {f : Fn} {off k o n : Nat} {st : StoreSel}

theorem State.aperOpen.passes (h : s.aperOpen f off k o n st) {w : Prop} (hw : ¬ w) : ¬ ((s.host f).aperValid = false ∨
    (s.jobOf (s.host f).aperJob).st = .free ∨
    (s.jobOf (s.host f).aperJob).region.has (tileLx (s.host f).aperSel) (tileLy (s.host f).aperSel) = false ∨ offReserved off = true ∨
    windowRange off n = false ∨ (s.tileOf k).rangeOff off n = true ∨ w) := by
  have hres : offReserved off = false := by
    have := offStore_lt h.store
    simp [offReserved, this]
  have hwin : windowRange off n = true := by
    unfold windowRange
    rw [h.store]
    exact decide_eq_true h.range
  simp [h.valid, h.job, h.region, hres, hwin, h.powered, hw]

theorem State.aperOpen.due (h : s.aperOpen f off k o n st) {acc : HostAcc} (hn : accLen acc = n) (hfits : accFits acc = true) :
    ((s.host f).up && decide (off + accLen acc ≤ 0x400000) && accFits acc) = true := by
  rw [h.up, hn, decide_eq_true h.window, hfits]
  rfl

/-- The state after a read of a sound store. -/
theorem State.aperOpen.reads (h : s.aperOpen f off k o n st) : s.extReadEffect k off n =
    s.count 64 0x2300 4 ((linesOf o n).filter fun l => !(s.tileOf k).isWritten st l).length := by
  unfold State.extReadEffect
  simp only [h.store]
  exact State.storeEcc_sound (Tile.soundAt_empty h.sound)

theorem completes_apertureRead (h : s.aperOpen f off k o n st) (h1 : 1 ≤ n) (hn : n ≤ 4096) :
    completes (.apertureAccess f off (.read n)) s [.od, .out, .tiles] fun t =>
      t.out = s.out ++ [.hostRead f ((s.tileOf k).readBytes st o n) false] ∧ t.tiles = s.tiles := by
  have hx : exec (.apertureAccess f off (.read n)) s = .next ((s.extReadEffect k off n).send (.hostRead f (s.extBytes k off n) false)) := by
    show execApertureAccess f off (.read n) s = _
    unfold execApertureAccess
    simp only [h.phys, accLen]
    refine (if_neg (h.passes (by simp))).trans ((if_neg (ne_true_of_eq_false h.fence)).trans ((if_neg (by simp [h.serves])).trans ?_))
    exact whenDue_true (h.due rfl (accFits_read h1 hn)) _ _
  have hbytes : s.extBytes k off n = (s.tileOf k).readBytes st o n := by
    unfold State.extBytes
    simp only [h.store]
  rw [h.reads, hbytes] at hx
  exact completes_step hx (State.send_step (State.count_step (Step.refl _ s) (by decide)) (by decide)) ⟨by simp [State.count], by simp [State.count]⟩

theorem completes_apertureWrite {d : List Byte} (h : s.aperOpen f off k o d.length st) (h1 : 1 ≤ d.length) (hn : d.length ≤ 512)
    (hw : s.inWindow k off d.length = false) :
    completes (.apertureAccess f off (.write d false)) s [.tiles] fun t =>
      (∀ j, j ≠ k → t.tileOf j = s.tileOf j) ∧ (t.tileOf k).mem st = ((s.tileOf k).mem st).writeBytes o d ∧
      (∀ q, q ≠ st → (t.tileOf k).mem q = (s.tileOf k).mem q) ∧ ∀ i ∈ linesOf o d.length, (t.tileOf k).isWritten st i = true := by
  have hx : exec (.apertureAccess f off (.write d false)) s = .next (s.extWrite k off d) := by
    show execApertureAccess f off (.write d false) s = _
    unfold execApertureAccess
    simp only [h.phys, accLen]
    refine (if_neg (h.passes (by simp [hw]))).trans ((if_neg (ne_true_of_eq_false h.fence)).trans ((if_neg (by simp [h.serves])).trans ?_))
    exact whenDue_true (h.due rfl (accFits_write _ (List.ne_nil_of_length_pos h1) hn)) _ _
  have hwrite : s.extWrite k off d = s.setTile k ((s.tileOf k).writeBytes st o d) := by
    unfold State.extWrite
    simp only [h.store]
    exact State.storeWrite_sound (Tile.soundAt_empty h.sound)
  rw [hwrite] at hx
  refine completes_step hx (State.setTile_step (Step.refl _ s) (by decide)) ⟨fun j hj => State.tileOf_setTile_other _ hj _, ?_⟩
  rw [State.tileOf_setTile_same]
  exact ⟨Tile.mem_writeBytes _ _ _ _ (Tile.soundAt_empty h.sound), fun q hq => Tile.mem_writeBytes_other _ _ _ _ hq,
    fun i hi => Tile.isWritten_writeBytes _ _ _ _ hi⟩

/-- A rejected access answers with Completer Abort and fires 0x0709. -/
theorem completes_aperReject {acc : HostAcc} (hx : exec (.apertureAccess f off acc) s = .next (s.aperReject f)) :
    completes (.apertureAccess f off acc) s [.det, .log, .logMade, .faultBuffer, .out] fun t =>
      t.out = s.out ++ [.completerAbort f] ∧ s.firedOnce 0x0709 t := by
  refine completes_step hx (State.send_step (State.fire_step (Step.refl _ s) (by decide)) (by decide)) ⟨?_, ?_⟩
  · simp [State.aperReject]
  · exact State.firedOnce_congr (State.firedOnce_fire rfl rfl 0x0709 (fnNum f) 0) rfl

theorem completes_apertureRejected {acc : HostAcc} (hup : (s.host f).up = true) (hfits : accFits acc = true)
    (hoff : off + accLen acc ≤ 0x400000) (hbad : (s.host f).aperValid = false ∨
      (s.jobOf (s.host f).aperJob).region.has (tileLx (s.host f).aperSel) (tileLy (s.host f).aperSel) = false) :
    completes (.apertureAccess f off acc) s [.det, .log, .logMade, .faultBuffer, .out] fun t =>
      t.out = s.out ++ [.completerAbort f] ∧ s.firedOnce 0x0709 t := by
  have hdue : ((s.host f).up && decide (off + accLen acc ≤ 0x400000) && accFits acc) = true := by
    rw [hup, decide_eq_true hoff, hfits]
    rfl
  refine completes_aperReject ?_
  show execApertureAccess f off acc s = _
  unfold execApertureAccess
  dsimp only
  split
  · exact whenDue_true hdue _ _
  · rw [if_pos (hbad.imp_right fun h => .inr (.inl h))]
    exact whenDue_true hdue _ _

end

end Sys2Proof.Machine

namespace Sys2Proof.Proofs

open Sys2Proof.Machine

/-- Settles O18: BAR2 reaches sound tier 1 and the aperture the sound store of its selected tile; what fails a check is aborted. -/
theorem barWindows : Obligations.BarWindows := by
  refine ⟨fun s f off hs hup hbad => ⟨fun n h1 hn hoff ha => completes_bar2Read hup hbad h1 hn hoff ha,
      fun d h1 hn hoff ha hd => completes_bar2Write hs hup hbad h1 hn hoff ha hd,
      fun d h1 hn hoff ha hd => completes_bar2Poisoned hup h1 hn hoff ha hd⟩,
    fun s f off k o n st hup hvalid hjob hphys hregion hstore h1 hrange hwindow hpowered hfence hserves hsound => ?_,
    fun s f off acc hup hfits hoff hbad => completes_apertureRejected hup hfits hoff hbad⟩
  have h : s.aperOpen f off k o n st := ⟨hup, hvalid, hjob, hphys, hregion, hstore, hrange, hwindow, hpowered, hfence, hserves, hsound⟩
  refine ⟨fun hn => completes_apertureRead h h1 hn, fun d hd hn hw => ?_⟩
  subst hd
  exact completes_apertureWrite h h1 hn hw

end Sys2Proof.Proofs
end

section
/-! What a report may reach besides itself: the detectors and cells that memory, rings and EMCY messages touch on the way. A state that
follows from another this way agrees with it in every other detector and cell. -/

namespace Sys2Proof.Machine

/-- `t` agrees with `s` in the detectors outside `D` and the cells outside `C`. -/
structure Side (D : List Nat) (C : List (Nat × Nat)) (s t : State) : Prop where
  det : ∀ d, d ∉ D → t.detOf d = s.detOf d
  cell : ∀ i j, j < 256 → (i, j) ∉ C → t.cell i j = s.cell i j

/-- The detectors that a write of tier 1, an event record and an EMCY may fire. -/
def sideDets : List Nat := [0x0501, 0x0502, 0x0503, 0x0706, 0x0D04]

/-- The cells in which completion records, event records and EMCYs are counted. -/
def sideCells : List (Nat × Nat) := [(0x2501, 6), (0x2501, 7), (0x1FD2, 8)]

theorem State.detOf_congr {s t : State} (h : t.det = s.det) (d : Nat) : t.detOf d = s.detOf d := by
  unfold State.detOf
  rw [h]

theorem State.cell_congr {s t : State} (h : t.od = s.od) (i j : Nat) : t.cell i j = s.cell i j := by
  unfold State.cell
  rw [h]

theorem State.fire_det (s : State) (d u a : Nat) : (s.fire d u a).det = s.det.set d ⟨((s.detOf d).count + 1) % 2 ^ 64, s.stamp,
    if s.injection.acting then ((s.detOf d).injected + 1) % 2 ^ 32 else (s.detOf d).injected⟩ := by
  unfold State.fire State.fireFull
  dsimp only
  rw [State.logAdd_det]

theorem State.detOf_fire_other (s : State) {d e : Nat} (h : e ≠ d) (u a : Nat) : (s.fire d u a).detOf e = s.detOf e := by
  simp only [State.detOf, State.fire_det]
  exact Tab.get_set_other _ _ _ h

/-- A detector that fires counts once more. -/
theorem State.detOf_fire_count (s : State) (d u a : Nat) : ((s.fire d u a).detOf d).count = ((s.detOf d).count + 1) % 2 ^ 64 := by
  simp [State.detOf, State.fire_det]

theorem State.cell_count_same (s : State) (w i j n : Nat) : (s.count w i j n).cell i j = (s.cell i j + n) % 2 ^ w :=
  s.cell_putCell_same _ _ _

theorem State.cell_bump64_same (s : State) (i j : Nat) : (s.bump64 i j).cell i j = (s.cell i j + 1) % 2 ^ 64 := s.cell_count_same ..

theorem State.cell_count_other (s : State) {w i j n a b : Nat} (ha : a < 256) (hb : b < 256) (h : (i, a) ≠ (j, b)) :
    (s.count w j b n).cell i a = s.cell i a :=
  State.cell_putCell_other s _ ha hb fun e => h (by rw [e.1, e.2])

section

variable {D : List Nat} {C : List (Nat × Nat)} {s0 s t : State}

theorem Side.refl (D : List Nat) (C : List (Nat × Nat)) (s : State) : Side D C s s := ⟨fun _ _ => rfl, fun _ _ _ _ => rfl⟩

theorem Side.trans (h : Side D C s0 s) (k : Side D C s t) : Side D C s0 t :=
  ⟨fun d hd => (k.det d hd).trans (h.det d hd), fun i j hj hc => (k.cell i j hj hc).trans (h.cell i j hj hc)⟩

theorem Side.mono {E : List Nat} {B : List (Nat × Nat)} (h : Side D C s t) (hD : ∀ d ∈ D, d ∈ E) (hC : ∀ c ∈ C, c ∈ B) : Side E B s t :=
  ⟨fun d hd => h.det d fun hm => hd (hD d hm), fun i j hj hc => h.cell i j hj fun hm => hc (hC _ hm)⟩

/-- A change of other fields. -/
theorem Side.put (h : Side D C s0 s) (hd : t.det = s.det) (ho : t.od = s.od) : Side D C s0 t :=
  h.trans ⟨fun d _ => State.detOf_congr hd d, fun i j _ _ => State.cell_congr ho i j⟩

theorem Side.ite {c : Prop} [Decidable c] {u : State} (h : Side D C s0 t) (k : Side D C s0 u) : Side D C s0 (if c then t else u) := by
  split
  · exact h
  · exact k

theorem Side.each {α : Type} {f : State → α → State} (l : List α) (h : Side D C s0 s)
    (hf : ∀ u x, Side D C s0 u → Side D C s0 (f u x)) : Side D C s0 (each l f s) := by
  induction l generalizing s with
  | nil => exact h
  | cons a r ih => exact ih (hf s a h)

theorem State.fire_side (h : Side D C s0 s) {d : Nat} (hd : d ∈ D) (u a : Nat) : Side D C s0 (s.fire d u a) :=
  h.trans ⟨fun e he => State.detOf_fire_other s (fun x : e = d => he (x ▸ hd)) u a, fun i j _ _ => State.cell_congr (by simp) i j⟩

theorem State.count_side (h : Side D C s0 s) {i j : Nat} (hc : (i, j) ∈ C) (hj : j < 256) (w n : Nat) : Side D C s0 (s.count w i j n) :=
  h.trans ⟨fun e _ => State.detOf_congr (by simp [State.count]) e,
    fun _ _ ha hb => State.cell_count_other s ha hj fun x => hb (x ▸ hc)⟩

theorem State.bump64_side (h : Side D C s0 s) {i j : Nat} (hc : (i, j) ∈ C) (hj : j < 256) : Side D C s0 (s.bump64 i j) :=
  State.count_side h hc hj 64 1

theorem State.bump32_side (h : Side D C s0 s) {i j : Nat} (hc : (i, j) ∈ C) (hj : j < 256) : Side D C s0 (s.bump32 i j) :=
  State.count_side h hc hj 32 1

/-! ### Memory, rings and messages -/

theorem State.tierFix_side (h : Side D C s0 s) (hD : ∀ d ∈ sideDets, d ∈ D) (w : Nat) : Side D C s0 (s.tierFix w) := by
  unfold State.tierFix
  refine State.fire_side ?_ (hD 0x0501 (by decide)) _ _
  exact h.put rfl rfl

theorem State.tierLost_side (h : Side D C s0 s) (hD : ∀ d ∈ sideDets, d ∈ D) (w : Nat) : Side D C s0 (s.tierLost w) := by
  unfold State.tierLost
  refine State.fire_side ?_ (hD 0x0502 (by decide)) _ _
  exact h.put rfl rfl

theorem State.tierRead_side (h : Side D C s0 s) (hD : ∀ d ∈ sideDets, d ∈ D) (a n : Nat) : Side D C s0 (s.tierRead a n) := by
  unfold State.tierRead
  refine Side.each _ (Side.each _ (Side.each _ h fun u k hu => ?_) fun u w hu => State.tierFix_side hu hD w)
    fun u w hu => State.tierLost_side hu hD w
  refine State.fire_side ?_ (hD 0x0503 (by decide)) _ _
  exact hu.put rfl rfl

theorem State.tierWrite_side (h : Side D C s0 s) (hD : ∀ d ∈ sideDets, d ∈ D) (a : Nat) (bs : List Byte) :
    Side D C s0 (s.tierWrite a bs) :=
  (Side.each _ (Side.each _ h fun _ w hu => State.tierFix_side hu hD w) fun _ w hu => State.tierLost_side hu hD w).put rfl rfl

theorem State.raise_side (h : Side D C s0 s) (f : Fn) (v : Nat) : Side D C s0 (s.raise f v) := h.put (by simp) (by simp)

theorem State.cqPut_side (h : Side D C s0 s) (hD : ∀ d ∈ sideDets, d ∈ D) (k header : Nat) (body : List Byte) :
    Side D C s0 (s.cqPut k header body) := by
  have hw := State.tierWrite_side h hD ((s.cqOf k).base + (s.cqOf k).producer % 2 ^ (s.cqOf k).log2 * 64)
    (natLe 4 header ++ natLe 4 (s.cqOf k).producer ++ body)
  unfold State.cqPut
  refine Side.ite (State.raise_side ?_ _ _) ?_
  · exact hw.put rfl rfl
  · exact hw.put rfl rfl

variable (hD : ∀ d ∈ sideDets, d ∈ D) (hC : ∀ c ∈ sideCells, c ∈ C)

include hD hC

theorem State.event_side (h : Side D C s0 s) (f : Fn) (code det st : Nat) (data : List Byte) :
    Side D C s0 (s.event f code det st data) := by
  unfold State.event
  refine Side.ite h (Side.ite ?_ ?_)
  · exact State.fire_side ((State.bump64_side h (hC (0x2501, 7) (by decide)) (by decide)).put (by simp) (by simp)) (hD 0x0706 (by decide)) _ _
  · exact State.cqPut_side (h.put (by simp) (by simp)) hD _ _ _

theorem State.eventAll_side (h : Side D C s0 s) (code det st : Nat) (data : List Byte) : Side D C s0 (s.eventAll code det st data) :=
  State.event_side hD hC (State.event_side hD hC h _ _ _ _ _) _ _ _ _ _

theorem State.emcyAt_side (h : Side D C s0 s) (code det st : Nat) : Side D C s0 (s.emcyAt code det st) := by
  unfold State.emcyAt
  dsimp only
  split
  · exact h.put rfl rfl
  · split
    · exact h
    · have hist : Side D C s0 (if code = 0 then s else
          { s with can := { s.can with history := ((code + det * 65536) :: s.can.history).take 8 } }) := Side.ite h (h.put rfl rfl)
      revert hist
      generalize (if code = 0 then s else _) = s1
      intro hist
      split
      · exact hist.put rfl rfl
      · have hb := State.bump32_side hist (hC (0x1FD2, 8) (by decide)) (by decide)
        refine State.fire_side ?_ (hD 0x0D04 (by decide)) _ _
        exact hb.put rfl rfl

theorem State.emcyEvent_side (h : Side D C s0 s) (code det : Nat) (data : List Byte) : Side D C s0 (s.emcyEvent code det data) := by
  unfold State.emcyEvent
  exact Side.ite (State.eventAll_side hD hC (State.emcyAt_side hD hC h _ _ _) _ _ _ _) (State.emcyAt_side hD hC h _ _ _)

end

end Sys2Proof.Machine
end

section
/-! Proofs about a function's registers and doorbells. -/

namespace Sys2Proof.Machine

/-! ### Offsets of a ring's block (R180) -/

theorem engNum_lt_five (e : Engine) : engNum e < 5 := by cases e <;> decide

/-- The offset of register `reg` of a submission (`c` = 0) or completion (`c` = 1) ring, taken apart. -/
theorem ringOffset (e : Engine) (n : Byte) {c reg : Nat} (hc : c < 2) (hr : reg < 0x40) :
    let off := 0x200000 + engNum e * 0x40000 + c * 0x20000 + n.toNat * 0x40 + reg
    (0x200000 ≤ off ∧ off < 0x200000 + 5 * 0x40000) ∧ (off - 0x200000) / 0x40000 = engNum e ∧
      (off - 0x200000) % 0x40000 = c * 0x20000 + n.toNat * 0x40 + reg ∧ (off - 0x200000) % 0x40000 % 0x20000 < 0x4000 ∧
      (off - 0x200000) % 0x40000 % 0x20000 / 0x40 = n.toNat ∧ (off - 0x200000) % 0x40000 % 0x40 = reg := by
  have he := engNum_lt_five e
  have hn : n.toNat < 256 := n.isLt
  omega

section

variable (s : State) (f : Fn) (e : Engine) (n : Byte) {reg : Nat}

theorem State.bar0Word_sq (hr : reg < 0x40) :
    s.bar0Word f (0x200000 + engNum e * 0x40000 + 0 * 0x20000 + n.toNat * 0x40 + reg) = (s.sqOf (ringKey e n.toNat)).word false reg := by
  obtain ⟨hin, he, ho, h4, hk, hreg⟩ := ringOffset e n (by decide : 0 < 2) hr
  have hn : n.toNat < 256 := n.isLt
  unfold State.bar0Word ringKey
  dsimp only
  rw [if_pos hin, if_neg (Nat.not_le.2 h4), if_pos (by rw [ho]; omega), he, hk, hreg]

theorem State.bar0Word_cq (hr : reg < 0x40) :
    s.bar0Word f (0x200000 + engNum e * 0x40000 + 1 * 0x20000 + n.toNat * 0x40 + reg) = (s.cqOf (ringKey e n.toNat)).word true reg := by
  obtain ⟨hin, he, ho, h4, hk, hreg⟩ := ringOffset e n (by decide : 1 < 2) hr
  unfold State.bar0Word ringKey
  dsimp only
  rw [if_pos hin, if_neg (Nat.not_le.2 h4), if_neg (by rw [ho]; omega), he, hk, hreg]

/-- An offset outside every block holds a global register. -/
theorem State.bar0Word_global {off : Nat} (h : off < 0x200000 ∨ 0x408100 ≤ off ∧ off < 0x2000000) : s.bar0Word f off = s.globalWord f off := by
  unfold State.bar0Word
  dsimp only
  rw [if_neg (by omega), if_neg (by omega), if_neg (by omega), if_neg (by omega), if_neg (by omega)]

theorem State.globalWord_none {off : Nat} (h : 0x24 < off) : s.globalWord f off = 0 := by
  unfold State.globalWord
  dsimp only
  split <;> omega

end

/-! ### Reads (R180, R217) -/

section

variable {s : State} {f : Fn} (hup : (s.host f).up = true)

include hup

theorem completes_stampLo : completes (.stampLoRead ⟨f, 0x20⟩) s [.hostA, .hostB, .out] fun t =>
    t.out = s.out ++ [.hostRead f (natLe 4 s.stamp) false] ∧ t.host f = { s.host f with stampHi := s.stamp / 2 ^ 32 } ∧
      ∀ g, g ≠ f → t.host g = s.host g := by
  have hdue : ((s.host f).up && 0x20 % 4 == 0 && decide (0x20 < 0x4000000) && !s.otherRow 0x20) = true := by rw [hup]; rfl
  refine completes_step (whenDue_true hdue _ _) (State.send_step (State.setHost_step (Step.refl _ s) (by decide)) (by decide)) ⟨?_, ?_⟩
  · exact congrArg (· ++ _) (State.setHost_out s f _)
  · exact State.host_of_setHost rfl rfl

/-- A read of a register that is neither STAMP_LO nor a doorbell nor of another row returns its dword. -/
theorem completes_bar0Read {off : Nat} (h4 : off % 4 = 0) (h : off < 0x800000) (h20 : off ≠ 0x20) :
    completes (.stampLoRead ⟨f, off⟩) s [.out] fun t => t.out = s.out ++ [.hostRead f (natLe 4 (s.bar0Word f off)) false] := by
  have hrow : s.otherRow off = false := by
    unfold State.otherRow
    rw [decide_eq_false (show ¬ 0x800000 ≤ off by omega), decide_eq_false (show ¬ 0x2100000 ≤ off by omega),
      decide_eq_false (show ¬ 0x2000000 ≤ off by omega)]
    rfl
  have hdue : ((s.host f).up && off % 4 == 0 && decide (off < 0x4000000) && !s.otherRow off) = true := by
    rw [hup, hrow, h4, decide_eq_true (by omega)]
    rfl
  refine completes_step ((whenDue_true hdue _ _).trans (congrArg Host.Outcome.next ((if_neg h20).trans (if_neg (show ¬ (0x1000000 ≤ off ∧ off < _) by omega)))))
    (State.send_step (Step.refl _ s) (by decide)) rfl

/-! ### Ring configuration (R183, R395) -/

theorem exec_ringConfig_sq (e : Engine) (n : Byte) (v : W32) {reg : Nat} (hr : reg < 0x40) :
    exec (.ringConfigWrite f (0x200000 + engNum e * 0x40000 + 0 * 0x20000 + n.toNat * 0x40 + reg) v) s =
      .next (s.ringWrite f false (s.sqOf (ringKey e n.toNat)) reg v.toNat fun r x => { x with sq := x.sq.set (ringKey e n.toNat) r }) := by
  obtain ⟨hin, he, ho, h4, hk, hreg⟩ := ringOffset e n (by decide : 0 < 2) hr
  have hn : n.toNat < 256 := n.isLt
  refine (whenDue_true hup _ _).trans (congrArg Host.Outcome.next ?_)
  unfold ringKey
  rw [if_pos hin, if_pos h4, if_pos (by rw [ho]; omega), he, hk, hreg]

end

/-- A submission ring set alone. -/
theorem State.sqOf_of_set {s t : State} {k : Nat} {r : Ring} (h : t.sq = s.sq.set k r) : t.sqOf k = r ∧ ∀ j, j ≠ k → t.sqOf j = s.sqOf j := by
  unfold State.sqOf
  rw [h]
  exact ⟨Tab.get_set_same _ _ _ _, fun j hj => Tab.get_set_other _ _ _ hj⟩

theorem State.cqOf_of_set {s t : State} {k : Nat} {r : Ring} (h : t.cq = s.cq.set k r) : t.cqOf k = r ∧ ∀ j, j ≠ k → t.cqOf j = s.cqOf j := by
  unfold State.cqOf
  rw [h]
  exact ⟨Tab.get_set_same _ _ _ _, fun j hj => Tab.get_set_other _ _ _ hj⟩

theorem State.sqOf_set (s : State) (k : Nat) (r : Ring) :
    State.sqOf { s with sq := s.sq.set k r } k = r ∧ ∀ j, j ≠ k → State.sqOf { s with sq := s.sq.set k r } j = s.sqOf j := State.sqOf_of_set rfl

theorem State.cqOf_set (s : State) (k : Nat) (r : Ring) :
    State.cqOf { s with cq := s.cq.set k r } k = r ∧ ∀ j, j ≠ k → State.cqOf { s with cq := s.cq.set k r } j = s.cqOf j := State.cqOf_of_set rfl

/-- A cell that is counted is the only one to change. -/
theorem State.otherCells_count (s : State) {w i j n : Nat} (hj : j < 256) : s.otherCells [(i, j)] (s.count w i j n) :=
  fun _ _ hb h => State.cell_count_other s hb hj (by simpa using h)

theorem State.otherCells_congr {s t u : State} {l : List (Nat × Nat)} (h : s.otherCells l t) (ho : u.od = t.od) : s.otherCells l u :=
  fun i j hj hn => (State.cell_congr ho i j).trans (h i j hj hn)

theorem State.sqSet_step (s : State) (q : Tab Ring) {G : Nat} (hG : sub 64 G = true) : Step G s { s with sq := q } :=
  Step.put (F := 64) (Step.refl G s) hG rfl fun v => ⟨v.1, v.2, v.3, v.4, v.5, v.6, v.7⟩

theorem State.cqSet_step {s0 s : State} (q : Tab Ring) {G : Nat} (h : Step G s0 s) (hG : sub 128 G = true) : Step G s0 { s with cq := q } :=
  Step.put (F := 128) h hG rfl fun v => ⟨v.1, v.2, v.3, v.4, v.5, v.6, v.7⟩

/-- A disabled ring takes the low half of its base. -/
theorem completes_ringBase {s : State} {f : Fn} {e : Engine} {n : Byte} {v : W32} (hup : (s.host f).up = true)
    (hoff : (s.sqOf (ringKey e n.toNat)).enable = false) :
    completes (.ringConfigWrite f (0x200000 + engNum e * 0x40000 + n.toNat * 0x40) v) s [.sq] fun t =>
      t.sqOf (ringKey e n.toNat) = { s.sqOf (ringKey e n.toNat) with
        base := (s.sqOf (ringKey e n.toNat)).base / 2 ^ 32 * 2 ^ 32 + v.toNat / 4096 * 4096 } ∧
      ∀ j, j ≠ ringKey e n.toNat → t.sqOf j = s.sqOf j := by
  have hx := exec_ringConfig_sq hup e n v (by decide : 0 < 0x40)
  rw [show 0x200000 + engNum e * 0x40000 + 0 * 0x20000 + n.toNat * 0x40 + 0 = 0x200000 + engNum e * 0x40000 + n.toNat * 0x40 by omega] at hx
  exact completes_step (hx.trans (congrArg Host.Outcome.next (if_neg (ne_true_of_eq_false hoff)))) (State.sqSet_step s _ (by decide)) (State.sqOf_of_set rfl)

/-- An enabled ring ignores the write of its base (R183). -/
theorem completes_ringIgnored {s : State} {f : Fn} {e : Engine} {n : Byte} {v : W32} (hup : (s.host f).up = true)
    (hon : (s.sqOf (ringKey e n.toNat)).enable = true) :
    completes (.ringConfigWrite f (0x200000 + engNum e * 0x40000 + n.toNat * 0x40) v) s [.od, .det, .log, .logMade, .faultBuffer] fun t =>
      t.cell 0x2501 8 = (s.cell 0x2501 8 + 1) % 2 ^ 64 ∧ s.otherCells [(0x2501, 8)] t ∧ s.firedOnce 0x070A t := by
  have hx := exec_ringConfig_sq hup e n v (by decide : 0 < 0x40)
  rw [show 0x200000 + engNum e * 0x40000 + 0 * 0x20000 + n.toNat * 0x40 + 0 = 0x200000 + engNum e * 0x40000 + n.toNat * 0x40 by omega] at hx
  refine completes_step (hx.trans (congrArg Host.Outcome.next (if_pos hon)))
    (State.fire_step (State.bump64_step (Step.refl _ s) (by decide)) (by decide)) ⟨?_, ?_, ?_⟩
  · exact (State.cell_congr (State.fire_od ..) _ _).trans (State.cell_bump64_same _ _ _)
  · exact State.otherCells_congr (State.otherCells_count s (by decide)) (State.fire_od ..)
  · exact State.firedOnce_fire rfl rfl _ _ _

section

variable {s : State} {f : Fn} {e : Engine} {n : Byte} {v : W32} (hup : (s.host f).up = true)
  (hoff : (s.sqOf (ringKey e n.toNat)).enable = false) (hon : bit v.toNat 31 = true)

include hup hoff hon

/-- An ENABLE before service level 1 is ignored and counted (R395). -/
theorem completes_ringEarly (hl : s.up.level = 0) :
    completes (.ringConfigWrite f (0x200000 + engNum e * 0x40000 + n.toNat * 0x40 + 8) v) s [.od] fun t =>
      t.cell 0x2A00 0xB = (s.cell 0x2A00 0xB + 1) % 2 ^ 32 ∧ s.otherCells [(0x2A00, 0xB)] t := by
  have hx := exec_ringConfig_sq hup e n v (by decide : 8 < 0x40)
  unfold State.ringWrite at hx
  simp only [hoff, hon, hl, beq_self_eq_true, Bool.and_true, if_true, Bool.false_eq_true, false_and, if_false] at hx
  rw [show 0x200000 + engNum e * 0x40000 + 0 * 0x20000 + n.toNat * 0x40 + 8 = 0x200000 + engNum e * 0x40000 + n.toNat * 0x40 + 8 by omega] at hx
  exact completes_step hx (State.putCell_step (Step.refl _ s) (by decide))
    ⟨State.cell_putCell_same _ _ _ _, State.otherCells_count s (w := 32) (n := 1) (by decide)⟩

/-- An ENABLE of a size that exists starts the ring with both indices 0 (R183). -/
theorem completes_ringEnable (hl : 0 < s.up.level) (h2 : 2 ≤ bits v.toNat 4 0) (h16 : bits v.toNat 4 0 ≤ 16) :
    completes (.ringConfigWrite f (0x200000 + engNum e * 0x40000 + n.toNat * 0x40 + 8) v) s [.sq] fun t =>
      (∀ j, j ≠ ringKey e n.toNat → t.sqOf j = s.sqOf j) ∧ t.sqOf (ringKey e n.toNat) =
        { base := (s.sqOf (ringKey e n.toNat)).base, log2 := bits v.toNat 4 0, cq := bits v.toNat 12 5, owner := fnOf (bits v.toNat 13 13)
          error := false, vector := 0, enable := true, producer := 0, consumer := 0, reserved := 0, armed := false } := by
  have hx := exec_ringConfig_sq hup e n v (by decide : 8 < 0x40)
  have hl0 : (s.up.level == 0) = false := by simpa using (by omega : s.up.level ≠ 0)
  unfold State.ringWrite at hx
  simp only [hoff, hon, hl0, Bool.and_false, Bool.false_eq_true, false_and, if_false, Ring.fields, h2, h16, and_self, if_true] at hx
  rw [show 0x200000 + engNum e * 0x40000 + 0 * 0x20000 + n.toNat * 0x40 + 8 = 0x200000 + engNum e * 0x40000 + n.toNat * 0x40 + 8 by omega] at hx
  exact completes_step hx (State.sqSet_step s _ (by decide)) (State.sqOf_of_set rfl).symm

end

/-! ### Doorbells (R178, R185, R187) -/

/-- The state in which a doorbell has been heard. -/
def State.rung (s : State) (f : Fn) : State := s.setHost f { s.host f with rang := true }

theorem State.rung_host (s : State) (f : Fn) : (s.rung f).host f = { s.host f with rang := true } ∧ ∀ g, g ≠ f → (s.rung f).host g = s.host g :=
  State.host_of_setHost rfl rfl

theorem State.rung_sq (s : State) (f : Fn) : (s.rung f).sq = s.sq := State.setHost_sq ..

theorem State.rung_cq (s : State) (f : Fn) : (s.rung f).cq = s.cq := State.setHost_cq ..

theorem State.rung_od (s : State) (f : Fn) : (s.rung f).od = s.od := State.setHost_od ..

theorem State.rung_det (s : State) (f : Fn) : (s.rung f).det = s.det := State.setHost_det ..

theorem State.rung_step (s : State) (f : Fn) {G : Nat} (hG : sub 48 G = true) : Step G s (s.rung f) := State.setHost_step (Step.refl G s) hG

/-- A ring that overruns is in ERROR, which is counted and reported. -/
theorem State.ringError_overrun (s : State) (e : Engine) (n : Nat) :
    (s.ringError e n 1).sq = s.sq.set (ringKey e n) { s.sqOf (ringKey e n) with error := true } ∧
      ((s.ringError e n 1).detOf 0x0703).count = ((s.detOf 0x0703).count + 1) % 2 ^ 64 ∧
      (s.ringError e n 1).cell 0x2501 3 = (s.cell 0x2501 3 + 1) % 2 ^ 64 := by
  unfold State.ringError
  dsimp only
  rw [if_pos rfl]
  have hside : ∀ x f det st data, Side sideDets sideCells x (State.event x f 0xFF30 det st data) := fun x f det st data =>
    State.event_side (fun _ h => h) (fun _ h => h) (Side.refl _ _ x) f _ det st data
  refine ⟨by simp [State.bump64, State.count], ?_, ?_⟩
  · rw [(hside _ _ _ _ _).det 0x0703 (by decide), State.detOf_fire_count]
    rfl
  · rw [(hside _ _ _ _ _).cell 0x2501 3 (by decide) (by decide), State.cell_congr (State.fire_od ..), State.cell_bump64_same]
    rfl

section

variable {s : State} {f : Fn} {e : Engine} {n : Byte} {v : W32} (hup : (s.host f).up = true)

include hup

theorem completes_sqProducer (hown : (s.sqOf (ringKey e n.toNat)).owner = f) (hon : (s.sqOf (ringKey e n.toNat)).enable = true)
    (herr : (s.sqOf (ringKey e n.toNat)).error = false) (hv : v.toNat ≠ (s.sqOf (ringKey e n.toNat)).producer)
    (hfit : (v.toNat + 2 ^ 32 - (s.sqOf (ringKey e n.toNat)).consumer) % 2 ^ 32 ≤ 2 ^ (s.sqOf (ringKey e n.toNat)).log2) :
    completes (.sqDoorbell f e n 4 v) s [.hostA, .hostB, .sq] fun t =>
      t.sqOf (ringKey e n.toNat) = { s.sqOf (ringKey e n.toNat) with producer := v.toNat } ∧
      (∀ j, j ≠ ringKey e n.toNat → t.sqOf j = s.sqOf j) ∧
      t.host f = { s.host f with rang := true } ∧ ∀ g, g ≠ f → t.host g = s.host g := by
  have hx := whenDue_true (show ((s.host f).up && 4 == 4) = true by rw [hup]; rfl) s
  refine completes_step ((hx _).trans (congrArg Host.Outcome.next ((if_neg (not_not.2 hown)).trans ((if_neg ?_).trans
    (if_neg (Nat.not_lt.2 hfit)))))) ((s.rung_step f (by decide)).trans (State.sqSet_step _ _ (by decide))) ?_
  · simp [hon, herr, hv]
  · obtain ⟨hk, hj⟩ := (s.rung f).sqOf_set (ringKey e n.toNat)
      { s.sqOf (ringKey e n.toNat) with producer := v.toNat }
    exact ⟨hk, fun j h => (hj j h).trans (by unfold State.sqOf; rw [State.rung_sq]), s.rung_host f⟩

/-- What an overrun leaves (R185). -/
theorem completes_sqOverrun (hown : (s.sqOf (ringKey e n.toNat)).owner = f) (hon : (s.sqOf (ringKey e n.toNat)).enable = true)
    (herr : (s.sqOf (ringKey e n.toNat)).error = false) (hv : v.toNat ≠ (s.sqOf (ringKey e n.toNat)).producer)
    (hover : 2 ^ (s.sqOf (ringKey e n.toNat)).log2 < (v.toNat + 2 ^ 32 - (s.sqOf (ringKey e n.toNat)).consumer) % 2 ^ 32) :
    completes (.sqDoorbell f e n 4 v) s [.hostA, .hostB, .sq, .cq, .pba, .tier1, .granules, .tier1Bad, .od, .det, .log, .logMade,
        .faultBuffer, .segCtr, .out] fun t =>
      t.sqOf (ringKey e n.toNat) = { s.sqOf (ringKey e n.toNat) with error := true } ∧
      (∀ j, j ≠ ringKey e n.toNat → t.sqOf j = s.sqOf j) ∧
      (t.detOf 0x0703).count = ((s.detOf 0x0703).count + 1) % 2 ^ 64 ∧ t.cell 0x2501 3 = (s.cell 0x2501 3 + 1) % 2 ^ 64 := by
  have hx := whenDue_true (show ((s.host f).up && 4 == 4) = true by rw [hup]; rfl) s
  have hring : (s.rung f).sqOf (ringKey e n.toNat) = s.sqOf (ringKey e n.toNat) := by unfold State.sqOf; rw [State.rung_sq]
  obtain ⟨hq, hdet, hcell⟩ := State.ringError_overrun (s.rung f) e n.toNat
  rw [hring, State.rung_sq] at hq
  obtain ⟨hk, hj⟩ := State.sqOf_of_set hq
  refine completes_step ((hx _).trans (congrArg Host.Outcome.next ((if_neg (not_not.2 hown)).trans ((if_neg ?_).trans (if_pos hover)))))
    (State.ringError_step (s.rung_step f (by decide)) (by decide)) ⟨hk, hj, hdet.trans ?_, hcell.trans ?_⟩
  · simp [hon, herr, hv]
  · exact congrArg (fun r : DetRec => (r.count + 1) % 2 ^ 64) (State.detOf_congr (s.rung_det f) 0x0703)
  · exact congrArg (fun c => (c + 1) % 2 ^ 64) (State.cell_congr (s.rung_od f) 0x2501 3)

omit hup in
theorem State.droppedReport_none {s : State} {f : Fn} (h : (s.host f).dropped = 0) : s.droppedReport f = s := by
  unfold State.droppedReport
  exact if_neg fun hc => hc.1 h

theorem completes_cqConsumer (hown : (s.cqOf (ringKey e n.toNat)).owner = f) (hon : (s.cqOf (ringKey e n.toNat)).enable = true)
    (hdrop : (s.host f).dropped = 0)
    (hfit : (v.toNat + 2 ^ 32 - (s.cqOf (ringKey e n.toNat)).consumer) % 2 ^ 32 ≤ (s.cqOf (ringKey e n.toNat)).used) :
    completes (.cqDoorbell f e n 4 v) s [.hostA, .hostB, .cq] fun t =>
      t.cqOf (ringKey e n.toNat) = { s.cqOf (ringKey e n.toNat) with armed := true, consumer := v.toNat } ∧
      (∀ j, j ≠ ringKey e n.toNat → t.cqOf j = s.cqOf j) ∧ t.host f = { s.host f with rang := true } := by
  have hx := whenDue_true (show ((s.host f).up && 4 == 4) = true by rw [hup]; rfl) s
  have hnone : ∀ q, State.droppedReport { s.rung f with cq := q } f = { s.rung f with cq := q } := fun q =>
    State.droppedReport_none ((congrArg HostFn.dropped (s.rung_host f).1).trans hdrop)
  refine completes_step ((hx _).trans (congrArg Host.Outcome.next ((if_neg (not_not.2 hown)).trans ((if_neg (by rw [hon]; simp)).trans
    ((if_neg (Nat.not_lt.2 hfit)).trans (hnone _)))))) (State.cqSet_step _ (s.rung_step f (by decide)) (by decide)) ?_
  obtain ⟨hk, hj⟩ := (s.rung f).cqOf_set (ringKey e n.toNat)
      { s.cqOf (ringKey e n.toNat) with armed := true, consumer := v.toNat }
  exact ⟨hk, fun j h => (hj j h).trans (by unfold State.cqOf; rw [State.rung_cq]), (s.rung_host f).1⟩

theorem completes_cqBeyond (hown : (s.cqOf (ringKey e n.toNat)).owner = f) (hon : (s.cqOf (ringKey e n.toNat)).enable = true)
    (hover : (s.cqOf (ringKey e n.toNat)).used < (v.toNat + 2 ^ 32 - (s.cqOf (ringKey e n.toNat)).consumer) % 2 ^ 32) :
    completes (.cqDoorbell f e n 4 v) s [.hostA, .hostB, .cq, .od] fun t =>
      t.cqOf (ringKey e n.toNat) = { s.cqOf (ringKey e n.toNat) with armed := true } ∧
      (∀ j, j ≠ ringKey e n.toNat → t.cqOf j = s.cqOf j) ∧
      t.cell 0x2501 5 = (s.cell 0x2501 5 + 1) % 2 ^ 64 ∧ s.otherCells [(0x2501, 5)] t := by
  have hx := whenDue_true (show ((s.host f).up && 4 == 4) = true by rw [hup]; rfl) s
  refine completes_step ((hx _).trans (congrArg Host.Outcome.next ((if_neg (not_not.2 hown)).trans ((if_neg (by rw [hon]; simp)).trans
    (if_pos hover))))) (State.bump64_step (State.cqSet_step _ (s.rung_step f (by decide)) (by decide)) (by decide)) ?_
  obtain ⟨hk, hj⟩ := (s.rung f).cqOf_set (ringKey e n.toNat)
      { s.cqOf (ringKey e n.toNat) with armed := true }
  have hcell : ∀ i j, (s.rung f).cell i j = s.cell i j := State.cell_congr (s.rung_od f)
  refine ⟨hk, fun j h => (hj j h).trans (by unfold State.cqOf; rw [State.rung_cq]), ?_, fun i j hb hn => ?_⟩
  · exact (State.cell_bump64_same _ _ _).trans (congrArg (fun c => (c + 1) % 2 ^ 64) (hcell 0x2501 5))
  · exact ((s.rung f).otherCells_count (w := 64) (n := 1) (by decide) i j hb hn).trans (hcell i j)

end

end Sys2Proof.Machine

namespace Sys2Proof.Proofs

open Sys2Proof.Machine

/-- Settles O19: a register's offset names its ring and field, and each write and doorbell sets that ring alone. -/
theorem ringsAndDoorbells : Obligations.RingsAndDoorbells := by
  refine ⟨fun s f hup => ⟨completes_stampLo hup, fun off v h => ?_⟩,
    fun s f e n v hup => ⟨fun hoff => ⟨completes_ringBase hup hoff, fun hl hon => completes_ringEarly hup hoff hon hl,
      fun hl hon h2 h16 => completes_ringEnable hup hoff hon hl h2 h16⟩, fun hon => completes_ringIgnored hup hon⟩,
    fun s f e n v hup hown hon herr hv => ⟨fun hfit => completes_sqProducer hup hown hon herr hv hfit,
      fun hover => completes_sqOverrun hup hown hon herr hv hover⟩,
    fun s f e n v hup hown hon hdrop => ⟨fun hfit => completes_cqConsumer hup hown hon hdrop hfit,
      fun hover => completes_cqBeyond hup hown hon hover⟩⟩
  have hread : off % 4 = 0 ∧ off < 0x800000 ∧ off ≠ 0x20 ∧ s.bar0Word f off = v := by
    rcases h with ⟨rfl, rfl⟩ | ⟨rfl, rfl⟩ | ⟨rfl, rfl⟩ | ⟨e, n, ⟨rfl, rfl⟩ | ⟨rfl, rfl⟩⟩ | ⟨h5, h8, h4, rfl⟩
    · exact ⟨rfl, by decide, by decide, s.bar0Word_global f (.inl (by decide))⟩
    · exact ⟨rfl, by decide, by decide, s.bar0Word_global f (.inl (by decide))⟩
    · exact ⟨rfl, by decide, by decide, s.bar0Word_global f (.inl (by decide))⟩
    · have he := engNum_lt_five e
      have hn : n.toNat < 256 := n.isLt
      refine ⟨by omega, by omega, by omega, ?_⟩
      rw [show 0x20000C + engNum e * 0x40000 + n.toNat * 0x40 = 0x200000 + engNum e * 0x40000 + 0 * 0x20000 + n.toNat * 0x40 + 0xC by omega]
      exact s.bar0Word_sq f e n (by decide)
    · have he := engNum_lt_five e
      have hn : n.toNat < 256 := n.isLt
      refine ⟨by omega, by omega, by omega, ?_⟩
      rw [show 0x220014 + engNum e * 0x40000 + n.toNat * 0x40 = 0x200000 + engNum e * 0x40000 + 1 * 0x20000 + n.toNat * 0x40 + 0x14 by omega]
      exact s.bar0Word_cq f e n (by decide)
    · exact ⟨h4, h8, by omega, (s.bar0Word_global f (.inr (by omega))).trans (s.globalWord_none f (by omega))⟩
  obtain ⟨h4, h8, h20, rfl⟩ := hread
  exact completes_bar0Read hup h4 h8 h20

end Sys2Proof.Proofs
end

section
/-! Proofs about descriptors and the beginning of entries. -/

namespace Sys2Proof.Machine

/-! ### Other lists -/

/-- Every list but `id` is as it was. -/
def State.otherLists (s : State) (id : Nat) (t : State) : Prop := ∀ i, i ≠ id → t.lists.find i = s.lists.find i

theorem State.otherLists_of_set {s t : State} {id : Nat} {l : ListRun} (h : t.lists = s.lists.set id l) : s.otherLists id t :=
  fun _ hi => by rw [h]; exact Tab.find_set_other _ _ hi

theorem State.otherLists.trans {s t u : State} {id : Nat} (h : s.otherLists id t) (k : t.otherLists id u) : s.otherLists id u :=
  fun i hi => (k i hi).trans (h i hi)

theorem State.otherLists_of_eq {s t : State} {id : Nat} (h : t.lists = s.lists) : s.otherLists id t := fun i _ => by rw [h]

section

variable (s : State) (id : Nat)

theorem State.listPut_others (l : ListRun) (header : Nat) (body : List Byte) : s.otherLists id (s.listPut id l header body) :=
  State.otherLists_of_set (State.listPut_lists ..)

theorem State.listEnd_others (st : Status) (entry executed det at_ : Nat) : s.otherLists id (s.listEnd id st entry executed det at_) := by
  intro i hi
  unfold State.listEnd
  split
  · rfl
  · refine (Tab.find_erase_other _ hi).trans ?_
    exact State.listPut_others _ _ _ _ _ i hi

theorem State.listCheck_others (at_ : Nat) : s.otherLists id (s.listCheck id at_) := by
  intro i hi
  unfold State.listCheck
  split
  · rfl
  · split
    · split <;> exact State.listEnd_others _ _ _ _ _ _ _ i hi
    · rfl

theorem State.entryDoneAt_others (at_ idx : Nat) (st : Status) (det result slot : Nat) :
    s.otherLists id (s.entryDoneAt at_ id idx st det result slot) := by
  intro i hi
  unfold State.entryDoneAt
  split
  · refine (State.listCheck_others _ _ _ i hi).trans ?_
    split
    · rw [State.listPut_others _ _ _ _ _ i hi]
      exact Tab.find_set_other _ _ hi
    · exact Tab.find_set_other _ _ hi
  · rfl

theorem State.entryDone_others (idx : Nat) (st : Status) (det result slot : Nat) : s.otherLists id (s.entryDone id idx st det result slot) :=
  State.entryDoneAt_others s id s.stamp idx st det result slot

theorem State.entryEnd_others (idx : Nat) (st : Status) (det : Nat) : s.otherLists id (s.entryEnd id idx st det) := by
  unfold State.entryEnd
  split
  · exact State.otherLists_of_eq rfl
  · exact State.entryDone_others _ _ _ _ _ _ _

theorem State.entryRefuse_others (idx : Nat) (st : Status) (det : Nat) : s.otherLists id (s.entryRefuse id idx st det) := by
  unfold State.entryRefuse
  split
  · exact State.otherLists_of_eq rfl
  · refine State.otherLists.trans ?_ (State.entryEnd_others _ id idx st det)
    exact State.otherLists_of_set rfl

theorem State.entryAccept_others (idx : Nat) : s.otherLists id (s.entryAccept id idx) := by
  unfold State.entryAccept
  split
  · exact State.otherLists_of_eq rfl
  · exact State.otherLists_of_set rfl

end

/-! ### DESCRIPTOR_FETCH (R186) -/

/-- The list that a descriptor of ring `n` brings into progress. -/
def State.listFor (s : State) (eng : Engine) (n : Nat) : ListRun :=
  let r := s.sqOf (ringKey eng n)
  let q := engNum eng * 256 + r.cq
  let d := s.descriptorAt r.slotAddr (s.cqOf q).log2
  { eng := eng, ring := n, owner := r.owner, cq := q, job := d.job, key := d.key, user := d.user, addr := d.list, count := d.count
    tileCycles := d.tc, streamBytes := d.sb, sqConsumer := (r.consumer + 1) % 2 ^ 32, slots := 1 + d.count, next := 0
    waiting := none, stopped := false, entries := [] }

/-- The state in which a sound descriptor has been taken and its list has come into progress. -/
def State.fetched (s : State) (eng : Engine) (n : Nat) : State :=
  let r := s.sqOf (ringKey eng n)
  let q := engNum eng * 256 + r.cq
  let x := s.tierRead r.slotAddr 64
  State.bump64 { x with
    lastRing := s.lastRing.set (engNum eng) n
    sq := x.sq.set (ringKey eng n) { r with consumer := (r.consumer + 1) % 2 ^ 32 }
    cq := x.cq.set q { s.cqOf q with reserved := (s.cqOf q).reserved + (s.listFor eng n).slots }
    lists := x.lists.set s.nextList (s.listFor eng n)
    nextList := s.nextList + 1 } 0x2501 2

section

variable {s : State} {eng : Engine} {n : Nat}

theorem State.fetched_step : Step (maskOf [.sq, .cq, .lastRing, .lists, .nextList, .tier1Bad, .od, .det, .log, .logMade, .faultBuffer, .segCtr])
    s (s.fetched eng n) := by
  refine State.bump64_step ?_ (by decide)
  refine Step.put (F := 6592) (State.tierRead_step (Step.refl _ s) (by decide)) (by decide) rfl fun v => ?_
  exact ⟨v.1, v.2, v.3, v.4, v.5, v.6, v.7⟩

theorem State.fetched_sq : (s.fetched eng n).sq = s.sq.set (ringKey eng n)
    { s.sqOf (ringKey eng n) with consumer := ((s.sqOf (ringKey eng n)).consumer + 1) % 2 ^ 32 } :=
  congrArg (fun q => Tab.set q _ _) (State.tierRead_sq ..)

theorem State.fetched_cq : (s.fetched eng n).cq = s.cq.set (engNum eng * 256 + (s.sqOf (ringKey eng n)).cq)
    { s.cqOf (engNum eng * 256 + (s.sqOf (ringKey eng n)).cq) with
      reserved := (s.cqOf (engNum eng * 256 + (s.sqOf (ringKey eng n)).cq)).reserved + (s.listFor eng n).slots } :=
  congrArg (fun q => Tab.set q _ _) (State.tierRead_cq ..)

theorem State.fetched_lists : (s.fetched eng n).lists = s.lists.set s.nextList (s.listFor eng n) :=
  congrArg (fun q => Tab.set q _ _) (State.tierRead_lists ..)

theorem State.fetched_nextList : (s.fetched eng n).nextList = s.nextList + 1 := rfl

theorem State.fetched_lastRing : (s.fetched eng n).lastRing.get 255 (engNum eng) = n := Tab.get_set_same _ _ _ _

end

/-- What DESCRIPTOR_FETCH makes of a sound descriptor without a JOPEN at its head. -/
theorem exec_descriptorFetch_sound {s : State} {eng : Engine} {n : Byte} (hfetch : s.fetchable (engNum eng) n.toNat = true)
    (hturn : s.ringTurn (engNum eng) n.toNat = true)
    (htier : s.tierBad (s.sqOf (ringKey eng n.toNat)).slotAddr 64 = false)
    {d : Descriptor} (hd : s.descriptorAt (s.sqOf (ringKey eng n.toNat)).slotAddr
      (s.cqOf (engNum eng * 256 + (s.sqOf (ringKey eng n.toNat)).cq)).log2 = d) (hbad : d.bad = false)
    (hframes : ((s.headersOf d).filter isFrameHeader).length ≤ 1) (hopen : (s.headersOf d).head?.map isJopenHeader = some false) :
    exec (.descriptorFetch eng n) s = .next (
      if (s.jobOf d.job).st = .free ∨ (s.jobOf d.job).key ≠ d.key ∨ 1024 ≤ d.job then
        (s.fetched eng n.toNat).listEnd s.nextList .keyRejected 0 0 0 s.stamp
      else if ((s.headersOf d).filter isFrameHeader).length = 0 then
        ((s.fetched eng n.toNat).count 64 0x2503 6 d.tc).count 64 0x2503 7 d.sb
      else s.fetched eng n.toNat) := by
  obtain ⟨h, r, hh, hjopen⟩ : ∃ h r, s.headersOf d = h :: r ∧ isJopenHeader h = false := by
    cases hh : s.headersOf d with
    | nil => simp [hh] at hopen
    | cons h r => exact ⟨h, r, rfl, by simpa [hh] using hopen⟩
  show execDescriptorFetch eng n s = _
  unfold execDescriptorFetch
  rw [whenDue_true (by rw [hfetch, hturn]; rfl)]
  rw [hh] at hframes
  simp only [hd, hh, htier, hbad, hjopen, Bool.false_eq_true, if_false, false_or, if_neg (Nat.not_lt.2 hframes), true_and]
  subst hd
  rfl

section

variable {s : State} {eng : Engine} {n : Byte} (hfetch : s.fetchable (engNum eng) n.toNat = true)
  (hturn : s.ringTurn (engNum eng) n.toNat = true) (htier : s.tierBad (s.sqOf (ringKey eng n.toNat)).slotAddr 64 = false)
  {d : Descriptor} (hd : s.descriptorAt (s.sqOf (ringKey eng n.toNat)).slotAddr
    (s.cqOf (engNum eng * 256 + (s.sqOf (ringKey eng n.toNat)).cq)).log2 = d) (hbad : d.bad = false)
  (hframes : ((s.headersOf d).filter isFrameHeader).length ≤ 1) (hopen : (s.headersOf d).head?.map isJopenHeader = some false)

include hfetch hturn htier hd hbad hframes hopen

/-- A list of an open job with its key comes into progress; its costs alone are counted where it has no FRAME. -/
theorem exec_descriptorFetch_taken (hst : (s.jobOf d.job).st ≠ .free) (hkey : (s.jobOf d.job).key = d.key) (hjob : d.job < 1024) :
    ∃ t, exec (.descriptorFetch eng n) s = .next t ∧
      Step (maskOf [.od]) (s.fetched eng n.toNat) t := by
  refine ⟨_, exec_descriptorFetch_sound hfetch hturn htier hd hbad hframes hopen, ?_⟩
  rw [if_neg (by rintro (h | h | h); exacts [hst h, h hkey, by omega])]
  split
  · exact State.count_step (State.count_step (Step.refl _ _) (by decide)) (by decide)
  · exact Step.refl _ _

theorem completes_descriptorTaken (hst : (s.jobOf d.job).st ≠ .free) (hkey : (s.jobOf d.job).key = d.key) (hjob : d.job < 1024) :
    completes (.descriptorFetch eng n) s [.sq, .cq, .lastRing, .lists, .nextList, .tier1Bad, .od, .det, .log, .logMade, .faultBuffer,
        .segCtr] fun t =>
      t.sq = (s.fetched eng n.toNat).sq ∧ t.cq = (s.fetched eng n.toNat).cq ∧ t.nextList = s.nextList + 1 ∧
      t.lastRing.get 255 (engNum eng) = n.toNat ∧ t.lists = (s.fetched eng n.toNat).lists := by
  obtain ⟨t, hx, k⟩ := exec_descriptorFetch_taken hfetch hturn htier hd hbad hframes hopen hst hkey hjob
  refine completes_step hx (State.fetched_step.trans (k.mono (by decide)))
    ⟨k.sq (by decide), k.cq (by decide), k.nextList (by decide), ?_, k.lists (by decide)⟩
  rw [k.lastRing (by decide), State.fetched_lastRing]

/-- A list of another key, or of no job, is over at once. -/
theorem completes_descriptorRejected (hnew : s.lists.find s.nextList = none)
    (hkey : (s.jobOf d.job).st = .free ∨ (s.jobOf d.job).key ≠ d.key) :
    completes (.descriptorFetch eng n) s [.sq, .cq, .pba, .lastRing, .lists, .nextList, .tier1, .granules, .tier1Bad, .od, .det, .log,
        .logMade, .faultBuffer, .segCtr, .out] fun t =>
      t.sq = (s.fetched eng n.toNat).sq ∧ t.nextList = s.nextList + 1 ∧ ∀ i, t.lists.find i = s.lists.find i := by
  have hx := exec_descriptorFetch_sound hfetch hturn htier hd hbad hframes hopen
  rw [if_pos (hkey.imp_right .inl)] at hx
  have hend : Step 72075187236637824 (s.fetched eng n.toNat)
      ((s.fetched eng n.toNat).listEnd s.nextList .keyRejected 0 0 0 s.stamp) := State.listEnd_step (Step.refl _ _) (sub_refl _)
  refine completes_step hx ((State.fetched_step.mono (by decide)).trans (hend.mono (by decide)))
    ⟨hend.sq (by decide), hend.nextList (by decide), fun i => ?_⟩
  by_cases hi : i = s.nextList
  · subst hi
    rw [hnew]
    exact State.listEnd_lists (by rw [State.fetched_lists]; exact Tab.find_set_same _ _ _) _ _ _ _ _
  · rw [State.listEnd_others _ _ _ _ _ _ _ i hi, State.fetched_lists]
    exact Tab.find_set_other _ _ hi

end

/-! ### ENTRY_BEGIN (R193) -/

/-- The state in which the next entry of list `id`, which is `l`, has been read and handed over. -/
def State.withEntry (s : State) (id : Nat) (l : ListRun) (e : EntryRun) : State :=
  { s.tierRead (l.addr + 64 * l.next) 64 with
    lists := s.lists.set id { l with next := l.next + 1, waiting := some l.next, entries := l.entries ++ [e] } }

theorem State.withEntry_step (s : State) (id : Nat) (l : ListRun) (e : EntryRun) {G : Nat} (hG : sub 17593193728000 G = true) :
    Step G s (s.withEntry id l e) := by
  refine Step.put (F := 2048) (State.tierRead_step (Step.refl _ s) (sub_trans rfl hG)) (sub_trans rfl hG) rfl fun v => ?_
  exact ⟨v.1, v.2, v.3, v.4, v.5, v.6, v.7⟩

/-- An entry that has just begun is the outstanding one of its index. -/
theorem State.withEntry_entryOf (s : State) (id : Nat) (l : ListRun) (raw : List Byte) (h : ∀ x ∈ l.entries, x.idx < l.next) :
    (s.withEntry id l (entryNew l.next raw)).entryOf id l.next = some (entryNew l.next raw) := by
  unfold State.entryOf State.withEntry
  simp only [Tab.find_set_same]
  rw [List.find?_append, List.find?_eq_none.2 fun x hx => ?_]
  · simp [entryNew]
  · have := h x hx
    simp [Nat.ne_of_lt this]

section

variable {s : State} {id : Nat} {l : ListRun} (hl : s.lists.find id = some l) (hwait : l.waiting = none) (hstop : l.stopped = false)
  (hnext : l.next < l.count) (hidx : ∀ x ∈ l.entries, x.idx < l.next) {e : EntryRun}
  (he : e = entryNew l.next (s.tier1.readBytes (l.addr + 64 * l.next) 64)) (hbarrier : e.wait = true → ∀ x ∈ l.entries, x.status ≠ none)
  (htier : s.tierBad (l.addr + 64 * l.next) 64 = false)

include hl hwait hstop hnext he hbarrier htier

theorem exec_entryBegin_due : exec (.entryBegin id) s = .next (
    if bits (e.field 0 4) 15 13 ≠ 0 ∨ 5 ≤ e.engine ∨ opKnown e.engine e.op = false then
      (s.withEntry id l e).entryRefuse id l.next .badCommand 0 else s.withEntry id l e) := by
  have hdue : (l.waiting.isNone && !l.stopped && decide (l.next < l.count) &&
      (!e.wait || l.entries.all fun x => x.status.isSome)) = true := by
    rw [hwait, hstop, decide_eq_true hnext]
    cases hw : e.wait with
    | false => rfl
    | true => simpa [Option.isSome_iff_ne_none] using hbarrier hw
  subst he
  show execEntryBegin id s = _
  unfold execEntryBegin
  simp only [hl]
  rw [whenDue_true hdue, htier]
  rfl

theorem completes_entryBegin (h0 : bits (e.field 0 4) 15 13 = 0) (hop : opKnown e.engine e.op = true) (h5 : e.engine < 5) :
    completes (.entryBegin id) s [.lists, .tier1Bad, .det, .log, .logMade, .faultBuffer, .segCtr] fun t =>
      t.lists.find id = some { l with next := l.next + 1, waiting := some l.next, entries := l.entries ++ [e] } ∧
      ∀ i, i ≠ id → t.lists.find i = s.lists.find i := by
  have hx := exec_entryBegin_due hl hwait hstop hnext he hbarrier htier
  rw [if_neg (by rintro (h | h | h); exacts [h h0, by omega, by simp [hop] at h])] at hx
  exact completes_step hx (s.withEntry_step id l e (by decide)) ⟨Tab.find_set_same _ _ _, fun i hi => Tab.find_set_other _ _ hi⟩

include hidx in
theorem completes_entryMalformed (h : bits (e.field 0 4) 15 13 ≠ 0 ∨ 5 ≤ e.engine ∨ opKnown e.engine e.op = false) :
    completes (.entryBegin id) s entryFields fun t => t.ended id l.next .badCommand ∧ ∀ i, i ≠ id → t.lists.find i = s.lists.find i := by
  have hx := exec_entryBegin_due hl hwait hstop hnext he hbarrier htier
  rw [if_pos h] at hx
  subst he
  refine completes_step hx (State.entryRefuse_step (s.withEntry_step id l _ (by decide)) (by decide))
    ⟨State.ended_entryRefuse (s.withEntry_entryOf id l _ hidx) _ _, fun i hi => ?_⟩
  rw [State.entryRefuse_others _ _ _ _ _ i hi]
  exact Tab.find_set_other _ _ hi

end

theorem completes_entryNop {s : State} {id idx : Nat} {l : ListRun} {e : EntryRun} (h : s.begun id idx e.engine 0 l e)
    (hrest : e.restZero [] = true) :
    completes (.entryNop id idx) s entryFields fun t => t.ended id idx .ok ∧ ∀ i, i ≠ id → t.lists.find i = s.lists.find i := by
  have hx : exec (.entryNop id idx) s = s.accept id idx e.engine 0 (fun _ e => cond (!e.restZero []) .badCommand)
      fun _ _ x => x.entryDone id idx .ok 0 0 0xFFFF := by
    show execEntryNop id idx s = _
    unfold execEntryNop
    simp only [State.begun_entryOf h]
  have hx2 := hx.trans (State.accept_begun (eff := fun _ _ x => x.entryDone id idx .ok 0 0 0xFFFF) h (by simp [hrest, cond]))
  refine completes_step hx2 (State.entryDone_step (State.entryAccept_step (Step.refl _ s) (by decide)) (by decide)) ⟨?_, fun i hi => ?_⟩
  · exact State.ended_entryDone (State.begun_accepted h) _ _ _ _
  · exact (State.entryDone_others _ _ _ _ _ _ _ i hi).trans (State.entryAccept_others _ _ _ i hi)

end Sys2Proof.Machine

namespace Sys2Proof.Proofs

open Sys2Proof.Machine

/-- Settles O20: a descriptor's list is set in the list table and stays, or ends with the key's status; the next entry is appended to
its list, or refused. -/
theorem descriptorsAndEntries : Obligations.DescriptorsAndEntries := by
  refine ⟨fun s eng n hfetch hturn htier hbad hframes hopen hnew => ⟨fun hst hkey hjob => ?_, fun hkey => ?_⟩,
    ⟨fun s id l hl hwait hstop hnext hidx hbarrier htier =>
      ⟨fun h0 hop h5 => completes_entryBegin hl hwait hstop hnext rfl hbarrier htier h0 hop h5,
        fun h => completes_entryMalformed hl hwait hstop hnext hidx rfl hbarrier htier h⟩,
      fun s id idx l e h hrest => completes_entryNop h hrest⟩⟩
  · obtain ⟨t, hx, ho, hsq, hcq, hnl, hlast, hlists⟩ :=
      completes_descriptorTaken hfetch hturn htier rfl hbad hframes hopen hst hkey hjob
    obtain ⟨hk, hother⟩ := State.sqOf_of_set (hsq.trans State.fetched_sq)
    obtain ⟨hq, hqother⟩ := State.cqOf_of_set (hcq.trans State.fetched_cq)
    refine ⟨t, hx, ho, hk, hother, hq, hqother, hnl, hlast, ?_, fun i hi => ?_⟩
    · rw [hlists, State.fetched_lists]
      exact Tab.find_set_same _ _ _
    · rw [hlists, State.fetched_lists]
      exact Tab.find_set_other _ _ hi
  · obtain ⟨t, hx, ho, hsq, hnl, hlists⟩ := completes_descriptorRejected hfetch hturn htier rfl hbad hframes hopen hnew hkey
    exact ⟨t, hx, ho, (State.sqOf_of_set (hsq.trans State.fetched_sq)).1, hnl, hlists⟩

end Sys2Proof.Proofs
end

section
/-! Store accesses of a running task: on lines of its windows that are powered, sound and, for a read, written. -/

namespace Sys2Proof.Machine

/-! ### States that differ in one tile -/

/-- `x` is `s` but for tile `k`, which reads as `T`. -/
def State.onlyTile (s : State) (k : Nat) (T : Tile) (x : State) : Prop := (∀ y, x.setTile k y = s.setTile k y) ∧ x.tileOf k = T

theorem State.onlyTile_self (s : State) (k : Nat) : s.onlyTile k (s.tileOf k) s := ⟨fun _ => rfl, rfl⟩

theorem State.onlyTile_setTile (s : State) (k : Nat) (T : Tile) : s.onlyTile k T (s.setTile k T) :=
  ⟨fun _ => State.setTile_setTile _ _ _ _, State.tileOf_setTile_same _ _ _⟩

theorem State.onlyTile.set {s x : State} {k : Nat} {T : Tile} (h : s.onlyTile k T x) (U : Tile) : s.onlyTile k U (x.setTile k U) :=
  ⟨fun y => (State.setTile_setTile _ _ _ _).trans (h.1 y), State.tileOf_setTile_same _ _ _⟩

/-- An extension instruction that is done with a change of its tile retires with it. -/
theorem State.ext_retires {s s1 x : State} {t : PhysTile} {c : Core} {code w : Nat} {v : Option Nat} {T : Tile}
    {f : State → Nat → Nat → Nat → ExtOut} (h : s.extAt t c code s1 w) (hf : f s1 w (s1.rs1 t c w) (s1.rs2 t c w) = .done x v)
    (hx : s1.onlyTile (tileKey t) T x) : s.ext t c code f = .next (s1.retired t c w v T) := by
  rw [State.ext_done h hf]
  unfold State.retired
  rw [hx.2, hx.1]

/-! ### Windows after a write -/

section

variable (t : Tile) (st : StoreSel) (off : Nat) (bs : List Byte)

theorem Tile.writeBytes_taskLine (q : StoreSel) (r : Nat) : (t.writeBytes st off bs).taskLine q r = t.taskLine q r := by
  cases st <;> cases q <;> rfl

theorem Tile.writeBytes_lineOff (q : StoreSel) (l : Nat) : (t.writeBytes st off bs).lineOff q l = t.lineOff q l := by
  cases st <;> cases q <;> rfl

theorem Tile.keep_empty {α : Type} (p : Nat → α → Bool) : (Tab.empty : Tab α).keep p = .empty := rfl

theorem Tile.writeBytes_bad (h : t.bad = .empty) : (t.writeBytes st off bs).bad = .empty := by
  have hset : ∀ m : Memory, (t.setMem st m).bad = .empty := fun m => by rw [← h]; cases st <;> rfl
  unfold Tile.writeBytes
  dsimp only
  rw [hset, Tile.keep_empty]

theorem Tile.writeBytes_admits {q : StoreSel} {rs ls : List Nat} (h : t.admits q rs ls) : (t.writeBytes st off bs).admits q rs ls :=
  ⟨t.writeBytes_bad st off bs h.1, h.2.imp fun r l hl => by
    rw [Tile.writeBytes_taskLine, Tile.writeBytes_lineOff]; exact hl⟩

end

theorem Tile.admits_of_holds {t : Tile} {st : StoreSel} {rs ls : List Nat} (h : t.holds st rs ls) : t.admits st rs ls :=
  ⟨h.1, h.2.imp fun _ _ hl => ⟨hl.1, hl.2.1⟩⟩

/-! ### Reads -/

section

variable {s : State} {k : Nat} {st : StoreSel}

theorem State.taskRead_holds {r l : Nat} (h : (s.tileOf k).holds st [r] [l]) (off n req : Nat) :
    s.taskRead k st r off n req = (s, some ((s.tileOf k).readBytes st (l * 64 + off) n)) := by
  obtain ⟨hb, hall⟩ := h
  obtain ⟨⟨hl, ho, hw⟩, -⟩ := List.forall₂_cons.1 hall
  unfold State.taskRead
  simp only [hl, ho, hw, Bool.false_eq_true, if_false, if_true]
  rw [State.storeEcc_sound (Tile.soundAt_empty hb)]

theorem Tile.holds_cons {t : Tile} {r l : Nat} {rs ls : List Nat} (h : t.holds st (r :: rs) (l :: ls)) : t.holds st [r] [l] ∧ t.holds st rs ls := by
  obtain ⟨hl, hr⟩ := List.forall₂_cons.1 h.2
  exact ⟨⟨h.1, List.Forall₂.cons hl .nil⟩, h.1, hr⟩

theorem Tile.admits_cons {t : Tile} {r l : Nat} {rs ls : List Nat} (h : t.admits st (r :: rs) (l :: ls)) : t.admits st [r] [l] ∧ t.admits st rs ls := by
  obtain ⟨hl, hr⟩ := List.forall₂_cons.1 h.2
  exact ⟨⟨h.1, List.Forall₂.cons hl .nil⟩, h.1, hr⟩

/-- Lines that are read in order give their bytes. -/
theorem State.readLines_holds (req : Nat) : ∀ {rs ls : List Nat}, (s.tileOf k).holds st rs ls →
    State.readLines k st req rs s = (s, some ((s.tileOf k).lineBytes st ls).flatten)
  | [], ls, h => by
    obtain rfl := List.forall₂_nil_left_iff.1 h.2
    rfl
  | r :: rs, ls, h => by
    obtain ⟨l, ls, -, -, rfl⟩ := List.forall₂_cons_left_iff.1 h.2
    obtain ⟨hl, hr⟩ := Tile.holds_cons h
    unfold State.readLines
    rw [State.taskRead_holds hl]
    dsimp only
    rw [State.readLines_holds req hr]
    rfl

/-! ### Writes -/

theorem State.taskWrite_admits {r l : Nat} (h : (s.tileOf k).admits st [r] [l]) (off : Nat) (bs : List Byte) (req : Nat) :
    s.taskWrite k st r off bs req = (s.setTile k ((s.tileOf k).writeBytes st (l * 64 + off) bs), true) := by
  obtain ⟨hb, hall⟩ := h
  obtain ⟨⟨hl, ho⟩, -⟩ := List.forall₂_cons.1 hall
  unfold State.taskWrite
  simp only [hl, ho, Bool.false_eq_true, if_false]
  rw [State.storeWrite_sound (Tile.soundAt_empty hb)]

/-- Lines that are written in order take their pieces of the bytes. -/
theorem State.writeLines_admits (req : Nat) : ∀ {rs ls : List Nat} {ds : List (List Byte)} {x : State} {T : Tile}, s.onlyTile k T x →
    T.admits st rs ls → ds.length = rs.length → (∀ d ∈ ds, d.length = 64) →
    ∃ y, State.writeLines k st req rs ds.flatten x = (y, true) ∧ s.onlyTile k (T.putLines st ls ds) y
  | [], ls, ds, x, T, hx, h, _, _ => by
    obtain rfl := List.forall₂_nil_left_iff.1 h.2
    exact ⟨x, rfl, hx⟩
  | r :: rs, ls, [], x, T, hx, h, hlen, _ => by simp at hlen
  | r :: rs, ls, d :: ds, x, T, hx, h, hlen, hd => by
    obtain ⟨l, ls, -, -, rfl⟩ := List.forall₂_cons_left_iff.1 h.2
    obtain ⟨hl, hr⟩ := Tile.admits_cons h
    have hd64 : d.length = 64 := hd d List.mem_cons_self
    unfold State.writeLines
    rw [List.flatten_cons, List.take_left' hd64, List.drop_left' hd64, State.taskWrite_admits (by rw [hx.2]; exact hl), hx.2]
    exact State.writeLines_admits req (hx.set _) (Tile.writeBytes_admits _ _ _ _ hr) (by simpa using hlen)
      fun e he => hd e (List.mem_cons_of_mem _ he)

end

theorem Memory.length_readBytes (m : Memory) (a n : Nat) : (m.readBytes a n).length = n := by
  induction n generalizing a with
  | zero => rfl
  | succ n ih => simp [Memory.readBytes, ih]

theorem Tile.length_readBytes (t : Tile) (st : StoreSel) (off n : Nat) : (t.readBytes st off n).length = n := Memory.length_readBytes ..

theorem Tile.length_of_mem_lineBytes {t : Tile} {st : StoreSel} {ls : List Nat} {d : List Byte} (h : d ∈ t.lineBytes st ls) : d.length = 64 := by
  obtain ⟨l, -, rfl⟩ := List.mem_map.1 h
  exact Tile.length_readBytes ..

end Sys2Proof.Machine
end

section
/-! Proofs about the extension instructions over queue, stamp and stores. -/

namespace Sys2Proof.Machine

/-! ### A task that runs, after a fetch -/

/-- What decides whether the task of tile `k` runs is the same in `t` as in `s`. -/
structure State.sameRun (s : State) (k : Nat) (t : State) : Prop where
  wafer : t.wafer = s.wafer
  power : t.power = s.power
  fenced : (t.tileOf k).fenced = (s.tileOf k).fenced
  paused : (t.tileOf k).paused = (s.tileOf k).paused
  task : (t.tileOf k).task = (s.tileOf k).task

section

variable {s t u : State} {k : Nat}

theorem State.sameRun.trans (h : s.sameRun k t) (g : t.sameRun k u) : s.sameRun k u :=
  ⟨g.wafer.trans h.wafer, g.power.trans h.power, g.fenced.trans h.fenced, g.paused.trans h.paused, g.task.trans h.task⟩

theorem State.sameRun_of_tiles (hw : t.wafer = s.wafer) (hp : t.power = s.power) (ht : t.tiles = s.tiles) : s.sameRun k t := by
  have h : t.tileOf k = s.tileOf k := by unfold State.tileOf; rw [ht]
  exact ⟨hw, hp, congrArg _ h, congrArg _ h, congrArg _ h⟩

theorem State.sameRun_setTile {x : Tile} (hf : x.fenced = (s.tileOf k).fenced) (hp : x.paused = (s.tileOf k).paused)
    (ht : x.task = (s.tileOf k).task) : s.sameRun k (s.setTile k x) :=
  ⟨rfl, rfl, by rw [State.tileOf_setTile_same, hf], by rw [State.tileOf_setTile_same, hp], by rw [State.tileOf_setTile_same, ht]⟩

theorem State.sameRun.tileRuns (h : s.sameRun k t) : t.tileRuns k = s.tileRuns k := by
  unfold State.tileRuns State.fencedAt State.panelPower
  rw [h.wafer, h.power, h.fenced, h.paused]

theorem State.sameRun.taskRuns (h : s.sameRun k t) : t.taskRuns k = s.taskRuns k := by
  unfold State.taskRuns
  rw [h.tileRuns, h.task]

theorem State.sameRun_fire (s : State) (k d u a : Nat) : s.sameRun k (s.fire d u a) :=
  State.sameRun_of_tiles (by simp) (by simp) (by simp)

theorem State.sameRun_suspect (s : State) (k : Nat) (u : FailUnit) (d : Nat) : s.sameRun k (s.suspect u d) :=
  State.sameRun_of_tiles (by simp) (by simp) (by simp)

theorem State.sameRun_each {α : Type} {f : State → α → State} (hf : ∀ x a, State.sameRun x k (f x a)) (l : List α) (s : State) :
    s.sameRun k (each l f s) := by
  induction l generalizing s with
  | nil => exact State.sameRun_of_tiles rfl rfl rfl
  | cons a r ih => exact (hf s a).trans (ih _)

theorem State.sameRun_ite {c : Prop} [Decidable c] (h : s.sameRun k t) (g : s.sameRun k u) : s.sameRun k (if c then t else u) := by
  split
  · exact h
  · exact g

theorem State.sameRun_storeEcc (s : State) (k : Nat) (st : StoreSel) (off n : Nat) : s.sameRun k (s.storeEcc k st off n) := by
  have hones : ∀ ones : List Nat, s.sameRun k (if ones.isEmpty then s else
      each ones (fun x _ => x.fire 0x0207 (s.wafer.tileUnit k) 0) (s.setTile k { s.tileOf k with
        writeback := (s.tileOf k).writeback ++ ones.filter fun w => !(s.tileOf k).writeback.contains w })) := fun ones => by
    refine State.sameRun_ite (State.sameRun_of_tiles rfl rfl rfl)
      (State.sameRun.trans ?_ (State.sameRun_each (fun x _ => State.sameRun_fire x k _ _ _) _ _))
    exact State.sameRun_setTile rfl rfl rfl
  unfold State.storeEcc
  exact State.sameRun_ite ((hones _).trans ((State.sameRun_fire ..).trans (State.sameRun_suspect ..))) (hones _)

theorem State.sameRun_tileBump (s : State) (k off n : Nat) : s.sameRun k (s.tileBump k off n) := by
  have hset : s.sameRun k (s.setTile k ((s.tileOf k).bump off n)) := State.sameRun_setTile rfl rfl rfl
  unfold State.tileBump
  dsimp only
  split
  · exact hset.trans (State.sameRun_of_tiles rfl rfl rfl)
  · exact hset

/-- A read that gives bytes lets the task run on. -/
theorem State.sameRun_taskRead {st : StoreSel} {r off n req : Nat} {b : List Byte} (h : s.taskRead k st r off n req = (t, some b)) :
    s.sameRun k t := by
  unfold State.taskRead at h
  dsimp only at h
  split at h
  · cases h
  · split at h
    · cases h
    · split at h
      · obtain ⟨rfl, -⟩ := Prod.mk.inj h
        exact State.sameRun_storeEcc ..
      · obtain ⟨rfl, hb⟩ := Prod.mk.inj h
        split at hb
        · cases hb
        · rename_i hcold
          unfold State.coldRead
          dsimp only
          rw [if_neg hcold]
          exact (State.sameRun_tileBump ..).trans (State.sameRun_fire ..)

/-- A core that fetches a word has a task that runs. -/
theorem State.fetch_runs {c : Core} {w n : Nat} (hc : s.coreRuns k c = true) (h : s.fetch k c = .word t w n) : t.taskRuns k = true := by
  have hs : s.taskRuns k = true := (Bool.and_eq_true _ _ ▸ (show (s.taskRuns k && _) = true from hc)).1
  suffices s.sameRun k t by rw [this.taskRuns, hs]
  unfold State.fetch at h
  rcases ite_eq_iff.1 h with ⟨-, h⟩ | ⟨-, h⟩
  · cases h
  rcases ite_eq_iff.1 h with ⟨-, h⟩ | ⟨-, h⟩
  · cases h
  rcases ite_eq_iff.1 h with ⟨-, h⟩ | ⟨-, h⟩
  · split at h
    next => cases h
    next hread =>
      obtain ⟨rfl, -, -⟩ := Fetched.word.inj h
      exact State.sameRun_taskRead hread
  · split at h
    next => cases h
    next hread =>
      rcases ite_eq_iff.1 h with ⟨-, h⟩ | ⟨-, h⟩
      · cases h
      split at h
      next => cases h
      next hread2 =>
        obtain ⟨rfl, -, -⟩ := Fetched.word.inj h
        exact (State.sameRun_taskRead hread).trans (State.sameRun_taskRead hread2)

end

end Sys2Proof.Machine
end
section
/-! Proofs about the extension instructions, one by one. -/

namespace Sys2Proof.Machine

section

variable {s s1 : State} {t : PhysTile} {c : Core} {w : Nat}

/-- How an instruction whose command is the extension `f` retires with a change of its tile, and how it waits. -/
theorem exec_retires {i : Instr} {f : State → Nat → Nat → Nat → ExtOut} {code : Nat} {x : State} {v : Option Nat} {T : Tile}
    (hi : exec i s = s.ext t c code f) (h : s.extAt t c code s1 w) (hf : f s1 w (s1.rs1 t c w) (s1.rs2 t c w) = .done x v)
    (hx : s1.onlyTile (tileKey t) T x) : exec i s = .next (s1.retired t c w v T) := hi.trans (State.ext_retires h hf hx)

theorem exec_waits {i : Instr} {f : State → Nat → Nat → Nat → ExtOut} {code : Nat} {x : State} (hi : exec i s = s.ext t c code f)
    (h : s.extAt t c code s1 w) (hf : f s1 w (s1.rs1 t c w) (s1.rs2 t c w) = .stall x) : exec i s = .next x :=
  hi.trans (State.ext_stall h hf)

/-! ### Queue, tags, arrivals, stamps -/

theorem exec_mpush_room (h : s.extAt t c 0 s1 w) (hq : (s1.tileOf (tileKey t)).queue.length < 4) :
    exec (.mpush t c) s = .next (s1.retired t c w none { s1.tileOf (tileKey t) with
      queue := (s1.tileOf (tileKey t)).queue ++ [s1.rs1 t c w + s1.rs2 t c w * 2 ^ 32] }) := by
  refine exec_retires (by unfold exec execMpush; rfl) h ?_ (State.onlyTile_setTile _ _ _)
  exact if_neg (Nat.not_le.2 hq)

theorem exec_mpush_full (h : s.extAt t c 0 s1 w) (hq : 4 ≤ (s1.tileOf (tileKey t)).queue.length) : exec (.mpush t c) s = .next s := by
  refine exec_waits (by unfold exec execMpush; rfl) h ?_
  exact if_pos hq

theorem Tile.hasTag_false {x : Tile} {v : Nat} (h : ∀ i ∈ x.queue ++ x.flights.map (·.word), instOp i ≠ 0 → instTag i ≠ v) :
    x.hasTag v = false := by
  unfold Tile.hasTag
  exact List.any_eq_false.2 fun i hi => by simpa using h i hi

theorem Tile.hasTag_true {x : Tile} {v : Nat} (h : ∃ i ∈ x.queue ++ x.flights.map (·.word), instOp i ≠ 0 ∧ instTag i = v) :
    x.hasTag v = true := by
  unfold Tile.hasTag
  obtain ⟨i, hi, hop, htag⟩ := h
  exact List.any_eq_true.2 ⟨i, hi, by simp [hop, htag]⟩

theorem exec_mwait_done (h : s.extAt t c 1 s1 w) (hq : ∀ i ∈ (s1.tileOf (tileKey t)).queue ++ (s1.tileOf (tileKey t)).flights.map (·.word),
      instOp i ≠ 0 → instTag i ≠ s1.rs1 t c w % 256) :
    exec (.mwait t c) s = .next (s1.retired t c w none (s1.tileOf (tileKey t))) := by
  refine exec_retires (by unfold exec execMwait; rfl) h ?_ (State.onlyTile_self _ _)
  exact if_neg (ne_true_of_eq_false (Tile.hasTag_false hq))

theorem exec_mwait_waits (h : s.extAt t c 1 s1 w) (hq : ∃ i ∈ (s1.tileOf (tileKey t)).queue ++ (s1.tileOf (tileKey t)).flights.map (·.word),
      instOp i ≠ 0 ∧ instTag i = s1.rs1 t c w % 256) : exec (.mwait t c) s = .next s := by
  refine exec_waits (by unfold exec execMwait; rfl) h ?_
  exact if_pos (Tile.hasTag_true hq)

theorem exec_mrecv_done (h : s.extAt t c 9 s1 w) (ha : s1.rs1 t c w ≤ (s1.tileOf (tileKey t)).reg 0x30) :
    exec (.mrecv t c) s = .next (s1.retired t c w (some ((s1.tileOf (tileKey t)).reg 0x30 - s1.rs1 t c w))
      ((s1.tileOf (tileKey t)).setReg 0x30 ((s1.tileOf (tileKey t)).reg 0x30 - s1.rs1 t c w))) := by
  refine exec_retires (by unfold exec execMrecv; rfl) h ?_ (State.onlyTile_setTile _ _ _)
  exact if_neg (Nat.not_lt.2 ha)

theorem exec_mrecv_waits (h : s.extAt t c 9 s1 w) (ha : (s1.tileOf (tileKey t)).reg 0x30 < s1.rs1 t c w) :
    exec (.mrecv t c) s = .next s := by
  refine exec_waits (by unfold exec execMrecv; rfl) h ?_
  exact if_pos ha

theorem exec_wland_done (h : s.extAt t c 11 s1 w) {v : Nat} (hv : (s1.tileOf (tileKey t)).tags.find (s1.rs1 t c w) = some v) (h3 : v < 3) :
    exec (.wland t c) s = .next (s1.retired t c w (some v) (s1.tileOf (tileKey t))) := by
  refine exec_retires (by unfold exec execWland; rfl) h ?_ (State.onlyTile_self _ _)
  rw [hv]
  exact if_pos h3

theorem exec_wland_waits (h : s.extAt t c 11 s1 w)
    (hv : ∀ v, (s1.tileOf (tileKey t)).tags.find (s1.rs1 t c w) = some v → 3 ≤ v) : exec (.wland t c) s = .next s := by
  refine exec_waits (by unfold exec execWland; rfl) h ?_
  split
  next v hf => exact if_neg (Nat.not_lt.2 (hv v hf))
  next => rfl

theorem exec_stamp_low (h : s.extAt t c 12 s1 w) (ha : bit (s1.rs1 t c w) 0 = false) :
    exec (.stamp t c) s = .next (s1.retired t c w (some (s1.stamp % 2 ^ 32)) ((s1.tileOf (tileKey t)).setCore c
      { (s1.tileOf (tileKey t)).core c with stampHi := s1.stamp / 2 ^ 32 })) := by
  refine exec_retires (by unfold exec execStamp; rfl) h ?_ (State.onlyTile_setTile _ _ _)
  exact if_neg (ne_true_of_eq_false ha)

theorem exec_stamp_high (h : s.extAt t c 12 s1 w) (ha : bit (s1.rs1 t c w) 0 = true) :
    exec (.stamp t c) s = .next (s1.retired t c w (some ((s1.tileOf (tileKey t)).core c).stampHi) (s1.tileOf (tileKey t))) := by
  refine exec_retires (by unfold exec execStamp; rfl) h ?_ (State.onlyTile_self _ _)
  exact if_pos ha

theorem Tile.setCore_task (x : Tile) (c : Core) (y : CoreSt) : (x.setCore c y).task = x.task := by cases c <;> rfl

/-- A tile whose task is set to what it is stays as it is. -/
theorem Tile.with_task {x : Tile} {q : Option Task} (h : x.task = q) : { x with task := q } = x := by subst h; rfl

theorem exec_tend_done (h : s.extAt t c 13 s1 w) {q : Task} (hq : (s1.tileOf (tileKey t)).task = some q) :
    exec (.tend t c) s = .next (s1.retired t c w none
      { (s1.tileOf (tileKey t)).setCore c { (s1.tileOf (tileKey t)).core c with halted := true } with
        task := some { q with tend := if q.tend.isSome then q.tend else some (s1.rs1 t c w % 256) } }) := by
  refine exec_retires (by unfold exec execTend; rfl) h rfl ?_
  rw [hq]
  dsimp only
  cases ht : q.tend with
  | none => exact State.onlyTile_setTile _ _ _
  | some v =>
    have hsame : some { q with tend := some v } = some q := by rw [← ht]
    rw [Option.isSome_some, if_pos rfl, if_pos rfl, hsame, Tile.with_task ((Tile.setCore_task _ _ _).trans hq)]
    exact State.onlyTile_setTile _ _ _

/-! ### Fills -/

/-- The vectors of a fill whose lines can be read, in order. -/
theorem State.fillRead_holds {x : State} {k n : Nat} : ∀ {at_ : List (Nat × Nat)} {ls : List Nat},
    (x.tileOf k).holds .a (at_.map Prod.fst) ls →
    State.fillRead k n at_ x = (x, (ls.zip at_).map fun l => (x.tileOf k).readBytes .a (l.1 * 64 + l.2.2) n, true)
  | [], ls, h => by
    obtain rfl := List.forall₂_nil_left_iff.1 h.2
    rfl
  | (r, o) :: rs, ls, h => by
    obtain ⟨l, ls, -, -, rfl⟩ := List.forall₂_cons_left_iff.1 h.2
    obtain ⟨hl, hr⟩ := Tile.holds_cons h
    unfold State.fillRead
    rw [State.taskRead_holds hl]
    dsimp only
    rw [State.fillRead_holds hr]
    rfl

theorem exec_ffill_done (h : s.extAt t c 2 s1 w) {two : Bool} {size : Nat} (h76 : bits (s1.rs2 t c w) 7 6 = 0)
    (htwo : (bit (s1.rs2 t c w) 4 || bit (s1.rs2 t c w) 5) = two) (hsize : (if two then 64 else 32) = size)
    (h31 : bits (s1.rs2 t c w) 31 16 = 0) (h15 : bits (s1.rs2 t c w) 15 8 ≠ 0)
    (hal : ∀ i, i < bits (s1.rs2 t c w) 3 0 + 1 → (s1.rs1 t c w + i * (bits (s1.rs2 t c w) 15 8 * 32)) % size = 0)
    (hroom : (s1.tileOf (tileKey t)).feeders.length + (bits (s1.rs2 t c w) 3 0 + 1) ≤ 16) {ls : List Nat} {at_ : List (Nat × Nat)}
    (hat : (s1.tileOf (tileKey t)).fillAt (s1.rs1 t c w) (bits (s1.rs2 t c w) 15 8 * 32) (bits (s1.rs2 t c w) 3 0 + 1) = at_)
    (hls : (s1.tileOf (tileKey t)).holds .a (at_.map Prod.fst) ls) :
    exec (.ffill t c none) s = .next (s1.retired t c w none { s1.tileOf (tileKey t) with
      feeders := (s1.tileOf (tileKey t)).feeders ++ (ls.zip at_).map fun l =>
        (⟨bit (s1.rs2 t c w) 4, entriesOf two ((s1.tileOf (tileKey t)).readBytes .a (l.1 * 64 + l.2.2) size)⟩ : FeedVec) }) := by
  have hany : (List.range (bits (s1.rs2 t c w) 3 0 + 1)).any
      (fun i => (s1.rs1 t c w + i * (bits (s1.rs2 t c w) 15 8 * 32)) % size != 0) = false :=
    List.any_eq_false.2 fun i hi => by simp [hal i (List.mem_range.1 hi)]
  have hruns : ∀ y : Tile, y.fenced = (s1.tileOf (tileKey t)).fenced → y.paused = (s1.tileOf (tileKey t)).paused →
      y.task = (s1.tileOf (tileKey t)).task → (s1.setTile (tileKey t) y).taskRuns (tileKey t) = true := fun y hf hp ht => by
    rw [(State.sameRun_setTile hf hp ht).taskRuns, State.fetch_runs h.1 h.2.1]
  refine exec_retires (by unfold exec execFfill; rfl) h ?_ (State.onlyTile_setTile _ _ _)
  dsimp only
  rw [if_neg (by simp [h76, h31, h15]), htwo, hsize, hany, if_neg Bool.false_ne_true, if_neg (Nat.not_lt.2 hroom), hat,
    State.fillRead_holds hls]
  simp only [State.bankMeet, if_true]
  rw [List.map_map]
  refine if_pos (hruns _ ?_ ?_ ?_)
  · rfl
  · rfl
  · rfl

/-! ### Saturation flags -/

/-- The lines that a task reaches from a window's line on lie at the window's base and beyond. -/
theorem Tile.mem_lines_of_admits {T : Tile} {r i n l : Nat} {ls : List Nat} (h : T.admits .p ((List.range' i n).map (r + ·)) ls) (hl : l ∈ ls) :
    T.pBase + r + i ≤ l := by
  obtain ⟨-, hall⟩ := h
  induction n generalizing i ls with
  | zero =>
    obtain rfl := List.forall₂_nil_left_iff.1 hall
    cases hl
  | succ n ih =>
    obtain ⟨m, ls, ⟨hm, -⟩, hr, rfl⟩ := List.forall₂_cons_left_iff.1 hall
    rcases List.mem_cons.1 hl with rfl | hl
    · unfold Tile.taskLine at hm
      split at hm
      · have hm' : T.pBase + (r + i) = l := Option.some.inj hm
        omega
      · cases hm
    · have := ih hl hr
      omega

theorem Tile.taskLine_base {T : Tile} {r l : Nat} (h : T.taskLine .p r = some l) : l = T.pBase + r := by
  unfold Tile.taskLine at h
  split at h
  · exact (Option.some.inj h).symm
  · cases h

theorem Tab.get_erase_other {α : Type} (t : Tab α) (d : α) {k i : Nat} (h : i ≠ k) : (t.erase k).get d i = t.get d i := by
  unfold Tab.get
  rw [Tab.find_erase_other _ h]

/-- The tile after PSAT has read, and cleared where asked, the flags of some lines. -/
def Tile.satRead (T : Tile) (clear : Bool) (ls : List Nat) : Tile := if clear then { T with sat := ls.foldl Tab.erase T.sat } else T

theorem Tile.satRead_cons (T : Tile) (clear : Bool) (l : Nat) (ls : List Nat) :
    T.satRead clear (l :: ls) = (T.satRead clear [l]).satRead clear ls := by cases clear <;> rfl

theorem Tile.satRead_admits {T : Tile} {rs ls : List Nat} (clear : Bool) (ms : List Nat) (h : T.admits .p rs ls) :
    (T.satRead clear ms).admits .p rs ls := by cases clear <;> exact h

theorem Tile.satRead_isWritten (T : Tile) (clear : Bool) (ms : List Nat) (st : StoreSel) (l : Nat) :
    (T.satRead clear ms).isWritten st l = T.isWritten st l := by cases clear <;> rfl

theorem Tile.satRead_sat (T : Tile) (clear : Bool) {l m : Nat} (h : m ≠ l) : (T.satRead clear [l]).sat.get false m = T.sat.get false m := by
  cases clear
  · rfl
  · exact Tab.get_erase_other _ _ h

/-- What PSAT makes of the flags of some lines, from bit `i` on. -/
def Tile.satWord (T : Tile) (ls : List Nat) (i : Nat) : Nat :=
  ((ls.zipIdx i).map fun l => flag (T.sat.get false l.1 && T.isWritten .p l.1) * 2 ^ l.2).sum

theorem Tile.satWord_congr {T U : Tile} {ls : List Nat} (h : ∀ l ∈ ls, U.sat.get false l = T.sat.get false l ∧ U.isWritten .p l = T.isWritten .p l)
    (i : Nat) : U.satWord ls i = T.satWord ls i := by
  unfold Tile.satWord
  congr 1
  refine List.map_congr_left fun p hp => ?_
  obtain ⟨hs, hw⟩ := h p.1 (List.fst_mem_of_mem_zipIdx hp)
  rw [hs, hw]

/-- Flags of lines that a task may reach, as PSAT reads them, and what it clears. -/
theorem State.psatLines_admits {k r : Nat} {clear : Bool} {y : State} : ∀ {n i : Nat} {ls : List Nat} {x : State} {T : Tile},
    y.onlyTile k T x → T.admits .p ((List.range' i n).map (r + ·)) ls →
    ∃ z, State.psatLines k r clear n i x = (z, some (T.satWord ls i)) ∧ y.onlyTile k (T.satRead clear ls) z
  | 0, i, ls, x, T, hx, h => by
    obtain rfl := List.forall₂_nil_left_iff.1 h.2
    refine ⟨x, rfl, ?_⟩
    cases clear <;> exact hx
  | n + 1, i, ls, x, T, hx, h => by
    obtain ⟨l, ls, ⟨hl, ho⟩, hr, rfl⟩ := List.forall₂_cons_left_iff.1 h.2
    have hrest : T.admits .p ((List.range' (i + 1) n).map (r + ·)) ls := ⟨h.1, hr⟩
    have hset : y.onlyTile k (T.satRead clear [l]) (if clear then x.setTile k { T with sat := T.sat.erase l } else x) := by
      cases clear
      · exact hx
      · exact hx.set _
    obtain ⟨z, hz, hy⟩ := State.psatLines_admits hset (Tile.satRead_admits clear [l] hrest)
    have hword : (T.satRead clear [l]).satWord ls (i + 1) = T.satWord ls (i + 1) := by
      refine Tile.satWord_congr (fun m hm => ⟨Tile.satRead_sat _ _ ?_, Tile.satRead_isWritten ..⟩) _
      have := Tile.mem_lines_of_admits hrest hm
      have := Tile.taskLine_base (r := r + i) hl
      omega
    refine ⟨z, ?_, by rw [Tile.satRead_cons]; exact hy⟩
    unfold State.psatLines
    simp only [hx.2, hl, ho, Bool.false_eq_true, if_false]
    rw [hz, hword]
    rfl

theorem exec_psat_done (h : s.extAt t c 3 s1 w) {ls : List Nat}
    (hls : (s1.tileOf (tileKey t)).admits .p ((List.range 32).map (s1.rs1 t c w + ·)) ls)
    (hbusy : (s1.tileOf (tileKey t)).pathBusy ((List.range 32).map (s1.rs1 t c w + ·)) = false) :
    exec (.psat t c) s = .next (s1.retired t c w (some ((s1.tileOf (tileKey t)).satWord ls 0))
      ((s1.tileOf (tileKey t)).satRead (bit (s1.rs2 t c w) 0) ls)) := by
  rw [List.range_eq_range'] at hls
  obtain ⟨z, hz, hy⟩ := State.psatLines_admits (clear := bit (s1.rs2 t c w) 0) (State.onlyTile_self s1 (tileKey t)) hls
  refine exec_retires (by unfold exec execPsat; rfl) h ?_ hy
  dsimp only
  rw [hbusy, if_neg Bool.false_ne_true, hz]

/-! ### Copies, table look-ups, sends -/

theorem Tile.length_span (t : Tile) (st : StoreSel) (r n : Nat) : (t.span st r n).length = n := by simp [Tile.span]

theorem exec_acopy_done (h : s.extAt t c 5 s1 w) (ha : s1.rs1 t c w % 64 = 0) (hb : s1.rs2 t c w % 64 = 0) {ls ds : List Nat}
    (hls : (s1.tileOf (tileKey t)).holds .a ((s1.tileOf (tileKey t)).span .a (s1.rs1 t c w / 64) (bits w 31 25 + 1)) ls)
    (hds : (s1.tileOf (tileKey t)).admits .a ((s1.tileOf (tileKey t)).span .a (s1.rs2 t c w / 64) (bits w 31 25 + 1)) ds) :
    exec (.acopy t c) s = .next (s1.retired t c w none ((s1.tileOf (tileKey t)).putLines .a ds ((s1.tileOf (tileKey t)).lineBytes .a ls))) := by
  have hlen : ((s1.tileOf (tileKey t)).lineBytes .a ls).length =
      ((s1.tileOf (tileKey t)).span .a (s1.rs2 t c w / 64) (bits w 31 25 + 1)).length := by
    rw [Tile.lineBytes, List.length_map, ← hls.2.length_eq, Tile.length_span, Tile.length_span]
  obtain ⟨z, hz, hy⟩ := State.writeLines_admits extReq (State.onlyTile_self s1 (tileKey t)) hds hlen
    fun d hd => Tile.length_of_mem_lineBytes hd
  refine exec_retires (by unfold exec execAcopy; rfl) h ?_ hy
  dsimp only
  rw [if_neg (not_not.2 ha), if_neg (not_not.2 hb), State.readLines_holds _ hls]
  dsimp only
  rw [hz]

theorem exec_alut_done (h : s.extAt t c 6 s1 w) (ha : s1.rs1 t c w % 64 = 0) (hb : s1.rs2 t c w % 64 = 0) {l d : Nat}
    (hl : (s1.tileOf (tileKey t)).holds .a [s1.rs1 t c w / 64] [l]) (hd : (s1.tileOf (tileKey t)).admits .a [s1.rs2 t c w / 64] [d]) :
    exec (.alut t c) s = .next (s1.retired t c w none ((s1.tileOf (tileKey t)).writeBytes .a (d * 64)
      (((s1.tileOf (tileKey t)).readBytes .a (l * 64) 64).map fun v => (s1.tileOf (tileKey t)).lut.get 0 v.toNat))) := by
  refine exec_retires (by unfold exec execAlut; rfl) h ?_ (State.onlyTile_setTile _ _ _)
  dsimp only
  rw [if_neg (not_not.2 ha), if_neg (not_not.2 hb), State.taskRead_holds hl]
  dsimp only
  rw [State.taskWrite_admits hd]
  rfl

/-- A state with a mesh of its own. -/
def State.withMesh (s : State) (m : List MeshLine) : State := { s with mesh := m }

theorem State.withMesh_tileOf (s : State) (m : List MeshLine) (k : Nat) : (s.withMesh m).tileOf k = s.tileOf k := rfl

/-- Lines that can be read enter the mesh in order. -/
theorem State.sendLines_holds {x : State} {src dst j : Nat} : ∀ {rs ls : List Nat} (off i : Nat) (m : List MeshLine),
    (x.tileOf src).holds .a rs ls → State.sendLines src dst j rs (off + 64 * i) (x.withMesh m) =
      (x.withMesh (m ++ (((x.tileOf src).lineBytes .a ls).zipIdx i).map fun d => ⟨src, dst, off + 64 * d.2, d.1, j⟩), true)
  | [], ls, off, i, m, h => by
    obtain rfl := List.forall₂_nil_left_iff.1 h.2
    simp [State.sendLines, Tile.lineBytes]
  | r :: rs, ls, off, i, m, h => by
    obtain ⟨l, ls, -, -, rfl⟩ := List.forall₂_cons_left_iff.1 h.2
    obtain ⟨hl, hr⟩ := Tile.holds_cons h
    have ih := State.sendLines_holds (dst := dst) (j := j) off (i + 1) (m ++ [⟨src, dst, off + 64 * i, (x.tileOf src).readBytes .a (l * 64) 64, j⟩]) hr
    unfold State.sendLines
    rw [State.taskRead_holds (s := x.withMesh m) hl]
    dsimp only
    rw [show off + 64 * i + 64 = off + 64 * (i + 1) by omega]
    refine Eq.trans ih ?_
    simp [Tile.lineBytes]

theorem exec_msend_done (h : s.extAt t c 8 s1 w) (ha : s1.rs1 t c w % 64 = 0) (hb : bits (s1.rs2 t c w) 17 0 % 64 = 0) {ls : List Nat}
    {dst : Nat} {q : Task}
    (hls : (s1.tileOf (tileKey t)).holds .a ((s1.tileOf (tileKey t)).span .a (s1.rs1 t c w / 64) (bits w 31 25 + 1)) ls)
    (hq : (s1.tileOf (tileKey t)).task = some q)
    (hdst : s1.wafer.phys (bits (s1.rs2 t c w) 24 18) (bits (s1.rs2 t c w) 31 25) = some dst)
    (hreg : (s1.jobOf q.job).region.has (bits (s1.rs2 t c w) 24 18) (bits (s1.rs2 t c w) 31 25) = true) :
    exec (.msend t c) s = .next ((s1.withMesh (s1.mesh ++ ((s1.tileOf (tileKey t)).lineBytes .a ls).zipIdx.map fun d =>
      ⟨tileKey t, dst, bits (s1.rs2 t c w) 17 0 + 64 * d.2, d.1, q.job⟩)).retired t c w none (s1.tileOf (tileKey t))) := by
  have hsend := State.sendLines_holds (dst := dst) (j := q.job) (bits (s1.rs2 t c w) 17 0) 0 s1.mesh hls
  refine (show exec (.msend t c) s = s.ext t c 8 _ by unfold exec execMsend; rfl).trans (State.ext_done h ?_)
  dsimp only
  simp only [hq, hdst, hreg, ha, hb, ne_eq, not_true_eq_false, if_false, Bool.true_eq_false]
  rw [show State.sendLines (tileKey t) dst q.job _ (bits (s1.rs2 t c w) 17 0) s1 = _ from hsend]

end

end Sys2Proof.Machine

namespace Sys2Proof.Proofs

open Sys2Proof.Machine

/-- Settles O21: each instruction's effect is done or stands still by its own condition, and a done one retires. -/
theorem coreQueueAndStoreInstructions : Obligations.CoreQueueAndStoreInstructions :=
  ⟨fun _ _ _ _ _ => ⟨fun h => ⟨exec_mpush_room h, exec_mpush_full h⟩, fun h => ⟨exec_mwait_done h, exec_mwait_waits h⟩,
      fun h => ⟨exec_mrecv_done h, exec_mrecv_waits h⟩, fun h => ⟨fun _ hv h3 => exec_wland_done h hv h3, exec_wland_waits h⟩,
      fun h => ⟨exec_stamp_low h, exec_stamp_high h⟩, fun h _ hq => exec_tend_done h hq⟩,
    fun _ _ _ _ _ => ⟨fun h h76 h31 h15 hal hroom _ hls => exec_ffill_done h h76 rfl rfl h31 h15 hal hroom rfl hls,
      fun h _ hls hbusy => exec_psat_done h hls hbusy, fun h ha hb _ _ hls hds => exec_acopy_done h ha hb hls hds,
      fun h ha hb _ _ hl hd => exec_alut_done h ha hb hl hd,
      fun h ha hb _ _ _ hls hq hdst hreg => exec_msend_done h ha hb hls hq hdst hreg⟩⟩

end Sys2Proof.Proofs
end

section
/-! Proofs about PQNT and CCOUNT. -/

namespace Sys2Proof.Machine

section

variable {s s1 : State} {t : PhysTile} {c : Core} {w : Nat}

/-! ### PQNT (R107) -/

/-- A change of a register changes no window and no store. -/
theorem Tile.setReg_admits {x : Tile} {st : StoreSel} {rs ls : List Nat} (h : x.admits st rs ls) (off v : Nat) : (x.setReg off v).admits st rs ls := by
  cases st <;> exact h

theorem Tile.setReg_holds {x : Tile} {st : StoreSel} {rs ls : List Nat} (h : x.holds st rs ls) (off v : Nat) : (x.setReg off v).holds st rs ls := by
  cases st <;> exact h

theorem State.pqntBytes_of_mode (s : State) {q : Qcfg} (h : q.mode < 4) (b : List Byte) : s.pqntBytes q b =
    (((wordsOfLine b).map q.word).flatMap fun v => natLe (if q.mode = 3 then 2 else 1) v.1, ((wordsOfLine b).map q.word).any (·.2)) := by
  unfold State.pqntBytes
  exact if_neg (Nat.not_le.2 h)

theorem exec_pqnt_done (h : s.extAt t c 4 s1 w) {q : Qcfg}
    (hq : qcfgOf ((s1.tileOf (tileKey t)).reg 0x20) ((s1.tileOf (tileKey t)).reg 0x24) = q) (hmode : q.mode < 4)
    (hb : s1.rs2 t c w % (if q.mode = 3 then 32 else 16) = 0) (hbusy : (s1.tileOf (tileKey t)).pathBusy [s1.rs1 t c w] = false) {l d : Nat}
    (hl : (s1.tileOf (tileKey t)).holds .p [s1.rs1 t c w] [l]) (hd : (s1.tileOf (tileKey t)).admits .a [s1.rs2 t c w / 64] [d])
    {vs : List (Nat × Bool)} (hvs : (wordsOfLine ((s1.tileOf (tileKey t)).readBytes .p (l * 64) 64)).map q.word = vs) :
    exec (.pqnt t c) s = .next (s1.retired t c w none
      ((if vs.any (·.2) then (s1.tileOf (tileKey t)).setReg 0x28 1 else s1.tileOf (tileKey t)).writeBytes .a
        (d * 64 + s1.rs2 t c w % 64) (vs.flatMap fun v => natLe (if q.mode = 3 then 2 else 1) v.1))) := by
  have hread := State.taskRead_holds hl 0 64 extReq
  have hbytes : s1.pqntBytes q ((s1.tileOf (tileKey t)).readBytes .p (l * 64 + 0) 64) =
      (vs.flatMap fun v => natLe (if q.mode = 3 then 2 else 1) v.1, vs.any (·.2)) := by
    rw [State.pqntBytes_of_mode _ hmode, Nat.add_zero, hvs]
  cases hany : vs.any (·.2) with
  | false =>
    refine exec_retires (by unfold exec execPqnt; rfl) h ?_ (State.onlyTile_setTile _ _ _)
    dsimp only
    rw [hq, if_neg (not_not.2 hb), hbusy, if_neg Bool.false_ne_true, hread]
    dsimp only
    rw [hbytes, if_neg (Nat.not_le.2 hmode)]
    dsimp only
    rw [hany, if_neg Bool.false_ne_true, if_neg Bool.false_ne_true, State.taskWrite_admits hd]
  | true =>
    refine exec_retires (by unfold exec execPqnt; rfl) h ?_ ((State.onlyTile_setTile s1 _ ((s1.tileOf (tileKey t)).setReg 0x28 1)).set _)
    dsimp only
    rw [hq, if_neg (not_not.2 hb), hbusy, if_neg Bool.false_ne_true, hread]
    dsimp only
    rw [hbytes, if_neg (Nat.not_le.2 hmode)]
    dsimp only
    rw [hany, if_pos rfl, if_pos rfl, State.taskWrite_admits (by rw [State.tileOf_setTile_same]; exact Tile.setReg_admits hd _ _)]
    rw [State.tileOf_setTile_same]

/-- An INT32 word times QM is shifted with rounding, offset and held to the range of INT8. -/
theorem Qcfg.word_int8 (q : Qcfg) (v : Nat) (hm : q.mode = 0) (hs : 0 < q.qs) (hu : q.u = false) {y : Int}
    (hy : (signed 32 v * q.qm + 2 ^ (q.qs - 1)) / 2 ^ q.qs + q.qz = y) :
    q.word v = (unsigned 8 (max (-128) (min 127 y)), decide (y < -128 ∨ 127 < y)) := by
  unfold Qcfg.word Qcfg.int
  dsimp only
  rw [if_pos hm, if_neg (Nat.ne_of_gt hs), hy, hu, if_neg Bool.false_ne_true, if_neg Bool.false_ne_true]
  refine Prod.ext rfl ?_
  have hiff : max (-128) (min 127 y) = y ↔ -128 ≤ y ∧ y ≤ 127 := by omega
  simp only [bne, Bool.not_eq_eq_eq_not]
  rw [Bool.eq_iff_iff]
  simpa using hiff

/-! ### CCOUNT (R139, R140) -/

theorem State.tileBump_tileOf (s : State) (k off n : Nat) : (s.tileBump k off n).tileOf k = (s.tileOf k).bump off n := by
  unfold State.tileBump
  dsimp only
  split
  · exact State.tileOf_setTile_same ..
  · exact State.tileOf_setTile_same ..

theorem exec_ccount_done (h : s.extAt t c 7 s1 w) (ha : s1.rs1 t c w % 16 = 0) {l : Nat}
    (hl : (s1.tileOf (tileKey t)).holds .a [s1.rs1 t c w / 64] [l]) {d : CcDesc}
    (hd : ccDesc ((s1.tileOf (tileKey t)).readBytes .a (l * 64 + s1.rs1 t c w % 64) 16) = d) (hbad : d.bad (s1.tileOf (tileKey t)) = false)
    (hmask : d.mask = false) (hbusy : d.inP = true → (s1.tileOf (tileKey t)).pathBusy (d.range (s1.tileOf (tileKey t))) = false)
    {ls : List Nat} (hls : (s1.tileOf (tileKey t)).holds d.store (d.range (s1.tileOf (tileKey t))) ls) {es : List Nat}
    (hes : d.elems ((s1.tileOf (tileKey t)).lineBytes d.store ls).flatten = es) (hnum : ∀ v ∈ es, ccElem d.etype v ≠ none) :
    exec (.ccount t c) s = .next ((s1.tileBump (tileKey t) 0x1D4 1).retired t c w
      (some (es.countP fun v => ccMatch d.etype d.cmp v d.t1 d.t2)) ((s1.tileOf (tileKey t)).bump 0x1D4 1)) := by
  have htile := State.tileBump_tileOf s1 (tileKey t) 0x1D4 1
  have hlines := State.readLines_holds (s := s1.tileBump (tileKey t) 0x1D4 1) (k := tileKey t) extReq
    (show (State.tileOf _ (tileKey t)).holds d.store (d.range (s1.tileOf (tileKey t))) ls by rw [htile]; exact Tile.setReg_holds hls _ _)
  have hbytes : Tile.lineBytes (State.tileOf (s1.tileBump (tileKey t) 0x1D4 1) (tileKey t)) d.store ls =
      (s1.tileOf (tileKey t)).lineBytes d.store ls := by
    rw [htile]
    cases d.store <;> rfl
  have hnan : (es.filter fun v => (ccElem d.etype v).isNone).length = 0 := by
    rw [List.length_eq_zero_iff, List.filter_eq_nil_iff]
    exact fun v hv => by simpa using hnum v hv
  have hlines0 : d.maskLines = 0 := by simp [CcDesc.maskLines, hmask]
  have hat : d.maskAt (s1.tileOf (tileKey t)) = [] := by simp [CcDesc.maskAt, hlines0, Tile.span]
  refine (show exec (.ccount t c) s = s.ext t c 7 _ by unfold exec execCcount; rfl).trans ((State.ext_done h ?_).trans (by rw [htile]))
  dsimp only
  rw [if_neg (not_not.2 ha), State.taskRead_holds hl]
  dsimp only
  rw [hd, hbad, if_neg Bool.false_ne_true, if_neg (fun hb => by rw [hbusy hb.1] at hb; exact Bool.false_ne_true hb.2), hlines]
  dsimp only
  rw [hbytes, hes, hnan, if_pos rfl, hat]
  simp [State.writeLines, List.countP_eq_length_filter, List.filter_map]

end

end Sys2Proof.Machine

namespace Sys2Proof.Proofs

open Sys2Proof.Machine

/-- Settles O22: PQNT writes the words of its line as their codes, and CCOUNT counts the elements of its range that match. -/
theorem coreNumericInstructions : Obligations.CoreNumericInstructions :=
  ⟨fun _ _ _ _ _ h hmode hb hbusy _ _ hl hd => exec_pqnt_done h rfl hmode hb hbusy hl hd rfl,
    fun q v hm hs hu => q.word_int8 v hm hs hu rfl,
    fun _ _ _ _ _ h ha _ hl hbad hmask hbusy _ hls hnum => exec_ccount_done h ha hl rfl hbad hmask hbusy hls rfl hnum⟩

end Sys2Proof.Proofs
end

section
/-! Proofs about EVPUSH and about lines that land. -/

namespace Sys2Proof.Machine

/-- A state that is another but for one tile and fields that are no tiles'. -/
theorem State.tileBecomes_of_set {s u : State} {k : Nat} {x : Tile} (h : u.tiles = s.tiles.set k x) : s.tileBecomes k x u := by
  unfold State.tileBecomes State.tileOf
  rw [h]
  exact ⟨Tab.get_set_same _ _ _ _, fun j hj => Tab.get_set_other _ _ _ hj⟩

/-! ### EVPUSH (R225 to R228) -/

section

variable {s s1 : State} {t : PhysTile} {c : Core} {w : Nat} (h : s.extAt t c 10 s1 w)

include h

theorem exec_evpush_room (hbad : s1.evBad (tileKey t) (s1.rs1 t c w + s1.rs2 t c w * 2 ^ 32) = false)
    (hkind : (evRecord (s1.rs1 t c w + s1.rs2 t c w * 2 ^ 32)).kind ≠ 3) (hq : (s1.tileOf (tileKey t)).evq.length < 64)
    (hwait : (s1.tileOf (tileKey t)).evWait = []) :
    exec (.evpush t c) s = .next (s1.retired t c w none { s1.tileOf (tileKey t) with
      evq := (s1.tileOf (tileKey t)).evq ++ [evRecord (s1.rs1 t c w + s1.rs2 t c w * 2 ^ 32)] }) := by
  refine exec_retires (by unfold exec execEvpush; rfl) h ?_ (State.onlyTile_setTile _ _ _)
  dsimp only
  rw [hbad, if_neg Bool.false_ne_true, if_neg hkind, hwait, if_neg (by simpa using hq)]

theorem exec_evpush_full (hbad : s1.evBad (tileKey t) (s1.rs1 t c w + s1.rs2 t c w * 2 ^ 32) = false)
    (hkind : (evRecord (s1.rs1 t c w + s1.rs2 t c w * 2 ^ 32)).kind ≠ 3)
    (hq : 64 ≤ (s1.tileOf (tileKey t)).evq.length ∨ (s1.tileOf (tileKey t)).evWait ≠ []) : exec (.evpush t c) s = .next s := by
  refine exec_waits (by unfold exec execEvpush; rfl) h ?_
  dsimp only
  rw [hbad, if_neg Bool.false_ne_true, if_neg hkind, if_pos (by simpa using hq)]

/-- A bad record is discarded, counted and reported; the instruction retires. -/
theorem exec_evpush_bad (hbad : s1.evBad (tileKey t) (s1.rs1 t c w + s1.rs2 t c w * 2 ^ 32) = true)
    (hq : (s1.tileOf (tileKey t)).evq.length < 64) :
    ∃ u, exec (.evpush t c) s = .next u ∧ s1.firedOnce 0x0301 u ∧ u.cell 0x2600 2 = (s1.cell 0x2600 2 + 1) % 2 ^ 64 ∧
      s1.tileBecomes (tileKey t) ((s1.tileOf (tileKey t)).stepped c w none) u := by
  have hx := (show exec (.evpush t c) s = s.ext t c 10 _ by unfold exec execEvpush; rfl).trans (State.ext_done h (v := none)
    (s2 := (s1.bump64 0x2600 2).fire 0x0301 (evRecord (s1.rs1 t c w + s1.rs2 t c w * 2 ^ 32)).slot 0) (by
      dsimp only
      rw [hbad, if_pos rfl, if_neg (Nat.not_le.2 hq)]))
  have htiles : ((s1.bump64 0x2600 2).fire 0x0301 (evRecord (s1.rs1 t c w + s1.rs2 t c w * 2 ^ 32)).slot 0).tiles = s1.tiles := by simp
  have htile : State.tileOf ((s1.bump64 0x2600 2).fire 0x0301 (evRecord (s1.rs1 t c w + s1.rs2 t c w * 2 ^ 32)).slot 0) (tileKey t) =
      s1.tileOf (tileKey t) := by unfold State.tileOf; rw [htiles]
  refine ⟨_, hx, ?_, ?_, ?_⟩
  · exact State.firedOnce_congr (State.firedOnce_fire (by simp) (State.stamp_congr (by simp) (by simp)) _ _ _) rfl
  · refine (State.cell_congr (State.fire_od ..) _ _).trans (State.cell_bump64_same _ _ _)
  · rw [htile]
    exact State.tileBecomes_of_set (congrArg (fun q => Tab.set q _ _) htiles)

end

/-! ### Lines of the mesh (R108, R129) -/

section

variable {s : State} {src dst : PhysTile} {m : MeshLine} {rest : List MeshLine}
  (hm : takeLine (tileKey src) (tileKey dst) s.mesh = some (m, rest))

theorem State.fencedAt_of_tileRuns {s : State} {k : Nat} (h : s.tileRuns k = true) : s.fencedAt k = false := by
  unfold State.tileRuns at h
  simp only [Bool.and_eq_true, Bool.not_eq_true'] at h
  exact h.1.1.1

theorem State.tileRuns_of_taskRuns {s : State} {k : Nat} (h : s.taskRuns k = true) : s.tileRuns k = true := by
  unfold State.taskRuns at h
  exact (Bool.and_eq_true _ _ ▸ h).1

/-- A whole line lands at its line of the store where no LANDING region is enabled. -/
theorem Tile.landLine_plain {x : Tile} (hreg : ∀ g, g < 4 → (x.regionOf g).enable = false) {r l : Nat} (hl : x.taskLine .a r = some l)
    (hoff : x.lineOff .a l = false) (bs : List Byte) :
    x.landLine .a r bs true = .landed ((x.writeBytes .a (l * 64) bs).setReg 0x30 ((x.reg 0x30 + 1) % 2 ^ 32)) := by
  have hnone : ((List.range 4).find? fun i => (x.regionOf i).enable && (x.regionOf i).store == selNum .a && (x.regionOf i).producer == 1 &&
      decide ((x.regionOf i).base ≤ r) && decide (r < (x.regionOf i).base + (x.regionOf i).size)) = none :=
    List.find?_eq_none.2 fun i hi => by simp [hreg i (List.mem_range.1 hi)]
  have hbusy : x.lineBusy .a l = false := rfl
  unfold Tile.landLine
  simp only [hnone, hl, hoff, hbusy, Bool.false_eq_true, if_false]
  rfl

theorem State.meshSet_step {s : State} (q : List MeshLine) {G : Nat} (hG : sub 274877906944 G = true) : Step G s { s with mesh := q } :=
  Step.put (F := 274877906944) (Step.refl G s) hG rfl fun v => ⟨v.1, v.2, v.3, v.4, v.5, v.6, v.7⟩

include hm

theorem completes_msendLineLand (hrun : s.taskRuns (tileKey dst) = true)
    (hreg : ∀ g, g < 4 → ((s.tileOf (tileKey dst)).regionOf g).enable = false) {l : Nat}
    (hl : (s.tileOf (tileKey dst)).taskLine .a (m.off / 64) = some l) (hoff : (s.tileOf (tileKey dst)).lineOff .a l = false) :
    completes (.msendLineLand src dst) s [.tiles, .mesh] fun t => t.mesh = rest ∧ s.tileBecomes (tileKey dst)
      (((s.tileOf (tileKey dst)).writeBytes .a (l * 64) m.data).setReg 0x30 (((s.tileOf (tileKey dst)).reg 0x30 + 1) % 2 ^ 32)) t := by
  have hx : exec (.msendLineLand src dst) s = .next (State.setTile { s with mesh := rest } (tileKey dst)
      (((s.tileOf (tileKey dst)).writeBytes .a (l * 64) m.data).setReg 0x30 (((s.tileOf (tileKey dst)).reg 0x30 + 1) % 2 ^ 32))) := by
    have hruns := State.tileRuns_of_taskRuns hrun
    show execMsendLineLand src dst s = _
    unfold execMsendLineLand
    simp only [hm, State.fencedAt_of_tileRuns hruns, hruns, hrun, Tile.landLine_plain hreg hl hoff, Bool.false_eq_true, Bool.true_eq_false,
      if_false]
  exact completes_step hx (State.setTile_step (State.meshSet_step rest (by decide)) (by decide)) ⟨rfl, State.tileBecomes_of_set rfl⟩

theorem completes_msendLineDrop (hrun : s.tileRuns (tileKey dst) = true) (htask : (s.tileOf (tileKey dst)).task = none) :
    completes (.msendLineLand src dst) s [.tiles, .mesh] fun t => t.mesh = rest ∧
      s.tileBecomes (tileKey dst) ((s.tileOf (tileKey dst)).setReg 0x34 (((s.tileOf (tileKey dst)).reg 0x34 + 1) % 2 ^ 32)) t := by
  have hx : exec (.msendLineLand src dst) s = .next (State.setTile { s with mesh := rest } (tileKey dst)
      ((s.tileOf (tileKey dst)).setReg 0x34 (((s.tileOf (tileKey dst)).reg 0x34 + 1) % 2 ^ 32))) := by
    have hno : s.taskRuns (tileKey dst) = false := by
      unfold State.taskRuns
      rw [htask, Bool.and_false]
    show execMsendLineLand src dst s = _
    unfold execMsendLineLand
    simp only [hm, State.fencedAt_of_tileRuns hrun, hrun, hno, Bool.false_eq_true, Bool.true_eq_false, if_false, if_true]
    rfl
  exact completes_step hx (State.setTile_step (State.meshSet_step rest (by decide)) (by decide)) ⟨rfl, State.tileBecomes_of_set rfl⟩

theorem completes_msendLineDiscard (hfence : s.fencedAt (tileKey dst) = true) :
    completes (.msendLineLand src dst) s [.od, .mesh] fun t => t.mesh = rest ∧
      t.cell 0x2B60 2 = (s.cell 0x2B60 2 + 64) % 2 ^ 64 ∧ s.otherCells [(0x2B60, 2)] t := by
  have hx : exec (.msendLineLand src dst) s = .next (State.count { s with mesh := rest } 64 0x2B60 2 64) := by
    show execMsendLineLand src dst s = _
    unfold execMsendLineLand
    simp only [hm, hfence, if_true]
    rfl
  refine completes_step hx (State.count_step (State.meshSet_step rest (by decide)) (by decide)) ⟨rfl, State.cell_count_same _ _ _ _ _, ?_⟩
  exact fun i j hj hn => (State.otherCells_count { s with mesh := rest } (by decide) i j hj hn).trans rfl

end

end Sys2Proof.Machine

namespace Sys2Proof.Proofs

open Sys2Proof.Machine

/-- Settles O23: a record enters the queue, waits or is discarded; a line lands, is dropped or is discarded. -/
theorem recordsAndLandings : Obligations.RecordsAndLandings :=
  ⟨fun _ _ _ _ _ h => ⟨fun hbad hkind => ⟨exec_evpush_room h hbad hkind, exec_evpush_full h hbad hkind⟩, exec_evpush_bad h⟩,
    fun _ _ _ _ _ hm => ⟨fun hrun _ hreg _ _ hl hoff => completes_msendLineLand hm hrun hreg hl hoff,
      fun hrun htask => completes_msendLineDrop hm hrun htask, fun hfence => completes_msendLineDiscard hm hfence⟩⟩

end Sys2Proof.Proofs
end

section
/-! Proofs about the matrix sequencer. -/

namespace Sys2Proof.Machine

/-! ### A task that a fault ends -/

theorem State.taskRuns_task {s : State} {k : Nat} (h : s.taskRuns k = true) : ∃ q, (s.tileOf k).task = some q ∧ q.failed = none := by
  unfold State.taskRuns at h
  obtain ⟨-, h⟩ := Bool.and_eq_true _ _ ▸ h
  split at h
  next q hq => exact ⟨q, hq, by simpa using h⟩
  next => cases h

/-- A fault of a task that has none halts its cores and gives its status and detector (R138). -/
theorem State.taskFault_ends {s : State} {k : Nat} {q : Task} (hq : (s.tileOf k).task = some q) (hf : q.failed = none) (st : Status) (d : Nat)
    (viol : Option Nat) : s.taskEnds k st d (s.taskFault k st d viol) := by
  have htile : (s.taskFault k st d viol).tileOf k = (s.tileOf k).taskFault st d viol := by
    unfold State.taskFault
    rw [show State.tileOf (State.fire _ _ _ _) k = _ from congrArg (fun q => Tab.get q tile0 k) (State.fire_tiles ..)]
    exact State.tileOf_setTile_same ..
  have hother : ∀ j, j ≠ k → (s.taskFault k st d viol).tileOf j = s.tileOf j := fun j hj => by
    unfold State.taskFault
    rw [show State.tileOf (State.fire _ _ _ _) j = _ from congrArg (fun q => Tab.get q tile0 j) (State.fire_tiles ..)]
    exact State.tileOf_setTile_other _ hj _
  obtain ⟨v, hx⟩ : ∃ v, (s.tileOf k).taskFault st d viol =
      { (s.tileOf k).halt with task := some { q with failed := some st, det := d }, viol := v } := by
    unfold Tile.taskFault
    simp only [hq, hf]
    exact ⟨_, rfl⟩
  refine ⟨?_, ?_, ?_, ?_, ⟨_, by rw [htile, hx], rfl, rfl⟩, State.detOf_fire_count _ _ _ _, hother⟩ <;> rw [htile, hx] <;> rfl

/-! ### Issue (R91) -/

section

variable {s : State} {t : PhysTile} {w : Nat} {rest : List Nat} (hrun : s.taskRuns (tileKey t) = true)
  (hq : (s.tileOf (tileKey t)).queue = w :: rest)

theorem State.tileBecomes_bump {s x : State} {k : Nat} {T : Tile} (h : s.onlyTile k T x) (ho : ∀ j, j ≠ k → x.tileOf j = s.tileOf j) (off n : Nat) :
    s.tileBecomes k (T.bump off n) (x.tileBump k off n) := by
  refine ⟨by rw [State.tileBump_tileOf, h.2], fun j hj => ?_⟩
  refine Eq.trans ?_ (ho j hj)
  unfold State.tileBump
  dsimp only
  split <;> exact State.tileOf_setTile_other _ hj _

include hrun hq

theorem completes_macIssue (hop : instOp w = 1) (hbad : instBad (s.tileOf (tileKey t)).pBase w = false) (h16 : bit w 16 = false)
    (hvs : instV w ≤ (s.tileOf (tileKey t)).feeders.length) {p : Plane} (hp : (s.tileOf (tileKey t)).plane (bits w 11 11) = some p)
    (hcls : p.cls = classOf (instFmt w)) (hwide : ∀ v ∈ (s.tileOf (tileKey t)).feeders.take (instV w), v.wide = wideFmt (instFmt w)) :
    completes (.matrixIssue t) s [.od, .tiles] fun u => u.cell 0x2200 1 = (s.cell 0x2200 1 + 1) % 2 ^ 64 ∧
      s.otherCells [(0x2200, 1)] u ∧ s.tileBecomes (tileKey t) (({ s.tileOf (tileKey t) with
        queue := rest
        flights := (s.tileOf (tileKey t)).flights ++ [(⟨w, (s.tileOf (tileKey t)).feeders.take (instV w), p.bytes⟩ : Flight)]
        feeders := (s.tileOf (tileKey t)).feeders.drop (instV w) } : Tile).setReg 0x40 (((s.tileOf (tileKey t)).reg 0x40 + 1) % 2 ^ 32)) u := by
  have hlen : ¬ ((s.tileOf (tileKey t)).feeders.take (instV w)).length < instV w := by
    rw [List.length_take]
    omega
  have hfit : ¬ ((((s.tileOf (tileKey t)).feeders.take (instV w)).any fun v => v.wide != wideFmt (instFmt w)) = true ∨
      p.cls ≠ classOf (instFmt w)) := by
    rw [List.any_eq_false.2 fun v hv => by simp [hwide v hv]]
    simp [hcls]
  have hx : exec (.matrixIssue t) s = .next (s.issueHead (tileKey t) ⟨w, (s.tileOf (tileKey t)).feeders.take (instV w), p.bytes⟩
      ((s.tileOf (tileKey t)).feeders.drop (instV w))) := by
    show execMatrixIssue t s = _
    unfold execMatrixIssue
    simp only [hq, hp, hop, hbad, if_neg hlen, h16, Bool.false_eq_true, if_false]
    refine (whenDue_true hrun _ _).trans (congrArg Host.Outcome.next (if_neg hfit))
  refine completes_step hx (State.tileBump_step (State.setTile_step (Step.refl _ s) (by decide)) (by decide)) ⟨?_, ?_, ?_⟩
  · exact State.cell_count_same ..
  · exact fun i j hj hn => (State.otherCells_count _ (by decide) i j hj hn).trans rfl
  · have hdrop : (s.tileOf (tileKey t)).queue.drop 1 = rest := by rw [hq]; rfl
    rw [← hdrop]
    exact State.tileBecomes_bump (State.onlyTile_setTile _ _ _) (fun j hj => State.tileOf_setTile_other _ hj _) _ _

theorem completes_feedStall (hop : instOp w = 1) (hbad : instBad (s.tileOf (tileKey t)).pBase w = false)
    (hvs : (s.tileOf (tileKey t)).feeders.length < instV w) :
    completes (.matrixIssue t) s [.od, .tiles] fun u =>
      s.tileBecomes (tileKey t) ((s.tileOf (tileKey t)).setReg 0x44 (((s.tileOf (tileKey t)).reg 0x44 + 1) % 2 ^ 32)) u := by
  have hlen : ((s.tileOf (tileKey t)).feeders.take (instV w)).length < instV w := by
    rw [List.length_take]
    omega
  have hx : exec (.matrixIssue t) s = .next (s.tileBump (tileKey t) 0x44 1) := by
    show execMatrixIssue t s = _
    unfold execMatrixIssue
    simp only [hq, hop, hbad, if_pos hlen, Bool.false_eq_true, if_false]
    exact whenDue_true hrun _ _
  exact completes_step hx (State.tileBump_step (Step.refl _ s) (by decide))
    (State.tileBecomes_bump (State.onlyTile_self _ _) (fun _ _ => rfl) _ _)

theorem completes_programFault (hbad : instBad (s.tileOf (tileKey t)).pBase w = true) :
    completes (.matrixIssue t) s [.det, .log, .logMade, .faultBuffer, .tiles] fun u => s.taskEnds (tileKey t) .badCommand 0x0104 u := by
  have hop : instOp w ≠ 0 := fun h => by simp [instBad, h] at hbad
  have hx : exec (.matrixIssue t) s = .next (s.programFault (tileKey t)) := by
    show execMatrixIssue t s = _
    unfold execMatrixIssue
    simp only [hq, if_neg hop, hbad, if_true]
    exact whenDue_true hrun _ _
  obtain ⟨q, htask, hf⟩ := State.taskRuns_task hrun
  exact completes_step hx (State.taskFault_step (Step.refl _ s) (by decide)) (State.taskFault_ends htask hf _ _ _)

end

/-! ### Retirement (R93, R95) -/

/-- A retirement's report where its instruction is no NOP. -/
theorem Tile.retired_eq (x : Tile) {w : Nat} (h : instOp w ≠ 0) : x.retired w = ({ x with
    core0 := { x.core0 with event := x.core0.event || bit w 56 }
    core1 := { x.core1 with event := x.core1.event || bit w 56 } } : Tile).setReg 0x14 (instTag w) := by
  unfold Tile.retired
  rw [if_neg h]
  cases bit w 56 with
  | false => simp [Tile.setReg]
  | true => simp [Tile.setReg, Tile.retireEvent]

theorem completes_loadRetire {s : State} {t : PhysTile} {f : Flight} {rest : List Flight} (hrun : s.tileRuns (tileKey t) = true)
    (hf : (s.tileOf (tileKey t)).flights = f :: rest) (hop : instOp f.word = 2) :
    completes (.instructionRetire t) s [.tiles] fun u => s.tileBecomes (tileKey t) (({ s.tileOf (tileKey t) with
      flights := rest
      core0 := { (s.tileOf (tileKey t)).core0 with event := (s.tileOf (tileKey t)).core0.event || bit f.word 56 }
      core1 := { (s.tileOf (tileKey t)).core1 with event := (s.tileOf (tileKey t)).core1.event || bit f.word 56 } } : Tile).setReg 0x14
        (instTag f.word)) u := by
  have hx : exec (.instructionRetire t) s = .next (s.setTile (tileKey t) (Tile.retired { s.tileOf (tileKey t) with flights := rest } f.word)) := by
    show execInstructionRetire t s = _
    unfold execInstructionRetire
    simp only [hf, hop, show (2 : Nat) ≠ 1 from by decide, if_false, Bool.false_eq_true, List.drop]
    exact whenDue_true hrun _ _
  rw [Tile.retired_eq _ (by rw [hop]; decide)] at hx
  exact completes_step hx (State.setTile_step (Step.refl _ s) (by decide)) (State.tileBecomes_of_set rfl)

/-! ### An INT8 pass (R97) -/

/-- A signed field is the same read from its bits alone. -/
theorem signed_mod (w v : Nat) : signed w (v % 2 ^ w) = signed w v := by
  unfold signed
  rw [Nat.mod_mod]

/-- The columns of an INT8 pass that overwrites: each is the sum of its products, and none saturates. -/
theorem vectorColumns_int8 {m : MacFmt} (hf : m.fmt = 0) (hu : m.au = false) (ha : m.acc = false) (plane : List Byte) (v : FeedVec)
    (hv : v.entries.length = 32) (old : List Nat) : vectorColumns m plane v old =
      (List.range 32).map fun j => (⟨unsigned 32 (int8Column plane v.entries j), old.getD (32 + j) 0, false, false, false⟩ : ColOut) := by
  unfold vectorColumns
  refine List.map_congr_left fun j _ => ?_
  have hsum : dot ((weightsOf 0 plane j).map fun w => signed 8 w) (int8s false (actsOf 0 v.entries)) = int8Column plane v.entries j := by
    have hes : v.entries = (List.range 32).map fun i => v.entries.getD i 0 :=
      List.ext_getElem (by simp [hv]) fun i h _ => by simp [h]
    unfold dot int8Column weightsOf actsOf int8s
    conv_lhs => rw [hes]
    simp only [List.map_map, List.zipWith_map, List.zipWith_self, show (0 : Nat) ≠ 1 from by decide,
      if_false, true_or, if_true, Bool.false_eq_true, Function.comp_def]
    congr 1
    refine List.map_congr_left fun i _ => ?_
    rw [show v.entries.getD i 0 % 256 = v.entries.getD i 0 % 2 ^ 8 from rfl, signed_mod]
  simp only [hf]
  unfold column
  simp only [hf, hu, ha, true_or, if_true, if_false, Bool.false_eq_true, show (0 : Nat) ≠ 1 from by decide, hsum]

/-- The lines of an overwriting pass within the task's window need no read. -/
theorem State.destLines_admits {k : Nat} {clean : Bool} : ∀ {rs ls : List Nat} {s : State}, (s.tileOf k).admits .p rs ls →
    State.destLines k false clean rs s = (s, ls, true)
  | [], ls, s, h => by
    obtain rfl := List.forall₂_nil_left_iff.1 h.2
    rfl
  | r :: rs, ls, s, h => by
    obtain ⟨l, ls, -, -, rfl⟩ := List.forall₂_cons_left_iff.1 h.2
    obtain ⟨⟨-, hl⟩, hr⟩ := Tile.admits_cons h
    obtain ⟨⟨hline, hoff⟩, -⟩ := List.forall₂_cons.1 hl
    unfold State.destLines
    simp only [hline, hoff, Bool.false_eq_true, if_false, if_true, State.destLines_admits hr]

/-- A line of a result in P, with its tile's flags. -/
def Tile.withResult (t : Tile) (l : Nat) (d : List Byte) (q : Tab Bool) : Tile := { t.writeBytes .p (l * 64) d with sat := q }

section

variable {t : Tile} (l : Nat) (d : List Byte) (q : Tab Bool)

theorem Tile.withResult_bad (h : t.bad = .empty) : (t.withResult l d q).bad = .empty := Tile.writeBytes_bad _ _ _ _ h

theorem Tile.withResult_p (h : t.bad = .empty) : (t.withResult l d q).p = t.p.writeBytes (l * 64) d :=
  Tile.mem_writeBytes t .p _ _ (Tile.soundAt_empty h)

theorem Tile.withResult_a : (t.withResult l d q).a = t.a := Tile.mem_writeBytes_other t .p (l * 64) d (q := .a) (by decide)

theorem Tile.withResult_w : (t.withResult l d q).w = t.w := Tile.mem_writeBytes_other t .p (l * 64) d (q := .w) (by decide)

theorem State.putResult_sound {s x : State} {k : Nat} (h : s.onlyTile k t x) (hb : t.bad = .empty) (f : Bool) :
    ∃ q, s.onlyTile k (t.withResult l d q) (x.putResult k l false (d, f)) := by
  have hset := h.set (t.writeBytes .p (l * 64) d)
  have hx : ∃ q, x.putResult k l false (d, f) = (x.setTile k (t.writeBytes .p (l * 64) d)).setTile k (t.withResult l d q) := by
    unfold State.putResult
    rw [State.storeWrite_sound (Tile.soundAt_empty (by rw [h.2]; exact hb)), h.2]
    dsimp only
    rw [hset.2]
    exact ⟨_, rfl⟩
  obtain ⟨q, hx⟩ := hx
  exact ⟨q, hx ▸ hset.set _⟩

end

/-- 16 column sums as a P line. -/
def int8Line (plane : List Byte) (es : List Nat) (o : Nat) : List Byte :=
  (List.range 16).flatMap fun j => natLe 4 (unsigned 32 (int8Column plane es (o + j)))

theorem length_int8Line (plane : List Byte) (es : List Nat) (o : Nat) : (int8Line plane es o).length = 64 := by
  simp [int8Line, natLe, List.range_succ]

section

variable {s : State} {k l m : Nat} {f : Flight} {v : FeedVec} (hv : v.entries.length = 32)

include hv

theorem resultLine_int8 {c : MacFmt} (hf : c.fmt = 0) (hu : c.au = false) (ha : c.acc = false) (plane : List Byte) (old : List Nat) :
    (resultLine (vectorColumns c plane v old) 0).1 = int8Line plane v.entries 0 ∧
      (resultLine (vectorColumns c plane v old) 1).1 = int8Line plane v.entries 16 := by
  rw [vectorColumns_int8 hf hu ha plane v hv old]
  exact ⟨rfl, rfl⟩

/-- What an overwriting INT8 pass does: its two lines take the 32 sums. -/
theorem State.macAll_int8 (hvec : f.vecs = [v]) (hf : instFmt f.word = 0) (hu : bit f.word 7 = false) (ha : bit f.word 10 = false)
    (hl : (s.tileOf k).admits .p [bits f.word 27 17, bits f.word 27 17 + 1] [l, m]) :
    ∃ x q r, State.macAll k f f.vecs.zipIdx s = (x, false) ∧ s.onlyTile k
      (((s.tileOf k).withResult l (int8Line f.plane v.entries 0) q).withResult m (int8Line f.plane v.entries 16) r) x := by
  have hm : ∃ old, s.macVector k f 0 v =
      ((s.putResult k l false (resultLine (vectorColumns (macFmt f.word) f.plane v old) 0)).putResult k m false
        (resultLine (vectorColumns (macFmt f.word) f.plane v old) 1), false, true) := by
    have hacc : (macFmt f.word).acc = false := ha
    have hrl : resultLines (macFmt f.word).fmt = 2 := by rw [show (macFmt f.word).fmt = 0 from hf]; rfl
    unfold State.macVector
    simp only [hacc, hrl, show (List.range 2).map (fun n => bits f.word 27 17 + 0 * 2 + n) = [bits f.word 27 17, bits f.word 27 17 + 1] from rfl,
      State.destLines_admits hl]
    refine ⟨_, Prod.ext rfl (Prod.ext ?_ rfl)⟩
    dsimp only
    rw [vectorColumns_int8 hf hu ha f.plane v hv]
    simp
  obtain ⟨old, hm⟩ := hm
  obtain ⟨h0, h1⟩ := resultLine_int8 hv (c := macFmt f.word) hf hu ha f.plane old
  obtain ⟨q, hq⟩ := State.putResult_sound l (int8Line f.plane v.entries 0) (State.onlyTile_self s k) hl.1
    (resultLine (vectorColumns (macFmt f.word) f.plane v old) 0).2
  obtain ⟨r, hr⟩ := State.putResult_sound m (int8Line f.plane v.entries 16) hq (Tile.withResult_bad _ _ _ hl.1)
    (resultLine (vectorColumns (macFmt f.word) f.plane v old) 1).2
  rw [← h0] at hr
  rw [← h1] at hr
  refine ⟨_, q, r, ?_, by rw [← h0, ← h1]; exact hr⟩
  rw [hvec, show [v].zipIdx = [(v, 0)] from rfl]
  unfold State.macAll
  rw [hm]
  rfl

end

/-- Bytes beside a write read as before it. -/
theorem Memory.readBytes_writeBytes_other (m : Memory) {a : Nat} (bs : List Byte) : ∀ (n i : Nat), i + n ≤ a ∨ a + bs.length ≤ i →
    (m.writeBytes a bs).readBytes i n = m.readBytes i n
  | 0, _, _ => rfl
  | n + 1, i, h => by
    unfold Memory.readBytes
    rw [Memory.read_writeBytes_other m bs (by omega), Memory.readBytes_writeBytes_other m bs n (i + 1) (by omega)]

theorem completes_int8Retire {s : State} {t : PhysTile} {f : Flight} {rest : List Flight} (hrun : s.tileRuns (tileKey t) = true)
    (hfl : (s.tileOf (tileKey t)).flights = f :: rest) (hop : instOp f.word = 1) (hf : instFmt f.word = 0) (hu : bit f.word 7 = false)
    (ha : bit f.word 10 = false) (hwf : (s.tileOf (tileKey t)).p.wf = true) {v : FeedVec} {l m : Nat} (hvec : f.vecs = [v])
    (hv : v.entries.length = 32) (hl : (s.tileOf (tileKey t)).admits .p [bits f.word 27 17, bits f.word 27 17 + 1] [l, m]) :
    completes (.instructionRetire t) s [.tiles] fun u => (∀ j, j ≠ tileKey t → u.tileOf j = s.tileOf j) ∧ (u.tileOf (tileKey t)).flights = rest ∧
      (u.tileOf (tileKey t)).reg 0x14 = instTag f.word ∧
      (u.tileOf (tileKey t)).core0.event = ((s.tileOf (tileKey t)).core0.event || bit f.word 56) ∧
      (u.tileOf (tileKey t)).core1.event = ((s.tileOf (tileKey t)).core1.event || bit f.word 56) ∧
      (u.tileOf (tileKey t)).readBytes .p (l * 64) 64 = int8Line f.plane v.entries 0 ∧
      (u.tileOf (tileKey t)).readBytes .p (m * 64) 64 = int8Line f.plane v.entries 16 ∧
      (∀ b, (b < l * 64 ∨ l * 64 + 64 ≤ b) → (b < m * 64 ∨ m * 64 + 64 ≤ b) →
        (u.tileOf (tileKey t)).p.read b = (s.tileOf (tileKey t)).p.read b) ∧
      (u.tileOf (tileKey t)).a = (s.tileOf (tileKey t)).a ∧ (u.tileOf (tileKey t)).w = (s.tileOf (tileKey t)).w := by
  obtain ⟨x, q, r, hall, honly⟩ := State.macAll_int8 hv hvec hf hu ha hl
  generalize hT : ((s.tileOf (tileKey t)).withResult l (int8Line f.plane v.entries 0) q).withResult m (int8Line f.plane v.entries 16) r = T at honly
  have hflT : T.flights = f :: rest := by rw [← hT]; exact hfl
  have hx : exec (.instructionRetire t) s = .next (s.setTile (tileKey t) (Tile.retired { T with flights := rest } f.word)) := by
    show execInstructionRetire t s = _
    unfold execInstructionRetire
    simp only [hfl, hop, if_true, hall, honly.2, honly.1, hflT, Bool.false_eq_true, if_false, List.drop]
    exact whenDue_true hrun _ _
  rw [Tile.retired_eq _ (by rw [hop]; decide)] at hx
  have hp : T.p = ((s.tileOf (tileKey t)).p.writeBytes (l * 64) (int8Line f.plane v.entries 0)).writeBytes (m * 64)
      (int8Line f.plane v.entries 16) := by
    rw [← hT, Tile.withResult_p _ _ _ (Tile.withResult_bad _ _ _ hl.1), Tile.withResult_p _ _ _ hl.1]
  have hlm : m = l + 1 := by
    obtain ⟨⟨-, h0⟩, -, h1⟩ := Tile.admits_cons hl
    have h0 := Tile.taskLine_base (List.forall₂_cons.1 h0).1.1
    have h1 := Tile.taskLine_base (List.forall₂_cons.1 h1).1.1
    omega
  have hread : ∀ o, (int8Line f.plane v.entries o).length = 64 := length_int8Line _ _
  refine completes_step hx (State.setTile_step (Step.refl _ s) (by decide)) ⟨fun j hj => State.tileOf_setTile_other _ hj _, ?_⟩
  rw [State.tileOf_setTile_same]
  refine ⟨rfl, Tab.get_set_same .., ?_, ?_, ?_, ?_, fun b hb hb2 => ?_, ?_, ?_⟩
  · rw [← hT]; rfl
  · rw [← hT]; rfl
  · show T.p.readBytes (l * 64) 64 = _
    rw [hp, Memory.readBytes_writeBytes_other _ _ _ _ (by omega), ← hread 0]
    exact Memory.readBytes_writeBytes hwf _ _
  · show T.p.readBytes (m * 64) 64 = _
    rw [hp]
    conv_lhs => rw [← hread 16]
    exact Memory.readBytes_writeBytes (Memory.writeBytes_wf hwf _ _) _ _
  · show T.p.read b = _
    rw [hp, Memory.read_writeBytes_other _ _ (by rw [hread]; exact hb2), Memory.read_writeBytes_other _ _ (by rw [hread]; exact hb)]
  · show T.a = _
    rw [← hT, Tile.withResult_a, Tile.withResult_a]
  · show T.w = _
    rw [← hT, Tile.withResult_w, Tile.withResult_w]

end Sys2Proof.Machine

namespace Sys2Proof.Proofs

open Sys2Proof.Machine

/-- Settles O24: issue by what the head of the queue finds in the feeders and planes; retirement of a load, and of an INT8 pass
through the two lines that it overwrites. -/
theorem matrixSequencer : Obligations.MatrixSequencer := by
  unfold Obligations.MatrixSequencer
  refine ⟨fun s t w rest hrun hq => ⟨?_, ?_, ?_⟩, fun s t f rest hrun hfl => ⟨?_, ?_⟩⟩
  · exact fun hop hbad h16 hvs p hp hcls hwide => completes_macIssue hrun hq hop hbad h16 hvs hp hcls hwide
  · exact fun hop hbad hvs => completes_feedStall hrun hq hop hbad hvs
  · exact fun hbad => completes_programFault hrun hq hbad
  · exact fun hop => completes_loadRetire hrun hfl hop
  · intro hop hf hu ha hwf v l m hvec hv hl
    have h := completes_int8Retire hrun hfl hop hf hu ha hwf hvec hv hl
    simp only [int8Line, Nat.zero_add] at h
    exact h

end Sys2Proof.Proofs
end

section
/-! Proofs about the supervision of tiles, the end of a task and circular regions. -/

namespace Sys2Proof.Machine

/-! ### Supervision (R115) -/

/-- A failing tile's detector fires once, and the tile is suspect. -/
theorem State.tileFails_reports (s : State) (k d : Nat) : s.firedOnce d (s.tileFails k d) ∧ s.suspects1 (.tile k) (s.tileFails k d) :=
  ⟨State.firedOnce_congr (State.firedOnce_fire rfl rfl d (s.wafer.tileUnit k) 0) (by simp [State.tileFails]), State.suspects1_suspect (by simp) _ _⟩

theorem completes_tileFails {c : Instr} {s : State} {k d : Nat} (hx : exec c s = .next (s.tileFails k d)) :
    completes c s [.det, .log, .logMade, .faultBuffer, .suspects] fun u => s.firedOnce d u ∧ s.suspects1 (.tile k) u :=
  completes_step hx (State.tileFails_step (Step.refl _ s) (by decide)) (s.tileFails_reports k d)

theorem exec_issueHang_due {s : State} {t : PhysTile} (hw : s.watched (tileKey t) = true)
    (h : (s.tileOf (tileKey t)).headReady = true ∨ (s.tileOf (tileKey t)).flights ≠ []) :
    exec (.issueHang t) s = .next (s.tileFails (tileKey t) 0x0102) := by
  refine whenDue_true ?_ _ _
  rw [hw, Bool.true_and, Bool.or_eq_true]
  exact h.imp_right fun hf => by simpa using hf

theorem exec_tileHeartbeatTimeout_due {s : State} {t : PhysTile} (hw : s.watched (tileKey t) = true) (hy : s.up.yoke = true) :
    exec (.tileHeartbeatTimeout t) s = .next (s.tileFails (tileKey t) 0x0101) :=
  whenDue_true (by rw [hw, hy]; rfl) _ _

/-! ### Corrected words and registers (R116, R119, R143) -/

theorem completes_eccWriteback {s : State} {t : PhysTile} {w : Nat} {r : List Nat} (hrun : s.tileRuns (tileKey t) = true)
    (hw : (s.tileOf (tileKey t)).writeback = w :: r) (hb : (s.tileOf (tileKey t)).bad.find w = some false) :
    completes (.eccWriteback t) s [.tiles] fun u => (u.tileOf (tileKey t)).bad.find w = none ∧ s.tileBecomes (tileKey t)
      { s.tileOf (tileKey t) with writeback := r, bad := (s.tileOf (tileKey t)).bad.erase w } u := by
  have hx : exec (.eccWriteback t) s = .next (s.setTile (tileKey t)
      { s.tileOf (tileKey t) with writeback := r, bad := (s.tileOf (tileKey t)).bad.erase w }) := by
    show execEccWriteback t s = _
    unfold execEccWriteback
    simp only [hw, hb, if_true]
    exact whenDue_true hrun _ _
  refine completes_step hx (State.setTile_step (Step.refl _ s) (by decide)) ⟨?_, State.tileBecomes_of_set rfl⟩
  rw [State.tileOf_setTile_same]
  exact Tab.find_erase_same _ _

theorem Tile.regWrite_qstat (x : Tile) (v : Nat) : x.regWrite 0x28 v = if bit v 0 then x.setReg 0x28 0 else x := rfl

theorem completes_qstatClear {s : State} {t : PhysTile} (v : W32) (hf : s.fencedAt (tileKey t) = false) :
    completes (.qstatClear t v) s [.tiles] fun u =>
      (bit v.toNat 0 = true → s.tileBecomes (tileKey t) ((s.tileOf (tileKey t)).setReg 0x28 0) u) ∧
      (bit v.toNat 0 = false → s.tileBecomes (tileKey t) (s.tileOf (tileKey t)) u) := by
  have hx : exec (.qstatClear t v) s = .next (s.setTile (tileKey t) ((s.tileOf (tileKey t)).regWrite 0x28 v.toNat)) :=
    whenDue_true (by rw [hf]; rfl) _ _
  rw [Tile.regWrite_qstat] at hx
  refine completes_step hx (State.setTile_step (Step.refl _ s) (by decide)) ⟨fun h => ?_, fun h => ?_⟩
  · rw [if_pos h]
    exact State.tileBecomes_of_set rfl
  · rw [if_neg (by rw [h]; decide)]
    exact State.tileBecomes_of_set rfl

/-- The read-to-clear counters of a tile (R116). -/
def clearedRegs : List Nat := [0x34, 0x40, 0x44, 0x48, 0x4C, 0x1C0, 0x1C4, 0x1C8, 0x1CC, 0x1D0, 0x1D4, 0x1D8]

theorem clearedRegs_clear : ∀ off ∈ clearedRegs, (regReadClears off && off % 4 == 0) = true := by decide

/-- A read-to-clear counter is a register kept as it is. -/
theorem State.tileReg_cleared {off : Nat} (h : off ∈ clearedRegs) (s : State) (k : Nat) : s.tileReg k off = (s.tileOf k).reg off := by
  simp only [clearedRegs, List.mem_cons, List.not_mem_nil, or_false] at h
  rcases h with rfl | rfl | rfl | rfl | rfl | rfl | rfl | rfl | rfl | rfl | rfl | rfl <;> rfl

theorem completes_tileCounterReadClear {s : State} {t : PhysTile} {off : W16} (hf : s.fencedAt (tileKey t) = false)
    (ho : off.toNat ∈ clearedRegs) : completes (.tileCounterReadClear t off) s [.tiles] fun u =>
      s.tileReg (tileKey t) off.toNat = (s.tileOf (tileKey t)).reg off.toNat ∧ u.tileReg (tileKey t) off.toNat = 0 ∧
        s.tileBecomes (tileKey t) ((s.tileOf (tileKey t)).setReg off.toNat 0) u := by
  have hclear := clearedRegs_clear _ ho
  have hx : exec (.tileCounterReadClear t off) s = .next (s.setTile (tileKey t) ((s.tileOf (tileKey t)).setReg off.toNat 0)) := by
    show execTileCounterReadClear t off s = _
    unfold execTileCounterReadClear
    dsimp only
    rw [Bool.and_assoc, hclear, Tile.regRead, if_pos (Bool.and_eq_true _ _ ▸ hclear).1]
    exact whenDue_true (by rw [hf]; rfl) _ _
  refine completes_step hx (State.setTile_step (Step.refl _ s) (by decide))
    ⟨State.tileReg_cleared ho _ _, ?_, State.tileBecomes_of_set rfl⟩
  rw [State.tileReg_cleared ho, State.tileOf_setTile_same]
  exact Tab.get_set_same _ _ _ _

/-! ### The end of a task (R109, R138, R413) -/

/-- The last part of an entry ends it with the worst of its parts' statuses. -/
theorem State.partDone_last {s : State} {id idx : Nat} {e : EntryRun} (h : s.entryOf id idx = some e) (hp : e.parts = 1) (st : Status)
    (det : Nat) : (s.partDone id idx st det).ended id idx (e.worst.worse st) := by
  obtain ⟨hi, hs⟩ := State.entryOf_spec h
  unfold State.partDone
  simp only [h, hp]
  rw [if_pos trivial]
  exact State.ended_entryEnd (State.entryOf_entryMap_const h (by exact hi) (by exact hs)) _ _

/-- An earlier part leaves the entry outstanding with one part less. -/
theorem State.partDone_earlier {s : State} {id idx : Nat} {e : EntryRun} (h : s.entryOf id idx = some e) (hp : 2 ≤ e.parts) (st : Status)
    (det : Nat) : ∃ d, (s.partDone id idx st det).entryOf id idx = some d ∧ d.parts = e.parts - 1 ∧ d.worst = e.worst.worse st := by
  obtain ⟨hi, hs⟩ := State.entryOf_spec h
  rw [State.partDone_more h (by omega)]
  exact ⟨_, State.entryOf_entryMap_const h hi hs, rfl, rfl⟩

/-- With nothing suspect no entry's status is worsened. -/
theorem State.suspectStatus_none {s : State} (h : s.suspects = []) (j : Nat) (keys segs : List Nat) : s.suspectStatus j keys segs = .ok := by
  have hs : ∀ u, s.isSuspect u = false := fun u => by rw [State.isSuspect, h]; rfl
  unfold State.suspectStatus
  simp only [h, hs]
  rfl

theorem completes_taskEnd {s : State} {t : PhysTile} {q : Task} {st : Status} {det : Nat} {e : EntryRun} (hrun : s.tileRuns (tileKey t) = true)
    (hq : (s.tileOf (tileKey t)).task = some q) (hend : (s.tileOf (tileKey t)).endStatus = some (st, det))
    (he : s.entryOf q.list q.idx = some e) (hsus : s.suspects = []) :
    completes (.taskEnd t) s (entryFields ++ ([.tiles] : List Field)) fun u =>
      (u.tileOf (tileKey t)).task = none ∧ (u.tileOf (tileKey t)).core0.halted = true ∧ (u.tileOf (tileKey t)).core1.halted = true ∧
      (u.tileOf (tileKey t)).queue = [] ∧ (∀ j, j ≠ tileKey t → u.tileOf j = s.tileOf j) ∧
      (2 ≤ e.parts → ∃ d, u.entryOf q.list q.idx = some d ∧ d.parts = e.parts - 1 ∧ d.worst = e.worst.worse st) ∧
      (e.parts = 1 → u.ended q.list q.idx (e.worst.worse st)) := by
  generalize hs1 : (s.setTile (tileKey t) (s.tileOf (tileKey t)).taskOver).count 64 0x2600 3 (s.tileOf (tileKey t)).recordsLost = s1
  have hx : exec (.taskEnd t) s = .next (s1.partDone q.list q.idx st det) := by
    show execTaskEnd t s = _
    unfold execTaskEnd
    simp only [hq, hend, hs1, State.suspectStatus_none hsus, ne_eq, not_true_eq_false, and_false, if_false]
    exact whenDue_true hrun _ _
  have he1 : s1.entryOf q.list q.idx = some e := by rw [← he, ← hs1]; exact State.entryOf_congr (by simp) _ _
  have htiles : (s1.partDone q.list q.idx st det).tiles = s.tiles.set (tileKey t) (s.tileOf (tileKey t)).taskOver :=
    ((State.partDone_step (Step.refl _ s1) (by decide) : Step (maskOf entryFields) s1 _).tiles (by decide)).trans (by rw [← hs1]; simp [State.setTile])
  obtain ⟨hsame, hother⟩ := State.tileBecomes_of_set htiles
  refine completes_step hx ?_ ⟨?_, ?_, ?_, ?_, hother, fun hp => State.partDone_earlier he1 hp _ _, fun hp => State.partDone_last he1 hp _ _⟩
  · rw [← hs1]
    exact State.partDone_step (State.count_step (State.setTile_step (Step.refl _ s) (by decide)) (by decide)) (by decide)
  all_goals rw [hsame]; rfl

/-! ### Circular regions (R127, R130) -/

section

variable {s : State} {t : PhysTile} {c : Core} {r : Fin 4} {v : W32} (hrun : s.coreRuns (tileKey t) c = true)

theorem advance_pos {size : Nat} (h : 0 < size) (ptr wrap n : Nat) :
    advance size ptr wrap n = ((ptr + n) % size, (wrap + (ptr + n) / size) % 65536) := if_neg (by omega)

include hrun

theorem exec_regionAdvance_eq : exec (.regionAdvance t c r v) s = .next (s.regionAdv (tileKey t) c r.val v.toNat) := whenDue_true hrun _ _

variable {g : RegionSt} (hg : (s.tileOf (tileKey t)).regionOf r.val = g)

include hg

theorem completes_tailAdvance (hen : g.enable = true) (hb : bit v.toNat 15 = true) (hm : bits v.toNat 14 0 ≤ g.size - g.occ) (hsize : 0 < g.size) :
    completes (.regionAdvance t c r v) s [.tiles] fun u => s.tileBecomes (tileKey t) { s.tileOf (tileKey t) with
      regions := (s.tileOf (tileKey t)).regions.set r.val { g with
        tail := (g.tail + bits v.toNat 14 0) % g.size
        twrap := (g.twrap + (g.tail + bits v.toNat 14 0) / g.size) % 65536 } } u := by
  refine completes_step (exec_regionAdvance_eq hrun) ?_ ?_ <;> unfold State.regionAdv <;>
    simp only [hg, hen, hb, advance_pos hsize, Bool.true_eq_false, false_and, true_and, or_false, if_false, if_true,
      Nat.not_lt.2 hm]
  · exact State.setTile_step (Step.refl _ s) (by decide)
  · exact State.tileBecomes_of_set rfl

theorem completes_headAdvance (hen : g.enable = true) (hb : bit v.toNat 15 = false) (hm : bits v.toNat 14 0 ≤ g.occ) (hsize : 0 < g.size)
    (hrel : g.releaseClears = false) :
    completes (.regionAdvance t c r v) s [.tiles] fun u => s.tileBecomes (tileKey t) { s.tileOf (tileKey t) with
      regions := (s.tileOf (tileKey t)).regions.set r.val { g with
        head := (g.head + bits v.toNat 14 0) % g.size
        hwrap := (g.hwrap + (g.head + bits v.toNat 14 0) / g.size) % 65536 } } u := by
  refine completes_step (exec_regionAdvance_eq hrun) ?_ ?_ <;> unfold State.regionAdv <;>
    simp only [hg, hen, hb, hrel, advance_pos hsize, Bool.true_eq_false, Bool.false_eq_true, false_and, true_and, or_false, if_false,
      Nat.not_lt.2 hm]
  · exact State.setTile_step (Step.refl _ s) (by decide)
  · exact State.tileBecomes_of_set rfl

theorem completes_badAdvance (h : g.enable = false ∨ (bit v.toNat 15 = true ∧ g.size - g.occ < bits v.toNat 14 0) ∨
      (bit v.toNat 15 = false ∧ g.occ < bits v.toNat 14 0)) :
    completes (.regionAdvance t c r v) s [.det, .log, .logMade, .faultBuffer, .tiles] fun u =>
      s.taskEnds (tileKey t) .badCommand 0x0205 u := by
  have htask : s.taskRuns (tileKey t) = true := (Bool.and_eq_true _ _ ▸ (show (s.taskRuns (tileKey t) && _) = true from hrun)).1
  obtain ⟨q, hq, hf⟩ := State.taskRuns_task htask
  have hx : ∃ w, s.regionAdv (tileKey t) c r.val v.toNat = s.taskFault (tileKey t) .badCommand 0x0205 w := by
    unfold State.regionAdv
    simp only [hg]
    exact ⟨_, if_pos h⟩
  obtain ⟨w, hx⟩ := hx
  exact completes_step ((exec_regionAdvance_eq hrun).trans (congrArg _ hx)) (State.taskFault_step (Step.refl _ s) (by decide))
    (State.taskFault_ends hq hf _ _ _)

end

end Sys2Proof.Machine

namespace Sys2Proof.Proofs

open Sys2Proof.Machine

/-- Settles O25: supervision reports once, registers clear as they are asked to, a task's end takes one part off its entry, and a
region's pointer moves within what is free or occupied. -/
theorem tileSupervisionAndTaskEnd : Obligations.TileSupervisionAndTaskEnd := by
  unfold Obligations.TileSupervisionAndTaskEnd
  refine ⟨⟨?_, ?_, ?_, ?_, ?_⟩, ?_, fun s t c r v hrun => ⟨?_, ?_, ?_⟩⟩
  · exact fun s t hw h => completes_tileFails (exec_issueHang_due hw h)
  · exact fun s t hw hy => completes_tileFails (exec_tileHeartbeatTimeout_due hw hy)
  · exact fun s t w r hrun hw hb => completes_eccWriteback hrun hw hb
  · exact fun s t v hf => completes_qstatClear v hf
  · exact fun s t off hf ho => completes_tileCounterReadClear hf ho
  · exact fun s t q st det e hrun hq hend he hsus _ => completes_taskEnd hrun hq hend he hsus
  · exact fun hen hb hm hsize => completes_tailAdvance hrun rfl hen hb hm hsize
  · exact fun hen hb hm hsize hrel => completes_headAdvance hrun rfl hen hb hm hsize hrel
  · exact fun h => completes_badAdvance hrun rfl h

end Sys2Proof.Proofs
end

section
/-! Proofs about the base instructions of a prep core. -/

namespace Sys2Proof.Machine

/-! ### Traps (R105, R138) -/

/-- What a tile's record was before its task ended does not matter, but for its issued instructions. -/
theorem State.taskEnds_setTile {s u : State} {k : Nat} {T : Tile} {st : Status} {d : Nat} (h : (s.setTile k T).taskEnds k st d u)
    (hf : T.flights = (s.tileOf k).flights) : s.taskEnds k st d u := by
  obtain ⟨h0, h1, hq, hfl, htask, hdet, hother⟩ := h
  rw [State.tileOf_setTile_same] at hfl
  exact ⟨h0, h1, hq, hfl.trans hf, htask, hdet, fun j hj => (hother j hj).trans (State.tileOf_setTile_other _ hj _)⟩

/-- A fault leaves a tile's registers as they are. -/
theorem Tile.taskFault_reg (x : Tile) (st : Status) (d : Nat) (viol : Option Nat) (off : Nat) : (x.taskFault st d viol).reg off = x.reg off := by
  unfold Tile.taskFault
  cases x.task <;> rfl

/-- A trap ends the task, with the pc and the cause in TRAP_PC and TRAP_CAUSE. -/
theorem State.trap_ends {s : State} {k : Nat} {c : Core} (h : ∃ q, (s.tileOf k).task = some q ∧ q.failed = none) (cause tval : Nat) :
    s.taskEnds k .badCommand 0x0103 (s.trap k c cause tval) ∧
      ((s.trap k c cause tval).tileOf k).reg 0x50 = ((s.tileOf k).core c).pc ∧
      ((s.trap k c cause tval).tileOf k).reg 0x54 = cause + coreNum c * 2 ^ 31 := by
  obtain ⟨q, hq, hf⟩ := h
  have hcore : ∀ y, ((s.tileOf k).setCore c y).task = some q := fun y => (Tile.setCore_task _ _ _).trans hq
  have hregs : ∀ (x : State) (off : Nat), ((x.taskFault k .badCommand 0x0103 none).tileOf k).reg off = (x.tileOf k).reg off := fun x off => by
    unfold State.taskFault
    rw [show State.tileOf (State.fire _ _ _ _) k = _ from congrArg (fun q => Tab.get q tile0 k) (State.fire_tiles ..)]
    exact (congrArg (Tile.reg · off) (State.tileOf_setTile_same ..)).trans (Tile.taskFault_reg ..)
  unfold State.trap
  refine ⟨State.taskEnds_setTile (State.taskFault_ends (by rw [State.tileOf_setTile_same]; exact hcore _) hf _ _ _) ?_, ?_, ?_⟩
  · cases c <;> rfl
  · rw [hregs, State.tileOf_setTile_same]
    exact (Tab.get_set_other _ _ _ (by decide)).trans (Tab.get_set_same _ _ _ _)
  · rw [hregs, State.tileOf_setTile_same]
    exact Tab.get_set_same _ _ _ _

/-- A fetch from an odd address traps (R105). -/
theorem exec_oddFetch {s : State} {t : PhysTile} {c : Core} (hrun : s.coreRuns (tileKey t) c = true)
    (hpc : ((s.tileOf (tileKey t)).core c).pc % 2 = 1) : exec (.prepCoreInstruction t c []) s =
      .next ((s.setTile (tileKey t) (s.tileOf (tileKey t))).trap (tileKey t) c 0 ((s.tileOf (tileKey t)).core c).pc) := by
  have hfetch : (s.setTile (tileKey t) (s.tileOf (tileKey t))).fetch (tileKey t) c = .odd (s.setTile (tileKey t) (s.tileOf (tileKey t))) := by
    unfold State.fetch
    rw [State.tileOf_setTile_same]
    exact if_pos hpc
  show execPrepCoreInstruction t c [] s = _
  unfold execPrepCoreInstruction
  simp only [Tile.strike, List.foldl_nil, hfetch, hrun, Bool.true_eq_false, if_false]

/-! ### Loads and stores of words -/

section

variable {s : State} {k : Nat} {c : Core} {a l : Nat} (h4 : a % 4 = 0) (hlo : 0x100000 ≤ a) (hhi : a < 0x140000)

include hlo hhi

theorem localOf_a : localOf a = .store .a (a - 0x100000) := by
  unfold localOf
  rw [if_neg (by omega), if_pos hhi]

include h4

theorem State.coreLoad_word (h : (s.tileOf k).holds .a [(a - 0x100000) / 64] [l]) :
    s.coreLoad k c a 4 = .ok s (leNat ((s.tileOf k).readBytes .a (l * 64 + (a - 0x100000) % 64) 4)) := by
  unfold State.coreLoad
  rw [if_neg (by simp [h4]), localOf_a hlo hhi]
  dsimp only
  rw [if_neg (by simp), State.taskRead_holds h]

theorem State.coreStore_word (h : (s.tileOf k).admits .a [(a - 0x100000) / 64] [l]) (v : Nat) : s.coreStore k c a 4 v =
    .ok (s.setTile k ((s.tileOf k).writeBytes .a (l * 64 + (a - 0x100000) % 64) (natLe 4 v))) 0 := by
  unfold State.coreStore
  rw [if_neg (by simp [h4]), localOf_a hlo hhi]
  dsimp only
  rw [if_neg (by simp), State.taskWrite_admits h]

end

/-! ### One base instruction (R104) -/

section

variable {s : State} {t : PhysTile} {c : Core} {w len : Nat}

theorem State.baseOp_addi (hop : bits w 6 0 = 0x13) (hf : bits w 14 12 = 0) :
    s.baseOp (tileKey t) c w len = s.setTile (tileKey t) ((s.tileOf (tileKey t)).ran c ((((s.tileOf (tileKey t)).core c).pc + len) % 2 ^ 32)
      (bits w 11 7) ((s.rs1 t c w + unsigned 32 (signed 12 (bits w 31 20))) % 2 ^ 32)) := by
  unfold State.baseOp
  simp only [hop, hf]
  rfl

theorem State.baseOp_add (hop : bits w 6 0 = 0x33) (h7 : bits w 31 25 = 0) (hf : bits w 14 12 = 0) :
    s.baseOp (tileKey t) c w len = s.setTile (tileKey t) ((s.tileOf (tileKey t)).ran c ((((s.tileOf (tileKey t)).core c).pc + len) % 2 ^ 32)
      (bits w 11 7) ((s.rs1 t c w + s.rs2 t c w) % 2 ^ 32)) := by
  unfold State.baseOp
  simp only [hop, hf, h7]
  rfl

theorem State.baseOp_mulDiv (hop : bits w 6 0 = 0x33) (h7 : bits w 31 25 = 1) :
    s.baseOp (tileKey t) c w len = s.setTile (tileKey t) ((s.tileOf (tileKey t)).ran c ((((s.tileOf (tileKey t)).core c).pc + len) % 2 ^ 32)
      (bits w 11 7) (mulDiv (bits w 14 12) (s.rs1 t c w) (s.rs2 t c w))) := by
  unfold State.baseOp
  simp only [hop, h7]
  rfl

theorem State.baseOp_beq (hop : bits w 6 0 = 0x63) (hf : bits w 14 12 = 0) :
    s.baseOp (tileKey t) c w len = s.setTile (tileKey t) ((s.tileOf (tileKey t)).ran c
      (if s.rs1 t c w = s.rs2 t c w then unsigned 32 (((s.tileOf (tileKey t)).core c).pc +
        signed 13 (bits w 31 31 * 2 ^ 12 + bits w 7 7 * 2 ^ 11 + bits w 30 25 * 2 ^ 5 + bits w 11 8 * 2))
        else (((s.tileOf (tileKey t)).core c).pc + len) % 2 ^ 32) 0 0) := by
  have hif : ∀ p q : Nat, (if (s.rs1 t c w == s.rs2 t c w) = true then p else q) = if s.rs1 t c w = s.rs2 t c w then p else q := fun p q => by
    simp only [beq_iff_eq]
  rw [← hif]
  unfold State.baseOp
  simp only [hop, hf]
  rfl

theorem State.baseOp_load {a v : Nat} (hop : bits w 6 0 = 0x03) (hf : bits w 14 12 = 2)
    (ha : unsigned 32 (s.rs1 t c w + signed 12 (bits w 31 20)) = a) (h : s.coreLoad (tileKey t) c a 4 = .ok s v) :
    s.baseOp (tileKey t) c w len = s.setTile (tileKey t) ((s.tileOf (tileKey t)).ran c ((((s.tileOf (tileKey t)).core c).pc + len) % 2 ^ 32)
      (bits w 11 7) v) := by
  subst ha
  unfold State.rs1 at h
  unfold State.baseOp
  simp only [hop, hf, loadSize, h]
  rfl

theorem State.baseOp_store {a : Nat} {T : Tile} (hop : bits w 6 0 = 0x23) (hf : bits w 14 12 = 2)
    (ha : unsigned 32 (s.rs1 t c w + signed 12 (bits w 31 25 * 32 + bits w 11 7)) = a)
    (h : s.coreStore (tileKey t) c a 4 (s.rs2 t c w) = .ok (s.setTile (tileKey t) T) 0) :
    s.baseOp (tileKey t) c w len = s.setTile (tileKey t) (T.ran c ((((s.tileOf (tileKey t)).core c).pc + len) % 2 ^ 32) 0 0) := by
  subst ha
  unfold State.rs1 State.rs2 at h
  unfold State.baseOp
  simp only [hop, hf, show ¬ 3 ≤ 2 from by decide, if_false, show (2 : Nat) ^ 2 = 4 from rfl, h, State.retire, State.tileOf_setTile_same,
    State.setTile_setTile]
  rfl

/-- An environment call and an illegal instruction trap. -/
theorem State.baseOp_traps (h : w = 0x73 ∨ bits w 6 0 = 0x7F) :
    s.baseOp (tileKey t) c w len = s.trap (tileKey t) c (if w = 0x73 then 11 else 2) 0 := by
  rcases h with rfl | hop
  · rfl
  · rw [if_neg (by rintro rfl; exact absurd hop (by decide))]
    unfold State.baseOp
    simp only [hop]

end

end Sys2Proof.Machine

namespace Sys2Proof.Proofs

open Sys2Proof.Machine

/-- Settles O26: each instruction by its opcode; word loads and stores by the access through the task's window. -/
theorem baseInstructions : Obligations.BaseInstructions := by
  unfold Obligations.BaseInstructions
  refine ⟨fun s t c hrun hpc htask => ?_, fun s s1 t c us w len h => ?_⟩
  · obtain ⟨hend, hpc', hcause⟩ := State.trap_ends (s := s.setTile (tileKey t) (s.tileOf (tileKey t))) (c := c)
      (by rw [State.tileOf_setTile_same]; exact htask) 0 ((s.tileOf (tileKey t)).core c).pc
    rw [State.tileOf_setTile_same] at hpc'
    rw [Nat.zero_add] at hcause
    exact ⟨_, exec_oddFetch hrun hpc, State.taskEnds_setTile hend rfl, hpc', hcause⟩
  · have hx := exec_baseAt h
    refine ⟨?_, ?_, ?_, ?_, ?_, ?_, ?_, ?_⟩
    · exact fun hop hf => hx.trans (congrArg _ (State.baseOp_addi hop hf))
    · exact fun hop h7 hf => hx.trans (congrArg _ (State.baseOp_add hop h7 hf))
    · exact fun hop h7 hf => hx.trans (congrArg _ ((State.baseOp_mulDiv hop h7).trans (by rw [hf]; rfl)))
    · exact fun hop h7 hf => hx.trans (congrArg _ ((State.baseOp_mulDiv hop h7).trans (by rw [hf]; rfl)))
    · exact fun hop hf => hx.trans (congrArg _ (State.baseOp_beq hop hf))
    · exact fun hop hf h4 hlo hhi l hl => hx.trans (congrArg _ (State.baseOp_load hop hf rfl (State.coreLoad_word h4 hlo hhi hl)))
    · exact fun hop hf h4 hlo hhi l hl => hx.trans (congrArg _ (State.baseOp_store hop hf rfl (State.coreStore_word h4 hlo hhi hl _)))
    · intro hw htask
      obtain ⟨hend, hpc, hcause⟩ := State.trap_ends htask (c := c) (if w = 0x73 then 11 else 2) 0
      exact ⟨_, hx.trans (congrArg _ (State.baseOp_traps hw)), hend, hpc, hcause⟩

end Sys2Proof.Proofs
end

section
/-! What the ends of entries, frames and jobs reach besides their own records: what is sent is only added to, and of the detectors those
alone change that records, events and EMCY messages may fire. -/

namespace Sys2Proof.Machine

/-- Settings are what the dictionary holds. -/
theorem State.setting_congr {s t : State} (h : t.od = s.od) (i j : Nat) : t.setting i j = s.setting i j := by
  unfold State.setting
  rw [h]

/-- `t` agrees with `s` in the detectors outside `D` and in whether EMCY messages are disabled, and has sent what `s` has, in its order,
before more. -/
structure Calm (D : List Nat) (s t : State) : Prop where
  det : ∀ d, d ∉ D → t.detOf d = s.detOf d
  out : s.out <+: t.out
  emcy : t.setting 0x1014 0 = s.setting 0x1014 0

section

variable {D : List Nat} {s0 s t : State}

theorem Calm.refl (D : List Nat) (s : State) : Calm D s s := ⟨fun _ _ => rfl, List.prefix_rfl, rfl⟩

theorem Calm.trans (h : Calm D s0 s) (k : Calm D s t) : Calm D s0 t :=
  ⟨fun d hd => (k.det d hd).trans (h.det d hd), h.out.trans k.out, k.emcy.trans h.emcy⟩

/-- A change of other fields. -/
theorem Calm.put (h : Calm D s0 s) (hd : t.det = s.det) (ho : t.od = s.od) (hx : t.out = s.out) : Calm D s0 t :=
  h.trans ⟨fun d _ => State.detOf_congr hd d, by rw [hx], State.setting_congr ho _ _⟩

theorem Calm.ite {c : Prop} [Decidable c] {u : State} (h : Calm D s0 t) (k : Calm D s0 u) : Calm D s0 (if c then t else u) := by
  split
  · exact h
  · exact k

theorem Calm.each {α : Type} {f : State → α → State} (l : List α) (h : Calm D s0 s) (hf : ∀ u x, Calm D s0 u → Calm D s0 (f u x)) :
    Calm D s0 (each l f s) := by
  induction l generalizing s with
  | nil => exact h
  | cons a r ih => exact ih (hf s a h)

theorem State.fire_calm (h : Calm D s0 s) {d : Nat} (hd : d ∈ D) (u a : Nat) : Calm D s0 (s.fire d u a) :=
  h.trans ⟨fun e he => State.detOf_fire_other s (fun x : e = d => he (x ▸ hd)) u a, by simp, State.setting_congr (by simp) _ _⟩

/-- A count beyond 0x1014 is not the setting that disables messages. -/
theorem State.count_calm (h : Calm D s0 s) {i : Nat} (hi : 0x1014 < i) (w j n : Nat) : Calm D s0 (s.count w i j n) := by
  refine h.trans ⟨fun e _ => State.detOf_congr (by simp [State.count]) e, by simp [State.count], ?_⟩
  unfold State.setting State.count
  rw [State.putCell_od, Tab.get_set_other]
  unfold odKey
  omega

theorem State.bump64_calm (h : Calm D s0 s) {i : Nat} (hi : 0x1014 < i) (j : Nat) : Calm D s0 (s.bump64 i j) := State.count_calm h hi 64 j 1

theorem State.bump32_calm (h : Calm D s0 s) {i : Nat} (hi : 0x1014 < i) (j : Nat) : Calm D s0 (s.bump32 i j) := State.count_calm h hi 32 j 1

theorem State.raise_calm (h : Calm D s0 s) (f : Fn) (v : Nat) : Calm D s0 (s.raise f v) := by
  refine h.trans ⟨fun d _ => State.detOf_congr (by simp) d, ?_, State.setting_congr (by simp) _ _⟩
  unfold State.raise
  split
  · exact List.prefix_rfl
  · exact List.prefix_append _ _

variable (hD : ∀ d ∈ sideDets, d ∈ D)

include hD

theorem State.tierWrite_calm (h : Calm D s0 s) (a : Nat) (bs : List Byte) : Calm D s0 (s.tierWrite a bs) := by
  have k := State.tierWrite_step (x1 := a) (x2 := bs) (Step.refl 17593194512384 s) (by decide)
  exact h.trans ⟨(State.tierWrite_side (Side.refl D [] s) hD a bs).det, by rw [k.out (by decide)], State.setting_congr (k.od (by decide)) _ _⟩

theorem State.cqPut_calm (h : Calm D s0 s) (k header : Nat) (body : List Byte) : Calm D s0 (s.cqPut k header body) := by
  have hw := State.tierWrite_calm hD h ((s.cqOf k).base + (s.cqOf k).producer % 2 ^ (s.cqOf k).log2 * 64)
    (natLe 4 header ++ natLe 4 (s.cqOf k).producer ++ body)
  unfold State.cqPut
  refine Calm.ite (State.raise_calm ?_ _ _) ?_
  · exact hw.put rfl rfl rfl
  · exact hw.put rfl rfl rfl

theorem State.event_calm (h : Calm D s0 s) (f : Fn) (code det st : Nat) (data : List Byte) : Calm D s0 (s.event f code det st data) := by
  unfold State.event
  refine Calm.ite h (Calm.ite ?_ ?_)
  · have hb := State.bump64_calm h (i := 0x2501) (by decide) 7
    refine State.fire_calm ?_ (hD 0x0706 (by decide)) _ _
    exact hb.put (by simp) (by simp) (by simp)
  · exact State.cqPut_calm hD (h.put (by simp) (by simp) (by simp)) _ _ _

theorem State.eventAll_calm (h : Calm D s0 s) (code det st : Nat) (data : List Byte) : Calm D s0 (s.eventAll code det st data) :=
  State.event_calm hD (State.event_calm hD h _ _ _ _ _) _ _ _ _ _

theorem State.emcyAt_calm (h : Calm D s0 s) (code det st : Nat) : Calm D s0 (s.emcyAt code det st) := by
  refine h.trans ⟨fun d hd => ?_, by simp, ?_⟩
  · exact (State.emcyAt_side (D := D) (C := sideCells) hD (fun _ h => h) (Side.refl D sideCells s) code det st).det d hd
  · have e0 : State.setting (if code = 0 then s else
        { s with can := { s.can with history := ((code + det * 65536) :: s.can.history).take 8 } }) 0x1014 0 = s.setting 0x1014 0 := by
      split <;> rfl
    unfold State.emcyAt
    dsimp only
    split
    · rfl
    · split
      · rfl
      · revert e0
        generalize (if code = 0 then s else _) = u
        intro e0
        split
        · exact e0
        · refine Eq.trans ?_ e0
          exact (State.setting_congr (s := u.bump32 0x1FD2 8) (by simp) _ _).trans (State.bump32_calm (Calm.refl [] u) (by decide) 8).emcy

theorem State.emcyEvent_calm (h : Calm D s0 s) (code det : Nat) (data : List Byte) : Calm D s0 (s.emcyEvent code det data) := by
  unfold State.emcyEvent
  exact Calm.ite (State.eventAll_calm hD (State.emcyAt_calm hD h _ _ _) _ _ _ _) (State.emcyAt_calm hD h _ _ _)

theorem State.emcyPower_calm (h : Calm D s0 s) (code det arg : Nat) : Calm D s0 (s.emcyPower code det arg) := State.emcyEvent_calm hD h ..

/-! ### Completion records (R213 to R217) -/

theorem State.listPut_calm (h : Calm D s0 s) (id : Nat) (l : ListRun) (header : Nat) (body : List Byte) :
    Calm D s0 (s.listPut id l header body) := by
  unfold State.listPut
  dsimp only
  refine Calm.ite (State.bump64_calm ?_ (by decide) _) (State.cqPut_calm hD ?_ _ _ _)
  · exact h.put rfl rfl rfl
  · exact h.put rfl rfl rfl

theorem State.listEnd_calm (h : Calm D s0 s) (id : Nat) (st : Status) (entry executed det at_ : Nat) :
    Calm D s0 (s.listEnd id st entry executed det at_) := by
  unfold State.listEnd
  cases s.lists.find id with
  | none => exact h
  | some l => exact (State.listPut_calm hD h id l _ _).put rfl rfl rfl

theorem State.listCheck_calm (h : Calm D s0 s) (id at_ : Nat) : Calm D s0 (s.listCheck id at_) := by
  unfold State.listCheck
  cases s.lists.find id with
  | none => exact h
  | some l =>
    dsimp only
    refine Calm.ite ?_ h
    cases l.supplier with
    | none => exact State.listEnd_calm hD h ..
    | some e => exact State.listEnd_calm hD h ..

theorem State.entryDoneAt_calm (h : Calm D s0 s) (at_ id idx : Nat) (st : Status) (det result slot : Nat) :
    Calm D s0 (s.entryDoneAt at_ id idx st det result slot) := by
  unfold State.entryDoneAt
  cases s.lists.find id with
  | none => exact h
  | some l => cases s.entryOf id idx with
    | none => exact h
    | some e =>
      dsimp only
      refine State.listCheck_calm hD (Calm.ite (State.listPut_calm hD ?_ _ _ _ _) ?_) _ _
      · exact h.put rfl rfl rfl
      · exact h.put rfl rfl rfl

theorem State.entryDone_calm (h : Calm D s0 s) (id idx : Nat) (st : Status) (det result slot : Nat) :
    Calm D s0 (s.entryDone id idx st det result slot) := State.entryDoneAt_calm hD h ..

theorem State.entryEnd_calm (h : Calm D s0 s) (id idx : Nat) (st : Status) (det : Nat) : Calm D s0 (s.entryEnd id idx st det) := by
  unfold State.entryEnd
  cases s.entryOf id idx with
  | none => exact h
  | some e => exact State.entryDone_calm hD h ..

theorem State.entryRefuse_calm (h : Calm D s0 s) (id idx : Nat) (st : Status) (det : Nat) : Calm D s0 (s.entryRefuse id idx st det) := by
  unfold State.entryRefuse
  cases s.lists.find id with
  | none => exact h
  | some l =>
    refine State.entryEnd_calm hD ?_ _ _ _ _
    exact h.put rfl rfl rfl

omit hD in
theorem State.entryMap_calm (h : Calm D s0 s) (id idx : Nat) (f : EntryRun → EntryRun) : Calm D s0 (s.entryMap id idx f) := by
  unfold State.entryMap
  cases s.lists.find id with
  | none => exact h
  | some l => exact h.put rfl rfl rfl

omit hD in
theorem State.faultEnd_calm (h : Calm D s0 s) (st : Status) : Calm D s0 (s.faultEnd st) := Calm.ite (State.bump64_calm h (by decide) _) h

theorem State.partDone_calm (h : Calm D s0 s) (id idx : Nat) (st : Status) (det : Nat) : Calm D s0 (s.partDone id idx st det) := by
  unfold State.partDone
  cases s.entryOf id idx with
  | none => exact h
  | some e => exact Calm.ite (State.entryEnd_calm hD (State.entryMap_calm h _ _ _) _ _ _ _) (State.entryMap_calm h _ _ _)

/-! ### Frames and slots that end -/

theorem State.dropSlotWork_calm (h : Calm D s0 s) (slot : Nat) (free : Bool) : Calm D s0 (s.dropSlotWork slot free) := by
  unfold State.dropSlotWork
  cases s.attach.find slot with
  | none => exact h
  | some a =>
    dsimp only
    refine (?_ : ∀ x : State, Calm D s0 x → Calm D s0 (match a.reward with
      | none => x
      | some r => each r.entries (fun x e => x.entryEnd e.1 e.2 .deadlineMissed 0) x)) _ (State.count_calm ?_ (by decide) _ _ _)
    · intro x hx
      cases a.reward with
      | none => exact hx
      | some r => exact Calm.each _ hx fun u e hu => State.entryEnd_calm hD hu ..
    · exact h.put rfl rfl rfl

theorem State.slotFree_calm (h : Calm D s0 s) (slot : Nat) : Calm D s0 (s.slotFree slot) := by
  have hd : Calm D s0 { s.detachSlot slot with sessions := (s.detachSlot slot).sessions.erase slot } :=
    (State.dropSlotWork_calm hD h slot true).put rfl rfl rfl
  unfold State.slotFree
  dsimp only
  cases (s.sessionOf slot).closer with
  | none => exact hd
  | some e => exact State.entryDone_calm hD hd ..

theorem State.frameDone_calm (h : Calm D s0 s) (key : Nat) (st : Status) (det : Nat) : Calm D s0 (s.frameDone key st det) := by
  unfold State.frameDone
  cases s.frames.find key with
  | none => exact h
  | some f =>
    have k := State.laneLeave_step (x1 := f) (x2 := key) (Step.refl 4398046511104 s) (by decide)
    have hl : Calm D s0 { s.laneLeave f key with frames := (s.laneLeave f key).frames.erase key } :=
      h.put (k.det (by decide)) (k.od (by decide)) (k.out (by decide))
    have hc : ∀ {x : State}, Calm D s0 x → Calm D s0 (x.slotCheck f.slot) := fun hx => Calm.ite (State.slotFree_calm hD hx _) hx
    exact hc (State.entryDone_calm hD (Calm.ite (State.bump64_calm hl (by decide) _)
      (Calm.ite (State.bump64_calm (State.bump64_calm hl (by decide) _) (by decide) _) hl)) ..)

theorem State.skipFrame_calm (h : Calm D s0 s) (key : Nat) : Calm D s0 (s.skipFrame key) := by
  unfold State.skipFrame
  cases s.frames.find key with
  | none => exact h
  | some f =>
    refine State.frameDone_calm hD ?_ _ _ _
    exact h.put rfl rfl rfl

theorem State.skipCandidate_calm (h : Calm D s0 s) (key : Nat) (f : Frame) : Calm D s0 (s.skipCandidate key f) := by
  unfold State.skipCandidate
  cases (s.sessionOf f.slot).set with
  | none => exact State.skipFrame_calm hD h key
  | some g =>
    refine Calm.each _ ?_ fun u k hu => State.skipFrame_calm hD hu k
    exact h.put rfl rfl rfl

theorem skipLoop_calm (k : Nat) : ∀ (fuel : Nat) {s : State}, Calm D s0 s → Calm D s0 (skipLoop fuel k s)
  | 0, _, h => h
  | fuel + 1, s, h => by
    unfold skipLoop
    refine Calm.ite h ?_
    cases s.skipFirst k with
    | none => exact State.bump64_calm h (by decide) _
    | some c => exact skipLoop_calm k fuel (State.skipCandidate_calm hD h _ _)

theorem State.rebudget_calm (h : Calm D s0 s) : Calm D s0 s.rebudget := Calm.each _ h fun _ k hu => skipLoop_calm hD k _ hu

/-! ### Plans and flash (R170, R171) -/

theorem State.planEntryDone_calm (h : Calm D s0 s) (e : Nat × Nat) (j : Nat) (segs : List Nat) (st : Status) (det : Nat) :
    Calm D s0 (s.planEntryDone e j segs st det) := State.entryDone_calm hD (State.faultEnd_calm h _) ..

theorem State.planCheck_calm (h : Calm D s0 s) (pl : Nat) : Calm D s0 (s.planCheck pl) := by
  unfold State.planCheck
  cases s.plans.find pl with
  | none => exact h
  | some p =>
    dsimp only
    refine Calm.ite h (Calm.each _ ?_ fun u e hu => State.planEntryDone_calm hD hu ..)
    cases p.activator with
    | none => exact h.put rfl rfl rfl
    | some e =>
      refine State.planEntryDone_calm hD ?_ ..
      exact h.put rfl rfl rfl

theorem State.lanesEnd_calm (h : Calm D s0 s) (q : Pass) (x : Pleat) (st : Status) (det sub : Nat) : Calm D s0 (s.lanesEnd q x st det sub) :=
  Calm.each _ h fun _ _ hu => State.frameDone_calm hD (State.bump64_calm hu (by decide) _) ..

/-- A pleat that fails and is not staged again. -/
theorem State.pleatFail_calm (h : Calm D s0 s) (pl i det : Nat) : Calm D s0 (s.pleatFail pl i det false) := by
  unfold State.pleatFail
  cases s.plans.find pl with
  | none => exact h
  | some p => cases hx : p.pleats[i]? with
    | none => simp only [hx]; exact h
    | some x =>
      simp only [hx, Bool.false_and, Bool.false_eq_true, if_false]
      refine State.planCheck_calm hD (Calm.each _ ?_ fun u c hu => ?_) _
      · refine (?_ : ∀ {y : State}, Calm D s0 y → Calm D s0 (y.voids pl x.rx x.ry)) (Calm.each _ (State.bump64_calm ?_ (by decide) _) fun u c hu =>
          State.lanesEnd_calm hD ?_ ..)
        · intro y hy
          have k := State.voids_step (x1 := pl) (x2 := x.rx) (x3 := x.ry) (Step.refl 144119723561320448 y) (by decide)
          exact hy.put (k.det (by decide)) (k.od (by decide)) (k.out (by decide))
        · exact h.put rfl rfl rfl
        · exact hu.put rfl rfl rfl
      · have k := State.tagFinal_step (x1 := pl) (x2 := c.1) (x3 := x.step) (x4 := x.rx) (x5 := x.ry) (x6 := false) (Step.refl 137438953472 u) (by decide)
        exact hu.put (k.det (by decide)) (k.od (by decide)) (k.out (by decide))

theorem State.flashPart_calm (h : Calm D s0 s) (id idx g : Nat) (st : Status) (det : Nat) : Calm D s0 (s.flashPart id idx g st det) := by
  unfold State.flashPart
  cases s.entryOf id idx with
  | none => exact h
  | some e => cases s.lists.find id with
    | none => exact h
    | some l => exact Calm.ite (State.partDone_calm hD (State.faultEnd_calm h _) ..) (State.partDone_calm hD h ..)

theorem State.nvmeFail_calm (h : Calm D s0 s) (g : Nat) (c : NvmeCmd) (det : Nat) : Calm D s0 (s.nvmeFail g c det) := by
  unfold State.nvmeFail
  cases c.for_ with
  | nothing => exact h
  | pleat pl i => exact Calm.ite (State.pleatFail_calm hD h pl i det) h
  | entry id idx => exact State.flashPart_calm hD h ..

theorem State.nvmeFailAll_calm (h : Calm D s0 s) (g det : Nat) : Calm D s0 (s.nvmeFailAll g det) := by
  refine Calm.each _ ?_ fun u c hu => State.nvmeFail_calm hD hu g c det
  exact h.put rfl rfl rfl

theorem State.flashDown_calm (h : Calm D s0 s) (hf : 0x0601 ∈ D) (g : Nat) : Calm D s0 (s.flashDown g) := by
  refine Calm.ite h (State.nvmeFailAll_calm hD (State.fire_calm ?_ hf _ _) _ _)
  exact h.put rfl rfl rfl

/-! ### Requests and connections (R257, R270, R276) -/

theorem State.wrEnd_calm (h : Calm D s0 s) (id : Nat) (st : Status) (det : Nat) : Calm D s0 (s.wrEnd id st det) := by
  unfold State.wrEnd
  cases s.wrs.find id with
  | none => exact h
  | some w =>
    refine State.entryEnd_calm hD ?_ ..
    exact h.put rfl rfl rfl

omit hD in
theorem State.slotReady_calm (h : Calm D s0 s) (slot : Nat) : Calm D s0 (s.slotReady slot) := by
  have k := State.slotReady_step (x1 := slot) (Step.refl 16384 s) (by decide)
  exact h.put (k.det (by decide)) (k.od (by decide)) (k.out (by decide))

theorem State.wrFire_calm (h : Calm D s0 s) (id : Nat) : Calm D s0 (s.wrFire id) := by
  unfold State.wrFire
  cases s.wrs.find id with
  | none => exact h
  | some w =>
    have hb := State.bump64_calm h (i := 0x2702) (by decide) 0xE
    refine Calm.ite ?_ (Calm.ite (State.wrEnd_calm hD (Calm.each _ hb fun u k hu => State.slotReady_calm hu k) ..) ?_)
    · exact h.put rfl rfl rfl
    · exact hb.put rfl rfl rfl

theorem State.ctrUp_calm (h : Calm D s0 s) (ctr : Nat) : Calm D s0 (s.ctrUp ctr) := by
  have ht : ∀ {x : State}, Calm D s0 x → Calm D s0 (x.triggers ctr) := fun {x} hx => by
    unfold State.triggers
    cases x.ctrs.find ctr with
    | none => exact hx
    | some c => exact Calm.each _ hx fun u w hu => State.wrFire_calm hD hu w
  unfold State.ctrUp
  cases s.ctrs.find ctr with
  | none => exact h
  | some c =>
    refine ht ?_
    exact h.put rfl rfl rfl

theorem State.wrDone_calm (h : Calm D s0 s) (id : Nat) (st : Status) (det : Nat) : Calm D s0 (s.wrDone id st det) := by
  unfold State.wrDone
  cases s.wrs.find id with
  | none => exact h
  | some w => exact Calm.ite (State.ctrUp_calm hD (State.wrEnd_calm hD h ..) _) (State.wrEnd_calm hD h ..)

theorem State.connEnd_calm (h : Calm D s0 s) (c : Nat) (st : Status) (det : Nat) : Calm D s0 (s.connEnd c st det) := by
  have hx := Calm.each (match s.conns.find c with
      | some k => k.recvs.filter fun r => !r.done
      | none => []) (Calm.each ((s.wrs.cells.filter fun w => w.2.conn == c && w.2.op != 11).map Prod.fst) h fun u w hu => State.wrDone_calm hD hu w st det)
    fun u r hu => State.entryEnd_calm hD hu r.list r.idx st det
  exact hx.put rfl rfl rfl

theorem State.jobLinks_calm (h : Calm D s0 s) (j : Nat) : Calm D s0 (s.jobLinks j) := by
  refine Calm.each _ (Calm.each _ h fun u c hu => ?_) fun u k hu => Calm.each _ ?_ fun v w hv => State.wrDone_calm hD hv ..
  · exact (State.connEnd_calm hD hu c _ _).put rfl rfl rfl
  · exact hu.put rfl rfl rfl

/-! ### Jobs that end (R200, R414) -/

omit hD in
theorem State.killTask_calm (h : Calm D s0 s) (k : Nat) : Calm D s0 (s.killTask k) := by
  unfold State.killTask
  cases s.tiles.find k with
  | none => exact h
  | some t =>
    refine Calm.ite h (State.count_calm ?_ (by decide) _ _ _)
    exact h.put rfl rfl rfl

theorem State.jobEntriesEnd_calm (h : Calm D s0 s) (j : Nat) (st : Status) (det : Nat) (but : Nat × Nat) :
    Calm D s0 (s.jobEntriesEnd j st det but) := by
  refine Calm.each _ h fun u id hu => ?_
  cases u.lists.find id with
  | none => exact hu
  | some l => exact Calm.each _ hu fun v i hv => State.entryEnd_calm hD (State.faultEnd_calm hv _) ..

theorem State.jobFramesEnd_calm (h : Calm D s0 s) (j : Nat) (st : Status) (det : Nat) : Calm D s0 (s.jobFramesEnd j st det) :=
  Calm.each _ h fun _ _ hu => State.frameDone_calm hD (State.faultEnd_calm hu _) ..

theorem State.jobAbort_calm (h : Calm D s0 s) (j : Nat) (st : Status) (det : Nat) : Calm D s0 (s.jobAbort j st det) := by
  refine Calm.ite h (State.jobFramesEnd_calm hD (State.jobEntriesEnd_calm hD (Calm.each _ ?_ fun u k hu => State.killTask_calm hu k) ..) ..)
  exact h.put rfl rfl rfl

theorem State.abortAll_calm (h : Calm D s0 s) (det : Nat) : Calm D s0 (s.abortAll det) :=
  Calm.each _ h fun _ j hu => State.jobAbort_calm hD hu j _ det

theorem State.jobClose_calm (h : Calm D s0 s) (j : Nat) (but : Nat × Nat) : Calm D s0 (s.jobClose j but) := by
  have hforget : ∀ {x : State}, Calm D s0 x → Calm D s0 (x.jobForget j) := fun hx => hx.put rfl rfl rfl
  have hplans : ∀ {x : State}, Calm D s0 x → Calm D s0 (x.jobPlansEnd j) := fun {x} hx => by
    have k := State.jobPlansEnd_step (x1 := j) (Step.refl 4398046511104 x) (by decide)
    exact hx.put (k.det (by decide)) (k.od (by decide)) (k.out (by decide))
  have hslots : ∀ {x : State}, Calm D s0 x → Calm D s0 (x.jobSlotsEnd j) := fun hx => Calm.each _ hx fun u k hu => State.dropSlotWork_calm hD hu k true
  have hsessions : ∀ {x : State}, Calm D s0 x → Calm D s0 (x.jobSessionsEnd j) := fun hx => Calm.each _ hx fun u k hu => State.slotFree_calm hD hu k
  unfold State.jobClose
  dsimp only
  refine Calm.ite h (hforget ?_)
  refine (fun {x : State} (hx : Calm D s0 x) => Calm.ite (State.rebudget_calm hD hx) hx : ∀ {x : State}, Calm D s0 x →
    Calm D s0 (if (s.plans.vals.any fun p => p.job == j && (p.st == .active || p.st == .staging)) then x.rebudget else x)) ?_
  refine hplans (hsessions (hslots (State.jobLinks_calm hD (State.jobFramesEnd_calm hD (State.jobEntriesEnd_calm hD (Calm.each _ ?_
    fun u k hu => State.killTask_calm hu k) ..) ..) _)))
  exact h.put rfl rfl rfl

theorem State.closeAllJobs_calm (h : Calm D s0 s) : Calm D s0 s.closeAllJobs := Calm.each _ h fun _ j hu => State.jobClose_calm hD hu j _

end

/-! ### Statuses (R22) -/

theorem Status.prec_inj {a b : Status} (h : a.prec = b.prec) : a = b := by
  revert h
  cases a <;> cases b <;> decide

/-- The worse of two statuses is the one that precedes, so the order in which statuses meet does not matter. -/
theorem Status.worse_prec (a b : Status) : (a.worse b).prec = min a.prec b.prec := by
  unfold Status.worse
  split <;> omega

theorem Status.worse_assoc (a b c : Status) : (a.worse b).worse c = a.worse (b.worse c) :=
  Status.prec_inj (by simp only [Status.worse_prec, min_assoc])

theorem Status.worse_self (a : Status) : a.worse a = a := if_neg (lt_irrefl _)

theorem Status.worse_ok (a : Status) : a.worse .ok = a := by cases a <;> rfl

end Sys2Proof.Machine
end

section
/-! Proofs about the flash of a segment: its link, its commands and their ends. -/

namespace Sys2Proof.Machine

/-! ### Segments -/

theorem State.seg_congr {s t : State} (h : t.segs = s.segs) (g : Nat) : t.seg g = s.seg g := by
  unfold State.seg
  rw [h]

@[simp] theorem State.seg_fire (s : State) (d u a g : Nat) : (s.fire d u a).seg g = s.seg g := State.seg_congr (State.fire_segs ..) g

@[simp] theorem State.seg_setSeg_same (s : State) (g : Nat) (x : Seg) : (s.setSeg g x).seg g = x := Tab.get_set_same _ _ _ _

theorem State.seg_setSeg_other (s : State) {g j : Nat} (h : j ≠ g) (x : Seg) : (s.setSeg g x).seg j = s.seg j := Tab.get_set_other _ _ _ h

/-- What a suspect unit means to an entry depends on what is suspect, the jobs and the wafer. -/
theorem State.suspectStatus_congr {s t : State} (hs : t.suspects = s.suspects) (hj : t.jobs = s.jobs) (hw : t.wafer = s.wafer)
    (hm : t.moves = s.moves) (j : Nat) (keys segs : List Nat) : t.suspectStatus j keys segs = s.suspectStatus j keys segs := by
  have hp : t.losesPanel = s.losesPanel := by
    funext k
    unfold State.losesPanel
    rw [hw, hm]
  unfold State.suspectStatus State.isSuspect State.jobOf
  rw [hs, hj, hp]

/-! ### A flash entry's parts (R22, R150) -/

theorem State.find_of_entryOf {s : State} {id idx : Nat} {e : EntryRun} (h : s.entryOf id idx = some e) :
    ∃ l, s.lists.find id = some l := by
  unfold State.entryOf at h
  cases hl : s.lists.find id with
  | none => simp [hl] at h
  | some l => exact ⟨l, rfl⟩

section

variable {s : State} {id idx : Nat} {e : EntryRun} (he : s.entryOf id idx = some e) (g : Nat) (st : Status) (det : Nat)

include he

/-- An earlier part of a flash entry takes its own status. -/
theorem State.flashPart_more (hp : 2 ≤ e.parts) : s.flashPart id idx g st det = s.entryMap id idx fun _ =>
    { e with parts := e.parts - 1, worst := e.worst.worse st, det := if st = .ok then e.det else det } := by
  obtain ⟨l, hl⟩ := State.find_of_entryOf he
  unfold State.flashPart
  simp only [he, hl]
  rw [if_neg (by omega), State.partDone_more he (by omega)]

theorem State.flashPart_more_step (hp : 2 ≤ e.parts) {G : Nat} {s0 : State} (h : Step G s0 s) (hG : sub 2048 G = true) :
    Step G s0 (s.flashPart id idx g st det) := by
  rw [State.flashPart_more he g st det hp]
  exact State.entryMap_step h hG

theorem State.entryOf_flashPart_more (hp : 2 ≤ e.parts) : ∃ x, (s.flashPart id idx g st det).entryOf id idx = some x ∧
    x.parts = e.parts - 1 ∧ x.worst = e.worst.worse st := by
  obtain ⟨hi, hs⟩ := State.entryOf_spec he
  rw [State.flashPart_more he g st det hp]
  exact ⟨_, State.entryOf_entryMap_const he hi hs, rfl, rfl⟩

/-- The last part ends the entry with the worst of its parts' statuses and what a suspect segment gives it. -/
theorem State.ended_flashPart (hp : e.parts = 1) {l : ListRun} (hl : s.lists.find id = some l) :
    (s.flashPart id idx g st det).ended id idx ((e.worst.worse st).worse (s.suspectStatus l.job [] [g])) := by
  unfold State.flashPart
  simp only [he, hl]
  split
  · rename_i hw
    have hstep := State.partDone_last (s := s.faultEnd ((e.worst.worse st).worse (s.suspectStatus l.job [] [g]))) (id := id) (idx := idx) (e := e)
      ((State.entryOf_congr ((State.faultEnd_step (Step.refl 4194304 s) (by decide)).lists (by decide)) _ _).trans he) hp
      ((e.worst.worse st).worse (s.suspectStatus l.job [] [g])) (s.suspectTouchDet [] [g])
    rwa [← Status.worse_assoc, ← Status.worse_assoc, Status.worse_self] at hstep
  · rename_i hw
    rw [show (e.worst.worse st).worse (s.suspectStatus l.job [] [g]) = e.worst.worse st from Decidable.not_not.1 fun h => hw ⟨hp, h⟩]
    exact State.partDone_last he hp st det

end

/-- What an entry's status is, the lists say. -/
theorem State.ended_congr {s t : State} (h : t.lists = s.lists) {id idx : Nat} {st : Status} (he : s.ended id idx st) : t.ended id idx st := by
  unfold State.ended State.entryOf at *
  rw [h]
  exact he

/-! ### Segments whose commands fail keep everything but commands -/

/-- Every segment is as before but for its commands, and one without commands has none still. -/
def State.segsDrop (s t : State) : Prop :=
  ∀ j, ∃ m, t.seg j = { s.seg j with cmds := m } ∧ ((s.seg j).cmds = .empty → m = .empty)

theorem State.segsDrop_of_segs {s t : State} (h : t.segs = s.segs) : s.segsDrop t :=
  fun j => ⟨(s.seg j).cmds, State.seg_congr h j, id⟩

theorem State.segsDrop.trans {s t u : State} (h : s.segsDrop t) (k : t.segsDrop u) : s.segsDrop u := fun j => by
  obtain ⟨m, hm, hme⟩ := h j
  obtain ⟨n, hn, hne⟩ := k j
  refine ⟨n, by rw [hn, hm], fun he => hne ?_⟩
  rw [hm]
  exact hme he

theorem State.segsDrop_pleatDrop (s : State) (pl i : Nat) : s.segsDrop (s.pleatDrop pl i) := fun j => by
  have hseg : (s.pleatDrop pl i).seg j = { s.seg j with cmds := (s.seg j).cmds.mapVals fun _ c => c.drop pl i } := by
    unfold State.seg State.pleatDrop Tab.get
    rw [Tab.find_mapVals]
    cases s.segs.find j <;> rfl
  exact ⟨_, hseg, fun h => by rw [h]; rfl⟩

/-- A pleat's failure that stages nothing again only drops its commands. -/
theorem State.segsDrop_pleatFail (s : State) (pl i det : Nat) : s.segsDrop (s.pleatFail pl i det false) := by
  unfold State.pleatFail
  cases hp : s.plans.find pl with
  | none => exact State.segsDrop_of_segs rfl
  | some p => cases hx : p.pleats[i]? with
    | none => simp only [hx]; exact State.segsDrop_of_segs rfl
    | some x =>
      simp only [hx, Bool.false_and, Bool.false_eq_true, if_false]
      refine (s.segsDrop_pleatDrop pl i).trans (State.segsDrop_of_segs (Step.segs (F := 216195477733657736) ?_ (by decide)))
      refine State.planCheck_step (each_step (State.voids_step (each_step (State.bump64_step (State.planMap_step (Step.refl _ _) (by decide)) (by decide))
        fun u c hu => ?_) (by decide)) fun u c hu => State.tagFinal_step hu (by decide)) (by decide)
      exact State.lanesEnd_step (State.setLanding_step hu (by decide)) (by decide)

theorem State.segsDrop_nvmeFail (s : State) (g : Nat) (c : NvmeCmd) (det : Nat) : s.segsDrop (s.nvmeFail g c det) := by
  unfold State.nvmeFail
  cases c.for_ with
  | nothing => exact State.segsDrop_of_segs rfl
  | pleat pl i =>
    dsimp only
    split
    · exact s.segsDrop_pleatFail pl i det
    · exact State.segsDrop_of_segs rfl
  | entry id idx =>
    exact State.segsDrop_of_segs ((State.flashPart_step (Step.refl 72075204416507008 s) (by decide)).segs (by decide))

theorem State.segsDrop_each {α : Type} {f : State → α → State} (hf : ∀ (x : State) a, x.segsDrop (f x a)) (l : List α) (s : State) :
    s.segsDrop (each l f s) := by
  induction l generalizing s with
  | nil => exact State.segsDrop_of_segs rfl
  | cons a r ih => exact (hf s a).trans (ih _)

/-- When all of a segment's commands fail, it has none left, and all segments keep everything else. -/
theorem State.nvmeFailAll_segs (s : State) (g det : Nat) : (s.nvmeFailAll g det).seg g = { s.seg g with cmds := .empty } ∧
    ∀ j, ∃ m, (s.nvmeFailAll g det).seg j = { s.seg j with cmds := m } := by
  have h := State.segsDrop_each (fun x c => x.segsDrop_nvmeFail g c det) (s.seg g).cmds.vals (s.setSeg g { s.seg g with cmds := .empty })
  constructor
  · obtain ⟨m, hm, hme⟩ := h g
    rw [State.seg_setSeg_same] at hm hme
    rw [hme rfl] at hm
    exact hm
  · intro j
    obtain ⟨m, hm, -⟩ := h j
    by_cases hj : j = g
    · subst hj
      rw [State.seg_setSeg_same] at hm
      exact ⟨m, hm⟩
    · rw [State.seg_setSeg_other _ hj] at hm
      exact ⟨m, hm⟩

theorem State.nvmeFailAll_none {s : State} {g : Nat} (h : (s.seg g).cmds = .empty) (det : Nat) :
    s.nvmeFailAll g det = s.setSeg g { s.seg g with cmds := .empty } := by
  unfold State.nvmeFailAll
  dsimp only
  rw [h]
  rfl

theorem State.nvmeFailAll_one {s : State} {g cid : Nat} {c : NvmeCmd} (h : (s.seg g).cmds = ⟨[(cid, c)]⟩) (det : Nat) :
    s.nvmeFailAll g det = (s.setSeg g { s.seg g with cmds := .empty }).nvmeFail g c det := by
  unfold State.nvmeFailAll
  dsimp only
  rw [h]
  rfl

theorem State.nvmeFail_entry {s : State} {g id idx : Nat} {c : NvmeCmd} (h : c.for_ = .entry id idx) (det : Nat) :
    s.nvmeFail g c det = s.flashPart id idx g .tierFailed det := by
  unfold State.nvmeFail
  rw [h]

theorem segId_ofNat (g : SegId) : Fin.ofNat 16 g.val = g := Fin.ext (Nat.mod_eq_of_lt g.isLt)

/-- A reset of the controller of a segment without commands. -/
theorem State.nvmeReset_none {s : State} {g : Nat} (h : (s.seg g).cmds = .empty) :
    (s.nvmeReset g).seg g = { s.seg g with flash := .resetting, queues := 0, entries := 0, timeouts := 0, cmds := .empty } ∧
      (s.nvmeReset g).lists = s.lists ∧ (s.nvmeReset g).out = s.out ++ [.nvmeReset (Fin.ofNat 16 g)] := by
  unfold State.nvmeReset
  dsimp only
  rw [State.nvmeFailAll_none (by rw [State.seg_fire, State.seg_setSeg_same]; exact h)]
  refine ⟨?_, by simp, by simp⟩
  exact (State.seg_setSeg_same _ _ _).trans (by rw [State.seg_fire, State.seg_setSeg_same])

/-! ### Links (R146, R147, R149, R150) -/

section

variable {s : State} {g : SegId}

theorem completes_nvmeLinkUp {n : Nat} {i : SsdInfo} (hst : (s.seg g.val).flash = .linkDown ∨ (s.seg g.val).flash = .resetting)
    (hon : (s.domainOf (1 + g.val)).st = .on) (hy : s.up.yoke = true) (h1 : 1 ≤ n) (h5 : n ≤ 5) :
    completes (.nvmeLinkUp g n i) s [.det, .log, .logMade, .faultBuffer, .segs] fun t => (∀ j, j ≠ g.val → t.seg j = s.seg j) ∧
      (ssdBad i = true → s.firedOnce 0x0606 t ∧ t.seg g.val = { s.seg g.val with
        gen := if (s.seg g.val).flash = .linkDown then n else (s.seg g.val).gen
        flash := .rejected, queues := 0, entries := 0, timeouts := 0 }) ∧
      (ssdBad i = false → t.det = s.det ∧ t.seg g.val = { s.seg g.val with
        gen := if (s.seg g.val).flash = .linkDown then n else (s.seg g.val).gen
        flash := .inService, queues := min 8 i.granted, entries := min (i.mqes + 1) 256, nsze := i.nsze
        limit := if i.mdts = 0 then 256 else min (2 ^ (i.mdts + 12 + i.mpsmin)) (2 ^ 20) / 4096
        timeouts := 0, smartAt := s.now + s.setting 0x2401 7 * psS }) := by
  have hdue : (((s.seg g.val).flash == .linkDown || (s.seg g.val).flash == .resetting) && (s.domainOf (1 + g.val)).st == .on && s.up.yoke
      && decide (1 ≤ n) && decide (n ≤ 5)) = true := by
    simp only [hon, hy, h1, h5, decide_true, beq_self_eq_true, Bool.and_true, Bool.or_eq_true, beq_iff_eq]
    exact hst
  have hgen : (if (s.seg g.val).flash = .linkDown then { s.seg g.val with gen := n } else s.seg g.val) =
      { s.seg g.val with gen := if (s.seg g.val).flash = .linkDown then n else (s.seg g.val).gen } := by split <;> rfl
  have hx : exec (.nvmeLinkUp g n i) s = _ := whenDue_true hdue s _
  rw [hgen] at hx
  cases hbad : ssdBad i with
  | true =>
    rw [hbad, if_pos rfl] at hx
    refine completes_step hx (State.fire_step (State.setSeg_step (Step.refl _ s) (by decide)) (by decide))
      ⟨fun j hj => ?_, fun _ => ⟨?_, ?_⟩, fun h => absurd h (by decide)⟩
    · exact (State.seg_fire ..).trans (State.seg_setSeg_other _ hj _)
    · exact State.firedOnce_fire (x := s.setSeg g.val _) rfl rfl _ _ _
    · exact (State.seg_fire ..).trans (State.seg_setSeg_same _ _ _)
  | false =>
    rw [hbad, if_neg (by decide)] at hx
    exact completes_step hx (State.setSeg_step (Step.refl _ s) (by decide))
      ⟨fun j hj => State.seg_setSeg_other _ hj _, fun h => absurd h (by decide), fun _ => ⟨rfl, State.seg_setSeg_same _ _ _⟩⟩

theorem completes_nvmeLinkRetry (hst : (s.seg g.val).flash = .linkDown) (hon : (s.domainOf (1 + g.val)).st = .on) (hy : s.up.yoke = true) :
    completes (.nvmeLinkRetry g) s [.now, .segs] fun t => t.now = max s.now (s.seg g.val).retryAt ∧
      t.seg g.val = { s.seg g.val with retryAt := t.now + s.setting 0x2401 6 * psMs } ∧ ∀ j, j ≠ g.val → t.seg j = s.seg j := by
  have hx : exec (.nvmeLinkRetry g) s = _ := whenDue_true (by rw [hst, hon, hy]; rfl) s _
  exact completes_step hx (State.setSeg_step (State.advanceTo_step (Step.refl _ s) (by decide)) (by decide))
    ⟨rfl, State.seg_setSeg_same _ _ _, fun j hj => State.seg_setSeg_other _ hj _⟩

theorem completes_smartPoll {w : Byte} (hst : (s.seg g.val).flash = .inService) :
    completes (.smartPoll g w) s [.now, .det, .log, .logMade, .faultBuffer, .segs] fun t => t.now = max s.now (s.seg g.val).smartAt ∧
      t.seg g.val = { s.seg g.val with warning := w.toNat, smartAt := t.now + s.setting 0x2401 7 * psS } ∧
      (∀ j, j ≠ g.val → t.seg j = s.seg j) ∧ (w = 0 → t.det = s.det) ∧
      (w ≠ 0 → (t.detOf 0x0607).count = ((s.detOf 0x0607).count + 1) % 2 ^ 64) := by
  have hx : exec (.smartPoll g w) s = _ := whenDue_true (by rw [hst]; rfl) s _
  by_cases hw : w = 0
  · rw [if_pos hw] at hx
    exact completes_step hx (State.setSeg_step (State.advanceTo_step (Step.refl _ s) (by decide)) (by decide))
      ⟨rfl, State.seg_setSeg_same _ _ _, fun j hj => State.seg_setSeg_other _ hj _, fun _ => rfl, fun h => absurd hw h⟩
  · rw [if_neg hw] at hx
    refine completes_step hx (State.fire_step (State.setSeg_step (State.advanceTo_step (Step.refl _ s) (by decide)) (by decide)) (by decide))
      ⟨by simp, ?_, fun j hj => ?_, fun h => absurd h hw, fun _ => State.detOf_fire_count _ _ _ _⟩
    · rw [State.fire_now]
      exact (State.seg_fire ..).trans (State.seg_setSeg_same _ _ _)
    · exact (State.seg_fire ..).trans (State.seg_setSeg_other _ hj _)

/-- A link that drops: the segment is down, and what was outstanding there has failed. -/
theorem completes_nvmeLinkDown (hst : (s.seg g.val).flash ≠ .linkDown) :
    completes (.nvmeLinkDown g) s (entryFields ++ ([.sessions, .frames, .tiles, .attach, .plans, .segs, .fresh] : List Field)) fun t =>
      (t.seg g.val).flash = .linkDown ∧ (t.seg g.val).gen = 0 ∧ (t.seg g.val).cmds = .empty ∧
      (t.seg g.val).retryAt = s.now + s.setting 0x2401 6 * psMs ∧ (∀ j, j ≠ g.val → (t.seg j).flash = (s.seg j).flash) ∧
      ((s.seg g.val).cmds = .empty → s.firedOnce 0x0601 t ∧ t.plans = s.plans ∧ t.lists = s.lists) ∧
      ∀ cid c id idx e, (s.seg g.val).cmds = ⟨[(cid, c)]⟩ → c.for_ = .entry id idx → s.entryOf id idx = some e → e.parts = 1 →
        ∀ l, s.lists.find id = some l → t.ended id idx ((e.worst.worse .tierFailed).worse (s.suspectStatus l.job [] [g.val])) := by
  have hx : exec (.nvmeLinkDown g) s = _ := whenDue_true (by simpa using hst) s _
  generalize ha : (s.setSeg g.val _).fire 0x0601 g.val 0 = a at hx
  have haseg : a.seg g.val = { s.seg g.val with
      flash := .linkDown, gen := 0, queues := 0, entries := 0, timeouts := 0, retryAt := s.now + s.setting 0x2401 6 * psMs } := by
    rw [← ha]
    exact (State.seg_fire ..).trans (State.seg_setSeg_same _ _ _)
  have haother : ∀ j, j ≠ g.val → a.seg j = s.seg j := fun j hj => by
    rw [← ha]
    exact (State.seg_fire ..).trans (State.seg_setSeg_other _ hj _)
  have hastep : Step (maskOf (entryFields ++ [.sessions, .frames, .tiles, .attach, .plans, .segs, .fresh])) s a := by
    rw [← ha]
    exact State.fire_step (State.setSeg_step (Step.refl _ s) (by decide)) (by decide)
  obtain ⟨hseg, hother⟩ := a.nvmeFailAll_segs g.val 0x0601
  rw [haseg] at hseg
  refine completes_step hx (State.nvmeFailAll_step hastep (by decide)) ⟨by rw [hseg], by rw [hseg], by rw [hseg], by rw [hseg], fun j hj => ?_, ?_, ?_⟩
  · obtain ⟨m, hm⟩ := hother j
    rw [hm, haother j hj]
  · intro hnone
    rw [State.nvmeFailAll_none (by rw [haseg]; exact hnone)]
    refine ⟨State.firedOnce_congr (x := a) ?_ rfl, ?_, ?_⟩
    · rw [← ha]
      exact State.firedOnce_fire (x := s.setSeg g.val _) rfl rfl _ _ _
    · rw [← ha]; simp
    · rw [← ha]; simp
  · intro cid c id idx e hone hfor he hp l hl
    rw [State.nvmeFailAll_one (by rw [haseg]; exact hone), State.nvmeFail_entry hfor]
    have hlists : (a.setSeg g.val { a.seg g.val with cmds := .empty }).lists = s.lists := by rw [← ha]; simp
    have h := State.ended_flashPart ((State.entryOf_congr hlists _ _).trans he) g.val .tierFailed 0x0601 hp
      ((congrArg (Tab.find · id) hlists).trans hl)
    rwa [State.suspectStatus_congr (s := s) (by rw [← ha]; simp) (by rw [← ha]; simp) (by rw [← ha]; simp) (by rw [← ha]; simp)] at h

end

/-! ### Completions and timeouts (R148, R150) -/

section

variable {s : State} {g : SegId} {cid id idx : Nat} {c : NvmeCmd} {e : EntryRun} (hc : (s.seg g.val).cmds.find cid = some c)
  (hfor : c.for_ = .entry id idx) (he : s.entryOf id idx = some e)

theorem State.nvmeGood_entry {s : State} {g id idx : Nat} {c : NvmeCmd} (h : c.for_ = .entry id idx) :
    s.nvmeGood g c = s.flashPart id idx g .ok 0 := by
  unfold State.nvmeGood
  rw [h]

/-- The data of a Read whose entry waits is stored. -/
theorem State.nvmeData_entry {s : State} {g id idx : Nat} {c : NvmeCmd} {e : EntryRun} (hfor : c.for_ = .entry id idx)
    (he : s.entryOf id idx = some e) (hd : s.dram.get false g = true) (data : List Byte) :
    s.nvmeData g c data = (s.tierWrite c.addr data).segCount g 0xB data.length := by
  unfold State.nvmeData
  simp only [hfor, he, hd, Option.isSome_some, Bool.and_true, if_true]

include hc

theorem exec_nvmeCompletion_good {data : List Byte} (hop : c.op = 2 → data.length = c.lbas * 4096) :
    exec (.nvmeCompletion g cid true data) s = .next (State.nvmeGood (if c.op = 2 then
      (s.setSeg g.val { s.seg g.val with cmds := (s.seg g.val).cmds.erase cid, timeouts := 0 }).nvmeData g.val c data
      else s.setSeg g.val { s.seg g.val with cmds := (s.seg g.val).cmds.erase cid, timeouts := 0 }) g.val c) := by
  show execNvmeCompletion g cid true data s = _
  unfold execNvmeCompletion
  simp only [hc, if_true]
  refine whenDue_true ?_ _ _
  by_cases h : c.op = 2
  · simp [h, hop h]
  · simp [h]

theorem exec_nvmeCompletion_bad {data : List Byte} (hop : c.op = 2) :
    exec (.nvmeCompletion g cid false data) s = .next (State.nvmeFail
      (((s.setSeg g.val { s.seg g.val with cmds := (s.seg g.val).cmds.erase cid, timeouts := 0 }).segCount g.val 8 1).fire 0x0603 g.val 0)
      g.val c 0x0603) := by
  show execNvmeCompletion g cid false data s = _
  unfold execNvmeCompletion
  simp only [hc, hop, if_true, Bool.false_eq_true, if_false]
  exact whenDue_true rfl _ _

include hfor he

/-- What the data of a Read leaves: the bytes stand in tier 1, and the entry has one part less. -/
theorem completes_readData (hp : 2 ≤ e.parts) {data : List Byte} (hop : c.op = 2) (hlen : data.length = c.lbas * 4096)
    (hd : s.dram.get false g.val = true) (hbad : s.tier1Bad = .empty) :
    completes (.nvmeCompletion g cid true data) s [.lists, .tier1, .granules, .tier1Bad, .segCtr, .segs] fun t =>
      t.tier1 = s.tier1.writeBytes c.addr data ∧ (t.seg g.val).cmds.find cid = none ∧ (t.seg g.val).timeouts = 0 ∧
      ∃ x, t.entryOf id idx = some x ∧ x.parts = e.parts - 1 ∧ x.worst = e.worst := by
  have hx := exec_nvmeCompletion_good hc fun _ => hlen
  generalize ha : s.setSeg g.val { s.seg g.val with cmds := (s.seg g.val).cmds.erase cid, timeouts := 0 } = a at hx
  have haseg : a.seg g.val = { s.seg g.val with cmds := (s.seg g.val).cmds.erase cid, timeouts := 0 } := by
    rw [← ha]
    exact State.seg_setSeg_same _ _ _
  rw [if_pos hop, State.nvmeData_entry hfor (e := e) (by rw [← he, ← ha]; exact State.entryOf_congr rfl _ _) (by rw [← ha]; exact hd),
    State.nvmeGood_entry hfor] at hx
  generalize hb : (a.tierWrite c.addr data).segCount g.val 0xB data.length = b at hx
  have hstep : Step (maskOf [.lists, .tier1, .granules, .tier1Bad, .segCtr, .segs]) s b := by
    rw [← hb, State.tierWrite_sound (by rw [← ha]; exact hbad), ← ha]
    refine State.segCount_step ?_ (by decide)
    exact (State.setSeg_step (Step.refl _ s) (by decide)).put (F := 1835008) (by decide) rfl
      fun v => ⟨Memory.writeBytes_wf v.1 _ _, v.2, v.3, v.4, v.5, v.6, v.7⟩
  have htier : b.tier1 = s.tier1.writeBytes c.addr data := by
    rw [← hb, State.tierWrite_sound (by rw [← ha]; exact hbad), ← ha]
    rfl
  have hbseg : b.seg g.val = a.seg g.val := State.seg_congr (by
    rw [← hb]
    exact (State.tierWrite_step (Step.refl 17593194512384 a) (by decide)).segs (by decide)) _
  have hbe : b.entryOf id idx = some e := by
    rw [← he]
    refine State.entryOf_congr ?_ _ _
    rw [← hb, State.segCount_lists, (State.tierWrite_step (Step.refl 17593194512384 a) (by decide)).lists (by decide), ← ha]
    rfl
  obtain ⟨x, hxe, hxp, hxw⟩ := State.entryOf_flashPart_more hbe g.val .ok 0 hp
  have hkeep := State.flashPart_more_step hbe g.val .ok 0 hp (Step.refl 2048 b) (by decide)
  have htseg : (b.flashPart id idx g.val .ok 0).seg g.val = { s.seg g.val with cmds := (s.seg g.val).cmds.erase cid, timeouts := 0 } :=
    (State.seg_congr (hkeep.segs (by decide)) _).trans (hbseg.trans haseg)
  refine completes_step hx (State.flashPart_more_step hbe _ _ _ hp hstep (by decide))
    ⟨(hkeep.tier1 (by decide)).trans htier, ?_, by rw [htseg], x, hxe, hxp, by rw [hxw, Status.worse_ok]⟩
  rw [htseg]
  exact Tab.find_erase_same _ _

/-- A Read that fails ends its part with TIER_FAILED. -/
theorem completes_readFailed (hp : 2 ≤ e.parts) {data : List Byte} (hop : c.op = 2) :
    completes (.nvmeCompletion g cid false data) s [.lists, .det, .log, .logMade, .faultBuffer, .segCtr, .segs] fun t =>
      (t.seg g.val).cmds.find cid = none ∧ s.firedOnce 0x0603 t ∧
        ∃ x, t.entryOf id idx = some x ∧ x.parts = e.parts - 1 ∧ x.worst = e.worst.worse .tierFailed := by
  have hx := exec_nvmeCompletion_bad hc (data := data) hop
  rw [State.nvmeFail_entry hfor] at hx
  generalize hb : ((s.setSeg g.val _).segCount g.val 8 1).fire 0x0603 g.val 0 = b at hx
  have hstep : Step (maskOf [.lists, .det, .log, .logMade, .faultBuffer, .segCtr, .segs]) s b := by
    rw [← hb]
    exact State.fire_step (State.segCount_step (State.setSeg_step (Step.refl _ s) (by decide)) (by decide)) (by decide)
  have hbe : b.entryOf id idx = some e := by rw [← he, ← hb]; exact State.entryOf_congr (by simp) _ _
  have hbseg : (b.seg g.val).cmds = (s.seg g.val).cmds.erase cid := by
    rw [← hb, State.seg_fire]
    exact congrArg Seg.cmds (State.seg_setSeg_same s _ _)
  have hfire : s.firedOnce 0x0603 b := by
    rw [← hb]
    exact State.firedOnce_fire (x := (s.setSeg g.val _).segCount g.val 8 1) rfl rfl _ _ _
  have hkeep := State.flashPart_more_step hbe g.val .tierFailed 0x0603 hp (Step.refl 2048 b) (by decide)
  refine completes_step hx (State.flashPart_more_step hbe _ _ _ hp hstep (by decide))
    ⟨?_, State.firedOnce_congr hfire (hkeep.det (by decide)), State.entryOf_flashPart_more hbe _ _ _ hp⟩
  rw [State.seg_congr (hkeep.segs (by decide)), hbseg]
  exact Tab.find_erase_same _ _

omit he in
/-- The last command of an entry that succeeds ends it. -/
theorem completes_lastPart (he : s.entryOf id idx = some e) (hp : e.parts = 1) {l : ListRun} (hl : s.lists.find id = some l) {data : List Byte}
    (hop : c.op ≠ 2) : completes (.nvmeCompletion g cid true data) s (entryFields ++ ([.segs] : List Field)) fun t =>
      t.ended id idx (e.worst.worse (s.suspectStatus l.job [] [g.val])) := by
  have hx := exec_nvmeCompletion_good hc (data := data) fun h => absurd h hop
  rw [if_neg hop, State.nvmeGood_entry hfor] at hx
  refine completes_step hx (State.flashPart_step (State.setSeg_step (Step.refl _ s) (by decide)) (by decide)) ?_
  have h := State.ended_flashPart (s := s.setSeg g.val { s.seg g.val with cmds := (s.seg g.val).cmds.erase cid, timeouts := 0 })
    ((State.entryOf_congr rfl _ _).trans he) g.val .ok 0 hp (by exact hl)
  rwa [Status.worse_ok, State.suspectStatus_congr (s := s) (t := s.setSeg g.val _) rfl rfl rfl rfl] at h

/-! A command's timeout first takes the command away and reports it. -/

/-- The state in which a command that has timed out fails. -/
def State.timedOut (s : State) (g : SegId) (cid : Nat) (c : NvmeCmd) : State :=
  (((s.advanceTo (c.sentAt + s.setting 0x2401 3 * psMs)).setSeg g.val
    { s.seg g.val with cmds := (s.seg g.val).cmds.erase cid, timeouts := (s.seg g.val).timeouts + 1 }).segCount g.val 7 1).fire 0x0602 g.val 0

omit he in
theorem exec_nvmeCommandTimeout_entry : exec (.nvmeCommandTimeout g cid) s = .next
    (if s.setting 0x2401 4 ≤ (s.seg g.val).timeouts + 1 then ((s.timedOut g cid c).flashPart id idx g.val .tierFailed 0x0602).nvmeReset g.val
      else (s.timedOut g cid c).flashPart id idx g.val .tierFailed 0x0602) := by
  show execNvmeCommandTimeout g cid s = _
  unfold execNvmeCommandTimeout State.nvmeTimeout
  simp only [hc, State.nvmeFail_entry hfor]
  rfl

omit hc hfor he in
theorem State.timedOut_step {G : Nat} (hG : sub (maskOf [.now, .det, .log, .logMade, .faultBuffer, .segCtr, .segs]) G = true) :
    Step G s (s.timedOut g cid c) := by
  have h : Step (maskOf [.now, .det, .log, .logMade, .faultBuffer, .segCtr, .segs]) s (s.timedOut g cid c) :=
    State.fire_step (State.segCount_step (State.setSeg_step (State.advanceTo_step (Step.refl _ s) (by decide)) (by decide)) (by decide)) (by decide)
  exact h.mono hG

omit hc hfor he in
theorem State.timedOut_seg : (s.timedOut g cid c).seg g.val =
    { s.seg g.val with cmds := (s.seg g.val).cmds.erase cid, timeouts := (s.seg g.val).timeouts + 1 } :=
  (State.seg_fire ..).trans (State.seg_setSeg_same (s.advanceTo _) _ _)

omit hc hfor in
theorem State.timedOut_entryOf : (s.timedOut g cid c).entryOf id idx = some e := by
  rw [← he]
  exact State.entryOf_congr ((State.timedOut_step (sub_refl _)).lists (by decide)) _ _

theorem completes_timeout (hp : 2 ≤ e.parts) (hfew : (s.seg g.val).timeouts + 1 < s.setting 0x2401 4) :
    completes (.nvmeCommandTimeout g cid) s [.now, .lists, .det, .log, .logMade, .faultBuffer, .segCtr, .segs] fun t =>
      t.now = max s.now (c.sentAt + s.setting 0x2401 3 * psMs) ∧ (t.seg g.val).cmds.find cid = none ∧
        (t.seg g.val).timeouts = (s.seg g.val).timeouts + 1 ∧ (t.seg g.val).flash = (s.seg g.val).flash ∧
        ∃ x, t.entryOf id idx = some x ∧ x.parts = e.parts - 1 ∧ x.worst = e.worst.worse .tierFailed := by
  have hx := exec_nvmeCommandTimeout_entry hc hfor
  rw [if_neg (Nat.not_le.2 hfew)] at hx
  have hbe := State.timedOut_entryOf (g := g) (cid := cid) (c := c) he
  have hkeep := State.flashPart_more_step hbe g.val .tierFailed 0x0602 hp (Step.refl 2048 _) (by decide)
  have hseg := (State.seg_congr (hkeep.segs (by decide)) g.val).trans State.timedOut_seg
  refine completes_step hx (State.flashPart_more_step hbe _ _ _ hp (State.timedOut_step (by decide)) (by decide))
    ⟨(hkeep.now (by decide)).trans (by simp [State.timedOut]), ?_, by rw [hseg], by rw [hseg], State.entryOf_flashPart_more hbe _ _ _ hp⟩
  rw [hseg]
  exact Tab.find_erase_same _ _

/-- The timeout that reaches the threshold resets the controller. -/
theorem completes_timeoutReset (hp : e.parts = 1) {l : ListRun} (hl : s.lists.find id = some l) (hone : (s.seg g.val).cmds = ⟨[(cid, c)]⟩)
    (hmany : s.setting 0x2401 4 ≤ (s.seg g.val).timeouts + 1) :
    completes (.nvmeCommandTimeout g cid) s (entryFields ++ ([.now, .sessions, .frames, .tiles, .attach, .plans, .segs, .fresh] : List Field))
      fun t => (t.seg g.val).flash = .resetting ∧ (t.seg g.val).cmds = .empty ∧ s.emits t (.nvmeReset g) ∧
        t.ended id idx ((e.worst.worse .tierFailed).worse (s.suspectStatus l.job [] [g.val])) := by
  have hx := exec_nvmeCommandTimeout_entry hc hfor
  rw [if_pos hmany] at hx
  have hbe := State.timedOut_entryOf (g := g) (cid := cid) (c := c) he
  have hb : Step (maskOf [.now, .det, .log, .logMade, .faultBuffer, .segCtr, .segs]) s (s.timedOut g cid c) := State.timedOut_step (sub_refl _)
  have hend := State.ended_flashPart hbe g.val .tierFailed 0x0602 hp ((congrArg (Tab.find · id) (hb.lists (by decide))).trans hl)
  rw [State.suspectStatus_congr (s := s) (hb.suspects (by decide)) (hb.jobs (by decide)) (hb.wafer (by decide)) (hb.moves (by decide))] at hend
  have hkeep := State.flashPart_step (x1 := id) (x2 := idx) (x3 := g.val) (x4 := .tierFailed) (x5 := 0x0602)
    (Step.refl 72075204416507008 (s.timedOut g cid c)) (by decide)
  have hnone : (((s.timedOut g cid c).flashPart id idx g.val .tierFailed 0x0602).seg g.val).cmds = .empty := by
    rw [State.seg_congr (hkeep.segs (by decide)), State.timedOut_seg, hone]
    simp [Tab.erase, Tab.empty]
  obtain ⟨hseg, hlists, hout⟩ := State.nvmeReset_none hnone
  have hgrow := (State.flashPart_calm (fun _ h => h) (Calm.refl sideDets (s.timedOut g cid c)) id idx g.val .tierFailed 0x0602).out
  refine completes_step hx (State.nvmeReset_step (State.flashPart_step (State.timedOut_step (by decide)) (by decide)) (by decide))
    ⟨by rw [hseg], by rw [hseg], ?_, ?_⟩
  · rw [hb.out (by decide)] at hgrow
    obtain ⟨a, ha⟩ := hgrow
    exact ⟨a, [], by rw [hout, ← ha, segId_ofNat]⟩
  · exact State.ended_congr hlists hend

end

/-! ### Patrol scrub (R154, R401) -/

section

variable {s : State} {u : TierUpset} (hbad : s.tier1Bad = .empty) (hg : s.granules.get false (u.addr / 65536) = true)
  (hu : u.addr < tier1Size) (hd : s.dram.get false (segOf (u.addr / 8 * 8)) = true)

/-- The state in which the scrub finds the errors that struck. -/
def State.scrubs (s : State) (u : TierUpset) : State :=
  State.tierStrike { s.advanceTo s.up.patrolAt with up := { s.up with patrolAt := max s.now s.up.patrolAt + scrubPeriod } } [u]

theorem State.scrubs_step : Step (maskOf [.now, .tier1Bad, .up]) s (s.scrubs u) := by
  refine State.tierStrike_step ?_ (by decide)
  exact (State.advanceTo_step (Step.refl _ s) (by decide)).put (F := 9007199254740992) (by decide) rfl
    fun v => ⟨v.1, v.2, v.3, v.4, v.5, v.6, v.7⟩

include hbad

theorem State.scrubs_bad : (s.scrubs u).tier1Bad = ⟨[(u.addr / 8, u.double)]⟩ := by
  unfold State.scrubs State.tierStrike
  simp [State.advanceTo, hbad, Tab.find_empty]
  rfl

include hg hu

/-- The scrub finds the one word that was struck, as what it is. -/
theorem State.scrubs_errors (b : Bool) : (s.scrubs u).tierErrors 0 tier1Size b = if u.double = b then [u.addr / 8] else [] := by
  have hgran : (s.scrubs u).granules.get false (u.addr / 8 / 8192) = true := by
    rw [State.scrubs_step.granules (by decide), Nat.div_div_eq_div_mul]
    exact hg
  have hlt : u.addr / 8 * 8 < 0 + tier1Size := by omega
  have hin : (u.double == b && decide (0 < u.addr / 8 * 8 + 8) && decide (u.addr / 8 * 8 < 0 + tier1Size) &&
      (s.scrubs u).granules.get false (u.addr / 8 / 8192)) = (u.double == b) := by
    rw [hgran, decide_eq_true hlt, decide_eq_true (by omega), Bool.and_true, Bool.and_true, Bool.and_true]
  unfold State.tierErrors
  rw [State.scrubs_bad hbad]
  simp only [List.filter_cons, List.filter_nil, hin]
  by_cases h : u.double = b
  · simp [h]
  · simp [h]

include hd

theorem exec_patrolScrub_one : exec (.patrolScrub [u]) s = .next
    (if u.double = true then ((s.scrubs u).tierLost (u.addr / 8)).suspect (.dram (segOf (u.addr / 8 * 8))) 0x0502
      else (s.scrubs u).tierFix (u.addr / 8)) := by
  have hlive : (s.scrubs u).dram.get false (segOf (u.addr / 8 * 8)) = true := by rw [State.scrubs_step.dram (by decide)]; exact hd
  have hany : ((List.range 16).any fun g => s.dram.get false g) = true := by
    refine List.any_eq_true.2 ⟨segOf (u.addr / 8 * 8), List.mem_range.2 ?_, hd⟩
    unfold segOf segSize
    unfold tier1Size at hu
    omega
  refine (whenDue_true hany s _).trans (congrArg Host.Outcome.next ?_)
  show each (((s.scrubs u).tierErrors 0 tier1Size true).filter fun w => (s.scrubs u).dram.get false (segOf (w * 8))) _
    (each (((s.scrubs u).tierErrors 0 tier1Size false).filter fun w => (s.scrubs u).dram.get false (segOf (w * 8))) _ (s.scrubs u)) = _
  rw [State.scrubs_errors hbad hg hu, State.scrubs_errors hbad hg hu]
  cases u.double with
  | true => simp [each, hlive]
  | false => simp [each, hlive]

/-- The scrub's report bears the stamp of its own instant, not of the one at which the scrub was last done. -/
theorem exec_patrolScrub_last (hs : u.double = false) : ∃ t, exec (.patrolScrub [u]) s = .next t ∧ (t.detOf 0x0501).last = (s.scrubs u).stamp := by
  have hx := exec_patrolScrub_one hbad hg hu hd
  rw [hs, if_neg (by decide)] at hx
  refine ⟨_, hx, ?_⟩
  unfold State.tierFix
  rw [State.detOf, State.fire_det]
  exact congrArg DetRec.last (Tab.get_set_same _ _ _ _)

end

/-- A sound module whose next patrol scrub is due one tick from now. -/
def scrubDue : State := { State.reset with
  beat := { beat0 with lines := 1, period := 65536 }
  granules := Tab.empty.set 0 true
  dram := Tab.empty.set 0 true
  up := { bringUp0 with patrolAt := 1 } }

/-- Between the command and the instant of the scrub the stamp moves on. -/
theorem scrubDue_stamp : (scrubDue.scrubs ⟨0, false⟩).stamp ≠ scrubDue.stamp := by decide +kernel

end Sys2Proof.Machine

namespace Sys2Proof.Proofs

open Sys2Proof.Machine

/-- Refutes O27: the scrub waits until its instant has come (R154), and its report bears the stamp of that instant; the statement wants the
stamp from before the wait. In `scrubDue` a single-bit error is found one tick later. Every other clause holds: see the `completes_` theorems
above. -/
theorem not_flashLinksAndCommands : ¬ Obligations.FlashLinksAndCommands := by
  unfold Obligations.FlashLinksAndCommands
  rintro ⟨-, -, -, hscrub⟩
  obtain ⟨t, hx, -, -, -, -, hone⟩ := hscrub scrubDue ⟨0, false⟩ rfl rfl (by decide) rfl
  obtain ⟨-, ⟨-, hlast, -⟩, -⟩ := hone rfl
  obtain ⟨t', hx', hlast'⟩ := exec_patrolScrub_last (s := scrubDue) (u := ⟨0, false⟩) rfl rfl (by decide) rfl rfl
  obtain rfl : t' = t := Host.Outcome.next.inj (hx'.symm.trans hx)
  exact scrubDue_stamp (hlast'.symm.trans hlast)

end Sys2Proof.Proofs
end

section
/-! Proofs about the entries of the FLASH engine. -/

namespace Sys2Proof.Machine

/-! ### One command for an entry (R148) -/

/-- A transfer within the limit is one command. -/
theorem Seg.pieces_one {x : Seg} {n : Nat} (h0 : 0 < n) (h : n ≤ x.limit) : x.pieces n = [(0, n)] := by
  have hone : (n + x.limit - 1) / x.limit = 1 := Nat.div_eq_of_lt_le (by omega) (by omega)
  unfold Seg.pieces
  rw [hone]
  simp [List.range_succ, h]

theorem State.nvmeSend_one {s : State} {g op n : Nat} (h : op = 1 ∨ op = 2 → 0 < n ∧ n ≤ (s.seg g).limit) (lba addr : Nat) (for_ : NvmeFor) :
    s.nvmeSend g op lba n addr for_ = s.nvmeIssue g op lba n addr for_ := by
  unfold State.nvmeSend
  by_cases hop : op = 1 ∨ op = 2
  · rw [if_pos hop, Seg.pieces_one (h hop).1 (h hop).2]
    simp [each]
  · rw [if_neg hop]

/-- What is queued for an entry's one command: the entry stays outstanding, its segment has one command more, and the SSD is sent it. -/
def State.flashQueued (s : State) (id idx : Nat) (g : SegId) (e : EntryRun) (op : Nat) (t : State) : Prop :=
  (t.entryOf id idx).isSome = true ∧ t.seg g.val = { s.seg g.val with
      nextCid := (s.seg g.val).nextCid + 1
      cmds := (s.seg g.val).cmds.set (s.seg g.val).nextCid ⟨op, e.field 8 8, e.field 0x18 4, e.field 0x10 8, s.now, .entry id idx⟩ } ∧
    (∀ j, j ≠ g.val → t.seg j = s.seg j) ∧
    s.emits t (.nvme g (s.seg g.val).nextCid op (e.field 8 8) (e.field 0x18 4)
      (if op = 1 then s.tier1.readBytes (e.field 0x10 8) (e.field 0x18 4 * 4096) else []))

theorem State.flashSend_queued {s b : State} {id idx op : Nat} {g : SegId} {e : EntryRun} (hg : e.field 4 1 = g.val)
    (he : b.entryOf id idx = some e) (hs : b.segs = s.segs) (hn : b.now = s.now) (ht : b.tier1 = s.tier1) (ho : b.out = s.out)
    (h : op = 1 ∨ op = 2 → 0 < e.field 0x18 4 ∧ e.field 0x18 4 ≤ (s.seg g.val).limit) :
    s.flashQueued id idx g e op (b.flashSend id idx e op) := by
  generalize hm : b.entryMap id idx (fun x => { x with parts := b.nvmeParts e.flashSeg op e.flashLbas }) = m
  have hstep : Step 2048 b m := by
    rw [← hm]
    exact State.entryMap_step (Step.refl _ b) (by decide)
  have hseg : m.seg g.val = s.seg g.val := State.seg_congr ((hstep.segs (by decide)).trans hs) _
  have hsend : b.flashSend id idx e op = m.nvmeIssue g.val op (e.field 8 8) (e.field 0x18 4) (e.field 0x10 8) (.entry id idx) := by
    unfold State.flashSend
    simp only [hm]
    rw [show e.flashSeg = g.val from hg]
    exact State.nvmeSend_one (by rw [hseg]; exact h) _ _ _
  have hme : (m.entryOf id idx).isSome = true := by
    have hmap := State.entryOf_entryMap (f := fun x => { x with parts := b.nvmeParts e.flashSeg op e.flashLbas }) he (fun _ => rfl) fun _ => rfl
    rw [← hm, hmap]
    rfl
  rw [hsend]
  unfold State.nvmeIssue
  refine ⟨?_, ?_, fun j hj => ?_, [], [], ?_⟩
  · rw [← hme]
    exact congrArg Option.isSome (State.entryOf_congr rfl _ _)
  · refine (State.seg_setSeg_same m g.val _).trans ?_
    rw [hseg, (hstep.now (by decide)).trans hn]
  · exact (State.seg_setSeg_other m hj _).trans (State.seg_congr ((hstep.segs (by decide)).trans hs) _)
  · show m.out ++ [_] = s.out ++ [] ++ [_]
    rw [(hstep.out (by decide)).trans ho, List.append_nil, hseg, (hstep.tier1 (by decide)).trans ht, segId_ofNat]

/-! ### Reads and writes (R203) -/

section

variable {s : State} {list idx eop op : Nat} {l : ListRun} {e : EntryRun} {g : SegId} (h : s.begun list idx 1 eop l e)
  (hz : e.restZero [(4, 1), (8, 8), (0x10, 8), (0x18, 4)] = true) (hflash : (s.jobOf l.job).flash = true) (hn : 0 < e.field 0x18 4)
  (hg : e.field 4 1 = g.val) (hlo : g.val * segSize ≤ e.field 0x10 8) (hhi : e.field 0x10 8 + e.field 0x18 4 * 4096 ≤ (g.val + 1) * segSize)
  (hcov : (s.jobOf l.job).covers (e.field 0x10 8) (e.field 0x18 4 * 4096) = true)

include hz hflash hn hg hlo hhi hcov

theorem State.flashConds_nil : s.flashConds l e = [] := by
  have hg16 : ¬ 16 ≤ g.val := by omega
  unfold State.flashConds EntryRun.flashSeg EntryRun.flashLbas EntryRun.flashAddr
  simp only [hz, hflash, hcov, hg, cond, decide_eq_false hg16, beq_false_of_ne hn.ne', decide_eq_false (Nat.not_lt.2 hlo),
    decide_eq_false (Nat.not_lt.2 hhi)]
  rfl

variable (hd : s.dram.get false g.val = true)

include h hd

theorem State.flashMove_down (hdown : (s.seg g.val).flash ≠ .inService) :
    s.flashMove list idx eop op = .next ((s.entryAccept list idx).entryDone list idx .tierFailed 0 0 0xFFFF) := by
  have hup : s.flashUp g.val = false := by simpa [State.flashUp] using hdown
  unfold State.flashMove
  rw [h.1]
  simp only [State.flashConds_nil hz hflash hn hg hlo hhi hcov, State.jobConds_open h.2, EntryRun.flashSeg, hg, hd, hup, List.append_nil, worst_nil]
  rfl

theorem State.flashMove_up (hup : (s.seg g.val).flash = .inService) (hready : s.dmaReady [g.val] = true) (hsound : op = 1 → s.tier1Bad = .empty) :
    s.flashMove list idx eop op = .next (((if op = 1 then (s.entryAccept list idx).tierRead (e.field 0x10 8) (e.field 0x18 4 * 4096)
      else s.entryAccept list idx).dmaTake [g.val] list idx l.job).flashSend list idx e op) := by
  have hup' : s.flashUp g.val = true := by simp [State.flashUp, hup]
  have hbad : ¬ (op = 1 ∧ s.tierBad (e.field 0x10 8) (e.field 0x18 4 * 4096) = true) := by
    rintro ⟨hop, hb⟩
    rw [State.tierBad_sound (hsound hop)] at hb
    cases hb
  unfold State.flashMove
  rw [h.1]
  simp only [State.flashConds_nil hz hflash hn hg hlo hhi hcov, State.jobConds_open h.2, EntryRun.flashSeg, EntryRun.flashAddr, EntryRun.flashLbas, hg, hd,
    hup', List.append_nil, worst_nil, ne_eq, not_true_eq_false, Bool.true_eq_false, if_false]
  exact (whenDue_true hready _ _).trans (congrArg _ (if_neg hbad))

end

/-- What an accepted flash entry has changed of its state before its command is issued. -/
theorem State.flashReady_step {s : State} (list idx : Nat) (g : SegId) (j : Nat) {op a n : Nat} (hsound : op = 1 → s.tier1Bad = .empty) :
    Step (maskOf [.lists, .det, .log, .logMade, .faultBuffer, .dma, .segCtr]) s
      ((if op = 1 then (s.entryAccept list idx).tierRead a n else s.entryAccept list idx).dmaTake [g.val] list idx j) := by
  have hacc : Step (maskOf [.lists, .det, .log, .logMade, .faultBuffer, .dma, .segCtr]) s (s.entryAccept list idx) :=
    State.entryAccept_step (Step.refl _ s) (by decide)
  refine State.dmaTake_step (Step.ite (fun hop => hacc.trans (State.tierRead_sound ?_ a n (by decide))) fun _ => hacc) (by decide)
  rw [hacc.tier1Bad (by decide)]
  exact hsound hop

section

variable {s : State} {list idx eop op : Nat} {l : ListRun} {e : EntryRun} {g : SegId} {c : Instr}

/-- What an accepted flash entry comes to, by whether the segment's flash serves. -/
def State.flashEntry (s : State) (c : Instr) (list idx op : Nat) (e : EntryRun) (g : SegId) : Prop :=
  ((s.seg g.val).flash = .inService →
    completes c s (entryFields ++ ([.suspects, .segs] : List Field)) fun t => s.flashQueued list idx g e op t) ∧
  ((s.seg g.val).flash ≠ .inService →
    completes c s (entryFields ++ ([.suspects, .segs] : List Field)) fun t => t.ended list idx .tierFailed ∧ t.segs = s.segs)

/-- An entry that ends with TIER_FAILED sends no command. -/
theorem flashEntry_down (hx : exec c s = .next ((s.entryAccept list idx).entryDone list idx .tierFailed 0 0 0xFFFF)) (h : s.begun list idx 1 eop l e) :
    completes c s (entryFields ++ ([.suspects, .segs] : List Field)) fun t => t.ended list idx .tierFailed ∧ t.segs = s.segs :=
  completes_step hx (State.entryDone_step (State.entryAccept_step (Step.refl _ s) (by decide)) (by decide))
    ⟨State.ended_entryDone (State.begun_accepted h) .., (State.entryDone_segs ..).trans
      ((State.entryAccept_step (Step.refl 2048 s) (by decide)).segs (by decide))⟩

theorem flashEntry_move (hx : exec c s = s.flashMove list idx eop op) (h : s.begun list idx 1 eop l e)
    (hz : e.restZero [(4, 1), (8, 8), (0x10, 8), (0x18, 4)] = true) (hflash : (s.jobOf l.job).flash = true) (hn : 0 < e.field 0x18 4)
    (hg : e.field 4 1 = g.val) (hm : g.val * segSize ≤ e.field 0x10 8 ∧ e.field 0x10 8 + e.field 0x18 4 * 4096 ≤ (g.val + 1) * segSize ∧
      (s.jobOf l.job).covers (e.field 0x10 8) (e.field 0x18 4 * 4096) = true ∧ e.field 0x18 4 ≤ (s.seg g.val).limit ∧
      s.dram.get false g.val = true ∧ s.dmaReady [g.val] = true) (hsound : op = 1 → s.tier1Bad = .empty) : s.flashEntry c list idx op e g := by
  obtain ⟨hlo, hhi, hcov, hlim, hd, hready⟩ := hm
  refine ⟨fun hup => ?_, fun hdown => flashEntry_down (hx.trans (State.flashMove_down h hz hflash hn hg hlo hhi hcov hd hdown)) h⟩
  have hstep := State.flashReady_step list idx g l.job (a := e.field 0x10 8) (n := e.field 0x18 4 * 4096) hsound
  refine completes_step (hx.trans (State.flashMove_up h hz hflash hn hg hlo hhi hcov hd hup hready hsound))
    (State.flashSend_step (hstep.mono (by decide)) (by decide))
    (State.flashSend_queued hg ?_ (hstep.segs (by decide)) (hstep.now (by decide)) (hstep.tier1 (by decide)) (hstep.out (by decide)) fun _ => ⟨hn, hlim⟩)
  refine (State.entryOf_congr ?_ _ _).trans (State.begun_accepted h)
  rw [(State.dmaTake_step (Step.refl 17179869184 _) (by decide)).lists (by decide)]
  split
  · rename_i hop
    exact (State.tierRead_sound (by rw [(State.entryAccept_step (Step.refl 2048 s) (by decide)).tier1Bad (by decide)]; exact hsound hop) _ _
      (sub_refl _)).lists (by decide)
  · rfl

/-! ### Flush and trim (R203) -/

theorem flashEntry_only (conds : ListRun → EntryRun → List Status) (h : s.begun list idx 1 eop l e) (hc : conds l e = []) (hg : e.field 4 1 = g.val)
    (hop : op ≠ 1 ∧ op ≠ 2) (hx : exec c s = s.accept list idx 1 eop conds fun _ e x =>
      if x.flashUp e.flashSeg then x.flashSend list idx e op else x.entryDone list idx .tierFailed 0 0 0xFFFF) : s.flashEntry c list idx op e g := by
  have hx' := hx.trans (State.accept_begun h hc)
  have hacc : Step (maskOf (entryFields ++ [.suspects, .segs])) s (s.entryAccept list idx) := State.entryAccept_step (Step.refl _ s) (by decide)
  have hkeep : Step 2048 s (s.entryAccept list idx) := State.entryAccept_step (Step.refl _ s) (by decide)
  have hup : (s.entryAccept list idx).flashUp e.flashSeg = ((s.seg g.val).flash == .inService) := by
    unfold State.flashUp
    rw [State.seg_congr (hkeep.segs (by decide)), show e.flashSeg = g.val from hg]
  rw [hup] at hx'
  refine ⟨fun hs => ?_, fun hs => ?_⟩
  · rw [if_pos (by rw [hs]; rfl)] at hx'
    exact completes_step hx' (State.flashSend_step hacc (by decide)) (State.flashSend_queued hg (State.begun_accepted h) (hkeep.segs (by decide))
      (hkeep.now (by decide)) (hkeep.tier1 (by decide)) (hkeep.out (by decide)) fun ho => absurd ho (by simp [hop]))
  · rw [if_neg (by simpa using hs)] at hx'
    exact flashEntry_down hx' h

theorem State.flashOnly_nil {fields : List (Nat × Nat)} (hz : e.restZero fields = true) (hflash : (s.jobOf l.job).flash = true)
    (hg : e.field 4 1 = g.val) : s.flashOnly l e fields = [] := by
  have hg16 : ¬ 16 ≤ g.val := by omega
  unfold State.flashOnly EntryRun.flashSeg
  simp only [hz, hflash, hg, cond, decide_eq_false hg16]
  rfl

end

end Sys2Proof.Machine

namespace Sys2Proof.Proofs

open Sys2Proof.Machine

/-- Settles O28: the four entries by whether they move data; each issues one command or ends with TIER_FAILED. -/
theorem flashEntries : Obligations.FlashEntries := by
  unfold Obligations.FlashEntries
  intro s list idx c eop op used l e hc h hz hflash hn g hg x a n hm hsound
  show s.flashEntry c list idx op e g
  rcases hc with ⟨rfl, rfl, rfl, rfl⟩ | ⟨rfl, rfl, rfl, rfl⟩ | ⟨rfl, rfl, rfl, rfl⟩ | ⟨rfl, rfl, rfl, rfl⟩
  · exact flashEntry_move rfl h hz hflash (hn (by decide)) hg (hm (by decide)) hsound
  · exact flashEntry_move rfl h hz hflash (hn (by decide)) hg (hm (by decide)) hsound
  · exact flashEntry_only _ h (State.flashOnly_nil hz hflash hg) hg (by decide) rfl
  · refine flashEntry_only _ h ?_ hg (by decide) rfl
    rw [State.flashOnly_nil hz hflash hg]
    simp [Machine.cond, EntryRun.flashLbas, (hn (by decide)).ne']

end Sys2Proof.Proofs
end

section
/-! EMCY messages: what one leaves in the error history, and which settings and detectors it leaves alone. -/

namespace Sys2Proof.Machine

/-! ### Settings under a report -/

theorem State.setting_count_other (s : State) {w i j n a b : Nat} (ha : a < 256) (hb : b < 256) (h : i ≠ j) :
    (s.count w j b n).setting i a = s.setting i a := State.setting_putCell_other s _ ha hb fun e => h e.1

section

variable {i j : Nat} (hj : j < 256) (h : ¬ reportCell i)

include hj h

theorem State.setting_event (s : State) (f : Fn) (c d st : Nat) (l : List Byte) : (s.event f c d st l).setting i j = s.setting i j := by
  unfold State.event
  dsimp only
  split
  · rfl
  · split
    · refine (State.setting_congr (s := s.bump64 0x2501 7) (by simp) i j).trans ?_
      exact State.setting_count_other s hj (by decide) fun e => h (.inl e)
    · exact State.setting_congr (by simp) i j

theorem State.setting_eventAll (s : State) (c d st : Nat) (l : List Byte) : (s.eventAll c d st l).setting i j = s.setting i j := by
  unfold State.eventAll
  rw [State.setting_event hj h, State.setting_event hj h]

theorem State.setting_emcyAt (s : State) (c d st : Nat) : (s.emcyAt c d st).setting i j = s.setting i j := by
  have e0 : State.setting (if c = 0 then s else
      { s with can := { s.can with history := ((c + d * 65536) :: s.can.history).take 8 } }) i j = s.setting i j := by
    split <;> rfl
  unfold State.emcyAt
  dsimp only
  split
  · rfl
  · split
    · rfl
    · revert e0
      generalize (if c = 0 then s else _) = u
      intro e0
      split
      · exact e0
      · refine Eq.trans ?_ e0
        refine (State.setting_congr (s := u.bump32 0x1FD2 8) (by simp) i j).trans ?_
        exact State.setting_count_other u hj (by decide) fun e => h (.inr (.inl e))

theorem State.setting_emcyEvent (s : State) (c d : Nat) (l : List Byte) : (s.emcyEvent c d l).setting i j = s.setting i j := by
  unfold State.emcyEvent
  dsimp only
  split
  · rw [State.setting_eventAll hj h, State.setting_emcyAt hj h]
  · rw [State.setting_emcyAt hj h]

theorem State.setting_emcyPower (s : State) (c d a : Nat) : (s.emcyPower c d a).setting i j = s.setting i j := State.setting_emcyEvent hj h ..

end

/-! ### The error history (R315, R348) -/

/-- EMCY messages stand in the history: the collar is not absent, and 0x1014 does not disable them. -/
def State.keepsEmcy (s : State) : Prop := s.up.absentAt = none ∧ bit (s.setting 0x1014 0) 31 = false

/-- Where `s` keeps messages, `t` has the message of `code` and `det` in its history behind at most `n` newer ones. -/
def State.raisedWithin (s t : State) (code det n : Nat) : Prop :=
  s.keepsEmcy → ∃ pre rest, t.can.history = pre ++ (code + det * 65536) :: rest ∧ pre.length ≤ n

theorem State.hasRaised_of_within {s t : State} {code det n : Nat} (h : s.raisedWithin t code det n) : s.hasRaised t code det := fun h1 h2 => by
  obtain ⟨pre, rest, ht, -⟩ := h ⟨h1, h2⟩
  rw [ht]
  exact List.mem_append_right _ List.mem_cons_self

theorem State.raisedWithin_congr {s t u : State} {code det n : Nat} (h : s.raisedWithin t code det n) (hc : u.can = t.can) :
    s.raisedWithin u code det n := fun hk => by
  rw [hc]
  exact h hk

theorem State.keepsEmcy_congr {s t : State} (hu : t.up.absentAt = s.up.absentAt) (hs : t.setting 0x1014 0 = s.setting 0x1014 0) :
    t.keepsEmcy ↔ s.keepsEmcy := by
  unfold State.keepsEmcy
  rw [hu, hs]

theorem State.keepsEmcy_emcyEvent (s : State) (c d : Nat) (l : List Byte) : (s.emcyEvent c d l).keepsEmcy ↔ s.keepsEmcy :=
  State.keepsEmcy_congr (by rw [State.emcyEvent_up]) (State.setting_emcyEvent (by decide) (by unfold reportCell; decide) ..)

theorem State.keepsEmcy_emcyPower (s : State) (c d a : Nat) : (s.emcyPower c d a).keepsEmcy ↔ s.keepsEmcy := State.keepsEmcy_emcyEvent ..

/-- The history after a message that is kept, and after one that is not. -/
theorem State.emcyAt_history {s : State} (hk : s.keepsEmcy) {code : Nat} (hc : code ≠ 0) (det st : Nat) :
    (s.emcyAt code det st).can.history = ((code + det * 65536) :: s.can.history).take 8 := by
  obtain ⟨hup, hbit⟩ := hk
  unfold State.emcyAt
  rw [if_neg (by rw [hup]; decide), if_neg (by rw [hbit]; decide)]
  dsimp only
  rw [if_neg hc]
  dsimp only
  split
  · rfl
  · simp

theorem State.emcyEvent_can (s : State) (code det : Nat) (data : List Byte) : (s.emcyEvent code det data).can = (s.emcyAt code det s.stamp).can := by
  unfold State.emcyEvent
  dsimp only
  split
  · simp
  · rfl

section

variable {s x : State} {code det n : Nat}

theorem State.emcyEvent_raises (hx : s.keepsEmcy → x.keepsEmcy) (hc : code ≠ 0) (data : List Byte) :
    s.raisedWithin (x.emcyEvent code det data) code det 0 := fun hk => by
  rw [State.emcyEvent_can, State.emcyAt_history (hx hk) hc]
  exact ⟨[], _, rfl, le_rfl⟩

theorem State.emcyPower_raises (hx : s.keepsEmcy → x.keepsEmcy) (hc : code ≠ 0) (arg : Nat) :
    s.raisedWithin (x.emcyPower code det arg) code det 0 := State.emcyEvent_raises hx hc _

/-- A later message moves an earlier one back by one place. -/
theorem State.emcyEvent_within (hx : s.keepsEmcy → x.keepsEmcy) (h : s.raisedWithin x code det n) (hn : n < 7) {c : Nat} (hc : c ≠ 0) (d : Nat)
    (data : List Byte) : s.raisedWithin (x.emcyEvent c d data) code det (n + 1) := fun hk => by
  obtain ⟨pre, rest, ht, hlen⟩ := h hk
  rw [State.emcyEvent_can, State.emcyAt_history (hx hk) hc, ht]
  refine ⟨(c + d * 65536) :: pre, rest.take (8 - (pre.length + 2)), ?_, Nat.succ_le_succ hlen⟩
  rw [← List.cons_append, List.take_append, List.take_of_length_le (by rw [List.length_cons]; omega), List.length_cons,
    show 8 - (pre.length + 1) = 8 - (pre.length + 2) + 1 by omega, List.take_succ_cons]

end

/-! ### Detectors -/

theorem State.firedMore_fire {s x : State} (h : x.det = s.det) (d u a : Nat) : s.firedMore (x.fire d u a) d := by
  unfold State.firedMore
  rw [State.detOf_fire_count, State.detOf_congr h]

/-- What a report may touch besides leaves a detector outside it as it was. -/
theorem State.firedMore_side {s x t : State} {D : List Nat} {C : List (Nat × Nat)} {d : Nat} (h : s.firedMore x d) (k : Side D C x t) (hd : d ∉ D) :
    s.firedMore t d := by
  unfold State.firedMore at *
  rw [k.det d hd, h]

theorem State.firedMore_congr {s x t : State} {d : Nat} (h : s.firedMore x d) (e : t.det = x.det) : s.firedMore t d := by
  unfold State.firedMore State.detOf at *
  rw [e]
  exact h

/-- The reports of an EMCY. -/
theorem State.emcyEvent_report (s : State) (code det : Nat) (data : List Byte) : Side sideDets sideCells s (s.emcyEvent code det data) :=
  State.emcyEvent_side (fun _ h => h) (fun _ h => h) (Side.refl _ _ s) code det data

theorem State.emcyPower_report (s : State) (code det arg : Nat) : Side sideDets sideCells s (s.emcyPower code det arg) := State.emcyEvent_report ..

end Sys2Proof.Machine
end

section
/-! The loss of a panel and a panel's reset: what each leaves in the wafer map, the tiles and the panel's record. -/

namespace Sys2Proof.Machine

/-! ### A panel's record -/

theorem State.panelPower_congr {s t : State} (h : t.power = s.power) (p : Nat) : t.panelPower p = s.panelPower p := by
  unfold State.panelPower
  rw [h]

@[simp] theorem State.panelPower_set_same (s : State) (p : Nat) (x : PanelPower) : (s.setPanelPower p x).panelPower p = x := Tab.get_set_same _ _ _ _

theorem State.panelPower_set_other (s : State) {p q : Nat} (h : q ≠ p) (x : PanelPower) : (s.setPanelPower p x).panelPower q = s.panelPower q :=
  Tab.get_set_other _ _ _ h

/-- A state whose panels are those of `s` but for one record. -/
theorem State.panelTakes_of {s t : State} {p : Nat} {x : PanelPower} (h : t.power.panels = s.power.panels.set p x) : s.panelTakes p x t := by
  unfold State.panelTakes State.panelPower
  rw [h]
  exact ⟨Tab.get_set_same _ _ _ _, fun q hq => Tab.get_set_other _ _ _ hq⟩

theorem State.panelLost_congr {s t : State} (hw : t.wafer = s.wafer) (hs : t.suspects = s.suspects) (p : Nat) : t.panelLost p = s.panelLost p := by
  unfold State.panelLost
  rw [hw, hs]

/-! ### Tiles of a panel -/

theorem State.tileOf_of_mapVals {s t : State} {f : Nat → Tile → Tile} (h : t.tiles = s.tiles.mapVals f) (k : Nat) :
    t.tileOf k = s.tileOf k ∧ s.tiles.find k = none ∨ t.tileOf k = f k (s.tileOf k) := by
  unfold State.tileOf Tab.get
  rw [h, Tab.find_mapVals]
  cases s.tiles.find k with
  | none => exact .inl ⟨rfl, rfl⟩
  | some x => exact .inr rfl

theorem State.tileOf_missing {s : State} {k : Nat} (h : s.tiles.find k = none) : s.tileOf k = tile0 := by
  unfold State.tileOf Tab.get
  rw [h]
  rfl

/-- Nothing of a panel's tiles is written any more, and the tiles of other panels are as they were. -/
def State.tilesCleared (s : State) (p : Nat) (t : State) : Prop :=
  (∀ k, keyPanel k = p → ∀ st l, (t.tileOf k).isWritten st l = false) ∧ ∀ k, keyPanel k ≠ p → t.tileOf k = s.tileOf k

theorem State.panelContents_tiles (s : State) (p : Nat) : (s.panelContents p).tiles = s.tiles.mapVals fun k t =>
    if keyPanel k = p then { t.halt.clearAll with flights := [], plane0 := none, plane1 := none, feeders := [] } else t := rfl

theorem State.abandonMoves_tiles (s : State) (p : Nat) : (s.abandonMoves p).tiles = s.tiles.mapVals fun k t =>
    if keyPanel k = p then { t with paused := false } else t := rfl

theorem State.tilesCleared_panelContents (s : State) (p : Nat) : s.tilesCleared p (s.panelContents p) := by
  refine ⟨fun k hk st l => ?_, fun k hk => ?_⟩
  · rcases State.tileOf_of_mapVals (s.panelContents_tiles p) k with ⟨h, hm⟩ | h
    · rw [h, State.tileOf_missing hm]
      rfl
    · rw [h, if_pos hk]
      rfl
  · rcases State.tileOf_of_mapVals (s.panelContents_tiles p) k with ⟨h, -⟩ | h
    · exact h
    · rw [h, if_neg hk]

theorem State.tilesCleared_abandonMoves {s x : State} {p : Nat} (h : s.tilesCleared p x) : s.tilesCleared p (x.abandonMoves p) := by
  refine ⟨fun k hk st l => ?_, fun k hk => ?_⟩
  · rcases State.tileOf_of_mapVals (x.abandonMoves_tiles p) k with ⟨e, -⟩ | e
    · rw [e]
      exact h.1 k hk st l
    · rw [e, if_pos hk]
      exact h.1 k hk st l
  · rcases State.tileOf_of_mapVals (x.abandonMoves_tiles p) k with ⟨e, -⟩ | e
    · rw [e]
      exact h.2 k hk
    · rw [e, if_neg hk]
      exact h.2 k hk

theorem State.tilesCleared_congr {s x t : State} {p : Nat} (h : s.tilesCleared p x) (e : t.tiles = x.tiles) : s.tilesCleared p t := by
  unfold State.tilesCleared State.tileOf at *
  rw [e]
  exact h

theorem State.tilesCleared_from {s s0 t : State} {p : Nat} (h : s.tilesCleared p t) (e : s.tiles = s0.tiles) : s0.tilesCleared p t := by
  unfold State.tilesCleared State.tileOf at *
  rw [← e]
  exact h

/-! ### A panel is declared LOST (R399, R409) -/

section

variable {s : State} {p cause since : Nat}

/-- The report of a panel's loss. -/
def State.lossReport (s : State) (p cause : Nat) : State :=
  ((s.fire 0x0C08 0 4).bump64 0x2B00 3).emcyEvent 0xFF71 0x0C08 (natLe 1 p ++ natLe 1 cause)

theorem State.lossReport_keepsEmcy : ((s.fire 0x0C08 0 4).bump64 0x2B00 3).keepsEmcy ↔ s.keepsEmcy :=
  State.keepsEmcy_congr (by simp) (by
    refine (State.setting_count_other (s.fire 0x0C08 0 4) (by decide) (by decide) (by decide)).trans ?_
    exact State.setting_congr (by simp) _ _)

/-- The detectors and cells of the report of a panel's loss. -/
def lossDets : List Nat := 0x0C08 :: sideDets
def lossCells : List (Nat × Nat) := (0x2B00, 3) :: sideCells

theorem State.lossReport_side : Side lossDets lossCells s (s.lossReport p cause) :=
  State.emcyEvent_side (fun _ h => List.mem_cons_of_mem _ h) (fun _ h => List.mem_cons_of_mem _ h)
    (State.bump64_side (State.fire_side (Side.refl _ _ s) (by decide) _ _) (by decide) (by decide)) _ _ _

theorem State.declareLost_lost (h : s.panelLost p = true) : s.declareLost p cause since = s := if_pos h

/-- What a loss does besides its report. -/
theorem State.declareLost_new (h : s.panelLost p = false) : ∃ w q, s.declareLost p cause since =
    { (s.lossReport p cause).abandonMoves p with wafer := w, suspects := q } ∧
    (w = { s.wafer with panel := s.wafer.panel.set p ⟨.lost, false⟩ } ∨ w = s.wafer ∧ (⟨.panel p cause, since, 0x0C08⟩ : Suspect) ∈ q) := by
  have hw : (s.lossReport p cause).wafer = s.wafer := by simp [State.lossReport]
  unfold State.declareLost
  rw [if_neg (by rw [h]; decide)]
  show ∃ w q, (if ((s.lossReport p cause).wafer.panelOf p).mode = .removed then _ else _) = _ ∧ _
  split
  · exact ⟨_, _, rfl, .inl (by rw [← hw]; rfl)⟩
  · exact ⟨_, _, rfl, .inr ⟨hw, List.mem_append_right _ (List.mem_singleton.2 rfl)⟩⟩

/-- A panel that has been declared LOST is lost, or its loss waits for the boundary. -/
theorem State.panelLost_declareLost (s : State) (p cause since : Nat) : (s.declareLost p cause since).panelLost p = true := by
  cases h : s.panelLost p with
  | true => rw [State.declareLost_lost h, h]
  | false =>
    obtain ⟨w, q, hx, hw⟩ := State.declareLost_new (cause := cause) (since := since) h
    rw [hx]
    unfold State.panelLost
    rcases hw with rfl | ⟨-, hq⟩
    · simp [Wafer.panelOf]
    · exact Bool.or_eq_true_iff.2 (.inr (List.any_eq_true.2 ⟨_, hq, beq_self_eq_true p⟩))

theorem State.declareLost_side : Side lossDets lossCells s (s.declareLost p cause since) := by
  cases h : s.panelLost p with
  | true => rw [State.declareLost_lost h]; exact Side.refl _ _ s
  | false =>
    obtain ⟨w, q, hx, -⟩ := State.declareLost_new (cause := cause) (since := since) h
    rw [hx]
    exact State.lossReport_side.put rfl rfl

/-- The loss of a panel sends EMCY 0xFF71, behind which an earlier message stands one place further back. -/
theorem State.declareLost_raises (h : s.panelLost p = false) {s0 : State} (hk : s0.keepsEmcy → s.keepsEmcy) :
    s0.raisedWithin (s.declareLost p cause since) 0xFF71 0x0C08 0 := by
  obtain ⟨w, q, hx, -⟩ := State.declareLost_new (cause := cause) (since := since) h
  rw [hx]
  exact State.raisedWithin_congr (State.emcyEvent_raises (fun h => State.lossReport_keepsEmcy.2 (hk h)) (by decide) _)
    (show State.can (State.mk ..) = (s.lossReport p cause).can from rfl)

theorem State.declareLost_within {s0 : State} (hk : s0.keepsEmcy → s.keepsEmcy) {code det n : Nat} (hw : s0.raisedWithin s code det n) (hn : n < 7) :
    s0.raisedWithin (s.declareLost p cause since) code det (n + 1) := by
  cases h : s.panelLost p with
  | true =>
    rw [State.declareLost_lost h]
    intro h0
    obtain ⟨pre, rest, ht, hlen⟩ := hw h0
    exact ⟨pre, rest, ht, hlen.trans (Nat.le_succ n)⟩
  | false =>
    obtain ⟨w, q, hx, -⟩ := State.declareLost_new (cause := cause) (since := since) h
    rw [hx]
    refine State.raisedWithin_congr (State.emcyEvent_within (fun h => State.lossReport_keepsEmcy.2 (hk h)) ?_ hn (by decide) _ _)
      (show State.can (State.mk ..) = (s.lossReport p cause).can from rfl)
    exact State.raisedWithin_congr hw (by simp)

theorem State.tilesCleared_declareLost {s0 : State} (h : s0.tilesCleared p s) : s0.tilesCleared p (s.declareLost p cause since) := by
  cases hl : s.panelLost p with
  | true => rw [State.declareLost_lost hl]; exact h
  | false =>
    obtain ⟨w, q, hx, -⟩ := State.declareLost_new (cause := cause) (since := since) hl
    rw [hx]
    exact State.tilesCleared_congr (State.tilesCleared_abandonMoves (x := s.lossReport p cause) (State.tilesCleared_congr h (by simp [State.lossReport]))) rfl

end

/-! ### A panel's reset (R360) -/

section

variable {s : State} {p det : Nat}

theorem State.panelReset_latched (h : (s.panelPower p).overcurrent = true) : s.panelReset p det = s := if_pos h

/-- The panel with what a reset leaves of it, before it is known whether it is LOST. -/
def State.resetting (s : State) (p : Nat) : State :=
  (s.setPanelPower p { s.panelPower p with
    resets := s.now :: (s.panelPower p).resets.filter fun t => decide (s.now < t + 60 * psS)
    resetAt := some ((s.panelPower p).resetAt.getD s.now)
    aboveAt := if (s.panelPower p).belowCore || (s.panelPower p).belowSram then none else some s.now
    pll := false, released := false }).panelContents p

/-- The resets of the last 60 s before this one. -/
def State.recentResets (s : State) (p : Nat) : Nat := ((s.panelPower p).resets.filter fun t => decide (s.now < t + 60 * psS)).length

/-- A reset by whether the panel is LOST already, becomes so by its third reset, or is in use. -/
theorem State.panelReset_eq (h : (s.panelPower p).overcurrent = false) : s.panelReset p det =
    if s.panelLost p = true then s.resetting p
    else if 2 ≤ s.recentResets p then ((s.resetting p).setPanelPower p { (s.resetting p).panelPower p with resetAt := none, aboveAt := none }).declareLost p 4 s.beat.n
    else if (s.wafer.panelOf p).mode = .active then (s.resetting p).suspect (.panelReset p) det
    else s.resetting p := by
  unfold State.panelReset
  rw [if_neg (by rw [h]; decide)]
  dsimp only
  simp only [List.length_cons, Nat.succ_le_succ_iff]
  rfl

theorem State.resetting_power : ((s.resetting p).panelPower p).pll = false ∧ ((s.resetting p).panelPower p).resetAt.isSome = true := by
  rw [show (s.resetting p).panelPower p = _ from State.panelPower_set_same s p _]
  exact ⟨rfl, rfl⟩

theorem State.tilesCleared_resetting : s.tilesCleared p (s.resetting p) :=
  State.tilesCleared_from (State.tilesCleared_panelContents _ _) rfl

/-- A reset clears its panel's tiles and stops its PLL. -/
theorem State.panelReset_clears (h : (s.panelPower p).overcurrent = false) :
    s.tilesCleared p (s.panelReset p det) ∧ ((s.panelReset p det).panelPower p).pll = false := by
  have hc := State.tilesCleared_resetting (s := s) (p := p)
  have hp := (State.resetting_power (s := s) (p := p)).1
  rw [State.panelReset_eq h]
  split
  · exact ⟨hc, hp⟩
  · split
    · refine ⟨State.tilesCleared_declareLost (State.tilesCleared_congr hc rfl), ?_⟩
      rw [State.panelPower_congr ((State.declareLost_step (Step.refl 72075364412425394 _) (by decide)).power (by decide)), State.panelPower_set_same]
      exact hp
    · split
      · refine ⟨State.tilesCleared_congr hc (by simp), ?_⟩
        rw [State.panelPower_congr (State.suspect_power (s.resetting p))]
        exact hp
      · exact ⟨hc, hp⟩

theorem State.resetting_side : Side lossDets lossCells s (s.resetting p) := (Side.refl _ _ s).put rfl rfl

theorem State.panelReset_side : Side lossDets lossCells s (s.panelReset p det) := by
  cases h : (s.panelPower p).overcurrent with
  | true => rw [State.panelReset_latched h]; exact Side.refl _ _ s
  | false =>
    rw [State.panelReset_eq h]
    refine Side.ite State.resetting_side (Side.ite ?_ (Side.ite ?_ State.resetting_side))
    · refine Side.trans ?_ State.declareLost_side
      exact (State.resetting_side (s := s) (p := p)).put rfl rfl
    · exact (State.resetting_side (s := s) (p := p)).put (by simp) (by simp)

theorem State.panelReset_within {s0 : State} (hk : s0.keepsEmcy → s.keepsEmcy) {code d n : Nat} (hw : s0.raisedWithin s code d n) (hn : n < 7) :
    s0.raisedWithin (s.panelReset p det) code d (n + 1) := by
  have hle : ∀ {t : State}, s0.raisedWithin t code d n → s0.raisedWithin t code d (n + 1) := fun h h0 => by
    obtain ⟨pre, rest, ht, hlen⟩ := h h0
    exact ⟨pre, rest, ht, hlen.trans (Nat.le_succ n)⟩
  cases h : (s.panelPower p).overcurrent with
  | true => rw [State.panelReset_latched h]; exact hle hw
  | false =>
    rw [State.panelReset_eq h]
    split
    · exact hle (State.raisedWithin_congr hw rfl)
    · split
      · exact State.declareLost_within (s := (s.resetting p).setPanelPower p _) hk (State.raisedWithin_congr hw rfl) hn
      · split
        · exact hle (State.raisedWithin_congr hw (by simp; rfl))
        · exact hle (State.raisedWithin_congr hw rfl)

/-- A reset of a panel that is LOST already, or not in use, changes neither what is suspect nor the wafer map. -/
theorem State.panelReset_idle (h : (s.panelPower p).overcurrent = false)
    (hi : s.panelLost p = true ∨ s.recentResets p < 2 ∧ (s.wafer.panelOf p).mode ≠ .active) :
    (s.panelReset p det).suspects = s.suspects ∧ (s.panelReset p det).wafer = s.wafer := by
  rw [State.panelReset_eq h]
  rcases hi with hl | ⟨hr, hm⟩
  · rw [if_pos hl]
    exact ⟨rfl, rfl⟩
  · rw [if_neg (Nat.not_le.2 hr), if_neg hm, ite_self]
    exact ⟨rfl, rfl⟩

/-- The third reset within 60 s loses the panel. -/
theorem State.panelReset_third (h : (s.panelPower p).overcurrent = false) (hr : 2 ≤ s.recentResets p) :
    (s.panelReset p det).panelLost p = true := by
  rw [State.panelReset_eq h, if_pos hr]
  split
  · rename_i hl
    exact hl
  · exact State.panelLost_declareLost ..

/-- A panel in use is in reset after an earlier one. -/
theorem State.panelReset_first (h : (s.panelPower p).overcurrent = false) (hl : s.panelLost p = false) (hr : s.recentResets p < 2)
    (hm : (s.wafer.panelOf p).mode = .active) :
    (s.panelReset p det).isSuspect (.panelReset p) = true ∧ (s.panelReset p det).panelLost p = false ∧ (s.panelReset p det).wafer = s.wafer ∧
      ((s.panelReset p det).panelPower p).resetAt.isSome = true := by
  rw [State.panelReset_eq h, if_neg (by rw [hl]; decide), if_neg (Nat.not_le.2 hr), if_pos hm]
  refine ⟨(State.suspects1_suspect (s := s) (x := s.resetting p) rfl _ _).1, ?_, by rw [State.suspect_wafer]; rfl, ?_⟩
  · rw [← hl]
    unfold State.panelLost State.suspect
    split
    · rfl
    · simp [State.resetting, State.panelContents]
  · rw [State.panelPower_congr (State.suspect_power _)]
    exact State.resetting_power.2

end

end Sys2Proof.Machine
end

section
/-! Proofs about panel rails. -/

namespace Sys2Proof.Machine

/-! ### Falls below warning (R358, R362) -/

section

variable {s : State} {p : PanelId} {sram : Bool} {mv : W16}

theorem execPanelRailWarning_due (hon : s.railOn p.val sram = true) (hv : mv.toNat < warnMv sram)
    (h : (s.panelPower p.val).below sram = false ∨
      resetMv sram < mv.toNat ∧ (s.panelPower p.val).srcBrown = false ∧ (s.panelPower p.val).resetAt = none) :
    exec (.panelRailWarning p sram mv) s = .next (State.settle s
      (if resetMv sram < mv.toNat then
        State.brownOut (if (s.panelPower p.val).below sram = false
          then (s.setPanelPower p.val { (s.panelPower p.val).rail sram mv.toNat true with aboveAt := none }).fire (if sram then 0x0A03 else 0x0A01) p.val 0
          else s.setPanelPower p.val { (s.panelPower p.val).rail sram mv.toNat true with aboveAt := none }) p.val (if sram then 0x0A03 else 0x0A01)
      else if (s.panelPower p.val).below sram = false
        then (s.setPanelPower p.val { (s.panelPower p.val).rail sram mv.toNat true with aboveAt := none }).fire (if sram then 0x0A03 else 0x0A01) p.val 0
        else s.setPanelPower p.val { (s.panelPower p.val).rail sram mv.toNat true with aboveAt := none })) := by
  have hdue : (s.railOn p.val sram && decide (mv.toNat < warnMv sram) && (!(s.panelPower p.val).below sram ||
      (decide (resetMv sram < mv.toNat) && !(s.panelPower p.val).srcBrown && (s.panelPower p.val).resetAt.isNone))) = true := by
    rw [hon, decide_eq_true hv]
    rcases h with h | ⟨h1, h2, h3⟩
    · rw [h]; rfl
    · rw [decide_eq_true h1, h2, h3]; simp
  refine (whenSettled_true hdue s _).trans ?_
  simp only [Bool.not_eq_true', decide_eq_true_eq]

theorem PanelPower.below_rail (q : PanelPower) (sram : Bool) (v : Nat) (low : Bool) : (q.rail sram v low).below sram = low := by
  cases sram <;> rfl

theorem PanelPower.brownout_rail (q : PanelPower) (sram : Bool) (v : Nat) (low : Bool) : (q.rail sram v low).brownout = q.brownout := by
  cases sram <;> rfl

/-- What the actions of a warning leave: the latch and the source set, with an EMCY where the latch was not set. -/
theorem State.brownOut_eq (x : State) (p det : Nat) : x.brownOut p det =
    if (x.panelPower p).brownout then x.setPanelPower p { x.panelPower p with brownout := true, srcBrown := true }
    else (x.setPanelPower p { x.panelPower p with brownout := true, srcBrown := true }).emcyPower 0xFF60 det p := rfl

theorem State.brownOut_power (x : State) (p det : Nat) : (x.brownOut p det).power =
    (x.setPanelPower p { x.panelPower p with brownout := true, srcBrown := true }).power := by
  rw [State.brownOut_eq]
  split
  · rfl
  · exact State.emcyPower_power ..

theorem State.brownOut_report (x : State) (p det : Nat) : Side sideDets sideCells x (x.brownOut p det) := by
  have h : Side sideDets sideCells x (x.setPanelPower p { x.panelPower p with brownout := true, srcBrown := true }) := (Side.refl _ _ x).put rfl rfl
  rw [State.brownOut_eq]
  exact Side.ite h (h.trans (State.emcyPower_report _ _ _ _))

/-- A warning's detector and its reset's differ from those of a report. -/
theorem warnDet_not_side (sram : Bool) : (if sram then 0x0A03 else 0x0A01) ∉ lossDets ∧ (if sram then 0x0A04 else 0x0A02) ∉ lossDets := by
  cases sram <;> decide

theorem settles_firstWarning (hon : s.railOn p.val sram = true) (hv : mv.toNat < warnMv sram) (hb : (s.panelPower p.val).below sram = false)
    (hlow : resetMv sram < mv.toNat) :
    settles (.panelRailWarning p sram mv) s (reportFields ++ ([.power] : List Field)) fun u =>
      s.firedMore u (if sram then 0x0A03 else 0x0A01) ∧ (u.panelPower p.val).brownout = true ∧
         (u.panelPower p.val).srcBrown = true ∧ (u.panelPower p.val).below sram = true ∧ (∀ o, o ≠ p.val → u.panelPower o = s.panelPower o) ∧
         ((s.panelPower p.val).brownout = false → s.hasRaised u 0xFF60 (if sram then 0x0A03 else 0x0A01)) ∧
         ((s.panelPower p.val).brownout = true → u.can = s.can) := by
  have hx := execPanelRailWarning_due hon hv (.inl hb)
  rw [if_pos hlow, if_pos hb] at hx
  generalize hd : (if sram then 0x0A03 else 0x0A01) = d at hx ⊢
  have hdn : d ∉ lossDets := by rw [← hd]; exact (warnDet_not_side sram).1
  generalize hq : ({ (s.panelPower p.val).rail sram mv.toNat true with aboveAt := none } : PanelPower) = q at hx
  have hqb : q.brownout = (s.panelPower p.val).brownout ∧ q.below sram = true := by
    rw [← hq]
    exact ⟨PanelPower.brownout_rail .., PanelPower.below_rail ..⟩
  have hxp : ((s.setPanelPower p.val q).fire d p.val 0).panelPower p.val = q :=
    (State.panelPower_congr (State.fire_power ..) _).trans (State.panelPower_set_same ..)
  have hpow : (((s.setPanelPower p.val q).fire d p.val 0).brownOut p.val d).power.panels =
      (s.power.panels.set p.val q).set p.val { q with brownout := true, srcBrown := true } := by
    rw [State.brownOut_power, hxp]
    simp [State.setPanelPower]
  have htakes : s.panelTakes p.val { q with brownout := true, srcBrown := true } (((s.setPanelPower p.val q).fire d p.val 0).brownOut p.val d) := by
    unfold State.panelTakes State.panelPower
    rw [hpow]
    exact ⟨Tab.get_set_same _ _ _ _, fun o ho => (Tab.get_set_other _ _ _ ho).trans (Tab.get_set_other _ _ _ ho)⟩
  refine settles_step hx (State.brownOut_step (State.fire_step (State.setPanelPower_step (Step.refl _ s) (by decide)) (by decide)) (by decide))
    ⟨?_, by rw [htakes.1], by rw [htakes.1], ?_, htakes.2, ?_, ?_⟩
  · have hf : s.firedMore ((s.setPanelPower p.val q).fire d p.val 0) d := State.firedMore_fire (x := s.setPanelPower p.val q) rfl _ _ _
    exact State.firedMore_side hf (State.brownOut_report _ _ _) fun h => hdn (List.mem_cons_of_mem _ h)
  · rw [htakes.1]
    exact hqb.2
  · intro hbr
    rw [State.brownOut_eq, hxp, hqb.1, hbr]
    exact State.hasRaised_of_within (State.emcyPower_raises
      (fun h => (State.keepsEmcy_congr (by simp) (State.setting_congr (by simp) _ _)).2 h) (by decide) _)
  · intro hbr
    rw [State.brownOut_eq, hxp, hqb.1, hbr]
    simp

theorem settles_resetLevelWarning (hon : s.railOn p.val sram = true) (hv : mv.toNat < warnMv sram) (hb : (s.panelPower p.val).below sram = false)
    (hlow : mv.toNat ≤ resetMv sram) :
    settles (.panelRailWarning p sram mv) s (reportFields ++ ([.power] : List Field)) fun u =>
      s.firedOnce (if sram then 0x0A03 else 0x0A01) u ∧ u.can = s.can ∧
        s.panelTakes p.val { (s.panelPower p.val).rail sram mv.toNat true with aboveAt := none } u := by
  have hx := execPanelRailWarning_due hon hv (.inl hb)
  rw [if_neg (Nat.not_lt.2 hlow), if_pos hb] at hx
  generalize ({ (s.panelPower p.val).rail sram mv.toNat true with aboveAt := none } : PanelPower) = q at hx ⊢
  exact settles_step hx (State.fire_step (State.setPanelPower_step (Step.refl _ s) (by decide)) (by decide))
    ⟨State.firedOnce_fire (x := s.setPanelPower p.val q) rfl rfl _ _ _, by simp, State.panelTakes_of (by simp [State.setPanelPower])⟩

theorem settles_secondWarning (hon : s.railOn p.val sram = true) (hv : mv.toNat < warnMv sram) (hb : (s.panelPower p.val).below sram = true)
    (hlow : resetMv sram < mv.toNat) (hsrc : (s.panelPower p.val).srcBrown = false) (hr : (s.panelPower p.val).resetAt = none) :
    settles (.panelRailWarning p sram mv) s (reportFields ++ ([.power] : List Field)) fun u =>
      s.panelTakes p.val { (s.panelPower p.val).rail sram mv.toNat true with aboveAt := none, brownout := true, srcBrown := true } u ∧
       ((s.panelPower p.val).brownout = false → s.hasRaised u 0xFF60 (if sram then 0x0A03 else 0x0A01)) ∧
       ((s.panelPower p.val).brownout = true → u.det = s.det) := by
  have hx := execPanelRailWarning_due hon hv (.inr ⟨hlow, hsrc, hr⟩)
  rw [if_pos hlow, if_neg (by rw [hb]; decide)] at hx
  generalize (if sram then 0x0A03 else 0x0A01) = d at hx ⊢
  generalize hq : ({ (s.panelPower p.val).rail sram mv.toNat true with aboveAt := none } : PanelPower) = q at hx
  have hqb : q.brownout = (s.panelPower p.val).brownout := by
    rw [← hq]
    exact PanelPower.brownout_rail ..
  have hxp : (s.setPanelPower p.val q).panelPower p.val = q := State.panelPower_set_same ..
  refine settles_step hx (State.brownOut_step (State.setPanelPower_step (Step.refl _ s) (by decide)) (by decide)) ⟨?_, fun hbr => ?_, fun hbr => ?_⟩
  · have hpow : ((s.setPanelPower p.val q).brownOut p.val d).power.panels =
        (s.power.panels.set p.val q).set p.val { q with brownout := true, srcBrown := true } := by
      rw [State.brownOut_power, hxp]
      rfl
    unfold State.panelTakes State.panelPower
    rw [hpow, ← hq]
    exact ⟨Tab.get_set_same _ _ _ _, fun o ho => (Tab.get_set_other _ _ _ ho).trans (Tab.get_set_other _ _ _ ho)⟩
  · rw [State.brownOut_eq, hxp, hqb, hbr]
    exact State.hasRaised_of_within (State.emcyPower_raises (x := (s.setPanelPower p.val q).setPanelPower p.val _) (fun h => h) (by decide) _)
  · rw [State.brownOut_eq, hxp, hqb, hbr]
    rfl

end

/-! ### The reset level (R360) -/

/-- The state in which a rail at its reset level resets its panel. -/
def State.railFell (s : State) (p : Nat) (sram : Bool) (mv det : Nat) : State :=
  ((s.setPanelPower p { (s.panelPower p).rail sram mv true with aboveAt := none }).fire det p 1).emcyPower 0xFF61 det p

section

variable {s : State} {p : PanelId} {sram : Bool} {mv : W16} {det : Nat}

theorem State.railFell_step {G : Nat} {mv : Nat} (hG : sub (maskOf (reportFields ++ [.power])) G = true) : Step G s (s.railFell p.val sram mv det) := by
  have h : Step (maskOf (reportFields ++ [.power])) s (s.railFell p.val sram mv det) :=
    State.emcyPower_step (State.fire_step (State.setPanelPower_step (Step.refl _ s) (by decide)) (by decide)) (by decide)
  exact h.mono hG

theorem State.railFell_fired {mv : Nat} (hd : det ∉ lossDets) : s.firedMore (s.railFell p.val sram mv det) det := by
  have h : s.firedMore ((s.setPanelPower p.val { (s.panelPower p.val).rail sram mv true with aboveAt := none }).fire det p.val 1) det :=
    State.firedMore_fire (x := s.setPanelPower p.val _) rfl _ _ _
  exact State.firedMore_side h (State.emcyPower_report _ _ _ _) fun h => hd (List.mem_cons_of_mem _ h)

theorem State.railFell_panel {mv : Nat} : (s.railFell p.val sram mv det).panelPower p.val =
    { (s.panelPower p.val).rail sram mv true with aboveAt := none } :=
  (State.panelPower_congr (by simp [State.railFell]) _).trans (State.panelPower_set_same s p.val _)

theorem PanelPower.overcurrent_rail (q : PanelPower) (sram : Bool) (v : Nat) (low : Bool) :
    (q.rail sram v low).overcurrent = q.overcurrent ∧ (q.rail sram v low).resets = q.resets := by cases sram <;> exact ⟨rfl, rfl⟩

theorem State.railFell_reset {mv : Nat} : ((s.railFell p.val sram mv det).panelPower p.val).overcurrent = (s.panelPower p.val).overcurrent ∧
    (s.railFell p.val sram mv det).recentResets p.val = s.recentResets p.val := by
  obtain ⟨ho, hr⟩ := PanelPower.overcurrent_rail (s.panelPower p.val) sram mv true
  unfold State.recentResets
  rw [State.railFell_panel, (State.railFell_step (s := s) (sub_refl _)).now (by decide)]
  exact ⟨ho, by rw [← hr]⟩

/-- What a rail's reset level brings: the report, and the panel's reset unless its overcurrent latch governs. -/
theorem settles_panelRailReset (hdet : det = if sram then 0x0A04 else 0x0A02) (hon : s.railOn p.val sram = true ∨ (s.panelPower p.val).overcurrent = true)
    (hv : mv.toNat ≤ resetMv sram) :
    settles (.panelRailReset p sram mv) s (reportFields ++ ([.wafer, .suspects, .moves, .tiles, .power] : List Field)) fun u => s.firedMore u det ∧
      s.hasRaised u 0xFF61 det ∧
      ((s.panelPower p.val).overcurrent = true → u.suspects = s.suspects ∧ u.tiles = s.tiles ∧ u.wafer = s.wafer) ∧
      ((s.panelPower p.val).overcurrent = false → u.contentsLost p.val ∧ ∀ k, keyPanel k ≠ p.val → u.tileOf k = s.tileOf k) ∧
      ((s.panelPower p.val).overcurrent = false → s.panelLost p.val = true → u.suspects = s.suspects ∧ u.wafer = s.wafer) ∧
      ((s.panelPower p.val).overcurrent = false → s.panelLost p.val = false → (s.wafer.panelOf p.val).mode ≠ .active →
        (s.recentResets p.val < 2 → u.suspects = s.suspects ∧ u.wafer = s.wafer) ∧ (2 ≤ s.recentResets p.val → u.panelLost p.val = true)) ∧
      (s.panelResets p.val → s.recentResets p.val < 2 → s.inPanelReset p.val u) ∧
      (s.panelResets p.val → 2 ≤ s.recentResets p.val → u.panelLost p.val = true) := by
  have hdn : det ∉ lossDets := by rw [hdet]; exact (warnDet_not_side sram).2
  have hx : exec (.panelRailReset p sram mv) s = .next (State.settle s ((s.railFell p.val sram mv.toNat det).panelReset p.val det)) := by
    rw [hdet]
    refine whenSettled_true ?_ s _
    rw [decide_eq_true hv, Bool.and_true, Bool.or_eq_true]
    exact hon
  have hstep : Step (maskOf (reportFields ++ [.power])) s (s.railFell p.val sram mv.toNat det) := State.railFell_step (sub_refl _)
  obtain ⟨hoc, hrecent⟩ := State.railFell_reset (s := s) (p := p) (sram := sram) (det := det) (mv := mv.toNat)
  have hlost : (s.railFell p.val sram mv.toNat det).panelLost p.val = s.panelLost p.val :=
    State.panelLost_congr (hstep.wafer (by decide)) (hstep.suspects (by decide)) _
  have hkeeps : s.keepsEmcy → (s.railFell p.val sram mv.toNat det).keepsEmcy := fun h => (State.keepsEmcy_emcyPower _ _ _ _).2
    ((State.keepsEmcy_congr (by simp) (State.setting_congr (by simp) _ _)).2 h)
  have hraise : s.raisedWithin (s.railFell p.val sram mv.toNat det) 0xFF61 det 0 := State.emcyPower_raises
    (fun h => (State.keepsEmcy_congr (by simp) (State.setting_congr (by simp) _ _)).2 h) (by decide) _
  have hclear : (s.panelPower p.val).overcurrent = false →
      ((s.railFell p.val sram mv.toNat det).panelReset p.val det).contentsLost p.val ∧
      ∀ k, keyPanel k ≠ p.val → ((s.railFell p.val sram mv.toNat det).panelReset p.val det).tileOf k = s.tileOf k := fun ho => by
    obtain ⟨⟨hw, hother⟩, hpll⟩ := State.panelReset_clears (s := s.railFell p.val sram mv.toNat det) (det := det) (hoc.trans ho)
    exact ⟨⟨hpll, hw⟩, fun k hk => (hother k hk).trans (congrArg (fun q => Tab.get q tile0 k) (hstep.tiles (by decide)))⟩
  refine settles_step hx (State.panelReset_step (State.railFell_step (by decide)) (by decide))
    ⟨State.firedMore_side (State.railFell_fired hdn) State.panelReset_side hdn, State.hasRaised_of_within (State.panelReset_within hkeeps hraise (by decide)),
      fun ho => ?_, hclear, fun ho hl => ?_, fun ho hl hm => ⟨fun hr => ?_, fun hr => ?_⟩, fun ⟨hm, hl, ho⟩ hr => ?_, fun ⟨hm, hl, ho⟩ hr => ?_⟩
  · rw [State.panelReset_latched (hoc.trans ho)]
    exact ⟨hstep.suspects (by decide), hstep.tiles (by decide), hstep.wafer (by decide)⟩
  · obtain ⟨hs, hw⟩ := State.panelReset_idle (det := det) (hoc.trans ho) (.inl (hlost.trans hl))
    exact ⟨hs.trans (hstep.suspects (by decide)), hw.trans (hstep.wafer (by decide))⟩
  · obtain ⟨hs, hw⟩ := State.panelReset_idle (det := det) (hoc.trans ho) (.inr ⟨hrecent ▸ hr, by rw [hstep.wafer (by decide)]; exact hm⟩)
    exact ⟨hs.trans (hstep.suspects (by decide)), hw.trans (hstep.wafer (by decide))⟩
  · exact State.panelReset_third (hoc.trans ho) (hrecent ▸ hr)
  · obtain ⟨⟨hpll, hw⟩, hother⟩ := hclear ho
    obtain ⟨hs, hl', hwafer, hat⟩ := State.panelReset_first (det := det) (hoc.trans ho) (hlost.trans hl) (hrecent ▸ hr)
      (by rw [hstep.wafer (by decide)]; exact hm)
    exact ⟨hs, hl', hwafer.trans (hstep.wafer (by decide)), hat, hpll, hw, hother⟩
  · exact State.panelReset_third (hoc.trans ho) (hrecent ▸ hr)

end

/-! ### Recovery, release and timeout (R356, R359, R360) -/

section

variable {s : State} {p : PanelId} {core sram : W16}

theorem settles_recovered {c d : Bool} (hc : ((s.panelPower p.val).belowCore && decide (core.toNat ≤ 715)) = c)
    (hd : ((s.panelPower p.val).belowSram && decide (sram.toNat ≤ 762)) = d)
    (h : (c != (s.panelPower p.val).belowCore || d != (s.panelPower p.val).belowSram || ((s.panelPower p.val).srcBrown && (!c && !d))) = true) :
    settles (.panelRailRecovered p core sram) s [.power] (s.panelTakes p.val { s.panelPower p.val with
      coreMv := core.toNat, sramMv := sram.toNat, belowCore := c, belowSram := d
      srcBrown := (s.panelPower p.val).srcBrown && !(!c && !d)
      aboveAt := if (s.panelPower p.val).resetAt.isSome && (!c && !d) then some s.now else none }) := by
  subst hc hd
  exact settles_step (whenSettled_true h s _) (State.setPanelPower_step (Step.refl _ s) (by decide)) (State.panelTakes_of rfl)

theorem completes_panelResetRelease {t a : Nat} (ht : (s.panelPower p.val).resetAt = some t) (ha : (s.panelPower p.val).aboveAt = some a)
    (h : a + psMs ≤ t + 100 * psMs) : completes (.panelResetRelease p) s [.now, .power] fun u => u.now = max s.now (a + psMs) ∧
      s.panelTakes p.val { s.panelPower p.val with
        resetAt := none, aboveAt := none, released := (s.wafer.panelOf p.val).mode == .active, pll := true } u := by
  have hx : exec (.panelResetRelease p) s = .next (((s.advanceTo (a + psMs)).setPanelPower p.val { s.panelPower p.val with
      resetAt := none, aboveAt := none, released := (s.wafer.panelOf p.val).mode == .active, pll := true }).clocksFresh
        [3 * p.val, 3 * p.val + 1, 3 * p.val + 2]) := by
    show execPanelResetRelease p s = _
    unfold execPanelResetRelease
    simp only [ht, ha]
    exact whenDue_true (decide_eq_true h) _ _
  exact completes_step hx (State.clocksFresh_step (State.setPanelPower_step (State.advanceTo_step (Step.refl _ s) (by decide)) (by decide)) (by decide))
    ⟨rfl, State.panelTakes_of rfl⟩

theorem settles_panelResetTimeout {t : Nat} (ht : (s.panelPower p.val).resetAt = some t) :
    settles (.panelResetTimeout p) s (reportFields ++ ([.now, .wafer, .suspects, .moves, .tiles, .power] : List Field)) fun u =>
      u.now = max s.now (t + 100 * psMs) ∧ u.panelLost p.val = true ∧ (s.panelLost p.val = false → s.hasRaised u 0xFF71 0x0C08) := by
  generalize hb : (s.advanceTo (t + 100 * psMs)).setPanelPower p.val { s.panelPower p.val with resetAt := none, aboveAt := none } = b
  have hx : exec (.panelResetTimeout p) s = .next (State.settle s (b.declareLost p.val 4 s.beat.n)) := by
    rw [← hb]
    show execPanelResetTimeout p s = _
    unfold execPanelResetTimeout
    simp only [ht]
    exact whenSettled_true rfl _ _
  have hbstep : Step (maskOf [.now, .power]) s b := by
    rw [← hb]
    exact State.setPanelPower_step (State.advanceTo_step (Step.refl _ s) (by decide)) (by decide)
  have hlost : b.panelLost p.val = s.panelLost p.val := State.panelLost_congr (hbstep.wafer (by decide)) (hbstep.suspects (by decide)) _
  refine settles_step hx (State.declareLost_step (hbstep.mono (by decide)) (by decide)) ⟨?_, State.panelLost_declareLost .., fun hl => ?_⟩
  · rw [(State.declareLost_step (Step.refl 72075364412425394 b) (by decide)).now (by decide), ← hb]
    rfl
  · exact State.hasRaised_of_within (State.declareLost_raises (hlost.trans hl)
      fun h => (State.keepsEmcy_congr (by rw [hbstep.up (by decide)]) (State.setting_congr (hbstep.od (by decide)) _ _)).2 h)

/-! ### The operator's write (R358) -/

/-- The latches of the listed panels are cleared, each panel's by its bit. -/
theorem State.brownoutsClear (l : List Nat) (hl : l.Nodup) : ∀ (s : State) (q : Nat),
    (each l (fun y p => y.setPanelPower p { y.panelPower p with brownout := false }) s).panelPower q =
      if q ∈ l then { s.panelPower q with brownout := false } else s.panelPower q := by
  induction l with
  | nil => exact fun s q => by rw [if_neg (by simp)]; rfl
  | cons a r ih =>
    intro s q
    obtain ⟨ha, hr⟩ := List.nodup_cons.1 hl
    show (each r _ (s.setPanelPower a _)).panelPower q = _
    rw [ih hr]
    by_cases hq : q = a
    · subst hq
      rw [if_neg ha, if_pos List.mem_cons_self, State.panelPower_set_same]
    · rw [State.panelPower_set_other s hq]
      simp [hq]

theorem settles_brownoutClear {a : Path} {v : W64} (h : s.canWrite a 0x2921 0 = true) : settles (.brownoutClear a v) s [.power] fun u =>
    ∀ q : PanelId, u.panelPower q.val =
      { s.panelPower q.val with brownout := (s.panelPower q.val).brownout && !bit v.toNat q.val } := by
  refine settles_step (State.odWriteSettled_ok (e := fxBrownoutClear v) h rfl) (each_step (Step.refl _ s) fun u x hu => State.setPanelPower_step hu (by decide)) fun q => ?_
  refine (State.brownoutsClear (allPanels.filter fun p => bit v.toNat p && (s.panelPower p).brownout) (List.Nodup.filter _ List.nodup_range) s q.val).trans ?_
  have hq : q.val ∈ allPanels := List.mem_range.2 q.isLt
  by_cases hm : bit v.toNat q.val = true ∧ (s.panelPower q.val).brownout = true
  · rw [if_pos (List.mem_filter.2 ⟨hq, by rw [hm.1, hm.2]; rfl⟩), hm.1, Bool.not_true, Bool.and_false]
  · rw [if_neg fun h => hm (by simpa using (List.mem_filter.1 h).2)]
    have hb : ((s.panelPower q.val).brownout && !bit v.toNat q.val) = (s.panelPower q.val).brownout := by
      cases h1 : (s.panelPower q.val).brownout <;> cases h2 : bit v.toNat q.val <;> simp_all
    rw [hb]

end

end Sys2Proof.Machine

namespace Sys2Proof.Proofs

open Sys2Proof.Machine

/-- Settles O50: each command of a panel's rails by what it finds in the panel's record. -/
theorem panelRails : Obligations.PanelRails := by
  unfold Obligations.PanelRails
  refine ⟨fun s p sram mv => ⟨?_, ?_⟩, ?_, ?_, ?_, ?_⟩
  · intro det fs hon hv
    refine ⟨fun hb => ⟨fun hlow => ?_, fun hlow => ?_⟩, fun hb hlow hsrc hr => ?_⟩
    · exact settles_firstWarning hon hv hb hlow
    · exact settles_resetLevelWarning hon hv hb hlow
    · exact settles_secondWarning hon hv hb hlow hsrc hr
  · intro det hon hv
    exact settles_panelRailReset rfl hon hv
  · intro s p core sram q h hc hs
    have hrec := settles_recovered (s := s) (p := p) (core := core) (sram := sram) (c := false) (d := false) (by simp [hc]) (by simp [hs])
      (by simpa [Bool.or_eq_true, or_assoc] using h)
    simpa using hrec
  · intro s p core sram q hbc hbs
    refine ⟨fun hc hs => ?_, fun hc hs => ?_⟩
    · have hrec := settles_recovered (s := s) (p := p) (core := core) (sram := sram) (c := false) (d := true) (by simp [hc])
        (by rw [show (s.panelPower p.val).belowSram = true from hbs]; simpa using hs) (by rw [show (s.panelPower p.val).belowCore = true from hbc]; rfl)
      simpa [q, show (s.panelPower p.val).belowSram = true from hbs] using hrec
    · have hrec := settles_recovered (s := s) (p := p) (core := core) (sram := sram) (c := true) (d := false)
        (by rw [show (s.panelPower p.val).belowCore = true from hbc]; simpa using hc) (by simp [hs])
        (by rw [show (s.panelPower p.val).belowCore = true from hbc, show (s.panelPower p.val).belowSram = true from hbs]; rfl)
      simpa [q, show (s.panelPower p.val).belowCore = true from hbc] using hrec
  · exact fun s p t ht => ⟨fun a ha h => completes_panelResetRelease ht ha h, settles_panelResetTimeout ht⟩
  · exact fun s p v h => settles_brownoutClear h

end Sys2Proof.Proofs
end

section
/-! What fails with a rail or a clock: rows and columns of panels, the yoke, segments, links. -/

namespace Sys2Proof.Machine

/-- The detectors that the fall of a unit, or of one of its links, may fire. -/
def fallDets : List Nat := 0x0601 :: 0x0701 :: 0x0801 :: lossDets

theorem sideDets_fall : ∀ d ∈ sideDets, d ∈ fallDets := by decide

/-- An operator's write that its effect refuses. -/
theorem State.refusesWrite_settled {c : Instr} {s : State} {p : Path} {i j code : Nat} {e : Effect} (hx : exec c s = s.odWriteSettled p i j e)
    (hw : s.canWrite p i j = true) (he : e s = .error code) : s.refusesWrite c p i j code :=
  completes_step (hx.trans (State.odWriteSettled_error hw he)) (State.aborted_step (Step.refl _ s) (by decide)) (s.aborted_cells p i j code)

/-! ### Panels that are LOST -/

section

variable {s s0 : State} {p q cause since : Nat} {D : List Nat}

theorem State.declareLost_calm (hD : ∀ d ∈ lossDets, d ∈ D) (h : Calm D s0 s) : Calm D s0 (s.declareLost p cause since) := by
  cases hl : s.panelLost p with
  | true => rw [State.declareLost_lost hl]; exact h
  | false =>
    obtain ⟨w, q, hx, -⟩ := State.declareLost_new (cause := cause) (since := since) hl
    rw [hx]
    have hr : Calm D s0 (s.lossReport p cause) := State.emcyEvent_calm (fun d hd => hD d (List.mem_cons_of_mem _ hd))
      (State.bump64_calm (State.fire_calm h (hD _ List.mem_cons_self) _ _) (by decide) _) _ _ _
    exact hr.put rfl rfl rfl

/-- A loss leaves the lanes as they are. -/
theorem State.declareLost_lanes : (s.declareLost p cause since).wafer.laneFail = s.wafer.laneFail := by
  cases hl : s.panelLost p with
  | true => rw [State.declareLost_lost hl]
  | false =>
    obtain ⟨w, q, hx, hw⟩ := State.declareLost_new (cause := cause) (since := since) hl
    rw [hx]
    rcases hw with rfl | ⟨rfl, -⟩ <;> rfl

/-- A panel whose loss waits for the boundary goes on doing so. -/
theorem State.suspects_declareLost {x : Suspect} {c : Nat} (hw : x.what = .panel q c) (h : x ∈ s.suspects) :
    x ∈ (s.declareLost p cause since).suspects := by
  have hs : (s.lossReport p cause).suspects = s.suspects := by simp [State.lossReport]
  have hx : x ∈ (s.lossReport p cause).suspects.filter fun x => x.what != FailUnit.panelReset p :=
    List.mem_filter.2 ⟨hs ▸ h, by rw [hw]; rfl⟩
  unfold State.declareLost
  split
  · exact h
  · show x ∈ State.suspects (if ((s.lossReport p cause).wafer.panelOf p).mode = .removed then _ else _)
    split
    · exact hx
    · exact List.mem_append_left _ hx

/-- A panel that is LOST stays so when another is. -/
theorem State.panelLost_declareLost_mono (h : s.panelLost q = true) : (s.declareLost p cause since).panelLost q = true := by
  rcases Bool.or_eq_true_iff.1 h with hm | hs
  · cases hl : s.panelLost p with
    | true => rw [State.declareLost_lost hl, h]
    | false =>
      obtain ⟨w, q', hx, hw⟩ := State.declareLost_new (cause := cause) (since := since) hl
      rw [hx]
      refine Bool.or_eq_true_iff.2 (.inl ?_)
      rcases hw with rfl | ⟨rfl, -⟩
      · by_cases e : q = p
        · subst e
          simp [Wafer.panelOf]
        · simpa [Wafer.panelOf, Tab.get_set_other _ _ _ e] using hm
      · exact hm
  · obtain ⟨x, hx, hq⟩ := List.any_eq_true.1 hs
    cases hw : x.what with
    | panel r c =>
      rw [hw] at hq
      exact Bool.or_eq_true_iff.2 (.inr (List.any_eq_true.2 ⟨x, State.suspects_declareLost hw hx, by rw [hw]; exact hq⟩))
    | _ => rw [hw] at hq; cases hq

end

/-! ### Several panels declared LOST -/

section

variable {l : List Nat} {f : Nat → Nat} {cause since : Nat}

/-- The panels `f i` of a list are declared LOST. -/
def State.loseAll (s : State) (l : List Nat) (f : Nat → Nat) (cause since : Nat) : State := each l (fun z i => z.declareLost (f i) cause since) s

theorem State.loseAll_lost {i : Nat} (hi : i ∈ l) (s : State) : (s.loseAll l f cause since).panelLost (f i) = true := by
  have keep : ∀ (l : List Nat) (s : State) q, s.panelLost q = true → (s.loseAll l f cause since).panelLost q = true := fun l => by
    induction l with
    | nil => exact fun s q h => h
    | cons a r ih => exact fun s q h => ih _ q (State.panelLost_declareLost_mono h)
  induction l generalizing s with
  | nil => cases hi
  | cons a r ih =>
    rcases List.mem_cons.1 hi with rfl | h
    · exact keep r _ _ (State.panelLost_declareLost ..)
    · exact ih h _

theorem State.loseAll_lanes (l : List Nat) (s : State) : (s.loseAll l f cause since).wafer.laneFail = s.wafer.laneFail :=
  each_keeps (fun x => x.wafer.laneFail) _ (fun _ _ => State.declareLost_lanes) l s

theorem State.loseAll_calm {D : List Nat} (hD : ∀ d ∈ lossDets, d ∈ D) {s0 s : State} (h : Calm D s0 s) (l : List Nat) :
    Calm D s0 (s.loseAll l f cause since) := Calm.each l h fun _ _ hu => State.declareLost_calm hD hu

theorem State.declareLost_keepsEmcy (s : State) (p : Nat) : (s.declareLost p cause since).keepsEmcy ↔ s.keepsEmcy := by
  refine State.keepsEmcy_congr ?_ (State.declareLost_calm (fun _ h => h) (Calm.refl lossDets s)).emcy
  rw [(State.declareLost_step (Step.refl 72075364412425394 s) (by decide)).up (by decide)]

/-- An EMCY message stays in the history behind as many losses as it holds. -/
theorem State.loseAll_within {s0 : State} {code det : Nat} (l : List Nat) : ∀ {s : State} {n : Nat}, (s0.keepsEmcy → s.keepsEmcy) →
    s0.raisedWithin s code det n → n + l.length ≤ 7 → s0.raisedWithin (s.loseAll l f cause since) code det (n + l.length) := by
  induction l with
  | nil => exact fun _ h _ => h
  | cons a r ih =>
    intro s n hk hw hn
    rw [List.length_cons] at hn ⊢
    rw [show n + (r.length + 1) = n + 1 + r.length by omega]
    exact ih (fun h => (State.declareLost_keepsEmcy s (f a)).2 (hk h)) (State.declareLost_within hk hw (by omega)) (by omega)

end

/-! ### Lanes of a column -/

theorem Wafer.lanesTaken_lanes (w : Wafer) (e k : Nat) :
    (w.lanesTaken e).laneFail.get 0 k = if k = e * 2 ∨ k = e * 2 + 1 then 0x3FFF else w.laneFail.get 0 k := by
  show ((w.laneFail.set (e * 2) 0x3FFF).set (e * 2 + 1) 0x3FFF).get 0 k = _
  by_cases h1 : k = e * 2 + 1
  · rw [h1, Tab.get_set_same, if_pos (.inr rfl)]
  · rw [Tab.get_set_other _ _ _ h1]
    by_cases h0 : k = e * 2
    · rw [h0, Tab.get_set_same, if_pos (.inl rfl)]
    · rw [Tab.get_set_other _ _ _ h0, if_neg (by omega)]

theorem Wafer.columnTaken_lanes (w : Wafer) (x : Nat) {y d : Nat} (hy : y < 7) (hd : d < 2) :
    (w.columnTaken x).laneFail.get 0 (northEdge x y * 2 + d) = 0x3FFF := by
  have key : ∀ (l : List Nat) (w : Wafer), y ∈ l ∨ w.laneFail.get 0 (northEdge x y * 2 + d) = 0x3FFF →
      (l.foldl (fun w i => w.lanesTaken (northEdge x i)) w).laneFail.get 0 (northEdge x y * 2 + d) = 0x3FFF := fun l => by
    induction l with
    | nil => exact fun w h => h.resolve_left List.not_mem_nil
    | cons a r ih =>
      refine fun w h => ih _ ?_
      rw [Wafer.lanesTaken_lanes]
      split
      · exact .inr rfl
      · rename_i hne
        refine h.imp_left fun hm => (List.mem_cons.1 hm).resolve_left fun e => hne ?_
        subst e
        omega
  exact key _ _ (.inl (List.mem_range.2 hy))

/-! ### Rows, columns, the yoke -/

section

variable {s : State}

theorem State.seamRowLost_eq (y : Nat) : s.seamRowLost y = s.loseAll (List.range 8) (fun i => y * 8 + i) 5 s.beat.n := rfl

/-- The state whose lanes of a column are lost. -/
def State.lanesLost (s : State) (x : Nat) : State := { s with wafer := s.wafer.columnTaken x }

theorem State.seamColLost_eq (x : Nat) : s.seamColLost x = (s.lanesLost x).loseAll (List.range 7) (fun i => (i + 1) * 8 + x) 5 s.beat.n := rfl

theorem State.rowOut_seamRowLost (y : Nat) : (s.seamRowLost y).rowOut y := fun _ hx => by
  rw [State.seamRowLost_eq]
  exact State.loseAll_lost (f := fun i => y * 8 + i) (List.mem_range.2 hx) s

theorem State.columnOut_seamColLost (x : Nat) : (s.seamColLost x).columnOut x := by
  refine ⟨fun y h1 h8 => ?_, fun y d hy hd => ?_⟩
  · have hm : y - 1 ∈ List.range 7 := List.mem_range.2 (by omega)
    have h := State.loseAll_lost (f := fun i => (i + 1) * 8 + x) (cause := 5) (since := s.beat.n) hm (s.lanesLost x)
    rw [show y - 1 + 1 = y by omega] at h
    rw [State.seamColLost_eq]
    exact h
  · rw [State.seamColLost_eq, State.loseAll_lanes]
    exact Wafer.columnTaken_lanes _ _ hy hd

theorem State.jobAbort_opened (j : Nat) (st : Status) (det : Nat) {k : Nat} (h : ((s.jobAbort j st det).jobOf k).st = .opened) :
    k ≠ j ∧ (s.jobOf k).st = .opened := by
  unfold State.jobAbort at h
  dsimp only at h
  split at h
  · rename_i hj
    exact ⟨fun e => hj (e ▸ h), h⟩
  · revert h
    generalize hx : each _ State.killTask _ = x
    intro h
    have hjobs : ((x.jobEntriesEnd j st det (0, 0x10000)).jobFramesEnd j st det).jobs =
        s.jobs.set j { s.jobOf j with st := .aborted, fenced := (s.jobOf j).fenced || st == .fenced } := by
      rw [(State.jobFramesEnd_step (State.jobEntriesEnd_step (Step.refl 72080289657801864 x) (by decide)) (by decide)).jobs (by decide), ← hx]
      exact each_keeps State.jobs _ (fun u a => (State.killTask_step (Step.refl 137443147776 u) (by decide)).jobs (by decide)) _ _
    unfold State.jobOf at h
    rw [hjobs] at h
    by_cases e : k = j
    · subst e
      rw [Tab.get_set_same] at h
      cases h
    · rw [Tab.get_set_other _ _ _ e] at h
      exact ⟨e, h⟩

theorem mem_of_findCell {α : Type} {k : Nat} {v : α} {l : List (Nat × α)} (h : findCell k l = some v) : (k, v) ∈ l := by
  induction l with
  | nil => cases h
  | cons c r ih =>
    obtain ⟨j, w⟩ := c
    rw [findCell] at h
    split at h
    · subst j
      cases h
      exact List.mem_cons_self
    · exact List.mem_cons_of_mem _ (ih h)

theorem State.mem_openJobs {j : Nat} (h : (s.jobOf j).st = .opened) : j ∈ s.openJobs := by
  unfold State.jobOf at h
  cases hf : s.jobs.find j with
  | none =>
    rw [Tab.get, hf] at h
    cases h
  | some q =>
    rw [Tab.get, hf] at h
    exact List.mem_map.2 ⟨(j, q), List.mem_filter.2 ⟨mem_of_findCell hf, by rw [show q.st = _ from h]; rfl⟩, rfl⟩

/-- No job is OPEN after all are ABORTED. -/
theorem State.abortAll_opened (det k : Nat) : ((s.abortAll det).jobOf k).st ≠ .opened := by
  have key : ∀ (l : List Nat) (s : State), ((each l (fun x j => x.jobAbort j .jobAborted det) s).jobOf k).st = .opened →
      k ∉ l ∧ (s.jobOf k).st = .opened := fun l => by
    induction l with
    | nil => exact fun s h => ⟨List.not_mem_nil, h⟩
    | cons a r ih =>
      intro s h
      obtain ⟨hr, h'⟩ := ih _ h
      obtain ⟨ha, hs⟩ := State.jobAbort_opened _ _ _ h'
      exact ⟨fun hm => (List.mem_cons.1 hm).elim ha hr, hs⟩
  intro h
  obtain ⟨hn, ho⟩ := key s.openJobs s h
  exact hn (State.mem_openJobs ho)

theorem State.killAll_jobs : s.killAll.jobs = s.jobs :=
  each_keeps State.jobs _ (fun u a => (State.killTask_step (Step.refl 137443147776 u) (by decide)).jobs (by decide)) _ _

theorem State.yokeOut_yokeFail (cause det : Nat) : (s.yokeFail cause det).yokeOut := by
  unfold State.yokeFail
  dsimp only
  generalize (State.emcyEvent _ _ _ _) = a
  refine ⟨rfl, rfl, rfl, fun j => ?_⟩
  have hj : ((a.abortAll det).plansToLoaded.killAll.yokeAgain).jobs = (a.abortAll det).jobs := State.killAll_jobs
  unfold State.jobOf
  rw [hj]
  exact State.abortAll_opened det j

theorem State.plansToLoaded_calm {D : List Nat} {s0 : State} (h : Calm D s0 s) : Calm D s0 s.plansToLoaded := h.put rfl rfl rfl

theorem State.yokeAgain_calm {D : List Nat} {s0 : State} (h : Calm D s0 s) : Calm D s0 s.yokeAgain := h.put rfl rfl rfl

theorem State.killAll_calm {D : List Nat} {s0 : State} (h : Calm D s0 s) : Calm D s0 s.killAll :=
  Calm.each _ h fun _ k hu => State.killTask_calm hu k

/-- What the yoke's failure reports, before the jobs end. -/
def State.yokeReport (s : State) (cause det : Nat) : State := ((s.bump64 0x2B00 7).logAct det 0 7).emcyEvent 0xFF73 det (natLe 1 cause)

theorem State.yokeFail_calm {D : List Nat} (hD : ∀ d ∈ sideDets, d ∈ D) {s0 : State} (h : Calm D s0 s) (cause det : Nat) :
    Calm D s0 (s.yokeFail cause det) := by
  have ha : Calm D s0 (s.yokeReport cause det) := State.emcyEvent_calm hD
    (Calm.put (s := s.bump64 0x2B00 7) (State.bump64_calm h (by decide) _) (by simp) (by simp) (by simp)) _ _ _
  exact State.yokeAgain_calm (State.killAll_calm (State.plansToLoaded_calm (State.abortAll_calm hD ha det)))

/-- The yoke's failure sends one EMCY message. -/
theorem State.yokeFail_can (cause det : Nat) : (s.yokeFail cause det).can = (s.yokeReport cause det).can := by
  have h : ∀ x : State, (x.abortAll det).plansToLoaded.killAll.yokeAgain.can = x.can := fun x =>
    (State.yokeAgain_step (State.killAll_step (State.plansToLoaded_step (State.abortAll_step (Step.refl 81087488912551048 x) (by decide))
      (by decide)) (by decide)) (by decide)).can (by decide)
  exact h _

theorem State.yokeReport_keepsEmcy (det : Nat) : ((s.bump64 0x2B00 7).logAct det 0 7).keepsEmcy ↔ s.keepsEmcy :=
  State.keepsEmcy_congr (by simp) (by
    refine (State.setting_congr (s := s.bump64 0x2B00 7) (by simp) _ _).trans ?_
    exact State.setting_count_other s (by decide) (by decide) (by decide))

end

/-! ### Segments, links, ports -/

section

variable {s : State}

theorem State.flashDown_down (g : Nat) : ((s.flashDown g).seg g).flash = .linkDown := by
  unfold State.flashDown
  dsimp only
  split
  · assumption
  · rw [(State.nvmeFailAll_segs _ _ _).1, State.seg_fire, State.seg_setSeg_same]

theorem State.hemReset_calm {D : List Nat} (hD : ∀ d ∈ sideDets, d ∈ D) (hf : 0x0601 ∈ D) {s0 : State} (h : Calm D s0 s) (g det : Nat) :
    Calm D s0 (s.hemReset g det) := by
  have ha := State.flashDown_calm hD h hf g
  unfold State.hemReset
  refine Calm.ite (Calm.put (s := s.flashDown g) ha (by simp) (by simp) (by simp)) (Calm.ite ?_ ha)
  exact ha.put rfl rfl rfl

theorem State.segmentOut_hemReset (g det : Nat) : s.segmentOut (s.hemReset g det) g := by
  have hdown := State.flashDown_down (s := s) g
  unfold State.hemReset
  dsimp only
  split
  · rename_i hd
    refine ⟨?_, fun _ => (State.suspects1_suspect (s := s.flashDown g) rfl _ _).1⟩
    rw [State.seg_congr (State.suspect_segs (s.flashDown g))]
    exact hdown
  · rename_i hd
    split
    · exact ⟨hdown, fun h => absurd h hd⟩
    · exact ⟨hdown, fun h => absurd h hd⟩

theorem State.linkDrop_down (f : Fn) : ((s.linkDrop f).host f).up = false := by
  unfold State.linkDrop
  dsimp only
  split
  · exact congrArg HostFn.up (State.host_of_setHost (s := s) (f := f) (h := { s.host f with up := false, gen := 0, width := 0 })
      (by simp) (by simp)).1
  · rename_i h
    exact Bool.not_eq_true _ ▸ h

theorem State.linkDrop_calm {D : List Nat} (hf : 0x0701 ∈ D) {s0 : State} (h : Calm D s0 s) (f : Fn) : Calm D s0 (s.linkDrop f) := by
  unfold State.linkDrop
  dsimp only
  refine Calm.ite ?_ h
  have h1 := State.fire_calm (s := s.setHost f { s.host f with up := false, gen := 0, width := 0 })
    (h.put (by simp) (by simp) (by simp)) hf (fnNum f) 6
  exact h1.put (by simp) (by simp) (by simp)

/-- What a port's fall leaves before its EMCY message. -/
def State.portFell (s : State) (p : Nat) : State :=
  let a := (s.setPort p { s.portOf p with link := false, downs := ((s.portOf p).downs + 1) % 256, queues := .empty }).portCount p 0xD 1
  { a with nodes := a.nodes.keep fun _ (n : NodeEnt) => !(n.st == NodeSt.dynamic && n.port == p) }.fire 0x0801 p 0

theorem State.portDown_eq (p : Nat) : s.portDown p = (s.portFell p).emcyEvent 0xFF52 0x0801 (natLe 1 p ++ natLe 1 0) := rfl

theorem State.netReset_down (p : Nat) : ((s.netReset p).portOf p).link = false := by
  unfold State.netReset
  split
  · have hp : (s.portDown p).ports = s.ports.set p { s.portOf p with link := false, downs := ((s.portOf p).downs + 1) % 256, queues := .empty } := by
      rw [State.portDown_eq]
      simp [State.portFell, State.portCount, State.setPort]
    unfold State.portOf
    rw [hp, Tab.get_set_same]
  · rename_i h
    exact Bool.not_eq_true _ ▸ h

theorem State.portFell_calm {D : List Nat} (hf : 0x0801 ∈ D) {s0 : State} (h : Calm D s0 s) (p : Nat) : Calm D s0 (s.portFell p) := by
  refine State.fire_calm ?_ hf _ _
  have h1 := State.count_calm (h.put (by simp) (by simp) (by simp)) (i := 0x2820 + p) (by omega) 64 0xD 1 (s :=
    s.setPort p { s.portOf p with link := false, downs := ((s.portOf p).downs + 1) % 256, queues := .empty })
  exact h1.put rfl rfl rfl

theorem State.netReset_calm {D : List Nat} (hD : ∀ d ∈ sideDets, d ∈ D) (hf : 0x0801 ∈ D) {s0 : State} (h : Calm D s0 s) (p : Nat) :
    Calm D s0 (s.netReset p) := by
  unfold State.netReset
  rw [State.portDown_eq]
  exact Calm.ite (State.emcyEvent_calm hD (State.portFell_calm hf h p) _ _ _) h

theorem State.portFell_keepsEmcy (p : Nat) : (s.portFell p).keepsEmcy ↔ s.keepsEmcy :=
  State.keepsEmcy_congr (by simp [State.portFell, State.portCount]) (State.portFell_calm List.mem_cons_self (Calm.refl [0x0801] s) p).emcy

end

end Sys2Proof.Machine
end

section
/-! Proofs about the other rails and the overcurrent latch. -/

namespace Sys2Proof.Machine

/-! ### Other rails (R356, R361) -/

section

variable {s : State} {x : RailReading}

theorem State.railAt_congr {s t : State} (h : t.power = s.power) (r : OtherRail) : t.railAt r = s.railAt r := by
  unfold State.railAt
  rw [h]

@[simp] theorem State.railAt_setRail (s : State) (r : OtherRail) (v : Nat) : (s.setRail r v).railAt r = v := Tab.get_set_same _ _ _ _

theorem exec_railWarning_due (hon : (s.domainOf (railDomain x.rail)).st = .on) : exec (.railWarning x) s = .next (
    if x.mv.toNat < (railLevels x.rail).1 then if s.railAt x.rail = 0 then (s.setRail x.rail 1).fire 0x0A0F (railDomain x.rail) 0 else s
    else if (railLevels x.rail).1 + (railLevels x.rail).2.2 < x.mv.toNat then s.setRail x.rail 0 else s) :=
  whenDue_true (by rw [hon]; rfl) s _

theorem completes_railWarning_first (hon : (s.domainOf (railDomain x.rail)).st = .on) (hv : x.mv.toNat < (railLevels x.rail).1) (h : s.railAt x.rail = 0) :
    completes (.railWarning x) s [.det, .log, .logMade, .faultBuffer, .power] fun t => s.firedOnce 0x0A0F t ∧ t.railAt x.rail = 1 := by
  have hx := exec_railWarning_due hon
  rw [if_pos hv, if_pos h] at hx
  refine completes_step hx (State.fire_step (State.setRail_step (Step.refl _ s) (by decide)) (by decide))
    ⟨State.firedOnce_fire (x := s.setRail x.rail 1) rfl rfl _ _ _, ?_⟩
  rw [State.railAt_congr (State.fire_power ..), State.railAt_setRail]

theorem completes_railWarning_back (hon : (s.domainOf (railDomain x.rail)).st = .on)
    (hv : (railLevels x.rail).1 + (railLevels x.rail).2.2 < x.mv.toNat) : completes (.railWarning x) s [.power] fun t => t.railAt x.rail = 0 := by
  have hx := exec_railWarning_due hon
  rw [if_neg (by omega), if_pos hv] at hx
  exact completes_step hx (State.setRail_step (Step.refl _ s) (by decide)) (State.railAt_setRail ..)

/-- What a rail at its reset level reports, before its unit fails. -/
def State.railOut (s : State) (r : OtherRail) (det : Nat) : State :=
  ((s.setRail r 2).fire det (railDomain r) 1).emcyPower 0xFF6A det (railDomain r)

variable {r : OtherRail} {det : Nat}

theorem State.railOut_step {G : Nat} (hG : sub (maskOf (reportFields ++ [.power])) G = true) : Step G s (s.railOut r det) := by
  have h : Step (maskOf (reportFields ++ [.power])) s (s.railOut r det) :=
    State.emcyPower_step (State.fire_step (State.setRail_step (Step.refl _ s) (by decide)) (by decide)) (by decide)
  exact h.mono hG

theorem State.railOut_railAt : (s.railOut r det).railAt r = 2 := by
  rw [State.railAt_congr (s := s.setRail r 2) (by simp [State.railOut]), State.railAt_setRail]

theorem State.railOut_keepsEmcy : (s.railOut r det).keepsEmcy ↔ s.keepsEmcy :=
  (State.keepsEmcy_emcyPower _ _ _ _).trans (State.keepsEmcy_congr (by simp [State.setRail]) (State.setting_congr (by simp [State.setRail]) _ _))

theorem State.railOut_raises : s.raisedWithin (s.railOut r det) 0xFF6A det 0 := State.emcyPower_raises
  (fun h => (State.keepsEmcy_congr (by simp [State.setRail]) (State.setting_congr (by simp [State.setRail]) _ _)).2 h) (by decide) _

theorem State.railOut_fired (hd : det ∉ fallDets) : s.firedMore (s.railOut r det) det :=
  State.firedMore_side (State.firedMore_fire (x := s.setRail r 2) rfl _ _ _) (State.emcyPower_report _ _ _ _) fun h => hd (sideDets_fall _ h)

theorem State.putWafer_calm {D : List Nat} {s0 : State} (h : Calm D s0 s) (w : Wafer) : Calm D s0 { s with wafer := w } := h.put rfl rfl rfl

theorem State.putWafer_keepsEmcy (w : Wafer) : State.keepsEmcy { s with wafer := w } ↔ s.keepsEmcy := State.keepsEmcy_congr rfl rfl

theorem State.putWafer_can (w : Wafer) : State.can { s with wafer := w } = s.can := rfl

/-- The unit's failure fires none but the detectors of a fall. -/
theorem State.railFails_calm (cause : Nat) : Calm fallDets s (s.railFails r cause det) := by
  have h := Calm.refl fallDets s
  have hl : ∀ d ∈ lossDets, d ∈ fallDets := by decide
  unfold State.railFails
  cases r with
  | seamR y => exact State.loseAll_calm hl h _
  | seamC y =>
    dsimp only
    rw [State.seamColLost_eq]
    exact State.loseAll_calm hl (State.putWafer_calm h _) _
  | yoke => exact State.yokeFail_calm sideDets_fall h _ _
  | hem g b => exact State.hemReset_calm sideDets_fall (by decide) h _ _
  | host f => exact State.linkDrop_calm (by decide) h _
  | net n => exact State.netReset_calm sideDets_fall (by decide) h _

theorem State.firedMore_calm {D : List Nat} {x t : State} {d : Nat} (h : s.firedMore x d) (k : Calm D x t) (hd : d ∉ D) : s.firedMore t d := by
  unfold State.firedMore at *
  rw [k.det d hd, h]

/-- Behind the failure of a unit other than a row of panels stands the rail's own message. -/
theorem State.railFails_raised {s0 : State} {code : Nat} (hk : s0.keepsEmcy → s.keepsEmcy) (hw : s0.raisedWithin s code det 0)
    (hr : ∀ y, r ≠ .seamR y) (cause : Nat) : s0.hasRaised (s.railFails r cause det) code det := by
  unfold State.railFails
  cases r with
  | seamR y => exact absurd rfl (hr y)
  | seamC y =>
    dsimp only
    rw [State.seamColLost_eq]
    exact State.hasRaised_of_within (State.loseAll_within (List.range 7) (s := s.lanesLost y.val)
      (fun h => (State.putWafer_keepsEmcy _).2 (hk h)) (State.raisedWithin_congr hw (State.putWafer_can _)) (n := 0) (by decide))
  | yoke =>
    have h : s0.raisedWithin (s.yokeReport cause det) code det 1 := State.emcyEvent_within
      (fun h => (State.yokeReport_keepsEmcy _).2 (hk h)) (State.raisedWithin_congr hw (by simp)) (by decide) (by decide) _ _
    exact State.hasRaised_of_within (State.raisedWithin_congr h (State.yokeFail_can cause det))
  | hem g b =>
    refine State.hasRaised_of_within (State.raisedWithin_congr hw ?_)
    exact (State.hemReset_step (Step.refl 225211477376388232 s) (by decide)).can (by decide)
  | host f =>
    refine State.hasRaised_of_within (State.raisedWithin_congr hw ?_)
    exact (State.linkDrop_step (Step.refl 5301600304 s) (by decide)).can (by decide)
  | net n =>
    show s0.hasRaised (s.netReset n.val) code det
    unfold State.netReset
    split
    · rw [State.portDown_eq]
      exact State.hasRaised_of_within (State.emcyEvent_within (fun h => (State.portFell_keepsEmcy _).2 (hk h))
        (State.raisedWithin_congr hw (by simp [State.portFell, State.portCount])) (by decide) (by decide) _ _)
    · exact State.hasRaised_of_within hw

theorem settles_railReset (hon : (s.domainOf (railDomain x.rail)).st = .on) (hat : s.railAt x.rail ≠ 2)
    (hv : x.mv.toNat ≤ (railLevels x.rail).2.1) (hdet : det = if 155 ≤ railDomain x.rail then 0x0A06 else 0x0A07) :
    settles (.railReset x) s (reportFields ++ entryFields ++
        ([.wafer, .sessions, .jobs, .frames, .suspects, .moves, .tiles, .attach, .plans, .segs, .ports, .nodes, .power, .fresh] : List Field)) fun u =>
      s.firedMore u det ∧ u.railAt x.rail = 2 ∧ (∀ y, x.rail = .seamR y → u.rowOut y.val) ∧ ((∀ y, x.rail ≠ .seamR y) → s.hasRaised u 0xFF6A det) ∧
      (∀ y, x.rail = .seamC y → u.columnOut y.val) ∧ (x.rail = .yoke → u.yokeOut) ∧
      (∀ g dram, x.rail = .hem g dram → s.segmentOut u g.val) ∧
      (∀ f, x.rail = .host f → (u.host f).up = false) ∧ (∀ n, x.rail = .net n → (u.portOf n.val).link = false) := by
  have hx : exec (.railReset x) s = .next (State.settle s ((s.railOut x.rail det).railFails x.rail 1 det)) := by
    rw [hdet]
    refine whenSettled_true ?_ s _
    simp [hon, hat, hv]
  have hd : det ∉ fallDets := by
    rw [hdet]
    split <;> decide
  have hdram : (s.railOut x.rail det).dram = s.dram := State.railOut_step (sub_refl _) |>.dram (by decide)
  refine settles_step hx (State.railFails_step (State.railOut_step (by decide)) (by decide))
    ⟨State.firedMore_calm (State.railOut_fired hd) (State.railFails_calm 1) hd, ?_, fun y h => ?_, fun h => ?_, fun y h => ?_, fun h => ?_,
      fun g dram h => ?_, fun f h => ?_, fun n h => ?_⟩
  · rw [State.railAt_congr ((State.railFails_step (Step.refl 228026262585371834 (s.railOut x.rail det)) (by decide)).power (by decide)),
      State.railOut_railAt]
  · rw [h]
    exact State.rowOut_seamRowLost _
  · exact State.railFails_raised (fun h => State.railOut_keepsEmcy.2 h) State.railOut_raises h 1
  · rw [h]
    exact State.columnOut_seamColLost _
  · rw [h]
    exact State.yokeOut_yokeFail _ _
  · obtain ⟨hdown, hsus⟩ := State.segmentOut_hemReset (s := s.railOut x.rail det) g.val det
    rw [h] at hdown hsus hdram ⊢
    exact ⟨hdown, fun hg => hsus (by rw [hdram]; exact hg)⟩
  · rw [h]
    exact State.linkDrop_down _
  · rw [h]
    exact State.netReset_down _

end

/-! ### The overcurrent latch (R367, R368) -/

section

variable {s : State} {p : PanelId}

theorem State.domainOf_congr {s t : State} (h : t.power.domains = s.power.domains) (d : Nat) : t.domainOf d = s.domainOf d := by
  unfold State.domainOf
  rw [h]

/-- Two domains set alike. -/
theorem State.domainOf_set_two (s : State) (a b : Nat) (x : Domain) (e : Nat) :
    ((s.setDomain a x).setDomain b x).domainOf e = if e = a ∨ e = b then x else s.domainOf e := by
  show ((s.power.domains.set a x).set b x).get _ e = _
  by_cases hb : e = b
  · rw [hb, Tab.get_set_same, if_pos (.inr rfl)]
  · rw [Tab.get_set_other _ _ _ hb]
    by_cases ha : e = a
    · rw [ha, Tab.get_set_same, if_pos (.inl rfl)]
    · rw [Tab.get_set_other _ _ _ ha, if_neg (by simp [ha, hb])]
      rfl

/-- A panel whose stages have latched off, before the report. -/
def State.latchOff (s : State) (p : Nat) (injected : Bool) : State :=
  (((s.setDomain (coreDomain p) ⟨.latchedOff, false, 0⟩).setDomain (memDomain p) ⟨.latchedOff, false, 0⟩).setPanelPower p
    { (s.panelPower p).unpowered with overcurrent := true, ocInjected := injected }).clearPanel p

theorem State.trip_eq (injected : Bool) : s.trip p.val injected =
    (((s.latchOff p.val injected).fire 0x0A05 p.val 4).emcyPower 0xFF62 0x0A05 p.val).declareLost p.val 3 s.beat.n := rfl

theorem State.latchOff_step {G : Nat} (hG : sub (maskOf [.tiles, .power]) G = true) (injected : Bool) : Step G s (s.latchOff p.val injected) :=
  State.clearPanel_step (State.setPanelPower_step (State.setDomain_step (State.setDomain_step (Step.refl G s) (sub_trans (by decide) hG))
    (sub_trans (by decide) hG)) (sub_trans (by decide) hG)) (sub_trans (by decide) hG)

theorem State.clearPanel_tiles (s : State) (p : Nat) : (s.clearPanel p).tiles = s.tiles.mapVals fun k t =>
    if keyPanel k = p then { tile0 with fenced := t.fenced } else t := rfl

theorem State.tilesCleared_clearPanel (s : State) (p : Nat) : s.tilesCleared p (s.clearPanel p) := by
  refine ⟨fun k hk st l => ?_, fun k hk => ?_⟩
  · rcases State.tileOf_of_mapVals (s.clearPanel_tiles p) k with ⟨h, hm⟩ | h
    · rw [h, State.tileOf_missing hm]
      rfl
    · rw [h, if_pos hk]
      rfl
  · rcases State.tileOf_of_mapVals (s.clearPanel_tiles p) k with ⟨h, -⟩ | h
    · exact h
    · rw [h, if_neg hk]

theorem State.latchOff_panel (injected : Bool) : (s.latchOff p.val injected).panelPower p.val =
    { (s.panelPower p.val).unpowered with overcurrent := true, ocInjected := injected } := State.panelPower_set_same ..

theorem State.latchOff_domain (injected : Bool) (e : Nat) : (s.latchOff p.val injected).domainOf e =
    if e = coreDomain p.val ∨ e = memDomain p.val then ⟨.latchedOff, false, 0⟩ else s.domainOf e :=
  (State.domainOf_congr (s := (s.setDomain (coreDomain p.val) ⟨.latchedOff, false, 0⟩).setDomain (memDomain p.val) ⟨.latchedOff, false, 0⟩)
    (by simp only [State.latchOff, State.setPanelPower, State.clearPanel]) e).trans (State.domainOf_set_two ..)

theorem State.tilesCleared_latchOff (injected : Bool) : s.tilesCleared p.val (s.latchOff p.val injected) :=
  State.tilesCleared_from (State.tilesCleared_clearPanel _ _) rfl

theorem settles_panelOvercurrent {sram : Bool} (hoff : (s.domainOf (if sram then memDomain p.val else coreDomain p.val)).st ≠ .off)
    (hlatch : (s.domainOf (if sram then memDomain p.val else coreDomain p.val)).st ≠ .latchedOff) :
    settles (.panelOvercurrent p sram) s (reportFields ++ ([.wafer, .suspects, .moves, .tiles, .power] : List Field)) fun u => s.firedMore u 0x0A05 ∧
      s.hasRaised u 0xFF62 0x0A05 ∧ u.panelLost p.val = true ∧ u.contentsLost p.val ∧ (u.panelPower p.val).overcurrent = true ∧
      (u.panelPower p.val).clears = (s.panelPower p.val).clears ∧ (u.panelPower p.val).ocInjected = s.injection.acting ∧
      ∀ e, u.domainOf e = if e = coreDomain p.val ∨ e = memDomain p.val then ⟨.latchedOff, false, 0⟩ else s.domainOf e := by
  have hx : exec (.panelOvercurrent p sram) s = .next (State.settle s (s.trip p.val s.injection.acting)) :=
    whenSettled_true (by simp [hoff, hlatch]) s _
  rw [State.trip_eq] at hx
  have hstep : Step (maskOf [.tiles, .power]) s (s.latchOff p.val s.injection.acting) := State.latchOff_step (sub_refl _) _
  have hpanel := State.latchOff_panel (s := s) (p := p) s.injection.acting
  have hdom := State.latchOff_domain (s := s) (p := p) s.injection.acting
  have htiles := State.tilesCleared_latchOff (s := s) (p := p) s.injection.acting
  generalize s.latchOff p.val s.injection.acting = a at hx hstep hpanel hdom htiles
  have hkeeps : s.keepsEmcy → (a.fire 0x0A05 p.val 4).keepsEmcy := fun h => (State.keepsEmcy_congr (by simp [hstep.up (by decide)])
    (State.setting_congr (by simp [hstep.od (by decide)]) _ _)).2 h
  have hpow : (((a.fire 0x0A05 p.val 4).emcyPower 0xFF62 0x0A05 p.val).declareLost p.val 3 s.beat.n).power = a.power := by
    rw [(State.declareLost_step (Step.refl 72075364412425394 _) (by decide)).power (by decide)]
    simp
  refine settles_step hx (State.declareLost_step (State.emcyPower_step (State.fire_step (hstep.mono (by decide)) (by decide)) (by decide)) (by decide))
    ⟨?_, ?_, State.panelLost_declareLost .., ⟨?_, ?_⟩, ?_, ?_, ?_, fun e => ?_⟩
  · have hf : s.firedMore (a.fire 0x0A05 p.val 4) 0x0A05 := State.firedMore_fire (hstep.det (by decide)) _ _ _
    exact State.firedMore_side (State.firedMore_side hf (State.emcyPower_report _ _ _ _) (by decide)) State.declareLost_side (by decide)
  · exact State.hasRaised_of_within (State.declareLost_within (fun h => (State.keepsEmcy_emcyPower _ _ _ _).2 (hkeeps h))
      (State.emcyPower_raises hkeeps (by decide) _) (by decide))
  · rw [State.panelPower_congr hpow, hpanel]
    rfl
  · exact (State.tilesCleared_declareLost (State.tilesCleared_congr htiles (by simp))).1
  · rw [State.panelPower_congr hpow, hpanel]
  · rw [State.panelPower_congr hpow, hpanel]
    rfl
  · rw [State.panelPower_congr hpow, hpanel]
  · rw [State.domainOf_congr (congrArg Power.domains hpow), hdom]

variable {a : Path} {v : Byte}

theorem settles_overcurrentClear (h : s.canWrite a 0x2922 (p.val + 1) = true) (hv : v.toNat = 1) (ho : (s.panelPower p.val).overcurrent = true)
    (hc : (s.panelPower p.val).ocInjected = true ∨ (s.panelPower p.val).clears < 3) :
    settles (.overcurrentClear a p v) s [.power] fun u =>
      s.panelTakes p.val { s.panelPower p.val with
        overcurrent := false, ocInjected := false, clears := (s.panelPower p.val).clears + flag (!(s.panelPower p.val).ocInjected) } u ∧
      ∀ e, u.domainOf e = if e = coreDomain p.val ∨ e = memDomain p.val then ⟨.off, false, 0⟩ else s.domainOf e := by
  have he : fxOvercurrentClear p v s = .ok (((s.setPanelPower p.val { s.panelPower p.val with
      overcurrent := false, ocInjected := false
      clears := (s.panelPower p.val).clears + flag (!(s.panelPower p.val).ocInjected) }).setDomain (coreDomain p.val) domain0).setDomain
        (memDomain p.val) domain0) := by
    unfold fxOvercurrentClear
    dsimp only
    rw [if_neg (by omega), if_neg (by simp [hv, ho]), if_neg (by rcases hc with hc | hc <;> simp [hc])]
    cases (s.panelPower p.val).ocInjected <;> rfl
  exact settles_step (State.odWriteSettled_ok h he)
    (State.setDomain_step (State.setDomain_step (State.setPanelPower_step (Step.refl _ s) (by decide)) (by decide)) (by decide))
    ⟨State.panelTakes_of rfl, State.domainOf_set_two (s.setPanelPower p.val _) _ _ _⟩

end

end Sys2Proof.Machine

namespace Sys2Proof.Proofs

open Sys2Proof.Machine

/-- Settles O51: a rail by its level and its unit, the latch by what it finds in the panel's record. -/
theorem railsAndLatches : Obligations.RailsAndLatches := by
  unfold Obligations.RailsAndLatches
  refine ⟨?_, fun s p sram => settles_panelOvercurrent, ?_⟩
  · intro s x hon r v det levels
    have hl : levels = railLevels x.rail := by
      dsimp only [levels, r]
      cases x.rail with
      | hem g dram => cases dram <;> rfl
      | _ => rfl
    rw [hl]
    refine ⟨fun hv => ⟨completes_railWarning_first hon hv, fun h => ?_⟩, completes_railWarning_back hon, fun h1 h2 => ?_, fun h => ?_,
      fun hat hv => settles_railReset hon hat hv rfl⟩
    · have hx := exec_railWarning_due hon
      rw [if_pos hv, if_neg h] at hx
      exact hx
    · have hx := exec_railWarning_due hon
      rw [if_neg (Nat.not_lt.2 h1), if_neg (Nat.not_lt.2 h2)] at hx
      exact hx
    · refine whenSettled_false ?_ s _
      rcases h with h | h
      · rw [show s.railAt x.rail = 2 from h]
        simp
      · rw [decide_eq_false (Nat.not_le.2 h), Bool.and_false]
  · intro s a p v h q c
    refine ⟨fun hv => ?_, fun hv => ?_, fun hv ho => ⟨fun hi hc => ?_, settles_overcurrentClear h hv ho⟩⟩
    · exact State.refusesWrite_settled (e := fxOvercurrentClear p v) rfl h (if_pos hv)
    · have he : fxOvercurrentClear p v s = .ok s := (if_neg (by omega)).trans (if_pos (by tauto))
      exact settles_step (State.odWriteSettled_ok h he) (Step.refl _ s) trivial
    · have he : fxOvercurrentClear p v s = .error 0x08000022 :=
        (if_neg (by omega)).trans ((if_neg (by simp [hv, show (s.panelPower p.val).overcurrent = true from ho])).trans (if_pos ⟨hi, hc⟩))
      exact State.refusesWrite_settled rfl h he

end Sys2Proof.Proofs
end

section
/-! The fall of every unit: what `powerGone` leaves, and what an orderly shutdown reports. -/

namespace Sys2Proof.Machine

/-! ### Cells kept by their key -/

theorem Tab.find_keep_key {α : Type} (t : Tab α) (f : Nat → Bool) {k : Nat} (h : f k = true) : (t.keep fun k _ => f k).find k = t.find k := by
  obtain ⟨l⟩ := t
  show findCell k (l.filter fun c => f c.1) = findCell k l
  induction l with
  | nil => rfl
  | cons c r ih =>
    obtain ⟨j, v⟩ := c
    by_cases hj : j = k
    · subst hj
      rw [List.filter_cons_of_pos (p := fun c : Nat × α => f c.1) h, findCell, findCell, if_pos rfl, if_pos rfl]
    · rw [show findCell k ((j, v) :: r) = findCell k r from if_neg hj, ← ih, List.filter_cons]
      split
      · exact if_neg hj
      · rfl

section

variable {s : State}

/-! ### Power gone (R351, R355, R384) -/

theorem State.cell_powerGone {i j : Nat} (hj : j < 256) (h : yokeServed i = false) : s.powerGone.cell i j = s.cell i j := by
  have hk : (!yokeServed (odKey i j / 256)) = true := by
    rw [show odKey i j / 256 = i by unfold odKey; omega, h]
    rfl
  unfold State.cell Tab.get
  rw [show s.powerGone.od = s.od.keep fun k _ => !yokeServed (k / 256) from rfl, Tab.find_keep_key _ _ hk]

theorem State.setting_powerGone {i j : Nat} (hj : j < 256) (h : yokeServed i = false) : s.powerGone.setting i j = s.setting i j := by
  have hk : (!yokeServed (odKey i j / 256)) = true := by
    rw [show odKey i j / 256 = i by unfold odKey; omega, h]
    rfl
  unfold State.setting Tab.get
  rw [show s.powerGone.od = s.od.keep fun k _ => !yokeServed (k / 256) from rfl, Tab.find_keep_key _ _ hk]

theorem State.powerGone_calm {D : List Nat} {s0 : State} (h : Calm D s0 s) : Calm D s0 s.powerGone :=
  ⟨fun d hd => h.det d hd, h.out, (State.setting_powerGone (by decide) (by decide)).trans h.emcy⟩

theorem State.powerGone_keepsEmcy : s.powerGone.keepsEmcy ↔ s.keepsEmcy :=
  State.keepsEmcy_congr rfl (State.setting_powerGone (by decide) (by decide))

theorem State.powerGone_domains : s.domainsFall s.powerGone := fun d => by
  unfold State.domainOf Tab.get
  rw [show s.powerGone.power.domains = s.power.domains.mapVals fun _ d => if d.st = .latchedOff then { d with wanted := false } else domain0 from rfl,
    Tab.find_mapVals]
  cases s.power.domains.find d with
  | none => rfl
  | some x =>
    show (if x.st = .latchedOff then { x with wanted := false } else domain0).st = if x.st = .latchedOff then _ else _
    split <;> simp_all [domain0]

end

/-! ### Ports that fall -/

section

variable {s s0 : State} {code det n p : Nat}

theorem State.raisedWithin_le {t : State} {m : Nat} (h : s.raisedWithin t code det n) (hm : n ≤ m) : s.raisedWithin t code det m := fun hk => by
  obtain ⟨pre, rest, ht, hlen⟩ := h hk
  exact ⟨pre, rest, ht, hlen.trans hm⟩

theorem State.netReset_ports {q : Nat} (hq : q ≠ p) : (s.netReset p).portOf q = s.portOf q := by
  unfold State.netReset
  split
  · have hp : (s.portDown p).ports = s.ports.set p { s.portOf p with link := false, downs := ((s.portOf p).downs + 1) % 256, queues := .empty } := by
      rw [State.portDown_eq]
      simp [State.portFell, State.portCount, State.setPort]
    unfold State.portOf
    rw [hp, Tab.get_set_other _ _ _ hq]
  · rfl

theorem State.netReset_keepsEmcy : (s.netReset p).keepsEmcy ↔ s.keepsEmcy := by
  refine State.keepsEmcy_congr ?_ (State.netReset_calm sideDets_fall (by decide) (Calm.refl fallDets s) p).emcy
  rw [(State.netReset_step (Step.refl 74889938085872816 s) (by decide)).up (by decide)]

theorem State.netReset_within (hk : s0.keepsEmcy → s.keepsEmcy) (hw : s0.raisedWithin s code det n) (hn : (s.portOf p).link = true → n < 7) :
    s0.raisedWithin (s.netReset p) code det (n + flag (s.portOf p).link) := by
  unfold State.netReset
  split
  · rename_i hl
    rw [hl, State.portDown_eq]
    exact State.emcyEvent_within (fun h => (State.portFell_keepsEmcy _).2 (hk h))
      (State.raisedWithin_congr hw (by simp [State.portFell, State.portCount])) (hn hl) (by decide) _ _
  · exact State.raisedWithin_le hw (Nat.le_add_right _ _)

/-- The ports of a list whose links are up. -/
def State.linksOf (s : State) (l : List Nat) : Nat := (l.filter fun p => (s.portOf p).link).length

theorem State.linksOf_congr {t : State} (h : t.ports = s.ports) (l : List Nat) : t.linksOf l = s.linksOf l := by
  unfold State.linksOf State.portOf
  rw [h]

theorem State.linksUp_eq : s.linksOf (List.range 8).reverse = s.linksUp := by
  unfold State.linksOf State.linksUp
  rw [List.filter_reverse, List.length_reverse]

theorem State.linksOf_cons (a : Nat) (l : List Nat) : s.linksOf (a :: l) = flag (s.portOf a).link + s.linksOf l := by
  unfold State.linksOf
  rw [List.filter_cons]
  cases (s.portOf a).link
  · simp [flag]
  · rw [if_pos rfl, List.length_cons, Nat.add_comm]
    rfl

theorem State.linksOf_netReset {l : List Nat} (h : p ∉ l) : (s.netReset p).linksOf l = s.linksOf l := by
  unfold State.linksOf
  rw [List.filter_congr fun q (hq : q ∈ l) => congrArg Port.link (State.netReset_ports (ne_of_mem_of_not_mem hq h))]

/-- An EMCY message stays in the history behind those of the links that fall. -/
theorem State.netResets_within {l : List Nat} (hl : l.Nodup) : ∀ {s : State} {n : Nat}, (s0.keepsEmcy → s.keepsEmcy) →
    s0.raisedWithin s code det n → n + s.linksOf l ≤ 7 → s0.raisedWithin (each l State.netReset s) code det (n + s.linksOf l) := by
  induction l with
  | nil => exact fun _ h _ => h
  | cons a r ih =>
    intro s n hk hw hn
    obtain ⟨ha, hr⟩ := List.nodup_cons.1 hl
    rw [State.linksOf_cons, ← State.linksOf_netReset ha, ← Nat.add_assoc] at hn ⊢
    refine ih hr (fun h => State.netReset_keepsEmcy.2 (hk h)) (State.netReset_within hk hw fun hlink => ?_) hn
    rw [hlink] at hn
    unfold flag at hn
    simp only [if_true] at hn
    omega

/-! ### Every unit off (R353, R355) -/

theorem State.unitsOff_eq : s.unitsOff =
    each (List.range 16).reverse State.flashDown (((each (List.range 8).reverse State.netReset s).linkDrop .hostB).linkDrop .hostA) := rfl

theorem State.unitsOff_calm {D : List Nat} (hD : ∀ d ∈ fallDets, d ∈ D) (h : Calm D s0 s) : Calm D s0 s.unitsOff := by
  have hs : ∀ d ∈ sideDets, d ∈ D := fun d hd => hD d (sideDets_fall d hd)
  rw [State.unitsOff_eq]
  exact Calm.each _ (State.linkDrop_calm (hD _ (by decide)) (State.linkDrop_calm (hD _ (by decide))
    (Calm.each _ h fun _ _ hu => State.netReset_calm hs (hD _ (by decide)) hu _) _) _)
    fun _ _ hu => State.flashDown_calm hs hu (hD _ (by decide)) _

theorem State.unitsOff_can : s.unitsOff.can = (each (List.range 8).reverse State.netReset s).can := by
  rw [State.unitsOff_eq]
  generalize each (List.range 8).reverse State.netReset s = x
  exact (each_step (State.linkDrop_step (State.linkDrop_step (Step.refl 216204278121647288 x) (by decide)) (by decide))
    fun u _ hu => State.flashDown_step hu (by decide)).can (by decide)

theorem State.unitsOff_within (hk : s0.keepsEmcy → s.keepsEmcy) (hw : s0.raisedWithin s code det n) (hn : n + s.linksUp ≤ 7) :
    s0.raisedWithin s.unitsOff code det (n + s.linksUp) := by
  rw [← State.linksUp_eq] at hn ⊢
  exact State.raisedWithin_congr (State.netResets_within (List.nodup_reverse.2 List.nodup_range) hk hw hn) State.unitsOff_can

/-! ### An orderly shutdown (R355) -/

/-- Every job closed and every unit off after the shutdown's message. -/
def State.wound (s : State) (cause det : Nat) : State := (s.emcyPower 0xFF69 det cause).closeAllJobs.unitsOff

/-- The domains off, with the operator needed. -/
def State.shutOff (x : State) : State :=
  { x.powerGone with
    power := { x.powerGone.power with needRequest := true }, up := { x.powerGone.up with phase := .shutdown, step := 6 } }

variable {cause : Nat}

theorem State.shutOff_can (x : State) : x.shutOff.can = x.can := rfl

theorem State.shutOff_calm {D : List Nat} {x : State} (h : Calm D s0 x) : Calm D s0 x.shutOff := (State.powerGone_calm h).put rfl rfl rfl

theorem State.orderlyShutdown_off (h : (s.domainOf 0).st = .off) : s.orderlyShutdown cause det = s := if_pos h

/-- What the log does not tell of a shutdown is that of its last step. -/
theorem State.orderlyShutdown_same {β : Type} (g : State → β) (hg : ∀ (x : State) a b c, g (x.logAct a b c) = g x) (h : (s.domainOf 0).st ≠ .off) :
    g (s.orderlyShutdown cause det) = g (s.wound cause det).shutOff := by
  have hx : s.orderlyShutdown cause det = if det = 0 then (s.wound cause det).shutOff else (s.wound cause det).shutOff.logAct det 0 9 := by
    unfold State.orderlyShutdown
    rw [if_neg h]
    unfold State.shutOff State.wound
    generalize State.unitsOff _ = x
    rfl
  rw [hx]
  split
  · rfl
  · exact hg _ _ _ _

theorem State.wound_calm {D : List Nat} (hD : ∀ d ∈ fallDets, d ∈ D) (h : Calm D s0 s) : Calm D s0 (s.wound cause det) := by
  have hs : ∀ d ∈ sideDets, d ∈ D := fun d hd => hD d (sideDets_fall d hd)
  exact State.unitsOff_calm hD (State.closeAllJobs_calm hs (State.emcyPower_calm hs h _ _ _))

theorem State.orderlyShutdown_calm {D : List Nat} (hD : ∀ d ∈ fallDets, d ∈ D) (h : Calm D s0 s) : Calm D s0 (s.orderlyShutdown cause det) := by
  by_cases hoff : (s.domainOf 0).st = .off
  · rw [State.orderlyShutdown_off hoff]
    exact h
  · have hx : Calm D s0 (s.wound cause det).shutOff := State.shutOff_calm (State.wound_calm hD h)
    exact hx.put (State.orderlyShutdown_same State.det (fun _ _ _ _ => State.logAct_det _) hoff)
      (State.orderlyShutdown_same State.od (fun _ _ _ _ => State.logAct_od _) hoff)
      (State.orderlyShutdown_same State.out (fun _ _ _ _ => State.logAct_out _) hoff)

theorem State.closeAllJobs_same : s.closeAllJobs.can = s.can ∧ s.closeAllJobs.ports = s.ports ∧ s.closeAllJobs.up = s.up ∧ s.closeAllJobs.power = s.power := by
  have h := State.closeAllJobs_step (Step.refl 72467326340918408 s) (by decide)
  exact ⟨h.can (by decide), h.ports (by decide), h.up (by decide), h.power (by decide)⟩

theorem State.closeAllJobs_keepsEmcy : s.closeAllJobs.keepsEmcy ↔ s.keepsEmcy :=
  State.keepsEmcy_congr (by rw [State.closeAllJobs_same.2.2.1]) (State.closeAllJobs_calm sideDets_fall (Calm.refl fallDets s)).emcy

theorem State.orderlyShutdown_can (h : (s.domainOf 0).st ≠ .off) : (s.orderlyShutdown cause det).can = (s.wound cause det).can :=
  (State.orderlyShutdown_same State.can (fun _ _ _ _ => State.logAct_can _) h).trans (State.shutOff_can _)

/-- A shutdown's message stands in the history behind those of the links that fall. -/
theorem State.orderlyShutdown_raised (h : (s.domainOf 0).st ≠ .off) (hk : s0.keepsEmcy → s.keepsEmcy) (hn : s.linksUp ≤ 7) :
    s0.hasRaised (s.orderlyShutdown cause det) 0xFF69 det := by
  have hl : (s.emcyPower 0xFF69 det cause).closeAllJobs.linksUp = s.linksUp := by
    rw [← State.linksUp_eq, ← State.linksUp_eq]
    exact State.linksOf_congr (State.closeAllJobs_same.2.1.trans (State.emcyPower_ports ..)) _
  refine State.hasRaised_of_within (State.raisedWithin_congr (n := 0 + s.linksUp) (t := s.wound cause det) ?_ (State.orderlyShutdown_can h))
  rw [← hl]
  exact State.unitsOff_within (fun h => State.closeAllJobs_keepsEmcy.2 ((State.keepsEmcy_emcyPower _ _ _ _).2 (hk h)))
    (State.raisedWithin_congr (State.emcyPower_raises hk (by decide) _) State.closeAllJobs_same.1) (by rw [hl]; omega)

/-- So does an earlier message, behind the shutdown's own. -/
theorem State.orderlyShutdown_within (hk : s0.keepsEmcy → s.keepsEmcy) {code d : Nat} (hw : s0.raisedWithin s code d n) (hn : n < 7)
    (hl : (s.domainOf 0).st = .off ∨ n + 1 + s.linksUp ≤ 7) : s0.raisedWithin (s.orderlyShutdown cause det) code d 7 := by
  by_cases h : (s.domainOf 0).st = .off
  · rw [State.orderlyShutdown_off h]
    exact State.raisedWithin_le hw (by omega)
  · have hp : (s.emcyPower 0xFF69 det cause).closeAllJobs.linksUp = s.linksUp := by
      rw [← State.linksUp_eq, ← State.linksUp_eq]
      exact State.linksOf_congr (State.closeAllJobs_same.2.1.trans (State.emcyPower_ports ..)) _
    have hle := hl.resolve_left h
    refine State.raisedWithin_congr (t := s.wound cause det) ?_ (State.orderlyShutdown_can h)
    rw [← hp] at hle
    exact State.raisedWithin_le (State.unitsOff_within
      (fun h => State.closeAllJobs_keepsEmcy.2 ((State.keepsEmcy_emcyPower _ _ _ _).2 (hk h)))
      (State.raisedWithin_congr (State.emcyEvent_within hk hw hn (by decide) _ _) State.closeAllJobs_same.1) hle) hle

theorem State.wound_power : (s.wound cause det).power = s.power ∧ (s.wound cause det).up.absentAt = s.up.absentAt := by
  have h := State.unitsOff_step (Step.refl 219019028970884280 (s.emcyPower 0xFF69 det cause).closeAllJobs) (by decide)
  obtain ⟨-, -, hu, hp⟩ := State.closeAllJobs_same (s := s.emcyPower 0xFF69 det cause)
  exact ⟨(h.power (by decide)).trans (hp.trans (State.emcyPower_power ..)), by
    rw [show (s.wound cause det).up = _ from h.up (by decide), hu, State.emcyPower_up]⟩

/-- What a shutdown leaves of the units, the report aside. -/
theorem State.orderlyShutdown_shutDown (h : (s.domainOf 0).st ≠ .off) (hk : s0.keepsEmcy → s.keepsEmcy) (hp : s.ports = s0.ports)
    (hd : s.power.domains = s0.power.domains) : s0.shutDown (s.orderlyShutdown cause det) det := by
  have same := fun {β : Type} (g : State → β) hg => State.orderlyShutdown_same (s := s) (cause := cause) (det := det) g hg h
  refine ⟨fun hl => State.orderlyShutdown_raised h hk ?_,
    same State.jobs fun _ _ _ _ => State.logAct_jobs _, same State.lists fun _ _ _ _ => State.logAct_lists _,
    same State.sessions fun _ _ _ _ => State.logAct_sessions _, same State.frames fun _ _ _ _ => State.logAct_frames _,
    same State.dram fun _ _ _ _ => State.logAct_dram _, same State.attach fun _ _ _ _ => State.logAct_attach _,
    same State.plans fun _ _ _ _ => State.logAct_plans _, same State.conns fun _ _ _ _ => State.logAct_conns _,
    same State.ports fun _ _ _ _ => State.logAct_ports _, same State.nodes fun _ _ _ _ => State.logAct_nodes _,
    same (fun x => x.up.yoke) fun x a b c => by rw [State.logAct_up],
    same (fun x => x.power.needRequest) fun x a b c => by rw [State.logAct_power], fun d => ?_⟩
  · rwa [← State.linksUp_eq, State.linksOf_congr hp, State.linksUp_eq]
  · rw [State.domainOf_congr (s := (s.wound cause det).powerGone) (same (fun x => x.power.domains) fun x a b c => by rw [State.logAct_power]) d,
      State.powerGone_domains d, State.domainOf_congr (s := s0) (by rw [State.wound_power.1, hd])]

theorem State.orderlyShutdown_phase (h : (s.domainOf 0).st ≠ .off) : (s.orderlyShutdown cause det).up.phase = .shutdown ∧
    (s.orderlyShutdown cause det).up.step = 6 :=
  ⟨State.orderlyShutdown_same (fun x => x.up.phase) (fun x a b c => by rw [State.logAct_up]) h,
    State.orderlyShutdown_same (fun x => x.up.step) (fun x a b c => by rw [State.logAct_up]) h⟩

end

end Sys2Proof.Machine
end

section
/-! Proofs about the inputs and the clocks. -/

namespace Sys2Proof.Machine

/-! ### The main input (R350, R351) -/

/-- In Cut, Reversed and Absent nothing feeds the domains. -/
def inputDead (st : InputState) : Bool := st == .cut || st == .reversed || st == .absent

/-- The detector that a state of the main input fires, 0 for none. -/
def inputDet (st : InputState) : Nat := if st = .reversed then 0x0A09 else if st = .low ∨ st = .high ∨ st = .cut then 0x0A08 else 0

/-- The state and voltage of the main input are taken. -/
def State.inputTaken (s : State) (st : InputState) (mv : Nat) : State :=
  { s with power := { s.power with input := st, inputMv := mv, rangeAt := if st = InputState.inRange then some s.now else none } }

/-- What the fall of the domains with the main input leaves. -/
def State.inputLost (s : State) (st : InputState) : State :=
  { s.powerGone with
    power := { s.powerGone.power with needRequest := s.powerGone.power.needRequest || st == InputState.cut }
    up := { s.powerGone.up with
      phase := if s.powerGone.up.phase = Phase.recovery ∨ s.powerGone.up.collar = false then s.powerGone.up.phase else .waiting
      step := if s.powerGone.up.collar then 6 else s.powerGone.up.step } }

/-- The report of the main input's state. -/
def State.inputReport (s : State) (st : InputState) : State :=
  (if inputDet st = 0 then s else s.fire (inputDet st) 0 0).emcyPower 0xFF66 (inputDet st) (inputNum st)

section

variable {s s0 : State} {st : InputState} {mv : Nat}

/-- What a state of the main input takes down. -/
def State.inputFalls (s : State) (st : InputState) (mv : Nat) : State :=
  if inputDead st then (s.inputTaken st mv).inputLost st else s.inputTaken st mv

theorem State.inputState_eq (s : State) (st : InputState) (mv : Nat) : s.inputState st mv =
    if (s.inputFalls st mv).power.fed then (s.inputFalls st mv).inputReport st else (s.inputFalls st mv).collarStops .supply := by
  unfold State.inputState State.inputReport State.inputFalls State.inputLost State.inputTaken
  cases st <;> rfl

theorem State.inputFalls_live (h : inputDead st = false) : s.inputFalls st mv = s.inputTaken st mv := if_neg (by rw [h]; decide)

theorem State.inputFalls_dead (h : inputDead st = true) : s.inputFalls st mv = (s.inputTaken st mv).inputLost st := if_pos h

theorem State.inputLost_keepsEmcy : (s.inputLost st).keepsEmcy ↔ s.keepsEmcy :=
  (State.keepsEmcy_congr (s := s.powerGone) rfl (State.setting_congr rfl _ _)).trans State.powerGone_keepsEmcy

theorem State.inputReport_raised (hk : s0.keepsEmcy → s.keepsEmcy) : s0.hasRaised (s.inputReport st) 0xFF66 (inputDet st) := by
  refine State.hasRaised_of_within (State.emcyPower_raises (fun h => ?_) (by decide) _)
  split
  · exact hk h
  · exact (State.keepsEmcy_congr (by simp) (State.setting_congr (by simp) _ _)).2 (hk h)

theorem State.inputReport_fired (hd : s.det = s0.det) (h : inputDet st ≠ 0) : s0.firedMore (s.inputReport st) (inputDet st) := by
  unfold State.inputReport
  rw [if_neg h]
  refine State.firedMore_side (State.firedMore_fire hd _ _ _) (State.emcyPower_report _ _ _ _) ?_
  cases st <;> decide

theorem State.inputReport_step {G : Nat} (h : Step G s0 s) (hG : sub (maskOf reportFields) G = true) : Step G s0 (s.inputReport st) := by
  unfold State.inputReport
  refine State.emcyPower_step ?_ (sub_trans (by decide) hG)
  split
  · exact h
  · exact State.fire_step h (sub_trans (by decide) hG)

theorem State.inputReport_keeps : (s.inputReport st).power = s.power ∧ (s.inputReport st).jobs = s.jobs ∧ (s.inputReport st).dram = s.dram := by
  unfold State.inputReport
  split <;> simp

/-- With neither input the collar has no power. -/
theorem State.unpowers_collarStops (hd : s.det = s0.det) (hc : s.can = s0.can) : s0.unpowers (s.collarStops .supply) :=
  ⟨rfl, rfl, rfl, rfl, rfl, hd, (show (s.collarStops .supply).can.history = s.can.history from rfl).trans (congrArg Can.history hc)⟩

theorem Power.fed_iff (p : Power) : p.fed = true ↔
    (p.input ≠ .absent ∧ p.input ≠ .reversed) ∨ p.standbyOut = false ∨ 5000 ≤ p.standbyMv := by
  unfold Power.fed
  cases p.standbyOut <;> simp

/-- How a voltage that names a state is taken, unless it keeps the main input in Cut. -/
theorem execMainInput_enters {w : W16} (hc : ¬ (s.power.input = .cut ∧ (st = .cut ∨ st = .low ∨ st = .high ∨ st = .inRange)))
    (hne : st ≠ s.power.input) (he : s.inputEnters st w.toNat = true) :
    exec (.mainInputStateChange st w) s = .next (State.settle s (s.inputState st w.toNat)) :=
  (if_neg hc).trans ((if_neg hne).trans (whenSettled_true he s _))

theorem settles_inputLive {w : W16} (hc : s.power.input ≠ .cut) (hne : st ≠ s.power.input) (he : s.inputEnters st w.toNat = true)
    (hlive : inputDead st = false) : settles (.mainInputStateChange st w) s (reportFields ++ ([.power] : List Field)) fun u =>
      s.hasRaised u 0xFF66 (inputDet st) ∧ (inputDet st ≠ 0 → s.firedMore u (inputDet st)) ∧
        u.power = { s.power with input := st, inputMv := w.toNat, rangeAt := if st = .inRange then some s.now else none } := by
  have hx := execMainInput_enters (fun h => hc h.1) hne he
  have hfed : (s.inputTaken st w.toNat).power.fed = true := by
    refine (Power.fed_iff _).2 (.inl ⟨?_, ?_⟩) <;> intro h <;> rw [show st = _ from h] at hlive <;> cases hlive
  rw [State.inputState_eq, State.inputFalls_live hlive, if_pos hfed] at hx
  have hk : s.keepsEmcy → (s.inputTaken st w.toNat).keepsEmcy := fun h => h
  have hstep : Step (maskOf (reportFields ++ [.power])) s (s.inputTaken st w.toNat) :=
    (Step.refl _ s).put (F := 4503599627370496) (by decide) rfl fun v => ⟨v.1, v.2, v.3, v.4, v.5, v.6, v.7⟩
  exact settles_step hx (State.inputReport_step hstep (by decide))
    ⟨State.inputReport_raised hk, State.inputReport_fired rfl, State.inputReport_keeps.1⟩

theorem settles_inputDead {w : W16} (hc : ¬ (s.power.input = .cut ∧ (st = .cut ∨ st = .low ∨ st = .high ∨ st = .inRange)))
    (hne : st ≠ s.power.input) (he : s.inputEnters st w.toNat = true) (hdead : inputDead st = true) :
    settles (.mainInputStateChange st w) s (fallFields ++ ([.injection, .fw] : List Field)) fun u => u.power.input = st ∧ u.power.inputMv = w.toNat ∧
      u.power.needRequest = (s.power.needRequest || decide (st = .cut)) ∧ u.up.yoke = false ∧ u.jobs = .empty ∧ u.dram = .empty ∧
      (∀ d, (u.domainOf d).st = if (s.domainOf d).st = .latchedOff then .latchedOff else .off) ∧
      ((st = .cut ∨ s.power.standbyOut = false ∨ 5000 ≤ s.power.standbyMv) → s.hasRaised u 0xFF66 (inputDet st) ∧
        (inputDet st ≠ 0 → s.firedMore u (inputDet st))) ∧
      (¬ (st = .cut ∨ s.power.standbyOut = false ∨ 5000 ≤ s.power.standbyMv) → s.unpowers u) := by
  have hx := execMainInput_enters hc hne he
  have hfed : (s.inputFalls st w.toNat).power.fed = true ↔ st = .cut ∨ s.power.standbyOut = false ∨ 5000 ≤ s.power.standbyMv := by
    rw [State.inputFalls_dead hdead, Power.fed_iff]
    show (st ≠ .absent ∧ st ≠ .reversed) ∨ s.power.standbyOut = false ∨ 5000 ≤ s.power.standbyMv ↔ _
    cases st <;> simp_all [inputDead]
  have hstep : Step (maskOf (fallFields ++ [.injection, .fw])) s (s.inputFalls st w.toNat) := by
    rw [State.inputFalls_dead hdead]
    have h1 : Step (maskOf (fallFields ++ [.injection, .fw])) s (s.inputTaken st w.toNat) :=
      (Step.refl _ s).put (F := 4503599627370496) (by decide) rfl fun v => ⟨v.1, v.2, v.3, v.4, v.5, v.6, v.7⟩
    exact (State.powerGone_step h1 (by decide)).put (F := 13510798882111488) (by decide) rfl
      fun v => ⟨v.1, v.2, v.3, v.4, v.5, v.6, v.7⟩
  have hdom : s.domainsFall (s.inputFalls st w.toNat) := by
    rw [State.inputFalls_dead hdead]
    exact State.powerGone_domains (s := s.inputTaken st w.toNat)
  have hk : s.keepsEmcy → (s.inputFalls st w.toNat).keepsEmcy := fun h => by
    rw [State.inputFalls_dead hdead]
    exact State.inputLost_keepsEmcy.2 h
  have hrest : (s.inputFalls st w.toNat).power.input = st ∧ (s.inputFalls st w.toNat).power.inputMv = w.toNat ∧
      (s.inputFalls st w.toNat).power.needRequest = (s.power.needRequest || decide (st = .cut)) ∧ (s.inputFalls st w.toNat).up.yoke = false ∧
      (s.inputFalls st w.toNat).jobs = .empty ∧ (s.inputFalls st w.toNat).dram = .empty ∧ (s.inputFalls st w.toNat).det = s.det ∧
      (s.inputFalls st w.toNat).can = s.can := by
    rw [State.inputFalls_dead hdead]
    refine ⟨rfl, rfl, ?_, rfl, rfl, rfl, rfl, rfl⟩
    exact congrArg (s.power.needRequest || ·) (by cases st <;> rfl)
  rw [State.inputState_eq] at hx
  generalize s.inputFalls st w.toNat = b at *
  obtain ⟨hin, hmv, hneed, hyoke, hjobs, hdram, hdet, hcan⟩ := hrest
  by_cases hf : b.power.fed = true
  · rw [if_pos hf] at hx
    obtain ⟨hp, hj, hd⟩ := State.inputReport_keeps (s := b) (st := st)
    have hup : (b.inputReport st).up.yoke = b.up.yoke := by
      unfold State.inputReport
      split <;> simp
    refine settles_step hx (State.inputReport_step hstep (by decide)) ⟨by rw [hp, hin], by rw [hp, hmv], by rw [hp, hneed], hup.trans hyoke,
      hj.trans hjobs, hd.trans hdram, fun d => ?_, fun _ => ⟨State.inputReport_raised hk, State.inputReport_fired hdet⟩, fun h => absurd (hfed.1 hf) h⟩
    rw [State.domainOf_congr (congrArg Power.domains hp), hdom d]
  · rw [if_neg hf] at hx
    refine settles_step hx (State.collarStops_step hstep (by decide)) ⟨hin, hmv, hneed, rfl, rfl, rfl, fun d => ?_, fun h => absurd (hfed.2 h) hf,
      fun _ => State.unpowers_collarStops hdet hcan⟩
    have h2 := State.powerGone_domains (s := b) d
    rw [hdom d] at h2
    refine (congrArg Domain.st (State.domainOf_congr (s := b.powerGone) rfl d)).trans (h2.trans ?_)
    split <;> simp_all

theorem State.putPower_step {G : Nat} (hG : sub (maskOf [.power]) G = true) (p : Power) : Step G s { s with power := p } :=
  (Step.refl _ s).put (F := 4503599627370496) hG rfl fun v => ⟨v.1, v.2, v.3, v.4, v.5, v.6, v.7⟩

/-- In Cut a voltage is kept, and one in range begins its 100 ms or goes on with them. -/
theorem completes_cutVoltage {w : W16} (hc : s.power.input = .cut) (hst : st = .cut ∨ st = .low ∨ st = .high ∨ st = .inRange) (hv : 5000 ≤ w.toNat)
    (hr : st = .inRange ↔ 40000 ≤ w.toNat ∧ w.toNat ≤ 60000) : completes (.mainInputStateChange st w) s [.power] fun t => t.power =
      { s.power with inputMv := w.toNat
                     rangeAt := if st = .inRange then (if s.power.rangeAt.isSome then s.power.rangeAt else some s.now) else none } := by
  have hgood : (decide (40000 ≤ w.toNat) && decide (w.toNat ≤ 60000)) = decide (st = .inRange) := by
    rw [← Bool.decide_and]
    exact decide_eq_decide.2 hr.symm
  have hdue : (s.inputHolds w.toNat && (decide (40000 ≤ w.toNat) && decide (w.toNat ≤ 60000)) == (st == .inRange)) = true := by
    rw [hgood]
    simp only [State.inputHolds, hc, decide_eq_true hv, Bool.true_and]
    cases st <;> rfl
  refine completes_step ((if_pos ⟨hc, hst⟩).trans (whenDue_true hdue s _)) (State.putPower_step (by decide) _) ?_
  show ({ s.power with inputMv := w.toNat, rangeAt := _ } : Power) = _
  rw [hgood]
  cases st <;> cases s.power.rangeAt <;> rfl

/-- A voltage within the state's limits keeps the state. -/
theorem inputHolds_same {v : Nat} (hst : st = s.power.input) (h : (st = .inRange ∧ 40000 ≤ v ∧ v ≤ 60000) ∨ (st = .low ∧ 38000 ≤ v ∧ v ≤ 41000) ∨
    (st = .high ∧ 59000 ≤ v ∧ v ≤ 61000) ∨ st = .reversed ∨ (st = .absent ∧ v ≤ 40000)) : s.inputHolds v = true := by
  unfold State.inputHolds
  rw [← hst]
  rcases h with ⟨rfl, h1, h2⟩ | ⟨rfl, h1, h2⟩ | ⟨rfl, h1, h2⟩ | rfl | ⟨rfl, h1⟩
  · exact Bool.and_eq_true_iff.2 ⟨decide_eq_true h1, decide_eq_true h2⟩
  · exact Bool.and_eq_true_iff.2 ⟨decide_eq_true h1, decide_eq_true h2⟩
  · exact Bool.and_eq_true_iff.2 ⟨decide_eq_true h1, decide_eq_true h2⟩
  · rfl
  · exact decide_eq_true h1

theorem inputEnters_range {v : Nat} (h1 : 40000 ≤ v) (h2 : v ≤ 60000) (hl : s.power.input = .low → 41000 < v)
    (hh : s.power.input = .high → v < 59000) (ha : s.power.input = .absent → 40000 < v) : s.inputEnters .inRange v = true := by
  simp only [State.inputEnters, decide_eq_true h1, decide_eq_true h2, Bool.true_and]
  cases h : s.power.input with
  | low => exact decide_eq_true (hl h)
  | high => exact decide_eq_true (hh h)
  | absent => exact decide_eq_true (ha h)
  | _ => rfl

/-! ### The standby input (R350, R351) -/

/-- The standby's voltage is out of range. -/
def standbyOutOf (mv : W16) : Bool := decide (mv.toNat < 10800) || decide (13200 < mv.toNat)

/-- The standby's voltage is taken. -/
def State.standbyTaken (s : State) (mv : W16) : State := { s with power := { s.power with standbyMv := mv.toNat, standbyOut := standbyOutOf mv } }

theorem State.standbyTaken_step {w : W16} {G : Nat} (hG : sub (maskOf [.power]) G = true) : Step G s (s.standbyTaken w) :=
  (Step.refl _ s).put (F := 4503599627370496) hG rfl fun v => ⟨v.1, v.2, v.3, v.4, v.5, v.6, v.7⟩

theorem State.standbyTaken_fed {w : W16} : (s.standbyTaken w).power.fed = true ↔
    (s.power.input ≠ .absent ∧ s.power.input ≠ .reversed) ∨ 5000 ≤ w.toNat := by
  rw [Power.fed_iff]
  refine or_congr_right ?_
  show standbyOutOf w = false ∨ 5000 ≤ w.toNat ↔ 5000 ≤ w.toNat
  unfold standbyOutOf
  simp only [Bool.or_eq_false_iff, decide_eq_false_iff_not]
  omega

theorem execStandby_eq {w : W16} : exec (.standbyInputFault w) s = .next (State.settle s
    (if s.power.fed && !(s.standbyTaken w).power.fed then (s.standbyTaken w).collarStops .supply
     else if standbyOutOf w && !s.power.standbyOut && (s.standbyTaken w).power.fed then (s.standbyTaken w).fire 0x0A0A 0 0
     else s.standbyTaken w)) := whenSettled_true rfl s _

theorem settles_standbyGone {w : W16} (hwas : s.power.fed = true) (his : (s.standbyTaken w).power.fed = false) (hv : w.toNat < 5000) :
    settles (.standbyInputFault w) s (fallFields ++ ([.injection, .fw] : List Field)) fun u => s.unpowers u ∧ u.power.standbyMv = w.toNat ∧
      u.power.standbyOut = true ∧ u.jobs = .empty := by
  have hx := execStandby_eq (s := s) (w := w)
  rw [hwas, his, if_pos (by decide)] at hx
  have hout : standbyOutOf w = true := by
    unfold standbyOutOf
    rw [decide_eq_true (by omega)]
    rfl
  exact settles_step hx (State.collarStops_step (State.standbyTaken_step (by decide)) (by decide))
    ⟨State.unpowers_collarStops rfl rfl, rfl, hout, rfl⟩

theorem settles_standbyFault {w : W16} (his : (s.standbyTaken w).power.fed = true) (hout : standbyOutOf w = true)
    (hin : s.power.standbyOut = false) : settles (.standbyInputFault w) s (reportFields ++ ([.power] : List Field)) fun u =>
      u.power = { s.power with standbyMv := w.toNat, standbyOut := standbyOutOf w } ∧ s.firedOnce 0x0A0A u := by
  have hx := execStandby_eq (s := s) (w := w)
  rw [his, hin, hout, Bool.not_true, Bool.and_false, if_neg (by decide), if_pos (by decide)] at hx
  exact settles_step hx (State.fire_step (State.standbyTaken_step (by decide)) (by decide))
    ⟨State.fire_power .., State.firedOnce_fire (x := s.standbyTaken w) rfl rfl _ _ _⟩

theorem settles_standbyTaken {w : W16} (h : ¬ (s.power.fed = true ∧ (s.standbyTaken w).power.fed = false))
    (hq : standbyOutOf w = false ∨ s.power.standbyOut = true ∨ (s.standbyTaken w).power.fed = false) :
    settles (.standbyInputFault w) s [.power] fun u => u.power = { s.power with standbyMv := w.toNat, standbyOut := standbyOutOf w } := by
  have hx := execStandby_eq (s := s) (w := w)
  rw [if_neg (by simpa using h), if_neg (by rcases hq with hq | hq | hq <;> simp [hq])] at hx
  exact settles_step hx (State.standbyTaken_step (by decide)) rfl

end

/-! ### Clock faults (R369, R373) -/

section

variable {s s0 : State} {k det : Nat}

/-- The report of a clock that is not the collar's own. -/
def State.clockReport (s : State) (k det : Nat) : State := (s.fire det k 1).emcyPower 0xFF67 det k

theorem State.clockReport_keepsEmcy : (s.clockReport k det).keepsEmcy ↔ s.keepsEmcy :=
  (State.keepsEmcy_emcyPower _ _ _ _).trans (State.keepsEmcy_congr (by simp) (State.setting_congr (by simp) _ _))

theorem State.clockReport_raises : s.raisedWithin (s.clockReport k det) 0xFF67 det 0 := State.emcyPower_raises
  (fun h => (State.keepsEmcy_congr (by simp) (State.setting_congr (by simp) _ _)).2 h) (by decide) _

theorem State.clockReport_step {G : Nat} (h : Step G s0 s) (hG : sub (maskOf reportFields) G = true) : Step G s0 (s.clockReport k det) :=
  State.emcyPower_step (State.fire_step h (sub_trans (by decide) hG)) (sub_trans (by decide) hG)

theorem State.clockReport_fired (hd : det ∉ fallDets) : s.firedMore (s.clockReport k det) det :=
  State.firedMore_side (State.firedMore_fire rfl _ _ _) (State.emcyPower_report _ _ _ _) fun h => hd (sideDets_fall _ h)

theorem State.clockReport_keeps : (s.clockReport k det).power = s.power ∧ (s.clockReport k det).wafer = s.wafer ∧
    (s.clockReport k det).suspects = s.suspects ∧ (s.clockReport k det).tiles = s.tiles ∧ (s.clockReport k det).dram = s.dram ∧
    (s.clockReport k det).now = s.now := by
  unfold State.clockReport
  simp

/-- A panel's reset fires none but the detectors of a loss. -/
theorem State.panelReset_calm {D : List Nat} (hD : ∀ d ∈ lossDets, d ∈ D) (h : Calm D s0 s) (p : Nat) : Calm D s0 (s.panelReset p det) := by
  cases ho : (s.panelPower p).overcurrent with
  | true => rw [State.panelReset_latched ho]; exact h
  | false =>
    have hr : Calm D s0 (s.resetting p) := h.put rfl rfl rfl
    rw [State.panelReset_eq ho]
    refine Calm.ite hr (Calm.ite (State.declareLost_calm hD ?_) (Calm.ite ?_ hr))
    · exact hr.put rfl rfl rfl
    · exact hr.put (by simp) (by simp) (by simp)

/-- The effects of the clock domains fire none but the detectors of a fall. -/
theorem State.clockFails_calm : Calm fallDets s (s.clockFails k det) := by
  have h := Calm.refl fallDets s
  have hl : ∀ d ∈ lossDets, d ∈ fallDets := by decide
  unfold State.clockFails
  refine Calm.ite (State.panelReset_calm hl h _) (Calm.ite (State.loseAll_calm hl h _) (Calm.ite ?_ (Calm.ite
    (State.hemReset_calm sideDets_fall (by decide) h _ _) (Calm.ite (State.netReset_calm sideDets_fall (by decide) h _) (Calm.ite
      (State.linkDrop_calm (by decide) h _) (Calm.ite (State.yokeFail_calm sideDets_fall h _ _)
        (Calm.ite (State.bump64_calm h (by decide) _) h)))))))
  rw [State.seamColLost_eq]
  exact State.loseAll_calm hl (State.putWafer_calm h _) _

variable {p : Nat}

theorem State.clockFails_panel (h : k < 192) : s.clockFails k det = s.panelReset (k / 3) det := if_pos h

theorem State.clockFails_row (h1 : 192 ≤ k) (h : k < 200) : s.clockFails k det = s.seamRowLost (k - 192) := (if_neg (by omega)).trans (if_pos h)

theorem State.clockFails_column (h1 : 200 ≤ k) (h : k < 208) : s.clockFails k det = s.seamColLost (k - 200) :=
  (if_neg (by omega)).trans ((if_neg (by omega)).trans (if_pos h))

theorem State.clockFails_hem (h1 : 208 ≤ k) (h : k < 240) : s.clockFails k det = s.hemReset ((k - 208) / 2) det :=
  (if_neg (by omega)).trans ((if_neg (by omega)).trans ((if_neg (by omega)).trans (if_pos h)))

theorem State.clockFails_net (h1 : 240 ≤ k) (h : k < 256) : s.clockFails k det = s.netReset ((k - 240) / 2) :=
  (if_neg (by omega)).trans ((if_neg (by omega)).trans ((if_neg (by omega)).trans ((if_neg (by omega)).trans (if_pos h))))

theorem State.clockFails_host (h1 : 256 ≤ k) (h : k < 260) : s.clockFails k det = s.linkDrop (fnOf ((k - 256) / 2)) :=
  (if_neg (by omega)).trans ((if_neg (by omega)).trans ((if_neg (by omega)).trans ((if_neg (by omega)).trans ((if_neg (by omega)).trans (if_pos h)))))

theorem State.clockFails_yoke (h1 : 260 ≤ k) (h : k < 262) : s.clockFails k det = s.yokeFail 2 det :=
  (if_neg (by omega)).trans ((if_neg (by omega)).trans ((if_neg (by omega)).trans ((if_neg (by omega)).trans ((if_neg (by omega)).trans
    ((if_neg (by omega)).trans (if_pos h))))))

theorem State.clockFails_collar (h : k = 263 ∨ k = 264) : s.clockFails k det = s.bump64 0x2B00 8 :=
  (if_neg (by omega)).trans ((if_neg (by omega)).trans ((if_neg (by omega)).trans ((if_neg (by omega)).trans ((if_neg (by omega)).trans
    ((if_neg (by omega)).trans ((if_neg (by omega)).trans (if_pos h)))))))

/-- A clock fails what a rail's reset does, so the report stands as behind a rail's. -/
theorem State.clockFails_raised {code : Nat} (hk : s0.keepsEmcy → s.keepsEmcy) (hw : s0.raisedWithin s code det 0)
    (h : k < 192 ∨ 200 ≤ k ∧ k < 262) : s0.hasRaised (s.clockFails k det) code det := by
  have rail : ∀ r : OtherRail, (∀ y, r ≠ .seamR y) → s.clockFails k det = s.railFails r 2 det → s0.hasRaised (s.clockFails k det) code det :=
    fun r hr e => e ▸ State.railFails_raised hk hw hr 2
  rcases h with h | ⟨h1, h2⟩
  · rw [State.clockFails_panel h]
    exact State.hasRaised_of_within (State.panelReset_within hk hw (by decide))
  · by_cases h208 : k < 208
    · exact rail (.seamC ⟨k - 200, by omega⟩) (fun _ => nofun) (State.clockFails_column h1 h208)
    · by_cases h240 : k < 240
      · exact rail (.hem ⟨(k - 208) / 2, by omega⟩ false) (fun _ => nofun) (State.clockFails_hem (by omega) h240)
      · by_cases h256 : k < 256
        · exact rail (.net ⟨(k - 240) / 2, by omega⟩) (fun _ => nofun) (State.clockFails_net (by omega) h256)
        · by_cases h260 : k < 260
          · exact rail (.host (fnOf ((k - 256) / 2))) (fun _ => nofun) (State.clockFails_host (by omega) h260)
          · exact rail .yoke (fun _ => nofun) (State.clockFails_yoke (by omega) h2)

/-- What a fault of the clocks of units leaves. -/
structure State.clockOut (s : State) (k det : Nat) (u : State) : Prop where
  fired : s.firedMore u det
  raised : k < 192 ∨ (200 ≤ k ∧ k < 262) → s.hasRaised u 0xFF67 det
  panel : k < 192 → s.panelResets (k / 3) → (s.panelPower (k / 3)).resets = [] → s.inPanelReset (k / 3) u
  row : 192 ≤ k → k < 200 → u.rowOut (k - 192)
  column : 200 ≤ k → k < 208 → u.columnOut (k - 200)
  hem : 208 ≤ k → k < 240 → s.segmentOut u ((k - 208) / 2)
  net : 240 ≤ k → k < 256 → (u.portOf ((k - 240) / 2)).link = false
  host : 256 ≤ k → k < 260 → (u.host (fnOf ((k - 256) / 2))).up = false
  yoke : k = 260 ∨ k = 261 → u.yokeOut
  collar : k = 263 ∨ k = 264 → u.up.collar = false ∧ u.up.absentAt.isSome = true ∧ u.cell 0x2B00 8 = (s.cell 0x2B00 8 + 1) % 2 ^ 64 ∧
    (s.absentEmcy.length < 64 → ∃ m ∈ u.absentEmcy, m.code = 0xFF67 ∧ m.det = det)

variable {x : State} (hstep : Step (maskOf [.power]) s x) (hpan : x.power.panels = s.power.panels) (hd : det ∉ fallDets)

include hstep hpan hd

theorem State.clockOut_unit (hk : k < 262) : s.clockOut k det (x.clockFault k det) := by
  have hx : x.clockFault k det = (x.clockReport k det).clockFails k det := by
    unfold State.clockFault
    rw [if_neg (by omega)]
    rfl
  have hkeep : s.keepsEmcy ↔ (x.clockReport k det).keepsEmcy := (State.clockReport_keepsEmcy.trans
    (State.keepsEmcy_congr (by rw [hstep.up (by decide)]) (State.setting_congr (hstep.od (by decide)) _ _))).symm
  have hfired : s.firedMore (x.clockReport k det) det := by
    have h := State.clockReport_fired (s := x) (k := k) hd
    unfold State.firedMore at *
    rwa [State.detOf_congr (hstep.det (by decide)) det] at h
  have hraise : s.raisedWithin (x.clockReport k det) 0xFF67 det 0 := fun h => State.clockReport_raises
    ((State.keepsEmcy_congr (by rw [hstep.up (by decide)]) (State.setting_congr (hstep.od (by decide)) _ _)).2 h)
  obtain ⟨hpow, hwafer, hsus, htiles, hdram, hnow⟩ := State.clockReport_keeps (s := x) (k := k) (det := det)
  rw [hstep.wafer (by decide)] at hwafer
  rw [hstep.suspects (by decide)] at hsus
  rw [hstep.tiles (by decide)] at htiles
  rw [hstep.dram (by decide)] at hdram
  have hq : ∀ p, (x.clockReport k det).panelPower p = s.panelPower p := fun p => by
    unfold State.panelPower
    rw [hpow, hpan]
  rw [hx]
  generalize x.clockReport k det = y at *
  refine ⟨State.firedMore_calm hfired State.clockFails_calm hd, State.clockFails_raised hkeep.1 hraise, fun h hr hnone => ?_, fun h1 h => ?_,
    fun h1 h => ?_, fun h1 h => ?_, fun h1 h => ?_, fun h1 h => ?_, fun h => ?_, fun h => absurd hk (by omega)⟩
  · obtain ⟨hm, hl, ho⟩ := hr
    have hl' : y.panelLost (k / 3) = false := (State.panelLost_congr hwafer hsus _).trans hl
    have ho' : (y.panelPower (k / 3)).overcurrent = false := by rw [hq, ho]
    obtain ⟨hs, hlost, hw, hat⟩ := State.panelReset_first (det := det) ho' hl' (by simp [State.recentResets, hq, hnone]) (by rw [hwafer, hm])
    obtain ⟨⟨hwr, hother⟩, hpll⟩ := State.panelReset_clears (det := det) ho'
    rw [State.clockFails_panel h]
    exact ⟨hs, hlost, hw.trans hwafer, hat, hpll, hwr, fun j hj => (hother j hj).trans (congrArg (fun q => Tab.get q tile0 j) htiles)⟩
  · rw [State.clockFails_row h1 h]
    exact State.rowOut_seamRowLost _
  · rw [State.clockFails_column h1 h]
    exact State.columnOut_seamColLost _
  · rw [State.clockFails_hem h1 h]
    obtain ⟨hdown, hg⟩ := State.segmentOut_hemReset (s := y) ((k - 208) / 2) det
    exact ⟨hdown, fun h => hg (by rw [hdram, h])⟩
  · rw [State.clockFails_net h1 h]
    exact State.netReset_down _
  · rw [State.clockFails_host h1 h]
    exact State.linkDrop_down _
  · rw [State.clockFails_yoke (by omega) hk]
    exact State.yokeOut_yokeFail _ _

omit hpan in
theorem State.clockOut_collar (hk : k = 263 ∨ k = 264) : s.clockOut k det (x.clockFault k det) := by
  have hx : x.clockFault k det = (x.collarReset.clockReport k det).bump64 0x2B00 8 := by
    unfold State.clockFault
    rw [if_pos hk]
    exact State.clockFails_collar hk
  have habs : x.collarReset.up.absentAt.isSome = true := by
    show (x.up.absentAt.or (some x.now)).isSome = true
    cases x.up.absentAt <;> rfl
  have hup : (x.collarReset.clockReport k det).up = x.collarReset.up := by simp [State.clockReport]
  have hfired : s.firedMore (x.collarReset.clockReport k det) det := by
    have h := State.clockReport_fired (s := x.collarReset) (k := k) hd
    unfold State.firedMore at *
    rwa [show x.collarReset.detOf det = s.detOf det from State.detOf_congr (hstep.det (by decide)) det] at h
  have hside : Side sideDets sideCells (x.collarReset.fire det k 1) (x.collarReset.clockReport k det) := State.emcyPower_report _ _ _ _
  rw [hx]
  refine ⟨State.firedMore_congr hfired (by simp), fun h => by omega, fun h => by omega, fun _ h => by omega, fun _ h => by omega, fun _ h => by omega,
    fun _ h => by omega, fun _ h => by omega, fun h => by omega, fun _ => ⟨?_, ?_, ?_, fun hlen => ?_⟩⟩
  · rw [State.bump64_up, hup]
    rfl
  · rw [State.bump64_up, hup, habs]
  · rw [State.cell_bump64_same, hside.cell _ _ (by decide) (by decide), State.cell_congr (s := s) (t := x.collarReset.fire det k 1) ((State.fire_od ..).trans (hstep.od (by decide)))]
  · have hlen' : (x.collarReset.fire det k 1).absentEmcy.length < 64 := by
      rw [State.fire_absentEmcy, show x.collarReset.absentEmcy = x.absentEmcy from rfl, hstep.absentEmcy (by decide)]
      exact hlen
    have hmem : ∃ m ∈ ((x.collarReset.fire det k 1).emcyAt 0xFF67 det (x.collarReset.fire det k 1).stamp).absentEmcy, m.code = 0xFF67 ∧ m.det = det := by
      unfold State.emcyAt
      rw [State.fire_up, habs, if_pos rfl]
      refine ⟨⟨0xFF67, (x.collarReset.fire det k 1).errReg, (x.collarReset.fire det k 1).stamp, det⟩, ?_, rfl, rfl⟩
      rw [List.take_of_length_le (by rw [List.length_append]; exact hlen')]
      exact List.mem_append_right _ List.mem_cons_self
    rw [State.bump64_absentEmcy]
    have he : (x.collarReset.clockReport k det).absentEmcy =
        ((x.collarReset.fire det k 1).emcyAt 0xFF67 det (x.collarReset.fire det k 1).stamp).absentEmcy := by
      unfold State.clockReport State.emcyPower State.emcyEvent
      dsimp only
      split
      · simp
      · rfl
    rw [he]
    exact hmem

end

/-- A clock that is off, or a PLL that has lost lock, brings its domain's fault. -/
theorem exec_clockFault {s : State} {k : Fin 266} {c : Instr} {det : Nat} (hruns : s.clockRuns k.val = true)
    (hc : (c = .clockCheck k ∧ det = 0x0B02 ∧ k.val ≠ 262 ∧ k.val ≠ 265) ∨ (c = .pllUnlock k ∧ det = 0x0B01 ∧ hasPll k.val = true)) :
    ∃ x, exec c s = .next (State.settle s (x.clockFault k.val det)) ∧ Step (maskOf [.power]) s x ∧ x.power.panels = s.power.panels ∧
      (k.val < 262 ∨ k.val = 263 ∨ k.val = 264) := by
  rcases hc with ⟨rfl, rfl, h1, h2⟩ | ⟨rfl, rfl, h⟩
  · have hk := k.isLt
    exact ⟨_, whenSettled_true (by simp [hruns, h1, h2]) s _, State.putPower_step (by decide) _, rfl, by omega⟩
  · refine ⟨_, whenSettled_true (by rw [h, hruns]; rfl) s _, State.putPower_step (by decide) _, rfl, .inl ?_⟩
    unfold hasPll at h
    rw [Bool.and_eq_true] at h
    exact of_decide_eq_true h.1

/-! ### The reference (R374) -/

section

variable {s s0 : State} {code det n : Nat}

theorem State.emcy_can (s : State) (c d : Nat) : (s.emcy c d).can = (s.emcyEvent c d []).can := (State.emcyEvent_can s c d []).symm

theorem State.emcy_keepsEmcy (c d : Nat) : (s.emcy c d).keepsEmcy ↔ s.keepsEmcy :=
  State.keepsEmcy_congr (by simp [State.emcy]) (State.emcyAt_calm (fun _ h => h) (Calm.refl sideDets s) _ _ _).emcy

theorem State.emcyAt_rate (s : State) (c d st : Nat) : (s.emcyAt c d st).can.rate = s.can.rate := by
  unfold State.emcyAt
  dsimp only
  split
  · rfl
  · split
    · rfl
    · split <;> split <;> simp

theorem State.netReset_rate (s : State) (p : Nat) : (s.netReset p).can.rate = s.can.rate := by
  unfold State.netReset
  split
  · rw [State.portDown_eq, State.emcyEvent_can, State.emcyAt_rate]
    simp [State.portFell, State.portCount]
  · rfl

theorem State.orderlyShutdown_rate (s : State) (c d : Nat) : (s.orderlyShutdown c d).can.rate = s.can.rate := by
  by_cases h : (s.domainOf 0).st = .off
  · rw [State.orderlyShutdown_off h]
  · rw [State.orderlyShutdown_can h]
    unfold State.wound
    rw [State.unitsOff_can, each_keeps (fun x => x.can.rate) _ State.netReset_rate, State.closeAllJobs_same.1, State.emcyPower, State.emcyEvent_can,
      State.emcyAt_rate]

theorem State.suspendAll_calm {D : List Nat} (hD : ∀ d ∈ sideDets, d ∈ D) (h : Calm D s0 s) : Calm D s0 (s.suspendAll det) := by
  unfold State.suspendAll
  refine Calm.each _ ?_ fun _ _ hu => Calm.each _ hu fun _ _ hv => State.frameDone_calm hD hv _ _ _
  exact h.put rfl rfl rfl

/-- The reference is taken to be lost. -/
def State.noReference (s : State) : State := { s with power := { s.power with refLost := true, offset := none } }

theorem State.noReference_step {G : Nat} (hG : sub (maskOf [.power]) G = true) : Step G s s.noReference :=
  (Step.refl _ s).put (F := 4503599627370496) hG rfl fun v => ⟨v.1, v.2, v.3, v.4, v.5, v.6, v.7⟩

/-- The report of the lost reference. -/
def State.goneReport (s : State) : State := (s.noReference.fire 0x0B04 0 0).emcyPower 0xFF68 0x0B04 0

/-- The beat unit's record replaced. -/
def State.putBeat (s : State) (b : Beat) : State := { s with beat := b }

theorem State.putBeat_step {G : Nat} (h : Step G s0 s) (hG : sub (maskOf [.beat]) G = true) (b : Beat) : Step G s0 (s.putBeat b) :=
  h.put (F := 4) hG rfl fun v => ⟨v.1, v.2, v.3, v.4, v.5, v.6, v.7⟩

theorem State.putBeat_calm {D : List Nat} (h : Calm D s0 s) (b : Beat) : Calm D s0 (s.putBeat b) := h.put rfl rfl rfl

theorem State.referenceGone_eq : s.referenceGone = if s.beat.lock = .holdover then
    ((s.goneReport.putBeat { s.beat with lock := .lost }).suspendAll 0x0B04).emcy 0xFF11 0x0B04 else s.goneReport := by
  have h : s.goneReport.beat = s.beat := by simp [State.goneReport, State.noReference]
  show (if s.goneReport.beat.lock = .holdover then
    ((s.goneReport.putBeat { s.goneReport.beat with lock := .lost }).suspendAll 0x0B04).emcy 0xFF11 0x0B04 else s.goneReport) = _
  rw [h]

theorem State.goneReport_keepsEmcy : s.goneReport.keepsEmcy ↔ s.keepsEmcy :=
  (State.keepsEmcy_emcyPower _ _ _ _).trans
    (State.keepsEmcy_congr (by simp [State.noReference]) (State.setting_congr (by simp [State.noReference]) _ _))

theorem State.goneReport_raises : s.raisedWithin s.goneReport 0xFF68 0x0B04 0 := State.emcyPower_raises
  (fun h => (State.keepsEmcy_congr (by simp [State.noReference]) (State.setting_congr (by simp [State.noReference]) _ _)).2 h) (by decide) _

theorem State.goneReport_fired : s.firedMore s.goneReport 0x0B04 :=
  State.firedMore_side (State.firedMore_fire (x := s.noReference) rfl _ _ _) (State.emcyPower_report _ _ _ _) (by decide)

theorem State.goneReport_step : Step (maskOf (reportFields ++ [.power])) s s.goneReport :=
  State.emcyPower_step (State.fire_step (State.noReference_step (by decide)) (by decide)) (by decide)

theorem State.goneReport_power : s.goneReport.power = { s.power with refLost := true, offset := none } := by
  simp [State.goneReport, State.noReference]

theorem State.suspendAll_same : (s.suspendAll det).can = s.can ∧ (s.suspendAll det).up = s.up ∧ (s.suspendAll det).power = s.power ∧
    (s.suspendAll det).ports = s.ports ∧ (s.suspendAll det).beat = s.beat := by
  have h := State.suspendAll_step (x1 := det) (Step.refl 72080289657801864 s) (by decide)
  exact ⟨h.can (by decide), h.up (by decide), h.power (by decide), h.ports (by decide), h.beat (by decide)⟩

/-- What the lost reference leaves before the collar acts. -/
theorem State.referenceGone_leaves : Step (maskOf (fallFields ++ [.beat, .fresh])) s s.referenceGone ∧
    s.referenceGone.power = { s.power with refLost := true, offset := none } ∧ s.referenceGone.ports = s.ports ∧
    s.firedMore s.referenceGone 0x0B04 ∧ (s.keepsEmcy → s.referenceGone.keepsEmcy) ∧ s.raisedWithin s.referenceGone 0xFF68 0x0B04 1 ∧
    s.referenceGone.beat = if s.beat.lock = .holdover then { s.beat with lock := .lost } else s.beat := by
  have hp := State.goneReport_power (s := s)
  have hport : s.goneReport.ports = s.ports := by simp [State.goneReport, State.noReference]
  have hbeat : s.goneReport.beat = s.beat := by simp [State.goneReport, State.noReference]
  have hk := State.goneReport_keepsEmcy (s := s)
  have hr := State.goneReport_raises (s := s)
  have hf := State.goneReport_fired (s := s)
  have hs := State.goneReport_step (s := s)
  rw [State.referenceGone_eq]
  generalize s.goneReport = a at *
  split
  · obtain ⟨hc1, hu1, hp1, hports1, hbeat1⟩ := State.suspendAll_same (s := a.putBeat { s.beat with lock := .lost }) (det := 0x0B04)
    have hcalm : Calm sideDets a ((a.putBeat { s.beat with lock := .lost }).suspendAll 0x0B04) :=
      State.suspendAll_calm (fun _ h => h) (State.putBeat_calm (Calm.refl _ a) _)
    have hstep : Step (maskOf (fallFields ++ [.beat, .fresh])) s ((a.putBeat { s.beat with lock := .lost }).suspendAll 0x0B04) :=
      State.suspendAll_step (State.putBeat_step (hs.mono (by decide)) (by decide) _) (by decide)
    replace hc1 := hc1.trans (show (a.putBeat { s.beat with lock := .lost }).can = a.can from rfl)
    replace hu1 := hu1.trans (show (a.putBeat { s.beat with lock := .lost }).up = a.up from rfl)
    replace hp1 := hp1.trans (show (a.putBeat { s.beat with lock := .lost }).power = a.power from rfl)
    replace hports1 := hports1.trans (show (a.putBeat { s.beat with lock := .lost }).ports = a.ports from rfl)
    replace hbeat1 := hbeat1.trans (show (a.putBeat { s.beat with lock := .lost }).beat = { s.beat with lock := .lost } from rfl)
    generalize State.suspendAll _ 0x0B04 = b at *
    have hkb : b.keepsEmcy ↔ a.keepsEmcy := State.keepsEmcy_congr (by rw [hu1]) hcalm.emcy
    refine ⟨State.emcyAt_step hstep (by decide), by rw [State.emcy, State.emcyAt_power, hp1, hp], by rw [State.emcy, State.emcyAt_ports, hports1, hport],
      ?_, fun h => (State.emcy_keepsEmcy _ _).2 (hkb.2 (hk.2 h)), ?_, by rw [State.emcy, State.emcyAt_beat, hbeat1]⟩
    · exact State.firedMore_calm (State.firedMore_calm hf hcalm (by decide)) (State.emcyAt_calm (fun _ h => h) (Calm.refl sideDets b) _ _ _) (by decide)
    · exact State.raisedWithin_congr (State.emcyEvent_within (fun h => hkb.2 (hk.2 h)) (State.raisedWithin_congr hr hc1) (by decide) (by decide) _ [])
        (State.emcy_can b _ _)
  · exact ⟨hs.mono (by decide), hp, hport, hf, hk.2, State.raisedWithin_le hr (by decide), hbeat⟩

/-- The collar goes on with its internal oscillator. -/
def State.oscillates (s : State) : State := { s with power := { s.power with internalOsc := true }, can := { s.can with rate := 0 } }

theorem State.referenceLost_eq (s : State) : s.referenceLost = s.oscillates.orderlyShutdown 2 0x0B04 := rfl

theorem State.shutOff_power {β : Type} (f : Power → β) (hf : ∀ (p : Power) b a l q d, f { p with
    needRequest := b, actions := a, lastAct := l, panels := q, domains := d } = f p) (x : State) : f x.shutOff.power = f x.power :=
  hf x.power true [] none _ _

/-- A shutdown keeps what it does not switch of the power's record. -/
theorem State.orderlyShutdown_power {β : Type} (f : Power → β) (hf : ∀ (p : Power) b a l q d, f { p with
    needRequest := b, actions := a, lastAct := l, panels := q, domains := d } = f p) (c d : Nat) :
    f (s.orderlyShutdown c d).power = f s.power := by
  by_cases h : (s.domainOf 0).st = .off
  · rw [State.orderlyShutdown_off h]
  · have hw : f (s.wound c d).shutOff.power = f (s.wound c d).power := State.shutOff_power f hf _
    rw [State.orderlyShutdown_same (fun x => f x.power) (fun x a b c => by rw [State.logAct_power]) h, hw, State.wound_power.1]

theorem settles_referenceLost (href : s.power.refLost = false) (hc : s.up.collar = true) :
    settles .referenceLost s (fallFields ++ ([.beat, .fresh] : List Field)) fun u =>
      (u.power.refLost = true ∧ (s.beat.lock ≠ .holdover → u.beat = s.beat) ∧ (s.beat.lock = .holdover → u.beat = { s.beat with lock := .lost })) ∧
      u.power.internalOsc = true ∧ s.firedMore u 0x0B04 ∧ u.can.rate = 0 ∧
      ((s.domainOf 0).st = .off ∨ s.linksUp ≤ 5 → s.hasRaised u 0xFF68 0x0B04) ∧
      ((s.domainOf 0).st ≠ .off → s.shutDown u 0x0B04 ∧ u.up.phase = .shutdown) := by
  have hx : exec .referenceLost s = .next (State.settle s (s.referenceGone.referenceLost)) := by
    refine (whenSettled_true (by rw [href]; rfl) s _).trans ?_
    rw [if_pos hc]
  obtain ⟨hstep, hp, hport, hf, hk, hr, hbeat⟩ := State.referenceGone_leaves (s := s)
  rw [State.referenceLost_eq] at hx
  generalize s.referenceGone = g at *
  have hstep' : Step (maskOf (fallFields ++ [.beat, .fresh])) s g.oscillates :=
    hstep.put (F := 4503599635759104) (by decide) rfl fun v => ⟨v.1, v.2, v.3, v.4, v.5, v.6, v.7⟩
  have hkeep : s.keepsEmcy → g.oscillates.keepsEmcy := hk
  have hraise : s.raisedWithin g.oscillates 0xFF68 0x0B04 1 := hr
  have hdom : g.oscillates.power.domains = s.power.domains := by
    show g.power.domains = _
    rw [hp]
  have hosc : g.oscillates.power.internalOsc = true ∧ g.oscillates.power.refLost = true := ⟨rfl, by
    show g.power.refLost = true
    rw [hp]⟩
  have hports : g.oscillates.ports = s.ports := hport
  have hfire : s.firedMore g.oscillates 0x0B04 := hf
  have hrate : g.oscillates.can.rate = 0 := rfl
  have hb : g.oscillates.beat = if s.beat.lock = .holdover then { s.beat with lock := .lost } else s.beat := hbeat
  generalize g.oscillates = y at *
  have hoff : (y.domainOf 0).st = (s.domainOf 0).st := congrArg Domain.st (State.domainOf_congr hdom 0)
  have hlinks : y.linksUp = s.linksUp := by
    rw [← State.linksUp_eq, State.linksOf_congr hports, State.linksUp_eq]
  have hbeats : (y.orderlyShutdown 2 0x0B04).beat = y.beat :=
    (State.orderlyShutdown_step (Step.refl 234045272756285434 y) (by decide)).beat (by decide)
  refine settles_step hx (State.orderlyShutdown_step hstep' (by decide)) ⟨⟨?_, fun h => ?_, fun h => ?_⟩, ?_, ?_, ?_, fun h => ?_, fun h => ?_⟩
  · rw [State.orderlyShutdown_power Power.refLost (fun _ _ _ _ _ _ => rfl), hosc.2]
  · rw [hbeats, hb, if_neg h]
  · rw [hbeats, hb, if_pos h]
  · rw [State.orderlyShutdown_power Power.internalOsc (fun _ _ _ _ _ _ => rfl), hosc.1]
  · exact State.firedMore_calm hfire (State.orderlyShutdown_calm (fun _ h => h) (Calm.refl fallDets y)) (by decide)
  · rw [State.orderlyShutdown_rate, hrate]
  · refine State.hasRaised_of_within (State.orderlyShutdown_within hkeep hraise (by decide) ?_)
    rw [hoff, hlinks]
    exact h.imp_right fun h => by omega
  · exact ⟨State.orderlyShutdown_shutDown (by rw [hoff]; exact h) hkeep hports hdom, (State.orderlyShutdown_phase (by rw [hoff]; exact h)).1⟩

theorem settles_referenceAbsent (href : s.power.refLost = false) (hc : s.up.collar = false) (ha : s.up.absentAt.isSome = true) :
    settles .referenceLost s (fallFields ++ ([.beat, .fresh] : List Field)) fun u =>
      (u.power.refLost = true ∧ (s.beat.lock ≠ .holdover → u.beat = s.beat) ∧ (s.beat.lock = .holdover → u.beat = { s.beat with lock := .lost })) ∧
      s.firedMore u 0x0B04 ∧ u.power.internalOsc = s.power.internalOsc ∧ u.power.domains = s.power.domains := by
  have hx : exec .referenceLost s = .next (State.settle s s.referenceGone) := by
    refine (whenSettled_true (by rw [href]; rfl) s _).trans ?_
    rw [if_neg (by rw [hc]; decide), if_pos ha]
  obtain ⟨hstep, hp, hport, hf, hk, hr, hbeat⟩ := State.referenceGone_leaves (s := s)
  exact settles_step hx hstep ⟨⟨by rw [hp], fun h => by rw [hbeat, if_neg h], fun h => by rw [hbeat, if_pos h]⟩, hf, by rw [hp], by rw [hp]⟩

end

end Sys2Proof.Machine

namespace Sys2Proof.Proofs

open Sys2Proof.Machine

/-- Settles O48: each reading of an input by the state it names, each clock fault by its domain's effect, the reference by whether the
collar runs. -/
theorem supplyAndClocks : Obligations.SupplyAndClocks := by
  unfold Obligations.SupplyAndClocks
  refine ⟨⟨?_, ?_⟩, ?_, ?_, ?_⟩
  · intro s st mv v now c det
    refine ⟨fun hnow hst hv hrange => ?_, fun hnow hst hh => ?_, fun hnow hst hh => ?_, fun hst hh => ?_⟩
    · exact completes_cutVoltage hnow hst hv hrange
    · refine completes_step ((if_neg fun h => hnow h.1).trans ((if_pos hst).trans (whenDue_true ?_ s _))) (State.putPower_step (by decide) _) rfl
      exact inputHolds_same hst hh
    · refine settles_inputLive hnow hst ?_ ?_
      · rcases hh with ⟨rfl, h1, h2, h3, h4, h5⟩ | ⟨rfl, h1, h2, h3⟩ | ⟨rfl, h1, h2⟩
        · exact inputEnters_range h1 h2 h3 h4 h5
        · have hn : s.power.input ≠ .cut ∧ s.power.input ≠ .absent := ⟨hnow, h1⟩
          simp [State.inputEnters, hn, show 38000 ≤ mv.toNat from h2, show mv.toNat < 40000 from h3]
        · have hn : s.power.input ≠ .cut := hnow
          simp [State.inputEnters, hn, show 60000 < mv.toNat from h1, show mv.toNat ≤ 61000 from h2]
      · rcases hh with ⟨rfl, -⟩ | ⟨rfl, -⟩ | ⟨rfl, -⟩ <;> rfl
    · refine settles_inputDead (fun hc => ?_) hst ?_ ?_
      · rcases hh with ⟨rfl, -⟩ | rfl | ⟨rfl, -⟩
        · exact hst hc.1.symm
        · simp at hc
        · simp at hc
      · rcases hh with ⟨rfl, h⟩ | rfl | ⟨rfl, h⟩
        · rcases h with ⟨h1, h2, h3⟩ | h
          · have h1' : s.power.input ≠ .absent := h1
            simp [State.inputEnters, h1', show 5000 ≤ mv.toNat from h2, show mv.toNat < 38000 from h3]
          · simp [State.inputEnters, show 61000 < mv.toNat from h]
        · rfl
        · exact decide_eq_true h
      · rcases hh with ⟨rfl, -⟩ | rfl | ⟨rfl, -⟩ <;> rfl
  · intro s mv out other was is x c
    refine ⟨fun hwas his => ?_, fun his hout hin => ?_, fun h hq => ?_⟩
    · exact settles_standbyGone ((Power.fed_iff _).2 hwas) (Bool.not_eq_true _ ▸ fun h => his (State.standbyTaken_fed.1 h)) (Nat.not_le.1 fun h => his (.inr h))
    · exact settles_standbyFault (State.standbyTaken_fed.2 his) hout hin
    · refine settles_standbyTaken (fun ⟨h1, h2⟩ => h ⟨(Power.fed_iff _).1 h1, fun hi => ?_⟩) ?_
      · rw [State.standbyTaken_fed.2 hi] at h2
        cases h2
      · exact hq.imp_right fun hq => hq.imp_right fun hi => Bool.not_eq_true _ ▸ fun h => hi (State.standbyTaken_fed.1 h)
  · intro s k c det hruns hc n
    have hd : det ∉ fallDets := by rcases hc with ⟨-, rfl, -⟩ | ⟨-, rfl, -⟩ <;> decide
    obtain ⟨x, hx, hstep, hpan, hn⟩ := exec_clockFault hruns hc
    have hout : s.clockOut k.val det (x.clockFault k.val det) := by
      by_cases h : k.val < 262
      · exact State.clockOut_unit hstep hpan hd h
      · exact State.clockOut_collar hstep hd (by omega)
    exact settles_step hx (State.clockFault_step (hstep.mono (by decide)) (by decide)) ⟨hout.fired, hout.raised, hout.panel, hout.row, hout.column,
      hout.hem, hout.net, hout.host, hout.yoke, hout.collar⟩
  · intro s href beats
    exact ⟨settles_referenceLost href, settles_referenceAbsent href, fun hc ha => settles_step
      ((whenSettled_true (by rw [href]; rfl) s _).trans (congrArg (fun x => Host.Outcome.next (State.settle s x))
        ((if_neg (by rw [hc]; decide)).trans (if_neg (by rw [ha]; decide))))) (State.noReference_step (s := s) (by decide)) rfl⟩
  · exact fun s h => completes_step (whenDue_true h s _) ((Step.refl _ s).put (F := 4503599627370496) (by decide) rfl
      fun v => ⟨v.1, v.2, v.3, v.4, v.5, v.6, v.7⟩) rfl

end Sys2Proof.Proofs
end

section
/-! Why the statement about power domains fails: a shutdown may draw free values. -/

namespace Sys2Proof.Machine

theorem exec_yokeOff {s : State} {p : Path} (h : s.canWrite p 0x2911 1 = true) (hr : s.domainRefused 0 false = false) :
    exec (.domainRequestOff p 0) s = .next (State.settle s ((s.putCell 0x2911 1 0).orderlyShutdown 0 0)) :=
  State.odWriteSettled_ok (e := fxDomainRequestOff 0) h ((if_neg (by rw [show s.domainRefused (0 : Fin 171).val false = _ from hr]; decide)).trans (if_pos rfl))

/-- A running module with a plan of no job: its one pleat is being staged over segment 0, and its pass awaits that pleat on tile 0, whose
region has room. The plan's header in tier 1 is sound. -/
def orphanStaging : State := { Sys2Proof.Tests.on with
  tier1 := Memory.writeBytes (Memory.writeBytes [] 0 (natLe 4 0x504C5431)) 0x3C (natLe 4 0x493D3B1E)
  plans := ⟨[(0, ⟨.active, 5, true, 0, 1, 1, 0, 0, 0, 0, [⟨0, 1, 0, 0, 0, 1⟩], [⟨0, 0, 0, 0, 0, 0, 0, 1, 0, .staging, 1, 0⟩], 0, 0, .empty,
    ⟨[(0, ⟨0, [], [0], [], [], .empty, .empty, false⟩)]⟩, none, none, []⟩)]⟩
  segs := ⟨[(0, { seg0 with flash := .inService, cmds := ⟨[(0, ⟨2, 0, 1, 0, 0, .pleat 0 0⟩)]⟩ })]⟩
  tiles := ⟨[(0, { tile0 with regions := ⟨[(0, { region0 with size := 8, producer := 2, enable := true })]⟩ })]⟩ }

/-- The fall of the segment's flash fails the pleat, which is landed void: one free value is drawn. -/
theorem orphanStaging_draws : ((orphanStaging.putCell 0x2911 1 0).orderlyShutdown 0 0).fresh = 1 := by decide +kernel

theorem orphanStaging_canWrite : orphanStaging.canWrite .sdo 0x2911 1 = true := by decide +kernel

theorem orphanStaging_serves : orphanStaging.domainRefused 0 false = false := by decide +kernel

end Sys2Proof.Machine

namespace Sys2Proof.Proofs

open Sys2Proof.Machine

/-- Refutes O49: YOKE OFF is to show in `fallFields` alone, which do not hold the count of free values drawn. In `orphanStaging` the
shutdown's fall of segment 0's flash fails a pleat that a pass awaits, and its void landing (R168) draws one. -/
theorem not_powerDomains : ¬ Obligations.PowerDomains := by
  unfold Obligations.PowerDomains
  rintro ⟨hreq, -⟩
  obtain ⟨-, -, -, hoff⟩ := hreq orphanStaging .sdo 0 orphanStaging_canWrite
  obtain ⟨u, hx, honly, -⟩ := hoff (by
    rintro (⟨⟨h, -⟩, -⟩ | ⟨h, -⟩ | ⟨h, -⟩)
    · exact absurd h (by decide)
    · exact absurd h (by decide)
    · exact absurd h (by decide)) rfl (by decide)
  have hx' : exec (.domainRequestOff .sdo 0) orphanStaging =
      .next (State.settle orphanStaging ((orphanStaging.putCell 0x2911 1 0).orderlyShutdown 0 0)) :=
    exec_yokeOff orphanStaging_canWrite orphanStaging_serves
  have hu : State.settle orphanStaging u = State.settle orphanStaging ((orphanStaging.putCell 0x2911 1 0).orderlyShutdown 0 0) :=
    Host.Outcome.next.inj (hx.symm.trans hx')
  have hfresh : u.fresh = 1 := by
    have h := congrArg State.fresh hu
    rwa [State.settle_fresh, State.settle_fresh, orphanStaging_draws] at h
  exact absurd (hfresh.symm.trans (honly .fresh (by decide))) (by decide)

end Sys2Proof.Proofs
end

section
/-! Proofs about lanes that fail. -/

namespace Sys2Proof.Machine

/-! ### The change of lanes takes effect (R29, R39) -/

section

variable {s s0 : State} {p cause since : Nat}

/-- A loss changes the modes of panels alone. -/
theorem State.declareLost_wafer : ∃ t, (s.declareLost p cause since).wafer = { s.wafer with panel := t } := by
  cases hl : s.panelLost p with
  | true => exact ⟨s.wafer.panel, by rw [State.declareLost_lost hl]⟩
  | false =>
    obtain ⟨w, q, hx, hw⟩ := State.declareLost_new (cause := cause) (since := since) hl
    rw [hx]
    rcases hw with rfl | ⟨rfl, -⟩
    · exact ⟨_, rfl⟩
    · exact ⟨s.wafer.panel, rfl⟩

theorem State.epochStep_calm {D : List Nat} (hD : ∀ d ∈ sideDets, d ∈ D) (h : Calm D s0 s) : Calm D s0 s.epochStep := by
  unfold State.epochStep
  dsimp only
  refine Calm.ite (State.rebudget_calm hD h) (State.rebudget_calm hD ?_)
  exact h.put rfl rfl rfl

theorem State.lanesApply_calm {D : List Nat} (hD : ∀ d ∈ sideDets, d ∈ D) (h : Calm D s0 s) : Calm D s0 s.lanesApply := by
  unfold State.lanesApply
  exact Calm.ite h (Calm.ite (State.putWafer_calm h _) (State.epochStep_calm hD (State.putWafer_calm h _)))

theorem State.rebudget_wafer (s : State) : s.rebudget.wafer = s.wafer :=
  (State.rebudget_step (Step.refl 72080289657998472 s) (by decide)).wafer (by decide)

/-- An epoch step changes the epoch and the boundary of its step. -/
theorem State.epochStep_wafer (s : State) : ∃ e n, s.epochStep.wafer = { s.wafer with epoch := e, epochN := n } := by
  unfold State.epochStep
  dsimp only
  split
  · exact ⟨_, _, State.rebudget_wafer s⟩
  · exact ⟨_, _, State.rebudget_wafer _⟩

/-- Before the first lock every change of lanes steps the epoch. -/
theorem State.epochStep_search (h : s.beat.lock = .search) : s.epochStep.wafer.epoch = s.wafer.epoch + 1 := by
  unfold State.epochStep
  dsimp only
  rw [if_neg fun e => e.2 h, State.rebudget_wafer]

theorem Wafer.lanes_inForce {w : Wafer} (h1 : w.laneForce = w.laneFail) (h2 : w.passForce = w.passFail) :
    w = { w with laneForce := w.laneFail, passForce := w.passFail } := by
  cases w
  cases h1
  cases h2
  rfl

/-- The lanes in force are those that work, and nothing else of them changes. -/
theorem State.lanesApply_wafer (s : State) : ∃ e n,
    s.lanesApply.wafer = { s.wafer with laneForce := s.wafer.laneFail, passForce := s.wafer.passFail, epoch := e, epochN := n } := by
  unfold State.lanesApply
  dsimp only
  split
  · rename_i h
    exact ⟨s.wafer.epoch, s.wafer.epochN, Wafer.lanes_inForce h.1 h.2⟩
  · split
    · exact ⟨s.wafer.epoch, s.wafer.epochN, rfl⟩
    · obtain ⟨e, n, hx⟩ := State.epochStep_wafer { s with wafer := { s.wafer with laneForce := s.wafer.laneFail, passForce := s.wafer.passFail } }
      exact ⟨e, n, hx⟩

theorem State.lanesApply_epoch (h : s.beat.lock = .search) (hne : s.wafer.laneForce ≠ s.wafer.laneFail) :
    s.lanesApply.wafer.epoch = s.wafer.epoch + 1 := by
  unfold State.lanesApply
  dsimp only
  rw [if_neg fun e => hne e.1, if_neg fun e => hne e.1]
  exact State.epochStep_search (s := { s with wafer := { s.wafer with laneForce := s.wafer.laneFail, passForce := s.wafer.passFail } }) h

theorem State.atOnce_later (h : s.beat.lock ≠ .search) : s.atOnce = s := if_neg h

/-- With no restore asked for, only lanes take effect at once. -/
theorem State.atOnce_lanes (h : s.beat.lock = .search) (hr : s.up.restore = none) : s.atOnce = s.lanesApply := by
  have hup : s.lanesApply.up = s.up := (State.lanesApply_step (Step.refl 72080289657998474 s) (by decide)).up (by decide)
  refine (if_pos h).trans ?_
  unfold State.restoreApply
  rw [hup, hr]

end

/-! ### A lane fails (R29) -/

theorem setBit_ne {v i : Nat} (h : bit v i = false) : setBit v i ≠ v := by
  unfold setBit
  rw [h, if_neg (by decide)]
  have := Nat.two_pow_pos i
  omega

section

variable {s : State} {e dir lane since : Nat}

/-- The state with a lane marked failed in one direction. -/
def State.laneMarked (s : State) (key lane : Nat) : State :=
  { s with wafer := { s.wafer with laneFail := s.wafer.laneFail.set key (setBit (s.wafer.laneFail.get 0 key) lane) } }

theorem State.laneMarked_step {G : Nat} (hG : sub (maskOf [.wafer]) G = true) (key : Nat) : Step G s (s.laneMarked key lane) :=
  (Step.refl _ s).put (F := 2) hG rfl fun v => ⟨v.1, v.2, v.3, v.4, v.5, v.6, v.7⟩

/-- The first two failures of a direction. -/
theorem State.laneFails_spare (hb : bit (s.wafer.laneFail.get 0 (e * 2 + dir)) lane = false)
    (h : popcount 14 (setBit (s.wafer.laneFail.get 0 (e * 2 + dir)) lane) < 3) :
    s.laneFails e dir lane since = (s.laneMarked (e * 2 + dir) lane).fire 0x0401 (s.wafer.edgeUnit e) 0 :=
  (if_neg (by rw [hb]; decide)).trans (if_neg (by unfold laneLost; rw [decide_eq_false (Nat.not_le.2 h)]; decide))

/-- The third failure of a direction. -/
theorem State.laneFails_lost (hb : bit (s.wafer.laneFail.get 0 (e * 2 + dir)) lane = false)
    (h : 3 ≤ popcount 14 (setBit (s.wafer.laneFail.get 0 (e * 2 + dir)) lane)) :
    s.laneFails e dir lane since = match seamPanels e with
      | some (_, b) => ((s.laneMarked (e * 2 + dir) lane).fire 0x0402 (s.wafer.edgeUnit e) 0).declareLost b 2 since
      | none => (s.laneMarked (e * 2 + dir) lane).fire 0x0402 (s.wafer.edgeUnit e) 0 :=
  (if_neg (by rw [hb]; decide)).trans (if_pos (decide_eq_true h))

/-- What a lane's failure leaves of the wafer map. -/
theorem State.laneFails_wafer (hb : bit (s.wafer.laneFail.get 0 (e * 2 + dir)) lane = false) : ∃ t,
    (s.laneFails e dir lane since).wafer = { s.wafer with
      laneFail := s.wafer.laneFail.set (e * 2 + dir) (setBit (s.wafer.laneFail.get 0 (e * 2 + dir)) lane), panel := t } := by
  have hm : ∀ d, ((s.laneMarked (e * 2 + dir) lane).fire d (s.wafer.edgeUnit e) 0).wafer = { s.wafer with
      laneFail := s.wafer.laneFail.set (e * 2 + dir) (setBit (s.wafer.laneFail.get 0 (e * 2 + dir)) lane) } := fun d => by
    simp [State.laneMarked]
  by_cases h : popcount 14 (setBit (s.wafer.laneFail.get 0 (e * 2 + dir)) lane) < 3
  · exact ⟨s.wafer.panel, by rw [State.laneFails_spare hb h, hm]⟩
  · rw [State.laneFails_lost hb (Nat.not_lt.1 h)]
    cases seamPanels e with
    | none => exact ⟨s.wafer.panel, hm _⟩
    | some ab =>
      obtain ⟨t, ht⟩ := State.declareLost_wafer (s := (s.laneMarked (e * 2 + dir) lane).fire 0x0402 (s.wafer.edgeUnit e) 0)
        (p := ab.2) (cause := 2) (since := since)
      exact ⟨t, ht.trans (by rw [hm])⟩

theorem State.laneFails_firedLost (hb : bit (s.wafer.laneFail.get 0 (e * 2 + dir)) lane = false)
    (h : 3 ≤ popcount 14 (setBit (s.wafer.laneFail.get 0 (e * 2 + dir)) lane)) : s.firedMore (s.laneFails e dir lane since) 0x0402 := by
  have hf : s.firedMore ((s.laneMarked (e * 2 + dir) lane).fire 0x0402 (s.wafer.edgeUnit e) 0) 0x0402 :=
    State.firedMore_fire (x := s.laneMarked (e * 2 + dir) lane) rfl _ _ _
  rw [State.laneFails_lost hb h]
  cases seamPanels e with
  | none => exact hf
  | some ab => exact State.firedMore_side hf State.declareLost_side (by decide)

theorem State.laneFails_firedSpare (hb : bit (s.wafer.laneFail.get 0 (e * 2 + dir)) lane = false)
    (h : popcount 14 (setBit (s.wafer.laneFail.get 0 (e * 2 + dir)) lane) < 3) : s.firedOnce 0x0401 (s.laneFails e dir lane since) := by
  rw [State.laneFails_spare hb h]
  exact State.firedOnce_fire (x := s.laneMarked (e * 2 + dir) lane) rfl rfl _ _ _

theorem State.laneFails_panel (hb : bit (s.wafer.laneFail.get 0 (e * 2 + dir)) lane = false)
    (h : 3 ≤ popcount 14 (setBit (s.wafer.laneFail.get 0 (e * 2 + dir)) lane)) {a b : Nat} (hp : seamPanels e = some (a, b)) :
    (s.laneFails e dir lane since).panelLost b = true := by
  rw [State.laneFails_lost hb h, hp]
  exact State.panelLost_declareLost ..

theorem State.laneFails_beat : (s.laneFails e dir lane since).beat = s.beat ∧ (s.laneFails e dir lane since).up = s.up := by
  have h := State.laneFails_step (x1 := e) (x2 := dir) (x3 := lane) (x4 := since) (Step.refl 72075364412425394 s) (by decide)
  exact ⟨h.beat (by decide), h.up (by decide)⟩

/-- The panels on the two sides of an edge, the lower number first. -/
theorem seamPanels_lt {a b : Nat} (h : seamPanels e = some (a, b)) : a < b := by
  unfold seamPanels at h
  dsimp only at h
  split at h
  · obtain ⟨rfl, rfl⟩ := Prod.mk.inj (Option.some.inj h)
    omega
  · split at h
    · obtain ⟨rfl, rfl⟩ := Prod.mk.inj (Option.some.inj h)
      omega
    · cases h

end

section

variable {s : State} {e : Fin 144} {d : Fin 2} {n : Fin 14} (hb : bit (s.wafer.laneFail.get 0 ((e.val + 1) * 2 + d.val)) n.val = false)

include hb

theorem settles_seamLaneFail (hl : s.beat.lock ≠ .search) :
    settles (.seamLaneFail e d n) s (reportFields ++ ([.wafer, .suspects, .moves, .tiles] : List Field)) fun u =>
      u.wafer.laneFail.get 0 ((e.val + 1) * 2 + d.val) = setBit (s.wafer.laneFail.get 0 ((e.val + 1) * 2 + d.val)) n.val ∧
      (∀ j, j ≠ (e.val + 1) * 2 + d.val → u.wafer.laneFail.get 0 j = s.wafer.laneFail.get 0 j) ∧
      u.wafer.laneForce = s.wafer.laneForce ∧ u.wafer.epoch = s.wafer.epoch ∧ u.wafer.mode = s.wafer.mode ∧
      (popcount 14 (setBit (s.wafer.laneFail.get 0 ((e.val + 1) * 2 + d.val)) n.val) < 3 →
        s.firedOnce 0x0401 u ∧ u.suspects = s.suspects ∧ u.tiles = s.tiles ∧ u.wafer.panel = s.wafer.panel) ∧
      (3 ≤ popcount 14 (setBit (s.wafer.laneFail.get 0 ((e.val + 1) * 2 + d.val)) n.val) →
        s.firedMore u 0x0402 ∧ ∀ a b, seamPanels (e.val + 1) = some (a, b) → a < b ∧ u.panelLost b = true) := by
  have hx : exec (.seamLaneFail e d n) s = .next (State.settle s (s.laneFails (e.val + 1) d.val n.val s.beat.n)) :=
    (whenSettled_true rfl s _).trans (by rw [State.atOnce_later (by rw [State.laneFails_beat.1]; exact hl)])
  obtain ⟨t, hw⟩ := State.laneFails_wafer (since := s.beat.n) hb
  refine settles_step hx (State.laneFails_step (Step.refl _ s) (by decide)) ⟨?_, fun j hj => ?_, by rw [hw], by rw [hw], by rw [hw], fun h => ?_,
    fun h => ⟨State.laneFails_firedLost hb h, fun a b hp => ⟨seamPanels_lt hp, State.laneFails_panel hb h hp⟩⟩⟩
  · rw [hw]
    exact Tab.get_set_same _ _ _ _
  · rw [hw]
    exact Tab.get_set_other _ _ _ hj
  · refine ⟨State.laneFails_firedSpare hb h, ?_⟩
    rw [State.laneFails_spare hb h]
    simp [State.laneMarked]

theorem settles_seamLaneFail_search (hl : s.beat.lock = .search) (hr : s.up.restore = none) :
    settles (.seamLaneFail e d n) s (reportFields ++ entryFields ++
        ([.wafer, .sessions, .frames, .skips, .setSkips, .suspects, .moves, .tiles, .attach, .plans, .power] : List Field)) fun u =>
      u.wafer.laneFail.get 0 ((e.val + 1) * 2 + d.val) = setBit (s.wafer.laneFail.get 0 ((e.val + 1) * 2 + d.val)) n.val ∧
      (∀ j, j ≠ (e.val + 1) * 2 + d.val → u.wafer.laneFail.get 0 j = s.wafer.laneFail.get 0 j) ∧
      u.wafer.laneForce = u.wafer.laneFail ∧ u.wafer.mode = s.wafer.mode ∧
      (s.wafer.laneForce = s.wafer.laneFail → u.wafer.epoch = s.wafer.epoch + 1) ∧
      (popcount 14 (setBit (s.wafer.laneFail.get 0 ((e.val + 1) * 2 + d.val)) n.val) < 3 → s.firedMore u 0x0401) ∧
      (3 ≤ popcount 14 (setBit (s.wafer.laneFail.get 0 ((e.val + 1) * 2 + d.val)) n.val) → s.firedMore u 0x0402) := by
  obtain ⟨hbeat, hup⟩ := State.laneFails_beat (s := s) (e := e.val + 1) (dir := d.val) (lane := n.val) (since := s.beat.n)
  have hx : exec (.seamLaneFail e d n) s = .next (State.settle s (s.laneFails (e.val + 1) d.val n.val s.beat.n).lanesApply) :=
    (whenSettled_true rfl s _).trans (by rw [State.atOnce_lanes (by rw [hbeat]; exact hl) (by rw [hup]; exact hr)])
  obtain ⟨t, hw⟩ := State.laneFails_wafer (since := s.beat.n) hb
  have hcalm : Calm sideDets (s.laneFails (e.val + 1) d.val n.val s.beat.n) (s.laneFails (e.val + 1) d.val n.val s.beat.n).lanesApply :=
    State.lanesApply_calm (fun _ h => h) (Calm.refl _ _)
  have hlost := State.laneFails_firedLost (since := s.beat.n) hb
  have hspare := State.laneFails_firedSpare (since := s.beat.n) hb
  have hstep := State.laneFails_step (x1 := e.val + 1) (x2 := d.val) (x3 := n.val) (x4 := s.beat.n) (Step.refl (maskOf (reportFields ++ entryFields ++
    [.wafer, .sessions, .frames, .skips, .setSkips, .suspects, .moves, .tiles, .attach, .plans, .power])) s) (by decide)
  generalize s.laneFails (e.val + 1) d.val n.val s.beat.n = a at *
  obtain ⟨ep, en, ha⟩ := State.lanesApply_wafer a
  refine settles_step hx (State.lanesApply_step hstep (by decide)) ⟨?_, fun j hj => ?_, by rw [ha], by rw [ha, hw], fun he => ?_,
    fun h => State.firedMore_calm (hspare h).1 hcalm (by decide), fun h => State.firedMore_calm (hlost h) hcalm (by decide)⟩
  · rw [ha, hw]
    exact Tab.get_set_same _ _ _ _
  · rw [ha, hw]
    exact Tab.get_set_other _ _ _ hj
  · refine (State.lanesApply_epoch (by rw [hbeat, hl]) fun heq => ?_).trans (by rw [hw])
    rw [hw] at heq
    have hget := congrArg (fun t => Tab.get t 0 ((e.val + 1) * 2 + d.val)) (he.symm.trans heq)
    exact setBit_ne hb (hget.trans (Tab.get_set_same _ _ _ _)).symm

end

/-! ### A pass-through lane fails (R39) -/

section

variable {s : State} {p : PanelId} {ns : Bool} {n : Pos12} (hb : bit (s.wafer.passFail.get 0 (p.val * 2 + flag ns)) n.val = false)

/-- The state with a pass-through lane marked failed, and the detector fired. -/
def State.passMarked (s : State) (p lane axis : Nat) : State :=
  { s with wafer := { s.wafer with passFail := s.wafer.passFail.set (p * 2 + axis) (setBit (s.wafer.passFail.get 0 (p * 2 + axis)) lane) } }.fire 0x0403
    (s.wafer.passUnit p axis) 0

theorem State.passMarked_keeps (p lane axis : Nat) : (s.passMarked p lane axis).wafer = { s.wafer with
      passFail := s.wafer.passFail.set (p * 2 + axis) (setBit (s.wafer.passFail.get 0 (p * 2 + axis)) lane) } ∧
    (s.passMarked p lane axis).beat = s.beat ∧ (s.passMarked p lane axis).up = s.up := by simp [State.passMarked]

theorem State.passMarked_step {G : Nat} (hG : sub (maskOf [.wafer, .det, .log, .logMade, .faultBuffer]) G = true) (p lane axis : Nat) :
    Step G s (s.passMarked p lane axis) :=
  State.fire_step ((Step.refl _ s).put (F := 2) (sub_trans (by decide) hG) rfl fun v => ⟨v.1, v.2, v.3, v.4, v.5, v.6, v.7⟩) (sub_trans (by decide) hG)

theorem State.passMarked_fired (p lane axis : Nat) : s.firedOnce 0x0403 (s.passMarked p lane axis) :=
  State.firedOnce_fire (x := { s with wafer := _ }) rfl rfl _ _ _

include hb

theorem exec_passThroughLaneFail_due : exec (.passThroughLaneFail p ns n) s = .next (s.passMarked p.val n.val (flag ns)).atOnce :=
  whenDue_true (by rw [hb]; rfl) s _

theorem completes_passThroughLaneFail (hl : s.beat.lock ≠ .search) :
    completes (.passThroughLaneFail p ns n) s [.wafer, .det, .log, .logMade, .faultBuffer] fun t =>
      t.wafer.passFail.get 0 (p.val * 2 + flag ns) = setBit (s.wafer.passFail.get 0 (p.val * 2 + flag ns)) n.val ∧
      t.wafer.passForce = s.wafer.passForce ∧ t.wafer.epoch = s.wafer.epoch ∧ s.firedOnce 0x0403 t := by
  have hx := exec_passThroughLaneFail_due hb
  obtain ⟨hw, hbeat, -⟩ := State.passMarked_keeps (s := s) p.val n.val (flag ns)
  rw [State.atOnce_later (by rw [hbeat]; exact hl)] at hx
  refine completes_step hx (State.passMarked_step (by decide) _ _ _) ⟨?_, by rw [hw], by rw [hw], State.passMarked_fired _ _ _⟩
  rw [hw]
  exact Tab.get_set_same _ _ _ _

theorem completes_passThroughLaneFail_search (hl : s.beat.lock = .search) (hr : s.up.restore = none) :
    completes (.passThroughLaneFail p ns n) s (entryFields ++ ([.wafer, .sessions, .frames, .skips, .setSkips, .tiles, .attach, .plans, .power] :
        List Field)) fun t =>
      t.wafer.passFail.get 0 (p.val * 2 + flag ns) = setBit (s.wafer.passFail.get 0 (p.val * 2 + flag ns)) n.val ∧
      t.wafer.passForce = t.wafer.passFail ∧ s.firedMore t 0x0403 := by
  have hx := exec_passThroughLaneFail_due hb
  obtain ⟨hw, hbeat, hup⟩ := State.passMarked_keeps (s := s) p.val n.val (flag ns)
  rw [State.atOnce_lanes (by rw [hbeat, hl]) (by rw [hup, hr])] at hx
  obtain ⟨ep, en, ha⟩ := State.lanesApply_wafer (s.passMarked p.val n.val (flag ns))
  refine completes_step hx (State.lanesApply_step (State.passMarked_step (by decide) _ _ _) (by decide)) ⟨?_, by rw [ha],
    State.firedMore_calm (State.passMarked_fired _ _ _).1 (State.lanesApply_calm (fun _ h => h) (Calm.refl sideDets _)) (by decide)⟩
  rw [ha, hw]
  exact Tab.get_set_same _ _ _ _

end

end Sys2Proof.Machine

namespace Sys2Proof.Proofs

open Sys2Proof.Machine

/-- Settles O7: a lane's failure by the count of its direction, at a boundary or, before the first lock, at once. -/
theorem laneFailures : Obligations.LaneFailures := by
  unfold Obligations.LaneFailures
  exact ⟨fun s e d n hb => ⟨settles_seamLaneFail hb, settles_seamLaneFail_search hb⟩,
    fun s p ns n hb => ⟨completes_passThroughLaneFail hb, completes_passThroughLaneFail_search hb⟩⟩

end Sys2Proof.Proofs
end

section
/-! Proofs about a line boundary. -/

namespace Sys2Proof.Machine

/-! ### Slots that are not closing -/

/-- Every slot that is not closing reads as before. -/
def State.slotsKept (s t : State) : Prop := ∀ k, (s.sessionOf k).closing = false → t.sessionOf k = s.sessionOf k

section

variable {s s0 t : State}

theorem State.slotsKept.trans (h : s0.slotsKept s) (k : s.slotsKept t) : s0.slotsKept t := fun j hj =>
  (k j (by rw [h j hj]; exact hj)).trans (h j hj)

theorem State.slotsKept_of (h : s0.slotsKept s) (e : t.sessions = s.sessions) : s0.slotsKept t := fun j hj =>
  (State.sessionOf_congr e j).trans (h j hj)

theorem State.slotsKept_refl (s : State) : s.slotsKept s := fun _ _ => rfl

theorem State.slotsKept_each {α : Type} {f : State → α → State} (l : List α) (h : s0.slotsKept s) (hf : ∀ u x, s0.slotsKept u → s0.slotsKept (f u x)) :
    s0.slotsKept (each l f s) := by
  induction l generalizing s with
  | nil => exact h
  | cons a r ih => exact ih (hf s a h)

theorem State.slotsKept_slotFree {k : Nat} (h : (s.sessionOf k).closing = true) : s.slotsKept (s.slotFree k) := fun j hj => by
  have hne : j ≠ k := fun e => by rw [e, h] at hj; cases hj
  have hs : (s.slotFree k).sessions = s.sessions.erase k := by
    have hd : (s.detachSlot k).sessions = s.sessions := (State.detachSlot_step (Step.refl 72075891611274368 s) (by decide)).sessions (by decide)
    unfold State.slotFree
    dsimp only
    split
    · simp [hd]
    · rw [hd]
  unfold State.sessionOf
  rw [hs]
  exact Tab.get_erase_other _ _ hne

theorem State.slotsKept_slotCheck (h : s0.slotsKept s) (k : Nat) : s0.slotsKept (s.slotCheck k) := by
  unfold State.slotCheck
  split
  · rename_i hc
    exact h.trans (State.slotsKept_slotFree (Bool.and_eq_true_iff.1 hc).1)
  · exact h

theorem State.slotsKept_frameDone (h : s0.slotsKept s) (key : Nat) (st : Status) (det : Nat) : s0.slotsKept (s.frameDone key st det) := by
  unfold State.frameDone
  split
  · exact h
  · rename_i f _
    refine State.slotsKept_slotCheck (State.slotsKept_of h ?_) _
    have hl : (s.laneLeave f key).sessions = s.sessions := (State.laneLeave_step (Step.refl 4398046511104 s) (by decide)).sessions (by decide)
    rw [State.entryDone_sessions]
    split
    · simp [hl]
    · split <;> simp [hl]

theorem State.slotsKept_skipFrame (h : s0.slotsKept s) (key : Nat) : s0.slotsKept (s.skipFrame key) := by
  unfold State.skipFrame
  split
  · exact h
  · refine State.slotsKept_frameDone ?_ _ _ _
    exact State.slotsKept_of h rfl

theorem State.slotsKept_skipCandidate (h : s0.slotsKept s) (key : Nat) (f : Frame) : s0.slotsKept (s.skipCandidate key f) := by
  unfold State.skipCandidate
  split
  · exact State.slotsKept_skipFrame h _
  · exact State.slotsKept_each _ (State.slotsKept_of h rfl) fun _ k hu => State.slotsKept_skipFrame hu k

theorem slotsKept_skipLoop (k : Nat) : ∀ (fuel : Nat) {s : State}, s0.slotsKept s → s0.slotsKept (skipLoop fuel k s)
  | 0, _, h => h
  | fuel + 1, s, h => by
    rw [skipLoop]
    split
    · exact h
    · split
      · exact State.slotsKept_of h (State.bump64_sessions ..)
      · exact slotsKept_skipLoop k fuel (State.slotsKept_skipCandidate h _ _)

theorem State.slotsKept_rebudget (h : s0.slotsKept s) : s0.slotsKept s.rebudget :=
  State.slotsKept_each _ h fun _ k hu => slotsKept_skipLoop k _ hu

theorem State.slotsKept_epochStep (h : s0.slotsKept s) : s0.slotsKept s.epochStep := by
  unfold State.epochStep
  dsimp only
  split
  · exact State.slotsKept_rebudget h
  · exact State.slotsKept_rebudget (State.slotsKept_of h rfl)

theorem State.slotsKept_lanesApply (h : s0.slotsKept s) : s0.slotsKept s.lanesApply := by
  unfold State.lanesApply
  dsimp only
  split
  · exact h
  · split
    · exact State.slotsKept_of h rfl
    · exact State.slotsKept_epochStep (State.slotsKept_of h rfl)

/-- Before a restore rebuilds the grid and after, no slot changes but by the epoch step. -/
theorem State.slotsKept_restoreFinish (h : s0.slotsKept s) (failed : List Nat) : s0.slotsKept (s.restoreFinish failed) := by
  unfold State.restoreFinish
  dsimp only
  have hr : ∀ x : State, x.rebuiltReport.sessions = x.sessions := fun x =>
    (State.rebuiltReport_step (Step.refl 72075188318766256 x) (by decide)).sessions (by decide)
  have hl : ∀ x : State, x.lostDomainsOff.sessions = x.sessions := fun x =>
    (State.lostDomainsOff_step (Step.refl 4503737066323968 x) (by decide)).sessions (by decide)
  refine State.slotsKept_of (State.slotsKept_of (State.slotsKept_epochStep ?_) (hl _)) ((hr _).trans rfl)
  refine State.slotsKept_of (t := { (each _ State.clearPanel _) with wafer := _, up := _ }) (s := each _ State.clearPanel _) ?_ rfl
  refine State.slotsKept_each _ (State.slotsKept_each _ h fun u p hu => State.slotsKept_of hu ?_) fun u p hu => State.slotsKept_of hu rfl
  simp

theorem State.restoreApply_none (h : s.up.restore = none) : s.restoreApply = s := by
  unfold State.restoreApply
  rw [h]

theorem State.restoreApply_some {x : List Nat × Bool} (h : s.up.restore = some x) : s.restoreApply =
    if (if x.2 then s else s.restoreBegin x.1).restoreBusy x.1 then (if x.2 then s else s.restoreBegin x.1)
    else (if x.2 then s else s.restoreBegin x.1).restoreFinish x.1 := by
  unfold State.restoreApply
  rw [h]

theorem State.slotsKept_restoreApply (h : s0.slotsKept s) : s0.slotsKept s.restoreApply := by
  have hb : ∀ (x : State) failed, (x.restoreBegin failed).sessions = x.sessions := fun x failed =>
    (State.restoreBegin_step (Step.refl 13510798882111490 x) (by decide)).sessions (by decide)
  cases hr : s.up.restore with
  | none =>
    rw [State.restoreApply_none hr]
    exact h
  | some x =>
    rw [State.restoreApply_some hr]
    have ha : s0.slotsKept (if x.2 then s else s.restoreBegin x.1) := by
      split
      · exact h
      · exact State.slotsKept_of h (hb _ _)
    generalize (if x.2 then s else s.restoreBegin x.1) = a at ha
    split
    · exact ha
    · exact State.slotsKept_restoreFinish ha _

end

/-! ### The count of lines (R64, R73) -/

/-- Where a line begins a frame, the anchor moves to it without a change of its stamp. -/
theorem Beat.stampOf_step (b : Beat) (at_ : Nat) (h : b.lines ≤ 4095) : (b.step at_).stampOf ((b.n + 1) * 65536) = b.stampOf ((b.n + 1) * 65536) := by
  have hn : ∀ c : Beat, c.stampOf ((b.n + 1) * 65536) = c.stampAt ((b.n + 1 : Nat) : Int) 0 := fun c => by
    unfold Beat.stampOf
    rw [Nat.mul_div_cancel _ (by decide), Nat.mul_mod_left]
  rw [hn, hn]
  unfold Beat.step
  dsimp only
  split
  · rename_i hline
    rw [hn] at hline
    rw [hn]
    unfold Beat.stampAt at *
    dsimp only at *
    by_cases h0 : b.lines = 0
    · rw [if_pos h0, if_pos h0]
    · rw [if_neg h0] at hline ⊢
      rw [if_neg h0]
      have hf : unsigned 32 ((b.f0 : Int) + (((b.n + 1 : Nat) : Int) - b.n0) / (b.lines : Int)) < 2 ^ 32 := by
        unfold unsigned
        omega
      have hl : ((((b.n + 1 : Nat) : Int) - b.n0) % (b.lines : Int)).toNat < b.lines := by
        have := Int.emod_lt_of_pos (((b.n + 1 : Nat) : Int) - b.n0) (b := (b.lines : Int)) (by omega)
        omega
      generalize unsigned 32 ((b.f0 : Int) + (((b.n + 1 : Nat) : Int) - b.n0) / (b.lines : Int)) = f at *
      generalize ((((b.n + 1 : Nat) : Int) - b.n0) % (b.lines : Int)).toNat = l at *
      have hl0 : l = 0 := by
        unfold bits at hline
        omega
      have hbits : bits (f * 2 ^ 32 + l * 65536 + 0) 63 32 = f := by
        unfold bits
        omega
      rw [hbits, hl0, sub_self, Int.zero_ediv, Int.zero_emod]
      have hu : unsigned 32 ((f : Int) + 0) = f := by
        unfold unsigned
        omega
      simp only [hu, Int.toNat_zero]
  · rfl

/-! ### What a boundary brings -/

section

variable {s s0 : State}

/-- The slots after the retimes that are due have taken effect. -/
theorem State.sessionOf_retimesApply {k : Nat} {r : Retime} (h : (s.sessionOf k).retimes = [r]) (hr : r.after < s.beat.n * 65536) :
    (s.retimesApply.sessionOf k).p = r.p ∧ (s.retimesApply.sessionOf k).phase = r.phase ∧ (s.retimesApply.sessionOf k).m = r.m ∧
      (s.retimesApply.sessionOf k).retimes = [] := by
  have hd : retimeDue s.beat.n (s.sessionOf k).retimes = some (r, []) := by
    rw [h]
    simp [retimeDue, hr]
  unfold State.sessionOf Tab.get at *
  cases hx : s.sessions.find k with
  | none =>
    rw [hx] at h
    cases h
  | some x =>
    rw [hx] at hd
    have hf : s.retimesApply.sessions.find k = some { x with p := r.p, phase := r.phase, m := r.m, retimes := []
                                                             nextBeat := beatFrom r.p r.phase (s.beat.n * 65536) } := by
      unfold State.retimesApply
      rw [Tab.find_mapVals, hx]
      simp only [Option.map_some]
      rw [show retimeDue s.beat.n x.retimes = _ from hd]
    rw [hf]
    exact ⟨rfl, rfl, rfl, rfl⟩

/-- The boundary's work before the retimes. -/
def State.boundaryFirst (s : State) : State := s.lanesApply.restoreApply.clocksApply

theorem State.boundaryWork_eq (s : State) : s.boundaryWork = s.boundaryFirst.retimesApply.leasesApply := rfl

theorem State.boundaryWork_keeps (s : State) : s.boundaryWork.beat = s.beat ∧ s.boundaryWork.now = s.now ∧ s.boundaryFirst.beat = s.beat := by
  have h := State.boundaryWork_step (Step.refl 85591098212175034 s) (by decide)
  have h1 : Step 85591098212175034 s s.boundaryFirst :=
    State.clocksApply_step (State.restoreApply_step (State.lanesApply_step (Step.refl _ s) (by decide)) (by decide)) (by decide)
  exact ⟨h.beat (by decide), h.now (by decide), h1.beat (by decide)⟩

theorem State.boundaryWork_sessions (s : State) : s.boundaryWork.sessions = s.boundaryFirst.retimesApply.sessions :=
  (State.leasesApply_step (Step.refl 8589934640 s.boundaryFirst.retimesApply) (by decide)).sessions (by decide)

theorem State.slotsKept_boundaryFirst (s : State) : s.slotsKept s.boundaryFirst :=
  State.slotsKept_of (State.slotsKept_restoreApply (State.slotsKept_lanesApply (State.slotsKept_refl s)))
    ((State.clocksApply_step (Step.refl 4503599627370496 _) (by decide)).sessions (by decide))

/-- Without a restore only the lanes change the wafer map at a boundary. -/
theorem State.boundaryWork_wafer (h : s.up.restore = none) : s.boundaryWork.wafer = s.lanesApply.wafer := by
  have hup : s.lanesApply.up = s.up := (State.lanesApply_step (Step.refl 72080289657998474 s) (by decide)).up (by decide)
  rw [State.boundaryWork_eq, State.boundaryFirst, State.restoreApply_none (by rw [hup, h])]
  exact (State.leasesApply_step (State.retimesApply_step (State.clocksApply_step (Step.refl 4503608217305144 s.lanesApply) (by decide)) (by decide))
    (by decide)).wafer (by decide)

theorem State.lanesApply_same (h1 : s.wafer.laneForce = s.wafer.laneFail) (h2 : s.wafer.passForce = s.wafer.passFail) : s.lanesApply = s :=
  if_pos ⟨h1, h2⟩

theorem State.epochStep_first (h : s.beat.lock ≠ .search) (hn : s.wafer.epochN ≠ some s.beat.n) : s.epochStep.wafer.epoch = s.wafer.epoch + 1 := by
  unfold State.epochStep
  dsimp only
  rw [if_neg fun e => hn e.1, State.rebudget_wafer]

/-- Lanes that change step the epoch where a seam or a cost changes with them. -/
theorem State.lanesApply_steps (hl : s.beat.lock ≠ .search) (hc : s.wafer.laneForce ≠ s.wafer.laneFail ∨ s.wafer.passForce ≠ s.wafer.passFail) :
    let w := { s.wafer with laneForce := s.wafer.laneFail, passForce := s.wafer.passFail }
    let steps := s.wafer.laneForce ≠ s.wafer.laneFail ∨ ∃ e, e < 145 ∧ s.wafer.seamCost e ≠ w.seamCost e
    (steps → s.wafer.epochN ≠ some s.beat.n → s.lanesApply.wafer.epoch = s.wafer.epoch + 1) ∧
      (¬ steps → s.lanesApply.wafer.epoch = s.wafer.epoch) := by
  intro w steps
  have hx : s.lanesApply = if s.wafer.laneForce = s.wafer.laneFail ∧ ((List.range 145).all fun e => s.wafer.seamCost e == w.seamCost e) = true
      then { s with wafer := w } else State.epochStep { s with wafer := w } := if_neg (by tauto)
  have hiff : (s.wafer.laneForce = s.wafer.laneFail ∧ ((List.range 145).all fun e => s.wafer.seamCost e == w.seamCost e) = true) ↔ ¬ steps := by
    simp only [steps, not_or, not_not, not_exists, not_and, List.all_eq_true, List.mem_range, beq_iff_eq]
  refine ⟨fun hs hn => ?_, fun hs => ?_⟩
  · rw [hx, if_neg fun e => hiff.1 e hs]
    exact State.epochStep_first (s := { s with wafer := w }) hl hn
  · rw [hx, if_pos (hiff.2 hs)]

end

/-! ### LINE_BOUNDARY -/

section

variable {s : State}

/-- The unit at its predicted boundary. -/
def State.predicted (s : State) : State := { s.advanceTo (s.beat.boundaryAt + s.beat.period) with beat := s.beat.predict }

/-- The unit at its predicted boundary, with the local count stepped. -/
def State.counted (s : State) : State := { s.predicted with beat := s.beat.predict.step (s.beat.boundaryAt + s.beat.period) }

theorem exec_lineBoundary_due (hl : s.beat.lock ≠ .search) (hd : s.beat.lock = .locked → s.beat.decided = true) :
    exec .lineBoundary s = .next (State.settle s (if s.beat.held = 0 then s.counted.boundaryWork else s.predicted)) := by
  refine whenSettled_true ?_ s _
  rw [Bool.and_eq_true, Bool.or_eq_true]
  refine ⟨by simpa using hl, ?_⟩
  by_cases h : s.beat.lock = .locked
  · exact .inr (hd h)
  · exact .inl (by simpa using h)

theorem State.counted_beat (s : State) : s.counted.beat.n = s.beat.n + 1 ∧ s.counted.beat.lock = s.beat.lock ∧
    s.counted.beat.boundaryAt = s.beat.boundaryAt + s.beat.period ∧ s.counted.beat.period = s.beat.period ∧ s.counted.beat.lines = s.beat.lines ∧
    s.counted.beat.decided = false ∧ s.counted.beat.tickAt = s.beat.boundaryAt + s.beat.period := by
  show (s.beat.predict.step _).n = _ ∧ (s.beat.predict.step _).lock = _ ∧ (s.beat.predict.step _).boundaryAt = _ ∧
    (s.beat.predict.step _).period = _ ∧ (s.beat.predict.step _).lines = _ ∧ (s.beat.predict.step _).decided = _ ∧ (s.beat.predict.step _).tickAt = _
  unfold Beat.step
  dsimp only
  split <;> exact ⟨rfl, rfl, rfl, rfl, rfl, rfl, rfl⟩

/-- The new line's stamp is the one that the old anchor gave it. -/
theorem State.counted_stamp (h : s.beat.lines ≤ 4095) : s.counted.beat.stampOf (s.counted.beat.n * 65536) = s.beat.stampOf ((s.beat.n + 1) * 65536) := by
  rw [(State.counted_beat s).1]
  exact Beat.stampOf_step s.beat.predict _ h

theorem State.counted_keeps (s : State) : s.counted.wafer = s.wafer ∧ s.counted.up = s.up ∧ s.counted.sessions = s.sessions ∧
    s.counted.now = max s.now (s.beat.boundaryAt + s.beat.period) := ⟨rfl, rfl, rfl, rfl⟩

end

end Sys2Proof.Machine

namespace Sys2Proof.Proofs

open Sys2Proof.Machine

/-- Settles O11: the boundary's own count, then what it brings: lanes, a restore, clocks, retimes. -/
theorem lineBoundary : Obligations.LineBoundary := by
  unfold Obligations.LineBoundary
  intro s hl hd
  have hx := exec_lineBoundary_due hl hd
  by_cases hh : s.beat.held = 0
  · rw [if_pos hh] at hx
    obtain ⟨hn, hlock, hat, hper, hlines, hdec, htick⟩ := State.counted_beat s
    obtain ⟨hw, hup, hses, hnow⟩ := State.counted_keeps s
    have hstamp := State.counted_stamp (s := s)
    generalize s.counted = c at *
    obtain ⟨hb, hnw, hb1⟩ := State.boundaryWork_keeps c
    refine completes_of hx (exec_lineBoundary s) (by decide) ⟨?_, ?_, ?_, ?_, ?_, ?_, fun h => absurd hh (by omega), fun _ => ⟨?_, ?_, fun h => ?_,
      fun hr h1 h2 => ?_, fun hr hc => ?_, fun k r hcl hret haf => ?_⟩⟩
    · rw [State.settle_now, hnw, hnow]
    · rw [State.settle_beat, hb, hat]
    · rw [State.settle_beat, hb, hlock]
    · rw [State.settle_beat, hb, hper]
    · rw [State.settle_beat, hb, hlines]
    · rw [State.settle_beat, hb, hdec]
    · rw [State.settle_beat, hb, hn]
    · rw [State.settle_beat, hb, htick]
    · rw [State.settle_beat, hb]
      exact hstamp h
    · rw [State.settle_wafer, State.boundaryWork_wafer (by rw [hup, hr]), State.lanesApply_same (by rw [hw, h1]) (by rw [hw, h2]), hw]
    · intro w steps
      have hlc : c.beat.lock ≠ .search := by rw [hlock]; exact hl
      obtain ⟨hs, hns⟩ := State.lanesApply_steps hlc (by rw [hw]; exact hc)
      obtain ⟨ep, en, hla⟩ := State.lanesApply_wafer c
      rw [hw] at hs hns hla
      rw [State.settle_wafer, State.boundaryWork_wafer (by rw [hup, hr])]
      exact ⟨by rw [hla], by rw [hla], fun h1 h2 => hs h1 (by rw [hn]; exact h2), hns⟩
    · have hkept := State.slotsKept_boundaryFirst c k (by rw [State.sessionOf_congr hses]; exact hcl)
      rw [State.sessionOf_congr hses] at hkept
      have hret' := State.sessionOf_retimesApply (s := c.boundaryFirst) (k := k) (r := r) (by rw [hkept, hret]) (by rw [hb1, hn]; exact haf)
      rw [State.sessionOf_congr (s := c.boundaryFirst.retimesApply) (by rw [State.settle_sessions, State.boundaryWork_sessions])]
      exact hret'
  · rw [if_neg hh] at hx
    refine completes_of hx (exec_lineBoundary s) (by decide) ⟨?_, ?_, ?_, ?_, ?_, ?_, fun _ => ⟨?_, ?_, ?_, ?_, ?_⟩, fun h => absurd h hh⟩
    · rw [State.settle_now]
      rfl
    · rw [State.settle_beat]
      rfl
    · rw [State.settle_beat]
      rfl
    · rw [State.settle_beat]
      rfl
    · rw [State.settle_beat]
      rfl
    · rw [State.settle_beat]
      rfl
    · rw [State.settle_beat]
      rfl
    · rw [State.settle_beat]
      rfl
    · rw [State.settle_beat]
      rfl
    · rw [State.settle_wafer]
      rfl
    · rw [State.settle_sessions]
      rfl

end Sys2Proof.Proofs
end

section
/-! Proofs about closing sessions and their beats. -/

namespace Sys2Proof.Machine

/-! ### Entries beside one that ends -/

section

variable {s : State} {id idx i j : Nat} {e : EntryRun}

theorem State.entryOf_of_lists {l : ListRun} (h : s.lists.find id = some l) :
    s.entryOf id idx = l.entries.find? fun e => e.idx == idx && e.status.isNone := by
  unfold State.entryOf
  rw [h]

/-- The end of one entry leaves another of its list where it was. -/
theorem find?_ended {l : List EntryRun} (h : j ≠ idx) (f : EntryRun → EntryRun) (hf : ∀ x, (f x).idx = x.idx) :
    (l.map fun x => if x.idx = j then f x else x).find? (fun e => e.idx == idx && e.status.isNone) =
      l.find? fun e => e.idx == idx && e.status.isNone := by
  induction l with
  | nil => rfl
  | cons a r ih =>
    rw [List.map_cons]
    by_cases ha : a.idx = j
    · rw [if_pos ha, List.find?_cons_of_neg (by rw [hf, ha]; simp [h]), List.find?_cons_of_neg (by rw [ha]; simp [h]), ih]
    · rw [if_neg ha, List.find?_cons, List.find?_cons, ih]

theorem State.listCheck_keeps {l : ListRun} (h : s.lists.find id = some l) (he : s.entryOf id idx = some e) (at_ : Nat) : s.listCheck id at_ = s := by
  unfold State.listCheck
  rw [h]
  have hmem : e ∈ l.entries := List.mem_of_find?_eq_some ((State.entryOf_of_lists h).symm.trans he)
  have hall : l.entries.all (fun e => e.status.isSome) = false := by
    rw [List.all_eq_false]
    exact ⟨e, hmem, by rw [(State.entryOf_spec he).2]; decide⟩
  dsimp only
  rw [hall, Bool.and_false, if_neg (by decide)]

/-- An entry that is outstanding stays so when another ends. -/
theorem State.entryOf_entryDoneAt_other (h : s.entryOf id idx = some e) (hne : (i, j) ≠ (id, idx)) (at_ : Nat) (st : Status)
    (det result slot : Nat) : (s.entryDoneAt at_ i j st det result slot).entryOf id idx = some e := by
  by_cases hi : i = id
  · subst hi
    have hj : j ≠ idx := fun e => hne (by rw [e])
    unfold State.entryDoneAt
    cases hl : s.lists.find i with
    | none => exact h
    | some l =>
      cases hx : s.entryOf i j with
      | none => exact h
      | some x =>
        dsimp only
        have hput : ∀ n, ({ l with waiting := if l.waiting = some j then none else l.waiting, slots := n
                                   entries := l.entries.map fun y => if y.idx = j then
              { y with status := some st, det := det, result := result, slot := slot } else y } : ListRun).entries.find?
                (fun e => e.idx == idx && e.status.isNone) = some e := fun n =>
          (find?_ended hj (fun y : EntryRun => { y with status := some st, det := det, result := result, slot := slot }) fun _ => rfl).trans
            ((State.entryOf_of_lists hl).symm.trans h)
        split
        · rw [State.listCheck_keeps (by rw [State.listPut_lists, Tab.find_set_same]) (e := e) (idx := idx)]
          · rw [State.entryOf_of_lists (by rw [State.listPut_lists, Tab.find_set_same])]
            exact hput _
          · rw [State.entryOf_of_lists (by rw [State.listPut_lists, Tab.find_set_same])]
            exact hput _
        · rw [State.listCheck_keeps (by simp only [State.dmaRelease, Tab.find_set_same]; rfl) (e := e) (idx := idx)]
          · rw [State.entryOf_of_lists (by simp only [State.dmaRelease, Tab.find_set_same]; rfl)]
            exact hput _
          · rw [State.entryOf_of_lists (by simp only [State.dmaRelease, Tab.find_set_same]; rfl)]
            exact hput _
  · have hl : (s.entryDoneAt at_ i j st det result slot).lists.find id = s.lists.find id := State.entryDoneAt_others s i _ _ _ _ _ _ id (Ne.symm hi)
    unfold State.entryOf at *
    rw [hl]
    exact h

theorem State.entryOf_entryEnd_other (h : s.entryOf id idx = some e) (hne : (i, j) ≠ (id, idx)) (st : Status) (det : Nat) :
    (s.entryEnd i j st det).entryOf id idx = some e := by
  unfold State.entryEnd
  split
  · exact h
  · exact State.entryOf_entryDoneAt_other h hne _ _ _ _ _

/-- A slot's work that is dropped ends the REWARD entries of the slot alone. -/
theorem State.entryOf_dropSlotWork {k : Nat} {free : Bool} (h : s.entryOf id idx = some e)
    (hr : ∀ a r, s.attach.find k = some a → a.reward = some r → (id, idx) ∉ r.entries) : (s.dropSlotWork k free).entryOf id idx = some e := by
  unfold State.dropSlotWork
  cases ha : s.attach.find k with
  | none => exact h
  | some a =>
    dsimp only
    have h1 : ∀ x : State, x.lists = s.lists → x.entryOf id idx = some e := fun x hx => (State.entryOf_congr hx id idx).trans h
    cases hrew : a.reward with
    | none => exact h1 _ (by simp)
    | some r =>
      dsimp only
      have key : ∀ (l : List (Nat × Nat)), (id, idx) ∉ l → ∀ x : State, x.entryOf id idx = some e →
          (each l (fun x e => x.entryEnd e.1 e.2 .deadlineMissed 0) x).entryOf id idx = some e := fun l => by
        induction l with
        | nil => exact fun _ x hx => hx
        | cons p q ih =>
          intro hp x hx
          exact ih (fun hm => hp (List.mem_cons_of_mem _ hm)) _
            (State.entryOf_entryEnd_other hx (fun e => hp (by rw [← e]; exact List.mem_cons_self)) _ _)
      exact key _ (hr a r ha hrew) _ (h1 _ (by simp))

/-! ### A slot that is freed -/

theorem State.dropSlotWork_sessions (s : State) (k : Nat) (free : Bool) : (s.dropSlotWork k free).sessions = s.sessions :=
  (State.dropSlotWork_step (Step.refl 72075891611274368 s) (by decide)).sessions (by decide)

theorem State.dropSlotWork_detached (s : State) (k : Nat) : (s.dropSlotWork k true).attach.find k = none := by
  have hkeep : ∀ (l : List (Nat × Nat)) (x : State), x.attach.find k = none →
      (each l (fun x e => x.entryEnd e.1 e.2 .deadlineMissed 0) x).attach.find k = none := fun l => by
    induction l with
    | nil => exact fun _ hx => hx
    | cons p q ih =>
      intro x hx
      refine ih _ ?_
      show (x.entryEnd p.1 p.2 .deadlineMissed 0).attach.find k = none
      unfold State.entryEnd
      split
      · exact hx
      · rw [State.entryDone_attach]; exact hx
  unfold State.dropSlotWork
  split
  next ha => exact ha
  next a ha =>
    dsimp only
    split
    · simp
    · exact hkeep _ _ (by simp)

theorem State.slotCheck_idle {k : Nat} (hc : (s.sessionOf k).closing = true) (hf : s.framesOf k = []) : s.slotCheck k = s.slotFree k := by
  unfold State.slotCheck
  rw [hc, hf]
  rfl

theorem State.slotCheck_busy {k : Nat} (hf : s.framesOf k ≠ []) : s.slotCheck k = s := by
  unfold State.slotCheck
  rw [List.isEmpty_eq_false_iff.2 hf, Bool.and_false]
  rfl

theorem State.slotFree_closer {k : Nat} (hc : (s.sessionOf k).closer = some (id, idx)) :
    s.slotFree k = State.entryDone { s.dropSlotWork k true with sessions := (s.dropSlotWork k true).sessions.erase k } id idx .ok 0 0 k := by
  unfold State.slotFree State.detachSlot
  simp only [hc]

end

/-! ### SCLOSE and SOPEN -/

/-- What becomes of a slot that is closing, checked at once (R206). -/
theorem State.closing_outcome {s z : State} {list idx k : Nat} {e : EntryRun} {y : Session} (hz : z.sessions = s.sessions.set k y)
    (hframes : z.framesOf k = s.framesOf k) (hattach : z.attach = s.attach) (htiles : z.tiles = s.tiles)
    (hentry : z.entryOf list idx = some e) (hc : y.closing = true) (hcloser : y.closer = some (list, idx))
    (hrew : ∀ a r, s.attach.find k = some a → a.reward = some r → (list, idx) ∉ r.entries) :
    s.otherSlots [k] (z.slotCheck k) ∧
      (s.framesOf k = [] → (z.slotCheck k).ended list idx .ok ∧ ((z.slotCheck k).sessionOf k).st = .free ∧
        (z.slotCheck k).attach.find k = none) ∧
      (s.framesOf k ≠ [] → ((z.slotCheck k).entryOf list idx).isSome = true ∧ (z.slotCheck k).attach = s.attach ∧
        (z.slotCheck k).tiles = s.tiles ∧ (z.slotCheck k).sessionOf k = y) := by
  obtain ⟨hother, hyk⟩ := State.slot_of_set hz
  by_cases hf : s.framesOf k = []
  · rw [State.slotCheck_idle (by rw [hyk, hc]) (hframes.trans hf), State.slotFree_closer (by rw [hyk, hcloser])]
    refine ⟨fun j hj => ?_, fun _ => ⟨State.ended_entryDone (e := e) ?_ .., ?_, ?_⟩, fun hn => absurd hf hn⟩
    · refine Eq.trans ?_ (hother j hj)
      unfold State.sessionOf
      rw [State.entryDone_sessions]
      dsimp only
      rw [State.dropSlotWork_sessions]
      exact Tab.get_erase_other _ _ (by simpa using hj)
    · exact (State.entryOf_congr (s := z.dropSlotWork k true) rfl list idx).trans
        (State.entryOf_dropSlotWork hentry fun a r ha => hrew a r (by rw [← hattach, ha]))
    · unfold State.sessionOf Tab.get
      rw [State.entryDone_sessions]
      dsimp only
      rw [Tab.find_erase_same]
      rfl
    · rw [State.entryDone_attach]
      exact State.dropSlotWork_detached _ _
  · rw [State.slotCheck_busy (by rw [hframes]; exact hf)]
    exact ⟨hother, fun hn => absurd hn hf, fun _ => ⟨by rw [hentry]; rfl, hattach, htiles, hyk⟩⟩

/-- SCLOSE of a session: free at once, or closing (R206). -/
theorem completes_sclose {s : State} {list idx : Nat} {l : ListRun} {e : EntryRun} (h : s.begun list idx 4 4 l e)
    (hrest : e.restZero [(4, 2)] = true) (hown : s.ownSlot (e.field 4 2) l.job) (hclosing : (s.sessionOf (e.field 4 2)).closing = false)
    (hrew : ∀ a r, s.attach.find (e.field 4 2) = some a → a.reward = some r → (list, idx) ∉ r.entries) :
    completes (.sclose list idx) s (entryFields ++ ([.sessions, .tiles, .attach] : List Field)) fun t => s.otherSlots [e.field 4 2] t ∧
      (s.framesOf (e.field 4 2) = [] → t.ended list idx .ok ∧ (t.sessionOf (e.field 4 2)).st = .free ∧
        t.attach.find (e.field 4 2) = none) ∧
      (s.framesOf (e.field 4 2) ≠ [] → (t.entryOf list idx).isSome = true ∧ t.attach = s.attach ∧ t.tiles = s.tiles ∧
        t.sessionOf (e.field 4 2) = { s.sessionOf (e.field 4 2) with closing := true, closer := some (list, idx) }) := by
  refine completes_accept (by unfold exec execSclose; rfl) h ?_ (exec_sclose s) (by decide) fun L he => ?_
  · simp [hrest, State.slotBad_of_ownSlot hown, State.slotForeign_of_ownSlot hown, hclosing]
  · exact State.closing_outcome (e := e) rfl rfl rfl rfl (he _ rfl) rfl rfl hrew

/-- SOPEN in SEARCH ends with BEAT_LOST (R78). -/
theorem completes_sopen_search {s : State} {list idx : Nat} {l : ListRun} {e : EntryRun} (h : s.begun list idx 4 1 l e)
    (hrest : e.restZero [(4, 2), (6, 2), (8, 4), (0xC, 2), (0xE, 1), (0xF, 1), (0x10, 2), (0x12, 1)] = true) (hk : e.field 4 2 < 4096)
    (hfree : (s.sessionOf (e.field 4 2)).st = .free) (hr : rasterGood (e.field 6 2) (e.field 8 4) (e.field 0xC 2))
    (hset : e.field 0xE 1 = 0xFF) (hc : e.field 0xF 1 < 8) (hp : e.field 0x10 2 = 0xFFFF) (hop : s.can.nmt = .operational)
    (hlock : s.beat.lock = .search) : completes (.sopen list idx) s entryFields fun t => t.ended list idx .beatLost := by
  have hst : worst (s.jobConds l.job ++ (cond (!e.restZero [(4, 2), (6, 2), (8, 4), (0xC, 2), (0xE, 1), (0xF, 1), (0x10, 2), (0x12, 1)]
          || decide (4096 ≤ e.field 4 2) || (s.sessionOf (e.field 4 2)).st != .free || rasterBad (e.field 6 2) (e.field 8 4) (e.field 0xC 2)
          || (e.field 0xE 1 != 0xFF && decide (64 ≤ e.field 0xE 1)) || decide (8 ≤ e.field 0xF 1) || false
          || s.planUnfit (e.field 0x10 2) (e.field 0xC 2) || !s.operational) .badCommand
        ++ cond (s.planForeign (e.field 0x10 2) l.job) .keyRejected ++ cond (s.beat.lock == .search) .beatLost)) = .beatLost := by
    rw [State.jobConds_open h.2, rasterBad_of_rasterGood hr, State.operational_of hop]
    simp [hrest, hfree, hset, hp, State.planUnfit, State.planForeign, hlock, cond, Nat.not_le.2 hk, Nat.not_le.2 hc]
    rfl
  have hexec : exec (.sopen list idx) s = .next (s.entryRefuse list idx .beatLost 0) := by
    show execSopen list idx s = _
    refine (State.accept_refused h.1 ?_).trans ?_
    · dsimp only
      rw [if_pos hset]
      exact fun h0 => absurd (hst.symm.trans h0) (by decide)
    · dsimp only
      rw [if_pos hset]
      exact congrArg (fun st => Host.Outcome.next (s.entryRefuse list idx st 0)) hst
  exact completes_step hexec (State.entryRefuse_step (Step.refl _ s) (by decide)) (State.ended_entryRefuse (State.begun_entryOf h) _ _)

/-! ### A session beat -/

section

variable {s z : State} {k : Nat}

theorem State.slotCheck_frames (s : State) (k : Nat) : (s.slotCheck k).frames = s.frames :=
  (State.slotCheck_step (Step.refl 72075891611274376 s) (by decide)).frames (by decide)

/-- A frame that is over leaves, and no other does. -/
theorem State.frameDone_find (key i : Nat) (st : Status) (det : Nat) :
    (s.frameDone key st det).frames.find i = if i = key then none else s.frames.find i := by
  unfold State.frameDone
  split
  next h =>
    split
    next hi => rw [hi, h]
    next => rfl
  next f _ =>
    have hl : (s.laneLeave f key).frames = s.frames := (State.laneLeave_step (Step.refl 4398046511104 s) (by decide)).frames (by decide)
    have he : ∀ x : State, x.frames = s.frames.erase key → x.frames.find i = if i = key then none else s.frames.find i := fun x hx => by
      rw [hx]
      split
      next hi => rw [hi, Tab.find_erase_same]
      next hi => rw [Tab.find_erase_other _ hi]
    rw [State.slotCheck_frames, State.entryDone_frames]
    refine he _ ?_
    split
    · rw [State.bump64_frames, hl]
    · split
      · rw [State.bump64_frames, State.bump64_frames, hl]
      · rw [hl]

/-- A slot that is checked for its end leaves the others. -/
theorem State.slotCheck_sessionOf {j : Nat} (h : j ≠ k) : (s.slotCheck k).sessionOf j = s.sessionOf j := by
  unfold State.slotCheck
  split
  · have hs : (s.slotFree k).sessions = s.sessions.erase k := by
      unfold State.slotFree State.detachSlot
      dsimp only
      split
      · rw [State.entryDone_sessions, State.dropSlotWork_sessions]
      · rw [State.dropSlotWork_sessions]
    unfold State.sessionOf
    rw [hs]
    exact Tab.get_erase_other _ _ h
  · rfl

/-- The end of a slot's frame leaves the other slots. -/
theorem State.frameDone_sessionOf {key j : Nat} (hk : ∀ f, s.frames.find key = some f → f.slot = k) (h : j ≠ k) (st : Status) (det : Nat) :
    (s.frameDone key st det).sessionOf j = s.sessionOf j := by
  unfold State.frameDone
  split
  next => rfl
  next f hf =>
    have hl : (s.laneLeave f key).sessions = s.sessions := (State.laneLeave_step (Step.refl 4398046511104 s) (by decide)).sessions (by decide)
    rw [hk f hf, State.slotCheck_sessionOf h]
    refine State.sessionOf_congr ?_ j
    rw [State.entryDone_sessions]
    split
    · rw [State.bump64_sessions]; exact hl
    · split
      · rw [State.bump64_sessions, State.bump64_sessions]; exact hl
      · exact hl

/-- Several frames of one slot that are over: they leave, the other frames and slots stay. -/
theorem State.framesDone_outcome (st : Status) (det : Nat) : ∀ (l : List Nat) (z : State),
    (∀ i ∈ l, ∀ f, z.frames.find i = some f → f.slot = k) →
      (∀ i, (each l (fun y i => y.frameDone i st det) z).frames.find i = if i ∈ l then none else z.frames.find i) ∧
        ∀ j, j ≠ k → (each l (fun y i => y.frameDone i st det) z).sessionOf j = z.sessionOf j := fun l => by
  induction l with
  | nil => exact fun z _ => ⟨fun i => by simp [each], fun j _ => rfl⟩
  | cons a r ih =>
    intro z hz
    obtain ⟨hfr, hse⟩ := ih (z.frameDone a st det) fun i hi f hf => by
      rw [State.frameDone_find] at hf
      split at hf
      · cases hf
      · exact hz i (List.mem_cons_of_mem _ hi) f hf
    refine ⟨fun i => (hfr i).trans ?_, fun j hj => (hse j hj).trans (State.frameDone_sessionOf (hz a List.mem_cons_self) hj st det)⟩
    rw [State.frameDone_find]
    by_cases hr : i ∈ r
    · rw [if_pos hr, if_pos (List.mem_cons_of_mem _ hr)]
    · rw [if_neg hr]
      by_cases ha : i = a
      · rw [if_pos ha, if_pos (ha ▸ List.mem_cons_self)]
      · rw [if_neg ha, if_neg fun hm => (List.mem_cons.1 hm).elim ha hr]

theorem findCell_of_mem {α : Type} {k : Nat} {v : α} {l : List (Nat × α)} (hl : (l.map Prod.fst).Pairwise (· < ·)) (h : (k, v) ∈ l) :
    findCell k l = some v := by
  induction l with
  | nil => cases h
  | cons c r ih =>
    rw [List.map_cons, List.pairwise_cons] at hl
    rcases List.mem_cons.1 h with rfl | hr
    · exact if_pos rfl
    · have hlt := hl.1 k (List.mem_map_of_mem (f := Prod.fst) hr)
      exact (if_neg (Nat.ne_of_lt hlt)).trans (ih hl.2 hr)

/-- The frames of a slot are those that name it. -/
theorem State.mem_framesOf {i : Nat} (h : s.frames.rises) : i ∈ s.framesOf k ↔ ∃ f, s.frames.find i = some f ∧ f.slot = k := by
  unfold State.framesOf
  rw [List.mem_map]
  constructor
  · rintro ⟨⟨j, f⟩, hm, rfl⟩
    obtain ⟨hm, hs⟩ := List.mem_filter.1 (List.mem_mergeSort.1 hm)
    exact ⟨f, findCell_of_mem h hm, beq_iff_eq.1 hs⟩
  · rintro ⟨f, hf, hs⟩
    exact ⟨(i, f), List.mem_mergeSort.2 (List.mem_filter.2 ⟨mem_of_findCell hf, beq_iff_eq.2 hs⟩), rfl⟩

/-- The next beat of a raster at or after an instant is not before it. -/
theorem le_beatFrom {p : Nat} (h : 0 < p) (phase lt : Nat) : lt ≤ beatFrom p phase lt := by
  unfold beatFrom
  rw [if_neg (by omega)]
  split
  · assumption
  · have hq : 0 < p * 65536 := by omega
    generalize p * 65536 = q at *
    have hdiv := Nat.div_add_mod (lt - phase + q - 1) q
    have hmod := Nat.mod_lt (lt - phase + q - 1) hq
    rw [Nat.mul_comm] at hdiv
    omega

/-- What a session beat leaves of its slot (R72, R83). -/
def State.beaten (s : State) (x : Session) : Session :=
  { x with
    nextBeat := beatFrom x.p x.phase (x.nextBeat + 1)
    st := if s.resumesAt x x.nextBeat then .opened else x.st
    resume := if s.resumesAt x x.nextBeat then false else x.resume }

/-- The state at a session beat, before its late frames are over. -/
def State.beatTaken (s : State) (k : Nat) : State :=
  let x := s.sessionOf k
  let s1 := if x.nextBeat / 65536 = s.beat.n then s.advanceTo (s.beat.tickAt + x.nextBeat % 65536 * s.beat.period / 65536) else s
  let s0 := { s1 with sessions := s1.sessions.set k (s.beaten x) }
  if s.resumesAt x x.nextBeat then s0.rewardResume k x.nextBeat else s0

theorem State.beatTaken_sessions (s : State) (k : Nat) : (s.beatTaken k).sessions = s.sessions.set k (s.beaten (s.sessionOf k)) := by
  unfold State.beatTaken State.rewardResume
  dsimp only
  split <;> split <;> simp

theorem State.beatTaken_frames (s : State) (k : Nat) : (s.beatTaken k).frames = s.frames := by
  unfold State.beatTaken State.rewardResume
  dsimp only
  split <;> split <;> simp

/-- The frames of a slot whose deadline has come (R81). -/
def State.lateFrames (s : State) (k lt : Nat) : List Nat :=
  (s.framesOf k).filter fun i => match s.frames.find i with
    | some f => decide (f.deadline ≤ lt)
    | none => false

theorem State.mem_lateFrames {lt i : Nat} (h : s.frames.rises) :
    i ∈ s.lateFrames k lt ↔ ∃ f, s.frames.find i = some f ∧ f.slot = k ∧ f.deadline ≤ lt := by
  unfold State.lateFrames
  rw [List.mem_filter, State.mem_framesOf h]
  constructor
  · rintro ⟨⟨f, hf, hs⟩, hd⟩
    rw [hf] at hd
    exact ⟨f, hf, hs, of_decide_eq_true hd⟩
  · rintro ⟨f, hf, hs, hd⟩
    refine ⟨⟨f, hf, hs⟩, ?_⟩
    rw [hf]
    exact decide_eq_true hd

theorem exec_sessionBeat_due {slot : SlotId} (hst : (s.sessionOf slot.val).st ≠ .free)
    (hdue : (s.sessionOf slot.val).nextBeat / 65536 ≤ s.beat.n) (hlock : s.beat.lock ≠ .search) :
    exec (.sessionBeat slot) s = .next (each ((s.beatTaken slot.val).lateFrames slot.val (s.sessionOf slot.val).nextBeat)
      (fun y i => y.frameDone i .deadlineMissed 0) (s.beatTaken slot.val)) := by
  show execSessionBeat slot s = _
  unfold execSessionBeat
  exact whenDue_true (by simp [hst, hdue, hlock]) _ _

/-- A session beat is processed once (R83). -/
theorem completes_sessionBeat {slot : SlotId} (hi : s.Inv) (hst : (s.sessionOf slot.val).st ≠ .free)
    (hdue : (s.sessionOf slot.val).nextBeat / 65536 ≤ s.beat.n) (hlock : s.beat.lock ≠ .search) :
    completes (.sessionBeat slot) s (entryFields ++ ([.now, .sessions, .frames, .tiles, .attach, .plans] : List Field)) fun t =>
      (∀ k, k ≠ slot.val → t.sessionOf k = s.sessionOf k) ∧
      (∀ i f, s.frames.find i = some f → f.slot = slot.val → f.deadline ≤ (s.sessionOf slot.val).nextBeat → t.frames.find i = none) ∧
      (∀ i f, s.frames.find i = some f → ¬ (f.slot = slot.val ∧ f.deadline ≤ (s.sessionOf slot.val).nextBeat) →
        t.frames.find i = some f) ∧
      ((s.sessionOf slot.val).closing = false → (0 < (s.sessionOf slot.val).p →
          (s.sessionOf slot.val).nextBeat < (t.sessionOf slot.val).nextBeat) ∧
        t.sessionOf slot.val = s.beaten (s.sessionOf slot.val)) := by
  obtain ⟨t, ht, hstep⟩ := exec_sessionBeat s (x0 := slot)
  obtain rfl := Host.Outcome.next.inj ((exec_sessionBeat_due hst hdue hlock).symm.trans ht)
  have hrise : (s.beatTaken slot.val).frames.rises := by rw [State.beatTaken_frames]; exact hi.tables.1
  have hsess := State.sessionOf_of_set (State.beatTaken_sessions s slot.val)
  have hlate : ∀ i, i ∈ (s.beatTaken slot.val).lateFrames slot.val (s.sessionOf slot.val).nextBeat ↔
      ∃ f, s.frames.find i = some f ∧ f.slot = slot.val ∧ f.deadline ≤ (s.sessionOf slot.val).nextBeat := fun i => by
    rw [State.mem_lateFrames hrise, State.beatTaken_frames]
  obtain ⟨hfr, hse⟩ := State.framesDone_outcome (k := slot.val) .deadlineMissed 0 _ (s.beatTaken slot.val) fun i hm f hf => by
    obtain ⟨g, hg, hs, -⟩ := (hlate i).1 hm
    rw [State.beatTaken_frames, hg] at hf
    exact Option.some.inj hf ▸ hs
  refine completes_step (exec_sessionBeat_due hst hdue hlock) (hstep.mono (by decide)) ⟨fun k hk => ?_, fun i f hf hs hd => ?_, fun i f hf hn => ?_, fun hc => ?_⟩
  · rw [hse k hk, hsess, if_neg hk]
  · rw [hfr, if_pos ((hlate i).2 ⟨f, hf, hs, hd⟩)]
  · rw [hfr, if_neg fun hm => ?_, State.beatTaken_frames, hf]
    obtain ⟨g, hg, hg'⟩ := (hlate i).1 hm
    exact hn (Option.some.inj (hg.symm.trans hf) ▸ hg')
  · have hself : (s.beatTaken slot.val).sessionOf slot.val = s.beaten (s.sessionOf slot.val) := (hsess _).trans (if_pos rfl)
    have hkept := (State.slotsKept_each
        ((s.beatTaken slot.val).lateFrames slot.val (s.sessionOf slot.val).nextBeat) (State.slotsKept_refl _) fun u i hu => State.slotsKept_frameDone hu i .deadlineMissed 0) slot.val
        (by rw [hself]; exact hc)
    refine ⟨fun hp => ?_, hkept.trans hself⟩
    rw [hkept.trans hself]
    exact le_beatFrom hp _ _

end

end Sys2Proof.Machine

namespace Sys2Proof.Proofs
open Sys2Proof.Machine

/-- Settles O14: SCLOSE by what becomes of a closing slot, a session beat by the frames that it ends. -/
theorem sessionCloseAndBeat : Obligations.SessionCloseAndBeat := by
  unfold Obligations.SessionCloseAndBeat
  refine ⟨⟨fun s list idx l e h hrest hown hc hrew => completes_sclose h hrest hown hc hrew,
    fun s list idx l e h hrest hk hfree hr hset hc hp hop hlock => completes_sopen_search h hrest hk hfree hr hset hc hp hop hlock⟩,
    fun s slot hi hst hdue hlock => completes_sessionBeat hi hst hdue hlock⟩

end Sys2Proof.Proofs
end

section
/-! Proofs about the power limit, the coolant's sensors and the temperatures. -/

namespace Sys2Proof.Machine

/-! ### A row's panels take a stage, or lose it -/

/-- A panel with its part in a stage set or cleared (R364, R365). -/
def PanelPower.limited (q : PanelPower) (stage : Nat) (on_ : Bool) : PanelPower :=
  if stage = 1 then { q with srcLimit := on_ } else { q with stopped := on_ }

/-- What the second stage makes of a memory domain's state. -/
def DomSt.limited (d : DomSt) (on_ : Bool) : DomSt :=
  if on_ then (if d = .on then .retain else d) else if d = .retain then .on else d

section

variable {s : State}

/-- One panel takes a stage, or loses it. -/
def State.limitOne (s : State) (stage : Nat) (on_ : Bool) (p : Nat) : State :=
  let q := s.panelPower p
  if stage = 1 then s.setPanelPower p { q with srcLimit := on_ }
  else
    let y := s.setPanelPower p { q with stopped := on_ }
    let m := y.domainOf (memDomain p)
    if on_ then (if m.st = .on then y.setDomain (memDomain p) ⟨.retain, false, 0⟩ else y)
    else if m.st = .retain then y.setDomain (memDomain p) ⟨.on, false, 0⟩ else y

theorem State.limitOne_panels (stage : Nat) (on_ : Bool) (p : Nat) :
    (s.limitOne stage on_ p).power.panels = s.power.panels.set p ((s.panelPower p).limited stage on_) := by
  unfold State.limitOne PanelPower.limited
  split
  · rfl
  · dsimp only
    split <;> split <;> rfl

theorem State.limitOne_panelPower (stage : Nat) (on_ : Bool) (p q : Nat) :
    (s.limitOne stage on_ p).panelPower q = if q = p then (s.panelPower p).limited stage on_ else s.panelPower q := by
  unfold State.panelPower
  rw [State.limitOne_panels]
  split
  next h => rw [h, Tab.get_set_same]; rfl
  next h => rw [Tab.get_set_other _ _ _ h]

theorem State.limitOne_domain {stage : Nat} (h : stage ≠ 1) (on_ : Bool) (p d : Nat) :
    ((s.limitOne stage on_ p).domainOf d).st = if d = memDomain p then ((s.domainOf d).st).limited on_ else (s.domainOf d).st := by
  have hset : ∀ (y : State) (x : Domain), ((y.setDomain (memDomain p) x).domainOf d) = if d = memDomain p then x else y.domainOf d := fun y x => by
    unfold State.domainOf
    split
    next h => rw [h]; exact Tab.get_set_same ..
    next h => exact Tab.get_set_other _ _ _ h
  have hput : ∀ x : PanelPower, (s.setPanelPower p x).domainOf = s.domainOf := fun _ => rfl
  unfold State.limitOne DomSt.limited
  rw [if_neg h]
  by_cases hd : d = memDomain p
  · subst hd
    rw [if_pos rfl]
    dsimp only
    split
    · split <;> simp_all
    · split <;> simp_all
  · rw [if_neg hd]
    dsimp only
    split
    · split <;> simp [hset, hput, hd]
    · split <;> simp [hset, hput, hd]

theorem DomSt.limited_twice (d : DomSt) (on_ : Bool) : (d.limited on_).limited on_ = d.limited on_ := by
  cases d <;> cases on_ <;> rfl

theorem PanelPower.limited_twice (q : PanelPower) (stage : Nat) (on_ : Bool) : (q.limited stage on_).limited stage on_ = q.limited stage on_ := by
  unfold PanelPower.limited
  split <;> rfl

theorem State.limitSet_panelPower (stage : Nat) (on_ : Bool) : ∀ (l : List Nat) (s : State) (q : Nat),
    (s.limitSet stage l on_).panelPower q = if q ∈ l then (s.panelPower q).limited stage on_ else s.panelPower q := fun l => by
  induction l with
  | nil => exact fun s q => by rw [if_neg (by simp)]; rfl
  | cons a r ih =>
    intro s q
    show ((s.limitOne stage on_ a).limitSet stage r on_).panelPower q = _
    rw [ih, State.limitOne_panelPower]
    by_cases hq : q = a
    · subst hq
      rw [if_pos rfl, if_pos List.mem_cons_self, PanelPower.limited_twice, ite_self]
    · simp [hq]

theorem State.limitSet_domain {stage : Nat} (h : stage ≠ 1) (on_ : Bool) : ∀ (l : List Nat) (s : State) (q : Nat), q ∈ l →
    ((s.limitSet stage l on_).domainOf (memDomain q)).st = ((s.domainOf (memDomain q)).st).limited on_ := fun l => by
  have hkept : ∀ (l : List Nat) (s : State) (q : Nat), q ∉ l → ((s.limitSet stage l on_).domainOf (memDomain q)).st = (s.domainOf (memDomain q)).st := fun l => by
    induction l with
    | nil => exact fun _ _ _ => rfl
    | cons a r ih =>
      intro s q hq
      obtain ⟨ha, hr⟩ := not_or.1 (fun h => hq (List.mem_cons.2 h))
      refine (ih (s.limitOne stage on_ a) q hr).trans ?_
      rw [State.limitOne_domain h, if_neg fun e => ha (by unfold memDomain at e; omega)]
  induction l with
  | nil => exact fun _ _ hq => absurd hq (by simp)
  | cons a r ih =>
    intro s q hq
    show ((State.limitSet (s.limitOne stage on_ a) stage r on_).domainOf (memDomain q)).st = _
    by_cases hr : q ∈ r
    · rw [ih _ q hr, State.limitOne_domain h]
      split
      · exact DomSt.limited_twice _ _
      · rfl
    · obtain rfl : q = a := (List.mem_cons.1 hq).resolve_right hr
      rw [hkept r _ q hr, State.limitOne_domain h, if_pos rfl]

theorem State.limitSet_actions (stage : Nat) (on_ : Bool) : ∀ (l : List Nat) (s : State),
    (s.limitSet stage l on_).power.actions = s.power.actions ∧ (s.limitSet stage l on_).power.lastAct = s.power.lastAct := fun l => by
  induction l with
  | nil => exact fun _ => ⟨rfl, rfl⟩
  | cons a r ih =>
    intro s
    have h1 : (s.limitOne stage on_ a).power.actions = s.power.actions ∧ (s.limitOne stage on_ a).power.lastAct = s.power.lastAct := by
      unfold State.limitOne
      split
      · exact ⟨rfl, rfl⟩
      · dsimp only
        split <;> split <;> exact ⟨rfl, rfl⟩
    obtain ⟨ha, hl⟩ := ih (s.limitOne stage on_ a)
    exact ⟨ha.trans h1.1, hl.trans h1.2⟩

/-! ### The report of a change of stage (R365) -/

theorem Power.stage_cons {p : Power} {a : LimitAct} {rest : List LimitAct} (h : p.actions = a :: rest) :
    p.stage = max a.stage ((rest.map fun a => a.stage).foldl max 0) := by
  have hmax : ∀ (l : List Nat) (n m : Nat), l.foldl max (max n m) = max n (l.foldl max m) := fun l => by
    induction l with
    | nil => exact fun _ _ => rfl
    | cons b r ih => intro n m; rw [List.foldl_cons, List.foldl_cons, Nat.max_assoc, ih]
  unfold Power.stage
  rw [h, List.map_cons, List.foldl_cons, Nat.max_comm, hmax]

theorem State.stageReport_power (old : Nat) : (s.stageReport old).power = s.power := by
  unfold State.stageReport
  dsimp only
  split
  · rfl
  · split <;> simp

theorem State.stageReport_cell {i j : Nat} (h : (i, j) ∉ sideCells) (hj : j < 256) (old : Nat) : (s.stageReport old).cell i j = s.cell i j := by
  unfold State.stageReport
  dsimp only
  split
  · rfl
  · refine ((State.emcyPower_report ..).cell i j hj h).trans (State.cell_congr ?_ _ _)
    split <;> simp

/-- A change of stage is reported, and the entry to stage 1 fires (R365). -/
theorem State.stageReport_reports {s0 : State} {old : Nat} (h : s.power.stage ≠ old) (hk : s0.keepsEmcy → s.keepsEmcy) (hd : s.det = s0.det) :
    s0.hasRaised (s.stageReport old) 0xFF63 (if old = 0 then 0x0A0B else 0) ∧ (old = 0 → s0.firedMore (s.stageReport old) 0x0A0B) := by
  unfold State.stageReport
  dsimp only
  rw [if_neg h]
  by_cases ho : old = 0
  · simp only [if_pos ho]
    refine ⟨State.hasRaised_of_within (State.emcyPower_raises (fun hs => ?_) (by decide) _), fun _ => ?_⟩
    · exact (State.keepsEmcy_congr (by simp) (State.setting_congr (by simp) _ _)).2 (hk hs)
    · exact State.firedMore_side (State.firedMore_fire hd _ _ _) (State.emcyPower_report ..) (by decide)
  · simp only [if_neg ho]
    exact ⟨State.hasRaised_of_within (State.emcyPower_raises hk (by decide) _), fun h => absurd h ho⟩

/-! ### The actions of the power limit (R364, R366) -/

def limitFields : List Field := [.hostA, .hostB, .cq, .pba, .tier1, .granules, .tier1Bad, .od, .can, .det, .log, .logMade, .faultBuffer,
  .absentEmcy, .segCtr, .power, .out]

/-- The last number that passes, counted down. -/
theorem find?_countdown {f : Nat → Bool} {r : Nat} (hr : f r = true) : ∀ k, r < k → (∀ n, r < n → n < k → f n = false) →
    (List.range k).reverse.find? f = some r
  | 0, h, _ => absurd h (Nat.not_lt_zero _)
  | k + 1, h, hs => by
    rw [List.range_succ, List.reverse_append, List.reverse_singleton, List.singleton_append]
    by_cases hk : r = k
    · rw [← hk, List.find?_cons_of_pos hr]
    · rw [List.find?_cons_of_neg (by rw [hs k (by omega) (by omega)]; decide)]
      exact find?_countdown hr k (by omega) fun n h1 h2 => hs n h1 (by omega)

theorem State.nextRow_of {st r : Nat} (h : s.rowIsNext st r) : s.nextRow st = some r := by
  obtain ⟨hr, hact, hfree, hlast⟩ := h
  have hskip : ∀ n, r < n → n < 8 → (!(s.activeIn n).isEmpty && !s.power.actions.any fun a => a.stage == st && a.row == n) = false := fun n h1 h2 => by
    rcases hlast n h1 h2 with he | ⟨a, ha, hs, hn⟩
    · simp [he]
    · have : (s.power.actions.any fun a => a.stage == st && a.row == n) = true := List.any_eq_true.2 ⟨a, ha, by simp [hs, hn]⟩
      simp [this]
  have htake : (!(s.activeIn r).isEmpty && !s.power.actions.any fun a => a.stage == st && a.row == r) = true := by
    have : (s.power.actions.any fun a => a.stage == st && a.row == r) = false := List.any_eq_false.2 fun a ha hm =>
      hfree ⟨a, ha, by simpa using hm⟩
    simp [this, hact]
  exact find?_countdown htake 8 hr hskip

theorem State.nextRow_none {st : Nat} (h : ∀ n, n < 8 → s.activeIn n = [] ∨ ∃ a ∈ s.power.actions, a.stage = st ∧ a.row = n) : s.nextRow st = none := by
  unfold State.nextRow
  rw [List.find?_eq_none]
  intro n hn
  have hlt : n < 8 := by simp at hn; omega
  rcases h n hlt with he | ⟨a, ha, hs, hr⟩
  · simp [he]
  · have : (s.power.actions.any fun a => a.stage == st && a.row == n) = true := List.any_eq_true.2 ⟨a, ha, by simp [hs, hr]⟩
    simp [this]

theorem exec_powerLimitAction_idle {w : W16} (h : s.up.collar = false ∨ s.atBoundary = false) : exec (.powerLimitAction w) s = .next s := by
  show execPowerLimitAction w s = _
  unfold execPowerLimitAction
  dsimp only
  split
  · rfl
  · refine whenDue_false ?_ _ _
    rcases h with h | h <;> simp [h]

theorem exec_powerLimitRelease_idle {w : W16} (h : s.up.collar = false) : exec (.powerLimitRelease w) s = .next s := by
  show execPowerLimitRelease w s = _
  unfold execPowerLimitRelease
  split
  · rfl
  · exact whenDue_false (by rw [h]; rfl) _ _

theorem exec_powerLimitAction_due {w : W16} {st r : Nat} (hc : s.up.collar = true) (hb : s.atBoundary = true) (hw : s.limitNow < w.toNat)
    (hlast : ∀ t, s.power.lastAct = some t → t + psMs ≤ s.now) (hr : s.rowIsNext st r)
    (hst : st = 1 ∨ (st = 2 ∧ ∀ n, n < 8 → s.activeIn n = [] ∨ ∃ a ∈ s.power.actions, a.stage = 1 ∧ a.row = n)) :
    exec (.powerLimitAction w) s = .next (s.limitTake st r w.toNat) := by
  have hlate : (match s.power.lastAct with
      | some t => decide (t + psMs ≤ s.now)
      | none => true) = true := by
    cases hl : s.power.lastAct with
    | none => rfl
    | some t => exact decide_eq_true (hlast t hl)
  show execPowerLimitAction w s = _
  unfold execPowerLimitAction
  have hdue : (true && s.up.collar && s.atBoundary && decide (s.limitNow < w.toNat)) = true := by rw [hc, hb, decide_eq_true hw]; rfl
  rcases hst with rfl | ⟨rfl, hall⟩
  · simp only [State.nextRow_of hr]
    exact whenDue_true ((congrArg (fun b => b && s.up.collar && s.atBoundary && decide (s.limitNow < w.toNat)) hlate).trans hdue) _ _
  · simp only [State.nextRow_none hall, State.nextRow_of hr]
    exact whenDue_true ((congrArg (fun b => b && s.up.collar && s.atBoundary && decide (s.limitNow < w.toNat)) hlate).trans hdue) _ _

/-- What an action of the power limit has done when its panels have taken their stage (R364, R365). -/
theorem completes_powerLimitAction {w : W16} {st r : Nat} (hc : s.up.collar = true) (hb : s.atBoundary = true) (hw : s.limitNow < w.toNat)
    (hlast : ∀ t, s.power.lastAct = some t → t + psMs ≤ s.now) (hr : s.rowIsNext st r)
    (hst : st = 1 ∨ (st = 2 ∧ ∀ n, n < 8 → s.activeIn n = [] ∨ ∃ a ∈ s.power.actions, a.stage = 1 ∧ a.row = n)) :
    completes (.powerLimitAction w) s limitFields fun t => t.power.actions = ⟨st, r, s.activeIn r, s.now⟩ :: s.power.actions ∧
        t.power.lastAct = some s.now ∧ t.cell 0x2960 5 = (s.cell 0x2960 5 + 1) % 2 ^ 64 ∧
        (∀ p, t.panelPower p = if p ∈ s.activeIn r then (s.panelPower p).limited st true else s.panelPower p) ∧
        (∀ p ∈ s.activeIn r, st = 2 → (s.domainOf (memDomain p)).st = .on → (t.domainOf (memDomain p)).st = .retain) ∧
        (s.power.stage < st → s.hasRaised t 0xFF63 (if s.power.stage = 0 then 0x0A0B else 0)) ∧ (s.power.stage = 0 → s.firedMore t 0x0A0B) := by
  have hx := exec_powerLimitAction_due hc hb hw hlast hr hst
  obtain ⟨a, ha⟩ : ∃ a : State, a = { s with power := { s.power with
    watts := w.toNat, actions := ⟨st, r, s.activeIn r, s.now⟩ :: s.power.actions, lastAct := some s.now } } := ⟨_, rfl⟩
  have hstep : Step (maskOf [.power]) s a := by rw [ha]; exact State.putPower_step (by decide) _
  have htake : s.limitTake st r w.toNat = ((a.limitSet st (s.activeIn r) true).bump64 0x2960 5).stageReport s.power.stage := by
    rw [ha]; rfl
  have hacts : a.power.actions = ⟨st, r, s.activeIn r, s.now⟩ :: s.power.actions ∧ a.power.lastAct = some s.now := by rw [ha]; exact ⟨rfl, rfl⟩
  have hpan : ∀ p, a.panelPower p = s.panelPower p := fun p => by rw [ha]; rfl
  have hdom : ∀ d, a.domainOf d = s.domainOf d := fun d => by rw [ha]; rfl
  have hset : Step (maskOf [.power]) s (a.limitSet st (s.activeIn r) true) := State.limitSet_step hstep (by decide)
  obtain ⟨hsa, hsl⟩ := State.limitSet_actions st true (s.activeIn r) a
  have hsp := State.limitSet_panelPower st true (s.activeIn r) a
  have hsd := fun h => State.limitSet_domain (stage := st) h true (s.activeIn r) a
  generalize hz : a.limitSet st (s.activeIn r) true = z at hset hsa hsl hsp hsd htake
  have hpow : (s.limitTake st r w.toNat).power = z.power := by rw [htake, State.stageReport_power, State.bump64_power]
  have hstage : s.power.stage < st → (z.bump64 0x2960 5).power.stage ≠ s.power.stage := fun h => by
    rw [State.bump64_power, Power.stage_cons (hsa.trans hacts.1)]
    exact Nat.ne_of_gt (Nat.lt_of_lt_of_le h (Nat.le_max_left _ _))
  have hkeep : s.keepsEmcy → (z.bump64 0x2960 5).keepsEmcy := fun h => (State.keepsEmcy_congr (t := z.bump64 0x2960 5) (by rw [State.bump64_up, hset.up (by decide)])
    ((State.setting_count_other z (by decide) (by decide) (by decide)).trans (State.setting_congr (hset.od (by decide)) _ _))).2 h
  have hrep := fun h => State.stageReport_reports (s0 := s) (hstage h) hkeep (by rw [State.bump64_det, hset.det (by decide)])
  rw [← htake] at hrep
  refine completes_step hx (State.limitTake_step (Step.refl _ s) (by decide)) ⟨?_, ?_, ?_, fun p => ?_, fun p hp h2 hon => ?_, fun h => (hrep h).1, fun h => ?_⟩
  · rw [hpow, hsa, hacts.1]
  · rw [hpow, hsl, hacts.2]
  · rw [htake, State.stageReport_cell (by decide) (by decide), State.cell_bump64_same, State.cell_congr (hset.od (by decide))]
  · rw [State.panelPower_congr hpow, hsp, hpan]
  · rw [State.domainOf_congr (congrArg Power.domains hpow), hsd (by omega) p hp, hdom, hon]
    rfl
  · refine (hrep ?_).2 h
    rcases hst with rfl | ⟨rfl, -⟩ <;> omega

/-- The latest action is undone once the power has stayed below 95 % for 100 ms (R366). -/
theorem completes_powerLimitRelease {w : W16} {a : LimitAct} {rest : List LimitAct} {t0 : Nat} (hc : s.up.collar = true)
    (ha : s.power.actions = a :: rest) (ht : s.power.lastAct = some t0) (hw : w.toNat * 100 < 95 * s.limitNow) :
    completes (.powerLimitRelease w) s (.now :: limitFields) fun t => t.now = max s.now (t0 + 100 * psMs) ∧ t.power.actions = rest ∧
        t.power.lastAct = some t.now ∧ (∀ p, t.panelPower p = if p ∈ a.panels then (s.panelPower p).limited a.stage false else s.panelPower p) ∧
        ∀ p ∈ a.panels, a.stage = 2 → (s.domainOf (memDomain p)).st = .retain → (t.domainOf (memDomain p)).st = .on := by
  obtain ⟨b, hb⟩ : ∃ b : State, b = { s.advanceTo (t0 + 100 * psMs) with power := { (s.advanceTo (t0 + 100 * psMs)).power with
    watts := w.toNat, actions := rest, lastAct := some (s.advanceTo (t0 + 100 * psMs)).now } } := ⟨_, rfl⟩
  have hx : exec (.powerLimitRelease w) s = .next ((b.limitSet a.stage a.panels false).stageReport s.power.stage) := by
    show execPowerLimitRelease w s = _
    unfold execPowerLimitRelease
    simp only [ha, ht, Option.getD_some]
    rw [hb]
    exact whenDue_true (by rw [hc, decide_eq_true hw]; rfl) _ _
  have hnow : b.now = max s.now (t0 + 100 * psMs) := by rw [hb]; rfl
  have hact : b.power.actions = rest ∧ b.power.lastAct = some b.now := by rw [hb]; exact ⟨rfl, rfl⟩
  have hpan : ∀ p, b.panelPower p = s.panelPower p := fun p => by rw [hb]; rfl
  have hdom : ∀ d, b.domainOf d = s.domainOf d := fun d => by rw [hb]; rfl
  have hstep : Step (maskOf [.now, .power]) s b := by
    rw [hb]
    exact (State.advanceTo_step (Step.refl _ s) (by decide)).trans (State.putPower_step (by decide) _)
  have hset : Step (maskOf [.power]) b (b.limitSet a.stage a.panels false) := State.limitSet_step (Step.refl _ b) (by decide)
  obtain ⟨hsa, hsl⟩ := State.limitSet_actions a.stage false a.panels b
  have hsp := State.limitSet_panelPower a.stage false a.panels b
  have hsd := fun h => State.limitSet_domain (stage := a.stage) h false a.panels b
  generalize b.limitSet a.stage a.panels false = z at hset hsa hsl hsp hsd hx
  have hpow := State.stageReport_power (s := z) s.power.stage
  have hrnow : (z.stageReport s.power.stage).now = b.now := by
    rw [(State.stageReport_step (Step.refl 72075188318766256 z) (by decide)).now (by decide), hset.now (by decide)]
  refine completes_step hx (State.stageReport_step ((hstep.mono (by decide)).trans (hset.mono (by decide))) (by decide)) ⟨?_, ?_, ?_, fun p => ?_, fun p hp h2 hon => ?_⟩
  · rw [hrnow, hnow]
  · rw [hpow, hsa, hact.1]
  · rw [hpow, hsl, hact.2, hrnow]
  · rw [State.panelPower_congr hpow, hsp, hpan]
  · rw [State.domainOf_congr (congrArg Power.domains hpow), hsd (by omega) p hp, hdom, hon]
    rfl

/-! ### Sensors of the coolant (R375) -/

/-- The number of the fault in which a sensor's raw value stands, 0 for none (R375). -/
def sensorFaultNo (i : Sensor) (raw : W16) : Nat :=
  if i = .flow then (if raw.toNat < 3600 then 1 else if 21000 < raw.toNat then 2 else 0)
  else if signed 16 raw.toNat < -400 then 1 else if 1500 < signed 16 raw.toNat then 2 else 0

/-- A value against two limits: the fault and its number. -/
theorem faultNo_of_limits (a b : Prop) [Decidable a] [Decidable b] :
    (if a then 1 else if b then 2 else 0) = ((if a then some SensorFault.opened else if b then some .shorted else none).map sensorFaultNum).getD 0 := by
  by_cases ha : a
  · simp [ha, sensorFaultNum]
  · by_cases hb : b <;> simp [ha, hb, sensorFaultNum]

theorem sensorFaultNo_eq (i : Sensor) (raw : W16) : sensorFaultNo i raw = ((sensorFaultOf i raw.toNat).map sensorFaultNum).getD 0 := by
  unfold sensorFaultNo
  cases i with
  | flow => exact faultNo_of_limits _ _
  | tin => exact faultNo_of_limits _ _
  | tout => exact faultNo_of_limits _ _

theorem sensorFaultNum_ne (f : SensorFault) : sensorFaultNum f ≠ 0 := by cases f <;> decide

theorem sensorFaultOf_none {i : Sensor} {raw : W16} (h : sensorFaultNo i raw = 0) : sensorFaultOf i raw.toNat = none := by
  rw [sensorFaultNo_eq] at h
  cases hf : sensorFaultOf i raw.toNat with
  | none => rfl
  | some f => rw [hf] at h; exact absurd h (sensorFaultNum_ne f)

theorem sensorFaultOf_some {i : Sensor} {raw : W16} (h : sensorFaultNo i raw ≠ 0) :
    ∃ f, sensorFaultOf i raw.toNat = some f ∧ sensorFaultNum f = sensorFaultNo i raw := by
  rw [sensorFaultNo_eq] at h ⊢
  cases hf : sensorFaultOf i raw.toNat with
  | none => rw [hf] at h; exact absurd rfl h
  | some f => exact ⟨f, rfl, rfl⟩

theorem coolantSensorFault_outcome (i : Sensor) (raw : W16) :
    (sensorFaultNo i raw = 0 ∨ s.power.sensor i ≠ 0 → exec (.coolantSensorFault i raw) s = .next s) ∧
      (sensorFaultNo i raw ≠ 0 → s.power.sensor i = 0 → settles (.coolantSensorFault i raw) s (reportFields ++ ([.power] : List Field)) fun u =>
        u.power = s.power.setSensor i (sensorFaultNo i raw) ∧ u.limitNow = 4650 ∧ s.firedMore u 0x0A0C ∧ s.hasRaised u 0xFF64 0x0A0C) := by
  have hx : exec (.coolantSensorFault i raw) s = execCoolantSensorFault i raw s := rfl
  unfold execCoolantSensorFault at hx
  constructor
  · intro h
    by_cases hf : sensorFaultNo i raw = 0
    · rw [hx, sensorFaultOf_none hf]
    · obtain ⟨f, hs, -⟩ := sensorFaultOf_some hf
      rw [hx, hs]
      exact whenSettled_false (by simpa using h.resolve_left hf) _ _
  · intro hf hz
    obtain ⟨f, hs, hn⟩ := sensorFaultOf_some hf
    simp only [hs, hn] at hx
    obtain ⟨x, hxe⟩ : ∃ x : State, x = { s with power := s.power.setSensor i (sensorFaultNo i raw) } := ⟨_, rfl⟩
    have hstep : Step (maskOf [.power]) s x := by rw [hxe]; exact State.putPower_step (by decide) _
    have hpow : x.power = s.power.setSensor i (sensorFaultNo i raw) := by rw [hxe]
    have hkeep : s.keepsEmcy → (x.fire 0x0A0C 0 0).keepsEmcy := fun h => (State.keepsEmcy_congr (by rw [State.fire_up, hstep.up (by decide)])
      (State.setting_congr (by rw [State.fire_od, hstep.od (by decide)]) _ _)).2 h
    refine settles_step (hx.trans ((whenSettled_true (by rw [hz]; rfl) _ _).trans (by rw [← hxe])))
      (State.emcyPower_step (State.fire_step (hstep.mono (by decide)) (by decide)) (by decide)) ⟨?_, ?_, ?_, ?_⟩
    · rw [State.emcyPower_power, State.fire_power, hpow]
    · unfold State.limitNow
      rw [State.emcyPower_power, State.fire_power, hpow]
      cases i <;> simp [Power.setSensor, hf]
    · exact State.firedMore_side (State.firedMore_fire (hstep.det (by decide)) _ _ _) (State.emcyPower_report ..) (by decide)
    · exact State.hasRaised_of_within (State.emcyPower_raises hkeep (by decide) _)

theorem coolantSensorRecovered_outcome (i : Sensor) (v : SensorReading) :
    (sensorFaultNo i v.raw ≠ 0 ∨ s.power.sensor i = 0 → exec (.coolantSensorRecovered i v) s = .next s) ∧
      (sensorFaultNo i v.raw = 0 → s.power.sensor i ≠ 0 → settles (.coolantSensorRecovered i v) s [.power] fun u =>
        (i = .tin → u.power = { s.power with tinFault := 0, tin := v.value.toNat }) ∧
        (i = .tout → u.power = { s.power with toutFault := 0, tout := v.value.toNat }) ∧
        (i = .flow → u.power = { s.power with flowFault := 0, flow := v.value.toNat })) := by
  constructor
  · intro h
    refine whenSettled_false ?_ _ _
    by_cases hf : sensorFaultNo i v.raw = 0
    · rw [h.resolve_left (fun hn => hn hf)]
      rfl
    · obtain ⟨f, hs, -⟩ := sensorFaultOf_some hf
      rw [hs]
      exact Bool.and_false _
  · intro hf hz
    refine settles_step (whenSettled_true (by rw [sensorFaultOf_none hf]; simpa using hz) _ _) (State.putPower_step (by decide) _) ?_
    refine ⟨fun h => ?_, fun h => ?_, fun h => ?_⟩ <;> subst h <;> rfl

/-! ### The outlet (R376) -/

/-- What a reading of the outlet leaves of the power unit's record. -/
def State.outletRead (s : State) (tout : W16) : Power :=
  { s.power with tout := tout.toNat, warned := s.power.warned && decide (s.degrees 5 < signed 16 tout.toNat) }

theorem State.outlet_eq (tout : W16) : s.outlet tout.toNat = { s with power := s.outletRead tout } := rfl

theorem completes_outletWarning_first {tout : W16} (h1 : s.degrees 5 < signed 16 tout.toNat) (h2 : s.power.warned = false) :
    completes (.outletWarning tout) s limitFields fun t => t.power = { s.outletRead tout with warned := true } ∧ s.hasRaised t 0xFF65 0 := by
  obtain ⟨x, hxe⟩ : ∃ x : State, x = { s.outlet tout.toNat with power := { (s.outlet tout.toNat).power with warned := true } } := ⟨_, rfl⟩
  have hx : exec (.outletWarning tout) s = .next (x.emcyPower 0xFF65 0 0) := by
    show execOutletWarning tout s = _
    unfold execOutletWarning
    rw [hxe]
    exact (whenDue_true rfl _ _).trans (congrArg _ (if_pos ⟨h1, h2⟩))
  have hstep : Step (maskOf [.power]) s x := by rw [hxe]; exact State.putPower_step (by decide) _
  have hpow : x.power = { s.outletRead tout with warned := true } := by rw [hxe]; rfl
  refine completes_step hx (State.emcyPower_step (hstep.mono (by decide)) (by decide)) ⟨by rw [State.emcyPower_power, hpow], ?_⟩
  exact State.hasRaised_of_within (State.emcyPower_raises (fun h => (State.keepsEmcy_congr (by rw [hstep.up (by decide)])
    (State.setting_congr (hstep.od (by decide)) _ _)).2 h) (by decide) _)

theorem completes_outletWarning_other {tout : W16} (h : decide (s.degrees 5 < signed 16 tout.toNat) = false ∨ s.power.warned = true) :
    completes (.outletWarning tout) s [.power] fun t => t.power = s.outletRead tout := by
  refine completes_step (t := s.outlet tout.toNat) ?_ (State.outlet_step (Step.refl _ s) (by decide)) rfl
  show execOutletWarning tout s = _
  unfold execOutletWarning
  refine (whenDue_true rfl _ _).trans (congrArg _ (if_neg fun hn => ?_))
  rcases h with h | h
  · exact of_decide_eq_false h hn.1
  · rw [h] at hn; exact absurd hn.2 (by decide)

theorem settles_outletShutdown {tout : W16} (h : s.degrees 7 < signed 16 tout.toNat) :
    settles (.outletShutdown tout) s (fallFields ++ ([.fresh] : List Field)) fun u =>
      ((s.domainOf 0).st ≠ .off → s.shutDown u 0) ∧ ((s.domainOf 0).st = .off → u.power = s.outletRead tout) := by
  have hx : exec (.outletShutdown tout) s = .next (State.settle s ((s.outlet tout.toNat).orderlyShutdown 1 0)) :=
    whenSettled_true (decide_eq_true h) _ _
  have hstep : Step (maskOf [.power]) s (s.outlet tout.toNat) := State.outlet_step (Step.refl _ s) (by decide)
  have hdom : (s.outlet tout.toNat).power.domains = s.power.domains := rfl
  have hpow : (s.outlet tout.toNat).power = s.outletRead tout := rfl
  generalize s.outlet tout.toNat = x at *
  refine settles_step hx (State.orderlyShutdown_step (hstep.mono (by decide)) (by decide)) ⟨fun hon => ?_, fun hoff => ?_⟩
  · exact State.orderlyShutdown_shutDown (by rw [State.domainOf_congr hdom]; exact hon) (fun hk => (State.keepsEmcy_congr (by rw [hstep.up (by decide)])
      (State.setting_congr (hstep.od (by decide)) _ _)).2 hk) (hstep.ports (by decide)) hdom
  · rw [State.orderlyShutdown_off (by rw [State.domainOf_congr hdom]; exact hoff), hpow]

/-- The outlet or the flow beyond its limit is reported and brings the fault limit into force (R364, R376). -/
theorem settles_thermalLimit {tout flow : W16} (h1 : s.power.thermal = false)
    (h2 : s.degrees 6 < signed 16 tout.toNat ∨ flow.toNat < s.setting 0x2930 8) :
    settles (.thermalLimit tout flow) s (reportFields ++ ([.power] : List Field)) fun u => s.firedMore u 0x0A0D ∧ s.hasRaised u 0xFF65 0x0A0D ∧
      u.power = { s.outletRead tout with flow := flow.toNat, thermal := true } ∧ u.limitNow = 4650 := by
  obtain ⟨x, hxe⟩ : ∃ x : State, x = { s.outlet tout.toNat with power := { (s.outlet tout.toNat).power with flow := flow.toNat, thermal := true } } := ⟨_, rfl⟩
  have hx : exec (.thermalLimit tout flow) s = .next (State.settle s ((x.fire 0x0A0D 0 0).emcyPower 0xFF65 0x0A0D 1)) := by
    rw [hxe]
    refine whenSettled_true ?_ _ _
    rcases h2 with h2 | h2 <;> simp [h1, h2]
  have hstep : Step (maskOf [.power]) s x := by rw [hxe]; exact State.putPower_step (by decide) _
  have hpow : x.power = { s.outletRead tout with flow := flow.toNat, thermal := true } := by rw [hxe]; rfl
  have hkeep : s.keepsEmcy → (x.fire 0x0A0D 0 0).keepsEmcy := fun h => (State.keepsEmcy_congr (by rw [State.fire_up, hstep.up (by decide)])
    (State.setting_congr (by rw [State.fire_od, hstep.od (by decide)]) _ _)).2 h
  refine settles_step hx (State.emcyPower_step (State.fire_step (hstep.mono (by decide)) (by decide)) (by decide)) ⟨?_, ?_, ?_, ?_⟩
  · exact State.firedMore_side (State.firedMore_fire (hstep.det (by decide)) _ _ _) (State.emcyPower_report ..) (by decide)
  · exact State.hasRaised_of_within (State.emcyPower_raises hkeep (by decide) _)
  · rw [State.emcyPower_power, State.fire_power, hpow]
  · unfold State.limitNow
    rw [State.emcyPower_power, State.fire_power, hpow]
    simp

theorem settles_thermalLimitEnd {tout flow : W16} (h1 : s.power.thermal = true) (h2 : signed 16 tout.toNat ≤ s.degrees 6 - 20)
    (h3 : s.setting 0x2930 8 < flow.toNat) : settles (.thermalLimitEnd tout flow) s [.power] fun u =>
      u.power = { s.outletRead tout with flow := flow.toNat, thermal := false } := by
  refine settles_step (whenSettled_true (by simp [h1, h2, h3]) _ _) (State.putPower_step (by decide) _) rfl

/-! ### Hot dies (R377) -/

/-- A panel's record with its die at a temperature (R377). -/
def State.dieRead (s : State) (p : Nat) (t : W16) : PanelPower :=
  let q := s.panelPower p
  let v := signed 16 t.toNat
  { q with temp := t.toNat, srcDie := decide (s.degrees 9 < v) || (q.srcDie && decide (s.degrees 9 - 50 < v)) }

/-- The state with a die's temperature taken and, where it is newly hot, reported. -/
def State.dieTaken (s : State) (p : Nat) (t : W16) : State :=
  if s.degrees 9 < signed 16 t.toNat ∧ (s.panelPower p).srcDie = false then (s.setPanelPower p (s.dieRead p t)).fire 0x0A0E p 0
  else s.setPanelPower p (s.dieRead p t)

theorem State.dieTaken_step {p : Nat} {t : W16} {G : Nat} (hG : sub (maskOf (reportFields ++ [.power])) G = true) : Step G s (s.dieTaken p t) :=
  Step.ite (fun _ => State.fire_step (State.setPanelPower_step (Step.refl _ s) (sub_trans (by decide) hG)) (sub_trans (by decide) hG))
    fun _ => (State.setPanelPower_step (Step.refl _ s) (sub_trans (by decide) hG))

theorem State.dieTaken_power {p : Nat} {t : W16} : (s.dieTaken p t).power = (s.setPanelPower p (s.dieRead p t)).power := by
  unfold State.dieTaken
  split
  · exact State.fire_power _
  · rfl

theorem exec_dieTemperature {p : PanelId} {t : W16} : exec (.dieTemperatureChange p t) s = .next (State.settle s
    (if 1150 < signed 16 t.toNat ∧ (s.panelPower p.val).resetAt = none ∧ s.panelOn p.val = true then (s.dieTaken p.val t).panelReset p.val 0x0A0E
      else s.dieTaken p.val t)) := by
  have hq : (if decide (s.degrees 9 < signed 16 t.toNat) = true then true else if signed 16 t.toNat ≤ s.degrees 9 - 50 then false else (s.panelPower p.val).srcDie) =
      (decide (s.degrees 9 < signed 16 t.toNat) || ((s.panelPower p.val).srcDie && decide (s.degrees 9 - 50 < signed 16 t.toNat))) := by
    by_cases h1 : s.degrees 9 < signed 16 t.toNat
    · simp [h1]
    · by_cases h2 : signed 16 t.toNat ≤ s.degrees 9 - 50
      · simp [h1, h2, Int.not_lt.2 h2]
      · simp [h1, h2, Int.not_le.1 h2]
  have hb : (if (decide (s.degrees 9 < signed 16 t.toNat) && !(s.panelPower p.val).srcDie) = true then
      (s.setPanelPower p.val (s.dieRead p.val t)).fire 0x0A0E p.val 0 else s.setPanelPower p.val (s.dieRead p.val t)) = s.dieTaken p.val t := by
    unfold State.dieTaken
    refine if_congr ?_ rfl rfl
    simp
  rw [← hb]
  show execDieTemperatureChange p t s = _
  unfold execDieTemperatureChange
  dsimp only
  rw [hq]
  exact whenSettled_true rfl _ _

theorem settles_dieTemperature {p : PanelId} {t : W16} :
    settles (.dieTemperatureChange p t) s (reportFields ++ ([.wafer, .suspects, .moves, .tiles, .power] : List Field)) fun u =>
      (signed 16 t.toNat ≤ 1150 ∨ (s.panelPower p.val).resetAt.isSome = true ∨ s.panelOn p.val = false → s.panelTakes p.val (s.dieRead p.val t) u ∧
        u.suspects = s.suspects ∧ (s.degrees 9 < signed 16 t.toNat → (s.panelPower p.val).srcDie = false → s.firedOnce 0x0A0E u) ∧
        (signed 16 t.toNat ≤ s.degrees 9 ∨ (s.panelPower p.val).srcDie = true → u.det = s.det)) ∧
      (1150 < signed 16 t.toNat → (s.panelPower p.val).resetAt = none → s.panelOn p.val = true → s.panelResets p.val →
        (s.panelPower p.val).resets = [] → s.inPanelReset p.val u) := by
  have hx := exec_dieTemperature (s := s) (p := p) (t := t)
  have hstep : Step (maskOf (reportFields ++ [.power])) s (s.dieTaken p.val t) := State.dieTaken_step (by decide)
  have hpow := State.dieTaken_power (s := s) (p := p.val) (t := t)
  have hfire : s.degrees 9 < signed 16 t.toNat → (s.panelPower p.val).srcDie = false → s.firedOnce 0x0A0E (s.dieTaken p.val t) := fun h1 h2 => by
    unfold State.dieTaken
    rw [if_pos ⟨h1, h2⟩]
    exact State.firedOnce_fire rfl rfl _ _ _
  have hquiet : signed 16 t.toNat ≤ s.degrees 9 ∨ (s.panelPower p.val).srcDie = true → (s.dieTaken p.val t).det = s.det := fun h => by
    unfold State.dieTaken
    rw [if_neg fun hn => ?_]
    · rfl
    · rcases h with h | h
      · omega
      · rw [h] at hn; exact absurd hn.2 (by decide)
  have hpan : (s.dieTaken p.val t).panelPower p.val = s.dieRead p.val t := by
    rw [State.panelPower_congr hpow, State.panelPower_set_same]
  generalize s.dieTaken p.val t = b at *
  by_cases hc : 1150 < signed 16 t.toNat ∧ (s.panelPower p.val).resetAt = none ∧ s.panelOn p.val = true
  · rw [if_pos hc] at hx
    refine settles_step hx (State.panelReset_step (hstep.mono (by decide)) (by decide)) ⟨fun h => ?_, fun _ _ _ hr hrs => ?_⟩
    · obtain ⟨h1, h2, h3⟩ := hc
      rw [h2, h3] at h
      exact absurd h (by simp [Int.not_le.2 h1])
    · obtain ⟨hm, hl, ho⟩ := hr
      have hover : (b.panelPower p.val).overcurrent = false := by rw [hpan]; exact ho
      have hlost : b.panelLost p.val = false := (State.panelLost_congr (hstep.wafer (by decide)) (hstep.suspects (by decide)) _).trans hl
      have hrecent : b.recentResets p.val < 2 := by
        unfold State.recentResets
        rw [hpan, show (s.dieRead p.val t).resets = [] from hrs]
        exact Nat.zero_lt_two
      obtain ⟨h1, h2, h3, h4⟩ := State.panelReset_first (det := 0x0A0E) hover hlost hrecent (by rw [hstep.wafer (by decide)]; exact hm)
      obtain ⟨⟨h5, h6⟩, h7⟩ := State.panelReset_clears (det := 0x0A0E) hover
      exact ⟨h1, h2, h3.trans (hstep.wafer (by decide)), h4, h7, h5, fun k hk => (h6 k hk).trans (by unfold State.tileOf; rw [hstep.tiles (by decide)])⟩
  · rw [if_neg hc] at hx
    refine settles_step hx (hstep.mono (by decide)) ⟨fun _ => ⟨State.panelTakes_of (congrArg Power.panels hpow), hstep.suspects (by decide), hfire, hquiet⟩, fun h1 h2 h3 => ?_⟩
    exact absurd ⟨h1, h2, h3⟩ hc

end

end Sys2Proof.Machine

namespace Sys2Proof.Proofs
open Sys2Proof.Machine

/-- Settles O52: the power limit by the rows that it takes and releases, the coolant and the dies by their readings. -/
theorem powerLimitAndCoolant : Obligations.PowerLimitAndCoolant := by
  unfold Obligations.PowerLimitAndCoolant
  refine ⟨fun s w => ?_, fun s i => ⟨fun raw => coolantSensorFault_outcome i raw, fun v => coolantSensorRecovered_outcome i v⟩, fun s tout =>
    ⟨fun h1 h2 => completes_outletWarning_first (of_decide_eq_true h1) h2, completes_outletWarning_other, settles_outletShutdown,
      fun flow => ⟨settles_thermalLimit, settles_thermalLimitEnd⟩⟩, fun s p t => settles_dieTemperature⟩
  intro limit fs
  have hlimit : limit = s.limitNow := rfl
  refine ⟨fun h => ⟨exec_powerLimitAction_idle (.inl h), exec_powerLimitRelease_idle h⟩, fun h1 h2 => exec_powerLimitAction_idle (.inr ?_), fun hc hb hw hlast st r hr hst => ?_,
    fun a rest t0 hc ha ht hw hst => ?_⟩
  · simp [State.atBoundary, h1, h2]
  · have h := completes_powerLimitAction hc (by simpa [State.atBoundary] using hb) hw hlast hr hst
    refine h.imp fun t h => h.imp_right fun h => h.imp_right ?_
    rcases hst with rfl | ⟨rfl, -⟩ <;> exact id
  · have h := completes_powerLimitRelease hc ha ht hw
    refine h.imp fun t h => h.imp_right fun h => h.imp_right ?_
    unfold PanelPower.limited at *
    exact id

end Sys2Proof.Proofs
end

section
/-! Proofs about JOPEN and JCLOSE: what ends with a job only leaves its tables. -/

namespace Sys2Proof.Machine

/-! ### Tables that only lose -/

/-- Sessions, attachments, plans and frames are only lost: a session or an attachment is gone or as it was, a plan is gone or of the
same job, and no frame is new. -/
structure State.thins (s t : State) : Prop where
  sessions : ∀ k, t.sessions.find k = none ∨ t.sessions.find k = s.sessions.find k
  attach : ∀ k, t.attach.find k = none ∨ t.attach.find k = s.attach.find k
  plans : ∀ k, t.plans.find k = none ∨ (t.plans.find k).map Plan.job = (s.plans.find k).map Plan.job
  frames : ∀ k, s.frames.find k = none → t.frames.find k = none

section

variable {s0 s t : State}

theorem State.thins_refl (s : State) : s.thins s := ⟨fun _ => .inr rfl, fun _ => .inr rfl, fun _ => .inr rfl, fun _ h => h⟩

theorem State.thins.trans (h : s0.thins s) (k : s.thins t) : s0.thins t where
  sessions i := (k.sessions i).elim .inl fun e => (h.sessions i).imp e.trans e.trans
  attach i := (k.attach i).elim .inl fun e => (h.attach i).imp e.trans e.trans
  plans i := (k.plans i).elim .inl fun e => (h.plans i).imp (fun hn => by
    rw [hn] at e
    exact Option.map_eq_none_iff.1 e) e.trans
  frames i hi := k.frames i (h.frames i hi)

theorem State.thins_of (h : s0.thins s) (h1 : t.sessions = s.sessions) (h2 : t.attach = s.attach) (h3 : t.plans = s.plans)
    (h4 : t.frames = s.frames) : s0.thins t := by
  refine h.trans ⟨fun _ => .inr (by rw [h1]), fun _ => .inr (by rw [h2]), fun _ => .inr (by rw [h3]), fun _ hn => by rw [h4, hn]⟩

theorem State.thins_each {α : Type} {f : State → α → State} (l : List α) (h : s0.thins s) (hf : ∀ u x, s0.thins u → s0.thins (f u x)) :
    s0.thins (each l f s) := by
  induction l generalizing s with
  | nil => exact h
  | cons a r ih => exact ih (hf s a h)

theorem Tab.find_erase {α : Type} (t : Tab α) (k i : Nat) : (t.erase k).find i = if i = k then none else t.find i := by
  split
  next h => rw [h, Tab.find_erase_same]
  next h => exact Tab.find_erase_other t h

theorem Tab.find_erase_or {α : Type} (t : Tab α) (k i : Nat) : (t.erase k).find i = none ∨ (t.erase k).find i = t.find i := by
  rw [Tab.find_erase]
  split
  · exact .inl rfl
  · exact .inr rfl

theorem State.entryEnd_keeps (s : State) (id idx : Nat) (st : Status) (det : Nat) :
    (s.entryEnd id idx st det).sessions = s.sessions ∧ (s.entryEnd id idx st det).attach = s.attach ∧
      (s.entryEnd id idx st det).plans = s.plans ∧ (s.entryEnd id idx st det).frames = s.frames := by
  unfold State.entryEnd
  split
  · exact ⟨rfl, rfl, rfl, rfl⟩
  · simp

theorem State.entryDone_thins (h : s0.thins s) (id idx : Nat) (st : Status) (det result slot : Nat) :
    s0.thins (s.entryDone id idx st det result slot) :=
  State.thins_of h (State.entryDone_sessions _) (State.entryDone_attach _) (State.entryDone_plans _) (State.entryDone_frames _)

/-- Work of a slot that is dropped: its attachment is gone. -/
theorem State.dropSlotWork_thins (h : s0.thins s) (k : Nat) : s0.thins (s.dropSlotWork k true) := by
  unfold State.dropSlotWork
  split
  · exact h
  · dsimp only
    have herase : ∀ {x : State}, x.sessions = s.sessions → x.attach = s.attach.erase k → x.plans = s.plans → x.frames = s.frames → s0.thins x :=
      fun h1 h2 h3 h4 => h.trans ⟨fun _ => .inr (by rw [h1]), fun i => by rw [h2]; exact Tab.find_erase_or _ _ _, fun _ => .inr (by rw [h3]),
        fun _ hn => by rw [h4, hn]⟩
    split
    · exact herase (by simp) (by simp) (by simp) (by simp)
    · refine State.thins_each _ (herase (by simp) (by simp) (by simp) (by simp)) fun u p hu => ?_
      obtain ⟨h1, h2, h3, h4⟩ := u.entryEnd_keeps p.1 p.2 .deadlineMissed 0
      exact State.thins_of hu h1 h2 h3 h4

/-- The sessions after a slot has been freed. -/
theorem State.slotFree_sessions (s : State) (k : Nat) : (s.slotFree k).sessions = s.sessions.erase k := by
  unfold State.slotFree State.detachSlot
  dsimp only
  split
  · rw [State.entryDone_sessions, State.dropSlotWork_sessions]
  · rw [State.dropSlotWork_sessions]

theorem State.slotFree_thins (h : s0.thins s) (k : Nat) : s0.thins (s.slotFree k) := by
  have hd := State.dropSlotWork_thins h k
  have hx : s0.thins { s.dropSlotWork k true with sessions := (s.dropSlotWork k true).sessions.erase k } :=
    hd.trans ⟨fun i => Tab.find_erase_or _ _ _, fun _ => .inr rfl, fun _ => .inr rfl, fun _ hn => hn⟩
  unfold State.slotFree State.detachSlot
  dsimp only
  split
  · exact State.entryDone_thins hx _ _ _ _ _ _
  · exact hx

theorem State.slotCheck_thins (h : s0.thins s) (k : Nat) : s0.thins (s.slotCheck k) := by
  unfold State.slotCheck
  split
  · exact State.slotFree_thins h k
  · exact h

/-- A frame that leaves its pass changes no plan's job. -/
theorem State.laneLeave_thins (h : s0.thins s) (f : Frame) (key : Nat) : s0.thins (s.laneLeave f key) := by
  unfold State.laneLeave
  split
  · exact h
  · refine h.trans ⟨fun _ => .inr rfl, fun _ => .inr rfl, fun i => .inr ?_, fun _ hn => hn⟩
    rw [Tab.find_mapVals, Option.map_map]
    congr 1
    funext p
    simp only [Function.comp]
    split <;> rfl

theorem State.frameDone_thins (h : s0.thins s) (key : Nat) (st : Status) (det : Nat) : s0.thins (s.frameDone key st det) := by
  unfold State.frameDone
  split
  · exact h
  next f _ =>
    have hl := State.laneLeave_thins h f key
    have he : s0.thins { s.laneLeave f key with frames := (s.laneLeave f key).frames.erase key } :=
      hl.trans ⟨fun _ => .inr rfl, fun _ => .inr rfl, fun _ => .inr rfl, fun i hn => (Tab.find_erase_or _ _ _).elim id fun e => e.trans hn⟩
    refine State.slotCheck_thins (State.entryDone_thins ?_ _ _ _ _ _ _) _
    split
    · exact State.thins_of he (by simp) (by simp) (by simp) (by simp)
    · split
      · exact State.thins_of he (by simp) (by simp) (by simp) (by simp)
      · exact he

theorem State.skipFrame_thins (h : s0.thins s) (key : Nat) : s0.thins (s.skipFrame key) := by
  unfold State.skipFrame
  split
  · exact h
  · refine State.frameDone_thins ?_ _ _ _
    exact State.thins_of h rfl rfl rfl rfl

theorem State.skipCandidate_thins (h : s0.thins s) (key : Nat) (f : Frame) : s0.thins (s.skipCandidate key f) := by
  unfold State.skipCandidate
  split
  · exact State.skipFrame_thins h _
  · exact State.thins_each _ (State.thins_of h rfl rfl rfl rfl) fun u k hu => State.skipFrame_thins hu k

theorem skipLoop_thins (k : Nat) : ∀ (fuel : Nat) {s : State}, s0.thins s → s0.thins (skipLoop fuel k s)
  | 0, _, h => h
  | fuel + 1, s, h => by
    unfold skipLoop
    split
    · exact h
    · split
      · exact State.thins_of h (by simp) (by simp) (by simp) (by simp)
      · exact skipLoop_thins k fuel (State.skipCandidate_thins h _ _)

theorem State.rebudget_thins (h : s0.thins s) : s0.thins s.rebudget :=
  State.thins_each _ h fun _ k hu => skipLoop_thins k _ hu

/-! ### What belongs to a job ends with it (R200) -/

/-- A list of keys is worked off by a step that removes each of them: every one is gone. -/
theorem each_removes {f : State → Nat → State} {gone : State → Nat → Prop} (hself : ∀ u k, gone (f u k) k)
    (hkeep : ∀ u k i, gone u i → gone (f u k) i) (l : List Nat) : ∀ (u : State) (i : Nat), i ∈ l ∨ gone u i → gone (each l f u) i := by
  induction l with
  | nil => exact fun u i h => h.resolve_left (by simp)
  | cons a r ih =>
    intro u i h
    refine ih _ _ ?_
    rcases h with h | h
    · rcases List.mem_cons.1 h with rfl | h
      · exact .inr (hself u i)
      · exact .inl h
    · exact .inr (hkeep u a i h)

end

section

variable {s : State} {j : Nat} {but : Nat × Nat}

/-- A request that ends with a status other than OK counts nothing. -/
theorem State.wrDone_failed {id : Nat} {st : Status} (h : st ≠ .ok) (det : Nat) : s.wrDone id st det = s.wrEnd id st det := by
  unfold State.wrDone
  cases hw : s.wrs.find id with
  | none => simp [State.wrEnd, hw]
  | some w => exact if_neg fun hn => h hn.1

theorem State.wrEnd_thins {s0 : State} (h : s0.thins s) (id : Nat) (st : Status) (det : Nat) : s0.thins (s.wrEnd id st det) := by
  have k := State.wrEnd_step (x1 := id) (x2 := st) (x3 := det) (Step.refl 72145573160684672 s) (by decide)
  exact State.thins_of h (k.sessions (by decide)) (k.attach (by decide)) (k.plans (by decide)) (k.frames (by decide))

theorem State.jobLinks_thins {s0 : State} (h : s0.thins s) (j : Nat) : s0.thins (s.jobLinks j) := by
  have hdone : ∀ {u : State} (w : Nat), s0.thins u → s0.thins (u.wrDone w .jobAborted 0) := fun w hu => by
    rw [State.wrDone_failed (by decide)]
    exact State.wrEnd_thins hu _ _ _
  refine State.thins_each _ (State.thins_each _ h fun u c hu => ?_) fun u k hu => State.thins_each _ (State.thins_of hu rfl rfl rfl rfl)
    fun v w hv => hdone w hv
  unfold State.disconnect State.connEnd
  refine State.thins_of (State.thins_each _ (State.thins_each _ hu fun v w hv => hdone w hv) fun v r hv => ?_) rfl rfl rfl rfl
  obtain ⟨h1, h2, h3, h4⟩ := v.entryEnd_keeps r.list r.idx .jobAborted 0
  exact State.thins_of hv h1 h2 h3 h4

theorem State.jobEntriesEnd_keeps (s : State) (j : Nat) (st : Status) (det : Nat) (but : Nat × Nat) :
    (s.jobEntriesEnd j st det but).sessions = s.sessions ∧ (s.jobEntriesEnd j st det but).attach = s.attach ∧
      (s.jobEntriesEnd j st det but).plans = s.plans ∧ (s.jobEntriesEnd j st det but).frames = s.frames := by
  have k := State.jobEntriesEnd_step (x1 := j) (x2 := st) (x3 := det) (x4 := but) (Step.refl 72075204416507008 s) (by decide)
  exact ⟨k.sessions (by decide), k.attach (by decide), k.plans (by decide), k.frames (by decide)⟩

theorem State.jobFramesEnd_gone {s0 : State} (h : s0.thins s) (st : Status) (det : Nat) : s0.thins (s.jobFramesEnd j st det) ∧
    ∀ i f, s.frames.find i = some f → f.job = j → (s.jobFramesEnd j st det).frames.find i = none := by
  have hfault : ∀ u : State, u.thins (u.faultEnd st) := fun u => by
    unfold State.faultEnd
    split
    · exact State.thins_of (State.thins_refl u) (by simp) (by simp) (by simp) (by simp)
    · exact State.thins_refl u
  refine ⟨State.thins_each _ h fun u k hu => State.frameDone_thins (hu.trans (hfault u)) _ _ _, fun i f hf hj => ?_⟩
  refine each_removes (gone := fun u i => u.frames.find i = none) (fun u k => ?_) (fun u k i hu => ?_) _ s i (.inl ?_)
  · rw [State.frameDone_find, if_pos rfl]
  · exact (State.frameDone_thins (hfault u) _ _ _).frames i hu
  · exact List.mem_map.2 ⟨(i, f), List.mem_filter.2 ⟨mem_of_findCell hf, beq_iff_eq.2 hj⟩, rfl⟩

theorem State.jobSlotsEnd_gone {s0 : State} (h : s0.thins s) : s0.thins (s.jobSlotsEnd j) ∧
    ∀ k a, s.attach.find k = some a → a.job = j → (s.jobSlotsEnd j).attach.find k = none := by
  refine ⟨State.thins_each _ h fun u k hu => State.dropSlotWork_thins hu k, fun k a ha hj => ?_⟩
  refine each_removes (gone := fun u i => u.attach.find i = none) (fun u k => State.dropSlotWork_detached u k) (fun u k i hu => ?_) _ s k (.inl ?_)
  · exact ((State.dropSlotWork_thins (State.thins_refl u) k).attach i).elim id fun e => e.trans hu
  · exact List.mem_map.2 ⟨(k, a), List.mem_filter.2 ⟨mem_of_findCell ha, beq_iff_eq.2 hj⟩, rfl⟩

theorem State.jobSessionsEnd_gone {s0 : State} (h : s0.thins s) : s0.thins (s.jobSessionsEnd j) ∧
    ∀ k y, s.sessions.find k = some y → y.job = j → (s.jobSessionsEnd j).sessions.find k = none := by
  refine ⟨State.thins_each _ h fun u k hu => State.slotFree_thins hu k, fun k y hy hj => ?_⟩
  refine each_removes (gone := fun u i => u.sessions.find i = none) (fun u k => ?_) (fun u k i hu => ?_) _ s k (.inl ?_)
  · rw [State.slotFree_sessions, Tab.find_erase_same]
  · exact ((State.slotFree_thins (State.thins_refl u) k).sessions i).elim id fun e => e.trans hu
  · exact List.mem_map.2 ⟨(k, y), List.mem_filter.2 ⟨mem_of_findCell hy, beq_iff_eq.2 hj⟩, rfl⟩

theorem State.jobPlansEnd_gone {s0 : State} (h : s0.thins s) : s0.thins (s.jobPlansEnd j) ∧
    ∀ k p, s.plans.find k = some p → p.job = j → (s.jobPlansEnd j).plans.find k = none := by
  have hfree : ∀ (u : State) (k : Nat), u.thins (u.planFree k) := fun u k =>
    ⟨fun _ => .inr rfl, fun _ => .inr rfl, fun i => (Tab.find_erase_or u.plans k i).imp id fun e => congrArg (Option.map Plan.job) e, fun _ hn => hn⟩
  refine ⟨State.thins_each _ h fun u k hu => hu.trans (hfree u k), fun k p hp hj => ?_⟩
  refine each_removes (gone := fun u i => u.plans.find i = none) (fun u k => Tab.find_erase_same _ _) (fun u k i hu => ?_) _ s k (.inl ?_)
  · exact (Tab.find_erase_or u.plans k i).elim id fun e => e.trans hu
  · exact List.mem_map.2 ⟨(k, p), List.mem_filter.2 ⟨mem_of_findCell hp, beq_iff_eq.2 hj⟩, rfl⟩

/-- What has gone with job `j`. -/
structure State.jobGone (s t : State) (j : Nat) : Prop where
  frames : ∀ i f, s.frames.find i = some f → f.job = j → t.frames.find i = none
  plans : ∀ k p, s.plans.find k = some p → p.job = j → t.plans.find k = none
  sessions : ∀ k y, s.sessions.find k = some y → y.job = j → t.sessions.find k = none
  attach : ∀ k a, s.attach.find k = some a → a.job = j → t.attach.find k = none
  closed : ∀ k, s.sessions.find k = none → t.sessions.find k = none

theorem State.jobGone.thins {t u : State} (h : s.jobGone t j) (k : t.thins u) : s.jobGone u j where
  frames i f hf hj := k.frames i (h.frames i f hf hj)
  plans i p hp hj := (k.plans i).elim id fun e => by
    rw [h.plans i p hp hj] at e
    exact Option.map_eq_none_iff.1 e
  sessions i y hy hj := (k.sessions i).elim id fun e => e.trans (h.sessions i y hy hj)
  attach i a ha hj := (k.attach i).elim id fun e => e.trans (h.attach i a ha hj)
  closed i hn := (k.sessions i).elim id fun e => e.trans (h.closed i hn)

/-- Everything of a job has ended, and is gone from its tables. -/
theorem State.jobEnds_gone {u : State} (h1 : u.sessions = s.sessions) (h2 : u.attach = s.attach) (h3 : u.plans = s.plans) (h4 : u.frames = s.frames)
    (st : Status) (det : Nat) : s.jobGone (((((u.jobFramesEnd j st det).jobLinks j).jobSlotsEnd j).jobSessionsEnd j).jobPlansEnd j) j := by
  obtain ⟨kf, gf⟩ := State.jobFramesEnd_gone (j := j) (State.thins_of (State.thins_refl s) h1 h2 h3 h4) st det
  generalize u.jobFramesEnd j st det = a at *
  have kl := State.jobLinks_thins (State.thins_refl a) j
  generalize a.jobLinks j = b at *
  obtain ⟨ks, gs⟩ := State.jobSlotsEnd_gone (j := j) (State.thins_refl b)
  generalize b.jobSlotsEnd j = c at *
  obtain ⟨ke, ge⟩ := State.jobSessionsEnd_gone (j := j) (State.thins_refl c)
  generalize c.jobSessionsEnd j = d at *
  obtain ⟨kp, gp⟩ := State.jobPlansEnd_gone (j := j) (State.thins_refl d)
  have hb := kf.trans kl
  have hc := hb.trans ks
  have hd := hc.trans ke
  refine ⟨fun i f hf hj => ?_, fun i p hp hj => ?_, fun i y hy hj => ?_, fun i x hx hj => ?_,
    fun i hn => ((hd.trans kp).sessions i).elim id fun e => e.trans hn⟩
  · exact (kl.trans (ks.trans (ke.trans kp))).frames i (gf i f (by rw [h4, hf]) hj)
  · rcases hd.plans i with hn | he
    · exact (kp.plans i).elim id fun e => Option.map_eq_none_iff.1 (e.trans (by rw [hn]; rfl))
    · rw [hp] at he
      obtain ⟨q, hq, hqj⟩ := Option.map_eq_some_iff.1 he
      exact gp i q hq (hqj.trans hj)
  · refine (kp.sessions i).elim id fun e => e.trans ?_
    rcases hc.sessions i with hn | he
    · exact (ke.sessions i).elim id fun e => e.trans hn
    · exact ge i y (he.trans hy) hj
  · refine ((ke.trans kp).attach i).elim id fun e => e.trans ?_
    rcases hb.attach i with hn | he
    · exact (ks.attach i).elim id fun e => e.trans hn
    · exact gs i x (he.trans hx) hj

/-- What JCLOSE leaves of a job (R200, R412). -/
theorem State.jobClose_outcome (h : (s.jobOf j).st ≠ .free) : s.jobGone (s.jobClose j but) j ∧
    (s.jobClose j but).jobs.find j = none ∧ (∀ k, k ≠ j → (s.jobClose j but).jobOf k = s.jobOf k) ∧
    (s.jobClose j but).leases.find (2 * 65536 + j) = none := by
  unfold State.jobClose
  dsimp only
  rw [if_neg h]
  generalize hst : (if (s.jobOf j).fenced then Status.fenced else .jobAborted) = st
  generalize hx : each _ State.killTask _ = x
  have hkill : Step 137443147776 { s with jobs := s.jobs.set j { s.jobOf j with st := .aborted } } x := by
    rw [← hx]
    exact each_step (Step.refl _ _) fun u k hu => State.killTask_step hu (by decide)
  obtain ⟨k1, k2, k3, k4⟩ := x.jobEntriesEnd_keeps j st 0 but
  have hgone := State.jobEnds_gone (s := s) (j := j) (u := x.jobEntriesEnd j st 0 but) (k1.trans (hkill.sessions (by decide)))
    (k2.trans (hkill.attach (by decide))) (k3.trans (hkill.plans (by decide))) (k4.trans (hkill.frames (by decide))) st 0
  have hjobs : x.jobs = s.jobs.set j { s.jobOf j with st := .aborted } := hkill.jobs (by decide)
  have hend : Step 72467317750975624 x (((((((x.jobEntriesEnd j st 0 but).jobFramesEnd j st 0).jobLinks j).jobSlotsEnd j).jobSessionsEnd j).jobPlansEnd j)) :=
    State.jobPlansEnd_step (State.jobSessionsEnd_step (State.jobSlotsEnd_step (State.jobLinks_step (State.jobFramesEnd_step
      (State.jobEntriesEnd_step (Step.refl _ x) (by decide)) (by decide)) (by decide)) (by decide)) (by decide)) (by decide)
  generalize (((((((x.jobEntriesEnd j st 0 but).jobFramesEnd j st 0).jobLinks j).jobSlotsEnd j).jobSessionsEnd j).jobPlansEnd j)) = y at *
  have hlast : ∀ z : State, s.jobGone z j → z.jobs = x.jobs → s.jobGone (z.jobForget j) j ∧ (z.jobForget j).jobs.find j = none ∧
      (∀ k, k ≠ j → (z.jobForget j).jobOf k = s.jobOf k) ∧ (z.jobForget j).leases.find (2 * 65536 + j) = none := fun z hz hj => by
    refine ⟨hz.thins (State.thins_of (State.thins_refl z) rfl rfl rfl rfl), Tab.find_erase_same _ _, fun k hk => ?_, Tab.find_erase_same _ _⟩
    show (z.jobs.erase j).get job0 k = s.jobs.get job0 k
    rw [Tab.get_erase_other _ _ hk, hj, hjobs, Tab.get_set_other _ _ _ hk]
  split
  · exact hlast _ (hgone.thins (State.rebudget_thins (State.thins_refl y)))
      (((State.rebudget_step (Step.refl 72080289657998472 y) (by decide)).jobs (by decide)).trans (hend.jobs (by decide)))
  · exact hlast _ hgone (hend.jobs (by decide))

/-! ### The entries (R197, R200) -/

/-- JOPEN of a sound entry (R197). -/
theorem completes_jopen {list idx : Nat} {l : ListRun} {e : EntryRun} (h : s.handed list idx 0 0x10 = some (l, e)) (hb : s.jopenBad l e = false) :
    completes (.jopen list idx) s (entryFields ++ ([.jobs, .leases] : List Field)) fun t => t.ended list idx .ok ∧
      t.jobOf l.job = { st := .opened, key := l.key, elastic := bit (e.field 4 1) 0, flash := bit (e.field 4 1) 1, owner := l.owner
                        region := e.jobRegion, ranges := e.ranges, fenced := false, pload := none } ∧
      (∀ j, j ≠ l.job → t.jobOf j = s.jobOf j) ∧ (0 < s.setting 0x2B01 1 →
        t.leases.find (2 * 65536 + l.job) = some (s.lineNow + s.setting 0x2B01 1 * 65536)) := by
  have hx : exec (.jopen list idx) s = execJopen list idx s := rfl
  unfold execJopen at hx
  simp only [h, hb, Bool.false_eq_true, if_false] at hx
  rw [State.entryAccept_eq] at hx
  refine completes_of hx (exec_jopen s) (by decide) ⟨State.ended_entryDone (e := e) ?_ .., ?_, fun j hj => ?_, fun hl => ?_⟩
  · exact (State.entryOf_congr (s := s.entryAccept list idx) rfl list idx).trans (by rw [State.entryOf_entryAccept, State.handed_entryOf h])
  · unfold State.jobOf
    rw [State.entryDone_jobs]
    exact Tab.get_set_same ..
  · unfold State.jobOf
    rw [State.entryDone_jobs]
    exact Tab.get_set_other _ _ _ hj
  · rw [State.entryDone_leases]
    dsimp only
    rw [if_neg (by omega), Tab.find_set_same]
    rfl

theorem completes_jopen_refused {list idx : Nat} {l : ListRun} {e : EntryRun} (h : s.handed list idx 0 0x10 = some (l, e)) (hb : s.jopenBad l e = true) :
    completes (.jopen list idx) s entryFields fun t => t.ended list idx .badCommand := by
  have hx : exec (.jopen list idx) s = execJopen list idx s := rfl
  unfold execJopen at hx
  simp only [h, hb, if_true] at hx
  exact completes_step hx (State.entryRefuse_step (Step.refl _ s) (by decide)) (State.ended_entryRefuse (State.handed_entryOf h) _ _)

/-- JCLOSE (R200). -/
theorem completes_jclose {list idx : Nat} {l : ListRun} {e : EntryRun} (h : s.handed list idx 0 0x11 = some (l, e)) (hrest : e.restZero [] = true)
    (hlive : (s.jobOf l.job).st ≠ .free) :
    completes (.jclose list idx) s (entryFields ++ ([.sessions, .jobs, .frames, .skips, .setSkips, .leases, .tiles, .attach, .plans, .conns,
        .wrs, .ctrs] : List Field)) fun t => t.entryOf list idx = none ∧ (t.jobOf l.job).st = .free ∧ (∀ j, j ≠ l.job → t.jobOf j = s.jobOf j) ∧
        t.leases.find (2 * 65536 + l.job) = none ∧ (∀ k p, s.plans.find k = some p → p.job = l.job → t.plans.find k = none) ∧
        (∀ i f, s.frames.find i = some f → f.job = l.job → t.frames.find i = none) ∧
        (∀ k, (s.sessionOf k).job = l.job → (t.sessionOf k).st = .free) ∧
        ∀ k a, s.attach.find k = some a → a.job = l.job → t.attach.find k = none := by
  have hx : exec (.jclose list idx) s = .next (((s.entryAccept list idx).jobClose l.job (list, idx)).entryDone list idx .ok 0 0 0xFFFF) := by
    show execJclose list idx s = _
    unfold execJclose
    simp only [h]
    rw [if_neg]
    simp [hrest, hlive, cond, worst]
  have hacc := State.entryAccept_eq s list idx
  have hacc' : (s.entryAccept list idx).jobs = s.jobs ∧ (s.entryAccept list idx).frames = s.frames ∧ (s.entryAccept list idx).plans = s.plans ∧
      (s.entryAccept list idx).sessions = s.sessions ∧ (s.entryAccept list idx).attach = s.attach := by
    rw [hacc]
    exact ⟨rfl, rfl, rfl, rfl, rfl⟩
  generalize s.entryAccept list idx = a at *
  obtain ⟨hj, hf, hp, hs, ha⟩ := hacc'
  have hjob : ∀ k, a.jobOf k = s.jobOf k := fun k => by unfold State.jobOf; rw [hj]
  obtain ⟨gone, hnone, hother, hlease⟩ := State.jobClose_outcome (s := a) (j := l.job) (but := (list, idx)) (by rw [hjob]; exact hlive)
  refine completes_of hx (exec_jclose s) (by decide) ⟨State.entryOf_entryDoneAt .., ?_, fun j hne => ?_, ?_, fun k p hk hpj => ?_, fun i f hi hfj => ?_,
    fun k hk => ?_, fun k x hx hxj => ?_⟩
  · unfold State.jobOf Tab.get
    rw [State.entryDone_jobs, hnone]
    rfl
  · refine Eq.trans ?_ ((hother j hne).trans (hjob j))
    unfold State.jobOf
    rw [State.entryDone_jobs]
  · rw [State.entryDone_leases, hlease]
  · rw [State.entryDone_plans]
    exact gone.plans k p (by rw [hp, hk]) hpj
  · rw [State.entryDone_frames]
    exact gone.frames i f (by rw [hf, hi]) hfj
  · unfold State.sessionOf Tab.get at hk ⊢
    rw [State.entryDone_sessions]
    cases hc : s.sessions.find k with
    | none => rw [gone.closed k (by rw [hs, hc])]; rfl
    | some y =>
      rw [hc] at hk
      rw [gone.sessions k y (by rw [hs, hc]) hk]
      rfl
  · rw [State.entryDone_attach]
    exact gone.attach k x (by rw [ha, hx]) hxj

end

end Sys2Proof.Machine

namespace Sys2Proof.Proofs
open Sys2Proof.Machine

/-- Settles O33: JOPEN by its job and lease, JCLOSE by what is gone with the job. -/
theorem jobs : Obligations.Jobs := by
  unfold Obligations.Jobs
  exact ⟨fun s list idx l e h => ⟨completes_jopen h, completes_jopen_refused h⟩, fun s list idx l e h hrest hlive => completes_jclose h hrest hlive⟩

end Sys2Proof.Proofs
end

section
/-! Proofs about the entries of the TAILOR engine. -/

namespace Sys2Proof.Machine

/-! ### Entries that are over stay over -/

section

variable {s : State} {id idx i j : Nat}

theorem State.entryOf_none_of_lists {l : ListRun} (h : s.lists.find id = some l)
    (hn : l.entries.find? (fun e => e.idx == idx && e.status.isNone) = none) : s.entryOf id idx = none := by
  rw [State.entryOf_of_lists h]
  exact hn

theorem State.entryOf_none_entryDoneAt (h : s.entryOf id idx = none) (at_ : Nat) (st : Status) (det result slot : Nat) :
    (s.entryDoneAt at_ i j st det result slot).entryOf id idx = none := by
  by_cases hi : i = id
  · subst hi
    by_cases hj : j = idx
    · rw [hj]; exact State.entryOf_entryDoneAt ..
    · unfold State.entryDoneAt
      cases hl : s.lists.find i with
      | none => exact h
      | some l =>
        cases hx : s.entryOf i j with
        | none => exact h
        | some x =>
          dsimp only
          refine State.entryOf_listCheck ?_ _
          have hput := (find?_ended (l := l.entries) hj (fun y : EntryRun => { y with status := some st, det := det, result := result, slot := slot }) fun _ => rfl).trans
            ((State.entryOf_of_lists hl).symm.trans h)
          split
          · exact State.entryOf_none_of_lists (by rw [State.listPut_lists, Tab.find_set_same]) hput
          · exact State.entryOf_none_of_lists (by simp only [State.dmaRelease, Tab.find_set_same]; rfl) hput
  · have hl : (s.entryDoneAt at_ i j st det result slot).lists.find id = s.lists.find id := State.entryDoneAt_others s i _ _ _ _ _ _ id (Ne.symm hi)
    unfold State.entryOf at *
    rw [hl]
    exact h

theorem State.entryOf_none_entryEnd (h : s.entryOf id idx = none) (st : Status) (det : Nat) : (s.entryEnd i j st det).entryOf id idx = none := by
  unfold State.entryEnd
  split
  · exact h
  · exact State.entryOf_none_entryDoneAt h _ _ _ _ _

/-- The REWARD entries of a slot's work that is dropped are over. -/
theorem State.dropSlotWork_rewards {k : Nat} {free : Bool} {a : Attach} {r : Reward} (ha : s.attach.find k = some a) (hr : a.reward = some r)
    {x : Nat × Nat} (hx : x ∈ r.entries) : (s.dropSlotWork k free).entryOf x.1 x.2 = none := by
  unfold State.dropSlotWork
  simp only [ha, hr]
  have key : ∀ (l : List (Nat × Nat)) (u : State), x ∈ l ∨ u.entryOf x.1 x.2 = none →
      (each l (fun x e => x.entryEnd e.1 e.2 .deadlineMissed 0) u).entryOf x.1 x.2 = none := fun l => by
    induction l with
    | nil => exact fun u h => h.resolve_left (by simp)
    | cons p q ih =>
      intro u h
      refine ih _ ?_
      rcases h with h | h
      · rcases List.mem_cons.1 h with rfl | h
        · exact .inr (State.entryOf_entryEnd ..)
        · exact .inl h
      · exact .inr (State.entryOf_none_entryEnd h _ _)
  exact key _ _ (.inl hx)

/-- The tiles of a slot's work that is dropped. -/
theorem State.dropSlotWork_tiles {k : Nat} {free : Bool} {a : Attach} (ha : s.attach.find k = some a) :
    (s.dropSlotWork k free).tiles = s.tiles.mapVals fun _ t => t.dropSlot k free := by
  have hkeep : ∀ (l : List (Nat × Nat)) (u : State), (each l (fun x e => x.entryEnd e.1 e.2 .deadlineMissed 0) u).tiles = u.tiles := fun l u =>
    each_keeps State.tiles _ (fun v e => by
      unfold State.entryEnd
      split
      · rfl
      · exact State.entryDone_tiles _) l u
  unfold State.dropSlotWork
  simp only [ha]
  split
  · simp
  · rw [hkeep]
    simp

theorem State.dropSlotWork_attach {k : Nat} {free : Bool} {a : Attach} (ha : s.attach.find k = some a) :
    (s.dropSlotWork k free).attach = if free then s.attach.erase k else s.attach.set k { a with reward := none } := by
  have hkeep : ∀ (l : List (Nat × Nat)) (u : State), (each l (fun x e => x.entryEnd e.1 e.2 .deadlineMissed 0) u).attach = u.attach := fun l u =>
    each_keeps State.attach _ (fun v e => by
      unfold State.entryEnd
      split
      · rfl
      · exact State.entryDone_attach _) l u
  unfold State.dropSlotWork
  simp only [ha]
  split
  · simp
  · rw [hkeep]
    simp

/-- Nothing of a slot is left on a tile that has dropped it. -/
theorem Tile.dropSlot_gone (t : Tile) (k : Nat) (free : Bool) : (∀ r ∈ (t.dropSlot k free).evq, r.slot ≠ k) ∧
    ∀ c ∈ (t.dropSlot k free).contribs, c.slot ≠ k := by
  unfold Tile.dropSlot Tile.evSettle
  refine ⟨fun r hr => ?_, fun c hc => ?_⟩
  · rcases List.mem_append.1 hr with hr | hr
    · simpa using (List.mem_filter.1 hr).2
    · simpa using (List.mem_filter.1 (List.mem_of_mem_take hr)).2
  · simpa using (List.mem_filter.1 hc).2

theorem Tile.dropSlot_ctxs (t : Tile) (k : Nat) (free : Bool) : (t.dropSlot k free).ctxs = if free then t.ctxs.erase k else t.ctxs := rfl

theorem State.tileOf_dropSlotWork {k : Nat} {free : Bool} {a : Attach} (ha : s.attach.find k = some a) (n : Nat) :
    ((s.dropSlotWork k free).tileOf n = s.tileOf n ∧ s.tiles.find n = none) ∨ (s.dropSlotWork k free).tileOf n = (s.tileOf n).dropSlot k free :=
  State.tileOf_of_mapVals (State.dropSlotWork_tiles ha) n

/-! ### The end of a TAILOR entry -/

theorem State.entryDoneAt_keeps (s : State) (at_ id idx : Nat) (st : Status) (det result slot : Nat) :
    (s.entryDoneAt at_ id idx st det result slot).attach = s.attach ∧ (s.entryDoneAt at_ id idx st det result slot).tiles = s.tiles := by
  have k := State.entryDoneAt_step (x1 := at_) (x2 := id) (x3 := idx) (x4 := st) (x5 := det) (x6 := result) (x7 := slot)
    (Step.refl 72075204416507008 s) (by decide)
  exact ⟨k.attach (by decide), k.tiles (by decide)⟩

theorem State.tailorDone_eq (h : s.suspects = []) (at_ slot job : Nat) (keys : List Nat) :
    s.tailorDone at_ id idx slot job keys = s.entryDoneAt at_ id idx .ok 0 0 slot := by
  unfold State.tailorDone
  have hdet : s.suspectTouchDet keys [] = 0 := by unfold State.suspectTouchDet; rw [h]; rfl
  rw [State.suspectStatus_none h, hdet]
  rfl

/-- The conditions of an entry that names an attached slot of its own job. -/
theorem State.attachConds_met {l : ListRun} {e : EntryRun} {fields : List (Nat × Nat)} {a : Attach} (hrest : e.restZero fields = true)
    (hs : e.field 4 2 < 4096) (ha : s.attach.find (e.field 4 2) = some a) (hf : s.slotForeign (e.field 4 2) l.job = false) :
    s.attachConds l e fields = [] := by
  simp [State.attachConds, hrest, Nat.not_le.2 hs, ha, hf, cond]

end

/-! ### TATTACH and its scan -/

theorem putCell_twice {α : Type} (k : Nat) (v : α) (l : List (Nat × α)) : putCell k v (putCell k v l) = putCell k v l := by
  induction l with
  | nil => simp [putCell]
  | cons c r ih =>
    obtain ⟨j, w⟩ := c
    rw [putCell]
    by_cases h1 : k < j
    · rw [if_pos h1, putCell, if_neg (Nat.lt_irrefl k), if_pos rfl]
    · rw [if_neg h1]
      by_cases h2 : j = k
      · rw [if_pos h2, putCell, if_neg (Nat.lt_irrefl k), if_pos rfl]
      · rw [if_neg h2, putCell, if_neg h1, if_neg h2, ih]

theorem Tab.set_twice {α : Type} (t : Tab α) (k : Nat) (v : α) : (t.set k v).set k v = t.set k v :=
  congrArg Tab.mk (putCell_twice k v t.cells)

/-- A tile with a slot's context put. -/
def Tile.withCtx (t : Tile) (slot : Nat) (c : Ctx) : Tile := { t with ctxs := t.ctxs.set slot c }

theorem Tile.withCtx_mem (t : Tile) (slot : Nat) (c : Ctx) (st : StoreSel) : (t.withCtx slot c).mem st = t.mem st := by
  cases st <;> rfl

theorem State.ctxsPut_tileOf (slot : Nat) (c : Ctx) : ∀ (keys : List Nat) (s : State) (k : Nat),
    (each keys (fun y k => y.setTile k ((y.tileOf k).withCtx slot c)) s).tileOf k =
      if k ∈ keys then (s.tileOf k).withCtx slot c else s.tileOf k := fun keys => by
  induction keys with
  | nil => exact fun s k => by rw [if_neg (by simp)]; rfl
  | cons a r ih =>
    intro s k
    refine (ih _ k).trans ?_
    by_cases hk : k = a
    · subst hk
      rw [State.tileOf_setTile_same, if_pos List.mem_cons_self]
      unfold Tile.withCtx
      dsimp only
      rw [Tab.set_twice, ite_self]
    · rw [State.tileOf_setTile_other _ hk]
      simp [hk]

section

variable {s : State} {list idx : Nat} {l : ListRun} {e : EntryRun}

/-- TATTACH of a sound attachment (R205, R219). -/
theorem completes_tattach (h : s.begun list idx 3 1 l e) (hb : s.attachBad e (e.attachOf l.job) = false)
    (hf : s.slotForeign (e.field 4 2) l.job = false) (hr : (e.attachOf l.job).region.inside (s.jobOf l.job).region = true)
    (he : (e.attachOf l.job).threeFactor = false → (s.jobOf l.job).region.has (e.attachOf l.job).errX (e.attachOf l.job).errY = true)
    (hk : (s.wafer.regionKeys (e.attachOf l.job).region).any s.fencedAt = false) :
    completes (.tattach list idx) s (entryFields ++ ([.tiles, .attach] : List Field)) fun t => (t.entryOf list idx).isSome = true ∧
      t.attach = s.attach.set (e.field 4 2) (e.attachOf l.job) ∧
      (∀ k, k ∉ s.wafer.regionKeys (e.attachOf l.job).region → t.tileOf k = s.tileOf k) ∧
      ∀ k ∈ s.wafer.regionKeys (e.attachOf l.job).region, t.tileOf k = (s.tileOf k).withCtx (e.field 4 2) ctx0 := by
  generalize ha : e.attachOf l.job = a at *
  refine completes_accept (by unfold exec execTattach; rfl) h ?_ (exec_tattach s) (by decide) fun L hl => ?_
  · dsimp only
    rw [ha, hb, hf, hr]
    cases h3 : a.threeFactor with
    | true => simp [cond]
    | false => simp [cond, he h3]
  · dsimp only
    rw [ha]
    have hnone : (s.wafer.regionKeys a.region).any (State.fencedAt { s with lists := L }) = false := hk
    rw [if_neg (by rw [hnone]; decide)]
    have htile := State.ctxsPut_tileOf (e.field 4 2) ctx0 (s.wafer.regionKeys a.region)
      { s with lists := L, attach := s.attach.set (e.field 4 2) a }
    have hkeep : ∀ {β : Type} (g : State → β), (∀ (u : State) k x, g (u.setTile k x) = g u) → ∀ u : State,
        g (each (s.wafer.regionKeys a.region) (fun y k => y.setTile k ((y.tileOf k).withCtx (e.field 4 2) ctx0)) u) = g u := fun g hg u =>
      each_keeps g _ (fun v k => hg v k _) _ _
    refine ⟨?_, hkeep State.attach (fun u k x => u.setTile_attach k x) _, fun k hn => ?_, fun k hm => ?_⟩
    · refine (congrArg Option.isSome (hl _ (hkeep State.lists (fun u k x => u.setTile_lists k x) _))).trans rfl
    · exact (htile k).trans (if_neg hn)
    · exact (htile k).trans (if_pos hm)

/-- A tile scans a sound table (R220). -/
theorem State.scanTile_sound {k slot : Nat} {a : Attach} (h : (s.tileOf k).bad = .empty) : s.scanTile k slot a =
    s.setTile k ((s.tileOf k).withCtx slot ⟨0, countValid ((s.tileOf k).synapses a a.budget), highValid ((s.tileOf k).synapses a a.budget), [], true⟩) := by
  unfold State.scanTile
  rw [State.storeEcc_sound (Tile.soundAt_empty h)]
  rfl

/-- The scan of the one tile of an attachment ends TATTACH (R220). -/
theorem completes_tattachScanDone {k : Nat} {a : Attach} {c : Ctx} (hl : s.lists.find list = some l) (he : s.entryOf list idx = some e)
    (hw : l.waiting ≠ some idx) (heng : e.engine = 3) (hop : e.op = 1) (ha : s.attach.find (e.field 4 2) = some a)
    (hk : s.wafer.regionKeys a.region = [k]) (hc : (s.tileOf k).ctxs.find (e.field 4 2) = some c) (hb : (s.tileOf k).bad = .empty)
    (hs : s.suspects = []) : completes (.tattachScanDone list idx) s (entryFields ++ ([.suspects, .tiles] : List Field)) fun t =>
      t.ended list idx e.worst ∧ s.tileBecomes k ((s.tileOf k).withCtx (e.field 4 2)
        ⟨0, countValid ((s.tileOf k).synapses a a.budget), highValid ((s.tileOf k).synapses a a.budget), [], true⟩) t := by
  have hrun : s.running list idx 3 1 = some (l, e) := by
    unfold State.running
    simp only [hl, he]
    exact if_pos ⟨hw, heng, hop⟩
  obtain ⟨u, hu⟩ : ∃ u : State, u = s.scanTile k (e.field 4 2) a := ⟨_, rfl⟩
  have husus : u.suspects = [] := by rw [hu, State.scanTile_sound hb, State.setTile_suspects, hs]
  have hx : exec (.tattachScanDone list idx) s = .next (u.entryDone list idx e.worst
      (if e.worst = .ok then u.suspectTouchDet [k] [] else e.det) 0 (e.field 4 2)) := by
    show execTattachScanDone list idx s = _
    unfold execTattachScanDone
    simp only [hrun, ha, hk]
    have hkeys : ([k].filter fun k => ((s.tileOf k).ctxs.find (e.field 4 2)).isSome) = [k] := by simp [hc]
    rw [hkeys, show each [k] (fun x k => x.scanTile k (e.field 4 2) a) s = u from hu.symm, State.suspectStatus_none husus]
    by_cases hok : e.worst = .ok
    · simp only [hok, if_true]
      rfl
    · simp only [if_neg hok]
      rfl
  refine completes_of hx (exec_tattachScanDone s) (by decide) ⟨State.ended_entryDone (e := e) ?_ .., State.tileBecomes_of_set ?_⟩
  · exact (State.entryOf_congr (by rw [hu, State.scanTile_sound hb, State.setTile_lists]) _ _).trans he
  · rw [State.entryDone_tiles, hu, State.scanTile_sound hb]
    rfl

/-! ### TDETACH, TCLEAR and TREWARD -/

theorem completes_tdetach {a : Attach} (h : s.begun list idx 3 2 l e) (hrest : e.restZero [(4, 2)] = true) (hlt : e.field 4 2 < 4096)
    (ha : s.attach.find (e.field 4 2) = some a) (hf : s.slotForeign (e.field 4 2) l.job = false) (hs : s.suspects = [])
    (hr : ∀ r, a.reward = some r → (list, idx) ∉ r.entries) :
    completes (.tdetach list idx) s (entryFields ++ ([.tiles, .attach] : List Field)) fun t => t.ended list idx .ok ∧ t.attach.find (e.field 4 2) = none ∧
      (∀ j, j ≠ e.field 4 2 → t.attach.find j = s.attach.find j) ∧ (∀ r, a.reward = some r → ∀ x ∈ r.entries, t.entryOf x.1 x.2 = none) ∧
      ∀ k, (t.tileOf k).ctxs.find (e.field 4 2) = none ∧ (∀ r ∈ (t.tileOf k).evq, r.slot ≠ e.field 4 2) ∧
        (∀ c ∈ (t.tileOf k).contribs, c.slot ≠ e.field 4 2) ∧
        ∀ j, j ≠ e.field 4 2 → (t.tileOf k).ctxs.find j = (s.tileOf k).ctxs.find j := by
  refine completes_accept (by unfold exec execTdetach; rfl) h (State.attachConds_met hrest hlt ha hf) (exec_tdetach s) (by decide) fun L hl => ?_
  dsimp only
  generalize hslot : e.field 4 2 = slot at *
  obtain ⟨x, hx⟩ : ∃ x : State, x = { s with lists := L } := ⟨_, rfl⟩
  have hxa : x.attach = s.attach := by rw [hx]
  have hxt : x.tiles = s.tiles := by rw [hx]
  have hxs : x.suspects = s.suspects := by rw [hx]
  have hent := hl x (by rw [hx])
  rw [← hx]
  have hax : x.attach.find slot = some a := by rw [hxa, ha]
  have hd : (x.detachSlot slot).suspects = [] := by
    rw [(State.detachSlot_step (Step.refl 72075891611274368 x) (by decide)).suspects (by decide), hxs, hs]
  rw [State.tailorDone_eq hd]
  unfold State.detachSlot
  refine ⟨State.ended_entryDoneAt (e := e) (State.entryOf_dropSlotWork hent fun b r hb hbr => hr r ?_) .., ?_, fun j hj => ?_, fun r hrew y hy => ?_, fun k => ?_⟩
  · rw [Option.some.inj (hax.symm.trans hb), hbr]
  · rw [(State.entryDoneAt_keeps ..).1, State.dropSlotWork_attach hax]
    exact Tab.find_erase_same _ _
  · rw [(State.entryDoneAt_keeps ..).1, State.dropSlotWork_attach hax, ← hxa]
    exact Tab.find_erase_other _ hj
  · exact State.entryOf_none_entryDoneAt (State.dropSlotWork_rewards hax hrew hy) _ _ _ _ _
  · have htile : (State.entryDoneAt (x.dropSlotWork slot true) x.stamp list idx .ok 0 0 slot).tileOf k = (x.dropSlotWork slot true).tileOf k := by
      unfold State.tileOf
      rw [(State.entryDoneAt_keeps ..).2]
    have hsk : x.tileOf k = s.tileOf k := by unfold State.tileOf; rw [hxt]
    rw [htile]
    rcases State.tileOf_dropSlotWork (free := true) hax k with ⟨h1, h2⟩ | h1
    · rw [h1, ← hsk, State.tileOf_missing h2]
      exact ⟨rfl, fun r hr => absurd hr (by simp [tile0]), fun c hc => absurd hc (by simp [tile0]), fun _ _ => rfl⟩
    · rw [h1, ← hsk]
      obtain ⟨hq, hc⟩ := (x.tileOf k).dropSlot_gone slot true
      exact ⟨Tab.find_erase_same _ _, hq, hc, fun j hj => Tab.find_erase_other _ hj⟩

/-- TCLEAR of a table on one tile (R223). -/
theorem completes_tclear {a : Attach} {k : Nat} {c : Ctx} (h : s.begun list idx 3 4 l e) (hrest : e.restZero [(4, 2)] = true) (hlt : e.field 4 2 < 4096)
    (ha : s.attach.find (e.field 4 2) = some a) (hf : s.slotForeign (e.field 4 2) l.job = false) (hs : s.suspects = [])
    (hr : ∀ r, a.reward = some r → (list, idx) ∉ r.entries) (hk : s.wafer.regionKeys a.region = [k])
    (hc : (s.tileOf k).ctxs.find (e.field 4 2) = some c) (hb : (s.tileOf k).bad = .empty) (hw : (s.tileOf k).w.wf = true) :
    completes (.tclear list idx) s (entryFields ++ ([.suspects, .tiles, .attach] : List Field)) fun t => t.ended list idx .ok ∧
      t.attach.find (e.field 4 2) = some { a with reward := none } ∧ (t.tileOf k).ctxs.find (e.field 4 2) = some ⟨0, 0, 0, [], true⟩ ∧
      (t.tileOf k).readBytes .w (a.wbase * 64) (a.budget * 16) = List.replicate (a.budget * 16) 0#8 ∧
      ∀ r ∈ (t.tileOf k).evq, r.slot ≠ e.field 4 2 := by
  refine completes_accept (by unfold exec execTclear; rfl) h (State.attachConds_met hrest hlt ha hf) (exec_tclear s) (by decide) fun L hl => ?_
  generalize hslot : e.field 4 2 = slot at *
  obtain ⟨x, hx⟩ : ∃ x : State, x = { s with lists := L } := ⟨_, rfl⟩
  have hax : x.attach.find slot = some a := by rw [hx]; exact ha
  have hkx : x.wafer.regionKeys a.region = [k] := by rw [hx]; exact hk
  have hxs : x.suspects = [] := by rw [hx]; exact hs
  have hcx : (x.tileOf k).ctxs.find slot = some c := by rw [hx]; exact hc
  have hbx : (x.tileOf k).bad = .empty := by rw [hx]; exact hb
  have hwx : (x.tileOf k).w.wf = true := by rw [hx]; exact hw
  have hent := hl x (by rw [hx])
  rw [← hx]
  dsimp only
  have hkeys : (x.wafer.regionKeys a.region).filter (fun k => ((x.tileOf k).ctxs.find slot).isSome) = [k] := by rw [hkx]; simp [hcx]
  simp only [hax, hkeys]
  have hy : (x.dropSlotWork slot false).tileOf k = (x.tileOf k).dropSlot slot false := by
    rcases State.tileOf_dropSlotWork (free := false) hax k with ⟨-, h2⟩ | h1
    · rw [State.tileOf_missing h2] at hcx
      cases hcx
    · exact h1
  have hysus : (x.dropSlotWork slot false).suspects = [] := by
    rw [(State.dropSlotWork_step (Step.refl 72075891611274368 x) (by decide)).suspects (by decide), hxs]
  have hyent : (x.dropSlotWork slot false).entryOf list idx = some e := State.entryOf_dropSlotWork hent fun b r hb hbr =>
    hr r (by rw [Option.some.inj (hax.symm.trans hb), hbr])
  have hyatt := State.dropSlotWork_attach (free := false) hax
  generalize x.dropSlotWork slot false = y at *
  have hyb : (y.tileOf k).bad = .empty := by rw [hy]; exact hbx
  have hyw : (y.tileOf k).w.wf = true := by rw [hy]; exact hwx
  have hclear : each [k] (fun y k => y.clearTable k slot a) y = (y.setTile k ((y.tileOf k).writeBytes .w (a.wbase * 64) (List.replicate (a.budget * 16) 0#8))).setTile k
      (((y.tileOf k).writeBytes .w (a.wbase * 64) (List.replicate (a.budget * 16) 0#8)).withCtx slot ⟨0, 0, 0, [], true⟩) := by
    show y.clearTable k slot a = _
    unfold State.clearTable
    rw [State.storeWrite_sound (Tile.soundAt_empty hyb)]
    dsimp only
    rw [State.tileOf_setTile_same]
    rfl
  rw [hclear, State.tailorDone_eq (by rw [State.setTile_suspects, State.setTile_suspects, hysus])]
  have htile : ∀ u : State, (State.entryDoneAt u x.stamp list idx .ok 0 0 slot).tileOf k = u.tileOf k := fun u => by
    unfold State.tileOf
    rw [(State.entryDoneAt_keeps ..).2]
  rw [htile, State.tileOf_setTile_same, (State.entryDoneAt_keeps ..).1, State.setTile_attach, State.setTile_attach, hyatt]
  refine ⟨State.ended_entryDoneAt (e := e) ?_ .., Tab.find_set_same _ _ _, Tab.find_set_same _ _ _, ?_, ?_⟩
  · exact (State.entryOf_congr (by rw [State.setTile_lists, State.setTile_lists]) _ _).trans hyent
  · have hmem : (((y.tileOf k).writeBytes .w (a.wbase * 64) (List.replicate (a.budget * 16) 0#8)).withCtx slot ⟨0, 0, 0, [], true⟩).mem .w =
        ((y.tileOf k).mem .w).writeBytes (a.wbase * 64) (List.replicate (a.budget * 16) 0#8) :=
      (Tile.withCtx_mem _ _ _ _).trans (Tile.mem_writeBytes _ _ _ _ (Tile.soundAt_empty hyb))
    have hread := Memory.readBytes_writeBytes hyw (a.wbase * 64) (List.replicate (a.budget * 16) 0#8)
    rw [List.length_replicate] at hread
    exact (congrArg (fun m => Memory.readBytes m _ _) hmem).trans hread
  · have hq : (((y.tileOf k).writeBytes .w (a.wbase * 64) (List.replicate (a.budget * 16) 0#8)).withCtx slot ⟨0, 0, 0, [], true⟩).evq = (y.tileOf k).evq := rfl
    rw [hq, hy]
    exact (Tile.dropSlot_gone _ _ _).1

/-- A reward's place in its slot's attachment: a new one, or one added to that which is pending (R239, R240). -/
def Attach.rewarded (a : Attach) (v : Int) (entry : Nat × Nat) (due : Nat) : Attach :=
  { a with reward := some <| match a.reward with
      | none => ⟨v, [entry], due⟩
      | some r => { r with value := r.value + v, entries := r.entries ++ [entry] } }

theorem completes_treward {a : Attach} (h : s.begun list idx 3 3 l e) (hrest : e.restZero [(4, 2), (6, 2)] = true) (hlt : e.field 4 2 < 4096)
    (ha : s.attach.find (e.field 4 2) = some a) (hf : s.slotForeign (e.field 4 2) l.job = false) (h3 : a.threeFactor = true) :
    completes (.treward list idx) s (entryFields ++ ([.attach] : List Field)) fun t => (t.entryOf list idx).isSome = true ∧
      (∀ j, j ≠ e.field 4 2 → t.attach.find j = s.attach.find j) ∧
      t.attach.find (e.field 4 2) = some (a.rewarded (signed 16 (e.field 6 2)) (list, idx)
        (s.rewardLine (s.sessionOf (e.field 4 2)).p (s.sessionOf (e.field 4 2)).phase s.lineNow)) := by
  refine completes_accept (by unfold exec execTreward; rfl) h ?_ (exec_treward s) (by decide) fun L hl => ?_
  · rw [State.attachConds_met hrest hlt ha hf, ha]
    simp [h3, cond]
  · refine ⟨by rw [hl _ rfl]; rfl, fun j hj => ?_, ?_⟩
    · refine (Tab.find_mapVals _ _ _).trans ?_
      simp [hj]
    · refine (Tab.find_mapVals _ _ _).trans ?_
      rw [show Tab.find _ _ = some a from ha, Option.map_some]
      exact congrArg some (if_pos rfl)

end

end Sys2Proof.Machine

namespace Sys2Proof.Proofs
open Sys2Proof.Machine

/-- Settles O34: each entry of the TAILOR engine by what it leaves of its slot. -/
theorem tailorEntries : Obligations.TailorEntries := by
  unfold Obligations.TailorEntries
  refine ⟨fun s list idx l e h => completes_tattach h, fun s list idx k l e a c hl he hw heng hop ha hk hc hb hs =>
    completes_tattachScanDone hl he hw heng hop ha hk hc hb hs, fun s list idx l e a => ?_⟩
  intro slot hlt ha hf hs hr
  refine ⟨fun h hrest => completes_tdetach h hrest hlt ha hf hs hr, fun h hrest k c hk hc hb hw => completes_tclear h hrest hlt ha hf hs hr hk hc hb hw,
    fun h hrest h3 => ?_⟩
  obtain ⟨t, hx, hfs, hent, hother, hrew⟩ := completes_treward h hrest hlt ha hf h3
  refine ⟨t, hx, hfs, hent, hother, fun hn => hrew.trans ?_, fun r hn => hrew.trans ?_⟩
  · unfold Attach.rewarded
    rw [hn]
  · unfold Attach.rewarded
    rw [hn]

end Sys2Proof.Proofs
end

section
/-! Why the statement about the collar's starts fails: the boot-up of a node that recovers from bus-off waits. -/

namespace Sys2Proof.Machine

/-! ### What is watched continuously takes back nothing that was sent -/

section

variable {D : List Nat} {s0 s : State} (hD : ∀ d ∈ sideDets, d ∈ D)

include hD

theorem State.levelCheck_calm (h : Calm D s0 s) : Calm D s0 s.levelCheck := by
  unfold State.levelCheck
  dsimp only
  split
  · exact h
  · refine State.emcyEvent_calm hD ?_ _ _ _
    exact h.put rfl rfl rfl

theorem State.replaceCheck_calm (h : Calm D s0 s) (hr : 0x0C07 ∈ D) : Calm D s0 s.replaceCheck := by
  unfold State.replaceCheck
  dsimp only
  split
  · exact h
  · refine State.emcyEvent_calm hD (State.fire_calm (h.trans ⟨fun e _ => State.detOf_congr (by simp) e, by simp, ?_⟩) hr _ _) _ _ _
    rw [State.setting_putCell_other _ _ (by decide) (by decide) (by decide)]
    rfl

theorem State.settle_calm (h : Calm D s0 s) (hr : 0x0C07 ∈ D) (x : State) : Calm D s0 (State.settle x s) := by
  have hk := State.replaceCheck_calm hD (State.levelCheck_calm hD h) hr
  unfold State.settle
  dsimp only
  split
  · exact State.emcyAt_calm hD hk _ _ _
  · exact hk

end

/-- What has been sent before the watch stays sent. -/
theorem State.settle_out (x s : State) : s.out <+: (State.settle x s).out :=
  (State.settle_calm (D := 0x0C07 :: sideDets) (fun _ h => List.mem_cons_of_mem _ h) (Calm.refl _ s) List.mem_cons_self x).out

/-- A collar whose firmware starts (step 5 of a cold start) while the node still has an EMCY of a bus-off recovery to send. -/
def startRecovering : State := { Sys2Proof.Tests.starting 5 false with
  can := { (Sys2Proof.Tests.starting 5 false).can with recovering := true, queue := [⟨0x8140, 0, 0, 0⟩] } }

/-- The command's effect sends nothing. -/
theorem startRecovering_sends : (match exec .collarFirmwareStart startRecovering with
    | .next t => t.out.length
    | _ => 0) = 0 := by decide +kernel

end Sys2Proof.Machine

namespace Sys2Proof.Proofs
open Sys2Proof.Machine

/-- Refutes O53: at step 5 the boot-up message is to have been sent. In `startRecovering` the node is still sending the messages of a
bus-off recovery, behind which every other frame waits (R318), and the command sends nothing. -/
theorem not_collarStart : ¬ Obligations.CollarStart := by
  unfold Obligations.CollarStart
  rintro ⟨-, -, -, hstart⟩
  obtain ⟨-, -, hfirm⟩ := hstart startRecovering rfl rfl
  obtain ⟨-, hwait⟩ := hfirm rfl
  obtain ⟨u, hx, -, ⟨-, -, -, -, -, brs, esi, a, b, hout⟩, -⟩ := hwait (.inl rfl)
  have hlen := startRecovering_sends
  rw [hx] at hlen
  have hpos : 0 < u.out.length := by
    rw [hout, List.length_append, List.length_cons]
    omega
  exact absurd (Nat.lt_of_lt_of_le hpos (State.settle_out startRecovering u).length_le) (by rw [show (State.settle startRecovering u).out.length = 0 from hlen]; decide)

end Sys2Proof.Proofs
end

section
/-! COMMIT and the health window (R428, R431, R440). -/

namespace Sys2Proof.Machine

/-! ### Blown fuse bits (R428) -/

/-- Blowing one bit adds it to the count, unless it was blown before. -/
theorem popcount_setBit (w v i : Nat) :
    popcount w (setBit v i) = popcount w v + if i < w ∧ bit v i = false then 1 else 0 := by
  induction w generalizing v i with
  | zero => simp [popcount]
  | succ w ih =>
    cases hb : bit v i with
    | true => simp [setBit, hb]
    | false =>
      simp only [setBit, hb, Bool.false_eq_true, if_false, and_true]
      cases i with
      | zero =>
        have h0 : v % 2 = 0 := by simpa [bit] using hb
        simp only [popcount, Nat.pow_zero, Nat.zero_lt_succ, if_true]
        rw [show (v + 1) / 2 = v / 2 by omega]
        omega
      | succ i =>
        have hb' : bit (v / 2) i = false := by simpa [bit, Nat.div_div_eq_div_mul, Nat.pow_succ'] using hb
        have := ih (v / 2) i
        simp only [setBit, hb', Bool.false_eq_true, if_false, and_true] at this
        simp only [popcount, Nat.succ_lt_succ_iff]
        rw [show (v + 2 ^ (i + 1)) / 2 = v / 2 + 2 ^ i by rw [Nat.pow_succ]; omega,
          show (v + 2 ^ (i + 1)) % 2 = v % 2 by rw [Nat.pow_succ]; omega, this]
        omega

theorem setBit_lt {w v i : Nat} (hv : v < 2 ^ w) (hi : i < w) : setBit v i < 2 ^ w := by
  induction w generalizing v i with
  | zero => omega
  | succ w ih =>
    cases hb : bit v i with
    | true => simpa [setBit, hb] using hv
    | false =>
      simp only [setBit, hb, Bool.false_eq_true, if_false]
      cases i with
      | zero =>
        have h0 : v % 2 = 0 := by simpa [bit] using hb
        rw [Nat.pow_succ] at hv ⊢
        omega
      | succ i =>
        have hb' : bit (v / 2) i = false := by simpa [bit, Nat.div_div_eq_div_mul, Nat.pow_succ'] using hb
        have := ih (v := v / 2) (i := i) (by rw [Nat.pow_succ] at hv; omega) (by omega)
        simp only [setBit, hb', Bool.false_eq_true, if_false] at this
        rw [Nat.pow_succ] at hv ⊢
        rw [Nat.pow_succ]
        omega

theorem popcount_le (w v : Nat) : popcount w v ≤ w := by
  induction w generalizing v with
  | zero => simp [popcount]
  | succ w ih =>
    have := ih (v / 2)
    simp only [popcount]
    omega

/-- The lowest bits are all blown, so the next one adds to them. -/
theorem popcount_succ_setBit {v i : Nat} (h : popcount i v = i) : popcount (i + 1) (setBit v i) = i + 1 := by
  have hs : ∀ w v, popcount (w + 1) v = popcount w v + v / 2 ^ w % 2 := by
    intro w
    induction w with
    | zero => intro v; simp [popcount]
    | succ w ih =>
      intro v
      rw [popcount, ih (v / 2), popcount, Nat.div_div_eq_div_mul, Nat.pow_succ']
      omega
  have hset := popcount_setBit (i + 1) v i
  have hsucc := hs i v
  cases hb : bit v i with
  | true =>
    have h1 : v / 2 ^ i % 2 = 1 := by simpa [bit] using hb
    simp [hb] at hset
    omega
  | false =>
    have h1 : v / 2 ^ i % 2 = 0 := by simpa [bit] using hb
    simp [hb] at hset
    omega

/-- Bits are blown from the lowest on until as many are as are asked for. -/
theorem blowFrom_popcount {fuel i k v : Nat} (hf : fuel + i = 64) (hk : k ≤ 64) (hle : popcount 64 v ≤ k) (hlow : popcount i v = i)
    (hv : v < 2 ^ 64) : popcount 64 (blowFrom fuel i k v) = k ∧ blowFrom fuel i k v < 2 ^ 64 := by
  induction fuel generalizing i v with
  | zero =>
    obtain rfl : i = 64 := by omega
    exact ⟨by simp only [blowFrom]; omega, hv⟩
  | succ fuel ih =>
    rw [blowFrom]
    split
    · exact ⟨by omega, hv⟩
    · refine ih (i := i + 1) (by omega) ?_ (popcount_succ_setBit hlow) (setBit_lt hv (by omega))
      rw [popcount_setBit]
      split <;> omega

theorem blowFrom_lt {fuel i k v : Nat} (hf : fuel + i = 64) (hv : v < 2 ^ 64) : blowFrom fuel i k v < 2 ^ 64 := by
  induction fuel generalizing i v with
  | zero => exact hv
  | succ fuel ih =>
    rw [blowFrom]
    split
    · exact hv
    · exact ih (i := i + 1) (by omega) (setBit_lt hv (by omega))

/-! ### The steps of a COMMIT -/

section

variable (s : State)

/-- The fuse word of the rollback counter after a COMMIT. -/
def State.blown : Nat :=
  if (s.fw.slot s.fw.runB).st ≠ .committed then
    blowFrom 64 0 (max s.rollback (s.fw.slot s.fw.runB).security) s.fuses.rollback.toNat
  else s.fuses.rollback.toNat

theorem State.blown_lt : s.blown < 2 ^ 64 := by
  unfold State.blown
  split
  · exact blowFrom_lt rfl s.fuses.rollback.isLt
  · exact s.fuses.rollback.isLt

/-- The counter after a COMMIT is the image's SECURITY where that is larger (R428). -/
theorem State.blown_count (h : (s.fw.slot s.fw.runB).security ≤ 64) : popcount 64 s.blown =
    if (s.fw.slot s.fw.runB).st = .committed then s.rollback else max s.rollback (s.fw.slot s.fw.runB).security := by
  unfold State.blown
  split
  · next hc =>
    have hr : s.rollback ≤ 64 := popcount_le 64 _
    exact (blowFrom_popcount rfl (by omega) (by unfold State.rollback; omega) rfl s.fuses.rollback.isLt).1
  · next hc => rw [if_pos (not_not.mp hc)]; rfl

/-- A slot that holds an image below the counter becomes REVOKED. -/
def Slot.revokedBelow (y : Slot) (n : Nat) : Slot := if y.holdsImage && decide (y.security < n) then { y with st := SlotSt.revoked } else y

theorem Slot.revokedBelow_eq (y : Slot) (n : Nat) :
    y.revokedBelow n = { y with st := if y.holdsImage = true ∧ y.security < n then .revoked else y.st } := by
  unfold Slot.revokedBelow
  cases hy : y.holdsImage <;> by_cases hn : y.security < n <;> simp [hn]

/-- What a COMMIT makes of the image that it commits, and of the other slot's. -/
def Slot.committed (x : Slot) : Slot := { x with st := .committed }
def Slot.standby (y : Slot) : Slot := if y.st = .committed then { y with st := .standby } else y

theorem Slot.standby_eq (y : Slot) : y.standby = { y with st := if y.st = .committed then .standby else y.st } := by
  unfold Slot.standby
  split <;> rfl

theorem Slot.standby_holds (y : Slot) : y.standby.holdsImage = y.holdsImage := by
  unfold Slot.standby
  split
  · next h => simp [Slot.holdsImage, h]
  · rfl

/-- The slots after a COMMIT, the running one first. -/
theorem State.commitRest_fw : (s.commitRest.fw.runB = s.fw.runB ∧ s.commitRest.fw.commit = none ∧
      s.commitRest.fw.records = s.fw.records.map fun r => if r.schema = (s.fw.slot s.fw.runB).schemaWrite then r else { r with live := false }) ∧
    ∀ b, s.commitRest.fw.slot b =
      (if (s.fw.slot s.fw.runB).st ≠ .committed then
        (if b = s.fw.runB then (s.fw.slot b).committed else (s.fw.slot b).standby) else s.fw.slot b).revokedBelow (popcount 64 s.blown) := by
  unfold State.commitRest State.blown
  cases hb : s.fw.runB with
  | false =>
    by_cases hc : s.fw.slotA.st = .committed
    · simp [hb, hc, Slot.revokedBelow, Firmware.slot]
    · simp [hb, hc, Slot.revokedBelow, Firmware.slot, Firmware.setSlot, Slot.committed, Slot.standby]
  | true =>
    by_cases hc : s.fw.slotB.st = .committed
    · simp [hb, hc, Slot.revokedBelow, Firmware.slot]
    · simp [hb, hc, Slot.revokedBelow, Firmware.slot, Firmware.setSlot, Slot.committed, Slot.standby]

/-- A COMMIT's steps 2 to 5. -/
theorem State.commitRest_commits : s.commits s.commitRest := by
  have hr : s.commitRest.rollback = popcount 64 s.blown := by
    have hf : s.commitRest.fuses.rollback = BitVec.ofNat 64 s.blown := by
      unfold State.commitRest State.blown
      simp only [State.emcyEvent_fuses, bne_iff_ne]
    unfold State.rollback
    rw [hf, BitVec.toNat_ofNat, Nat.mod_eq_of_lt s.blown_lt]
  obtain ⟨⟨hrun, hcommit, hrecords⟩, hslot⟩ := s.commitRest_fw
  refine ⟨fun h => hr.trans (s.blown_count h), ?_, ?_, hrecords, hcommit, hrun⟩
  · rw [hslot, hr, Slot.revokedBelow_eq]
    by_cases hc : (s.fw.slot s.fw.runB).st = .committed
    · simp [hc, Slot.holdsImage]
    · simp [hc, Slot.holdsImage, Slot.committed]
  · rw [hslot, hr, Slot.revokedBelow_eq]
    by_cases hc : (s.fw.slot s.fw.runB).st = .committed
    · simp [hc]
    · simp only [ne_eq, hc, not_false_eq_true, if_true, Bool.not_eq_self, if_false, Slot.standby_holds, true_and]
      simp only [Slot.standby_eq]

end

section

variable {s : State} {p : Path} {v : W32}

/-- A COMMIT that R440 refuses. -/
theorem State.commit_refused (hw : s.canWrite p 0x2C10 0 = true) (hv : v.toNat = 0x746D6F63)
    (hr : ((s.fw.slot s.fw.runB).st ≠ .trial ∧ (s.fw.slot s.fw.runB).st ≠ .committed) ∨ s.fw.upd = .erasing ∨ s.fw.upd = .writing) :
    s.refusesWrite (.commit p v) p 0x2C10 0 0x08000022 :=
  State.refusesWrite_settled (e := fxCommit p v.toNat) rfl hw ((if_neg (not_not.mpr hv)).trans (if_pos hr))

/-- One that it accepts takes effect. -/
theorem State.commit_accepted (hv : v.toNat = 0x746D6F63)
    (hr : ¬ (((s.fw.slot s.fw.runB).st ≠ .trial ∧ (s.fw.slot s.fw.runB).st ≠ .committed) ∨ s.fw.upd = .erasing ∨ s.fw.upd = .writing)) :
    fxCommit p v.toNat s = if s.fw.store.isSome then
      .ok { s with fw := { s.fw with storeWait := s.fw.storeWait ++ [⟨3, 0, p, 0x2C10, 0, none⟩] } } else .ok (s.commitStart p) :=
  (if_neg (not_not.mpr hv)).trans (if_neg hr)

/-- The store that comes first, where the image's schema has no record. -/
theorem State.commitStart_stores (hc : s.fw.current s.schema = none) :
    s.commitStart p = State.jobStart { s with fw := { s.fw with commit := some 1 } } ⟨2, 3, p, 0x2C10, 0, none⟩ := by
  unfold State.commitStart
  exact if_neg (by rw [hc]; decide)

theorem State.commitStart_rest (hc : (s.fw.current s.schema).isSome = true) : s.commitStart p = s.commitRest := by
  unfold State.commitStart
  exact if_pos hc

/-- The health window has passed. -/
def State.windowPasses (s : State) (t : Nat) : State :=
  let a := s.advanceTo (t + s.setting 0x2C01 1 * psS)
  let x := s.fw.slot s.fw.runB
  { a with fw := { a.fw.setSlot s.fw.runB { x with failures := 0, st := if x.st = .pending then .trial else x.st } with
    health := 2, healthFrom := none } }

theorem State.windowPasses_outcome (s : State) {t : Nat} : (s.windowPasses t).now = max s.now (t + s.setting 0x2C01 1 * psS) ∧
    let x := s.fw.slot s.fw.runB
    (s.windowPasses t).fw = { s.fw.setSlot s.fw.runB { x with failures := 0, st := if x.st = .pending then .trial else x.st } with
      health := 2, healthFrom := none } :=
  ⟨s.advanceTo_now _, by unfold State.windowPasses; simp⟩

theorem State.commitRest_raises : s.hasRaised s.commitRest 0xFF7C 0 := by
  unfold State.commitRest
  dsimp only
  generalize Firmware.mk .. = f, FuseImage.mk .. = w
  refine State.hasRaised_of_within (State.emcyEvent_raises (fun hk => ?_) (by decide) _)
  exact (State.keepsEmcy_congr (s := s) rfl rfl).2 hk

end

end Sys2Proof.Machine

namespace Sys2Proof.Proofs

open Sys2Proof.Machine

/-- Settles O60, by the slots after a COMMIT and the count of the fuse bits that it blows. -/
theorem commitAndHealth : Obligations.CommitAndHealth := by
  refine ⟨fun s p v hw => ⟨fun hv => State.refusesWrite_settled (e := fxCommit p v.toNat) rfl hw (if_pos hv), State.commit_refused hw, fun hv hr => ?_⟩,
    fun s t ht => ⟨fun hn => ?_, fun hh hp => ?_⟩⟩
  · have hx := State.commit_accepted (p := p) hv hr
    refine ⟨fun hs => ?_, fun hs hc => ?_, fun hs hc => ?_⟩
    · rw [if_pos hs] at hx
      exact settles_step (State.odWriteSettled_ok hw hx) (Step.put (F := 36028797018963968) (Step.refl _ s) (by decide) rfl fun v => ⟨v.1, v.2, v.3, v.4, v.5, v.6, v.7⟩) rfl
    · rw [if_neg (by rw [hs]; decide), State.commitStart_rest hc] at hx
      exact settles_step (State.odWriteSettled_ok hw hx) (State.commitRest_step (Step.refl _ s) (by decide)) ⟨s.commitRest_commits, State.commitRest_raises⟩
    · rw [if_neg (by rw [hs]; decide), State.commitStart_stores hc] at hx
      exact settles_step (State.odWriteSettled_ok hw hx)
        (State.jobStart_step
          (Step.put (F := 36028797018963968) (Step.refl _ s) (by decide) rfl fun v => ⟨v.1, v.2, v.3, v.4, v.5, v.6, v.7⟩) (by decide)) ⟨rfl, rfl⟩
  · unfold exec execHealthWindowExpiry
    simp only [ht]
    exact whenDue_false (by rcases hn with hn | hn <;> simp [hn]) _ _
  · have hx : exec .healthWindowExpiry s = .next (s.windowPasses t) := by
      unfold exec execHealthWindowExpiry
      simp only [ht]
      exact whenDue_true (by simp [hh, hp]) _ _
    exact completes_of hx (exec_healthWindowExpiry s) (by decide) s.windowPasses_outcome

end Sys2Proof.Proofs
end

section
/-! What the node sends (R303, R318, R328 to R330): frames that leave or wait, SDO responses and aborts. -/

namespace Sys2Proof.Machine

theorem State.cell_bump32_same (s : State) (i j : Nat) : (s.bump32 i j).cell i j = (s.cell i j + 1) % 2 ^ 32 := s.cell_count_same ..

theorem State.cell_bump32_other (s : State) {i j a b : Nat} (ha : a < 256) (hb : b < 256) (h : (i, a) ≠ (j, b)) :
    (s.bump32 j b).cell i a = s.cell i a := State.cell_count_other s ha hb h

/-! ### Frames -/

/-- The node without what a frame sent changes: its error counters and the frames that wait. -/
def Can.quiet (c : Can) : Can := { c with tec := 0, rxErr := 0, passive := false, later := [] }

/-- `t` is `s` after frames of the node have left or have begun to wait. -/
structure Sends (s t : State) : Prop where
  can : t.can.quiet = s.can.quiet
  out : s.out <+: t.out
  cell : ∀ i j, j < 256 → i ≠ 0x1FD2 → t.cell i j = s.cell i j
  setting : ∀ i j, j < 256 → i ≠ 0x1FD2 → t.setting i j = s.setting i j
  step : Step (maskOf [.od, .can, .out]) s t

namespace Sends

variable {s t u : State} (h : Sends s t)

theorem refl (s : State) : Sends s s := ⟨rfl, List.prefix_rfl, fun _ _ _ _ => rfl, fun _ _ _ _ => rfl, Step.refl _ s⟩

include h

theorem trans (k : Sends t u) : Sends s u :=
  ⟨k.can.trans h.can, h.out.trans k.out, fun i j hj hi => (k.cell i j hj hi).trans (h.cell i j hj hi),
    fun i j hj hi => (k.setting i j hj hi).trans (h.setting i j hj hi), h.step.trans k.step⟩

theorem nodeId : t.can.nodeId = s.can.nodeId := by have e := congrArg Can.nodeId h.can; exact e
theorem rate : t.can.rate = s.can.rate := by have e := congrArg Can.rate h.can; exact e
theorem recovering : t.can.recovering = s.can.recovering := by have e := congrArg Can.recovering h.can; exact e
theorem sdo : t.can.sdo = s.can.sdo := by have e := congrArg Can.sdo h.can; exact e
theorem queue : t.can.queue = s.can.queue := by have e := congrArg Can.queue h.can; exact e
theorem held : t.can.held = s.can.held := by have e := congrArg Can.held h.can; exact e
theorem nmt : t.can.nmt = s.can.nmt := by have e := congrArg Can.nmt h.can; exact e
theorem history : t.can.history = s.can.history := by have e := congrArg Can.history h.can; exact e

theorem gated : t.canGated = s.canGated := by
  unfold State.canGated
  rw [h.recovering, h.nmt, h.held, h.queue]

end Sends

section

variable (s : State) (id : Nat) (data : List Byte)

theorem State.canOut_out : (s.canOut id data).out = s.out ++ [.can id data (s.can.rate != 0) s.can.passive] := rfl

theorem State.canOut_can : (s.canOut id data).can = s.can.counters (s.can.tec - 1) s.can.rxErr := rfl

theorem State.canOut_sends : Sends s (s.canOut id data) :=
  ⟨rfl, by rw [State.canOut_out]; exact List.prefix_append .., fun i j hj hi => by
    unfold State.canOut
    exact State.cell_bump32_other _ hj (by decide) (by simp [hi]), fun i j hj hi => by
    unfold State.canOut
    exact State.setting_count_other _ hj (by decide) hi, State.canOut_step (Step.refl _ s) (by decide)⟩

theorem each_sends {α : Type} {f : State → α → State} (l : List α) (s : State) (hf : ∀ x a, Sends x (f x a)) : Sends s (each l f s) := by
  induction l generalizing s with
  | nil => exact Sends.refl s
  | cons a r ih => exact (hf s a).trans (ih (f s a))

theorem State.canFlush_sends : Sends s s.canFlush := by
  obtain ⟨x, hx⟩ : ∃ x : State, x = { s with can := { s.can with later := [] } } := ⟨_, rfl⟩
  have h : Sends s x := ⟨by rw [hx]; rfl, by rw [hx], fun _ _ _ _ => by rw [hx]; rfl, fun _ _ _ _ => by rw [hx]; rfl,
    by rw [hx]; exact Step.put (F := 8388608) (Step.refl _ s) (by decide) rfl fun v => ⟨v.1, v.2, v.3, v.4, v.5, v.6, v.7⟩⟩
  unfold State.canFlush
  rw [← hx]
  exact h.trans (each_sends _ x fun y f => y.canOut_sends f.1 f.2)

theorem State.canSend_gated (h : s.canGated = true) : s.canSend id data = { s with can := { s.can with later := s.can.later ++ [(id, data)] } } := if_pos h

theorem State.canSend_leaves (h : s.canGated = false) : s.canSend id data = s.canFlush.canOut id data := if_neg (by rw [h]; decide)

theorem State.canSend_sends : Sends s (s.canSend id data) := by
  cases hg : s.canGated with
  | false =>
    rw [State.canSend_leaves s id data hg]
    exact s.canFlush_sends.trans (State.canOut_sends ..)
  | true =>
    rw [State.canSend_gated s id data hg]
    exact ⟨rfl, List.prefix_rfl, fun _ _ _ _ => rfl, fun _ _ _ _ => rfl,
      Step.put (F := 8388608) (Step.refl _ s) (by decide) rfl fun v => ⟨v.1, v.2, v.3, v.4, v.5, v.6, v.7⟩⟩

end

section

variable {s x t u : State} {id : Nat} {data : List Byte}

/-- A frame of the node has left, or waits behind the messages of a recovery. -/
theorem State.canSend_sendsCan (ho : s.out <+: x.out) (hr : x.can.rate = s.can.rate) (hg : x.canGated = s.canGated) :
    s.sendsCan (x.canSend id data) id data := by
  refine ⟨fun h => ?_, fun h => ?_⟩
  · rw [State.canSend_leaves _ _ _ (hg.trans h)]
    obtain ⟨a, ha⟩ := ho.trans x.canFlush_sends.out
    exact ⟨x.canFlush.can.passive, a, [], by rw [State.canOut_out, ← ha, x.canFlush_sends.rate, hr]⟩
  · rw [State.canSend_gated _ _ _ (hg.trans h)]
    exact List.mem_append_right _ (List.mem_singleton_self _)

theorem State.emits_mono {o : Output} (h : s.emits t o) (ho : t.out <+: u.out) : s.emits u o := by
  obtain ⟨a, b, ht⟩ := h
  obtain ⟨c, hc⟩ := ho
  exact ⟨a, b ++ c, by rw [← hc, ht]; simp⟩

theorem State.emits_base {o : Output} (h : x.emits t o) (ho : s.out <+: x.out) : s.emits t o := by
  obtain ⟨a, b, ht⟩ := h
  obtain ⟨c, hc⟩ := ho
  exact ⟨c ++ a, b, by rw [ht, ← hc]; simp⟩

/-- What has left stays sent, and what waits goes on waiting. -/
theorem State.sendsCan_mono (h : s.sendsCan t id data) (ho : t.out <+: u.out) (hl : u.can.later = t.can.later) : s.sendsCan u id data :=
  ⟨fun hg => (h.1 hg).imp fun _ he => State.emits_mono he ho, fun hg => by rw [hl]; exact h.2 hg⟩

end

/-! ### SDO responses -/

/-- The SDO server's channel and counts in `t` are those of `s`. -/
structure Channel (s t : State) : Prop where
  out : s.out <+: t.out
  nodeId : t.can.nodeId = s.can.nodeId
  rate : t.can.rate = s.can.rate
  recovering : t.can.recovering = s.can.recovering
  counts : ∀ j, j < 4 → t.cell 0x1FE1 j = s.cell 0x1FE1 j

/-- Its transfer, its last abort and the frames that wait are those of `s` too. -/
structure Unserved (s t : State) : Prop extends Channel s t where
  sdo : t.can.sdo = s.can.sdo
  later : t.can.later = s.can.later
  last : ∀ j, j < 256 → t.cell 0x1FE1 j = s.cell 0x1FE1 j

section

variable {s x t u : State} {index sub code det : Nat} {data : List Byte}

theorem Unserved.refl (s : State) : Unserved s s := ⟨⟨List.prefix_rfl, rfl, rfl, rfl, fun _ _ => rfl⟩, rfl, rfl, fun _ _ => rfl⟩

theorem Channel.trans (h : Channel s t) (k : Channel t u) : Channel s u :=
  ⟨h.out.trans k.out, k.nodeId.trans h.nodeId, k.rate.trans h.rate, k.recovering.trans h.recovering,
    fun j hj => (k.counts j hj).trans (h.counts j hj)⟩

theorem Unserved.trans (h : Unserved s t) (k : Unserved t u) : Unserved s u :=
  ⟨h.toChannel.trans k.toChannel, k.sdo.trans h.sdo, k.later.trans h.later, fun j hj => (k.last j hj).trans (h.last j hj)⟩

/-- Fields other than the node's, the dictionary's and what was sent. -/
theorem Unserved.of_fields (ho : t.out = s.out) (hc : t.can = s.can) (hd : t.od = s.od) : Unserved s t :=
  ⟨⟨by rw [ho], by rw [hc], by rw [hc], by rw [hc], fun j _ => State.cell_congr hd _ _⟩, by rw [hc], by rw [hc], fun j _ => State.cell_congr hd _ _⟩

theorem Sends.channel (h : Sends s t) : Channel s t := ⟨h.out, h.nodeId, h.rate, h.recovering, fun j hj => h.cell _ j (by omega) (by decide)⟩

theorem State.says_mono (h : s.says t data) (k : Unserved t u) : s.says u data := by
  rcases h with ⟨esi, he⟩ | ⟨hr, hl⟩
  · exact .inl ⟨esi, State.emits_mono he k.out⟩
  · exact .inr ⟨hr, by rw [k.later]; exact hl⟩

theorem State.sdoSend_says (h : Channel s x) (data : List Byte) : s.says (x.sdoSend data) data := by
  have hs := State.canSend_sendsCan (s := x) (x := x) (id := 0x580 + x.can.nodeId) (data := pad 8 data) List.prefix_rfl rfl rfl
  unfold State.sdoSend State.says
  rw [← h.nodeId, ← h.rate, ← h.recovering]
  cases hg : x.canGated with
  | false => exact .inl ((hs.1 hg).imp fun _ he => State.emits_base he h.out)
  | true => exact .inr ⟨by unfold State.canGated at hg; grind, hs.2 hg⟩

theorem State.sdoSend_sends (x : State) (data : List Byte) : Sends x (x.sdoSend data) := State.canSend_sends ..

/-- Messages and counts beside the server's own leave its channel alone. -/
theorem State.emcyEvent_unserved (s : State) (code det : Nat) (data : List Byte) : Unserved s (s.emcyEvent code det data) := by
  have hc : (s.emcyEvent code det data).can.nodeId = s.can.nodeId ∧ (s.emcyEvent code det data).can.rate = s.can.rate ∧
      (s.emcyEvent code det data).can.recovering = s.can.recovering ∧ (s.emcyEvent code det data).can.sdo = s.can.sdo ∧
      (s.emcyEvent code det data).can.later = s.can.later := by
    rw [State.emcyEvent_can]
    unfold State.emcyAt
    dsimp only
    split_ifs <;> simp
  obtain ⟨h1, h2, h3, h4, h5⟩ := hc
  have hl : ∀ j, j < 256 → (s.emcyEvent code det data).cell 0x1FE1 j = s.cell 0x1FE1 j :=
    fun j hj => State.emcyEvent_cell s hj (by unfold reportCell; decide)
  exact ⟨⟨(State.emcyEvent_calm (fun _ h => h) (Calm.refl sideDets s) ..).out, h1, h2, h3, fun j hj => hl j (by omega)⟩, h4, h5, hl⟩

theorem State.fire_unserved (s : State) (d u a : Nat) : Unserved s (s.fire d u a) := Unserved.of_fields (by simp) (by simp) (by simp)

theorem State.bump32_unserved (s : State) {i j : Nat} (hi : i ≠ 0x1FE1) (hj : j < 256) : Unserved s (s.bump32 i j) :=
  ⟨⟨by simp, by simp, by simp, by simp, fun a ha => State.cell_bump32_other s (by omega) hj (by simp [Ne.symm hi])⟩, by simp, by simp,
    fun a ha => State.cell_bump32_other s ha hj (by simp [Ne.symm hi])⟩

/-- `t` is `s` after the server's responses, counts and ends of transfers. -/
structure Served (s t : State) : Prop where
  can : { t.can.quiet with sdo := none } = { s.can.quiet with sdo := none }
  out : s.out <+: t.out
  cell : ∀ i j, j < 256 → i ≠ 0x1FD2 → i ≠ 0x1FE1 → t.cell i j = s.cell i j
  setting : ∀ i j, j < 256 → i ≠ 0x1FD2 → i ≠ 0x1FE1 → t.setting i j = s.setting i j
  det : t.det = s.det
  up : t.up = s.up
  fw : t.fw = s.fw

namespace Served

theorem refl (s : State) : Served s s := ⟨rfl, List.prefix_rfl, fun _ _ _ _ _ => rfl, fun _ _ _ _ _ => rfl, rfl, rfl, rfl⟩

variable (h : Served s t)

include h

theorem trans (k : Served t u) : Served s u :=
  ⟨k.can.trans h.can, h.out.trans k.out, fun i j hj hi hk => (k.cell i j hj hi hk).trans (h.cell i j hj hi hk),
    fun i j hj hi hk => (k.setting i j hj hi hk).trans (h.setting i j hj hi hk), k.det.trans h.det, k.up.trans h.up, k.fw.trans h.fw⟩

theorem history : t.can.history = s.can.history := by have e := congrArg Can.history h.can; exact e

theorem keepsEmcy : t.keepsEmcy ↔ s.keepsEmcy :=
  State.keepsEmcy_congr (by rw [h.up]) (h.setting _ _ (by decide) (by decide) (by decide))

theorem raised {s0 : State} (k : s0.hasRaised s code det) : s0.hasRaised t code det := fun h1 h2 => by
  rw [h.history]
  exact k h1 h2

end Served

theorem Sends.served (h : Sends s t) : Served s t :=
  ⟨congrArg (fun c : Can => { c with sdo := none }) h.can, h.out, fun i j hj hi _ => h.cell i j hj hi, fun i j hj hi _ => h.setting i j hj hi,
    h.step.det (by decide), h.step.up (by decide), h.step.fw (by decide)⟩

theorem State.sdoIdle_served (x : State) : Served x x.sdoIdle :=
  ⟨rfl, List.prefix_rfl, fun _ _ _ _ _ => rfl, fun _ _ _ _ _ => rfl, rfl, rfl, rfl⟩

/-- A cell of the server's counts. -/
theorem State.putCell_served (x : State) {j : Nat} (hj : j < 256) (v : Nat) : Served x (x.putCell 0x1FE1 j v) :=
  ⟨rfl, List.prefix_rfl, fun _ _ ha _ hk => State.cell_putCell_other x v ha hj fun e => hk e.1,
    fun _ _ ha _ hk => State.setting_putCell_other x v ha hj fun e => hk e.1, rfl, rfl, rfl⟩

theorem State.aborted_served (x : State) (p : Path) (index sub code : Nat) : Served x (x.aborted p index sub code) :=
  (x.putCell_served (by decide) _).trans (State.putCell_served _ (by decide) _)

theorem State.sdoAbort_served (x : State) (index sub code : Nat) : Served x (x.sdoAbort index sub code) :=
  ((x.sdoIdle_served.trans (State.sdoSend_sends ..).served).trans (State.aborted_served ..)).trans (State.putCell_served _ (by decide) _)

theorem State.sdoDone_served (x : State) (data : List Byte) : Served x (x.sdoDone data) :=
  (x.sdoIdle_served.trans (State.sdoSend_sends ..).served).trans (State.putCell_served _ (by decide) _)

/-! ### The ends of a transfer -/

theorem State.sdoIdle_channel (x : State) : Channel x x.sdoIdle := ⟨List.prefix_rfl, rfl, rfl, rfl, fun _ _ => rfl⟩

/-- What an abort has written stays while the server's channel does. -/
theorem State.sdoAborts_mono (h : s.sdoAborts t index sub code) (k : Unserved t u) : s.sdoAborts u index sub code := by
  obtain ⟨h1, h2, h3, h4, h5⟩ := h
  exact ⟨State.says_mono h1 k, k.sdo.trans h2, (k.last 2 (by decide)).trans h3, (k.last 4 (by decide)).trans h4,
    (k.last 5 (by decide)).trans h5⟩

theorem State.sdoEnds_mono (h : s.sdoEnds t data) (k : Unserved t u) : s.sdoEnds u data := by
  obtain ⟨h1, h2, h3⟩ := h
  exact ⟨State.says_mono h1 k, k.sdo.trans h2, (k.last 1 (by decide)).trans h3⟩

/-- The server's abort (R327, R330). -/
theorem State.sdoAbort_aborts (h : Channel s x) (index sub code : Nat) : s.sdoAborts (x.sdoAbort index sub code) index sub code := by
  obtain ⟨y, hy⟩ : ∃ y, y = x.sdoIdle.sdoSend (natLe 1 0x80 ++ sdoMux index sub ++ natLe 4 code) := ⟨_, rfl⟩
  have hk : Sends x.sdoIdle y := by rw [hy]; exact State.sdoSend_sends ..
  have hs : s.says y (natLe 1 0x80 ++ sdoMux index sub ++ natLe 4 code) := by
    rw [hy]
    exact State.sdoSend_says (h.trans x.sdoIdle_channel) _
  unfold State.sdoAbort State.aborted
  rw [← hy]
  refine ⟨?_, ?_, ?_, ?_, ?_⟩
  · rcases hs with ⟨esi, he⟩ | hl
    · exact .inl ⟨esi, State.emits_mono he (by simp)⟩
    · exact .inr (by simpa using hl)
  · have e : y.can.sdo = none := hk.sdo
    simpa using e
  · rw [State.cell_bump32_same, State.cell_putCell_other _ _ (by decide) (by decide) (by decide),
      State.cell_putCell_other _ _ (by decide) (by decide) (by decide), hk.cell _ _ (by decide) (by decide)]
    exact congrArg (fun n => (n + 1) % 2 ^ 32) (h.counts 2 (by decide))
  · rw [State.cell_bump32_other _ (by decide) (by decide) (by decide), State.cell_putCell_other _ _ (by decide) (by decide) (by decide),
      State.cell_putCell_same]
  · rw [State.cell_bump32_other _ (by decide) (by decide) (by decide), State.cell_putCell_same]
    simp [pathNum]

/-- The transfer's last response. -/
theorem State.sdoDone_ends (h : Channel s x) (data : List Byte) : s.sdoEnds (x.sdoDone data) data := by
  obtain ⟨y, hy⟩ : ∃ y, y = x.sdoIdle.sdoSend data := ⟨_, rfl⟩
  have hk : Sends x.sdoIdle y := by rw [hy]; exact State.sdoSend_sends ..
  have hs : s.says y data := by
    rw [hy]
    exact State.sdoSend_says (h.trans x.sdoIdle_channel) _
  unfold State.sdoDone
  rw [← hy]
  refine ⟨?_, ?_, ?_⟩
  · rcases hs with ⟨esi, he⟩ | hl
    · exact .inl ⟨esi, State.emits_mono he (by simp)⟩
    · exact .inr (by simpa using hl)
  · have e : y.can.sdo = none := hk.sdo
    simpa using e
  · rw [State.cell_bump32_same, hk.cell _ _ (by decide) (by decide)]
    exact congrArg (fun n => (n + 1) % 2 ^ 32) (h.counts 1 (by decide))

theorem State.downloadDone_eq (x : State) (d : Sdo) : x.downloadDone d.seq d.index d.sub d.toggle = x.sdoDone d.lastResponse := by
  unfold State.downloadDone Sdo.lastResponse
  split_ifs <;> rfl

/-- An abort that no frame carries is kept in 0x1FE1 alone. -/
theorem State.aborted_channel (x : State) (p : Path) (index sub code : Nat) : Channel x (x.aborted p index sub code) :=
  ⟨by simp, by simp, by simp, by simp, fun j hj => by
    unfold State.aborted
    rw [State.cell_putCell_other _ _ (by omega) (by decide) (by omega), State.cell_putCell_other _ _ (by omega) (by decide) (by omega)]⟩

end

/-! ### Writes that their paths wait for -/

/-- What waits for an answer in `s` waits for it in `t`. -/
structure Waits (s t : State) : Prop extends Channel s t where
  sdo : t.can.sdo = s.can.sdo
  boxA : t.boxA = s.boxA
  boxB : t.boxB = s.boxB

/-- An answer given stands: the server's channel and the mailboxes are as they were. -/
structure Stands (s t : State) : Prop extends Unserved s t where
  boxA : t.boxA = s.boxA
  boxB : t.boxB = s.boxB

section

variable {s x t u : State} {p : Path} {index sub : Nat} {code : Option Nat}

theorem Waits.refl (s : State) : Waits s s := ⟨⟨List.prefix_rfl, rfl, rfl, rfl, fun _ _ => rfl⟩, rfl, rfl, rfl⟩

theorem Waits.trans (h : Waits s t) (k : Waits t u) : Waits s u :=
  ⟨h.toChannel.trans k.toChannel, k.sdo.trans h.sdo, k.boxA.trans h.boxA, k.boxB.trans h.boxB⟩

theorem Stands.waits (h : Stands s t) : Waits s t := ⟨h.toChannel, h.sdo, h.boxA, h.boxB⟩

theorem Stands.trans (h : Stands s t) (k : Stands t u) : Stands s u :=
  ⟨h.toUnserved.trans k.toUnserved, k.boxA.trans h.boxA, k.boxB.trans h.boxB⟩

theorem Stands.of_fields (ho : t.out = s.out) (hc : t.can = s.can) (hd : t.od = s.od) (hA : t.boxA = s.boxA) (hB : t.boxB = s.boxB) : Stands s t :=
  ⟨Unserved.of_fields ho hc hd, hA, hB⟩

theorem State.emcyEvent_stands (s : State) (c det : Nat) (data : List Byte) : Stands s (s.emcyEvent c det data) :=
  ⟨s.emcyEvent_unserved c det data, by simp, by simp⟩

theorem State.fire_stands (s : State) (d u a : Nat) : Stands s (s.fire d u a) := ⟨s.fire_unserved d u a, by simp, by simp⟩

theorem State.aborted_waits (x : State) (q : Path) (i j c : Nat) : Waits x (x.aborted q i j c) :=
  ⟨x.aborted_channel q i j c, by simp, by simp, by simp⟩

theorem boxAnswered_refl (b : Mailbox) (index sub : Nat) (code : Option Nat) (h : ¬ (b.busy = true ∧ b.answer = none ∧ b.index = index ∧ b.sub = sub)) :
    boxAnswered b b index sub code := fun h1 h2 h3 h4 => absurd ⟨h1, h2, h3, h4⟩ h

/-- The answer of a mailbox's write. -/
theorem State.answerBox_box (x : State) (f : Fn) (index sub : Nat) (code : Option Nat) :
    boxAnswered (x.box f) ((x.answerBox f index sub code).box f) index sub code := by
  intro h1 h2 h3 h4
  unfold State.answerBox
  dsimp only
  rw [if_pos (by simp [h1, h2, h3, h4])]
  cases f <;> rfl

/-- The outcome reaches the path that waits for it. -/
theorem State.answer_written (h : Waits s x) (p : Path) (index sub : Nat) (code : Option Nat) :
    s.writeAnswered (x.answer p index sub code) p index sub code := by
  cases p with
  | sdo =>
    intro d hd hk hi hj
    have ha : x.answer .sdo index sub code = match code with
        | some c => x.sdoAbort index sub c
        | none => x.downloadDone d.seq index sub d.toggle := by
      unfold State.answer
      simp only [h.sdo, hd, hk, hi, hj, true_and, if_true] <;> cases code <;> rfl
    refine ⟨fun hc => ?_, fun e hc => ?_⟩
    · rw [ha, hc, ← hi, ← hj, State.downloadDone_eq]
      exact State.sdoDone_ends h.toChannel _
    · rw [ha, hc]
      exact State.sdoAbort_aborts h.toChannel ..
  | hostA =>
    have hb := x.answerBox_box .hostA index sub code
    rwa [show x.box .hostA = s.boxA from h.boxA] at hb
  | hostB =>
    have hb := x.answerBox_box .hostB index sub code
    rwa [show x.box .hostB = s.boxB from h.boxB] at hb
  | rpdo => trivial

theorem State.writeAnswered_mono (h : s.writeAnswered t p index sub code) (k : Stands t u) : s.writeAnswered u p index sub code := by
  cases p with
  | sdo =>
    intro d hd hk hi hj
    obtain ⟨h1, h2⟩ := h d hd hk hi hj
    exact ⟨fun hc => State.sdoEnds_mono (h1 hc) k.toUnserved, fun e he => State.sdoAborts_mono (h2 e he) k.toUnserved⟩
  | hostA => exact fun h1 h2 h3 h4 => k.boxA.trans (h h1 h2 h3 h4)
  | hostB => exact fun h1 h2 h3 h4 => k.boxB.trans (h h1 h2 h3 h4)
  | rpdo => trivial

theorem State.setBox_served (x : State) (f : Fn) (b : Mailbox) : Served x (x.setBox f b) := by
  cases f <;> exact ⟨rfl, List.prefix_rfl, fun _ _ _ _ _ => rfl, fun _ _ _ _ _ => rfl, rfl, rfl, rfl⟩

theorem State.downloadDone_served (x : State) (how index sub : Nat) (toggle : Bool) : Served x (x.downloadDone how index sub toggle) := by
  unfold State.downloadDone
  split_ifs <;> exact State.sdoDone_served ..

theorem State.answerBox_served (x : State) (f : Fn) (index sub : Nat) (code : Option Nat) : Served x (x.answerBox f index sub code) := by
  have hk : ∀ y, Served x y → ∀ (c : Bool) b, Served x (if c then y.setBox f b else y) := fun y hy c b => by
    cases c
    · exact hy
    · exact hy.trans (y.setBox_served f b)
  unfold State.answerBox
  cases code with
  | none => exact hk _ (Served.refl x) _ _
  | some c => exact hk _ (x.aborted_served _ _ _ _) _ _

theorem State.answer_served (x : State) (p : Path) (index sub : Nat) (code : Option Nat) : Served x (x.answer p index sub code) := by
  have hc : Served x (match (motive := Option Nat → State) code with
      | some c => x.aborted .sdo index sub c
      | none => x) := by
    cases code
    · exact Served.refl x
    · exact x.aborted_served ..
  cases p with
  | sdo =>
    unfold State.answer
    dsimp only
    split
    · split
      · cases code
        · exact x.downloadDone_served ..
        · exact x.sdoAbort_served ..
      · exact hc
    · exact hc
  | hostA => exact x.answerBox_served ..
  | hostB => exact x.answerBox_served ..
  | rpdo => exact Served.refl x

end

end Sys2Proof.Machine
end

section
/-! Updates of an image (R427, R433 to R436). -/

namespace Sys2Proof.Machine

/-! ### An update ends -/

section

variable {s x t u : State} {p : Path} {y : Slot} {ok : Bool} {result det code : Nat}

theorem State.updateEnd_fw (x : State) (y : Slot) (ok : Bool) (result det : Nat) : (x.updateEnd y ok result det).fw =
    { x.fw.setSlot x.fw.updB y with upd := if ok then .done else .failed, updResult := result, imagePath := none } := by
  unfold State.updateEnd
  rw [State.emcyEvent_fw]

theorem State.updateEnd_eq (x : State) (y : Slot) (ok : Bool) (result det : Nat) :
    ∃ f, x.updateEnd y ok result det = ({ x with fw := f }).emcyEvent 0xFF7B det (natLe 1 result) := ⟨_, rfl⟩

theorem State.updateEnd_stands (x : State) (y : Slot) (ok : Bool) (result det : Nat) : Stands x (x.updateEnd y ok result det) := by
  obtain ⟨f, hx⟩ := x.updateEnd_eq y ok result det
  rw [hx]
  exact Stands.trans (t := { x with fw := f }) (Stands.of_fields rfl rfl rfl rfl rfl) (State.emcyEvent_stands ..)

theorem State.updateEnd_over (hf : x.fw = s.fw) (hk : s.keepsEmcy → x.keepsEmcy) (y : Slot) (ok : Bool) (result det : Nat) :
    s.updateOver (x.updateEnd y ok result det) y ok result det := by
  refine ⟨by rw [State.updateEnd_fw, hf], ?_⟩
  obtain ⟨f, hx⟩ := x.updateEnd_eq y ok result det
  rw [hx]
  refine State.hasRaised_of_within (State.emcyEvent_raises (fun h => ?_) (by decide) _)
  exact (State.keepsEmcy_congr (s := x) rfl rfl).2 (hk h)

theorem State.updateOver_served (h : s.updateOver t y ok result det) (k : Served t u) : s.updateOver u y ok result det :=
  ⟨k.fw.trans h.1, k.raised h.2⟩

/-! ### The image's transfer is dropped -/

/-- A mailbox's chunks of the image are dropped. -/
def Mailbox.noImage (b : Mailbox) : Mailbox := match b.chunk with
  | some c => if c.index = 0x2C20 then { b with chunk := none } else b
  | none => b

theorem Mailbox.noImage_chunk (b : Mailbox) : ∀ c, b.noImage.chunk = some c → c.index ≠ 0x2C20 := by
  intro c hc
  unfold Mailbox.noImage at hc
  split at hc
  · next d hd =>
    split at hc
    · cases hc
    · next hn =>
      rw [hd] at hc
      exact (Option.some.inj hc) ▸ hn
  · next hd =>
    rw [hd] at hc
    cases hc

theorem Mailbox.noImage_answer (b : Mailbox) : b.noImage.answer = b.answer := by
  unfold Mailbox.noImage
  split
  · split <;> rfl
  · rfl

theorem State.dropImage_box (x : State) (code : Nat) : (x.dropImage .hostA code).boxA = x.boxA.noImage ∧ (x.dropImage .hostB code).boxB = x.boxB.noImage :=
  ⟨rfl, rfl⟩

/-- The SDO channel's transfer of the image. -/
theorem State.dropImage_sdo {d : Sdo} (hd : x.can.sdo = some d) (hi : d.index = 0x2C20) (code : Nat) :
    x.dropImage .sdo code = x.sdoAbort 0x2C20 0 code := by
  unfold State.dropImage
  simp only [hd, hi, if_true]

theorem State.dropImage_served (x : State) (p : Path) (code : Nat) : Served x (x.dropImage p code) := by
  cases p with
  | sdo =>
    unfold State.dropImage
    dsimp only
    split
    · split
      · exact x.sdoAbort_served ..
      · exact Served.refl x
    · exact Served.refl x
  | hostA => exact x.setBox_served .hostA _
  | hostB => exact x.setBox_served .hostB _
  | rpdo => exact Served.refl x

/-- A write of the image that has failed: its path's answer is given, and its transfer dropped. -/
theorem State.answerDrop_stops (h : Waits s x) (p : Path) (code : Nat) :
    s.imageStops ((x.answer p 0x2C20 0 (some code)).dropImage p code) p code := by
  have ha := State.answer_written h p 0x2C20 0 (some code)
  cases p with
  | sdo =>
    intro d hd hi
    by_cases hw : d.kind = .waitWrite ∧ d.sub = 0
    · have hs := (ha d hd hw.1 hi hw.2).2 code rfl
      have hn : (x.answer .sdo 0x2C20 0 (some code)).dropImage .sdo code = x.answer .sdo 0x2C20 0 (some code) := by
        unfold State.dropImage
        simp only [hs.2.1]
      rw [hn]
      exact hs
    · have he : x.answer .sdo 0x2C20 0 (some code) = x.aborted .sdo 0x2C20 0 code := by
        unfold State.answer
        simp only [h.sdo, hd, hi, true_and]
        exact if_neg hw
      have hk := h.trans (x.aborted_waits .sdo 0x2C20 0 code)
      rw [he, State.dropImage_sdo (hk.sdo.trans hd) hi]
      exact State.sdoAbort_aborts hk.toChannel ..
  | hostA =>
    refine ⟨Mailbox.noImage_chunk _, fun h1 h2 h3 h4 => ?_⟩
    rw [(State.dropImage_box _ _).1, Mailbox.noImage_answer, ha h1 h2 h3 h4]
    rfl
  | hostB =>
    refine ⟨Mailbox.noImage_chunk _, fun h1 h2 h3 h4 => ?_⟩
    rw [(State.dropImage_box _ _).2, Mailbox.noImage_answer, ha h1 h2 h3 h4]
    rfl
  | rpdo => trivial

/-- A program or erase error (R435). -/
theorem State.programError_outcome (s : State) : s.firedMore s.programError 0x0E09 ∧ s.updateOver s.programError slot0 false 6 0x0E09 ∧
    ∀ q, s.fw.imagePath = some q → s.imageStops s.programError q 0x06060000 := by
  obtain ⟨x, hx⟩ : ∃ x, x = (s.fire 0x0E09 (flag s.fw.updB) 0).updateEnd slot0 false 6 0x0E09 := ⟨_, rfl⟩
  have hs : Stands s x := by
    rw [hx]
    exact (s.fire_stands ..).trans (State.updateEnd_stands ..)
  have hf : s.firedMore x 0x0E09 := by
    rw [hx]
    obtain ⟨f, he⟩ := (s.fire 0x0E09 (flag s.fw.updB) 0).updateEnd_eq slot0 false 6 0x0E09
    rw [he]
    exact State.firedMore_side (x := { s.fire 0x0E09 (flag s.fw.updB) 0 with fw := f }) (State.firedMore_fire rfl ..) (State.emcyEvent_report ..) (by decide)
  have ho : s.updateOver x slot0 false 6 0x0E09 := by
    rw [hx]
    exact State.updateEnd_over (by simp) (fun hk => (State.keepsEmcy_congr (by simp) (State.setting_congr (by simp) _ _)).2 hk) ..
  have hp : s.programError = match s.fw.imagePath with
      | some p => (x.answer p 0x2C20 0 (some 0x06060000)).dropImage p 0x06060000
      | none => x := by rw [hx]; rfl
  cases hq : s.fw.imagePath with
  | none =>
    rw [hq] at hp
    rw [hp]
    exact ⟨hf, ho, fun q h => by cases h⟩
  | some p =>
    rw [hq] at hp
    rw [hp]
    have hk := (x.answer_served p 0x2C20 0 (some 0x06060000)).trans (State.dropImage_served _ p 0x06060000)
    refine ⟨State.firedMore_congr hf hk.det, State.updateOver_served ho hk, fun q h => ?_⟩
    cases h
    exact State.answerDrop_stops hs.waits ..

end

/-! ### Requests -/

/-- What an EMCY changes of the node. -/
theorem State.emcyEvent_node (s : State) (code det : Nat) (data : List Byte) :
    ∃ h q d, (s.emcyEvent code det data).can = { s.can with history := h, queue := q, dropped := d } := by
  rw [State.emcyEvent_can]
  unfold State.emcyAt
  dsimp only
  split
  · exact ⟨_, _, _, rfl⟩
  · split
    · exact ⟨_, _, _, rfl⟩
    · split <;> split <;> simp only [State.fire_can, State.bump32_can] <;> exact ⟨_, _, _, rfl⟩

section

variable {s x t : State} {p : Path}

theorem State.updateEnd_sdoHeld (x : State) (y : Slot) (ok : Bool) (result det : Nat) : (x.updateEnd y ok result det).can.sdoHeld = x.can.sdoHeld := by
  obtain ⟨f, hx⟩ := x.updateEnd_eq y ok result det
  obtain ⟨h, q, d, hc⟩ := State.emcyEvent_node { x with fw := f } 0xFF7B det (natLe 1 result)
  rw [hx, hc]

theorem Served.sdoHeld (h : Served s t) : t.can.sdoHeld = s.can.sdoHeld := by have e := congrArg Can.sdoHeld h.can; exact e

/-- No frame is held. -/
theorem State.heldServe_none (h : s.can.sdoHeld = none) : s.heldServe = s := by
  unfold State.heldServe
  rw [h]
  cases s.can.sdo <;> rfl

theorem State.updating_iff (s : State) : s.fw.updating = true ↔
    s.fw.beginWait.isSome = true ∨ s.fw.upd = .erasing ∨ s.fw.upd = .ready ∨ s.fw.upd = .writing ∨ s.fw.upd = .verifying := by
  simp [Firmware.updating, or_assoc]

theorem State.updateAllowed_iff (s : State) : s.updateAllowed = true ↔
    if s.up.phase = .recovery then s.up.recovery = 2 else (s.fw.slot s.fw.runB).st = .committed := by
  unfold State.updateAllowed
  split <;> simp

/-- BEGIN is refused as R434 says. -/
theorem State.beginRefused_iff (s : State) : (s.updateAllowed = false ∨ s.fw.updating = true ∨ s.fw.commit.isSome = true) ↔
    (¬ (if s.up.phase = .recovery then s.up.recovery = 2 else (s.fw.slot s.fw.runB).st = .committed) ∨
      (s.fw.upd = .erasing ∨ s.fw.upd = .ready ∨ s.fw.upd = .writing ∨ s.fw.upd = .verifying) ∨ s.fw.beginWait.isSome = true ∨ s.fw.commit.isSome = true) := by
  rw [← State.updateAllowed_iff, State.updating_iff, Bool.not_eq_true]
  tauto

/-- What CANCEL does with the image's path. -/
def State.cancelsImage (s : State) : State := match s.fw.imagePath with
  | some p => if s.fw.upd = .verifying then s.answer p 0x2C20 0 (some 0x08000022) else s.dropImage p 0x08000022
  | none => s

theorem State.cancelsImage_served (s : State) : Served s s.cancelsImage := by
  unfold State.cancelsImage
  split
  · split
    · exact s.answer_served ..
    · exact s.dropImage_served ..
  · exact Served.refl s

theorem State.cancelsImage_step (s : State) : Step (maskOf (reportFields ++ ([.boxA, .boxB, .fw] : List Field))) s s.cancelsImage := by
  unfold State.cancelsImage
  split
  · exact Step.ite (fun _ => State.answer_step (Step.refl _ s) (by decide)) fun _ => State.dropImage_step (Step.refl _ s) (by decide)
  · exact Step.refl _ s

theorem fxUpdateCancel_eq (h : s.fw.beginWait = none) : fxUpdateCancel s = .ok s.cancelsImage.imageEnded := by
  unfold fxUpdateCancel
  simp only [h]
  rfl

theorem State.imageEnded_inHand (h : s.fw.upd = .erasing ∨ s.fw.upd = .ready ∨ s.fw.upd = .writing ∨ s.fw.upd = .verifying) :
    s.imageEnded = s.updateEnd slot0 false 7 0 := by
  unfold State.imageEnded
  exact if_pos (by tauto)

theorem State.imageEnded_idle (h : ¬ (s.fw.upd = .erasing ∨ s.fw.upd = .ready ∨ s.fw.upd = .writing ∨ s.fw.upd = .verifying)) : s.imageEnded = s := by
  unfold State.imageEnded
  exact if_neg (by tauto)

/-- CANCEL of an update in hand. -/
theorem State.cancel_outcome (s : State) :
    let t := s.cancelsImage.updateEnd slot0 false 7 0
    s.updateOver t slot0 false 7 0 ∧ ∀ q, s.fw.imagePath = some q → (s.fw.upd = .verifying → s.writeAnswered t q 0x2C20 0 (some 0x08000022)) ∧
      (s.fw.upd ≠ .verifying → (q = .sdo → s.imageStops t .sdo 0x08000022) ∧
        (q = .hostA → ∀ x, t.boxA.chunk = some x → x.index ≠ 0x2C20) ∧ (q = .hostB → ∀ x, t.boxB.chunk = some x → x.index ≠ 0x2C20)) := by
  have hs := s.cancelsImage_served
  have he := s.cancelsImage.updateEnd_stands slot0 false 7 0
  refine ⟨State.updateEnd_over hs.fw (fun hk => hs.keepsEmcy.2 hk) .., fun q hq => ⟨fun hv => ?_, fun hv => ⟨?_, ?_, ?_⟩⟩⟩
  · refine State.writeAnswered_mono ?_ he
    unfold State.cancelsImage
    simp only [hq, if_pos hv]
    exact State.answer_written (Waits.refl s) ..
  · rintro rfl d hd hi
    refine State.sdoAborts_mono ?_ he.toUnserved
    unfold State.cancelsImage
    simp only [hq, if_neg hv]
    rw [State.dropImage_sdo hd hi]
    exact State.sdoAbort_aborts (Unserved.refl s).toChannel ..
  · rintro rfl
    rw [he.boxA]
    unfold State.cancelsImage
    simp only [hq, if_neg hv]
    exact Mailbox.noImage_chunk _
  · rintro rfl
    rw [he.boxB]
    unfold State.cancelsImage
    simp only [hq, if_neg hv]
    exact Mailbox.noImage_chunk _

/-- The collar's restart leaves what a shutdown has made of the units. -/
theorem State.collarRestart_shutDown {det : Nat} (h : s.shutDown t det) : s.shutDown t.collarRestart det := h

theorem Firmware.cut_slot (f : Firmware) (b : Bool) : f.cut.slot b = if (f.slot b).st = .erasing ∨ (f.slot b).st = .writing then slot0 else f.slot b := by
  cases b <;> rfl

end

section

variable {s : State} {p : Path}

/-- A write that its effect refuses touches the dictionary alone. -/
theorem State.refusesWrite_plain {c : Instr} {i j code : Nat} {e : Effect} (hx : exec c s = s.odWrite p i j e) (hw : s.canWrite p i j = true)
    (he : e s = .error code) : s.refusesWrite c p i j code :=
  completes_step (hx.trans (State.odWrite_error hw he)) (State.aborted_step (Step.refl _ s) (by decide)) (s.aborted_cells p i j code)

/-- CANCEL's effect with no frame held. -/
theorem State.cancel_write (hw : s.canWrite p 0x2C21 1 = true) {t : State} (he : fxUpdateCancel s = .ok t) (hh : t.can.sdoHeld = none) :
    exec (.updateCancel p) s = .next t :=
  State.odWrite_ok hw (by simp only [he, State.heldServe_none hh])

theorem State.cancelsImage_none (h : s.fw.imagePath = none) : s.cancelsImage = s := by
  unfold State.cancelsImage
  simp only [h]

/-- A BEGIN that still waits is aborted. -/
theorem State.cancel_waiting {q : Path} (hb : s.fw.beginWait = some q)
    (hn : ¬ (s.fw.upd = .erasing ∨ s.fw.upd = .ready ∨ s.fw.upd = .writing ∨ s.fw.upd = .verifying)) (hi : s.fw.imagePath = none) :
    fxUpdateCancel s = .ok (State.answer { s with fw := { s.fw with beginWait := none } } q 0x2C21 1 (some 0x08000022)) := by
  obtain ⟨x, hx⟩ : ∃ x, x = State.answer { s with fw := { s.fw with beginWait := none } } q 0x2C21 1 (some 0x08000022) := ⟨_, rfl⟩
  have hf : x.fw = { s.fw with beginWait := none } := by rw [hx]; exact (State.answer_served _ q 0x2C21 1 (some 0x08000022)).fw
  have hc : fxUpdateCancel s = .ok x.cancelsImage.imageEnded := by
    unfold fxUpdateCancel
    simp only [hb]
    rw [hx]
    rfl
  rw [hc, State.cancelsImage_none (by rw [hf]; exact hi), State.imageEnded_idle (by rw [hf]; exact hn), hx]

/-- The result that 0x2C21:05 names for a check that fails. -/
theorem State.updateVerify_fails {m : Manifest} {k : ImageChecks} {det : Nat} {st : SlotSt} (hd : det ∉ sideDets)
    (h : imageFault m.formatOk k true m.security.toNat s.rollback = some (det, st)) (hh : s.can.sdoHeld = none) :
    s.firedMore (s.updateVerify m k).heldServe det ∧
      s.updateEnds (s.updateVerify m k).heldServe (slotFrom m st) false (faultResult det) det (some 0x08000020) := by
  obtain ⟨x, hx⟩ : ∃ x, x = (s.fire det (flag s.fw.updB) 0).updateEnd (slotFrom m st) false (faultResult det) det := ⟨_, rfl⟩
  have hs : Stands s x := by
    rw [hx]
    exact (s.fire_stands ..).trans (State.updateEnd_stands ..)
  have hf : s.firedMore x det := by
    rw [hx]
    obtain ⟨f, he⟩ := (s.fire det (flag s.fw.updB) 0).updateEnd_eq (slotFrom m st) false (faultResult det) det
    rw [he]
    exact State.firedMore_side (x := { s.fire det (flag s.fw.updB) 0 with fw := f }) (State.firedMore_fire rfl ..) (State.emcyEvent_report ..) hd
  have ho : s.updateOver x (slotFrom m st) false (faultResult det) det := by
    rw [hx]
    exact State.updateEnd_over (by simp) (fun hk => (State.keepsEmcy_congr (by simp) (State.setting_congr (by simp) _ _)).2 hk) ..
  have hheld : x.can.sdoHeld = none := by rw [hx, State.updateEnd_sdoHeld, State.fire_can, hh]
  have hv : s.updateVerify m k = match s.fw.imagePath with
      | some q => x.answer q 0x2C20 0 (some 0x08000020)
      | none => x := by
    unfold State.updateVerify
    simp only [h, hx] <;> rfl
  cases hq : s.fw.imagePath with
  | none =>
    simp only [hq] at hv
    rw [hv, State.heldServe_none hheld]
    exact ⟨hf, ho, fun q h => by rw [hq] at h; cases h⟩
  | some q =>
    simp only [hq] at hv
    have hk := x.answer_served q 0x2C20 0 (some 0x08000020)
    rw [hv, State.heldServe_none (hk.sdoHeld.trans hheld)]
    refine ⟨State.firedMore_congr hf hk.det, State.updateOver_served ho hk, fun r h => ?_⟩
    rw [hq] at h
    cases h
    exact State.answer_written hs.waits ..

theorem State.updateVerify_passes {m : Manifest} {k : ImageChecks}
    (h : imageFault m.formatOk k true m.security.toNat s.rollback = none) (hh : s.can.sdoHeld = none) :
    s.updateEnds (s.updateVerify m k).heldServe (slotFrom m .pending) true 1 0 none := by
  obtain ⟨x, hx⟩ : ∃ x, x = s.updateEnd (slotFrom m .pending) true 1 0 := ⟨_, rfl⟩
  have hs : Stands s x := by
    rw [hx]
    exact State.updateEnd_stands ..
  have ho : s.updateOver x (slotFrom m .pending) true 1 0 := by
    rw [hx]
    exact State.updateEnd_over rfl id ..
  have hheld : x.can.sdoHeld = none := by rw [hx, State.updateEnd_sdoHeld, hh]
  have hv : s.updateVerify m k = match s.fw.imagePath with
      | some q => x.answer q 0x2C20 0 none
      | none => x := by
    unfold State.updateVerify
    simp only [h, hx] <;> rfl
  cases hq : s.fw.imagePath with
  | none =>
    simp only [hq] at hv
    rw [hv, State.heldServe_none hheld]
    exact ⟨ho, fun q h => by rw [hq] at h; cases h⟩
  | some q =>
    simp only [hq] at hv
    have hk := x.answer_served q 0x2C20 0 none
    rw [hv, State.heldServe_none (hk.sdoHeld.trans hheld)]
    refine ⟨State.updateOver_served ho hk, fun r h => ?_⟩
    rw [hq] at h
    cases h
    exact State.answer_written hs.waits ..

theorem State.updateVerify_sdoHeld (m : Manifest) (k : ImageChecks) : (s.updateVerify m k).can.sdoHeld = s.can.sdoHeld := by
  have ha : ∀ x : State, x.can.sdoHeld = s.can.sdoHeld → ∀ code, (match s.fw.imagePath with
      | some q => x.answer q 0x2C20 0 code
      | none => x : State).can.sdoHeld = s.can.sdoHeld := fun x hx code => by
    split
    · exact (x.answer_served ..).sdoHeld.trans hx
    · exact hx
  unfold State.updateVerify
  dsimp only
  split
  · exact ha _ (State.updateEnd_sdoHeld ..) _
  · exact ha _ ((State.updateEnd_sdoHeld ..).trans (by rw [State.fire_can])) _

/-- RESTART (R436): the shutdown, where the yoke is on, and the collar's restart. -/
theorem State.restart_outcome (s : State) : let u := (s.orderlyShutdown 0 0).collarRestart
    u.up.inReset = true ∧ u.up.collar = false ∧ u.up.phase = .collarStart ∧ u.up.step = 1 ∧ u.up.cause = .watchdog ∧ u.can.nmt = .initialising ∧
      u.fw.upd = .idle ∧ (∀ b, u.fw.slot b = if (s.fw.slot b).st = .erasing ∨ (s.fw.slot b).st = .writing then slot0 else s.fw.slot b) ∧
      ((s.domainOf 0).st ≠ .off → s.shutDown u 0) ∧ ((s.domainOf 0).st = .off → u.jobs = s.jobs ∧ u.power = s.power) := by
  have hf : (s.orderlyShutdown 0 0).fw = s.fw := (State.orderlyShutdown_step (Step.refl 234045272756285434 s) (by decide)).fw (by decide)
  refine ⟨rfl, rfl, rfl, rfl, rfl, rfl, rfl, fun b => ?_, fun h => ?_, fun h => ?_⟩
  · rw [← hf]
    exact Firmware.cut_slot ..
  · exact State.collarRestart_shutDown (State.orderlyShutdown_shutDown h id rfl rfl)
  · rw [State.orderlyShutdown_off h]
    exact ⟨rfl, rfl⟩

theorem State.programError_sdoHeld : s.programError.can.sdoHeld = s.can.sdoHeld := by
  have hx : ((s.fire 0x0E09 (flag s.fw.updB) 0).updateEnd slot0 false 6 0x0E09).can.sdoHeld = s.can.sdoHeld :=
    (State.updateEnd_sdoHeld ..).trans (by rw [State.fire_can])
  unfold State.programError
  dsimp only
  split
  · exact ((State.answer_served ..).trans (State.dropImage_served ..)).sdoHeld.trans hx
  · exact hx

theorem partSizesOk_iff (k : ImageChecks) : partSizesOk k = true ↔ sizedParts k := by
  simp [partSizesOk, sizedParts, and_assoc]

/-- The check that an image fails first (R427). -/
theorem imageFault_of (m : Manifest) (k : ImageChecks) (c : Nat) :
    let formed := m.formatOk = true ∧ sizedParts k
    let signed := k.keyOk = true ∧ k.signatureOk = true
    let whole := k.collarHashOk = true ∧ k.yokeHashOk = true
    (¬ formed → imageFault m.formatOk k true m.security.toNat c = some (0x0E04, .invalid)) ∧
    (formed → ¬ signed → imageFault m.formatOk k true m.security.toNat c = some (0x0E01, .invalid)) ∧
    (formed → signed → ¬ whole → imageFault m.formatOk k true m.security.toNat c = some (0x0E02, .invalid)) ∧
    (formed → signed → whole → m.security.toNat < c → imageFault m.formatOk k true m.security.toNat c = some (0x0E03, .revoked)) ∧
    (formed → signed → whole → c ≤ m.security.toNat → imageFault m.formatOk k true m.security.toNat c = none) := by
  have hp := partSizesOk_iff k
  refine ⟨fun h => ?_, fun ⟨h1, h2⟩ h => ?_, fun ⟨h1, h2⟩ ⟨h3, h4⟩ h => ?_, fun ⟨h1, h2⟩ ⟨h3, h4⟩ ⟨h5, h6⟩ h => ?_,
    fun ⟨h1, h2⟩ ⟨h3, h4⟩ ⟨h5, h6⟩ h => ?_⟩
  · rw [← hp] at h
    unfold imageFault
    exact if_pos (by cases h1 : m.formatOk <;> simp_all)
  · rw [← hp] at h2
    unfold imageFault
    rw [if_neg (by simp [h1, h2]), if_pos (by cases h3 : k.keyOk <;> simp_all)]
  · rw [← hp] at h2
    unfold imageFault
    rw [if_neg (by simp [h1, h2]), if_neg (by simp [h3, h4]), if_pos (by cases h5 : k.collarHashOk <;> simp_all)]
  · rw [← hp] at h2
    unfold imageFault
    rw [if_neg (by simp [h1, h2]), if_neg (by simp [h3, h4]), if_neg (by simp [h5, h6]), if_pos h]
  · rw [← hp] at h2
    unfold imageFault
    rw [if_neg (by simp [h1, h2]), if_neg (by simp [h3, h4]), if_neg (by simp [h5, h6]), if_neg (by omega)]

end

end Sys2Proof.Machine

namespace Sys2Proof.Proofs

open Sys2Proof.Machine

/-- Settles O59, by the end of an update and the answer that its path is given. -/
theorem updates : Obligations.Updates := by
  refine ⟨fun s p hw => ⟨⟨fun hr => ?_, fun hr hs => ?_, fun hr hs => ?_⟩, fun hheld => ⟨fun hb hn hi => ?_, fun q hb hn hi => ?_, fun hb hn => ?_⟩,
      fun hd hp => ?_, fun hd => ?_⟩, fun s he => ⟨?_, ?_⟩, fun s data => ⟨fun hu hi h1 hn => ?_, fun hu hheld => ?_⟩,
    fun s m k hu hheld => ?_⟩
  · exact State.refusesWrite_plain (e := fxUpdateBegin p) rfl hw (if_pos (s.beginRefused_iff.2 hr))
  · have hx : fxUpdateBegin p s = .ok { s with fw := { s.fw with beginWait := some p } } :=
      (if_neg fun h => hr (s.beginRefused_iff.1 h)).trans (if_pos hs)
    exact completes_step (State.odWrite_ok hw hx)
      (Step.put (F := 36028797018963968) (Step.refl _ s) (by decide) rfl fun v => ⟨v.1, v.2, v.3, v.4, v.5, v.6, v.7⟩) rfl
  · have hx : fxUpdateBegin p s = .ok s.updateStart :=
      (if_neg fun h => hr (s.beginRefused_iff.1 h)).trans (if_neg (by rw [hs]; decide))
    exact completes_step (State.odWrite_ok hw hx) (State.updateStart_step (Step.refl _ s) (by decide)) rfl
  · have hc : fxUpdateCancel s = .ok s := by
      rw [fxUpdateCancel_eq hb, State.cancelsImage_none hi, State.imageEnded_idle hn]
    exact completes_step (State.cancel_write hw hc hheld) (Step.refl _ s) trivial
  · have hk := State.answer_served { s with fw := { s.fw with beginWait := none } } q 0x2C21 1 (some 0x08000022)
    have hwait : Waits s { s with fw := { s.fw with beginWait := none } } :=
      ⟨⟨List.prefix_rfl, rfl, rfl, rfl, fun _ _ => rfl⟩, rfl, rfl, rfl⟩
    exact completes_step (State.cancel_write hw (State.cancel_waiting hb hn hi) (hk.sdoHeld.trans hheld))
      (State.answer_step (Step.put (F := 36028797018963968) (Step.refl _ s) (by decide) rfl fun v => ⟨v.1, v.2, v.3, v.4, v.5, v.6, v.7⟩) (by decide))
      ⟨hk.fw, State.answer_written hwait ..⟩
  · have hs := s.cancelsImage_served
    have hc : fxUpdateCancel s = .ok (s.cancelsImage.updateEnd slot0 false 7 0) := by
      rw [fxUpdateCancel_eq hb, State.imageEnded_inHand (by rw [hs.fw]; exact hn)]
    exact completes_step (State.cancel_write hw hc (by rw [State.updateEnd_sdoHeld, hs.sdoHeld, hheld]))
      (State.updateEnd_step s.cancelsImage_step (by decide)) s.cancel_outcome
  · exact State.refusesWrite_settled (e := fxUpdateRestart) rfl hw (if_pos ⟨hd, hp⟩)
  · have hx : fxUpdateRestart s = .ok (s.orderlyShutdown 0 0).collarRestart := if_neg fun h => hd.elim h.1 h.2
    exact settles_step (State.odWriteSettled_ok hw hx)
      (State.collarRestart_step (State.orderlyShutdown_step (Step.refl _ s) (by decide)) (by decide)) s.restart_outcome
  · exact completes_step (whenDue_true (by simp [he]) _ _)
      (Step.put (F := 36028797018963968) (Step.refl _ s) (by decide) rfl fun v => ⟨v.1, v.2, v.3, v.4, v.5, v.6, v.7⟩) rfl
  · exact completes_step (whenDue_true (by simp [he]) _ _) (State.programError_step (Step.refl _ s) (by decide)) s.programError_outcome
  · exact settles_step (whenSettled_true (by rcases hu with h | h <;> simp [h, hi, h1, hn]) _ _)
      (State.imageBytes_step (Step.refl _ s) (by decide)) rfl
  · have hx : exec (.imageDataWrite data false) s = .next (State.settle s s.programError) := by
      refine (whenSettled_true ?_ s s.programError.heldServe).trans ?_
      · rcases hu with h | ⟨h, h1⟩
        · simp [h]
        · simp [h, h1]
      · rw [State.heldServe_none (by rw [State.programError_sdoHeld, hheld])]
    exact settles_step hx (State.programError_step (Step.refl _ s) (by decide)) s.programError_outcome
  · have hx : exec (.imageUpdateVerify m k) s = .next (State.settle s (s.updateVerify m k).heldServe) := whenSettled_true (by simp [hu]) _ _
    have hstep : Step (maskOf (reportFields ++ ([.boxA, .boxB, .fw] : List Field))) s (s.updateVerify m k).heldServe := by
      rw [State.heldServe_none (by rw [State.updateVerify_sdoHeld, hheld])]
      exact State.updateVerify_step (Step.refl _ s) (by decide)
    obtain ⟨f1, f2, f3, f4, f5⟩ := imageFault_of m k s.rollback
    exact ⟨fun h => settles_step hx hstep (State.updateVerify_fails (by decide) (f1 h) hheld),
      fun h1 h => settles_step hx hstep (State.updateVerify_fails (by decide) (f2 h1 h) hheld),
      fun h1 h2 h => settles_step hx hstep (State.updateVerify_fails (by decide) (f3 h1 h2 h) hheld),
      fun h1 h2 h3 h => settles_step hx hstep (State.updateVerify_fails (by decide) (f4 h1 h2 h3 h) hheld),
      fun h1 h2 h3 h => settles_step hx hstep (State.updateVerify_passes (f5 h1 h2 h3 h) hheld)⟩

end Sys2Proof.Proofs
end

section
/-! A health check that fails, and starts of the yoke that fail (R398, R399, R431, R432). -/

namespace Sys2Proof.Machine

/-! ### The health check of the running image (R431, R432) -/

/-- The detectors that a failed health check may fire. -/
def healthDets : List Nat := 0x0E05 :: 0x0E06 :: fallDets

theorem sideDets_health : ∀ d ∈ sideDets, d ∈ healthDets := by decide
theorem fallDets_health : ∀ d ∈ fallDets, d ∈ healthDets := fun _ h => List.mem_cons_of_mem _ (List.mem_cons_of_mem _ h)

section

variable (s : State)

/-- The failure is counted in the running image's slot. -/
def State.healthCounted : State :=
  let x := s.fw.slot s.fw.runB
  { s with fw := { s.fw.setSlot s.fw.runB { x with failures := x.failures + 1 } with healthFrom := none } }

/-- It is reported. -/
def State.healthNoted : State :=
  (s.healthCounted.fire 0x0E05 (flag s.fw.runB) 0).emcyEvent 0xFF79 0x0E05
    (natLe 1 (flag s.fw.runB) ++ natLe 1 ((s.fw.slot s.fw.runB).failures + 1))

/-- The slot has FAILED, and the fallback is counted. -/
def State.fallbackCounted : State :=
  let b := s.fw.runB
  let x := s.fw.slot b
  { s with fw := { s.fw.setSlot b { x with st := .failed } with fallbacks := (s.fw.fallbacks + 1) % 2 ^ 32, health := 0, healthFrom := none } }

/-- It is reported. -/
def State.fallbackNoted : State :=
  (s.fallbackCounted.fire 0x0E06 (flag s.fw.runB) 0).emcyEvent 0xFF7A 0x0E06
    (natLe 1 (flag s.fw.runB) ++ natLe 1 (flag ((s.fallbackCounted.fw.order.head?).getD s.fw.runB)))

theorem State.fallback_eq : s.fallback = (s.fallbackNoted.orderlyShutdown 3 0).collarRestart := by
  unfold State.fallback State.fallbackNoted State.fallbackCounted
  rfl

variable {s}

theorem State.healthFail_idle (h : s.fw.health ≠ 1) : s.healthFail = s := if_pos h

theorem State.healthFail_early (h : s.fw.health = 1) (hf : (s.fw.slot s.fw.runB).failures < 2) : s.healthFail = s.healthNoted := by
  unfold State.healthFail
  rw [if_neg (not_not.mpr h)]
  exact if_neg (by omega)

theorem State.healthFail_third (h : s.fw.health = 1) (hf : 2 ≤ (s.fw.slot s.fw.runB).failures) : s.healthFail = s.healthNoted.fallback := by
  unfold State.healthFail
  rw [if_neg (not_not.mpr h)]
  exact if_pos (by omega)

theorem State.healthNoted_fw : s.healthNoted.fw = s.healthCounted.fw := by
  unfold State.healthNoted
  simp

theorem State.healthNoted_same : s.healthNoted.up = s.up ∧ s.healthNoted.power = s.power ∧ s.healthNoted.ports = s.ports ∧ s.healthNoted.now = s.now := by
  unfold State.healthNoted
  refine ⟨?_, ?_, ?_, ?_⟩ <;> simp [State.healthCounted]

theorem State.fallbackNoted_same : s.fallbackNoted.up = s.up ∧ s.fallbackNoted.power = s.power ∧ s.fallbackNoted.ports = s.ports := by
  unfold State.fallbackNoted
  refine ⟨?_, ?_, ?_⟩ <;> simp [State.fallbackCounted]

theorem Firmware.slot_setSlot (f : Firmware) (b : Bool) (x : Slot) : (f.setSlot b x).slot b = x := by
  cases b <;> rfl

theorem Firmware.setSlot_runB (f : Firmware) (b : Bool) (x : Slot) : (f.setSlot b x).runB = f.runB := by
  cases b <;> rfl

theorem Firmware.setSlot_fallbacks (f : Firmware) (b : Bool) (x : Slot) : (f.setSlot b x).fallbacks = f.fallbacks := by
  cases b <;> rfl

theorem State.healthCounted_fw : s.healthCounted.fw.runB = s.fw.runB ∧ s.healthCounted.fw.fallbacks = s.fw.fallbacks ∧
    s.healthCounted.fw.slot s.fw.runB = { s.fw.slot s.fw.runB with failures := (s.fw.slot s.fw.runB).failures + 1 } := by
  unfold State.healthCounted
  exact ⟨Firmware.setSlot_runB .., Firmware.setSlot_fallbacks .., by cases s.fw.runB <;> rfl⟩

theorem State.fallbackNoted_fw : s.fallbackNoted.fw.runB = s.fw.runB ∧ s.fallbackNoted.fw.fallbacks = (s.fw.fallbacks + 1) % 2 ^ 32 ∧
    s.fallbackNoted.fw.slot s.fw.runB = { s.fw.slot s.fw.runB with st := .failed } := by
  have h : s.fallbackNoted.fw = s.fallbackCounted.fw := by
    unfold State.fallbackNoted
    simp
  rw [h]
  unfold State.fallbackCounted
  exact ⟨Firmware.setSlot_runB .., rfl, by cases s.fw.runB <;> rfl⟩

end

section

variable {s s0 : State} {code det n : Nat} {D : List Nat}

theorem State.healthNoted_calm (hs : ∀ d ∈ sideDets, d ∈ D) (h5 : 0x0E05 ∈ D) (h : Calm D s0 s) : Calm D s0 s.healthNoted := by
  have hc : Calm D s0 s.healthCounted := h.put rfl rfl rfl
  exact State.emcyEvent_calm hs (State.fire_calm hc h5 _ _) ..

theorem State.fallbackNoted_calm (hs : ∀ d ∈ sideDets, d ∈ D) (h6 : 0x0E06 ∈ D) (h : Calm D s0 s) : Calm D s0 s.fallbackNoted := by
  have hc : Calm D s0 s.fallbackCounted := h.put rfl rfl rfl
  exact State.emcyEvent_calm hs (State.fire_calm hc h6 _ _) ..

theorem State.collarRestart_calm (h : Calm D s0 s) : Calm D s0 s.collarRestart := h.put rfl rfl rfl

theorem State.raisedWithin_history {t u : State} (h : s.raisedWithin t code det n) (hc : u.can.history = t.can.history) :
    s.raisedWithin u code det n := fun hk => by
  rw [hc]
  exact h hk

theorem State.collarRestart_history (s : State) : s.collarRestart.can.history = s.can.history := rfl

theorem State.collarRestart_restarts (s : State) : s.collarRestart.up.inReset = true ∧ s.collarRestart.up.cause = .watchdog ∧ s.collarRestart.up.step = 1 :=
  ⟨rfl, rfl, rfl⟩

theorem State.collarRestart_same (s : State) : s.collarRestart.power = s.power ∧ s.collarRestart.up.yoke = s.up.yoke := ⟨rfl, rfl⟩

theorem State.fallback_calm (hf : ∀ d ∈ fallDets, d ∈ D) (h6 : 0x0E06 ∈ D) (h : Calm D s0 s) : Calm D s0 s.fallback := by
  rw [State.fallback_eq]
  exact State.collarRestart_calm
    (State.orderlyShutdown_calm (cause := 3) (det := 0) hf (State.fallbackNoted_calm (fun d hd => hf d (sideDets_fall d hd)) h6 h))

theorem State.healthFail_calm (hD : ∀ d ∈ healthDets, d ∈ D) (h : Calm D s0 s) : Calm D s0 s.healthFail := by
  have hs : ∀ d ∈ sideDets, d ∈ D := fun d hd => hD d (sideDets_health d hd)
  by_cases hh : s.fw.health = 1
  · rcases Nat.lt_or_ge (s.fw.slot s.fw.runB).failures 2 with hf | hf
    · rw [State.healthFail_early hh hf]
      exact State.healthNoted_calm hs (hD _ (by decide)) h
    · rw [State.healthFail_third hh hf]
      exact State.fallback_calm (fun d hd => hD d (fallDets_health d hd)) (hD _ (by decide)) (State.healthNoted_calm hs (hD _ (by decide)) h)
  · rw [State.healthFail_idle hh]
    exact h

theorem State.healthCounted_keepsEmcy : s.healthCounted.keepsEmcy ↔ s.keepsEmcy := State.keepsEmcy_congr rfl rfl
theorem State.fallbackCounted_keepsEmcy : s.fallbackCounted.keepsEmcy ↔ s.keepsEmcy := State.keepsEmcy_congr rfl rfl

theorem State.fire_keepsEmcy {d u a : Nat} : (s.fire d u a).keepsEmcy ↔ s.keepsEmcy :=
  State.keepsEmcy_congr (by rw [State.fire_up]) (State.setting_congr (by simp) _ _)

theorem State.healthNoted_keepsEmcy : s.healthNoted.keepsEmcy ↔ s.keepsEmcy :=
  (State.keepsEmcy_emcyEvent ..).trans (State.fire_keepsEmcy.trans State.healthCounted_keepsEmcy)

theorem State.fallbackNoted_keepsEmcy : s.fallbackNoted.keepsEmcy ↔ s.keepsEmcy :=
  (State.keepsEmcy_emcyEvent ..).trans (State.fire_keepsEmcy.trans State.fallbackCounted_keepsEmcy)

/-- The message of a failed check, and an earlier one behind it. -/
theorem State.healthNoted_raises (hk : s0.keepsEmcy → s.keepsEmcy) : s0.raisedWithin s.healthNoted 0xFF79 0x0E05 0 :=
  State.emcyEvent_raises (fun h => State.fire_keepsEmcy.2 (State.healthCounted_keepsEmcy.2 (hk h))) (by decide) _

theorem State.healthNoted_within (hk : s0.keepsEmcy → s.keepsEmcy) (hw : s0.raisedWithin s code det n) (hn : n < 7) :
    s0.raisedWithin s.healthNoted code det (n + 1) :=
  State.emcyEvent_within (fun h => State.fire_keepsEmcy.2 (State.healthCounted_keepsEmcy.2 (hk h)))
    (State.raisedWithin_congr hw (by simp [State.healthCounted])) hn (by decide) _ _

theorem State.fallbackNoted_within (hk : s0.keepsEmcy → s.keepsEmcy) (hw : s0.raisedWithin s code det n) (hn : n < 7) :
    s0.raisedWithin s.fallbackNoted code det (n + 1) :=
  State.emcyEvent_within (fun h => State.fire_keepsEmcy.2 (State.fallbackCounted_keepsEmcy.2 (hk h)))
    (State.raisedWithin_congr hw (by simp [State.fallbackCounted])) hn (by decide) _ _

/-- A message stays in the history through a fallback, whose shutdown sends one for itself and one for each link. -/
theorem State.fallback_within (hk : s0.keepsEmcy → s.keepsEmcy) (hw : s0.raisedWithin s code det n) (hn : n < 6)
    (hl : (s.domainOf 0).st = .off ∨ n + 2 + s.linksUp ≤ 7) : s0.raisedWithin s.fallback code det 7 := by
  have hp : s.fallbackNoted.linksUp = s.linksUp := by
    rw [← State.linksUp_eq, ← State.linksUp_eq, State.linksOf_congr State.fallbackNoted_same.2.2]
  have hd : s.fallbackNoted.domainOf 0 = s.domainOf 0 := State.domainOf_congr (congrArg Power.domains State.fallbackNoted_same.2.1) 0
  rw [State.fallback_eq]
  refine State.raisedWithin_history ?_ (State.collarRestart_history _)
  exact State.orderlyShutdown_within (cause := 3) (det := 0) (fun h => State.fallbackNoted_keepsEmcy.2 (hk h))
    (State.fallbackNoted_within hk hw (by omega)) (by omega) (by rw [hp, hd]; omega)

/-- So it does through a failed check. -/
theorem State.healthFail_within (hk : s0.keepsEmcy → s.keepsEmcy) (hw : s0.raisedWithin s code det n) (hn : n < 5)
    (hl : s.fw.health ≠ 1 ∨ (s.fw.slot s.fw.runB).failures < 2 ∨ (s.domainOf 0).st = .off ∨ n + 3 + s.linksUp ≤ 7) :
    s0.raisedWithin s.healthFail code det 7 := by
  by_cases hh : s.fw.health = 1
  · have hw' := State.healthNoted_within hk hw (by omega)
    rcases Nat.lt_or_ge (s.fw.slot s.fw.runB).failures 2 with hf | hf
    · rw [State.healthFail_early hh hf]
      exact State.raisedWithin_le hw' (by omega)
    · have hp : s.healthNoted.linksUp = s.linksUp := by
        rw [← State.linksUp_eq, ← State.linksUp_eq, State.linksOf_congr State.healthNoted_same.2.2.1]
      have hd : s.healthNoted.domainOf 0 = s.domainOf 0 := State.domainOf_congr (congrArg Power.domains State.healthNoted_same.2.1) 0
      rw [State.healthFail_third hh hf]
      refine State.fallback_within (fun h => State.healthNoted_keepsEmcy.2 (hk h)) hw' (by omega) ?_
      rw [hp, hd]
      rcases hl with h | h | h | h
      · exact absurd hh h
      · omega
      · exact .inl h
      · exact .inr (by omega)
  · rw [State.healthFail_idle hh]
    exact State.raisedWithin_le hw (by omega)

theorem State.healthNoted_fires (s : State) : s.firedMore s.healthNoted 0x0E05 := by
  have hc : s.healthCounted.det = s.det := rfl
  unfold State.healthNoted
  exact State.firedMore_side (State.firedMore_fire hc ..) (State.emcyEvent_report ..) (by decide)

theorem State.fallbackNoted_fires (s : State) : s.firedMore s.fallbackNoted 0x0E06 := by
  have hc : s.fallbackCounted.det = s.det := rfl
  unfold State.fallbackNoted
  exact State.firedMore_side (State.firedMore_fire hc ..) (State.emcyEvent_report ..) (by decide)

/-- What a failed health check does (R431, R432), seen from a state `s0` in which the image and its counts stood the same. -/
theorem State.healthFail_fails (hh : s.fw.health = 1) (hk : s0.keepsEmcy → s.keepsEmcy) (hrun : s.fw.runB = s0.fw.runB)
    (hfail : (s.fw.slot s0.fw.runB).failures = (s0.fw.slot s0.fw.runB).failures) (hfall : s.fw.fallbacks = s0.fw.fallbacks)
    (h5 : s.detOf 0x0E05 = s0.detOf 0x0E05) (h6 : s.detOf 0x0E06 = s0.detOf 0x0E06)
    (hl : (s0.domainOf 0).st = .off ∨ s0.linksUp ≤ 5 → (s.domainOf 0).st = .off ∨ s.linksUp ≤ 5) : s0.healthFails s.healthFail := by
  have hm5 : ∀ t, Calm (0x0E06 :: fallDets) s.healthNoted t → s0.firedMore t 0x0E05 := fun t ht => by
    have hc := s.healthNoted_fires
    unfold State.firedMore at *
    rw [ht.det _ (by decide), ← h5, hc]
  obtain ⟨hr, hb, hs⟩ := State.healthCounted_fw (s := s)
  rcases Nat.lt_or_ge (s.fw.slot s.fw.runB).failures 2 with hf | hf
  · rw [State.healthFail_early hh hf]
    have hf0 : (s0.fw.slot s0.fw.runB).failures < 2 := by rw [← hfail, ← hrun]; exact hf
    refine ⟨hm5 _ (Calm.refl _ _), fun _ => State.hasRaised_of_within (State.healthNoted_raises hk), fun _ => ⟨?_, ?_⟩, fun h => absurd h (by omega)⟩
    · rw [State.healthNoted_fw, ← hrun, hs, hrun, ← hfail]
    · rw [State.healthNoted_fw, hb, hfall]
  · rw [State.healthFail_third hh hf]
    have hf0 : 2 ≤ (s0.fw.slot s0.fw.runB).failures := by rw [← hfail, ← hrun]; exact hf
    have hp : s.healthNoted.linksUp = s.linksUp := by
      rw [← State.linksUp_eq, ← State.linksUp_eq, State.linksOf_congr State.healthNoted_same.2.2.1]
    have hd : s.healthNoted.domainOf 0 = s.domainOf 0 := State.domainOf_congr (congrArg Power.domains State.healthNoted_same.2.1) 0
    obtain ⟨gr, gb, gs⟩ := State.fallbackNoted_fw (s := s.healthNoted)
    have hfw : s.healthNoted.fallback.fw = s.healthNoted.fallbackNoted.fw.cut := by
      rw [State.fallback_eq]
      exact congrArg Firmware.cut ((State.orderlyShutdown_step (Step.refl 234045272756285434 _) (by decide)).fw (by decide))
    have hrn : s.healthNoted.fw.runB = s0.fw.runB := by rw [State.healthNoted_fw, hr, hrun]
    refine ⟨hm5 _ ?_, fun h => State.hasRaised_of_within (State.fallback_within (fun h => State.healthNoted_keepsEmcy.2 (hk h))
        (State.healthNoted_raises hk) (by decide) ?_), fun h => absurd h (by omega), fun _ => ⟨?_, ?_, ?_, ?_⟩⟩
    · exact State.fallback_calm (fun d hd => List.mem_cons_of_mem _ hd) List.mem_cons_self (Calm.refl _ _)
    · rw [hd, hp]
      rcases hl (h.resolve_left (by omega)) with h | h
      · exact .inl h
      · exact .inr (by omega)
    · rw [hfw, Firmware.cut_slot, ← hrn, gs]
      rfl
    · rw [hfw, show s.healthNoted.fallbackNoted.fw.cut.fallbacks = s.healthNoted.fallbackNoted.fw.fallbacks from rfl, gb, State.healthNoted_fw, hb, hfall]
    · have h6' : s.healthNoted.detOf 0x0E06 = s0.detOf 0x0E06 := by
        have hn : Calm (0x0E05 :: fallDets) s s.healthNoted :=
          State.healthNoted_calm (fun d hd => List.mem_cons_of_mem _ (sideDets_fall d hd)) List.mem_cons_self (Calm.refl _ _)
        rw [hn.det _ (by decide), h6]
      have hf6 : s0.firedMore s.healthNoted.fallbackNoted 0x0E06 := by
        have hc := s.healthNoted.fallbackNoted_fires
        unfold State.firedMore at *
        rw [← h6', hc]
      rw [State.fallback_eq]
      exact State.firedMore_calm hf6 (State.collarRestart_calm (State.orderlyShutdown_calm (fun _ h => h) (Calm.refl fallDets _))) (by decide)
    · rw [State.fallback_eq]
      exact State.collarRestart_restarts _

end

/-! ### A start of the yoke that fails (R398, R399) -/

section

variable {s : State}

/-- With the yoke off already a failed check leaves the domains and the yoke as they are. -/
theorem State.healthFail_off (h : (s.domainOf 0).st = .off) : s.healthFail.power = s.power ∧ s.healthFail.up.yoke = s.up.yoke := by
  by_cases hh : s.fw.health = 1
  · obtain ⟨hu, hp, -, -⟩ := State.healthNoted_same (s := s)
    rcases Nat.lt_or_ge (s.fw.slot s.fw.runB).failures 2 with hf | hf
    · rw [State.healthFail_early hh hf, hu, hp]
      exact ⟨rfl, rfl⟩
    · obtain ⟨gu, gp, -⟩ := State.fallbackNoted_same (s := s.healthNoted)
      have hoff : (s.healthNoted.fallbackNoted.domainOf 0).st = .off := by
        rw [State.domainOf_congr (congrArg Power.domains (gp.trans hp)) 0]
        exact h
      rw [State.healthFail_third hh hf, State.fallback_eq, State.orderlyShutdown_off hoff]
      rw [(State.collarRestart_same _).1, (State.collarRestart_same _).2, gp, hp, gu, hu]
      exact ⟨rfl, rfl⟩
  · rw [State.healthFail_idle hh]
    exact ⟨rfl, rfl⟩

/-- One that makes no fallback leaves the start as it is. -/
theorem State.healthFail_quiet (h : s.fw.health ≠ 1 ∨ (s.fw.slot s.fw.runB).failures < 2) : s.healthFail.up = s.up ∧ s.healthFail.now = s.now := by
  by_cases hh : s.fw.health = 1
  · rw [State.healthFail_early hh (h.resolve_left (not_not.mpr hh))]
    exact ⟨State.healthNoted_same.1, State.healthNoted_same.2.2.2⟩
  · rw [State.healthFail_idle hh]
    exact ⟨rfl, rfl⟩

end

section

variable {s s0 x : State} {code det n step unit : Nat} {D : List Nat}

theorem State.yokeStartFailed_eq (x : State) : ∃ u, x.yokeStartFailed = { x.powerGone with up := u } ∧ u.yoke = false ∧
    u.absentAt = x.up.absentAt := ⟨_, rfl, rfl, rfl⟩

theorem State.yokeStartFailed_calm (h : Calm D s0 x) : Calm D s0 x.yokeStartFailed := by
  obtain ⟨u, hx, -, -⟩ := x.yokeStartFailed_eq
  rw [hx]
  exact (State.powerGone_calm h).put rfl rfl rfl

theorem State.yokeStartFailed_same (x : State) : x.yokeStartFailed.can = x.can ∧ x.yokeStartFailed.fw = x.fw ∧ x.yokeStartFailed.now = x.now ∧
    x.yokeStartFailed.det = x.det ∧ x.yokeStartFailed.up.yoke = false := ⟨rfl, rfl, rfl, rfl, rfl⟩

theorem State.yokeStartFailed_keepsEmcy (x : State) : x.yokeStartFailed.keepsEmcy ↔ x.keepsEmcy := by
  obtain ⟨u, hx, -, ha⟩ := x.yokeStartFailed_eq
  rw [hx]
  exact State.keepsEmcy_congr ha (State.setting_powerGone (s := x) (by decide) (by decide))

theorem State.yokeStartFailed_domains (hd : x.power.domains = s.power.domains) : s.domainsFall x.yokeStartFailed := fun d => by
  rw [← State.domainOf_congr (t := x) (s := s) hd d]
  exact State.powerGone_domains (s := x) d

/-- A failed attempt is counted (R399). -/
theorem State.yokeStartFailed_attempt (hs : x.setting 0x2A01 2 = s.setting 0x2A01 2) (hf : x.up.failedYoke = s.up.failedYoke) :
    s.attemptFails x.yokeStartFailed := by
  have hset : x.powerGone.setting 0x2A01 2 = s.setting 0x2A01 2 := (State.setting_powerGone (by decide) (by decide)).trans hs
  unfold State.attemptFails State.yokeStartFailed
  dsimp only
  rw [hset, show x.powerGone.up.failedYoke = s.up.failedYoke from hf]
  refine ⟨rfl, fun h => ?_, fun h => ?_⟩
  · simp [h]
  · simp [Nat.not_le.mpr h]

/-- The report of a step that has failed. -/
theorem State.stepFailed_calm (hs : ∀ d ∈ sideDets, d ∈ D) (h : Calm D s0 x) (step unit det : Nat) : Calm D s0 (x.stepFailed step unit det) :=
  State.emcyEvent_calm hs h ..

theorem State.stepFailed_raises (hk : s0.keepsEmcy → x.keepsEmcy) (step unit det : Nat) : s0.raisedWithin (x.stepFailed step unit det) 0xFF02 det 0 :=
  State.emcyEvent_raises hk (by decide) _

theorem State.stepFailed_same (x : State) (step unit det : Nat) : (x.stepFailed step unit det).up = x.up ∧ (x.stepFailed step unit det).power = x.power ∧
    (x.stepFailed step unit det).fw = x.fw ∧ (x.stepFailed step unit det).now = x.now ∧ (x.stepFailed step unit det).wafer = x.wafer := by
  unfold State.stepFailed
  simp

theorem State.stepFailed_keepsEmcy : (x.stepFailed step unit det).keepsEmcy ↔ x.keepsEmcy := State.keepsEmcy_emcyEvent ..

theorem State.stepFailed_setting {i j : Nat} (hj : j < 256) (h : ¬ reportCell i) : (x.stepFailed step unit det).setting i j = x.setting i j :=
  State.setting_emcyEvent hj h ..

theorem State.stepFailed_fires (h : s.firedMore x code) (hc : code ∉ sideDets) : s.firedMore (x.stepFailed step unit det) code :=
  State.firedMore_side h (State.emcyEvent_report ..) hc

/-- Detector, EMCY, and the yoke's power gone. -/
def State.startBroken (x : State) (step det : Nat) : State := ((x.fire det 0 0).stepFailed step 0xFFFF det).yokeStartFailed

theorem State.yokeStartBad_eq (x : State) (step det : Nat) : x.yokeStartBad step det = (x.startBroken step det).healthFail := rfl

theorem State.startBroken_same (x : State) (step det : Nat) : (x.startBroken step det).fw = x.fw ∧ (x.startBroken step det).now = x.now ∧
    (x.startBroken step det).up.yoke = false := by
  obtain ⟨-, h2, h3, -, h5⟩ := State.yokeStartFailed_same ((x.fire det 0 0).stepFailed step 0xFFFF det)
  obtain ⟨-, -, k3, k4, -⟩ := State.stepFailed_same (x.fire det 0 0) step 0xFFFF det
  exact ⟨h2.trans (k3.trans (State.fire_fw ..)), h3.trans (k4.trans (State.fire_now ..)), h5⟩

theorem State.startBroken_calm (hs : ∀ d ∈ sideDets, d ∈ D) (hd : det ∈ D) (h : Calm D s0 x) (step : Nat) : Calm D s0 (x.startBroken step det) :=
  State.yokeStartFailed_calm (State.stepFailed_calm hs (State.fire_calm h hd _ _) ..)

theorem State.startBroken_keepsEmcy : (x.startBroken step det).keepsEmcy ↔ x.keepsEmcy :=
  (State.yokeStartFailed_keepsEmcy _).trans (State.stepFailed_keepsEmcy.trans State.fire_keepsEmcy)

theorem State.startBroken_domains (hd : x.power.domains = s.power.domains) : s.domainsFall (x.startBroken step det) :=
  State.yokeStartFailed_domains (by rw [(State.stepFailed_same ..).2.1, State.fire_power, hd])

/-- A failure at step 8 or 9 of the yoke's start, where what the step has changed before is nothing of these counts. -/
theorem State.yokeStartBad_fails (hdet : det ∉ healthDets) (h0 : x.detOf det = s.detOf det) (h5 : x.detOf 0x0E05 = s.detOf 0x0E05)
    (h6 : x.detOf 0x0E06 = s.detOf 0x0E06) (hup : x.up = s.up) (hpow : x.power = s.power)
    (hset : ∀ i j, x.setting i j = s.setting i j) (hhealth : x.fw.health = s.fw.health) (hrun : x.fw.runB = s.fw.runB)
    (hfall : x.fw.fallbacks = s.fw.fallbacks) (hfail : (x.fw.slot s.fw.runB).failures = (s.fw.slot s.fw.runB).failures)
    (hon : (s.domainOf 0).st ≠ .latchedOff) (step : Nat) : s.yokeStartFails (x.yokeStartBad step det) det := by
  rw [State.yokeStartBad_eq]
  obtain ⟨z, hz⟩ : ∃ z, z = x.startBroken step det := ⟨_, rfl⟩
  obtain ⟨zfw, znow, zyoke⟩ := x.startBroken_same step det
  have zdom : s.domainsFall z := by rw [hz]; exact State.startBroken_domains (congrArg Power.domains hpow)
  have zoff : (z.domainOf 0).st = .off := (zdom 0).trans (if_neg hon)
  have zkeep : s.keepsEmcy → z.keepsEmcy := fun h => by
    rw [hz]
    exact State.startBroken_keepsEmcy.2 ((State.keepsEmcy_congr (by rw [hup]) (hset _ _)).2 h)
  have zwithin : s.raisedWithin z 0xFF02 det 0 := by
    rw [hz]
    refine State.raisedWithin_congr (State.stepFailed_raises (fun h => State.fire_keepsEmcy.2 ?_) step 0xFFFF det) (State.yokeStartFailed_same _).1
    exact (State.keepsEmcy_congr (by rw [hup]) (hset _ _)).2 h
  have zfire : s.firedMore z det := by
    have hf : x.firedMore z det := by
      rw [hz]
      exact State.firedMore_congr (State.stepFailed_fires (State.firedMore_fire rfl ..) fun h => hdet (sideDets_health _ h)) (State.yokeStartFailed_same _).2.2.2.1
    unfold State.firedMore at *
    rw [← h0, hf]
  have zcalm : Calm (det :: sideDets) x z := by
    rw [hz]
    exact State.startBroken_calm (fun d h => List.mem_cons_of_mem _ h) List.mem_cons_self (Calm.refl _ _) step
  have zdet : ∀ d, d ∈ healthDets → d ∉ sideDets → z.detOf d = x.detOf d := fun d hd hs => zcalm.det d fun h => by
    rcases List.mem_cons.mp h with h | h
    · exact hdet (h ▸ hd)
    · exact hs h
  have zattempt : s.attemptFails z := by
    rw [hz]
    refine State.yokeStartFailed_attempt ?_ ?_
    · rw [State.stepFailed_setting (by decide) (by unfold reportCell; decide), State.setting_congr (State.fire_od ..), hset]
    · rw [(State.stepFailed_same ..).1, State.fire_up, hup]
  rw [← hz] at zfw znow zyoke ⊢
  refine ⟨State.firedMore_calm zfire (State.healthFail_calm (fun _ h => h) (Calm.refl healthDets _)) hdet,
    State.hasRaised_of_within (State.healthFail_within zkeep zwithin (by decide) (.inr (.inr (.inl zoff)))), fun d => ?_, ?_, fun h => ?_, fun h => ?_, fun h => ?_⟩
  · rw [State.domainOf_congr (congrArg Power.domains (State.healthFail_off zoff).1) d]
    exact zdom d
  · rw [(State.healthFail_off zoff).2, zyoke]
  · obtain ⟨hu, hn⟩ := State.healthFail_quiet (s := z) (by rw [zfw, hhealth, hrun, hfail]; exact h)
    unfold State.attemptFails
    rw [hu, hn]
    exact zattempt
  · exact State.healthFail_fails (by rw [zfw, hhealth, h]) zkeep (by rw [zfw, hrun]) (by rw [zfw, hfail]) (by rw [zfw, hfall])
      ((zdet _ (by decide) (by decide)).trans h5) ((zdet _ (by decide) (by decide)).trans h6) (fun _ => .inl zoff)
  · rw [State.healthFail_idle (by rw [zfw, hhealth]; exact h), zfw, hfail]

end

end Sys2Proof.Machine
end

section
/-! The yoke's start (R386, R390, R398, R399, R430). -/

namespace Sys2Proof.Machine

section

variable {s x t : State}

theorem State.domainTakes_set (s : State) (d : Nat) (v : Domain) (h : t.power.domains = s.power.domains.set d v) : s.domainTakes d v t := by
  refine ⟨?_, fun e he => ?_⟩
  · unfold State.domainOf
    rw [h, Tab.get_set_same]
  · unfold State.domainOf
    rw [h, Tab.get_set_other _ _ _ he]

/-- The yoke begins to ramp. -/
theorem State.yokeStart_outcome (x : State) : x.yokeStart.now = x.now ∧ x.domainTakes 0 ⟨.ramping, true, x.now⟩ x.yokeStart ∧
    x.yokeStart.up = { x.up with phase := .yokeStart, step := 7, stepAt := x.now, retryAt := none } :=
  ⟨rfl, State.domainTakes_set x 0 _ rfl, rfl⟩

theorem State.domainGood_zero (s : State) : s.domainTakes 0 ⟨.on, false, 0⟩ (s.domainGood 0) ∧
    (s.domainGood 0).up = { s.up with step := 8, stepAt := s.now } :=
  ⟨State.domainTakes_set s 0 _ rfl, rfl⟩

theorem State.yokeStep_of {n : Nat} (hc : s.up.collar = true) (hp : s.up.phase = .yokeStart) (hs : s.up.step = n) (hd : (s.domainOf 0).st = .on) :
    s.yokeStep n = true := by
  simp [State.yokeStep, hc, hp, hs, hd]

/-- Step 8 has passed its limit, but with a slow SPI NOR, where it has none. -/
theorem State.inLimit_eight (s : State) : s.inLimit 8 = true ↔ ¬ (s.up.slowSpi = false ∧ s.up.stepAt + 170 * psMs < s.now) := by
  unfold State.inLimit stepMs
  cases s.up.slowSpi <;> simp

theorem State.inLimit_nine (s : State) : s.inLimit 9 = true ↔ ¬ s.up.stepAt + 50 * psMs < s.now := by
  unfold State.inLimit stepMs
  simp

/-- A step 8 or 9 that passes its limit. -/
theorem State.startLate_fails (hon : (s.domainOf 0).st = .on) (m step : Nat) :
    s.yokeStartFails ((s.advanceTo m).yokeStartBad step 0x0C34) 0x0C34 ∧ ((s.advanceTo m).yokeStartBad step 0x0C34).now = max s.now m := by
  refine ⟨State.yokeStartBad_fails (s := s) (x := s.advanceTo m) (by decide) rfl rfl rfl rfl rfl (fun _ _ => rfl) rfl rfl rfl rfl (by rw [hon]; decide) step, ?_⟩
  exact (State.yokeStartBad_step (Step.refl 270074138494726138 (s.advanceTo m)) (by decide)).now (by decide)

/-- A loaded part whose hash does not match makes its slot INVALID. -/
def State.hashBad (s : State) : State :=
  let x := s.fw.slot s.fw.runB
  State.fire { s with fw := s.fw.setSlot s.fw.runB { x with st := .invalid } } 0x0E02 (flag s.fw.runB) 0

theorem State.hashBad_fw (s : State) : s.hashBad.fw = s.fw.setSlot s.fw.runB { s.fw.slot s.fw.runB with st := .invalid } := by
  unfold State.hashBad
  simp

theorem Firmware.setSlot_health (f : Firmware) (b : Bool) (x : Slot) : (f.setSlot b x).health = f.health := by
  cases b <;> rfl

theorem State.hashBad_fails (hon : (s.domainOf 0).st = .on) : s.yokeStartFails (s.hashBad.yokeStartBad 8 0x0C33) 0x0C33 := by
  have hdet : ∀ d, d ≠ 0x0E02 → s.hashBad.detOf d = s.detOf d := fun d hd => State.detOf_fire_other _ hd _ _
  refine State.yokeStartBad_fails (by decide) (hdet _ (by decide)) (hdet _ (by decide)) (hdet _ (by decide)) (State.fire_up ..) (State.fire_power ..)
    (fun i j => State.setting_congr (State.fire_od ..) i j) ?_ ?_ ?_ ?_ (by rw [hon]; decide) 8
  · rw [State.hashBad_fw, Firmware.setSlot_health]
  · rw [State.hashBad_fw, Firmware.setSlot_runB]
  · rw [State.hashBad_fw, Firmware.setSlot_fallbacks]
  · rw [State.hashBad_fw, Firmware.slot_setSlot]

/-- A failed check changes of the running image's slot its state only where it falls back. -/
theorem State.healthFail_slot (h : s.fw.health ≠ 1 ∨ (s.fw.slot s.fw.runB).failures < 2) :
    (s.healthFail.fw.slot s.fw.runB).st = (s.fw.slot s.fw.runB).st := by
  by_cases hh : s.fw.health = 1
  · rw [State.healthFail_early hh (h.resolve_left (not_not.mpr hh)), State.healthNoted_fw, State.healthCounted_fw.2.2]
  · rw [State.healthFail_idle hh]

theorem State.hashBad_fires (s : State) : s.firedMore s.hashBad 0x0E02 := by
  unfold State.hashBad
  exact State.firedMore_fire rfl ..

theorem State.hashBad_outcome (hon : (s.domainOf 0).st = .on) : let u := s.hashBad.yokeStartBad 8 0x0C33
    s.yokeStartFails u 0x0C33 ∧ s.firedMore u 0x0E02 ∧
      (s.fw.health ≠ 1 ∨ (s.fw.slot s.fw.runB).failures < 2 → (u.fw.slot s.fw.runB).st = .invalid) := by
  have hfw : (s.hashBad.startBroken 8 0x0C33).fw = s.fw.setSlot s.fw.runB { s.fw.slot s.fw.runB with st := .invalid } :=
    (State.startBroken_same s.hashBad 8 0x0C33).1.trans s.hashBad_fw
  refine ⟨State.hashBad_fails hon, ?_, fun h => ?_⟩
  · refine State.firedMore_calm (D := 0x0C33 :: healthDets) (x := s.hashBad) s.hashBad_fires ?_ (by decide)
    refine State.healthFail_calm (fun _ h => List.mem_cons_of_mem _ h) (State.startBroken_calm (fun d h => ?_) List.mem_cons_self (Calm.refl _ s.hashBad) 8)
    exact List.mem_cons_of_mem _ (sideDets_health d h)
  · have hk := State.healthFail_slot (s := s.hashBad.startBroken 8 0x0C33)
      (by rw [hfw, Firmware.setSlot_health, Firmware.setSlot_runB, Firmware.slot_setSlot]; exact h)
    rw [hfw, Firmware.setSlot_runB, Firmware.slot_setSlot] at hk
    exact hk

/-! ### The yoke runs -/

/-- The yoke's start is over; its settings are not loaded yet. -/
def State.yokeServes (s : State) : State :=
  ({ s with up := { s.up with yoke := true, failedYoke := 0, retryAt := none, yokeOnly := false } }).clocksFresh [260, 261]

theorem State.yokeRuns_eq (s : State) : s.yokeRuns = { s.yokeServes.loadArea 2 yokeServed with
    up := { (s.yokeServes.loadArea 2 yokeServed).up with rebuildMode := (s.yokeServes.loadArea 2 yokeServed).setting 0x2002 0 } } := by
  unfold State.yokeRuns State.yokeServes
  rfl

theorem State.yokeRuns_outcome (s : State) : s.yokeRuns.up.yoke = true ∧ s.yokeRuns.up.failedYoke = 0 ∧ s.yokeRuns.up.yokeOnly = false ∧
    s.yokeRuns.up.rebuildMode = s.yokeRuns.setting 0x2002 0 ∧ s.yokeRuns.wafer = s.wafer := by
  have hb := State.loadArea_step (x1 := 2) (x2 := yokeServed) (Step.refl 76020940414078140 s.yokeServes) (by decide)
  rw [State.yokeRuns_eq]
  generalize s.yokeServes.loadArea 2 yokeServed = b at hb
  have hup : b.up = s.yokeServes.up := hb.up (by decide)
  have hw : b.wafer = s.yokeServes.wafer := hb.wafer (by decide)
  dsimp only
  rw [hup, hw]
  exact ⟨rfl, rfl, rfl, rfl, rfl⟩

/-- Where the bring-up stands changes its phase, and when the health window begins. -/
theorem State.phaseCheck_eq (x : State) :
    ∃ ph h, x.phaseCheck = { x with up := { x.up with phase := ph }, fw := { x.fw with healthFrom := h } } := by
  unfold State.phaseCheck
  split
  · exact ⟨x.up.phase, x.fw.healthFrom, rfl⟩
  · exact ⟨_, _, rfl⟩

theorem State.scrubAgain_outcome (x : State) : x.scrubAgain.phaseCheck.up.yoke = x.up.yoke ∧ x.scrubAgain.phaseCheck.up.failedYoke = x.up.failedYoke ∧
    x.scrubAgain.phaseCheck.up.yokeOnly = x.up.yokeOnly ∧ x.scrubAgain.phaseCheck.up.rebuildMode = x.up.rebuildMode ∧
    x.scrubAgain.phaseCheck.up.step = 11 ∧ x.scrubAgain.phaseCheck.wafer = x.wafer ∧
    ∀ i j, x.scrubAgain.phaseCheck.setting i j = x.setting i j := by
  obtain ⟨ph, h, hx⟩ := x.scrubAgain.phaseCheck_eq
  rw [hx]
  exact ⟨rfl, rfl, rfl, rfl, rfl, rfl, fun _ _ => rfl⟩

theorem State.domainsBegin_outcome (x : State) : x.domainsBegin.up.yoke = x.up.yoke ∧ x.domainsBegin.up.failedYoke = x.up.failedYoke ∧
    x.domainsBegin.up.yokeOnly = x.up.yokeOnly ∧ x.domainsBegin.up.rebuildMode = x.up.rebuildMode ∧ x.domainsBegin.up.phase = .domains ∧
    x.domainsBegin.up.step = 10 ∧ x.domainsBegin.wafer.mode = 0 ∧ x.domainsBegin.wafer.epoch = 0 ∧ x.domainsBegin.wafer.skip = x.wafer.skip ∧
    (∀ p, (x.domainsBegin.wafer.panelOf p).mode = .active) ∧ ∀ i j, x.domainsBegin.setting i j = x.setting i j :=
  ⟨rfl, rfl, rfl, rfl, rfl, rfl, rfl, rfl, rfl, fun _ => rfl, fun _ _ => rfl⟩

/-- What a passed self-test leads to (R386, R399, R416). -/
def State.selfTested (s : State) : State :=
  if s.up.yokeOnly && !s.domainsIdle then s.yokeRuns.scrubAgain.phaseCheck else s.yokeRuns.domainsBegin

theorem State.selfTested_outcome (s : State) : s.selfTested.up.yoke = true ∧ s.selfTested.up.failedYoke = 0 ∧ s.selfTested.up.yokeOnly = false ∧
    s.selfTested.up.rebuildMode = s.selfTested.setting 0x2002 0 ∧
    (s.up.yokeOnly = true → s.domainsIdle = false → s.selfTested.up.step = 11 ∧ s.selfTested.wafer = s.wafer) ∧
    (s.up.yokeOnly = false ∨ s.domainsIdle = true → s.selfTested.up.phase = .domains ∧ s.selfTested.up.step = 10 ∧ s.selfTested.wafer.mode = 0 ∧
      s.selfTested.wafer.epoch = 0 ∧ s.selfTested.wafer.skip = s.wafer.skip ∧ ∀ p, (s.selfTested.wafer.panelOf p).mode = .active) := by
  obtain ⟨h1, h2, h3, h4, h5⟩ := s.yokeRuns_outcome
  cases hc : s.up.yokeOnly && !s.domainsIdle with
  | true =>
    have he : s.selfTested = s.yokeRuns.scrubAgain.phaseCheck := if_pos hc
    obtain ⟨k1, k2, k3, k4, k5, k6, k7⟩ := s.yokeRuns.scrubAgain_outcome
    rw [he, k1, k2, k3, k4, k5, k6, k7]
    refine ⟨h1, h2, h3, h4, fun _ _ => ⟨rfl, h5⟩, fun h => ?_⟩
    rcases h with h | h <;> simp [h] at hc
  | false =>
    have he : s.selfTested = s.yokeRuns.domainsBegin := if_neg (by rw [hc]; decide)
    obtain ⟨k1, k2, k3, k4, k5, k6, k7, k8, k9, k10, k11⟩ := s.yokeRuns.domainsBegin_outcome
    rw [he, k1, k2, k3, k4, k11]
    refine ⟨h1, h2, h3, h4, fun ho hi => ?_, fun _ => ⟨k5, k6, k7, k8, by rw [k9, h5], k10⟩⟩
    rw [ho, hi] at hc
    cases hc

theorem State.selfTested_step (s : State) : Step (maskOf (fallFields ++ ([.beat, .injection, .fw, .fresh] : List Field))) s s.selfTested :=
  Step.ite (fun _ => State.phaseCheck_step (State.scrubAgain_step (State.yokeRuns_step (Step.refl _ s) (by decide)) (by decide)) (by decide))
    fun _ => State.domainsBegin_step (State.yokeRuns_step (Step.refl _ s) (by decide)) (by decide)

/-! ### Segments and panels of step 11 -/

theorem State.phaseCheck_same (x : State) : x.phaseCheck.now = x.now ∧ x.phaseCheck.det = x.det ∧ x.phaseCheck.can = x.can ∧
    x.phaseCheck.power = x.power ∧ x.phaseCheck.wafer = x.wafer ∧ x.phaseCheck.dram = x.dram ∧ ∀ g, x.phaseCheck.segOfUp g = x.segOfUp g := by
  obtain ⟨ph, h, hx⟩ := x.phaseCheck_eq
  rw [hx]
  exact ⟨rfl, rfl, rfl, rfl, rfl, rfl, fun _ => rfl⟩

theorem State.segOfUp_setSegUp (x : State) (g : Nat) (v : SegBring) : (x.setSegUp g v).segOfUp g = v := by
  unfold State.segOfUp State.setSegUp
  exact Tab.get_set_same ..

theorem State.segOfUp_congr (h : t.up = x.up) (g : Nat) : t.segOfUp g = x.segOfUp g := by
  unfold State.segOfUp
  rw [h]

/-- A segment's bring-up ends without its DRAM (R394, R398). -/
theorem State.segFailed_outcome (hdet : x.det = s.det) (hk : s.keepsEmcy → x.keepsEmcy) (g : Nat) (v : SegBring) (st : Nat) :
    let u := (x.segFailed g v st).phaseCheck
    u.now = x.now ∧ (u.segOfUp g).st = st ∧ s.firedMore u 0x0C38 ∧ s.hasRaised u 0xFF02 0x0C38 := by
  obtain ⟨y, hy⟩ : ∃ y, y = (x.setSegUp g { v with st := st }).fire 0x0C38 g 0 := ⟨_, rfl⟩
  have hx : x.segFailed g v st = y.stepFailed 11 g 0x0C38 := by
    rw [hy]
    rfl
  obtain ⟨k1, -, -, k4, -⟩ := State.stepFailed_same y 11 g 0x0C38
  obtain ⟨h1, h2, h3, -, -, -, h7⟩ := State.phaseCheck_same (x.segFailed g v st)
  rw [hx] at h1 h2 h3 h7
  have hf : s.firedMore y 0x0C38 := by
    rw [hy]
    exact State.firedMore_fire (show (x.setSegUp g { v with st := st }).det = s.det from hdet) ..
  have hke : s.keepsEmcy → y.keepsEmcy := fun h => by
    rw [hy]
    exact State.fire_keepsEmcy.2 ((State.keepsEmcy_congr (s := x) rfl rfl).2 (hk h))
  rw [hx]
  refine ⟨h1.trans (k4.trans ?_), ?_, State.firedMore_congr (State.stepFailed_fires hf (by decide)) h2,
    State.hasRaised_of_within (State.raisedWithin_congr (State.stepFailed_raises hke 11 g 0x0C38) h3)⟩
  · rw [hy, State.fire_now]
    rfl
  · rw [h7, State.segOfUp_congr k1, hy, State.segOfUp_congr (State.fire_up ..), State.segOfUp_setSegUp]

/-- A training attempt that fails: another, or the third has failed (R394). -/
theorem State.trainingFails_outcome (hdet : x.det = s.det) (hk : s.keepsEmcy → x.keepsEmcy) {g : Nat} (hseg : x.segOfUp g = s.segOfUp g) :
    let u := (x.trainingDone g false).phaseCheck
    u.now = x.now ∧ ((s.segOfUp g).attempts + 1 < 3 → u.segOfUp g = ⟨1, (s.segOfUp g).attempts + 1, 0, x.now⟩) ∧
      (3 ≤ (s.segOfUp g).attempts + 1 → (u.segOfUp g).st = 4 ∧ s.firedMore u 0x0C38 ∧ s.hasRaised u 0xFF02 0x0C38) := by
  rcases Nat.lt_or_ge ((s.segOfUp g).attempts + 1) 3 with h | h
  · have hx : x.trainingDone g false = x.setSegUp g ⟨1, (s.segOfUp g).attempts + 1, 0, x.now⟩ := by
      unfold State.trainingDone
      rw [hseg]
      exact if_pos h
    obtain ⟨h1, -, -, -, -, -, h7⟩ := State.phaseCheck_same (x.trainingDone g false)
    exact ⟨h1.trans (by rw [hx]; rfl), fun _ => by rw [h7, hx, State.segOfUp_setSegUp], fun h' => absurd h (by omega)⟩
  · have hx : x.trainingDone g false = x.segFailed g { s.segOfUp g with attempts := 3 } 4 := by
      unfold State.trainingDone
      rw [hseg]
      exact if_neg (show ¬ (s.segOfUp g).attempts + 1 < 3 by omega)
    rw [hx]
    obtain ⟨k1, k2⟩ := State.segFailed_outcome hdet hk g { s.segOfUp g with attempts := 3 } 4
    exact ⟨k1, fun h' => absurd h (by omega), fun _ => k2⟩

theorem bit_setBit_same (v i : Nat) : bit (setBit v i) i = true := by
  unfold setBit
  split
  · next h => exact h
  · next h =>
    have h0 : v / 2 ^ i % 2 = 0 := by simpa [bit] using h
    simp [bit, Nat.add_div_right _ (Nat.two_pow_pos i)]
    omega

/-- A panel's PLL that has not locked (R392). -/
theorem State.pllFailed_outcome (hk : s.keepsEmcy → x.keepsEmcy) (p : Nat) : (x.pllFailed p).now = x.now ∧ ((x.pllFailed p).panelPower p).pll = false ∧
    bit ((x.pllFailed p).panelUp p) 17 = true ∧ (x.pllFailed p).up.ended.get false p = true ∧ s.hasRaised (x.pllFailed p) 0xFF02 0 := by
  obtain ⟨y, hy⟩ : ∃ y, y = (x.setPanelPower p { x.panelPower p with pll := false }).panelMark p 17 := ⟨_, rfl⟩
  have hx : x.pllFailed p = y.stepFailed 11 p 0 := by
    rw [hy]
    rfl
  obtain ⟨k1, k2, -, k4, -⟩ := State.stepFailed_same y 11 p 0
  have hke : s.keepsEmcy → y.keepsEmcy := fun h => by
    rw [hy]
    exact (State.keepsEmcy_congr (s := x) rfl rfl).2 (hk h)
  rw [hx]
  refine ⟨k4.trans (by rw [hy]; rfl), ?_, ?_, ?_, State.hasRaised_of_within (State.stepFailed_raises hke 11 p 0)⟩
  · unfold State.panelPower
    rw [k2, hy]
    exact congrArg PanelPower.pll (Tab.get_set_same ..)
  · unfold State.panelUp
    rw [k1, hy]
    unfold State.panelMark
    dsimp only
    rw [Tab.get_set_same]
    exact bit_setBit_same ..
  · rw [k1, hy]
    exact Tab.get_set_same ..

/-- A limit passed is reported once. -/
theorem State.limitPassed_outcome (hup : x.up = s.up) (hk : s.keepsEmcy → x.keepsEmcy) (key step unit : Nat) :
    (x.limitPassed key step unit).now = x.now ∧ (x.limitPassed key step unit).up = { s.up with late := key :: s.up.late } ∧
      s.hasRaised (x.limitPassed key step unit) 0xFF02 0 := by
  obtain ⟨y, hy⟩ : ∃ y : State, y = { x with up := { x.up with late := key :: x.up.late } } := ⟨_, rfl⟩
  have hx : x.limitPassed key step unit = y.stepFailed step unit 0 := by
    rw [hy]
    rfl
  obtain ⟨k1, -, -, k4, -⟩ := State.stepFailed_same y step unit 0
  have hke : s.keepsEmcy → y.keepsEmcy := fun h => by
    rw [hy]
    exact (State.keepsEmcy_congr (s := x) rfl rfl).2 (hk h)
  rw [hx]
  exact ⟨k4.trans (by rw [hy]), k1.trans (by rw [hy, hup]), State.hasRaised_of_within (State.stepFailed_raises hke step unit 0)⟩

/-- The limit of a step for which R398 gives no outcome, once and again. -/
theorem State.limitReports {c : Instr} {key at_ step unit : Nat}
    (hx : exec c s = whenSettled (!s.up.late.contains key) s ((s.advanceTo at_).limitPassed key step unit)) :
    (key ∈ s.up.late → exec c s = .next s) ∧ (key ∉ s.up.late → settles c s (reportFields ++ ([.now] : List Field)) fun u => u.now = max s.now at_ ∧
      u.up = { s.up with late := key :: s.up.late } ∧ s.hasRaised u 0xFF02 0) := by
  refine ⟨fun h => hx.trans (whenSettled_false (by simp [h]) _ _), fun h => ?_⟩
  exact settles_step (hx.trans (whenSettled_true (by simp [h]) _ _)) (State.limitPassed_step (State.advanceTo_step (Step.refl _ s) (by decide)) (by decide))
    (State.limitPassed_outcome (s := s) (x := s.advanceTo at_) rfl (fun h => h) key step unit)

/-- Steps 1 to 5 pass their limits at instants of their own. -/
theorem exec_startLimit {n at_ : Nat} (unit : Nat) (hn : n ≤ 5) (hl : s.startLimit n = some at_) : exec (.startupStepTimeout n unit) s =
    whenSettled (!s.up.late.contains (n * 256 + unit)) s ((s.advanceTo at_).limitPassed (n * 256 + unit) n 0xFFFF) := by
  unfold exec execStartupStepTimeout
  dsimp only
  rw [if_neg (by omega), if_neg (by omega), if_neg (by omega), if_neg (by omega), if_neg (by omega), if_neg (by omega)]
  simp only [hl]

theorem State.starting_of {n : Nat} (h1 : s.up.inReset = false) (h2 : s.up.collar = false) (h3 : s.up.step = n) : s.starting n = true := by
  simp [State.starting, h1, h2, h3]

/-- Step 7 passes its limit. -/
theorem State.rampLate_outcome (hr : (s.domainOf 0).st = .ramping) (n : Nat) :
    let u := (((s.advanceTo n).domainOff 0).stepFailed 7 0 0).yokeStartFailed
    u.now = max s.now n ∧ s.hasRaised u 0xFF02 0 ∧ (u.domainOf 0).st = .off ∧ s.attemptFails u := by
  obtain ⟨y, hy⟩ : ∃ y, y = (s.advanceTo n).domainOff 0 := ⟨_, rfl⟩
  have hoff : y = (s.advanceTo n).setDomain 0 ⟨.off, false, 0⟩ := by
    rw [hy]
    unfold State.domainOff
    exact if_neg (by rw [show ((s.advanceTo n).domainOf 0).st = (s.domainOf 0).st from rfl, hr]; decide)
  have hup : y.up = s.up := by rw [hoff]; rfl
  have hset : ∀ i j, y.setting i j = s.setting i j := fun i j => by rw [hoff]; rfl
  have hdom : (y.domainOf 0).st = .off := by
    rw [hoff]
    exact congrArg Domain.st ((s.advanceTo n).domainTakes_set 0 ⟨.off, false, 0⟩ (t := (s.advanceTo n).setDomain 0 ⟨.off, false, 0⟩) rfl).1
  have hnow : y.now = max s.now n := by rw [hoff]; rfl
  obtain ⟨k1, k2, -, k4, -⟩ := State.stepFailed_same y 7 0 0
  obtain ⟨h1, -, h3, -, -⟩ := State.yokeStartFailed_same (y.stepFailed 7 0 0)
  have hk : s.keepsEmcy → y.keepsEmcy := (State.keepsEmcy_congr (by rw [hup]) (hset _ _)).2
  rw [← hy]
  refine ⟨h3.trans (k4.trans hnow), State.hasRaised_of_within (State.raisedWithin_congr (State.stepFailed_raises hk 7 0 0) h1), ?_, ?_⟩
  · have hf := State.yokeStartFailed_domains (s := y) (congrArg Power.domains k2) 0
    rw [hdom] at hf
    exact hf
  · refine State.yokeStartFailed_attempt ?_ (by rw [k1, hup])
    rw [State.stepFailed_setting (by decide) (by unfold reportCell; decide), hset]

end

end Sys2Proof.Machine

namespace Sys2Proof.Proofs

open Sys2Proof.Machine

/-- Settles O54, step by step, by what a failed step reports and what a failed start leaves. -/
theorem yokeStart : Obligations.YokeStart := by
  refine ⟨fun s t ht hp => ⟨fun h => ?_, fun h1 h2 h3 h4 h5 h6 => ?_⟩, fun s hs hr => ⟨?_, fun n => ?_⟩, fun s n hc hp hd => ⟨?_, ?_⟩, ?_, ?_, ?_, ?_⟩
  · unfold exec execMainInputQualified
    simp only [ht]
    refine whenDue_false ?_ _ _
    rcases h with h | h | h <;> simp [h]
  · have hx : exec .mainInputQualified s = .next (s.advanceTo (max t s.up.stepAt + 100 * psMs)).yokeStart := by
      unfold exec execMainInputQualified
      simp only [ht]
      exact whenDue_true (by simp [hp, h1, h2, h3, h4, h5, h6]) _ _
    obtain ⟨k1, k2, k3⟩ := (s.advanceTo (max t s.up.stepAt + 100 * psMs)).yokeStart_outcome
    exact completes_step hx (State.yokeStart_step (State.advanceTo_step (Step.refl _ s) (by decide)) (by decide))
      ⟨k1, by rw [k1]; exact k2, by rw [k3], by rw [k3]⟩
  · exact completes_step (whenDue_true (by simp [hs, hr]) _ _) (State.domainGood_step (Step.refl _ s) (by decide)) s.domainGood_zero
  · have hx : exec (.startupStepTimeout 7 n) s = .next (State.settle s
        (((s.advanceTo ((s.domainOf 0).rampAt + 2 * psMs)).domainOff 0).stepFailed 7 0 0).yokeStartFailed) :=
      whenSettled_true (by simp [hs, hr]) _ _
    exact settles_step hx (State.yokeStartFailed_step (State.stepFailed_step (State.domainOff_step (State.advanceTo_step (Step.refl _ s) (by decide))
      (by decide)) (by decide)) (by decide)) (State.rampLate_outcome hr _)
  · intro hs
    have hstep := State.yokeStep_of hc hp hs hd
    refine ⟨fun ok hl => ?_, fun hl => ?_, fun hl => ?_, fun hl => ?_, fun hl => ?_⟩
    · refine whenSettled_false ?_ _ _
      rw [Bool.and_eq_false_iff, ← Bool.not_eq_true (s.inLimit 8), State.inLimit_eight]
      exact .inr (not_not.mpr hl)
    · have hx := whenSettled_true (c := s.yokeStep 8 && s.inLimit 8) (by rw [hstep, s.inLimit_eight.2 hl]; rfl)
      exact settles_step (hx s _) (Step.put (F := 9007199254740992) (Step.refl _ s) (by decide) rfl fun v => ⟨v.1, v.2, v.3, v.4, v.5, v.6, v.7⟩) ⟨rfl, rfl⟩
    · have hx := whenSettled_true (c := s.yokeStep 8 && s.inLimit 8) (by rw [hstep, s.inLimit_eight.2 hl]; rfl)
      refine settles_step (u := s.hashBad.yokeStartBad 8 0x0C33) (hx s _) (State.yokeStartBad_step (State.fire_step ?_ (by decide)) (by decide))
        (State.hashBad_outcome hd)
      exact Step.put (F := 36028797018963968) (Step.refl _ s) (by decide) rfl fun v => ⟨v.1, v.2, v.3, v.4, v.5, v.6, v.7⟩
    · exact whenSettled_false (by rw [hl]; simp) _ _
    · have hx := whenSettled_true (c := s.yokeStep 8 && !(s.up.slowSpi && 8 == 8)) (by rw [hstep, hl]; rfl)
      exact settles_step (hx s _) (State.yokeStartBad_step (State.advanceTo_step (Step.refl _ s) (by decide)) (by decide))
        (State.startLate_fails hd _ _).symm
  · intro hs
    have hstep := State.yokeStep_of hc hp hs hd
    refine ⟨fun ok hl => ?_, fun hl => ?_, fun hl => ?_, ?_⟩
    · refine whenSettled_false ?_ _ _
      rw [Bool.and_eq_false_iff, ← Bool.not_eq_true (s.inLimit 9), State.inLimit_nine]
      exact .inr (not_not.mpr hl)
    · have hx := whenSettled_true (c := s.yokeStep 9 && s.inLimit 9) (by rw [hstep, s.inLimit_nine.2 hl]; rfl)
      exact settles_step (hx s _) (State.yokeStartBad_step (Step.refl _ s) (by decide))
        (State.yokeStartBad_fails (s := s) (x := s) (by decide) rfl rfl rfl rfl rfl (fun _ _ => rfl) rfl rfl rfl rfl (by rw [hd]; decide) 9)
    · have hx : exec (.yokeSelfTest true) s = .next (State.settle s s.selfTested) :=
        whenSettled_true (c := s.yokeStep 9 && s.inLimit 9) (by rw [hstep, s.inLimit_nine.2 hl]; rfl) s _
      exact settles_step hx s.selfTested_step s.selfTested_outcome
    · have hx := whenSettled_true (c := s.yokeStep 9 && !(s.up.slowSpi && 9 == 8)) (by rw [hstep]; simp)
      exact settles_step (hx s _) (State.yokeStartBad_step (State.advanceTo_step (Step.refl _ s) (by decide)) (by decide))
        (State.startLate_fails hd _ _).symm
  · intro s t ht hc hoff hp hin hosc
    have hx : exec .yokeStartRetry s = .next (s.advanceTo t).yokeStart := by
      unfold exec execYokeStartRetry
      simp only [ht]
      refine whenDue_true ?_ _ _
      rcases hin with h | h <;> simp [hc, hoff, hp, hosc, State.inputAllows, h]
    obtain ⟨k1, k2, k3⟩ := (s.advanceTo t).yokeStart_outcome
    exact completes_step hx (State.yokeStart_step (State.advanceTo_step (Step.refl _ s) (by decide)) (by decide))
      ⟨k1, by rw [k1]; exact k2, by rw [k3], by rw [k3], by rw [k3], by rw [k3]; rfl⟩
  · intro s g hy hd
    refine ⟨fun h1 => ?_, fun h2 => ?_⟩
    · have hx : exec (.startupStepTimeout 11 g.val) s = .next (State.settle s
          ((s.advanceTo ((s.segOfUp g.val).since + 50 * psMs)).trainingDone g.val false).phaseCheck) := by
        refine (if_pos h1).trans (whenSettled_true ?_ _ _)
        simp [hy, hd]
      exact settles_step hx (State.phaseCheck_step (State.trainingDone_step (State.advanceTo_step (Step.refl _ s) (by decide)) (by decide)) (by decide))
        (by
          obtain ⟨k1, k2, k3⟩ := State.trainingFails_outcome (s := s) (x := s.advanceTo ((s.segOfUp g.val).since + 50 * psMs)) rfl (fun h => h) (g := g.val) rfl
          exact ⟨k1, fun h => by rw [k1]; exact k2 h, k3⟩)
    · have hx : exec (.startupStepTimeout 11 g.val) s = .next (State.settle s
          ((s.advanceTo ((s.segOfUp g.val).since + 600 * psMs)).segFailed g.val { s.segOfUp g.val with scrubMs := 600 } 5).phaseCheck) := by
        refine (if_neg (by rw [h2]; decide)).trans (whenSettled_true ?_ _ _)
        simp [hy, hd, h2]
      exact settles_step hx (State.phaseCheck_step (State.segFailed_step (State.advanceTo_step (Step.refl _ s) (by decide)) (by decide)) (by decide))
        (State.segFailed_outcome (s := s) (x := s.advanceTo ((s.segOfUp g.val).since + 600 * psMs)) rfl (fun h => h) ..)
  · intro s p hp
    have hx : exec (.startupStepTimeout 12 p.val) s = .next (State.settle s ((s.advanceTo (s.up.panelAt.get 0 p.val + 10 * psMs)).pllFailed p.val)) :=
      whenSettled_true (by simp [hp]) _ _
    exact settles_step hx (State.pllFailed_step (State.advanceTo_step (Step.refl _ s) (by decide)) (by decide))
      (State.pllFailed_outcome (s := s) (x := s.advanceTo (s.up.panelAt.get 0 p.val + 10 * psMs)) (fun h => h) p.val)
  · intro s n unit
    refine ⟨fun t hn hs ht => ?_, fun hn hs => ?_, fun hn hs => ?_, fun hn hs hslow => ?_, fun hn hs hslow => ?_, fun hn hr => ?_, fun hn hy hb he => ?_,
      fun hn hu hy hd hh => ?_⟩
    · subst hn
      exact State.limitReports (exec_startLimit unit (by decide) (by unfold State.startLimit; simp [hs, ht, stepMs]))
    · subst hn
      exact State.limitReports (exec_startLimit unit (by decide) (by
        unfold State.startLimit
        simp [State.starting_of (n := 2) hs.1 hs.2.1 hs.2.2, stepMs]))
    · subst hn
      exact State.limitReports (exec_startLimit unit (by decide) (by
        unfold State.startLimit
        simp [State.starting_of (n := 5) hs.1 hs.2.1 hs.2.2, stepMs]))
    · subst hn
      exact State.limitReports (exec_startLimit unit (by decide) (by
        unfold State.startLimit
        simp [State.starting_of (n := 3) hs.1 hs.2.1 hs.2.2, hslow, stepMs]))
    · subst hn
      exact State.limitReports (exec_startLimit unit (by decide) (by
        unfold State.startLimit
        simp [State.starting_of (n := 3) hs.1 hs.2.1 hs.2.2, hslow, stepMs]))
    · subst hn
      refine State.limitReports (step := 10) (unit := 0xFFFF) ?_
      show whenSettled (!s.up.late.contains (10 * 256 + unit) && s.domainsRun) s _ = _
      rw [hr, Bool.and_true]
      rfl
    · subst hn
      refine State.limitReports (step := 11) (unit := 0xFFFF) ?_
      show whenSettled (!s.up.late.contains (13 * 256 + unit) && s.up.yoke && !s.up.built && allPanels.all fun p => s.up.ended.get false p) s _ = _
      have ha : (allPanels.all fun p => s.up.ended.get false p) = true := List.all_eq_true.2 fun p hp => he p (List.mem_range.1 hp)
      rw [hy, hb, ha]
      simp
    · subst hn
      refine State.limitReports (step := 11) (unit := 17 + unit) ?_
      show whenSettled (!s.up.late.contains (14 * 256 + unit) && decide (unit < 2) && s.up.yoke && (s.domainOf (17 + unit)).st == .on &&
        !(s.host (fnOf unit)).up) s (s.limitPassed (14 * 256 + unit) 11 (17 + unit)) = _
      have hnow : s.advanceTo s.now = s := by
        unfold State.advanceTo
        rw [Nat.max_self]
      rw [hnow, hy, hh, hd, decide_eq_true hu]
      simp

end Sys2Proof.Proofs
end

section
/-! The grid rebuilt (R36, R38, R393, R409), the domains of panels outside it, and domains that begin to ramp (R354, R391). -/

namespace Sys2Proof.Machine

/-! ### Tables and memory -/

theorem findCell_filter {α : Type} (f : Nat → Bool) (k : Nat) (l : List (Nat × α)) :
    findCell k (l.filter fun c => f c.1) = if f k then findCell k l else none := by
  induction l with
  | nil => simp [findCell]
  | cons c r ih =>
    obtain ⟨j, v⟩ := c
    by_cases hj : j = k
    · subst hj
      cases hf : f j <;> simp [hf, findCell, ih]
    · cases hf : f j <;> simp [hf, findCell, hj, ih]

theorem Tab.find_keepKey {α : Type} (t : Tab α) (f : Nat → Bool) (k : Nat) :
    (t.keep fun k _ => f k).find k = if f k then t.find k else none := findCell_filter f k t.cells

theorem Tab.get_keepKey {α : Type} (t : Tab α) (f : Nat → Bool) (d : α) (k : Nat) :
    (t.keep fun k _ => f k).get d k = if f k then t.get d k else d := by
  unfold Tab.get
  rw [Tab.find_keepKey]
  cases f k <;> rfl

theorem Memory.read_wipe (m : Memory) (lo hi a : Nat) : (m.wipe lo hi).read a = if lo ≤ a ∧ a < hi then 0#8 else m.read a := by
  unfold Memory.read Memory.wipe
  rw [findCell_filter (fun k => decide (k < lo) || decide (hi ≤ k))]
  by_cases h : lo ≤ a ∧ a < hi
  · rw [if_neg (by simp; omega), if_pos h]
    rfl
  · rw [if_pos (by simp; omega), if_neg h]

/-- A table whose cells for the members of a list are set, each once. -/
theorem Tab.get_foldl_setAll {α : Type} (f : Nat → α) (d : α) (p : Nat) (l : List Nat) (t : Tab α) :
    (l.foldl (fun t q => t.set q (f q)) t).get d p = if p ∈ l then f p else t.get d p := by
  induction l generalizing t with
  | nil => rfl
  | cons a r ih =>
    rw [List.foldl_cons, ih]
    by_cases hp : p ∈ r
    · rw [if_pos hp, if_pos (List.mem_cons_of_mem _ hp)]
    · by_cases ha : p = a
      · subst ha
        rw [if_neg hp, if_pos List.mem_cons_self, Tab.get_set_same]
      · rw [if_neg hp, if_neg (by simp [ha, hp]), Tab.get_set_other _ _ _ ha]

/-! ### The rebuilt grid -/

section

variable {w : Wafer} {m p : Nat} {lost : Nat → Bool}

/-- A panel in the grid's rectangle outside its rows or columns of sound panels, by the mode (R36). -/
def leftOut (m : Nat) (lost : Nat → Prop) (p : Nat) : Prop :=
  (m = 1 ∧ ∃ y, y < 8 ∧ lost (y * 8 + p % 8)) ∨ (m = 2 ∧ ∃ x, x < 8 ∧ lost (p / 8 * 8 + x))

/-- Every panel takes its mode. -/
theorem Wafer.rebuilt_modes (hp : p < 64) : (lost p = true → ((w.rebuilt m lost).panelOf p).mode = .lost) ∧
    (lost p = false → leftOut m (fun q => lost q = true) p → ((w.rebuilt m lost).panelOf p).mode = .removed) ∧
    (lost p = false → ¬ leftOut m (fun q => lost q = true) p → ((w.rebuilt m lost).panelOf p).mode = .active) := by
  obtain ⟨out, hout⟩ : ∃ out : Nat → Bool, out = fun p => if m = 1 then (List.range 8).any fun y => lost (y * 8 + panelX p)
    else if m = 2 then (List.range 8).any fun x => lost (panelY p * 8 + x) else false := ⟨_, rfl⟩
  have hfold : (w.rebuilt m lost).panel = allPanels.foldl (fun t q => t.set q
      (if lost q then ⟨.lost, false⟩ else if out q then ⟨.removed, (w.panelOf q).resetting⟩ else ⟨.active, (w.panelOf q).resetting⟩)) w.panel := by
    rw [hout]
    unfold Wafer.rebuilt
    dsimp only
    congr 1
    funext t q
    split_ifs <;> rfl
  have hget : (w.rebuilt m lost).panelOf p =
      (if lost p then ⟨.lost, false⟩ else if out p then ⟨.removed, (w.panelOf p).resetting⟩ else ⟨.active, (w.panelOf p).resetting⟩) := by
    rw [show (w.rebuilt m lost).panelOf p = (w.rebuilt m lost).panel.get ⟨.active, false⟩ p from rfl, hfold, Tab.get_foldl_setAll,
      if_pos (show p ∈ allPanels from List.mem_range.2 hp)]
  have hiff : out p = true ↔ leftOut m (fun q => lost q = true) p := by
    rw [hout]
    unfold leftOut panelX panelY
    dsimp only
    by_cases h1 : m = 1
    · simp [h1]
    · by_cases h2 : m = 2
      · simp [h2]
      · simp [h1, h2]
  rw [hget, ← hiff]
  refine ⟨fun h => by rw [if_pos h], fun h ho => by rw [h, ho]; rfl, fun h ho => ?_⟩
  rw [h, (Bool.not_eq_true _).mp ho]
  rfl

end

/-! ### Domains of panels outside the grid -/

section

variable {s x : State} {d e p q : Nat}

theorem State.domainOf_setDomain (s : State) (d e : Nat) (v : Domain) : (s.setDomain d v).domainOf e = if e = d then v else s.domainOf e := by
  unfold State.domainOf State.setDomain
  split
  · next h => rw [h]; exact Tab.get_set_same ..
  · next h => exact Tab.get_set_other _ _ _ h

/-- The domain is OFF, or stays latched off. -/
def State.isOff (s : State) (d : Nat) : Prop := (s.domainOf d).st = .off ∨ (s.domainOf d).st = .latchedOff

theorem State.domainOff_isOff (s : State) (d : Nat) : (s.domainOff d).isOff d := by
  unfold State.domainOff State.isOff
  dsimp only
  split
  · next h => exact .inr (by rw [State.domainOf_setDomain, if_pos rfl]; exact h)
  · exact .inl (by rw [State.domainOf_setDomain, if_pos rfl])

theorem State.domainOff_keepsOff (h : s.isOff d) (e : Nat) : (s.domainOff e).isOff d := by
  by_cases hd : d = e
  · subst hd
    exact s.domainOff_isOff d
  · have hk : (s.domainOff e).domainOf d = s.domainOf d := by
      unfold State.domainOff
      dsimp only
      split <;> rw [State.domainOf_setDomain, if_neg hd]
    unfold State.isOff
    rw [hk]
    exact h

/-- What a panel outside the grid has left: nothing in its stores, its domains off. -/
def State.fellAt (t : State) (p : Nat) : Prop := t.contentsLost p ∧ t.isOff (coreDomain p) ∧ t.isOff (memDomain p)

theorem State.isOff_congr {t : State} (h : t.power.domains = s.power.domains) (hd : s.isOff d) : t.isOff d := by
  unfold State.isOff at *
  rw [State.domainOf_congr h]
  exact hd

/-- Both domains of a panel are switched off. -/
def State.panelOff (s : State) (p : Nat) : State := (s.domainOff (coreDomain p)).domainOff (memDomain p)

theorem State.panelOff_isOff (s : State) (p : Nat) : (s.panelOff p).isOff (coreDomain p) ∧ (s.panelOff p).isOff (memDomain p) :=
  ⟨State.domainOff_keepsOff (State.domainOff_isOff ..) _, State.domainOff_isOff ..⟩

theorem State.panelOff_keepsOff (h : s.isOff d) (p : Nat) : (s.panelOff p).isOff d := State.domainOff_keepsOff (State.domainOff_keepsOff h _) _

theorem State.domainOff_panelPower (s : State) (d p : Nat) : (s.domainOff d).panelPower p = s.panelPower p := by
  unfold State.domainOff
  dsimp only
  split <;> rfl

theorem State.panelOff_same (s : State) (p : Nat) : (s.panelOff p).tiles = s.tiles ∧ ∀ q, (s.panelOff p).panelPower q = s.panelPower q :=
  ⟨(State.domainOff_step (State.domainOff_step (Step.refl 4503599627370496 s) (by decide)) (by decide)).tiles (by decide),
    fun q => (State.domainOff_panelPower ..).trans (State.domainOff_panelPower ..)⟩

theorem State.panelFell_eq (s : State) (p : Nat) : ∃ v : PanelPower, v.pll = false ∧ s.panelFell p = ((s.panelOff p).clearPanel p).setPanelPower p v :=
  ⟨((s.panelOff p).panelPower p).unpowered, rfl, rfl⟩

theorem State.fellAt_clear (x : State) (p : Nat) {v : PanelPower} (hv : v.pll = false) (h : x.isOff (coreDomain p) ∧ x.isOff (memDomain p)) :
    ((x.clearPanel p).setPanelPower p v).fellAt p := by
  refine ⟨⟨by rw [State.panelPower_set_same, hv], fun k hk st l => ?_⟩, State.isOff_congr rfl h.1, State.isOff_congr rfl h.2⟩
  exact (x.tilesCleared_clearPanel p).1 k hk st l

theorem State.fellAt_keeps (h : x.fellAt p) (hq : p ≠ q) (v : PanelPower) : ((x.clearPanel q).setPanelPower q v).fellAt p := by
  obtain ⟨⟨hpll, htiles⟩, hcore, hmem⟩ := h
  refine ⟨⟨by rw [State.panelPower_set_other _ hq]; exact hpll, fun k hk st l => ?_⟩, State.isOff_congr rfl hcore, State.isOff_congr rfl hmem⟩
  have hc := (x.tilesCleared_clearPanel q).2 k (by omega)
  have ht : ((x.clearPanel q).setPanelPower q v).tileOf k = x.tileOf k := hc
  rw [ht]
  exact htiles k hk st l

theorem State.panelFell_fellAt (s : State) (p : Nat) : (s.panelFell p).fellAt p := by
  obtain ⟨v, hv, hx⟩ := s.panelFell_eq p
  rw [hx]
  exact State.fellAt_clear _ p hv (s.panelOff_isOff p)

theorem State.panelFell_keeps (h : s.fellAt p) (q : Nat) : (s.panelFell q).fellAt p := by
  by_cases hq : p = q
  · subst hq
    exact s.panelFell_fellAt p
  · obtain ⟨v, -, hx⟩ := s.panelFell_eq q
    obtain ⟨⟨hpll, htiles⟩, hcore, hmem⟩ := h
    obtain ⟨ht, hp⟩ := s.panelOff_same q
    rw [hx]
    refine State.fellAt_keeps ⟨⟨by rw [hp]; exact hpll, fun k hk st l => ?_⟩, State.panelOff_keepsOff hcore q, State.panelOff_keepsOff hmem q⟩ hq v
    unfold State.tileOf
    rw [ht]
    exact htiles k hk st l

/-- After the rebuild's switching off, every panel outside the grid has fallen. -/
theorem State.lostDomainsOff_fellAt (s : State) (hp : p < 64) (hm : (s.wafer.panelOf p).mode ≠ .active) : s.lostDomainsOff.fellAt p := by
  have hl : p ∈ allPanels.filter fun p => (s.wafer.panelOf p).mode != .active :=
    List.mem_filter.2 ⟨List.mem_range.2 hp, by simpa using hm⟩
  exact each_removes (gone := fun t p => t.fellAt p) State.panelFell_fellAt (fun u k i h => State.panelFell_keeps h k) _ s p (.inl hl)

theorem State.lostDomainsOff_wafer (s : State) : s.lostDomainsOff.wafer = s.wafer :=
  (State.lostDomainsOff_step (Step.refl 4503737066323968 s) (by decide)).wafer (by decide)

/-- The grid rebuilt, and the domains of what is outside it off. -/
theorem State.lostDomainsOff_rebuilt {w : Wafer} {m : Nat} {lost : Nat → Bool} (hw : s.wafer.panel = (w.rebuilt m lost).panel) :
    s.lostDomainsOff.rebuiltAs m fun q => lost q = true := by
  intro p hp
  have hpan : s.lostDomainsOff.wafer.panelOf p = (w.rebuilt m lost).panelOf p := by
    unfold Wafer.panelOf
    rw [State.lostDomainsOff_wafer, hw]
  have hs : s.wafer.panelOf p = (w.rebuilt m lost).panelOf p := by
    unfold Wafer.panelOf
    rw [hw]
  obtain ⟨h1, h2, h3⟩ := Wafer.rebuilt_modes (w := w) (m := m) (lost := lost) hp
  rw [hpan]
  refine ⟨h1, fun h ho => h2 (by simpa using h) ho, fun h ho => h3 (by simpa using h) ho, fun h => ?_⟩
  refine State.lostDomainsOff_fellAt s hp ?_
  rw [hs]
  cases hl : lost p with
  | true =>
    rw [h1 hl]
    decide
  | false =>
    rw [h2 hl (h.resolve_left (fun (h' : lost p = true) => by rw [hl] at h'; cases h'))]
    decide

theorem State.rebuiltAs_congr {t : State} {m : Nat} {lost : Nat → Prop} (h : s.rebuiltAs m lost) (hw : t.wafer.panel = s.wafer.panel)
    (hp : t.power = s.power) (ht : t.tiles = s.tiles) : t.rebuiltAs m lost := by
  unfold State.rebuiltAs State.contentsLost State.panelPower State.tileOf State.domainOf Wafer.panelOf at *
  rw [hw, hp, ht]
  exact h

end

/-! ### Domains that begin to ramp -/

section

variable {s t u : State} {d : Nat} {l : List Nat}

/-- `t` is `s` after some of the domains that were to come on have begun to ramp. -/
structure Ramps (s t : State) : Prop where
  only : ∃ ds, t = { s with power := { s.power with domains := ds } }
  each : ∀ d, t.domainOf d = s.domainOf d ∨ (s.domainOf d).wanted = true ∧ (s.domainOf d).st = .off ∧ t.domainOf d = ⟨.ramping, true, s.now⟩

theorem Ramps.refl (s : State) : Ramps s s := ⟨⟨s.power.domains, rfl⟩, fun _ => .inl rfl⟩

theorem Ramps.trans (h : Ramps s t) (k : Ramps t u) : Ramps s u := by
  obtain ⟨ds, hd⟩ := h.only
  obtain ⟨es, he⟩ := k.only
  refine ⟨⟨es, by rw [he, hd]⟩, fun d => ?_⟩
  have hn : t.now = s.now := by rw [hd]
  rcases h.each d with h1 | ⟨h1, h2, h3⟩
  · rcases k.each d with k1 | ⟨k1, k2, k3⟩
    · exact .inl (k1.trans h1)
    · exact .inr ⟨by rw [← h1]; exact k1, by rw [← h1]; exact k2, by rw [k3, hn]⟩
  · rcases k.each d with k1 | ⟨k1, k2, k3⟩
    · exact .inr ⟨h1, h2, k1.trans h3⟩
    · rw [h3] at k2
      cases k2

/-- What stands at a domain that was wanted goes on being wanted. -/
theorem Ramps.wanted (h : Ramps s t) (hw : (s.domainOf d).wanted = true) (ho : (s.domainOf d).st = .off) :
    (t.domainOf d).wanted = true ∧ ((t.domainOf d).st = .off ∨ (t.domainOf d).st = .ramping) := by
  rcases h.each d with h1 | ⟨-, -, h3⟩
  · rw [h1]
    exact ⟨hw, .inl ho⟩
  · rw [h3]
    exact ⟨rfl, .inr rfl⟩

theorem Ramps.idle (h : Ramps s t) (hw : (s.domainOf d).wanted = false ∨ (s.domainOf d).st ≠ .off) : t.domainOf d = s.domainOf d := by
  rcases h.each d with h1 | ⟨h1, h2, -⟩
  · exact h1
  · rcases hw with hw | hw
    · rw [hw] at h1
      cases h1
    · exact absurd h2 hw

theorem State.rampStart_ramps (hw : (s.domainOf d).wanted = true) (ho : (s.domainOf d).st = .off) : Ramps s (s.rampStart d) := by
  refine ⟨⟨_, rfl⟩, fun e => ?_⟩
  rw [State.rampStart, State.domainOf_setDomain]
  split
  · next he =>
    rw [he]
    exact .inr ⟨hw, ho, rfl⟩
  · exact .inl rfl

theorem rampFill_ramps (panel : Bool) (fuel : Nat) (s : State) : Ramps s (rampFill panel fuel s) := by
  induction fuel generalizing s with
  | zero => exact Ramps.refl s
  | succ fuel ih =>
    rw [rampFill]
    split
    · next d hd =>
      split
      · have hf := List.find?_some hd
        simp only [Bool.and_eq_true, beq_iff_eq] at hf
        obtain ⟨⟨⟨⟨-, hw⟩, ho⟩, -⟩, -⟩ := hf
        exact (State.rampStart_ramps hw ho).trans (ih (s.rampStart d))
      · exact Ramps.refl s
    · exact Ramps.refl s

theorem State.rampAll_ramps (s : State) : Ramps s s.rampAll := (rampFill_ramps false 4 s).trans (rampFill_ramps true 8 _)

end

end Sys2Proof.Machine
end

section
/-! Bring-up of the units (R391 to R394, R398). -/

namespace Sys2Proof.Machine

section

variable {s x t : State} {p q g : Nat} {l : List Nat}

/-! ### Step 10 (R391) -/

/-- Domains are to come on. -/
def State.wantAll (s : State) (l : List Nat) : State := each l (fun x d => x.setDomain d { x.domainOf d with wanted := true }) s

theorem State.wantAll_only (s : State) (l : List Nat) : ∃ ds, s.wantAll l = { s with power := { s.power with domains := ds } } := by
  unfold State.wantAll
  induction l generalizing s with
  | nil => exact ⟨s.power.domains, rfl⟩
  | cons a r ih =>
    obtain ⟨ds, hd⟩ := ih (s.setDomain a { s.domainOf a with wanted := true })
    exact ⟨ds, hd⟩

theorem State.wantAll_domainOf (s : State) (l : List Nat) (d : Nat) :
    (s.wantAll l).domainOf d = if d ∈ l then { s.domainOf d with wanted := true } else s.domainOf d := by
  unfold State.wantAll
  induction l generalizing s with
  | nil => rfl
  | cons a r ih =>
    refine (ih _).trans ?_
    rw [State.domainOf_setDomain]
    by_cases ha : d = a
    · subst ha
      simp
    · simp [ha]

/-- Panels held off are marked. -/
theorem State.panelMarks_other (l : List Nat) (s : State) : (each l (fun x p => x.panelMark p 19) s).power = s.power ∧
    (each l (fun x p => x.panelMark p 19) s).now = s.now :=
  ⟨each_keeps State.power (fun x p => x.panelMark p 19) (fun _ _ => rfl) l s, each_keeps State.now (fun x p => x.panelMark p 19) (fun _ _ => rfl) l s⟩

theorem State.panelMarks_marked (s : State) (hp : p ∈ l) : bit ((each l (fun x p => x.panelMark p 19) s).panelUp p) 19 = true ∧
    (each l (fun x p => x.panelMark p 19) s).up.ended.get false p = true := by
  refine each_removes (f := fun x p => x.panelMark p 19) (gone := fun t p => bit (t.panelUp p) 19 = true ∧ t.up.ended.get false p = true) ?_ ?_ l s p (.inl hp)
  · intro u k
    unfold State.panelUp State.panelMark
    dsimp only
    rw [Tab.get_set_same, Tab.get_set_same]
    exact ⟨bit_setBit_same .., rfl⟩
  · rintro u k i ⟨h1, h2⟩
    unfold State.panelUp State.panelMark at *
    dsimp only
    by_cases hi : i = k
    · subst hi
      rw [Tab.get_set_same, Tab.get_set_same]
      exact ⟨bit_setBit_same .., rfl⟩
    · rw [Tab.get_set_other _ _ _ hi, Tab.get_set_other _ _ _ hi]
      exact ⟨h1, h2⟩

/-- The domains that step 10 asks for. -/
def State.stepTenAsks (s : State) : List Nat :=
  rampOrder.filter fun d => d != 0 && (s.domainOf d).st == .off && !(isPanelDomain d && s.heldOff.contains (domainPanel d))

/-- Step 10 before the first ramps: what is asked for, what is held off, and step 11 begun. -/
def State.stepTen (s : State) : State :=
  let b := each s.heldOff (fun x p => x.panelMark p 19) (s.wantAll s.stepTenAsks)
  { b with up := { b.up with step := 11, stepAt := b.now } }

theorem State.stepTen_domainOf (s : State) (d : Nat) : s.stepTen.domainOf d =
    if d ∈ s.stepTenAsks then { s.domainOf d with wanted := true } else s.domainOf d := by
  rw [← State.wantAll_domainOf]
  exact State.domainOf_congr (congrArg Power.domains (State.panelMarks_other s.heldOff (s.wantAll s.stepTenAsks)).1) d

theorem State.domainPowerUp_eq (h : (s.up.yoke && s.up.collar && s.up.phase == .domains && s.up.step == 10) = true) :
    exec .domainPowerUp s = .next (State.settle s s.stepTen.rampAll.phaseCheck) := whenSettled_true h ..

theorem rampOrder_mem : ∀ d < 171, d ∈ rampOrder := by decide +kernel

theorem State.mem_heldOff (s : State) {p : Nat} (hp : p < 64) : s.heldOff.contains p = (s.panelPower p).overcurrent := by
  unfold State.heldOff
  cases ho : (s.panelPower p).overcurrent
  · rw [Bool.eq_false_iff, ne_eq, List.contains_iff_mem, List.mem_filter, ho]
    simp
  · rw [List.contains_iff_mem, List.mem_filter]
    exact ⟨List.mem_range.2 hp, ho⟩

theorem domainPanel_lt {d : Nat} (h1 : 27 ≤ d) (h2 : d < 155) : domainPanel d < 64 := by
  unfold domainPanel
  split <;> omega

theorem State.stepTen_outcome (s : State) (d : Nat) :
    let u := s.stepTen.rampAll.phaseCheck
    let held := 27 ≤ d ∧ d < 155 ∧ (s.panelPower (domainPanel d)).overcurrent = true
    (0 < d → d < 171 → (s.domainOf d).st = .off → ¬ held → (u.domainOf d).wanted = true ∧ ((u.domainOf d).st = .off ∨ (u.domainOf d).st = .ramping)) ∧
      (held → (s.domainOf d).wanted = false → u.domainOf d = s.domainOf d) ∧ ((s.domainOf d).st ≠ .off → u.domainOf d = s.domainOf d) ∧
      (held → bit (u.panelUp (domainPanel d)) 19 = true ∧ u.up.ended.get false (domainPanel d) = true) := by
  have hr := s.stepTen.rampAll_ramps
  have hu : s.stepTen.rampAll.phaseCheck.domainOf d = s.stepTen.rampAll.domainOf d :=
    State.domainOf_congr (congrArg Power.domains (State.phaseCheck_same _).2.2.2.1) d
  have hheld : 27 ≤ d ∧ d < 155 ∧ (s.panelPower (domainPanel d)).overcurrent = true → d ∉ s.stepTenAsks := by
    rintro ⟨h1, h2, h3⟩ hm
    have := (List.mem_filter.1 hm).2
    rw [s.mem_heldOff (domainPanel_lt h1 h2), h3] at this
    simp [isPanelDomain, h1, h2] at this
  dsimp only
  rw [hu]
  refine ⟨fun h0 hd ho hh => ?_, fun hh hw => ?_, fun hn => ?_, fun hh => ?_⟩
  · have hm : d ∈ s.stepTenAsks := by
      refine List.mem_filter.2 ⟨rampOrder_mem d hd, ?_⟩
      have hc : (isPanelDomain d && s.heldOff.contains (domainPanel d)) = false := by
        unfold isPanelDomain
        by_cases hp : 27 ≤ d ∧ d < 155
        · rw [s.mem_heldOff (domainPanel_lt hp.1 hp.2)]
          cases hoc : (s.panelPower (domainPanel d)).overcurrent
          · simp
          · exact absurd ⟨hp.1, hp.2, hoc⟩ hh
        · rcases not_and_or.1 hp with h | h <;> simp [h]
      rw [hc, ho]
      simp
      omega
    have hx := s.stepTen_domainOf d
    rw [if_pos hm] at hx
    exact hr.wanted (by rw [hx]) (by rw [hx]; exact ho)
  · have hx := s.stepTen_domainOf d
    rw [if_neg (hheld hh)] at hx
    rw [hr.idle (.inl (by rw [hx, hw])), hx]
  · have hm : d ∉ s.stepTenAsks := fun hm => by
      have := (List.mem_filter.1 hm).2
      simp [hn] at this
    have hx := s.stepTen_domainOf d
    rw [if_neg hm] at hx
    rw [hr.idle (.inr (by rw [hx]; exact hn)), hx]
  · have hp := domainPanel_lt hh.1 hh.2.1
    have hk := State.panelMarks_marked (l := s.heldOff) (s.wantAll s.stepTenAsks) (p := domainPanel d)
      (List.contains_iff_mem.1 (by rw [s.mem_heldOff hp, hh.2.2]))
    obtain ⟨ds, hds⟩ := hr.only
    obtain ⟨ph, hl, hph⟩ := s.stepTen.rampAll.phaseCheck_eq
    rw [hph, hds]
    exact hk

theorem State.stepTen_step (s : State) : Step (maskOf (reportFields ++ ([.power, .fw] : List Field))) s s.stepTen.rampAll.phaseCheck := by
  refine State.phaseCheck_step (State.rampAll_step ?_ (by decide)) (by decide)
  obtain ⟨ds, hd⟩ := s.wantAll_only s.stepTenAsks
  have hw : Step (maskOf (reportFields ++ ([.power, .fw] : List Field))) s (s.wantAll s.stepTenAsks) := by
    rw [hd]
    exact Step.put (F := 4503599627370496) (Step.refl _ s) (by decide) rfl fun v => ⟨v.1, v.2, v.3, v.4, v.5, v.6, v.7⟩
  have hm := each_step (l := s.heldOff) (f := fun x p => x.panelMark p 19) hw fun u p hu => State.panelMark_step hu (by decide)
  exact Step.put (F := 9007199254740992) hm (by decide) rfl fun v => ⟨v.1, v.2, v.3, v.4, v.5, v.6, v.7⟩

/-! ### Step 11a (R394) -/

theorem State.trainingPasses_outcome (s : State) (g : Nat) :
    (s.trainingDone g true).phaseCheck.segOfUp g = ⟨2, (s.segOfUp g).attempts + 1, 0, s.now⟩ := by
  rw [(State.phaseCheck_same _).2.2.2.2.2.2]
  exact State.segOfUp_setSegUp ..

theorem mem_segRange {a g : Nat} : g * segSize ≤ a ∧ a < (g + 1) * segSize ↔ segOf a = g := by
  unfold segOf segSize
  omega

/-- A segment's DRAM enters service (R152 to R154). -/
theorem State.segmentServes_outcome (s : State) (g ms : Nat) (x : SegBring) (hx : s.segOfUp g = x) :
    let u := (s.segmentServes g ms).phaseCheck
    u.now = s.now ∧ u.segOfUp g = { x with st := 3, scrubMs := ms } ∧
      (s.dram = .empty → u.up.patrolAt = u.now + 86400 * psS) ∧ ((∃ j, s.dram.get false j = true) → u.up.patrolAt = s.up.patrolAt) ∧
      u.dram.get false g = true ∧ (∀ j, j ≠ g → u.dram.get false j = s.dram.get false j) ∧
      (∀ a, u.tier1.read a = if segOf a = g then 0#8 else s.tier1.read a) ∧
      ∀ k, u.granules.get false k = (s.granules.get false k && segOf (k * 65536) != g) := by
  obtain ⟨ph, h, hph⟩ := (s.segmentServes g ms).phaseCheck_eq
  dsimp only
  rw [hph]
  refine ⟨rfl, ?_, fun hd => ?_, fun ⟨j, hj⟩ => ?_, Tab.get_set_same .., fun j hj => Tab.get_set_other _ _ _ hj, fun a => ?_, fun k => ?_⟩
  · rw [← hx]
    exact Tab.get_set_same ..
  · show (if s.dram.vals.any id then s.up.patrolAt else s.now + scrubPeriod) = s.now + 86400 * psS
    rw [hd]
    rfl
  · have ha : s.dram.vals.any id = true := by
      unfold Tab.get at hj
      cases hf : s.dram.find j with
      | none => rw [hf] at hj; cases hj
      | some v =>
        rw [hf] at hj
        exact List.any_eq_true.2 ⟨v, List.mem_map.2 ⟨(j, v), mem_of_findCell hf, rfl⟩, hj⟩
    show (if s.dram.vals.any id then s.up.patrolAt else s.now + scrubPeriod) = s.up.patrolAt
    rw [ha]
    rfl
  · show (s.tier1.wipe (g * segSize) ((g + 1) * segSize)).read a = _
    rw [Memory.read_wipe]
    simp only [mem_segRange]
  · show (s.granules.keep fun k _ => segOf (k * 65536) != g).get false k = _
    rw [Tab.get_keepKey]
    cases segOf (k * 65536) != g <;> simp

end

end Sys2Proof.Machine
end

section
/-! Self-tests and the grid of step 11 (R392, R393). -/

namespace Sys2Proof.Machine

section

variable {s x y t : State} {p q r c e : Nat}

/-! ### Step 11b -/

/-- A tile that fails its test, before anything is done for its row. -/
def State.tileFailed (s : State) (p r c : Nat) : State :=
  let k := p * 144 + r * 12 + c
  let a := (s.fire 0x0C36 (s.wafer.tileUnit k) 2).setTile k { s.tileOf k with fenced := true }
  a.setPanelUp p (moreFailed (a.panelUp p))

theorem State.tileFailed_tiles (s : State) (p r c : Nat) : (s.tileFailed p r c).tiles =
    s.tiles.set (p * 144 + r * 12 + c) { s.tileOf (p * 144 + r * 12 + c) with fenced := true } := by
  unfold State.tileFailed State.setPanelUp
  simp

theorem State.tileFailed_panelUp (s : State) (p r c : Nat) : (s.tileFailed p r c).panelUp p = moreFailed (s.panelUp p) := by
  unfold State.tileFailed State.setPanelUp State.panelUp
  simp

theorem State.tileFailed_same (s : State) (p r c : Nat) : (s.tileFailed p r c).wafer = s.wafer ∧ (s.tileFailed p r c).can = s.can ∧
    (s.tileFailed p r c).up.absentAt = s.up.absentAt ∧ (s.tileFailed p r c).od = s.od := by
  unfold State.tileFailed State.setPanelUp
  simp

theorem State.tileFailed_keepsEmcy : (s.tileFailed p r c).keepsEmcy ↔ s.keepsEmcy := by
  obtain ⟨-, -, h3, h4⟩ := s.tileFailed_same p r c
  exact State.keepsEmcy_congr h3 (State.setting_congr h4 _ _)

theorem State.tileFailed_fires (s : State) (p r c : Nat) : s.firedMore (s.tileFailed p r c) 0x0C36 := by
  refine State.firedMore_congr (State.firedMore_fire rfl 0x0C36 (s.wafer.tileUnit (p * 144 + r * 12 + c)) 2) ?_
  unfold State.tileFailed State.setPanelUp
  simp

/-- What follows for its row and its panel. -/
theorem State.selfTestFails_eq (s : State) (p r c : Nat) : s.selfTestFails p (r, c) =
    let b := s.tileFailed p r c
    let sk := s.wafer.skipOf p r
    if c = sk then if sk = 11 then { b with wafer := { b.wafer with spent := b.wafer.spent.set (p * 12 + r) true } } else b
    else if sk = 11 ∧ s.wafer.spent.get false (p * 12 + r) = false then
      ({ b with wafer := { b.wafer with skip := b.wafer.skip.set (p * 12 + r) c, repaired := b.wafer.repaired.set (p * 12 + r) true } }).setPanelUp p
        (setBit (b.panelUp p) r)
    else if bit (b.panelUp p) 18 then b
    else (b.setPanelUp p (setBit (b.panelUp p) 18)).stepFailed 11 p 0x0C36 := rfl

/-- Bits 15 to 12 count failed tiles and saturate; no other bit changes with them. -/
theorem bits_moreFailed (v : Nat) : bits (moreFailed v) 15 12 = min 15 (bits v 15 12 + 1) ∧ bit (moreFailed v) 18 = bit v 18 := by
  unfold moreFailed bits bit
  simp only [Nat.reducePow, Nat.reduceAdd, Nat.reduceSub]
  split
  · next h => exact ⟨by omega, rfl⟩
  · next h =>
    refine ⟨by omega, ?_⟩
    rw [show (v + 4096) / 262144 = v / 262144 by omega]

theorem bits_setBit_high (v : Nat) : bits (setBit v 18) 15 12 = bits v 15 12 := by
  unfold setBit bits
  simp only [Nat.reducePow, Nat.reduceAdd, Nat.reduceSub]
  split
  · rfl
  · omega

theorem bits_setBit_low (v : Nat) {r : Nat} (hr : r < 12) : bits (setBit v r) 15 12 = bits v 15 12 ∧ bit (setBit v r) 18 = bit v 18 := by
  have h : setBit v r / 4096 = v / 4096 := by
    have hlow : setBit (v % 4096) r < 2 ^ 12 := setBit_lt (Nat.mod_lt _ (by decide)) hr
    have hbit : bit v r = bit (v % 4096) r := by
      unfold bit
      rw [show (4096 : Nat) = 2 ^ r * 2 ^ (12 - r) by rw [← Nat.pow_add, Nat.add_sub_cancel' (Nat.le_of_lt hr)], Nat.mod_mul_right_div_self,
        Nat.mod_mod_of_dvd _ (dvd_pow_self 2 (by omega))]
    unfold setBit at hlow ⊢
    rw [hbit]
    split
    · rfl
    · next hn =>
      rw [if_neg hn] at hlow
      have hpos := Nat.two_pow_pos r
      omega
  unfold bits bit
  simp only [Nat.reducePow, Nat.reduceAdd, Nat.reduceSub]
  rw [h, show setBit v r / 262144 = v / 262144 by omega]
  exact ⟨rfl, rfl⟩

/-- A tested panel's stores. -/
theorem State.testedPanel_tileOf (y : State) {k : Nat} : (y.testedPanel p).tileOf k =
    if keyPanel k = p then { tile0 with fenced := (y.tileOf k).fenced } else y.tileOf k := by
  rcases State.tileOf_of_mapVals (s := y) (t := y.testedPanel p)
    (f := fun k t => if keyPanel k = p then { tile0 with fenced := t.fenced } else t) rfl k with ⟨h, hm⟩ | h
  · rw [h, State.tileOf_missing hm]
    split <;> rfl
  · rw [h]

theorem State.testedPanel_ended (y : State) : (y.testedPanel p).up.ended.get false p = true := Tab.get_set_same ..

/-- What a test leaves of the panel's stores and of every other tile. -/
theorem State.testedPanel_tested (h : ∀ k, keyPanel k ≠ p → y.tileOf k = s.tileOf k) : (y.testedPanel p).up.ended.get false p = true ∧
    (∀ k, keyPanel k ≠ p → (y.testedPanel p).tileOf k = s.tileOf k) ∧
      ∀ k, keyPanel k = p → ∀ st l, ((y.testedPanel p).tileOf k).isWritten st l = false := by
  refine ⟨y.testedPanel_ended, fun k hk => ?_, fun k hk st l => ?_⟩
  · rw [State.testedPanel_tileOf, if_neg hk, h k hk]
  · rw [State.testedPanel_tileOf, if_pos hk]
    rfl

theorem State.panelUp_setPanelUp (x : State) (p v : Nat) : (x.setPanelUp p v).panelUp p = v := Tab.get_set_same ..

/-- One tile of a panel has failed its test (R392, R443). -/
theorem State.selfTestFails_outcome (s : State) {p r c : Nat} (hr : r < 12) :
    let sk := s.wafer.skipOf p r
    let spent := s.wafer.spent.get false (p * 12 + r)
    let y := s.selfTestFails p (r, c)
    y.tiles = (s.tileFailed p r c).tiles ∧ s.firedMore y 0x0C36 ∧ bits (y.panelUp p) 15 12 = min 15 (bits (s.panelUp p) 15 12 + 1) ∧
      (c = sk → y.wafer.skip = s.wafer.skip ∧ y.wafer.spent.get false (p * 12 + r) = (spent || sk == 11)) ∧
      (c ≠ sk → sk = 11 → spent = false → y.wafer.skipOf p r = c ∧ y.wafer.repaired.get false (p * 12 + r) = true ∧ bit (y.panelUp p) r = true) ∧
      (c ≠ sk → sk ≠ 11 ∨ spent = true → y.wafer.skip = s.wafer.skip ∧ bit (y.panelUp p) 18 = true ∧
        (bit (s.panelUp p) 18 = false → s.hasRaised y 0xFF02 0x0C36)) := by
  have hf := s.tileFailed_fires p r c
  have hup := s.tileFailed_panelUp p r c
  have hw := (s.tileFailed_same p r c).1
  obtain ⟨hbits, hb18⟩ := bits_moreFailed (s.panelUp p)
  have heq := s.selfTestFails_eq p r c
  have hkeep := State.tileFailed_keepsEmcy (s := s) (p := p) (r := r) (c := c)
  generalize s.tileFailed p r c = b at hf hup hw heq hkeep
  dsimp only at heq ⊢
  by_cases hsk : c = s.wafer.skipOf p r
  · rw [if_pos hsk] at heq
    by_cases h11 : s.wafer.skipOf p r = 11
    · rw [if_pos h11] at heq
      rw [heq]
      have hskip : b.wafer.skip = s.wafer.skip := congrArg Wafer.skip hw
      refine ⟨rfl, hf, ?_, fun _ => ⟨hskip, ?_⟩, fun h => absurd hsk h, fun h => absurd hsk h⟩
      · rw [← hbits, ← hup]
        rfl
      · rw [h11]
        dsimp only
        rw [Tab.get_set_same]
        simp
    · rw [if_neg h11] at heq
      rw [heq]
      refine ⟨rfl, hf, by rw [hup, hbits], fun _ => ⟨congrArg Wafer.skip hw, ?_⟩, fun h => absurd hsk h, fun h => absurd hsk h⟩
      rw [hw, show (s.wafer.skipOf p r == 11) = false by simpa using h11, Bool.or_false]
  · rw [if_neg hsk] at heq
    by_cases hrep : s.wafer.skipOf p r = 11 ∧ s.wafer.spent.get false (p * 12 + r) = false
    · rw [if_pos hrep] at heq
      rw [heq]
      refine ⟨rfl, hf, ?_, fun h => absurd h hsk, fun _ _ _ => ⟨?_, Tab.get_set_same .., ?_⟩, fun _ h => ?_⟩
      · rw [State.panelUp_setPanelUp, (bits_setBit_low _ hr).1, hup, hbits]
      · unfold Wafer.skipOf
        exact Tab.get_set_same ..
      · rw [State.panelUp_setPanelUp]
        exact bit_setBit_same ..
      · rcases h with h | h
        · exact absurd hrep.1 h
        · rw [hrep.2] at h
          cases h
    · rw [if_neg hrep] at heq
      by_cases h18 : bit (b.panelUp p) 18 = true
      · rw [if_pos h18] at heq
        rw [heq]
        refine ⟨rfl, hf, by rw [hup, hbits], fun h => absurd h hsk, fun _ h1 h2 => absurd ⟨h1, h2⟩ hrep, fun _ _ => ⟨by rw [hw], h18, fun h => ?_⟩⟩
        rw [hup, hb18, h] at h18
        cases h18
      · rw [if_neg h18] at heq
        obtain ⟨z, hz⟩ : ∃ z, z = b.setPanelUp p (setBit (b.panelUp p) 18) := ⟨_, rfl⟩
        have hzup : z.panelUp p = setBit (b.panelUp p) 18 := by
          rw [hz]
          exact State.panelUp_setPanelUp ..
        have hzw : z.wafer = b.wafer := by rw [hz]; rfl
        have hzt : z.tiles = b.tiles := by rw [hz]; rfl
        have hzf : s.firedMore z 0x0C36 := by
          rw [hz]
          exact hf
        have hzk : s.keepsEmcy → z.keepsEmcy := fun h => by
          rw [hz]
          exact (State.keepsEmcy_congr (s := b) rfl rfl).2 (hkeep.2 h)
        rw [← hz] at heq
        obtain ⟨k1, -, -, -, k5⟩ := State.stepFailed_same z 11 p 0x0C36
        have hyup : (z.stepFailed 11 p 0x0C36).panelUp p = setBit (b.panelUp p) 18 := by
          rw [← hzup]
          unfold State.panelUp
          rw [k1]
        rw [heq]
        refine ⟨?_, State.stepFailed_fires hzf (by decide), ?_, fun h => absurd h hsk, fun _ h1 h2 => absurd ⟨h1, h2⟩ hrep, fun _ _ => ⟨by rw [k5, hzw, hw], ?_, fun _ => ?_⟩⟩
        · rw [← hzt]
          exact State.emcyEvent_tiles ..
        · rw [hyup, bits_setBit_high, hup, hbits]
        · rw [hyup]
          exact bit_setBit_same ..
        · exact State.hasRaised_of_within (State.stepFailed_raises hzk 11 p 0x0C36)

/-! ### Step 11c (R29, R392, R393) -/

/-- A direction of seam `e`, which panel `p` ends, is lost. -/
def State.seamLostAt (s : State) (p e : Nat) : Prop := (seamPanels e).map Prod.snd = some p ∧
  (laneLost (s.wafer.laneFail.get 0 (e * 2)) = true ∨ laneLost (s.wafer.laneFail.get 0 (e * 2 + 1)) = true)


/-- A panel with bit 18 is lost to the grid. -/
theorem le_of_bit_eighteen {v : Nat} (h : bit v 18 = true) : 2 ^ 16 ≤ v := by
  unfold bit at h
  simp only [Nat.reducePow, beq_iff_eq] at h
  omega

theorem State.lostInBringUp_iff (s : State) (p : Nat) : s.lostInBringUp p = true ↔ 2 ^ 16 ≤ s.panelUp p := decide_eq_true_iff

theorem State.panelUp_setPanelUp_other (x : State) (h : p ≠ q) (v : Nat) : (x.setPanelUp q v).panelUp p = x.panelUp p := Tab.get_set_other _ _ _ h

theorem State.seamTestFails_wafer (s : State) (e : Nat) : (s.seamTestFails e).wafer = s.wafer :=
  (State.seamTestFails_step (Step.refl 81082387573507248 s) (by decide)).wafer (by decide)

/-- A seam's test: its panel is lost where a direction of it is. -/
theorem State.seamTestFails_lost (s : State) (e p : Nat) :
    (s.seamTestFails e).lostInBringUp p = true ↔ s.lostInBringUp p = true ∨ s.seamLostAt p e := by
  simp only [State.lostInBringUp_iff]
  unfold State.seamTestFails State.seamLostAt
  cases hse : seamPanels e with
  | none => simp
  | some v =>
    obtain ⟨lo, hi⟩ := v
    dsimp only
    split
    · next hc =>
      rw [Bool.and_eq_true, Bool.or_eq_true] at hc
      have hup : ((s.setPanelUp hi (setBit (s.panelUp hi) 18)).stepFailed 11 hi 0x0C37).panelUp p = (s.setPanelUp hi (setBit (s.panelUp hi) 18)).panelUp p := by
        unfold State.panelUp
        rw [(State.stepFailed_same ..).1]
      rw [hup]
      by_cases hp : p = hi
      · subst hp
        rw [State.panelUp_setPanelUp]
        exact iff_of_true (le_of_bit_eighteen (bit_setBit_same ..)) (.inr ⟨rfl, hc.1⟩)
      · rw [State.panelUp_setPanelUp_other _ hp]
        simp [Ne.symm hp]
    · next hc =>
      rw [Bool.and_eq_true, not_and_or, Bool.or_eq_true] at hc
      refine ⟨.inl, fun h => h.elim id fun ⟨h1, h2⟩ => ?_⟩
      have hp : hi = p := by simpa using h1
      subst hp
      exact le_of_bit_eighteen (by simpa using hc.resolve_left (not_not.mpr h2))

/-- All seams tested. -/
def State.seamsTested (s : State) : State := each ((List.range 112).map (· + 1)) State.seamTestFails s

theorem State.seamTests_wafer (l : List Nat) (s : State) : (each l State.seamTestFails s).wafer = s.wafer :=
  each_keeps State.wafer State.seamTestFails State.seamTestFails_wafer l s

theorem State.seamLostAt_congr (h : t.wafer = s.wafer) : t.seamLostAt p e ↔ s.seamLostAt p e := by
  unfold State.seamLostAt
  rw [h]

theorem State.seamTests_lost (l : List Nat) (s : State) (p : Nat) :
    (each l State.seamTestFails s).lostInBringUp p = true ↔ s.lostInBringUp p = true ∨ ∃ e ∈ l, s.seamLostAt p e := by
  induction l generalizing s with
  | nil => simp [each]
  | cons a r ih =>
    refine (ih _).trans ?_
    simp only [State.seamTestFails_lost, State.seamLostAt_congr (s.seamTestFails_wafer a), List.mem_cons, exists_eq_or_imp, or_assoc]

theorem laneLost_iff (m : Nat) : laneLost m = true ↔ 3 ≤ popcount 14 m := decide_eq_true_iff

theorem State.seamsTested_lost (s : State) (p : Nat) : s.seamsTested.lostInBringUp p = true ↔
    2 ^ 16 ≤ s.panelUp p ∨ ∃ e lo, 1 ≤ e ∧ e ≤ 112 ∧ seamPanels e = some (lo, p) ∧
      (3 ≤ popcount 14 (s.wafer.laneFail.get 0 (e * 2)) ∨ 3 ≤ popcount 14 (s.wafer.laneFail.get 0 (e * 2 + 1))) := by
  refine (s.seamTests_lost _ p).trans ?_
  rw [State.lostInBringUp_iff]
  refine or_congr Iff.rfl ⟨fun ⟨e, he, hs, hl⟩ => ?_, fun ⟨e, lo, h1, h2, hs, hl⟩ => ⟨e, ?_, ?_, ?_⟩⟩
  · obtain ⟨i, hi, rfl⟩ := List.mem_map.1 he
    obtain ⟨⟨lo, hi'⟩, hs1, hs2⟩ := Option.map_eq_some_iff.1 hs
    have hi2 := List.mem_range.1 hi
    refine ⟨i + 1, lo, by omega, by omega, ?_, by simpa only [laneLost_iff] using hl⟩
    rw [hs1]
    exact congrArg (fun q => some (lo, q)) hs2
  · exact List.mem_map.2 ⟨e - 1, List.mem_range.2 (by omega), by omega⟩
  · rw [hs]
    rfl
  · simpa only [laneLost_iff] using hl

/-- The grid that is built once the lanes and seams are tested. -/
def State.gridMade (x : State) : State :=
  let lost := allPanels.filter x.lostInBringUp
  ((x.bringUpLosses lost).gridBuilt lost).lostDomainsOff.phaseCheck.rebudget

theorem State.bringUpLoss_same (x : State) (p : Nat) : (x.bringUpLoss p).wafer = x.wafer ∧ (x.bringUpLoss p).up.rebuildMode = x.up.rebuildMode := by
  unfold State.bringUpLoss
  simp [State.setPanelUp]

theorem State.bringUpLosses_same (x : State) (l : List Nat) : (x.bringUpLosses l).wafer = x.wafer ∧
    (x.bringUpLosses l).up.rebuildMode = x.up.rebuildMode :=
  ⟨each_keeps State.wafer State.bringUpLoss (fun x p => (x.bringUpLoss_same p).1) l x,
    each_keeps (fun t => t.up.rebuildMode) State.bringUpLoss (fun x p => (x.bringUpLoss_same p).2) l x⟩

theorem State.contains_lost (x : State) (hp : p < 64) : (allPanels.filter x.lostInBringUp).contains p = x.lostInBringUp p := by
  rw [Bool.eq_iff_iff, List.contains_iff_mem, List.mem_filter]
  exact ⟨fun h => h.2, fun h => ⟨List.mem_range.2 hp, h⟩⟩

/-- The grid of epoch 0 (R393). -/
theorem State.gridMade_outcome (x : State) :
    let m := x.up.rebuildMode
    x.gridMade.up.built = true ∧ x.gridMade.wafer.epoch = 0 ∧ x.gridMade.wafer.skip = x.wafer.skip ∧ x.gridMade.wafer.laneFail = x.wafer.laneFail ∧
      x.gridMade.wafer.laneForce = x.wafer.laneFail ∧ ((∃ p, p < 64 ∧ x.lostInBringUp p = true) → x.gridMade.wafer.mode = min m 3) ∧
      ((∀ p, p < 64 → x.lostInBringUp p = false) → x.gridMade.wafer.mode = 0) ∧
      ∀ p, p < 64 → (x.lostInBringUp p = true → (x.gridMade.wafer.panelOf p).mode = .lost) ∧
        (x.lostInBringUp p = false → leftOut m (fun q => x.lostInBringUp q = true) p → (x.gridMade.wafer.panelOf p).mode = .removed) ∧
        (x.lostInBringUp p = false → ¬ leftOut m (fun q => x.lostInBringUp q = true) p → (x.gridMade.wafer.panelOf p).mode = .active) ∧
        (x.lostInBringUp p = true ∨ leftOut m (fun q => x.lostInBringUp q = true) p →
          x.gridMade.isOff (coreDomain p) ∧ x.gridMade.isOff (memDomain p)) := by
  obtain ⟨l, hl⟩ : ∃ l, l = allPanels.filter x.lostInBringUp := ⟨_, rfl⟩
  obtain ⟨hlw, hlm⟩ := x.bringUpLosses_same l
  obtain ⟨z, hz⟩ : ∃ z, z = (x.bringUpLosses l).gridBuilt l := ⟨_, rfl⟩
  have hzw : z.wafer = { (x.wafer.rebuilt x.up.rebuildMode fun p => l.contains p) with
      laneForce := x.wafer.laneFail, passForce := x.wafer.passFail, epoch := 0, epochN := none } := by
    rw [hz]
    unfold State.gridBuilt
    rw [hlw, hlm]
    rfl
  have hzb : z.up.built = true := by rw [hz]; rfl
  have hmade : x.gridMade = z.lostDomainsOff.phaseCheck.rebudget := by
    rw [hz, hl]
    rfl
  have hreb := State.rebudget_step (Step.refl 72080289657998472 z.lostDomainsOff.phaseCheck) (by decide)
  have hdo := State.lostDomainsOff_step (Step.refl 4503737066323968 z) (by decide)
  have hw : x.gridMade.wafer = z.wafer := by
    rw [hmade, hreb.wafer (by decide), (State.phaseCheck_same _).2.2.2.2.1, hdo.wafer (by decide)]
  have hpow : x.gridMade.power.domains = z.lostDomainsOff.power.domains := by
    rw [hmade, hreb.power (by decide), (State.phaseCheck_same _).2.2.2.1]
  have hcon : ∀ p, p < 64 → l.contains p = x.lostInBringUp p := fun p hp => by
    rw [hl]
    exact x.contains_lost hp
  have hout : ∀ p, p < 64 → (leftOut x.up.rebuildMode (fun q => l.contains q = true) p ↔ leftOut x.up.rebuildMode (fun q => x.lostInBringUp q = true) p) := by
    intro p hp
    unfold leftOut
    refine or_congr (and_congr_right fun _ => exists_congr fun y => and_congr_right fun hy => ?_)
      (and_congr_right fun _ => exists_congr fun y => and_congr_right fun hy => ?_) <;> beta_reduce <;> rw [hcon _ (by omega)]
  have hreb2 := State.lostDomainsOff_rebuilt (s := z) (w := x.wafer) (m := x.up.rebuildMode) (lost := fun p => l.contains p) (by rw [hzw])
  refine ⟨?_, ?_, ?_, ?_, ?_, fun ⟨p, hp, hlost⟩ => ?_, fun hnone => ?_, fun p hp => ?_⟩
  · obtain ⟨ph, h, hph⟩ := z.lostDomainsOff.phaseCheck_eq
    rw [hmade, hreb.up (by decide), hph]
    show z.lostDomainsOff.up.built = true
    rw [hdo.up (by decide), hzb]
  · rw [hw, hzw]
  · rw [hw, hzw]
    rfl
  · rw [hw, hzw]
    rfl
  · rw [hw, hzw]
  · rw [hw, hzw]
    exact if_pos (List.any_eq_true.2 ⟨p, List.mem_range.2 hp, by rw [hcon p hp, hlost]⟩)
  · rw [hw, hzw]
    refine if_neg fun h => ?_
    obtain ⟨p, hp, hlost⟩ := List.any_eq_true.1 h
    rw [hcon p (List.mem_range.1 hp), hnone p (List.mem_range.1 hp)] at hlost
    cases hlost
  · obtain ⟨h1, h2, h3, h4⟩ := hreb2 p hp
    have hpan : x.gridMade.wafer.panelOf p = z.lostDomainsOff.wafer.panelOf p := by rw [hw, hdo.wafer (by decide)]
    beta_reduce at h1 h2 h3 h4
    rw [hcon p hp] at h1 h2 h3 h4
    rw [hpan]
    refine ⟨h1, fun ha hb => h2 (by rw [ha]; decide) ((hout p hp).2 hb), fun ha hb => h3 (by rw [ha]; decide) fun hc => hb ((hout p hp).1 hc), fun ha => ?_⟩
    obtain ⟨-, k1, k2⟩ := h4 (ha.imp_right (hout p hp).2)
    exact ⟨State.isOff_congr (s := z.lostDomainsOff) hpow k1, State.isOff_congr (s := z.lostDomainsOff) hpow k2⟩

end

end Sys2Proof.Machine
end

section
/-! O55: the bring-up of the units. -/

namespace Sys2Proof.Machine

section

variable {s x y t : State} {p g : Nat}

def gridDets : List Nat := 0x0C08 :: sideDets

theorem sideDets_grid : ∀ d ∈ sideDets, d ∈ gridDets := by decide

theorem State.seamTestFails_calm {D : List Nat} (hs : ∀ d ∈ sideDets, d ∈ D) {s0 : State} (h : Calm D s0 s) (e : Nat) : Calm D s0 (s.seamTestFails e) := by
  unfold State.seamTestFails
  split
  · next lo hi _ =>
    refine Calm.ite ?_ h
    exact State.stepFailed_calm hs (h.put (t := s.setPanelUp hi (setBit (s.panelUp hi) 18)) rfl rfl rfl) 11 hi 0x0C37
  · exact h

theorem State.seamTestFails_mode (s : State) (e : Nat) : (s.seamTestFails e).up.rebuildMode = s.up.rebuildMode := by
  unfold State.seamTestFails
  split
  · split
    · exact congrArg (fun v => v.rebuildMode) (State.stepFailed_same ..).1
    · rfl
  · rfl

theorem State.bringUpLoss_calm {s0 : State} (h : Calm gridDets s0 s) (p : Nat) : Calm gridDets s0 (s.bringUpLoss p) :=
  State.bump64_calm (State.fire_calm (h.put (t := s.setPanelUp p (setBit (s.panelUp p) 18)) rfl rfl rfl) (d := 0x0C08) (by decide) 0 4)
    (i := 0x2B00) (by decide) 3

/-- Of the detectors whose reports are compared, none fires after the lanes are tested. -/
theorem State.gridMade_calm (x : State) : Calm gridDets x x.seamsTested.gridMade := by
  have h1 : Calm gridDets x x.seamsTested := Calm.each _ (Calm.refl _ x) fun u e hu => State.seamTestFails_calm sideDets_grid hu e
  have h2 : Calm gridDets x (x.seamsTested.bringUpLosses (allPanels.filter x.seamsTested.lostInBringUp)) :=
    Calm.each _ h1 fun u p hu => State.bringUpLoss_calm hu p
  obtain ⟨y, hy⟩ : ∃ y, y = x.seamsTested.bringUpLosses (allPanels.filter x.seamsTested.lostInBringUp) := ⟨_, rfl⟩
  rw [← hy] at h2
  obtain ⟨z, hz⟩ : ∃ z, z = (y.gridBuilt (allPanels.filter x.seamsTested.lostInBringUp)).lostDomainsOff.phaseCheck := ⟨_, rfl⟩
  have hk := State.phaseCheck_step (State.lostDomainsOff_step (State.gridBuilt_step (x1 := allPanels.filter x.seamsTested.lostInBringUp)
    (Step.refl 49539733340028930 y) (by decide)) (by decide)) (by decide)
  rw [← hz] at hk
  have hm : x.seamsTested.gridMade = z.rebudget := by
    rw [hz, hy]
    rfl
  rw [hm]
  exact State.rebudget_calm sideDets_grid (h2.put (hk.det (by decide)) (hk.od (by decide)) (hk.out (by decide)))

theorem seamPanels_bound {e lo hi : Nat} (h1 : 1 ≤ e) (h : seamPanels e = some (lo, hi)) : e ≤ 112 ∧ hi < 64 := by
  unfold seamPanels at h
  split at h
  · simp only [Option.some.injEq, Prod.mk.injEq] at h
    omega
  · split at h
    · simp only [Option.some.injEq, Prod.mk.injEq] at h
      omega
    · cases h

/-- A lane test that fails. -/
theorem State.laneTestFails_outcome (s : State) (e : Fin 144) (d : Fin 2) (n : Fin 14) :
    let key := (e.val + 1) * 2 + d.val
    (s.laneTestFails (e, d, n)).wafer = { s.wafer with laneFail := s.wafer.laneFail.set key (setBit (s.wafer.laneFail.get 0 key) n.val) } ∧
      s.firedMore (s.laneTestFails (e, d, n)) 0x0C37 ∧ ∀ p, (s.laneTestFails (e, d, n)).panelUp p = s.panelUp p := by
  obtain ⟨w, hw⟩ : ∃ w, w = { s.wafer with
    laneFail := s.wafer.laneFail.set ((e.val + 1) * 2 + d.val) (setBit (s.wafer.laneFail.get 0 ((e.val + 1) * 2 + d.val)) n.val) } := ⟨_, rfl⟩
  obtain ⟨l, hl⟩ : ∃ l, l = min 65535 (s.up.lanes + (sparesUsed (setBit (s.wafer.laneFail.get 0 ((e.val + 1) * 2 + d.val)) n.val) -
    sparesUsed (s.wafer.laneFail.get 0 ((e.val + 1) * 2 + d.val)))) := ⟨_, rfl⟩
  have hx : s.laneTestFails (e, d, n) = ({ s with wafer := w, up := { s.up with lanes := l } } : State).fire 0x0C37 (w.edgeUnit (e.val + 1)) 0 := by
    rw [hw, hl]
    rfl
  dsimp only
  rw [hx, ← hw]
  refine ⟨by simp, State.firedMore_fire rfl .., fun p => ?_⟩
  unfold State.panelUp
  simp

/-- What GRID_BUILD does once its lanes are tested. -/
def State.gridBuildOf (s : State) (lanes : List (Fin 144 × Fin 2 × Fin 14)) : State := (each lanes.dedup State.laneTestFails s).seamsTested.gridMade

theorem gridBuild_eq (lanes : List (Fin 144 × Fin 2 × Fin 14)) (hy : s.up.yoke = true) (hb : s.up.built = false)
    (he : ∀ p, p < 64 → s.up.ended.get false p = true) : exec (.gridBuild lanes) s = .next (State.settle s (s.gridBuildOf lanes)) := by
  refine whenSettled_true ?_ ..
  rw [hy, hb]
  simp only [Bool.not_false, Bool.and_self, Bool.true_and, List.all_eq_true]
  exact fun p hp => he p (List.mem_range.1 hp)

/-- The lanes that fail leave the panels' records, and the grid is built of them. -/
theorem State.gridBuildOf_outcome (s a : State) (hp : ∀ p, a.panelUp p = s.panelUp p) (hm : a.up.rebuildMode = s.up.rebuildMode) :
    let lost := fun (p : Nat) => 2 ^ 16 ≤ s.panelUp p ∨ ∃ e lo, 1 ≤ e ∧ e ≤ 112 ∧ seamPanels e = some (lo, p) ∧
      (3 ≤ popcount 14 (a.wafer.laneFail.get 0 (e * 2)) ∨ 3 ≤ popcount 14 (a.wafer.laneFail.get 0 (e * 2 + 1)))
    let m := s.up.rebuildMode
    let u := a.seamsTested.gridMade
    u.up.built = true ∧ u.wafer.epoch = 0 ∧ u.wafer.skip = a.wafer.skip ∧ u.wafer.laneFail = a.wafer.laneFail ∧ u.wafer.laneForce = a.wafer.laneFail ∧
      ((∃ p, p < 64 ∧ lost p) → u.wafer.mode = min m 3) ∧ ((∀ p, p < 64 → ¬ lost p) → u.wafer.mode = 0) ∧
      ∀ p, p < 64 →
        let out := (m = 1 ∧ ∃ y, y < 8 ∧ lost (y * 8 + p % 8)) ∨ (m = 2 ∧ ∃ x, x < 8 ∧ lost (p / 8 * 8 + x))
        (lost p → (u.wafer.panelOf p).mode = .lost) ∧ (¬ lost p → out → (u.wafer.panelOf p).mode = .removed) ∧
        (¬ lost p → ¬ out → (u.wafer.panelOf p).mode = .active) ∧
        (lost p ∨ out → ((u.domainOf (coreDomain p)).st = .off ∨ (u.domainOf (coreDomain p)).st = .latchedOff) ∧
          ((u.domainOf (memDomain p)).st = .off ∨ (u.domainOf (memDomain p)).st = .latchedOff)) := by
  have hlost : ∀ p, a.seamsTested.lostInBringUp p = true ↔ (2 ^ 16 ≤ s.panelUp p ∨ ∃ e lo, 1 ≤ e ∧ e ≤ 112 ∧ seamPanels e = some (lo, p) ∧
      (3 ≤ popcount 14 (a.wafer.laneFail.get 0 (e * 2)) ∨ 3 ≤ popcount 14 (a.wafer.laneFail.get 0 (e * 2 + 1)))) := fun p => by
    rw [State.seamsTested_lost, hp]
  have hw := State.seamTests_wafer ((List.range 112).map (· + 1)) a
  have hup : a.seamsTested.up.rebuildMode = s.up.rebuildMode := by
    rw [← hm]
    exact each_keeps (fun t => t.up.rebuildMode) State.seamTestFails State.seamTestFails_mode _ a
  obtain ⟨h1, h2, h3, h4, h5, h6, h7, h8⟩ := State.gridMade_outcome a.seamsTested
  rw [hup] at h6 h8
  dsimp only
  generalize a.seamsTested.gridMade = u at *
  simp only [← hlost, Bool.not_eq_true]
  exact ⟨h1, h2, h3.trans (congrArg Wafer.skip hw), h4.trans (congrArg Wafer.laneFail hw), h5.trans (congrArg Wafer.laneFail hw), h6, h7, h8⟩

theorem State.gridBuildOf_step (s : State) (lanes : List (Fin 144 × Fin 2 × Fin 14)) :
    Step (maskOf (reportFields ++ entryFields ++ ([.wafer, .sessions, .frames, .skips, .setSkips, .tiles, .attach, .plans, .power, .fw] : List Field))) s
      (s.gridBuildOf lanes) := by
  have h1 := each_step (l := lanes.dedup) (f := State.laneTestFails)
    (Step.refl (maskOf (reportFields ++ entryFields ++ ([.wafer, .sessions, .frames, .skips, .setSkips, .tiles, .attach, .plans, .power, .fw] : List Field))) s)
    fun u l hu => State.laneTestFails_step hu (by decide)
  have h2 := each_step (l := (List.range 112).map (· + 1)) (f := State.seamTestFails) h1 fun u e hu => State.seamTestFails_step hu (by decide)
  exact State.rebudget_step (State.phaseCheck_step (State.lostDomainsOff_step (State.gridBuilt_step (State.bringUpLosses_step h2 (by decide)) (by decide))
    (by decide)) (by decide)) (by decide)

end

end Sys2Proof.Machine

namespace Sys2Proof.Proofs

open Sys2Proof.Machine

/-- Settles O55: bring-up leads every unit through its step, and the grid of epoch 0 leaves out what the tests have lost. -/
theorem unitBringUp : Obligations.UnitBringUp := by
  unfold Obligations.UnitBringUp
  refine ⟨fun s hy hc hp hs => ?_, fun s g hy hd => ⟨fun ok h1 h2 => ?_, fun h1 h2 => ⟨?_, ?_⟩, fun ms h1 h2 => ?_⟩, fun s p ok l h => ?_,
    fun s p ht hin => ?_, fun s hy hb he => ?_⟩
  · refine settles_step (State.domainPowerUp_eq (by simp [hy, hc, hp, hs])) s.stepTen_step ⟨?_, fun d => s.stepTen_outcome d⟩
    obtain ⟨ph, h, hph⟩ := s.stepTen.rampAll.phaseCheck_eq
    rw [hph]
    show s.stepTen.rampAll.up.step = 11
    rw [(State.rampAll_step (Step.refl 4503599627370496 s.stepTen) (by decide)).up (by decide)]
    rfl
  · exact whenSettled_false (by simp [hy, hd, h1]; omega) ..
  · exact settles_step (whenSettled_true (by simp [hy, hd, h1, h2]) ..) (State.phaseCheck_step (State.trainingDone_step (Step.refl _ s) (by decide)) (by decide))
      (s.trainingPasses_outcome g.val)
  · exact settles_step (whenSettled_true (by simp [hy, hd, h1, h2]) ..) (State.phaseCheck_step (State.trainingDone_step (Step.refl _ s) (by decide)) (by decide))
      (State.trainingFails_outcome rfl (fun h => h) rfl).2
  · refine settles_step (whenSettled_true (by simp [hy, hd, h1, h2]) ..)
      (State.phaseCheck_step (State.segmentServes_step (State.advanceTo_step (Step.refl _ s) (by decide)) (by decide)) (by decide)) ?_
    exact State.segmentServes_outcome (s.advanceTo ((s.segOfUp g.val).since + ms.toNat * psMs)) g.val ms.toNat (s.segOfUp g.val) rfl
  · exact whenSettled_false (by simp [State.panelInTime]; omega) ..
  · have hcond : (s.panelTests p.val && s.panelInTime p.val) = true := by simp [ht, State.panelInTime, hin]
    refine ⟨settles_step (whenSettled_true hcond ..) (State.pllFailed_step (Step.refl _ s) (by decide)) ?_, ?_, fun r c => ?_⟩
    · exact (State.pllFailed_outcome (s := s) (x := s) (fun h => h) p.val).2
    · exact settles_step (whenSettled_true hcond ..) (State.testedPanel_step (Step.refl _ s) (by decide))
        ⟨State.testedPanel_tested fun _ _ => rfl, rfl, rfl, rfl⟩
    · have hone : [(r, c)].dedup = [(r, c)] := (List.nodup_singleton _).dedup
      have hx : exec (.panelSelfTestDone p true [(r, c)]) s = .next (State.settle s ((s.selfTestFails p.val (r.val, c.val)).testedPanel p.val)) := by
        refine (whenSettled_true hcond ..).trans ?_
        rw [hone]
        rfl
      obtain ⟨h1, h2, h3, h4, h5, h6⟩ := s.selfTestFails_outcome (p := p.val) (c := c.val) r.isLt
      refine settles_step hx (State.testedPanel_step (State.selfTestFails_step (Step.refl _ s) (by decide)) (by decide))
        ⟨State.testedPanel_tested fun k hk => ?_, h2, ?_, h3, h4, h5, h6⟩
      · unfold State.tileOf
        rw [h1, State.tileFailed_tiles]
        exact Tab.get_set_other _ _ _ fun he => hk (he ▸ keyPanel_mk p.val r.isLt c.isLt)
      · rw [State.testedPanel_tileOf, if_pos (keyPanel_mk p.val r.isLt c.isLt)]
        unfold State.tileOf
        rw [h1, State.tileFailed_tiles, Tab.get_set_same]
  · have hx := fun lanes => gridBuild_eq (s := s) lanes hy hb he
    refine ⟨settles_step (hx []) (s.gridBuildOf_step []) ?_, fun e d n => settles_step (hx [(e, d, n)]) (s.gridBuildOf_step _) ?_⟩
    · have hu : s.gridBuildOf [] = s.seamsTested.gridMade := by
        unfold State.gridBuildOf
        rw [List.dedup_nil]
        rfl
      obtain ⟨h1, h2, h3, -, h5, h6, h7, h8⟩ := s.gridBuildOf_outcome s (fun _ => rfl) rfl
      rw [hu]
      exact ⟨h1, h2, h3, h5, h6, h7, h8⟩
    · have hone : [(e, d, n)].dedup = [(e, d, n)] := (List.nodup_singleton _).dedup
      have hu : s.gridBuildOf [(e, d, n)] = (s.laneTestFails (e, d, n)).seamsTested.gridMade := by
        unfold State.gridBuildOf
        rw [hone]
        rfl
      obtain ⟨k1, k2, k3⟩ := s.laneTestFails_outcome e d n
      have hcalm := (s.laneTestFails (e, d, n)).gridMade_calm
      have hmode : (s.laneTestFails (e, d, n)).up.rebuildMode = s.up.rebuildMode := by
        unfold State.laneTestFails
        simp
      rw [hu]
      generalize s.laneTestFails (e, d, n) = a at k1 k2 k3 hcalm hmode
      obtain ⟨h1, -, -, h4, h5, -, -, h8⟩ := s.gridBuildOf_outcome a k3 hmode
      refine ⟨h1, ?_, h5.trans h4.symm, State.firedMore_calm k2 hcalm (by decide), fun lo hi hs h3 => ?_⟩
      · rw [h4, k1]
        exact Tab.get_set_same ..
      · refine (h8 hi (seamPanels_bound (by omega) hs).2).1 (.inr ⟨e.val + 1, lo, by omega, (seamPanels_bound (by omega) hs).1, hs, ?_⟩)
        rw [k1]
        have hd : d.val = 0 ∨ d.val = 1 := by omega
        rcases hd with hd | hd
        · refine .inl ?_
          rw [hd] at h3 ⊢
          dsimp only
          rw [show (e.val + 1) * 2 + 0 = (e.val + 1) * 2 from rfl, Tab.get_set_same]
          exact h3
        · refine .inr ?_
          rw [hd] at h3 ⊢
          dsimp only
          rw [Tab.get_set_same]
          exact h3

end Sys2Proof.Proofs
end

section
/-! Why the statement about the fences of owners fails: the count of skips of a frame whose class is no class. -/

namespace Sys2Proof.Machine

/-- Function A is suspect, and its job 1 has an active plan. A frame of job 2, whose class is no class, costs more than its beat
allows: when the plan ends with job 1 the budgets are looked at again, the frame is skipped, and the skip is counted in the cell that its
class names, 0x2B00:05. -/
def fencedAndSkipped : State := { Sys2Proof.Tests.on with
  suspects := [⟨.owner 1 0, 0, 0⟩]
  jobs := Tab.empty.set 1 { job0 with st := .opened }
  plans := Tab.empty.set 1 { Sys2Proof.Tests.planOf 1 with st := .active }
  frames := Tab.empty.set 1 ⟨0, 0, (0x2B00 - 0x2505) * 256 + 4, 2, none, 0, 65536, 0, false, none, 10 ^ 30, 0, 0⟩ }

theorem fencedAndSkipped_fence : exec (.ownerFence 1#4 0#16) fencedAndSkipped =
    .next (State.settle fencedAndSkipped ((fencedAndSkipped.unsuspect (.owner 1 0)).fenceFunction .hostA 0)) := by
  have hdet : fencedAndSkipped.suspectDet (ownerUnit 1 0) = 0 := by decide +kernel
  refine (whenSettled_true (by decide +kernel) ..).trans ?_
  dsimp only
  rw [show (0#16).toNat = 0 from rfl, show (1#4).toNat = 1 from rfl, hdet]
  rfl

theorem fencedAndSkipped_counts : ((fencedAndSkipped.unsuspect (.owner 1 0)).fenceFunction .hostA 0).cell 0x2B00 5 = 2 := by decide +kernel

end Sys2Proof.Machine

namespace Sys2Proof.Proofs
open Sys2Proof.Machine

/-- Refutes O57: one fence is to be counted in 0x2B00:05. In `fencedAndSkipped` the end of the job's plan skips a frame of another
job; the skip is counted in sub-index class + 1 of 0x2505, which for a class of 391,940 is the same cell. -/
theorem not_ownersAndFailures : ¬ Obligations.OwnersAndFailures := by
  unfold Obligations.OwnersAndFailures
  rintro ⟨howner, -⟩
  obtain ⟨-, -, hdue⟩ := howner fencedAndSkipped 1#4 0#16
  obtain ⟨u, hx, -, ⟨hcell, -, -⟩, -⟩ := (hdue (by decide +kernel)).1 rfl
  rw [fencedAndSkipped_fence] at hx
  have hsame : State.settle fencedAndSkipped ((fencedAndSkipped.unsuspect (.owner 1 0)).fenceFunction .hostA 0) = State.settle fencedAndSkipped u :=
    Host.Outcome.next.inj hx
  have hplain : ¬ reportCell 0x2B00 := by
    unfold reportCell
    decide
  have hc := congrArg (fun t => t.cell 0x2B00 5) hsame
  rw [State.settle_cell _ _ (by decide) hplain, State.settle_cell _ _ (by decide) hplain, fencedAndSkipped_counts, hcell] at hc
  revert hc
  decide +kernel

end Sys2Proof.Proofs
end

section
/-! O46: the dictionary's writes, stores and restores (R326, R327, R338, R339). -/

namespace Sys2Proof.Machine

section

variable {s x : State} {q : Path} {i j : Nat}

/-- A write that fails a check of its access is refused. -/
theorem State.refusesWrite_denied {c : Instr} {e : Effect} {code : Nat} (hx : exec c s = s.odWrite q i j e) (hp : s.pathOpen q = true)
    (hc : s.accessCheck true i j = some code) : s.refusesWrite c q i j code := by
  have ha : s.odWrite q i j e = .next (s.aborted q i j code) := by
    unfold State.odWrite State.tryWrite
    rw [hc]
    exact whenDue_true hp ..
  exact completes_step (hx.trans ha) (State.aborted_step (Step.refl _ s) (by decide)) (s.aborted_cells q i j code)

theorem State.canWrite_of (hp : s.pathOpen q = true) (hc : s.accessCheck true i j = none) : s.canWrite q i j = true := by
  unfold State.canWrite
  rw [hp, hc]
  rfl

/-! ### Stores and restores -/

theorem fxStore_signature {v : Nat} (hv : v ≠ 0x65766173) : fxStore q j v s = .error 0x08000020 := if_pos (.inl hv)

theorem fxStore_updating (hr : s.up.phase ≠ .recovery) (hu : s.fw.updating = true) : fxStore q j 0x65766173 s = .error 0x08000022 :=
  (if_neg fun h => h.elim (fun h => h rfl) hr).trans (if_pos hu)

theorem fxStore_stores (hr : s.up.phase ≠ .recovery) (hu : s.fw.updating = false) :
    fxStore q j 0x65766173 s = .ok (s.jobQueue ⟨0, storeAreas j, q, 0x1010, j, none⟩) :=
  (if_neg fun h => h.elim (fun h => h rfl) hr).trans (if_neg (by simp [hu]))

theorem fxRestore_signature {v : Nat} (hv : v ≠ 0x64616F6C) : fxRestore q j v s = .error 0x08000020 := if_pos (.inl hv)

theorem fxRestore_restores (hr : s.up.phase ≠ .recovery) :
    fxRestore q j 0x64616F6C s = .ok (s.jobQueue ⟨1, storeAreas j, q, 0x1011, j, none⟩) := if_neg fun h => h.elim (fun h => h rfl) hr

theorem State.jobQueue_idle (h : s.fw.store = none) (k : StoreJob) : s.jobQueue k = s.jobStart k := if_neg (by simp [h])

theorem State.jobQueue_busy (h : s.fw.store.isSome = true) (k : StoreJob) :
    s.jobQueue k = { s with fw := { s.fw with storeWait := s.fw.storeWait ++ [k] } } := if_pos h

/-! ### The end of a store (R338, R339) -/

/-- Nothing else waits behind a store. -/
theorem storeNext_idle (hw : x.fw.storeWait = []) (hb : x.fw.beginWait = none) : ∀ n, storeNext n x = x
  | 0 => rfl
  | n + 1 => by
    unfold storeNext
    simp only [hw, hb]

/-- The record is written and counted. -/
def State.stored (s : State) (j : StoreJob) : State :=
  let b := ({ s with fw := { s.fw with store := none, records := s.fw.records ++ j.record.toList } }).bump32 0x1FE3 1
  if j.index = 0x1011 ∧ bit j.areas 0 = true then { b with can := { b.can with rateNew := false, idNew := false } } else b

def State.notStored (s : State) : State := ({ s with fw := { s.fw with store := none, commit := none } }).bump32 0x1FE3 2

theorem State.storeEnded_written (s : State) (k : StoreJob) :
    s.storeEnded k true = (if k.kind = 2 then (s.stored k).commitRest else s.stored k).answer k.path k.index k.sub none := rfl

theorem State.storeEnded_failed (s : State) (k : StoreJob) : s.storeEnded k false = s.notStored.answer k.path k.index k.sub (some 0x06060000) := rfl

theorem State.stored_fw (s : State) (k : StoreJob) : (s.stored k).fw = { s.fw with store := none, records := s.fw.records ++ k.record.toList } := by
  unfold State.stored
  dsimp only
  split <;> rfl

theorem State.stored_fuses (s : State) (k : StoreJob) : (s.stored k).fuses = s.fuses := by
  unfold State.stored
  dsimp only
  split <;> rfl

theorem State.stored_cell (s : State) (k : StoreJob) : (s.stored k).cell 0x1FE3 1 = (s.cell 0x1FE3 1 + 1) % 2 ^ 32 := by
  unfold State.stored
  dsimp only
  split <;> exact State.cell_bump32_same ..

theorem State.bump32_waits (f : Firmware) {j : Nat} (hj : j < 256) : Waits s (({ s with fw := f } : State).bump32 0x1FE3 j) :=
  ⟨⟨List.prefix_rfl, rfl, rfl, rfl, fun _ hn => State.cell_bump32_other _ (by omega) hj fun e => by simp at e⟩, rfl, rfl, rfl⟩

theorem State.stored_waits (s : State) (k : StoreJob) : Waits s (s.stored k) := by
  have h := State.bump32_waits (s := s) { s.fw with store := none, records := s.fw.records ++ k.record.toList } (j := 1) (by decide)
  unfold State.stored
  dsimp only
  split
  · exact ⟨⟨h.out, h.nodeId, h.rate, h.recovering, h.counts⟩, h.sdo, h.boxA, h.boxB⟩
  · exact h

theorem State.stored_sdoHeld (s : State) (k : StoreJob) : (s.stored k).can.sdoHeld = s.can.sdoHeld := by
  unfold State.stored
  dsimp only
  split <;> rfl

theorem State.stored_step (s : State) (k : StoreJob) : Step (maskOf (reportFields ++ ([.fw, .boxA, .boxB] : List Field))) s (s.stored k) := by
  have h0 : Step (maskOf (reportFields ++ ([.fw, .boxA, .boxB] : List Field))) s
      { s with fw := { s.fw with store := none, records := s.fw.records ++ k.record.toList } } :=
    Step.put (F := 36028797018963968) (Step.refl _ s) (by decide) rfl fun v => ⟨v.1, v.2, v.3, v.4, v.5, v.6, v.7⟩
  have h := State.bump32_step (x1 := 0x1FE3) (x2 := 1) h0 (by decide)
  unfold State.stored
  dsimp only
  split
  · exact Step.put (F := 8388608) h (by decide) rfl fun v => ⟨v.1, v.2, v.3, v.4, v.5, v.6, v.7⟩
  · exact h

theorem State.notStored_step (s : State) : Step (maskOf (reportFields ++ ([.fw, .boxA, .boxB] : List Field))) s s.notStored := by
  have h0 : Step (maskOf (reportFields ++ ([.fw, .boxA, .boxB] : List Field))) s { s with fw := { s.fw with store := none, commit := none } } :=
    Step.put (F := 36028797018963968) (Step.refl _ s) (by decide) rfl fun v => ⟨v.1, v.2, v.3, v.4, v.5, v.6, v.7⟩
  exact State.bump32_step h0 (by decide)

theorem State.commitRest_waits (s : State) : Waits s s.commitRest := by
  unfold State.commitRest
  dsimp only
  generalize Firmware.mk .. = f, FuseImage.mk .. = w
  refine Waits.trans (t := { s with fw := f, fuses := w }) ⟨⟨List.prefix_rfl, rfl, rfl, rfl, fun _ _ => rfl⟩, rfl, rfl, rfl⟩ ?_
  exact (State.emcyEvent_stands _ _ _ _).waits

theorem State.emcyEvent_sdoHeld (x : State) (code det : Nat) (data : List Byte) : (x.emcyEvent code det data).can.sdoHeld = x.can.sdoHeld := by
  obtain ⟨h, q, d, hc⟩ := x.emcyEvent_node code det data
  rw [hc]

theorem State.commitRest_waiting (s : State) : s.commitRest.fw.storeWait = s.fw.storeWait ∧ s.commitRest.fw.beginWait = s.fw.beginWait ∧
    s.commitRest.can.sdoHeld = s.can.sdoHeld := by
  unfold State.commitRest
  dsimp only
  refine ⟨?_, ?_, ?_⟩
  · rw [State.emcyEvent_fw]
    split <;> cases s.fw.runB <;> rfl
  · rw [State.emcyEvent_fw]
    split <;> cases s.fw.runB <;> rfl
  · exact State.emcyEvent_sdoHeld ..

theorem State.commits_congr {w t u : State} (hx : x.fw = w.fw) (hf : x.fuses = w.fuses) (ht : u.fw = t.fw) (hu : u.fuses = t.fuses)
    (h : x.commits t) : w.commits u := by
  unfold State.commits State.rollback at *
  rw [ht, hu, ← hx, ← hf]
  exact h

/-- What answers a store that has ended, with nothing else waiting. -/
theorem storeDone_settles {k : StoreJob} {fs : List Field} {p : State → Prop} {ok : Bool} {x : State} {code : Option Nat} (hs : s.fw.store = some k)
    (hc : s.up.collar = true) (hx : s.storeEnded k ok = x.answer k.path k.index k.sub code) (hw : x.fw.storeWait = []) (hb : x.fw.beginWait = none)
    (hh : x.can.sdoHeld = none) (hstep : Step (maskOf fs) s x) (hm : sub 72057594100842496 (maskOf fs) = true)
    (hp : Served x (x.answer k.path k.index k.sub code) → p (x.answer k.path k.index k.sub code)) : settles (.storeDone ok) s fs p := by
  have hk := x.answer_served k.path k.index k.sub code
  refine settles_step (c := .storeDone ok) (u := x.answer k.path k.index k.sub code) ?_ (State.answer_step hstep hm) (hp hk)
  have he : exec (.storeDone ok) s = whenSettled s.up.collar s (storeNext (s.fw.storeWait.length + 1) (s.storeEnded k ok)).heldServe := by
    show execStoreDone ok s = _
    unfold execStoreDone
    simp only [hs]
  rw [he, hx, storeNext_idle (by rw [hk.fw, hw]) (by rw [hk.fw, hb]), State.heldServe_none (hk.sdoHeld.trans hh)]
  exact whenSettled_true hc ..

end

end Sys2Proof.Machine

namespace Sys2Proof.Proofs

open Sys2Proof.Machine

/-- Settles O46: a write is applied whole or aborted with the code of its first check, a store is answered when its record is written or
has failed, and the error history clears. -/
theorem dictionary : Obligations.Dictionary := by
  unfold Obligations.Dictionary
  refine ⟨fun s q i j bs hp => ⟨fun e he => State.refusesWrite_denied rfl hp he, fun hc => ⟨fun e he => ?_, fun u hu hh => ?_⟩⟩,
    fun s q j v => ⟨fun hw => ⟨fun hv => ?_, fun hv hr => ?_⟩, fun hw => ⟨fun hv => ?_, fun hv hr hs => ?_⟩⟩,
    fun s k hs hc hw hb hh => ?_, fun s q v hw => ⟨fun hv => ?_, fun hv => ?_⟩⟩
  · exact State.refusesWrite_settled rfl (State.canWrite_of hp hc) (by rw [he])
  · exact State.odWriteSettled_ok (State.canWrite_of hp hc) (by simp only [hu, State.heldServe_none hh])
  · exact State.refusesWrite_plain rfl hw (fxStore_signature fun h => hv (BitVec.eq_of_toNat_eq h))
  · subst hv
    refine ⟨fun hu => State.refusesWrite_plain rfl hw (fxStore_updating hr hu), fun hu hs => ?_, fun hu hs => ?_⟩
    · exact completes_step (State.odWrite_ok hw (fxStore_stores hr hu)) (State.jobQueue_step (Step.refl _ s) (by decide))
        (by rw [State.jobQueue_idle hs]; rfl)
    · exact completes_step (State.odWrite_ok hw (fxStore_stores hr hu)) (State.jobQueue_step (Step.refl _ s) (by decide))
        (by rw [State.jobQueue_busy hs])
  · exact State.refusesWrite_plain rfl hw (fxRestore_signature fun h => hv (BitVec.eq_of_toNat_eq h))
  · subst hv
    exact completes_step (State.odWrite_ok hw (fxRestore_restores hr)) (State.jobQueue_step (Step.refl _ s) (by decide))
      (by rw [State.jobQueue_idle hs]; rfl)
  · intro w fs
    have hfw := s.stored_fw k
    refine ⟨fun hk => ?_, fun hk => ?_, ?_⟩
    · refine storeDone_settles hs hc ((s.storeEnded_written k).trans (by rw [if_neg hk])) (by rw [hfw]; exact hw) (by rw [hfw]; exact hb)
        ((s.stored_sdoHeld k).trans hh) (s.stored_step k) (by decide) fun h => ⟨h.fw.trans hfw, ?_, State.answer_written (s.stored_waits k) ..⟩
      rw [h.cell _ _ (by decide) (by decide) (by decide), s.stored_cell k]
    · obtain ⟨h1, h2, h3⟩ := (s.stored k).commitRest_waiting
      refine storeDone_settles hs hc ((s.storeEnded_written k).trans (by rw [if_pos hk])) (by rw [h1, hfw]; exact hw) (by rw [h2, hfw]; exact hb)
        (h3.trans ((s.stored_sdoHeld k).trans hh)) (State.commitRest_step ((s.stored_step k).mono (by decide)) (by decide)) (by decide)
        fun h => ⟨?_, State.answer_written ((s.stored_waits k).trans (s.stored k).commitRest_waits) ..⟩
      refine State.commits_congr hfw (s.stored_fuses k) h.fw ?_ (s.stored k).commitRest_commits
      exact (State.answer_step (Step.refl 72057594100842496 (s.stored k).commitRest) (by decide)).fuses (by decide)
    · refine storeDone_settles hs hc (s.storeEnded_failed k) hw hb hh s.notStored_step (by decide) fun h => ⟨h.fw, ?_, State.answer_written ?_ ..⟩
      · rw [h.cell _ _ (by decide) (by decide) (by decide)]
        exact State.cell_bump32_same ..
      · exact State.bump32_waits _ (by decide)
  · exact State.refusesWrite_plain rfl hw (if_pos fun h => hv (BitVec.eq_of_toNat_eq h))
  · subst hv
    exact completes_step (State.odWrite_ok hw rfl) (Step.put (F := 8388608) (Step.refl _ s) (by decide) rfl fun v => { v with history := Nat.zero_le _ })
      rfl

end Sys2Proof.Proofs
end

section
/-! O43: EMCY messages and errors of the bus (R315 to R320). -/

namespace Sys2Proof.Machine

section

variable {s x y t u : State}

/-! ### EMCYs that leave -/

theorem State.emcyId_congr (hs : t.setting 0x1014 0 = s.setting 0x1014 0) (hw : t.can.cobWritten = s.can.cobWritten) (hn : t.can.nodeId = s.can.nodeId) :
    t.emcyId = s.emcyId := by
  unfold State.emcyId State.value
  rw [hs, hw, hn]

/-- The frame of an EMCY is the last that left, and the queue stands. -/
theorem State.emcySend_outcome (x : State) (m : Emcy) : (x.emcySend m).out = x.out ++ [.can x.emcyId m.bytes (x.can.rate != 0) x.can.passive] ∧
    (x.emcySend m).can = { x.can.counters (x.can.tec - 1) x.can.rxErr with lastEmcyAt := some x.now } ∧
    (x.emcySend m).setting 0x1014 0 = x.setting 0x1014 0 := by
  refine ⟨rfl, rfl, ?_⟩
  exact (x.canOut_sends x.emcyId m.bytes).setting 0x1014 0 (by decide) (by decide)

/-- Frames that waited behind the messages of a recovery leave, each as it was. -/
theorem State.canFlush_emits (s : State) : s.canFlush.can.later = [] ∧
    ∀ f ∈ s.can.later, ∃ esi, s.emits s.canFlush (.can f.1 f.2 (s.can.rate != 0) esi) := by
  have key : ∀ (l : List (Nat × List Byte)) (x : State), s.out <+: x.out → x.can.rate = s.can.rate → x.can.later = [] →
      (each l (fun x f => x.canOut f.1 f.2) x).can.later = [] ∧
        ∀ f ∈ l, ∃ esi, s.emits (each l (fun x f => x.canOut f.1 f.2) x) (.can f.1 f.2 (s.can.rate != 0) esi) := fun l => by
    induction l with
    | nil => exact fun x _ _ hl => ⟨hl, fun f hf => by cases hf⟩
    | cons a r ih =>
      intro x ho hr hl
      have hk := x.canOut_sends a.1 a.2
      obtain ⟨h1, h2⟩ := ih (x.canOut a.1 a.2) (ho.trans hk.out) (hk.rate.trans hr) hl
      refine ⟨h1, fun f hf => ?_⟩
      rcases List.mem_cons.1 hf with rfl | hf
      · have hrest := (each_sends r (x.canOut f.1 f.2) fun y g => y.canOut_sends g.1 g.2).out
        obtain ⟨c, hc⟩ := ho
        refine ⟨x.can.passive, State.emits_mono ⟨c, [], ?_⟩ hrest⟩
        rw [State.canOut_out, ← hc, hr]
      · exact h2 f hf
  exact key s.can.later { s with can := { s.can with later := [] } } List.prefix_rfl rfl rfl

theorem State.recoveryDone_sends (x : State) : x.out <+: x.recoveryDone.out ∧ x.recoveryDone.can.queue = x.can.queue ∧
    x.recoveryDone.can.held = x.can.held ∧ x.recoveryDone.can.lastEmcyAt = x.can.lastEmcyAt := by
  unfold State.recoveryDone
  split
  · have hk := State.canFlush_sends { x with can := { x.can with recovering := false } }
    refine ⟨hk.out, hk.queue, hk.held, ?_⟩
    have e := congrArg Can.lastEmcyAt hk.can
    exact e
  · exact ⟨List.prefix_rfl, rfl, rfl, rfl⟩

theorem State.recoveryDone_waits (h : x.can.queue ≠ []) : x.recoveryDone = x := by
  unfold State.recoveryDone
  refine if_neg fun hc => ?_
  simp only [Bool.and_eq_true, List.isEmpty_iff] at hc
  exact h hc.2

/-- EMCY 0x8140 takes the first place of the queue. -/
theorem State.emcyRecovered_queue (h : bit (x.setting 0x1014 0) 31 = false) (st : Nat) : (x.emcyRecovered st).out = x.out ∧
    (x.emcyRecovered st).can.held = x.can.held ∧ ∃ er, (x.emcyRecovered st).can.queue = ⟨0x8140, er, st, 0⟩ :: x.can.queue := by
  have hx : x.emcyRecovered st = { x with can := { x.can with
      queue := ⟨0x8140, x.errReg, st, 0⟩ :: x.can.queue, history := (0x8140 :: x.can.history).take 8 } } := if_neg (by rw [h]; decide)
  rw [hx]
  exact ⟨rfl, rfl, x.errReg, rfl⟩

/-- A held message leaves, and EMCY 0x8140 is next. -/
theorem State.recovered_outcome {o : Output} (hy : y.out = s.out ++ [o]) (hh : y.can.held = none) (hq : y.can.queue = s.can.queue)
    (hb : y.setting 0x1014 0 = s.setting 0x1014 0) (h : bit (s.setting 0x1014 0) 31 = false) (st : Nat) :
    s.emits (y.emcyRecovered st).recoveryDone o ∧ (y.emcyRecovered st).recoveryDone.can.held = none ∧
      ∃ er, (y.emcyRecovered st).recoveryDone.can.queue = ⟨0x8140, er, st, 0⟩ :: s.can.queue := by
  obtain ⟨h1, h2, er, h3⟩ := State.emcyRecovered_queue (x := y) (by rw [hb]; exact h) st
  rw [State.recoveryDone_waits (by rw [h3]; exact List.cons_ne_nil _ _)]
  exact ⟨⟨[], [], by rw [h1, hy]; simp⟩, h2.trans hh, er, by rw [h3, hq]⟩

theorem execEmcyTransmit_held (h : s.can.held.isSome = true) (ho : s.heldOpen = true) : exec .emcyTransmit s = .next (State.settle s s.heldSend.recoveryDone) :=
  (if_pos h).trans (whenSettled_true ho ..)

theorem execEmcyTransmit_idle (hh : s.can.held = none) (hq : s.can.queue = []) (hu : s.canUp = true) :
    exec .emcyTransmit s = .next (State.settle s s.canFlush) := by
  refine (if_neg (by rw [hh]; decide)).trans ?_
  rw [hq]
  exact whenSettled_true hu ..

/-- The state at the instant at which the inhibit time allows the next EMCY. -/
def State.emcyTime (s : State) : State :=
  match s.can.lastEmcyAt with
  | some t => s.advanceTo (t + s.setting 0x1015 0 * 100 * psUs)
  | none => s

theorem State.emcyTime_same (s : State) : s.emcyTime.can = s.can ∧ s.emcyTime.od = s.od ∧ s.emcyTime.out = s.out ∧
    Step (maskOf [.now, .od, .can, .out]) s s.emcyTime ∧ s.emcyTime.now = (match s.can.lastEmcyAt with
      | some t => max s.now (t + s.setting 0x1015 0 * 100 * psUs)
      | none => s.now) := by
  unfold State.emcyTime
  cases s.can.lastEmcyAt with
  | none => exact ⟨rfl, rfl, rfl, Step.refl _ s, rfl⟩
  | some t => exact ⟨rfl, rfl, rfl, State.advanceTo_step (Step.refl _ s) (by decide), rfl⟩

/-- The oldest message leaves (R315). -/
def State.emcyLeaves (s : State) (m : Emcy) (rest : List Emcy) : State :=
  (({ s.emcyTime with can := { s.emcyTime.can with queue := rest } }).emcySend m).emcyDrained.recoveryDone

theorem execEmcyTransmit_queued {m : Emcy} {rest : List Emcy} (hh : s.can.held = none) (hq : s.can.queue = m :: rest) (ho : s.emcyOpen = true) :
    exec .emcyTransmit s = .next (State.settle s (s.emcyLeaves m rest)) := by
  refine (if_neg (by rw [hh]; decide)).trans ?_
  rw [hq]
  exact whenSettled_true ho ..

theorem State.emcyLeaves_outcome {m : Emcy} {rest : List Emcy} (hd : s.can.dropped = false) :
    let u := s.emcyLeaves m rest
    ((∃ esi, s.emits u (.can s.emcyId m.bytes (s.can.rate != 0) esi)) ∧ u.can.queue = rest ∧ u.can.lastEmcyAt = some u.now ∧
      u.now = s.emcyTime.now) ∧ Step (maskOf [.now, .od, .can, .out]) s u := by
  obtain ⟨h1, h2, h3, h4, -⟩ := s.emcyTime_same
  obtain ⟨x, hx⟩ : ∃ x : State, x = { s.emcyTime with can := { s.emcyTime.can with queue := rest } } := ⟨_, rfl⟩
  have hxs : Step (maskOf [.now, .od, .can, .out]) s x := by
    rw [hx]
    exact Step.put (F := 8388608) h4 (by decide) rfl fun v => ⟨v.1, v.2, v.3, v.4, v.5, v.6, v.7⟩
  have hid : x.emcyId = s.emcyId := State.emcyId_congr (by rw [hx]; exact State.setting_congr h2 _ _) (by rw [hx, h1]) (by rw [hx, h1])
  have hrate : x.can.rate = s.can.rate := by rw [hx, h1]
  have hdrop : (x.emcySend m).can.dropped = false := by
    rw [(x.emcySend_outcome m).2.1, hx, h1]
    exact hd
  have hdr : (x.emcySend m).emcyDrained = x.emcySend m := by
    unfold State.emcyDrained
    rw [hdrop, Bool.and_false]
    rfl
  have hu : s.emcyLeaves m rest = (x.emcySend m).recoveryDone := by
    unfold State.emcyLeaves
    rw [← hx, hdr]
  obtain ⟨k1, k2, -⟩ := x.emcySend_outcome m
  obtain ⟨r1, r2, -, r4⟩ := (x.emcySend m).recoveryDone_sends
  have hend : Step (maskOf [.now, .od, .can, .out]) s (x.emcySend m).recoveryDone :=
    State.recoveryDone_step (State.emcySend_step hxs (by decide)) (by decide)
  have hnow : (x.emcySend m).recoveryDone.now = x.now :=
    (State.recoveryDone_step (State.emcySend_step (Step.refl 72057594050510848 x) (by decide)) (by decide)).now (by decide)
  dsimp only
  rw [hu]
  refine ⟨⟨⟨x.can.passive, State.emits_mono ⟨[], [], ?_⟩ r1⟩, ?_, ?_, ?_⟩, hend⟩
  · rw [k1, hid, hrate, hx]
    simp [h3]
  · rw [r2, k2, hx]
    rfl
  · rw [r4, k2, hnow]
  · rw [hnow, hx]

/-- A heartbeat that bus-off held leaves. -/
theorem State.heldHeartbeat_leaves (s : State) (st b : Nat) (hb : bit (s.setting 0x1014 0) 31 = false) :
    let u := ((({ s with can := { s.can with held := none } } : State).canOut (0x700 + s.can.nodeId) (natLe 1 b)).emcyRecovered st).recoveryDone
    (∃ esi, s.emits u (.can (0x700 + s.can.nodeId) (natLe 1 b) (s.can.rate != 0) esi)) ∧ u.can.held = none ∧
      ∃ er, u.can.queue = ⟨0x8140, er, st, 0⟩ :: s.can.queue := by
  obtain ⟨x, hx⟩ : ∃ x : State, x = { s with can := { s.can with held := none } } := ⟨_, rfl⟩
  have hk := x.canOut_sends (0x700 + s.can.nodeId) (natLe 1 b)
  have hout : (x.canOut (0x700 + s.can.nodeId) (natLe 1 b)).out = s.out ++ [.can (0x700 + s.can.nodeId) (natLe 1 b) (s.can.rate != 0) s.can.passive] := by
    rw [State.canOut_out, hx]
  dsimp only
  rw [← hx]
  obtain ⟨h1, h2, h3⟩ := State.recovered_outcome (s := s) hout (hk.held.trans (by rw [hx])) (hk.queue.trans (by rw [hx]))
    ((hk.setting 0x1014 0 (by decide) (by decide)).trans (by rw [hx]; rfl)) hb st
  exact ⟨⟨s.can.passive, h1⟩, h2, h3⟩

/-! ### What the end of a transfer and the communication behaviour leave -/

/-- The node without its transfer, its state and its messages. -/
def Can.bus (c : Can) : Can := { c with sdo := none, sdoHeld := none, nmt := .initialising, queue := [], history := [], dropped := false }

/-- `t` has the error counters, the held message and the PDOs of `s`, has sent what `s` has, and agrees with it in the detectors that no
report fires and in the stamp of the last bus-off. -/
structure OnBus (s t : State) : Prop where
  bus : t.can.bus = s.can.bus
  calm : Calm sideDets s t
  stamp : t.cell 0x1FD2 0xB = s.cell 0x1FD2 0xB

namespace OnBus

theorem refl (s : State) : OnBus s s := ⟨rfl, Calm.refl _ s, rfl⟩

theorem put (hb : t.can.bus = s.can.bus) (hd : t.det = s.det) (ho : t.od = s.od) (hx : t.out = s.out) : OnBus s t :=
  ⟨hb, (Calm.refl _ s).put hd ho hx, State.cell_congr ho _ _⟩

variable (h : OnBus s t)

include h

theorem trans (k : OnBus t u) : OnBus s u := ⟨k.bus.trans h.bus, h.calm.trans k.calm, k.stamp.trans h.stamp⟩

theorem tec : t.can.tec = s.can.tec := by have e := congrArg Can.tec h.bus; exact e
theorem rxErr : t.can.rxErr = s.can.rxErr := by have e := congrArg Can.rxErr h.bus; exact e
theorem passive : t.can.passive = s.can.passive := by have e := congrArg Can.passive h.bus; exact e
theorem busOff : t.can.busOff = s.can.busOff := by have e := congrArg Can.busOff h.bus; exact e
theorem later : t.can.later = s.can.later := by have e := congrArg Can.later h.bus; exact e
theorem held : t.can.held = s.can.held := by have e := congrArg Can.held h.bus; exact e
theorem tpdo : t.can.tpdo = s.can.tpdo := by have e := congrArg Can.tpdo h.bus; exact e

end OnBus

theorem State.emcyEvent_onBus (x : State) (code det : Nat) (data : List Byte) : OnBus x (x.emcyEvent code det data) := by
  obtain ⟨h, q, d, hc⟩ := x.emcyEvent_node code det data
  exact ⟨by rw [hc]; rfl, State.emcyEvent_calm (fun _ h => h) (Calm.refl _ x) .., (State.emcyEvent_side (fun _ h => h) (fun _ h => h)
    (Side.refl sideDets sideCells x) code det data).cell _ _ (by decide) (by decide)⟩

theorem State.imageEnded_onBus (x : State) : OnBus x x.imageEnded := by
  unfold State.imageEnded
  split
  · obtain ⟨f, hx⟩ := x.updateEnd_eq slot0 false 7 0
    have h0 : OnBus x { x with fw := f } := OnBus.put rfl rfl rfl rfl
    rw [hx]
    exact h0.trans (State.emcyEvent_onBus { x with fw := f } 0xFF7B 0 (natLe 1 7))
  · exact OnBus.refl x

theorem State.sdoEnd_onBus (x : State) : OnBus x x.sdoEnd := by
  unfold State.sdoEnd
  split
  · exact OnBus.refl x
  · next d hd =>
    have h0 : OnBus x { x with can := { x.can with sdo := none, sdoHeld := none } } := OnBus.put rfl rfl rfl rfl
    dsimp only
    split
    · exact h0.trans (State.imageEnded_onBus _)
    · exact h0

theorem State.imageEnded_sdo (x : State) : x.imageEnded.can.sdo = x.can.sdo := by
  unfold State.imageEnded
  split
  · exact (x.updateEnd_stands slot0 false 7 0).sdo
  · rfl

theorem State.sdoEnd_sdo (x : State) : x.sdoEnd.can.sdo = none := by
  unfold State.sdoEnd
  split
  · next hd => exact hd
  · dsimp only
    split
    · exact State.imageEnded_sdo _
    · rfl

theorem State.nmtOff_onBus (x : State) : OnBus x x.nmtOff := by
  unfold State.nmtOff
  split
  · exact OnBus.refl x
  · exact x.sdoEnd_onBus.trans (OnBus.put rfl rfl rfl rfl)

theorem State.commBehaviour_onBus (x : State) : OnBus x x.commBehaviour := by
  unfold State.commBehaviour
  dsimp only
  split
  · exact OnBus.put rfl rfl rfl rfl
  · split
    · exact x.nmtOff_onBus
    · exact OnBus.refl x

theorem State.commBehaviour_sdo (h : x.can.sdo = none) : x.commBehaviour.can.sdo = none := by
  unfold State.commBehaviour
  dsimp only
  split
  · exact h
  · split
    · unfold State.nmtOff
      split
      · exact h
      · exact x.sdoEnd_sdo
    · exact h

theorem State.heldEvent_onBus (x : State) : OnBus x x.heldEvent := by
  unfold State.heldEvent
  split
  · exact ⟨congrArg Can.bus (State.eventAll_can ..), State.eventAll_calm (fun _ h => h) (Calm.refl _ x) .., (State.eventAll_side (fun _ h => h) (fun _ h => h)
      (Side.refl sideDets sideCells x) _ _ _ _).cell _ _ (by decide) (by decide)⟩
  · exact OnBus.refl x

/-! ### Errors (R316, R317) -/

/-- The error counters have new values. -/
def State.errorsAt (s : State) (tec rxErr : Nat) : State := { s with can := s.can.counters tec rxErr }

theorem State.emcyAt_onBus (x : State) (code det st : Nat) : OnBus x (x.emcyAt code det st) := by
  refine ⟨?_, State.emcyAt_calm (fun _ h => h) (Calm.refl _ x) .., (State.emcyAt_side (fun _ h => h) (fun _ h => h)
    (Side.refl sideDets sideCells x) code det st).cell _ _ (by decide) (by decide)⟩
  unfold State.emcyAt
  dsimp only
  split
  · rfl
  · split
    · rfl
    · split <;> split <;> simp [Can.bus]

/-- A message that waits stays in its place. -/
theorem State.emcyAt_queue (x : State) (code det st : Nat) {m : Emcy} {rest : List Emcy} (h : x.can.queue = m :: rest) :
    ∃ r, (x.emcyAt code det st).can.queue = m :: r := by
  unfold State.emcyAt
  dsimp only
  split
  · exact ⟨rest, h⟩
  · split
    · exact ⟨rest, h⟩
    · split <;> split <;> simp [h]

theorem State.enterPassive_outcome (x : State) (hk : s.keepsEmcy → x.keepsEmcy) : x.enterPassive.can.bus = x.can.bus ∧ x.enterPassive.out = x.out ∧
    x.enterPassive.stamp = x.stamp ∧ s.hasRaised x.enterPassive 0x8120 0x0D01 ∧
    (x.enterPassive.detOf 0x0D01).count = ((x.detOf 0x0D01).count + 1) % 2 ^ 64 ∧ x.enterPassive.detOf 0x0D02 = x.detOf 0x0D02 ∧
    ∀ m rest, x.can.queue = m :: rest → ∃ r, x.enterPassive.can.queue = m :: r := by
  have h := x.emcyAt_onBus 0x8120 0x0D01 x.stamp
  have hs := State.emcyAt_step (x1 := 0x8120) (x2 := 0x0D01) (x3 := x.stamp) (Step.refl 2092957696 x) (by decide)
  unfold State.enterPassive State.emcy
  refine ⟨by rw [State.fire_can]; exact h.bus, by rw [State.fire_out]; exact hs.out (by decide), ?_, fun h1 h2 => ?_, ?_, ?_, fun m rest hq => ?_⟩
  · exact State.stamp_congr (by simp) (by simp)
  · rw [State.fire_can, State.emcyAt_history (hk ⟨h1, h2⟩) (by decide)]
    exact List.mem_of_mem_head? rfl
  · rw [State.detOf_fire_count, h.calm.det _ (by decide)]
  · rw [State.detOf_fire_other _ (by decide), h.calm.det _ (by decide)]
  · rw [State.fire_can]
    exact x.emcyAt_queue _ _ _ hq

theorem Can.hold_same (c : Can) : c.hold.tec = c.tec ∧ c.hold.rxErr = c.rxErr ∧ c.hold.passive = c.passive := by
  unfold Can.hold
  split
  · exact ⟨rfl, rfl, rfl⟩
  · split
    · exact ⟨rfl, rfl, rfl⟩
    · split <;> exact ⟨rfl, rfl, rfl⟩

theorem Can.hold_first {c : Can} {m : Emcy} {rest : List Emcy} (hh : c.held = none) (hq : c.queue = m :: rest) : c.hold.held = some (.emcy m) := by
  unfold Can.hold
  rw [if_neg (by rw [hh]; decide), hq]

/-- Bus-off, before the transfer ends and its reports are made. -/
def State.offBus (s : State) (unsent : List Nat) : State :=
  let gone := s.can.later.map Prod.fst ++ unsent
  let a := { s with can := { s.can.hold with busOff := true, recovering := false, later := [] } }
  let b := (a.count 32 0x1FD2 9 (a.can.waitingTpdos + (gone.filter s.isTpdo).length)).putCell 0x1FD2 0x0B a.stamp
  { b with can := b.can.dropTpdos, out := if gone.isEmpty then b.out else b.out ++ [Output.canDropped gone] }

theorem State.enterBusOff_eq (x : State) (unsent : List Nat) :
    x.enterBusOff unsent = (((x.offBus unsent).sdoEnd.heldEvent).fire 0x0D02 0 0).commBehaviour := rfl

theorem State.offBus_outcome (x : State) (unsent : List Nat) : (x.offBus unsent).can = ({ x.can.hold with busOff := true, recovering := false, later := [] } : Can).dropTpdos ∧
    (x.offBus unsent).det = x.det ∧ (x.offBus unsent).cell 0x1FD2 0xB = x.stamp ∧
    ∀ i ∈ unsent, ∃ ids, i ∈ ids ∧ x.emits (x.offBus unsent) (.canDropped ids) := by
  unfold State.offBus
  refine ⟨rfl, rfl, State.cell_putCell_same .., fun i hi => ?_⟩
  have hm : i ∈ x.can.later.map Prod.fst ++ unsent := List.mem_append_right _ hi
  refine ⟨_, hm, [], [], ?_⟩
  dsimp only
  rw [if_neg (by
    rw [List.isEmpty_iff]
    exact List.ne_nil_of_mem hm)]
  simp [State.count]

theorem Can.dropTpdos_pending (c : Can) (n : Nat) : (c.dropTpdos.tpdo.get tpdo0 n).pending = false := by
  unfold Can.dropTpdos Tab.get
  dsimp only
  rw [Tab.find_mapVals]
  cases c.tpdo.find n <;> rfl

/-- What bus-off leaves of the node (R317). -/
theorem State.enterBusOff_outcome (x : State) (unsent : List Nat) :
    let u := x.enterBusOff unsent
    (u.can.tec = x.can.tec ∧ u.can.rxErr = x.can.rxErr ∧ u.can.passive = x.can.passive) ∧ u.can.busOff = true ∧ u.cell 0x1FD2 0xB = x.stamp ∧
      u.can.sdo = none ∧ (u.detOf 0x0D02).count = ((x.detOf 0x0D02).count + 1) % 2 ^ 64 ∧ u.can.later = [] ∧
      (∀ n, (u.tpdoRun n).pending = false) ∧ (∀ i ∈ unsent, ∃ ids, i ∈ ids ∧ x.emits u (.canDropped ids)) ∧
      ∀ m rest, x.can.held = none → x.can.queue = m :: rest → u.can.held = some (.emcy m) := by
  obtain ⟨h1, h2, h3, h4⟩ := x.offBus_outcome unsent
  dsimp only
  rw [State.enterBusOff_eq]
  obtain ⟨a, ha⟩ : ∃ a, a = x.offBus unsent := ⟨_, rfl⟩
  rw [← ha] at h1 h2 h3 h4 ⊢
  have hk : OnBus a a.sdoEnd.heldEvent := a.sdoEnd_onBus.trans (State.heldEvent_onBus _)
  have hsdo : a.sdoEnd.heldEvent.can.sdo = none := by
    have e : a.sdoEnd.heldEvent.can = a.sdoEnd.can := by
      unfold State.heldEvent
      split
      · exact State.eventAll_can ..
      · rfl
    rw [e, a.sdoEnd_sdo]
  obtain ⟨b, hb⟩ : ∃ b, b = a.sdoEnd.heldEvent := ⟨_, rfl⟩
  rw [← hb] at hk hsdo ⊢
  have hc := (b.fire 0x0D02 0 0).commBehaviour_onBus
  have hbus : (b.fire 0x0D02 0 0).commBehaviour.can.bus = a.can.bus := by rw [hc.bus, State.fire_can, hk.bus]
  have field : ∀ {α : Type} (f : Can → α), f (b.fire 0x0D02 0 0).commBehaviour.can.bus = f a.can.bus := fun f => congrArg f hbus
  have hout : a.out <+: (b.fire 0x0D02 0 0).commBehaviour.out := hk.calm.out.trans (by
    have e := hc.calm.out
    rwa [State.fire_out] at e)
  obtain ⟨k1, k2, k3⟩ := x.can.hold_same
  refine ⟨⟨?_, ?_, ?_⟩, ?_, ?_, State.commBehaviour_sdo (by rw [State.fire_can]; exact hsdo), ?_, ?_, fun n => ?_, fun i hi => ?_, fun m rest hh hq => ?_⟩
  · exact (field Can.tec).trans (by rw [h1]; exact k1)
  · exact (field Can.rxErr).trans (by rw [h1]; exact k2)
  · exact (field Can.passive).trans (by rw [h1]; exact k3)
  · exact (field Can.busOff).trans (by rw [h1]; rfl)
  · rw [hc.stamp, State.cell_congr (State.fire_od ..), hk.stamp, h3]
  · rw [hc.calm.det _ (by decide), State.detOf_fire_count, hk.calm.det _ (by decide), State.detOf_congr h2]
  · exact (field Can.later).trans (by rw [h1]; rfl)
  · unfold State.tpdoRun
    rw [show (b.fire 0x0D02 0 0).commBehaviour.can.tpdo = a.can.tpdo from field Can.tpdo, h1]
    exact Can.dropTpdos_pending ..
  · obtain ⟨ids, hm, he⟩ := h4 i hi
    exact ⟨ids, hm, State.emits_mono he hout⟩
  · exact (field Can.held).trans (by rw [h1]; exact Can.hold_first hh hq)

/-! ### The COB-ID of EMCYs (R315, R334) -/

theorem settingRange_emcyId (s : State) (v : Nat) : s.settingRange 0x1014 0 v = cobCheck false v := by
  unfold State.settingRange State.commRange
  simp

theorem settingState_emcyId (s : State) (v : Nat) : s.settingState 0x1014 0 v = s.cobState 0x1014 0 v := by
  unfold State.settingState
  simp

theorem fxSetting_emcyId_refused {v e : Nat} (h : (cobCheck false v).or (s.cobState 0x1014 0 v) = some e) : fxSetting 0x1014 0 v s = .error e := by
  unfold fxSetting
  rw [settingRange_emcyId, settingState_emcyId, h]

/-- A write of the COB-ID: the value stands, and the bit that disables messages empties the queue. -/
def State.emcyIdPut (s : State) (v : Nat) : State :=
  let a := { s.putCell 0x1014 0 v with can := { s.can with cobWritten := s.can.cobWritten.set (odKey 0x1014 0) true } }
  if bit v 31 then
    { a with can := { a.can with
      queue := [], recovering := false, held := match a.can.held with
        | some (.emcy _) => none
        | h => h } }
  else a

theorem fxSetting_emcyId {v : Nat} (h : cobCheck false v = none) (k : s.cobState 0x1014 0 v = none) : fxSetting 0x1014 0 v s = .ok (s.emcyIdPut v) := by
  unfold fxSetting
  rw [settingRange_emcyId, settingState_emcyId, h, k]
  rfl

theorem State.emcyIdPut_outcome (s : State) (v : Nat) : (s.emcyIdPut v).cell 0x1014 0 = v ∧ s.otherCells [(0x1014, 0)] (s.emcyIdPut v) ∧
    (s.emcyIdPut v).can.queue = (if bit v 31 then [] else s.can.queue) ∧ (s.emcyIdPut v).can.history = s.can.history ∧
    Step (maskOf [.od, .can]) s (s.emcyIdPut v) := by
  obtain ⟨a, ha⟩ : ∃ a : State, a = { s.putCell 0x1014 0 v with can := { s.can with cobWritten := s.can.cobWritten.set (odKey 0x1014 0) true } } := ⟨_, rfl⟩
  have hstep : Step (maskOf [.od, .can]) s a := by
    rw [ha]
    exact Step.put (F := 8388608) (State.putCell_step (Step.refl _ s) (by decide)) (by decide) rfl fun v => ⟨v.1, v.2, v.3, v.4, v.5, v.6, v.7⟩
  have ho : a.od = (s.putCell 0x1014 0 v).od := by rw [ha]
  have hq : a.can.queue = s.can.queue ∧ a.can.history = s.can.history := by
    rw [ha]
    exact ⟨rfl, rfl⟩
  have hcells : ∀ t : State, t.od = a.od → t.cell 0x1014 0 = v ∧ s.otherCells [(0x1014, 0)] t := fun t ht => by
    refine ⟨by rw [State.cell_congr (ht.trans ho), State.cell_putCell_same], fun i j hj hn => ?_⟩
    rw [State.cell_congr (ht.trans ho)]
    exact State.cell_putCell_other _ _ hj (by decide) fun e => hn (by rw [e.1, e.2]; exact List.mem_singleton_self _)
  unfold State.emcyIdPut
  rw [← ha]
  dsimp only
  split
  · obtain ⟨h1, h2⟩ := hcells { a with can := { a.can with
        queue := [], recovering := false, held := match a.can.held with
          | some (.emcy _) => none
          | h => h } } rfl
    exact ⟨h1, h2, rfl, hq.2, Step.put (F := 8388608) hstep (by decide) rfl fun v => ⟨v.1, v.2, v.3, v.4, v.5, v.6, v.7⟩⟩
  · obtain ⟨h1, h2⟩ := hcells a rfl
    exact ⟨h1, h2, hq.1, hq.2, hstep⟩

end

end Sys2Proof.Machine

namespace Sys2Proof.Proofs

open Sys2Proof.Machine

/-- Settles O43: what leaves and what waits of the node's messages, and the effect of each error of its bus. -/
theorem busErrors : Obligations.BusErrors := by
  unfold Obligations.BusErrors
  refine ⟨fun s ho => ⟨fun m rest hh hq hd => ?_, fun m hh hb => ?_⟩, fun s hu => ⟨fun st b hh hb => ?_, fun hh hq => ?_⟩,
    fun s q v hw => ⟨fun e he => ?_, fun e he hs => ?_, fun he hs => ?_⟩, fun s tr er hc hn hb => ?_, fun s hc hb => ?_, fun s hc hn => ?_⟩
  · obtain ⟨⟨h1, h2, h3, h4⟩, h5⟩ := s.emcyLeaves_outcome (m := m) (rest := rest) hd
    exact settles_step (execEmcyTransmit_queued hh hq ho) h5 ⟨h1, h2, h3, h4.trans s.emcyTime_same.2.2.2.2⟩
  · have hsend : s.heldSend = (({ s with can := { s.can with held := none } }).emcySend m).emcyRecovered m.stamp := by
      unfold State.heldSend
      simp only [hh]
    refine settles_step (execEmcyTransmit_held (by rw [hh]; rfl) (by unfold State.heldOpen; simp only [hh]; exact ho))
      (State.recoveryDone_step (State.heldSend_step (Step.refl _ s) (by decide)) (by decide)) ?_
    rw [hsend]
    obtain ⟨k1, k2, k3⟩ := State.emcySend_outcome { s with can := { s.can with held := none } } m
    obtain ⟨h1, h2, h3⟩ := State.recovered_outcome (s := s) k1 (by rw [k2]; rfl) (by rw [k2]; rfl) k3 hb m.stamp
    exact ⟨⟨s.can.passive, h1⟩, h2, h3⟩
  · have hsend : s.heldSend = (({ s with can := { s.can with held := none } }).canOut (0x700 + s.can.nodeId) (natLe 1 b)).emcyRecovered st := by
      unfold State.heldSend
      simp only [hh]
    refine settles_step (execEmcyTransmit_held (by rw [hh]; rfl) (by unfold State.heldOpen; simp only [hh]; exact hu))
      (State.recoveryDone_step (State.heldSend_step (Step.refl _ s) (by decide)) (by decide)) ?_
    rw [hsend]
    exact State.heldHeartbeat_leaves s st b hb
  · exact settles_step (execEmcyTransmit_idle hh hq hu) (State.canFlush_step (Step.refl _ s) (by decide)) s.canFlush_emits
  · exact State.refusesWrite_plain rfl hw (fxSetting_emcyId_refused (by rw [he]; rfl))
  · exact State.refusesWrite_plain rfl hw (fxSetting_emcyId_refused (by rw [he, hs]; rfl))
  · obtain ⟨h1, h2, h3, h4, h5⟩ := s.emcyIdPut_outcome v.toNat
    exact completes_step (State.odWrite_ok hw (fxSetting_emcyId he hs)) h5 ⟨h1, h2, h3, h4⟩
  · intro tec rxErr passive c now_
    have hx : exec c s = .next (State.settle s (
        let a := s.errorsAt tec rxErr
        let b := if a.can.passive && !s.can.passive then a.enterPassive else a
        if 255 < tec then b.enterBusOff er.unsent else b)) := whenSettled_true (by simp [hc, hn, hb]) ..
    dsimp only at hx
    have ha : Step (maskOf [.can]) s (s.errorsAt tec rxErr) := Step.put (F := 8388608) (Step.refl _ s) (by decide) rfl fun v => ⟨v.1, v.2, v.3, v.4, v.5, v.6, v.7⟩
    have hpas : (s.errorsAt tec rxErr).can.passive = passive := rfl
    refine ⟨fun ht hp => ?_, fun ht hp hsp => ?_, fun ht => ?_⟩
    · rw [if_neg (by omega), if_neg (by rw [hpas]; rcases hp with hp | hp <;> simp [hp])] at hx
      exact settles_step hx ha ⟨⟨rfl, rfl, rfl⟩, hb⟩
    · rw [if_neg (by omega), if_pos (by rw [hpas, hp, hsp]; rfl)] at hx
      obtain ⟨h1, -, -, h4, h5, -, -⟩ := (s.errorsAt tec rxErr).enterPassive_outcome (s := s) fun h => h
      have field : ∀ {α : Type} (f : Can → α), f (s.errorsAt tec rxErr).enterPassive.can.bus = f (s.errorsAt tec rxErr).can.bus := fun f => congrArg f h1
      exact settles_step hx (State.enterPassive_step (ha.mono (by decide)) (by decide))
        ⟨⟨field Can.tec, field Can.rxErr, field Can.passive⟩, (field Can.busOff).trans hb, h4, h5⟩
    · rw [if_pos ht] at hx
      obtain ⟨x, hxd⟩ : ∃ x, x = if (s.errorsAt tec rxErr).can.passive && !s.can.passive then (s.errorsAt tec rxErr).enterPassive
        else s.errorsAt tec rxErr := ⟨_, rfl⟩
      rw [← hxd] at hx
      obtain ⟨⟨k1, k2, k3, k4⟩, k5, k6, k7, k8⟩ : (x.can.tec = tec ∧ x.can.rxErr = rxErr ∧ x.can.passive = passive ∧ x.can.held = s.can.held) ∧ x.out = s.out ∧
          x.stamp = s.stamp ∧ x.detOf 0x0D02 = s.detOf 0x0D02 ∧ ∀ m rest, s.can.queue = m :: rest → ∃ r, x.can.queue = m :: r := by
        rw [hxd]
        split
        · obtain ⟨h1, h2, h3, -, -, h6, h7⟩ := (s.errorsAt tec rxErr).enterPassive_outcome (s := s) fun h => h
          have field : ∀ {α : Type} (f : Can → α), f (s.errorsAt tec rxErr).enterPassive.can.bus = f (s.errorsAt tec rxErr).can.bus := fun f => congrArg f h1
          exact ⟨⟨field Can.tec, field Can.rxErr, field Can.passive, field Can.held⟩, h2, h3, h6, h7⟩
        · exact ⟨⟨rfl, rfl, rfl, rfl⟩, rfl, rfl, rfl, fun m rest h => ⟨rest, h⟩⟩
      have hxs : Step (maskOf (.fw :: reportFields)) s x := by
        rw [hxd]
        exact Step.ite (fun _ => State.enterPassive_step (ha.mono (by decide)) (by decide)) fun _ => ha.mono (by decide)
      obtain ⟨⟨o1, o2, o3⟩, o4, o5, o6, o7, o8, o9, o10, o11⟩ := x.enterBusOff_outcome er.unsent
      refine settles_step hx (State.enterBusOff_step hxs (by decide)) ⟨⟨o1.trans k1, o2.trans k2, o3.trans k3⟩, o4, o5.trans k6, o6, by rw [o7, k7], o8, o9,
        fun i hi => ?_, fun m rest hh hq => ?_⟩
      · obtain ⟨ids, hm, he⟩ := o10 i hi
        exact ⟨ids, hm, State.emits_base he (by rw [k5])⟩
      · obtain ⟨r, hr⟩ := k8 m rest hq
        exact o11 m r (k4.trans hh) hr
  · obtain ⟨a, ha⟩ : ∃ a : State, a = { s with can := { (s.can.counters 0 0) with busOff := false } } := ⟨_, rfl⟩
    obtain ⟨b, hbd⟩ : ∃ b, b = if a.can.held.isNone then a.emcyRecovered a.stamp else a := ⟨_, rfl⟩
    have hx : exec .busOffRecovery s = .next (State.settle s { b with can := { b.can with recovering := b.can.held.isSome || !b.can.queue.isEmpty } }) := by
      rw [hbd, ha]
      exact whenSettled_true (by simp [hc, hb]) ..
    have hstep : Step (maskOf reportFields) s b := by
      have h0 : Step (maskOf reportFields) s a := by
        rw [ha]
        exact Step.put (F := 8388608) (Step.refl _ s) (by decide) rfl fun v => ⟨v.1, v.2, v.3, v.4, v.5, v.6, v.7⟩
      rw [hbd]
      exact Step.ite (fun _ => State.emcyRecovered_step h0 (by decide)) fun _ => h0
    have hah : a.can.held = s.can.held := by
      rw [ha]
      rfl
    have hkeep : b.can.busOff = false ∧ b.can.tec = 0 ∧ b.can.rxErr = 0 ∧ b.out = s.out ∧ b.can.held = s.can.held := by
      have h0 : a.can.busOff = false ∧ a.can.tec = 0 ∧ a.can.rxErr = 0 ∧ a.out = s.out ∧ a.can.held = s.can.held := by
        rw [ha]
        exact ⟨rfl, rfl, rfl, rfl, rfl⟩
      rw [hbd]
      unfold State.emcyRecovered
      split
      · split <;> exact h0
      · exact h0
    obtain ⟨k1, k2, k3, k4, k5⟩ := hkeep
    refine settles_step hx (Step.put (F := 8388608) hstep (by decide) rfl fun v => ⟨v.1, v.2, v.3, v.4, v.5, v.6, v.7⟩)
      ⟨k1, k2, k3, k4, k5, rfl, fun hh => ?_, fun hh h31 => ?_⟩
    · show b.can.queue = s.can.queue
      rw [hbd, if_neg (by rw [hah]; simpa using Option.isSome_iff_ne_none.1 hh), ha]
      rfl
    · have hq := (State.emcyRecovered_queue (x := a) (by rw [ha]; exact h31) a.stamp).2.2
      have hbe : b = a.emcyRecovered a.stamp := by
        rw [hbd, if_pos (by rw [hah, hh]; rfl)]
      have hst : a.stamp = s.stamp := by rw [ha]; rfl
      obtain ⟨er, he⟩ := hq
      refine ⟨er, ?_⟩
      show b.can.queue = _
      rw [hbe, he, hst, ha]
      rfl
  · refine settles_step (whenSettled_true (by simp [hc, hn]) ..) (State.emcyEvent_step (State.fire_step (Step.refl _ s) (by decide)) (by decide))
      ⟨State.hasRaised_of_within (State.emcyEvent_raises (fun h => (State.fire_keepsEmcy ..).2 h) (by decide) _), ?_⟩
    rw [(State.emcyEvent_onBus ..).calm.det _ (by decide), State.detOf_fire_count]

end Sys2Proof.Proofs
end

section
/-! The SDO server's frames (R328 to R331): what a request frame that is heard makes of the transfer. -/

namespace Sys2Proof.Machine

section

variable {s x t u : State} {c : Instr} {data resp bs : List Byte} {d : Sdo} {i j e : Nat} {fs : List Field}

/-! ### What is watched continuously leaves the server alone -/

theorem State.emcyAt_unserved (s : State) (code det st : Nat) : Unserved s (s.emcyAt code det st) := by
  have hc : (s.emcyAt code det st).can.nodeId = s.can.nodeId ∧ (s.emcyAt code det st).can.rate = s.can.rate ∧
      (s.emcyAt code det st).can.recovering = s.can.recovering ∧ (s.emcyAt code det st).can.sdo = s.can.sdo ∧
      (s.emcyAt code det st).can.later = s.can.later := by
    unfold State.emcyAt
    dsimp only
    split_ifs <;> simp
  obtain ⟨h1, h2, h3, h4, h5⟩ := hc
  have hl : ∀ j, j < 256 → (s.emcyAt code det st).cell 0x1FE1 j = s.cell 0x1FE1 j :=
    fun j hj => State.emcyAt_cell s hj (by unfold reportCell; decide)
  exact ⟨⟨(State.emcyAt_calm (fun _ h => h) (Calm.refl sideDets s) ..).out, h1, h2, h3, fun j hj => hl j (by omega)⟩, h4, h5, hl⟩

theorem State.levelCheck_unserved (s : State) : Unserved s s.levelCheck := by
  unfold State.levelCheck
  dsimp only
  split
  · exact Unserved.refl s
  · generalize (if 1 ≤ s.level ∧ s.up.t1 = 0 then s.sinceStart else s.up.t1) = t1
    generalize (if 2 ≤ s.level ∧ s.up.t2 = 0 then s.sinceStart else s.up.t2) = t2
    have h0 : Unserved s { s with up := { s.up with level := s.level, t1 := t1, t2 := t2 } } := Unserved.of_fields rfl rfl rfl
    exact h0.trans (State.emcyEvent_unserved ..)

theorem State.replaceCheck_unserved (s : State) : Unserved s s.replaceCheck := by
  unfold State.replaceCheck
  dsimp only
  split
  · exact Unserved.refl s
  · have h0 : Unserved s (({ s with replacement := true } : State).putCell 0x2B50 3 s.replaceCauses) :=
      ⟨⟨List.prefix_rfl, rfl, rfl, rfl, fun j hj => State.cell_putCell_other _ _ (by omega) (by decide) (by omega)⟩, rfl, rfl,
        fun j hj => State.cell_putCell_other _ _ hj (by decide) (by omega)⟩
    exact (h0.trans (State.fire_unserved ..)).trans (State.emcyEvent_unserved ..)

theorem State.settle_unserved (x s : State) : Unserved s (State.settle x s) := by
  have h := s.levelCheck_unserved.trans s.levelCheck.replaceCheck_unserved
  unfold State.settle
  dsimp only
  split
  · exact h.trans (State.emcyAt_unserved ..)
  · exact h

/-- What is watched continuously changes the fields of the reports alone. -/
theorem State.settle_fields {G : Nat} {s0 : State} (k : Step G s0 t) (hG : sub 81082389720990896 G = true) (x : State) : Step G s0 (State.settle x t) := by
  have hm : ∀ n, sub n 81082389720990896 = true → sub n G = true := fun n hn => sub_trans hn hG
  have h := State.replaceCheck_step (State.levelCheck_step k (hm _ (by decide))) (hm _ (by decide))
  unfold State.settle
  exact Step.ite (fun _ => State.emcyAt_step h (hm _ (by decide))) fun _ => h

/-! ### The frame that is heard -/

theorem State.canGot_can (s : State) : s.canGot.can = s.can.counters s.can.tec s.rxErrGood := rfl

theorem State.canGot_channel (s : State) : Channel s s.canGot :=
  ⟨List.prefix_rfl, rfl, rfl, rfl, fun _ hj => State.cell_bump32_other _ (by omega) (by decide) (by simp)⟩

theorem State.canGot_accessCheck (s : State) (w : Bool) (i j : Nat) : s.canGot.accessCheck w i j = s.accessCheck w i j := rfl

theorem State.canGot_cell (s : State) (h : i ≠ 0x1FD2) (hj : j < 256) : s.canGot.cell i j = s.cell i j :=
  State.cell_bump32_other _ hj (by decide) (by simp [h])

theorem State.canGot_downCheck (s : State) (i j : Nat) (size : Option Nat) : s.canGot.downCheck i j size = s.downCheck i j size := by
  unfold State.downCheck State.imageCheck
  rw [s.canGot_cell (by decide) (by decide)]
  rfl

theorem State.sdoRow_hears (h : s.sdoHears data) {row : Bool} (hr : s.sdoFits data row = true) :
    s.sdoRow data row = .next (State.settle s (s.canGot.sdoFrame data)) := by
  unfold State.sdoRow State.sdoServe
  rw [if_pos (show data.length = 8 ∧ s.sdoOpen = true from h)]
  exact whenSettled_true hr ..

theorem State.sdoFits_row (s : State) (data : List Byte) {row : Bool} (h : row = true) : s.sdoFits data row = true := by
  unfold State.sdoFits
  rw [h]
  rfl

theorem State.sdoFrame_fresh (h : s.can.sdo = none) (data : List Byte) : s.canGot.sdoFrame data = s.canGot.sdoFresh data := by
  unfold State.sdoFrame
  rw [State.canGot_can]
  simp only [Can.counters, h]

/-- A frame that is no abort, while a transfer is in progress. -/
theorem State.sdoFrame_next (h : s.can.sdo = some d) (hw : d.kind ≠ .waitWrite)
    (ha : ¬ (if d.kind = .blkDown then byteAt data 0 = 0x80 else frameCcs data = 4)) : s.canGot.sdoFrame data = s.canGot.sdoNext d data := by
  unfold State.sdoFrame
  rw [State.canGot_can]
  simp only [Can.counters, h, if_neg hw, if_neg ha]

/-! ### What ends or goes on -/

theorem State.sdoAbort_completes (hx : exec c s = .next (State.settle s (s.canGot.sdoAbort i j e))) :
    completes c s (.fresh :: reportFields) fun t => s.sdoAborts t i j e :=
  completes_step hx (State.settle_fields (State.sdoAbort_step (State.canGot_step (Step.refl _ s) (by decide)) (by decide)) (by decide) s)
    (State.sdoAborts_mono (State.sdoAbort_aborts s.canGot_channel i j e) (State.settle_unserved ..))

/-- The image that a transfer carried ends with it. -/
def State.imageOver (y : State) (d : Sdo) : State := if d.index = 0x2C20 then y.imageEnded else y

theorem State.imageOver_unserved (y : State) (d : Sdo) : Unserved y (y.imageOver d) := by
  unfold State.imageOver State.imageEnded
  split
  · split
    · exact (State.updateEnd_stands ..).toUnserved
    · exact Unserved.refl y
  · exact Unserved.refl y

theorem State.imageOver_lost (hf : x.fw = s.fw) (d : Sdo) : s.imageLost (x.imageOver d) d := by
  unfold State.imageOver
  refine ⟨fun h => by rw [if_neg h, hf], fun h hu => ?_⟩
  rw [if_pos h, State.imageEnded_inHand (by rw [hf]; tauto), State.updateEnd_fw, hf]
  refine ⟨rfl, rfl, ?_⟩
  rw [← Firmware.slot_setSlot s.fw s.fw.updB slot0]
  cases s.fw.updB <;> rfl

theorem State.imageLost_congr (h : s.imageLost t d) (hf : u.fw = t.fw) : s.imageLost u d := by
  unfold State.imageLost
  rw [hf]
  exact h

theorem State.sdoBreak_eq (x : State) (d : Sdo) (e : Nat) : x.sdoBreak d e = (x.sdoAbort d.index d.sub e).imageOver d := rfl

/-- A transfer that the server aborts, and the image that it carried. -/
theorem State.sdoBreak_breaks (hc : Channel s x) (hf : x.fw = s.fw) (d : Sdo) (e : Nat) : s.sdoBreaks (x.sdoBreak d e) d e := by
  rw [State.sdoBreak_eq]
  exact ⟨State.sdoAborts_mono (State.sdoAbort_aborts hc ..) (State.imageOver_unserved ..), State.imageOver_lost ((State.sdoAbort_served ..).fw.trans hf) d⟩

theorem State.sdoBreaks_mono (h : s.sdoBreaks t d e) (k : Unserved t u) (hf : u.fw = t.fw) : s.sdoBreaks u d e :=
  ⟨State.sdoAborts_mono h.1 k, State.imageLost_congr h.2 hf⟩

theorem State.sdoBreak_completes (hx : exec c s = .next (State.settle s (s.canGot.sdoBreak d e))) :
    completes c s (([.fresh, .fw] : List Field) ++ reportFields) fun t => s.sdoBreaks t d e :=
  completes_step hx (State.settle_fields (State.sdoBreak_step (State.canGot_step (Step.refl _ s) (by decide)) (by decide)) (by decide) s)
    (State.sdoBreaks_mono (State.sdoBreak_breaks s.canGot_channel rfl d e) (State.settle_unserved ..) (State.settle_fw ..))

/-- The server answers and goes on. -/
theorem State.setSdo_answers (hc : Channel s x) (d : Sdo) (resp : List Byte) : s.says ((x.setSdo d).sdoSend resp) resp ∧
    ((x.setSdo d).sdoSend resp).can.sdo = some d :=
  ⟨State.sdoSend_says (x := x.setSdo d) ⟨hc.out, hc.nodeId, hc.rate, hc.recovering, hc.counts⟩ resp, (State.sdoSend_sends (x.setSdo d) resp).sdo⟩

/-! ### A download's value (R327, R330) -/

theorem State.sdoWrite_error (h : x.tryWrite i j (fxWrite .sdo i j bs) = .error e) (how : Nat) (toggle : Bool) :
    x.sdoWrite how i j toggle bs = x.sdoAbort i j e := by
  unfold State.sdoWrite
  rw [h]

theorem State.sdoWrite_ok (h : x.tryWrite i j (fxWrite .sdo i j bs) = .ok t) (ho : t.sdoOpen = true) (how : Nat) (toggle : Bool) :
    x.sdoWrite how i j toggle bs = if t.defers i j (leNat bs) = true then t.setSdo { sdo0 .waitWrite i j t.now with seq := how, toggle := toggle }
      else t.downloadDone how i j toggle := by
  unfold State.sdoWrite
  rw [h]
  exact if_neg (by rw [ho]; decide)

theorem downloads_of {how : Nat} {toggle : Bool} (hx : exec c s = .next (State.settle s (s.canGot.sdoWrite how i j toggle bs)))
    (hr : ∀ x : State, x.downloadDone how i j toggle = x.sdoDone resp) : s.downloads c how i j toggle bs resp := by
  refine ⟨fun e he => ?_, fun t ht ho => ?_⟩
  · rw [State.sdoWrite_error he] at hx
    exact State.sdoAbort_completes hx
  · rw [State.sdoWrite_ok ht ho] at hx
    refine ⟨_, hx, ?_⟩
    cases hd : t.defers i j (leNat bs) with
    | true =>
      rw [if_pos rfl, if_pos rfl]
      exact ⟨(State.settle_fields (State.setSdo_step (Step.refl _ t) (by decide)) (by decide) s).onlyOf,
        (State.settle_unserved s _).sdo⟩
    | false =>
      rw [if_neg (by decide), if_neg (by decide), hr]
      exact ⟨(State.settle_fields (State.sdoDone_step (Step.refl _ t) (by decide)) (by decide) s).onlyOf,
        State.sdoEnds_mono (State.sdoDone_ends (Unserved.refl t).toChannel resp) (State.settle_unserved s _)⟩

end

end Sys2Proof.Machine
end

section
/-! O44: SDO downloads (R329 to R331). -/

namespace Sys2Proof.Machine

section

variable {s x t u : State} {c : Instr} {data resp bs : List Byte} {d : Sdo} {i j e : Nat} {size : Option Nat}

theorem State.sdoFresh_initDown (x : State) (h : frameCcs data = 1) : x.sdoFresh data = x.sdoInitDown data := by
  unfold State.sdoFresh
  simp only [h]

theorem State.sdoFresh_initBlkDown (x : State) (h : frameCcs data = 6) (hb : byteAt data 0 % 2 = 0) : x.sdoFresh data = x.sdoInitBlkDown data := by
  unfold State.sdoFresh
  simp only [h, hb, if_true]

/-- A segmented or block download begins (R329). -/
theorem State.downBegin_outcome (x : State) (kind : SdoKind) (i j : Nat) (size : Option Nat) (crc : Bool) :
    Step (maskOf (.fw :: [.od, .can, .out, .fresh])) x (x.downBegin kind i j size crc) ∧ (i ≠ 0x2C20 → (x.downBegin kind i j size crc).fw = x.fw) ∧
      Channel x (x.downBegin kind i j size crc) ∧
      (x.downBegin kind i j size crc).can.sdo = some { sdo0 kind i j x.now with size := size, blksize := 127, crc := crc } := by
  have h0 : Step (maskOf (.fw :: [.od, .can, .out, .fresh])) x (x.setSdo { sdo0 kind i j x.now with size := size, blksize := 127, crc := crc }) :=
    State.setSdo_step (Step.refl _ x) (by decide)
  unfold State.downBegin
  dsimp only
  split
  · next hi =>
    exact ⟨Step.put (F := 36028797018963968) h0 (by decide) rfl fun v => ⟨v.1, v.2, v.3, v.4, v.5, v.6, v.7⟩, fun h => absurd hi h,
      ⟨List.prefix_rfl, rfl, rfl, rfl, fun _ _ => rfl⟩, rfl⟩
  · exact ⟨h0, fun _ => rfl, ⟨List.prefix_rfl, rfl, rfl, rfl, fun _ _ => rfl⟩, rfl⟩

theorem downBegin_settles {kind : SdoKind} {crc : Bool} (hx : exec c s = .next (State.settle s ((s.canGot.downBegin kind i j size crc).sdoSend resp))) :
    settles c s (.fw :: [.od, .can, .out, .fresh]) fun u => s.says u resp ∧ (i ≠ 0x2C20 → u.fw = s.fw) ∧
      u.can.sdo = some { sdo0 kind i j s.now with size := size, blksize := 127, crc := crc } := by
  obtain ⟨h1, h2, h3, h4⟩ := s.canGot.downBegin_outcome kind i j size crc
  obtain ⟨y, hy⟩ : ∃ y, y = s.canGot.downBegin kind i j size crc := ⟨_, rfl⟩
  rw [← hy] at hx h1 h2 h3 h4
  have hk := State.sdoSend_sends y resp
  exact settles_step hx ((State.canGot_step (Step.refl _ s) (by decide)).trans (State.sdoSend_step h1 (by decide)))
    ⟨State.sdoSend_says (s.canGot_channel.trans h3) resp, fun hi => (hk.step.fw (by decide)).trans (h2 hi), hk.sdo.trans h4⟩

/-- A value whose access is refused. -/
theorem downloads_denied {how : Nat} {toggle : Bool} (ha : s.accessCheck true i j = some e)
    (hx : exec c s = .next (State.settle s (s.canGot.sdoAbort i j e))) : s.downloads c how i j toggle bs resp := by
  have ht : s.canGot.tryWrite i j (fxWrite .sdo i j bs) = .error e := by
    unfold State.tryWrite
    rw [State.canGot_accessCheck, ha]
  refine ⟨fun e' he => ?_, fun t ht' _ => ?_⟩
  · rw [ht] at he
    cases he
    exact State.sdoAbort_completes hx
  · rw [ht] at ht'
    cases ht'

/-- The frames of a download that begins. -/
theorem sdoInitDown_settled (hx : exec c s = .next (State.settle s (s.canGot.sdoInitDown data))) :
    let b0 := byteAt data 0
    let index := frameIndex data
    let sub := frameSub data
    let size := if bit b0 0 then some (leNat (data.drop 4)) else none
    (bit b0 1 = true → s.downloads c 0 index sub false (expeditedBytes data) (natLe 1 0x60 ++ sdoMux index sub)) ∧
    (∀ e, s.accessCheck true index sub = some e → completes c s (.fresh :: reportFields) fun t => s.sdoAborts t index sub e) ∧
    (bit b0 1 = false → s.accessCheck true index sub = none →
      (∀ e, s.downCheck index sub size = some e → completes c s (.fresh :: reportFields) fun t => s.sdoAborts t index sub e) ∧
      (s.downCheck index sub size = none → settles c s (.fw :: [.od, .can, .out, .fresh]) fun u =>
        s.says u (natLe 1 0x60 ++ sdoMux index sub) ∧ (index ≠ 0x2C20 → u.fw = s.fw) ∧
        u.can.sdo = some { sdo0 .segDown index sub s.now with size := size, blksize := 127, crc := false })) := by
  intro b0 index sub size
  have hu : s.canGot.sdoInitDown data = match s.accessCheck true index sub with
      | some c => s.canGot.sdoAbort index sub c
      | none =>
        if bit b0 1 then s.canGot.sdoWrite 0 index sub false (expeditedBytes data)
        else match s.downCheck index sub size with
          | some c => s.canGot.sdoAbort index sub c
          | none => (s.canGot.downBegin .segDown index sub size false).sdoSend (natLe 1 0x60 ++ sdoMux index sub) := by
    rw [← State.canGot_accessCheck, ← State.canGot_downCheck]
    rfl
  rw [hu] at hx
  refine ⟨fun hb => ?_, fun e he => ?_, fun hb ha => ⟨fun e he => ?_, fun hn => ?_⟩⟩
  · cases ha : s.accessCheck true index sub with
    | none =>
      simp only [ha, hb, if_true] at hx
      exact downloads_of hx fun _ => rfl
    | some e' =>
      simp only [ha] at hx
      exact downloads_denied ha hx
  · simp only [he] at hx
    exact State.sdoAbort_completes hx
  · simp only [ha, hb, he, Bool.false_eq_true, if_false] at hx
    exact State.sdoAbort_completes hx
  · simp only [ha, hb, hn, Bool.false_eq_true, if_false] at hx
    exact downBegin_settles hx

theorem sdoInitBlkDown_settled (hx : exec c s = .next (State.settle s (s.canGot.sdoInitBlkDown data))) :
    let b0 := byteAt data 0
    let index := frameIndex data
    let sub := frameSub data
    let size := if bit b0 1 then some (leNat (data.drop 4)) else none
    (∀ e, s.accessCheck true index sub = some e → completes c s (.fresh :: reportFields) fun t => s.sdoAborts t index sub e) ∧
    (s.accessCheck true index sub = none →
      (∀ e, s.downCheck index sub size = some e → completes c s (.fresh :: reportFields) fun t => s.sdoAborts t index sub e) ∧
      (s.downCheck index sub size = none → settles c s (.fw :: [.od, .can, .out, .fresh]) fun u =>
        s.says u (natLe 1 0xA4 ++ sdoMux index sub ++ natLe 1 127) ∧ (index ≠ 0x2C20 → u.fw = s.fw) ∧
        u.can.sdo = some { sdo0 .blkDown index sub s.now with size := size, blksize := 127, crc := bit b0 2 })) := by
  intro b0 index sub size
  have hu : s.canGot.sdoInitBlkDown data = match s.accessCheck true index sub with
      | some c => s.canGot.sdoAbort index sub c
      | none => match s.downCheck index sub size with
        | some c => s.canGot.sdoAbort index sub c
        | none => (s.canGot.downBegin .blkDown index sub size (bit b0 2)).sdoSend (natLe 1 0xA4 ++ sdoMux index sub ++ natLe 1 127) := by
    rw [← State.canGot_accessCheck, ← State.canGot_downCheck]
    rfl
  rw [hu] at hx
  refine ⟨fun e he => ?_, fun ha => ⟨fun e he => ?_, fun hn => ?_⟩⟩
  · simp only [he] at hx
    exact State.sdoAbort_completes hx
  · simp only [ha, he] at hx
    exact State.sdoAbort_completes hx
  · simp only [ha, hn] at hx
    exact downBegin_settles hx

/-! ### Segments (R329) -/

/-- An answer after which the transfer goes on. -/
theorem setSdo_settles {y : Sdo} (hx : exec c s = .next (State.settle s ((s.canGot.setSdo y).sdoSend resp))) :
    settles c s [.od, .can, .out, .fresh] fun u => s.says u resp ∧ u.can.sdo = some y :=
  settles_step hx (State.sdoSend_step (State.setSdo_step (State.canGot_step (Step.refl _ s) (by decide)) (by decide)) (by decide))
    (State.setSdo_answers s.canGot_channel y resp)

theorem sdoSegDown_settled (hi : d.index ≠ 0x2C20) (hx : exec c s = .next (State.settle s (s.canGot.sdoSegDown d data))) :
    let b0 := byteAt data 0
    let all := d.data ++ (data.drop 1).take (7 - bits b0 3 1)
    let resp := natLe 1 (0x20 + flag d.toggle * 16)
    let breaks := fun (e : Nat) => completes c s (([.fresh, .fw] : List Field) ++ reportFields) fun t => s.sdoBreaks t d e
    (bit b0 4 ≠ d.toggle → breaks 0x05030000) ∧
    (bit b0 4 = d.toggle →
      (bit b0 0 = false → settles c s [.od, .can, .out, .fresh] fun u => s.says u resp ∧
        u.can.sdo = some { d with data := all, toggle := !d.toggle, lastAt := s.now }) ∧
      (bit b0 0 = true → (d.sizeWrong all.length = true → breaks 0x06070010) ∧
        (d.sizeWrong all.length = false → s.downloads c 1 d.index d.sub d.toggle all resp))) := by
  intro b0 all resp breaks
  have hu : s.canGot.sdoSegDown d data = if bit b0 4 ≠ d.toggle then s.canGot.sdoBreak d 0x05030000
      else if d.index = 0x2C20 then s.canGot.sdoImageSeg d ((data.drop 1).take (7 - bits b0 3 1)) (bit b0 0)
      else if bit b0 0 = false then (s.canGot.setSdo { d with data := all, toggle := !d.toggle, lastAt := s.now }).sdoSend resp
      else if d.sizeWrong all.length then s.canGot.sdoBreak d 0x06070010
      else s.canGot.sdoWrite 1 d.index d.sub d.toggle all := rfl
  rw [hu, if_neg hi] at hx
  refine ⟨fun ht => ?_, fun ht => ⟨fun h0 => ?_, fun h0 => ⟨fun hw => ?_, fun hw => ?_⟩⟩⟩
  · rw [if_pos ht] at hx
    exact State.sdoBreak_completes hx
  · rw [if_neg (not_not.mpr ht), if_pos h0] at hx
    exact setSdo_settles hx
  · rw [if_neg (not_not.mpr ht), if_neg (by rw [h0]; decide), if_pos hw] at hx
    exact State.sdoBreak_completes hx
  · rw [if_neg (not_not.mpr ht), if_neg (by rw [h0]; decide), if_neg (by rw [hw]; decide)] at hx
    exact downloads_of hx fun _ => rfl

theorem sdoBlkSeg_settled (hi : d.index ≠ 0x2C20) (hx : exec c s = .next (State.settle s (s.canGot.sdoBlkSeg d data))) :
    let b0 := byteAt data 0
    let d1 : Sdo := { d with data := d.data ++ data.drop 1, seq := d.seq + 1, lastAt := s.now }
    let ack := natLe 1 0xA2 ++ natLe 1 (d.seq + 1) ++ natLe 1 127
    let fs : List Field := [.od, .can, .out, .fresh]
    (bits b0 6 0 ≠ d.seq + 1 → completes c s (([.fresh, .fw] : List Field) ++ reportFields) fun t => s.sdoBreaks t d 0x05040003) ∧
    (bits b0 6 0 = d.seq + 1 →
      (bit b0 7 = true → settles c s fs fun u => s.says u ack ∧ u.can.sdo = some { d1 with kind := .blkDownEnd }) ∧
      (bit b0 7 = false → d.seq + 1 = d.blksize → settles c s fs fun u => s.says u ack ∧ u.can.sdo = some { d1 with seq := 0 }) ∧
      (bit b0 7 = false → d.seq + 1 ≠ d.blksize → settles c s fs fun u => u.out = s.out ∧ u.can.sdo = some d1)) := by
  intro b0 d1 ack fs
  have hu : s.canGot.sdoBlkSeg d data = if bits b0 6 0 ≠ d.seq + 1 then s.canGot.sdoBreak d 0x05040003
      else if d.index = 0x2C20 ∧ s.canGot.cell 0x2C21 2 ≤ d.data.length then s.canGot.sdoBreak d 0x06040043
      else
        let a := if d.index = 0x2C20 ∧ d.data ≠ [] then s.canGot.imageBytes 7 else s.canGot
        if bit b0 7 then (a.setSdo { d1 with kind := .blkDownEnd }).sdoSend ack
        else if d.seq + 1 = d.blksize then (a.setSdo { d1 with seq := 0 }).sdoSend ack
        else a.setSdo d1 := rfl
  rw [hu, if_neg fun h : d.index = 0x2C20 ∧ s.canGot.cell 0x2C21 2 ≤ d.data.length => hi h.1] at hx
  dsimp only at hx
  rw [if_neg fun h : d.index = 0x2C20 ∧ d.data ≠ [] => hi h.1] at hx
  refine ⟨fun hs => ?_, fun hs => ⟨fun h7 => ?_, fun h7 hb => ?_, fun h7 hb => ?_⟩⟩
  · rw [if_pos hs] at hx
    exact State.sdoBreak_completes hx
  · rw [if_neg (not_not.mpr hs), if_pos h7] at hx
    exact setSdo_settles hx
  · rw [if_neg (not_not.mpr hs), if_neg (by rw [h7]; decide), if_pos hb] at hx
    exact setSdo_settles hx
  · rw [if_neg (not_not.mpr hs), if_neg (by rw [h7]; decide), if_neg hb] at hx
    exact settles_step hx (State.setSdo_step (State.canGot_step (Step.refl _ s) (by decide)) (by decide)) ⟨rfl, rfl⟩

theorem sdoBlkDownEnd_settled (hi : d.index ≠ 0x2C20) (hx : exec c s = .next (State.settle s (s.canGot.sdoBlkDownEnd d data))) :
    let all := d.data.take (d.data.length - bits (byteAt data 0) 4 2)
    let crcWrong := d.crc = true ∧ sdoCrc all ≠ leNat ((data.drop 1).take 2)
    let breaks := fun (e : Nat) => completes c s (([.fresh, .fw] : List Field) ++ reportFields) fun t => s.sdoBreaks t d e
    (crcWrong → breaks 0x05040004) ∧ (¬ crcWrong → d.sizeWrong all.length = true → breaks 0x06070010) ∧
      (¬ crcWrong → d.sizeWrong all.length = false → s.downloads c 2 d.index d.sub false all (natLe 1 0xA1)) := by
  intro all crcWrong breaks
  have hu : s.canGot.sdoBlkDownEnd d data = if d.crc = true ∧ sdoCrc all ≠ leNat ((data.drop 1).take 2) then s.canGot.sdoBreak d 0x05040004
      else if d.index = 0x2C20 then
        if all.length ≠ s.canGot.cell 0x2C21 2 then s.canGot.sdoBreak d 0x06040043
        else (s.canGot.imageBytes (7 - bits (byteAt data 0) 4 2)).setSdo { d with kind := .waitWrite, seq := 2, data := [] }
      else if d.sizeWrong all.length then s.canGot.sdoBreak d 0x06070010
      else s.canGot.sdoWrite 2 d.index d.sub false all := rfl
  rw [hu, if_neg hi] at hx
  refine ⟨fun hc => ?_, fun hc hw => ?_, fun hc hw => ?_⟩
  · rw [if_pos hc] at hx
    exact State.sdoBreak_completes hx
  · rw [if_neg hc, if_pos hw] at hx
    exact State.sdoBreak_completes hx
  · rw [if_neg hc, if_neg (by rw [hw]; decide)] at hx
    exact downloads_of hx fun _ => rfl

end

end Sys2Proof.Machine

namespace Sys2Proof.Proofs

open Sys2Proof.Machine

/-- Settles O44: the frames of a download, from its start to its last, and what each answers. -/
theorem sdoDownloads : Obligations.SdoDownloads := by
  unfold Obligations.SdoDownloads
  intro s data hh b0 index sub fs refuses breaks starts
  have row : ∀ {r : Bool}, r = true → s.sdoRow data r = .next (State.settle s (s.canGot.sdoFrame data)) := fun h =>
    State.sdoRow_hears hh (s.sdoFits_row data h)
  refine ⟨fun hn => ⟨fun h1 => ?_, fun h6 hb => ?_⟩, fun d hd hi => ⟨fun hk h0 => ?_, fun hk hb => ?_, fun hk h6 hb => ?_⟩⟩
  · refine sdoInitDown_settled (c := .sdoInitiateDownload data) ?_
    rw [← State.sdoFresh_initDown _ h1, ← State.sdoFrame_fresh hn]
    exact row (by rw [h1]; rfl)
  · refine sdoInitBlkDown_settled (c := .sdoBlockDownloadInitiate data) ?_
    rw [← State.sdoFresh_initBlkDown _ h6 hb, ← State.sdoFrame_fresh hn]
    exact row (by rw [h6, hb]; rfl)
  · refine sdoSegDown_settled (c := .sdoDownloadSegment data) hi ?_
    have hx : s.canGot.sdoFrame data = s.canGot.sdoSegDown d data := by
      rw [State.sdoFrame_next hd (by rw [hk]; decide) (by simp [hk, h0])]
      unfold State.sdoNext
      simp only [hk, h0, if_true]
    rw [← hx]
    exact row (by rw [h0]; rfl)
  · refine sdoBlkSeg_settled (c := .sdoBlockDownloadSubblock [data]) hi ?_
    have hx : s.canGot.sdoFrame data = s.canGot.sdoBlkSeg d data := by
      rw [State.sdoFrame_next hd (by rw [hk]; decide) (by rw [hk]; exact hb)]
      unfold State.sdoNext
      simp only [hk]
    have hs : s.sdoServe data = s.canGot.sdoFrame data := if_pos hh
    rw [← hx, ← hs]
    exact whenSettled_true rfl ..
  · refine sdoBlkDownEnd_settled (c := .sdoBlockDownloadEnd data) hi ?_
    have hx : s.canGot.sdoFrame data = s.canGot.sdoBlkDownEnd d data := by
      rw [State.sdoFrame_next hd (by rw [hk]; decide) (by simp [hk, h6])]
      unfold State.sdoNext
      simp only [hk]
      exact if_pos ⟨h6, hb⟩
    rw [← hx]
    exact row (by rw [h6, hb]; rfl)

end Sys2Proof.Proofs
end

section
/-! O45: SDO uploads and the ends of transfers (R329 to R331). -/

namespace Sys2Proof.Machine

section

variable {s x t u : State} {c : Instr} {data resp bs : List Byte} {d : Sdo} {i j e : Nat}

/-! ### Uploads -/

/-- The transfer's last response. -/
theorem sdoDone_settles (hc : Channel s x) (hs : Step (maskOf [.od, .can, .out, .fresh]) s x) (hx : exec c s = .next (State.settle s (x.sdoDone resp))) :
    settles c s [.od, .can, .out, .fresh] fun u => s.sdoEnds u resp :=
  settles_step hx (State.sdoDone_step hs (by decide)) (State.sdoDone_ends hc resp)

theorem setSdo_settles_from {y : Sdo} (hc : Channel s x) (hs : Step (maskOf [.od, .can, .out, .fresh]) s x)
    (hx : exec c s = .next (State.settle s ((x.setSdo y).sdoSend resp))) :
    settles c s [.od, .can, .out, .fresh] fun u => s.says u resp ∧ u.can.sdo = some y :=
  settles_step hx (State.sdoSend_step (State.setSdo_step hs (by decide)) (by decide)) (State.setSdo_answers hc y resp)

theorem State.canGot_fields (s : State) : Step (maskOf [.od, .can, .out, .fresh]) s s.canGot := State.canGot_step (Step.refl _ s) (by decide)

/-- The value is captured, which takes a free word. -/
theorem State.canGotDraw_channel (s : State) : Channel s s.canGot.draw ∧ Step (maskOf [.od, .can, .out, .fresh]) s s.canGot.draw :=
  ⟨⟨s.canGot_channel.out, s.canGot_channel.nodeId, s.canGot_channel.rate, s.canGot_channel.recovering, s.canGot_channel.counts⟩,
    State.draw_step s.canGot_fields (by decide)⟩

theorem sdoInitUp_settled (hx : exec c s = .next (State.settle s (s.canGot.sdoInitUp data))) :
    let index := frameIndex data
    let sub := frameSub data
    let fs : List Field := [.od, .can, .out, .fresh]
    (∀ e, s.canGot.odRead index sub = .error e → completes c s (.fresh :: reportFields) fun t => s.sdoAborts t index sub e) ∧
    ∀ bs, s.canGot.odRead index sub = .ok bs →
      (expedited index sub = true → settles c s fs fun u => s.sdoEnds u (natLe 1 (0x43 + (4 - bs.length) * 4) ++ sdoMux index sub ++ bs)) ∧
      (expedited index sub = false → settles c s fs fun u => s.says u (natLe 1 0x41 ++ sdoMux index sub ++ natLe 4 bs.length) ∧
        u.can.sdo = some { sdo0 .segUp index sub s.now with data := bs }) := by
  intro index sub fs
  obtain ⟨hch, hst⟩ := s.canGotDraw_channel
  unfold State.sdoInitUp at hx
  refine ⟨fun e he => ?_, fun bs hb => ⟨fun hp => ?_, fun hp => ?_⟩⟩
  · simp only [index, sub] at he
    simp only [he] at hx
    exact State.sdoAbort_completes hx
  · simp only [index, sub] at hb hp
    simp only [hb, hp, if_true] at hx
    exact sdoDone_settles hch hst hx
  · simp only [index, sub] at hb hp
    simp only [hb, hp, Bool.false_eq_true, if_false] at hx
    exact setSdo_settles_from hch hst hx

theorem sdoInitBlkUp_settled (hx : exec c s = .next (State.settle s (s.canGot.sdoInitBlkUp data))) :
    let index := frameIndex data
    let sub := frameSub data
    let refuses := fun (e : Nat) => completes c s (.fresh :: reportFields) fun t => s.sdoAborts t index sub e
    (∀ e, s.canGot.odRead index sub = .error e → refuses e) ∧
    ∀ bs, s.canGot.odRead index sub = .ok bs → (blksizeOk (byteAt data 4) = false → refuses 0x05040002) ∧
      (blksizeOk (byteAt data 4) = true → settles c s [.od, .can, .out, .fresh] fun u =>
        s.says u (natLe 1 0xC6 ++ sdoMux index sub ++ natLe 4 bs.length) ∧
        u.can.sdo = some { sdo0 .blkUpStart index sub s.now with data := bs, blksize := byteAt data 4, crc := bit (byteAt data 0) 2 }) := by
  intro index sub refuses
  obtain ⟨hch, hst⟩ := s.canGotDraw_channel
  unfold State.sdoInitBlkUp at hx
  refine ⟨fun e he => ?_, fun bs hb => ⟨fun hp => ?_, fun hp => ?_⟩⟩
  · simp only [index, sub] at he
    simp only [he] at hx
    exact State.sdoAbort_completes hx
  · simp only [index, sub] at hb
    simp only [hb, hp, if_true] at hx
    exact State.sdoAbort_completes hx
  · simp only [index, sub] at hb
    simp only [hb, hp, Bool.true_eq_false, if_false] at hx
    exact setSdo_settles_from hch hst hx

theorem sdoSegUp_settled (hx : exec c s = .next (State.settle s (s.canGot.sdoSegUp d data))) :
    let part := (d.data.drop d.pos).take 7
    let last := decide (d.data.length ≤ d.pos + 7)
    let resp := natLe 1 (flag d.toggle * 16 + (7 - part.length) * 2 + flag last) ++ part
    let b0 := byteAt data 0
    let fs : List Field := [.od, .can, .out, .fresh]
    (bit b0 4 ≠ d.toggle → completes c s (([.fresh, .fw] : List Field) ++ reportFields) fun t => s.sdoBreaks t d 0x05030000) ∧
    (bit b0 4 = d.toggle → last = true → settles c s fs fun u => s.sdoEnds u resp) ∧
    (bit b0 4 = d.toggle → last = false → settles c s fs fun u => s.says u resp ∧
      u.can.sdo = some { d with pos := d.pos + 7, toggle := !d.toggle, lastAt := s.now }) := by
  intro part last resp b0 fs
  have hu : s.canGot.sdoSegUp d data = if bit b0 4 ≠ d.toggle then s.canGot.sdoBreak d 0x05030000
      else if last then s.canGot.sdoDone resp
      else (s.canGot.setSdo { d with pos := d.pos + 7, toggle := !d.toggle, lastAt := s.now }).sdoSend resp := rfl
  rw [hu] at hx
  refine ⟨fun ht => ?_, fun ht hl => ?_, fun ht hl => ?_⟩
  · rw [if_pos ht] at hx
    exact State.sdoBreak_completes hx
  · rw [if_neg (not_not.mpr ht), if_pos hl] at hx
    exact sdoDone_settles s.canGot_channel s.canGot_fields hx
  · rw [if_neg (not_not.mpr ht), if_neg (by rw [hl]; decide)] at hx
    exact setSdo_settles_from s.canGot_channel s.canGot_fields hx

/-! ### Blocks of segments (R318, R329) -/

/-- The segments of a block leave at once where nothing waits, in their order. -/
theorem State.segments_out (f : Nat → List Byte) (k : Nat) (x : State) (hr : x.can.recovering = false) (hl : x.can.later = []) :
    ∃ esi : Nat → Bool, (each (List.range k) (fun x i => x.sdoSend (f i)) x).out = x.out ++ (List.range k).map (fun i =>
      Output.can (0x580 + x.can.nodeId) (pad 8 (f i)) (x.can.rate != 0) (esi i)) := by
  have send : ∀ (y : State) i, y.can.recovering = false → y.can.later = [] → (y.sdoSend (f i)).out = y.out ++
      [Output.can (0x580 + y.can.nodeId) (pad 8 (f i)) (y.can.rate != 0) y.can.passive] ∧ (y.sdoSend (f i)).can.later = [] := by
    intro y i h1 h2
    have hg : y.canGated = false := by
      unfold State.canGated
      rw [h1]
      rfl
    have hf : y.canFlush = { y with can := { y.can with later := [] } } := by
      unfold State.canFlush
      rw [h2]
      rfl
    unfold State.sdoSend
    rw [State.canSend_leaves _ _ _ hg, hf]
    exact ⟨rfl, rfl⟩
  have key : ∀ (l : List Nat) (y : State), y.can.recovering = false → y.can.later = [] → y.can.nodeId = x.can.nodeId → y.can.rate = x.can.rate →
      ∃ ps : List Bool, ps.length = l.length ∧ (each l (fun x i => x.sdoSend (f i)) y).out = y.out ++ (l.zip ps).map (fun p =>
        Output.can (0x580 + x.can.nodeId) (pad 8 (f p.1)) (x.can.rate != 0) p.2) := fun l => by
    induction l with
    | nil => exact fun y _ _ _ _ => ⟨[], rfl, (List.append_nil _).symm⟩
    | cons a r ih =>
      intro y h1 h2 h3 h4
      have hk := y.sdoSend_sends (f a)
      obtain ⟨o1, o2⟩ := send y a h1 h2
      obtain ⟨ps, hp, ho⟩ := ih (y.sdoSend (f a)) (hk.recovering.trans h1) o2 (hk.nodeId.trans h3) (hk.rate.trans h4)
      refine ⟨y.can.passive :: ps, by simp [hp], ho.trans ?_⟩
      rw [o1, h3, h4]
      simp
  obtain ⟨ps, hp, ho⟩ := key (List.range k) x hr hl rfl rfl
  refine ⟨fun i => ps.getD i false, ho.trans (congrArg (x.out ++ ·) ?_)⟩
  refine List.ext_getElem (by simp [hp]) fun n h1 h2 => ?_
  have hn : n < ps.length := by
    rw [hp]
    simpa using h2
  simp [List.getElem?_eq_getElem hn]

/-- A block of an upload leaves, and its acknowledgement is awaited. -/
theorem State.sdoBlock_sends (s : State) (d : Sdo) : s.sendsBlock (s.canGot.sdoBlock d) d := by
  refine ⟨fun hr hl => ?_, rfl⟩
  obtain ⟨esi, he⟩ := State.segments_out (fun i => natLe 1 (i + 1 + flag (i + 1 == max 1 (((d.data.drop d.pos).length + 6) / 7)) * 128) ++
    ((d.data.drop d.pos).drop (7 * i)).take 7) (min (max 1 (((d.data.drop d.pos).length + 6) / 7)) d.blksize) s.canGot hr hl
  exact ⟨esi, [], he.trans (List.append_nil _).symm⟩

theorem sdoBlock_settled {y : Sdo} (hx : exec c s = .next (State.settle s (s.canGot.sdoBlock y))) :
    settles c s [.od, .can, .out, .fresh] fun u => s.sendsBlock u y :=
  settles_step hx (State.sdoBlock_step s.canGot_fields (by decide)) (s.sdoBlock_sends y)

theorem sdoBlkAck_settled (hx : exec c s = .next (State.settle s (s.canGot.sdoBlkAck d data))) :
    let pos := d.pos + 7 * byteAt data 1
    let fs : List Field := [.od, .can, .out, .fresh]
    let breaks := fun (e : Nat) => completes c s (([.fresh, .fw] : List Field) ++ reportFields) fun t => s.sdoBreaks t d e
    (d.seq < byteAt data 1 → breaks 0x05040003) ∧
    (byteAt data 1 ≤ d.seq → (blksizeOk (byteAt data 2) = false → breaks 0x05040002) ∧
      (blksizeOk (byteAt data 2) = true →
        (byteAt data 1 = d.seq → d.data.length ≤ pos → settles c s fs fun u =>
          s.says u (natLe 1 (0xC1 + (pos - d.data.length) * 4) ++ natLe 2 (if d.crc then sdoCrc d.data else 0)) ∧
          u.can.sdo = some { d with kind := .blkUpEnd, lastAt := s.now }) ∧
        (byteAt data 1 < d.seq ∨ pos < d.data.length → settles c s fs fun u => s.sendsBlock u { d with pos := pos, blksize := byteAt data 2 }))) := by
  intro pos fs breaks
  have hu : s.canGot.sdoBlkAck d data = if d.seq < byteAt data 1 then s.canGot.sdoBreak d 0x05040003
      else if blksizeOk (byteAt data 2) = false then s.canGot.sdoBreak d 0x05040002
      else if byteAt data 1 = d.seq ∧ d.data.length ≤ pos then (s.canGot.setSdo { d with kind := .blkUpEnd, lastAt := s.now }).sdoSend
        (natLe 1 (0xC1 + (pos - d.data.length) * 4) ++ natLe 2 (if d.crc then sdoCrc d.data else 0))
      else s.canGot.sdoBlock { d with pos := pos, blksize := byteAt data 2 } := rfl
  rw [hu] at hx
  refine ⟨fun h => ?_, fun h => ⟨fun hb => ?_, fun hb => ⟨fun h1 h2 => ?_, fun hm => ?_⟩⟩⟩
  · rw [if_pos h] at hx
    exact State.sdoBreak_completes hx
  · rw [if_neg (by omega), if_pos hb] at hx
    exact State.sdoBreak_completes hx
  · rw [if_neg (by omega), if_neg (by rw [hb]; decide), if_pos ⟨h1, h2⟩] at hx
    exact setSdo_settles_from s.canGot_channel s.canGot_fields hx
  · rw [if_neg (by omega), if_neg (by rw [hb]; decide), if_neg (by omega)] at hx
    exact sdoBlock_settled hx

/-- The client has the last block (R329). -/
theorem sdoUpEnd_settled (hx : exec c s = .next (State.settle s (s.canGot.sdoIdle.bump32 0x1FE1 1))) :
    settles c s [.od, .can, .out, .fresh] fun u => u.out = s.out ∧ u.can.sdo = none ∧ u.cell 0x1FE1 1 = (s.cell 0x1FE1 1 + 1) % 2 ^ 32 := by
  have hc : s.canGot.sdoIdle.cell 0x1FE1 1 = s.cell 0x1FE1 1 := (State.cell_congr rfl 0x1FE1 1).trans (s.canGot_cell (by decide) (by decide))
  obtain ⟨y, hy⟩ : ∃ y, y = s.canGot.sdoIdle := ⟨_, rfl⟩
  have hs : Step (maskOf [.od, .can, .out, .fresh]) s y := by
    rw [hy]
    exact State.sdoIdle_step s.canGot_fields (by decide)
  have ho : y.out = s.out ∧ y.can.sdo = none := by
    rw [hy]
    exact ⟨rfl, rfl⟩
  rw [← hy] at hc hx
  exact settles_step hx (State.bump32_step hs (by decide)) ⟨ho.1, ho.2, by rw [State.cell_bump32_same, hc]⟩

/-! ### The ends of a transfer (R330) -/

theorem State.sdoFresh_initUp (x : State) (h : frameCcs data = 2) : x.sdoFresh data = x.sdoInitUp data := by
  unfold State.sdoFresh
  simp only [h]

theorem State.sdoFresh_abort (x : State) (h : frameCcs data = 4) : x.sdoFresh data = x.bump32 0x1FE1 3 := by
  unfold State.sdoFresh
  simp only [h]

theorem State.sdoFresh_initBlkUp (x : State) (h : frameCcs data = 5) (hb : byteAt data 0 % 4 = 0) : x.sdoFresh data = x.sdoInitBlkUp data := by
  unfold State.sdoFresh
  simp only [h, hb, if_true]

/-- A frame that comes while a write waits is held. -/
theorem State.sdoFrame_holds (h : s.can.sdo = some d) (hw : d.kind = .waitWrite) (hh : s.can.sdoHeld = none) (data : List Byte) :
    s.canGot.sdoFrame data = { s.canGot with can := { s.canGot.can with sdoHeld := some data } } := by
  unfold State.sdoFrame
  rw [State.canGot_can]
  simp only [Can.counters, h, hh, if_pos hw, Option.isSome_none, Bool.false_eq_true, if_false]

/-- The client's abort. -/
theorem State.sdoFrame_clientAbort (h : s.can.sdo = some d) (hw : d.kind ≠ .waitWrite) (hb : d.kind ≠ .blkDown) (h4 : frameCcs data = 4) :
    s.canGot.sdoFrame data = s.canGot.sdoClientAbort d := by
  unfold State.sdoFrame
  rw [State.canGot_can]
  simp only [Can.counters, h, if_neg hw, if_neg hb, if_pos h4]

theorem State.sdoNext_unexpected (x : State) (hw : d.kind ≠ .waitWrite) (hb : d.kind ≠ .blkDown) (h : ¬ d.expects data) :
    x.sdoNext d data = x.sdoBreak d 0x05040001 := by
  unfold Sdo.expects at h
  unfold State.sdoNext
  cases hk : d.kind with
  | waitWrite => exact absurd hk hw
  | blkDown => exact absurd hk hb
  | segDown => simp only [hk] at h; exact if_neg h
  | segUp => simp only [hk] at h; exact if_neg h
  | blkDownEnd => simp only [hk] at h; exact if_neg h
  | blkUpStart => simp only [hk] at h; exact if_neg h
  | blkUp => simp only [hk] at h; exact if_neg h
  | blkUpEnd => simp only [hk] at h; exact if_neg h

theorem State.sdoClientAbort_outcome (hf : x.fw = s.fw) (hc : x.cell 0x1FE1 3 = s.cell 0x1FE1 3) (d : Sdo) :
    (x.sdoClientAbort d).can.sdo = none ∧ (x.sdoClientAbort d).cell 0x1FE1 3 = (s.cell 0x1FE1 3 + 1) % 2 ^ 32 ∧ s.imageLost (x.sdoClientAbort d) d := by
  obtain ⟨y, hy⟩ : ∃ y, y = x.sdoIdle.bump32 0x1FE1 3 := ⟨_, rfl⟩
  have hx : x.sdoClientAbort d = y.imageOver d := by
    rw [hy]
    rfl
  have hk := y.imageOver_unserved d
  rw [hx]
  refine ⟨hk.sdo.trans (by rw [hy]; rfl), (hk.last 3 (by decide)).trans ?_, State.imageOver_lost (by rw [hy]; exact hf) d⟩
  rw [hy, State.cell_bump32_same]
  exact congrArg (fun n => (n + 1) % 2 ^ 32) hc

/-- Each row that brings a frame brings it to the server. -/
theorem sdoCommand_hears (hh : s.sdoHears data) (hc : sdoCommand data c) : exec c s = .next (State.settle s (s.canGot.sdoFrame data)) := by
  have row : ∀ {r : Bool}, r = true → s.sdoRow data r = .next (State.settle s (s.canGot.sdoFrame data)) := fun h =>
    State.sdoRow_hears hh (s.sdoFits_row data h)
  rcases hc with ⟨rfl, h⟩ | ⟨rfl, h⟩ | ⟨rfl, h⟩ | ⟨rfl, h⟩ | ⟨rfl, h, hb⟩ | ⟨rfl, h, hb⟩ | ⟨rfl, h, hb⟩ | ⟨rfl, h, hb⟩ | ⟨rfl, h, hb⟩ | ⟨rfl, h, hb⟩ | ⟨rfl, h⟩
  · exact row (by rw [h]; rfl)
  · exact row (by rw [h]; rfl)
  · exact row (by rw [h]; rfl)
  · exact row (by rw [h]; rfl)
  · exact row (by rw [h, hb]; rfl)
  · exact row (by rw [h, hb]; rfl)
  · exact row (by rw [h, hb]; rfl)
  · exact row (by rw [h, hb]; rfl)
  · exact row (by rw [h, hb]; rfl)
  · exact row (by rw [h, hb]; rfl)
  · exact row (by rw [h]; rfl)

/-- A gap that is too long (R331). -/
theorem completes_sdoTimeout (hd : s.can.sdo = some d) (ho : s.sdoOpen = true) (hw : d.kind ≠ .waitWrite) :
    completes .sdoTimeout s (([.now, .fw] : List Field) ++ reportFields) fun t => t.now = max s.now (d.lastAt + s.setting 0x1FE0 1 * psMs) ∧
      s.sdoBreaks t d 0x05040000 ∧ (t.detOf 0x0D07).count = ((s.detOf 0x0D07).count + 1) % 2 ^ 64 := by
  obtain ⟨a, ha⟩ : ∃ a, a = s.advanceTo (d.lastAt + s.setting 0x1FE0 1 * psMs) := ⟨_, rfl⟩
  have hx : exec .sdoTimeout s = .next (State.settle s ((a.sdoBreak d 0x05040000).fire 0x0D07 0 0)) := by
    have he : exec .sdoTimeout s = execSdoTimeout s := rfl
    unfold execSdoTimeout at he
    simp only [hd] at he
    rw [he, ha]
    exact whenSettled_true (by simp [ho, hw]) ..
  have hstep : Step (maskOf (([.now, .fw] : List Field) ++ reportFields)) s ((a.sdoBreak d 0x05040000).fire 0x0D07 0 0) := by
    refine State.fire_step (State.sdoBreak_step ?_ (by decide)) (by decide)
    rw [ha]
    exact State.advanceTo_step (Step.refl _ s) (by decide)
  have hch : Channel s a := by
    rw [ha]
    exact ⟨List.prefix_rfl, rfl, rfl, rfl, fun _ _ => rfl⟩
  have hb : s.sdoBreaks (a.sdoBreak d 0x05040000) d 0x05040000 := State.sdoBreak_breaks hch (by rw [ha]; rfl) d 0x05040000
  have hcalm : Calm sideDets a (a.sdoBreak d 0x05040000) := by
    rw [State.sdoBreak_eq]
    have h1 := State.sdoAbort_served a d.index d.sub 0x05040000
    have h0 : Calm sideDets a (a.sdoAbort d.index d.sub 0x05040000) :=
      ⟨fun e _ => State.detOf_congr h1.det e, h1.out, h1.setting _ _ (by decide) (by decide) (by decide)⟩
    unfold State.imageOver
    split
    · exact h0.trans (State.imageEnded_onBus _).calm
    · exact h0
  refine completes_step hx (State.settle_fields hstep (by decide) s) ⟨?_, ?_, ?_⟩
  · rw [State.settle_now, State.fire_now, (State.sdoBreak_step (Step.refl 108103985337730224 a) (by decide)).now (by decide), ha]
    rfl
  · exact State.sdoBreaks_mono (State.sdoBreaks_mono hb (State.fire_unserved ..) (State.fire_fw ..)) (State.settle_unserved ..) (State.settle_fw ..)
  · have hcs : Calm (0x0C07 :: sideDets) ((a.sdoBreak d 0x05040000).fire 0x0D07 0 0) (State.settle s ((a.sdoBreak d 0x05040000).fire 0x0D07 0 0)) :=
      State.settle_calm (fun _ h => List.mem_cons_of_mem _ h) (Calm.refl _ _) List.mem_cons_self s
    rw [hcs.det _ (by decide), State.detOf_fire_count, hcalm.det _ (by decide), ha]
    rfl

end

end Sys2Proof.Machine

namespace Sys2Proof.Proofs

open Sys2Proof.Machine

/-- Settles O45: the frames of an upload, and what ends a transfer or makes a frame wait. -/
theorem sdoUploads : Obligations.SdoUploads := by
  unfold Obligations.SdoUploads
  refine ⟨fun s data hh => ?_, fun s d hd ho hw => completes_sdoTimeout hd ho hw⟩
  intro b0 index sub fs refuses breaks
  have hears : ∀ {c : Instr}, sdoCommand data c → exec c s = .next (State.settle s (s.canGot.sdoFrame data)) := fun hc => sdoCommand_hears hh hc
  refine ⟨fun hn => ⟨fun h2 => ?_, fun h5 hb => ?_, fun h4 => ?_⟩, fun d hd => ⟨fun hk h3 => ?_, fun hk h5 hb => ?_, fun hk h5 hb => ?_, fun hk h5 hb => ?_,
    fun hw hb h4 => ?_, fun c hc => ⟨fun hw hheld => ?_, fun hw hb h4 hne => ?_⟩⟩⟩
  · refine sdoInitUp_settled (c := .sdoInitiateUpload data) ?_
    rw [← State.sdoFresh_initUp _ h2, ← State.sdoFrame_fresh hn]
    exact hears (by unfold sdoCommand; simp [h2])
  · refine sdoInitBlkUp_settled (c := .sdoBlockUploadInitiate data) ?_
    rw [← State.sdoFresh_initBlkUp _ h5 hb, ← State.sdoFrame_fresh hn]
    exact hears (by unfold sdoCommand; simp [h5]; exact hb)
  · have hx : exec (.sdoAbortReceive data) s = .next (State.settle s (s.canGot.bump32 0x1FE1 3)) := by
      rw [← State.sdoFresh_abort _ h4, ← State.sdoFrame_fresh hn]
      exact hears (by unfold sdoCommand; simp [h4])
    refine settles_step hx (State.bump32_step s.canGot_fields (by decide)) ⟨rfl, hn, ?_⟩
    rw [State.cell_bump32_same, s.canGot_cell (by decide) (by decide)]
  · refine sdoSegUp_settled (c := .sdoUploadSegment data) ?_
    have hx : s.canGot.sdoFrame data = s.canGot.sdoSegUp d data := by
      rw [State.sdoFrame_next hd (by rw [hk]; decide) (by simp [hk, h3])]
      unfold State.sdoNext
      simp only [hk]
      exact if_pos h3
    rw [← hx]
    exact hears (by unfold sdoCommand; simp [h3])
  · refine sdoBlock_settled (c := .sdoBlockUploadStart data) ?_
    have hx : s.canGot.sdoFrame data = s.canGot.sdoBlock d := by
      rw [State.sdoFrame_next hd (by rw [hk]; decide) (by simp [hk, h5])]
      unfold State.sdoNext
      simp only [hk]
      exact if_pos ⟨h5, hb⟩
    rw [← hx]
    exact hears (by unfold sdoCommand; simp [h5]; exact hb)
  · refine sdoBlkAck_settled (c := .sdoBlockUploadAck data) ?_
    have hx : s.canGot.sdoFrame data = s.canGot.sdoBlkAck d data := by
      rw [State.sdoFrame_next hd (by rw [hk]; decide) (by simp [hk, h5])]
      unfold State.sdoNext
      simp only [hk]
      exact if_pos ⟨h5, hb⟩
    rw [← hx]
    exact hears (by unfold sdoCommand; simp [h5]; exact hb)
  · have hx : s.canGot.sdoFrame data = s.canGot.sdoIdle.bump32 0x1FE1 1 := by
      rw [State.sdoFrame_next hd (by rw [hk]; decide) (by simp [hk, h5])]
      unfold State.sdoNext
      simp only [hk]
      exact if_pos ⟨h5, hb⟩
    have he : exec (.sdoBlockUploadEnd data) s = .next (State.settle s (s.canGot.sdoIdle.bump32 0x1FE1 1)) := by
      rw [← hx]
      exact hears (by unfold sdoCommand; simp [h5]; exact hb)
    exact sdoUpEnd_settled he
  · have hx : exec (.sdoAbortReceive data) s = .next (State.settle s (s.canGot.sdoClientAbort d)) := by
      rw [← State.sdoFrame_clientAbort hd hw hb h4]
      exact hears (by unfold sdoCommand; simp [h4])
    exact settles_step hx (State.sdoClientAbort_step (State.canGot_step (Step.refl _ s) (by decide)) (by decide))
      (State.sdoClientAbort_outcome (s := s) (x := s.canGot) rfl (s.canGot_cell (by decide) (by decide)) d)
  · have hx := hears hc
    rw [State.sdoFrame_holds hd hw hheld] at hx
    exact settles_step hx (Step.put (F := 8388608) s.canGot_fields (by decide) rfl fun v => ⟨v.1, v.2, v.3, v.4, v.5, v.6, v.7⟩) ⟨rfl, hd, rfl⟩
  · have hx := hears hc
    rw [State.sdoFrame_next hd hw (by rw [if_neg hb]; exact h4), State.sdoNext_unexpected _ hw hb hne] at hx
    exact State.sdoBreak_completes hx

end Sys2Proof.Proofs
end

section
/-! O41: NMT commands and heartbeats (R308 to R313). -/

namespace Sys2Proof.Machine

section

variable {s t x y : State} {i j : Nat}

theorem State.canGot_counts (s : State) : s.canGot.cell 0x1FD2 7 = (s.cell 0x1FD2 7 + 1) % 2 ^ 32 := State.cell_bump32_same ..

/-! ### What a message of the node changes of it -/

theorem State.emcyAt_node (s : State) (code det st : Nat) :
    ∃ h q d, (s.emcyAt code det st).can = { s.can with history := h, queue := q, dropped := d } := by
  unfold State.emcyAt
  dsimp only
  split
  · exact ⟨_, _, _, rfl⟩
  · split
    · exact ⟨_, _, _, rfl⟩
    · split <;> split <;> simp only [State.fire_can, State.bump32_can] <;> exact ⟨_, _, _, rfl⟩

/-- A message that the full queue drops is counted; no other writes the dictionary. -/
theorem State.emcyAt_od (s : State) (code det st : Nat) : (s.emcyAt code det st).od = s.od ∨ (s.emcyAt code det st).od = (s.bump32 0x1FD2 8).od := by
  unfold State.emcyAt
  dsimp only
  split_ifs <;> simp [State.bump32, State.count, State.putCell, State.cell]

theorem State.emcyAt_setting (s : State) (code det st : Nat) (hi : i ≠ 0x1FD2) (hj : j < 256) :
    (s.emcyAt code det st).setting i j = s.setting i j := by
  rcases s.emcyAt_od code det st with h | h
  · exact State.setting_congr h i j
  · exact (State.setting_congr h i j).trans (State.setting_count_other s hj (by decide) hi)

/-! ### The end of a transfer -/

theorem State.imageEnded_cell (x : State) (h : (0x1FD2, j) ∉ sideCells) (hj : j < 256) : x.imageEnded.cell 0x1FD2 j = x.cell 0x1FD2 j := by
  unfold State.imageEnded
  split
  · obtain ⟨f, hx⟩ := x.updateEnd_eq slot0 false 7 0
    rw [hx]
    exact (State.emcyEvent_side (fun _ h => h) (fun _ h => h) (Side.refl sideDets sideCells { x with fw := f }) 0xFF7B 0 (natLe 1 7)).cell _ _ hj h
  · rfl

/-- A transfer that ends without an abort, but for the image that it carried. -/
theorem State.sdoEnd_eq (x : State) : x.sdoEnd = x ∧ x.can.sdo = none ∨ ∃ d, x.can.sdo = some d ∧
    x.sdoEnd = if d.kind ≠ .waitWrite then ({ x with can := { x.can with sdo := none, sdoHeld := none } } : State).imageOver d
      else { x with can := { x.can with sdo := none, sdoHeld := none } } := by
  unfold State.sdoEnd State.imageOver
  split
  · next h => exact .inl ⟨rfl, h⟩
  · next d h =>
    refine .inr ⟨d, h, ?_⟩
    split <;> split <;> simp_all

theorem State.sdoEnd_counts (x : State) : x.sdoEnd.cell 0x1FD2 7 = x.cell 0x1FD2 7 := by
  rcases x.sdoEnd_eq with ⟨h, -⟩ | ⟨d, -, h⟩
  · rw [h]
  · rw [h]
    unfold State.imageOver
    split
    · split
      · exact State.imageEnded_cell _ (by decide) (by decide)
      · rfl
    · rfl

theorem State.sdoEnd_imageLost (hf : x.fw = s.fw) {d : Sdo} (hd : x.can.sdo = some d) (hk : d.kind ≠ .waitWrite) : s.imageLost x.sdoEnd d := by
  rcases x.sdoEnd_eq with ⟨-, h⟩ | ⟨e, h, he⟩
  · rw [hd] at h
    cases h
  · obtain rfl : d = e := Option.some.inj (hd.symm.trans h)
    rw [he, if_pos hk]
    exact State.imageOver_lost (x := { x with can := { x.can with sdo := none, sdoHeld := none } }) hf d

/-! ### PDOs that start -/

theorem foldl_set_holds {α : Type} {P : α → Prop} {f : α → α} {d : α} (hf : ∀ r, P (f r)) (l : List Nat) : ∀ (t : Tab α) (n : Nat),
    n ∈ l ∨ P (t.get d n) → P ((l.foldl (fun t n => t.set n (f (t.get d n))) t).get d n) := by
  induction l with
  | nil => exact fun t n h => h.resolve_left (by simp)
  | cons a r ih =>
    intro t n h
    refine ih _ n ?_
    beta_reduce
    by_cases e : n = a
    · rw [e, Tab.get_set_same]
      exact .inr (hf _)
    · rw [Tab.get_set_other _ _ _ e]
      exact h.imp_left fun h => (List.mem_cons.1 h).resolve_left e

theorem Can.startPdos_started (c : Can) (now_ : Nat) {n : Nat} (hn : n < 8) : ((c.startPdos now_).tpdo.get tpdo0 n).timerAt = some now_ ∧
    ((c.startPdos now_).tpdo.get tpdo0 n).syncs = none ∧ ((c.startPdos now_).rpdo.get rpdo0 n).waiting = none :=
  have h := foldl_set_holds (P := fun r : TpdoRun => r.timerAt = some now_ ∧ r.syncs = none) (d := tpdo0)
    (f := fun r => { r with timerAt := some now_, syncs := none, pending := false, captured := none, withheld := false }) (fun _ => ⟨rfl, rfl⟩)
    pdoNums c.tpdo n (.inl (List.mem_range.2 hn))
  ⟨h.1, h.2, rfl⟩

/-! ### Settings that are restored -/

theorem State.limitReached_sends (x : State) : x.out <+: x.limitReached.out :=
  (State.emcyAt_calm (D := 0x0905 :: sideDets) (fun _ h => List.mem_cons_of_mem _ h) (State.suspendAll_calm (fun _ h => List.mem_cons_of_mem _ h)
    (State.fire_calm (State.bump32_calm (State.putBeat_calm (Calm.refl _ x) _) (by decide) _) List.mem_cons_self _ _)) ..).out

theorem State.portConfig_sends (x : State) (p v : Nat) : x.out <+: (x.portConfig p v).out := by
  unfold State.portConfig
  dsimp only
  split
  · rw [State.portDown_eq]
    have h := State.emcyEvent_calm (D := 0x0801 :: sideDets) (fun _ h => List.mem_cons_of_mem _ h)
      (State.portFell_calm List.mem_cons_self (Calm.refl (0x0801 :: sideDets) (x.putCell 0x2801 (p + 1) v)) p) 0xFF52 0x0801 (natLe 1 p ++ natLe 1 0)
    exact h.out
  · exact List.prefix_rfl

/-- A property of a setting's write, by what the write is. -/
theorem State.settingPut_cases {P : State → Prop} (x : State) (i j v : Nat) (hcan : ∀ t, t = x ∨ t = x.putCell i j (setBit v 30) ∨ t = x.putCell i j v →
      ∀ c : Can, c.sdo = x.can.sdo → P { t with can := c })
    (hlimit : 0x2000 ≤ i → P (x.putCell i j v).limitReached) (hport : 0x2000 ≤ i → P (x.portConfig (j - 1) v))
    (hshape : P (x.shaperWrite i ((j - 1) / 8) ((j - 1) % 8) v)) : P (x.settingPut i j v) := by
  have hc : ∀ (w : Nat) (c : Can), w = setBit v 30 ∨ w = v → c.sdo = x.can.sdo → P { x.putCell i j w with can := c } := fun w c hw h => by
    rcases hw with rfl | rfl
    · exact hcan _ (.inr (.inl rfl)) c h
    · exact hcan _ (.inr (.inr rfl)) c h
  have hp : P (x.putCell i j v) := hc v x.can (.inr rfl) rfl
  unfold State.settingPut
  dsimp only
  split
  · split
    · split
      · exact hc v _ (.inr rfl) rfl
      · exact hc v _ (.inr rfl) rfl
    · split
      · exact hc _ _ (.inl rfl) rfl
      · exact hc _ _ (.inl rfl) rfl
  · iterate 6 refine iteInduction (fun _ => hc v _ (.inr rfl) rfl) fun _ => ?_
    refine iteInduction (fun h => iteInduction (fun _ => hlimit (by omega)) fun _ => hp) fun _ => ?_
    refine iteInduction (fun h => hport (by omega)) fun _ => iteInduction (fun _ => hshape) fun _ => hp

theorem State.settingPut_sends (x : State) (i j v : Nat) : x.out <+: (x.settingPut i j v).out :=
  x.settingPut_cases (P := fun t => x.out <+: t.out) i j v (fun t ht c _ => by rcases ht with rfl | rfl | rfl <;> exact List.prefix_rfl)
    (fun _ => State.limitReached_sends (x.putCell i j v)) (fun _ => x.portConfig_sends _ _) List.prefix_rfl

theorem State.settingPut_sdo (x : State) {i : Nat} (h : i < 0x2000) (j v : Nat) : (x.settingPut i j v).can.sdo = x.can.sdo :=
  x.settingPut_cases (P := fun t => t.can.sdo = x.can.sdo) i j v (fun _ _ _ hc => hc) (fun hi => absurd hi (by omega)) (fun hi => absurd hi (by omega)) rfl

theorem State.loadOne_cases {P : State → Prop} (w x : State) (o : (Nat × Nat) × Option Nat) (hx : P x) (hcan : ∀ c : Can, c.sdo = x.can.sdo → P { x with can := c })
    (hb : P (x.bump32 0x1FE3 3)) (hp : ∀ v, P (x.settingPut o.1.1 o.1.2 v)) : P (State.loadOne w x o) := by
  unfold State.loadOne
  dsimp only
  split
  · exact iteInduction (fun _ => hcan _ rfl) fun _ => iteInduction (fun _ => hx) fun _ => iteInduction (fun _ => hb) fun _ => hp _
  · exact iteInduction (fun _ => hx) fun _ => iteInduction (fun _ => hb) fun _ => iteInduction (fun _ => hb) fun _ => hp _

theorem State.loadOne_sends (w x : State) (o : (Nat × Nat) × Option Nat) : x.out <+: (State.loadOne w x o).out :=
  State.loadOne_cases (P := fun t => x.out <+: t.out) w x o List.prefix_rfl (fun _ _ => List.prefix_rfl) List.prefix_rfl fun _ => x.settingPut_sends ..

theorem State.loadOne_sdo (w x : State) {o : (Nat × Nat) × Option Nat} (h : o.1.1 < 0x2000) : (State.loadOne w x o).can.sdo = x.can.sdo :=
  State.loadOne_cases (P := fun t => t.can.sdo = x.can.sdo) w x o rfl (fun _ hc => hc) rfl fun _ => x.settingPut_sdo h _ _

theorem loadAll_sends (w : State) (l : List ((Nat × Nat) × Option Nat)) (x : State) : x.out <+: (l.foldl (fun x o => State.loadOne w x o) x).out := by
  induction l generalizing x with
  | nil => exact List.prefix_rfl
  | cons a r ih => exact (State.loadOne_sends w x a).trans (ih _)

theorem defaultAll_sends (l : List (Nat × Nat)) (x : State) : x.out <+: (l.foldl (fun x o => State.loadOne s x (o, none)) x).out := by
  induction l generalizing x with
  | nil => exact List.prefix_rfl
  | cons a r ih => exact (State.loadOne_sends s x (a, none)).trans (ih _)

theorem State.loadArea_sends (x : State) (area : Nat) (pick : Nat → Bool) : x.out <+: (x.loadArea area pick).out := by
  have h := loadAll_sends (x.wholeArea (x.storedArea area pick)) (x.storedArea area pick) x
  unfold State.loadArea
  dsimp only
  split
  · refine h.trans ?_
    have h1 := (State.rebudget_calm (fun _ h => h) (Calm.refl sideDets
      ((x.storedArea area pick).foldl (fun y o => State.loadOne (x.wholeArea (x.storedArea area pick)) y o) x))).out
    refine h1.trans ?_
    have h2 := (State.demandCheck_step (Step.refl 1010827264 ((x.storedArea area pick).foldl
      (fun y o => State.loadOne (x.wholeArea (x.storedArea area pick)) y o) x).rebudget) (by decide)).out (by decide)
    rw [h2]
  · exact h

/-- The communication area holds the objects below 0x2000. -/
theorem settingsOf_comm {o : Nat × Nat} (h : o ∈ settingsOf 1) : o.1 < 0x2000 := by
  have hall : ∀ p ∈ settingsOf 1, p.1 < 0x2000 := by decide +kernel
  exact hall o h

theorem loadAll_sdo (w : State) (l : List ((Nat × Nat) × Option Nat)) (hl : ∀ o ∈ l, o.1.1 < 0x2000) (x : State) :
    (l.foldl (fun x o => State.loadOne w x o) x).can.sdo = x.can.sdo := by
  induction l generalizing x with
  | nil => rfl
  | cons a r ih =>
    exact (ih (fun o h => hl o (List.mem_cons_of_mem _ h)) _).trans (State.loadOne_sdo w x (hl a List.mem_cons_self))

theorem State.defaultArea_eq (x : State) (area : Nat) :
    x.defaultArea area = ((settingsOf area).map fun o => (o, none)).foldl (fun y o => State.loadOne x y o) x := by
  unfold State.defaultArea
  rw [List.foldl_map]

/-- The communication settings are restored, and the transfer in progress is left alone. -/
theorem State.commRestored (x : State) (c : Prop) [Decidable c] : let y := State.keepIds x (if c then x.defaultArea 1 else x.loadArea 1 fun _ => true)
    x.out <+: y.out ∧ y.can.sdo = x.can.sdo := by
  intro y
  have hk : ∀ z, y = State.keepIds x z → y.out = z.out ∧ y.can = z.can := fun z hz => by
    rw [hz]
    unfold State.keepIds
    dsimp only
    split <;> split <;> exact ⟨rfl, rfl⟩
  by_cases h : c
  · obtain ⟨h1, h2⟩ := hk (x.defaultArea 1) (by rw [← if_pos (t := x.defaultArea 1) (e := x.loadArea 1 fun _ => true) h])
    rw [h1, h2, State.defaultArea_eq]
    refine ⟨loadAll_sends .., loadAll_sdo _ _ (fun o ho => ?_) _⟩
    obtain ⟨p, hp, rfl⟩ := List.mem_map.1 ho
    exact settingsOf_comm hp
  · obtain ⟨h1, h2⟩ := hk (x.loadArea 1 fun _ => true) (by rw [← if_neg (t := x.defaultArea 1) (e := x.loadArea 1 fun _ => true) h])
    rw [h1, h2]
    refine ⟨x.loadArea_sends 1 _, ?_⟩
    unfold State.loadArea
    dsimp only
    rw [if_neg fun h => absurd h.1 (by decide)]
    refine loadAll_sdo _ _ (fun o ho => ?_) _
    unfold State.storedArea at ho
    obtain ⟨p, hp, rfl⟩ := List.mem_map.1 ho
    exact settingsOf_comm (List.mem_of_mem_filter hp)

/-! ### Boot-up -/

/-- The node without what Reset Communication gives it anew. -/
def Can.isNew (c : Can) : Prop := c.sdo = none ∧ c.busOff = false ∧ c.tec = 0 ∧ c.rxErr = 0 ∧ c.passive = false ∧ c.queue = [] ∧ c.recovering = false ∧
  c.later = []

/-- The boot-up message leaves, and the node is in PRE-OPERATIONAL. -/
theorem State.bootUp_outcome (hn : x.can.isNew) : let u := x.bootUp
    u.can.nmt = .preOperational ∧ u.can.sdo = none ∧ u.can.busOff = false ∧ u.can.tec = 0 ∧ u.can.rxErr = 0 ∧ (u.can.idSource ≠ 3 → u.can.queue = []) ∧
    x.emits u (.can (0x700 + x.can.nodeId) [0#8] (x.can.rate != 0) false) ∧
    u.can.hbDueAt = (if x.setting 0x1017 0 = 0 then none else some (x.now + x.setting 0x1017 0 * psMs)) ∧
    (u.can.nodeId = x.can.nodeId ∧ u.can.idSource = x.can.idSource ∧ u.can.rate = x.can.rate ∧ u.can.straps = x.can.straps) ∧
    (u.now = x.now ∧ u.fuses = x.fuses) ∧ ∀ i j, j < 256 → i ≠ 0x1FD2 → u.setting i j = x.setting i j := by
  obtain ⟨hsdo, hoff, htec, hrx, hpas, hq, hrec, hl⟩ := hn
  obtain ⟨a, ha⟩ : ∃ a, a = x.canSend (0x700 + x.can.nodeId) [0#8] := ⟨_, rfl⟩
  have hs : Sends x a := ha ▸ State.canSend_sends ..
  have hleft : a.out = x.out ++ [.can (0x700 + x.can.nodeId) [0#8] (x.can.rate != 0) false] ∧ a.can.tec = 0 ∧ a.can.rxErr = 0 := by
    rw [ha, State.canSend_leaves _ _ _ (by unfold State.canGated; rw [hrec]; rfl)]
    have hf : x.canFlush = { x with can := { x.can with later := [] } } := by
      unfold State.canFlush
      rw [hl]
      rfl
    rw [hf]
    refine ⟨?_, ?_, hrx⟩
    · rw [State.canOut_out, hpas]
    · show x.can.tec - 1 = 0
      rw [htec]
  obtain ⟨b, hb⟩ : ∃ b : State, b = { a with can := { a.can with
    nmt := .preOperational, hbWaiting := none, consumers := .empty
    hbDueAt := if x.setting 0x1017 0 = 0 then none else some (a.now + x.setting 0x1017 0 * psMs) } } := ⟨_, rfl⟩
  have hfield : ∀ {α : Type} (f : Can → α), f a.can.quiet = f x.can.quiet := fun f => congrArg f hs.can
  have hboot : x.bootUp = if x.can.idSource = 3 then (b.fire 0x0D06 0 0).emcy 0xFF21 0x0D06 else b := by
    rw [hb, ha]
    rfl
  have hnow : b.now = x.now ∧ b.fuses = x.fuses := by
    rw [hb]
    exact ⟨hs.step.now (by decide), hs.step.fuses (by decide)⟩
  have hset : ∀ i j, j < 256 → i ≠ 0x1FD2 → b.setting i j = x.setting i j := fun i j hj hi => by
    rw [hb]
    exact hs.setting i j hj hi
  obtain ⟨k1, k2, k3, k4, k5, k6, k7, k8⟩ : b.can.nmt = .preOperational ∧ b.can.sdo = none ∧ b.can.busOff = false ∧ b.can.tec = 0 ∧ b.can.rxErr = 0 ∧ b.can.queue = [] ∧
      b.can.hbDueAt = (if x.setting 0x1017 0 = 0 then none else some (x.now + x.setting 0x1017 0 * psMs)) ∧
      b.can.nodeId = x.can.nodeId ∧ b.can.idSource = x.can.idSource ∧ b.can.rate = x.can.rate ∧ b.can.straps = x.can.straps := by
    rw [hb, hs.step.now (by decide)]
    exact ⟨rfl, hs.sdo.trans hsdo, (hfield Can.busOff).trans hoff, hleft.2.1, hleft.2.2, hs.queue.trans hq, rfl, hs.nodeId, hfield Can.idSource, hs.rate, hfield Can.straps⟩
  have hemit : x.emits b (.can (0x700 + x.can.nodeId) [0#8] (x.can.rate != 0) false) := ⟨[], [], by rw [hb, hleft.1]; simp⟩
  intro u
  by_cases h3 : x.can.idSource = 3
  · have hu : u = (b.fire 0x0D06 0 0).emcy 0xFF21 0x0D06 := hboot.trans (if_pos h3)
    have hstep : Step 2092957696 (b.fire 0x0D06 0 0) u := hu ▸ State.emcyAt_step (Step.refl _ _) (by decide)
    obtain ⟨h, q, d, hcan⟩ := (b.fire 0x0D06 0 0).emcyAt_node 0xFF21 0x0D06 (b.fire 0x0D06 0 0).stamp
    have hc : u.can = { b.can with history := h, queue := q, dropped := d } := by
      rw [hu]
      exact hcan.trans (by rw [State.fire_can])
    refine ⟨?_, ?_, ?_, ?_, ?_, fun hne => absurd ?_ hne, State.emits_mono hemit ?_, ?_, ?_, ⟨?_, ?_⟩, fun i j hj hi => ?_⟩
    · rw [hc]; exact k1
    · rw [hc]; exact k2
    · rw [hc]; exact k3
    · rw [hc]; exact k4
    · rw [hc]; exact k5
    · rw [hc]; exact k8.2.1.trans h3
    · rw [hstep.out (by decide), State.fire_out]
    · rw [hc]; exact k7
    · rw [hc]; exact k8
    · rw [hstep.now (by decide), State.fire_now]; exact hnow.1
    · rw [hstep.fuses (by decide), State.fire_fuses]; exact hnow.2
    · rw [hu]
      exact ((State.emcyAt_setting _ _ _ _ hi hj).trans (State.setting_congr (State.fire_od ..) i j)).trans (hset i j hj hi)
  · have hu : u = b := hboot.trans (if_neg h3)
    rw [hu]
    exact ⟨k1, k2, k3, k4, k5, fun _ => k6, hemit, k7, k8, hnow, hset⟩

/-! ### Reset Communication and Reset Node -/

/-- The node's communication, cleared (R310). -/
def State.commCleared (b : State) : State :=
  { b with can := { (b.can.counters 0 0) with
    busOff := false, queue := [], held := none, dropped := false, lastEmcyAt := none, recovering := false, later := []
    tpdo := b.can.tpdo.mapVals fun _ r => { tpdo0 with lastAt := r.lastAt }, rpdo := .empty } }

theorem State.commCleared_new (h : x.can.sdo = none) : x.commCleared.takeId.can.isNew := ⟨h, rfl, rfl, rfl, rfl, rfl, rfl, rfl⟩

theorem State.resetComm_eq (x : State) : x.resetComm = (State.commCleared (State.keepIds x.sdoEnd
    (if x.sdoEnd.up.phase = .recovery then x.sdoEnd.defaultArea 1 else x.sdoEnd.loadArea 1 fun _ => true))).takeId.bootUp := rfl

/-- The node after its boot-up message, with the node ID in force (R305, R310). -/
def State.rebooted (s u : State) : Prop :=
  u.can.nmt = .preOperational ∧ u.can.sdo = none ∧ u.can.busOff = false ∧ u.can.tec = 0 ∧ u.can.rxErr = 0 ∧
    (u.can.nodeId, u.can.idSource) = u.idChoice ∧ (u.can.idSource ≠ 3 → u.can.queue = []) ∧
    s.emits u (.can (0x700 + u.can.nodeId) [0#8] (u.can.rate != 0) false) ∧
    u.can.hbDueAt = if u.setting 0x1017 0 = 0 then none else some (u.now + u.setting 0x1017 0 * psMs)

theorem State.resetComm_rebooted (ho : s.out <+: x.out) : s.rebooted x.resetComm := by
  obtain ⟨y, hy⟩ : ∃ y, y = State.keepIds x.sdoEnd
    (if x.sdoEnd.up.phase = .recovery then x.sdoEnd.defaultArea 1 else x.sdoEnd.loadArea 1 fun _ => true) := ⟨_, rfl⟩
  obtain ⟨h1, h2⟩ : x.sdoEnd.out <+: y.out ∧ y.can.sdo = x.sdoEnd.can.sdo := hy ▸ x.sdoEnd.commRestored (x.sdoEnd.up.phase = .recovery)
  obtain ⟨z, hz⟩ : ∃ z, z = y.commCleared.takeId := ⟨_, rfl⟩
  have hout : s.out <+: z.out := by
    rw [hz]
    exact (ho.trans x.sdoEnd_onBus.calm.out).trans h1
  obtain ⟨k1, k2, k3, k4, k5, k6, k7, k8, ⟨k9, k10, k11, k12⟩, ⟨k13, k14⟩, k15⟩ :=
    z.bootUp_outcome (hz ▸ State.commCleared_new (h2.trans x.sdoEnd_sdo))
  have hid : (z.can.nodeId, z.can.idSource) = z.idChoice := by
    rw [hz]
    rfl
  rw [State.resetComm_eq, ← hy, ← hz]
  refine ⟨k1, k2, k3, k4, k5, ?_, k6, ?_, ?_⟩
  · rw [k9, k10, hid]
    unfold State.idChoice
    rw [k15 0x1FD1 4 (by decide) (by decide), k12, k14]
  · rw [k9, k11]
    exact State.emits_base k7 hout
  · rw [k8, k13, k15 0x1017 0 (by decide) (by decide)]

/-- No job is left. -/
theorem State.closeAllJobs_free (x : State) (j : Nat) : (x.closeAllJobs.jobOf j).st = .free := by
  have hself : ∀ (u : State) k, ((u.jobClose k (0, 0x10000)).jobOf k).st = .free := fun u k => by
    by_cases h : (u.jobOf k).st = .free
    · unfold State.jobClose
      rw [if_pos h]
      exact h
    · unfold State.jobOf Tab.get
      rw [(State.jobClose_outcome h).2.1]
      rfl
  have hkeep : ∀ (u : State) k i, (u.jobOf i).st = .free → ((u.jobClose k (0, 0x10000)).jobOf i).st = .free := fun u k i h => by
    by_cases e : i = k
    · rw [e]
      exact hself u k
    · by_cases hk : (u.jobOf k).st = .free
      · unfold State.jobClose
        rw [if_pos hk]
        exact h
      · rw [(State.jobClose_outcome hk).2.2.1 i e]
        exact h
  refine each_removes (f := fun u k => u.jobClose k (0, 0x10000)) (gone := fun u k => (u.jobOf k).st = .free) hself hkeep x.liveJobs x j ?_
  by_cases h : (x.jobOf j).st = .free
  · exact .inr h
  · refine .inl ?_
    unfold State.jobOf Tab.get at h
    cases hf : x.jobs.find j with
    | none =>
      rw [hf] at h
      exact absurd rfl h
    | some q =>
      rw [hf] at h
      exact List.mem_map.2 ⟨(j, q), List.mem_filter.2 ⟨mem_of_findCell hf, by simpa using h⟩, rfl⟩

theorem State.resetNode_rebooted (ho : s.out <+: x.out) : s.rebooted x.resetNode ∧ ∀ j, (x.resetNode.jobOf j).st = .free := by
  obtain ⟨b, hb⟩ : ∃ b, b = if x.closeAllJobs.up.phase = .recovery then x.closeAllJobs
    else x.closeAllJobs.loadArea 2 fun i => !yokeServed i || x.closeAllJobs.up.yoke := ⟨_, rfl⟩
  have hr : x.resetNode = b.resetComm := by
    rw [hb]
    rfl
  have hout : x.closeAllJobs.out <+: b.out ∧ b.jobs = x.closeAllJobs.jobs := by
    rw [hb]
    split
    · exact ⟨List.prefix_rfl, rfl⟩
    · exact ⟨State.loadArea_sends .., (State.loadArea_step (Step.refl 76020940414078140 _) (by decide)).jobs (by decide)⟩
  rw [hr]
  refine ⟨State.resetComm_rebooted ((ho.trans (State.closeAllJobs_calm sideDets_fall (Calm.refl fallDets x)).out).trans hout.1), fun j => ?_⟩
  have hj : b.resetComm.jobs = x.closeAllJobs.jobs :=
    ((State.resetComm_step (Step.refl 112049737433042108 b) (by decide)).jobs (by decide)).trans hout.2
  unfold State.jobOf
  rw [hj]
  exact x.closeAllJobs_free j

/-! ### Heartbeats -/

theorem State.heartbeat_outcome (x : State) : x.heartbeat.out = x.out ++ [.can (0x700 + x.can.nodeId) (natLe 1 (nmtByte x.can.nmt)) (x.can.rate != 0) x.can.passive] ∧
    x.heartbeat.can.hbWaiting = none ∧ x.heartbeat.can.hbDueAt = x.can.hbDueAt ∧ x.heartbeat.now = x.now := ⟨rfl, rfl, rfl, rfl⟩

/-- The heartbeat that is due at `at_`, and the time of the next. -/
def State.heartbeatAt (s : State) (at_ : Nat) : State :=
  let a := s.advanceTo at_
  { a with can := { a.can with hbDueAt := some (at_ + a.setting 0x1017 0 * psMs) } }

theorem State.heartbeatAt_same (s : State) (at_ : Nat) : (s.heartbeatAt at_).now = max s.now at_ ∧
    (s.heartbeatAt at_).can = { s.can with hbDueAt := some (at_ + s.setting 0x1017 0 * psMs) } ∧ (s.heartbeatAt at_).out = s.out ∧
    Step (maskOf [.now, .can]) s (s.heartbeatAt at_) :=
  ⟨rfl, rfl, rfl, Step.put (F := 8388608) (State.advanceTo_step (Step.refl _ s) (by decide)) (by decide) rfl fun v => ⟨v.1, v.2, v.3, v.4, v.5, v.6, v.7⟩⟩

theorem execHeartbeatProduce_due {sent : Bool} {at_ : Nat} (hw : s.can.hbWaiting = none) (hd : s.can.hbDueAt = some at_)
    (hc : s.up.collar = true) (hn : s.can.nmt ≠ .initialising) (hb : s.can.busOff = false) : exec (.heartbeatProduce sent) s = .next (State.settle s
      (if sent && !s.canGated then (s.heartbeatAt at_).heartbeat
        else { s.heartbeatAt at_ with can := { (s.heartbeatAt at_).can with hbWaiting := (s.heartbeatAt at_).can.hbWaiting.or (some (s.heartbeatAt at_).stamp) } })) := by
  refine (if_neg (by rw [hw]; simp)).trans ?_
  rw [hd]
  refine (whenSettled_true (by simp [hc, hn]) ..).trans ?_
  have hoff : (s.heartbeatAt at_).can.busOff = false := hb
  exact congrArg (fun z => Host.Outcome.next (State.settle s z)) (if_neg (show ¬(s.heartbeatAt at_).can.busOff = true by rw [hoff]; decide))

/-! ### The producer's time -/

theorem fxSetting_heartbeat (s : State) (v : Nat) : fxSetting 0x1017 0 v s = .ok { s.putCell 0x1017 0 v with can := { s.can with
    hbDueAt := if v = 0 then none else some (s.now + v * psMs), hbWaiting := if v = 0 then none else s.can.hbWaiting } } := by
  have hr : s.settingRange 0x1017 0 v = none := by
    unfold State.settingRange State.commRange
    simp
  have hs : s.settingState 0x1017 0 v = none := by
    unfold State.settingState
    simp
  unfold fxSetting
  rw [hr, hs]
  rfl

/-! ### A heartbeat that does not come -/

/-- The consumer's entry has timed out. -/
def State.unheard (s : State) (i at_ : Nat) : State :=
  let a := s.advanceTo (at_ + s.consumerMs i * psMs)
  { a with can := { a.can with consumers := a.can.consumers.set i ⟨some at_, true⟩ } }

theorem State.nmtOff_within {code det n : Nat} (hk : s.keepsEmcy → x.keepsEmcy) (h : s.raisedWithin x code det n) (hn : n < 7) :
    s.hasRaised x.nmtOff code det := by
  have himg : ∀ y : State, y.can.history = x.can.history → (s.keepsEmcy → y.keepsEmcy) → s.hasRaised y.imageEnded code det := fun y hy hky => by
    have hw : s.raisedWithin y code det n := fun k => by
      rw [hy]
      exact h k
    unfold State.imageEnded
    split
    · obtain ⟨f, hx⟩ := y.updateEnd_eq slot0 false 7 0
      rw [hx]
      exact State.hasRaised_of_within (State.emcyEvent_within (x := { y with fw := f }) hky hw hn (by decide) 0 (natLe 1 7))
    · exact State.hasRaised_of_within hw
  have hend : s.hasRaised x.sdoEnd code det := by
    rcases x.sdoEnd_eq with ⟨e, -⟩ | ⟨d, -, e⟩
    · rw [e]
      exact State.hasRaised_of_within h
    · rw [e]
      unfold State.imageOver
      have hx0 : s.hasRaised { x with can := { x.can with sdo := none, sdoHeld := none } } code det := State.hasRaised_of_within h
      exact iteInduction (motive := fun z => s.hasRaised z code det) (fun _ => iteInduction (motive := fun z => s.hasRaised z code det)
        (fun _ => himg _ rfl hk) fun _ => hx0) fun _ => hx0
  unfold State.nmtOff
  split
  · exact State.hasRaised_of_within h
  · exact hend

/-- The error that a heartbeat which does not come is (R313). -/
theorem State.unheard_outcome (s : State) (i at_ : Nat) : let u := (((s.unheard i at_).emcy 0x8130 0x0D03).fire 0x0D03 0 0).commBehaviour
    u.now = max s.now (at_ + s.consumerMs i * psMs) ∧ (u.can.consumers.get ⟨none, false⟩ i).timedOut = true ∧ s.hasRaised u 0x8130 0x0D03 ∧
    (u.detOf 0x0D03).count = ((s.detOf 0x0D03).count + 1) % 2 ^ 64 ∧
    (s.setting 0x1029 1 = 0 → u.can.nmt = if s.can.nmt = .operational then .preOperational else s.can.nmt) ∧
    (s.setting 0x1029 1 = 1 → u.can.nmt = s.can.nmt) ∧ (s.setting 0x1029 1 = 2 → s.can.nmt ≠ .initialising → u.can.nmt = .stopped) := by
  obtain ⟨b, hb⟩ : ∃ b, b = s.unheard i at_ := ⟨_, rfl⟩
  obtain ⟨y, hy⟩ : ∃ y, y = (b.emcy 0x8130 0x0D03).fire 0x0D03 0 0 := ⟨_, rfl⟩
  intro u
  have hu : u = y.commBehaviour := by
    rw [hy, hb]
  have hbk : s.keepsEmcy → b.keepsEmcy := fun h => hb ▸ h
  obtain ⟨h, q, d, hcan⟩ := b.emcyAt_node 0x8130 0x0D03 b.stamp
  have hyc : y.can = { b.can with history := h, queue := q, dropped := d } := by
    rw [hy, State.fire_can]
    exact hcan
  have hnmt : y.can.nmt = s.can.nmt := by
    rw [hyc, hb]
    rfl
  have hcons : y.can.bus.consumers = s.can.consumers.set i ⟨some at_, true⟩ := by
    rw [hyc, hb]
    rfl
  have hset : ∀ i j, j < 256 → i ≠ 0x1FD2 → y.setting i j = s.setting i j := fun i j hj hi => by
    rw [hy]
    exact (State.setting_congr (State.fire_od ..) i j).trans ((State.emcyAt_setting b _ _ _ hi hj).trans (by rw [hb]; rfl))
  have hemcy : s.raisedWithin y 0x8130 0x0D03 0 := fun k => by
    rw [hy, State.fire_can]
    exact ⟨[], _, State.emcyAt_history (hbk k) (by decide) 0x0D03 b.stamp, le_rfl⟩
  have hyk : s.keepsEmcy → y.keepsEmcy := fun k => ⟨by
    rw [hy]
    simp only [State.fire_up, State.emcy, State.emcyAt_up]
    exact (hbk k).1, by rw [hset 0x1014 0 (by decide) (by decide)]; exact k.2⟩
  have hon := y.commBehaviour_onBus
  have hcount : (y.detOf 0x0D03).count = ((s.detOf 0x0D03).count + 1) % 2 ^ 64 := by
    rw [hy, State.detOf_fire_count, State.emcy, (b.emcyAt_onBus _ _ _).calm.det _ (by decide), hb]
    rfl
  have hnow : y.now = max s.now (at_ + s.consumerMs i * psMs) := by
    rw [hy, State.fire_now, State.emcy, State.emcyAt_now, hb]
    rfl
  have hmode := hset 0x1029 1 (by decide) (by decide)
  rw [hu]
  refine ⟨?_, ?_, ?_, ?_, fun h0 => ?_, fun h1 => ?_, fun h2 hni => ?_⟩
  · rw [(State.commBehaviour_step (Step.refl 108103985337730224 y) (by decide)).now (by decide), hnow]
  · have e : y.commBehaviour.can.consumers = y.can.bus.consumers := by
      have e := congrArg Can.consumers hon.bus
      exact e
    rw [e, hcons, Tab.get_set_same]
  · unfold State.commBehaviour
    dsimp only
    split
    · exact State.hasRaised_of_within (n := 0) hemcy
    · split
      · exact State.nmtOff_within hyk hemcy (by decide)
      · exact State.hasRaised_of_within hemcy
  · rw [hon.calm.det _ (by decide), hcount]
  · unfold State.commBehaviour
    dsimp only
    rw [hmode, h0, hnmt]
    split
    · next h => rw [if_pos h.2]; rfl
    · next h =>
      rw [if_neg (by omega), if_neg fun e => h ⟨rfl, e⟩]
      exact hnmt
  · unfold State.commBehaviour
    dsimp only
    rw [hmode, h1, if_neg (by omega), if_neg (by omega)]
    exact hnmt
  · unfold State.commBehaviour
    dsimp only
    rw [hmode, h2, hnmt, if_neg (by omega), if_pos ⟨rfl, hni⟩]
    unfold State.nmtOff
    split
    · assumption
    · rfl

end

end Sys2Proof.Machine

namespace Sys2Proof.Proofs

open Sys2Proof.Machine

/-- Settles O41: what the commands of the NMT master make of the node, and the heartbeats of the node and of those it watches. -/
theorem nmtAndHeartbeats : Obligations.NmtAndHeartbeats := by
  unfold Obligations.NmtAndHeartbeats
  refine ⟨fun s node hu hd => ?_, fun s at_ hc hn hb hat => ⟨fun hw hg => ?_, fun ok hok hw => ?_, fun hw hg => ?_⟩, fun s q v hw => ?_,
    fun s node i hu hi => ?_, fun s i at_ hi hc hn hm hnode => ?_⟩
  · intro counted boots
    have hx : ∀ (c : Instr) f, exec c s = s.canRx (s.nmtDue node) f → exec c s = .next (State.settle s (f s.canGot)) := fun c f h =>
      (h.trans (whenSettled_true hu ..)).trans (by rw [hd, if_pos rfl])
    have hgot : s.canGot.out = s.out := rfl
    refine ⟨settles_step (hx (.nmtStart node) State.nmtOn rfl) (State.nmtOn_step (State.canGot_step (Step.refl _ s) (by decide)) (by decide)) ?_,
      settles_step (hx (.nmtStop node) State.nmtOff rfl) (State.nmtOff_step (State.canGot_step (Step.refl _ s) (by decide)) (by decide)) ?_,
      settles_step (hx (.nmtEnterPreoperational node) State.nmtPre rfl) (State.nmtPre_step (State.canGot_step (Step.refl _ s) (by decide)) (by decide))
        ⟨s.canGot_counts, rfl, rfl, rfl, rfl⟩,
      settles_step (hx (.nmtResetCommunication node) State.resetComm rfl) (State.resetComm_step (State.canGot_step (Step.refl _ s) (by decide)) (by decide))
        (State.resetComm_rebooted (by rw [hgot])),
      settles_step (hx (.nmtResetNode node) State.resetNode rfl) (State.resetNode_step (State.canGot_step (Step.refl _ s) (by decide)) (by decide))
        (State.resetNode_rebooted (by rw [hgot]))⟩
    · unfold State.nmtOn
      by_cases ho : s.can.nmt = .operational
      · rw [if_pos (show s.canGot.can.nmt = .operational from ho)]
        exact ⟨s.canGot_counts, ho, rfl, rfl, fun _ => ⟨rfl, rfl, rfl⟩, fun h => absurd ho h⟩
      · rw [if_neg (show ¬s.canGot.can.nmt = .operational from ho)]
        exact ⟨s.canGot_counts, rfl, rfl, rfl, fun h => absurd h ho, fun _ => ⟨rfl, fun n hn => Can.startPdos_started s.canGot.can s.canGot.now hn⟩⟩
    · unfold State.nmtOff
      by_cases ho : s.can.nmt = .stopped
      · rw [if_pos (show s.canGot.can.nmt = .stopped from ho)]
        exact ⟨s.canGot_counts, ho, fun h => absurd ho h⟩
      · rw [if_neg (show ¬s.canGot.can.nmt = .stopped from ho)]
        exact ⟨s.canGot.sdoEnd_counts.trans s.canGot_counts, rfl, fun _ => ⟨s.canGot.sdoEnd_sdo, fun d hs hk =>
          State.sdoEnd_imageLost (x := s.canGot) rfl hs hk⟩⟩
  · have hx := execHeartbeatProduce_due (sent := true) hw hat hc hn hb
    rw [if_pos (by rw [hg]; rfl)] at hx
    obtain ⟨h1, h2, h3, h4⟩ := s.heartbeatAt_same at_
    obtain ⟨k1, k2, k3, k4⟩ := (s.heartbeatAt at_).heartbeat_outcome
    refine settles_step hx (State.heartbeat_step (h4.mono (by decide)) (by decide)) ⟨k4.trans h1, k3.trans (by rw [h2]), s.can.passive, [], [], ?_⟩
    rw [k1, h2, h3]
    simp
  · have hx := execHeartbeatProduce_due (sent := ok) hw hat hc hn hb
    rw [if_neg (by rcases hok with h | h <;> simp [h])] at hx
    obtain ⟨h1, h2, h3, h4⟩ := s.heartbeatAt_same at_
    exact settles_step hx (Step.put (F := 8388608) h4 (by decide) rfl fun v => ⟨v.1, v.2, v.3, v.4, v.5, v.6, v.7⟩)
      ⟨h1, rfl, by cases s.heartbeatAt at_ |>.can.hbWaiting <;> rfl, rfl⟩
  · have hx : exec (.heartbeatProduce true) s = .next (State.settle s s.heartbeat) :=
      (if_pos ⟨hw, rfl⟩).trans (whenSettled_true (by simp [State.canUp, hc, hn, hb, hg]) ..)
    obtain ⟨k1, k2, k3, -⟩ := s.heartbeat_outcome
    exact settles_step hx (State.heartbeat_step (Step.refl _ s) (by decide)) ⟨k2, k3.trans hat, s.can.passive, [], [], by rw [k1]; simp⟩
  · refine completes_step (State.odWrite_ok hw (fxSetting_heartbeat s v.toNat)) (Step.put (F := 8388608)
      (State.putCell_step (Step.refl _ s) (by decide)) (by decide) rfl fun v => ⟨v.1, v.2, v.3, v.4, v.5, v.6, v.7⟩)
      ⟨State.cell_putCell_same .., fun i j hj hne => ?_, rfl, rfl, rfl⟩
    exact State.cell_putCell_other _ _ hj (by decide) fun e => hne (by rw [e.1, e.2]; exact List.mem_singleton_self _)
  · have hx : exec (.heartbeatReceive node) s = .next (State.settle s { s.canGot with can := { s.canGot.can with
        consumers := s.canGot.can.consumers.set i ⟨some s.canGot.now, false⟩ } }) := by
      show execHeartbeatReceive node s = _
      unfold execHeartbeatReceive
      rw [hi]
      exact whenSettled_true hu ..
    exact settles_step hx (Step.put (F := 8388608) (State.canGot_step (Step.refl _ s) (by decide)) (by decide) rfl
      fun v => ⟨v.1, v.2, v.3, v.4, v.5, v.6, v.7⟩) ⟨rfl, rfl⟩
  · have hx : exec (.heartbeatConsumerTimeout i) s = .next (State.settle s
        (((s.unheard i at_).emcy 0x8130 0x0D03).fire 0x0D03 0 0).commBehaviour) := by
      show execHeartbeatConsumerTimeout i s = _
      unfold execHeartbeatConsumerTimeout
      rw [hi]
      exact whenSettled_true (by simp [hc, hn, hm, hnode]) ..
    obtain ⟨k1, k2, k3, k4, k5, k6, k7⟩ := s.unheard_outcome i at_
    have h0 : Step (maskOf (reportFields ++ ([.now, .fw] : List Field))) s (s.unheard i at_) :=
      Step.put (F := 8388608) (State.advanceTo_step (Step.refl _ s) (by decide)) (by decide) rfl fun v => ⟨v.1, v.2, v.3, v.4, v.5, v.6, v.7⟩
    exact settles_step hx (State.commBehaviour_step (State.fire_step (State.emcy_step h0 (by decide)) (by decide)) (by decide))
      ⟨k1, k2, k3, k4, k5, k6, fun h => k7 h hn⟩

end Sys2Proof.Proofs
end

section
/-! O42: PDOs and SYNC (R314, R335, R336). -/

namespace Sys2Proof.Machine

section

variable {s t x : State} {n : Nat} {bs : List Byte}

/-! ### A PDO's record -/

theorem State.tpdoRun_setTpdo (x : State) (n : Nat) (r : TpdoRun) : (x.setTpdo n r).tpdoRun n = r := Tab.get_set_same ..

theorem State.tpdoRun_setTpdo_other (x : State) (r : TpdoRun) {j : Nat} (h : j ≠ n) : (x.setTpdo n r).tpdoRun j = x.tpdoRun j :=
  Tab.get_set_other _ _ _ h

theorem State.rpdoRun_setRpdo (x : State) (n : Nat) (r : RpdoRun) : (x.setRpdo n r).rpdoRun n = r := Tab.get_set_same ..

theorem State.tpdoInhibited_eq {a : Nat} (h : (x.tpdoRun n).lastAt = some a) : x.tpdoInhibited n = decide (x.now < a + x.tpdoInhibit n) := by
  unfold State.tpdoInhibited
  rw [h]

theorem State.tpdoInhibited_congr (hl : (t.tpdoRun n).lastAt = (x.tpdoRun n).lastAt) (hn : t.now = x.now) (hi : t.tpdoInhibit n = x.tpdoInhibit n) :
    t.tpdoInhibited n = x.tpdoInhibited n := by
  unfold State.tpdoInhibited
  rw [hl, hn, hi]

/-- The parameters of a TPDO are settings, and its identifier one that depends on the node ID where it was never written. -/
theorem State.value_congr {i j : Nat} (hs : t.setting i j = s.setting i j) (hw : t.can.cobWritten = s.can.cobWritten) (hn : t.can.nodeId = s.can.nodeId) :
    t.value i j = s.value i j := by
  unfold State.value
  rw [hs, hw, hn]

theorem State.tpdoOn_congr (hs : ∀ i j, j < 256 → i ≠ 0x1FD2 → i ≠ 0x1FD3 → t.setting i j = s.setting i j) (hw : t.can.cobWritten = s.can.cobWritten)
    (hn : t.can.nodeId = s.can.nodeId) (hu : t.up.collar = s.up.collar) (hm : t.can.nmt = s.can.nmt) (hb : t.can.busOff = s.can.busOff) (h : n < 8) :
    t.tpdoOn n = s.tpdoOn n := by
  have hmap : (t.tpdoMap n).isEmpty = (s.tpdoMap n).isEmpty := by
    unfold State.tpdoMap
    rw [hs _ 0 (by omega) (by omega) (by omega)]
    cases s.setting (0x1A00 + n) 0 <;> simp
  unfold State.tpdoOn State.pdoOpen State.canUp State.tpdoCob
  rw [hmap, hu, hm, hb, State.value_congr (hs _ _ (by omega) (by omega) (by omega)) hw hn]

/-! ### TPDOs -/

/-- What a TPDO that leaves with the values `bs` makes of the state. -/
structure TpdoLeaves (x u : State) (n : Nat) (bs : List Byte) : Prop where
  last : (u.tpdoRun n).last = some bs
  lastAt : (u.tpdoRun n).lastAt = some u.now
  pending : (u.tpdoRun n).pending = false
  syncs : (u.tpdoRun n).syncs = (x.tpdoRun n).syncs
  others : ∀ j, j ≠ n → u.tpdoRun j = x.tpdoRun j
  now : u.now = x.now
  sends : x.sendsCan u (bits (x.tpdoCob n) 10 0) (pad (canFdLength bs.length) bs)
  out : x.canGated = false → x.can.later = [] →
    u.out = x.out ++ [.can (bits (x.tpdoCob n) 10 0) (pad (canFdLength bs.length) bs) (x.can.rate != 0) x.can.passive]
  cells : ∀ i j, j < 256 → i ≠ 0x1FD2 → u.cell i j = x.cell i j
  on : ∀ j, j < 8 → u.tpdoOn j = x.tpdoOn j
  rpdo : u.can.rpdo = x.can.rpdo

theorem State.tpdoSend_leaves (x : State) (n : Nat) (bs : List Byte) : TpdoLeaves x (x.tpdoSend n bs) n bs := by
  obtain ⟨a, ha⟩ : ∃ a, a = x.canSend (bits (x.tpdoCob n) 10 0) (pad (canFdLength bs.length) bs) := ⟨_, rfl⟩
  have hs : Sends x a := ha ▸ State.canSend_sends ..
  have hf : ∀ {α : Type} (f : Can → α), f a.can.quiet = f x.can.quiet := fun f => congrArg f hs.can
  have htab : a.can.tpdo = x.can.tpdo := hf Can.tpdo
  have hrun : ∀ j, a.tpdoRun j = x.tpdoRun j := fun j => congrArg (fun t : Tab TpdoRun => t.get tpdo0 j) htab
  obtain ⟨u, hu⟩ : ∃ u, u = (a.setTpdo n { a.tpdoRun n with
    last := some bs, lastAt := some a.now, pending := false, captured := none, timerAt := some a.now, withheld := false }).draw := ⟨_, rfl⟩
  have hsend : x.tpdoSend n bs = u := by
    rw [hu, ha]
    rfl
  have hself : u.tpdoRun n = { a.tpdoRun n with
      last := some bs, lastAt := some a.now, pending := false, captured := none, timerAt := some a.now, withheld := false } := by
    rw [hu]
    exact State.tpdoRun_setTpdo a n _
  have hother : ∀ j, j ≠ n → u.tpdoRun j = x.tpdoRun j := fun j hj => by
    rw [hu]
    exact (State.tpdoRun_setTpdo_other a _ hj).trans (hrun j)
  have hnow : u.now = a.now ∧ u.out = a.out ∧ u.can.later = a.can.later := by
    rw [hu]
    exact ⟨rfl, rfl, rfl⟩
  rw [hsend]
  refine ⟨by rw [hself], by rw [hself, hnow.1], by rw [hself], by rw [hself, hrun], hother, hnow.1.trans (hs.step.now (by decide)), ?_, fun hg hl => ?_,
    fun i j hj hi => ?_, fun j hj => ?_, ?_⟩
  · exact State.sendsCan_mono (ha ▸ State.canSend_sendsCan (s := x) (x := x) List.prefix_rfl rfl rfl) (by rw [hnow.2.1]) hnow.2.2
  · have hflush : x.canFlush = { x with can := { x.can with later := [] } } := by
      unfold State.canFlush
      rw [hl]
      rfl
    rw [hnow.2.1, ha, State.canSend_leaves _ _ _ hg, hflush, State.canOut_out]
  · rw [hu]
    exact hs.cell i j hj hi
  · have hon : u.tpdoOn j = a.tpdoOn j := by
      rw [hu]
      rfl
    rw [hon]
    exact State.tpdoOn_congr (fun i j hj hi _ => hs.setting i j hj hi) (hf Can.cobWritten) (hf Can.nodeId) (by rw [hs.step.up (by decide)])
      (hf Can.nmt) (hf Can.busOff) hj
  · rw [hu]
    exact hf Can.rpdo

theorem State.tpdoFire_sends (hv : x.tpdoValues n = some bs) (hi : x.tpdoInhibited n = false) (sync : Bool) : x.tpdoFire n sync = x.tpdoSend n bs := by
  unfold State.tpdoFire
  simp only [hv, hi]
  rfl

theorem State.tpdoFire_waits (hv : x.tpdoValues n = some bs) (hi : x.tpdoInhibited n = true) :
    x.tpdoFire n false = x.setTpdo n { x.tpdoRun n with pending := true, captured := none } := by
  unfold State.tpdoFire
  simp only [hv, hi]
  rfl

theorem State.tpdoFire_none (hv : x.tpdoValues n = none) (sync : Bool) :
    x.tpdoFire n sync = (x.setTpdo n { x.tpdoRun n with withheld := true }).bump32 0x1FE1 7 := by
  unfold State.tpdoFire
  simp only [hv]

/-- `y` is `s` with another record of TPDO `n`, perhaps at a later instant. -/
structure TpdoOf (s y : State) (n : Nat) : Prop where
  can : y.can = { s.can with tpdo := y.can.tpdo }
  od : y.od = s.od
  out : y.out = s.out
  others : ∀ j, j ≠ n → y.tpdoRun j = s.tpdoRun j

theorem TpdoOf.set {a : Nat} (r : TpdoRun) : TpdoOf s ((s.advanceTo a).setTpdo n r) n := ⟨rfl, rfl, rfl, fun _ hj => State.tpdoRun_setTpdo_other _ _ hj⟩

theorem TpdoOf.put (r : TpdoRun) : TpdoOf s (s.setTpdo n r) n := ⟨rfl, rfl, rfl, fun _ hj => State.tpdoRun_setTpdo_other _ _ hj⟩

theorem TpdoOf.late (a : Nat) : TpdoOf s (s.advanceTo a) n := ⟨rfl, rfl, rfl, fun _ _ => rfl⟩

theorem TpdoOf.refl (s : State) : TpdoOf s s n := ⟨rfl, rfl, rfl, fun _ _ => rfl⟩

/-- What left with its record changed before, or at a later instant, has left. -/
theorem TpdoLeaves.of_run {y u : State} (h : TpdoLeaves y u n bs) (k : TpdoOf s y n) :
    (u.tpdoRun n).last = some bs ∧ (u.tpdoRun n).lastAt = some u.now ∧ (u.tpdoRun n).pending = false ∧ (∀ j, j ≠ n → u.tpdoRun j = s.tpdoRun j) ∧
      s.sendsCan u (bits (s.tpdoCob n) 10 0) (pad (canFdLength bs.length) bs) ∧ (s.canGated = false → s.can.later = [] →
        u.out = s.out ++ [.can (bits (s.tpdoCob n) 10 0) (pad (canFdLength bs.length) bs) (s.can.rate != 0) s.can.passive]) := by
  have hcob : y.tpdoCob n = s.tpdoCob n := State.value_congr (State.setting_congr k.od _ _) (by rw [k.can]) (by rw [k.can])
  have hgate : y.canGated = s.canGated := by
    unfold State.canGated
    rw [k.can]
  have hrate : y.can.rate = s.can.rate := by rw [k.can]
  refine ⟨h.last, h.lastAt, h.pending, fun j hj => (h.others j hj).trans (k.others j hj), ⟨fun hg => ?_, fun hg => ?_⟩, fun hg hl => ?_⟩
  · have he := h.sends.1 (hgate.trans hg)
    rw [hcob, hrate] at he
    exact he.imp fun _ he => State.emits_base he (by rw [k.out])
  · rw [← hcob]
    exact h.sends.2 (hgate.trans hg)
  · have he := h.out (hgate.trans hg) (by rw [k.can]; exact hl)
    rw [hcob, hrate, k.out, show y.can.passive = s.can.passive by rw [k.can]] at he
    exact he

/-! ### SYNC -/

theorem each_same {α : Type} {f : State → α → State} (l : List α) (hf : ∀ a ∈ l, f x a = x) : each l f x = x := by
  induction l with
  | nil => rfl
  | cons a r ih =>
    show each r f (f x a) = x
    rw [hf a List.mem_cons_self]
    exact ih fun b hb => hf b (List.mem_cons_of_mem _ hb)

theorem State.tpdoSync_off {c : Nat} (h : x.tpdoOn n = false) : x.tpdoSync c n = x := if_pos (.inl h)

/-- The one TPDO whose turn it is leaves. -/
theorem State.tpdoSync_sends {c m : Nat} (hon : x.tpdoOn n = true) (h1 : 1 ≤ x.tpdoType n) (h240 : x.tpdoType n ≤ 240) (hs : (x.tpdoRun n).syncs = some m)
    (hm : (m + 1) % x.tpdoType n = 0) (hi : x.tpdoInhibited n = false) (hv : (x.setTpdo n { x.tpdoRun n with syncs := some 0 }).tpdoValues n = some bs) :
    x.tpdoSync c n = (x.setTpdo n { x.tpdoRun n with syncs := some 0 }).tpdoSend n bs := by
  unfold State.tpdoSync
  dsimp only
  rw [if_neg (by rw [hon]; simp; omega), if_neg (by omega)]
  simp only [hs, hm]
  refine State.tpdoFire_sends hv ?_ true
  rw [← hi]
  exact State.tpdoInhibited_congr (by rw [State.tpdoRun_setTpdo]) rfl rfl

/-- A step that one of the records takes, where the others take none before it or after. -/
theorem each_one {f : State → Nat → State} {y : State} (l : List Nat) (hn : n ∈ l) (hd : l.Nodup) (hy : f x n = y) (hx : ∀ j ∈ l, j ≠ n → f x j = x)
    (hr : ∀ j ∈ l, j ≠ n → f y j = y) : each l f x = y := by
  induction l with
  | nil => cases hn
  | cons a r ih =>
    show each r f (f x a) = y
    obtain ⟨har, hrd⟩ := List.nodup_cons.1 hd
    by_cases e : a = n
    · rw [e, hy]
      exact each_same r fun j hj => hr j (List.mem_cons_of_mem _ hj) fun he => har (by rw [e, ← he]; exact hj)
    · rw [hx a List.mem_cons_self e]
      exact ih ((List.mem_cons.1 hn).resolve_left (Ne.symm e)) hrd (fun j hj => hx j (List.mem_cons_of_mem _ hj)) fun j hj => hr j (List.mem_cons_of_mem _ hj)

/-- The SYNC is latched and counted. -/
def State.synced (s : State) : State := (s.canGot.putCell 0x1FD3 1 s.stamp).bump32 0x1FD3 2

theorem State.synced_cells (s : State) : (s.synced.cell 0x1FD3 1 = s.stamp ∧ s.synced.cell 0x1FD3 2 = (s.cell 0x1FD3 2 + 1) % 2 ^ 32) ∧
    s.otherCells [(0x1FD2, 7), (0x1FD3, 1), (0x1FD3, 2)] s.synced := by
  unfold State.synced
  refine ⟨⟨?_, ?_⟩, fun i j hj hn => ?_⟩
  · rw [State.cell_bump32_other _ (by decide) (by decide) (by decide), State.cell_putCell_same]
  · rw [State.cell_bump32_same, State.cell_putCell_other _ _ (by decide) (by decide) (by decide), s.canGot_cell (by decide) (by decide)]
  · simp only [List.mem_cons, List.not_mem_nil, or_false, not_or] at hn
    rw [State.cell_bump32_other _ hj (by decide) hn.2.2, State.cell_putCell_other _ _ hj (by decide) fun e => hn.2.1 (by rw [e.1, e.2])]
    exact State.cell_bump32_other _ hj (by decide) hn.1

theorem State.synced_same (s : State) : s.synced.can = s.can.counters s.can.tec s.rxErrGood ∧ s.synced.now = s.now ∧ s.synced.out = s.out ∧ s.synced.up = s.up ∧
    (∀ i j, j < 256 → i ≠ 0x1FD2 → i ≠ 0x1FD3 → s.synced.setting i j = s.setting i j) ∧ Step (maskOf [.od, .can, .fresh]) s s.synced := by
  have h : Step (maskOf [.od, .can, .fresh]) s s.synced := State.bump32_step (State.putCell_step (State.canGot_step (Step.refl _ s) (by decide)) (by decide)) (by decide)
  refine ⟨?_, h.now (by decide), h.out (by decide), h.up (by decide), fun i j hj h2 h3 => ?_, h⟩
  · unfold State.synced
    rw [State.bump32_can, State.putCell_can, State.canGot_can]
  unfold State.synced
  refine (State.setting_count_other _ hj (by decide) h3).trans ((State.setting_putCell_other _ _ hj (by decide) fun e => h3 e.1).trans ?_)
  exact State.setting_count_other _ hj (by decide) h2

/-! ### RPDOs -/

theorem State.rpdoMap_congr (hs : ∀ i j, j < 256 → i ≠ 0x1FD2 → t.setting i j = s.setting i j) (hn : n < 8) (h : s.setting (0x1600 + n) 0 ≤ 255) :
    t.rpdoMap n = s.rpdoMap n := by
  unfold State.rpdoMap
  rw [hs _ 0 (by omega) (by omega)]
  refine List.map_congr_left fun i hi => ?_
  rw [hs _ (i + 1) (by have := List.mem_range.1 hi; omega) (by omega)]

theorem State.rpdoApply_one {i j b : Nat} {data : List Byte} (hm : x.rpdoMap n = [(i, j, b)]) :
    x.rpdoApply n data = x.rpdoValue i j (leNat (data.take b)) := by
  unfold State.rpdoApply
  rw [hm]
  rfl

theorem State.rpdoValue_ok {i j v : Nat} {y : State} (hi : 0x1000 ≤ i) (h : x.tryWrite i j (fxSetting i j v) = .ok y) : x.rpdoValue i j v = y := by
  unfold State.rpdoValue
  rw [if_neg (by omega)]
  simp only [h]

theorem State.rpdoValue_error {i j v e : Nat} (hi : 0x1000 ≤ i) (h : x.tryWrite i j (fxSetting i j v) = .error e) :
    x.rpdoValue i j v = (x.aborted .rpdo i j e).bump32 0x1FE1 6 := by
  unfold State.rpdoValue
  rw [if_neg (by omega)]
  simp only [h]

/-- The frame of RPDO `n` has come. -/
def State.rpdoHeard (s : State) (n : Nat) : State := s.canGot.setRpdo n { s.canGot.rpdoRun n with lastAt := some s.now }

theorem State.rpdoHeard_same (s : State) (n : Nat) : Step (maskOf [.od, .can, .fresh]) s (s.rpdoHeard n) ∧
    (s.rpdoHeard n).rpdoRun n = { s.rpdoRun n with lastAt := some s.now } ∧ (s.keepsEmcy → (s.rpdoHeard n).keepsEmcy) ∧ (s.rpdoHeard n).det = s.det ∧
    (∀ i j, j < 256 → i ≠ 0x1FD2 → (s.rpdoHeard n).setting i j = s.setting i j) := by
  have h : Step (maskOf [.od, .can, .fresh]) s (s.rpdoHeard n) := State.setRpdo_step (State.canGot_step (Step.refl _ s) (by decide)) (by decide)
  have hset : ∀ i j, j < 256 → i ≠ 0x1FD2 → (s.rpdoHeard n).setting i j = s.setting i j := fun i j hj hi => State.setting_count_other _ hj (by decide) hi
  exact ⟨h, State.rpdoRun_setRpdo .., fun k => (State.keepsEmcy_congr (by rw [h.up (by decide)]) (hset 0x1014 0 (by decide) (by decide))).2 k,
    h.det (by decide), hset⟩

theorem State.rpdoReceive_heard {data : List Byte} {n : Fin 8} (ho : s.pdoOpen = true) (hb : bit (s.rpdoCob n) 31 = false) (hl : data.length ≤ 64) :
    exec (.rpdoReceive n data) s = .next (State.settle s (
      if data.length < ((s.rpdoMap n).map fun e => e.2.2).sum then ((s.rpdoHeard n).emcy 0x8210 0x0D08).fire 0x0D08 0 0
      else
        let c := if ((s.rpdoMap n).map fun e => e.2.2).sum < data.length then (s.rpdoHeard n).emcy 0x8220 0 else s.rpdoHeard n
        if s.rpdoType n ≤ 240 then c.setRpdo n { c.rpdoRun n with waiting := some data } else c.rpdoApply n data)) := by
  have hu : s.canUp = true := by
    unfold State.pdoOpen at ho
    simp only [Bool.and_eq_true] at ho
    exact ho.1
  refine (whenSettled_true hu ..).trans ?_
  rw [if_pos (by simp [ho, hb, hl])]
  rfl

theorem State.emcy_rpdoRun (x : State) (code det n : Nat) : (x.emcy code det).rpdoRun n = x.rpdoRun n := by
  obtain ⟨h, q, d, hc⟩ := x.emcyAt_node code det x.stamp
  unfold State.rpdoRun State.emcy
  rw [hc]

end

end Sys2Proof.Machine

namespace Sys2Proof.Proofs

open Sys2Proof.Machine

/-- Settles O42: when the PDOs of the node leave, and what becomes of those that it receives. -/
theorem pdos : Obligations.Pdos := by
  unfold Obligations.Pdos
  refine ⟨fun s k hu hn hb => ?_, fun s n hon => ?_, fun s n ho hb => ⟨fun data hl => ?_, fun at_ hat hs => ?_⟩⟩
  · have hx : exec (.syncReceive k) s = .next (State.settle s (if s.synced.can.nmt = .operational
        then each pdoNums State.rpdoSync (each pdoNums (State.tpdoSync k.toNat) s.synced) else s.synced)) := by
      refine (whenSettled_true hu ..).trans ?_
      rw [if_pos (by rw [hb]; simp [hn])]
      rfl
    obtain ⟨hcells, hother⟩ := s.synced_cells
    obtain ⟨hcan, hnow, hout, hup, hset, hstep⟩ := s.synced_same
    have hnmt : s.synced.can.nmt = s.can.nmt := by
      rw [hcan]
      rfl
    rw [hnmt] at hx
    refine ⟨fun hpre => ?_, fun n m bs hop hn8 hoff hrp hon h1 h240 hsy hm => ?_⟩
    · rw [if_neg (by rw [hpre]; decide)] at hx
      exact settles_step hx hstep ⟨hcells, hother, by rw [hcan]; rfl⟩
    · intro a hi hv
      rw [if_pos hop] at hx
      have hrun : ∀ j, s.synced.tpdoRun j = s.tpdoRun j := fun j => by
        unfold State.tpdoRun
        rw [hcan]
        rfl
      have hons : ∀ j, j < 8 → s.synced.tpdoOn j = s.tpdoOn j := fun j hj =>
        State.tpdoOn_congr hset (by rw [hcan]; rfl) (by rw [hcan]; rfl) (by rw [hup]) hnmt (by rw [hcan]; rfl) hj
      have hty : s.synced.tpdoType n = s.tpdoType n := hset _ _ (by omega) (by omega) (by omega)
      obtain ⟨y, hy⟩ : ∃ y, y = s.synced.setTpdo n { s.synced.tpdoRun n with syncs := some 0 } := ⟨_, rfl⟩
      have hsend : s.synced.tpdoSync k.toNat n = y.tpdoSend n bs := by
        rw [hy]
        refine State.tpdoSync_sends ((hons n hn8).trans hon) (by omega) (by omega) (by rw [hrun]; exact hsy) (by rw [hty]; exact hm) ?_ hv
        rw [← hi]
        exact State.tpdoInhibited_congr (by rw [hrun]) hnow (by unfold State.tpdoInhibit; rw [hset _ _ (by omega) (by omega) (by omega)])
      have hk := y.tpdoSend_leaves n bs
      have hyc : y.can.rpdo = s.can.rpdo ∧ y.out = s.out ∧ y.can.rate = s.can.rate ∧ y.canGated = s.canGated ∧ y.tpdoCob n = s.tpdoCob n ∧
          ∀ j, j < 8 → y.tpdoOn j = s.tpdoOn j := by
        have hc : y.can.rpdo = s.synced.can.rpdo ∧ y.out = s.synced.out ∧ y.can.rate = s.synced.can.rate ∧ y.canGated = s.synced.canGated ∧
            y.tpdoCob n = s.synced.tpdoCob n ∧ ∀ j, y.tpdoOn j = s.synced.tpdoOn j := by
          rw [hy]
          exact ⟨rfl, rfl, rfl, rfl, rfl, fun _ => rfl⟩
        obtain ⟨c1, c2, c3, c4, c5, c6⟩ := hc
        refine ⟨c1.trans (by rw [hcan]; rfl), c2.trans hout, c3.trans (by rw [hcan]; rfl), c4.trans (by unfold State.canGated; rw [hcan]; rfl), c5.trans ?_,
          fun j hj => (c6 j).trans (hons j hj)⟩
        exact State.value_congr (hset _ _ (by omega) (by omega) (by omega)) (by rw [hcan]; rfl) (by rw [hcan]; rfl)
      obtain ⟨y1, y2, y3, y4, y5, y6⟩ := hyc
      have htpdos : each pdoNums (State.tpdoSync k.toNat) s.synced = y.tpdoSend n bs :=
        each_one pdoNums (List.mem_range.2 hn8) List.nodup_range hsend
          (fun j hj hne => State.tpdoSync_off ((hons j (List.mem_range.1 hj)).trans (hoff j (List.mem_range.1 hj) hne)))
          fun j hj hne => State.tpdoSync_off ((hk.on j (List.mem_range.1 hj)).trans ((y6 j (List.mem_range.1 hj)).trans (hoff j (List.mem_range.1 hj) hne)))
      have hrpdos : each pdoNums State.rpdoSync (y.tpdoSend n bs) = y.tpdoSend n bs := each_same _ fun j hj => by
        have hw : ((y.tpdoSend n bs).rpdoRun j).waiting = none := by
          unfold State.rpdoRun
          rw [hk.rpdo, y1]
          exact hrp j (List.mem_range.1 hj)
        unfold State.rpdoSync
        simp only [hw]
      rw [htpdos, hrpdos] at hx
      have hys : Step (maskOf [.od, .can, .out, .fresh]) s y := hy ▸ State.setTpdo_step (hstep.mono (by decide)) (by decide)
      refine settles_step hx (State.tpdoSend_step hys (by decide)) ⟨⟨?_, ?_⟩, hk.last, ?_, fun hg => ?_, fun hg => ?_⟩
      · rw [hk.cells _ _ (by decide) (by decide), hy]
        exact hcells.1
      · rw [hk.cells _ _ (by decide) (by decide), hy]
        exact hcells.2
      · rw [hk.syncs, hy, State.tpdoRun_setTpdo]
      · have he := hk.sends.1 (y4.trans hg)
        rw [y3, y5] at he
        exact he.imp fun _ he => State.emits_base he (by rw [y2])
      · rw [← y5]
        exact hk.sends.2 (y4.trans hg)
  · intro r sends waits
    have hcheck : 254 ≤ s.tpdoType n → exec (.tpdoChangeCheck n) s = .next (State.settle s (match s.tpdoValues n with
        | none => s.setTpdo n { r with withheld := true }
        | some bs =>
          if r.pending then s
          else if r.withheld then (s.setTpdo n { r with timerAt := some s.now }).tpdoFire n false
          else if r.last = some bs then s
          else s.tpdoFire n false)) := fun h => (whenSettled_true (by rw [hon]; simpa using h) ..).trans rfl
    have leaves : ∀ {c : Instr} {y : State} {bs : List Byte} {fs : List Field}, exec c s = .next (State.settle s (y.tpdoSend n bs)) → TpdoOf s y n →
        Step (maskOf fs) s y → sub 216172782126366720 (maskOf fs) = true → settles c s fs fun u => u.now = y.now ∧ sends u bs := fun hx hy hs hm =>
      settles_step hx (State.tpdoSend_step hs hm) ⟨(State.tpdoSend_leaves ..).now, (State.tpdoSend_leaves ..).of_run hy⟩
    have drop : ∀ {c : Instr} {fs : List Field} {p : State → Prop} {a : Nat}, (settles c s fs fun u => u.now = a ∧ p u) → settles c s fs p := fun h =>
      h.imp fun u h => ⟨h.1, h.2.1, h.2.2.2⟩
    refine ⟨fun h hv => ?_, fun bs h hv hp => ⟨fun hw hlast => ⟨fun hi => ?_, fun hi => ?_⟩, fun cs hw hv' => ⟨fun hi => ?_, fun hi => ?_⟩⟩,
      fun at_ bs h ht hat => ?_, fun at_ bs hp hat => ?_⟩
    · have hx := hcheck h
      simp only [hv] at hx
      exact settles_step hx (State.setTpdo_step (Step.refl _ s) (by decide)) ⟨State.tpdoRun_setTpdo .., fun j hj => State.tpdoRun_setTpdo_other _ _ hj⟩
    · have hx := hcheck h
      simp only [hv, hp, hw, if_neg hlast, Bool.false_eq_true, if_false] at hx
      rw [State.tpdoFire_sends hv hi] at hx
      exact drop (leaves hx (TpdoOf.refl s) (Step.refl _ s) (by decide))
    · have hx := hcheck h
      simp only [hv, hp, hw, if_neg hlast, Bool.false_eq_true, if_false] at hx
      rw [State.tpdoFire_waits hv hi] at hx
      exact settles_step hx (State.setTpdo_step (Step.refl _ s) (by decide)) ⟨State.tpdoRun_setTpdo .., fun j hj => State.tpdoRun_setTpdo_other _ _ hj⟩
    · have hx := hcheck h
      rw [hv] at hx
      dsimp only at hx
      rw [if_neg (by rw [hp]; decide), if_pos hw] at hx
      rw [State.tpdoFire_sends hv' (by rw [← hi]; exact State.tpdoInhibited_congr (by rw [State.tpdoRun_setTpdo]) rfl rfl)] at hx
      exact drop (leaves hx (TpdoOf.put _) (State.setTpdo_step (Step.refl _ s) (by decide)) (by decide))
    · have hx := hcheck h
      rw [hv] at hx
      dsimp only at hx
      rw [if_neg (by rw [hp]; decide), if_pos hw] at hx
      rw [State.tpdoFire_waits hv' (by rw [← hi]; exact State.tpdoInhibited_congr (by rw [State.tpdoRun_setTpdo]) rfl rfl), State.tpdoRun_setTpdo] at hx
      exact settles_step hx (State.setTpdo_step (State.setTpdo_step (Step.refl _ s) (by decide)) (by decide))
        ⟨State.tpdoRun_setTpdo .., fun j hj => (State.tpdoRun_setTpdo_other _ _ hj).trans (State.tpdoRun_setTpdo_other _ _ hj)⟩
    · intro a b hv hi
      have hx : exec (.tpdoEventTimer n) s = .next (State.settle s (b.tpdoFire n false)) := by
        show execTpdoEventTimer n s = _
        unfold execTpdoEventTimer
        rw [hat]
        exact whenSettled_true (by simp [hon, h, ht]) ..
      rw [State.tpdoFire_sends hv hi] at hx
      exact leaves (y := b) hx (TpdoOf.set _) (State.setTpdo_step (State.advanceTo_step (Step.refl _ s) (by decide)) (by decide)) (by decide)
    · intro a b ends
      have hx : exec (.tpdoInhibitEnd n) s = .next (State.settle s (match r.captured with
          | some bs => if (a.tpdoValues n).isSome then a.tpdoSend n bs else b.tpdoFire n true
          | none => (a.setTpdo n { r with pending := false }).tpdoFire n false)) := by
        show execTpdoInhibitEnd n s = _
        unfold execTpdoInhibitEnd
        dsimp only
        split
        · next h => exact absurd (hat.symm.trans h) (by simp)
        · next t h =>
          obtain rfl : at_ = t := Option.some.inj (hat.symm.trans h)
          have hc : (s.tpdoOn n && (s.tpdoRun n).pending) = true := by
            rw [hon]
            exact hp
          exact whenSettled_true hc ..
      have hfree : b.tpdoInhibited n = false := by
        rw [State.tpdoInhibited_eq (a := at_) (by rw [State.tpdoRun_setTpdo]; exact hat), decide_eq_false_iff_not]
        have hle : at_ + s.tpdoInhibit n ≤ b.now := le_max_right ..
        exact not_lt.2 hle
      have hlate : Step (maskOf [.now, .od, .can, .out, .fresh]) s a := State.advanceTo_step (Step.refl _ s) (by decide)
      refine ⟨fun hc hv => ?_, fun hc hv hv' => ?_, fun hc hv => ?_⟩
      · simp only [hc, hv, if_true] at hx
        exact leaves hx (TpdoOf.late _) hlate (by decide)
      · simp only [hc, hv, Option.isSome_none, Bool.false_eq_true, if_false] at hx
        rw [State.tpdoFire_none hv', State.tpdoRun_setTpdo] at hx
        exact settles_step hx (State.bump32_step (State.setTpdo_step (State.setTpdo_step hlate (by decide)) (by decide)) (by decide))
          ⟨rfl, State.tpdoRun_setTpdo (a.setTpdo n _) n _, fun j hj =>
            (State.tpdoRun_setTpdo_other b _ hj).trans (State.tpdoRun_setTpdo_other a _ hj)⟩
      · simp only [hc] at hx
        rw [show (a.setTpdo n { r with pending := false, captured := none }) = b from rfl, State.tpdoFire_sends hv hfree] at hx
        exact leaves (y := b) hx (TpdoOf.set _) (State.setTpdo_step hlate (by decide)) (by decide)
  · intro need x
    have hx := State.rpdoReceive_heard (s := s) (n := n) ho hb hl
    obtain ⟨hstep, hrun, hk, hdet, hset⟩ := s.rpdoHeard_same n
    refine ⟨fun hlt => ?_, fun heq hty => ?_, fun hgt hty => ?_, fun i j b heq hty hmap hi => ?_⟩
    · rw [if_pos hlt] at hx
      refine settles_step hx (State.fire_step (State.emcy_step (hstep.mono (by decide)) (by decide)) (by decide)) ⟨fun h1 h2 => ?_, ?_, ?_⟩
      · rw [State.fire_can, State.emcy, State.emcyAt_history (hk ⟨h1, h2⟩) (by decide)]
        exact List.mem_of_mem_head? rfl
      · rw [State.detOf_fire_count, State.emcy, (State.emcyAt_onBus ..).calm.det _ (by decide), State.detOf_congr hdet]
      · refine Eq.trans ?_ ((State.emcy_rpdoRun _ 0x8210 0x0D08 _).trans hrun)
        unfold State.rpdoRun
        rw [State.fire_can]
    · have hng : ¬((s.rpdoMap n).map fun e => e.2.2).sum < data.length := by
        show ¬need < _
        omega
      rw [if_neg (by show ¬data.length < need; omega)] at hx
      dsimp only at hx
      rw [if_neg hng, if_pos hty, hrun] at hx
      exact settles_step hx (State.setRpdo_step hstep (by decide)) (State.rpdoRun_setRpdo ..)
    · rw [if_neg (by show ¬data.length < need; omega)] at hx
      dsimp only at hx
      rw [if_pos hgt, if_pos hty] at hx
      refine settles_step hx (State.setRpdo_step (State.emcy_step (hstep.mono (by decide)) (by decide)) (by decide)) ⟨fun h1 h2 => ?_, ?_⟩
      · have hh : ((s.rpdoHeard n).emcy 0x8220 0).can.history = ((0x8220 + 0 * 65536) :: (s.rpdoHeard n).can.history).take 8 :=
          State.emcyAt_history (hk ⟨h1, h2⟩) (by decide) ..
        show _ ∈ ((s.rpdoHeard n).emcy 0x8220 0).can.history
        rw [hh]
        exact List.mem_of_mem_head? rfl
      · rw [State.rpdoRun_setRpdo]
    · rw [if_neg (by show ¬data.length < need; omega)] at hx
      dsimp only at hx
      have hlen : s.setting (0x1600 + n) 0 = 1 := by
        have h := congrArg List.length hmap
        unfold State.rpdoMap at h
        simpa using h
      have hmap' : (s.rpdoHeard n).rpdoMap n = [(i, j, b)] := (State.rpdoMap_congr hset n.isLt (by omega)).trans hmap
      have hng : ¬((s.rpdoMap n).map fun e => e.2.2).sum < data.length := by
        show ¬need < _
        omega
      rw [if_neg hng, if_neg (by omega), State.rpdoApply_one hmap'] at hx
      refine ⟨fun y hy => ?_, fun e he => ?_⟩
      · rw [State.rpdoValue_ok (x := s.rpdoHeard n) hi hy] at hx
        exact hx
      · rw [State.rpdoValue_error (x := s.rpdoHeard n) hi he] at hx
        refine settles_step hx (State.bump32_step (State.aborted_step hstep (by decide)) (by decide)) ⟨?_, ?_, ?_⟩
        · rw [State.cell_bump32_other _ (by decide) (by decide) (by decide), State.aborted, State.cell_putCell_other _ _ (by decide) (by decide) (by decide),
            State.cell_putCell_same]
        · rw [State.cell_bump32_other _ (by decide) (by decide) (by decide), State.aborted, State.cell_putCell_same]
          rfl
        · rw [State.cell_bump32_same, State.aborted, State.cell_putCell_other _ _ (by decide) (by decide) (by decide),
            State.cell_putCell_other _ _ (by decide) (by decide) (by decide)]
          exact congrArg (fun v => (v + 1) % 2 ^ 32) (s.canGot_cell (by decide) (by decide))
  · have hx : exec (.rpdoEventTimeout n) s = .next (State.settle s
        (((s.advanceTo (at_ + s.setting (0x1400 + n.val) 5 * psMs)).setRpdo n { s.rpdoRun n with lastAt := none }).emcy 0x8250 0)) := by
      show execRpdoEventTimeout n s = _
      unfold execRpdoEventTimeout
      dsimp only
      rw [hat]
      exact whenSettled_true (by simp [ho, hb, hs]) ..
    obtain ⟨y, hy⟩ : ∃ y, y = (s.advanceTo (at_ + s.setting (0x1400 + n.val) 5 * psMs)).setRpdo n { s.rpdoRun n with lastAt := none } := ⟨_, rfl⟩
    have hys : Step (maskOf (.now :: reportFields)) s y := hy ▸ State.setRpdo_step (State.advanceTo_step (Step.refl _ s) (by decide)) (by decide)
    rw [← hy] at hx
    refine settles_step hx (State.emcy_step hys (by decide)) ⟨?_, ?_, fun h1 h2 => ?_⟩
    · rw [State.emcy, State.emcyAt_now, hy]
      rfl
    · rw [State.emcy_rpdoRun, hy, State.rpdoRun_setRpdo]
    · have hh : (y.emcy 0x8250 0).can.history = ((0x8250 + 0 * 65536) :: y.can.history).take 8 :=
        State.emcyAt_history (by rw [hy]; exact ⟨h1, h2⟩) (by decide) ..
      rw [hh]
      exact List.mem_of_mem_head? rfl

end Sys2Proof.Proofs
end

section
/-! O47: the management window (R341 to R345, R435). -/

namespace Sys2Proof.Machine

section

variable {s t x : State} {f g : Fn} {r : MailReq} {code : Nat} {bs : List Byte}

/-! ### Mailboxes -/

theorem State.box_setBox (x : State) (f : Fn) (b : Mailbox) : (x.setBox f b).box f = b := by cases f <;> rfl

theorem State.box_setBox_other (x : State) (b : Mailbox) (h : g ≠ f) : (x.setBox f b).box g = x.box g := by
  cases f <;> cases g
  · exact absurd rfl h
  · rfl
  · rfl
  · exact absurd rfl h

theorem State.box_congr (ha : t.boxA = x.boxA) (hb : t.boxB = x.boxB) (f : Fn) : t.box f = x.box f := by
  cases f
  · exact ha
  · exact hb

/-- The index and the sub-index that a request's command word holds. -/
theorem bits_command {i j k : Nat} (hi : i < 65536) (hj : j < 256) : bits (i + j * 65536 + k * 16777216) 15 0 = i ∧ bits (i + j * 65536 + k * 16777216) 23 16 = j := by
  unfold bits
  norm_num
  omega

theorem Mailbox.go_cmd (b : Mailbox) (r : MailReq) :
    (b.go r).cmd = r.index.toNat + r.sub.toNat * 65536 + (r.op.toNat + flag r.more * 8) * 16777216 := by
  unfold Mailbox.go
  dsimp only
  norm_num
  omega

theorem Mailbox.go_chunk (b : Mailbox) (r : MailReq) : (b.go r).chunk = b.chunk := by
  unfold Mailbox.go
  rfl

theorem Mailbox.go_fields (b : Mailbox) (r : MailReq) : (b.go r).busy = true ∧ (b.go r).answer = none ∧ (b.go r).chunk = b.chunk ∧
    (b.go r).len = r.len.toNat % 2 ^ 17 ∧ (b.go r).index = r.index.toNat ∧ (b.go r).sub = r.sub.toNat := by
  refine ⟨rfl, rfl, b.go_chunk r, rfl, ?_, ?_⟩
  · unfold Mailbox.index
    rw [b.go_cmd r]
    exact (bits_command (by have h := r.index.isLt; omega) (by have h := r.sub.isLt; omega)).1
  · unfold Mailbox.sub
    rw [b.go_cmd r]
    exact (bits_command (by have h := r.index.isLt; omega) (by have h := r.sub.isLt; omega)).2

/-! ### A request -/

/-- The request stands in its mailbox and is counted; nothing else of what its answer reads has changed. -/
structure Going (s x : State) (f : Fn) (r : MailReq) : Prop where
  box : x.box f = (s.box f).go r
  others : ∀ g, g ≠ f → x.box g = s.box g
  count : x.cell 0x1FE2 1 = (s.cell 0x1FE2 1 + 1) % 2 ^ 32
  step : Step (maskOf [.od, .boxA, .boxB, .fresh]) s x

theorem State.going_step (s : State) (f : Fn) (r : MailReq) : Step (maskOf [.od, .boxA, .boxB]) s (s.going f r) :=
  State.bump32_step (State.setBox_step (Step.refl _ s) (by decide)) (by decide)

theorem State.going_going (s : State) (f : Fn) (r : MailReq) : Going s (s.going f r) f r := by
  have hbox : ∀ g, (s.going f r).box g = (s.setBox f ((s.box f).go r)).box g := fun g => by cases g <;> rfl
  refine ⟨(hbox f).trans (State.box_setBox ..), fun g hg => (hbox g).trans (State.box_setBox_other _ _ hg), ?_, (s.going_step f r).mono (by decide)⟩
  unfold State.going
  rw [State.cell_bump32_same, State.cell_congr (State.setBox_od ..)]

/-- A value is captured, which takes a free word. -/
theorem Going.draw (h : Going s x f r) : Going s x.draw f r :=
  ⟨by rw [← h.box]; cases f <;> rfl, fun g hg => by rw [← h.others g hg]; cases g <;> rfl, h.count, State.draw_step h.step (by decide)⟩

/-- The answer of a mailbox that is busy. -/
theorem State.boxAnswer_busy (h : (x.box f).busy = true) (code : Nat) (bs : List Byte) :
    x.boxAnswer f code bs = (if code = 0 then x else x.aborted (pathOf f) (x.box f).index (x.box f).sub code).setBox f
      { x.box f with answer := some (code, bs, false) } := if_pos h

theorem State.boxAnswer_box (h : (x.box f).busy = true) (code : Nat) (bs : List Byte) :
    (x.boxAnswer f code bs).box f = { x.box f with answer := some (code, bs, false) } ∧ ∀ g, g ≠ f → (x.boxAnswer f code bs).box g = x.box g := by
  rw [State.boxAnswer_busy h]
  refine ⟨State.box_setBox .., fun g hg => (State.box_setBox_other _ _ hg).trans ?_⟩
  split
  · rfl
  · cases g <;> rfl

theorem Going.says (h : Going s x f r) (code : Nat) (bs : List Byte) : s.boxSays (x.boxAnswer f code bs) f r code bs := by
  obtain ⟨hbusy, -, -, -, hi, hj⟩ := (s.box f).go_fields r
  rw [← h.box] at hbusy hi hj
  obtain ⟨h1, h2⟩ := State.boxAnswer_box hbusy code bs
  refine ⟨h1.trans (by rw [h.box]), fun g hg => (h2 g hg).trans (h.others g hg), ?_, fun hc => ?_⟩
  · rw [State.boxAnswer_busy hbusy, State.cell_congr (State.setBox_od ..), ← h.count]
    split
    · rfl
    · exact ((State.cell_putCell_other _ _ (by decide) (by decide) (by decide)).trans (State.cell_putCell_other _ _ (by decide) (by decide) (by decide)))
  · rw [State.boxAnswer_busy hbusy, if_neg hc, State.cell_congr (State.setBox_od ..), State.cell_congr (State.setBox_od ..), hi, hj]
    obtain ⟨k1, k2⟩ : (x.aborted (pathOf f) r.index.toNat r.sub.toNat code).cell 0x1FE1 4 = code ∧
        (x.aborted (pathOf f) r.index.toNat r.sub.toNat code).cell 0x1FE1 5 = r.index.toNat + r.sub.toNat * 65536 + pathNum (pathOf f) * 2 ^ 24 := by
      refine ⟨?_, State.cell_putCell_same ..⟩
      unfold State.aborted
      rw [State.cell_putCell_other _ _ (by decide) (by decide) (by decide), State.cell_putCell_same]
    exact ⟨k1, k2⟩

theorem Going.replies (h : Going s x f r) {c : Instr} (hx : exec c s = .next (State.settle s (x.boxAnswer f code bs))) :
    settles c s [.od, .boxA, .boxB, .fresh] fun u => s.boxSays u f r code bs :=
  settles_step hx (State.boxAnswer_step h.step (by decide)) (h.says code bs)

/-- The three rows of a request, and what each performs. -/
def mailRun (f : Fn) (r : MailReq) (c : Instr) (x : State) : State := match c with
  | .mailboxRead _ _ => x.boxRead f r
  | .mailboxWrite _ _ => x.boxWrite f r
  | _ => (x.chunkEnd f).boxAnswer f 0 []

theorem exec_mail {c : Instr} (hw : s.windowUp f = true)
    (hc : (c = .mailboxRead f r ∧ r.op = 1) ∨ (c = .mailboxWrite f r ∧ r.op = 2) ∨ (c = .mailboxAbort f r ∧ r.op = 3)) :
    exec c s = .next (State.settle s (s.boxGo f r (mailRun f r c))) := by
  rcases hc with ⟨rfl, ho⟩ | ⟨rfl, ho⟩ | ⟨rfl, ho⟩
  · exact whenSettled_true (by rw [hw]; simp [opFits, ho]) ..
  · exact whenSettled_true (by rw [hw]; simp [opFits, ho]) ..
  · exact whenSettled_true (by rw [hw]; simp [opFits, ho]) ..

theorem State.boxGo_busy {run : State → State} (h : (s.box f).busy = true) : s.boxGo f r run = s.bump32 0x1FE2 3 := if_pos h

theorem State.boxGo_bad {run : State → State} (h : (s.box f).busy = false) (hb : reqBad r = true) :
    s.boxGo f r run = (s.going f r).boxAnswer f 0x05040001 [] := (if_neg (by rw [h]; decide)).trans (if_pos hb)

theorem State.boxGo_run {run : State → State} (h : (s.box f).busy = false) (hb : reqBad r = false) : s.boxGo f r run = run (s.going f r) :=
  (if_neg (by rw [h]; decide)).trans (if_neg (by rw [hb]; decide))

/-! ### DOMAIN transfers -/

theorem State.imageEnded_stands (x : State) : Stands x x.imageEnded := by
  unfold State.imageEnded
  split
  · exact State.updateEnd_stands ..
  · exact Stands.of_fields rfl rfl rfl rfl rfl

/-- The function's transfer has ended, and the rest of its mailbox stands. -/
theorem State.chunkEnd_box (x : State) (f : Fn) : (x.chunkEnd f).box f = { x.box f with chunk := none } := by
  unfold State.chunkEnd
  split
  · next h => rw [← h]
  · have k := ((x.setBox f { x.box f with chunk := none }).imageEnded_stands)
    rw [State.box_congr k.boxA k.boxB, State.box_setBox]

theorem State.chunkEnd_none (h : (x.box f).chunk = none) : x.chunkEnd f = x := by
  unfold State.chunkEnd
  rw [h]

theorem State.chunkEnd_some {c : Chunked} (h : (x.box f).chunk = some c) : x.chunkEnd f = (x.setBox f { x.box f with chunk := none }).imageEnded := by
  unfold State.chunkEnd
  rw [h]

/-- The image that it carried is given up. -/
theorem State.chunkEnd_failed (h : (x.box f).chunk.isSome = true) (hu : x.fw.upd = .ready ∨ x.fw.upd = .writing) :
    (x.chunkEnd f).fw.upd = .failed ∧ (x.chunkEnd f).fw.slot x.fw.updB = slot0 := by
  obtain ⟨c, hc⟩ := Option.isSome_iff_exists.1 h
  obtain ⟨y, hy⟩ : ∃ y, y = x.setBox f { x.box f with chunk := none } := ⟨_, rfl⟩
  have hf : y.fw = x.fw := by rw [hy, State.setBox_fw]
  rw [State.chunkEnd_some hc, ← hy, State.imageEnded_inHand (by rw [hf]; tauto), State.updateEnd_fw, hf]
  refine ⟨rfl, ?_⟩
  rw [← Firmware.slot_setSlot x.fw x.fw.updB slot0]
  cases x.fw.updB <;> rfl

theorem State.chunkEnd_cell (x : State) (f : Fn) {i j : Nat} (hr : ¬reportCell i) (hj : j < 256) : (x.chunkEnd f).cell i j = x.cell i j := by
  unfold State.chunkEnd
  split
  · rfl
  · unfold State.imageEnded
    split
    · obtain ⟨w, hx⟩ := (x.setBox f { x.box f with chunk := none }).updateEnd_eq slot0 false 7 0
      rw [hx, State.emcyEvent_cell _ hj hr]
      exact State.cell_congr (State.setBox_od ..) _ _
    · exact State.cell_congr (State.setBox_od ..) _ _

/-- Bytes of the image in its mailbox's transfer `c`. -/
theorem State.boxImage_outcome {c : Chunked} (hb : (x.box f).busy = true) (ha : (x.box f).answer = none) (hc : (x.box f).chunk = some c) (n : Nat) (more : Bool) :
    (c.pos + n = x.cell 0x2C21 2 → ((x.boxImage f c n more).box f).chunk = none ∧ ((x.boxImage f c n more).box f).answer = none ∧
      (x.boxImage f c n more).fw.updBytes = x.fw.updBytes + n) ∧
    (c.pos + n < x.cell 0x2C21 2 → more = true → ((x.boxImage f c n more).box f).chunk = some { c with pos := c.pos + n, lastAt := x.now } ∧
      ((x.boxImage f c n more).box f).answer = some (0, [], false) ∧ (x.boxImage f c n more).fw.updBytes = x.fw.updBytes + n) ∧
    (x.cell 0x2C21 2 < c.pos + n ∨ (more = false ∧ c.pos + n ≠ x.cell 0x2C21 2) → ((x.boxImage f c n more).box f).chunk = none ∧
      ((x.boxImage f c n more).box f).answer = some (0x06040043, [], false)) := by
  have hbox : (x.imageBytes n).box f = x.box f := by cases f <;> rfl
  unfold State.boxImage
  dsimp only
  refine ⟨fun h => ?_, fun h hm => ?_, fun h => ?_⟩
  · rw [if_neg (by omega), if_pos h]
    refine ⟨by rw [State.box_setBox], by rw [State.box_setBox, hbox]; exact ha, ?_⟩
    rw [State.setBox_fw]
    rfl
  · rw [if_neg (by rw [hm]; simp; omega), if_neg (by omega), hbox]
    obtain ⟨y, hy⟩ : ∃ y, y = (x.imageBytes n).setBox f { x.box f with chunk := some { c with pos := c.pos + n, lastAt := x.now } } := ⟨_, rfl⟩
    have hyb : y.box f = { x.box f with chunk := some { c with pos := c.pos + n, lastAt := x.now } } := by rw [hy, State.box_setBox]
    have hyf : y.fw.updBytes = x.fw.updBytes + n := by
      rw [hy, State.setBox_fw]
      rfl
    rw [← hy]
    have k := (State.boxAnswer_box (x := y) (f := f) (by rw [hyb]; exact hb) 0 []).1
    refine ⟨by rw [k, hyb], by rw [k], ?_⟩
    rw [(State.boxAnswer_step (Step.refl 54525952 y) (by decide)).fw (by decide), hyf]
  · rw [if_pos h]
    have hk := x.chunkEnd_box f
    have k := (State.boxAnswer_box (x := x.chunkEnd f) (f := f) (by rw [hk]; exact hb) 0x06040043 []).1
    exact ⟨by rw [k, hk], by rw [k]⟩

theorem State.setBox_accessCheck (x : State) (f : Fn) (b : Mailbox) (w : Bool) (i j : Nat) : (x.setBox f b).accessCheck w i j = x.accessCheck w i j := by
  cases f <;> rfl

theorem State.bump32_accessCheck (x : State) (k l : Nat) (w : Bool) (i j : Nat) : (x.bump32 k l).accessCheck w i j = x.accessCheck w i j := rfl

theorem State.imageCheck_congr (hf : t.fw = s.fw) (hc : t.cell 0x2C21 2 = s.cell 0x2C21 2) (len : Option Nat) : t.imageCheck len = s.imageCheck len := by
  unfold State.imageCheck
  rw [hf, hc]

/-- A WRITE of the image, by the transfer that it begins or goes on with. -/
theorem State.boxDomain_outcome {c : Chunked} (h : Going s x f r) (hx : x = s.going f r)
    (hok : r.offset = 0 → s.accessCheck true 0x2C20 0 = none ∧ s.imageCheck (if r.more then none else some (r.len.toNat % 2 ^ 17)) = none)
    (hc : s.chunkFor f r = some c) : ∃ y : State, x.boxDomain f r = y.boxImage f c (r.len.toNat % 2 ^ 17) r.more ∧ (y.box f).busy = true ∧
      (y.box f).answer = none ∧ (y.box f).chunk = some c ∧ y.now = s.now ∧ y.cell 0x2C21 2 = s.cell 0x2C21 2 ∧ y.fw.updBytes = s.fw.updBytes ∧
      Step (maskOf (reportFields ++ ([.boxA, .boxB, .fw] : List Field))) s y := by
  obtain ⟨hbusy, hans, hch, hlen, -, -⟩ := (s.box f).go_fields r
  rw [← h.box] at hbusy hans hch hlen
  have hstep : Step (maskOf [.od, .boxA, .boxB]) s x := hx ▸ s.going_step f r
  have hcell : x.cell 0x2C21 2 = s.cell 0x2C21 2 := by
    rw [hx, State.going, State.cell_bump32_other _ (by decide) (by decide) (by decide), State.cell_congr (State.setBox_od ..)]
  have hfw := hstep.fw (by decide)
  unfold State.chunkFor at hc
  unfold State.boxDomain
  dsimp only
  by_cases ho : r.offset = 0
  · rw [if_pos ho] at hc
    obtain ⟨hacc, himg⟩ := hok ho
    have hacc' : x.accessCheck true 0x2C20 0 = none := by
      rw [hx, State.going, State.bump32_accessCheck, State.setBox_accessCheck, hacc]
    have himg' : x.imageCheck (if r.more then none else some (r.len.toNat % 2 ^ 17)) = none := by
      rw [State.imageCheck_congr hfw hcell, himg]
    rw [if_pos ho]
    simp only [hacc', himg', Option.or, hlen]
    obtain ⟨y, hy⟩ : ∃ y : State, y = ({ x with fw := { x.fw with imagePath := some (pathOf f) } } : State).setBox f { x.box f with chunk := some c } := ⟨_, rfl⟩
    have hyb : y.box f = { x.box f with chunk := some c } := by rw [hy, State.box_setBox]
    have hw : Step (maskOf (reportFields ++ ([.boxA, .boxB, .fw] : List Field))) s ({ x with fw := { x.fw with imagePath := some (pathOf f) } } : State) :=
      Step.put (F := 36028797018963968) (hstep.mono (by decide)) (by decide) rfl fun v => ⟨v.1, v.2, v.3, v.4, v.5, v.6, v.7⟩
    refine ⟨y, ?_, by rw [hyb]; exact hbusy, by rw [hyb]; exact hans, by rw [hyb], ?_, ?_, ?_, ?_⟩
    · rw [hy, ← Option.some.inj hc, ← hstep.now (by decide), ← hlen]
    · rw [hy, State.setBox_now]
      exact hstep.now (by decide)
    · rw [hy, State.cell_congr (State.setBox_od ..)]
      exact hcell
    · rw [hy, State.setBox_fw]
      exact (congrArg Firmware.updBytes hfw : x.fw.updBytes = s.fw.updBytes)
    · rw [hy]
      exact State.setBox_step hw (by decide)
  · rw [if_neg ho] at hc
    rw [if_neg ho, hch]
    cases hk : (s.box f).chunk with
    | none =>
      rw [hk] at hc
      cases hc
    | some d =>
      rw [hk] at hc
      dsimp only at hc ⊢
      split at hc
      · next hp =>
        obtain rfl := Option.some.inj hc
        rw [if_pos hp, hlen]
        exact ⟨x, rfl, hbusy, hans, hch.trans hk, hstep.now (by decide), hcell, congrArg Firmware.updBytes hfw, hstep.mono (by decide)⟩
      · cases hc

/-- A vector that is raised, or waits masked. -/
theorem State.raise_outcome (x : State) (f : Fn) (v : Nat) : (x.raise f v).od = x.od ∧ (x.raise f v).boxA = x.boxA ∧ (x.raise f v).boxB = x.boxB ∧
    (x.vectorMasked f v = false → (x.raise f v).out = x.out ++ [.msix f v] ∧ (x.raise f v).pba = x.pba) := by
  unfold State.raise
  split
  · next h => exact ⟨rfl, rfl, rfl, fun hm => by rw [hm] at h; cases h⟩
  · exact ⟨rfl, rfl, rfl, fun _ => ⟨rfl, rfl⟩⟩

end

end Sys2Proof.Machine

namespace Sys2Proof.Proofs

open Sys2Proof.Machine

/-- Settles O47: the reads of the mirror, and the requests of a mailbox from their GO to their completion. -/
theorem managementWindow : Obligations.ManagementWindow := by
  unfold Obligations.ManagementWindow
  refine ⟨fun s f hw => ⟨fun off n h1 hn => ?_, fun off ho => ?_, fun hb => ?_, fun r => ?_⟩, fun s f => ⟨fun code bs x ha hb => ?_, fun c hc => ?_⟩⟩
  · exact completes_of (whenDue_true (by simp [hw, h1, hn]) ..) (exec_mirrorRead s) (by decide) rfl
  · refine completes_of (whenDue_true (by simp [hw, ho]) ..) (exec_mirrorWrite s) (by decide) ⟨State.cell_bump32_same .., fun i j hj hne => ?_⟩
    exact State.cell_bump32_other _ hj (by decide) fun e => hne (by rw [e]; exact List.mem_singleton_self _)
  · exact completes_of (whenDue_true (by simp [hw, hb]) ..) (exec_mailboxDoneClear s) (by decide)
      ⟨State.box_setBox .., fun g hg => State.box_setBox_other _ _ hg⟩
  · intro i j a fs reply
    have hg := s.going_going f r
    obtain ⟨hbusy, hans, hch, hlen, hidx, hsub⟩ := (s.box f).go_fields r
    refine ⟨fun c hc => ⟨fun hb => ?_, fun hb hbad => ?_⟩, fun hb hok => ⟨fun ho => ⟨fun hk => ?_, fun hk hd => ⟨fun e he _ => ?_, fun bs he => ?_⟩⟩,
      fun ho => ⟨fun hk => ?_, fun hk hd => ⟨fun e he _ => ?_, fun v hv hh hvb => ?_⟩, fun hd hoff c hc => ?_⟩, fun ho => ?_⟩⟩
    · have hx := exec_mail hw hc
      rw [State.boxGo_busy hb] at hx
      refine settles_step hx (State.bump32_step (Step.refl _ s) (by decide)) ⟨State.cell_bump32_same .., fun i j hj hne => ?_⟩
      exact State.cell_bump32_other _ hj (by decide) fun e => hne (by rw [e]; exact List.mem_singleton_self _)
    · have hx := exec_mail hw hc
      rw [State.boxGo_bad hb hbad] at hx
      exact hg.replies hx
    · have hx := exec_mail (c := .mailboxRead f r) hw (.inl ⟨rfl, ho⟩)
      rw [State.boxGo_run hb hok, mailRun, State.boxRead, if_pos hk] at hx
      exact hg.replies hx
    · have hx := exec_mail (c := .mailboxRead f r) hw (.inl ⟨rfl, ho⟩)
      rw [State.boxGo_run hb hok, mailRun, State.boxRead, if_neg (by rw [hk]; decide)] at hx
      rw [if_neg (fun h => absurd (hd.symm.trans h.1) (by decide)), show (s.going f r).odRead r.index.toNat r.sub.toNat = .error e from he] at hx
      exact hg.replies hx
    · have hx := exec_mail (c := .mailboxRead f r) hw (.inl ⟨rfl, ho⟩)
      rw [State.boxGo_run hb hok, mailRun, State.boxRead, if_neg (by rw [hk]; decide)] at hx
      rw [if_neg (fun h => absurd (hd.symm.trans h.1) (by decide)), show (s.going f r).odRead r.index.toNat r.sub.toNat = .ok bs from he] at hx
      exact hg.draw.replies hx
    · have hx := exec_mail (c := .mailboxWrite f r) hw (.inr (.inl ⟨rfl, ho⟩))
      rw [State.boxGo_run hb hok, mailRun, State.boxWrite, if_pos hk] at hx
      exact hg.replies hx
    · have hx := exec_mail (c := .mailboxWrite f r) hw (.inr (.inl ⟨rfl, ho⟩))
      rw [State.boxGo_run hb hok, mailRun, State.boxWrite, if_neg (by rw [hk]; decide)] at hx
      rw [if_neg (fun h => absurd (hd.symm.trans h) (by decide)),
        show (s.going f r).tryWrite r.index.toNat r.sub.toNat (fxWrite (pathOf f) r.index.toNat r.sub.toNat ((s.going f r).box f).data) = .error e from he] at hx
      exact hg.replies hx
    · have hx := exec_mail (c := .mailboxWrite f r) hw (.inr (.inl ⟨rfl, ho⟩))
      rw [State.boxGo_run hb hok, mailRun, State.boxWrite, if_neg (by rw [hk]; decide)] at hx
      rw [if_neg (fun h => absurd (hd.symm.trans h) (by decide)),
        show (s.going f r).tryWrite r.index.toNat r.sub.toNat (fxWrite (pathOf f) r.index.toNat r.sub.toNat ((s.going f r).box f).data) = .ok v from hv] at hx
      dsimp only at hx
      by_cases hdef : v.defers i j (leNat (a.box f).data) = true
      · rw [if_pos hdef, State.heldServe_none hh] at hx
        exact ⟨v, hx, fun _ => rfl, fun h => absurd (hdef.symm.trans h) (by decide)⟩
      · have hans : v.boxAnswer f 0 [] = v.setBox f { v.box f with answer := some (0, [], false) } := State.boxAnswer_busy hvb 0 []
        rw [if_neg hdef, hans, State.heldServe_none (by rw [State.setBox_can]; exact hh)] at hx
        exact ⟨_, hx, fun h => absurd h hdef, fun _ => rfl⟩
    · intro n gs
      have hx := exec_mail (c := .mailboxWrite f r) hw (.inr (.inl ⟨rfl, ho⟩))
      have hnk : chunkBad r = false := by
        have hd' : isDomain r.index.toNat r.sub.toNat = true := hd
        simp [chunkBad, hd']
      rw [State.boxGo_run hb hok, mailRun, State.boxWrite, if_neg (by rw [hnk]; decide)] at hx
      rw [if_pos (show isDomain r.index.toNat r.sub.toNat = true from hd)] at hx
      obtain ⟨y, hy, y1, y2, y3, y4, y5, y6, y7⟩ := State.boxDomain_outcome hg rfl hoff hc
      rw [hy] at hx
      obtain ⟨k1, k2, k3⟩ := State.boxImage_outcome y1 y2 y3 (r.len.toNat % 2 ^ 17) r.more
      have hs : Step (maskOf gs) s (y.boxImage f c (r.len.toNat % 2 ^ 17) r.more) := State.boxImage_step y7 (by decide)
      rw [y5] at k1 k2 k3
      rw [y4, y6] at k2
      rw [y6] at k1
      exact ⟨fun h => settles_step hx hs (k1 h), fun h hm => settles_step hx hs (k2 h hm), fun h => settles_step hx hs (k3 h)⟩
    · have hx : exec (.mailboxAbort f r) s = .next (State.settle s (((s.going f r).chunkEnd f).boxAnswer f 0 [])) := by
        rw [exec_mail (f := f) (r := r) hw (.inr (.inr ⟨rfl, ho⟩)), State.boxGo_run hb hok]
        rfl
      have hfw := (s.going_step f r).fw (by decide)
      have hch' : ((s.going f r).box f).chunk = (s.box f).chunk := by rw [hg.box, hch]
      have hbox := (s.going f r).chunkEnd_box f
      have hans := (State.boxAnswer_box (x := (s.going f r).chunkEnd f) (f := f) (by rw [hbox, hg.box]; exact hbusy) 0 []).1
      have hafw : (((s.going f r).chunkEnd f).boxAnswer f 0 []).fw = ((s.going f r).chunkEnd f).fw :=
        (State.boxAnswer_step (Step.refl 54525952 _) (by decide)).fw (by decide)
      refine settles_step hx (State.boxAnswer_step (State.chunkEnd_step ((s.going_step f r).mono (by decide)) (by decide)) (by decide))
        ⟨by rw [hans, hbox], by rw [hans], fun hn => ?_, fun hsome hu => ?_⟩
      · rw [hafw, State.chunkEnd_none (hch'.trans hn), hfw]
      · have hk := State.chunkEnd_failed (x := s.going f r) (f := f) (by rw [hch']; exact hsome) (by rw [hfw]; exact hu)
        rw [hafw, ← hfw]
        exact hk
  · have hx : exec (.mailboxComplete f) s = .next (
        let a := s.setBox f ((s.box f).complete code bs)
        let c := if code = 0 then a else a.bump32 0x1FE2 2
        if (s.box f).vectorEnable then c.raise f (s.box f).vector else c) := by
      show execMailboxComplete f s = _
      unfold execMailboxComplete
      dsimp only
      rw [ha]
      exact whenDue_true hb ..
    obtain ⟨y, hy⟩ : ∃ y, y = if code = 0 then s.setBox f ((s.box f).complete code bs) else (s.setBox f ((s.box f).complete code bs)).bump32 0x1FE2 2 := ⟨_, rfl⟩
    dsimp only at hx
    rw [← hy] at hx
    have hyb : y.boxA = (s.setBox f ((s.box f).complete code bs)).boxA ∧ y.boxB = (s.setBox f ((s.box f).complete code bs)).boxB := by
      rw [hy]
      split <;> exact ⟨rfl, rfl⟩
    have hys : Step (maskOf [.pba, .od, .boxA, .boxB, .out]) s y := by
      rw [hy]
      exact Step.ite (fun _ => State.setBox_step (Step.refl _ s) (by decide)) fun _ => State.bump32_step (State.setBox_step (Step.refl _ s) (by decide)) (by decide)
    have hyo : y.out = s.out ∧ y.pba = s.pba ∧ y.msix = s.msix := by
      rw [hy]
      split <;> simp
    obtain ⟨t, ht⟩ : ∃ t, t = if (s.box f).vectorEnable then y.raise f (s.box f).vector else y := ⟨_, rfl⟩
    rw [← ht] at hx
    have htk : t.od = y.od ∧ t.boxA = y.boxA ∧ t.boxB = y.boxB := by
      obtain ⟨r1, r2, r3, -⟩ := y.raise_outcome f (s.box f).vector
      rw [ht]
      split
      · exact ⟨r1, r2, r3⟩
      · exact ⟨rfl, rfl, rfl⟩
    have htb : ∀ g, t.box g = (s.setBox f ((s.box f).complete code bs)).box g := fun g =>
      State.box_congr (htk.2.1.trans hyb.1) (htk.2.2.trans hyb.2) g
    refine completes_step hx (ht ▸ Step.ite (fun _ => State.raise_step hys (by decide)) fun _ => hys)
      ⟨(htb f).trans (State.box_setBox ..), fun g hg => (htb g).trans (State.box_setBox_other _ _ hg), fun hne => ?_, fun hz => ?_, fun hv hm => ?_, fun hv => ?_⟩
    · rw [State.cell_congr htk.1, hy, if_neg hne, State.cell_bump32_same, State.cell_congr (State.setBox_od ..)]
    · rw [htk.1, hy, if_pos hz, State.setBox_od]
    · have hm' : y.vectorMasked f (s.box f).vector = false := by
        unfold State.vectorMasked at hm ⊢
        rw [hyo.2.2]
        exact hm
      obtain ⟨r1, r2⟩ := (y.raise_outcome f (s.box f).vector).2.2.2 hm'
      rw [ht, if_pos hv, r1, r2, hyo.1, hyo.2.1]
      exact ⟨rfl, rfl⟩
    · rw [ht, if_neg (by rw [hv]; decide)]
      exact ⟨hyo.1, hyo.2.1⟩
  · obtain ⟨a, ha⟩ : ∃ a, a = (s.advanceTo (c.lastAt + s.setting 0x1FE0 1 * psMs)).chunkEnd f := ⟨_, rfl⟩
    obtain ⟨b, hbd⟩ : ∃ b, b = a.aborted (pathOf f) c.index c.sub 0x05040000 := ⟨_, rfl⟩
    have hx : exec (.mailboxChunkTimeout f) s = .next (State.settle s ((b.setBox f { b.box f with code := 0x05040000 }).bump32 0x1FE2 2)) := by
      show execMailboxChunkTimeout f s = _
      unfold execMailboxChunkTimeout
      rw [hc, hbd, ha]
      exact whenSettled_true rfl ..
    have has : Step (maskOf (reportFields ++ ([.now, .boxA, .boxB, .fw] : List Field))) s a :=
      ha ▸ State.chunkEnd_step (State.advanceTo_step (Step.refl _ s) (by decide)) (by decide)
    have hanow : a.now = max s.now (c.lastAt + s.setting 0x1FE0 1 * psMs) := by
      rw [ha]
      exact (State.chunkEnd_step (Step.refl 108103985388061872 _) (by decide)).now (by decide)
    have hacell : a.cell 0x1FE2 2 = s.cell 0x1FE2 2 := by
      rw [ha]
      exact State.chunkEnd_cell _ _ (by unfold reportCell; decide) (by decide)
    have habox : (a.box f).chunk = none := by
      rw [ha, State.chunkEnd_box]
    have hbbox : b.box f = a.box f := by
      rw [hbd]
      cases f <;> rfl
    obtain ⟨u, hu⟩ : ∃ u, u = (b.setBox f { b.box f with code := 0x05040000 }).bump32 0x1FE2 2 := ⟨_, rfl⟩
    have hub : u.box f = { b.box f with code := 0x05040000 } := by
      rw [hu]
      exact (State.box_congr rfl rfl f).trans (State.box_setBox ..)
    have hcell : ∀ i j, j < 256 → i ≠ 0x1FE2 → u.cell i j = b.cell i j := fun i j hj hi => by
      rw [hu, State.cell_bump32_other _ hj (by decide) fun e => hi (congrArg Prod.fst e), State.cell_congr (State.setBox_od ..)]
    rw [← hu] at hx
    refine settles_step hx (hu ▸ State.bump32_step (State.setBox_step (hbd ▸ State.aborted_step has (by decide)) (by decide)) (by decide))
      ⟨?_, by rw [hub, hbbox]; exact habox, by rw [hub], ?_, ?_, ?_⟩
    · rw [hu, State.bump32_now, State.setBox_now, hbd]
      exact hanow
    · rw [hu, State.cell_bump32_same, State.cell_congr (State.setBox_od ..), hbd, State.aborted, State.cell_putCell_other _ _ (by decide) (by decide) (by decide),
        State.cell_putCell_other _ _ (by decide) (by decide) (by decide), hacell]
    · rw [hcell _ _ (by decide) (by decide), hbd, State.aborted, State.cell_putCell_other _ _ (by decide) (by decide) (by decide), State.cell_putCell_same]
    · rw [hcell _ _ (by decide) (by decide), hbd, State.aborted, State.cell_putCell_same]

end Sys2Proof.Proofs
end

section
/-! O58: what a grid restore makes of the grid (R418). -/

namespace Sys2Proof.Machine

section

variable {s t x : State} {bad : List Nat}

/-- What a rebuilt grid is depends on the panels of the grid alone. -/
theorem State.rebuiltAs_iff {m : Nat} {lost lost' : Nat → Prop} (h : t.rebuiltAs m lost) (he : ∀ q, q < 64 → (lost' q ↔ lost q)) : t.rebuiltAs m lost' := by
  intro p hp
  obtain ⟨h1, h2, h3, h4⟩ := h p hp
  have hout : ((m = 1 ∧ ∃ y, y < 8 ∧ lost' (y * 8 + p % 8)) ∨ (m = 2 ∧ ∃ x, x < 8 ∧ lost' (p / 8 * 8 + x))) ↔
      (m = 1 ∧ ∃ y, y < 8 ∧ lost (y * 8 + p % 8)) ∨ (m = 2 ∧ ∃ x, x < 8 ∧ lost (p / 8 * 8 + x)) :=
    or_congr (and_congr_right fun _ => exists_congr fun y => and_congr_right fun hy => he _ (by omega))
      (and_congr_right fun _ => exists_congr fun y => and_congr_right fun hy => he _ (by omega))
  dsimp only
  rw [hout, he p hp]
  exact ⟨h1, h2, h3, h4⟩

/-- The panels that a restore leaves outside the grid. -/
def State.staysOut (s : State) (bad : List Nat) (q : Nat) : Bool :=
  (s.wafer.panelOf q).mode != .active && (s.restoreStays bad q || (s.domainOf (coreDomain q)).st != .on)

/-- The panels whose domains have come on. -/
def State.comesBack (s : State) (bad : List Nat) : List Nat := (s.restorable bad).filter fun p => (s.domainOf (coreDomain p)).st == .on

theorem State.stay_eq (s : State) (bad : List Nat) :
    (allPanels.filter fun p => (s.wafer.panelOf p).mode != .active && !(s.comesBack bad).contains p) = allPanels.filter (s.staysOut bad) := by
  refine List.filter_congr fun p hp => ?_
  have hc : (s.comesBack bad).contains p = ((s.wafer.panelOf p).mode != .active && !s.restoreStays bad p && (s.domainOf (coreDomain p)).st == .on) := by
    rw [Bool.eq_iff_iff, List.contains_iff_mem]
    unfold State.comesBack State.restorable
    simp [hp, and_comm]
  unfold State.staysOut
  rw [hc]
  cases hm : ((s.wafer.panelOf p).mode != .active) with
  | false => simp
  | true => cases s.restoreStays bad p <;> simp [bne]

/-- REMOVED panels that fail are reported LOST. -/
def State.reportGone (x : State) (p : Nat) : State := ((x.fire 0x0C08 0 4).bump64 0x2B00 3).emcyEvent 0xFF71 0x0C08 (natLe 1 p ++ natLe 1 6)

theorem State.reportGone_calm {s0 : State} (h : Calm gridDets s0 x) (p : Nat) : Calm gridDets s0 (x.reportGone p) :=
  State.emcyEvent_calm sideDets_grid (State.bump64_calm (State.fire_calm h (d := 0x0C08) (by decide) 0 4) (by decide) 3) _ _ _

theorem State.reportGone_same (x : State) (p : Nat) : (x.reportGone p).wafer = x.wafer ∧ (x.reportGone p).up = x.up ∧ (x.reportGone p).beat = x.beat ∧
    ∀ i j, j < 256 → i ≠ 0x2B00 → ¬reportCell i → (x.reportGone p).setting i j = x.setting i j := by
  unfold State.reportGone
  refine ⟨by simp, by simp, by simp, fun i j hj hi hr => ?_⟩
  rw [State.setting_emcyEvent hj hr]
  exact (State.setting_count_other _ hj (by decide) hi).trans (State.setting_congr (State.fire_od ..) _ _)

/-- A restore that takes effect, before its report. -/
def State.restoreMade (x : State) (bad : List Nat) : State :=
  let stay := allPanels.filter (x.staysOut bad)
  let s0 := each (stay.filter fun p => (x.wafer.panelOf p).mode == .removed) State.reportGone x
  let s1 := each (x.comesBack bad) State.clearPanel s0
  ({ s1 with wafer := s1.wafer.rebuilt (s1.setting 0x2002 0) fun p => stay.contains p, up := { s1.up with restore := none } }).epochStep

theorem State.restoreFinish_eq (x : State) (bad : List Nat) : x.restoreFinish bad =
    ((x.restoreMade bad).lostDomainsOff.putCell 0x2B30 2 (((allPanels.filter (x.staysOut bad)).map fun p => 2 ^ p).sum)).rebuiltReport := by
  unfold State.restoreMade
  rw [← x.stay_eq bad]
  rfl

theorem State.restoreMade_outcome (x : State) (bad : List Nat) : let w := x.wafer.rebuilt (x.setting 0x2002 0) fun p => (allPanels.filter (x.staysOut bad)).contains p
    (x.restoreMade bad).wafer.panel = w.panel ∧ (x.restoreMade bad).wafer.mode = w.mode ∧ (x.restoreMade bad).up = { x.up with restore := none } ∧
    Calm gridDets x (x.restoreMade bad) ∧ (x.beat.lock = .search → (x.restoreMade bad).wafer.epoch = x.wafer.epoch + 1) ∧
    (x.beat.lock ≠ .search → x.wafer.epochN ≠ some x.beat.n → (x.restoreMade bad).wafer.epoch = x.wafer.epoch + 1) := by
  intro w
  obtain ⟨stay, hst⟩ : ∃ l, l = allPanels.filter (x.staysOut bad) := ⟨_, rfl⟩
  obtain ⟨s0, h0⟩ : ∃ y, y = each (stay.filter fun p => (x.wafer.panelOf p).mode == .removed) State.reportGone x := ⟨_, rfl⟩
  obtain ⟨s1, h1⟩ : ∃ y, y = each (x.comesBack bad) State.clearPanel s0 := ⟨_, rfl⟩
  obtain ⟨s2, h2⟩ : ∃ y : State, y = { s1 with wafer := s1.wafer.rebuilt (s1.setting 0x2002 0) fun p => stay.contains p, up := { s1.up with restore := none } } := ⟨_, rfl⟩
  have hmade : x.restoreMade bad = s2.epochStep := by
    rw [h2, h1, h0, hst]
    rfl
  have k0 : s0.wafer = x.wafer ∧ s0.up = x.up ∧ s0.beat = x.beat ∧ s0.setting 0x2002 0 = x.setting 0x2002 0 := by
    rw [h0]
    exact ⟨each_keeps State.wafer _ (fun y p => (y.reportGone_same p).1) _ _, each_keeps State.up _ (fun y p => (y.reportGone_same p).2.1) _ _,
      each_keeps State.beat _ (fun y p => (y.reportGone_same p).2.2.1) _ _,
      each_keeps (fun y => y.setting 0x2002 0) _ (fun y p => (y.reportGone_same p).2.2.2 _ _ (by decide) (by decide) (by unfold reportCell; decide)) _ _⟩
  have k1 : s1.wafer = s0.wafer ∧ s1.up = s0.up ∧ s1.beat = s0.beat ∧ s1.od = s0.od ∧ s1.det = s0.det ∧ s1.out = s0.out := by
    have h : Step 137438953472 s0 s1 := h1 ▸ each_step (Step.refl _ _) fun u p hu => State.clearPanel_step hu (by decide)
    exact ⟨h.wafer (by decide), h.up (by decide), h.beat (by decide), h.od (by decide), h.det (by decide), h.out (by decide)⟩
  have hset : s1.setting 0x2002 0 = x.setting 0x2002 0 := (State.setting_congr k1.2.2.2.1 _ _).trans k0.2.2.2
  have hw2 : s2.wafer = w := by
    rw [h2]
    show s1.wafer.rebuilt (s1.setting 0x2002 0) _ = w
    rw [hset, k1.1, k0.1, hst]
  have hb2 : s2.beat = x.beat := by
    rw [h2]
    exact k1.2.2.1.trans k0.2.2.1
  have hcalm : Calm gridDets x s2 := by
    have hc0 : Calm gridDets x s0 := h0 ▸ Calm.each _ (Calm.refl _ x) fun u p hu => State.reportGone_calm hu p
    rw [h2]
    exact hc0.put k1.2.2.2.2.1 k1.2.2.2.1 k1.2.2.2.2.2
  obtain ⟨e, n, hep⟩ := s2.epochStep_wafer
  have hup : s2.epochStep.up = s2.up := (State.epochStep_step (Step.refl 72080289657998474 s2) (by decide)).up (by decide)
  rw [hmade]
  refine ⟨by rw [hep, hw2], by rw [hep, hw2], ?_, State.epochStep_calm sideDets_grid hcalm, fun hl => ?_, fun hl hn => ?_⟩
  · rw [hup, h2]
    show { s1.up with restore := none } = _
    rw [k1.2.1, k0.2.1]
  · rw [State.epochStep_search (by rw [hb2]; exact hl), hw2]
    rfl
  · rw [State.epochStep_first (by rw [hb2]; exact hl) (by rw [hw2, hb2]; exact hn), hw2]
    rfl

theorem State.rebuiltReport_same (x : State) : x.rebuiltReport.wafer = x.wafer ∧ x.rebuiltReport.power = x.power ∧ x.rebuiltReport.tiles = x.tiles ∧
    x.rebuiltReport.up = x.up ∧ x.rebuiltReport.beat = x.beat ∧ x.rebuiltReport.cell 0x2B30 2 = x.cell 0x2B30 2 ∧
    ((s.keepsEmcy → x.keepsEmcy) → s.hasRaised x.rebuiltReport 0xFF72 0) := by
  have h := State.rebuiltReport_step (Step.refl 72075188318766256 x) (by decide)
  refine ⟨h.wafer (by decide), h.power (by decide), h.tiles (by decide), h.up (by decide), h.beat (by decide), ?_, fun hk => ?_⟩
  · unfold State.rebuiltReport
    rw [State.emcyEvent_cell _ (by decide) (by unfold reportCell; decide),
      State.cell_congr ((State.logAdd_step (Step.refl 1006632960 (x.bump64 0x2B00 4)) (by decide)).od (by decide))]
    exact State.cell_count_other _ (by decide) (by decide) (by decide)
  · unfold State.rebuiltReport
    refine State.hasRaised_of_within (State.emcyEvent_raises (fun k => ?_) (by decide) _)
    have hl : Step 1006632960 (x.bump64 0x2B00 4) ((x.bump64 0x2B00 4).logAdd 0 0 5 0 false) := State.logAdd_step (Step.refl _ _) (by decide)
    refine (State.keepsEmcy_congr (s := x) (by rw [hl.up (by decide)]; rfl) ?_).2 (hk k)
    exact (State.setting_congr (hl.od (by decide)) _ _).trans (State.setting_count_other x (by decide) (by decide) (by decide))

/-- A restore that takes effect. -/
theorem State.restoreFinish_outcome (x : State) (bad : List Nat) (hk : s.keepsEmcy → x.keepsEmcy) : let u := x.restoreFinish bad
    (u.up.restore = none ∧ u.rebuiltAs (x.setting 0x2002 0) (fun q => x.staysOut bad q = true) ∧ s.hasRaised u 0xFF72 0 ∧
      u.wafer.mode = (if allPanels.any (x.staysOut bad) then min (x.setting 0x2002 0) 3 else 0) ∧
      u.cell 0x2B30 2 = ((allPanels.filter (x.staysOut bad)).map fun q => 2 ^ q).sum) ∧
    (x.beat.lock = .search → u.wafer.epoch = x.wafer.epoch + 1) ∧
    (x.beat.lock ≠ .search → x.wafer.epochN ≠ some x.beat.n → u.wafer.epoch = x.wafer.epoch + 1) := by
  obtain ⟨k1, k2, k3, k4, k5, k6⟩ := x.restoreMade_outcome bad
  obtain ⟨m, hm⟩ : ∃ m, m = x.restoreMade bad := ⟨_, rfl⟩
  rw [← hm] at k1 k2 k3 k4 k5 k6
  obtain ⟨y, hy⟩ : ∃ y, y = m.lostDomainsOff.putCell 0x2B30 2 (((allPanels.filter (x.staysOut bad)).map fun p => 2 ^ p).sum) := ⟨_, rfl⟩
  have hu : x.restoreFinish bad = y.rebuiltReport := by
    rw [State.restoreFinish_eq, ← hm, ← hy]
  have hdo := State.lostDomainsOff_step (Step.refl 4503737066323968 m) (by decide)
  have hyw : y.wafer = m.wafer := by
    rw [hy, State.putCell_wafer]
    exact m.lostDomainsOff_wafer
  have hyu : y.up = m.up := by
    rw [hy, State.putCell_up]
    exact hdo.up (by decide)
  have hyk : s.keepsEmcy → y.keepsEmcy := fun k => by
    refine (State.keepsEmcy_congr (s := x) (by rw [hyu, k3]) ?_).2 (hk k)
    rw [hy]
    refine (State.setting_putCell_other _ _ (by decide) (by decide) fun e => absurd e.1 (by decide)).trans ?_
    exact (State.setting_congr (hdo.od (by decide)) _ _).trans k4.emcy
  have hcon : ∀ q, q < 64 → (x.staysOut bad q = true ↔ (allPanels.filter (x.staysOut bad)).contains q = true) := fun q hq => by
    rw [List.contains_iff_mem, List.mem_filter]
    exact ⟨fun h => ⟨List.mem_range.2 hq, h⟩, fun h => h.2⟩
  obtain ⟨r1, r2, r3, r4, r5, r6, r7⟩ := y.rebuiltReport_same (s := s)
  intro u
  have hu' : u = y.rebuiltReport := hu
  rw [hu']
  refine ⟨⟨?_, ?_, r7 hyk, ?_, ?_⟩, fun hl => ?_, fun hl hn => ?_⟩
  · rw [r4, hyu, k3]
  · have hreb := State.lostDomainsOff_rebuilt (s := m) (w := x.wafer) (m := x.setting 0x2002 0) (lost := fun p => (allPanels.filter (x.staysOut bad)).contains p) k1
    refine State.rebuiltAs_iff (State.rebuiltAs_congr hreb ?_ ?_ ?_) hcon
    · rw [r1, hyw, m.lostDomainsOff_wafer]
    · rw [r2, hy, State.putCell_power]
    · rw [r3, hy, State.putCell_tiles]
  · rw [r1, hyw, k2]
    have hany : allPanels.any (fun p => (allPanels.filter (x.staysOut bad)).contains p) = allPanels.any (x.staysOut bad) := by
      rw [Bool.eq_iff_iff, List.any_eq_true, List.any_eq_true]
      exact exists_congr fun q => and_congr_right fun hq => (hcon q (List.mem_range.1 hq)).symm
    show (if allPanels.any (fun p => (allPanels.filter (x.staysOut bad)).contains p) then min (x.setting 0x2002 0) 3 else 0) = _
    rw [hany]
  · rw [r6, hy, State.cell_putCell_same]
  · rw [r1, hyw]
    exact k5 hl
  · rw [r1, hyw]
    exact k6 hl hn

/-! ### A restore that begins -/

/-- `t` is `s` with some domains that are OFF wanted. -/
structure Wants (s t : State) : Prop where
  only : ∃ ds, t = { s with power := { s.power with domains := ds } }
  each : ∀ e, t.domainOf e = s.domainOf e ∨ (s.domainOf e).st = .off ∧ t.domainOf e = { s.domainOf e with wanted := true }

theorem Wants.refl (s : State) : Wants s s := ⟨⟨s.power.domains, rfl⟩, fun _ => .inl rfl⟩

theorem Wants.trans {u : State} (h : Wants s t) (k : Wants t u) : Wants s u := by
  obtain ⟨ds, hd⟩ := h.only
  obtain ⟨es, he⟩ := k.only
  refine ⟨⟨es, by rw [he, hd]⟩, fun e => ?_⟩
  rcases h.each e with h1 | ⟨h1, h2⟩
  · rcases k.each e with k1 | ⟨k1, k2⟩
    · exact .inl (k1.trans h1)
    · exact .inr ⟨h1 ▸ k1, by rw [k2, h1]⟩
  · rcases k.each e with k1 | ⟨k1, k2⟩
    · exact .inr ⟨h1, k1.trans h2⟩
    · exact .inr ⟨h1, by rw [k2, h2]⟩

theorem Wants.st (h : Wants s t) (e : Nat) : (t.domainOf e).st = (s.domainOf e).st := by
  rcases h.each e with h1 | ⟨-, h2⟩
  · rw [h1]
  · rw [h2]

/-- What is off and wanted goes on being so. -/
theorem Wants.wanted (h : Wants s t) {e : Nat} (hw : (s.domainOf e).st = .off → (s.domainOf e).wanted = true) :
    (t.domainOf e).st = .off → (t.domainOf e).wanted = true := fun ho => by
  rcases h.each e with h1 | ⟨-, h2⟩
  · rw [h1] at ho ⊢
    exact hw ho
  · rw [h2]

theorem State.domainWant_wants (x : State) (d : Nat) : Wants x (x.domainWant d) := by
  unfold State.domainWant
  dsimp only
  split
  · next h =>
    refine ⟨⟨_, rfl⟩, fun e => ?_⟩
    rw [State.domainOf_setDomain]
    split
    · next he =>
      rw [he]
      exact .inr ⟨h, rfl⟩
    · exact .inl rfl
  · exact Wants.refl x

theorem State.domainWant_wanted (x : State) (d : Nat) : ((x.domainWant d).domainOf d).st = .off → ((x.domainWant d).domainOf d).wanted = true := by
  unfold State.domainWant
  dsimp only
  split
  · rw [State.domainOf_setDomain, if_pos rfl]
    exact fun _ => rfl
  · next h => exact fun ho => absurd ho h

/-- The domains of the panels that can come back are wanted. -/
theorem State.panelsWanted (l : List Nat) (x : State) : let t := each l (fun x p => (x.domainWant (memDomain p)).domainWant (coreDomain p)) x
    Wants x t ∧ ∀ p ∈ l, ∀ d, d = memDomain p ∨ d = coreDomain p → (t.domainOf d).st = .off → (t.domainOf d).wanted = true := by
  induction l generalizing x with
  | nil => exact ⟨Wants.refl x, fun p hp => by cases hp⟩
  | cons a r ih =>
    obtain ⟨y, hy⟩ : ∃ y, y = (x.domainWant (memDomain a)).domainWant (coreDomain a) := ⟨_, rfl⟩
    obtain ⟨h1, h2⟩ := ih y
    have hxy : Wants x y := hy ▸ (x.domainWant_wants _).trans (State.domainWant_wants ..)
    have he : each (a :: r) (fun x p => (x.domainWant (memDomain p)).domainWant (coreDomain p)) x =
        each r (fun x p => (x.domainWant (memDomain p)).domainWant (coreDomain p)) y := by
      rw [hy]
      rfl
    dsimp only
    rw [he]
    refine ⟨hxy.trans h1, fun p hp d hd => ?_⟩
    rcases List.mem_cons.1 hp with rfl | hp
    · refine h1.wanted ?_
      rw [hy]
      rcases hd with rfl | rfl
      · exact (State.domainWant_wants _ _).wanted (x.domainWant_wanted _)
      · exact State.domainWant_wanted _ _
    · exact h2 p hp d hd

/-- Whether a domain is ON does not change while others begin to ramp. -/
theorem Ramps.on (h : Ramps s t) (d : Nat) : ((t.domainOf d).st == .on) = ((s.domainOf d).st == .on) := by
  rcases h.each d with h1 | ⟨-, h2, h3⟩
  · rw [h1]
  · rw [h2, h3]
    rfl

/-- What a restore is judged by. -/
theorem State.restorable_congr (hw : t.wafer = s.wafer) (hp : ∀ p, t.panelPower p = s.panelPower p) (bad : List Nat) :
    (∀ q, t.restoreStays bad q = s.restoreStays bad q) ∧ t.restorable bad = s.restorable bad := by
  have h : ∀ q, t.restoreStays bad q = s.restoreStays bad q := fun q => by
    unfold State.restoreStays
    rw [hw, hp]
  refine ⟨h, ?_⟩
  unfold State.restorable
  rw [hw]
  exact List.filter_congr fun p _ => by rw [h]

theorem State.staysOut_congr (hw : t.wafer = s.wafer) (hp : ∀ p, t.panelPower p = s.panelPower p)
    (hd : ∀ d, ((t.domainOf d).st == .on) = ((s.domainOf d).st == .on)) (bad : List Nat) : t.staysOut bad = s.staysOut bad := by
  funext q
  unfold State.staysOut
  rw [hw, (State.restorable_congr hw hp bad).1]
  exact congrArg (fun b => (s.wafer.panelOf q).mode != .active && (s.restoreStays bad q || !b)) (hd _)

theorem Wafer.lanesBack_none {w : Wafer} (h : w.laneKept = .empty) : w.lanesBack = w := by
  unfold Wafer.lanesBack
  rw [h]
  cases w
  cases h
  rfl

/-- A restore begins: what it asks for, and nothing else of the grid. -/
theorem State.restoreBegin_outcome (x : State) (bad : List Nat) (hk : x.wafer.laneKept = .empty) : let b := x.restoreBegin bad
    (∃ ds, b = { x with power := { x.power with domains := ds }, up := { x.up with restore := some (bad, true) } }) ∧
    (∀ d, ((b.domainOf d).st == .on) = ((x.domainOf d).st == .on)) ∧
    (x.inputAllows 1 = true → x.power.internalOsc = false → ∀ p ∈ x.restorable bad, ∀ d, d = memDomain p ∨ d = coreDomain p →
      (x.domainOf d).st = .off → (b.domainOf d).wanted = true ∧ ((b.domainOf d).st = .off ∨ (b.domainOf d).st = .ramping)) := by
  obtain ⟨a, ha⟩ : ∃ a : State, a = { x with up := { x.up with restore := some (bad, true) } } := ⟨_, rfl⟩
  have hb : x.restoreBegin bad = if a.inputAllows 1 && !a.power.internalOsc
      then (each (a.restorable bad) (fun x p => (x.domainWant (memDomain p)).domainWant (coreDomain p)) a).rampAll else a := by
    unfold State.restoreBegin
    rw [Wafer.lanesBack_none hk, ha]
  have hsame : a.inputAllows 1 = x.inputAllows 1 ∧ a.power = x.power ∧ a.restorable bad = x.restorable bad ∧ ∀ d, a.domainOf d = x.domainOf d := by
    rw [ha]
    exact ⟨rfl, rfl, rfl, fun _ => rfl⟩
  obtain ⟨a1, a2, a3, a4⟩ := hsame
  obtain ⟨hw, hwant⟩ := State.panelsWanted (x.restorable bad) a
  obtain ⟨y, hy⟩ : ∃ y, y = each (x.restorable bad) (fun x p => (x.domainWant (memDomain p)).domainWant (coreDomain p)) a := ⟨_, rfl⟩
  rw [← hy] at hw hwant
  have hr := y.rampAll_ramps
  rw [a1, a2, a3, ← hy] at hb
  intro b
  have hb' : b = if x.inputAllows 1 && !x.power.internalOsc then y.rampAll else a := hb
  by_cases hc : (x.inputAllows 1 && !x.power.internalOsc) = true
  · rw [if_pos hc] at hb'
    rw [hb']
    obtain ⟨ds, h1⟩ := hw.only
    obtain ⟨es, h2⟩ := hr.only
    refine ⟨⟨es, by rw [h2, h1, ha]⟩, fun d => ?_, fun _ _ p hp d hd ho => ?_⟩
    · rw [hr.on, hw.st, a4]
    · have hyo : (y.domainOf d).st = .off := by rw [hw.st, a4, ho]
      exact hr.wanted (hwant p hp d hd hyo) hyo
  · rw [if_neg hc] at hb'
    rw [hb']
    exact ⟨⟨x.power.domains, by rw [ha]⟩, fun d => by rw [a4], fun h1 h2 => absurd (by rw [h1, h2]; rfl) hc⟩

theorem State.needsMet_congr (h : ∀ d, ((t.domainOf d).st == .on) = ((s.domainOf d).st == .on)) (d : Nat) : t.needsMet d = s.needsMet d := by
  unfold State.needsMet
  simp only [h]

end

/-! ### Restores at a boundary and at once -/

section

variable {s t x : State} {bad : List Nat}

/-- The clock of a panel, as its target and its throttles have it at a boundary. -/
def State.panelClock (x : State) (p : Nat) : State :=
  let q := x.panelPower p
  let m := if q.throttled then 400 else x.setting 0x2210 (p + 1)
  if q.mhz = m then x else { x with power := { x.power with panels := x.power.panels.set p { q with mhz := m } } }

theorem State.panelClock_keeps (x : State) (p : Nat) : (x.panelClock p).power.domains = x.power.domains ∧
    ∀ k, ((x.panelClock p).panelPower k).pll = (x.panelPower k).pll := by
  obtain ⟨m, hm⟩ : ∃ m, m = if (x.panelPower p).throttled then 400 else x.setting 0x2210 (p + 1) := ⟨_, rfl⟩
  unfold State.panelClock
  dsimp only
  rw [← hm]
  split
  · exact ⟨rfl, fun _ => rfl⟩
  · refine ⟨rfl, fun k => ?_⟩
    by_cases hk : k = p
    · rw [hk]
      exact (congrArg PanelPower.pll (Tab.get_set_same x.power.panels panelPower0 { x.panelPower p with mhz := m } p)).trans rfl
    · exact congrArg PanelPower.pll (Tab.get_set_other x.power.panels panelPower0 { x.panelPower p with mhz := m } hk)

theorem State.clocksApply_keeps (x : State) : (∀ d, x.clocksApply.domainOf d = x.domainOf d) ∧ ∀ k, (x.clocksApply.panelPower k).pll = (x.panelPower k).pll := by
  obtain ⟨y, hy⟩ : ∃ y, y = each allPanels State.panelClock x := ⟨_, rfl⟩
  have hx : x.clocksApply = { y with power := { y.power with spreadPanel := y.setting 0x2940 1 == 1, spreadYoke := y.setting 0x2940 2 == 1 } } := by
    rw [hy]
    unfold State.clocksApply
    generalize allPanels = l
    rfl
  have hd : y.power.domains = x.power.domains := hy ▸ each_keeps (fun z => z.power.domains) State.panelClock (fun z p => (z.panelClock_keeps p).1) allPanels x
  have hp : ∀ k, (y.panelPower k).pll = (x.panelPower k).pll := fun k =>
    hy ▸ each_keeps (fun z => (z.panelPower k).pll) State.panelClock (fun z p => (z.panelClock_keeps p).2 k) allPanels x
  rw [hx]
  exact ⟨fun d => State.domainOf_congr (s := x) hd d, hp⟩

/-- What a boundary brings after a restore leaves what a rebuilt grid is. -/
theorem State.boundaryRest_keeps (x : State) : let u := x.clocksApply.retimesApply.leasesApply
    u.wafer = x.wafer ∧ u.up = x.up ∧ u.can = x.can ∧ u.od = x.od ∧ u.tiles = x.tiles ∧ (∀ d, u.domainOf d = x.domainOf d) ∧
      ∀ p, (u.panelPower p).pll = (x.panelPower p).pll := by
  have h : Step 4503608217305144 x x.clocksApply.retimesApply.leasesApply :=
    State.leasesApply_step (State.retimesApply_step (State.clocksApply_step (Step.refl _ x) (by decide)) (by decide)) (by decide)
  have hpow : x.clocksApply.retimesApply.leasesApply.power = x.clocksApply.power :=
    (State.leasesApply_step (State.retimesApply_step (Step.refl 8589934648 x.clocksApply) (by decide)) (by decide)).power (by decide)
  obtain ⟨h1, h2⟩ := x.clocksApply_keeps
  refine ⟨h.wafer (by decide), h.up (by decide), h.can (by decide), h.od (by decide), h.tiles (by decide), fun d => ?_, fun p => ?_⟩
  · exact (State.domainOf_congr (congrArg Power.domains hpow) d).trans (h1 d)
  · rw [State.panelPower_congr hpow]
    exact h2 p

theorem State.restored_iff (s t : State) (bad : List Nat) : s.restored t bad ↔ t.up.restore = none ∧
    t.rebuiltAs (s.setting 0x2002 0) (fun q => s.staysOut bad q = true) ∧ s.hasRaised t 0xFF72 0 ∧
    t.wafer.mode = (if allPanels.any (s.staysOut bad) then min (s.setting 0x2002 0) 3 else 0) ∧
    t.cell 0x2B30 2 = ((allPanels.filter (s.staysOut bad)).map fun q => 2 ^ q).sum := Iff.rfl

/-- The restored grid after the rest of the boundary. -/
theorem State.restored_rest (h : s.restored x bad) : s.restored x.clocksApply.retimesApply.leasesApply bad := by
  obtain ⟨k1, k2, k3, k4, k5, k6, k7⟩ := x.boundaryRest_keeps
  obtain ⟨h1, h2, h3, h4, h5⟩ := (State.restored_iff ..).1 h
  refine (State.restored_iff ..).2 ⟨by rw [k2, h1], ?_, fun a b => by rw [k3]; exact h3 a b, by rw [k1, h4], by rw [State.cell_congr k4, h5]⟩
  unfold State.rebuiltAs State.contentsLost at h2 ⊢
  simp only [k1, k6, k7, State.tileOf, k5] at h2 ⊢
  exact h2

/-- A restore takes effect in `x`, where the panels and the settings are those of `s`. -/
theorem State.restored_finish (hw : x.wafer = s.wafer) (hp : ∀ p, x.panelPower p = s.panelPower p)
    (hd : ∀ d, ((x.domainOf d).st == .on) = ((s.domainOf d).st == .on)) (ho : x.od = s.od) (hk : s.keepsEmcy → x.keepsEmcy) :
    s.restored (x.restoreFinish bad) bad := by
  have h := (x.restoreFinish_outcome (s := s) bad hk).1
  rw [State.staysOut_congr hw hp hd bad, State.setting_congr ho] at h
  exact (State.restored_iff ..).2 h

/-- A restore that waits, at the boundary where it has begun. -/
theorem State.restoreApply_begun (h : s.up.restore = some (bad, true)) : s.restoreApply = if s.restoreBusy bad then s else s.restoreFinish bad := by
  rw [State.restoreApply_some h]
  rfl

theorem State.restoreApply_begins (h : s.up.restore = some (bad, false)) : s.restoreApply =
    if (s.restoreBegin bad).restoreBusy bad then s.restoreBegin bad else (s.restoreBegin bad).restoreFinish bad := by
  rw [State.restoreApply_some h]
  rfl

theorem State.restoreBusy_none (h : s.restorable bad = []) : s.restoreBusy bad = false := by
  unfold State.restoreBusy
  rw [h]
  rfl

/-- What the start of a restore leaves for its judgement. -/
theorem State.restoreBegin_same (x : State) (bad : List Nat) (hk : x.wafer.laneKept = .empty) : let b := x.restoreBegin bad
    b.wafer = x.wafer ∧ (∀ p, b.panelPower p = x.panelPower p) ∧ b.od = x.od ∧ b.beat = x.beat ∧ b.up = { x.up with restore := some (bad, true) } ∧
      b.restorable bad = x.restorable bad ∧ (x.keepsEmcy → b.keepsEmcy) := by
  obtain ⟨⟨ds, hb⟩, -⟩ := x.restoreBegin_outcome bad hk
  intro b
  have hb' : b = { x with power := { x.power with domains := ds }, up := { x.up with restore := some (bad, true) } } := hb
  have hw : b.wafer = x.wafer := by rw [hb']
  have hp : ∀ p, b.panelPower p = x.panelPower p := fun p => by
    rw [hb']
    rfl
  refine ⟨hw, hp, by rw [hb'], by rw [hb'], by rw [hb'], (State.restorable_congr hw hp bad).2, fun k => ?_⟩
  rw [hb']
  exact k

end

/-! ### GRID_RESTORE -/

section

variable {s : State} {p : Path} {v : Byte} {failed : List PanelId}

/-- A restore is asked for. -/
def State.asked (s : State) (bad : List Nat) : State := { s with up := { s.up with restore := some (bad, false) } }

theorem fxGridRestore_one (h1 : v.toNat = 1) (hl : s.liveJobs = []) (bad : List Nat) : fxGridRestore v.toNat bad s = .ok (s.asked bad).atOnce := by
  unfold fxGridRestore
  rw [if_neg (by omega), if_neg (by omega), if_neg (by rw [hl]; decide)]
  rfl

/-- Before the first lock a restore begins at once. -/
theorem State.atOnce_restore {bad : List Nat} (hs : s.beat.lock = .search) (h1 : s.wafer.laneForce = s.wafer.laneFail)
    (h2 : s.wafer.passForce = s.wafer.passFail) : (s.asked bad).atOnce = (s.asked bad).restoreApply := by
  have hl : (s.asked bad).lanesApply = s.asked bad := State.lanesApply_same h1 h2
  unfold State.atOnce
  rw [if_pos (show (s.asked bad).beat.lock = .search from hs), hl]

theorem mem_restorable {bad : List Nat} {q : Nat} : q ∈ s.restorable bad ↔ q < 64 ∧ (s.wafer.panelOf q).mode ≠ .active ∧ s.restoreStays bad q = false := by
  unfold State.restorable allPanels
  simp

end

end Sys2Proof.Machine
end

section
/-! O58: the injection point at work, and the service actions (R354, R418 to R423). -/

namespace Sys2Proof.Machine

section

variable {s t x : State} {d n k : Nat}

/-! ### Firings (R422) -/

/-- A detector that reports its firing is none of those that a report may fire. -/
theorem State.injReport_eq (x : State) (d n : Nat) : x.injReport d n = x ∨
    (d ∉ sideDets ∧ 8 < d / 256) ∧ ((∃ c, x.injReport d n = x.emcy c d) ∨ ∃ c l, x.injReport d n = x.emcyEvent c d l) := by
  have emcy : ∀ c e, e ∉ sideDets ∧ 8 < e / 256 → x.emcy c e = x ∨
      (e ∉ sideDets ∧ 8 < e / 256) ∧ ((∃ c', x.emcy c e = x.emcy c' e) ∨ ∃ c' l, x.emcy c e = x.emcyEvent c' e l) := fun c e h => .inr ⟨h, .inl ⟨c, rfl⟩⟩
  have event : ∀ c e l, e ∉ sideDets ∧ 8 < e / 256 → x.emcyEvent c e l = x ∨
      (e ∉ sideDets ∧ 8 < e / 256) ∧ ((∃ c', x.emcyEvent c e l = x.emcy c' e) ∨ ∃ c' k, x.emcyEvent c e l = x.emcyEvent c' e k) :=
    fun c e l h => .inr ⟨h, .inr ⟨c, l, rfl⟩⟩
  unfold State.injReport
  simp only [State.emcyPower]
  split
  iterate 3 exact emcy _ _ (by decide)
  iterate 14 exact event _ _ _ (by decide)
  iterate 2 exact emcy _ _ (by decide)
  · exact event _ _ _ (by decide)
  iterate 2 exact emcy _ _ (by decide)
  · exact .inl rfl

theorem State.injReport_det (x : State) (d n : Nat) : (x.injReport d n).detOf d = x.detOf d := by
  rcases x.injReport_eq d n with h | ⟨⟨hd, -⟩, ⟨c, h⟩ | ⟨c, l, h⟩⟩
  · rw [h]
  · rw [h]
    exact (State.emcyAt_calm (fun _ h => h) (Calm.refl sideDets x) c d x.stamp).det d hd
  · rw [h]
    exact (State.emcyEvent_calm (fun _ h => h) (Calm.refl sideDets x) c d l).det d hd

theorem State.injReport_none (h : d / 256 ≤ 8) : x.injReport d n = x :=
  (x.injReport_eq d n).resolve_right fun hr => absurd hr.1.2 (by omega)

theorem State.injReport_held (x : State) (d n : Nat) : (x.injReport d n).can.sdoHeld = x.can.sdoHeld := by
  rcases x.injReport_eq d n with h | ⟨-, ⟨c, h⟩ | ⟨c, l, h⟩⟩
  · rw [h]
  · obtain ⟨h', q, w, hc⟩ := x.emcyAt_node c d x.stamp
    rw [h, State.emcy, hc]
  · obtain ⟨h', q, w, hc⟩ := x.emcyEvent_node c d l
    rw [h, hc]

/-- The firing as `s` counts it. -/
def State.injecting (s : State) : State :=
  { s with injection := ⟨decide (s.injection.fired + 1 < s.setting 0x2B20 4), s.injection.fired + 1, some s.beat.n, true⟩ }

/-- The injection is done. -/
def State.injected (x : State) : State := { x with injection := { x.injection with acting := false } }

theorem State.injOnce_eq (s : State) : s.injOnce = (if s.cell 0x2B20 3 = 1 then (match s.injecting.injAct (s.cell 0x2B20 1) (s.cell 0x2B20 2) with
    | some t => t
    | none => s.injecting.injFire (s.cell 0x2B20 1) (s.cell 0x2B20 2)) else s.injecting.injFire (s.cell 0x2B20 1) (s.cell 0x2B20 2)).injected := rfl

theorem State.injOnce_act (ha : s.cell 0x2B20 3 = 1) (hact : s.injecting.injAct (s.cell 0x2B20 1) (s.cell 0x2B20 2) = some t) :
    s.injOnce = t.injected := by
  rw [State.injOnce_eq, if_pos ha, hact]

theorem State.injOnce_plain (h : s.cell 0x2B20 3 ≠ 1 ∨ s.injecting.injAct (s.cell 0x2B20 1) (s.cell 0x2B20 2) = none) :
    s.injOnce = (s.injecting.injFire (s.cell 0x2B20 1) (s.cell 0x2B20 2)).injected := by
  rw [State.injOnce_eq]
  rcases h with h | h
  · rw [if_neg h]
  · rw [h]
    exact congrArg State.injected (ite_self _)

/-- The acts of an injection for a tile, the overcurrent latch and the yoke. -/
theorem State.injAct_tile (hd : d = 0x0101 ∨ d = 0x0102) (hk : x.unitTile n = some k) : x.injAct d n = some (x.tileFails k d) := by
  unfold State.injAct
  rw [if_pos (by omega), hk]
  dsimp only
  rcases hd with hd | hd <;> rw [hd] <;> rfl

theorem State.injAct_trip (x : State) (n : Nat) : x.injAct 0x0A05 n = some (x.trip n true) := rfl

theorem State.injAct_yoke (hy : x.up.yoke = true) : x.injAct 0x0C01 n = some ((x.fire 0x0C01 0 7).yokeFail 0 0x0C01).healthFail := if_pos hy

theorem exec_injectionFire_due (h : s.injectionDue) (hh : s.injOnce.can.sdoHeld = none) : exec .injectionFire s = .next (State.settle s s.injOnce) := by
  obtain ⟨h1, h2, h3, h4⟩ := h
  refine (whenSettled_true ?_ ..).trans (by rw [State.heldServe_none hh])
  rw [Bool.and_eq_true, Bool.and_eq_true, Bool.and_eq_true]
  refine ⟨⟨⟨h1, by simpa using h2⟩, by simpa using h3⟩, ?_⟩
  rcases h4 with h4 | h4
  · simp [h4]
  · simp [h4]

theorem exec_injectionFire_early (h : ¬ s.injectionDue) : exec .injectionFire s = .next s := by
  refine whenSettled_false ?_ ..
  refine Bool.eq_false_iff.2 fun hc => h ?_
  simp only [Bool.and_eq_true, bne_iff_ne, ne_eq, Bool.not_eq_true', Bool.and_eq_false_iff] at hc
  obtain ⟨⟨⟨h1, h2⟩, h3⟩, h4⟩ := hc
  refine ⟨h1, h2, h3, h4.imp_left fun h => ?_⟩
  simpa using h

/-- The firing is counted, whatever its consequence fires besides. -/
theorem State.injectionFires_of (hd : (x.detOf (s.cell 0x2B20 1)).count = ((s.detOf (s.cell 0x2B20 1)).count + 1) % 2 ^ 64)
    (hi : (x.detOf (s.cell 0x2B20 1)).injected = ((s.detOf (s.cell 0x2B20 1)).injected + 1) % 2 ^ 32) (hj : x.injection = s.injecting.injection) :
    s.injectionFires x.injected := by
  refine ⟨hd, hi, ?_⟩
  show ({ x.injection with acting := false } : Injection) = _
  rw [hj]
  rfl

/-- A detector's record. -/
def State.setDet (x : State) (d : Nat) (q : DetRec) : State := { x with det := x.det.set d q }

theorem State.fireFull_det (x : State) (d u a k : Nat) (inj : Bool) : (x.fireFull d u a k inj).detOf d =
    ⟨((x.detOf d).count + 1) % 2 ^ 64, x.stamp, if inj then ((x.detOf d).injected + 1) % 2 ^ 32 else (x.detOf d).injected⟩ := by
  obtain ⟨y, hy⟩ : ∃ y, y = x.setDet d ⟨((x.detOf d).count + 1) % 2 ^ 64, x.stamp,
    if inj then ((x.detOf d).injected + 1) % 2 ^ 32 else (x.detOf d).injected⟩ := ⟨_, rfl⟩
  have hf : x.fireFull d u a k inj = y.logAdd d u a k inj := by
    rw [hy]
    rfl
  have hl : (y.logAdd d u a k inj).det = y.det := by
    unfold State.logAdd
    dsimp only
    split
    · rfl
    · split <;> rfl
  rw [hf, State.detOf_congr hl, hy]
  exact Tab.get_set_same ..

theorem State.fire_injected (h : x.injection.acting = true) (d u a : Nat) : ((x.fire d u a).detOf d).count = ((x.detOf d).count + 1) % 2 ^ 64 ∧
    ((x.fire d u a).detOf d).injected = ((x.detOf d).injected + 1) % 2 ^ 32 := by
  unfold State.fire
  rw [State.fireFull_det, h]
  exact ⟨rfl, rfl⟩

/-- A firing that only counts and reports. -/
theorem State.injFire_outcome (x : State) (d n : Nat) : ((x.injFire d n).detOf d).count = ((x.detOf d).count + 1) % 2 ^ 64 ∧
    ((x.injFire d n).detOf d).injected = ((x.detOf d).injected + 1) % 2 ^ 32 ∧ (x.injFire d n).injection = x.injection ∧
    (x.injFire d n).can.sdoHeld = x.can.sdoHeld := by
  have hc : Step 17729629192192 x (x.injCount d n) := State.injCount_step (Step.refl _ x) (by decide)
  obtain ⟨k, hk⟩ : ∃ k, k = if d = 0x0C05 then x.cell 0x2B20 9 else 0 := ⟨_, rfl⟩
  have hf : x.injFire d n = ((x.injCount d n).fireFull d n 0 k true).injReport d n := by
    rw [hk]
    rfl
  rw [hf, State.injReport_det, State.injReport_held, State.fireFull_det, State.detOf_congr (hc.det (by decide))]
  refine ⟨rfl, rfl, ?_, ?_⟩
  · exact (State.injReport_step (State.fireFull_step (State.injCount_step (Step.refl 72075325757719728 x) (by decide)) (by decide)) (by decide)).injection (by decide)
  · rw [(State.fireFull_step (Step.refl 1006632960 (x.injCount d n)) (by decide)).can (by decide), hc.can (by decide)]

/-- Its record, where the log has none to repeat. -/
theorem State.injFire_logged (h8 : d / 256 ≤ 8) (hup : x.up.collar = true) (hr : x.logRepeat d n (if d = 0x0C05 then x.cell 0x2B20 9 else 0) = none) :
    (x.injFire d n).log.find (x.logMade % 256) = some ⟨x.stamp, d, n, 0, true, if d = 0x0C05 then x.cell 0x2B20 9 else 0, 1, x.now⟩ := by
  have hc : Step 17729629192192 x (x.injCount d n) := State.injCount_step (Step.refl _ x) (by decide)
  obtain ⟨k, hk⟩ : ∃ k, k = if d = 0x0C05 then x.cell 0x2B20 9 else 0 := ⟨_, rfl⟩
  rw [← hk] at hr ⊢
  obtain ⟨y, hy⟩ : ∃ y, y = (x.injCount d n).setDet d
    ⟨(((x.injCount d n).detOf d).count + 1) % 2 ^ 64, (x.injCount d n).stamp, (((x.injCount d n).detOf d).injected + 1) % 2 ^ 32⟩ := ⟨_, rfl⟩
  have hf : x.injFire d n = y.logAdd d n 0 k true := by
    have h : x.injFire d n = (y.logAdd d n 0 k true).injReport d n := by
      rw [hy, hk]
      rfl
    rw [h, State.injReport_none h8]
  have hlog : y.log = x.log ∧ y.logMade = x.logMade ∧ y.up = x.up ∧ y.now = x.now ∧ y.stamp = x.stamp := by
    have hst : (x.injCount d n).stamp = x.stamp := State.stamp_congr (hc.beat (by decide)) (hc.now (by decide))
    rw [hy]
    exact ⟨hc.log (by decide), hc.logMade (by decide), hc.up (by decide), hc.now (by decide), hst⟩
  obtain ⟨h1, h2, h3, h4, h5⟩ := hlog
  have hry : y.logRepeat d n k = none := by
    rw [← hr]
    unfold State.logRepeat State.logNewest
    rw [h1, h4]
  rw [hf]
  unfold State.logAdd
  dsimp only
  rw [if_neg (by rw [h3, hup]; simp), hry]
  show (y.log.set (y.logMade % 256) _).find (x.logMade % 256) = _
  rw [h2, Tab.find_set_same, h4, h5]

/-! ### Consequences of mode ACT (R422) -/

/-- A panel's stages latched off, whatever its number. -/
theorem State.latchedPanel (x : State) (p : Nat) (inj : Bool) : (x.latchOff p inj).panelPower p =
      { (x.panelPower p).unpowered with overcurrent := true, ocInjected := inj } ∧
    ((x.latchOff p inj).domainOf (coreDomain p)).st = .latchedOff ∧ ((x.latchOff p inj).domainOf (memDomain p)).st = .latchedOff ∧
    Step (maskOf [.tiles, .power]) x (x.latchOff p inj) := by
  obtain ⟨y, hy⟩ : ∃ y, y = (x.setDomain (coreDomain p) ⟨.latchedOff, false, 0⟩).setDomain (memDomain p) ⟨.latchedOff, false, 0⟩ := ⟨_, rfl⟩
  have hx : x.latchOff p inj = (y.setPanelPower p { (x.panelPower p).unpowered with overcurrent := true, ocInjected := inj }).clearPanel p := by
    rw [hy]
    rfl
  have hd : ∀ e, (x.latchOff p inj).domainOf e = if e = coreDomain p ∨ e = memDomain p then ⟨.latchedOff, false, 0⟩ else x.domainOf e := fun e => by
    rw [hx]
    refine Eq.trans (State.domainOf_congr (s := y) (by simp only [State.setPanelPower, State.clearPanel]) e) ?_
    rw [hy]
    exact State.domainOf_set_two ..
  refine ⟨?_, by rw [hd, if_pos (.inl rfl)], by rw [hd, if_pos (.inr rfl)], ?_⟩
  · rw [hx]
    exact State.panelPower_set_same ..
  · rw [hx, hy]
    exact State.clearPanel_step (State.setPanelPower_step (State.setDomain_step (State.setDomain_step (Step.refl _ x) (by decide)) (by decide)) (by decide)) (by decide)

theorem State.declareLost_held (x : State) (p cause since : Nat) : (x.declareLost p cause since).can.sdoHeld = x.can.sdoHeld := by
  cases h : x.panelLost p with
  | true => rw [State.declareLost_lost h]
  | false =>
    obtain ⟨w, q, hx, -⟩ := State.declareLost_new (cause := cause) (since := since) h
    rw [hx]
    obtain ⟨hi, qu, dr, hc⟩ := State.emcyEvent_node ((x.fire 0x0C08 0 4).bump64 0x2B00 3) 0xFF71 0x0C08 (natLe 1 p ++ natLe 1 cause)
    show (State.emcyEvent _ _ _ _).can.sdoHeld = _
    rw [hc]
    simp

theorem State.emcyPower_held (x : State) (c e p : Nat) : (x.emcyPower c e p).can.sdoHeld = x.can.sdoHeld := by
  unfold State.emcyPower
  obtain ⟨hi, qu, dr, hc⟩ := x.emcyEvent_node c e (natLe 8 x.stamp ++ natLe 2 p)
  rw [hc]

/-- The overcurrent latch of an injection (R367). -/
theorem State.trip_outcome (x u : State) (p : Nat) (hk : s.keepsEmcy → x.keepsEmcy) (hu : x.trip p true = u) :
    (x.injection.acting = true → (u.detOf 0x0A05).count = ((x.detOf 0x0A05).count + 1) % 2 ^ 64 ∧
      (u.detOf 0x0A05).injected = ((x.detOf 0x0A05).injected + 1) % 2 ^ 32) ∧ u.injection = x.injection ∧ u.can.sdoHeld = x.can.sdoHeld ∧
    s.hasRaised u 0xFF62 0x0A05 ∧ u.panelLost p = true ∧ (u.panelPower p).overcurrent = true ∧ (u.panelPower p).ocInjected = true ∧
    (u.domainOf (coreDomain p)).st = .latchedOff ∧ (u.domainOf (memDomain p)).st = .latchedOff := by
  obtain ⟨hpan, hcore, hmem, hstep⟩ := x.latchedPanel p true
  obtain ⟨a, ha⟩ : ∃ a, a = x.latchOff p true := ⟨_, rfl⟩
  rw [← ha] at hpan hcore hmem hstep
  obtain ⟨b, hb⟩ : ∃ b, b = a.fire 0x0A05 p 4 := ⟨_, rfl⟩
  have hx : u = (b.emcyPower 0xFF62 0x0A05 p).declareLost p 3 x.beat.n := by
    rw [hb, ha, ← hu]
    rfl
  have hbk : s.keepsEmcy → b.keepsEmcy := fun h => by
    rw [hb]
    exact (State.keepsEmcy_congr (by simp [hstep.up (by decide)]) (State.setting_congr (by simp [hstep.od (by decide)]) _ _)).2 (hk h)
  have hend : Step 72075364412425394 b u := hx ▸ State.declareLost_step (State.emcyPower_step (Step.refl _ b) (by decide)) (by decide)
  have hpow : u.power = a.power := by
    rw [hend.power (by decide), hb, State.fire_power]
  have hdet : u.detOf 0x0A05 = b.detOf 0x0A05 := by
    rw [hx]
    exact (State.declareLost_calm (fun _ h => h) (State.emcyPower_calm (by decide) (Calm.refl lossDets b) 0xFF62 0x0A05 p)).det _ (by decide)
  refine ⟨fun hact => ?_, ?_, ?_, ?_, ?_, ?_, ?_, ?_, ?_⟩
  · rw [hdet, hb, ← State.detOf_congr (hstep.det (by decide))]
    exact State.fire_injected (by rw [hstep.injection (by decide)]; exact hact) ..
  · rw [hend.injection (by decide), hb, State.fire_injection, hstep.injection (by decide)]
  · rw [hx, State.declareLost_held, State.emcyPower_held, hb, State.fire_can, hstep.can (by decide)]
  · rw [hx]
    exact State.hasRaised_of_within (State.declareLost_within (fun h => (State.keepsEmcy_emcyPower _ _ _ _).2 (hbk h))
      (State.emcyPower_raises hbk (by decide) _) (by decide))
  · rw [hx]
    exact State.panelLost_declareLost ..
  · rw [State.panelPower_congr hpow, hpan]
  · rw [State.panelPower_congr hpow, hpan]
  · rw [State.domainOf_congr (congrArg Power.domains hpow)]
    exact hcore
  · rw [State.domainOf_congr (congrArg Power.domains hpow)]
    exact hmem

/-- The yoke's failure of an injection (R416). -/
theorem State.yokeInjected (x u : State) (hact : x.injection.acting = true) (hh : x.fw.health ≠ 1)
    (hu : ((x.fire 0x0C01 0 7).yokeFail 0 0x0C01).healthFail = u) :
    ((u.detOf 0x0C01).count = ((x.detOf 0x0C01).count + 1) % 2 ^ 64 ∧ (u.detOf 0x0C01).injected = ((x.detOf 0x0C01).injected + 1) % 2 ^ 32) ∧
    u.injection = x.injection ∧ u.can.sdoHeld = x.can.sdoHeld ∧ u.yokeOut := by
  obtain ⟨y, hy⟩ : ∃ y, y = x.fire 0x0C01 0 7 := ⟨_, rfl⟩
  have hstep : Step 81087489994681528 y (y.yokeFail 0 0x0C01) := State.yokeFail_step (Step.refl _ y) (by decide)
  have hidle : (y.yokeFail 0 0x0C01).healthFail = y.yokeFail 0 0x0C01 :=
    State.healthFail_idle (by rw [hstep.fw (by decide), hy, State.fire_fw]; exact hh)
  rw [← hu, ← hy, hidle, (State.yokeFail_calm (fun _ h => h) (Calm.refl sideDets y) 0 0x0C01).det _ (by decide), hstep.injection (by decide), hy]
  refine ⟨State.fire_injected hact .., State.fire_injection .., ?_, State.yokeOut_yokeFail ..⟩
  rw [State.yokeFail_can]
  obtain ⟨hi, qu, dr, hc⟩ := State.emcyEvent_node (((x.fire 0x0C01 0 7).bump64 0x2B00 7).logAct 0x0C01 0 7) 0xFF73 0x0C01 (natLe 1 0)
  refine (congrArg Can.sdoHeld hc).trans ?_
  simp

end

end Sys2Proof.Machine

namespace Sys2Proof.Proofs

open Sys2Proof.Machine

/-- Settles O58: the restore by what keeps a panel out, the clears by their causes, the injection by its target's consequence. -/
theorem serviceActions : Obligations.ServiceActions := by
  unfold Obligations.ServiceActions
  refine ⟨fun s p v failed hw => ?_, fun s bad begun hr hl hh hd h1 h2 hk => ?_, fun s p v hw => ?_, fun s p v hw => ?_, fun s p hw => ?_, fun s => ?_⟩
  · intro c bad back fs
    refine ⟨fun hv => ?_, fun hv => ?_, fun hv hl => ?_, fun hv hl hs => ?_, fun hv hl hs h1 h2 hk => ?_⟩
    · exact State.refusesWrite_settled (e := fxGridRestore v.toNat bad) rfl hw (if_pos hv)
    · have he : fxGridRestore v.toNat bad s = .ok s := by
        unfold fxGridRestore
        rw [if_neg (by omega), if_pos hv]
      exact settles_step (State.odWriteSettled_ok hw he) (Step.refl _ s) trivial
    · refine State.refusesWrite_settled (e := fxGridRestore v.toNat bad) rfl hw ?_
      unfold fxGridRestore
      rw [if_neg (by omega), if_neg (by omega), if_pos (by simpa using hl)]
      rfl
    · have he := fxGridRestore_one (s := s) hv hl bad
      rw [show (s.asked bad).atOnce = s.asked bad from if_neg hs] at he
      exact settles_step (State.odWriteSettled_ok hw he) (Step.put (F := 9007199254740992) (Step.refl _ s) (by decide) rfl
        fun v => ⟨v.1, v.2, v.3, v.4, v.5, v.6, v.7⟩) rfl
    · obtain ⟨y, hy⟩ : ∃ y, y = s.asked bad := ⟨_, rfl⟩
      have hx : exec c s = _ := State.odWriteSettled_ok hw (fxGridRestore_one (s := s) hv hl bad)
      have hys : Step (maskOf fs) s y := by
        rw [hy]
        exact Step.put (F := 9007199254740992) (Step.refl _ s) (by decide) rfl fun v => ⟨v.1, v.2, v.3, v.4, v.5, v.6, v.7⟩
      have hyk : y.wafer.laneKept = .empty := by rw [hy]; exact hk
      have hysame : y.wafer = s.wafer ∧ (∀ p, y.panelPower p = s.panelPower p) ∧ (∀ d, y.domainOf d = s.domainOf d) ∧ y.od = s.od ∧ y.beat = s.beat ∧
          y.power = s.power ∧ (s.keepsEmcy → y.keepsEmcy) ∧ y.inputAllows 1 = s.inputAllows 1 ∧ y.up = { s.up with restore := some (bad, false) } := by
        rw [hy]
        exact ⟨rfl, fun _ => rfl, fun _ => rfl, rfl, rfl, rfl, fun h => h, rfl, rfl⟩
      obtain ⟨y1, y2, y3, y4, y5, y6, y7, y8, y9⟩ := hysame
      have hyr := State.restorable_congr y1 y2 bad
      rw [State.atOnce_restore hs h1 h2, ← hy, State.restoreApply_begins (bad := bad) (by rw [y9])] at hx
      obtain ⟨-, hon, hwant⟩ := y.restoreBegin_outcome bad hyk
      obtain ⟨b1, b2, b3, b4, b5, b6, b7⟩ := y.restoreBegin_same bad hyk
      have hbs : Step (maskOf fs) s (y.restoreBegin bad) := State.restoreBegin_step hys (by decide)
      refine ⟨fun hn => ?_, fun hin hosc hex => ?_⟩
      · have hnone : (y.restoreBegin bad).restorable bad = [] := by
          rw [b6, hyr.2]
          exact List.eq_nil_iff_forall_not_mem.2 fun q hq => hn q (mem_restorable.1 hq)
        rw [State.restoreBusy_none hnone, if_neg (by decide)] at hx
        refine settles_step hx (State.restoreFinish_step hbs (by decide)) ⟨State.restored_finish (b1.trans y1) (fun p => (b2 p).trans (y2 p))
          (fun d => (hon d).trans (by rw [y3])) (b3.trans y4) (fun h => b7 (y7 h)), fun h => absurd hs h, fun _ => ?_⟩
        have he := ((y.restoreBegin bad).restoreFinish_outcome (s := s) bad (fun h => b7 (y7 h))).2.1 (by rw [b4, y5]; exact hs)
        rw [b1, y1] at he
        exact he
      · have hwant' : ∀ q d, back q → d = memDomain q ∨ d = coreDomain q → (s.domainOf d).st = .off → ((y.restoreBegin bad).domainOf d).wanted = true ∧
            (((y.restoreBegin bad).domainOf d).st = .off ∨ ((y.restoreBegin bad).domainOf d).st = .ramping) := fun q d hq hd ho =>
          hwant (by rw [y8]; unfold State.inputAllows; rw [hin]; rfl) (by rw [y6]; exact hosc) q (by rw [hyr.2]; exact mem_restorable.2 hq) d hd (by rw [y3]; exact ho)
        obtain ⟨q, hq, ho, hneed⟩ := hex
        have hbusy : (y.restoreBegin bad).restoreBusy bad = true := by
          refine List.any_eq_true.2 ⟨q, by rw [b6, hyr.2]; exact mem_restorable.2 hq, ?_⟩
          obtain ⟨k1, k2⟩ := hwant' q (memDomain q) hq (.inl rfl) ho
          have hm : (y.restoreBegin bad).needsMet (memDomain q) = true := by
            rw [← hneed]
            exact State.needsMet_congr (fun d => (hon d).trans (by rw [y3])) _
          unfold State.stillRamps
          rcases k2 with k2 | k2
          · simp [k1, k2, hm]
          · simp [k2]
        rw [if_pos hbusy] at hx
        exact settles_step hx hbs ⟨by rw [b5], b1.trans y1, hwant'⟩
  · intro fs
    have hx := exec_lineBoundary_due hl hd
    rw [if_pos hh] at hx
    obtain ⟨hn, hlock, -⟩ := State.counted_beat s
    obtain ⟨hw, hup, -, -⟩ := State.counted_keeps s
    have hc : (∀ p, s.counted.panelPower p = s.panelPower p) ∧ (∀ d, s.counted.domainOf d = s.domainOf d) ∧ s.counted.od = s.od ∧
        (s.keepsEmcy → s.counted.keepsEmcy) ∧ s.counted.restoreBusy bad = s.restoreBusy bad ∧ s.counted.restorable bad = s.restorable bad :=
      ⟨fun _ => rfl, fun _ => rfl, rfl, fun h => h, rfl, rfl⟩
    have hcs : Step (maskOf fs) s s.counted := by
      have h0 : Step (maskOf fs) s s.predicted := Step.put (F := 4) (State.advanceTo_step (Step.refl _ s) (by decide)) (by decide) rfl
        fun v => ⟨v.1, v.2, v.3, v.4, v.5, v.6, v.7⟩
      exact Step.put (F := 4) h0 (by decide) rfl fun v => ⟨v.1, v.2, v.3, v.4, v.5, v.6, v.7⟩
    generalize s.counted = y at hx hn hlock hw hup hc hcs
    obtain ⟨y1, y2, y3, y4, y5, y6⟩ := hc
    have hwork : y.boundaryWork = y.restoreApply.clocksApply.retimesApply.leasesApply := by
      unfold State.boundaryWork
      rw [State.lanesApply_same (by rw [hw]; exact h1) (by rw [hw]; exact h2)]
    rw [hwork] at hx
    have hstep : Step (maskOf fs) s y.restoreApply.clocksApply.retimesApply.leasesApply :=
      State.leasesApply_step (State.retimesApply_step (State.clocksApply_step (State.restoreApply_step hcs (by decide)) (by decide)) (by decide)) (by decide)
    refine ⟨fun hb hbusy => ?_, fun hb hbusy => ?_, fun hb hnone => ?_⟩
    · obtain ⟨k1, k2, -⟩ := y.restoreApply.boundaryRest_keeps
      have hy : y.restoreApply = y := by
        rw [State.restoreApply_begun (bad := bad) (by rw [hup, hr, hb]), y5, if_pos hbusy]
      rw [hy] at k1 k2
      rw [hy] at hx hstep
      exact settles_step hx hstep ⟨by rw [k2, hup, hr, hb], by rw [k1, hw]⟩
    · have hy : y.restoreApply = y.restoreFinish bad := by
        rw [State.restoreApply_begun (bad := bad) (by rw [hup, hr, hb]), y5, if_neg (by rw [hbusy]; decide)]
      obtain ⟨k1, -⟩ := (y.restoreFinish bad).boundaryRest_keeps
      rw [hy] at hx hstep
      refine settles_step hx hstep ⟨State.restored_rest (State.restored_finish hw y1 (fun d => by rw [y2]) y3 y4), fun he => ?_⟩
      have hep := (y.restoreFinish_outcome (s := s) bad y4).2.2 (by rw [hlock]; exact hl) (by rw [hw, hn]; exact he)
      rw [k1, hep, hw]
    · have hyk : y.wafer.laneKept = .empty := by rw [hw]; exact hk
      obtain ⟨-, hon, -⟩ := y.restoreBegin_outcome bad hyk
      obtain ⟨b1, b2, b3, b4, b5, b6, b7⟩ := y.restoreBegin_same bad hyk
      have hy : y.restoreApply = (y.restoreBegin bad).restoreFinish bad := by
        rw [State.restoreApply_begins (bad := bad) (by rw [hup, hr, hb]), State.restoreBusy_none (by rw [b6, y6]; exact hnone), if_neg (by decide)]
      rw [hy] at hx hstep
      exact settles_step hx hstep (State.restored_rest (State.restored_finish (b1.trans hw) (fun p => (b2 p).trans (y1 p)) (fun d => (hon d).trans (by rw [y2]))
        (b3.trans y3) fun h => b7 (y4 h)))
  · intro c
    refine ⟨fun hv => State.refusesWrite_settled (e := fxReplacementClear v.toNat) rfl hw (if_pos hv), fun hv => ?_, fun hv hz => ?_⟩
    · have he : fxReplacementClear v.toNat s = .ok s := by
        unfold fxReplacementClear
        rw [if_neg (by omega), if_neg (by omega)]
      exact settles_step (State.odWriteSettled_ok hw he) (Step.refl _ s) trivial
    · have he : fxReplacementClear v.toNat s = .ok (({ s with replacement := false } : State).putCell 0x2B50 3 0) := by
        unfold fxReplacementClear
        rw [if_neg (by omega), if_pos ⟨hv, hz⟩]
      have h0 : Step (maskOf [.od, .replacement]) s ({ s with replacement := false } : State) :=
        Step.put (F := 2147483648) (Step.refl _ s) (by decide) rfl fun v => ⟨v.1, v.2, v.3, v.4, v.5, v.6, v.7⟩
      exact settles_step (State.odWriteSettled_ok hw he) (State.putCell_step h0 (by decide)) ⟨rfl, State.cell_putCell_same ..⟩
  · refine ⟨fun hv => ?_, fun hv => State.refusesWrite_plain (e := fxLogClear v.toNat) rfl hw (if_neg hv)⟩
    have he : fxLogClear v.toNat s = .ok { s with log := .empty, logMade := 0 } := if_pos hv
    exact completes_step (State.odWrite_ok hw he) (Step.put (F := 402653184) (Step.refl _ s) (by decide) rfl
      fun v => { v with log := rfl }) ⟨rfl, rfl⟩
  · intro d x c
    have hfx : fxInjectionArm 1 s = if detectorDefined d = false ∨ x.1 = false then .error outOfRange
        else if s.cell 0x2B21 0 = 0 ∨ s.injection.armed ∨ x.2 = false then .error badState
        else .ok { s with injection := ⟨true, 0, some s.beat.n, false⟩ } := rfl
    refine ⟨fun h => ?_, fun h1 h2 => ⟨fun h => ?_, fun ha hb hc => ?_⟩, ?_⟩
    · exact State.refusesWrite_plain (e := fxInjectionArm 1) rfl hw (hfx.trans (if_pos h))
    · exact State.refusesWrite_plain (e := fxInjectionArm 1) rfl hw ((hfx.trans (if_neg (by simp [h1, h2]))).trans (if_pos h))
    · have he := (hfx.trans (if_neg (by simp [h1, h2]))).trans (if_neg (by simp [ha, hb, hc]))
      exact completes_step (State.odWrite_ok hw he) (Step.put (F := 68719476736) (Step.refl _ s) (by decide) rfl
        fun v => ⟨v.1, v.2, v.3, v.4, v.5, v.6, v.7⟩) rfl
    · have he : fxInjectionArm 0 s = .ok { s with injection := { s.injection with armed := false } } := rfl
      exact completes_step (State.odWrite_ok hw he) (Step.put (F := 68719476736) (Step.refl _ s) (by decide) rfl
        fun v => ⟨v.1, v.2, v.3, v.4, v.5, v.6, v.7⟩) rfl
  · intro d n act
    refine ⟨exec_injectionFire_early, fun hdue hheld => ?_⟩
    have hinj : ∀ {fs : List Machine.Field}, sub 68719476736 (maskOf fs) = true → Step (maskOf fs) s s.injecting := fun h =>
      Step.put (F := 68719476736) (Step.refl _ s) h rfl fun v => ⟨v.1, v.2, v.3, v.4, v.5, v.6, v.7⟩
    have hdone : ∀ {fs : List Machine.Field} {y : State}, sub 68719476736 (maskOf fs) = true → Step (maskOf fs) s y → Step (maskOf fs) s y.injected := fun h k =>
      Step.put (F := 68719476736) k h rfl fun v => ⟨v.1, v.2, v.3, v.4, v.5, v.6, v.7⟩
    intro kind
    refine ⟨fun hnone => ?_, fun ha hd k hk => ?_, fun ha hd => ?_, fun ha hd hy hh => ?_⟩
    · have honce : s.injOnce = (s.injecting.injFire d n).injected := State.injOnce_plain (hnone.imp_right fun h => h _)
      obtain ⟨k1, k2, k3, k4⟩ := s.injecting.injFire_outcome d n
      have hx := exec_injectionFire_due hdue (by rw [honce]; exact k4.trans hheld)
      rw [honce] at hx
      refine settles_step hx (hdone (by decide) (State.injFire_step (hinj (by decide)) (by decide))) ⟨State.injectionFires_of k1 k2 k3, fun h8 hup hrep => ?_⟩
      exact State.injFire_logged (x := s.injecting) h8 hup hrep
    · have honce : s.injOnce = (s.injecting.tileFails k d).injected := State.injOnce_act ha (State.injAct_tile hd hk)
      obtain ⟨-, hsus⟩ := State.tileFails_reports s.injecting k d
      have hstep : Step 5301600256 s.injecting (s.injecting.tileFails k d) := State.tileFails_step (Step.refl _ _) (by decide)
      have hdet : (s.injecting.tileFails k d).det = (s.injecting.fire d (s.injecting.wafer.tileUnit k) 0).det := by
        unfold State.tileFails State.suspect
        split <;> rfl
      obtain ⟨k1, k2⟩ := State.fire_injected (x := s.injecting) rfl d (s.injecting.wafer.tileUnit k) 0
      have hx := exec_injectionFire_due hdue (by rw [honce]; exact (congrArg Can.sdoHeld (hstep.can (by decide))).trans hheld)
      rw [honce] at hx
      exact settles_step hx (hdone (by decide) (State.tileFails_step (hinj (by decide)) (by decide)))
        ⟨State.injectionFires_of ((congrArg DetRec.count (State.detOf_congr hdet d)).trans k1)
          ((congrArg DetRec.injected (State.detOf_congr hdet d)).trans k2) (hstep.injection (by decide)), hsus⟩
    · have hdd : s.cell 0x2B20 1 = 0x0A05 := hd
      obtain ⟨u, hu⟩ : ∃ u, s.injecting.trip n true = u := ⟨_, rfl⟩
      have honce : s.injOnce = u.injected := State.injOnce_act ha (by rw [hdd]; exact (State.injAct_trip ..).trans (congrArg some hu))
      obtain ⟨k1, k2, k3, k4, k5, k6, k7, k8, k9⟩ := State.trip_outcome (s := s) s.injecting u n (fun h => h) hu
      obtain ⟨k1, k1'⟩ := k1 rfl
      have hx := exec_injectionFire_due hdue (by rw [honce]; exact k3.trans hheld)
      rw [honce] at hx
      have hut : Step (maskOf (reportFields ++ ([.wafer, .suspects, .moves, .injection, .tiles, .power] : List Machine.Field))) s u :=
        hu ▸ State.trip_step (hinj (by decide)) (by decide)
      refine settles_step hx (hdone (by decide) hut)
        ⟨State.injectionFires_of (by rw [hdd]; exact k1) (by rw [hdd]; exact k1') k2, by rw [hd]; exact k4, k5, k6, k7, k8, k9⟩
    · have hdd : s.cell 0x2B20 1 = 0x0C01 := hd
      obtain ⟨u, hu⟩ : ∃ u, ((s.injecting.fire 0x0C01 0 7).yokeFail 0 0x0C01).healthFail = u := ⟨_, rfl⟩
      have honce : s.injOnce = u.injected := State.injOnce_act ha (by rw [hdd, ← hu]; exact State.injAct_yoke hy)
      obtain ⟨⟨k1, k1'⟩, k2, k3, k4⟩ := s.injecting.yokeInjected u rfl hh hu
      have hx := exec_injectionFire_due hdue (by rw [honce]; exact k3.trans hheld)
      rw [honce] at hx
      have hidle : ((s.injecting.fire 0x0C01 0 7).yokeFail 0 0x0C01).healthFail = (s.injecting.fire 0x0C01 0 7).yokeFail 0 0x0C01 := by
        refine State.healthFail_idle ?_
        rw [(State.yokeFail_step (Step.refl 81087489994681528 _) (by decide)).fw (by decide), State.fire_fw]
        exact hh
      refine settles_step hx (hdone (by decide) ?_) ⟨State.injectionFires_of (by rw [hdd]; exact k1) (by rw [hdd]; exact k1') k2, k4⟩
      rw [← hu, hidle]
      exact State.yokeFail_step (State.fire_step (hinj (by decide)) (by decide)) (by decide)

end Sys2Proof.Proofs
end

section
/-! Why the statement about the fences of tiles fails: the count of skips of a frame whose class is no class. -/

namespace Sys2Proof.Machine

/-- Tile 0 is suspect. A frame whose class is no class costs more than its beat allows: when the remap steps the epoch the budgets are
looked at again, the frame is skipped, and the skip is counted in the cell that its class names, 0x2B00:01. -/
def remappedAndSkipped : State := { Sys2Proof.Tests.on with
  suspects := [⟨.tile 0, 0, 0⟩]
  frames := Tab.empty.set 1 ⟨0, 0, (0x2B00 - 0x2505) * 256, 2, none, 0, 65536, 0, false, none, 10 ^ 30, 0, 0⟩ }

theorem remappedAndSkipped_fence : exec (.tileFence ⟨0, 0, 0⟩) remappedAndSkipped =
    .next (State.settle remappedAndSkipped ((remappedAndSkipped.unsuspect (.tile 0)).tileFenceWork 0 0)) := by
  have hdet : remappedAndSkipped.suspectDet (.tile (tileKey ⟨0, 0, 0⟩)) = 0 := by decide +kernel
  refine (whenSettled_true (by decide +kernel) ..).trans ?_
  rw [hdet]
  rfl

theorem remappedAndSkipped_counts : ((remappedAndSkipped.unsuspect (.tile 0)).tileFenceWork 0 0).cell 0x2B00 1 = 2 := by decide +kernel

end Sys2Proof.Machine

namespace Sys2Proof.Proofs
open Sys2Proof.Machine

/-- Refutes O56: one fence is to be counted in 0x2B00:01. In `remappedAndSkipped` the remap's step of the epoch skips a frame; the skip is
counted in sub-index class + 1 of 0x2505, which for a class of 391,936 is the same cell. -/
theorem not_tileAndPanelFences : ¬ Obligations.TileAndPanelFences := by
  unfold Obligations.TileAndPanelFences
  rintro ⟨htile, -⟩
  obtain ⟨-, hdue⟩ := htile remappedAndSkipped ⟨0, 0, 0⟩
  obtain ⟨-, -, -, hremap⟩ := hdue (by decide +kernel)
  obtain ⟨u, hx, -, ⟨-, -, hcell⟩, -⟩ := hremap (by decide +kernel) (by decide +kernel) (by decide +kernel)
  rw [remappedAndSkipped_fence] at hx
  have hsame : State.settle remappedAndSkipped ((remappedAndSkipped.unsuspect (.tile 0)).tileFenceWork 0 0) = State.settle remappedAndSkipped u :=
    Host.Outcome.next.inj hx
  have hplain : ¬ reportCell 0x2B00 := by
    unfold reportCell
    decide
  have hc := congrArg (fun t => t.cell 0x2B00 1) hsame
  rw [State.settle_cell _ _ (by decide) hplain, State.settle_cell _ _ (by decide) hplain, remappedAndSkipped_counts, hcell] at hc
  revert hc
  decide +kernel

end Sys2Proof.Proofs
end

section
/-! Stream plans: what their operations leave in the table of plans (R160, R161, R170, R173). -/

namespace Sys2Proof.Machine

/-! ### One plan changes -/

section

variable {s t : State} {k i : Nat} {p q : Plan} {f : Plan → Plan}

theorem State.plans_planMap (s : State) (k : Nat) (f : Plan → Plan) (j : Nat) :
    (s.planMap k f).plans.find j = (s.plans.find j).map fun p => if j = k then f p else p := Tab.find_mapVals ..

theorem State.plans_planMap_same (h : s.plans.find k = some p) : (s.planMap k f).plans.find k = some (f p) := by
  rw [State.plans_planMap, h, Option.map_some, if_pos rfl]

theorem State.plans_planMap_other {j : Nat} (h : j ≠ k) : (s.planMap k f).plans.find j = s.plans.find j := by
  rw [State.plans_planMap]
  simp only [if_neg h]
  exact Option.map_id_fun' ▸ rfl

/-! ### Budgets without frames (R214) -/

theorem State.rebudget_idle (h : s.frames = .empty) : s.rebudget = s := by
  unfold State.rebudget
  rw [h]
  rfl

/-! ### The end of a plan's entry (R22, R161) -/

theorem Plan.outcome_cases (p : Plan) : p.outcome = .ok ∨ p.outcome = .tierFailed := by
  unfold Plan.outcome
  split
  · exact .inl rfl
  · exact .inr rfl

/-- Where nothing is suspect an entry of a plan ends with its own status. -/
theorem State.planEntryDone_sound (h : s.suspects = []) {st : Status} (hst : st = .ok ∨ st = .tierFailed) (e : Nat × Nat) (j : Nat)
    (segs : List Nat) (det : Nat) : s.planEntryDone e j segs st det = s.entryDone e.1 e.2 st det 0 0xFFFF := by
  unfold State.planEntryDone
  rw [State.suspectStatus_none h]
  rcases hst with hst | hst <;> rw [hst] <;> rfl

/-- A plan of which no pleat is being staged any more. -/
def Plan.checked (q : Plan) (n : Nat) : Plan := { q with
  st := if q.st = .staging then .active else q.st
  firstB := if q.st = .staging then n + 1 else q.firstB
  activator := none, restagers := [] }

theorem State.planCheck_waits (h : s.plans.find k = some p) (hx : ∃ x : Pleat, x ∈ p.pleats ∧ x.st = .staging) : s.planCheck k = s := by
  obtain ⟨x, hx, hst⟩ := hx
  unfold State.planCheck
  simp only [h]
  exact if_pos (List.any_eq_true.2 ⟨x, hx, by rw [hst]; rfl⟩)

theorem State.planCheck_ready (h : s.plans.find k = some p) (hn : ∀ x : Pleat, x ∈ p.pleats → x.st ≠ .staging) : s.planCheck k =
    each p.restagers (fun x e => x.planEntryDone e p.job p.segments p.outcome 0) (match p.activator with
      | some e => (s.planMap k fun q => q.checked s.beat.n).planEntryDone e p.job p.segments p.outcome 0
      | none => s.planMap k fun q => q.checked s.beat.n) := by
  unfold State.planCheck
  simp only [h]
  refine (if_neg ?_).trans rfl
  simpa using hn

/-- With one entry that waits, and nothing suspect, that entry ends. -/
theorem State.planCheck_one {e : Nat × Nat} (h : s.plans.find k = some p) (hn : ∀ x : Pleat, x ∈ p.pleats → x.st ≠ .staging) (hs : s.suspects = [])
    (hone : p.activator = some e ∧ p.restagers = [] ∨ p.activator = none ∧ p.restagers = [e]) :
    s.planCheck k = (s.planMap k fun q => q.checked s.beat.n).entryDone e.1 e.2 p.outcome 0 0 0xFFFF := by
  rw [State.planCheck_ready h hn]
  have hs' : (s.planMap k fun q => q.checked s.beat.n).suspects = [] := hs
  rcases hone with ⟨ha, hr⟩ | ⟨ha, hr⟩
  · rw [ha, hr]
    exact State.planEntryDone_sound hs' p.outcome_cases ..
  · rw [ha, hr]
    exact State.planEntryDone_sound hs' p.outcome_cases ..

/-! ### Staging (R161, R171) -/

/-- The pleats of a list are being staged, and no other pleat of the plan has changed. -/
def Plan.stagedAs (p : Plan) (d : List Nat) (q : Plan) : Prop := q = { p with pleats := q.pleats } ∧ q.pleats.length = p.pleats.length ∧
  ∀ i x, p.pleats[i]? = some x → ∃ y, q.pleats[i]? = some y ∧ (i ∈ d → y = { x with st := .staging, cmds := y.cmds }) ∧ (i ∉ d → y = x)

/-- What the staging of pleats of a plan leaves: the plan with those pleats in STAGING, every other plan, and the service of flash and DRAM. -/
def State.stages (s : State) (k : Nat) (p : Plan) (d : List Nat) (t : State) : Prop := (∃ q, t.plans.find k = some q ∧ p.stagedAs d q) ∧
  (∀ j, j ≠ k → t.plans.find j = s.plans.find j) ∧ (∀ g, (t.seg g).flash = (s.seg g).flash) ∧ t.dram = s.dram

theorem Plan.stagedAs_nil (p : Plan) : p.stagedAs [] p := ⟨rfl, rfl, fun _ x h => ⟨x, h, fun hi => absurd hi List.not_mem_nil, fun _ => rfl⟩⟩

theorem State.stages_nil (h : s.plans.find k = some p) : s.stages k p [] s := ⟨⟨p, h, p.stagedAs_nil⟩, fun _ _ => rfl, fun _ => rfl, rfl⟩

theorem State.stages_congr {d : List Nat} {u : State} (h : s.stages k p d t) (hp : u.plans = t.plans) (hg : u.segs = t.segs) (hd : u.dram = t.dram) :
    s.stages k p d u := by
  obtain ⟨h1, h2, h3, h4⟩ := h
  exact ⟨by rw [hp]; exact h1, fun j hj => by rw [hp]; exact h2 j hj, fun g => by rw [State.seg_congr hg]; exact h3 g, hd.trans h4⟩

theorem State.seg_flash_nvmeIssue (s : State) (g op lba lbas addr : Nat) (w : NvmeFor) (j : Nat) :
    ((s.nvmeIssue g op lba lbas addr w).seg j).flash = (s.seg j).flash := by
  have hset : ∀ x : Seg, x.flash = (s.seg g).flash → ((s.setSeg g x).seg j).flash = (s.seg j).flash := fun x hx => by
    by_cases h : j = g
    · rw [h, State.seg_setSeg_same, hx]
    · rw [State.seg_setSeg_other _ h]
  exact hset _ rfl

theorem State.seg_flash_nvmeSend (s : State) (g op lba lbas addr : Nat) (w : NvmeFor) (j : Nat) :
    ((s.nvmeSend g op lba lbas addr w).seg j).flash = (s.seg j).flash := by
  unfold State.nvmeSend
  split
  · exact each_keeps (fun x : State => (x.seg j).flash) _ (fun x c => State.seg_flash_nvmeIssue ..) _ _
  · exact State.seg_flash_nvmeIssue ..

theorem State.seg_flash_pleatDrop (s : State) (k i j : Nat) : ((s.pleatDrop k i).seg j).flash = (s.seg j).flash := by
  have h : ∀ f : Nat → Seg → Seg, (∀ n x, (f n x).flash = x.flash) → ((s.segs.mapVals f).get seg0 j).flash = (s.segs.get seg0 j).flash := fun f hf => by
    unfold Tab.get
    rw [Tab.find_mapVals]
    cases s.segs.find j with
    | none => rfl
    | some x => exact hf j x
  exact h _ fun _ _ => rfl

theorem Plan.pleatMap_get (p : Plan) (i : Nat) (f : Pleat → Pleat) (j : Nat) :
    (p.pleatMap i f).pleats[j]? = p.pleats[j]?.map fun x => if j = i then f x else x := by
  unfold Plan.pleatMap
  simp only [List.getElem?_map, List.getElem?_zipIdx, Option.map_map, Nat.zero_add]
  rfl

theorem Plan.pleatMap_length (p : Plan) (i : Nat) (f : Pleat → Pleat) : (p.pleatMap i f).pleats.length = p.pleats.length := by
  unfold Plan.pleatMap
  simp

theorem Plan.stagedAs_cons {d : List Nat} {n : Nat} (h : p.stagedAs d q) :
    p.stagedAs (i :: d) (q.pleatMap i fun y => { y with st := .staging, cmds := n }) := by
  obtain ⟨h1, h2, h3⟩ := h
  refine ⟨?_, (Plan.pleatMap_length ..).trans h2, fun j x hx => ?_⟩
  · unfold Plan.pleatMap
    rw [h1]
  · obtain ⟨y, hy, hin, hout⟩ := h3 j x hx
    rw [Plan.pleatMap_get, hy]
    by_cases hj : j = i
    · refine ⟨{ y with st := .staging, cmds := n }, congrArg some (if_pos hj), fun _ => ?_, fun hn => absurd (List.mem_cons.2 (.inl hj)) hn⟩
      by_cases hd : j ∈ d
      · rw [hin hd]
      · rw [hout hd]
    · exact ⟨y, congrArg some (if_neg hj), fun hd => hin ((List.mem_cons.1 hd).resolve_left hj), fun hd =>
        hout fun hm => hd (List.mem_cons.2 (.inr hm))⟩

/-- The segment of a pleat of the plan serves as it did. -/
theorem State.stages_serve {d : List Nat} {y : Pleat} (h : s.stages k p d t) (hq : t.plans.find k = some q) (hx : q.pleats[i]? = some y)
    (hup : ∀ x, p.pleats[i]? = some x → s.flashUp x.seg = true ∧ s.dram.get false x.seg = true) : (t.flashUp y.seg && t.dram.get false y.seg) = true := by
  obtain ⟨⟨q', hq', -, h2, h3⟩, -, hf, hd⟩ := h
  rw [hq] at hq'
  obtain rfl := Option.some.inj hq'
  have hlt : i < p.pleats.length := h2 ▸ (List.getElem?_eq_some_iff.1 hx).1
  obtain ⟨y', hy', hin, hout⟩ := h3 i _ (List.getElem?_eq_getElem hlt)
  rw [hx] at hy'
  have hseg : y.seg = (p.pleats[i]).seg := by
    rw [Option.some.inj hy']
    by_cases hm : i ∈ d
    · rw [hin hm]
    · rw [hout hm]
  obtain ⟨u1, u2⟩ := hup _ (List.getElem?_eq_getElem hlt)
  unfold State.flashUp at u1 ⊢
  rw [hf, hd, hseg, u1, u2]
  rfl

/-- A pleat whose flash and DRAM serve is staged. -/
theorem State.stages_stagePleat {d : List Nat} (h : s.stages k p d t)
    (hup : ∀ x, p.pleats[i]? = some x → s.flashUp x.seg = true ∧ s.dram.get false x.seg = true) : s.stages k p (i :: d) (t.stagePleat k i) := by
  have hserve := fun {q y} => State.stages_serve (q := q) (y := y) h (hup := hup)
  obtain ⟨⟨q, hq, h1, h2, h3⟩, ho, hf, hd⟩ := h
  unfold State.stagePleat
  simp only [hq]
  cases hx : q.pleats[i]? with
  | none =>
    have hn : ∀ j x, p.pleats[j]? = some x → j ≠ i := fun j x hj he => by
      obtain ⟨y, hy, -⟩ := h3 j x hj
      rw [he, hx] at hy
      cases hy
    refine ⟨⟨q, hq, h1, h2, fun j x hj => ?_⟩, ho, hf, hd⟩
    obtain ⟨y, hy, hin, hout⟩ := h3 j x hj
    exact ⟨y, hy, fun hm => hin ((List.mem_cons.1 hm).resolve_left (hn j x hj)), fun hm => hout fun hd => hm (List.mem_cons.2 (.inr hd))⟩
  | some y =>
    dsimp only
    rw [if_pos (hserve hq hx)]
    have hstep : ∀ x : State, Step 72066390130950144 x (x.nvmeSend y.seg 2 y.lba y.lbas y.tier1 (.pleat k i)) := fun x => State.nvmeSend_step (Step.refl _ x) (by decide)
    refine ⟨⟨_, ?_, Plan.stagedAs_cons (n := t.nvmeParts y.seg 2 y.lbas) ⟨h1, h2, h3⟩⟩, fun j hj => ?_, fun g => ?_, ?_⟩
    · rw [(hstep _).plans (by decide)]
      exact State.plans_planMap_same hq
    · rw [(hstep _).plans (by decide)]
      exact (State.plans_planMap_other hj).trans (ho j hj)
    · refine (State.seg_flash_nvmeSend ..).trans (Eq.trans ?_ (hf g))
      exact State.seg_flash_pleatDrop ..
    · rw [(hstep _).dram (by decide)]
      exact hd

/-- A loop that marks the members of a list. -/
theorem each_marks (P : List Nat → State → Prop) (f : State → Nat → State) (l : List Nat) {d : List Nat} (h : P d t)
    (hf : ∀ u e i, i ∈ l → P e u → P (i :: e) (f u i)) : P (l.reverse ++ d) (each l f t) := by
  induction l generalizing t d with
  | nil => exact h
  | cons a r ih =>
    have := ih (hf t d a List.mem_cons_self h) fun u e i hi => hf u e i (List.mem_cons_of_mem _ hi)
    rw [List.reverse_cons, List.append_assoc]
    exact this

end

end Sys2Proof.Machine
end

section
/-! O29: plans loaded, unloaded, activated, deactivated and restaged (R160, R161, R171, R173, R203). -/

namespace Sys2Proof.Machine

section

variable {s : State} {list idx : Nat} {l : ListRun} {e : EntryRun}

/-! ### Conditions (R22) -/

theorem Status.worse_badCommand (a : Status) : a.worse .badCommand = .badCommand := by
  cases a <;> rfl

theorem Status.badCommand_worse (a : Status) : Status.badCommand.worse a = .badCommand := by
  cases a <;> rfl

/-- BAD_COMMAND comes before every other condition. -/
theorem worst_badCommand {c : List Status} (h : .badCommand ∈ c) : worst c = .badCommand := by
  have hfold : ∀ (r : List Status) (a : Status), a = .badCommand ∨ .badCommand ∈ r → r.foldl Status.worse a = .badCommand := by
    intro r
    induction r with
    | nil => exact fun a ha => ha.resolve_right List.not_mem_nil
    | cons b r ih =>
      intro a ha
      refine ih _ ?_
      rcases ha with ha | ha
      · exact .inl (ha ▸ Status.badCommand_worse b)
      · rcases List.mem_cons.1 ha with hb | hr
        · exact .inl (hb ▸ Status.worse_badCommand a)
        · exact .inr hr
  exact hfold c .ok (.inr h)

theorem mem_cond {b : Bool} (h : b = true) (st : Status) : st ∈ cond b st := by
  rw [h]
  exact List.mem_singleton.2 rfl

theorem State.planConds_nil {p : Plan} {ok : Plan → Bool} (hz : e.restZero [(4, 1)] = true) (hp : s.plans.find (e.field 4 1) = some p)
    (hj : p.job = l.job) (hok : ok p = true) : s.planConds l e ok = [] := by
  unfold State.planConds
  simp only [hz, hp, hj, hok]
  simp [cond]

/-- A refused entry stops its list. -/
theorem State.entryDoneAt_stopped (h : ∀ x, s.lists.find list = some x → x.stopped = true) (at_ i : Nat) (st : Status) (det result slot : Nat) :
    ∀ x, (s.entryDoneAt at_ list i st det result slot).lists.find list = some x → x.stopped = true := by
  unfold State.entryDoneAt
  cases hl : s.lists.find list with
  | none => exact h
  | some l0 =>
    cases he : s.entryOf list i with
    | none => exact h
    | some e0 =>
      intro x hx
      dsimp only at hx
      have h0 := h l0 hl
      rcases State.listCheck_lists _ list at_ with hc | hc
      · rw [hc] at hx
        split at hx
        · rw [State.listPut_lists, Tab.find_set_same, Option.some.injEq] at hx
          rw [← hx]
          exact h0
        · simp only [State.dmaRelease, Tab.find_set_same, Option.some.injEq] at hx
          rw [← hx]
          exact h0
      · rw [hc] at hx
        cases hx

theorem State.entryRefuse_stopped (s : State) (list i : Nat) (st : Status) (det : Nat) :
    ∀ x, (s.entryRefuse list i st det).lists.find list = some x → x.stopped = true := by
  unfold State.entryRefuse
  cases hl : s.lists.find list with
  | none =>
    intro x hx
    rw [hl] at hx
    cases hx
  | some l0 =>
    have h0 : ∀ x, ({ s with lists := s.lists.set list { l0 with stopped := true } } : State).lists.find list = some x → x.stopped = true := fun x hx => by
      rw [Tab.find_set_same, Option.some.injEq] at hx
      rw [← hx]
    dsimp only
    unfold State.entryEnd
    split
    · exact h0
    · exact State.entryDoneAt_stopped h0 _ _ _ _ _ _

/-! ### PLANLOAD (R160) -/

theorem Wafer.target_tier1 {w : Wafer} {a : Nat} (h : a < tier1Size) : w.target a = .tier1 a := if_pos h

/-- Reads of sound tier 1 report granules never written, and nothing else. -/
theorem State.tierReads_sound (rs : List (Nat × Nat)) (h : s.tier1Bad = .empty) : Step 17593192677376 s (each rs (fun x r => x.tierRead r.1 r.2) s) := by
  induction rs generalizing s with
  | nil => exact Step.refl _ s
  | cons r rs ih =>
    have h1 : Step 17593192677376 s (s.tierRead r.1 r.2) := State.tierRead_sound h _ _ (by decide)
    exact h1.trans (ih ((h1.tier1Bad (by decide)).trans h))

/-- The statuses that count against a PLANLOAD where tier 1 is sound. -/
def State.planLoadConds (s : State) (l : ListRun) (e : EntryRun) : List Status :=
  s.jobConds l.job ++ cond (!e.restZero [(4, 1), (8, 8)] || (s.plans.find (e.field 4 1)).isSome) .badCommand ++ s.tierConds (e.field 8 8) 64 l.job ++
    if (s.planReads (e.field 8 8) l.job).isEmpty then [] else s.planImageConds (e.field 8 8) l.job

theorem exec_planload_sound (h : s.handed list idx 1 1 = some (l, e)) (hb : s.tier1Bad = .empty) : exec (.planload list idx) s = .next
    (let b := each (s.planReads (e.field 8 8) l.job) (fun x r => x.tierRead r.1 r.2) s
     if worst (s.planLoadConds l e) ≠ .ok then b.entryRefuse list idx (worst (s.planLoadConds l e)) 0
     else ({ b with plans := b.plans.set (e.field 4 1) (s.planAt (e.field 8 8) l.job).plan }.entryAccept list idx).planEntryDone (list, idx) l.job
       ((s.planReads (e.field 8 8) l.job).flatMap fun (r : Nat × Nat) => segsIn r.1 r.2) .ok 0) := by
  have hbad : ((s.planReads (e.field 8 8) l.job).find? fun r => s.tierBad r.1 r.2) = none :=
    List.find?_eq_none.2 fun r _ => by rw [State.tierBad_sound hb]; decide
  show execPlanload list idx s = _
  unfold execPlanload
  simp only [h, hbad]
  rw [show (cond (Option.isSome none) (s.jobOf l.job).lossStatus : List Status) = [] from rfl, List.append_nil]
  exact (apply_ite Host.Outcome.next _ _ _).symm

/-- What a plan's header and tables must be for their reading. -/
theorem State.planReads_whole {a j : Nat} (hb : s.tier1Bad = .empty) (ha : a + 64 ≤ tier1Size ∧ (s.jobOf j).covers a 64 = true)
    (ht : ∀ r ∈ (s.planAt a j).tables, r.1 + r.2 ≤ tier1Size ∧ (s.jobOf j).covers r.1 r.2 = true) :
    s.planReads a j = (a, 64) :: (s.planAt a j).tables := by
  have hok : (decide (a + 64 ≤ tier1Size) && (s.jobOf j).covers a 64) = true := by
    rw [ha.2, decide_eq_true ha.1]
    rfl
  unfold State.planReads
  simp only [hok, State.tierBad_sound hb]
  refine (if_neg (by decide)).trans (if_pos ⟨trivial, List.all_eq_true.2 fun r hr => ?_⟩)
  obtain ⟨h1, h2⟩ := ht r hr
  rw [h2, decide_eq_true h1]
  rfl

theorem State.planReads_some {a j : Nat} (ha : a + 64 ≤ tier1Size ∧ (s.jobOf j).covers a 64 = true) : (s.planReads a j).isEmpty = false := by
  have hok : (decide (a + 64 ≤ tier1Size) && (s.jobOf j).covers a 64) = true := by
    rw [ha.2, decide_eq_true ha.1]
    rfl
  unfold State.planReads
  simp only [hok]
  rw [if_neg (by decide)]
  split <;> rfl

/-- A list of ranges none of which is refused. -/
theorem any_false_of {rs : List (Nat × Nat)} {f : Nat × Nat → Bool} (h : ∀ r ∈ rs, f r = false) : rs.any f = false :=
  List.any_eq_false.2 fun r hr => by rw [h r hr]; decide

theorem State.planImageConds_nil {a j : Nat} (hb : s.tier1Bad = .empty) (hh : (s.planAt a j).headerOk = true) (hr : (s.planAt a j).recordsOk = true)
    (hp : s.planOk (s.planAt a j).plan = true) (ho : s.planOutside (s.planAt a j).plan j = false)
    (hin : ∀ r ∈ (s.planAt a j).tables ++ (s.planAt a j).plan.pleats.map (fun x => (x.tier1, x.lbas * 4096)),
      r.1 + r.2 ≤ tier1Size ∧ (s.jobOf j).covers r.1 r.2 = true) : s.planImageConds a j = [] := by
  have hin1 := fun r hr => hin r (List.mem_append_left _ hr)
  have hin2 := fun r hr => hin r (List.mem_append_right _ hr)
  have out : ∀ rs : List (Nat × Nat), (∀ r ∈ rs, r.1 + r.2 ≤ tier1Size ∧ (s.jobOf j).covers r.1 r.2 = true) →
      (rs.any fun r => decide (tier1Size < r.1 + r.2)) = false ∧ (rs.any fun r => !(s.jobOf j).covers r.1 r.2) = false := fun rs h =>
    ⟨any_false_of fun r hr => decide_eq_false (Nat.not_lt.2 (h r hr).1), any_false_of fun r hr => by rw [(h r hr).2]; rfl⟩
  unfold State.planImageConds
  simp only [State.tierBad_sound hb, out _ hin1, out _ hin2, hh, hr, hp, ho, any_false_of fun _ _ => rfl]
  rfl

theorem State.planImageConds_bad {a j : Nat} (hb : s.tier1Bad = .empty)
    (h : (s.planAt a j).headerOk = false ∨ (s.planAt a j).recordsOk = false ∨ s.planOk (s.planAt a j).plan = false) :
    .badCommand ∈ s.planImageConds a j := by
  unfold State.planImageConds
  simp only [State.tierBad_sound hb, any_false_of fun _ _ => rfl]
  rw [if_neg (by decide), if_neg (by decide)]
  rcases h with h | h
  · exact List.mem_append_left _ (List.mem_append_left _ (mem_cond (by rw [h]; rfl) _))
  · refine List.mem_append_right _ (List.mem_append_left _ (mem_cond ?_ _))
    rcases h with h | h <;> rw [h] <;> simp

/-! ### ACTIVATE and DEACTIVATE (R161, R203) -/

/-- A plan as an activation begins with it. -/
def Plan.begins (p : Plan) (by_ : Nat × Nat) : Plan := { p with
  st := .staging, passes := .empty, started := 0, staged := .empty, activator := some by_, deactivator := none, restagers := []
  pleats := p.pleats.map fun x => { x with st := if p.streamed then .resident else .unstaged, cmds := 0, attempts := 0 } }

theorem State.planStart_eq (s : State) (k : Nat) (p : Plan) (by_ : Nat × Nat) : s.planStart k p by_ =
    (if p.streamed then { s with plans := s.plans.set k (p.begins by_) }
      else each (List.range p.pleats.length) (fun x i => x.stagePleat k i) { s with plans := s.plans.set k (p.begins by_) }).planCheck k := rfl

/-- The conditions on an ACTIVATE besides its job's, and its effect. -/
def State.activateConds (s : State) (l : ListRun) (e : EntryRun) : List Status :=
  s.planConds l e (fun p => p.st == .loaded) ++ match s.plans.find (e.field 4 1) with
    | none => []
    | some p => cond (s.planOver p) .overload

def activateEff (list idx : Nat) (e : EntryRun) (x : State) : State :=
  match x.plans.find (e.field 4 1) with
  | none => x
  | some p => (x.planStart (e.field 4 1) p (list, idx)).rebudget

theorem exec_activate_eq (s : State) (list idx : Nat) : exec (.activate list idx) s =
    s.accept list idx 1 2 s.activateConds fun _ e x => activateEff list idx e x := rfl

theorem State.activateConds_loaded {p : Plan} (hz : e.restZero [(4, 1)] = true) (hp : s.plans.find (e.field 4 1) = some p) (hj : p.job = l.job)
    (hst : p.st = .loaded) : s.activateConds l e = cond (s.planOver p) .overload := by
  unfold State.activateConds
  rw [State.planConds_nil hz hp hj (by rw [hst]; rfl)]
  simp only [hp, List.nil_append]

/-- An activation whose conditions hold: what it begins with. -/
theorem exec_activate_begun {p : Plan} (h : s.begun list idx 1 2 l e) (hz : e.restZero [(4, 1)] = true) (hp : s.plans.find (e.field 4 1) = some p)
    (hj : p.job = l.job) (hst : p.st = .loaded) (ho : s.planOver p = false) : ∃ b, exec (.activate list idx) s = .next
      ((if p.streamed then b else each (List.range p.pleats.length) (fun x i => x.stagePleat (e.field 4 1) i) b).planCheck (e.field 4 1)).rebudget ∧
      Step 4398046513152 s b ∧ b.plans = s.plans.set (e.field 4 1) (p.begins (list, idx)) ∧ b.entryOf list idx = some e := by
  obtain ⟨a, ha⟩ : ∃ a, a = s.entryAccept list idx := ⟨_, rfl⟩
  have hacc : Step 2048 s a := ha ▸ State.entryAccept_step (Step.refl _ s) (by decide)
  have hae : a.entryOf list idx = some e := ha ▸ State.begun_accepted h
  refine ⟨{ a with plans := a.plans.set (e.field 4 1) (p.begins (list, idx)) }, ?_, Step.put (F := 4398046511104) (hacc.mono (by decide)) (by decide) rfl
    fun v => ⟨v.1, v.2, v.3, v.4, v.5, v.6, v.7⟩, congrArg (Tab.set · _ _) (hacc.plans (by decide)), (State.entryOf_congr rfl ..).trans hae⟩
  refine (exec_activate_eq ..).trans ((State.accept_begun h ?_).trans ?_)
  · rw [State.activateConds_loaded hz hp hj hst, ho]
    rfl
  · rw [← ha]
    unfold activateEff
    simp only [hacc.plans (by decide), hp, State.planStart_eq]

theorem completes_activate_over {p : Plan} (h : s.begun list idx 1 2 l e) (hz : e.restZero [(4, 1)] = true) (hp : s.plans.find (e.field 4 1) = some p)
    (hj : p.job = l.job) (hst : p.st = .loaded) (ho : s.planOver p = true) : completes (.activate list idx) s entryFields fun t =>
      t.ended list idx .overload ∧ ∀ x, t.lists.find list = some x → x.stopped = true := by
  have hw : worst (s.jobConds l.job ++ s.activateConds l e) = .overload := by
    rw [State.jobConds_open h.2, State.activateConds_loaded hz hp hj hst, ho]
    rfl
  have hx := (exec_activate_eq s list idx).trans (State.accept_refused h.1 (by rw [hw]; decide))
  rw [hw] at hx
  exact completes_step hx (State.entryRefuse_step (Step.refl _ s) (by decide))
    ⟨State.ended_entryRefuse (State.begun_entryOf h) .., State.entryRefuse_stopped s list idx _ _⟩

/-- A STREAMED plan is ACTIVE at once. -/
theorem completes_activate_streamed {p : Plan} (h : s.begun list idx 1 2 l e) (hz : e.restZero [(4, 1)] = true) (hp : s.plans.find (e.field 4 1) = some p)
    (hj : p.job = l.job) (hst : p.st = .loaded) (ho : s.planOver p = false) (hf : s.frames = .empty) (hs : s.suspects = []) (hstream : p.streamed = true) :
    completes (.activate list idx) s (entryFields ++ ([.sessions, .frames, .skips, .setSkips, .tiles, .attach, .plans] : List Field)) fun t =>
      t.ended list idx .ok ∧ (∀ j, j ≠ e.field 4 1 → t.plans.find j = s.plans.find j) ∧ t.plans.find (e.field 4 1) = some { p with
        st := .active, firstB := s.beat.n + 1, started := 0, staged := .empty, passes := .empty, activator := none, deactivator := none
        restagers := [], pleats := p.pleats.map fun x => { x with st := .resident, cmds := 0, attempts := 0 } } := by
  obtain ⟨k, hk⟩ : ∃ k, k = e.field 4 1 := ⟨_, rfl⟩
  rw [← hk] at hp ⊢
  obtain ⟨b, hx, hstep, hplans, hbe⟩ := exec_activate_begun h hz (hk ▸ hp) hj hst ho
  rw [← hk] at hx hplans
  rw [if_pos hstream] at hx
  have hbeg : (p.begins (list, idx)).pleats = p.pleats.map fun x => { x with st := .resident, cmds := 0, attempts := 0 } := by
    unfold Plan.begins
    rw [hstream]
    rfl
  have hcheck := State.planCheck_one (s := b) (k := k) (e := (list, idx)) (p := p.begins (list, idx)) (by rw [hplans, Tab.find_set_same])
    (fun x hx => by
      rw [hbeg] at hx
      obtain ⟨y, -, rfl⟩ := List.mem_map.1 hx
      exact PleatSt.noConfusion) ((hstep.suspects (by decide)).trans hs) (.inl ⟨rfl, rfl⟩)
  have hout : (p.begins (list, idx)).outcome = .ok := by
    unfold Plan.outcome
    rw [hbeg]
    exact if_pos (by simp)
  rw [hout] at hcheck
  rw [hcheck, State.rebudget_idle (by rw [State.entryDone_frames]; exact (hstep.frames (by decide)).trans hf)] at hx
  obtain ⟨c, hc⟩ : ∃ c, c = b.planMap k fun q => q.checked b.beat.n := ⟨_, rfl⟩
  have hce : c.entryOf list idx = some e := by
    rw [← hbe, hc]
    exact State.entryOf_congr rfl ..
  have hcp : (∀ j, j ≠ k → c.plans.find j = s.plans.find j) ∧ c.plans.find k = some ((p.begins (list, idx)).checked s.beat.n) := by
    rw [hc, ← hstep.beat (by decide)]
    exact ⟨fun j hj => by rw [State.plans_planMap_other hj, hplans, Tab.find_set_other _ _ hj],
      State.plans_planMap_same (by rw [hplans, Tab.find_set_same])⟩
  have hcs : Step 4398046513152 s c := hc ▸ State.planMap_step hstep (by decide)
  rw [← hc] at hx
  refine completes_step hx (State.entryDone_step (hcs.mono (by decide)) (by decide)) ⟨State.ended_entryDone hce .., fun j hj => ?_, ?_⟩
  · rw [State.entryDone_plans]
    exact hcp.1 j hj
  · rw [State.entryDone_plans, hcp.2, ← hbeg]
    rfl

/-- A PINNED plan is STAGING, every pleat with its flash and DRAM in service. -/
theorem completes_activate_pinned {p : Plan} (h : s.begun list idx 1 2 l e) (hz : e.restZero [(4, 1)] = true) (hp : s.plans.find (e.field 4 1) = some p)
    (hj : p.job = l.job) (hst : p.st = .loaded) (ho : s.planOver p = false) (hf : s.frames = .empty) (hstream : p.streamed = false)
    (hne : p.pleats ≠ []) (hup : ∀ x ∈ p.pleats, s.flashUp x.seg = true ∧ s.dram.get false x.seg = true) :
    completes (.activate list idx) s (entryFields ++ ([.sessions, .frames, .skips, .setSkips, .tiles, .attach, .plans, .segs] : List Field)) fun t =>
      (t.entryOf list idx).isSome = true ∧ (∀ j, j ≠ e.field 4 1 → t.plans.find j = s.plans.find j) ∧ ∃ q, t.plans.find (e.field 4 1) = some q ∧
        q.st = .staging ∧ q.activator = some (list, idx) ∧ q.pleats.length = p.pleats.length ∧ ∀ x ∈ q.pleats, x.st = .staging := by
  obtain ⟨k, hk⟩ : ∃ k, k = e.field 4 1 := ⟨_, rfl⟩
  rw [← hk] at hp ⊢
  obtain ⟨b, hx, hstep, hplans, hbe⟩ := exec_activate_begun h hz (hk ▸ hp) hj hst ho
  rw [← hk] at hx hplans
  rw [if_neg (by rw [hstream]; decide)] at hx
  obtain ⟨c, hc⟩ : ∃ c, c = each (List.range p.pleats.length) (fun x i => x.stagePleat k i) b := ⟨_, rfl⟩
  have hlen : (p.begins (list, idx)).pleats.length = p.pleats.length := List.length_map ..
  have hstages : b.stages k (p.begins (list, idx)) ((List.range p.pleats.length).reverse ++ []) c := by
    rw [hc]
    refine each_marks (b.stages _ _) _ _ (State.stages_nil (by rw [hplans, Tab.find_set_same])) fun u d i _ hu => State.stages_stagePleat hu fun x hx => ?_
    obtain ⟨y, hy, rfl⟩ : ∃ y, p.pleats[i]? = some y ∧ ({ y with st := if p.streamed then .resident else .unstaged, cmds := 0, attempts := 0 } : Pleat) = x := by
      have hm : (p.begins (list, idx)).pleats[i]? = p.pleats[i]?.map fun x => { x with st := if p.streamed then .resident else .unstaged, cmds := 0, attempts := 0 } :=
        List.getElem?_map ..
      rw [hm] at hx
      exact Option.map_eq_some_iff.1 hx
    obtain ⟨u1, u2⟩ := hup y (List.mem_of_getElem? hy)
    unfold State.flashUp at u1 ⊢
    rw [State.seg_congr (hstep.segs (by decide)), hstep.dram (by decide)]
    exact ⟨u1, u2⟩
  rw [← hc] at hx
  obtain ⟨⟨q, hq, h1, h2, h3⟩, hother, -, -⟩ := hstages
  have hall : ∀ x ∈ q.pleats, x.st = .staging := fun x hx => by
    obtain ⟨i, hi, hix⟩ := List.getElem_of_mem hx
    have hip : i < p.pleats.length := by omega
    obtain ⟨y, hy, hin, -⟩ := h3 i _ (List.getElem?_eq_getElem (by omega))
    have hyx : y = x := by
      rw [List.getElem?_eq_getElem hi, hix] at hy
      exact (Option.some.inj hy).symm
    rw [← hyx, hin (by simpa using hip)]
  have hcstep : Step 72070788181655552 b c := hc ▸ each_step (Step.refl _ b) fun u i hu => State.stagePleat_step hu (by decide)
  have hexq : ∃ x : Pleat, x ∈ q.pleats ∧ x.st = .staging := by
    cases hpl : q.pleats with
    | nil => exact absurd (List.length_eq_zero_iff.1 (by rw [← hlen, ← h2, hpl]; rfl)) hne
    | cons x r => exact ⟨x, List.mem_cons_self, hall x (by rw [hpl]; exact List.mem_cons_self)⟩
  rw [State.planCheck_waits hq hexq, State.rebudget_idle ((hcstep.frames (by decide)).trans ((hstep.frames (by decide)).trans hf))] at hx
  refine completes_step hx ((hstep.mono (by decide)).trans (hcstep.mono (by decide))) ⟨?_, fun j hj => ?_, q, hq, ?_, ?_, h2.trans hlen, hall⟩
  · rw [State.entryOf_congr (hcstep.lists (by decide)), hbe]
    rfl
  · rw [hother j hj, hplans, Tab.find_set_other _ _ hj]
  · rw [h1]
    rfl
  · rw [h1]
    rfl

/-! ### DEACTIVATE (R203) -/

theorem State.deactivated_now {k : Nat} {p : Plan} {d : Nat × Nat} (h : s.plans.find k = some p) (hd : p.deactivator = some d) (hr : p.running = false)
    (hs : s.suspects = []) (hf : s.frames = .empty) : s.deactivated k =
      (s.planMap k fun q => { q with st := .loaded, deactivator := none }).entryDone d.1 d.2 .ok 0 0 0xFFFF := by
  have hs' : (s.planMap k fun q => { q with st := .loaded, deactivator := none }).suspects = [] := hs
  unfold State.deactivated
  simp only [h, hd, hr]
  rw [if_neg (by decide), State.planEntryDone_sound hs' (.inl rfl), State.rebudget_idle (by rw [State.entryDone_frames]; exact hf)]

theorem State.deactivated_later {k : Nat} {p : Plan} (h : s.plans.find k = some p) (hr : p.running = true) : s.deactivated k = s := by
  unfold State.deactivated
  simp only [h, hr]
  split <;> rfl

theorem exec_deactivate_eq (s : State) (list idx : Nat) : exec (.deactivate list idx) s =
    s.accept list idx 1 3 (fun l e => s.planConds l e fun p => p.st == .active && p.deactivator.isNone)
      fun _ e x => (x.planMap (e.field 4 1) fun p => { p with deactivator := some (list, idx) }).deactivated (e.field 4 1) := rfl

/-- The plan is LOADED at once where no pass is in progress, and goes on until they have ended where one is. -/
theorem completes_deactivate {p : Plan} (h : s.begun list idx 1 3 l e) (hz : e.restZero [(4, 1)] = true) (hp : s.plans.find (e.field 4 1) = some p)
    (hj : p.job = l.job) (hst : p.st = .active) (hd : p.deactivator = none) (hf : s.frames = .empty) (hs : s.suspects = []) :
    (p.running = false → completes (.deactivate list idx) s (entryFields ++ ([.sessions, .frames, .skips, .setSkips, .tiles, .attach, .plans] : List Field))
      fun t => t.ended list idx .ok ∧ (∀ j, j ≠ e.field 4 1 → t.plans.find j = s.plans.find j) ∧
        t.plans.find (e.field 4 1) = some { p with st := .loaded }) ∧
    (p.running = true → completes (.deactivate list idx) s (entryFields ++ ([.plans] : List Field)) fun t => (t.entryOf list idx).isSome = true ∧
      (∀ j, j ≠ e.field 4 1 → t.plans.find j = s.plans.find j) ∧ t.plans.find (e.field 4 1) = some { p with deactivator := some (list, idx) }) := by
  have hx := (exec_deactivate_eq s list idx).trans (State.accept_begun h (State.planConds_nil hz hp hj (by rw [hst, hd]; rfl)))
  obtain ⟨k, hk⟩ : ∃ k, k = e.field 4 1 := ⟨_, rfl⟩
  rw [← hk] at hp hx ⊢
  obtain ⟨b, hb⟩ : ∃ b, b = (s.entryAccept list idx).planMap k fun p => { p with deactivator := some (list, idx) } := ⟨_, rfl⟩
  have hacc : Step 2048 s (s.entryAccept list idx) := State.entryAccept_step (Step.refl _ s) (by decide)
  have hplans := hacc.plans (by decide)
  have hstep : Step 4398046513152 s b := hb ▸ State.planMap_step (hacc.mono (by decide)) (by decide)
  have hbe : b.entryOf list idx = some e := by
    rw [← State.begun_accepted h, hb]
    exact State.entryOf_congr rfl ..
  have hbp : (∀ j, j ≠ k → b.plans.find j = s.plans.find j) ∧ b.plans.find k = some { p with deactivator := some (list, idx) } := by
    rw [hb]
    exact ⟨fun j hj => by rw [State.plans_planMap_other hj, hplans], State.plans_planMap_same (by rw [hplans, hp])⟩
  rw [← hb] at hx
  refine ⟨fun hr => ?_, fun hr => ?_⟩
  · rw [State.deactivated_now hbp.2 rfl hr ((hstep.suspects (by decide)).trans hs) ((hstep.frames (by decide)).trans hf)] at hx
    obtain ⟨c, hc⟩ : ∃ c, c = b.planMap k fun q => { q with st := .loaded, deactivator := none } := ⟨_, rfl⟩
    have hcs : Step 4398046513152 s c := hc ▸ State.planMap_step hstep (by decide)
    have hce : c.entryOf list idx = some e := by
      rw [← hbe, hc]
      exact State.entryOf_congr rfl ..
    rw [← hc] at hx
    refine completes_step hx (State.entryDone_step (hcs.mono (by decide)) (by decide)) ⟨State.ended_entryDone hce .., fun j hj => ?_, ?_⟩
    · rw [State.entryDone_plans, hc, State.plans_planMap_other hj]
      exact hbp.1 j hj
    · rw [State.entryDone_plans, hc, State.plans_planMap_same hbp.2, ← hd]
  · rw [State.deactivated_later hbp.2 hr] at hx
    exact completes_step hx (hstep.mono (by decide)) ⟨by rw [hbe]; rfl, hbp⟩

/-! ### RESTAGE (R171) -/

/-- A plan with an entry that waits for the staging of its FAILED pleats. -/
def Plan.restages (p : Plan) (by_ : Nat × Nat) : Plan := { p with
  restagers := p.restagers ++ [by_]
  pleats := p.pleats.map fun y => if y.st = .failed then { y with attempts := 0 } else y }

/-- The numbers of the FAILED pleats. -/
def Plan.failedPleats (p : Plan) : List Nat := (p.pleats.zipIdx.filter fun y => y.1.st == .failed).map Prod.snd

def restageEff (list idx : Nat) (e : EntryRun) (x : State) : State :=
  match x.plans.find (e.field 4 1) with
  | none => x
  | some p => (each p.failedPleats (fun z i => (z.bump64 0x2403 7).stagePleat (e.field 4 1) i)
      (x.planMap (e.field 4 1) fun q => q.restages (list, idx))).planCheck (e.field 4 1)

theorem exec_restage_eq (s : State) (list idx : Nat) : exec (.restage list idx) s =
    s.accept list idx 1 5 (fun l e => s.planConds l e fun _ => true) fun _ e x => restageEff list idx e x := rfl

theorem Plan.mem_failedPleats {p : Plan} {i : Nat} : i ∈ p.failedPleats ↔ ∃ x, p.pleats[i]? = some x ∧ x.st = .failed := by
  unfold Plan.failedPleats
  rw [List.mem_map]
  refine ⟨fun ⟨y, hy, hi⟩ => ?_, fun ⟨x, hx, hst⟩ => ⟨(x, i), ?_, rfl⟩⟩
  · obtain ⟨h1, h2⟩ := List.mem_filter.1 hy
    rw [List.mem_zipIdx_iff_getElem?, hi] at h1
    exact ⟨y.1, h1, by simpa using h2⟩
  · exact List.mem_filter.2 ⟨List.mem_zipIdx_iff_getElem?.2 hx, by rw [hst]; rfl⟩

/-- What a restaging begins with. -/
theorem exec_restage_begun {p : Plan} (h : s.begun list idx 1 5 l e) (hz : e.restZero [(4, 1)] = true) (hp : s.plans.find (e.field 4 1) = some p)
    (hj : p.job = l.job) : ∃ b, exec (.restage list idx) s = .next
      ((each p.failedPleats (fun z i => (z.bump64 0x2403 7).stagePleat (e.field 4 1) i) b).planCheck (e.field 4 1)) ∧
      Step 4398046513152 s b ∧ b.plans.find (e.field 4 1) = some (p.restages (list, idx)) ∧ b.entryOf list idx = some e := by
  have hx := (exec_restage_eq s list idx).trans (State.accept_begun h (State.planConds_nil hz hp hj rfl))
  have hacc : Step 2048 s (s.entryAccept list idx) := State.entryAccept_step (Step.refl _ s) (by decide)
  have hplans := hacc.plans (by decide)
  refine ⟨(s.entryAccept list idx).planMap (e.field 4 1) fun q => q.restages (list, idx), hx.trans ?_, State.planMap_step (hacc.mono (by decide)) (by decide),
    State.plans_planMap_same (by rw [hplans, hp]), (State.entryOf_congr rfl ..).trans (State.begun_accepted h)⟩
  unfold restageEff
  simp only [hplans, hp]

theorem completes_restage_none {p : Plan} (h : s.begun list idx 1 5 l e) (hz : e.restZero [(4, 1)] = true) (hp : s.plans.find (e.field 4 1) = some p)
    (hj : p.job = l.job) (hs : s.suspects = []) (hr : p.restagers = []) (ha : p.activator = none)
    (hn : ∀ x : Pleat, x ∈ p.pleats → x.st ≠ .failed ∧ x.st ≠ .staging) :
    completes (.restage list idx) s (entryFields ++ ([.plans, .segs] : List Field)) fun t => t.ended list idx p.outcome ∧
      ∃ q, t.plans.find (e.field 4 1) = some q ∧ q.pleats = p.pleats := by
  obtain ⟨b, hx, hstep, hbp, hbe⟩ := exec_restage_begun h hz hp hj
  have hpl : (p.restages (list, idx)).pleats = p.pleats := by
    unfold Plan.restages
    exact (List.map_congr_left fun y hy => if_neg (hn y hy).1).trans (List.map_id _)
  have hout : (p.restages (list, idx)).outcome = p.outcome := by
    unfold Plan.outcome
    rw [hpl]
  have hnone : p.failedPleats = [] := List.eq_nil_iff_forall_not_mem.2 fun i hi => by
    obtain ⟨x, hx, hst⟩ := Plan.mem_failedPleats.1 hi
    exact (hn x (List.mem_of_getElem? hx)).1 hst
  rw [hnone] at hx
  have hcheck := State.planCheck_one (e := (list, idx)) hbp (fun x hx => by
    rw [hpl] at hx
    exact (hn x hx).2) ((hstep.suspects (by decide)).trans hs) (.inr ⟨ha, by
      unfold Plan.restages
      rw [hr]
      rfl⟩)
  rw [hout] at hcheck
  obtain ⟨c, hc⟩ : ∃ c, c = b.planMap (e.field 4 1) fun q => q.checked b.beat.n := ⟨_, rfl⟩
  have hce : c.entryOf list idx = some e := by
    rw [← hbe, hc]
    exact State.entryOf_congr rfl ..
  have hcs : Step 4398046513152 s c := hc ▸ State.planMap_step hstep (by decide)
  rw [← hc] at hcheck
  refine completes_step (hx.trans (congrArg Host.Outcome.next hcheck)) (State.entryDone_step (hcs.mono (by decide)) (by decide))
    ⟨State.ended_entryDone hce .., (p.restages (list, idx)).checked b.beat.n, ?_, hpl⟩
  rw [State.entryDone_plans, hc]
  exact State.plans_planMap_same hbp

theorem completes_restage_some {p : Plan} (h : s.begun list idx 1 5 l e) (hz : e.restZero [(4, 1)] = true) (hp : s.plans.find (e.field 4 1) = some p)
    (hj : p.job = l.job) (hup : ∀ x ∈ p.pleats, s.flashUp x.seg = true ∧ s.dram.get false x.seg = true) (hex : ∃ x : Pleat, x ∈ p.pleats ∧ x.st = .failed) :
    completes (.restage list idx) s (entryFields ++ ([.plans, .segs] : List Field)) fun t => (t.entryOf list idx).isSome = true ∧
      ∃ q : Plan, t.plans.find (e.field 4 1) = some q ∧ ∀ (i : Nat) (x : Pleat), p.pleats[i]? = some x →
        ∃ y : Pleat, q.pleats[i]? = some y ∧ (x.st ≠ .failed → y = x) ∧ (x.st = .failed → y.st = .staging ∧ y.attempts = 0) := by
  obtain ⟨b, hx, hstep, hbp, hbe⟩ := exec_restage_begun h hz hp hj
  have hpl : ∀ i, (p.restages (list, idx)).pleats[i]? = p.pleats[i]?.map fun y : Pleat => if y.st = .failed then { y with attempts := 0 } else y :=
    fun i => List.getElem?_map ..
  obtain ⟨c, hc⟩ : ∃ c, c = each p.failedPleats (fun z i => (z.bump64 0x2403 7).stagePleat (e.field 4 1) i) b := ⟨_, rfl⟩
  have hstages : b.stages (e.field 4 1) (p.restages (list, idx)) (p.failedPleats.reverse ++ []) c := by
    rw [hc]
    refine each_marks (b.stages _ _) _ _ (State.stages_nil hbp) fun u d i _ hu => State.stages_stagePleat (State.stages_congr hu rfl rfl rfl) fun x hx => ?_
    rw [hpl] at hx
    obtain ⟨y, hy, rfl⟩ := Option.map_eq_some_iff.1 hx
    have hseg : (if y.st = .failed then { y with attempts := 0 } else y : Pleat).seg = y.seg := by
      split <;> rfl
    obtain ⟨u1, u2⟩ := hup y (List.mem_of_getElem? hy)
    unfold State.flashUp at u1 ⊢
    rw [State.seg_congr (hstep.segs (by decide)), hstep.dram (by decide), hseg]
    exact ⟨u1, u2⟩
  have hcs : Step 72070788181655552 b c := hc ▸ each_step (Step.refl _ b) fun u i hu => State.stagePleat_step (State.bump64_step hu (by decide)) (by decide)
  rw [← hc] at hx
  obtain ⟨⟨q, hq, h1, h2, h3⟩, -, -, -⟩ := hstages
  have hpleat : ∀ (i : Nat) (x : Pleat), p.pleats[i]? = some x →
      ∃ y : Pleat, q.pleats[i]? = some y ∧ (x.st ≠ .failed → y = x) ∧ (x.st = .failed → y.st = .staging ∧ y.attempts = 0) := fun i x hxi => by
    obtain ⟨y, hy, hin, hout⟩ := h3 i _ (by rw [hpl, hxi]; rfl)
    have hmem : i ∈ p.failedPleats.reverse ++ [] ↔ x.st = .failed := by
      rw [List.append_nil, List.mem_reverse, Plan.mem_failedPleats, hxi]
      exact ⟨fun ⟨z, hz, hst⟩ => Option.some.inj hz ▸ hst, fun hst => ⟨x, rfl, hst⟩⟩
    refine ⟨y, hy, fun hst => ?_, fun hst => ?_⟩
    · exact (hout fun hm => hst (hmem.1 hm)).trans (if_neg hst)
    · rw [hin (hmem.2 hst)]
      beta_reduce
      rw [if_pos hst]
      exact ⟨rfl, rfl⟩
  obtain ⟨x, hxm, hxst⟩ := hex
  obtain ⟨i, hi⟩ := List.getElem?_of_mem hxm
  obtain ⟨y, hy, -, hst⟩ := hpleat i x hi
  rw [State.planCheck_waits hq ⟨y, List.mem_of_getElem? hy, (hst hxst).1⟩] at hx
  refine completes_step hx ((hstep.mono (by decide)).trans (hcs.mono (by decide))) ⟨?_, q, hq, hpleat⟩
  rw [State.entryOf_congr (hcs.lists (by decide)), hbe]
  rfl

end

end Sys2Proof.Machine

namespace Sys2Proof.Proofs

open Sys2Proof.Machine

/-- Settles O29: each entry by what its plan's table holds when its conditions are none. -/
theorem planEntries : Obligations.PlanEntries := by
  unfold Obligations.PlanEntries
  refine ⟨⟨fun s list idx l e h hb => ?_, fun s list idx l e p h hz hp hj hst => ?_⟩, fun s list idx l e p hz hp hj hf hs => ?_⟩
  · intro i
    have hreads := State.tierReads_sound (s := s) (s.planReads (e.field 8 8) l.job) hb
    have hx := exec_planload_sound h.1 hb
    obtain ⟨b, hbdef⟩ : ∃ b, b = each (s.planReads (e.field 8 8) l.job) (fun x r => x.tierRead r.1 r.2) s := ⟨_, rfl⟩
    rw [← hbdef] at hreads hx
    have hbe : b.entryOf list idx = some e := (State.entryOf_congr (hreads.lists (by decide)) ..).trans (State.begun_entryOf h)
    refine ⟨fun hs hz hnew hh hrec hok hout hin => ?_, fun hbad => ?_⟩
    · have hin' : ∀ r ∈ i.tables ++ i.plan.pleats.map (fun x => (x.tier1, x.lbas * 4096)), r.1 + r.2 ≤ tier1Size ∧ (s.jobOf l.job).covers r.1 r.2 = true :=
        fun r hr => hin r (List.mem_cons_of_mem _ hr)
      obtain ⟨ha1, ha2⟩ := hin (e.field 8 8, 64) List.mem_cons_self
      have hconds : s.planLoadConds l e = [] := by
        unfold State.planLoadConds State.tierConds
        rw [State.jobConds_open h.2, Wafer.target_tier1 (by omega), State.planImageConds_nil hb hh hrec hok hout hin', hz, hnew]
        simp only [ha2, decide_eq_false (Nat.not_lt.2 ha1), ite_self]
        rfl
      rw [hconds] at hx
      obtain ⟨c, hc⟩ : ∃ c, c = ({ b with plans := b.plans.set (e.field 4 1) i.plan } : State).entryAccept list idx := ⟨_, rfl⟩
      have hset : Step (maskOf (entryFields ++ [.suspects, .plans])) s ({ b with plans := b.plans.set (e.field 4 1) i.plan } : State) :=
        Step.put (F := 4398046511104) (hreads.mono (by decide)) (by decide) rfl fun v => ⟨v.1, v.2, v.3, v.4, v.5, v.6, v.7⟩
      have hacc : Step 2048 ({ b with plans := b.plans.set (e.field 4 1) i.plan } : State) c := hc ▸ State.entryAccept_step (Step.refl _ _) (by decide)
      have hce : c.entryOf list idx = some e := by
        rw [hc, State.entryOf_entryAccept]
        exact (State.entryOf_congr rfl ..).trans hbe
      have hcsus : c.suspects = [] := (hacc.suspects (by decide)).trans ((hreads.suspects (by decide)).trans hs)
      have hdone := hx.trans (congrArg Host.Outcome.next ((if_neg (by decide)).trans ((congrArg (State.planEntryDone · _ _ _ _ _) hc.symm).trans
        (State.planEntryDone_sound hcsus (.inl rfl) ..))))
      refine completes_step hdone (State.entryDone_step (hset.trans (hacc.mono (by decide))) (by decide)) ⟨State.ended_entryDone hce .., ?_, rfl⟩
      rw [State.entryDone_plans, hacc.plans (by decide)]
      exact congrArg (Tab.set · _ _) (hreads.plans (by decide))
    · have hconds : worst (s.planLoadConds l e) = .badCommand := by
        refine worst_badCommand ?_
        unfold State.planLoadConds
        rcases hbad with hin | ⟨hwrong, hcov⟩
        · exact List.mem_append_left _ (List.mem_append_left _ (List.mem_append_right _ (mem_cond (by rw [hin]; simp) _)))
        · rw [State.planReads_some hcov]
          exact List.mem_append_right _ (State.planImageConds_bad hb hwrong)
      rw [hconds] at hx
      refine completes_step (hx.trans (congrArg Host.Outcome.next (if_pos (by decide)))) (State.entryRefuse_step (hreads.mono (by decide)) (by decide))
        ⟨State.ended_entryRefuse hbe .., ?_⟩
      rw [(State.entryRefuse_step (Step.refl 72075204416507008 b) (by decide)).plans (by decide), hreads.plans (by decide)]
  · have hx : exec (.unload list idx) s = s.accept list idx 1 4 (fun l e => s.planConds l e fun p => p.st == .loaded)
        fun _ e x => (x.planFree (e.field 4 1)).entryDone list idx .ok 0 0 0xFFFF := rfl
    refine completes_accept hx h (State.planConds_nil hz hp hj (by rw [hst]; rfl)) (exec_unload s) (by decide) fun L hL => ?_
    exact ⟨State.ended_entryDone (hL _ rfl) .., State.entryDone_plans ..⟩
  · intro k up
    refine ⟨fun h hst => ⟨fun ho => ?_, fun ho hstream => ?_, fun ho hstream hne hup => ?_⟩, fun h hst hd => ?_, fun h => ⟨fun hr ha hn => ?_, fun hup hex => ?_⟩⟩
    · exact completes_activate_over h hz hp hj hst ho
    · exact completes_activate_streamed h hz hp hj hst ho hf hs hstream
    · exact completes_activate_pinned h hz hp hj hst ho hf hstream hne hup
    · exact completes_deactivate h hz hp hj hst hd hf hs
    · exact completes_restage_none h hz hp hj hs hr ha hn
    · exact completes_restage_some h hz hp hj hup hex

end Sys2Proof.Proofs
end

section
/-! Stream plans while passes are in progress: what leaves a plan as it is but for its passes (R165 to R170). -/

namespace Sys2Proof.Machine

/-! ### Plans that change in their passes only -/

/-- How a pass may change: a relation that void landings keep. -/
structure Steady (R : Pass → Pass → Prop) : Prop where
  refl : ∀ z, R z z
  trans : ∀ x y z, R x y → R y z → R x z
  void : ∀ z i, z.state i = 2 → R z { z with pleats := z.pleats.set i 3 }

/-- Every plan stands as it was but for its passes, and those have changed by the relation. -/
def State.plansBy (R : Pass → Pass → Prop) (s t : State) : Prop := ∀ k p, s.plans.find k = some p → ∃ q, t.plans.find k = some q ∧
  q = { p with passes := q.passes } ∧ ∀ j z, p.passes.find j = some z → ∃ y, q.passes.find j = some y ∧ R z y

theorem steady_true : Steady fun _ _ => True := ⟨fun _ => trivial, fun _ _ _ _ _ => trivial, fun _ _ _ => trivial⟩

section

variable {R : Pass → Pass → Prop} {s t u : State}

theorem State.plansBy_ite {c : Prop} [Decidable c] (h : c → s.plansBy R t) (g : ¬ c → s.plansBy R u) : s.plansBy R (if c then t else u) := by
  split
  next hc => exact h hc
  next hc => exact g hc

variable (hR : Steady R)

include hR

theorem State.plansBy_refl (s : State) : s.plansBy R s := fun _ p h => ⟨p, h, rfl, fun _ z hz => ⟨z, hz, hR.refl z⟩⟩

theorem State.plansBy_trans (h : s.plansBy R t) (g : t.plansBy R u) : s.plansBy R u := fun k p hp => by
  obtain ⟨q, hq, hq', hz⟩ := h k p hp
  obtain ⟨r, hr, hr', hy⟩ := g k q hq
  refine ⟨r, hr, by rw [hr', hq'], fun j z hj => ?_⟩
  obtain ⟨y, hy1, hy2⟩ := hz j z hj
  obtain ⟨x, hx1, hx2⟩ := hy j y hy1
  exact ⟨x, hx1, hR.trans _ _ _ hy2 hx2⟩

theorem State.plansBy_same (h : t.plans = s.plans) : s.plansBy R t := fun k p hp => by
  rw [h]
  exact State.plansBy_refl hR s k p hp

theorem State.plansBy_each {α : Type} {f : State → α → State} (l : List α) (hf : ∀ u x, x ∈ l → State.plansBy R u (f u x)) : s.plansBy R (each l f s) := by
  induction l generalizing s with
  | nil => exact State.plansBy_refl hR s
  | cons a r ih => exact State.plansBy_trans hR (hf s a List.mem_cons_self) (ih fun u x hx => hf u x (List.mem_cons_of_mem _ hx))

/-- A pass of a plan is changed. -/
theorem State.plansBy_passMap (k j : Nat) (f : Pass → Pass) (hf : ∀ p z, s.plans.find k = some p → p.passes.find j = some z → R z (f z)) :
    s.plansBy R (s.planMap k fun p => p.passMap j f) := fun i p hp => by
  by_cases hi : i = k
  · subst hi
    refine ⟨p.passMap j f, State.plans_planMap_same hp, rfl, fun m z hz => ?_⟩
    refine ⟨if m = j then f z else z, ?_, ?_⟩
    · exact (Tab.find_mapVals ..).trans (by rw [hz]; rfl)
    · split
      next h => exact hf p z hp (h ▸ hz)
      next => exact hR.refl z
  · rw [State.plans_planMap_other hi]
    exact State.plansBy_refl hR s i p hp

variable (hlanes : ∀ z l, R z { z with lanes := l })

include hlanes in
theorem State.plansBy_laneLeave (f : Frame) (key : Nat) : s.plansBy R (s.laneLeave f key) := by
  unfold State.laneLeave
  split
  · exact State.plansBy_refl hR s
  next pl ps _ =>
    exact State.plansBy_passMap hR pl ps (fun q => { q with lanes := q.lanes.map fun l => if l.frame = key then { l with live := false } else l })
      fun _ z _ _ => hlanes z _

include hlanes in
theorem State.plansBy_frameDone (key : Nat) (st : Status) (det : Nat) : s.plansBy R (s.frameDone key st det) := by
  unfold State.frameDone
  split
  · exact State.plansBy_refl hR s
  next f _ =>
    refine State.plansBy_trans hR (State.plansBy_laneLeave hR hlanes f key) (State.plansBy_same hR ?_)
    dsimp only
    rw [(State.slotCheck_step (Step.refl 72075891611274376 _) (by decide)).plans (by decide), State.entryDone_plans]
    split
    · rfl
    · split <;> rfl

include hlanes in
theorem State.plansBy_lanesEnd (q : Pass) (x : Pleat) (st : Status) (det sub : Nat) : s.plansBy R (s.lanesEnd q x st det sub) :=
  State.plansBy_each hR _ fun u _ _ => State.plansBy_trans hR (State.plansBy_same hR (t := u.bump64 0x2403 sub) rfl) (State.plansBy_frameDone hR hlanes _ _ _)

/-- Void landings move a pleat from failed to void-landed, and nothing else of a plan. -/
theorem State.plansBy_voidRun (pl rx ry : Nat) : ∀ (n : Nat) (s : State), s.plansBy R (State.voidRun pl rx ry n s) := by
  intro n
  induction n with
  | zero => exact State.plansBy_refl hR
  | succ n ih =>
    intro s
    unfold State.voidRun
    split
    · exact State.plansBy_refl hR s
    next p hp =>
      split
      · exact State.plansBy_refl hR s
      next a _ =>
        refine State.plansBy_ite (fun _ => State.plansBy_refl hR s) fun hst => ?_
        have hset : s.plansBy R (s.setLanding pl a.pass a.idx 3) := State.plansBy_passMap hR pl a.pass _ fun p' z hp' hz => by
          refine hR.void z a.idx ?_
          rw [hp] at hp'
          have h2 := Decidable.not_not.1 (not_or.1 hst).1
          unfold Plan.stateOf at h2
          rw [Option.some.inj hp', hz] at h2
          exact h2
        split
        · exact State.plansBy_trans hR hset (ih _)
        · refine State.plansBy_ite (fun _ => State.plansBy_trans hR hset (ih _)) fun _ => State.plansBy_ite (fun _ => State.plansBy_refl hR s) fun _ => ?_
          exact State.plansBy_trans hR hset (State.plansBy_trans hR (State.plansBy_same hR ((State.draw_step (State.tailOn_step
            (Step.refl 144115325514809344 _) (by decide)) (by decide)).plans (by decide))) (ih _))

theorem State.plansBy_voids (pl rx ry : Nat) : s.plansBy R (s.voids pl rx ry) := by
  unfold State.voids
  split
  · exact State.plansBy_refl hR s
  · exact State.plansBy_voidRun hR _ _ _ _ _

theorem State.plansBy_tagFinal (pl j k rx ry : Nat) (b : Bool) : s.plansBy R (s.tagFinal pl j k rx ry b) :=
  State.plansBy_same hR ((State.tagFinal_step (Step.refl 137438953472 s) (by decide)).plans (by decide))

end

/-! ### The end of staging (R161) -/

section

variable {s t : State} {k i : Nat} {p : Plan} {x : Pleat}

/-- What the check of a plan makes of it. -/
theorem State.planCheck_plans (h : s.plans.find k = some p) : (s.planCheck k).plans.find k =
    some (if ∃ x : Pleat, x ∈ p.pleats ∧ x.st = .staging then p else p.checked s.beat.n) := by
  by_cases hx : ∃ x : Pleat, x ∈ p.pleats ∧ x.st = .staging
  · rw [State.planCheck_waits h hx, if_pos hx, h]
  · rw [State.planCheck_ready h fun x hm hst => hx ⟨x, hm, hst⟩, if_neg hx]
    have hplans : ∀ y e, (State.planEntryDone y e p.job p.segments p.outcome 0).plans = y.plans := fun y e =>
      (State.planEntryDone_step (Step.refl 72075204416507008 y) (by decide)).plans (by decide)
    rw [each_keeps State.plans _ hplans]
    split
    · rw [hplans]
      exact State.plans_planMap_same h
    · exact State.plans_planMap_same h

theorem State.entryOf_planEntryDone_none {a : Nat × Nat} (h : s.entryOf a.1 a.2 = none) (e : Nat × Nat) (j : Nat) (segs : List Nat) (st : Status)
    (det : Nat) : (s.planEntryDone e j segs st det).entryOf a.1 a.2 = none := by
  unfold State.planEntryDone
  refine State.entryOf_none_entryDoneAt ?_ ..
  rw [← h]
  exact State.entryOf_congr (by unfold State.faultEnd; split <;> rfl) ..

/-- The activation that waited is over when no pleat is being staged any more. -/
theorem State.planCheck_activated {a : Nat × Nat} (h : s.plans.find k = some p) (hn : ∀ x : Pleat, x ∈ p.pleats → x.st ≠ .staging)
    (ha : p.activator = some a) : (s.planCheck k).entryOf a.1 a.2 = none := by
  rw [State.planCheck_ready h hn, ha]
  have hloop : ∀ (l : List (Nat × Nat)) (y : State), y.entryOf a.1 a.2 = none →
      (each l (fun x e => x.planEntryDone e p.job p.segments p.outcome 0) y).entryOf a.1 a.2 = none := by
    intro l
    induction l with
    | nil => exact fun y hy => hy
    | cons e r ih => exact fun y hy => ih _ (State.entryOf_planEntryDone_none hy ..)
  refine hloop _ _ ?_
  unfold State.planEntryDone
  exact State.entryOf_entryDone ..

/-- The failure of a pleat before the plan is checked (R170). -/
def State.pleatFails (s : State) (k i det : Nat) (p : Plan) (x : Pleat) : State :=
  let a := ((s.pleatDrop k i).planMap k fun q => q.pleatMap i fun y =>
    { y with st := .failed, cmds := 0, attempts := if y.st = .staging then y.attempts + 1 else y.attempts }).bump64 0x2403 6
  let hit := p.passes.cells.filter fun c => c.2.needs x && c.2.state i == 0
  let b := each hit (fun y c => (y.setLanding k c.1 i 2).lanesEnd c.2 x .tierFailed det 5) a
  let c := b.voids k x.rx x.ry
  each hit (fun y c => y.tagFinal k c.1 x.step x.rx x.ry false) c

theorem State.pleatFail_eq (hp : s.plans.find k = some p) (hx : p.pleats[i]? = some x) (det : Nat) :
    s.pleatFail k i det false = (s.pleatFails k i det p x).planCheck k := by
  unfold State.pleatFail
  simp only [hp, hx, Bool.false_and]
  rfl

/-- The plan with a pleat failed in its staging, but for its passes. -/
theorem State.pleatFails_plan (hp : s.plans.find k = some p) (det : Nat) : ∃ q, (s.pleatFails k i det p x).plans.find k = some q ∧
    q = { p.pleatMap i (fun y => { y with st := .failed, cmds := 0, attempts := if y.st = .staging then y.attempts + 1 else y.attempts }) with
      passes := q.passes } := by
  unfold State.pleatFails
  dsimp only
  obtain ⟨a, ha⟩ : ∃ a, a = ((s.pleatDrop k i).planMap k fun q => q.pleatMap i fun y =>
    { y with st := .failed, cmds := 0, attempts := if y.st = .staging then y.attempts + 1 else y.attempts }).bump64 0x2403 6 := ⟨_, rfl⟩
  have hap : a.plans.find k = some (p.pleatMap i fun y =>
      { y with st := .failed, cmds := 0, attempts := if y.st = .staging then y.attempts + 1 else y.attempts }) := by
    rw [ha]
    exact State.plans_planMap_same hp
  rw [← ha]
  have hR := steady_true
  have hb : a.plansBy (fun _ _ => True) (each (p.passes.cells.filter fun c => c.2.needs x && c.2.state i == 0)
      (fun y c => (y.setLanding k c.1 i 2).lanesEnd c.2 x .tierFailed det 5) a) := State.plansBy_each hR _ fun u c _ =>
    State.plansBy_trans hR (State.plansBy_passMap hR k c.1 _ fun _ _ _ _ => trivial) (State.plansBy_lanesEnd hR (fun _ _ => trivial) _ _ _ _ _)
  have hd := State.plansBy_trans hR hb (State.plansBy_trans hR (State.plansBy_voids hR k x.rx x.ry)
    (State.plansBy_each hR (p.passes.cells.filter fun c => c.2.needs x && c.2.state i == 0)
      (f := fun y c => y.tagFinal k c.1 x.step x.rx x.ry false) fun u c _ => State.plansBy_tagFinal hR _ _ _ _ _ _))
  obtain ⟨q, hq, hq', -⟩ := hd k _ hap
  exact ⟨q, hq, hq'⟩

/-- Without a pass in progress a pleat's failure fires nothing more. -/
theorem State.pleatFails_det (he : p.passes = .empty) (det : Nat) : (s.pleatFails k i det p x).det = s.det := by
  unfold State.pleatFails
  rw [he]
  show (State.voids _ k x.rx x.ry).det = _
  rw [(State.voids_step (Step.refl 144119723561320448 _) (by decide)).det (by decide)]
  rfl

end

end Sys2Proof.Machine
end

section
/-! O30: pleats are staged and passes start (R158, R161 to R166). -/

namespace Sys2Proof.Machine

/-! ### Tables that rise -/

/-- In a table that rises each key stands once. -/
theorem Tab.find_of_mem {α : Type} {t : Tab α} (h : t.rises) {k : Nat} {v : α} (hm : (k, v) ∈ t.cells) : t.find k = some v := findCell_of_mem h hm

section

variable {s : State} {k : PlanId} {p : Plan}

/-! ### The end of a pleat's staging (R158) -/

/-- An entry's plan with nothing that waits fires nothing when it is checked. -/
theorem State.planCheck_det {n : Nat} (h : s.plans.find n = some p) (ha : p.activator = none) (hr : p.restagers = []) : (s.planCheck n).det = s.det := by
  by_cases hx : ∃ x : Pleat, x ∈ p.pleats ∧ x.st = .staging
  · rw [State.planCheck_waits h hx]
  · rw [State.planCheck_ready h fun x hm hst => hx ⟨x, hm, hst⟩, ha, hr]
    rfl

/-- What a staging's end says of the plan: pleat `i` is `y`, the others as they were, and with none left to stage the plan is ACTIVE. -/
def State.pleatEnds (s : State) (k : Nat) (p : Plan) (i : Nat) (y : Pleat) (t : State) : Prop :=
  ∃ q, t.plans.find k = some q ∧ (∀ j, j ≠ i → q.pleats[j]? = p.pleats[j]?) ∧ q.pleats[i]? = some y ∧
    (p.st = .staging → (∀ (j : Nat) (y : Pleat), j ≠ i → p.pleats[j]? = some y → y.st ≠ .staging) →
      q.st = .active ∧ q.firstB = s.beat.n + 1 ∧ ∀ a, p.activator = some a → t.entryOf a.1 a.2 = none)

theorem State.pleatEnds_planCheck {u : State} {n i : Nat} {x : Pleat} {q : Plan} {f : Pleat → Pleat} (hx : p.pleats[i]? = some x)
    (hq : u.plans.find n = some q) (hqp : q = { p.pleatMap i f with passes := q.passes }) (hf : (f x).st ≠ .staging) (hn : u.beat.n = s.beat.n) :
    s.pleatEnds n p i (f x) (u.planCheck n) := by
  have hpl : q.pleats = (p.pleatMap i f).pleats := by rw [hqp]
  have hget : ∀ j, q.pleats[j]? = p.pleats[j]?.map fun x => if j = i then f x else x := fun j => by rw [hpl, Plan.pleatMap_get]
  have hst : q.st = p.st ∧ q.activator = p.activator := by
    rw [hqp]
    exact ⟨rfl, rfl⟩
  have hself : q.pleats[i]? = some (f x) := by
    rw [hget, hx]
    exact congrArg some (if_pos rfl)
  have hother : ∀ j, j ≠ i → q.pleats[j]? = p.pleats[j]? := fun j hj => by
    rw [hget]
    simp only [if_neg hj]
    exact Option.map_id_fun' ▸ rfl
  have hkeep : ∀ r : Plan, r.pleats = q.pleats → (∀ j, j ≠ i → r.pleats[j]? = p.pleats[j]?) ∧ r.pleats[i]? = some (f x) := fun r hr => by
    rw [hr]
    exact ⟨hother, hself⟩
  refine ⟨_, State.planCheck_plans hq, (hkeep _ ?_).1, (hkeep _ ?_).2, fun hs hothers => ?_⟩
  · split <;> rfl
  · split <;> rfl
  · have hnone : ∀ y : Pleat, y ∈ q.pleats → y.st ≠ .staging := fun y hy => by
      obtain ⟨j, hj⟩ := List.getElem?_of_mem hy
      by_cases hji : j = i
      · rw [hji, hself] at hj
        exact Option.some.inj hj ▸ hf
      · exact hothers j y hji ((hother j hji).symm.trans hj)
    rw [if_neg fun ⟨y, hy, hyst⟩ => hnone y hy hyst]
    refine ⟨if_pos (hst.1.trans hs), (if_pos (hst.1.trans hs)).trans (by rw [hn]), fun a ha => ?_⟩
    exact State.planCheck_activated hq hnone (hst.2.trans ha)

theorem State.pleatFails_beat (u : State) (n i det : Nat) (p : Plan) (x : Pleat) : (u.pleatFails n i det p x).beat = u.beat := by
  have h : Step 216204273826679944 u (u.pleatFails n i det p x) := by
    unfold State.pleatFails
    refine each_step (State.voids_step (each_step (State.bump64_step (State.planMap_step (State.pleatDrop_step (Step.refl _ u) (by decide)) (by decide)) (by decide))
      fun y c hy => ?_) (by decide)) fun y c hy => ?_
    · exact State.lanesEnd_step (State.setLanding_step hy (by decide)) (by decide)
    · exact State.tagFinal_step hy (by decide)
  exact h.beat (by decide)

theorem completes_pleatStaged {i : Nat} {x : Pleat} (hp : s.plans.find k.val = some p) (hx : p.pleats[i]? = some x) (hst : x.st = .staging)
    (hc : x.cmds = 0) :
    completes (.pleatStaged k i) s (entryFields ++ ([.sessions, .frames, .tiles, .attach, .plans, .segs, .fresh] : List Field)) fun t =>
      (s.pleatOk x = true → s.pleatEnds k.val p i { x with st := .resident, attempts := 0 } t) ∧
      (s.pleatOk x = false → s.pleatEnds k.val p i { x with st := .failed, cmds := 0, attempts := x.attempts + 1 } t ∧
        (p.passes = .empty → p.activator = none → p.restagers = [] → s.firedOnce 0x0604 t)) := by
  have hexec : exec (.pleatStaged k i) s = .next (if s.pleatOk x then
      (s.planMap k.val fun q => q.pleatMap i fun y => { y with st := .resident, attempts := 0 }).planCheck k.val
      else ((s.segCount x.seg 9 1).fire 0x0604 x.seg 0).pleatFail k.val i 0x0604 false) := by
    show execPleatStaged k i s = _
    unfold execPleatStaged
    simp only [hp, hx]
    exact whenDue_true (by rw [hst, hc]; rfl) _ _
  refine completes_of hexec (exec_pleatStaged s) (by decide) ⟨fun hok => ?_, fun hok => ?_⟩
  · rw [if_pos hok]
    exact State.pleatEnds_planCheck (f := fun y => { y with st := .resident, attempts := 0 }) hx (State.plans_planMap_same hp) rfl (fun h => PleatSt.noConfusion h) rfl
  · rw [if_neg (by rw [hok]; decide)]
    obtain ⟨u, hu⟩ : ∃ u, u = (s.segCount x.seg 9 1).fire 0x0604 x.seg 0 := ⟨_, rfl⟩
    have hcount : Step 17592186044416 s (s.segCount x.seg 9 1) := State.segCount_step (Step.refl _ s) (by decide)
    have hup : u.plans.find k.val = some p := by
      rw [hu, State.fire_plans, hcount.plans (by decide), hp]
    have hfired : s.firedOnce 0x0604 u := hu ▸ State.firedOnce_fire (hcount.det (by decide)) (State.stamp_congr (hcount.beat (by decide)) (hcount.now (by decide))) _ _ _
    have hub : u.beat = s.beat := by
      rw [hu, State.fire_beat, hcount.beat (by decide)]
    rw [← hu, State.pleatFail_eq hup hx]
    obtain ⟨q, hq, hqp⟩ := State.pleatFails_plan (i := i) (x := x) hup 0x0604
    have hend := State.pleatEnds_planCheck (s := s) hx hq hqp (fun h => PleatSt.noConfusion h) (congrArg Beat.n ((State.pleatFails_beat ..).trans hub))
    rw [if_pos hst] at hend
    refine ⟨hend, fun he ha hr => State.firedOnce_congr hfired ?_⟩
    rw [State.planCheck_det hq (by rw [hqp]; exact ha) (by rw [hqp]; exact hr), State.pleatFails_det he]

/-! ### A step of a STREAMED plan (R161) -/

theorem Plan.mem_pleatsOf {step i : Nat} (h : step < p.steps.length) : i ∈ (p.pleatsOf step).map Prod.fst ↔
    (∃ x, p.pleats[i]? = some x) ∧ (p.stepOf step).first ≤ i ∧ i < (p.stepOf step).first + (p.stepOf step).count := by
  have hstep : p.stepOf step = p.steps[step] := by
    unfold Plan.stepOf
    rw [List.getD_eq_getElem?_getD, List.getElem?_eq_getElem h]
    rfl
  unfold Plan.pleatsOf
  rw [List.getElem?_eq_getElem h, hstep]
  simp only [List.mem_map, List.mem_filter, Prod.exists, Bool.and_eq_true, decide_eq_true_eq]
  constructor
  · rintro ⟨a, b, ⟨⟨c, n, hm, he⟩, h1, h2⟩, rfl⟩
    obtain ⟨rfl, rfl⟩ := Prod.mk.inj he
    exact ⟨⟨c, List.mem_zipIdx_iff_getElem?.1 hm⟩, h1, h2⟩
  · rintro ⟨⟨x, hx⟩, h1, h2⟩
    exact ⟨i, x, ⟨⟨x, i, List.mem_zipIdx_iff_getElem?.2 hx, rfl⟩, h1, h2⟩, rfl⟩

/-- The staging of a pleat that can be staged counts nothing. -/
theorem State.stagePleat_serves {t : State} {n i : Nat} {d : List Nat} (h : s.stages n p d t)
    (hup : ∀ x, p.pleats[i]? = some x → s.flashUp x.seg = true ∧ s.dram.get false x.seg = true) : Step 72070788177461248 t (t.stagePleat n i) := by
  obtain ⟨⟨q, hq, -⟩, -⟩ := id h
  unfold State.stagePleat
  simp only [hq]
  cases hx : q.pleats[i]? with
  | none => exact Step.refl _ t
  | some y =>
    dsimp only
    rw [if_pos (State.stages_serve h hq hx hup)]
    exact State.nvmeSend_step (State.planMap_step (State.pleatDrop_step (Step.refl _ t) (by decide)) (by decide)) (by decide)

theorem completes_flashStageLine {step : Nat} (hp : s.plans.find k.val = some p) (ha : p.st = .active) (hstr : p.streamed = true)
    (hlt : step < p.steps.length) (hd : p.deactivator = none)
    (hdue : p.firstB + p.staged.get 0 step * p.q + (p.stepOf step).c ≤ s.beat.n + (p.stepOf step).d + p.flashLead)
    (hup : ∀ i x, p.pleats[i]? = some x → (p.stepOf step).first ≤ i → i < (p.stepOf step).first + (p.stepOf step).count →
      s.flashUp x.seg = true ∧ s.dram.get false x.seg = true) :
    completes (.flashStageLine k step) s [.plans, .segs, .out] fun t => ∃ q, t.plans.find k.val = some q ∧
      q.staged.get 0 step = p.staged.get 0 step + 1 ∧ (∀ m, m ≠ step → q.staged.get 0 m = p.staged.get 0 m) ∧ q.started = p.started ∧
      ∀ i x, p.pleats[i]? = some x → ∃ y, q.pleats[i]? = some y ∧
        ((p.stepOf step).first ≤ i ∧ i < (p.stepOf step).first + (p.stepOf step).count → y.st = .staging) ∧
        (¬ ((p.stepOf step).first ≤ i ∧ i < (p.stepOf step).first + (p.stepOf step).count) → y = x) := by
  obtain ⟨b, hb⟩ : ∃ b, b = s.planMap k.val fun q => { q with staged := q.staged.set step (p.staged.get 0 step + 1) } := ⟨_, rfl⟩
  obtain ⟨f, hfdef⟩ : ∃ f : State → Nat → State, f = fun y i => if (match p.pleats[i]? with
      | some z => y.flashUp z.seg && y.dram.get false z.seg
      | none => true) then y.stagePleat k.val i else y.pleatFail k.val i 0 false := ⟨_, rfl⟩
  have hx : exec (.flashStageLine k step) s = .next (each ((p.pleatsOf step).map Prod.fst) f b) := by
    rw [hb, hfdef]
    show execFlashStageLine k step s = _
    unfold execFlashStageLine
    simp only [hp]
    refine whenDue_true ?_ _ _
    rw [ha, hstr, hd, decide_eq_true hlt, decide_eq_true (show p.lineOf _ _ ≤ _ from hdue)]
    rfl
  obtain ⟨p', hp'⟩ : ∃ p', p' = { p with staged := p.staged.set step (p.staged.get 0 step + 1) } := ⟨_, rfl⟩
  have hpl : p'.pleats = p.pleats := by rw [hp']
  have hbp : b.plans.find k.val = some p' := by
    rw [hb, hp']
    exact State.plans_planMap_same hp
  have hstep : Step 4398046511104 s b := hb ▸ State.planMap_step (Step.refl _ s) (by decide)
  have hserve : ∀ i ∈ (p.pleatsOf step).map Prod.fst, ∀ x, p'.pleats[i]? = some x → b.flashUp x.seg = true ∧ b.dram.get false x.seg = true := fun i hi x hx => by
    obtain ⟨-, h1, h2⟩ := (Plan.mem_pleatsOf hlt).1 hi
    obtain ⟨u1, u2⟩ := hup i x (hpl ▸ hx) h1 h2
    unfold State.flashUp at u1 ⊢
    rw [State.seg_congr (hstep.segs (by decide)), hstep.dram (by decide)]
    exact ⟨u1, u2⟩
  have hturn : ∀ u e i, i ∈ (p.pleatsOf step).map Prod.fst → b.stages k.val p' e u → f u i = u.stagePleat k.val i := fun u e i hi hu => by
    obtain ⟨⟨x, hx⟩, -⟩ := (Plan.mem_pleatsOf hlt).1 hi
    obtain ⟨-, -, hflash, hdram⟩ := hu
    obtain ⟨u1, u2⟩ := hserve i hi x (hpl ▸ hx)
    unfold State.flashUp at u1
    rw [hfdef]
    simp only [hx]
    refine if_pos ?_
    unfold State.flashUp
    rw [hflash, hdram, u1, u2]
    rfl
  obtain ⟨⟨⟨q, hq, h1, -, h3⟩, -⟩, hcs⟩ := each_marks (fun e u => b.stages k.val p' e u ∧ Step 72070788177461248 b u) f
    ((p.pleatsOf step).map Prod.fst) (d := []) (t := b) ⟨State.stages_nil hbp, Step.refl _ b⟩ fun u e i hi ⟨hu, hk⟩ => by
      rw [hturn u e i hi hu]
      exact ⟨State.stages_stagePleat hu (hserve i hi), hk.trans (State.stagePleat_serves hu (hserve i hi))⟩
  rw [hp'] at h1
  refine completes_step hx ((hstep.mono (by decide)).trans (hcs.mono (by decide))) ⟨q, hq, ?_, fun m hm => ?_, ?_, fun i x hix => ?_⟩
  · rw [h1]
    exact Tab.get_set_same ..
  · rw [h1]
    exact Tab.get_set_other _ _ _ hm
  · rw [h1]
  · obtain ⟨y, hy, hin, hout⟩ := h3 i x (hpl ▸ hix)
    have hmem : i ∈ ((p.pleatsOf step).map Prod.fst).reverse ++ [] ↔
        ((p.stepOf step).first ≤ i ∧ i < (p.stepOf step).first + (p.stepOf step).count) := by
      rw [List.append_nil, List.mem_reverse, Plan.mem_pleatsOf hlt]
      exact ⟨fun h => h.2, fun h => ⟨⟨x, hix⟩, h⟩⟩
    refine ⟨y, hy, fun h => ?_, fun h => hout fun hm => h (hmem.1 hm)⟩
    rw [hin (hmem.2 h)]

/-! ### Pass starts (R162 to R164) -/

/-- Where no tile of the plan's region runs a task or is fenced, batch lines go nowhere. -/
theorem State.batch_idle {u : State} {n j step : Nat} {q : Plan} (hq : u.plans.find n = some q)
    (ht : ∀ i ∈ u.wafer.regionKeys q.region, u.fencedAt i = false ∧ (u.tileOf i).task = none) (is : List Nat) : u.batch n j step is = u := by
  have hfold : ∀ (z : Pass) (l : List Nat), (∀ i ∈ l, u.fencedAt i = false ∧ (u.tileOf i).task = none) →
      l.foldl (fun (a : State × Bool) t => ((a.1.batchTile q z j step t is).1, a.2 || (a.1.batchTile q z j step t is).2)) (u, false) = (u, false) := by
    intro z l
    induction l with
    | nil => exact fun _ => rfl
    | cons a r ih =>
      intro hl
      have hone : u.batchTile q z j step a is = (u, false) := by
        obtain ⟨h1, h2⟩ := hl a List.mem_cons_self
        unfold State.batchTile
        rw [if_neg (by rw [h1]; decide), if_pos (by rw [h2]; rfl)]
      rw [List.foldl_cons, hone]
      exact ih fun i hi => hl i (List.mem_cons_of_mem _ hi)
  unfold State.batch
  simp only [hq]
  split
  · rfl
  next z _ =>
    simp only [hfold z _ ht]
    exact if_neg (by decide)

theorem each_none {α : Type} {l : List α} (h : l = []) (f : State → α → State) (x : State) : each l f x = x := by
  rw [h]
  rfl

theorem takeCands_le (cap : Nat) (l : List PassCand) : (takeCands cap l).length ≤ cap := by
  induction l generalizing cap with
  | nil => exact Nat.zero_le _
  | cons c r ih =>
    unfold takeCands
    split
    next h =>
      have := ih (cap - c.keys.length)
      rw [List.length_append]
      omega
    next => exact ih cap

theorem mem_takeCands {cap i : Nat} {l : List PassCand} (h : i ∈ takeCands cap l) : ∃ c ∈ l, i ∈ c.keys := by
  induction l generalizing cap with
  | nil => exact absurd h List.not_mem_nil
  | cons c r ih =>
    unfold takeCands at h
    split at h
    · rcases List.mem_append.1 h with h | h
      · exact ⟨c, List.mem_cons_self, h⟩
      · obtain ⟨d, hd, hi⟩ := ih h
        exact ⟨d, List.mem_cons_of_mem _ hd, hi⟩
    · obtain ⟨d, hd, hi⟩ := ih h
      exact ⟨d, List.mem_cons_of_mem _ hd, hi⟩

/-- A frame of a candidate is eligible. -/
theorem State.mem_candidates {n b i : Nat} {c : PassCand} (h : c ∈ s.candidates n p b) (hi : i ∈ c.keys) :
    ∃ f, (i, f) ∈ s.frames.cells ∧ s.eligible n p b f = true := by
  unfold State.candidates at h
  rw [List.mem_mergeSort, List.mem_map] at h
  obtain ⟨d, -, rfl⟩ := h
  obtain ⟨f, hf, rfl⟩ := List.mem_map.1 hi
  rw [List.mem_mergeSort] at hf
  obtain ⟨h1, -⟩ := List.mem_filter.1 hf
  obtain ⟨h2, h3⟩ := List.mem_filter.1 h1
  exact ⟨f.2, h2, h3⟩

/-- The frames that a pass takes. -/
def State.passKeys (s : State) (n : Nat) (p : Plan) (b : Nat) : List Nat := takeCands p.capacity (s.candidates n p b)

theorem State.passKeys_eligible (hs : s.frames.rises) {n b i : Nat} (h : i ∈ s.passKeys n p b) :
    ∃ f, s.frames.find i = some f ∧ f.ready = true ∧ f.plan = some n ∧ f.pass = none ∧ (b + f.m) * 65536 ≤ f.deadline ∧
      (b + p.passLen) * 65536 ≤ f.deadline ∧ (s.sessionOf f.slot).st = .opened := by
  obtain ⟨c, hc, hi⟩ := mem_takeCands h
  obtain ⟨f, hf, he⟩ := State.mem_candidates hc hi
  unfold State.eligible at he
  simp only [Bool.and_eq_true, beq_iff_eq, decide_eq_true_eq, Option.isNone_iff_eq_none] at he
  obtain ⟨⟨⟨⟨⟨h1, h2⟩, h3⟩, h4⟩, h5⟩, h6⟩ := he
  exact ⟨f, Tab.find_of_mem hs hf, h2, h1, h3, h4, h5, h6⟩

/-- The pass that starts. -/
def State.passNew (s : State) (b : Nat) (keys : List Nat) : Pass :=
  let lanes := keys.filterMap fun f => (s.frames.find f).map fun x => (⟨f, x.slot, x.variant, true⟩ : Lane)
  { b := b, lanes := lanes, fetched := [], landings := [], variants := (lanes.map fun l => l.variant).dedup
    pleats := .empty, blocks := .empty, ended := false }

theorem State.passNew_lanes {b : Nat} {keys : List Nat} (h : ∀ i ∈ keys, ∃ f, s.frames.find i = some f) : (s.passNew b keys).lanes.map Lane.frame = keys := by
  unfold State.passNew
  dsimp only
  induction keys with
  | nil => rfl
  | cons a r ih =>
    obtain ⟨f, hf⟩ := h a List.mem_cons_self
    rw [List.filterMap_cons, hf]
    exact congrArg (List.cons a) (ih fun i hi => h i (List.mem_cons_of_mem _ hi))

/-- The state in which a pass has started, its batch lines not yet written. -/
def State.passBegun (s : State) (n : Nat) (q : Pass) (j : Nat) (keys : List Nat) : State :=
  ({ (s.planMap n fun x => { x with passes := x.passes.set j q, started := j + 1 }) with
    frames := s.frames.mapVals fun i f => if keys.contains i then { f with pass := some (n, j) } else f }).bump64 0x2403 1

theorem State.passBegun_plan {n j : Nat} {q : Pass} {keys : List Nat} (hp : s.plans.find n = some p) : (s.passBegun n q j keys).plans.find n =
    some { p with passes := p.passes.set j q, started := j + 1 } :=
  State.plans_planMap_same (f := fun x => { x with passes := x.passes.set j q, started := j + 1 }) hp

theorem exec_passStart_due (hp : s.plans.find k.val = some p) (ha : p.st = .active) (hd : p.deactivator = none) (hb : p.firstB + p.started * p.q ≤ s.beat.n)
    (ht : ∀ i ∈ s.wafer.regionKeys p.region, s.fencedAt i = false ∧ (s.tileOf i).task = none) (hf : ∀ x ∈ p.pleats, x.st ≠ .failed) :
    exec (.passStart k) s = .next (s.passBegun k.val (s.passNew (p.firstB + p.started * p.q) (s.passKeys k.val p (p.firstB + p.started * p.q))) p.started
      (s.passKeys k.val p (p.firstB + p.started * p.q))) := by
  obtain ⟨b, hbd⟩ : ∃ b, b = p.lineOf p.started 0 := ⟨_, rfl⟩
  have hbv : p.firstB + p.started * p.q = b := hbd.symm
  rw [hbv] at hb ⊢
  obtain ⟨a, hadef⟩ : ∃ a, a = s.passBegun k.val (s.passNew b (s.passKeys k.val p b)) p.started (s.passKeys k.val p b) := ⟨_, rfl⟩
  have hbatch : a.batch k.val p.started 0xFFFF [0, 1, 2, 3, 4] = a := by
    rw [hadef]
    exact State.batch_idle (State.passBegun_plan hp) ht _
  have hnone : (p.pleats.zipIdx.filter fun x => (s.passNew b (s.passKeys k.val p b)).needs x.1 && p.failedFor x.1 p.started) = [] := by
    refine List.filter_eq_nil_iff.2 fun x hx => ?_
    have hst := hf x.1 (List.mem_of_getElem? (List.mem_zipIdx_iff_getElem?.1 hx))
    unfold Plan.failedFor
    rw [beq_false_of_ne hst]
    simp
  show execPassStart k s = _
  unfold execPassStart
  simp only [hp]
  refine (whenDue_true ?_ _ _).trans ?_
  · rw [ha, hd, ← hbd, decide_eq_true hb]
    rfl
  · rw [← hbd]
    refine congrArg Host.Outcome.next ?_
    rw [hadef] at hbatch
    exact (each_none hnone _ _).trans hbatch

/-! ### Fetch lines (R166) -/

/-- A pass keeps its lanes and the lines that it has passed. -/
def Pass.sameLines (z y : Pass) : Prop := y.fetched = z.fetched ∧ y.landings = z.landings ∧ y.lanes = z.lanes

theorem steady_sameLines : Steady Pass.sameLines :=
  ⟨fun _ => ⟨rfl, rfl, rfl⟩, fun _ _ _ h g => ⟨g.1.trans h.1, g.2.1.trans h.2.1, g.2.2.trans h.2.2⟩, fun _ _ _ => ⟨rfl, rfl, rfl⟩⟩

/-- A tile keeps everything but its regions. -/
def Tile.sameButRegions (t u : Tile) : Prop := u = { t with regions := u.regions }

theorem Tile.sameButRegions_trans {t u v : Tile} (h : t.sameButRegions u) (g : u.sameButRegions v) : t.sameButRegions v :=
  Eq.trans g (congrArg (fun x : Tile => { x with regions := v.regions }) h)

theorem State.tailOn_tile (s : State) (key r m n : Nat) : (s.tileOf n).sameButRegions ((s.tailOn key r m).tileOf n) := by
  unfold State.tailOn
  by_cases hn : n = key
  · rw [hn, State.tileOf_setTile_same]
    rfl
  · rw [State.tileOf_setTile_other _ hn]
    rfl

/-- Void landings move on a region of the one tile that a pleat's place names. -/
theorem State.voidRun_tile (pl rx ry : Nat) : ∀ (m : Nat) (s : State) (n : Nat), (s.tileOf n).sameButRegions ((State.voidRun pl rx ry m s).tileOf n) := by
  intro m
  induction m with
  | zero => exact fun _ _ => rfl
  | succ m ih =>
    intro s n
    have hite : ∀ {c : Prop} [Decidable c] {t u : State}, (s.tileOf n).sameButRegions (t.tileOf n) → (s.tileOf n).sameButRegions (u.tileOf n) →
        (s.tileOf n).sameButRegions ((if c then t else u).tileOf n) := fun ht hu => by
      split
      · exact ht
      · exact hu
    unfold State.voidRun
    split
    · rfl
    next p _ =>
      split
      · rfl
      next a _ =>
        refine hite rfl ?_
        split
        · exact ih _ n
        next key _ =>
          refine hite (ih _ n) (hite rfl ?_)
          exact Tile.sameButRegions_trans ((s.setLanding pl a.pass a.idx 3).tailOn_tile key a.pleat.region (s.voidLines a.pleat) n)
            (ih (((s.setLanding pl a.pass a.idx 3).tailOn key a.pleat.region (s.voidLines a.pleat)).draw) n)

theorem State.voids_tile (s : State) (pl rx ry n : Nat) : (s.tileOf n).sameButRegions ((s.voids pl rx ry).tileOf n) := by
  unfold State.voids
  split
  · rfl
  · exact State.voidRun_tile ..

/-- Every plan is held, its passes changed by the relation. -/
def State.passesBy (R : Pass → Pass → Prop) (s t : State) : Prop := ∀ n p, s.plans.find n = some p → ∃ q, t.plans.find n = some q ∧
  ∀ j z, p.passes.find j = some z → ∃ y, q.passes.find j = some y ∧ R z y

theorem State.passesBy_of {R : Pass → Pass → Prop} {t : State} (h : s.plansBy R t) : s.passesBy R t := fun n p hp => by
  obtain ⟨q, hq, -, hz⟩ := h n p hp
  exact ⟨q, hq, hz⟩

theorem State.passesBy_each {R : Pass → Pass → Prop} (hR : Steady R) {α : Type} {f : State → α → State} (l : List α)
    (hf : ∀ u x, State.passesBy R u (f u x)) : s.passesBy R (each l f s) := by
  induction l generalizing s with
  | nil => exact State.passesBy_of (State.plansBy_refl hR s)
  | cons a r ih =>
    intro n p hp
    obtain ⟨q, hq, hz⟩ := hf s a n p hp
    obtain ⟨w, hw, hy⟩ := ih (s := f s a) n q hq
    refine ⟨w, hw, fun j z hj => ?_⟩
    obtain ⟨y, hy1, hy2⟩ := hz j z hj
    obtain ⟨x, hx1, hx2⟩ := hy j y hy1
    exact ⟨x, hx1, hR.trans _ _ _ hy2 hx2⟩

/-- Staging changes no pass. -/
theorem State.passesBy_restage {R : Pass → Pass → Prop} (hR : Steady R) (u : State) (n i : Nat) : u.passesBy R (u.restagePleat n i) := by
  have hmap : ∀ (v w : State) (f : Pleat → Pleat), v.plans = u.plans → w.plans = (v.planMap n fun q => q.pleatMap i f).plans → u.passesBy R w :=
    fun v w f hv hw m p hp => by
      rw [hw, State.plans_planMap, hv, hp]
      refine ⟨_, rfl, fun j z hz => ⟨z, ?_, hR.refl z⟩⟩
      split
      · exact hz
      · exact hz
  have hself : u.passesBy R u := State.passesBy_of (State.plansBy_refl hR u)
  unfold State.restagePleat
  split
  · exact hself
  · split
    · exact hself
    · split
      · unfold State.stagePleat
        split
        · exact hself
        · split
          · exact hself
          · dsimp only
            split
            · exact hmap _ _ _ rfl ((State.nvmeSend_step (Step.refl 72066390130950144 _) (by decide)).plans (by decide))
            · exact hmap _ _ _ rfl rfl
      · exact hself

theorem Plan.mem_stepTiles {step : Nat} {x : Pleat} (hx : x ∈ p.pleats) (hs : x.step = step) : (x.rx, x.ry) ∈ p.stepTiles step := by
  unfold Plan.stepTiles
  rw [List.mem_dedup]
  exact List.mem_map.2 ⟨x, List.mem_filter.2 ⟨hx, by rw [hs]; exact beq_self_eq_true _⟩, rfl⟩

/-- One tile's stream tag is set. -/
def State.tagOn (y : State) (p : Plan) (tag : Nat) (t : Nat × Nat) : State := match y.wafer.phys (p.lx + t.1) (p.ly + t.2) with
  | some n => y.setTile n { y.tileOf n with tags := (y.tileOf n).tags.set tag 3 }
  | none => y

theorem State.tagOn_step (y : State) (p : Plan) (tag : Nat) (t : Nat × Nat) : Step 137438953472 y (y.tagOn p tag t) := by
  unfold State.tagOn
  split
  · exact State.setTile_step (Step.refl _ y) (by decide)
  · exact Step.refl _ y

theorem State.tagOn_tags (y : State) (p : Plan) (tag : Nat) (t : Nat × Nat) (n : Nat) :
    (y.wafer.phys (p.lx + t.1) (p.ly + t.2) = some n ∨ (y.tileOf n).tags.find tag = some 3) → ((y.tagOn p tag t).tileOf n).tags.find tag = some 3 := by
  intro h
  unfold State.tagOn
  split
  next m hm =>
    by_cases hn : n = m
    · rw [hn, State.tileOf_setTile_same]
      exact Tab.find_set_same ..
    · rw [State.tileOf_setTile_other _ hn]
      exact h.resolve_left fun he => hn (Option.some.inj (he.symm.trans hm))
  next hm => exact h.resolve_left fun he => by rw [hm] at he; cases he

/-- After the loop every tile that a place of the list names bears the tag. -/
theorem State.tagsOn (p : Plan) (tag n : Nat) (w : Wafer) (l : List (Nat × Nat)) : ∀ y : State, y.wafer = w →
    ((∃ t ∈ l, w.phys (p.lx + t.1) (p.ly + t.2) = some n) ∨ (y.tileOf n).tags.find tag = some 3) →
      ((each l (fun y t => y.tagOn p tag t) y).tileOf n).tags.find tag = some 3 := by
  induction l with
  | nil => exact fun y _ h => h.resolve_left fun ⟨t, ht, _⟩ => List.not_mem_nil ht
  | cons a r ih =>
    intro y hy h
    refine ih (y.tagOn p tag a) (((y.tagOn_step p tag a).wafer (by decide)).trans hy) ?_
    rcases h with ⟨t, ht, hp⟩ | h
    · rcases List.mem_cons.1 ht with rfl | hr
      · exact .inr (y.tagOn_tags p tag t n (.inl (by rw [hy]; exact hp)))
      · exact .inl ⟨t, hr, hp⟩
    · exact .inr (y.tagOn_tags p tag a n (.inr h))

theorem completes_stepFetchLine {j step : Nat} {q : Pass} (hp : s.plans.find k.val = some p) (hq : p.passes.find j = some q) (he : q.ended = false)
    (hf : step ∉ q.fetched) (hlt : step < p.steps.length) (hdue : q.b + (p.stepOf step).c ≤ s.beat.n + (p.stepOf step).d) :
    completes (.stepFetchLine k j step) s [.od, .tiles, .plans, .segs, .out, .fresh] fun t =>
      (∃ y z, t.plans.find k.val = some y ∧ y.passes.find j = some z ∧ z.fetched = q.fetched ++ [step] ∧ z.landings = q.landings ∧ z.lanes = q.lanes) ∧
      ∀ x ∈ p.pleats, x.step = step → ∀ n, s.wafer.phys (p.lx + x.rx) (p.ly + x.ry) = some n →
        (t.tileOf n).tags.find (step + 256 * (j % 2)) = some 3 := by
  obtain ⟨failed, hfail⟩ : ∃ l, l = if p.streamed then [] else (p.pleats.zipIdx.filter fun y => y.1.step == step && y.1.st == .failed).map Prod.snd := ⟨_, rfl⟩
  obtain ⟨a, ha⟩ : ∃ a, a = s.planMap k.val fun y => y.passMap j fun z => { z with fetched := z.fetched ++ [step] } := ⟨_, rfl⟩
  obtain ⟨b, hb⟩ : ∃ b, b = each (p.stepTiles step) (fun y t => y.tagOn p (step + 256 * (j % 2)) t) a := ⟨_, rfl⟩
  obtain ⟨c, hc⟩ : ∃ c, c = each failed (fun y i => y.restagePleat k.val i) b := ⟨_, rfl⟩
  have hx : exec (.stepFetchLine k j step) s = .next (each (p.stepTiles step) (fun y t => y.voids k.val t.1 t.2) c) := by
    rw [hc, hb, ha, hfail]
    show execStepFetchLine k j step s = _
    unfold execStepFetchLine
    simp only [hp, hq]
    refine whenDue_true ?_ _ _
    rw [he, decide_eq_true hlt, decide_eq_true hdue, List.contains_eq_mem, decide_eq_false hf]
    rfl
  have hap : a.plans.find k.val = some (p.passMap j fun z => { z with fetched := z.fetched ++ [step] }) := ha ▸ State.plans_planMap_same hp
  have haj : (p.passMap j fun z => { z with fetched := z.fetched ++ [step] }).passes.find j = some { q with fetched := q.fetched ++ [step] } :=
    (Tab.find_mapVals ..).trans (by rw [hq]; exact congrArg some (if_pos rfl))
  have has : Step 4398046511104 s a := ha ▸ State.planMap_step (Step.refl _ s) (by decide)
  have hbs : Step 137438953472 a b := hb ▸ each_step (Step.refl _ a) fun u t hu => hu.trans (u.tagOn_step p _ t)
  have hcs : Step 72070788181655552 b c := hc ▸ each_step (Step.refl _ b) fun u i hu => State.restagePleat_step hu (by decide)
  obtain ⟨d, hd⟩ : ∃ d, d = each (p.stepTiles step) (fun y t => y.voids k.val t.1 t.2) c := ⟨_, rfl⟩
  have hdv : c.plansBy Pass.sameLines d :=
    hd ▸ State.plansBy_each steady_sameLines _ fun u t _ => State.plansBy_voids steady_sameLines k.val t.1 t.2
  rw [← hd] at hx
  refine completes_of hx (exec_stepFetchLine s) (by decide) ⟨?_, fun x hxm hxs n hn => ?_⟩
  · have hR := steady_sameLines
    have hbc : b.passesBy Pass.sameLines c := hc ▸ State.passesBy_each hR _ fun u i => State.passesBy_restage hR u k.val i
    obtain ⟨y, hy, hyz⟩ := hbc k.val _ (by rw [hbs.plans (by decide)]; exact hap)
    obtain ⟨z, hz, hzr⟩ := hyz j _ haj
    obtain ⟨y', hy', -, hyz'⟩ := hdv k.val y hy
    obtain ⟨z', hz', hzr'⟩ := hyz' j z hz
    obtain ⟨r1, r2, r3⟩ := hR.trans _ _ _ hzr hzr'
    exact ⟨y', z', hy', hz', r1, r2, r3⟩
  · have hbt : (b.tileOf n).tags.find (step + 256 * (j % 2)) = some 3 := by
      rw [hb]
      exact State.tagsOn p _ n s.wafer _ a (has.wafer (by decide)) (.inl ⟨(x.rx, x.ry), Plan.mem_stepTiles hxm hxs, hn⟩)
    have hct : c.tileOf n = b.tileOf n := by
      unfold State.tileOf
      rw [hcs.tiles (by decide)]
    have hv : ∀ (l : List (Nat × Nat)) (y : State), ((each l (fun y t => y.voids k.val t.1 t.2) y).tileOf n).tags = (y.tileOf n).tags := fun l =>
      each_keeps (fun y : State => (y.tileOf n).tags) _ (fun y t => by rw [y.voids_tile k.val t.1 t.2 n]) l
    rw [hd, hv, hct, hbt]

end

end Sys2Proof.Machine

namespace Sys2Proof.Proofs

open Sys2Proof.Machine

/-- Settles O30: stagings by what the plan's check makes of them, a pass by the frames it takes, a fetch line tile by tile. -/
theorem stagingAndPassStarts : Obligations.StagingAndPassStarts := by
  unfold Obligations.StagingAndPassStarts
  refine ⟨⟨fun s k i p x hp hx hst hc => ?_, fun s k step p hp ha hstr hlt hd => ?_⟩, fun s k p hinv hp ha hd => ?_, fun s k j step p q hp hq he hf hlt hdue => ?_⟩
  · intro others
    obtain ⟨t, h1, h2, h3⟩ := completes_pleatStaged (s := s) (k := k) hp hx hst hc
    refine ⟨t, h1, h2, ?_⟩
    cases hok : s.pleatOk x with
    | true =>
      obtain ⟨q, hq, ho, hi, hrest⟩ := h3.1 hok
      exact ⟨q, hq, ho, fun _ => hi, fun h => Bool.noConfusion h, hrest⟩
    | false =>
      obtain ⟨⟨q, hq, ho, hi, hrest⟩, hfire⟩ := h3.2 hok
      exact ⟨q, hq, ho, fun h => Bool.noConfusion h, fun _ => ⟨hi, hfire⟩, hrest⟩
  · intro r j hdue hup
    exact completes_flashStageLine hp ha hstr hlt hd hdue hup
  · intro b keys hb ht hf
    obtain ⟨-, -, -, -, -, -, hrise, -⟩ := hinv
    have helig : ∀ i ∈ keys, _ := fun i hi => State.passKeys_eligible (s := s) (p := p) (n := k.val) (b := b) hrise hi
    have hx := exec_passStart_due (s := s) (k := k) hp ha hd hb ht hf
    have hput : Step (maskOf [.od, .frames, .plans]) s (s.passBegun k.val (s.passNew b keys) p.started keys) := by
      have h0 : Step (maskOf [.od, .frames, .plans]) s (s.planMap k.val fun x => { x with passes := x.passes.set p.started (s.passNew b keys), started := p.started + 1 }) :=
        State.planMap_step (Step.refl _ s) (by decide)
      exact State.bump64_step (Step.put (F := 16384) h0 (by decide) rfl fun v => { v with tables := ⟨Tab.rises_mapVals v.tables.1 _, v.tables.2⟩ }) (by decide)
    refine completes_step hx hput ⟨takeCands_le .., helig, fun i => ?_, State.cell_bump64_same .., ?_, ?_⟩
    · refine (Tab.find_mapVals ..).trans (Option.map_congr fun f _ => ?_)
      simp only [List.contains_eq_mem, decide_eq_true_eq]
      rfl
    · exact fun i j hj hn => State.otherCells_count (w := 64) (n := 1) { (s.planMap k.val fun x =>
        { x with passes := x.passes.set p.started (s.passNew b keys), started := p.started + 1 }) with frames := _ } (by decide) i j hj hn
    · exact ⟨_, _, State.passBegun_plan hp, rfl, rfl, Tab.find_set_same .., rfl, State.passNew_lanes fun i hi => (helig i hi).imp fun _ h => h.1, rfl, rfl, rfl⟩
  · exact completes_stepFetchLine hp hq he hf hlt hdue

end Sys2Proof.Proofs
end

section
/-! Landing lines and pass ends (R164, R168, R169, R209): what the frames that leave a pass, its batch lines and its void landings leave
as it is. -/

namespace Sys2Proof.Machine

/-- A pass changes in its lanes and in what has become of its pleats, and of those only a failed one goes on to void-landed. -/
def Pass.after (z y : Pass) : Prop := y = { z with lanes := y.lanes, pleats := y.pleats } ∧
  ∀ i, y.state i = z.state i ∨ z.state i = 2 ∧ y.state i = 3

theorem Pass.after_trans {x y z : Pass} (h : x.after y) (g : y.after z) : x.after z := by
  obtain ⟨h1, h2⟩ := h
  obtain ⟨g1, g2⟩ := g
  refine ⟨g1.trans (by rw [h1]), fun i => ?_⟩
  rcases g2 i with gi | ⟨ga, gb⟩
  · rw [gi]
    exact h2 i
  · rcases h2 i with hi | ⟨-, hb⟩
    · exact .inr ⟨hi.symm.trans ga, gb⟩
    · rw [hb] at ga
      exact absurd ga (by decide)

theorem Pass.after_void (z : Pass) (i : Nat) (h : z.state i = 2) : z.after { z with pleats := z.pleats.set i 3 } := by
  refine ⟨rfl, fun m => ?_⟩
  unfold Pass.state at *
  by_cases hm : m = i
  · rw [hm]
    exact .inr ⟨h, Tab.get_set_same ..⟩
  · exact .inl (Tab.get_set_other _ _ _ hm)

theorem steady_after : Steady Pass.after := ⟨fun _ => ⟨rfl, fun _ => .inl rfl⟩, fun _ _ _ => Pass.after_trans, Pass.after_void⟩

theorem Pass.after_lanes (z : Pass) (l : List Lane) : z.after { z with lanes := l } := ⟨rfl, fun _ => .inl rfl⟩

section

variable {s t : State} {key : Nat} {st : Status}

/-! ### Frames that leave -/

theorem State.dropSlotWork_passCell (s : State) (k : Nat) (free : Bool) {j : Nat} (hj : j < 256) : (s.dropSlotWork k free).cell 0x2403 j = s.cell 0x2403 j := by
  unfold State.dropSlotWork
  split
  · rfl
  next a _ =>
    have hcount : ∀ (x : State) (n : Nat), x.od = s.od → (x.count 64 0x2600 3 n).cell 0x2403 j = s.cell 0x2403 j := fun x n hx =>
      (State.cell_count_other x hj (by decide) (by simp)).trans (State.cell_congr hx ..)
    dsimp only
    split
    · exact hcount _ _ rfl
    · have hend : ∀ (x : State) (e : Nat × Nat), (x.entryEnd e.1 e.2 .deadlineMissed 0).cell 0x2403 j = x.cell 0x2403 j := fun x e =>
        State.entryEnd_cell x e.1 e.2 _ _ hj (by decide)
      exact (each_keeps (fun x : State => x.cell 0x2403 j) _ hend _ _).trans (hcount _ _ rfl)

theorem State.slotCheck_passCell (s : State) (k : Nat) {j : Nat} (hj : j < 256) : (s.slotCheck k).cell 0x2403 j = s.cell 0x2403 j := by
  unfold State.slotCheck
  split
  · unfold State.slotFree State.detachSlot
    dsimp only
    split
    · exact (State.entryDone_cell _ _ _ _ _ _ _ hj (by decide)).trans (s.dropSlotWork_passCell k true hj)
    · exact s.dropSlotWork_passCell k true hj
  · rfl

/-- A frame that leaves without having been skipped or served counts nothing of 0x2403 itself. -/
theorem State.frameDone_passCell (hok : st ≠ .ok) (hsk : st ≠ .frameSkipped) (det : Nat) {j : Nat} (hj : j < 256) :
    (s.frameDone key st det).cell 0x2403 j = s.cell 0x2403 j := by
  unfold State.frameDone
  split
  · rfl
  next f _ =>
    dsimp only
    rw [State.slotCheck_passCell _ _ hj, State.entryDone_cell _ _ _ _ _ _ _ hj (by decide), if_neg hok, if_neg hsk]
    exact State.cell_congr ((State.laneLeave_step (Step.refl 4398046511104 s) (by decide)).od (by decide)) ..

theorem State.entryOf_none_each {α : Type} {id idx : Nat} {f : State → α → State} (l : List α) (hf : ∀ u x, u.entryOf id idx = none → (f u x).entryOf id idx = none)
    (h : s.entryOf id idx = none) : (each l f s).entryOf id idx = none := by
  induction l generalizing s with
  | nil => exact h
  | cons a r ih => exact ih (hf s a h)

theorem State.entryOf_none_slotCheck {id idx : Nat} (h : s.entryOf id idx = none) (k : Nat) : (s.slotCheck k).entryOf id idx = none := by
  have hdrop : (s.dropSlotWork k true).entryOf id idx = none := by
    unfold State.dropSlotWork
    split
    · exact h
    · dsimp only
      split
      · exact h
      · exact State.entryOf_none_each _ (fun u x hu => State.entryOf_none_entryEnd hu _ _) h
  unfold State.slotCheck
  split
  · have hsess : ({ s.dropSlotWork k true with sessions := (s.dropSlotWork k true).sessions.erase k } : State).entryOf id idx = none :=
      (State.entryOf_congr rfl ..).trans hdrop
    unfold State.slotFree State.detachSlot
    dsimp only
    split
    · exact State.entryOf_none_entryDoneAt hsess ..
    · exact hsess
  · exact h

/-- An entry that is over stays over when a frame leaves, and the frame's own entry is over. -/
theorem State.entryOf_none_frameDone {id idx : Nat} (h : s.entryOf id idx = none ∨ id = key ∧ ∃ f, s.frames.find key = some f ∧ f.idx = idx) (det : Nat) :
    (s.frameDone key st det).entryOf id idx = none := by
  unfold State.frameDone
  split
  next hf =>
    exact h.resolve_right fun ⟨_, f, hk, _⟩ => by rw [hf] at hk; cases hk
  next f hf =>
    refine State.entryOf_none_slotCheck ?_ _
    rcases h with h | ⟨rfl, g, hg, rfl⟩
    · refine State.entryOf_none_entryDoneAt ?_ ..
      rw [← h]
      refine State.entryOf_congr ?_ ..
      have hl : (s.laneLeave f key).lists = s.lists := (State.laneLeave_step (Step.refl 4398046511104 s) (by decide)).lists (by decide)
      split
      · exact hl
      · split <;> exact hl
    · rw [hf] at hg
      rw [Option.some.inj hg]
      exact State.entryOf_entryDone ..

/-- Lanes leave: their frames are over, every other is as it was. -/
theorem State.lanesDone_find (f : State → Lane → State) (l : List Lane) (hf : ∀ u x, x ∈ l → ∀ i, (f u x).frames.find i =
    if i = x.frame then none else u.frames.find i) (i : Nat) : (each l f s).frames.find i = if ∃ x ∈ l, x.frame = i then none else s.frames.find i := by
  induction l generalizing s with
  | nil => rfl
  | cons a r ih =>
    refine (ih (s := f s a) fun u x hx => hf u x (List.mem_cons_of_mem _ hx)).trans ?_
    rw [hf s a List.mem_cons_self]
    by_cases hr : ∃ x ∈ r, x.frame = i
    · obtain ⟨x, hx, hi⟩ := hr
      rw [if_pos ⟨x, hx, hi⟩, if_pos ⟨x, List.mem_cons_of_mem _ hx, hi⟩]
    · rw [if_neg hr]
      by_cases ha : i = a.frame
      · rw [if_pos ha, if_pos ⟨a, List.mem_cons_self, ha.symm⟩]
      · rw [if_neg ha, if_neg fun ⟨x, hx, hi⟩ => (List.mem_cons.1 hx).elim (fun h => ha (h ▸ hi.symm)) fun h => hr ⟨x, h, hi⟩]

/-! ### Batch lines (R164) -/

/-- A tile's batch lines count nothing of 0x2403. -/
theorem State.batchTile_passCell (p : Plan) (q : Pass) (j step k : Nat) (is : List Nat) {m : Nat} (hm : m < 256) :
    (s.batchTile p q j step k is).1.cell 0x2403 m = s.cell 0x2403 m := by
  have hrej : ∀ a : State, (a.landReject k).cell 0x2403 m = a.cell 0x2403 m := fun a => by
    unfold State.landReject
    rw [State.cell_congr (State.fire_od ..)]
    exact State.cell_count_other _ hm (by decide) (by simp)
  have hfold : ∀ (l : List Nat) (a : State × Bool), a.1.cell 0x2403 m = s.cell 0x2403 m → (l.foldl (fun (a : State × Bool) n =>
      let t := a.1.tileOf k
      match t.taskLine .a (p.batchLine + n) with
      | some w => if t.lineOff .a w then (a.1.landReject k, true)
          else (a.1.storeWrite k .a (w * 64) (q.batchLine j step n), a.2)
      | none => (a.1.landReject k, true)) a).1.cell 0x2403 m = s.cell 0x2403 m := by
    intro l
    induction l with
    | nil => exact fun a ha => ha
    | cons n r ih =>
      intro a ha
      refine ih _ ?_
      dsimp only
      split
      · split
        · exact (hrej a.1).trans ha
        · refine (State.cell_congr ?_ _ m).trans ha
          exact (State.storeWrite_step (Step.refl 142740553728 a.1) (by decide)).od (by decide)
      · exact (hrej a.1).trans ha
  unfold State.batchTile
  split
  · unfold State.discard
    exact State.cell_count_other s hm (by decide) (by simp)
  · split
    · rfl
    · exact hfold is (s, false) rfl

/-- Batch lines change stores and count, and where one is rejected the pass's lanes leave. -/
theorem State.batch_outcome (s : State) (k j step : Nat) (is : List Nat) : ∃ (u : State) (l : List Lane), Step 142744748032 s u ∧
    (∀ m, m < 256 → u.cell 0x2403 m = s.cell 0x2403 m) ∧
    s.batch k j step is = each l (fun x l => x.frameDone l.frame .badCommand 0x0209) u := by
  unfold State.batch
  split
  · exact ⟨s, [], Step.refl _ s, fun _ _ => rfl, rfl⟩
  next p _ =>
    split
    · exact ⟨s, [], Step.refl _ s, fun _ _ => rfl, rfl⟩
    next q _ =>
      have hfold : ∀ (l : List Nat) (a : State × Bool), Step 142744748032 s a.1 → (∀ m, m < 256 → a.1.cell 0x2403 m = s.cell 0x2403 m) →
          Step 142744748032 s (l.foldl (fun (a : State × Bool) t => ((a.1.batchTile p q j step t is).1, a.2 || (a.1.batchTile p q j step t is).2)) a).1 ∧
          ∀ m, m < 256 → (l.foldl (fun (a : State × Bool) t =>
            ((a.1.batchTile p q j step t is).1, a.2 || (a.1.batchTile p q j step t is).2)) a).1.cell 0x2403 m = s.cell 0x2403 m := by
        intro l
        induction l with
        | nil => exact fun a h1 h2 => ⟨h1, h2⟩
        | cons n r ih =>
          exact fun a h1 h2 => ih _ (State.batchTile_step h1 (by decide)) fun m hm => (State.batchTile_passCell p q j step n is hm).trans (h2 m hm)
      obtain ⟨h1, h2⟩ := hfold (s.wafer.regionKeys p.region) (s, false) (Step.refl _ s) fun _ _ => rfl
      dsimp only
      split
      · exact ⟨_, _, h1, h2, rfl⟩
      · exact ⟨_, [], h1, h2, rfl⟩

theorem State.plansBy_batch {R : Pass → Pass → Prop} (hR : Steady R) (hl : ∀ z l, R z { z with lanes := l }) (k j step : Nat) (is : List Nat) :
    s.plansBy R (s.batch k j step is) := by
  obtain ⟨u, l, hu, -, h⟩ := s.batch_outcome k j step is
  rw [h]
  exact State.plansBy_trans hR (State.plansBy_same hR (hu.plans (by decide))) (State.plansBy_each hR _ fun _ _ _ => State.plansBy_frameDone hR hl _ _ _)

/-- The frames that are gone stay gone. -/
theorem State.batch_gone {i : Nat} (h : s.frames.find i = none) (k j step : Nat) (is : List Nat) : (s.batch k j step is).frames.find i = none := by
  obtain ⟨u, l, hu, -, he⟩ := s.batch_outcome k j step is
  rw [he, State.lanesDone_find _ _ fun _ x _ i => State.frameDone_find x.frame i _ _, hu.frames (by decide), h, ite_self]

theorem State.batch_passCell (k j step : Nat) (is : List Nat) {m : Nat} (hm : m < 256) : (s.batch k j step is).cell 0x2403 m = s.cell 0x2403 m := by
  obtain ⟨u, l, -, hu, he⟩ := s.batch_outcome k j step is
  rw [he]
  exact (each_keeps (fun x : State => x.cell 0x2403 m) _ (fun x e => State.frameDone_passCell (by decide) (by decide) _ hm) _ _).trans (hu m hm)

/-! ### Landing lines (R168, R169) -/

variable {k : PlanId} {j step : Nat} {p : Plan} {q : Pass}

/-- The pleats of a step for which a landing line comes too early. -/
def Plan.latePleats (p : Plan) (q : Pass) (step : Nat) : List (Pleat × Nat) :=
  p.pleats.zipIdx.filter fun y => y.1.step == step && q.needs y.1 && q.state y.2 == 0

theorem Plan.mem_latePleats {y : Pleat × Nat} : y ∈ p.latePleats q step ↔
    p.pleats[y.2]? = some y.1 ∧ y.1.step = step ∧ q.needs y.1 = true ∧ q.state y.2 = 0 := by
  unfold Plan.latePleats
  rw [List.mem_filter, List.mem_zipIdx_iff_getElem?]
  simp only [Bool.and_eq_true, beq_iff_eq, and_assoc]

/-- The landing line is kept. -/
def State.lineCome (s : State) (k j step : Nat) : State := s.planMap k fun y => y.passMap j fun z => { z with landings := z.landings ++ [step] }

/-- A late pleat is counted and reported once. -/
def State.lateReport (s : State) (l : List (Pleat × Nat)) : State := match l.head? with
  | some y => (s.bump64 0x2403 3).fire 0x0505 y.1.seg 0
  | none => s

/-- The lanes that need a late pleat leave. -/
def State.lanesLate (s : State) (q : Pass) (l : List (Pleat × Nat)) : State :=
  each (q.lanes.filter fun x => x.live && l.any fun y => x.needs y.1) (fun y x => (y.bump64 0x2403 4).frameDone x.frame .deadlineMissed 0x0505) s

theorem exec_landingLine_due (hp : s.plans.find k.val = some p) (hq : p.passes.find j = some q) (he : q.ended = false) (hl : step ∉ q.landings)
    (hf : step ∈ q.fetched) (hdue : q.b + (p.stepOf step).c ≤ s.beat.n + (p.stepOf step).a) : exec (.landingLine k j step) s = .next
      (each (p.stepTiles step) (fun y t => (y.voids k.val t.1 t.2).tagFinal k.val j step t.1 t.2 true)
        ((((s.lineCome k.val j step).lateReport (p.latePleats q step)).lanesLate q (p.latePleats q step)).batch k.val j step [0])) := by
  show execLandingLine k j step s = _
  unfold execLandingLine
  simp only [hp, hq]
  refine (whenDue_true ?_ _ _).trans rfl
  rw [he, decide_eq_true hdue, List.contains_eq_mem, List.contains_eq_mem, decide_eq_true hf, decide_eq_false hl]
  rfl

/-- Void landings and the tags' last states change no frame, detector or cell. -/
theorem State.tagLoop_step (l : List (Nat × Nat)) (k j step : Nat) (b : Bool) (s : State) :
    Step 144119723561320448 s (each l (fun y t => (y.voids k t.1 t.2).tagFinal k j step t.1 t.2 b) s) :=
  each_step (Step.refl _ s) fun _ _ hu => State.tagFinal_step (State.voids_step hu (by decide)) (by decide)

theorem State.plansBy_tagLoop {R : Pass → Pass → Prop} (hR : Steady R) (l : List (Nat × Nat)) (k j step : Nat) (b : Bool) (s : State) :
    s.plansBy R (each l (fun y t => (y.voids k t.1 t.2).tagFinal k j step t.1 t.2 b) s) :=
  State.plansBy_each hR _ fun _ t _ => State.plansBy_trans hR (State.plansBy_voids hR k t.1 t.2) (State.plansBy_tagFinal hR _ _ _ _ _ _)

theorem State.lineCome_plan (hp : s.plans.find k.val = some p) (hq : p.passes.find j = some q) : ∃ y, (s.lineCome k.val j step).plans.find k.val = some y ∧
    y = { p with passes := y.passes } ∧ y.passes.find j = some { q with landings := q.landings ++ [step] } :=
  ⟨_, State.plans_planMap_same hp, rfl, (Tab.find_mapVals ..).trans (by rw [hq]; exact congrArg some (if_pos rfl))⟩

theorem State.lateReport_step (s : State) (l : List (Pleat × Nat)) : Step 1010827264 s (s.lateReport l) := by
  unfold State.lateReport
  split
  · exact State.fire_step (State.bump64_step (Step.refl _ s) (by decide)) (by decide)
  · exact Step.refl _ s

theorem State.plansBy_lanesLate {R : Pass → Pass → Prop} (hR : Steady R) (hl : ∀ z l, R z { z with lanes := l }) (q : Pass) (l : List (Pleat × Nat)) :
    s.plansBy R (s.lanesLate q l) := State.plansBy_each hR _ fun u _ _ =>
  State.plansBy_trans hR (State.plansBy_same hR (t := u.bump64 0x2403 4) rfl) (State.plansBy_frameDone hR hl _ _ _)

/-- What has become of the pleats that a tile needs for a step. -/
def Plan.tileStates (p : Plan) (q : Pass) (step rx ry : Nat) : List Nat :=
  (p.pleats.zipIdx.filter fun x => x.1.rx == rx && x.1.ry == ry && x.1.step == step && q.needs x.1).map fun x => q.state x.2

/-- A tag becomes final at the landing line. -/
theorem State.tagFinal_tag {n rx ry m : Nat} (hp : s.plans.find m = some p) (hq : p.passes.find j = some q)
    (hn : s.wafer.phys (p.lx + rx) (p.ly + ry) = some n) (hl : step ∈ q.landings) (htag : (s.tileOf n).tags.find (streamTag step j) = some 3)
    (hall : ∀ v ∈ p.tileStates q step rx ry, v ≠ 0) : ((s.tagFinal m j step rx ry true).tileOf n).tags.find (streamTag step j) =
      some (if (p.tileStates q step rx ry).any (fun v => decide (2 ≤ v)) then 2 else 0) := by
  have hcond : (q.landings.contains step && (s.tileOf n).tags.find (streamTag step j) == some 3 && (p.tileStates q step rx ry).all (fun v => v != 0)) = true := by
    rw [htag, List.contains_eq_mem, decide_eq_true hl, List.all_eq_true.2 fun v hv => bne_iff_ne.2 (hall v hv)]
    rfl
  unfold State.tagFinal
  simp only [hp, Option.elim_some, hn, hq]
  refine (congrArg (fun t : State => (t.tileOf n).tags.find (streamTag step j)) (if_pos hcond)).trans ?_
  rw [State.tileOf_setTile_same]
  exact Tab.find_set_same ..

/-- Where the step's pleats all stand on one tile, it has failed with any of them that the pass needs. -/
theorem Plan.tileStates_any {z : Pass} {rx ry : Nat} (hone : p.stepTiles step = [(rx, ry)]) (hz : ∀ x, z.needs x = q.needs x)
    (hs : ∀ i, z.state i = q.state i ∨ q.state i = 2 ∧ z.state i = 3) : (p.tileStates z step rx ry).any (fun v => decide (2 ≤ v)) =
      p.pleats.zipIdx.any fun y => y.1.step == step && q.needs y.1 && decide (2 ≤ q.state y.2) := by
  have htwo : ∀ i, 2 ≤ z.state i ↔ 2 ≤ q.state i := fun i => by
    rcases hs i with h | ⟨h1, h2⟩
    · rw [h]
    · rw [h1, h2]
      decide
  have hplace : ∀ x ∈ p.pleats, x.step = step → x.rx = rx ∧ x.ry = ry := fun x hx hst => by
    have hm := Plan.mem_stepTiles hx hst
    rw [hone, List.mem_singleton] at hm
    exact Prod.mk.inj hm
  unfold Plan.tileStates
  rw [List.any_map, List.any_filter, Bool.eq_iff_iff, List.any_eq_true, List.any_eq_true]
  refine exists_congr fun y => and_congr_right fun hy => ?_
  have hym : y.1 ∈ p.pleats := List.mem_of_getElem? (List.mem_zipIdx_iff_getElem?.1 hy)
  simp only [Function.comp, Bool.and_eq_true, beq_iff_eq, decide_eq_true_eq, hz, htwo]
  exact ⟨fun ⟨⟨⟨_, h2⟩, h3⟩, h4⟩ => ⟨⟨h2, h3⟩, h4⟩, fun ⟨⟨h2, h3⟩, h4⟩ => ⟨⟨⟨hplace _ hym h2, h2⟩, h3⟩, h4⟩⟩

theorem completes_landingLine (hp : s.plans.find k.val = some p) (hq : p.passes.find j = some q) (he : q.ended = false) (hl : step ∉ q.landings)
    (hf : step ∈ q.fetched) (hdue : q.b + (p.stepOf step).c ≤ s.beat.n + (p.stepOf step).a) :
    completes (.landingLine k j step) s (entryFields ++ ([.sessions, .frames, .suspects, .tiles, .attach, .plans, .fresh] : List Field)) fun t =>
      (∃ y z, t.plans.find k.val = some y ∧ y.passes.find j = some z ∧ z.landings = q.landings ++ [step] ∧ z.fetched = q.fetched) ∧
      (∀ i x, p.pleats[i]? = some x → (x.step = step ∧ q.needs x = true ∧ q.state i = 0) → t.cell 0x2403 3 = (s.cell 0x2403 3 + 1) % 2 ^ 64 ∧
        ∀ l ∈ q.lanes, l.live = true → l.needs x = true → t.frames.find l.frame = none) ∧
      ((∀ i x, p.pleats[i]? = some x → ¬ (x.step = step ∧ q.needs x = true ∧ q.state i = 0)) →
        (∀ i ∈ s.wafer.regionKeys p.region, s.fencedAt i = false ∧ (s.tileOf i).task = none) →
        t.frames = s.frames ∧ t.det = s.det ∧ ∀ rx ry n, p.stepTiles step = [(rx, ry)] → s.wafer.phys (p.lx + rx) (p.ly + ry) = some n →
          (s.tileOf n).tags.find (step + 256 * (j % 2)) = some 3 →
          (t.tileOf n).tags.find (step + 256 * (j % 2)) = some (if (p.pleats.zipIdx.any fun y =>
            y.1.step == step && q.needs y.1 && decide (2 ≤ q.state y.2)) then 2 else 0)) := by
  have hx := exec_landingLine_due (k := k) hp hq he hl hf hdue
  obtain ⟨y0, hy0, hyp, hyj⟩ := State.lineCome_plan (step := step) hp hq
  obtain ⟨a, ha⟩ : ∃ a, a = s.lineCome k.val j step := ⟨_, rfl⟩
  obtain ⟨b, hb⟩ : ∃ b, b = a.lateReport (p.latePleats q step) := ⟨_, rfl⟩
  obtain ⟨c, hc⟩ : ∃ c, c = b.lanesLate q (p.latePleats q step) := ⟨_, rfl⟩
  obtain ⟨d, hd⟩ : ∃ d, d = c.batch k.val j step [0] := ⟨_, rfl⟩
  rw [← ha] at hy0
  rw [← ha, ← hb, ← hc, ← hd] at hx
  have has : Step 4398046511104 s a := ha ▸ State.planMap_step (Step.refl _ s) (by decide)
  obtain ⟨t, ht⟩ : ∃ t, t = each (p.stepTiles step) (fun y t => (y.voids k.val t.1 t.2).tagFinal k.val j step t.1 t.2 true) d := ⟨_, rfl⟩
  have hdt : Step 144119723561320448 d t := ht ▸ State.tagLoop_step ..
  rw [← ht] at hx
  have hR := steady_after
  refine completes_of hx (exec_landingLine s) (by decide) ⟨?_, fun i x hi hlate => ⟨?_, fun l hlq hlive hneeds => ?_⟩, fun hnone hidle => ?_⟩
  · have hbc : b.plansBy Pass.after c := hc ▸ State.plansBy_lanesLate hR Pass.after_lanes q _
    have hcd : c.plansBy Pass.after d := hd ▸ State.plansBy_batch hR Pass.after_lanes k.val j step [0]
    have hbt := State.plansBy_trans hR hbc (State.plansBy_trans hR hcd (ht ▸ State.plansBy_tagLoop hR (p.stepTiles step) k.val j step true d))
    obtain ⟨y, hy, -, hz⟩ := hbt k.val y0 (by rw [hb, (a.lateReport_step _).plans (by decide)]; exact hy0)
    obtain ⟨z, hz, hz', -⟩ := hz j _ hyj
    exact ⟨y, z, hy, hz, by rw [hz'], by rw [hz']⟩
  · have hmem : (x, i) ∈ p.latePleats q step := Plan.mem_latePleats.2 ⟨hi, hlate⟩
    have hhead : ∃ y, (p.latePleats q step).head? = some y := by
      cases hlp : p.latePleats q step with
      | nil => rw [hlp] at hmem; cases hmem
      | cons y r => exact ⟨y, rfl⟩
    obtain ⟨y, hy⟩ := hhead
    have hbcell : b.cell 0x2403 3 = (s.cell 0x2403 3 + 1) % 2 ^ 64 := by
      rw [hb]
      unfold State.lateReport
      simp only [hy]
      rw [State.cell_congr (State.fire_od ..), State.cell_bump64_same, State.cell_congr (has.od (by decide))]
    have hturn : ∀ (u : State) (x : Lane), ((u.bump64 0x2403 4).frameDone x.frame .deadlineMissed 0x0505).cell 0x2403 3 = u.cell 0x2403 3 := fun u x =>
      (State.frameDone_passCell (by decide) (by decide) _ (by decide)).trans (State.cell_count_other u (by decide) (by decide) (by decide))
    have hccell : c.cell 0x2403 3 = b.cell 0x2403 3 := by
      rw [hc]
      exact each_keeps (fun u : State => u.cell 0x2403 3) _ hturn _ _
    rw [State.cell_congr (hdt.od (by decide)), hd, State.batch_passCell _ _ _ _ (by decide), hccell, hbcell]
  · have hmem : (x, i) ∈ p.latePleats q step := Plan.mem_latePleats.2 ⟨hi, hlate⟩
    rw [hdt.frames (by decide), hd]
    refine State.batch_gone ?_ ..
    rw [hc]
    refine (State.lanesDone_find (fun y x => (y.bump64 0x2403 4).frameDone x.frame .deadlineMissed 0x0505) _
      (fun u x _ i => State.frameDone_find x.frame i _ _) l.frame).trans (if_pos ⟨l, ?_, rfl⟩)
    refine List.mem_filter.2 ⟨hlq, ?_⟩
    rw [hlive, Bool.true_and]
    exact List.any_eq_true.2 ⟨_, hmem, hneeds⟩
  · have hempty : p.latePleats q step = [] := List.eq_nil_iff_forall_not_mem.2 fun y hy => by
      obtain ⟨h1, h2⟩ := Plan.mem_latePleats.1 hy
      exact hnone _ _ h1 h2
    have hda : d = a := by
      have hca : c = a := by
        rw [hc, hb, hempty]
        exact each_none (List.filter_eq_nil_iff.2 fun x _ => by simp) _ _
      have hregion : y0.region = p.region := by rw [hyp]; rfl
      rw [hd, hca]
      refine State.batch_idle hy0 ?_ _
      rw [hregion, has.wafer (by decide)]
      intro i hi
      obtain ⟨h1, h2⟩ := hidle i hi
      have htile : a.tileOf i = s.tileOf i := by
        unfold State.tileOf
        rw [has.tiles (by decide)]
      unfold State.fencedAt at h1 ⊢
      rw [htile, has.wafer (by decide)]
      exact ⟨h1, h2⟩
    rw [hda] at hdt ht
    refine ⟨(hdt.frames (by decide)).trans (has.frames (by decide)), (hdt.det (by decide)).trans (has.det (by decide)), fun rx ry n hone hn htag => ?_⟩
    rw [hone] at ht
    obtain ⟨v, hv⟩ : ∃ v, v = a.voids k.val rx ry := ⟨_, rfl⟩
    have htv : t = v.tagFinal k.val j step rx ry true := by
      rw [ht, hv]
      rfl
    obtain ⟨y, hy, hyy, hz⟩ := (hv ▸ State.plansBy_voids hR k.val rx ry : a.plansBy Pass.after v) k.val y0 hy0
    obtain ⟨z, hz, hzq, hstate⟩ := hz j _ hyj
    have hvtag : (v.tileOf n).tags.find (streamTag step j) = some 3 := by
      have hsame := a.voids_tile k.val rx ry n
      rw [← hv] at hsame
      unfold Tile.sameButRegions at hsame
      rw [hsame]
      refine Eq.trans ?_ htag
      unfold State.tileOf
      rw [has.tiles (by decide)]
      rfl
    have hvw : v.wafer = s.wafer := by
      rw [hv, (State.voids_step (Step.refl 144119723561320448 a) (by decide)).wafer (by decide), has.wafer (by decide)]
    have hyplan : y.lx = p.lx ∧ y.ly = p.ly ∧ y.pleats = p.pleats := by
      rw [hyy, hyp]
      exact ⟨rfl, rfl, rfl⟩
    obtain ⟨hlx, hly, hpl⟩ := hyplan
    have hneeds : ∀ x, z.needs x = q.needs x := fun x => by
      rw [hzq]
      rfl
    have hq0 : ∀ i, z.state i = q.state i ∨ q.state i = 2 ∧ z.state i = 3 := hstate
    have hall : ∀ w ∈ y.tileStates z step rx ry, w ≠ 0 := fun w hw hw0 => by
      unfold Plan.tileStates at hw
      obtain ⟨x, hx, rfl⟩ := List.mem_map.1 hw
      obtain ⟨hxm, hxc⟩ := List.mem_filter.1 hx
      simp only [Bool.and_eq_true, beq_iff_eq, hneeds] at hxc
      rw [hpl] at hxm
      refine hnone _ _ (List.mem_zipIdx_iff_getElem?.1 hxm) ⟨hxc.1.2, hxc.2, ?_⟩
      rcases hq0 x.2 with h | ⟨-, h⟩
      · exact h.symm.trans hw0
      · rw [h] at hw0
        cases hw0
    have hfinal := State.tagFinal_tag (n := n) hy hz (by rw [hlx, hly, hvw]; exact hn) (by rw [hzq]; exact List.mem_append_right _ (List.mem_singleton.2 rfl))
      hvtag hall
    have hany : (y.tileStates z step rx ry).any (fun v => decide (2 ≤ v)) =
        p.pleats.zipIdx.any fun y => y.1.step == step && q.needs y.1 && decide (2 ≤ q.state y.2) := by
      rw [← Plan.tileStates_any hone hneeds hq0]
      unfold Plan.tileStates
      rw [hpl]
    rw [htv, ← hany]
    exact hfinal

end

end Sys2Proof.Machine
end

section
/-! Blocks of a resident pleat that land, and the end of a pass (R129, R167, R209). -/

namespace Sys2Proof.Machine

/-! ### Memory and tables -/

theorem Memory.drop_readBytes (m : Memory) (n : Nat) : ∀ a d : Nat, (m.readBytes a (d + n)).drop d = m.readBytes (a + d) n
  | _, 0 => by rw [Nat.zero_add]; rfl
  | a, d + 1 => by
    rw [Nat.add_right_comm]
    exact (Memory.drop_readBytes m n (a + 1) d).trans (congrArg (fun x => m.readBytes x n) (Nat.add_right_comm a 1 d))

theorem Memory.take_readBytes (m : Memory) (n : Nat) : ∀ a d : Nat, (m.readBytes a (d + n)).take d = m.readBytes a d
  | _, 0 => rfl
  | a, d + 1 => by
    rw [Nat.add_right_comm]
    exact congrArg (m.read a :: ·) (Memory.take_readBytes m n (a + 1) d)

/-- Line `h` of a block. -/
theorem Memory.line_readBytes (m : Memory) (a : Nat) {h c : Nat} (hc : h < c) : ((m.readBytes a (c * 64)).drop (h * 64)).take 64 = m.readBytes (a + h * 64) 64 := by
  obtain ⟨r, rfl⟩ : ∃ r, c = h + (1 + r) := ⟨c - h - 1, by omega⟩
  rw [Nat.add_mul, Memory.drop_readBytes, Nat.add_mul, Nat.one_mul, Memory.take_readBytes]

/-- A filter that the first cell of a key passes keeps it the first. -/
theorem findCell_filter_passes {α : Type} {f : Nat × α → Bool} {k : Nat} {v : α} {l : List (Nat × α)} (h : findCell k l = some v) (hf : f (k, v) = true) :
    findCell k (l.filter f) = some v := by
  induction l with
  | nil => cases h
  | cons c r ih =>
    obtain ⟨j, w⟩ := c
    by_cases hj : j = k
    · subst hj
      have hw : w = v := by simpa [findCell] using h
      subst hw
      rw [List.filter_cons_of_pos hf]
      exact if_pos rfl
    · have hr : findCell k r = some v := by simpa [findCell, hj] using h
      by_cases hc : f (j, w) = true
      · rw [List.filter_cons_of_pos hc]
        exact (if_neg hj).trans (ih hr)
      · rw [List.filter_cons_of_neg hc]
        exact ih hr

section

variable {s t : State} {k : Nat} {st : StoreSel}

/-! ### Lines of a block -/

theorem State.onlyTile.other {T : Tile} {x : State} (h : s.onlyTile k T x) {o : Nat} (ho : o ≠ k) : x.tileOf o = s.tileOf o := by
  have := congrArg (fun y : State => y.tileOf o) (h.1 T)
  simpa only [State.tileOf_setTile_other _ ho] using this

/-- The lines of a block are stored one after another. -/
def State.blockLines (s : State) (k : Nat) (st : StoreSel) (f : Nat → Nat) (bs : List Byte) (m : Nat) : State :=
  (List.range m).foldl (fun y h => y.storeWrite k st (f h * 64) ((bs.drop (h * 64)).take 64)) s

theorem State.blockLines_succ (s : State) (k : Nat) (st : StoreSel) (f : Nat → Nat) (bs : List Byte) (m : Nat) : s.blockLines k st f bs (m + 1) =
    (s.blockLines k st f bs m).storeWrite k st (f m * 64) ((bs.drop (m * 64)).take 64) := by
  unfold State.blockLines
  rw [List.range_succ, List.foldl_append]
  rfl

theorem State.blockLines_step (s : State) (k : Nat) (st : StoreSel) (f : Nat → Nat) (bs : List Byte) (m : Nat) :
    Step 142740553728 s (s.blockLines k st f bs m) :=
  foldl_step (Step.refl _ s) fun _ _ hu => State.storeWrite_step hu (by decide)

/-- The tile `t` with the first lines of a block stored: only stores have changed, and every line stored is written. -/
def Tile.blockIn (t : Tile) (st : StoreSel) (f : Nat → Nat) (bs : List Byte) (m : Nat) (T : Tile) : Prop :=
  T.bad = .empty ∧ (T.mem st).wf = true ∧ T.regions = t.regions ∧
    ∀ h, h < m → T.readBytes st (f h * 64) 64 = (bs.drop (h * 64)).take 64 ∧ T.isWritten st (f h) = true

theorem Tile.blockIn_succ {t T : Tile} {f : Nat → Nat} {bs : List Byte} {m : Nat} (h : t.blockIn st f bs m T) (hlen : ((bs.drop (m * 64)).take 64).length = 64)
    (hinj : ∀ h, h < m → f h ≠ f m) : t.blockIn st f bs (m + 1) (T.writeBytes st (f m * 64) ((bs.drop (m * 64)).take 64)) := by
  obtain ⟨hbad, hwf, hreg, hlines⟩ := h
  have hmem := T.mem_writeBytes st (f m * 64) ((bs.drop (m * 64)).take 64) (Tile.soundAt_empty hbad)
  refine ⟨T.writeBytes_bad _ _ _ hbad, ?_, ?_, fun h hh => ?_⟩
  · rw [hmem]
    exact Memory.writeBytes_wf hwf _ _
  · rw [← hreg]
    cases st <;> rfl
  · unfold Tile.readBytes
    rw [hmem]
    by_cases hm : h = m
    · subst hm
      constructor
      · have hread := Memory.readBytes_writeBytes hwf (f h * 64) ((bs.drop (h * 64)).take 64)
        rwa [hlen] at hread
      · refine Tile.isWritten_writeBytes _ _ _ _ ?_
        rw [hlen]
        unfold linesOf
        rw [if_neg (by decide)]
        exact List.mem_map.2 ⟨0, List.mem_range.2 (by omega), by omega⟩
    · have hlt : h < m := by omega
      obtain ⟨h1, h2⟩ := hlines h hlt
      have hne := hinj h hlt
      constructor
      · rw [Memory.readBytes_writeBytes_other _ _ _ _ (by rw [hlen]; omega)]
        exact h1
      · unfold Tile.isWritten at h2 ⊢
        rw [Tile.writeBytes_written, Tab.get_foldl_set, h2, ite_self]

theorem State.blockLines_tile {f : Nat → Nat} {bs : List Byte} {c : Nat} (hbad : (s.tileOf k).bad = .empty) (hwf : ((s.tileOf k).mem st).wf = true)
    (hlen : ∀ h, h < c → ((bs.drop (h * 64)).take 64).length = 64) (hinj : ∀ h h', h < c → h' < c → f h = f h' → h = h') :
    ∀ m, m ≤ c → ∃ T, s.onlyTile k T (s.blockLines k st f bs m) ∧ (s.tileOf k).blockIn st f bs m T
  | 0, _ => ⟨_, s.onlyTile_self k, hbad, hwf, rfl, fun _ h => absurd h (Nat.not_lt_zero _)⟩
  | m + 1, hm => by
    obtain ⟨T, h1, h2⟩ := State.blockLines_tile hbad hwf hlen hinj m (by omega)
    have hnew := Tile.blockIn_succ h2 (hlen m hm) fun h hh he => absurd (hinj h m (by omega) hm he) (by omega)
    refine ⟨_, ?_, hnew⟩
    rw [State.blockLines_succ, State.storeWrite_sound (Tile.soundAt_empty (h1.2 ▸ h2.1)), h1.2]
    exact h1.set _

/-! ### Void landings and tags leave other tiles alone -/

theorem State.tailOn_other (s : State) {key o : Nat} (r m : Nat) (h : o ≠ key) : (s.tailOn key r m).tileOf o = s.tileOf o :=
  State.tileOf_setTile_other _ h _

theorem State.voidRun_other {pl rx ry n o : Nat} (ho : o ≠ n) : ∀ (m : Nat) (s : State), (∀ p, s.plans.find pl = some p →
    s.wafer.phys (p.lx + rx) (p.ly + ry) = some n) → (State.voidRun pl rx ry m s).tileOf o = s.tileOf o := by
  intro m
  induction m with
  | zero => exact fun _ _ => rfl
  | succ m ih =>
    intro s hs
    unfold State.voidRun
    split
    · rfl
    next p hp =>
      split
      · rfl
      next a _ =>
        have hdone : ∀ (u : State), u.plans = (s.setLanding pl a.pass a.idx 3).plans → u.wafer = s.wafer → ∀ q, u.plans.find pl = some q →
            u.wafer.phys (q.lx + rx) (q.ly + ry) = some n := fun u hu hw q hq => by
          have hset : (s.setLanding pl a.pass a.idx 3).plans.find pl = some _ := State.plans_planMap_same hp
          rw [hu, hset] at hq
          rw [← Option.some.inj hq, hw]
          exact hs p hp
        have hite : ∀ {c : Prop} [Decidable c] {t u : State}, t.tileOf o = s.tileOf o → u.tileOf o = s.tileOf o →
            (if c then t else u).tileOf o = s.tileOf o := fun ht hu => by
          split
          · exact ht
          · exact hu
        refine hite rfl ?_
        rw [hs p hp]
        refine hite ((ih _ (hdone _ rfl rfl)).trans rfl) (hite rfl ?_)
        exact (ih ((s.setLanding pl a.pass a.idx 3).tailOn n a.pleat.region (s.voidLines a.pleat)).draw (hdone _ rfl rfl)).trans
          ((s.setLanding pl a.pass a.idx 3).tailOn_other a.pleat.region (s.voidLines a.pleat) ho)

theorem State.voids_other {pl rx ry n o : Nat} (ho : o ≠ n) (hs : ∀ p, s.plans.find pl = some p → s.wafer.phys (p.lx + rx) (p.ly + ry) = some n) :
    (s.voids pl rx ry).tileOf o = s.tileOf o := by
  unfold State.voids
  split
  · rfl
  · exact State.voidRun_other ho _ s hs

theorem State.tagFinal_other {pl rx ry n o j i : Nat} {b : Bool} (ho : o ≠ n)
    (hs : ∀ p, s.plans.find pl = some p → s.wafer.phys (p.lx + rx) (p.ly + ry) = some n) : (s.tagFinal pl j i rx ry b).tileOf o = s.tileOf o := by
  unfold State.tagFinal
  split
  next p key hp hkey =>
    split
    · rfl
    next q _ =>
      dsimp only
      split
      · refine State.tileOf_setTile_other _ ?_ _
        rw [hp, Option.elim_some, Option.elim_some, hs p hp] at hkey
        rw [← Option.some.inj hkey]
        exact ho
      · rfl
  · rfl

/-- A tag that becomes final is all that changes of its tile. -/
theorem State.tagFinal_store (pl j i rx ry : Nat) (b : Bool) (n : Nat) : ∃ g, (s.tagFinal pl j i rx ry b).tileOf n = { s.tileOf n with tags := g } := by
  unfold State.tagFinal
  split
  next p key hp hkey =>
    split
    · exact ⟨_, rfl⟩
    next q _ =>
      dsimp only
      split
      · by_cases hn : n = key
        · rw [hn, State.tileOf_setTile_same]
          exact ⟨_, rfl⟩
        · rw [State.tileOf_setTile_other _ hn]
          exact ⟨_, rfl⟩
      · exact ⟨_, rfl⟩
  · exact ⟨_, rfl⟩

/-! ### A pass that goes on -/

/-- A pass that has not ended stays. -/
theorem State.passGone_find {j : Nat} {p : Plan} {q : Pass} (hp : s.plans.find k = some p) (hq : p.passes.find j = some q) (he : q.ended = false) :
    ∃ y, (s.passGone k j).plans.find k = some y ∧ y.passes.find j = some q := by
  refine ⟨_, State.plans_planMap_same hp, findCell_filter_passes hq ?_⟩
  simp only [he, Bool.and_false, Bool.false_and, Bool.not_false]

/-! ### A block lands (R129, R167) -/

variable {c : Nat} {x : Pleat} {f : Nat → Nat}

/-- The region has room for the block, and its lines lie in the task's window and in powered banks. -/
theorem State.landBlock_done (hst : ((s.tileOf k).regionOf x.region).stream = true)
    (hroom : ((s.tileOf k).regionOf x.region).occ + c ≤ ((s.tileOf k).regionOf x.region).size)
    (hline : ∀ h, h < c → (s.tileOf k).taskLine (selOf ((s.tileOf k).regionOf x.region).store) (((s.tileOf k).regionOf x.region).base +
        (((s.tileOf k).regionOf x.region).tail + h) % ((s.tileOf k).regionOf x.region).size) = some (f h) ∧
      (s.tileOf k).lineOff (selOf ((s.tileOf k).regionOf x.region).store) (f h) = false) (bs : List Byte) :
    s.landBlock k x bs c = .done ((s.blockLines k (selOf ((s.tileOf k).regionOf x.region).store) f bs c).tailOn k x.region c) := by
  generalize hg : (s.tileOf k).regionOf x.region = g at *
  have hls : (List.range c).map (fun i => (s.tileOf k).taskLine (selOf g.store) (g.base + (g.tail + i) % g.size)) = (List.range c).map fun h => some (f h) :=
    List.map_congr_left fun h hh => (hline h (List.mem_range.1 hh)).1
  have hzip : ((List.range c).map fun h => some (f h)).zipIdx = (List.range c).map fun h => (some (f h), h) :=
    List.ext_getElem (by simp) fun i h1 h2 => by simp
  have hany : ((List.range c).map fun h => some (f h)).any (fun l => match l with
      | some m => (s.tileOf k).lineOff (selOf g.store) m
      | none => true) = false := by
    rw [List.any_map]
    exact List.any_eq_false.2 fun h hh => by
      rw [Bool.not_eq_true]
      exact (hline h (List.mem_range.1 hh)).2
  unfold State.landBlock
  simp only [hg]
  refine (if_neg (by rw [hst]; decide)).trans ((if_neg (by omega)).trans ?_)
  rw [hls]
  refine (if_neg ?_).trans ?_
  · refine fun h => Bool.false_ne_true (hany.symm.trans ?_)
    exact h
  · rw [hzip, List.foldl_map]
    rfl

/-- A block that has landed is counted, and the last of its pleat ends it. -/
theorem exec_blockLanded_due {s : State} {k : PlanId} {j i n m : Nat} {p : Plan} {q : Pass} {x : Pleat} {a : Awaited} {u : State}
    (hp : s.plans.find k.val = some p) (hq : p.passes.find j = some q) (hx : p.pleats[i]? = some x) (ha : p.nextFor x.rx x.ry = some a) (haj : a.pass = j)
    (hai : a.idx = i) (hf : x.step ∈ q.fetched) (hst : x.st = .resident) (hstr : p.streamed = true → j < p.staged.get 0 x.step) (hq0 : q.state i = 0)
    (hn : s.wafer.phys (p.lx + x.rx) (p.ly + x.ry) = some n) (hd : s.dram.get false x.seg = true) (hbad : s.tier1Bad = .empty)
    (hfen : s.fencedAt n = false) (hpau : (s.tileOf n).paused = false) (hstop : (s.panelPower (keyPanel n)).stopped = false)
    (hm : m = pleatBlock (s.tier1.readLe (x.tier1 + 6) 1))
    (hland : (s.tierRead (x.tier1 + 64 + q.blocks.get 0 i * m * 64) (m * 64)).landBlock n x
      (s.tier1.readBytes (x.tier1 + 64 + q.blocks.get 0 i * m * 64) (m * 64)) m = .done u) :
    exec (.blockLanded k j i []) s =
      .next (((u.segCount x.seg 0xA (m * 64)).blockOn k.val j i x (s.tier1.readLe (x.tier1 + 8) 2)).passGone k.val j) := by
  have hturn : (a.pass == j && a.idx == i && q.fetched.contains x.step) = true := by
    rw [haj, hai, List.contains_eq_mem, decide_eq_true hf, beq_self_eq_true, beq_self_eq_true]
    rfl
  have hstaged : (x.st == .resident && (!p.streamed || decide (j < p.staged.get 0 x.step))) = true := by
    rw [hst]
    cases hs : p.streamed with
    | false => rfl
    | true => rw [decide_eq_true (hstr hs)]; rfl
  show execBlockLanded k j i [] s = _
  unfold execBlockLanded
  subst hm
  simp only [hp, hq, hx, ha, hturn, hstaged, hq0, hn, State.tierStrike_nil, hland]
  refine (if_neg (by decide)).trans ((if_neg (by decide)).trans ((if_neg (by rw [hd]; decide)).trans ((if_neg ?_).trans ((if_neg (by rw [hfen]; decide)).trans ?_))))
  · rw [State.tierBad_sound hbad]
    decide
  · refine whenDue_true ?_ _ _
    rw [hpau, hstop]
    rfl

/-- A block of a pass is counted. -/
def State.blockCounted (s : State) (k j i c : Nat) : State := s.planMap k fun p => p.passMap j fun q => { q with blocks := q.blocks.set i c }

theorem State.blockOn_eq {j i all : Nat} {p : Plan} {q : Pass} (hp : s.plans.find k = some p) (hq : p.passes.find j = some q) : s.blockOn k j i x all =
    if q.blocks.get 0 i + 1 < all then s.blockCounted k j i (q.blocks.get 0 i + 1) else
      (((s.blockCounted k j i (q.blocks.get 0 i + 1)).setLanding k j i 1).voids k x.rx x.ry).tagFinal k j x.step x.rx x.ry false := by
  unfold State.blockOn
  simp only [hp, Option.bind_some, hq]
  rfl

/-- A change of a pass of one plan. -/
theorem State.passMap_find {j : Nat} {p : Plan} {q : Pass} (hp : s.plans.find k = some p) (hq : p.passes.find j = some q) (g : Pass → Pass) :
    ∃ y, (s.planMap k fun p => p.passMap j g).plans.find k = some y ∧ y = { p with passes := y.passes } ∧ y.passes.find j = some (g q) :=
  ⟨_, State.plans_planMap_same hp, rfl, (Tab.find_mapVals ..).trans (by rw [hq]; exact congrArg some (if_pos rfl))⟩

theorem Pass.state_set (q : Pass) (i v : Nat) : ({ q with pleats := q.pleats.set i v } : Pass).state i = v := Tab.get_set_same ..

/-- What is counted, landed and void-landed leaves every store and every other tile. -/
theorem State.blockOn_outcome {j i n all : Nat} {p : Plan} {q : Pass} (hp : s.plans.find k = some p) (hq : p.passes.find j = some q)
    (hn : s.wafer.phys (p.lx + x.rx) (p.ly + x.ry) = some n) : (∀ o, o ≠ n → (s.blockOn k j i x all).tileOf o = s.tileOf o) ∧
      (∃ r g, (s.blockOn k j i x all).tileOf n = { s.tileOf n with regions := r, tags := g }) ∧
      (q.blocks.get 0 i + 1 < all → (s.blockOn k j i x all).tileOf n = s.tileOf n) ∧
      ∃ y z, (s.blockOn k j i x all).plans.find k = some y ∧ y.passes.find j = some z ∧ z.ended = q.ended ∧
        (q.blocks.get 0 i + 1 < all → z.state i = q.state i ∧ z.blocks.get 0 i = q.blocks.get 0 i + 1) ∧
        (¬ q.blocks.get 0 i + 1 < all → z.state i = 1) := by
  rw [State.blockOn_eq hp hq]
  obtain ⟨y1, hy1, hyp1, hz1⟩ := State.passMap_find hp hq fun q' => { q' with blocks := q'.blocks.set i (q.blocks.get 0 i + 1) }
  by_cases hlt : q.blocks.get 0 i + 1 < all
  · rw [if_pos hlt]
    exact ⟨fun _ _ => rfl, ⟨_, _, rfl⟩, fun _ => rfl, y1, _, hy1, hz1, rfl, fun _ => ⟨rfl, Tab.get_set_same ..⟩, fun h => absurd hlt h⟩
  · rw [if_neg hlt]
    obtain ⟨a, ha⟩ : ∃ a, a = (s.blockCounted k j i (q.blocks.get 0 i + 1)).setLanding k j i 1 := ⟨_, rfl⟩
    have hstep : Step 4398046511104 s a := ha ▸ State.setLanding_step (State.planMap_step (Step.refl _ s) (by decide)) (by decide)
    have hatile : ∀ o, a.tileOf o = s.tileOf o := fun o => by
      unfold State.tileOf
      rw [hstep.tiles (by decide)]
    obtain ⟨y2, hy2, hyp2, hz2⟩ := State.passMap_find (s := s.blockCounted k j i (q.blocks.get 0 i + 1)) hy1 hz1 fun q' => { q' with pleats := q'.pleats.set i 1 }
    have hay : a.plans.find k = some y2 := by
      rw [ha]
      exact hy2
    have haphys : ∀ p', a.plans.find k = some p' → a.wafer.phys (p'.lx + x.rx) (p'.ly + x.ry) = some n := fun p' hp' => by
      rw [hay] at hp'
      rw [← Option.some.inj hp', hyp2, hyp1, hstep.wafer (by decide)]
      exact hn
    have hav := State.plansBy_voids steady_after (s := a) k x.rx x.ry
    have hvw : (a.voids k x.rx x.ry).wafer = a.wafer := (State.voids_step (Step.refl 144119723561320448 a) (by decide)).wafer (by decide)
    have hvtile := a.voids_tile k x.rx x.ry n
    have hvother : ∀ o, o ≠ n → (a.voids k x.rx x.ry).tileOf o = a.tileOf o := fun o ho => State.voids_other ho haphys
    rw [← ha]
    generalize a.voids k x.rx x.ry = v at *
    obtain ⟨y3, hy3, hyp3, hz3⟩ := hav k y2 hay
    have hvphys : ∀ p', v.plans.find k = some p' → v.wafer.phys (p'.lx + x.rx) (p'.ly + x.ry) = some n := fun p' hp' => by
      rw [hy3] at hp'
      rw [← Option.some.inj hp', hyp3, hvw]
      exact haphys y2 hay
    obtain ⟨z, hz, hzq, hzs⟩ := hz3 j _ hz2
    obtain ⟨g, hg⟩ := v.tagFinal_store k j x.step x.rx x.ry false n
    refine ⟨fun o ho => ?_, ⟨(v.tileOf n).regions, g, ?_⟩, fun h => absurd h hlt, y3, z, ?_, hz, ?_, fun h => absurd h hlt, fun _ => ?_⟩
    · rw [State.tagFinal_other ho hvphys, hvother o ho, hatile]
    · rw [hg]
      unfold Tile.sameButRegions at hvtile
      rw [hvtile, hatile]
    · rw [(State.tagFinal_step (Step.refl 137438953472 v) (by decide)).plans (by decide)]
      exact hy3
    · rw [hzq]
    · rcases hzs i with h | ⟨h, -⟩
      · rw [h, Pass.state_set]
      · rw [Pass.state_set] at h
        cases h

/-- A region after `c` lines of a stream have come to stand in it. -/
def RegionSt.tailed (g : RegionSt) (c : Nat) : RegionSt :=
  { g with tail := (g.tail + c) % g.size, twrap := (g.twrap + (g.tail + c) / g.size) % 65536 }

theorem State.tailOn_region {r : Nat} (h : ((s.tileOf k).regionOf r).size ≠ 0) : (s.tailOn k r c).tileOf k =
    { s.tileOf k with regions := (s.tileOf k).regions.set r (((s.tileOf k).regionOf r).tailed c) } := by
  unfold State.tailOn
  dsimp only
  rw [State.tileOf_setTile_same]
  unfold advance
  rw [if_neg h]
  rfl

/-- What a block leaves: its lines in the region, TAIL moved on, and no other tile changed. -/
theorem State.blockLanded_tile {n m r : Nat} {bs : List Byte} (hbad : (s.tileOf n).bad = .empty) (hwf : ((s.tileOf n).mem st).wf = true)
    (hlen : ∀ h, h < m → ((bs.drop (h * 64)).take 64).length = 64) (hinj : ∀ h h', h < m → h' < m → f h = f h' → h = h')
    (hsize : ((s.tileOf n).regionOf r).size ≠ 0) :
    (∀ o, o ≠ n → ((s.blockLines n st f bs m).tailOn n r m).tileOf o = s.tileOf o) ∧
    (((s.blockLines n st f bs m).tailOn n r m).tileOf n).regionOf r = ((s.tileOf n).regionOf r).tailed m ∧
    ∀ h, h < m → (((s.blockLines n st f bs m).tailOn n r m).tileOf n).readBytes st (f h * 64) 64 = (bs.drop (h * 64)).take 64 ∧
      (((s.blockLines n st f bs m).tailOn n r m).tileOf n).isWritten st (f h) = true := by
  obtain ⟨T, hT, -, -, hreg, hlines⟩ := State.blockLines_tile hbad hwf hlen hinj m (Nat.le_refl m)
  have hregion : ((s.blockLines n st f bs m).tileOf n).regionOf r = (s.tileOf n).regionOf r := by
    unfold Tile.regionOf
    rw [hT.2, hreg]
  have htail := State.tailOn_region (c := m) (hregion.symm ▸ hsize)
  refine ⟨fun o ho => (State.tailOn_other _ _ _ ho).trans (hT.other ho), ?_, fun h hh => ?_⟩
  · rw [htail, hregion]
    exact Tab.get_set_same ..
  · rw [htail, hT.2]
    have hread : ∀ g, Tile.readBytes { T with regions := g } st (f h * 64) 64 = T.readBytes st (f h * 64) 64 := fun g => by
      exact congrArg (fun m : Memory => m.readBytes (f h * 64) 64) (Tile.mem_congr rfl rfl rfl st)
    exact ⟨(hread _).trans (hlines h hh).1, (hlines h hh).2⟩

end

theorem completes_blockLanded {s : State} {k : PlanId} {j i n m : Nat} {p : Plan} {q : Pass} {x : Pleat} {a : Awaited} {f : Nat → Nat}
    (hp : s.plans.find k.val = some p) (hq : p.passes.find j = some q) (hx : p.pleats[i]? = some x) (ha : p.nextFor x.rx x.ry = some a) (haj : a.pass = j)
    (hai : a.idx = i) (hf : x.step ∈ q.fetched) (hst : x.st = .resident) (hstr : p.streamed = true → j < p.staged.get 0 x.step) (hq0 : q.state i = 0)
    (hend : q.ended = false) (hn : s.wafer.phys (p.lx + x.rx) (p.ly + x.ry) = some n) (hd : s.dram.get false x.seg = true) (hbad : s.tier1Bad = .empty)
    (hfen : s.fencedAt n = false) (hpau : (s.tileOf n).paused = false) (hstop : (s.panelPower (keyPanel n)).stopped = false)
    (htb : (s.tileOf n).bad = .empty) (hm : m = if s.tier1.readLe (x.tier1 + 6) 1 ≤ 1 then 16 else 32) :
    let t0 := s.tileOf n
    let g := t0.regionOf x.region
    let st := selOf g.store
    g.enable = true → g.producer = 2 → g.occ + m ≤ g.size → (t0.mem st).wf = true →
    (∀ h, h < m → t0.taskLine st (g.base + (g.tail + h) % g.size) = some (f h) ∧ t0.lineOff st (f h) = false) →
    (∀ h h', h < m → h' < m → f h = f h' → h = h') →
    completes (.blockLanded k j i []) s (entryFields ++ ([.sessions, .frames, .suspects, .tiles, .attach, .plans, .segs, .fresh] : List Field)) fun t =>
      (∀ h, h < m → (t.tileOf n).readBytes st (f h * 64) 64 = s.tier1.readBytes (x.tier1 + 64 + (q.blocks.get 0 i * m + h) * 64) 64 ∧
        (t.tileOf n).isWritten st (f h) = true) ∧ (∀ o, o ≠ n → t.tileOf o = s.tileOf o) ∧
      (q.blocks.get 0 i + 1 < s.tier1.readLe (x.tier1 + 8) 2 → (t.tileOf n).regionOf x.region = { g with
          tail := (g.tail + m) % g.size, twrap := (g.twrap + (g.tail + m) / g.size) % 65536 } ∧
        ∃ y z, t.plans.find k.val = some y ∧ y.passes.find j = some z ∧ z.state i = 0 ∧ z.blocks.get 0 i = q.blocks.get 0 i + 1) ∧
      (q.blocks.get 0 i + 1 = s.tier1.readLe (x.tier1 + 8) 2 →
        ∃ y z, t.plans.find k.val = some y ∧ y.passes.find j = some z ∧ z.state i = 1) := by
  intro t0 g st hen hprod hroom hwf hline hinj
  have hm0 : 0 < m := by rw [hm]; split <;> decide
  obtain ⟨src, hsrc⟩ : ∃ src, src = x.tier1 + 64 + q.blocks.get 0 i * m * 64 := ⟨_, rfl⟩
  obtain ⟨bs, hbs⟩ : ∃ bs, bs = s.tier1.readBytes src (m * 64) := ⟨_, rfl⟩
  obtain ⟨b, hb⟩ : ∃ b, b = s.tierRead src (m * 64) := ⟨_, rfl⟩
  have hsb : Step 17593192677376 s b := hb ▸ State.tierRead_sound hbad _ _ (by decide)
  have hbt : ∀ o, b.tileOf o = s.tileOf o := fun o => by
    unfold State.tileOf
    rw [hsb.tiles (by decide)]
  have hrow : ∀ h, h < m → (bs.drop (h * 64)).take 64 = s.tier1.readBytes (x.tier1 + 64 + (q.blocks.get 0 i * m + h) * 64) 64 := fun h hh => by
    rw [hbs, Memory.line_readBytes _ _ hh, hsrc, Nat.add_assoc (x.tier1 + 64), ← Nat.add_mul]
  have hland : b.landBlock n x bs m = .done ((b.blockLines n st f bs m).tailOn n x.region m) := by
    have hdone := State.landBlock_done (s := b) (k := n) (c := m) (x := x) (f := f)
    rw [hbt] at hdone
    refine hdone ?_ hroom hline bs
    show (g.enable && g.producer == 2) = true
    rw [hen, hprod]
    rfl
  obtain ⟨u, hu⟩ : ∃ u, u = (b.blockLines n st f bs m).tailOn n x.region m := ⟨_, rfl⟩
  have hbu : Step 142740553728 b u := hu ▸ State.tailOn_step (b.blockLines_step n st f bs m) (by decide)
  have htile := State.blockLanded_tile (s := b) (st := st) (f := f) (n := n) (m := m) (r := x.region) (bs := bs) (by rw [hbt]; exact htb)
    (by rw [hbt]; exact hwf) (fun h hh => by rw [hrow h hh, Memory.length_readBytes]) hinj (by rw [hbt]; show g.size ≠ 0; omega)
  rw [← hu, hbt] at htile
  obtain ⟨hother, hregion, hlines⟩ := htile
  subst hsrc hbs hb
  rw [← hu] at hland
  have hexec := exec_blockLanded_due hp hq hx ha haj hai hf hst hstr hq0 hn hd hbad hfen hpau hstop hm hland
  obtain ⟨v, hv⟩ : ∃ v, v = u.segCount x.seg 0xA (m * 64) := ⟨_, rfl⟩
  have hvt : ∀ o, v.tileOf o = u.tileOf o := fun o => by rw [hv]; rfl
  have hvplans : v.plans = s.plans := by
    rw [hv]
    exact (hbu.plans (by decide)).trans (hsb.plans (by decide))
  have hvwafer : v.wafer = s.wafer := by
    rw [hv]
    exact (hbu.wafer (by decide)).trans (hsb.wafer (by decide))
  rw [← hv] at hexec
  obtain ⟨w, hw⟩ : ∃ w, w = v.blockOn k.val j i x (s.tier1.readLe (x.tier1 + 8) 2) := ⟨_, rfl⟩
  have hout := State.blockOn_outcome (s := v) (k := k.val) (j := j) (i := i) (n := n) (x := x) (all := s.tier1.readLe (x.tier1 + 8) 2)
    (by rw [hvplans]; exact hp) hq (by rw [hvwafer]; exact hn)
  rw [← hw] at hexec hout
  obtain ⟨hwo, ⟨r, tg, hwn⟩, hwlt, y, z, hy, hz, hze, hzlt, hzlast⟩ := hout
  obtain ⟨y', hy', hyz⟩ := State.passGone_find hy hz (hze.trans hend)
  refine completes_of hexec (exec_blockLanded s) (by decide) ⟨fun h hh => ?_, fun o ho => ?_, fun hlt => ⟨?_, y', z, hy', hyz, ?_⟩, fun hlast => ⟨y', z, hy', hyz, ?_⟩⟩
  · have hread : ∀ T : Tile, Tile.readBytes { T with regions := r, tags := tg } st (f h * 64) 64 = T.readBytes st (f h * 64) 64 := fun T =>
      congrArg (fun m : Memory => m.readBytes (f h * 64) 64) (Tile.mem_congr rfl rfl rfl st)
    obtain ⟨h1, h2⟩ := hlines h hh
    show (w.tileOf n).readBytes st (f h * 64) 64 = _ ∧ (w.tileOf n).isWritten st (f h) = true
    rw [hwn, hvt]
    exact ⟨(hread _).trans (h1.trans (hrow h hh)), h2⟩
  · exact (hwo o ho).trans ((hvt o).trans ((hother o ho).trans (hbt o)))
  · show (w.tileOf n).regionOf x.region = _
    rw [hwlt hlt, hvt]
    exact hregion
  · obtain ⟨h1, h2⟩ := hzlt hlt
    exact ⟨h1.trans hq0, h2⟩
  · exact hzlast (by omega)

end Sys2Proof.Machine
end

section
/-! The end of a pass (R162, R209), and the obligation about landing lines. -/

namespace Sys2Proof.Machine

/-- Two loops whose turns agree wherever a property holds that the turns keep. -/
theorem each_agree {α : Type} (P : State → Prop) {f g : State → α → State} (hP : ∀ u x, P u → P (g u x)) (hfg : ∀ u x, P u → f u x = g u x)
    (l : List α) {s : State} (h : P s) : each l f s = each l g s := by
  induction l generalizing s with
  | nil => rfl
  | cons a r ih =>
    show each r f (f s a) = each r g (g s a)
    rw [hfg s a h]
    exact ih (hP s a h)

section

variable {s t : State} {k : PlanId} {j : Nat} {p : Plan} {q : Pass}

/-- Every pass of a plan under a number has ended. -/
def State.passesEnded (s : State) (k j : Nat) : Prop := ∀ p, s.plans.find k = some p → ∀ c ∈ p.passes.cells, c.1 = j → c.2.ended = true

theorem State.passesEnded_passMap {f : Pass → Pass} {i m n : Nat} (h : s.passesEnded n j) (hf : ∀ z, (f z).ended = z.ended) :
    (s.planMap i fun p => p.passMap m f).passesEnded n j := fun p hp c hc hcj => by
  by_cases hi : n = i
  · subst hi
    cases hs : s.plans.find n with
    | none =>
      rw [State.plans_planMap, hs] at hp
      cases hp
    | some y =>
      rw [State.plans_planMap_same hs] at hp
      rw [← Option.some.inj hp] at hc
      obtain ⟨d, hd, rfl⟩ := List.mem_map.1 hc
      have hold := h y hs d hd hcj
      show (if d.1 = m then f d.2 else d.2).ended = true
      split
      · exact (hf d.2).trans hold
      · exact hold
  · rw [State.plans_planMap_other hi] at hp
    exact h p hp c hc hcj

theorem State.passesEnded_frameDone {n : Nat} (h : s.passesEnded n j) (key : Nat) (st : Status) (det : Nat) : (s.frameDone key st det).passesEnded n j := by
  have hlane : ∀ f : Frame, (s.laneLeave f key).passesEnded n j := fun f => by
    unfold State.laneLeave
    split
    · exact h
    · exact State.passesEnded_passMap (f := fun q => { q with lanes := q.lanes.map fun l => if l.frame = key then { l with live := false } else l }) h
        fun _ => rfl
  unfold State.frameDone
  split
  · exact h
  next f _ =>
    have hplans : ∀ (u : State), u.plans = (s.laneLeave f key).plans → u.passesEnded n j := fun u hu p hp => hlane f p (hu ▸ hp)
    refine hplans _ ?_
    dsimp only
    rw [(State.slotCheck_step (Step.refl 72075891611274376 _) (by decide)).plans (by decide), State.entryDone_plans]
    split
    · rfl
    · split <;> rfl

theorem State.passesEnded_each {α : Type} {n : Nat} {f : State → α → State} (l : List α) (hf : ∀ u x, u.passesEnded n j → (f u x).passesEnded n j)
    (h : s.passesEnded n j) : (each l f s).passesEnded n j := by
  induction l generalizing s with
  | nil => exact h
  | cons a r ih => exact ih (hf s a h)

/-- The frames of lanes that leave have no entry left. -/
theorem State.lanesDone_entry (l : List Lane) {x : Lane} {f : Frame} (h : s.entryOf x.frame f.idx = none ∨ x ∈ l ∧ s.frames.find x.frame = some f) :
    (each l (fun y l => (y.bump64 0x2403 2).frameDone l.frame .ok 0) s).entryOf x.frame f.idx = none := by
  induction l generalizing s with
  | nil => exact h.resolve_right fun ⟨hm, _⟩ => List.not_mem_nil hm
  | cons a r ih =>
    refine ih (s := (s.bump64 0x2403 2).frameDone a.frame .ok 0) ?_
    have hleave := State.entryOf_none_frameDone (s := s.bump64 0x2403 2) (key := a.frame) (st := .ok) (id := x.frame) (idx := f.idx)
    by_cases hx : x.frame = a.frame
    · refine .inl (hleave (h.imp (State.entryOf_congr rfl ..).trans fun ⟨_, hf⟩ => ⟨hx, f, ?_, rfl⟩) 0)
      rw [← hx]
      exact hf
    · rcases h with h | ⟨hm, hf⟩
      · exact .inl (hleave (.inl ((State.entryOf_congr rfl ..).trans h)) 0)
      · refine .inr ⟨(List.mem_cons.1 hm).resolve_left fun he => hx (congrArg _ he), ?_⟩
        rw [State.frameDone_find, if_neg hx]
        exact hf

/-- The frames still in a pass leave it with OK. -/
def State.passServed (s : State) (k j : Nat) (q : Pass) : State :=
  each (q.lanes.filter fun l => l.live) (fun y l => (y.bump64 0x2403 2).frameDone l.frame .ok 0)
    (s.planMap k fun y => y.passMap j fun z => { z with ended := true })

theorem exec_passEnd_due (hp : s.plans.find k.val = some p) (hq : p.passes.find j = some q) (he : q.ended = false)
    (hl : q.landings.length = p.steps.length) (hdue : q.b + p.passLen ≤ s.beat.n) (hs : s.suspects = []) :
    exec (.passEnd k j) s = .next (((s.passServed k.val j q).passGone k.val j).deactivated k.val) := by
  have hloop : ∀ l : List Lane, each l (fun y l =>
      let j := match y.frames.find l.frame with
        | some f => f.job
        | none => p.job
      let st := y.suspectStatus j (s.wafer.regionKeys p.region) []
      if st = .ok then (y.bump64 0x2403 2).frameDone l.frame .ok 0
      else (y.faultEnd st).frameDone l.frame st (y.suspectTouchDet (s.wafer.regionKeys p.region) []))
      (s.planMap k.val fun y => y.passMap j fun z => { z with ended := true }) =
      each l (fun y l => (y.bump64 0x2403 2).frameDone l.frame .ok 0) (s.planMap k.val fun y => y.passMap j fun z => { z with ended := true }) := fun l =>
    each_agree (fun u => u.suspects = [])
      (fun u x hu => ((State.frameDone_step (Step.refl 72080289657801864 (u.bump64 0x2403 2)) (by decide)).suspects (by decide)).trans hu)
      (fun u x hu => if_pos (State.suspectStatus_none hu ..)) l hs
  show execPassEnd k j s = _
  unfold execPassEnd
  simp only [hp, hq]
  refine (whenDue_true ?_ _ _).trans ?_
  · rw [he, hl, beq_self_eq_true, decide_eq_true hdue]
    rfl
  · exact congrArg (fun u : State => Host.Outcome.next ((u.passGone k.val j).deactivated k.val)) (hloop _)

theorem State.passServed_plan (hp : s.plans.find k.val = some p) (hq : p.passes.find j = some q) :
    ∃ y, (s.passServed k.val j q).plans.find k.val = some y ∧ y = { p with passes := y.passes } ∧ (s.passServed k.val j q).passesEnded k.val j := by
  obtain ⟨y0, hy0, hyp0, -⟩ := State.passMap_find hp hq fun z => { z with ended := true }
  have hby : State.plansBy (fun _ _ => True) (s.planMap k.val fun y => y.passMap j fun z => { z with ended := true }) (s.passServed k.val j q) :=
    State.plansBy_each steady_true _ fun u _ _ => State.plansBy_trans steady_true (State.plansBy_same steady_true (t := u.bump64 0x2403 2) rfl)
      (State.plansBy_frameDone steady_true (fun _ _ => trivial) _ _ _)
  obtain ⟨y, hy, hyp, -⟩ := hby k.val y0 hy0
  refine ⟨y, hy, by rw [hyp, hyp0], ?_⟩
  refine State.passesEnded_each _ (fun u x hu => State.passesEnded_frameDone (s := u.bump64 0x2403 2) hu _ _ _) fun z hz c hc hcj => ?_
  rw [State.plans_planMap_same hp] at hz
  rw [← Option.some.inj hz] at hc
  obtain ⟨d, -, rfl⟩ := List.mem_map.1 hc
  exact congrArg Pass.ended (if_pos hcj)

theorem State.deactivated_none {n : Nat} (hp : s.plans.find n = some p) (hd : p.deactivator = none) : s.deactivated n = s := by
  unfold State.deactivated
  simp only [hp, hd]

theorem completes_passEnd (hp : s.plans.find k.val = some p) (hq : p.passes.find j = some q) (he : q.ended = false)
    (hl : q.landings.length = p.steps.length) (hdue : q.b + p.passLen ≤ s.beat.n) (hs : s.suspects = []) (hd : p.deactivator = none) :
    completes (.passEnd k j) s (entryFields ++ ([.sessions, .frames, .skips, .setSkips, .tiles, .attach, .plans] : List Field)) fun t =>
      (∀ l ∈ q.lanes, l.live = true → t.frames.find l.frame = none ∧
        ∀ f, s.frames.find l.frame = some f → t.entryOf l.frame f.idx = none) ∧
      (∀ i, (∀ l ∈ q.lanes, l.live = true → l.frame ≠ i) → t.frames.find i = s.frames.find i) ∧
      ∃ y, t.plans.find k.val = some y ∧ ∀ z, y.passes.find j = some z → z.ended = true := by
  have hx := exec_passEnd_due (k := k) hp hq he hl hdue hs
  obtain ⟨y, hy, hyp, hended⟩ := State.passServed_plan hp hq
  have hgone : ((s.passServed k.val j q).passGone k.val j).plans.find k.val = some _ := State.plans_planMap_same hy
  rw [State.deactivated_none hgone (by rw [hyp]; exact hd)] at hx
  have hfind : ∀ i, (s.passServed k.val j q).frames.find i = if ∃ x ∈ q.lanes.filter (fun l : Lane => l.live), x.frame = i then none else s.frames.find i := fun i =>
    State.lanesDone_find (s := s.planMap k.val fun y => y.passMap j fun z => { z with ended := true })
      (fun y l => (y.bump64 0x2403 2).frameDone l.frame .ok 0) _ (fun u x _ i => State.frameDone_find x.frame i _ _) i
  refine completes_of hx (exec_passEnd s) (by decide) ⟨fun l hlq hlive => ⟨?_, fun f hf => ?_⟩, fun i hi => ?_, _, hgone, fun z hz => ?_⟩
  · exact (hfind _).trans (if_pos ⟨l, List.mem_filter.2 ⟨hlq, hlive⟩, rfl⟩)
  · exact (State.entryOf_congr rfl ..).trans (State.lanesDone_entry _ (.inr ⟨List.mem_filter.2 ⟨hlq, hlive⟩, hf⟩))
  · refine (hfind _).trans (if_neg fun ⟨l, hm, he⟩ => ?_)
    obtain ⟨h1, h2⟩ := List.mem_filter.1 hm
    exact hi l h1 h2 he
  · exact hended y hy _ (List.mem_of_mem_filter (mem_of_findCell hz)) rfl

end

end Sys2Proof.Machine

namespace Sys2Proof.Proofs

open Sys2Proof.Machine

/-- Settles O31: a block of a resident pleat lands line by line, a landing line ends the lanes that came too late, and the end of a pass ends the
frames still in it. -/
theorem landingAndPassLines : Obligations.LandingAndPassLines := by
  unfold Obligations.LandingAndPassLines
  refine ⟨?_, ?_, ?_⟩
  · intro s k j i n m p q x a f hp hq hx ha haj hai hf hst hstr hq0 hend hn hd hbad hfen hpau hstop htb hm
    exact completes_blockLanded hp hq hx ha haj hai hf hst hstr hq0 hend hn hd hbad hfen hpau hstop htb hm
  · intro s k j step p q hp hq he hl hf hdue
    exact completes_landingLine hp hq he hl hf hdue
  · intro s k j p q hp hq he hl hdue hs hd
    exact completes_passEnd hp hq he hl hdue hs hd

end Sys2Proof.Proofs
end

section
/-! Network ports: received frames that fail a check, links that fall, and the frame that a port sends next (R282 to R286, R293 to R295). -/

namespace Sys2Proof.Machine

/-! ### Tables with one cell for each key -/

/-- A filter of a table with one cell for each key. -/
theorem Tab.find_keep {α : Type} {t : Tab α} (h : t.rises) (f : Nat → α → Bool) (k : Nat) : (t.keep f).find k = (t.find k).filter (f k) := by
  cases ht : t.find k with
  | none =>
    cases hk : (t.keep f).find k with
    | none => rfl
    | some v =>
      rw [Tab.find_of_mem h (List.mem_of_mem_filter (mem_of_findCell hk))] at ht
      cases ht
  | some v =>
    cases hf : f k v with
    | true =>
      rw [Option.filter_some_pos hf]
      exact findCell_filter_passes ht hf
    | false =>
      rw [Option.filter_some_neg hf]
      cases hk : (t.keep f).find k with
      | none => rfl
      | some w =>
        obtain ⟨hm, hw⟩ := List.mem_filter.1 (mem_of_findCell hk)
        have hv := Tab.find_of_mem h hm
        rw [ht] at hv
        rw [← Option.some.inj hv, hf] at hw
        cases hw

section

variable {s : State} {port : PortId} {fr : EthFrame}

/-! ### Received frames (R282, R285, R286) -/

/-- The codewords of a received frame are counted. -/
def State.fecCounted (s : State) (p : Nat) (fr : EthFrame) : State := (s.portCount p 6 fr.fecFixed).portCount p 7 fr.fecBad

/-- A received frame has failed a check, counted in a sub-index of its port. -/
def State.portDrop (s : State) (p : Nat) (fr : EthFrame) (sub : Nat) : State := (s.fecCounted p fr).portCount p sub 1

theorem State.fecCounted_cell (s : State) (p : Nat) (fr : EthFrame) : (s.fecCounted p fr).cell (0x2820 + p) 6 = (s.cell (0x2820 + p) 6 + fr.fecFixed) % 2 ^ 64 ∧
    (s.fecCounted p fr).cell (0x2820 + p) 7 = (s.cell (0x2820 + p) 7 + fr.fecBad) % 2 ^ 64 ∧
    ∀ i j, j < 256 → (i, j) ≠ (0x2820 + p, 6) → (i, j) ≠ (0x2820 + p, 7) → (s.fecCounted p fr).cell i j = s.cell i j := by
  unfold State.fecCounted State.portCount
  refine ⟨?_, ?_, fun i j hj h6 h7 => ?_⟩
  · rw [State.cell_count_other _ (by decide) (by decide) (by simp), State.cell_count_same]
  · rw [State.cell_count_same, State.cell_count_other _ (by decide) (by decide) (by simp)]
  · rw [State.cell_count_other _ hj (by decide) h7, State.cell_count_other _ hj (by decide) h6]

theorem State.portDrop_cell (s : State) (p : Nat) (fr : EthFrame) {sub : Nat} (hs : sub < 256) (h6 : sub ≠ 6) (h7 : sub ≠ 7) :
    (s.portDrop p fr sub).cell (0x2820 + p) sub = (s.cell (0x2820 + p) sub + 1) % 2 ^ 64 ∧
    (s.portDrop p fr sub).cell (0x2820 + p) 6 = (s.cell (0x2820 + p) 6 + fr.fecFixed) % 2 ^ 64 ∧
    (s.portDrop p fr sub).cell (0x2820 + p) 7 = (s.cell (0x2820 + p) 7 + fr.fecBad) % 2 ^ 64 ∧
    s.otherCells [(0x2820 + p, sub), (0x2820 + p, 6), (0x2820 + p, 7)] (s.portDrop p fr sub) := by
  obtain ⟨c6, c7, co⟩ := s.fecCounted_cell p fr
  unfold State.portDrop State.portCount
  refine ⟨?_, ?_, ?_, fun i j hj hn => ?_⟩
  · rw [State.cell_count_same, co _ _ hs (by simpa using h6) (by simpa using h7)]
  · rw [State.cell_count_other _ (by decide) hs (by simpa using h6.symm), c6]
  · rw [State.cell_count_other _ (by decide) hs (by simpa using h7.symm), c7]
  · simp only [List.mem_cons, List.not_mem_nil, or_false, not_or] at hn
    obtain ⟨n1, n6, n7⟩ := hn
    rw [State.cell_count_other _ hj hs n1, co i j hj n6 n7]

/-- The checks of a frame's addresses and of its ORA header, in their order (R285, R254). -/
def State.addressChecks (s : State) (p : Nat) (fr : EthFrame) : State :=
  let own := s.ownNode
  let src := fr.ora.srcNode.toNat
  if fr.dstMac.toNat ≠ s.nodeMac own then (s.portDrop p fr 0xA).fire 0x0805 p 0
  else if src = own then (s.portDrop p fr 0xA).fire 0x0809 p 0
  else if fr.srcMac.toNat ≠ s.nodeMac src then (s.portDrop p fr 0xA).fire 0x0805 p 0
  else if fr.len < 74 ∨ fr.ora.opcode.toNat = 0 ∨ 10 < fr.ora.opcode.toNat then
    (((s.portDrop p fr 3).portCount p 4 fr.len).bump64 0x2702 3).fire 0x0841 fr.ora.dstConn.toNat 0
  else (s.portDrop p fr 0xC).fire 0x0808 p 0

/-- What becomes of a received frame: the first check that fails discards it. -/
def State.discarded (s : State) (p : Nat) (fr : EthFrame) : State :=
  if fr.fcsOk = false ∨ 0 < fr.fecBad then
    (((List.range fr.fecBad).foldl (fun a _ => a.fire 0x0803 p 0) (s.fecCounted p fr)).portCount p 5 1).fire 0x0802 p 0
  else if fr.len < 64 ∨ 74 + s.maxPayload < fr.len then s.portDrop p fr 0xB
  else if fr.macControl then (s.portDrop p fr 8).fire 0x0804 p 0
  else if fr.tagged ∨ fr.etherType.toNat ≠ s.setting 0x2700 2 then (s.portDrop p fr 9).fire 0x0805 p 0
  else s.addressChecks p fr

theorem State.portDrop_step (s : State) (p : Nat) (fr : EthFrame) (sub : Nat) : Step 4194304 s (s.portDrop p fr sub) :=
  State.count_step (State.count_step (State.count_step (Step.refl _ s) (by decide)) (by decide)) (by decide)

theorem State.portDrop_stamp (s : State) (p : Nat) (fr : EthFrame) (sub : Nat) : (s.portDrop p fr sub).stamp = s.stamp :=
  State.stamp_congr ((s.portDrop_step p fr sub).beat (by decide)) ((s.portDrop_step p fr sub).now (by decide))

theorem exec_discard_due (hl : (s.portOf port.val).link = true) (fr : EthFrame) : exec (.receivedFrameDiscard port fr) s = .next (s.discarded port.val fr) :=
  whenDue_true hl _ _

/-- A received frame that a check discards. -/
theorem completes_discard (hl : (s.portOf port.val).link = true) {t : State} {subs : List (Nat × Nat)} {q : State → Prop} (ht : s.discarded port.val fr = t)
    (hs : ∀ e ∈ subs, t.cell e.1 e.2 = (s.cell e.1 e.2 + 1) % 2 ^ 64) (h6 : t.cell (0x2820 + port.val) 6 = (s.cell (0x2820 + port.val) 6 + fr.fecFixed) % 2 ^ 64)
    (h7 : t.cell (0x2820 + port.val) 7 = (s.cell (0x2820 + port.val) 7 + fr.fecBad) % 2 ^ 64) (hq : q t) :
    completes (.receivedFrameDiscard port fr) s [.od, .det, .log, .logMade, .faultBuffer] fun t =>
      (∀ e ∈ subs, t.cell e.1 e.2 = (s.cell e.1 e.2 + 1) % 2 ^ 64) ∧
      t.cell (0x2820 + port.val) 6 = (s.cell (0x2820 + port.val) 6 + fr.fecFixed) % 2 ^ 64 ∧
      t.cell (0x2820 + port.val) 7 = (s.cell (0x2820 + port.val) 7 + fr.fecBad) % 2 ^ 64 ∧ q t :=
  completes_of ((exec_discard_due hl fr).trans (congrArg _ ht)) (exec_receivedFrameDiscard s) (by decide) ⟨hs, h6, h7, hq⟩

/-- A received frame that is counted in one sub-index fires its check's detector. -/
theorem completes_portDrop (hl : (s.portOf port.val).link = true) {sub det : Nat} (hs : sub < 256) (h6 : sub ≠ 6) (h7 : sub ≠ 7)
    (ht : s.discarded port.val fr = (s.portDrop port.val fr sub).fire det port.val 0) :
    completes (.receivedFrameDiscard port fr) s [.od, .det, .log, .logMade, .faultBuffer] fun t =>
      (∀ e ∈ [(0x2820 + port.val, sub)], t.cell e.1 e.2 = (s.cell e.1 e.2 + 1) % 2 ^ 64) ∧
      t.cell (0x2820 + port.val) 6 = (s.cell (0x2820 + port.val) 6 + fr.fecFixed) % 2 ^ 64 ∧
      t.cell (0x2820 + port.val) 7 = (s.cell (0x2820 + port.val) 7 + fr.fecBad) % 2 ^ 64 ∧ s.firedOnce det t ∧
      s.otherCells [(0x2820 + port.val, sub), (0x2820 + port.val, 6), (0x2820 + port.val, 7)] t := by
  obtain ⟨c1, c6, c7, co⟩ := s.portDrop_cell port.val fr hs h6 h7
  have hod := State.fire_od (s.portDrop port.val fr sub) (x1 := det) (x2 := port.val) (x3 := 0)
  refine completes_discard hl ht (fun e he => ?_) ((State.cell_congr hod ..).trans c6) ((State.cell_congr hod ..).trans c7)
    ⟨State.firedOnce_fire rfl (s.portDrop_stamp ..) _ _ _, State.otherCells_congr co hod⟩
  rw [List.mem_singleton.1 he]
  exact (State.cell_congr hod ..).trans c1

/-- A frame of a wrong length. -/
theorem completes_lengthDrop (hl : (s.portOf port.val).link = true) (ht : s.discarded port.val fr = s.portDrop port.val fr 0xB) :
    completes (.receivedFrameDiscard port fr) s [.od, .det, .log, .logMade, .faultBuffer] fun t =>
      (∀ e ∈ [(0x2820 + port.val, 0xB)], t.cell e.1 e.2 = (s.cell e.1 e.2 + 1) % 2 ^ 64) ∧
      t.cell (0x2820 + port.val) 6 = (s.cell (0x2820 + port.val) 6 + fr.fecFixed) % 2 ^ 64 ∧
      t.cell (0x2820 + port.val) 7 = (s.cell (0x2820 + port.val) 7 + fr.fecBad) % 2 ^ 64 ∧ t.det = s.det ∧
      s.otherCells [(0x2820 + port.val, 0xB), (0x2820 + port.val, 6), (0x2820 + port.val, 7)] t := by
  obtain ⟨c1, c6, c7, co⟩ := s.portDrop_cell port.val fr (sub := 0xB) (by decide) (by decide) (by decide)
  refine completes_discard hl ht (fun e he => ?_) c6 c7 ⟨rfl, co⟩
  rw [List.mem_singleton.1 he]
  exact c1

/-- A frame with a reserved opcode, or too short for the header, has passed the port and is malformed (R254). -/
theorem completes_malformed (hl : (s.portOf port.val).link = true) (ht : s.discarded port.val fr =
      (((s.portDrop port.val fr 3).portCount port.val 4 fr.len).bump64 0x2702 3).fire 0x0841 fr.ora.dstConn.toNat 0) :
    completes (.receivedFrameDiscard port fr) s [.od, .det, .log, .logMade, .faultBuffer] fun t =>
      (∀ e ∈ [(0x2820 + port.val, 3), (0x2702, 3)], t.cell e.1 e.2 = (s.cell e.1 e.2 + 1) % 2 ^ 64) ∧
      t.cell (0x2820 + port.val) 6 = (s.cell (0x2820 + port.val) 6 + fr.fecFixed) % 2 ^ 64 ∧
      t.cell (0x2820 + port.val) 7 = (s.cell (0x2820 + port.val) 7 + fr.fecBad) % 2 ^ 64 ∧ s.firedOnce 0x0841 t ∧
      t.cell (0x2820 + port.val) 4 = (s.cell (0x2820 + port.val) 4 + fr.len) % 2 ^ 64 ∧
      s.otherCells ((0x2702, 3) :: ([3, 4, 6, 7].map fun e => (0x2820 + port.val, e))) t := by
  obtain ⟨c1, c6, c7, co⟩ := s.portDrop_cell port.val fr (sub := 3) (by decide) (by decide) (by decide)
  obtain ⟨x, hx⟩ : ∃ x, x = ((s.portDrop port.val fr 3).portCount port.val 4 fr.len).bump64 0x2702 3 := ⟨_, rfl⟩
  have hk : Step 4194304 s x := by
    rw [hx]
    exact State.count_step (State.count_step (s.portDrop_step port.val fr 3) (by decide)) (by decide)
  have hod : (x.fire 0x0841 fr.ora.dstConn.toNat 0).od = x.od := State.fire_od ..
  have hcell : ∀ {i j : Nat}, j < 256 → (i, j) ≠ (0x2702, 3) → (i, j) ≠ (0x2820 + port.val, 4) →
      (x.fire 0x0841 fr.ora.dstConn.toNat 0).cell i j = (s.portDrop port.val fr 3).cell i j := fun hj h1 h2 => by
    rw [State.cell_congr hod, hx]
    exact (State.cell_count_other _ hj (by decide) h1).trans (State.cell_count_other _ hj (by decide) h2)
  have hne : ∀ {j : Nat}, (0x2820 + port.val, j) ≠ (0x2702, 3) := by simp; omega
  have hfire : s.firedOnce 0x0841 (x.fire 0x0841 fr.ora.dstConn.toNat 0) :=
    State.firedOnce_fire (hk.det (by decide)) (State.stamp_congr (hk.beat (by decide)) (hk.now (by decide))) _ _ _
  rw [← hx] at ht
  refine completes_discard hl ht (fun e he => ?_) ?_ ?_ ⟨hfire, ?_, fun i j hj hn => ?_⟩
  · rcases List.mem_cons.1 he with rfl | he
    · exact (hcell (by decide : 3 < 256) hne (by simp)).trans c1
    · rw [List.mem_singleton.1 he, State.cell_congr hod, hx, State.cell_bump64_same]
      refine congrArg (fun n => (n + 1) % 2 ^ 64) ((State.cell_count_other _ (by decide) (by decide) hne.symm).trans ?_)
      refine co _ _ (by decide) ?_
      simp only [List.mem_cons, List.not_mem_nil, or_false, not_or]
      exact ⟨hne.symm, by simp, by simp⟩
  · rw [hcell (by decide) hne (by simp)]
    exact c6
  · rw [hcell (by decide) hne (by simp)]
    exact c7
  · rw [State.cell_congr hod, hx]
    refine (State.cell_count_other _ (by decide) (by decide) hne).trans ((State.cell_count_same ..).trans ?_)
    rw [co _ _ (by decide) (by simp)]
  · simp only [List.map_cons, List.map_nil, List.mem_cons, List.not_mem_nil, or_false, not_or] at hn
    obtain ⟨n1, n3, n4, n6, n7⟩ := hn
    rw [hcell hj n1 n4]
    exact co i j hj (by simp only [List.mem_cons, List.not_mem_nil, or_false, not_or]; exact ⟨n3, n6, n7⟩)

/-- Firing a detector again and again. -/
theorem State.fires_det (p d : Nat) : ∀ (n : Nat) (s : State), let t := (List.range n).foldl (fun a _ => a.fire d p 0) s
    t.od = s.od ∧ (t.detOf d).count % 2 ^ 64 = ((s.detOf d).count + n) % 2 ^ 64 ∧ (0 < n → (t.detOf d).count < 2 ^ 64) ∧ ∀ e, e ≠ d → t.detOf e = s.detOf e := by
  intro n
  induction n with
  | zero => exact fun s => ⟨rfl, rfl, fun h => absurd h (Nat.lt_irrefl 0), fun _ _ => rfl⟩
  | succ n ih =>
    intro s
    rw [List.range_succ, List.foldl_append]
    obtain ⟨h1, h2, -, h4⟩ := ih s
    generalize (List.range n).foldl (fun a _ => a.fire d p 0) s = u at *
    obtain ⟨f1, -, f3⟩ := State.firedOnce_fire (s := u) rfl rfl d p 0
    refine ⟨(State.fire_od ..).trans h1, ?_, fun _ => ?_, fun e he => (f3 e he).trans (h4 e he)⟩
    · show ((u.fire d p 0).detOf d).count % 2 ^ 64 = _
      rw [f1]
      omega
    · show ((u.fire d p 0).detOf d).count < 2 ^ 64
      rw [f1]
      exact Nat.mod_lt _ (by decide)

/-- A frame with uncorrectable codewords. -/
theorem completes_codewords (hl : (s.portOf port.val).link = true) (hb : 0 < fr.fecBad) :
    completes (.receivedFrameDiscard port fr) s [.od, .det, .log, .logMade, .faultBuffer] fun t =>
      (∀ e ∈ [(0x2820 + port.val, 5)], t.cell e.1 e.2 = (s.cell e.1 e.2 + 1) % 2 ^ 64) ∧
      t.cell (0x2820 + port.val) 6 = (s.cell (0x2820 + port.val) 6 + fr.fecFixed) % 2 ^ 64 ∧
      t.cell (0x2820 + port.val) 7 = (s.cell (0x2820 + port.val) 7 + fr.fecBad) % 2 ^ 64 ∧
      (t.detOf 0x0803).count = ((s.detOf 0x0803).count + fr.fecBad) % 2 ^ 64 ∧
      (t.detOf 0x0802).count = ((s.detOf 0x0802).count + 1) % 2 ^ 64 ∧
      s.otherCells [(0x2820 + port.val, 5), (0x2820 + port.val, 6), (0x2820 + port.val, 7)] t := by
  obtain ⟨c6, c7, co⟩ := s.fecCounted_cell port.val fr
  have hx : s.discarded port.val fr = _ := if_pos (.inr hb)
  obtain ⟨f1, f2, f3, f4⟩ := State.fires_det port.val 0x0803 fr.fecBad (s.fecCounted port.val fr)
  generalize (List.range fr.fecBad).foldl (fun a _ => a.fire 0x0803 port.val 0) (s.fecCounted port.val fr) = u at *
  have hod : ((u.portCount port.val 5 1).fire 0x0802 port.val 0).od = (u.portCount port.val 5 1).od := State.fire_od ..
  obtain ⟨g1, -, g3⟩ := State.firedOnce_fire (s := u) (x := u.portCount port.val 5 1) rfl (by rfl) 0x0802 port.val 0
  have hcell : ∀ {i j : Nat}, j < 256 → (i, j) ≠ (0x2820 + port.val, 5) →
      ((u.portCount port.val 5 1).fire 0x0802 port.val 0).cell i j = (s.fecCounted port.val fr).cell i j := fun hj h => by
    rw [State.cell_congr hod]
    exact (State.cell_count_other _ hj (by decide) h).trans (State.cell_congr f1 ..)
  refine completes_discard hl hx (fun e he => ?_) ((hcell (by decide) (by simp)).trans c6) ((hcell (by decide) (by simp)).trans c7)
    ⟨?_, ?_, fun i j hj hn => ?_⟩
  · rw [List.mem_singleton.1 he, State.cell_congr hod]
    refine (State.cell_count_same ..).trans ?_
    rw [State.cell_congr f1, co _ _ (by decide) (by simp) (by simp)]
  · rw [g3 _ (by decide), ← Nat.mod_eq_of_lt (f3 hb), f2]
    rfl
  · rw [g1, f4 _ (by decide)]
    rfl
  · simp only [List.mem_cons, List.not_mem_nil, or_false, not_or] at hn
    obtain ⟨n5, n6, n7⟩ := hn
    rw [hcell hj n5, co i j hj n6 n7]

end

end Sys2Proof.Machine
end

section
/-! Network ports: links that rise and fall, the frame that a port sends next, node entries and shapers (R283, R290 to R298). -/

namespace Sys2Proof.Machine

section

variable {s : State} {port : PortId}

/-! ### Links (R283, R290, R294) -/

/-- What a link that falls leaves. -/
def State.linkFell (s t : State) (p : Nat) : Prop :=
  t.portOf p = { s.portOf p with link := false, downs := ((s.portOf p).downs + 1) % 256, queues := .empty } ∧
    s.hasRaised t 0xFF52 0x0801 ∧ (∀ q, q ≠ p → t.portOf q = s.portOf q) ∧
    ∀ n, t.nodeOf n = if (s.nodeOf n).st = .dynamic ∧ (s.nodeOf n).port = p then node0 else s.nodeOf n

/-- A port's entry is set. -/
theorem State.portOf_of_set {t : State} {p : Nat} {y : Port} (h : t.ports = s.ports.set p y) : t.portOf p = y ∧ ∀ q, q ≠ p → t.portOf q = s.portOf q := by
  unfold State.portOf
  rw [h]
  exact ⟨Tab.get_set_same .., fun q hq => Tab.get_set_other _ _ _ hq⟩

theorem State.portFell_ports (s : State) (p : Nat) : (s.portFell p).ports =
    s.ports.set p { s.portOf p with link := false, downs := ((s.portOf p).downs + 1) % 256, queues := .empty } := State.fire_ports ..

theorem State.portFell_nodes (s : State) (p : Nat) : (s.portFell p).nodes = s.nodes.keep fun _ n => !(n.st == .dynamic && n.port == p) := State.fire_nodes ..

theorem State.nodeOf_keep {t : State} (hs : s.nodes.rises) {f : NodeEnt → Bool} (ht : t.nodes = s.nodes.keep fun _ n => f n) (n : Nat) :
    t.nodeOf n = if f (s.nodeOf n) = true then s.nodeOf n else node0 := by
  unfold State.nodeOf Tab.get
  rw [ht, Tab.find_keep hs]
  cases s.nodes.find n with
  | none => exact (ite_self _).symm
  | some x =>
    show (Option.filter _ (some x)).getD node0 = if f x = true then x else node0
    cases hf : f x with
    | true => rw [Option.filter_some_pos hf]; rfl
    | false => rw [Option.filter_some_neg hf]; rfl

theorem State.portDown_fell {x : State} (hs : s.nodes.rises) (hp : x.ports = s.ports) (hn : x.nodes = s.nodes) (hk : s.keepsEmcy → x.keepsEmcy) (p : Nat) :
    s.linkFell (x.portDown p) p := by
  have hx : ∀ q, x.portOf q = s.portOf q := fun q => by
    unfold State.portOf
    rw [hp]
  have hports : (x.portDown p).ports = s.ports.set p { s.portOf p with link := false, downs := ((s.portOf p).downs + 1) % 256, queues := .empty } := by
    rw [State.portDown_eq, State.emcyEvent_ports, State.portFell_ports, hp, hx]
  have hnodes : (x.portDown p).nodes = s.nodes.keep fun _ n => !(n.st == .dynamic && n.port == p) := by
    rw [State.portDown_eq, State.emcyEvent_nodes, State.portFell_nodes, hn]
  refine ⟨(State.portOf_of_set hports).1, ?_, (State.portOf_of_set hports).2, fun n => (State.nodeOf_keep hs hnodes n).trans ?_⟩
  · rw [State.portDown_eq]
    exact State.hasRaised_of_within (State.emcyEvent_raises (fun h => (State.portFell_keepsEmcy p).2 (hk h)) (by decide) _)
  · by_cases h : (s.nodeOf n).st = .dynamic ∧ (s.nodeOf n).port = p
    · rw [if_pos h, if_neg]
      rw [h.1, h.2, beq_self_eq_true, beq_self_eq_true]
      decide
    · rw [if_neg h, if_pos]
      rw [Bool.not_eq_true', Bool.and_eq_false_iff, beq_eq_false_iff_ne, beq_eq_false_iff_ne]
      exact not_and_or.1 h

/-! ### The frame that a port sends next (R293, R295) -/

theorem roundRobin_one (last : Nat) (f : QFrame) : roundRobin last [f] = some f := by
  unfold roundRobin
  by_cases h : last < f.conn
  · simp [h]
  · simp [h]

theorem roundRobin_mem {last : Nat} {l : List QFrame} {f : QFrame} (h : roundRobin last l = some f) : f ∈ l := by
  have hlow : ∀ (m : List QFrame) (a : Option QFrame) (g : QFrame), m.foldl (fun (a : Option QFrame) f => match a with
      | none => some f
      | some b => if f.conn < b.conn then some f else some b) a = some g → a = some g ∨ g ∈ m := by
    intro m
    induction m with
    | nil => exact fun _ _ h => .inl h
    | cons x r ih =>
      intro a g hg
      rcases ih _ g hg with h | h
      · cases a with
        | none => exact .inr (Option.some.inj h ▸ List.mem_cons_self)
        | some b =>
          by_cases hx : x.conn < b.conn
          · exact .inr (Option.some.inj ((if_pos hx).symm.trans h) ▸ List.mem_cons_self)
          · exact .inl ((if_neg hx).symm.trans h)
      · exact .inr (List.mem_cons_of_mem _ h)
  unfold roundRobin at h
  dsimp only at h
  split at h
  next g hg =>
    rw [Option.some.inj h] at hg
    exact List.mem_of_mem_filter ((hlow _ _ _ hg).resolve_left (by simp))
  · exact (hlow _ _ _ h).resolve_left (by simp)

/-- Counting heads that are held back leaves every queue whose frames may start, every other port and what a bucket is reckoned from. -/
def State.heldOnly (s : State) (p : Nat) (a : State) : Prop :=
  Step 562949957615616 s a ∧ (∀ i j, i ≠ 0x2831 → j < 256 → a.cell i j = s.cell i j ∧ a.setting i j = s.setting i j) ∧
    (∀ q, q ≠ p → a.portOf q = s.portOf q) ∧
    ∀ c, (∀ f ∈ (s.portOf p).queues.get [] c, s.mayStart p c f = true) → (a.portOf p).queues.get [] c = (s.portOf p).queues.get [] c

theorem State.heldOnly_refl (s : State) (p : Nat) : s.heldOnly p s := ⟨Step.refl _ s, fun _ _ _ _ => ⟨rfl, rfl⟩, fun _ _ => rfl, fun _ _ => rfl⟩

theorem State.bucketKey_lt {p c : Nat} (hp : p < 8) (hc : c < 8) : bucketKey p c + 1 < 256 := by
  unfold bucketKey
  omega

section

variable {p c : Nat} {a : State}

theorem State.heldOnly_rates (h : s.heldOnly p a) (hp : p < 8) (hc : c < 8) : a.rate p c = s.rate p c ∧ a.burst p c = s.burst p c ∧
    a.bucket p c = s.bucket p c := by
  obtain ⟨hk, hcell, -, -⟩ := h
  have hrate : a.rate p c = s.rate p c := (hcell 0x2810 _ (by decide) (State.bucketKey_lt hp hc)).2
  have hburst : a.burst p c = s.burst p c := (hcell 0x2811 _ (by decide) (State.bucketKey_lt hp hc)).2
  refine ⟨hrate, hburst, ?_⟩
  unfold State.bucket
  rw [hrate, hburst, hk.buckets (by decide), hk.now (by decide)]

theorem State.heldOnly_mayStart (h : s.heldOnly p a) (hp : p < 8) (hc : c < 8) (f : QFrame) : a.mayStart p c f = s.mayStart p c f := by
  obtain ⟨h1, h2, h3⟩ := State.heldOnly_rates h hp hc
  unfold State.mayStart
  rw [h1, h2, h3]

/-- A class head that its bucket holds back is counted. -/
theorem State.heldOnly_count (h : s.heldOnly p a) (hp : p < 8) (hc : c < 8) {f : QFrame} (hf : f ∈ (a.portOf p).queues.get [] c) (hm : a.mayStart p c f = false)
    (l : List QFrame) : s.heldOnly p ((a.setPort p { a.portOf p with queues := (a.portOf p).queues.set c l }).count 64 0x2831 (bucketKey p c + 1) 1) := by
  have hstart := State.heldOnly_mayStart h hp hc
  obtain ⟨hk, hcell, hother, hqueue⟩ := h
  obtain ⟨hsame, hothers⟩ := State.portOf_of_set (s := a) (p := p)
    (t := (a.setPort p { a.portOf p with queues := (a.portOf p).queues.set c l }).count 64 0x2831 (bucketKey p c + 1) 1) rfl
  refine ⟨State.count_step (State.setPort_step hk (by decide)) (by decide), fun i j hi hj => ⟨?_, ?_⟩, fun q hq => ?_, fun d hd => ?_⟩
  · exact (State.cell_count_other _ hj (State.bucketKey_lt hp hc) (by simp [hi])).trans (hcell i j hi hj).1
  · exact (State.setting_count_other _ hj (State.bucketKey_lt hp hc) hi).trans (hcell i j hi hj).2
  · exact (hothers q hq).trans (hother q hq)
  · have hdc : d ≠ c := fun e => by
      subst e
      rw [hqueue d hd] at hf
      rw [hstart, hd f hf] at hm
      cases hm
    rw [hsame]
    exact (Tab.get_set_other _ _ _ hdc).trans (hqueue d hd)

theorem State.markHeld_held (s : State) {p : Nat} (hp : p < 8) : s.heldOnly p (s.markHeld p) := by
  have hloop : ∀ (l : List Nat) (a : State), (∀ c ∈ l, c < 8) → s.heldOnly p a → s.heldOnly p (each l (fun x c =>
      let q := x.portOf p
      let l := q.queues.get [] c
      match roundRobin (q.turn.get 0 c) l with
      | none => x
      | some f => if x.mayStart p c f || f.held then x
          else (x.setPort p { q with queues := q.queues.set c (l.map fun g => if g = f then { g with held := true } else g) }).count
            64 0x2831 (bucketKey p c + 1) 1) a) := by
    intro l
    induction l with
    | nil => exact fun _ _ h => h
    | cons c r ih =>
      intro a hl ha
      refine ih _ (fun d hd => hl d (List.mem_cons_of_mem _ hd)) ?_
      dsimp only
      split
      · exact ha
      next f hf =>
        split
        · exact ha
        next hm =>
          rw [Bool.or_eq_true, not_or, Bool.not_eq_true] at hm
          exact State.heldOnly_count ha hp (hl c List.mem_cons_self) (roundRobin_mem hf) hm.1 _
  exact hloop (List.range 8) s (fun c hc => List.mem_range.1 hc) (s.heldOnly_refl p)

/-- The highest class that has a frame to send. -/
theorem findSome_highest {α : Type} {g : Nat → Option α} {c : Nat} {v : α} (hg : g c = some v) : ∀ n, c < n → (∀ d, c < d → d < n → g d = none) →
    (List.range n).reverse.findSome? g = some v := by
  intro n
  induction n with
  | zero => exact fun h => absurd h (Nat.not_lt_zero c)
  | succ n ih =>
    intro hc hd
    rw [List.range_succ, List.reverse_append, List.reverse_singleton, List.singleton_append, List.findSome?_cons]
    by_cases hn : c = n
    · rw [← hn, hg]
    · rw [hd n (by omega) (Nat.lt_succ_self n)]
      exact ih (by omega) fun d h1 h2 => hd d h1 (by omega)

theorem State.ethBytes_congr {t : State} (h : ∀ j, j < 256 → t.setting 0x2700 j = s.setting 0x2700 j) (f : OraFrame) : t.ethBytes f = s.ethBytes f := by
  unfold State.ethBytes State.nodeMac State.ownNode
  rw [h 4 (by decide), h 1 (by decide), h 2 (by decide)]

/-- A bucket never stands above its burst where it fills. -/
theorem State.bucket_le (h : s.rate p c ≠ 0) : s.bucket p c ≤ (s.burst p c : Int) * levelScale := by
  unfold State.bucket
  dsimp only
  split
  · exact le_rfl
  · rw [if_neg h]
    exact min_le_left _ _

/-- A bucket that has just been set. -/
theorem State.bucket_set {t : State} {v : Int} (hb : t.buckets.find (bucketKey p c) = some ⟨v, t.now⟩) (hv : v ≤ (t.burst p c : Int) * levelScale) :
    t.bucket p c = v := by
  unfold State.bucket
  simp only [hb]
  split
  · rfl
  · rw [Nat.sub_self]
    simp [hv]

theorem State.charged_le (h : s.rate p c ≠ 0) (n : Nat) : s.charged p c n ≤ (s.burst p c : Int) * levelScale := by
  have h1 := State.bucket_le h
  have h2 : (0 : Int) ≤ (s.burst p c : Int) * levelScale := Int.mul_nonneg (Int.natCast_nonneg _) (by decide)
  have h3 : (0 : Int) ≤ (n : Int) * levelScale := Int.mul_nonneg (Int.natCast_nonneg _) (by decide)
  unfold State.charged
  exact max_le (by omega) (by omega)

/-- The bucket of a shaped frame is charged; another is counted as unshaped. -/
def State.portCharge (s : State) (p c : Nat) (f : QFrame) : State :=
  if f.shaped then s.setBucket p c (s.charged p c (OraFrameLen f.frame)) else s.portCount p 0xE 1

/-- A frame leaves its queue, charged and counted. -/
def State.portCounted (s : State) (port : PortId) (c : Nat) (f : QFrame) : State :=
  let n := OraFrameLen f.frame
  ((((s.portTake port.val c f).portCharge port.val c f).portCount port.val 1 1).portCount port.val 2 n).count 64 0x2830 (bucketKey port.val c + 1) n

theorem State.portCharge_step (s : State) (p c : Nat) (f : QFrame) : Step 1125899911036928 s (s.portCharge p c f) := by
  unfold State.portCharge
  split
  · exact State.setBucket_step (Step.refl _ s) (by decide)
  · exact State.portCount_step (Step.refl _ s) (by decide)

theorem State.portTake_od (s : State) (p c : Nat) (f : QFrame) : (s.portTake p c f).od = s.od :=
  (State.portTake_step (Step.refl 562949953421312 s) (by decide)).od (by decide)

/-- A charge counts an unshaped frame at most. -/
theorem State.portCharge_od (s : State) (p c : Nat) (f : QFrame) : (s.portCharge p c f).od = s.od ∨ (s.portCharge p c f).od = (s.portCount p 0xE 1).od := by
  unfold State.portCharge
  split
  · exact .inl ((State.setBucket_step (Step.refl 1125899906842624 s) (by decide)).od (by decide))
  · exact .inr rfl

theorem State.portCharge_cell (s : State) (p c : Nat) (f : QFrame) : (s.portCharge p c f).cell (0x2820 + p) 1 = s.cell (0x2820 + p) 1 := by
  rcases s.portCharge_od p c f with h | h
  · exact State.cell_congr h ..
  · exact (State.cell_congr h ..).trans (State.cell_count_other _ (by decide) (by decide) (by simp))

theorem State.portCharge_setting (s : State) {p : Nat} (c : Nat) (f : QFrame) {i j : Nat} (hi : i ≠ 0x2820 + p) (hj : j < 256) :
    (s.portCharge p c f).setting i j = s.setting i j := by
  rcases s.portCharge_od p c f with h | h
  · exact State.setting_congr h ..
  · exact (State.setting_congr h ..).trans (State.setting_count_other _ hj (by decide) hi)

theorem State.portCounted_step (s : State) (port : PortId) (c : Nat) (f : QFrame) :
    Step 4194304 ((s.portTake port.val c f).portCharge port.val c f) (s.portCounted port c f) :=
  State.count_step (State.count_step (State.count_step (Step.refl _ _) (by decide)) (by decide)) (by decide)

theorem State.portCounted_cell (s : State) {c : Nat} (hc : c < 8) (f : QFrame) :
    (s.portCounted port c f).cell (0x2820 + port.val) 1 = (s.cell (0x2820 + port.val) 1 + 1) % 2 ^ 64 := by
  have hp : port.val < 8 := port.isLt
  have hcharge := ((s.portTake port.val c f).portCharge_cell port.val c f).trans (State.cell_congr (s.portTake_od port.val c f) ..)
  unfold State.portCounted State.portCount
  dsimp only
  rw [State.cell_count_other _ (by decide) (State.bucketKey_lt hp hc) (by simp; omega), State.cell_count_other _ (by decide) (by decide) (by simp),
    State.cell_count_same, hcharge]

theorem State.portCounted_setting (s : State) {c : Nat} (hc : c < 8) (f : QFrame) {i j : Nat} (hi : i ≠ 0x2820 + port.val) (hi' : i ≠ 0x2830) (hj : j < 256) :
    (s.portCounted port c f).setting i j = s.setting i j := by
  have hp : port.val < 8 := port.isLt
  unfold State.portCounted State.portCount
  dsimp only
  rw [State.setting_count_other _ hj (State.bucketKey_lt hp hc) hi', State.setting_count_other _ hj (by decide) hi, State.setting_count_other _ hj (by decide) hi,
    State.portCharge_setting _ c f hi hj, State.setting_congr (s.portTake_od port.val c f)]

/-- The bucket of a shaped frame of a class with a rate is charged. -/
theorem State.portCounted_bucket (s : State) {c : Nat} (hc : c < 8) {f : QFrame} (hf : f.shaped = true) (h : s.rate port.val c ≠ 0) :
    (s.portCounted port c f).bucket port.val c = s.charged port.val c (OraFrameLen f.frame) := by
  have hp : port.val < 8 := port.isLt
  have hk := s.portCounted_step port c f
  have hcharge : (s.portTake port.val c f).portCharge port.val c f = (s.portTake port.val c f).setBucket port.val c (s.charged port.val c (OraFrameLen f.frame)) :=
    if_pos hf
  rw [hcharge] at hk
  refine State.bucket_set ?_ ?_
  · rw [hk.buckets (by decide), hk.now (by decide)]
    exact Tab.find_set_same ..
  · have hburst : (s.portCounted port c f).burst port.val c = s.burst port.val c :=
      s.portCounted_setting hc f (by omega) (by decide) (State.bucketKey_lt hp hc)
    rw [hburst]
    exact State.charged_le h _

theorem completes_portFrameTransmit {f : QFrame} (hl : (s.portOf port.val).link = true) (hc : c < 8) (hq : (s.portOf port.val).queues.get [] c = [f])
    (hd : ∀ d, c < d → d < 8 → (s.portOf port.val).queues.get [] d = []) (hm : s.mayStart port.val c f = true) :
    completes (.portFrameTransmit port) s [.od, .ports, .buckets, .out] fun t => t.out = s.out ++ [.eth port (s.ethBytes f.frame)] ∧
      (t.portOf port.val).queues.get [] c = [] ∧ (∀ q, q ≠ port.val → t.portOf q = s.portOf q) ∧
      t.cell (0x2820 + port.val) 1 = (s.cell (0x2820 + port.val) 1 + 1) % 2 ^ 64 ∧
      (f.shaped = true → t.bucket port.val c = max (-((s.burst port.val c : Int) * levelScale))
        (s.bucket port.val c - (OraFrameLen f.frame : Int) * levelScale)) ∧
      (f.shaped = false → t.buckets = s.buckets) := by
  have hp : port.val < 8 := port.isLt
  have hheld := s.markHeld_held hp
  have hx : exec (.portFrameTransmit port) s = _ := whenDue_true hl _ _
  dsimp only at hx
  generalize s.markHeld port.val = a at *
  have hstart := State.heldOnly_mayStart hheld hp hc f
  obtain ⟨hrate, hburst, hbucket⟩ := State.heldOnly_rates hheld hp hc
  obtain ⟨hk, hcell, hother, hqueue⟩ := hheld
  have haq : (a.portOf port.val).queues.get [] c = [f] := (hqueue c fun g hg => by
    rw [hq] at hg
    rw [List.mem_singleton.1 hg]
    exact hm).trans hq
  have had : ∀ d, c < d → d < 8 → (a.portOf port.val).queues.get [] d = [] := fun d h1 h2 => (hqueue d fun g hg => by
    rw [hd d h1 h2] at hg
    cases hg).trans (hd d h1 h2)
  have hnext : ((List.range 8).reverse.findSome? fun c => (a.classNext port.val c).map fun f => (c, f)) = some (c, f) := by
    refine findSome_highest ?_ 8 hc fun d h1 h2 => ?_
    · have hcn : a.classNext port.val c = some f := by
        unfold State.classNext
        simp only [haq, roundRobin_one, hstart, hm, if_true]
      rw [hcn]
      rfl
    · have hcn : a.classNext port.val d = none := by
        unfold State.classNext
        simp only [had d h1 h2]
        rfl
      rw [hcn]
      rfl
  rw [hnext] at hx
  have hx' : exec (.portFrameTransmit port) s = .next ((a.portCounted port c f).ethSend port f.frame) := hx
  have hb := a.portCounted_step port c f
  obtain ⟨hsame, hothers⟩ := State.portOf_of_set ((hb.ports (by decide)).trans ((State.portCharge_step ..).ports (by decide)))
  have hcount := a.portCounted_cell (port := port) hc f
  have hsetting := fun {i j : Nat} => a.portCounted_setting (port := port) hc f (i := i) (j := j)
  have hbucket' := fun hs h => a.portCounted_bucket (port := port) hc (f := f) hs h
  have hout := (hb.out (by decide)).trans (((State.portCharge_step ..).out (by decide)).trans
    ((State.portTake_step (x1 := port.val) (x2 := c) (x3 := f) (Step.refl 562949953421312 a) (by decide)).out (by decide)))
  have hbuckets := hb.buckets (by decide)
  clear hb
  generalize a.portCounted port c f = b at *
  refine completes_of hx' (exec_portFrameTransmit s) (by decide) ⟨?_, ?_, fun q hq => (hothers q hq).trans (hother q hq), ?_, fun hs => ?_, fun hs => ?_⟩
  · show b.out ++ [.eth port (b.ethBytes f.frame)] = _
    rw [hout, hk.out (by decide), State.ethBytes_congr fun j hj => (hsetting (by omega) (by decide) hj).trans (hcell 0x2700 j (by decide) hj).2]
  · show ((b.portOf port.val).queues.get [] c) = []
    rw [hsame]
    refine (Tab.get_set_same ..).trans ?_
    rw [haq]
    exact if_pos rfl
  · exact hcount.trans (by rw [(hcell _ 1 (by omega) (by decide)).1])
  · have hnz : a.rate port.val c ≠ 0 := fun h0 => by
      have hma := hstart.trans hm
      unfold State.mayStart at hma
      rw [hs, h0] at hma
      simp at hma
    refine (hbucket' hs hnz).trans ?_
    unfold State.charged
    rw [hburst, hbucket]
  · show b.buckets = s.buckets
    rw [hbuckets]
    unfold State.portCharge
    rw [if_neg (by rw [hs]; decide)]
    exact hk.buckets (by decide)

end

end

end Sys2Proof.Machine
end

section
/-! Network ports: the dictionary's writes, and the obligation (R283, R290, R291, R296 to R298, R300). -/

namespace Sys2Proof.Machine

section

variable {s : State} {port : PortId} {q : Path}

/-- The fields that a link's change may touch. -/
def linkFields : List Field := [.hostA, .hostB, .cq, .pba, .tier1, .granules, .tier1Bad, .od, .can, .det, .log, .logMade, .faultBuffer,
  .absentEmcy, .segCtr, .ports, .nodes, .power, .out]

theorem completes_linkDown (hs : s.Inv) (hl : (s.portOf port.val).link = true) :
    completes (.portLinkChange port false) s linkFields fun t => s.linkFell t port.val :=
  completes_of (whenDue_true hl _ _) (exec_portLinkChange s) (by decide) (State.portDown_fell hs.tables.2.2 rfl rfl id _)

theorem completes_linkUp (hl : (s.portOf port.val).link = false) (he : s.portEnabled port.val = true) :
    completes (.portLinkChange port true) s linkFields fun t => t.portOf port.val = { s.portOf port.val with link := true } ∧
      (∀ q, q ≠ port.val → t.portOf q = s.portOf q) ∧ t.nodes = s.nodes ∧ s.hasRaised t 0xFF52 0 := by
  have hdue : (s.portEnabled port.val && !(s.portOf port.val).link) = true := by rw [he, hl]; rfl
  obtain ⟨x, hx⟩ : ∃ x, x = (s.setPort port.val { s.portOf port.val with link := true }).clocksFresh [240 + 2 * port.val, 241 + 2 * port.val] := ⟨_, rfl⟩
  have hk : Step 5066549580791808 s x := hx ▸ State.clocksFresh_step (State.setPort_step (Step.refl _ s) (by decide)) (by decide)
  have hports : x.ports = s.ports.set port.val { s.portOf port.val with link := true } := by rw [hx]; rfl
  have hexec : exec (.portLinkChange port true) s = .next (x.emcyEvent 0xFF52 0 (natLe 1 port.val ++ natLe 1 1)) := hx ▸ whenDue_true hdue _ _
  obtain ⟨h1, h2⟩ := State.portOf_of_set ((State.emcyEvent_ports x (x1 := 0xFF52) (x2 := 0) (x3 := natLe 1 port.val ++ natLe 1 1)).trans hports)
  refine completes_of hexec (exec_portLinkChange s) (by decide) ⟨h1, h2, (State.emcyEvent_nodes ..).trans (hk.nodes (by decide)), ?_⟩
  exact State.hasRaised_of_within (State.emcyEvent_raises (fun h => (State.keepsEmcy_congr (congrArg BringUp.absentAt (hk.up (by decide)))
    (State.setting_congr (hk.od (by decide)) ..)).2 h) (by decide) _)

/-- A write of 0x2801 that takes the link's enable or changes its mode. -/
theorem State.portConfig_down {v : Nat} (hl : (s.portOf port.val).link = true)
    (hv : bit v 0 = false ∨ bit v 1 ≠ bit (s.setting 0x2801 (port.val + 1)) 1) : s.portConfig port.val v = (s.putCell 0x2801 (port.val + 1) v).portDown port.val := by
  refine if_pos ?_
  rw [hl, Bool.true_and, Bool.or_eq_true, Bool.not_eq_true', bne_iff_ne]
  exact hv

theorem State.portConfig_keeps {v : Nat} (hv : (s.portOf port.val).link = false ∨ (bit v 0 = true ∧ bit v 1 = bit (s.setting 0x2801 (port.val + 1)) 1)) :
    s.portConfig port.val v = s.putCell 0x2801 (port.val + 1) v := by
  refine if_neg ?_
  rw [Bool.and_eq_true, Bool.or_eq_true, Bool.not_eq_true', bne_iff_ne]
  rintro ⟨h1, h2⟩
  rcases hv with h | ⟨h3, h4⟩
  · rw [h] at h1
    cases h1
  · rcases h2 with h | h
    · rw [h3] at h
      cases h
    · exact h h4

theorem State.portDown_cell (x : State) {p j : Nat} (hp : p < 8) (hj : j < 256) : (x.portDown p).cell 0x2801 j = x.cell 0x2801 j := by
  rw [State.portDown_eq, State.emcyEvent_cell _ hj (by unfold reportCell; decide)]
  unfold State.portFell
  refine (State.cell_congr (State.fire_od ..) ..).trans ?_
  exact State.cell_count_other _ hj (by decide) (by simp; omega)

/-- A write that passes its checks and is refused. -/
theorem State.refusesWrite_error {c : Instr} {i j code : Nat} {eff : Effect} (hx : exec c s = s.odWrite q i j eff) (hw : s.canWrite q i j = true)
    (he : eff s = .error code) : s.refusesWrite c q i j code :=
  completes_step (hx.trans (State.odWrite_error hw he)) (State.aborted_step (Step.refl _ s) (by decide)) (s.aborted_cells ..)

/-- A write of 0x2801 that keeps the link as it is. -/
theorem takes_portConfig {v : Byte} (hw : s.canWrite q 0x2801 (port.val + 1) = true) (hv : v.toNat < 4)
    (hk : (s.portOf port.val).link = false ∨ (bit v.toNat 0 = true ∧ bit v.toNat 1 = bit (s.setting 0x2801 (port.val + 1)) 1)) :
    s.takes (.portConfigWrite q port v) 0x2801 [(port.val + 1, v.toNat)] := by
  have hp : port.val < 8 := port.isLt
  have he : fxPortConfigWrite port v s = .ok (s.putCells 0x2801 [(port.val + 1, v.toNat)]) :=
    (if_neg (by omega)).trans (congrArg _ (State.portConfig_keeps hk))
  have hlt : ∀ e ∈ [(port.val + 1, v.toNat)], e.1 < 256 := fun e he => by
    rw [List.mem_singleton.1 he]
    show port.val + 1 < 256
    omega
  refine completes_step (State.odWrite_ok hw he) (State.putCells_step (Step.refl _ s) (by decide))
    ⟨State.cell_putCells_mem 0x2801 _ s hlt (List.pairwise_singleton ..), State.putCells_otherCells s 0x2801 _ hlt⟩

theorem completes_portConfigDown {v : Byte} (hw : s.canWrite q 0x2801 (port.val + 1) = true) (hv : v.toNat < 4) (hl : (s.portOf port.val).link = true)
    (hd : bit v.toNat 0 = false ∨ bit v.toNat 1 ≠ bit (s.setting 0x2801 (port.val + 1)) 1) (hs : s.Inv) :
    completes (.portConfigWrite q port v) s linkFields fun t => t.cell 0x2801 (port.val + 1) = v.toNat ∧ s.linkFell t port.val := by
  have hp : port.val < 8 := port.isLt
  have he : fxPortConfigWrite port v s = .ok ((s.putCell 0x2801 (port.val + 1) v.toNat).portDown port.val) :=
    (if_neg (by omega)).trans (congrArg _ (State.portConfig_down hl hd))
  have hk : s.keepsEmcy → (s.putCell 0x2801 (port.val + 1) v.toNat).keepsEmcy := fun h =>
    (State.keepsEmcy_congr (by rw [State.putCell_up]) (State.setting_putCell_other s _ (by decide) (by omega) (by simp))).2 h
  have hfell := State.portDown_fell hs.tables.2.2 (State.putCell_ports ..) (State.putCell_nodes ..) hk port.val
  have hcell := (State.portDown_cell (s.putCell 0x2801 (port.val + 1) v.toNat) hp (j := port.val + 1) (by omega)).trans (State.cell_putCell_same ..)
  generalize (s.putCell 0x2801 (port.val + 1) v.toNat).portDown port.val = t at *
  exact completes_of (State.odWrite_ok hw he) (exec_portConfigWrite s) (by decide) ⟨hcell, hfell⟩

/-! ### MAC control frames and the receive checks in order (R282, R285, R286) -/

theorem completes_macControl {n : Nat} (hl : (s.portOf port.val).link = true) (h1 : 64 ≤ n) (h2 : n ≤ 74 + s.maxPayload) :
    completes (.macControlFrame port n) s [.od, .det, .log, .logMade, .faultBuffer] fun t => s.firedOnce 0x0804 t ∧
      t.cell (0x2820 + port.val) 8 = (s.cell (0x2820 + port.val) 8 + 1) % 2 ^ 64 ∧ s.otherCells [(0x2820 + port.val, 8)] t := by
  have hx : exec (.macControlFrame port n) s = .next ((s.portCount port.val 8 1).fire 0x0804 port.val 0) :=
    (whenDue_true hl _ _).trans (congrArg _ (if_neg (by omega)))
  have hk : Step 4194304 s (s.portCount port.val 8 1) := State.count_step (Step.refl _ s) (by decide)
  have hod : ((s.portCount port.val 8 1).fire 0x0804 port.val 0).od = (s.portCount port.val 8 1).od := State.fire_od ..
  exact completes_of hx (exec_macControlFrame s) (by decide)
    ⟨State.firedOnce_fire (hk.det (by decide)) (State.stamp_congr (hk.beat (by decide)) (hk.now (by decide))) _ _ _,
      (State.cell_congr hod ..).trans (State.cell_count_same ..), State.otherCells_congr (State.otherCells_count s (by decide)) hod⟩

theorem completes_macLength {n : Nat} (hl : (s.portOf port.val).link = true) (h : n < 64 ∨ 74 + s.maxPayload < n) :
    completes (.macControlFrame port n) s [.od] fun t =>
      t.cell (0x2820 + port.val) 0xB = (s.cell (0x2820 + port.val) 0xB + 1) % 2 ^ 64 ∧ s.otherCells [(0x2820 + port.val, 0xB)] t := by
  have hx : exec (.macControlFrame port n) s = .next (s.portCount port.val 0xB 1) := (whenDue_true hl _ _).trans (congrArg _ (if_pos h))
  exact completes_step hx (State.count_step (Step.refl _ s) (by decide)) ⟨State.cell_count_same .., State.otherCells_count s (by decide)⟩

/-! ### Node entries (R290, R291, R300) -/

theorem completes_nodeExpiry {n : W16} (h : (s.nodeOf n.toNat).st = .dynamic ∨ (s.nodeOf n.toNat).st = .ambiguous) :
    completes (.nodeEntryExpiry n) s [.now, .nodes] fun t => t.now = max s.now (s.nodeOf n.toNat).expiry ∧
      t.nodeOf n.toNat = node0 ∧ ∀ k, k ≠ n.toNat → t.nodeOf k = s.nodeOf k := by
  have hdue : ((s.nodeOf n.toNat).st == .dynamic || (s.nodeOf n.toNat).st == .ambiguous) = true := by
    rw [Bool.or_eq_true, beq_iff_eq, beq_iff_eq]
    exact h
  refine completes_of (whenDue_true hdue _ _) (exec_nodeEntryExpiry s) (by decide) ⟨rfl, ?_, fun k hk => ?_⟩
  · exact congrArg (Option.getD · node0) (Tab.find_erase_same ..)
  · exact congrArg (Option.getD · node0) (Tab.find_erase_other _ hk)

theorem completes_nodeFlush (hs : s.Inv) (hw : s.canWrite q 0x2802 3 = true) :
    completes (.nodeTableFlush q 1#8) s [.nodes] fun t => ∀ n, t.nodeOf n = if (s.nodeOf n).st = .static then s.nodeOf n else node0 := by
  have he : fxNodeTableFlush 1#8 s = .ok s.flushNodes := rfl
  refine completes_step (State.odWrite_ok hw he) (State.flushNodes_step (Step.refl _ s) (by decide)) fun n => ?_
  refine (State.nodeOf_keep hs.tables.2.2 (f := fun n => n.st == .static) rfl n).trans ?_
  simp only [beq_iff_eq]

theorem completes_nodeFlushNone (hw : s.canWrite q 0x2802 3 = true) : completes (.nodeTableFlush q 0#8) s [] fun _ => True := by
  have he : fxNodeTableFlush 0#8 s = .ok s := rfl
  exact completes_step (State.odWrite_ok hw he) (Step.refl _ s) trivial

/-- The word of a STATIC entry is kept, and a node that was NONE counts as learned. -/
def State.staticCounted (s : State) (v : Nat) : State :=
  if bit v 24 ∧ (s.nodeOf (bits v 15 0)).st = .none then (s.putCell 0x2803 3 v).bump64 0x2802 6 else s.putCell 0x2803 3 v

theorem State.staticCounted_cells (s : State) (v : Nat) : (s.staticCounted v).cell 0x2803 3 = v ∧
    (s.staticCounted v).cell 0x2802 6 = (if bit v 24 ∧ (s.nodeOf (bits v 15 0)).st = .none then (s.cell 0x2802 6 + 1) % 2 ^ 64 else s.cell 0x2802 6) ∧
    s.otherCells [(0x2803, 3), (0x2802, 6)] (s.staticCounted v) := by
  have hput : ∀ {i j : Nat}, j < 256 → (i, j) ≠ (0x2803, 3) → (s.putCell 0x2803 3 v).cell i j = s.cell i j := fun hj h =>
    State.cell_putCell_other s v hj (by decide) fun e => h (Prod.ext e.1 e.2)
  unfold State.staticCounted
  split
  · refine ⟨?_, ?_, fun i j hj hn => ?_⟩
    · exact (State.cell_count_other _ (by decide) (by decide) (by decide)).trans (State.cell_putCell_same ..)
    · rw [State.cell_bump64_same, hput (by decide) (by decide)]
    · simp only [List.mem_cons, List.not_mem_nil, or_false, not_or] at hn
      exact (State.cell_count_other _ hj (by decide) hn.2).trans (hput hj hn.1)
  · refine ⟨State.cell_putCell_same .., hput (by decide) (by decide), fun i j hj hn => ?_⟩
    simp only [List.mem_cons, List.not_mem_nil, or_false, not_or] at hn
    exact hput hj hn.1

theorem State.staticCounted_step (s : State) (v : Nat) : Step 4194304 s (s.staticCounted v) := by
  unfold State.staticCounted
  split
  · exact State.count_step (State.putCell_step (Step.refl _ s) (by decide)) (by decide)
  · exact State.putCell_step (Step.refl _ s) (by decide)

/-- What becomes of the entries. -/
theorem State.staticWrite_nodes (s : State) (v : Nat) : (s.staticWrite v).od = (s.staticCounted v).od ∧
    (∀ k, k ≠ bits v 15 0 → (s.staticWrite v).nodeOf k = s.nodeOf k) ∧
    (s.staticWrite v).nodeOf (bits v 15 0) = if bit v 24 then { s.nodeOf (bits v 15 0) with st := .static, port := bits v 18 16, conflicts := 0 }
      else if (s.nodeOf (bits v 15 0)).st = .static then node0 else s.nodeOf (bits v 15 0) := by
  have hx : s.staticWrite v = if bit v 24 then (s.staticCounted v).setNode (bits v 15 0) { s.nodeOf (bits v 15 0) with
        st := .static, port := bits v 18 16, conflicts := 0 }
      else if (s.nodeOf (bits v 15 0)).st = .static then { s.staticCounted v with nodes := (s.staticCounted v).nodes.erase (bits v 15 0) }
      else s.staticCounted v := rfl
  have hn := (s.staticCounted_step v).nodes (by decide)
  rw [hx]
  generalize s.staticCounted v = a at *
  by_cases hb : bit v 24 = true
  · rw [if_pos hb, if_pos hb]
    refine ⟨rfl, fun k hk => ?_, congrArg (Option.getD · node0) (Tab.find_set_same ..)⟩
    refine (congrArg (Option.getD · node0) (Tab.find_set_other _ _ hk)).trans ?_
    rw [hn]
    rfl
  · rw [if_neg hb, if_neg hb]
    by_cases hst : (s.nodeOf (bits v 15 0)).st = .static
    · rw [if_pos hst, if_pos hst]
      refine ⟨rfl, fun k hk => ?_, congrArg (Option.getD · node0) (Tab.find_erase_same ..)⟩
      refine (congrArg (Option.getD · node0) (Tab.find_erase_other _ hk)).trans ?_
      rw [hn]
      rfl
    · rw [if_neg hst, if_neg hst]
      exact ⟨rfl, fun k _ => by unfold State.nodeOf; rw [hn], by unfold State.nodeOf; rw [hn]⟩

theorem completes_staticEntry {v : W32} (hw : s.canWrite q 0x2803 3 = true) (hv : s.staticBad v.toNat = false) :
    completes (.staticEntryWrite q v) s [.od, .nodes] fun t => t.cell 0x2803 3 = v.toNat ∧
      t.cell 0x2802 6 = (if bit v.toNat 24 ∧ (s.nodeOf (bits v.toNat 15 0)).st = .none then (s.cell 0x2802 6 + 1) % 2 ^ 64 else s.cell 0x2802 6) ∧
      s.otherCells [(0x2803, 3), (0x2802, 6)] t ∧ (∀ k, k ≠ bits v.toNat 15 0 → t.nodeOf k = s.nodeOf k) ∧
      t.nodeOf (bits v.toNat 15 0) = if bit v.toNat 24 then { s.nodeOf (bits v.toNat 15 0) with st := .static, port := bits v.toNat 18 16, conflicts := 0 }
        else if (s.nodeOf (bits v.toNat 15 0)).st = .static then node0 else s.nodeOf (bits v.toNat 15 0) := by
  have he : fxStaticEntryWrite v s = .ok (s.staticWrite v.toNat) := if_neg (by rw [hv]; decide)
  obtain ⟨hod, h1, h2⟩ := s.staticWrite_nodes v.toNat
  obtain ⟨c1, c2, c3⟩ := s.staticCounted_cells v.toNat
  exact completes_of (State.odWrite_ok hw he) (exec_staticEntryWrite s) (by decide)
    ⟨(State.cell_congr hod ..).trans c1, (State.cell_congr hod ..).trans c2, State.otherCells_congr c3 hod, h1, h2⟩

/-! ### Shapers (R296 to R298) -/

/-- A write of a shaper's rate or burst keeps the level so far within the burst in force after it. -/
theorem State.shaperWrite_outcome (s : State) {i p c v top : Nat} (hp : p < 8) (hc : c < 8) (ht : (s.putCell i (bucketKey p c + 1) v).burst p c = top) :
    (s.shaperWrite i p c v).cell i (bucketKey p c + 1) = v ∧ s.otherCells [(i, bucketKey p c + 1)] (s.shaperWrite i p c v) ∧
    (s.shaperWrite i p c v).buckets.find (bucketKey p c) = some ⟨max (-((top : Int) * levelScale)) (min ((top : Int) * levelScale) (s.bucket p c)), s.now⟩ ∧
    ∀ j, j ≠ bucketKey p c → (s.shaperWrite i p c v).buckets.find j = s.buckets.find j := by
  have hx : s.shaperWrite i p c v = (s.putCell i (bucketKey p c + 1) v).setBucket p c
      (max (-((top : Int) * levelScale)) (min ((top : Int) * levelScale) (s.bucket p c))) := by
    rw [← ht]
    rfl
  have hk := State.setBucket_step (x1 := p) (x2 := c) (x3 := max (-((top : Int) * levelScale)) (min ((top : Int) * levelScale) (s.bucket p c)))
    (Step.refl 1125899906842624 (s.putCell i (bucketKey p c + 1) v)) (by decide)
  rw [← hx] at hk
  refine ⟨?_, fun a b hb hn => ?_, ?_, fun j hj => ?_⟩
  · rw [State.cell_congr (hk.od (by decide)), State.cell_putCell_same]
  · rw [State.cell_congr (hk.od (by decide))]
    exact State.cell_putCell_other s v hb (State.bucketKey_lt hp hc) fun e => hn (List.mem_singleton.2 (Prod.ext e.1 e.2))
  · rw [hx]
    exact Tab.find_set_same ..
  · rw [hx]
    exact Tab.find_set_other _ _ hj

theorem completes_shaperRate {cls : Fin 8} {v : W32} (hw : s.canWrite q 0x2810 (bucketKey port.val cls.val + 1) = true) (hv : v.toNat ≤ 400000) :
    completes (.shaperRateWrite q port cls v) s [.od, .buckets] fun t => t.cell 0x2810 (bucketKey port.val cls.val + 1) = v.toNat ∧
      s.otherCells [(0x2810, bucketKey port.val cls.val + 1)] t ∧
      t.buckets.find (bucketKey port.val cls.val) = some ⟨max (-((s.burst port.val cls.val : Int) * levelScale))
        (min ((s.burst port.val cls.val : Int) * levelScale) (s.bucket port.val cls.val)), s.now⟩ ∧
      ∀ j, j ≠ bucketKey port.val cls.val → t.buckets.find j = s.buckets.find j := by
  have he : fxShaperRateWrite port cls v s = .ok (s.shaperWrite 0x2810 port.val cls.val v.toNat) := if_neg (by omega)
  have hlt := State.bucketKey_lt port.isLt cls.isLt
  exact completes_of (State.odWrite_ok hw he) (exec_shaperRateWrite s) (by decide)
    (s.shaperWrite_outcome port.isLt cls.isLt (State.setting_putCell_other s _ hlt hlt (by simp)))

theorem completes_shaperBurst {cls : Fin 8} {v : W32} (hw : s.canWrite q 0x2811 (bucketKey port.val cls.val + 1) = true) (h1 : 4170 ≤ v.toNat)
    (h2 : v.toNat ≤ 16777215) : completes (.shaperBurstWrite q port cls v) s [.od, .buckets] fun t =>
      t.cell 0x2811 (bucketKey port.val cls.val + 1) = v.toNat ∧ s.otherCells [(0x2811, bucketKey port.val cls.val + 1)] t ∧
      t.buckets.find (bucketKey port.val cls.val) = some ⟨max (-((v.toNat : Int) * levelScale))
        (min ((v.toNat : Int) * levelScale) (s.bucket port.val cls.val)), s.now⟩ ∧
      ∀ j, j ≠ bucketKey port.val cls.val → t.buckets.find j = s.buckets.find j := by
  have he : fxShaperBurstWrite port cls v s = .ok (s.shaperWrite 0x2811 port.val cls.val v.toNat) := if_neg (by omega)
  refine completes_of (State.odWrite_ok hw he) (exec_shaperBurstWrite s) (by decide) (s.shaperWrite_outcome port.isLt cls.isLt ?_)
  exact Tab.get_set_same ..

end

end Sys2Proof.Machine

namespace Sys2Proof.Proofs

open Sys2Proof.Machine

/-- What a received frame that is sound at the bit level meets: the checks in the order of R285. -/
theorem completes_frameChecks {s : State} {port : PortId} {fr : EthFrame} (hl : (s.portOf port.val).link = true) (hb : fr.fecBad = 0) :
    let p := port.val
    let fs : List Field := [.od, .det, .log, .logMade, .faultBuffer]
    let gone := fun (fr : EthFrame) (subs : List (Nat × Nat)) (q : State → Prop) => completes (.receivedFrameDiscard port fr) s fs fun t =>
      (∀ e ∈ subs, t.cell e.1 e.2 = (s.cell e.1 e.2 + 1) % 2 ^ 64) ∧ t.cell (0x2820 + p) 6 = (s.cell (0x2820 + p) 6 + fr.fecFixed) % 2 ^ 64 ∧
      t.cell (0x2820 + p) 7 = (s.cell (0x2820 + p) 7 + fr.fecBad) % 2 ^ 64 ∧ q t
    let drops := fun (fr : EthFrame) (sub det : Nat) => gone fr [(0x2820 + p, sub)] fun t => s.firedOnce det t ∧
      s.otherCells [(0x2820 + p, sub), (0x2820 + p, 6), (0x2820 + p, 7)] t
    let src := fr.ora.srcNode.toNat
    (fr.fcsOk = false → drops fr 5 0x0802) ∧
    (fr.fcsOk = true →
      (fr.len < 64 ∨ 74 + s.maxPayload < fr.len → gone fr [(0x2820 + p, 0xB)] fun t => t.det = s.det ∧
        s.otherCells [(0x2820 + p, 0xB), (0x2820 + p, 6), (0x2820 + p, 7)] t) ∧
      (64 ≤ fr.len → fr.len ≤ 74 + s.maxPayload →
        (fr.macControl = true → drops fr 8 0x0804) ∧
        (fr.macControl = false →
          (fr.tagged = true ∨ fr.etherType.toNat ≠ s.setting 0x2700 2 → drops fr 9 0x0805) ∧
          (fr.tagged = false → fr.etherType.toNat = s.setting 0x2700 2 →
            (fr.dstMac.toNat ≠ s.nodeMac s.ownNode → drops fr 0xA 0x0805) ∧
            (fr.dstMac.toNat = s.nodeMac s.ownNode → src = s.ownNode → drops fr 0xA 0x0809) ∧
            (fr.dstMac.toNat = s.nodeMac s.ownNode → src ≠ s.ownNode → fr.srcMac.toNat ≠ s.nodeMac src → drops fr 0xA 0x0805) ∧
            (fr.dstMac.toNat = s.nodeMac s.ownNode → src ≠ s.ownNode → fr.srcMac.toNat = s.nodeMac src →
              (fr.len < 74 ∨ fr.ora.opcode.toNat = 0 ∨ 10 < fr.ora.opcode.toNat →
                gone fr [(0x2820 + p, 3), (0x2702, 3)] fun t => s.firedOnce 0x0841 t ∧
                  t.cell (0x2820 + p) 4 = (s.cell (0x2820 + p) 4 + fr.len) % 2 ^ 64 ∧
                  s.otherCells ((0x2702, 3) :: ([3, 4, 6, 7].map fun e => (0x2820 + p, e))) t) ∧
              (74 ≤ fr.len → 0 < fr.ora.opcode.toNat → fr.ora.opcode.toNat ≤ 10 → drops fr 0xC 0x0808)))))) := by
  intro p fs gone drops src
  have hdrop := fun (sub det : Nat) (h1 : sub < 256) (h2 : sub ≠ 6) (h3 : sub ≠ 7) => completes_portDrop hl (fr := fr) (sub := sub) (det := det) h1 h2 h3
  refine ⟨fun h => ?_, fun h => ?_⟩
  · refine hdrop 5 _ (by decide) (by decide) (by decide) ?_
    unfold State.discarded
    rw [if_pos (.inl h), hb]
    rfl
  have c1 : ¬ (fr.fcsOk = false ∨ 0 < fr.fecBad) := by simp [h, hb]
  refine ⟨fun h => completes_lengthDrop hl ((if_neg c1).trans (if_pos h)), fun h1 h2 => ?_⟩
  have c2 : ¬ (fr.len < 64 ∨ 74 + s.maxPayload < fr.len) := by omega
  refine ⟨fun h => hdrop 8 _ (by decide) (by decide) (by decide) ((if_neg c1).trans ((if_neg c2).trans (if_pos h))), fun h => ?_⟩
  have c3 : ¬ fr.macControl = true := by simp [h]
  refine ⟨fun h => hdrop 9 _ (by decide) (by decide) (by decide) ((if_neg c1).trans ((if_neg c2).trans ((if_neg c3).trans (if_pos h)))), fun ht he => ?_⟩
  have c4 : ¬ (fr.tagged = true ∨ fr.etherType.toNat ≠ s.setting 0x2700 2) := by simp [ht, he]
  have hrest : s.discarded port.val fr = s.addressChecks port.val fr := (if_neg c1).trans ((if_neg c2).trans ((if_neg c3).trans (if_neg c4)))
  have haddr := fun (det : Nat) h => hdrop 0xA det (by decide) (by decide) (by decide) (hrest.trans h)
  refine ⟨fun h => haddr _ (if_pos h), fun h1 h2 => haddr _ ((if_neg (not_not.2 h1)).trans (if_pos h2)), fun h1 h2 h3 =>
    haddr _ ((if_neg (not_not.2 h1)).trans ((if_neg h2).trans (if_pos h3))), fun h1 h2 h3 => ?_⟩
  have hheader : s.addressChecks port.val fr = if fr.len < 74 ∨ fr.ora.opcode.toNat = 0 ∨ 10 < fr.ora.opcode.toNat then
      (((s.portDrop port.val fr 3).portCount port.val 4 fr.len).bump64 0x2702 3).fire 0x0841 fr.ora.dstConn.toNat 0
    else (s.portDrop port.val fr 0xC).fire 0x0808 port.val 0 := (if_neg (not_not.2 h1)).trans ((if_neg h2).trans (if_neg (not_not.2 h3)))
  exact ⟨fun h => completes_malformed hl (hrest.trans (hheader.trans (if_pos h))), fun g1 g2 g3 =>
    hdrop 0xC _ (by decide) (by decide) (by decide) (hrest.trans (hheader.trans (if_neg (by omega))))⟩

/-- Settles O40: a link's change, a discarded frame and a sent one at each port, the node table, and the shapers. -/
theorem ports : Obligations.Ports := by
  unfold Obligations.Ports
  refine ⟨fun s port => ?_, fun s n => completes_nodeExpiry, fun s q => ⟨fun hw => ⟨fun hs => completes_nodeFlush hs hw, completes_nodeFlushNone hw⟩,
    fun v hw => ⟨fun hv => State.refusesWrite_error (eff := fxStaticEntryWrite v) rfl hw (if_pos hv), completes_staticEntry hw⟩, fun port cls v => ⟨fun hw => ⟨fun hv => ?_, completes_shaperRate hw⟩,
      fun hw => ⟨fun hv => ?_, completes_shaperBurst hw⟩⟩⟩⟩
  · intro p x fs counted long gone drops gs down
    refine ⟨fun hl => ⟨fun n h1 h2 => ?_, fun n h => ?_, fun fr hb => ?_, fun fr hb => completes_codewords hl hb, fun hs => completes_linkDown hs hl,
      fun c f hc hq hd hm => completes_portFrameTransmit hl hc hq hd hm⟩, completes_linkUp, fun q v hw =>
      ⟨fun hv => State.refusesWrite_error (eff := fxPortConfigWrite port v) rfl hw (if_pos hv), takes_portConfig hw, completes_portConfigDown hw⟩⟩
    · exact completes_macControl hl h1 h2
    · exact completes_macLength hl h
    · exact completes_frameChecks hl hb
  · exact State.refusesWrite_error (eff := fxShaperRateWrite port cls v) rfl hw (if_pos hv)
  · exact State.refusesWrite_error (eff := fxShaperBurstWrite port cls v) rfl hw (if_pos hv)

end Sys2Proof.Proofs
end

section
/-! Program loads (R110, R202): the lines that a PLOAD writes, tile by tile. -/

namespace Sys2Proof.Machine

section

variable {s u : State} {list idx off n : Nat} {l : ListRun} {e : EntryRun}

/-- A tile after its program has been loaded. -/
def Tile.loaded (t : Tile) (off : Nat) (bs : List Byte) (ep : Nat) : Tile := { t.writeBytes .w off bs with resident := true, epoch := ep }

theorem Tile.loaded_reads {t : Tile} (hb : t.bad = .empty) (hw : t.w.wf = true) (off : Nat) (bs : List Byte) (ep : Nat) :
    (t.loaded off bs ep).readBytes .w off bs.length = bs := by
  have hm := Tile.mem_writeBytes t .w off bs (Tile.soundAt_empty hb)
  refine Eq.trans (congrArg (fun m : Memory => m.readBytes off bs.length) (Tile.mem_congr (t := t.writeBytes .w off bs) rfl rfl rfl .w)) ?_
  rw [hm]
  exact Memory.readBytes_writeBytes hw off bs

/-- A tile that a PLOAD may serve. -/
def State.servesLoad (s : State) (k off n : Nat) : Prop :=
  s.inWindow k off n = false ∧ (s.tileOf k).rangeOff off n = false ∧ (s.tileOf k).bad = .empty

theorem State.inWindow_congr {k : Nat} (ht : u.tileOf k = s.tileOf k) (ha : u.attach = s.attach) : u.inWindow k off n = s.inWindow k off n := by
  unfold State.inWindow
  rw [ht, ha]

theorem State.servesLoad_congr {k : Nat} (h : s.servesLoad k off n) (ht : u.tileOf k = s.tileOf k) (ha : u.attach = s.attach) : u.servesLoad k off n := by
  unfold State.servesLoad at *
  rw [State.inWindow_congr ht ha, ht]
  exact h

/-- A sound tile's program is loaded from sound tier 1. -/
theorem State.loadTile_sound {k : Nat} (hbad : s.tier1Bad = .empty) (h : s.servesLoad k off n) (src : Nat) : Step 17730631630848 s (s.loadTile k src off n) ∧
    (s.loadTile k src off n).tileOf k = (s.tileOf k).loaded off (s.tier1.readBytes src n) s.wafer.epoch.toNat ∧
    ∀ j, j ≠ k → (s.loadTile k src off n).tileOf j = s.tileOf j := by
  obtain ⟨hwin, -, hb⟩ := h
  have hread : Step 17593192677376 s (s.tierRead src n) := State.tierRead_sound hbad src n (by decide)
  have htile : ∀ j, (s.tierRead src n).tileOf j = s.tileOf j := fun j => by
    unfold State.tileOf
    rw [hread.tiles (by decide)]
  have hlines : (s.tierRead src n).loadLines k off (s.tier1.readBytes src n) =
      (s.tierRead src n).setTile k ((s.tileOf k).writeBytes .w off (s.tier1.readBytes src n)) := by
    refine (if_neg ?_).trans ?_
    · rw [Memory.length_readBytes, State.inWindow_congr (htile k) (hread.attach (by decide)), hwin]
      decide
    · rw [State.storeWrite_sound (Tile.soundAt_empty (by rw [htile]; exact hb)), htile]
  have hx : s.loadTile k src off n = (s.tierRead src n).setTile k ((s.tileOf k).loaded off (s.tier1.readBytes src n) s.wafer.epoch.toNat) := by
    unfold State.loadTile
    dsimp only
    rw [hlines, State.tileOf_setTile_same, State.setTile_setTile]
    rfl
  rw [hx]
  exact ⟨State.setTile_step (hread.mono (by decide)) (by decide), State.tileOf_setTile_same .., fun j hj =>
    (State.tileOf_setTile_other _ hj _).trans (htile j)⟩

/-- The tiles of a PLOAD are served one after another. -/
theorem State.loadAll_sound (j : Nat) : ∀ (ls : List (Nat × Nat)) (s : State), s.tier1Bad = .empty → (ls.map Prod.fst).Nodup →
    (∀ x ∈ ls, s.servesLoad x.1 off n) → (s.entryOf list idx).isSome = true → Step 17730631632896 s (State.loadAll list idx j off n ls s) ∧
      ((State.loadAll list idx j off n ls s).entryOf list idx).isSome = true ∧
      (∀ x ∈ ls, (State.loadAll list idx j off n ls s).tileOf x.1 = (s.tileOf x.1).loaded off (s.tier1.readBytes x.2 n) s.wafer.epoch.toNat) ∧
      ∀ k, k ∉ ls.map Prod.fst → (State.loadAll list idx j off n ls s).tileOf k = s.tileOf k := by
  intro ls
  induction ls with
  | nil => exact fun s _ _ _ he => ⟨Step.refl _ s, he, fun _ h => absurd h List.not_mem_nil, fun _ _ => rfl⟩
  | cons x r ih =>
    obtain ⟨k, src⟩ := x
    intro s hbad hnd hserve he
    obtain ⟨hk, hr⟩ := List.nodup_cons.1 hnd
    have hsk := hserve (k, src) List.mem_cons_self
    obtain ⟨hstep, hsame, hother⟩ := State.loadTile_sound hbad hsk src
    have hmap : Step 17730631632896 s ((s.loadTile k src off n).entryMap list idx fun e => { e with result := e.result + 1 }) :=
      State.entryMap_step (hstep.mono (by decide)) (by decide)
    have hx : State.loadAll list idx j off n ((k, src) :: r) s = State.loadAll list idx j off n r
        ((s.loadTile k src off n).entryMap list idx fun e => { e with result := e.result + 1 }) :=
      (if_neg (by rw [hsk.2.1]; decide)).trans (if_neg (by rw [State.tierBad_sound hbad]; decide))
    have htile : ∀ k', ((s.loadTile k src off n).entryMap list idx fun e => { e with result := e.result + 1 }).tileOf k' = (s.loadTile k src off n).tileOf k' :=
      fun k' => by
        unfold State.tileOf
        rw [(State.entryMap_step (Step.refl 2048 _) (by decide)).tiles (by decide)]
    have hentry : (((s.loadTile k src off n).entryMap list idx fun e => { e with result := e.result + 1 }).entryOf list idx).isSome = true := by
      obtain ⟨e, he⟩ := Option.isSome_iff_exists.1 he
      have hkept := State.entryOf_entryMap (f := fun e => { e with result := e.result + 1 }) ((State.entryOf_congr (hstep.lists (by decide)) ..).trans he)
        (fun _ => rfl) fun _ => rfl
      rw [hkept]
      rfl
    rw [hx]
    generalize (s.loadTile k src off n).entryMap list idx (fun e => { e with result := e.result + 1 }) = b at *
    have hrk : ∀ y ∈ r, y.1 ≠ k := fun y hy e => hk (e ▸ List.mem_map.2 ⟨y, hy, rfl⟩)
    obtain ⟨i1, i2, i3, i4⟩ := ih b ((hmap.tier1Bad (by decide)).trans hbad) hr (fun y hy => State.servesLoad_congr (hserve y (List.mem_cons_of_mem _ hy))
      ((htile _).trans (hother _ (hrk y hy))) (hmap.attach (by decide))) hentry
    refine ⟨hmap.trans i1, i2, fun y hy => ?_, fun k' hk' => ?_⟩
    · rcases List.mem_cons.1 hy with rfl | hy
      · exact (i4 k hk).trans ((htile k).trans hsame)
      · rw [i3 y hy, htile, hother _ (hrk y hy), hmap.tier1 (by decide), hmap.wafer (by decide)]
    · rw [List.map_cons, List.mem_cons, not_or] at hk'
      rw [i4 k' hk'.2, htile, hother k' hk'.1]

/-- The conditions against a PLOAD besides its job's. -/
def State.ploadConds (s : State) (l : ListRun) (e : EntryRun) : List Status :=
  s.regionConds e l.job
    ++ cond (!e.restZero [(4, 2), (6, 1), (7, 1), (8, 4), (0xC, 2), (0xE, 2), (0x10, 8), (0x18, 4)]
        || decide (16384 * 64 < e.loadOff + e.loadLen) || e.field 8 4 != s.wafer.epoch.toNat ||
        (s.wafer.regionKeys e.gridRegion).any fun k => s.inWindow k e.loadOff e.loadLen) .badCommand
    ++ (s.loads e).flatMap fun x => s.tierConds x.2 e.loadLen l.job

/-- What an accepted PLOAD keeps in its job, for tiles that are restored later. -/
def State.ploadKept (s : State) (j : Nat) (q : Job) (e : EntryRun) : State :=
  let g := e.gridRegion
  { s with jobs := s.jobs.set j { q with
      pload := some [e.field 0x10 8, e.field 0x18 4, e.loadOff, e.loadLen, g.lx, g.ly, g.w, g.h] } }

theorem exec_pload_due (h : s.begun list idx 0 1 l e) (hc : s.ploadConds l e = []) (hf : (s.wafer.regionKeys e.gridRegion).any s.fencedAt = false)
    (hd : (s.loadSegs e).all (fun x => s.dram.get false x) = true)
    (hw : ((s.wafer.regionKeys e.gridRegion).any fun k => s.extWaits k e.loadOff e.loadLen) = false) :
    exec (.pload list idx) s = .next (State.loadAll list idx l.job e.loadOff e.loadLen (s.loads e) ((s.entryAccept list idx).ploadKept l.job (s.jobOf l.job) e)) := by
  have hst : worst (s.jobConds l.job ++ s.ploadConds l e) = .ok := by
    rw [hc, State.jobConds_open h.2]
    rfl
  unfold State.ploadConds at hst
  have hst' : worst (s.jobConds l.job ++ s.regionConds e l.job
      ++ cond (!e.restZero [(4, 2), (6, 1), (7, 1), (8, 4), (0xC, 2), (0xE, 2), (0x10, 8), (0x18, 4)]
          || decide (16384 * 64 < e.loadOff + e.loadLen) || e.field 8 4 != s.wafer.epoch.toNat ||
          (s.wafer.regionKeys e.gridRegion).any fun k => s.inWindow k e.loadOff e.loadLen) .badCommand
      ++ (s.loads e).flatMap fun x => s.tierConds x.2 e.loadLen l.job) = .ok := by
    rw [← hst]
    simp only [List.append_assoc]
  show execPload list idx s = _
  unfold execPload
  simp only [h.1]
  refine (if_neg (by rw [hst']; decide)).trans ((if_neg (by rw [hf]; decide)).trans ((if_neg (by rw [hd]; decide)).trans ?_))
  exact whenDue_true (by rw [hw]; rfl) _ _

/-- Where the conditions of R202 and R198 are met there are none against a PLOAD. -/
theorem State.ploadConds_nil (hr : s.regionConds e l.job = [])
    (hz : e.restZero [(4, 2), (6, 1), (7, 1), (8, 4), (0xC, 2), (0xE, 2), (0x10, 8), (0x18, 4)] = true) (hlen : e.loadOff + e.loadLen ≤ 16384 * 64)
    (hep : e.field 8 4 = s.wafer.epoch.toNat) (hwin : ∀ k ∈ s.wafer.regionKeys e.gridRegion, s.inWindow k e.loadOff e.loadLen = false)
    (hsrc : ∀ x ∈ s.loads e, x.2 < tier1Size ∧ x.2 + e.loadLen ≤ tier1Size ∧ (s.jobOf l.job).covers x.2 e.loadLen = true) : s.ploadConds l e = [] := by
  have hw : ((s.wafer.regionKeys e.gridRegion).any fun k => s.inWindow k e.loadOff e.loadLen) = false :=
    List.any_eq_false.2 fun k hk => by rw [hwin k hk]; decide
  have ht : ((s.loads e).flatMap fun x => s.tierConds x.2 e.loadLen l.job) = [] := List.flatMap_eq_nil_iff.2 fun x hx => by
    obtain ⟨h1, h2, h3⟩ := hsrc x hx
    unfold State.tierConds
    rw [Wafer.target_tier1 h1]
    simp only [h3, decide_eq_false (Nat.not_lt.2 h2)]
    rfl
  unfold State.ploadConds
  rw [hr, ht, hz, decide_eq_false (Nat.not_lt.2 hlen), hep, hw, bne_self_eq_false]
  rfl

theorem completes_pload (h : s.begun list idx 0 1 l e) (hr : s.regionConds e l.job = [])
    (hz : e.restZero [(4, 2), (6, 1), (7, 1), (8, 4), (0xC, 2), (0xE, 2), (0x10, 8), (0x18, 4)] = true) (hlen : e.loadOff + e.loadLen ≤ 16384 * 64)
    (hep : e.field 8 4 = s.wafer.epoch.toNat) (hnd : (s.wafer.regionKeys e.gridRegion).Nodup) (hbad : s.tier1Bad = .empty)
    (hsrc : ∀ i < (s.wafer.regionKeys e.gridRegion).length, e.image i < tier1Size ∧ e.image i + e.loadLen ≤ tier1Size ∧
      (s.jobOf l.job).covers (e.image i) e.loadLen = true) (hd : (s.loadSegs e).all (fun x => s.dram.get false x) = true)
    (hk : ∀ k ∈ s.wafer.regionKeys e.gridRegion, s.inWindow k e.loadOff e.loadLen = false ∧ s.fencedAt k = false ∧
      s.extWaits k e.loadOff e.loadLen = false ∧ (s.tileOf k).rangeOff e.loadOff e.loadLen = false ∧ (s.tileOf k).bad = .empty ∧ (s.tileOf k).w.wf = true) :
    completes (.pload list idx) s (entryFields ++ ([.jobs, .suspects, .tiles] : List Field)) fun t => (t.entryOf list idx).isSome = true ∧
      (∀ i k, (s.wafer.regionKeys e.gridRegion)[i]? = some k → (t.tileOf k).readBytes .w e.loadOff e.loadLen = s.tier1.readBytes (e.image i) e.loadLen ∧
        (t.tileOf k).resident = true ∧ (t.tileOf k).epoch = s.wafer.epoch.toNat) ∧ (∀ k, k ∉ s.wafer.regionKeys e.gridRegion → t.tileOf k = s.tileOf k) ∧
      t.jobOf l.job = { s.jobOf l.job with pload := some [e.field 0x10 8, e.field 0x18 4, e.loadOff, e.loadLen, e.gridRegion.lx, e.gridRegion.ly,
        e.gridRegion.w, e.gridRegion.h] } ∧ ∀ j, j ≠ l.job → t.jobOf j = s.jobOf j := by
  have hloads : ∀ x ∈ s.loads e, ∃ i k, (s.wafer.regionKeys e.gridRegion)[i]? = some k ∧ x = (k, e.image i) := fun x hx => by
    obtain ⟨y, hy, rfl⟩ := List.mem_map.1 hx
    exact ⟨y.2, y.1, List.mem_zipIdx_iff_getElem?.1 hy, rfl⟩
  have hfst : (s.loads e).map Prod.fst = s.wafer.regionKeys e.gridRegion := by
    unfold State.loads
    rw [List.map_map]
    exact List.zipIdx_map_fst ..
  have hconds := State.ploadConds_nil hr hz hlen hep (fun k hm => (hk k hm).1) fun x hx => by
    obtain ⟨i, k, hi, rfl⟩ := hloads x hx
    exact hsrc i (List.getElem?_eq_some_iff.1 hi).1
  have hx := exec_pload_due h hconds (List.any_eq_false.2 fun k hm => by rw [(hk k hm).2.1]; decide) hd
    (List.any_eq_false.2 fun k hm => by rw [(hk k hm).2.2.1]; decide)
  obtain ⟨a, ha⟩ : ∃ a, a = (s.entryAccept list idx).ploadKept l.job (s.jobOf l.job) e := ⟨_, rfl⟩
  have hacc : Step 2048 s (s.entryAccept list idx) := State.entryAccept_step (Step.refl _ s) (by decide)
  have htile : ∀ k, a.tileOf k = s.tileOf k := fun k => by
    rw [ha]
    show (s.entryAccept list idx).tileOf k = _
    unfold State.tileOf
    rw [hacc.tiles (by decide)]
  have hattach : a.attach = s.attach := by
    rw [ha]
    exact hacc.attach (by decide)
  have htier : a.tier1 = s.tier1 ∧ a.tier1Bad = s.tier1Bad ∧ a.wafer = s.wafer := by
    rw [ha]
    exact ⟨hacc.tier1 (by decide), hacc.tier1Bad (by decide), hacc.wafer (by decide)⟩
  obtain ⟨ht1, ht2, ht3⟩ := htier
  have hentry : (a.entryOf list idx).isSome = true := by
    rw [ha]
    exact Option.isSome_iff_exists.2 ⟨e, State.begun_accepted h⟩
  rw [← ha] at hx
  have hserve : ∀ x ∈ s.loads e, a.servesLoad x.1 e.loadOff e.loadLen := fun x hx => by
    obtain ⟨i, k, hi, rfl⟩ := hloads x hx
    obtain ⟨g1, -, -, g4, g5, -⟩ := hk k (List.mem_of_getElem? hi)
    exact State.servesLoad_congr (s := s) ⟨g1, g4, g5⟩ (htile k) hattach
  obtain ⟨hstep, hsome, hin, hout⟩ := State.loadAll_sound (list := list) (idx := idx) l.job (s.loads e) a (ht2.trans hbad) (hfst ▸ hnd) hserve hentry
  have hjobs : (State.loadAll list idx l.job e.loadOff e.loadLen (s.loads e) a).jobs = s.jobs.set l.job { s.jobOf l.job with
      pload := some [e.field 0x10 8, e.field 0x18 4, e.loadOff, e.loadLen, e.gridRegion.lx, e.gridRegion.ly, e.gridRegion.w, e.gridRegion.h] } := by
    rw [hstep.jobs (by decide), ha]
    show (s.entryAccept list idx).jobs.set _ _ = _
    rw [hacc.jobs (by decide)]
  refine completes_of hx (exec_pload s) (by decide) ⟨hsome, fun i k hi => ?_, fun k hn => ?_, ?_, fun j hj => ?_⟩
  · have hmem : (k, e.image i) ∈ s.loads e := List.mem_map.2 ⟨(k, i), List.mem_zipIdx_iff_getElem?.2 hi, rfl⟩
    have hl := hin _ hmem
    obtain ⟨-, -, -, -, g5, g6⟩ := hk k (List.mem_of_getElem? hi)
    rw [hl, htile, ht1, ht3]
    refine ⟨?_, rfl, rfl⟩
    have hread := Tile.loaded_reads g5 g6 e.loadOff (s.tier1.readBytes (e.image i) e.loadLen) s.wafer.epoch.toNat
    rwa [Memory.length_readBytes] at hread
  · exact (hout k (by rw [hfst]; exact hn)).trans (htile k)
  · unfold State.jobOf
    rw [hjobs, Tab.get_set_same]
    rfl
  · unfold State.jobOf
    rw [hjobs, Tab.get_set_other _ _ _ hj]

/-- A PLOAD against a stale epoch is refused (R110). -/
theorem completes_ploadStale (h : s.begun list idx 0 1 l e) (hep : e.field 8 4 ≠ s.wafer.epoch.toNat) :
    completes (.pload list idx) s entryFields fun t => t.ended list idx .badCommand := by
  have hstale : (e.field 8 4 != s.wafer.epoch.toNat) = true := bne_iff_ne.2 hep
  obtain ⟨x, hx⟩ : ∃ x, x = s.fire 0x0106 (s.wafer.tileUnit ((s.wafer.regionKeys e.gridRegion).headD 0)) 1 := ⟨_, rfl⟩
  have hk : Step 1006632960 s x := hx ▸ State.fire_step (Step.refl _ s) (by decide)
  have hexec : exec (.pload list idx) s = .next (x.entryRefuse list idx .badCommand 0x0106) := by
    have hst : worst (s.jobConds l.job ++ s.regionConds e l.job
        ++ cond (!e.restZero [(4, 2), (6, 1), (7, 1), (8, 4), (0xC, 2), (0xE, 2), (0x10, 8), (0x18, 4)]
            || decide (16384 * 64 < e.loadOff + e.loadLen) || e.field 8 4 != s.wafer.epoch.toNat ||
            (s.wafer.regionKeys e.gridRegion).any fun k => s.inWindow k e.loadOff e.loadLen) .badCommand
        ++ (s.loads e).flatMap fun x => s.tierConds x.2 e.loadLen l.job) = .badCommand :=
      worst_badCommand (List.mem_append_left _ (List.mem_append_right _ (mem_cond (by rw [hstale]; simp) _)))
    show execPload list idx s = _
    unfold execPload
    simp only [h.1]
    refine (if_pos (by rw [hst]; decide)).trans ?_
    rw [hst, if_pos hstale, if_pos hstale, hx]
  exact completes_step hexec (State.entryRefuse_step (hk.mono (by decide)) (by decide))
    (State.ended_entryRefuse ((State.entryOf_congr (hk.lists (by decide)) ..).trans (State.begun_entryOf h)) _ _)

end

end Sys2Proof.Machine
end

section
/-! Task starts (R112, R131, R132, R135, R138, R202): the tiles that a TSTART's tasks start on. -/

namespace Sys2Proof.Machine

/-- A tile that has changed in the contents of its stores only. -/
def Tile.sameButStores (t u : Tile) : Prop := u = { t with w := u.w, a := u.a, p := u.p, written := u.written, sat := u.sat, bad := u.bad }

theorem Tile.sameButStores_refl (t : Tile) : t.sameButStores t := rfl

theorem Tile.sameButStores_trans {t u v : Tile} (h : t.sameButStores u) (g : u.sameButStores v) : t.sameButStores v :=
  Eq.trans g (congrArg (fun x : Tile => { x with w := v.w, a := v.a, p := v.p, written := v.written, sat := v.sat, bad := v.bad }) h)

theorem Tile.sameButStores_keeps {t u : Tile} (h : t.sameButStores u) : u.resident = t.resident ∧ u.ctxs = t.ctxs := by
  unfold Tile.sameButStores at h
  constructor <;> rw [h]

theorem Tile.clearLines_stores (t : Tile) (st : StoreSel) (lo hi : Nat) : t.sameButStores (t.clearLines st lo hi) := by
  cases st <;> rfl

theorem Tile.sameButStores_foldl {α : Type} {f : Tile → α → Tile} (hf : ∀ x a, Tile.sameButStores x (f x a)) (l : List α) :
    ∀ t : Tile, t.sameButStores (l.foldl f t) := by
  induction l with
  | nil => exact fun t => t.sameButStores_refl
  | cons a r ih => exact fun t => Tile.sameButStores_trans (hf t a) (ih (f t a))

theorem Tile.banksOff_stores (t : Tile) (st : StoreSel) (mask : Nat) : t.sameButStores (t.banksOff st mask) :=
  Tile.sameButStores_foldl (fun x b => by
    split
    · exact x.clearLines_stores ..
    · exact x.sameButStores_refl) _ t

/-- A core at a task's start. -/
theorem CoreSt.start_eq (c : CoreSt) (a : Nat) :
    c.start a = { c with pc := if a = 0xFFFFFFFF then c.pc else a, halted := decide (a = 0xFFFFFFFF), event := false } := by
  unfold CoreSt.start
  by_cases h : a = 0xFFFFFFFF
  · rw [if_pos h, if_pos h, decide_eq_true h]
  · rw [if_neg h, if_neg h, decide_eq_false h]

/-- What a task's start makes of a tile, besides its stores, registers and regions. -/
def Tile.begun (t : Tile) (e : EntryRun) (list j : Nat) (x : Tile) : Prop :=
  x.core0 = t.core0.start (e.field 8 4) ∧ x.core1 = t.core1.start (e.field 0xC 4) ∧
    x.task = some ⟨list, e.idx, j, none, none, 0⟩ ∧ x.queue = [] ∧ x.feeders = [] ∧ x.plane0 = none ∧ x.plane1 = none ∧
    x.wBase = e.field 0x10 2 ∧ x.wLimit = e.field 0x12 2 ∧ x.aBase = e.field 0x14 2 ∧ x.aLimit = e.field 0x16 2 ∧
    x.pBase = e.field 0x18 2 ∧ x.pLimit = e.field 0x1A 2 ∧ x.pdW = e.field 0x1C 2 ∧ x.pdA = e.field 0x1E 2 ∧ x.pdP = e.field 0x20 1 ∧
    x.viol = 0 ∧ x.viol2 = 0 ∧ x.resident = t.resident ∧ x.ctxs = t.ctxs

theorem Tile.begun_stores {t x y : Tile} {e : EntryRun} {list j : Nat} (h : t.begun e list j x) (g : x.sameButStores y) : t.begun e list j y := by
  unfold Tile.sameButStores at g
  rw [g]
  exact h

theorem Tile.start_begun (t : Tile) (e : EntryRun) (policy list j : Nat) (reset : Bool) : t.begun e list j (t.start e policy list j reset) := by
  have h1 : t.sameButStores (stores.foldl (fun x st => x.banksOff st (e.pdMask st)) t) :=
    Tile.sameButStores_foldl (fun x st => x.banksOff_stores st _) stores t
  obtain ⟨hres, hctx⟩ := Tile.sameButStores_keeps h1
  unfold Tile.start
  refine Tile.begun_stores ?_ (Tile.sameButStores_foldl (fun x st => ?_) stores _)
  · exact ⟨rfl, rfl, rfl, rfl, rfl, rfl, rfl, rfl, rfl, rfl, rfl, rfl, rfl, rfl, rfl, rfl, rfl, rfl, hres, hctx⟩
  · split
    · exact x.clearLines_stores ..
    · exact x.sameButStores_refl

section

variable {s : State} {list idx : Nat} {l : ListRun} {e : EntryRun}

/-- Tasks start on tiles, each once. -/
theorem State.startTasks (e : EntryRun) (list j : Nat) : ∀ (keys : List Nat) (s : State), keys.Nodup →
    Step 137438953472 s (each keys (fun x k => x.startTask k e list j false) s) ∧
    (∀ k ∈ keys, (s.tileOf k).begun e list j ((each keys (fun x k => x.startTask k e list j false) s).tileOf k)) ∧
    ∀ k, k ∉ keys → (each keys (fun x k => x.startTask k e list j false) s).tileOf k = s.tileOf k := by
  intro keys
  induction keys with
  | nil => exact fun s _ => ⟨Step.refl _ s, fun _ h => absurd h List.not_mem_nil, fun _ _ => rfl⟩
  | cons k r ih =>
    intro s hnd
    obtain ⟨hk, hr⟩ := List.nodup_cons.1 hnd
    have hother : ∀ j', j' ≠ k → (s.startTask k e list j false).tileOf j' = s.tileOf j' := fun j' hj => State.tileOf_setTile_other _ hj _
    obtain ⟨i1, i2, i3⟩ := ih (s.startTask k e list j false) hr
    refine ⟨(State.setTile_step (Step.refl _ s) (by decide) : Step _ s (s.startTask k e list j false)).trans i1, fun k' hk' => ?_, fun k' hk' => ?_⟩
    · rcases List.mem_cons.1 hk' with rfl | hk'
      · have hsame : (s.startTask k' e list j false).tileOf k' = (s.tileOf k').start e (s.policyOf e) list j false := State.tileOf_setTile_same ..
        show (s.tileOf k').begun e list j ((each r (fun x k => x.startTask k e list j false) (s.startTask k' e list j false)).tileOf k')
        rw [i3 k' hk, hsame]
        exact Tile.start_begun ..
      · rw [← hother k' fun e => hk (e ▸ hk')]
        exact i2 k' hk'
    · rw [List.mem_cons, not_or] at hk'
      exact (i3 k' hk'.2).trans (hother k' hk'.1)

theorem exec_tstart_due (h : s.begun list idx 0 2 l e) (hr : s.regionConds e l.job = [])
    (hz : e.restZero [(4, 2), (6, 1), (7, 1), (8, 4), (0xC, 4), (0x10, 0x12), (0x28, 0x18)] = true) (hb : e.startBad = false)
    (hne : s.wafer.regionKeys e.gridRegion ≠ [])
    (hk : ∀ k ∈ s.wafer.regionKeys e.gridRegion, (s.tileOf k).task = none ∧ s.windowMeets k e = false ∧ s.fencedAt k = false ∧ (s.tileOf k).flights = []) :
    exec (.tstart list idx) s = .next (each (s.wafer.regionKeys e.gridRegion) (fun x k => x.startTask k e list l.job false)
      ((s.entryAccept list idx).entryMap list idx fun x => { x with parts := (s.wafer.regionKeys e.gridRegion).length
                                                                    result := (s.wafer.regionKeys e.gridRegion).length })) := by
  have hfree : ((s.wafer.regionKeys e.gridRegion).any fun k => (s.tileOf k).task.isSome || s.windowMeets k e) = false :=
    List.any_eq_false.2 fun k hm => by
      obtain ⟨h1, h2, -, -⟩ := hk k hm
      rw [h1, h2]
      decide
  have hst : worst (s.jobConds l.job ++ s.regionConds e l.job
      ++ cond (!e.restZero [(4, 2), (6, 1), (7, 1), (8, 4), (0xC, 4), (0x10, 0x12), (0x28, 0x18)] || e.startBad
          || (s.wafer.regionKeys e.gridRegion).any fun k => (s.tileOf k).task.isSome || s.windowMeets k e) .badCommand) = .ok := by
    rw [State.jobConds_open h.2, hr, hz, hb, hfree]
    rfl
  show execTstart list idx s = _
  unfold execTstart
  simp only [h.1]
  refine (if_neg (by rw [hst]; decide)).trans ((if_neg ?_).trans ((if_neg ?_).trans (whenDue_true ?_ _ _)))
  · rw [Bool.not_eq_true]
    exact List.any_eq_false.2 fun k hm => by rw [(hk k hm).2.2.1]; decide
  · rw [List.isEmpty_iff]
    exact hne
  · exact List.all_eq_true.2 fun k hm => by rw [(hk k hm).2.2.2]; rfl

theorem completes_tstart (h : s.begun list idx 0 2 l e) (hr : s.regionConds e l.job = [])
    (hz : e.restZero [(4, 2), (6, 1), (7, 1), (8, 4), (0xC, 4), (0x10, 0x12), (0x28, 0x18)] = true) (hb : e.startBad = false)
    (hnd : (s.wafer.regionKeys e.gridRegion).Nodup) (hne : s.wafer.regionKeys e.gridRegion ≠ [])
    (hk : ∀ k ∈ s.wafer.regionKeys e.gridRegion, (s.tileOf k).task = none ∧ s.windowMeets k e = false ∧ s.fencedAt k = false ∧ (s.tileOf k).flights = []) :
    completes (.tstart list idx) s (entryFields ++ ([.tiles] : List Field)) fun t =>
      (∃ x, t.entryOf list idx = some x ∧ x.parts = (s.wafer.regionKeys e.gridRegion).length ∧ x.result = (s.wafer.regionKeys e.gridRegion).length) ∧
      (∀ k, k ∉ s.wafer.regionKeys e.gridRegion → t.tileOf k = s.tileOf k) ∧
      ∀ k ∈ s.wafer.regionKeys e.gridRegion, (s.tileOf k).begun e list l.job (t.tileOf k) := by
  have hx := exec_tstart_due h hr hz hb hne hk
  obtain ⟨a, ha⟩ : ∃ a, a = (s.entryAccept list idx).entryMap list idx fun x => { x with
    parts := (s.wafer.regionKeys e.gridRegion).length, result := (s.wafer.regionKeys e.gridRegion).length } := ⟨_, rfl⟩
  have hsa : Step 2048 s a := ha ▸ State.entryMap_step (State.entryAccept_step (Step.refl _ s) (by decide)) (by decide)
  have hentry := State.entryOf_entryMap (f := fun x => { x with
    parts := (s.wafer.regionKeys e.gridRegion).length, result := (s.wafer.regionKeys e.gridRegion).length }) (State.begun_accepted h) (fun _ => rfl) fun _ => rfl
  rw [← ha] at hx hentry
  have htile : ∀ k, a.tileOf k = s.tileOf k := fun k => by
    unfold State.tileOf
    rw [hsa.tiles (by decide)]
  obtain ⟨h1, h2, h3⟩ := State.startTasks e list l.job (s.wafer.regionKeys e.gridRegion) a hnd
  refine completes_of hx (exec_tstart s) (by decide) ⟨⟨_, (State.entryOf_congr (h1.lists (by decide)) ..).trans hentry, rfl, rfl⟩, fun k hn => ?_, fun k hm => ?_⟩
  · exact (h3 k hn).trans (htile k)
  · rw [← htile k]
    exact h2 k hm

end

end Sys2Proof.Machine
end

section
/-! COPY and the ends of GRID entries (R121, R126, R202), and the obligation. -/

namespace Sys2Proof.Machine

section

variable {s : State} {list idx : Nat} {l : ListRun} {e : EntryRun}

theorem State.copyTile_tier {a : Nat} (h : a < tier1Size) : s.copyTile a = none := by
  unfold State.copyTile
  rw [Wafer.target_tier1 h]

theorem State.copyTile_tile {a k off : Nat} (h : s.wafer.target a = .tile k off) : s.copyTile a = some (k, off) := by
  unfold State.copyTile
  rw [h]

theorem State.copyTile_congr {t : State} (h : t.wafer = s.wafer) (a : Nat) : t.copyTile a = s.copyTile a := by
  unfold State.copyTile
  rw [h]

theorem State.copyBad_sound (h : s.tier1Bad = .empty) (a n : Nat) (w : Bool) : s.copyBad a n w = false := by
  have hstop : s.tierStop a n = [] := by
    unfold State.tierStop
    rw [State.tierErrors_sound h]
    rfl
  unfold State.copyBad
  rw [hstop, State.tierBad_sound h]
  cases w <;> exact Bool.and_false _

/-- A COPY that nothing speaks against, over sound, powered and unfenced units. -/
structure State.mayCopy (s : State) (list idx : Nat) (l : ListRun) (e : EntryRun) : Prop where
  begun : s.begun list idx 0 4 l e
  zero : e.restZero [(4, 4), (8, 8), (0x10, 8)] = true
  whole : e.field 4 4 % 64 = 0
  least : 64 ≤ e.field 4 4
  most : e.field 4 4 ≤ 2 ^ 24
  window : s.copyWindow (e.field 0x10 8) (e.field 4 4) = false
  source : s.copyConds (e.field 8 8) (e.field 4 4) l.job = []
  target : s.copyConds (e.field 0x10 8) (e.field 4 4) l.job = []
  fence : (s.copyKeys (e.field 8 8) (e.field 0x10 8)).any s.fencedAt = false
  powered : (segsIn (e.field 8 8) (e.field 4 4) ++ segsIn (e.field 0x10 8) (e.field 4 4)).all (fun g => s.dram.get false g) = true
  channels : s.dmaReady (segsIn (e.field 8 8) (e.field 4 4) ++ segsIn (e.field 0x10 8) (e.field 4 4)) = true
  sourceReady : s.copyWaits (e.field 8 8) (e.field 4 4) = false
  targetReady : s.copyWaits (e.field 0x10 8) (e.field 4 4) = false
  sound : s.tier1Bad = .empty

/-- The state in which an accepted COPY, its channels taken, moves its bytes. -/
def State.copying (s : State) (list idx : Nat) (l : ListRun) (e : EntryRun) : State :=
  (s.entryAccept list idx).dmaTake (segsIn (e.field 8 8) (e.field 4 4) ++ segsIn (e.field 0x10 8) (e.field 4 4)) list idx l.job

theorem State.copying_step (s : State) (list idx : Nat) (l : ListRun) (e : EntryRun) : Step 17179871232 s (s.copying list idx l e) := by
  unfold State.copying
  exact State.dmaTake_step (State.entryAccept_step (Step.refl _ s) (by decide)) (by decide)

theorem exec_copy_due (h : s.mayCopy list idx l e) (hr : ((s.copying list idx l e).copyReadEffect (e.field 8 8) (e.field 4 4)).tier1Bad = .empty) :
    exec (.copy list idx []) s = .next (((s.copying list idx l e).copyReadEffect (e.field 8 8) (e.field 4 4)).copyWrite (e.field 0x10 8)
      ((s.copying list idx l e).copyRead (e.field 8 8) (e.field 4 4))) := by
  obtain ⟨hb, hz, h1, h2, h3, h4, h5, h6, h7, h8, h9, h10, h11, h12⟩ := h
  have hst : worst (s.jobConds l.job ++ cond (!e.restZero [(4, 4), (8, 8), (0x10, 8)] || e.field 4 4 % 64 != 0 || decide (e.field 4 4 < 64)
      || decide (2 ^ 24 < e.field 4 4) || s.copyWindow (e.field 0x10 8) (e.field 4 4)) .badCommand
      ++ s.copyConds (e.field 8 8) (e.field 4 4) l.job ++ s.copyConds (e.field 0x10 8) (e.field 4 4) l.job) = .ok := by
    rw [State.jobConds_open hb.2, hz, h1, decide_eq_false (Nat.not_lt.2 h2), decide_eq_false (Nat.not_lt.2 h3), h4, h5, h6]
    rfl
  show execCopy list idx [] s = _
  unfold execCopy
  simp only [hb.1]
  refine (if_neg (by rw [hst]; decide)).trans ((if_neg (by rw [h7]; decide)).trans ((if_neg (by rw [h8]; decide)).trans ((if_neg (by rw [h10, h11]; decide)).trans
    ((whenDue_true h9 _ _).trans (congrArg _ (if_neg ?_))))))
  rw [State.tierStrike_nil]
  show ¬ (State.copyBad (s.copying list idx l e) _ _ _ || State.copyBad ((s.copying list idx l e).copyReadEffect _ _) _ _ _) = true
  rw [State.copyBad_sound (((s.copying_step list idx l e).tier1Bad (by decide)).trans h12), State.copyBad_sound hr]
  decide

/-- A read of a sound store counts unwritten lines, and nothing else. -/
theorem State.extReadEffect_sound {k off o : Nat} {st : StoreSel} (ho : offStore off = some (st, o)) (hb : (s.tileOf k).bad = .empty) (n : Nat) :
    Step 4194304 s (s.extReadEffect k off n) := by
  have hx : s.extReadEffect k off n = s.count 64 0x2300 4 ((linesOf o n).filter fun l => !(s.tileOf k).isWritten st l).length := by
    unfold State.extReadEffect
    simp only [ho]
    exact State.storeEcc_sound (Tile.soundAt_empty hb)
  rw [hx]
  exact State.count_step (Step.refl _ s) (by decide)

theorem State.extWrite_sound {k off o : Nat} {st : StoreSel} (ho : offStore off = some (st, o)) (hb : (s.tileOf k).bad = .empty) (bs : List Byte) :
    s.extWrite k off bs = s.setTile k ((s.tileOf k).writeBytes st o bs) := by
  unfold State.extWrite
  simp only [ho]
  exact State.storeWrite_sound (Tile.soundAt_empty hb)

/-- Bytes of a COPY that are written to sound tier 1. -/
theorem State.copyWrite_tier {a : Nat} (ha : a < tier1Size) (hb : s.tier1Bad = .empty) (bs : List Byte) :
    (s.copyWrite a bs).tier1 = s.tier1.writeBytes a bs ∧ (s.copyWrite a bs).tiles = s.tiles ∧ (s.copyWrite a bs).lists = s.lists := by
  have hx : s.copyWrite a bs = s.tierWrite a bs := by
    unfold State.copyWrite
    rw [State.copyTile_tier ha]
  rw [hx, State.tierWrite_sound hb]
  exact ⟨rfl, rfl, rfl⟩

/-- The source of a COPY is read without a loss. -/
theorem State.copyRead_tier {a : Nat} (ha : a < tier1Size) (hb : s.tier1Bad = .empty) (n : Nat) :
    Step 17593192677376 s (s.copyReadEffect a n) ∧ s.copyRead a n = s.tier1.readBytes a n := by
  unfold State.copyReadEffect State.copyRead
  simp only [State.copyTile_tier ha]
  exact ⟨State.tierRead_sound hb a n (by decide), trivial⟩

theorem State.copyRead_tile {a k off o n : Nat} {st : StoreSel} (ha : s.wafer.target a = .tile k off) (ho : offStore off = some (st, o))
    (hb : (s.tileOf k).bad = .empty) : Step 4194304 s (s.copyReadEffect a n) ∧ s.copyRead a n = (s.tileOf k).readBytes st o n := by
  have hbytes : s.extBytes k off n = (s.tileOf k).readBytes st o n := by
    unfold State.extBytes
    simp only [ho]
  unfold State.copyReadEffect State.copyRead
  simp only [State.copyTile_tile ha, hbytes]
  exact ⟨State.extReadEffect_sound ho hb n, trivial⟩

theorem completes_copyTier (h : s.mayCopy list idx l e) (hs : e.field 8 8 < tier1Size) (hd : e.field 0x10 8 < tier1Size) :
    completes (.copy list idx []) s (entryFields ++ ([.suspects, .tiles, .fresh] : List Field)) fun t =>
      (t.entryOf list idx).isSome = true ∧ t.tier1 = s.tier1.writeBytes (e.field 0x10 8) (s.tier1.readBytes (e.field 8 8) (e.field 4 4)) ∧ t.tiles = s.tiles := by
  have hb := s.copying_step list idx l e
  obtain ⟨hk, hread⟩ := State.copyRead_tier hs ((hb.tier1Bad (by decide)).trans h.sound) (e.field 4 4)
  have hbad := (hk.tier1Bad (by decide)).trans ((hb.tier1Bad (by decide)).trans h.sound)
  have hx := exec_copy_due h hbad
  obtain ⟨h1, h2, h3⟩ := State.copyWrite_tier hd hbad ((s.copying list idx l e).copyRead (e.field 8 8) (e.field 4 4))
  have hentry : (s.copying list idx l e).entryOf list idx = some e :=
    (State.entryOf_congr ((State.dmaTake_step (Step.refl 17179869184 _) (by decide)).lists (by decide)) ..).trans (State.begun_accepted h.begun)
  refine completes_of hx (exec_copy s) (by decide) ⟨?_, ?_, ?_⟩
  · rw [State.entryOf_congr (h3.trans (hk.lists (by decide))), hentry]
    rfl
  · rw [h1, hread, hk.tier1 (by decide), hb.tier1 (by decide)]
  · rw [h2, hk.tiles (by decide), hb.tiles (by decide)]

theorem completes_copyIn (h : s.mayCopy list idx l e) (hs : e.field 8 8 < tier1Size) {k off o : Nat} {st : StoreSel}
    (hd : s.wafer.target (e.field 0x10 8) = .tile k off) (ho : offStore off = some (st, o)) (hbad : (s.tileOf k).bad = .empty) :
    completes (.copy list idx []) s (entryFields ++ ([.suspects, .tiles, .fresh] : List Field)) fun t => (t.entryOf list idx).isSome = true ∧
      (t.tileOf k).mem st = ((s.tileOf k).mem st).writeBytes o (s.tier1.readBytes (e.field 8 8) (e.field 4 4)) ∧ (∀ j, j ≠ k → t.tileOf j = s.tileOf j) ∧
      (∀ q, q ≠ st → (t.tileOf k).mem q = (s.tileOf k).mem q) ∧ t.tier1 = s.tier1 := by
  have hb := s.copying_step list idx l e
  obtain ⟨hk, hread⟩ := State.copyRead_tier hs ((hb.tier1Bad (by decide)).trans h.sound) (e.field 4 4)
  have hx := exec_copy_due h ((hk.tier1Bad (by decide)).trans ((hb.tier1Bad (by decide)).trans h.sound))
  have hentry : (s.copying list idx l e).entryOf list idx = some e :=
    (State.entryOf_congr ((State.dmaTake_step (Step.refl 17179869184 _) (by decide)).lists (by decide)) ..).trans (State.begun_accepted h.begun)
  rw [hread, hb.tier1 (by decide)] at hx
  obtain ⟨r, hr⟩ : ∃ r, r = (s.copying list idx l e).copyReadEffect (e.field 8 8) (e.field 4 4) := ⟨_, rfl⟩
  rw [← hr] at hx hk
  have htile : ∀ j, r.tileOf j = s.tileOf j := fun j => by
    unfold State.tileOf
    rw [hk.tiles (by decide), hb.tiles (by decide)]
  have hwrite : ∀ bs, r.copyWrite (e.field 0x10 8) bs = r.setTile k ((s.tileOf k).writeBytes st o bs) := fun bs => by
    unfold State.copyWrite
    rw [State.copyTile_congr ((hk.wafer (by decide)).trans (hb.wafer (by decide))), State.copyTile_tile hd]
    exact (State.extWrite_sound ho (by rw [htile]; exact hbad) bs).trans (by rw [htile])
  rw [hwrite] at hx
  refine completes_of hx (exec_copy s) (by decide) ⟨?_, ?_, fun j hj => (State.tileOf_setTile_other _ hj _).trans (htile j), fun q hq => ?_, ?_⟩
  · have hlists : (r.setTile k ((s.tileOf k).writeBytes st o (s.tier1.readBytes (e.field 8 8) (e.field 4 4)))).entryOf list idx = some e :=
      (State.entryOf_congr (hk.lists (by decide)) ..).trans hentry
    rw [hlists]
    rfl
  · rw [State.tileOf_setTile_same]
    exact Tile.mem_writeBytes _ _ _ _ (Tile.soundAt_empty hbad)
  · rw [State.tileOf_setTile_same]
    exact Tile.mem_writeBytes_other _ _ _ _ hq
  · exact (hk.tier1 (by decide)).trans (hb.tier1 (by decide))

theorem completes_copyOut (h : s.mayCopy list idx l e) (hd : e.field 0x10 8 < tier1Size) {k off o : Nat} {st : StoreSel}
    (hs : s.wafer.target (e.field 8 8) = .tile k off) (ho : offStore off = some (st, o)) (hbad : (s.tileOf k).bad = .empty) :
    completes (.copy list idx []) s (entryFields ++ ([.suspects, .tiles, .fresh] : List Field)) fun t => (t.entryOf list idx).isSome = true ∧
      t.tier1 = s.tier1.writeBytes (e.field 0x10 8) ((s.tileOf k).readBytes st o (e.field 4 4)) ∧ t.tiles = s.tiles := by
  have hb := s.copying_step list idx l e
  have hbt : (s.copying list idx l e).tileOf k = s.tileOf k := by
    unfold State.tileOf
    rw [hb.tiles (by decide)]
  obtain ⟨hk, hread⟩ := State.copyRead_tile (s := s.copying list idx l e) (n := e.field 4 4) (by rw [hb.wafer (by decide)]; exact hs) ho (by rw [hbt]; exact hbad)
  have hsound := (hk.tier1Bad (by decide)).trans ((hb.tier1Bad (by decide)).trans h.sound)
  have hx := exec_copy_due h hsound
  obtain ⟨h1, h2, h3⟩ := State.copyWrite_tier hd hsound ((s.copying list idx l e).copyRead (e.field 8 8) (e.field 4 4))
  have hentry : (s.copying list idx l e).entryOf list idx = some e :=
    (State.entryOf_congr ((State.dmaTake_step (Step.refl 17179869184 _) (by decide)).lists (by decide)) ..).trans (State.begun_accepted h.begun)
  refine completes_of hx (exec_copy s) (by decide) ⟨?_, ?_, ?_⟩
  · rw [State.entryOf_congr (h3.trans (hk.lists (by decide))), hentry]
    rfl
  · rw [h1, hread, hbt, hk.tier1 (by decide), hb.tier1 (by decide)]
  · rw [h2, hk.tiles (by decide), hb.tiles (by decide)]

/-! ### Entries that have done their work (R202, R404) -/

/-- With no suspect unit an entry in progress ends with the worst of what it met. -/
theorem State.entryFinish_ended (h : s.entryOf list idx = some e) (hs : s.suspects = []) (j : Nat) (keys segs : List Nat) :
    (s.entryFinish list idx j e keys segs).ended list idx e.worst := by
  unfold State.entryFinish
  rw [State.suspectStatus_none hs, Status.worse_ok]
  exact State.ended_entryDone ((State.entryOf_congr ((State.faultEnd_step (Step.refl 4194304 s) (by decide)).lists (by decide)) ..).trans h) ..

theorem State.running_of {eng op : Nat} (hl : s.lists.find list = some l) (he : s.entryOf list idx = some e) (hw : l.waiting ≠ some idx) (h1 : e.engine = eng)
    (h2 : e.op = op) : s.running list idx eng op = some (l, e) := by
  unfold State.running
  simp only [hl, he]
  exact if_pos ⟨hw, h1, h2⟩

theorem completes_ploadDone (hl : s.lists.find list = some l) (he : s.entryOf list idx = some e) (hw : l.waiting ≠ some idx) (h1 : e.engine = 0)
    (hs : s.suspects = []) (h2 : e.op = 1) : completes (.ploadDone list idx) s entryFields fun t => t.ended list idx e.worst := by
  have hx : exec (.ploadDone list idx) s = .next (s.entryFinish list idx l.job e (s.wafer.regionKeys e.gridRegion) (s.loadSegs e)) := by
    show execPloadDone list idx s = _
    unfold execPloadDone
    simp only [State.running_of hl he hw h1 h2]
  exact completes_of hx (exec_ploadDone s) (by decide) (State.entryFinish_ended he hs ..)

theorem completes_copyDone (hl : s.lists.find list = some l) (he : s.entryOf list idx = some e) (hw : l.waiting ≠ some idx) (h1 : e.engine = 0)
    (hs : s.suspects = []) (h2 : e.op = 4) : completes (.copyDone list idx) s entryFields fun t => t.ended list idx e.worst := by
  have hx : exec (.copyDone list idx) s = .next (s.entryFinish list idx l.job e (s.copyKeys (e.field 8 8) (e.field 0x10 8))
      (segsIn (e.field 8 8) (e.field 4 4) ++ segsIn (e.field 0x10 8) (e.field 4 4))) := by
    show execCopyDone list idx s = _
    unfold execCopyDone
    simp only [State.running_of hl he hw h1 h2]
  exact completes_of hx (exec_copyDone s) (by decide) (State.entryFinish_ended he hs ..)

end

end Sys2Proof.Machine

namespace Sys2Proof.Proofs

open Sys2Proof.Machine

/-- Settles O32: a PLOAD serves its tiles one after another, a TSTART starts each of them once, and a COPY stores the bytes that it read. -/
theorem gridEntries : Obligations.GridEntries := by
  unfold Obligations.GridEntries
  refine ⟨fun s list idx l e h => ?_, fun s list idx l e h => ?_, fun s list idx l e h => ?_, fun s list idx l e hl he hw h1 hs =>
    ⟨completes_ploadDone hl he hw h1 hs, completes_copyDone hl he hw h1 hs⟩⟩
  · intro g keys off n src
    exact ⟨rfl, fun hr hz hlen hep hnd hbad hsrc hd hk => completes_pload h hr hz hlen hep hnd hbad hsrc hd hk, completes_ploadStale h⟩
  · intro keys hr hz hb hnd hne hk
    refine (completes_tstart h hr hz hb hnd hne hk).imp fun t ht => ⟨ht.1, ht.2.1, ht.2.2.1, ht.2.2.2.1, fun k hm => ?_⟩
    have hbegun := ht.2.2.2.2 k hm
    unfold Tile.begun at hbegun
    rw [CoreSt.start_eq, CoreSt.start_eq] at hbegun
    exact hbegun
  · intro n src dst h1 h2 h3 h4 h5 h6 h7 h8 h9 h10 h11 h12 h13
    have hm : s.mayCopy list idx l e := ⟨h, h1, h2, h3, h4, h5, h6, h7, h8, h9, h10, h11, h12, h13⟩
    exact ⟨completes_copyTier hm, fun hs k off st o => completes_copyIn hm hs, fun hd k off st o => completes_copyOut hm hd⟩

end Sys2Proof.Proofs
end

section
/-! Tailoring: what the processing of a record leaves of a tile (R225, R230), and the lines of a synapse table that are written back. -/

namespace Sys2Proof.Machine

/-! ### Bytes in blocks -/

theorem length_natLe : ∀ n v : Nat, (natLe n v).length = n
  | 0, _ => rfl
  | n + 1, v => congrArg (· + 1) (length_natLe n (v / 256))

/-- The block of an element in a list of blocks of one length. -/
theorem List.flatMap_block {α β : Type} {f : α → List β} {c : Nat} {l : List α} (hf : ∀ x ∈ l, (f x).length = c) {i : Nat} {x : α} (hi : l[i]? = some x) :
    ((l.flatMap f).drop (i * c)).take c = f x := by
  induction l generalizing i with
  | nil => cases hi
  | cons a r ih =>
    have ha := hf a List.mem_cons_self
    rw [List.flatMap_cons]
    cases i with
    | zero =>
      rw [Nat.zero_mul, List.drop_zero, List.take_append_of_le_length (by omega), List.take_of_length_le (by omega)]
      exact congrArg f (Option.some.inj hi)
    | succ i =>
      rw [Nat.succ_mul, List.drop_append, List.drop_of_length_le (by rw [ha]; exact Nat.le_add_left ..), List.nil_append, ha, Nat.add_sub_cancel]
      exact ih (fun x hx => hf x (List.mem_cons_of_mem _ hx)) hi

theorem List.length_flatMap_block {α β : Type} {f : α → List β} {c : Nat} {l : List α} (hf : ∀ x ∈ l, (f x).length = c) : (l.flatMap f).length = l.length * c := by
  induction l with
  | nil => exact (Nat.zero_mul c).symm
  | cons a r ih =>
    rw [List.flatMap_cons, List.length_append, hf a List.mem_cons_self, ih fun x hx => hf x (List.mem_cons_of_mem _ hx), List.length_cons, Nat.succ_mul, Nat.add_comm]

/-- A part of the bytes that have just been stored. -/
theorem Memory.readBytes_within {m : Memory} (h : m.wf = true) (a : Nat) (bs : List Byte) {d n : Nat} (hd : d + n ≤ bs.length) :
    (m.writeBytes a bs).readBytes (a + d) n = (bs.drop d).take n := by
  obtain ⟨r, hr⟩ : ∃ r, bs.length = d + (n + r) := ⟨bs.length - d - n, by omega⟩
  have hall := Memory.readBytes_writeBytes h a bs
  rw [hr] at hall
  conv_rhs => rw [← hall, Memory.drop_readBytes, Memory.take_readBytes]

/-! ### Tiles that change in their W-store only -/

/-- A tile that has changed in its W-store only. -/
def Tile.sameButW (t u : Tile) : Prop := u = { t with w := u.w, written := u.written, bad := u.bad }

theorem Tile.sameButW_trans {t u v : Tile} (h : t.sameButW u) (g : u.sameButW v) : t.sameButW v :=
  Eq.trans g (congrArg (fun x : Tile => { x with w := v.w, written := v.written, bad := v.bad }) h)

theorem Tile.sameButW_keeps {t u : Tile} (h : t.sameButW u) : u.evq = t.evq ∧ u.ctxs = t.ctxs ∧ u.contribs = t.contribs ∧ u.a = t.a := by
  unfold Tile.sameButW at h
  refine ⟨?_, ?_, ?_, ?_⟩ <;> rw [h]

theorem Tile.writeBytes_sameButW (t : Tile) (off : Nat) (bs : List Byte) : t.sameButW (t.writeBytes .w off bs) := rfl

section

variable {s t : State} {k : Nat} {a : Attach} {old new : List Synapse}

/-! ### A synapse table is written back (R230) -/

/-- The four entries of a line. -/
def lineEntries (n : Nat) : List Nat := (List.range 4).map fun i => n * 4 + i

/-- The bytes that entry `e` has in a line that is written back. -/
def Tile.entryBytes (t : Tile) (a : Attach) (new : List Synapse) (e : Nat) : List Byte :=
  if a.budget ≤ e then t.readBytes .w (a.entryOff e) 16
  else natLe 16 ((if e < new.length then new.getD e synapse0 else synapseOf (leNat (t.readBytes .w (a.entryOff e) 16))).word)

theorem Tile.length_entryBytes (t : Tile) (a : Attach) (new : List Synapse) (e : Nat) : (t.entryBytes a new e).length = 16 := by
  unfold Tile.entryBytes
  split
  · exact Tile.length_readBytes ..
  · exact length_natLe ..

/-- One line of a table is written back where one of its entries changed. -/
def State.tableLine (s : State) (k : Nat) (a : Attach) (old new : List Synapse) (n : Nat) : State :=
  if (lineEntries n).any fun e => new.getD e synapse0 != old.getD e synapse0 then
    s.storeWrite k .w (a.entryOff (n * 4)) ((lineEntries n).flatMap ((s.tileOf k).entryBytes a new))
  else s

theorem State.tableWrite_eq (s : State) (k : Nat) (a : Attach) (old new : List Synapse) :
    s.tableWrite k a old new = each (List.range ((new.length + 3) / 4)) (fun x n => x.tableLine k a old new n) s := rfl

/-- The changed entries below `m` stand in the table of `T`. -/
def Tile.tableHas (T : Tile) (a : Attach) (old new : List Synapse) (m : Nat) : Prop :=
  ∀ e, e < m → e < new.length → e < a.budget → new.getD e synapse0 ≠ old.getD e synapse0 →
    T.readBytes .w (a.entryOff e) 16 = natLe 16 (new.getD e synapse0).word

theorem State.tableLine_outcome {T : Tile} {x : State} {n : Nat} (hx : s.onlyTile k T x) (hbad : T.bad = .empty) :
    ∃ U, s.onlyTile k U (x.tableLine k a old new n) ∧ T.sameButW U ∧ U.bad = .empty ∧
      (T.w.wf = true → T.tableHas a old new (n * 4) → U.w.wf = true ∧ U.tableHas a old new ((n + 1) * 4)) := by
  unfold State.tableLine
  by_cases hc : ((lineEntries n).any fun e => new.getD e synapse0 != old.getD e synapse0) = true
  · rw [if_pos hc, State.storeWrite_sound (Tile.soundAt_empty (by rw [hx.2]; exact hbad)), hx.2]
    have hlen : ((lineEntries n).flatMap (T.entryBytes a new)).length = 64 := List.length_flatMap_block fun e _ => T.length_entryBytes a new e
    have hmem := T.mem_writeBytes .w (a.entryOff (n * 4)) ((lineEntries n).flatMap (T.entryBytes a new)) (Tile.soundAt_empty hbad)
    refine ⟨_, hx.set _, T.writeBytes_sameButW _ _, T.writeBytes_bad _ _ _ hbad, fun hwf hhas => ⟨?_, fun e he hlt hb hne => ?_⟩⟩
    · exact (congrArg Memory.wf hmem).trans (Memory.writeBytes_wf hwf _ _)
    · unfold Tile.readBytes
      rw [hmem]
      by_cases hlow : e < n * 4
      · rw [Memory.readBytes_writeBytes_other _ _ _ _ (by unfold Attach.entryOff; omega)]
        exact hhas e hlow hlt hb hne
      · obtain ⟨i, rfl⟩ : ∃ i, e = n * 4 + i := ⟨e - n * 4, by omega⟩
        have hi : i < 4 := by omega
        have hoff : a.entryOff (n * 4 + i) = a.entryOff (n * 4) + i * 16 := by unfold Attach.entryOff; omega
        have hget : (lineEntries n)[i]? = some (n * 4 + i) := by
          unfold lineEntries
          rw [List.getElem?_map, List.getElem?_range hi]
          rfl
        rw [hoff]
        refine (Memory.readBytes_within hwf _ _ (by rw [hlen]; omega)).trans ?_
        rw [List.flatMap_block (fun e _ => T.length_entryBytes a new e) hget]
        unfold Tile.entryBytes
        rw [if_neg (by omega), if_pos hlt]
  · rw [if_neg hc]
    refine ⟨T, hx, rfl, hbad, fun hwf hhas => ⟨hwf, fun e he hlt hb hne => ?_⟩⟩
    by_cases hlow : e < n * 4
    · exact hhas e hlow hlt hb hne
    · refine absurd (List.any_eq_true.2 ⟨e, List.mem_map.2 ⟨e - n * 4, List.mem_range.2 (by omega), by omega⟩, ?_⟩) hc
      rw [bne_iff_ne]
      exact hne

theorem State.tableWrite_outcome (hbad : (s.tileOf k).bad = .empty) :
    ∃ T, s.onlyTile k T (s.tableWrite k a old new) ∧ (s.tileOf k).sameButW T ∧ ((s.tileOf k).w.wf = true → ∀ e, e < new.length → e < a.budget →
      new.getD e synapse0 ≠ old.getD e synapse0 → T.readBytes .w (a.entryOff e) 16 = natLe 16 (new.getD e synapse0).word) := by
  have hloop : ∀ m, ∃ T, s.onlyTile k T (each (List.range m) (fun x n => x.tableLine k a old new n) s) ∧ (s.tileOf k).sameButW T ∧
      T.bad = .empty ∧ ((s.tileOf k).w.wf = true → T.w.wf = true ∧ T.tableHas a old new (m * 4)) := by
    intro m
    induction m with
    | zero => exact ⟨_, s.onlyTile_self k, rfl, hbad, fun hwf => ⟨hwf, fun _ h => absurd h (by omega)⟩⟩
    | succ m ih =>
      obtain ⟨T, h1, h2, h3, h4⟩ := ih
      obtain ⟨U, g1, g2, g3, g4⟩ := State.tableLine_outcome (a := a) (old := old) (new := new) (n := m) h1 h3
      refine ⟨U, ?_, Tile.sameButW_trans h2 g2, g3, fun hwf => g4 (h4 hwf).1 (h4 hwf).2⟩
      rw [List.range_succ]
      exact (congrArg (s.onlyTile k U) (List.foldl_append ..)).mpr g1
  obtain ⟨T, h1, h2, -, h4⟩ := hloop ((new.length + 3) / 4)
  exact ⟨T, h1, h2, fun hwf e he => (h4 hwf).2 e (by omega) he⟩

/-! ### A record is processed (R225, R230) -/

variable {r : EvRec} {c : Ctx}

/-- The state that a record's work begins with: the record has left the queue, and is counted. -/
def State.taken (s : State) (k : Nat) : State := (s.setTile k (s.tileOf k).evTake).bump64 0x2600 1

theorem State.taken_tile (s : State) (k : Nat) : (s.taken k).tileOf k = (s.tileOf k).evTake ∧ ∀ j, j ≠ k → (s.taken k).tileOf j = s.tileOf j :=
  ⟨State.tileOf_setTile_same .., fun _ hj => State.tileOf_setTile_other _ hj _⟩

theorem State.taken_step (s : State) (k : Nat) : Step 137443147776 s (s.taken k) :=
  State.bump64_step (State.setTile_step (Step.refl _ s) (by decide)) (by decide)

/-- The work of a record leaves the queue, the contexts, the W-store and every other tile. -/
def State.worked (s : State) (k : Nat) (t : State) : Prop :=
  (∀ j, j ≠ k → t.tileOf j = s.tileOf j) ∧ (t.tileOf k).evq = (s.tileOf k).evq ∧ (t.tileOf k).ctxs = (s.tileOf k).ctxs ∧
    (t.tileOf k).w = (s.tileOf k).w ∧ (t.tileOf k).bad = (s.tileOf k).bad

theorem State.worked_of_tiles (h : t.tiles = s.tiles) : s.worked k t := by
  have htile : ∀ j, t.tileOf j = s.tileOf j := fun j => by
    unfold State.tileOf
    rw [h]
  refine ⟨fun j _ => htile j, ?_, ?_, ?_, ?_⟩ <;> rw [htile]

/-- The last act of a record's processing: changed lines are written back, and the context is kept. -/
def State.wrapUp (s : State) (k slot : Nat) (a : Attach) (old new : List Synapse) (c : Ctx) : State :=
  let s4 := s.tableWrite k a old new
  s4.setTile k { s4.tileOf k with ctxs := (s4.tileOf k).ctxs.set slot { c with count := countValid new, high := highValid new } }

theorem exec_process {kind : Nat} {f : Work → State → State × List Synapse × Ctx} (h : s.processes k kind r c a) (hbad : (s.tileOf k).bad = .empty) :
    s.process k kind f = .next ((f ⟨r, c, a, (s.tileOf k).synapses a c.high⟩ (s.taken k)).1.wrapUp k r.slot a ((s.tileOf k).synapses a c.high)
      (f ⟨r, c, a, (s.tileOf k).synapses a c.high⟩ (s.taken k)).2.1 (f ⟨r, c, a, (s.tileOf k).synapses a c.high⟩ (s.taken k)).2.2) := by
  obtain ⟨⟨rest, hq⟩, hkind, hrun, hctx, hatt, hscan⟩ := h
  have hecc : (s.setTile k (s.tileOf k).evTake).storeEcc k .w (a.wbase * 64) (c.high * 16) = s.setTile k (s.tileOf k).evTake :=
    State.storeEcc_sound (Tile.soundAt_empty (by rw [State.tileOf_setTile_same]; exact hbad))
  have htable : (((s.setTile k (s.tileOf k).evTake).bump64 0x2600 1).tileOf k).synapses a c.high = (s.tileOf k).synapses a c.high :=
    (congrArg (fun T : Tile => T.synapses a c.high) (s.taken_tile k).1 : _ = (s.tileOf k).evTake.synapses a c.high)
  unfold State.process
  simp only [hq]
  refine (if_neg (by rw [hkind, hrun]; simp)).trans ?_
  simp only [hctx, hatt]
  refine (if_neg (by rw [hscan]; decide)).trans ?_
  rw [hecc, htable]
  rfl

/-- What the processing of a record leaves, by what its work leaves. -/
theorem State.processed_wrapUp (hbad : (s.tileOf k).bad = .empty) (hw : (s.taken k).worked k t) :
    s.processed k r a old new c (t.wrapUp k r.slot a old new c) ∧ ((t.wrapUp k r.slot a old new c).tileOf k).contribs = (t.tileOf k).contribs ∧
      ((t.wrapUp k r.slot a old new c).tileOf k).a = (t.tileOf k).a ∧ (t.wrapUp k r.slot a old new c).od = t.od := by
  obtain ⟨hother, hq, hctx, hst, hb⟩ := hw
  obtain ⟨h1, h2⟩ := s.taken_tile k
  rw [h1] at hq hctx hst hb
  obtain ⟨T, g1, g2, g3⟩ := State.tableWrite_outcome (s := t) (k := k) (a := a) (old := old) (new := new) (by rw [hb]; exact hbad)
  obtain ⟨k1, k2, k3, k4⟩ := Tile.sameButW_keeps g2
  have hx : t.wrapUp k r.slot a old new c = (t.tableWrite k a old new).setTile k { T with
      ctxs := T.ctxs.set r.slot { c with count := countValid new, high := highValid new } } := by
    unfold State.wrapUp
    dsimp only
    rw [g1.2]
  rw [hx]
  refine ⟨⟨?_, ?_, fun j hj => ?_, fun j hj => ?_, fun _ hwf e he hbu hne => ?_⟩, ?_, ?_,
    (State.tableWrite_step (Step.refl 142740553728 t) (by decide)).od (by decide)⟩
  · rw [State.tileOf_setTile_same]
    exact k1.trans hq
  · rw [State.tileOf_setTile_same]
    exact Tab.find_set_same ..
  · rw [State.tileOf_setTile_same]
    refine (Tab.find_set_other _ _ hj).trans ?_
    rw [k2, hctx]
    rfl
  · rw [State.tileOf_setTile_other _ hj, g1.other hj, hother j hj, h2 j hj]
  · rw [State.tileOf_setTile_same]
    exact (congrArg (fun m : Memory => m.readBytes (a.entryOff e) 16) (Tile.mem_congr (t := T) rfl rfl rfl .w)).trans (g3 (by rw [hst]; exact hwf) e he hbu hne)
  · rw [State.tileOf_setTile_same]
    exact k3
  · rw [State.tileOf_setTile_same]
    exact k4

end

end Sys2Proof.Machine
end

section
/-! Tailoring: PRE, POST, ERROR and REWARD records (R231, R232, R236 to R238, R242). -/

namespace Sys2Proof.Machine

section

variable {s : State} {t : PhysTile} {r : EvRec} {c : Ctx} {a : Attach}

/-- The fields that the processing of a record may touch. -/
def recordFields : List Field := [.od, .det, .log, .logMade, .faultBuffer, .suspects, .tiles]

/-- A record is processed: its work is told by what it leaves of the tile, and of the counter of records. -/
theorem completes_processed {i : Instr} {k kind : Nat} {f : Work → State → State × List Synapse × Ctx} (hx : exec i s = s.process k kind f)
    (hk : StepO 142744748032 s (exec i s)) (h : s.processes k kind r c a) (hbad : (s.tileOf k).bad = .empty) {t : State} {new : List Synapse} {d : Ctx}
    (hf : f ⟨r, c, a, (s.tileOf k).synapses a c.high⟩ (s.taken k) = (t, new, d)) (hw : (s.taken k).worked k t)
    (hcell : t.cell 0x2600 1 = (s.taken k).cell 0x2600 1) {P : State → Prop} (hP : (t.wrapUp k r.slot a ((s.tileOf k).synapses a c.high) new d).od = t.od →
      ((t.wrapUp k r.slot a ((s.tileOf k).synapses a c.high) new d).tileOf k).contribs = (t.tileOf k).contribs →
      ((t.wrapUp k r.slot a ((s.tileOf k).synapses a c.high) new d).tileOf k).a = (t.tileOf k).a →
      P (t.wrapUp k r.slot a ((s.tileOf k).synapses a c.high) new d)) :
    completes i s recordFields fun u => u.cell 0x2600 1 = (s.cell 0x2600 1 + 1) % 2 ^ 64 ∧
      s.processed k r a ((s.tileOf k).synapses a c.high) new d u ∧ P u := by
  have hexec := hx.trans (exec_process (f := f) h hbad)
  rw [hf] at hexec
  obtain ⟨h1, h2, h3, h4⟩ := State.processed_wrapUp (r := r) (a := a) (old := (s.tileOf k).synapses a c.high) (new := new) (c := d) hbad hw
  refine completes_of hexec hk (by decide) ⟨?_, h1, hP h4 h2 h3⟩
  rw [State.cell_congr h4, hcell]
  exact State.cell_bump64_same ..

/-- Counting in 0x2600 besides the counter of records. -/
theorem State.cell_count_records (x : State) {j : Nat} (hj : j < 256) (h : j ≠ 1) (n : Nat) : (x.count 64 0x2600 j n).cell 0x2600 1 = x.cell 0x2600 1 :=
  State.cell_count_other x (by decide) hj (by simpa using h.symm)

/-- Contributions for which there is room are scheduled. -/
theorem State.contribute_room {x : State} {k : Nat} {cs : List Contrib} (h : (x.tileOf k).contribs.length + cs.length ≤ 4096) (slot : Nat) :
    x.contribute k slot cs = x.setTile k { x.tileOf k with contribs := (x.tileOf k).contribs ++ cs } := by
  unfold State.contribute
  dsimp only
  rw [List.take_of_length_le (by omega), List.drop_of_length_le (by omega)]
  rfl

theorem State.worked_setTile {x : State} {k : Nat} {T : Tile} (h1 : T.evq = (x.tileOf k).evq) (h2 : T.ctxs = (x.tileOf k).ctxs) (h3 : T.w = (x.tileOf k).w)
    (h4 : T.bad = (x.tileOf k).bad) : x.worked k (x.setTile k T) := by
  refine ⟨fun j hj => State.tileOf_setTile_other _ hj _, ?_⟩
  rw [State.tileOf_setTile_same]
  exact ⟨h1, h2, h3, h4⟩

/-- The contributions that a PRE schedules. -/
def preContribs (r : EvRec) (c : Ctx) (l : List Synapse) : List Contrib :=
  (l.filter fun x => x.valid && x.pre == r.index).map fun x => ⟨r.slot, x.post, x.weight, (c.s + x.delay) % 65536⟩

/-- The work of a PRE. -/
def preWork (k : Nat) (w : Work) (x : State) : State × List Synapse × Ctx :=
  (x.contribute k w.rec_.slot (preContribs w.rec_ w.ctx w.table),
    w.table.map (fun e => if e.valid && e.pre == w.rec_.index then { e with lastpre := w.ctx.s, preseen := true } else e),
    { w.ctx with recent := ((w.rec_.index, w.ctx.s) :: w.ctx.recent.filter fun p => p.1 != w.rec_.index).take 32 })

theorem exec_tailorPre_eq (s : State) (t : PhysTile) : exec (.tailorPre t) s = s.process (tileKey t) 1 (preWork (tileKey t)) := rfl

theorem completes_tailorPre (hbad : (s.tileOf (tileKey t)).bad = .empty) (h : s.processes (tileKey t) 1 r c a)
    (hroom : (s.tileOf (tileKey t)).contribs.length + (((s.tileOf (tileKey t)).synapses a c.high).filter fun x => x.valid && x.pre == r.index).length ≤ 4096) :
    completes (.tailorPre t) s recordFields fun u => u.cell 0x2600 1 = (s.cell 0x2600 1 + 1) % 2 ^ 64 ∧
      s.processed (tileKey t) r a ((s.tileOf (tileKey t)).synapses a c.high)
        (((s.tileOf (tileKey t)).synapses a c.high).map fun x => if x.valid && x.pre == r.index then { x with lastpre := c.s, preseen := true } else x)
        { c with recent := ((r.index, c.s) :: c.recent.filter fun p => p.1 != r.index).take 32 } u ∧
      (u.tileOf (tileKey t)).contribs = (s.tileOf (tileKey t)).contribs ++
        (((s.tileOf (tileKey t)).synapses a c.high).filter fun x => x.valid && x.pre == r.index).map fun x => ⟨r.slot, x.post, x.weight, (c.s + x.delay) % 65536⟩ := by
  obtain ⟨h1, -⟩ := s.taken_tile (tileKey t)
  have hcon : ((s.taken (tileKey t)).tileOf (tileKey t)).contribs = (s.tileOf (tileKey t)).contribs := by
    rw [h1]
    rfl
  obtain ⟨x, hx⟩ : ∃ x, x = s.taken (tileKey t) := ⟨_, rfl⟩
  have hput := State.contribute_room (x := x) (k := tileKey t) (cs := preContribs r c ((s.tileOf (tileKey t)).synapses a c.high)) (by
    rw [hx, hcon]
    unfold preContribs
    rw [List.length_map]
    exact hroom) r.slot
  have hcell : (x.contribute (tileKey t) r.slot (preContribs r c ((s.tileOf (tileKey t)).synapses a c.high))).cell 0x2600 1 = x.cell 0x2600 1 := by
    rw [hput]
    exact State.cell_congr rfl ..
  refine completes_processed (exec_tailorPre_eq s t) (exec_tailorPre s) h hbad (congrArg (preWork (tileKey t) _) hx.symm) ?_ ?_ fun _ hc _ => ?_
  · rw [hput, ← hx]
    exact State.worked_setTile rfl rfl rfl rfl
  · rw [← hx]
    exact hcell
  · rw [hc, hput, State.tileOf_setTile_same, hx, hcon]
    rfl

/-- Candidates that are refused are counted and reported (R242). -/
theorem State.refusals_step (x : State) (n slot : Nat) : Step 1010827264 x (each (List.range n) (fun y _ => (y.bump64 0x2600 7).fire 0x0304 slot 0) x) :=
  each_step (Step.refl _ x) fun _ _ hu => State.fire_step (State.bump64_step hu (by decide)) (by decide)

theorem State.refusals_cell (x : State) (n slot : Nat) {j : Nat} (hj : j < 256) (h : j ≠ 7) :
    (each (List.range n) (fun y _ => (y.bump64 0x2600 7).fire 0x0304 slot 0) x).cell 0x2600 j = x.cell 0x2600 j :=
  each_keeps (fun y : State => y.cell 0x2600 j) _ (fun y _ => (State.cell_congr (State.fire_od ..) ..).trans
    (State.cell_count_other y hj (by decide) (by simpa using h))) _ _

/-- The table after a POST's traces and delays, and the pres for which it may make synapses (R232, R242). -/
def postMoved (lw sw : Nat) (r : EvRec) (c : Ctx) (l : List Synapse) : List Synapse :=
  l.map fun x => if x.valid && x.post == r.index && x.preseen then x.onPost lw sw c.s else x

def postCands (sw : Nat) (r : EvRec) (c : Ctx) (l : List Synapse) : List (Nat × Nat) :=
  if bits sw 7 0 = 0 then [] else c.recent.filter fun p =>
    decide (stepDiff c.s p.2 ≤ bits sw 7 0) && !l.any fun x => x.valid && x.pre == p.1 && x.post == r.index

/-- The table after a POST, and how many synapses were made and refused. -/
def postMade (lw sw : Nat) (a : Attach) (r : EvRec) (c : Ctx) (l : List Synapse) : List Synapse × Nat × Nat :=
  createAll a.budget r.index c.s lw sw (postCands sw r c l) (postMoved lw sw r c l)

/-- The work of a POST. -/
def postWork (w : Work) (x : State) : State × List Synapse × Ctx :=
  let lw := (x.rules w.att).1
  let sw := (x.rules w.att).2
  let n := ((w.table.zip (postMoved lw sw w.rec_ w.ctx w.table)).filter fun p => p.1.delay != p.2.delay).length
  let m := postMade lw sw w.att w.rec_ w.ctx w.table
  (each (List.range m.2.2) (fun y _ => (y.bump64 0x2600 7).fire 0x0304 w.rec_.slot 0) ((x.count 64 0x2600 0xA n).count 64 0x2600 6 m.2.1), m.1, w.ctx)

theorem exec_tailorPost_eq (s : State) (t : PhysTile) : exec (.tailorPost t) s = s.process (tileKey t) 2 postWork := rfl

/-- Counters of an object leave the settings of a later one. -/
theorem State.setting_count_later (x : State) {i j n m w : Nat} (hi : j < i) (hj : m < 256) (b : Nat) : (x.count w j m n).setting i b = x.setting i b := by
  unfold State.setting State.count
  rw [State.putCell_od, Tab.get_set_other]
  unfold odKey
  omega

theorem State.taken_rules (s : State) (k : Nat) (a : Attach) : (s.taken k).rules a = (s.setting 0x2610 (a.ruleset + 1), s.setting 0x2611 (a.ruleset + 1)) :=
  Prod.ext (State.setting_count_later (s.setTile k (s.tileOf k).evTake) (by decide) (by decide) _)
    (State.setting_count_later (s.setTile k (s.tileOf k).evTake) (by decide) (by decide) _)

/-- The counters of a POST. -/
theorem State.postCounts (x : State) (n m f slot : Nat) :
    let y := each (List.range f) (fun y _ => (y.bump64 0x2600 7).fire 0x0304 slot 0) ((x.count 64 0x2600 0xA n).count 64 0x2600 6 m)
    y.tiles = x.tiles ∧ y.cell 0x2600 1 = x.cell 0x2600 1 ∧ y.cell 0x2600 6 = (x.cell 0x2600 6 + m) % 2 ^ 64 := by
  have hk := ((x.count 64 0x2600 0xA n).count 64 0x2600 6 m).refusals_step f slot
  refine ⟨hk.tiles (by decide), ?_, ?_⟩
  · rw [State.refusals_cell _ _ _ (by decide) (by decide), State.cell_count_records _ (by decide) (by decide),
      State.cell_count_records _ (by decide) (by decide)]
  · rw [State.refusals_cell _ _ _ (by decide) (by decide), State.cell_count_same, State.cell_count_other _ (by decide) (by decide) (by decide)]

theorem completes_tailorPost (hbad : (s.tileOf (tileKey t)).bad = .empty) (h : s.processes (tileKey t) 2 r c a) {m : List Synapse × Nat × Nat}
    (hm : m = postMade (s.setting 0x2610 (a.ruleset + 1)) (s.setting 0x2611 (a.ruleset + 1)) a r c ((s.tileOf (tileKey t)).synapses a c.high)) :
    completes (.tailorPost t) s recordFields fun u => u.cell 0x2600 1 = (s.cell 0x2600 1 + 1) % 2 ^ 64 ∧
      s.processed (tileKey t) r a ((s.tileOf (tileKey t)).synapses a c.high) m.1 c u ∧ u.cell 0x2600 6 = (s.cell 0x2600 6 + m.2.1) % 2 ^ 64 := by
  have hrules := s.taken_rules (tileKey t) a
  have hsix : (s.taken (tileKey t)).cell 0x2600 6 = s.cell 0x2600 6 :=
    State.cell_count_other (s.setTile (tileKey t) (s.tileOf (tileKey t)).evTake) (by decide) (by decide) (by decide)
  obtain ⟨x, hx⟩ : ∃ x, x = s.taken (tileKey t) := ⟨_, rfl⟩
  rw [← hx] at hrules hsix
  obtain ⟨n, hn⟩ : ∃ n, n = ((((s.tileOf (tileKey t)).synapses a c.high).zip (postMoved (s.setting 0x2610 (a.ruleset + 1)) (s.setting 0x2611 (a.ruleset + 1)) r c
    ((s.tileOf (tileKey t)).synapses a c.high))).filter fun p => p.1.delay != p.2.delay).length := ⟨_, rfl⟩
  obtain ⟨h1, h2, h3⟩ := x.postCounts n m.2.1 m.2.2 r.slot
  have hf : postWork ⟨r, c, a, (s.tileOf (tileKey t)).synapses a c.high⟩ (s.taken (tileKey t)) =
      (each (List.range m.2.2) (fun y _ => (y.bump64 0x2600 7).fire 0x0304 r.slot 0) ((x.count 64 0x2600 0xA n).count 64 0x2600 6 m.2.1), m.1, c) := by
    rw [← hx, hm, hn]
    unfold postWork
    dsimp only
    rw [hrules]
  refine completes_processed (exec_tailorPost_eq s t) (exec_tailorPost s) h hbad hf (State.worked_of_tiles (h1.trans (by rw [hx]))) (h2.trans (by rw [hx])) fun ho _ _ => ?_
  rw [State.cell_congr ho, h3, hsix]

/-! ### ERROR and REWARD (R236 to R238) -/

/-- The table after an update with factor `g`. -/
def updated (lw sw : Nat) (g : Int) (hit : Synapse → Bool) (l : List Synapse) : List Synapse :=
  l.map fun x => if x.valid && hit x then x.update g lw sw else x

/-- The work of an ERROR, and that of a REWARD. -/
def errorWork (w : Work) (x : State) : State × List Synapse × Ctx := x.updateAll w (signed 16 w.rec_.value) fun e => e.post == w.rec_.index

def rewardWork (w : Work) (x : State) : State × List Synapse × Ctx := x.updateAll w (signed 16 w.rec_.value) fun _ => true

theorem exec_tailorError_eq (s : State) (t : PhysTile) : exec (.tailorError t) s = s.process (tileKey t) 3 errorWork := rfl

theorem exec_tailorReward_eq (s : State) (t : PhysTile) : exec (.tailorReward t) s = s.process (tileKey t) 5 rewardWork := rfl

/-- An update touches the table and two counters. -/
theorem State.updateAll_outcome (x : State) (w : Work) (g : Int) (hit : Synapse → Bool) : ∃ y, x.updateAll w g hit =
    (y, updated (x.rules w.att).1 (x.rules w.att).2 g hit w.table, w.ctx) ∧ y.tiles = x.tiles ∧ y.cell 0x2600 1 = x.cell 0x2600 1 := by
  refine ⟨_, rfl, rfl, ?_⟩
  rw [State.cell_count_records _ (by decide) (by decide), State.cell_count_records _ (by decide) (by decide)]

theorem completes_updated {i : Instr} {kind : Nat} {f : Work → State → State × List Synapse × Ctx} {hit : Synapse → Bool}
    (hx : exec i s = s.process (tileKey t) kind f) (hk : StepO 142744748032 s (exec i s)) (hbad : (s.tileOf (tileKey t)).bad = .empty)
    (h : s.processes (tileKey t) kind r c a) (hf : ∀ x, f ⟨r, c, a, (s.tileOf (tileKey t)).synapses a c.high⟩ x =
      x.updateAll ⟨r, c, a, (s.tileOf (tileKey t)).synapses a c.high⟩ (signed 16 r.value) hit) :
    completes i s recordFields fun u => u.cell 0x2600 1 = (s.cell 0x2600 1 + 1) % 2 ^ 64 ∧
      s.processed (tileKey t) r a ((s.tileOf (tileKey t)).synapses a c.high)
        (updated (s.setting 0x2610 (a.ruleset + 1)) (s.setting 0x2611 (a.ruleset + 1)) (signed 16 r.value) hit ((s.tileOf (tileKey t)).synapses a c.high)) c u := by
  obtain ⟨y, hy, ht, hc⟩ := (s.taken (tileKey t)).updateAll_outcome ⟨r, c, a, (s.tileOf (tileKey t)).synapses a c.high⟩ (signed 16 r.value) hit
  rw [s.taken_rules (tileKey t) a] at hy
  refine (completes_processed hx hk h hbad ((hf _).trans hy) (State.worked_of_tiles ht) hc (P := fun _ => True) fun _ _ _ => trivial).imp fun u hu => ?_
  exact ⟨hu.1, hu.2.1, hu.2.2.1, hu.2.2.2.1⟩

theorem completes_tailorError (hbad : (s.tileOf (tileKey t)).bad = .empty) (h : s.processes (tileKey t) 3 r c a) :
    completes (.tailorError t) s recordFields fun u => u.cell 0x2600 1 = (s.cell 0x2600 1 + 1) % 2 ^ 64 ∧
      s.processed (tileKey t) r a ((s.tileOf (tileKey t)).synapses a c.high) (updated (s.setting 0x2610 (a.ruleset + 1)) (s.setting 0x2611 (a.ruleset + 1))
        (signed 16 r.value) (fun e => e.post == r.index) ((s.tileOf (tileKey t)).synapses a c.high)) c u :=
  completes_updated (exec_tailorError_eq s t) (exec_tailorError s) hbad h fun _ => rfl

theorem completes_tailorReward (hbad : (s.tileOf (tileKey t)).bad = .empty) (h : s.processes (tileKey t) 5 r c a) :
    completes (.tailorReward t) s recordFields fun u => u.cell 0x2600 1 = (s.cell 0x2600 1 + 1) % 2 ^ 64 ∧
      s.processed (tileKey t) r a ((s.tileOf (tileKey t)).synapses a c.high) (updated (s.setting 0x2610 (a.ruleset + 1)) (s.setting 0x2611 (a.ruleset + 1))
        (signed 16 r.value) (fun _ => true) ((s.tileOf (tileKey t)).synapses a c.high)) c u :=
  completes_updated (exec_tailorReward_eq s t) (exec_tailorReward s) hbad h fun _ => rfl

end

end Sys2Proof.Machine
end

section
/-! Tailoring: the delivery of a STEP (R233 to R235). -/

namespace Sys2Proof.Machine

/-! ### Parts of what has been read -/

theorem Memory.readBytes_part {m : Memory} {a d n r : Nat} {X : List Byte} (h : m.readBytes a (d + (n + r)) = X) : m.readBytes (a + d) n = (X.drop d).take n := by
  rw [← h, Memory.drop_readBytes, Memory.take_readBytes]

/-- Two bytes of a line of a list of lines. -/
theorem List.line_part {α : Type} (l : List α) {h d : Nat} (hd : d + 2 ≤ 64) : ((((l.drop (h * 64)).take 64).drop d).take 2) = (l.drop (h * 64 + d)).take 2 := by
  rw [List.drop_take, List.take_take, List.drop_drop, Nat.min_eq_left (by omega)]

section

variable {s : State} {k : Nat} {st : StoreSel}

/-! ### Writes of a sound store -/

/-- A tile after writes to one store: nothing else of it has changed. -/
def Tile.sameBut (t : Tile) (st : StoreSel) (u : Tile) : Prop := t.sameButStores u ∧ u.bad = .empty ∧ ∀ q, q ≠ st → u.mem q = t.mem q

theorem Tile.sameBut_writeBytes {t : Tile} (h : t.bad = .empty) (off : Nat) (bs : List Byte) : t.sameBut st (t.writeBytes st off bs) :=
  ⟨by cases st <;> rfl, t.writeBytes_bad st off bs h, fun q hq => t.mem_writeBytes_other st off bs hq⟩

theorem Tile.sameBut_trans {t u v : Tile} (h : t.sameBut st u) (g : u.sameBut st v) : t.sameBut st v :=
  ⟨Tile.sameButStores_trans h.1 g.1, g.2.1, fun q hq => (g.2.2 q hq).trans (h.2.2 q hq)⟩

theorem State.blockLines_sameBut {f : Nat → Nat} {bs : List Byte} (hbad : (s.tileOf k).bad = .empty) :
    ∀ m, (s.tileOf k).sameBut st ((s.blockLines k st f bs m).tileOf k)
  | 0 => ⟨rfl, hbad, fun _ _ => rfl⟩
  | m + 1 => by
    have ih := State.blockLines_sameBut (f := f) (bs := bs) hbad m
    rw [State.blockLines_succ, State.storeWrite_sound (Tile.soundAt_empty ih.2.1), State.tileOf_setTile_same]
    exact Tile.sameBut_trans ih (Tile.sameBut_writeBytes ih.2.1 _ _)

/-- What a tile that has changed in its stores keeps besides. -/
theorem Tile.sameButStores_tailor {t u : Tile} (h : t.sameButStores u) : u.evq = t.evq ∧ u.ctxs = t.ctxs ∧ u.contribs = t.contribs := by
  unfold Tile.sameButStores at h
  refine ⟨?_, ?_, ?_⟩ <;> rw [h]

/-! ### The delivery of a step (R233) -/

/-- The contributions that are due, and those of them that the area holds. -/
def dueContribs (t : Tile) (w : Work) : List Contrib := t.contribs.filter fun c => c.slot == w.rec_.slot && c.due == w.ctx.s

def goodContribs (t : Tile) (w : Work) : List Contrib := (dueContribs t w).filter fun c => decide (c.post < 32 * bits w.rec_.value 6 0)

/-- The sum that a post gets, its bytes, and those of the area's lines behind the header. -/
def postBytes (t : Tile) (w : Work) (p : Nat) : List Byte :=
  natLe 2 (unsigned 16 (sat16 (((goodContribs t w).filter fun c => c.post == p).map fun c => c.weight).sum))

def bodyBytes (t : Tile) (w : Work) : List Byte := (List.range (32 * bits w.rec_.value 6 0)).flatMap (postBytes t w)

def headerBytes (t : Tile) (w : Work) : List Byte :=
  natLe 2 w.ctx.s ++ natLe 2 w.rec_.slot ++ natLe 2 (min (goodContribs t w).length 0xFFFF) ++
    natLe 2 (min ((dueContribs t w).length - (goodContribs t w).length) 0xFFFF) ++ List.replicate 56 0#8

theorem length_headerBytes (t : Tile) (w : Work) : (headerBytes t w).length = 64 := by
  unfold headerBytes
  simp only [List.length_append, length_natLe, List.length_replicate]

theorem length_bodyBytes (t : Tile) (w : Work) : (bodyBytes t w).length = bits w.rec_.value 6 0 * 64 := by
  have hall := List.length_flatMap_block (f := postBytes t w) (c := 2) (l := List.range (32 * bits w.rec_.value 6 0)) fun p _ => length_natLe ..
  rw [List.length_range] at hall
  unfold bodyBytes
  omega

/-- The tile that a delivery begins with: its due contributions are gone. -/
def Tile.duesGone (t : Tile) (w : Work) : Tile := { t with contribs := t.contribs.filter fun c => !(c.slot == w.rec_.slot && c.due == w.ctx.s) }

/-- A delivery into an area of whole, powered lines: the lines behind the header, the header, and what was not in the area. -/
theorem State.deliver_eq {x : State} {w : Work} {line : Nat} (hline : line = (x.tileOf k).aBase + bits w.rec_.index 11 0)
    (hlim : line + bits w.rec_.value 6 0 < (x.tileOf k).aLimit) (hoff : ∀ i, i ≤ bits w.rec_.value 6 0 → (x.tileOf k).lineOff .a (line + i) = false) :
    x.deliver k w = each (List.range ((dueContribs (x.tileOf k) w).length - (goodContribs (x.tileOf k) w).length))
      (fun y _ => (y.bump64 0x2600 5).fire 0x0303 w.rec_.slot 0)
      (((x.setTile k ((x.tileOf k).duesGone w)).blockLines k .a (fun i => line + 1 + i) (bodyBytes (x.tileOf k) w) (bits w.rec_.value 6 0)).storeWrite k .a
        (line * 64) (headerBytes (x.tileOf k) w)) := by
  have hls : (List.range (bits w.rec_.value 6 0 + 1)).map (fun i => (x.tileOf k).taskLine .a (bits w.rec_.index 11 0 + i)) =
      (List.range (bits w.rec_.value 6 0 + 1)).map fun i => some (line + i) := List.map_congr_left fun i hi => by
    have hlt : i < bits w.rec_.value 6 0 + 1 := List.mem_range.1 hi
    refine (if_pos ?_).trans ?_
    · show (x.tileOf k).aBase + (bits w.rec_.index 11 0 + i) < (x.tileOf k).aLimit
      omega
    · rw [hline, Nat.add_assoc]
      rfl
  have hfind : ((List.range (bits w.rec_.value 6 0 + 1)).map fun i => some (line + i)).zipIdx.find? (fun l => match l.1 with
      | some m => (x.tileOf k).lineOff .a m
      | none => true) = none := List.find?_eq_none.2 fun l hl => by
    obtain ⟨i, hi, he⟩ := List.mem_map.1 (List.fst_mem_of_mem_zipIdx hl)
    rw [← he]
    show ¬ (x.tileOf k).lineOff .a (line + i) = true
    rw [hoff i (Nat.lt_succ_iff.1 (List.mem_range.1 hi))]
    decide
  have hat : ∀ i, i ≤ bits w.rec_.value 6 0 → (((List.range (bits w.rec_.value 6 0 + 1)).map fun i => (x.tileOf k).taskLine .a
      (bits w.rec_.index 11 0 + i)).getD i none).getD 0 = line + i := fun i hi => by
    rw [hls, List.getD_eq_getElem?_getD, List.getElem?_map, List.getElem?_range (by omega)]
    rfl
  unfold State.deliver
  dsimp only
  split
  next l i he =>
    rw [hls] at he
    exact absurd (hfind.symm.trans he) (by simp)
  next _ =>
    have hbody : each (List.range (bits w.rec_.value 6 0)) (fun y i => y.storeWrite k .a
        ((((List.range (bits w.rec_.value 6 0 + 1)).map fun i => (x.tileOf k).taskLine .a (bits w.rec_.index 11 0 + i)).getD (i + 1) none).getD 0 * 64)
          (((bodyBytes (x.tileOf k) w).drop (i * 64)).take 64)) (x.setTile k ((x.tileOf k).duesGone w)) =
        (x.setTile k ((x.tileOf k).duesGone w)).blockLines k .a (fun i => line + 1 + i) (bodyBytes (x.tileOf k) w) (bits w.rec_.value 6 0) :=
      List.foldl_ext _ _ _ fun y i hi => by
        rw [hat (i + 1) (List.mem_range.1 hi), show line + (i + 1) = line + 1 + i by omega]
    have hpost : ((List.range (32 * bits w.rec_.value 6 0)).map fun p => sat16 (((goodContribs (x.tileOf k) w).filter fun c => c.post == p).map
        fun c => c.weight).sum).flatMap (fun v => natLe 2 (unsigned 16 v)) = bodyBytes (x.tileOf k) w := List.flatMap_map ..
    rw [← hbody, ← hpost, hat 0 (Nat.zero_le _)]
    rfl

/-- What a delivery leaves (R233 to R235): the due contributions are gone, the area holds header and sums, and nothing else of the tile has changed. -/
theorem State.deliver_outcome {x : State} {w : Work} {line : Nat} (hbad : (x.tileOf k).bad = .empty) (hwf : (x.tileOf k).a.wf = true)
    (hline : line = (x.tileOf k).aBase + bits w.rec_.index 11 0) (hlim : line + bits w.rec_.value 6 0 < (x.tileOf k).aLimit)
    (hoff : ∀ i, i ≤ bits w.rec_.value 6 0 → (x.tileOf k).lineOff .a (line + i) = false) : x.worked k (x.deliver k w) ∧
      (x.deliver k w).cell 0x2600 1 = x.cell 0x2600 1 ∧ ((x.deliver k w).tileOf k).contribs = ((x.tileOf k).duesGone w).contribs ∧
      ((x.deliver k w).tileOf k).a.readBytes (line * 64) 8 = (headerBytes (x.tileOf k) w).take 8 ∧
      ∀ p, p < 32 * bits w.rec_.value 6 0 → ((x.deliver k w).tileOf k).a.readBytes ((line + 1) * 64 + 2 * p) 2 = postBytes (x.tileOf k) w p := by
  rw [State.deliver_eq hline hlim hoff]
  obtain ⟨X, hX⟩ : ∃ X, X = x.tileOf k := ⟨_, rfl⟩
  rw [← hX] at hbad hwf ⊢
  obtain ⟨y, hy⟩ : ∃ y, y = x.setTile k (X.duesGone w) := ⟨_, rfl⟩
  have hyt : y.tileOf k = X.duesGone w := hy ▸ State.tileOf_setTile_same ..
  have hyo : ∀ j, j ≠ k → y.tileOf j = x.tileOf j := fun j hj => hy ▸ State.tileOf_setTile_other _ hj _
  have hyb : (y.tileOf k).bad = .empty := by rw [hyt]; exact hbad
  have hyw : ((y.tileOf k).mem .a).wf = true := by rw [hyt]; exact hwf
  have hlen : ∀ h, h < bits w.rec_.value 6 0 → (((bodyBytes X w).drop (h * 64)).take 64).length = 64 := fun h hh => by
    rw [List.length_take, List.length_drop, length_bodyBytes, Nat.min_eq_left]
    omega
  have hsame := State.blockLines_sameBut (st := .a) (f := fun i => line + 1 + i) (bs := bodyBytes X w) hyb (bits w.rec_.value 6 0)
  obtain ⟨T, hT, -, hTw, -, hTl⟩ := State.blockLines_tile (f := fun i => line + 1 + i) (bs := bodyBytes X w) hyb hyw hlen
    (fun h h' _ _ he => by omega) (bits w.rec_.value 6 0) le_rfl
  rw [← hy]
  have hod : (y.blockLines k .a (fun i => line + 1 + i) (bodyBytes X w) (bits w.rec_.value 6 0)).od = x.od :=
    ((y.blockLines_step k .a (fun i => line + 1 + i) (bodyBytes X w) (bits w.rec_.value 6 0)).od (by decide)).trans (by rw [hy]; rfl)
  generalize y.blockLines k .a (fun i => line + 1 + i) (bodyBytes X w) (bits w.rec_.value 6 0) = z at *
  rw [hT.2] at hsame
  have hTb := hsame.2.1
  rw [State.storeWrite_sound (Tile.soundAt_empty (by rw [hT.2]; exact hTb)), hT.2]
  have hmem := T.mem_writeBytes .a (line * 64) (headerBytes X w) (Tile.soundAt_empty hTb)
  have hafter := Tile.sameBut_trans hsame (Tile.sameBut_writeBytes (st := .a) hTb (line * 64) (headerBytes X w))
  obtain ⟨U, hU⟩ : ∃ U, U = T.writeBytes .a (line * 64) (headerBytes X w) := ⟨_, rfl⟩
  rw [← hU] at hmem hafter ⊢
  obtain ⟨v, hv⟩ : ∃ v, v = each (List.range ((dueContribs X w).length - (goodContribs X w).length)) (fun y _ => (y.bump64 0x2600 5).fire 0x0303 w.rec_.slot 0)
    (z.setTile k U) := ⟨_, rfl⟩
  have hvt : ∀ j, v.tileOf j = (z.setTile k U).tileOf j := fun j => by
    unfold State.tileOf
    rw [hv]
    exact congrArg (·.get tile0 j) ((each_step (Step.refl 1010827264 (z.setTile k U)) fun _ _ hu =>
      State.fire_step (State.bump64_step hu (by decide)) (by decide)).tiles (by decide))
  have hvc : v.cell 0x2600 1 = x.cell 0x2600 1 := by
    rw [hv]
    refine (each_keeps (fun y : State => y.cell 0x2600 1) _ (fun y _ => (State.cell_congr (State.fire_od ..) ..).trans
      (State.cell_count_records y (by decide) (by decide) 1)) _ _).trans (State.cell_congr hod ..)
  have hvk : v.tileOf k = U := (hvt k).trans (State.tileOf_setTile_same ..)
  rw [← hv, hvk]
  obtain ⟨hst, hub, hum⟩ := hafter
  rw [hyt] at hst hum
  obtain ⟨k1, k2, k3⟩ := Tile.sameButStores_tailor hst
  have hread : ∀ off n, U.a.readBytes off n = ((T.mem .a).writeBytes (line * 64) (headerBytes X w)).readBytes off n := fun off n =>
    congrArg (fun m : Memory => m.readBytes off n) hmem
  refine ⟨⟨fun j hj => ?_, ?_, ?_, ?_, ?_⟩, hvc, k3, ?_, fun p hp => ?_⟩
  · rw [hvt, State.tileOf_setTile_other _ hj, hT.other hj, hyo j hj]
  · rw [hvk, k1, ← hX]
    rfl
  · rw [hvk, k2, ← hX]
    rfl
  · rw [hvk, ← hX]
    exact hum .w (by decide)
  · rw [hvk, hub, ← hX, hbad]
  · rw [hread]
    exact Memory.readBytes_within hTw (line * 64) (headerBytes X w) (d := 0) (n := 8) (by rw [length_headerBytes]; decide)
  · have hsplit : p / 32 < bits w.rec_.value 6 0 ∧ (line + 1) * 64 + 2 * p = (line + 1 + p / 32) * 64 + 2 * (p % 32) ∧ p / 32 * 64 + 2 * (p % 32) = p * 2 ∧
        p % 32 < 32 := by omega
    obtain ⟨h1, h2, h3, h4⟩ := hsplit
    have hline := (hTl (p / 32) h1).1
    obtain ⟨r, hr⟩ : ∃ r, 64 = 2 * (p % 32) + (2 + r) := ⟨62 - 2 * (p % 32), by omega⟩
    rw [hread, Memory.readBytes_writeBytes_other _ _ _ _ (by rw [length_headerBytes]; omega), h2]
    have hpart := Memory.readBytes_part (m := T.mem .a) (a := (line + 1 + p / 32) * 64) (d := 2 * (p % 32)) (n := 2) (r := r)
      (X := ((bodyBytes X w).drop (p / 32 * 64)).take 64) (by rw [← hr]; exact hline)
    rw [hpart, List.line_part _ (by omega), h3]
    exact List.flatMap_block (fun p _ => length_natLe ..) (List.getElem?_range hp)

/-- The work of a STEP. -/
def stepWork (k : Nat) (w : Work) (x : State) : State × List Synapse × Ctx :=
  (x.deliver k w, w.table.map (fun e => if e.valid then { e with trace := e.trace - e.trace / (2 ^ bits (x.rules w.att).1 7 4 : Int) } else e),
    { w.ctx with s := (w.ctx.s + 1) % 65536 })

theorem exec_tailorStep_eq (s : State) (t : PhysTile) : exec (.tailorStep t) s = s.process (tileKey t) 4 (stepWork (tileKey t)) := rfl

theorem completes_tailorStep {t : PhysTile} {r : EvRec} {c : Ctx} {a : Attach} (hbad : (s.tileOf (tileKey t)).bad = .empty) (h : s.processes (tileKey t) 4 r c a)
    (hlim : (s.tileOf (tileKey t)).aBase + bits r.index 11 0 + bits r.value 6 0 < (s.tileOf (tileKey t)).aLimit)
    (hoff : ∀ i, i ≤ bits r.value 6 0 → (s.tileOf (tileKey t)).lineOff .a ((s.tileOf (tileKey t)).aBase + bits r.index 11 0 + i) = false)
    (hwf : (s.tileOf (tileKey t)).a.wf = true) : completes (.tailorStep t) s recordFields fun u => u.cell 0x2600 1 = (s.cell 0x2600 1 + 1) % 2 ^ 64 ∧
      s.processed (tileKey t) r a ((s.tileOf (tileKey t)).synapses a c.high) (((s.tileOf (tileKey t)).synapses a c.high).map fun x =>
          if x.valid then { x with trace := x.trace - x.trace / (2 ^ bits (s.setting 0x2610 (a.ruleset + 1)) 7 4 : Int) } else x)
        { c with s := (c.s + 1) % 65536 } u ∧
      (u.tileOf (tileKey t)).contribs = (s.tileOf (tileKey t)).contribs.filter (fun x => !(x.slot == r.slot && x.due == c.s)) ∧
      (u.tileOf (tileKey t)).readBytes .a (((s.tileOf (tileKey t)).aBase + bits r.index 11 0) * 64) 8 =
        (headerBytes (s.tileOf (tileKey t)) ⟨r, c, a, (s.tileOf (tileKey t)).synapses a c.high⟩).take 8 ∧
      ∀ p, p < 32 * bits r.value 6 0 → (u.tileOf (tileKey t)).readBytes .a (((s.tileOf (tileKey t)).aBase + bits r.index 11 0 + 1) * 64 + 2 * p) 2 =
        postBytes (s.tileOf (tileKey t)) ⟨r, c, a, (s.tileOf (tileKey t)).synapses a c.high⟩ p := by
  obtain ⟨x, hx⟩ : ∃ x, x = s.taken (tileKey t) := ⟨_, rfl⟩
  have hrules := s.taken_rules (tileKey t) a
  have htile : x.tileOf (tileKey t) = (s.tileOf (tileKey t)).evTake := hx ▸ (s.taken_tile (tileKey t)).1
  rw [← hx] at hrules
  have hout := State.deliver_outcome (x := x) (k := tileKey t) (w := ⟨r, c, a, (s.tileOf (tileKey t)).synapses a c.high⟩) (by rw [htile]; exact hbad)
    (by rw [htile]; exact hwf) rfl (by rw [htile]; exact hlim) (by rw [htile]; exact hoff)
  rw [htile] at hout
  obtain ⟨h1, h2, h3, h4, h5⟩ := hout
  have hf : stepWork (tileKey t) ⟨r, c, a, (s.tileOf (tileKey t)).synapses a c.high⟩ (s.taken (tileKey t)) =
      (x.deliver (tileKey t) ⟨r, c, a, (s.tileOf (tileKey t)).synapses a c.high⟩, ((s.tileOf (tileKey t)).synapses a c.high).map (fun x =>
          if x.valid then { x with trace := x.trace - x.trace / (2 ^ bits (s.setting 0x2610 (a.ruleset + 1)) 7 4 : Int) } else x),
        { c with s := (c.s + 1) % 65536 }) := by
    rw [← hx]
    unfold stepWork
    dsimp only
    rw [hrules]
  refine completes_processed (exec_tailorStep_eq s t) (exec_tailorStep s) h hbad hf (hx ▸ h1) (h2.trans (by rw [hx])) fun _ hc ha => ?_
  have hread : ∀ (T : Tile) off n, T.readBytes .a off n = T.a.readBytes off n := fun _ _ _ => rfl
  simp only [hread, ha]
  exact ⟨hc.trans h3, h4, h5⟩

end

end Sys2Proof.Machine
end

section
/-! The tailor: held records, the broadcast of a reward, and O35. -/

namespace Sys2Proof.Machine

/-! ### Held records (R228) -/

theorem feedbackReach_found {d : Nat} {r : EvRec × List Nat} {l : List (EvRec × List Nat)} (h : l.find? (fun x => x.2.contains d) = some r) :
    ∃ a b, l = a ++ r :: b ∧ (∀ x ∈ a, d ∉ x.2) ∧ feedbackReach d l = a ++ (r.1, r.2.filter fun y => y != d) :: b := by
  induction l with
  | nil => cases h
  | cons x l ih =>
    by_cases hx : x.2.contains d = true
    · rw [List.find?_cons_of_pos (p := fun x : EvRec × List Nat => x.2.contains d) hx] at h
      cases h
      exact ⟨[], l, rfl, fun _ h => (List.not_mem_nil h).elim, if_pos hx⟩
    · rw [List.find?_cons_of_neg (p := fun x : EvRec × List Nat => x.2.contains d) hx] at h
      obtain ⟨a, b, h1, h2, h3⟩ := ih h
      refine ⟨x :: a, b, by rw [h1]; rfl, fun y hy => ?_, (if_neg hx).trans (by rw [h3]; rfl)⟩
      rcases List.mem_cons.1 hy with rfl | hy
      · exact fun hd => hx (List.contains_iff_mem.2 hd)
      · exact h2 y hy

theorem completes_feedbackDelivery {s : State} {src dst : PhysTile} {r : EvRec × List Nat} (hne : tileKey src ≠ tileKey dst)
    (hr : (s.tileOf (tileKey src)).feedback.find? (fun r => r.2.contains (tileKey dst)) = some r) (hf : s.fencedAt (tileKey dst) = false)
    (hroom : (s.tileOf (tileKey dst)).evq.length < 64) (hwait : (s.tileOf (tileKey dst)).evWait = []) (hp : (s.tileOf (tileKey dst)).paused = false) :
    completes (.feedbackDelivery src dst) s [.tiles] fun t =>
      t.tileOf (tileKey dst) = { s.tileOf (tileKey dst) with evq := (s.tileOf (tileKey dst)).evq ++ [r.1] } ∧
      (∃ a b, (s.tileOf (tileKey src)).feedback = a ++ r :: b ∧ (∀ x ∈ a, tileKey dst ∉ x.2) ∧ t.tileOf (tileKey src) =
        { s.tileOf (tileKey src) with
          feedback := (a ++ (r.1, r.2.filter fun y => y != tileKey dst) :: b).filter fun x => x.2 != [] }) ∧
      ∀ k, k ≠ tileKey src → k ≠ tileKey dst → t.tileOf k = s.tileOf k := by
  obtain ⟨a, b, h1, h2, h3⟩ := feedbackReach_found hr
  obtain ⟨T, hT⟩ : ∃ T, T = ({ s.tileOf (tileKey src) with feedback := (feedbackReach (tileKey dst) (s.tileOf (tileKey src)).feedback).filter fun x => x.2 != [] } : Tile) :=
    ⟨_, rfl⟩
  have hdst : (s.setTile (tileKey src) T).tileOf (tileKey dst) = s.tileOf (tileKey dst) := State.tileOf_setTile_other _ hne.symm _
  have hexec : exec (.feedbackDelivery src dst) s = .next ((s.setTile (tileKey src) T).setTile (tileKey dst)
      { s.tileOf (tileKey dst) with evq := (s.tileOf (tileKey dst)).evq ++ [r.1] }) := by
    show execFeedbackDelivery src dst s = _
    unfold execFeedbackDelivery
    simp only [hr, hf, Bool.false_eq_true, if_false, ← hT, hdst]
    exact whenDue_true (by rw [hwait, hp]; simpa using hroom) _ _
  refine completes_of hexec (exec_feedbackDelivery s) (by decide) ⟨State.tileOf_setTile_same .., ⟨a, b, h1, h2, ?_⟩, fun k hs hd => ?_⟩
  · rw [State.tileOf_setTile_other _ hne, State.tileOf_setTile_same, hT, h3]
  · rw [State.tileOf_setTile_other _ hd, State.tileOf_setTile_other _ hs]

/-! ### The broadcast of a reward (R240) -/

theorem State.evArrive_tiles (r : EvRec) : ∀ {keys : List Nat} (_ : keys.Nodup) (s : State) (k : Nat),
    (each keys (fun y k => y.setTile k ((y.tileOf k).evArrive r)) s).tileOf k = if k ∈ keys then (s.tileOf k).evArrive r else s.tileOf k
  | [], _, s, k => by rw [if_neg List.not_mem_nil]; rfl
  | a :: l, hl, s, k => by
    obtain ⟨ha, hl⟩ := List.nodup_cons.1 hl
    refine (State.evArrive_tiles r hl _ k).trans ?_
    by_cases hk : k = a
    · subst hk
      rw [if_neg ha, if_pos List.mem_cons_self, State.tileOf_setTile_same]
    · rw [State.tileOf_setTile_other _ hk]
      simp [hk]

/-- Entries that have all been ended stand in no list. -/
theorem State.entryOf_none_ended {α : Type} {f : State → α → State} {key : α → Nat × Nat} {l : List α}
    (hself : ∀ u x, (f u x).entryOf (key x).1 (key x).2 = none)
    (hf : ∀ u x i j, u.entryOf i j = none → (f u x).entryOf i j = none) (s : State) : ∀ x ∈ l, (each l f s).entryOf (key x).1 (key x).2 = none := by
  induction l generalizing s with
  | nil => exact fun x hx => (List.not_mem_nil hx).elim
  | cons y l ih =>
    intro x hx
    rcases List.mem_cons.1 hx with rfl | hx
    · exact State.entryOf_none_each l (fun u z hu => hf u z _ _ hu) (hself s x)
    · exact ih (f s y) x hx

theorem completes_rewardBroadcast {s : State} {slot : Nat} {a : Attach} {w : Reward} (hdue : s.rewardsDue = [slot]) (hn : s.rewardN ≠ s.beat.n)
    (ha : s.attach.find slot = some a) (hw : a.reward = some w) (hs : s.suspects = []) (hd : (s.wafer.regionKeys a.region).Nodup) :
    completes .rewardBroadcast s (entryFields ++ ([.tiles, .attach, .rewardN, .rewardSent] : List Field)) fun t => t.rewardN = s.beat.n ∧
      t.attach.find slot = some { a with reward := none } ∧ t.cell 0x2600 0xB = (s.cell 0x2600 0xB + 1) % 2 ^ 64 ∧
      (∀ x ∈ w.entries, t.entryOf x.1 x.2 = none) ∧
      ∀ k, t.tileOf k = if k ∈ s.wafer.regionKeys a.region ∧ s.fencedAt k = false
        then (s.tileOf k).evArrive ⟨5, slot, 0, unsigned 16 (sat16 w.value)⟩ else s.tileOf k := by
  obtain ⟨x, hx⟩ : ∃ x, x = ({ s with rewardN := s.beat.n, rewardSent := 1 } : State) := ⟨_, rfl⟩
  obtain ⟨y, hy⟩ : ∃ y, y = each ((s.wafer.regionKeys a.region).filter fun k => !s.fencedAt k)
    (fun x k => x.setTile k ((x.tileOf k).evArrive ⟨5, slot, 0, unsigned 16 (sat16 w.value)⟩)) x := ⟨_, rfl⟩
  obtain ⟨z, hz⟩ : ∃ z, z = ({ y with attach := y.attach.set slot { a with reward := none } } : State).bump64 0x2600 0xB := ⟨_, rfl⟩
  obtain ⟨t, ht⟩ : ∃ t, t = each w.entries (fun x e => x.tailorDone (s.beat.stampOf (s.beat.n * 65536)) e.1 e.2 slot a.job (s.wafer.regionKeys a.region)) z := ⟨_, rfl⟩
  have hexec : exec .rewardBroadcast s = .next t := by
    show execRewardBroadcast s = _
    unfold execRewardBroadcast
    rw [hdue]
    refine (whenDue_true (by simpa using .inl hn) _ _).trans (congrArg Host.Outcome.next ?_)
    show State.rewardOut { s with rewardN := s.beat.n, rewardSent := 1 } slot = t
    rw [← hx]
    have hxa : x.attach.find slot = some a := by rw [hx]; exact ha
    unfold State.rewardOut
    simp only [hxa, hw]
    rw [ht, hz, hy, hx]
    rfl
  have hxy : Step 137438953472 x y := by
    rw [hy]
    exact each_step (Step.refl _ _) fun u k hu => State.setTile_step hu (by decide)
  have hzt : Step 72075204416507008 z t := by
    rw [ht]
    exact each_step (Step.refl _ _) fun u k hu => State.tailorDone_step hu (by decide)
  have hsusp : z.suspects = [] := by
    rw [hz]
    exact (hxy.suspects (by decide)).trans (by rw [hx]; exact hs)
  have hends : t = each w.entries (fun x e => x.entryDoneAt (s.beat.stampOf (s.beat.n * 65536)) e.1 e.2 .ok 0 0 slot) z := by
    rw [ht]
    exact each_agree (fun u => u.suspects = [])
      (fun u e hu => ((State.entryDoneAt_step (Step.refl 72075204416507008 u) (by decide)).suspects (by decide)).trans hu)
      (fun u e hu => State.tailorDone_eq hu ..) w.entries hsusp
  have htiles : ∀ k, t.tileOf k = y.tileOf k := fun k => by
    unfold State.tileOf
    rw [hzt.tiles (by decide), hz]
    rfl
  refine completes_of hexec (exec_rewardBroadcast s) (by decide) ⟨?_, ?_, ?_, ?_, fun k => ?_⟩
  · rw [hzt.rewardN (by decide), hz]
    exact (hxy.rewardN (by decide)).trans (by rw [hx])
  · rw [hzt.attach (by decide), hz]
    exact Tab.find_set_same ..
  · rw [hends]
    refine (each_keeps (fun u : State => u.cell 0x2600 0xB) _ (fun u e => State.entryDoneAt_cell _ _ _ _ _ _ _ _ (by decide) (by decide)) _ _).trans ?_
    rw [hz, State.cell_bump64_same]
    exact congrArg (fun v => (v + 1) % 2 ^ 64) (State.cell_congr ((hxy.od (by decide)).trans (by rw [hx])) ..)
  · rw [hends]
    exact State.entryOf_none_ended (key := fun e => e) (fun u e => State.entryOf_entryDoneAt ..) (fun u e i j hu => State.entryOf_none_entryDoneAt hu ..) z
  · rw [htiles, hy, State.evArrive_tiles _ (hd.filter _)]
    have hxt : x.tileOf k = s.tileOf k := by rw [hx]; rfl
    rw [hxt]
    simp only [List.mem_filter, Bool.not_eq_true']

/-! ### The delivered lines as the statement writes them -/

theorem headerBytes_take (t : Tile) (w : Work) : (headerBytes t w).take 8 =
    natLe 2 w.ctx.s ++ natLe 2 w.rec_.slot ++ natLe 2 (min (goodContribs t w).length 0xFFFF) ++
      natLe 2 (min ((dueContribs t w).length - (goodContribs t w).length) 0xFFFF) := by
  unfold headerBytes
  exact List.take_left' (by simp only [List.length_append, length_natLe])

end Sys2Proof.Machine

namespace Sys2Proof.Proofs
open Sys2Proof.Machine

/-- Settles O35: each kind of record is one work on the context's table, written back line by line; a held record and a reward enter the queues of the tiles that
they go to. -/
theorem tailorRecords : Obligations.TailorRecords := by
  unfold Obligations.TailorRecords
  refine ⟨?_, ?_, ?_⟩
  · intro s t r c a hbad
    dsimp only
    refine ⟨fun h hroom => completes_tailorPre hbad h hroom, fun h => completes_tailorPost hbad h rfl, fun h => ?_, fun h => ?_, ?_⟩
    · have hx := completes_tailorError hbad h
      exact hx
    · have hx := completes_tailorReward hbad h
      simp only [updated, Bool.and_true] at hx
      exact hx
    · intro h hlim hoff hwf
      refine (completes_tailorStep hbad h hlim hoff hwf).imp fun u hu => ?_
      rw [headerBytes_take] at hu
      exact hu
  · intro s src dst r hne hr hf hroom hwait hp
    exact completes_feedbackDelivery hne hr hf hroom hwait hp
  · intro s slot a w hdue hn ha hw hs hd
    exact completes_rewardBroadcast hdue hn ha hw hs hd

end Sys2Proof.Proofs
end

section
/-! Connections and work requests: what their operations leave. -/

namespace Sys2Proof.Machine

section

variable {s : State} {id : Nat}

/-! ### A connection is changed -/

theorem State.conn_connMap (s : State) (id : Nat) (f : Conn → Conn) (i : Nat) :
    (s.connMap id f).conns.find i = (s.conns.find i).map fun c => if i = id then f c else c := Tab.find_mapVals ..

theorem State.conn_connMap_same {c : Conn} (h : s.conns.find id = some c) (f : Conn → Conn) : (s.connMap id f).conns.find id = some (f c) := by
  rw [State.conn_connMap, h, Option.map_some, if_pos rfl]

theorem State.conn_connMap_other {i : Nat} (h : i ≠ id) (s : State) (f : Conn → Conn) : (s.connMap id f).conns.find i = s.conns.find i := by
  rw [State.conn_connMap]
  simp [h]

/-! ### Work requests end (R277) -/

theorem State.wrEnd_find (s : State) (id : Nat) (st : Status) (det i : Nat) : (s.wrEnd id st det).wrs.find i = if i = id then none else s.wrs.find i := by
  unfold State.wrEnd
  cases h : s.wrs.find id with
  | none =>
    by_cases hi : i = id
    · rw [if_pos hi, hi]
      exact h
    · rw [if_neg hi]
  | some w =>
    have k := State.entryEnd_step (x1 := w.list) (x2 := w.idx) (x3 := st) (x4 := det) (Step.refl 72075204416507008 ({ s with wrs := s.wrs.erase id } : State)) (by decide)
    exact (congrArg (fun t : Tab WorkReq => t.find i) (k.wrs (by decide))).trans (Tab.find_erase ..)

theorem State.entryOf_wrEnd {w : WorkReq} (h : s.wrs.find id = some w) (st : Status) (det : Nat) : (s.wrEnd id st det).entryOf w.list w.idx = none := by
  unfold State.wrEnd
  simp only [h]
  exact State.entryOf_entryEnd ..

theorem State.entryOf_none_wrEnd {l j : Nat} (h : s.entryOf l j = none) (id : Nat) (st : Status) (det : Nat) : (s.wrEnd id st det).entryOf l j = none := by
  unfold State.wrEnd
  split
  · exact h
  · refine State.entryOf_none_entryEnd ?_ _ _
    exact (State.entryOf_congr rfl ..).trans h

theorem State.wrEnd_keeps (s : State) (id : Nat) (st : Status) (det : Nat) : (s.wrEnd id st det).conns = s.conns ∧ (s.wrEnd id st det).ctrs = s.ctrs ∧
    (s.wrEnd id st det).frames = s.frames := by
  have k := State.wrEnd_step (x1 := id) (x2 := st) (x3 := det) (Step.refl 72145573160684672 s) (by decide)
  exact ⟨k.conns (by decide), k.ctrs (by decide), k.frames (by decide)⟩

/-- Work requests are ended one after another: the entry of each is over. -/
theorem State.wrEnds_entryOf {st : Status} {det i : Nat} {w : WorkReq} {l : List Nat} (hi : i ∈ l) (h : s.wrs.find i = some w ∨ s.entryOf w.list w.idx = none) :
    (each l (fun x k => x.wrEnd k st det) s).entryOf w.list w.idx = none := by
  have hkeep : ∀ (l : List Nat) (u : State), u.entryOf w.list w.idx = none → (each l (fun x k => x.wrEnd k st det) u).entryOf w.list w.idx = none := fun l u hu =>
    State.entryOf_none_each l (fun u k hu => State.entryOf_none_wrEnd hu k st det) hu
  induction l generalizing s with
  | nil => exact absurd hi List.not_mem_nil
  | cons a r ih =>
    have hself : a = i → (each (a :: r) (fun x k => x.wrEnd k st det) s).entryOf w.list w.idx = none := fun ha => hkeep r _ <| h.elim
      (fun hw => ha ▸ State.entryOf_wrEnd hw st det) fun hn => State.entryOf_none_wrEnd hn a st det
    by_cases ha : a = i
    · exact hself ha
    · refine ih ((List.mem_cons.1 hi).resolve_left (Ne.symm ha)) (h.imp (fun hw => ?_) fun hn => State.entryOf_none_wrEnd hn a st det)
      rw [State.wrEnd_find, if_neg (Ne.symm ha)]
      exact hw

theorem State.wrDones_failed {st : Status} (h : st ≠ .ok) (det : Nat) (l : List Nat) (s : State) :
    each l (fun x k => x.wrDone k st det) s = each l (fun x k => x.wrEnd k st det) s :=
  List.foldl_ext _ _ _ fun _ _ _ => State.wrDone_failed h det

/-! ### The work of a connection ends (R276) -/

/-- The requests that end with connection `c`, and its posted buffers. -/
def State.connReqs (s : State) (c : Nat) : List Nat := (s.wrs.cells.filter fun w => w.2.conn == c && w.2.op != 11).map Prod.fst

def State.connRecvs (s : State) (c : Nat) : List Recv :=
  match s.conns.find c with
  | some k => k.recvs.filter fun r => !r.done
  | none => []

/-- A connection with nothing left to do. -/
def Conn.idle (k : Conn) : Conn := { k with recvs := [], sendq := [], outs := .empty, order := [], timerAt := none, creditAt := none }

theorem State.connEnd_eq {st : Status} (h : st ≠ .ok) (s : State) (c det : Nat) : s.connEnd c st det =
    (each (s.connRecvs c) (fun x r => x.entryEnd r.list r.idx st det) (each (s.connReqs c) (fun x k => x.wrEnd k st det) s)).connMap c Conn.idle := by
  rw [← State.wrDones_failed h]
  rfl

theorem State.connEnd_conns {st : Status} (h : st ≠ .ok) (s : State) (c det i : Nat) :
    (s.connEnd c st det).conns.find i = (s.conns.find i).map fun k => if i = c then k.idle else k := by
  rw [State.connEnd_eq h, State.conn_connMap]
  have k : Step 72145573160684672 s (each (s.connRecvs c) (fun x r => x.entryEnd r.list r.idx st det) (each (s.connReqs c) (fun x k => x.wrEnd k st det) s)) :=
    each_step (each_step (Step.refl _ _) fun u w hu => State.wrEnd_step hu (by decide)) fun u r hu => State.entryEnd_step hu (by decide)
  rw [k.conns (by decide)]

theorem State.entryOf_none_connEnd {st : Status} (hst : st ≠ .ok) {l j : Nat} (h : s.entryOf l j = none) (c det : Nat) :
    (s.connEnd c st det).entryOf l j = none := by
  rw [State.connEnd_eq hst]
  refine (State.entryOf_congr rfl ..).trans (State.entryOf_none_each _ (fun u r hu => State.entryOf_none_entryEnd hu _ _) ?_)
  exact State.entryOf_none_each _ (fun u k hu => State.entryOf_none_wrEnd hu _ _ _) h

theorem State.connEnd_reqs {st : Status} (hst : st ≠ .ok) {c i : Nat} {w : WorkReq} (hw : s.wrs.find i = some w) (hc : w.conn = c) (hop : w.op ≠ 11) (det : Nat) :
    (s.connEnd c st det).entryOf w.list w.idx = none := by
  rw [State.connEnd_eq hst]
  refine (State.entryOf_congr rfl ..).trans (State.entryOf_none_each _ (fun u r hu => State.entryOf_none_entryEnd hu _ _) ?_)
  refine State.wrEnds_entryOf (List.mem_map.2 ⟨(i, w), List.mem_filter.2 ⟨mem_of_findCell hw, ?_⟩, rfl⟩) (.inl hw)
  rw [Bool.and_eq_true, beq_iff_eq, bne_iff_ne]
  exact ⟨hc, hop⟩

theorem State.connEnd_recvs {st : Status} (hst : st ≠ .ok) {c : Nat} {k : Conn} (hk : s.conns.find c = some k) {r : Recv} (hr : r ∈ k.recvs) (hd : r.done = false)
    (det : Nat) : (s.connEnd c st det).entryOf r.list r.idx = none := by
  have hmem : r ∈ s.connRecvs c := by
    unfold State.connRecvs
    rw [hk]
    exact List.mem_filter.2 ⟨hr, by rw [hd]; rfl⟩
  rw [State.connEnd_eq hst]
  refine (State.entryOf_congr rfl ..).trans ?_
  exact State.entryOf_none_ended (key := fun r : Recv => (r.list, r.idx)) (fun u x => State.entryOf_entryEnd ..)
    (fun u x i j hu => State.entryOf_none_entryEnd hu _ _) _ r hmem

/-! ### Frames leave (R252, R256) -/

theorem State.route_congr {t : State} (h1 : t.ports = s.ports) (h2 : t.nodes = s.nodes) (h3 : t.ownNode = s.ownNode) (c : Conn) : t.route c = s.route c := by
  unfold State.route State.nodeOf State.portOf
  rw [h1, h2, h3]

theorem State.baseFrame_congr {t : State} (h : t.ownNode = s.ownNode) (id op : Nat) (c : Conn) : t.baseFrame id op c = s.baseFrame id op c := by
  unfold State.baseFrame
  rw [h]

theorem State.queued_congr {t u : State} {p cls id : Nat} {f : OraFrame} (h : u.ports = t.ports) (hq : t.queued p cls id f) : u.queued p cls id f := by
  unfold State.queued State.portOf at *
  rw [h]
  exact hq

/-- A frame counts as one sent; the node's own number is no counter. -/
theorem State.ownNode_sent (s : State) (j : Nat) (hj : j < 256) : (s.bump64 0x2702 j).ownNode = s.ownNode := State.setting_count_other s (by decide) hj (by decide)

theorem State.ownNode_congr {t : State} (h : t.od = s.od) : t.ownNode = s.ownNode := State.setting_congr h ..

theorem State.route_sent (s : State) (j : Nat) (hj : j < 256) (c : Conn) : (s.bump64 0x2702 j).route c = s.route c :=
  State.route_congr (s := s) (t := s.bump64 0x2702 j) rfl rfl (s.ownNode_sent j hj) c

/-- A frame that a connection sends carries its limit and waits in the queue of its class (R256, R260). -/
theorem State.sendOra_outcome {c : Conn} (h : s.conns.find id = some c) (shaped : Bool) (f : OraFrame) :
    (s.sendOra id shaped f).conns.find id = some { c with carried := c.granted } ∧
      (∀ i, i ≠ id → (s.sendOra id shaped f).conns.find i = s.conns.find i) ∧ (s.sendOra id shaped f).queued (s.route c) c.cls id f ∧
      Step 562949957615616 ((s.connMap id fun x => { x with carried := x.granted })) (s.sendOra id shaped f) := by
  obtain ⟨x, hx⟩ : ∃ x, x = (s.connMap id fun x => { x with carried := x.granted }).bump64 0x2702 1 := ⟨_, rfl⟩
  have hroute : x.route c = s.route c := by
    rw [hx, State.route_sent _ _ (by decide)]
    exact State.route_congr (s := s) rfl rfl (State.ownNode_congr rfl) c
  have hsend : s.sendOra id shaped f = x.enqueue (s.route c) c.cls ⟨id, f, shaped, false⟩ := by
    unfold State.sendOra
    rw [h]
    exact hx ▸ rfl
  have hstep : Step 562949957615616 (s.connMap id fun x => { x with carried := x.granted }) (s.sendOra id shaped f) := by
    rw [hsend, hx]
    exact State.enqueue_step (State.bump64_step (Step.refl _ _) (by decide)) (by decide)
  have hconns := hstep.conns (by decide)
  refine ⟨?_, fun i hi => ?_, ⟨⟨id, f, shaped, false⟩, ?_, rfl, rfl⟩, hstep⟩
  · rw [hconns]
    exact State.conn_connMap_same h _
  · rw [hconns]
    exact State.conn_connMap_other hi ..
  · rw [hsend, (State.portOf_of_set (t := x.enqueue (s.route c) c.cls ⟨id, f, shaped, false⟩) (s := x) rfl).1]
    show _ ∈ (((x.portOf (s.route c)).queues.set c.cls ((x.portOf (s.route c)).queues.get [] c.cls ++ [⟨id, f, shaped, false⟩])).get [] c.cls)
    rw [Tab.get_set_same]
    exact List.mem_append_right _ List.mem_cons_self

end

end Sys2Proof.Machine
end

section
/-! Entries of the REMOTE engine, and O39. -/

namespace Sys2Proof.Machine

section

variable {s : State} {list idx : Nat} {l : ListRun} {e : EntryRun}

theorem State.acceptWork_free {op : Nat} {conn : EntryRun → Option Nat} {conds : ListRun → EntryRun → List Status} {eff : ListRun → EntryRun → State → State}
    (h : s.begun list idx 2 op l e) (hf : s.contextFree (conn e) = true) : s.acceptWork list idx op conn conds eff = s.accept list idx 2 op conds eff := by
  unfold State.acceptWork
  simp only [h.1]
  exact if_pos hf

/-- An entry handed to an engine bears the operation's number. -/
theorem State.begun_op {eng op : Nat} (h : s.begun list idx eng op l e) : e.op = op := by
  have hh := h.1
  unfold State.handed at hh
  split at hh
  next y f _ _ =>
    by_cases hc : y.waiting = some idx ∧ f.engine = eng ∧ f.op = op
    · rw [if_pos hc] at hh
      cases hh
      exact hc.2.2
    · rw [if_neg hc] at hh
      cases hh
  next => cases hh

/-! ### Work requests are posted (R262, R270) -/

theorem State.wrFire_live {id : Nat} {w : WorkReq} (h : s.wrs.find id = some w) (he : (s.entryOf w.list w.idx).isSome = true) (hop : w.op ≠ 11) :
    s.wrFire id = ({ s.bump64 0x2702 0xE with wrs := s.wrs.set id { w with waiting := false } } : State).connMap w.conn
      fun c => { c with sendq := c.sendq ++ [id] } := by
  unfold State.wrFire
  simp only [h]
  rw [if_neg (by rw [Option.isNone_iff_eq_none]; exact fun hn => by rw [hn] at he; cases he)]
  exact if_neg hop

theorem State.post_posted {w : WorkReq} (h : (s.entryOf w.list w.idx).isSome = true) (hop : w.op ≠ 11) : s.posted (s.post w) w := by
  obtain ⟨a, ha⟩ : ∃ a, a = ({ s with wrs := s.wrs.set s.nextWr w, nextWr := s.nextWr + 1 } : State) := ⟨_, rfl⟩
  have hw : a.wrs.find s.nextWr = some w := by rw [ha]; exact Tab.find_set_same ..
  have hother : ∀ i, i ≠ s.nextWr → a.wrs.find i = s.wrs.find i := fun i hi => by rw [ha]; exact Tab.find_set_other _ _ hi
  have hentry : (a.entryOf w.list w.idx).isSome = true := by rw [ha]; exact h
  have hctrs : a.ctrs = s.ctrs := by rw [ha]
  have hconns : a.conns = s.conns := by rw [ha]
  have hnext : a.nextWr = s.nextWr + 1 := by rw [ha]
  have hpost : s.post w = if w.waiting then
      match a.ctrs.find w.tctr with
      | some c => if triggerMet c.value w.thresh then a.wrFire s.nextWr else a
      | none => a
    else a.connMap w.conn fun c => { c with sendq := c.sendq ++ [s.nextWr] } := by
    rw [ha]
    rfl
  rw [hpost]
  cases hwait : w.waiting with
  | false =>
    have hsame : ({ w with waiting := false } : WorkReq) = w := by rw [← hwait]
    refine ⟨hentry, hnext, hother, fun _ => ⟨by rw [hsame]; exact hw, fun i => ?_⟩, fun hn => absurd hn (by rw [hwait]; decide)⟩
    rw [← hconns]
    exact State.conn_connMap ..
  | true =>
    rw [if_pos rfl]
    by_cases ht : s.triggeredNow w
    · obtain ⟨q, hq, hm⟩ := ht
      simp only [hctrs, hq, hm, if_true]
      rw [State.wrFire_live hw hentry hop]
      refine ⟨hentry, hnext, fun i hi => ?_, fun _ => ⟨Tab.find_set_same .., fun i => ?_⟩, fun _ hn => absurd ⟨q, hq, hm⟩ hn⟩
      · exact (Tab.find_set_other _ _ hi).trans (hother i hi)
      · rw [← hconns]
        exact State.conn_connMap ..
    · have hstay : (match a.ctrs.find w.tctr with
          | some c => if triggerMet c.value w.thresh then a.wrFire s.nextWr else a
          | none => a) = a := by
        rw [hctrs]
        cases hq : s.ctrs.find w.tctr with
        | none => rfl
        | some q => exact if_neg fun hm => ht ⟨q, hq, hm⟩
      rw [hstay]
      exact ⟨hentry, hnext, hother, fun h => absurd (h.resolve_left (by rw [hwait]; decide)) ht, fun _ _ => ⟨hw, hconns⟩⟩

/-- The LOCAL of a request in no failed unit lets it be posted (R403). -/
theorem State.postOr_post {w : WorkReq} (h1 : (s.copyKeys w.loc w.loc).any s.fencedAt = false) (h2 : (segsIn w.loc w.len).all (fun g => s.dram.get false g) = true) :
    s.postOr w = s.post w :=
  if_neg (by rw [h1, h2]; decide)

/-- A work request that is accepted is posted. -/
theorem completes_posted {c : Instr} {op n allowed : Nat} {write : Bool} {used : List (Nat × Nat)} {conds : ListRun → EntryRun → List Status}
    {eff : ListRun → EntryRun → State → State} (hx : exec c s = s.acceptWork list idx op (fun e => some e.conn) conds eff)
    (heff : ∀ x, eff l e x = x.postOr (e.workOf list idx l.job n)) (h : s.begun list idx 2 op l e)
    (hp : s.mayPost l e allowed n write used) (hc : conds l e = []) (hop : op ≠ 11) (k : StepO 72321495021145216 s (exec c s)) :
    completes c s (entryFields ++ ([.frames, .conns, .wrs, .nextWr] : List Field)) fun t => s.posted t (e.workOf list idx l.job n) := by
  obtain ⟨hfree, -, -, -, -, hfence, hdram⟩ := hp
  refine completes_accept (hx.trans (State.acceptWork_free h hfree)) h hc k (by decide) fun L hl => ?_
  have hpost := State.post_posted (s := ({ s with lists := L } : State)) (w := e.workOf list idx l.job n) (Option.isSome_of_eq_some (hl _ rfl))
    (by rw [show (e.workOf list idx l.job n).op = op from State.begun_op h]; exact hop)
  rw [heff, State.postOr_post hfence hdram]
  exact hpost

/-! ### Connections (R255, R257, R263) -/

theorem completes_remoteRecv (h : s.begun list idx 2 4 l e) (hfree : s.contextFree (some e.conn) = true)
    (hrest : e.restZero [(4, 2), (6, 1), (8, 8), (0x18, 4), (0x1E, 2), (0x28, 8)] = true) (hlen : lenBad e.rlen = false) (halign : e.op1 % 8 = 0)
    (hconn : s.connConds e.conn l.job = []) (hflag : s.flagConds e l.job 8 = []) (hloc : s.localConds e.loc e.rlen l.job true = [])
    (hst : s.localConds e.op1 8 l.job true = []) :
    completes (.remoteRecv list idx) s (entryFields ++ ([.conns] : List Field)) fun t => (t.entryOf list idx).isSome = true ∧
      ∀ i, t.conns.find i = (s.conns.find i).map fun c => if i = e.conn then { c with
        recvs := c.recvs ++ [⟨list, idx, e.loc, e.rlen, e.op1, if e.isCounted then some e.lctr else none, c.nextMsn, 0, none, false, false⟩]
        nextMsn := c.nextMsn + 1 } else c := by
  refine completes_accept ((by unfold exec execRemoteRecv; rfl : exec (.remoteRecv list idx) s = _).trans (State.acceptWork_free (conn := fun e => some e.conn) h hfree)) h ?_
    (exec_remoteRecv s) (by decide) fun L hl => ⟨?_, fun i => State.conn_connMap ..⟩
  · rw [hrest, hlen, hconn, hflag, hloc, hst, halign]
    rfl
  · exact Option.isSome_of_eq_some (hl _ rfl)

theorem completes_remoteConnect (h : s.begun list idx 2 1 l e) (hbad : e.connectBad = false) (hnone : s.conns.find e.conn = none)
    (hcov : e.field 6 1 = 1 → (s.jobOf l.job).covers (e.field 0x18 8) 0x41000 = true) :
    completes (.remoteConnect list idx) s (entryFields ++ ([.conns, .ports] : List Field)) fun t => t.ended list idx .ok ∧
      t.conns.find e.conn = some { e.connOf l.job with carried := (e.connOf l.job).granted } ∧ (∀ i, i ≠ e.conn → t.conns.find i = s.conns.find i) ∧
      t.queued (s.route (e.connOf l.job)) (e.connOf l.job).cls e.conn (s.baseFrame e.conn 10 (e.connOf l.job)) := by
  refine completes_accept (by unfold exec execRemoteConnect; rfl) h ?_ (exec_remoteConnect s) (by decide) fun L hl => ?_
  · have hkey : (e.field 6 1 == 1 && !(s.jobOf l.job).covers (e.field 0x18 8) 0x41000) = false := by
      by_cases h1 : e.field 6 1 = 1
      · rw [hcov h1]
        simp
      · simp [h1]
    rw [hbad, hnone, hkey]
    rfl
  · obtain ⟨x, hx⟩ : ∃ x, x = ({ s with lists := L, conns := s.conns.set e.conn (e.connOf l.job) } : State) := ⟨_, rfl⟩
    have hc : x.conns.find e.conn = some (e.connOf l.job) := by rw [hx]; exact Tab.find_set_same ..
    obtain ⟨h1, h2, h3, h4⟩ := State.sendOra_outcome hc false { x.baseFrame e.conn 10 (e.connOf l.job) with flags := if false = true then 4 else 0 }
    have hsend : x.sendCredit e.conn false = x.sendOra e.conn false { x.baseFrame e.conn 10 (e.connOf l.job) with flags := if false = true then 4 else 0 } := by
      unfold State.sendCredit
      rw [hc]
    rw [← hsend] at h1 h2 h3 h4
    have hentry : (x.sendCredit e.conn false).entryOf list idx = some e := hl _ ((h4.lists (by decide)).trans (by rw [hx]; rfl))
    have hdone := State.entryDone_step (x1 := list) (x2 := idx) (x3 := .ok) (x4 := 0) (x5 := 0) (x6 := 0xFFFF) (Step.refl 72075204416507008 (x.sendCredit e.conn false))
      (by decide)
    have hroute : x.route (e.connOf l.job) = s.route (e.connOf l.job) := by
      rw [hx]
      exact State.route_congr (s := s) rfl rfl (State.ownNode_congr rfl) _
    have hframe : ({ x.baseFrame e.conn 10 (e.connOf l.job) with flags := if false = true then 4 else 0 } : OraFrame) = s.baseFrame e.conn 10 (e.connOf l.job) := by
      rw [State.baseFrame_congr (t := x) (s := s) (State.ownNode_congr (by rw [hx]))]
      rfl
    rw [hroute, hframe] at h3
    have hgoal : (x.sendCredit e.conn false).entryDone list idx .ok 0 0 0xFFFF =
        (({ ({ s with lists := L } : State) with conns := s.conns.set e.conn (e.connOf l.job) } : State).sendCredit e.conn false).entryDone list idx .ok 0 0 0xFFFF := by
      rw [hx]
    rw [← hgoal]
    refine ⟨State.ended_entryDone hentry .., ?_, fun i hi => ?_, State.queued_congr (hdone.ports (by decide)) h3⟩
    · rw [hdone.conns (by decide)]
      exact h1
    · rw [hdone.conns (by decide), h2 i hi, hx]
      exact Tab.find_set_other _ _ hi

theorem completes_remoteDisconnect (h : s.begun list idx 2 2 l e) (hrest : e.restZero [(4, 2)] = true) {c : Conn} (hc : s.conns.find e.conn = some c)
    (hj : c.job = l.job) :
    completes (.remoteDisconnect list idx) s (entryFields ++ ([.frames, .conns, .wrs, .ctrs] : List Field)) fun t => t.entryOf list idx = none ∧
      t.conns.find e.conn = none ∧ (∀ i, i ≠ e.conn → t.conns.find i = s.conns.find i) ∧
      (∀ r ∈ c.recvs, r.done = false → t.entryOf r.list r.idx = none) ∧
      ∀ i w, s.wrs.find i = some w → w.conn = e.conn → w.op ≠ 11 → t.entryOf w.list w.idx = none := by
  have hst : Status.jobAborted ≠ .ok := by decide
  refine completes_accept (by unfold exec execRemoteDisconnect; rfl) h ?_ (exec_remoteDisconnect s) (by decide) fun L hl => ?_
  · rw [hrest, hc]
    simp [cond, hj]
  · obtain ⟨x, hx⟩ : ∃ x, x = ({ s with lists := L } : State) := ⟨_, rfl⟩
    have hxc : x.conns.find e.conn = some c := by rw [hx]; exact hc
    have hdone := State.entryDone_step (x1 := list) (x2 := idx) (x3 := .ok) (x4 := 0) (x5 := 0) (x6 := 0xFFFF) (Step.refl 72075204416507008 (x.disconnect e.conn)) (by decide)
    have hover : ∀ {i j : Nat}, (x.connEnd e.conn .jobAborted 0).entryOf i j = none → ((x.disconnect e.conn).entryDone list idx .ok 0 0 0xFFFF).entryOf i j = none :=
      fun hn => State.entryOf_none_entryDoneAt (show (x.disconnect e.conn).entryOf _ _ = none from (State.entryOf_congr rfl ..).trans hn) ..
    have hconn : ∀ i, (x.disconnect e.conn).conns.find i = if i = e.conn then none else (x.connEnd e.conn .jobAborted 0).conns.find i := fun i => Tab.find_erase ..
    rw [← hx]
    refine ⟨State.entryOf_entryDone .., ?_, fun i hi => ?_, fun r hr hd => hover (State.connEnd_recvs hst hxc hr hd 0), fun i w hw hwc hop =>
      hover (State.connEnd_reqs hst (by rw [hx]; exact hw) hwc hop 0)⟩
    · rw [hdone.conns (by decide), hconn, if_pos rfl]
    · rw [hdone.conns (by decide), hconn, if_neg hi, State.connEnd_conns hst, hx]
      simp [hi]

/-! ### Tag counters (R269, R270) -/

/-- One request fires: what a live request `w` under `i` keeps, and that it goes on where it is the one. -/
theorem State.wrFire_request {u : State} {i a : Nat} {w : WorkReq} (hu : ∀ k v, u.wrs.find k = some v → v.op ≠ 11)
    (hue : (u.entryOf w.list w.idx).isSome = true) :
    (∀ k v, (u.wrFire a).wrs.find k = some v → v.op ≠ 11) ∧ ((u.wrFire a).entryOf w.list w.idx).isSome = true ∧
      (i ≠ a → (u.wrFire a).wrs.find i = u.wrs.find i) ∧
      (i = a → (u.wrs.find i = some w ∨ u.wrs.find i = some { w with waiting := false }) → (u.wrFire a).wrs.find i = some { w with waiting := false }) := by
  cases ha : u.wrs.find a with
  | none =>
    have hsame : u.wrFire a = u := by unfold State.wrFire; simp only [ha]
    rw [hsame]
    refine ⟨hu, hue, fun _ => rfl, fun hia h => ?_⟩
    rw [hia, ha] at h
    rcases h with h | h <;> cases h
  | some v =>
    by_cases hv : (u.entryOf v.list v.idx).isSome = true
    · have hfire := State.wrFire_live ha hv (hu a v ha)
      rw [hfire]
      refine ⟨fun k x hk => ?_, hue, fun hia => Tab.find_set_other _ _ hia, fun hia h => ?_⟩
      · by_cases hka : k = a
        · subst hka
          cases (Tab.find_set_same ..).symm.trans hk
          exact hu k v ha
        · exact hu k x ((Tab.find_set_other _ _ hka).symm.trans hk)
      · subst hia
        refine (Tab.find_set_same ..).trans ?_
        rw [ha] at h
        rcases h with h | h <;> cases h <;> rfl
    · have hfire : u.wrFire a = { u with wrs := u.wrs.erase a } := by
        unfold State.wrFire
        simp only [ha]
        exact if_pos (by simpa using hv)
      rw [hfire]
      refine ⟨fun k x hk => ?_, hue, fun hia => Tab.find_erase_other _ hia, fun hia h => ?_⟩
      · have hk' := (Tab.find_erase u.wrs a k).symm.trans hk
        by_cases hka : k = a
        · rw [if_pos hka] at hk'
          cases hk'
        · rw [if_neg hka] at hk'
          exact hu k x hk'
      · subst hia
        rw [ha] at h
        rcases h with h | h <;> cases h <;> exact absurd hue hv

/-- Requests that wait on a counter fire one after another: each that lives goes to its connection. -/
theorem State.wrFires_live {i : Nat} {w : WorkReq} {l : List Nat} (hi : i ∈ l) (hall : ∀ k v, s.wrs.find k = some v → v.op ≠ 11)
    (h : s.wrs.find i = some w ∨ s.wrs.find i = some { w with waiting := false }) (he : (s.entryOf w.list w.idx).isSome = true) :
    (each l State.wrFire s).wrs.find i = some { w with waiting := false } := by
  have hkeep : ∀ (l : List Nat) (u : State), (∀ k v, u.wrs.find k = some v → v.op ≠ 11) → (u.entryOf w.list w.idx).isSome = true →
      u.wrs.find i = some { w with waiting := false } → (each l State.wrFire u).wrs.find i = some { w with waiting := false } := by
    intro l
    induction l with
    | nil => exact fun u _ _ h => h
    | cons a r ih =>
      intro u hu hue h
      obtain ⟨h1, h2, h3, h4⟩ := State.wrFire_request (i := i) (a := a) hu hue
      refine ih _ h1 h2 ?_
      by_cases hia : i = a
      · exact h4 hia (.inr h)
      · exact (h3 hia).trans h
  induction l generalizing s with
  | nil => exact absurd hi List.not_mem_nil
  | cons a r ih =>
    obtain ⟨h1, h2, h3, h4⟩ := State.wrFire_request (i := i) (a := a) hall he
    by_cases hia : i = a
    · exact hkeep r _ h1 h2 (h4 hia h)
    · exact ih ((List.mem_cons.1 hi).resolve_left hia) h1 (by rw [h3 hia]; exact h) h2

theorem completes_ctrset (h : s.begun list idx 2 9 l e) (hrest : e.restZero [(0x20, 2), (0x28, 4)] = true) (hlt : e.tctr < 8192)
    (hjob : ∀ q, s.ctrs.find e.tctr = some q → q.job = l.job) :
    completes (.ctrset list idx) s (entryFields ++ ([.frames, .conns, .wrs, .ctrs] : List Field)) fun t => t.entryOf list idx = none ∧
      t.ctrs = s.ctrs.set e.tctr ⟨l.job, e.op1⟩ ∧ ((∀ i w, s.wrs.find i = some w → w.op ≠ 11) → ∀ i w, s.wrs.find i = some w →
        w.waiting = true → w.tctr = e.tctr → triggerMet e.op1 w.thresh = true → (s.entryOf w.list w.idx).isSome = true →
        t.wrs.find i = some { w with waiting := false }) := by
  obtain ⟨x, hx⟩ : ∃ x, x = s.entryAccept list idx := ⟨_, rfl⟩
  obtain ⟨y, hy⟩ : ∃ y, y = ({ x with ctrs := x.ctrs.set e.tctr ⟨l.job, e.op1⟩ } : State) := ⟨_, rfl⟩
  have hexec : exec (.ctrset list idx) s = .next ((y.triggers e.tctr).entryDone list idx .ok 0 0 0xFFFF) := by
    rw [hy, hx]
    show execCtrset list idx s = _
    refine State.accept_begun h ?_
    rw [hrest]
    cases hq : s.ctrs.find e.tctr with
    | none => simp [cond, hlt]
    | some q => simp [cond, hlt, hjob q hq]
  have hxw : x.wrs = s.wrs ∧ x.ctrs = s.ctrs := by rw [hx, State.entryAccept_eq]; exact ⟨rfl, rfl⟩
  have hxe : ∀ i j, (s.entryOf i j).isSome = true → (x.entryOf i j).isSome = true := fun i j hs => by
    rw [hx]
    by_cases hi : i = list
    · rw [hi, State.entryOf_entryAccept, ← hi]
      exact hs
    · unfold State.entryOf State.entryAccept at *
      cases hl : s.lists.find list with
      | none => exact hs
      | some q =>
        dsimp only
        rw [Tab.find_set_other _ _ hi]
        exact hs
  have hctr : y.ctrs.find e.tctr = some ⟨l.job, e.op1⟩ := by rw [hy]; exact Tab.find_set_same ..
  have htrig := State.triggers_step (x1 := e.tctr) (Step.refl 72180757532789888 y) (by decide)
  have hdone := State.entryDone_step (x1 := list) (x2 := idx) (x3 := .ok) (x4 := 0) (x5 := 0) (x6 := 0xFFFF) (Step.refl 72075204416507008 (y.triggers e.tctr)) (by decide)
  refine completes_of hexec (exec_ctrset s) (by decide) ⟨State.entryOf_entryDone .., ?_, fun hall i w hw hwait hwt hm hlive => ?_⟩
  · rw [hdone.ctrs (by decide), htrig.ctrs (by decide), hy, ← hxw.2]
  · have hyw : y.wrs = s.wrs := by rw [hy]; exact hxw.1
    rw [hdone.wrs (by decide)]
    unfold State.triggers
    simp only [hctr]
    refine State.wrFires_live (List.mem_map.2 ⟨(i, w), List.mem_filter.2 ⟨mem_of_findCell (hyw ▸ hw), ?_⟩, rfl⟩) (hyw ▸ hall) (.inl (hyw ▸ hw))
      (by rw [hy]; exact hxe _ _ hlive)
    rw [hwait, hwt, hm]
    simp

theorem completes_ctrfree (h : s.begun list idx 2 0xA l e) (hrest : e.restZero [(0x20, 2)] = true) (hc : s.ctrConds e.tctr l.job true = []) :
    completes (.ctrfree list idx) s (entryFields ++ ([.frames, .conns, .wrs, .ctrs] : List Field)) fun t => t.entryOf list idx = none ∧
      t.ctrs = s.ctrs.erase e.tctr ∧ ∀ i w, s.wrs.find i = some w → w.waiting = true → w.tctr = e.tctr →
        t.entryOf w.list w.idx = none := by
  have hst : Status.jobAborted ≠ .ok := by decide
  refine completes_accept (by unfold exec execCtrfree; rfl) h (by rw [hrest, hc]; rfl) (exec_ctrfree s) (by decide) fun L hl => ?_
  obtain ⟨x, hx⟩ : ∃ x, x = ({ s with lists := L, ctrs := s.ctrs.erase e.tctr } : State) := ⟨_, rfl⟩
  have hfree : ({ s with lists := L } : State).ctrFree e.tctr =
      each ((s.wrs.cells.filter fun w => w.2.waiting && w.2.tctr == e.tctr).map Prod.fst) (fun x k => x.wrEnd k .jobAborted 0) x := by
    rw [← State.wrDones_failed hst, hx]
    rfl
  rw [hfree]
  refine ⟨State.entryOf_entryDone .., ?_, fun i w hw hwait hwt => State.entryOf_none_entryDoneAt (State.wrEnds_entryOf (i := i) ?_ (.inl ?_)) ..⟩
  · have hends : Step 72145573160684672 x (each ((s.wrs.cells.filter fun w => w.2.waiting && w.2.tctr == e.tctr).map Prod.fst)
        (fun x k => x.wrEnd k .jobAborted 0) x) := each_step (Step.refl _ _) fun u k hu => State.wrEnd_step hu (by decide)
    have hdone := State.entryDone_step (x1 := list) (x2 := idx) (x3 := .ok) (x4 := 0) (x5 := 0) (x6 := 0xFFFF) hends (by decide)
    rw [hdone.ctrs (by decide), hx]
  · refine List.mem_map.2 ⟨(i, w), List.mem_filter.2 ⟨mem_of_findCell hw, ?_⟩, rfl⟩
    rw [hwait, hwt]
    simp
  · rw [hx]
    exact hw

/-! ### Triggered readiness (R271) -/

theorem State.slotReady_frames {k i : Nat} {f : Frame} (hi : (s.framesOf k).find? (fun k => (s.frames.find k).any fun y => !y.ready) = some i)
    (hf : s.frames.find i = some f) : (s.slotReady k).frames.find i = some { f with ready := true } := by
  have hfind : ((s.framesOf k).find? fun k => match s.frames.find k with
      | some f => !f.ready
      | none => false) = some i := by
    rw [← hi]
    refine congrArg (fun p => (s.framesOf k).find? p) (funext fun k => ?_)
    cases s.frames.find k <;> rfl
  have hready : s.slotReady k = { s with frames := s.frames.mapVals fun j f => if j = i then { f with ready := true } else f } := by
    unfold State.slotReady
    split
    next j hj =>
      cases hj.symm.trans hfind
      rfl
    next hj => cases hj.symm.trans hfind
  rw [hready]
  refine (Tab.find_mapVals ..).trans ?_
  rw [hf, Option.map_some, if_pos rfl]

theorem completes_tready (h : s.begun list idx 2 0xB l e) (hfree : s.contextFree none = true)
    (hrest : e.restZero [(6, 1), (0x20, 2), (0x22, 2), (0x24, 4)] = true) (hflags : e.rflags = 4) (hslot : bits e.tslot 14 12 = 0) (hset : bit e.tslot 15 = false)
    (hc : s.ctrConds e.tctr l.job true = []) (hf : s.readyForeign e.tslot l.job = false) :
    completes (.tready list idx) s (entryFields ++ ([.frames, .conns, .wrs, .nextWr] : List Field)) fun t => t.conns = s.conns ∧
      (¬ s.triggeredNow (e.workOf list idx l.job 0) → t.wrs.find s.nextWr = some (e.workOf list idx l.job 0) ∧ t.frames = s.frames) ∧
      (s.triggeredNow (e.workOf list idx l.job 0) → t.entryOf list idx = none ∧ ∀ i f, (s.sessionOf (bits e.tslot 11 0)).st = .opened →
        (s.framesOf (bits e.tslot 11 0)).find? (fun k => (s.frames.find k).any fun y => !y.ready) = some i →
        s.frames.find i = some f → t.frames.find i = some { f with ready := true }) := by
  refine completes_accept ((by unfold exec execTready; rfl : exec (.tready list idx) s = _).trans (State.acceptWork_free (conn := fun _ => none) h hfree)) h ?_
    (exec_tready s) (by decide) fun L hl => ?_
  · rw [hrest, hflags, hset, hslot, hc, hf]
    rfl
  obtain ⟨w, hw⟩ : ∃ w, w = e.workOf list idx l.job 0 := ⟨_, rfl⟩
  have hop : w.op = 11 := hw ▸ State.begun_op h
  have hwait : w.waiting = true := by
    rw [hw]
    show bit e.rflags 2 = true
    rw [hflags]
    decide
  have hwslot : w.slot = e.tslot := by rw [hw]; rfl
  have hwl : w.list = list ∧ w.idx = idx := by rw [hw]; exact ⟨rfl, rfl⟩
  obtain ⟨a, ha⟩ : ∃ a, a = ({ s with lists := L, wrs := s.wrs.set s.nextWr w, nextWr := s.nextWr + 1 } : State) := ⟨_, rfl⟩
  have hpost : ({ s with lists := L } : State).post w = match s.ctrs.find w.tctr with
      | some c => if triggerMet c.value w.thresh then a.wrFire s.nextWr else a
      | none => a := by
    unfold State.post
    rw [ha]
    exact if_pos hwait
  have haw : a.wrs.find s.nextWr = some w := by rw [ha]; exact Tab.find_set_same ..
  have haf : a.frames = s.frames ∧ a.sessions = s.sessions ∧ a.conns = s.conns := by rw [ha]; exact ⟨rfl, rfl, rfl⟩
  have hae : a.entryOf w.list w.idx = some e := by rw [hwl.1, hwl.2]; exact hl a (by rw [ha])
  rw [← hw, hpost]
  by_cases ht : s.triggeredNow w
  · obtain ⟨q, hq, hm⟩ := ht
    simp only [hq, hm, if_true]
    have hsess : a.sessionOf (bits e.tslot 11 0) = s.sessionOf (bits e.tslot 11 0) := State.sessionOf_congr haf.2.1 _
    obtain ⟨b, hb⟩ : ∃ b, b = each ((a.readySlots w.slot).filter fun k => (a.sessionOf k).st == .opened) State.slotReady (a.bump64 0x2702 0xE) := ⟨_, rfl⟩
    have hfire : a.wrFire s.nextWr = b.wrEnd s.nextWr .ok 0 := by
      unfold State.wrFire
      simp only [haw, hae]
      rw [hb]
      exact if_pos hop
    have hstep : Step 16384 (a.bump64 0x2702 0xE) b := by
      rw [hb]
      exact each_step (Step.refl _ _) fun u k hu => State.slotReady_step hu (by decide)
    have hbw : b.wrs.find s.nextWr = some w := by rw [hstep.wrs (by decide)]; exact haw
    obtain ⟨k1, -, k3⟩ := b.wrEnd_keeps s.nextWr .ok 0
    rw [hfire]
    refine ⟨?_, fun hn => absurd ⟨q, hq, hm⟩ hn, fun _ => ⟨?_, fun i f hopen hi hfi => ?_⟩⟩
    · rw [k1, hstep.conns (by decide)]
      exact haf.2.2
    · have hend := State.entryOf_wrEnd hbw .ok 0
      rw [hwl.1, hwl.2] at hend
      exact hend
    · have hslots : (a.readySlots w.slot).filter (fun k => (a.sessionOf k).st == .opened) = [bits e.tslot 11 0] := by
        unfold State.readySlots
        rw [hwslot, hset]
        show List.filter _ [bits e.tslot 11 0] = _
        rw [List.filter_cons_of_pos (by rw [hsess, hopen]; rfl)]
        rfl
      rw [k3, hb, hslots]
      refine State.slotReady_frames (s := a.bump64 0x2702 0xE) ?_ ((congrArg (fun t : Tab Frame => t.find i) haf.1).trans hfi)
      rw [← hi]
      unfold State.framesOf
      show List.find? (fun k => Option.any _ (a.frames.find k)) _ = _
      rw [show (a.bump64 0x2702 0xE).frames = s.frames from haf.1, haf.1]
  · have hstay : (match s.ctrs.find w.tctr with
        | some c => if triggerMet c.value w.thresh then a.wrFire s.nextWr else a
        | none => a) = a := by
      cases hq : s.ctrs.find w.tctr with
      | none => rfl
      | some q => exact if_neg fun hm => ht ⟨q, hq, hm⟩
    rw [hstay]
    exact ⟨haf.2.2, fun _ => ⟨haw, haf.1⟩, fun hn => absurd hn ht⟩

end

end Sys2Proof.Machine

namespace Sys2Proof.Proofs
open Sys2Proof.Machine

/-- Settles O39: work requests, buffers, connections and counters, each by what its entry leaves. -/
theorem remoteEntries : Obligations.RemoteEntries := by
  unfold Obligations.RemoteEntries
  intro s list idx l e
  refine ⟨fun c n hc => ?_, fun h h1 h2 h3 h4 h5 h6 h7 h8 => completes_remoteRecv h h1 h2 h3 h4 h5 h6 h7 h8,
    fun h h1 h2 h3 => completes_remoteConnect h h1 h2 h3, fun h h1 c h2 h3 => completes_remoteDisconnect h h1 h2 h3,
    fun h h1 h2 h3 => completes_ctrset h h1 h2 h3, fun h h1 h2 => completes_ctrfree h h1 h2,
    fun h h1 h2 h3 h4 h5 h6 h7 => completes_tready h h1 h2 h3 h4 h5 h6 h7⟩
  rcases hc with ⟨rfl, h, rfl, hlen, hp⟩ | ⟨rfl, h, rfl, hlen, hp⟩ | ⟨rfl, h, rfl, hlen, hp⟩ | ⟨rfl, h, rfl, hal, hp⟩ | ⟨rfl, h, rfl, hal, hp⟩
  · obtain ⟨-, hrest, hconn, hflag, hloc, -, -⟩ := id hp
    exact completes_posted (by unfold exec execRemoteSend; rfl) (fun _ => rfl) h hp (by rw [hrest, hlen, hconn, hflag, hloc]; rfl) (by decide) (exec_remoteSend s)
  · obtain ⟨-, hrest, hconn, hflag, hloc, -, -⟩ := id hp
    exact completes_posted (by unfold exec execRemoteWrite; rfl) (fun _ => rfl) h hp (by rw [hrest, hlen, hconn, hflag, hloc]; rfl) (by decide) (exec_remoteWrite s)
  · obtain ⟨-, hrest, hconn, hflag, hloc, -, -⟩ := id hp
    exact completes_posted (by unfold exec execRemoteRead; rfl) (fun _ => rfl) h hp (by rw [hrest, hlen, hconn, hflag, hloc]; rfl) (by decide) (exec_remoteRead s)
  · obtain ⟨-, hrest, hconn, hflag, hloc, -, -⟩ := id hp
    exact completes_posted (by unfold exec execRemoteFadd; rfl) (fun _ => rfl) h hp (by rw [hrest, hconn, hflag, hloc, hal]; rfl) (by decide) (exec_remoteFadd s)
  · obtain ⟨-, hrest, hconn, hflag, hloc, -, -⟩ := id hp
    exact completes_posted (by unfold exec execRemoteCas; rfl) (fun _ => rfl) h hp (by rw [hrest, hconn, hflag, hloc, hal]; rfl) (by decide) (exec_remoteCas s)

end Sys2Proof.Proofs
end

section
/-! A connection's own transmissions and timers, and O38. -/

namespace Sys2Proof.Machine

section

variable {s : State} {id psn : Nat} {c : Conn} {o : OutPsn} {w : WorkReq}

/-! ### A transmission whose source is sound (R262) -/

/-- A request's frame carries what its PSN stands for. -/
theorem State.requestFrame_carries (s : State) (id : Nat) (c : Conn) (w : WorkReq) (psn : Nat) (o : OutPsn) :
    s.carries c id psn o w (s.requestFrame id c w psn o) := by
  have hread : s.copyTile (w.loc + o.off) = none → s.copyRead (w.loc + o.off) o.len = s.tier1.readBytes (w.loc + o.off) o.len := fun h => by
    unfold State.copyRead
    rw [h]
  unfold State.requestFrame
  dsimp only
  split
  next h =>
    unfold State.carries State.baseFrame
    simpa [h] using hread
  next h =>
    unfold State.carries State.baseFrame
    simpa [h] using hread
  next h =>
    unfold State.carries State.baseFrame
    simp [h]
  next h =>
    unfold State.carries State.baseFrame
    simp [h]
  next h1 h2 h3 h5 =>
    unfold State.carries State.baseFrame
    have h1 : o.op ≠ 1 := h1
    have h2 : o.op ≠ 2 := h2
    have h3 : o.op ≠ 3 := h3
    simp [h1, h2, h3]

theorem State.plainSource_congr {t : State} (h1 : t.tier1Bad = s.tier1Bad) (h2 : t.wafer = s.wafer) (h : s.plainSource o w) : t.plainSource o w := by
  unfold State.plainSource State.copyTile at *
  rw [h1, h2]
  exact h

theorem State.carries_congr {t : State} {f : OraFrame} (h1 : t.tier1 = s.tier1) (h2 : t.wafer = s.wafer) (h : t.carries c id psn o w f) :
    s.carries c id psn o w f := by
  unfold State.carries State.copyTile at *
  rw [h1, h2] at h
  exact h

/-- A source in sound tier 1 serves, at every address. -/
theorem State.source_serves (h : s.tier1Bad = .empty) {a : Nat} (hc : s.copyTile a = none) (n : Nat) :
    s.serveBad a n false = false ∧ s.localBad a n false = false ∧ s.copyReadEffect a n = s.tierRead a n := by
  refine ⟨?_, ?_, ?_⟩
  · unfold State.serveBad
    unfold State.copyTile at hc
    split
    · exact State.copyBad_sound h a n false
    next k off hk => rw [hk] at hc; cases hc
    · rfl
  · unfold State.localBad
    rw [hc]
  · unfold State.copyReadEffect
    rw [hc]

theorem State.transmit_sound (hc : s.conns.find id = some c) (ho : c.outs.find psn = some o) (hw : s.wrs.find o.wr = some w) (hs : s.plainSource o w) :
    (s.transmit id psn).conns.find id = some { c with carried := c.granted } ∧ (s.transmit id psn).queued (s.route c) c.cls id (s.requestFrame id c w psn o) ∧
      Step 615727522381824 s (s.transmit id psn) := by
  obtain ⟨y, hy⟩ : ∃ y, y = if o.op = 1 ∨ o.op = 2 then s.copyReadEffect (w.loc + o.off) o.len else s := ⟨_, rfl⟩
  have hsend : s.transmit id psn = y.sendOra id true (s.requestFrame id c w psn o) := by
    unfold State.transmit
    simp only [hc, ho, hw]
    have hb1 : ¬ ((o.op = 1 ∨ o.op = 2) ∧ s.serveBad (w.loc + o.off) o.len false = true) := fun h => by
      rw [(State.source_serves hs.1 (hs.2 h.1) o.len).1] at h
      cases h.2
    have hb2 : ¬ ((o.op = 1 ∨ o.op = 2) ∧ s.localBad (w.loc + o.off) o.len false = true) := fun h => by
      rw [(State.source_serves hs.1 (hs.2 h.1) o.len).2.1] at h
      cases h.2
    refine (if_neg hb1).trans ((if_neg hb2).trans ?_)
    rw [hy]
  have hstep : Step 17593192677376 s y := by
    rw [hy]
    exact Step.ite (fun h => by
      rw [(State.source_serves hs.1 (hs.2 h) o.len).2.2]
      exact State.tierRead_sound hs.1 _ _ (by decide)) fun _ => Step.refl _ s
  have hyc : y.conns.find id = some c := by rw [hstep.conns (by decide)]; exact hc
  obtain ⟨h1, -, h3, -⟩ := State.sendOra_outcome hyc true (s.requestFrame id c w psn o)
  rw [State.route_congr (hstep.ports (by decide)) (hstep.nodes (by decide)) (State.ownNode_congr (hstep.od (by decide)))] at h3
  rw [hsend]
  exact ⟨h1, h3, State.sendOra_step (hstep.mono (by decide)) (by decide)⟩

/-- A PSN whose source is plain need not wait (R121). -/
theorem State.sourceWaits_plain (hw : s.wrs.find o.wr = some w) (hs : s.plainSource o w) : s.sourceWaits o = false := by
  unfold State.sourceWaits State.sourceOf
  split
  next h =>
    rw [hw, Option.map_some]
    show s.copyWaits (w.loc + o.off) o.len = false
    unfold State.copyWaits
    rw [hs.2 h]
  next h => rfl

/-! ### The send queue (R259, R262) -/

theorem wrOpcode_moves (op : Nat) : (wrOpcode op = 1 ∨ wrOpcode op = 2) ↔ (op = 3 ∨ op = 5) := by
  unfold wrOpcode
  split
  · simp [*]
  · split
    · simp [*]
    · split
      · simp [*]
      · split <;> simp [*]

end

section

variable {s : State} {conn : ConnId} {c : Conn}

/-- What stands in the way of the head of a send queue is only its credit. -/
theorem exec_oraRequestSend_next {wid : Nat} {w : WorkReq} (hc : s.conns.find conn.val = some c) (h : s.sendsNext c wid w) :
    exec (.oraRequestSend conn) s = .next (if c.hasCredit (s.nextCost w) then
        if (w.op = 3 ∨ w.op = 5) ∧ s.copyWaits (w.loc + w.sent) (s.nextLen w) = true then s.copyStall (w.loc + w.sent) (s.nextLen w)
        else if (w.op = 3 ∨ w.op = 5) ∧ s.localBad (w.loc + w.sent) (s.nextLen w) false = true then s.wrRefuse conn.val wid .badCommand
        else s.sendNext conn.val wid c w
      else if c.creditAt.isNone then (s.connMap conn.val fun x => { x with creditAt := some s.now }).bump64 0x2702 0xB
      else s) := by
  obtain ⟨hst, hq, hw, he, hr, hroom⟩ := h
  show execOraRequestSend conn s = _
  unfold execOraRequestSend
  simp only [hc, hq, hw]
  refine (whenDue_true (by rw [hst]; rfl) _ _).trans (congrArg Host.Outcome.next ((if_neg ?_).trans (if_neg ?_)))
  · rintro (hn | hn)
    · rw [Option.isNone_iff_eq_none] at hn
      rw [hn] at he
      cases he
    · rw [hr] at hn
      cases hn
  · rw [hroom]
    decide

theorem completes_oraRequestSend {wid : Nat} {w : WorkReq} (hc : s.conns.find conn.val = some c) (h : s.sendsNext c wid w)
    (hcredit : c.hasCredit (s.nextCost w) = true)
    (hs : s.plainSource ⟨wid, wrOpcode w.op, w.sent, s.nextLen w, decide (w.len ≤ w.sent + s.nextLen w), none⟩ w) :
    completes (.oraRequestSend conn) s (entryFields ++ ([.frames, .suspects, .tiles, .conns, .wrs, .ctrs, .ports] : List Field)) fun t =>
      (∃ x, t.conns.find conn.val = some x ∧
        x.outs.find c.nextPsn = some ⟨wid, wrOpcode w.op, w.sent, s.nextLen w, decide (w.len ≤ w.sent + s.nextLen w), none⟩ ∧
        (∀ q, q ≠ c.nextPsn → x.outs.find q = c.outs.find q) ∧
        x.nextPsn = psnAdd c.nextPsn 1 ∧ x.used = (c.used + s.nextCost w) % 2 ^ 32 ∧ x.creditAt = none) ∧
      (∃ y, t.wrs.find wid = some y ∧ y.sent = w.sent + s.nextLen w ∧ y.open_ = w.open_ + 1) ∧
      ∃ f, t.queued (s.route c) c.cls conn.val f ∧
        s.carries c conn.val c.nextPsn ⟨wid, wrOpcode w.op, w.sent, s.nextLen w, decide (w.len ≤ w.sent + s.nextLen w), none⟩
          { w with msn := if w.op = 3 ∧ w.sent = 0 then c.sendMsn else w.msn } f := by
  obtain ⟨o, ho⟩ : ∃ o : OutPsn, o = ⟨wid, wrOpcode w.op, w.sent, s.nextLen w, decide (w.len ≤ w.sent + s.nextLen w), none⟩ := ⟨_, rfl⟩
  have hexec := exec_oraRequestSend_next hc h
  rw [if_pos hcredit] at hexec
  have hplain : w.op = 3 ∨ w.op = 5 → s.copyTile (w.loc + w.sent) = none := fun hm => hs.2 ((wrOpcode_moves w.op).2 hm)
  have hwaits : ¬ ((w.op = 3 ∨ w.op = 5) ∧ s.copyWaits (w.loc + w.sent) (s.nextLen w) = true) := fun hm => by
    have hn := hm.2
    unfold State.copyWaits at hn
    rw [hplain hm.1] at hn
    cases hn
  have hlocal : ¬ ((w.op = 3 ∨ w.op = 5) ∧ s.localBad (w.loc + w.sent) (s.nextLen w) false = true) := fun hm => by
    rw [(State.source_serves hs.1 (hplain hm.1) _).2.1] at hm
    cases hm.2
  rw [if_neg hwaits, if_neg hlocal] at hexec
  obtain ⟨w1, hw1⟩ : ∃ w1 : WorkReq, w1 =
      { w with sent := w.sent + s.nextLen w, open_ := w.open_ + 1, msn := if w.op = 3 ∧ w.sent = 0 then c.sendMsn else w.msn } := ⟨_, rfl⟩
  obtain ⟨c1, hc1⟩ : ∃ c1 : Conn, c1 = { c with
    outs := c.outs.set c.nextPsn o, order := c.order ++ [c.nextPsn], nextPsn := psnAdd c.nextPsn 1
    used := (c.used + s.nextCost w) % 2 ^ 32, creditAt := none, sendMsn := if w.op = 3 ∧ w.sent = 0 then c.sendMsn + 1 else c.sendMsn
    sendq := if decide (w.len ≤ w.sent + s.nextLen w) then c.sendq.filter fun x => x != wid else c.sendq
    timerAt := match c.timerAt with
      | some t => some t
      | none => some (s.now + s.setting 0x2701 3 * psUs) } := ⟨_, rfl⟩
  obtain ⟨x, hx⟩ : ∃ x, x = ({ s with wrs := s.wrs.set wid w1 } : State).connMap conn.val fun _ => c1 := ⟨_, rfl⟩
  have hsend : s.sendNext conn.val wid c w = x.transmit conn.val c.nextPsn := by
    rw [hx, hc1, hw1, ho]
    rfl
  have hxc : x.conns.find conn.val = some c1 := by
    rw [hx]
    exact State.conn_connMap_same (s := ({ s with wrs := s.wrs.set wid w1 } : State)) hc _
  have hxo : c1.outs.find c.nextPsn = some o := by rw [hc1]; exact Tab.find_set_same ..
  have hxw : x.wrs.find o.wr = some w1 := by rw [hx, ho]; exact Tab.find_set_same ..
  have hxk : x.tier1Bad = s.tier1Bad ∧ x.wafer = s.wafer ∧ x.tier1 = s.tier1 ∧ x.ports = s.ports ∧ x.nodes = s.nodes ∧ x.od = s.od := by
    rw [hx]
    exact ⟨rfl, rfl, rfl, rfl, rfl, rfl⟩
  obtain ⟨k1, k2, k3, k4, k5, k6⟩ := hxk
  have hxs : x.plainSource o w1 := State.plainSource_congr k1 k2 (by rw [ho, hw1]; exact hs)
  obtain ⟨h1, h2, h3⟩ := State.transmit_sound hxc hxo hxw hxs
  have hcarries := State.carries_congr k3 k2 (x.requestFrame_carries conn.val c1 w1 c.nextPsn o)
  obtain ⟨f, hf⟩ : ∃ f, f = x.requestFrame conn.val c1 w1 c.nextPsn o := ⟨_, rfl⟩
  rw [← hf] at h2 hcarries
  have hroute : x.route c1 = s.route c := by
    rw [State.route_congr k4 k5 (State.ownNode_congr k6), hc1]
    rfl
  rw [hroute] at h2
  rw [hsend] at hexec
  rw [← ho]
  refine completes_of hexec (exec_oraRequestSend s) (by decide) ⟨⟨_, h1, hxo, fun q hq => ?_, ?_, ?_, ?_⟩, ⟨w1, ?_, ?_, ?_⟩, f, ?_, ?_⟩
  · rw [hc1]
    exact Tab.find_set_other _ _ hq
  · rw [hc1]
  · rw [hc1]
  · rw [hc1]
  · rw [h3.wrs (by decide)]
    rw [ho] at hxw
    exact hxw
  · rw [hw1]
  · rw [hw1]
  · rw [hc1] at h2
    exact h2
  · rw [hc1, hw1] at hcarries
    exact hcarries

theorem completes_oraRequestSend_waits {wid : Nat} {w : WorkReq} (hc : s.conns.find conn.val = some c) (h : s.sendsNext c wid w)
    (hcredit : c.hasCredit (s.nextCost w) = false) (hat : c.creditAt = none) :
    completes (.oraRequestSend conn) s [.od, .conns] fun t =>
      t.conns.find conn.val = some { c with creditAt := some s.now } ∧ t.cell 0x2702 0xB = (s.cell 0x2702 0xB + 1) % 2 ^ 64 ∧
      s.otherCells [(0x2702, 0xB)] t := by
  have hexec := exec_oraRequestSend_next hc h
  rw [if_neg (by rw [hcredit]; decide), if_pos (by rw [hat]; rfl)] at hexec
  obtain ⟨x, hx⟩ : ∃ x, x = s.connMap conn.val fun x => { x with creditAt := some s.now } := ⟨_, rfl⟩
  have hod : x.od = s.od := by rw [hx]; rfl
  have hstep : Step 35184372088832 s x := hx ▸ State.connMap_step (Step.refl _ s) (by decide)
  rw [← hx] at hexec
  refine completes_step hexec (State.bump64_step (hstep.mono (by decide)) (by decide)) ⟨?_, ?_, ?_⟩
  · show x.conns.find conn.val = _
    rw [hx]
    exact State.conn_connMap_same hc _
  · rw [State.cell_bump64_same, State.cell_congr hod]
  · exact fun i j hj hn => (State.otherCells_count x (by decide) i j hj hn).trans (State.cell_congr hod ..)

end

end Sys2Proof.Machine
end

section
/-! A connection's timers, and O38. -/

namespace Sys2Proof.Machine

section

variable {s : State} {id : Nat} {c : Conn}

/-! ### Acknowledgements and credits leave (R260, R273) -/

theorem State.sendAck_outcome (h : s.conns.find id = some c) :
    (s.sendAck id).conns.find id = some { c with sinceAck := 0, ackAt := none, carried := c.granted } ∧
      (s.sendAck id).queued (s.route c) c.cls id { s.baseFrame id 8 c with apsn := BitVec.ofNat 32 c.apsn, operand1 := BitVec.ofNat 64 c.bitmap } := by
  obtain ⟨x, hx⟩ : ∃ x, x = s.connMap id fun x => { x with sinceAck := 0, ackAt := none } := ⟨_, rfl⟩
  have hc : x.conns.find id = some { c with sinceAck := 0, ackAt := none } := by
    rw [hx]
    exact State.conn_connMap_same h _
  have hsend : s.sendAck id = x.sendOra id false
      { s.baseFrame id 8 c with apsn := BitVec.ofNat 32 c.apsn, operand1 := BitVec.ofNat 64 c.bitmap } := by
    unfold State.sendAck
    simp only [h]
    rw [hx]
  have hroute : x.route { c with sinceAck := 0, ackAt := none } = s.route c := by
    rw [hx]
    exact State.route_congr (s := s) rfl rfl (State.ownNode_congr rfl) c
  obtain ⟨h1, -, h3, -⟩ := State.sendOra_outcome hc false
    { s.baseFrame id 8 c with apsn := BitVec.ofNat 32 c.apsn, operand1 := BitVec.ofNat 64 c.bitmap }
  rw [hroute] at h3
  rw [hsend]
  exact ⟨h1, h3⟩

theorem State.sendCredit_outcome (h : s.conns.find id = some c) (solicit : Bool) :
    (s.sendCredit id solicit).conns.find id = some { c with carried := c.granted } ∧
      (s.sendCredit id solicit).queued (s.route c) c.cls id { s.baseFrame id 10 c with flags := if solicit then 4 else 0 } := by
  obtain ⟨h1, -, h3, -⟩ := State.sendOra_outcome h false { s.baseFrame id 10 c with flags := if solicit then 4 else 0 }
  have hsend : s.sendCredit id solicit = s.sendOra id false { s.baseFrame id 10 c with flags := if solicit then 4 else 0 } := by
    unfold State.sendCredit
    simp only [h]
  rw [hsend]
  exact ⟨h1, h3⟩

/-! ### A connection after some time (R260, R274) -/

/-- Time has gone on to `t`, and one connection has changed. -/
def State.later (s : State) (t id : Nat) (f : Conn → Conn) : State := (s.advanceTo t).connMap id f

theorem State.later_keeps (s : State) (t id : Nat) (f : Conn → Conn) : (s.later t id f).now = max s.now t ∧ (∀ c, (s.later t id f).route c = s.route c) ∧
    (∀ op c, (s.later t id f).baseFrame id op c = s.baseFrame id op c) ∧ Step 35184372088833 s (s.later t id f) :=
  ⟨rfl, fun c => State.route_congr (s := s) (t := s.later t id f) rfl rfl (State.ownNode_congr rfl) c,
    fun _ _ => State.baseFrame_congr (s := s) (t := s.later t id f) (State.ownNode_congr rfl) .., State.connMap_step (State.advanceTo_step (Step.refl _ s) (by decide)) (by decide)⟩

theorem State.later_conn (h : s.conns.find id = some c) (t : Nat) (f : Conn → Conn) : (s.later t id f).conns.find id = some (f c) :=
  State.conn_connMap_same (s := s.advanceTo t) h f

/-! ### A connection fails as a unit (R199, R274) -/

theorem State.jobAbort_aborted {j : Nat} (h : (s.jobOf j).st = .opened) (st : Status) (det : Nat) : ((s.jobAbort j st det).jobOf j).st = .aborted := by
  obtain ⟨x, hx⟩ : ∃ x, x = ({ s with jobs := s.jobs.set j { s.jobOf j with st := .aborted, fenced := (s.jobOf j).fenced || st == .fenced } } : State) := ⟨_, rfl⟩
  have hk : Step 72080289657801864 x (s.jobAbort j st det) := by
    unfold State.jobAbort
    dsimp only
    rw [if_neg (fun hn => hn h), ← hx]
    exact State.jobFramesEnd_step (State.jobEntriesEnd_step (each_step (Step.refl _ x) fun u k hu => State.killTask_step hu (by decide)) (by decide)) (by decide)
  unfold State.jobOf at *
  rw [hk.jobs (by decide), hx]
  show (Tab.get _ job0 j).st = _
  rw [Tab.get_set_same]

/-- Nothing of the connection is outstanding any more, and its job goes on or ends as R199 says. -/
theorem State.connFail_outcome (h : s.conns.find id = some c) (hc : c.st = .opened) (hj : (s.jobOf c.job).st = .opened) :
    (∃ x, (s.connFail id c).conns.find id = some x ∧ x.outs = .empty ∧ x.timerAt = none ∧ x.st = if (s.jobOf c.job).elastic then .error else .opened) ∧
      ((s.jobOf c.job).elastic = true → (s.connFail id c).jobs = s.jobs) ∧
      ((s.jobOf c.job).elastic = false → ((s.connFail id c).jobOf c.job).st = .aborted) := by
  obtain ⟨a, ha⟩ : ∃ a, a = (s.fire 0x0845 id 1).event (s.connOwner c) 0xFF41 0x0845 s.stamp (natLe 2 id ++ [0] ++ natLe 3 (c.order.headD 0)) := ⟨_, rfl⟩
  have hk : Step 72075187236635824 s a := ha ▸ State.event_step (State.fire_step (Step.refl _ s) (by decide)) (by decide)
  have hac : a.conns.find id = some c := by rw [hk.conns (by decide)]; exact h
  have hajobs : a.jobs = s.jobs := hk.jobs (by decide)
  have haj : (a.jobOf c.job).st = .opened := by
    unfold State.jobOf at *
    rw [hajobs]
    exact hj
  have hfail : s.connFail id c = if (s.jobOf c.job).elastic then (a.connEnd id .regionLost 0x0845).connMap id fun x => { x with st := .error, ackAt := none }
      else (a.jobAbort c.job .jobAborted 0x0845).connEnd id .jobAborted 0x0845 := by
    rw [ha]
    rfl
  rw [hfail]
  cases he : (s.jobOf c.job).elastic with
  | true =>
    have hend := State.connEnd_conns (st := .regionLost) (by decide) a id 0x0845 id
    rw [hac, Option.map_some, if_pos rfl] at hend
    have hjobs := (State.connEnd_step (x1 := id) (x2 := .regionLost) (x3 := 0x0845) (Step.refl 72462232509500544 a) (by decide)).jobs (by decide)
    exact ⟨⟨_, State.conn_connMap_same hend _, rfl, rfl, rfl⟩, fun _ => hjobs.trans hajobs, fun hn => absurd hn (by decide)⟩
  | false =>
    have hjc : (a.jobAbort c.job .jobAborted 0x0845).conns.find id = some c := by
      rw [(State.jobAbort_step (x1 := c.job) (x2 := .jobAborted) (x3 := 0x0845) (Step.refl 72080289657810056 a) (by decide)).conns (by decide)]
      exact hac
    have hend := State.connEnd_conns (st := .jobAborted) (by decide) (a.jobAbort c.job .jobAborted 0x0845) id 0x0845 id
    rw [hjc, Option.map_some, if_pos rfl] at hend
    have hjobs := (State.connEnd_step (x1 := id) (x2 := .jobAborted) (x3 := 0x0845) (Step.refl 72462232509500544 (a.jobAbort c.job .jobAborted 0x0845)) (by decide)).jobs
      (by decide)
    refine ⟨⟨_, hend, rfl, rfl, hc⟩, fun hn => absurd hn (by decide), fun _ => ?_⟩
    have habort := State.jobAbort_aborted haj .jobAborted 0x0845
    unfold State.jobOf at *
    rw [if_neg (by decide), hjobs]
    exact habort

end

section

variable {s : State} {conn : ConnId} {c : Conn} {at_ : Nat}

/-! ### The timers run out -/

theorem completes_ackDelayExpiry (hc : s.conns.find conn.val = some c) (hst : c.st = .opened) (hat : c.ackAt = some at_) :
    completes (.ackDelayExpiry conn) s [.now, .od, .conns, .ports] fun t => t.now = max s.now at_ ∧
      (∃ x, t.conns.find conn.val = some x ∧ x.ackAt = none ∧ x.sinceAck = 0) ∧
      (0 < c.sinceAck → t.queued (s.route c) c.cls conn.val
        { s.baseFrame conn.val 8 c with apsn := BitVec.ofNat 32 c.apsn, operand1 := BitVec.ofNat 64 c.bitmap }) ∧
      (c.sinceAck = 0 → c.creditDue = true → t.queued (s.route c) c.cls conn.val (s.baseFrame conn.val 10 c)) := by
  obtain ⟨h1, h2, h3, h4⟩ := s.later_keeps at_ conn.val fun x => { x with ackAt := none }
  have hxc := State.later_conn hc at_ fun x => { x with ackAt := none }
  have hexec : exec (.ackDelayExpiry conn) s = .next (if 0 < c.sinceAck then (s.later at_ conn.val fun x => { x with ackAt := none }).sendAck conn.val
      else if c.creditDue then (s.later at_ conn.val fun x => { x with ackAt := none }).sendCredit conn.val false
      else s.later at_ conn.val fun x => { x with ackAt := none }) := by
    show execAckDelayExpiry conn s = _
    unfold execAckDelayExpiry
    simp only [hc, hat]
    exact whenDue_true (by rw [hst]; rfl) _ _
  generalize s.later at_ conn.val (fun x => { x with ackAt := none }) = a at *
  by_cases hack : 0 < c.sinceAck
  · rw [if_pos hack] at hexec
    have hk := State.sendAck_step (x1 := conn.val) (h4.mono (G := 598134329704449) (by decide)) (by decide)
    have hnow := (State.sendAck_step (x1 := conn.val) (Step.refl 598134329704448 a) (by decide)).now (by decide)
    obtain ⟨k1, k2⟩ := State.sendAck_outcome hxc
    rw [h2, h3] at k2
    exact completes_step hexec hk ⟨hnow.trans h1, ⟨_, k1, rfl, rfl⟩, fun _ => k2, fun hn => absurd hack (by omega)⟩
  · rw [if_neg hack] at hexec
    have hzero : c.sinceAck = 0 := by omega
    by_cases hdue : c.creditDue = true
    · rw [if_pos hdue] at hexec
      have hk := State.sendCredit_step (x1 := conn.val) (x2 := false) (h4.mono (G := 598134329704449) (by decide)) (by decide)
      have hnow := (State.sendCredit_step (x1 := conn.val) (x2 := false) (Step.refl 598134329704448 a) (by decide)).now (by decide)
      obtain ⟨k1, k2⟩ := State.sendCredit_outcome hxc false
      rw [h2, h3] at k2
      exact completes_step hexec hk ⟨hnow.trans h1, ⟨_, k1, rfl, hzero⟩, fun hn => absurd hn hack, fun _ _ => k2⟩
    · rw [if_neg hdue] at hexec
      exact completes_step hexec (h4.mono (G := 598134329704449) (by decide)) ⟨h1, ⟨_, hxc, rfl, hzero⟩, fun hn => absurd hn hack, fun _ hn => absurd hn hdue⟩

theorem completes_creditProbe {wid : Nat} {w : WorkReq} (hc : s.conns.find conn.val = some c) (hst : c.st = .opened) (hat : c.creditAt = some at_)
    (hq : c.sendq.head? = some wid) (hw : s.wrs.find wid = some w) (hcredit : c.hasCredit (s.nextCost w) = false) :
    completes (.creditProbe conn) s [.now, .od, .conns, .ports] fun t => t.now = max s.now (at_ + s.setting 0x2701 6 * psUs) ∧
      (∃ x, t.conns.find conn.val = some x ∧ x.creditAt = some t.now) ∧
      t.queued (s.route c) c.cls conn.val { s.baseFrame conn.val 10 c with flags := 4 } := by
  obtain ⟨n, hn⟩ : ∃ n, n = max s.now (at_ + s.setting 0x2701 6 * psUs) := ⟨_, rfl⟩
  obtain ⟨h1, h2, h3, h4⟩ := s.later_keeps (at_ + s.setting 0x2701 6 * psUs) conn.val fun x => { x with creditAt := some n }
  have hxc := State.later_conn hc (at_ + s.setting 0x2701 6 * psUs) fun x => { x with creditAt := some n }
  have hexec : exec (.creditProbe conn) s = .next
      ((s.later (at_ + s.setting 0x2701 6 * psUs) conn.val fun x => { x with creditAt := some n }).sendCredit conn.val true) := by
    show execCreditProbe conn s = _
    unfold execCreditProbe
    simp only [hc, hat, hq, Option.bind_some, hw]
    refine (whenDue_true (by rw [hst, hcredit]; rfl) _ _).trans ?_
    rw [hn]
    rfl
  generalize s.later (at_ + s.setting 0x2701 6 * psUs) conn.val (fun x => { x with creditAt := some n }) = a at *
  have hk := State.sendCredit_step (x1 := conn.val) (x2 := true) (h4.mono (G := 598134329704449) (by decide)) (by decide)
  have hnow := (State.sendCredit_step (x1 := conn.val) (x2 := true) (Step.refl 598134329704448 a) (by decide)).now (by decide)
  obtain ⟨k1, k2⟩ := State.sendCredit_outcome hxc true
  rw [h2, h3] at k2
  exact completes_step hexec hk ⟨hnow.trans h1, ⟨_, k1, by rw [hnow, h1, hn]⟩, k2⟩

theorem completes_retransmit {p : Nat} {o : OutPsn} {w : WorkReq} (hc : s.conns.find conn.val = some c) (hst : c.st = .opened) (hat : c.timerAt = some at_)
    (hlim : c.retries + 1 ≤ s.setting 0x2701 4) (hord : c.order = [p]) (ha : s.awaits c p o w) (hrnr : o.rnrAt = none) (hs : s.plainSource o w) :
    completes (.retransmitTimeout conn) s (.now :: (entryFields ++ ([.frames, .suspects, .tiles, .conns, .wrs, .ctrs, .ports] : List Field))) fun t =>
      t.now = max s.now at_ ∧
      (∃ x, t.conns.find conn.val = some x ∧ x.retries = c.retries + 1 ∧ x.outs = c.outs ∧ x.timerAt = some (t.now + s.setting 0x2701 3 * psUs)) ∧
      ∃ f, t.queued (s.route c) c.cls conn.val f ∧ s.carries c conn.val p o w f := by
  obtain ⟨hp, hw⟩ := ha
  obtain ⟨n, hn⟩ : ∃ n, n = max s.now at_ + s.setting 0x2701 3 * psUs := ⟨_, rfl⟩
  obtain ⟨c1, hc1⟩ : ∃ c1 : Conn, c1 = { c with retries := c.retries + 1, timerAt := some n } := ⟨_, rfl⟩
  obtain ⟨x, hx⟩ : ∃ x, x = (s.later at_ conn.val fun x => { x with retries := c.retries + 1, timerAt := some n }).bump64 0x2702 9 := ⟨_, rfl⟩
  have hexec : exec (.retransmitTimeout conn) s = .next (x.transmit conn.val p) := by
    have hagain : ∀ g : Nat → Bool, g p = true → c.order.filter g = [p] := fun g hg => by
      rw [hord, List.filter_cons_of_pos hg]
      rfl
    have hwaits : (([p].filterMap c.outs.find).find? s.sourceWaits) = none := by
      rw [List.filterMap_cons_some hp]
      exact List.find?_eq_none.2 fun y hy => by
        cases List.mem_singleton.1 hy
        rw [State.sourceWaits_plain hw hs]
        decide
    show execRetransmitTimeout conn s = _
    unfold execRetransmitTimeout
    simp only [hc, hat]
    refine (whenDue_true (by rw [hst]; rfl) _ _).trans (congrArg Host.Outcome.next ((if_neg (by omega)).trans ?_))
    rw [hagain _ (by simp only [hp, hrnr]; rfl), hwaits, hx, hn]
    rfl
  obtain ⟨h1, h2, h3, h4⟩ := s.later_keeps at_ conn.val fun x => { x with retries := c.retries + 1, timerAt := some n }
  have hxc : x.conns.find conn.val = some c1 := by
    rw [hx, hc1]
    exact State.later_conn hc at_ fun x => { x with retries := c.retries + 1, timerAt := some n }
  have hxs : x.plainSource o w := by
    rw [hx]
    exact State.plainSource_congr (s := s) rfl rfl hs
  have hroute : x.route c1 = s.route c := by
    rw [hx, State.route_sent _ _ (by decide), h2, hc1]
    rfl
  have hkeep : x.now = max s.now at_ ∧ x.tier1 = s.tier1 ∧ x.wafer = s.wafer := by
    rw [hx]
    exact ⟨h1, rfl, rfl⟩
  obtain ⟨hnow, htier, hwafer⟩ := hkeep
  have hxw : x.wrs.find o.wr = some w := by rw [hx]; exact hw
  have hxp : c1.outs.find p = some o := by rw [hc1]; exact hp
  obtain ⟨k1, k2, k3⟩ := State.transmit_sound hxc hxp hxw hxs
  have hcarries := State.carries_congr htier hwafer (x.requestFrame_carries conn.val c1 w p o)
  obtain ⟨f, hf⟩ : ∃ f, f = x.requestFrame conn.val c1 w p o := ⟨_, rfl⟩
  rw [← hf] at k2 hcarries
  rw [hroute] at k2
  have htn := (k3.now (by decide)).trans hnow
  have hk : Step 615727522381825 s (x.transmit conn.val p) := by
    rw [hx] at k3 ⊢
    exact (State.bump64_step (h4.mono (by decide)) (by decide)).trans (k3.mono (by decide))
  refine completes_step hexec (hk.mono (by decide)) ⟨htn, ⟨_, k1, ?_, ?_, ?_⟩, f, ?_, ?_⟩
  · rw [hc1]
  · rw [hc1]
  · rw [hc1, htn, hn]
  · rw [hc1] at k2
    exact k2
  · rw [hc1] at hcarries
    exact hcarries

theorem completes_retransmit_failed (hc : s.conns.find conn.val = some c) (hst : c.st = .opened) (hat : c.timerAt = some at_)
    (hlim : s.setting 0x2701 4 ≤ c.retries) (hj : (s.jobOf c.job).st = .opened) :
    completes (.retransmitTimeout conn) s (entryFields ++ ([.frames, .suspects, .tiles, .conns, .wrs, .ctrs, .ports] : List Field) ++
        ([.now, .sessions, .hostA, .hostB, .jobs, .attach, .plans] : List Field)) fun t =>
      t.now = max s.now at_ ∧ (∃ x, t.conns.find conn.val = some x ∧ x.outs = .empty ∧ x.timerAt = none ∧
        x.st = if (s.jobOf c.job).elastic then .error else .opened) ∧
      ((s.jobOf c.job).elastic = true → t.jobs = s.jobs) ∧
      ((s.jobOf c.job).elastic = false → (t.jobOf c.job).st = .aborted) := by
  have hexec : exec (.retransmitTimeout conn) s = .next ((s.advanceTo at_).connFail conn.val c) := by
    show execRetransmitTimeout conn s = _
    unfold execRetransmitTimeout
    simp only [hc, hat]
    exact (whenDue_true (by rw [hst]; rfl) _ _).trans (congrArg Host.Outcome.next (if_pos (by omega)))
  have hnow := (State.connFail_step (x1 := conn.val) (x2 := c) (Step.refl 72467317750787256 (s.advanceTo at_)) (by decide)).now (by decide)
  exact completes_of hexec (exec_retransmitTimeout s) (by decide) ⟨hnow, State.connFail_outcome (s := s.advanceTo at_) hc hst hj⟩

theorem completes_rnrRetry {p : BitVec 24} {o : OutPsn} {w : WorkReq} (hc : s.conns.find conn.val = some c) (hst : c.st = .opened)
    (ha : s.awaits c p.toNat o w) (hrnr : o.rnrAt = some at_) (hs : s.plainSource o w) :
    completes (.rnrRetry conn p) s (.now :: (entryFields ++ ([.frames, .suspects, .tiles, .conns, .wrs, .ctrs, .ports] : List Field))) fun t =>
      t.now = max s.now (at_ + s.setting 0x2701 5 * psUs) ∧
      (∃ x, t.conns.find conn.val = some x ∧ x.outs.find p.toNat = some { o with rnrAt := none }) ∧
      ∃ f, t.queued (s.route c) c.cls conn.val f ∧ s.carries c conn.val p.toNat o w f := by
  obtain ⟨hp, hw⟩ := ha
  obtain ⟨o1, ho1⟩ : ∃ o1 : OutPsn, o1 = { o with rnrAt := none } := ⟨_, rfl⟩
  obtain ⟨v, hv⟩ : ∃ v, v = match c.timerAt with
      | some u => some u
      | none => (s.advanceTo (at_ + s.setting 0x2701 5 * psUs)).timerStart { c with outs := c.outs.set p.toNat o1 } := ⟨_, rfl⟩
  obtain ⟨c1, hc1⟩ : ∃ c1 : Conn, c1 = { c with outs := c.outs.set p.toNat o1, timerAt := v } := ⟨_, rfl⟩
  obtain ⟨x, hx⟩ : ∃ x, x = s.later (at_ + s.setting 0x2701 5 * psUs) conn.val fun _ => c1 := ⟨_, rfl⟩
  have hexec : exec (.rnrRetry conn p) s = .next (x.transmit conn.val p.toNat) := by
    show execRnrRetry conn p s = _
    unfold execRnrRetry
    simp only [hc, Option.bind_some, hp, hrnr, Option.map_some]
    refine (whenDue_true (by rw [hst]; rfl) _ _).trans (congrArg Host.Outcome.next ((if_neg ?_).trans ?_))
    · rw [State.sourceWaits_plain hw hs]
      decide
    · rw [hx, hc1, hv, ho1]
      rfl
  obtain ⟨h1, h2, -, h4⟩ := s.later_keeps (at_ + s.setting 0x2701 5 * psUs) conn.val fun _ => c1
  have hxc := State.later_conn hc (at_ + s.setting 0x2701 5 * psUs) fun _ => c1
  rw [← hx] at h1 h2 h4 hxc
  have hxs : x.plainSource o1 w := by
    rw [hx, ho1]
    exact State.plainSource_congr (s := s) rfl rfl hs
  have hxw : x.wrs.find o1.wr = some w := by rw [hx, ho1]; exact hw
  have hxp : c1.outs.find p.toNat = some o1 := by rw [hc1]; exact Tab.find_set_same ..
  obtain ⟨k1, k2, k3⟩ := State.transmit_sound hxc hxp hxw hxs
  have hcarries := State.carries_congr (s := s) (by rw [hx]; rfl) (by rw [hx]; rfl) (x.requestFrame_carries conn.val c1 w p.toNat o1)
  obtain ⟨f, hf⟩ : ∃ f, f = x.requestFrame conn.val c1 w p.toNat o1 := ⟨_, rfl⟩
  rw [← hf] at k2 hcarries
  rw [h2] at k2
  refine completes_of hexec (exec_rnrRetry s) (by decide) ⟨(k3.now (by decide)).trans h1, ⟨_, k1, ?_⟩, f, ?_, ?_⟩
  · rw [← ho1]
    exact hxp
  · rw [hc1] at k2
    exact k2
  · rw [hc1, ho1] at hcarries
    exact hcarries

end

end Sys2Proof.Machine

namespace Sys2Proof.Proofs
open Sys2Proof.Machine

/-- Settles O38: each transmission and each timer of a connection by the frame that leaves and by what the connection keeps. -/
theorem oraTimers : Obligations.OraTimers := by
  unfold Obligations.OraTimers
  intro s conn c hc hst
  refine ⟨fun wid w h => ⟨fun hcredit hs => completes_oraRequestSend hc h hcredit hs, fun hcredit hat => completes_oraRequestSend_waits hc h hcredit hat⟩,
    fun at_ hat => ⟨fun p o w hlim hord ha hrnr hs => completes_retransmit hc hst hat hlim hord ha hrnr hs,
      fun hlim hj => completes_retransmit_failed hc hst hat hlim hj⟩,
    fun at_ hat => completes_ackDelayExpiry hc hst hat,
    fun at_ wid w hat hq hw hcredit => completes_creditProbe hc hst hat hq hw hcredit,
    fun p at_ o w ha hrnr hs => completes_rnrRetry hc hst ha hrnr hs⟩

end Sys2Proof.Proofs
end

section
/-! Work requests under settlement: what the end of one leaves of the others (R270, R274, R277). -/

namespace Sys2Proof.Machine

/-! ### Requests and connections that go on -/

/-- Two records of one request, apart from how far it has been settled. -/
structure WorkReq.like (w v : WorkReq) : Prop where
  list : v.list = w.list
  idx : v.idx = w.idx
  conn : v.conn = w.conn
  op : v.op = w.op
  len : v.len = w.len
  sent : v.sent = w.sent

theorem WorkReq.like_refl (w : WorkReq) : w.like w := ⟨rfl, rfl, rfl, rfl, rfl, rfl⟩

theorem WorkReq.like.trans {u v w : WorkReq} (h : u.like v) (g : v.like w) : u.like w :=
  ⟨g.list.trans h.list, g.idx.trans h.idx, g.conn.trans h.conn, g.op.trans h.op, g.len.trans h.len, g.sent.trans h.sent⟩

/-- What the firing and the end of requests keep: a connection but its send queue, an entry that is over, and of a request whose
entry goes on all but its waiting. -/
structure State.reqsKeep (s t : State) : Prop where
  conn : ∀ i c, s.conns.find i = some c → ∃ q, t.conns.find i = some { c with sendq := q }
  entry : ∀ i j, s.entryOf i j = none → t.entryOf i j = none
  req : ∀ i w, s.wrs.find i = some w → t.entryOf w.list w.idx = none ∨ ∃ b, t.wrs.find i = some { w with waiting := b }

section

variable {s t u : State} {id : Nat}

theorem State.reqsKeep_of (hc : t.conns = s.conns) (hl : t.lists = s.lists) (hw : t.wrs = s.wrs) : s.reqsKeep t where
  conn i c h := ⟨c.sendq, by rw [hc]; exact h⟩
  entry i j h := (State.entryOf_congr hl ..).trans h
  req i w h := .inr ⟨w.waiting, by rw [hw]; exact h⟩

theorem State.reqsKeep.trans (h : s.reqsKeep t) (g : t.reqsKeep u) : s.reqsKeep u where
  conn i c hc := by
    obtain ⟨q, hq⟩ := h.conn i c hc
    obtain ⟨r, hr⟩ := g.conn i _ hq
    exact ⟨r, hr⟩
  entry i j hn := g.entry i j (h.entry i j hn)
  req i w hw := by
    rcases h.req i w hw with hn | ⟨b, hb⟩
    · exact .inl (g.entry _ _ hn)
    · rcases g.req i _ hb with hn | ⟨a, ha⟩
      · exact .inl hn
      · exact .inr ⟨a, ha⟩

theorem State.reqsKeep_each {α : Type} {f : State → α → State} (hf : ∀ (u : State) x, u.reqsKeep (f u x)) (l : List α) : ∀ s : State, s.reqsKeep (each l f s) := by
  induction l with
  | nil => exact fun s => State.reqsKeep_of rfl rfl rfl
  | cons x l ih => exact fun s => (hf s x).trans (ih (f s x))

theorem State.reqsKeep_wrEnd (s : State) (id : Nat) (st : Status) (det : Nat) : s.reqsKeep (s.wrEnd id st det) where
  conn i c h := ⟨c.sendq, by rw [(s.wrEnd_keeps id st det).1]; exact h⟩
  entry i j h := State.entryOf_none_wrEnd h id st det
  req i w h := by
    by_cases hi : i = id
    · subst hi
      exact .inl (State.entryOf_wrEnd h st det)
    · exact .inr ⟨w.waiting, by rw [State.wrEnd_find, if_neg hi]; exact h⟩

theorem State.reqsKeep_erased {w : WorkReq} (hw : s.wrs.find id = some w) (he : s.entryOf w.list w.idx = none) :
    s.reqsKeep { s with wrs := s.wrs.erase id } where
  conn i c h := ⟨c.sendq, h⟩
  entry i j h := (State.entryOf_congr rfl ..).trans h
  req i v h := by
    by_cases hi : i = id
    · subst hi
      cases hw.symm.trans h
      exact .inl ((State.entryOf_congr rfl ..).trans he)
    · exact .inr ⟨v.waiting, (Tab.find_erase_other _ hi).trans h⟩

theorem State.reqsKeep_wrFire (s : State) (id : Nat) : s.reqsKeep (s.wrFire id) := by
  cases hw : s.wrs.find id with
  | none =>
    have hsame : s.wrFire id = s := by unfold State.wrFire; simp only [hw]
    rw [hsame]
    exact State.reqsKeep_of rfl rfl rfl
  | some w =>
    cases he : s.entryOf w.list w.idx with
    | none =>
      have hfire : s.wrFire id = { s with wrs := s.wrs.erase id } := by
        unfold State.wrFire
        simp only [hw, he]
        rfl
      exact hfire ▸ State.reqsKeep_erased hw he
    | some e =>
      by_cases hop : w.op = 11
      · have hfire : s.wrFire id = (each ((s.readySlots w.slot).filter fun k => (s.sessionOf k).st == .opened) State.slotReady (s.bump64 0x2702 0xE)).wrEnd id .ok 0 := by
          unfold State.wrFire
          simp only [hw, he]
          exact if_pos hop
        have hk : Step 4210688 s (each ((s.readySlots w.slot).filter fun k => (s.sessionOf k).st == .opened) State.slotReady (s.bump64 0x2702 0xE)) :=
          each_step (State.bump64_step (Step.refl _ s) (by decide)) fun u k hu => State.slotReady_step hu (by decide)
        rw [hfire]
        exact (State.reqsKeep_of (hk.conns (by decide)) (hk.lists (by decide)) (hk.wrs (by decide))).trans (State.reqsKeep_wrEnd _ id .ok 0)
      · rw [State.wrFire_live hw (Option.isSome_of_eq_some he) hop]
        refine ⟨fun i c h => ?_, fun i j h => (State.entryOf_congr rfl ..).trans h, fun i v h => ?_⟩
        · rw [State.conn_connMap]
          show ∃ q, (s.conns.find i).map _ = _
          rw [h, Option.map_some]
          by_cases hi : i = w.conn
          · exact ⟨c.sendq ++ [id], by rw [if_pos hi]⟩
          · exact ⟨c.sendq, by rw [if_neg hi]⟩
        · by_cases hi : i = id
          · subst hi
            cases hw.symm.trans h
            exact .inr ⟨false, Tab.find_set_same ..⟩
          · exact .inr ⟨v.waiting, (Tab.find_set_other _ _ hi).trans h⟩

theorem State.reqsKeep_ctrUp (s : State) (ctr : Nat) : s.reqsKeep (s.ctrUp ctr) := by
  unfold State.ctrUp
  split
  · exact State.reqsKeep_of rfl rfl rfl
  next c _ =>
    have hset : s.reqsKeep { s with ctrs := s.ctrs.set ctr { c with value := (c.value + 1) % 2 ^ 32 } } := State.reqsKeep_of rfl rfl rfl
    refine hset.trans ?_
    unfold State.triggers
    split
    · exact State.reqsKeep_of rfl rfl rfl
    · exact State.reqsKeep_each State.reqsKeep_wrFire _ _

theorem State.reqsKeep_wrDone (s : State) (id : Nat) (st : Status) (det : Nat) : s.reqsKeep (s.wrDone id st det) := by
  unfold State.wrDone
  split
  · exact State.reqsKeep_of rfl rfl rfl
  · dsimp only
    split
    · exact (State.reqsKeep_wrEnd s id st det).trans (State.reqsKeep_ctrUp _ _)
    · exact State.reqsKeep_wrEnd s id st det

theorem State.entryOf_wrDone {w : WorkReq} (h : s.wrs.find id = some w) (st : Status) (det : Nat) : (s.wrDone id st det).entryOf w.list w.idx = none := by
  have hend := State.entryOf_wrEnd h st det
  unfold State.wrDone
  simp only [h]
  split
  · exact (State.reqsKeep_ctrUp _ _).entry _ _ hend
  · exact hend

/-! ### A request whose PSNs are settled (R277) -/

theorem State.faultEnd_keeps (s : State) (st : Status) : (s.faultEnd st).conns = s.conns ∧ (s.faultEnd st).lists = s.lists ∧ (s.faultEnd st).wrs = s.wrs := by
  unfold State.faultEnd
  split <;> exact ⟨rfl, rfl, rfl⟩

theorem State.reqsKeep_dequeued (s : State) (id wid : Nat) : s.reqsKeep (s.connMap id fun c => { c with sendq := c.sendq.filter fun x => x != wid }) where
  conn i c h := by
    rw [State.conn_connMap, h, Option.map_some]
    by_cases hi : i = id
    · exact ⟨c.sendq.filter fun x => x != wid, by rw [if_pos hi]⟩
    · exact ⟨c.sendq, by rw [if_neg hi]⟩
  entry i j h := (State.entryOf_congr rfl ..).trans h
  req i w h := .inr ⟨w.waiting, h⟩

/-- A request with a PSN outstanding, or with more to send, goes on. -/
theorem State.wrCheck_goesOn {w : WorkReq} (h : s.wrs.find id = some w) (hn : ¬ (w.open_ = 0 ∧ (w.refused = true ∨ w.len ≤ w.sent))) : s.wrCheck id = s := by
  unfold State.wrCheck
  simp only [h]
  exact if_neg hn

/-- A request that is settled ends, with some status. -/
theorem State.wrCheck_done {w : WorkReq} (h : s.wrs.find id = some w) (hd : w.open_ = 0 ∧ (w.refused = true ∨ w.len ≤ w.sent)) :
    ∃ st det, s.wrCheck id = ((s.connMap w.conn fun c => { c with sendq := c.sendq.filter fun x => x != id }).faultEnd st).wrDone id st det := by
  unfold State.wrCheck
  simp only [h]
  rw [if_pos hd]
  split
  · exact ⟨_, _, rfl⟩
  · exact ⟨_, _, rfl⟩

theorem State.reqsKeep_wrCheck (s : State) (id : Nat) : s.reqsKeep (s.wrCheck id) := by
  cases h : s.wrs.find id with
  | none =>
    have hsame : s.wrCheck id = s := by unfold State.wrCheck; simp only [h]
    rw [hsame]
    exact State.reqsKeep_of rfl rfl rfl
  | some w =>
    by_cases hd : w.open_ = 0 ∧ (w.refused = true ∨ w.len ≤ w.sent)
    · obtain ⟨st, det, hdone⟩ := State.wrCheck_done h hd
      obtain ⟨k1, k2, k3⟩ := (s.connMap w.conn fun c => { c with sendq := c.sendq.filter fun x => x != id }).faultEnd_keeps st
      rw [hdone]
      exact ((State.reqsKeep_dequeued s w.conn id).trans (State.reqsKeep_of k1 k2 k3)).trans (State.reqsKeep_wrDone _ id st det)
    · rw [State.wrCheck_goesOn h hd]
      exact State.reqsKeep_of rfl rfl rfl

theorem State.entryOf_wrCheck {w : WorkReq} (h : s.wrs.find id = some w) (hd : w.open_ = 0 ∧ (w.refused = true ∨ w.len ≤ w.sent)) :
    (s.wrCheck id).entryOf w.list w.idx = none := by
  obtain ⟨st, det, hdone⟩ := State.wrCheck_done h hd
  obtain ⟨-, -, k3⟩ := (s.connMap w.conn fun c => { c with sendq := c.sendq.filter fun x => x != id }).faultEnd_keeps st
  rw [hdone]
  exact State.entryOf_wrDone (k3 ▸ h) st det

/-! ### A PSN is settled (R274) -/

/-- A connection without the PSN, and a request with one PSN less outstanding. -/
def State.settled (s : State) (c : Conn) (psn : Nat) : Conn :=
  { c with outs := c.outs.erase psn, order := c.order.filter fun x => x != psn, retries := 0
           timerAt := s.timerStart { c with outs := c.outs.erase psn, order := c.order.filter fun x => x != psn, retries := 0 } }

def WorkReq.settled (w : WorkReq) (st : Status) : WorkReq :=
  { w with open_ := w.open_ - 1, worst := w.worst.worse st, refused := w.refused || st != Status.ok }

/-- The state in which a settlement looks at its request. -/
def State.settling (s : State) (id : Nat) (c : Conn) (psn : Nat) (o : OutPsn) (st : Status) : State :=
  { s.connMap id fun _ => s.settled c psn with wrs := s.wrs.mapVals fun i w => if i = o.wr then w.settled st else w }

theorem State.psnSettle_eq {c : Conn} {psn : Nat} {o : OutPsn} (hc : s.conns.find id = some c) (ho : c.outs.find psn = some o) (st : Status) :
    s.psnSettle id psn st = (s.settling id c psn o st).wrCheck o.wr := by
  unfold State.psnSettle
  simp only [hc, ho]
  rfl

theorem State.psnSettle_absent {c : Conn} {psn : Nat} (hc : s.conns.find id = some c) (ho : c.outs.find psn = none) (st : Status) : s.psnSettle id psn st = s := by
  unfold State.psnSettle
  simp only [hc, ho]

theorem State.settling_req {c : Conn} {psn i : Nat} {o : OutPsn} {w : WorkReq} (hw : s.wrs.find i = some w) (st : Status) :
    (s.settling id c psn o st).wrs.find i = some (if i = o.wr then w.settled st else w) := by
  refine (Tab.find_mapVals ..).trans ?_
  rw [hw, Option.map_some]

theorem State.settling_conn {c : Conn} {psn : Nat} {o : OutPsn} (hc : s.conns.find id = some c) (st : Status) :
    (s.settling id c psn o st).conns.find id = some (s.settled c psn) := State.conn_connMap_same hc _

/-- What a settlement leaves of its connection: only the PSN is no longer outstanding. -/
theorem State.psnSettle_conn {c : Conn} (hc : s.conns.find id = some c) (psn : Nat) (st : Status) : ∃ x, (s.psnSettle id psn st).conns.find id = some x ∧
    x.recvs = c.recvs ∧ x.st = c.st ∧ ∀ q, x.outs.find q = if q = psn then none else c.outs.find q := by
  cases ho : c.outs.find psn with
  | none =>
    rw [State.psnSettle_absent hc ho]
    refine ⟨c, hc, rfl, rfl, fun q => ?_⟩
    by_cases hq : q = psn
    · rw [if_pos hq, hq, ho]
    · rw [if_neg hq]
  | some o =>
    rw [State.psnSettle_eq hc ho]
    obtain ⟨y, hy⟩ := (State.reqsKeep_wrCheck (s.settling id c psn o st) o.wr).conn id _ (State.settling_conn hc st)
    exact ⟨_, hy, rfl, rfl, fun q => Tab.find_erase ..⟩

theorem State.psnSettle_entry {i j : Nat} (h : s.entryOf i j = none) (id psn : Nat) (st : Status) : (s.psnSettle id psn st).entryOf i j = none := by
  cases hc : s.conns.find id with
  | none =>
    have hsame : s.psnSettle id psn st = s := by unfold State.psnSettle; simp only [hc]
    rw [hsame]
    exact h
  | some c =>
    cases ho : c.outs.find psn with
    | none =>
      rw [State.psnSettle_absent hc ho]
      exact h
    | some o =>
      rw [State.psnSettle_eq hc ho]
      exact (State.reqsKeep_wrCheck _ o.wr).entry i j ((State.entryOf_congr rfl ..).trans h)

/-- What a settlement leaves of a request: its entry is over, or it goes on, as it was or with one PSN less and not all settled. -/
theorem State.psnSettle_req {i : Nat} {w : WorkReq} (hw : s.wrs.find i = some w) (id psn : Nat) (st : Status) :
    (s.psnSettle id psn st).entryOf w.list w.idx = none ∨ ∃ v, (s.psnSettle id psn st).wrs.find i = some v ∧ w.like v ∧
      (v.open_ = w.open_ ∨ v.open_ = w.open_ - 1 ∧ ¬ (v.open_ = 0 ∧ w.len ≤ w.sent)) := by
  have hstay : s.psnSettle id psn st = s → (s.psnSettle id psn st).entryOf w.list w.idx = none ∨ ∃ v, (s.psnSettle id psn st).wrs.find i = some v ∧ w.like v ∧
      (v.open_ = w.open_ ∨ v.open_ = w.open_ - 1 ∧ ¬ (v.open_ = 0 ∧ w.len ≤ w.sent)) := fun h => by
    rw [h]
    exact .inr ⟨w, hw, w.like_refl, .inl rfl⟩
  cases hc : s.conns.find id with
  | none => exact hstay (by unfold State.psnSettle; simp only [hc])
  | some c =>
    cases ho : c.outs.find psn with
    | none => exact hstay (State.psnSettle_absent hc ho st)
    | some o =>
      rw [State.psnSettle_eq hc ho]
      have hset := State.settling_req (id := id) (c := c) (psn := psn) (o := o) hw st
      have hkeep := (State.reqsKeep_wrCheck (s.settling id c psn o st) o.wr).req i _ hset
      by_cases hi : i = o.wr
      · rw [if_pos hi] at hset hkeep
        by_cases hd : (w.settled st).open_ = 0 ∧ ((w.settled st).refused = true ∨ w.len ≤ w.sent)
        · rw [hi] at hset
          exact .inl (State.entryOf_wrCheck (w := w.settled st) hset hd)
        · refine hkeep.imp (fun h => h) fun ⟨b, hb⟩ => ⟨_, hb, ⟨rfl, rfl, rfl, rfl, rfl, rfl⟩, .inr ⟨rfl, fun hn => hd ⟨hn.1, .inr hn.2⟩⟩⟩
      · rw [if_neg hi] at hkeep
        exact hkeep.imp (fun h => h) fun ⟨b, hb⟩ => ⟨_, hb, ⟨rfl, rfl, rfl, rfl, rfl, rfl⟩, .inl rfl⟩

/-- The last PSN of a request that is refused, or has nothing more to send, ends it. -/
theorem State.psnSettle_last {c : Conn} {psn : Nat} {o : OutPsn} {w : WorkReq} {st : Status} (hc : s.conns.find id = some c) (ho : c.outs.find psn = some o)
    (hw : s.wrs.find o.wr = some w) (h1 : w.open_ ≤ 1) (h2 : (w.refused = true ∨ st ≠ .ok) ∨ w.len ≤ w.sent) :
    (s.psnSettle id psn st).entryOf w.list w.idx = none := by
  rw [State.psnSettle_eq hc ho]
  have hset := State.settling_req (id := id) (c := c) (psn := psn) (o := o) hw st
  rw [if_pos rfl] at hset
  refine State.entryOf_wrCheck (w := w.settled st) hset ⟨?_, h2.imp (fun h => ?_) fun h => h⟩
  · show w.open_ - 1 = 0
    omega
  · show (w.refused || st != Status.ok) = true
    rcases h with h | h
    · rw [h]
      rfl
    · rw [bne_iff_ne.2 h, Bool.or_true]

end

end Sys2Proof.Machine
end

section
/-! A frame of the remote access protocol comes in: what the first steps of R254 leave. -/

namespace Sys2Proof.Machine

/-- The counters and settings, the ports and the table of nodes have changed, the node's own settings (0x2700) have not. -/
def State.noted (s t : State) : Prop :=
  (∃ od ports nodes, t = { s with od := od, ports := ports, nodes := nodes }) ∧ ∀ j, j < 256 → t.setting 0x2700 j = s.setting 0x2700 j

section

variable {s t u : State} {port : Option PortRx} {fr : OraFrame} {c : Conn} {op : Nat}

theorem State.noted_refl (s : State) : s.noted s := ⟨⟨s.od, s.ports, s.nodes, rfl⟩, fun _ _ => rfl⟩

theorem State.noted.trans (h : s.noted t) (g : t.noted u) : s.noted u := by
  obtain ⟨⟨o1, p1, n1, h1⟩, h2⟩ := h
  obtain ⟨⟨o2, p2, n2, g1⟩, g2⟩ := g
  refine ⟨⟨o2, p2, n2, ?_⟩, fun j hj => (g2 j hj).trans (h2 j hj)⟩
  rw [g1, h1]

theorem State.noted_count (s : State) (w i j n : Nat) (hj : j < 256) (hi : 0x2700 ≠ i) : s.noted (s.count w i j n) :=
  ⟨⟨_, _, _, rfl⟩, fun _ hk => State.setting_count_other s hk hj hi⟩

theorem State.noted_ports (s : State) (ports : Tab Port) : s.noted { s with ports := ports } := ⟨⟨_, _, _, rfl⟩, fun _ _ => rfl⟩

theorem State.noted_nodes (s : State) (nodes : Tab NodeEnt) : s.noted { s with nodes := nodes } := ⟨⟨_, _, _, rfl⟩, fun _ _ => rfl⟩

theorem State.malformed_congr (h : t.setting 0x2700 3 = s.setting 0x2700 3) (fr : OraFrame) : t.malformed fr = s.malformed fr := by
  unfold State.malformed State.maxPayload
  rw [h]

/-- A frame is counted by its port, or leaves the loop (R254). -/
theorem State.noted_arrive (s : State) (port : Option PortRx) (fr : OraFrame) : s.noted (s.arrive port fr) ∧ (s.arrive port fr).nodes = s.nodes ∧
    (s.arrive port fr).setting 0x2802 2 = s.setting 0x2802 2 := by
  cases port with
  | none => exact ⟨s.noted_ports _, rfl, rfl⟩
  | some p =>
    have hp : 0x2820 + p.port.val ≠ 0x2700 ∧ 0x2820 + p.port.val ≠ 0x2802 := by omega
    have hcount : ∀ (x : State) j n, j < 256 → x.noted (x.portCount p.port.val j n) := fun x j n hj => x.noted_count 64 _ j n hj hp.1.symm
    have hset : ∀ (x : State) j n, j < 256 → (x.portCount p.port.val j n).setting 0x2802 2 = x.setting 0x2802 2 := fun x j n hj =>
      State.setting_count_other x (by decide) hj hp.2.symm
    refine ⟨((hcount s 3 1 (by decide)).trans (hcount _ 4 _ (by decide))).trans (hcount _ 6 _ (by decide)), rfl, ?_⟩
    exact (hset _ 6 _ (by decide)).trans ((hset _ 4 _ (by decide)).trans (hset _ 3 _ (by decide)))

/-- The learning of a node that no other port has heard of late is no conflict (R287, R288). -/
theorem State.noted_learn {n q : Nat} (h : (s.nodeOf n).st = .dynamic → (s.nodeOf n).port = q ∨
    ((s.nodeOf n).last < s.now ∧ (s.nodeOf n).last + s.setting 0x2802 2 * psUs ≤ s.now)) : s.noted (s.learn n q) := by
  have hcount : ∀ (x : State) j, j < 256 → x.noted (x.bump64 0x2802 j) := fun x j hj => x.noted_count 64 0x2802 j 1 hj (by decide)
  unfold State.learn
  dsimp only
  split
  · exact s.noted_refl
  · split
    · exact (s.noted_nodes _).trans (hcount _ 6 (by decide))
    next hst =>
      by_cases hq : q = (s.nodeOf n).port
      · rw [if_pos hq]
        exact s.noted_nodes _
      · rw [if_neg hq]
        obtain ⟨h1, h2⟩ := (h hst).resolve_left (Ne.symm hq)
        rw [if_neg (by omega), if_neg (by omega)]
        exact (s.noted_nodes _).trans (hcount _ 7 (by decide))
    · split
      · exact s.noted_refl
      · exact hcount s 9 (by decide)

/-- The state in which a frame that passes the checks takes effect: its credit value has been taken (R260). -/
def State.heard (s : State) (port : Option PortRx) (fr : OraFrame) : State :=
  State.connMap (match port with
    | some p => ((s.arrive port fr).bump64 0x2702 2).learn fr.srcNode.toNat p.port.val
    | none => (s.arrive port fr).bump64 0x2702 2) fr.dstConn.toNat fun x => x.creditIn fr.credit.toNat

theorem State.noted_heard (h : s.frameIn port fr op c) : ∃ y, s.noted y ∧ s.heard port fr = y.connMap fr.dstConn.toNat fun x => x.creditIn fr.credit.toNat := by
  obtain ⟨-, -, -, -, -, -, -, -, -, hlearn⟩ := h
  obtain ⟨h1, h2, h3⟩ := s.noted_arrive port fr
  have ha : s.noted ((s.arrive port fr).bump64 0x2702 2) := h1.trans (State.noted_count _ 64 0x2702 2 1 (by decide) (by decide))
  cases port with
  | none => exact ⟨_, ha, rfl⟩
  | some p =>
    obtain ⟨a, hx⟩ : ∃ a, a = s.arrive (some p) fr := ⟨_, rfl⟩
    rw [← hx] at h2 h3 ha
    have hnode : (a.bump64 0x2702 2).nodeOf fr.srcNode.toNat = s.nodeOf fr.srcNode.toNat := by
      unfold State.nodeOf
      show (a.nodes.get node0 _) = _
      rw [h2]
    have hset : (a.bump64 0x2702 2).setting 0x2802 2 = s.setting 0x2802 2 := (State.setting_count_other a (by decide) (by decide) (by decide)).trans h3
    have hnow : (a.bump64 0x2702 2).now = s.now := by
      obtain ⟨⟨_, _, _, hn⟩, -⟩ := ha
      rw [hn]
    refine ⟨_, ha.trans (State.noted_learn (n := fr.srcNode.toNat) (q := p.port.val) ?_), by rw [hx]; rfl⟩
    rw [hnode, hset, hnow]
    exact hlearn p rfl

/-- A frame that comes in and passes the checks goes on to its own effect (R254). -/
theorem State.oraFrame_heard (h : s.frameIn port fr op c) (f : State → Nat → Conn → State) :
    s.oraFrame port fr op f = .next (f (s.heard port fr) fr.dstConn.toNat (c.creditIn fr.credit.toNat)) := by
  obtain ⟨hop, harr, hmal, hnode, hc, hst, hpn, hpc, hkey, -⟩ := h
  obtain ⟨h1, -, -⟩ := s.noted_arrive port fr
  obtain ⟨⟨o1, p1, n1, he⟩, hset⟩ := h1
  obtain ⟨a, hx⟩ : ∃ a, a = s.arrive port fr := ⟨_, rfl⟩
  rw [← hx] at he hset
  refine (whenDue_true (by rw [hop, harr]; simp) _ _).trans (congrArg Host.Outcome.next ?_)
  have hown : a.ownNode = s.ownNode := hset 1 (by decide)
  have hjob : (a.jobOf c.job).key = fr.key.toNat := by rw [he]; exact hkey.symm
  have hac : a.conns.find fr.dstConn.toNat = some c := by rw [he]; exact hc
  unfold State.heard
  rw [← hx]
  unfold State.oraChecks
  dsimp only
  rw [if_neg (by rw [State.malformed_congr (hset 3 (by decide)), hmal]; decide), if_neg (by rw [hown, hnode]; exact fun hn => hn rfl)]
  simp only [hac]
  rw [if_neg (by rw [hst, hpn, hpc]; simp), if_neg (by rw [hjob]; exact fun hn => hn rfl), if_neg (by rw [hst]; decide)] <;> rfl

/-! ### The state and the connection that a frame meets -/

theorem Conn.creditIn_eq (c : Conn) (v : Nat) : c.creditIn v = { c with lp := (c.creditIn v).lp } := by
  unfold Conn.creditIn
  dsimp only
  split <;> rfl

/-- Beside counters, ports, nodes and connections everything is as it was. -/
theorem State.heard_form (h : s.frameIn port fr op c) :
    (∃ od ports nodes conns, s.heard port fr = { s with od := od, ports := ports, nodes := nodes, conns := conns }) ∧
      (s.heard port fr).conns.find fr.dstConn.toNat = some (c.creditIn fr.credit.toNat) ∧
      (∀ i, i ≠ fr.dstConn.toNat → (s.heard port fr).conns.find i = s.conns.find i) ∧
      ∀ j, j < 256 → (s.heard port fr).setting 0x2700 j = s.setting 0x2700 j := by
  obtain ⟨y, ⟨⟨od, ports, nodes, hy⟩, hset⟩, hx⟩ := State.noted_heard h
  obtain ⟨-, -, -, -, hc, -⟩ := h
  have hyc : y.conns = s.conns := by rw [hy]
  refine ⟨⟨od, ports, nodes, (s.heard port fr).conns, ?_⟩, ?_, fun i hi => ?_, fun j hj => ?_⟩
  · rw [hx, hy]
    rfl
  · rw [hx]
    exact State.conn_connMap_same (hyc ▸ hc) _
  · rw [hx, State.conn_connMap_other hi, hyc]
  · rw [hx]
    exact (State.setting_congr (s := y) rfl ..).trans (hset j hj)

end

end Sys2Proof.Machine
end

section
/-! Frames that answer a connection's requests, and O37. -/

namespace Sys2Proof.Machine

section

variable {s : State} {port : Option PortRx} {fr : OraFrame} {c : Conn} {op : Nat}

/-! ### Responses (R265, R266) -/

/-- The fields that a response may change. -/
def responseFields : List Field :=
  entryFields ++ ([.hostA, .hostB, .frames, .can, .absentEmcy, .suspects, .tiles, .conns, .wrs, .ctrs, .ports, .nodes] : List Field)

theorem Conn.answeredBy_creditIn (c : Conn) (v : Nat) (fr : OraFrame) : (c.creditIn v).answeredBy fr = c.answeredBy fr := by
  obtain ⟨x, hx⟩ : ∃ x, c.creditIn v = { c with lp := x } := ⟨_, c.creditIn_eq v⟩
  rw [hx]
  rfl

/-- What a response comes to, in the state that it meets. -/
theorem State.responseIn_heard {o : OutPsn} {w : WorkReq} {k : Conn} (h : s.frameIn port fr op c) (hans : k.answeredBy fr = some o) (hw : s.wrs.find o.wr = some w)
    (hf : (s.copyKeys (w.loc + o.off) (w.loc + o.off)).any s.fencedAt = false) :
    ∃ x, x = s.heard port fr ∧ x.responseIn fr.dstConn.toNat k fr =
      if s.copyWaits (w.loc + o.off) (respData fr).length then
        (x.copyStall (w.loc + o.off) (respData fr).length).connMap fr.dstConn.toNat fun x => { x with late := (x.late.filter fun f => f.psn != fr.psn) ++ [fr] }
      else if s.localBad (w.loc + o.off) (respData fr).length true then x.psnSettle fr.dstConn.toNat fr.psn.toNat .badCommand
      else State.psnSettle (if (segsIn (w.loc + o.off) (respData fr).length).all (fun g => s.dram.get false g) then x.copyWrite (w.loc + o.off) (respData fr)
        else x.discard (respData fr).length) fr.dstConn.toNat fr.psn.toNat .ok := by
  obtain ⟨⟨od, ports, nodes, conns, hx⟩, -, -, -⟩ := State.heard_form h
  refine ⟨s.heard port fr, rfl, ?_⟩
  generalize s.heard port fr = x at hx ⊢
  have hxw : x.wrs.find o.wr = some w := by rw [hx]; exact hw
  have h1 : x.respWaits o fr = s.copyWaits (w.loc + o.off) (respData fr).length := by
    unfold State.respWaits
    rw [hxw, Option.any_some, hx]
    rfl
  have h2 : x.localBad (w.loc + o.off) (respData fr).length true = s.localBad (w.loc + o.off) (respData fr).length true := by rw [hx]; rfl
  have h3 : (x.copyKeys (w.loc + o.off) (w.loc + o.off)).any x.fencedAt = false := by rw [hx]; exact hf
  have h4 : x.dram = s.dram := by rw [hx]
  unfold State.responseIn
  simp only [hans, h1]
  by_cases hwait : s.copyWaits (w.loc + o.off) (respData fr).length = true
  · rw [if_pos hwait, if_pos hwait]
    simp only [hxw]
  · rw [if_neg hwait, if_neg hwait]
    unfold State.response
    simp only [hxw]
    rw [if_neg (by rw [h3]; decide), h2, h4]
    by_cases hbad : s.localBad (w.loc + o.off) (respData fr).length true = true
    · rw [if_pos hbad, if_pos hbad]
    · rw [if_neg hbad, if_neg hbad]
      by_cases hall : (segsIn (w.loc + o.off) (respData fr).length).all (fun g => s.dram.get false g) = true
      · rw [if_pos hall, if_pos hall]
      · rw [if_neg hall, if_neg hall]

section

variable {o : OutPsn} {w : WorkReq} {i : Instr}

/-- A frame that carries the answer to PSN `fr.psn`. -/
structure State.answersWith (s : State) (i : Instr) (port : Option PortRx) (fr : OraFrame) (op : Nat) (c : Conn) (o : OutPsn) (w : WorkReq) : Prop where
  exec : exec i s = s.oraFrame port fr op fun x id c => x.responseIn id c fr
  step : StepO 75277125092658352 s (Machine.exec i s)
  frame : s.frameIn port fr op c
  by_ : c.answeredBy fr = some o
  awaits : s.awaits c fr.psn.toNat o w
  free : (s.copyKeys (w.loc + o.off) (w.loc + o.off)).any s.fencedAt = false

theorem completes_response_waits (h : s.answersWith i port fr op c o w) (hwait : s.copyWaits (w.loc + o.off) (respData fr).length = true) :
    completes i s responseFields fun t => ∃ x, t.conns.find fr.dstConn.toNat = some x ∧ x.outs = c.outs ∧ fr ∈ x.late := by
  obtain ⟨x, hx, hres⟩ := State.responseIn_heard h.frame ((c.answeredBy_creditIn fr.credit.toNat fr).trans h.by_) h.awaits.2 h.free
  obtain ⟨-, hconn, -, -⟩ := State.heard_form h.frame
  rw [← hx] at hconn
  rw [if_pos hwait] at hres
  have hstall := (State.copyStall_step (x1 := w.loc + o.off) (x2 := (respData fr).length) (Step.refl 137443147776 x) (by decide)).conns (by decide)
  refine completes_of (h.exec.trans ((State.oraFrame_heard h.frame _).trans (congrArg Host.Outcome.next (by rw [← hx]; exact hres)))) h.step (by decide)
    ⟨_, State.conn_connMap_same (hstall ▸ hconn) _, ?_, List.mem_append_right _ List.mem_cons_self⟩
  rw [c.creditIn_eq]

/-- A settlement's connection, as `outsBut` describes it. -/
theorem State.outsBut_psnSettle {x : State} {id v psn : Nat} (hc : x.conns.find id = some (c.creditIn v)) (st : Status) :
    (x.psnSettle id psn st).outsBut c id (· = psn) := by
  obtain ⟨y, hy, -, -, ho⟩ := State.psnSettle_conn hc psn st
  rw [c.creditIn_eq v] at ho
  exact ⟨y, hy, fun q => ⟨fun hq => by rw [ho, if_pos hq], fun hq => by rw [ho, if_neg hq]⟩⟩

theorem completes_response_bad (h : s.answersWith i port fr op c o w) (hwait : s.copyWaits (w.loc + o.off) (respData fr).length = false)
    (hbad : s.localBad (w.loc + o.off) (respData fr).length true = true) :
    completes i s responseFields fun t => t.outsBut c fr.dstConn.toNat (· = fr.psn.toNat) ∧ (w.open_ = 1 → t.entryOf w.list w.idx = none) := by
  obtain ⟨x, hx, hres⟩ := State.responseIn_heard h.frame ((c.answeredBy_creditIn fr.credit.toNat fr).trans h.by_) h.awaits.2 h.free
  obtain ⟨⟨od, ports, nodes, conns, hform⟩, hconn, -, -⟩ := State.heard_form h.frame
  rw [← hx] at hform hconn
  rw [if_neg (by rw [hwait]; decide), if_pos hbad] at hres
  have hxw : x.wrs.find o.wr = some w := by rw [hform]; exact h.awaits.2
  refine completes_of (h.exec.trans ((State.oraFrame_heard h.frame _).trans (congrArg Host.Outcome.next (by rw [← hx]; exact hres)))) h.step (by decide)
    ⟨State.outsBut_psnSettle hconn _, fun ho => State.psnSettle_last hconn (o := o) ?_ hxw (by omega) (.inl (.inr (by decide)))⟩
  rw [c.creditIn_eq]
  exact h.awaits.1

theorem completes_response_taken (h : s.answersWith i port fr op c o w) (hwait : s.copyWaits (w.loc + o.off) (respData fr).length = false)
    (hgood : s.localBad (w.loc + o.off) (respData fr).length true = false) :
    completes i s responseFields fun t => s.answered t o w (w.loc + o.off) (respData fr) ∧ t.outsBut c fr.dstConn.toNat (· = fr.psn.toNat) := by
  obtain ⟨x, hx, hres⟩ := State.responseIn_heard h.frame ((c.answeredBy_creditIn fr.credit.toNat fr).trans h.by_) h.awaits.2 h.free
  obtain ⟨⟨od, ports, nodes, conns, hform⟩, hconn, -, -⟩ := State.heard_form h.frame
  rw [← hx] at hform hconn
  rw [if_neg (by rw [hwait]; decide), if_neg (by rw [hgood]; decide)] at hres
  obtain ⟨y, hy⟩ : ∃ y, y = if (segsIn (w.loc + o.off) (respData fr).length).all (fun g => s.dram.get false g) then x.copyWrite (w.loc + o.off) (respData fr)
    else x.discard (respData fr).length := ⟨_, rfl⟩
  rw [← hy] at hres
  have hstep : Step 17734932627456 x y := by
    rw [hy]
    exact Step.ite (fun _ => State.copyWrite_step (Step.refl _ x) (by decide)) fun _ => State.discard_step (Step.refl _ x) (by decide)
  have hyc : y.conns.find fr.dstConn.toNat = some (c.creditIn fr.credit.toNat) := by rw [hstep.conns (by decide)]; exact hconn
  have hyw : y.wrs.find o.wr = some w := by rw [hstep.wrs (by decide), hform]; exact h.awaits.2
  have hyo : (c.creditIn fr.credit.toNat).outs.find fr.psn.toNat = some o := by rw [c.creditIn_eq]; exact h.awaits.1
  refine completes_of (h.exec.trans ((State.oraFrame_heard h.frame _).trans (congrArg Host.Outcome.next (by rw [← hx]; exact hres)))) h.step (by decide)
    ⟨⟨fun hd => State.psnSettle_last hyc hyo hyw (by omega) (hd.2.imp .inl fun h => h), fun hans hn => ?_⟩, State.outsBut_psnSettle hyc _⟩
  have hset := State.settling_req (s := y) (id := fr.dstConn.toNat) (c := c.creditIn fr.credit.toNat) (psn := fr.psn.toNat) (o := o) hyw .ok
  rw [if_pos rfl] at hset
  have hsame : (w.settled .ok).refused = w.refused := Bool.or_false _
  have hgo : ¬ ((w.settled .ok).open_ = 0 ∧ ((w.settled .ok).refused = true ∨ (w.settled .ok).len ≤ (w.settled .ok).sent)) := fun hd => hn
    ⟨by have h0 : w.open_ - 1 = 0 := hd.1
        omega, hsame ▸ hd.2⟩
  rw [State.psnSettle_eq hyc hyo, State.wrCheck_goesOn hset hgo]
  refine ⟨?_, _, hset, rfl, hsame⟩
  obtain ⟨h1, h2, h3⟩ := hans
  have htier : y.tier1 = s.tier1.writeBytes (w.loc + o.off) (respData fr) := by
    have hxt : x.copyTile (w.loc + o.off) = none := by rw [hform]; exact h1
    rw [hy, if_pos h3]
    unfold State.copyWrite
    rw [hxt]
    dsimp only
    rw [State.tierWrite_sound (by rw [hform]; exact h2), hform]
  exact htier

end

/-! ### Acknowledgements (R273) -/

/-- The PSNs that an acknowledgement settles, in order. -/
def ackList (c : Conn) (f : OraFrame) : List Nat :=
  c.order.filter fun p => !(f.opcode.toNat == 9 && f.psn.toNat == p) && covers (f.apsn.toNat % 2 ^ 24) f.operand1.toNat p && match c.outs.find p with
    | some o => o.op == 1 || o.op == 2
    | none => false

theorem mem_ackList (c : Conn) (f : OraFrame) (q : Nat) : q ∈ ackList c f ↔ ackHits c f q := by
  unfold ackList ackHits
  rw [List.mem_filter]
  cases c.outs.find q <;> simp [and_assoc, imp_iff_not_or]

theorem ackList_creditIn (c : Conn) (v : Nat) (f : OraFrame) : ackList (c.creditIn v) f = ackList c f := by
  obtain ⟨x, hx⟩ : ∃ x, c.creditIn v = { c with lp := x } := ⟨_, c.creditIn_eq v⟩
  rw [hx]
  rfl

theorem State.acknowledge_eq {x : State} {id : Nat} (hc : x.conns.find id = some c)
    (h : psnDist (fr.apsn.toNat % 2 ^ 24) (psnAdd c.nextPsn (2 ^ 24 - 1)) ≤ 0) :
    x.acknowledge id fr = each (ackList c fr) (fun x p => x.psnSettle id p .ok) x := by
  unfold State.acknowledge
  simp only [hc]
  exact if_neg (by omega)

/-- What settling several PSNs leaves of their connection. -/
theorem State.psnSettles_conn {id : Nat} (l : List Nat) : ∀ {x : State} {c : Conn}, x.conns.find id = some c →
    ∃ y, (each l (fun x p => x.psnSettle id p .ok) x).conns.find id = some y ∧ y.recvs = c.recvs ∧ y.st = c.st ∧
      ∀ q, y.outs.find q = if q ∈ l then none else c.outs.find q := by
  induction l with
  | nil => exact fun h => ⟨_, h, rfl, rfl, fun q => (if_neg List.not_mem_nil).symm⟩
  | cons a l ih =>
    intro x c h
    obtain ⟨z, hz, h1, h2, h3⟩ := State.psnSettle_conn h a .ok
    obtain ⟨y, hy, k1, k2, k3⟩ := ih hz
    refine ⟨y, hy, k1.trans h1, k2.trans h2, fun q => ?_⟩
    rw [k3, h3]
    by_cases hl : q ∈ l
    · rw [if_pos hl, if_pos (List.mem_cons_of_mem _ hl)]
    · by_cases ha : q = a
      · rw [if_neg hl, if_pos ha, if_pos (ha ▸ List.mem_cons_self)]
      · rw [if_neg hl, if_neg ha, if_neg (by simp [ha, hl])]

theorem State.psnSettles_entry {id i j : Nat} (l : List Nat) {x : State} (h : x.entryOf i j = none) :
    (each l (fun x p => x.psnSettle id p .ok) x).entryOf i j = none :=
  State.entryOf_none_each l (fun _ p hu => State.psnSettle_entry hu id p .ok) h

/-- What settling several PSNs leaves of a request. -/
theorem State.psnSettles_req {id i : Nat} (l : List Nat) : ∀ {x : State} {w : WorkReq}, x.wrs.find i = some w →
    (each l (fun x p => x.psnSettle id p .ok) x).entryOf w.list w.idx = none ∨
      ∃ v, (each l (fun x p => x.psnSettle id p .ok) x).wrs.find i = some v ∧ w.like v ∧ v.open_ ≤ w.open_ := by
  induction l with
  | nil => exact fun h => .inr ⟨_, h, WorkReq.like_refl _, le_rfl⟩
  | cons a l ih =>
    intro x w h
    rcases State.psnSettle_req h id a .ok with hn | ⟨v, hv, hl, ho⟩
    · exact .inl (State.psnSettles_entry l hn)
    · have ih := ih hv
      rw [hl.list, hl.idx] at ih
      rcases ih with hn | ⟨u, hu, hl', ho'⟩
      · exact .inl hn
      · exact .inr ⟨u, hu, hl.trans hl', by omega⟩

/-- The request of a PSN that is settled, with that PSN its last, is over. -/
theorem State.psnSettles_last {id q : Nat} {o : OutPsn} {l : List Nat} (hq : q ∈ l) : ∀ {x : State} {c : Conn} {w : WorkReq}, x.conns.find id = some c →
    c.outs.find q = some o → x.wrs.find o.wr = some w → w.open_ = 1 → w.len ≤ w.sent →
    (each l (fun x p => x.psnSettle id p .ok) x).entryOf w.list w.idx = none := by
  induction l with
  | nil => exact absurd hq List.not_mem_nil
  | cons a l ih =>
    intro x c w hc ho hw h1 h2
    by_cases ha : q = a
    · subst ha
      exact State.psnSettles_entry l (State.psnSettle_last hc ho hw (by omega) (.inr h2))
    · rcases State.psnSettle_req hw id a .ok with hn | ⟨v, hv, hl, hopen⟩
      · exact State.psnSettles_entry l hn
      · have hv1 : v.open_ = 1 := (hopen.resolve_right fun hn => hn.2 ⟨by omega, h2⟩).trans h1
        obtain ⟨z, hz, -, -, h3⟩ := State.psnSettle_conn hc a .ok
        have hgoal := ih ((List.mem_cons.1 hq).resolve_left ha) hz (by rw [h3, if_neg ha]; exact ho) hv hv1 (by rw [hl.len, hl.sent]; exact h2)
        rw [hl.list, hl.idx] at hgoal
        exact hgoal

end

end Sys2Proof.Machine
end

section
/-! Acknowledgements, refusals and credits that come in, and O37. -/

namespace Sys2Proof.Machine

section

variable {s : State} {port : Option PortRx} {fr : OraFrame} {c : Conn}

/-- A frame that waits in a queue changes no route. -/
theorem State.route_enqueue (s : State) (p cls : Nat) (f : QFrame) (c : Conn) : (s.enqueue p cls f).route c = s.route c := by
  have hlink : ∀ q, ((s.enqueue p cls f).portOf q).link = (s.portOf q).link := fun q => by
    obtain ⟨h1, h2⟩ := State.portOf_of_set (s := s) (t := s.enqueue p cls f) (p := p) rfl
    by_cases hq : q = p
    · rw [hq, h1]
    · rw [h2 q hq]
  unfold State.route
  dsimp only
  rw [hlink]
  rfl

theorem State.route_sendOra (s : State) (id : Nat) (shaped : Bool) (f : OraFrame) (c : Conn) : (s.sendOra id shaped f).route c = s.route c := by
  unfold State.sendOra
  split
  · rfl
  · rw [State.route_enqueue, State.route_sent _ _ (by decide)]
    exact State.route_congr (s := s) rfl rfl (State.ownNode_congr rfl) c

theorem State.route_sendCredit (s : State) (id : Nat) (solicit : Bool) (c : Conn) : (s.sendCredit id solicit).route c = s.route c := by
  unfold State.sendCredit
  split
  · rfl
  · exact State.route_sendOra ..

/-- The fields that an acknowledgement or a refusal may change. -/
def ackFields : List Field :=
  entryFields ++ ([.hostA, .hostB, .frames, .can, .absentEmcy, .conns, .wrs, .ctrs, .ports, .nodes] : List Field)

/-- An acknowledgement in the state that it meets. -/
theorem State.acknowledge_heard {op : Nat} (h : s.frameIn port fr op c) (hd : psnDist (fr.apsn.toNat % 2 ^ 24) (psnAdd c.nextPsn (2 ^ 24 - 1)) ≤ 0) :
    (s.heard port fr).acknowledge fr.dstConn.toNat fr = each (ackList c fr) (fun x p => x.psnSettle fr.dstConn.toNat p .ok) (s.heard port fr) := by
  obtain ⟨-, hconn, -, -⟩ := State.heard_form h
  obtain ⟨l, hl⟩ : ∃ l, c.creditIn fr.credit.toNat = { c with lp := l } := ⟨_, c.creditIn_eq _⟩
  rw [hl] at hconn
  exact State.acknowledge_eq (c := { c with lp := l }) hconn hd

/-- What an acknowledgement leaves of the connection. -/
theorem State.acknowledged_conn {op : Nat} (h : s.frameIn port fr op c) (hd : psnDist (fr.apsn.toNat % 2 ^ 24) (psnAdd c.nextPsn (2 ^ 24 - 1)) ≤ 0) :
    ∃ y, ((s.heard port fr).acknowledge fr.dstConn.toNat fr).conns.find fr.dstConn.toNat = some y ∧ y.recvs = c.recvs ∧ y.st = c.st ∧
      ∀ q, (ackHits c fr q → y.outs.find q = none) ∧ (¬ ackHits c fr q → y.outs.find q = c.outs.find q) := by
  obtain ⟨-, hconn, -, -⟩ := State.heard_form h
  obtain ⟨l, hl⟩ : ∃ l, c.creditIn fr.credit.toNat = { c with lp := l } := ⟨_, c.creditIn_eq _⟩
  rw [hl] at hconn
  obtain ⟨y, hy, h1, h2, h3⟩ := State.psnSettles_conn (ackList c fr) hconn
  rw [State.acknowledge_heard h hd]
  refine ⟨y, hy, h1, h2, fun q => ⟨fun hq => ?_, fun hq => ?_⟩⟩
  · rw [h3, if_pos ((mem_ackList c fr q).2 hq)]
  · rw [h3, if_neg fun hn => hq ((mem_ackList c fr q).1 hn)]

theorem completes_oraAckFrame (h : s.frameIn port fr 8 c) (hd : psnDist (fr.apsn.toNat % 2 ^ 24) (psnAdd c.nextPsn (2 ^ 24 - 1)) ≤ 0) :
    completes (.oraAckFrame port fr) s ackFields fun t => t.outsBut c fr.dstConn.toNat (ackHits c fr) ∧
      ∀ q o w, ackHits c fr q → s.awaits c q o w → w.open_ = 1 → w.len ≤ w.sent → t.entryOf w.list w.idx = none := by
  have hexec : exec (.oraAckFrame port fr) s = .next ((s.heard port fr).acknowledge fr.dstConn.toNat fr) := State.oraFrame_heard h fun x id _ => x.acknowledge id fr
  obtain ⟨⟨od, ports, nodes, conns, hform⟩, hconn, -, -⟩ := State.heard_form h
  obtain ⟨y, hy, -, -, ho⟩ := State.acknowledged_conn h hd
  refine completes_of hexec (exec_oraAckFrame s) (by decide) ⟨⟨y, hy, ho⟩, fun q o w hq ha h1 h2 => ?_⟩
  obtain ⟨l, hl⟩ : ∃ l, c.creditIn fr.credit.toNat = { c with lp := l } := ⟨_, c.creditIn_eq _⟩
  rw [hl] at hconn
  rw [State.acknowledge_heard h hd]
  exact State.psnSettles_last ((mem_ackList c fr q).2 hq) hconn ha.1 (by rw [hform]; exact ha.2) h1 h2

/-! ### Refusals (R276, R277) -/

/-- A connection in ERROR: nothing of it is outstanding, and its work is over. -/
theorem State.connError_outcome {id : Nat} (h : s.conns.find id = some c) (syn psn : Nat) :
    (∃ x, (s.connError id syn psn).conns.find id = some x ∧ x.st = .error ∧ x.outs = .empty ∧ x.sendq = []) ∧
      (∀ i j, s.entryOf i j = none → (s.connError id syn psn).entryOf i j = none) ∧
      (∀ r ∈ c.recvs, r.done = false → (s.connError id syn psn).entryOf r.list r.idx = none) ∧
      ∀ i w, s.wrs.find i = some w → w.conn = id → w.op ≠ 11 → (s.connError id syn psn).entryOf w.list w.idx = none := by
  have hst : Status.seqError ≠ .ok := by decide
  obtain ⟨a, ha⟩ : ∃ a, a = (s.connEnd id .seqError 0x0844).connMap id fun x => { x with st := .error, ackAt := none } := ⟨_, rfl⟩
  have herr : s.connError id syn psn = ((a.bump64 0x2702 0xA).fire 0x0844 id 0).event (s.connOwner c) 0xFF40 0x0844 s.stamp
      (natLe 2 id ++ natLe 1 syn ++ natLe 3 psn) := by
    unfold State.connError
    simp only [h]
    rw [ha]
  have hstep : Step 72075187236635824 a (s.connError id syn psn) := by
    rw [herr]
    exact State.event_step (State.fire_step (State.bump64_step (Step.refl _ a) (by decide)) (by decide)) (by decide)
  have hend := State.connEnd_conns hst s id 0x0844 id
  rw [h, Option.map_some, if_pos rfl] at hend
  have hentry : ∀ {i j : Nat}, (s.connEnd id .seqError 0x0844).entryOf i j = none → (s.connError id syn psn).entryOf i j = none := fun hn =>
    (State.entryOf_congr (hstep.lists (by decide)) ..).trans (by rw [ha]; exact (State.entryOf_congr rfl ..).trans hn)
  refine ⟨?_, fun i j hn => hentry (State.entryOf_none_connEnd hst hn id 0x0844), fun r hr hd => hentry (State.connEnd_recvs hst h hr hd 0x0844),
    fun i w hw hc hop => hentry (State.connEnd_reqs hst hw hc hop 0x0844)⟩
  rw [hstep.conns (by decide), ha]
  exact ⟨_, State.conn_connMap_same hend _, rfl, rfl, rfl⟩

theorem nakStatus_ne_ok (syn : Nat) : nakStatus syn ≠ .ok := by
  unfold nakStatus
  split
  · decide
  · split
    · decide
    · split <;> decide

section

variable {o : OutPsn} {w : WorkReq}

/-- What a refusal of a PSN comes to, after the acknowledgement that it carries. -/
theorem exec_oraNakFrame_next (h : s.frameIn port fr 9 c) (ha : s.awaits c fr.psn.toNat o w)
    (hd : psnDist (fr.apsn.toNat % 2 ^ 24) (psnAdd c.nextPsn (2 ^ 24 - 1)) ≤ 0) :
    ∃ a y, a = (s.heard port fr).acknowledge fr.dstConn.toNat fr ∧ a.conns.find fr.dstConn.toNat = some y ∧ y.outs.find fr.psn.toNat = some o ∧
      y.recvs = c.recvs ∧ y.st = .opened ∧
      (∀ q, q ≠ fr.psn.toNat → (ackHits c fr q → y.outs.find q = none) ∧ (¬ ackHits c fr q → y.outs.find q = c.outs.find q)) ∧
      exec (.oraNakFrame port fr) s = .next (
        if fr.apsn.toNat / 2 ^ 24 = 3 then
          (a.connMap fr.dstConn.toNat fun _ => { y with
            outs := y.outs.set fr.psn.toNat { o with rnrAt := some s.now }
            timerAt := if (y.outs.set fr.psn.toNat { o with rnrAt := some s.now }).vals.any (fun z => z.rnrAt.isNone) then y.timerAt else none }).bump64 0x2702 0xD
        else if fr.apsn.toNat / 2 ^ 24 = 4 ∨ fr.apsn.toNat / 2 ^ 24 = 6 ∨ fr.apsn.toNat / 2 ^ 24 = 7 then
          a.connError fr.dstConn.toNat (fr.apsn.toNat / 2 ^ 24) fr.psn.toNat
        else a.psnSettle fr.dstConn.toNat fr.psn.toNat (nakStatus (fr.apsn.toNat / 2 ^ 24))) := by
  obtain ⟨y, hy, h1, h2, h3⟩ := State.acknowledged_conn h hd
  have hp : ¬ ackHits c fr fr.psn.toNat := fun hn => hn.2.1 ⟨h.1, rfl⟩
  have hout : y.outs.find fr.psn.toNat = some o := ((h3 fr.psn.toNat).2 hp).trans ha.1
  obtain ⟨⟨od, ports, nodes, conns, hform⟩, -, -, -⟩ := State.heard_form h
  have hnow : (s.heard port fr).now = s.now := by rw [hform]
  refine ⟨_, y, rfl, hy, hout, h1, h2.trans h.2.2.2.2.2.1, fun q _ => h3 q, ?_⟩
  refine (State.oraFrame_heard h _).trans (congrArg Host.Outcome.next ?_)
  simp only [hy, Option.bind_some, hout, Option.map_some, hnow]

theorem completes_oraNakFrame (h : s.frameIn port fr 9 c) (ha : s.awaits c fr.psn.toNat o w)
    (hd : psnDist (fr.apsn.toNat % 2 ^ 24) (psnAdd c.nextPsn (2 ^ 24 - 1)) ≤ 0) :
    completes (.oraNakFrame port fr) s ackFields fun t =>
      (fr.apsn.toNat / 2 ^ 24 = 3 →
        ∃ x, t.conns.find fr.dstConn.toNat = some x ∧ x.st = .opened ∧ x.outs.find fr.psn.toNat = some { o with rnrAt := some s.now }) ∧
      (fr.apsn.toNat / 2 ^ 24 = 4 ∨ fr.apsn.toNat / 2 ^ 24 = 6 ∨ fr.apsn.toNat / 2 ^ 24 = 7 →
        (∃ x, t.conns.find fr.dstConn.toNat = some x ∧ x.st = .error ∧ x.outs = .empty ∧ x.sendq = []) ∧
        (∀ r ∈ c.recvs, r.done = false → t.entryOf r.list r.idx = none) ∧
        ∀ i v, s.wrs.find i = some v → v.conn = fr.dstConn.toNat → v.op ≠ 11 → t.entryOf v.list v.idx = none) ∧
      (fr.apsn.toNat / 2 ^ 24 ≠ 3 → fr.apsn.toNat / 2 ^ 24 ≠ 4 → fr.apsn.toNat / 2 ^ 24 ≠ 6 → fr.apsn.toNat / 2 ^ 24 ≠ 7 →
        t.outsBut c fr.dstConn.toNat (fun q => ackHits c fr q ∨ q = fr.psn.toNat) ∧ (w.open_ = 1 → t.entryOf w.list w.idx = none)) := by
  obtain ⟨a, y, hack, hy, hout, hrecv, hst, hothers, hexec⟩ := exec_oraNakFrame_next h ha hd
  obtain ⟨⟨od, ports, nodes, conns, hform⟩, -, -, -⟩ := State.heard_form h
  rw [State.acknowledge_heard h hd] at hack
  have hreq : ∀ {i : Nat} {v : WorkReq}, s.wrs.find i = some v → a.entryOf v.list v.idx = none ∨ ∃ u, a.wrs.find i = some u ∧ v.like u ∧ u.open_ ≤ v.open_ := fun hv => by
    rw [hack]
    exact State.psnSettles_req (ackList c fr) (by rw [hform]; exact hv)
  generalize fr.apsn.toNat / 2 ^ 24 = syn at *
  by_cases h3 : syn = 3
  · rw [if_pos h3] at hexec
    refine completes_of hexec (exec_oraNakFrame s) (by decide) ⟨fun _ => ⟨_, State.conn_connMap_same hy _, hst, Tab.find_set_same ..⟩,
      fun hn => by omega, fun hn => absurd h3 hn⟩
  · rw [if_neg h3] at hexec
    by_cases hE : syn = 4 ∨ syn = 6 ∨ syn = 7
    · rw [if_pos hE] at hexec
      obtain ⟨k1, k2, k3, k4⟩ := State.connError_outcome hy syn fr.psn.toNat
      refine completes_of hexec (exec_oraNakFrame s) (by decide) ⟨fun hn => absurd hn h3, fun _ => ⟨k1, hrecv ▸ k3, fun i v hv hc hop => ?_⟩, fun _ _ _ _ => by omega⟩
      rcases hreq hv with hn | ⟨u, hu, hl, -⟩
      · exact k2 _ _ hn
      · have hover := k4 i u hu (hl.conn.trans hc) (by rw [hl.op]; exact hop)
        rw [hl.list, hl.idx] at hover
        exact hover
    · rw [if_neg hE] at hexec
      refine completes_of hexec (exec_oraNakFrame s) (by decide) ⟨fun hn => absurd hn h3, fun hn => absurd hn hE, fun _ _ _ _ => ⟨?_, fun hopen => ?_⟩⟩
      · obtain ⟨z, hz, -, -, ho⟩ := State.psnSettle_conn hy fr.psn.toNat (nakStatus syn)
        refine ⟨z, hz, fun q => ?_⟩
        rw [ho]
        by_cases hq : q = fr.psn.toNat
        · rw [if_pos hq]
          exact ⟨fun _ => rfl, fun hn => absurd (.inr hq) hn⟩
        · rw [if_neg hq]
          obtain ⟨k1, k2⟩ := hothers q hq
          exact ⟨fun hn => k1 (hn.resolve_right hq), fun hn => k2 fun hk => hn (.inl hk)⟩
      · rcases hreq ha.2 with hn | ⟨u, hu, hl, hle⟩
        · exact State.psnSettle_entry hn ..
        · have hover := State.psnSettle_last hy hout hu (by omega) (.inl (.inr (nakStatus_ne_ok syn)))
          rw [hl.list, hl.idx] at hover
          exact hover

end

/-! ### Credit (R260, R261) -/

theorem completes_oraCreditFrame (h : s.frameIn port fr 10 c) :
    completes (.oraCreditFrame port fr) s [.hostA, .hostB, .cq, .pba, .tier1, .granules, .tier1Bad, .od, .can,
        .det, .log, .logMade, .faultBuffer, .absentEmcy, .segCtr, .conns, .ports, .nodes, .out] fun t =>
      (∃ x, t.conns.find fr.dstConn.toNat = some x ∧ x.lp = (c.creditIn fr.credit.toNat).lp ∧ x.granted = c.granted) ∧
      (frSolicit fr = true → t.queued (t.route c) c.cls fr.dstConn.toNat (s.baseFrame fr.dstConn.toNat 10 c)) := by
  have hexec : exec (.oraCreditFrame port fr) s = .next (if frSolicit fr then (s.heard port fr).sendCredit fr.dstConn.toNat false else s.heard port fr) :=
    State.oraFrame_heard h fun x id _ => if frSolicit fr then x.sendCredit id false else x
  obtain ⟨-, hconn, -, hset⟩ := State.heard_form h
  obtain ⟨l, hl⟩ : ∃ l, c.creditIn fr.credit.toNat = { c with lp := l } := ⟨_, c.creditIn_eq _⟩
  rw [hl] at hconn ⊢
  by_cases hsol : frSolicit fr = true
  · rw [if_pos hsol] at hexec
    obtain ⟨h1, h2⟩ := State.sendCredit_outcome hconn false
    refine completes_of hexec (exec_oraCreditFrame s) (by decide) ⟨⟨_, h1, rfl, rfl⟩, fun _ => ?_⟩
    rw [State.baseFrame_congr (t := s.heard port fr) (s := s) (hset 1 (by decide))] at h2
    rw [State.route_sendCredit]
    exact h2
  · rw [if_neg hsol] at hexec
    exact completes_of hexec (exec_oraCreditFrame s) (by decide) ⟨⟨_, hconn, rfl, rfl⟩, fun hn => absurd hn hsol⟩

end

end Sys2Proof.Machine

namespace Sys2Proof.Proofs
open Sys2Proof.Machine

/-- Settles O37: a response by what it leaves of its request, an acknowledgement and a refusal by the PSNs that they settle, a credit by its limit. -/
theorem oraReplies : Obligations.OraReplies := by
  unfold Obligations.OraReplies
  intro s port fr c
  refine ⟨fun o w ci ha hfree hci => ?_, fun hd => ⟨fun h => completes_oraAckFrame h hd, fun o w h ha => completes_oraNakFrame h ha hd⟩,
    fun h => completes_oraCreditFrame h⟩
  have hans : ∃ op, s.answersWith ci port fr op c o w := by
    rcases hci with ⟨hf, h3, hlen, rfl⟩ | ⟨hf, hop, rfl⟩
    · refine ⟨4, rfl, exec_oraReadRespFrame s, hf, ?_, ha, hfree⟩
      unfold Conn.answeredBy
      rw [ha.1, hf.1]
      simp [h3, hlen]
    · refine ⟨7, rfl, exec_oraAtomicRespFrame s, hf, ?_, ha, hfree⟩
      unfold Conn.answeredBy
      rw [ha.1, hf.1]
      simp [hop]
  obtain ⟨op, hans⟩ := hans
  exact ⟨fun hwait => completes_response_waits hans hwait, fun hwait hgood => completes_response_taken hans hwait hgood,
    fun hwait hbad => completes_response_bad hans hwait hbad⟩

end Sys2Proof.Proofs
end

section
/-! A request that comes in and is applied: its acceptance, its limit and its acknowledgement (R254, R260, R272, R273). -/

namespace Sys2Proof.Machine

section

variable {s : State} {port : Option PortRx} {fr : OraFrame} {c k : Conn} {id : Nat}

/-! ### What the checks of a request read -/

/-- A state that differs from another in counters, ports, nodes and connections only, with the node's own settings the same. -/
def State.samePlant (s x : State) : Prop :=
  (∃ od ports nodes conns, x = { s with od := od, ports := ports, nodes := nodes, conns := conns }) ∧ x.setting 0x2700 3 = s.setting 0x2700 3 ∧
    x.ownNode = s.ownNode

/-- A connection as a request's checks read it. -/
def Conn.sameView (c k : Conn) : Prop :=
  k.recvs = c.recvs ∧ k.nextMsn = c.nextMsn ∧ k.respond = c.respond ∧ k.job = c.job

theorem Conn.area_view (h : c.sameView k) (f : OraFrame) : k.area f = c.area f := by
  unfold Conn.area Conn.recvOf
  rw [h.1]

theorem State.samePlant_syndrome {x : State} (h : s.samePlant x) (hv : c.sameView k) (f : OraFrame) : x.syndrome k f = s.syndrome c f := by
  obtain ⟨⟨od, ports, nodes, conns, hx⟩, hset, -⟩ := h
  have harea := Conn.area_view hv f
  obtain ⟨h1, h2, h3, h4⟩ := hv
  have hbad : x.targetBad k f = s.targetBad c f := by
    unfold State.targetBad State.maxPayload
    rw [harea, h3, hset, hx]
    rfl
  have hkey : x.targetKey k f = s.targetKey c f := by
    unfold State.targetKey
    rw [harea, h4, hx]
    rfl
  have hlost : x.targetLost k f = s.targetLost c f := by
    unfold State.targetLost
    rw [harea, hx]
    rfl
  have hjob : x.jobOf k.job = s.jobOf c.job := by rw [h4, hx]; rfl
  unfold State.syndrome Conn.recvOf
  rw [hbad, hkey, hlost, hjob, h1, h2]

theorem State.samePlant_canApply {x : State} (h : s.samePlant x) (hv : c.sameView k) (he : k.e = c.e) (hh : k.held = c.held) (hl : k.landing = c.landing)
    (f : OraFrame) : x.canApply k f = s.canApply c f := by
  obtain ⟨⟨od, ports, nodes, conns, hx⟩, -, -⟩ := h
  have hw : x.targetWaits k f = s.targetWaits c f := by
    unfold State.targetWaits
    rw [Conn.area_view hv, hx]
    rfl
  have hi : x.isLanding f = s.isLanding f := by rw [hx]; rfl
  unfold State.canApply
  rw [hw, hi, he, hh, hl]

/-! ### The limit and the acknowledgement (R260, R273) -/

theorem State.raiseLimit_conn (h : s.conns.find id = some c) (cost : Nat) :
    ∃ v, (s.raiseLimit id cost).conns.find id = some { c with granted := (c.granted + cost) % 2 ^ 32, ackAt := v } := by
  refine ⟨if ({ c with granted := (c.granted + cost) % 2 ^ 32 } : Conn).creditDue then some (c.ackAt.getD (s.now + s.ackDelay)) else c.ackAt, ?_⟩
  refine (State.conn_connMap_same h _).trans (congrArg some ?_)
  dsimp only
  split <;> rfl

theorem State.raiseLimit_keeps (s : State) (id cost : Nat) : Step 35184372088832 s (s.raiseLimit id cost) := State.raiseLimit_step (Step.refl _ s) (by decide)

theorem State.queued_sendOra {t : State} {p cls i : Nat} {g : OraFrame} (h : t.queued p cls i g) (id : Nat) (shaped : Bool) (f : OraFrame) :
    (t.sendOra id shaped f).queued p cls i g := by
  obtain ⟨q, hq, h1, h2⟩ := h
  refine ⟨q, ?_, h1, h2⟩
  unfold State.sendOra
  split
  · exact hq
  next c _ =>
    obtain ⟨y, hy⟩ : ∃ y, y = (t.connMap id fun x => { x with carried := x.granted }).bump64 0x2702 1 := ⟨_, rfl⟩
    have hyp : ∀ n, y.portOf n = t.portOf n := fun n => by rw [hy]; rfl
    rw [← hy]
    obtain ⟨h3, h4⟩ := State.portOf_of_set (s := y) (t := y.enqueue (t.route c) c.cls ⟨id, f, shaped, false⟩) (p := t.route c) rfl
    by_cases hp : p = t.route c
    · subst hp
      rw [h3]
      by_cases hc : cls = c.cls
      · subst hc
        rw [Tab.get_set_same]
        exact List.mem_append_left _ ((hyp _).symm ▸ hq)
      · rw [Tab.get_set_other _ _ _ hc]
        exact (hyp _).symm ▸ hq
    · rw [h4 p hp, hyp]
      exact hq

theorem State.ackFor_outcome (h : s.conns.find id = some c) (f : OraFrame) :
    (∃ a b d, (s.ackFor id f).conns.find id = some { c with sinceAck := a, ackAt := b, carried := d }) ∧
      (∀ p cls i g, s.queued p cls i g → (s.ackFor id f).queued p cls i g) ∧ (∀ k, (s.ackFor id f).route k = s.route k) ∧
      Step 598134329704448 s (s.ackFor id f) := by
  have hstep : Step 598134329704448 s (s.ackFor id f) := State.ackFor_step (Step.refl _ s) (by decide)
  refine ⟨?_, fun p cls i g hq => ?_, fun k => ?_, hstep⟩
  · unfold State.ackFor
    simp only [h]
    split
    · exact ⟨_, _, _, (State.sendAck_outcome h).1⟩
    · exact ⟨_, _, _, State.conn_connMap_same h _⟩
  · unfold State.ackFor
    simp only [h]
    split
    · unfold State.sendAck
      simp only [h]
      exact State.queued_sendOra (t := s.connMap id fun x => { x with sinceAck := 0, ackAt := none }) hq ..
    · exact hq
  · unfold State.ackFor
    simp only [h]
    split
    · unfold State.sendAck
      simp only [h]
      rw [State.route_sendOra]
      exact State.route_congr (s := s) rfl rfl (State.ownNode_congr rfl) k
    · exact State.route_congr (s := s) rfl rfl (State.ownNode_congr rfl) k

/-! ### A new request that nothing refuses (R272) -/

/-- The connection that has received a PSN. -/
theorem Conn.receive_lp (c : Conn) (lp psn : Nat) :
    ({ c with lp := lp } : Conn).receive psn = { c with lp := lp, e := (c.receive psn).e, got := (c.receive psn).got } := rfl

theorem State.connMap_od (s : State) (id : Nat) (f : Conn → Conn) : (s.connMap id f).od = s.od := rfl

/-- The state in which an accepted request is applied. -/
def State.accepted (s : State) (port : Option PortRx) (fr : OraFrame) : State :=
  (s.heard port fr).connMap fr.dstConn.toNat fun x => x.receive fr.psn.toNat

/-- The connection then. -/
def Conn.accepted (c : Conn) (fr : OraFrame) (lp : Nat) : Conn :=
  { c with lp := lp, e := (c.receive fr.psn.toNat).e, got := (c.receive fr.psn.toNat).got }

theorem State.heard_samePlant {op : Nat} (h : s.frameIn port fr op c) : s.samePlant (s.heard port fr) := by
  obtain ⟨hform, -, -, hset⟩ := State.heard_form h
  exact ⟨hform, hset 3 (by decide), hset 1 (by decide)⟩

theorem State.accepted_form {op : Nat} (h : s.frameIn port fr op c) : s.samePlant (s.accepted port fr) ∧
    (s.accepted port fr).conns.find fr.dstConn.toNat = some (c.accepted fr (c.creditIn fr.credit.toNat).lp) := by
  obtain ⟨⟨od, ports, nodes, conns, hform⟩, hconn, -, hset⟩ := State.heard_form h
  obtain ⟨l, hl, heq⟩ : ∃ l, (c.creditIn fr.credit.toNat).lp = l ∧ c.creditIn fr.credit.toNat = { c with lp := l } := ⟨_, rfl, c.creditIn_eq _⟩
  rw [heq] at hconn
  rw [hl]
  have hod : (s.accepted port fr).od = (s.heard port fr).od := State.connMap_od ..
  refine ⟨⟨⟨od, ports, nodes, (s.accepted port fr).conns, ?_⟩, ?_, ?_⟩, ?_⟩
  · unfold State.accepted
    rw [hform]
    rfl
  · rw [State.setting_congr hod]
    exact hset 3 (by decide)
  · rw [State.ownNode_congr hod]
    exact hset 1 (by decide)
  · refine (State.conn_connMap_same hconn _).trans (congrArg some ?_)
    exact c.receive_lp l fr.psn.toNat

/-- A request that nothing refuses and nothing holds is applied and acknowledged (R254). -/
theorem exec_request {i : Instr} {op : Nat} (hx : exec i s = s.oraFrame port fr op fun x id c => x.classify id c fr) (h : s.frameIn port fr op c)
    (ht : s.takesRequest c fr) : exec i s = .next (((s.accepted port fr).applyOra fr.dstConn.toNat fr 0).ackFor fr.dstConn.toNat fr) := by
  obtain ⟨h1, h2, h3, h4, h5⟩ := ht
  have hplant := State.heard_samePlant h
  refine (hx.trans (State.oraFrame_heard h _)).trans (congrArg Host.Outcome.next ?_)
  unfold State.accepted
  obtain ⟨l, hl⟩ : ∃ l, c.creditIn fr.credit.toNat = { c with lp := l } := ⟨_, c.creditIn_eq _⟩
  generalize s.heard port fr = x at hplant ⊢
  rw [hl]
  have hsyn : x.syndrome { c with lp := l } fr = 0 := (State.samePlant_syndrome hplant ⟨rfl, rfl, rfl, rfl⟩ fr).trans h4
  have hcan : x.canApply (({ c with lp := l } : Conn).receive fr.psn.toNat) fr = true :=
    (State.samePlant_canApply hplant (c := c.receive fr.psn.toNat) ⟨rfl, rfl, rfl, rfl⟩ rfl rfl rfl fr).trans h5
  unfold State.classify
  dsimp only
  rw [if_neg (by omega), if_neg (by omega), if_neg (by rw [h3]; simp; omega)]
  unfold State.newRequest
  dsimp only
  rw [if_neg (fun hn => hn hsyn), if_pos hcan]

/-! ### What an applied request leaves of its connection -/

/-- The connection has served the request: only its windows, its buffers, its cache and its timers may have changed besides. -/
def State.servedAs (t : State) (id : Nat) (c : Conn) (fr : OraFrame) (lp : Nat) : Prop :=
  ∃ x, t.conns.find id = some x ∧ x.e = (c.receive fr.psn.toNat).e ∧ x.got = (c.receive fr.psn.toNat).got ∧
    x.granted = (c.granted + frCost fr) % 2 ^ 32 ∧ x.lp = lp

theorem State.servedAs_ackFor {t : State} {lp : Nat} (h : t.servedAs id c fr lp) (f : OraFrame) : (t.ackFor id f).servedAs id c fr lp := by
  obtain ⟨x, hx, h1, h2, h3, h4⟩ := h
  obtain ⟨⟨a, b, d, hy⟩, -⟩ := State.ackFor_outcome hx f
  exact ⟨_, hy, h1, h2, h3, h4⟩

theorem State.servedAs_of_reqsKeep {t u : State} {lp : Nat} (h : t.servedAs id c fr lp) (hk : t.reqsKeep u) : u.servedAs id c fr lp := by
  obtain ⟨x, hx, h1, h2, h3, h4⟩ := h
  obtain ⟨q, hq⟩ := hk.conn id x hx
  exact ⟨_, hq, h1, h2, h3, h4⟩

end

end Sys2Proof.Machine
end

section
/-! Requests that write: a WRITE at its address or at TAIL, and a SEND (R263, R264, R269). -/

namespace Sys2Proof.Machine

section

variable {s y x : State} {id : Nat} {fr : OraFrame} {c k : Conn} {lp : Nat}

/-! ### A WRITE (R264) -/

/-- What follows a WRITE that is done: no landing goes on, the credit returns, and the counter of a TAGGED one goes up. -/
def State.writeDone (x : State) (id : Nat) (f : OraFrame) : State :=
  let r := (x.connMap id fun y => { y with landing := none }).raiseLimit id (frCost f)
  if frTagged f then r.ctrUp f.tag.toNat else r

theorem Conn.area_write (k : Conn) (h : fr.opcode.toNat = 2) : k.area fr = (fr.addr.toNat, fr.length.toNat) := by
  unfold Conn.area
  simp only [h]

theorem State.applyOra_write_done {i : Nat} (hc : y.conns.find id = some k) (hop : fr.opcode.toNat = 2)
    (hw : y.writeTarget fr.addr.toNat fr.payload i = (x, none)) : y.applyOra id fr i = x.writeDone id fr := by
  unfold State.applyOra
  simp only [hc, hop, k.area_write hop, hw]
  rfl

theorem State.applyOra_write_waits {i j : Nat} (hc : y.conns.find id = some k) (hop : fr.opcode.toNat = 2)
    (hw : y.writeTarget fr.addr.toNat fr.payload i = (x, some j)) : y.applyOra id fr i = x.connMap id fun y => { y with landing := some (fr, j) } := by
  unfold State.applyOra
  simp only [hc, hop, k.area_write hop, hw]

/-- A counter goes up by one, whatever it triggers (R269, R270). -/
theorem State.ctrUp_ctrs {ctr : Nat} {q : Ctr} (h : s.ctrs.find ctr = some q) :
    (s.ctrUp ctr).ctrs.find ctr = some { q with value := (q.value + 1) % 2 ^ 32 } := by
  obtain ⟨a, ha⟩ : ∃ a, a = ({ s with ctrs := s.ctrs.set ctr { q with value := (q.value + 1) % 2 ^ 32 } } : State) := ⟨_, rfl⟩
  have hup : s.ctrUp ctr = a.triggers ctr := by
    unfold State.ctrUp
    simp only [h]
    rw [ha]
  rw [hup, (State.triggers_step (x1 := ctr) (Step.refl 72180757532789888 a) (by decide)).ctrs (by decide), ha]
  exact Tab.find_set_same ..

/-- What a WRITE that is done leaves: of its connection, of the stores, and of the counter that it names. -/
theorem State.writeDone_outcome (hc : x.conns.find id = some (c.accepted fr lp)) : (x.writeDone id fr).servedAs id c fr lp ∧
    (frTagged fr = false → (x.writeDone id fr).tier1 = x.tier1 ∧ (x.writeDone id fr).tiles = x.tiles) ∧
    (frTagged fr = true → ∀ q, x.ctrs.find fr.tag.toNat = some q → (x.writeDone id fr).ctrs.find fr.tag.toNat = some { q with value := (q.value + 1) % 2 ^ 32 }) := by
  obtain ⟨v, hv⟩ := State.raiseLimit_conn (s := x.connMap id fun y => { y with landing := none }) (State.conn_connMap_same hc _) (frCost fr)
  obtain ⟨r, hr⟩ : ∃ r, r = (x.connMap id fun y => { y with landing := none }).raiseLimit id (frCost fr) := ⟨_, rfl⟩
  have hstep : Step 35184372088832 x r := by
    rw [hr]
    exact State.raiseLimit_step (State.connMap_step (Step.refl _ x) (by decide)) (by decide)
  have hserved : r.servedAs id c fr lp := by
    rw [hr]
    exact ⟨_, hv, rfl, rfl, rfl, rfl⟩
  have hdone : x.writeDone id fr = if frTagged fr then r.ctrUp fr.tag.toNat else r := by
    rw [hr]
    rfl
  rw [hdone]
  cases frTagged fr with
  | false => exact ⟨hserved, fun _ => ⟨hstep.tier1 (by decide), hstep.tiles (by decide)⟩, fun hn => absurd hn (by decide)⟩
  | true =>
    refine ⟨State.servedAs_of_reqsKeep hserved (State.reqsKeep_ctrUp r _), fun hn => absurd hn (by decide), fun _ q hq => State.ctrUp_ctrs ?_⟩
    rw [hstep.ctrs (by decide)]
    exact hq

/-- The target of a WRITE into sound tier 1. -/
theorem State.writeTarget_tier {a : Nat} (h : y.copyTile a = none) (bs : List Byte) (i : Nat) : y.writeTarget a bs i = (y.tierWrite a bs, none) := by
  unfold State.writeTarget
  simp only [h]

/-- The target of a WRITE at an address of a tile. -/
theorem State.writeTarget_tile {a k off o : Nat} {st : StoreSel} (h : y.copyTile a = some (k, off)) (ho : offStore off = some (st, o))
    (hb : (y.tileOf k).bad = .empty) (hl : (y.tileOf k).landingAt off = none) (bs : List Byte) :
    y.writeTarget a bs 0 = (y.setTile k ((y.tileOf k).writeBytes st o bs), none) := by
  unfold State.writeTarget
  simp only [h, hl]
  rw [← State.extWrite_sound ho hb, Nat.zero_mul, Nat.add_zero, List.drop_zero]

/-- The target of a WRITE of one line at TAIL: it lands, or waits for room. -/
theorem State.writeTarget_landed {a k off r : Nat} {st : StoreSel} {g : RegionSt} {bs : List Byte} {u : Tile} (h : y.copyTile a = some (k, off))
    (hl : (y.tileOf k).landingAt off = some (st, r, g)) (hn : bs.length = 64) (hu : (y.tileOf k).landLine st r bs true = .landed u) :
    y.writeTarget a bs 0 = (y.setTile k u, none) := by
  have hline : (bs.drop (0 * 64)).take 64 = bs := by rw [Nat.zero_mul, List.drop_zero, List.take_of_length_le (by omega)]
  unfold State.writeTarget
  simp only [h, hl, hn]
  show (let x := State.landFrom k st r bs 1 0 y; (x.1, if x.2 < 64 / 64 then some x.2 else none)) = _
  unfold State.landFrom
  rw [hline]
  simp only [Nat.add_zero, hu]
  rfl

theorem State.writeTarget_waits {a k off r : Nat} {st : StoreSel} {g : RegionSt} {bs : List Byte} (h : y.copyTile a = some (k, off))
    (hl : (y.tileOf k).landingAt off = some (st, r, g)) (hn : bs.length = 64) (hu : (y.tileOf k).landLine st r bs true = .waits) :
    y.writeTarget a bs 0 = (y.prioStall k, some 0) := by
  have hline : (bs.drop (0 * 64)).take 64 = bs := by rw [Nat.zero_mul, List.drop_zero, List.take_of_length_le (by omega)]
  unfold State.writeTarget
  simp only [h, hl, hn]
  show (let x := State.landFrom k st r bs 1 0 y; (x.1, if x.2 < 64 / 64 then some x.2 else none)) = _
  unfold State.landFrom
  rw [hline]
  simp only [Nat.add_zero, hu]
  rfl

/-! ### A SEND (R263) -/

/-- The buffer after a SEND's payload. -/
def Recv.filled (r : Recv) (f : OraFrame) : Recv := { r with placed := r.placed + f.length.toNat, total := some (f.operand1.toNat / 2 ^ 32) }

/-- A RECV that completes leaves its connection but that buffer, and its entry is over. -/
theorem State.recvEnd_outcome {r : Recv} (hc : x.conns.find id = some k) (hr : r.refused = false) :
    (∃ q, (x.recvEnd id k r).conns.find id = some { k with recvs := k.recvs.filter fun y => y.msn != r.msn, sendq := q }) ∧
      (x.recvEnd id k r).entryOf r.list r.idx = none := by
  obtain ⟨st, det, z, b, hend, hz, hb⟩ : ∃ (st : Status) (det : Nat) (z b : State), x.recvEnd id k r = (match r.lctr with
      | some n => if st = Status.ok then b.ctrUp n else b
      | none => b) ∧ z.conns = x.conns ∧
      b = ((z.connMap id fun x => { x with recvs := x.recvs.filter fun y => y.msn != r.msn }).faultEnd st).entryDone r.list r.idx st det 0 0xFFFF := by
    unfold State.recvEnd
    rw [if_neg (by rw [hr]; decide)]
    refine ⟨_, _, if x.localBad r.statusAt 8 true then x else x.copyWrite r.statusAt (natLe 4 (r.total.getD 0) ++ natLe 4 r.msn), _, rfl, ?_, rfl⟩
    split
    · rfl
    · exact (State.copyWrite_step (x1 := r.statusAt) (x2 := natLe 4 (r.total.getD 0) ++ natLe 4 r.msn) (Step.refl 17734928433152 x) (by decide)).conns (by decide)
  obtain ⟨h1, -, -⟩ := (z.connMap id fun x => { x with recvs := x.recvs.filter fun y => y.msn != r.msn }).faultEnd_keeps st
  have hbc : b.conns.find id = some { k with recvs := k.recvs.filter fun y => y.msn != r.msn } := by
    rw [hb, (State.entryDone_step (x1 := r.list) (x2 := r.idx) (x3 := st) (x4 := det) (x5 := 0) (x6 := 0xFFFF) (Step.refl 72075204416507008 _) (by decide)).conns
      (by decide), h1]
    exact State.conn_connMap_same (hz ▸ hc) _
  have hbe : b.entryOf r.list r.idx = none := by
    rw [hb]
    exact State.entryOf_entryDone ..
  have hkeep : b.reqsKeep (x.recvEnd id k r) := by
    rw [hend]
    split
    · split
      · exact State.reqsKeep_ctrUp b _
      · exact State.reqsKeep_of rfl rfl rfl
    · exact State.reqsKeep_of rfl rfl rfl
  obtain ⟨q, hq⟩ := hkeep.conn id _ hbc
  exact ⟨⟨q, hq⟩, hkeep.entry _ _ hbe⟩

theorem State.recvAdvance_stops {r : Recv} (hc : x.conns.find id = some k) (hk : k.recvs = [r]) (h : r.done = true ∨ x.recvReady r = false) (n : Nat) :
    State.recvAdvance id n x = x := by
  cases n with
  | zero => rfl
  | succ n =>
    unfold State.recvAdvance
    simp only [hc, hk]
    cases hd : r.done with
    | true => simp [hd]
    | false =>
      have hr := h.resolve_left (by rw [hd]; decide)
      simp [hd, hr]

theorem State.recvAdvance_empty (hc : x.conns.find id = some k) (hk : k.recvs = []) (n : Nat) : State.recvAdvance id n x = x := by
  cases n with
  | zero => rfl
  | succ n =>
    unfold State.recvAdvance
    simp only [hc, hk]
    rfl

/-- The one buffer of a connection completes. -/
theorem State.recvAdvance_ends {r : Recv} (hc : x.conns.find id = some k) (hk : k.recvs = [r]) (hd : r.done = false) (hr : r.refused = false)
    (hready : x.recvReady r = true) (n : Nat) : (∃ q, (State.recvAdvance id (n + 1) x).conns.find id = some { k with recvs := [], sendq := q }) ∧
      (State.recvAdvance id (n + 1) x).entryOf r.list r.idx = none := by
  have hnone : k.recvs.filter (fun y => y.msn != r.msn) = [] := by rw [hk]; simp
  obtain ⟨⟨q, hq⟩, he⟩ := State.recvEnd_outcome hc hr
  rw [hnone] at hq
  have hadv : State.recvAdvance id (n + 1) x = x.recvEnd id k r := by
    rw [State.recvAdvance]
    simp only [hc, hk]
    simp [hd, hready]
    exact State.recvAdvance_empty hq rfl n
  rw [hadv]
  exact ⟨⟨q, hq⟩, he⟩

/-- The state in which a SEND's buffer has taken its payload. -/
def State.sendPlaced (y : State) (id : Nat) (r : Recv) (f : OraFrame) : State :=
  (((y.raiseLimit id (frCost f)).copyWrite (r.addr + f.addr.toNat) f.payload).recvMap id (f.operand1.toNat % 2 ^ 32) fun r => r.filled f)

theorem State.applyOra_send {r : Recv} (hc : y.conns.find id = some k) (hk : k.recvs = [r]) (hop : fr.opcode.toNat = 1)
    (hm : r.msn = fr.operand1.toNat % 2 ^ 32) (ht : frTagged fr = false) : y.applyOra id fr 0 = State.recvAdvance id 2 (y.sendPlaced id r fr) := by
  have hof : k.recvOf (fr.operand1.toNat % 2 ^ 32) = some r := by
    unfold Conn.recvOf
    rw [hk]
    simp [hm]
  have harea : k.area fr = (r.addr + fr.addr.toNat, fr.length.toNat) := by
    unfold Conn.area
    simp only [hop, hof]
    rfl
  unfold State.applyOra
  simp only [hc, hop, harea, ht, hk]
  rfl

/-- What a SEND's payload leaves in sound tier 1, and of its connection. -/
theorem State.sendPlaced_outcome {r : Recv} (hc : y.conns.find id = some (c.accepted fr lp)) (hk : c.recvs = [r]) (hm : r.msn = fr.operand1.toNat % 2 ^ 32)
    (hb : y.tier1Bad = .empty) (ht : y.copyTile (r.addr + fr.addr.toNat) = none) :
    (∃ v, (y.sendPlaced id r fr).conns.find id = some { c.accepted fr lp with
      granted := (c.granted + frCost fr) % 2 ^ 32, ackAt := v, recvs := [r.filled fr] }) ∧
      (y.sendPlaced id r fr).tier1 = y.tier1.writeBytes (r.addr + fr.addr.toNat) fr.payload ∧
      ∀ a n, (y.sendPlaced id r fr).copyWaits a n = y.copyWaits a n := by
  obtain ⟨v, hv⟩ := State.raiseLimit_conn hc (frCost fr)
  obtain ⟨z, hz⟩ : ∃ z, z = y.raiseLimit id (frCost fr) := ⟨_, rfl⟩
  have hzk : z = { y with conns := z.conns } := by rw [hz]; rfl
  have hwrite : z.copyWrite (r.addr + fr.addr.toNat) fr.payload = z.tierWrite (r.addr + fr.addr.toNat) fr.payload := by
    have hzt : z.copyTile (r.addr + fr.addr.toNat) = none := by rw [hzk]; exact ht
    unfold State.copyWrite
    simp only [hzt]
  have hsound := State.tierWrite_sound (s := z) (by rw [hzk]; exact hb) (r.addr + fr.addr.toNat) fr.payload
  rw [← hz] at hv
  unfold State.sendPlaced
  rw [← hz, hwrite, hsound]
  refine ⟨⟨v, ?_⟩, ?_, fun a n => ?_⟩
  · refine (State.conn_connMap_same hv _).trans (congrArg some ?_)
    have hmap : (c.accepted fr lp).recvs.map (fun q => if q.msn = fr.operand1.toNat % 2 ^ 32 then q.filled fr else q) = [r.filled fr] := by
      show c.recvs.map _ = _
      rw [hk, List.map_singleton, if_pos hm]
    rw [← hmap]
    rfl
  · rw [hzk]
    rfl
  · rw [hzk]
    rfl

end

end Sys2Proof.Machine
end

section
/-! Requests that are answered, held frames, and O36. -/

namespace Sys2Proof.Machine

section

variable {s y z : State} {id : Nat} {fr : OraFrame} {c k : Conn} {lp : Nat}

/-! ### An answer is kept and sent (R265, R266, R275) -/

/-- Where the response cache takes the next answer. -/
def Conn.cacheAt (k : Conn) : Nat := k.rcache + (if k.cache.length < 64 then k.cache.length else k.cache.head?.elim 0 (·.slot)) * 4096

/-- The frame that answers a request with `data`. -/
def State.answerFrame (s : State) (id : Nat) (k : Conn) (f : OraFrame) (op : Nat) (data : List Byte) : OraFrame :=
  if op = 4 then { s.baseFrame id 4 k with psn := f.psn, length := BitVec.ofNat 16 data.length, payload := data }
  else { s.baseFrame id 7 k with psn := f.psn, operand1 := BitVec.ofNat 64 (leNat data) }

theorem State.respond_outcome (hc : z.conns.find id = some k) (hb : z.tier1Bad = .empty) (op : Nat) (data : List Byte) :
    (∃ l d, (z.respond id fr op data).conns.find id = some { k with cache := l, carried := d }) ∧
      (z.respond id fr op data).tier1 = z.tier1.writeBytes k.cacheAt data ∧
      (z.respond id fr op data).queued (z.route k) k.cls id (z.answerFrame id k fr op data) ∧
      ∀ q, (z.respond id fr op data).route q = z.route q := by
  obtain ⟨l, hl⟩ : ∃ l, l = (if k.cache.length < 64 then k.cache else k.cache.drop 1) ++
    [(⟨fr.psn.toNat, op, if k.cache.length < 64 then k.cache.length else k.cache.head?.elim 0 (·.slot), data.length, leNat (data.take 8)⟩ : Cached)] := ⟨_, rfl⟩
  obtain ⟨u, hu⟩ : ∃ u, u = (z.tierWrite k.cacheAt data).connMap id fun x => { x with cache := (if x.cache.length < 64 then x.cache else x.cache.drop 1) ++
    [(⟨fr.psn.toNat, op, if k.cache.length < 64 then k.cache.length else k.cache.head?.elim 0 (·.slot), data.length, leNat (data.take 8)⟩ : Cached)] } := ⟨_, rfl⟩
  have hresp : z.respond id fr op data = u.sendOra id true (z.answerFrame id k fr op data) := by
    unfold State.respond
    simp only [hc]
    rw [hu]
    rfl
  rw [State.tierWrite_sound hb] at hu
  have huc : u.conns.find id = some { k with cache := l } := by
    rw [hu, hl]
    refine State.conn_connMap_same (c := k) ?_ _
    exact hc
  have hroute : ∀ q, u.route q = z.route q := fun q => by
    rw [hu]
    exact State.route_congr (s := z) rfl rfl (State.ownNode_congr rfl) q
  obtain ⟨h1, -, h3, h4⟩ := State.sendOra_outcome huc true (z.answerFrame id k fr op data)
  rw [hresp]
  refine ⟨⟨l, _, h1⟩, ?_, ?_, fun q => by rw [State.route_sendOra, hroute]⟩
  · rw [h4.tier1 (by decide), hu]
    rfl
  · rw [← hroute k]
    exact h3

/-- The frame that answers, written from the state that the request met. -/
theorem State.answerFrame_accepted {v : Option Nat} (hn : z.ownNode = s.ownNode) (op : Nat) (data : List Byte) :
    z.answerFrame id { c.accepted fr lp with granted := (c.granted + frCost fr) % 2 ^ 32, ackAt := v } fr op data =
      s.answerFrame id { c with granted := (c.granted + frCost fr) % 2 ^ 32 } fr op data := by
  unfold State.answerFrame
  rw [State.baseFrame_congr hn, State.baseFrame_congr hn]
  rfl

/-! ### Reads and atomics (R265, R266) -/

section

variable {port : Option PortRx} {i : Instr} {op : Nat}

/-- The fields that a request may change. -/
def requestFields : List Field :=
  entryFields ++ ([.hostA, .hostB, .frames, .can, .absentEmcy, .suspects, .tiles, .conns, .wrs, .ctrs, .ports, .nodes] : List Field)

/-- A request of one opcode that comes in and is taken. -/
structure State.requests (s : State) (i : Instr) (port : Option PortRx) (fr : OraFrame) (op : Nat) (c : Conn) : Prop where
  exec : exec i s = s.oraFrame port fr op fun x id c => x.classify id c fr
  step : StepO 75277125092658352 s (Machine.exec i s)
  frame : s.frameIn port fr op c
  takes : s.takesRequest c fr
  sound : s.tier1Bad = .empty

theorem State.servedAs.hasServed {t : State} (h : t.servedAs id c fr lp) (hl : (c.creditIn fr.credit.toNat).lp = lp) : t.hasServed c id fr := by
  obtain ⟨x, hx, h1, h2, h3, h4⟩ := h
  exact ⟨x, hx, h1, h2, h3, h4.trans hl.symm⟩

/-- What an applied request leaves, once it has been acknowledged. -/
theorem completes_request {p : State → Prop} (h : s.requests i port fr op c)
    (hl : (c.creditIn fr.credit.toNat).lp = lp) (hs : ((s.accepted port fr).applyOra fr.dstConn.toNat fr 0).servedAs fr.dstConn.toNat c fr lp)
    (hp : ∀ t, t = ((s.accepted port fr).applyOra fr.dstConn.toNat fr 0).ackFor fr.dstConn.toNat fr → p t) :
    completes i s requestFields fun t => t.hasServed c fr.dstConn.toNat fr ∧ p t :=
  completes_of (exec_request h.exec h.frame h.takes) h.step (by decide) ⟨(State.servedAs_ackFor hs fr).hasServed hl, hp _ rfl⟩

/-- The state in which an answer is formed: its limit has risen, and the store is what the request has made of it. -/
structure State.answering (s z : State) (id : Nat) (c : Conn) (fr : OraFrame) (lp : Nat) (m : Memory) : Prop where
  conn : ∃ v, z.conns.find id = some { c.accepted fr lp with granted := (c.granted + frCost fr) % 2 ^ 32, ackAt := v }
  own : z.ownNode = s.ownNode
  sound : z.tier1Bad = .empty
  tier1 : z.tier1 = m

theorem completes_answer {m : Memory} {data : List Byte} {aop : Nat} (h : s.requests i port fr op c)
    (hl : (c.creditIn fr.credit.toNat).lp = lp) (hz : s.answering z fr.dstConn.toNat c fr lp m)
    (happly : (s.accepted port fr).applyOra fr.dstConn.toNat fr 0 = z.respond fr.dstConn.toNat fr aop data) :
    completes i s requestFields fun t => t.hasServed c fr.dstConn.toNat fr ∧ t.tier1 = m.writeBytes c.cacheAt data ∧
      t.queued (t.route c) c.cls fr.dstConn.toNat (s.answerFrame fr.dstConn.toNat { c with granted := (c.granted + frCost fr) % 2 ^ 32 } fr aop data) := by
  obtain ⟨⟨v, hv⟩, hown, hsound, htier⟩ := hz
  obtain ⟨⟨l, d, h1⟩, h2, h3, h4⟩ := State.respond_outcome (fr := fr) hv hsound aop data
  rw [State.answerFrame_accepted hown] at h3
  rw [← happly] at h1 h2 h3 h4
  refine completes_request h hl ⟨_, h1, rfl, rfl, rfl, rfl⟩ fun t ht => ?_
  obtain ⟨-, k2, k3, k4⟩ := State.ackFor_outcome h1 fr
  rw [ht]
  refine ⟨?_, ?_⟩
  · rw [k4.tier1 (by decide), h2, htier]
    rfl
  · rw [k3, h4]
    exact k2 _ _ _ _ h3

theorem Conn.area_read (k : Conn) (h : fr.opcode.toNat = 3) : k.area fr = (fr.addr.toNat, fr.operand1.toNat) := by
  unfold Conn.area
  simp only [h]

theorem Conn.area_atomic (k : Conn) (h : fr.opcode.toNat = 5 ∨ fr.opcode.toNat = 6) : k.area fr = (fr.addr.toNat, 8) := by
  unfold Conn.area
  rcases h with h | h <;> simp only [h]

/-- A read of sound tier 1 by an accepted request. -/
theorem State.answering_read {a n : Nat} (hp : s.samePlant y) (hy : y.conns.find id = some (c.accepted fr lp)) (hb : s.tier1Bad = .empty)
    (ht : s.copyTile a = none) : s.answering ((y.raiseLimit id (frCost fr)).copyReadEffect a n) id c fr lp s.tier1 ∧ y.copyRead a n = s.tier1.readBytes a n ∧
      ((y.raiseLimit id (frCost fr)).copyReadEffect a n).copyTile a = none := by
  obtain ⟨⟨od, ports, nodes, conns, hform⟩, -, hown⟩ := hp
  obtain ⟨v, hv⟩ := State.raiseLimit_conn hy (frCost fr)
  have hlimit := y.raiseLimit_keeps id (frCost fr)
  obtain ⟨w, hw⟩ : ∃ w, w = y.raiseLimit id (frCost fr) := ⟨_, rfl⟩
  rw [← hw] at hv hlimit
  have hyt : y.copyTile a = none := by rw [hform]; exact ht
  have hwt : w.copyTile a = none := (State.copyTile_congr (hlimit.wafer (by decide)) a).trans hyt
  have hwb : w.tier1Bad = .empty := by rw [hlimit.tier1Bad (by decide), hform]; exact hb
  have heff : w.copyReadEffect a n = w.tierRead a n := by
    unfold State.copyReadEffect
    simp only [hwt]
  have hstep : Step 17593192677376 w (w.copyReadEffect a n) := heff ▸ State.tierRead_sound hwb a n (by decide)
  rw [← hw]
  refine ⟨⟨⟨v, ?_⟩, ?_, ?_, ?_⟩, ?_, ?_⟩
  · rw [hstep.conns (by decide)]
    exact hv
  · exact (State.ownNode_congr ((hstep.od (by decide)).trans (hlimit.od (by decide)))).trans hown
  · rw [hstep.tier1Bad (by decide), hwb]
  · rw [hstep.tier1 (by decide), hlimit.tier1 (by decide), hform]
  · unfold State.copyRead
    simp only [hyt]
    rw [hform]
  · exact (State.copyTile_congr (hstep.wafer (by decide)) a).trans hwt

/-- A write of sound tier 1 before the answer. -/
theorem State.answering_write {m : Memory} {a : Nat} (h : s.answering z id c fr lp m) (ht : z.copyTile a = none) (bs : List Byte) :
    s.answering (z.copyWrite a bs) id c fr lp (m.writeBytes a bs) := by
  obtain ⟨hconn, hown, hsound, htier⟩ := h
  have hwrite : z.copyWrite a bs = { z with tier1 := z.tier1.writeBytes a bs, granules := (granulesOf a bs.length).foldl (fun g k => g.set k true) z.granules } := by
    unfold State.copyWrite
    simp only [ht]
    exact State.tierWrite_sound hsound a bs
  rw [hwrite]
  exact ⟨hconn, (State.ownNode_congr (s := z) rfl).trans hown, hsound, congrArg (·.writeBytes a bs) htier⟩

theorem completes_oraReadReqFrame (h : s.requests i port fr 3 c) (ht : s.copyTile fr.addr.toNat = none) :
    completes i s requestFields fun t => t.hasServed c fr.dstConn.toNat fr ∧
      t.tier1 = s.tier1.writeBytes c.cacheAt (s.tier1.readBytes fr.addr.toNat fr.operand1.toNat) ∧
      t.queued (t.route c) c.cls fr.dstConn.toNat
        { s.baseFrame fr.dstConn.toNat 4 { c with granted := (c.granted + frCost fr) % 2 ^ 32 } with
          psn := fr.psn, length := BitVec.ofNat 16 fr.operand1.toNat, payload := s.tier1.readBytes fr.addr.toNat fr.operand1.toNat } := by
  obtain ⟨hplant, hconn⟩ := State.accepted_form h.frame
  obtain ⟨hz, hread, -⟩ := State.answering_read (n := fr.operand1.toNat) hplant hconn h.sound ht
  have happly : (s.accepted port fr).applyOra fr.dstConn.toNat fr 0 = (((s.accepted port fr).raiseLimit fr.dstConn.toNat (frCost fr)).copyReadEffect
      fr.addr.toNat fr.operand1.toNat).respond fr.dstConn.toNat fr 4 (s.tier1.readBytes fr.addr.toNat fr.operand1.toNat) := by
    rw [← hread]
    unfold State.applyOra
    simp only [hconn, Conn.area_read _ h.frame.1, h.frame.1]
  have hres := completes_answer h rfl hz happly
  unfold State.answerFrame at hres
  rw [if_pos rfl, Memory.length_readBytes] at hres
  exact hres

theorem completes_oraFaddFrame (h : s.requests i port fr 5 c) (ht : s.copyTile fr.addr.toNat = none) :
    completes i s requestFields fun t => t.hasServed c fr.dstConn.toNat fr ∧
      t.tier1 = (s.tier1.writeBytes fr.addr.toNat (natLe 8 (leNat (s.tier1.readBytes fr.addr.toNat 8) + fr.operand1.toNat))).writeBytes c.cacheAt
        (s.tier1.readBytes fr.addr.toNat 8) ∧
      t.queued (t.route c) c.cls fr.dstConn.toNat
        { s.baseFrame fr.dstConn.toNat 7 { c with granted := (c.granted + frCost fr) % 2 ^ 32 } with
          psn := fr.psn, operand1 := BitVec.ofNat 64 (leNat (s.tier1.readBytes fr.addr.toNat 8)) } := by
  obtain ⟨hplant, hconn⟩ := State.accepted_form h.frame
  obtain ⟨hz, hread, hzt⟩ := State.answering_read (n := 8) hplant hconn h.sound ht
  have happly : (s.accepted port fr).applyOra fr.dstConn.toNat fr 0 = ((((s.accepted port fr).raiseLimit fr.dstConn.toNat (frCost fr)).copyReadEffect
      fr.addr.toNat 8).copyWrite fr.addr.toNat (natLe 8 (leNat (s.tier1.readBytes fr.addr.toNat 8) + fr.operand1.toNat))).respond fr.dstConn.toNat fr 7
        (s.tier1.readBytes fr.addr.toNat 8) := by
    rw [← hread]
    unfold State.applyOra
    simp only [hconn, Conn.area_atomic _ (.inl h.frame.1), h.frame.1]
  exact completes_answer h rfl (State.answering_write hz hzt _) happly

theorem completes_oraCasFrame (h : s.requests i port fr 6 c) (ht : s.copyTile fr.addr.toNat = none) :
    completes i s requestFields fun t => t.hasServed c fr.dstConn.toNat fr ∧
      t.tier1 = (if leNat (s.tier1.readBytes fr.addr.toNat 8) = fr.operand1.toNat then s.tier1.writeBytes fr.addr.toNat (natLe 8 fr.operand2.toNat)
        else s.tier1).writeBytes c.cacheAt (s.tier1.readBytes fr.addr.toNat 8) ∧
      t.queued (t.route c) c.cls fr.dstConn.toNat
        { s.baseFrame fr.dstConn.toNat 7 { c with granted := (c.granted + frCost fr) % 2 ^ 32 } with
          psn := fr.psn, operand1 := BitVec.ofNat 64 (leNat (s.tier1.readBytes fr.addr.toNat 8)) } := by
  obtain ⟨hplant, hconn⟩ := State.accepted_form h.frame
  obtain ⟨hz, hread, hzt⟩ := State.answering_read (n := 8) hplant hconn h.sound ht
  obtain ⟨w, hw⟩ : ∃ w, w = ((s.accepted port fr).raiseLimit fr.dstConn.toNat (frCost fr)).copyReadEffect fr.addr.toNat 8 := ⟨_, rfl⟩
  have happly : (s.accepted port fr).applyOra fr.dstConn.toNat fr 0 = (if leNat (s.tier1.readBytes fr.addr.toNat 8) = fr.operand1.toNat then
      w.copyWrite fr.addr.toNat (natLe 8 fr.operand2.toNat) else w).respond fr.dstConn.toNat fr 7 (s.tier1.readBytes fr.addr.toNat 8) := by
    rw [← hread, hw]
    unfold State.applyOra
    simp only [hconn, Conn.area_atomic _ (.inr h.frame.1), h.frame.1]
  rw [← hw] at hz hzt
  by_cases heq : leNat (s.tier1.readBytes fr.addr.toNat 8) = fr.operand1.toNat
  · rw [if_pos heq] at happly
    rw [if_pos heq]
    exact completes_answer h rfl (State.answering_write hz hzt _) happly
  · rw [if_neg heq] at happly
    rw [if_neg heq]
    exact completes_answer h rfl hz happly

end

end

end Sys2Proof.Machine
end

section
/-! SEND and WRITE frames that come in, held frames, and O36. -/

namespace Sys2Proof.Machine

section

variable {s : State} {port : Option PortRx} {i : Instr} {fr : OraFrame} {c : Conn}

/-! ### A SEND that comes in (R263) -/

/-- A SEND that nothing refuses is for a buffer that its connection has posted and that no refusal has met. -/
theorem State.syndrome_send {r : Recv} (hop : fr.opcode.toNat = 1) (hk : c.recvs = [r]) (h : s.syndrome c fr = 0) :
    r.msn = fr.operand1.toNat % 2 ^ 32 ∧ r.refused = false := by
  unfold State.syndrome Conn.recvOf at h
  rw [hk] at h
  dsimp only at h
  rw [if_pos hop] at h
  by_cases hm : r.msn = fr.operand1.toNat % 2 ^ 32
  · rw [List.find?_cons_of_pos (by simpa using hm)] at h
    dsimp only at h
    cases hr : r.refused with
    | true =>
      rw [hr] at h
      simp at h
    | false => exact ⟨hm, rfl⟩
  · rw [List.find?_cons_of_neg (by simpa using hm)] at h
    simp only [List.find?_nil] at h
    split at h <;> cases h

theorem completes_oraSendFrame {r : Recv} (h : s.requests i port fr 1 c) (hk : c.recvs = [r]) (ht : frTagged fr = false)
    (hc : s.copyTile (r.addr + fr.addr.toNat) = none) (hw : s.copyWaits r.statusAt 8 = false) :
    completes i s requestFields fun t => t.hasServed c fr.dstConn.toNat fr ∧
      (r.placed + fr.length.toNat < fr.operand1.toNat / 2 ^ 32 → t.tier1 = s.tier1.writeBytes (r.addr + fr.addr.toNat) fr.payload ∧
        ∃ x, t.conns.find fr.dstConn.toNat = some x ∧
          x.recvs = [{ r with placed := r.placed + fr.length.toNat, total := some (fr.operand1.toNat / 2 ^ 32) }]) ∧
      (fr.operand1.toNat / 2 ^ 32 ≤ r.placed + fr.length.toNat → r.done = false → r.lctr = none → t.entryOf r.list r.idx = none ∧
        ∃ x, t.conns.find fr.dstConn.toNat = some x ∧ x.recvs = []) := by
  obtain ⟨hm, href⟩ := State.syndrome_send h.frame.1 hk h.takes.2.2.2.1
  obtain ⟨⟨⟨od, ports, nodes, conns, hform⟩, -, -⟩, hconn⟩ := State.accepted_form h.frame
  obtain ⟨lp, hl⟩ : ∃ lp, (c.creditIn fr.credit.toNat).lp = lp := ⟨_, rfl⟩
  rw [hl] at hconn
  have happly := State.applyOra_send (k := c.accepted fr lp) hconn hk h.frame.1 hm ht
  obtain ⟨⟨v, hv⟩, htier, hwaits⟩ := State.sendPlaced_outcome hconn hk hm (by rw [hform]; exact h.sound) (by rw [hform]; exact hc)
  have hwait : ((s.accepted port fr).sendPlaced fr.dstConn.toNat r fr).copyWaits r.statusAt 8 = false := by
    rw [hwaits, hform]
    exact hw
  have hst : (s.accepted port fr).tier1 = s.tier1 := by rw [hform]
  rw [hst] at htier
  have hready : ((s.accepted port fr).sendPlaced fr.dstConn.toNat r fr).recvReady (r.filled fr) =
      decide (fr.operand1.toNat / 2 ^ 32 ≤ r.placed + fr.length.toNat) := by
    unfold State.recvReady
    show (r.refused || (true && decide (fr.operand1.toNat / 2 ^ 32 ≤ r.placed + fr.length.toNat) && !State.copyWaits _ r.statusAt 8)) = _
    rw [hwait, href]
    simp
  generalize (s.accepted port fr).sendPlaced fr.dstConn.toNat r fr = p at *
  by_cases hend : r.done = false ∧ fr.operand1.toNat / 2 ^ 32 ≤ r.placed + fr.length.toNat
  · obtain ⟨⟨q, hq⟩, hover⟩ := State.recvAdvance_ends hv rfl hend.1 href (hready.trans (decide_eq_true hend.2)) 1
    rw [← happly] at hq hover
    refine completes_request h hl ⟨_, hq, rfl, rfl, rfl, rfl⟩ fun t ht => ⟨fun hn => by omega, fun _ _ _ => ?_⟩
    obtain ⟨⟨a, b, d, hx⟩, -, -, hstep⟩ := State.ackFor_outcome hq fr
    rw [ht]
    exact ⟨(State.entryOf_congr (hstep.lists (by decide)) ..).trans hover, _, hx, rfl⟩
  · have hstop : (r.filled fr).done = true ∨ p.recvReady (r.filled fr) = false := by
      cases hd : r.done with
      | true => exact .inl hd
      | false => exact .inr (hready.trans (decide_eq_false fun hn => hend ⟨hd, hn⟩))
    rw [State.recvAdvance_stops hv rfl hstop] at happly
    rw [← happly] at hv htier
    refine completes_request h hl ⟨_, hv, rfl, rfl, rfl, rfl⟩ fun t ht => ⟨fun _ => ?_, fun hn hd _ => absurd ⟨hd, hn⟩ hend⟩
    obtain ⟨⟨a, b, d, hx⟩, -, -, hstep⟩ := State.ackFor_outcome hv fr
    rw [ht]
    exact ⟨(hstep.tier1 (by decide)).trans htier, _, hx, rfl⟩

/-! ### A WRITE that comes in (R264) -/

/-- A WRITE whose target takes its payload leaves the connection as every served request does, and the stores as the target has them. -/
theorem completes_write {x : State} (h : s.requests i port fr 2 c) (hw : (s.accepted port fr).writeTarget fr.addr.toNat fr.payload 0 = (x, none)) :
    completes i s requestFields fun t => t.hasServed c fr.dstConn.toNat fr ∧ (frTagged fr = false → t.tier1 = x.tier1 ∧ t.tiles = x.tiles) ∧
      (frTagged fr = true → ∀ q, s.ctrs.find fr.tag.toNat = some q → t.ctrs.find fr.tag.toNat = some { q with value := (q.value + 1) % 2 ^ 32 }) := by
  obtain ⟨⟨⟨od, ports, nodes, conns, hform⟩, -, -⟩, hconn⟩ := State.accepted_form h.frame
  obtain ⟨lp, hl⟩ : ∃ lp, (c.creditIn fr.credit.toNat).lp = lp := ⟨_, rfl⟩
  rw [hl] at hconn
  have hx : x = ((s.accepted port fr).writeTarget fr.addr.toNat fr.payload 0).1 := by rw [hw]
  have hstep : Step 17734932627456 (s.accepted port fr) x := hx ▸ State.writeTarget_step (Step.refl _ _) (by decide)
  obtain ⟨h1, h2, h3⟩ := State.writeDone_outcome (x := x) (fr := fr) (by rw [hstep.conns (by decide)]; exact hconn)
  have happly := State.applyOra_write_done hconn h.frame.1 hw
  rw [← happly] at h1 h2 h3
  refine completes_request h hl h1 fun t ht => ?_
  obtain ⟨y, hy, -⟩ := h1
  obtain ⟨-, -, -, hack⟩ := State.ackFor_outcome hy fr
  rw [ht]
  refine ⟨fun hn => ?_, fun hn q hq => ?_⟩
  · rw [hack.tier1 (by decide), hack.tiles (by decide)]
    exact h2 hn
  · rw [hack.ctrs (by decide)]
    exact h3 hn q (by rw [hstep.ctrs (by decide), hform]; exact hq)

theorem completes_oraWriteFrame_tier (h : s.requests i port fr 2 c) (hc : s.copyTile fr.addr.toNat = none) :
    completes i s requestFields fun t => t.hasServed c fr.dstConn.toNat fr ∧
      (frTagged fr = false → t.tier1 = s.tier1.writeBytes fr.addr.toNat fr.payload) ∧
      (frTagged fr = true → ∀ q, s.ctrs.find fr.tag.toNat = some q → t.ctrs.find fr.tag.toNat = some { q with value := (q.value + 1) % 2 ^ 32 }) := by
  obtain ⟨⟨⟨od, ports, nodes, conns, hform⟩, -, -⟩, -⟩ := State.accepted_form h.frame
  refine (completes_write h (State.writeTarget_tier (by rw [hform]; exact hc) fr.payload 0)).imp fun t ⟨hx, hk, hserved, hstore, hctr⟩ =>
    ⟨hx, hk, hserved, fun hn => (hstore hn).1.trans ?_, hctr⟩
  rw [State.tierWrite_sound (by rw [hform]; exact h.sound), hform]

/-- A WRITE into a tile leaves that tile as its target makes it. -/
theorem completes_write_tile {k : Nat} {u : Tile} (h : s.requests i port fr 2 c) (ht : frTagged fr = false)
    (hw : (s.accepted port fr).writeTarget fr.addr.toNat fr.payload 0 = ((s.accepted port fr).setTile k u, none)) :
    completes i s requestFields fun t => t.hasServed c fr.dstConn.toNat fr ∧ s.tileBecomes k u t := by
  obtain ⟨⟨⟨od, ports, nodes, conns, hform⟩, -, -⟩, -⟩ := State.accepted_form h.frame
  have htile : ∀ j, (s.accepted port fr).tileOf j = s.tileOf j := fun j => by rw [hform]; rfl
  refine (completes_write h hw).imp fun t ⟨hx, hk, hserved, hstore, _⟩ => ⟨hx, hk, hserved, ?_⟩
  have hall : ∀ j, t.tileOf j = ((s.accepted port fr).setTile k u).tileOf j := fun j => by
    unfold State.tileOf
    rw [(hstore ht).2]
  exact ⟨(hall k).trans (State.tileOf_setTile_same ..), fun j hj => (hall j).trans ((State.tileOf_setTile_other _ hj _).trans (htile j))⟩

section

variable {k off : Nat}

theorem completes_oraWriteFrame_tile {st : StoreSel} {o : Nat} (h : s.requests i port fr 2 c) (hc : s.copyTile fr.addr.toNat = some (k, off))
    (ht : frTagged fr = false) (ho : offStore off = some (st, o)) (hb : (s.tileOf k).bad = .empty) (hl : (s.tileOf k).landingAt off = none) :
    completes i s requestFields fun t => t.hasServed c fr.dstConn.toNat fr ∧ s.tileBecomes k ((s.tileOf k).writeBytes st o fr.payload) t := by
  obtain ⟨⟨⟨od, ports, nodes, conns, hform⟩, -, -⟩, -⟩ := State.accepted_form h.frame
  have htile : (s.accepted port fr).tileOf k = s.tileOf k := by rw [hform]; rfl
  have hw := State.writeTarget_tile (y := s.accepted port fr) (a := fr.addr.toNat) (by rw [hform]; exact hc) ho (by rw [htile]; exact hb) (by rw [htile]; exact hl)
    fr.payload
  rw [htile] at hw
  exact completes_write_tile h ht hw

/-- A frame of one line. -/
theorem State.frameIn_length {op : Nat} (h : s.frameIn port fr op c) : fr.payload.length = fr.length.toNat := by
  have hmal := h.2.2.1
  unfold State.malformed at hmal
  by_contra hn
  have hne : (fr.length.toNat != fr.payload.length) = true := bne_iff_ne.2 (Ne.symm hn)
  rw [hne] at hmal
  simp at hmal

theorem completes_oraWriteFrame_lands {st : StoreSel} {r : Nat} {g : RegionSt} {u : Tile} (h : s.requests i port fr 2 c)
    (hc : s.copyTile fr.addr.toNat = some (k, off)) (ht : frTagged fr = false) (hl : (s.tileOf k).landingAt off = some (st, r, g))
    (hn : fr.length.toNat = 64) (hu : (s.tileOf k).landLine st r fr.payload true = .landed u) :
    completes i s requestFields fun t => t.hasServed c fr.dstConn.toNat fr ∧ s.tileBecomes k u t := by
  obtain ⟨⟨⟨od, ports, nodes, conns, hform⟩, -, -⟩, -⟩ := State.accepted_form h.frame
  have htile : (s.accepted port fr).tileOf k = s.tileOf k := by rw [hform]; rfl
  exact completes_write_tile h ht (State.writeTarget_landed (by rw [hform]; exact hc) (by rw [htile]; exact hl) ((State.frameIn_length h.frame).trans hn)
    (by rw [htile]; exact hu))

theorem completes_oraWriteFrame_waits {st : StoreSel} {r : Nat} {g : RegionSt} (h : s.requests i port fr 2 c)
    (hc : s.copyTile fr.addr.toNat = some (k, off)) (hl : (s.tileOf k).landingAt off = some (st, r, g))
    (hn : fr.length.toNat = 64) (hu : (s.tileOf k).landLine st r fr.payload true = .waits) :
    completes i s requestFields fun t => ∃ x, t.conns.find fr.dstConn.toNat = some x ∧ x.landing = some (fr, 0) ∧ x.granted = c.granted := by
  obtain ⟨⟨⟨od, ports, nodes, conns, hform⟩, -, -⟩, hconn⟩ := State.accepted_form h.frame
  obtain ⟨lp, hlp⟩ : ∃ lp, (c.creditIn fr.credit.toNat).lp = lp := ⟨_, rfl⟩
  rw [hlp] at hconn
  have htile : (s.accepted port fr).tileOf k = s.tileOf k := by rw [hform]; rfl
  have hw := State.writeTarget_waits (y := s.accepted port fr) (a := fr.addr.toNat) (by rw [hform]; exact hc) (by rw [htile]; exact hl)
    ((State.frameIn_length h.frame).trans hn) (by rw [htile]; exact hu)
  have happly := State.applyOra_write_waits hconn h.frame.1 hw
  have hstall : ((s.accepted port fr).prioStall k).conns = (s.accepted port fr).conns := rfl
  have hx := State.conn_connMap_same (s := (s.accepted port fr).prioStall k) (hstall.symm ▸ hconn) fun y => { y with landing := some (fr, 0) }
  rw [← happly] at hx
  obtain ⟨⟨a, b, d, hy⟩, -⟩ := State.ackFor_outcome hx fr
  exact completes_of (exec_request h.exec h.frame h.takes) h.step (by decide) ⟨_, hy, rfl, rfl⟩

end

/-! ### Held frames (R267) -/

/-- A WRITE without a counter returns its credit, and no landing goes on. -/
theorem State.writeDone_untagged {x : State} {id : Nat} {k : Conn} (hc : x.conns.find id = some k) (ht : frTagged fr = false) :
    (∃ v, (x.writeDone id fr).conns.find id = some { k with landing := none, granted := (k.granted + frCost fr) % 2 ^ 32, ackAt := v }) ∧
      Step 35184372088832 x (x.writeDone id fr) := by
  obtain ⟨v, hv⟩ := State.raiseLimit_conn (s := x.connMap id fun y => { y with landing := none }) (State.conn_connMap_same hc _) (frCost fr)
  have hdone : x.writeDone id fr = (x.connMap id fun y => { y with landing := none }).raiseLimit id (frCost fr) := if_neg (by rw [ht]; decide)
  rw [hdone]
  exact ⟨⟨v, hv⟩, State.raiseLimit_step (State.connMap_step (Step.refl _ x) (by decide)) (by decide)⟩

theorem completes_heldFrameApply {conn : ConnId} {f : OraFrame} (hc : s.conns.find conn.val = some c) (hst : c.st = .opened) (hnext : s.heldNext c = some f)
    (hlate : ∀ r ∈ c.late, ∃ o, c.answeredBy r = some o ∧ s.respWaits o r = true) (hrecv : (c.recvs.find? fun r => !r.done).any s.recvReady = false)
    (hland : c.landing = none) (hb : s.tier1Bad = .empty) (hsyn : s.syndrome c f = 0) (hop : f.opcode.toNat = 2) (ht : s.copyTile f.addr.toNat = none)
    (htag : frTagged f = false) :
    completes (.heldFrameApply conn) s (entryFields ++ ([.frames, .suspects, .tiles, .conns, .wrs, .ctrs, .ports] : List Field)) fun t =>
      t.tier1 = s.tier1.writeBytes f.addr.toNat f.payload ∧ ∃ x, t.conns.find conn.val = some x ∧
        x.granted = (c.granted + frCost f) % 2 ^ 32 ∧ x.held = c.held.filter fun h => h.psn != f.psn := by
  obtain ⟨y, hy⟩ : ∃ y, y = s.connMap conn.val fun x => { x with held := x.held.filter fun h => h.psn != f.psn } := ⟨_, rfl⟩
  have hyc : y.conns.find conn.val = some { c with held := c.held.filter fun h => h.psn != f.psn } := by
    rw [hy]
    exact State.conn_connMap_same hc _
  have hplant : s.samePlant y := by
    rw [hy]
    exact ⟨⟨s.od, s.ports, s.nodes, _, rfl⟩, rfl, rfl⟩
  have hsyny : y.syndrome c f = 0 := (State.samePlant_syndrome hplant ⟨rfl, rfl, rfl, rfl⟩ f).trans hsyn
  obtain ⟨⟨od, ports, nodes, conns, hform⟩, -, -⟩ := hplant
  obtain ⟨x, hx⟩ : ∃ x, x = y.tierWrite f.addr.toNat f.payload := ⟨_, rfl⟩
  have happly : y.applyOra conn.val f 0 = x.writeDone conn.val f := by
    rw [hx]
    exact State.applyOra_write_done hyc hop (State.writeTarget_tier (by rw [hform]; exact ht) _ _)
  rw [State.tierWrite_sound (by rw [hform]; exact hb)] at hx
  have hxc : x.conns.find conn.val = some { c with held := c.held.filter fun h => h.psn != f.psn } := by
    rw [hx]
    exact hyc
  have hxt : x.tier1 = s.tier1.writeBytes f.addr.toNat f.payload := by rw [hx, hform]
  obtain ⟨⟨v, hv⟩, hstep⟩ := State.writeDone_untagged (fr := f) hxc htag
  have hexec : exec (.heldFrameApply conn) s = .next (if ((frFinal f) || (frTagged f) || (frSolicit f)) &&
      !(((x.writeDone conn.val f).conns.find conn.val).any fun x => x.landing.isSome) then (x.writeDone conn.val f).sendAck conn.val else x.writeDone conn.val f) := by
    have hnolate : (c.late.find? fun f => (c.answeredBy f).all fun o => !s.respWaits o f) = none := List.find?_eq_none.2 fun r hr => by
      obtain ⟨o, ho, hw⟩ := hlate r hr
      rw [ho, Option.all_some, hw]
      decide
    show execHeldFrameApply conn s = _
    unfold execHeldFrameApply
    simp only [hc]
    refine (whenDue_true (by rw [hst]; rfl) _ _).trans (congrArg Host.Outcome.next ?_)
    unfold State.heldNext at hnext
    unfold State.heldStep
    simp only [hnolate, hrecv, hland, hnext]
    rw [if_neg (by decide), ← hy]
    unfold State.applyHeld
    dsimp only
    rw [if_neg (fun hn => hn hsyny), happly]
  rw [hv, Option.any_some] at hexec
  by_cases hack : (((frFinal f) || (frTagged f) || (frSolicit f)) && !(none : Option (OraFrame × Nat)).isSome) = true
  · rw [if_pos hack] at hexec
    have hsend := State.sendAck_step (x1 := conn.val) (Step.refl 598134329704448 (x.writeDone conn.val f)) (by decide)
    refine completes_of hexec (exec_heldFrameApply s) (by decide) ⟨?_, _, (State.sendAck_outcome hv).1, rfl, rfl⟩
    rw [hsend.tier1 (by decide), hstep.tier1 (by decide), hxt]
  · rw [if_neg hack] at hexec
    exact completes_of hexec (exec_heldFrameApply s) (by decide) ⟨(hstep.tier1 (by decide)).trans hxt, _, hv, rfl, rfl⟩

end

end Sys2Proof.Machine

namespace Sys2Proof.Proofs
open Sys2Proof.Machine

/-- Settles O36: each request by what it leaves at its target and of its connection, a read or atomic by its answer, a held frame by its application. -/
theorem oraRequests : Obligations.OraRequests := by
  unfold Obligations.OraRequests
  refine ⟨fun s port fr c ht hb => ?_, fun s conn c f hc hst hnext hlate hrecv hland hb hsyn hop ht htag =>
    completes_heldFrameApply hc hst hnext hlate hrecv hland hb hsyn hop ht htag⟩
  refine ⟨fun h r hk htag hc hw => completes_oraSendFrame ⟨rfl, exec_oraSendFrame s, h, ht, hb⟩ hk htag hc hw, fun h => ?_, fun hc => ?_⟩
  · have hreq : s.requests (.oraWriteFrame port fr) port fr 2 c := ⟨rfl, exec_oraWriteFrame s, h, ht, hb⟩
    exact ⟨fun hc => completes_oraWriteFrame_tier hreq hc, fun k off hc htag => ⟨fun st o ho hbad hl => completes_oraWriteFrame_tile hreq hc htag ho hbad hl,
      fun st r g u hl hn hu => completes_oraWriteFrame_lands hreq hc htag hl hn hu, fun st r g hl hn hu => completes_oraWriteFrame_waits hreq hc hl hn hu⟩⟩
  · exact ⟨fun h => completes_oraReadReqFrame ⟨rfl, exec_oraReadReqFrame s, h, ht, hb⟩ hc, fun h => completes_oraFaddFrame ⟨rfl, exec_oraFaddFrame s, h, ht, hb⟩ hc,
      fun h => completes_oraCasFrame ⟨rfl, exec_oraCasFrame s, h, ht, hb⟩ hc⟩

end Sys2Proof.Proofs
end
